-- ==== Sys2Proof/Word.lean ====
section
/-! DEFINITION. The word types of the machine (R2, R3): registers are 32 bits, multi-byte values are little-endian. -/
namespace Sys2Proof

/-- A 32-bit register or record word (R3). -/
abbrev Word := BitVec 32

/-- The smallest addressable unit. -/
abbrev Byte := BitVec 8

/-- A natural number as a register word, modulo 2^32. -/
def toWord (n : Nat) : Word := BitVec.ofNat 32 n

/-- A signed number as a register word in two's complement. -/
def intWord (i : Int) : Word := BitVec.ofInt 32 i

/-- A flag as bit 0 of a word. -/
def boolWord (b : Bool) : Word := if b then 1#32 else 0#32

/-- A flag as the number 1 or 0. -/
def bit (b : Bool) : Nat := if b then 1 else 0

end Sys2Proof
end

