-- ==== Sys2Proof/Machine/Mem.lean ====
section
/-! DEFINITION. Sparse memories: lists of (key, value) in one canonical form, with a default for every unlisted key. -/
namespace Sys2Proof.Machine

/-- A memory of `w`-bit cells. Keys rise strictly and no entry holds what an unlisted key reads as. -/
abbrev Sparse (w : Nat) := List (Nat × BitVec w)

/-- What key `a` reads as, where `d` says what an unlisted key reads as. [Log 6, DESIGN CHOICE, unsafe] -/
def memGet {w : Nat} (d : Nat → BitVec w) : Sparse w → Nat → BitVec w
  | [], a => d a
  | (k, v) :: m, a => if k = a then v else if a < k then d a else memGet d m a

/-- Put the entry (a, v) in front of `m`, unless it is what `a` reads as anyway. -/
def memCons {w : Nat} (d : Nat → BitVec w) (a : Nat) (v : BitVec w) (m : Sparse w) : Sparse w :=
  if v = d a then m else (a, v) :: m

/-- Write `v` at key `a`, keeping the canonical form. -/
def memSet {w : Nat} (d : Nat → BitVec w) : Sparse w → Nat → BitVec w → Sparse w
  | [], a, v => memCons d a v []
  | (k, u) :: m, a, v =>
    if a < k then memCons d a v ((k, u) :: m)
    else if k = a then memCons d a v m
    else (k, u) :: memSet d m a v

/-- Every key of `m` lies above `a`. -/
def memAbove {w : Nat} (a : Nat) : Sparse w → Bool
  | [] => true
  | (k, _) :: _ => a < k

/-- The canonical form: keys strictly rising, no entry equal to the default. -/
def memWf {w : Nat} (d : Nat → BitVec w) : Sparse w → Bool
  | [] => true
  | (k, v) :: m => v != d k && memAbove k m && memWf d m

/-- Write a run of values at keys `a`, `a + step`, … -/
def memSetRun {w : Nat} (d : Nat → BitVec w) (step : Nat) : Sparse w → Nat → List (BitVec w) → Sparse w
  | m, _, [] => m
  | m, a, v :: vs => memSetRun d step (memSet d m a v) (a + step) vs

/-- Read `n` values from keys `a`, `a + step`, … -/
def memGetRun {w : Nat} (d : Nat → BitVec w) (step : Nat) (m : Sparse w) : Nat → Nat → List (BitVec w)
  | _, 0 => []
  | a, n + 1 => memGet d m a :: memGetRun d step m (a + step) n

/-- The default of a memory that reads as zero where nothing is listed. [Log 6, DESIGN CHOICE, unsafe] -/
def zeroCell {w : Nat} (_ : Nat) : BitVec w := 0

/-- An erased flash byte. [Log 6, DESIGN CHOICE, unsafe] -/
def erasedCell (_ : Nat) : BitVec 8 := 0xFF#8

end Sys2Proof.Machine
end

