-- ==== Sys2Proof/Types.lean ====
section
/-! DEFINITION. The plain data that commands carry: frames, messages, readings. Each structure cites the rule of spec/ whose layout it follows. -/
namespace Sys2Proof

/-- R270: the side of a device in a twin pair. -/
inductive Side where
  | cope | drag
  deriving DecidableEq, Repr

/-- The levels of the straps that every device reset latches (R521). -/
structure Straps where
  side : Side
  testEn : Bool
  deriving DecidableEq, Repr

/-- R89, ORD_SOURCES word 0: the transports an order source may use. -/
inductive Transport where
  | hostBox | app0Box | app1Box | udp | can
  deriving DecidableEq, Repr

/-- R81: an order as it stands in the agreed set: the frame's fields (its CODE is the command's row) with the transport,
address and port it came from and its stamp. `crcOk`: the frame's CRC matched. -/
structure OrderIn where
  transport : Transport
  address : Word
  port : Nat
  format : Nat
  target : Nat
  source : Nat
  seq : Nat
  ladleEp : Nat
  stateEp : Nat
  args : List Word
  crcOk : Bool
  stamp : Nat
  deriving DecidableEq, Repr

/-- R279: an input of a side with its item header. `cls` and `num` are the class and number of SOURCE. -/
structure Item where
  side : Side
  cls : Nat
  num : Nat
  epoch : Nat
  last : Nat
  first : Nat
  arrival : Nat
  data : List Word
  deriving DecidableEq, Repr

/-- What boot steps 1 to 5 find in the hardware (R54, R68). `failedBanks`: SRAM banks that fail the march test.
`sfdp`: 0 the flash does not answer, 1 no octal DDR, 2 octal DDR. `diodes`: the four diode readings, 0.1 °C. -/
structure BootTests where
  pllLocks : Bool
  keeperPasses : Bool
  failedBanks : List Nat
  mramCrcOk : Bool
  sfdp : Nat
  diodes : List Int
  deriving DecidableEq, Repr

/-- R49, R50: the public key of an Ed25519 verification: the Dolren root key in keeper ROM, which the manual does not give, or given key bytes. -/
inductive SigKey where
  | dolrenRoot
  | key (bytes : List Byte)
  deriving DecidableEq, Repr

/-- R49: an Ed25519 signature that verifies: key, message and signature. -/
structure Signed where
  key : SigKey
  message : List Byte
  sig : List Byte
  deriving DecidableEq, Repr

/-- What the streaming read of a slot and boot steps 7 to 10 find that is no function of the image bytes alone: which Ed25519 signatures
verify (RFC 8032, R49, R50) and which units fail their start-up self-tests (R54, R68). -/
structure StartTests where
  verified : List Signed
  mouldsLoad : Bool
  failedLanes : List Nat
  failedChannels : List Nat
  failedPairs : List Nat
  retestPassed : List Nat
  deriving DecidableEq, Repr

/-- R111, R114: the values one tracking channel latches at the freeze. `elev` is the satellite's elevation in 0.1°, which the
firmware compares with GNS_ELEV_MASK (R101). -/
structure ChannelLatch where
  chan : Nat
  elev : Int
  cn0 : Nat
  txTime : Nat
  adr : Int
  doppler : Int
  mp : Int
  deriving DecidableEq, Repr

/-- A satellite of a side's receiver by its ephemeris: system 0 GPS, 1 Galileo, 2 BeiDou, 3 GLONASS, 4 QZSS, 5 NavIC, 6 SBAS; elevation and azimuth
in 0.1°. `decoded`: a channel has decoded its ephemeris in this epoch. -/
structure NavSat where
  sys : Nat
  sv : Nat
  elev : Int
  azim : Int
  decoded : Bool
  deriving DecidableEq, Repr

/-- R116: the offset of a system from GPS time as estimated and as the system broadcasts it, in ps. -/
structure NavOffset where
  sys : Nat
  estimate : Int
  broadcast : Int
  deriving DecidableEq, Repr

/-- R117: the ambiguity search of a baseline from ANT0: its ratio in 0.1 and the fixed length in mm. -/
structure NavBaseline where
  ant : Nat
  ratio : Nat
  length : Int
  deriving DecidableEq, Repr

/-- R115 to R120: what the satellites' signals give the solution of a side in one cycle beside its measurement block: whether a solution exists, the
clock bias in ns (source time minus working time), the leap seconds, and what ephemerides and estimates hold. -/
structure NavSolution where
  side : Side
  valid : Bool
  clockBias : Int
  leapSeconds : Option Nat
  sats : List NavSat
  offsets : List NavOffset
  baselines : List NavBaseline
  deriving DecidableEq, Repr

/-- R96: a sample of a stream: its index in the snapshot, and I and Q as the values 1, 3, −1 and −3. -/
structure IqSample where
  stream : Nat
  index : Nat
  i : Int
  q : Int
  deriving DecidableEq, Repr

/-- R275: a HELLO frame. -/
structure Hello where
  serial : Nat
  side : Side
  patternId : List Word
  seq : Nat
  execId : Nat
  state : Nat
  bootStep : Nat
  stateEp : Nat
  ladleEp : Nat
  nonce : Nat
  deriving DecidableEq, Repr

/-- R287: a COMPARE frame. -/
structure CompareMsg where
  epoch : Nat
  thrust : List Word
  angle : List Word
  digest : Word
  deriving DecidableEq, Repr

/-- R288: a VERDICT frame, with the failed checks that the trailer of the State Image shows. -/
structure VerdictMsg where
  pass : Bool
  equal : Bool
  lockstep : Bool
  ecc : Bool
  solver : Bool
  checks : Nat
  deriving DecidableEq, Repr

/-- R272: the header of a twin-link frame: payload length, sequence number, acknowledged sequence number and the credits of the four channels.
`lane`: the lane it came on; `crcOk`: its CRC matched. -/
structure TwinHeader where
  lane : Nat
  length : Nat
  seq : Nat
  ack : Nat
  credits : List Nat
  crcOk : Bool
  deriving DecidableEq, Repr

/-- The paths of a renewal (R291); on the twin link it is a frame with a header. -/
inductive Path where
  | twin (header : TwinHeader)
  | lanA | lanB
  deriving DecidableEq, Repr

/-- R352: a time marker of the partner with this device's arrival stamp and own send stamp. -/
structure Marker where
  sendT : Nat
  rxT : Nat
  ownSend : Nat
  arrival : Nat
  step : Int
  stepSec : Nat
  crcOk : Bool
  deriving DecidableEq, Repr

/-- R379, R378: a register service request. -/
structure SvcReq where
  client : Nat
  op : Nat
  seq : Nat
  addr : Nat
  count : Nat
  data : List Word
  magicOk : Bool
  crcOk : Bool
  port : Nat
  stamp : Nat
  deriving DecidableEq, Repr

/-- R441: an Eloaset packet. `data` holds the packet's words. -/
structure Packet where
  dst : Nat
  src : Nat
  typ : Nat
  hops : Nat
  seq : Nat
  fEpoch : Nat
  data : List Word
  deriving DecidableEq, Repr

/-- R435: the header of an Eloaset frame: virtual channel, sequence number, acknowledged sequence number and the credits of the four channels. `crcOk`: the
frame's CRC matched. -/
structure LinkHeader where
  vc : Nat
  seq : Nat
  ack : Nat
  credits : List Nat
  crcOk : Bool
  deriving DecidableEq, Repr

/-- R393: a serial sentence as it came off the line, with its characters (start character to the last before CR LF). -/
structure Sentence where
  chars : List Byte
  charErr : Bool
  overflow : Bool
  first : Nat
  last : Nat
  deriving DecidableEq, Repr

/-- R382, R384: a received CAN frame. -/
structure CanFrame where
  id : Nat
  ide : Bool
  fdf : Bool
  brs : Bool
  esi : Bool
  rtr : Bool
  dlc : Nat
  data : List Byte
  sof : Nat
  eof : Nat
  deriving DecidableEq, Repr

/-- R398, R399, R401, R402: what a field channel's front end delivers in one output period: the 5-level codes of its modulator, the working times of the
edges of a frequency input, or the levels of lines A and B after each edge of an encoder. -/
inductive FieldInput where
  | codes (l : List Int)
  | edges (l : List Nat)
  | lines (l : List (Bool × Bool))
  deriving DecidableEq, Repr

/-- R367, R368, R371, R372: what the device handles of an Ethernet frame. -/
inductive EthPayload where
  | arpReply (ip mac : Nat)
  | arpRequest (ip : Nat)
  | icmpEcho
  | fragment
  | other
  | udp (src srcPort dstPort : Nat) (payload : List Byte)
  deriving DecidableEq, Repr

/-- An Ethernet frame at a port, with its MAC receive stamp: its length in bytes and its IEEE 802.1Q tags (R367). `prp`: the sequence number of a valid
redundancy trailer. -/
structure EthFrame where
  port : Nat
  length : Nat
  tags : Nat
  fcsOk : Bool
  broadcast : Bool
  multicast : Bool
  joined : Bool
  isArp : Bool
  srcMac : Nat
  prp : Option Nat
  payload : EthPayload
  stamp : Nat
  deriving DecidableEq, Repr

/-- R375: what the best master clock algorithm of IEEE 1588-2019 compares of a grandmaster. -/
structure PtpClock where
  priority1 : Nat
  cls : Nat
  accuracy : Nat
  variance : Nat
  priority2 : Nat
  identity : Nat
  deriving DecidableEq, Repr

/-- R375: an Announce received on a port, with its grandmaster and its sender's clock and port identity. -/
structure Announce where
  domain : Nat
  port : Nat
  ptpTimescale : Bool
  utcOffset : Nat
  leap61 : Bool
  leap59 : Bool
  gm : PtpClock
  steps : Nat
  sender : Nat
  senderPort : Nat
  deriving DecidableEq, Repr

/-- R482: one hourly reading of a die: ring-oscillator change (0.01 %) and least critical-path slack as measured (ps). -/
structure DieReading where
  roDelta : Int
  slack : Int
  deriving DecidableEq, Repr

end Sys2Proof
end

