-- ==== Sys2Proof/Machine/PartsNav.lean ====
section
/-! DEFINITION. State of the navigation baseband and of sensor fusion. Every field's default is its value right after reset. -/
namespace Sys2Proof.Machine

/-- R98, R99: a satellite signal at an antenna. `gloK` is k + 8 for GLONASS, else 0. -/
structure Triple where
  sig : Nat := 0
  sv : Nat := 0
  ant : Nat := 0
  gloK : Nat := 0
  deriving DecidableEq, Repr

/-- R100, R109, R110: one tracking channel. `st` is a code of GNS_CH_CFG.STATE. `lockAt` is the elapsed time at which tracking started.
`lost`: lock is lost, and the channel is released at the next freeze; `failedAt`: the freeze at which a per-signal check last failed (R121). -/
structure GChan where
  st : Nat := 0
  triple : Triple := {}
  codeOk : Bool := false
  phaseOk : Bool := false
  halfRes : Bool := false
  towOk : Bool := false
  slip : Bool := false
  slipCnt : Nat := 0
  lockAt : Nat := 0
  suspect : Bool := false
  failedAt : Nat := 0
  lost : Bool := false
  deriving DecidableEq, Repr

/-- R105, R106: a detection that waits for its confirmation dwell, with the Doppler bin of its highest cell. -/
structure Detection where
  triple : Triple
  blocks : Nat
  warm : Bool
  bin : Nat
  deriving DecidableEq, Repr

/-- R118: a notch: the strength of its line above the median bin, 0.1 dB, its centre, and the elapsed time at which the line last stood less than 3 dB
below the threshold. -/
structure Notch where
  strength : Nat
  freq : Int
  seenAt : Nat
  deriving DecidableEq, Repr

/-- R124, R126: a snapshot capture: cause, trigger instant, first sample, samples per stream, epoch and GNS_CHECK at the trigger. -/
structure Snapshot where
  cause : Nat
  trigT : Nat
  firstT : Nat
  nsamp : Nat
  epoch : Nat
  checks : Word
  deriving DecidableEq, Repr

/-- R107: what a warm start needs: the elapsed time of the last own solution, its position, and for each satellite (64 × system + SV) the elapsed
time at which its ephemeris was decoded. -/
structure Aiding where
  fixAt : Option Nat := none
  position : List Int := []
  ephem : List (Nat × Nat) := []
  deriving DecidableEq, Repr

/-- R120: one epoch of a side as the clock and power checks look back on it: freeze, clock bias in ns, AGC gains of the streams, and the sum and count
of the C/N0 values. -/
structure NavEpoch where
  t : Nat
  bias : Int
  agc : List Nat
  cn0 : Nat
  count : Nat
  deriving DecidableEq, Repr

/-- R115: a side's solution of the cycle: position values, and attitude values. -/
structure NavFix where
  position : Option (List Int) := none
  attitude : Option (List Int) := none
  deriving DecidableEq, Repr

/-- R115 to R122: the checks and solutions that the fusion processors keep for both sides. `fails`: the freeze from which a test has failed without a
break, by test. `rxFailAt`: the freeze of the last failed receiver-level check of a side. `offsets`: estimate and broadcast value by 8 × side + system, in ps.
`baselines`: by 4 × side + antenna, whether a baseline that had been fixed is fixed. `corrections`: the last RTCM message by message number. `failing`: the failed
checks of a side in its last epoch, as GNS_CHECK [6:0]. -/
structure NavChk where
  fails : List (Nat × Nat) := []
  rxFailAt : List (Nat × Nat) := []
  offsets : List (Nat × Int × Int) := []
  epochs : List (Nat × List NavEpoch) := []
  baselines : List (Nat × Bool) := []
  corrections : List (Nat × List Word) := []
  failing : List (Nat × Nat) := []
  suspicion : List Nat := []
  deriving DecidableEq, Repr

/-- R95 to R127: the navigation baseband. `chans` lists the channels that are not unused; `handed` holds confirmed triples with their elevation, for the
next freeze; `samples` holds words of the capture memory's snapshot area (R123); `jamAt` is the elapsed time at which a noise floor last reached the
threshold. Elapsed times: `avgAt` of each stream's last average, `measAt` and `retryAt` of each antenna's last measurement and retry, `runAt` of the start of
tracking, `parkCheckAt` and `renewAt` of the last snapshot check and renewal in PARKED, or of its start. -/
structure Gns where
  chans : List (Nat × GChan) := []
  acq : List Triple := []
  detected : List (Nat × Detection) := []
  handed : List (Triple × Int) := []
  antOver : List (Nat × Nat) := []
  antRetry : List Nat := []
  noiseRef : List Nat := []
  jamAt : Nat := 0
  notches : List (Nat × Notch) := []
  lines : List (Nat × List (Int × Nat)) := []
  fixes : List (Nat × NavFix) := []
  chk : NavChk := {}
  capture : Option Snapshot := none
  held : Option Snapshot := none
  countedTwice : Bool := false
  samples : Sparse 32 := []
  block : List Word := []
  blockDone : Bool := false
  parkFails : Nat := 0
  renewing : Bool := false
  avgAt : List (Nat × Nat) := []
  measAt : List (Nat × Nat) := []
  retryAt : List (Nat × Nat) := []
  runAt : Nat := 0
  parkCheckAt : Nat := 0
  renewAt : Nat := 0
  aiding : Aiding := {}
  deriving DecidableEq, Repr

/-- R137: the tracker of a slot's own time: working time is own time `own` plus `offset` ns at `own`, with a skew in 0.001 ppm. -/
structure Tracker where
  own : Int
  offset : Int
  skew : Int
  deriving DecidableEq, Repr

/-- R132 to R158: one sensor slot. `st`: 1 usable, 2 timed out, 3 probation, 4 slagged. `lastAt`: completion stamp of the last decodable message by
side. `vals`: the aligned values by quantity; key 6 is a tracked target and key 7 a general value. `heldSince`: the freeze from which a slot has
been held out of the vote of a quantity. `departs`: the last five departures of its own time. `tracker` maps its own time. `deviation`: the deviations that
a GST sentence reported. Times are working ns. -/
structure FSlot where
  st : Nat := 1
  lastAt : List (Nat × Nat) := []
  vals : List (Nat × List Int) := []
  fresh : Bool := false
  held : Bool := false
  heldSince : List (Nat × Nat) := []
  reason : Nat := 0
  epoch : Nat := 0
  probUntil : Nat := 0
  sideDrag : Bool := false
  tbd : Bool := false
  departs : List Nat := []
  goodRun : Nat := 0
  tracker : Option Tracker := none
  deviation : List Nat := []
  nis : Nat := 0
  staleAt : Option Nat := none
  deriving DecidableEq, Repr

/-- R145 to R156: one voted quantity. `use`: cycles of continuous use by group. `out`: the freeze from which a group has been held out against the
prediction. `conflict`: the freeze at which the present conflict began. `dr`: the freeze at which dead reckoning
began. -/
structure Quant where
  init : Bool := false
  valid : Bool := false
  updated : Bool := false
  use : List (Nat × Nat) := []
  lead : Option Nat := none
  out : List (Nat × Nat) := []
  conflict : Option Nat := none
  dr : Option Nat := none
  reduced : Bool := false
  deriving DecidableEq, Repr

/-- R130 to R166: sensor fusion. `obs` is the observer's state and covariance, `history` that of the last 64 freezes, `innov` the velocity innovation (mm/s, 0.001°/s) of each freeze of the last CTL_MP_WINDOW_S, `pub` the 18 published values
in the order of R164. `refined` holds refined values by slot and axis, in 1/3,600,000 of their unit. `returns`: slots that leave the slag list at
the next freeze. `atBound`: refined values that have reached their bound. -/
structure Fus where
  slots : List (Nat × FSlot) := []
  quants : List Quant := [{}, {}, {}, {}, {}, {}]
  obs : List Int := []
  history : List (Nat × List Int) := []
  innov : List (Nat × List Int) := []
  pub : List Int := []
  refined : List (Nat × Int) := []
  atBound : List Nat := []
  returns : List Nat := []
  startAt : Nat := 0
  deriving DecidableEq, Repr

end Sys2Proof.Machine
end

