-- ==== Sys2Proof/Machine/PartsPlant.lean ====
section
/-! DEFINITION. State of the control law, thrust allocation and the solver array. Every field's default is its value right after reset. -/
namespace Sys2Proof.Machine

/-- R188, R190: a tuning injection. `startT` is the working time of its first freeze, `cycle` the number of the present cycle from 0,
`lfsr` the register of a PRBS. -/
structure Injection where
  target : Nat
  signal : Nat
  amp : Nat
  p4 : Nat
  p5 : Nat
  duration : Nat
  decim : Nat
  lfsr : Nat := 0
  started : Bool := false
  startT : Nat := 0
  cycle : Nat := 0
  value : Int := 0
  holder : Option Side := none
  deriving DecidableEq, Repr

/-- R167 to R193: the control law. Lengths are in 0.001 mm and angles in 0.001 of 0.001° where a comment says micro. `ref` is the reference (micro), `refWas`
that of the cycle before with what was added, `posed`: the control step of the cycle has moved the reference, `sent`: it has submitted its problem,
`integ` the integrals in 0.001 mm·ms and 0.000001°·ms, `setFused`: the reference and the set-point take the fused values of the cycle, `follow` the
last delivered reference: north, east (mm), heading (0.001°), their rates, `followFor` the instant it is valid for, `wffFrom` the feedforward at the start of a ramp, `ramp` its direction and start. -/
structure Ctl where
  ref : List Int := [0, 0, 0]
  refWas : List Int := [0, 0, 0]
  posed : Bool := false
  sent : Bool := false
  refAdd : List Int := [0, 0, 0]
  trackAt : Int := 0
  trackEnd : Bool := false
  tau : List Int := [0, 0, 0]
  plan : List (List Int) := []
  reuse : Nat := 0
  fixedGain : Bool := false
  regularised : Bool := false
  integ : List Int := [0, 0, 0]
  intHold : Bool := false
  bound : Bool := false
  dbPos : Bool := false
  dbHdg : Bool := false
  dbPosLeft : Bool := false
  dbHdgLeft : Bool := false
  wff : List Int := [0, 0, 0]
  wffFrom : List Int := [0, 0, 0]
  ramp : Option (Bool × Nat) := none
  windWas : Bool := false
  windSeen : Bool := false
  fePos : Option Nat := none
  feHdg : Option Nat := none
  mp : Option (Nat × Nat) := none
  follow : Option (List Int) := none
  followFor : Nat := 0
  followAt : Nat := 0
  setFused : Bool := false
  spNew : Bool := false
  inj : Option Injection := none
  stopCause : Option Nat := none
  capture : Sparse 32 := []
  samples : Nat := 0
  deriving DecidableEq, Repr

/-- R217 to R235: one scenario. `status` as R235, `ratio` in 0.001, `due` as R222, `below` the elapsed time from which every ratio lay below
ALC_SHAPE_OFF, `offHeld` once that has lasted ALC_SHAPE_HOLD_S, `moved`: evaluated in the last cycle, so that φ may change, `above`: the ratio of that evaluation exceeds ALC_SHAPE_ON, `wasOut`: outside at the
last pour, `slack` the post-failure slack of the latest evaluation. Excursions are in mm and 0.001°. -/
structure Scen where
  typ : Nat := 0
  object : Nat := 0
  status : Nat := 0
  excPos : Nat := 0
  excHdg : Nat := 0
  ratio : Nat := 0
  flags : Nat := 0
  phi : Nat := 0
  age : Nat := 0
  everTaken : Bool := false
  due : Bool := false
  stale : Bool := false
  below : Option Nat := none
  offHeld : Bool := false
  wasOut : Bool := false
  moved : Bool := false
  above : Bool := false
  slack : List Int := []
  deriving DecidableEq, Repr

/-- R203 to R232: one thruster: its commands in N and 0.001°, those of the previous pour, and its limits in the cycle. `edgeSince`: the zone whose edge
binds, whether it binds clockwise, and since when. `swing`: the zone it swings round, and whether clockwise. -/
structure Thr where
  avail : Bool := false
  ready : Bool := true
  thrust : Int := 0
  angle : Int := 0
  prevThrust : Int := 0
  prevAngle : Int := 0
  tLim : Bool := false
  rateLim : Bool := false
  azLim : Bool := false
  edge : Option (Nat × Bool × Nat) := none
  swing : Option (Nat × Bool) := none
  deriving DecidableEq, Repr

/-- R203 to R237: thrust allocation and scenarios. `gens` and `ties`: the generators online and the ties closed in the cycle, `gensNext` and `tiesNext`
those of the next. `loopOut`: thrusters that a loop slot fault makes unavailable at the next freeze. `box` is empty before the first pour.
`posed`: the step of the cycle has been planned, with the scenarios `taken`, the shaping constraints `shape` and the fallback thrusts `fb`; `tags`: the
problems that the cycle has submitted. -/
structure Alc where
  thrs : List (Nat × Thr) := []
  scens : List Scen := []
  next : Nat := 1
  cover : Nat := 0
  evaluated : Nat := 0
  nshape : Nat := 0
  reduced : Bool := false
  advisory : Bool := false
  regularised : Bool := false
  fallback : Option Nat := none
  slack : List Int := [0, 0, 0]
  shortAxes : List Nat := []
  box : List Nat := []
  limited : Bool := false
  gens : List Nat := []
  ties : List Nat := []
  gensNext : List Nat := []
  tiesNext : List Nat := []
  posed : Bool := false
  taken : List Nat := []
  shape : List Nat := []
  fb : List (Nat × Int) := []
  tags : List Nat := []
  loopOut : List Nat := []
  deriving DecidableEq, Repr

/-- R257: a command that waits in the solver's queue: a submission of a descriptor by a master, or a fill. -/
inductive SlvCmd where
  | submit (ofs master : Nat)
  | fill (ofs : Nat)
  deriving DecidableEq, Repr

/-- R249 to R264: the problem last submitted under a tag. `copy` is the number of the mould copy it uses and `mats` that copy's contents, `warm` the active
constraints of its warm-start record, `dataOfs` where its data block stands. -/
structure Prob where
  status : Nat := 0
  mould : Nat := 0
  flags : Nat := 0
  lane : Nat := 0
  resOfs : Nat := 0
  deadline : Nat := 0
  nodl : Bool := false
  copy : Nat := 0
  restarted : Bool := false
  dataOfs : Nat := 0
  mats : Sparse 32 := []
  warm : List Nat := []
  deriving DecidableEq, Repr

/-- R243 to R262: a mould. `head` holds header words 1, 2, 4 and 5, `exps` the exponent table. `live` holds the entries of the stored blocks, 256 per block in map order, and
`staging` those with fills not yet promoted. `copy` numbers the live copy. -/
structure Mould where
  head : List Word := []
  hash : Word := 0#32
  map : List Nat := []
  exps : List Int := []
  live : Sparse 32 := []
  staging : Option (Sparse 32) := none
  copy : Nat := 0
  pages : Nat := 0
  deriving DecidableEq, Repr

/-- R238 to R268: the solver array. `order` holds the queued tags, first to start first. `toRetire`: lanes that leave service at the next freeze.
`owed`: clusters that wait for a spare. `ready`: a spare that passed its known-answer problem. `laneMem`: what each lane's local memory holds of the problem it runs, its data block. -/
structure Slv where
  queue : List SlvCmd := []
  probs : List (Nat × Prob) := []
  order : List Nat := []
  moulds : List (Nat × Mould) := []
  laneMem : List (Nat × List Word) := []
  faulted : List Nat := []
  toRetire : List Nat := []
  owed : List Nat := []
  ready : Option Nat := none
  lanesUsed : List Nat := []
  stopped : Nat := 0
  ovfNow : List Nat := []
  ovfLast : List Nat := []
  clampAt : List (Nat × Nat) := []
  headWarned : List Nat := []
  deriving DecidableEq, Repr

end Sys2Proof.Machine
end

