-- ==== Sys2Proof/Machine/TwinState.lean ====
section
/-! DEFINITION. The twin state (R300): what two in-step devices hold in common and the agreed inputs alone do not rebuild. The manual fixes what is
carried, not its layout in STATE frames: each part of the state travels whole. -/
namespace Sys2Proof.Machine

/-- R300: the parts of the twin state. `base` is the sender's elapsed time at the freeze of the copied cycle: elapsed stamps in the part are
counted from it. `block` lists the fillable entries of a mould, `record` the words of the warm-start
record. -/
inductive TwinChunk where
  | epochs (stateEp ladleEp : Nat)
  | mode (mode : Nat) (newMode ownNew : Option Nat) (setPoint joystick : List Int) (track follow : Option (List Int)) (joyLost : Bool)
  | command (source : Nat) (lastSeq : List (Nat × Nat)) (responses : List (Nat × List Word)) (acked : List Nat) (availNext : List (Nat × Bool))
  | tunables (values next : List (Nat × Word))
  | conditions (base : Nat) (since : List (Nat × Nat)) (expired : List Nat) (joyAt : Nat)
  | fusion (base : Nat) (fus : Fus)
  | control (base : Nat) (ctl : Ctl)
  | allocation (base : Nat) (alc : Alc)
  | mould (id : Nat) (block : List (Nat × Word))
  | warm (record : List Word)
  | gnss (base : Nat) (aiding : Aiding) (checks : NavChk)
  | formation (epoch : Nat) (units : List (Nat × List Word))
  deriving DecidableEq, Repr

/-- An elapsed stamp of the sender as one of the receiver, whose elapsed time at the same freeze is `own`. [Log 32, DESIGN CHOICE, unsafe] -/
def shiftStamp (own base t : Nat) : Nat := own + t - base

/-- The elapsed stamps of sensor fusion. [Log 32, DESIGN CHOICE, unsafe] -/
def Fus.shift (f : Fus) (own base : Nat) : Fus :=
  { f with slots := f.slots.map (fun e => (e.1, { e.2 with staleAt := e.2.staleAt.map (shiftStamp own base) })) }

/-- The elapsed stamps of what a GNSS warm start needs. -/
def Aiding.shift (a : Aiding) (own base : Nat) : Aiding :=
  { a with fixAt := a.fixAt.map (shiftStamp own base), ephem := a.ephem.map (fun e => (e.1, shiftStamp own base e.2)) }

/-- The elapsed stamps of the control law. [Log 32, DESIGN CHOICE, unsafe] -/
def Ctl.shift (c : Ctl) (own base : Nat) : Ctl :=
  { c with
    ramp := c.ramp.map (fun r => (r.1, shiftStamp own base r.2))
    fePos := c.fePos.map (shiftStamp own base)
    feHdg := c.feHdg.map (shiftStamp own base)
    mp := c.mp.map (fun r => (r.1, shiftStamp own base r.2))
    followAt := shiftStamp own base c.followAt }

/-- The elapsed stamps of thrust allocation. [Log 32, DESIGN CHOICE, unsafe] -/
def Alc.shift (a : Alc) (own base : Nat) : Alc :=
  { a with
    thrs := a.thrs.map (fun e => (e.1, { e.2 with edge := e.2.edge.map (fun x => (x.1, x.2.1, shiftStamp own base x.2.2)) }))
    scens := a.scens.map (fun (x : Scen) => { x with below := x.below.map (shiftStamp own base) }) }

end Sys2Proof.Machine
end

