-- ==== Sys2Proof/Syntax.lean ====
section
/-! DEFINITION. The commands of the block: one constructor per row of spec/opcode_table.json. The table gives no operands; each
constructor carries what its rule says arrives from outside (a frame, a reading, a written value, a unit number). -/
namespace Sys2Proof

inductive Instr where
  /-- R64: VIN rises through its threshold; all dies reset, the power-cycle count increments and the power die starts the rails. -/
  | powerOnReset (straps : Straps)
  /-- R519: VIN falls through 2.45 V; PWRGOOD falls and every pin takes its reset state. -/
  | vinFall
  /-- R64: nRST is held low for 1 µs or longer and resets all dies, the S-die included. -/
  | nrst (widthNs : Nat) (straps : Straps)
  /-- R64: The keeper has not serviced its watchdog for 100 ms; the C-die, RF die and field die are reset while the S-die holds the safe state. -/
  | keeperWatchdog (straps : Straps)
  /-- R64: After the pour of an accepted RESET order, the named side resets as a keeper watchdog reset does. -/
  | orderedReset (straps : Straps)
  /-- R433: A write of 1 to KPR_APPCTL.APP0_RST resets APP0 and its target, reloads its own segments and restarts it at its entry. -/
  | app0Rst (master : Nat)
  /-- R433: A write of 1 to KPR_APPCTL.APP1_RST resets APP1 and its target, reloads its own segments and restarts it at its entry. -/
  | app1Rst (master : Nat)
  /-- R518: Every internal rail comes into regulation and PWRGOOD rises. -/
  | pwrgoodRise
  /-- R67: REFIN first becomes present and the keeper may start; this instant can set time 0. -/
  | refinPresent
  /-- R19: REFIN shows no edge for 1 µs; REFIN_OK clears, the PLL is held, Ladle renewal stops and SAFE follows. -/
  | refinMissing
  /-- R19: The root PLL loses lock; PLL_LOCK clears, renewal stops and SAFE follows. -/
  | pllUnlock
  /-- R18: An S-die 1 ms check-clock window ends; after two consecutive failures the global safe state is forced. -/
  | clockMonitorWindow (count : Nat)
  /-- R513: VFLD has stayed above 11.5 V for 10 ms and counts as present. -/
  | vfldPresent
  /-- R336: VFLD has stayed below 11.0 V for 10 ms; alarm 0x0A12 is raised. -/
  | vfldLow
  /-- R54: At time 0 the boot sequence starts with PLL lock, keeper test, SRAM test, MRAM read, SFDP read and the slot header checks. -/
  | bootStart (tests : BootTests)
  /-- R51: A streaming read of a slot ends and stages 5 to 9 are judged; on failure the other slot is streamed. -/
  | slotStreamEnd (tests : StartTests)
  /-- R57: ARMED is not reached within 5.0 s (30.0 s without octal DDR); the boot stops with alarm 0x0107 and the device enters SAFE. -/
  | bootTimeout
  /-- R277: The boot-step-11 wait for the partner ends and the device enters ARMED out of step. -/
  | twinWaitEnd
  /-- R26: Compare unit 0 starts a cycle: the state epoch increments, GNSS is latched, mode changes and retirements take effect, and the first freeze takes T1. -/
  | cycleFreeze (latch : List ChannelLatch)
  /-- R112: BASEBAND_DMA completes the epoch's measurement block in SRAM. -/
  | measurementBlockWrite (stamp : Nat)
  /-- R404: At freeze + 1.40 ms each cycle-input field channel sends its newest sample as an item. -/
  | fieldItemSend
  /-- R281: At freeze + 1.440 ms each side fixes its own items and sends CLOSE with their count and digest. -/
  | closeTick
  /-- R281: At freeze + 1.470 ms the lead side decides the inclusion mask and sends AGREE. -/
  | agreeDecide
  /-- R281: At freeze + 1.500 ms the other side checks AGREE and the digest, and leaves step on failure. -/
  | agreeCheck
  /-- R142: Fusion aligns, votes, gates and updates the observer on the agreed set, and predicts to the pour. -/
  | fusionStep (nav : List NavSolution)
  /-- R143: TIMEOUT_MS passes without a decodable message and the slot times out. -/
  | slotTimeout (slot : Nat)
  /-- R152: A slot held out for FUS_GATE_PERSIST_MS goes to the slag list. -/
  | gatePersistExpiry (slot : Nat)
  /-- R149: A conflict lasts FUS_GATE_PERSIST_MS and the non-lead source is provisionally slagged. -/
  | conflictPersistExpiry (quantity : Nat)
  /-- R158: A slot passes FUS_PROBATION_S (or FUS_RESUME_S) without a gate failure and becomes usable. -/
  | probationEnd (slot : Nat)
  /-- R154: Dead reckoning exceeds FUS_DR_VALID_S and the fused position or heading becomes invalid. -/
  | drValidExpiry (heading : Bool)
  /-- R92: DR_LIMIT_S of the mode expires and DR_ACTION applies. -/
  | drLimitExpiry (heading : Bool)
  /-- R167: The control problem is posed and solved, or replaced by the plan or by the fixed gain, to give τ₀. -/
  | controlStepRuns
  /-- R185: The following-error test fails for CTL_FE_TIME_MS and alarm 0x1305 or 0x1306 is raised. -/
  | followingErrorExpiry (heading : Bool)
  /-- R186: The model-plausibility test fails for CTL_MP_TIME_MS and alarm 0x1307 is raised. -/
  | modelPlausibilityExpiry (axis : Nat)
  /-- R182: No Follow delivery arrives for CTL_FOLLOW_LOSS_MS and the device changes to Station. -/
  | followRefLoss
  /-- R183: No JOYSTICK order arrives for CTL_JOY_TIMEOUT_MS and the demand ramps to zero. -/
  | joystickTimeout
  /-- R172: CTL_WFF_RAMP_S passes and the wind feedforward ramp ends. -/
  | windFeedforwardRamp
  /-- R191: The tuning injection's duration ends and its signal is removed. -/
  | injectionEnd
  /-- R226: The allocation batch of nominal and scenario problems is submitted and the results are applied. -/
  | allocationStepRuns
  /-- R222: An applicable due scenario reaches ALC_STALE_CYCLES without evaluation and alarm 0x1602 is raised. -/
  | scenarioStale (scenario : Nat)
  /-- R228: The ratio has stayed below ALC_SHAPE_OFF for ALC_SHAPE_HOLD_S and φ_j falls. -/
  | shapeHoldExpiry (scenario : Nat)
  /-- R210: An azimuth stays bound at a zone edge for ALC_AZ_SWING_S and is swung the long way round. -/
  | azimuthSwing (thruster : Nat)
  /-- R287: At the end of the allocation window each in-step device sends COMPARE. -/
  | outputComparison
  /-- R312: The S-die checks the handed-over command vector and forms its verdict, then VERDICT is sent. -/
  | verdictFormation (delivered : Bool)
  /-- R288: At pour − 0.2 ms both devices and S-dies apply the arbitration table. -/
  | arbitration
  /-- R29: A cycle-step window ends with its step unfinished; the step is stopped and alarm 0x0006 is raised. -/
  | stepDeadline (stepNo : Nat)
  /-- R30: Commands are driven through the lease gate, the State Image is swapped and published, responses are sent and bookkeeping starts. -/
  | pour (katPass : Bool)
  /-- R82: An order frame arrives, is stamped, assigned to a cycle and sent as an item. -/
  | orderArrival (transport : Transport) (address : Word) (port : Nat) (frame : List Word) (stamp : Nat)
  /-- R75: The ENGAGE order makes the named side the Ladle holder from the next pour. -/
  | engage (order : OrderIn)
  /-- R86: The DISENGAGE order returns the holder to ARMED at the next pour. -/
  | disengage (order : OrderIn)
  /-- R296: The TRANSFER order hands the Ladle to the twin at the pour, with cause 0. -/
  | transfer (order : OrderIn)
  /-- R80: The SET_MODE order requests a mode, subject to the entry preconditions. -/
  | setMode (order : OrderIn)
  /-- R168: The SET_POINT order sets a new set-point towards which the reference moves. -/
  | setPoint (order : OrderIn)
  /-- R180: The SET_TRACK order accepts a track and a speed. -/
  | setTrack (order : OrderIn)
  /-- R451: The SET_FOLLOW_REF order names a member or tracked target, and an offset, to follow. -/
  | setFollowRef (order : OrderIn)
  /-- R183: The JOYSTICK order sets the surge, sway and yaw demand. -/
  | joystick (order : OrderIn)
  /-- R88: The TAKE_COMMAND order makes a command-capable source the source in command. -/
  | takeCommand (order : OrderIn)
  /-- R206: The THRUSTER_AVAIL order sets a thruster available or unavailable from the next freeze. -/
  | thrusterAvail (order : OrderIn)
  /-- R158: The SENSOR_RETURN order removes a slot from the slag list into probation. -/
  | sensorReturn (order : OrderIn)
  /-- R90: The TUNABLE order changes one tunable word from the next freeze. -/
  | tunable (order : OrderIn)
  /-- R322: TEST_START with word 0 = 1 starts a brake test of one channel. -/
  | testStartBrake (order : OrderIn)
  /-- R189: TEST_START with word 0 = 2 starts a tuning injection with capture. -/
  | testStartInjection (order : OrderIn)
  /-- R191: The TEST_STOP order stops the running brake test or injection. -/
  | testStop (order : OrderIn)
  /-- R76: The PARK order takes both twins to PARKED at the same pour. -/
  | park (order : OrderIn)
  /-- R77: The UNPARK order returns both twins to ARMED on a whole second. -/
  | unpark (order : OrderIn)
  /-- R87: The SAFE order takes the named side, or both, to SAFE. -/
  | safe (order : OrderIn)
  /-- R86: The RESET order makes the named side perform an ordered reset after its pour. -/
  | reset (order : OrderIn)
  /-- R534: The ALARM_ACK order acknowledges one alarm code or all of them. -/
  | alarmAck (order : OrderIn)
  /-- R94: A write of 1 to CTL_OMB_CTRL.SUBMIT stamps and submits the mailbox frame. -/
  | orderMailboxSubmit (master box : Nat)
  /-- R257: A write to SLV_SUBMIT places a descriptor offset in the command queue. -/
  | slvSubmit (master : Nat) (value : Word) (placed : List (Nat × Word))
  /-- R257: A write to SLV_FILL places a fill offset in the command queue. -/
  | slvFill (master : Nat) (value : Word) (placed : List (Nat × Word))
  /-- R258: The array processes a queued submission: it checks the descriptor, reads the warm start and promotes the staging copy. -/
  | submissionProcess
  /-- R262: A queued fill is checked and written to the live or staging copy, or held. -/
  | fillApply
  /-- R263: A queued problem starts on the lowest free lane in service. -/
  | problemStart
  /-- R253: A problem finishes; its result record, status and events are written in order. -/
  | problemEnds (tag cycles : Nat)
  /-- R263: Working time reaches a problem's DEADLINE while it is in flight and it ends DEADLINE. -/
  | problemDeadline (tag : Nat)
  /-- R264: A lane fault strikes a running problem; the problem restarts once on another lane. -/
  | laneFault (lane : Nat)
  /-- R265: A single-bit error in lane-local memory is corrected and counted. -/
  | laneEccCorrected (lane : Nat)
  /-- R274: A twin-link lane loses symbol lock, fails 16 CRCs or goes 5 ms unacknowledged, and is lost. -/
  | twinLaneLost (lane : Nat)
  /-- R274: A lost lane is retried every 100 ms. -/
  | twinLaneRetry (lane : Nat)
  /-- R274: No lane has been up for 1 ms; the link is down and the partner counts as not met. -/
  | twinLinkDown
  /-- R272: A twin-link frame is not acknowledged within 2 µs and its channel is retransmitted. -/
  | twinRetransmit (vc firstSeq : Nat)
  /-- R272: A NAK arrives and the sender retransmits from the first unacknowledged frame. -/
  | twinNak (vc firstSeq : Nat)
  /-- R275: While the link is up and the partner is not met, a HELLO is sent every 100 ms. -/
  | helloSend (nonce : Nat)
  /-- R275: A partner HELLO is received and the first one is answered with AUTH. -/
  | helloFrame (header : TwinHeader) (frame : Hello)
  /-- R275: An AUTH frame is verified against the partner key and serial number, and the partner is met or refused. -/
  | authFrame (header : TwinHeader) (sig : List Byte) (verified : List Signed)
  /-- R277: START names the first freeze and state epoch of a common start. -/
  | startFrame (header : TwinHeader) (firstFreeze epoch : Nat)
  /-- R279: An ITEM frame or fragment of the partner's input is received. -/
  | itemFrame (header : TwinHeader) (entry : Item) (index count : Nat)
  /-- R281: The partner's CLOSE with its item count and digest is received. -/
  | closeFrame (header : TwinHeader) (epoch count : Nat) (digest : Word)
  /-- R281: The lead side's AGREE with its inclusion mask and digest is received. -/
  | agreeFrame (header : TwinHeader) (epoch : Nat) (cope drag : Bool) (digest : Word)
  /-- R287: The partner's COMPARE of commands and digest is received. -/
  | compareFrame (header : TwinHeader) (frame : CompareMsg)
  /-- R288: The partner's VERDICT with its check bits is received. -/
  | verdictFrame (header : TwinHeader) (frame : VerdictMsg)
  /-- R291: At 18 ms after each multiple of 20 ms the holder sends RENEW, or renews alone when the partner is absent. -/
  | renewSend
  /-- R291: A RENEW copy arrives at the standby, which answers with ACK. -/
  | renew (path : Path) (epoch : Nat) (side : Side) (sendT arrival : Nat)
  /-- R292: An ACK arrives within 2 ms and the renewal is counted and reported to the S-die. -/
  | ack (path : Path) (arrival : Nat)
  /-- R292: The S-die's 60 ms lease count expires; the gate closes and the device takes T4. -/
  | leaseExpiry
  /-- R293: No RENEW has arrived for 70 ms and the standby may take the Ladle. -/
  | silentLossTimeout
  /-- R289: RELEASE is received; the twin takes the Ladle and writes the new epoch. -/
  | releaseFrame (header : TwinHeader) (epoch : Nat)
  /-- R301: The partner receives a resynchronisation request. -/
  | syncReqFrame (header : TwinHeader)
  /-- R301: A STATE frame of the twin state is received and written into place. -/
  | stateFrame (header : TwinHeader) (chunk : Machine.TwinChunk)
  /-- R301: SYNC_END arrives; if its CRC matches, the device joins in step at the next freeze. -/
  | syncEndFrame (header : TwinHeader) (epoch : Nat) (crcOk : Bool)
  /-- R301: SYNC_END has not arrived by pour + 1.8 ms; the transfer is repeated. -/
  | syncEndTimeout
  /-- R352: A time marker is sent at each whole millisecond. -/
  | timeMarkerSend
  /-- R352: A partner time marker is received and the twin offset is formed. -/
  | timeMarker (marker : Marker)
  /-- R353: The twin offset has stayed above 1 µs for 1 s. -/
  | twinOffsetAlarm
  /-- R318: Every SAF_BRK_SWTEST_S the S-die starts the switch test of a channel. -/
  | switchTest (channel : Nat)
  /-- R318: A 300 µs switch test step ends and its terminal readings are diagnosed. -/
  | switchTestStep (channel hsPct lsPct : Nat)
  /-- R314: The coil current has exceeded 0.7 A for 100 µs; both switches open. -/
  | brakeOvercurrent (channel : Nat)
  /-- R320: The degraded timer reaches SAF_BRK_DEGR_H and the brake is applied. -/
  | brakeDegradedExpiry (channel : Nat)
  /-- R323: A brake test phase ends and the next phase, or the result, follows. -/
  | brakeTestPhaseEnd
  /-- R323: The S-die's encoder count exceeds MOTION_MAX during a brake test and the test fails. -/
  | brakeTestMotion (counts : Nat)
  /-- R324: More than SAF_BRK_TEST_DUE_H hours have passed since the last passed test. -/
  | brakeTestDue (channel : Nat)
  /-- R325: SIT0 or SIT1 drops for its 0.5 ms test pulse and the contacts are checked for pulse faults. -/
  | testPulse (output : Bool) (faulty : List Nat)
  /-- R326: A safe input contact takes a new state and the pair enters or leaves DEMAND. -/
  | safeInputChange (pair : Nat) (contactB closed : Bool) (stamp : Nat)
  /-- R327: The contacts of a pair have disagreed for DISC_MS and DEMAND is latched. -/
  | discrepancyExpiry (pair : Nat)
  /-- R331: A safe frame copy is received and checked. -/
  | safeFrame (lanB : Bool) (bytes : List Byte) (stamp : Nat)
  /-- R332: SAF_DUAL_WAIT_US ends and a single copy is accepted as single-path. -/
  | dualWaitExpiry (conn : Nat)
  /-- R333: A safe data connection accepts no frame for TO_MS and ON_TIMEOUT applies. -/
  | safeConnectionTimeout (conn : Nat)
  /-- R334: The S-die detects a lockstep, ROM or RAM fault of its own and forces the global safe state. -/
  | sDieFault
  /-- R521: An EXTEST instruction enters the unlocked test port and the S-die holds the global safe state. -/
  | extest
  /-- R340: Counter bit 31 changes and the firmware rewrites TSU_EXT. -/
  | tsuExtUpdate
  /-- R344: A PTP Sync is received and stamped, giving an offset and a servo update. -/
  | ptpSyncArrives (domain port : Nat) (twoStep : Bool) (seq : Nat) (ingress origin : Int)
  /-- R375: A PTP Follow_Up completes a two-step Sync. -/
  | ptpFollowUp (domain port seq : Nat) (origin : Int)
  /-- R348: A Delay_Resp or Pdelay response completes a delay exchange. -/
  | ptpDelayRespArrives (domain port : Nat) (time ingress : Int)
  /-- R375: An Announce is received and the best master clock algorithm runs. -/
  | ptpAnnounce (msg : Announce)
  /-- R375: A PTP interval expires and a Sync, Announce or delay request is sent. -/
  | ptpMessageSend (domain port kind : Nat)
  /-- R344: A time source is lost after its loss interval; selection may change or holdover start. -/
  | timeSourceLost (source : Nat)
  /-- R345: A source has been valid for TIM_QUAL_S and qualifies; revertive selection may change. -/
  | sourceQualified (source : Nat)
  /-- R357: The selected source's offset has exceeded 1 ms for 1 s and a step is decided. -/
  | stepDecision
  /-- R357: At the whole second S working time is stepped by Δ and the freeze due at S is made. -/
  | timeStep
  /-- R356: Each second in holdover the estimated error E is published. -/
  | holdErrPublish
  /-- R362: A compare unit fires, sets FIRED and LAST, and latches any triggered field channels. -/
  | compareFire (unit : Nat)
  /-- R362: A write of EN to a compare unit arms it, or fires a past one-shot at once with LATE. -/
  | compareEnable (master unit : Nat) (value : Word)
  /-- R363: An edge on a capture input is stamped into the unit's queue, or dropped with OVF. -/
  | captureEdge (unit : Nat) (rising : Bool) (stamp : Nat)
  /-- R363: A read of TSU_CAPk_NS returns the head entry and removes it. -/
  | captureRead (master unit : Nat)
  /-- R363: The counter passes the head entry's stamp plus 2³¹ ns and OLD is set. -/
  | captureOld (unit : Nat)
  /-- R364: A TP0 or TP1 pulse starts at a multiple of its period. -/
  | timePulse (output : Nat)
  /-- R364: A time pulse ends after WIDTH or HOLD_WIDTH. -/
  | timePulseEnd (output : Nat)
  /-- R95: Every 10 ms the antenna current is measured and open or short is judged. -/
  | antennaMeasure (antenna milliamps : Nat)
  /-- R95: Every 10 s a shorted antenna supply is switched on for 10 ms. -/
  | antennaRetry (antenna : Nat)
  /-- R106: An FFT engine completes a search and declares a detection or none. -/
  | acquisitionSearchRuns (engine sig sv antenna blocks : Nat) (warm : Bool) (bin peakOverMean : Nat)
  /-- R106: The confirmation dwell ends and a confirmed triple goes to a channel. -/
  | acquisitionConfirm (engine peakOverMean : Nat) (elev : Int)
  /-- R109: A channel's phase lock indicator reaches 0.8 and it moves to tracking. -/
  | pullInLock (chan : Nat)
  /-- R110: The carrier loop has held lock for 200 ms and PHASE_OK is set. -/
  | phaseLockHeld (chan : Nat)
  /-- R109: C/N0 below 20 dB-Hz for 1 s, or the lock indicator below 0.5 for 200 ms, returns the triple to acquisition. -/
  | lockLoss (chan : Nat)
  /-- R110: A cycle slip is detected; SLIP is set and SLIP_CNT increments. -/
  | cycleSlip (chan : Nat)
  /-- R478: A 1 s baseband shadow ends; a mismatch leads to the vote and retirement of R478. -/
  | channelShadowEnd (cluster : Nat) (sameAS sameAS2 sameSS2 : Bool)
  /-- R118: Every 10 ms the spectrum average is formed and notches engage or move. -/
  | spectrumAverage (stream : Nat) (lines : List (Int × Nat)) (noise agc : Nat)
  /-- R118: A notched line stays 3 dB below threshold for 1 s and the notch is released. -/
  | notchRelease (stream notch : Nat)
  /-- R119: The reference noise floor is fixed after 60 s of tracking. -/
  | noiseFloorLearned (floors : List Nat)
  /-- R119: The noise rise stays below GNS_JAM_THR for 10 s and JAM clears. -/
  | jamClear
  /-- R121: A signal's check has passed for 10 s and SUSPECT clears. -/
  | suspectClear (chan : Nat)
  /-- R122: GNS_SPOOF_CLEAR_S passes without a receiver-level failure and receiver suspicion clears. -/
  | suspicionClear (side : Side)
  /-- R124: A write of 1 to GNS_SNAP_CTRL.TRIGGER starts a manual capture, or counts a miss. -/
  | snapshotTrigger (master : Nat)
  /-- R124: The post-trigger time passes, the ring freezes and HELD is set. -/
  | snapshotHeld (samples : List IqSample)
  /-- R125: A write of 1 to GNS_SNAP_CTRL.RELEASE frees the snapshot and restarts the ring. -/
  | snapshotRelease (master : Nat)
  /-- R127: Every 10 s in PARKED a 2 ms capture gives a coarse-time position check. -/
  | parkPositionCheck (satellites distanceM : Nat)
  /-- R127: Every 2 h in PARKED cluster 0 is powered to renew the ephemerides. -/
  | ephemerisRenewal
  /-- R127: The 60 s ephemeris renewal in PARKED ends. -/
  | ephemerisRenewalEnds (sats : List Nat)
  /-- R393: A serial sentence is received whole, stamped and checked. -/
  | serialSentence (port : Nat) (sentence : Sentence)
  /-- R394: An RTCM 10403.3 frame is received whole and its CRC is checked. -/
  | rtcmFrame (port : Nat) (bytes : List Byte) (first last : Nat)
  /-- R382: A CAN frame is received, filtered and queued. -/
  | canFrame (channel : Nat) (frame : CanFrame)
  /-- R389: A fast-packet message is not complete in 750 ms and is abandoned. -/
  | fastPacketTimeout (channel source pgn : Nat)
  /-- R385: A receive object gets no frame for its TIMEOUT and times out. -/
  | canObjectTimeout (object : Nat)
  /-- R384: A write of 1 to CAN_cQ1_CTRL.POP removes the head element of queue 1. -/
  | canQ1Pop (master channel : Nat)
  /-- R391: A CAN error changes the error counters, giving warning, error passive or bus-off. -/
  | canError (channel tec rec : Nat)
  /-- R391: BOFF_HOLD_MS in bus-off passes and recovery starts. -/
  | busoffHoldExpiry (channel : Nat)
  /-- R391: The bus-off recovery sequence completes and RECOVERED is set. -/
  | busoffRecovered (channel : Nat)
  /-- R390: At each multiple of PERIOD the lead side sends the ISO 11898-4 reference message. -/
  | canReferenceMessageStarts (channel : Nat)
  /-- R367: An Ethernet frame is received, filtered, rate-limited and duplicate-checked. -/
  | ethernetFrame (frame : EthFrame)
  /-- R371: A PRP drop-window entry reaches its 400 ms forget time. -/
  | prpEntryForget (mac seq : Nat)
  /-- R368: A 10 ms receive count window ends and the count restarts. -/
  | rxLimitWindow (port : Nat)
  /-- R366: Every 100 ms each PHY's status is read over MDIO. -/
  | phyPoll (port : Nat) (answered link : Bool)
  /-- R366: A write of 1 to ETH_MDIO.START starts an MDIO read. -/
  | mdioRead (master : Nat) (value : Word)
  /-- R366: An MDIO read completes, or NOACK is set. -/
  | mdioReadDone (answer : Option Nat)
  /-- R367: An ARP cache entry is refreshed every 60 s. -/
  | arpRefresh (ip : Nat)
  /-- R367: A destination stays unresolved for 1 s and its datagram is dropped. -/
  | arpTimeout (ip : Nat)
  /-- R378: A register service request with OP 1 reads words as ETH_SVC and answers. -/
  | serviceRead (req : SvcReq)
  /-- R378: A register service request with OP 2 writes words as ETH_SVC and answers. -/
  | serviceWrite (req : SvcReq)
  /-- R403: A field channel completes a sample on its grid and FIELD_DMA writes it. -/
  | fieldSampleTaken (channel : Nat) (input : FieldInput)
  /-- R410: A write to FCH_nOUT sets a register-sourced output within 100 µs. -/
  | fieldOutputWrite (master channel : Nat) (value : Word)
  /-- R414: A wire break, short or over-range condition holds, or is absent, for FLT_MS. -/
  | fieldFaultTimerEnds (channel condition : Nat)
  /-- R412: A driving output's read-back differs from its command by more than 1 % for FLT_MS. -/
  | readbackMismatch (channel : Nat)
  /-- R414: An overloaded input returns inside its range and the modulator is reset. -/
  | modulatorOverload (channel : Nat)
  /-- R479: A decimation engine shadow ends; on a mismatch the spare runs the ROM test stream. -/
  | engineShadowEnd (cluster : Nat) (same : Bool)
  /-- R479: The 10 ms ROM test of the spare engine ends and one engine is retired. -/
  | engineTestEnd (cluster : Nat) (sparePasses : Bool)
  /-- R480: An input channel converts its internal reference for a test injection. -/
  | fieldTestInjection (channel : Nat)
  /-- R480: The reference is read and judged, and the terminal is reconnected. -/
  | fieldTestInjectionEnds (channel : Nat)
  /-- R196: A loop slot computes one sample at its period. -/
  | loopSample (slot : Nat)
  /-- R199: A slot's |e| exceeds FE_LIM for FE_TIME and alarm 0x1401 is raised. -/
  | loopFollowingError (slot : Nat)
  /-- R199: A slot's plausibility difference exceeds PL_LIM for PL_TIME and alarm 0x1402 is raised. -/
  | loopPlausibility (slot : Nat)
  /-- R421: A source becomes pending and is assigned to an able target. -/
  | interruptAssert (source : Nat)
  /-- R423: A read of INTC_tCLAIM pushes the highest-priority assigned source onto the stack. -/
  | claim (master target : Nat)
  /-- R424: A write to INTC_tCOMPLETE pops the stack, or freezes it when the completion is out of order. -/
  | complete (master target : Nat) (value : Word)
  /-- R425: A write of 1 to INTC_tCTRL.UNFREEZE empties and unfreezes the target's stack. -/
  | unfreeze (master target : Nat)
  /-- R426: INTERVAL passes since the line was last asserted and the line asserts. -/
  | moderationInterval (target : Nat)
  /-- R427: A core stalls in WFI or HIDLE rises and the line asserts within 16 ns. -/
  | targetIdle (target : Nat)
  /-- R417: A write to INTC_SWSET sets doorbell sources. -/
  | doorbellSet (master : Nat) (value : Word)
  /-- R432: A core's time reaches INTC_tMTIMECMP and its machine timer interrupt rises. -/
  | machineTimer (core : Nat)
  /-- R429: Host command 0x0B reads words on one line, with status bytes. -/
  | hostRead (addr words : Nat)
  /-- R429: Host command 0xEB reads words on four lines. -/
  | hostQuadRead (addr words : Nat)
  /-- R430: Host command 0x02 buffers words for writing on one line. -/
  | hostWrite (addr : Nat) (words : List Word) (partialWord : Bool)
  /-- R430: Host command 0x32 buffers words for writing on four lines. -/
  | hostQuadWrite (addr : Nat) (words : List Word) (partialWord : Bool)
  /-- R428: Host command 0x05 returns HST_STATUS bits [7:0]. -/
  | hostStatus
  /-- R430: A buffered host write word is performed, or the command stops at a failed word. -/
  | hostWritePerform
  /-- R61: KPR_FLW_CTRL.CMD 1 erases the 64 KiB block at ADDR. -/
  | flashErase (master : Nat)
  /-- R61: KPR_FLW_CTRL.CMD 2 programs the 256-byte page at ADDR from the buffer. -/
  | flashProgram (master : Nat)
  /-- R62: KPR_FLW_CTRL.CMD 3 reads the page at ADDR into the buffer. -/
  | flashRead (master : Nat)
  /-- R62: A flash window command completes; BUSY clears before the interrupt. -/
  | flashCommandDone (failed : Bool)
  /-- R436: An Eloaset port loses lock, fails 16 CRCs or sends a frame 32 times, and is lost. -/
  | elkPortLost (port : Nat)
  /-- R436: A lost Eloaset port is retried every 100 ms. -/
  | elkPortRetry (port : Nat)
  /-- R436: An Eloaset frame is not acknowledged within 40 µs, or is NAKed, and is retransmitted. -/
  | elkRetransmitFrame (port vc : Nat) (nak : Bool)
  /-- R437: A port that is not up sends a HELLO every 100 ms. -/
  | elkHelloSend (port : Nat)
  /-- R437: A neighbour HELLO is received and the port comes up if ELK_FORM_ID matches. -/
  | elkHello (port member formId : Nat)
  /-- R442: A packet frame is received whole and consumed or routed with its hop count. -/
  | elkPacket (port : Nat) (header : LinkHeader) (packet : Packet)
  /-- R444: A UDP-carried packet is received and its hop sequence number is checked. -/
  | elkUdpDatagram (peer vc hopSeq : Nat) (packet : Packet)
  /-- R448: Every 1 s a SUB is sent for each ELK_SUBS entry. -/
  | subSend
  /-- R448: A subscriber sends no SUB for 3 s and leaves the table. -/
  | subscriberExpiry (member : Nat)
  /-- R448: A subscription has no accepting SUB_ACK for 3 s and alarm 0x0505 is raised. -/
  | subscriptionTimeout (unit : Nat)
  /-- R449: An epoch's set closes at f × FORM_PERIOD_MS + FORM_LAT_MS and becomes an item. -/
  | formationSetClose (epoch : Nat)
  /-- R460: A write of 1 to STI_VIEW_CTRL.OPEN pins the front buffer for the master. -/
  | viewOpen (master : Nat)
  /-- R460: A write of 1 to STI_VIEW_CTRL.CLOSE ends the master's view. -/
  | viewClose (master : Nat)
  /-- R461: A State Image window read returns pinned data, or is refused without an intact view. -/
  | windowRead (master offset : Nat)
  /-- R24: A request has no response 20 µs after issue and completes with an error. -/
  | fabricTimeout (master region : Nat)
  /-- R4: A write to a register without a row of its own acts as its access type gives. -/
  | registerWrite (master addr : Nat) (value : Word)
  /-- R11: A processor pair fails its lockstep comparison and is retired, or a device fault follows. -/
  | lockstepMismatch (pair : Nat)
  /-- R477: An ECC error in system SRAM is corrected and counted, or an uncorrectable one starts bank retirement. -/
  | eccError (bank : Nat) (correctable ofCycle : Bool)
  /-- R472: A scrub interval ends and a memory is scrubbed, with record CRCs checked in MRAM. -/
  | eccScrub (memory : Nat) (corrected : Nat)
  /-- R481: A rail stays outside ±5 % for 1 ms and a device fault follows. -/
  | railFault (rail : Nat)
  /-- R482: After each whole operating hour the ageing sensors are read, the model is calibrated and re-plans start. -/
  | annealMeasurement (dies : List DieReading) (diodes : List Int)
  /-- R483: Once a second a rail trim rises by one 5 mV step. -/
  | trimStep (rail : Nat)
  /-- R485: Every 1 ms the thermal model nodes are updated and shutdown may be latched. -/
  | thermalUpdateRuns (rails : List (Nat × Nat)) (vin : Nat) (coils : List Nat) (diodes : List Int)
  /-- R486: Every 1 s T_ref moves by one sixtieth of the mean diode residual. -/
  | trefTrack
  /-- R490: T_max has stayed at or below HLT_COOL_C for 10 s and COOLED is set. -/
  | cooled
  /-- R494: The operating-time counter advances every 100 ms and is saved to MRAM every 10 s. -/
  | operatingTimeTick
  /-- R505: A pending group's waveform starts in the band sampled at its start. -/
  | waveformStart (vlcdMv : Nat)
  /-- R505: The preparation or selection phase of a waveform ends and the next phase starts. -/
  | waveformPhaseEnd
  /-- R508: Settling ends; the shown image is saved, held images become pending and band jumps rewrite. -/
  | waveformEnd
  /-- R506: A write to ANN_COMMIT takes ANN_Gg_SET as new images for groups 4 to 7. -/
  | annCommit (master : Nat) (value : Word)
  /-- R504: VLCD is not within its window 20 ms after it is required, and is rechecked each second. -/
  | vlcdTimeout (vlcdMv : Nat)
  /-- R4: A read of a register or address acts as its access type gives: RC fields clear, and unmapped or refused reads complete with an error, an alarm and a count. -/
  | registerRead (master addr : Nat)
  /-- R19: REFIN shows edges again after it was missing; GLB_STATUS.REFIN_OK returns to 1 while the device stays in SAFE until a reset. -/
  | refinReturn
  /-- R427: HIDLE falls and the host targets stop being idle, so moderation governs their lines again. -/
  | hidleFall
  /-- R110: A tracking channel resolves the half-cycle ambiguity from a pilot or a decoded preamble and sets HALF_RES. -/
  | halfCycleResolved (chan : Nat)
  /-- R110: A tracking channel resolves the transmit time to the week (the day for GLONASS) and sets TOW_OK, so TX_TIME changes its modulus. -/
  | transmitTimeResolved (chan : Nat)
  /-- R274: A twin-link lane gains symbol lock and comes up, so the link is up and HELLO exchange can begin. -/
  | twinLaneUp (lane : Nat)
  deriving DecidableEq, Repr

end Sys2Proof
end

