-- ==== Sys2Proof/Machine/Crc.lean ====
section
/-! DEFINITION. The checks over bytes that the manual defines: CRC-32C (R43), and the words and bytes they run over (R3). -/
namespace Sys2Proof.Machine

/-- One bit of the reflected Castagnoli division (R43). -/
def crcBit (c : Nat) : Nat := if c % 2 = 1 then (c / 2) ^^^ 0x82F63B78 else c / 2

/-- One byte of CRC-32C. -/
def crcByte (c : Nat) (b : Byte) : Nat :=
  crcBit (crcBit (crcBit (crcBit (crcBit (crcBit (crcBit (crcBit (c ^^^ b.toNat))))))))

/-- R43: the CRC-32C of a run of bytes: initial value and final XOR 0xFFFF_FFFF. -/
def crc32c (bs : List Byte) : Word := BitVec.ofNat 32 ((bs.foldl crcByte 0xFFFFFFFF) ^^^ 0xFFFFFFFF)

/-- Byte `i` of a word, little-endian (R3). -/
def wordByte (w : Word) (i : Nat) : Byte := BitVec.ofNat 8 (w.toNat / 256 ^ i)

/-- The four bytes of a word, little-endian (R3). -/
def wordBytes (w : Word) : List Byte := [wordByte w 0, wordByte w 1, wordByte w 2, wordByte w 3]

/-- The bytes of a run of words. -/
def wordsBytes (ws : List Word) : List Byte := ws.flatMap wordBytes

/-- The little-endian number that a run of bytes spells (R3). -/
def leNat : List Byte → Nat
  | [] => 0
  | b :: bs => b.toNat + 256 * leNat bs

/-- `n` bytes of a number, little-endian. -/
def natBytes (n : Nat) : Nat → List Byte
  | 0 => []
  | k + 1 => BitVec.ofNat 8 n :: natBytes (n / 256) k

/-- The words of a run of bytes, little-endian; a last part of a word is padded with zeros. -/
def bytesWords : List Byte → List Word
  | a :: b :: c :: d :: r => BitVec.ofNat 32 (leNat [a, b, c, d]) :: bytesWords r
  | [] => []
  | r => [BitVec.ofNat 32 (leNat r)]

/-- R43: CRC-32C over words, the bytes of each in little-endian order. -/
def crcWords (ws : List Word) : Word := crc32c (wordsBytes ws)

/-- One bit of CRC-24Q. -/
def crc24Bit (c : Nat) : Nat := if 8388608 ≤ c then (2 * c ^^^ 0x1864CFB) % 16777216 else 2 * c

/-- One byte of CRC-24Q. -/
def crc24Byte (c : Nat) (b : Byte) : Nat :=
  crc24Bit (crc24Bit (crc24Bit (crc24Bit (crc24Bit (crc24Bit (crc24Bit (crc24Bit (c ^^^ (b.toNat * 65536)))))))))

/-- R394: the CRC-24Q of RTCM 10403.3. -/
def crc24q (b : List Byte) : Nat := b.foldl crc24Byte 0

/-- R394: an RTCM frame: its preamble, its length, its CRC and its six zero bits. [Log 59, DEDUCED, unsafe] -/
def rtcmOk (b : List Byte) : Bool :=
  let n := (b.getD 1 0#8).toNat * 256 + (b.getD 2 0#8).toNat
  b.getD 0 0#8 == 0xD3#8 && n < 1024 && b.length == n + 6 && crc24q b == 0

end Sys2Proof.Machine
end

