-- ==== Sys2Proof/Machine/Assoc.lean ====
section
/-! DEFINITION. Small keyed lists: tables of the machine with one value per number. -/
namespace Sys2Proof.Machine

/-- The value at key `k`, or `d`. -/
def aget {α : Type} (d : α) : List (Nat × α) → Nat → α
  | [], _ => d
  | (i, v) :: r, k => if i = k then v else aget d r k

/-- The value at key `k`, if one is listed. -/
def afind {α : Type} : List (Nat × α) → Nat → Option α
  | [], _ => none
  | (i, v) :: r, k => if i = k then some v else afind r k

/-- Set the value at key `k`; a new key goes last. -/
def aset {α : Type} : List (Nat × α) → Nat → α → List (Nat × α)
  | [], k, v => [(k, v)]
  | (i, u) :: r, k, v => if i = k then (k, v) :: r else (i, u) :: aset r k v

/-- Remove key `k`. -/
def adel {α : Type} (l : List (Nat × α)) (k : Nat) : List (Nat × α) := l.filter (fun e => e.1 != k)

/-- Add `k` to a list without repeats. -/
def insertNew (l : List Nat) (k : Nat) : List Nat := if l.contains k then l else l ++ [k]

/-- Remove `k` from a list. -/
def remove (l : List Nat) (k : Nat) : List Nat := l.filter (· != k)

/-- Element `i` of a list of numbers, 0 beyond its end. -/
def nth (l : List Nat) (i : Nat) : Nat := l.getD i 0

/-- Element `i` of a list of signed numbers, 0 beyond its end. -/
def nthI (l : List Int) (i : Nat) : Int := l.getD i 0

/-- Word `i` of a run of words, 0 beyond its end. -/
def nthW (l : List Word) (i : Nat) : Word := l.getD i 0#32

/-- The least number of a list, or `d` for an empty one. -/
def minOf (d : Nat) (l : List Nat) : Nat := l.foldl Nat.min (l.headD d)

/-- Insert into a list of numbers in rising order. -/
def insertSorted (k : Nat) : List Nat → List Nat
  | [] => [k]
  | x :: r => if k ≤ x then k :: x :: r else x :: insertSorted k r

/-- A list of numbers in rising order. -/
def sortNat (l : List Nat) : List Nat := l.foldl (fun a k => insertSorted k a) []

/-- Insert into a list of signed numbers in rising order. -/
def insertSortedI (k : Int) : List Int → List Int
  | [] => [k]
  | x :: r => if k ≤ x then k :: x :: r else x :: insertSortedI k r

/-- A list of signed numbers in rising order. -/
def sortInt (l : List Int) : List Int := l.foldl (fun a k => insertSortedI k a) []

/-- The median: the middle element, or the mean of the two middle ones rounded towards minus infinity. -/
def medianInt (l : List Int) : Int :=
  let s := sortInt l
  let n := s.length
  if n = 0 then 0 else if n % 2 = 1 then nthI s (n / 2) else (nthI s (n / 2 - 1) + nthI s (n / 2)) / 2

/-- Hold a signed number within [lo, hi]. -/
def clampI (lo hi x : Int) : Int := if x < lo then lo else if hi < x then hi else x

/-- Divide by `d`, to the nearest, ties away from zero. [Log 47, DEDUCED, unsafe] -/
def roundDiv (x : Int) (d : Nat) : Int :=
  let q : Int := ((2 * x.natAbs + d) / (2 * d) : Nat)
  if x < 0 then -q else q

end Sys2Proof.Machine
end

