-- ==== Sys2Proof/Config.lean ====
section
/-! DEFINITION. What one device fixes and the manual leaves open: fused values, free values and the computations whose arithmetic
the manual does not give. No constant here has a body, so nothing proved about the model rests on a value of one. -/
namespace Sys2Proof

/-- The 64-bit serial number that the device is fused with (GLB_SERIAL0, GLB_SERIAL1). -/
opaque Config.serial : Nat

/-- Word n of the public key that the device is fused with (KPR_DEVKEY). -/
opaque Config.deviceKey : Nat → Word

/-- The n-th free value of a run: a value that the manual leaves open. -/
opaque Config.freeWord : Nat → Word

/-- The computations of which the manual names the inputs, the outputs and their use, but not the arithmetic. -/
inductive Calc where
  | measure      -- decoding and alignment of a sensor message (R134, R139)
  | predict      -- the observer's prediction of a quantity (R142, R163)
  | response     -- the vessel model made discrete over a horizon (R169, R219)
  | observe      -- the observer's state after an update (R162)
  | innovation   -- the velocity innovation of a cycle (R186)
  | refine       -- refinement of an installation value (R160)
  | control      -- the demand of an unsolved problem without a plan (R176)
  | fixedGain    -- what one unit of a component of the fixed-gain law gives (R177)
  | allocate     -- rows of an allocation mould and the power term of its cost (R209)
  | thrust       -- thrust from a feedback reading (R311)
  | acquire      -- assignment of acquisition work (R105)
  | navigate     -- the navigation solution (R115)
  | spectrum     -- spectrum and notch settings (R118)
  | servo        -- the time servo's terms (R350)
  | loop         -- loop engine terms not given (R196)
  | field        -- terminal voltage and current from the decimated stream of a field channel (R398, R402)
  | decode       -- a decoded network value (R393)
  | other
  deriving DecidableEq, Repr

/-- Output `k` of a computation on its inputs, in the unit of the quantity that receives it. [Log 38, DESIGN CHOICE, safe] [Log 61, DEDUCED, unsafe] -/
opaque Config.calc : Calc → List Int → Nat → Int

/-- R485: the ROM of the thermal model: the heat capacity of a node in mJ/K, and the conductance between two nodes in nW/K. [Log 111, DESIGN CHOICE, safe] -/
opaque Config.heatCapacity : Nat → Nat
opaque Config.conductance : Nat → Nat → Nat

/-- R482, R483: the ROM of the anneal pass: a die's least slack, its target slack (ps) and the temperature coefficient of its slack (fs per 0.1 °C); a rail's
slack gain per trim step (ps), and its modelled full-load power (mW; index 8: what VIN supplies beside the rails). [Log 111, DESIGN CHOICE, safe] -/
opaque Config.slackMin : Nat → Int
opaque Config.slackTarget : Nat → Int
opaque Config.slackTempCo : Nat → Int
opaque Config.slackGain : Nat → Nat
opaque Config.fullLoad : Nat → Nat

end Sys2Proof
end

