-- ==== Sys2Proof/Machine/PartsCore.lean ====
section
/-! DEFINITION. State of the device as a whole: clocks, boot, Pattern, device state, orders, alarms, recorder, persistent memory,
panel, interrupts, host port, application cores, access control, State Image and time. Every field's default is its value right after reset. -/
namespace Sys2Proof.Machine

/-- What leaves the device: who receives it. -/
inductive Chan where
  | access (master : Nat)
  | twin | lanA | lanB | service
  | can (channel : Nat)
  | serial (port : Nat)
  | elk (port : Nat)
  | elkUdp (peer : Nat)
  | host | app (core : Nat) | partner
  deriving DecidableEq, Repr

/-- What leaves the device: what it is. -/
inductive MsgKind where
  | read | write | orderResponse | hello | auth | start | item | close | agree | compare | verdict | renew | ack | release | syncReq
  | twinState | syncEnd | marker | retransmit | nak | safeState | safeData | stateFragment | svcResponse | arp | icmp | ptp | igmp
  | canFrame | sentence | elkHello | packet | pub | sub | subAck | readBytes | mdio | captureDone | reset | switchTest
  deriving DecidableEq, Repr

/-- One thing the device sent, oldest first in the list that holds it. No rule reads the list back. -/
structure Sent where
  chan : Chan
  kind : MsgKind
  data : List Int
  deriving DecidableEq, Repr

/-- Supplies and clocks (R16 to R19, R67, R513, R518, R519). `pgAt`: the elapsed time at which PWRGOOD rose. -/
structure Clk where
  vin : Bool := true
  pwrgood : Bool := false
  pgAt : Nat := 0
  vfld : Bool := false
  refin : Bool := false
  pllHeld : Bool := false
  failedWindows : Nat := 0
  noRenew : Bool := false
  boundarySafe : Bool := false
  deriving DecidableEq, Repr

/-- Boot progress (R51 to R57, R68). Slots are 1 (A) and 2 (B), 0 for none: `firstChoice` was selected first, `streaming` is being read, `left`
holds those that passed stages 1 to 4 and have not been read. Times are elapsed ns. -/
structure Boot where
  started : Bool := false
  time0 : Nat := 0
  halted : Bool := false
  octal : Bool := true
  firstChoice : Nat := 0
  streaming : Nat := 0
  left : List Nat := []
  sDieRefused : Bool := false
  waitingTwin : Bool := false
  step11At : Nat := 0
  twinTimeSet : Bool := false
  readyForFreeze : Bool := false
  deriving DecidableEq, Repr

/-- The Pattern in use (R41, R45, R52): the header fields the device reports, and the parameter records of every section. -/
structure Pat where
  loaded : Bool := false
  slot : Nat := 0
  seq : Nat := 0
  id : List Word := []
  testPort : Bool := false
  sections : List Nat := []
  params : List (Nat × List Word) := []
  appcode : List Byte := []
  tuned : List (Nat × Word) := []
  deriving DecidableEq, Repr

/-- R70: the device states. -/
inductive DevState where
  | boot | armed | active | safe | parked
  deriving DecidableEq, Repr

/-- R85, R86: what an accepted order makes a pour do. `engage` names the side that takes the Ladle. -/
inductive PourAct where
  | engage (side : Side)
  | disengage | transfer | park | unpark | safe | reset
  deriving DecidableEq, Repr

/-- R70 to R79: state, mode, epochs and the cycle that runs. `freezeAt`, `pourAt` and `nextFreeze` are working times
in ns; `fresh`: the cycle is the first after T1 or T6. `newMode` is a mode change by order and `ownNew` one of the device itself (R88). `atPour` holds
what the orders of the cycle make the pour do, in the order of their acceptance (R82), and `expired` the conditions whose limit has expired (R92). -/
structure Dev where
  st : DevState := .boot
  mode : Nat := 0
  command : Nat := 0
  stateEp : Nat := 0
  cycling : Bool := false
  freezes : Nat := 0
  fresh : Bool := false
  freezeAt : Nat := 0
  pourAt : Nat := 0
  nextFreeze : Nat := 0
  period : Nat := 20000000
  stepsDone : List Nat := []
  stepsLate : List Nat := []
  newMode : Option Nat := none
  ownNew : Option Nat := none
  atPour : List PourAct := []
  toReset : Bool := false
  setPoint : List Int := [0, 0, 0]
  joystick : List Int := [0, 0, 0]
  joyAt : Nat := 0
  joyLost : Bool := false
  track : Option (List Int) := none
  follow : Option (List Int) := none
  condSince : List (Nat × Nat) := []
  expired : List Nat := []
  deriving DecidableEq, Repr

/-- R85: a response that waits for the pour. -/
structure Response where
  transport : Transport
  address : Word
  port : Nat
  source : Nat
  code : Nat
  result : Nat
  seq : Nat
  deriving DecidableEq, Repr

/-- R82: an order that waits for its cycle. -/
structure WaitingOrder where
  order : OrderIn
  code : Nat
  deriving DecidableEq, Repr

/-- R82 to R90: order handling. `waiting` holds the orders of later cycles, `counted` holds the orders counted per source in the cycle, `tuneNext` the tuned words and `availNext` the
thruster availability that the next freeze applies. `sideState` holds the state that the accepted orders of the cycle give a side (R87). -/
structure Ord where
  waiting : List WaitingOrder := []
  lastSeq : List (Nat × Nat) := []
  counted : List (Nat × Nat) := []
  responses : List Response := []
  last : List (Nat × List Word) := []
  commandChanged : Bool := false
  tunedThisCycle : List Nat := []
  tuneNext : List (Nat × Word) := []
  availNext : List (Nat × Bool) := []
  sideState : List (Nat × Nat) := []
  pairAcked : List Nat := []
  deriving DecidableEq, Repr

/-- R534: one active alarm. `cause`: the state or event that raised it has not cleared. -/
structure Alarm where
  code : Nat
  acked : Bool
  cause : Bool
  deriving DecidableEq, Repr

/-- R493: a record before it gets its sequence number and CRC. -/
structure Rec where
  hours : Nat
  pcycle : Nat
  typ : Nat
  event : Nat
  state : Nat
  stateEp : Nat
  payload : List Word
  deriving DecidableEq, Repr

/-- R494, R496: the record queue and what the recorder has to do once space returns. `tickAt`: the elapsed time of the last step of the operating-time counter. -/
structure Recorder where
  queue : List Rec := []
  lostToQueue : Nat := 0
  opTime : Nat := 0
  tickAt : Nat := 0
  anchorDue : Bool := true
  anchorHours : Nat := 0
  anchor : Option (List Word) := none
  hourly : Bool := false
  deriving DecidableEq, Repr

/-- Persistent data in MRAM (R32, R64, R294, R320, R467, R475, R482, R492, R494, R496, R508): no reset reaches it. `retired` counts how often
a unit has been retired (R475), by unit key. -/
structure Mram where
  area : Sparse 32 := []
  next : Nat := 0
  base : Nat := 0
  relCnt : Nat := 0
  powerCycles : Nat := 0
  opTime : Nat := 0
  stateEp : Nat := 0
  ladleEp : Nat := 0
  shown : List (Nat × List Word) := []
  dirty : List Nat := []
  riserLanes : List Nat := []
  riserChannels : List Nat := []
  riserEngines : List Nat := []
  riserBanks : List Nat := []
  riserPairs : List Nat := []
  trims : List (Nat × Nat) := []
  margin : List (Nat × (Nat × Nat)) := []
  brakeLeft : List (Nat × Nat) := []
  brakeSwitch : List (Nat × Nat) := []
  brakeAge : List (Nat × Nat) := []
  retired : List (Nat × Nat) := []
  shutdown : Bool := false
  offsets : List (Nat × Int) := []
  deriving DecidableEq, Repr

/-- R505: the waveform that runs: group, band at its start, phase (0 preparation, 1 selection, 2 settling), image and shown image before it. -/
structure Waveform where
  group : Nat
  band : Nat
  phase : Nat
  image : List Word
  before : List Word
  phaseAt : Nat
  deriving DecidableEq, Repr

/-- R502 to R508: the panel. `pending` is in the order in which groups became pending. `vlcdAt`: the elapsed time since which VLCD is required and outside its window, or of the last check (R504). -/
structure Ann where
  enabled : Bool := false
  pending : List (Nat × List Word) := []
  held : List (Nat × List Word) := []
  running : Option Waveform := none
  rewrite : Option (Nat × List Word) := none
  before : List (Nat × List Word) := []
  lastImage : List (Nat × List Word) := []
  barAt : List (Nat × Nat) := []
  blocked : Bool := false
  vlcdAt : Option Nat := none
  deriving DecidableEq, Repr

/-- R420 to R427: one interrupt target. `lineAt`: elapsed time of the last assertion. -/
structure Target where
  stack : List Nat := []
  frozen : Bool := false
  line : Bool := false
  lineAt : Option Nat := none
  stalled : Bool := false
  inReset : Bool := false
  deriving DecidableEq, Repr

/-- R419, R421: pending latches of edge sources and the assignment of pending sources to targets. The application cores are in reset until boot step 9 (R433). -/
structure Intc where
  edge : List Nat := []
  assigned : List (Nat × Nat) := []
  targets : List Target := [{ inReset := true }, { inReset := true }, {}, {}]
  deriving DecidableEq, Repr

/-- R430: the write buffer of the host port: the words not yet performed, each with its address and its command's number. -/
structure Hst where
  buffer : List (Nat × Word × Nat) := []
  nextCommand : Nat := 0
  hidle : Bool := false
  deriving DecidableEq, Repr

/-- R431 to R433: an application core: its machine timer interrupt and its machine software interrupt. -/
structure App where
  running : Bool := false
  pc : Nat := 0
  started : Nat := 0
  timerIrq : Bool := false
  softIrq : Bool := false
  deriving DecidableEq, Repr

/-- R460: one view: the buffer it pins and the epoch of the image there. -/
structure View where
  buf : Nat
  epoch : Nat
  intact : Bool
  deriving DecidableEq, Repr

/-- R456 to R461: the two image buffers (sparse words by word index), the front buffer and the views by master. `built` and `closed`: the compared
part, and the local part with the trailer, of the cycle's image are written. -/
structure Sti where
  bufA : Sparse 32 := []
  bufB : Sparse 32 := []
  front : Nat := 0
  built : Bool := false
  closed : Bool := false
  views : List (Nat × View) := []
  alarmAt : List (Nat × Nat) := []
  deriving DecidableEq, Repr

/-- R470: rate limits of alarm 0x0F01 by master, and the E flag of the cycle (R471). -/
structure Acl where
  alarmAt : List (Nat × Nat) := []
  deriving DecidableEq, Repr

/-- R61, R62: the flash window command that runs: 1 erase, 2 program, 3 read, with its copy of ADDR and the page. -/
structure FlashCmd where
  cmd : Nat
  addr : Nat
  page : List Byte
  deriving DecidableEq, Repr

/-- R344, R345: one time source. Times are elapsed ns. -/
structure TimeSource where
  valid : Bool := false
  validSince : Nat := 0
  lastSeen : Nat := 0
  deriving DecidableEq, Repr

/-- R375: a master heard on a port of a domain: its newest Announce and the elapsed times of that and of the one before it. -/
structure ForeignMaster where
  msg : Announce
  at_ : Nat
  before : Option Nat
  deriving DecidableEq, Repr

/-- R348, R375: PTP. By domain: Syncs that wait for their Follow_Up, the path delays of the last 16 exchanges, the slave port, the domains whose timescale is
ARB, and the Announce that the slave port follows. By 4 × domain + port: the send stamp of the last delay request and the way back that its response gave
(end to end: master's receipt less that stamp; peer to peer: the delay of the link). `sentAt`: by 16 × domain + 4 × port + kind. -/
structure Ptp where
  foreign : List ForeignMaster := []
  slave : List (Nat × Nat) := []
  parent : List (Nat × Announce) := []
  arb : List Nat := []
  syncs : List (Nat × Nat × Int) := []
  delays : List (Nat × List Int) := []
  request : List (Nat × Int) := []
  back : List (Nat × Int) := []
  sentAt : List (Nat × Nat) := []
  deriving DecidableEq, Repr

/-- R339 to R364: time. `wt` is working time, `el` elapsed time without steps (R343), both in ns. `steer` is
the servo's steering accumulator. -/
structure Tim where
  wt : Nat := 0
  el : Nat := 0
  steer : Int := 0
  integral : Int := 0
  phase : Int := 0
  sources : List TimeSource := [{}, {}, {}, {}]
  hadSource : Bool := false
  outOfLockAt : Nat := 0
  bigSince : Option Nat := none
  stepAt : Option (Nat × Option Int) := none
  twinOffset : Int := 0
  twinBigSince : Option Nat := none
  rxMarker : Nat := 0
  ptp : Ptp := {}
  holdSince : Nat := 0
  holdE0 : Nat := 0
  caps : List (Nat × List (Nat × Bool)) := []
  capAlarmAt : List (Nat × Nat) := []
  capEdgeAt : List (Nat × Nat) := []
  armed : List Nat := []
  tp : List (Nat × Nat) := []
  utcOf : List (Nat × Word) := []
  noPulseUntil : Nat := 0
  stepJump : Option (Nat × Int) := none
  deriving DecidableEq, Repr

/-- Levels and latched straps of the pins that no other part holds (R56, R325, R335, R521). `sit0`, `sit1`: the test outputs pulse from the S-die's configuration on. -/
structure Pins where
  safeN : Bool := false
  sit0 : Bool := false
  sit1 : Bool := false
  side : Side := .cope
  testEn : Bool := false
  deriving DecidableEq, Repr

end Sys2Proof.Machine
end

