-- ==== Sys2Proof/Machine/PartsElk.lean ====
section
/-! DEFINITION. State of the Eloaset link and of formations (R434 to R455). Every field's default is its value right after reset. -/
namespace Sys2Proof.Machine

/-- R436, R439: a frame of a port: virtual channel, input it came from (0 ELK0, 1 ELK1, 2 UDP, 3 the local sender), sequence number, how often it has been sent,
the elapsed time at which it was last sent, its length in 64-byte units and its packet. -/
structure ElkFrame where
  vc : Nat
  input : Nat
  seq : Nat
  sends : Nat
  sentAt : Nat
  units : Nat
  packet : Packet
  deriving DecidableEq, Repr

/-- R435 to R439: one port: whether HELLOs have been sent (`saidAt`: the elapsed time of the last) and heard since it was last not up, frames that wait for credits, frames not acknowledged, and
by virtual channel the next sequence numbers, the units sent, the units the neighbour has freed and those this end has freed. -/
structure ElkPort where
  said : Bool := false
  saidAt : Option Nat := none
  heard : Option Nat := none
  lostAt : Nat := 0
  crcRun : Nat := 0
  queue : List ElkFrame := []
  held : List ElkFrame := []
  txSeq : List (Nat × Nat) := []
  rxSeq : List (Nat × Nat) := []
  sent : List (Nat × Nat) := []
  freed : List (Nat × Nat) := []
  freeing : List (Nat × Nat) := []
  lastVc : Nat := 3
  lastInput : List (Nat × Nat) := []
  deriving DecidableEq, Repr

/-- R440 to R451: routing, publications and subscriptions. `txHop` and `rxHop` are by 4 × peer + virtual channel; `udpFree` is the elapsed time at which the
queue of a peer is empty; `table` lists subscribers with the elapsed time of their last SUB, `acks` units with that of their last accepting SUB_ACK, `failed` the units whose subscription timed out, `subAt` the elapsed time of the last SUBs; `bufs` holds the
publications of each open epoch by unit; `units` is the newest merged set, `epoch` its epoch. -/
structure Elk where
  ports : List (Nat × ElkPort) := []
  txHop : List (Nat × Nat) := []
  rxHop : List (Nat × Nat) := []
  udpFree : List (Nat × Nat) := []
  seqs : List (Nat × Nat) := []
  table : List (Nat × Nat) := []
  acks : List (Nat × Nat) := []
  bufs : List (Nat × List (Nat × List Word)) := []
  closedTo : Nat := 0
  epoch : Nat := 0
  units : List (Nat × List Word) := []
  degraded : List Nat := []
  early : Nat := 0
  alarmAt : List (Nat × Nat) := []
  startedAt : Nat := 0
  subAt : Option Nat := none
  failed : List Nat := []
  deriving DecidableEq, Repr

end Sys2Proof.Machine
end

