-- ==== Sys2Proof/Machine/PartsField.lean ====
section
/-! DEFINITION. State of the field channels and of the loop engine. Every field's default is its value right after reset. -/
namespace Sys2Proof.Machine

/-- R401: a CIC filter of order 5: its integrators and combs, 56 bits each, and the codes taken since its last output. -/
structure Cic where
  integrators : List Nat := [0, 0, 0, 0, 0]
  combs : List Nat := [0, 0, 0, 0, 0]
  phase : Nat := 0
  deriving DecidableEq, Repr

/-- R399 to R414: one field channel. `settle`: output samples still suppressed. `newest`: stamp, instant and RAW of the newest sample. `cand`: the newest
sample that can be the item of the cycle. `lastAt`: the instant of its last output period. `cic`, `fir`: its decimation chain, the newest CIC output first.
`edges`: the last edges of a frequency input, newest first, at most two of them before the last output period. `lines`, `count`: the levels and the count
of an encoder. `timers`: the elapsed times since which conditions (0 WIRE_BREAK, 1 SHORT, 2 OVER, 3 RB_ERR) differ from their status bits. `testLeft`, `testRaw`: the reference samples that a test injection still needs, and its last one. -/
structure FChan where
  lastAt : Nat := 0
  cic : Cic := {}
  fir : List Int := []
  edges : List Nat := []
  lines : Bool × Bool := (false, false)
  count : Int := 0
  timers : List (Nat × Nat) := []
  testLeft : Nat := 0
  testRaw : Int := 0
  settle : Nat := 0
  newest : Option (Nat × Nat × Int) := none
  cand : Option (Nat × Nat × Int) := none
  deriving DecidableEq, Repr

/-- R397 to R416: the field die. `driven`: outputs that drive. `ready`: boot step 10 has ended, so that outputs without a lease drive. `sparesOut`: clusters
whose spare engine is used or retired. -/
structure FieldDie where
  chans : List (Nat × FChan) := []
  driven : List Nat := []
  ready : Bool := false
  sparesOut : List Nat := []
  deriving DecidableEq, Repr

/-- R195 to R200: one loop slot; values are signed Q8.24. `halted`: 0 runs, 1 a fault drives 0 per-unit, 2 and its thruster has become unavailable. -/
structure LoopSlot where
  i : Int := 0
  uPrev : Int := 0
  fbPrev : Int := 0
  df : Int := 0
  lag : Int := 0
  samples : Nat := 0
  lastAt : Nat := 0
  fe : Option Nat := none
  pl : Option Nat := none
  feFault : Bool := false
  plFault : Bool := false
  chFault : Bool := false
  halted : Nat := 0
  deriving DecidableEq, Repr

end Sys2Proof.Machine
end

