-- ==== Sys2Proof/Machine/PartsHealth.lean ====
section
/-! DEFINITION. State of self-test, sparing, ageing and the thermal model (R472 to R490). Every field's default is its value right after reset. -/
namespace Sys2Proof.Machine

/-- R472 to R484: pairs, banks, counts and the anneal pass. Pair numbers are those of SELFTEST word 0: 0 keeper, 1 to 5 FUSION0 to
FUSION4, 6 to 8 CONTROL0 to CONTROL2, 9 link, 10 safety. `fusionSpareNext` and `controlSpareNext`: the spare of the group takes over at the next freeze; `discarded`
holds the steps of the cycle whose results a failed pair has lost (R11). `shadowAt`: the elapsed time at which each cluster's shadow began. `checkAt`: the elapsed times of the last end of the checks of R472, by check;
`railOut`: since when a rail has been outside its window; `trimAt`: the elapsed time of the last trim step.
Memory numbers: 0 system SRAM, 1 mould store, 2 lane-local, 3 capture, 4 MRAM. -/
structure Hlt where
  pairsOut : List Nat := []
  fusionSpareUsed : Bool := false
  controlSpareUsed : Bool := false
  fusionSpareNext : Bool := false
  controlSpareNext : Bool := false
  discarded : List Nat := []
  mismatches : Nat := 0
  katNext : Nat := 0
  katFails : Nat := 0
  shadowChan : Nat := 0
  shadowNext : List (Nat × Nat) := []
  shadowOf : List (Nat × Nat) := []
  shadowVote : List (Nat × Nat) := []
  shadowAt : List (Nat × Nat) := []
  engineNext : List (Nat × Nat) := []
  engineTest : List (Nat × Nat) := []
  shadowMism : Nat := 0
  engineMism : Nat := 0
  injChan : Nat := 0
  injPassed : Bool := false
  injRunning : List Nat := []
  injFails : List (Nat × Nat) := []
  scrubPasses : Nat := 0
  corrHour : List (Nat × Nat) := []
  corrLast : List (Nat × Nat) := []
  bankCorr : List (Nat × Nat) := []
  eccCorr : Nat := 0
  eccUncorr : Nat := 0
  bankCopy : Option (Nat × Nat) := none
  bankSwitch : Option (Nat × Nat) := none
  railsBad : List Nat := []
  trimPlan : List (Nat × Nat) := []
  leastSlack : List (Nat × Int) := []
  exhaustedRaised : List Nat := []
  sinceCal : Nat := 0
  deviceFault : Bool := false
  checkAt : List (Nat × Nat) := []
  railOut : List (Nat × Nat) := []
  trimAt : Option Nat := none
  deriving DecidableEq, Repr

/-- R485 to R490: the thermal model. `nodes` and `tref` are in 10⁻⁹ °C. `updatedAt`, `trackedAt`: the last update and the last tracking. Times are elapsed ns. -/
structure Thm where
  nodes : List Int := [0, 0, 0, 0, 0, 0, 0, 0]
  tref : Int := 0
  diodes : List Int := []
  badDiodes : List Nat := [0, 1, 2, 3]
  tmax : Int := 0
  cycleMax : Int := 0
  latchedAt : Option Nat := none
  coolSince : Option Nat := none
  warned : Bool := false
  updatedAt : Option Nat := none
  trackedAt : Option Nat := none
  deriving DecidableEq, Repr

end Sys2Proof.Machine
end

