-- ==== Sys2Proof/Machine/PartsNet.lean ====
section
/-! DEFINITION. State of the Ethernet ports, the CAN controllers and the serial ports. Every field's default is its value right after reset. -/
namespace Sys2Proof.Machine

/-- R372: a datagram delivered from a LAN: its key, its port and its stamp. -/
structure Recent where
  src : Nat
  srcPort : Nat
  dstPort : Nat
  payload : List Byte
  port : Nat
  stamp : Nat
  deriving DecidableEq, Repr

/-- R367: a datagram that waits for its address to be resolved. -/
structure Waiting where
  hop : Nat
  svc : Bool
  dest : Nat
  kind : MsgKind
  data : List Int
  since : Nat
  deriving DecidableEq, Repr

/-- R378: the last request of a client with its stored response. -/
structure SvcLast where
  seq : Nat
  stamp : Nat
  response : List Int
  deriving DecidableEq, Repr

/-- R369: a frame that waits in one of the five transmit queues of a port. -/
structure TxFrame where
  port : Nat
  queue : Nat
  kind : MsgKind
  data : List Int
  deriving DecidableEq, Repr

/-- R366 to R380: the Ethernet ports. `txq`: the frames in the transmit queues, oldest first; `batching`: a pour is filling them. `arp`: the resolved
addresses, oldest first, `arpInfo` their MAC addresses and when they were last asked for. `polledAt`, `windowAt`: the elapsed time of a port's last PHY
poll and of the end of its last receive window. `window` counts frames in the present 10 ms by port, `limitAt` is the elapsed time of the last alarm 0x0603 by port,
`prp` the drop windows: MAC address, sequence number, elapsed time. `mdio`: PHY and register of the read that runs. `toSend`: State Image fragments of the
last publication not yet sent. -/
structure Net where
  window : List (Nat × Nat) := []
  limitAt : List (Nat × Nat) := []
  prp : List (Nat × Nat × Nat) := []
  prpFull : Bool := false
  recent : List Recent := []
  arp : List Nat := []
  arpInfo : List (Nat × Nat × Nat) := []
  txq : List TxFrame := []
  batching : Bool := false
  polledAt : List (Nat × Nat) := []
  windowAt : List (Nat × Nat) := []
  waiting : List Waiting := []
  clients : List (Nat × SvcLast) := []
  mdio : Option (Nat × Nat) := none
  lineCount : Nat := 0
  pours : Nat := 0
  toSend : Nat := 0
  deriving DecidableEq, Repr

/-- R389: a fast packet that is being reassembled. `since` is elapsed time. -/
structure FastPacket where
  source : Nat
  pgn : Nat
  seqCount : Nat
  next : Nat
  total : Nat
  bytes : List Byte
  first : Nat
  since : Nat
  deriving DecidableEq, Repr

/-- R387: a frame in a transmit buffer of a channel: its object, if it is one's, its first word as in a queue element (identifier, IDE, FDF, BRS), its
data, the elapsed time at which it fell due, and whether it is the reference message. -/
structure CanTx where
  object : Option Nat
  head : Nat
  data : List Byte
  due : Nat
  isRef : Bool
  deriving DecidableEq, Repr

/-- R381 to R391: one CAN channel. `tx`: the transmit buffers that hold a frame, `busyTill`: the elapsed time at which the frame on the bus ends,
`replaced` counts replaced frames, `txAlarmAt`: elapsed time of the last alarm 0x0708, `recAt`: when recovery from bus-off began. `q1` holds elements of 20
words, head first. `boffAt`: elapsed time of entry into bus-off, `recovering` its recovery runs, `abandoned` counts fast packets. -/
structure CanChan where
  q1 : List (List Word) := []
  fast : List FastPacket := []
  fpAlarmAt : Option Nat := none
  abandoned : Nat := 0
  boffAt : Option Nat := none
  recovering : Bool := false
  recAt : Nat := 0
  tx : List CanTx := []
  busyTill : Nat := 0
  replaced : Nat := 0
  txAlarmAt : Option Nat := none
  deriving DecidableEq, Repr

/-- R385: one CAN receive object: completion stamp, first stamp and data of the newest frame and of the one before it, and the elapsed time of the newest. -/
structure CanObj where
  newest : Option (Nat × Nat × List Byte) := none
  older : Option (Nat × Nat × List Byte) := none
  lastAt : Nat := 0
  timedOut : Bool := false
  deriving DecidableEq, Repr

/-- R381 to R391: the CAN controllers. `readback`: the newest frame of a loop object, by object (R197): stamp and data. -/
structure Can where
  chans : List (Nat × CanChan) := []
  objs : List (Nat × CanObj) := []
  readback : List (Nat × (Nat × List Byte)) := []
  deriving DecidableEq, Repr

/-- R392 to R395: the serial ports. `charAt`: elapsed time of the last alarm 0x0802 by port. `busyTill`: the elapsed time at which a port's output burst ends. -/
structure Spt where
  charAt : List (Nat × Nat) := []
  busyTill : List (Nat × Nat) := []
  deriving DecidableEq, Repr

end Sys2Proof.Machine
end

