-- ==== Sys2Proof/Machine/PartsTwin.lean ====
section
/-! DEFINITION. State of twin operation and of the safety die. Every field's default is its value right after reset. -/
namespace Sys2Proof.Machine

/-- R278 to R284: input agreement. `own` and `theirs` hold items of this cycle and of the next one, by their epoch. `partialItem`: an
item of the partner of which that many fragments have arrived. -/
structure Agr where
  own : List Item := []
  theirs : List Item := []
  arrivals : List (Nat × Nat) := []
  closed : Bool := false
  ownSet : List Item := []
  closeRx : Option (Nat × Nat × Word) := none
  agreeRx : Option (Nat × Bool × Bool × Word) := none
  decided : Bool := false
  agreed : List Item := []
  partialItem : Option (Item × Nat) := none
  deriving DecidableEq, Repr

/-- R272: a twin-link frame that waits for credits or for its acknowledgement: virtual channel, sequence number, units of buffer, kind and data. -/
structure TwinFrame where
  vc : Nat
  seq : Nat
  units : Nat
  kind : MsgKind
  data : List Int
  deriving DecidableEq, Repr

/-- R272 to R274: the twin link: frames that wait, frames not acknowledged, and by virtual channel the next sequence numbers, the units sent, the units the
partner has freed and those this end has freed of its receive buffers (R273); by lane the run of CRC failures. -/
structure TwinLink where
  queue : List TwinFrame := []
  held : List TwinFrame := []
  txSeq : List (Nat × Nat) := []
  rxSeq : List (Nat × Nat) := []
  sent : List (Nat × Nat) := []
  freed : List (Nat × Nat) := []
  freeing : List (Nat × Nat) := []
  crcRun : List (Nat × Nat) := []
  deriving DecidableEq, Repr

/-- R272 to R306: the twin link, the partner, the comparison, the Ladle lease and resynchronisation. Times are elapsed ns. `peerNow` is the
newest state of the partner that a frame showed, 7 for none; `downSince`: since when no lane has been up, until the link is reported down; `copy`: the
frozen copy of the twin state (R301); `rxSend` the send time of the newest RENEW received, with the paths of its copies;
`ownTime` this device's own time status at the freeze, `timeStatus` the lead side's agreed one and `brakeMasks` the applied brakes of each side (R459). -/
structure Twn where
  link : TwinLink := {}
  downSince : Option Nat := some 0
  helloAt : Option Nat := none
  copy : List TwinChunk := []
  ownNonce : Nat := 0
  peer : Option Hello := none
  answered : Bool := false
  ladleEp : Nat := 0
  holder : Option Side := none
  startAt : Option (Nat × Nat) := none
  copeReport : List Word := []
  dragReport : List Word := []
  peerMissing : Nat := 2
  peerBrakes : List Word := []
  selfL : Bool := false
  selfE : Bool := false
  selfS : Bool := false
  ownCompare : Option CompareMsg := none
  peerCompare : Option CompareMsg := none
  ownVerdict : Option VerdictMsg := none
  peerVerdict : Option VerdictMsg := none
  arbRow : Nat := 0
  row2Before : Bool := false
  repeatPour : Bool := false
  unexplained : List Nat := []
  renewRxAt : Option Nat := none
  renewSentAt : Option Nat := none
  ackTwin : Bool := false
  ackLan : Bool := false
  takeOver : Bool := false
  partnerWantsCopy : Bool := false
  requested : Bool := false
  copyDueBy : Option Nat := none
  joining : Option Nat := none
  outOfStepFromBoot : Bool := false
  peerNow : Nat := 7
  laneLost : List (Nat × Nat) := []
  rxSend : Nat := 0
  rxTwin : Bool := false
  rxLan : Bool := false
  ownTime : List Word := []
  timeStatus : List Word := []
  brakeMasks : List (Nat × Nat) := []
  deriving DecidableEq, Repr

/-- R314 to R324: one brake channel. `degr`: stuck switch, 0 none, 1 HS, 2 LS, 3 both. -/
structure Brake where
  hs : Bool := false
  ls : Bool := false
  fault : Bool := false
  overcurrent : Bool := false
  degr : Nat := 0
  expired : Bool := false
  connHeld : List Nat := []
  goodTests : Nat := 0
  testStep : Nat := 0
  testAt : Option Nat := none
  testBad : Bool := false
  stoppedSince : Option Nat := none
  dueRaised : Bool := false
  deriving DecidableEq, Repr

/-- R325 to R328: one safe input pair. Times are elapsed ns. -/
structure SafePair where
  demand : Bool := true
  disc : Bool := false
  pulse : List Bool := []
  passes : Nat := 0
  outTogether : Bool := false
  firstBack : Option Nat := none
  differSince : Option Nat := none
  deriving DecidableEq, Repr

/-- R332: a first good copy that waits for the copy from the other LAN: whether it came on LAN B, its bytes and its elapsed time of arrival. -/
structure WaitingCopy where
  lanB : Bool
  bytes : List Byte
  since : Nat
  deriving DecidableEq, Repr

/-- R331 to R333: one safe data connection. `accepted`: the frame accepted last. -/
structure SafeConn where
  lastSeq : Option Nat := none
  accepted : List Byte := []
  waiting : List WaitingCopy := []
  run : Nat := 0
  lastAt : Nat := 0
  timedOut : Bool := false
  deriving DecidableEq, Repr

/-- R323: a brake test: channel, hold time in s, phase 0 (waiting for the freeze) to 4, its start and the encoder counts moved. -/
structure BrakeTest where
  chan : Nat
  hold : Nat
  phase : Nat
  phaseAt : Nat
  moved : Nat
  deriving DecidableEq, Repr

/-- R308 to R336: the safety die. `params` is the SAFETY section as the S-die accepted it (R309); `pulseAt`: the elapsed time of SIT0's
last pulse; `unmatched`: the copies dropped because no receive connection matches them (R331). -/
structure Saf where
  params : List (Nat × List Word) := []
  leaseFrom : Option Nat := none
  brakes : List Brake := [{}, {}, {}, {}, {}, {}, {}, {}]
  pairs : List SafePair := [{}, {}, {}, {}, {}, {}, {}, {}, {}, {}, {}, {}, {}, {}, {}, {}]
  conns : List SafeConn := [{}, {}, {}, {}, {}, {}, {}, {}, {}, {}, {}, {}, {}, {}, {}, {}]
  txSeq : List (Nat × Nat) := []
  test : Option BrakeTest := none
  ownFault : Bool := false
  prevThrust : List Int := []
  pulseAt : Option Nat := none
  unmatched : Nat := 0
  verdictPass : Bool := false
  handed : Bool := false
  deriving DecidableEq, Repr

end Sys2Proof.Machine
end

