-- ==== Sys2Proof/Machine/RegMap.lean ====
section
/-! DEFINITION. The register map: the address of every register (R33 and the register headings of each chapter), and a handle for every field (R2, R3). -/
namespace Sys2Proof.Machine

/-- A bit field [hi:lo] of the register at `addr` (R2). -/
structure Fld where
  addr : Nat
  hi : Nat
  lo : Nat
  deriving DecidableEq, Repr

/-- Address of GLB_DEVID (block GLB). -/
def A_GLB_DEVID : Nat := 0x0
def F_GLB_DEVID_PART : Fld := ⟨A_GLB_DEVID, 31, 16⟩
def F_GLB_DEVID_FAMILY : Fld := ⟨A_GLB_DEVID, 15, 12⟩
def F_GLB_DEVID_STEP : Fld := ⟨A_GLB_DEVID, 7, 0⟩
/-- Address of GLB_SERIAL0 (block GLB). -/
def A_GLB_SERIAL0 : Nat := 0x4
def F_GLB_SERIAL0_SERIAL_LO : Fld := ⟨A_GLB_SERIAL0, 31, 0⟩
/-- Address of GLB_SERIAL1 (block GLB). -/
def A_GLB_SERIAL1 : Nat := 0x8
def F_GLB_SERIAL1_SERIAL_HI : Fld := ⟨A_GLB_SERIAL1, 31, 0⟩
/-- Address of GLB_STATUS (block GLB). -/
def A_GLB_STATUS : Nat := 0xc
def F_GLB_STATUS_CLKMON_EVT : Fld := ⟨A_GLB_STATUS, 19, 19⟩
def F_GLB_STATUS_REFIN_EVT : Fld := ⟨A_GLB_STATUS, 18, 18⟩
def F_GLB_STATUS_UNLOCK_EVT : Fld := ⟨A_GLB_STATUS, 17, 17⟩
def F_GLB_STATUS_CLKMON_OK : Fld := ⟨A_GLB_STATUS, 3, 3⟩
def F_GLB_STATUS_REFIN_OK : Fld := ⟨A_GLB_STATUS, 2, 2⟩
def F_GLB_STATUS_PLL_LOCK : Fld := ⟨A_GLB_STATUS, 1, 1⟩
def F_GLB_STATUS_SIDE : Fld := ⟨A_GLB_STATUS, 0, 0⟩
/-- Address of KPR_BOOTSTAT (block KPR). -/
def A_KPR_BOOTSTAT : Nat := 0x10000
def F_KPR_BOOTSTAT_ELAPSED_MS : Fld := ⟨A_KPR_BOOTSTAT, 31, 16⟩
def F_KPR_BOOTSTAT_STEP : Fld := ⟨A_KPR_BOOTSTAT, 11, 8⟩
def F_KPR_BOOTSTAT_STATE : Fld := ⟨A_KPR_BOOTSTAT, 2, 0⟩
/-- Address of KPR_PATTERN (block KPR). -/
def A_KPR_PATTERN : Nat := 0x10004
def F_KPR_PATTERN_B_STAGE : Fld := ⟨A_KPR_PATTERN, 11, 8⟩
def F_KPR_PATTERN_A_STAGE : Fld := ⟨A_KPR_PATTERN, 7, 4⟩
def F_KPR_PATTERN_SLOT : Fld := ⟨A_KPR_PATTERN, 1, 0⟩
/-- Address of KPR_SEQ (block KPR). -/
def A_KPR_SEQ : Nat := 0x10008
def F_KPR_SEQ_SEQ : Fld := ⟨A_KPR_SEQ, 31, 0⟩
/-- Address of KPR_PATID (block KPR). -/
def A_KPR_PATID (i : Nat) : Nat := 0x10010 + 4 * i
def F_KPR_PATID_PATID (i : Nat) : Fld := ⟨A_KPR_PATID i, 31, 0⟩
/-- Address of KPR_RESETCAUSE (block KPR). -/
def A_KPR_RESETCAUSE : Nat := 0x10020
def F_KPR_RESETCAUSE_ORDER : Fld := ⟨A_KPR_RESETCAUSE, 3, 3⟩
def F_KPR_RESETCAUSE_WDOG : Fld := ⟨A_KPR_RESETCAUSE, 2, 2⟩
def F_KPR_RESETCAUSE_NRST : Fld := ⟨A_KPR_RESETCAUSE, 1, 1⟩
def F_KPR_RESETCAUSE_POR : Fld := ⟨A_KPR_RESETCAUSE, 0, 0⟩
/-- Address of KPR_LOCK (block KPR). -/
def A_KPR_LOCK : Nat := 0x10024
def F_KPR_LOCK_LOCKED : Fld := ⟨A_KPR_LOCK, 0, 0⟩
/-- Address of KPR_APPCTL (block KPR). -/
def A_KPR_APPCTL : Nat := 0x10028
def F_KPR_APPCTL_APP1_RST : Fld := ⟨A_KPR_APPCTL, 1, 1⟩
def F_KPR_APPCTL_APP0_RST : Fld := ⟨A_KPR_APPCTL, 0, 0⟩
/-- Address of KPR_DEVKEY (block KPR). -/
def A_KPR_DEVKEY (i : Nat) : Nat := 0x10040 + 4 * i
def F_KPR_DEVKEY_DEVKEY (i : Nat) : Fld := ⟨A_KPR_DEVKEY i, 31, 0⟩
/-- Address of KPR_FLW_CTRL (block KPR). -/
def A_KPR_FLW_CTRL : Nat := 0x10080
def F_KPR_FLW_CTRL_REJECT : Fld := ⟨A_KPR_FLW_CTRL, 10, 10⟩
def F_KPR_FLW_CTRL_ERR : Fld := ⟨A_KPR_FLW_CTRL, 9, 9⟩
def F_KPR_FLW_CTRL_BUSY : Fld := ⟨A_KPR_FLW_CTRL, 8, 8⟩
def F_KPR_FLW_CTRL_CMD : Fld := ⟨A_KPR_FLW_CTRL, 1, 0⟩
/-- Address of KPR_FLW_ADDR (block KPR). -/
def A_KPR_FLW_ADDR : Nat := 0x10084
def F_KPR_FLW_ADDR_ADDR : Fld := ⟨A_KPR_FLW_ADDR, 25, 0⟩
/-- Address of KPR_FLW_BUF (block KPR). -/
def A_KPR_FLW_BUF (i : Nat) : Nat := 0x10100 + 4 * i
def F_KPR_FLW_BUF_DATA (i : Nat) : Fld := ⟨A_KPR_FLW_BUF i, 31, 0⟩
/-- Address of CTL_STATE (block CTL). -/
def A_CTL_STATE : Nat := 0x400000
def F_CTL_STATE_COMMAND : Fld := ⟨A_CTL_STATE, 23, 16⟩
def F_CTL_STATE_LADLE : Fld := ⟨A_CTL_STATE, 8, 8⟩
def F_CTL_STATE_MODE : Fld := ⟨A_CTL_STATE, 6, 4⟩
def F_CTL_STATE_STATE : Fld := ⟨A_CTL_STATE, 2, 0⟩
/-- Address of CTL_DEGR (block CTL). -/
def A_CTL_DEGR : Nat := 0x400004
def F_CTL_DEGR_COND : Fld := ⟨A_CTL_DEGR, 9, 0⟩
/-- Address of CTL_OMB_BUF (block CTL). -/
def A_CTL_OMB_BUF (i : Nat) (j : Nat) : Nat := 0x400100 + 256 * i + 4 * j
def F_CTL_OMB_BUF_DATA (i : Nat) (j : Nat) : Fld := ⟨A_CTL_OMB_BUF i j, 31, 0⟩
/-- Address of CTL_OMB_CTRL (block CTL). -/
def A_CTL_OMB_CTRL (i : Nat) : Nat := 0x400140 + 256 * i
def F_CTL_OMB_CTRL_RESULT (i : Nat) : Fld := ⟨A_CTL_OMB_CTRL i, 15, 8⟩
def F_CTL_OMB_CTRL_DONE (i : Nat) : Fld := ⟨A_CTL_OMB_CTRL i, 2, 2⟩
def F_CTL_OMB_CTRL_PEND (i : Nat) : Fld := ⟨A_CTL_OMB_CTRL i, 1, 1⟩
def F_CTL_OMB_CTRL_SUBMIT (i : Nat) : Fld := ⟨A_CTL_OMB_CTRL i, 0, 0⟩
/-- Address of GNS_CH_CFG (block GNS). -/
def A_GNS_CH_CFG (i : Nat) : Nat := 0x200000 + 64 * i
def F_GNS_CH_CFG_STATE (i : Nat) : Fld := ⟨A_GNS_CH_CFG i, 26, 24⟩
def F_GNS_CH_CFG_GLO_K (i : Nat) : Fld := ⟨A_GNS_CH_CFG i, 17, 14⟩
def F_GNS_CH_CFG_SV (i : Nat) : Fld := ⟨A_GNS_CH_CFG i, 13, 8⟩
def F_GNS_CH_CFG_ANT (i : Nat) : Fld := ⟨A_GNS_CH_CFG i, 6, 5⟩
def F_GNS_CH_CFG_SIG (i : Nat) : Fld := ⟨A_GNS_CH_CFG i, 4, 0⟩
/-- Address of GNS_CH_STAT (block GNS). -/
def A_GNS_CH_STAT (i : Nat) : Nat := 0x200004 + 64 * i
def F_GNS_CH_STAT_STAT (i : Nat) : Fld := ⟨A_GNS_CH_STAT i, 31, 0⟩
/-- Address of GNS_CH_DOP (block GNS). -/
def A_GNS_CH_DOP (i : Nat) : Nat := 0x200008 + 64 * i
def F_GNS_CH_DOP_DOPPLER (i : Nat) : Fld := ⟨A_GNS_CH_DOP i, 31, 0⟩
/-- Address of GNS_CH_TAPS (block GNS). -/
def A_GNS_CH_TAPS (i : Nat) : Nat := 0x20000c + 64 * i
def F_GNS_CH_TAPS_M2 (i : Nat) : Fld := ⟨A_GNS_CH_TAPS i, 31, 24⟩
def F_GNS_CH_TAPS_M1 (i : Nat) : Fld := ⟨A_GNS_CH_TAPS i, 23, 16⟩
def F_GNS_CH_TAPS_VEL (i : Nat) : Fld := ⟨A_GNS_CH_TAPS i, 15, 8⟩
def F_GNS_CH_TAPS_EL (i : Nat) : Fld := ⟨A_GNS_CH_TAPS i, 7, 0⟩
/-- Address of GNS_STATUS (block GNS). -/
def A_GNS_STATUS : Nat := 0x210000
def F_GNS_STATUS_NTRACK : Fld := ⟨A_GNS_STATUS, 24, 16⟩
def F_GNS_STATUS_JAM : Fld := ⟨A_GNS_STATUS, 3, 3⟩
def F_GNS_STATUS_SPOOF : Fld := ⟨A_GNS_STATUS, 2, 2⟩
def F_GNS_STATUS_BUDGET : Fld := ⟨A_GNS_STATUS, 1, 1⟩
def F_GNS_STATUS_RUN : Fld := ⟨A_GNS_STATUS, 0, 0⟩
/-- Address of GNS_EVENT (block GNS). -/
def A_GNS_EVENT : Nat := 0x210004
def F_GNS_EVENT_PARK_CHK : Fld := ⟨A_GNS_EVENT, 8, 8⟩
def F_GNS_EVENT_CH_RETIRED : Fld := ⟨A_GNS_EVENT, 7, 7⟩
def F_GNS_EVENT_SNAP_MISSED : Fld := ⟨A_GNS_EVENT, 6, 6⟩
def F_GNS_EVENT_SNAP_DONE : Fld := ⟨A_GNS_EVENT, 5, 5⟩
def F_GNS_EVENT_SPOOF_EVT : Fld := ⟨A_GNS_EVENT, 4, 4⟩
def F_GNS_EVENT_SUSPECT_EVT : Fld := ⟨A_GNS_EVENT, 3, 3⟩
def F_GNS_EVENT_JAM_EVT : Fld := ⟨A_GNS_EVENT, 2, 2⟩
def F_GNS_EVENT_NOTCH_ON : Fld := ⟨A_GNS_EVENT, 1, 1⟩
def F_GNS_EVENT_ANT_FAULT : Fld := ⟨A_GNS_EVENT, 0, 0⟩
/-- Address of GNS_ANT (block GNS). -/
def A_GNS_ANT : Nat := 0x210008
def F_GNS_ANT_V5 (b : Nat) : Fld := ⟨A_GNS_ANT, 2 + 8 * b, 2 + 8 * b⟩
def F_GNS_ANT_STATE (b : Nat) : Fld := ⟨A_GNS_ANT, 1 + 8 * b, 0 + 8 * b⟩
/-- Address of GNS_ANT_I (block GNS). -/
def A_GNS_ANT_I : Nat := 0x21000c
def F_GNS_ANT_I_CURRENT (b : Nat) : Fld := ⟨A_GNS_ANT_I, 7 + 8 * b, 0 + 8 * b⟩
/-- Address of GNS_STREAM (block GNS). -/
def A_GNS_STREAM (i : Nat) : Nat := 0x210010 + 4 * i
def F_GNS_STREAM_NOTCHES (i : Nat) : Fld := ⟨A_GNS_STREAM i, 19, 16⟩
def F_GNS_STREAM_NOISE_RISE (i : Nat) : Fld := ⟨A_GNS_STREAM i, 15, 8⟩
def F_GNS_STREAM_AGC_GAIN (i : Nat) : Fld := ⟨A_GNS_STREAM i, 7, 0⟩
/-- Address of GNS_NOTCH (block GNS). -/
def A_GNS_NOTCH (i : Nat) (j : Nat) : Nat := 0x210040 + 16 * i + 4 * j
def F_GNS_NOTCH_ON (i : Nat) (j : Nat) : Fld := ⟨A_GNS_NOTCH i j, 31, 31⟩
def F_GNS_NOTCH_DEPTH (i : Nat) (j : Nat) : Fld := ⟨A_GNS_NOTCH i j, 29, 24⟩
def F_GNS_NOTCH_FREQ (i : Nat) (j : Nat) : Fld := ⟨A_GNS_NOTCH i j, 23, 0⟩
/-- Address of GNS_CHECK (block GNS). -/
def A_GNS_CHECK : Nat := 0x210100
def F_GNS_CHECK_NSUSPECT : Fld := ⟨A_GNS_CHECK, 23, 16⟩
def F_GNS_CHECK_DIST : Fld := ⟨A_GNS_CHECK, 6, 6⟩
def F_GNS_CHECK_CLK : Fld := ⟨A_GNS_CHECK, 5, 5⟩
def F_GNS_CHECK_ISB : Fld := ⟨A_GNS_CHECK, 4, 4⟩
def F_GNS_CHECK_PWR_RX : Fld := ⟨A_GNS_CHECK, 3, 3⟩
def F_GNS_CHECK_PWR_SIG : Fld := ⟨A_GNS_CHECK, 2, 2⟩
def F_GNS_CHECK_AOA_RX : Fld := ⟨A_GNS_CHECK, 1, 1⟩
def F_GNS_CHECK_AOA_SIG : Fld := ⟨A_GNS_CHECK, 0, 0⟩
/-- Address of GNS_SNAP_CTRL (block GNS). -/
def A_GNS_SNAP_CTRL : Nat := 0x210200
def F_GNS_SNAP_CTRL_SNAP_ID : Fld := ⟨A_GNS_SNAP_CTRL, 31, 16⟩
def F_GNS_SNAP_CTRL_CAPTURING : Fld := ⟨A_GNS_SNAP_CTRL, 9, 9⟩
def F_GNS_SNAP_CTRL_HELD : Fld := ⟨A_GNS_SNAP_CTRL, 8, 8⟩
def F_GNS_SNAP_CTRL_RELEASE : Fld := ⟨A_GNS_SNAP_CTRL, 1, 1⟩
def F_GNS_SNAP_CTRL_TRIGGER : Fld := ⟨A_GNS_SNAP_CTRL, 0, 0⟩
/-- Address of GNS_SNAP_MISS (block GNS). -/
def A_GNS_SNAP_MISS : Nat := 0x210204
def F_GNS_SNAP_MISS_MISSED : Fld := ⟨A_GNS_SNAP_MISS, 15, 0⟩
/-- Address of GNS_SNAP_PAGE (block GNS). -/
def A_GNS_SNAP_PAGE : Nat := 0x210208
def F_GNS_SNAP_PAGE_PAGE : Fld := ⟨A_GNS_SNAP_PAGE, 9, 0⟩
/-- Address of GNS_SNAP_WIN (block GNS). -/
def A_GNS_SNAP_WIN (i : Nat) : Nat := 0x211000 + 4 * i
def F_GNS_SNAP_WIN_DATA (i : Nat) : Fld := ⟨A_GNS_SNAP_WIN i, 31, 0⟩
/-- Address of FUS_STATUS (block FUS). -/
def A_FUS_STATUS : Nat := 0x300000
def F_FUS_STATUS_UPDATED : Fld := ⟨A_FUS_STATUS, 21, 16⟩
def F_FUS_STATUS_VALID : Fld := ⟨A_FUS_STATUS, 13, 8⟩
def F_FUS_STATUS_DR_HDG : Fld := ⟨A_FUS_STATUS, 1, 1⟩
def F_FUS_STATUS_DR_POS : Fld := ⟨A_FUS_STATUS, 0, 0⟩
/-- Address of FUS_EVENT (block FUS). -/
def A_FUS_EVENT : Nat := 0x300004
def F_FUS_EVENT_CAL_BOUND : Fld := ⟨A_FUS_EVENT, 4, 4⟩
def F_FUS_EVENT_TBD : Fld := ⟨A_FUS_EVENT, 3, 3⟩
def F_FUS_EVENT_DR : Fld := ⟨A_FUS_EVENT, 2, 2⟩
def F_FUS_EVENT_SLAG : Fld := ⟨A_FUS_EVENT, 1, 1⟩
def F_FUS_EVENT_TIMEOUT : Fld := ⟨A_FUS_EVENT, 0, 0⟩
/-- Address of FUS_SLAG0 (block FUS). -/
def A_FUS_SLAG0 : Nat := 0x300008
def F_FUS_SLAG0_SLOTS : Fld := ⟨A_FUS_SLAG0, 31, 0⟩
/-- Address of FUS_SLAG1 (block FUS). -/
def A_FUS_SLAG1 : Nat := 0x30000c
def F_FUS_SLAG1_SLOTS : Fld := ⟨A_FUS_SLAG1, 15, 0⟩
/-- Address of FUS_LEAD0 (block FUS). -/
def A_FUS_LEAD0 : Nat := 0x300010
def F_FUS_LEAD0_LEAD (b : Nat) : Fld := ⟨A_FUS_LEAD0, 7 + 8 * b, 0 + 8 * b⟩
/-- Address of FUS_LEAD1 (block FUS). -/
def A_FUS_LEAD1 : Nat := 0x300014
def F_FUS_LEAD1_LEAD (b : Nat) : Fld := ⟨A_FUS_LEAD1, 7 + 8 * b, 0 + 8 * b⟩
/-- Address of FUS_SLOT_STAT (block FUS). -/
def A_FUS_SLOT_STAT (i : Nat) : Nat := 0x300100 + 16 * i
def F_FUS_SLOT_STAT_SIDE_DRAG (i : Nat) : Fld := ⟨A_FUS_SLOT_STAT i, 18, 18⟩
def F_FUS_SLOT_STAT_TBD (i : Nat) : Fld := ⟨A_FUS_SLOT_STAT i, 17, 17⟩
def F_FUS_SLOT_STAT_HELD (i : Nat) : Fld := ⟨A_FUS_SLOT_STAT i, 16, 16⟩
def F_FUS_SLOT_STAT_REASON (i : Nat) : Fld := ⟨A_FUS_SLOT_STAT i, 10, 8⟩
def F_FUS_SLOT_STAT_STATE (i : Nat) : Fld := ⟨A_FUS_SLOT_STAT i, 2, 0⟩
/-- Address of FUS_SLOT_NIS (block FUS). -/
def A_FUS_SLOT_NIS (i : Nat) : Nat := 0x300104 + 16 * i
def F_FUS_SLOT_NIS_NIS (i : Nat) : Fld := ⟨A_FUS_SLOT_NIS i, 15, 0⟩
/-- Address of FUS_SLOT_CNT (block FUS). -/
def A_FUS_SLOT_CNT (i : Nat) : Nat := 0x300108 + 16 * i
def F_FUS_SLOT_CNT_STALE (i : Nat) : Fld := ⟨A_FUS_SLOT_CNT i, 31, 24⟩
def F_FUS_SLOT_CNT_DROPPED (i : Nat) : Fld := ⟨A_FUS_SLOT_CNT i, 23, 16⟩
def F_FUS_SLOT_CNT_BADMSG (i : Nat) : Fld := ⟨A_FUS_SLOT_CNT i, 15, 0⟩
/-- Address of CTL_CSTAT (block CTL). -/
def A_CTL_CSTAT : Nat := 0x400400
def F_CTL_CSTAT_TEST : Fld := ⟨A_CTL_CSTAT, 13, 13⟩
def F_CTL_CSTAT_MP : Fld := ⟨A_CTL_CSTAT, 12, 12⟩
def F_CTL_CSTAT_FE_HDG : Fld := ⟨A_CTL_CSTAT, 11, 11⟩
def F_CTL_CSTAT_FE_POS : Fld := ⟨A_CTL_CSTAT, 10, 10⟩
def F_CTL_CSTAT_TRACK_END : Fld := ⟨A_CTL_CSTAT, 9, 9⟩
def F_CTL_CSTAT_WFF_RAMP : Fld := ⟨A_CTL_CSTAT, 8, 8⟩
def F_CTL_CSTAT_FIXED_GAIN : Fld := ⟨A_CTL_CSTAT, 7, 7⟩
def F_CTL_CSTAT_REUSE : Fld := ⟨A_CTL_CSTAT, 6, 4⟩
def F_CTL_CSTAT_REGULARISED : Fld := ⟨A_CTL_CSTAT, 3, 3⟩
def F_CTL_CSTAT_DB_HDG : Fld := ⟨A_CTL_CSTAT, 2, 2⟩
def F_CTL_CSTAT_DB_POS : Fld := ⟨A_CTL_CSTAT, 1, 1⟩
def F_CTL_CSTAT_INT_HOLD : Fld := ⟨A_CTL_CSTAT, 0, 0⟩
/-- Address of CTL_REF (block CTL). -/
def A_CTL_REF (i : Nat) : Nat := 0x400404 + 4 * i
def F_CTL_REF_REF (i : Nat) : Fld := ⟨A_CTL_REF i, 31, 0⟩
/-- Address of CTL_DEMAND (block CTL). -/
def A_CTL_DEMAND (i : Nat) : Nat := 0x400410 + 4 * i
def F_CTL_DEMAND_TAU (i : Nat) : Fld := ⟨A_CTL_DEMAND i, 31, 0⟩
/-- Address of CTL_TEST (block CTL). -/
def A_CTL_TEST : Nat := 0x400420
def F_CTL_TEST_SAMPLES : Fld := ⟨A_CTL_TEST, 16, 0⟩
/-- Address of CTL_CAP_PAGE (block CTL). -/
def A_CTL_CAP_PAGE : Nat := 0x400424
def F_CTL_CAP_PAGE_PAGE : Fld := ⟨A_CTL_CAP_PAGE, 8, 0⟩
/-- Address of CTL_CAP_WIN (block CTL). -/
def A_CTL_CAP_WIN (i : Nat) : Nat := 0x401000 + 4 * i
def F_CTL_CAP_WIN_DATA (i : Nat) : Fld := ⟨A_CTL_CAP_WIN i, 31, 0⟩
/-- Address of LOOP_EVENT (block LOOP). -/
def A_LOOP_EVENT : Nat := 0x480008
def F_LOOP_EVENT_CH_FAULT : Fld := ⟨A_LOOP_EVENT, 2, 2⟩
def F_LOOP_EVENT_PL : Fld := ⟨A_LOOP_EVENT, 1, 1⟩
def F_LOOP_EVENT_FE : Fld := ⟨A_LOOP_EVENT, 0, 0⟩
/-- Address of LOOP_FAULT0 (block LOOP). -/
def A_LOOP_FAULT0 : Nat := 0x480010
def F_LOOP_FAULT0_SLOTS : Fld := ⟨A_LOOP_FAULT0, 31, 0⟩
/-- Address of LOOP_FAULT1 (block LOOP). -/
def A_LOOP_FAULT1 : Nat := 0x480014
def F_LOOP_FAULT1_SLOTS : Fld := ⟨A_LOOP_FAULT1, 31, 0⟩
/-- Address of LOOP_CLAMP0 (block LOOP). -/
def A_LOOP_CLAMP0 : Nat := 0x480018
def F_LOOP_CLAMP0_SLOTS : Fld := ⟨A_LOOP_CLAMP0, 31, 0⟩
/-- Address of LOOP_CLAMP1 (block LOOP). -/
def A_LOOP_CLAMP1 : Nat := 0x48001c
def F_LOOP_CLAMP1_SLOTS : Fld := ⟨A_LOOP_CLAMP1, 31, 0⟩
/-- Address of LOOP_DRIVE0 (block LOOP). -/
def A_LOOP_DRIVE0 : Nat := 0x480020
def F_LOOP_DRIVE0_SLOTS : Fld := ⟨A_LOOP_DRIVE0, 31, 0⟩
/-- Address of LOOP_DRIVE1 (block LOOP). -/
def A_LOOP_DRIVE1 : Nat := 0x480024
def F_LOOP_DRIVE1_SLOTS : Fld := ⟨A_LOOP_DRIVE1, 31, 0⟩
/-- Address of LOOP_SLOT_CFG (block LOOP). -/
def A_LOOP_SLOT_CFG (i : Nat) : Nat := 0x481000 + 64 * i
def F_LOOP_SLOT_CFG_FAULT_ACT (i : Nat) : Fld := ⟨A_LOOP_SLOT_CFG i, 25, 25⟩
def F_LOOP_SLOT_CFG_THR (i : Nat) : Fld := ⟨A_LOOP_SLOT_CFG i, 24, 20⟩
def F_LOOP_SLOT_CFG_SP_SRC (i : Nat) : Fld := ⟨A_LOOP_SLOT_CFG i, 19, 19⟩
def F_LOOP_SLOT_CFG_OUT_CH (i : Nat) : Fld := ⟨A_LOOP_SLOT_CFG i, 18, 12⟩
def F_LOOP_SLOT_CFG_OUT_KIND (i : Nat) : Fld := ⟨A_LOOP_SLOT_CFG i, 11, 11⟩
def F_LOOP_SLOT_CFG_IN_CH (i : Nat) : Fld := ⟨A_LOOP_SLOT_CFG i, 10, 4⟩
def F_LOOP_SLOT_CFG_PERIOD (i : Nat) : Fld := ⟨A_LOOP_SLOT_CFG i, 3, 1⟩
def F_LOOP_SLOT_CFG_EN (i : Nat) : Fld := ⟨A_LOOP_SLOT_CFG i, 0, 0⟩
/-- Address of LOOP_SLOT_KP (block LOOP). -/
def A_LOOP_SLOT_KP (i : Nat) : Nat := 0x481004 + 64 * i
def F_LOOP_SLOT_KP_VALUE (i : Nat) : Fld := ⟨A_LOOP_SLOT_KP i, 31, 0⟩
/-- Address of LOOP_SLOT_KI (block LOOP). -/
def A_LOOP_SLOT_KI (i : Nat) : Nat := 0x481008 + 64 * i
def F_LOOP_SLOT_KI_VALUE (i : Nat) : Fld := ⟨A_LOOP_SLOT_KI i, 31, 0⟩
/-- Address of LOOP_SLOT_KD (block LOOP). -/
def A_LOOP_SLOT_KD (i : Nat) : Nat := 0x48100c + 64 * i
def F_LOOP_SLOT_KD_VALUE (i : Nat) : Fld := ⟨A_LOOP_SLOT_KD i, 31, 0⟩
/-- Address of LOOP_SLOT_KFF (block LOOP). -/
def A_LOOP_SLOT_KFF (i : Nat) : Nat := 0x481010 + 64 * i
def F_LOOP_SLOT_KFF_VALUE (i : Nat) : Fld := ⟨A_LOOP_SLOT_KFF i, 31, 0⟩
/-- Address of LOOP_SLOT_OUT_MIN (block LOOP). -/
def A_LOOP_SLOT_OUT_MIN (i : Nat) : Nat := 0x481014 + 64 * i
def F_LOOP_SLOT_OUT_MIN_VALUE (i : Nat) : Fld := ⟨A_LOOP_SLOT_OUT_MIN i, 31, 0⟩
/-- Address of LOOP_SLOT_OUT_MAX (block LOOP). -/
def A_LOOP_SLOT_OUT_MAX (i : Nat) : Nat := 0x481018 + 64 * i
def F_LOOP_SLOT_OUT_MAX_VALUE (i : Nat) : Fld := ⟨A_LOOP_SLOT_OUT_MAX i, 31, 0⟩
/-- Address of LOOP_SLOT_OUT_RATE (block LOOP). -/
def A_LOOP_SLOT_OUT_RATE (i : Nat) : Nat := 0x48101c + 64 * i
def F_LOOP_SLOT_OUT_RATE_VALUE (i : Nat) : Fld := ⟨A_LOOP_SLOT_OUT_RATE i, 31, 0⟩
/-- Address of LOOP_SLOT_IN_SCALE (block LOOP). -/
def A_LOOP_SLOT_IN_SCALE (i : Nat) : Nat := 0x481020 + 64 * i
def F_LOOP_SLOT_IN_SCALE_VALUE (i : Nat) : Fld := ⟨A_LOOP_SLOT_IN_SCALE i, 31, 0⟩
/-- Address of LOOP_SLOT_IN_OFS (block LOOP). -/
def A_LOOP_SLOT_IN_OFS (i : Nat) : Nat := 0x481024 + 64 * i
def F_LOOP_SLOT_IN_OFS_VALUE (i : Nat) : Fld := ⟨A_LOOP_SLOT_IN_OFS i, 31, 0⟩
/-- Address of LOOP_SLOT_SUPV (block LOOP). -/
def A_LOOP_SLOT_SUPV (i : Nat) : Nat := 0x481028 + 64 * i
def F_LOOP_SLOT_SUPV_PL_LIM (i : Nat) : Fld := ⟨A_LOOP_SLOT_SUPV i, 31, 16⟩
def F_LOOP_SLOT_SUPV_FE_LIM (i : Nat) : Fld := ⟨A_LOOP_SLOT_SUPV i, 15, 0⟩
/-- Address of LOOP_SLOT_SUPV_T (block LOOP). -/
def A_LOOP_SLOT_SUPV_T (i : Nat) : Nat := 0x48102c + 64 * i
def F_LOOP_SLOT_SUPV_T_PL_TIME (i : Nat) : Fld := ⟨A_LOOP_SLOT_SUPV_T i, 31, 16⟩
def F_LOOP_SLOT_SUPV_T_FE_TIME (i : Nat) : Fld := ⟨A_LOOP_SLOT_SUPV_T i, 15, 0⟩
/-- Address of LOOP_SLOT_PLTAU (block LOOP). -/
def A_LOOP_SLOT_PLTAU (i : Nat) : Nat := 0x481030 + 64 * i
def F_LOOP_SLOT_PLTAU_PL_TAU (i : Nat) : Fld := ⟨A_LOOP_SLOT_PLTAU i, 15, 0⟩
/-- Address of LOOP_SLOT_SP (block LOOP). -/
def A_LOOP_SLOT_SP (i : Nat) : Nat := 0x481034 + 64 * i
def F_LOOP_SLOT_SP_VALUE (i : Nat) : Fld := ⟨A_LOOP_SLOT_SP i, 31, 0⟩
/-- Address of LOOP_SLOT_FB (block LOOP). -/
def A_LOOP_SLOT_FB (i : Nat) : Nat := 0x481038 + 64 * i
def F_LOOP_SLOT_FB_VALUE (i : Nat) : Fld := ⟨A_LOOP_SLOT_FB i, 31, 0⟩
/-- Address of LOOP_SLOT_OUT (block LOOP). -/
def A_LOOP_SLOT_OUT (i : Nat) : Nat := 0x48103c + 64 * i
def F_LOOP_SLOT_OUT_VALUE (i : Nat) : Fld := ⟨A_LOOP_SLOT_OUT i, 31, 0⟩
/-- Address of CTL_ALC_STAT (block CTL). -/
def A_CTL_ALC_STAT : Nat := 0x400800
def F_CTL_ALC_STAT_WORST : Fld := ⟨A_CTL_ALC_STAT, 31, 24⟩
def F_CTL_ALC_STAT_NOUT : Fld := ⟨A_CTL_ALC_STAT, 23, 16⟩
def F_CTL_ALC_STAT_NSHAPE : Fld := ⟨A_CTL_ALC_STAT, 15, 8⟩
def F_CTL_ALC_STAT_ADVISORY : Fld := ⟨A_CTL_ALC_STAT, 4, 4⟩
def F_CTL_ALC_STAT_REDUCED : Fld := ⟨A_CTL_ALC_STAT, 3, 3⟩
def F_CTL_ALC_STAT_REGULARISED : Fld := ⟨A_CTL_ALC_STAT, 2, 2⟩
def F_CTL_ALC_STAT_SHORT : Fld := ⟨A_CTL_ALC_STAT, 1, 1⟩
def F_CTL_ALC_STAT_FALLBACK : Fld := ⟨A_CTL_ALC_STAT, 0, 0⟩
/-- Address of CTL_BOX (block CTL). -/
def A_CTL_BOX (i : Nat) : Nat := 0x400804 + 4 * i
def F_CTL_BOX_BOX (i : Nat) : Fld := ⟨A_CTL_BOX i, 31, 0⟩
/-- Address of CTL_AVAIL (block CTL). -/
def A_CTL_AVAIL : Nat := 0x400810
def F_CTL_AVAIL_AVAIL : Fld := ⟨A_CTL_AVAIL, 31, 0⟩
/-- Address of CTL_SCEN_SUM (block CTL). -/
def A_CTL_SCEN_SUM : Nat := 0x400814
def F_CTL_SCEN_SUM_NEXT : Fld := ⟨A_CTL_SCEN_SUM, 31, 24⟩
def F_CTL_SCEN_SUM_EVAL : Fld := ⟨A_CTL_SCEN_SUM, 23, 16⟩
def F_CTL_SCEN_SUM_COVER : Fld := ⟨A_CTL_SCEN_SUM, 15, 8⟩
def F_CTL_SCEN_SUM_NSCEN : Fld := ⟨A_CTL_SCEN_SUM, 7, 0⟩
/-- Address of CTL_ALC_EVENT (block CTL). -/
def A_CTL_ALC_EVENT : Nat := 0x400818
def F_CTL_ALC_EVENT_UNAVAIL : Fld := ⟨A_CTL_ALC_EVENT, 3, 3⟩
def F_CTL_ALC_EVENT_SHORT_EVT : Fld := ⟨A_CTL_ALC_EVENT, 2, 2⟩
def F_CTL_ALC_EVENT_FALLBACK_EVT : Fld := ⟨A_CTL_ALC_EVENT, 1, 1⟩
def F_CTL_ALC_EVENT_OUT_EVT : Fld := ⟨A_CTL_ALC_EVENT, 0, 0⟩
/-- Address of CTL_THR_CMD (block CTL). -/
def A_CTL_THR_CMD (i : Nat) : Nat := 0x402000 + 16 * i
def F_CTL_THR_CMD_THRUST (i : Nat) : Fld := ⟨A_CTL_THR_CMD i, 31, 0⟩
/-- Address of CTL_THR_ANG (block CTL). -/
def A_CTL_THR_ANG (i : Nat) : Nat := 0x402004 + 16 * i
def F_CTL_THR_ANG_ANGLE (i : Nat) : Fld := ⟨A_CTL_THR_ANG i, 31, 0⟩
/-- Address of CTL_THR_STAT (block CTL). -/
def A_CTL_THR_STAT (i : Nat) : Nat := 0x402008 + 16 * i
def F_CTL_THR_STAT_SWING (i : Nat) : Fld := ⟨A_CTL_THR_STAT i, 5, 5⟩
def F_CTL_THR_STAT_AZ_LIM (i : Nat) : Fld := ⟨A_CTL_THR_STAT i, 4, 4⟩
def F_CTL_THR_STAT_RATE_LIM (i : Nat) : Fld := ⟨A_CTL_THR_STAT i, 3, 3⟩
def F_CTL_THR_STAT_T_LIM (i : Nat) : Fld := ⟨A_CTL_THR_STAT i, 2, 2⟩
def F_CTL_THR_STAT_READY (i : Nat) : Fld := ⟨A_CTL_THR_STAT i, 1, 1⟩
def F_CTL_THR_STAT_AVAIL (i : Nat) : Fld := ⟨A_CTL_THR_STAT i, 0, 0⟩
/-- Address of CTL_THR_PWR (block CTL). -/
def A_CTL_THR_PWR (i : Nat) : Nat := 0x40200c + 16 * i
def F_CTL_THR_PWR_POWER (i : Nat) : Fld := ⟨A_CTL_THR_PWR i, 31, 0⟩
/-- Address of CTL_SCEN_W (block CTL). -/
def A_CTL_SCEN_W (i : Nat) (j : Nat) : Nat := 0x403010 + 16 * i + 4 * j
def F_CTL_SCEN_W_ENTRY (i : Nat) (j : Nat) : Fld := ⟨A_CTL_SCEN_W i j, 31, 0⟩
/-- Address of SLV_STATUS (block SLV). -/
def A_SLV_STATUS : Nat := 0x500000
def F_SLV_STATUS_SPARES : Fld := ⟨A_SLV_STATUS, 27, 24⟩
def F_SLV_STATUS_LANES : Fld := ⟨A_SLV_STATUS, 22, 16⟩
def F_SLV_STATUS_INFLIGHT : Fld := ⟨A_SLV_STATUS, 8, 0⟩
/-- Address of SLV_EVENT (block SLV). -/
def A_SLV_EVENT : Nat := 0x500004
def F_SLV_EVENT_HEADROOM : Fld := ⟨A_SLV_EVENT, 7, 7⟩
def F_SLV_EVENT_LANE_RETIRED : Fld := ⟨A_SLV_EVENT, 6, 6⟩
def F_SLV_EVENT_FILL_REJ : Fld := ⟨A_SLV_EVENT, 5, 5⟩
def F_SLV_EVENT_REFUSED : Fld := ⟨A_SLV_EVENT, 4, 4⟩
def F_SLV_EVENT_DEADLINE_EVT : Fld := ⟨A_SLV_EVENT, 3, 3⟩
def F_SLV_EVENT_CLAMP_EVT : Fld := ⟨A_SLV_EVENT, 2, 2⟩
def F_SLV_EVENT_OVERFLOW_EVT : Fld := ⟨A_SLV_EVENT, 1, 1⟩
def F_SLV_EVENT_BATCH_DONE : Fld := ⟨A_SLV_EVENT, 0, 0⟩
/-- Address of SLV_SUBMIT (block SLV). -/
def A_SLV_SUBMIT : Nat := 0x500008
def F_SLV_SUBMIT_DESC : Fld := ⟨A_SLV_SUBMIT, 21, 6⟩
/-- Address of SLV_FILL (block SLV). -/
def A_SLV_FILL : Nat := 0x50000c
def F_SLV_FILL_FILL : Fld := ⟨A_SLV_FILL, 21, 2⟩
/-- Address of SLV_COLD_CNT (block SLV). -/
def A_SLV_COLD_CNT : Nat := 0x500010
def F_SLV_COLD_CNT_COUNT : Fld := ⟨A_SLV_COLD_CNT, 31, 0⟩
/-- Address of SLV_CLAMP_CNT (block SLV). -/
def A_SLV_CLAMP_CNT : Nat := 0x500014
def F_SLV_CLAMP_CNT_COUNT : Fld := ⟨A_SLV_CLAMP_CNT, 31, 0⟩
/-- Address of SLV_OVF_CNT (block SLV). -/
def A_SLV_OVF_CNT : Nat := 0x500018
def F_SLV_OVF_CNT_COUNT : Fld := ⟨A_SLV_OVF_CNT, 31, 0⟩
/-- Address of SLV_RESTART_CNT (block SLV). -/
def A_SLV_RESTART_CNT : Nat := 0x50001c
def F_SLV_RESTART_CNT_COUNT : Fld := ⟨A_SLV_RESTART_CNT, 31, 0⟩
/-- Address of SLV_ECC_CNT (block SLV). -/
def A_SLV_ECC_CNT : Nat := 0x500020
def F_SLV_ECC_CNT_CORRECTED : Fld := ⟨A_SLV_ECC_CNT, 15, 0⟩
/-- Address of SLV_FILLQ (block SLV). -/
def A_SLV_FILLQ : Nat := 0x500024
def F_SLV_FILLQ_HELD : Fld := ⟨A_SLV_FILLQ, 16, 16⟩
def F_SLV_FILLQ_DEPTH : Fld := ⟨A_SLV_FILLQ, 9, 0⟩
/-- Address of SLV_LANEMAP (block SLV). -/
def A_SLV_LANEMAP (i : Nat) : Nat := 0x500040 + 4 * i
def F_SLV_LANEMAP_LANE (i : Nat) (b : Nat) : Fld := ⟨A_SLV_LANEMAP i, 1 + 2 * b, 0 + 2 * b⟩
/-- Address of SLV_KAT (block SLV). -/
def A_SLV_KAT : Nat := 0x500060
def F_SLV_KAT_PASS : Fld := ⟨A_SLV_KAT, 8, 8⟩
def F_SLV_KAT_LANE : Fld := ⟨A_SLV_KAT, 6, 0⟩
/-- Address of SLV_PROB_STAT (block SLV). -/
def A_SLV_PROB_STAT (i : Nat) : Nat := 0x501000 + 4 * i
def F_SLV_PROB_STAT_MOULD (i : Nat) : Fld := ⟨A_SLV_PROB_STAT i, 27, 20⟩
def F_SLV_PROB_STAT_LANE (i : Nat) : Fld := ⟨A_SLV_PROB_STAT i, 18, 12⟩
def F_SLV_PROB_STAT_FLAGS (i : Nat) : Fld := ⟨A_SLV_PROB_STAT i, 11, 4⟩
def F_SLV_PROB_STAT_STATUS (i : Nat) : Fld := ⟨A_SLV_PROB_STAT i, 3, 0⟩
/-- Address of SLV_MOULD_INFO (block SLV). -/
def A_SLV_MOULD_INFO (i : Nat) : Nat := 0x502000 + 16 * i
def F_SLV_MOULD_INFO_INFLIGHT (i : Nat) : Fld := ⟨A_SLV_MOULD_INFO i, 23, 16⟩
def F_SLV_MOULD_INFO_COPIES (i : Nat) : Fld := ⟨A_SLV_MOULD_INFO i, 11, 10⟩
def F_SLV_MOULD_INFO_STAGED (i : Nat) : Fld := ⟨A_SLV_MOULD_INFO i, 9, 9⟩
def F_SLV_MOULD_INFO_PRESENT (i : Nat) : Fld := ⟨A_SLV_MOULD_INFO i, 8, 8⟩
def F_SLV_MOULD_INFO_N (i : Nat) : Fld := ⟨A_SLV_MOULD_INFO i, 7, 0⟩
/-- Address of SLV_MOULD_HASH (block SLV). -/
def A_SLV_MOULD_HASH (i : Nat) : Nat := 0x502004 + 16 * i
def F_SLV_MOULD_HASH_HASH (i : Nat) : Fld := ⟨A_SLV_MOULD_HASH i, 31, 0⟩
/-- Address of SLV_MOULD_HEAD (block SLV). -/
def A_SLV_MOULD_HEAD (i : Nat) : Nat := 0x502008 + 16 * i
def F_SLV_MOULD_HEAD_AN_STORE (i : Nat) : Fld := ⟨A_SLV_MOULD_HEAD i, 31, 24⟩
def F_SLV_MOULD_HEAD_AN_ACC (i : Nat) : Fld := ⟨A_SLV_MOULD_HEAD i, 23, 16⟩
def F_SLV_MOULD_HEAD_MIN_STORE (i : Nat) : Fld := ⟨A_SLV_MOULD_HEAD i, 15, 8⟩
def F_SLV_MOULD_HEAD_MIN_ACC (i : Nat) : Fld := ⟨A_SLV_MOULD_HEAD i, 7, 0⟩
/-- Address of TWN_STATUS (block TWN). -/
def A_TWN_STATUS : Nat := 0x40000
def F_TWN_STATUS_PEER_STATE : Fld := ⟨A_TWN_STATUS, 23, 21⟩
def F_TWN_STATUS_PEER_MET : Fld := ⟨A_TWN_STATUS, 19, 19⟩
def F_TWN_STATUS_SYNCING : Fld := ⟨A_TWN_STATUS, 18, 18⟩
def F_TWN_STATUS_SPLIT : Fld := ⟨A_TWN_STATUS, 17, 17⟩
def F_TWN_STATUS_IN_STEP : Fld := ⟨A_TWN_STATUS, 16, 16⟩
def F_TWN_STATUS_LANES : Fld := ⟨A_TWN_STATUS, 11, 10⟩
def F_TWN_STATUS_LINK_UP : Fld := ⟨A_TWN_STATUS, 9, 9⟩
def F_TWN_STATUS_LEAD : Fld := ⟨A_TWN_STATUS, 8, 8⟩
def F_TWN_STATUS_HOLDER : Fld := ⟨A_TWN_STATUS, 1, 1⟩
def F_TWN_STATUS_PAIRED : Fld := ⟨A_TWN_STATUS, 0, 0⟩
/-- Address of TWN_EVENT (block TWN). -/
def A_TWN_EVENT : Nat := 0x40004
def F_TWN_EVENT_LAN_ONLY : Fld := ⟨A_TWN_EVENT, 9, 9⟩
def F_TWN_EVENT_SYNC_FAIL : Fld := ⟨A_TWN_EVENT, 8, 8⟩
def F_TWN_EVENT_SYNC_DONE : Fld := ⟨A_TWN_EVENT, 7, 7⟩
def F_TWN_EVENT_TAKEOVER : Fld := ⟨A_TWN_EVENT, 6, 6⟩
def F_TWN_EVENT_HANDOVER : Fld := ⟨A_TWN_EVENT, 5, 5⟩
def F_TWN_EVENT_MISMATCH : Fld := ⟨A_TWN_EVENT, 4, 4⟩
def F_TWN_EVENT_OOS : Fld := ⟨A_TWN_EVENT, 3, 3⟩
def F_TWN_EVENT_EXCLUDED : Fld := ⟨A_TWN_EVENT, 2, 2⟩
def F_TWN_EVENT_LINK_DOWN : Fld := ⟨A_TWN_EVENT, 1, 1⟩
def F_TWN_EVENT_LANE_LOST : Fld := ⟨A_TWN_EVENT, 0, 0⟩
/-- Address of TWN_LADLE (block TWN). -/
def A_TWN_LADLE : Nat := 0x40008
def F_TWN_LADLE_LADLE_EP : Fld := ⟨A_TWN_LADLE, 31, 0⟩
/-- Address of TWN_LEASE (block TWN). -/
def A_TWN_LEASE : Nat := 0x4000c
def F_TWN_LEASE_AGE : Fld := ⟨A_TWN_LEASE, 31, 16⟩
def F_TWN_LEASE_LEFT : Fld := ⟨A_TWN_LEASE, 15, 0⟩
/-- Address of TWN_PEER_SER0 (block TWN). -/
def A_TWN_PEER_SER0 : Nat := 0x40010
def F_TWN_PEER_SER0_SERIAL : Fld := ⟨A_TWN_PEER_SER0, 31, 0⟩
/-- Address of TWN_PEER_SER1 (block TWN). -/
def A_TWN_PEER_SER1 : Nat := 0x40014
def F_TWN_PEER_SER1_SERIAL : Fld := ⟨A_TWN_PEER_SER1, 31, 0⟩
/-- Address of TWN_EXEC (block TWN). -/
def A_TWN_EXEC : Nat := 0x40018
def F_TWN_EXEC_EXEC_ID : Fld := ⟨A_TWN_EXEC, 31, 0⟩
/-- Address of TWN_PEER_EXEC (block TWN). -/
def A_TWN_PEER_EXEC : Nat := 0x4001c
def F_TWN_PEER_EXEC_EXEC_ID : Fld := ⟨A_TWN_PEER_EXEC, 31, 0⟩
/-- Address of TWN_ARB (block TWN). -/
def A_TWN_ARB : Nat := 0x40020
def F_TWN_ARB_ROW : Fld := ⟨A_TWN_ARB, 27, 24⟩
def F_TWN_ARB_EPOCH : Fld := ⟨A_TWN_ARB, 23, 0⟩
/-- Address of TWN_CNT_MISM (block TWN). -/
def A_TWN_CNT_MISM : Nat := 0x40024
def F_TWN_CNT_MISM_COUNT : Fld := ⟨A_TWN_CNT_MISM, 31, 0⟩
/-- Address of TWN_CNT_EXCL (block TWN). -/
def A_TWN_CNT_EXCL : Nat := 0x40028
def F_TWN_CNT_EXCL_COUNT : Fld := ⟨A_TWN_CNT_EXCL, 31, 0⟩
/-- Address of TWN_CNT_RETX (block TWN). -/
def A_TWN_CNT_RETX : Nat := 0x4002c
def F_TWN_CNT_RETX_COUNT : Fld := ⟨A_TWN_CNT_RETX, 31, 0⟩
/-- Address of TWN_CNT_CRC (block TWN). -/
def A_TWN_CNT_CRC : Nat := 0x40030
def F_TWN_CNT_CRC_COUNT : Fld := ⟨A_TWN_CNT_CRC, 31, 0⟩
/-- Address of TWN_HLT_OWN (block TWN). -/
def A_TWN_HLT_OWN (i : Nat) : Nat := 0x40100 + 4 * i
def F_TWN_HLT_OWN_DATA (i : Nat) : Fld := ⟨A_TWN_HLT_OWN i, 31, 0⟩
/-- Address of TWN_HLT_PEER (block TWN). -/
def A_TWN_HLT_PEER (i : Nat) : Nat := 0x40200 + 4 * i
def F_TWN_HLT_PEER_DATA (i : Nat) : Fld := ⟨A_TWN_HLT_PEER i, 31, 0⟩
/-- Address of SAF_STATUS (block SAF). -/
def A_SAF_STATUS : Nat := 0x90000
def F_SAF_STATUS_TEST : Fld := ⟨A_SAF_STATUS, 24, 24⟩
def F_SAF_STATUS_BRK_APPLIED : Fld := ⟨A_SAF_STATUS, 23, 16⟩
def F_SAF_STATUS_FAILCNT : Fld := ⟨A_SAF_STATUS, 10, 8⟩
def F_SAF_STATUS_VFLD_LOW : Fld := ⟨A_SAF_STATUS, 6, 6⟩
def F_SAF_STATUS_VERDICT : Fld := ⟨A_SAF_STATUS, 5, 5⟩
def F_SAF_STATUS_LEASE : Fld := ⟨A_SAF_STATUS, 4, 4⟩
def F_SAF_STATUS_GATE : Fld := ⟨A_SAF_STATUS, 3, 2⟩
def F_SAF_STATUS_SAFE : Fld := ⟨A_SAF_STATUS, 0, 0⟩
/-- Address of SAF_CAUSE (block SAF). -/
def A_SAF_CAUSE : Nat := 0x90004
def F_SAF_CAUSE_CAUSE : Fld := ⟨A_SAF_CAUSE, 3, 0⟩
/-- Address of SAF_EVENT (block SAF). -/
def A_SAF_EVENT : Nat := 0x90008
def F_SAF_EVENT_CONN_EVT : Fld := ⟨A_SAF_EVENT, 6, 6⟩
def F_SAF_EVENT_SIP_EVT : Fld := ⟨A_SAF_EVENT, 5, 5⟩
def F_SAF_EVENT_TEST_EVT : Fld := ⟨A_SAF_EVENT, 4, 4⟩
def F_SAF_EVENT_BRK_FAULT : Fld := ⟨A_SAF_EVENT, 3, 3⟩
def F_SAF_EVENT_WITHHELD : Fld := ⟨A_SAF_EVENT, 2, 2⟩
def F_SAF_EVENT_VERDICT_FAIL : Fld := ⟨A_SAF_EVENT, 1, 1⟩
def F_SAF_EVENT_SAFE_EVT : Fld := ⟨A_SAF_EVENT, 0, 0⟩
/-- Address of SAF_VERDICT (block SAF). -/
def A_SAF_VERDICT : Nat := 0x9000c
def F_SAF_VERDICT_EPOCH : Fld := ⟨A_SAF_VERDICT, 31, 8⟩
def F_SAF_VERDICT_CHECKS : Fld := ⟨A_SAF_VERDICT, 3, 0⟩
/-- Address of SAF_SIP (block SAF). -/
def A_SAF_SIP : Nat := 0x90020
def F_SAF_SIP_FAULT : Fld := ⟨A_SAF_SIP, 31, 16⟩
def F_SAF_SIP_DEMAND : Fld := ⟨A_SAF_SIP, 15, 0⟩
/-- Address of SAF_SIP_RAW (block SAF). -/
def A_SAF_SIP_RAW : Nat := 0x90024
def F_SAF_SIP_RAW_B : Fld := ⟨A_SAF_SIP_RAW, 31, 16⟩
def F_SAF_SIP_RAW_A : Fld := ⟨A_SAF_SIP_RAW, 15, 0⟩
/-- Address of SAF_BRK_STAT (block SAF). -/
def A_SAF_BRK_STAT (i : Nat) : Nat := 0x90100 + 16 * i
def F_SAF_BRK_STAT_LS_PCT (i : Nat) : Fld := ⟨A_SAF_BRK_STAT i, 23, 16⟩
def F_SAF_BRK_STAT_HS_PCT (i : Nat) : Fld := ⟨A_SAF_BRK_STAT i, 15, 8⟩
def F_SAF_BRK_STAT_TEST_FAIL (i : Nat) : Fld := ⟨A_SAF_BRK_STAT i, 7, 7⟩
def F_SAF_BRK_STAT_TEST_DUE (i : Nat) : Fld := ⟨A_SAF_BRK_STAT i, 6, 6⟩
def F_SAF_BRK_STAT_OVERCURRENT (i : Nat) : Fld := ⟨A_SAF_BRK_STAT i, 5, 5⟩
def F_SAF_BRK_STAT_DEGR_SW (i : Nat) : Fld := ⟨A_SAF_BRK_STAT i, 4, 3⟩
def F_SAF_BRK_STAT_STATE (i : Nat) : Fld := ⟨A_SAF_BRK_STAT i, 2, 0⟩
/-- Address of SAF_BRK_DEGR (block SAF). -/
def A_SAF_BRK_DEGR (i : Nat) : Nat := 0x90104 + 16 * i
def F_SAF_BRK_DEGR_LEFT_S (i : Nat) : Fld := ⟨A_SAF_BRK_DEGR i, 31, 0⟩
/-- Address of SAF_BRK_TEST (block SAF). -/
def A_SAF_BRK_TEST (i : Nat) : Nat := 0x90108 + 16 * i
def F_SAF_BRK_TEST_MOTION (i : Nat) : Fld := ⟨A_SAF_BRK_TEST i, 31, 16⟩
def F_SAF_BRK_TEST_RESULT (i : Nat) : Fld := ⟨A_SAF_BRK_TEST i, 2, 0⟩
/-- Address of SAF_BRK_AGE (block SAF). -/
def A_SAF_BRK_AGE (i : Nat) : Nat := 0x9010c + 16 * i
def F_SAF_BRK_AGE_HOURS (i : Nat) : Fld := ⟨A_SAF_BRK_AGE i, 31, 0⟩
/-- Address of SAF_CONN_STAT (block SAF). -/
def A_SAF_CONN_STAT (i : Nat) : Nat := 0x90200 + 8 * i
def F_SAF_CONN_STAT_DIFFER (i : Nat) : Fld := ⟨A_SAF_CONN_STAT i, 31, 16⟩
def F_SAF_CONN_STAT_SINGLE (i : Nat) : Fld := ⟨A_SAF_CONN_STAT i, 15, 8⟩
def F_SAF_CONN_STAT_STATE (i : Nat) : Fld := ⟨A_SAF_CONN_STAT i, 1, 0⟩
/-- Address of SAF_CONN_CNT (block SAF). -/
def A_SAF_CONN_CNT (i : Nat) : Nat := 0x90204 + 8 * i
def F_SAF_CONN_CNT_DROPPED (i : Nat) : Fld := ⟨A_SAF_CONN_CNT i, 31, 16⟩
def F_SAF_CONN_CNT_ACCEPTED (i : Nat) : Fld := ⟨A_SAF_CONN_CNT i, 15, 0⟩
/-- Address of TSU_NS (block TSU). -/
def A_TSU_NS : Nat := 0x20000
def F_TSU_NS_NS : Fld := ⟨A_TSU_NS, 31, 0⟩
/-- Address of TSU_EXT (block TSU). -/
def A_TSU_EXT : Nat := 0x20004
def F_TSU_EXT_WRAP : Fld := ⟨A_TSU_EXT, 31, 1⟩
def F_TSU_EXT_HALF : Fld := ⟨A_TSU_EXT, 0, 0⟩
/-- Address of TSU_STATUS (block TSU). -/
def A_TSU_STATUS : Nat := 0x20008
def F_TSU_STATUS_TWIN_OK : Fld := ⟨A_TSU_STATUS, 13, 13⟩
def F_TSU_STATUS_QUAL : Fld := ⟨A_TSU_STATUS, 12, 9⟩
def F_TSU_STATUS_SET : Fld := ⟨A_TSU_STATUS, 8, 8⟩
def F_TSU_STATUS_FREQ_LIM : Fld := ⟨A_TSU_STATUS, 7, 7⟩
def F_TSU_STATUS_SLEWING : Fld := ⟨A_TSU_STATUS, 6, 6⟩
def F_TSU_STATUS_STEP_PEND : Fld := ⟨A_TSU_STATUS, 5, 5⟩
def F_TSU_STATUS_HOLDOVER : Fld := ⟨A_TSU_STATUS, 4, 4⟩
def F_TSU_STATUS_LOCKED : Fld := ⟨A_TSU_STATUS, 3, 3⟩
def F_TSU_STATUS_SRC : Fld := ⟨A_TSU_STATUS, 2, 0⟩
/-- Address of TSU_EVENT (block TSU). -/
def A_TSU_EVENT : Nat := 0x2000c
def F_TSU_EVENT_CAP_OVF : Fld := ⟨A_TSU_EVENT, 6, 6⟩
def F_TSU_EVENT_CMP_LATE : Fld := ⟨A_TSU_EVENT, 5, 5⟩
def F_TSU_EVENT_CONFLICT : Fld := ⟨A_TSU_EVENT, 4, 4⟩
def F_TSU_EVENT_HOLD_OUT : Fld := ⟨A_TSU_EVENT, 3, 3⟩
def F_TSU_EVENT_HOLD_IN : Fld := ⟨A_TSU_EVENT, 2, 2⟩
def F_TSU_EVENT_SRC_CHG : Fld := ⟨A_TSU_EVENT, 1, 1⟩
def F_TSU_EVENT_STEP : Fld := ⟨A_TSU_EVENT, 0, 0⟩
/-- Address of TSU_FREQ (block TSU). -/
def A_TSU_FREQ : Nat := 0x20010
def F_TSU_FREQ_VALUE : Fld := ⟨A_TSU_FREQ, 31, 0⟩
/-- Address of TSU_SLEW (block TSU). -/
def A_TSU_SLEW : Nat := 0x20014
def F_TSU_SLEW_VALUE : Fld := ⟨A_TSU_SLEW, 31, 0⟩
/-- Address of TSU_HOLD_ERR (block TSU). -/
def A_TSU_HOLD_ERR : Nat := 0x20018
def F_TSU_HOLD_ERR_VALUE : Fld := ⟨A_TSU_HOLD_ERR, 31, 0⟩
/-- Address of TSU_HOLD_S (block TSU). -/
def A_TSU_HOLD_S : Nat := 0x2001c
def F_TSU_HOLD_S_VALUE : Fld := ⟨A_TSU_HOLD_S, 31, 0⟩
/-- Address of TSU_SRC_OFS (block TSU). -/
def A_TSU_SRC_OFS (i : Nat) : Nat := 0x20020 + 4 * i
def F_TSU_SRC_OFS_OFS (i : Nat) : Fld := ⟨A_TSU_SRC_OFS i, 31, 0⟩
/-- Address of TSU_PTP_DELAY (block TSU). -/
def A_TSU_PTP_DELAY (i : Nat) : Nat := 0x20030 + 4 * i
def F_TSU_PTP_DELAY_DELAY (i : Nat) : Fld := ⟨A_TSU_PTP_DELAY i, 31, 0⟩
/-- Address of TSU_UTC (block TSU). -/
def A_TSU_UTC : Nat := 0x20038
def F_TSU_UTC_LEAP59 : Fld := ⟨A_TSU_UTC, 18, 18⟩
def F_TSU_UTC_LEAP61 : Fld := ⟨A_TSU_UTC, 17, 17⟩
def F_TSU_UTC_FROM_SRC : Fld := ⟨A_TSU_UTC, 16, 16⟩
def F_TSU_UTC_TAI_UTC : Fld := ⟨A_TSU_UTC, 15, 0⟩
/-- Address of TSU_STEP_LO (block TSU). -/
def A_TSU_STEP_LO : Nat := 0x20040
def F_TSU_STEP_LO_VALUE : Fld := ⟨A_TSU_STEP_LO, 31, 0⟩
/-- Address of TSU_STEP_HI (block TSU). -/
def A_TSU_STEP_HI : Nat := 0x20044
def F_TSU_STEP_HI_VALUE : Fld := ⟨A_TSU_STEP_HI, 31, 0⟩
/-- Address of TSU_STEP_CNT (block TSU). -/
def A_TSU_STEP_CNT : Nat := 0x20048
def F_TSU_STEP_CNT_VALUE : Fld := ⟨A_TSU_STEP_CNT, 31, 0⟩
/-- Address of TSU_CMP_CFG (block TSU). -/
def A_TSU_CMP_CFG (i : Nat) : Nat := 0x20100 + 16 * i
def F_TSU_CMP_CFG_STEPPED (i : Nat) : Fld := ⟨A_TSU_CMP_CFG i, 5, 5⟩
def F_TSU_CMP_CFG_LATE (i : Nat) : Fld := ⟨A_TSU_CMP_CFG i, 4, 4⟩
def F_TSU_CMP_CFG_FIRED (i : Nat) : Fld := ⟨A_TSU_CMP_CFG i, 3, 3⟩
def F_TSU_CMP_CFG_IRQ (i : Nat) : Fld := ⟨A_TSU_CMP_CFG i, 2, 2⟩
def F_TSU_CMP_CFG_MODE (i : Nat) : Fld := ⟨A_TSU_CMP_CFG i, 1, 1⟩
def F_TSU_CMP_CFG_EN (i : Nat) : Fld := ⟨A_TSU_CMP_CFG i, 0, 0⟩
/-- Address of TSU_CMP_TIME (block TSU). -/
def A_TSU_CMP_TIME (i : Nat) : Nat := 0x20104 + 16 * i
def F_TSU_CMP_TIME_VALUE (i : Nat) : Fld := ⟨A_TSU_CMP_TIME i, 31, 0⟩
/-- Address of TSU_CMP_PERIOD (block TSU). -/
def A_TSU_CMP_PERIOD (i : Nat) : Nat := 0x20108 + 16 * i
def F_TSU_CMP_PERIOD_VALUE (i : Nat) : Fld := ⟨A_TSU_CMP_PERIOD i, 31, 0⟩
/-- Address of TSU_CMP_LAST (block TSU). -/
def A_TSU_CMP_LAST (i : Nat) : Nat := 0x2010c + 16 * i
def F_TSU_CMP_LAST_VALUE (i : Nat) : Fld := ⟨A_TSU_CMP_LAST i, 31, 0⟩
/-- Address of TSU_CAP_CFG (block TSU). -/
def A_TSU_CAP_CFG (i : Nat) : Nat := 0x20200 + 16 * i
def F_TSU_CAP_CFG_OVF (i : Nat) : Fld := ⟨A_TSU_CAP_CFG i, 13, 13⟩
def F_TSU_CAP_CFG_HEAD_EDGE (i : Nat) : Fld := ⟨A_TSU_CAP_CFG i, 12, 12⟩
def F_TSU_CAP_CFG_OLD (i : Nat) : Fld := ⟨A_TSU_CAP_CFG i, 11, 11⟩
def F_TSU_CAP_CFG_LEVEL (i : Nat) : Fld := ⟨A_TSU_CAP_CFG i, 10, 8⟩
def F_TSU_CAP_CFG_IRQ (i : Nat) : Fld := ⟨A_TSU_CAP_CFG i, 5, 5⟩
def F_TSU_CAP_CFG_EDGE (i : Nat) : Fld := ⟨A_TSU_CAP_CFG i, 4, 3⟩
def F_TSU_CAP_CFG_SEL (i : Nat) : Fld := ⟨A_TSU_CAP_CFG i, 2, 0⟩
/-- Address of TSU_CAP_NS (block TSU). -/
def A_TSU_CAP_NS (i : Nat) : Nat := 0x20204 + 16 * i
def F_TSU_CAP_NS_NS (i : Nat) : Fld := ⟨A_TSU_CAP_NS i, 31, 0⟩
/-- Address of ETH_STATUS (block ETH). -/
def A_ETH_STATUS : Nat := 0x60000
def F_ETH_STATUS_STI_PUB : Fld := ⟨A_ETH_STATUS, 8, 8⟩
def F_ETH_STATUS_PHY_OK : Fld := ⟨A_ETH_STATUS, 6, 4⟩
def F_ETH_STATUS_LINK : Fld := ⟨A_ETH_STATUS, 2, 0⟩
/-- Address of ETH_EVENT (block ETH). -/
def A_ETH_EVENT : Nat := 0x60004
def F_ETH_EVENT_ARP_FAIL : Fld := ⟨A_ETH_EVENT, 5, 5⟩
def F_ETH_EVENT_STI_ABANDON : Fld := ⟨A_ETH_EVENT, 4, 4⟩
def F_ETH_EVENT_PRP_FULL : Fld := ⟨A_ETH_EVENT, 3, 3⟩
def F_ETH_EVENT_RX_LIMIT : Fld := ⟨A_ETH_EVENT, 2, 2⟩
def F_ETH_EVENT_PHY_FAIL : Fld := ⟨A_ETH_EVENT, 1, 1⟩
def F_ETH_EVENT_LINK_DOWN : Fld := ⟨A_ETH_EVENT, 0, 0⟩
/-- Address of ETH_MDIO (block ETH). -/
def A_ETH_MDIO : Nat := 0x60010
def F_ETH_MDIO_START : Fld := ⟨A_ETH_MDIO, 31, 31⟩
def F_ETH_MDIO_BUSY : Fld := ⟨A_ETH_MDIO, 30, 30⟩
def F_ETH_MDIO_NOACK : Fld := ⟨A_ETH_MDIO, 29, 29⟩
def F_ETH_MDIO_PHY : Fld := ⟨A_ETH_MDIO, 25, 21⟩
def F_ETH_MDIO_REG : Fld := ⟨A_ETH_MDIO, 20, 16⟩
def F_ETH_MDIO_DATA : Fld := ⟨A_ETH_MDIO, 15, 0⟩
/-- Address of ETH_P_RX_OK (block ETH). -/
def A_ETH_P_RX_OK (i : Nat) : Nat := 0x60100 + 32 * i
def F_ETH_P_RX_OK_COUNT (i : Nat) : Fld := ⟨A_ETH_P_RX_OK i, 31, 0⟩
/-- Address of ETH_P_RX_DROP (block ETH). -/
def A_ETH_P_RX_DROP (i : Nat) : Nat := 0x60104 + 32 * i
def F_ETH_P_RX_DROP_COUNT (i : Nat) : Fld := ⟨A_ETH_P_RX_DROP i, 31, 0⟩
/-- Address of ETH_P_RX_ERR (block ETH). -/
def A_ETH_P_RX_ERR (i : Nat) : Nat := 0x60108 + 32 * i
def F_ETH_P_RX_ERR_COUNT (i : Nat) : Fld := ⟨A_ETH_P_RX_ERR i, 31, 0⟩
/-- Address of ETH_P_TX_OK (block ETH). -/
def A_ETH_P_TX_OK (i : Nat) : Nat := 0x6010c + 32 * i
def F_ETH_P_TX_OK_COUNT (i : Nat) : Fld := ⟨A_ETH_P_TX_OK i, 31, 0⟩
/-- Address of ETH_P_DUP (block ETH). -/
def A_ETH_P_DUP (i : Nat) : Nat := 0x60110 + 32 * i
def F_ETH_P_DUP_COUNT (i : Nat) : Fld := ⟨A_ETH_P_DUP i, 31, 0⟩
/-- Address of CAN_STATUS (block CAN). -/
def A_CAN_STATUS (i : Nat) : Nat := 0x70000 + 4096 * i
def F_CAN_STATUS_TEC (i : Nat) : Fld := ⟨A_CAN_STATUS i, 24, 16⟩
def F_CAN_STATUS_REC (i : Nat) : Fld := ⟨A_CAN_STATUS i, 15, 8⟩
def F_CAN_STATUS_STATE (i : Nat) : Fld := ⟨A_CAN_STATUS i, 5, 4⟩
def F_CAN_STATUS_TM (i : Nat) : Fld := ⟨A_CAN_STATUS i, 3, 3⟩
def F_CAN_STATUS_FD (i : Nat) : Fld := ⟨A_CAN_STATUS i, 2, 2⟩
def F_CAN_STATUS_EN (i : Nat) : Fld := ⟨A_CAN_STATUS i, 1, 1⟩
def F_CAN_STATUS_SYNC (i : Nat) : Fld := ⟨A_CAN_STATUS i, 0, 0⟩
/-- Address of CAN_EVENT (block CAN). -/
def A_CAN_EVENT (i : Nat) : Nat := 0x70004 + 4096 * i
def F_CAN_EVENT_RECOVERED (i : Nat) : Fld := ⟨A_CAN_EVENT i, 10, 10⟩
def F_CAN_EVENT_TX_REPLACED (i : Nat) : Fld := ⟨A_CAN_EVENT i, 9, 9⟩
def F_CAN_EVENT_FP_ABANDON (i : Nat) : Fld := ⟨A_CAN_EVENT i, 8, 8⟩
def F_CAN_EVENT_TM_CONFLICT (i : Nat) : Fld := ⟨A_CAN_EVENT i, 7, 7⟩
def F_CAN_EVENT_OBJ_TIMEOUT (i : Nat) : Fld := ⟨A_CAN_EVENT i, 6, 6⟩
def F_CAN_EVENT_Q1_OVF (i : Nat) : Fld := ⟨A_CAN_EVENT i, 5, 5⟩
def F_CAN_EVENT_Q0_OVF (i : Nat) : Fld := ⟨A_CAN_EVENT i, 4, 4⟩
def F_CAN_EVENT_BUSOFF (i : Nat) : Fld := ⟨A_CAN_EVENT i, 3, 3⟩
def F_CAN_EVENT_PASSIVE (i : Nat) : Fld := ⟨A_CAN_EVENT i, 2, 2⟩
def F_CAN_EVENT_REC_WARN (i : Nat) : Fld := ⟨A_CAN_EVENT i, 1, 1⟩
def F_CAN_EVENT_TEC_WARN (i : Nat) : Fld := ⟨A_CAN_EVENT i, 0, 0⟩
/-- Address of CAN_WARN (block CAN). -/
def A_CAN_WARN (i : Nat) : Nat := 0x70008 + 4096 * i
def F_CAN_WARN_REC_WARN (i : Nat) : Fld := ⟨A_CAN_WARN i, 15, 8⟩
def F_CAN_WARN_TEC_WARN (i : Nat) : Fld := ⟨A_CAN_WARN i, 7, 0⟩
/-- Address of CAN_RX_CNT (block CAN). -/
def A_CAN_RX_CNT (i : Nat) : Nat := 0x70010 + 4096 * i
def F_CAN_RX_CNT_COUNT (i : Nat) : Fld := ⟨A_CAN_RX_CNT i, 31, 0⟩
/-- Address of CAN_TX_CNT (block CAN). -/
def A_CAN_TX_CNT (i : Nat) : Nat := 0x70014 + 4096 * i
def F_CAN_TX_CNT_COUNT (i : Nat) : Fld := ⟨A_CAN_TX_CNT i, 31, 0⟩
/-- Address of CAN_ERR_CNT (block CAN). -/
def A_CAN_ERR_CNT (i : Nat) : Nat := 0x70018 + 4096 * i
def F_CAN_ERR_CNT_COUNT (i : Nat) : Fld := ⟨A_CAN_ERR_CNT i, 31, 0⟩
/-- Address of CAN_BOFF_CNT (block CAN). -/
def A_CAN_BOFF_CNT (i : Nat) : Nat := 0x7001c + 4096 * i
def F_CAN_BOFF_CNT_COUNT (i : Nat) : Fld := ⟨A_CAN_BOFF_CNT i, 31, 0⟩
/-- Address of CAN_Q1_STAT (block CAN). -/
def A_CAN_Q1_STAT (i : Nat) : Nat := 0x70020 + 4096 * i
def F_CAN_Q1_STAT_LEVEL (i : Nat) : Fld := ⟨A_CAN_Q1_STAT i, 6, 0⟩
/-- Address of CAN_Q1_CTRL (block CAN). -/
def A_CAN_Q1_CTRL (i : Nat) : Nat := 0x70024 + 4096 * i
def F_CAN_Q1_CTRL_POP (i : Nat) : Fld := ⟨A_CAN_Q1_CTRL i, 0, 0⟩
/-- Address of CAN_Q1_ELEM (block CAN). -/
def A_CAN_Q1_ELEM (i : Nat) (j : Nat) : Nat := 0x70040 + 4096 * i + 4 * j
def F_CAN_Q1_ELEM_DATA (i : Nat) (j : Nat) : Fld := ⟨A_CAN_Q1_ELEM i j, 31, 0⟩
/-- Address of CAN_TM_SOF (block CAN). -/
def A_CAN_TM_SOF (i : Nat) : Nat := 0x700a0 + 4096 * i
def F_CAN_TM_SOF_SOF (i : Nat) : Fld := ⟨A_CAN_TM_SOF i, 31, 0⟩
/-- Address of SPT_CFG (block SPT). -/
def A_SPT_CFG (i : Nat) : Nat := 0x80000 + 256 * i
def F_SPT_CFG_FORMAT (i : Nat) : Fld := ⟨A_SPT_CFG i, 25, 24⟩
def F_SPT_CFG_BAUD (i : Nat) : Fld := ⟨A_SPT_CFG i, 23, 4⟩
def F_SPT_CFG_HALF (i : Nat) : Fld := ⟨A_SPT_CFG i, 3, 3⟩
def F_SPT_CFG_MODE (i : Nat) : Fld := ⟨A_SPT_CFG i, 2, 0⟩
/-- Address of SPT_EVENT (block SPT). -/
def A_SPT_EVENT (i : Nat) : Nat := 0x80004 + 256 * i
def F_SPT_EVENT_OUT_DROP (i : Nat) : Fld := ⟨A_SPT_EVENT i, 2, 2⟩
def F_SPT_EVENT_CHAR_ERR (i : Nat) : Fld := ⟨A_SPT_EVENT i, 1, 1⟩
def F_SPT_EVENT_OVERRUN (i : Nat) : Fld := ⟨A_SPT_EVENT i, 0, 0⟩
/-- Address of SPT_CNT0 (block SPT). -/
def A_SPT_CNT0 (i : Nat) : Nat := 0x80008 + 256 * i
def F_SPT_CNT0_HIGH (i : Nat) : Fld := ⟨A_SPT_CNT0 i, 31, 16⟩
def F_SPT_CNT0_LOW (i : Nat) : Fld := ⟨A_SPT_CNT0 i, 15, 0⟩
/-- Address of SPT_CNT1 (block SPT). -/
def A_SPT_CNT1 (i : Nat) : Nat := 0x8000c + 256 * i
def F_SPT_CNT1_HIGH (i : Nat) : Fld := ⟨A_SPT_CNT1 i, 31, 16⟩
def F_SPT_CNT1_LOW (i : Nat) : Fld := ⟨A_SPT_CNT1 i, 15, 0⟩
/-- Address of FCH_CFG (block FCH). -/
def A_FCH_CFG (i : Nat) : Nat := 0x100000 + 256 * i
def F_FCH_CFG_THRESH (i : Nat) : Fld := ⟨A_FCH_CFG i, 23, 16⟩
def F_FCH_CFG_TRIG (i : Nat) : Fld := ⟨A_FCH_CFG i, 15, 12⟩
def F_FCH_CFG_EOL (i : Nat) : Fld := ⟨A_FCH_CFG i, 11, 11⟩
def F_FCH_CFG_SRC (i : Nat) : Fld := ⟨A_FCH_CFG i, 10, 9⟩
def F_FCH_CFG_LEASE (i : Nat) : Fld := ⟨A_FCH_CFG i, 8, 8⟩
def F_FCH_CFG_RESP (i : Nat) : Fld := ⟨A_FCH_CFG i, 7, 4⟩
def F_FCH_CFG_MODE (i : Nat) : Fld := ⟨A_FCH_CFG i, 3, 0⟩
/-- Address of FCH_STATUS (block FCH). -/
def A_FCH_STATUS (i : Nat) : Nat := 0x100004 + 256 * i
def F_FCH_STATUS_PAIR_B (i : Nat) : Fld := ⟨A_FCH_STATUS i, 11, 11⟩
def F_FCH_STATUS_SPARE (i : Nat) : Fld := ⟨A_FCH_STATUS i, 10, 10⟩
def F_FCH_STATUS_NO_ENGINE (i : Nat) : Fld := ⟨A_FCH_STATUS i, 9, 9⟩
def F_FCH_STATUS_DRIVE (i : Nat) : Fld := ⟨A_FCH_STATUS i, 8, 8⟩
def F_FCH_STATUS_RB_ERR (i : Nat) : Fld := ⟨A_FCH_STATUS i, 7, 7⟩
def F_FCH_STATUS_CLAMP (i : Nat) : Fld := ⟨A_FCH_STATUS i, 6, 6⟩
def F_FCH_STATUS_OVER (i : Nat) : Fld := ⟨A_FCH_STATUS i, 5, 5⟩
def F_FCH_STATUS_SHORT (i : Nat) : Fld := ⟨A_FCH_STATUS i, 4, 4⟩
def F_FCH_STATUS_WIRE_BREAK (i : Nat) : Fld := ⟨A_FCH_STATUS i, 3, 3⟩
def F_FCH_STATUS_CONTACT (i : Nat) : Fld := ⟨A_FCH_STATUS i, 2, 2⟩
def F_FCH_STATUS_SETTLED (i : Nat) : Fld := ⟨A_FCH_STATUS i, 1, 1⟩
def F_FCH_STATUS_VALID (i : Nat) : Fld := ⟨A_FCH_STATUS i, 0, 0⟩
/-- Address of FCH_EVENT (block FCH). -/
def A_FCH_EVENT (i : Nat) : Nat := 0x100008 + 256 * i
def F_FCH_EVENT_LATCHED (i : Nat) : Fld := ⟨A_FCH_EVENT i, 6, 6⟩
def F_FCH_EVENT_RB_EVT (i : Nat) : Fld := ⟨A_FCH_EVENT i, 5, 5⟩
def F_FCH_EVENT_OVL (i : Nat) : Fld := ⟨A_FCH_EVENT i, 4, 4⟩
def F_FCH_EVENT_ENGINE_EVT (i : Nat) : Fld := ⟨A_FCH_EVENT i, 3, 3⟩
def F_FCH_EVENT_OVER_EVT (i : Nat) : Fld := ⟨A_FCH_EVENT i, 2, 2⟩
def F_FCH_EVENT_SHORT_EVT (i : Nat) : Fld := ⟨A_FCH_EVENT i, 1, 1⟩
def F_FCH_EVENT_WB_EVT (i : Nat) : Fld := ⟨A_FCH_EVENT i, 0, 0⟩
/-- Address of FCH_RAW (block FCH). -/
def A_FCH_RAW (i : Nat) : Nat := 0x10000c + 256 * i
def F_FCH_RAW_VALUE (i : Nat) : Fld := ⟨A_FCH_RAW i, 31, 0⟩
/-- Address of FCH_PU (block FCH). -/
def A_FCH_PU (i : Nat) : Nat := 0x100010 + 256 * i
def F_FCH_PU_VALUE (i : Nat) : Fld := ⟨A_FCH_PU i, 31, 0⟩
/-- Address of FCH_MEAS_T (block FCH). -/
def A_FCH_MEAS_T (i : Nat) : Nat := 0x100014 + 256 * i
def F_FCH_MEAS_T_VALUE (i : Nat) : Fld := ⟨A_FCH_MEAS_T i, 31, 0⟩
/-- Address of FCH_LATCH (block FCH). -/
def A_FCH_LATCH (i : Nat) : Nat := 0x100018 + 256 * i
def F_FCH_LATCH_VALUE (i : Nat) : Fld := ⟨A_FCH_LATCH i, 31, 0⟩
/-- Address of FCH_LATCH_T (block FCH). -/
def A_FCH_LATCH_T (i : Nat) : Nat := 0x10001c + 256 * i
def F_FCH_LATCH_T_VALUE (i : Nat) : Fld := ⟨A_FCH_LATCH_T i, 31, 0⟩
/-- Address of FCH_OUT (block FCH). -/
def A_FCH_OUT (i : Nat) : Nat := 0x100020 + 256 * i
def F_FCH_OUT_PU (i : Nat) : Fld := ⟨A_FCH_OUT i, 31, 0⟩
/-- Address of FCH_CMD (block FCH). -/
def A_FCH_CMD (i : Nat) : Nat := 0x100024 + 256 * i
def F_FCH_CMD_PU (i : Nat) : Fld := ⟨A_FCH_CMD i, 31, 0⟩
/-- Address of FCH_RB (block FCH). -/
def A_FCH_RB (i : Nat) : Nat := 0x100028 + 256 * i
def F_FCH_RB_PU (i : Nat) : Fld := ⟨A_FCH_RB i, 31, 0⟩
/-- Address of FCH_CNT (block FCH). -/
def A_FCH_CNT (i : Nat) : Nat := 0x10002c + 256 * i
def F_FCH_CNT_OVER (i : Nat) : Fld := ⟨A_FCH_CNT i, 31, 16⟩
def F_FCH_CNT_FAULT (i : Nat) : Fld := ⟨A_FCH_CNT i, 15, 0⟩
/-- Address of INTC_T_CLAIM (block INTC). -/
def A_INTC_T_CLAIM (i : Nat) : Nat := 0x30000 + 256 * i
def F_INTC_T_CLAIM_VALID (i : Nat) : Fld := ⟨A_INTC_T_CLAIM i, 31, 31⟩
def F_INTC_T_CLAIM_SOURCE (i : Nat) : Fld := ⟨A_INTC_T_CLAIM i, 8, 0⟩
/-- Address of INTC_T_COMPLETE (block INTC). -/
def A_INTC_T_COMPLETE (i : Nat) : Nat := 0x30004 + 256 * i
def F_INTC_T_COMPLETE_SOURCE (i : Nat) : Fld := ⟨A_INTC_T_COMPLETE i, 8, 0⟩
/-- Address of INTC_T_STAT (block INTC). -/
def A_INTC_T_STAT (i : Nat) : Nat := 0x30008 + 256 * i
def F_INTC_T_STAT_ASSIGNED (i : Nat) : Fld := ⟨A_INTC_T_STAT i, 24, 16⟩
def F_INTC_T_STAT_IDLE (i : Nat) : Fld := ⟨A_INTC_T_STAT i, 7, 7⟩
def F_INTC_T_STAT_LINE (i : Nat) : Fld := ⟨A_INTC_T_STAT i, 6, 6⟩
def F_INTC_T_STAT_FROZEN (i : Nat) : Fld := ⟨A_INTC_T_STAT i, 5, 5⟩
def F_INTC_T_STAT_DEPTH (i : Nat) : Fld := ⟨A_INTC_T_STAT i, 2, 0⟩
/-- Address of INTC_T_STACK0 (block INTC). -/
def A_INTC_T_STACK0 (i : Nat) : Nat := 0x3000c + 256 * i
def F_INTC_T_STACK0_ENTRY1 (i : Nat) : Fld := ⟨A_INTC_T_STACK0 i, 24, 16⟩
def F_INTC_T_STACK0_ENTRY0 (i : Nat) : Fld := ⟨A_INTC_T_STACK0 i, 8, 0⟩
/-- Address of INTC_T_STACK1 (block INTC). -/
def A_INTC_T_STACK1 (i : Nat) : Nat := 0x30010 + 256 * i
def F_INTC_T_STACK1_ENTRY3 (i : Nat) : Fld := ⟨A_INTC_T_STACK1 i, 24, 16⟩
def F_INTC_T_STACK1_ENTRY2 (i : Nat) : Fld := ⟨A_INTC_T_STACK1 i, 8, 0⟩
/-- Address of INTC_T_MOD (block INTC). -/
def A_INTC_T_MOD (i : Nat) : Nat := 0x30014 + 256 * i
def F_INTC_T_MOD_INTERVAL (i : Nat) : Fld := ⟨A_INTC_T_MOD i, 31, 16⟩
def F_INTC_T_MOD_COUNT (i : Nat) : Fld := ⟨A_INTC_T_MOD i, 15, 9⟩
def F_INTC_T_MOD_URGENT (i : Nat) : Fld := ⟨A_INTC_T_MOD i, 8, 0⟩
/-- Address of INTC_T_CTRL (block INTC). -/
def A_INTC_T_CTRL (i : Nat) : Nat := 0x30018 + 256 * i
def F_INTC_T_CTRL_IDLE_EN (i : Nat) : Fld := ⟨A_INTC_T_CTRL i, 1, 1⟩
def F_INTC_T_CTRL_UNFREEZE (i : Nat) : Fld := ⟨A_INTC_T_CTRL i, 0, 0⟩
/-- Address of INTC_T_MTIMECMP_LO (block INTC). -/
def A_INTC_T_MTIMECMP_LO (i : Nat) : Nat := 0x30020 + 256 * i
def F_INTC_T_MTIMECMP_LO_VALUE (i : Nat) : Fld := ⟨A_INTC_T_MTIMECMP_LO i, 31, 0⟩
/-- Address of INTC_T_MTIMECMP_HI (block INTC). -/
def A_INTC_T_MTIMECMP_HI (i : Nat) : Nat := 0x30024 + 256 * i
def F_INTC_T_MTIMECMP_HI_VALUE (i : Nat) : Fld := ⟨A_INTC_T_MTIMECMP_HI i, 31, 0⟩
/-- Address of INTC_T_MSIP (block INTC). -/
def A_INTC_T_MSIP (i : Nat) : Nat := 0x30028 + 256 * i
def F_INTC_T_MSIP_VALUE (i : Nat) : Fld := ⟨A_INTC_T_MSIP i, 31, 0⟩
/-- Address of INTC_EVENT (block INTC). -/
def A_INTC_EVENT : Nat := 0x30400
def F_INTC_EVENT_FROZEN : Fld := ⟨A_INTC_EVENT, 3, 0⟩
/-- Address of INTC_SWSET (block INTC). -/
def A_INTC_SWSET : Nat := 0x30800
def F_INTC_SWSET_DOORBELL : Fld := ⟨A_INTC_SWSET, 31, 0⟩
/-- Address of INTC_SWPEND (block INTC). -/
def A_INTC_SWPEND : Nat := 0x30804
def F_INTC_SWPEND_DOORBELL : Fld := ⟨A_INTC_SWPEND, 31, 0⟩
/-- Address of INTC_SRC_CFG (block INTC). -/
def A_INTC_SRC_CFG (i : Nat) : Nat := 0x31000 + 4 * i
def F_INTC_SRC_CFG_TARGET (i : Nat) : Fld := ⟨A_INTC_SRC_CFG i, 13, 12⟩
def F_INTC_SRC_CFG_IN_SERVICE (i : Nat) : Fld := ⟨A_INTC_SRC_CFG i, 10, 10⟩
def F_INTC_SRC_CFG_PENDING (i : Nat) : Fld := ⟨A_INTC_SRC_CFG i, 9, 9⟩
def F_INTC_SRC_CFG_ASSERTED (i : Nat) : Fld := ⟨A_INTC_SRC_CFG i, 8, 8⟩
def F_INTC_SRC_CFG_EN (i : Nat) : Fld := ⟨A_INTC_SRC_CFG i, 3, 0⟩
/-- Address of HST_STATUS (block HST). -/
def A_HST_STATUS : Nat := 0xd0000
def F_HST_STATUS_FREE : Fld := ⟨A_HST_STATUS, 19, 10⟩
def F_HST_STATUS_HIDLE : Fld := ⟨A_HST_STATUS, 4, 4⟩
def F_HST_STATUS_FRAME : Fld := ⟨A_HST_STATUS, 3, 3⟩
def F_HST_STATUS_OVF : Fld := ⟨A_HST_STATUS, 2, 2⟩
def F_HST_STATUS_ERR : Fld := ⟨A_HST_STATUS, 1, 1⟩
def F_HST_STATUS_WBUSY : Fld := ⟨A_HST_STATUS, 0, 0⟩
/-- Address of HST_EVENT (block HST). -/
def A_HST_EVENT : Nat := 0xd0004
def F_HST_EVENT_FRAME_EVT : Fld := ⟨A_HST_EVENT, 2, 2⟩
def F_HST_EVENT_OVF_EVT : Fld := ⟨A_HST_EVENT, 1, 1⟩
def F_HST_EVENT_ERR_EVT : Fld := ⟨A_HST_EVENT, 0, 0⟩
/-- Address of HST_ERRADDR (block HST). -/
def A_HST_ERRADDR : Nat := 0xd0008
def F_HST_ERRADDR_ADDR : Fld := ⟨A_HST_ERRADDR, 31, 0⟩
/-- Address of ELK_STATUS (block ELK). -/
def A_ELK_STATUS : Nat := 0x50000
def F_ELK_STATUS_PRESENT : Fld := ⟨A_ELK_STATUS, 23, 16⟩
def F_ELK_STATUS_SUBSCRIBERS : Fld := ⟨A_ELK_STATUS, 15, 8⟩
def F_ELK_STATUS_ROOT : Fld := ⟨A_ELK_STATUS, 3, 3⟩
def F_ELK_STATUS_UDP : Fld := ⟨A_ELK_STATUS, 2, 2⟩
def F_ELK_STATUS_UP : Fld := ⟨A_ELK_STATUS, 1, 0⟩
/-- Address of ELK_EVENT (block ELK). -/
def A_ELK_EVENT : Nat := 0x50004
def F_ELK_EVENT_TIME_DEG : Fld := ⟨A_ELK_EVENT, 5, 5⟩
def F_ELK_EVENT_EPOCH : Fld := ⟨A_ELK_EVENT, 4, 4⟩
def F_ELK_EVENT_SUB_FAIL : Fld := ⟨A_ELK_EVENT, 3, 3⟩
def F_ELK_EVENT_UDP_DROP : Fld := ⟨A_ELK_EVENT, 2, 2⟩
def F_ELK_EVENT_ROUTE_DROP : Fld := ⟨A_ELK_EVENT, 1, 1⟩
def F_ELK_EVENT_PORT_LOST : Fld := ⟨A_ELK_EVENT, 0, 0⟩
/-- Address of ELK_ID (block ELK). -/
def A_ELK_ID : Nat := 0x50008
def F_ELK_ID_MEMBER : Fld := ⟨A_ELK_ID, 15, 0⟩
/-- Address of ELK_FEPOCH (block ELK). -/
def A_ELK_FEPOCH : Nat := 0x5000c
def F_ELK_FEPOCH_EPOCH : Fld := ⟨A_ELK_FEPOCH, 31, 0⟩
/-- Address of ELK_P_STAT (block ELK). -/
def A_ELK_P_STAT (i : Nat) : Nat := 0x50100 + 64 * i
def F_ELK_P_STAT_PEER (i : Nat) : Fld := ⟨A_ELK_P_STAT i, 31, 16⟩
def F_ELK_P_STAT_STATE (i : Nat) : Fld := ⟨A_ELK_P_STAT i, 1, 0⟩
/-- Address of ELK_P_TX (block ELK). -/
def A_ELK_P_TX (i : Nat) : Nat := 0x50104 + 64 * i
def F_ELK_P_TX_COUNT (i : Nat) : Fld := ⟨A_ELK_P_TX i, 31, 0⟩
/-- Address of ELK_P_RX (block ELK). -/
def A_ELK_P_RX (i : Nat) : Nat := 0x50108 + 64 * i
def F_ELK_P_RX_COUNT (i : Nat) : Fld := ⟨A_ELK_P_RX i, 31, 0⟩
/-- Address of ELK_P_RETX (block ELK). -/
def A_ELK_P_RETX (i : Nat) : Nat := 0x5010c + 64 * i
def F_ELK_P_RETX_COUNT (i : Nat) : Fld := ⟨A_ELK_P_RETX i, 31, 0⟩
/-- Address of ELK_P_CRC (block ELK). -/
def A_ELK_P_CRC (i : Nat) : Nat := 0x50110 + 64 * i
def F_ELK_P_CRC_COUNT (i : Nat) : Fld := ⟨A_ELK_P_CRC i, 31, 0⟩
/-- Address of ELK_P_DROP (block ELK). -/
def A_ELK_P_DROP (i : Nat) : Nat := 0x50114 + 64 * i
def F_ELK_P_DROP_COUNT (i : Nat) : Fld := ⟨A_ELK_P_DROP i, 31, 0⟩
/-- Address of ELK_UDP_TX (block ELK). -/
def A_ELK_UDP_TX : Nat := 0x50200
def F_ELK_UDP_TX_COUNT : Fld := ⟨A_ELK_UDP_TX, 31, 0⟩
/-- Address of ELK_UDP_RX (block ELK). -/
def A_ELK_UDP_RX : Nat := 0x50204
def F_ELK_UDP_RX_COUNT : Fld := ⟨A_ELK_UDP_RX, 31, 0⟩
/-- Address of ELK_UDP_DROP (block ELK). -/
def A_ELK_UDP_DROP : Nat := 0x50208
def F_ELK_UDP_DROP_COUNT : Fld := ⟨A_ELK_UDP_DROP, 31, 0⟩
/-- Address of ELK_LATE (block ELK). -/
def A_ELK_LATE : Nat := 0x5020c
def F_ELK_LATE_LATE : Fld := ⟨A_ELK_LATE, 31, 0⟩
/-- Address of ELK_SUB_STAT (block ELK). -/
def A_ELK_SUB_STAT (i : Nat) : Nat := 0x50400 + 8 * i
def F_ELK_SUB_STAT_FULL (i : Nat) : Fld := ⟨A_ELK_SUB_STAT i, 20, 20⟩
def F_ELK_SUB_STAT_ACKED (i : Nat) : Fld := ⟨A_ELK_SUB_STAT i, 19, 19⟩
def F_ELK_SUB_STAT_FROM_PEER (i : Nat) : Fld := ⟨A_ELK_SUB_STAT i, 18, 18⟩
def F_ELK_SUB_STAT_PEER_HAS (i : Nat) : Fld := ⟨A_ELK_SUB_STAT i, 17, 17⟩
def F_ELK_SUB_STAT_OWN_HAS (i : Nat) : Fld := ⟨A_ELK_SUB_STAT i, 16, 16⟩
def F_ELK_SUB_STAT_UNIT (i : Nat) : Fld := ⟨A_ELK_SUB_STAT i, 15, 0⟩
/-- Address of ELK_SUB_EP (block ELK). -/
def A_ELK_SUB_EP (i : Nat) : Nat := 0x50404 + 8 * i
def F_ELK_SUB_EP_EPOCH (i : Nat) : Fld := ⟨A_ELK_SUB_EP i, 31, 0⟩
/-- Address of ELK_PUB (block ELK). -/
def A_ELK_PUB (i : Nat) : Nat := 0x50600 + 4 * i
def F_ELK_PUB_VALID (i : Nat) : Fld := ⟨A_ELK_PUB i, 31, 31⟩
def F_ELK_PUB_MEMBER (i : Nat) : Fld := ⟨A_ELK_PUB i, 15, 0⟩
/-- Address of ACC_EVENT (block ACC). -/
def A_ACC_EVENT : Nat := 0xe0000
def F_ACC_EVENT_FW_VIOL : Fld := ⟨A_ACC_EVENT, 1, 1⟩
def F_ACC_EVENT_VIOL : Fld := ⟨A_ACC_EVENT, 0, 0⟩
/-- Address of ACC_VIOL (block ACC). -/
def A_ACC_VIOL : Nat := 0xe0004
def F_ACC_VIOL_REGION : Fld := ⟨A_ACC_VIOL, 23, 20⟩
def F_ACC_VIOL_WRITE : Fld := ⟨A_ACC_VIOL, 16, 16⟩
def F_ACC_VIOL_MASTER : Fld := ⟨A_ACC_VIOL, 4, 0⟩
/-- Address of ACC_VIOL_ADDR (block ACC). -/
def A_ACC_VIOL_ADDR : Nat := 0xe0008
def F_ACC_VIOL_ADDR_VALUE : Fld := ⟨A_ACC_VIOL_ADDR, 31, 0⟩
/-- Address of ACC_VIOL_CNT (block ACC). -/
def A_ACC_VIOL_CNT : Nat := 0xe000c
def F_ACC_VIOL_CNT_VALUE : Fld := ⟨A_ACC_VIOL_CNT, 31, 0⟩
/-- Address of ACC_R_N (block ACC). -/
def A_ACC_R_N (i : Nat) : Nat := 0xe0100 + 4 * i
def F_ACC_R_N_N (i : Nat) : Fld := ⟨A_ACC_R_N i, 5, 0⟩
/-- Address of ACC_R_MASK (block ACC). -/
def A_ACC_R_MASK (i : Nat) (j : Nat) : Nat := 0xe1000 + 512 * i + 16 * j
def F_ACC_R_MASK_VALUE (i : Nat) (j : Nat) : Fld := ⟨A_ACC_R_MASK i j, 31, 0⟩
/-- Address of ACC_R_LOW (block ACC). -/
def A_ACC_R_LOW (i : Nat) (j : Nat) : Nat := 0xe1004 + 512 * i + 16 * j
def F_ACC_R_LOW_VALUE (i : Nat) (j : Nat) : Fld := ⟨A_ACC_R_LOW i j, 31, 0⟩
/-- Address of ACC_R_HIGH (block ACC). -/
def A_ACC_R_HIGH (i : Nat) (j : Nat) : Nat := 0xe1008 + 512 * i + 16 * j
def F_ACC_R_HIGH_VALUE (i : Nat) (j : Nat) : Fld := ⟨A_ACC_R_HIGH i j, 31, 0⟩
/-- Address of ACC_R_PERM (block ACC). -/
def A_ACC_R_PERM (i : Nat) (j : Nat) : Nat := 0xe100c + 512 * i + 16 * j
def F_ACC_R_PERM_VALUE (i : Nat) (j : Nat) : Fld := ⟨A_ACC_R_PERM i j, 31, 0⟩
/-- Address of STI_EPOCH (block STI). -/
def A_STI_EPOCH : Nat := 0x1010000
def F_STI_EPOCH_EPOCH : Fld := ⟨A_STI_EPOCH, 31, 0⟩
/-- Address of STI_VIEW (block STI). -/
def A_STI_VIEW : Nat := 0x1010004
def F_STI_VIEW_INTACT : Fld := ⟨A_STI_VIEW, 1, 1⟩
def F_STI_VIEW_OPEN : Fld := ⟨A_STI_VIEW, 0, 0⟩
/-- Address of STI_VIEW_CTRL (block STI). -/
def A_STI_VIEW_CTRL : Nat := 0x1010008
def F_STI_VIEW_CTRL_CLOSE : Fld := ⟨A_STI_VIEW_CTRL, 1, 1⟩
def F_STI_VIEW_CTRL_OPEN : Fld := ⟨A_STI_VIEW_CTRL, 0, 0⟩
/-- Address of STI_VIEW_EP (block STI). -/
def A_STI_VIEW_EP : Nat := 0x101000c
def F_STI_VIEW_EP_EPOCH : Fld := ⟨A_STI_VIEW_EP, 31, 0⟩
/-- Address of STI_REFUSED (block STI). -/
def A_STI_REFUSED : Nat := 0x1010010
def F_STI_REFUSED_COUNT : Fld := ⟨A_STI_REFUSED, 31, 0⟩
/-- Address of HLT_STATUS (block HLT). -/
def A_HLT_STATUS : Nat := 0xb0000
def F_HLT_STATUS_NODE : Fld := ⟨A_HLT_STATUS, 18, 16⟩
def F_HLT_STATUS_COOLED : Fld := ⟨A_HLT_STATUS, 11, 11⟩
def F_HLT_STATUS_SHUTDOWN : Fld := ⟨A_HLT_STATUS, 10, 10⟩
def F_HLT_STATUS_WARN : Fld := ⟨A_HLT_STATUS, 9, 9⟩
def F_HLT_STATUS_THROTTLING : Fld := ⟨A_HLT_STATUS, 8, 8⟩
def F_HLT_STATUS_THROTTLE_C : Fld := ⟨A_HLT_STATUS, 6, 0⟩
/-- Address of HLT_EVENT (block HLT). -/
def A_HLT_EVENT : Nat := 0xb0004
def F_HLT_EVENT_RETEST_EVT : Fld := ⟨A_HLT_EVENT, 7, 7⟩
def F_HLT_EVENT_INJ_EVT : Fld := ⟨A_HLT_EVENT, 6, 6⟩
def F_HLT_EVENT_MARGIN_EVT : Fld := ⟨A_HLT_EVENT, 5, 5⟩
def F_HLT_EVENT_SRAM_EVT : Fld := ⟨A_HLT_EVENT, 4, 4⟩
def F_HLT_EVENT_DIODE_EVT : Fld := ⟨A_HLT_EVENT, 3, 3⟩
def F_HLT_EVENT_SHUT_EVT : Fld := ⟨A_HLT_EVENT, 2, 2⟩
def F_HLT_EVENT_WARN_EVT : Fld := ⟨A_HLT_EVENT, 1, 1⟩
def F_HLT_EVENT_THR_EVT : Fld := ⟨A_HLT_EVENT, 0, 0⟩
/-- Address of HLT_TJMAX (block HLT). -/
def A_HLT_TJMAX : Nat := 0xb0008
def F_HLT_TJMAX_VALUE : Fld := ⟨A_HLT_TJMAX, 31, 0⟩
/-- Address of HLT_TREF (block HLT). -/
def A_HLT_TREF : Nat := 0xb000c
def F_HLT_TREF_VALUE : Fld := ⟨A_HLT_TREF, 31, 0⟩
/-- Address of HLT_HOURS (block HLT). -/
def A_HLT_HOURS : Nat := 0xb0010
def F_HLT_HOURS_VALUE : Fld := ⟨A_HLT_HOURS, 31, 0⟩
/-- Address of HLT_NODE (block HLT). -/
def A_HLT_NODE (i : Nat) : Nat := 0xb0020 + 4 * i
def F_HLT_NODE_OFFSET (i : Nat) : Fld := ⟨A_HLT_NODE i, 31, 16⟩
def F_HLT_NODE_TEMP (i : Nat) : Fld := ⟨A_HLT_NODE i, 15, 0⟩
/-- Address of HLT_DIODE (block HLT). -/
def A_HLT_DIODE (i : Nat) : Nat := 0xb0040 + 4 * i
def F_HLT_DIODE_RESID (i : Nat) : Fld := ⟨A_HLT_DIODE i, 31, 16⟩
def F_HLT_DIODE_TEMP (i : Nat) : Fld := ⟨A_HLT_DIODE i, 15, 0⟩
/-- Address of HLT_RAIL_VI (block HLT). -/
def A_HLT_RAIL_VI (i : Nat) : Nat := 0xb0080 + 8 * i
def F_HLT_RAIL_VI_CURRENT (i : Nat) : Fld := ⟨A_HLT_RAIL_VI i, 31, 16⟩
def F_HLT_RAIL_VI_VOLTAGE (i : Nat) : Fld := ⟨A_HLT_RAIL_VI i, 15, 0⟩
/-- Address of HLT_RAIL_TRIM (block HLT). -/
def A_HLT_RAIL_TRIM (i : Nat) : Nat := 0xb0084 + 8 * i
def F_HLT_RAIL_TRIM_POWER (i : Nat) : Fld := ⟨A_HLT_RAIL_TRIM i, 31, 8⟩
def F_HLT_RAIL_TRIM_TRIM (i : Nat) : Fld := ⟨A_HLT_RAIL_TRIM i, 3, 0⟩
/-- Address of HLT_DIE_AGE (block HLT). -/
def A_HLT_DIE_AGE (i : Nat) : Nat := 0xb0100 + 16 * i
def F_HLT_DIE_AGE_SLACK (i : Nat) : Fld := ⟨A_HLT_DIE_AGE i, 31, 16⟩
def F_HLT_DIE_AGE_RO_DELTA (i : Nat) : Fld := ⟨A_HLT_DIE_AGE i, 15, 0⟩
/-- Address of HLT_DIE_MARGIN (block HLT). -/
def A_HLT_DIE_MARGIN (i : Nat) : Nat := 0xb0104 + 16 * i
def F_HLT_DIE_MARGIN_SINCE (i : Nat) : Fld := ⟨A_HLT_DIE_MARGIN i, 31, 16⟩
def F_HLT_DIE_MARGIN_STATUS (i : Nat) : Fld := ⟨A_HLT_DIE_MARGIN i, 1, 0⟩
/-- Address of HLT_SELFTEST (block HLT). -/
def A_HLT_SELFTEST (i : Nat) : Nat := 0xb0400 + 4 * i
def F_HLT_SELFTEST_DATA (i : Nat) : Fld := ⟨A_HLT_SELFTEST i, 31, 0⟩
/-- Address of REC_STATUS (block REC). -/
def A_REC_STATUS : Nat := 0xa0000
def F_REC_STATUS_FULL : Fld := ⟨A_REC_STATUS, 19, 19⟩
def F_REC_STATUS_WARN : Fld := ⟨A_REC_STATUS, 18, 18⟩
def F_REC_STATUS_USED : Fld := ⟨A_REC_STATUS, 17, 0⟩
/-- Address of REC_EVENT (block REC). -/
def A_REC_EVENT : Nat := 0xa0004
def F_REC_EVENT_CRC_EVT : Fld := ⟨A_REC_EVENT, 4, 4⟩
def F_REC_EVENT_RELEASE_EVT : Fld := ⟨A_REC_EVENT, 3, 3⟩
def F_REC_EVENT_LOST_EVT : Fld := ⟨A_REC_EVENT, 2, 2⟩
def F_REC_EVENT_FULL_EVT : Fld := ⟨A_REC_EVENT, 1, 1⟩
def F_REC_EVENT_WARN_EVT : Fld := ⟨A_REC_EVENT, 0, 0⟩
/-- Address of REC_NEXT (block REC). -/
def A_REC_NEXT : Nat := 0xa0008
def F_REC_NEXT_VALUE : Fld := ⟨A_REC_NEXT, 31, 0⟩
/-- Address of REC_BASE (block REC). -/
def A_REC_BASE : Nat := 0xa000c
def F_REC_BASE_VALUE : Fld := ⟨A_REC_BASE, 31, 0⟩
/-- Address of REC_LOST (block REC). -/
def A_REC_LOST : Nat := 0xa0010
def F_REC_LOST_VALUE : Fld := ⟨A_REC_LOST, 31, 0⟩
/-- Address of REC_REL_CNT (block REC). -/
def A_REC_REL_CNT : Nat := 0xa0014
def F_REC_REL_CNT_VALUE : Fld := ⟨A_REC_REL_CNT, 31, 0⟩
/-- Address of REC_PAGE (block REC). -/
def A_REC_PAGE : Nat := 0xa0018
def F_REC_PAGE_PAGE : Fld := ⟨A_REC_PAGE, 10, 0⟩
/-- Address of REC_WIN (block REC). -/
def A_REC_WIN (i : Nat) : Nat := 0xa1000 + 4 * i
def F_REC_WIN_DATA (i : Nat) : Fld := ⟨A_REC_WIN i, 31, 0⟩
/-- Address of ANN_STATUS (block ANN). -/
def A_ANN_STATUS : Nat := 0xc0000
def F_ANN_STATUS_HELD : Fld := ⟨A_ANN_STATUS, 23, 16⟩
def F_ANN_STATUS_PENDING : Fld := ⟨A_ANN_STATUS, 15, 8⟩
def F_ANN_STATUS_VLCD_OK : Fld := ⟨A_ANN_STATUS, 7, 7⟩
def F_ANN_STATUS_BAND : Fld := ⟨A_ANN_STATUS, 6, 4⟩
def F_ANN_STATUS_BUSY : Fld := ⟨A_ANN_STATUS, 3, 3⟩
def F_ANN_STATUS_GROUP : Fld := ⟨A_ANN_STATUS, 2, 0⟩
/-- Address of ANN_EVENT (block ANN). -/
def A_ANN_EVENT : Nat := 0xc0004
def F_ANN_EVENT_TEMP_EVT : Fld := ⟨A_ANN_EVENT, 2, 2⟩
def F_ANN_EVENT_JUMP_EVT : Fld := ⟨A_ANN_EVENT, 1, 1⟩
def F_ANN_EVENT_VLCD_EVT : Fld := ⟨A_ANN_EVENT, 0, 0⟩
/-- Address of ANN_TEMP (block ANN). -/
def A_ANN_TEMP : Nat := 0xc0008
def F_ANN_TEMP_VLCD : Fld := ⟨A_ANN_TEMP, 31, 16⟩
def F_ANN_TEMP_TEMP : Fld := ⟨A_ANN_TEMP, 15, 0⟩
/-- Address of ANN_COMMIT (block ANN). -/
def A_ANN_COMMIT : Nat := 0xc000c
def F_ANN_COMMIT_GROUP : Fld := ⟨A_ANN_COMMIT, 7, 4⟩
/-- Address of ANN_SET_W (block ANN). -/
def A_ANN_SET_W (i : Nat) (j : Nat) : Nat := 0xc0140 + 16 * i + 4 * j
def F_ANN_SET_W_LEVEL (i : Nat) (j : Nat) (b : Nat) : Fld := ⟨A_ANN_SET_W i j, 1 + 2 * b, 0 + 2 * b⟩
/-- Address of ANN_SHOWN_W (block ANN). -/
def A_ANN_SHOWN_W (i : Nat) (j : Nat) : Nat := 0xc0200 + 16 * i + 4 * j
def F_ANN_SHOWN_W_LEVEL (i : Nat) (j : Nat) (b : Nat) : Fld := ⟨A_ANN_SHOWN_W i j, 1 + 2 * b, 0 + 2 * b⟩

end Sys2Proof.Machine
end

