-- ==== Sys2Proof/Machine/RegTable.lean ====
section
/-! DEFINITION. The register table: the access type of every field of every register (R4), as the register tables of the chapters give it, and the reset values that are not 0 (R7). -/
namespace Sys2Proof.Machine

/-- R4: the access types. -/
inductive Acc where
  | ro | rw | rwl | w1c | wo | rc
  deriving DecidableEq, Repr

/-- One register or register array: base address, (stride, count) of each index, and its fields (hi, lo, type). -/
structure RegRow where
  base : Nat
  dims : List (Nat × Nat)
  fields : List (Nat × Nat × Acc)
  deriving DecidableEq, Repr

/-- The registers of block GLB. -/
def rowsGlb : List RegRow := [
  ⟨A_GLB_DEVID, [], [(31, 16, .ro), (15, 12, .ro), (7, 0, .ro)]⟩,
  ⟨A_GLB_SERIAL0, [], [(31, 0, .ro)]⟩,
  ⟨A_GLB_SERIAL1, [], [(31, 0, .ro)]⟩,
  ⟨A_GLB_STATUS, [], [(19, 19, .w1c), (18, 18, .w1c), (17, 17, .w1c), (3, 3, .ro), (2, 2, .ro), (1, 1, .ro), (0, 0, .ro)]⟩]

/-- The registers of block KPR. -/
def rowsKpr : List RegRow := [
  ⟨A_KPR_BOOTSTAT, [], [(31, 16, .ro), (11, 8, .ro), (2, 0, .ro)]⟩,
  ⟨A_KPR_PATTERN, [], [(11, 8, .ro), (7, 4, .ro), (1, 0, .ro)]⟩,
  ⟨A_KPR_SEQ, [], [(31, 0, .ro)]⟩,
  ⟨A_KPR_PATID 0, [(4, 4)], [(31, 0, .ro)]⟩,
  ⟨A_KPR_RESETCAUSE, [], [(3, 3, .ro), (2, 2, .ro), (1, 1, .ro), (0, 0, .ro)]⟩,
  ⟨A_KPR_LOCK, [], [(0, 0, .rwl)]⟩,
  ⟨A_KPR_APPCTL, [], [(1, 1, .wo), (0, 0, .wo)]⟩,
  ⟨A_KPR_DEVKEY 0, [(4, 8)], [(31, 0, .ro)]⟩,
  ⟨A_KPR_FLW_CTRL, [], [(10, 10, .w1c), (9, 9, .w1c), (8, 8, .ro), (1, 0, .wo)]⟩,
  ⟨A_KPR_FLW_ADDR, [], [(25, 0, .rw)]⟩,
  ⟨A_KPR_FLW_BUF 0, [(4, 64)], [(31, 0, .rw)]⟩]

/-- The registers of block CTL. -/
def rowsCtl : List RegRow := [
  ⟨A_CTL_STATE, [], [(23, 16, .ro), (8, 8, .ro), (6, 4, .ro), (2, 0, .ro)]⟩,
  ⟨A_CTL_DEGR, [], [(9, 0, .ro)]⟩,
  ⟨A_CTL_OMB_BUF 0 0, [(256, 3), (4, 16)], [(31, 0, .rw)]⟩,
  ⟨A_CTL_OMB_CTRL 0, [(256, 3)], [(15, 8, .ro), (2, 2, .w1c), (1, 1, .ro), (0, 0, .wo)]⟩,
  ⟨A_CTL_CSTAT, [], [(13, 13, .ro), (12, 12, .ro), (11, 11, .ro), (10, 10, .ro), (9, 9, .ro), (8, 8, .ro), (7, 7, .ro), (6, 4, .ro), (3, 3, .ro), (2, 2, .ro), (1, 1, .ro), (0, 0, .ro)]⟩,
  ⟨A_CTL_REF 0, [(4, 3)], [(31, 0, .ro)]⟩,
  ⟨A_CTL_DEMAND 0, [(4, 3)], [(31, 0, .ro)]⟩,
  ⟨A_CTL_TEST, [], [(16, 0, .ro)]⟩,
  ⟨A_CTL_CAP_PAGE, [], [(8, 0, .rw)]⟩,
  ⟨A_CTL_CAP_WIN 0, [(4, 1024)], [(31, 0, .ro)]⟩,
  ⟨A_CTL_ALC_STAT, [], [(31, 24, .ro), (23, 16, .ro), (15, 8, .ro), (4, 4, .ro), (3, 3, .ro), (2, 2, .ro), (1, 1, .ro), (0, 0, .ro)]⟩,
  ⟨A_CTL_BOX 0, [(4, 3)], [(31, 0, .ro)]⟩,
  ⟨A_CTL_AVAIL, [], [(31, 0, .ro)]⟩,
  ⟨A_CTL_SCEN_SUM, [], [(31, 24, .ro), (23, 16, .ro), (15, 8, .ro), (7, 0, .ro)]⟩,
  ⟨A_CTL_ALC_EVENT, [], [(3, 3, .w1c), (2, 2, .w1c), (1, 1, .w1c), (0, 0, .w1c)]⟩,
  ⟨A_CTL_THR_CMD 0, [(16, 32)], [(31, 0, .ro)]⟩,
  ⟨A_CTL_THR_ANG 0, [(16, 32)], [(31, 0, .ro)]⟩,
  ⟨A_CTL_THR_STAT 0, [(16, 32)], [(5, 5, .ro), (4, 4, .ro), (3, 3, .ro), (2, 2, .ro), (1, 1, .ro), (0, 0, .ro)]⟩,
  ⟨A_CTL_THR_PWR 0, [(16, 32)], [(31, 0, .ro)]⟩,
  ⟨A_CTL_SCEN_W 0 0, [(16, 127), (4, 4)], [(31, 0, .ro)]⟩]

/-- The registers of block GNS. -/
def rowsGns : List RegRow := [
  ⟨A_GNS_CH_CFG 0, [(64, 272)], [(26, 24, .ro), (17, 14, .ro), (13, 8, .ro), (6, 5, .ro), (4, 0, .ro)]⟩,
  ⟨A_GNS_CH_STAT 0, [(64, 272)], [(31, 0, .ro)]⟩,
  ⟨A_GNS_CH_DOP 0, [(64, 272)], [(31, 0, .ro)]⟩,
  ⟨A_GNS_CH_TAPS 0, [(64, 272)], [(31, 24, .ro), (23, 16, .ro), (15, 8, .ro), (7, 0, .ro)]⟩,
  ⟨A_GNS_STATUS, [], [(24, 16, .ro), (3, 3, .ro), (2, 2, .ro), (1, 1, .ro), (0, 0, .ro)]⟩,
  ⟨A_GNS_EVENT, [], [(8, 8, .w1c), (7, 7, .w1c), (6, 6, .w1c), (5, 5, .w1c), (4, 4, .w1c), (3, 3, .w1c), (2, 2, .w1c), (1, 1, .w1c), (0, 0, .w1c)]⟩,
  ⟨A_GNS_ANT, [], [(26, 26, .ro), (25, 24, .ro), (18, 18, .ro), (17, 16, .ro), (10, 10, .ro), (9, 8, .ro), (2, 2, .ro), (1, 0, .ro)]⟩,
  ⟨A_GNS_ANT_I, [], [(31, 24, .ro), (23, 16, .ro), (15, 8, .ro), (7, 0, .ro)]⟩,
  ⟨A_GNS_STREAM 0, [(4, 8)], [(19, 16, .ro), (15, 8, .ro), (7, 0, .ro)]⟩,
  ⟨A_GNS_NOTCH 0 0, [(16, 8), (4, 4)], [(31, 31, .ro), (29, 24, .ro), (23, 0, .ro)]⟩,
  ⟨A_GNS_CHECK, [], [(23, 16, .ro), (6, 6, .ro), (5, 5, .ro), (4, 4, .ro), (3, 3, .ro), (2, 2, .ro), (1, 1, .ro), (0, 0, .ro)]⟩,
  ⟨A_GNS_SNAP_CTRL, [], [(31, 16, .ro), (9, 9, .ro), (8, 8, .ro), (1, 1, .wo), (0, 0, .wo)]⟩,
  ⟨A_GNS_SNAP_MISS, [], [(15, 0, .rc)]⟩,
  ⟨A_GNS_SNAP_PAGE, [], [(9, 0, .rw)]⟩,
  ⟨A_GNS_SNAP_WIN 0, [(4, 1024)], [(31, 0, .ro)]⟩]

/-- The registers of block FUS. -/
def rowsFus : List RegRow := [
  ⟨A_FUS_STATUS, [], [(21, 16, .ro), (13, 8, .ro), (1, 1, .ro), (0, 0, .ro)]⟩,
  ⟨A_FUS_EVENT, [], [(4, 4, .w1c), (3, 3, .w1c), (2, 2, .w1c), (1, 1, .w1c), (0, 0, .w1c)]⟩,
  ⟨A_FUS_SLAG0, [], [(31, 0, .ro)]⟩,
  ⟨A_FUS_SLAG1, [], [(15, 0, .ro)]⟩,
  ⟨A_FUS_LEAD0, [], [(31, 24, .ro), (23, 16, .ro), (15, 8, .ro), (7, 0, .ro)]⟩,
  ⟨A_FUS_LEAD1, [], [(15, 8, .ro), (7, 0, .ro)]⟩,
  ⟨A_FUS_SLOT_STAT 0, [(16, 48)], [(18, 18, .ro), (17, 17, .ro), (16, 16, .ro), (10, 8, .ro), (2, 0, .ro)]⟩,
  ⟨A_FUS_SLOT_NIS 0, [(16, 48)], [(15, 0, .ro)]⟩,
  ⟨A_FUS_SLOT_CNT 0, [(16, 48)], [(31, 24, .rc), (23, 16, .rc), (15, 0, .rc)]⟩]

/-- The registers of block LOOP. -/
def rowsLoop : List RegRow := [
  ⟨A_LOOP_EVENT, [], [(2, 2, .w1c), (1, 1, .w1c), (0, 0, .w1c)]⟩,
  ⟨A_LOOP_FAULT0, [], [(31, 0, .ro)]⟩,
  ⟨A_LOOP_FAULT1, [], [(31, 0, .ro)]⟩,
  ⟨A_LOOP_CLAMP0, [], [(31, 0, .ro)]⟩,
  ⟨A_LOOP_CLAMP1, [], [(31, 0, .ro)]⟩,
  ⟨A_LOOP_DRIVE0, [], [(31, 0, .ro)]⟩,
  ⟨A_LOOP_DRIVE1, [], [(31, 0, .ro)]⟩,
  ⟨A_LOOP_SLOT_CFG 0, [(64, 64)], [(25, 25, .ro), (24, 20, .ro), (19, 19, .ro), (18, 12, .ro), (11, 11, .ro), (10, 4, .ro), (3, 1, .ro), (0, 0, .ro)]⟩,
  ⟨A_LOOP_SLOT_KP 0, [(64, 64)], [(31, 0, .ro)]⟩,
  ⟨A_LOOP_SLOT_KI 0, [(64, 64)], [(31, 0, .ro)]⟩,
  ⟨A_LOOP_SLOT_KD 0, [(64, 64)], [(31, 0, .ro)]⟩,
  ⟨A_LOOP_SLOT_KFF 0, [(64, 64)], [(31, 0, .ro)]⟩,
  ⟨A_LOOP_SLOT_OUT_MIN 0, [(64, 64)], [(31, 0, .ro)]⟩,
  ⟨A_LOOP_SLOT_OUT_MAX 0, [(64, 64)], [(31, 0, .ro)]⟩,
  ⟨A_LOOP_SLOT_OUT_RATE 0, [(64, 64)], [(31, 0, .ro)]⟩,
  ⟨A_LOOP_SLOT_IN_SCALE 0, [(64, 64)], [(31, 0, .ro)]⟩,
  ⟨A_LOOP_SLOT_IN_OFS 0, [(64, 64)], [(31, 0, .ro)]⟩,
  ⟨A_LOOP_SLOT_SUPV 0, [(64, 64)], [(31, 16, .ro), (15, 0, .ro)]⟩,
  ⟨A_LOOP_SLOT_SUPV_T 0, [(64, 64)], [(31, 16, .ro), (15, 0, .ro)]⟩,
  ⟨A_LOOP_SLOT_PLTAU 0, [(64, 64)], [(15, 0, .ro)]⟩,
  ⟨A_LOOP_SLOT_SP 0, [(64, 64)], [(31, 0, .ro)]⟩,
  ⟨A_LOOP_SLOT_FB 0, [(64, 64)], [(31, 0, .ro)]⟩,
  ⟨A_LOOP_SLOT_OUT 0, [(64, 64)], [(31, 0, .ro)]⟩]

/-- The registers of block SLV. -/
def rowsSlv : List RegRow := [
  ⟨A_SLV_STATUS, [], [(27, 24, .ro), (22, 16, .ro), (8, 0, .ro)]⟩,
  ⟨A_SLV_EVENT, [], [(7, 7, .w1c), (6, 6, .w1c), (5, 5, .w1c), (4, 4, .w1c), (3, 3, .w1c), (2, 2, .w1c), (1, 1, .w1c), (0, 0, .w1c)]⟩,
  ⟨A_SLV_SUBMIT, [], [(21, 6, .wo)]⟩,
  ⟨A_SLV_FILL, [], [(21, 2, .wo)]⟩,
  ⟨A_SLV_COLD_CNT, [], [(31, 0, .ro)]⟩,
  ⟨A_SLV_CLAMP_CNT, [], [(31, 0, .ro)]⟩,
  ⟨A_SLV_OVF_CNT, [], [(31, 0, .ro)]⟩,
  ⟨A_SLV_RESTART_CNT, [], [(31, 0, .ro)]⟩,
  ⟨A_SLV_ECC_CNT, [], [(15, 0, .rc)]⟩,
  ⟨A_SLV_FILLQ, [], [(16, 16, .ro), (9, 0, .ro)]⟩,
  ⟨A_SLV_LANEMAP 0, [(4, 5)], [(31, 0, .ro)]⟩,
  ⟨A_SLV_KAT, [], [(8, 8, .ro), (6, 0, .ro)]⟩,
  ⟨A_SLV_PROB_STAT 0, [(4, 256)], [(27, 20, .ro), (18, 12, .ro), (11, 4, .ro), (3, 0, .ro)]⟩,
  ⟨A_SLV_MOULD_INFO 0, [(16, 256)], [(23, 16, .ro), (11, 10, .ro), (9, 9, .ro), (8, 8, .ro), (7, 0, .ro)]⟩,
  ⟨A_SLV_MOULD_HASH 0, [(16, 256)], [(31, 0, .ro)]⟩,
  ⟨A_SLV_MOULD_HEAD 0, [(16, 256)], [(31, 24, .ro), (23, 16, .ro), (15, 8, .ro), (7, 0, .ro)]⟩]

/-- The registers of block TWN. -/
def rowsTwn : List RegRow := [
  ⟨A_TWN_STATUS, [], [(23, 21, .ro), (19, 19, .ro), (18, 18, .ro), (17, 17, .ro), (16, 16, .ro), (11, 10, .ro), (9, 9, .ro), (8, 8, .ro), (1, 1, .ro), (0, 0, .ro)]⟩,
  ⟨A_TWN_EVENT, [], [(9, 9, .w1c), (8, 8, .w1c), (7, 7, .w1c), (6, 6, .w1c), (5, 5, .w1c), (4, 4, .w1c), (3, 3, .w1c), (2, 2, .w1c), (1, 1, .w1c), (0, 0, .w1c)]⟩,
  ⟨A_TWN_LADLE, [], [(31, 0, .ro)]⟩,
  ⟨A_TWN_LEASE, [], [(31, 16, .ro), (15, 0, .ro)]⟩,
  ⟨A_TWN_PEER_SER0, [], [(31, 0, .ro)]⟩,
  ⟨A_TWN_PEER_SER1, [], [(31, 0, .ro)]⟩,
  ⟨A_TWN_EXEC, [], [(31, 0, .ro)]⟩,
  ⟨A_TWN_PEER_EXEC, [], [(31, 0, .ro)]⟩,
  ⟨A_TWN_ARB, [], [(27, 24, .ro), (23, 0, .ro)]⟩,
  ⟨A_TWN_CNT_MISM, [], [(31, 0, .ro)]⟩,
  ⟨A_TWN_CNT_EXCL, [], [(31, 0, .ro)]⟩,
  ⟨A_TWN_CNT_RETX, [], [(31, 0, .ro)]⟩,
  ⟨A_TWN_CNT_CRC, [], [(31, 0, .ro)]⟩,
  ⟨A_TWN_HLT_OWN 0, [(4, 64)], [(31, 0, .ro)]⟩,
  ⟨A_TWN_HLT_PEER 0, [(4, 64)], [(31, 0, .ro)]⟩]

/-- The registers of block SAF. -/
def rowsSaf : List RegRow := [
  ⟨A_SAF_STATUS, [], [(24, 24, .ro), (23, 16, .ro), (10, 8, .ro), (6, 6, .ro), (5, 5, .ro), (4, 4, .ro), (3, 2, .ro), (0, 0, .ro)]⟩,
  ⟨A_SAF_CAUSE, [], [(3, 0, .ro)]⟩,
  ⟨A_SAF_EVENT, [], [(6, 6, .w1c), (5, 5, .w1c), (4, 4, .w1c), (3, 3, .w1c), (2, 2, .w1c), (1, 1, .w1c), (0, 0, .w1c)]⟩,
  ⟨A_SAF_VERDICT, [], [(31, 8, .ro), (3, 0, .ro)]⟩,
  ⟨A_SAF_SIP, [], [(31, 16, .ro), (15, 0, .ro)]⟩,
  ⟨A_SAF_SIP_RAW, [], [(31, 16, .ro), (15, 0, .ro)]⟩,
  ⟨A_SAF_BRK_STAT 0, [(16, 8)], [(23, 16, .ro), (15, 8, .ro), (7, 7, .ro), (6, 6, .ro), (5, 5, .ro), (4, 3, .ro), (2, 0, .ro)]⟩,
  ⟨A_SAF_BRK_DEGR 0, [(16, 8)], [(31, 0, .ro)]⟩,
  ⟨A_SAF_BRK_TEST 0, [(16, 8)], [(31, 16, .ro), (2, 0, .ro)]⟩,
  ⟨A_SAF_BRK_AGE 0, [(16, 8)], [(31, 0, .ro)]⟩,
  ⟨A_SAF_CONN_STAT 0, [(8, 16)], [(31, 16, .ro), (15, 8, .ro), (1, 0, .ro)]⟩,
  ⟨A_SAF_CONN_CNT 0, [(8, 16)], [(31, 16, .rc), (15, 0, .rc)]⟩]

/-- The registers of block TSU. -/
def rowsTsu : List RegRow := [
  ⟨A_TSU_NS, [], [(31, 0, .ro)]⟩,
  ⟨A_TSU_EXT, [], [(31, 1, .ro), (0, 0, .ro)]⟩,
  ⟨A_TSU_STATUS, [], [(13, 13, .ro), (12, 9, .ro), (8, 8, .ro), (7, 7, .ro), (6, 6, .ro), (5, 5, .ro), (4, 4, .ro), (3, 3, .ro), (2, 0, .ro)]⟩,
  ⟨A_TSU_EVENT, [], [(6, 6, .w1c), (5, 5, .w1c), (4, 4, .w1c), (3, 3, .w1c), (2, 2, .w1c), (1, 1, .w1c), (0, 0, .w1c)]⟩,
  ⟨A_TSU_FREQ, [], [(31, 0, .ro)]⟩,
  ⟨A_TSU_SLEW, [], [(31, 0, .ro)]⟩,
  ⟨A_TSU_HOLD_ERR, [], [(31, 0, .ro)]⟩,
  ⟨A_TSU_HOLD_S, [], [(31, 0, .ro)]⟩,
  ⟨A_TSU_SRC_OFS 0, [(4, 4)], [(31, 0, .ro)]⟩,
  ⟨A_TSU_PTP_DELAY 0, [(4, 2)], [(31, 0, .ro)]⟩,
  ⟨A_TSU_UTC, [], [(18, 18, .ro), (17, 17, .ro), (16, 16, .ro), (15, 0, .ro)]⟩,
  ⟨A_TSU_STEP_LO, [], [(31, 0, .ro)]⟩,
  ⟨A_TSU_STEP_HI, [], [(31, 0, .ro)]⟩,
  ⟨A_TSU_STEP_CNT, [], [(31, 0, .ro)]⟩,
  ⟨A_TSU_CMP_CFG 0, [(16, 16)], [(5, 5, .w1c), (4, 4, .w1c), (3, 3, .w1c), (2, 2, .rw), (1, 1, .rw), (0, 0, .rw)]⟩,
  ⟨A_TSU_CMP_TIME 0, [(16, 16)], [(31, 0, .rw)]⟩,
  ⟨A_TSU_CMP_PERIOD 0, [(16, 16)], [(31, 0, .rw)]⟩,
  ⟨A_TSU_CMP_LAST 0, [(16, 16)], [(31, 0, .ro)]⟩,
  ⟨A_TSU_CAP_CFG 0, [(16, 8)], [(13, 13, .w1c), (12, 12, .ro), (11, 11, .ro), (10, 8, .ro), (5, 5, .rw), (4, 3, .rw), (2, 0, .rw)]⟩,
  ⟨A_TSU_CAP_NS 0, [(16, 8)], [(31, 0, .rc)]⟩]

/-- The registers of block ETH. -/
def rowsEth : List RegRow := [
  ⟨A_ETH_STATUS, [], [(8, 8, .ro), (6, 4, .ro), (2, 0, .ro)]⟩,
  ⟨A_ETH_EVENT, [], [(5, 5, .w1c), (4, 4, .w1c), (3, 3, .w1c), (2, 2, .w1c), (1, 1, .w1c), (0, 0, .w1c)]⟩,
  ⟨A_ETH_MDIO, [], [(31, 31, .wo), (30, 30, .ro), (29, 29, .ro), (25, 21, .rw), (20, 16, .rw), (15, 0, .ro)]⟩,
  ⟨A_ETH_P_RX_OK 0, [(32, 3)], [(31, 0, .rc)]⟩,
  ⟨A_ETH_P_RX_DROP 0, [(32, 3)], [(31, 0, .rc)]⟩,
  ⟨A_ETH_P_RX_ERR 0, [(32, 3)], [(31, 0, .rc)]⟩,
  ⟨A_ETH_P_TX_OK 0, [(32, 3)], [(31, 0, .rc)]⟩,
  ⟨A_ETH_P_DUP 0, [(32, 3)], [(31, 0, .rc)]⟩]

/-- The registers of block CAN. -/
def rowsCan : List RegRow := [
  ⟨A_CAN_STATUS 0, [(4096, 6)], [(24, 16, .ro), (15, 8, .ro), (5, 4, .ro), (3, 3, .ro), (2, 2, .ro), (1, 1, .ro), (0, 0, .ro)]⟩,
  ⟨A_CAN_EVENT 0, [(4096, 6)], [(10, 10, .w1c), (9, 9, .w1c), (8, 8, .w1c), (7, 7, .w1c), (6, 6, .w1c), (5, 5, .w1c), (4, 4, .w1c), (3, 3, .w1c), (2, 2, .w1c), (1, 1, .w1c), (0, 0, .w1c)]⟩,
  ⟨A_CAN_WARN 0, [(4096, 6)], [(15, 8, .ro), (7, 0, .ro)]⟩,
  ⟨A_CAN_RX_CNT 0, [(4096, 6)], [(31, 0, .rc)]⟩,
  ⟨A_CAN_TX_CNT 0, [(4096, 6)], [(31, 0, .rc)]⟩,
  ⟨A_CAN_ERR_CNT 0, [(4096, 6)], [(31, 0, .rc)]⟩,
  ⟨A_CAN_BOFF_CNT 0, [(4096, 6)], [(31, 0, .rc)]⟩,
  ⟨A_CAN_Q1_STAT 0, [(4096, 6)], [(6, 0, .ro)]⟩,
  ⟨A_CAN_Q1_CTRL 0, [(4096, 6)], [(0, 0, .wo)]⟩,
  ⟨A_CAN_Q1_ELEM 0 0, [(4096, 6), (4, 20)], [(31, 0, .ro)]⟩,
  ⟨A_CAN_TM_SOF 0, [(4096, 6)], [(31, 0, .ro)]⟩]

/-- The registers of block SPT. -/
def rowsSpt : List RegRow := [
  ⟨A_SPT_CFG 0, [(256, 8)], [(25, 24, .ro), (23, 4, .ro), (3, 3, .ro), (2, 0, .ro)]⟩,
  ⟨A_SPT_EVENT 0, [(256, 8)], [(2, 2, .w1c), (1, 1, .w1c), (0, 0, .w1c)]⟩,
  ⟨A_SPT_CNT0 0, [(256, 8)], [(31, 16, .rc), (15, 0, .rc)]⟩,
  ⟨A_SPT_CNT1 0, [(256, 8)], [(31, 16, .rc), (15, 0, .rc)]⟩]

/-- The registers of block FCH. -/
def rowsFch : List RegRow := [
  ⟨A_FCH_CFG 0, [(256, 128)], [(23, 16, .ro), (15, 12, .ro), (11, 11, .ro), (10, 9, .ro), (8, 8, .ro), (7, 4, .ro), (3, 0, .ro)]⟩,
  ⟨A_FCH_STATUS 0, [(256, 128)], [(11, 11, .ro), (10, 10, .ro), (9, 9, .ro), (8, 8, .ro), (7, 7, .ro), (6, 6, .ro), (5, 5, .ro), (4, 4, .ro), (3, 3, .ro), (2, 2, .ro), (1, 1, .ro), (0, 0, .ro)]⟩,
  ⟨A_FCH_EVENT 0, [(256, 128)], [(6, 6, .w1c), (5, 5, .w1c), (4, 4, .w1c), (3, 3, .w1c), (2, 2, .w1c), (1, 1, .w1c), (0, 0, .w1c)]⟩,
  ⟨A_FCH_RAW 0, [(256, 128)], [(31, 0, .ro)]⟩,
  ⟨A_FCH_PU 0, [(256, 128)], [(31, 0, .ro)]⟩,
  ⟨A_FCH_MEAS_T 0, [(256, 128)], [(31, 0, .ro)]⟩,
  ⟨A_FCH_LATCH 0, [(256, 128)], [(31, 0, .ro)]⟩,
  ⟨A_FCH_LATCH_T 0, [(256, 128)], [(31, 0, .ro)]⟩,
  ⟨A_FCH_OUT 0, [(256, 128)], [(31, 0, .rw)]⟩,
  ⟨A_FCH_CMD 0, [(256, 128)], [(31, 0, .ro)]⟩,
  ⟨A_FCH_RB 0, [(256, 128)], [(31, 0, .ro)]⟩,
  ⟨A_FCH_CNT 0, [(256, 128)], [(31, 16, .rc), (15, 0, .rc)]⟩]

/-- The registers of block INTC. -/
def rowsIntc : List RegRow := [
  ⟨A_INTC_T_CLAIM 0, [(256, 4)], [(31, 31, .rc), (8, 0, .rc)]⟩,
  ⟨A_INTC_T_COMPLETE 0, [(256, 4)], [(8, 0, .wo)]⟩,
  ⟨A_INTC_T_STAT 0, [(256, 4)], [(24, 16, .ro), (7, 7, .ro), (6, 6, .ro), (5, 5, .ro), (2, 0, .ro)]⟩,
  ⟨A_INTC_T_STACK0 0, [(256, 4)], [(24, 16, .ro), (8, 0, .ro)]⟩,
  ⟨A_INTC_T_STACK1 0, [(256, 4)], [(24, 16, .ro), (8, 0, .ro)]⟩,
  ⟨A_INTC_T_MOD 0, [(256, 4)], [(31, 16, .rw), (15, 9, .rw), (8, 0, .rw)]⟩,
  ⟨A_INTC_T_CTRL 0, [(256, 4)], [(1, 1, .rw), (0, 0, .wo)]⟩,
  ⟨A_INTC_T_MTIMECMP_LO 0, [(256, 2)], [(31, 0, .rw)]⟩,
  ⟨A_INTC_T_MTIMECMP_HI 0, [(256, 2)], [(31, 0, .rw)]⟩,
  ⟨A_INTC_T_MSIP 0, [(256, 2)], [(31, 0, .rw)]⟩,
  ⟨A_INTC_EVENT, [], [(3, 0, .w1c)]⟩,
  ⟨A_INTC_SWSET, [], [(31, 0, .wo)]⟩,
  ⟨A_INTC_SWPEND, [], [(31, 0, .w1c)]⟩,
  ⟨A_INTC_SRC_CFG 0, [(4, 384)], [(13, 12, .ro), (10, 10, .ro), (9, 9, .ro), (8, 8, .ro), (3, 0, .rw)]⟩]

/-- The registers of block HST. -/
def rowsHst : List RegRow := [
  ⟨A_HST_STATUS, [], [(19, 10, .ro), (4, 4, .ro), (3, 3, .ro), (2, 2, .ro), (1, 1, .ro), (0, 0, .ro)]⟩,
  ⟨A_HST_EVENT, [], [(2, 2, .w1c), (1, 1, .w1c), (0, 0, .w1c)]⟩,
  ⟨A_HST_ERRADDR, [], [(31, 0, .ro)]⟩]

/-- The registers of block ELK. -/
def rowsElk : List RegRow := [
  ⟨A_ELK_STATUS, [], [(23, 16, .ro), (15, 8, .ro), (3, 3, .ro), (2, 2, .ro), (1, 0, .ro)]⟩,
  ⟨A_ELK_EVENT, [], [(5, 5, .w1c), (4, 4, .w1c), (3, 3, .w1c), (2, 2, .w1c), (1, 1, .w1c), (0, 0, .w1c)]⟩,
  ⟨A_ELK_ID, [], [(15, 0, .ro)]⟩,
  ⟨A_ELK_FEPOCH, [], [(31, 0, .ro)]⟩,
  ⟨A_ELK_P_STAT 0, [(64, 2)], [(31, 16, .ro), (1, 0, .ro)]⟩,
  ⟨A_ELK_P_TX 0, [(64, 2)], [(31, 0, .rc)]⟩,
  ⟨A_ELK_P_RX 0, [(64, 2)], [(31, 0, .rc)]⟩,
  ⟨A_ELK_P_RETX 0, [(64, 2)], [(31, 0, .rc)]⟩,
  ⟨A_ELK_P_CRC 0, [(64, 2)], [(31, 0, .rc)]⟩,
  ⟨A_ELK_P_DROP 0, [(64, 2)], [(31, 0, .rc)]⟩,
  ⟨A_ELK_UDP_TX, [], [(31, 0, .rc)]⟩,
  ⟨A_ELK_UDP_RX, [], [(31, 0, .rc)]⟩,
  ⟨A_ELK_UDP_DROP, [], [(31, 0, .rc)]⟩,
  ⟨A_ELK_LATE, [], [(31, 0, .rc)]⟩,
  ⟨A_ELK_SUB_STAT 0, [(8, 64)], [(20, 20, .ro), (19, 19, .ro), (18, 18, .ro), (17, 17, .ro), (16, 16, .ro), (15, 0, .ro)]⟩,
  ⟨A_ELK_SUB_EP 0, [(8, 64)], [(31, 0, .ro)]⟩,
  ⟨A_ELK_PUB 0, [(4, 64)], [(31, 31, .ro), (15, 0, .ro)]⟩]

/-- The registers of block ACC. -/
def rowsAcc : List RegRow := [
  ⟨A_ACC_EVENT, [], [(1, 1, .w1c), (0, 0, .w1c)]⟩,
  ⟨A_ACC_VIOL, [], [(23, 20, .ro), (16, 16, .ro), (4, 0, .ro)]⟩,
  ⟨A_ACC_VIOL_ADDR, [], [(31, 0, .ro)]⟩,
  ⟨A_ACC_VIOL_CNT, [], [(31, 0, .rc)]⟩,
  ⟨A_ACC_R_N 0, [(4, 12)], [(5, 0, .rwl)]⟩,
  ⟨A_ACC_R_MASK 0 0, [(512, 12), (16, 32)], [(31, 0, .rwl)]⟩,
  ⟨A_ACC_R_LOW 0 0, [(512, 12), (16, 32)], [(31, 0, .rwl)]⟩,
  ⟨A_ACC_R_HIGH 0 0, [(512, 12), (16, 32)], [(31, 0, .rwl)]⟩,
  ⟨A_ACC_R_PERM 0 0, [(512, 12), (16, 32)], [(31, 0, .rwl)]⟩]

/-- The registers of block STI. -/
def rowsSti : List RegRow := [
  ⟨A_STI_EPOCH, [], [(31, 0, .ro)]⟩,
  ⟨A_STI_VIEW, [], [(1, 1, .ro), (0, 0, .ro)]⟩,
  ⟨A_STI_VIEW_CTRL, [], [(1, 1, .wo), (0, 0, .wo)]⟩,
  ⟨A_STI_VIEW_EP, [], [(31, 0, .ro)]⟩,
  ⟨A_STI_REFUSED, [], [(31, 0, .rc)]⟩]

/-- The registers of block HLT. -/
def rowsHlt : List RegRow := [
  ⟨A_HLT_STATUS, [], [(18, 16, .ro), (11, 11, .ro), (10, 10, .ro), (9, 9, .ro), (8, 8, .ro), (6, 0, .ro)]⟩,
  ⟨A_HLT_EVENT, [], [(7, 7, .w1c), (6, 6, .w1c), (5, 5, .w1c), (4, 4, .w1c), (3, 3, .w1c), (2, 2, .w1c), (1, 1, .w1c), (0, 0, .w1c)]⟩,
  ⟨A_HLT_TJMAX, [], [(31, 0, .ro)]⟩,
  ⟨A_HLT_TREF, [], [(31, 0, .ro)]⟩,
  ⟨A_HLT_HOURS, [], [(31, 0, .ro)]⟩,
  ⟨A_HLT_NODE 0, [(4, 8)], [(31, 16, .ro), (15, 0, .ro)]⟩,
  ⟨A_HLT_DIODE 0, [(4, 4)], [(31, 16, .ro), (15, 0, .ro)]⟩,
  ⟨A_HLT_RAIL_VI 0, [(8, 8)], [(31, 16, .ro), (15, 0, .ro)]⟩,
  ⟨A_HLT_RAIL_TRIM 0, [(8, 8)], [(31, 8, .ro), (3, 0, .ro)]⟩,
  ⟨A_HLT_DIE_AGE 0, [(16, 6)], [(31, 16, .ro), (15, 0, .ro)]⟩,
  ⟨A_HLT_DIE_MARGIN 0, [(16, 6)], [(31, 16, .ro), (1, 0, .ro)]⟩,
  ⟨A_HLT_SELFTEST 0, [(4, 32)], [(31, 0, .ro)]⟩]

/-- The registers of block REC. -/
def rowsRec : List RegRow := [
  ⟨A_REC_STATUS, [], [(19, 19, .ro), (18, 18, .ro), (17, 0, .ro)]⟩,
  ⟨A_REC_EVENT, [], [(4, 4, .w1c), (3, 3, .w1c), (2, 2, .w1c), (1, 1, .w1c), (0, 0, .w1c)]⟩,
  ⟨A_REC_NEXT, [], [(31, 0, .ro)]⟩,
  ⟨A_REC_BASE, [], [(31, 0, .ro)]⟩,
  ⟨A_REC_LOST, [], [(31, 0, .rc)]⟩,
  ⟨A_REC_REL_CNT, [], [(31, 0, .ro)]⟩,
  ⟨A_REC_PAGE, [], [(10, 0, .rw)]⟩,
  ⟨A_REC_WIN 0, [(4, 1024)], [(31, 0, .ro)]⟩]

/-- The registers of block ANN. -/
def rowsAnn : List RegRow := [
  ⟨A_ANN_STATUS, [], [(23, 16, .ro), (15, 8, .ro), (7, 7, .ro), (6, 4, .ro), (3, 3, .ro), (2, 0, .ro)]⟩,
  ⟨A_ANN_EVENT, [], [(2, 2, .w1c), (1, 1, .w1c), (0, 0, .w1c)]⟩,
  ⟨A_ANN_TEMP, [], [(31, 16, .ro), (15, 0, .ro)]⟩,
  ⟨A_ANN_COMMIT, [], [(7, 4, .wo)]⟩,
  ⟨A_ANN_SET_W 0 0, [(16, 4), (4, 3)], [(31, 0, .rw)]⟩,
  ⟨A_ANN_SHOWN_W 0 0, [(16, 8), (4, 3)], [(31, 0, .ro)]⟩]

/-- Every register of the device. -/
def regRows : List RegRow :=
  rowsGlb ++ rowsKpr ++ rowsCtl ++ rowsGns ++ rowsFus ++ rowsLoop ++ rowsSlv ++ rowsTwn ++ rowsSaf ++ rowsTsu ++ rowsEth ++ rowsCan ++ rowsSpt ++ rowsFch ++ rowsIntc ++ rowsHst ++ rowsElk ++ rowsAcc ++ rowsSti ++ rowsHlt ++ rowsRec ++ rowsAnn

/-- SLV_LANEMAP word `w`: two bits a lane, lanes 16 + 18c and 17 + 18c spare (1), the others in service (0). -/
def laneMapReset (w : Nat) : Word :=
  BitVec.ofNat 32 ((List.range 16).foldl (fun acc j => let l := 16 * w + j; acc + (if l < 72 ∧ 16 ≤ l % 18 then 4 ^ j else 0)) 0)

/-- `a` is the address of element `k < n` of a register array at `base` with stride `st`. -/
def inArray (base st n a : Nat) : Bool := base ≤ a && a < base + st * n && (a - base) % st == 0

/-- R7: what a register reads as after a reset that reaches its block, where the manual's Reset column is not 0 and the
value comes from no other source (Pattern, fuses, straps, MRAM). SLV_LANEMAP: lanes 16 and 17 of each cluster are spares. -/
def resetWord (a : Nat) : Word :=
  if a = A_GLB_DEVID then 0x41281001#32
  else if a = A_KPR_PATTERN then 0xFF0#32
  else if a = A_FUS_LEAD0 then 0xFFFFFFFF#32
  else if a = A_FUS_LEAD1 then 0xFFFF#32
  else if a = A_SLV_STATUS then 0x08400000#32
  else if inArray (A_SLV_LANEMAP 0) 4 5 a then laneMapReset ((a - A_SLV_LANEMAP 0) / 4)
  else if inArray (A_SLV_MOULD_HEAD 0) 16 256 a then 0x1F4F#32
  else if a = A_TWN_STATUS then 0xE00000#32
  else if a = A_TWN_LEASE then 0xFFFF0000#32
  else if a = A_SAF_STATUS then 0xFF0001#32
  else if a = A_SAF_SIP then 0xFFFF#32
  else if inArray (A_TSU_SRC_OFS 0) 4 4 a then 0x80000000#32
  else if inArray (A_CAN_STATUS 0) 4096 6 a then 0x30#32
  else if inArray (A_INTC_T_MOD 0) 256 4 a then 0x200#32
  else if inArray (A_INTC_T_MTIMECMP_LO 0) 256 2 a then 0xFFFFFFFF#32
  else if inArray (A_INTC_T_MTIMECMP_HI 0) 256 2 a then 0xFFFFFFFF#32
  else if a = A_HST_STATUS then 0x80000#32
  else if a = A_HLT_STATUS then 0x7F#32
  else if inArray (A_HLT_DIODE 0) 4 4 a then 0x8000#32
  else 0#32

end Sys2Proof.Machine
end

