-- ==== Sys2Proof/Machine/State.lean ====
section
/-! DEFINITION. The state of one MY4128 as a block that takes commands: every register, memory, buffer and pin the manual names, and
the queue of waiting commands. -/
namespace Sys2Proof.Machine

/-- No command of this device stops it with a fault: an event always has an effect or none. -/
inductive Fault where
  /-- Raised by no command; it gives the type an element. Safe: nothing stops. -/
  | unused
  deriving DecidableEq, Repr

/-- A command without a meaning. -/
inductive Refusal where
  /-- Raised only by an arm of `exec` whose command has no meaning yet. Safe: the machine stops. -/
  | notModelled (mnemonic : String)
  deriving DecidableEq, Repr

/-- The device. `regs` is the home of every register field that no other part names, by address in the device address space (R33).
`flash` is the external Pattern flash, `appm` application memory, `xchg` the solver exchange area by word (R249), `out` what the device sent, `freeCtr` the model's own count of the
free values used so far. -/
structure State where
  serial : Nat := Config.serial
  devKey : List Word := (List.range 8).map Config.deviceKey
  clk : Clk := {}
  boot : Boot := {}
  pat : Pat := {}
  dev : Dev := {}
  ord : Ord := {}
  alarms : List Alarm := []
  rcd : Recorder := {}
  mram : Mram := {}
  ann : Ann := {}
  intc : Intc := {}
  hst : Hst := {}
  apps : List App := [{}, {}]
  sti : Sti := {}
  acl : Acl := {}
  tim : Tim := {}
  pins : Pins := {}
  agr : Agr := {}
  twn : Twn := {}
  saf : Saf := {}
  hlt : Hlt := {}
  thm : Thm := {}
  gns : Gns := {}
  fus : Fus := {}
  ctl : Ctl := {}
  alc : Alc := {}
  slv : Slv := {}
  fch : FieldDie := {}
  loops : List (Nat × LoopSlot) := []
  net : Net := {}
  can : Can := {}
  spt : Spt := {}
  elk : Elk := {}
  flashCmd : Option FlashCmd := none
  regs : Sparse 32 := [(A_KPR_RESETCAUSE, 1#32)]
  appm : Sparse 8 := []
  flash : Sparse 8 := []
  xchg : Sparse 32 := []
  out : List Sent := []
  freeCtr : Nat := 0
  pending : List Instr := []
  deriving DecidableEq, Repr

/-- The machine right after a power-on reset: every part at its reset value, empty flash and MRAM, nothing waiting. [Log 5, DESIGN CHOICE, unsafe] [Log 6, DESIGN CHOICE, unsafe] -/
def State.reset : State := {}

end Sys2Proof.Machine
end

