-- ==== Sys2Proof/Machine/Flags.lean ====
section
/-! DEFINITION. Register and bit-field access: the one home of every register read and write the machine makes itself, the event bits of
R5 and the counters. -/
namespace Sys2Proof.Machine

/-- The value of field `f` in a word (R2). -/
def fieldOf (w : Word) (f : Fld) : Nat := (w.toNat / 2 ^ f.lo) % 2 ^ (f.hi + 1 - f.lo)

/-- A word with field `f` set to `v`, cut to the field's width (R2). -/
def fieldIn (w : Word) (f : Fld) (v : Nat) : Word :=
  BitVec.ofNat 32 (w.toNat - fieldOf w f * 2 ^ f.lo + (v % 2 ^ (f.hi + 1 - f.lo)) * 2 ^ f.lo)

/-- The greatest value of a field. [Log 94, DEDUCED, unsafe] -/
def fieldMax (f : Fld) : Nat := 2 ^ (f.hi + 1 - f.lo) - 1

/-- The word the register bank holds at an address. [Log 5, DESIGN CHOICE, unsafe] -/
def State.reg (s : State) (a : Nat) : Word := memGet resetWord s.regs a

/-- Store a word in the register bank. -/
def State.setReg (s : State) (a : Nat) (w : Word) : State := { s with regs := memSet resetWord s.regs a w }

/-- The value of a register field. -/
def State.fld (s : State) (f : Fld) : Nat := fieldOf (s.reg f.addr) f

/-- Set a register field. -/
def State.setFld (s : State) (f : Fld) (v : Nat) : State := s.setReg f.addr (fieldIn (s.reg f.addr) f v)

/-- A one-bit field as a flag. -/
def State.flag (s : State) (f : Fld) : Bool := s.fld f != 0

/-- Set a one-bit field. -/
def State.setFlag (s : State) (f : Fld) (b : Bool) : State := s.setFld f (bit b)

/-- Set an event bit. It stays 1 until a later clear (R5). [Log 96, DEDUCED, unsafe] -/
def State.event (s : State) (f : Fld) : State := s.setFld f 1

/-- A signed number in a field, two's complement. -/
def State.setInt (s : State) (f : Fld) (i : Int) : State := s.setFld f (intWord i).toNat

/-- A field read as a signed number. -/
def State.int (s : State) (f : Fld) : Int :=
  let n := s.fld f
  if 2 * n ≥ 2 ^ (f.hi + 1 - f.lo) then (n : Int) - 2 ^ (f.hi + 1 - f.lo) else n

/-- Add to a counter field, saturating. [Log 94, DEDUCED, unsafe] -/
def State.bump (s : State) (f : Fld) (n : Nat := 1) : State := s.setFld f (Nat.min (s.fld f + n) (fieldMax f))

/-- A whole register as one field. -/
def word32 (a : Nat) : Fld := ⟨a, 31, 0⟩

/-- Bit `i` of the register at `a`. -/
def bitAt (a i : Nat) : Fld := ⟨a, i, i⟩

/-- Bit `i` of an array of 32-bit mask registers that starts at `a`. -/
def maskBit (a i : Nat) : Fld := ⟨a + 4 * (i / 32), i % 32, i % 32⟩

/-- Set several consecutive registers from `a`. -/
def State.setRegs (s : State) (a : Nat) (ws : List Word) : State := { s with regs := memSetRun resetWord 4 s.regs a ws }

/-- Read `n` consecutive registers from `a`. -/
def State.regRun (s : State) (a n : Nat) : List Word := memGetRun resetWord 4 s.regs a n

end Sys2Proof.Machine
end

