-- ==== Sys2Proof/Machine/ParamCore.lean ====
section
/-! DEFINITION. Parameters (R45): one row per PID with its length, the range of each word, its default and whether R45 requires it.
Rows of Device architecture, Pattern, states, time, access, recorder and annunciator. -/
namespace Sys2Proof.Machine

/-- A parameter's table entry. Word `i` of a value has the range `ranges[i mod ranges.length]`; a value in `special` is also allowed.
LEN is `len` × n with n from `nMin` to `nMax`. `dflt` is the stated default, its last word repeated; `none` stands for "None; required". -/
structure ParamRow where
  pid : Nat
  len : Nat
  nMin : Nat
  nMax : Nat
  ranges : List (Int × Int)
  dflt : Option (List Int)
  special : List Int := []
  deriving DecidableEq, Repr

/-- A parameter of fixed LEN. -/
def fixedPar (pid len : Nat) (ranges : List (Int × Int)) (dflt : Option (List Int)) (special : List Int := []) : ParamRow :=
  ⟨pid, len, 1, 1, ranges, dflt, special⟩

/-- A parameter of `len` × n words. -/
def arrayPar (pid len nMin nMax : Nat) (ranges : List (Int × Int)) (dflt : Option (List Int)) : ParamRow :=
  ⟨pid, len, nMin, nMax, ranges, dflt, []⟩

/-- Any 32-bit word. -/
def anyWord : Int × Int := (0, 4294967295)

/-- A rule word of ACCESS: PERM has two bits (R467). -/
def accessRow (r : Nat) : ParamRow := arrayPar (0x1100 + r) 4 0 32 [anyWord, anyWord, anyWord, (0, 3)] (some [])

/-- R46 and R89: pairing, state, mode and order parameters. -/
def paramRowsState : List ParamRow := [
  fixedPar 0x0901 1 [(0, 1)] (some [0]),
  fixedPar 0x0902 2 [anyWord] (some [0]),
  fixedPar 0x0903 8 [anyWord] (some [0]),
  fixedPar 0x0904 2 [anyWord] (some [0]),
  fixedPar 0x0905 8 [anyWord] (some [0]),
  fixedPar 0x0701 1 [(1, 6)] (some [6]),
  fixedPar 0x0702 6 [(500, 5000), (1000, 10000), (500, 5000), (500, 10000), (500, 5000), (1000, 20000)]
    (some [1000, 3000, 1500, 2000, 1500, 5000]),
  fixedPar 0x0703 6 [(0, 5000)] (some [200, 1000, 300, 300, 300, 0]),
  fixedPar 0x0704 6 [(0, 5000)] (some [200, 1000, 0, 500, 500, 0]),
  fixedPar 0x0705 6 [(10, 600)] (some [60, 60, 60, 60, 60, 0]) [0],
  fixedPar 0x0706 6 [(0, 1)] (some [0]),
  fixedPar 0x0707 1 [(0, 1)] (some [0]),
  arrayPar 0x1201 4 1 64 [(0, 4), anyWord, anyWord, anyWord] none,
  fixedPar 0x1202 1 [(1024, 65535)] (some [47110]),
  fixedPar 0x1203 1 [(1, 50)] (some [5]),
  arrayPar 0x1301 4 0 256 [anyWord] (some [])]

/-- R365: time parameters. -/
def paramRowsTime : List ParamRow := [
  fixedPar 0x0B80 1 [(0, 0x333)] (some [0x321]),
  fixedPar 0x0B81 2 [(0, 127)] (some [0, 1]) [0xFFFF],
  fixedPar 0x0B82 1 [(500, 30000)] (some [3000]),
  fixedPar 0x0B83 1 [(1, 600)] (some [10]),
  fixedPar 0x0B84 1 [(10, 2000)] (some [100]),
  fixedPar 0x0B85 1 [(100, 50000)] (some [1000]),
  fixedPar 0x0B86 1 [(20, 10000)] (some [200]),
  fixedPar 0x0B87 1 [(100, 1000000)] (some [1000]),
  fixedPar 0x0B88 6 [(0, 10000)] (some [0]),
  fixedPar 0x0B89 4 [(-1000000, 1000000)] (some [0]),
  fixedPar 0x0B8A 1 [(0, 100000)] (some [1000]),
  fixedPar 0x0B8B 1 [(1, 100000)] (some [100]),
  fixedPar 0x0B8C 1 [(1, 100000)] (some [100]),
  fixedPar 0x0B8D 4 [(0, 31), anyWord] (some [0x11, 0x4E202710, 0, 0]),
  fixedPar 0x0B8E 1 [(0, 255)] (some [37]),
  fixedPar 0x0B8F 1 [(0, 10000)] (some [0])]

/-- R467: access tables of the regions that hold register blocks or memory. -/
def paramRowsAccess : List ParamRow := [0, 1, 2, 3, 4, 6, 7, 9, 10].map accessRow

/-- R509: recorder and annunciator parameters. -/
def paramRowsRecorder : List ParamRow := [
  fixedPar 0x1401 1 [(0, 1)] (some [1]),
  arrayPar 0x1402 8 0 2 [anyWord, anyWord, anyWord, anyWord, anyWord, (0, 0), (0, 0), (0, 0)] (some []),
  arrayPar 0x1403 1 0 256 [(0x10001, 0x3FFFF)] (some []),
  fixedPar 0x1501 8 [(80, 240)] (some [240, 210, 185, 160, 140, 120, 100, 80]),
  fixedPar 0x1502 8 [(100, 10000)] none,
  fixedPar 0x1503 128 [(0, 0xFFFFFF)] none,
  fixedPar 0x1504 1 [(0, 128)] (some [0]),
  fixedPar 0x1505 1 [(200, 10000)] (some [1000])]

end Sys2Proof.Machine
end

