-- ==== Sys2Proof/Machine/ParamPlant.lean ====
section
/-! DEFINITION. Parameters (R45): rows of twin operation, safety, health, sensors, GNSS, control, allocation, networks, field channels,
the loop engine and formations. -/
namespace Sys2Proof.Machine

/-- R307: twin parameters. -/
def paramRowsTwin : List ParamRow := [
  fixedPar 0x0906 1 [(0, 1)] (some [1]),
  fixedPar 0x0907 1 [(0, 1)] (some [1]),
  fixedPar 0x0908 1 [(1, 10)] (some [3])]

/-- R338: SAF_SIP of pair n. -/
def sipRow (n : Nat) : ParamRow := fixedPar (0x1020 + n) 3 [(0, 2), (10, 500), anyWord] (some [0])

/-- R338: SAF_BRK of channel n. -/
def brkRow (n : Nat) : ParamRow := fixedPar (0x1040 + n) 5 [anyWord, anyWord, anyWord, anyWord, (1, 1000)] (some [0])

/-- R338: SAF_CONN of connection c. -/
def connRow (c : Nat) : ParamRow := fixedPar (0x1060 + c) 5 [anyWord, (5, 1000), (10, 10000), anyWord, anyWord] (some [0])

/-- R338: safety parameters. -/
def paramRowsSafety : List ParamRow := [
  fixedPar 0x1001 1 [(1, 65534)] none,
  fixedPar 0x1002 1 [(1024, 65535)] (some [47111]),
  fixedPar 0x1003 1 [(100, 10000)] (some [2000]),
  fixedPar 0x1004 1 [(1, 72)] (some [24]),
  fixedPar 0x1005 1 [(1, 60)] (some [10]),
  fixedPar 0x1006 1 [(100, 10000)] (some [2000]),
  fixedPar 0x1007 1 [(24, 8760)] (some [720]) [0],
  fixedPar 0x1008 1 [(0, 3)] (some [3]),
  fixedPar 0x1009 1 [(0, 50)] (some [10]),
  fixedPar 0x100A 1 [(1, 50)] (some [5]),
  fixedPar 0x100B 1 [(2, 30)] (some [10]),
  fixedPar 0x100C 1 [(500, 50000)] (some [3000]),
  fixedPar 0x100D 1 [(1, 5)] (some [3]),
  arrayPar 0x100E 1 0 65535 [anyWord] (some []),
  fixedPar 0x100F 4 [anyWord] (some [0])] ++
  (List.range 16).map sipRow ++ (List.range 8).map brkRow ++ (List.range 16).map connRow

/-- R491: health and thermal parameters. -/
def paramRowsHealth : List ParamRow := [
  fixedPar 0x0820 1 [(10, 2000)] none,
  fixedPar 0x0821 1 [(60, 110)] (some [100]),
  fixedPar 0x0822 1 [(1, 1000)] (some [16]),
  fixedPar 0x0823 4 [anyWord] (some [0]),
  fixedPar 0x0824 1 [(60, 86400)] (some [600])]

/-- A word that is a signed number. -/
def signedWord : Int × Int := (-2147483648, 2147483647)

/-- R128: GNSS parameters. -/
def paramRowsGnss : List ParamRow := [
  fixedPar 0x0601 1 [(0, 0xFFFFF)] (some [0xFFFFF]),
  fixedPar 0x0602 1 [(1, 15)] (some [1]),
  fixedPar 0x0603 4 [(0, 2)] (some [0]),
  fixedPar 0x0604 4 [(0, 60)] (some [0]),
  fixedPar 0x0605 12 [(-200000, 200000)] (some [0]),
  fixedPar 0x0606 1 [(0, 300)] (some [100]),
  arrayPar 0x0607 1 1 32 [(0, 0xF1F)] (some []),
  fixedPar 0x0608 1 [(500, 3000)] (some [1500]),
  fixedPar 0x0609 1 [(100, 1000)] (some [400]),
  fixedPar 0x060A 1 [(5, 200)] (some [50]),
  fixedPar 0x060B 1 [(3, 64)] (some [13]),
  fixedPar 0x060C 1 [(60, 200)] (some [120]),
  fixedPar 0x060D 1 [(60, 300)] (some [150]),
  fixedPar 0x060E 1 [(30, 200)] (some [100]),
  fixedPar 0x060F 1 [(50, 500)] (some [250]),
  fixedPar 0x0610 1 [(3, 12)] (some [4]),
  fixedPar 0x0611 1 [(450, 650)] (some [550]),
  fixedPar 0x0612 1 [(0, 0x3FF)] (some [0x2AA]),
  fixedPar 0x0613 1 [(10, 500)] (some [50]),
  fixedPar 0x0614 1 [(5, 500)] (some [30]),
  fixedPar 0x0615 1 [(50, 2000)] (some [200]),
  fixedPar 0x0616 1 [(50, 500)] (some [150]),
  fixedPar 0x0617 1 [(10, 600)] (some [30]),
  fixedPar 0x0618 1 [(1, 8)] (some [8]),
  fixedPar 0x0619 1 [(0, 8)] (some [4]),
  fixedPar 0x061A 1 [(0, 1)] (some [1]),
  fixedPar 0x061B 1 [(10, 1000)] (some [50]),
  fixedPar 0x061C 1 [(15, 100)] (some [30]),
  fixedPar 0x061D 1 [(2, 50)] (some [10]),
  fixedPar 0x061E 14 [(-10000, 10000)] (some [0])]

/-- R132: FUS_SLOT of slot n. -/
def slotRow (n : Nat) : ParamRow := fixedPar (0x0540 + n) 18
  [anyWord, anyWord, (1, 7), (5, 10000), (0, 1000000), (0, 30000), (20, 1000), (1, 100000), (0, 100000), (-200000, 200000), (-200000, 200000),
   (-200000, 200000), (-180000, 180000), (-180000, 180000), (-180000, 180000), (-2000000000, 2000000000), (-2000000000, 2000000000), (0, 7)] (some [0])

/-- R159, R165: sensor parameters. -/
def paramRowsSensors : List ParamRow := [
  fixedPar 0x0501 3 [signedWord] none,
  fixedPar 0x0502 1 [(300, 2500)] (some [663]),
  fixedPar 0x0503 1 [(500, 3000)] (some [921]),
  fixedPar 0x0504 1 [(300, 5000)] (some [1083]),
  fixedPar 0x0505 1 [(500, 5000)] (some [1382]),
  fixedPar 0x0506 1 [(100, 10000)] (some [1000]),
  fixedPar 0x0507 1 [(1, 60)] (some [5]),
  fixedPar 0x0508 1 [(0, 60)] (some [2]),
  fixedPar 0x0509 1 [(10, 600)] (some [60]),
  fixedPar 0x050A 1 [(10, 100)] (some [20]),
  fixedPar 0x050B 12 [(0, 500), (0, 100), (0, 1000), (0, 200), (0, 5000), (0, 1000), (0, 2000), (0, 500), (0, 2000), (0, 200), (0, 5000), (0, 1000)]
    (some [50, 10, 100, 20, 500, 100, 500, 50, 500, 20, 1000, 100])] ++ (List.range 48).map slotRow

/-- R201: LOOP_SLOT of slot n. -/
def loopRow (n : Nat) : ParamRow := fixedPar (0x0F40 + n) 14
  [(0, 0x3FFFFFF), signedWord, signedWord, signedWord, signedWord, signedWord, signedWord, signedWord, signedWord, signedWord, anyWord, anyWord,
   (0, 65535), signedWord] (some [0])

/-- R201: control parameters. -/
def paramRowsControl : List ParamRow := [
  fixedPar 0x0201 9 [signedWord] none,
  fixedPar 0x0202 9 [signedWord] none,
  fixedPar 0x0203 111 [signedWord] (some [0]),
  fixedPar 0x0204 1 [(200, 2000)] (some [628]),
  arrayPar 0x0210 1 0 65535 [anyWord] (some []),
  fixedPar 0x0211 27 [signedWord] (some [0]),
  fixedPar 0x0708 18 [(0, 1000000)] (some [1000]),
  fixedPar 0x0709 18 [(0, 1000000)] (some [100]),
  fixedPar 0x070A 18 [(1, 1000000)] (some [1]),
  fixedPar 0x070B 18 [(0, 1000000)] (some [10]),
  fixedPar 0x070C 6 [(0, 100)] (some [80, 80, 80, 80, 80, 0]),
  fixedPar 0x070D 6 [(10, 1000)] (some [100]),
  fixedPar 0x070E 6 [(0, 100)] (some [30]),
  fixedPar 0x070F 1 [(10, 2000)] (some [500]),
  fixedPar 0x0710 1 [(100, 10000)] (some [3000]),
  fixedPar 0x0711 1 [(1, 60)] (some [5]),
  fixedPar 0x0712 1 [(-200000, 200000)] (some [0]),
  fixedPar 0x0713 1 [(0, 1)] (some [0]),
  fixedPar 0x0714 1 [(0, 100)] (some [20]),
  fixedPar 0x0715 1 [(100, 10000)] (some [2000]),
  fixedPar 0x0716 1 [(100, 10000)] (some [1000]),
  fixedPar 0x0717 1 [(0, 5000)] (some [300]),
  fixedPar 0x0718 1 [(0, 2000)] (some [500]),
  fixedPar 0x0801 3 [(1, 2000000000)] none,
  fixedPar 0x0802 3 [(1, 2000000000)] none,
  fixedPar 0x0803 1 [(0, 3)] (some [3]),
  fixedPar 0x0804 1 [(0, 1)] (some [0]),
  fixedPar 0x0805 1 [(100, 50000)] (some [2000]),
  fixedPar 0x0806 1 [(100, 30000)] (some [3000]),
  fixedPar 0x0807 1 [(1000, 120000)] (some [10000]),
  fixedPar 0x0808 1 [(5, 100)] (some [25]),
  fixedPar 0x0809 1 [(1, 60)] (some [10]),
  fixedPar 0x080A 1 [(1000, 120000)] (some [10000])] ++ (List.range 64).map loopRow

/-- R203: THR_RECORD of thruster t. -/
def thrRow (t : Nat) : ParamRow := fixedPar (0x0340 + t) 19
  [(0, 0x77), (-200000, 200000), (-200000, 200000), (1, 2000000), (0, 2000000), (1, 2000000000), (100, 90000), (1, 20000), (0, 45000), (0, 1000),
   anyWord, anyWord, anyWord, anyWord, anyWord, anyWord, anyWord, anyWord, (1, 1000)] (some [0])

/-- R236: PWR_GEN of generator g. -/
def genRow (g : Nat) : ParamRow := fixedPar (0x0440 + g) 3 [(0, 7), (1, 50000), anyWord] (some [0])

/-- R236: allocation parameters. -/
def paramRowsAllocation : List ParamRow := [
  fixedPar 0x0301 1 [(1000, 1000000000)] (some [1000000]),
  fixedPar 0x0302 1 [(0, 1000)] (some [1]),
  fixedPar 0x0303 1 [(0, 1000000)] (some [10]),
  fixedPar 0x0304 1 [(1, 999999999)] (some [10000]),
  fixedPar 0x0305 1 [(0, 5)] (some [1]),
  fixedPar 0x0306 1 [(0, 50)] (some [10]),
  fixedPar 0x0307 6 [(1000, 30000)] (some [5000]),
  fixedPar 0x0308 1 [(50, 150)] (some [90]),
  fixedPar 0x0309 1 [(30, 140)] (some [70]),
  fixedPar 0x030A 1 [(1, 100)] (some [10]),
  fixedPar 0x030B 1 [(1, 600)] (some [10]),
  fixedPar 0x030C 1 [(0, 16)] (some [16]),
  fixedPar 0x030D 1 [(0, 100)] (some [10]),
  fixedPar 0x030E 1 [(10, 1000)] (some [100]),
  fixedPar 0x030F 1 [(1, 1000)] (some [10]),
  fixedPar 0x0310 1 [(1, 60)] (some [5]),
  fixedPar 0x0311 1 [(50, 100)] (some [80]),
  arrayPar 0x0320 1 0 65535 [anyWord] (some []),
  arrayPar 0x0321 1 0 65535 [anyWord] (some []),
  arrayPar 0x0322 1 0 65535 [anyWord] (some []),
  arrayPar 0x0380 2 0 48 [anyWord, (0, 0xFFFF)] (some []),
  fixedPar 0x0401 1 [(1, 8)] none,
  arrayPar 0x0402 2 0 8 [(0, 0x77), anyWord] (some []),
  fixedPar 0x0403 1 [(50, 100)] (some [90])] ++ (List.range 32).map thrRow ++ (List.range 16).map genRow

/-- R396: CAN_CH, CAN_TM and CAN_FLT of channel c. -/
def canRows (c : Nat) : List ParamRow := [
  fixedPar (0x0C01 + c) 4 [(0, 0x7F33), anyWord, anyWord, anyWord] (some [0, 0, 0, 0x00646060]),
  fixedPar (0x0C10 + c) 2 [(0, 0x73), (0, 0x1FFFFFFF)] (some [0]),
  arrayPar (0x0C20 + c) 3 0 21845 [(0, 0x37), (0, 0x1FFFFFFF), (0, 0x1FFFFFFF)] (some [])]

/-- R396: CAN_OBJ of object o. -/
def objRow (o : Nat) : ParamRow := fixedPar (0x0C80 + o) 3 [(0, 0x37F3F), (0, 0x1FFFFFFF), anyWord] (some [0])

/-- R396: SPT_PORT of port p. -/
def sptRow (p : Nat) : ParamRow :=
  fixedPar (0x0D01 + p) 4 [(0, 0x337), (4800, 921600), (0, 0xFF), anyWord] (some [0x100, 4800, 0, 0x49490032])

/-- R396: network, CAN and serial parameters. -/
def paramRowsNetwork : List ParamRow := [
  fixedPar 0x0B01 1 [(0, 7)] (some [7]),
  fixedPar 0x0B02 4 [anyWord, (0, 0xFFFF)] none,
  fixedPar 0x0B03 6 [anyWord] none,
  fixedPar 0x0B04 1 [(0, 0xEFFF)] (some [0]),
  fixedPar 0x0B05 3 [(0, 31)] (some [0, 1, 2]),
  fixedPar 0x0B06 1 [(100, 20000)] (some [2000]),
  fixedPar 0x0B07 1 [(1000, 100000)] (some [50000]),
  fixedPar 0x0B08 3 [(1024, 65535), (0, 3), (0, 1)] (some [47112, 2, 0]),
  arrayPar 0x0B09 1 0 16 [anyWord] (some []),
  fixedPar 0x0B0A 3 [anyWord, (0, 65535), (1, 50)] (some [0, 47113, 5]),
  fixedPar 0x0B0B 2 [anyWord, (0, 65535)] (some [0, 47114]),
  arrayPar 0x0B10 2 0 8 [anyWord, (0, 65535)] (some []),
  fixedPar 0x0B11 5 [anyWord, (0, 65535), anyWord, anyWord, anyWord] (some [0]),
  fixedPar 0x0B20 3 [(0, 0x7F), anyWord, (0, 0xFFFF)] (some [0x38, 0x30100, 0x8080]),
  fixedPar 0x0B21 3 [(0, 0x7F), anyWord, (0, 0xFFFF)] (some [0x38, 0x30100, 0x8080])] ++
  (List.range 6).flatMap canRows ++ (List.range 128).map objRow ++ (List.range 8).map sptRow

/-- R416: the record of field channel n. -/
def fieldRow (n : Nat) : ParamRow := fixedPar (0x0E80 + n) 7
  [anyWord, signedWord, signedWord, signedWord, signedWord, (0, 65535), (10, 10000)] (some [0])

/-- R455: formation parameters. -/
def paramRowsFormation : List ParamRow := [
  fixedPar 0x0A01 1 [(0, 65535)] none,
  fixedPar 0x0A02 1 [(1, 0xFFFFFFFF)] none,
  fixedPar 0x0A03 1 [(0, 7)] (some [3]),
  fixedPar 0x0A04 1 [(40, 1000)] (some [200]),
  fixedPar 0x0A05 1 [(0, 1000)] (some [20]),
  fixedPar 0x0A06 3 [signedWord] none,
  fixedPar 0x0A07 1 [(0, 17)] none [0xFF],
  arrayPar 0x0A08 2 0 64 [anyWord, (0, 255)] (some []),
  arrayPar 0x0A09 1 0 16 [anyWord] (some []),
  fixedPar 0x0A0A 1 [(1024, 65535)] (some [47115]),
  fixedPar 0x0A0B 1 [(1000, 100000)] (some [20000]),
  arrayPar 0x0A0C 1 0 64 [(0, 65534)] (some []),
  fixedPar 0x0A0D 1 [(100, 1000000)] (some [10000]),
  fixedPar 0x0A0E 2 [(0, 3), anyWord] (some [0])]

/-- Parameters of the plant chapters. -/
def paramRowsPlant : List ParamRow :=
  paramRowsGnss ++ paramRowsSensors ++ paramRowsControl ++ paramRowsAllocation ++ paramRowsNetwork ++ (List.range 128).map fieldRow ++
  paramRowsFormation

/-- A stated range of a field within a parameter word: PIDs from `lo` to `hi`, the word (counted modulo the length of an entry), the field's bits, its
least and greatest value, and whether the field is signed. -/
structure FieldRule where
  lo : Nat
  hi : Nat
  word : Nat
  msb : Nat
  lsb : Nat
  least : Int
  most : Int
  signed : Bool := false
  deriving DecidableEq, Repr

/-- R132, R203, R236, R338, R375, R392, R396, R416, R128: the ranges that the tables state for fields within words. -/
def fieldRules : List FieldRule := [
  ⟨0x0602, 0x0602, 0, 0, 0, 1, 1, false⟩,
  ⟨0x0612, 0x0612, 0, 1, 0, 0, 2, false⟩, ⟨0x0612, 0x0612, 0, 3, 2, 0, 2, false⟩, ⟨0x0612, 0x0612, 0, 5, 4, 0, 2, false⟩,
  ⟨0x0612, 0x0612, 0, 7, 6, 0, 2, false⟩, ⟨0x0612, 0x0612, 0, 9, 8, 0, 2, false⟩,
  ⟨0x0540, 0x056F, 0, 7, 0, 1, 11, false⟩, ⟨0x0540, 0x056F, 0, 10, 8, 0, 4, false⟩, ⟨0x0540, 0x056F, 0, 13, 12, 0, 2, false⟩,
  ⟨0x0540, 0x056F, 0, 23, 16, 0, 47, false⟩,
  ⟨0x0340, 0x035F, 0, 2, 0, 1, 4, false⟩,
  ⟨0x0340, 0x035F, 10, 15, 0, 0, 35999, false⟩, ⟨0x0340, 0x035F, 10, 31, 16, 0, 35999, false⟩,
  ⟨0x0340, 0x035F, 11, 15, 0, 0, 35999, false⟩, ⟨0x0340, 0x035F, 11, 31, 16, 0, 35999, false⟩,
  ⟨0x0340, 0x035F, 12, 15, 0, 0, 35999, false⟩, ⟨0x0340, 0x035F, 12, 31, 16, 0, 35999, false⟩,
  ⟨0x0340, 0x035F, 13, 15, 0, 0, 35999, false⟩, ⟨0x0340, 0x035F, 13, 31, 16, 0, 35999, false⟩,
  ⟨0x0340, 0x035F, 15, 2, 0, 0, 2, false⟩,
  ⟨0x1040, 0x1047, 1, 31, 16, 1, 500, false⟩,
  ⟨0x0B20, 0x0B21, 1, 7, 0, -7, 1, true⟩, ⟨0x0B20, 0x0B21, 1, 15, 8, -3, 4, true⟩, ⟨0x0B20, 0x0B21, 1, 23, 16, 2, 10, true⟩,
  ⟨0x0B20, 0x0B21, 1, 31, 24, -7, 5, true⟩,
  ⟨0x0C01, 0x0C06, 0, 5, 4, 0, 2, false⟩,
  ⟨0x0C01, 0x0C06, 1, 7, 0, 1, 32, false⟩, ⟨0x0C01, 0x0C06, 1, 15, 8, 2, 127, false⟩, ⟨0x0C01, 0x0C06, 1, 21, 16, 1, 32, false⟩,
  ⟨0x0C01, 0x0C06, 1, 29, 24, 1, 32, false⟩,
  ⟨0x0C01, 0x0C06, 2, 7, 0, 1, 32, false⟩, ⟨0x0C01, 0x0C06, 2, 12, 8, 1, 31, false⟩, ⟨0x0C01, 0x0C06, 2, 19, 16, 1, 15, false⟩,
  ⟨0x0C01, 0x0C06, 2, 27, 24, 1, 15, false⟩,
  ⟨0x0C01, 0x0C06, 3, 7, 0, 1, 255, false⟩, ⟨0x0C01, 0x0C06, 3, 15, 8, 1, 255, false⟩, ⟨0x0C01, 0x0C06, 3, 31, 16, 0, 10000, false⟩,
  ⟨0x0C10, 0x0C15, 0, 6, 4, 0, 4, false⟩,
  ⟨0x0C20, 0x0C25, 0, 1, 0, 0, 2, false⟩,
  ⟨0x0C80, 0x0CFF, 0, 2, 0, 0, 5, false⟩, ⟨0x0C80, 0x0CFF, 0, 14, 8, 0, 64, false⟩, ⟨0x0C80, 0x0CFF, 0, 17, 16, 0, 2, false⟩,
  ⟨0x0D01, 0x0D08, 0, 2, 0, 0, 4, false⟩, ⟨0x0D01, 0x0D08, 0, 5, 4, 0, 2, false⟩, ⟨0x0D01, 0x0D08, 3, 15, 0, 1, 500, false⟩,
  ⟨0x0E80, 0x0EFF, 0, 3, 0, 0, 8, false⟩, ⟨0x0E80, 0x0EFF, 0, 23, 16, 5, 200, false⟩, ⟨0x0E80, 0x0EFF, 0, 13, 10, 0, 15, false⟩]

end Sys2Proof.Machine
end

