-- ==== Sys2Proof/Machine/Params.lean ====
section
/-! DEFINITION. Every parameter of the Pattern. -/
namespace Sys2Proof.Machine

/-- The parameters that the device knows; any other PID makes the image invalid (R45). -/
def paramRows : List ParamRow :=
  paramRowsState ++ paramRowsTime ++ paramRowsAccess ++ paramRowsRecorder ++ paramRowsTwin ++ paramRowsSafety ++ paramRowsHealth ++
  paramRowsPlant

end Sys2Proof.Machine
end

