-- ==== Sys2Proof/Machine/Operands.lean ====
section
/-! DEFINITION. What commands and rules read their operands from: parameters of the Pattern (R45), order frames (R81), time stamps (R341) and
the bytes of serialised messages. -/
namespace Sys2Proof.Machine

/-- The table entry of a PID. -/
def paramRow (pid : Nat) : Option ParamRow := paramRows.find? (fun r => r.pid = pid)

/-- The default of word `i` of a parameter (R45): the stated list, its last value repeated. -/
def defaultWord (pid i : Nat) : Word :=
  match paramRow pid with
  | some r =>
    match r.dflt with
    | some d => intWord (d.getD i (d.getLastD 0))
    | none => 0#32
  | none => 0#32

/-- The words that the Pattern gives a parameter; none when it is absent. -/
def State.parGiven (s : State) (pid : Nat) : List Word := aget [] s.pat.params pid

/-- Word `i` of a parameter: the tuned value (R90), else the Pattern's word, else the default (R45). -/
def State.parW (s : State) (pid i : Nat) : Word :=
  match afind s.pat.tuned (pid + 65536 * i) with
  | some w => w
  | none =>
    match afind s.pat.params pid with
    | some ws => ws.getD i (defaultWord pid i)
    | none => defaultWord pid i

/-- A parameter word as an unsigned number. -/
def State.par (s : State) (pid : Nat) (i : Nat := 0) : Nat := (s.parW pid i).toNat

/-- A parameter word as a signed number. -/
def State.parI (s : State) (pid : Nat) (i : Nat := 0) : Int := (s.parW pid i).toInt

/-- Bits [hi:lo] of a word. -/
def bits (w : Word) (hi lo : Nat) : Nat := (w.toNat / 2 ^ lo) % 2 ^ (hi + 1 - lo)

/-- Bit `i` of a number. -/
def tbit (n i : Nat) : Bool := n / 2 ^ i % 2 == 1

/-- A number with exactly the listed bits set. -/
def maskOf (l : List Nat) : Nat := l.foldl (fun a k => if tbit a k then a else a + 2 ^ k) 0

/-- The set bits below `n` of a number. -/
def bitsOf (n m : Nat) : List Nat := (List.range n).filter (tbit m)

/-- A word of a mode-indexed parameter (R89): mode code 1 to 6 takes word code − 1. -/
def State.parMode (s : State) (pid : Nat) : Nat := s.par pid (s.dev.mode - 1)

/-- R341: a 32-bit stamp extended by a working time that is later by less than 2³¹ ns. -/
def extendStamp (st t : Nat) : Nat := t - ((t + (4294967296 - st % 4294967296)) % 4294967296)

/-- R339: the counter TSU_NS of a working time. -/
def tsuNs (t : Nat) : Nat := t % 4294967296

/-- R81: an order frame of 16 words with where it came from. -/
def parseOrder (transport : Transport) (address : Word) (port : Nat) (frame : List Word) (stamp : Nat) : OrderIn :=
  let w := nthW frame
  { transport, address, port, stamp,
    format := bits (w 0) 15 0, target := bits (w 0) 31 24, source := bits (w 1) 15 0,
    seq := (w 2).toNat, ladleEp := (w 3).toNat, stateEp := (w 4).toNat,
    args := (frame.drop 5).take 10, crcOk := frame.length == 16 && crcWords (frame.take 15) == w 15 }

/-- CODE of an order frame (R81). -/
def orderCode (frame : List Word) : Nat := bits (nthW frame 0) 23 16

/-- Two numbers below 65,536 in one word, the first in bits [15:0]. -/
def halves (lo hi : Nat) : Word := BitVec.ofNat 32 (lo % 65536 + 65536 * (hi % 65536))

/-- Four bytes in one word, the first in bits [7:0]. -/
def quarters (a b c d : Nat) : Word := BitVec.ofNat 32 (a % 256 + 256 * (b % 256) + 65536 * (c % 256) + 16777216 * (d % 256))

/-- Bits [31:0] and [63:32] of a 64-bit number. -/
def twoWords (n : Nat) : List Word := [BitVec.ofNat 32 n, BitVec.ofNat 32 (n / 4294967296)]

/-- A list cut or padded with zero words to `n` words. -/
def padWords (n : Nat) (l : List Word) : List Word := (l ++ List.replicate (n - l.length) 0#32).take n

/-- ns in one millisecond. -/
def ms : Nat := 1000000

/-- ns in one second. -/
def sec : Nat := 1000000000

/-- R78: the cycle period of a mode in ns. -/
def modePeriod (mode : Nat) : Nat := if mode = 2 then 40 * ms else 20 * ms

/-- R26: the first multiple of a period at or after a working time. -/
def boundaryAt (t period : Nat) : Nat := (t + period - 1) / period * period

end Sys2Proof.Machine
end

