-- ==== Sys2Proof/Machine/Ops.lean ====
section
/-! DEFINITION. Operations shared by every family: sending, elapsed and working time, free values, alarms (R37, R38, R534), records (R492 to
R497), the identity and state codes of the device. -/
namespace Sys2Proof.Machine

/-- Send something. [Log 92, DESIGN CHOICE, unsafe] -/
def State.send (s : State) (chan : Chan) (kind : MsgKind) (data : List Int) : State :=
  { s with out := s.out ++ [⟨chan, kind, data⟩] }

/-- Words as the numbers that `Sent` holds. [Log 92, DESIGN CHOICE, unsafe] -/
def wordData (ws : List Word) : List Int := ws.map (fun w => (w.toNat : Int))

/-- Let time reach the working time `t`, if it lies ahead: elapsed time runs on by the same amount (R343). [Log 2, DESIGN CHOICE, unsafe] [Log 95, DESIGN CHOICE, safe] -/
def State.reach (s : State) (t : Nat) : State :=
  { s with tim := { s.tim with wt := s.tim.wt + (t - s.tim.wt), el := s.tim.el + (t - s.tim.wt) } }

/-- Let time reach the elapsed time `e`, if it lies ahead. [Log 2, DESIGN CHOICE, unsafe] -/
def State.reachEl (s : State) (e : Nat) : State :=
  { s with tim := { s.tim with wt := s.tim.wt + (e - s.tim.el), el := s.tim.el + (e - s.tim.el) } }

/-- The elapsed time of the present freeze. -/
def State.freezeEl (s : State) : Nat := s.tim.el - (s.tim.wt - s.dev.freezeAt)

/-- The next free value of the run: a value that the manual leaves open. [Log 25, DESIGN CHOICE, safe] -/
def State.freeVal (s : State) : Word := Config.freeWord s.freeCtr

/-- Count a free value as used. [Log 25, DESIGN CHOICE, safe] -/
def State.useFree (s : State) : State := { s with freeCtr := s.freeCtr + 1 }

/-- R270: the code of a side, 0 Cope, 1 Drag. -/
def sideCode : Side → Nat
  | .cope => 0
  | .drag => 1

/-- The other side of a pair. -/
def otherSide : Side → Side
  | .cope => .drag
  | .drag => .cope

/-- R70: state codes. -/
def stateCode : DevState → Nat
  | .boot => 0
  | .armed => 1
  | .active => 2
  | .safe => 3
  | .parked => 4

/-- R71: a device is ACTIVE exactly when it holds the Ladle. -/
def State.holds (s : State) : Bool := s.dev.st == .active

/-- A full cycle runs (R70). -/
def State.fullCycle (s : State) : Bool := s.dev.cycling && (s.dev.st == .armed || s.dev.st == .active)

/-- R304: TWIN_MODE is 1. -/
def State.paired (s : State) : Bool := s.par 0x0901 != 0

/-- The code of the mode that CTL_STATE.MODE shows: 0 in BOOT, in PARKED and without a Pattern. -/
def State.shownMode (s : State) : Nat :=
  if s.dev.st == .boot || s.dev.st == .parked || !s.pat.loaded then 0 else s.dev.mode

/-- R494: whole operating hours. -/
def State.opHours (s : State) : Nat := s.rcd.opTime / 36000

/-- R493: the STATE byte of a record. -/
def State.recState (s : State) : Nat :=
  stateCode s.dev.st + 8 * s.shownMode + 64 * bit s.holds + 128 * sideCode s.pins.side

/-- R493, R495: a record formed now. -/
def State.formRec (s : State) (typ event : Nat) (payload : List Word) : Rec :=
  { hours := s.rcd.opTime, pcycle := s.mram.powerCycles % 16777216, typ, event, state := s.recState,
    stateEp := if s.dev.freezes = 0 then 0 else s.dev.stateEp, payload := padWords 10 payload }

/-- R496: put a record into the queue; one that finds it full is lost and counted. -/
def State.enqueue (s : State) (r : Rec) : State :=
  if s.rcd.queue.length < 1024 then { s with rcd := { s.rcd with queue := s.rcd.queue ++ [r] } }
  else (({ s with rcd := { s.rcd with lostToQueue := s.rcd.lostToQueue + 1 } }).bump (word32 A_REC_LOST)).event F_REC_EVENT_LOST_EVT

/-- Form and queue a record. -/
def State.record (s : State) (typ event : Nat) (payload : List Word) : State := s.enqueue (s.formRec typ event payload)

/-- The entry of an alarm code, if it is active (R534). -/
def State.alarm? (s : State) (code : Nat) : Option Alarm := s.alarms.find? (fun a => a.code = code)

/-- Put an entry into the list of active alarms, lowest code first. -/
def putAlarm (a : Alarm) : List Alarm → List Alarm
  | [] => [a]
  | b :: r => if a.code < b.code then a :: b :: r else if a.code = b.code then a :: r else b :: putAlarm a r

/-- R534: raise an alarm, with the words of its payload (R495). [Log 10, DESIGN CHOICE, unsafe] -/
def State.raise (s : State) (code : Nat) (payload : List Word := []) : State :=
  match s.alarm? code with
  | some ⟨_, false, _⟩ => { s with alarms := putAlarm ⟨code, false, true⟩ s.alarms }
  | _ => ({ s with alarms := putAlarm ⟨code, false, true⟩ s.alarms }).record code 0 payload

/-- Numbers as payload words. [Log 11, DEDUCED, unsafe] -/
def pay (l : List Nat) : List Word := l.map toWord

/-- R534: an alarm becomes inactive; REC_CLEARS decides whether that leaves a record. -/
def State.dropAlarm (s : State) (code : Nat) : State :=
  let t := { s with alarms := s.alarms.filter (fun a => a.code != code) }
  if s.par 0x1401 = 1 then t.record code 1 [] else t

/-- R534: the cause of an alarm has cleared: it becomes inactive now if it is acknowledged, else at its acknowledgement. [Log 10, DESIGN CHOICE, unsafe] [Log 11, DEDUCED, unsafe] -/
def State.causeGone (s : State) (code : Nat) : State :=
  match s.alarm? code with
  | some ⟨_, true, _⟩ => s.dropAlarm code
  | some ⟨_, false, _⟩ => { s with alarms := putAlarm ⟨code, false, false⟩ s.alarms }
  | none => s

/-- R534: an accepted ALARM_ACK acknowledges one active alarm. [Log 11, DEDUCED, unsafe] -/
def State.ackAlarm (s : State) (code : Nat) : State :=
  match s.alarm? code with
  | some a =>
    let t := ({ s with alarms := putAlarm { a with acked := true } s.alarms }).record code 2 []
    if a.cause then t else t.dropAlarm code
  | none => s

/-- R38: the severity of an alarm. -/
def State.severity (s : State) (code : Nat) : Nat :=
  match (s.parGiven 0x1403).find? (fun w => bits w 15 0 = code) with
  | some w => bits w 17 16
  | none =>
    if (1 ≤ code && code ≤ 7) || code / 256 == 0x0A || [0x0409, 0x0C03, 0x1301, 0x1302, 0x1601].contains code then 3
    else if [0x04, 0x12, 0x13, 0x16].contains (code / 256) then 2 else 1

/-- R38: `a` ranks above `b`. -/
def State.worse (s : State) (a b : Alarm) : Bool :=
  if s.severity a.code != s.severity b.code then s.severity b.code < s.severity a.code
  else if a.acked != b.acked then !a.acked else a.code < b.code

/-- R38: the worst active alarm. -/
def State.worst (s : State) : Option Alarm :=
  s.alarms.foldl (fun w a => match w with
    | none => some a
    | some b => if s.worse a b then some a else some b) none

/-- R493: the 15 words of a record before its CRC, with its sequence number. -/
def recWords (r : Rec) (seq : Nat) : List Word :=
  [toWord r.hours, BitVec.ofNat 32 (r.hours / 4294967296 % 256 + 256 * r.pcycle), toWord seq,
   BitVec.ofNat 32 (r.typ % 65536 + 65536 * (r.event % 256) + 16777216 * (r.state % 256)), toWord r.stateEp] ++ padWords 10 r.payload

/-- R493: a record as it stands in its slot: 16 words, the last its CRC-32C. -/
def recSlot (r : Rec) (seq : Nat) : List Word := let w := recWords r seq; w ++ [crcWords w]

/-- R497: USED, the records kept since the last release. -/
def State.recUsed (s : State) : Nat := s.mram.next - s.mram.base

/-- R497: recording has stopped. -/
def State.recFull (s : State) : Bool := 131072 ≤ s.recUsed

/-- R492: put a record into its slot, and then advance REC_NEXT (R496). -/
def State.storeRec (s : State) (r : Rec) : State :=
  { s with mram := { s.mram with area := memSetRun zeroCell 1 s.mram.area (16 * (s.mram.next % 131072)) (recSlot r s.mram.next),
                                 next := s.mram.next + 1 } }

/-- R497: write one record. The record that makes USED 117,965 raises 0x0B01; the one that makes it 131,071 raises 0x0B02, whose record
takes the last slot. -/
def State.writeRec (s : State) (r : Rec) : State :=
  if s.recFull then (s.bump (word32 A_REC_LOST)).event F_REC_EVENT_LOST_EVT
  else
    let t := s.storeRec r
    if t.recUsed = 117965 then (t.raise 0x0B01).event F_REC_EVENT_WARN_EVT
    else if t.recUsed = 131071 then
      let u := { t with alarms := putAlarm ⟨0x0B02, false, true⟩ t.alarms }
      (u.storeRec (u.formRec 0x0B02 0 [])).event F_REC_EVENT_FULL_EVT
    else t

/-- R496: write up to `n` queued records, in queue order. -/
def State.writeRecs : Nat → State → State
  | 0, s => s
  | n + 1, s =>
    match s.rcd.queue with
    | [] => s
    | r :: q => State.writeRecs n (({ s with rcd := { s.rcd with queue := q } }).writeRec r)

/-- R496: the recorder's work in a bookkeeping window: up to 64 records, then the alarm for records lost to a full queue. -/
def State.recorderWork (s : State) : State :=
  let t := State.writeRecs 64 s
  if t.rcd.lostToQueue > 0 && t.rcd.queue.length < 1024 then
    ({ t with rcd := { t.rcd with lostToQueue := 0 } }).raise 0x0B03 (pay [t.rcd.lostToQueue])
  else t

/-- R475: the keys of the riser-pool map: pairs, SRAM banks, solver lanes, tracking channels and decimation engines. [Log 82, DESIGN CHOICE, unsafe] -/
def keyPair (n : Nat) : Nat := n
def keyBank (n : Nat) : Nat := 1000 + n
def keyLane (n : Nat) : Nat := 2000 + n
def keyChannel (n : Nat) : Nat := 3000 + n
def keyEngine (n : Nat) : Nat := 4000 + n

/-- R475: one more retirement of a unit. -/
def State.countRetired (s : State) (key : Nat) : State :=
  { s with mram := { s.mram with retired := aset s.mram.retired key (aget 0 s.mram.retired key + 1) } }

/-- Element `i` of a list changed by `f`. -/
def setNth {α : Type} (l : List α) (i : Nat) (f : α → α) : List α := l.modify i f

/-- Repeat a step for each number of a list. -/
def State.each (s : State) (l : List Nat) (f : State → Nat → State) : State := l.foldl f s

/-- `f s` when `b` holds, else `s`. -/
def State.when (s : State) (b : Bool) (f : State → State) : State := if b then f s else s

end Sys2Proof.Machine
end

