-- ==== Sys2Proof/Machine/TwinLink.lean ====
section
/-! DEFINITION. The frames of the twin link (R272, R273): sequence numbers, acknowledgement, credits of the 2,048-byte receive buffers, priority, retransmission
and delivery in order. -/
namespace Sys2Proof.Machine

/-- R304: the twin link works only in a pair. -/
def State.twinOn (s : State) : Bool := s.paired && s.boot.started && s.pat.loaded

/-- R274: at least one lane is up. -/
def State.linkUp (s : State) : Bool := s.fld F_TWN_STATUS_LANES != 0

/-- R273: the receive buffer of a virtual channel, 2,048 bytes, in the units in which credits are counted. [Log 106, DESIGN CHOICE, unsafe] -/
def twinBuffer : Nat := 128

/-- The payload bytes of a frame of a kind: the manual lays out only an ITEM, whose header has 32 bytes (R279); a STATE frame is full (R301). [Log 106, DESIGN CHOICE, unsafe] -/
def twinPayload (kind : MsgKind) (data : List Int) : Nat :=
  match kind with
  | .item => 32 + 4 * (data.length - 8)
  | .twinState => 1024
  | _ => Nat.min 1024 (4 * data.length)

/-- R272: the units of buffer that a frame with a payload of `n` bytes takes, with its header of 12 bytes and its CRC of 4. [Log 106, DESIGN CHOICE, unsafe] -/
def twinUnits (n : Nat) : Nat := (n + 31) / 16

/-- R273: the credit left on a virtual channel. -/
def TwinLink.credit (l : TwinLink) (vc : Nat) : Nat := twinBuffer - (aget 0 l.sent vc + 256 - aget 0 l.freed vc % 256) % 256

/-- R272: the next frame to send: the virtual channels in the order of their priority, where the oldest frame has credit. -/
def TwinLink.next (l : TwinLink) : Option TwinFrame :=
  [3, 2, 1, 0].findSome? (fun vc => match l.queue.find? (fun f => f.vc == vc) with
    | some f => if f.units ≤ l.credit vc then some f else none
    | none => none)

/-- Remove the oldest frame of a virtual channel. -/
def dropOldest (vc : Nat) : List TwinFrame → List TwinFrame
  | [] => []
  | f :: l => if f.vc = vc then l else f :: dropOldest vc l

/-- R272: the header of a frame as sent: virtual channel, payload length, sequence number, acknowledged number of the reverse direction, credits. -/
def TwinLink.header (l : TwinLink) (f : TwinFrame) : List Int :=
  ([f.vc, twinPayload f.kind f.data, f.seq, (aget 0 l.rxSeq f.vc + 65535) % 65536] ++ (List.range 4).map (fun v => aget 0 l.freeing v % 256)).map Int.ofNat

/-- R272: send the frame at the front of its channel with the next sequence number; it is held until it is acknowledged. -/
def State.twinEmit (s : State) (f0 : TwinFrame) : State :=
  let l := s.twn.link
  let f := { f0 with seq := aget 0 l.txSeq f0.vc }
  let k := { l with
    queue := dropOldest f.vc l.queue
    held := l.held ++ [f]
    txSeq := aset l.txSeq f.vc ((f.seq + 1) % 65536)
    sent := aset l.sent f.vc ((aget 0 l.sent f.vc + f.units) % 256) }
  ({ s with twn := { s.twn with link := k } }).send .twin f.kind (l.header f ++ f.data)

/-- Send at most `n` frames, as far as the credits go. -/
def State.twinDrain : Nat → State → State
  | 0, s => s
  | n + 1, s =>
    match s.twn.link.next with
    | some f => State.twinDrain n (s.twinEmit f)
    | none => s

/-- R273: send what waits, as far as the credits go. -/
def State.twinPush (s : State) : State := s.twinDrain s.twn.link.queue.length

/-- R272: queue a frame on a virtual channel and send what the credits allow. -/
def State.twinSend (s : State) (vc : Nat) (kind : MsgKind) (data : List Int) : State :=
  if s.linkUp then
    let f : TwinFrame := ⟨vc, 0, twinUnits (twinPayload kind data), kind, data⟩
    { s with twn := { s.twn with link := { s.twn.link with queue := s.twn.link.queue ++ [f] } } }.twinPush
  else s

/-- R272: a held frame of channel `vc` that an acknowledged number covers. [Log 106, DESIGN CHOICE, unsafe] -/
def TwinFrame.acked (vc ack : Nat) (f : TwinFrame) : Bool := f.vc == vc && (ack + 65536 - f.seq % 65536) % 65536 < 32768

/-- R272: what a header says of the frames this device sent: those acknowledged and the units freed at the other end. -/
def TwinLink.takeHeader (l : TwinLink) (vc : Nat) (h : TwinHeader) : TwinLink :=
  { l with
    crcRun := aset l.crcRun h.lane 0
    held := l.held.filter (fun f => !f.acked vc h.ack)
    freed := h.credits.mapIdx (fun v c => (v, c)) }

/-- R272: the next frame of a channel in sequence order leaves the buffer for its consumer, which frees its units. -/
def TwinLink.deliver (l : TwinLink) (vc : Nat) (h : TwinHeader) : TwinLink :=
  { l with
    rxSeq := aset l.rxSeq vc ((h.seq + 1) % 65536)
    freeing := aset l.freeing vc ((aget 0 l.freeing vc + twinUnits h.length) % 256) }

/-- R274: a lane that is up is lost. -/
def State.loseLane (s : State) (lane : Nat) : State :=
  if s.twinOn && lane < 2 && s.flag (bitAt A_TWN_STATUS (10 + lane)) then
    let t := (s.setFlag (bitAt A_TWN_STATUS (10 + lane)) false).event F_TWN_EVENT_LANE_LOST
    let u := { t with twn := { t.twn with laneLost := aset t.twn.laneLost lane t.tim.el, downSince := if t.linkUp then t.twn.downSince else some t.tim.el } }
    u.raise 0x0401 (pay [lane])
  else s

/-- R272, R274: a frame fails its CRC: it is counted and a NAK asks for it again; the sixteenth in a row on a lane makes the lane lost. [Log 106, DESIGN CHOICE, unsafe] -/
def State.twinBroken (s : State) (vc lane : Nat) : State :=
  let n := aget 0 s.twn.link.crcRun lane + 1
  let t := (s.bump (word32 A_TWN_CNT_CRC)).send .twin .nak [(vc : Int), ((aget 0 s.twn.link.rxSeq vc : Nat) : Int)]
  let u := { t with twn := { t.twn with link := { t.twn.link with crcRun := aset t.twn.link.crcRun lane n } } }
  if 16 ≤ n then u.loseLane lane else u

/-- R272: a frame of channel `vc` arrives. `f` is what its consumer does; it acts once for each sequence number, in order. A repeated frame is discarded,
and one that comes before its turn waits for its retransmission. [Log 106, DESIGN CHOICE, unsafe] -/
def State.onFrame (s : State) (vc : Nat) (h : TwinHeader) (f : State → State) : State :=
  if !(s.twinOn && s.linkUp) then s
  else if !h.crcOk then s.twinBroken vc h.lane
  else
    let t := { s with twn := { s.twn with link := s.twn.link.takeHeader vc h } }
    if h.seq = aget 0 t.twn.link.rxSeq vc then (f { t with twn := { t.twn with link := t.twn.link.deliver vc h } }).twinPush
    else t.twinPush

/-- R272: send the held frames of a virtual channel again, from the first unacknowledged one, which the command names. [Log 106, DESIGN CHOICE, unsafe] -/
def State.retransmit (s : State) (vc firstSeq : Nat) : State :=
  if s.twinOn && s.linkUp then
    let l := s.twn.link
    let k := { l with held := l.held.filter (fun f => !f.acked vc ((firstSeq + 65535) % 65536)) }
    let again := k.held.filter (fun f => f.vc == vc)
    let t := ({ s with twn := { s.twn with link := k } }).bump (word32 A_TWN_CNT_RETX) again.length
    again.foldl (fun (u : State) (f : TwinFrame) => u.send .twin f.kind (k.header f ++ f.data)) t
  else s

end Sys2Proof.Machine
end

