-- ==== Sys2Proof/Machine/SafetyOps.lean ====
section
/-! DEFINITION. Shared operations of twin operation and the safety die: the lease gate (R310, R311), brakes (R314 to R320), the Ladle (R289, R292,
R294), leaving step (R286), conditions (R92), the global safe state (R335) and device faults (R12). -/
namespace Sys2Proof.Machine

/-- R309: word `i` of a SAFETY parameter as the S-die holds it. -/
def State.safPar (s : State) (pid : Nat) (i : Nat := 0) : Word :=
  match afind s.saf.params pid with
  | some ws => ws.getD i (defaultWord pid i)
  | none => defaultWord pid i

/-- R92: set or clear condition `n`; its timer runs from entry, and its limit has not expired then. -/
def State.setCond (s : State) (n : Nat) (b : Bool) : State :=
  if s.flag (bitAt A_CTL_DEGR n) = b then s
  else
    let t := s.setFlag (bitAt A_CTL_DEGR n) b
    { t with dev := { t.dev with condSince := if b then aset t.dev.condSince n t.tim.el else adel t.dev.condSince n, expired := remove t.dev.expired n } }

/-- R92: the limit of condition `n` has expired. -/
def State.expireCond (s : State) (n : Nat) : State := { s with dev := { s.dev with expired := insertNew s.dev.expired n } }

/-- R79: the freeze at which a change to a mode falls due: the first one after the cycle that is a multiple of the new period. -/
def State.modeDue (s : State) (mode : Nat) : Nat := boundaryAt s.dev.nextFreeze (modePeriod mode)

/-- R88, R182: a change of mode by the device itself. It wins over a SET_MODE that falls due at the same freeze, which is answered with 0x0C. -/
def State.ownMode (s : State) (mode : Nat) : State :=
  let t := { s with dev := { s.dev with ownNew := some mode } }
  match s.dev.newMode with
  | some m =>
    if s.modeDue m = s.modeDue mode then
      { t with dev := { t.dev with newMode := none },
               ord := { t.ord with responses := t.ord.responses.map (fun r => if r.code = 0x04 && r.result = 0 then { r with result := 0x0C } else r) } }
    else t
  | none => t

/-- R92: condition `n` is present. -/
def State.cond (s : State) (n : Nat) : Bool := s.flag (bitAt A_CTL_DEGR n)

/-- R92: the whole seconds that the timer of condition `n` shows. -/
def State.condTimer (s : State) (n : Nat) : Nat :=
  match afind s.dev.condSince n with
  | some t => (s.tim.el - t) / sec
  | none => 0

/-- The codes of the lease gate in SAF_STATUS.GATE (R310). -/
def gateClosed : Nat := 0
def gateHold : Nat := 1
def gateOpen : Nat := 2

/-- R310, R411: set the lease gate. CLOSED puts every lease-gated field output in high impedance. -/
def State.setGate (s : State) (g : Nat) : State :=
  let t := s.setFld F_SAF_STATUS_GATE g
  if g = gateClosed then { t with fch := { t.fch with driven := t.fch.driven.filter (fun n => !t.flag (F_FCH_CFG_LEASE n)) } } else t

/-- The global safe state is present (R335). -/
def State.inSafe (s : State) : Bool := s.flag F_SAF_STATUS_SAFE

/-- R338: brake channel `n` is enabled. -/
def State.brkEn (s : State) (n : Nat) : Bool := bits (s.safPar (0x1040 + n) 0) 0 0 == 1

/-- R338: SAFE_ACT of channel `n`. -/
def State.brkSafeAct (s : State) (n : Nat) : Nat := bits (s.safPar (0x1040 + n) 0) 1 1

/-- R338: the thruster of brake channel `n`. -/
def State.brkThr (s : State) (n : Nat) : Nat := bits (s.safPar (0x1040 + n) 0) 12 8

/-- The state of brake channel `n`. -/
def State.brake (s : State) (n : Nat) : Brake := s.saf.brakes.getD n {}

/-- Change the state of brake channel `n`. -/
def State.setBrake (s : State) (n : Nat) (f : Brake → Brake) : State :=
  { s with saf := { s.saf with brakes := setNth s.saf.brakes n f } }

/-- The brake is released only while both switches are closed. -/
def Brake.applied (b : Brake) : Bool := !(b.hs && b.ls)

/-- R328: safe input pair `n` is in DEMAND. -/
def State.pairDemand (s : State) (n : Nat) : Bool := (s.saf.pairs.getD n {}).demand

/-- R338: pair `n` is used. -/
def State.sipUsed (s : State) (n : Nat) : Bool := (s.safPar (0x1020 + n) 0).toNat != 0

/-- R317: a cause applies the brake of channel `n` at once and refuses its release. -/
def State.brakeCause (s : State) (n : Nat) : Bool :=
  let b := s.brake n
  let sip := bits (s.safPar (0x1040 + n) 1) 15 0
  (List.range 16).any (fun k => s.sipUsed k && s.pairDemand k && (tbit sip k || tbit (bits (s.safPar (0x1020 + k) 2) 15 8) n)) ||
  !b.connHeld.isEmpty || b.fault || b.expired || (s.inSafe && s.brkSafeAct n == 0)

/-- The code of SAF_BRK_STAT.STATE. -/
def State.brakeCode (s : State) (n : Nat) : Nat :=
  let b := s.brake n
  if !s.brkEn n then 0
  else if b.fault then 5
  else if b.expired then 6
  else if (match s.saf.test with | some t => t.chan = n && t.phase != 0 | none => false) then 7
  else if b.degr != 0 then (if b.applied then 4 else 3)
  else if b.applied then 2 else 1

/-- Bring the registers of brake channel `n` up to date. -/
def State.showBrake (s : State) (n : Nat) : State :=
  ((((s.setFld (F_SAF_BRK_STAT_STATE n) (s.brakeCode n)).setFld (F_SAF_BRK_STAT_DEGR_SW n) (s.brake n).degr).setFlag
    (F_SAF_BRK_STAT_OVERCURRENT n) (s.brake n).overcurrent).setReg (A_SAF_BRK_DEGR n)
      (toWord (if (s.brake n).degr = 0 then 0 else aget 0 s.mram.brakeLeft n))).setFlag
    (bitAt A_SAF_STATUS (16 + n)) ((s.brake n).applied || !s.brkEn n)

/-- Open both switches of channel `n`: the brake applies. -/
def State.applyBrake (s : State) (n : Nat) : State :=
  (s.setBrake n (fun b => { b with hs := false, ls := false })).showBrake n

/-- R317: close both switches of channel `n`, unless a cause holds or the channel is not enabled. -/
def State.releaseBrake (s : State) (n : Nat) : State :=
  if s.brakeCause n || !s.brkEn n || !s.clk.vfld then s
  else (s.setBrake n (fun b => { b with hs := true, ls := true })).showBrake n

/-- R318: a switch test of channel `n` starts with its first step; each step lasts 300 µs and changes one switch. [Log 107, DEDUCED, unsafe] -/
def State.startSwitchTest (s : State) (n : Nat) : State :=
  if s.brkEn n && s.clk.vfld && (s.brake n).testStep = 0 && !(s.brake n).fault then
    s.setBrake n (fun b => { b with testStep := 1, testBad := false, testAt := some s.tim.el })
  else s

/-- R321: a brake channel of the other side is degraded, by its last brake status. -/
def State.peerDegraded (s : State) : Bool := (List.range 8).any (fun n => nthW s.twn.peerBrakes (8 + n) != 0#32)

/-- R317: apply at once every channel for which a cause holds. -/
def State.settleBrakes (s : State) : State :=
  s.each (List.range 8) (fun t n => if t.brkEn n && t.brakeCause n then t.applyBrake n else t)

/-- R323, R324: end the brake test with a result. The torque request is 0 from the next pour. -/
def State.endBrakeTest (s : State) (result : Nat) : State :=
  match s.saf.test with
  | none => s
  | some t =>
    let s1 := { s with saf := { s.saf with test := none } }
    let s2 := ((s1.setReg (A_SAF_BRK_TEST t.chan) (halves result t.moved)).setFlag (F_SAF_BRK_STAT_TEST_FAIL t.chan) (result != 1)).event
      F_SAF_EVENT_TEST_EVT
    let s3 := (s2.setFlag F_SAF_STATUS_TEST false).showBrake t.chan
    if result = 1 then
      let s4 := { s3 with mram := { s3.mram with brakeAge := aset s3.mram.brakeAge t.chan 0 } }
      (((s4.setReg (A_SAF_BRK_AGE t.chan) 0#32).setFlag (F_SAF_BRK_STAT_TEST_DUE t.chan) false).setBrake t.chan
        (fun b => { b with dueRaised := false })).raise 0x0A09 (pay [t.chan])
    else s3.raise 0x0A0A (pay [t.chan, result])

/-- R191: the injection stops and its signal is removed; of several causes in a cycle the lowest counts. -/
def State.stopInjection (s : State) (cause : Nat) : State :=
  if s.ctl.inj.isSome then
    { s with ctl := { s.ctl with inj := none, refAdd := [0, 0, 0], stopCause := some cause } }
  else match s.ctl.stopCause with
    | some c => { s with ctl := { s.ctl with stopCause := some (Nat.min c cause) } }
    | none => s

/-- R191: the alarm for a stop of the cycle. -/
def State.reportStop (s : State) : State :=
  match s.ctl.stopCause with
  | some c => ({ s with ctl := { s.ctl with stopCause := none } }).raise 0x130C (pay [c])
  | none => s

/-- R191, R324: a change of state or of Ladle holder ends the tests. -/
def State.endTests (s : State) (cause : Nat) : State := (s.endBrakeTest 4).stopInjection cause

/-- R319: a channel fault opens both switches until a reset that reaches the field die. [Log 21, DESIGN CHOICE, unsafe] -/
def State.brakeFault (s : State) (n cause : Nat) : State :=
  (((s.setBrake n (fun b => { b with fault := true, overcurrent := b.overcurrent || cause == 3 })).applyBrake n).event
    F_SAF_EVENT_BRK_FAULT).raise 0x0A07 (pay [n, cause])

/-- TAKEOVER_OK in an agreed health report (R305, R306). -/
def takeoverOk (report : List Word) : Bool := tbit (nthW report 3).toNat 9

/-- R305: the last agreed report of a side. -/
def State.reportOf (s : State) (side : Side) : List Word :=
  match side with
  | .cope => s.twn.copeReport
  | .drag => s.twn.dragReport

/-- The twin's last agreed report. -/
def State.peerReport (s : State) : List Word := s.reportOf (otherSide s.pins.side)

/-- R270: this device is the lead side. -/
def State.isLead (s : State) : Bool :=
  if s.holds then true
  else match s.twn.holder with
    | some h => h == s.pins.side
    | none => !s.paired || s.pins.side == .cope

/-- The devices are in step (R285). -/
def State.inStep (s : State) : Bool := s.flag F_TWN_STATUS_IN_STEP

/-- R275: the partner has been met. -/
def State.peerMet (s : State) : Bool := s.flag F_TWN_STATUS_PEER_MET

/-- R276: the pair is split. -/
def State.split (s : State) : Bool := s.flag F_TWN_STATUS_SPLIT

/-- R304: TWIN_MODE 0, or a split pair, runs on its own items. -/
def State.alone (s : State) : Bool := !s.paired || s.split

/-- R292: the partner is absent. -/
def State.partnerAbsent (s : State) : Bool := !s.paired || !s.peerMet || 2 ≤ s.twn.peerMissing

/-- R292: a counted renewal is reported to the S-die, which counts 60 ms from the report. -/
def State.countRenewal (s : State) : State :=
  ({ s with saf := { s.saf with leaseFrom := some s.tim.el } }).setFlag F_SAF_STATUS_LEASE true

/-- The S-die counts no lease and the gate closes. -/
def State.dropLease (s : State) : State :=
  (({ s with saf := { s.saf with leaseFrom := none } }).setFlag F_SAF_STATUS_LEASE false).setGate gateClosed

/-- R294: the Ladle epoch becomes `e`, in MRAM first. -/
def State.setLadleEp (s : State) (e : Nat) : State :=
  { s with mram := { s.mram with ladleEp := e }, twn := { s.twn with ladleEp := e } }

/-- R73 T3: take the Ladle with epoch `e`. Taking it counts as a renewal (R292). [Log 86, DEDUCED, safe] -/
def State.takeLadle (s : State) (e : Nat) : State :=
  let t := s.setLadleEp e
  let u := (t.endTests 3).countRenewal
  { u with dev := { u.dev with st := .active }, twn := { u.twn with holder := some u.pins.side, takeOver := false } }

/-- R73 T4: leave ACTIVE for ARMED; the outputs go to high impedance. [Log 86, DEDUCED, safe] -/
def State.dropToArmed (s : State) : State :=
  let t := (s.endTests 3).dropLease
  { t with dev := { t.dev with st := .armed }, twn := { t.twn with holder := none } }

/-- R289, R296: hand the Ladle to the twin, with the cause that alarm 0x0408 carries. -/
def State.handOver (s : State) (cause : Nat) : State :=
  let e := s.twn.ladleEp + 1
  let t := (s.setGate gateClosed).twinSend 3 .release [e]
  let u := t.dropToArmed.setLadleEp e
  ({ u with twn := { u.twn with holder := some (otherSide u.pins.side) } }.event F_TWN_EVENT_HANDOVER).raise 0x0408 (pay [cause])

/-- R301: this device is the one that requests resynchronisation, when both devices are out of step. -/
def State.requestsSync (s : State) : Bool :=
  if s.holds then false
  else match s.twn.holder with
    | some h => h != s.pins.side
    | none => s.twn.outOfStepFromBoot || !s.isLead

/-- R301: send SYNC_REQ once the partner is ARMED or ACTIVE in full cycles and both lanes are up. -/
def State.requestSync (s : State) : State :=
  if s.paired && !s.split && s.peerMet && !s.inStep && s.fullCycle && s.fld F_TWN_STATUS_LANES = 3 && s.requestsSync &&
     !s.twn.requested && (s.twn.peerNow = 1 || s.twn.peerNow = 2) then
    (({ s with twn := { s.twn with requested := true } }).twinSend 2 .syncReq []).setFlag F_TWN_STATUS_SYNCING true
  else s

/-- R286: leave step, with the reason and the arbitration row. The lead side sets condition 4. [Log 88, DEDUCED, unsafe] -/
def State.leaveStep (s : State) (reason row : Nat) : State :=
  if s.inStep then
    let t := ((s.setFlag F_TWN_STATUS_IN_STEP false).event F_TWN_EVENT_OOS).raise 0x0406 (pay (if reason = 3 then [reason, row] else [reason]))
    (t.when t.isLead (fun u => u.setCond 4 true)).requestSync
  else s

/-- R231: no full cycle runs any more, so no fallback allocation is in use. -/
def State.endFallback (s : State) : State := ({ s with alc := { s.alc with fallback := none } }.setCond 7 false).causeGone 0x1603

/-- R73 T7: the device is in SAFE. Of the accepted orders of the cycle only a RESET still acts at the pour (R74). -/
def State.inSafeState (s : State) : State :=
  let t := s.reportStop.endFallback
  { t with dev := { t.dev with st := .safe, newMode := none, ownNew := none, atPour := t.dev.atPour.filter (· == .reset) } }

/-- R335: force the global safe state with a cause of R334. A device that holds the Ladle sends RELEASE when it still can. [Log 17, DEDUCED, safe] -/
def State.globalSafe (s : State) (cause : Nat) : State :=
  let first := !s.inSafe || s.fld F_SAF_CAUSE_CAUSE = 0
  let s1 := (s.endTests 3).setFlag F_SAF_STATUS_SAFE true
  let s2 := { s1 with pins := { s1.pins with safeN := false } }
  let s3 := if first then ((s2.setFld F_SAF_CAUSE_CAUSE cause).event F_SAF_EVENT_SAFE_EVT).raise 0x0A04 (pay [cause]) else s2
  let s4 := s3.dropLease
  let s5 := s4.settleBrakes
  match s5.dev.st with
  | .boot => s5
  | .active => (if s5.paired && s5.peerMet then s5.handOver 8 else s5.dropToArmed).inSafeState
  | .armed | .parked | .safe => s5.inSafeState

/-- R73 T7 for a reason of the C-die: the C-die requests the global safe state, cause 8 (R334). [Log 17, DEDUCED, safe] -/
def State.enterSafe (s : State) : State := s.globalSafe 8

end Sys2Proof.Machine
end

