-- ==== Sys2Proof/Machine/NetOps.lean ====
section
/-! DEFINITION. Sending on the ship networks: the Ethernet ports (R367, R370) and the CAN controllers (R381, R387). -/
namespace Sys2Proof.Machine

/-- R57, R70: the boot has stopped: SAFE without a cycle, reached only through the host port. -/
def State.bootStopped (s : State) : Bool := s.dev.st == .safe && !s.dev.cycling

/-- R57, R59, R396: port `p` is enabled; without a Pattern the network blocks stay unconfigured, and a device whose boot stopped uses none. -/
def State.ethOn (s : State) (p : Nat) : Bool := s.pat.loaded && !s.bootStopped && tbit (s.par 0x0B01) p

/-- The channel of an Ethernet port: 0 LAN A, 1 LAN B, 2 service. -/
def ethChan (p : Nat) : Chan := if p = 0 then .lanA else if p = 1 then .lanB else .service

/-- R369: the transmit queue of a kind of frame, 1 first: safe frames, the command stream, PTP, responses, and everything else. [Log 109, DESIGN CHOICE, unsafe] -/
def txQueue : MsgKind → Nat
  | .safeState | .safeData | .renew | .ack => 1
  | .write => 2
  | .ptp => 3
  | .orderResponse | .svcResponse => 4
  | _ => 5

/-- R396: the IEEE 802.1Q tag of a sent frame: none while the VID of ETH_VLAN is 0. -/
def State.vlanTag (s : State) : List Int :=
  if bits (s.parW 0x0B04 0) 11 0 = 0 then [] else [0x8100, (bits (s.parW 0x0B04 0) 15 13 * 8192 + bits (s.parW 0x0B04 0) 11 0 : Nat)]

/-- A frame leaves port `p` and is counted. -/
def State.frameOut (s : State) (p : Nat) (kind : MsgKind) (data : List Int) : State :=
  (s.bump (F_ETH_P_TX_OK_COUNT p)).send (ethChan p) kind (s.vlanTag ++ data)

/-- R369: send a frame from port `p`: at once, or from its queue when the pour that fills the queues has ended. -/
def State.ethSend (s : State) (p : Nat) (kind : MsgKind) (data : List Int) : State :=
  if s.ethOn p then
    if s.net.batching then { s with net := { s.net with txq := s.net.txq ++ [⟨p, txQueue kind, kind, data⟩] } } else s.frameOut p kind data
  else s

/-- R370: send a datagram on both LANs. -/
def State.lanSend (s : State) (kind : MsgKind) (data : List Int) : State := (s.ethSend 0 kind data).ethSend 1 kind data

/-- R396: address, mask and gateway of the LANs or of the service port: word `k` of the three. -/
def State.ipWord (s : State) (svc : Bool) (k : Nat) : Nat := s.par 0x0B03 (3 * bit svc + k)

/-- An IPv4 multicast address. -/
def ipGroup (a : Nat) : Bool := 224 ≤ a / 16777216 && a / 16777216 < 240

/-- R367: the address whose MAC a datagram needs: the destination on the own network, else the gateway when there is one. -/
def State.nextHop (s : State) (svc : Bool) (dest : Nat) : Nat :=
  let mask := s.ipWord svc 1
  if dest &&& mask = s.ipWord svc 0 &&& mask || s.ipWord svc 2 = 0 then dest else s.ipWord svc 2

/-- Send to every port of a side of the network: both LANs, or the service port. -/
def State.netSend (s : State) (svc : Bool) (kind : MsgKind) (data : List Int) : State := if svc then s.ethSend 2 kind data else s.lanSend kind data

/-- R367: send a UDP datagram: at once when its next hop is resolved, else it waits and the device asks by ARP. [Log 59, DEDUCED, unsafe] -/
def State.udpSend (s : State) (svc : Bool) (dest : Nat) (kind : MsgKind) (data : List Int) : State :=
  let hop := s.nextHop svc dest
  if ipGroup dest || s.net.arp.contains hop then s.netSend svc kind ((dest : Int) :: data)
  else
    ({ s with net := { s.net with waiting := s.net.waiting ++ [Waiting.mk hop svc dest kind data s.tim.el] } }).netSend svc .arp [(hop : Int)]

/-- R396: word `k` of the record of CAN channel `c`. -/
def State.canW (s : State) (c k : Nat) : Word := s.parW (0x0C01 + c) k

/-- The state of CAN channel `c`. -/
def State.canChan (s : State) (c : Nat) : CanChan := aget {} s.can.chans c

/-- Change the state of CAN channel `c`. -/
def State.setCanChan (s : State) (c : Nat) (f : CanChan → CanChan) : State :=
  { s with can := { s.can with chans := aset s.can.chans c (f (s.canChan c)) } }

/-- R381: channel `c` may transmit: enabled, not bus-off, and neither restricted nor only monitoring. -/
def State.canSends (s : State) (c : Nat) : Bool :=
  s.flag (F_CAN_STATUS_EN c) && bits (s.canW c 0) 5 4 == 0 && s.fld (F_CAN_STATUS_STATE c) < 2

/-- R384, R396: the first word of a frame: identifier, IDE, FDF and BRS. -/
def canHead (id : Nat) (ide fd brs : Bool) : Nat := id % 536870912 + 536870912 * bit ide + 1073741824 * bit fd + 2147483648 * bit brs

/-- R381, R396: the duration in ns of one bit of the nominal or of the data phase. -/
def State.canBit (s : State) (c : Nat) (data : Bool) : Nat :=
  let w := if data then s.canW c 2 else s.canW c 1
  if data then 25 * bits w 7 0 * (1 + bits w 12 8 + bits w 19 16) else 25 * bits w 7 0 * (1 + bits w 15 8 + bits w 21 16)

/-- R387, R390: the time in ns that a frame of `n` data bytes takes on the bus with worst-case stuffing, its intermission included. [Log 109, DESIGN CHOICE, unsafe] -/
def State.canTime (s : State) (c head n : Nat) : Nat :=
  let ext := head / 536870912 % 2
  let arb := 34 + 20 * ext
  if head / 1073741824 % 2 = 0 then (arb + 13 + 8 * n + (arb + 8 * n - 1) / 4) * s.canBit c false
  else
    let slow := 17 + 19 * ext
    let fast := 10 + 8 * n + (8 * n + 5) / 4 + (if n ≤ 16 then 27 else 33)
    (slow + slow / 4 + 12) * s.canBit c false + fast * s.canBit c (head / 2147483648 == 1)

/-- R387: the rank of a frame in arbitration: the lower goes first. A standard identifier precedes the extended ones that begin with it. -/
def canRank (head : Nat) : Nat := if head / 536870912 % 2 = 1 then 2 * (head % 536870912) + 1 else 2 * 262144 * (head % 2048)

/-- R387: of the frames due by `now`, the one that wins arbitration; among equal identifiers the first. -/
def canWinner (now : Nat) (l : List CanTx) : Option CanTx :=
  (l.filter (fun f => f.due ≤ now)).foldl (fun b f => match b with
    | some g => if canRank f.head < canRank g.head then some f else b
    | none => some f) none

/-- R387, R390: a frame starts on the bus at an elapsed time: it is counted, and a reference message leaves its start-of-frame stamp. [Log 109, DESIGN CHOICE, unsafe] -/
def State.canStart (s : State) (c start : Nat) (f : CanTx) : State :=
  let t := s.setCanChan c (fun k => { k with tx := k.tx.erase f, busyTill := start + s.canTime c f.head f.data.length })
  let u := ((t.bump (F_CAN_TX_CNT_COUNT c)).setFlag (F_CAN_STATUS_SYNC c) true).send (.can c) .canFrame ((f.head : Int) :: f.data.map (fun b => (b.toNat : Int)))
  u.when f.isRef (fun x => x.setReg (A_CAN_TM_SOF c) (toWord (tsuNs (x.tim.wt + start - x.tim.el))))

/-- R387: let the frames start that the bus has had time for by an elapsed time, at most `n` of them: each when the bus is free and a frame is due. [Log 62, DEDUCED, unsafe] -/
def State.canRun (c limit : Nat) : Nat → State → State
  | 0, s => s
  | n + 1, s =>
    match (s.canChan c).tx.map CanTx.due with
    | [] => s
    | d :: r =>
      let start : Nat := Nat.max (s.canChan c).busyTill (r.foldl Nat.min d)
      if limit < start then s
      else match canWinner start (s.canChan c).tx with
        | some f => State.canRun c limit n (s.canStart c start f)
        | none => s

/-- R387: the frames of channel `c` that have started by an elapsed time; none while the channel cannot send. [Log 62, DEDUCED, unsafe] -/
def State.canSettle (s : State) (c limit : Nat) : State := if s.canSends c then State.canRun c limit (s.canChan c).tx.length s else s

/-- R387: a frame that had not started is replaced by the next of its object. [Log 62, DEDUCED, unsafe] -/
def State.canReplace (s : State) (c o : Nat) : State :=
  if (s.canChan c).tx.any (fun f => f.object == some o) then
    let t := (s.setCanChan c (fun k => { k with tx := k.tx.filter (fun f => f.object != some o), replaced := k.replaced + 1 })).event (F_CAN_EVENT_TX_REPLACED c)
    let rings : Bool := match (t.canChan c).txAlarmAt with
      | some a => a + 60 * sec ≤ t.tim.el
      | none => true
    if rings then (t.setCanChan c (fun k => { k with txAlarmAt := some t.tim.el })).raise 0x0708 (pay [o]) else t
  else s

/-- R387: a frame for channel `c` falls due: it goes into its transmit buffer, and onto the bus at once when that is free. While the channel cannot send
it is discarded. [Log 55, DEDUCED, unsafe] [Log 62, DEDUCED, unsafe] -/
def State.canSend (s : State) (c : Nat) (object : Option Nat) (head : Nat) (data : List Byte) (isRef : Bool) : State :=
  if s.canSends c then
    let t := s.canSettle c s.tim.el
    let u := match object with
      | some o => t.canReplace c o
      | none => t
    let v := u.setCanChan c (fun k => { k with tx := k.tx ++ [⟨object, head, data, s.tim.el, isRef⟩] })
    if v.net.batching then v else v.canSettle c v.tim.el
  else s

/-- R369: one transmit queue of the ports gives its frames. -/
def State.drainQueue (s : State) (q : Nat) : State :=
  (s.net.txq.filter (fun f => f.queue == q)).foldl (fun (t : State) f => t.frameOut f.port f.kind f.data) s

/-- R369, R387: the pour begins to fill the transmit queues. -/
def State.fillQueues (s : State) : State := { s with net := { s.net with batching := true } }

/-- R369, R387: the pour has filled the transmit queues: the ports send in strict priority, the CAN channels in arbitration order. [Log 109, DESIGN CHOICE, unsafe] -/
def State.drainTx (s : State) : State :=
  let t := { s with net := { s.net with batching := false } }
  let u := [1, 2, 3, 4, 5].foldl State.drainQueue t
  let v := { u with net := { u.net with txq := [] } }
  v.each (List.range 6) (fun x c => x.canSettle c x.tim.el)

end Sys2Proof.Machine
end

