-- ==== Sys2Proof/Machine/Access.lean ====
section
/-! DEFINITION. Access to the device address space: the address map (R33, R34), the access tables (R55, R467, R468), refusals (R470, R471) and the
access types of R4 over the register table. -/
namespace Sys2Proof.Machine

/-- R33: the rows of the address map: first address, last address, region. -/
def addressMap : List (Nat × Nat × Nat) := [
  (0x00000000, 0x0000FFFF, 3), (0x00010000, 0x0001FFFF, 0), (0x00020000, 0x0002FFFF, 3), (0x00030000, 0x0003FFFF, 3),
  (0x00040000, 0x0004FFFF, 4), (0x00050000, 0x0005FFFF, 4), (0x00060000, 0x0006FFFF, 4), (0x00070000, 0x0007FFFF, 4),
  (0x00080000, 0x0008FFFF, 4), (0x00090000, 0x0009FFFF, 9), (0x000A0000, 0x000AFFFF, 10), (0x000B0000, 0x000BFFFF, 0),
  (0x000C0000, 0x000CFFFF, 4), (0x000D0000, 0x000DFFFF, 4), (0x000E0000, 0x000EFFFF, 3), (0x00100000, 0x00103FFF, 6),
  (0x00104000, 0x00107FFF, 7), (0x00200000, 0x002043FF, 2), (0x00210000, 0x0021FFFF, 2), (0x00300000, 0x003FFFFF, 0),
  (0x00400000, 0x0047FFFF, 0), (0x00480000, 0x004FFFFF, 4), (0x00500000, 0x005FFFFF, 1), (0x01000000, 0x0101FFFF, 3),
  (0x10000000, 0x107FFFFF, 3)]

/-- R33: the region of an address; none when it is unmapped. -/
def regionOf (a : Nat) : Option Nat :=
  match addressMap.find? (fun r => r.1 ≤ a && a ≤ r.2.1) with
  | some r => some r.2.2
  | none => none

/-- The first address of APPM. -/
def appmBase : Nat := 0x10000000

/-- The first address of the State Image window, which the STI registers follow. -/
def stiBase : Nat := 0x01000000

/-- The outcomes of an access, coded as the host port reports them (R429): 0 done, 1 refused, 2 unmapped, 3 fabric time-out, 4 unaligned. -/
def accOk : Nat := 0
def accRefused : Nat := 1
def accUnmapped : Nat := 2
def accTimeout : Nat := 3
def accUnaligned : Nat := 4

/-- The master IDs of R35. -/
def mKeeper : Nat := 0
def mControl0 : Nat := 6
def mLink : Nat := 9
def mApp0 : Nat := 11
def mApp1 : Nat := 12
def mHost : Nat := 13
def mEthSvc : Nat := 14
def mEloa : Nat := 16

/-- R467, R468: rule `k` of region `r` permits master `m` the access. -/
def State.ruleAllows (s : State) (r m a : Nat) (write : Bool) (k : Nat) : Bool :=
  tbit (s.reg (A_ACC_R_MASK r k)).toNat m && (s.reg (A_ACC_R_LOW r k)).toNat ≤ a && a ≤ (s.reg (A_ACC_R_HIGH r k)).toNat &&
  tbit (s.reg (A_ACC_R_PERM r k)).toNat (bit write)

/-- R55: what is allowed before the lock: KEEPER everything, HOST reads of GLB and KPR. -/
def preLockAllows (m a : Nat) (write : Bool) : Bool := m == mKeeper || (m == mHost && !write && a < 0x20000)

/-- Protection set-up is locked (R58). -/
def State.locked (s : State) : Bool := s.flag F_KPR_LOCK_LOCKED

/-- R55, R468: the access is allowed. -/
def State.allowed (s : State) (r m a : Nat) (write : Bool) : Bool :=
  if s.locked then (List.range (s.fld (F_ACC_R_N_N r))).any (s.ruleAllows r m a write) else preLockAllows m a write

/-- R471: a refusal of this master shows a fault of firmware or hardware. -/
def firmwareMaster (m : Nat) : Bool := m ≤ 10 || m == 15 || (17 ≤ m && m ≤ 19)

/-- An alarm that a rule raises at most once per key and interval of elapsed time. -/
def State.limited (s : State) (last : List (Nat × Nat)) (key interval : Nat) : Bool :=
  match afind last key with
  | some t => t + interval ≤ s.tim.el
  | none => true

/-- R470, R471: record and count a refused access. -/
def State.refuse (s : State) (r m a : Nat) (write : Bool) : State :=
  let s1 := if s.flag F_ACC_EVENT_VIOL then s
    else (s.setReg A_ACC_VIOL (BitVec.ofNat 32 (m % 32 + 65536 * bit write + 1048576 * r))).setReg A_ACC_VIOL_ADDR (toWord a)
  let s2 := (s1.event F_ACC_EVENT_VIOL).bump (word32 A_ACC_VIOL_CNT)
  let s3 := if s2.limited s2.acl.alarmAt m sec then
      ({ s2 with acl := { s2.acl with alarmAt := aset s2.acl.alarmAt m s2.tim.el } }).raise 0x0F01 (pay [m, r, a])
    else s2
  if firmwareMaster m then
    (({ s3 with twn := { s3.twn with selfE := true } }).event F_ACC_EVENT_FW_VIOL).raise 0x0F02 (pay [m, r, a])
  else s3

/-- The completion of an access at its master. -/
def State.complete (s : State) (m : Nat) (write : Bool) (a status : Nat) (w : Word) : State :=
  s.send (.access m) (if write then .write else .read) [a, status, w.toNat]

/-- R3, R34, R470: an access by master `m` at address `a`: `f` performs it when it is allowed and answers the value it completes with. [Log 72, DEDUCED, safe] -/
def State.accessWith (s : State) (m a : Nat) (write : Bool) (f : State → State × Nat × Word) : State × Nat × Word :=
  if a % 4 != 0 then (s, accUnaligned, 0#32)
  else match regionOf a with
    | none => (s.raise 0x0005 (pay [m, a]), accUnmapped, 0#32)
    | some r => if s.allowed r m a write then f s else (s.refuse r m a write, accRefused, 0#32)

/-- Which index of a register array an address selects, dimension by dimension: what is left after the whole strides. -/
def arrayRest : List (Nat × Nat) → Nat → Option Nat
  | [], off => some off
  | (st, n) :: r, off => if off / st < n then arrayRest r (off % st) else none

/-- Larger strides first. -/
def strideOrder (d : List (Nat × Nat)) : List (Nat × Nat) :=
  match d with
  | [a, b] => if a.1 < b.1 then [b, a] else [a, b]
  | _ => d

/-- An address belongs to a row of the register table. -/
def RegRow.holds (r : RegRow) (a : Nat) : Bool := r.base ≤ a && arrayRest (strideOrder r.dims) (a - r.base) == some 0

/-- The register at an address. -/
def regAt (a : Nat) : Option RegRow := regRows.find? (fun r => r.holds a)

/-- R4: what writing `v` does to one field of a word. RWL fields take a write only before the lock. -/
def writeField (locked : Bool) (v w : Word) (f : Nat × Nat × Acc) : Word :=
  let fd : Fld := ⟨0, f.1, f.2.1⟩
  match f.2.2 with
  | .rw => fieldIn w fd (fieldOf v fd)
  | .rwl => if locked then w else fieldIn w fd (fieldOf v fd)
  | .w1c => fieldIn w fd (fieldOf w fd &&& (fieldMax fd - fieldOf v fd))
  | .ro | .wo | .rc => w

/-- R4: reading one field of a word: WO fields read 0. [Log 7, DEDUCED, unsafe] -/
def readField (w acc : Word) (f : Nat × Nat × Acc) : Word :=
  let fd : Fld := ⟨0, f.1, f.2.1⟩
  match f.2.2 with
  | .wo => acc
  | .ro | .rw | .rwl | .w1c | .rc => fieldIn acc fd (fieldOf w fd)

/-- R4: what a read leaves in a word: RC fields are cleared. -/
def clearField (w : Word) (f : Nat × Nat × Acc) : Word :=
  match f.2.2 with
  | .rc => fieldIn w ⟨0, f.1, f.2.1⟩ 0
  | .ro | .rw | .rwl | .w1c | .wo => w

/-- R361: compare units 0 to 9: fields shown as RW behave as RO. -/
def roCompare (a : Nat) : Bool := A_TSU_CMP_CFG 0 ≤ a && a < A_TSU_CMP_CFG 10

/-- A register with an RWL field. -/
def RegRow.isRwl (r : RegRow) : Bool := r.fields.any (fun f => f.2.2 == .rwl)

/-- R4: a write as the access types of the register's fields give. [Log 7, DEDUCED, unsafe] [Log 96, DEDUCED, unsafe] -/
def State.typedWrite (s : State) (a : Nat) (v : Word) : State :=
  match regAt a with
  | none => s
  | some r =>
    let fs := if roCompare a then r.fields.map (fun f => if f.2.2 = .rw then (f.1, f.2.1, Acc.ro) else f) else r.fields
    s.setReg a (fs.foldl (fun w f => writeField s.locked v w f) (s.reg a))

/-- R4, R6: the value a read returns, from the word that stands in the register. -/
def typedValue (r : RegRow) (w : Word) : Word := r.fields.foldl (fun acc f => readField w acc f) 0#32

/-- R4: a read clears the register's RC fields. [Log 96, DEDUCED, unsafe] -/
def State.clearOnRead (s : State) (a : Nat) : State :=
  match regAt a with
  | none => s
  | some r => if r.fields.any (fun f => f.2.2 == .rc) then s.setReg a (r.fields.foldl clearField (s.reg a)) else s

/-- A write command at a register with a row of its own: `f` is its effect once the access is allowed. -/
def State.commandWrite (s : State) (m a : Nat) (v : Word) (f : State → State) : State :=
  let r := s.accessWith m a true (fun t => (f t, accOk, 0#32))
  r.1.complete m true a r.2.1 v

end Sys2Proof.Machine
end

