-- ==== Sys2Proof/Machine/Time.lean ====
section
/-! DEFINITION. Time and synchronisation (R339 to R364): sources, selection, the servo, holdover, steps, captures, pulses and twin markers. -/
namespace Sys2Proof.Machine

/-- Time source `n` of R344, 1 to 4. -/
def State.src (s : State) (n : Nat) : TimeSource := s.tim.sources.getD (n - 1) {}

/-- Change time source `n`. -/
def State.setSrc (s : State) (n : Nat) (f : TimeSource → TimeSource) : State :=
  { s with tim := { s.tim with sources := setNth s.tim.sources (n - 1) f } }

/-- R344: the last offset of source `n`. -/
def State.srcOfs (s : State) (n : Nat) : Int := s.int (F_TSU_SRC_OFS_OFS (n - 1))

/-- R345: source `n` is qualified. -/
def State.qualified (s : State) (n : Nat) : Bool := s.flag (bitAt A_TSU_STATUS (8 + n))

/-- The selected source, 0 for none. -/
def State.selected (s : State) : Nat := s.fld F_TSU_STATUS_SRC

/-- R346: the source codes of TIM_SRC_PRIO, first choice first; 0 ends the list. -/
def State.srcPrio (s : State) : List Nat :=
  let w := s.parW 0x0B80 0
  [bits w 3 0, bits w 7 4, bits w 11 8].takeWhile (· != 0)

/-- R346: this side selects the twin source. -/
def State.followsTwin (s : State) : Bool := s.paired && !s.isLead && s.peerMet && s.linkUp

/-- R347: a qualified source that differs from the selected one by more than 1 ms is not selected while that one stays qualified. -/
def State.tooFar (s : State) (n : Nat) : Bool :=
  let c := s.selected
  c != 0 && c != 4 && c != n && s.qualified c && 1000000 < (s.srcOfs n - s.srcOfs c).natAbs

/-- R346: the source that selection gives. -/
def State.selection (s : State) : Nat :=
  if s.followsTwin then 4
  else match s.srcPrio.find? (fun n => s.qualified n && !s.tooFar n) with
    | some n => n
    | none => 0

/-- R347: two qualified sources differ by more than TIM_SRC_TOL_NS. -/
def State.sourcesDisagree (s : State) : Bool :=
  [1, 2, 3, 4].any (fun a => [1, 2, 3, 4].any (fun b => a < b && s.qualified a && s.qualified b &&
    s.par 0x0B87 < (s.srcOfs a - s.srcOfs b).natAbs))

/-- R357: decide on a step, at the first whole second at least 500 ms away. -/
def State.decideStep (s : State) : State :=
  if s.tim.stepAt.isSome then s
  else ({ s with tim := { s.tim with stepAt := some ((s.tim.wt + 500 * ms + sec - 1) / sec * sec, none) } }).setFlag F_TSU_STATUS_STEP_PEND true

/-- R355: enter holdover: the frequency stays at its integral term and any slew is abandoned. -/
def State.enterHoldover (s : State) (lost : Nat) : State :=
  let t := { s with tim := { s.tim with phase := 0, holdSince := s.tim.el, holdE0 := (s.srcOfs lost).natAbs } }
  let u := (((t.setFlag F_TSU_STATUS_HOLDOVER true).setFlag F_TSU_STATUS_SLEWING false).setInt (word32 A_TSU_SLEW) 0).setInt
    (word32 A_TSU_FREQ) t.tim.integral
  ((u.setFlag F_TSU_STATUS_LOCKED false).event F_TSU_EVENT_HOLD_IN).raise 0x0202

/-- R355: the end of holdover, when a source is selected. -/
def State.leaveHoldover (s : State) (n : Nat) : State :=
  if s.flag F_TSU_STATUS_HOLDOVER then
    (((s.setFlag F_TSU_STATUS_HOLDOVER false).event F_TSU_EVENT_HOLD_OUT).raise 0x0203 (pay [n])).causeGone 0x0202
  else s

/-- R342: TSU_UTC from the selected source, else from TIM_UTC_DEF. -/
def State.updateUtc (s : State) : State :=
  match afind s.tim.utcOf s.selected with
  | some w => s.setReg A_TSU_UTC w
  | none => s.setReg A_TSU_UTC (toWord (s.par 0x0B8E))

/-- R346, R355, R357: change the selection to `n`, 0 for none. -/
def State.select (s : State) (n : Nat) : State :=
  let old := s.selected
  if n = old then s
  else
    let far := 1000000 < (s.srcOfs n).natAbs
    let hold := s.flag F_TSU_STATUS_HOLDOVER
    let t := (((s.setFld F_TSU_STATUS_SRC n).event F_TSU_EVENT_SRC_CHG).raise 0x0205 (pay [n])).updateUtc
    if n = 0 then (if t.tim.hadSource && t.flag F_TSU_STATUS_SET then t.enterHoldover old else t)
    else
      let u := { t with tim := { t.tim with hadSource := true, outOfLockAt := t.tim.el, bigSince := if far then some t.tim.el else none } }
      let v := u.leaveHoldover n
      if (hold && far) || !v.flag F_TSU_STATUS_SET then v.decideStep
      else if far then v else (v.setInt (word32 A_TSU_SLEW) (v.srcOfs n)).setFlag F_TSU_STATUS_SLEWING (v.srcOfs n != 0)

/-- R346, R347: selection after a change of qualification, validity or of the partner. -/
def State.reselect (s : State) : State :=
  let t := if s.sourcesDisagree then (s.event F_TSU_EVENT_CONFLICT).raise 0x0206 else s.causeGone 0x0206
  if t.sourcesDisagree && t.selected != 0 && t.selected != 4 && t.qualified t.selected && !t.followsTwin then t else t.select t.selection

/-- R350: the limit of TIM_SLEW_NS_S in units of 2⁻⁴³. -/
def State.slewLimit (s : State) : Int := (s.par 0x0B85 * 2 ^ 43 / 1000000000 : Nat)

/-- R350: ±200 ppm in units of 2⁻⁴³. -/
def freqLimit : Int := 1759218604

/-- R350, R351: the servo takes an accepted offset of the selected source. The loop's two terms are computations the manual does not give. [Log 27, DESIGN CHOICE, safe] [Log 28, DEDUCED, unsafe] -/
def State.servo (s : State) (ofs : Int) : State :=
  let inp := [ofs, s.tim.integral, s.tim.phase, (s.par 0x0B84 : Int)]
  let integ := Config.calc .servo inp 0
  let p := clampI (-s.slewLimit) s.slewLimit (Config.calc .servo inp 1)
  let sum := clampI (-freqLimit) freqLimit (integ + p)
  let lim := sum == freqLimit || sum == -freqLimit
  let t := { s with tim := { s.tim with
    integral := integ, phase := p,
    outOfLockAt := if s.par 0x0B86 < ofs.natAbs then s.tim.el else s.tim.outOfLockAt,
    bigSince := if 1000000 < ofs.natAbs then some (s.tim.bigSince.getD s.tim.el) else none } }
  let u := ((t.setInt (word32 A_TSU_FREQ) sum).setInt (word32 A_TSU_SLEW) ofs).setFlag F_TSU_STATUS_SLEWING (p == s.slewLimit || p == -s.slewLimit)
  let v := (u.setFlag F_TSU_STATUS_FREQ_LIM lim).setFlag F_TSU_STATUS_LOCKED
    (decide (ofs.natAbs ≤ s.par 0x0B86) && decide (t.tim.outOfLockAt + 10 * sec ≤ t.tim.el))
  if lim then v.raise 0x0207 else v.causeGone 0x0207

/-- R344: a measured offset of source `n`: published, and taken by the servo when the source is selected. -/
def State.measureOffset (s : State) (n : Nat) (ofs : Int) : State :=
  let t := s.setInt (F_TSU_SRC_OFS_OFS (n - 1)) (clampI (-2147483647) 2147483647 ofs)
  let u := t.setSrc n (fun c => { valid := true, validSince := if c.valid then c.validSince else t.tim.el, lastSeen := t.tim.el })
  let v := (u.causeGone 0x0201)
  (if v.selected = n && !v.flag F_TSU_STATUS_STEP_PEND then v.servo ofs else v).reselect

/-- R344, R345: source `n` is lost: it stops being qualified at once. -/
def State.loseSource (s : State) (n : Nat) : State :=
  let t := (s.setSrc n (fun c => { c with valid := false })).setFlag (bitAt A_TSU_STATUS (8 + n)) false
  (t.raise 0x0201 (pay [n])).reselect

/-- R344: the loss interval of source `n` in ns. -/
def State.lossTime (s : State) (n : Nat) : Nat := if n ≤ 2 then s.par 0x0B82 * ms else if n = 3 then sec else 10 * ms

/-- TSU_EXT_UPDATE (R340). -/
def State.writeExt (s : State) : State :=
  s.setReg A_TSU_EXT (BitVec.ofNat 32 (s.tim.wt / 4294967296 * 2 + s.tim.wt / 2147483648 % 2))

def execTsuExtUpdate (s : State) : Host.Outcome State Fault Refusal := .next s.writeExt

/-- R375, R376: word `k` of PTP_DOM of a domain. -/
def State.ptpW (s : State) (domain k : Nat) : Word := s.parW (0x0B20 + domain) k

/-- R375: signed byte `k` of word 1 of PTP_DOM. -/
def State.ptpByte (s : State) (domain k : Nat) : Int :=
  let n := bits (s.ptpW domain 1) (8 * k + 7) (8 * k)
  if n < 128 then n else (n : Int) - 256

/-- R375: two to the power of that byte, in seconds, as ns. -/
def State.ptpPower (s : State) (domain k : Nat) : Nat :=
  let e := s.ptpByte domain k
  if 0 ≤ e then 2 ^ e.toNat * sec else sec / 2 ^ (-e).toNat

/-- R375: the peer-to-peer delay mechanism is chosen. -/
def State.peerToPeer (s : State) (domain : Nat) : Bool := bits (s.ptpW domain 0) 1 1 == 1

/-- Change what PTP holds. -/
def State.setPtp (s : State) (f : Ptp → Ptp) : State := { s with tim := { s.tim with ptp := f s.tim.ptp } }

/-- R348: an exchange whose path delay exceeds the least of the last 16 by more than TIM_PDV_NS is discarded; 0 keeps every exchange. [Log 26, DESIGN CHOICE, unsafe] -/
def State.keepsExchange (s : State) (domain : Nat) (delay : Int) : Bool :=
  let h := aget [] s.tim.ptp.delays domain
  s.par 0x0B8A = 0 || h.isEmpty || delay ≤ h.foldl min (h.headD 0) + s.par 0x0B8A

/-- R348: remember the path delay of an exchange. -/
def State.noteDelay (s : State) (domain : Nat) (delay : Int) : State :=
  let h := aget [] s.tim.ptp.delays domain
  s.setPtp (fun p => { p with delays := aset p.delays domain ((h ++ [delay]).drop ((h.length + 1) - 16)) })

/-- R375: the domain is enabled and this port is its slave port. -/
def State.ptpAccepts (s : State) (domain port : Nat) : Bool :=
  s.par 0x0B81 domain != 0xFFFF && afind s.tim.ptp.slave domain == some port && !s.tim.ptp.arb.contains domain

/-- R348: TIM_ASYM of a port and domain. -/
def State.asymmetry (s : State) (domain port : Nat) : Int := if port < 2 then s.parI 0x0B89 (2 * port + domain) else 0

/-- R348, R375: the path delay of the exchange that a Sync completes: end to end the mean of both ways, peer to peer the delay of the link. [Log 108, PRESUMED, unsafe] -/
def State.pathDelay (s : State) (domain port : Nat) (origin arrival : Int) : Option Int :=
  (afind s.tim.ptp.back (4 * domain + port)).map (fun b => if s.peerToPeer domain then b else (arrival - origin + b) / 2)

/-- R344, R348: a Sync with its origin time and its corrected arrival gives the offset, source time minus working time, if the exchange is kept. [Log 108, PRESUMED, unsafe] -/
def State.takeSync (s : State) (domain port : Nat) (origin arrival : Int) : State :=
  match s.pathDelay domain port origin arrival with
  | some d =>
    let t := s.noteDelay domain d
    if s.keepsExchange domain d then
      (t.setReg (A_TSU_PTP_DELAY domain) (intWord d)).measureOffset (domain + 1) (origin + d + s.asymmetry domain port - arrival)
    else t
  | none => s

/-- PTP_SYNC (R344, R348): the port's ingress latency is taken from its stamp; a two-step Sync waits for its Follow_Up. [Log 26, DESIGN CHOICE, unsafe] -/
def execPtpSyncArrives (domain port : Nat) (twoStep : Bool) (seq : Nat) (ingress origin : Int) (s : State) : Host.Outcome State Fault Refusal :=
  .next (if s.ptpAccepts domain port then
    let arrival := ingress - s.par 0x0B88 (2 * port)
    if twoStep then s.setPtp (fun p => { p with syncs := p.syncs.filter (fun e => e.1 != domain) ++ [(domain, seq, arrival)] })
    else s.takeSync domain port origin arrival
    else s)

/-- PTP_FOLLOW_UP (R375): it completes the Sync of its sequence number. -/
def execPtpFollowUp (domain port seq : Nat) (origin : Int) (s : State) : Host.Outcome State Fault Refusal :=
  .next (match s.tim.ptp.syncs.find? (fun e => e.1 = domain && e.2.1 = seq) with
    | some e => if s.ptpAccepts domain port then
        (s.setPtp (fun p => { p with syncs := p.syncs.filter (fun e => e.1 != domain) })).takeSync domain port origin e.2.2
      else s
    | none => s)

/-- PTP_DELAY_RESP (R348, R375): the answer to the last delay request of a port. End to end, `time` is the master's receive time. Peer to peer it is the
time between the neighbour's receipt and answer, and `ingress` the stamp of the answer. [Log 108, PRESUMED, unsafe] -/
def execPtpDelayRespArrives (domain port : Nat) (time ingress : Int) (s : State) : Host.Outcome State Fault Refusal :=
  .next (match afind s.tim.ptp.request (4 * domain + port) with
    | some t3 =>
      let b := if s.peerToPeer domain then (ingress - s.par 0x0B88 (2 * port) - t3 - time) / 2 else time - t3
      if s.peerToPeer domain || s.ptpAccepts domain port then
        s.setPtp (fun p => { p with back := aset p.back (4 * domain + port) b, request := adel p.request (4 * domain + port) })
      else s
    | none => s)

/-- R376: clockClass, clockAccuracy of this device as a grandmaster; R375: its priorities, and the identity that IEEE 1588-2019 makes of the LAN MAC address.
[Log 66, DESIGN CHOICE, unsafe] [Log 108, PRESUMED, unsafe] -/
def State.ownClock (s : State) (domain : Nat) : PtpClock :=
  let mac := s.par 0x0B02 0 + 4294967296 * s.par 0x0B02 1
  let c := if s.selected = 3 && s.flag F_TSU_STATUS_LOCKED then (6, 0x21) else if s.flag F_TSU_STATUS_HOLDOVER then (7, 0xFE) else (248, 0xFE)
  ⟨bits (s.ptpW domain 2) 7 0, c.1, c.2, 0xFFFF, bits (s.ptpW domain 2) 15 8, mac / 16777216 * 1099511627776 + 0xFFFE * 16777216 + mac % 16777216⟩

/-- What an Announce carries of a grandmaster. -/
def clockData (c : PtpClock) (steps : Nat) : List Int :=
  [c.priority1, c.cls, c.accuracy, c.variance, c.priority2, c.identity, steps].map Int.ofNat

/-- The first of two lists in the order of their elements. -/
def listBefore : List Nat → List Nat → Bool
  | a :: l, b :: m => a < b || (a == b && listBefore l m)
  | _, _ => false

/-- R375: the numbers by which a grandmaster is compared: the lower the better. -/
def clockRank (c : PtpClock) : List Nat := [c.priority1, c.cls, c.accuracy, c.variance, c.priority2, c.identity]

/-- R375: the better of two Announces: by grandmaster, and for the same grandmaster by distance, sender and port. [Log 66, DESIGN CHOICE, unsafe] -/
def announceBefore (a b : Announce) : Bool :=
  if a.gm.identity = b.gm.identity then listBefore [a.steps, a.sender, a.senderPort, a.port] [b.steps, b.sender, b.senderPort, b.port]
  else listBefore (clockRank a.gm) (clockRank b.gm)

/-- R375: a master counts when two of its Announces came within four intervals and the last of them within announceReceiptTimeout. -/
def State.masterCounts (s : State) (m : ForeignMaster) : Bool :=
  let i := s.ptpPower m.msg.domain 1
  s.tim.el ≤ m.at_ + (s.ptpByte m.msg.domain 2).toNat * i &&
  (match m.before with | some b => m.at_ ≤ b + 4 * i | none => false)

/-- R375: the best master of a domain. -/
def State.bestMaster (s : State) (domain : Nat) : Option Announce :=
  ((s.tim.ptp.foreign.filter (fun m => m.msg.domain == domain && s.masterCounts m)).map ForeignMaster.msg).foldl
    (fun b a => match b with | some x => if announceBefore a x then some a else b | none => some a) none

/-- R375: the Announce that the domain's slave port follows: the best master's, unless this device may be grandmaster and is better, or is of a class
below 128. [Log 66, DESIGN CHOICE, unsafe] -/
def State.slaveOf (s : State) (domain : Nat) : Option Announce :=
  match s.bestMaster domain with
  | some a =>
    let own := s.ownClock domain
    if bits (s.ptpW domain 0) 3 3 = 1 then some a
    else if own.cls < 128 || listBefore (clockRank own) (clockRank a.gm) then none else some a
  | none => none

/-- R375: hold a received Announce as its sender's newest. -/
def Ptp.hear (p : Ptp) (now : Nat) (msg : Announce) : Ptp :=
  let same := fun (m : ForeignMaster) => m.msg.domain == msg.domain && m.msg.port == msg.port && m.msg.sender == msg.sender && m.msg.senderPort == msg.senderPort
  { p with foreign := p.foreign.filter (fun m => !same m) ++ [⟨msg, now, (p.foreign.find? same).map ForeignMaster.at_⟩] }

/-- R342, R344: the domain follows an Announce: its slave port, its timescale and its UTC offset; an ARB timescale makes the source invalid. -/
def State.followMaster (s : State) (domain : Nat) : State :=
  match s.slaveOf domain with
  | some a =>
    let w := BitVec.ofNat 32 (a.utcOffset % 65536 + 65536 + 131072 * bit a.leap61 + 262144 * bit a.leap59)
    let t := (s.setPtp (fun p => { p with
      slave := aset p.slave domain a.port, parent := aset p.parent domain a,
      arb := if a.ptpTimescale then remove p.arb domain else insertNew p.arb domain }))
    let u := { t with tim := { t.tim with utcOf := aset t.tim.utcOf (domain + 1) w } }
    (if !a.ptpTimescale && (u.src (domain + 1)).valid then u.loseSource (domain + 1) else u).updateUtc
  | none => s.setPtp (fun p => { p with slave := adel p.slave domain, parent := adel p.parent domain })

/-- PTP_ANNOUNCE (R342, R344, R375): an Announce on an enabled port, and the best master clock algorithm. -/
def execPtpAnnounce (msg : Announce) (s : State) : Host.Outcome State Fault Refusal :=
  .next (if s.par 0x0B81 msg.domain = 0xFFFF || !tbit (bits (s.ptpW msg.domain 0) 6 4) msg.port then s
    else (s.setPtp (fun p => p.hear s.tim.el msg)).followMaster msg.domain)

/-- TIME_SOURCE_LOST (R344, R345). -/
def execTimeSourceLost (source : Nat) (s : State) : Host.Outcome State Fault Refusal :=
  .next (if (s.src source).valid then (s.reachEl ((s.src source).lastSeen + s.lossTime source)).loseSource source else s)

/-- SOURCE_QUALIFIED (R345): the source has been valid without a break for TIM_QUAL_S. -/
def execSourceQualified (source : Nat) (s : State) : Host.Outcome State Fault Refusal :=
  .next (if (s.src source).valid then
    ((s.reachEl ((s.src source).validSince + s.par 0x0B83 * sec)).setFlag (bitAt A_TSU_STATUS (8 + source)) true).reselect
    else s)

/-- STEP_DECISION (R357): the selected source's offset has exceeded 1 ms for 1 s. A follower that holds an announcement decides nothing. -/
def execStepDecision (s : State) : Host.Outcome State Fault Refusal :=
  .next (match s.tim.bigSince with
    | some t => if s.selected != 0 then (s.reachEl (t + sec)).decideStep else s
    | none => s)

/-- R357: an offset rounded to the nearest even number, ties towards zero. -/
def evenStep (ofs : Int) : Int := if ofs % 2 = 0 then ofs else if 0 < ofs then ofs - 1 else ofs + 1

/-- R360: one-shot units whose instant a forward step from `a` to `b` passes over fire at the step. -/
def State.stepCompares (s : State) (a b : Nat) : State :=
  s.each s.tim.armed (fun t k =>
    let d := (t.reg (A_TSU_CMP_TIME k)).toNat
    if !t.flag (F_TSU_CMP_CFG_MODE k) && (d + (4294967296 - tsuNs a)) % 4294967296 ≤ b - a then
      (({ t with tim := { t.tim with armed := remove t.tim.armed k } }.setFlag (F_TSU_CMP_CFG_FIRED k) true).setFlag
        (F_TSU_CMP_CFG_STEPPED k) true).setReg (A_TSU_CMP_LAST k) (toWord (tsuNs b))
    else t)

/-- TIME_STEP (R340, R357, R359, R360): at the whole second S working time moves by Δ; the freeze due at S carries S + Δ. -/
def execTimeStep (s : State) : Host.Outcome State Fault Refusal :=
  .next (match s.tim.stepAt with
    | none => s
    | some (at_, announced) =>
      let t := s.reach at_
      let d := match announced with
        | some x => x
        | none => evenStep (t.srcOfs t.selected)
      let w := ((at_ : Int) + d).toNat
      let u := { t with tim := { t.tim with wt := w, stepAt := none, noPulseUntil := at_ + sec, bigSince := none, ptp := { t.tim.ptp with syncs := [], request := [], back := [] },
                                            stepJump := if t.dev.cycling then some (at_, d) else none },
                        dev := { t.dev with nextFreeze := if t.dev.nextFreeze = at_ then w else t.dev.nextFreeze },
                        rcd := { t.rcd with anchorDue := true } }
      let v := ((((u.writeExt.setReg A_TSU_STEP_LO (intWord d)).setReg A_TSU_STEP_HI (intWord (d / 4294967296))).bump
        (word32 A_TSU_STEP_CNT)).setFlag F_TSU_STATUS_SET true).setFlag F_TSU_STATUS_STEP_PEND false
      let x := (v.event F_TSU_EVENT_STEP).raise 0x0204 [intWord d, intWord (d / 4294967296)]
      if 0 < d then x.stepCompares at_ w else x)

/-- R356: the estimated error after `t` seconds of holdover. -/
def State.holdErr (s : State) (t : Nat) : Nat :=
  Nat.min 4294967295 (s.tim.holdE0 + (1728000 * s.par 0x0B8B * t + s.par 0x0B8C * t * t) / 17280000)

/-- HOLD_ERR_PUBLISH (R356): each whole second of holdover. -/
def execHoldErrPublish (s : State) : Host.Outcome State Fault Refusal :=
  .next (if s.flag F_TSU_STATUS_HOLDOVER then
    let t := (s.tim.el - s.tim.holdSince + sec - 1) / sec
    ((s.reachEl (s.tim.holdSince + t * sec)).setReg A_TSU_HOLD_ERR (toWord (s.holdErr t))).setReg A_TSU_HOLD_S (toWord t)
    else s)

/-- R358: set working time directly, before the first freeze. [Log 84, DEDUCED, unsafe] -/
def State.setTimeDirect (s : State) (ofs : Int) : State :=
  ({ s with tim := { s.tim with wt := ((s.tim.wt : Int) + evenStep ofs).toNat }, rcd := { s.rcd with anchorDue := true } }.writeExt).setFlag
    F_TSU_STATUS_SET true

/-- The queue of capture unit `k`. -/
def State.cap (s : State) (k : Nat) : List (Nat × Bool) := aget [] s.tim.caps k

/-- Store the queue of capture unit `k`. -/
def State.setCap (s : State) (k : Nat) (q : List (Nat × Bool)) : State := { s with tim := { s.tim with caps := aset s.tim.caps k q } }

/-- R363: EDGE selects this edge. -/
def edgeSelected (edge : Nat) (rising : Bool) : Bool := edge == 3 || (edge == 1 && rising) || (edge == 2 && !rising)

/-- CAPTURE_EDGE (R363): of two edges closer than 20 ns only the first counts. -/
def execCaptureEdge (unit : Nat) (rising : Bool) (stamp : Nat) (s : State) : Host.Outcome State Fault Refusal :=
  .next (
    let close := match afind s.tim.capEdgeAt unit with
      | some e => decide (stamp < e + 20)
      | none => false
    if close then s
    else
      let t := { s with tim := { s.tim with capEdgeAt := aset s.tim.capEdgeAt unit stamp } }
      if !edgeSelected (t.fld (F_TSU_CAP_CFG_EDGE unit)) rising then t
      else if (t.cap unit).length < 4 then t.setCap unit (t.cap unit ++ [(stamp, rising)])
      else
        let u := (t.setFlag (F_TSU_CAP_CFG_OVF unit) true).event F_TSU_EVENT_CAP_OVF
        if u.limited u.tim.capAlarmAt unit (60 * sec) then
          ({ u with tim := { u.tim with capAlarmAt := aset u.tim.capAlarmAt unit u.tim.el } }).raise 0x0209 (pay [unit])
        else u)

/-- R363: a read of TSU_CAPk_NS returns the head entry and removes it. -/
def State.capRead (s : State) (k : Nat) : State × Word :=
  match s.cap k with
  | [] => (s, 0#32)
  | e :: q => ((s.setCap k q).setFlag (F_TSU_CAP_CFG_OLD k) false, toWord (tsuNs e.1))

/-- CAPTURE_READ (R363). -/
def execCaptureRead (master unit : Nat) (s : State) : Host.Outcome State Fault Refusal :=
  .next (let r := s.accessWith master (A_TSU_CAP_NS unit) false (fun t => let c := t.capRead unit; (c.1, accOk, c.2))
    r.1.complete master false (A_TSU_CAP_NS unit) r.2.1 r.2.2)

/-- CAPTURE_OLD (R363): the counter passes the head entry's stamp plus 2³¹ ns. -/
def execCaptureOld (unit : Nat) (s : State) : Host.Outcome State Fault Refusal :=
  .next (match s.cap unit with
    | [] => s
    | e :: _ => (s.reach (e.1 + 2147483648)).setFlag (F_TSU_CAP_CFG_OLD unit) true)

/-- R365: the period of time pulse `k` in ns; 0 when it is off. -/
def State.tpPeriod (s : State) (k : Nat) : Nat :=
  match bits (s.parW 0x0B8D (2 * k)) 2 0 with
  | 1 => sec
  | 2 => 100 * ms
  | 3 => 10 * ms
  | 4 => ms
  | _ => 0

/-- R364: the width of a pulse of output `k` that starts now. -/
def State.tpWidth (s : State) (k : Nat) : Nat :=
  let w := s.parW 0x0B8D (2 * k + 1)
  10000 * (if s.flag F_TSU_STATUS_HOLDOVER && bits w 31 16 != 0 then bits w 31 16 else bits w 15 0)

/-- TIME_PULSE (R360, R364): the leading edge falls at a multiple of the period. -/
def execTimePulse (output : Nat) (s : State) : Host.Outcome State Fault Refusal :=
  .next (
    let p := s.tpPeriod output
    let gated := bits (s.parW 0x0B8D (2 * output)) 4 4 = 1 && !s.flag F_TSU_STATUS_SET
    if p = 0 || !s.pat.loaded || gated then s
    else
      let t := s.reach ((s.tim.wt + p - 1) / p * p)
      if t.tim.wt < t.tim.noPulseUntil then t
      else { t with tim := { t.tim with tp := aset t.tim.tp output (t.tim.el + t.tpWidth output) } })

/-- TIME_PULSE_END (R364). -/
def execTimePulseEnd (output : Nat) (s : State) : Host.Outcome State Fault Refusal :=
  .next (match afind s.tim.tp output with
    | some e => let t := s.reachEl e; { t with tim := { t.tim with tp := adel t.tim.tp output } }
    | none => s)

/-- TIME_MARKER_SEND (R352, R354): at each whole millisecond, on lane 0 or, while that is down, on lane 1, with a step announcement while one is decided by the lead side. -/
def execTimeMarkerSend (s : State) : Host.Outcome State Fault Refusal :=
  .next (
    let t := s.reach ((s.tim.wt + ms - 1) / ms * ms)
    if t.linkUp then
      let step : Int × Nat := match t.tim.stepAt with
        | some (at_, none) => if t.isLead then (evenStep (t.srcOfs t.selected), at_ / sec % 4294967296) else (0, 0)
        | _ => (0, 0)
      let lane : Nat := if t.flag (bitAt A_TWN_STATUS 10) then 0 else 1
      t.send .twin .marker [(lane : Int), (t.tim.wt : Int), (t.tim.rxMarker : Int), step.1, (step.2 : Int)]
    else t)

/-- R352: the twin offset that a marker gives. -/
def markerOffset (m : Marker) : Int := (((m.rxT : Int) - m.ownSend) - ((m.arrival : Int) - m.sendT)) / 2

/-- R354: the whole second whose bits [31:0] a marker names, near working time `t`. -/
def markerSecond (t sec32 : Nat) : Nat :=
  let n := t / sec
  (n + (sec32 + 4294967296 - n % 4294967296) % 4294967296) * sec

/-- R352 to R354: what an arriving time marker gives: the twin offset, TWIN_OK, an announced step and an offset of the twin source. -/
def State.takeMarker (s : State) (marker : Marker) : State :=
  let o := markerOffset marker
  let ok := decide (o.natAbs ≤ 1000)
  let t := { s with tim := { s.tim with
    twinOffset := o, rxMarker := marker.arrival,
    twinBigSince := if ok then none else some (s.tim.twinBigSince.getD s.tim.el) } }
  let u := t.setFlag F_TSU_STATUS_TWIN_OK ok
  let v := if ok then u.causeGone 0x0208 else u
  let x := if marker.step != 0 && !v.isLead then
      ({ v with tim := { v.tim with stepAt := some (markerSecond v.tim.wt marker.stepSec, some marker.step) } }).setFlag
        F_TSU_STATUS_STEP_PEND true
    else v
  if x.peerMet && x.linkUp then x.measureOffset 4 o else x

/-- TWIN_OFFSET_ALARM (R353). -/
def execTwinOffsetAlarm (s : State) : Host.Outcome State Fault Refusal :=
  .next (match s.tim.twinBigSince with
    | some t => if s.selected = 4 then (s.reachEl (t + sec)).raise 0x0208 else s
    | none => s)

end Sys2Proof.Machine
end

