-- ==== Sys2Proof/Machine/Orders.lean ====
section
/-! DEFINITION. Orders (R81 to R94): arrival, the checks of R83 in their order, duplicates, responses, and the orders that steer state, mode,
command and parameters. -/
namespace Sys2Proof.Machine

/-- R89: word `k` of the ORD_SOURCES entry of a source. -/
def State.srcEntry (s : State) (source k : Nat) : Word := nthW (s.parGiven 0x1201) (4 * (source - 1) + k)

/-- R89: the code of a transport. -/
def transportCode : Transport → Nat
  | .hostBox => 0
  | .app0Box => 1
  | .app1Box => 2
  | .udp => 3
  | .can => 4

/-- R83 check 0x03, R88: SOURCE is in ORDERS, the frame came on its transport and address, its mask permits CODE, and a TAKE_COMMAND comes from
a command-capable source. -/
def State.authorised (s : State) (o : OrderIn) (code : Nat) : Bool :=
  1 ≤ o.source && 4 * o.source ≤ (s.parGiven 0x1201).length &&
  (s.srcEntry o.source 0).toNat == transportCode o.transport &&
  (match o.transport with
    | .udp => s.srcEntry o.source 1 == o.address && bits (s.srcEntry o.source 3) 31 16 == o.port
    | .can => s.srcEntry o.source 1 == o.address
    | .hostBox | .app0Box | .app1Box => true) &&
  tbit (s.srcEntry o.source 2).toNat (code - 1) && (code != 0x09 || tbit (s.srcEntry o.source 3).toNat 0)

/-- R84: the order is a duplicate. -/
def State.duplicate (s : State) (o : OrderIn) : Bool := afind s.ord.lastSeq o.source == some o.seq

/-- R83: the orders counted against a source in this cycle. -/
def State.countedOrders (s : State) (source : Nat) : Nat := aget 0 s.ord.counted source

/-- R82, R279: the cycle of an input: the one that the next freeze opens, or the present one for an input stamped at or before its freeze.
R359: so is one stamped in the time before the step with which the cycle began. -/
def State.epochOf (s : State) (stamp : Nat) : Nat :=
  let beforeStep := match s.tim.stepJump with
    | some (t, _) => s.tim.wt < stamp && stamp ≤ t
    | none => false
  if stamp ≤ s.dev.freezeAt || beforeStep then s.dev.stateEp else s.dev.stateEp + 1

/-- R82, R83: the frame fails check 0x01. -/
def malformed (o : OrderIn) : Bool := o.format != 1 || !o.crcOk || 2 < o.target

/-- R82: an order belongs to the cycle of its stamp: one of a later cycle waits for it, any other is evaluated now, as `run` gives. In BOOT and without a
cycle no order is evaluated (R70). [Log 97, DESIGN CHOICE, unsafe] -/
def State.takeOrder (s : State) (o : OrderIn) (code : Nat) (run : State) : State :=
  if s.dev.st = .boot || !s.dev.cycling then s
  else if s.dev.stateEp < s.epochOf o.stamp then { s with ord := { s.ord with waiting := s.ord.waiting ++ [⟨o, code⟩] } }
  else run

/-- R70: a state accepts an order code at all. -/
def stateAccepts (st code : Nat) : Bool :=
  if st = 1 || st = 2 then true
  else if st = 3 then code == 0x12 || code == 0x13
  else if st = 4 then [0x10, 0x11, 0x12, 0x13].contains code
  else false

/-- R87: the side that an order names; none for an order that names the pair. -/
def State.namedSide (s : State) (o : OrderIn) (code : Nat) : Option Side :=
  if code = 0x01 || code = 0x11 || code = 0x12 then
    if o.target = 1 then some .cope
    else if o.target = 2 then some .drag
    else if !s.paired then some s.pins.side
    else if code = 0x01 then some .cope else none
  else none

/-- R71: the side that holds the Ladle, as this device knows it. -/
def State.holderSide (s : State) : Option Side := if s.holds then some s.pins.side else s.twn.holder

/-- R82: the side that holds the Ladle once the orders accepted earlier in the cycle have acted. -/
def State.holderNow (s : State) : Option Side :=
  if afind s.ord.sideState 0 == some 2 then some .cope
  else if afind s.ord.sideState 1 == some 2 then some .drag
  else match s.holderSide with
    | some h => if (afind s.ord.sideState (sideCode h)).isSome then none else some h
    | none => none

/-- R82, R87: the code of the device's own present state, changed by the orders accepted earlier in the cycle. -/
def State.ownState (s : State) : Nat := (afind s.ord.sideState (sideCode s.pins.side)).getD (stateCode s.dev.st)

/-- R87: the state code of a side as both twins hold it: its agreed report, changed by the orders accepted earlier in the cycle. A device that
is not in step knows its own state. -/
def State.sideStateOf (s : State) (side : Side) : Nat :=
  match afind s.ord.sideState (sideCode side) with
  | some c => c
  | none =>
    if side = s.pins.side && (!s.inStep || (s.reportOf side).isEmpty) then stateCode s.dev.st
    else bits (nthW (s.reportOf side) 1) 15 8

/-- R87: an order whose TARGET names the other side of a solo or split device is not acted on here. [Log 19, DEDUCED, unsafe] -/
def State.foreignTarget (s : State) (o : OrderIn) : Bool :=
  s.alone && (o.target == 1 || o.target == 2) && o.target != 1 + sideCode s.pins.side

/-- R87: TARGET is allowed for the order. [Log 19, DEDUCED, unsafe] -/
def State.targetOk (s : State) (o : OrderIn) (code : Nat) : Bool :=
  if code = 0x12 then !(s.paired && o.target = 0)
  else if code = 0x01 || code = 0x11 then true
  else s.alone || o.target == 0

/-- R85: queue the response of an order for the pour. [Log 12, DEDUCED, safe] -/
def State.respond (s : State) (o : OrderIn) (code result : Nat) : State :=
  { s with ord := { s.ord with responses := s.ord.responses ++ [⟨o.transport, o.address, o.port, o.source, code, result, o.seq⟩] } }

/-- R94: the mailbox of a transport. -/
def boxOf : Transport → Option Nat
  | .hostBox => some 0
  | .app0Box => some 1
  | .app1Box => some 2
  | .udp | .can => none

/-- R94: a response for a mailbox arrives: RESULT first, then DONE. -/
def State.boxAnswer (s : State) (k result : Nat) : State :=
  ((s.setFld (F_CTL_OMB_CTRL_RESULT k) result).setFlag (F_CTL_OMB_CTRL_PEND k) false).setFlag (F_CTL_OMB_CTRL_DONE k) true

/-- R84, R94: a duplicate is discarded; a mailbox shows RESULT 0xFF. -/
def State.dropDuplicate (s : State) (o : OrderIn) : State :=
  match boxOf o.transport with
  | some k => s.boxAnswer k 0xFF
  | none => s

/-- R83 checks 0x08 to 0x0B and 0x04, after the authority and duplicate tests: the first that fails. `n` orders were counted before this one. -/
def State.midChecks (s : State) (o : OrderIn) (steering : Bool) (n : Nat) : Nat :=
  if o.seq < aget 0 s.ord.lastSeq o.source then 0x08
  else if o.ladleEp != s.twn.ladleEp then 0x09
  else if s.dev.stateEp < o.stateEp || o.stateEp + s.par 0x1203 < s.dev.stateEp then 0x0A
  else if 8 ≤ n then 0x0B
  else if steering && s.dev.command != o.source then 0x04
  else 0

/-- The first code of a list of (code, check passes) whose check fails, 0 for none. -/
def firstFail : List (Nat × Bool) → Nat
  | [] => 0
  | (c, ok) :: r => if ok then firstFail r else c

/-- R83: the outcome code of an order that is not a duplicate. `late` holds the row's own checks 0x05, 0x06, 0x07 and 0x0C. -/
def State.orderResult (s : State) (o : OrderIn) (code : Nat) (steering : Bool) (late : List (Nat × Bool)) : Nat :=
  if malformed o then 0x01
  else if !s.authorised o code then 0x03
  else
    let m := s.midChecks o steering (s.countedOrders o.source)
    if m != 0 then m else if s.foreignTarget o then 0 else firstFail late

/-- R82 to R85: evaluate an order: the checks of R83, the duplicate rule, the rate count, the response, and the effect of an accepted order. -/
def State.evalOrder (s : State) (o : OrderIn) (code : Nat) (steering : Bool) (late : List (Nat × Bool)) (effect : State → State) : State :=
  if malformed o then s.respond o code 0x01
  else if !s.authorised o code then s.respond o code 0x03
  else if s.duplicate o then s.dropDuplicate o
  else
    let r := s.orderResult o code steering late
    let t := { s with ord := { s.ord with counted := aset s.ord.counted o.source (s.countedOrders o.source + 1) } }
    if r != 0 then t.respond o code r
    else
      let u := { t with ord := { t.ord with lastSeq := aset t.ord.lastSeq o.source o.seq } }
      if s.foreignTarget o then u.respond o code 0
      else (effect u).respond o code 0

/-- R70, R82: check 0x05 of an order that names no side, against the state that the orders before it in the cycle have left. -/
def State.stateOk (s : State) (code : Nat) : Bool := stateAccepts s.ownState code

/-- R71: some device of the pair holds the Ladle, once the orders before it in the cycle have acted. -/
def State.someHolder (s : State) : Bool := s.holderNow.isSome

/-- R145, R154: the fused position and the fused heading are valid. -/
def State.posValid (s : State) : Bool := (s.fus.quants.getD 0 {}).valid
def State.hdgValid (s : State) : Bool := (s.fus.quants.getD 1 {}).valid

/-- R92: a condition with an expired limit is present: dead reckoning whose limit has expired, or a brake channel applied at the end of its degraded time
on either side (code 6 of R321). -/
def State.limitExpired (s : State) : Bool :=
  (s.cond 0 && s.dev.expired.contains 0) || (List.range 8).any (fun n => (s.brake n).expired || nthW s.twn.peerBrakes n == 6#32)

/-- R75: the conditions of ENGAGE on the named side. -/
def State.engageOk (s : State) (side : Side) : Bool :=
  let solo := s.par 0x0707 == 1
  s.sideStateOf side == 1 && s.posValid && s.hdgValid && !s.limitExpired &&
  (!s.paired || (s.sideStateOf (otherSide side) != 2 && s.holderNow != some (otherSide side) &&
    (solo || (!s.split && takeoverOk (s.reportOf (otherSide side))))))

/-- Remember the state that an accepted order gives a side in this cycle (R82, R87). -/
def State.noteState (s : State) (side : Side) (code : Nat) : State :=
  { s with ord := { s.ord with sideState := aset s.ord.sideState (sideCode side) code } }

/-- R82: an accepted order gives both sides a state. -/
def State.noteBoth (s : State) (code : Nat) : State := (s.noteState .cope code).noteState .drag code

/-- R82: the holder's side gets a state by an accepted order. -/
def State.noteHolder (s : State) (code : Nat) : State :=
  match s.holderNow with
  | some h => s.noteState h code
  | none => s

/-- R85: an accepted order makes the pour of the cycle do something. -/
def State.atPour (s : State) (a : PourAct) : State := { s with dev := { s.dev with atPour := s.dev.atPour ++ [a] } }

/-- ENGAGE (R75, R86, R87, R296): the named side takes the Ladle at the pour; both twins know the new holder and epoch. -/
def State.engageOrder (s : State) (order : OrderIn) : State :=
  let side := (s.namedSide order 0x01).getD .cope
  s.evalOrder order 0x01 true
    [(0x05, stateAccepts (s.sideStateOf side) 0x01 && s.engageOk side && (side != s.pins.side || s.ownState == 1)), (0x07, s.targetOk order 0x01)]
    (fun t => (t.noteState side 2).atPour (.engage side))

/-- ENGAGE (R75). -/
def execEngage (order : OrderIn) (s : State) : Host.Outcome State Fault Refusal := .next (s.takeOrder order 0x01 (s.engageOrder order))

/-- DISENGAGE (R86, R296): the holder returns to ARMED at the pour. -/
def State.disengageOrder (s : State) (order : OrderIn) : State :=
  s.evalOrder order 0x02 true [(0x05, s.stateOk 0x02 && s.someHolder), (0x07, s.targetOk order 0x02)] (fun t => (t.noteHolder 1).atPour .disengage)

/-- DISENGAGE (R86). -/
def execDisengage (order : OrderIn) (s : State) : Host.Outcome State Fault Refusal := .next (s.takeOrder order 0x02 (s.disengageOrder order))

/-- R296: the twin of the holder shows ARMED and TAKEOVER_OK. -/
def State.transferReady (s : State) : Bool :=
  match s.holderNow with
  | some h => s.sideStateOf (otherSide h) == 1 && takeoverOk (s.reportOf (otherSide h))
  | none => false

/-- R296: the Ladle passes from the holder to its twin. -/
def State.noteTransfer (s : State) : State :=
  match s.holderNow with
  | some h => (s.noteState h 1).noteState (otherSide h) 2
  | none => s

/-- TRANSFER (R296). -/
def State.transferOrder (s : State) (order : OrderIn) : State :=
  s.evalOrder order 0x03 true
    [(0x05, s.stateOk 0x03 && s.someHolder), (0x06, !s.alone && s.transferReady), (0x07, s.targetOk order 0x03)]
    (fun t => t.noteTransfer.atPour .transfer)

/-- TRANSFER (R296). -/
def execTransfer (order : OrderIn) (s : State) : Host.Outcome State Fault Refusal := .next (s.takeOrder order 0x03 (s.transferOrder order))

/-- R451: the merged set holds the unit of a member. -/
def State.unitRecord (s : State) (m : Nat) : Option (List Word) := afind s.elk.units (m / 2 * 2)

/-- R80, R451: the Follow reference has been delivered in the current cycle: a message of its sensor slot is in the agreed set, or the newest merged set
holds its unit. -/
def State.followDelivered (s : State) : Bool :=
  match s.dev.follow with
  | some (w :: _) =>
    if 0x10000 ≤ w then s.agr.agreed.any (fun i => i.cls == 0 && i.num + 0x10000 == w.toNat) else (s.unitRecord w.toNat).isSome
  | _ => false

/-- R80: the entry preconditions of a mode. -/
def State.modeReady (s : State) (mode : Nat) : Bool :=
  match mode with
  | 4 => s.dev.track.isSome
  | 5 => s.followDelivered
  | 1 | 2 | 3 => s.posValid
  | _ => true

/-- SET_MODE (R79, R80, R88): the change waits for its freeze. A change of the device's own that falls due at the same freeze wins. -/
def State.setModeOrder (s : State) (order : OrderIn) : State :=
  let mode := (nthW order.args 0).toNat
  s.evalOrder order 0x04 true
    [(0x05, s.stateOk 0x04), (0x06, s.modeReady mode), (0x07, 1 ≤ mode && mode ≤ 6 && s.targetOk order 0x04),
     (0x0C, match s.dev.ownNew with | some m => s.modeDue m != s.modeDue mode | none => true)]
    (fun t => { t with dev := { t.dev with newMode := some mode } })

/-- SET_MODE (R80). -/
def execSetMode (order : OrderIn) (s : State) : Host.Outcome State Fault Refusal := .next (s.takeOrder order 0x04 (s.setModeOrder order))

/-- SET_POINT (R86, R168). -/
def State.setPointOrder (s : State) (order : OrderIn) : State :=
  s.evalOrder order 0x05 true [(0x05, s.stateOk 0x05), (0x07, (nthW order.args 2).toNat ≤ 359999 && s.targetOk order 0x05)]
    (fun t => { t with
      dev := { t.dev with setPoint := [(nthW order.args 0).toInt, (nthW order.args 1).toInt, ((nthW order.args 2).toNat : Int)] }
      ctl := { t.ctl with spNew := true } })

/-- SET_POINT (R168). -/
def execSetPoint (order : OrderIn) (s : State) : Host.Outcome State Fault Refusal := .next (s.takeOrder order 0x05 (s.setPointOrder order))

/-- SET_TRACK (R86, R180). -/
def State.setTrackOrder (s : State) (order : OrderIn) : State :=
  s.evalOrder order 0x06 true [(0x05, s.stateOk 0x06), (0x07, (nthW order.args 4).toNat ≤ 3000 && s.targetOk order 0x06)]
    (fun t => { t with
      dev := { t.dev with track := some ((order.args.take 4).map (fun w => w.toInt) ++ [((nthW order.args 4).toNat : Int)]) }
      ctl := { t.ctl with trackAt := 0, trackEnd := false } })

/-- SET_TRACK (R180). -/
def execSetTrack (order : OrderIn) (s : State) : Host.Outcome State Fault Refusal := .next (s.takeOrder order 0x06 (s.setTrackOrder order))

/-- R183: a joystick demand of an axis is within ±1,000. -/
def demandOk (w : Word) : Bool := w.toInt.natAbs ≤ 1000

/-- JOYSTICK (R86, R183). -/
def State.joystickOrder (s : State) (order : OrderIn) : State :=
  s.evalOrder order 0x08 true
    [(0x05, s.stateOk 0x08), (0x07, (order.args.take 3).all demandOk && s.targetOk order 0x08)]
    (fun t => { t with dev := { t.dev with joystick := (order.args.take 3).map (fun w => w.toInt), joyAt := t.tim.el, joyLost := false } })

/-- JOYSTICK (R183). -/
def execJoystick (order : OrderIn) (s : State) : Host.Outcome State Fault Refusal := .next (s.takeOrder order 0x08 (s.joystickOrder order))

/-- TAKE_COMMAND (R88): at most one change of command in a cycle. -/
def State.takeCommandOrder (s : State) (order : OrderIn) : State :=
  s.evalOrder order 0x09 false
    [(0x05, s.stateOk 0x09), (0x07, s.targetOk order 0x09), (0x0C, s.dev.command == order.source || !s.ord.commandChanged)]
    (fun t => if t.dev.command = order.source then t
      else { t with dev := { t.dev with command := order.source }, ord := { t.ord with commandChanged := true } })

/-- TAKE_COMMAND (R88). -/
def execTakeCommand (order : OrderIn) (s : State) : Host.Outcome State Fault Refusal :=
  .next (s.takeOrder order 0x09 (s.takeCommandOrder order))

/-- R90: the index of the TUN_LIST entry whose word 0 is `key`. -/
def State.tunEntry (s : State) (key : Word) : Option Nat :=
  (List.range ((s.parGiven 0x1301).length / 4)).find? (fun k => nthW (s.parGiven 0x1301) (4 * k) == key)

/-- R90: the stated range of word `i` of a parameter admits negative values. -/
def signedPar (pid i : Nat) : Bool :=
  match paramRow pid with
  | some r => (r.ranges.getD (i % r.ranges.length) (0, 0)).1 < 0
  | none => false

/-- R90: a tunable's word as the number it is compared as. -/
def tunNum (signed : Bool) (w : Word) : Int := if signed then w.toInt else (w.toNat : Int)

/-- R90: a TUNABLE order names an entry, and its value lies within the entry's limits and largest change. -/
def State.tunableOk (s : State) (key value : Word) : Bool :=
  match s.tunEntry key with
  | none => false
  | some k =>
    let e := fun j => nthW (s.parGiven 0x1301) (4 * k + j)
    let pid := bits key 15 0
    let i := bits key 31 16
    let n := tunNum (signedPar pid i)
    n (e 1) ≤ n value && n value ≤ n (e 2) && (n value - n (s.parW pid i)).natAbs ≤ (e 3).toNat

/-- TUNABLE (R90): the value takes effect at the next freeze. -/
def State.tunableOrder (s : State) (order : OrderIn) : State :=
  let key := nthW order.args 0
  s.evalOrder order 0x0C false
    [(0x05, s.stateOk 0x0C), (0x07, s.tunableOk key (nthW order.args 1) && s.targetOk order 0x0C), (0x0C, !s.ord.tunedThisCycle.contains key.toNat)]
    (fun t => { t with ord := { t.ord with
      tunedThisCycle := t.ord.tunedThisCycle ++ [key.toNat], tuneNext := t.ord.tuneNext ++ [(key.toNat, nthW order.args 1)] } })

/-- TUNABLE (R90). -/
def execTunable (order : OrderIn) (s : State) : Host.Outcome State Fault Refusal := .next (s.takeOrder order 0x0C (s.tunableOrder order))

/-- R76: neither twin is ACTIVE, once the orders before in the cycle have acted. -/
def State.noneActive (s : State) : Bool := s.holderNow.isNone && (!s.paired || s.sideStateOf (otherSide s.pins.side) != 2)

/-- PARK (R76, R77): accepted only when neither twin is ACTIVE. -/
def State.parkOrder (s : State) (order : OrderIn) : State :=
  s.evalOrder order 0x0F false [(0x05, s.ownState == 1 && s.noneActive), (0x07, s.targetOk order 0x0F)] (fun t => (t.noteBoth 4).atPour .park)

/-- PARK (R76). -/
def execPark (order : OrderIn) (s : State) : Host.Outcome State Fault Refusal := .next (s.takeOrder order 0x0F (s.parkOrder order))

/-- UNPARK (R77). -/
def State.unparkOrder (s : State) (order : OrderIn) : State :=
  s.evalOrder order 0x10 false [(0x05, s.ownState == 4), (0x07, s.targetOk order 0x10)] (fun t => (t.noteBoth 1).atPour .unpark)

/-- UNPARK (R77). -/
def execUnpark (order : OrderIn) (s : State) : Host.Outcome State Fault Refusal := .next (s.takeOrder order 0x10 (s.unparkOrder order))

/-- R87: the side, or both where none is named, gets a state by an accepted order. -/
def State.noteNamed (s : State) (named : Option Side) (code : Nat) : State :=
  match named with
  | some side => s.noteState side code
  | none => s.noteBoth code

/-- SAFE (R87): the named side, or both, enter SAFE at the pour. -/
def State.safeOrder (s : State) (order : OrderIn) : State :=
  let named := s.namedSide order 0x11
  let side := named.getD s.pins.side
  let mine := side = s.pins.side
  s.evalOrder order 0x11 false [(0x05, stateAccepts (s.sideStateOf side) 0x11 && (!mine || s.stateOk 0x11)), (0x07, s.targetOk order 0x11)]
    (fun t => let u := t.noteNamed named 3
      if mine then u.atPour .safe else u)

/-- SAFE (R87). -/
def execSafe (order : OrderIn) (s : State) : Host.Outcome State Fault Refusal := .next (s.takeOrder order 0x11 (s.safeOrder order))

/-- R490: the named side's thermal shutdown is latched and it has not cooled. -/
def State.tooHot (s : State) (side : Side) : Bool :=
  let f := (nthW (s.reportOf side) 3).toNat
  if (s.reportOf side).isEmpty && side = s.pins.side then s.flag F_HLT_STATUS_SHUTDOWN && !s.flag F_HLT_STATUS_COOLED
  else tbit f 5 && !tbit f 10

/-- RESET (R86, R87, R490): the named side performs an ordered reset after its pour. -/
def State.resetOrder (s : State) (order : OrderIn) : State :=
  let side := (s.namedSide order 0x12).getD s.pins.side
  let mine := side = s.pins.side
  s.evalOrder order 0x12 false
    [(0x05, stateAccepts (s.sideStateOf side) 0x12 && (!mine || s.stateOk 0x12)), (0x06, !s.tooHot side), (0x07, s.targetOk order 0x12)]
    (fun t => if mine then t.atPour .reset else t)

/-- RESET (R86). -/
def execReset (order : OrderIn) (s : State) : Host.Outcome State Fault Refusal := .next (s.takeOrder order 0x12 (s.resetOrder order))

/-- ALARM_ACK (R534): one code, or 0xFFFF for all. -/
def State.alarmAckOrder (s : State) (order : OrderIn) : State :=
  let code := (nthW order.args 0).toNat
  s.evalOrder order 0x13 false [(0x05, s.stateOk 0x13), (0x07, code ≤ 0xFFFF && s.targetOk order 0x13)]
    (fun t => if code = 0xFFFF then
        (t.alarms.map (·.code)).foldl State.ackAlarm { t with ord := { t.ord with pairAcked := [0xFFFF] } }
      else { t with ord := { t.ord with pairAcked := insertNew t.ord.pairAcked code } }.ackAlarm code)

/-- ALARM_ACK (R534). -/
def execAlarmAck (order : OrderIn) (s : State) : Host.Outcome State Fault Refusal := .next (s.takeOrder order 0x13 (s.alarmAckOrder order))

/-- A brake test or an injection runs (R189, R322). -/
def State.testRuns (s : State) : Bool := s.saf.test.isSome || s.ctl.inj.isSome

/-- R322: the channel can be tested: enabled with an encoder, its thruster unavailable, its brake applied, healthy on both sides. -/
def State.brakeTestable (s : State) (n : Nat) : Bool :=
  let b := s.brake n
  let peer := nth (s.twn.peerBrakes.map (fun w => w.toNat)) n
  s.brkEn n && bits (s.safPar (0x1040 + n) 2) 8 8 == 1 && !(aget {} s.alc.thrs (s.brkThr n)).avail && b.applied && b.degr == 0 && !b.fault &&
  !(peer == 3 || peer == 4 || peer == 5 || peer == 6)

/-- TEST_START of a brake test (R86, R322): it starts at the first freeze after the cycle of acceptance. -/
def State.testStartBrakeOrder (s : State) (order : OrderIn) : State :=
  let n := (nthW order.args 1).toNat
  let hold := (nthW order.args 2).toNat
  s.evalOrder order 0x0D false
    [(0x05, s.stateOk 0x0D && s.someHolder), (0x06, s.brakeTestable n),
     (0x07, nthW order.args 0 == 1#32 && n ≤ 7 && 1 ≤ hold && hold ≤ 10 && (order.args.drop 3).all (· == 0#32) && s.targetOk order 0x0D),
     (0x0C, !s.testRuns)]
    (fun t => { t with saf := { t.saf with test := some ⟨n, hold, 0, t.tim.el, 0⟩ } })

/-- TEST_START_BRAKE (R322). -/
def execTestStartBrake (order : OrderIn) (s : State) : Host.Outcome State Fault Refusal :=
  .next (s.takeOrder order 0x0D (s.testStartBrakeOrder order))

/-- R279: SOURCE of an item. -/
def itemSource (i : Item) : Nat := 32768 * sideCode i.side + 4096 * i.cls + i.num

/-- R279: the fragments of an item's data: 992 bytes each, and one without data for an item that has none. -/
def fragments (n : Nat) (data : List Word) : List (Nat × List Word) := (List.range (Nat.max 1 n)).map (fun k => (k, (data.drop (248 * k)).take 248))

/-- R279: the number of fragments of an item. -/
def fragmentCount (data : List Word) : Nat := Nat.max 1 ((data.length + 247) / 248)

/-- R279: complete an item of this side: it joins the own items and goes to the partner on VC1, in its fragments. -/
def State.ownItem (s : State) (cls num first last : Nat) (data : List Word) : State :=
  let key := 4096 * cls + num
  let n := aget 0 s.agr.arrivals key
  let i : Item := ⟨s.pins.side, cls, num, s.epochOf last, last, first, n, data⟩
  let t := { s with agr := { s.agr with own := s.agr.own ++ [i], arrivals := aset s.agr.arrivals key (n + 1) } }
  if t.paired && !t.split && t.peerMet then
    let c := fragmentCount data
    (fragments c data).foldl (fun (u : State) (f : Nat × List Word) =>
      u.twinSend 1 .item ([itemSource i, i.epoch, last, first, 4 * data.length, f.1, c, n].map Int.ofNat ++ wordData f.2)) t
  else t

/-- R83: an order code of the table. [Log 20, DEDUCED, unsafe] -/
def knownCode (c : Nat) : Bool := 1 ≤ c && c ≤ 0x13

/-- R83: the answer to a frame whose CODE no row has: 0x01 when it is malformed, 0x02 otherwise. [Log 20, DEDUCED, unsafe] -/
def State.unknownOrder (s : State) (o : OrderIn) (code : Nat) : State := s.respond o code (if malformed o then 0x01 else 0x02)

/-- R82: a frame that has arrived is an item of its cycle. One whose CODE no row has is answered in its cycle; every other is evaluated by the row of its code. -/
def State.orderArrives (s : State) (o : OrderIn) (frame : List Word) : State :=
  let t := s.ownItem 4 (if 1 ≤ o.source && o.source ≤ 64 then o.source else 0) o.stamp o.stamp frame
  if knownCode (orderCode frame) then t else t.takeOrder o (orderCode frame) (t.unknownOrder o (orderCode frame))

/-- ORDER_ARRIVAL (R81, R82): the frame is stamped, assigned to a cycle and sent as an item. [Log 20, DEDUCED, unsafe] -/
def execOrderArrival (transport : Transport) (address : Word) (port : Nat) (frame : List Word) (stamp : Nat) (s : State) :
    Host.Outcome State Fault Refusal :=
  .next (if s.dev.st = .boot || !s.dev.cycling then s else s.orderArrives (parseOrder transport address port frame stamp) frame)

/-- R94: the transport of mailbox `k`. -/
def boxTransport (k : Nat) : Transport := if k = 0 then .hostBox else if k = 1 then .app0Box else .app1Box

/-- R94: SUBMIT of mailbox `k`: the frame in the buffer is stamped at this write. A frame submitted in BOOT or in a SAFE without a cycle gets no answer, and PEND stays 1. [Log 97, DESIGN CHOICE, unsafe] -/
def State.submitBox (s : State) (k : Nat) : State :=
  if s.flag (F_CTL_OMB_CTRL_PEND k) then s
  else
    let frame := s.regRun (A_CTL_OMB_BUF k 0) 16
    let t := s.setFlag (F_CTL_OMB_CTRL_PEND k) true
    if s.dev.st = .boot || !s.dev.cycling then t else t.orderArrives (parseOrder (boxTransport k) 0#32 0 frame s.tim.wt) frame

/-- ORDER_MAILBOX_SUBMIT (R94). -/
def execOrderMailboxSubmit (master box : Nat) (s : State) : Host.Outcome State Fault Refusal :=
  .next (s.commandWrite master (A_CTL_OMB_CTRL box) 1#32 (fun t => t.submitBox box))

/-- R85: the four words of a response. [Log 92, DESIGN CHOICE, unsafe] -/
def responseWords (r : Response) (stateEp side : Nat) : List Word :=
  [BitVec.ofNat 32 (r.source + 65536 * r.code + 16777216 * r.result), toWord r.seq, toWord stateEp, toWord side]

/-- R85, R377, R388: send one response at the pour, keep its copy for the State Image, and answer a mailbox. A CAN source is answered on its identifier
+ 1 by Cope and + 2 by Drag. The mailbox of the order's number shows the response on both twins, also on the one that did not receive the frame. [Log 97, DESIGN CHOICE, unsafe] -/
def State.sendResponse (s : State) (r : Response) : State :=
  let w := responseWords r s.dev.stateEp (sideCode s.pins.side)
  let t := if 1 ≤ r.source && r.source ≤ 64 then
      { s with ord := { s.ord with last := aset s.ord.last r.source (responseWords r s.dev.stateEp 0) } } else s
  match boxOf r.transport with
  | some k => t.boxAnswer k r.result
  | none =>
    if r.transport = .udp then t.udpSend false r.address.toNat .orderResponse ((s.par 0x1202 : Int) :: (r.port : Int) :: wordData w)
    else
      let id := bits r.address 31 3
      t.canSend (bits r.address 2 0) none (canHead (id + 1 + sideCode s.pins.side) (decide (0x7FF < id)) true false) (wordsBytes w) false

/-- R85: send every response that waits for the pour. -/
def State.sendResponses (s : State) : State :=
  let t := s.ord.responses.foldl State.sendResponse s
  { t with ord := { t.ord with responses := [], sideState := [] } }

/-- R89: the transport and address of a source in ORD_SOURCES, for an order that the other twin received. -/
def State.sourceOrder (s : State) (i : Item) : OrderIn :=
  let w := s.srcEntry i.num
  let tr : Transport := match (w 0).toNat with
    | 0 => .hostBox
    | 1 => .app0Box
    | 2 => .app1Box
    | 3 => .udp
    | _ => .can
  parseOrder tr (w 1) (bits (w 3) 31 16) i.data i.last

/-- R83, R85: the other twin's agreed frames whose CODE no row has are answered by this twin too. [Log 20, DEDUCED, unsafe] -/
def State.answerUnknown (s : State) : State :=
  (s.agr.agreed.filter (fun i => i.cls == 4 && i.side != s.pins.side && 1 ≤ i.num && 4 * i.num ≤ (s.parGiven 0x1201).length && !knownCode (orderCode i.data))).foldl
    (fun t i => t.unknownOrder (t.sourceOrder i) (orderCode i.data)) s

end Sys2Proof.Machine
end

