-- ==== Sys2Proof/Machine/Gnss.lean ====
section
/-! DEFINITION. Satellite navigation baseband (R95 to R129): antennas, acquisition, tracking channels, the latch at the freeze, notches, false-signal
marks, snapshots, PARKED checks and channel sparing (R103, R478). -/
namespace Sys2Proof.Machine

/-- R41: the image has a section of type `n`. -/
def State.hasSection (s : State) (n : Nat) : Bool := s.pat.loaded && s.pat.sections.contains n

/-- R128: the Pattern has a GNSS section. -/
def State.hasGnss (s : State) : Bool := s.hasSection 6

/-- R111, R128: tracking is powered. -/
def State.gnsRuns (s : State) : Bool := s.flag F_GNS_STATUS_RUN

/-- R128: antenna `n` is used. -/
def State.antUsed (s : State) (n : Nat) : Bool := n < 4 && tbit (s.par 0x0602) n

/-- R95: antenna `n` has its supply switched on by GNS_ANT_SUPPLY. -/
def State.antSupplied (s : State) (n : Nat) : Bool := n < 4 && s.hasGnss && s.par 0x0603 n != 0

/-- R95: the next measurement of an antenna's current, 10 ms after the last one, or after the supply was switched on for a retry. -/
def State.nextMeasure (s : State) (antenna : Nat) : State :=
  let t := match afind s.gns.measAt antenna with
    | some e => s.reachEl (e + 10 * ms)
    | none => s
  { t with gns := { t.gns with measAt := aset t.gns.measAt antenna t.tim.el } }

/-- ANTENNA_MEASURE (R95): below 2 mA open; above 80 mA twice in a row shorted, and the supply is switched off. [Log 93, DESIGN CHOICE, safe] [Log 98, DESIGN CHOICE, unsafe] -/
def execAntennaMeasure (antenna milliamps : Nat) (s : State) : Host.Outcome State Fault Refusal :=
  .next (
    let st := s.fld (F_GNS_ANT_STATE antenna)
    let retry := s.gns.antRetry.contains antenna
    if !s.antSupplied antenna || (st == 3 && !retry) then s
    else
      let r := s.nextMeasure antenna
      let t := ({ r with gns := { r.gns with antRetry := remove r.gns.antRetry antenna } }).setFld (F_GNS_ANT_I_CURRENT antenna) (Nat.min 255 milliamps)
      let high := if 80 < milliamps then aget 0 s.gns.antOver antenna + 1 else 0
      let u := { t with gns := { t.gns with antOver := aset t.gns.antOver antenna high } }
      if 80 < milliamps then
        if retry then u.setFld (F_GNS_ANT_I_CURRENT antenna) 0
        else if 2 ≤ high then
          (((({ u with gns := { u.gns with retryAt := aset u.gns.retryAt antenna u.tim.el } }).setFld (F_GNS_ANT_STATE antenna) 3).setFld (F_GNS_ANT_I_CURRENT antenna) 0).event F_GNS_EVENT_ANT_FAULT).raise 0x1102 (pay [antenna])
        else u.setFld (F_GNS_ANT_STATE antenna) 1
      else if milliamps < 2 then
        if st = 2 then u else ((u.setFld (F_GNS_ANT_STATE antenna) 2).event F_GNS_EVENT_ANT_FAULT).raise 0x1101 (pay [antenna])
      else u.setFld (F_GNS_ANT_STATE antenna) 1)

/-- ANTENNA_RETRY (R95): every 10 s a shorted supply is switched on for one measurement of 10 ms. -/
def execAntennaRetry (antenna : Nat) (s : State) : Host.Outcome State Fault Refusal :=
  .next (if s.antSupplied antenna && s.fld (F_GNS_ANT_STATE antenna) == 3 then
    let t := s.reachEl (aget 0 s.gns.retryAt antenna + 10 * sec)
    { t with gns := { t.gns with
      antRetry := insertNew t.gns.antRetry antenna, retryAt := aset t.gns.retryAt antenna t.tim.el, measAt := aset t.gns.measAt antenna t.tim.el } } else s)

/-- R98: the acquisition class of a signal, 0 for A to 7 for H. -/
def acqClass (sig : Nat) : Nat := [0, 3, 4, 5, 2, 5, 5, 6, 1, 3, 5, 5, 7, 7, 0, 3, 4, 5, 0, 0].getD sig 0

/-- R98: the RF path of a signal: 0 upper, 1 lower L-band. -/
def sigPath (sig : Nat) : Nat := [0, 0, 1, 1, 0, 1, 1, 1, 0, 0, 1, 1, 0, 1, 0, 0, 1, 1, 1, 0].getD sig 0

/-- R98: the system of a signal: 0 GPS, 1 Galileo, 2 BeiDou, 3 GLONASS, 4 QZSS, 5 NavIC, 6 SBAS. -/
def sigSystem (sig : Nat) : Nat := [0, 0, 0, 0, 1, 1, 1, 1, 2, 2, 2, 2, 3, 3, 4, 4, 4, 4, 5, 6].getD sig 0

/-- R98: the carrier of a signal in Hz, with k = `gloK` − 8 for GLONASS. -/
def carrierHz (sig gloK : Nat) : Int :=
  if sig = 12 then 1602000000 + 562500 * ((gloK : Int) - 8) else if sig = 13 then 1246000000 + 437500 * ((gloK : Int) - 8)
  else ([1575420000, 1575420000, 1227600000, 1176450000, 1575420000, 1176450000, 1207140000, 1278750000, 1561098000, 1575420000, 1176450000, 1268520000,
    0, 0, 1575420000, 1575420000, 1227600000, 1176450000, 1176450000, 1575420000] : List Int).getD sig 0

/-- R98: the chip rate of a signal in chips per second. -/
def chipHz (sig : Nat) : Nat :=
  [1023000, 1023000, 1023000, 10230000, 1023000, 10230000, 10230000, 5115000, 2046000, 1023000, 10230000, 10230000, 511000, 511000, 1023000, 1023000,
    1023000, 10230000, 1023000, 1023000].getD sig 0

/-- R96: the stream of a path of an antenna. -/
def streamOf (ant path : Nat) : Nat := 2 * ant + path

/-- R96: the mixing frequency and the passband of a path, in Hz. -/
def mixHz (path : Nat) : Int := if path = 0 then 1583000000 else 1232000000
def passband (path : Nat) : Int × Int := if path = 0 then (1559000000, 1610000000) else (1164000000, 1300000000)

/-- R98, R99: a satellite, by 64 × system + SV. -/
def satKey (sig sv : Nat) : Nat := 64 * sigSystem sig + sv

/-- R105: an acquisition class: rate in kHz, coherent time in ms, points of a block, bin spacing in Hz. -/
structure AcqClass where
  rateKhz : Nat
  coherentMs : Nat
  points : Nat
  binHz : Nat
  deriving DecidableEq, Repr

/-- R105: the acquisition classes A to H. -/
def acqClasses : List AcqClass :=
  [⟨2048, 1, 2048, 500⟩, ⟨4096, 1, 4096, 500⟩, ⟨4096, 4, 16384, 125⟩, ⟨2048, 10, 20480, 50⟩, ⟨1024, 20, 20480, 25⟩, ⟨20480, 1, 20480, 500⟩,
   ⟨10240, 1, 10240, 500⟩, ⟨1024, 1, 1024, 500⟩]

/-- R105: the class of a signal. -/
def classOf (sig : Nat) : AcqClass := acqClasses.getD (acqClass sig) ⟨0, 1, 1, 500⟩

/-- R123: the first byte of the acquisition area in the capture memory, and the bytes of it that each engine owns. -/
def acqAreaBase : Nat := 0x3A9800
def engineHalf : Nat := 177152

/-- R105: the largest N: the blocks that fit in half the acquisition area, at most 20. A point takes a byte. -/
def acqBlocks (sig : Nat) : Nat := Nat.min 20 (engineHalf / (classOf sig).points)

/-- R105: the Doppler bins of a search: ±5,000 Hz cold, ±500 Hz warm. -/
def acqBins (sig : Nat) (warm : Bool) : Nat := 2 * ((if warm then 500 else 5000) / (classOf sig).binHz) + 1

/-- R128: the rank of a signal on an antenna in GNS_PRIORITY, lowest first; none when no entry covers it. Without the parameter every enabled
signal ranks by its code, on every antenna in use. -/
def State.gnsRank (s : State) (sig ant : Nat) : Option Nat :=
  if !tbit (s.par 0x0601) sig || 20 ≤ sig || !s.antUsed ant then none
  else match afind s.pat.params 0x0607 with
    | none => some sig
    | some ws => (List.range ws.length).find? (fun k => bits (nthW ws k) 4 0 == sig && tbit (bits (nthW ws k) 11 8) ant)

/-- R95, R99, R128: the receiver may search for a triple. -/
def State.searchable (s : State) (t : Triple) : Bool := s.gnsRuns && 1 ≤ t.sv && t.sv ≤ 63 && (s.gnsRank t.sig t.ant).isSome

/-- R98, R113: GLO_K of a GLONASS satellite: k + 8, 1 to 14, which its frequency number gives; 0 for other systems. -/
def gloField (sig sv : Nat) : Nat := if sig = 12 || sig = 13 then (Config.calc .acquire [sig, sv] 0 % 14).toNat + 1 else 0

/-- R107: what a warm search of a satellite takes its Doppler from: time, position, and an ephemeris less than 2 h old. [Log 99, DESIGN CHOICE, unsafe] -/
def State.predictable (s : State) (key : Nat) : Bool :=
  s.gns.aiding.fixAt.isSome && (match afind s.gns.aiding.ephem key with
    | some e => decide (s.tim.el < e + 7200 * sec)
    | none => false)

/-- R107: the device can make a warm start: it holds time and position, and ephemerides less than 2 h old for at least four satellites. -/
def State.warmStart (s : State) : Bool := 4 ≤ (s.gns.aiding.ephem.filter (fun e => s.predictable e.1)).length

/-- ACQUISITION_SEARCH (R105, R106): a detection when the highest cell exceeds the mean by more than GNS_ACQ_THR. `peakOverMean` is in 0.1 dB; `bin` is the
Doppler bin of the highest cell. [Log 98, DESIGN CHOICE, unsafe] -/
def execAcquisitionSearchRuns (engine sig sv antenna blocks : Nat) (warm : Bool) (bin peakOverMean : Nat) (s : State) : Host.Outcome State Fault Refusal :=
  .next (
    let t : Triple := ⟨sig, sv, antenna, gloField sig sv⟩
    if 2 ≤ engine || !s.searchable t || blocks = 0 || acqBlocks sig < blocks || acqBins sig warm ≤ bin || (warm && !s.predictable (satKey sig sv)) then s
    else
      let d := if s.par 0x060C < peakOverMean then aset s.gns.detected engine ⟨t, blocks, warm, bin⟩ else adel s.gns.detected engine
      { s with gns := { s.gns with detected := d } })

/-- R100: the cluster of a channel. -/
def chanCluster (n : Nat) : Nat := if n < 256 then n / 32 else (n - 256) / 2

/-- The channel `n`; unlisted channels are unused. -/
def State.gchan (s : State) (n : Nat) : GChan := aget {} s.gns.chans n

/-- Set channel `n`, and NTRACK with it. -/
def State.setGchan (s : State) (n : Nat) (c : GChan) : State :=
  let l := if c = {} then adel s.gns.chans n else aset s.gns.chans n c
  { s with gns := { s.gns with chans := l } }.setFld F_GNS_STATUS_NTRACK (l.filter (fun (e : Nat × GChan) => e.2.st == 2)).length

/-- R102, R127: clusters 4 to 7 run only with the larger budget; while the ephemerides are renewed only cluster 0 runs. -/
def State.clusterRuns (s : State) (c : Nat) : Bool := s.gnsRuns && (if s.gns.renewing then c = 0 else c < 4 || !s.flag F_GNS_STATUS_BUDGET)

/-- R101: a channel can take a new triple: it is unused, in a running cluster, and no spare. -/
def State.chanFree (s : State) (n : Nat) : Bool := n < 256 && s.clusterRuns (chanCluster n) && s.gchan n == {}

/-- ACQUISITION_CONFIRM (R101, R106): the second dwell at the detected cell and its neighbours confirms; a confirmed triple is handed to a channel at the
next freeze. `elev` is the satellite's elevation in 0.1°. [Log 98, DESIGN CHOICE, unsafe] -/
def execAcquisitionConfirm (engine peakOverMean : Nat) (elev : Int) (s : State) : Host.Outcome State Fault Refusal :=
  .next (match afind s.gns.detected engine with
    | none => s
    | some d =>
      let t := { s with gns := { s.gns with detected := adel s.gns.detected engine } }
      if s.par 0x060C < peakOverMean then
        { t with gns := { t.gns with handed := t.gns.handed.filter (fun e => e.1 != d.triple) ++ [(d.triple, elev)],
                                     acq := t.gns.acq.filter (· != d.triple) } }
      else t)

/-- PULL_IN_LOCK (R109, R110): the code loop is in lock. -/
def execPullInLock (chan : Nat) (s : State) : Host.Outcome State Fault Refusal :=
  .next (let c := s.gchan chan
    if c.st = 1 then s.setGchan chan { c with st := 2, codeOk := true, lockAt := s.tim.el } else s)

/-- PHASE_LOCK_HELD (R110). -/
def execPhaseLockHeld (chan : Nat) (s : State) : Host.Outcome State Fault Refusal :=
  .next (let c := s.gchan chan
    if c.st = 2 then (s.reachEl (c.lockAt + 200 * ms)).setGchan chan { c with phaseOk := true } else s)

/-- HALF_CYCLE_RESOLVED (R110). -/
def execHalfCycleResolved (chan : Nat) (s : State) : Host.Outcome State Fault Refusal :=
  .next (let c := s.gchan chan
    if c.st = 2 then s.setGchan chan { c with halfRes := true } else s)

/-- TRANSMIT_TIME_RESOLVED (R110). -/
def execTransmitTimeResolved (chan : Nat) (s : State) : Host.Outcome State Fault Refusal :=
  .next (let c := s.gchan chan
    if c.st = 2 then s.setGchan chan { c with towOk := true } else s)

/-- LOCK_LOSS (R101, R109): the channel is released at the next freeze, which returns its triple to acquisition. -/
def execLockLoss (chan : Nat) (s : State) : Host.Outcome State Fault Refusal :=
  .next (let c := s.gchan chan
    if c.st = 2 then s.setGchan chan { c with lost := true } else s)

/-- CYCLE_SLIP (R110). -/
def execCycleSlip (chan : Nat) (s : State) : Host.Outcome State Fault Refusal :=
  .next (let c := s.gchan chan
    if c.st = 2 then s.setGchan chan { c with slip := true, slipCnt := (c.slipCnt + 1) % 256 } else s)

/-- R111: what a channel latches; what no latch of the command gives is a free value. [Log 35, DESIGN CHOICE, safe] -/
def latchOf (l : List ChannelLatch) (n epoch : Nat) : ChannelLatch :=
  match l.find? (fun x => x.chan = n) with
  | some x => x
  | none =>
    let c := Config.calc .measure [n, epoch]
    ⟨n, c 0, (c 1).toNat, (c 2).toNat, c 3, c 4, c 5⟩

/-- R110, R114: TX_TIME, in 2⁻³² ms, is counted modulo the week, or the day for GLONASS, once TOW_OK is 1, and before modulo the code period, which is the
coherent time of the signal's class. [Log 99, DESIGN CHOICE, unsafe] -/
def txTime (c : GChan) (raw : Nat) : Nat :=
  raw % ((if !c.towOk then (classOf c.triple.sig).coherentMs else if c.triple.sig = 12 || c.triple.sig = 13 then 86400000 else 604800000) * 4294967296)

/-- R114: an active notch lies within the signal's main lobe on its stream: the chip rate to either side of the carrier. The centre of a notch counts from
the mixing frequency in 120 MHz / 2²⁴. [Log 99, DESIGN CHOICE, unsafe] -/
def State.notched (s : State) (t : Triple) : Bool :=
  let path := sigPath t.sig
  (List.range 4).any (fun k => match afind s.gns.notches (4 * streamOf t.ant path + k) with
    | some n => (n.freq * 120000000 + (mixHz path - carrierHz t.sig t.gloK) * 16777216).natAbs ≤ chipHz t.sig * 16777216
    | none => false)

/-- R114: word 1 of a record. -/
def recWord1 (c : GChan) (l : ChannelLatch) (notch : Bool) (el : Nat) : Word :=
  BitVec.ofNat 32 (Nat.min l.cn0 1023 + 1024 * bit c.codeOk + 2048 * bit c.phaseOk + 4096 * bit c.halfRes + 8192 * bit c.slip +
    16384 * bit c.suspect + 32768 * bit notch + 65536 * Nat.min 255 ((el - c.lockAt) / sec) + 16777216 * c.slipCnt)

/-- R114: the record of channel `n`. -/
def gnsRecord (n : Nat) (c : GChan) (l : ChannelLatch) (notch : Bool) (el : Nat) : List Word :=
  [BitVec.ofNat 32 (n + 512 * c.triple.sig + 16384 * c.triple.ant + 65536 * c.triple.sv + 4194304 * c.triple.gloK + 67108864 * bit c.towOk),
   recWord1 c l notch el] ++ twoWords (txTime c l.txTime) ++ [intWord l.adr, intWord (l.adr / 4294967296), intWord l.doppler,
   BitVec.ofNat 32 ((intWord l.mp).toNat % 65536)]

/-- The channels in tracking state, in ascending order. -/
def State.tracking (s : State) : List Nat := (List.range 272).filter (fun n => (s.gchan n).st == 2)

/-- R113: the measurement block that the freeze latches. [Log 35, DESIGN CHOICE, safe] -/
def State.measurementBlock (s : State) (l : List ChannelLatch) : List Word :=
  let recs := s.tracking.flatMap (fun n => gnsRecord n (s.gchan n) (latchOf l n s.dev.stateEp) (s.notched (s.gchan n).triple) s.tim.el)
  let head := [toWord s.dev.stateEp] ++ twoWords s.dev.freezeAt ++ [halves s.tracking.length (sideCode s.pins.side)] ++
    s.regRun (A_GNS_STREAM 0) 8 ++ List.replicate 3 0#32
  head ++ [crcWords (head ++ recs)] ++ recs

/-- R129: the registers of channel `n` at a freeze; `latched`: the freeze latches the channel (R111). -/
def State.showChan (s : State) (latched : Bool) (l : List ChannelLatch) (n : Nat) : State :=
  let c := s.gchan n
  let t := s.setReg (A_GNS_CH_CFG n) (BitVec.ofNat 32 (c.st * 16777216 + c.triple.gloK * 16384 + c.triple.sv * 256 + c.triple.ant * 32 + c.triple.sig))
  let u := if 1 ≤ c.st && c.st ≤ 3 then t.setReg (A_GNS_CH_TAPS n) (quarters (s.par 0x060B) 32 0xF4 12) else t
  if c.st = 2 && latched then
    let x := latchOf l n s.dev.stateEp
    (u.setReg (A_GNS_CH_STAT n) (recWord1 c x (s.notched c.triple) s.tim.el)).setReg (A_GNS_CH_DOP n) (intWord x.doppler)
  else u

/-- R101: a satellite 2° below the mask is released at the freeze, after its last record. -/
def State.releaseLow (s : State) (l : List ChannelLatch) : State :=
  s.each s.tracking (fun t n => if (latchOf l n s.dev.stateEp).elev < (s.par 0x0606 : Int) - 20 then t.setGchan n {} else t)

/-- R102: modes Economy and Joystick run 128 channels. -/
def smallBudget (mode : Nat) : Bool := mode == 2 || mode == 6

/-- R109: a channel that has lost lock is released at the freeze, after its last record, and its triple returns to acquisition. -/
def State.releaseLost (s : State) : State :=
  s.each (s.tracking.filter (fun n => (s.gchan n).lost)) (fun t n =>
    let c := t.gchan n
    let u := t.setGchan n (if n < 256 then {} else { st := 4 })
    { u with gns := { u.gns with acq := u.gns.acq.filter (· != c.triple) ++ [c.triple] } })

/-- R102: the rank of a triple, behind every entry when none covers it. -/
def State.tripleRank (s : State) (t : Triple) : Nat := (s.gnsRank t.sig t.ant).getD 100

/-- R102: the rank of a channel's triple. [Log 37, DEDUCED, unsafe] -/
def State.chanRank (s : State) (n : Nat) : Nat := s.tripleRank (s.gchan n).triple

/-- A channel works on a triple: it is in pull-in or tracks. -/
def State.chanBusy (s : State) (n : Nat) : Bool := (s.gchan n).st == 1 || (s.gchan n).st == 2

/-- The channels of clusters 0 to 3 and of clusters 4 to 7, spares last. -/
def lowerChannels : List Nat := List.range 128 ++ (List.range 8).map (· + 256)
def upperChannels : List Nat := (List.range 128).map (· + 128) ++ (List.range 8).map (· + 264)

/-- R102: the channel of clusters 0 to 3 that a triple of rank `r` displaces: the one of the lowest rank, if it ranks lower. [Log 37, DEDUCED, unsafe] -/
def State.displaced (s : State) (r : Nat) : Option Nat :=
  let worst := (lowerChannels.filter s.chanBusy).foldl (fun (b : Option Nat) n => match b with
    | none => some n
    | some m => if s.chanRank m < s.chanRank n then some n else some m) none
  match worst with
  | some n => if r < s.chanRank n then some n else none
  | none => none

/-- R102: the triple of a channel that loses its cluster displaces one of a lower rank, and starts a warm acquisition. [Log 99, DESIGN CHOICE, unsafe] -/
def State.moveTriple (s : State) (n : Nat) : State :=
  match s.displaced (s.chanRank n) with
  | some m =>
    let t := s.setGchan m (if m < 256 then {} else { st := 4 })
    { t with gns := { t.gns with acq := t.gns.acq ++ [(s.gchan n).triple] } }
  | none => s

/-- R102: the channels of clusters 4 to 7 that hold a triple, the highest rank first, the lower channel first within a rank. [Log 99, DESIGN CHOICE, unsafe] -/
def State.upperByRank (s : State) : List Nat :=
  (sortNat ((upperChannels.filter s.chanBusy).map (fun n => 512 * s.chanRank n + n))).map (· % 512)

/-- A channel that carries no triple, as its cluster's power and its own retirement leave it: 5 retired, 6 powered down, 4 a spare, 0 unused. -/
def State.idleChan (s : State) (n : Nat) : GChan :=
  if s.mram.riserChannels.contains n then { st := 5 }
  else if !s.clusterRuns (chanCluster n) then { st := 6 }
  else if 256 ≤ n then { st := 4 } else {}

/-- R102: the channel budget follows the mode at a freeze. -/
def State.setBudget (s : State) : State :=
  let small := smallBudget s.dev.mode
  if small = s.flag F_GNS_STATUS_BUDGET then s
  else
    let t := if small then s.each s.upperByRank State.moveTriple else s
    let u := t.setFlag F_GNS_STATUS_BUDGET small
    u.each upperChannels (fun v n => v.setGchan n (v.idleChan n))

/-- R101: `a` is assigned before `b`: the earlier entry of GNS_PRIORITY, and within an entry the higher satellite. -/
def State.assignedBefore (s : State) (a b : Triple × Int) : Bool :=
  if s.tripleRank a.1 != s.tripleRank b.1 then s.tripleRank a.1 < s.tripleRank b.1 else b.2 < a.2

/-- R101: insert a triple into a list in the order of assignment. -/
def State.insertHanded (s : State) (a : Triple × Int) : List (Triple × Int) → List (Triple × Int)
  | [] => [a]
  | b :: l => if s.assignedBefore a b then a :: b :: l else b :: s.insertHanded a l

/-- R101: one triple takes the lowest free channel, in pull-in; one below the mask or without a channel goes back to acquisition. [Log 99, DESIGN CHOICE, unsafe] -/
def State.assign (s : State) (e : Triple × Int) : State :=
  match (if (s.par 0x0606 : Int) ≤ e.2 then (List.range 256).find? s.chanFree else none) with
  | some n => s.setGchan n { st := 1, triple := e.1 }
  | none => { s with gns := { s.gns with acq := s.gns.acq.filter (· != e.1) ++ [e.1] } }

/-- R101: triples that acquisition handed over take their channels at the freeze. -/
def State.takeHanded (s : State) : State :=
  let l := s.gns.handed.foldl (fun a e => s.insertHanded e a) []
  l.foldl State.assign { s with gns := { s.gns with handed := [] } }

/-- R100: the spares of a cluster that can take a shadow: powered, not retired, without a triple of their own. -/
def State.shadowSpares (s : State) (c : Nat) : List Nat :=
  [256 + 2 * c, 257 + 2 * c].filter (fun n => (s.gchan n).st == 4 || (s.gchan n).st == 3)

/-- R472: the channel of a cluster to be tested next: the next of its 32 that tracks. -/
def State.shadowed (s : State) (c : Nat) : Option Nat :=
  let k := aget 0 s.hlt.shadowNext c
  ((List.range 32).map (fun i => 32 * c + (k + i) % 32)).find? (fun n => (s.gchan n).st == 2)

/-- R103: a spare holds the state of the channel that it shadows; its records are not delivered. -/
def State.holdShadow (s : State) (n spare : Nat) : State := s.setGchan spare { s.gchan n with st := 3 }

/-- R103, R478: the shadow of a cluster at an epoch: its first spare, and after a mismatch its second too, track the triple of the channel under test. A
cluster without a test starts one when a channel tracks. -/
def State.shadowCluster (s : State) (c : Nat) : State :=
  match afind s.hlt.shadowOf c, s.shadowSpares c with
  | _, [] => s
  | some n, s1 :: l =>
    if (s.gchan n).st != 2 then s
    else
      let t := s.holdShadow n s1
      if (afind s.hlt.shadowVote c).isSome then t.each (l.take 1) (fun u k => u.holdShadow n k) else t
  | none, s1 :: _ =>
    match s.shadowed c with
    | none => s
    | some n => { s with hlt := { s.hlt with shadowOf := aset s.hlt.shadowOf c n, shadowAt := aset s.hlt.shadowAt c s.tim.el } }.holdShadow n s1

/-- R111: tracking powers up with the first cycle, or after PARKED; the warm start of R107 holds what the device kept. [Log 15, DEDUCED, unsafe] -/
def State.gnsPowerUp (s : State) : State :=
  if !s.hasGnss || (s.gnsRuns && !s.gns.renewing) then s
  else
    let t := (s.setFlag F_GNS_STATUS_RUN true).setFlag F_GNS_STATUS_BUDGET (smallBudget s.dev.mode)
    let u := { t with gns := { t.gns with renewing := false, runAt := if s.gnsRuns then t.gns.runAt else t.tim.el } }
    u.each ((List.range 272).filter (fun n => (u.gchan n).st == 0 || (u.gchan n).st == 6)) (fun v n => v.setGchan n (v.idleChan n))

/-- R73 T5, R127: tracking powers down and the ring stops. [Log 15, DEDUCED, unsafe] -/
def State.gnsPowerDown (s : State) : State :=
  let t := s.setFlag F_GNS_STATUS_RUN false
  let u := { t with gns := { t.gns with acq := [], detected := [], handed := [], notches := [], lines := [], capture := none, parkFails := 0, parkCheckAt := t.tim.el, renewAt := t.tim.el } }
  let x := { u with hlt := { u.hlt with shadowOf := [], shadowVote := [] } }
  let v := x.each (List.range 272) (fun w n => w.setGchan n (if w.mram.riserChannels.contains n then { st := 5 } else { st := 6 }))
  (v.setFlag F_GNS_SNAP_CTRL_CAPTURING false).each (List.range 8) (fun w n =>
    (w.setFld (F_GNS_STREAM_NOTCHES n) 0).each (List.range 4) (fun x k => x.setReg (A_GNS_NOTCH n k) 0#32))

/-- R101, R102, R103: assignments, the budget and shadows change at a freeze. `latched`: the freeze latched the channels. -/
def State.assignFreeze (s : State) (latched : Bool) (l : List ChannelLatch) : State :=
  let t := if latched then (s.releaseLow l).releaseLost.setBudget else s.releaseLost
  t.takeHanded.each (List.range 8) State.shadowCluster

/-- R111, R113, R129: outside PARKED a freeze latches every tracking channel; then assignments change. The channel registers show the freeze in every state. -/
def State.gnssFreeze (s : State) (l : List ChannelLatch) : State :=
  let latched := s.gnsRuns && s.dev.st != .parked
  let t := { s with gns := { s.gns with block := if latched then s.measurementBlock l else [], blockDone := false } }
  if !s.hasGnss then t
  else
    let shown := t.each (List.range 272) (fun v n => v.showChan latched l n)
    if s.gnsRuns then
      (if latched then shown.each s.tracking (fun v n => v.setGchan n { v.gchan n with slip := false }) else shown).assignFreeze latched l
    else shown

/-- MEASUREMENT_BLOCK_WRITE (R112): the block of the epoch is complete in SRAM and becomes an item. -/
def execMeasurementBlockWrite (stamp : Nat) (s : State) : Host.Outcome State Fault Refusal :=
  .next (if s.gns.block.isEmpty || s.gns.blockDone then s
    else
      let t := (s.reach stamp)
      { t with gns := { t.gns with blockDone := true } }.ownItem 3 0 t.dev.freezeAt t.dev.freezeAt t.gns.block)

/-- R118: two centre frequencies belong to one line: they lie within half the −3 dB width of a notch (100 kHz in the unit of GNS_NOTCH.FREQ). [Log 34, DEDUCED, unsafe] -/
def sameLine (a b : Int) : Bool := (a - b).natAbs ≤ 13981

/-- The notches of a stream, by key 4 × stream + notch. -/
def State.notchOf (s : State) (stream k : Nat) : Option Notch := afind s.gns.notches (4 * stream + k)

/-- R118: bring the registers of a notch and the mask of its stream up to date. [Log 34, DEDUCED, unsafe] -/
def State.showNotch (s : State) (stream k : Nat) : State :=
  match s.notchOf stream k with
  | some n =>
    let depth := Nat.max 30 (Nat.min 63 (Config.calc .spectrum [n.freq, n.strength] 0).toNat)
    (((s.setInt (F_GNS_NOTCH_FREQ stream k) n.freq).setFld (F_GNS_NOTCH_DEPTH stream k) depth).setFlag (F_GNS_NOTCH_ON stream k) true).setFlag
      (bitAt (A_GNS_STREAM stream) (16 + k)) true
  | none => (s.setReg (A_GNS_NOTCH stream k) 0#32).setFlag (bitAt (A_GNS_STREAM stream) (16 + k)) false

/-- R118: the notch takes a line. -/
def State.engageNotch (s : State) (stream k : Nat) (line : Int × Nat) : State :=
  let t := ({ s with gns := { s.gns with notches := aset s.gns.notches (4 * stream + k) ⟨line.2, line.1, s.tim.el⟩ } }).showNotch stream k
  (t.event F_GNS_EVENT_NOTCH_ON).raise 0x1103 [toWord stream, intWord line.1]

/-- R118: a line less than 3 dB below the threshold holds its notch. -/
def State.holdsNotch (s : State) (height : Nat) : Bool := s.par 0x060D < height + 30

/-- R118: a notch follows its line, by at most 2 MHz/s, that is 20 kHz in 10 ms. -/
def State.followLine (s : State) (stream : Nat) (lines : List (Int × Nat)) (k : Nat) : State :=
  match s.notchOf stream k with
  | none => s
  | some n =>
    match lines.find? (fun l => sameLine l.1 n.freq) with
    | none => s
    | some l =>
      let new : Notch := ⟨l.2, n.freq + clampI (-2796) 2796 (l.1 - n.freq), if s.holdsNotch l.2 then s.tim.el else n.seenAt⟩
      ({ s with gns := { s.gns with notches := aset s.gns.notches (4 * stream + k) new } }).showNotch stream k

/-- R118: the weakest notched line of a stream: its notch and strength. -/
def State.weakestNotch (s : State) (stream : Nat) : Nat × Nat :=
  (List.range 4).foldl (fun (b : Nat × Nat) k => match s.notchOf stream k with
    | some n => if n.strength < b.2 then (k, n.strength) else b
    | none => b) (0, 1000000)

/-- R118: a line that qualifies engages a free notch, or takes the notch of the weakest line if it is at least 3 dB stronger. [Log 34, DEDUCED, unsafe] -/
def State.qualifyLine (s : State) (stream : Nat) (line : Int × Nat) : State :=
  if (List.range 4).any (fun k => match s.notchOf stream k with
      | some n => sameLine n.freq line.1
      | none => false) then s
  else match (List.range 4).find? (fun k => (s.notchOf stream k).isNone) with
    | some k => s.engageNotch stream k line
    | none => let w := s.weakestNotch stream; if w.2 + 30 ≤ line.2 then s.engageNotch stream w.1 line else s

/-- R119: the rise of the noise floor of a stream, 0.1 dB. -/
def State.noiseRise (s : State) (n : Nat) : Nat := s.fld (F_GNS_STREAM_NOISE_RISE n)

/-- R118: the next average of a stream ends 10 ms after the one before. -/
def State.nextAverage (s : State) (stream : Nat) : State :=
  let t := match afind s.gns.avgAt stream with
    | some e => s.reachEl (e + 10 * ms)
    | none => s
  { t with gns := { t.gns with avgAt := aset t.gns.avgAt stream t.tim.el } }

/-- SPECTRUM_AVERAGE (R118, R119): `lines` are centres with their height above the median bin, `noise` the wideband floor, both in 0.1 dB. -/
def execSpectrumAverage (stream : Nat) (lines : List (Int × Nat)) (noise agc : Nat) (s : State) : Host.Outcome State Fault Refusal :=
  .next (if !s.gnsRuns || 8 ≤ stream then s
    else
      let thr := s.par 0x060D
      let high := lines.filter (fun l => thr ≤ l.2)
      let prev := aget [] s.gns.lines stream
      let r := s.nextAverage stream
      let t := r.each (List.range 4) (fun u k => u.followLine stream lines k)
      let v := (high.filter (fun l => prev.any (fun p => sameLine p.1 l.1))).foldl (fun u l => State.qualifyLine u stream l) t
      let w := { v with gns := { v.gns with lines := aset v.gns.lines stream high } }
      let rise : Nat := if w.gns.noiseRef.isEmpty then 0 else Nat.min 255 (noise - nth w.gns.noiseRef stream)
      let y := if w.par 0x060E ≤ rise then { w with gns := { w.gns with jamAt := w.tim.el } } else w
      let x := (y.setFld (F_GNS_STREAM_NOISE_RISE stream) rise).setFld (F_GNS_STREAM_AGC_GAIN stream) (Nat.min 255 agc)
      if x.par 0x060E < rise && !x.flag F_GNS_STATUS_JAM then
        ((x.setFlag F_GNS_STATUS_JAM true).event F_GNS_EVENT_JAM_EVT).raise 0x1104
      else x)

/-- NOTCH_RELEASE (R118): the line has stayed 3 dB below the threshold for 1 s. -/
def execNotchRelease (stream notch : Nat) (s : State) : Host.Outcome State Fault Refusal :=
  .next (match s.notchOf stream notch with
    | some n =>
      if notch < 4 then
        let t := s.reachEl (n.seenAt + sec)
        ({ t with gns := { t.gns with notches := adel t.gns.notches (4 * stream + notch) } }).showNotch stream notch
      else s
    | none => s)

/-- NOISE_FLOOR_LEARNED (R119): once, after the first 60 s of tracking. [Log 98, DESIGN CHOICE, unsafe] -/
def execNoiseFloorLearned (floors : List Nat) (s : State) : Host.Outcome State Fault Refusal :=
  .next (if s.gnsRuns && s.gns.noiseRef.isEmpty then
    let t := s.reachEl (s.gns.runAt + 60 * sec)
    { t with gns := { t.gns with noiseRef := floors } } else s)

/-- JAM_CLEAR (R119): every rise has stayed below the threshold for 10 s. -/
def execJamClear (s : State) : Host.Outcome State Fault Refusal :=
  .next (if s.flag F_GNS_STATUS_JAM && (List.range 8).all (fun n => s.noiseRise n < s.par 0x060E) then
    ((s.reachEl (s.gns.jamAt + 10 * sec)).setFlag F_GNS_STATUS_JAM false).causeGone 0x1104 else s)

/-- GNS_CHECK.NSUSPECT. [Log 36, DEDUCED, unsafe] -/
def State.countSuspects (s : State) : State :=
  s.setFld F_GNS_CHECK_NSUSPECT (Nat.min 255 (s.gns.chans.filter (fun e => e.2.suspect)).length)

/-- R121: the mark of a channel is cleared. -/
def State.clearSuspect (s : State) (chan : Nat) : State := (s.setGchan chan { s.gchan chan with suspect := false }).countSuspects

/-- R8: fusion of the cycle that freezes at working time `t` is still to come: what expires at `t` waits for the events of that epoch. -/
def State.judgedLater (s : State) (t : Nat) : Bool :=
  s.fullCycle && (t == s.dev.nextFreeze || (decide (t ≤ s.dev.freezeAt) && !s.dev.stepsDone.contains 2 && !s.dev.stepsLate.contains 2))

/-- SUSPECT_CLEAR (R121): the check has passed for 10 s; the epoch in which they end still counts (R8). -/
def execSuspectClear (chan : Nat) (s : State) : Host.Outcome State Fault Refusal :=
  .next (let c := s.gchan chan
    if c.suspect then
      let t := s.reach (c.failedAt + 10 * sec)
      if t.judgedLater (c.failedAt + 10 * sec) then t else t.clearSuspect chan
    else s)

/-- R122: this side's receiver is under suspicion, or the other side's. -/
def State.suspected (s : State) (side : Side) : Bool := s.gns.chk.suspicion.contains (sideCode side)

/-- R122: the working time at which the suspicion of a side ends: GNS_SPOOF_CLEAR_S after the last epoch in which a receiver-level check failed. -/
def State.suspicionEnd (s : State) (side : Side) : Nat := aget 0 s.gns.chk.rxFailAt (sideCode side) + s.par 0x0617 * sec

/-- R122: the suspicion of a side clears, and the device records it. -/
def State.clearSuspicion (s : State) (side : Side) : State :=
  let t := { s with gns := { s.gns with chk := { s.gns.chk with suspicion := remove s.gns.chk.suspicion (sideCode side) } } }
  let u := t.setFlag F_GNS_STATUS_SPOOF (t.suspected t.pins.side)
  let v := u.record 0x1109 1 (pay [sideCode side])
  if v.gns.chk.suspicion.isEmpty then v.causeGone 0x1109 else v

/-- SUSPICION_CLEAR (R122): a receiver-level check that fails in the epoch in which the interval ends prevents it (R8). [Log 36, DEDUCED, unsafe] -/
def execSuspicionClear (side : Side) (s : State) : Host.Outcome State Fault Refusal :=
  .next (if s.suspected side then
      let t := s.reach (s.suspicionEnd side)
      if t.judgedLater (s.suspicionEnd side) then t else t.clearSuspicion side
    else s)

/-- R124, R128: the ring runs: outside BOOT and PARKED, in a device with a GNSS section. -/
def State.ringRuns (s : State) : Bool := s.hasGnss && s.dev.st != .parked && s.dev.st != .boot

/-- R125: a trigger finds a snapshot held. [Log 36, DEDUCED, unsafe] -/
def State.snapMissed (s : State) : State :=
  ((s.bump F_GNS_SNAP_MISS_MISSED).event F_GNS_EVENT_SNAP_MISSED).raise 0x110B

/-- R124: start a capture at working time `t`. -/
def State.startCapture (s : State) (cause t : Nat) : State :=
  { s with gns := { s.gns with capture := some ⟨cause, t, t - s.par 0x0619 * ms, 120000 * s.par 0x0618, s.dev.stateEp, s.reg A_GNS_CHECK⟩ } }.setFlag
    F_GNS_SNAP_CTRL_CAPTURING true

/-- R124, R125: a trigger at working time `t`. One that arrives while a capture completes has no effect. [Log 36, DEDUCED, unsafe] -/
def State.snapTrigger (s : State) (cause t : Nat) : State :=
  if s.gns.held.isSome then s.snapMissed
  else if !s.ringRuns || s.gns.capture.isSome then s
  else s.startCapture cause t

/-- R125: a release frees the snapshot area and restarts the ring. -/
def State.snapRelease (s : State) : State :=
  { s with gns := { s.gns with held := none, samples := [] } }.setFlag F_GNS_SNAP_CTRL_HELD false

/-- A write of GNS_SNAP_CTRL (R124, R125): a trigger and a release in one write act together: HELD stays 1 and SNAP_ID increases. -/
def State.snapWrite (s : State) (v : Word) : State :=
  let trig := tbit v.toNat 0
  let rel := tbit v.toNat 1
  if trig && rel && s.gns.held.isSome && s.ringRuns then
    let t := { s with gns := { s.gns with held := none, samples := [], countedTwice := true } }.startCapture 2 s.tim.wt
    t.setFld F_GNS_SNAP_CTRL_SNAP_ID (t.fld F_GNS_SNAP_CTRL_SNAP_ID + 1)
  else if rel then
    let t := if s.gns.held.isSome then s.snapRelease else s
    if trig then t.snapTrigger 2 t.tim.wt else t
  else if trig then s.snapTrigger 2 s.tim.wt else s

/-- SNAPSHOT_TRIGGER (R124). -/
def execSnapshotTrigger (master : Nat) (s : State) : Host.Outcome State Fault Refusal :=
  .next (s.commandWrite master A_GNS_SNAP_CTRL 1#32 (fun t => t.snapWrite 1#32))

/-- SNAPSHOT_RELEASE (R125). -/
def execSnapshotRelease (master : Nat) (s : State) : Host.Outcome State Fault Refusal :=
  .next (s.commandWrite master A_GNS_SNAP_CTRL 2#32 (fun t => t.snapWrite 2#32))

/-- R96: the 2-bit code of a sample value: 0 for +1, 1 for +3, 2 for −1, 3 for −3. -/
def sampleCode (v : Int) : Nat := if v = 1 then 0 else if v = 3 then 1 else if v = -1 then 2 else 3

/-- R123: the snapshot area of the capture memory, in bytes from its start. -/
def snapAreaBytes : Nat := 3840000

/-- R123, R126: the word of the snapshot image in which sample `k` of a stream of `nsamp` samples stands. -/
def sampleWord (nsamp stream k : Nat) : Nat := 16 + stream * (nsamp / 8) + k / 8

/-- R123: a sample takes 4 bits, I in bits [1:0] and Q in bits [3:2], the earlier sample of a byte in its low nibble. -/
def packSample (nsamp : Nat) (m : Sparse 32) (x : IqSample) : Sparse 32 :=
  if x.stream < 8 && x.index < nsamp then
    let j := sampleWord nsamp x.stream x.index
    let lo := 4 * (x.index % 8)
    memSet zeroCell m j (fieldIn (memGet zeroCell m j) ⟨0, lo + 3, lo⟩ (sampleCode x.i + 4 * sampleCode x.q))
  else m

/-- SNAPSHOT_HELD (R124): the post-trigger time has passed. `samples` are samples of the eight streams as the ring holds them; what is not listed reads
as 0. [Log 36, DEDUCED, unsafe] -/
def execSnapshotHeld (samples : List IqSample) (s : State) : Host.Outcome State Fault Refusal :=
  .next (match s.gns.capture with
    | none => s
    | some c =>
      let t := s.reach (c.firstT + c.nsamp / 120000 * ms)
      let u := { t with gns := { t.gns with capture := none, held := some c, countedTwice := false, samples := samples.foldl (packSample c.nsamp) [] } }
      let v := if t.gns.countedTwice then u else u.setFld F_GNS_SNAP_CTRL_SNAP_ID (u.fld F_GNS_SNAP_CTRL_SNAP_ID + 1)
      (((v.setFlag F_GNS_SNAP_CTRL_CAPTURING false).setFlag F_GNS_SNAP_CTRL_HELD true).event F_GNS_EVENT_SNAP_DONE).raise 0x110A
        (pay [c.cause]))

/-- R126: the first 15 words of a snapshot's header. -/
def State.snapHeader (s : State) (c : Snapshot) : List Word :=
  [0x31504E53#32, BitVec.ofNat 32 (s.fld F_GNS_SNAP_CTRL_SNAP_ID + 65536 * c.cause + 16777216 * sideCode s.pins.side)] ++ twoWords c.trigT ++
  twoWords c.firstT ++ [toWord c.nsamp, toWord c.epoch, c.checks, toWord 1583000000, toWord 1232000000] ++ List.replicate 4 0#32

/-- R126: word `j` of the snapshot image: header, then 8 streams of NSAMP half bytes; 0 beyond it and while none is held. -/
def State.snapWord (s : State) (j : Nat) : Word :=
  match s.gns.held with
  | none => 0#32
  | some c =>
    if j < 15 then nthW (s.snapHeader c) j
    else if j = 15 then crcWords (s.snapHeader c ++ (List.range c.nsamp).map (fun k => memGet zeroCell s.gns.samples (k + 16)))
    else if j < 16 + c.nsamp then memGet zeroCell s.gns.samples j else 0#32

/-- PARK_POSITION_CHECK (R127): every 10 s in PARKED, except while the ephemerides are renewed. -/
def execParkPositionCheck (satellites distanceM : Nat) (s : State) : Host.Outcome State Fault Refusal :=
  .next (if s.dev.st != .parked || s.gns.renewing || !s.hasGnss then s
    else
    let r0 := s.reachEl (s.gns.parkCheckAt + 10 * sec)
    let r := { r0 with gns := { r0.gns with parkCheckAt := r0.tim.el } }
    if satellites < 5 then
      let n := r.gns.parkFails + 1
      let t := { r with gns := { r.gns with parkFails := n } }
      if n = 6 then (t.event F_GNS_EVENT_PARK_CHK).raise 0x1110 else t
    else
      let t := ({ r with gns := { r.gns with parkFails := 0 } }).causeGone 0x1110
      if s.par 0x061B < distanceM then (t.event F_GNS_EVENT_PARK_CHK).raise 0x110F else t.causeGone 0x110F)

/-- EPHEMERIS_RENEWAL (R127): every 2 h in PARKED cluster 0 is powered. -/
def execEphemerisRenewal (s : State) : Host.Outcome State Fault Refusal :=
  .next (if s.dev.st != .parked || !s.hasGnss || s.gns.renewing then s
    else
      let r := s.reachEl (s.gns.renewAt + 7200 * sec)
      let t := ({ r with gns := { r.gns with renewing := true, renewAt := r.tim.el } }).setFlag F_GNS_STATUS_RUN true
      let u := t.setFlag F_GNS_STATUS_BUDGET true
      u.each (List.range 32 ++ [256, 257]) (fun v n => v.setGchan n (v.idleChan n)))

/-- R107: ephemerides decoded now. -/
def State.noteEphemerides (s : State) (keys : List Nat) : State :=
  { s with gns := { s.gns with aiding := { s.gns.aiding with ephem := keys.foldl (fun l k => aset l k s.tim.el) s.gns.aiding.ephem } } }

/-- A channel tracks the satellite of a key. -/
def State.tracksSat (s : State) (key : Nat) : Bool := s.tracking.any (fun n => satKey (s.gchan n).triple.sig (s.gchan n).triple.sv == key)

/-- EPHEMERIS_RENEWAL_END (R107, R127): the ephemerides decoded from the satellites that cluster 0 tracks are kept, and it powers down again. -/
def execEphemerisRenewalEnds (sats : List Nat) (s : State) : Host.Outcome State Fault Refusal :=
  .next (if s.gns.renewing then
    let n := s.gns.parkFails
    let t := s.noteEphemerides (sats.filter s.tracksSat)
    let u := ({ t with gns := { t.gns with renewing := false } }).gnsPowerDown
    { u with gns := { u.gns with parkFails := n, renewAt := s.gns.renewAt } } else s)

/-- R474: retire channel `n`: the map is written, and the alarms of its cluster are raised. -/
def State.retireChannel (s : State) (n : Nat) : State :=
  let t := (({ s with mram := { s.mram with riserChannels := insertNew s.mram.riserChannels n } }).countRetired (keyChannel n)).setGchan n { st := 5 }
  let u := (t.event F_GNS_EVENT_CH_RETIRED).raise 0x110D
  if (u.shadowSpares (chanCluster n)).isEmpty then u.raise 0x110E else u

/-- R103: the spare that shadowed channel `n` continues its work, without a slip. -/
def State.spareContinues (s : State) (n spare : Nat) : State := (s.setGchan spare (s.gchan n)).retireChannel n

/-- R103: the shadow of a cluster has ended: its spares are idle again. -/
def State.endShadow (s : State) (c : Nat) : State :=
  let t := { s with hlt := { s.hlt with shadowOf := adel s.hlt.shadowOf c, shadowVote := adel s.hlt.shadowVote c } }
  t.each (t.shadowSpares c) (fun u k => u.setGchan k { st := 4 })

/-- R478: the vote of A, the channel `n` under test, S, the spare that shadows it, and S2, the cluster's second spare: the one that differs from the other
two is retired; when all differ, or S agrees with S2 alone, that is A, and S continues. -/
def State.shadowVerdict (s : State) (n s1 : Nat) (others : List Nat) (sameAS sameAS2 : Bool) : State :=
  match others with
  | [] => s.spareContinues n s1
  | s2 :: _ => if sameAS && sameAS2 then s else if sameAS then s.retireChannel s2 else if sameAS2 then s.retireChannel s1 else s.spareContinues n s1

/-- CHANNEL_SHADOW_END (R103, R472, R478): after a mismatch the cluster's second spare shadows too, and the three vote. A shadow of a channel that has lost
lock, or works on another triple by now, ends without a verdict. [Log 37, DEDUCED, unsafe] -/
def execChannelShadowEnd (cluster : Nat) (sameAS sameAS2 _sameSS2 : Bool) (s : State) : Host.Outcome State Fault Refusal :=
  .next (match afind s.hlt.shadowOf cluster, s.shadowSpares cluster with
    | some n, s1 :: others =>
      let r := s.reachEl (aget 0 s.hlt.shadowAt cluster + sec)
      let t := { r with hlt := { s.hlt with shadowChan := n, shadowNext := aset s.hlt.shadowNext cluster ((n + 1) % 32) } }
      if (s.gchan n).st != 2 || (s.gchan n).lost || (s.gchan n).triple != (s.gchan s1).triple then t.endShadow cluster
      else if (afind s.hlt.shadowVote cluster).isSome then (t.shadowVerdict n s1 others sameAS sameAS2).endShadow cluster
      else if sameAS then t.endShadow cluster
      else
        let u := { t with hlt := { t.hlt with shadowMism := Nat.min 65535 (t.hlt.shadowMism + 1) } }
        if others.isEmpty then (u.spareContinues n s1).endShadow cluster
        else { u with hlt := { u.hlt with shadowVote := aset u.hlt.shadowVote cluster n, shadowAt := aset u.hlt.shadowAt cluster u.tim.el } }
    | some _, [] => s.endShadow cluster
    | none, _ => s)

end Sys2Proof.Machine
end

