-- ==== Sys2Proof/Machine/Slots.lean ====
section
/-! DEFINITION. Sensor slots and voted quantities (R132, R133, R144, R145, R157, R159): the records of the Pattern, the state of a slot and of a
quantity, the slag list. -/
namespace Sys2Proof.Machine

/-- Word `k` of the slot record (R132). -/
def State.slotW (s : State) (n k : Nat) : Word := s.parW (0x0540 + n) k

/-- R132: slot `n` is configured. -/
def State.slotUsed (s : State) (n : Nat) : Bool := n < 48 && !(s.parGiven (0x0540 + n)).isEmpty

def State.slotKind (s : State) (n : Nat) : Nat := bits (s.slotW n 0) 7 0
def State.slotSide (s : State) (n : Nat) : Nat := bits (s.slotW n 0) 13 12

/-- R132: INPUT_SIDE of slot `n` names this side or both. -/
def State.slotMine (s : State) (n : Nat) : Bool := s.slotSide n == 2 || s.slotSide n == sideCode s.pins.side

def State.slotGroup (s : State) (n : Nat) : Nat := bits (s.slotW n 0) 23 16
def State.slotOwnTime (s : State) (n : Nat) : Bool := bits (s.slotW n 0) 24 24 == 1
def State.slotDecode (s : State) (n : Nat) : Nat := bits (s.slotW n 2) 7 0

/-- R132: the interval after which the slot times out, in ns. -/
def State.slotTimeoutNs (s : State) (n : Nat) : Nat :=
  (if (s.slotW n 5).toNat = 0 then 3 * (s.slotW n 3).toNat else (s.slotW n 5).toNat) * ms

/-- The configured slots. -/
def State.slotList (s : State) : List Nat := (List.range 48).filter s.slotUsed

/-- Slot `n`. -/
def State.fslot (s : State) (n : Nat) : FSlot := aget {} s.fus.slots n

/-- Change slot `n`. -/
def State.setFslot (s : State) (n : Nat) (f : FSlot → FSlot) : State :=
  { s with fus := { s.fus with slots := aset s.fus.slots n (f (s.fslot n)) } }

/-- Quantity `q` of R145: 0 position, 1 heading, 2 roll and pitch, 3 heave, 4 wind, 5 draught. -/
def State.quant (s : State) (q : Nat) : Quant := s.fus.quants.getD q {}

/-- Change quantity `q`. -/
def State.setQuant (s : State) (q : Nat) (f : Quant → Quant) : State := { s with fus := { s.fus with quants := setNth s.fus.quants q f } }

/-- R133, R145: the quantities that a kind supplies. -/
def kindQuants (kind : Nat) : List Nat :=
  match kind with
  | 1 | 2 | 7 => [0]
  | 3 | 8 => [1]
  | 4 => [2, 3]
  | 5 => [4]
  | 6 => [5]
  | _ => []

/-- R145: components of a quantity. -/
def quantDim (q : Nat) : Nat := if q = 0 || q = 2 || q = 4 then 2 else 1

/-- R145: the gates of a quantity, in 0.01. -/
def State.obsGate (s : State) (q : Nat) : Nat := s.par (if quantDim q = 2 then 0x0503 else 0x0502)
def State.conflictGate (s : State) (q : Nat) : Nat := s.par (if quantDim q = 2 then 0x0505 else 0x0504)

/-- R164: where the components of a quantity stand among the published values. -/
def pubIndex (q : Nat) : List Nat := [[0, 1], [2], [6, 7], [8], [9, 10], [11]].getD q []

/-- R164: published value `k`: position N, E, heading, surge, sway, yaw rate, roll, pitch, heave, wind speed, direction, draught, force surge, sway,
moment yaw, deviation N, E, heading. -/
def State.pubVal (s : State) (k : Nat) : Int := nthI s.fus.pub k

/-- R157: put a slot on the slag list. -/
def State.slagSlot (s : State) (n reason : Nat) : State :=
  let t := s.setFslot n (fun f => { f with st := 4, reason, epoch := s.dev.stateEp, heldSince := [], vals := [], held := false })
  let u := { t with fus := { t.fus with quants := t.fus.quants.map (fun (q : Quant) =>
    if t.slotList.any (fun m => t.slotGroup m == t.slotGroup n && (t.fslot m).st == 1) then q
    else { q with out := adel q.out (t.slotGroup n) }) } }
  let v := (u.event F_FUS_EVENT_SLAG).raise 0x1202 (pay [n, reason])
  if reason = 4 then v.setCond 2 true else v

/-- R158: condition 2 is present while a provisional entry is on the list. -/
def State.settleSlag (s : State) : State := s.setCond 2 (s.slotList.any (fun n => (s.fslot n).st == 4 && (s.fslot n).reason == 4))

/-- R159: the refined axes of a slot: row, axes, and the CAL_MASK bit that enables them, for its kind. -/
def refineRows (kind : Nat) : List (Nat × Nat × Nat) :=
  match kind with
  | 1 => [(1, 3, 0)]
  | 2 => [(1, 3, 0), (2, 2, 2)]
  | 3 => [(3, 1, 1)]
  | 4 => [(1, 3, 0), (4, 2, 1), (5, 1, 1)]
  | 7 | 8 => [(0, 3, 0)]
  | _ => []

/-- The key of axis `a` of row `r` of slot `n` among the refined values. -/
def refineKey (n r a : Nat) : Nat := 32 * n + 4 * r + a

end Sys2Proof.Machine
end

