-- ==== Sys2Proof/Machine/Nav.lean ====
section
/-! DEFINITION. The navigation solution of each side's agreed measurement block (R115 to R117), the checks against false signals (R120 to R122) and what
the solution gives the time servo (R344). The solution's own arithmetic is a computation of `Config.calc` over the block, the corrections and the offsets. -/
namespace Sys2Proof.Machine

/-- R114: a record of a measurement block. -/
structure NavRec where
  triple : Triple
  cn0 : Nat
  phaseOk : Bool
  suspect : Bool
  tx : Nat
  adr : Int
  doppler : Int
  mp : Int
  deriving DecidableEq, Repr

/-- Bit `n` of a word is 1. -/
def wbit (w : Word) (n : Nat) : Bool := bits w n n == 1

/-- R114: the record that eight words hold. -/
def recOf (w : Nat → Word) : NavRec where
  triple := ⟨bits (w 0) 13 9, bits (w 0) 21 16, bits (w 0) 15 14, bits (w 0) 25 22⟩
  cn0 := bits (w 1) 9 0
  phaseOk := wbit (w 1) 11
  suspect := wbit (w 1) 14
  tx := (w 2).toNat + 4294967296 * (w 3).toNat
  adr := (w 4).toNat + 4294967296 * (w 5).toInt
  doppler := (w 6).toInt
  mp := (BitVec.ofNat 16 (bits (w 7) 15 0)).toInt

/-- R113: the records of a block's words after its header. -/
def recsOf : List Word → List NavRec
  | w0 :: w1 :: w2 :: w3 :: w4 :: w5 :: w6 :: w7 :: l => recOf (nthW [w0, w1, w2, w3, w4, w5, w6, w7]) :: recsOf l
  | _ => []

/-- The satellite of a record. -/
def NavRec.sat (r : NavRec) : Nat := satKey r.triple.sig r.triple.sv

/-- The number of a triple among the tests. -/
def tripleKey (t : Triple) : Nat := (t.sig * 64 + t.sv) * 4 + t.ant

/-- R112, R120: the block of a side in the agreed set. -/
def State.agreedBlock (s : State) (side : Side) : Option (List Word) :=
  ((s.agr.agreed.filter (fun i => i.cls == 3 && i.side == side)).getLast?).map (fun i => i.data)

/-- R112, R120: the block of a side is in the agreed set. -/
def State.blockAgreed (s : State) (side : Side) : Bool := (s.agreedBlock side).isSome

/-- R113: the records of a side's agreed block. -/
def State.blockRecs (s : State) (side : Side) : List NavRec :=
  match s.agreedBlock side with
  | some l => recsOf (l.drop 16)
  | none => []

/-- R113: the AGC gains of the streams, in 0.25 dB, from the header of a side's agreed block. -/
def State.blockAgc (s : State) (side : Side) : List Nat :=
  match s.agreedBlock side with
  | some l => ((l.drop 4).take 8).map (fun w => bits w 7 0)
  | none => []

/-! ### Tests -/

/-- R120: the number of a test: the check as a bit of GNS_CHECK, the side, and the signal, system or part it is about. -/
def testKey (check side id : Nat) : Nat := check + 8 * (side + 2 * id)
def testCheck (k : Nat) : Nat := k % 8
def testSide (k : Nat) : Nat := k / 8 % 2
def testId (k : Nat) : Nat := k / 16

/-- R120: the persistence of a test in ns. Part 1 of the receiver power check is the AGC test. -/
def testPersist (k : Nat) : Nat :=
  match testCheck k with
  | 0 => 2 * sec
  | 1 => sec
  | 3 => if testId k = 1 then 0 else 5 * sec
  | 4 | 6 => sec
  | _ => 0

/-- A phase in 2⁻³² cycle, modulo one cycle, from −0.5 to below 0.5. -/
def wrapPhase (v : Int) : Int := (v + 2147483648) % 4294967296 - 2147483648

/-- R117: the position of antenna `n` in mm, refined: row 0 of the KIND 7 slot of the side refines ANT0, that of its KIND 8 slot the others. [Log 100, DESIGN CHOICE, unsafe] -/
def State.antPos (s : State) (side n a : Nat) : Int :=
  let refine := (s.slotList.filter (fun k => s.slotKind k == (if n = 0 then 7 else 8) && s.slotSide k == side)).map (fun k =>
    aget 0 s.fus.refined (refineKey k 0 a) / 3600000)
  s.parI 0x0605 (3 * n + a) + refine.headD 0

/-- R120: the attitude that the angle-of-arrival check uses: the headings of the usable gyrocompasses and the angles of the usable MRUs of the previous
cycle, never GNSS attitude. -/
def State.gyroAttitude (s : State) : List Int :=
  (s.slotList.filter (fun n => (s.slotKind n == 3 || s.slotKind n == 4) && (s.fslot n).st == 1)).flatMap (fun n =>
    ((s.fslot n).vals.flatMap (fun e => (n : Int) :: e.1 :: e.2)))

/-- R120: the single difference between ANT0 and antenna `n` that ephemeris, position and attitude predict for a satellite's signal, in 2⁻³² cycle. -/
def State.predictedDiff (s : State) (side : Nat) (t : Triple) (sats : List NavSat) : Int :=
  let dir := ((sats.filter (fun x => x.sys == sigSystem t.sig && x.sv == t.sv)).map (fun x => [x.elev, x.azim])).headD []
  let base := (List.range 3).map (fun a => s.antPos side t.ant a - s.antPos side 0 a)
  Config.calc .navigate ([100, carrierHz t.sig t.gloK] ++ dir ++ base ++ [s.pubVal 0, s.pubVal 1] ++ s.gyroAttitude) 0

/-- R120: the single differences of a side on antenna `n`: record, measured difference and prediction. A signal has one when its phase is valid on
ANT0 and on the antenna. [Log 100, DESIGN CHOICE, unsafe] -/
def State.diffs (s : State) (side : Side) (sats : List NavSat) (n : Nat) : List (NavRec × Int × Int) :=
  let recs := s.blockRecs side
  (recs.filter (fun r => r.triple.ant == n && r.phaseOk)).flatMap (fun r =>
    match recs.find? (fun b => b.triple.ant == 0 && b.phaseOk && b.triple.sig == r.triple.sig && b.triple.sv == r.triple.sv) with
    | some b => [(r, r.adr - b.adr, s.predictedDiff (sideCode side) r.triple sats)]
    | none => [])

/-- R120: AOA, signal: the signals whose difference departs from its prediction by more than GNS_AOA_THR once the median over all is removed. [Log 100, DESIGN CHOICE, unsafe] -/
def State.aoaSignals (s : State) (l : List (NavRec × Int × Int)) : List Triple :=
  let m := medianInt (l.map (fun e => wrapPhase (e.2.1 - e.2.2)))
  (l.filter (fun e => s.par 0x060F * 4294967296 < 1000 * (wrapPhase (e.2.1 - e.2.2 - m)).natAbs)).map (fun e => e.1.triple)

/-- The different satellites among some records. -/
def satsOf (l : List NavRec) : List Nat := l.foldl (fun a r => insertNew a r.sat) []

/-- R120: AOA, receiver: signals of GNS_AOA_COUNT satellites agree within 0.05 cycle while their predictions differ by more than 0.25 cycle. [Log 100, DESIGN CHOICE, unsafe] -/
def State.aoaReceiver (s : State) (l : List (NavRec × Int × Int)) : Bool :=
  l.any (fun e =>
    let near := l.filter (fun x => 100 * ((x.2.1 - e.2.1) % 4294967296) ≤ 5 * 4294967296)
    let preds : List Int := near.map (fun x => x.2.2)
    decide (s.par 0x0610 ≤ (satsOf (near.map (fun x => x.1))).length) &&
    decide ((4294967296 : Int) < 4 * (preds.foldl max (preds.headD 0) - preds.foldl min (preds.headD 0))))

/-- R120: power, receiver, first part: six or more satellites above 20° with a C/N0 spread below 1.5 dB. A satellite's C/N0 is its best record's. [Log 100, DESIGN CHOICE, unsafe] -/
def powerSpread (recs : List NavRec) (sats : List NavSat) : Bool :=
  let high := (satsOf recs).filter (fun k => sats.any (fun x => 64 * x.sys + x.sv == k && decide (200 < x.elev)))
  let best := high.map (fun k => (recs.filter (fun r => r.sat == k)).foldl (fun a r => Nat.max a r.cn0) 0)
  6 ≤ best.length && best.foldl Nat.max 0 < minOf 0 best + 15

/-- The epochs of a side within the last 10 s, oldest first. -/
def State.navEpochs (s : State) (side : Nat) : List NavEpoch := aget [] s.gns.chk.epochs side

/-- R120: power, receiver, second part: since an epoch at most 10 s ago the AGC gain of a stream has fallen by more than 3 dB and the mean C/N0 has risen by more
than 3 dB. [Log 100, DESIGN CHOICE, unsafe] -/
def agcFall (now : NavEpoch) (before : List NavEpoch) : Bool :=
  before.any (fun e => (List.range 8).any (fun k => nth now.agc k + 12 < nth e.agc k) && e.cn0 * now.count + 30 * now.count * e.count < now.cn0 * e.count)

/-- R120: GNSS is the only time source of the working time. -/
def State.gnssOnlySource (s : State) : Bool := s.selected == 3 && [1, 2, 4].all (fun n => !(s.src n).valid)

/-- R120: clock: the drift since the oldest epoch of the last 10 s is beyond the limit, or the bias has stepped since the last epoch. TSU_FREQ counts in 2⁻⁴³,
so `f` is the servo's frequency correction. [Log 100, DESIGN CHOICE, unsafe] -/
def State.clockFails (s : State) (now : NavEpoch) (before : List NavEpoch) : Bool :=
  let only := s.gnssOnlySource
  let f : Int := if only then s.int (word32 A_TSU_FREQ) else 0
  let limit := if only then 50 else s.par 0x0614
  let drift := match before.head? with
    | some e => decide (e.t + 10 * sec ≤ now.t) &&
        decide (limit * (now.t - e.t) * 2 ^ 43 < (((now.bias - e.bias) * 1000000000 * 2 ^ 43) - f * 1000000000 * ((now.t : Int) - e.t)).natAbs)
    | none => false
  let step := match before.getLast? with
    | some e => decide (s.par 0x0615 < (now.bias - e.bias).natAbs)
    | none => false
  drift || step

/-- R116: GNS_ISB_MODE of a system, 1 Galileo to 5 NavIC: 0 estimated, 1 broadcast, 2 estimated and checked. GPS and SBAS have no offset. -/
def State.isbMode (s : State) (sys : Nat) : Nat := if 1 ≤ sys && sys ≤ 5 then s.par 0x0612 / 4 ^ (sys - 1) % 4 else 0

/-- R120: time offset: in mode 2 the estimate departs from the broadcast value by more than GNS_ISB_TOL, or has changed by more than 10 ns since the last epoch. -/
def State.offsetFails (s : State) (side : Nat) (o : NavOffset) : Bool :=
  s.isbMode o.sys == 2 && (decide (1000 * s.par 0x0613 < (o.estimate - o.broadcast).natAbs) ||
    (match afind s.gns.chk.offsets (8 * side + o.sys) with
    | some e => decide (10000 < (o.estimate - e.1).natAbs)
    | none => false))

/-- R120: the tests that fail in this epoch on a side's block. -/
def State.failingTests (s : State) (v : NavSolution) (now : NavEpoch) (before : List NavEpoch) : List Nat :=
  let side := sideCode v.side
  let recs := s.blockRecs v.side
  let ants := [1, 2, 3].map (s.diffs v.side v.sats)
  (ants.flatMap s.aoaSignals).map (fun t => testKey 0 side (tripleKey t)) ++
  (if ants.any s.aoaReceiver then [testKey 1 side 0] else []) ++
  (recs.filter (fun r => s.par 0x0611 < r.cn0)).map (fun r => testKey 2 side (tripleKey r.triple)) ++
  (if powerSpread recs v.sats then [testKey 3 side 0] else []) ++ (if agcFall now before then [testKey 3 side 1] else []) ++
  (v.offsets.filter (s.offsetFails side)).map (fun o => testKey 4 side o.sys) ++
  (if v.valid && s.clockFails now before then [testKey 5 side 0] else []) ++
  (recs.filter (fun r => s.par 0x0616 * 32768 < 1000 * r.mp.natAbs)).map (fun r => testKey 6 side (tripleKey r.triple))

/-- R120: the tests of a list that have met their persistence: the epoch in which the interval ends counts (R8). [Log 100, DESIGN CHOICE, unsafe] -/
def State.metTests (s : State) (l : List Nat) : List Nat :=
  l.filter (fun k => aget s.dev.freezeAt s.gns.chk.fails k + testPersist k ≤ s.dev.freezeAt)

/-- R120: the signals that a list of failed tests marks: those of the per-signal checks, and every signal of a system whose offset fails. -/
def suspectSignals (recs : List NavRec) (met : List Nat) : List Triple :=
  (recs.map (fun r => r.triple)).filter (fun t => met.any (fun k =>
    ((testCheck k == 0 || testCheck k == 2 || testCheck k == 6) && testId k == tripleKey t) || (testCheck k == 4 && testId k == sigSystem t.sig)))

/-- R120: a receiver-level check fails: angle of arrival, power or clock, or the offsets of two or more systems. -/
def receiverFails (met : List Nat) : Bool :=
  met.any (fun k => testCheck k == 1 || testCheck k == 3 || testCheck k == 5) || 2 ≤ (met.filter (fun k => testCheck k == 4)).length

/-- GNS_CHECK [6:0] of some failed tests. -/
def checkBits (met : List Nat) : Nat := maskOf ((List.range 7).filter (fun c => met.any (fun k => testCheck k == c)))

/-! ### Solution -/

/-- R115: the RTCM message number of a frame of bytes: the first 12 bits after its three header bytes. -/
def rtcmNumber (bytes : List Nat) : Nat := nth bytes 3 * 16 + nth bytes 4 / 16

/-- R115: the messages that the solution uses; the others are ignored. -/
def rtcmUsed (n : Nat) : Bool :=
  [1005, 1006, 1033, 1230].contains n || [1074, 1084, 1094, 1114, 1124].any (fun b => n == b || n == b + 1 || n == b + 3)

/-- R116: the offset of a system from GPS time that the solution of a side uses, in ps. -/
def State.offsetUsed (s : State) (side sys : Nat) : Int :=
  match afind s.gns.chk.offsets (8 * side + sys) with
  | some e => if s.isbMode sys = 1 then e.2 else e.1
  | none => 0

/-- R116: the code bias of a GLONASS frequency number, in mm. -/
def State.ifb (s : State) (t : Triple) : Int := if sigSystem t.sig = 3 then s.parI 0x061E (t.gloK - 1) else 0

/-- R115, R116: what a record gives the solution. -/
def State.recInputs (s : State) (side : Nat) (r : NavRec) : List Int :=
  [(tripleKey r.triple : Int), carrierHz r.triple.sig r.triple.gloK, r.tx, r.adr, r.doppler, r.cn0, bit r.phaseOk, s.offsetUsed side (sigSystem r.triple.sig),
   s.ifb r.triple]

/-- R115: the corrections, while their slot is usable. -/
def State.correctionInputs (s : State) : List Int :=
  if s.slotList.any (fun n => s.slotKind n == 9 && (s.fslot n).st == 1) then
    s.gns.chk.corrections.flatMap (fun e => (e.1 : Int) :: e.2.map (fun w => (w.toNat : Int)))
  else []

/-- R115 to R117, R121: the records that a side's solution uses: those neither marked SUSPECT nor failing in this cycle. -/
def State.usedRecs (s : State) (side : Side) (met : List Nat) : List NavRec :=
  let bad := suspectSignals (s.blockRecs side) met
  (s.blockRecs side).filter (fun r => !r.suspect && !bad.contains r.triple)

/-- R117: the square of the configured length of the baseline to antenna `n`, in mm². -/
def State.baseline2 (s : State) (side n : Nat) : Int :=
  (List.range 3).foldl (fun a k => a + (s.antPos side n k - s.antPos side 0 k) * (s.antPos side n k - s.antPos side 0 k)) 0

/-- R117: a baseline is fixed: the antenna is used, the configured length lies between 1.0 and 100.0 m, the ratio reaches GNS_ATT_RATIO, and the fixed length
lies within GNS_ATT_LEN_TOL of the configured one. -/
def State.baselineFixed (s : State) (side : Nat) (b : NavBaseline) : Bool :=
  let l2 := s.baseline2 side b.ant
  let tol : Int := s.par 0x061D
  b.ant != 0 && s.antUsed b.ant && decide (1000000 ≤ l2) && decide (l2 ≤ 10000000000) && decide (s.par 0x061C ≤ b.ratio) && decide (0 ≤ b.length) &&
  decide (max 0 (b.length - tol) * max 0 (b.length - tol) ≤ l2) && decide (l2 ≤ (b.length + tol) * (b.length + tol))

/-- R115, R117: the solution of a side: position and velocity from the records it uses, attitude from its fixed baselines. -/
def State.solve (s : State) (v : NavSolution) (met : List Nat) : NavFix :=
  let side := sideCode v.side
  let recs := s.usedRecs v.side met
  let inputs := (side : Int) :: s.dev.freezeAt :: recs.flatMap (s.recInputs side)
  let fixed := v.baselines.filter (s.baselineFixed side)
  let ants := fixed.flatMap (fun b => (b.ant : Int) :: b.length :: (List.range 3).map (fun a => s.antPos side b.ant a - s.antPos side 0 a))
  { position := if v.valid then some ((List.range 6).map (fun k => Config.calc .navigate (inputs ++ s.correctionInputs) k)) else none
    attitude := if fixed.isEmpty then none else some ((List.range 6).map (fun k => Config.calc .navigate (inputs ++ ants) (8 + k))) }

/-! ### Outcome -/

/-- R120: keep the intervals of a side's failing tests; a test that passes, or whose signal is absent, ends its interval. -/
def NavChk.keepFails (c : NavChk) (side now : Nat) (failing : List Nat) : NavChk :=
  { c with fails := c.fails.filter (fun e => testSide e.1 != side) ++ failing.map (fun k => (k, aget now c.fails k)) }

/-- R116, R120: keep the epoch and the offsets of a side. -/
def NavChk.keepEpoch (c : NavChk) (side : Nat) (now : NavEpoch) (before : List NavEpoch) (l : List NavOffset) : NavChk :=
  { c with epochs := aset c.epochs side (before ++ [now])
           offsets := l.foldl (fun a o => aset a (8 * side + o.sys) (o.estimate, o.broadcast)) c.offsets }

/-- R121: mark the channels of this side that carry a failing signal. -/
def State.markSuspects (s : State) (bad : List Triple) : State :=
  let hit := s.tracking.filter (fun n => bad.contains (s.gchan n).triple)
  let t := s.each hit (fun u n => u.setGchan n { u.gchan n with suspect := true, failedAt := s.dev.freezeAt })
  if hit.all (fun n => (s.gchan n).suspect) then t else t.event F_GNS_EVENT_SUSPECT_EVT

/-- R117: note which baselines of a side are fixed; one that had been fixed and fails a test raises 0x110C. -/
def State.noteBaselines (s : State) (side : Nat) (l : List NavBaseline) : State :=
  s.each [1, 2, 3] (fun t n =>
    let ok := l.any (fun b => b.ant == n && s.baselineFixed side b)
    match afind t.gns.chk.baselines (4 * side + n) with
    | none => if ok then { t with gns := { t.gns with chk := { t.gns.chk with baselines := aset t.gns.chk.baselines (4 * side + n) true } } } else t
    | some was =>
      let u := { t with gns := { t.gns with chk := { t.gns.chk with baselines := aset t.gns.chk.baselines (4 * side + n) ok } } }
      if was && !ok then u.raise 0x110C else u)

/-- R122: receiver suspicion is raised against a side. -/
def State.raiseSuspicion (s : State) (side : Side) : State :=
  let t := ({ s with gns := { s.gns with chk := { s.gns.chk with suspicion := insertNew s.gns.chk.suspicion (sideCode side) } } }).raise 0x1109
  if side = s.pins.side then (t.setFlag F_GNS_STATUS_SPOOF true).event F_GNS_EVENT_SPOOF_EVT else t

/-- R120: the alarms of the failed checks of a side. -/
def State.raiseChecks (s : State) (c : Nat) : State :=
  ((((s.when (tbit c 0 || tbit c 1) (fun t => t.raise 0x1105)).when (tbit c 2 || tbit c 3) (fun t => t.raise 0x1106)).when (tbit c 4)
    (fun t => t.raise 0x1107)).when (tbit c 5) (fun t => t.raise 0x1108))

/-- R107: this side's solution keeps time, position and the ephemerides decoded for a warm start. -/
def State.keepAiding (s : State) (v : NavSolution) (f : NavFix) : State :=
  let t := s.noteEphemerides ((v.sats.filter (fun x => x.decoded)).map (fun x => 64 * x.sys + x.sv))
  match f.position with
  | some p => { t with gns := { t.gns with aiding := { t.gns.aiding with fixAt := some t.tim.el, position := p.take 2 } } }
  | none => t

/-- R115 to R122: the checks and the solution of one side's agreed block. -/
def State.navCheck (s : State) (v : NavSolution) : State :=
  let side := sideCode v.side
  let recs := s.blockRecs v.side
  let before := (s.navEpochs side).filter (fun e => s.dev.freezeAt ≤ e.t + 10 * sec && e.t < s.dev.freezeAt)
  let now : NavEpoch := ⟨s.dev.freezeAt, v.clockBias, s.blockAgc v.side, recs.foldl (fun a r => a + r.cn0) 0, recs.length⟩
  let failing := s.failingTests v now before
  let met := s.metTests failing
  let rx := receiverFails met
  let chk := (s.gns.chk.keepFails side s.dev.freezeAt failing).keepEpoch side now before v.offsets
  let s1 := { s with gns := { s.gns with chk := { chk with
    rxFailAt := if rx then aset chk.rxFailAt side s.dev.freezeAt else chk.rxFailAt, failing := aset chk.failing side (checkBits met) } } }
  let fix := s1.solve v met
  let s2 := { s1 with gns := { s1.gns with fixes := aset s1.gns.fixes side fix } }
  let s3 := if v.side = s.pins.side then
      (((s2.markSuspects (suspectSignals recs met)).setReg A_GNS_CHECK (BitVec.ofNat 32 (checkBits met))).countSuspects).keepAiding v fix
    else s2
  let s4 := (s3.raiseChecks (checkBits met)).noteBaselines side v.baselines
  if rx && !s.suspected v.side then s4.raiseSuspicion v.side else s4

/-- R121, R122: marks and suspicions whose intervals have ended by this epoch without a failure clear. -/
def State.navClears (s : State) : State :=
  let t := s.each (s.tracking.filter (fun n => (s.gchan n).suspect && decide ((s.gchan n).failedAt + 10 * sec ≤ s.dev.freezeAt))) State.clearSuspect
  [Side.cope, Side.drag].foldl (fun u d => if u.suspected d && decide (u.suspicionEnd d ≤ u.dev.freezeAt) then u.clearSuspicion d else u) t

/-- R115 to R122: the solutions and checks of a cycle. A side without an agreed block has no solution in it. -/
def State.navigate (s : State) (nav : List NavSolution) : State :=
  let t := { s with gns := { s.gns with fixes := [] } }
  ((nav.filter (fun v => s.blockAgreed v.side)).foldl State.navCheck t).navClears

/-- R344, R349: this side's solution gives an offset of working time: TAI from GPS time, less TIM_GNSS_DELAY. The source is valid with four satellites, without
suspicion and while the clock check passes. [Log 41, DEDUCED, unsafe] -/
def State.gnssTime (s : State) (v : NavSolution) : State :=
  if v.side == s.pins.side && v.valid && !s.suspected v.side && 4 ≤ (satsOf (s.blockRecs v.side)).length &&
     !tbit (aget 0 s.gns.chk.failing (sideCode v.side)) 5 then
    let t := match v.leapSeconds with
      | some n => { s with tim := { s.tim with utcOf := aset s.tim.utcOf 3 (toWord (19 + n)) } }.updateUtc
      | none => s
    t.measureOffset 3 (v.clockBias - s.par 0x0B8F)
  else s

end Sys2Proof.Machine
end

