-- ==== Sys2Proof/Machine/Fusion.lean ====
section
/-! DEFINITION. Sensor intake, alignment and fusion (R130 to R166): messages of the agreed set, timeouts, voting against the median or the
prediction, the slag list, dead reckoning and refinement. The observer's arithmetic and the decoding of values are computations of `Config.calc`. -/
namespace Sys2Proof.Machine

/-- A sentence whose hexadecimal digit is `c`. -/
def hexDigit (c : Nat) : Nat := if 48 ≤ c && c ≤ 57 then c - 48 else if 65 ≤ c && c ≤ 70 then c - 55 else if 97 ≤ c && c ≤ 102 then c - 87 else 16

/-- R393: the checksum of a sentence, the XOR of the characters between its start character and the *, stands after the *. -/
def checksumOk (chars : List Nat) : Bool :=
  let body := chars.drop 1
  let front := body.takeWhile (· != 42)
  let tail := body.drop (front.length + 1)
  front.length < body.length && tail.length == 2 && hexDigit (nth tail 0) < 16 && hexDigit (nth tail 1) < 16 &&
  front.foldl (fun a c => a ^^^ (c % 256)) 0 == 16 * hexDigit (nth tail 0) + hexDigit (nth tail 1)

/-- The sentence formatter: characters 3 to 5 of a sentence (IEC 61162-1). -/
def formatter (chars : List Nat) : List Nat := (chars.drop 3).take 3

/-- R134: the formatters that each decoder of sentences accepts. -/
def acceptedFormats (decode : Nat) : List (List Nat) :=
  match decode with
  | 1 => [[71, 71, 65], [71, 78, 83], [71, 83, 84]]
  | 2 => [[72, 68, 84], [84, 72, 83]]
  | 3 => [[77, 87, 86]]
  | 6 => [[84, 84, 77]]
  | _ => []

/-- The bytes of an item of sensor data. -/
def itemBytes (i : Item) : List Nat := i.data.map (fun w => w.toNat)

/-- The characters of field `k` of a sentence, its address being field 0 (IEC 61162-1). -/
def sentenceField (chars : List Nat) : Nat → List Nat
  | 0 => chars.takeWhile (fun c => c != 44 && c != 42)
  | k + 1 => sentenceField ((chars.dropWhile (· != 44)).drop 1) k

/-- R134: the PGNs that a kind of sensor needs. -/
def kindPgns (kind : Nat) : List Nat :=
  match kind with
  | 1 => [129029]
  | 3 => [127250]
  | 4 => [127257, 127252]
  | 5 => [130306]
  | _ => []

/-- R115, R134: the decoder of slot `n` takes this message at all. Sentences go by their formatter, MWV with the relative reference only; CAN messages go by
their PGN, which leads the item, as the kind needs; RTCM messages by their number; field values were chosen by their channel. -/
def State.messageTaken (s : State) (n : Nat) (i : Item) : Bool :=
  let d := s.slotDecode n
  let b := itemBytes i
  if s.slotKind n = 9 then rtcmUsed (rtcmNumber b)
  else if d = 4 then (kindPgns (s.slotKind n)).contains (nth b 0)
  else if d = 5 || d = 7 then true
  else (acceptedFormats d).contains (formatter b) && (d != 3 || sentenceField b 2 == [82])

/-- Result `k` of decoding a message, which standards outside the manual define. [Log 38, DESIGN CHOICE, safe] -/
def decodeOf (n : Nat) (i : Item) (k : Nat) : Int := Config.calc .decode (n :: i.data.map (fun w => (w.toNat : Int))) k

/-- R134: the message passes its checksum and its decoding: THS needs mode A. A field value is decodable when the channel gave it as valid. -/
def State.messageOk (s : State) (n : Nat) (i : Item) : Bool :=
  let d := s.slotDecode n
  let b := itemBytes i
  if s.slotKind n = 9 then rtcmOk (b.map (BitVec.ofNat 8))
  else if d = 5 then nthW i.data 0 == 1#32
  else if d = 4 || d = 7 then decodeOf n i 0 % 2 == 1
  else checksumOk b && (formatter b != [84, 72, 83] || sentenceField b 2 == [65]) && decodeOf n i 0 % 2 == 1

/-- R134: a GST sentence reports deviations and no position. -/
def isGst (i : Item) : Bool := formatter (itemBytes i) == [71, 83, 84]

/-- A message for the decoder of slot `n` from a side. -/
def State.forSlot (s : State) (n side : Nat) (i : Item) : Bool := i.cls == 0 && i.num == n && sideCode i.side == side && s.messageTaken n i

/-- The items of slot `n` from a side in the agreed set, in its order. -/
def State.slotItems (s : State) (n side : Nat) : List Item := s.agr.agreed.filter (s.forSlot n side)

/-- R141: the side whose messages the slot uses. [Log 39, DEDUCED, unsafe] -/
def State.sideInUse (s : State) (n : Nat) : Nat :=
  if s.slotSide n = 2 then bit (s.fslot n).sideDrag else s.slotSide n

/-- The median of five or fewer departures. -/
def medianNat (l : List Nat) : Nat := (medianInt (l.map Int.ofNat)).toNat

/-- R137: the message carries a time, and that time in ns. -/
def carriesTime (n : Nat) (i : Item) : Bool := decodeOf n i 1 % 2 == 1
def ownTime (n : Nat) (i : Item) : Int := decodeOf n i 2

/-- R137: working time of an own time. -/
def Tracker.map (k : Tracker) (own : Int) : Int := own + k.offset + roundDiv (k.skew * (own - k.own)) 1000000000

/-- R136: the first stamp of a message less LAT_US. -/
def State.latTime (s : State) (n : Nat) (i : Item) : Int := (i.first : Int) - (s.slotW n 4).toNat * 1000

/-- R137: the departure of a message from the slot's tracker. One without time, and the one that starts the tracker, depart by 0. [Log 101, DESIGN CHOICE, unsafe] -/
def State.departure (s : State) (n : Nat) (i : Item) : Int :=
  match (s.fslot n).tracker with
  | some k => if carriesTime n i then s.latTime n i - k.map (ownTime n i) else 0
  | none => 0

/-- R137: the tracker after a message: the first one sets its offset; later ones move offset and skew, the skew within ±500 ppm. [Log 101, DESIGN CHOICE, unsafe] -/
def State.moveTracker (s : State) (n : Nat) (i : Item) : Option Tracker :=
  let own := ownTime n i
  if !carriesTime n i then (s.fslot n).tracker
  else match (s.fslot n).tracker with
    | none => some ⟨own, s.latTime n i - own, 0⟩
    | some k =>
      let inp := [k.own, k.offset, k.skew, own, s.departure n i]
      some ⟨own, k.map own - own + Config.calc .measure inp 10, clampI (-500000) 500000 (k.skew + Config.calc .measure inp 11)⟩

/-- R137, R138: one message moves the tracker of the slot's own time and adds its departure. -/
def State.trackTime (s : State) (n : Nat) (i : Item) : State :=
  if !s.slotOwnTime n then s
  else
    let d := (s.departure n i).natAbs
    let frame := (s.slotW n 3).toNat * ms
    s.setFslot n (fun g => { g with
      departs := (d :: g.departs).take 5
      tracker := s.moveTracker n i
      goodRun := if 4 * d ≤ frame then g.goodRun + 1 else 0 })

/-- R136, R137: the measurement time of a message: its mapped own time while the slot uses it, else its first stamp minus LAT_US; at most the freeze (R140). -/
def State.measureTime (s : State) (n : Nat) (i : Item) : Int :=
  let f := s.fslot n
  let t : Int := match f.tracker with
    | some k => if s.slotOwnTime n && !f.tbd && carriesTime n i then k.map (ownTime n i) else s.latTime n i
    | none => s.latTime n i
  min t s.dev.freezeAt

/-- R145: a value unwrapped to within ±180° of the previous fused value. -/
def unwrap (v prev : Int) : Int := (v - prev + 180000) % 360000 - 180000 + prev

/-- R159: a refined value of a slot, in whole units. -/
def State.refinedOf (s : State) (n r a : Nat) : Int := roundDiv (aget 0 s.fus.refined (refineKey n r a)) 3600000

/-- R132, R133, R159: the installation of a slot as refined: position, mounting angles, target position. The internal kinds take the antenna positions of
their side. -/
def State.installation (s : State) (n : Nat) : List Int :=
  let kind := s.slotKind n
  if kind = 7 || kind = 8 then (List.range 4).flatMap (fun k => (List.range 3).map (s.antPos (s.slotSide n) k))
  else
    let w := fun k => (s.slotW n k).toInt
    let mnt := if kind = 3 then [w 12, w 13, w 14 + s.refinedOf n 3 0]
      else [w 12 + s.refinedOf n 4 0, w 13 + s.refinedOf n 4 1, w 14 + s.refinedOf n 5 0]
    [w 9 + s.refinedOf n 1 0, w 10 + s.refinedOf n 1 1, w 11 + s.refinedOf n 1 2] ++ mnt ++ [w 15 + s.refinedOf n 2 0, w 16 + s.refinedOf n 2 1]

/-- R142: the observer's state at the stored freeze at or before a time: that freeze and the state; the oldest one for an earlier time. -/
def State.storedAt (s : State) (t : Int) : List Int :=
  match (s.fus.history.filter (fun e => (e.1 : Int) ≤ t)).getLast? with
  | some e => (e.1 : Int) :: e.2
  | none => match s.fus.history.head? with
    | some e => (e.1 : Int) :: e.2
    | none => (s.dev.freezeAt : Int) :: s.fus.obs

/-- R142: component `k` of the aligned value of a message for quantity `q`: from the state stored at or before the measurement time, the installation
and the datum, moved to the freeze. -/
def State.alignedVal (s : State) (n q k : Nat) (t : Int) (data : List Int) : Int :=
  let v := Config.calc .measure ([(n : Int), q, t, s.dev.freezeAt] ++ data ++ s.installation n ++ [s.parI 0x0501 0, s.parI 0x0501 1, s.parI 0x0501 2] ++
    s.storedAt t ++ s.fus.obs) k
  if q = 1 || q = 2 then unwrap v (s.pubVal (nth (pubIndex q) k)) else v

/-- R145: a value that a slot holds over from an earlier cycle is unwrapped to the previous fused value again. -/
def State.unwrapHeld (s : State) (n : Nat) : State :=
  s.setFslot n (fun f => { f with vals := f.vals.map (fun e =>
    if e.1 = 1 || e.1 = 2 then (e.1, e.2.zipIdx.map (fun x => unwrap x.1 (s.pubVal (nth (pubIndex e.1) x.2)))) else e) })

/-- The keys of the values that a slot publishes: its quantities, 6 for a tracked target, 7 for a general value. -/
def slotKeys (kind : Nat) : List Nat := if kind = 10 then [6] else if kind = 11 then [7] else kindQuants kind

/-- R140, R142: the slot takes a measurement made at `t`, unless it is stale. -/
def State.takeMeasurement (s : State) (n : Nat) (t : Int) (data : List Int) : State :=
  if t + (s.slotW n 6).toNat * ms < s.dev.freezeAt then
    let u := s.bump (F_FUS_SLOT_CNT_STALE n)
    if (match (s.fslot n).staleAt with
        | some a => decide (a + 60 * sec ≤ s.tim.el)
        | none => true) then
      (u.setFslot n (fun f => { f with staleAt := some s.tim.el })).raise 0x120B
    else u
  else
    let vals := (slotKeys (s.slotKind n)).map (fun q => (q, (List.range (if q = 6 then 2 else quantDim q)).map (fun k =>
      if s.slotDecode n = 5 && q = 5 then nthI data 1 else if q = 7 && s.slotDecode n = 5 then nthI data 1 else s.alignedVal n q k t data)))
    s.setFslot n (fun f => { f with vals, fresh := true })

/-- R143: a slot that delivers again after a timeout enters probation, or is usable at once with FUS_RESUME_S 0. -/
def State.resume (s : State) (n : Nat) : State :=
  if (s.fslot n).st = 2 then
    if s.par 0x0508 = 0 then s.setFslot n (fun f => { f with st := 1 })
    else s.setFslot n (fun f => { f with st := 3, probUntil := s.dev.freezeAt + s.par 0x0508 * sec })
  else s

/-- R122, R143: the receiver of the slot's side is under suspicion. -/
def State.slotSuspected (s : State) (n : Nat) : Bool :=
  (s.slotKind n == 7 || s.slotKind n == 8) && s.gns.chk.suspicion.contains (s.slotSide n)

/-- R143: the slot times out. -/
def State.timeOutSlot (s : State) (n : Nat) : State :=
  ((s.setFslot n (fun f => { f with st := 2, vals := [], held := false, heldSince := [] })).event F_FUS_EVENT_TIMEOUT).raise 0x1201 (pay [n])

/-- R133, R140: an internal slot takes the solution of its side's block, at the freeze. -/
def State.intakeInternal (s : State) (n : Nat) : State :=
  let fix := aget {} s.gns.fixes (s.slotSide n)
  match (if s.slotKind n = 7 then fix.position else fix.attitude) with
  | none => s
  | some data =>
    let t := s.setFslot n (fun f => { f with lastAt := aset f.lastAt (s.slotSide n) s.dev.freezeAt })
    (t.resume n).takeMeasurement n s.dev.freezeAt data

/-- R115: the corrections of a KIND 9 slot go to the navigation solution. -/
def State.takeCorrection (s : State) (i : Item) : State :=
  { s with gns := { s.gns with chk := { s.gns.chk with corrections := aset s.gns.chk.corrections (rtcmNumber (itemBytes i)) i.data } } }

/-- Thousandths of a decimal number of characters, digits beyond the third cut off. -/
def milli (c : List Nat) : Nat :=
  let digits := fun (l : List Nat) => l.foldl (fun a x => if 48 ≤ x && x ≤ 57 then 10 * a + (x - 48) else a) 0
  let frac := (((c.dropWhile (· != 46)).drop 1) ++ [48, 48, 48]).take 3
  1000 * digits (c.takeWhile (· != 46)) + digits frac

/-- R134: the deviations north and east of a GST sentence, in mm. -/
def gstDeviations (i : Item) : List Nat := [milli (sentenceField (itemBytes i) 6), milli (sentenceField (itemBytes i) 7)]

/-- R134: two sentences are of the same epoch: they carry the same time, their field 1. -/
def sameEpoch (a b : Item) : Bool := sentenceField (itemBytes a) 1 == sentenceField (itemBytes b) 1

/-- R134, R140: intake of the messages of slot `n` in the agreed set: at most 16, the first ones in the agreed order, are decoded. [Log 101, DESIGN CHOICE, unsafe] -/
def State.intakeMessages (s : State) (n : Nat) : State :=
  let note := fun (t : State) (side : Nat) =>
    match ((t.slotItems n side).filter (t.messageOk n)).getLast? with
    | some i => t.setFslot n (fun f => { f with lastAt := aset f.lastAt side i.last })
    | none => t
  let s1 := note (note s 0) 1
  let all := s1.slotItems n (s1.sideInUse n)
  let taken := all.take 16
  let good := taken.filter (s1.messageOk n)
  let s2 := (s1.bump (F_FUS_SLOT_CNT_DROPPED n) (all.length - taken.length)).bump (F_FUS_SLOT_CNT_BADMSG n) (taken.length - good.length)
  let s3 := good.foldl (fun t i => State.trackTime t n i) s2
  if s.slotKind n = 9 then (if good.isEmpty then s3 else (good.foldl State.takeCorrection s3).resume n)
  else
    let values := good.filter (fun i => !isGst i)
    match values.getLast? with
    | none => s3
    | some i =>
      let gst := (good.filter (fun g => isGst g && sameEpoch g i)).getLast?
      let s4 := s3.setFslot n (fun f => { f with deviation := match gst with
        | some g => gstDeviations g
        | none => [] })
      let s5 := s4.bump (F_FUS_SLOT_CNT_DROPPED n) (values.length - 1)
      (s5.resume n).takeMeasurement n (s5.measureTime n i) (i.data.map (fun w => w.toInt))

/-- R143: the stamp from which the timeout of a slot counts: its last decodable message, or the first freeze after T1 or T6. [Log 39, DEDUCED, unsafe] -/
def State.slotLast (s : State) (n : Nat) : Nat :=
  let f := s.fslot n
  let sides := if s.slotSide n = 2 then [0, 1] else [s.slotSide n]
  sides.foldl (fun a k => Nat.max a (aget 0 f.lastAt k)) s.fus.startAt

/-- R143: the working time at which a slot times out. -/
def State.slotExpiry (s : State) (n : Nat) : Nat := s.slotLast n + s.slotTimeoutNs n

/-- The slot runs towards its timeout: usable or in probation. -/
def State.slotWaits (s : State) (n : Nat) : Bool := (s.fslot n).st == 1 || (s.fslot n).st == 3

/-- Intake of one slot, and its timeout at this freeze. A slagged slot keeps its entry; its values are tested and published only after its return. -/
def State.intakeSlot (s : State) (n : Nat) : State :=
  let t := (s.setFslot n (fun f => { f with fresh := false, held := false })).unwrapHeld n
  if t.slotSuspected n && (t.fslot n).st != 4 then (if (t.fslot n).st = 2 then t else t.timeOutSlot n)
  else
    let u := if t.slotKind n = 7 || t.slotKind n = 8 then t.intakeInternal n else t.intakeMessages n
    if u.slotWaits n && u.slotExpiry n ≤ u.dev.freezeAt then u.timeOutSlot n else u

/-- R132, R134, R138: the standard deviation of component `k` of a slot's value for a quantity, in tenths of its unit when degraded, so 10 times it in every
case. -/
def State.slotNoise10 (s : State) (n q k : Nat) : Nat :=
  let f := s.fslot n
  let base := if q = 3 then (s.slotW n 8).toNat else (s.slotW n 7).toNat
  Nat.max 1 (if q = 0 then Nat.max base (nth f.deviation k) else base) * (if f.tbd then s.par 0x050A else 10)

/-- R144: the usable slots that supply a quantity. -/
def State.usableSlots (s : State) (q : Nat) : List Nat :=
  s.slotList.filter (fun n => (s.fslot n).st == 1 && (kindQuants (s.slotKind n)).contains q && (afind (s.fslot n).vals q).isSome)

/-- R144: the groups that are sources of a quantity. -/
def State.groups (s : State) (q : Nat) : List Nat := (s.usableSlots q).foldl (fun a n => insertNew a (s.slotGroup n)) []

/-- The usable slots of a group for a quantity. -/
def State.groupSlots (s : State) (q g : Nat) : List Nat := (s.usableSlots q).filter (fun n => s.slotGroup n == g)

/-- A slot's aligned value of a quantity. -/
def State.slotVal (s : State) (n q k : Nat) : Int := nthI (aget [] (s.fslot n).vals q) k

/-- R144: the mean of component `k` over some slots, rounded towards minus infinity. [Log 101, DESIGN CHOICE, unsafe] -/
def State.meanVal (s : State) (q k : Nat) (l : List Nat) : Int := (l.map (fun n => s.slotVal n q k)).foldl (· + ·) 0 / Nat.max 1 l.length

/-- R144: component `k` of a source's value: the mean over its usable slots. -/
def State.groupVal (s : State) (q g k : Nat) : Int := s.meanVal q k (s.groupSlots q g)

/-- R144: the smallest noise among some slots (10 times it). -/
def State.leastNoise10 (s : State) (q k : Nat) (l : List Nat) : Nat := minOf 10 (l.map (fun n => s.slotNoise10 n q k))

/-- R144: a source's noise: the smallest among its slots (10 times it). -/
def State.groupNoise10 (s : State) (q g k : Nat) : Nat := s.leastNoise10 q k (s.groupSlots q g)

/-- R146: the slots of a source that update the observer: those not held out of the vote against the median. -/
def State.updateSlots (s : State) (q g : Nat) : List Nat := (s.groupSlots q g).filter (fun n => (afind (s.fslot n).heldSince q).isNone)

/-- A sum of squared differences over variances, as a fraction: numerator and denominator. -/
def normDist (l : List (Int × Nat)) : Nat × Nat :=
  l.foldl (fun (a : Nat × Nat) e => (a.1 * e.2 + e.1.natAbs * e.1.natAbs * a.2, a.2 * e.2)) (0, 1)

/-- A normalised distance lies beyond a gate in 0.01. -/
def beyond (d : Nat × Nat) (gate : Nat) : Bool := gate * d.2 < 100 * d.1

/-- A normalised distance in 0.01, saturating. -/
def nisOf (d : Nat × Nat) : Nat := Nat.min 65535 (100 * d.1 / Nat.max 1 d.2)

/-- The observer's prediction of component `k` of a quantity, and its variance (R142). [Log 38, DESIGN CHOICE, safe] -/
def State.predicted (s : State) (q k : Nat) : Int := Config.calc .predict ((q : Int) :: s.fus.obs) k
def State.predictedVar (s : State) (q k : Nat) : Nat := (Config.calc .predict ((q : Int) :: s.fus.obs) (8 + k)).natAbs

/-- R145: the distance of a value from the prediction, with noises of `n10` tenths. -/
def State.predDist (s : State) (q : Nat) (v : Nat → Int) (n10 : Nat → Nat) : Nat × Nat :=
  normDist ((List.range (quantDim q)).map (fun k => (10 * (v k - s.predicted q k), n10 k * n10 k + 100 * s.predictedVar q k)))

/-- R145: the distance of two sources from each other. -/
def State.sourceDist (s : State) (q a b : Nat) : Nat × Nat :=
  normDist ((List.range (quantDim q)).map (fun k => (10 * (s.groupVal q a k - s.groupVal q b k),
    s.groupNoise10 q a k * s.groupNoise10 q a k + s.groupNoise10 q b k * s.groupNoise10 q b k)))

/-- R146: the median of the sources, per component. [Log 101, DESIGN CHOICE, unsafe] -/
def State.median (s : State) (q k : Nat) : Int := medianInt ((s.groups q).map (fun g => s.groupVal q g k))

/-- R146: the distance of a slot from the median. -/
def State.medianDist (s : State) (q n : Nat) : Nat × Nat :=
  normDist ((List.range (quantDim q)).map (fun k => (10 * (s.slotVal n q k - s.median q k), s.slotNoise10 n q k * s.slotNoise10 n q k)))

/-- The slot's main quantity: the one that the last distance is kept for. -/
def State.mainQuant (s : State) (n q : Nat) : Bool := (kindQuants (s.slotKind n)).head? == some q

/-- Remember the last distance of a slot's main quantity. -/
def State.noteNis (s : State) (n q : Nat) (d : Nat × Nat) : State :=
  if s.mainQuant n q then s.setFslot n (fun f => { f with nis := nisOf d }) else s

/-- R152: a slot beyond the gate of the median is held out; one without a newer value stays as it was. -/
def State.slotOut (s : State) (q n : Nat) : Bool :=
  let f := s.fslot n
  if f.fresh then beyond (s.medianDist q n) (s.obsGate q) else (afind f.heldSince q).isSome || beyond (s.medianDist q n) (s.obsGate q)

/-- R147, R148: a source beyond the gate of the prediction; one without a newer value stays as it was. -/
def State.sourceOut (s : State) (q g : Nat) : Bool :=
  let far := beyond (s.predDist q (s.groupVal q g) (s.groupNoise10 q g)) (s.obsGate q)
  if (s.groupSlots q g).any (fun n => (s.fslot n).fresh) then far else (afind (s.quant q).out g).isSome || far

/-- R147: end every interval of R152 of a quantity. [Log 40, DEDUCED, safe] -/
def State.endSlotHolds (s : State) (q : Nat) : State :=
  s.each s.slotList (fun t n => t.setFslot n (fun f => { f with heldSince := adel f.heldSince q }))

/-- R146, R152: hold out slot `n`, or let it pass. [Log 40, DEDUCED, safe] -/
def State.holdSlot (s : State) (q n : Nat) (out : Bool) : State :=
  let t := s.noteNis n q (s.medianDist q n)
  t.setFslot n (fun f => if out then { f with held := true, heldSince := if (afind f.heldSince q).isSome then f.heldSince else aset f.heldSince q s.dev.freezeAt }
    else { f with heldSince := adel f.heldSince q })

/-- R148: hold out source `g`, or let it pass. -/
def State.holdSource (s : State) (q g : Nat) (out : Bool) : State :=
  let d := s.predDist q (s.groupVal q g) (s.groupNoise10 q g)
  let t := (s.groupSlots q g).foldl (fun u n => (State.noteNis u n q d).setFslot n (fun f => { f with held := f.held || out })) s
  t.setQuant q (fun x => { x with out := if out then (if (afind x.out g).isSome then x.out else aset x.out g s.dev.freezeAt) else adel x.out g })

/-- R150: the better lead of two sources: more cycles of continuous use, then the lower lowest usable slot. -/
def State.leads (s : State) (q a b : Nat) : Bool :=
  let ua := aget 0 (s.quant q).use a
  let ub := aget 0 (s.quant q).use b
  if ua != ub then ub < ua else minOf 48 (s.groupSlots q a) < minOf 48 (s.groupSlots q b)

/-- R150: the lead among some sources. -/
def State.leadOf (s : State) (q : Nat) (l : List Nat) : Option Nat :=
  l.foldl (fun (b : Option Nat) g => match b with
    | none => some g
    | some x => if s.leads q g x then some g else some x) none

/-- R148 to R151: test each source against the prediction. The answer holds the sources that update the observer. -/
def State.voteByPrediction (s : State) (q : Nat) : State × List Nat :=
  let gs := s.groups q
  let t := (s.endSlotHolds q)
  let u := gs.foldl (fun v g => State.holdSource v q g (s.sourceOut q g)) t
  let inn := gs.filter (fun g => !s.sourceOut q g)
  match gs, inn with
  | [_, _], [a, b] =>
    if beyond (s.sourceDist q a b) (s.conflictGate q) then
      let lead := if s.leads q b a then b else a
      (u.setQuant q (fun x => { x with conflict := some (x.conflict.getD s.dev.freezeAt) }), [lead])
    else (u.setQuant q (fun x => { x with conflict := none }), inn)
  | _, _ => (u.setQuant q (fun x => { x with conflict := none }), inn)

/-- R146, R147: vote against the median. -/
def State.voteByMedian (s : State) (q : Nat) : State × List Nat :=
  let ok := (s.usableSlots q).filter (fun n => !s.slotOut q n)
  let inn := (s.groups q).filter (fun g => ok.any (fun n => s.slotGroup n == g))
  if inn.length ≤ 1 then s.voteByPrediction q
  else
    let t := (s.usableSlots q).foldl (fun u n => State.holdSlot u q n (s.slotOut q n)) s
    (t.setQuant q (fun x => { x with out := [], conflict := none }), inn)

/-- R156: the sources of the first cycle: one, or several that do not conflict. -/
def State.firstSources (s : State) (q : Nat) : List Nat :=
  let gs := s.groups q
  if gs.all (fun a => gs.all (fun b => !beyond (s.sourceDist q a b) (s.conflictGate q))) then gs else []

/-- R92, R151: reduced redundancy of a quantity. -/
def State.noteReduced (s : State) (q : Nat) (one : Bool) : State :=
  let t := s.setQuant q (fun x => { x with reduced := one })
  let any := t.fus.quants.any (fun (x : Quant) => x.reduced)
  let u := t.setCond 1 any
  if one && !(s.quant q).reduced then u.raise 0x1204 (pay [q]) else if any then u else u.causeGone 0x1204

/-- R153, R154: position or heading with or without a source in use. -/
def State.noteDr (s : State) (q : Nat) (used : Bool) : State :=
  let code := if q = 0 then 0x1205 else 0x1206
  let t := if used then (s.setQuant q (fun x => { x with dr := none, valid := true })).causeGone code
    else match (s.quant q).dr with
      | none => ((s.setQuant q (fun x => { x with dr := some s.dev.freezeAt, valid := true })).event F_FUS_EVENT_DR).raise code
      | some t0 => s.setQuant q (fun x => { x with valid := x.valid && decide (s.dev.freezeAt ≤ t0 + s.par 0x0509 * sec) })
  let dr := (t.quant 0).dr.isSome || (t.quant 1).dr.isSome
  let u := t.setCond 0 dr
  if dr then u else (u.causeGone 0x1301).causeGone 0x1302

/-- R155: a quantity without source is not valid; it is an alarm only where a slot of the Pattern supplies it. -/
def State.noteOther (s : State) (q : Nat) (used : Bool) : State :=
  let t := s.setQuant q (fun x => { x with valid := used })
  let supplied := s.slotList.any (fun n => (kindQuants (s.slotKind n)).contains q)
  if used then t else if supplied && ((s.quant q).valid || (s.alarm? 0x1207).isNone) then t.raise 0x1207 (pay [q]) else t

/-- R147 to R152: FUS_GATE_PERSIST_MS in ns. -/
def State.persistNs (s : State) : Nat := s.par 0x0506 * ms

/-- R149: the other source of a conflict goes to the slag list. -/
def State.endConflict (s : State) (q : Nat) : State :=
  match s.groups q with
  | [a, b] =>
    let other := if s.leads q b a then a else b
    ((s.groupSlots q other).foldl (fun (u : State) n => u.slagSlot n 4) (s.setQuant q (fun x => { x with conflict := none }))).raise 0x1203
  | _ => s

/-- R148: a source that stays beyond the gate of the prediction goes to the slag list, all its slots. -/
def State.slagSource (s : State) (q g : Nat) : State := s.each (s.groupSlots q g) (fun t n => t.slagSlot n 2)

/-- R147 to R152: what has lasted FUS_GATE_PERSIST_MS at this freeze, after the values of the cycle have been tested (R8): slots held out of the vote, sources
beyond the prediction, a conflict. -/
def State.persistDue (s : State) (q : Nat) : State :=
  let due := fun (a : Nat) => decide (a + s.persistNs ≤ s.dev.freezeAt)
  let t := s.each ((s.usableSlots q).filter (fun n => ((afind (s.fslot n).heldSince q).map due).getD false)) (fun u n => u.slagSlot n 1)
  let v := t.each ((t.groups q).filter (fun g => ((afind (t.quant q).out g).map due).getD false)) (fun u g => u.slagSource q g)
  if ((v.quant q).conflict.map due).getD false then v.endConflict q else v

/-- R131, R154: in a cycle without fusion the time of dead reckoning runs on. -/
def State.drRunsOn (s : State) (q : Nat) : State :=
  match (s.quant q).dr with
  | some a => s.setQuant q (fun x => { x with valid := x.valid && decide (s.dev.freezeAt ≤ a + s.par 0x0509 * sec) })
  | none => s

/-- R145 to R156: one quantity. The answer holds the sources that update the observer. -/
def State.voteQuantity (s : State) (q : Nat) : State × List Nat :=
  let gs := s.groups q
  let r := if !(s.quant q).init then (s, s.firstSources q)
    else if 3 ≤ gs.length then s.voteByMedian q else s.voteByPrediction q
  let used := r.2
  let fresh := used.any (fun g => (s.groupSlots q g).any (fun n => (s.fslot n).fresh))
  let lead := s.leadOf q used
  let t := (r.1.setQuant q (fun x => { x with
    init := x.init || !used.isEmpty
    updated := fresh
    use := used.map (fun g => (g, aget 0 x.use g + 1))
    lead := lead.map (fun g => minOf 48 (s.groupSlots q g)) })).persistDue q
  let u := t.noteReduced q ((t.groups q).length == 1)
  let v := if !(t.quant q).init then (if q ≤ 1 then u else u.noteOther q false) else if q ≤ 1 then u.noteDr q (!used.isEmpty) else u.noteOther q (!used.isEmpty)
  (v, used)

/-- R158: a slot in probation whose value fails its gate is slagged at once. -/
def State.testProbation (s : State) (n : Nat) : State :=
  let f := s.fslot n
  if f.st = 3 && f.fresh then
    let q := (kindQuants (s.slotKind n)).filter (fun q => (s.quant q).init)
    let t := q.foldl (fun u k => State.noteNis u n k (s.predDist k (s.slotVal n k) (s.slotNoise10 n k))) s
    if q.any (fun k => beyond (s.predDist k (s.slotVal n k) (s.slotNoise10 n k)) (s.obsGate k)) then t.slagSlot n 2 else t
  else s

/-- R159, R160: one axis moves towards the observer's value, within its rate and its bound; a value at its bound stays there. [Log 40, DEDUCED, safe] [Log 101, DESIGN CHOICE, unsafe] -/
def State.refineAxis (s : State) (n r a : Nat) : State :=
  let key := refineKey n r a
  let bound : Int := s.par 0x050B (2 * r) * 3600000
  let step : Int := s.par 0x050B (2 * r + 1) * (s.dev.period / ms)
  let old := aget 0 s.fus.refined key
  let want := Config.calc .refine ([(n : Int), r, a] ++ s.fus.obs) 0
  let new := clampI (-bound) bound (old + clampI (-step) step (want - old))
  if s.fus.atBound.contains key then s
  else
    let t := { s with fus := { s.fus with refined := aset s.fus.refined key new } }
    if new.natAbs = bound.natAbs then
      (({ t with fus := { t.fus with atBound := insertNew t.fus.atBound key } }).event F_FUS_EVENT_CAL_BOUND).raise 0x1209 (pay [n, r])
    else t

/-- R160: refinement of the slots that update the observer beside at least two other sources. [Log 38, DESIGN CHOICE, safe] -/
def State.refineSlot (s : State) (q n : Nat) : State :=
  (refineRows (s.slotKind n)).foldl (fun t row =>
    if tbit (bits (s.slotW n 17) 2 0) row.2.2 && (q == 2 || row.1 != 4 && row.1 != 5) then
      (List.range row.2.1).foldl (fun u a => State.refineAxis u n row.1 a) t
    else t) s

/-- R160: refinement after the vote of a quantity. -/
def State.refineQuantity (s : State) (q : Nat) (used : List Nat) : State :=
  if 3 ≤ used.length && (s.quant 0).dr.isNone && (s.quant 1).dr.isNone then
    ((s.usableSlots q).filter (fun n => used.contains (s.slotGroup n) && !(s.fslot n).held && s.mainQuant n q)).foldl
      (fun t n => State.refineSlot t q n) s
  else s

/-- The words of commanded thrust and angle: what the observer's prediction takes from the previous pour (R162). -/
def State.lastThrust (s : State) : List Int :=
  (List.range 32).flatMap (fun n => [(s.reg (A_CTL_THR_CMD n)).toInt, (s.reg (A_CTL_THR_ANG n)).toInt])

/-- The observer's state: 48 numbers. -/
def obsSize : Nat := 48

/-- R162: the vessel model of the VESSEL section: every word of its parameters. -/
def State.vesselModel (s : State) : List Int :=
  (paramRows.filter (fun r => r.pid / 256 = 2)).flatMap (fun r => (List.range (Nat.max 1 (s.parGiven r.pid).length)).map (fun k => s.parI r.pid k))

/-- R142, R146: what the sources in use give the observer: quantity, noise and value per component, of the slots that no vote holds out. -/
def State.updateVals (s : State) (used : List (Nat × List Nat)) : List Int :=
  used.flatMap (fun e => e.2.flatMap (fun g => (e.1 : Int) :: (List.range (quantDim e.1)).flatMap (fun k =>
    [(s.leastNoise10 e.1 k (s.updateSlots e.1 g) : Int), s.meanVal e.1 k (s.updateSlots e.1 g)])))

/-- R186: the velocity innovation of a cycle in each axis, with those of the freezes within the last CTL_MP_WINDOW_S. -/
def State.innovations (s : State) (inputs : List Int) : List (Nat × List Int) :=
  s.fus.innov.filter (fun e => decide (s.dev.freezeAt < e.1 + s.par 0x0809 * sec)) ++
    [(s.dev.freezeAt, (List.range 3).map (fun a => Config.calc .innovation inputs a))]

/-- R153, R162, R163: the observer is updated with the values in use and predicts to the pour, by the vessel model, the thrust of the previous pour and the
wind feedforward. [Log 38, DESIGN CHOICE, safe] -/
def State.observe (s : State) (used : List (Nat × List Nat)) : State :=
  let inputs := (s.dev.period : Int) :: s.fus.obs ++ s.vesselModel ++ s.lastThrust ++ s.ctl.wff ++ s.updateVals used
  let obs := (List.range obsSize).map (fun k => Config.calc .observe inputs k)
  let raw := fun k => Config.calc .predict ((100 : Int) :: (s.dev.pourAt : Int) :: obs ++ s.vesselModel ++ s.lastThrust ++ s.ctl.wff) k
  let pub := (List.range 18).map (fun k => if k = 2 || k = 10 then raw k % 360000 else if k = 9 || k = 11 || 15 ≤ k then max 0 (raw k) else raw k)
  { s with fus := { s.fus with obs, pub, innov := s.innovations inputs, history := (s.fus.history ++ [(s.dev.freezeAt, obs)]).drop (s.fus.history.length - 63) } }

/-- R28: a window end, `a` ms after the freeze in a 20 ms cycle; windows that end after 1.5 ms are doubled in a 40 ms cycle. -/
def State.windowEnd (s : State) (us : Nat) : Nat := s.dev.freezeAt + (if s.dev.period = 40 * ms && 1500 < us then 2 * us else us) * 1000

/-- R29: a step counts unless its window has ended. [Log 13, DEDUCED, unsafe] -/
def State.stepOpen (s : State) (n : Nat) : Bool :=
  s.fullCycle && 0 < s.dev.freezes && !s.dev.stepsDone.contains n && !s.dev.stepsLate.contains n

/-- A step is done. -/
def State.stepDone (s : State) (n : Nat) : State := { s with dev := { s.dev with stepsDone := insertNew s.dev.stepsDone n } }

/-- R145: vote each quantity of a list in turn: the state, and for each the sources it lets in. -/
def State.voteAll (s : State) (l : List Nat) : State × List (Nat × List Nat) :=
  l.foldl (fun a q => let v := a.1.voteQuantity q; (v.1, a.2 ++ [(q, v.2)])) (s, [])

/-- R131: fusion missed its deadline, or its pair's result is lost (R11): the previous state, predicted one cycle ahead without a measurement. Intervals run on. -/
def State.fusionLate (s : State) : State :=
  let t := s.each s.slotList (fun u n => u.setFslot n (fun f => { f with fresh := false }))
  let u := (t.each (List.range 6) (fun v q => (v.setQuant q (fun x => { x with updated := false })).persistDue q)).each [0, 1] State.drRunsOn
  (u.observe []).settleSlag

/-- FUSION_STEP (R115 to R122, R130 to R163). A step whose pair has failed in the cycle loses its result (R11). -/
def execFusionStep (nav : List NavSolution) (s : State) : Host.Outcome State Fault Refusal :=
  .next (if !s.stepOpen 2 then s
    else if s.hlt.discarded.contains 2 then { s with dev := { s.dev with stepsLate := insertNew s.dev.stepsLate 2 } }.fusionLate
    else
      let s2 := s.navigate nav
      let s3 := s2.each s2.slotList State.intakeSlot
      let s4 := s3.each s3.slotList State.testProbation
      let r := s4.voteAll (List.range 6)
      let s5 := r.2.foldl (fun (t : State) e => t.refineQuantity e.1 e.2) r.1
      let s6 := (s5.observe r.2).settleSlag
      let s7 := (nav.filter (fun v => s.blockAgreed v.side)).foldl State.gnssTime s6
      let fresh := s7.suspected s7.pins.side && !s.suspected s.pins.side
      let s8 := if fresh && s7.par 0x061A = 1 then s7.snapTrigger 1 (s7.windowEnd 5000) else s7
      s8.stepDone 2)

/-- R8, R143: a message of the slot that completed by `t` is in this device's sets and not yet in an agreed one. -/
def State.messagePending (s : State) (n t : Nat) : Bool :=
  (s.agr.own ++ s.agr.theirs).any (fun i => decide (i.last ≤ t) && decide (s.slotLast n < i.last) && (s.forSlot n 0 i || s.forSlot n 1 i) && s.messageOk n i)

/-- SLOT_TIMEOUT (R143): a message that completed in the tick of the expiry counts as in time (R8). [Log 9, DEDUCED, safe] -/
def execSlotTimeout (slot : Nat) (s : State) : Host.Outcome State Fault Refusal :=
  .next (if s.fullCycle && s.slotUsed slot && s.slotWaits slot then
      let t := s.reach (s.slotExpiry slot)
      if t.judgedLater (s.slotExpiry slot) || t.messagePending slot (s.slotExpiry slot) then t else t.timeOutSlot slot
    else s)

/-- R147, R148, R151, R152: the intervals that run for a slot: quantity, its start and the slag reason it leads to: 1 against the median, 2 against the
prediction, where the whole source goes. -/
def State.holdsOf (s : State) (n : Nat) : List (Nat × Nat × Nat) :=
  if (s.fslot n).st != 1 then []
  else
    (s.fslot n).heldSince.map (fun e => (e.1, e.2, 1)) ++
    (kindQuants (s.slotKind n)).flatMap (fun q => if (s.groupSlots q (s.slotGroup n)).contains n then
      (match afind (s.quant q).out (s.slotGroup n) with
       | some a => [(q, a, 2)]
       | none => []) else [])

/-- The interval of a slot that began first. -/
def State.firstHold (s : State) (n : Nat) : Option (Nat × Nat × Nat) :=
  (s.holdsOf n).foldl (fun (b : Option (Nat × Nat × Nat)) e => match b with
    | none => some e
    | some x => if e.2.1 < x.2.1 then some e else some x) none

/-- GATE_PERSIST_EXPIRY (R147, R148, R151, R152). Where the interval ends at a freeze, the values of that cycle are tested first (R8). -/
def execGatePersistExpiry (slot : Nat) (s : State) : Host.Outcome State Fault Refusal :=
  .next (match s.firstHold slot with
    | some (q, a, reason) =>
      let t := s.reach (a + s.persistNs)
      if t.judgedLater (a + s.persistNs) then t else if reason = 1 then t.slagSlot slot 1 else t.slagSource q (t.slotGroup slot)
    | none => s)

/-- CONFLICT_PERSIST_EXPIRY (R149): the source that does not lead goes to the slag list. -/
def execConflictPersistExpiry (quantity : Nat) (s : State) : Host.Outcome State Fault Refusal :=
  .next (match (s.quant quantity).conflict with
    | some a =>
      let t := s.reach (a + s.persistNs)
      if t.judgedLater (a + s.persistNs) then t else t.endConflict quantity
    | none => s)

/-- PROBATION_END (R143, R158). -/
def execProbationEnd (slot : Nat) (s : State) : Host.Outcome State Fault Refusal :=
  .next (if s.slotUsed slot && (s.fslot slot).st == 3 then (s.reach (s.fslot slot).probUntil).setFslot slot (fun f => { f with st := 1 }) else s)

/-- DR_VALID_EXPIRY (R154): dead reckoning has lasted more than FUS_DR_VALID_S. -/
def execDrValidExpiry (heading : Bool) (s : State) : Host.Outcome State Fault Refusal :=
  .next (match (s.quant (bit heading)).dr with
    | some a =>
      let e := a + s.par 0x0509 * sec
      let t := s.reach e
      if t.judgedLater e then t else t.setQuant (bit heading) (fun x => { x with valid := false })
    | none => s)

/-- R92: the elapsed time at which the limit of condition 0 expires in the present mode: DR_LIMIT_S after its timer started. -/
def State.drLimitEnd (s : State) : Nat := aget 0 s.dev.condSince 0 + s.parMode 0x0705 * sec

/-- DR_LIMIT_EXPIRY (R92, R93, R153): the mode's DR_ACTION. A source that updates the quantity in the cycle of the expiry is in time (R8). -/
def execDrLimitExpiry (heading : Bool) (s : State) : Host.Outcome State Fault Refusal :=
  .next (if (s.quant (bit heading)).dr.isSome && s.cond 0 && s.parMode 0x0705 != 0 then
      let t := s.reachEl s.drLimitEnd
      if t.judgedLater (s.tim.wt + s.drLimitEnd - s.tim.el) then t
      else if t.parMode 0x0706 = 0 then (t.expireCond 0).raise 0x1301 else ((t.expireCond 0).ownMode 6).raise 0x1302
    else s)

/-- R141: INPUT_SIDE 2 uses Drag's copies only while Cope's are timed out. [Log 39, DEDUCED, unsafe] -/
def State.switchSide (s : State) (n : Nat) : State :=
  if s.slotSide n = 2 then
    let last := fun k => Nat.max s.fus.startAt (aget 0 (s.fslot n).lastAt k)
    let out := fun k => last k + s.slotTimeoutNs n < s.dev.freezeAt
    s.setFslot n (fun f => { f with sideDrag := decide (out 0) && !decide (out 1) })
  else s

/-- R138: a slot loses or regains the use of its own time at a freeze. -/
def State.timebase (s : State) (n : Nat) : State :=
  let f := s.fslot n
  let frame := (s.slotW n 3).toNat * ms
  if !s.slotOwnTime n then s
  else if !f.tbd && frame < medianNat f.departs then
    ((s.setFslot n (fun g => { g with tbd := true, goodRun := 0, departs := [], tracker := none })).event F_FUS_EVENT_TBD).raise 0x1208 (pay [n])
  else if f.tbd && 64 ≤ f.goodRun then s.setFslot n (fun g => { g with tbd := false })
  else s

/-- R158: accepted returns leave the slag list at the freeze, into probation. -/
def State.returnSlot (s : State) (n : Nat) : State :=
  if (s.fslot n).st = 4 then
    (s.setFslot n (fun f => { f with st := 3, reason := 0, epoch := 0, probUntil := s.dev.freezeAt + s.par 0x0507 * sec })).raise 0x120A
  else s

/-- What a freeze changes in fusion (R138, R141, R158). -/
def State.fusionFreeze (s : State) : State :=
  let t := s.each s.fus.returns State.returnSlot
  let u := { t with fus := { t.fus with returns := [] } }
  let v := (u.each u.slotList State.switchSide).each u.slotList State.timebase
  (v.setCond 9 (v.slotList.any (fun n => (v.fslot n).tbd))).settleSlag

/-- R143, R156: the first freeze after T1 or T6: every slot awaits its first message and supplies nothing until then. -/
def State.fusionStart (s : State) : State :=
  let t := s.each s.slotList (fun u n => u.setFslot n (fun f =>
    { f with st := if f.st = 2 then 1 else f.st, vals := [], lastAt := [], held := false, heldSince := [], deviation := [] }))
  { t with fus := { t.fus with startAt := s.dev.freezeAt, quants := t.fus.quants.map (fun (q : Quant) => { q with out := [], conflict := none }) } }

/-- SENSOR_RETURN (R158): from the next freeze. -/
def State.sensorReturnOrder (s : State) (order : OrderIn) : State :=
  let n := (nthW order.args 0).toNat
  s.evalOrder order 0x0B false
    [(0x05, s.stateOk 0x0B), (0x06, !s.slotUsed n || (s.fslot n).st == 4), (0x07, s.slotUsed n && s.targetOk order 0x0B)]
    (fun t => { t with fus := { t.fus with returns := insertNew t.fus.returns n } })

/-- SENSOR_RETURN (R158). -/
def execSensorReturn (order : OrderIn) (s : State) : Host.Outcome State Fault Refusal :=
  .next (s.takeOrder order 0x0B (s.sensorReturnOrder order))

/-- FUS_SLOTn_STAT of a slot. -/
def State.slotStatWord (s : State) (n : Nat) : Word :=
  if s.slotUsed n then
    let f := s.fslot n
    BitVec.ofNat 32 (f.st + 256 * f.reason + 65536 * bit f.held + 131072 * bit f.tbd + 262144 * bit f.sideDrag)
  else 0#32

/-- R166: the FUS registers change at the pour. -/
def State.publishFusion (s : State) : State :=
  let q := s.quant
  let upd := maskOf ((List.range 6).filter (fun k => (q k).updated))
  let val := maskOf ((List.range 6).filter (fun k => (q k).valid))
  let slag := maskOf (s.slotList.filter (fun n => (s.fslot n).st == 4))
  let lead := fun k => (q k).lead.getD 255
  let t := (((((s.setReg A_FUS_STATUS (BitVec.ofNat 32 (bit (q 0).dr.isSome + 2 * bit (q 1).dr.isSome + 256 * val + 65536 * upd))).setReg
    A_FUS_SLAG0 (BitVec.ofNat 32 slag)).setReg A_FUS_SLAG1 (BitVec.ofNat 32 (slag / 4294967296))).setReg
    A_FUS_LEAD0 (quarters (lead 0) (lead 1) (lead 2) (lead 3))).setReg A_FUS_LEAD1 (quarters (lead 4) (lead 5) 0 0))
  t.each (List.range 48) (fun u n => (u.setReg (A_FUS_SLOT_STAT n) (s.slotStatWord n)).setReg (A_FUS_SLOT_NIS n)
    (toWord (if s.slotUsed n then (s.fslot n).nis else 0)))

/-- R157, R300: a common start clears the slag list. -/
def State.clearSlag (s : State) : State :=
  (s.each s.slotList (fun t n => if (t.fslot n).st = 4 then t.setFslot n (fun f => { f with st := 1, reason := 0, epoch := 0 }) else t)).settleSlag

end Sys2Proof.Machine
end

