-- ==== Sys2Proof/Machine/Trig.lean ====
section
/-! DEFINITION. Roots, sines and angles in integers: the turns between axes that the manual states by their geometry (R173, R179 to R181, R203, R210, R211).
Angles are in micro-degrees, 0.001 of 0.001°. -/
namespace Sys2Proof.Machine

/-- The greatest r with r² ≤ n, one bit at a time from bit `k` − 1. -/
def isqrtFrom (n : Nat) : Nat → Nat → Nat
  | 0, r => r
  | k + 1, r => if (r + 2 ^ k) * (r + 2 ^ k) ≤ n then isqrtFrom n k (r + 2 ^ k) else isqrtFrom n k r

/-- The integer square root. -/
def isqrt (n : Nat) : Nat := isqrtFrom n 64 0

/-- The square root rounded up. -/
def csqrt (n : Nat) : Nat := let r := isqrt n; if r * r = n then r else r + 1

/-- The square of the length of a vector. -/
def sq2 (a b : Int) : Nat := (a * a + b * b).toNat

/-- An angle error in micro-degrees, turned the shorter way. -/
def wrapMicro (a : Int) : Int := (a + 180000000) % 360000000 - 180000000

/-- Half a turn and a whole one in micro-degrees. -/
def halfTurn : Int := 180000000

/-- The scale of sines and cosines. [Log 102, DESIGN CHOICE, unsafe] -/
def trigOne : Int := 2 ^ 60

/-- π at that scale, to the nearest. -/
def trigPi : Int := 3622009729038561421

/-- The power series of a sine from its term `term` of order `k`; `x2` is the square of the angle in radians. [Log 102, DESIGN CHOICE, unsafe] -/
def sinSeries (x2 : Int) : Nat → Nat → Int → Int
  | 0, _, _ => 0
  | fuel + 1, k, term => term + sinSeries x2 fuel (k + 2) (-(term * x2).tdiv (trigOne * ((k + 1) * (k + 2) : Nat)))

/-- The sine of an angle from 0° to 90°. -/
def sinFirst (a : Int) : Int := let x := (a * trigPi).tdiv halfTurn; sinSeries ((x * x).tdiv trigOne) 16 1 x

/-- The sine of an angle. -/
def sinMicro (a : Int) : Int :=
  let b := a % (2 * halfTurn)
  let c := b % halfTurn
  let v := sinFirst (if c ≤ 90000000 then c else halfTurn - c)
  if b < halfTurn then v else -v

/-- The cosine of an angle. -/
def cosMicro (a : Int) : Int := sinMicro (a + 90000000)

/-- A vector turned by `a` from its first axis towards its second, to the nearest with ties away from zero. [Log 102, DESIGN CHOICE, unsafe] -/
def turned (x y a : Int) : Int × Int :=
  (roundDiv (x * cosMicro a - y * sinMicro a) trigOne.toNat, roundDiv (x * sinMicro a + y * cosMicro a) trigOne.toNat)

/-- The greatest angle below half a turn that a vector with y ≥ 0 has reached, one bit at a time. -/
def angleFrom (x y : Int) : Nat → Int → Int
  | 0, r => r
  | k + 1, r =>
    let t := r + 2 ^ k
    if t < halfTurn && decide (0 ≤ y * cosMicro t - x * sinMicro t) then angleFrom x y k t else angleFrom x y k r

/-- The angle of a vector from the first axis towards the second, 0° to 360°, rounded down to micro-degrees; 0 for the zero vector. [Log 102, DESIGN CHOICE, unsafe] -/
def angleOf (x y : Int) : Int :=
  if x = 0 && y = 0 then 0
  else if 0 < y || (y = 0 && 0 < x) then angleFrom x y 28 0
  else halfTurn + angleFrom (-x) (-y) 28 0

/-- A rational number to the nearest integer, ties away from zero. -/
def roundRat (q : Rat) : Int := roundDiv q.num q.den

end Sys2Proof.Machine
end

