-- ==== Sys2Proof/Machine/SolverArith.lean ====
section
/-! DEFINITION. The arithmetic of the solver array (R239 to R242, R254): mantissas, exact products brought to an accumulator, saturation, rounding
to the nearest with ties away from zero, quotients, roots and clamped pivots. -/
namespace Sys2Proof.Machine

/-- R240 step 3: bring a value to a weight 2^s times finer (s ≥ 0, exact) or coarser. -/
def scaleBy (x : Int) (s : Int) : Int := if 0 ≤ s then x * 2 ^ s.toNat else roundDiv x (2 ^ (-s).toNat)

/-- R239: a mantissa as the array takes it: 0x8000_0000 is taken as 0x8000_0001. -/
def cleanMantissa (w : Word) : Word := if w = 0x80000000#32 then 0x80000001#32 else w

/-- R240 steps 1 to 3: a product of mantissas with exponents `ea` and `eb`, at the accumulator of exponent `ec`. -/
def product (a b : Int) (ea eb ec : Int) : Int := scaleBy (a * b) (ea + eb - ec)

/-- R241: saturate to ±`hi`, and whether that changed the value. -/
def saturate (lo hi x : Int) : Int × Bool := if x < lo then (lo, true) else if hi < x then (hi, true) else (x, false)

/-- R240, R241: the range of the 80-bit accumulator. -/
def accLo : Int := -(2 ^ 79)
def accHi : Int := 2 ^ 79 - 1

/-- R240 step 4, R241: products added in ascending index order, with every partial sum tested. -/
def accumulate (l : List Int) : Int × Bool :=
  l.foldl (fun (a : Int × Bool) p => let r := saturate accLo accHi (a.1 + p); (r.1, a.2 || r.2)) (0, false)

/-- R240 step 5, R241: the rounded mantissa of an accumulator. -/
def mantissaOf (acc : Int) : Int × Bool := saturate (-(2 ^ 31 - 1)) (2 ^ 31 - 1) (roundDiv acc (2 ^ 31))

/-- R240, R241: the sum of products of two runs of mantissas at exponents `ea`, `eb`, as a mantissa at `ec`, and whether it overflowed. -/
def dotProduct (ea eb ec : Int) (a b : List Int) : Int × Bool :=
  let s := accumulate ((a.zip b).map (fun (e : Int × Int) => product e.1 e.2 ea eb ec))
  let m := mantissaOf s.1
  (m.1, s.2 || m.2)

/-- R242: a quotient of mantissas, as a mantissa at `ec`. -/
def divide (a b : Int) (ea eb ec : Int) : Int × Bool :=
  let s := 31 + ea - eb - ec
  let num := if 0 ≤ s then a * 2 ^ s.toNat else a
  let den := if 0 ≤ s then b.natAbs else b.natAbs * 2 ^ (-s).toNat
  saturate (-(2 ^ 31 - 1)) (2 ^ 31 - 1) (roundDiv (if b < 0 then -num else num) den)

/-- R242: the square root of a mantissa, as a mantissa at `ec`. -/
def rootOf (a : Nat) (ea ec : Int) : Int × Bool :=
  let s := ea + 31 - 2 * ec
  let x := if 0 ≤ s then 4 * a * 2 ^ s.toNat else 4 * a / 2 ^ (-s).toNat
  saturate (-(2 ^ 31 - 1)) (2 ^ 31 - 1) (((isqrt x + 1) / 2 : Nat) : Int)

/-- R254: a pivot below the threshold is clamped. `chol`: the Cholesky rule. -/
def clampPivot (chol : Bool) (threshold : Nat) (p : Int) : Int × Bool :=
  if chol then (if p < threshold then ((threshold : Int), true) else (p, false))
  else if p.natAbs < threshold then (if p < 0 then (-(threshold : Int), true) else ((threshold : Int), true))
  else (p, false)

end Sys2Proof.Machine
end

