-- ==== Sys2Proof/Machine/SolverDriver.lean ====
section
/-! DEFINITION. What a lane computes (R247, R248, R254, R255, R268): the factorisations, the triangular solves and the dual active-set driver, with every
sum, quotient and root by R240 to R242. -/
namespace Sys2Proof.Machine

/-- R241, R254, R268: what a lane notes while it computes: a value saturated, a pivot clamped, and the largest magnitudes of stored mantissas and of accumulators. -/
structure LaneNote where
  overflow : Bool := false
  clamped : Bool := false
  stored : Nat := 0
  acc : Nat := 0
  deriving DecidableEq, Repr

/-- A computation on a lane. -/
abbrev Lane (α : Type) := StateM LaneNote α

/-- R241, R268: a result becomes a stored mantissa. -/
def keep (m : Int × Bool) : Lane Int := fun n => (m.1, { n with overflow := n.overflow || m.2, stored := Nat.max n.stored m.1.natAbs })

/-- R240 steps 4 and 5, R241, R268: terms of an accumulator are added in order, and their sum is rounded to a mantissa. -/
def sumOf (terms : List Int) : Lane Int := fun n =>
  let r := terms.foldl (fun (a : Int × LaneNote) p =>
    let v := saturate accLo accHi (a.1 + p)
    (v.1, { a.2 with overflow := a.2.overflow || v.2, acc := Nat.max a.2.acc v.1.natAbs })) (0, n)
  keep (mantissaOf r.1) r.2

/-- R240: a stored value of exponent `e` as a term of an accumulator of exponent `ec`. -/
def term (m e ec : Int) : Int := scaleBy m (31 + e - ec)

/-- R242: a quotient as a stored mantissa. -/
def quotient (a b ea eb ec : Int) : Lane Int := keep (divide a b ea eb ec)

/-- R243: the fields of a mould's header words 1, 2, 4 and 5. -/
def Mould.n (m : Mould) : Nat := bits (nthW m.head 0) 23 16
def Mould.me (m : Mould) : Nat := bits (nthW m.head 0) 31 24
def Mould.op (m : Mould) : Nat := bits (nthW m.head 0) 11 8
def Mould.mi (m : Mould) : Nat := bits (nthW m.head 1) 8 0
def Mould.nextra (m : Mould) : Nat := bits (nthW m.head 1) 23 16
def Mould.iterMax (m : Mould) : Nat := bits (nthW m.head 1) 31 24
def Mould.pivExp (m : Mould) : Int := ((nthW m.head 2).extractLsb' 0 8).toInt
def Mould.anStore (m : Mould) : Nat := bits (nthW m.head 2) 15 8
def Mould.anAcc (m : Mould) : Nat := bits (nthW m.head 2) 23 16
def Mould.violExp (m : Mould) : Int := ((nthW m.head 2).extractLsb' 24 8).toInt
def Mould.nblk (m : Mould) : Nat := bits (nthW m.head 3) 15 0

/-- R244: blocks along a dimension, and along the lower triangle of a square. -/
def segsOf (n : Nat) : Nat := (n + 15) / 16
def triOf (n : Nat) : Nat := n * (n + 1) / 2

/-- R244: the exponents of the factor of H and of the active-set factor at an entry, of x, f, e and h at an index, of an extra row's coefficients and
bound, and of the multipliers. -/
def Mould.expOf (m : Mould) (i : Nat) : Int := nthI m.exps i
def Mould.expL (m : Mould) (i j : Nat) : Int := m.expOf (m.nblk + triOf (i / 16) + j / 16)
def Mould.expA (m : Mould) (i j : Nat) : Int := m.expOf (m.nblk + triOf (segsOf m.n) + triOf (i / 16) + j / 16)
def Mould.vecAt (m : Mould) : Nat := m.nblk + 2 * triOf (segsOf m.n)
def Mould.expX (m : Mould) (i : Nat) : Int := m.expOf (m.vecAt + i / 16)
def Mould.expF (m : Mould) (i : Nat) : Int := m.expOf (m.vecAt + segsOf m.n + i / 16)
def Mould.expE (m : Mould) (i : Nat) : Int := m.expOf (m.vecAt + 2 * segsOf m.n + i / 16)
def Mould.expH (m : Mould) (i : Nat) : Int := m.expOf (m.vecAt + 2 * segsOf m.n + segsOf m.me + i / 16)
def Mould.extraAt (m : Mould) : Nat := m.vecAt + 2 * segsOf m.n + segsOf m.me + segsOf m.mi
def Mould.expCoef (m : Mould) (k : Nat) : Int := m.expOf (m.extraAt + 2 * k)
def Mould.expBound (m : Mould) (k : Nat) : Int := m.expOf (m.extraAt + 2 * k + 1)
def Mould.expMul (m : Mould) : Int := m.expOf (m.extraAt + 2 * m.nextra)

/-- R244: the index of a block in the block map, and whether it is fillable. -/
def Mould.block (m : Mould) (mat row col : Nat) : Option (Nat × Bool) :=
  match m.map.findIdx? (fun e => e / 4096 == mat && e / 256 % 16 == row && e % 128 / 16 == col) with
  | some i => some (i, tbit (nth m.map i) 7)
  | none => none

/-- A word as a mantissa. -/
def mantissa (w : Word) : Int := (cleanMantissa w).toInt

/-- R239, R244: an entry of a matrix and its exponent. H is symmetric, and a block that is not stored holds zeros. -/
def Mould.entry (m : Mould) (mats : Sparse 32) (mat row col : Nat) : Int × Int :=
  let r := if mat = 0 then Nat.max row col else row
  let c := if mat = 0 then Nat.min row col else col
  match m.block mat (r / 16) (c / 16) with
  | some (i, _) => (mantissa (memGet zeroCell mats (256 * i + 16 * (r % 16) + c % 16)), nthI m.exps i)
  | none => (0, 0)

/-- R250: the parts of a data block. -/
def dataF (d : List Word) (i : Nat) : Int := mantissa (nthW d (10 + i))
def Mould.lAt (m : Mould) (d : List Word) (i : Nat) : Int := mantissa (nthW d (10 + m.n + i))
def Mould.uAt (m : Mould) (d : List Word) (i : Nat) : Int := mantissa (nthW d (10 + 2 * m.n + i))
def Mould.eAt (m : Mould) (d : List Word) (i : Nat) : Int := mantissa (nthW d (10 + 3 * m.n + i))
def Mould.hAt (m : Mould) (d : List Word) (i : Nat) : Int := mantissa (nthW d (10 + 3 * m.n + m.me + i))
def Mould.extraWord (m : Mould) (d : List Word) (k i : Nat) : Int := mantissa (nthW d (10 + 3 * m.n + m.me + m.mi + k * (m.n + 1) + i))

/-- R248: a constraint's number: its kind (0 lower bound, 1 upper bound, 2 E, 3 G, 4 extra row) and its index. -/
def rowKind (c : Nat) : Nat × Nat :=
  if c < 128 then (0, c) else if c < 256 then (1, c - 128) else if c < 272 then (2, c - 256) else if c < 528 then (3, c - 272) else (4, c - 528)

/-- R248, R250: the rows that are enabled, in the order of their numbers, and those that are equalities. -/
def Mould.rows (m : Mould) (d : List Word) : List Nat :=
  List.range m.n ++ (List.range m.n).map (128 + ·) ++ ((List.range m.me).filter (fun k => tbit (nthW d 0).toNat k)).map (256 + ·) ++
  ((List.range m.mi).filter (fun k => tbit (nthW d (2 + k / 32)).toNat (k % 32))).map (272 + ·) ++
  ((List.range m.nextra).filter (fun k => tbit (nthW d 0).toNat (16 + k))).map (528 + ·)
def isEquality (d : List Word) (c : Nat) : Bool :=
  match rowKind c with
  | (2, _) => true
  | (4, k) => tbit (nthW d 1).toNat k
  | _ => false

/-- R248: the coefficients of a row a, which is read as aᵀ x ≤ bound: index, mantissa, exponent. A lower bound is −x ≤ −l. -/
def Mould.coefs (m : Mould) (mats : Sparse 32) (d : List Word) (c : Nat) : List (Nat × Int × Int) :=
  match rowKind c with
  | (0, k) => [(k, -(2 ^ 30), 1)]
  | (1, k) => [(k, 2 ^ 30, 1)]
  | (2, k) => (List.range m.n).map (fun i => (i, m.entry mats 1 k i))
  | (3, k) => (List.range m.n).map (fun i => (i, m.entry mats 2 k i))
  | (_, k) => (List.range m.n).map (fun i => (i, m.extraWord d k i, m.expCoef k))

/-- R248: the bound of a row and its exponent. -/
def Mould.boundOf (m : Mould) (d : List Word) (c : Nat) : Int × Int :=
  match rowKind c with
  | (0, k) => (-m.lAt d k, m.expX k)
  | (1, k) => (m.uAt d k, m.expX k)
  | (2, k) => (m.eAt d k, m.expE k)
  | (3, k) => (m.hAt d k, m.expH k)
  | (_, k) => (m.extraWord d k m.n, m.expBound k)

/-- R254: the pivot threshold as a mantissa of exponent `e`, at least 1. [Log 103, DEDUCED, unsafe] -/
def Mould.threshold (m : Mould) (e : Int) : Nat := Nat.max 1 (scaleBy 1 (m.pivExp + 31 - e)).toNat

/-- R254: a pivot of exponent `e` is clamped where it lies below the threshold. -/
def Mould.pivot (m : Mould) (chol : Bool) (e p : Int) : Lane Int := fun n =>
  let r := clampPivot chol (m.threshold e) p
  (r.1, { n with clamped := n.clamped || r.2 })

/-- A row of a triangular factor: its entries left of the diagonal, and the pivot. -/
structure FactorRow where
  left : List Int
  piv : Int
  deriving DecidableEq, Repr

/-- R247: one row of an LDLᵀ factorisation before its pivot is clamped. `ex` gives the exponents, `src j` entry (i, j) of the matrix. [Log 103, DEDUCED, unsafe] -/
def ldlRow (ex : Nat → Nat → Int) (src : Nat → Int × Int) (rows : List FactorRow) : Lane FactorRow := do
  let i := rows.length
  let ws ← rows.foldlM (fun (ws : List Int) r => do
    let j := ws.length
    let v ← sumOf (term (src j).1 (src j).2 (ex i j) :: (List.range j).map (fun k => product (-nthI ws k) (nthI r.left k) (ex i k) (ex j k) (ex i j)))
    pure (ws ++ [v])) []
  let ls ← (List.range i).mapM (fun j => quotient (nthI ws j) (rows.getD j ⟨[], 1⟩).piv (ex i j) (ex j j) (ex i j))
  let p ← sumOf (term (src i).1 (src i).2 (ex i i) :: (List.range i).map (fun k => product (-nthI ws k) (nthI ls k) (ex i k) (ex i k) (ex i i)))
  pure ⟨ls, p⟩

/-- R247: one row of a Cholesky factorisation; its pivot is the root of the clamped remainder. [Log 103, DEDUCED, unsafe] -/
def Mould.cholRow (m : Mould) (src : Nat → Int × Int) (rows : List FactorRow) : Lane FactorRow := do
  let i := rows.length
  let ex := m.expL
  let ls ← rows.foldlM (fun (ls : List Int) r => do
    let j := ls.length
    let v ← sumOf (term (src j).1 (src j).2 (ex i j) :: (List.range j).map (fun k => product (-nthI ls k) (nthI r.left k) (ex i k) (ex j k) (ex i j)))
    let l ← quotient v r.piv (ex i j) (ex j j) (ex i j)
    pure (ls ++ [l])) []
  let s ← sumOf (term (src i).1 (src i).2 (ex i i) :: (List.range i).map (fun k => product (-nthI ls k) (nthI ls k) (ex i k) (ex i k) (ex i i)))
  let p ← m.pivot true (ex i i) s
  let root ← keep (rootOf p.toNat (ex i i) (ex i i))
  pure ⟨ls, root⟩

/-- R247: the factor of H. -/
def Mould.factor (m : Mould) (mats : Sparse 32) (chol : Bool) : Lane (List FactorRow) :=
  (List.range m.n).foldlM (fun (rows : List FactorRow) i => do
    let src := fun j => m.entry mats 0 i j
    if chol then
      let r ← m.cholRow src rows
      pure (rows ++ [r])
    else
      let r ← ldlRow m.expL src rows
      let p ← m.pivot false (m.expL i i) r.piv
      pure (rows ++ [⟨r.left, p⟩])) []

/-- R247: the forward and back solves with the factor of H: H⁻¹ b at the exponents of x. The intermediate vector has the exponents of f. [Log 103, DEDUCED, unsafe] -/
def Mould.solveWith (m : Mould) (chol : Bool) (rows : List FactorRow) (b : Nat → Int × Int) : Lane (List Int) := do
  let row := fun i => rows.getD i ⟨[], 1⟩
  let down := fun (z : List Int) i => sumOf (term (b i).1 (b i).2 (m.expF i) ::
    (List.range i).map (fun k => product (-nthI (row i).left k) (nthI z k) (m.expL i k) (m.expF k) (m.expF i)))
  let z ← (List.range m.n).foldlM (fun (z : List Int) i => do
    let v ← down z i
    let y ← if chol then quotient v (row i).piv (m.expF i) (m.expL i i) (m.expF i) else pure v
    pure (z ++ [y])) []
  (List.range m.n).reverse.foldlM (fun (x : List Int) i => do
    let above := (List.range (m.n - 1 - i)).map (fun k => product (-nthI (row (i + 1 + k)).left i) (nthI x k) (m.expL (i + 1 + k) i) (m.expX (i + 1 + k)) (m.expX i))
    let v ← if chol then sumOf (term (nthI z i) (m.expF i) (m.expX i) :: above)
      else do
        let y ← quotient (nthI z i) (row i).piv (m.expF i) (m.expL i i) (m.expX i)
        sumOf (term y (m.expX i) (m.expX i) :: above)
    let w ← if chol then quotient v (row i).piv (m.expX i) (m.expL i i) (m.expX i) else pure v
    pure (w :: x)) []

/-- An active constraint: its number, its multiplier, H⁻¹ a for its row a, and its row of the active-set factor. -/
structure ActiveRow where
  num : Nat
  mul : Int
  dir : List Int
  fac : FactorRow
  deriving DecidableEq, Repr

/-- R248: where the driver stands: x, the active constraints in order of addition, and the additions and drops made. -/
structure QpState where
  x : List Int
  act : List ActiveRow
  iter : Nat := 0
  deriving DecidableEq, Repr

/-- A constraint that might enter: H⁻¹ a, its row of the active-set factor before clamping, and how the multipliers answer to a step. -/
structure Entering where
  dir : List Int
  fac : FactorRow
  ans : List Int
  deriving DecidableEq, Repr

/-- aᵀ v at exponent `ec`, as terms of an accumulator. -/
def Mould.along (m : Mould) (a : List (Nat × Int × Int)) (v : List Int) (ec : Int) : List Int :=
  a.map (fun e => product e.2.1 (nthI v e.1) e.2.2 (m.expX e.1) ec)

/-- R247: the rows of the active-set factor: row `i` of N H⁻¹ Nᵀ, eliminated by the rows above it. -/
def Mould.activeRow (m : Mould) (mats : Sparse 32) (d : List Word) (act : List ActiveRow) (c : Nat) (dir : List Int) : Lane FactorRow := do
  let i := act.length
  let s ← act.foldlM (fun (l : List Int) r => do
    let v ← sumOf (m.along (m.coefs mats d r.num) dir (m.expA i l.length))
    pure (l ++ [v])) []
  let p ← sumOf (m.along (m.coefs mats d c) dir (m.expA i i))
  ldlRow m.expA (fun j => if j = i then (p, m.expA i i) else (nthI s j, m.expA i j)) (act.map (·.fac))

/-- R248: what the entry of constraint `c` would do. [Log 103, DEDUCED, unsafe] -/
def Mould.entering (m : Mould) (mats : Sparse 32) (d : List Word) (rows : List FactorRow) (q : QpState) (c : Nat) : Lane Entering := do
  let a := m.coefs mats d c
  let dir ← m.solveWith false rows (fun i => match a.find? (fun e => e.1 == i) with
    | some e => e.2
    | none => (0, 0))
  let fac ← m.activeRow mats d q.act c dir
  let n := q.act.length
  let ans ← (List.range n).reverse.foldlM (fun (r : List Int) i => do
    let v ← sumOf (term (nthI fac.left i) (m.expA n i) m.expMul ::
      (List.range (n - 1 - i)).map (fun k =>
        product (-nthI (q.act.getD (i + 1 + k) ⟨0, 0, [], ⟨[], 1⟩⟩).fac.left i) (nthI r k) (m.expA (i + 1 + k) i) m.expMul m.expMul))
    pure (v :: r)) []
  pure ⟨dir, fac, ans⟩

/-- R248: by how much a row is exceeded, at the multiplier exponent. -/
def Mould.excess (m : Mould) (mats : Sparse 32) (d : List Word) (x : List Int) (c : Nat) : Lane Int :=
  let b := m.boundOf d c
  sumOf (m.along (m.coefs mats d c) x m.expMul ++ [term (-b.1) b.2 m.expMul])

/-- R248: x moves by −t along the part of `dir` that keeps the active constraints; the multipliers move by −t times their answer. -/
def Mould.stepBy (m : Mould) (q : QpState) (e : Entering) (t : Int) (moveX : Bool) : Lane QpState := do
  let x ← if moveX then (List.range m.n).mapM (fun i => do
      let z ← sumOf (term (nthI e.dir i) (m.expX i) (m.expX i) ::
        (q.act.zip e.ans).map (fun r => product (-r.2) (nthI r.1.dir i) m.expMul (m.expX i) (m.expX i)))
      sumOf [term (nthI q.x i) (m.expX i) (m.expX i), product (-t) z m.expMul (m.expX i) (m.expX i)])
    else pure q.x
  let act ← (q.act.zip e.ans).mapM (fun r => do
    let v ← sumOf [term r.1.mul m.expMul m.expMul, product (-t) r.2 m.expMul m.expMul m.expMul]
    pure { r.1 with mul := v })
  pure { q with x := x, act := act }

/-- R248, R254: constraint `c` becomes active after a step of `t`; `lam` is what its multiplier has gathered. -/
def Mould.addRow (m : Mould) (q : QpState) (e : Entering) (c : Nat) (t lam : Int) : Lane QpState := do
  let n := q.act.length
  let p ← m.pivot false (m.expA n n) e.fac.piv
  let u ← m.stepBy q e t true
  let v ← sumOf [term lam m.expMul m.expMul, term t m.expMul m.expMul]
  pure { u with act := u.act ++ [⟨c, v, e.dir, ⟨e.fac.left, p⟩⟩], iter := u.iter + 1 }

/-- R247, R254: the active-set factor without constraint `k` of the list: the rows after it are eliminated again. -/
def Mould.dropRow (m : Mould) (mats : Sparse 32) (d : List Word) (q : QpState) (k : Nat) : Lane QpState := do
  let act ← (q.act.drop (k + 1)).foldlM (fun (l : List ActiveRow) r => do
    let f ← m.activeRow mats d l r.num r.dir
    let p ← m.pivot false (m.expA l.length l.length) f.piv
    pure (l ++ [{ r with fac := ⟨f.left, p⟩ }])) (q.act.take k)
  pure { q with act := act, iter := q.iter + 1 }

/-- R248: how a run of the driver ends: the codes of R252, before overflow and clamping are judged. -/
structure QpEnd where
  code : Nat
  q : QpState
  deriving DecidableEq, Repr

/-- R254, R256: the pivot of an entering constraint lies below the threshold. -/
def Mould.small (m : Mould) (n : Nat) (p : Int) : Bool := p.natAbs < m.threshold (m.expA n n)

/-- R248 steps 3 and 4: constraints that enter without a choice: the equality rows, then those of the warm start, which skips small pivots. -/
def Mould.enterList (m : Mould) (mats : Sparse 32) (d : List Word) (rows : List FactorRow) (warm : Bool) (q : QpState) (l : List Nat) : Lane QpState :=
  l.foldlM (fun (q : QpState) c => do
    let n ← get
    if n.overflow || m.iterMax ≤ q.iter || q.act.any (fun r => r.num == c) || 128 ≤ q.act.length then pure q
    else
      let e ← m.entering mats d rows q c
      let k := q.act.length
      if warm && m.small k e.fac.piv then pure q
      else
        let v ← m.excess mats d q.x c
        let p := (clampPivot false (m.threshold (m.expA k k)) e.fac.piv).1
        let t ← quotient v p m.expMul (m.expA k k) m.expMul
        m.addRow q e c t 0) q

/-- The position of the first element that no other undercuts. -/
def leastAt (l : List (Nat × Int)) : Option (Nat × Int) :=
  l.foldl (fun (b : Option (Nat × Int)) e => match b with
    | none => some e
    | some x => if e.2 < x.2 then some e else b) none

/-- R248: drop the constraints whose multipliers a warm start has left negative, the most negative first. [Log 103, DEDUCED, unsafe] -/
def Mould.shed (m : Mould) (mats : Sparse 32) (d : List Word) (rows : List FactorRow) : Nat → QpState → Lane QpState
  | 0, q => pure q
  | fuel + 1, q => do
    let neg := (q.act.zipIdx.filter (fun r => r.1.mul < 0 && !isEquality d r.1.num)).map (fun r => (r.2, r.1.mul))
    let n ← get
    match leastAt neg with
    | none => pure q
    | some (k, lam) =>
      if n.overflow || m.iterMax ≤ q.iter then pure q
      else
        let u ← m.dropRow mats d q k
        let e ← m.entering mats d rows u (q.act.getD k ⟨0, 0, [], ⟨[], 1⟩⟩).num
        let v ← m.stepBy u e (-lam) true
        m.shed mats d rows fuel v

/-- R248: the row with the largest violation above 2^VIOL_EXP, the lowest number first. -/
def Mould.worstRow (m : Mould) (mats : Sparse 32) (d : List Word) (q : QpState) : Lane (Option Nat) := do
  let best ← ((m.rows d).filter (fun c => !q.act.any (fun r => r.num == c))).foldlM (fun (b : Option (Nat × Int)) c => do
    let v ← m.excess mats d q.x c
    let s := m.expMul - 31 - m.violExp
    let above := if 0 ≤ s then decide (1 < v * 2 ^ s.toNat) else decide ((2 : Int) ^ (-s).toNat < v)
    pure (match b with
      | some x => if above && x.2 < v then some (c, v) else b
      | none => if above then some (c, v) else none)) none
  pure (best.map (·.1))

/-- R248: the active inequality whose multiplier reaches 0 first, and the step at which it does. -/
def Mould.blocker (m : Mould) (d : List Word) (q : QpState) (e : Entering) : Lane (Option (Nat × Int)) := do
  let l := ((q.act.zip e.ans).zipIdx.filter (fun r => 0 < r.1.2 && !isEquality d r.1.1.num))
  let ts ← l.mapM (fun r => do
    let t ← quotient r.1.1.mul r.1.2 m.expMul m.expMul m.expMul
    pure (r.2, t))
  pure (leastAt ts)

/-- R248 step 5: the iterations. `cur` is the constraint that is entering, with the multiplier it has gathered. [Log 103, DEDUCED, unsafe] -/
def Mould.iterate (m : Mould) (mats : Sparse 32) (d : List Word) (rows : List FactorRow) : Nat → Option (Nat × Int) → QpState → Lane QpEnd
  | 0, _, q => pure ⟨8, q⟩
  | fuel + 1, cur, q => do
    let n ← get
    let next ← match cur with
      | some c => pure (some c)
      | none => do
        let w ← m.worstRow mats d q
        pure (w.map (fun c => (c, 0)))
    match next with
    | none => pure ⟨3, q⟩
    | some (c, lam) =>
      if n.overflow || m.iterMax ≤ q.iter then pure ⟨8, q⟩
      else
        let e ← m.entering mats d rows q c
        let k := q.act.length
        let v ← m.excess mats d q.x c
        let block ← m.blocker d q e
        let small := m.small k e.fac.piv || 128 ≤ k
        let full ← if small then pure none else do
          let t ← quotient v e.fac.piv m.expMul (m.expA k k) m.expMul
          pure (some t)
        match full, block with
        | none, none => pure ⟨7, q⟩
        | some t, none => do
          let u ← m.addRow q e c t lam
          m.iterate mats d rows fuel none u
        | some t, some (j, b) =>
          if t ≤ b then do
            let u ← m.addRow q e c t lam
            m.iterate mats d rows fuel none u
          else do
            let u ← m.stepBy q e b true
            let l ← sumOf [term lam m.expMul m.expMul, term b m.expMul m.expMul]
            let w ← m.dropRow mats d u j
            m.iterate mats d rows fuel (some (c, l)) w
        | none, some (j, b) => do
          let u ← m.stepBy q e b false
          let l ← sumOf [term lam m.expMul m.expMul, term b m.expMul m.expMul]
          let w ← m.dropRow mats d u j
          m.iterate mats d rows fuel (some (c, l)) w

/-- R247: the starting point −H⁻¹ f. -/
def Mould.start (m : Mould) (chol : Bool) (rows : List FactorRow) (d : List Word) : Lane (List Int) :=
  m.solveWith chol rows (fun i => (-dataF d i, m.expF i))

/-- R248: the QP driver. A bound pair with l above u ends it before the first iteration. [Log 103, DEDUCED, unsafe] -/
def Mould.qp (m : Mould) (mats : Sparse 32) (d : List Word) (warm : List Nat) : Lane QpEnd := do
  let rows ← m.factor mats false
  let x ← m.start false rows d
  let eqs := (m.rows d).filter (isEquality d)
  let q1 ← m.enterList mats d rows false { x := x, act := [] } eqs
  let q2 ← m.enterList mats d rows true q1 (warm.filter (fun c => (m.rows d).contains c && !isEquality d c))
  let q3 ← m.shed mats d rows 256 q2
  if (List.range m.n).any (fun k => m.uAt d k < m.lAt d k) then pure ⟨7, q3⟩ else m.iterate mats d rows 512 none q3

/-- R247: the operation of a mould on a data block. -/
def Mould.operate (m : Mould) (mats : Sparse 32) (d : List Word) (warm : List Nat) : Lane QpEnd :=
  if m.op = 0 then m.qp mats d warm
  else do
    let chol := m.op == 2
    let rows ← m.factor mats chol
    let x ← m.start chol rows d
    pure ⟨3, { x := x, act := [] }⟩

/-- R268: a headroom of `h` bits: the largest magnitude seen stays below 2^(`bits` − h). -/
def headroomOf (width largest : Nat) : Nat := width - (if largest = 0 then 0 else largest.log2 + 1)

/-- R251 to R255: what a problem's run gives. -/
structure LaneResult where
  status : Nat
  x : List Int
  active : List Nat
  iter : Nat
  clamped : Bool
  headStore : Nat
  headAcc : Nat
  deriving DecidableEq, Repr

/-- R247 to R255, R266: the run of a problem: a function of its mould's contents, its data block and the active constraints of its warm-start record. -/
def Mould.run (m : Mould) (mats : Sparse 32) (d : List Word) (warm : List Nat) : LaneResult :=
  let r := (m.operate mats d warm).run {}
  let e := r.1
  let n := r.2
  let status := if n.overflow then 5 else if e.code = 7 || e.code = 8 then e.code else if n.clamped then 4 else 3
  { status := status, x := if n.overflow then [] else e.q.x, active := if n.overflow then [] else e.q.act.map (·.num), iter := Nat.min 255 e.q.iter,
    clamped := n.clamped, headStore := headroomOf 31 n.stored, headAcc := headroomOf 79 n.acc }

end Sys2Proof.Machine
end

