-- ==== Sys2Proof/Machine/Solver.lean ====
section
/-! DEFINITION. The solver array (R238, R243 to R269): moulds, descriptors, warm starts, fills and their two copies, lanes, dispatch, deadlines,
results and sparing. What a problem's run gives is `Mould.run`; when it ends arrives with the command; its record, status, counters and events follow here. -/
namespace Sys2Proof.Machine

/-- R249: the exchange area, 4 MiB. -/
def xchgBytes : Nat := 4194304

/-- Read words of the exchange area from a byte offset. -/
def State.xchgRun (s : State) (ofs n : Nat) : List Word := memGetRun zeroCell 1 s.xchg (ofs / 4) n

/-- Write words into the exchange area at a byte offset. -/
def State.xchgWrite (s : State) (ofs : Nat) (ws : List Word) : State := { s with xchg := memSetRun zeroCell 1 s.xchg (ofs / 4) ws }

/-- R249: what the masters of the exchange area placed there, by word index. -/
def State.place (s : State) (l : List (Nat × Word)) : State :=
  l.foldl (fun (t : State) e => if e.1 < xchgBytes / 4 then { t with xchg := memSet zeroCell t.xchg e.1 e.2 } else t) s

/-- Mould `m`, if it is present. -/
def State.mould? (s : State) (m : Nat) : Option Mould := afind s.slv.moulds m

/-- R252: the problem is in flight. -/
def Prob.inFlight (p : Prob) : Bool := p.status == 1 || p.status == 2

/-- The problem of a tag. -/
def State.prob (s : State) (tag : Nat) : Prob := aget {} s.slv.probs tag

/-- The tags in flight. -/
def State.flying (s : State) : List Nat := (s.slv.probs.filter (fun e => e.2.inFlight)).map (·.1)

/-- The tags in flight of a mould. -/
def State.flyingOf (s : State) (m : Nat) : List Nat := s.flying.filter (fun t => (s.prob t).mould == m)

/-- R262: the copies of a mould that problems in flight use. -/
def State.copiesInUse (s : State) (m : Nat) : List Nat := (s.flyingOf m).foldl (fun l t => insertNew l (s.prob t).copy) []

/-- Bring the registers of a mould up to date. -/
def State.showMould (s : State) (m : Nat) : State :=
  match s.mould? m with
  | some x =>
    ((s.setFld (F_SLV_MOULD_INFO_INFLIGHT m) (Nat.min 255 (s.flyingOf m).length)).setFld (F_SLV_MOULD_INFO_COPIES m)
      (Nat.min 2 (s.copiesInUse m).length)).setFlag (F_SLV_MOULD_INFO_STAGED m) x.staging.isSome
  | none => s

/-- Bring the registers of a tag up to date. -/
def State.showProb (s : State) (tag : Nat) : State :=
  let p := s.prob tag
  let t := s.setReg (A_SLV_PROB_STAT tag) (BitVec.ofNat 32 (p.status + 16 * p.flags + 4096 * p.lane + 1048576 * p.mould))
  (t.setFld F_SLV_STATUS_INFLIGHT t.flying.length).showMould p.mould

/-- Change the problem of a tag. -/
def State.setProb (s : State) (tag : Nat) (p : Prob) : State := ({ s with slv := { s.slv with probs := aset s.slv.probs tag p } }).showProb tag

/-- Bring SLV_FILLQ up to date. -/
def State.showQueue (s : State) (held : Bool) : State :=
  (s.setFld F_SLV_FILLQ_DEPTH s.slv.queue.length).setFlag F_SLV_FILLQ_HELD held

/-- R257: a command enters the queue, or is lost. -/
def State.slvPush (s : State) (c : SlvCmd) : State :=
  if s.slv.queue.length < 512 then ({ s with slv := { s.slv with queue := s.slv.queue ++ [c] } }).showQueue (s.flag F_SLV_FILLQ_HELD)
  else (s.event F_SLV_EVENT_REFUSED).raise 0x1505

/-- SLV_SUBMIT (R257): `placed` is what the master put into the exchange area before. -/
def execSlvSubmit (master : Nat) (value : Word) (placed : List (Nat × Word)) (s : State) : Host.Outcome State Fault Refusal :=
  .next ((s.place placed).commandWrite master A_SLV_SUBMIT value (fun t => t.slvPush (.submit (64 * bits value 21 6) master)))

/-- SLV_FILL (R257). -/
def execSlvFill (master : Nat) (value : Word) (placed : List (Nat × Word)) (s : State) : Host.Outcome State Fault Refusal :=
  .next ((s.place placed).commandWrite master A_SLV_FILL value (fun t => t.slvPush (.fill (4 * bits value 21 2))))

/-- R250: the length of a data block in bytes. -/
def Mould.dataBytes (m : Mould) : Nat := 4 * (10 + 3 * m.n + m.me + m.mi + m.nextra * (m.n + 1))

/-- A run of bytes lies within the exchange area, on a 64-byte boundary. -/
def inXchg (ofs len : Nat) : Bool := ofs % 64 == 0 && ofs + len ≤ xchgBytes

/-- R258: the descriptor passes its checks. [Log 48, DEDUCED, safe] -/
def State.descriptorOk (s : State) (d : List Word) (master : Nat) : Bool :=
  let flags := bits (nthW d 0) 23 16
  let nodl := tbit flags 1
  crcWords (d.take 15) == nthW d 15 && flags < 4 && (!nodl || (master == mKeeper && s.dev.freezes == 0)) &&
  (nodl || ((nthW d 4).toNat + 4294967296 - tsuNs s.tim.wt) % 4294967296 ≤ sec) &&
  (match s.mould? (bits (nthW d 0) 15 8) with
    | some m => inXchg (nthW d 1).toNat m.dataBytes && inXchg (nthW d 2).toNat 1024 && (!tbit flags 0 || inXchg (nthW d 3).toNat 1024)
    | none => false)

/-- R251: the active constraints of a result record. -/
def recordActive (r : List Word) : List Nat :=
  (List.range (bits (nthW r 2) 15 8)).map (fun k => bits (nthW r (136 + k / 2)) (16 * (k % 2) + 15) (16 * (k % 2)))

/-- R256: the warm start of a descriptor: WARM_USED and HASH_MISS, and the active constraints of a record that is used. -/
def State.warmFrom (s : State) (d : List Word) : Nat × List Nat :=
  if !tbit (bits (nthW d 0) 23 16) 0 then (0, [])
  else
    let ofs := (nthW d 3).toNat
    let r := s.xchgRun ofs 256
    let st := bits (nthW r 0) 11 8
    let good := crcWords (r.take 255) == nthW r 255 && (st == 3 || st == 4) && !(s.flying.any (fun t => (s.prob t).resOfs == ofs))
    let hash := match s.mould? (bits (nthW d 0) 15 8) with
      | some m => m.hash
      | none => 0#32
    if !good then (0, []) else if nthW r 1 = hash then (2, recordActive r) else (4, [])

/-- R262: a submission promotes the staging copy of its mould. -/
def State.promote (s : State) (m : Nat) : State :=
  match s.mould? m with
  | some x => match x.staging with
    | some g => ({ s with slv := { s.slv with moulds := aset s.slv.moulds m { x with live := g, staging := none, copy := x.copy + 1 } } }).showMould m
    | none => s
  | none => s

/-- R258, R261: a submission that passes its checks is QUEUED. -/
def State.accept (s : State) (d : List Word) : State :=
  let tag := bits (nthW d 0) 7 0
  let m := bits (nthW d 0) 15 8
  let w := s.warmFrom d
  let t := (s.promote m).when (w.1 == 4) (fun u => u.bump (word32 A_SLV_COLD_CNT))
  let x := (t.mould? m).getD {}
  let delta := ((nthW d 4).toNat + 4294967296 - tsuNs s.tim.wt) % 4294967296
  let u := { t with slv := { t.slv with order := t.slv.order ++ [tag] } }
  u.setProb tag { status := 1, mould := m, flags := w.1, lane := 0, resOfs := (nthW d 2).toNat, deadline := s.tim.wt + delta,
                  nodl := tbit (bits (nthW d 0) 23 16) 1, copy := x.copy, dataOfs := (nthW d 1).toNat, mats := x.live, warm := w.2 }

/-- SUBMISSION_PROCESS (R256, R258, R261, R262): the submission at the head of the queue. [Log 48, DEDUCED, safe] -/
def execSubmissionProcess (s : State) : Host.Outcome State Fault Refusal :=
  .next (match s.slv.queue with
    | .submit ofs master :: rest =>
      let t := ({ s with slv := { s.slv with queue := rest } }).showQueue false
      let d := t.xchgRun ofs 16
      let tag := bits (nthW d 0) 7 0
      if (t.prob tag).inFlight then (t.event F_SLV_EVENT_REFUSED).raise 0x1505
      else if t.descriptorOk d master then t.accept d
      else (t.setProb tag { status := 9, mould := bits (nthW d 0) 15 8 }).raise 0x150B (pay [tag])
    | _ => s)

/-- R260: where an entry lands: the keys of the stored entry and of its mirror; none when it may not be filled. -/
def Mould.landing (m : Mould) (mat row col : Nat) : Option (List Nat) :=
  let rows := if mat = 0 then m.n else if mat = 1 then m.me else m.mi
  if row < rows && col < m.n && (mat != 0 || col ≤ row) then
    match m.block mat (row / 16) (col / 16) with
    | some (i, true) =>
      let key := 256 * i + 16 * (row % 16) + col % 16
      some (if mat = 0 && row / 16 = col / 16 then [key, 256 * i + 16 * (col % 16) + row % 16] else [key])
    | _ => none
  else none

/-- R259, R260: the writes of one entry's mantissas. -/
def Mould.entryWrites (m : Mould) (mat row col : Nat) : List Word → Option (List (Nat × Word))
  | [] => some []
  | w :: r =>
    match m.landing mat row col, m.entryWrites mat row (col + 1) r with
    | some keys, some l => some (keys.map (fun k => (k, cleanMantissa w)) ++ l)
    | _, _ => none

/-- R259, R260: the writes of a fill's entry words, all or none. The fuel is their number. [Log 49, DESIGN CHOICE, unsafe] -/
def Mould.fillWrites (m : Mould) : Nat → List Word → Option (List (Nat × Word))
  | _, [] => some []
  | 0, _ => none
  | k + 1, h :: r =>
    let kind := bits h 31 30
    let count := bits h 7 0
    let ok := (kind == 0 && count == 1) || (kind == 1 && 1 ≤ count && count ≤ 128)
    if ok && bits h 29 28 ≤ 2 && count ≤ r.length then
      match m.entryWrites (bits h 29 28) (bits h 24 16) (bits h 14 8) (r.take count), m.fillWrites k (r.drop count) with
      | some a, some b => some (a ++ b)
      | _, _ => none
    else none

/-- R259, R260: the writes of a fill in the exchange area, or none when it is rejected. [Log 49, DESIGN CHOICE, unsafe] -/
def State.fillOf (s : State) (ofs : Nat) : Option (Nat × List (Nat × Word)) :=
  let h := nthW (s.xchgRun ofs 1) 0
  let n := bits h 31 16
  let ws := s.xchgRun (ofs + 8) n
  if 1 ≤ n && n ≤ 16384 && ofs + 8 + 4 * n ≤ xchgBytes && crcWords (h :: ws) == nthW (s.xchgRun ofs 2) 1 then
    match s.mould? (bits h 7 0) with
    | some m => match m.fillWrites n ws with
      | some l => some (bits h 7 0, l)
      | none => none
    | none => none
  else none

/-- R262: write a fill to a copy. -/
def applyWrites (c : Sparse 32) (l : List (Nat × Word)) : Sparse 32 := l.foldl (fun (a : Sparse 32) e => memSet zeroCell a e.1 e.2) c

/-- FILL_APPLY (R259 to R262): the fill at the head of the queue goes to the staging copy when one is pending or the live copy is in use, to the
live copy when no problem in flight uses it, and waits while both copies are in use. [Log 49, DESIGN CHOICE, unsafe] -/
def execFillApply (s : State) : Host.Outcome State Fault Refusal :=
  .next (match s.slv.queue with
    | .fill ofs :: rest =>
      let done := fun (t : State) => ({ t with slv := { t.slv with queue := rest } }).showQueue false
      match s.fillOf ofs with
      | none => (((done s).event F_SLV_EVENT_FILL_REJ)).raise 0x1506 (pay [bits (nthW (s.xchgRun ofs 1) 0) 7 0])
      | some (id, l) =>
        match s.mould? id with
        | none => s
        | some m =>
          let used := s.copiesInUse id
          let put := fun (x : Mould) => (done { s with slv := { s.slv with moulds := aset s.slv.moulds id x } }).showMould id
          match m.staging with
          | some g => put { m with staging := some (applyWrites g l) }
          | none =>
            if !used.contains m.copy then put { m with live := applyWrites m.live l }
            else if 2 ≤ used.length then s.showQueue true
            else put { m with staging := some (applyWrites m.live l) }
    | _ => s)

/-- R267: the state of a lane: 0 in service, 1 spare, 2 retired. -/
def State.lane (s : State) (n : Nat) : Nat := s.fld (F_SLV_LANEMAP_LANE (n / 16) (n % 16))

/-- Set the state of a lane, and the counts of SLV_STATUS with it. -/
def State.setLane (s : State) (n v : Nat) : State :=
  let t := s.setFld (F_SLV_LANEMAP_LANE (n / 16) (n % 16)) v
  let count := fun k => ((List.range 72).filter (fun i => t.lane i == k)).length
  (t.setFld F_SLV_STATUS_LANES (count 0)).setFld F_SLV_STATUS_SPARES (count 1)

/-- R238: the cluster of a lane. -/
def laneCluster (n : Nat) : Nat := n / 18

/-- R263: the free lanes in service. -/
def State.freeLanes (s : State) : List Nat :=
  let busy := (s.flying.filter (fun t => (s.prob t).status == 2)).map (fun t => (s.prob t).lane)
  (List.range 72).filter (fun n => s.lane n == 0 && !s.slv.faulted.contains n && !busy.contains n)

/-- R250: the words of a problem's data block. -/
def State.dataBlock (s : State) (p : Prob) : List Word :=
  match s.mould? p.mould with
  | some m => s.xchgRun p.dataOfs (m.dataBytes / 4)
  | none => []

/-- R238: a lane's local memory, 96 KiB, takes what the problem it starts works on; it is empty of it again when the problem leaves the lane. -/
def State.loadLane (s : State) (lane : Nat) (ws : List Word) : State :=
  { s with slv := { s.slv with laneMem := if ws.isEmpty then adel s.slv.laneMem lane else aset s.slv.laneMem lane (ws.take 24576) } }

/-- PROBLEM_START (R238, R263): the first problem in order starts on the lowest free lane. -/
def execProblemStart (s : State) : Host.Outcome State Fault Refusal :=
  .next (match s.slv.order, s.freeLanes with
    | tag :: rest, lane :: _ =>
      (({ s with slv := { s.slv with order := rest, lanesUsed := insertNew s.slv.lanesUsed lane } }).loadLane lane (s.dataBlock (s.prob tag))).setProb tag
        { s.prob tag with status := 2, lane := lane }
    | _, _ => s)

/-- R251: the record of a result, with its CRC. [Log 47, DEDUCED, unsafe] -/
def recordOf (tag status flags iter : Nat) (hash : Word) (lane cycles : Nat) (x : List Word) (active : List Nat) : List Word :=
  let body := [BitVec.ofNat 32 (tag % 256 + 256 * status + 4096 * (flags % 256) + 16777216 * (iter % 256)), hash,
      BitVec.ofNat 32 (lane + 256 * active.length), toWord (Nat.min 4294967295 cycles), 0#32, 0#32, 0#32, 0#32] ++ padWords 128 x ++
    (List.range 64).map (fun k => halves (nth active (2 * k)) (nth active (2 * k + 1))) ++ List.replicate 55 0#32
  body ++ [crcWords body]

/-- R253, R263: a problem leaves flight with a status: its record, then its status, then the event bits. -/
def State.finish (s : State) (tag status flags : Nat) (rec : List Word) : State :=
  let p := s.prob tag
  let t := (({ s with slv := { s.slv with order := remove s.slv.order tag } }).loadLane p.lane []).xchgWrite p.resOfs rec
  let u := t.setProb tag { p with status := status, flags := flags }
  if u.flying.isEmpty then u.event F_SLV_EVENT_BATCH_DONE else u

/-- The hash of a mould. -/
def State.mouldHash (s : State) (m : Nat) : Word :=
  match s.mould? m with
  | some x => x.hash
  | none => 0#32

/-- R268: the headroom monitor. -/
def State.noteHeadroom (s : State) (m store acc : Nat) : State :=
  let t := (s.setFld (F_SLV_MOULD_HEAD_MIN_STORE m) (Nat.min store (s.fld (F_SLV_MOULD_HEAD_MIN_STORE m)))).setFld (F_SLV_MOULD_HEAD_MIN_ACC m)
    (Nat.min acc (s.fld (F_SLV_MOULD_HEAD_MIN_ACC m)))
  match s.mould? m with
  | some x =>
    if (store < x.anStore || acc < x.anAcc) && !s.slv.headWarned.contains m then
      (({ t with slv := { t.slv with headWarned := insertNew t.slv.headWarned m } }).event F_SLV_EVENT_HEADROOM).raise 0x1504 (pay [m])
    else t
  | none => t

/-- R247 to R256, R266: what the run of a problem gives: a function of the mould's contents, the data block and the warm-start record. -/
def State.runOf (s : State) (p : Prob) : LaneResult :=
  ((s.mould? p.mould).getD {}).run p.mats (aget [] s.slv.laneMem p.lane) p.warm

/-- R255: a problem ended OVERFLOW: its count, its event, and the alarm at the first one of a mould after a cycle with none. -/
def State.noteOverflow (s : State) (m : Nat) : State :=
  let new := !s.slv.ovfNow.contains m && !s.slv.ovfLast.contains m
  let t := (s.bump (word32 A_SLV_OVF_CNT)).event F_SLV_EVENT_OVERFLOW_EVT
  let u := { t with slv := { t.slv with ovfNow := insertNew t.slv.ovfNow m } }
  if new then u.raise 0x1501 (pay [m]) else u

/-- R254: a problem with a clamped pivot: its count, its event, and the alarm at most once per mould per minute. -/
def State.noteClamp (s : State) (m : Nat) : State :=
  let t := (s.bump (word32 A_SLV_CLAMP_CNT)).event F_SLV_EVENT_CLAMP_EVT
  if t.limited t.slv.clampAt m (60 * sec) then ({ t with slv := { t.slv with clampAt := aset t.slv.clampAt m t.tim.el } }).raise 0x1502 (pay [m]) else t

/-- PROBLEM_END (R251 to R256, R262, R268): the running problem of a tag ends on its lane after `cycles` SLV cycles. -/
def execProblemEnds (tag cycles : Nat) (s : State) : Host.Outcome State Fault Refusal :=
  .next (
    let p := s.prob tag
    if p.status != 2 then s
    else
      let r := s.runOf p
      let flags := p.flags + bit r.clamped
      let r0 := recordOf tag r.status flags r.iter (s.mouldHash p.mould) p.lane cycles (r.x.map (BitVec.ofInt 32)) r.active
      let s1 := (s.finish tag r.status flags r0).when (r.status == 5) (fun t => t.noteOverflow p.mould)
      (s1.when r.clamped (fun t => t.noteClamp p.mould)).noteHeadroom p.mould r.headStore r.headAcc)

/-- R266: two result records of one problem agree: every field but LANE, CYCLES and CRC, and the flags but RESTARTED. -/
def sameRecord (a b : List Word) : Bool :=
  let f := fun (w : Word) => bits w 14 0 + 65536 * bits w 31 16
  f (nthW a 0) == f (nthW b 0) && nthW a 1 == nthW b 1 && bits (nthW a 2) 15 8 == bits (nthW b 2) 15 8 &&
  (List.range 251).all (fun k => nthW a (4 + k) == nthW b (4 + k))

/-- R251: the record of a problem that was stopped. The manual states its TAG, STATUS, FLAGS, hash and CRC; every other word is a free value. [Log 47, DEDUCED, unsafe] -/
def State.stoppedRecord (s : State) (tag status flags : Nat) : List Word :=
  let f := fun k => Config.freeWord (s.freeCtr + k)
  let p := s.prob tag
  let body := BitVec.ofNat 32 (tag % 256 + 256 * status + 4096 * (flags % 256) + 16777216 * bits (f 0) 7 0) :: s.mouldHash p.mould ::
    BitVec.ofNat 32 (p.lane + 256 * bits (f 1) 7 0) :: (f 2) :: [0#32, 0#32, 0#32, 0#32] ++ (List.range 192).map (fun k => f (3 + k)) ++
    List.replicate 55 0#32
  body ++ [crcWords body]

/-- A problem is stopped: its record with free values, and its status. -/
def State.stopProblem (s : State) (tag status flags : Nat) : State :=
  let t := s.finish tag status flags (s.stoppedRecord tag status flags)
  { t with freeCtr := t.freeCtr + 195 }

/-- PROBLEM_DEADLINE (R252, R263): the alarm with the number stopped in the cycle follows in the bookkeeping window. -/
def execProblemDeadline (tag : Nat) (s : State) : Host.Outcome State Fault Refusal :=
  .next (
    let p := s.prob tag
    if p.inFlight && !p.nodl then
      let t := ((s.reach p.deadline).stopProblem tag 6 p.flags).event F_SLV_EVENT_DEADLINE_EVT
      { t with slv := { t.slv with stopped := t.slv.stopped + 1 } }
    else s)

/-- LANE_FAULT (R264, R288): the problem restarts once on another lane; a second fault ends it. [Log 50, DEDUCED, unsafe] -/
def execLaneFault (lane : Nat) (s : State) : Host.Outcome State Fault Refusal :=
  .next (if s.lane lane = 2 || 71 < lane then s
    else
      let t := { s with slv := { s.slv with faulted := insertNew s.slv.faulted lane } }
      match s.flying.find? (fun g => (s.prob g).status == 2 && (s.prob g).lane == lane) with
      | none => t
      | some g =>
        let p := s.prob g
        if p.restarted then
          let u := t.stopProblem g 10 p.flags
          ({ u with twn := { u.twn with selfS := true } }).raise 0x150A (pay [g])
        else
          let u := ((t.loadLane p.lane []).setProb g { p with status := 1, restarted := true, flags := p.flags + 8 }).bump (word32 A_SLV_RESTART_CNT)
          ({ u with slv := { u.slv with order := g :: u.slv.order } }).raise 0x1507 (pay [lane]))

/-- LANE_ECC_CORRECTED (R265, R473). -/
def execLaneEccCorrected (lane : Nat) (s : State) : Host.Outcome State Fault Refusal :=
  .next (if s.lane lane = 2 || 71 < lane then s
    else
      let t := s.bump F_SLV_ECC_CNT_CORRECTED
      { t with hlt := { t.hlt with
        eccCorr := Nat.min 4294967295 (t.hlt.eccCorr + 1)
        corrHour := aset t.hlt.corrHour 2 (Nat.min 65535 (aget 0 t.hlt.corrHour 2 + 1)) } })

/-- R267: the spares left in a cluster, lowest first. -/
def State.clusterSpares (s : State) (c : Nat) : List Nat :=
  (List.range 72).filter (fun n => laneCluster n == c && s.lane n == 1 && !s.slv.faulted.contains n && !s.slv.toRetire.contains n)

/-- The lanes that leave service at the next freeze, and the clusters that wait for a spare. -/
def State.lanesOut (s : State) : List Nat := s.slv.faulted ++ s.slv.toRetire.filter (fun n => !s.slv.faulted.contains n)
def State.clustersShort (s : State) : List Nat :=
  ((s.lanesOut.filter (fun n => s.lane n == 0)).map laneCluster ++ s.slv.owed).filter (fun c => !(s.clusterSpares c).isEmpty)

/-- R267, R472, R476: the known-answer problem of a bookkeeping window: on the spare of a cluster that needs one, else on the next lane of the
rotation that is not retired. -/
def State.katLane (s : State) : Nat :=
  match s.clustersShort with
  | c :: _ => ((s.clusterSpares c).head?).getD s.hlt.katNext
  | [] =>
    let order := (List.range 72).map (fun i => (s.hlt.katNext + i) % 72)
    ((order.filter (fun n => s.lane n != 2)).head?).getD s.hlt.katNext

/-- R473, R476: the outcome of a known-answer problem. [Log 68, DEDUCED, unsafe] -/
def State.katWork (s : State) (passed : Bool) : State :=
  let n := s.katLane
  let swap := !s.clustersShort.isEmpty
  let t := (s.setFld F_SLV_KAT_LANE n).setFlag F_SLV_KAT_PASS passed
  let u := { t with hlt := { t.hlt with katNext := if swap then t.hlt.katNext else (n + 1) % 72 } }
  if passed then (if swap then { u with slv := { u.slv with ready := some n } } else u)
  else
    let v := { u with
      hlt := { u.hlt with katFails := Nat.min 65535 (u.hlt.katFails + 1) }
      slv := { u.slv with toRetire := insertNew u.slv.toRetire n }
      twn := { u.twn with selfS := u.twn.selfS || u.slv.lanesUsed.contains n } }
    v.raise 0x0C0D (pay [n])

/-- R263: at most one alarm per cycle for the problems stopped. -/
def State.solverWork (s : State) (katPass : Bool) : State :=
  let t := if s.slv.stopped = 0 then s else ({ s with slv := { s.slv with stopped := 0 } }).raise 0x1503 (pay [s.slv.stopped])
  t.katWork katPass

/-- R267: a spare enters service in its cluster. -/
def State.spareIn (s : State) (n : Nat) : State :=
  let t := s.setLane n 0
  if (t.clusterSpares (laneCluster n)).isEmpty then t.raise 0x1509 (pay [laneCluster n]) else t

/-- The number in an alarm's payload when there is no spare. [Log 50, DEDUCED, unsafe] -/
def noSpare : Nat := 255

/-- R267, R475: a lane is retired at a freeze; a spare that passed its known-answer problem takes its place. [Log 50, DEDUCED, unsafe] -/
def State.retireLane (s : State) (n : Nat) : State :=
  let wasActive := s.lane n == 0
  let t := ({ s.setLane n 2 with mram := { s.mram with riserLanes := insertNew s.mram.riserLanes n } }).countRetired (keyLane n)
  let u := t.event F_SLV_EVENT_LANE_RETIRED
  match u.slv.ready with
  | some r =>
    if wasActive && laneCluster r = laneCluster n && r != n then
      (({ u with slv := { u.slv with ready := none } }).raise 0x1508 (pay [n, r])).spareIn r
    else (if wasActive then { u with slv := { u.slv with owed := u.slv.owed ++ [laneCluster n] } } else u).raise 0x1508 (pay [n, noSpare])
  | none => (if wasActive then { u with slv := { u.slv with owed := u.slv.owed ++ [laneCluster n] } } else u).raise 0x1508 (pay [n, noSpare])

/-- R264, R267: what a freeze changes on the array. [Log 50, DEDUCED, unsafe] -/
def State.lanesFreeze (s : State) : State :=
  let t := s.each s.lanesOut State.retireLane
  let u := { t with slv := { t.slv with faulted := [], toRetire := [], lanesUsed := [], ovfLast := t.slv.ovfNow, ovfNow := [] } }
  match u.slv.ready with
  | some r =>
    let v := { u with slv := { u.slv with ready := none, owed := u.slv.owed.erase (laneCluster r) } }
    if u.slv.owed.contains (laneCluster r) && u.lane r = 1 then v.spareIn r else v
  | none => u

/-- R243: the field ranges of a mould header, its image length and the number of exponents. -/
def headerOk (w : List Word) : Bool :=
  let n := bits (nthW w 1) 23 16
  let me := bits (nthW w 1) 31 24
  let mi := bits (nthW w 2) 8 0
  let nx := bits (nthW w 2) 23 16
  let nb := (n + 15) / 16
  let nblk := bits (nthW w 5) 15 0
  let nexp := bits (nthW w 5) 31 16
  let size := (nthW w 9).toNat
  let within := fun (ofs len : Nat) => 64 ≤ ofs && ofs + len ≤ size
  nthW w 0 == 0x4D4C4453#32 && bits (nthW w 1) 11 8 ≤ 2 && 1 ≤ n && n ≤ 128 && me ≤ 16 && mi ≤ 256 && nx ≤ 16 && 1 ≤ bits (nthW w 2) 31 24 &&
  bits (nthW w 4) 15 8 ≤ 31 && bits (nthW w 4) 23 16 ≤ 79 && 1 ≤ nblk && nblk ≤ 188 &&
  nexp == nblk + nb * (nb + 1) + 2 * nb + (me + 15) / 16 + (mi + 15) / 16 + 2 * nx + 1 && size % 64 == 0 &&
  (nthW w 8).toNat % 64 == 0 && within (nthW w 6).toNat ((nexp + 3) / 4 * 4) && within (nthW w 7).toNat (2 * nblk) && within (nthW w 8).toNat (1024 * nblk)

/-- R244: the block map is in ascending order and names blocks of the matrices only. -/
def mapOk (n me mi : Nat) : List Nat → Bool
  | [] => true
  | e :: r =>
    let mat := e / 4096
    let row := e / 256 % 16
    let col := e % 128 / 16
    let rows := if mat = 0 then n else if mat = 1 then me else mi
    let key := fun (x : Nat) => x / 256 * 8 + x % 128 / 16
    mat ≤ 2 && 16 * row < rows && 16 * col < n && (mat != 0 || col ≤ row) && e % 16 == 0 &&
    (match r with
      | f :: _ => decide (key e < key f)
      | [] => true) && mapOk n me mi r

/-- A byte as a signed exponent. -/
def signedByte (b : Byte) : Int := b.toInt

/-- R243 to R245: load one mould image from the front of a parameter's words; the mould, and how many words its image takes. -/
def loadMould (ws : List Word) : Option (Nat × Mould × Nat) :=
  let w := ws.take 16
  let size := (nthW w 9).toNat
  if w.length = 16 && headerOk w && size / 4 ≤ ws.length then
    let img := ws.take (size / 4)
    let bytes := wordsBytes img
    let nblk := bits (nthW w 5) 15 0
    let nexp := (bits (nthW w 5) 31 16 + 3) / 4 * 4
    let exps := (bytes.drop (nthW w 6).toNat).take nexp
    let mapBytes := (bytes.drop (nthW w 7).toNat).take (2 * nblk)
    let map := (List.range nblk).map (fun k => leNat ((mapBytes.drop (2 * k)).take 2))
    let head := [nthW w 1, nthW w 2, nthW w 4, nthW w 5]
    let hash := crc32c (wordsBytes head ++ exps ++ mapBytes)
    let crc := crc32c (bytes.take 60 ++ bytes.drop 64)
    if crc = nthW w 15 && hash = nthW w 3 && mapOk (bits (nthW w 1) 23 16) (bits (nthW w 1) 31 24) (bits (nthW w 2) 8 0) map then
      let live := memSetRun zeroCell 1 ([] : Sparse 32) 0 (((img.drop ((nthW w 8).toNat / 4)).take (256 * nblk)).map cleanMantissa)
      some (bits (nthW w 1) 7 0, { head := head, hash := hash, map := map, exps := exps.map signedByte, live := live, pages := 2 * ((size + 4095) / 4096) }, size / 4)
    else none
  else none

/-- R243: the moulds of one parameter, images end to end. The fuel is the number of its words. -/
def loadMoulds : Nat → List Word → Option (List (Nat × Mould))
  | _, [] => some []
  | 0, _ => none
  | k + 1, ws =>
    match loadMould ws with
    | some (id, m, n) => match loadMoulds k (ws.drop n) with
      | some l => some ((id, m) :: l)
      | none => none
    | none => none

/-- R243, R246: every mould of the Pattern: unique numbers, and pages for all of them. -/
def mouldsOf (params : List (List Word)) : Option (List (Nat × Mould)) :=
  let all := params.foldl (fun (a : Option (List (Nat × Mould))) ws => match a, loadMoulds ws.length ws with
    | some x, some y => some (x ++ y)
    | _, _ => none) (some [])
  match all with
  | some l =>
    let ids := l.map (·.1)
    if ids.eraseDups.length = ids.length && (l.map (fun e => e.2.pages)).foldl (· + ·) 0 ≤ 4096 then some l else none
  | none => none

/-- R243: the parameters that hold mould images. -/
def mouldPids : List Nat := [0x0210, 0x0320, 0x0321, 0x0322]

/-- R245: load the moulds of the Pattern into the mould store, and show them. -/
def State.storeMoulds (s : State) (l : List (Nat × Mould)) : State :=
  l.foldl (fun (t : State) e =>
    ((t.setReg (A_SLV_MOULD_INFO e.1) (BitVec.ofNat 32 (256 + e.2.n))).setReg (A_SLV_MOULD_HASH e.1) e.2.hash).setReg (A_SLV_MOULD_HEAD e.1)
      (quarters 79 31 e.2.anAcc e.2.anStore)) { s with slv := { s.slv with moulds := l } }

/-- R300: the fillable entries of a mould, which the twin state carries. -/
def Mould.fillable (m : Mould) : List (Nat × Word) := m.live.filter (fun e => tbit (nth m.map (e.1 / 256)) 7)

end Sys2Proof.Machine
end

