-- ==== Sys2Proof/Machine/Pose.lean ====
section
/-! DEFINITION. How the control pairs pose their problems to the solver array (R167, R169, R170, R201, R219, R226, R236, R249, R250, R259): descriptors, data
blocks and fills in the exchange area, the prediction over a horizon and the cost on it. -/
namespace Sys2Proof.Machine

/-- The offsets at which the control pairs place what belongs to a tag: descriptor, result record, data block; the record that the control problem
warm-starts from; and the fills of a cycle. [Log 104, DESIGN CHOICE, safe] -/
def descOfs (tag : Nat) : Nat := 64 * tag
def resOfs (tag : Nat) : Nat := 16384 + 1024 * tag
def warmOfs : Nat := resOfs 256
def dataOfs (tag : Nat) : Nat := 279552 + 11008 * tag
def fillOfs (k : Nat) : Nat := 3097600 + 65600 * k

/-- The tags of the control problem and of the nominal allocation. [Log 104, DESIGN CHOICE, safe] -/
def controlTag : Nat := 255
def nominalTag : Nat := 0

/-- R239: a number as a mantissa at exponent `e`, to the nearest with ties away from zero, saturated. [Log 104, DESIGN CHOICE, safe] -/
def asMantissa (q : Rat) (e : Int) : Word :=
  let s := 31 - e
  let v := roundRat (if 0 ≤ s then q * ((2 ^ s.toNat : Nat) : Rat) else q / ((2 ^ (-s).toNat : Nat) : Rat))
  BitVec.ofInt 32 (saturate (-(2 ^ 31 - 1)) (2 ^ 31 - 1) v).1

/-- R239: the number that a mantissa at exponent `e` stands for. -/
def ofMantissa (m e : Int) : Rat :=
  let s := e - 31
  if 0 ≤ s then (m : Rat) * ((2 ^ s.toNat : Nat) : Rat) else (m : Rat) / ((2 ^ (-s).toNat : Nat) : Rat)

/-- R243: the number of the image of a parameter that serves the present mode: the image at the mode's place, or the last. [Log 104, DESIGN CHOICE, safe] -/
def State.mouldOf (s : State) (pid : Nat) : Option Nat :=
  match loadMoulds (s.parGiven pid).length (s.parGiven pid) with
  | some l => (l[Nat.min (s.dev.mode - 1) (l.length - 1)]?).map (·.1)
  | none => none

/-- R249, R257: pose a problem: its data block and descriptor in the exchange area, and its submission. [Log 104, DESIGN CHOICE, safe] -/
def State.poseProblem (s : State) (tag mould : Nat) (warm : Bool) (data : List Word) (deadline : Nat) : State :=
  let d := [BitVec.ofNat 32 (tag + 256 * mould + 65536 * bit warm), BitVec.ofNat 32 (dataOfs tag), BitVec.ofNat 32 (resOfs tag),
    BitVec.ofNat 32 (if warm then warmOfs else 0), BitVec.ofNat 32 (tsuNs deadline)] ++ List.replicate 10 0#32
  ((s.xchgWrite (dataOfs tag) data).xchgWrite (descOfs tag) (d ++ [crcWords d])).slvPush (.submit (descOfs tag) mControl0)

/-- The problem of a tag has not ended: its submission waits in the queue, or it is in flight. -/
def State.problemWaits (s : State) (tag : Nat) : Bool := s.slv.queue.contains (.submit (descOfs tag) mControl0) || (s.prob tag).inFlight

/-- R251: the value of variable `i` in the result record of a tag. -/
def State.resultOf (s : State) (tag i : Nat) : Rat :=
  match s.mould? (s.prob tag).mould with
  | some m => ofMantissa (nthW (s.xchgRun (resOfs tag) 256) (8 + i)).toInt (m.expX i)
  | none => 0

/-- A mask word with its lowest `n` bits set. -/
def maskWord (n : Nat) : Word := BitVec.ofNat 32 (2 ^ Nat.min n 32 - 1)

/-- What a data block holds beside the mould's exponents: numbers by index, and the extra rows, each with its bound and whether it is an equality. -/
structure Block where
  f : Nat → Rat
  low : Nat → Rat
  high : Nat → Rat
  e : Nat → Rat
  h : Nat → Rat
  rowsG : Nat
  extra : List (List Rat × Rat × Bool)

/-- R250: the words of a data block for a mould. -/
def Mould.blockWords (m : Mould) (b : Block) : List Word :=
  let xs := b.extra.take m.nextra
  let eqs := maskOf ((xs.zipIdx.filter (fun r => r.1.2.2)).map (·.2))
  [BitVec.ofNat 32 (2 ^ m.me - 1 + 65536 * (2 ^ xs.length - 1)), BitVec.ofNat 32 eqs] ++
  (List.range 8).map (fun j => maskWord (Nat.min b.rowsG m.mi - 32 * j)) ++
  (List.range m.n).map (fun i => asMantissa (b.f i) (m.expF i)) ++
  (List.range m.n).map (fun i => asMantissa (b.low i) (m.expX i)) ++
  (List.range m.n).map (fun i => asMantissa (b.high i) (m.expX i)) ++
  (List.range m.me).map (fun i => asMantissa (b.e i) (m.expE i)) ++
  (List.range m.mi).map (fun i => asMantissa (b.h i) (m.expH i)) ++
  (List.range m.nextra).flatMap (fun k => match xs[k]? with
    | some r => (List.range m.n).map (fun i => asMantissa (r.1.getD i 0) (m.expCoef k)) ++ [asMantissa r.2.1 (m.expBound k)]
    | none => List.replicate (m.n + 1) 0#32)

/-- R169, R219: a prediction over 40 steps. Errors are in 0.001 mm and 0.000001°, velocities in mm/s and 0.001°/s, the disturbance in N and N·m; the
weights are normalised. `qPos` is row-major. -/
structure Horizon where
  stepMs : Nat
  model : List Int
  err : List Int
  vel : List Int
  dist : List Int
  last : List Int
  qPos : List Rat
  qVel : List Rat
  wForce : List Rat
  wRate : List Rat

/-- R169: the 3-DOF model M ν̇ + D ν = τ + d: error (0 to 2) or velocity (3 to 5) after `j` steps without force. How the model is made discrete is open. -/
def Horizon.free (h : Horizon) (j c : Nat) : Rat :=
  (Config.calc .response (h.model ++ [(h.stepMs : Int), j] ++ h.err ++ h.vel ++ h.dist) c : Int)

/-- R169: what a force of 1 N or 1 N·m in axis `a` during one step changes in component `c` `i` steps after its start. -/
def Horizon.answer (h : Horizon) (i c a : Nat) : Rat :=
  (Config.calc .response (h.model ++ [(h.stepMs : Int), i]) (6 + 6 * a + c) : Int) / 1000000000

/-- The sum of `f k` for k below `n`. -/
def sumTo (n : Nat) (f : Nat → Rat) : Rat := (List.range n).foldl (fun a k => a + f k) 0

/-- R169, R220: component `c` after `j` steps under the forces `tau`. -/
def Horizon.path (h : Horizon) (tau : Nat → Nat → Rat) (j c : Nat) : Rat :=
  h.free j c + sumTo j (fun k => sumTo 3 (fun a => h.answer (j - k) c a * tau k a))

/-- R169: the last step's error and velocity terms are weighted ten times. -/
def stepWeight (j : Nat) : Rat := if j = 40 then 10 else 1

/-- R169: the product of two predictions of step `j` under the weights of position and velocity. -/
def Horizon.weighted (h : Horizon) (u v : Nat → Rat) : Rat :=
  sumTo 3 (fun c => sumTo 3 (fun k => u c * h.qPos.getD (3 * c + k) 0 * v k)) + sumTo 3 (fun c => u (3 + c) * h.qVel.getD c 0 * v (3 + c))

/-- R169: the gradient of the cost at zero force, for the force of step `k` in axis `a`. -/
def Horizon.gradient (h : Horizon) (k a : Nat) : Rat :=
  2 * sumTo (40 - k) (fun i => stepWeight (k + i + 1) * h.weighted (fun c => h.answer (i + 1) c a) (h.free (k + i + 1))) -
    (if k = 0 then 2 * h.wRate.getD a 0 * ((nthI h.last a : Int) : Rat) else 0)

/-- R169: the second derivative of the cost: forces of steps `k` and `l` in axes `a` and `b`. -/
def Horizon.curvature (h : Horizon) (k a l b : Nat) : Rat :=
  let m := Nat.max k l
  2 * sumTo (40 - m) (fun i => stepWeight (m + i + 1) * h.weighted (fun c => h.answer (m + i + 1 - k) c a) (fun c => h.answer (m + i + 1 - l) c b)) +
    (if a = b then
      (if k = l then 2 * h.wForce.getD a 0 + (if k < 39 then 4 else 2) * h.wRate.getD a 0
       else if k = l + 1 || l = k + 1 then -2 * h.wRate.getD a 0 else 0)
     else 0)

/-- R169: entry (i, j) of the Hessian: variable 3k + a is the force of step k in axis a. -/
def Horizon.hessian (h : Horizon) (i j : Nat) : Rat := if i < 120 && j < 120 then h.curvature (i / 3) (i % 3) (j / 3) (j % 3) else 0

/-- R170, R219: the data block of a horizon's problem: `box` gives the bounds of a step and axis, `rate` the largest change between steps.
Row 6(j − 1) + 2a of G bounds a rise of axis a into step j, the row after it a fall. -/
def Horizon.block (h : Horizon) (box : Nat → Nat → Rat × Rat) (rate : Nat → Rat) : Block :=
  { f := fun i => if i < 120 then h.gradient (i / 3) (i % 3) else 0
    low := fun i => if i < 120 then (box (i / 3) (i % 3)).1 else 0
    high := fun i => if i < 120 then (box (i / 3) (i % 3)).2 else 0
    e := fun _ => 0
    h := fun r => rate (r % 6 / 2)
    rowsG := 234
    extra := [] }

/-- R259: one run of a fill: a row of an H block on or below the diagonal. -/
def Mould.fillRun (m : Mould) (val : Nat → Nat → Rat) (blk row : Nat) : List Word :=
  let e := nth m.map blk
  let col := 16 * (e % 128 / 16)
  let n := Nat.min 16 (Nat.min (row + 1) m.n - col)
  if n = 0 || m.n ≤ row then []
  else BitVec.ofNat 32 (1073741824 + 65536 * row + 256 * col + n) :: (List.range n).map (fun k => asMantissa (val row (col + k)) (nthI m.exps blk))

/-- R259: the entry words of a fill of every fillable block of H. [Log 49, DESIGN CHOICE, unsafe] -/
def Mould.fillWords (m : Mould) (val : Nat → Nat → Rat) : List Word :=
  ((List.range m.map.length).filter (fun i => nth m.map i < 4096 && tbit (nth m.map i) 7)).flatMap (fun i =>
    (List.range 16).flatMap (fun r => m.fillRun val i (16 * (nth m.map i / 256 % 16) + r)))

/-- R201, R236, R259: a fill of mould `id`, as the `k`-th of the cycle; a mould without a fillable block of H takes none. -/
def State.poseFill (s : State) (k id : Nat) (val : Nat → Nat → Rat) : State :=
  match s.mould? id with
  | some m =>
    let ws := (m.fillWords val).take 16384
    let h := BitVec.ofNat 32 (id + 65536 * ws.length)
    if ws.isEmpty then s else (s.xchgWrite (fillOfs k) (h :: crcWords (h :: ws) :: ws)).slvPush (.fill (fillOfs k))
  | none => s

end Sys2Proof.Machine
end

