-- ==== Sys2Proof/Machine/Control.lean ====
section
/-! DEFINITION. The vessel control law (R167 to R193): reference, errors, deadband, integrals, wind feedforward, the demand and its fallbacks,
supervision and tuning injections. The control problem is posed to the solver array and its result read back. How the vessel model is made discrete is a
computation of `Config.calc`; the cost on it, every bound, rate, timer, turn and ramp of the manual is exact. -/
namespace Sys2Proof.Machine

/-- The period of the present mode's cycle in ms. -/
def State.periodMs (s : State) : Nat := s.dev.period / ms

/-- A parameter with three values per mode (R201). -/
def State.parMode3 (s : State) (pid k : Nat) : Nat := s.par pid (3 * (s.dev.mode - 1) + k)

/-- R154, R184: the device dead-reckons position or heading. -/
def State.deadReckons (s : State) : Bool := (s.quant 0).dr.isSome || (s.quant 1).dr.isSome

/-- R168: one step of a straight line from `a` towards `b`, at most `step` long. -/
def lineStep (a b : Int × Int) (step : Nat) : Int × Int :=
  let d := sq2 (b.1 - a.1) (b.2 - a.2)
  if d ≤ step * step then b
  else let l : Int := csqrt d; (a.1 + ((b.1 - a.1) * step).tdiv l, a.2 + ((b.2 - a.2) * step).tdiv l)

/-- R168: one step of a turn, the shorter way. -/
def turnStep (a b : Int) (step : Nat) : Int :=
  let d := wrapMicro (b - a)
  (a + clampI (-step) step d) % 360000000

/-- R168: T1, T6 and the loss of a Follow reference put the reference and the set-point to the fused position and heading. A SET_POINT accepted in the same
cycle comes after that and keeps its set-point. -/
def State.takeFused (s : State) : State :=
  if s.ctl.setFused then
    let p := [s.pubVal 0, s.pubVal 1, s.pubVal 2]
    { s with ctl := { s.ctl with ref := p.map (· * 1000), setFused := false }
             dev := { s.dev with setPoint := if s.ctl.spNew then s.dev.setPoint else p } }
  else s

/-- R168: the reference moves towards the set-point. -/
def State.moveToSetPoint (s : State) : State :=
  let r := s.ctl.ref
  let p := lineStep (nthI r 0, nthI r 1) (nthI s.dev.setPoint 0 * 1000, nthI s.dev.setPoint 1 * 1000) (s.par 0x070F * s.periodMs)
  let h := turnStep (nthI r 2) (nthI s.dev.setPoint 2 * 1000) (s.par 0x0710 * s.periodMs)
  { s with ctl := { s.ctl with ref := [p.1, p.2, h] } }

/-- R180: the bearing of a track, 0.000001°. -/
def bearing (dn de : Int) : Int := angleOf dn de

/-- R180: the reference runs along the accepted track. [Log 42, DESIGN CHOICE, unsafe] -/
def State.moveOnTrack (s : State) : State :=
  match s.dev.track with
  | none => s
  | some t =>
    let dn := (nthI t 2 - nthI t 0) * 1000
    let de := (nthI t 3 - nthI t 1) * 1000
    let len : Int := csqrt (sq2 dn de)
    let a := s.ctl.trackAt + nthI t 4 * s.periodMs
    let h := if s.par 0x0713 = 0 then nthI s.dev.setPoint 2 * 1000 else bearing dn de
    if len ≤ a then { s with ctl := { s.ctl with trackAt := len, trackEnd := true, ref := [nthI t 2 * 1000, nthI t 3 * 1000, h] } }
    else { s with ctl := { s.ctl with trackAt := a, trackEnd := false,
                                      ref := [nthI t 0 * 1000 + (dn * a).tdiv len, nthI t 1 * 1000 + (de * a).tdiv len, h] } }

/-- R445, R451: FORM_PERIOD_MS in ns. -/
def State.formPeriod (s : State) : Nat := s.par 0x0A04 * ms

/-- R446, R451: FUS_DATUM equals FORM_DATUM. Otherwise positions are converted on the WGS 84 ellipsoid, whose arithmetic the manual does not give. [Log 64, DESIGN CHOICE, safe] -/
def State.sameDatum (s : State) : Bool := (List.range 3).all (fun k => s.parW 0x0501 k == s.parW 0x0A06 k)

/-- The two datums, as inputs of a conversion. -/
def State.datums (s : State) : List Int := (List.range 3).map (fun k => s.parI 0x0501 k) ++ (List.range 3).map (fun k => s.parI 0x0A06 k)

/-- R451: the member's entry of the merged set gives the Follow reference: it is valid for the pour of its publication, 2 ms before its epoch. -/
def State.takeMember (s : State) (m : Nat) : State :=
  match s.unitRecord m with
  | some r =>
    let w := fun (k : Nat) => (nthW r k).toInt
    let p := if s.sameDatum then [w 5, w 6] else [Config.calc .other ([w 5, w 6] ++ s.datums) 2, Config.calc .other ([w 5, w 6] ++ s.datums) 3]
    { s with ctl := { s.ctl with
      follow := some (p ++ [w 7, w 8, w 9, w 10])
      followFor := s.elk.epoch * s.formPeriod - 2 * ms
      followAt := s.freezeEl } }
  | none => s

/-- R133, R184: a tracked target that a slot delivered in this cycle gives the Follow reference. -/
def State.takeTarget (s : State) : State :=
  match s.dev.follow with
  | some (w :: _) =>
    let n := w.toNat - 0x10000
    if 0x10000 ≤ w && s.slotUsed n && (s.fslot n).fresh then
      let v := aget [] (s.fslot n).vals 6
      { s with ctl := { s.ctl with
        follow := some [nthI v 0, nthI v 1, Config.calc .measure v 20, Config.calc .measure v 21, Config.calc .measure v 22, 0]
        followFor := s.dev.freezeAt
        followAt := s.freezeEl } }
    else if w < 0x10000 then s.takeMember w.toNat else s
  | _ => s

/-- R181: the followed reference at the cycle's pour, with the ordered offset turned by its heading. [Log 42, DESIGN CHOICE, unsafe] -/
def State.moveFollow (s : State) : State :=
  match s.dev.follow, s.ctl.follow with
  | some o, some f =>
    let dt : Int := (s.dev.pourAt : Int) - s.ctl.followFor
    let h := (nthI f 2 * 1000 + (nthI f 5 * dt).tdiv 1000000) % 360000000
    let ofs := turned (nthI o 1 * 1000) (nthI o 2 * 1000) h
    { s with ctl := { s.ctl with ref := [nthI f 0 * 1000 + (nthI f 3 * dt).tdiv 1000000 + ofs.1,
      nthI f 1 * 1000 + (nthI f 4 * dt).tdiv 1000000 + ofs.2, (h + nthI o 3 * 1000) % 360000000] } }
  | _, _ => s

/-- What a reference and what was added to it come to, in 0.001 mm and 0.000001°. [Log 42, DESIGN CHOICE, unsafe] -/
def State.refUsed (s : State) (k : Nat) : Int :=
  if k = 2 then (nthI s.ctl.ref 2 + nthI s.ctl.refAdd 2) % 360000000 else nthI s.ctl.ref k + nthI s.ctl.refAdd k

/-- R168, R179 to R181: the reference of the cycle. A delivery of the followed reference is noted in every mode (R181). -/
def State.moveReference (s0 : State) : State :=
  let t := s0.takeTarget
  let s := { t with ctl := { t.ctl with refWas := (List.range 3).map t.refUsed } }.takeFused
  match s.dev.mode with
  | 4 => s.moveOnTrack
  | 5 => s.moveFollow
  | 3 => let t := s.moveToSetPoint
         { t with ctl := { t.ctl with ref := [nthI t.ctl.ref 0, nthI t.ctl.ref 1, s.pubVal 2 * 1000] } }
  | 6 => s
  | _ => s.moveToSetPoint

/-- R190: the taps of the register of a PRBS, by its order, 7 to 15: bits counted from 1. -/
def prbsTaps (order : Nat) : List Nat :=
  [[7, 6], [8, 6, 5, 4], [9, 5], [10, 7], [11, 9], [12, 11, 10, 4], [13, 12, 11, 8], [14, 13, 12, 2], [15, 14]].getD (order - 7) [7, 6]

/-- R190: one bit of a maximal-length sequence: the register moves up and takes the sum of its taps. -/
def prbsNext (order r : Nat) : Nat :=
  (2 * r + ((prbsTaps order).filter (fun t => tbit r (t - 1))).length % 2) % 2 ^ order

/-- R190: the phase of a chirp after `t` ms in micro-degrees: its frequency runs in a straight line from `f0` to `f1` mHz in `dur` s. -/
def chirpPhase (f0 f1 dur t : Nat) : Int := 360 * (f0 : Int) * t + ((360 * ((f1 : Int) - f0) * t * t).tdiv (2000 * Nat.max 1 dur : Nat))

/-- R190: the value of an injection in its present cycle. -/
def Injection.valueAt (i : Injection) (periodMs : Nat) : Int :=
  if i.signal = 0 then (if tbit i.lfsr (i.p4 - 1) then (i.amp : Int) else -(i.amp : Int))
  else roundDiv (i.amp * sinMicro (chirpPhase i.p4 i.p5 i.duration (i.cycle * periodMs))) trigOne.toNat

/-- R179: how far forward of the origin the position error is measured turns with the heading. -/
def State.pivot (s : State) (k : Nat) : Int :=
  if s.dev.mode = 3 then (let p := turned (s.parI 0x0712 * 1000) 0 (s.pubVal 2 * 1000); if k = 0 then p.1 else p.2) else 0

/-- R169, R179: the error of north, east (0.001 mm) and heading (0.000001°): fused value less reference. [Log 42, DESIGN CHOICE, unsafe] -/
def State.err (s : State) (k : Nat) : Int :=
  if k = 2 then wrapMicro (s.pubVal 2 * 1000 - s.refUsed 2) else s.pubVal k * 1000 + s.pivot k - s.refUsed k

/-- R175: the square of the horizontal distance from the reference. -/
def State.posErr2 (s : State) : Nat := sq2 (s.err 0) (s.err 1)

/-- R175: a deadband of `d`: inside now, given whether it was inside and has left once. `within k` says that the error is at most k halves of d. [Log 33, DESIGN CHOICE, unsafe] -/
def deadband (d : Nat) (within : Nat → Bool) (inside left : Bool) : Bool × Bool :=
  if d = 0 then (false, left)
  else if inside then (if within 2 then (true, left) else (false, true))
  else (within (if left then 1 else 2), left)

/-- R175: the deadbands of position and heading. [Log 33, DESIGN CHOICE, unsafe] -/
def State.deadbands (s : State) : State :=
  let dp := s.parMode 0x0703
  let dh := s.parMode 0x0704
  let p := deadband dp (fun k => 4 * s.posErr2 ≤ (k * dp * 1000) * (k * dp * 1000)) s.ctl.dbPos s.ctl.dbPosLeft
  let h := deadband dh (fun k => 2 * (s.err 2).natAbs ≤ k * dh * 1000) s.ctl.dbHdg s.ctl.dbHdgLeft
  { s with ctl := { s.ctl with dbPos := p.1, dbPosLeft := p.2, dbHdg := h.1, dbHdgLeft := h.2 } }

/-- R169: a vector north and east in body axes, by the fused heading. -/
def State.toBody (s : State) (n e : Int) : Int × Int := turned n e (-(s.pubVal 2 * 1000))

/-- R169, R175: the body-axis error that the control law uses: zero in a deadband. [Log 42, DESIGN CHOICE, unsafe] -/
def State.bodyErr (s : State) (a : Nat) : Int :=
  if a = 2 then (if s.ctl.dbHdg then 0 else s.err 2)
  else if s.ctl.dbPos then 0
  else let b := s.toBody (s.err 0) (s.err 1); if a = 0 then b.1 else b.2

/-- R169: the fused velocities relative to the reference velocity, in body axes: mm/s and 0.001°/s. The reference velocity is its movement in the cycle.
[Log 42, DESIGN CHOICE, unsafe] -/
def State.relVel (s : State) (a : Nat) : Int :=
  let d := fun k => s.refUsed k - nthI s.ctl.refWas k
  let v := if a = 2 then wrapMicro (d 2) else (let b := s.toBody (d 0) (d 1); if a = 0 then b.1 else b.2)
  s.pubVal (3 + a) - roundDiv v (Nat.max 1 s.periodMs)

/-- R173: the length that normalises an integral, in 0.001 mm or 0.000001°. -/
def State.intLength (s : State) (a : Nat) : Nat := if a = 2 then 1000000 else s.parMode 0x0702 * 1000

/-- R173, R175: the clamp of an integral: CTL_INT_MAX of LIM_TAU_MAX, in its own unit. -/
def State.intMax (s : State) (a : Nat) : Nat := s.parMode 0x070E * s.intLength a * s.parMode 0x070D * 10

/-- R174: integration stops after a cycle with a bound demand, a thruster at a limit or a fallback allocation. -/
def State.intStopped (s : State) : Bool := s.ctl.bound || s.alc.limited || s.alc.fallback.isSome

/-- R173 to R175: integration of one cycle. -/
def State.integrate (s : State) : State :=
  if s.intStopped then { s with ctl := { s.ctl with intHold := true } }
  else { s with ctl := { s.ctl with
    intHold := false
    integ := (List.range 3).map (fun a =>
      let hold := if a = 2 then s.ctl.dbHdg else s.ctl.dbPos
      if hold then nthI s.ctl.integ a
      else clampI (-(s.intMax a : Int)) (s.intMax a) (nthI s.ctl.integ a + s.bodyErr a * s.periodMs)) } }

/-- R173: the integral term of axis `a` in N or N·m. -/
def State.intTerm (s : State) (a : Nat) : Int :=
  ((s.par 0x0801 a : Int) * nthI s.ctl.integ a).tdiv (Nat.max 1 (s.intLength a * s.parMode 0x070D * 1000))

/-- R171: the force of the relative wind in axis `a` by VES_WIND_COEF, in 10⁻¹⁰ N or N·m. -/
def State.windModel (s : State) (a : Nat) : Int :=
  let dir := (s.pubVal 10).toNat % 360000
  let i := dir / 10000
  let f : Int := (dir % 10000 : Nat)
  (s.parI 0x0203 (3 * i + a) * (10000 - f) + s.parI 0x0203 (3 * (i + 1) + a) * f) * (s.pubVal 9 * s.pubVal 9)

/-- R171: the wind feedforward of axis `a` that valid wind gives. -/
def State.windForce (s : State) (a : Nat) : Int := 0 - ((s.parMode 0x070C : Int) * s.windModel a).tdiv (100 * 10000 * 1000000)

/-- R172: the feedforward with its ramps. [Log 43, DESIGN CHOICE, unsafe] -/
def State.windFeedforward (s : State) : State :=
  let now := (s.quant 4).valid
  let at0 := s.freezeEl
  let c := s.ctl
  let s1 :=
    if c.windWas && !now then
      { s with ctl := { c with ramp := some (false, at0), wffFrom := c.wff, windWas := false } }.raise 0x130B
    else if !c.windWas && now then
      { s with ctl := { c with ramp := if c.windSeen then some (true, at0) else none, windWas := true, windSeen := true } }
    else s
  let full := s.par 0x0711 * sec
  let value := fun a =>
    match s1.ctl.ramp with
    | some (false, t) => if full ≤ at0 - t then 0 else (nthI s1.ctl.wffFrom a * ((full - (at0 - t) : Nat) : Int)).tdiv full
    | some (true, t) => if full ≤ at0 - t then s1.windForce a else (s1.windForce a * ((at0 - t : Nat) : Int)).tdiv full
    | none => if now then s1.windForce a else 0
  let s2 := { s1 with ctl := { s1.ctl with wff := (List.range 3).map value } }
  if now then (s2.causeGone 0x130B) else s2

/-- R170: the attainable force of axis `a`. Before the first pour no box is reported. -/
def State.attainable (s : State) (a : Nat) : Nat :=
  if s.alc.box.isEmpty then s.par 0x0801 a else Nat.min (s.par 0x0801 a) (nth s.alc.box a)

/-- R170: the rate bound of axis `a` over a cycle. -/
def State.tauStep (s : State) (a : Nat) : Nat := s.par 0x0802 a * s.periodMs / 1000

/-- R170: a demand of axis `a` within its rate bound and its force bound. -/
def State.boundTau (s : State) (a : Nat) (x : Int) : Int :=
  let p := nthI s.ctl.tau a
  clampI (-(s.attainable a : Int)) (s.attainable a) (clampI (p - s.tauStep a) (p + s.tauStep a) x)

/-- R174: the demand lies on its force or rate bound in some axis. -/
def State.tauBound (s : State) (tau : List Int) : Bool :=
  (List.range 3).any (fun a => (nthI tau a).natAbs = s.attainable a || (nthI tau a - nthI s.ctl.tau a).natAbs = s.tauStep a)

/-- R170: what the force may change between two steps of 0.5 s, N and N·m. -/
def State.stepRate (s : State) (a : Nat) : Rat := (s.par 0x0802 a : Rat) / 2

/-- R169: a weight over the square of what normalises it. -/
def weightOver (w n : Nat) : Rat := (w : Rat) / (((Nat.max 1 n) * (Nat.max 1 n) : Nat) : Rat)

/-- R169, R179, R180: the weights of the body-axis error, row-major, before they are normalised: Weathervane has none of heading; Track weights the error
along the track by CTL_TRACK_ALONG_W of its entry, turned from the track into body axes. -/
def State.posWeights (s : State) : List Rat :=
  let q := fun k => (s.parMode3 0x0708 k : Rat)
  match s.dev.mode, s.dev.track with
  | 4, some t =>
    let a := bearing (nthI t 2 - nthI t 0) (nthI t 3 - nthI t 1) - s.pubVal 2 * 1000
    let c : Rat := (cosMicro a : Rat) / (trigOne : Rat)
    let n : Rat := (sinMicro a : Rat) / (trigOne : Rat)
    let al := q 0 * (s.par 0x0714 : Rat) / 100
    [al * c * c + q 1 * n * n, (al - q 1) * c * n, 0, (al - q 1) * c * n, al * n * n + q 1 * c * c, 0, 0, 0, q 2]
  | 3, _ => [q 0, 0, 0, 0, q 1, 0, 0, 0, 0]
  | _, _ => [q 0, 0, 0, 0, q 1, 0, 0, 0, q 2]

/-- R169, R219: the horizon of a problem with the present mode's weights, normalised by LIM_TAU_MAX and the mode's footprint. -/
def State.horizon (s : State) (stepMs : Nat) (err vel dist : List Int) : Horizon :=
  let l := fun a => s.intLength a
  { stepMs := stepMs
    model := (List.range 9).map (fun i => s.parI 0x0201 i) ++ (List.range 9).map (fun i => s.parI 0x0202 i)
    err := err
    vel := vel
    dist := dist
    last := s.ctl.tau
    qPos := (s.posWeights.zipIdx).map (fun e => e.1 / ((Nat.max 1 (l (e.2 / 3)) * Nat.max 1 (l (e.2 % 3)) : Nat) : Rat))
    qVel := (List.range 3).map (fun a => weightOver (s.parMode3 0x0709 a) (l a / 1000))
    wForce := (List.range 3).map (fun a => weightOver (s.parMode3 0x070A a) (s.par 0x0801 a))
    wRate := (List.range 3).map (fun a => weightOver (s.parMode3 0x070B a) (s.par 0x0801 a)) }

/-- R169, R171, R173: the control problem's horizon: errors, relative velocities, and the disturbance of feedforward and integral. -/
def State.controlHorizon (s : State) : Horizon :=
  s.horizon 500 ((List.range 3).map s.bodyErr) ((List.range 3).map s.relVel) ((List.range 3).map (fun a => nthI s.ctl.wff a + s.intTerm a))

/-- R170: the bounds of a step: the attainable box, and on the first step the rate over a cycle. -/
def State.controlBox (s : State) (j a : Nat) : Rat × Rat :=
  let m : Int := s.attainable a
  let p := nthI s.ctl.tau a
  if j = 0 then ((clampI (-m) m (p - s.tauStep a) : Int), (clampI (-m) m (p + s.tauStep a) : Int)) else ((-m : Int), (m : Int))

/-- R167, R169, R170, R178: the control problem of the cycle goes to the solver array, warm-started from the shifted plan if there is one. -/
def State.poseControl (s : State) : State :=
  match s.mouldOf 0x0210 with
  | some id =>
    match s.mould? id with
    | some m =>
      let t := s.poseProblem controlTag id (!s.ctl.plan.isEmpty) (m.blockWords (s.controlHorizon.block s.controlBox s.stepRate)) (s.windowEnd 8000)
      { t with ctl := { t.ctl with sent := t.slv.queue.contains (.submit (descOfs controlTag) mControl0) } }
    | none => s
  | none => s

/-- R178: the number that a constraint of the control problem has one step on; none for those of the first step. -/
def shiftRow (c : Nat) : Option Nat :=
  if c < 128 then (if 3 ≤ c then some (c - 3) else none)
  else if c < 256 then (if 131 ≤ c then some (c - 3) else none)
  else if 278 ≤ c then some (c - 6) else none

/-- R178: a result record shifted by one step, as the next cycle's warm-start record. The last step is repeated. [Log 104, DESIGN CHOICE, safe] -/
def shiftRecord (r : List Word) : List Word :=
  let act := (recordActive r).filterMap shiftRow
  let body := nthW r 0 :: nthW r 1 :: BitVec.ofNat 32 ((nthW r 2).toNat % 256 + 256 * act.length) :: (r.drop 3).take 5 ++
    (List.range 128).map (fun i => nthW r (8 + if i < 117 then i + 3 else i)) ++
    (List.range 64).map (fun k => halves (nth act (2 * k)) (nth act (2 * k + 1))) ++ List.replicate 55 0#32
  body ++ [crcWords body]

/-- R169, R170: force `a` of step `j` of a plan: the solution, within the box and, after the first step, LIM_TAU_RATE × 0.5 s of the step before.
A solution meets these to within 2^VIOL_EXP. -/
def State.planStep (s : State) (before : List Int) (j : Nat) : List Int :=
  (List.range 3).map (fun a =>
    let x := roundRat (s.resultOf controlTag (3 * j + a))
    let r : Int := s.par 0x0802 a / 2
    clampI (-(s.attainable a : Int)) (s.attainable a) (clampI (nthI before a - r) (nthI before a + r) x))

/-- R169, R170, R178: the problem is solved: the demand is τ₀, the plan of 40 steps is kept, and its record, shifted by one step, is the next warm start. -/
def State.controlSolved (s : State) (regularised : Bool) : State :=
  let tau := (List.range 3).map (fun a => s.boundTau a (roundRat (s.resultOf controlTag a)))
  let plan := (List.range 39).foldl (fun (p : List (List Int)) j => p ++ [s.planStep (p.getLastD tau) (j + 1)]) [tau]
  let t := { s with ctl := { s.ctl with tau := tau, bound := s.tauBound tau, plan := plan, reuse := 0, fixedGain := false, regularised } }
  ((t.xchgWrite warmOfs (shiftRecord (t.xchgRun (resOfs controlTag) 256))).causeGone 0x1308).causeGone 0x1309

/-- R176: the plan value after `k` cycles: each 0.5 s step is held. Without a plan the value is open. [Log 42, DESIGN CHOICE, unsafe] -/
def State.planTau (s : State) (k : Nat) : List Int :=
  match s.ctl.plan with
  | [] => (List.range 3).map (fun a => s.boundTau a (Config.calc .control s.ctl.tau a))
  | p => p.getD (Nat.min 39 (k * s.periodMs / 500)) [0, 0, 0]

/-- R177: the fixed-gain demand −K x, clamped: K by rows in Q8.24, x the body-axis errors, the relative velocities and the integrals. What one unit of
each component of x gives in N or N·m for a gain of 1 is not stated: `Config.calc .fixedGain`. -/
def State.fixedGainTau (s : State) : List Int :=
  let x := (List.range 3).map s.bodyErr ++ (List.range 3).map s.relVel ++ s.ctl.integ
  (List.range 3).map (fun a =>
    let sum := (List.range 9).foldl (fun (t : Int) b => t + s.parI 0x0211 (9 * a + b) * nthI x b * Config.calc .fixedGain [(a : Int), b] 0) 0
    s.boundTau a (-(roundDiv sum 16777216)))

/-- R176, R177: the problem is not solved: the plan for five cycles, then the fixed gain. -/
def State.controlUnsolved (s : State) : State :=
  let k := s.ctl.reuse + 1
  if k ≤ 5 then
    let tau := s.planTau k
    { s with ctl := { s.ctl with tau := tau, bound := s.tauBound tau, reuse := k, regularised := false } }.raise 0x1308
  else
    let tau := s.fixedGainTau
    { s with ctl := { s.ctl with tau := tau, bound := s.tauBound tau, reuse := Nat.min 7 k, fixedGain := true, regularised := false } }.raise 0x1309

/-- R183: the Joystick demand, under the rate limit. [Log 44, DESIGN CHOICE, unsafe] -/
def State.joystickTau (s : State) : State :=
  let tau := (List.range 3).map (fun a =>
    let want := if s.dev.joyLost then 0 else ((s.par 0x0801 a : Int) * nthI s.dev.joystick a).tdiv 1000
    let p := nthI s.ctl.tau a
    clampI (p - s.tauStep a) (p + s.tauStep a) want)
  { s with ctl := { s.ctl with tau := tau, bound := false, reuse := 0, fixedGain := false, regularised := false } }

/-- R184: the timer of a test: from the freeze of the first cycle in which it fails. [Log 43, DESIGN CHOICE, unsafe] -/
def testTimer (runs fails : Bool) (old : Option Nat) (now : Nat) : Option Nat := if runs && fails then some (old.getD now) else none

/-- R185: the position part of the following-error test fails; across the track in Track. -/
def State.feFails (s : State) : Bool :=
  let lim := s.par 0x0805 * 1000
  match s.dev.mode, s.dev.track with
  | 4, some t =>
    let tn := nthI t 2 - nthI t 0
    let te := nthI t 3 - nthI t 1
    if tn = 0 && te = 0 then lim * lim < s.posErr2
    else let cross := s.err 0 * te - s.err 1 * tn; lim * lim * sq2 tn te < (cross * cross).toNat
  | _, _ => lim * lim < s.posErr2

/-- R186: the mean of the observer's velocity innovation over CTL_MP_WINDOW_S: mm/s in surge and sway, 10⁻³ rad/s in yaw. -/
def State.meanInnov (s : State) (a : Nat) : Rat :=
  let sum : Int := (s.fus.innov.map (fun e => nthI e.2 a)).foldl (· + ·) 0
  let m := (sum : Rat) / (Nat.max 1 s.fus.innov.length : Rat)
  if a = 2 then m * (trigPi : Rat) / (180 * (trigOne : Rat)) else m

/-- R186: the residual force of axis `a`: VES_MASS (10³ SI units) times the mean innovation, over the window. -/
def State.residualForce (s : State) (a : Nat) : Rat :=
  sumTo 3 (fun b => ((s.parI 0x0201 (3 * a + b) : Int) : Rat) * s.meanInnov b) / (Nat.max 1 (s.par 0x0809) : Rat)

/-- R186: the axes whose residual force exceeds its limit. -/
def State.mpAxes (s : State) : List Nat :=
  (List.range 3).filter (fun a =>
    let lim : Rat := (s.par 0x0808 * s.par 0x0801 a : Nat)
    decide (lim < 100 * s.residualForce a) || decide (100 * s.residualForce a < -lim))

/-- R184 to R186: supervision in one cycle. In Track the heading part of the following-error test runs as in the other modes. [Log 43, DESIGN CHOICE, unsafe] -/
def State.supervise (s : State) : State :=
  let run := s.dev.mode != 6 && !s.deadReckons
  let fe := run && tbit (s.par 0x0803) 0
  let mp := run && tbit (s.par 0x0803) 1
  let now := s.freezeEl
  let axes := s.mpAxes
  { s with ctl := { s.ctl with
    fePos := testTimer fe s.feFails s.ctl.fePos now
    feHdg := testTimer (fe && s.dev.mode != 3) (s.par 0x0806 * 1000 < (s.err 2).natAbs) s.ctl.feHdg now
    mp := if mp then (match axes with
        | a :: _ => some (a, (s.ctl.mp.map (·.2)).getD now)
        | [] => none) else none } }

/-- R187: the action at an alarm of supervision: also the stop of an injection (R191). -/
def State.supervisionAction (s : State) (cause : Nat) : State :=
  let t := s.stopInjection cause
  if t.par 0x0804 = 1 then { t.ownMode 6 with dev := { (t.ownMode 6).dev with joystick := [0, 0, 0] } } else t

/-- R167, R171, R173, R175, R183: the control step begins: the reference, the feedforward and supervision move; outside Joystick the deadbands, the
integrals, and the problem goes out. In Joystick no deadband is judged and integration stands still. [Log 44, DESIGN CHOICE, unsafe] -/
def State.controlBegins (s : State) : State :=
  let t := s.moveReference.windFeedforward
  let u := if t.dev.mode = 6 then { t with ctl := { t.ctl with intHold := true, dbPos := false, dbHdg := false } } else t.deadbands.integrate.poseControl
  let v := u.supervise
  { v with ctl := { v.ctl with posed := true } }

/-- R167 to R170, R176, R183: the control step ends with the demand of the cycle. -/
def State.controlEnds (s : State) : State :=
  if s.dev.mode = 6 then s.joystickTau
  else
    let st := if s.ctl.sent then (s.prob controlTag).status else 0
    if st = 3 || st = 4 then s.controlSolved (st == 4) else s.controlUnsolved

/-- R176: the control step missed its deadline, or its pair's result is lost (R11). What the step would have moved before its problem went out stays as it
stands. In Joystick the demand holds. [Log 44, DESIGN CHOICE, unsafe] -/
def State.controlLate (s : State) : State := if s.dev.mode = 6 then s else s.controlUnsolved

/-- CONTROL_STEP (R167 to R187): the first of a cycle poses the problem; one that finds the problem ended, or none posed, ends the step. While the problem is
queued or runs the step waits. -/
def execControlStepRuns (s : State) : Host.Outcome State Fault Refusal :=
  .next (if !s.stepOpen 3 then s
    else if s.hlt.discarded.contains 3 then { s with dev := { s.dev with stepsLate := insertNew s.dev.stepsLate 3 } }.controlLate
    else
      let t := if s.ctl.posed then s else s.controlBegins
      if t.ctl.sent && (t.problemWaits controlTag) then t else t.controlEnds.stepDone 3)

/-- FOLLOWING_ERROR_EXPIRY (R184, R185, R187). -/
def execFollowingErrorExpiry (heading : Bool) (s : State) : Host.Outcome State Fault Refusal :=
  .next (match if heading then s.ctl.feHdg else s.ctl.fePos with
    | some t => ((s.reachEl (t + s.par 0x0807 * ms)).raise (if heading then 0x1306 else 0x1305)).supervisionAction 6
    | none => s)

/-- MODEL_PLAUSIBILITY_EXPIRY (R184, R186, R187). -/
def execModelPlausibilityExpiry (axis : Nat) (s : State) : Host.Outcome State Fault Refusal :=
  .next (match s.ctl.mp with
    | some (_, t) => ((s.reachEl (t + s.par 0x080A * ms)).raise 0x1307 (pay [axis])).supervisionAction 7
    | none => s)

/-- FOLLOW_REF_LOSS (R182): Station from the next freeze, at the fused position and heading of that freeze. -/
def execFollowRefLoss (s : State) : Host.Outcome State Fault Refusal :=
  .next (if s.fullCycle && s.dev.mode == 5 then ((s.reachEl (s.ctl.followAt + s.par 0x0715 * ms)).ownMode 1).raise 0x130A else s)

/-- JOYSTICK_TIMEOUT (R183). -/
def execJoystickTimeout (s : State) : Host.Outcome State Fault Refusal :=
  .next (if s.fullCycle && s.dev.mode == 6 then
    let t := s.reachEl (s.dev.joyAt + s.par 0x0716 * ms)
    { t with dev := { t.dev with joyLost := true } } else s)

/-- WIND_FEEDFORWARD_RAMP (R172): a ramp has run for CTL_WFF_RAMP_S. -/
def execWindFeedforwardRamp (s : State) : Host.Outcome State Fault Refusal :=
  .next (match s.ctl.ramp with
    | some (up, t) =>
      let u := s.reachEl (t + s.par 0x0711 * sec)
      { u with ctl := { u.ctl with ramp := none, wff := if up then u.ctl.wff else [0, 0, 0] } }
    | none => s)

/-- INJECTION_END (R190, R191): the duration is over and the signal is removed. -/
def execInjectionEnd (s : State) : Host.Outcome State Fault Refusal :=
  .next (match s.ctl.inj with
    | some i =>
      if i.started then
        let t := s.reach (i.startT + i.duration * sec)
        { t with ctl := { t.ctl with inj := none, refAdd := [0, 0, 0] } }
      else s
    | none => s)

/-- R188: the arguments of an injection are in range. -/
def injectionArgs (a : List Word) : Bool :=
  let n := fun k => (nthW a k).toNat
  (n 1 ≤ 2 || (16 ≤ n 1 && n 1 ≤ 47)) && n 2 ≤ 1 && 1 ≤ n 3 && n 3 ≤ 100000 &&
  (if n 2 = 0 then 7 ≤ n 4 && n 4 ≤ 15 && 1 ≤ n 5 && n 5 ≤ 250 else 1 ≤ n 4 && n 4 ≤ 1000 && 1 ≤ n 5 && n 5 ≤ 1000) &&
  n 0 = 2 && 1 ≤ n 6 && n 6 ≤ 3600 && 1 ≤ n 7 && n 7 ≤ 64 && n 8 = 0 && n 9 = 0

/-- R189: code 0x07 beside the ranges: chirp frequencies above 1 / (4 × cycle period), or a Station amplitude above its limit. -/
def State.injectionFits (s : State) (a : List Word) : Bool :=
  let n := fun k => (nthW a k).toNat
  (n 2 = 0 || (4 * n 4 * s.periodMs ≤ 1000000 && 4 * n 5 * s.periodMs ≤ 1000000)) &&
  (s.dev.mode != 1 || 2 < n 1 || n 3 ≤ s.par (if n 1 = 2 then 0x0718 else 0x0717))

/-- R189: the precondition of an injection. -/
def State.injectionReady (s : State) (target : Nat) : Bool := s.dev.mode == 6 || (s.dev.mode == 1 && target ≤ 2 && !s.cond 8)

/-- TEST_START of a tuning injection (R188 to R190): the capture buffer empties at acceptance. -/
def State.testStartInjectionOrder (s : State) (order : OrderIn) : State :=
  let a := order.args
  let n := fun k => (nthW a k).toNat
  s.evalOrder order 0x0D false
    [(0x05, s.stateOk 0x0D && s.someHolder), (0x06, s.injectionReady (n 1)),
     (0x07, injectionArgs a && s.injectionFits a && s.targetOk order 0x0D), (0x0C, !s.testRuns)]
    (fun t => ({ t with ctl := { t.ctl with
      inj := some { target := n 1, signal := n 2, amp := n 3, p4 := n 4, p5 := n 5, duration := n 6, decim := n 7, lfsr := 2 ^ n 4 - 1 }
      capture := []
      samples := 0 } }).setReg A_CTL_TEST 0#32)

/-- TEST_START_INJECTION (R188). [Log 45, DEDUCED, unsafe] -/
def execTestStartInjection (order : OrderIn) (s : State) : Host.Outcome State Fault Refusal :=
  .next (s.takeOrder order 0x0D (s.testStartInjectionOrder order))

/-- TEST_STOP (R191, R324). -/
def State.testStopOrder (s : State) (order : OrderIn) : State :=
  s.evalOrder order 0x0E false [(0x05, s.stateOk 0x0E), (0x07, s.targetOk order 0x0E)] (fun t => (t.endBrakeTest 4).stopInjection 1)

/-- TEST_STOP (R191, R324). -/
def execTestStop (order : OrderIn) (s : State) : Host.Outcome State Fault Refusal :=
  .next (s.takeOrder order 0x0E (s.testStopOrder order))

/-- R190: the next cycle of an injection: a PRBS moves on after each bit period. -/
def Injection.advance (i : Injection) : Injection :=
  let c := i.cycle + 1
  { i with cycle := c, lfsr := if i.signal = 0 && c % Nat.max 1 i.p5 = 0 then prbsNext i.p4 i.lfsr else i.lfsr }

/-- R190: at a freeze an accepted injection starts, or moves to its next cycle; its value of the cycle is added to a reference it targets. [Log 45, DEDUCED, unsafe] -/
def State.injectionFreeze (s : State) : State :=
  match s.ctl.inj with
  | some i =>
    let j := if i.started then i.advance else { i with started := true, startT := s.dev.freezeAt, cycle := 0, holder := s.holderSide }
    let v := j.valueAt s.periodMs
    { s with ctl := { s.ctl with inj := some { j with value := v },
                                 refAdd := if j.target ≤ 2 then (List.range 3).map (fun k => if k = j.target then v * 1000 else 0) else [0, 0, 0] } }
  | none => s

/-- R191: a change of holder or condition 8 in Station stops the injection. [Log 45, DEDUCED, unsafe] -/
def State.injectionChecks (s : State) : State :=
  match s.ctl.inj with
  | some i =>
    let t := if i.started && i.holder != s.holderSide then s.stopInjection 4 else s
    if s.dev.mode = 1 && s.cond 8 then t.stopInjection 5 else t
  | none => s

/-- R190: what a running injection adds to the command of thruster `t`, in 0.1 % of its full-scale command. -/
def State.injectThruster (s : State) (t : Nat) : Int :=
  match s.ctl.inj with
  | some i => if i.started && i.target = 16 + t then i.value else 0
  | none => 0

/-- R192: the words of a capture sample. `last` are words 5 to 7. -/
def State.sampleWords (s : State) (i : Injection) (last : List Word) : List Word :=
  [toWord s.dev.stateEp, intWord i.value, intWord (s.pubVal 0), intWord (s.pubVal 1), intWord (s.pubVal 2)] ++ last

/-- R192, R193: one sample at the pour of every n-th cycle, while the buffer has room. -/
def State.captureSample (s : State) (thrWords : Nat → List Word) : State :=
  match s.ctl.inj with
  | some i =>
    if i.started && i.cycle % Nat.max 1 i.decim = 0 && s.ctl.samples < 65536 then
      let last := if i.target ≤ 2 then (List.range 3).map (fun a => intWord (nthI s.ctl.tau a)) else thrWords (i.target - 16)
      let t := { s with ctl := { s.ctl with
        capture := memSetRun zeroCell 1 s.ctl.capture (8 * s.ctl.samples) (s.sampleWords i last), samples := s.ctl.samples + 1 } }
      t.setReg A_CTL_TEST (toWord t.ctl.samples)
    else s
  | none => s

/-- R193: what CTL_CAP_WIN word `j` shows. -/
def State.captureWord (s : State) (j : Nat) : Word := memGet zeroCell s.ctl.capture (1024 * s.fld F_CTL_CAP_PAGE_PAGE + j)

/-- R202: the control registers change at the pour. CTL_REF shows the reference with what an injection adds, rounded to the nearest mm and 0.001°.
[Log 42, DESIGN CHOICE, unsafe] -/
def State.publishControl (s : State) : State :=
  let c := s.ctl
  let running := match c.inj with
    | some i => i.started
    | none => false
  let w := maskOf ((if c.intHold then [0] else []) ++ (if c.dbPos then [1] else []) ++ (if c.dbHdg then [2] else []) ++
    (if c.regularised then [3] else []) ++ (if c.fixedGain then [7] else []) ++ (if c.ramp.isSome then [8] else []) ++
    (if c.trackEnd && s.dev.mode = 4 then [9] else []) ++ (if c.fePos.isSome then [10] else []) ++ (if c.feHdg.isSome then [11] else []) ++
    (if c.mp.isSome then [12] else []) ++ (if running then [13] else []))
  let t := s.setReg A_CTL_CSTAT (toWord (w + 16 * Nat.min 7 c.reuse))
  (t.each (List.range 3) (fun u k => u.setReg (A_CTL_REF k) (intWord (roundDiv (s.refUsed k) 1000)))).each (List.range 3)
    (fun u k => u.setReg (A_CTL_DEMAND k) (intWord (nthI c.tau k)))

/-- R174, R175: what a change of mode does to the control law: injections end, and a Track reference starts at its start point. [Log 42, DESIGN CHOICE, unsafe] -/
def State.controlNewMode (s : State) : State :=
  let t := s.stopInjection 2
  { t with ctl := { t.ctl with trackAt := 0, trackEnd := false, fePos := none, feHdg := none, mp := none } }

end Sys2Proof.Machine
end

