-- ==== Sys2Proof/Machine/Allocation.lean ====
section
/-! DEFINITION. Thrust allocation and single-failure scenarios (R203 to R237): the plant and its failures, the batch that goes to the solver array and what
is made of its results, the fallback allocator, coverage, statuses, shaping and every timer. -/
namespace Sys2Proof.Machine

/-- R203: word `k` of the record of thruster `t`. -/
def State.thrW (s : State) (t k : Nat) : Word := s.parW (0x0340 + t) k

/-- R203: thruster `t` exists. -/
def State.thrExists (s : State) (t : Nat) : Bool := t < 32 && !(s.parGiven (0x0340 + t)).isEmpty

def State.thrType (s : State) (t : Nat) : Nat := bits (s.thrW t 0) 2 0
def State.thrSection (s : State) (t : Nat) : Nat := bits (s.thrW t 0) 6 4
def State.tFwd (s : State) (t : Nat) : Nat := (s.thrW t 3).toNat
def State.tRev (s : State) (t : Nat) : Nat := (s.thrW t 4).toNat
def State.pMax (s : State) (t : Nat) : Nat := (s.thrW t 7).toNat
def State.rudderMax (s : State) (t : Nat) : Nat := (s.thrW t 8).toNat
def State.rudderCl (s : State) (t : Nat) : Nat := (s.thrW t 9).toNat

/-- The thrusters that exist. -/
def State.thrList (s : State) : List Nat := (List.range 32).filter s.thrExists

/-- Thruster `t`. -/
def State.thr (s : State) (t : Nat) : Thr := aget {} s.alc.thrs t

/-- Change thruster `t`. -/
def State.setThr (s : State) (t : Nat) (f : Thr → Thr) : State := { s with alc := { s.alc with thrs := aset s.alc.thrs t (f (s.thr t)) } }

/-- R204: the fields of a port word. -/
def portTransport (w : Word) : Nat := bits w 2 0
def portNumber (w : Word) : Nat := bits w 14 8
def portInvert (w : Word) : Bool := bits w 16 16 == 1
def portUnit (w : Word) : Nat := bits w 19 18
def portBit (w : Word) : Nat := bits w 29 24

/-- R270: the lead side, as this device knows it. -/
def State.leadSide (s : State) : Side := if s.isLead then s.pins.side else otherSide s.pins.side

/-- R535: the newest item of a class and number from one side in the agreed set, if it is valid (word 0 is 1). -/
def State.plantItem (s : State) (cls num : Nat) (side : Side) : Option Item :=
  match (s.agr.agreed.filter (fun i => i.cls == cls && i.num == num && i.side == side)).getLast? with
  | some i => if nthW i.data 0 = 1#32 then some i else none
  | none => none

/-- R535: the item that a plant input takes: the lead side's, else the other side's. -/
def State.plantInput (s : State) (cls num : Nat) : Option Item :=
  match s.plantItem cls num s.leadSide with
  | some i => some i
  | none => s.plantItem cls num (otherSide s.leadSide)

/-- The class of a port word's transport (R279): CAN objects 1, field channels 2. -/
def portClass (w : Word) : Nat := if portTransport w = 1 then 1 else 2

/-- R204, R385, R407, R535: a state input: the bit of the CAN object, or the contact of the field channel, inverted by INVERT; not-ready, offline
or open without a valid item. An item of a CAN object holds its bytes from word 1; that of a field channel its contact state in word 1. -/
def State.stateInput (s : State) (w : Word) : Bool :=
  match s.plantInput (portClass w) (portNumber w) with
  | some i =>
    let v := if portTransport w = 1 then tbit (nthW i.data (1 + portBit w / 8)).toNat (portBit w % 8) else nthW i.data 1 == 1#32
    v != portInvert w
  | none => false

/-- R206: READY of thruster `t` shows ready. -/
def State.readyInput (s : State) (t : Nat) : Bool := portTransport (s.thrW t 17) == 0 || s.stateInput (s.thrW t 17)

/-- R207: generator `g` exists. -/
def State.genExists (s : State) (g : Nat) : Bool := g < 16 && !(s.parGiven (0x0440 + g)).isEmpty
def State.genSection (s : State) (g : Nat) : Nat := s.par (0x0440 + g) 0
def State.genRating (s : State) (g : Nat) : Nat := s.par (0x0440 + g) 1

/-- R207: the generators that read online. -/
def State.onlineInputs (s : State) : List Nat :=
  (List.range 16).filter (fun g => s.genExists g && (portTransport (s.parW (0x0440 + g) 2) == 0 || s.stateInput (s.parW (0x0440 + g) 2)))

/-- R207: the ties that read closed. -/
def State.closedInputs (s : State) : List Nat :=
  (List.range ((s.parGiven 0x0402).length / 2)).filter (fun k => portTransport (s.parW 0x0402 (2 * k + 1)) != 0 && s.stateInput (s.parW 0x0402 (2 * k + 1)))

/-- R200: thrusters that loop-slot fault reports of the agreed set make unavailable. A report holds its thruster in word 0. -/
def State.loopReports (s : State) : List Nat :=
  (s.agr.agreed.filter (fun i => i.cls == 5 && 16 ≤ i.num && i.num < 80)).map (fun i => (nthW i.data 0).toNat)

/-- R206, R207, R535: the plant inputs of the agreed set. In the first cycle after T1 they act at once. -/
def State.plantInputs (s : State) (first : Bool) : State :=
  let t := s.each s.thrList (fun u k => u.setThr k (fun h => { h with ready := s.readyInput k, avail := if first then s.readyInput k else h.avail }))
  let g := s.onlineInputs
  let c := s.closedInputs
  { t with alc := { t.alc with
    gensNext := g
    tiesNext := c
    gens := if first then g else t.alc.gens
    ties := if first then c else t.alc.ties
    loopOut := s.loopReports } }

/-- R206: a thruster becomes unavailable. -/
def State.thrOut (s : State) (t : Nat) : State :=
  if (s.thr t).avail then (s.setThr t (fun h => { h with avail := false })).event F_CTL_ALC_EVENT_UNAVAIL else s

/-- R200, R206, R233: availability at a freeze: accepted orders first, then loop-slot faults and READY. -/
def State.availabilityFreeze (s : State) : State :=
  let s1 := s.ord.availNext.foldl (fun (t : State) e => if e.2 then t.setThr e.1 (fun h => { h with avail := true }) else t.thrOut e.1) s
  let s2 := { s1 with ord := { s1.ord with availNext := [] } }
  let s3 := s2.each s2.alc.loopOut (fun t k => if t.thrExists k then t.thrOut k else t)
  let s4 := s3.each s3.thrList (fun t k => if (t.thr k).avail && !(t.thr k).ready then (t.thrOut k).raise 0x1606 (pay [k]) else t)
  { s4 with alc := { s4.alc with loopOut := [], gens := s4.alc.gensNext, ties := s4.alc.tiesNext } }

/-- THRUSTER_AVAIL (R206, R324): from the next freeze; it ends a brake test of the thruster. -/
def State.thrusterAvailOrder (s : State) (order : OrderIn) : State :=
  let t := (nthW order.args 0).toNat
  let v := (nthW order.args 1).toNat
  s.evalOrder order 0x0A false
    [(0x05, s.stateOk 0x0A), (0x06, !(s.thrExists t && v == 1) || (s.thr t).ready), (0x07, s.thrExists t && v ≤ 1 && s.targetOk order 0x0A)]
    (fun u =>
      let x := match u.saf.test with
        | some b => if u.brkThr b.chan = t then u.endBrakeTest 4 else u
        | none => u
      { x with ord := { x.ord with availNext := x.ord.availNext ++ [(t, v == 1)] } })

/-- THRUSTER_AVAIL (R206). -/
def execThrusterAvail (order : OrderIn) (s : State) : Host.Outcome State Fault Refusal :=
  .next (s.takeOrder order 0x0A (s.thrusterAvailOrder order))

/-- R209: the thrusters of the nominal allocation: available and not swinging. -/
def State.allocThrs (s : State) : List Nat := s.thrList.filter (fun t => (s.thr t).avail && (s.thr t).swing.isNone)

/-- A plant that an allocation works on (R209, R217): its thrusters, those with a fixed angle (0.001°), the generators online and the ties closed. -/
structure Plant where
  thrs : List Nat
  fixed : List (Nat × Int)
  gens : List Nat
  ties : List Nat
  deriving DecidableEq, Repr

/-- R209: the nominal plant of the cycle. -/
def State.plant (s : State) : Plant := ⟨s.allocThrs, [], s.alc.gens, s.alc.ties⟩

/-- The two sections that tie `k` joins. -/
def State.tieEnds (s : State) (k : Nat) : Nat × Nat := (bits (s.parW 0x0402 (2 * k)) 2 0, bits (s.parW 0x0402 (2 * k)) 6 4)

/-- R207: sections joined by closed ties: every section that `a` reaches in at most 8 steps. -/
def State.groupOf (s : State) (ties : List Nat) (a : Nat) : List Nat :=
  let step := fun l => ties.foldl (fun l k =>
    let e := s.tieEnds k
    if l.contains e.1 then insertNew l e.2 else if l.contains e.2 then insertNew l e.1 else l) l
  (List.range 8).foldl (fun l _ => step l) [a]

/-- R207: the available power of some sections with some generators online, in 0.01 kW. -/
def State.powerOf (s : State) (gens sections : List Nat) : Nat :=
  ((gens.filter (fun g => sections.contains (s.genSection g))).map s.genRating).foldl (· + ·) 0 * s.par 0x0403

/-- R208: T_max for a thrust. -/
def State.tMax (s : State) (t : Nat) (thrust : Int) : Nat := if thrust < 0 then s.tRev t else s.tFwd t

/-- R208: the modelled power of a thrust, kW. -/
def State.power (s : State) (t : Nat) (thrust : Int) : Nat := s.pMax t * thrust.natAbs / Nat.max 1 (s.tMax t thrust)

/-- R209: the largest change of thrust in a cycle, N. -/
def State.thrStep (s : State) (t : Nat) : Nat := (s.thrW t 5).toNat * s.periodMs / 1000

/-- R210: the largest turn in a cycle, 0.001°. -/
def State.angStep (s : State) (t : Nat) : Nat := (s.thrW t 6).toNat * s.periodMs / 1000

/-- An angle in (−180°, 180°], 0.001°. -/
def normAngle (a : Int) : Int := let m := a % 360000; if 180000 < m then m - 360000 else m

/-- R203: forbidden zone `k` of a thruster: start and end in 0.001°, if it is used. -/
def State.zone (s : State) (t k : Nat) : Option (Nat × Nat) :=
  let w := s.thrW t (10 + k)
  let a := bits w 15 0
  let b := bits w 31 16
  if a = b then none else some (10 * a, 10 * b)

/-- The clockwise turn from angle `a` to angle `b`, 0 to 359,999. -/
def turnCw (a b : Int) : Nat := ((b - a) % 360000).toNat

/-- R210: how far an azimuth may turn clockwise, and which zone's start stops it. -/
def State.roomCw (s : State) (t : Nat) (p : Int) : Nat × Option Nat :=
  (List.range 4).foldl (fun (r : Nat × Option Nat) k => match s.zone t k with
    | some z => if turnCw p z.1 ≤ r.1 then (turnCw p z.1, some k) else r
    | none => r) (s.angStep t, none)

/-- R210: how far an azimuth may turn anticlockwise, and which zone's end stops it. -/
def State.roomCcw (s : State) (t : Nat) (p : Int) : Nat × Option Nat :=
  (List.range 4).foldl (fun (r : Nat × Option Nat) k => match s.zone t k with
    | some z => if turnCw z.2 p ≤ r.1 then (turnCw z.2 p, some k) else r
    | none => r) (s.angStep t, none)

/-- R205: the bounds of a thrust. -/
def State.thrustLo (s : State) (t : Nat) : Int := if s.thrType t = 1 || s.thrType t = 4 then -(s.tRev t : Int) else 0

/-- R205, R209: a thrust within its bounds and its rate. -/
def State.boundThrust (s : State) (t : Nat) (x : Int) : Int :=
  let h := s.thr t
  clampI (s.thrustLo t) (s.tFwd t) (clampI (h.prevThrust - s.thrStep t) (h.prevThrust + s.thrStep t) x)

/-- R210: the normals of the 16 edges of the polygon, 22.5° apart from 11.25°, times 10⁹. -/
def edgeNormals : List (Int × Int) :=
  let q : List (Int × Int) := [(980785280, 195090322), (831469612, 555570233), (555570233, 831469612), (195090322, 980785280)]
  q ++ q.map (fun e => (-e.2, e.1)) ++ q.map (fun e => (-e.1, -e.2)) ++ q.map (fun e => (e.2, -e.1))

/-- R210: how far a thrust vector reaches towards the edge it is nearest to, in N times 10⁹; the edges of the polygon lie at T_FWD × cos 11.25°. -/
def edgeReach (x y : Int) : Int := (edgeNormals.map (fun e => x * e.1 + y * e.2)).foldl max 0
def State.edgeAt (s : State) (t : Nat) : Int := (s.tFwd t : Int) * 980785280

/-- R210: a thrust vector inside the polygon: its magnitude, its angle (0.001°), and whether it lies on an edge. -/
def State.insideEdges (s : State) (t : Nat) (x y : Int) : Int × Int × Bool :=
  let m := edgeReach x y
  let d := s.edgeAt t
  let v := if d < m then ((x * d).tdiv m, (y * d).tdiv m) else (x, y)
  ((isqrt (sq2 v.1 v.2) : Int), normAngle (roundDiv (angleOf v.1 v.2) 1000), decide (roundDiv d 1000000000 ≤ roundDiv m 1000000000))

/-- R210, R211: the angle of an azimuth: towards the wanted one within its sector, with the zone edge that binds. Below 1 % of T_FWD it holds. -/
def State.azimuthAngle (s : State) (t : Nat) (thrust want : Int) : Int × Bool × Option (Nat × Bool) :=
  let p := (s.thr t).prevAngle
  if 100 * thrust.natAbs < s.tFwd t then (p, false, none)
  else
    let cw := s.roomCw t p
    let ccw := s.roomCcw t p
    let d := (want - p + 180000) % 360000 - 180000
    if (cw.1 : Int) ≤ d then (normAngle (p + cw.1), true, cw.2.map (fun k => (k, true)))
    else if d ≤ -(ccw.1 : Int) then (normAngle (p - ccw.1), true, ccw.2.map (fun k => (k, false)))
    else (normAngle (p + d), false, none)

/-- R211: the rudder angle of thrust `x` and side force `fr`: 0 while T ≤ 0, within the turn rate else. -/
def State.rudderAngle (s : State) (t : Nat) (x fr want : Int) : Int × Bool :=
  let p := (s.thr t).prevAngle
  if x ≤ 0 then (0, false)
  else
    let m : Int := s.rudderMax t
    let a := if s.rudderCl t = 0 then clampI (-m) m want else clampI (-m) m ((m * fr * 1000).tdiv (s.rudderCl t * x))
    let b := clampI (p - s.angStep t) (p + s.angStep t) a
    (b, b != a || a.natAbs = s.rudderMax t)

/-- R209: set the command of thruster `t` from a thrust, an angle and a side force that the solver found; `onEdge`: the thrust lies on the polygon's edge. -/
def State.command (s : State) (t : Nat) (want angle fr : Int) (onEdge : Bool) : State :=
  let x := s.boundThrust t want
  let h := s.thr t
  let tLim := x = (s.tFwd t : Int) || (x < 0 && x = -(s.tRev t : Int)) || (onEdge && x = want)
  let rLim := decide ((x - h.prevThrust).natAbs = s.thrStep t)
  if s.thrType t = 2 || s.thrType t = 3 then
    let a := s.azimuthAngle t x angle
    let edge := match a.2.2 with
      | some e => match h.edge with
        | some o => if (o.1, o.2.1) = e then some o else some (e.1, e.2, s.freezeEl)
        | none => some (e.1, e.2, s.freezeEl)
      | none => none
    s.setThr t (fun u => { u with thrust := x, angle := a.1, tLim := tLim, rateLim := rLim, azLim := a.2.1, edge := edge })
  else if s.thrType t = 4 then
    let lim := (s.rudderCl t : Int) * max x 0
    let a := s.rudderAngle t x (clampI (-(lim.tdiv 1000)) (lim.tdiv 1000) fr) angle
    s.setThr t (fun u => { u with thrust := x, angle := a.1, tLim := tLim, rateLim := rLim, azLim := a.2 })
  else s.setThr t (fun u => { u with thrust := x, angle := h.prevAngle, tLim := tLim, rateLim := rLim, azLim := false })

/-- R210: one cycle of a swing: thrust 0, turning to the other edge of the zone. -/
def State.swingStep (s : State) (t k : Nat) (cw : Bool) : State :=
  let p := (s.thr t).prevAngle
  let goal : Nat := match s.zone t k with
    | some z => if cw then z.1 else z.2
    | none => 0
  let left := if cw then turnCw p goal else turnCw goal p
  let a := if left ≤ s.angStep t then normAngle goal else normAngle (if cw then p + s.angStep t else p - s.angStep t)
  s.setThr t (fun u => { u with thrust := 0, angle := a, tLim := false, rateLim := false, azLim := false, edge := none,
                                swing := if left ≤ s.angStep t then none else some (k, cw) })

/-- R211: an unavailable thruster: 0 thrust and its previous angle. -/
def State.idleThruster (s : State) (t : Nat) : State :=
  s.setThr t (fun u => { u with thrust := 0, angle := u.prevAngle, tLim := false, rateLim := false, azLim := false, edge := none, swing := none })

/-- R205: the variables of a thruster, and the index of its first among those of all thrusters; the slacks follow, then the shaping slacks.
[Log 104, DESIGN CHOICE, safe] -/
def State.thrDim (s : State) (t : Nat) : Nat := if s.thrType t = 1 then 1 else 2
def State.varAt (s : State) (t : Nat) : Nat := ((s.thrList.filter (· < t)).map s.thrDim).foldl (· + ·) 0
def State.slackAt (s : State) : Nat := s.varAt 32

/-- The thruster of variable `i`, and which of its variables it is. -/
def State.varOf (s : State) (i : Nat) : Option (Nat × Nat) :=
  (s.thrList.find? (fun t => s.varAt t ≤ i && i < s.varAt t + s.thrDim t)).map (fun t => (t, i - s.varAt t))

/-- R203: the moment of a force (X, Y) at the thrust point of thruster `t`: N = x·Y − y·X. -/
def State.momentOf (s : State) (t : Nat) (x y : Rat) : Rat := (((s.thrW t 1).toInt : Int) * y - ((s.thrW t 2).toInt : Int) * x) / 1000

/-- R203, R205, R209: the column of B of variable `k` of thruster `t`: X, Y and N of one unit of it. -/
def State.columnOf (s : State) (t k : Nat) : List Rat :=
  let d : Rat × Rat := if s.thrType t = 1 then (0, 1) else if k = 0 then (1, 0) else (0, 1)
  [d.1, d.2, s.momentOf t d.1 d.2]

/-- R205: the side force of a rudder per unit of ahead thrust at an angle. -/
def State.rudderShare (s : State) (t : Nat) (angle : Int) : Rat :=
  ((s.rudderCl t : Int) * angle : Rat) / (1000 * Nat.max 1 (s.rudderMax t) : Rat)

/-- R203, R232: X, Y and N of one unit of thrust of thruster `t` at a fixed angle. -/
def State.thrustAt (s : State) (t : Nat) (angle : Int) : List Rat :=
  let d : Rat × Rat := if s.thrType t = 1 then (0, 1)
    else if s.thrType t = 4 then (1, s.rudderShare t angle)
    else ((cosMicro (1000 * angle) : Rat) / (trigOne : Rat), (sinMicro (1000 * angle) : Rat) / (trigOne : Rat))
  [d.1, d.2, s.momentOf t d.1 d.2]

/-- R209: variable `k` of thruster `t` as the previous pour commanded it. -/
def State.prevVar (s : State) (t k : Nat) : Rat :=
  let h := s.thr t
  if s.thrType t = 1 || (s.thrType t = 4 && k = 0) then (h.prevThrust : Rat) else (h.prevThrust : Rat) * (s.thrustAt t h.prevAngle).getD k 0

/-- R205, R209: the bounds of variable `k` of thruster `t` in a plant: 0 for a thruster that takes no part (R250). -/
def State.varBox (s : State) (p : Plant) (t k : Nat) : Rat × Rat :=
  if !p.thrs.contains t then (0, 0)
  else if s.thrType t = 2 || s.thrType t = 3 then (-(s.tFwd t : Rat), (s.tFwd t : Rat))
  else if k = 1 then (-(s.rudderCl t * s.tFwd t : Nat) / 1000, (s.rudderCl t * s.tFwd t : Nat) / 1000)
  else
    let lo := s.thrustLo t
    let hi : Int := s.tFwd t
    let h := (s.thr t).prevThrust
    ((clampI lo hi (h - s.thrStep t) : Int), (clampI lo hi (h + s.thrStep t) : Int))

/-- R209: the second derivative of the cost of an allocation: variables of thrusters, slacks, shaping slacks. -/
def State.allocCurvature (s : State) (i j : Nat) : Rat :=
  if i != j then 0
  else match s.varOf i with
    | some (t, _) => 2 * ((s.thrW t 18).toNat + s.par 0x0303 : Nat) / ((s.tFwd t * s.tFwd t : Nat) : Rat)
    | none =>
      if i < s.slackAt + 3 then 2 * (s.par 0x0301 : Rat) / ((s.par 0x0801 (i - s.slackAt) * s.par 0x0801 (i - s.slackAt) : Nat) : Rat)
      else 2 * (s.par 0x0304 : Rat)

/-- R209: what the rows of an allocation's G are made of: how Claku lays out the azimuths' regions, the rudders, the thrust rates and the power groups on
them is not given, nor how the modelled power enters the cost. [Log 105, DEDUCED, unsafe] -/
def State.allocInputs (s : State) (p : Plant) : List Int :=
  [(s.periodMs : Int), s.par 0x0302] ++ p.thrs.flatMap (fun (t : Nat) => (t : Int) :: (s.thr t).prevThrust :: (s.thr t).prevAngle ::
    (s.roomCw t (s.thr t).prevAngle).1 :: (s.roomCcw t (s.thr t).prevAngle).1 :: s.edgeAt t :: (s.thrStep t : Int) ::
    (s.powerOf p.gens (s.groupOf p.ties (s.thrSection t)) : Int) :: (List.range 19).map (fun k => (s.thrW t k).toInt)) ++
  p.fixed.flatMap (fun (e : Nat × Int) => [(e.1 : Int), e.2])

/-- A bound that no value of a slack reaches. -/
def farAway : Rat := ((2 ^ 200 : Nat) : Rat)

/-- R209, R218: an allocation problem on a plant, with its extra rows: B u + s = τ₀ is E x = e. -/
def State.allocBlock (s : State) (p : Plant) (nShape : Nat) (extra : List (List Rat × Rat × Bool)) : Block :=
  let box := fun i => match s.varOf i with
    | some (t, k) => s.varBox p t k
    | none => if i < s.slackAt + 3 then (-farAway, farAway) else if i < s.slackAt + 3 + nShape then (0, farAway) else (0, 0)
  { f := fun i => match s.varOf i with
      | some (t, k) => -2 * (s.par 0x0303 : Rat) * s.prevVar t k / ((s.tFwd t * s.tFwd t : Nat) : Rat) +
          (Config.calc .allocate (s.allocInputs p) i : Rat) / 1000000000
      | none => 0
    low := fun i => (box i).1
    high := fun i => (box i).2
    e := fun a => (nthI s.ctl.tau a : Rat)
    h := fun r => (Config.calc .allocate (s.allocInputs p) (1000 + r) : Rat) / 1000
    rowsG := 256
    extra := extra }

/-- R208: the modelled power of some thrusters' thrusts, kW. -/
def State.powerDrawn (s : State) (l : List (Nat × Int)) : Rat :=
  l.foldl (fun a e => a + (s.pMax e.1 * e.2.natAbs : Nat) / (Nat.max 1 (s.tMax e.1 e.2) : Rat)) 0

/-- R209, R217, R232: the common factor that brings the thrusts of a power group within its available power. -/
def State.groupFactor (s : State) (gens ties : List Nat) (l : List (Nat × Int)) (a : Nat) : Rat :=
  let g := s.groupOf ties a
  let p := s.powerDrawn (l.filter (fun e => g.contains (s.thrSection e.1)))
  let avail : Rat := (s.powerOf gens g : Rat) / 100
  if p ≤ avail then 1 else avail / p

/-- A thrust times a factor of at most 1, rounded towards 0. -/
def scaledThrust (x : Int) (f : Rat) : Int := (x * f.num).tdiv f.den

/-- R232 step 3: the thrusters of every power group scaled down together until the group's modelled power fits. [Log 105, DEDUCED, unsafe] -/
def State.fitPower (s : State) (l : List (Nat × Int)) : List (Nat × Int) :=
  l.map (fun e => (e.1, scaledThrust e.2 (s.groupFactor s.alc.gens s.alc.ties l (s.thrSection e.1))))

/-- The determinant of three columns. -/
def det3 (a b c : List Rat) : Rat :=
  let x := fun (l : List Rat) i => l.getD i 0
  x a 0 * (x b 1 * x c 2 - x b 2 * x c 1) - x b 0 * (x a 1 * x c 2 - x a 2 * x c 1) + x c 0 * (x a 1 * x b 2 - x a 2 * x b 1)

/-- R232 step 1: the thrusts W⁻¹ Bᵀ (B W⁻¹ Bᵀ + ALC_FB_EPS × I)⁻¹ τ₀, with every angle that of the previous pour. [Log 105, DEDUCED, unsafe] -/
def State.fallbackThrust (s : State) : List (Nat × Int) :=
  let ts := s.allocThrs
  let col := fun t => s.thrustAt t (s.thr t).prevAngle
  let win := fun t => ((s.tFwd t * s.tFwd t : Nat) : Rat) / (Nat.max 1 (s.thrW t 18).toNat : Rat)
  let m := fun (a b : Nat) => ts.foldl (fun x t => x + win t * (col t).getD a 0 * (col t).getD b 0) (if a = b then (s.par 0x030F : Rat) / 1000000 else 0)
  let c := fun b => (List.range 3).map (fun a => m a b)
  let tau := (List.range 3).map (fun a => (nthI s.ctl.tau a : Rat))
  let d := det3 (c 0) (c 1) (c 2)
  let z := [det3 tau (c 1) (c 2) / d, det3 (c 0) tau (c 2) / d, det3 (c 0) (c 1) tau / d]
  ts.map (fun t => (t, roundRat (win t * sumTo 3 (fun a => (col t).getD a 0 * z.getD a 0))))

/-- R232: the fallback allocation: bounds and rates, then the power of each group. -/
def State.fallbackAllocation (s : State) : List (Nat × Int) := s.fitPower (s.fallbackThrust.map (fun e => (e.1, s.boundThrust e.1 e.2)))

/-- R232: the slack of some thrusts at the angles of the previous pour: τ₀ − B u. -/
def State.slackOf (s : State) (l : List (Nat × Int)) : List Int :=
  (List.range 3).map (fun a =>
    roundRat ((nthI s.ctl.tau a : Rat) - l.foldl (fun x e => x + (e.2 : Rat) * (s.thrustAt e.1 (s.thr e.1).prevAngle).getD a 0) 0))

/-- R211: the command of thruster `t` from the nominal solution. A solution meets its constraints to within 2^VIOL_EXP; the command is taken onto them.
[Log 105, DEDUCED, unsafe] [Log 105, DEDUCED, unsafe] -/
def State.solvedCommand (s : State) (t : Nat) : State :=
  let v := fun k => roundRat (s.resultOf nominalTag (s.varAt t + k))
  if s.thrType t = 2 || s.thrType t = 3 then
    let p := s.insideEdges t (v 0) (v 1)
    s.command t p.1 p.2.1 0 p.2.2
  else s.command t (v 0) (Config.calc .other [(t : Int)] 11) (if s.thrType t = 4 then v 1 else 0) false

/-- R232: the command of thruster `t` from the fallback allocation: its angle stays. -/
def State.fallbackCommand (s : State) (t : Nat) : State :=
  let y := aget 0 s.alc.fb t
  s.setThr t (fun h => { h with
    thrust := y, angle := h.prevAngle, azLim := false, edge := none
    tLim := y == (s.tFwd t : Int) || (y < 0 && y == -(s.tRev t : Int)), rateLim := decide ((y - h.prevThrust).natAbs = s.thrStep t) })

/-- R209, R210, R211, R232: apply the nominal solution or the fallback allocation. -/
def State.applyAllocation (s : State) (fallback : Bool) : State :=
  s.each s.thrList (fun u t =>
    if !(u.thr t).avail then u.idleThruster t
    else match (u.thr t).swing with
      | some w => u.swingStep t w.1 w.2
      | none => if fallback then u.fallbackCommand t else u.solvedCommand t)

/-- R212: the slack, and the axes in which the demand is not attainable. -/
def State.noteSlack (s : State) (fallback : Bool) : State :=
  let sl := if fallback then s.slackOf s.alc.fb else (List.range 3).map (fun a => roundRat (s.resultOf nominalTag (s.slackAt + a)))
  let short := (List.range 3).filter (fun a => s.par 0x0801 a < 100 * (nthI sl a).natAbs)
  let new := short.filter (fun a => !s.alc.shortAxes.contains a)
  let t := { s with alc := { s.alc with slack := sl, shortAxes := short } }
  let u := t.each new (fun v a => (v.event F_CTL_ALC_EVENT_SHORT_EVT).raise 0x1604 (pay [a]))
  if short.isEmpty then u.causeGone 0x1604 else u

/-- R214: the number of scenarios. -/
def State.nScen (s : State) : Nat := s.alc.scens.length

/-- Scenario `j`, from 1. -/
def State.scen (s : State) (j : Nat) : Scen := s.alc.scens.getD (j - 1) {}

/-- Change scenario `j`. -/
def State.setScen (s : State) (j : Nat) (f : Scen → Scen) : State := { s with alc := { s.alc with scens := setNth s.alc.scens (j - 1) f } }

/-- The scenario numbers. -/
def State.scenList (s : State) : List Nat := (List.range s.nScen).map (· + 1)

/-- R214: the scenario set, generated at boot step 8. -/
def State.generateScenarios (s : State) : State :=
  let ts := s.thrList
  let sec := List.range 8
  let hasGen := fun k => (List.range 16).any (fun g => s.genExists g && s.genSection g == k)
  let hasThr := fun k => ts.any (fun t => s.thrSection t == k)
  let l := ts.map (fun t => (1, t)) ++ (ts.filter (fun t => s.thrType t != 1)).map (fun t => (2, t)) ++
    (sec.filter hasGen).map (fun k => (3, k)) ++ (sec.filter (fun k => hasGen k || hasThr k)).map (fun k => (4, k)) ++
    (List.range ((s.parGiven 0x0380).length / 2)).map (fun k => (5, k))
  let t := { s with alc := { s.alc with scens := (l.take 127).map (fun (e : Nat × Nat) => { typ := e.1, object := e.2 }), next := 1 } }
  t.setFld F_CTL_SCEN_SUM_NSCEN t.nScen

/-- R215: the generator that a generator-lost scenario of a section removes. -/
def State.lostGen (s : State) (sect : Nat) : Option Nat :=
  (s.alc.gens.filter (fun g => s.genSection g == sect)).foldl (fun (o : Option Nat) g => match o with
    | none => some g
    | some h => if s.genRating h < s.genRating g then some g else some h) none

/-- R216: scenario `j` is applicable in the cycle. [Log 46, DESIGN CHOICE, unsafe] -/
def State.applicable (s : State) (j : Nat) : Bool :=
  let c := s.scen j
  if c.typ = 1 || c.typ = 2 then (s.thr c.object).avail && (s.thr c.object).swing.isNone
  else if c.typ = 3 then (s.lostGen c.object).isSome
  else true

/-- R224: solver lanes and throttle coverage of both devices, from the agreed reports; a device without a report counts with its own values. -/
def State.coverLimits (s : State) : List Nat :=
  let own := [s.fld F_HLT_STATUS_THROTTLE_C, 127 * s.fld F_SLV_STATUS_LANES / 64]
  let of := fun (r : List Word) => [bits (nthW r 4) 23 16, 127 * bits (nthW r 4) 7 0 / 64]
  if s.inStep then
    (if s.twn.copeReport.isEmpty then own else of s.twn.copeReport) ++ (if s.twn.dragReport.isEmpty then own else of s.twn.dragReport)
  else own

/-- R224: the mode's coverage of `n` applicable scenarios. -/
def State.modeCover (s : State) (n : Nat) : Nat := if s.dev.mode = 2 then (n + 3) / 4 else n

/-- R225: the scenarios that the cycle takes, in cyclic order from `alc.next`. -/
def State.takenScenarios (s : State) (c : Nat) : List Nat :=
  let order := s.scenList.filter (fun j => s.alc.next ≤ j) ++ s.scenList.filter (fun j => j < s.alc.next)
  (order.filter s.applicable).take c

/-- R225: the scenario after `j` in the cyclic order. -/
def State.scenAfter (s : State) (j : Nat) : Nat := if j < s.nScen then j + 1 else 1

/-- R220: the footprints of position (mm) and heading (0.001°) of the mode. -/
def State.posFoot (s : State) : Nat := Nat.max 1 (s.parMode 0x0702)
def State.hdgFoot (s : State) : Nat := Nat.max 1 (s.parMode 0x0307)

/-- R220, R228: the ratio of two excursions exceeds `n` hundredths. -/
def State.ratioAbove (s : State) (pos hdg n : Nat) : Bool := n * s.posFoot < 100 * pos || n * s.hdgFoot < 100 * hdg

/-- R228: the ratio lies below `n` hundredths. -/
def State.ratioBelow (s : State) (pos hdg n : Nat) : Bool := 100 * pos < n * s.posFoot && 100 * hdg < n * s.hdgFoot

/-- R228: φ changes in the cycle after an evaluation, by the ratio of that evaluation. [Log 46, DESIGN CHOICE, unsafe] -/
def State.movePhi (s : State) (j : Nat) : State :=
  let c := s.scen j
  if !c.moved then s
  else
    let step := s.par 0x030A
    let phi := if c.typ = 5 || !s.applicable j then c.phi
      else if c.above then Nat.min 1000 (c.phi + step)
      else if c.offHeld then c.phi - step else c.phi
    s.setScen j (fun x => { x with phi := phi, moved := false })

/-- R227: the square of a vector's length under L⁻¹, and of its product with τ₀, as signs need them: Σ s_a·t_a / L_a², over the common denominator. -/
def State.scaledDot (s : State) (u v : List Int) : Int :=
  let l := fun a => ((s.par 0x0801 a : Nat) : Int) * (s.par 0x0801 a : Nat)
  nthI u 0 * nthI v 0 * l 1 * l 2 + nthI u 1 * nthI v 1 * l 0 * l 2 + nthI u 2 * nthI v 2 * l 0 * l 1

/-- R227: the direction of scenario `j`: its post-failure slack, or τ₀ where that is small. -/
def State.shapeDir (s : State) (j : Nat) : List Int :=
  let c := s.scen j
  let den := s.scaledDot [(s.par 0x0801 0 : Int), 0, 0] [(s.par 0x0801 0 : Int), 0, 0]
  if 1000000 * s.scaledDot c.slack c.slack < den then s.ctl.tau else c.slack

/-- R227: scenario `j` gives a shaping constraint on the present demand. -/
def State.shapes (s : State) (j : Nat) : Bool :=
  let c := s.scen j
  c.typ ≤ 4 && 0 < c.phi && decide (0 < s.scaledDot (s.shapeDir j) s.ctl.tau)

/-- R227: the thrusters that survive scenario `j`: not the one that stops or jams, nor those of the affected power group or section.
[Log 105, DEDUCED, unsafe] -/
def State.survivors (s : State) (j : Nat) : List Nat :=
  let c := s.scen j
  s.allocThrs.filter (fun t =>
    if c.typ = 1 || c.typ = 2 then t != c.object
    else if c.typ = 3 then !(s.groupOf s.alc.ties c.object).contains (s.thrSection t)
    else if c.typ = 4 then s.thrSection t != c.object else true)

/-- R227: a vector under L⁻¹, L = diag(LIM_TAU_MAX). -/
def State.perLimit (s : State) (v : List Int) : List Rat := (List.range 3).map (fun a => (nthI v a : Rat) / (Nat.max 1 (s.par 0x0801 a) : Rat))

/-- The length of a vector, to 2⁻⁴⁰ of its unit at least. [Log 105, DEDUCED, unsafe] -/
def lengthOf (v : List Rat) : Rat :=
  let q := sumTo 3 (fun a => v.getD a 0 * v.getD a 0)
  (isqrt (roundRat (q * ((2 ^ 80 : Nat) : Rat))).toNat : Rat) / ((2 ^ 40 : Nat) : Rat)

/-- R227: gᵀ L⁻¹ times a vector of forces, where g is the unit vector of scenario `j`. -/
def State.shapeDot (s : State) (j : Nat) (v : List Rat) : Rat :=
  let g := s.perLimit (s.shapeDir j)
  sumTo 3 (fun a => g.getD a 0 * v.getD a 0 / (Nat.max 1 (s.par 0x0801 a) : Rat)) / lengthOf g

/-- R227: the shaping constraint of scenario `j` as an extra row: −gᵀ L⁻¹ Σ B_i u_i − σ ≤ −φ gᵀ L⁻¹ τ₀; `k` is the place of its σ. -/
def State.shapeRow (s : State) (j k : Nat) : List Rat × Rat × Bool :=
  let alive := s.survivors j
  let coef := fun i => match s.varOf i with
    | some (t, v) => if alive.contains t then -(s.shapeDot j (s.columnOf t v)) else 0
    | none => if i = s.slackAt + 3 + k then -1 else 0
  ((List.range (s.slackAt + 3 + k + 1)).map coef, -((s.scen j).phi : Rat) / 1000 * s.shapeDot j ((List.range 3).map (fun a => (nthI s.ctl.tau a : Rat))), false)

/-- R229: scenario `a` enters before `b`: the larger ratio, then the lower number. -/
def State.shapeBefore (s : State) (a b : Nat) : Bool :=
  if (s.scen a).ratio = (s.scen b).ratio then a < b else (s.scen b).ratio < (s.scen a).ratio

/-- Insert a scenario into a list ordered by R229. -/
def State.insertShape (s : State) (j : Nat) : List Nat → List Nat
  | [] => [j]
  | x :: r => if s.shapeBefore j x then j :: x :: r else x :: s.insertShape j r

/-- R223, R227, R229: the shaping constraints of the cycle. -/
def State.shaping (s : State) : List Nat :=
  if s.dev.mode = 6 then []
  else ((s.scenList.filter s.shapes).foldl (fun l j => s.insertShape j l) []).take (s.par 0x030C)

/-- R217, R218: the post-failure plant of scenario `j`. -/
def State.postPlant (s : State) (j : Nat) : Plant :=
  let c := s.scen j
  let p := s.plant
  if c.typ = 1 then { p with thrs := p.thrs.filter (· != c.object) }
  else if c.typ = 2 then { p with fixed := [(c.object, (s.thr c.object).prevAngle)] }
  else if c.typ = 3 then { p with gens := p.gens.filter (fun g => some g != s.lostGen c.object) }
  else if c.typ = 4 then
    { p with thrs := p.thrs.filter (fun t => s.thrSection t != c.object), gens := p.gens.filter (fun g => s.genSection g != c.object),
             ties := p.ties.filter (fun k => (s.tieEnds k).1 != c.object && (s.tieEnds k).2 != c.object) }
  else p

/-- R217, R250: a jammed azimuth or rudder as extra rows of its post-failure allocation: its angle, and for an azimuth no reverse thrust. -/
def State.jamRows (s : State) (p : Plant) : List (List Rat × Rat × Bool) :=
  p.fixed.flatMap (fun e =>
    let d := s.thrustAt e.1 e.2
    let row := fun (x y : Rat) => List.replicate (s.varAt e.1) 0 ++ [x, y]
    if s.thrType e.1 = 4 then [(row (-(s.rudderShare e.1 e.2)) 1, 0, true)]
    else [(row (d.getD 1 0) (-(d.getD 0 0)), 0, true), (row (-(d.getD 0 0)) (-(d.getD 1 0)), 0, false)])

/-- R217: the thrusts that stay until recovery: the nominal commands, known at the window's start as those of the previous pour, less what the failure stops,
with the affected power group scaled down to its available power. [Log 105, DEDUCED, unsafe] -/
def State.residualThrusts (s : State) (j : Nat) : List (Nat × Int) :=
  let c := s.scen j
  let p := s.postPlant j
  let l := s.allocThrs.map (fun t => (t, (s.thr t).prevThrust))
  let hit := s.groupOf s.alc.ties c.object
  let scaled := fun (m : List (Nat × Int)) => m.map (fun e =>
    if hit.contains (s.thrSection e.1) then (e.1, scaledThrust e.2 (s.groupFactor p.gens p.ties m (s.thrSection e.1))) else e)
  if c.typ = 1 then l.filter (fun e => e.1 != c.object)
  else if c.typ = 3 then scaled l
  else if c.typ = 4 then scaled (l.filter (fun e => s.thrSection e.1 != c.object))
  else l

/-- R217: the residual force of scenario `j` in axis `a`. -/
def State.residual (s : State) (j a : Nat) : Rat :=
  (s.residualThrusts j).foldl (fun x e => x + (e.2 : Rat) * (s.thrustAt e.1 (s.thr e.1).prevAngle).getD a 0) 0

/-- R213: the largest magnitude that a thruster gives in one axis, in millionths. -/
def State.capability (s : State) (t a : Nat) : Nat :=
  let f := s.tFwd t
  let m := Nat.min f (s.tRev t)
  let x := (s.thrW t 1).toInt.natAbs
  let y := (s.thrW t 2).toInt.natAbs
  let cl := s.rudderCl t
  match s.thrType t, a with
  | 1, 0 => 0
  | 1, 1 => m * 1000000
  | 1, _ => x * m * 1000
  | 4, 0 => m * 1000000
  | 4, 1 => cl * f * 1000
  | 4, _ => (x * cl + 1000 * y) * f
  | _, 2 => isqrt (f * f * (x * x + y * y) * 1000000)
  | _, _ => f * 1000000

/-- R213, R218: the attainable box of a plant. [Log 46, DESIGN CHOICE, unsafe] -/
def State.boxOf (s : State) (p : Plant) : List Nat :=
  let pmax := 100 * (p.thrs.map s.pMax).foldl (· + ·) 0
  let avail := s.powerOf p.gens (List.range 8)
  (List.range 3).map (fun a =>
    s.par 0x0311 * Nat.min avail pmax * (p.thrs.map (fun t => s.capability t a)).foldl (· + ·) 0 / (100 * Nat.max 1 pmax * 1000000))

/-- R219: a type 5 scenario leaves position or heading without a source: every source in use of one of them is named. [Log 105, DEDUCED, unsafe] -/
def State.losesReference (s : State) (j : Nat) : Bool :=
  let k := (s.scen j).object
  let named := fun g => tbit (s.parW 0x0380 (2 * k + g / 32)).toNat (g % 32)
  (s.scen j).typ == 5 && [0, 1].any (fun q => !(s.groups q).isEmpty && (s.groups q).all named)

/-- R219: the disturbance of scenario `j`: the observer's environmental force and the force of the wind, with ALC_ENV_MARGIN, and the further force of a
lost reference. -/
def State.scenDist (s : State) (j : Nat) : List Int :=
  (List.range 3).map (fun a =>
    let env := s.pubVal (12 + a)
    let wind := if (s.quant 4).valid then (s.windModel a).tdiv 10000000000 else 0
    ((env + wind) * (100 + s.par 0x0306)).tdiv 100 + (if s.losesReference j then (env * s.par 0x030D).tdiv 100 else 0))

/-- R219, R220: the horizon of a consequence prediction: from the fused state of the pour; in Joystick the reference is the fused position and heading. -/
def State.scenHorizon (s : State) (j : Nat) : Horizon :=
  let b := s.toBody (s.err 0) (s.err 1)
  if s.dev.mode = 6 then s.horizon 1000 [0, 0, 0] ((List.range 3).map (fun a => s.pubVal (3 + a))) (s.scenDist j)
  else s.horizon 1000 [b.1, b.2, s.err 2] ((List.range 3).map s.relVel) (s.scenDist j)

/-- R219: the bounds of step `k`: the Joystick demand, the residual force before ALC_RECOVERY_S, the post-failure box after it. -/
def State.scenBox (s : State) (j k a : Nat) : Rat × Rat :=
  let m : Int := nth (s.boxOf (s.postPlant j)) a
  if s.dev.mode = 6 then (let x := clampI (-m) m (nthI s.ctl.tau a); ((x : Int), (x : Int)))
  else if k < s.par 0x0305 then (s.residual j a, s.residual j a)
  else ((-m : Int), (m : Int))

/-- R220: the component of a predicted point's error that counts: across the track in Track. -/
def State.excursionAt (s : State) (x y : Rat) : Nat :=
  let n := roundRat x
  let e := roundRat y
  match s.dev.mode, s.dev.track with
  | 4, some t => (turned n e (s.pubVal 2 * 1000 - bearing (nthI t 2 - nthI t 0) (nthI t 3 - nthI t 1))).2.natAbs
  | _, _ => isqrt (sq2 n e)

/-- R220: the excursions of scenario `j` in mm and 0.001°, from the forces that the prediction of tag `tag` found. -/
def State.excursions (s : State) (j tag : Nat) : Nat × Nat :=
  let h := s.scenHorizon j
  let path := h.path (fun k a => s.resultOf tag (3 * k + a))
  let steps := (List.range 40).map (· + 1)
  let pos := (steps.map (fun i => s.excursionAt (path i 0) (path i 1))).foldl Nat.max 0
  let hdg := (steps.map (fun i => (roundRat (path i 2)).natAbs)).foldl Nat.max 0
  ((pos + 500) / 1000, if s.dev.mode = 3 then 0 else (hdg + 500) / 1000)

/-- R226: the tags of the post-failure allocation and of the consequence prediction of the `i`-th scenario of `n` that a cycle takes. [Log 104, DESIGN CHOICE, safe] -/
def postTag (i : Nat) : Nat := 1 + i
def consTag (n i : Nat) : Nat := 1 + n + i

/-- Pose a problem of the batch on the mould of a parameter. -/
def State.poseBatch (s : State) (pid tag : Nat) (b : Block) : State :=
  match s.mouldOf pid with
  | some id =>
    match s.mould? id with
    | some m =>
      let t := s.poseProblem tag id false (m.blockWords b) (s.windowEnd 15000)
      if t.slv.queue.contains (.submit (descOfs tag) mControl0) then { t with alc := { t.alc with tags := insertNew t.alc.tags tag } } else t
    | none => s
  | none => s

/-- R218, R219, R226: the problems of the `i`-th scenario taken. -/
def State.poseScenario (s : State) (n i j : Nat) : State :=
  let p := s.postPlant j
  let t := if (s.scen j).typ = 5 then s else s.poseBatch 0x0321 (postTag i) (s.allocBlock p 0 (s.jamRows p))
  t.poseBatch 0x0322 (consTag n i) ((t.scenHorizon j).block (t.scenBox j) (fun a => (t.par 0x0802 a : Rat)))

/-- R226: the batch of the cycle: the nominal problem, then those of each scenario taken. -/
def State.poseAllocation (s : State) : State :=
  let t := s.poseBatch 0x0320 nominalTag (s.allocBlock s.plant s.alc.shape.length (s.alc.shape.zipIdx.map (fun e => s.shapeRow e.1 e.2)))
  (t.alc.taken.zipIdx).foldl (fun (u : State) (e : Nat × Nat) => u.poseScenario t.alc.taken.length e.2 e.1) t

/-- R252, R263: how a problem of the batch stands: its status; 6, not finished, while it waits or runs or where it was never submitted. -/
def State.batchStatus (s : State) (tag : Nat) : Nat :=
  if s.alc.tags.contains tag && !s.problemWaits tag then (s.prob tag).status else 6

/-- R218: the post-failure slack of a tag's result. -/
def State.postSlack (s : State) (tag : Nat) : List Int := (List.range 3).map (fun a => roundRat (s.resultOf tag (s.slackAt + a)))

/-- R220 to R222, R228: the result of the `i`-th scenario taken. [Log 46, DESIGN CHOICE, unsafe] -/
def State.scenarioResult (s : State) (i j : Nat) : State :=
  let c := s.scen j
  let n := s.alc.taken.length
  let shaped := s.alc.shape.contains j
  let sts := if c.typ = 5 then [s.batchStatus (consTag n i)] else [s.batchStatus (postTag i), s.batchStatus (consTag n i)]
  let ok := sts.all (fun x => x == 3 || x == 4)
  if ok then
    let e := s.excursions j (consTag n i)
    let below := s.ratioBelow e.1 e.2 (s.par 0x0309)
    s.setScen j (fun x => { x with
      status := if s.ratioAbove e.1 e.2 100 then 2 else 1
      excPos := e.1
      excHdg := e.2
      ratio := Nat.max (1000 * e.1 / s.posFoot) (1000 * e.2 / s.hdgFoot)
      flags := bit (sts.contains 4) + 2 + 4 * bit shaped
      age := 0
      due := false
      stale := false
      everTaken := true
      moved := true
      above := s.ratioAbove e.1 e.2 (s.par 0x0308)
      below := if below then some (x.below.getD s.freezeEl) else none
      offHeld := below && x.offHeld
      slack := if c.typ = 5 then [] else s.postSlack (postTag i) })
  else
    s.setScen j (fun x => { x with
      flags := x.flags % 2 + 4 * bit shaped + 8 * bit (sts.contains 5) + 16 * bit (sts.any (fun y => y == 0 || y == 6))
      age := if x.everTaken then Nat.min 65535 (x.age + 1) else 0
      everTaken := true
      due := true })

/-- R222, R235: a scenario that the cycle does not take. [Log 46, DESIGN CHOICE, unsafe] -/
def State.scenarioWaits (s : State) (j : Nat) (shaped : Bool) : State :=
  let app := s.applicable j
  s.setScen j (fun x => { x with
    status := if !app then 5 else if x.status = 5 then 0 else x.status
    flags := x.flags % 2 + 4 * bit shaped + 8 * (x.flags / 8)
    age := if x.everTaken then Nat.min 65535 (x.age + 1) else 0 })

/-- R231: why a nominal problem that ended with this status is replaced: 1 OVERFLOW, 2 deadline, 3 other; none when it is used. -/
def fallbackCause (status : Nat) : Option Nat :=
  if status = 3 || status = 4 then none else if status = 5 then some 1 else if status = 0 || status = 6 then some 2 else some 3

/-- R231: condition 7 and the alarm of a fallback. -/
def State.noteFallback (s : State) (cause : Option Nat) : State :=
  let before := s.alc.fallback
  let t := { s with alc := { s.alc with fallback := cause } }.setCond 7 cause.isSome
  match cause with
  | some c => let u := t.event F_CTL_ALC_EVENT_FALLBACK_EVT; if before = some c then u else u.raise 0x1603 (pay [c])
  | none => t.causeGone 0x1603

/-- R216, R224 to R231: the allocation window begins: φ moves, the scenarios and shaping constraints of the cycle are chosen, and the fallback is computed.
The others wait. -/
def State.planAllocation (s : State) : State :=
  let s1 := s.each s.scenList State.movePhi
  let shape := s1.shaping
  let want := s1.modeCover (s1.scenList.filter s1.applicable).length
  let c := s1.coverLimits.foldl Nat.min want
  let taken := s1.takenScenarios c
  let less := decide (c < want)
  let s2 := { s1 with alc := { s1.alc with
    posed := true
    tags := []
    taken := taken
    shape := shape
    fb := s1.fallbackAllocation
    cover := c
    nshape := shape.length
    advisory := s1.dev.mode == 6
    reduced := less
    next := match taken.getLast? with
      | some j => s1.scenAfter j
      | none => s1.alc.next } }
  let s3 := s2.each (s2.scenList.filter (fun j => !taken.contains j)) (fun t j => t.scenarioWaits j (shape.contains j))
  if less then (if s.alc.reduced then s3 else s3.raise 0x1605) else s3.causeGone 0x1605

/-- R209, R221 to R232: the allocation window ends: the nominal solution or the fallback, and the scenarios' results. -/
def State.allocationEnds (s : State) : State :=
  let nominal := s.batchStatus nominalTag
  let cause := fallbackCause nominal
  let s1 := ((s.noteFallback cause).applyAllocation cause.isSome).noteSlack cause.isSome
  let s2 := (s.alc.taken.zipIdx).foldl (fun (t : State) (e : Nat × Nat) => t.scenarioResult e.2 e.1) s1
  { s2 with alc := { s2.alc with
    evaluated := (s.alc.taken.filter (fun j => (s2.scen j).flags / 2 % 2 == 1)).length
    regularised := nominal == 4
    limited := s2.allocThrs.any (fun t => (s2.thr t).tLim || (s2.thr t).rateLim || (s2.thr t).azLim) } }

/-- R90, R201, R236: the parameters whose tuned values reach a mould, and the mould's parameter: the control problem and the predictions take the weights of
MODES, the allocations those of THRUST. [Log 49, DESIGN CHOICE, unsafe] -/
def weightMoulds (pid : Nat) : List Nat :=
  if 0x0708 ≤ pid && pid ≤ 0x070B then [0x0210, 0x0322]
  else if pid = 0x0301 || pid = 0x0303 || pid = 0x0304 || (0x0340 ≤ pid && pid ≤ 0x035F) then [0x0320, 0x0321]
  else []

/-- R201, R236: the fills that the weights tuned in the cycle need: for each changed mould of the mode that a weight belongs to, every entry of H that a fill may
change, with the new weights. A weight of a mode that shares its mould with the present mode waits for nothing: its mould keeps the present mode's weights.
[Log 104, DESIGN CHOICE, safe] [Log 49, DESIGN CHOICE, unsafe] -/
def State.poseFills (s : State) : State :=
  let keys := s.ord.tuneNext.map (·.1)
  let new : State := { s with pat := { s.pat with tuned := s.ord.tuneNext.foldl (fun l (e : Nat × Word) => aset l e.1 e.2) s.pat.tuned } }
  let jobs := (keys.flatMap (fun k =>
    let pid := k % 65536
    let mode := if pid / 256 = 7 then k / 65536 / 3 + 1 else s.dev.mode
    let at' := fun m => { s with dev := { s.dev with mode := m } }
    (weightMoulds pid).filterMap (fun mp => match (at' mode).mouldOf mp with
      | some id => if mode = s.dev.mode || (at' s.dev.mode).mouldOf mp != some id then some (mp, mode, id) else none
      | none => none))).eraseDups
  (jobs.zipIdx.take 16).foldl (fun (t : State) (e : (Nat × Nat × Nat) × Nat) =>
    let u := { new with dev := { new.dev with mode := e.1.2.1 } }
    let h := u.horizon (if e.1.1 = 0x0322 then 1000 else 500) [] [] []
    t.poseFill e.2 e.1.2.2 (if e.1.1 / 256 = 3 && e.1.1 != 0x0322 then u.allocCurvature else h.hessian)) s

/-- ALLOCATION_STEP (R209 to R236): the first of a cycle submits the batch and, after it, the fills of tuned weights; one that finds the batch ended ends the
step. While a problem of the batch is queued or runs the step waits. A step whose pair has failed in the cycle loses its result (R11). -/
def execAllocationStepRuns (s : State) : Host.Outcome State Fault Refusal :=
  .next (if !s.stepOpen 4 then s
    else
      let t := if s.alc.posed then s else s.planAllocation.poseAllocation.poseFills
      if t.hlt.discarded.contains 4 then { t with dev := { t.dev with stepsLate := insertNew t.dev.stepsLate 4 }, alc := { t.alc with tags := [] } }.allocationEnds
      else if t.alc.tags.any t.problemWaits then t else t.allocationEnds.stepDone 4)

/-- R222, R231: the allocation step missed its deadline: what has not finished counts as not finished. -/
def State.allocationLate (s : State) : State := (if s.alc.posed then s else s.planAllocation.poseFills).allocationEnds

/-- SCENARIO_STALE (R222). -/
def execScenarioStale (scenario : Nat) (s : State) : Host.Outcome State Fault Refusal :=
  .next (
    let c := s.scen scenario
    if 1 ≤ scenario && scenario ≤ s.nScen && s.applicable scenario && c.due && s.par 0x030E ≤ c.age && !c.stale then
      (s.setScen scenario (fun x => { x with stale := true })).raise 0x1602 (pay [scenario])
    else s)

/-- SHAPE_HOLD_EXPIRY (R228): from here each evaluation whose ratio stays below ALC_SHAPE_OFF lowers φ in the cycle after it. -/
def execShapeHoldExpiry (scenario : Nat) (s : State) : Host.Outcome State Fault Refusal :=
  .next (match (s.scen scenario).below with
    | some t => (s.reachEl (t + s.par 0x030B * sec)).setScen scenario (fun x => { x with offHeld := true })
    | none => s)

/-- AZIMUTH_SWING (R210): the long way round to the other edge of the zone. -/
def execAzimuthSwing (thruster : Nat) (s : State) : Host.Outcome State Fault Refusal :=
  .next (match (s.thr thruster).edge with
    | some (k, cw, t) =>
      ((s.reachEl (t + s.par 0x0310 * sec)).setThr thruster (fun h => { h with swing := some (k, !cw), edge := none })).raise 0x1607 (pay [thruster])
    | none => s)

/-- R230: the first freeze in Joystick sets every φ to 0. -/
def State.allocationNewMode (s : State) : State :=
  if s.dev.mode = 6 then { s with alc := { s.alc with scens := s.alc.scens.map (fun (c : Scen) => { c with phi := 0, moved := false }) } } else s

/-- R190, R211: the thrust command of a thruster, with what an injection adds. -/
def State.cmdThrust (s : State) (t : Nat) : Int := (s.thr t).thrust + (s.injectThruster t * s.tFwd t).tdiv 1000

/-- R234, R237: the scenario with the largest ratio. -/
def State.worstScen (s : State) : Nat :=
  (s.scenList.filter (fun j => (s.scen j).status == 1 || (s.scen j).status == 2)).foldl (fun w j =>
    if w = 0 || (s.scen w).ratio < (s.scen j).ratio then j else w) 0

/-- R234: scenarios with status 2. -/
def State.scensOut (s : State) : Nat := (s.scenList.filter (fun j => (s.scen j).status == 2)).length

/-- R221: at the pour, the alarm of each scenario that has changed to status 2, and condition 8. -/
def State.scenarioAlarms (s : State) : State :=
  let t := s.each s.scenList (fun u j =>
    let out := (u.scen j).status == 2
    let v := u.setScen j (fun x => { x with wasOut := out })
    if out && !(u.scen j).wasOut then (v.event F_CTL_ALC_EVENT_OUT_EVT).raise 0x1601 (pay [j]) else v)
  let any := 0 < t.scensOut
  let u := t.setCond 8 any
  if any then u else u.causeGone 0x1601

/-- R235: the four words of a scenario's entry. -/
def State.scenWords (s : State) (j : Nat) : List Word :=
  if 1 ≤ j && j ≤ s.nScen then
    let c := s.scen j
    [quarters j c.typ c.object c.status, halves (Nat.min 65535 c.excPos) (Nat.min 65535 (c.excHdg / 10)),
     halves (Nat.min 65535 c.ratio) (c.flags % 256), halves c.phi c.age]
  else [0#32, 0#32, 0#32, 0#32]

/-- R234: the eight words of the summary header. -/
def State.scenHeader (s : State) : List Word :=
  let w := s.worstScen
  [toWord s.dev.stateEp, quarters s.nScen s.alc.cover s.alc.evaluated s.alc.next,
   quarters w s.scensOut s.alc.nshape (bit s.alc.fallback.isSome + 2 * bit (!s.alc.shortAxes.isEmpty) + 4 * bit s.alc.advisory + 8 * bit s.alc.reduced),
   halves (if w = 0 then 0 else Nat.min 65535 (s.scen w).ratio) 0, toWord (nth s.alc.box 0), toWord (nth s.alc.box 1), toWord (nth s.alc.box 2), 0#32]

/-- R237: CTL_ALC_STAT. -/
def State.alcStatWord (s : State) : Word :=
  quarters (bit s.alc.fallback.isSome + 2 * bit (!s.alc.shortAxes.isEmpty) + 4 * bit s.alc.regularised + 8 * bit s.alc.reduced + 16 * bit s.alc.advisory)
    s.alc.nshape s.scensOut s.worstScen

/-- R237: CTL_THRn_STAT. -/
def State.thrStatWord (s : State) (t : Nat) : Word :=
  let h := s.thr t
  if s.thrExists t then
    toWord (bit h.avail + 2 * bit h.ready + 4 * bit h.tLim + 8 * bit h.rateLim + 16 * bit h.azLim + 32 * bit h.swing.isSome)
  else 0#32

/-- R213, R237: the allocation registers change at the pour, which also publishes the box. -/
def State.publishAllocation (s0 : State) : State :=
  let s := { s0 with alc := { s0.alc with box := s0.boxOf s0.plant } }
  let a := (s.setReg A_CTL_ALC_STAT s.alcStatWord).setReg A_CTL_AVAIL (BitVec.ofNat 32 (maskOf (s.thrList.filter (fun t => (s.thr t).avail))))
  let b := a.setReg A_CTL_SCEN_SUM (quarters s.nScen s.alc.cover s.alc.evaluated s.alc.next)
  let c := b.each (List.range 3) (fun u k => u.setReg (A_CTL_BOX k) (toWord (nth s.alc.box k)))
  let d := c.each (List.range 32) (fun u t =>
    let x := if s.thrExists t then s.cmdThrust t else 0
    (((u.setReg (A_CTL_THR_CMD t) (intWord x)).setReg (A_CTL_THR_ANG t) (intWord (s.thr t).angle)).setReg (A_CTL_THR_STAT t) (s.thrStatWord t)).setReg
      (A_CTL_THR_PWR t) (toWord (if s.thrExists t then s.power t x else 0)))
  d.each (List.range 127) (fun u i => (List.range 4).foldl (fun v k => v.setReg (A_CTL_SCEN_W i k) (nthW (s.scenWords (i + 1)) k)) u)

/-- R209: the commands of a pour are the previous ones of the next cycle. -/
def State.commandsPoured (s : State) : State :=
  s.each s.thrList (fun u t => u.setThr t (fun h => { h with prevThrust := s.cmdThrust t, prevAngle := h.angle }))

/-- R385: the 16-bit field of a CAN object's item at byte OFFSET, signed as SIGNED gives. [Log 61, DEDUCED, unsafe] -/
def State.canFeedback (s : State) (o : Nat) (i : Item) : Int :=
  let w := s.parW (0x0C80 + o) 2
  let n := (nthW i.data (1 + bits w 7 0)).toNat + 256 * (nthW i.data (2 + bits w 7 0)).toNat
  if bits w 8 8 = 1 && 32768 ≤ n then (n : Int) - 65536 else n

/-- R204, R385, R535: a FEEDBACK value, if one is valid. An item of a field channel holds its engineering value in word 2. -/
def State.fieldFeedback (s : State) (w : Word) : Option Int :=
  if portTransport w = 1 then (s.plantInput 1 (portNumber w)).map (s.canFeedback (portNumber w))
  else (s.plantInput 2 (portNumber w)).map (fun i => (nthW i.data 2).toInt)

end Sys2Proof.Machine
end

