-- ==== Sys2Proof/Machine/Clocks.lean ====
section
/-! DEFINITION. Leaving BOOT for SAFE (R57, R59), device faults (R12), clocks and the field supply: REFIN and the root PLL (R19), the clock monitor (R18) and VFLD (R336, R513). -/
namespace Sys2Proof.Machine

/-- R59: the fixed access table of a device without a valid Pattern: (region, index, first, last, PERM) of each rule for HOST. -/
def fixedRules : List (Nat × Nat × Nat × Nat × Nat) := [
  (3, 0, 0x00000, 0x0FFFC, 1), (0, 0, 0x10000, 0x1FFFC, 1), (0, 1, 0x10080, 0x101FC, 3), (0, 2, 0xB0000, 0xBFFFC, 1),
  (9, 0, 0x90000, 0x9FFFC, 1), (10, 0, 0xA0000, 0xAFFFC, 1)]

/-- Load one rule of an access table (R467). -/
def State.loadRule (s : State) (r k mask low high perm : Nat) : State :=
  let t := (((s.setReg (A_ACC_R_MASK r k) (toWord mask)).setReg (A_ACC_R_LOW r k) (toWord low)).setReg (A_ACC_R_HIGH r k) (toWord high)).setReg
    (A_ACC_R_PERM r k) (toWord perm)
  t.setFld (F_ACC_R_N_N r) (Nat.max (t.fld (F_ACC_R_N_N r)) (k + 1))

/-- R59: load the fixed access table and lock. -/
def State.lockFixed (s : State) : State :=
  (fixedRules.foldl (fun t r => t.loadRule r.1 r.2.1 (2 ^ mHost) r.2.2.1 r.2.2.2.1 r.2.2.2.2) s).setFlag F_KPR_LOCK_LOCKED true

/-- R73 T2: from BOOT to SAFE, where no cycle runs before boot step 12. KPR_BOOTSTAT.STATE shows 4 once a slot is selected as valid and 2
otherwise (R57). Without a lock the fixed access table is loaded first (R57, R59). -/
def State.bootToSafe (s : State) : State :=
  let t := s.setFld F_KPR_BOOTSTAT_STATE (if s.pat.loaded then 4 else 2)
  let u := if t.locked then t else t.lockFixed
  { u with dev := { u.dev with st := .safe, cycling := false },
           boot := { u.boot with streaming := 0, waitingTwin := false, readyForFreeze := false } }

/-- R12: a device fault of a kind: the Ladle goes to a healthy twin, and the device enters SAFE. In BOOT it takes T2 (R68). -/
def State.deviceFault (s : State) (kind : Nat) : State :=
  let s1 := ({ s with hlt := { s.hlt with deviceFault := true } }).raise 0x0007 (pay [kind])
  let s2 := if s1.holds then (if s1.paired && takeoverOk s1.peerReport then s1.handOver 7 else s1.dropToArmed) else s1
  match s2.dev.st with
  | .boot => s2.bootToSafe
  | _ => s2.enterSafe

/-- R19: what a loss of REFIN or of lock does after its status and event bits: the PLL is held, renewal stops, and the device enters SAFE at
the next cycle boundary, or at once while booting after time 0. -/
def State.clockLost (s : State) (code : Nat) : State :=
  let t := { s.raise code with clk := { s.clk with pllHeld := true, noRenew := true } }
  if t.dev.st = .boot then (if t.boot.started && !t.boot.halted then t.bootToSafe else t)
  else { t with clk := { t.clk with boundarySafe := true } }

/-- REFIN_MISSING (R19). Before time 0 the loss only keeps the keeper from starting (R67). -/
def execRefinMissing (s : State) : Host.Outcome State Fault Refusal :=
  .next (let t := { s with clk := { s.clk with refin := false } }
    let u := (t.setFlag F_GLB_STATUS_REFIN_OK false)
    if t.clk.vin && t.boot.started then (u.event F_GLB_STATUS_REFIN_EVT).clockLost 0x0002 else u)

/-- PLL_UNLOCK (R19). -/
def execPllUnlock (s : State) : Host.Outcome State Fault Refusal :=
  .next (if s.flag F_GLB_STATUS_PLL_LOCK then
    ((s.setFlag F_GLB_STATUS_PLL_LOCK false).event F_GLB_STATUS_UNLOCK_EVT).clockLost 0x0001 else s)

/-- REFIN_RETURN (R19): the status follows the edges; SAFE lasts until a reset. -/
def execRefinReturn (s : State) : Host.Outcome State Fault Refusal :=
  .next ({ s with clk := { s.clk with refin := true } }.setFlag F_GLB_STATUS_REFIN_OK s.clk.vin)

/-- R18: a check-clock window passes. -/
def windowPasses (count : Nat) : Bool := 950 ≤ count && count ≤ 1050

/-- CLOCK_MONITOR_WINDOW (R18). -/
def execClockMonitorWindow (count : Nat) (s : State) : Host.Outcome State Fault Refusal :=
  .next (if !s.clk.vin then s
    else if windowPasses count then
      { s with clk := { s.clk with failedWindows := 0 } }.setFlag F_GLB_STATUS_CLKMON_OK true
    else
      let t := ({ s with clk := { s.clk with failedWindows := s.clk.failedWindows + 1 } }.setFlag F_GLB_STATUS_CLKMON_OK false).event
        F_GLB_STATUS_CLKMON_EVT
      if 2 ≤ t.clk.failedWindows then
        (t.raise 0x0003).globalSafe 1
      else t)

end Sys2Proof.Machine
end

