-- ==== Sys2Proof/Machine/Health.lean ====
section
/-! DEFINITION. Self-test, sparing, ageing and the thermal model (R11, R14, R472 to R490). -/
namespace Sys2Proof.Machine

/-- R477, R481: the kinds of device fault (0x0007): 1 keeper or link pair, 2 fusion or control pair without a spare, 3 SRAM bank without a spare,
4 rail outside its window. -/
def faultKeeperLink : Nat := 1
def faultNoPair : Nat := 2
def faultNoBank : Nat := 3
def faultRail : Nat := 4

/-- R11: the spare of the fusion or of the control group is taken, or takes over at the next freeze. -/
def State.spareTaken (s : State) (fusion : Bool) : Bool :=
  if fusion then s.hlt.fusionSpareUsed || s.hlt.fusionSpareNext else s.hlt.controlSpareUsed || s.hlt.controlSpareNext

/-- R11: the spare of a group takes over from the next freeze. -/
def State.claimSpare (s : State) (fusion : Bool) : State :=
  if fusion then { s with hlt := { s.hlt with fusionSpareNext := true } } else { s with hlt := { s.hlt with controlSpareNext := true } }

/-- The group has lost its spare. -/
def State.loseSpare (s : State) (fusion : Bool) : State :=
  if fusion then { s with hlt := { s.hlt with fusionSpareUsed := true } } else { s with hlt := { s.hlt with controlSpareUsed := true } }

/-- R11: the spare pairs take over, and the results of a new cycle count. -/
def State.sparesFreeze (s : State) : State :=
  { s with hlt := { s.hlt with
    fusionSpareUsed := s.hlt.fusionSpareUsed || s.hlt.fusionSpareNext, controlSpareUsed := s.hlt.controlSpareUsed || s.hlt.controlSpareNext
    fusionSpareNext := false, controlSpareNext := false, discarded := [] } }

/-- R11: discard the results of the cycle of a fusion pair (step 2) or a control pair (steps 3 and 4). A step that has not run yet has no result, as when it
misses its deadline. Fusion that has run is not current, and commands of a device that has no twin in step are those of the previous pour. [Log 83, DEDUCED, safe] -/
def State.discardResults (s : State) (fusion : Bool) : State :=
  if s.fullCycle && !s.dev.stepsDone.contains 8 then
    let t := { s with hlt := { s.hlt with discarded := s.hlt.discarded ++ (if fusion then [2] else [3, 4]) } }
    if fusion then (if t.dev.stepsDone.contains 2 then { t with dev := { t.dev with stepsLate := insertNew t.dev.stepsLate 2 } } else t)
    else if t.dev.stepsDone.contains 4 && !t.inStep then { t with twn := { t.twn with repeatPour := true } }
    else t
  else s

/-- R11, R12: a fusion or control pair fails. `spare`: it is the group's spare. [Log 83, DEDUCED, safe] -/
def State.groupPairFails (s : State) (fusion spare : Bool) : State :=
  if s.spareTaken fusion then s.deviceFault faultNoPair
  else if spare then s.loseSpare fusion
  else (s.discardResults fusion).claimSpare fusion

/-- LOCKSTEP_MISMATCH (R11, R12, R473): pair numbers as SELFTEST word 0: 0 keeper, 1 to 5 fusion, 6 to 8 control, 9 link, 10 safety. A fusion or
control pair is retired and the spare takes over from the next freeze; its results of the cycle are discarded (bit L). [Log 83, DEDUCED, safe] -/
def State.pairFails (s : State) (n : Nat) : State :=
  let t := { s with hlt := { s.hlt with mismatches := Nat.min 65535 (s.hlt.mismatches + 1), pairsOut := insertNew s.hlt.pairsOut n },
                    mram := { s.mram with riserPairs := insertNew s.mram.riserPairs n } }.countRetired (keyPair n)
  if n = 10 then { t with saf := { t.saf with ownFault := true } }.globalSafe 9
  else if n = 0 || n = 9 then t.deviceFault faultKeeperLink
  else (({ t with twn := { t.twn with selfL := true } }).raise 0x0C0C (pay [n])).groupPairFails (n ≤ 5) (n == 5 || n == 8)

/-- LOCKSTEP_MISMATCH. A pair that is out of service compares nothing. -/
def execLockstepMismatch (pair : Nat) (s : State) : Host.Outcome State Fault Refusal :=
  .next (if s.hlt.pairsOut.contains pair || 10 < pair then s else s.pairFails pair)

/-- R14, table row Unit: whether the clock of the unit with this key runs: its own gate is closed when the riser map retires it. -/
def State.unitClocked (s : State) (key : Nat) : Bool :=
  !(s.mram.riserPairs.any (fun n => keyPair n == key) || s.mram.riserBanks.any (fun n => keyBank n == key)
    || s.mram.riserLanes.any (fun n => keyLane n == key) || s.mram.riserChannels.any (fun n => keyChannel n == key)
    || s.mram.riserEngines.any (fun n => keyEngine n == key))

/-- R14, R15: whether the power switch of region `r` (0 to 11) is closed. No rule names an event that opens one, so that each follows the supply;
R15 forbids opening those of regions 3, 8 and 9 while VIN is in its range. -/
def State.regionPowered (s : State) (r : Nat) : Bool := s.clk.vin && decide (r < 12)

/-- R14, R15: whether the clock gate of region `r` is open. No rule names an event that closes one; R15 forbids closing that of region 3. -/
def State.regionClocked (s : State) (r : Nat) : Bool := s.regionPowered r

/-- R472: a periodic check ends: `interval` after its last end. The units of the check are powered in every state except BOOT. [Log 111, DESIGN CHOICE, safe] -/
def State.checkEnds (s : State) (check interval : Nat) : State :=
  let t := match afind s.hlt.checkAt check with
    | some e => s.reachEl (e + interval)
    | none => s
  { t with hlt := { t.hlt with checkAt := aset t.hlt.checkAt check t.tim.el } }

/-- R481: the nominal voltage of a rail in mV. -/
def railNominal (r : Nat) : Nat := nth [750, 850, 1800, 1200, 1800, 1200, 1800, 3300] r

/-- The trim of a rail in 5 mV steps, 0 to 12. -/
def State.trim (s : State) (rail : Nat) : Nat := aget 0 s.mram.trims rail

/-- R481, R483: the trimmed value of a rail in mV. -/
def State.railValue (s : State) (r : Nat) : Nat := railNominal r + 5 * s.trim r

/-- R481: a voltage of rail `r` lies outside ±5 % of its trimmed value. -/
def State.railOff (s : State) (r mv : Nat) : Bool := s.railValue r < 20 * ((mv : Int) - s.railValue r).natAbs

/-- R481: one sample of a rail, in mV and mA: its registers, and since when it has been outside its window. [Log 93, DESIGN CHOICE, safe] -/
def State.sampleRail (s : State) (r mv ma : Nat) : State :=
  let t := (s.setReg (A_HLT_RAIL_VI r) (halves mv ma)).setFld (F_HLT_RAIL_TRIM_POWER r) (mv * ma / 1000)
  let out := if !s.railOff r mv then adel t.hlt.railOut r else if (afind t.hlt.railOut r).isSome then t.hlt.railOut else aset t.hlt.railOut r t.tim.el
  { t with hlt := { t.hlt with railOut := out } }

/-- RAIL_FAULT (R481): a rail has been outside ±5 % for 1 ms. -/
def execRailFault (rail : Nat) (s0 : State) : Host.Outcome State Fault Refusal :=
  .next (match afind s0.hlt.railOut rail with
  | none => s0
  | some since =>
    let s := s0.reachEl (since + ms)
    (({ s with hlt := { s.hlt with railsBad := insertNew s.hlt.railsBad rail } }).raise 0x0C06 (pay [rail])).deviceFault faultRail)

/-- R477: spare SRAM banks left: two, less the banks retired. -/
def State.bankSpares (s : State) : Nat := 2 - s.mram.riserBanks.length

/-- R477: a bank must go: its copy into a spare starts, or no spare is left and a device fault follows. -/
def State.retireBank (s : State) (bank : Nat) : State :=
  if s.mram.riserBanks.contains bank || s.hlt.bankCopy.isSome then s
  else if s.bankSpares = 0 then s.deviceFault faultNoBank
  else { s with hlt := { s.hlt with bankCopy := some (bank, 32 + s.mram.riserBanks.length) } }

/-- ECC_ERROR (R473, R477): a corrected error is counted; more than HLT_SRAM_CE_LIMIT of a bank in an operating hour, or an uncorrectable error,
retires the bank. An uncorrectable error in data of the cycle sets bit E. -/
def execEccError (bank : Nat) (correctable ofCycle : Bool) (s : State) : Host.Outcome State Fault Refusal :=
  .next (if correctable then
    let n := aget 0 s.hlt.bankCorr bank + 1
    let t := { s with hlt := { s.hlt with
      eccCorr := Nat.min 4294967295 (s.hlt.eccCorr + 1), bankCorr := aset s.hlt.bankCorr bank n,
      corrHour := aset s.hlt.corrHour 0 (Nat.min 65535 (aget 0 s.hlt.corrHour 0 + 1)) } }
    if t.par 0x0822 < n then t.retireBank bank else t
    else
      let t := { s with hlt := { s.hlt with eccUncorr := Nat.min 4294967295 (s.hlt.eccUncorr + 1) } }
      let u := if ofCycle then { t with twn := { t.twn with selfE := true } } else t
      u.retireBank bank)

/-- R477: the bookkeeping window in which a bank copy ends: the mapping changes at the next freeze. -/
def State.bankWork (s : State) : State :=
  match s.hlt.bankCopy with
  | some c => { s with hlt := { s.hlt with bankCopy := none, bankSwitch := some c } }
  | none => s

/-- R477: the mapping change at a freeze. -/
def State.bankSwitchNow (s : State) : State :=
  match s.hlt.bankSwitch with
  | some (bank, spare) =>
    ((({ s with hlt := { s.hlt with bankSwitch := none }, mram := { s.mram with riserBanks := insertNew s.mram.riserBanks bank } }).countRetired
      (keyBank bank)).event F_HLT_EVENT_SRAM_EVT).raise 0x0C07 (pay [bank, spare])
  | none => s

/-- R500: the record in slot `k` fails its CRC. -/
def State.badSlot (s : State) (k : Nat) : Bool :=
  let w := memGetRun zeroCell 1 s.mram.area (16 * k) 16
  crcWords (w.take 15) != nthW w 15

/-- R500: the MRAM scrub checks every record of the kept range and reports the first that fails. -/
def State.scrubRecords (s : State) : State :=
  match (List.range s.recUsed).find? (fun i => s.badSlot ((s.mram.base + i) % 131072)) with
  | some i => (s.event F_REC_EVENT_CRC_EVT).raise 0x0B06 (pay [s.mram.base + i])
  | none => s

/-- R472: the scrub interval of a memory: 0 system SRAM, 1 mould store, 2 lane-local, 3 capture, 4 MRAM. -/
def scrubInterval (memory : Nat) : Nat := nth [600, 600, 10, 600, 86400] memory * sec

/-- ECC_SCRUB (R472, R500): a scrub pass of a memory ends with its corrected errors. -/
def execEccScrub (memory corrected : Nat) (s0 : State) : Host.Outcome State Fault Refusal :=
  .next (if s0.dev.st = .boot then s0 else
    let s := s0.checkEnds memory (scrubInterval memory)
    let t := { s with hlt := { s.hlt with
      scrubPasses := Nat.min 65535 (s.hlt.scrubPasses + 1), eccCorr := Nat.min 4294967295 (s.hlt.eccCorr + corrected),
      corrHour := aset s.hlt.corrHour memory (Nat.min 65535 (aget 0 s.hlt.corrHour memory + corrected)) } }
    if memory = 4 then t.scrubRecords else t)

/-- R481: the rails of a die that can be trimmed. -/
def trimRails (die : Nat) : List Nat := nth' die
where
  /-- Die 0 has rails 0 and 1, die 1 rail 3, die 3 rail 5. -/
  nth' : Nat → List Nat
    | 0 => [0, 1]
    | 1 => [3]
    | 3 => [5]
    | _ => []

/-- R483: ⌈(S_tgt − S) / k⌉ steps, at most up to +60 mV. -/
def trimSteps (have_ slack target : Int) (gain : Nat) : Nat :=
  if gain = 0 || target ≤ slack then 0
  else Nat.min (12 - have_.toNat) (((target - slack).toNat + gain - 1) / gain)

/-- R484: a die becomes EXHAUSTED: reported once per die. -/
def State.exhaust (s : State) (die : Nat) : State :=
  if s.hlt.exhaustedRaised.contains die then s
  else (({ s with hlt := { s.hlt with exhaustedRaised := s.hlt.exhaustedRaised ++ [die] } }).event F_HLT_EVENT_MARGIN_EVT).raise 0x0C0A (pay [die])

/-- R484: set the margin status of a die, `since` operating hours after its re-plan. -/
def State.setMargin (s : State) (die since status : Nat) : State :=
  ({ s with mram := { s.mram with margin := aset s.mram.margin die (since, status) } }).setReg (A_HLT_DIE_MARGIN die) (halves status since)

/-- R483: a re-plan of one die from the least slack since its last re-plan. -/
def State.replan (s : State) (die : Nat) (slack : Int) : State :=
  let least := (afind s.hlt.leastSlack die).getD slack
  let target := Config.slackTarget die
  let s1 := s.each (trimRails die) (fun t rail =>
    let n := trimSteps (t.trim rail) least target (Config.slackGain rail)
    if n = 0 then t else { t with hlt := { t.hlt with trimPlan := aset t.hlt.trimPlan rail n } })
  let inUse := (trimRails die).any (fun rail => s1.trim rail != 0 || (afind s1.hlt.trimPlan rail).isSome)
  let full := (trimRails die).any (fun rail => s1.trim rail = 12)
  let status := if !inUse then 0 else if least < target && full then 2 else 1
  let s2 := ({ s1 with hlt := { s1.hlt with leastSlack := adel s1.hlt.leastSlack die } }).setMargin die 0 status
  if status = 2 then s2.exhaust die else s2

/-- R482: a slack corrected to 110 °C with the die's temperature coefficient; die `d` is node `d` of the thermal model. [Log 111, DESIGN CHOICE, safe] -/
def State.corrected (s : State) (die : Nat) (slack : Int) : Int := slack + roundDiv (Config.slackTempCo die * (s.int (F_HLT_NODE_TEMP die) - 1100)) 1000

/-- R482: the hourly reading of one die: registers, the least slack, the hours since its re-plan, and a re-plan when it is due. -/
def State.readDie (s : State) (die : Nat) (r : DieReading) : State :=
  let slack := s.corrected die r.slack
  let t := ((s.setInt (F_HLT_DIE_AGE_RO_DELTA die) r.roDelta).setInt (F_HLT_DIE_AGE_SLACK die) slack)
  let least := min slack ((afind t.hlt.leastSlack die).getD slack)
  let m := aget (0, 0) t.mram.margin die
  let since := Nat.min 65535 (m.1 + 1)
  let u := ({ t with hlt := { t.hlt with leastSlack := aset t.hlt.leastSlack die least } }).setMargin die since m.2
  if slack < Config.slackMin die || 1000 ≤ since then u.replan die slack else u

/-- R486: a diode reading is within −50 to 150 °C. -/
def diodeGood (t : Int) : Bool := -500 ≤ t && t ≤ 1500

/-- R486: the node of each diode: 0 and 1 on the C-die, 2 on the field die, 3 on the power die. -/
def diodeNode (k : Nat) : Nat := if k ≤ 1 then 0 else if k = 2 then 2 else 5

/-- R486: take four diode readings; a failed one is left out and reported. -/
def State.readDiodes (s : State) (d : List Int) : State :=
  let bad := (List.range 4).filter (fun k => !diodeGood (nthI d k))
  let t := { s with thm := { s.thm with diodes := d, badDiodes := bad } }
  t.each (List.range 4) (fun u k =>
    if bad.contains k then ((u.setFld (F_HLT_DIODE_TEMP k) 0x8000).event F_HLT_EVENT_DIODE_EVT).raise 0x0C05 (pay [k])
    else u.setInt (F_HLT_DIODE_TEMP k) (nthI d k))

/-- The diodes that read. -/
def State.goodDiodes (s : State) : List Nat := (List.range 4).filter (fun k => !s.thm.badDiodes.contains k)

/-- R486: the offset of a node, 0.1 °C. -/
def State.offset (s : State) (n : Nat) : Int := s.int (F_HLT_NODE_OFFSET n)

/-- R485: 0.1 °C in the unit of the model. -/
def tenthDegree : Nat := 100000000

/-- R485: the model value of a node in 0.1 °C, to the nearest. -/
def State.nodeModel (s : State) (n : Nat) : Int := roundDiv (nthI s.thm.nodes n) tenthDegree

/-- R486: the temperature of a node for every decision: model value plus offset, or a higher reading of a valid diode on the node. -/
def State.nodeTemp (s : State) (n : Nat) : Int :=
  (s.goodDiodes.filter (fun k => diodeNode k = n)).foldl (fun m k => max m (nthI s.thm.diodes k)) (s.nodeModel n + s.offset n)

/-- R486: the residual of a diode: its reading less the model value of its node, 10⁻⁹ °C. -/
def State.diodeResidual (s : State) (k : Nat) : Int := nthI s.thm.diodes k * tenthDegree - nthI s.thm.nodes (diodeNode k)

/-- R486: the mean residual of the valid ones of some diodes, 10⁻⁹ °C; 0 without one. [Log 111, DESIGN CHOICE, safe] -/
def State.meanOf (s : State) (l : List Nat) : Int :=
  let g := l.filter s.goodDiodes.contains
  if g.isEmpty then 0 else roundDiv (g.foldl (fun a k => a + s.diodeResidual k) 0) g.length

/-- R486: the mean residual of the valid diodes. -/
def State.meanResidual (s : State) : Int := s.meanOf (List.range 4)

/-- R486: T_ref moves, and every node of the model with it. -/
def State.moveRef (s : State) (d : Int) : State :=
  ({ s with thm := { s.thm with tref := s.thm.tref + d, nodes := s.thm.nodes.map (· + d) } }).setInt (word32 A_HLT_TREF)
    (roundDiv (s.thm.tref + d) tenthDegree)

/-- R486: set the offset of a node with diodes to their remaining residual, within ±3 °C. -/
def State.calibrateNode (s : State) (n : Nat) : State :=
  let o := clampI (-30) 30 (roundDiv (s.meanOf ((List.range 4).filter (fun k => diodeNode k == n))) tenthDegree)
  let t := s.setInt (F_HLT_NODE_OFFSET n) o
  { t with mram := { t.mram with offsets := aset t.mram.offsets n o } }

/-- R486: the residual of a diode after calibration. -/
def State.reportResidual (s : State) (k : Nat) : State :=
  let r := roundDiv (s.diodeResidual k) tenthDegree
  let t := s.setInt (F_HLT_DIODE_RESID k) r
  if 30 < r.natAbs then (t.event F_HLT_EVENT_DIODE_EVT).raise 0x0C04 (pay [k]) else t

/-- R486: calibration at the first freeze and at each hourly measurement: the mean residual becomes zero, then the offsets of nodes 0, 2 and 5 follow. -/
def State.calibrate (s : State) : State :=
  let t := s.moveRef s.meanResidual
  let u := (t.each ([0, 2, 5].filter (fun n => t.goodDiodes.any (fun k => diodeNode k == n))) State.calibrateNode).each t.goodDiodes State.reportResidual
  { u with hlt := { u.hlt with sinceCal := 0 } }

/-- R495, R482: the hourly health record. -/
def State.healthRecord (s : State) : State :=
  let trims := (List.range 8).map s.trim
  s.record 0x0C80 0 ((List.range 6).map (fun d => s.reg (A_HLT_DIE_AGE d)) ++ [s.reg A_HLT_TJMAX, s.reg A_HLT_TREF,
    quarters (nth trims 0) (nth trims 1) (nth trims 2) (nth trims 3), quarters (nth trims 4) (nth trims 5) (nth trims 6) (nth trims 7)])

/-- ANNEAL_MEASUREMENT (R482, R483, R486): after each whole operating hour. -/
def State.anneal (s : State) (dies : List DieReading) (diodes : List Int) : State :=
  let s1 := { s with hlt := { s.hlt with corrLast := s.hlt.corrHour, corrHour := [], bankCorr := [] } }
  let s2 := (dies.zipIdx).foldl (fun t e => t.readDie e.2 e.1) s1
  ((s2.readDiodes diodes).calibrate).healthRecord

/-- R483: the modelled full-load VIN power in mW, with rail `rail` at `steps`: each rail's part scales with the square of its voltage. -/
def State.packagePower (s : State) (rail steps : Nat) : Rat :=
  (List.range 8).foldl (fun (p : Rat) r =>
    let v := railNominal r + 5 * (if r = rail then steps else s.trim r)
    p + (Config.fullLoad r * v * v : Nat) / (railNominal r * railNominal r : Nat)) (Config.fullLoad 8 : Nat)

/-- R483: the package plan: the modelled full-load VIN power at the new trims stays at 7.5 W. -/
def State.withinPackage (s : State) (rail steps : Nat) : Bool := s.packagePower rail steps ≤ 7500

/-- R481: the die of a rail that can be trimmed. -/
def railDie (rail : Nat) : Nat := if rail ≤ 1 then 0 else if rail = 3 then 1 else 3

/-- R483, R484: a planned trim step that would break the package limit is not applied, and the die's margin is capped. [Log 111, DESIGN CHOICE, safe] -/
def State.trimRefused (s : State) (rail : Nat) : State :=
  let d := railDie rail
  let t := { s with hlt := { s.hlt with trimPlan := adel s.hlt.trimPlan rail } }
  (t.setMargin d (aget (0, 0) t.mram.margin d).1 2).exhaust d

/-- TRIM_STEP (R483): one 5 mV step of a planned rail, 1 s after the one before it, unless it would break the package limit. -/
def execTrimStep (rail : Nat) (s0 : State) : Host.Outcome State Fault Refusal :=
  .next (match afind s0.hlt.trimPlan rail with
    | some (n + 1) =>
      let s := match s0.hlt.trimAt with
        | some e => s0.reachEl (e + sec)
        | none => s0
      let v := s.trim rail + 1
      let t := { s with hlt := { s.hlt with trimAt := some s.tim.el, trimPlan := if n = 0 then adel s.hlt.trimPlan rail else aset s.hlt.trimPlan rail n } }
      if v ≤ 12 && s.withinPackage rail v then
        ((({ t with mram := { t.mram with trims := aset t.mram.trims rail v } }).setFld (F_HLT_RAIL_TRIM_TRIM rail) v).event
          F_HLT_EVENT_MARGIN_EVT).raise 0x0C09 (pay [rail, v])
      else s.trimRefused rail
    | _ => s0)

/-- R486: T_max and its node. -/
def State.maxNode (s : State) : Nat × Int :=
  (List.range 8).foldl (fun m n => if m.2 < s.nodeTemp n then (n, s.nodeTemp n) else m) (0, s.nodeTemp 0)

/-- R489: thermal shutdown is latched. -/
def State.latchShutdown (s : State) : State :=
  if s.flag F_HLT_STATUS_SHUTDOWN then s
  else (({ s with thm := { s.thm with latchedAt := some s.tim.el }, mram := { s.mram with shutdown := true } }).setFlag F_HLT_STATUS_SHUTDOWN true).event
    F_HLT_EVENT_SHUT_EVT

/-- R486, R488 to R490: what follows from new node temperatures. -/
def State.thermalChecks (s : State) : State :=
  let m := s.maxNode
  let t := (s.each (List.range 8) (fun u n => u.setInt (F_HLT_NODE_TEMP n) (u.nodeTemp n)))
  let u := { (t.setInt (word32 A_HLT_TJMAX) m.2).setFld F_HLT_STATUS_NODE m.1 with thm := { t.thm with
    tmax := m.2, cycleMax := max t.thm.cycleMax m.2,
    coolSince := if m.2 ≤ 10 * t.par 0x0821 then some (t.thm.coolSince.getD t.tim.el) else none } }
  let v := if 1200 ≤ m.2 && !u.thm.warned then
      ((({ u with thm := { u.thm with warned := true } }).setFlag F_HLT_STATUS_WARN true).event F_HLT_EVENT_WARN_EVT).raise 0x0C02
    else if m.2 < 1150 && u.thm.warned then
      ((({ u with thm := { u.thm with warned := false } }).setFlag F_HLT_STATUS_WARN false).causeGone 0x0C02)
    else u
  let w := if m.2 ≤ 10 * v.par 0x0821 then v else v.setFlag F_HLT_STATUS_COOLED false
  if 1250 ≤ m.2 then w.latchShutdown else w

/-- R413: the modelled field-output dissipation in µW: a voltage output 0.026 W, a current output 0.022 × (13 − 0.022 × LOAD_OHM) + 0.005 W. -/
def State.fieldDissipation (s : State) : Nat :=
  ((List.range 128).filter (fun n => !(s.parGiven (0x0E80 + n)).isEmpty)).foldl (fun (p : Nat) n =>
    match bits (s.parW (0x0E80 + n) 0) 3 0 with
    | 7 => p + 26000
    | 8 => p + (291000 - 484 * bits (s.parW (0x0E80 + n) 5) 15 0)
    | _ => p) 0

/-- R95, R485: the antenna load in µW: measured current times the selected supply, 3.3 V or 5.0 V. -/
def State.antennaLoad (s : State) : Nat :=
  (List.range 4).foldl (fun (p : Nat) a => p + s.fld (F_GNS_ANT_I_CURRENT a) * nth [0, 3300, 5000] (s.par 0x0603 a)) 0

/-- R485: the power of each node in µW, from the samples of the rails (mV, mA), the power taken from VIN (mW) and the coil currents of the brake switches (mA):
two switches of 0.25 Ω each (R314). -/
def State.nodePower (s : State) (rails : List (Nat × Nat)) (vin : Nat) (coils : List Nat) : List Int :=
  let p := fun (r : Nat) => let x : Nat × Nat := rails.getD r (0, 0); ((x.1 * x.2 : Nat) : Int)
  let all := (List.range 8).foldl (fun (a : Int) r => a + p r) 0
  let coil := coils.foldl (fun (a : Nat) i => a + i * i / 2) 0
  [p 0 + p 1 + p 2, p 3 + max 0 (p 7 - s.antennaLoad), p 4 + s.fieldDissipation + coil, p 5, p 6, 1000 * (vin : Int) - all, 0, 0]

/-- R485: the heat in nW that leaves a node: to the other nodes, and from the lid to the reference temperature through HLT_RTH_SA (0.01 K/W). -/
def State.heatOut (s : State) (n : Nat) : Int :=
  let t := fun k => nthI s.thm.nodes k
  (List.range 8).foldl (fun (a : Int) k => if k = n then a else a + roundDiv ((Config.conductance n k : Int) * (t n - t k)) 1000000000)
    (if n = 7 then roundDiv ((t 7 - s.thm.tref) * 100) (Nat.max 1 (s.par 0x0820)) else 0)

/-- R485: T ← T + (Δt / C) × (P − Σ G × (T − T_other)), with Δt 1 ms: a power in nW over a heat capacity in mJ/K gives 10⁻⁹ °C. [Log 111, DESIGN CHOICE, safe] -/
def State.nodeStep (s : State) (power : List Int) (n : Nat) : Int :=
  nthI s.thm.nodes n + roundDiv (1000 * nthI power n - s.heatOut n) (Nat.max 1 (Config.heatCapacity n))

/-- THERMAL_UPDATE (R481, R485): every 1 ms the rails are sampled and the model moves on. [Log 93, DESIGN CHOICE, safe] -/
def execThermalUpdateRuns (rails : List (Nat × Nat)) (vin : Nat) (coils : List Nat) (diodes : List Int) (s0 : State) : Host.Outcome State Fault Refusal :=
  .next (if s0.boot.started && !s0.boot.halted then
    let s := match s0.thm.updatedAt with
      | some e => s0.reachEl (e + ms)
      | none => s0
    let t := rails.zipIdx.foldl (fun (u : State) e => u.sampleRail e.2 e.1.1 e.1.2) s
    let p := s.nodePower rails vin coils
    let u := { t with thm := { t.thm with updatedAt := some t.tim.el, nodes := (List.range 8).map (t.nodeStep p) } }
    (u.readDiodes diodes).thermalChecks
    else s0)

/-- TREF_TRACK (R486): every 1 s T_ref moves by one sixtieth of the mean residual. -/
def execTrefTrack (s0 : State) : Host.Outcome State Fault Refusal :=
  .next (if s0.boot.started && !s0.boot.halted then
    let s := match s0.thm.trackedAt with
      | some e => s0.reachEl (e + sec)
      | none => s0
    { s with thm := { s.thm with trackedAt := some s.tim.el } }.moveRef (roundDiv s.meanResidual 60)
    else s0)

/-- COOLED (R490): T_max has stayed at or below HLT_COOL_C for 10 s. -/
def execCooled (s : State) : Host.Outcome State Fault Refusal :=
  .next (match s.thm.coolSince with
    | some t => (s.reachEl (t + 10 * sec)).setFlag F_HLT_STATUS_COOLED true
    | none => s)

/-- R487: the throttle coverage that a temperature in 0.1 °C gives. -/
def throttleOf (t : Int) : Nat :=
  if t ≤ 1100 then 127 else Nat.max 1 (127 - (126 * (t - 1100).toNat + 129) / 130)

/-- R487, R488: form THROTTLE_C in the bookkeeping window: it falls by any amount and rises by at most 1. -/
def State.throttleWork (s : State) : State :=
  let now := s.fld F_HLT_STATUS_THROTTLE_C
  let want := throttleOf s.thm.cycleMax
  let c := if want ≤ now then want else now + 1
  let t := (({ s with thm := { s.thm with cycleMax := s.thm.tmax } }).setFld F_HLT_STATUS_THROTTLE_C c).setFlag F_HLT_STATUS_THROTTLING (decide (c < 127))
  if now = 127 && c < 127 then (t.event F_HLT_EVENT_THR_EVT).raise 0x0C01
  else if c = 127 then t.causeGone 0x0C01 else t

/-- R489: at the first pour at least 1 ms after the latch: hand over to a healthy twin, and T7 in every case. -/
def State.shutdownAction (s : State) : State :=
  match s.thm.latchedAt with
  | some t =>
    if t + ms ≤ s.tim.el && s.dev.st != .safe && s.dev.st != .boot then
      let u := if s.holds then (if s.paired && takeoverOk s.peerReport then s.handOver 6 else s.dropToArmed) else s
      (u.enterSafe).raise 0x0C03
    else s
  | none => s

/-- FIELD_TEST_INJECTION (R480): the channel is suppressed while it converts the reference. -/
def State.startInjection (s : State) (n : Nat) : State :=
  { s with hlt := { s.hlt with injRunning := insertNew s.hlt.injRunning n } }

/-- R480: the last reference sample in RAW lies within ±20 mV (MODE 1) or ±40 µA (MODE 2) of the reference of +5.000 V or 10.000 mA. -/
def injectionPasses (mode : Nat) (raw : Int) : Bool :=
  if mode = 1 then (raw - 5000000).natAbs ≤ 20000 else (raw - 10000000).natAbs ≤ 40000

/-- R480: a test injection ends. -/
def State.endInjection (s : State) (n mode : Nat) (raw : Int) : State :=
  let ok := injectionPasses mode raw
  let fails := if ok then 0 else aget 0 s.hlt.injFails n + 1
  let t := { s with hlt := { s.hlt with
    injRunning := remove s.hlt.injRunning n, injChan := n, injPassed := ok,
    injFails := if ok then adel s.hlt.injFails n else aset s.hlt.injFails n fails } }
  if fails = 2 then (t.event F_HLT_EVENT_INJ_EVT).raise 0x0C0B (pay [n]) else t

end Sys2Proof.Machine
end

