-- ==== Sys2Proof/Machine/Interrupts.lean ====
section
/-! DEFINITION. The interrupt controller (R417 to R427) and the machine timer (R432). -/
namespace Sys2Proof.Machine

/-- Some event bit of the register at `a`, among its bits [hi:0], is 1. -/
def State.anyBit (s : State) (a hi : Nat) : Bool := s.fld ⟨a, hi, 0⟩ != 0

/-- R417: a level source is asserted. -/
def State.levelAsserted (s : State) (n : Nat) : Bool :=
  if n = 0 then s.fld ⟨A_GLB_STATUS, 19, 17⟩ != 0
  else if n = 1 then s.anyBit A_SAF_EVENT 6
  else if n = 2 then s.anyBit A_TWN_EVENT 9
  else if n = 3 then s.anyBit A_TSU_EVENT 6
  else if n ≤ 19 then s.flag (F_TSU_CMP_CFG_FIRED (n - 4)) && s.flag (F_TSU_CMP_CFG_IRQ (n - 4))
  else if n ≤ 27 then !(aget [] s.tim.caps (n - 20)).isEmpty && s.flag (F_TSU_CAP_CFG_IRQ (n - 20))
  else if n = 28 then s.flag F_KPR_FLW_CTRL_REJECT || s.flag F_KPR_FLW_CTRL_ERR
  else if n ≤ 31 then false
  else if n ≤ 34 then s.flag (F_CTL_OMB_CTRL_DONE (n - 32))
  else if n = 35 then s.anyBit A_CTL_ALC_EVENT 3
  else if n = 36 then s.anyBit A_FUS_EVENT 4
  else if n = 37 then s.anyBit A_SLV_EVENT 7
  else if n = 38 then s.anyBit A_LOOP_EVENT 2
  else if n = 39 then s.anyBit A_GNS_EVENT 8
  else if n ≤ 45 then s.anyBit (A_CAN_EVENT (n - 40)) 10
  else if n ≤ 51 then s.fld (F_CAN_Q1_STAT_LEVEL (n - 46)) != 0
  else if n ≤ 59 then s.anyBit (A_SPT_EVENT (n - 52)) 2
  else if n = 60 then s.anyBit A_ETH_EVENT 5
  else if n = 61 then s.anyBit A_ELK_EVENT 5
  else if n = 62 then s.anyBit A_REC_EVENT 4
  else if n = 63 then s.anyBit A_ANN_EVENT 2
  else if n = 64 then s.anyBit A_HLT_EVENT 7
  else if n = 65 then s.anyBit A_ACC_EVENT 1
  else if n = 66 then s.anyBit A_HST_EVENT 2
  else if n ≤ 70 then s.flag (bitAt A_INTC_EVENT (n - 67))
  else if 128 ≤ n && n ≤ 255 then s.anyBit (A_FCH_EVENT (n - 128)) 6
  else if 352 ≤ n && n ≤ 383 then s.flag (bitAt A_INTC_SWPEND (n - 352))
  else false

/-- R417: an edge source. [Log 29, DEDUCED, unsafe] -/
def edgeSource (n : Nat) : Bool := n == 29 || n == 30

/-- R417: the sources that are not reserved. -/
def allSources : List Nat :=
  List.range 31 ++ (List.range 39).map (· + 32) ++ (List.range 128).map (· + 128) ++ (List.range 32).map (· + 352)

/-- ASSERTED: asserted, or the edge latch set. -/
def State.asserted (s : State) (n : Nat) : Bool := if edgeSource n then s.intc.edge.contains n else s.levelAsserted n

/-- The state of target `t`. -/
def State.target (s : State) (t : Nat) : Target := s.intc.targets.getD t {}

/-- Change the state of target `t`. -/
def State.setTarget (s : State) (t : Nat) (f : Target → Target) : State :=
  { s with intc := { s.intc with targets := setNth s.intc.targets t f } }

/-- R423: source `n` is in a claim stack. -/
def State.inService (s : State) (n : Nat) : Bool := s.intc.targets.any (fun t => t.stack.contains n)

/-- R419: source `n` is pending. [Log 29, DEDUCED, unsafe] -/
def State.pendingSource (s : State) (n : Nat) : Bool := s.asserted n && !s.inService n

/-- R420: target `t` can take a source. -/
def State.able (s : State) (t : Nat) : Bool :=
  let g := s.target t
  !g.inReset && !g.frozen && g.stack.length < 4

/-- R421: the target order that follows the one of the last assignment. -/
def targetOrder (last : Nat) : List Nat := [(last + 1) % 4, (last + 2) % 4, (last + 3) % 4, last % 4]

/-- R421: assign a pending source to the first able target it is routed to. -/
def State.assignSource (s : State) (n : Nat) : State :=
  if s.pendingSource n && (afind s.intc.assigned n).isNone then
    match (targetOrder (s.fld (F_INTC_SRC_CFG_TARGET n))).find? (fun t => tbit (s.fld (F_INTC_SRC_CFG_EN n)) t && s.able t) with
    | some t => { s with intc := { s.intc with assigned := s.intc.assigned ++ [(n, t)] } }.setFld (F_INTC_SRC_CFG_TARGET n) t
    | none => s
  else s

/-- The sources assigned to target `t`. -/
def State.assignedTo (s : State) (t : Nat) : List Nat := (s.intc.assigned.filter (fun e => e.2 = t)).map (·.1)

/-- R427: target `t` is idle. -/
def State.targetIsIdle (s : State) (t : Nat) : Bool :=
  if t < 2 then (s.target t).stalled else s.hst.hidle && s.flag (F_INTC_T_CTRL_IDLE_EN t)

/-- R426: moderation lets the line of target `t` assert. -/
def State.moderationAllows (s : State) (t : Nat) : Bool :=
  let a := s.assignedTo t
  Nat.max 1 (s.fld (F_INTC_T_MOD_COUNT t)) ≤ a.length ||
  (match (s.target t).lineAt with
    | some e => e + 1000 * s.fld (F_INTC_T_MOD_INTERVAL t) ≤ s.tim.el
    | none => true) ||
  a.any (fun n => n < s.fld (F_INTC_T_MOD_URGENT t)) || s.targetIsIdle t

/-- R422: bring the line of target `t` up to date. A line that asserts wakes a stalled core. -/
def State.updateLine (s : State) (t : Nat) : State :=
  let g := s.target t
  if g.stack.isEmpty && !g.frozen && !(s.assignedTo t).isEmpty then
    if g.line then s
    else if s.moderationAllows t then
      s.setTarget t (fun g => { g with line := true, lineAt := some s.tim.el, stalled := false })
    else s
  else s.setTarget t (fun g => { g with line := false })

/-- R422: bring every line up to date. -/
def State.updateLines (s : State) : State := s.each [0, 1, 2, 3] State.updateLine

/-- R421: after a change at a target or of an event bit: assignments of sources that are no longer pending, or of a target that is in reset or
frozen, end; then every pending source is assigned where a target is able. [Log 8, DESIGN CHOICE, safe] -/
def State.settleSources (s : State) : State :=
  let t := { s with intc := { s.intc with assigned := s.intc.assigned.filter (fun e =>
    s.pendingSource e.1 && !(s.target e.2).inReset && !(s.target e.2).frozen) } }
  (t.each allSources State.assignSource).updateLines

/-- R423: a read of INTC_tCLAIM: the value it returns and what it does. -/
def State.claimRead (s : State) (t : Nat) : State × Word :=
  if s.able t then
    match sortNat (s.assignedTo t) with
    | n :: _ =>
      let u := s.setTarget t (fun g => { g with stack := g.stack ++ [n] })
      let v := { u with intc := { u.intc with assigned := adel u.intc.assigned n, edge := remove u.intc.edge n } }
      (v.updateLines, BitVec.ofNat 32 (2147483648 + n))
    | [] => (s, 0#32)
  else (s, 0#32)

/-- R424, R425: a write of `n` to INTC_tCOMPLETE. -/
def State.completeWrite (s : State) (t n : Nat) : State :=
  let g := s.target t
  if g.frozen then s
  else if g.stack.getLast? = some n then
    (s.setTarget t (fun g => { g with stack := g.stack.dropLast })).settleSources
  else
    (((s.setTarget t (fun g => { g with frozen := true })).event (bitAt A_INTC_EVENT t)).raise 0x0301 (pay [t, n])).settleSources

/-- R425: empty the stack of target `t` and clear its freeze. -/
def State.unfreezeTarget (s : State) (t : Nat) : State :=
  (s.setTarget t (fun g => { g with stack := [], frozen := false })).settleSources

/-- R417: a write to INTC_SWSET sets doorbells. -/
def State.doorbellWrite (s : State) (v : Word) : State := s.setReg A_INTC_SWPEND (s.reg A_INTC_SWPEND ||| v)

/-- INTC_tMTIMECMP as a 64-bit number (R432). -/
def State.mtimecmp (s : State) (t : Nat) : Nat :=
  (s.reg (A_INTC_T_MTIMECMP_LO t)).toNat + 4294967296 * (s.reg (A_INTC_T_MTIMECMP_HI t)).toNat

/-- R432: the machine timer interrupt of each core is raised while its time is at or above INTC_tMTIMECMP, the machine software interrupt while
INTC_tMSIP is 1. [Log 8, DESIGN CHOICE, safe] -/
def State.updateTimers (s : State) : State :=
  { s with apps := s.apps.mapIdx (fun t a => { a with timerIrq := s.mtimecmp t ≤ s.tim.wt / 8, softIrq := tbit (s.reg (A_INTC_T_MSIP t)).toNat 0 }) }

/-- INTERRUPT_ASSERT (R421). [Log 29, DEDUCED, unsafe] -/
def execInterruptAssert (source : Nat) (s : State) : Host.Outcome State Fault Refusal :=
  .next (s.assignSource source).updateLines

/-- CLAIM (R423). -/
def execClaim (master target : Nat) (s : State) : Host.Outcome State Fault Refusal :=
  .next (let r := s.accessWith master (A_INTC_T_CLAIM target) false (fun t => let c := t.claimRead target; (c.1, accOk, c.2))
    r.1.complete master false (A_INTC_T_CLAIM target) r.2.1 r.2.2)

/-- COMPLETE (R424, R425). -/
def execComplete (master target : Nat) (value : Word) (s : State) : Host.Outcome State Fault Refusal :=
  .next (s.commandWrite master (A_INTC_T_COMPLETE target) value (fun t => t.completeWrite target (bits value 8 0)))

/-- UNFREEZE (R425). [Log 76, DEDUCED, safe] -/
def execUnfreeze (master target : Nat) (s : State) : Host.Outcome State Fault Refusal :=
  .next (s.commandWrite master (A_INTC_T_CTRL target) 1#32 (fun t => t.unfreezeTarget target))

/-- MODERATION_INTERVAL (R426): INTERVAL has passed since the line was last asserted. -/
def execModerationInterval (target : Nat) (s : State) : Host.Outcome State Fault Refusal :=
  .next (match (s.target target).lineAt with
    | some e => (s.reachEl (e + 1000 * s.fld (F_INTC_T_MOD_INTERVAL target))).updateLine target
    | none => s)

/-- TARGET_IDLE (R427): a core stalls in WFI, or HIDLE rises for both host targets. -/
def execTargetIdle (target : Nat) (s : State) : Host.Outcome State Fault Refusal :=
  .next (if target < 2 then (s.setTarget target (fun g => { g with stalled := true })).updateLine target
    else { s with hst := { s.hst with hidle := true } }.updateLines)

/-- HIDLE_FALL (R427). -/
def execHidleFall (s : State) : Host.Outcome State Fault Refusal :=
  .next { s with hst := { s.hst with hidle := false } }

/-- DOORBELL_SET (R417, R421). -/
def execDoorbellSet (master : Nat) (value : Word) (s : State) : Host.Outcome State Fault Refusal :=
  .next (s.commandWrite master A_INTC_SWSET value (fun t => (t.doorbellWrite value).settleSources))

/-- MACHINE_TIMER (R432). -/
def execMachineTimer (core : Nat) (s : State) : Host.Outcome State Fault Refusal :=
  .next (if 8 * s.mtimecmp core < 2 ^ 64 then
    ((s.reach (8 * s.mtimecmp core)).updateTimers).setTarget core (fun g => { g with stalled := false }) else s)

end Sys2Proof.Machine
end

