-- ==== Sys2Proof/Machine/FieldChain.lean ====
section
/-! DEFINITION. The decimation chain of a field channel and what its modes make of it (R398 to R402, R414). -/
namespace Sys2Proof.Machine

/-- R401: 2 to the power 56, modulo which the CIC registers wrap. -/
def cicMod : Nat := 72057594037927936

/-- R401: an integer as a CIC register holds it. -/
def cicWrap (x : Int) : Nat := (x % (cicMod : Int)).toNat

/-- R401: the value of a CIC register as a signed number. -/
def cicInt (x : Nat) : Int := if 2 * x < cicMod then x else (x : Int) - cicMod

/-- R401: a chain of integrators takes a value: each adds the one before it. [Log 110, DESIGN CHOICE, safe] -/
def integrate5 : Nat → List Nat → List Nat
  | _, [] => []
  | x, a :: r => (a + x) % cicMod :: integrate5 ((a + x) % cicMod) r

/-- R401: a chain of combs takes a value: each gives the difference from its last value. Answers what the combs then hold, and the output. -/
def comb5 : Nat → List Nat → List Nat × Nat
  | x, [] => ([], x)
  | x, a :: r => let p := comb5 ((x + cicMod - a) % cicMod) r; (x :: p.1, p.2)

/-- R401: the filter takes one modulator code, −2 to +2; after each `ratio` codes it gives an output. -/
def Cic.step (ratio : Nat) (c : Cic) (code : Int) : Cic × Option Int :=
  let i := integrate5 (cicWrap code) c.integrators
  if c.phase + 1 < ratio then ({ c with integrators := i, phase := c.phase + 1 }, none)
  else
    let p := comb5 (i.getLastD 0) c.combs
    (⟨i, p.1, 0⟩, some (cicInt p.2))

/-- R401: the filter takes a run of codes; its outputs, the newest first, stand before `out`. -/
def Cic.run (ratio : Nat) : Cic → List Int → List Int → Cic × List Int
  | c, out, [] => (c, out)
  | c, out, x :: r => match c.step ratio x with
    | (d, some y) => Cic.run ratio d (y :: out) r
    | (d, none) => Cic.run ratio d out r

/-- R402: the CIC ratio and the FIR decimation of a response. -/
def respRatio (r : Nat) : Nat := if r < 2 then 125 else if r < 4 then 250 else 625
def respFir (r : Nat) : Nat := [8, 8, 8, 8, 8, 8, 16, 16, 32, 32, 80, 80, 160, 160, 320, 320].getD r 16

/-- Channel `n`. -/
def State.fchan (s : State) (n : Nat) : FChan := aget {} s.fch.chans n

/-- Change channel `n`. -/
def State.setFchan (s : State) (n : Nat) (f : FChan → FChan) : State := { s with fch := { s.fch with chans := aset s.fch.chans n (f (s.fchan n)) } }

/-- R416: channel `n` has a record. -/
def State.fchUsed (s : State) (n : Nat) : Bool := n < 128 && !(s.parGiven (0x0E80 + n)).isEmpty

def State.fchW (s : State) (n k : Nat) : Word := s.parW (0x0E80 + n) k
def State.fchMode (s : State) (n : Nat) : Nat := s.fld (F_FCH_CFG_MODE n)
def State.fchResp (s : State) (n : Nat) : Nat := s.fld (F_FCH_CFG_RESP n)
def State.fchZero (s : State) (n : Nat) : Int := (s.fchW n 1).toInt
def State.fchFull (s : State) (n : Nat) : Int := (s.fchW n 2).toInt
def State.fchOutput (s : State) (n : Nat) : Bool := s.fchMode n == 7 || s.fchMode n == 8

/-- R411: output `n` drives. -/
def State.fchDrives (s : State) (n : Nat) : Bool := s.fch.driven.contains n

/-- R402: T_out of a response in µs. -/
def respPeriodUs (r : Nat) : Nat := [100, 100, 200, 200, 500, 500, 1000, 1000, 2000, 2000, 5000, 5000, 10000, 10000, 20000, 20000].getD r 1000

/-- R402: the group delay D of a response in µs. -/
def respDelayUs (r : Nat) : Nat := [400, 200, 800, 400, 2000, 1000, 4000, 2000, 8000, 4000, 20000, 10000, 40000, 20000, 80000, 40000].getD r 2000

/-- R402: the settling samples of a response. -/
def respSettling (r : Nat) : Nat := if r % 2 = 0 then 9 else 5

/-- R403: the instant at which channel `n` completes its next output period: a whole multiple of T_out. -/
def State.sampleInstant (s : State) (n : Nat) : Nat :=
  let p := 1000 * respPeriodUs (s.fchResp n)
  Nat.max ((s.tim.wt + p - 1) / p) ((s.fchan n).lastAt / p + 1) * p

/-- R399: what an edge adds to the count of an encoder: up when A leads B; no edge, or both lines at once, adds nothing. [Log 110, DESIGN CHOICE, safe] -/
def encoderStep (a b : Bool × Bool) : Int :=
  let pos (x : Bool × Bool) : Int := if x.1 then (if x.2 then 2 else 1) else (if x.2 then 3 else 0)
  if (pos b - pos a) % 4 = 1 then 1 else if (pos b - pos a) % 4 = 3 then -1 else 0

/-- R399: an encoder takes the levels of its lines after each edge. -/
def FChan.turn (c : FChan) (l : List (Bool × Bool)) : FChan :=
  l.foldl (fun (d : FChan) x => { d with lines := x, count := d.count + encoderStep d.lines x }) c

/-- R402: a frequency input takes its edges and keeps those of the output period that ends, and the two before them. -/
def FChan.takeEdges (c : FChan) (l : List Nat) (instant period : Nat) : FChan :=
  let e := l.reverse ++ c.edges
  let inside := (e.filter (fun t => instant < t + period)).length
  { c with edges := e.take (inside + 2) }

/-- R402: the window of a frequency reading at an instant: its edges and its start. A period with fewer than two edges widens it to the last two, and only
edges of the last 2 s count. [Log 110, DESIGN CHOICE, safe] -/
def FChan.window (c : FChan) (instant period : Nat) : List Nat × Nat :=
  let fresh := c.edges.filter (fun t => instant ≤ t + 2 * sec)
  let inside := fresh.filter (fun t => instant < t + period)
  if 2 ≤ inside.length then (inside, instant - period) else (fresh.take 2, (fresh.take 2).getLastD (instant - 2 * sec))

/-- R402: the reciprocal count over the edges of a window, in mHz; 0 with no edge. One edge in 2 s gives no count: the value is free. [Log 110, DESIGN CHOICE, safe] -/
def freqValue (edges : List Nat) (free : Int) : Int :=
  match edges with
  | [] => 0
  | [_] => free
  | a :: r => roundDiv (((r.length * 1000000000000 : Nat) : Int)) (Nat.max 1 (a - r.getLastD a))

/-- R398, R402: what channel `n` measures at its terminal: 0 the voltage in µV, 1 the current in nA. The FIR coefficients and the scaling of the front end
are not given. [Log 110, DESIGN CHOICE, safe] -/
def State.terminal (s : State) (n k : Nat) : Int := Config.calc .field ((n : Int) :: (s.fchMode n : Int) :: (s.fchResp n : Int) :: (s.fchan n).fir) k

/-- R400: the loop resistance of channel `n` is below, or above, a number of ohms. [Log 110, DESIGN CHOICE, safe] -/
def State.loopBelow (s : State) (n ohm : Nat) : Bool := s.terminal n 0 * 1000 < (ohm : Int) * s.terminal n 1
def State.loopAbove (s : State) (n ohm : Nat) : Bool := (ohm : Int) * s.terminal n 1 < s.terminal n 0 * 1000

/-- R398, R400: the contact of channel `n` is closed: below 5 kΩ in MODE 3; at 11 V or more, and until 5 V or less, in MODE 4. -/
def State.contactClosed (s : State) (n : Nat) : Bool :=
  if s.fchMode n = 3 then s.loopBelow n 5000
  else if 11000000 ≤ s.terminal n 0 then true
  else if s.terminal n 0 ≤ 5000000 then false
  else s.flag (F_FCH_STATUS_CONTACT n)

/-- R398, R412: RAW of channel `n` at an instant. An output measures its terminal; a current output that does not drive gives its terminal voltage divided by
LOAD_OHM. -/
def State.rawOf (s : State) (n instant : Nat) : Int :=
  match s.fchMode n with
  | 1 | 7 => s.terminal n 0
  | 2 => s.terminal n 1
  | 3 | 4 => (bit (s.contactClosed n) : Int)
  | 5 => freqValue ((s.fchan n).window instant (1000 * respPeriodUs (s.fchResp n))).1 s.freeVal.toInt
  | 6 => (s.fchan n).count
  | 8 => if s.fchDrives n then s.terminal n 1 else roundDiv (s.terminal n 0 * 1000) (Nat.max 1 (bits (s.fchW n 5) 15 0))
  | _ => 0

/-- R404: the group delay of the sample of channel `n` at an instant, in ns: 0 for an encoder, half the window for a frequency. -/
def State.sampleDelay (s : State) (n instant : Nat) : Nat :=
  if s.fchMode n = 6 then 0
  else if s.fchMode n = 5 then (instant - ((s.fchan n).window instant (1000 * respPeriodUs (s.fchResp n))).2) / 2
  else 1000 * respDelayUs (s.fchResp n)

/-- R399, R401, R402: channel `n` takes what its front end delivered in the output period that ends at `instant`. [Log 93, DESIGN CHOICE, safe] -/
def State.takeInput (s : State) (n : Nat) (input : FieldInput) (instant : Nat) : State :=
  let r := s.fchResp n
  s.setFchan n (fun c =>
    let d := { c with lastAt := instant }
    match input with
    | .codes l =>
      let p := Cic.run (respRatio r) d.cic [] l
      { d with cic := p.1, fir := (p.2 ++ d.fir).take (respSettling r * respFir r) }
    | .edges l => d.takeEdges l instant (1000 * respPeriodUs r)
    | .lines l => d.turn l)

end Sys2Proof.Machine
end

