-- ==== Sys2Proof/Machine/Field.lean ====
section
/-! DEFINITION. Field channels (R397 to R416): samples and their items, suppression, scaling, validity, outputs behind the lease gate, diagnostics and
engine sparing; and the compare units that trigger them (R361, R362). -/
namespace Sys2Proof.Machine

/-- The limits of a Q8.24 number. -/
def q24Lo : Int := -2147483648
def q24Hi : Int := 2147483647

/-- 1.0 in Q8.24. -/
def q24One : Int := 16777216

/-- R407: the per-unit value of RAW. -/
def State.puOf (s : State) (n : Nat) (raw : Int) : Int :=
  if s.fchMode n = 3 || s.fchMode n = 4 then (if raw = 0 then 0 else q24One)
  else
    let span := s.fchFull n - s.fchZero n
    let num := (raw - s.fchZero n) * q24One
    clampI q24Lo q24Hi (roundDiv (if span < 0 then -num else num) (Nat.max 1 span.natAbs))

/-- R407: the engineering value of a per-unit value. -/
def State.engOf (s : State) (n : Nat) (p : Int) : Int := (s.fchW n 3).toInt + roundDiv ((s.fchW n 4).toInt * p) 16777216

/-- R408, R415, R480: channel `n` is valid. [Log 24, DEDUCED, safe] -/
def State.fchValid (s : State) (n : Nat) : Bool :=
  s.flag (F_FCH_STATUS_SETTLED n) && !s.flag (F_FCH_STATUS_WIRE_BREAK n) && !s.flag (F_FCH_STATUS_SHORT n) && !s.flag (F_FCH_STATUS_OVER n) &&
  !s.flag (F_FCH_STATUS_NO_ENGINE n) && !(2 ≤ aget 0 s.hlt.injFails n) && (s.clk.vfld || s.fchOutput n)

/-- Bring VALID of channel `n` up to date. -/
def State.showFch (s : State) (n : Nat) : State := s.setFlag (F_FCH_STATUS_VALID n) (s.fchValid n)

/-- R406: suppression of channel `n` starts. -/
def State.suppress (s : State) (n : Nat) : State :=
  ((s.setFchan n (fun c => { c with settle := respSettling (s.fchResp n), newest := none, cand := none, lastAt := 0 })).setFlag (F_FCH_STATUS_SETTLED n) false).showFch n

/-- R404: the sample belongs to the present cycle: stamped at or before its freeze. -/
def State.ofCycle (s : State) (stamp : Nat) : Bool := stamp ≤ s.dev.freezeAt

/-- R410: the limits of RAW of an output. -/
def outRange (mode : Nat) : Int × Int := if mode = 7 then (-10500000, 10500000) else (0, 22000000)

/-- R410: the command RAW of a per-unit value, clamped, with whether it was. -/
def State.outRaw (s : State) (n : Nat) (pu : Int) : Int × Bool :=
  let r := outRange (s.fchMode n)
  let x := s.fchZero n + roundDiv (pu * (s.fchFull n - s.fchZero n)) 16777216
  let y := clampI r.1 r.2 x
  (y, y != x)

/-- R414: the condition (0 WIRE_BREAK, 1 SHORT, 2 OVER) is tested on channel `n`: by mode, and for outputs only while they drive with an engine. -/
def State.diagnoses (s : State) (n cond : Nat) : Bool :=
  let out := s.fchDrives n && !s.flag (F_FCH_STATUS_NO_ENGINE n)
  match s.fchMode n with
  | 1 => cond == 2
  | 2 => cond ≤ 2
  | 3 => s.flag (F_FCH_CFG_EOL n) && cond ≤ 1
  | 7 => out && (cond == 1 || cond == 2)
  | 8 => out && (cond == 0 || cond == 2 || (cond == 1 && 50 ≤ bits (s.fchW n 5) 15 0))
  | _ => false

/-- R414: the table of channel diagnostics: the condition shows at the terminal of channel `n`. -/
def State.condAt (s : State) (n cond : Nat) : Bool :=
  let v := s.terminal n 0
  let i := s.terminal n 1
  match s.fchMode n with
  | 1 => 10500000 < v.natAbs
  | 2 => if cond = 0 then i < 3600000 else if cond = 1 then 21000000 < i else 25000000 < i
  | 3 => if cond = 0 then s.loopAbove n 50000 else s.loopBelow n 400
  | 7 => if cond = 2 then s.flag (F_FCH_STATUS_CLAMP n) else 6000000 ≤ i.natAbs
  | 8 =>
    if cond = 2 then s.flag (F_FCH_STATUS_CLAMP n)
    else if cond = 0 then 12000000 ≤ v && i + 500000 ≤ (s.outRaw n (s.int (F_FCH_CMD_PU n))).1
    else v < 50000 && 4000000 ≤ i
  | _ => false

/-- R412: the read-back of channel `n` differs from the command of a driving output by more than 1 % of span. -/
def State.rbOff (s : State) (n : Nat) : Bool :=
  s.fchOutput n && s.fchDrives n && !s.flag (F_FCH_STATUS_NO_ENGINE n) &&
  decide (16777216 < 100 * (s.int (F_FCH_RB_PU n) - s.int (F_FCH_CMD_PU n)).natAbs)

/-- The status bit and event bit of a condition: 0 WIRE_BREAK, 1 SHORT, 2 OVER, 3 RB_ERR. -/
def condBit (n cond : Nat) : Fld :=
  if cond = 0 then F_FCH_STATUS_WIRE_BREAK n else if cond = 1 then F_FCH_STATUS_SHORT n else if cond = 2 then F_FCH_STATUS_OVER n else F_FCH_STATUS_RB_ERR n
def condEvent (n cond : Nat) : Fld :=
  if cond = 0 then F_FCH_EVENT_WB_EVT n else if cond = 1 then F_FCH_EVENT_SHORT_EVT n else if cond = 2 then F_FCH_EVENT_OVER_EVT n else F_FCH_EVENT_RB_EVT n

/-- R412, R414: the timer of a condition runs while what channel `n` shows differs from the status bit. -/
def State.diagTimer (s : State) (n cond : Nat) (shown : Bool) : State :=
  s.setFchan n (fun c =>
    if shown == s.flag (condBit n cond) then { c with timers := adel c.timers cond }
    else { c with timers := if (afind c.timers cond).isSome then c.timers else aset c.timers cond s.tim.el })

/-- R412: what a read-back in per-unit does: RB_ERR clears once it agrees with the command again. [Log 52, DEDUCED, unsafe] -/
def State.noteReadback (s : State) (n : Nat) (rb : Int) : State :=
  let t := s.setReg (A_FCH_RB n) (intWord rb)
  if t.rbOff n then t.diagTimer n 3 true
  else
    let u := (t.setFlag (F_FCH_STATUS_RB_ERR n) false).setFchan n (fun c => { c with timers := adel c.timers 3 })
    if (List.range 128).any (fun m => u.flag (F_FCH_STATUS_RB_ERR m)) then u else u.causeGone 0x1009

/-- R404, R407, R412, R414: a sample of channel `n` that is not suppressed. The stamp of the sample is its instant less D. -/
def State.newSample (s : State) (n instant : Nat) : State :=
  let raw := s.rawOf n instant
  let st := instant - s.sampleDelay n instant
  let sample := (st, instant, raw)
  let u := s.setFchan n (fun c => { c with newest := some sample, cand := if s.ofCycle st && instant ≤ s.dev.freezeAt + 1400000 then some sample else c.cand })
  let v := ((u.setReg (A_FCH_RAW n) (intWord raw)).setReg (A_FCH_PU n) (intWord (u.puOf n raw))).setReg (A_FCH_MEAS_T n) (toWord (tsuNs st))
  let w := if v.fchMode n = 3 || v.fchMode n = 4 then v.setFlag (F_FCH_STATUS_CONTACT n) (raw != 0) else v
  let x := w.each [0, 1, 2] (fun t k => t.diagTimer n k (t.diagnoses n k && t.condAt n k))
  let y := if x.fchOutput n then x.noteReadback n (x.puOf n raw) else x
  (y.when (y.fchMode n == 5) (fun t => t.useFree)).showFch n

/-- FIELD_SAMPLE (R403, R404, R406, R407, R412): an output period of the channel ends at the next whole multiple of T_out. [Log 93, DESIGN CHOICE, safe] -/
def execFieldSampleTaken (channel : Nat) (input : FieldInput) (s : State) : Host.Outcome State Fault Refusal :=
  .next (
    let n := channel
    if !s.fchUsed n || s.fchMode n = 0 || s.flag (F_FCH_STATUS_NO_ENGINE n) then s
    else
      let instant := s.sampleInstant n
      let t := (s.reach instant).takeInput n input instant
      if t.hlt.injRunning.contains n then t.setFchan n (fun c => { c with testLeft := c.testLeft - 1, testRaw := t.rawOf n instant }) else
      let left := (t.fchan n).settle
      if 0 < left then
        let u := t.setFchan n (fun c => { c with settle := left - 1 })
        (u.setFlag (F_FCH_STATUS_SETTLED n) (decide (left = 1))).showFch n
      else t.newSample n instant)

/-- R404: at a freeze the newest sample becomes the candidate of the cycle that opens, if it belongs to it. -/
def State.fieldFreeze (s : State) (previous : Nat) : State :=
  s.each ((List.range 128).filter s.fchUsed) (fun t n => t.setFchan n (fun c => { c with cand := match c.newest with
    | some x => if previous < x.1 && x.1 ≤ t.dev.freezeAt then some x else none
    | none => none }))

/-- R132, R134: the sensor slots with DECODE 5 that channel `n` feeds. -/
def State.slotsOfField (s : State) (n : Nat) : List Nat := s.slotList.filter (fun k => s.slotMine k && s.slotDecode k == 5 && (s.slotW k 1).toNat == n)

/-- R407: for a wind slot, channel ADDRESS + 1 carries the direction. -/
def State.windMate (s : State) (n : Nat) : List Word :=
  let m := n + 1
  match (s.fchan m).cand with
  | some x => [intWord (s.engOf m (s.puOf m x.2.2)), boolWord (s.fchValid m)]
  | none => [0#32, 0#32]

/-- R204, R206, R207: the field channels that port words of the plant read. -/
def State.plantChannels (s : State) : List Nat :=
  let ports := s.thrList.flatMap (fun t => [s.thrW t 16, s.thrW t 17]) ++
    ((List.range 16).filter s.genExists).map (fun g => s.parW (0x0440 + g) 2) ++
    (List.range ((s.parGiven 0x0402).length / 2)).map (fun k => s.parW 0x0402 (2 * k + 1))
  (ports.filter (fun w => portTransport w == 2)).map portNumber

/-- R404: the items of one channel: to each sensor slot it feeds, and as a plant value. A value holds validity first; a slot's then its engineering
value, a plant value its contact state and its engineering value. -/
def State.sendFieldItem (s : State) (n : Nat) : State :=
  match (s.fchan n).cand with
  | none => s
  | some (stamp, _, raw) =>
    let eng := s.engOf n (s.puOf n raw)
    let valid := boolWord (s.fchValid n)
    let s1 := (s.slotsOfField n).foldl (fun (t : State) k =>
      let mate := if s.slotKind k = 5 then s.windMate n else []
      t.ownItem 0 k stamp stamp ([valid, intWord eng] ++ mate)) s
    let s2 := if s.plantChannels.contains n then s1.ownItem 2 n stamp stamp [valid, boolWord (s.flag (F_FCH_STATUS_CONTACT n)), intWord eng] else s1
    s2.setFchan n (fun c => { c with cand := none })

/-- FIELD_ITEM_SEND (R404): at freeze + 1.40 ms. -/
def execFieldItemSend (s : State) : Host.Outcome State Fault Refusal :=
  .next (if s.fullCycle && 0 < s.dev.freezes && !s.agr.closed then
    let t := s.reach (s.dev.freezeAt + 1400000)
    t.each ((List.range 128).filter t.fchUsed) (fun u n => if (u.fchan n).settle = 0 && !u.hlt.injRunning.contains n then u.sendFieldItem n else u)
    else s)

/-- R410, R411: give output `n` a per-unit command. Under a lease, OPEN drives it, HOLD keeps the last value and CLOSED leaves it in high impedance. -/
def State.driveField (s : State) (n : Nat) (pu : Int) : State :=
  let gated := s.flag (F_FCH_CFG_LEASE n)
  let may := s.clk.vfld && (if gated then s.fld F_SAF_STATUS_GATE == gateOpen else s.fch.ready)
  if s.fchOutput n && may then
    let r := s.outRaw n pu
    let t := (s.setReg (A_FCH_CMD n) (intWord (if r.2 then s.puOf n r.1 else pu))).setFlag (F_FCH_STATUS_CLAMP n) r.2
    { t with fch := { t.fch with driven := insertNew t.fch.driven n } }
  else s

/-- FIELD_OUTPUT_WRITE (R410). -/
def execFieldOutputWrite (master channel : Nat) (value : Word) (s : State) : Host.Outcome State Fault Refusal :=
  .next (s.commandWrite master (A_FCH_OUT channel) value (fun t =>
    let u := t.setReg (A_FCH_OUT channel) value
    if t.fld (F_FCH_CFG_SRC channel) = 0 then u.driveField channel value.toInt else u))

/-- R412, R416: FLT_MS of channel `n` in ns. -/
def State.fltTime (s : State) (n : Nat) : Nat := bits (s.fchW n 6) 15 0 * ms

/-- FIELD_FAULT_TIMER (R414): a condition has held, or has been absent, for FLT_MS. -/
def execFieldFaultTimerEnds (channel condition : Nat) (s : State) : Host.Outcome State Fault Refusal :=
  .next (
    let n := channel
    let b := condBit n condition
    match (if 2 < condition then none else afind (s.fchan n).timers condition) with
    | none => s
    | some since =>
      let r := (s.reachEl (since + s.fltTime n)).setFchan n (fun c => { c with timers := adel c.timers condition })
      if s.flag b then
        let t := (r.setFlag b false).showFch n
        if (List.range 128).any (fun m => t.flag (condBit m condition)) then t else t.causeGone (0x1001 + condition)
      else
        let t := ((r.setFlag b true).event (condEvent n condition)).bump (if condition = 2 then F_FCH_CNT_OVER n else F_FCH_CNT_FAULT n)
        (t.raise (0x1001 + condition) (pay [n])).showFch n)

/-- READBACK_MISMATCH (R412): the read-back of a driving output has been off by more than 1 % of span for FLT_MS. -/
def execReadbackMismatch (channel : Nat) (s : State) : Host.Outcome State Fault Refusal :=
  .next (
    let n := channel
    match afind (s.fchan n).timers 3 with
    | some since =>
      if s.rbOff n then
        let r := (s.reachEl (since + s.fltTime n)).setFchan n (fun c => { c with timers := adel c.timers 3 })
        ((r.setFlag (F_FCH_STATUS_RB_ERR n) true).event (F_FCH_EVENT_RB_EVT n)).raise 0x1009 (pay [n])
      else s
    | none => s)

/-- MODULATOR_OVERLOAD (R406, R414): the input is back inside its range and the modulator is reset. [Log 52, DEDUCED, unsafe] -/
def execModulatorOverload (channel : Nat) (s : State) : Host.Outcome State Fault Refusal :=
  .next (if s.fchUsed channel && (s.fchMode channel == 1 || s.fchMode channel == 2) then
    let t := s.setFchan channel (fun c => { c with cic := {}, fir := [] })
    (((t.event (F_FCH_EVENT_OVL channel)).bump (F_FCH_CNT_OVER channel)).raise 0x1008 (pay [channel])).suppress channel
    else s)

/-- R479: the spare engine of a cluster is free. -/
def State.spareFree (s : State) (k : Nat) : Bool := !s.fch.sparesOut.contains k

/-- R472, R479: the engine that the shadow of a cluster tests, in rotation over 16. -/
def State.engineUnderTest (s : State) (k : Nat) : Nat := aget 0 s.hlt.engineNext k

/-- ENGINE_SHADOW_END (R472, R479): equal outputs move the rotation on; a mismatch starts the test of the spare. [Log 53, DEDUCED, unsafe] -/
def execEngineShadowEnd (cluster : Nat) (same : Bool) (s0 : State) : Host.Outcome State Fault Refusal :=
  .next (
    let k := cluster
    if 7 < k || !s0.spareFree k || (afind s0.hlt.engineTest k).isSome || s0.dev.st = .boot then s0
    else
    let s := s0.checkEnds (16 + k) sec
    if same then { s with hlt := { s.hlt with engineNext := aset s.hlt.engineNext k ((s.engineUnderTest k + 1) % 16) } }
    else { s with hlt := { s.hlt with engineMism := Nat.min 65535 (s.hlt.engineMism + 1), engineTest := aset s.hlt.engineTest k (s.engineUnderTest k) } })

/-- R415, R475: engine `e` of cluster `k` (16 is the spare) is retired: the alarm names the channel under test and the spare. [Log 53, DEDUCED, unsafe] -/
def State.retireEngine (s : State) (k e chan : Nat) : State :=
  (({ s with mram := { s.mram with riserEngines := insertNew s.mram.riserEngines (32 * k + e) } }).countRetired (keyEngine (32 * k + e))).raise 0x1005
    (pay [chan, 16])

/-- ENGINE_TEST_END (R415, R479). [Log 53, DEDUCED, unsafe] -/
def execEngineTestEnd (cluster : Nat) (sparePasses : Bool) (s0 : State) : Host.Outcome State Fault Refusal :=
  .next (match afind s0.hlt.engineTest cluster with
    | none => s0
    | some j =>
      let s := s0.checkEnds (16 + cluster) (10 * ms)
      let k := cluster
      let chan := 16 * k + s.engineUnderTest k
      let t := { s with
        hlt := { s.hlt with engineTest := adel s.hlt.engineTest k, engineNext := aset s.hlt.engineNext k ((j + 1) % 16) }
        fch := { s.fch with sparesOut := insertNew s.fch.sparesOut k } }
      if sparePasses then
        (((t.retireEngine k j chan).raise 0x1006 (pay [k])).setFlag (F_FCH_STATUS_SPARE (16 * k + j)) true).event (F_FCH_EVENT_ENGINE_EVT (16 * k + j))
      else t.retireEngine k 16 chan)

/-- R480: the channels that are tested: inputs in MODE 1 or 2 that nothing uses, and those that HLT_FCH_TEST enables. -/
def State.injectionTested (s : State) (n : Nat) : Bool :=
  let used := !(s.slotsOfField n).isEmpty || s.plantChannels.contains n ||
    (List.range 64).any (fun k => s.flag (F_LOOP_SLOT_CFG_EN k) && s.fld (F_LOOP_SLOT_CFG_IN_CH k) == n)
  (s.fchMode n == 1 || s.fchMode n == 2) && (!used || tbit (s.parW 0x0823 (n / 32)).toNat (n % 32))

/-- R480: the interval of the tests of channel `n`: HLT_FCH_TEST_S, and 10 s while it fails. -/
def State.injectionInterval (s : State) (n : Nat) : Nat := if 2 ≤ aget 0 s.hlt.injFails n then 10 * sec else s.par 0x0824 * sec

/-- FIELD_TEST_INJECTION (R472, R480): the channel converts the reference for the settling samples of its response plus one. -/
def execFieldTestInjection (channel : Nat) (s : State) : Host.Outcome State Fault Refusal :=
  .next (if s.dev.st != .boot && s.fchUsed channel && s.injectionTested channel && !s.hlt.injRunning.contains channel then
    let t := s.checkEnds (64 + channel) (s.injectionInterval channel)
    (((t.startInjection channel).setFchan channel (fun c => { c with testLeft := respSettling (t.fchResp channel) + 1 })).setFlag
      (F_FCH_STATUS_SETTLED channel) false).showFch channel
    else s)

/-- FIELD_TEST_INJECTION_END (R480): after the last reference sample the terminal is reconnected and the channel suppressed. -/
def execFieldTestInjectionEnds (channel : Nat) (s : State) : Host.Outcome State Fault Refusal :=
  .next (if s.hlt.injRunning.contains channel && (s.fchan channel).testLeft = 0 then
    (s.endInjection channel (s.fchMode channel) (s.fchan channel).testRaw).suppress channel else s)

/-- R406: a step of working time suppresses every input. -/
def State.suppressAll (s : State) : State := s.each ((List.range 128).filter (fun n => s.fchUsed n && s.fchMode n != 0)) State.suppress

/-- R409: compare unit `k` latches the newest sample of each channel it triggers. -/
def State.latchFields (s : State) (k : Nat) : State :=
  s.each ((List.range 128).filter (fun n => s.fchUsed n && s.fld (F_FCH_CFG_TRIG n) == k)) (fun t n =>
    match (t.fchan n).newest with
    | some x => ((t.setReg (A_FCH_LATCH n) (intWord x.2.2)).setReg (A_FCH_LATCH_T n) (toWord (tsuNs x.1))).event (F_FCH_EVENT_LATCHED n)
    | none => t)

/-- R362: what a firing of compare unit `k` does. -/
def State.fireUnit (s : State) (k : Nat) : State :=
  let t := (s.setFlag (F_TSU_CMP_CFG_FIRED k) true).setReg (A_TSU_CMP_LAST k) (toWord (tsuNs s.tim.wt))
  (if 10 ≤ k then t.latchFields k else t).settleSources

/-- R362: the working time at which unit `k` fires next. -/
def State.nextFire (s : State) (k : Nat) : Nat :=
  let time := (s.reg (A_TSU_CMP_TIME k)).toNat
  if s.flag (F_TSU_CMP_CFG_MODE k) then
    let p := Nat.max 1 (s.reg (A_TSU_CMP_PERIOD k)).toNat
    s.tim.wt + (time + p - s.tim.wt % p) % p
  else s.tim.wt + (time + 4294967296 - tsuNs s.tim.wt) % 4294967296

/-- COMPARE_FIRE (R362, R409): an enabled unit fires; a one-shot unit once. -/
def execCompareFire (unit : Nat) (s : State) : Host.Outcome State Fault Refusal :=
  .next (if 15 < unit || !s.flag (F_TSU_CMP_CFG_EN unit) then s
    else if s.flag (F_TSU_CMP_CFG_MODE unit) then (s.reach (s.nextFire unit)).fireUnit unit
    else if s.tim.armed.contains unit then
      let t := s.reach (s.nextFire unit)
      ({ t with tim := { t.tim with armed := remove t.tim.armed unit } }).fireUnit unit
    else s)

/-- R362: PERIOD of unit `k` is allowed. -/
def State.periodOk (s : State) (k : Nat) : Bool :=
  let p := (s.reg (A_TSU_CMP_PERIOD k)).toNat
  p % 2 == 0 && 10000 ≤ p && p ≤ 1000000000 && 1000000000 % p == 0

/-- COMPARE_ENABLE (R361, R362): units 0 to 9 are read-only. -/
def State.enableUnit (s : State) (unit : Nat) (value : Word) : State :=
  let a := A_TSU_CMP_CFG unit
  let t := s.typedWrite a value
  if unit < 10 then t
  else if !t.flag (F_TSU_CMP_CFG_EN unit) then { t with tim := { t.tim with armed := remove t.tim.armed unit } }
  else if t.flag (F_TSU_CMP_CFG_MODE unit) then
    if t.periodOk unit then { t with tim := { t.tim with armed := remove t.tim.armed unit } }
    else t.setFlag (F_TSU_CMP_CFG_EN unit) (s.flag (F_TSU_CMP_CFG_EN unit))
  else
    let d := ((t.reg (A_TSU_CMP_TIME unit)).toNat + 4294967296 - tsuNs t.tim.wt) % 4294967296
    if 2147483648 ≤ d then
      ((({ t with tim := { t.tim with armed := remove t.tim.armed unit } }).setFlag (F_TSU_CMP_CFG_LATE unit) true).event F_TSU_EVENT_CMP_LATE).fireUnit unit
    else { t with tim := { t.tim with armed := insertNew t.tim.armed unit } }

/-- COMPARE_ENABLE (R362). -/
def execCompareEnable (master unit : Nat) (value : Word) (s : State) : Host.Outcome State Fault Refusal :=
  .next (if 15 < unit then s else s.commandWrite master (A_TSU_CMP_CFG unit) value (fun t => (t.enableUnit unit value).settleSources))

/-- R410: the port words that name a field channel for a command. -/
def State.commandChannels (s : State) : List Nat :=
  ((s.thrList.flatMap (fun t => [s.thrW t 14, s.thrW t 15])).filter (fun w => portTransport w == 2)).map portNumber

/-- R410: the loop slots whose output is a field channel. -/
def State.loopChannels (s : State) : List Nat :=
  ((List.range 64).filter (fun k => !(s.parGiven (0x0F40 + k)).isEmpty && bits (s.parW (0x0F40 + k) 0) 0 0 == 1 &&
    bits (s.parW (0x0F40 + k) 0) 11 11 == 0)).map (fun k => bits (s.parW (0x0F40 + k) 0) 18 12)

/-- R416: the record fields that the channel's registers show. -/
def State.showRecord (s : State) (n : Nat) : State :=
  let w := s.fchW n 0
  let src := if s.commandChannels.contains n then 1 else if s.loopChannels.contains n then 2 else 0
  let t := s.setReg (A_FCH_CFG n) (BitVec.ofNat 32 (bits w 3 0 + 16 * bits w 7 4 + 256 * bits w 8 8 + 512 * src + 2048 * bits w 9 9 +
    4096 * bits w 13 10 + 65536 * bits w 23 16))
  if bits w 3 0 = 6 then t.setFlag (F_FCH_STATUS_PAIR_B (n + 1)) true else t

/-- R399, R410, R416: boot step 8 sets up the field channels. -/
def State.setupFields (s : State) : State := s.each ((List.range 128).filter s.fchUsed) State.showRecord

/-- R406, R411, R415: the end of boot step 10: engines retired before are replaced by the spare, or their channels are lost; inputs settle; outputs
without a lease drive. -/
def State.startFields (s : State) : State :=
  let s1 := s.each (List.range 8) (fun t k =>
    let out := (List.range 16).filter (fun e => t.mram.riserEngines.contains (32 * k + e))
    let spareOk := !t.mram.riserEngines.contains (32 * k + 16)
    let u := { t with fch := { t.fch with sparesOut := if out.isEmpty && spareOk then t.fch.sparesOut else insertNew t.fch.sparesOut k } }
    (out.zipIdx).foldl (fun (v : State) e =>
      if e.2 = 0 && spareOk then v.setFlag (F_FCH_STATUS_SPARE (16 * k + e.1)) true
      else ((v.setFlag (F_FCH_STATUS_NO_ENGINE (16 * k + e.1)) true).event (F_FCH_EVENT_ENGINE_EVT (16 * k + e.1))).raise 0x1007 (pay [16 * k + e.1])) u)
  let s2 := { s1 with fch := { s1.fch with ready := true } }.suppressAll
  s2.each ((List.range 128).filter (fun n => s2.fchUsed n && s2.fchOutput n && s2.fld (F_FCH_CFG_SRC n) == 0 && !s2.flag (F_FCH_CFG_LEASE n)))
    (fun t n => t.driveField n (t.reg (A_FCH_OUT n)).toInt)

/-- R513: VALID of every channel follows the field supply. -/
def State.showFields (s : State) : State := s.each ((List.range 128).filter s.fchUsed) State.showFch

/-- VFLD_PRESENT (R513): from now on R336 applies. [Log 24, DEDUCED, safe] -/
def execVfldPresent (s : State) : Host.Outcome State Fault Refusal :=
  .next ((({ s with clk := { s.clk with vfld := true } }.setFlag F_SAF_STATUS_VFLD_LOW false).causeGone 0x0A12).showFields)

/-- VFLD_LOW (R336, R513): brakes lose their supply and apply, field outputs are off and field inputs not valid; safe inputs report their demands
on their own. [Log 24, DEDUCED, safe] -/
def execVfldLow (s : State) : Host.Outcome State Fault Refusal :=
  .next (if s.clk.vfld then
    let t := ({ s with clk := { s.clk with vfld := false }, fch := { s.fch with driven := [] } }.setFlag F_SAF_STATUS_VFLD_LOW true).raise 0x0A12
    (t.each (List.range 8) (fun u n => if u.brkEn n then u.applyBrake n else u)).showFields
    else s)

end Sys2Proof.Machine
end

