-- ==== Sys2Proof/Machine/Net.lean ====
section
/-! DEFINITION. The Ethernet ports (R366 to R374): reception, duplicates, IEC 61162-450, ARP, PHYs and MDIO. -/
namespace Sys2Proof.Machine

/-- R132: the sensor slots of this side with a transport, an address word and one of the decoders of a kind of message. -/
def State.slotsAt (s : State) (transport addr : Nat) (rtcm : Bool) : List Nat :=
  s.slotList.filter (fun n => s.slotMine n && bits (s.slotW n 0) 10 8 == transport && (s.slotW n 1).toNat == addr && (s.slotKind n == 9) == rtcm)

/-- Send one message as the item of every slot of a list. -/
def State.slotMessage (s : State) (slots : List Nat) (first last : Nat) (data : List Word) : State :=
  slots.foldl (fun (t : State) n => t.ownItem 0 n first last data) s

/-- Bytes as the words of an item. -/
def byteWords (b : List Byte) : List Word := b.map (fun x => BitVec.setWidth 32 x)

/-- Split a run of characters at line feeds, without the carriage returns. -/
def splitLines : List Byte → List (List Byte)
  | [] => [[]]
  | b :: r =>
    if b = 10#8 then [] :: splitLines r
    else if b = 13#8 then splitLines r
    else match splitLines r with
      | [] => [[b]]
      | l :: m => (b :: l) :: m

/-- R373: a line without the TAG block that stands before its sentence. -/
def dropTag (l : List Byte) : List Byte :=
  if l.headD 0#8 = 0x5C#8 then ((l.drop 1).dropWhile (· != 0x5C#8)).drop 1 else l

/-- R373: the sentences of a UdPbC datagram; none for another type. -/
def sentencesOf (b : List Byte) : List (List Byte) :=
  if b.take 6 = [0x55#8, 0x64#8, 0x50#8, 0x62#8, 0x43#8, 0#8] then
    ((splitLines (b.drop 6)).map dropTag).filter (fun l => l.headD 0#8 == 0x24#8 || l.headD 0#8 == 0x21#8)
  else []

/-- R373: the port is one of ETH_450_RX. [Log 59, DEDUCED, unsafe] -/
def State.is450 (s : State) (port : Nat) : Bool :=
  (List.range ((s.parGiven 0x0B10).length / 2)).any (fun k => s.par 0x0B10 (2 * k + 1) == port)

/-- R373, R134: what a delivered datagram of a LAN gives the sensor slots of its source address. [Log 59, DEDUCED, unsafe] -/
def State.sensorDatagram (s : State) (src dstPort : Nat) (payload : List Byte) (stamp : Nat) : State :=
  let t := if s.is450 dstPort then (sentencesOf payload).foldl (fun (u : State) x => u.slotMessage (u.slotsAt 2 src false) stamp stamp (byteWords x)) s else s
  if rtcmOk payload then t.slotMessage (t.slotsAt 2 src true) stamp stamp (byteWords payload) else t

/-- R367: an address is resolved to a MAC address: it enters the cache of 64, and what waited for it goes out. -/
def State.resolved (s : State) (ip mac : Nat) : State :=
  let c := (remove s.net.arp ip ++ [ip]).drop ((remove s.net.arp ip).length - 63)
  let rest := s.net.waiting.filter (fun w => w.hop != ip)
  let t := { s with net := { s.net with arp := c, arpInfo := (aset s.net.arpInfo ip (mac, s.tim.el)).filter (fun e => c.contains e.1), waiting := rest } }
  let u := (s.net.waiting.filter (fun w => w.hop == ip)).foldl (fun (v : State) w => v.netSend w.svc w.kind ((w.dest : Int) :: w.data)) t
  if u.net.waiting.isEmpty then u.causeGone 0x0607 else u

/-- R367, R396: the MAC address of port `p`. -/
def State.macOf (s : State) (p : Nat) : Nat := s.par 0x0B02 (2 * bit (p == 2)) + 4294967296 * bits (s.parW 0x0B02 (2 * bit (p == 2) + 1)) 15 0

/-- What the device does with a frame it delivers. -/
def State.deliver (s : State) (f : EthFrame) : State :=
  let t := s.bump (F_ETH_P_RX_OK_COUNT f.port)
  match f.payload with
  | .arpReply ip mac => t.resolved ip mac
  | .arpRequest ip => if ip = t.ipWord (f.port == 2) 0 then t.ethSend f.port .arp [(ip : Int), t.macOf f.port] else t
  | .icmpEcho => t.ethSend f.port .icmp []
  | .udp src _ dstPort payload => if f.port < 2 then t.sensorDatagram src dstPort payload f.stamp else t
  | .fragment | .other => t

/-- Count a duplicate. -/
def State.dropCopy (s : State) (p : Nat) : State := s.bump (F_ETH_P_DUP_COUNT p)

/-- R372: an earlier delivery from the other LAN makes this datagram a duplicate. -/
def State.isCopy (s : State) (f : EthFrame) (src srcPort dstPort : Nat) (payload : List Byte) : Bool :=
  f.port < 2 && s.net.recent.any (fun r => r.src == src && r.srcPort == srcPort && r.dstPort == dstPort && r.payload == payload && r.port != f.port &&
    decide (f.stamp ≤ r.stamp + s.par 0x0B06 * 1000))

/-- PTP messages (R375). -/
def ptpPort (p : Nat) : Bool := p == 319 || p == 320

/-- R372: duplicates of datagrams without a trailer. -/
def State.filterCopy (s : State) (f : EthFrame) : State :=
  match f.payload with
  | .udp src srcPort dstPort payload =>
    if 2 ≤ f.port || ptpPort dstPort || dstPort = s.par 0x1002 then s.deliver f
    else if s.isCopy f src srcPort dstPort payload then s.dropCopy f.port
    else
      let old := s.net.recent.filter (fun r => decide (f.stamp ≤ r.stamp + s.par 0x0B06 * 1000))
      { s with net := { s.net with recent := old ++ [Recent.mk src srcPort dstPort payload f.port f.stamp] } }.deliver f
  | .arpReply _ _ | .arpRequest _ | .icmpEcho | .fragment | .other => s.deliver f

/-- R376: a frame that carries PTP. -/
def carriesPtp (f : EthFrame) : Bool :=
  match f.payload with
  | .udp _ _ d _ => ptpPort d
  | .arpReply _ _ | .arpRequest _ | .icmpEcho | .fragment | .other => false

/-- R371: the duplicate discard of frames with a redundancy trailer. -/
def State.filterPrp (s : State) (f : EthFrame) : State :=
  match f.prp with
  | none => s.filterCopy f
  | some q =>
    if carriesPtp f then s.deliver f
    else if s.net.prp.any (fun e => e.1 == f.srcMac && e.2.1 == q) then s.dropCopy f.port
    else
      let sources := s.net.prp.foldl (fun (l : List Nat) e => insertNew l e.1) []
      if sources.contains f.srcMac || sources.length < 64 then
        { s with net := { s.net with prp := s.net.prp ++ [(f.srcMac, q, s.tim.el)] } }.deliver f
      else if s.net.prpFull then s.deliver f
      else ((({ s with net := { s.net with prpFull := true } }).event F_ETH_EVENT_PRP_FULL).raise 0x0604).deliver f

/-- R368: what the MAC drops in hardware. [Log 57, DEDUCED, unsafe] -/
def macDrops (f : EthFrame) : Bool := (f.broadcast && !f.isArp) || (f.multicast && !f.joined)

/-- R368: the frames of a window of 10 ms. [Log 57, DEDUCED, unsafe] [Log 109, DESIGN CHOICE, unsafe] -/
def State.rxLimit (s : State) : Nat := s.par 0x0B07 / 100

/-- R368: frames beyond the limit of the window are dropped and counted. [Log 57, DEDUCED, unsafe] -/
def State.overLimit (s : State) (p : Nat) : State :=
  let t := (s.bump (F_ETH_P_RX_DROP_COUNT p)).event F_ETH_EVENT_RX_LIMIT
  if t.limited t.net.limitAt p (60 * sec) then
    ({ t with net := { t.net with limitAt := aset t.net.limitAt p t.tim.el } }).raise 0x0603 (pay [p])
  else t

/-- R367: the frames the device handles: of at most 1,522 bytes, with at most one IEEE 802.1Q tag. -/
def handled (f : EthFrame) : Bool := f.length ≤ 1522 && f.tags ≤ 1

/-- ETHERNET_FRAME (R367 to R373). Orders, service requests, PTP, renewals and safe frames in it have commands of their own. -/
def execEthernetFrame (frame : EthFrame) (s : State) : Host.Outcome State Fault Refusal :=
  .next (
    if !s.ethOn frame.port || 3 ≤ frame.port then s
    else if !frame.fcsOk then s.bump (F_ETH_P_RX_ERR_COUNT frame.port)
    else if macDrops frame || !handled frame then s
    else
      let n := aget 0 s.net.window frame.port + 1
      let t := { s with net := { s.net with window := aset s.net.window frame.port n } }
      if t.rxLimit < n then t.overLimit frame.port else t.filterPrp frame)

/-- PRP_ENTRY_FORGET (R371): 400 ms after the entry. [Log 57, DEDUCED, unsafe] -/
def execPrpEntryForget (mac seq : Nat) (s : State) : Host.Outcome State Fault Refusal :=
  .next (match s.net.prp.find? (fun e => e.1 == mac && e.2.1 == seq) with
    | some e => let t := s.reachEl (e.2.2 + 400 * ms)
      { t with net := { t.net with prp := t.net.prp.filter (fun x => !(x.1 == mac && x.2.1 == seq)) } }
    | none => s)

/-- RX_LIMIT_WINDOW (R368): a window of 10 ms ends, 10 ms after the one before it. -/
def execRxLimitWindow (port : Nat) (s : State) : Host.Outcome State Fault Refusal :=
  .next (
    let r := s.reachEl (aget 0 s.net.windowAt port + 10 * ms)
    let t := { r with net := { r.net with window := adel r.net.window port, windowAt := aset r.net.windowAt port r.tim.el } }
    if aget 0 s.net.window port ≤ s.rxLimit && t.net.window.all (fun e => decide (e.2 ≤ t.rxLimit)) then t.causeGone 0x0603 else t)

/-- Raise an alarm of a level: when it begins on a port, or when no entry stands for it. -/
def State.raiseLevel (s : State) (began : Bool) (code : Nat) (payload : List Word) : State :=
  if began || (s.alarm? code).isNone then s.raise code payload else s

/-- R366: every enabled port passes a test of one bit of ETH_STATUS. -/
def State.allPorts (s : State) (lo : Nat) : Bool := (List.range 3).all (fun p => !s.ethOn p || s.flag (bitAt A_ETH_STATUS (lo + p)))

/-- R366: a port's PHY gives its link state, or does not answer and leaves the last one. -/
def State.phyState (s : State) (port : Nat) (answered link : Bool) : State :=
  let had := s.flag (bitAt A_ETH_STATUS port)
  let knew := s.flag (bitAt A_ETH_STATUS (4 + port))
  let t := s.setFlag (bitAt A_ETH_STATUS (4 + port)) answered
  if answered then
    let u := t.setFlag (bitAt A_ETH_STATUS port) link
    let v := if u.allPorts 4 then u.causeGone 0x0602 else u
    if link then (if v.allPorts 0 then v.causeGone 0x0601 else v)
    else (v.when had (fun x => x.event F_ETH_EVENT_LINK_DOWN)).raiseLevel had 0x0601 (pay [port])
  else (t.event F_ETH_EVENT_PHY_FAIL).raiseLevel knew 0x0602 (pay [port])

/-- R366: the read of a PHY register over MDIO. -/
def State.readPhy (s : State) (phy reg : Nat) : State := s.send .service .mdio [(phy : Int), (reg : Int)]

/-- PHY_POLL (R366): 100 ms after the port's last poll, its PHY's basic status register is read. [Log 58, DEDUCED, unsafe] -/
def execPhyPoll (port : Nat) (answered link : Bool) (s : State) : Host.Outcome State Fault Refusal :=
  .next (
    if !s.ethOn port || 3 ≤ port then s
    else
      let t := s.reachEl (match afind s.net.polledAt port with
        | some e => e + 100 * ms
        | none => s.tim.el)
      (({ t with net := { t.net with polledAt := aset t.net.polledAt port t.tim.el } }).readPhy (t.par 0x0B05 port) 1).phyState port answered link)

/-- A write of ETH_MDIO: START starts a read unless one runs. -/
def State.mdioWrite (s : State) (v : Word) : State :=
  let t := s.typedWrite A_ETH_MDIO v
  if fieldOf v F_ETH_MDIO_START = 1 && !s.flag F_ETH_MDIO_BUSY then
    (({ t with net := { t.net with mdio := some (fieldOf v F_ETH_MDIO_PHY, fieldOf v F_ETH_MDIO_REG) } }).setFlag F_ETH_MDIO_BUSY true).readPhy
      (fieldOf v F_ETH_MDIO_PHY) (fieldOf v F_ETH_MDIO_REG)
  else t

/-- MDIO_READ. -/
def execMdioRead (master : Nat) (value : Word) (s : State) : Host.Outcome State Fault Refusal :=
  .next (s.commandWrite master A_ETH_MDIO value (fun t => t.mdioWrite value))

/-- MDIO_READ_DONE: DATA of a read that nothing answered is a free value. [Log 58, DEDUCED, unsafe] -/
def execMdioReadDone (answer : Option Nat) (s : State) : Host.Outcome State Fault Refusal :=
  .next (
    if s.net.mdio.isNone then s
    else
      let t := ({ s with net := { s.net with mdio := none } }).setFlag F_ETH_MDIO_BUSY false
      match answer with
      | some d => (t.setFld F_ETH_MDIO_DATA d).setFlag F_ETH_MDIO_NOACK false
      | none => ((t.setFld F_ETH_MDIO_DATA t.freeVal.toNat).setFlag F_ETH_MDIO_NOACK true).useFree)

/-- R367: the address is on the service port's network and not on the LANs'. -/
def State.onService (s : State) (ip : Nat) : Bool :=
  (ip &&& s.ipWord true 1) == (s.ipWord true 0 &&& s.ipWord true 1) && (ip &&& s.ipWord false 1) != (s.ipWord false 0 &&& s.ipWord false 1)

/-- ARP_REFRESH (R367): 60 s after an entry of the cache was last asked for it is asked for again. -/
def execArpRefresh (ip : Nat) (s : State) : Host.Outcome State Fault Refusal :=
  .next (if s.net.arp.contains ip then
    let e : Nat × Nat := aget (0, s.tim.el) s.net.arpInfo ip
    let t := s.reachEl (e.2 + 60 * sec)
    ({ t with net := { t.net with arpInfo := aset t.net.arpInfo ip (e.1, t.tim.el) } }).netSend (s.onService ip) .arp [(ip : Int)]
    else s)

/-- ARP_TIMEOUT (R367): what has waited for an address for 1 s is dropped. -/
def execArpTimeout (ip : Nat) (s : State) : Host.Outcome State Fault Refusal :=
  .next (match s.net.waiting.find? (fun w => w.hop == ip) with
    | some w =>
      let t := s.reachEl (w.since + sec)
      (({ t with net := { t.net with waiting := t.net.waiting.filter (fun x => x.hop != ip || decide (t.tim.el < x.since + sec)) } }).event
        F_ETH_EVENT_ARP_FAIL).raise 0x0607 (pay [w.dest])
    | none => s)

end Sys2Proof.Machine
end

