-- ==== Sys2Proof/Machine/Can.lean ====
section
/-! DEFINITION. The CAN controllers (R381 to R391): filters, queues, objects, fast packets, reference messages and error confinement. -/
namespace Sys2Proof.Machine

/-- R396: word `k` of CAN object `o`. -/
def State.objW (s : State) (o k : Nat) : Word := s.parW (0x0C80 + o) k

/-- R396: the first word of the frames of object `o`. -/
def State.objHead (s : State) (o : Nat) : Nat :=
  canHead (s.objW o 1).toNat (bits (s.objW o 0) 3 3 == 1) (bits (s.objW o 0) 4 4 == 1) (bits (s.objW o 0) 5 5 == 1)

/-- R387: a frame of object `o` falls due on channel `c`. -/
def State.objSend (s : State) (c o : Nat) (data : List Byte) : State := s.canSend c (some o) (s.objHead o) data false

/-- R385: object `o` is used on channel `c` with a KIND: 0 command, 1 loop, 2 receive. -/
def State.objIs (s : State) (o c kind : Nat) : Bool :=
  !(s.parGiven (0x0C80 + o)).isEmpty && bits (s.objW o 0) 2 0 == c && bits (s.objW o 0) 17 16 == kind

/-- The objects of a channel and KIND, in rising number. -/
def State.objsOf (s : State) (c kind : Nat) : List Nat := (List.range 128).filter (fun o => s.objIs o c kind)

/-- R382: one filter element: TYPE (0 range, 1 dual, 2 mask), IDE, ACTION, ID1 and ID2. -/
structure FilterElem where
  typ : Nat
  ide : Bool
  action : Nat
  id1 : Nat
  id2 : Nat
  deriving DecidableEq, Repr

/-- R382: an element matches an identifier. -/
def FilterElem.matches (e : FilterElem) (ide : Bool) (id : Nat) : Bool :=
  e.ide == ide && (if e.typ = 0 then e.id1 ≤ id && id ≤ e.id2 else if e.typ = 1 then id == e.id1 || id == e.id2 else id &&& e.id2 == e.id1 &&& e.id2)

/-- An element that admits one identifier to queue 0. -/
def exactElem (ide : Bool) (id : Nat) : FilterElem := ⟨2, ide, 1, id, if ide then 0x1FFFFFFF else 0x7FF⟩

/-- R389: the sensor slots on channel `c`. -/
def State.canSlots (s : State) (c : Nat) : List Nat :=
  s.slotList.filter (fun n => s.slotMine n && bits (s.slotW n 0) 10 8 == 1 && s.slotDecode n == 4 && bits (s.slotW n 1) 2 0 == c)

/-- R389: the element of a sensor slot: its PGN, without the destination of a PGN below 240, and its source unless any is accepted. -/
def State.slotElem (s : State) (n : Nat) : FilterElem :=
  let pgn := bits (s.slotW n 1) 20 3
  let src := bits (s.slotW n 1) 28 21
  let m := if pgn / 256 % 256 < 240 then 0x3FF0000 else 0x3FFFF00
  if src = 0xFF then ⟨2, true, 1, pgn * 256, m⟩ else ⟨2, true, 1, pgn * 256 + src, m + 0xFF⟩

/-- R388: the identifiers of the order sources on channel `c`. [Log 55, DEDUCED, unsafe] -/
def State.orderIds (s : State) (c : Nat) : List Nat :=
  ((List.range ((s.parGiven 0x1201).length / 4)).filter (fun k => s.srcEntry (k + 1) 0 == 4#32 && bits (s.srcEntry (k + 1) 1) 2 0 == c)).map
    (fun k => bits (s.srcEntry (k + 1) 1) 31 3)

/-- R383: the generated elements of channel `c`, in their order, and then those of CAN_FLT. [Log 55, DEDUCED, unsafe] -/
def State.canElems (s : State) (c : Nat) : List FilterElem :=
  let exact (o : Nat) : FilterElem := exactElem (bits (s.objW o 0) 3 3 == 1) (s.objW o 1).toNat
  let w := s.parGiven (0x0C20 + c)
  (s.objsOf c 2).map exact ++ (s.canSlots c).map s.slotElem ++ (s.orderIds c).map (fun i => exactElem (decide (0x7FF < i)) i) ++ (s.objsOf c 1).map exact ++
  (List.range (w.length / 3)).map (fun k => FilterElem.mk (bits (nthW w (3 * k)) 1 0) (bits (nthW w (3 * k)) 2 2 == 1) (bits (nthW w (3 * k)) 5 4)
    (nthW w (3 * k + 1)).toNat (nthW w (3 * k + 2)).toNat)

/-- R383: the elements that take the pairs: mask elements until 64 are taken. [Log 55, DEDUCED, unsafe] -/
def pairElems : Nat → List FilterElem → List FilterElem × List FilterElem
  | _, [] => ([], [])
  | 0, l => ([], l)
  | n + 1, e :: r =>
    if e.typ = 2 then let p := pairElems n r; (e :: p.1, p.2)
    else let p := pairElems (n + 1) r; (p.1, e :: p.2)

/-- R382: the element that decides on a frame: its number and its action. -/
def State.canMatch (s : State) (c : Nat) (ide : Bool) (id : Nat) : Option (Nat × Nat) :=
  let p := pairElems 64 (s.canElems c)
  match p.1.zipIdx.find? (fun e => e.1.matches ide id) with
  | some e => some (e.2, e.1.action)
  | none => (p.2.zipIdx.find? (fun e => e.1.matches ide id)).map (fun e => (64 + e.2, e.1.action))

/-- R384: a queue element. -/
def elemWords (f : CanFrame) (elem : Nat) : List Word :=
  [toWord (canHead f.id f.ide f.fdf f.brs), toWord (f.dlc % 16 + 16 * (f.data.length % 128) + 2048 * bit f.esi + 65536 * (elem % 512)), toWord (tsuNs f.sof), toWord (tsuNs f.eof)] ++
  padWords 16 (bytesWords f.data)

/-- R384: append an element to queue 1, unless it is full. -/
def State.pushQ1 (s : State) (c : Nat) (e : List Word) : State :=
  if (s.canChan c).q1.length < 64 then
    (s.setCanChan c (fun k => { k with q1 := k.q1 ++ [e] })).setFld (F_CAN_Q1_STAT_LEVEL c) ((s.canChan c).q1.length + 1)
  else (s.event (F_CAN_EVENT_Q1_OVF c)).raise 0x0704 (pay [c, 1])

/-- R384: POP removes the head element of queue 1. -/
def State.popQ1 (s : State) (c : Nat) : State :=
  (s.setCanChan c (fun k => { k with q1 := k.q1.tail })).setFld (F_CAN_Q1_STAT_LEVEL c) ((s.canChan c).q1.length - 1)

/-- A write of CAN_cQ1_CTRL. -/
def State.q1Write (s : State) (c : Nat) (v : Word) : State := if bits v 0 0 = 1 then s.popQ1 c else s

/-- R384: word `k` of the head element of queue 1. -/
def State.q1Word (s : State) (c k : Nat) : Word := nthW ((s.canChan c).q1.headD []) k

/-- R385: a frame of a receive object. -/
def State.objFrame (s : State) (o : Nat) (f : CanFrame) : State :=
  let old : CanObj := aget {} s.can.objs o
  let t := { s with can := { s.can with objs := aset s.can.objs o ⟨some (f.eof, f.sof, f.data), old.newest, s.tim.el, false⟩ } }
  if t.can.objs.all (fun e => !e.2.timedOut) then t.causeGone 0x0705 else t

/-- R389: the PGN of an identifier. -/
def pgnOf (id : Nat) : Nat := if id / 65536 % 256 < 240 then id / 65536 % 1024 * 256 else id / 256 % 262144

/-- R389: the slots of channel `c` that take a PGN of a source. -/
def State.pgnSlots (s : State) (c pgn src : Nat) : List Nat :=
  (s.canSlots c).filter (fun n => bits (s.slotW n 1) 20 3 == pgn && (bits (s.slotW n 1) 28 21 == 0xFF || bits (s.slotW n 1) 28 21 == src))

/-- R389: one fast packet of channel `c` is abandoned. -/
def State.abandon (s : State) (c : Nat) (p : FastPacket) : State :=
  let t := (s.setCanChan c (fun k => { k with fast := k.fast.filter (fun q => !(q.source == p.source && q.pgn == p.pgn)), abandoned := k.abandoned + 1 })).event
    (F_CAN_EVENT_FP_ABANDON c)
  match (t.canChan c).fpAlarmAt with
  | some a => if a + 60 * sec ≤ t.tim.el then (t.setCanChan c (fun k => { k with fpAlarmAt := some t.tim.el })).raise 0x0707 else t
  | none => (t.setCanChan c (fun k => { k with fpAlarmAt := some t.tim.el })).raise 0x0707

/-- R389: a fast packet gains a frame; once whole it is the message of its slots. -/
def State.growPacket (s : State) (c : Nat) (p : FastPacket) (eof : Nat) : State :=
  let t := s.setCanChan c (fun k => { k with fast := k.fast.filter (fun q => !(q.source == p.source && q.pgn == p.pgn)) })
  if p.total ≤ p.bytes.length then t.slotMessage (t.pgnSlots c p.pgn p.source) p.first eof (toWord p.pgn :: byteWords (p.bytes.take p.total))
  else t.setCanChan c (fun k => { k with fast := k.fast ++ [p] })

/-- R389: the reassembly of fast packets: frame 0 starts a message of at most 223 bytes; every other frame must follow the one before it. -/
def State.fastFrame (s : State) (c src pgn : Nat) (f : CanFrame) : State :=
  let b0 := (f.data.getD 0 0#8).toNat
  let running := (s.canChan c).fast.find? (fun q => q.source == src && q.pgn == pgn)
  if b0 % 32 = 0 then
    let t := match running with
      | some p => s.abandon c p
      | none => s
    let total := (f.data.getD 1 0#8).toNat
    if 223 < total then t else t.growPacket c ⟨src, pgn, b0 / 32, 1, total, f.data.drop 2, f.sof, t.tim.el⟩ f.eof
  else match running with
    | some p => if p.seqCount = b0 / 32 && p.next = b0 % 32 then s.growPacket c { p with next := p.next + 1, bytes := p.bytes ++ f.data.drop 1 } f.eof
      else s.abandon c p
    | none => s

/-- R389: a frame for the NMEA 2000 slots of channel `c`. -/
def State.pgnFrame (s : State) (c : Nat) (f : CanFrame) : State :=
  let pgn := pgnOf f.id
  let src := f.id % 256
  let slots := s.pgnSlots c pgn src
  if !f.ide || slots.isEmpty then s
  else if pgn = 129029 then s.fastFrame c src pgn f
  else s.slotMessage slots f.sof f.eof (toWord pgn :: byteWords f.data)

/-- R384: what the firmware does with a frame of queue 0, which it reads at once. Orders have a command of their own. [Log 55, DEDUCED, unsafe] -/
def State.queue0 (s : State) (c : Nat) (f : CanFrame) : State :=
  let mine (o : Nat) : Bool := (s.objW o 1).toNat == f.id && (bits (s.objW o 0) 3 3 == 1) == f.ide
  let t := ((s.objsOf c 2).filter mine).foldl (fun (u : State) o => u.objFrame o f) s
  let u := ((s.objsOf c 1).filter mine).foldl (fun (v : State) o => { v with can := { v.can with readback := aset v.can.readback o (f.eof, f.data) } }) t
  u.pgnFrame c f

/-- R390: this device sends reference messages on channel `c`. -/
def State.tmOn (s : State) (c : Nat) : Bool := bits (s.parW (0x0C10 + c) 0) 0 0 == 1 && s.isLead && s.canSends c

/-- R390: the frame is a reference message of another node. [Log 56, DEDUCED, unsafe] -/
def State.foreignRef (s : State) (c : Nat) (f : CanFrame) : Bool :=
  s.tmOn c && f.id == (s.parW (0x0C10 + c) 1).toNat && f.ide == (bits (s.parW (0x0C10 + c) 0) 1 1 == 1)

/-- R381: a received frame has held the bus from its start to its end: what had the time started before it, the rest waits until it ends. -/
def State.busTaken (s : State) (c : Nat) (f : CanFrame) : State :=
  let t := s.canSettle c (s.tim.el - (s.tim.wt - f.sof))
  t.setCanChan c (fun k => { k with busyTill := Nat.max k.busyTill (t.tim.el - (t.tim.wt - f.eof)) })

/-- CAN_FRAME (R381, R382, R384): remote frames are dropped before everything else. -/
def execCanFrame (channel : Nat) (frame : CanFrame) (s : State) : Host.Outcome State Fault Refusal :=
  .next (
    if !s.flag (F_CAN_STATUS_EN channel) || 2 ≤ s.fld (F_CAN_STATUS_STATE channel) || (frame.fdf && !s.flag (F_CAN_STATUS_FD channel)) then s
    else
      let t := (s.busTaken channel frame).setFlag (F_CAN_STATUS_SYNC channel) true
      let u := if !frame.rtr && t.foreignRef channel frame then (t.event (F_CAN_EVENT_TM_CONFLICT channel)).raise 0x0706 else t
      if frame.rtr then u
      else match u.canMatch channel frame.ide frame.id with
        | some (e, action) =>
          let full := 64 ≤ (u.canChan channel).q1.length
          let q0 := action % 2 == 1
          let q1 := action / 2 == 1
          let v := u.when (q0 || (q1 && !full)) (fun x => x.bump (F_CAN_RX_CNT_COUNT channel))
          let w := v.when q1 (fun x => x.pushQ1 channel (elemWords frame e))
          w.when q0 (fun x => x.queue0 channel frame)
        | none => u)

/-- FAST_PACKET_TIMEOUT (R389): 750 ms without completion. -/
def execFastPacketTimeout (channel source pgn : Nat) (s : State) : Host.Outcome State Fault Refusal :=
  .next (match (s.canChan channel).fast.find? (fun q => q.source == source && q.pgn == pgn) with
    | some p => (s.reachEl (p.since + 750 * ms)).abandon channel p
    | none => s)

/-- The channel of object `o`. -/
def State.objChan (s : State) (o : Nat) : Nat := bits (s.objW o 0) 2 0

/-- CAN_OBJECT_TIMEOUT (R385): nothing was received for TIMEOUT. -/
def execCanObjectTimeout (object : Nat) (s : State) : Host.Outcome State Fault Refusal :=
  .next (
    let o : CanObj := aget {} s.can.objs object
    if !s.objIs object (s.objChan object) 2 || o.timedOut then s
    else
      let t := s.reachEl (o.lastAt + bits (s.objW object 2) 31 16 * ms)
      (({ t with can := { t.can with objs := aset t.can.objs object { o with timedOut := true } } }).event (F_CAN_EVENT_OBJ_TIMEOUT (s.objChan object))).raise
        0x0705 (pay [object]))

/-- CAN_Q1_POP (R384). -/
def execCanQ1Pop (master channel : Nat) (s : State) : Host.Outcome State Fault Refusal :=
  .next (s.commandWrite master (A_CAN_Q1_CTRL channel) 1#32 (fun t => t.popQ1 channel))

/-- R391: warning thresholds, error passive and bus-off at the new counters. -/
def State.canLevels (s : State) (c tec rec : Nat) : State :=
  let w := s.canW c 3
  let oldT := s.fld (F_CAN_STATUS_TEC c)
  let oldR := s.fld (F_CAN_STATUS_REC c)
  let t := (s.setFld (F_CAN_STATUS_TEC c) (Nat.min tec 511)).setFld (F_CAN_STATUS_REC c) (Nat.min rec 255)
  let warnT := bits w 7 0 ≤ tec && oldT < bits w 7 0
  let warnR := bits w 15 8 ≤ rec && oldR < bits w 15 8
  let u := (t.when warnT (fun x => x.event (F_CAN_EVENT_TEC_WARN c))).when warnR (fun x => x.event (F_CAN_EVENT_REC_WARN c))
  let v := u.when (warnT || warnR) (fun x => x.raise 0x0701 (pay [c]))
  let was := s.fld (F_CAN_STATUS_STATE c)
  if 255 < tec then
    let x := (((v.setFld (F_CAN_STATUS_STATE c) 2).event (F_CAN_EVENT_BUSOFF c)).bump (F_CAN_BOFF_CNT_COUNT c)).setFlag (F_CAN_STATUS_SYNC c) false
    (x.setCanChan c (fun k => { k with boffAt := some x.tim.el, recovering := false })).raise 0x0703
  else if 127 < tec || 127 < rec then
    if was = 1 then v else ((v.setFld (F_CAN_STATUS_STATE c) 1).event (F_CAN_EVENT_PASSIVE c)).raise 0x0702
  else v.setFld (F_CAN_STATUS_STATE c) 0

/-- R391: no enabled channel meets a test of its counters. -/
def State.noCan (s : State) (f : State → Nat → Bool) : Bool := (List.range 6).all (fun c => !s.flag (F_CAN_STATUS_EN c) || !f s c)

/-- R391, R534: the CAN alarms whose causes have cleared. -/
def State.canCauses (s : State) : State :=
  let warned (t : State) (c : Nat) : Bool := bits (t.canW c 3) 7 0 ≤ t.fld (F_CAN_STATUS_TEC c) || bits (t.canW c 3) 15 8 ≤ t.fld (F_CAN_STATUS_REC c)
  let a := if s.noCan warned then s.causeGone 0x0701 else s
  let b := if a.noCan (fun t c => t.fld (F_CAN_STATUS_STATE c) == 1) then a.causeGone 0x0702 else a
  if b.noCan (fun t c => t.fld (F_CAN_STATUS_STATE c) == 2) then b.causeGone 0x0703 else b

/-- CAN_ERROR (R391): an error frame leaves the counters at `tec` and `rec`. -/
def execCanError (channel tec rec : Nat) (s : State) : Host.Outcome State Fault Refusal :=
  .next (if s.flag (F_CAN_STATUS_EN channel) && s.fld (F_CAN_STATUS_STATE channel) < 2 then
    ((s.bump (F_CAN_ERR_CNT_COUNT channel)).canLevels channel tec rec).canCauses else s)

/-- BUSOFF_HOLD_EXPIRY (R391): recovery starts after BOFF_HOLD_MS. -/
def execBusoffHoldExpiry (channel : Nat) (s : State) : Host.Outcome State Fault Refusal :=
  .next (match (s.canChan channel).boffAt with
    | some a =>
      let t := s.reachEl (a + bits (s.canW channel 3) 31 16 * ms)
      t.setCanChan channel (fun k => { k with boffAt := none, recovering := true, recAt := t.tim.el })
    | none => s)

/-- BUSOFF_RECOVERED (R391): after 128 occurrences of 11 recessive bits; what had fallen due before bus-off may be sent again. -/
def execBusoffRecovered (channel : Nat) (s : State) : Host.Outcome State Fault Refusal :=
  .next (if (s.canChan channel).recovering then
    let r := s.reachEl ((s.canChan channel).recAt + 1408 * s.canBit channel false)
    let t := r.setCanChan channel (fun k => { k with recovering := false, busyTill := r.tim.el })
    let u := ((t.setFld (F_CAN_STATUS_STATE channel) 0).setFld (F_CAN_STATUS_TEC channel) 0).setFld (F_CAN_STATUS_REC channel) 0
    ((u.setFlag (F_CAN_STATUS_SYNC channel) true).event (F_CAN_EVENT_RECOVERED channel)).canCauses
    else s)

/-- R390: PERIOD of the reference messages of channel `c` in ns. -/
def State.tmPeriod (s : State) (c : Nat) : Nat := (nth [1, 2, 5, 10, 20] (bits (s.parW (0x0C10 + c) 0) 6 4)) * ms

/-- CAN_REFERENCE_MESSAGE (R390): falls due at a multiple of PERIOD and carries the start-of-frame stamp of the message before it. [Log 56, DEDUCED, unsafe] -/
def execCanReferenceMessageStarts (channel : Nat) (s : State) : Host.Outcome State Fault Refusal :=
  .next (
    let p := s.tmPeriod channel
    if !s.tmOn channel || p = 0 then s
    else
      let t := s.reach ((s.tim.wt + p - 1) / p * p)
      let data := BitVec.ofNat 8 (t.tim.wt / p % 64) :: [0#8, 0#8, 0#8] ++ wordBytes (t.reg (A_CAN_TM_SOF channel))
      t.canSend channel none (canHead (t.parW (0x0C10 + channel) 1).toNat (bits (t.parW (0x0C10 + channel) 0) 1 1 == 1) false false) data true)

/-- R7, R383, R391: boot step 8 shows the record of each channel, or its defaults, and sets the channels that are on up; the time-outs of the receive
objects start. -/
def State.setupCan (s : State) : State :=
  let shown := s.each (List.range 6) (fun u c =>
    ((u.setFlag (F_CAN_STATUS_FD c) (bits (u.canW c 0) 1 1 == 1)).setFld (F_CAN_WARN_TEC_WARN c) (bits (u.canW c 3) 7 0)).setFld
      (F_CAN_WARN_REC_WARN c) (bits (u.canW c 3) 15 8))
  let t := shown.each ((List.range 6).filter (fun c => bits (s.canW c 0) 0 0 == 1)) (fun u c =>
    (u.setFlag (F_CAN_STATUS_EN c) true).setFld (F_CAN_STATUS_STATE c) 0)
  { t with can := { t.can with objs := ((List.range 6).flatMap (fun c => t.objsOf c 2)).map (fun o => (o, { lastAt := t.tim.el })) } }

/-- R385: at the freeze each receive object gives its newest frame that completed by then as an item; one that has timed out gives an invalid item. -/
def State.canFreeze (s : State) : State :=
  let u := s.each (List.range 6) (fun t c => t.canSettle c t.tim.el)
  s.can.objs.foldl (fun (t : State) e =>
    if e.2.timedOut then t.ownItem 1 e.1 t.dev.freezeAt t.dev.freezeAt [0#32]
    else
      let pick := match e.2.newest with
        | some n => if n.1 ≤ t.dev.freezeAt then some n else e.2.older
        | none => none
      match pick with
      | some n => t.ownItem 1 e.1 n.2.1 n.1 (1#32 :: byteWords n.2.2)
      | none => t) u

/-- R386: a fraction in units of 1/32,767, ties away from zero, limited. -/
def can16 (num : Int) (den : Nat) : Int := clampI (-32767) 32767 (roundDiv (num * 32767) (Nat.max 1 den))

/-- The two bytes of a signed value. -/
def i16Bytes (v : Int) : List Byte := natBytes (v % 65536).toNat 2

/-- R386: the bytes of a command or loop object. -/
def State.objBytes (s : State) (counter : Nat) (avail : Bool) (a : Int) (b : Option Int) : List Byte :=
  natBytes s.twn.ladleEp 4 ++ [BitVec.ofNat 8 (128 * sideCode s.pins.side + counter % 128), BitVec.ofNat 8 (bit avail)] ++ i16Bytes a ++
  (match b with
    | some x => i16Bytes x ++ [0#8, 0#8]
    | none => [])

/-- R211: the commands of a thruster in per-unit, as fractions. -/
def State.thrustFrac (s : State) (t : Nat) : Int × Nat := (s.cmdThrust t, if 0 ≤ s.cmdThrust t then s.tFwd t else s.tRev t)
def State.angleFrac (s : State) (t : Nat) : Int × Nat := (normAngle (s.thr t).angle, if s.thrType t = 4 then s.rudderMax t else 180000)

/-- R204: a port word names CAN object `o`. -/
def namesObj (w : Word) (o : Nat) : Bool := portTransport w == 1 && portNumber w == o

/-- R338, R386: the brake channel whose torque request goes to object `o`. -/
def State.torqueChan (s : State) (o : Nat) : Option Nat := (List.range 8).find? (fun n => s.brkEn n && namesObj (s.safPar (0x1040 + n) 3) o)

/-- R387: the frame of one command object at the pour. `torque` is the torque request of a running brake test, in 0.1 %. -/
def State.sendObject (s : State) (c o torque : Nat) : State :=
  let counter := s.dev.stateEp
  let f (x : Int × Nat) : Int := can16 x.1 x.2
  match s.thrList.find? (fun t => namesObj (s.thrW t 14) o), s.thrList.find? (fun t => namesObj (s.thrW t 15) o) with
  | some t, some u => s.objSend c o (s.objBytes counter (s.thr t).avail (f (s.thrustFrac t)) (some (f (s.angleFrac u))))
  | some t, none => s.objSend c o (s.objBytes counter (s.thr t).avail (f (s.thrustFrac t)) none)
  | none, some t => s.objSend c o (s.objBytes counter (s.thr t).avail (f (s.angleFrac t)) none)
  | none, none => match s.torqueChan o with
    | some n => s.objSend c o (s.objBytes counter (s.thr (s.brkThr n)).avail
        (can16 (if (match s.saf.test with | some x => x.chan == n | none => false) then torque else 0) 1000) none)
    | none => s

/-- R387: at the pour the holder queues every command object of each channel, in rising object number, through the lease gate. [Log 62, DEDUCED, unsafe] -/
def State.canPour (s : State) (torque : Nat) : State :=
  if s.holds && s.fld F_SAF_STATUS_GATE = gateOpen then
    s.each (List.range 6) (fun t c => t.each (t.objsOf c 0) (fun u o => u.sendObject c o torque))
  else s

end Sys2Proof.Machine
end

