-- ==== Sys2Proof/Machine/Serial.lean ====
section
/-! DEFINITION. The serial ports (R392 to R395), and what the networks publish at the pour: sentences (R374, R395), the State Image (R379), the command
stream (R380), PTP messages (R375, R376). -/
namespace Sys2Proof.Machine

/-- R396: MODE of serial port `p`. -/
def State.sptMode (s : State) (p : Nat) : Nat := bits (s.parW (0x0D01 + p) 0) 2 0

/-- R392: a half-duplex port drives its line, so that what it hears is discarded. -/
def State.sptSends (s : State) (p : Nat) : Bool := bits (s.parW (0x0D01 + p) 0) 9 9 == 1 && s.tim.el < aget 0 s.spt.busyTill p + sec / Nat.max 1 (s.par (0x0D01 + p) 1)

/-- Count a dropped sentence or frame of port `p`. -/
def State.sptDrop (s : State) (p : Nat) : State := s.bump (F_SPT_CNT1_LOW p)

/-- R393: what is wrong with a sentence by its length and checksum. -/
def State.sentenceOk (s : State) (p : Nat) (x : Sentence) : Bool :=
  x.chars.length + 2 ≤ 82 && (bits (s.parW (0x0D01 + p) 0) 8 8 == 0 || checksumOk (x.chars.map (fun c => c.toNat)))

/-- R393: parity and framing errors. -/
def State.charErrors (s : State) (p : Nat) : State :=
  let t := (s.event (F_SPT_EVENT_CHAR_ERR p)).bump (F_SPT_CNT0_HIGH p)
  let u := if t.limited t.spt.charAt p (60 * sec) then
      ({ t with spt := { t.spt with charAt := aset t.spt.charAt p t.tim.el } }).raise 0x0802 (pay [p])
    else t
  u.sptDrop p

/-- SERIAL_SENTENCE (R393). -/
def execSerialSentence (port : Nat) (sentence : Sentence) (s : State) : Host.Outcome State Fault Refusal :=
  .next (
    if (s.sptMode port != 1 && s.sptMode port != 3) || s.sptSends port then s
    else if sentence.overflow then ((s.event (F_SPT_EVENT_OVERRUN port)).bump (F_SPT_CNT1_HIGH port)).raise 0x0801 (pay [port])
    else if sentence.charErr then s.charErrors port
    else if s.sentenceOk port sentence then
      (s.bump (F_SPT_CNT0_LOW port)).slotMessage (s.slotsAt 0 port false) sentence.first sentence.last (byteWords sentence.chars)
    else s.sptDrop port)

/-- RTCM_FRAME (R394). -/
def execRtcmFrame (port : Nat) (bytes : List Byte) (first last : Nat) (s : State) : Host.Outcome State Fault Refusal :=
  .next (
    if s.sptMode port != 4 then s
    else if rtcmOk bytes then (s.bump (F_SPT_CNT0_LOW port)).slotMessage (s.slotsAt 0 port true) first last (byteWords bytes)
    else s.sptDrop port)

/-- R392: boot step 8 shows the ports' settings. -/
def State.setupSpt (s : State) : State :=
  s.each (List.range 8) (fun t p =>
    let w := t.parW (0x0D01 + p) 0
    (((t.setFld (F_SPT_CFG_FORMAT p) (bits w 5 4)).setFld (F_SPT_CFG_BAUD p) (t.par (0x0D01 + p) 1)).setFlag (F_SPT_CFG_HALF p) (bits w 9 9 == 1)).setFld
      (F_SPT_CFG_MODE p) (bits w 2 0))

/-- The character of a hexadecimal digit. -/
def hexChar (n : Nat) : Nat := if n % 16 < 10 then 48 + n % 16 else 55 + n % 16

/-- `k` hexadecimal digits of a number. -/
def hexChars : Nat → Nat → List Nat
  | 0, _ => []
  | k + 1, n => hexChars k (n / 16) ++ [hexChar n]

/-- R395: the holder as PDLRS shows it: C, D or N. -/
def State.holderChar (s : State) : Nat :=
  match (if s.holds then some s.pins.side else s.twn.holder) with
  | some .cope => 67
  | some .drag => 68
  | none => 78

/-- R395: the PDLRS sentence with its checksum. [Log 60, DESIGN CHOICE, safe] -/
def State.pdlrs (s : State) : List Nat :=
  let worst := match s.worst with
    | some a => a.code
    | none => 0
  let body := [80, 68, 76, 82, 83, 44, 48 + stateCode s.dev.st, 44, 48 + s.shownMode, 44, s.holderChar, 44] ++ hexChars 4 worst ++ [44] ++
    hexChars 4 (s.reg A_CTL_DEGR).toNat
  36 :: body ++ [42] ++ hexChars 2 (body.foldl (fun a c => a ^^^ c) 0) ++ [13, 10]

/-- R395: UTC of the pour in ns. -/
def State.utcNow (s : State) : Int := (s.tim.wt : Int) - s.int F_TSU_UTC_TAI_UTC * sec

/-- R395: the content of the sentence of bit `b`, if it is sent; the text of the standard sentences is that of IEC 61162-1. [Log 60, DESIGN CHOICE, safe] -/
def State.sentence (s : State) (b : Nat) : Option (List Int) :=
  let p := nthI s.fus.pub
  match b with
  | 0 => if s.posValid then some [0, s.utcNow, p 0, p 1, if s.cond 0 then 6 else 1] else none
  | 1 => if s.hdgValid then some [1, p 2] else none
  | 2 => some [2, p 5 * 60, (bit s.hdgValid : Int)]
  | 3 => if s.posValid && s.hdgValid then some [3, p 2, p 3, p 4] else none
  | 4 => if s.flag F_TSU_STATUS_SET then some [4, s.utcNow] else none
  | 5 => some (s.pdlrs.map Int.ofNat)
  | _ => none

/-- The sentences of a mask, in bit order. [Log 60, DESIGN CHOICE, safe] -/
def State.sentences (s : State) (mask : Nat) : List (List Int) := (bitsOf 6 mask).filterMap s.sentence

/-- The characters of a sentence: those of PDLRS are known; the length of a standard sentence follows IEC 61162-1. [Log 60, DESIGN CHOICE, safe] -/
def sentenceLength (x : List Int) : Nat := if x.headD 0 = 36 then x.length else (clampI 1 82 (Config.calc .other x 0)).toNat

/-- R395: the time in ns that a burst takes on port `p`: 10 bits per character, 11 with parity. -/
def State.burstTime (s : State) (p : Nat) (l : List (List Int)) : Nat :=
  let bitsPer := if bits (s.parW (0x0D01 + p) 0) 5 4 = 0 then 10 else 11
  l.foldl (fun n x => n + sentenceLength x) 0 * bitsPer * sec / Nat.max 1 (s.par (0x0D01 + p) 1)

/-- R395: the burst of port `p` at a pour. -/
def State.serialPour (s : State) (p : Nat) : State :=
  let div := Nat.max 1 (bits (s.parW (0x0D01 + p) 3) 15 0)
  if (s.sptMode p != 2 && s.sptMode p != 3) || s.net.pours % div != 0 then s
  else if s.tim.el < aget 0 s.spt.busyTill p then (s.event (F_SPT_EVENT_OUT_DROP p)).raise 0x0803 (pay [p])
  else
    let l := s.sentences (bits (s.parW (0x0D01 + p) 2) 7 0)
    let talker : Int := bits (s.parW (0x0D01 + p) 3) 31 16
    let t := { s with spt := { s.spt with busyTill := aset s.spt.busyTill p (s.tim.el + s.burstTime p l) } }
    l.foldl (fun (u : State) x => u.send (.serial p) .sentence (if x.headD 0 = 36 then x else talker :: x)) t

/-- R374: a line count that runs from 1 to 999. -/
def State.nextLine (s : State) : State := { s with net := { s.net with lineCount := s.net.lineCount % 999 + 1 } }

/-- R374: the sentences of ETH_450_TX, each in a UdPbC datagram with its source and line count. [Log 59, DEDUCED, unsafe] -/
def State.send450 (s : State) : State :=
  let div := Nat.max 1 (bits (s.parW 0x0B11 4) 31 16)
  if s.par 0x0B11 0 = 0 || s.net.pours % div != 0 then s
  else (s.sentences (bits (s.parW 0x0B11 4) 7 0)).foldl (fun (t : State) x =>
    let u := t.nextLine
    u.udpSend false (u.par 0x0B11 0) .sentence ([(u.par 0x0B11 1 : Int), u.par 0x0B11 2, u.par 0x0B11 3, u.net.lineCount] ++ x)) s

/-- R380: the command datagram without its CRC. -/
def State.commandBytes (s : State) : List Byte :=
  let f (x : Int × Nat) : List Byte := i16Bytes (can16 x.1 x.2)
  natBytes 0x4443 2 ++ [BitVec.ofNat 8 (sideCode s.pins.side), 32#8] ++ natBytes s.twn.ladleEp 4 ++ natBytes s.dev.stateEp 4 ++
  natBytes (maskOf (s.thrList.filter (fun t => (s.thr t).avail))) 4 ++
  (List.range 32).flatMap (fun t => if s.thrExists t then f (s.thrustFrac t) ++ f (s.angleFrac t) else [0#8, 0#8, 0#8, 0#8])

/-- R380: the holder's command stream at the pour, through the lease gate. -/
def State.sendStream (s : State) : State :=
  if s.par 0x0B0B 0 != 0 && s.holds && s.fld F_SAF_STATUS_GATE = gateOpen then
    let b := s.commandBytes
    s.udpSend false (s.par 0x0B0B 0) .write ((s.par 0x0B0B 1 : Int) :: (b ++ wordBytes (crc32c b)).map (fun x => (x.toNat : Int)))
  else s

/-- Cut a run of words into pieces of `n`. -/
def piecesOf (n : Nat) : Nat → List Word → List (List Word)
  | 0, _ => []
  | k + 1, l => if l.isEmpty then [] else l.take n :: piecesOf n k (l.drop n)

/-- R379: what was not sent of the last publication is abandoned. -/
def State.abandonPublication (s : State) : State :=
  if s.net.toSend = 0 then s
  else (({ s with net := { s.net with toSend := 0 } }).event F_ETH_EVENT_STI_ABANDON).raise 0x0606

/-- R379: publish an image in fragments of 1,024 bytes. With no link on either LAN nothing goes out. -/
def State.publishImage (s : State) (image : List Word) : State :=
  let t := s.abandonPublication
  let div := Nat.max 1 (t.par 0x0B0A 2)
  if t.par 0x0B0A 0 = 0 || t.net.pours % div != 0 then t
  else
    let l := piecesOf 256 64 image
    if (t.ethOn 0 && t.flag (bitAt A_ETH_STATUS 0)) || (t.ethOn 1 && t.flag (bitAt A_ETH_STATUS 1)) then
      l.zipIdx.foldl (fun (u : State) e =>
        u.udpSend false (u.par 0x0B0A 0) .stateFragment ([(u.par 0x0B0A 1 : Int), 0x4953, sideCode u.pins.side, e.2, u.dev.stateEp, l.length, 0, 4 * e.1.length,
          (crcWords image).toNat] ++ wordData e.1)) t
    else { t with net := { t.net with toSend := l.length } }

/-- R375, R376: message `kind` (0 Sync, 1 Announce, 2 delay request) may leave port `port` of a domain: delay requests leave the slave port, and every
enabled port with the peer-to-peer mechanism; Sync and Announce leave every other enabled port, unless the domain is slaveOnly, or has no slave port
while time is not set. -/
def State.ptpMay (s : State) (domain port kind : Nat) : Bool :=
  let w := s.ptpW domain 0
  let slave := afind s.tim.ptp.slave domain
  s.par 0x0B81 domain != 0xFFFF && port < 3 && tbit (bits w 6 4) port &&
  (if kind = 2 then slave == some port || bits w 1 1 == 1
   else slave != some port && bits w 3 3 == 0 && (slave.isSome || s.flag F_TSU_STATUS_SET))

/-- R375: the interval in ns of message `kind` of a domain: 2 to the power of its log, in seconds. -/
def State.ptpInterval (s : State) (domain kind : Nat) : Nat := if kind = 0 then s.ptpPower domain 0 else if kind = 1 then s.ptpPower domain 1 else s.ptpPower domain 3

/-- R375, R376: message `kind` leaves a port: a Sync carries the egress stamp with the port's egress latency, an Announce the grandmaster's data, a delay
request its stamp, which its response is measured against. -/
def State.ptpEmit (s : State) (domain port kind : Nat) : State :=
  let stamp : Int := (s.tim.wt : Int) + s.par 0x0B88 (2 * port + 1)
  let oneStep : Int := bits (s.ptpW domain 0) 2 2
  if kind = 0 then s.ethSend port .ptp [(domain : Int), 0, oneStep, stamp]
  else if kind = 1 then
    let g := match afind s.tim.ptp.parent domain with
      | some m => clockData m.gm (m.steps + 1)
      | none => clockData (s.ownClock domain) 0 ++ [if s.selected = 3 && s.flag F_TSU_STATUS_LOCKED then 0x20 else 0xA0]
    s.ethSend port .ptp ([(domain : Int), 1] ++ g)
  else
    let t := { s with tim := { s.tim with ptp := { s.tim.ptp with request := aset s.tim.ptp.request (4 * domain + port) stamp } } }
    t.ethSend port .ptp [(domain : Int), 2, stamp]

/-- PTP_MESSAGE_SEND (R375, R376, R348): when the interval since the last message of its kind has expired. [Log 26, DESIGN CHOICE, unsafe] -/
def execPtpMessageSend (domain port kind : Nat) (s : State) : Host.Outcome State Fault Refusal :=
  .next (
    if !s.ptpMay domain port kind then s
    else
      let key := 16 * domain + 4 * port + kind
      let t := match afind s.tim.ptp.sentAt key with
        | some e => s.reachEl (e + s.ptpInterval domain kind)
        | none => s
      { t with tim := { t.tim with ptp := { t.tim.ptp with sentAt := aset t.tim.ptp.sentAt key t.tim.el } } }.ptpEmit domain port kind)

/-- R366, R396: boot step 8 on the networks: the publication flag, and a membership report for each group of ETH_450_RX. -/
def State.setupNet (s : State) : State :=
  let t := s.setFlag F_ETH_STATUS_STI_PUB (s.par 0x0B0A 0 != 0)
  t.each (List.range ((t.parGiven 0x0B10).length / 2)) (fun u k => u.lanSend .igmp [(u.par 0x0B10 (2 * k) : Int)])

end Sys2Proof.Machine
end

