-- ==== Sys2Proof/Machine/Formation.lean ====
section
/-! DEFINITION. The Eloaset link and formations (R434 to R451): ports, credits, arbitration, routes, carriage in UDP, publications, subscriptions and sets. What a member
consumes stands in Eloaset.lean. -/
namespace Sys2Proof.Machine

/-- R455: the FORMATION section is present. -/
def State.formOn (s : State) : Bool := s.pat.sections.contains 0x0A

/-- R440: this device's member ID. -/
def State.member (s : State) : Nat := s.par 0x0A01

/-- R455: port `p` (0, 1, or 2 for UDP) is enabled. -/
def State.elkOn (s : State) (p : Nat) : Bool := s.formOn && tbit (s.par 0x0A03) p

/-- ELK port `p`. -/
def State.elkPort (s : State) (p : Nat) : ElkPort := aget {} s.elk.ports p

/-- Change ELK port `p`. -/
def State.setElkPort (s : State) (p : Nat) (f : ElkPort → ElkPort) : State := { s with elk := { s.elk with ports := aset s.elk.ports p (f (s.elkPort p)) } }

/-- The codes of ELK_Pp_STAT.STATE. -/
def elkOff : Nat := 0
def elkWaiting : Nat := 1
def elkUp : Nat := 2
def elkLost : Nat := 3

/-- Port `p` is up. -/
def State.elkIsUp (s : State) (p : Nat) : Bool := p < 2 && s.fld (F_ELK_P_STAT_STATE p) == elkUp

/-- Set the state of port `p`. -/
def State.setElkState (s : State) (p st : Nat) : State := (s.setFld (F_ELK_P_STAT_STATE p) st).setFlag (bitAt A_ELK_STATUS p) (st == elkUp)

/-- Raise an alarm at most once per minute. -/
def State.minuteAlarm (s : State) (code : Nat) (payload : List Word) : State :=
  if s.limited s.elk.alarmAt code (60 * sec) then
    ({ s with elk := { s.elk with alarmAt := aset s.elk.alarmAt code s.tim.el } }).raise code payload
  else s

/-- R438: the 64-byte units that a frame of `n` data words takes: link header, packet header, data and CRC. -/
def unitsOf (n : Nat) : Nat := (12 + 16 + 4 * n + 4 + 63) / 64

/-- R438: the credit that port state `p` holds for a virtual channel: the 8 KiB buffer less what was sent and has not been freed. -/
def ElkPort.credit (p : ElkPort) (vc : Nat) : Nat := 128 - (aget 0 p.sent vc + 256 - aget 0 p.freed vc % 256) % 256

/-- R439: the first of the numbers after `last`, in a ring of four, that a test takes. [Log 63, DEDUCED, unsafe] -/
def ringNext (last : Nat) (f : Nat → Bool) : Option Nat := ([1, 2, 3, 4].map (fun k => (last + k) % 4)).find? f

/-- R439: the frame of a virtual channel that goes next: the inputs take turns. -/
def ElkPort.nextOf (p : ElkPort) (vc : Nat) : Option ElkFrame :=
  match ringNext (aget 3 p.lastInput vc) (fun i => p.queue.any (fun e => e.vc == vc && e.input == i)) with
  | some i => p.queue.find? (fun e => e.vc == vc && e.input == i)
  | none => none

/-- R439: the next frame to send: the virtual channels that hold a frame and the credit for it take turns. -/
def ElkPort.nextFrame (p : ElkPort) : Option ElkFrame :=
  match ringNext p.lastVc (fun vc => match p.nextOf vc with | some e => e.units ≤ p.credit vc | none => false) with
  | some vc => p.nextOf vc
  | none => none

/-- Remove the first element equal to `x`. -/
def dropFirst {α : Type} [DecidableEq α] (x : α) : List α → List α
  | [] => []
  | y :: r => if y = x then r else y :: dropFirst x r

/-- What the header of a frame and its packet carry, as sent. [Log 92, DESIGN CHOICE, unsafe] -/
def frameData (p : ElkPort) (e : ElkFrame) : List Int :=
  [(e.vc : Int), 1, 16 + 4 * e.packet.data.length, e.seq, (aget 0 p.rxSeq e.vc + 65535) % 65536] ++ (List.range 4).map (fun v => ((aget 0 p.freeing v % 256 : Nat) : Int)) ++
  [(e.packet.dst : Int), e.packet.src, e.packet.typ, e.packet.hops, 4 * e.packet.data.length, e.packet.seq, e.packet.fEpoch] ++ wordData e.packet.data

/-- R435, R436: send one frame with the next sequence number of its channel; it is held until it is acknowledged. -/
def State.elkEmit (s : State) (p : Nat) (e0 : ElkFrame) : State :=
  let q := s.elkPort p
  let e := { e0 with seq := aget 0 q.txSeq e0.vc, sends := 1, sentAt := s.tim.el }
  let t := s.setElkPort p (fun k => { k with
    queue := dropFirst e0 k.queue,
    held := k.held ++ [e],
    txSeq := aset k.txSeq e.vc ((e.seq + 1) % 65536),
    sent := aset k.sent e.vc ((aget 0 k.sent e.vc + e.units) % 256),
    lastVc := e.vc,
    lastInput := aset k.lastInput e.vc e.input })
  (t.bump (F_ELK_P_TX_COUNT p)).send (.elk p) .packet (frameData q e)

/-- Send what the credits allow. -/
def State.elkDrain : Nat → State → Nat → State
  | 0, s, _ => s
  | n + 1, s, p =>
    match (s.elkPort p).nextFrame with
    | some e => State.elkDrain n (s.elkEmit p e) p
    | none => s

/-- Send the queue of port `p` as far as its credits go. -/
def State.elkPush (s : State) (p : Nat) : State := s.elkDrain (s.elkPort p).queue.length p

/-- R438: the virtual channel of a packet type. -/
def vcOfType (typ : Nat) : Nat := if typ = 1 then 1 else if typ = 2 || typ = 3 then 2 else 0

/-- R444: packets that still wait in the output queue to UDP peer `n`. -/
def State.udpWaiting (s : State) (n : Nat) : Nat := ((aget 0 s.elk.udpFree n - s.tim.el) * s.par 0x0A0B + sec - 1) / sec

/-- R444: send a packet to UDP peer `n` in a datagram with its hop sequence number. [Log 64, DESIGN CHOICE, safe] -/
def State.sendPeer (s : State) (n : Nat) (k : Packet) : State :=
  if 64 ≤ s.udpWaiting n then ((s.bump F_ELK_UDP_DROP_COUNT).event F_ELK_EVENT_UDP_DROP).minuteAlarm 0x050B (pay [n])
  else
    let vc := vcOfType k.typ
    let key := 4 * n + vc
    let hop := aget 0 s.elk.txHop key + 1
    let free := Nat.max s.tim.el (aget 0 s.elk.udpFree n) + sec / Nat.max 1 (s.par 0x0A0B)
    let t := { s with elk := { s.elk with txHop := aset s.elk.txHop key hop, udpFree := aset s.elk.udpFree n free } }
    (t.bump F_ELK_UDP_TX_COUNT).udpSend false (t.par 0x0A09 n) .packet
      ([(t.par 0x0A0A : Int), hop, k.dst, k.src, k.typ, k.hops, k.seq, k.fEpoch] ++ wordData k.data)

/-- R442: a packet whose port is not up is dropped. -/
def State.portDown (s : State) (p : Nat) : State :=
  let t := if p < 2 then s.bump (F_ELK_P_DROP_COUNT p) else s.bump F_ELK_UDP_DROP_COUNT
  (t.event F_ELK_EVENT_ROUTE_DROP).minuteAlarm 0x0502 (pay [p])

/-- R442: send a packet out of a port, coded as ELK_PARENT codes it. -/
def State.sendPort (s : State) (p input : Nat) (k : Packet) : State :=
  if p < 2 then
    if s.elkIsUp p then
      (s.setElkPort p (fun q => { q with queue := q.queue ++ [⟨vcOfType k.typ, input, 0, 0, 0, unitsOf k.data.length, k⟩] })).elkPush p
    else s.portDown p
  else if s.elkOn 2 && p - 2 < (s.parGiven 0x0A09).length then s.sendPeer (p - 2) k
  else s.portDown p

/-- R442: the first entry of ELK_ROUTES that holds a destination. -/
def State.routeOf (s : State) (dst : Nat) : Option Nat :=
  let e := fun k j => s.parW 0x0A08 (2 * k + j)
  ((List.range ((s.parGiven 0x0A08).length / 2)).find? (fun k => bits (e k 0) 15 0 ≤ dst && dst ≤ bits (e k 0) 31 16)).map (fun k => (e k 1).toNat)

/-- R442: route a packet to another member. -/
def State.route (s : State) (input : Nat) (k : Packet) : State :=
  match s.routeOf k.dst with
  | some p => s.sendPort p input k
  | none =>
    if s.par 0x0A07 = 0xFF then (s.event F_ELK_EVENT_ROUTE_DROP).minuteAlarm 0x0504 []
    else s.sendPort (s.par 0x0A07) input k

/-- R443: forward a packet that arrived for another member. -/
def State.forward (s : State) (input : Nat) (k : Packet) : State :=
  if k.hops = 0 then (s.event F_ELK_EVENT_ROUTE_DROP).minuteAlarm 0x0503 []
  else s.route input { k with hops := k.hops - 1 }

/-- R445: the formation epoch, before it wraps at 2³². -/
def State.formEpoch (s : State) : Nat := s.tim.wt / Nat.max 1 s.formPeriod

/-- R445: a 32-bit epoch as the full epoch nearest to the present one. -/
def State.fullEpoch (s : State) (f : Nat) : Nat :=
  let c := s.formEpoch
  let d := (f + 4294967296 - c % 4294967296) % 4294967296
  if d < 2147483648 then c + d else c + d - 4294967296

/-- R441: send a packet of this member's own. -/
def State.sendOwn (s : State) (dst typ : Nat) (data : List Word) : State :=
  let q := aget 0 s.elk.seqs typ
  let t := { s with elk := { s.elk with seqs := aset s.elk.seqs typ ((q + 1) % 4294967296) } }
  t.route 3 ⟨dst, t.member, typ, 63, q, t.formEpoch % 4294967296, data⟩

/-- R436: a port is lost: every frame held for it is discarded and counted. -/
def State.losePort (s : State) (p : Nat) : State :=
  let q := s.elkPort p
  let t := (s.setElkPort p (fun _ => { lostAt := s.tim.el })).setElkState p elkLost
  ((t.bump (F_ELK_P_DROP_COUNT p) (q.held.length + q.queue.length)).event F_ELK_EVENT_PORT_LOST).raise 0x0501 (pay [p])

/-- ELK_PORT_LOST (R436). -/
def execElkPortLost (port : Nat) (s : State) : Host.Outcome State Fault Refusal :=
  .next (if s.elkIsUp port then s.losePort port else s)

/-- ELK_PORT_RETRY (R436): every 100 ms. -/
def execElkPortRetry (port : Nat) (s : State) : Host.Outcome State Fault Refusal :=
  .next (if port < 2 && s.fld (F_ELK_P_STAT_STATE port) = elkLost then
    ((s.reachEl ((s.elkPort port).lostAt + 100 * ms)).setElkPort port (fun q => { q with lostAt := q.lostAt + 100 * ms })).setElkState port elkWaiting
    else s)

/-- R436: retransmit a virtual channel of port `p` from its first unacknowledged frame. -/
def State.elkRetransmit (s : State) (p vc : Nat) : State :=
  let q := s.elkPort p
  let again := q.held.filter (fun e => e.vc == vc)
  if again.any (fun e => 32 ≤ e.sends) then s.losePort p
  else
    let t := s.setElkPort p (fun k => { k with held := k.held.map (fun e => if e.vc = vc then { e with sends := e.sends + 1, sentAt := s.tim.el } else e) })
    again.foldl (fun (u : State) e => ((u.bump (F_ELK_P_RETX_COUNT p)).bump (F_ELK_P_TX_COUNT p)).send (.elk p) .packet (frameData q e)) t

/-- ELK_RETRANSMIT (R436): at a NAK, or 40 µs after the first unacknowledged frame of the channel was sent; a frame sent 32 times makes the port lost.
[Log 63, DEDUCED, unsafe] [Log 63, DEDUCED, unsafe] -/
def execElkRetransmitFrame (port vc : Nat) (nak : Bool) (s : State) : Host.Outcome State Fault Refusal :=
  .next (match (s.elkPort port).held.find? (fun e => e.vc == vc) with
    | some e => if s.elkIsUp port then (if nak then s else s.reachEl (e.sentAt + 40000)).elkRetransmit port vc else s
    | none => s)

/-- R437: HELLOs with equal ELK_FORM_ID have been exchanged: the port comes up. -/
def State.elkComesUp (s : State) (p : Nat) : State :=
  match (s.elkPort p).heard with
  | some m =>
    if (s.elkPort p).said && s.fld (F_ELK_P_STAT_STATE p) = elkWaiting then
      let t := ((s.setElkPort p (fun _ => {})).setFld (F_ELK_P_STAT_PEER p) m).setElkState p elkUp
      if (List.range 2).all (fun k => t.fld (F_ELK_P_STAT_STATE k) != elkLost) then t.causeGone 0x0501 else t
    else s
  | none => s

/-- ELK_HELLO_SEND (R437): every 100 ms while the port is not up. [Log 63, DEDUCED, unsafe] -/
def execElkHelloSend (port : Nat) (s : State) : Host.Outcome State Fault Refusal :=
  .next (if port < 2 && s.elkOn port && (s.fld (F_ELK_P_STAT_STATE port) = elkWaiting || s.fld (F_ELK_P_STAT_STATE port) = elkLost) then
    let t := s.reachEl (match (s.elkPort port).saidAt with
      | some e => e + 100 * ms
      | none => s.tim.el)
    ((t.setElkPort port (fun q => { q with said := true, saidAt := some t.tim.el })).send (.elk port) .elkHello [(s.member : Int), s.par 0x0A02]).elkComesUp port
    else s)

/-- ELK_HELLO (R437). -/
def execElkHello (port member formId : Nat) (s : State) : Host.Outcome State Fault Refusal :=
  .next (
    if 2 ≤ port || !s.elkOn port || s.elkIsUp port then s
    else if formId = s.par 0x0A02 then ((s.setElkPort port (fun q => { q with heard := some member })).causeGone 0x050C).elkComesUp port
    else (s.setFld (F_ELK_P_STAT_PEER port) member).raise 0x050C (pay [port]))

/-- R448: the units of ELK_SUBS. -/
def State.subUnits (s : State) : List Nat := (s.parGiven 0x0A0C).map (fun w => w.toNat)

/-- R448: the member that this device subscribes to for a unit: Drag of a pair takes the odd ID. -/
def State.subDest (s : State) (u : Nat) : Nat := if s.paired && s.pins.side == .drag then u + 1 else u

/-- SUB_SEND (R448): every 1 s. [Log 63, DEDUCED, unsafe] -/
def execSubSend (s : State) : Host.Outcome State Fault Refusal :=
  .next (if s.formOn then
    let t := s.reachEl (match s.elk.subAt with
      | some e => e + sec
      | none => s.tim.el)
    t.subUnits.foldl (fun (u : State) k => u.sendOwn (u.subDest k) 2 []) { t with elk := { t.elk with subAt := some t.tim.el } }
    else s)

/-- R448: show the subscriber table. -/
def State.showTable (s : State) : State :=
  let t := s.setFld F_ELK_STATUS_SUBSCRIBERS s.elk.table.length
  t.each (List.range 64) (fun u k =>
    match u.elk.table[k]? with
    | some e => (u.setFlag (F_ELK_PUB_VALID k) true).setFld (F_ELK_PUB_MEMBER k) e.1
    | none => u.setReg (A_ELK_PUB k) 0#32)

/-- SUBSCRIBER_EXPIRY (R448): 3 s without a SUB. -/
def execSubscriberExpiry (member : Nat) (s : State) : Host.Outcome State Fault Refusal :=
  .next (match afind s.elk.table member with
    | some a => let t := s.reachEl (a + 3 * sec); ({ t with elk := { t.elk with table := adel t.elk.table member } }).showTable
    | none => s)

/-- The index of a unit in ELK_SUBS. -/
def State.subIndex (s : State) (u : Nat) : Nat := s.subUnits.findIdx (· == u)

/-- SUBSCRIPTION_TIMEOUT (R448): 3 s without an accepting SUB_ACK. [Log 63, DEDUCED, unsafe] -/
def execSubscriptionTimeout (unit : Nat) (s : State) : Host.Outcome State Fault Refusal :=
  .next (if s.formOn && s.subUnits.contains unit && !s.elk.failed.contains unit then
    let r := s.reachEl (aget s.elk.startedAt s.elk.acks unit + 3 * sec)
    let t := { r with elk := { r.elk with failed := insertNew r.elk.failed unit } }
    ((t.setFlag (F_ELK_SUB_STAT_ACKED (t.subIndex unit)) false).event F_ELK_EVENT_SUB_FAIL).raise 0x0505 (pay [unit])
    else s)

/-- R447: TIME_DEG of this device's publications. -/
def State.timeDeg (s : State) : Bool :=
  let hold := s.flag F_TSU_STATUS_HOLDOVER
  (!s.flag F_TSU_STATUS_LOCKED && !hold) || (hold && s.par 0x0A0D < (s.reg A_TSU_HOLD_ERR).toNat)

/-- R446: the publication record of this pour for an epoch. -/
def State.publication (s : State) (f : Nat) : List Word :=
  let p := nthI s.fus.pub
  let dr := s.flag F_FUS_STATUS_DR_POS || s.flag F_FUS_STATUS_DR_HDG
  let flags := bit s.holds + 2 * bit s.inStep + 4 * bit s.posValid + 8 * bit s.hdgValid + 16 * bit dr + 32 * bit s.timeDeg
  let worst := match s.worst with
    | some a => a.code
    | none => 0
  let ne := if s.sameDatum then [p 0, p 1] else [Config.calc .other ([p 0, p 1] ++ s.datums) 4, Config.calc .other ([p 0, p 1] ++ s.datums) 5]
  let v := turned (p 3) (p 4) (1000 * p 2)
  let body := [BitVec.ofNat 32 (s.member % 65536 + 65536 * sideCode s.pins.side + 16777216 * flags), toWord f, toWord s.dev.stateEp, toWord s.twn.ladleEp,
    BitVec.ofNat 32 (stateCode s.dev.st + 256 * s.shownMode + 65536 * (worst % 65536))] ++ ne.map intWord ++
    [intWord (p 2), intWord v.1, intWord v.2, intWord (p 5), intWord (max (p 15) (p 16)), 0#32, 0#32, 0#32]
  body ++ [crcWords body]

/-- R446: at the last pour before an epoch starts, the publication goes to every subscriber. -/
def State.publishFormation (s : State) : State :=
  let f := s.tim.wt / Nat.max 1 s.formPeriod + 1
  if s.formOn && f * s.formPeriod < s.dev.pourAt + s.dev.period then
    s.elk.table.foldl (fun (t : State) e => t.sendOwn e.1 1 (t.publication f)) s
  else s

/-- R449: the working time at which the set of a full epoch closes. -/
def State.closingTime (s : State) (epoch : Nat) : Nat := epoch * s.formPeriod + s.par 0x0A05 * ms

/-- FORMATION_SET_CLOSE (R449): the set of an epoch closes and becomes an item, stamped at the closing instant: the epoch, then the records of the units
that arrived. -/
def execFormationSetClose (epoch : Nat) (s : State) : Host.Outcome State Fault Refusal :=
  .next (
    if !s.formOn || epoch < s.elk.closedTo then s
    else
      let t := s.reach (s.closingTime epoch)
      let got : List (Nat × List Word) := aget [] t.elk.bufs epoch
      let u := { t with elk := { t.elk with bufs := adel t.elk.bufs epoch, closedTo := epoch + 1 } }
      u.ownItem 5 3 (s.closingTime epoch) (s.closingTime epoch) (toWord epoch :: got.flatMap (fun e => e.2)))

/-- The records of a set item by unit. -/
def setUnits : List (List Word) → List (Nat × List Word)
  | [] => []
  | r :: l => (bits (nthW r 0) 15 0 / 2 * 2, r) :: setUnits l

/-- R450: the sets of the newest epoch in the agreed inputs give the merged set: the lead side's entry, else the other side's. -/
def State.mergeSets (s : State) : State :=
  let sets := s.agr.agreed.filter (fun i => i.cls == 5 && i.num == 3)
  if sets.isEmpty then s
  else
    let full (i : Item) : Nat := s.fullEpoch (nthW i.data 0).toNat
    let e := sets.foldl (fun m i => Nat.max m (full i)) 0
    if e < s.elk.epoch || (e == s.elk.epoch && !s.elk.units.isEmpty) then s
    else
      let pick (side : Side) : List (Nat × List Word) :=
        match sets.find? (fun i => i.side == side && full i == e) with
        | some i => setUnits (piecesOf 16 64 i.data.tail)
        | none => []
      let lead := pick s.leadSide
      let other := pick (otherSide s.leadSide)
      let own := if s.leadSide = s.pins.side then lead else other
      let peer := if s.leadSide = s.pins.side then other else lead
      let merged := s.subUnits.filterMap (fun u => match afind lead u with
        | some r => some (u, r)
        | none => (afind other u).map (fun r => (u, r)))
      let t := { s with elk := { s.elk with epoch := e, units := merged } }
      let v := (t.setReg A_ELK_FEPOCH (toWord e)).setFld F_ELK_STATUS_PRESENT merged.length
      v.subUnits.zipIdx.foldl (fun (x : State) k =>
        let fromPeer := (afind peer k.1).isSome && !((afind lead k.1).isSome && s.leadSide == s.pins.side) && !((afind lead k.1).isNone && s.leadSide != s.pins.side)
        let y := ((x.setFlag (F_ELK_SUB_STAT_OWN_HAS k.2) (afind own k.1).isSome).setFlag (F_ELK_SUB_STAT_PEER_HAS k.2) (afind peer k.1).isSome).setFlag
          (F_ELK_SUB_STAT_FROM_PEER k.2) fromPeer
        if (afind merged k.1).isSome then y.setReg (A_ELK_SUB_EP k.2) (toWord e) else y) v

/-- R451: the reference that SET_FOLLOW_REF names: a unit of ELK_SUBS in the newest merged set meets the precondition. -/
def State.followTargetOk (s : State) (w : Nat) : Bool := 0x10000 ≤ w || (s.formOn && s.subUnits.contains (w / 2 * 2) && (s.unitRecord w).isSome)

/-- R86: word 0 of SET_FOLLOW_REF is a member ID or a used slot of KIND 10. -/
def State.followArgOk (s : State) (w : Nat) : Bool := w < 0x10000 || (w - 0x10000 < 48 && s.slotUsed (w - 0x10000) && s.slotKind (w - 0x10000) == 10)

/-- SET_FOLLOW_REF (R86, R451). -/
def State.setFollowRefOrder (s : State) (order : OrderIn) : State :=
  let w := (nthW order.args 0).toNat
  s.evalOrder order 0x07 true [(0x05, s.stateOk 0x07), (0x06, s.followTargetOk w), (0x07, s.followArgOk w && s.targetOk order 0x07)]
    (fun t => { t with
      dev := { t.dev with follow := some ((w : Int) :: ((order.args.drop 1).take 3).map (fun x => x.toInt)) }
      ctl := { t.ctl with follow := none } })

/-- SET_FOLLOW_REF (R86, R451). -/
def execSetFollowRef (order : OrderIn) (s : State) : Host.Outcome State Fault Refusal :=
  .next (s.takeOrder order 0x07 (s.setFollowRefOrder order))

/-- R455: boot step 8 shows the formation's settings and starts the enabled ports. -/
def State.setupElk (s : State) : State :=
  if s.formOn then
    let t := (((s.setFlag F_ELK_STATUS_ROOT (s.par 0x0A07 == 0xFF)).setFlag F_ELK_STATUS_UDP (s.elkOn 2)).setFld F_ELK_ID_MEMBER s.member)
    let u := { t with elk := { t.elk with startedAt := t.tim.el } }
    let v := u.each ((List.range 2).filter u.elkOn) (fun x p => x.setElkState p elkWaiting)
    v.subUnits.zipIdx.foldl (fun (x : State) k => x.setFld (F_ELK_SUB_STAT_UNIT k.2) k.1) v
  else s

end Sys2Proof.Machine
end

