-- ==== Sys2Proof/Machine/Image.lean ====
section
/-! DEFINITION. The State Image (R456 to R459): its sections, the compared part with its digest, the local part and the trailer, and the two buffers. -/
namespace Sys2Proof.Machine

/-- What the registers and scenario marks that change at the pour will show (R166, R202, R237). The image of a cycle holds these values. -/
def State.preview (s : State) : State :=
  if s.fullCycle then s.scenarioAlarms.publishFusion.publishControl.publishAllocation.sendResponses else s.sendResponses

/-- R305: the alarm codes of a health report. -/
def reportAlarms (r : List Word) : List Nat :=
  ((List.range 24).map (fun k => bits (nthW r (48 + k / 2)) (16 * (k % 2) + 15) (16 * (k % 2)))).filter (· != 0)

/-- R459: the codes of the pair: the union of the ALARMS fields of the two agreed reports, lowest first. -/
def State.pairCodes (s : State) : List Nat :=
  sortNat ((reportAlarms s.twn.copeReport ++ reportAlarms s.twn.dragReport).foldl insertNew [])

/-- R459: an accepted ALARM_ACK covers the code. -/
def State.pairAckedCode (s : State) (c : Nat) : Bool := s.ord.pairAcked.contains 0xFFFF || s.ord.pairAcked.contains c

/-- A list of alarms with its number in word 0, cut or padded to 128 words. -/
def alarmWords (l : List (Nat × Bool)) : List Word :=
  padWords 128 (toWord l.length :: l.map (fun e => BitVec.ofNat 32 (e.1 + 65536 * bit e.2)))

/-- R92: the timer of condition `n` in the image, counted to the freeze, so that both twins show one value. [Log 90, DEDUCED, unsafe] -/
def State.imageTimer (s : State) (n : Nat) : Nat :=
  match afind s.dev.condSince n with
  | some t => (s.freezeEl - t) / sec
  | none => 0

/-- R71, R459: the side that holds the Ladle, as its code; 0xFF for none. -/
def State.holderCode (s : State) : Nat :=
  match s.holderSide with
  | some h => sideCode h
  | none => 0xFF

/-- R459: the header. -/
def State.imageHeader (s : State) : List Word :=
  [0x4D495453#32, 1#32, 65536#32, toWord s.dev.stateEp, toWord s.twn.ladleEp, toWord (if s.formOn then s.elk.epoch else 0)] ++
  twoWords s.dev.pourAt ++ (List.range 4).map (nthW s.pat.id) ++
  [toWord s.pat.seq, halves (s.dev.period / ms) (bit (!s.fullCycle) + 2 * bit (s.dev.stepsLate.contains 2) + 4 * bit (s.cond 5))]

/-- R459: the device section. -/
def State.imageDevice (s : State) : List Word :=
  [quarters (if s.holderSide.isSome then 2 else stateCode s.dev.st) s.shownMode s.holderCode s.dev.command, s.reg A_CTL_DEGR] ++
  (List.range 10).map (fun n => toWord (s.imageTimer n)) ++
  (List.range 3).map (fun k => intWord (nthI s.dev.setPoint k)) ++ (List.range 3).map (fun k => intWord (nthI s.dev.joystick k)) ++
  (List.range 5).map (fun k => intWord (nthI (s.dev.track.getD []) k)) ++
  [nthW s.twn.timeStatus 0, nthW s.twn.timeStatus 1, BitVec.ofNat 32 (aget 0 s.twn.brakeMasks 0 + 256 * aget 0 s.twn.brakeMasks 1)]

/-- R459: the fusion section. -/
def State.imageFusion (s : State) : List Word :=
  (List.range 18).map (fun k => intWord (s.pubVal k)) ++ [s.reg A_FUS_STATUS, s.reg A_FUS_LEAD0, s.reg A_FUS_LEAD1]

/-- R459: the entry of one sensor slot: its registers and its refinement offsets in the order of R159. -/
def State.imageSlot (s : State) (n : Nat) : List Word :=
  let axes := (refineRows (s.slotKind n)).flatMap (fun r => (List.range r.2.1).map (fun a =>
    intWord ((aget 0 s.fus.refined (refineKey n r.1 a)).tdiv 3600000)))
  padWords 8 ([s.reg (A_FUS_SLOT_STAT n), s.reg (A_FUS_SLOT_NIS n)] ++ (if s.slotUsed n then axes else []))

/-- R459: the control section. -/
def State.imageControl (s : State) : List Word :=
  [s.reg A_CTL_CSTAT] ++ (List.range 3).map (fun k => s.reg (A_CTL_REF k)) ++ (List.range 3).map (fun k => s.reg (A_CTL_DEMAND k)) ++
  [s.reg A_CTL_ALC_STAT] ++ (List.range 3).map (fun k => s.reg (A_CTL_BOX k)) ++ [s.reg A_CTL_AVAIL, s.reg A_CTL_SCEN_SUM]

/-- R459: the entry of one thruster. -/
def State.imageThruster (s : State) (t : Nat) : List Word :=
  [s.reg (A_CTL_THR_CMD t), s.reg (A_CTL_THR_ANG t), s.reg (A_CTL_THR_STAT t), s.reg (A_CTL_THR_PWR t)]

/-- R459: the tunables section: word 0 of each TUN_LIST entry and the tunable's current value. -/
def State.imageTunables (s : State) : List Word :=
  (List.range (Nat.min 256 ((s.parGiven 0x1301).length / 4))).flatMap (fun k =>
    let key := nthW (s.parGiven 0x1301) (4 * k)
    [key, s.parW (bits key 15 0) (bits key 31 16)])

/-- R459: the formation section: F_EPOCH, the units present, and the record of each entry of ELK_SUBS. -/
def State.imageFormation (s : State) : List Word :=
  if s.formOn then
    let recs := (List.range 64).map (fun k => if k < s.subUnits.length then afind s.elk.units (nth s.subUnits k) else none)
    let mask := maskOf ((List.range 64).filter (fun k => (recs.getD k none).isSome))
    padWords 16 (toWord s.elk.epoch :: twoWords mask) ++ recs.flatMap (fun r => padWords 16 (r.getD []))
  else []

/-- R458, R459: the compared part, as (word offset, words). `s` shows what the pour will show. -/
def State.comparedSections (s : State) : List (Nat × List Word) := [
  (0x0000, s.imageHeader), (0x0010, s.imageDevice), (0x0040, s.imageFusion), (0x0080, (List.range 48).flatMap s.imageSlot),
  (0x0200, s.imageControl), (0x0220, (List.range 32).flatMap s.imageThruster),
  (0x02A0, s.scenHeader ++ (List.range 127).flatMap (fun j => s.scenWords (j + 1))),
  (0x04C0, padWords 64 s.twn.copeReport ++ padWords 64 s.twn.dragReport),
  (0x0540, alarmWords (s.pairCodes.map (fun c => (c, s.pairAckedCode c)))),
  (0x05C0, (List.range 64).flatMap (fun k => padWords 4 (aget [] s.ord.last (k + 1)))),
  (0x06C0, s.imageTunables), (0x08C0, s.imageFormation)]

/-- Put sections into an image. -/
def putSections (m : Sparse 32) (l : List (Nat × List Word)) : Sparse 32 := l.foldl (fun (a : Sparse 32) e => memSetRun zeroCell 1 a e.1 e.2) m

/-- R458: the compared part of the cycle's image. -/
def State.comparedImage (s : State) : Sparse 32 := putSections [] s.preview.comparedSections

/-- R287: the digest of a compared part: the CRC-32C of bytes 0x0000 to 0xEFFF. -/
def comparedDigest (m : Sparse 32) : Word := crcWords (memGetRun zeroCell 1 m 0 0x3C00)

/-- The buffer that is not the front buffer. -/
def State.backBuffer (s : State) : Sparse 32 := if s.sti.front = 0 then s.sti.bufB else s.sti.bufA

/-- Write the back buffer. -/
def State.setBack (s : State) (m : Sparse 32) : State :=
  { s with sti := if s.sti.front = 0 then { s.sti with bufB := m } else { s.sti with bufA := m } }

/-- R456: build the compared part in the back buffer. -/
def State.buildImage (s : State) : State :=
  if s.sti.built then s
  else let t := s.setBack s.comparedImage
    { t with sti := { t.sti with built := true } }

/-- R459: the local part. `after` is the state code after the pour. -/
def State.localWords (s : State) (after : Nat) : List Word :=
  [nthW s.twn.ownTime 0, nthW s.twn.ownTime 1,
   BitVec.ofNat 32 (s.fld F_SAF_SIP_DEMAND + 65536 * s.fld F_SAF_STATUS_BRK_APPLIED + 16777216 * bit s.inSafe),
   BitVec.ofNat 32 (sideCode s.pins.side + 256 * after)] ++ alarmWords (s.alarms.map (fun a => (a.code, a.acked)))

/-- R459: the trailer's word for a verdict; 0 when none arrived. -/
def verdictWord : Option VerdictMsg → Word
  | some v => BitVec.ofNat 32 (bit v.pass + 16 * (v.checks % 16))
  | none => 0#32

/-- R458, R459: write the local part and the trailer with IMAGE_CRC. -/
def State.closeImage (s : State) (after : Nat) : State :=
  if s.sti.closed then s
  else
    let own := verdictWord s.twn.ownVerdict
    let peer := verdictWord s.twn.peerVerdict
    let cope := if s.pins.side = .cope then own else peer
    let drag := if s.pins.side = .cope then peer else own
    let m := putSections s.backBuffer [(0x3C00, s.localWords after), (0x3FC0, [cope, drag, BitVec.ofNat 32 s.twn.arbRow])]
    let t := s.setBack (memSet zeroCell m 0x3FFF (crcWords (memGetRun zeroCell 1 m 0 0x3FFF)))
    { t with sti := { t.sti with closed := true } }

/-- The front image as 16,384 words. -/
def State.frontImage (s : State) : List Word := memGetRun zeroCell 1 (if s.sti.front = 0 then s.sti.bufA else s.sti.bufB) 0 16384

/-- R456, R457: the front-buffer change at the pour, and STI_EPOCH. -/
def State.swapImage (s : State) : State :=
  ({ s with sti := { s.sti with front := 1 - s.sti.front, built := false, closed := false } }).setReg A_STI_EPOCH (toWord s.dev.stateEp)

/-- R456, R461: at a freeze the device starts to write the back buffer, and views that pin it break. -/
def State.breakViews (s : State) : State :=
  { s with sti := { s.sti with views := s.sti.views.map (fun e => (e.1, { e.2 with intact := e.2.intact && e.2.buf == s.sti.front })) } }

end Sys2Proof.Machine
end

