-- ==== Sys2Proof/Machine/Report.lean ====
section
/-! DEFINITION. The health report (R305, R306) and its SELFTEST words (R473). -/
namespace Sys2Proof.Machine

/-- R473: the pairs in service. A spare pair is in service once it has replaced another. -/
def State.pairsIn (s : State) : List Nat :=
  (List.range 11).filter (fun n => !s.hlt.pairsOut.contains n && (n != 5 || s.hlt.fusionSpareUsed) && (n != 8 || s.hlt.controlSpareUsed))

/-- R99, R473: tracking channels in service: neither spare, retired nor powered down. -/
def State.channelsIn (s : State) : Nat :=
  if s.gnsRuns then ((List.range 272).filter (fun n => let c := (s.gchan n).st; c != 3 && c != 4 && c != 5 && c != 6)).length else 0

/-- R482: the hours since the last re-plan that word 11 shows: the largest of the six dies. [Log 90, DEDUCED, unsafe] -/
def State.sinceReplan (s : State) : Nat := (List.range 6).foldl (fun a d => Nat.max a (s.fld (F_HLT_DIE_MARGIN_SINCE d))) 0

/-- R473: word `w` of this device's SELFTEST words. [Log 90, DEDUCED, unsafe] -/
def State.selftestWord (s : State) (w : Nat) : Word :=
  let h := s.hlt
  if w = 0 then halves (maskOf s.pairsIn) h.mismatches
  else if w = 1 then halves (s.fld F_SLV_KAT_LANE + 256 * s.fld F_SLV_KAT_PASS) h.katFails
  else if w = 2 then quarters (s.clusterSpares 0).length (s.clusterSpares 1).length (s.clusterSpares 2).length (s.clusterSpares 3).length
  else if w = 3 then BitVec.ofNat 32 ((List.range 8).foldl (fun a c =>
    a + 16 ^ c * ([256 + 2 * c, 257 + 2 * c].filter (fun n => (s.gchan n).st == 3 || (s.gchan n).st == 4)).length) 0)
  else if w = 4 then halves h.shadowChan h.shadowMism
  else if w = 5 then halves (maskOf ((List.range 8).filter (fun k => !s.fch.sparesOut.contains k))) h.engineMism
  else if w = 6 then halves (h.injChan + 256 * bit h.injPassed) h.injFails.length
  else if w = 7 then halves s.mram.riserBanks.length h.scrubPasses
  else if w = 8 then halves (aget 0 h.corrLast 0) (aget 0 h.corrLast 1)
  else if w = 9 then BitVec.ofNat 32 (aget 0 h.corrLast 2 % 65536 + 65536 * Nat.min 255 (aget 0 h.corrLast 3) + 16777216 * Nat.min 255 (aget 0 h.corrLast 4))
  else if w = 10 then toWord (maskOf ((List.range 8).filter (fun r => !h.railsBad.contains r)))
  else if w = 11 then halves ((List.range 6).foldl (fun a d => a + 4 ^ d * s.fld (F_HLT_DIE_MARGIN_STATUS d)) 0) s.sinceReplan
  else if w ≤ 17 then s.reg (A_HLT_DIE_AGE (w - 12))
  else if w ≤ 21 then halves (s.fld (F_HLT_NODE_TEMP (2 * (w - 18)))) (s.fld (F_HLT_NODE_TEMP (2 * (w - 18) + 1)))
  else if w ≤ 23 then halves (s.fld (F_HLT_DIODE_TEMP (2 * (w - 22)))) (s.fld (F_HLT_DIODE_TEMP (2 * (w - 22) + 1)))
  else if w = 24 then halves (s.fld F_HLT_STATUS_THROTTLE_C + 256 * s.fld F_HLT_STATUS_THROTTLING + 512 * s.fld F_HLT_STATUS_WARN +
    1024 * s.fld F_HLT_STATUS_SHUTDOWN + 2048 * s.fld F_HLT_STATUS_COOLED) (s.reg A_HLT_TREF).toNat
  else if w = 25 then halves (maskOf s.goodDiodes) h.sinceCal
  else 0#32

/-- R306: TAKEOVER_OK. -/
def State.takeoverReady (s : State) : Bool :=
  (s.dev.st == .armed || s.dev.st == .active) && !s.hlt.deviceFault && s.flag F_GLB_STATUS_REFIN_OK && s.flag F_GLB_STATUS_PLL_LOCK &&
  s.flag F_GLB_STATUS_CLKMON_OK && !s.flag F_HLT_STATUS_SHUTDOWN && s.saf.verdictPass

/-- R305: the FAULTS word. -/
def State.reportFaults (s : State) : Word :=
  toWord (bit s.hlt.deviceFault + 2 * s.fld F_GLB_STATUS_REFIN_OK + 4 * s.fld F_GLB_STATUS_PLL_LOCK + 8 * s.fld F_GLB_STATUS_CLKMON_OK +
    16 * s.fld F_HLT_STATUS_THROTTLING + 32 * s.fld F_HLT_STATUS_SHUTDOWN + 64 * bit (s.pairsIn.contains 5) + 128 * bit (s.pairsIn.contains 8) +
    256 * bit (s.suspected s.pins.side) + 512 * bit s.takeoverReady + 1024 * s.fld F_HLT_STATUS_COOLED)

/-- R305: the ALARMS field: up to 24 codes, lowest first. -/
def State.reportCodes (s : State) : List Word :=
  let c := fun k => match s.alarms[k]? with
    | some a => if k < 24 then a.code else 0
    | none => 0
  (List.range 12).map (fun k => halves (c (2 * k)) (c (2 * k + 1)))

/-- R305: the 64 words of this device's health report. -/
def State.healthReport (s : State) : List Word :=
  let twin := bit s.inStep + 2 * bit s.holds + 4 * bit s.split + 8 * s.fld F_TWN_STATUS_SYNCING + 16 * s.fld F_TWN_STATUS_LANES
  let checks := bit s.twn.selfL + 2 * bit s.twn.selfE + 4 * bit s.twn.selfS + 8 * bit (!s.saf.verdictPass)
  let worst := match s.worst with
    | some a => a.code
    | none => 0
  let body := [toWord s.dev.stateEp, quarters (sideCode s.pins.side) (stateCode s.dev.st) twin checks, toWord s.twn.ladleEp, s.reportFaults,
    quarters (s.fld F_SLV_STATUS_LANES) (s.fld F_SLV_STATUS_SPARES) (s.fld F_HLT_STATUS_THROTTLE_C) 0,
    halves (s.reg A_HLT_TJMAX).toNat s.channelsIn,
    quarters (s.pairsIn.filter (fun n => 1 ≤ n && n ≤ 5)).length (s.pairsIn.filter (fun n => 6 ≤ n && n ≤ 8)).length s.bankSpares (8 - s.fch.sparesOut.length),
    toWord s.hlt.eccCorr, toWord s.hlt.eccUncorr, s.reg A_TWN_CNT_RETX, s.reg A_TWN_CNT_CRC, toWord s.opHours, halves worst s.alarms.length,
    0#32, 0#32, 0#32] ++ (List.range 32).map s.selftestWord ++ s.reportCodes ++ [0#32, 0#32, 0#32]
  body ++ [crcWords body]

/-- R305: this device's last formed report. -/
def State.ownReport (s : State) : List Word := s.regRun (A_TWN_HLT_OWN 0) 64

end Sys2Proof.Machine
end

