-- ==== Sys2Proof/Machine/Twin.lean ====
section
/-! DEFINITION. The twin link (R271 to R274), meeting the partner (R275 to R277), the Ladle lease (R289 to R295) and resynchronisation (R300 to R302). -/
namespace Sys2Proof.Machine

/-- TWIN_LANE_LOST (R274). -/
def execTwinLaneLost (lane : Nat) (s : State) : Host.Outcome State Fault Refusal :=
  .next (s.loseLane lane)

/-- TWIN_LANE_RETRY (R274): every 100 ms from the loss. -/
def execTwinLaneRetry (lane : Nat) (s : State) : Host.Outcome State Fault Refusal :=
  .next (match afind s.twn.laneLost lane with
    | some e => let t := s.reachEl (e + 100 * ms)
      { t with twn := { t.twn with laneLost := aset t.twn.laneLost lane t.tim.el } }
    | none => s)

/-- TWIN_LANE_UP (R274). -/
def execTwinLaneUp (lane : Nat) (s : State) : Host.Outcome State Fault Refusal :=
  .next (if s.twinOn && lane < 2 then
    let t := ({ s with twn := { s.twn with laneLost := adel s.twn.laneLost lane, downSince := none } }.setFlag (bitAt A_TWN_STATUS (10 + lane)) true).causeGone 0x0402
    let u := if t.fld F_TWN_STATUS_LANES = 3 then t.causeGone 0x0401 else t
    u.requestSync.reselect
    else s)

/-- TWIN_LINK_DOWN (R274, R286): no lane has been up for 1 ms. The partner counts as not met, a device in step leaves it, and both ends begin anew with
empty buffers and sequence numbers of 0. -/
def execTwinLinkDown (s : State) : Host.Outcome State Fault Refusal :=
  .next (match s.twn.downSince with
    | some e =>
      if s.twinOn && !s.linkUp then
        let t := (((s.reachEl (e + ms)).event F_TWN_EVENT_LINK_DOWN).raise 0x0402).leaveStep 4 0
        let u := (t.setFlag F_TWN_STATUS_PEER_MET false).setFlag F_TWN_STATUS_SYNCING false
        { u with twn := { u.twn with
          link := {}, downSince := none, helloAt := none, answered := false, requested := false, copyDueBy := none, joining := none,
          partnerWantsCopy := false } }.reselect
      else s
    | none => s)

/-- TWIN_RETRANSMIT (R272): no acknowledgement within 2 µs. -/
def execTwinRetransmit (vc firstSeq : Nat) (s : State) : Host.Outcome State Fault Refusal := .next (s.retransmit vc firstSeq)

/-- TWIN_NAK (R272). -/
def execTwinNak (vc firstSeq : Nat) (s : State) : Host.Outcome State Fault Refusal := .next (s.retransmit vc firstSeq)

/-- R275: what this device's HELLO carries. [Log 80, DESIGN CHOICE, safe] -/
def State.ownHello (s : State) : List Int :=
  [(s.serial : Int), (sideCode s.pins.side : Int)] ++ wordData ((List.range 4).map (nthW s.pat.id)) ++
  [(s.pat.seq : Int), ((s.reg A_TWN_EXEC).toNat : Int), (stateCode s.dev.st : Int), (s.fld F_KPR_BOOTSTAT_STEP : Int),
   ((if s.dev.st == .boot then s.mram.stateEp else s.dev.stateEp : Nat) : Int), (s.twn.ladleEp : Int), (s.twn.ownNonce : Int)]

/-- HELLO_SEND (R275): every 100 ms while the link is up and the partner has not been met, with a fresh nonce. [Log 85, DEDUCED, unsafe] -/
def execHelloSend (nonce : Nat) (s : State) : Host.Outcome State Fault Refusal :=
  .next (if s.twinOn && s.linkUp && !s.peerMet then
    let r := match s.twn.helloAt with
      | some e => s.reachEl (e + 100 * ms)
      | none => s
    let t := { r with twn := { r.twn with ownNonce := nonce, helloAt := some r.tim.el } }
    t.twinSend 2 .hello t.ownHello
    else s)

/-- START_MODE (R73, R89). -/
def State.startMode (s : State) : Nat := s.par 0x0701

/-- R32, R277: the state epoch of the first freeze. -/
def State.firstEpoch (s : State) : Nat :=
  match s.twn.startAt with
  | some x => x.2
  | none => s.mram.stateEp + 2

/-- R54: boot step 11 ends: the first freeze, at a working time. Items from now on belong to its cycle. -/
def State.readyAt (s : State) (t : Nat) : State :=
  { s.setFld F_KPR_BOOTSTAT_STEP 12 with
    boot := { s.boot with waitingTwin := false, readyForFreeze := true }
    dev := { s.dev with nextFreeze := t, period := modePeriod s.startMode, stateEp := s.firstEpoch - 1 } }

/-- R277: enter ARMED out of step at the next cycle boundary; `lonely` sets condition 4 with alarm 0x040D. -/
def State.startAlone (s : State) (lonely : Bool) : State :=
  let t := { s with twn := { s.twn with outOfStepFromBoot := true } }
  let u := if lonely then (t.setCond 4 true).raise 0x040D else t
  u.readyAt (boundaryAt u.tim.wt (modePeriod u.startMode))

/-- R277, R294: a common start at a freeze and a state epoch. Both devices take the larger Ladle epoch. [Log 85, DEDUCED, unsafe] -/
def State.commonStart (s : State) (freeze epoch : Nat) : State :=
  let peerLadle := match s.twn.peer with
    | some h => h.ladleEp
    | none => 0
  (({ s with twn := { s.twn with startAt := some (freeze, epoch) } }).setLadleEp (Nat.max s.twn.ladleEp peerLadle)).readyAt freeze

/-- R277: the START of Cope: the first boundary at least 20 ms away, and 2 more than the larger stored state epoch. [Log 85, DEDUCED, unsafe] -/
def State.sendStart (s : State) (h : Hello) : State :=
  let freeze := boundaryAt (s.tim.wt + 20 * ms) (modePeriod s.startMode)
  let epoch := Nat.max s.mram.stateEp h.stateEp + 2
  (s.twinSend 2 .start [(freeze : Int), (epoch : Int)]).commonStart freeze epoch

/-- R358: a follower that meets its partner in step 11 sets its time from it, directly, once. -/
def State.twinTime (s : State) : State :=
  if s.boot.waitingTwin && !s.boot.twinTimeSet && s.peerMet && s.pins.side = .drag && s.tim.rxMarker != 0 then
    let t := s.setTimeDirect s.tim.twinOffset
    { t with boot := { t.boot with twinTimeSet := true } }
  else s

/-- R277: boot step 11 once the partner is met: the first case of the table that holds. [Log 85, DEDUCED, unsafe] -/
def State.step11 (s : State) : State :=
  match s.twn.peer with
  | some h =>
    if !s.boot.waitingTwin || !s.peerMet then s
    else if s.split then s.startAlone false
    else if h.state = 1 || h.state = 2 then s.startAlone false
    else if h.state = 3 then s.startAlone true
    else if h.state = 0 && h.bootStep = 11 && s.pins.side = .cope && s.flag F_TSU_STATUS_TWIN_OK then s.sendStart h
    else s
  | none => s

/-- R275: the partner's HELLO is held, and the first one is answered with AUTH. -/
def State.takeHello (s : State) (frame : Hello) : State :=
  let t := { s with twn := { s.twn with peer := some frame, peerNow := frame.state, answered := true } }
  (if s.twn.answered then t else t.twinSend 2 .auth [(frame.nonce : Int), (t.twn.ownNonce : Int)]).step11

/-- HELLO (R275). -/
def execHelloFrame (header : TwinHeader) (frame : Hello) (s : State) : Host.Outcome State Fault Refusal :=
  .next (s.onFrame 2 header (fun t => t.takeHello frame))

/-- R46, R275: the serial number that the TWIN section gives the other side. -/
def State.peerSerial (s : State) : Nat :=
  let pid := if s.pins.side = .cope then 0x0904 else 0x0902
  s.par pid 0 + 4294967296 * s.par pid 1

/-- R275, R276: the partner has been met: its identity shows, and unequal PATTERN_IDs or EXEC_IDs split the pair. -/
def State.meetPeer (s : State) (h : Hello) : State :=
  let t := ((((s.setFlag F_TWN_STATUS_PEER_MET true).setReg A_TWN_PEER_SER0 (toWord h.serial)).setReg A_TWN_PEER_SER1
    (BitVec.ofNat 32 (h.serial / 4294967296))).setReg A_TWN_PEER_EXEC (toWord h.execId)).causeGone 0x0403
  if h.patternId = (List.range 4).map (nthW t.pat.id) && toWord h.execId = t.reg A_TWN_EXEC then (t.setFlag F_TWN_STATUS_SPLIT false).causeGone 0x0404
  else (t.setFlag F_TWN_STATUS_SPLIT true).raise 0x0404

/-- R275: the bytes of a HELLO, in the order in which the rule lists what it carries. [Log 106, DESIGN CHOICE, unsafe] -/
def helloBytes (h : Hello) : List Byte :=
  natBytes h.serial 8 ++ natBytes (sideCode h.side) 1 ++ wordsBytes h.patternId ++ natBytes h.seq 4 ++ natBytes h.execId 4 ++ natBytes h.state 1 ++
  natBytes h.bootStep 1 ++ natBytes h.stateEp 4 ++ natBytes h.ladleEp 4 ++ natBytes h.nonce 16

/-- R46, R275: COPE_KEY or DRAG_KEY of the partner's side. -/
def State.peerKey (s : State) : List Byte :=
  let pid := if s.pins.side = .cope then 0x0905 else 0x0903
  wordsBytes ((List.range 8).map (fun k => s.parW pid k))

/-- R275: what the signature of the partner's AUTH must verify: both nonces, the signer's first, and its HELLO, under the key of its side. [Log 106, DESIGN CHOICE, unsafe] -/
def State.authCheck (s : State) (h : Hello) (sig : List Byte) : Signed :=
  ⟨.key s.peerKey, natBytes h.nonce 16 ++ natBytes s.twn.ownNonce 16 ++ helloBytes h, sig⟩

/-- R275: an AUTH is judged by its signature and by the serial number and the side of the HELLO before it. -/
def State.takeAuth (s : State) (sig : List Byte) (verified : List Signed) : State :=
  match s.twn.peer with
  | some h =>
    if verified.contains (s.authCheck h sig) && h.serial = s.peerSerial && h.side = otherSide s.pins.side then
      (s.meetPeer h).reselect.twinTime.step11.requestSync
    else s.raise 0x0403
  | none => s

/-- AUTH (R275). `verified` holds what Ed25519 verifies. -/
def execAuthFrame (header : TwinHeader) (sig : List Byte) (verified : List Signed) (s : State) : Host.Outcome State Fault Refusal :=
  .next (s.onFrame 2 header (fun t => t.takeAuth sig verified))

/-- TIME_MARKER (R352 to R354, R358): in boot step 11 a marker may complete the conditions of a common start. -/
def execTimeMarker (marker : Marker) (s : State) : Host.Outcome State Fault Refusal :=
  .next (if marker.crcOk then (s.takeMarker marker).twinTime.step11 else s)

/-- START (R277): the side that waits in boot step 11 takes the freeze and the epoch that it names. -/
def execStartFrame (header : TwinHeader) (firstFreeze epoch : Nat) (s : State) : Host.Outcome State Fault Refusal :=
  .next (s.onFrame 2 header (fun t =>
    if t.boot.waitingTwin && t.peerMet && !t.split && t.pins.side = .drag then t.commonStart firstFreeze epoch else t))

/-- TWIN_WAIT_END (R277): at the later of 1,800 ms after time 0 and 800 ms after the start of step 11. -/
def execTwinWaitEnd (s : State) : Host.Outcome State Fault Refusal :=
  .next (if s.boot.waitingTwin then
    (s.reachEl (Nat.max (s.boot.time0 + 1800 * ms) (s.boot.step11At + 800 * ms))).startAlone true
    else s)

/-- R279: a whole item of the partner is held for its cycle. -/
def State.takeItem (s : State) (entry : Item) : State :=
  if s.peerMet && !s.split && entry.side = otherSide s.pins.side && (!s.inStep || s.dev.stateEp ≤ entry.epoch) then
    let t := { s with agr := { s.agr with theirs := s.agr.theirs ++ [entry] } }
    if entry.cls = 5 && entry.num = 0 then { t with twn := { t.twn with peerNow := bits (nthW entry.data 1) 15 8 } } else t
  else s

/-- R279: fragment `index` of `count` of an item arrives, its data in `entry`; the last one completes the item. A fragment out of turn is no part of an item. -/
def State.takeFragment (s : State) (entry : Item) (index count : Nat) : State :=
  let before : Option (List Word) := if index = 0 then some [] else match s.agr.partialItem with
    | some (i, k) => if k = index && { i with data := [] } = { entry with data := [] } then some i.data else none
    | none => none
  match before with
  | some d =>
    let whole := { entry with data := d ++ entry.data }
    if index + 1 = count then { s with agr := { s.agr with partialItem := none } }.takeItem whole
    else { s with agr := { s.agr with partialItem := some (whole, index + 1) } }
  | none => { s with agr := { s.agr with partialItem := none } }

/-- ITEM (R279). -/
def execItemFrame (header : TwinHeader) (entry : Item) (index count : Nat) (s : State) : Host.Outcome State Fault Refusal :=
  .next (s.onFrame 1 header (fun t => t.takeFragment entry index count))

/-- COMPARE (R287). One that arrives after the comparison window is missing. -/
def execCompareFrame (header : TwinHeader) (msg : CompareMsg) (s : State) : Host.Outcome State Fault Refusal :=
  .next (s.onFrame 2 header (fun t =>
    if t.inStep && msg.epoch = t.dev.stateEp && !t.dev.stepsLate.contains 5 then { t with twn := { t.twn with peerCompare := some msg } } else t))

/-- VERDICT (R288). -/
def execVerdictFrame (header : TwinHeader) (msg : VerdictMsg) (s : State) : Host.Outcome State Fault Refusal :=
  .next (s.onFrame 3 header (fun t => if t.inStep then { t with twn := { t.twn with peerVerdict := some msg } } else t))

/-- R329: the bytes of a safe frame. -/
def State.safeFrame (s : State) (typ dst : Nat) (payload : List Byte) : List Byte :=
  let body := natBytes 0x5346 2 ++ natBytes 1 1 ++ natBytes typ 1 ++ natBytes (s.safPar 0x1001).toNat 2 ++ natBytes dst 2 ++
    natBytes (aget 0 s.saf.txSeq typ) 4 ++ natBytes s.tim.wt 8 ++ natBytes payload.length 2 ++ natBytes 0 2 ++ payload
  body ++ wordBytes (crc32c body)

/-- R329: count a safe frame of a type as sent. -/
def State.nextSafe (s : State) (typ : Nat) : State :=
  { s with saf := { s.saf with txSeq := aset s.saf.txSeq typ ((aget 0 s.saf.txSeq typ + 1) % 4294967296) } }

/-- R291: the content of a renewal: Ladle epoch, holder's side and send time. -/
def renewBytes (epoch side sendT : Nat) : List Byte := natBytes epoch 4 ++ natBytes side 4 ++ natBytes sendT 8

/-- R291: only the LAN copies of the last renewal, or of its acknowledgement, arrived. [Log 86, DEDUCED, safe] -/
def State.judgeLan (s : State) (twin lan : Bool) : State := if lan && !twin then (s.event F_TWN_EVENT_LAN_ONLY).raise 0x040E else s

/-- R291: the next working-time instant that lies 18 ms after a multiple of 20 ms. -/
def renewInstant (t : Nat) : Nat := (t + 2 * ms + 20 * ms - 1) / (20 * ms) * (20 * ms) - 2 * ms

/-- R335: renewal is stopped by a loss of REFIN or of lock, or by the global safe state. -/
def State.mayRenew (s : State) : Bool := s.holds && !s.clk.noRenew && !s.inSafe

/-- RENEW_SEND (R291, R292, R304). [Log 85, DEDUCED, unsafe] -/
def execRenewSend (s : State) : Host.Outcome State Fault Refusal :=
  .next (if !s.mayRenew then s
    else
      let t := s.reach (renewInstant s.tim.wt)
      let u := t.judgeLan t.twn.ackTwin t.twn.ackLan
      let v := { u with twn := { u.twn with renewSentAt := some u.tim.wt, ackTwin := false, ackLan := false } }
      let w := if !v.paired then v
        else
          let x := if v.peerMet then v.twinSend 3 .renew [(v.twn.ladleEp : Int), (sideCode v.pins.side : Int), (v.tim.wt : Int)] else v
          if v.par 0x0906 = 1 then
            (x.lanSend .renew ((x.safeFrame 1 0xFFFF (renewBytes x.twn.ladleEp (sideCode x.pins.side) x.tim.wt)).map (fun b => (b.toNat : Int)))).nextSafe 1
          else x
      if w.partnerAbsent then w.countRenewal else w)

/-- R291: answer a RENEW with ACK on its own path. [Log 85, DEDUCED, unsafe] -/
def State.sendAck (s : State) (path : Path) (sendT : Nat) : State :=
  let lan (p : Nat) : State :=
    (s.ethSend p .ack ((s.safeFrame 2 0xFFFF (renewBytes s.twn.ladleEp (sideCode s.pins.side) sendT)).map (fun b => (b.toNat : Int)))).nextSafe 2
  match path with
  | .twin _ => s.twinSend 3 .ack [(sendT : Int)]
  | .lanA => lan 0
  | .lanB => lan 1

/-- What arrives on a path of R291: a frame of VC3 on the twin link, or a safe frame of a LAN. -/
def State.onPath (s : State) (path : Path) (f : State → State) : State :=
  match path with
  | .twin h => s.onFrame 3 h f
  | .lanA | .lanB => f s

/-- The path is a LAN. -/
def onLan : Path → Bool
  | .twin _ => false
  | .lanA | .lanB => true

/-- RENEW (R291, R293, R295): a copy arrives at the standby. A holder that hears a higher Ladle epoch has lost the Ladle (R71). -/
def execRenew (path : Path) (epoch : Nat) (side : Side) (sendT arrival : Nat) (s : State) : Host.Outcome State Fault Refusal :=
  .next ((s.reach arrival).onPath path (fun t =>
    if !t.twinOn || side != otherSide t.pins.side || epoch < t.twn.ladleEp || (t.holds && epoch = t.twn.ladleEp) then t
    else
      let a := if t.holds then t.dropToArmed else t
      let new := sendT != a.twn.rxSend
      let b := if new then a.judgeLan a.twn.rxTwin a.twn.rxLan else a
      let lan := onLan path
      let c := { b with twn := { b.twn with
        rxSend := sendT, rxTwin := (!new && b.twn.rxTwin) || !lan, rxLan := (!new && b.twn.rxLan) || lan,
        renewRxAt := some b.tim.el, holder := some side, takeOver := false } }
      (if c.twn.ladleEp < epoch then c.setLadleEp epoch else c).sendAck path sendT))

/-- ACK (R292): it counts when it arrives within 2 ms of the RENEW's send time. -/
def execAck (path : Path) (arrival : Nat) (s : State) : Host.Outcome State Fault Refusal :=
  .next ((s.reach arrival).onPath path (fun t =>
    match t.twn.renewSentAt with
    | some sent =>
      if t.mayRenew && arrival ≤ sent + 2 * ms then
        let u := t.countRenewal
        { u with twn := { u.twn with ackTwin := u.twn.ackTwin || !onLan path, ackLan := u.twn.ackLan || onLan path } }
      else t
    | none => t))

/-- LEASE_EXPIRY (R292, R311): 60 ms after the last report of a counted renewal. [Log 9, DEDUCED, safe] -/
def execLeaseExpiry (s : State) : Host.Outcome State Fault Refusal :=
  .next (match s.saf.leaseFrom with
    | some e =>
      let t := (s.reachEl (e + 60 * ms)).dropLease
      if t.holds then t.dropToArmed else t
    | none => s)

/-- SILENT_LOSS_TIMEOUT (R293): 70 ms without a RENEW; the take-over itself falls at a pour. -/
def execSilentLossTimeout (s : State) : Host.Outcome State Fault Refusal :=
  .next (match s.twn.renewRxAt with
    | some e =>
      if s.twinOn && !s.holds then
        let t := s.reachEl (e + 70 * ms)
        { t with twn := { t.twn with takeOver := true } }
      else s
    | none => s)

/-- R293, R276: what a take-over at a pour needs besides the silence. -/
def State.mayTakeOver (s : State) : Bool :=
  s.twn.takeOver && s.dev.st == .armed && takeoverOk s.ownReport && (s.par 0x0907 == 1 || s.inStep) && s.paired && !s.split

/-- RELEASE (R289): the twin takes the Ladle on receipt. A device that is not ARMED only keeps the epoch. [Log 86, DEDUCED, safe] -/
def execReleaseFrame (header : TwinHeader) (epoch : Nat) (s : State) : Host.Outcome State Fault Refusal :=
  .next (s.onFrame 3 header (fun t =>
    if t.holds || epoch ≤ t.twn.ladleEp then t
    else if t.dev.st == .armed && !t.inSafe then t.takeLadle epoch
    else { t.setLadleEp epoch with twn := { (t.setLadleEp epoch).twn with holder := none } }))

/-- R286: the partner has left step: this device runs on its own items, and the lead side sets condition 4. [Log 88, DEDUCED, unsafe] -/
def State.partnerLeft (s : State) : State :=
  if s.inStep then
    let t := s.setFlag F_TWN_STATUS_IN_STEP false
    t.when t.isLead (fun u => u.setCond 4 true)
  else s

/-- SYNC_REQ (R301): the partner is out of step; the copy is frozen at the next pour. [Log 87, DEDUCED, unsafe] -/
def execSyncReqFrame (header : TwinHeader) (s : State) : Host.Outcome State Fault Refusal :=
  .next (s.onFrame 2 header (fun t =>
    if t.peerMet && !t.split && t.fullCycle then
      let u := t.partnerLeft
      { u with twn := { u.twn with partnerWantsCopy := true, joining := none } }
    else t))

/-- R300: the parts of this device's twin state. [Log 32, DESIGN CHOICE, unsafe] [Log 87, DEDUCED, unsafe] -/
def State.twinChunks (s : State) : List TwinChunk :=
  [.epochs s.dev.stateEp s.twn.ladleEp,
   .mode s.dev.mode s.dev.newMode s.dev.ownNew s.dev.setPoint s.dev.joystick s.dev.track s.dev.follow s.dev.joyLost,
   .command s.dev.command s.ord.lastSeq s.ord.last s.ord.pairAcked s.ord.availNext, .tunables s.pat.tuned s.ord.tuneNext,
   .conditions s.freezeEl s.dev.condSince s.dev.expired s.dev.joyAt, .fusion s.freezeEl s.fus, .control s.freezeEl s.ctl, .allocation s.freezeEl s.alc] ++
  s.slv.moulds.map (fun e => .mould e.1 e.2.fillable) ++ [.warm (s.xchgRun warmOfs 256), .gnss s.freezeEl s.gns.aiding s.gns.chk, .formation s.elk.epoch s.elk.units]

/-- R301: freeze the copy at the pour of cycle k and send it, SYNC_END last. The sender is in step with the receiver from the freeze of k + 1. [Log 87, DEDUCED, unsafe] -/
def State.sendCopy (s0 : State) : State :=
  let s := { s0 with twn := { s0.twn with copy := s0.twinChunks } }
  let n := s.twn.copy.length
  let t := (List.range n).foldl (fun (u : State) (i : Nat) => u.twinSend 0 .twinState [(s.dev.stateEp : Int), (i : Int)]) s
  let u := t.twinSend 0 .syncEnd [(s.dev.stateEp : Int), (n : Int)]
  { u with twn := { u.twn with partnerWantsCopy := false, joining := some (s.dev.stateEp + 1) } }

/-- R301: write one part of the twin state into place. The receiver's own items of the next cycle keep their cycle, and its capture buffer keeps its
content (R193). [Log 32, DESIGN CHOICE, unsafe] [Log 87, DEDUCED, unsafe] -/
def State.applyChunk (s : State) : TwinChunk → State
  | .epochs stateEp ladleEp =>
    let t := s.setLadleEp ladleEp
    { t with dev := { t.dev with stateEp := stateEp },
             agr := { t.agr with own := t.agr.own.map (fun i => if i.epoch = s.dev.stateEp + 1 then { i with epoch := stateEp + 1 } else i) } }
  | .mode mode newMode ownNew setPoint joystick track follow joyLost =>
    { s with dev := { s.dev with
      mode, setPoint, joystick, track, follow, joyLost, newMode, ownNew, period := modePeriod mode,
      nextFreeze := boundaryAt s.tim.wt (modePeriod mode) } }
  | .command source lastSeq responses acked avail =>
    { s with dev := { s.dev with command := source }, ord := { s.ord with lastSeq := lastSeq, last := responses, pairAcked := acked, availNext := avail } }
  | .tunables values next => { s with pat := { s.pat with tuned := values }, ord := { s.ord with tuneNext := next } }
  | .conditions base since expired joyAt =>
    let own := s.freezeEl
    let t := (List.range 10).foldl (fun (u : State) n => u.setFlag (bitAt A_CTL_DEGR n) (afind since n).isSome) s
    { t with dev := { t.dev with
      condSince := since.map (fun e => (e.1, shiftStamp own base e.2)), expired := expired, joyAt := shiftStamp own base joyAt } }
  | .fusion base fus => { s with fus := fus.shift s.freezeEl base }
  | .control base ctl => { s with ctl := { ctl.shift s.freezeEl base with capture := s.ctl.capture, samples := s.ctl.samples } }
  | .allocation base alc => { s with alc := alc.shift s.freezeEl base }
  | .mould id block =>
    match afind s.slv.moulds id with
    | some m =>
      let live := block.foldl (fun (a : Sparse 32) e => memSet zeroCell a e.1 e.2) m.live
      { s with slv := { s.slv with moulds := aset s.slv.moulds id { m with live := live } } }
    | none => s
  | .warm record => s.xchgWrite warmOfs record
  | .gnss base aiding checks => { s with gns := { s.gns with aiding := aiding.shift s.freezeEl base, chk := checks } }
  | .formation epoch units => { s with elk := { s.elk with epoch := epoch, units := units } }

/-- STATE (R301): written directly into place. -/
def execStateFrame (header : TwinHeader) (chunk : TwinChunk) (s : State) : Host.Outcome State Fault Refusal :=
  .next (s.onFrame 0 header (fun t => if t.twn.requested && !t.inStep then t.applyChunk chunk else t))

/-- R301: the transfer failed and is repeated at the following pour. -/
def State.syncFails (s : State) : State :=
  let t := (({ s with twn := { s.twn with copyDueBy := none } }).event F_TWN_EVENT_SYNC_FAIL).raise 0x040B
  t.twinSend 2 .syncReq []

/-- SYNC_END (R301): with a matching CRC the device joins at the next freeze. [Log 67, DEDUCED, unsafe] -/
def execSyncEndFrame (header : TwinHeader) (epoch : Nat) (crcOk : Bool) (s : State) : Host.Outcome State Fault Refusal :=
  .next (s.onFrame 0 header (fun t =>
    if !t.twn.requested || t.inStep then t
    else if crcOk then { t with twn := { t.twn with joining := some (epoch + 1), copyDueBy := none } }
    else t.syncFails))

/-- SYNC_END_TIMEOUT (R301): SYNC_END has not arrived by pour + 1.8 ms. -/
def execSyncEndTimeout (s : State) : Host.Outcome State Fault Refusal :=
  .next (match s.twn.copyDueBy with
    | some e => (s.reachEl e).syncFails
    | none => s)

end Sys2Proof.Machine
end

