-- ==== Sys2Proof/Machine/Agreement.lean ====
section
/-! DEFINITION. Input agreement (R278 to R284, R535): the digest of a set, the ticks of R281, and what an agreed set gives the cycle. -/
namespace Sys2Proof.Machine

/-- R280: the order of items: completion stamp, SOURCE, arrival count. -/
def itemBefore (a b : Item) : Bool :=
  if a.last != b.last then a.last < b.last
  else if itemSource a != itemSource b then itemSource a < itemSource b
  else a.arrival < b.arrival

/-- Insert an item into an ordered set. -/
def insertItem (i : Item) : List Item → List Item
  | [] => [i]
  | a :: l => if itemBefore i a then i :: a :: l else a :: insertItem i l

/-- R280: a set in its order. -/
def orderItems (l : List Item) : List Item := l.foldl (fun a i => insertItem i a) []

/-- R279: the 32-byte header of an item and its data. [Log 89, DESIGN CHOICE, unsafe] -/
def itemBytes32 (i : Item) : List Byte :=
  natBytes (itemSource i) 2 ++ natBytes i.epoch 4 ++ natBytes i.last 8 ++ natBytes i.first 8 ++ natBytes (4 * i.data.length) 2 ++
  natBytes 0 1 ++ natBytes (fragmentCount i.data) 1 ++ natBytes i.arrival 4 ++ natBytes 0 2 ++ wordsBytes i.data

/-- R280: the digest of a set. [Log 89, DESIGN CHOICE, unsafe] -/
def setDigest (l : List Item) : Word := crc32c ((orderItems l).flatMap itemBytes32)

/-- The items of a list that belong to the present cycle. -/
def State.ofEpoch (s : State) (l : List Item) : List Item := l.filter (fun i => i.epoch == s.dev.stateEp)

/-- The partner's items of the present cycle that have arrived. -/
def State.theirSet (s : State) : List Item := s.ofEpoch s.agr.theirs

/-- The newest item of a side, class and number in the agreed set. -/
def State.agreedItem (s : State) (side : Side) (cls num : Nat) : Option Item :=
  (s.agr.agreed.filter (fun i => i.side == side && i.cls == cls && i.num == num)).getLast?

/-- R488: a health report shows THROTTLE_C below 127. -/
def throttledReport (r : List Word) : Bool := !r.isEmpty && bits (nthW r 4) 23 16 < 127

/-- R92, R488, R305: condition 6, and the agreed reports. A side whose report is absent keeps its last one. -/
def State.takeReports (s : State) : State :=
  let get (side : Side) (old : List Word) : List Word := match s.agreedItem side 5 0 with
    | some i => i.data
    | none => old
  let r := { s with twn := { s.twn with copeReport := get .cope s.twn.copeReport, dragReport := get .drag s.twn.dragReport } }
  let t := r.setCond 6 (throttledReport r.twn.copeReport || throttledReport r.twn.dragReport)
  let peer := otherSide s.pins.side
  match s.agreedItem peer 5 0 with
  | some i =>
    (({ t with twn := { t.twn with peerMissing := 0 } }).setFld F_TWN_STATUS_PEER_STATE (bits (nthW i.data 1) 15 8)).setRegs (A_TWN_HLT_PEER 0)
      (padWords 64 i.data)
  | none => { t with twn := { t.twn with peerMissing := t.twn.peerMissing + 1 } }

/-- R355, R92: the time status of the lead side, and condition 5. -/
def State.takeTimeStatus (s : State) : State :=
  match s.agreedItem s.leadSide 5 1 with
  | some i => ({ s with twn := { s.twn with timeStatus := i.data } }).setCond 5 (fieldOf (nthW i.data 0) F_TSU_STATUS_HOLDOVER == 1)
  | none => s

/-- R321: the brake status item: applied brakes, the state codes and the stuck switches of the eight channels. -/
def State.brakeItem (s : State) : List Word :=
  toWord (s.fld F_SAF_STATUS_BRK_APPLIED) :: (List.range 8).map (fun n => toWord (s.brakeCode n)) ++ (List.range 8).map (fun n => toWord (s.brake n).degr)

/-- R321, R459: brake status of both sides: condition 3 on both twins, and the applied brakes of the image. -/
def State.takeBrakes (s : State) : State :=
  let note (t : State) (side : Side) : State := match t.agreedItem side 5 2 with
    | some i =>
      let u := { t with twn := { t.twn with brakeMasks := aset t.twn.brakeMasks (sideCode side) (nthW i.data 0).toNat } }
      if side = u.pins.side then u else { u with twn := { u.twn with peerBrakes := i.data.drop 1 } }
    | none => t
  let u := note (note s .cope) .drag
  u.setCond 3 (u.peerDegraded || (List.range 8).any (fun n => (u.brake n).degr != 0))

/-- R82, R86: evaluate an order that waited for its cycle. -/
def State.runOrder (s : State) (w : WaitingOrder) : State :=
  match w.code with
  | 0x01 => s.engageOrder w.order
  | 0x02 => s.disengageOrder w.order
  | 0x03 => s.transferOrder w.order
  | 0x04 => s.setModeOrder w.order
  | 0x05 => s.setPointOrder w.order
  | 0x06 => s.setTrackOrder w.order
  | 0x07 => s.setFollowRefOrder w.order
  | 0x08 => s.joystickOrder w.order
  | 0x09 => s.takeCommandOrder w.order
  | 0x0A => s.thrusterAvailOrder w.order
  | 0x0B => s.sensorReturnOrder w.order
  | 0x0C => s.tunableOrder w.order
  | 0x0D => if nthW w.order.args 0 == 2#32 then s.testStartInjectionOrder w.order else s.testStartBrakeOrder w.order
  | 0x0E => s.testStopOrder w.order
  | 0x0F => s.parkOrder w.order
  | 0x10 => s.unparkOrder w.order
  | 0x11 => s.safeOrder w.order
  | 0x12 => s.resetOrder w.order
  | 0x13 => s.alarmAckOrder w.order
  | c => s.unknownOrder w.order c

/-- R82: the agreed order of two orders: by time stamp, then by source number. -/
def orderBefore (a b : WaitingOrder) : Bool :=
  if a.order.stamp != b.order.stamp then a.order.stamp < b.order.stamp else a.order.source < b.order.source

/-- Insert an order into a list in the agreed order, after those equal to it. -/
def insertOrder (w : WaitingOrder) : List WaitingOrder → List WaitingOrder
  | [] => [w]
  | a :: l => if orderBefore w a then w :: a :: l else a :: insertOrder w l

/-- R82: a waiting order belongs to the present cycle or an earlier one. -/
def State.orderDue (s : State) (w : WaitingOrder) : Bool := s.epochOf w.order.stamp ≤ s.dev.stateEp

/-- R82: the orders that waited for the present cycle are evaluated, in the agreed order. [Log 97, DESIGN CHOICE, unsafe] -/
def State.runWaiting (s : State) : State :=
  ((s.ord.waiting.filter s.orderDue).foldl (fun l w => insertOrder w l) []).foldl State.runOrder
    { s with ord := { s.ord with waiting := s.ord.waiting.filter (fun w => !s.orderDue w) } }

/-- R281, R284: what an agreed set gives the cycle before its first step. -/
def State.agreementEnds (s : State) : State :=
  let t := (((s.takeReports.takeTimeStatus).takeBrakes).stepDone 1).answerUnknown.runWaiting
  let u := if t.formOn then t.mergeSets else t
  u.plantInputs (u.fullCycle && u.dev.freezes == 1)

/-- R281: the cycle's set is decided. -/
def State.settleSet (s : State) (l : List Item) : State :=
  ({ s with agr := { s.agr with agreed := orderItems l, decided := true } }).agreementEnds

/-- R284: the device uses only its own items, as fixed at 1.440 ms. -/
def State.useOwn (s : State) : State :=
  if s.agr.decided then s
  else
    let own := if s.agr.closed then s.agr.ownSet else s.ofEpoch s.agr.own
    ({ s with agr := { s.agr with ownSet := own, closed := true } }).settleSet own

/-- R282: a side is left out of the cycle's set. -/
def State.excluded (s : State) (side : Side) : State :=
  ((s.bump (word32 A_TWN_CNT_EXCL)).event F_TWN_EVENT_EXCLUDED).raise 0x0405 (pay [sideCode side])

/-- The device runs a cycle whose set is not decided. -/
def State.undecided (s : State) : Bool := s.dev.cycling && 0 < s.dev.freezes && !s.agr.decided

/-- R112: the measurement block of the epoch is not complete, so it is left out of the cycle's input set. -/
def State.blockLate (s : State) : Bool := !s.gns.block.isEmpty && !s.gns.blockDone

/-- CLOSE_TICK (R281, R284): the device fixes its own items; in step it sends CLOSE, otherwise they are the agreed set. -/
def execCloseTick (s : State) : Host.Outcome State Fault Refusal :=
  .next (if s.undecided && !s.agr.closed then
    let r := s.reach (s.dev.freezeAt + 1440000)
    let t := if r.blockLate then r.raise 0x1111 else r
    let own := t.ofEpoch t.agr.own
    let u := { t with agr := { t.agr with closed := true, ownSet := own } }
    if u.inStep then u.twinSend 1 .close [(u.dev.stateEp : Int), (own.length : Int), ((setDigest own).toNat : Int)] else u.useOwn
    else s)

/-- R281: the other side's CLOSE and every item it lists have arrived. -/
def State.otherComplete (s : State) : Bool :=
  match s.agr.closeRx with
  | some (e, n, d) => e == s.dev.stateEp && n == s.theirSet.length && d == setDigest s.theirSet
  | none => false

/-- AGREE_DECIDE (R281, R282): the lead side decides. -/
def execAgreeDecide (s : State) : Host.Outcome State Fault Refusal :=
  .next (if s.undecided && s.inStep && s.isLead && s.agr.closed then
    let t := s.reach (s.dev.freezeAt + 1470000)
    let inc := t.otherComplete
    let l := t.agr.ownSet ++ (if inc then t.theirSet else [])
    let cope := inc || t.pins.side == .cope
    let drag := inc || t.pins.side == .drag
    let u := t.twinSend 1 .agree [(t.dev.stateEp : Int), (bit cope + 2 * bit drag : Nat), ((setDigest l).toNat : Int)]
    let v := if inc then u else u.excluded (otherSide u.pins.side)
    v.settleSet l
    else s)

/-- CLOSE (R281, R283): one for a different state epoch makes a device leave step. -/
def execCloseFrame (header : TwinHeader) (epoch count : Nat) (digest : Word) (s : State) : Host.Outcome State Fault Refusal :=
  .next (s.onFrame 1 header (fun t =>
    if t.inStep then
      if epoch = t.dev.stateEp then { t with agr := { t.agr with closeRx := some (epoch, count, digest) } } else t.leaveStep 2 0
    else t))

/-- AGREE (R281, R283). -/
def execAgreeFrame (header : TwinHeader) (epoch : Nat) (cope drag : Bool) (digest : Word) (s : State) : Host.Outcome State Fault Refusal :=
  .next (s.onFrame 1 header (fun t =>
    if t.inStep then
      if epoch = t.dev.stateEp then { t with agr := { t.agr with agreeRx := some (epoch, cope, drag, digest) } } else t.leaveStep 2 0
    else t))

/-- R281: the set that an AGREE includes, from the items this side holds. -/
def State.includedSet (s : State) (cope drag : Bool) : List Item :=
  let own := if s.pins.side = .cope then cope else drag
  let other := if s.pins.side = .cope then drag else cope
  (if own then s.agr.ownSet else []) ++ (if other then s.theirSet else [])

/-- R283: a device without an agreed set at 1.500 ms. -/
def State.agreementLate (s : State) : State := ((s.raise 0x0006 (pay [1])).leaveStep 6 0).useOwn

/-- AGREE_CHECK (R281 to R283). -/
def execAgreeCheck (s : State) : Host.Outcome State Fault Refusal :=
  .next (if s.undecided && s.agr.closed then
    let t := s.reach (s.dev.freezeAt + 1500000)
    if !t.inStep then t.useOwn
    else if t.isLead then t.agreementLate
    else match t.agr.agreeRx with
      | some (_, cope, drag, d) =>
        let l := t.includedSet cope drag
        if setDigest l = d then
          let u := if cope then t else t.excluded .cope
          (if drag then u else u.excluded .drag).settleSet l
        else (t.leaveStep 1 0).useOwn
      | none => (t.leaveStep 1 0).useOwn
    else s)

end Sys2Proof.Machine
end

