-- ==== Sys2Proof/Machine/Apps.lean ====
section
/-! DEFINITION. The application cores as the device's own rules touch them (R431, R433): their code in APPM, their start and their reset. -/
namespace Sys2Proof.Machine

/-- R433: a segment of the APPCODE blob. `owner` has bit 0 for APP0 and bit 1 for APP1. -/
structure Segment where
  load : Nat
  fileOfs : Nat
  fileLen : Nat
  memLen : Nat
  owner : Nat
  deriving DecidableEq, Repr

/-- The number at offset `o` of a blob: four bytes, little-endian. -/
def blobWord (b : List Byte) (o : Nat) : Nat := leNat ((b.drop o).take 4)

/-- R433: segment `k` of an APPCODE blob. -/
def segmentOf (b : List Byte) (k : Nat) : Segment :=
  let o := 0x20 + 16 * k
  let m := blobWord b (o + 12)
  ⟨blobWord b o, blobWord b (o + 4), blobWord b (o + 8), m % 268435456, m / 1073741824⟩

/-- R433: the segments of an APPCODE blob. -/
def segmentsOf (b : List Byte) : List Segment := (List.range (blobWord b 0x10)).map (segmentOf b)

/-- R433: an APPCODE blob keeps its layout: its magic and format, 1 to 16 segments, each within APPM and within the blob. -/
def appcodeOk (b : List Byte) : Bool :=
  blobWord b 0 == 0x43505041 && blobWord b 4 % 65536 == 1 && 1 ≤ blobWord b 0x10 && blobWord b 0x10 ≤ 16 &&
  ((b.drop 0x14).take 12).all (· == 0#8) &&
  (segmentsOf b).all (fun g => g.fileLen ≤ g.memLen && appmBase ≤ g.load && g.load + g.memLen ≤ appmBase + 0x800000 &&
    g.fileOfs + g.fileLen ≤ b.length)

/-- R433: copy a segment to its place and fill the rest of it with zero. -/
def State.loadSegment (s : State) (b : List Byte) (g : Segment) : State :=
  let bytes := (b.drop g.fileOfs).take g.fileLen ++ List.replicate (g.memLen - g.fileLen) 0#8
  { s with appm := memSetRun zeroCell 1 s.appm g.load bytes }

/-- R433, boot step 8: load every segment. -/
def State.loadApps (s : State) : State := (segmentsOf s.pat.appcode).foldl (fun t g => t.loadSegment s.pat.appcode g) s

/-- R433: core `c` starts in machine mode at its ENTRY; its target leaves reset. [Log 70, DEDUCED, unsafe] -/
def State.startApp (s : State) (c : Nat) : State :=
  let pc := blobWord s.pat.appcode (8 + 4 * c)
  let t := { s with apps := setNth s.apps c (fun a => { a with running := true, pc := pc, started := a.started + 1 }) }
  t.setTarget c (fun g => { g with inReset := false })

/-- R433, boot step 9: each core whose FLAGS bit is 1 starts. [Log 71, DEDUCED, safe] -/
def State.startApps (s : State) : State :=
  s.each ((List.range 2).filter (fun c => tbit (blobWord s.pat.appcode 6 % 65536) c)) State.startApp

/-- R64, R425, R433: a reset of core `c` through KPR_APPCTL reaches its interrupt target, whose registers and claim stack return to their
reset values, reloads the segments that it owns alone and restarts it. Without APPCODE there is nothing to restart. [Log 70, DEDUCED, unsafe] -/
def State.resetApp (s : State) (c : Nat) : State :=
  let t := (((s.setReg (A_INTC_T_MOD c) (resetWord (A_INTC_T_MOD c))).setReg (A_INTC_T_CTRL c) 0#32).setReg (A_INTC_T_MTIMECMP_LO c)
    (resetWord (A_INTC_T_MTIMECMP_LO c))).setReg (A_INTC_T_MTIMECMP_HI c) (resetWord (A_INTC_T_MTIMECMP_HI c))
  let u := ((t.setReg (A_INTC_T_MSIP c) 0#32).setTarget c (fun _ => { inReset := true })).settleSources
  let v := { u with apps := setNth u.apps c (fun a => { a with running := false }) }
  if v.pat.appcode.isEmpty then v.updateTimers
  else
    let own := (segmentsOf v.pat.appcode).filter (fun g => g.owner == 2 ^ c)
    (((own.foldl (fun t g => t.loadSegment v.pat.appcode g) v).startApp c).settleSources).updateTimers

/-- R433: a write of KPR_APPCTL. -/
def State.appctlWrite (s : State) (v : Word) : State := s.each ((List.range 2).filter (tbit v.toNat)) State.resetApp

/-- APP0_RST (R433): a write of 1 to KPR_APPCTL.APP0_RST. [Log 70, DEDUCED, unsafe] -/
def execApp0Rst (master : Nat) (s : State) : Host.Outcome State Fault Refusal :=
  .next (s.commandWrite master A_KPR_APPCTL 1#32 (fun t => t.resetApp 0))

/-- APP1_RST (R433): a write of 1 to KPR_APPCTL.APP1_RST. -/
def execApp1Rst (master : Nat) (s : State) : Host.Outcome State Fault Refusal :=
  .next (s.commandWrite master A_KPR_APPCTL 2#32 (fun t => t.resetApp 1))

end Sys2Proof.Machine
end

