-- ==== Sys2Proof/Machine/Arbitration.lean ====
section
/-! DEFINITION. Output comparison (R287), the plausibility verdict (R312, R313), arbitration (R288 to R290) and the lease gate of a pour (R310, R311). -/
namespace Sys2Proof.Machine

/-- R287: what this device's COMPARE carries. -/
def State.formCompare (s : State) : CompareMsg :=
  let t := s.preview
  ⟨s.dev.stateEp, (List.range 32).map (fun n => t.reg (A_CTL_THR_CMD n)), (List.range 32).map (fun n => t.reg (A_CTL_THR_ANG n)),
   comparedDigest s.backBuffer⟩

/-- R287: build the compared part of the image, and send COMPARE in step. -/
def State.compareOutputs (s : State) : State :=
  let t := s.buildImage
  if t.inStep then
    let m := t.formCompare
    ({ t with twn := { t.twn with ownCompare := some m } }).twinSend 2 .compare ((m.epoch : Int) :: wordData (m.thrust ++ m.angle ++ [m.digest]))
  else t

/-- OUTPUT_COMPARISON (R287): at the end of the allocation window. -/
def execOutputComparison (s : State) : Host.Outcome State Fault Refusal :=
  .next (if s.stepOpen 5 then ((s.reach (s.windowEnd 15000)).compareOutputs).stepDone 5 else s)

/-- R312, V2: the angle of an azimuth lies inside a forbidden zone. -/
def State.insideZone (s : State) (t : Nat) : Bool :=
  (List.range 4).any (fun k => match s.zone t k with
    | some (a, b) => let d := turnCw a (s.thr t).angle; 0 < d && d < turnCw a b
    | none => false)

/-- R312, V2: the command of one thruster breaks a bound. The rate is checked against the previous pour with SAF_PL_MARGIN. -/
def State.breaksBounds (s : State) (t : Nat) : Bool :=
  let c := s.cmdThrust t
  let d := (c - nthI s.saf.prevThrust t).natAbs
  (s.tFwd t : Int) < c || c < -(s.tRev t : Int) || ((s.thrType t == 2 || s.thrType t == 3) && c < 0) || (!(s.thr t).avail && c != 0) ||
  ((s.thrType t == 2 || s.thrType t == 3) && s.insideZone t) ||
  (s.thrW t 5).toNat * s.periodMs * (100 + (s.safPar 0x1009).toNat) < 100000 * d

/-- R312: the resultant of the commands in axis `a`, by the geometry of the thrust points. -/
def State.resultant (s : State) (a : Nat) : Rat :=
  s.thrList.foldl (fun x t => x + (s.cmdThrust t : Rat) * (s.thrustAt t (s.thr t).angle).getD a 0) 0

/-- R312, V3: the resultant differs from τ₀ − s in an axis by more than SAF_PL_FORCE_TOL of LIM_TAU_MAX. [Log 89, DESIGN CHOICE, unsafe] -/
def State.resultantOff (s : State) : Bool :=
  (List.range 3).any (fun a =>
    let d := s.resultant a - ((nthI s.ctl.tau a - nthI s.alc.slack a : Int) : Rat)
    ((s.safPar 0x100A).toNat * s.par 0x0801 a : Nat) < 100 * (if d < 0 then -d else d))

/-- R312: the reduced vessel model, a diagonal mass and damping, driven SAF_PL_HORIZON_S ahead from the fused state with the observer's environmental force.
How the model is made discrete is open, as for R169. [Log 89, DESIGN CHOICE, unsafe] -/
def State.reducedModel (s : State) : Horizon :=
  let b := s.toBody (s.err 0) (s.err 1)
  { s.horizon (1000 * (s.safPar 0x100B).toNat) [b.1, b.2, s.err 2] ((List.range 3).map (fun a => s.pubVal (3 + a))) ((List.range 3).map (fun a => s.pubVal (12 + a))) with
    model := (List.range 3).map (fun i => s.parI 0x0201 (4 * i)) ++ (List.range 3).map (fun i => s.parI 0x0202 (4 * i)) }

/-- R312, V4: the predicted position error exceeds both the present error plus SAF_PL_DIVERGE_MM and the mode's footprint. Not in Joystick and not during dead
reckoning on position. -/
def State.diverges (s : State) : Bool :=
  let e := fun c => (roundRat (s.reducedModel.path (fun _ a => s.resultant a) 1 c)).natAbs
  let far := isqrt (e 0 * e 0 + e 1 * e 1)
  s.dev.mode != 6 && (s.quant 0).dr.isNone && isqrt s.posErr2 + 1000 * (s.safPar 0x100C).toNat < far && 1000 * s.posFoot < far

/-- R312: the failed checks as a mask: bit k is V(k + 1). [Log 89, DESIGN CHOICE, unsafe] -/
def State.failedChecks (s : State) (delivered : Bool) : Nat :=
  let sel := (s.safPar 0x1008).toNat
  if !delivered then 1
  else
    bit (s.thrList.any s.breaksBounds) * 2 +
    bit (tbit sel 0 && s.resultantOff) * 4 + bit (tbit sel 1 && s.diverges) * 8

/-- R313: a failed verdict is reported and counted; at the limit the S-die forces the global safe state. -/
def State.verdictFails (s : State) (checks : Nat) : State :=
  let n := s.fld F_SAF_STATUS_FAILCNT + 1
  let t := ((s.setReg A_SAF_VERDICT (BitVec.ofNat 32 (checks + 256 * (s.dev.stateEp % 16777216)))).event F_SAF_EVENT_VERDICT_FAIL).raise 0x0A02 (pay [checks])
  let u := (t.setFlag F_SAF_STATUS_VERDICT false).setFld F_SAF_STATUS_FAILCNT (Nat.min 7 n)
  let v := { u with saf := { u.saf with verdictPass := false } }
  if (v.safPar 0x100D).toNat ≤ n then v.globalSafe 3 else v

/-- R313: a passed verdict resets the count. -/
def State.verdictPasses (s : State) : State :=
  ({ s with saf := { s.saf with verdictPass := true } }.setFlag F_SAF_STATUS_VERDICT true).setFld F_SAF_STATUS_FAILCNT 0

/-- R287: both COMPAREs are present and equal. -/
def State.outputsEqual (s : State) : Bool :=
  match s.twn.ownCompare, s.twn.peerCompare with
  | some a, some b => a == b
  | _, _ => false

/-- R312, R288: form the verdict and send VERDICT in step. -/
def State.formVerdict (s : State) (delivered : Bool) : State :=
  let checks := s.failedChecks delivered
  let t := if checks = 0 then s.verdictPasses else s.verdictFails checks
  let m : VerdictMsg := ⟨checks == 0, t.outputsEqual, t.twn.selfL, t.twn.selfE, t.twn.selfS, checks⟩
  let u := { t with twn := { t.twn with ownVerdict := some m } }
  if u.inStep then
    u.twinSend 3 .verdict [(bit m.pass : Int), (bit m.equal : Int), (bit m.lockstep : Int), (bit m.ecc : Int), (bit m.solver : Int), (m.checks : Int)]
  else u

/-- VERDICT_FORMATION (R312, R313): at pour − 0.5 ms. `delivered`: the hand-over was complete in time and its CRC matched. -/
def execVerdictFormation (delivered : Bool) (s : State) : Host.Outcome State Fault Refusal :=
  .next (if s.stepOpen 6 then ((s.reach (s.dev.pourAt - 500000)).formVerdict delivered).stepDone 6 else s)

/-- R288: F of a verdict. -/
def verdictBad (v : VerdictMsg) : Bool := v.lockstep || v.ecc || v.solver

/-- R288: the row of the arbitration table. `own` is this side's verdict, `peer` the other's; `lead`: this device is H. [Log 88, DEDUCED, unsafe] -/
def arbitrationRow (lead same : Bool) (own peer : VerdictMsg) : Nat :=
  let h := if lead then own else peer
  let t := if lead then peer else own
  if verdictBad h && verdictBad t then 2 else if verdictBad h then 3 else if verdictBad t then 4
  else if !h.pass && t.pass then 5 else if h.pass && !t.pass then 6 else if !h.pass && !t.pass then 7
  else if !same then 8 else 9

/-- R288: the row that applies in this cycle; row 1 when this device lacks the other's COMPARE or VERDICT. -/
def State.arbRowNow (s : State) : Nat :=
  match s.twn.peerCompare, s.twn.peerVerdict, s.twn.ownVerdict with
  | some _, some p, some o => arbitrationRow s.isLead s.outputsEqual o p
  | _, _, _ => 1

/-- R288: T leaves step: this device does, when it is T; H takes it as not in step. [Log 88, DEDUCED, unsafe] -/
def State.otherSideLeaves (s : State) (row : Nat) : State :=
  if s.isLead then s.partnerLeft else s.leaveStep (if row = 1 then 5 else 3) row

/-- R288, R289: hand-over, or, without a holder, Cope leaves step. -/
def State.arbHandOver (s : State) (row : Nat) : State :=
  if s.holds then s.handOver row
  else if s.holderSide.isNone then (if s.pins.side = .cope then s.leaveStep 3 row else s.partnerLeft)
  else s

/-- R288: row 2: H pours its previous commands again; twice in a row it enters SAFE. -/
def State.row2 (s : State) : State :=
  let again := s.twn.row2Before
  let lead := s.isLead
  let t := (s.otherSideLeaves 2)
  let u := { t with twn := { t.twn with row2Before := true } }
  if !lead then u
  else if again then (if u.holds then u.dropToArmed else u).enterSafe
  else { u with twn := { u.twn with repeatPour := true } }

/-- R290: an unexplained mismatch counts for one hour. -/
def State.noteUnexplained (s : State) : State :=
  let l := (s.twn.unexplained.filter (fun t => s.tim.el < t + 3600 * sec)) ++ [s.tim.el]
  let t := { s with twn := { s.twn with unexplained := l } }
  if t.par 0x0908 ≤ l.length then t.raise 0x040C else t

/-- R288: the outcome of a row. [Log 88, DEDUCED, unsafe] -/
def State.applyRow (s : State) (row : Nat) : State :=
  let t := if row = 2 then s else { s with twn := { s.twn with row2Before := false } }
  match row with
  | 1 => t.otherSideLeaves 1
  | 2 => t.row2
  | 3 => t.arbHandOver 3
  | 4 => t.otherSideLeaves 4
  | 5 => t.arbHandOver 5
  | 6 => if t.outputsEqual then t else t.otherSideLeaves 6
  | 8 => t.noteUnexplained.otherSideLeaves 8
  | _ => t

/-- R288: apply the table in step. [Log 14, DEDUCED, unsafe] -/
def State.arbitrate (s : State) : State :=
  if s.inStep then
    let row := s.arbRowNow
    let bad := s.twn.peerCompare.isSome && s.twn.ownCompare.isSome && !s.outputsEqual
    let t := if bad then (s.bump (word32 A_TWN_CNT_MISM)).event F_TWN_EVENT_MISMATCH else s
    let u := { t with twn := { t.twn with arbRow := row } }
    let v := if row = 9 then u
      else (u.setReg A_TWN_ARB (BitVec.ofNat 32 (u.dev.stateEp % 16777216 + 16777216 * row))).raise 0x0407 (pay [row])
    v.applyRow row
  else { s with twn := { s.twn with arbRow := 0, row2Before := false } }

/-- R310, R311, R313: the lease gate of the pour. A failed verdict that caused no hand-over withholds it. -/
def State.gateForPour (s : State) : State :=
  if !s.holds || s.saf.leaseFrom.isNone || s.inSafe then s.setGate gateClosed
  else if s.saf.verdictPass then s.setGate gateOpen
  else ((s.setGate gateHold).event F_SAF_EVENT_WITHHELD).raise 0x0A03

/-- R288: the S-die and the C-die at pour − 0.2 ms. -/
def State.arbitrationWork (s : State) : State := s.arbitrate.gateForPour

end Sys2Proof.Machine
end

