-- ==== Sys2Proof/Machine/LoopEngine.lean ====
section
/-! DEFINITION. The loop engine (R194 to R200). The discretisation of its two first-order lags is a computation of `Config.calc`; everything else is exact. -/
namespace Sys2Proof.Machine

/-- R201: word `k` of the record of slot `n`, tuned values included. -/
def State.loopW (s : State) (n k : Nat) : Word := s.parW (0x0F40 + n) k

/-- Slot `n`. -/
def State.loop (s : State) (n : Nat) : LoopSlot := aget {} s.loops n

/-- Change slot `n`. -/
def State.setLoop (s : State) (n : Nat) (f : LoopSlot → LoopSlot) : State := { s with loops := aset s.loops n (f (s.loop n)) }

/-- The slot is enabled. -/
def State.loopOn (s : State) (n : Nat) : Bool := n < 64 && bits (s.loopW n 0) 0 0 == 1 && s.fch.ready
def State.loopIn (s : State) (n : Nat) : Nat := bits (s.loopW n 0) 10 4
def State.loopCan (s : State) (n : Nat) : Bool := bits (s.loopW n 0) 11 11 == 1
def State.loopOutCh (s : State) (n : Nat) : Nat := bits (s.loopW n 0) 18 12
def State.loopThr (s : State) (n : Nat) : Nat := bits (s.loopW n 0) 24 20
def State.loopActs (s : State) (n : Nat) : Bool := bits (s.loopW n 0) 25 25 == 1

/-- R194: the period of slot `n` in µs. -/
def State.loopPeriod (s : State) (n : Nat) : Nat := nth [500, 1000, 2000, 2500, 4000, 5000, 10000, 20000] (bits (s.loopW n 0) 3 1)

/-- R196: a sum saturates at ±128. -/
def q24Sat (x : Int) : Int := clampI q24Lo q24Hi x

/-- R196: a product of two Q8.24 values, rounded to the nearest, ties away from zero. -/
def q24Mul (a b : Int) : Int := q24Sat (roundDiv (a * b) 16777216)

/-- R196: a product of two Q8.24 values and a time in µs, as seconds. -/
def q24MulT (a b : Int) (us : Nat) : Int := q24Sat (roundDiv (a * b * us) (16777216 * 1000000))

/-- R195: the set-point of slot `n`: the fixed word, or the command that the last pour gave its thruster as a fraction of full scale. [Log 54, DESIGN CHOICE, safe] -/
def State.loopSp (s : State) (n : Nat) : Int :=
  if bits (s.loopW n 0) 19 19 = 1 then (s.loopW n 13).toInt
  else
    let t := s.loopThr n
    let x := (s.thr t).prevThrust
    roundDiv (x * q24One) (Nat.max 1 (if 0 ≤ x then s.tFwd t else s.tRev t))

/-- R195: the feedback of slot `n`. -/
def State.loopFb (s : State) (n : Nat) : Int :=
  q24Sat (q24Mul (s.loopW n 8).toInt (s.int (F_FCH_PU_VALUE (s.loopIn n))) + (s.loopW n 9).toInt)

/-- R197: the read-back of the slot's own output line. -/
def State.loopRb (s : State) (n : Nat) : Int :=
  if s.loopCan n then
    match afind s.can.readback (s.loopOutCh n) with
    | some (_, d) =>
      let a := (d.getD 6 0#8).toNat + 256 * (d.getD 7 0#8).toNat
      roundDiv ((if 32768 ≤ a then (a : Int) - 65536 else a) * q24One) 32767
    | none => 0
  else s.int (F_FCH_RB_PU (s.loopOutCh n))

/-- R197: the slot drives. [Log 54, DESIGN CHOICE, safe] -/
def State.loopDriving (s : State) : Bool := s.holds && s.fld F_SAF_STATUS_GATE != gateClosed

/-- R199: the slot fault bits. -/
def State.loopFaulty (s : State) (n : Nat) : Bool := (s.loop n).feFault || (s.loop n).plFault || (s.loop n).chFault

/-- Show the FAULT bit of slot `n`. -/
def State.showLoop (s : State) (n : Nat) : State := s.setFlag (maskBit A_LOOP_FAULT0 n) (s.loopFaulty n)

/-- R200: what a slot fault does on the device that holds the Ladle. -/
def State.loopFaultAction (s : State) (n : Nat) : State :=
  if s.holds && s.loopActs n && (s.loop n).halted = 0 then
    (s.setLoop n (fun l => { l with halted := 1 })).ownItem 5 (16 + n) s.tim.wt s.tim.wt [toWord (s.loopThr n)]
  else s

/-- R534: the loop alarms whose causes have cleared. -/
def State.loopCauses (s : State) : State :=
  let a := if s.loops.all (fun e => !e.2.feFault) then s.causeGone 0x1401 else s
  let b := if a.loops.all (fun e => !e.2.plFault) then a.causeGone 0x1402 else a
  if b.loops.all (fun e => !e.2.chFault) then b.causeGone 0x1403 else b

/-- R199: the feedback channel reports wire break or short. -/
def State.loopChannel (s : State) (n : Nat) : State :=
  let bad := s.flag (F_FCH_STATUS_WIRE_BREAK (s.loopIn n)) || s.flag (F_FCH_STATUS_SHORT (s.loopIn n))
  let was := (s.loop n).chFault
  let t := s.setLoop n (fun l => { l with chFault := bad })
  if bad && !was then ((t.event F_LOOP_EVENT_CH_FAULT).raise 0x1403 (pay [n])).loopFaultAction n else t

/-- R199: a difference in Q8.24 exceeds a limit in 0.01 %. -/
def loopBeyond (d : Int) (lim : Nat) : Bool := lim * 16777216 < 10000 * d.natAbs

/-- R199: start or stop the timers of the following-error and plausibility tests. -/
def State.loopTests (s : State) (n : Nat) (e pl : Int) (driving : Bool) : State :=
  let supv := s.loopW n 10
  let times := s.loopW n 11
  let fe := driving && bits times 15 0 != 0 && loopBeyond e (bits supv 15 0)
  let p := driving && bits times 31 16 != 0 && loopBeyond pl (bits supv 31 16)
  s.setLoop n (fun l => { l with
    fe := if fe then some (l.fe.getD s.tim.el) else none,
    pl := if p then some (l.pl.getD s.tim.el) else none,
    feFault := l.feFault && fe,
    plFault := l.plFault && p })

/-- R196: the output of a driven sample: limited by the bounds, then by the rate. -/
def State.loopLimit (s : State) (n : Nat) (u : Int) : Int :=
  let ts := s.loopPeriod n
  let step := q24MulT (s.loopW n 7).toInt q24One ts
  let p := (s.loop n).uPrev
  clampI (q24Sat (p - step)) (q24Sat (p + step)) (clampI (s.loopW n 5).toInt (s.loopW n 6).toInt u)

/-- R196, R197: put the output of a driven sample on the slot's line. [Log 54, DESIGN CHOICE, safe] -/
def State.loopDrive (s : State) (n : Nat) (u : Int) : State :=
  if s.loopCan n then
    let o := s.loopOutCh n
    if s.fld F_SAF_STATUS_GATE = gateOpen then
      s.objSend (s.objChan o) o (s.objBytes (s.loop n).samples (s.thr (s.loopThr n)).avail (can16 u 16777216) none)
    else s
  else s.driveField (s.loopOutCh n) u

/-- R200: a halted slot runs again once its thruster has become unavailable and then available. [Log 54, DESIGN CHOICE, safe] -/
def haltAfter (avail : Bool) : Nat → Nat
  | 0 => 0
  | 1 => if avail then 1 else 2
  | _ => if avail then 0 else 2

/-- R195 to R199: one sample of slot `n`. [Log 54, DESIGN CHOICE, safe] -/
def State.loopStep (s0 : State) (n : Nat) : State :=
  let s := s0.setLoop n (fun l => { l with samples := l.samples + 1, lastAt := s0.tim.wt, halted := haltAfter (s0.thr (s0.loopThr n)).avail l.halted })
  let l := s.loop n
  let ts := s.loopPeriod n
  let w := fun k => (s.loopW n k).toInt
  let sp := s.loopSp n
  let fb := s.loopFb n
  let e := q24Sat (sp - fb)
  let slope := q24Sat (roundDiv ((l.fbPrev - fb) * 1000000) (Nat.max 1 ts))
  let df := q24Sat (Config.calc .loop [l.df, slope, (ts : Int)] 0)
  let iTry := q24Sat (l.i + q24MulT (w 2) e ts)
  let base := q24Sat (q24Mul (w 4) sp + q24Mul (w 1) e)
  let rest := q24Sat (base + q24Mul (w 3) df)
  let u := q24Sat (q24Sat (base + iTry) + q24Mul (w 3) df)
  let driving := s.loopDriving
  let stopped := driving && l.halted != 0
  let lim := if stopped then clampI (w 5) (w 6) 0 else s.loopLimit n u
  let out := if driving then lim else s.loopRb n
  let i := if !driving then q24Sat (out - rest) else if stopped then l.i else if lim = u then iTry else l.i
  let lag := q24Sat (Config.calc .loop [l.lag, out, (ts : Int), (bits (s.loopW n 12) 15 0 : Int)] 1)
  let s1 := s.setLoop n (fun k => { k with i := i, uPrev := out, fbPrev := fb, df := df, lag := lag })
  let s2 := (((s1.setInt (F_LOOP_SLOT_SP_VALUE n) sp).setInt (F_LOOP_SLOT_FB_VALUE n) fb).setInt (F_LOOP_SLOT_OUT_VALUE n) out).setFlag
    (maskBit A_LOOP_CLAMP0 n) (driving && out != u)
  let s3 := s2.setFlag (maskBit A_LOOP_DRIVE0 n) driving
  let s4 := (s3.loopTests n e (fb - lag) driving).loopChannel n
  ((if driving then s4.loopDrive n out else s4).showLoop n).loopCauses

/-- LOOP_SAMPLE (R194): samples, the first too, fall at whole multiples of the period, on which every freeze falls. [Log 54, DESIGN CHOICE, safe] -/
def execLoopSample (slot : Nat) (s : State) : Host.Outcome State Fault Refusal :=
  .next (
    if s.loopOn slot then
      let p := s.loopPeriod slot * 1000
      let next := if (s.loop slot).samples = 0 then (s.tim.wt + p - 1) / p * p else ((s.loop slot).lastAt / p + 1) * p
      (s.reach next).loopStep slot
    else s)

/-- LOOP_FOLLOWING_ERROR (R199): the following error has lasted FE_TIME. -/
def execLoopFollowingError (slot : Nat) (s : State) : Host.Outcome State Fault Refusal :=
  .next (match (s.loop slot).fe with
    | some a =>
      if (s.loop slot).feFault then s
      else
        let t := (s.reachEl (a + bits (s.loopW slot 11) 15 0 * ms)).setLoop slot (fun l => { l with feFault := true })
        (((t.event F_LOOP_EVENT_FE).raise 0x1401 (pay [slot])).loopFaultAction slot).showLoop slot
    | none => s)

/-- LOOP_PLAUSIBILITY (R199): the difference from the lag has lasted PL_TIME. -/
def execLoopPlausibility (slot : Nat) (s : State) : Host.Outcome State Fault Refusal :=
  .next (match (s.loop slot).pl with
    | some a =>
      if (s.loop slot).plFault then s
      else
        let t := (s.reachEl (a + bits (s.loopW slot 11) 31 16 * ms)).setLoop slot (fun l => { l with plFault := true })
        (((t.event F_LOOP_EVENT_PL).raise 0x1402 (pay [slot])).loopFaultAction slot).showLoop slot
    | none => s)

/-- R201: show the records of the enabled slots; the first thirteen words stand in the slot registers, tuned values included. -/
def State.setupLoops (s : State) : State :=
  s.each ((List.range 64).filter (fun n => !(s.parGiven (0x0F40 + n)).isEmpty)) (fun t n =>
    t.setRegs (A_LOOP_SLOT_CFG n) ((List.range 13).map (t.loopW n)))

end Sys2Proof.Machine
end

