-- ==== Sys2Proof/Machine/Panel.lean ====
section
/-! DEFINITION. The annunciator panel (R501 to R508) and the operating-time counter (R494). -/
namespace Sys2Proof.Machine

/-- The shown image of group `g` (R508), three words. -/
def State.shown (s : State) (g : Nat) : List Word := padWords 3 (aget [] s.mram.shown g)

/-- R506: a new image for group `g`. -/
def State.newImage (s : State) (g : Nat) (img : List Word) : State :=
  if !s.ann.enabled then s
  else if (match s.ann.running with | some w => w.group == g | none => false) then
    { s with ann := { s.ann with held := aset s.ann.held g img } }
  else if img = s.shown g then { s with ann := { s.ann with pending := adel s.ann.pending g } }
  else { s with ann := { s.ann with pending := aset s.ann.pending g img } }

/-- R503: the lower edges of bands 0 to 7 and the upper edge of band 7, 0.1 °C. -/
def bandEdges : List Int := [-250, -100, 0, 100, 200, 300, 400, 550, 700]

/-- R503: the band of a temperature by the table alone. -/
def plainBand (t : Int) : Nat := ((List.range 7).filter (fun k => nthI bandEdges (k + 1) ≤ t)).length

/-- R503: the band that follows `b` at temperature `t`: left only 2 °C beyond its edge. -/
def nextBand (b : Nat) (t : Int) : Nat :=
  if t ≤ nthI bandEdges b - 20 || nthI bandEdges (b + 1) + 20 ≤ t then plainBand t else b

/-- R503: the display temperature: T_ref, or the engineering value of the field channel that ANN_TEMP_SRC names; an invalid channel counts as T_ref. [Log 77, DEDUCED, unsafe] -/
def State.displayTemp (s : State) : Int :=
  let n := s.par 0x1504 - 1
  if s.par 0x1504 = 0 || !s.flag (F_FCH_STATUS_VALID n) then s.int (word32 A_HLT_TREF) else s.engOf n (s.int (F_FCH_PU_VALUE n))

/-- R503: take a sample of the display temperature. [Log 77, DEDUCED, unsafe] -/
def State.sampleTemp (s : State) : State :=
  let t := s.displayTemp
  let u := (s.setInt F_ANN_TEMP_TEMP t).setFld F_ANN_STATUS_BAND (nextBand (s.fld F_ANN_STATUS_BAND) t)
  if t < -250 || 700 < t then (u.event F_ANN_EVENT_TEMP_EVT).raise 0x0D02 else u.causeGone 0x0D02

/-- R504: VLCD lies within ±3 % of the present band's value. -/
def State.vlcdGood (s : State) (mv : Nat) : Bool :=
  let v := 100 * s.par 0x1501 (s.fld F_ANN_STATUS_BAND)
  97 * v ≤ 100 * mv && 100 * mv ≤ 103 * v

/-- Level of segment `k` in an image. -/
def segLevel (img : List Word) (k : Nat) : Nat := bits (nthW img (k / 16)) (2 * (k % 16) + 1) (2 * (k % 16))

/-- R505: the longest selection, in ticks, of a waveform from one image to another. -/
def State.selectionTicks (s : State) (band : Nat) (prev next : List Word) : Nat :=
  (List.range 40).foldl (fun m k => Nat.max m (bits (s.parW 0x1503 (16 * band + 4 * segLevel prev k + segLevel next k)) 23 8)) 0

/-- ns in a display clock tick. -/
def tickNs : Nat := 10000

/-- R505, R508: start the waveform of group `g`: the group is marked dirty in MRAM first. -/
def State.startWaveform (s : State) (g : Nat) (img before : List Word) : State :=
  ({ s with mram := { s.mram with dirty := insertNew s.mram.dirty g },
            ann := { s.ann with vlcdAt := none, running := some ⟨g, s.fld F_ANN_STATUS_BAND, 0, img, before, s.tim.el⟩ } }).setFld F_ANN_STATUS_GROUP g

/-- R504: a group waits for its waveform, so that VLCD is required; the elapsed time of the requirement is kept. -/
def State.requireVlcd (s : State) : State :=
  if s.ann.vlcdAt.isNone && (s.ann.rewrite.isSome || !s.ann.pending.isEmpty) then { s with ann := { s.ann with vlcdAt := some s.tim.el } } else s

/-- WAVEFORM_START (R503 to R508). -/
def execWaveformStart (vlcdMv : Nat) (s : State) : Host.Outcome State Fault Refusal :=
  .next (if !s.ann.enabled || s.ann.running.isSome || !s.clk.vfld then s
    else
      let t := s.sampleTemp.setFld F_ANN_TEMP_VLCD vlcdMv
      let u := t.setFlag F_ANN_STATUS_VLCD_OK (t.vlcdGood vlcdMv)
      if u.ann.blocked || !u.vlcdGood vlcdMv then u.requireVlcd
      else match u.ann.rewrite, u.ann.pending with
        | some (g, img), _ => ({ u with ann := { u.ann with rewrite := none } }).startWaveform g img (padWords 3 (aget [] u.ann.before g))
        | none, (g, img) :: q => ({ u with ann := { u.ann with pending := q } }).startWaveform g img (u.shown g)
        | none, [] => u)

/-- WAVEFORM_PHASE_END (R505): preparation, then selection, then settling. -/
def execWaveformPhaseEnd (s : State) : Host.Outcome State Fault Refusal :=
  .next (match s.ann.running with
    | some w =>
      if w.phase = 0 then
        let t := s.reachEl (w.phaseAt + tickNs * s.par 0x1502 w.band)
        { t with ann := { t.ann with running := some { w with phase := 1, phaseAt := t.tim.el } } }
      else if w.phase = 1 then
        let t := s.reachEl (w.phaseAt + tickNs * s.selectionTicks w.band w.before w.image)
        { t with ann := { t.ann with running := some { w with phase := 2, phaseAt := t.tim.el } } }
      else s
    | none => s)

/-- WAVEFORM_END (R506 to R508). -/
def execWaveformEnd (s : State) : Host.Outcome State Fault Refusal :=
  .next (match s.ann.running with
    | some w =>
      if w.phase = 2 then
        let t := (s.reachEl (w.phaseAt + 500 * tickNs)).sampleTemp
        let u := { t with mram := { t.mram with shown := aset t.mram.shown w.group w.image, dirty := remove t.mram.dirty w.group },
                          ann := { t.ann with running := none } }
        let v := match afind u.ann.held w.group with
          | some img => ({ u with ann := { u.ann with held := adel u.ann.held w.group } }).newImage w.group img
          | none => u
        let b := v.fld F_ANN_STATUS_BAND
        if w.band + 2 ≤ b || b + 2 ≤ w.band then
          (({ v with ann := { v.ann with rewrite := some (w.group, w.image), before := aset v.ann.before w.group w.before } }).event
            F_ANN_EVENT_JUMP_EVT).raise 0x0D03 (pay [w.group])
        else v
      else s
    | none => s)

/-- VLCD_TIMEOUT (R504): 20 ms after VLCD is required, and then once per second until it is back. -/
def execVlcdTimeout (vlcdMv : Nat) (s : State) : Host.Outcome State Fault Refusal :=
  .next (match s.ann.vlcdAt with
    | none => s
    | some e =>
      let r := s.reachEl (e + (if s.ann.blocked then sec else 20 * ms))
      let t := (r.setFld F_ANN_TEMP_VLCD vlcdMv).setFlag F_ANN_STATUS_VLCD_OK (r.vlcdGood vlcdMv)
      if r.vlcdGood vlcdMv then ({ t with ann := { t.ann with blocked := false, vlcdAt := none } }).causeGone 0x0D01
      else
        let u := { t with ann := { t.ann with blocked := true, vlcdAt := some t.tim.el } }
        if s.ann.blocked then u else (u.event F_ANN_EVENT_VLCD_EVT).raise 0x0D01)

/-- R501, R505: what a segment line of a group carries: high impedance, 0 V, the reset drive at VLCD, or an amplitude in 1/255 of VLCD. -/
inductive SegDrive where
  | highZ | zero | prep | amplitude (a : Nat)
  deriving DecidableEq, Repr

/-- R505: the entry of ANN_OVERDRIVE for segment `k` of a waveform. -/
def State.overdrive (s : State) (w : Waveform) (k : Nat) : Word := s.parW 0x1503 (16 * w.band + 4 * segLevel w.before k + segLevel w.image k)

/-- R501, R505: the drive of segment `k` of group `g` at the present instant. -/
def State.segDrive (s : State) (g k : Nat) : SegDrive :=
  if !s.clk.vfld then .highZ
  else match s.ann.running with
    | none => .zero
    | some w =>
      if w.group != g then .zero
      else if w.phase = 0 then .prep
      else if w.phase = 1 && s.tim.el < w.phaseAt + tickNs * bits (s.overdrive w k) 23 8 then .amplitude (bits (s.overdrive w k) 7 0)
      else .zero

/-- R506: ANN_COMMIT takes the SET images of groups 4 to 7. -/
def State.commitWrite (s : State) (v : Word) : State :=
  s.each [4, 5, 6, 7] (fun t g => if tbit v.toNat g then t.newImage g (t.regRun (A_ANN_SET_W (g - 4) 0) 3) else t)

/-- ANN_COMMIT (R506). -/
def execAnnCommit (master : Nat) (value : Word) (s : State) : Host.Outcome State Fault Refusal :=
  .next (s.commandWrite master A_ANN_COMMIT value (fun t => t.commitWrite value))

/-- The words of an image from the level of each segment. -/
def imageOf (level : Nat → Nat) : List Word :=
  (List.range 3).map (fun w => BitVec.ofNat 32 ((List.range 16).foldl (fun a j =>
    a + (if 16 * w + j < 40 then level (16 * w + j) % 4 else 0) * 4 ^ j) 0))

/-- Segments a to g of a hexadecimal digit, segment a in bit 0. [Log 30, PRESUMED, unsafe] -/
def digitSegments (d : Nat) : Nat :=
  nth [0x3F, 0x06, 0x5B, 0x4F, 0x66, 0x6D, 0x7D, 0x07, 0x7F, 0x6F, 0x77, 0x7C, 0x39, 0x5E, 0x79, 0x71] (d % 16)

/-- R502: the image of group 0. -/
def State.panelGroup0 (s : State) : List Word :=
  imageOf (fun k => 3 * bit (
    k == stateCode s.dev.st || (s.shownMode != 0 && k == 7 + s.shownMode) ||
    k == (match s.holderSide with | some .cope => 16 | some .drag => 17 | none => 18) ||
    (k == 19 && s.pins.side == .drag) || (20 ≤ k && k < 30 && s.cond (k - 20))))

/-- R502: the image of group 1. -/
def State.panelGroup1 (s : State) : List Word :=
  let code := match s.worst with
    | some a => a.code
    | none => 0
  imageOf (fun k => 3 * bit (
    (k < 28 && tbit (digitSegments (code / 16 ^ (3 - k / 7))) (k % 7)) || (k == 28 && 1 < s.alarms.length) ||
    (k == 29 && (match s.worst with | some a => !a.acked | none => false))))

/-- R502: an error bar: segment `i` is on when e ≥ (i + 1) × 2F / 40, that is when (i + 1) × F ≤ 20 e. -/
def barImage (e20 foot : Nat) : List Word :=
  imageOf (fun i => if (i + 1) * foot ≤ e20 then (if i < 20 then 2 else 3) else 0)

/-- R502: a bar group takes a new image at most every ANN_BAR_MS. -/
def State.newBar (s : State) (g : Nat) (img : List Word) : State :=
  if s.limited s.ann.barAt g (s.par 0x1505 * ms) && afind s.ann.lastImage g != some img then
    ({ s with ann := { s.ann with barAt := aset s.ann.barAt g s.tim.el, lastImage := aset s.ann.lastImage g img } }).newImage g img
  else s

/-- R502: groups 0 and 1 take a new image at the pour at which their content changes. -/
def State.newIcons (s : State) (g : Nat) (img : List Word) : State :=
  if afind s.ann.lastImage g = some img then s
  else ({ s with ann := { s.ann with lastImage := aset s.ann.lastImage g img } }).newImage g img

/-- R503, R508: at boot step 10 the band is that of the table; every dirty group, and every group whose image differs from MRAM, is written again. -/
def State.panelStart (s : State) : State :=
  (s.setFld F_ANN_STATUS_BAND (plainBand s.displayTemp)).each (sortNat s.mram.dirty) (fun t g => { t with ann := { t.ann with pending := aset t.ann.pending g (t.shown g) } })

/-- R320, R324, R494: what a whole operating second or hour does to the counters that run with operating time. -/
def State.secondPassed (s : State) : State :=
  s.each (List.range 8) (fun t n =>
    if (t.brake n).degr != 0 && (t.brake n).degr != 3 then
      ({ t with mram := { t.mram with brakeLeft := aset t.mram.brakeLeft n (aget 0 t.mram.brakeLeft n - 1) } }).showBrake n
    else t)

/-- R324: an operating hour more since each channel's last passed test. -/
def State.hourPassed (s : State) : State :=
  let t := s.each (List.range 8) (fun t n =>
    let h := aget 0 t.mram.brakeAge n + 1
    ({ t with mram := { t.mram with brakeAge := aset t.mram.brakeAge n h } }).setReg (A_SAF_BRK_AGE n) (toWord (Nat.min h 4294967295)))
  { t with rcd := { t.rcd with hourly := true, anchorDue := true } }

/-- OPERATING_TIME_TICK (R494): every 100 ms while the keeper is out of reset; to MRAM every 10 s. -/
def execOperatingTimeTick (s : State) : Host.Outcome State Fault Refusal :=
  .next (if s.boot.started && !s.boot.halted then
    let n := s.rcd.opTime + 1
    let r := s.reachEl (s.rcd.tickAt + 100 * ms)
    let t := { r with rcd := { r.rcd with opTime := n, tickAt := s.rcd.tickAt + 100 * ms } }
    let u := if n % 100 = 0 then { t with mram := { t.mram with opTime := n } } else t
    let v := if n % 10 = 0 then u.secondPassed else u
    if n % 36000 = 0 then v.hourPassed else v
    else s)

end Sys2Proof.Machine
end

