-- ==== Sys2Proof/Machine/Reset.lean ====
section
/-! DEFINITION. Resets and supplies (R64 to R67, R513, R518 to R521): the device resets and their reach, PWRGOOD and REFIN. -/
namespace Sys2Proof.Machine

/-- An address belongs to block SAF, whose registers only a reset of the S-die reaches (R64). -/
def inSafBlock (a : Nat) : Bool := 0x90000 ≤ a && a < 0xA0000

/-- Replace a run of flash bytes with free values: what a failed command leaves there the manual does not say. [Log 31, DESIGN CHOICE, safe] -/
def State.flashUnknown (s : State) (a n : Nat) : State :=
  let bytes := (List.range n).map (fun k => BitVec.ofNat 8 (Config.freeWord (s.freeCtr + k)).toNat)
  { s with flash := memSetRun erasedCell 1 s.flash a bytes, freeCtr := s.freeCtr + n }

/-- A reset while a flash window command erases or programs: the manual does not say what the block or page then holds. [Log 31, DESIGN CHOICE, safe] -/
def State.abortFlash (s : State) : State :=
  match s.flashCmd with
  | some c => if c.cmd = 1 then s.flashUnknown c.addr 65536 else if c.cmd = 2 then s.flashUnknown c.addr 256 else s
  | none => s

/-- R64: what every device reset leaves: MRAM, flash and fuses, the supplies, and everything the model keeps about the run. The straps are
latched at its end (R521). Every alarm becomes inactive without a record (R534), and working time counts from 0 again (R339). -/
def State.afterReset (s : State) (straps : Straps) : State :=
  { State.reset with
    serial := s.serial, devKey := s.devKey, mram := { s.mram with shutdown := s.mram.shutdown && !s.flag F_HLT_STATUS_COOLED }, flash := s.abortFlash.flash, out := s.out
    freeCtr := s.abortFlash.freeCtr, pending := s.pending
    clk := { vin := s.clk.vin, pwrgood := s.clk.pwrgood, pgAt := s.clk.pgAt, vfld := s.clk.vfld, refin := s.clk.refin }
    tim := { State.reset.tim with el := s.tim.el }
    pins := { State.reset.pins with side := straps.side, testEn := straps.testEn }
    regs := [] }

/-- Set KPR_RESETCAUSE to the one bit of the last device reset. -/
def State.setCause (s : State) (f : Fld) : State := s.setReg A_KPR_RESETCAUSE (fieldIn 0#32 f 1)

/-- R64: a reset that reaches all dies, the S-die included. -/
def State.fullReset (s : State) (straps : Straps) (cause : Fld) : State :=
  let t := (s.afterReset straps).setCause cause
  (t.setFlag F_GLB_STATUS_REFIN_OK s.clk.refin).setFlag F_GLB_STATUS_SIDE (straps.side == .drag)

/-- R9, R64, R65: a keeper watchdog or ordered reset: the S-die keeps its state, its count of failed check-clock windows included, and holds the global safe state, with cause 11 unless the state
was present already. Channel faults of brakes clear, because the field die is reached (R319). -/
def State.keeperReset (s : State) (straps : Straps) (cause : Fld) : State :=
  let s0 := s.endBrakeTest 4
  let t := s0.afterReset straps
  let u := { t with
    regs := s0.regs.filter (fun e => inSafBlock e.1)
    clk := { t.clk with failedWindows := s0.clk.failedWindows }
    saf := { s0.saf with leaseFrom := none, brakes := s0.saf.brakes.map (fun (b : Brake) => { b with fault := false, overcurrent := false }) }
    pins := { t.pins with safeN := s0.pins.safeN, sit0 := s0.pins.sit0, sit1 := s0.pins.sit1 } }
  let v := ((u.setCause cause).setFlag F_GLB_STATUS_REFIN_OK s.clk.refin).setFlag F_GLB_STATUS_SIDE (straps.side == .drag)
  (v.each (List.range 8) State.showBrake).globalSafe 11

/-- POWER_ON_RESET (R64, R519). -/
def execPowerOnReset (straps : Straps) (s : State) : Host.Outcome State Fault Refusal :=
  .next ({ s with clk := { s.clk with vin := true, pwrgood := false } }.fullReset straps F_KPR_RESETCAUSE_POR)

/-- VIN_FALL (R519): PWRGOOD falls, every pin takes its reset state and nothing volatile is left. -/
def execVinFall (s : State) : Host.Outcome State Fault Refusal :=
  .next ({ s with clk := { s.clk with vin := false, pwrgood := false } }.afterReset ⟨s.pins.side, s.pins.testEn⟩)

/-- R64: what a pulse of nRST does: below 0.5 µs nothing, from 1 µs a full reset; between them one of the two, which is a free value. [Log 25, DESIGN CHOICE, safe] -/
def nrstResets (free : Word) (widthNs : Nat) : Bool :=
  if widthNs < 500 then false else if widthNs < 1000 then free.toNat % 2 == 1 else true

/-- NRST (R64). Without VIN the device is in reset already. -/
def execNrst (widthNs : Nat) (straps : Straps) (s : State) : Host.Outcome State Fault Refusal :=
  .next (if s.clk.vin && nrstResets s.freeVal widthNs then s.useFree.fullReset straps F_KPR_RESETCAUSE_NRST else s.useFree)

/-- KEEPER_WATCHDOG (R64, R65): a keeper that has not left reset has no watchdog running. -/
def execKeeperWatchdog (straps : Straps) (s : State) : Host.Outcome State Fault Refusal :=
  .next (if s.clk.vin && s.boot.started then s.keeperReset straps F_KPR_RESETCAUSE_WDOG else s)

/-- ORDERED_RESET (R64, R86): after the pour of an accepted RESET order that names this side. -/
def execOrderedReset (straps : Straps) (s : State) : Host.Outcome State Fault Refusal :=
  .next (if s.dev.toReset then s.keeperReset straps F_KPR_RESETCAUSE_ORDER else s)

/-- PWRGOOD_RISE (R518). -/
def execPwrgoodRise (s : State) : Host.Outcome State Fault Refusal :=
  .next (if s.clk.vin then { s with clk := { s.clk with pwrgood := true, pgAt := s.tim.el } } else s)

/-- REFIN_PRESENT (R67). -/
def execRefinPresent (s : State) : Host.Outcome State Fault Refusal :=
  .next ({ s with clk := { s.clk with refin := true } }.setFlag F_GLB_STATUS_REFIN_OK s.clk.vin)

end Sys2Proof.Machine
end

