-- ==== Sys2Proof/Machine/Flash.lean ====
section
/-! DEFINITION. The flash window (R61 to R63). -/
namespace Sys2Proof.Machine

/-- The slot size in bytes; slot A starts at flash address 0 and slot B at this one. -/
def slotSize : Nat := 0x2000000

/-- The slot of a flash address: 1 for A, 2 for B. -/
def slotOf (a : Nat) : Nat := if a < slotSize then 1 else 2

/-- R61, R62: command `c` (1 erase, 2 program, 3 read) at a flash address is rejected. [Log 69, DEDUCED, unsafe] -/
def State.flashRejects (s : State) (c a : Nat) : Bool :=
  !s.locked || s.flag F_KPR_FLW_CTRL_BUSY || 2 * slotSize ≤ a || (s.pat.loaded && s.pat.slot == slotOf a) ||
  (if c = 1 then a % 65536 != 0 else a % 256 != 0)

/-- R61, R62: a flash window command; it takes its copies of ADDR and of the page buffer now. -/
def State.flashCommand (s : State) (c : Nat) : State :=
  let a := s.fld F_KPR_FLW_ADDR_ADDR
  if c = 0 then s
  else if s.flashRejects c a then (s.setFlag F_KPR_FLW_CTRL_REJECT true).raise 0x010B
  else { s with flashCmd := some ⟨c, a, wordsBytes (s.regRun (A_KPR_FLW_BUF 0) 64)⟩ }.setFlag F_KPR_FLW_CTRL_BUSY true

/-- A write of KPR_FLW_CTRL: REJECT and ERR clear where they are written 1, then the command acts. [Log 69, DEDUCED, unsafe] -/
def State.flwWrite (s : State) (v : Word) : State := ((s.typedWrite A_KPR_FLW_CTRL v).flashCommand (bits v 1 0)).settleSources

/-- The bytes that programming leaves: the page's where the flash was erased or already held them. What it leaves elsewhere the manual does not say: a free value. [Log 31, DESIGN CHOICE, safe] -/
def programmed (old new : List Byte) (ctr : Nat) : List Byte :=
  (old.zip new).mapIdx (fun k e => if e.1 == 0xFF#8 || e.1 == e.2 then e.2 else BitVec.ofNat 8 (Config.freeWord (ctr + k)).toNat)

/-- What a flash window command does at its completion. [Log 31, DESIGN CHOICE, safe] -/
def State.flashEffect (s : State) (c : FlashCmd) (failed : Bool) : State :=
  if c.cmd = 1 then
    if failed then (s.flashUnknown c.addr 65536).setFlag F_KPR_FLW_CTRL_ERR true
    else { s with flash := s.flash.filter (fun e => e.1 < c.addr || c.addr + 65536 ≤ e.1) }
  else if c.cmd = 2 then
    if failed then (s.flashUnknown c.addr 256).setFlag F_KPR_FLW_CTRL_ERR true
    else { s with flash := memSetRun erasedCell 1 s.flash c.addr (programmed (memGetRun erasedCell 1 s.flash c.addr 256) c.page s.freeCtr),
                  freeCtr := s.freeCtr + 256 }
  else s.setRegs (A_KPR_FLW_BUF 0) (bytesWords (memGetRun erasedCell 1 s.flash c.addr 256))

/-- FLASH_COMMAND_DONE (R62): BUSY clears before source 29 asserts. -/
def execFlashCommandDone (failed : Bool) (s : State) : Host.Outcome State Fault Refusal :=
  .next (match s.flashCmd with
    | some c =>
      let t := ({ s.flashEffect c failed with flashCmd := none }).setFlag F_KPR_FLW_CTRL_BUSY false
      ({ t with intc := { t.intc with edge := insertNew t.intc.edge 29 } }).settleSources
    | none => s)

/-- FLASH_ERASE (R61): KPR_FLW_CTRL.CMD 1. -/
def execFlashErase (master : Nat) (s : State) : Host.Outcome State Fault Refusal :=
  .next (s.commandWrite master A_KPR_FLW_CTRL 1#32 (fun t => t.flwWrite 1#32))

/-- FLASH_PROGRAM (R61): KPR_FLW_CTRL.CMD 2. -/
def execFlashProgram (master : Nat) (s : State) : Host.Outcome State Fault Refusal :=
  .next (s.commandWrite master A_KPR_FLW_CTRL 2#32 (fun t => t.flwWrite 2#32))

/-- FLASH_READ (R62): KPR_FLW_CTRL.CMD 3. -/
def execFlashRead (master : Nat) (s : State) : Host.Outcome State Fault Refusal :=
  .next (s.commandWrite master A_KPR_FLW_CTRL 3#32 (fun t => t.flwWrite 3#32))

end Sys2Proof.Machine
end

