-- ==== Sys2Proof/Machine/Pattern.lean ====
section
/-! DEFINITION. The Pattern image (R41 to R51): its header, section table and records, and the stages of the slot check that are functions
of the image. Slots are numbered 1 (A) and 2 (B), as KPR_PATTERN.SLOT shows them. -/
namespace Sys2Proof.Machine

/-- The number that `n` bytes at offset `o` spell, little-endian (R3). -/
def leAt (b : List Byte) (o n : Nat) : Nat := leNat ((b.drop o).take n)

/-- The bytes of a slot from its start. -/
def State.slotBytes (s : State) (slot n : Nat) : List Byte := memGetRun erasedCell 1 s.flash ((slot - 1) * slotSize) n

/-- R41: the 256-byte header of a slot. -/
def State.slotHeader (s : State) (slot : Nat) : List Byte := s.slotBytes slot 256

/-- R41: the fields of a header. -/
def imageLen (h : List Byte) : Nat := leAt h 0x008 4
def imageSeq (h : List Byte) : Nat := leAt h 0x00C 4
def imageSections (h : List Byte) : Nat := leAt h 0x013 1
def imageSigOfs (h : List Byte) : Nat := leAt h 0x018 4

/-- R41: the header keeps its format: lengths and offsets, and every byte and bit that must be 0. -/
def headerFormat (h : List Byte) : Bool :=
  let n := imageLen h
  leAt h 0x004 2 == 1 && leAt h 0x006 2 == 0x100 && leAt h 0x014 4 == 0x100 && n % 64 == 0 && 1024 ≤ n && n ≤ 33554432 &&
  imageSigOfs h == n - 256 && 1 ≤ imageSections h && imageSections h ≤ 23 && leAt h 0x01C 4 < 2 && leAt h 0x03C 4 == 0 &&
  ((h.drop 0x080).take 120).all (· == 0#8)

/-- R51: stages 1 to 4 on a header, for a silicon stepping: the first that fails, 0 when all pass. -/
def headerStage (h : List Byte) (stepping : Nat) : Nat :=
  if leAt h 0 4 ≠ 0x5450594D then 1
  else if leAt h 0x0FC 4 ≠ (crc32c (h.take 0x0FC)).toNat then 2
  else if !headerFormat h then 3
  else if leAt h 0x010 2 ≠ 0x4128 || stepping < leAt h 0x012 1 then 4
  else 0

/-- R42: an entry of the section table. -/
structure Section where
  typ : Nat
  zero : Nat
  ofs : Nat
  len : Nat
  crc : Nat
  deriving DecidableEq, Repr

/-- R42: entry `k` of the section table of an image. -/
def sectionAt (img : List Byte) (k : Nat) : Section :=
  let o := 0x100 + 16 * k
  ⟨leAt img o 2, leAt img (o + 2) 2, leAt img (o + 4) 4, leAt img (o + 8) 4, leAt img (o + 12) 4⟩

/-- R42: the section table of an image. -/
def sectionsOf (img : List Byte) : List Section := (List.range (imageSections img)).map (sectionAt img)

/-- R44: the section types that an image must contain. -/
def requiredTypes : List Nat := [1, 2, 3, 4, 5, 7, 8, 9, 0xB, 0x10, 0x11, 0x12, 0x13, 0x14]

/-- Types rise strictly along the table (R42). -/
def typesRise : List Section → Bool
  | a :: b :: r => decide (a.typ < b.typ) && typesRise (b :: r)
  | _ => true

/-- R42: two sections share no byte. -/
def disjoint (a b : Section) : Bool := a.len == 0 || b.len == 0 || a.ofs + a.len ≤ b.ofs || b.ofs + b.len ≤ a.ofs

/-- No two sections of a list share a byte. -/
def allDisjoint : List Section → Bool
  | [] => true
  | a :: r => r.all (disjoint a) && allDisjoint r

/-- R42, R44: the rules for the section table and for the section types. -/
def tableOk (img : List Byte) : Bool :=
  let l := sectionsOf img
  typesRise l && allDisjoint l && requiredTypes.all (fun t => l.any (fun e => e.typ == t)) &&
  l.all (fun e => 1 ≤ e.typ && e.typ ≤ 0x17 && e.zero == 0 && e.ofs % 64 == 0 && e.len % 4 == 0 && 0x100 + 16 * l.length ≤ e.ofs &&
    e.ofs + e.len ≤ imageSigOfs img)

/-- The section table as it stands in the image. -/
def tableBytes (img : List Byte) : List Byte := (img.drop 0x100).take (16 * imageSections img)

/-- The body of a section. -/
def sectionBody (img : List Byte) (e : Section) : List Byte := (img.drop e.ofs).take e.len

/-- The section of a type, if the image has it. -/
def sectionOf (img : List Byte) (typ : Nat) : Option Section := (sectionsOf img).find? (fun e => e.typ == typ)

/-- The body of a section of a type; empty where the image has none. -/
def bodyOf (img : List Byte) (typ : Nat) : List Byte :=
  match sectionOf img typ with
  | some e => sectionBody img e
  | none => []

/-- R45: the records of a parameter body, which they fill exactly: PID and value words. The fuel is the number of words. -/
def recordsOf : Nat → List Word → Option (List (Nat × List Word))
  | _, [] => some []
  | 0, _ => none
  | k + 1, h :: r =>
    let n := bits h 31 16
    if n ≤ r.length then
      match recordsOf k (r.drop n) with
      | some l => some ((bits h 15 0, r.take n) :: l)
      | none => none
    else none

/-- R45: PIDs rise strictly. -/
def pidsRise : List (Nat × List Word) → Bool
  | a :: b :: r => decide (a.1 < b.1) && pidsRise (b :: r)
  | _ => true

/-- R45: the records of a section whose format holds: strictly rising PIDs of the section's own type. -/
def sectionRecords (img : List Byte) (typ : Nat) : Option (List (Nat × List Word)) :=
  let ws := bytesWords (bodyOf img typ)
  match recordsOf ws.length ws with
  | some l => if pidsRise l && l.all (fun e => e.1 / 256 == typ) then some l else none
  | none => none

/-- R46: a pairing parameter: its words, all 0 when it is absent; none when its LEN is wrong. -/
def pairingWords (l : List (Nat × List Word)) (pid len : Nat) : Option (List Word) :=
  match afind l pid with
  | some ws => if ws.length = len then some ws else none
  | none => some (List.replicate len 0#32)

/-- R47: the image binds to the device of a side, a serial number (two words) and a key. -/
def binds (side : Side) (serial key : List Word) (l : List (Nat × List Word)) : Bool :=
  match pairingWords l 0x0901 1, pairingWords l 0x0902 2, pairingWords l 0x0903 8, pairingWords l 0x0904 2, pairingWords l 0x0905 8 with
  | some m, some cs, some ck, some ds, some dk =>
    let own := if side = .cope then (cs, ck) else (ds, dk)
    let other := if side = .cope then (ds, dk) else (cs, ck)
    let zero := fun (w : List Word) => w.all (· == 0#32)
    own.1 == serial && own.2 == key &&
    (if nthW m 0 = 0#32 then zero other.1 && zero other.2 else cs != ds && !zero cs && !zero ds && !zero other.2)
  | _, _, _, _, _ => false

/-- R48: the fields of the 256-byte signature block at SIG_OFS. -/
def sigBlock (img : List Byte) : List Byte := (img.drop (imageSigOfs img)).take 256
def signerKey (img : List Byte) : List Byte := (sigBlock img).take 0x20
def keySerial (img : List Byte) : Nat := leAt (sigBlock img) 0x20 4
def endorsement (img : List Byte) : List Byte := ((sigBlock img).drop 0x40).take 64
def imageSig (img : List Byte) : List Byte := ((sigBlock img).drop 0x80).take 64

/-- R48, R49: what ENDORSEMENT signs: block bytes 0x00 to 0x3F, under the Dolren root key. -/
def endorsementCheck (img : List Byte) : Signed := ⟨.dolrenRoot, (sigBlock img).take 0x40, endorsement img⟩

/-- R48, R49: what IMAGE_SIG signs: image bytes 0 to SIG_OFS − 1, under SIGNER_KEY. -/
def imageCheck (img : List Byte) : Signed := ⟨.key (signerKey img), img.take (imageSigOfs img), imageSig img⟩

/-- R50: the FWPATCH blob carries its own signature under the Dolren root key. Its layout is not given. [Log 80, DESIGN CHOICE, safe] -/
def patchCheck (img : List Byte) : Signed := ⟨.dolrenRoot, bodyOf img 0x17, []⟩

/-- R51: stages 5 to 9 on the image of a slot, whose header has passed: the first that fails, 0 when all pass. [Log 79, DEDUCED, unsafe] [Log 80, DESIGN CHOICE, safe] -/
def State.streamStage (s : State) (img : List Byte) (tests : StartTests) : Nat :=
  if !tests.verified.contains (endorsementCheck img) then 5
  else if !tests.verified.contains (imageCheck img) then 6
  else if leAt img 0x0F8 4 ≠ (crc32c (tableBytes img)).toNat || !tableOk img then 7
  else if (sectionsOf img).any (fun e => e.crc != (crc32c (sectionBody img e)).toNat) then 8
  else match sectionRecords img 9 with
    | none => 9
    | some l => if binds s.pins.side (twoWords s.serial) (padWords 8 s.devKey) l then 0 else 9

/-- The types of the sections that hold parameters: all but APPCODE and FWPATCH (R44). -/
def paramTypes (img : List Byte) : List Nat := ((sectionsOf img).map (·.typ)).filter (fun t => t < 0x16)

/-- R45: every record of the image; none where a section breaks the record format. -/
def imageRecords (img : List Byte) : Option (List (Nat × List Word)) :=
  (paramTypes img).foldl (fun (a : Option (List (Nat × List Word))) t => match a, sectionRecords img t with
    | some x, some y => some (x ++ y)
    | _, _ => none) (some [])

/-- A word lies within a range; a range with a negative end is one of signed numbers. -/
def inRange (r : Int × Int) (w : Word) : Bool :=
  let v : Int := if r.1 < 0 then w.toInt else (w.toNat : Int)
  decide (r.1 ≤ v) && decide (v ≤ r.2)

/-- R45: the words of a value lie within the ranges of its parameter, or are its special value. -/
def ParamRow.wordsOk (r : ParamRow) (ws : List Word) : Bool :=
  (ws.zipIdx).all (fun e => inRange (r.ranges.getD (e.2 % r.ranges.length) anyWord) e.1 || r.special.contains (e.1.toNat : Int))

/-- R45: LEN of a value is one that its parameter allows. -/
def ParamRow.lenOk (r : ParamRow) (n : Nat) : Bool := (List.range (r.nMax + 1 - r.nMin)).any (fun k => n == r.len * (r.nMin + k))

/-- A stated field range holds in a record of entry length `len`. -/
def FieldRule.holds (f : FieldRule) (len pid : Nat) (ws : List Word) : Bool :=
  pid < f.lo || f.hi < pid || (ws.zipIdx).all (fun e =>
    e.2 % Nat.max 1 len != f.word ||
    (let n := bits e.1 f.msb f.lsb
     let v : Int := if f.signed && 2 ^ (f.msb - f.lsb) ≤ n then (n : Int) - 2 ^ (f.msb + 1 - f.lsb) else (n : Int)
     decide (f.least ≤ v) && decide (v ≤ f.most)))

/-- R45, stage 10: a record is one the device knows, of an allowed length, with every word and field in its stated range. -/
def recordOk (e : Nat × List Word) : Bool :=
  match paramRow e.1 with
  | some r => r.lenOk e.2.length && r.wordsOk e.2 && fieldRules.all (fun f => f.holds r.len e.1 e.2)
  | none => false

/-- R45: every parameter that must be given stands in its section, where the section is present. -/
def requiredGiven (types : List Nat) (l : List (Nat × List Word)) : Bool :=
  paramRows.all (fun r => r.dflt.isSome || !types.contains (r.pid / 256) || (afind l r.pid).isSome)

/-- The records of a run of PIDs. -/
def pidRange (l : List (Nat × List Word)) (lo hi : Nat) : List (List Word) := (l.filter (fun e => lo ≤ e.1 && e.1 ≤ hi)).map (·.2)

/-- R203: T_REV is at most T_FWD, and 0 for types 2 and 3. -/
def thrusterOk (w : List Word) : Bool :=
  let typ := bits (nthW w 0) 2 0
  decide ((nthW w 4).toNat ≤ (nthW w 3).toNat) && (!(typ == 2 || typ == 3) || nthW w 4 == 0#32)

/-- R132, R133: TIMEOUT_MS is 0 or at least FRAME_MS; NOISE2 is 0 unless the kind is 4; kinds 7 and 8 belong to one side. -/
def slotOk (w : List Word) : Bool :=
  let kind := bits (nthW w 0) 7 0
  (nthW w 5 == 0#32 || decide ((nthW w 3).toNat ≤ (nthW w 5).toNat)) && (kind == 4 || nthW w 8 == 0#32) &&
  (!(kind == 7 || kind == 8) || bits (nthW w 0) 13 12 ≤ 1)

/-- R133: how many slots of some kinds the records configure stays within a limit. -/
def kindsWithin (l : List (List Word)) (kinds : List Nat) (limit : Nat) : Bool := (l.filter (fun w => kinds.contains (bits (nthW w 0) 7 0))).length ≤ limit

/-- R133: the limits of the kinds. -/
def kindsOk (l : List (List Word)) : Bool :=
  kindsWithin l [1, 2] 8 && [3, 4, 5, 6, 10].all (fun k => kindsWithin l [k] 4) && [7, 8].all (fun k => kindsWithin l [k] 2) && kindsWithin l [9] 1

/-- R338: the time-out of a safe connection is at least twice its period. -/
def connOk (w : List Word) : Bool := decide (2 * (nthW w 1).toNat ≤ (nthW w 2).toNat)

/-- R398, R416: ZERO and FULL differ and lie within the range of the mode, TRIG is 0 or a condition line, and LOAD_OHM fits the mode. [Log 79, DEDUCED, unsafe] -/
def fieldOk (w : List Word) : Bool :=
  let mode := bits (nthW w 0) 3 0
  let trig := bits (nthW w 0) 13 10
  let load := bits (nthW w 5) 15 0
  let r : Int × Int := if mode = 1 || mode = 7 then (-10500000, 10500000) else if mode = 2 then (0, 25000000) else if mode = 8 then (0, 22000000)
    else (-2147483648, 2147483647)
  let within := fun (x : Word) => decide (r.1 ≤ x.toInt) && decide (x.toInt ≤ r.2)
  nthW w 1 != nthW w 2 && within (nthW w 1) && within (nthW w 2) && (trig == 0 || 10 ≤ trig) &&
  (mode != 8 || load ≤ 500) && (mode != 7 || 2000 ≤ load)

/-- R396: the jump widths of a CAN channel are at most TSEG2. -/
def canChOk (w : List Word) : Bool := bits (nthW w 1) 29 24 ≤ bits (nthW w 1) 21 16 && bits (nthW w 2) 27 24 ≤ bits (nthW w 2) 19 16

/-- R396: the time-out of a receive object lies within 10 to 10,000 ms. -/
def canObjOk (w : List Word) : Bool :=
  bits (nthW w 0) 17 16 != 2 || (10 ≤ bits (nthW w 2) 31 16 && bits (nthW w 2) 31 16 ≤ 10000)

/-- R201: the fixed set-point of a loop slot is 0 when SP_SRC is 0. -/
def loopSlotOk (w : List Word) : Bool := fieldOf (nthW w 0) (F_LOOP_SLOT_CFG_SP_SRC 0) != 0 || nthW w 13 == 0#32

/-- R365: the pulse of output `k`: a known period, and widths from 1 to half of it in 10 µs, where HOLD_WIDTH may be 0. -/
def State.pulseOk (t : State) (k : Nat) : Bool :=
  let p := bits (t.parW 0x0B8D (2 * k)) 2 0
  let half := [0, 50000, 5000, 500, 50].getD p 0
  let w := t.parW 0x0B8D (2 * k + 1)
  p == 0 || (p ≤ 4 && 1 ≤ bits w 15 0 && bits w 15 0 ≤ half && bits w 31 16 ≤ half)

/-- The entries of `n` words of an array value. The fuel is the number of its words. -/
def entriesOf (n : Nat) : Nat → List Word → List (List Word)
  | 0, _ => []
  | k + 1, ws => if ws.isEmpty then [] else ws.take n :: entriesOf n k (ws.drop n)

/-- No number stands twice in a list. -/
def noRepeat (l : List Nat) : Bool := l.eraseDups.length == l.length

/-- Words do not rise along a list (R509). -/
def notRising : List Word → Bool
  | a :: b :: r => decide (b.toNat ≤ a.toNat) && notRising (b :: r)
  | _ => true

/-- R89: each tunable names a word that its parameter has, and each word at most once. -/
def tunablesOk (l : List (Nat × List Word)) : Bool :=
  let ws := aget [] l 0x1301
  let heads := (entriesOf 4 ws.length ws).map (fun e => nthW e 0)
  noRepeat (heads.map (·.toNat)) && heads.all (fun h =>
    match paramRow (bits h 15 0) with
    | some r => decide (bits h 31 16 < match afind l (bits h 15 0) with
        | some v => v.length
        | none => r.len * r.nMin)
    | none => false)

/-- R89, R128, R201, R236, R455, R509: the ranges whose ends are other parameters, and the rules over several words. `t` holds the image's
parameters. -/
def State.relationsOk (t : State) (l : List (Nat × List Word)) : Bool :=
  let sev := aget [] l 0x1403
  decide (t.par 0x0309 + 10 ≤ t.par 0x0308) && decide (t.par 0x0304 < t.par 0x0301) && decide (t.par 0x0619 ≤ t.par 0x0618) &&
  decide (2 * t.par 0x0717 ≤ t.par 0x0702 0) && t.pulseOk 0 && t.pulseOk 1 && [40, 200, 1000].contains (t.par 0x0A04) && t.par 0x0A05 % 20 == 0 &&
  (aget [] l 0x0A0C).all (fun w => w.toNat % 2 == 0) && noRepeat (sev.map (fun w => bits w 15 0)) &&
  sev.all (fun w => bits w 31 18 == 0 && bits w 17 16 != 0) && notRising ((List.range 8).map (t.parW 0x1501)) && tunablesOk l &&
  (pidRange l 0x0540 0x056F).all slotOk && kindsOk (pidRange l 0x0540 0x056F) && (pidRange l 0x1060 0x106F).all connOk && (pidRange l 0x0340 0x035F).all thrusterOk && (pidRange l 0x0E80 0x0EFF).all fieldOk &&
  (pidRange l 0x0C01 0x0C06).all canChOk && (pidRange l 0x0C80 0x0CFF).all canObjOk && (pidRange l 0x0F40 0x0F7F).all loopSlotOk

/-- The device with the parameters of an image and nothing tuned. -/
def State.withParams (s : State) (l : List (Nat × List Word)) : State := { s with pat := { s.pat with params := l, tuned := [] } }

/-- R51, stage 10, and R68, step 8: the records, the APPCODE layout and the moulds of an image. [Log 79, DEDUCED, unsafe] -/
def State.paramsOk (s : State) (img : List Byte) (tests : StartTests) : Bool :=
  match imageRecords img with
  | some l =>
    l.all recordOk && requiredGiven (paramTypes img) l && (s.withParams l).relationsOk l &&
    ((sectionOf img 0x16).isNone || appcodeOk (bodyOf img 0x16)) &&
    tests.mouldsLoad && (mouldsOf (mouldPids.map (fun p => aget [] l p))).isSome
  | none => false

/-- R51: stages 10 and 11. [Log 79, DEDUCED, unsafe] -/
def State.placedStage (s : State) (img : List Byte) (tests : StartTests) : Nat :=
  if !s.paramsOk img tests then 10
  else if (sectionOf img 0x17).isSome && !tests.verified.contains (patchCheck img) then 11
  else 0

/-- R56: what the S-die checks on its own in the header, the section table and the SAFETY section that it is handed. [Log 78, DEDUCED, unsafe] -/
def sDieAccepts (img : List Byte) : Bool :=
  leAt img 0x0FC 4 == (crc32c (img.take 0x0FC)).toNat && leAt img 0x0F8 4 == (crc32c (tableBytes img)).toNat &&
  match sectionOf img 0x10, sectionRecords img 0x10 with
  | some e, some l =>
    e.crc == (crc32c (sectionBody img e)).toNat && padWords 4 (aget [] l 0x100F) == bytesWords ((img.drop 0x020).take 16)
  | _, _ => false

end Sys2Proof.Machine
end

