-- ==== Sys2Proof/Machine/Boot.lean ====
section
/-! DEFINITION. Start-up (R51 to R60, R67, R68): the header checks, the streaming reads, the set-up of every block from the Pattern, the
start-up self-tests, and the limit of R57. -/
namespace Sys2Proof.Machine

/-- KPR_BOOTSTAT.STEP. -/
def State.bootStep (s : State) (n : Nat) : State := s.setFld F_KPR_BOOTSTAT_STEP n

/-- R51: the stage result that KPR_PATTERN shows of a slot. -/
def stageField (slot : Nat) : Fld := if slot = 1 then F_KPR_PATTERN_A_STAGE else F_KPR_PATTERN_B_STAGE

/-- R51, R52: record the stage result of a slot; a failed slot raises its alarm with the stage. -/
def State.slotStage (s : State) (slot stage : Nat) : State :=
  let t := s.setFld (stageField slot) stage
  if stage = 0 then t else t.raise (0x0100 + slot) (pay [stage])

/-- R52, R59: no slot is valid: SAFE without a Pattern. -/
def State.noSlot (s : State) : State := (s.raise 0x0104).bootToSafe

/-- R40, R62: the numbers of the slots. -/
def slots : List Nat := [1, 2]

/-- R51, R52: stages 1 to 4 on both slots. The slot with the higher SEQ is read first, slot A when both are equal. -/
def State.selectSlot (s : State) : State :=
  let stepping := s.fld F_GLB_DEVID_STEP
  let stage := fun slot => headerStage (s.slotHeader slot) stepping
  let good := slots.filter (fun slot => stage slot == 0)
  let t := (s.bootStep 6).each (slots.filter (fun slot => stage slot != 0)) (fun u slot => u.slotStage slot (stage slot))
  let seqOf := fun slot => imageSeq (s.slotHeader slot)
  match good with
  | [] => t.noSlot
  | [a] => { t with boot := { t.boot with firstChoice := a, streaming := a, left := [] } }
  | _ =>
    let u := if seqOf 1 = seqOf 2 then t.raise 0x0108 else t
    let first := if seqOf 1 < seqOf 2 then 2 else 1
    { u with boot := { u.boot with firstChoice := first, streaming := first, left := [3 - first] } }

/-- R475: the riser-pool map of a device whose MRAM fails its CRC: no unit has been retired (R68). [Log 81, DEDUCED, unsafe] -/
def Mram.defaultMap (m : Mram) : Mram :=
  { m with riserLanes := [], riserChannels := [], riserEngines := [], riserBanks := [], riserPairs := [], retired := [] }

/-- R68, R484: the most conservative margin plan: every trimmable rail takes +60 mV, or as much of it as the package plan allows. [Log 81, DEDUCED, unsafe] -/
def State.fullTrims (s : State) : State :=
  s.each [0, 1, 3, 5] (fun t rail =>
    let v := (((List.range 13).reverse).find? (fun n => t.withinPackage rail n)).getD 0
    { t with mram := { t.mram with trims := aset t.mram.trims rail v } })

/-- R54 step 3: the banks that fail the march test are retired (R68, R475). [Log 81, DEDUCED, unsafe] -/
def State.retireFailedBanks (s : State) (failed : List Nat) : State :=
  s.each (failed.filter (fun b => !s.mram.riserBanks.contains b)) (fun t b =>
    ((({ t with mram := { t.mram with riserBanks := insertNew t.mram.riserBanks b } }).countRetired (keyBank b)).event F_HLT_EVENT_SRAM_EVT).raise
      0x0C07 (pay [b, 31 + t.mram.riserBanks.length + 1]))

/-- R54 step 4, R486: every node of the thermal model and T_ref start at the mean of the valid diodes, with the offsets that MRAM holds. -/
def State.startThermal (s : State) (diodes : List Int) : State :=
  let t := s.readDiodes diodes
  let g := t.goodDiodes
  let mean : Int := if g.isEmpty then 0 else roundDiv (g.foldl (fun a k => a + nthI diodes k * tenthDegree) 0) g.length
  let u := { t with thm := { t.thm with nodes := List.replicate 8 mean, tref := mean } }.setInt (word32 A_HLT_TREF) (roundDiv mean tenthDegree)
  u.each (List.range 8) (fun v n => v.setInt (F_HLT_NODE_OFFSET n) (aget 0 v.mram.offsets n))

/-- R320: a degraded channel stays degraded over a reset, with its timer from MRAM; a timer that has run out keeps the brake applied. [Log 107, DEDUCED, unsafe] -/
def State.restoreBrake (s : State) (n : Nat) : State :=
  match afind s.mram.brakeSwitch n with
  | some sw => s.setBrake n (fun b => if b.degr = 0 then { b with degr := sw, expired := aget 0 s.mram.brakeLeft n == 0 } else b)
  | none => s

/-- R54 step 4: what MRAM holds shows in the registers. -/
def State.showMram (s : State) : State :=
  let t := s.each (List.range 8) (fun u0 n =>
    let u := u0.restoreBrake n
    ((u.setReg (A_SAF_BRK_AGE n) (toWord (Nat.min 4294967295 (aget 0 u.mram.brakeAge n)))).showBrake n).setFld (F_HLT_RAIL_TRIM_TRIM n) (u.trim n))
  t.each (List.range 6) (fun u d =>
    let m := aget (0, 0) u.mram.margin d
    u.setReg (A_HLT_DIE_MARGIN d) (halves m.2 m.1))

/-- R54 step 4, R494: MRAM is read: the counters go on from it, and the power-cycle count increments after a power-on reset. [Log 81, DEDUCED, unsafe] -/
def State.readMram (s : State) (crcOk : Bool) (diodes : List Int) : State :=
  let s1 := if crcOk then s else ({ s with mram := s.mram.defaultMap }.fullTrims).raise 0x0106
  let s2 := if s1.flag F_KPR_RESETCAUSE_POR then { s1 with mram := { s1.mram with powerCycles := s1.mram.powerCycles + 1 } } else s1
  let n := s2.mram.opTime + 100
  let s3 := { s2 with rcd := { s2.rcd with opTime := n, tickAt := s2.tim.el }, mram := { s2.mram with opTime := n }, twn := { s2.twn with ladleEp := s2.mram.ladleEp } }
  let s4 := if s3.flag F_KPR_RESETCAUSE_WDOG then s3.raise 0x0109 else s3
  (s4.startThermal diodes).showMram

/-- R40, R54 steps 5 and 6: SFDP, and the slots' headers. A flash that does not answer has no image (R68). -/
def State.readFlashHeaders (s : State) (sfdp : Nat) : State :=
  let t := s.bootStep 5
  if sfdp = 0 then (t.each slots (fun u slot => u.slotStage slot 1)).noSlot
  else if sfdp = 1 then (({ t with boot := { t.boot with octal := false } }).raise 0x0105).selectSlot
  else t.selectSlot

/-- R54 steps 1 to 6. -/
def State.startBoot (s : State) (tests : BootTests) : State :=
  let s1 := ({ s with boot := { s.boot with started := true, time0 := s.tim.el } }.setFlag F_GLB_STATUS_PLL_LOCK true).bootStep 2
  if !tests.keeperPasses then { s1 with boot := { s1.boot with halted := true } }.setFld F_KPR_BOOTSTAT_STATE 3
  else
    let known := if tests.mramCrcOk then s1.mram.riserBanks else []
    let s2 := s1.bootStep 3
    if 2 < (tests.failedBanks.foldl insertNew known).length then s2.deviceFault faultNoBank
    else (((s2.bootStep 4).readMram tests.mramCrcOk tests.diodes).retireFailedBanks tests.failedBanks).readFlashHeaders tests.sfdp

/-- BOOT_START (R54, R67): time 0 of a device with its rails in regulation and REFIN present. Without lock of the PLL it stays in step 1. [Log 78, DEDUCED, unsafe] [Log 93, DESIGN CHOICE, safe] -/
def execBootStart (tests : BootTests) (s : State) : Host.Outcome State Fault Refusal :=
  .next (if s.clk.vin && s.clk.pwrgood && s.clk.refin && !s.boot.started && tests.pllLocks then s.startBoot tests else s)

/-- R58: the access tables of the ACCESS section: four words a rule. -/
def State.loadAccess (s : State) : State :=
  s.each [0, 1, 2, 3, 4, 6, 7, 9, 10] (fun t r =>
    let ws := t.parGiven (0x1100 + r)
    t.each (List.range (ws.length / 4)) (fun u k =>
      u.loadRule r k (nthW ws (4 * k)).toNat (nthW ws (4 * k + 1)).toNat (nthW ws (4 * k + 2)).toNat (nthW ws (4 * k + 3)).toNat))

/-- R498: the reason why a release entry is ignored: 1 number, 2 LAST_SEQ, 3 CRC; 0 when it applies. -/
def State.releaseReason (s : State) (e : List Word) : Nat :=
  let last := (nthW e 3).toNat
  if (nthW e 2).toNat ≠ s.mram.relCnt + 1 then 1
  else if last < s.mram.base || s.mram.next ≤ last then 2
  else if memGet zeroCell s.mram.area (16 * (last % 131072) + 15) ≠ nthW e 4 then 3
  else 0

/-- R498: apply a release entry of this device, or ignore it; one already applied is ignored silently. [Log 84, DEDUCED, unsafe] -/
def State.applyRelease (s : State) (e : List Word) : State :=
  if (nthW e 2).toNat ≤ s.mram.relCnt then s
  else if s.releaseReason e ≠ 0 then (s.event F_REC_EVENT_RELEASE_EVT).raise 0x0B05 (pay [s.releaseReason e])
  else
    let last := (nthW e 3).toNat
    let t := { s with mram := { s.mram with base := last + 1, relCnt := s.mram.relCnt + 1 } }
    (t.event F_REC_EVENT_RELEASE_EVT).record 0x0B82 0 (pay [s.mram.base, last + 1, t.mram.relCnt])

/-- R60, R498: the release that the RECORDER section carries. [Log 84, DEDUCED, unsafe] -/
def State.release (s : State) : State :=
  let ws := s.parGiven 0x1402
  ((entriesOf 8 ws.length ws).filter (fun e => nthW e 0 == toWord s.serial && nthW e 1 == toWord (s.serial / 4294967296))).foldl State.applyRelease s

/-- R56, R309: the S-die takes the SAFETY section once its own check passes; otherwise it keeps the global safe state. -/
def State.handSafety (s : State) (img : List Byte) : State :=
  if sDieAccepts img then
    { s with pins := { s.pins with sit0 := true, sit1 := true },
             saf := { s.saf with params := s.pat.params.filter (fun e => e.1 / 256 == 0x10),
                                 conns := s.saf.conns.map (fun (c : SafeConn) => { c with lastAt := s.tim.el }) } }.each (List.range 8) State.showBrake
  else ({ s with boot := { s.boot with sDieRefused := true } }.globalSafe 2).raise 0x0A01

/-- R95, R275, R342: what else the Pattern fixes in registers: antenna supplies, EXEC_ID and TAI − UTC. The manual does not give the identity of the
ROM firmware that EXEC_ID covers. [Log 80, DESIGN CHOICE, safe] -/
def State.showPattern (s : State) (patch : List Byte) : State :=
  let t := s.each (List.range 4) (fun u n => u.setFlag (F_GNS_ANT_V5 n) (s.par 0x0603 n == 2))
  (t.setReg A_TWN_EXEC (intWord (Config.calc .other (patch.map (fun b => (b.toNat : Int))) 0))).updateUtc

/-- R52: the image of a slot is in use. -/
def State.useImage (s : State) (slot : Nat) (img : List Byte) (records : List (Nat × List Word)) : State :=
  let h := img.take 256
  let id := bytesWords ((h.drop 0x020).take 16)
  let t := { s with
    pat := { loaded := true, slot := slot, seq := imageSeq h, id := id, testPort := leAt h 0x01C 4 == 1, sections := (sectionsOf img).map (fun (e : Section) => e.typ),
             params := records, appcode := bodyOf img 0x16 }
    boot := { s.boot with streaming := 0 } }
  let u := (((t.setFld (stageField slot) 0).setFld F_KPR_PATTERN_SLOT slot).setReg A_KPR_SEQ (toWord (imageSeq h))).setRegs (A_KPR_PATID 0) id
  let v := u.each u.boot.left (fun w k => w.setFld (stageField k) 14)
  if slot = v.boot.firstChoice then v else v.raise 0x0103

/-- R54 step 8, R58, R60: the protection set-up, the moulds, and the settings of every block; step 9: the lock, and the application cores. -/
def State.setUp (s : State) (img : List Byte) (moulds : List (Nat × Mould)) : State :=
  let s1 := ((s.bootStep 8).loadAccess.storeMoulds moulds).handSafety img
  let s2 := ((((s1.setupFields).setupCan).setupSpt).setupNet).setupLoops
  let s3 := ((s2.setupElk.generateScenarios).showPattern (bodyOf img 0x17)).release
  let s4 := (if s3.pat.appcode.isEmpty then s3 else s3.loadApps)
  let s5 := (s4.bootStep 9).setFlag F_KPR_LOCK_LOCKED true
  if s5.pat.appcode.isEmpty then s5 else s5.startApps

/-- R475: the units of the riser-pool map that a reset may return: retired once, and passing the tests of this boot. -/
def State.returning (s : State) (passed : List Nat) : List Nat := passed.filter (fun k => aget 0 s.mram.retired k == 1)

/-- R475: take a unit out of the riser-pool map. -/
def State.returnUnit (s : State) (key : Nat) : State :=
  let m := s.mram
  let inMap := m.riserPairs.any (fun n => keyPair n == key) || m.riserBanks.any (fun n => keyBank n == key) || m.riserLanes.any (fun n => keyLane n == key)
    || m.riserChannels.any (fun n => keyChannel n == key) || m.riserEngines.any (fun n => keyEngine n == key)
  if inMap then
    ({ s with mram := { m with
      riserPairs := m.riserPairs.filter (fun n => keyPair n != key), riserBanks := m.riserBanks.filter (fun n => keyBank n != key)
      riserLanes := m.riserLanes.filter (fun n => keyLane n != key), riserChannels := m.riserChannels.filter (fun n => keyChannel n != key)
      riserEngines := m.riserEngines.filter (fun n => keyEngine n != key) } }.event F_HLT_EVENT_RETEST_EVT).raise 0x0C08 (pay [key])
  else s

/-- R238, R475: the lanes of a cluster in the order in which they enter service: those that the factory made active, its spares, the returned ones. [Log 51, DEDUCED, unsafe] -/
def State.laneOrder (s : State) (returned : List Nat) (c : Nat) : List Nat :=
  let l := ((List.range 18).map (fun j => 18 * c + j)).filter (fun n => !s.mram.riserLanes.contains n)
  l.filter (fun n => !returned.contains (keyLane n)) ++ l.filter (fun n => returned.contains (keyLane n))

/-- R238, R475: place the lanes after a reset: the first 16 of each cluster in service, the rest spare, those of the map retired. [Log 51, DEDUCED, unsafe] -/
def State.placeLanes (s : State) (returned : List Nat) : State :=
  let t := s.each s.mram.riserLanes (fun u n => u.setLane n 2)
  t.each (List.range 4) (fun u c =>
    let l := s.laneOrder returned c
    (u.each (l.take 16) (fun v n => v.setLane n 0)).each (l.drop 16) (fun v n => v.setLane n 1))

/-- R68, R267: a lane fails its known-answer problem of boot step 10: a spare of its cluster takes its place if one is left. [Log 83, DEDUCED, safe] -/
def State.bootLaneFails (s : State) (returned : List Nat) (n : Nat) : State :=
  let t := ({ s with mram := { s.mram with riserLanes := insertNew s.mram.riserLanes n } }.countRetired (keyLane n)).placeLanes returned
  let r := ((List.range 18).map (fun j => 18 * laneCluster n + j)).find? (fun k => t.lane k == 0 && s.lane k != 0)
  let u := (t.event F_SLV_EVENT_LANE_RETIRED).raise 0x1508 (pay [n, r.getD noSpare])
  if r.isSome && (u.clusterSpares (laneCluster n)).isEmpty then u.raise 0x1509 (pay [laneCluster n]) else u

/-- R68, R474: a tracking channel fails its self-test of boot step 10. -/
def State.bootChannelFails (s : State) (n : Nat) : State :=
  let t := ((({ s with mram := { s.mram with riserChannels := insertNew s.mram.riserChannels n } }).countRetired (keyChannel n)).event
    F_GNS_EVENT_CH_RETIRED).raise 0x110D
  let c := chanCluster n
  if t.mram.riserChannels.contains (256 + 2 * c) && t.mram.riserChannels.contains (257 + 2 * c) then t.raise 0x110E else t

/-- R11, R475: the processor pairs that the riser-pool map keeps out; a group without its spare, or the keeper or link pair, is a device fault. [Log 83, DEDUCED, safe] -/
def State.startPairs (s : State) : State :=
  let out := s.mram.riserPairs
  let fusion := (out.filter (fun n => 1 ≤ n && n ≤ 5)).length
  let control := (out.filter (fun n => 6 ≤ n && n ≤ 8)).length
  let t := { s with hlt := { s.hlt with pairsOut := out, fusionSpareUsed := fusion != 0, controlSpareUsed := control != 0 } }
  if out.contains 0 || out.contains 9 then t.deviceFault faultKeeperLink
  else if 2 ≤ fusion || 2 ≤ control then t.deviceFault faultNoPair
  else t

/-- R54 step 10, R475: units retired once that pass return to their pools; units that fail are retired (R68). -/
def State.startTests (s : State) (tests : StartTests) : State :=
  let back := s.returning tests.retestPassed
  let s1 := s.each back State.returnUnit
  let s2 := (s1.placeLanes back).startPairs
  let s3 := s2.each (tests.failedLanes.filter (fun n => n < 72 && !s2.mram.riserLanes.contains n)) (fun t n => t.bootLaneFails back n)
  let s4 := s3.each (tests.failedChannels.filter (fun n => n < 272 && !s3.mram.riserChannels.contains n)) State.bootChannelFails
  s4.each (tests.failedPairs.filter (fun n => n ≤ 10 && !s4.hlt.pairsOut.contains n)) State.pairFails

/-- R495: the power-up record. -/
def State.powerUpRecord (s : State) : State :=
  s.record 0x0B80 0 ([s.reg A_KPR_RESETCAUSE, s.reg A_KPR_SEQ] ++ s.regRun (A_KPR_PATID 0) 4 ++ [s.reg A_KPR_BOOTSTAT])

/-- R358: the first source in TIM_SRC_PRIO with a valid offset sets working time before the first freeze. -/
def State.firstTime (s : State) : State :=
  match s.srcPrio.find? (fun n => (s.src n).valid) with
  | some n => s.setTimeDirect (s.srcOfs n)
  | none => s

/-- R54 steps 10 to 12: self-tests, field channels, the power-up record, the panel and the time; then the wait for the partner, or the first cycle
boundary. -/
def State.startRunning (s : State) (tests : StartTests) : State :=
  let s1 := (s.bootStep 10).startTests tests
  if s1.dev.st != .boot then s1
  else
    let s2 := (s1.startFields).powerUpRecord
    let s3 := ({ s2 with ann := { s2.ann with enabled := true } }.panelStart).firstTime
    if s3.paired then { s3.bootStep 11 with boot := { s3.boot with waitingTwin := true, step11At := s3.tim.el } }
    else s3.readyAt (boundaryAt s3.tim.wt (modePeriod s3.startMode))

/-- R52: the slot that was read fails: the other one is read if it passed stages 1 to 4 and has not been read. -/
def State.nextSlot (s : State) (slot stage : Nat) : State :=
  let t := (s.slotStage slot stage).bootStep (if stage < 10 then s.fld F_KPR_BOOTSTAT_STEP else 7)
  match t.boot.left with
  | k :: r => { t with boot := { t.boot with streaming := k, left := r } }
  | [] => ({ t with boot := { t.boot with streaming := 0 } }).noSlot

/-- SLOT_STREAM_END (R51, R52): stages 5 to 11 of the slot that was read; a valid image is put to use in steps 7 to 12. [Log 78, DEDUCED, unsafe] -/
def execSlotStreamEnd (tests : StartTests) (s : State) : Host.Outcome State Fault Refusal :=
  .next (
    let slot := s.boot.streaming
    if slot = 0 || s.dev.st != .boot then s
    else
      let img := s.slotBytes slot (imageLen (s.slotHeader slot))
      let stage := if s.streamStage img tests = 0 then s.placedStage img tests else s.streamStage img tests
      if stage ≠ 0 then s.nextSlot slot stage
      else match imageRecords img, mouldsOf (mouldPids.map (fun p => aget [] ((imageRecords img).getD []) p)) with
        | some l, some m => ((((s.bootStep 7).useImage slot img l).setUp img m)).startRunning tests
        | _, _ => s.nextSlot slot 10)

/-- R57: the limit of the boot after time 0. -/
def State.bootLimit (s : State) : Nat := if s.boot.octal then 5 * sec else 30 * sec

/-- BOOT_TIMEOUT (R57). -/
def execBootTimeout (s : State) : Host.Outcome State Fault Refusal :=
  .next (if s.boot.started && !s.boot.halted && s.dev.st == .boot then
    ((s.reachEl (s.boot.time0 + s.bootLimit)).raise 0x0107).bootToSafe else s)

end Sys2Proof.Machine
end

