-- ==== Sys2Proof/Machine/Bus.lean ====
section
/-! DEFINITION. Reads and writes of the device address space by any master (R4 to R7, R24, R33, R34, R461): what every register shows, what a read
or a write of it does, the State Image window and its views (R460). -/
namespace Sys2Proof.Machine

/-- Which element of an array at `base` with stride `st` and `n` elements an address is. -/
def indexIn (base st n a : Nat) : Option Nat := if inArray base st n a then some ((a - base) / st) else none

/-- The buffer of a view. -/
def State.viewBuf (s : State) (v : View) : Sparse 32 := if v.buf = 0 then s.sti.bufA else s.sti.bufB

/-- R460: open or re-pin the view of master `m` on the front buffer. -/
def State.openView (s : State) (m : Nat) : State :=
  { s with sti := { s.sti with views := aset s.sti.views m ⟨s.sti.front, (s.reg A_STI_EPOCH).toNat, true⟩ } }

/-- R460: end the view of master `m`. -/
def State.closeView (s : State) (m : Nat) : State := { s with sti := { s.sti with views := adel s.sti.views m } }

/-- A write of STI_VIEW_CTRL: CLOSE ends the view, OPEN pins. -/
def State.viewWrite (s : State) (m : Nat) (v : Word) : State :=
  let t := if tbit v.toNat 1 then s.closeView m else s
  if tbit v.toNat 0 then t.openView m else t

/-- R461: a read of the State Image window at a byte offset. Without an intact view it is an error: counted, with an alarm at most once per
master per minute, and no refusal of the access tables. -/
def State.windowWord (s : State) (m ofs : Nat) : State × Nat × Word :=
  match afind s.sti.views m with
  | some ⟨b, e, true⟩ => (s, accOk, memGet zeroCell (s.viewBuf ⟨b, e, true⟩) (ofs / 4))
  | _ =>
    let t := s.bump F_STI_REFUSED_COUNT
    (if t.limited t.sti.alarmAt m (60 * sec) then
      ({ t with sti := { t.sti with alarmAt := aset t.sti.alarmAt m t.tim.el } }).raise 0x1701 (pay [m])
    else t, accRefused, 0#32)

/-- CTL_STATE. -/
def State.ctlStateWord (s : State) : Word :=
  toWord (stateCode s.dev.st + 16 * s.shownMode + 256 * bit s.holds + 65536 * s.dev.command)

/-- TWN_STATUS: the bits that other state determines, beside those of the register. -/
def State.twnStatusWord (s : State) : Word :=
  let w := s.reg A_TWN_STATUS
  fieldIn (fieldIn (fieldIn (fieldIn w F_TWN_STATUS_LINK_UP (bit s.linkUp)) F_TWN_STATUS_LEAD (bit s.isLead)) F_TWN_STATUS_HOLDER (bit s.holds))
    F_TWN_STATUS_PAIRED (bit s.paired)

/-- TWN_LEASE: the age of the last renewal and what is left, in 0.1 ms. -/
def State.leaseWord (s : State) : Word :=
  match (if s.holds then s.saf.leaseFrom else s.twn.renewRxAt) with
  | some t => halves (((if s.holds then 60 * ms else 70 * ms) - (s.tim.el - t)) / 100000) (Nat.min 65535 ((s.tim.el - t) / 100000))
  | none => halves 0 65535

/-- TSU_CAPk_CFG: the queue's level and the edge of its head, beside the register's own fields. -/
def State.capCfgWord (s : State) (k : Nat) : Word :=
  let q := s.cap k
  let w := fieldIn (s.reg (A_TSU_CAP_CFG k)) (F_TSU_CAP_CFG_LEVEL k) q.length
  fieldIn w (F_TSU_CAP_CFG_HEAD_EDGE k) (match q with
    | e :: _ => bit e.2
    | [] => 0)

/-- INTC_tSTAT. -/
def State.targetWord (s : State) (t : Nat) : Word :=
  let g := s.target t
  toWord (g.stack.length + 32 * bit g.frozen + 64 * bit g.line + 128 * bit (s.targetIsIdle t) + 65536 * (s.assignedTo t).length)

/-- INTC_SRCs_CFG. -/
def State.sourceWord (s : State) (n : Nat) : Word :=
  let w := fieldIn (s.reg (A_INTC_SRC_CFG n)) (F_INTC_SRC_CFG_ASSERTED n) (bit (s.asserted n))
  fieldIn (fieldIn w (F_INTC_SRC_CFG_PENDING n) (bit (s.pendingSource n))) (F_INTC_SRC_CFG_IN_SERVICE n) (bit (s.inService n))

/-- HST_STATUS. -/
def State.hstWord (s : State) : Word :=
  let n := s.hst.buffer.length
  let w := fieldIn (fieldIn (s.reg A_HST_STATUS) F_HST_STATUS_FREE (512 - n)) F_HST_STATUS_WBUSY (bit (n != 0))
  fieldIn w F_HST_STATUS_HIDLE (bit s.hst.hidle)

/-- REC_STATUS. -/
def State.recWord (s : State) : Word :=
  toWord (s.recUsed + 262144 * bit (decide (117965 ≤ s.recUsed)) + 524288 * bit s.recFull)

/-- ANN_STATUS. -/
def State.annWord (s : State) : Word :=
  let w := fieldIn (s.reg A_ANN_STATUS) F_ANN_STATUS_HELD (maskOf (s.ann.held.map (·.1)))
  fieldIn (fieldIn w F_ANN_STATUS_PENDING (maskOf (s.ann.pending.map (·.1)))) F_ANN_STATUS_BUSY (bit s.ann.running.isSome)

/-- What STI_VIEW shows master `m`. [Log 8, DESIGN CHOICE, safe] -/
def State.viewWord (s : State) (m : Nat) : Word :=
  match afind s.sti.views m with
  | some v => toWord (1 + 2 * bit v.intact)
  | none => 0#32

/-- What STI_VIEW_EP shows master `m`. -/
def State.viewEpWord (s : State) (m : Nat) : Word :=
  match afind s.sti.views m with
  | some v => toWord v.epoch
  | none => 0#32

/-- An entry of a claim stack, 0 where there is none. -/
def State.stackEntry (s : State) (t k : Nat) : Nat := nth (s.target t).stack k

/-- What a register of blocks GLB, KPR, TSU or INTC shows. -/
def State.shownLow (s : State) (a : Nat) : Word :=
  if a = A_GLB_SERIAL0 then toWord s.serial
  else if a = A_GLB_SERIAL1 then toWord (s.serial / 4294967296)
  else if a = A_TSU_NS then toWord (tsuNs s.tim.wt / 2 * 2)
  else match indexIn (A_KPR_DEVKEY 0) 4 8 a, indexIn (A_TSU_CAP_CFG 0) 16 8 a, indexIn (A_INTC_T_STAT 0) 256 4 a,
      indexIn (A_INTC_T_STACK0 0) 256 4 a, indexIn (A_INTC_T_STACK1 0) 256 4 a, indexIn (A_INTC_SRC_CFG 0) 4 384 a with
  | some k, _, _, _, _, _ => nthW s.devKey k
  | _, some k, _, _, _, _ => s.capCfgWord k
  | _, _, some t, _, _, _ => s.targetWord t
  | _, _, _, some t, _, _ => halves (s.stackEntry t 0) (s.stackEntry t 1)
  | _, _, _, _, some t, _ => halves (s.stackEntry t 2) (s.stackEntry t 3)
  | _, _, _, _, _, some n => s.sourceWord n
  | none, none, none, none, none, none => s.reg a

/-- What a register of blocks TWN, CAN, REC, HLT, ANN or HST shows. -/
def State.shownMid (s : State) (a : Nat) : Word :=
  if a = A_TWN_STATUS then s.twnStatusWord
  else if a = A_TWN_LADLE then toWord s.twn.ladleEp
  else if a = A_TWN_LEASE then s.leaseWord
  else if a = A_REC_STATUS then s.recWord
  else if a = A_REC_NEXT then toWord s.mram.next
  else if a = A_REC_BASE then toWord s.mram.base
  else if a = A_REC_REL_CNT then toWord s.mram.relCnt
  else if a = A_ANN_STATUS then s.annWord
  else if a = A_HLT_HOURS then toWord s.opHours
  else if a = A_HST_STATUS then s.hstWord
  else if 0x70000 ≤ a && a < 0x76000 then
    let c := (a - 0x70000) / 4096
    let o := (a - 0x70000) % 4096
    if o = 0 then fieldIn (s.reg a) (F_CAN_STATUS_TM c) (bit (s.tmOn c))
    else match indexIn 0x40 4 20 o with
      | some k => s.q1Word c k
      | none => s.reg a
  else match indexIn (A_REC_WIN 0) 4 1024 a, indexIn (A_HLT_SELFTEST 0) 4 32 a, indexIn (A_ANN_SHOWN_W 0 0) 4 32 a with
    | some j, _, _ => memGet zeroCell s.mram.area (1024 * s.fld F_REC_PAGE_PAGE + j)
    | _, some w, _ => s.selftestWord w
    | _, _, some k => if k % 4 = 3 then 0#32 else nthW (s.shown (k / 4)) (k % 4)
    | none, none, none => s.reg a

/-- What a register of blocks FCH, GNS or CTL shows. -/
def State.shownHigh (s : State) (a : Nat) : Word :=
  if a = A_CTL_STATE then s.ctlStateWord
  else match indexIn (A_FCH_STATUS 0) 256 128 a, indexIn (A_GNS_SNAP_WIN 0) 4 1024 a, indexIn (A_CTL_CAP_WIN 0) 4 1024 a with
  | some n, _, _ => fieldIn (s.reg a) (F_FCH_STATUS_DRIVE n) (bit (s.fchDrives n))
  | _, some j, _ => s.snapWord (1024 * s.fld F_GNS_SNAP_PAGE_PAGE + j)
  | _, _, some j => s.captureWord j
  | none, none, none => s.reg a

/-- The word that stands at an address as master `m` sees it, before the access types of its fields. -/
def State.shownWord (s : State) (m a : Nat) : Word :=
  if a = A_STI_VIEW then s.viewWord m
  else if a = A_STI_VIEW_EP then s.viewEpWord m
  else if appmBase ≤ a then BitVec.ofNat 32 (leNat (memGetRun zeroCell 1 s.appm a 4))
  else if a < 0x40000 then s.shownLow a
  else if a < 0x100000 then s.shownMid a
  else s.shownHigh a

/-- R4, R6: a read that the tables allow, with what it does. A claim, a capture queue and the State Image window have rules of their own; at an
address of a block at which the manual lists no register a read gives 0. [Log 7, DEDUCED, unsafe] -/
def State.readAt (s : State) (m a : Nat) : State × Nat × Word :=
  if stiBase ≤ a && a < stiBase + 65536 then s.windowWord m (a - stiBase)
  else match indexIn (A_INTC_T_CLAIM 0) 256 4 a, indexIn (A_TSU_CAP_NS 0) 16 8 a with
  | some t, _ => let r := s.claimRead t; (r.1, accOk, r.2)
  | _, some k => let r := s.capRead k; (r.1, accOk, r.2)
  | none, none =>
    if appmBase ≤ a then (s, accOk, s.shownWord m a)
    else match regAt a with
      | some r => (s.clearOnRead a, accOk, typedValue r (s.shownWord m a))
      | none => (s, accOk, 0#32)

/-- R4: HST status bits clear with their event bits. -/
def State.hstEventWrite (s : State) (v : Word) : State :=
  let t := s.typedWrite A_HST_EVENT v
  let u := t.when (tbit v.toNat 0) (fun x => x.setFlag F_HST_STATUS_ERR false)
  let w := u.when (tbit v.toNat 1) (fun x => x.setFlag F_HST_STATUS_OVF false)
  w.when (tbit v.toNat 2) (fun x => x.setFlag F_HST_STATUS_FRAME false)

/-- R410: a write of FCH_nOUT: it commands the output only where SRC is 0. -/
def State.fchOutWrite (s : State) (n : Nat) (v : Word) : State :=
  let t := s.setReg (A_FCH_OUT n) v
  if t.fld (F_FCH_CFG_SRC n) = 0 then t.driveField n v.toInt else t

/-- R94: a write of CTL_OMB_CTRL: DONE clears where it is written 1, and SUBMIT submits. -/
def State.boxWrite (s : State) (k : Nat) (v : Word) : State :=
  let t := s.typedWrite (A_CTL_OMB_CTRL k) v
  if tbit v.toNat 0 then t.submitBox k else t

/-- R425, R427: a write of INTC_tCTRL. [Log 76, DEDUCED, safe] -/
def State.intcCtrlWrite (s : State) (t : Nat) (v : Word) : State :=
  let u := s.typedWrite (A_INTC_T_CTRL t) v
  if tbit v.toNat 0 then u.unfreezeTarget t else u

/-- What a write to a register of an array does whose rule goes beyond its fields' access types; none for the other registers. -/
def State.arrayWrite (s : State) (a : Nat) (v : Word) : Option State :=
  match indexIn (A_CTL_OMB_CTRL 0) 256 3 a with
  | some k => some (s.boxWrite k v)
  | none => match indexIn (A_TSU_CMP_CFG 0) 16 16 a with
    | some k => some (s.enableUnit k v)
    | none => match indexIn (A_INTC_T_COMPLETE 0) 256 4 a with
      | some t => some (s.completeWrite t (bits v 8 0))
      | none => match indexIn (A_INTC_T_CTRL 0) 256 4 a with
        | some t => some (s.intcCtrlWrite t v)
        | none => match indexIn (A_CAN_Q1_CTRL 0) 4096 6 a with
          | some c => some (s.q1Write c v)
          | none => match indexIn (A_FCH_OUT 0) 256 128 a with
            | some n => some (s.fchOutWrite n v)
            | none => none

/-- What a write to a register whose rule goes beyond its fields' access types does; none for the other registers. -/
def State.ruledWrite (s : State) (m a : Nat) (v : Word) : Option State :=
  if a = A_KPR_APPCTL then some (s.appctlWrite v)
  else if a = A_KPR_FLW_CTRL then some (s.flwWrite v)
  else if a = A_GNS_SNAP_CTRL then some (s.snapWrite v)
  else if a = A_SLV_SUBMIT then some (s.slvPush (.submit (64 * bits v 21 6) m))
  else if a = A_SLV_FILL then some (s.slvPush (.fill (4 * bits v 21 2)))
  else if a = A_INTC_SWSET then some (s.doorbellWrite v)
  else if a = A_ANN_COMMIT then some (s.commitWrite v)
  else if a = A_ETH_MDIO then some (s.mdioWrite v)
  else if a = A_STI_VIEW_CTRL then some (s.viewWrite m v)
  else if a = A_HST_EVENT then some (s.hstEventWrite v)
  else s.arrayWrite a v

/-- R4, R5, R461, R467, R468: a write that the tables allow, with its outcome. The State Image window takes no writes, and a register with an RWL
field none after the lock. -/
def State.writeAt (s : State) (m a : Nat) (v : Word) : State × Nat × Word :=
  if (stiBase ≤ a && a < stiBase + 65536) || (s.locked && ((regAt a).map RegRow.isRwl).getD false) then
    (s.refuse ((regionOf a).getD 0) m a true, accRefused, 0#32)
  else if appmBase ≤ a then ({ s with appm := memSetRun zeroCell 1 s.appm a (wordBytes v) }, accOk, 0#32)
  else match s.ruledWrite m a v with
    | some t => (t.settleSources.updateTimers, accOk, 0#32)
    | none => ((s.typedWrite a v).settleSources.updateTimers, accOk, 0#32)

/-- R431: an address that no fabric request can carry. [Log 72, DEDUCED, safe] -/
def beyondFabric (a : Nat) : Bool := 4294967296 ≤ a

/-- A read by master `m`: the new state, the outcome and the value. -/
def State.busRead (s : State) (m a : Nat) : State × Nat × Word :=
  if beyondFabric a then (s, accRefused, 0#32) else s.accessWith m a false (fun t => t.readAt m a)

/-- A write by master `m`. -/
def State.busWrite (s : State) (m a : Nat) (v : Word) : State × Nat × Word :=
  if beyondFabric a then (s, accRefused, 0#32) else s.accessWith m a true (fun t => t.writeAt m a v)

/-- REGISTER_READ (R4 to R7, R33, R34, R470). [Log 72, DEDUCED, safe] -/
def execRegisterRead (master addr : Nat) (s : State) : Host.Outcome State Fault Refusal :=
  .next (let r := s.busRead master addr
    r.1.complete master false addr r.2.1 r.2.2)

/-- REGISTER_WRITE (R4 to R7, R33, R34, R470). [Log 72, DEDUCED, safe] -/
def execRegisterWrite (master addr : Nat) (value : Word) (s : State) : Host.Outcome State Fault Refusal :=
  .next (let r := s.busWrite master addr value
    r.1.complete master true addr r.2.1 value)

/-- VIEW_OPEN (R460). -/
def execViewOpen (master : Nat) (s : State) : Host.Outcome State Fault Refusal :=
  .next (s.commandWrite master A_STI_VIEW_CTRL 1#32 (fun t => t.openView master))

/-- VIEW_CLOSE (R460). -/
def execViewClose (master : Nat) (s : State) : Host.Outcome State Fault Refusal :=
  .next (s.commandWrite master A_STI_VIEW_CTRL 2#32 (fun t => t.closeView master))

/-- WINDOW_READ (R461): a read at a byte offset of the window, which is 64 KiB long. -/
def execWindowRead (master offset : Nat) (s : State) : Host.Outcome State Fault Refusal :=
  .next (let a := stiBase + offset % 65536
    let r := s.busRead master a
    r.1.complete master false a r.2.1 r.2.2)

/-- FABRIC_TIMEOUT (R24): a request without a response 20 µs after its issue completes with an error. [Log 75, DEDUCED, unsafe] -/
def execFabricTimeout (master region : Nat) (s : State) : Host.Outcome State Fault Refusal :=
  .next (((s.reachEl (s.tim.el + 20000)).raise 0x0004 (pay [master, region])).complete master false 0 accTimeout 0#32)

end Sys2Proof.Machine
end

