-- ==== Sys2Proof/Machine/Service.lean ====
section
/-! DEFINITION. The register service (R378) and its use by Eloaset (R454): the accesses of a request and its response. -/
namespace Sys2Proof.Machine

/-- R378: the STATUS of an outcome that stops a request. -/
def serviceStatus (outcome : Nat) : Nat := if outcome = accUnmapped then 2 else if outcome = accUnaligned then 3 else 1

/-- R378: read `n` words in ascending order, up to the first that fails: the status and the words. -/
def State.serveReads : Nat → State → Nat → Nat → State × Nat × List Word
  | 0, s, _, _ => (s, 0, [])
  | n + 1, s, m, a =>
    let r := s.busRead m a
    if r.2.1 = accOk then
      let u := State.serveReads n r.1 m (a + 4)
      (u.1, u.2.1, r.2.2 :: u.2.2)
    else (r.1, serviceStatus r.2.1, [])

/-- R378: write words in ascending order, up to the first that fails: the status and how many were written. -/
def State.serveWrites : List Word → State → Nat → Nat → State × Nat × Nat
  | [], s, _, _ => (s, 0, 0)
  | w :: l, s, m, a =>
    let r := s.busWrite m a w
    if r.2.1 = accOk then
      let u := State.serveWrites l r.1 m (a + 4)
      (u.1, u.2.1, u.2.2 + 1)
    else (r.1, serviceStatus r.2.1, 0)

/-- R378: the words of a response. -/
def responseFrame (op seq addr status count : Nat) (data : List Word) : List Word :=
  let w := [BitVec.ofNat 32 (0x5653 + 65536 * ((op + 0x80) % 256) + 16777216 * status), toWord seq, toWord addr, toWord count] ++ data
  w ++ [crcWords w]

/-- R378: the format of a request: 1 to `most` words at an aligned address, and as many data words as it writes. [Log 74, DEDUCED, unsafe] -/
def serviceFormat (op addr count most : Nat) (data : List Word) : Bool :=
  (op == 1 || op == 2) && 1 ≤ count && count ≤ most && addr % 4 == 0 && data.length == (if op = 2 then count else 0)

/-- R378: perform a well-formed request as master `m`, and the response. -/
def State.serve (s : State) (m op seq addr count : Nat) (data : List Word) : State × List Word :=
  if op = 1 then
    let r := State.serveReads count s m addr
    (r.1, responseFrame op seq addr r.2.1 r.2.2.length r.2.2)
  else
    let r := State.serveWrites data s m addr
    (r.1, responseFrame op seq addr r.2.1 r.2.2 [])

/-- R378: the service answers on this port. -/
def State.serviceOn (s : State) (port : Nat) : Bool :=
  port < 3 && s.ethOn port && tbit (s.par 0x0B08 1) (if port = 2 then 1 else 0)

/-- R378: a client the service answers. -/
def State.serviceClient (s : State) (client : Nat) : Bool :=
  let l := s.parGiven 0x0B09
  l.isEmpty || l.any (fun w => w.toNat == client)

/-- R378: answer a request that is not a repetition, and keep the response. [Log 74, DEDUCED, unsafe] -/
def State.serviceNew (s : State) (op : Nat) (req : SvcReq) : State :=
  let good := req.magicOk && req.crcOk && req.op == op && serviceFormat op req.addr req.count 256 req.data
  let r := if !good then (s, responseFrame req.op req.seq req.addr 3 0 [])
    else if op = 2 && !tbit (s.par 0x0B08 2) 0 then (s, responseFrame op req.seq req.addr 4 0 [])
    else s.serve mEthSvc op req.seq req.addr req.count req.data
  let t := { r.1 with net := { r.1.net with clients := aset r.1.net.clients req.client ⟨req.seq, r.1.tim.el, wordData r.2⟩ } }
  t.udpSend (req.port == 2) req.client .svcResponse (wordData r.2)

/-- R378: a request of the register service with operation `op`. One with the SEQ of the client's last request within 1 s of it is answered from the stored
response. [Log 74, DEDUCED, unsafe] -/
def State.service (s : State) (op : Nat) (req : SvcReq) : State :=
  if !s.serviceOn req.port || !s.serviceClient req.client then s
  else
    let t := s.reach req.stamp
    match afind t.net.clients req.client with
    | some l => if l.seq = req.seq && t.tim.el ≤ l.stamp + sec then t.udpSend (req.port == 2) req.client .svcResponse l.response else t.serviceNew op req
    | none => t.serviceNew op req

/-- SERVICE_READ (R378): OP 1. -/
def execServiceRead (req : SvcReq) (s : State) : Host.Outcome State Fault Refusal := .next (s.service 1 req)

/-- SERVICE_WRITE (R378): OP 2. -/
def execServiceWrite (req : SvcReq) (s : State) : Host.Outcome State Fault Refusal := .next (s.service 2 req)

end Sys2Proof.Machine
end

