-- ==== Sys2Proof/Machine/Eloaset.lean ====
section
/-! DEFINITION. What an Eloaset member does with what arrives (R435 to R438, R443, R444, R448, R449, R454). -/
namespace Sys2Proof.Machine

/-- R449: the set of a full epoch has closed. A publication that arrives in the tick of closing counts in time. [Log 64, DESIGN CHOICE, safe] -/
def State.setClosed (s : State) (e : Nat) : Bool :=
  e < s.elk.closedTo || decide (s.closingTime e < s.tim.wt)

/-- R447: TIME_DEG of a unit's publication: reported once per onset. -/
def State.noteDegraded (s : State) (unit : Nat) (deg : Bool) : State :=
  if deg && !s.elk.degraded.contains unit then
    (({ s with elk := { s.elk with degraded := s.elk.degraded ++ [unit] } }).event F_ELK_EVENT_TIME_DEG).raise 0x0509 (pay [unit])
  else if deg then s
  else { s with elk := { s.elk with degraded := remove s.elk.degraded unit } }

/-- R449: a publication is dropped because no buffer is open for its epoch. [Log 64, DESIGN CHOICE, safe] -/
def State.dropPublication (s : State) (late : Bool) : State :=
  let t := if late then s.bump F_ELK_LATE_LATE else { s with elk := { s.elk with early := s.elk.early + 1 } }
  (t.event F_ELK_EVENT_EPOCH).minuteAlarm 0x0507 []

/-- R446, R449: a publication of a subscribed unit goes to the buffer of its epoch. [Log 64, DESIGN CHOICE, safe] -/
def State.takePublication (s : State) (r : List Word) : State :=
  let unit := bits (nthW r 0) 15 0 / 2 * 2
  if r.length != 16 || crcWords (r.take 15) != nthW r 15 || !s.subUnits.contains unit then s
  else
    let e := s.fullEpoch (nthW r 1).toNat
    if s.setClosed e then s.dropPublication true
    else if s.formEpoch + 1 < e then s.dropPublication false
    else
      let t := { s with elk := { s.elk with bufs := aset s.elk.bufs e (aset (aget [] s.elk.bufs e) unit r) } }
      t.noteDegraded unit (tbit (nthW r 0).toNat 29)

/-- R448: a SUB refreshes or enters its sender in the table of 64, and is answered with SUB_ACK: 0 accepted, 1 FULL. [Log 63, DEDUCED, unsafe] -/
def State.takeSub (s : State) (src : Nat) : State :=
  if (afind s.elk.table src).isSome || s.elk.table.length < 64 then
    (({ s with elk := { s.elk with table := aset s.elk.table src s.tim.el } }).showTable).sendOwn src 3 [0#32]
  else s.sendOwn src 3 [1#32]

/-- R448: every subscription is accepted. -/
def State.allAcked (s : State) : Bool := (List.range s.subUnits.length).all (fun k => s.flag (F_ELK_SUB_STAT_ACKED k))

/-- R448: a SUB_ACK of a subscribed unit. -/
def State.takeSubAck (s : State) (src : Nat) (data : List Word) : State :=
  let unit := src / 2 * 2
  let k := s.subIndex unit
  if !s.subUnits.contains unit then s
  else if nthW data 0 = 0#32 then
    let t := ({ s with elk := { s.elk with acks := aset s.elk.acks unit s.tim.el, failed := remove s.elk.failed unit } }).setFlag (F_ELK_SUB_STAT_ACKED k) true
    let u := t.setFlag (F_ELK_SUB_STAT_FULL k) false
    if u.allAcked then u.causeGone 0x0505 else u
  else ((s.setFlag (F_ELK_SUB_STAT_FULL k) true).event F_ELK_EVENT_SUB_FAIL).raise 0x0508 (pay [unit])

/-- R454: a remote register service request: performed as ELOA and answered only if ELK_SVC permits the operation and the sender. [Log 74, DEDUCED, unsafe] -/
def State.takeSvcReq (s : State) (src : Nat) (w : List Word) : State :=
  let op := bits (nthW w 0) 23 16
  let lim := s.parW 0x0A0E 1
  let permitted := (op == 1 || op == 2) && tbit (s.par 0x0A0E 0) (op - 1) && bits lim 15 0 ≤ src && src ≤ bits lim 31 16
  if !permitted then s
  else
    let seq := (nthW w 1).toNat
    let addr := (nthW w 2).toNat
    let count := bits (nthW w 3) 15 0
    let data := (w.drop 4).dropLast
    let good := bits (nthW w 0) 15 0 == 0x5653 && 5 ≤ w.length && crcWords w.dropLast == w.getLastD 0#32 && serviceFormat op addr count 55 data
    let r := if good then s.serve mEloa op seq addr count data else (s, responseFrame op seq addr 3 0 [])
    r.1.sendOwn src 5 r.2

/-- R441: consume a packet for this member. An SVC_RSP answers a request of software, which no rule gives a use here. [Log 65, DEDUCED, unsafe] -/
def State.consume (s : State) (k : Packet) : State :=
  if k.typ = 1 then s.takePublication k.data
  else if k.typ = 2 then s.takeSub k.src
  else if k.typ = 3 then s.takeSubAck k.src k.data
  else if k.typ = 4 then s.takeSvcReq k.src k.data
  else s

/-- R442: a packet is consumed or routed. `input`: where it came from (0 ELK0, 1 ELK1, 2 UDP). -/
def State.takePacket (s : State) (input : Nat) (k : Packet) : State := if k.dst = s.member then s.consume k else s.forward input k

/-- R436: the acknowledgement of a frame covers a held frame of its channel: its number is not above the acknowledged one. -/
def ackCovers (ack : Nat) (e : ElkFrame) : Bool := (ack + 65536 - e.seq % 65536) % 65536 < 32768

/-- R435, R438: what the header of an arriving frame tells a port: frames acknowledged and credits freed. -/
def ElkPort.takeHeader (p : ElkPort) (h : LinkHeader) : ElkPort :=
  { p with
    crcRun := 0
    held := p.held.filter (fun e => e.vc != h.vc || !ackCovers h.ack e)
    freed := h.credits.mapIdx (fun v c => (v, c)) }

/-- R435 to R438: a frame of port `p` with a matching CRC: acknowledgement, credits, and delivery in sequence order. [Log 63, DEDUCED, unsafe] -/
def State.takeFrame (s : State) (p : Nat) (h : LinkHeader) (k : Packet) : State :=
  let t := s.setElkPort p (fun q => q.takeHeader h)
  if h.seq = aget 0 (t.elkPort p).rxSeq h.vc then
    let u := t.setElkPort p (fun q => { q with
      rxSeq := aset q.rxSeq h.vc ((h.seq + 1) % 65536)
      freeing := aset q.freeing h.vc ((aget 0 q.freeing h.vc + unitsOf k.data.length) % 256) })
    ((u.bump (F_ELK_P_RX_COUNT p)).takePacket p k).elkPush p
  else t.elkPush p

/-- R436: a frame of port `p` fails its CRC; the sixteenth in a row makes the port lost. -/
def State.frameBroken (s : State) (p : Nat) : State :=
  let t := (s.bump (F_ELK_P_CRC_COUNT p)).setElkPort p (fun q => { q with crcRun := q.crcRun + 1 })
  if 16 ≤ (t.elkPort p).crcRun then t.losePort p else t

/-- ELK_PACKET (R435 to R438, R442): a frame is received whole on a port that is up. -/
def execElkPacket (port : Nat) (header : LinkHeader) (packet : Packet) (s : State) : Host.Outcome State Fault Refusal :=
  .next (if !s.elkIsUp port then s else if !header.crcOk then s.frameBroken port else s.takeFrame port header packet)

/-- ELK_UDP_DATAGRAM (R444): one whose hop sequence number is not above the last accepted one is dropped. -/
def execElkUdpDatagram (peer vc hopSeq : Nat) (packet : Packet) (s : State) : Host.Outcome State Fault Refusal :=
  .next (
    let key := 4 * peer + vc
    if !s.elkOn 2 || (s.parGiven 0x0A09).length ≤ peer then s
    else if hopSeq ≤ aget 0 s.elk.rxHop key then s.bump F_ELK_UDP_DROP_COUNT
    else (({ s with elk := { s.elk with rxHop := aset s.elk.rxHop key hopSeq } }).bump F_ELK_UDP_RX_COUNT).takePacket 2 packet)

end Sys2Proof.Machine
end

