-- ==== Sys2Proof/Machine/Freeze.lean ====
section
/-! DEFINITION. The freeze that opens a cycle (R26 to R32, R73, R77, R79), with the first freeze after boot (R54, R56). -/
namespace Sys2Proof.Machine

/-- R56: what keeps the S-die from releasing SAFE_n: the cause of R334 that holds now. Cause 2 is that of a failed start check. -/
def State.armedCause (s : State) : Option Nat :=
  if s.boot.sDieRefused then some 2
  else if !s.flag F_GLB_STATUS_CLKMON_OK then some 1
  else if (List.range 8).any (fun n => (s.brake n).degr == 3) then some 4
  else if (List.range 16).any (fun n => s.sipUsed n && s.pairDemand n && bits (s.safPar (0x1020 + n) 2) 0 0 == 1) then some 5
  else if s.saf.ownFault then some 9
  else none

/-- R56: the S-die ends the global safe state and releases SAFE_n. -/
def State.releaseSafe (s : State) : State :=
  ({ s with pins := { s.pins with safeN := true } }.setFlag F_SAF_STATUS_SAFE false).setFld F_SAF_CAUSE_CAUSE 0

/-- R73 T2 at boot step 12: the S-die refused (R56). A failed start check has been recorded before. [Log 78, DEDUCED, unsafe] -/
def State.refusedAtStep12 (s : State) (cause : Nat) : State :=
  let t := s.setFld F_KPR_BOOTSTAT_STATE 4
  (if cause = 2 then t else (((t.setFld F_SAF_CAUSE_CAUSE cause).setFlag F_SAF_STATUS_SAFE true).event F_SAF_EVENT_SAFE_EVT).raise 0x0A04 (pay [cause])).inSafeState

/-- R490: a shutdown that was latched before the reset, on a device that is still hot, takes T7 at the first freeze. -/
def State.hotRestart (s : State) : State :=
  if s.mram.shutdown then
    if (List.range 8).any (fun n => (10 * s.par 0x0821 : Int) < s.nodeTemp n) then
      ((s.setFlag F_HLT_STATUS_SHUTDOWN true).enterSafe).raise 0x0C03
    else { s with mram := { s.mram with shutdown := false } }
  else s

/-- R73 T1 (R54, R56): the device enters ARMED. [Log 16, DEDUCED, unsafe] -/
def State.enterArmed (s : State) : State :=
  let t := s.releaseSafe
  let u := { t with dev := { t.dev with st := .armed, mode := t.startMode, joystick := [0, 0, 0], fresh := true } }
  let v := (u.setFld F_KPR_BOOTSTAT_STATE 1).setFld F_KPR_BOOTSTAT_ELAPSED_MS (Nat.min 65535 ((u.tim.el - u.clk.pgAt) / ms))
  v.gnsPowerUp.hotRestart

/-- R54 step 12: the first freeze. A common start begins in step with an empty slag list (R277, R300). [Log 17, DEDUCED, safe] -/
def State.firstFreeze (s : State) : State :=
  let common := s.twn.startAt.isSome
  let t := { s with boot := { s.boot with readyForFreeze := false },
                    dev := { s.dev with cycling := true }, twn := { s.twn with startAt := none }, rcd := { s.rcd with anchorDue := true } }.calibrate
  let u := if common then (t.setFlag F_TWN_STATUS_IN_STEP true).clearSlag else t
  match u.armedCause with
  | some c => u.refusedAtStep12 c
  | none => u.enterArmed

/-- R26, R31, R279, R287: a cycle opens: its epoch, its items, and nothing compared, verified or posed yet. [Log 68, DEDUCED, unsafe] -/
def State.openCycle (s : State) : State :=
  let ep := s.dev.stateEp + 1
  let t := s.reach s.dev.nextFreeze
  let own := if s.dev.freezes = 0 then t.agr.own.map (fun i => { i with epoch := ep }) else t.agr.own
  let keep := match t.tim.stepJump with
    | some (a, d) => (t.dev.nextFreeze : Int) == a + d
    | none => false
  let u := { t with ctl := { t.ctl with posed := false, sent := false, spNew := false }, alc := { t.alc with posed := false, tags := [] } }
  { u with
    dev := { t.dev with stateEp := ep, freezes := t.dev.freezes + 1, freezeAt := t.dev.nextFreeze, stepsDone := [], stepsLate := [] }
    tim := { t.tim with stepJump := if keep then t.tim.stepJump else none }
    agr := { t.agr with own := own.filter (fun i => ep ≤ i.epoch), theirs := t.agr.theirs.filter (fun i => ep ≤ i.epoch), closed := false,
                        ownSet := [], closeRx := none, agreeRx := none, decided := false, agreed := [] }
    twn := { t.twn with selfL := false, selfE := false, selfS := false, ownCompare := none, peerCompare := none, ownVerdict := none,
                        peerVerdict := none, repeatPour := false } }

/-- R301: both devices are in step from the freeze after the copied cycle. [Log 67, DEDUCED, unsafe] -/
def State.joinNow (s : State) : State :=
  match s.twn.joining with
  | some e =>
    let t := { s with twn := { s.twn with joining := none } }
    if e = t.dev.stateEp && t.linkUp then
      let u := (t.setFlag F_TWN_STATUS_IN_STEP true).causeGone 0x0406
      if u.twn.requested then
        let v := { u with twn := { u.twn with requested := false, copyDueBy := none, outOfStepFromBoot := false } }
        (((v.setFlag F_TWN_STATUS_SYNCING false).event F_TWN_EVENT_SYNC_DONE).raise 0x040A).causeGone 0x040B
      else u
    else t
  | none => s

/-- R286, R304: condition 4 is set on the lead side while the partner is not in step. -/
def State.soloCondition (s : State) : State :=
  s.setCond 4 (s.paired && !s.inStep && (s.isLead || (s.twn.outOfStepFromBoot && s.cond 4)))

/-- R79: the cycle runs in mode `m`. -/
def State.changeMode (s : State) (m : Nat) : State :=
  let t := { s with dev := { s.dev with mode := m } }
  if m = s.dev.mode then t else t.controlNewMode.allocationNewMode

/-- R79: a full cycle opens at a freeze at which a change to mode `m` may take effect. -/
def State.modeFits (s : State) (m : Nat) : Bool := s.fullCycle && s.dev.freezeAt % modePeriod m = 0

/-- R79: a SET_MODE that is due takes effect. -/
def State.orderedMode (s : State) : State :=
  match s.dev.newMode with
  | some m => if s.modeFits m then { s with dev := { s.dev with newMode := none } }.changeMode m else s
  | none => s

/-- R79, R88: a mode change that is due takes effect, the device's own before an ordered one; a device change to Station takes the fused position and heading
(R182). -/
def State.modeFreeze (s : State) : State :=
  match s.dev.ownNew with
  | some m =>
    if s.modeFits m then
      { s with dev := { s.dev with ownNew := none }, ctl := { s.ctl with setFused := s.ctl.setFused || m == 1 } }.changeMode m
    else s.orderedMode
  | none => s.orderedMode

/-- R90: tuned values take effect. [Log 12, DEDUCED, safe] -/
def State.tuneFreeze (s : State) : State :=
  { s with pat := { s.pat with tuned := s.ord.tuneNext.foldl (fun l e => aset l e.1 e.2) s.pat.tuned }, ord := { s.ord with tuneNext := [] } }

/-- R72, R77, R78: the period of the cycle that opens; 1,000 ms in PARKED from the first whole second on. -/
def State.cyclePeriod (s : State) : Nat :=
  match s.dev.st with
  | .parked => if s.dev.freezeAt % sec = 0 then sec else s.dev.period
  | .safe | .boot => 20 * ms
  | .armed | .active => modePeriod s.dev.mode

/-- R26, R28, R30, R359: the next freeze, and the pour 2 ms before it. -/
def State.schedule (s : State) : State :=
  let p := s.cyclePeriod
  let next := boundaryAt (s.dev.freezeAt + p) p
  { s with dev := { s.dev with period := p, nextFreeze := next, pourAt := next - 2 * ms } }

/-- R323: an accepted brake test starts. The switch test of phase 1 runs on Cope, or on a solo device, in the first cycle and on Drag in the second. -/
def State.brakeTestFreeze (s : State) : State :=
  let first := !s.paired || s.pins.side == .cope
  match s.saf.test with
  | some t =>
    if t.phase = 0 then
      let u := (({ s with saf := { s.saf with test := some { t with phase := 1, phaseAt := s.tim.el } } }).setFlag F_SAF_STATUS_TEST true).showBrake t.chan
      if first then u.startSwitchTest t.chan else u
    else if t.phase = 1 && !first then s.startSwitchTest t.chan
    else s
  | none => s

/-- R499: a time anchor that is due is sampled. -/
def State.anchorFreeze (s : State) : State :=
  if s.rcd.anchorDue then
    let a := twoWords s.tim.wt ++ [s.reg A_TSU_UTC, s.reg A_TSU_STATUS, s.reg A_TSU_HOLD_ERR]
    { s with rcd := { s.rcd with anchorDue := false, anchorHours := s.rcd.opTime, anchor := some a } }
  else s

/-- R321, R355: the device's own time status and brake status are items of the cycle. -/
def State.statusItems (s : State) : State :=
  let time := [s.reg A_TSU_STATUS, s.reg A_TSU_HOLD_ERR]
  let t := ({ s with twn := { s.twn with ownTime := time } }).ownItem 5 1 s.dev.freezeAt s.dev.freezeAt time
  t.ownItem 5 2 s.dev.freezeAt s.dev.freezeAt t.brakeItem

/-- R143, R168, R225, R230: the first full cycle after T1 or T6. -/
def State.freshFreeze (s : State) : State :=
  let t := s.fusionStart.allocationNewMode
  { t with ctl := { t.ctl with setFused := true }, alc := { t.alc with next := 1 } }

/-- What takes effect at a freeze in a full cycle: R138, R141, R143, R158, R168, R190. -/
def State.fullFreeze (s : State) : State := ((s.when s.dev.fresh State.freshFreeze).fusionFreeze).injectionFreeze

/-- The whole of a freeze after the cycle has opened. `before` is the previous freeze. -/
def State.freezeWork (s : State) (before : Nat) (latch : List ChannelLatch) : State :=
  let s1 := if s.clk.boundarySafe && s.dev.st != .safe && s.dev.st != .boot then s.enterSafe else s
  let s2 := s1.joinNow.soloCondition.modeFreeze.tuneFreeze.schedule
  let s3 := s2.lanesFreeze.bankSwitchNow.sparesFreeze
  let s4 := s3.gnssFreeze latch
  let s5 := s4.availabilityFreeze.when s4.fullCycle State.fullFreeze
  (((((s5.fieldFreeze before).canFreeze).brakeTestFreeze).statusItems).anchorFreeze).breakViews

/-- CYCLE_FREEZE (R26): the freeze that is due opens a cycle. -/
def execCycleFreeze (latch : List ChannelLatch) (s : State) : Host.Outcome State Fault Refusal :=
  .next (if s.dev.cycling || s.boot.readyForFreeze then
    let before := s.dev.freezeAt
    let t := s.openCycle
    (if s.dev.st = .boot then t.firstFreeze else t).freezeWork before latch
    else s)

end Sys2Proof.Machine
end

