-- ==== Sys2Proof/Machine/HostPort.lean ====
section
/-! DEFINITION. The host port (R428 to R430). -/
namespace Sys2Proof.Machine

/-- R429: the port is driven from the end of boot step 1 until the next device reset. -/
def State.hostPortOn (s : State) : Bool := s.clk.vin && s.boot.started

/-- R430: a write of a command fails: its later words are discarded, the failure is shown and reported. [Log 73, DEDUCED, unsafe] -/
def State.hostWriteFails (s : State) (a n : Nat) : State :=
  let t := { s with hst := { s.hst with buffer := s.hst.buffer.filter (fun e => e.2.2 != n) } }
  (((t.setFlag F_HST_STATUS_ERR true).setReg A_HST_ERRADDR (toWord a)).event F_HST_EVENT_ERR_EVT).raise 0x0E01 (pay [a])

/-- R430: perform the buffered word at the head of the buffer. -/
def State.performWrite (s : State) : State :=
  match s.hst.buffer with
  | [] => s
  | (a, w, n) :: r =>
    let t := ({ s with hst := { s.hst with buffer := r } }).busWrite mHost a w
    if t.2.1 = accOk then t.1 else t.1.hostWriteFails a n

/-- R430: perform buffered words until none is left. The fuel is their number. [Log 73, DEDUCED, unsafe] -/
def State.drainWrites : Nat → State → State
  | 0, s => s
  | n + 1, s => State.drainWrites n s.performWrite

/-- R428: the words of a write command as the buffer holds them: ascending addresses, 4 bytes apart. -/
def bufferWords (addr n : Nat) (words : List Word) : List (Nat × Word × Nat) := words.mapIdx (fun k w => (addr + 4 * k, w, n))

/-- R430: a write command arrives. One that does not fit whole is discarded whole; a last word that was cut off is discarded. [Log 73, DEDUCED, unsafe] -/
def State.takeWrite (s : State) (addr : Nat) (words : List Word) (cut : Bool) : State :=
  let t :=
    if 512 < s.hst.buffer.length + words.length + bit cut then
      ((s.setFlag F_HST_STATUS_OVF true).event F_HST_EVENT_OVF_EVT).raise 0x0E02
    else { s with hst := { s.hst with buffer := s.hst.buffer ++ bufferWords addr s.hst.nextCommand words, nextCommand := s.hst.nextCommand + 1 } }
  if cut then ((t.setFlag F_HST_STATUS_FRAME true).event F_HST_EVENT_FRAME_EVT).raise 0x0E03 else t

/-- R429: read `n` words and what the port sends for each: 0xA5 and the word, or 0x5A and the code of the failure, after which no word is read. -/
def State.hostWords : Nat → State → Nat → State × List Int
  | 0, s, _ => (s, [])
  | n + 1, s, a =>
    let r := s.busRead mHost a
    if r.2.1 = accOk then
      let u := State.hostWords n r.1 (a + 4)
      (u.1, 0xA5 :: (r.2.2.toNat : Int) :: u.2)
    else (r.1, [0x5A, (r.2.1 : Int)])

/-- R428 to R430: a read command: every earlier write is performed first. [Log 73, DEDUCED, unsafe] -/
def State.hostReads (s : State) (addr words : Nat) : State :=
  let t := State.drainWrites s.hst.buffer.length s
  let r := State.hostWords words t addr
  r.1.send .host .read r.2

/-- HOST_READ (R428, R429). -/
def execHostRead (addr words : Nat) (s : State) : Host.Outcome State Fault Refusal :=
  .next (if s.hostPortOn then s.hostReads addr words else s)

/-- HOST_QUAD_READ (R428, R429): as a read, on four lines. -/
def execHostQuadRead (addr words : Nat) (s : State) : Host.Outcome State Fault Refusal :=
  .next (if s.hostPortOn then s.hostReads addr words else s)

/-- HOST_WRITE (R428, R430). -/
def execHostWrite (addr : Nat) (words : List Word) (partialWord : Bool) (s : State) : Host.Outcome State Fault Refusal :=
  .next (if s.hostPortOn then (s.takeWrite addr words partialWord).settleSources else s)

/-- HOST_QUAD_WRITE (R428, R430): as a write, on four lines. -/
def execHostQuadWrite (addr : Nat) (words : List Word) (partialWord : Bool) (s : State) : Host.Outcome State Fault Refusal :=
  .next (if s.hostPortOn then (s.takeWrite addr words partialWord).settleSources else s)

/-- HOST_STATUS (R428): bits [7:0] of HST_STATUS. -/
def execHostStatus (s : State) : Host.Outcome State Fault Refusal :=
  .next (if s.hostPortOn then s.send .host .read [(bits s.hstWord 7 0 : Int)] else s)

/-- HOST_WRITE_PERFORM (R430). -/
def execHostWritePerform (s : State) : Host.Outcome State Fault Refusal :=
  .next s.performWrite

end Sys2Proof.Machine
end

