-- ==== Sys2Proof/Machine/Hourly.lean ====
section
/-! DEFINITION. What each whole operating hour brings: the anneal measurement (R482) and the hourly records (R161, R268, R495). -/
namespace Sys2Proof.Machine

/-- R161, R495: one record for each slot that has refined values: the slot and words 2 to 7 of its State Image entry. -/
def State.refinedRecords (s : State) : State :=
  s.each (s.slotList.filter (fun n => (refineRows (s.slotKind n)).any (fun r =>
      (List.range r.2.1).any (fun a => (afind s.fus.refined (refineKey n r.1 a)).isSome))))
    (fun t n => t.record 0x1280 0 (toWord n :: (t.imageSlot n).drop 2))

/-- R268, R495: the word of one mould in a headroom record: its number, MIN_STORE and MIN_ACC. [Log 75, DEDUCED, unsafe] -/
def State.headroomWord (s : State) (m : Nat) : Word := quarters m (s.fld (F_SLV_MOULD_HEAD_MIN_STORE m)) (s.fld (F_SLV_MOULD_HEAD_MIN_ACC m)) 0

/-- R268, R495: one record for each 10 moulds present. [Log 75, DEDUCED, unsafe] -/
def State.headroomRecords (s : State) : State :=
  (piecesTen s.slv.moulds.length (sortNat (s.slv.moulds.map (·.1)))).foldl (fun t l => t.record 0x1580 0 (l.map t.headroomWord)) s
where
  /-- Cut a list into pieces of ten. The fuel is its length. -/
  piecesTen : Nat → List Nat → List (List Nat)
    | 0, _ => []
    | n + 1, l => if l.isEmpty then [] else l.take 10 :: piecesTen n (l.drop 10)

/-- ANNEAL_MEASUREMENT (R482): once after each whole operating hour. -/
def execAnnealMeasurement (dies : List DieReading) (diodes : List Int) (s : State) : Host.Outcome State Fault Refusal :=
  .next (if s.rcd.hourly then
    let t := s.anneal dies diodes
    ({ t with rcd := { t.rcd with hourly := false } }).refinedRecords.headroomRecords
  else s)

end Sys2Proof.Machine
end

