-- ==== Sys2Proof/Machine/Alarms.lean ====
section
/-! DEFINITION. When the cause of an alarm clears (R534): codes whose rule clears them, codes that name a lasting state, and events. -/
namespace Sys2Proof.Machine

/-- The alarms whose cause ends where their own rule is applied. -/
def ruledAlarms : List Nat := [
  0x0201, 0x0202, 0x0206, 0x0207, 0x0208, 0x0401, 0x0402, 0x0403, 0x0404, 0x0406, 0x040B, 0x0501, 0x0505, 0x050C, 0x0601, 0x0602, 0x0603, 0x0607,
  0x0701, 0x0702, 0x0703, 0x0705, 0x0A05, 0x0A06, 0x0A12, 0x0C01, 0x0C02, 0x0D01, 0x0D02, 0x1104, 0x1109, 0x110F, 0x1110, 0x1204, 0x1301, 0x1302,
  0x1308, 0x1309, 0x130B, 0x1401, 0x1402, 0x1403, 0x1601, 0x1603, 0x1604, 0x1605]

/-- R534: alarms that led to SAFE, which lasts until a device reset. -/
def safeAlarms : List Nat := [0x0001, 0x0002, 0x0003, 0x0007, 0x0104, 0x0107, 0x0A01, 0x0A08, 0x0C03, 0x1303]

/-- Alarms of a boot that went another way; it lasts until a device reset. -/
def bootAlarms : List Nat := [0x0101, 0x0102, 0x0103, 0x0105, 0x0106, 0x0108]

/-- A flag of some field channel is set. -/
def State.anyField (s : State) (f : Nat → Fld) : Bool := (List.range 128).any (fun n => s.fchUsed n && s.flag (f n))

/-- A sensor slot in use meets a test. -/
def State.anySlot (s : State) (f : FSlot → Bool) : Bool := s.slotList.any (fun n => f (s.fslot n))

/-- The failed checks of a side's newest block show one of some bits. -/
def State.navShows (s : State) (l : List Nat) : Bool := s.gns.chk.failing.any (fun e => l.any (tbit e.2))

/-- R534: the states that lasting alarms of blocks 0x00 to 0x0F name. -/
def State.lastsA (s : State) (code : Nat) : Bool :=
  match code with
  | 0x0209 => (List.range 8).any (fun k => s.flag (F_TSU_CAP_CFG_OVF k))
  | 0x0301 => s.intc.targets.any (fun t => t.frozen)
  | 0x040C => s.par 0x0908 ≤ (s.twn.unexplained.filter (fun t => s.tim.el < t + 3600 * sec)).length
  | 0x040D => !s.peerMet
  | 0x0508 => (List.range 64).any (fun k => s.flag (F_ELK_SUB_STAT_FULL k))
  | 0x0509 => !s.elk.degraded.isEmpty
  | 0x0604 => s.net.prpFull
  | 0x0A02 => s.fullCycle && !s.saf.verdictPass
  | 0x0A03 => s.fld F_SAF_STATUS_GATE == gateHold
  | 0x0A04 => s.inSafe
  | 0x0A07 => s.saf.brakes.any (fun b => b.fault)
  | 0x0A0A => (List.range 8).any (fun n => s.flag (F_SAF_BRK_STAT_TEST_FAIL n))
  | 0x0A0B => (List.range 8).any (fun n => s.flag (F_SAF_BRK_STAT_TEST_DUE n))
  | 0x0A0C => s.saf.pairs.any (fun p => p.disc)
  | 0x0A0D => s.saf.pairs.any (fun p => !p.pulse.isEmpty)
  | 0x0A0E => (List.range 16).any (fun n => s.sipUsed n && s.pairDemand n)
  | 0x0A10 => (List.range 16).any (fun c => 10 ≤ s.fld (F_SAF_CONN_STAT_SINGLE c))
  | 0x0A11 => s.saf.conns.any (fun c => c.timedOut)
  | 0x0B01 => 117965 ≤ s.recUsed
  | 0x0B02 => s.recFull
  | 0x0C04 => s.goodDiodes.any (fun k => 30 < (s.int (F_HLT_DIODE_RESID k)).natAbs)
  | 0x0C05 => !s.thm.badDiodes.isEmpty
  | 0x0C06 => !s.hlt.railsBad.isEmpty
  | 0x0C07 => !s.mram.riserBanks.isEmpty
  | 0x0C0A => !s.hlt.exhaustedRaised.isEmpty
  | 0x0C0B => s.hlt.injFails.any (fun e => 2 ≤ e.2)
  | 0x0C0C => !s.hlt.pairsOut.isEmpty
  | _ => false

/-- R534: the states that lasting alarms of blocks 0x10 to 0x17 name. -/
def State.lastsB (s : State) (code : Nat) : Bool :=
  match code with
  | 0x1001 => s.anyField F_FCH_STATUS_WIRE_BREAK
  | 0x1002 => s.anyField F_FCH_STATUS_SHORT
  | 0x1003 => s.anyField F_FCH_STATUS_OVER
  | 0x1005 => !s.mram.riserEngines.isEmpty
  | 0x1006 => !s.fch.sparesOut.isEmpty
  | 0x1007 => s.anyField F_FCH_STATUS_NO_ENGINE
  | 0x1009 => s.anyField F_FCH_STATUS_RB_ERR
  | 0x1101 => (List.range 4).any (fun a => s.fld (F_GNS_ANT_STATE a) == 2)
  | 0x1102 => (List.range 4).any (fun a => s.fld (F_GNS_ANT_STATE a) == 3)
  | 0x1103 => !s.gns.notches.isEmpty
  | 0x1105 => s.navShows [0, 1]
  | 0x1106 => s.navShows [2, 3]
  | 0x1107 => s.navShows [4]
  | 0x1108 => s.navShows [5]
  | 0x110A => s.gns.held.isSome
  | 0x110C => s.gns.chk.baselines.any (fun e => !e.2)
  | 0x110D => !s.mram.riserChannels.isEmpty
  | 0x110E => (List.range 8).any (fun c => [256 + 2 * c, 257 + 2 * c].all (fun n => s.mram.riserChannels.contains n || ((s.gchan n).st != 3 && (s.gchan n).st != 4)))
  | 0x1201 => s.anySlot (fun f => f.st == 2)
  | 0x1202 => s.anySlot (fun f => f.st == 4)
  | 0x1203 => s.cond 2
  | 0x1205 => (s.quant 0).dr.isSome
  | 0x1206 => (s.quant 1).dr.isSome
  | 0x1207 => [2, 3, 4, 5].any (fun q => !(s.quant q).valid && s.slotList.any (fun n => (kindQuants (s.slotKind n)).contains q))
  | 0x1208 => s.anySlot (fun f => f.tbd)
  | 0x1209 => !s.fus.atBound.isEmpty
  | 0x1304 => s.holderSide.isNone
  | 0x1305 => s.ctl.fePos.isSome
  | 0x1306 => s.ctl.feHdg.isSome
  | 0x1307 => s.ctl.mp.isSome
  | 0x1501 => !s.slv.ovfNow.isEmpty
  | 0x1504 => !s.slv.headWarned.isEmpty
  | 0x1508 => !s.mram.riserLanes.isEmpty
  | 0x1509 => (List.range 4).any (fun c => (s.clusterSpares c).isEmpty)
  | 0x1602 => s.alc.scens.any (fun x => x.stale)
  | 0x1606 => s.thrList.any (fun t => !(s.thr t).ready)
  | 0x1607 => s.thrList.any (fun t => (s.thr t).swing.isSome)
  | _ => false

/-- R534: the cause of an alarm still holds at the bookkeeping window. Every code not listed is an event, which ends with the cycle. [Log 10, DESIGN CHOICE, unsafe] -/
def State.causeHolds (s : State) (code : Nat) : Bool :=
  ruledAlarms.contains code || bootAlarms.contains code || (safeAlarms.contains code && s.dev.st == .safe) ||
  s.lastsA code || s.lastsB code

/-- R534: in the bookkeeping window the causes that have ended clear. [Log 10, DESIGN CHOICE, unsafe] -/
def State.settleAlarms (s : State) : State :=
  ((s.alarms.filter (fun a => a.cause && !s.causeHolds a.code)).map (·.code)).foldl State.causeGone s

end Sys2Proof.Machine
end

