-- ==== Sys2Proof/Machine/SafetyDie.lean ====
section
/-! DEFINITION. What the safety die does on its own (R308): switch tests and brake faults (R314, R318 to R320), the brake test (R323, R324), safe inputs
(R325 to R328), safe data (R331 to R333) and the faults that force the global safe state (R334). -/
namespace Sys2Proof.Machine

/-- R320: switch `sw` (1 HS, 2 LS) of channel `n` is stuck closed: degraded operation, or both stuck. -/
def State.degrade (s : State) (n sw : Nat) : State :=
  let b := s.brake n
  let s1 := s.setBrake n (fun b => { b with testBad := true, goodTests := 0 })
  if b.degr = sw then s1
  else if b.degr = 0 then
    let left := match afind s1.mram.brakeLeft n with
      | some x => x
      | none => 3600 * (s1.safPar 0x1004).toNat
    let t := { s1 with mram := { s1.mram with brakeLeft := aset s1.mram.brakeLeft n left, brakeSwitch := aset s1.mram.brakeSwitch n sw } }
    (((t.setBrake n (fun b => { b with degr := sw })).showBrake n).event F_SAF_EVENT_BRK_FAULT).setCond 3 true |>.raise 0x0A05 (pay [n, sw])
  else
    (((s1.setBrake n (fun b => { b with degr := 3 })).applyBrake n).raise 0x0A08).globalSafe 4

/-- R318: both switches of channel `n` are stuck closed. -/
def State.bothStuck (s : State) (n : Nat) : State :=
  (((s.setBrake n (fun b => { b with degr := 3, testBad := true, goodTests := 0 })).showBrake n).raise 0x0A08).globalSafe 4

/-- What a switch test step finds (R318). -/
inductive Diagnosis where
  | healthy | hsClosed | lsClosed | hsOpen | lsOpen | bothClosed
  deriving DecidableEq, Repr

/-- R318: the diagnosis of a test step from the terminal readings in % of VFLD. Steps of an applied brake: 1 both open, 2 HS closed alone, 3 LS
closed alone; of a released one: 1 HS opened, 2 LS opened. [Log 22, DEDUCED, unsafe] -/
def diagnose (applied : Bool) (step hsPct lsPct : Nat) : Diagnosis :=
  if applied then
    if step = 1 then
      if 80 ≤ hsPct && lsPct ≤ 20 then .bothClosed
      else if 80 ≤ hsPct && 80 ≤ lsPct then .hsClosed
      else if hsPct ≤ 20 && lsPct ≤ 20 then .lsClosed
      else .healthy
    else if step = 2 then (if lsPct < 80 then .hsOpen else .healthy)
    else if 20 < hsPct then .lsOpen else .healthy
  else if step = 1 then (if 20 < hsPct then .hsClosed else .healthy)
  else if lsPct < 80 then .lsClosed else .healthy

/-- R318: the last step of a switch test. [Log 22, DEDUCED, unsafe] -/
def lastStep (applied : Bool) : Nat := if applied then 3 else 2

/-- R320: a test that found both switches healthy: after ten in a row the condition clears and the timer resets. Condition 3 stays while a channel of either
side is degraded (R321). -/
def State.goodTest (s : State) (n : Nat) : State :=
  let t := s.setBrake n (fun b => { b with goodTests := b.goodTests + 1 })
  if (t.brake n).degr != 0 && (t.brake n).degr != 3 && 10 ≤ (t.brake n).goodTests then
    let u := { t with mram := { t.mram with brakeLeft := adel t.mram.brakeLeft n, brakeSwitch := adel t.mram.brakeSwitch n } }
    let v := (u.setBrake n (fun b => { b with degr := 0, expired := false, goodTests := 0 })).showBrake n
    if (List.range 8).any (fun k => (v.brake k).degr != 0) then v
    else
      let w := (v.causeGone 0x0A05).causeGone 0x0A06
      if w.peerDegraded then w else w.setCond 3 false
  else t

/-- SWITCH_TEST (R318): every SAF_BRK_SWTEST_S from the last one. -/
def execSwitchTest (channel : Nat) (s : State) : Host.Outcome State Fault Refusal :=
  .next (
    let t := match (s.brake channel).testAt with
      | some e => s.reachEl (e + (s.safPar 0x1005).toNat * sec)
      | none => s
    t.startSwitchTest channel)

/-- R318, R323: the reaction to a diagnosis; a finding in phase 1 of a brake test ends the test with result 2. -/
def State.reactSwitch (s : State) (n : Nat) (d : Diagnosis) : State :=
  let t := match d with
    | .healthy => s
    | .hsClosed => s.degrade n 1
    | .lsClosed => s.degrade n 2
    | .hsOpen => s.brakeFault n 1
    | .lsOpen => s.brakeFault n 2
    | .bothClosed => s.bothStuck n
  match t.saf.test with
  | some x => if x.chan = n && x.phase = 1 && d != .healthy then t.endBrakeTest 2 else t
  | none => t

/-- SWITCH_TEST_STEP (R318): a step ends, its terminal readings are diagnosed, and the next step follows. [Log 22, DEDUCED, unsafe] -/
def execSwitchTestStep (channel hsPct lsPct : Nat) (s : State) : Host.Outcome State Fault Refusal :=
  .next (
    let b := s.brake channel
    if b.testStep = 0 then s
    else
      let t := ((s.reachEl (s.tim.el + 300000)).setFld (F_SAF_BRK_STAT_HS_PCT channel) hsPct).setFld (F_SAF_BRK_STAT_LS_PCT channel) lsPct
      let d := diagnose b.applied b.testStep hsPct lsPct
      let u := t.reactSwitch channel d
      if b.testStep = lastStep b.applied || (u.brake channel).fault || d = .bothClosed then
        let v := u.setBrake channel (fun b => { b with testStep := 0 })
        if (v.brake channel).testBad || d != .healthy then v else v.goodTest channel
      else u.setBrake channel (fun b => { b with testStep := b.testStep + 1 }))

/-- BRAKE_OVERCURRENT (R314, R319): the channel opens both switches, with cause 3. -/
def execBrakeOvercurrent (channel : Nat) (s : State) : Host.Outcome State Fault Refusal :=
  .next (if s.brkEn channel then s.brakeFault channel 3 else s)

/-- BRAKE_DEGRADED_EXPIRY (R320): the degraded timer has run out. A condition that cleared in this tick is gone already (R8). -/
def execBrakeDegradedExpiry (channel : Nat) (s : State) : Host.Outcome State Fault Refusal :=
  .next (if ((s.brake channel).degr = 1 || (s.brake channel).degr = 2) && aget 0 s.mram.brakeLeft channel = 0 && !(s.brake channel).expired then
    ((s.setBrake channel (fun b => { b with expired := true })).applyBrake channel).raise 0x0A06
    else s)

/-- R323: the duration of a phase of the brake test. Phase 1 lasts from the freeze to the pour of the second cycle. -/
def State.phaseTime (s : State) (t : BrakeTest) : Nat :=
  match t.phase with
  | 1 => 2 * s.dev.period - 2 * ms
  | 3 => t.hold * sec
  | _ => sec

/-- R323: the torque request of a running brake test, in 0.1 %: a ramp up, the hold and a ramp down. -/
def State.testTorque (s : State) : Nat :=
  match s.saf.test with
  | none => 0
  | some t =>
    let full := (s.safPar (0x1040 + t.chan) 4).toNat
    let d := Nat.min (s.tim.el - t.phaseAt) sec
    match t.phase with
    | 2 => full * d / sec
    | 3 => full
    | 4 => full * (sec - d) / sec
    | _ => 0

/-- BRAKE_TEST_PHASE_END (R323): a pass at the end of phase 4 ends the test with result 1. -/
def execBrakeTestPhaseEnd (s : State) : Host.Outcome State Fault Refusal :=
  .next (match s.saf.test with
    | none => s
    | some t =>
      if t.phase = 0 then s
      else
        let u := s.reachEl (t.phaseAt + s.phaseTime t)
        if t.phase = 4 then u.endBrakeTest 1
        else { u with saf := { u.saf with test := some { t with phase := t.phase + 1, phaseAt := u.tim.el } } })

/-- BRAKE_TEST_MOTION (R323): the encoder count of the S-die during phases 2 to 4. -/
def execBrakeTestMotion (counts : Nat) (s : State) : Host.Outcome State Fault Refusal :=
  .next (match s.saf.test with
    | none => s
    | some t =>
      let u := { s with saf := { s.saf with test := some { t with moved := counts } } }
      if 2 ≤ t.phase && bits (s.safPar (0x1040 + t.chan) 2) 31 16 < counts then u.endBrakeTest 3 else u)

/-- BRAKE_TEST_DUE (R324): more than SAF_BRK_TEST_DUE_H operating hours since the last passed test; 0 means never. [Log 107, DEDUCED, unsafe] -/
def execBrakeTestDue (channel : Nat) (s : State) : Host.Outcome State Fault Refusal :=
  .next (if s.brkEn channel && (s.safPar 0x1007).toNat != 0 && (s.safPar 0x1007).toNat ≤ aget 0 s.mram.brakeAge channel &&
      !(s.brake channel).dueRaised then
    ((s.setBrake channel (fun b => { b with dueRaised := true })).setFlag (F_SAF_BRK_STAT_TEST_DUE channel) true).raise 0x0A0B (pay [channel])
    else s)

/-- The state of safe input pair `n`. -/
def State.pair (s : State) (n : Nat) : SafePair := s.saf.pairs.getD n {}

/-- Change the state of pair `n`. -/
def State.setPair (s : State) (n : Nat) (f : SafePair → SafePair) : State :=
  { s with saf := { s.saf with pairs := setNth s.saf.pairs n f } }

/-- Bring SAF_SIP up to date for pair `n`. -/
def State.showPair (s : State) (n : Nat) : State :=
  (s.setFlag (bitAt A_SAF_SIP n) ((s.pair n).demand || !s.sipUsed n)).setFlag (bitAt A_SAF_SIP (16 + n)) ((s.pair n).disc || !(s.pair n).pulse.isEmpty)

/-- R324: a safe input demand on the channel of a running brake test aborts the test. -/
def State.abortIfDemanded (s : State) : State :=
  match s.saf.test with
  | some t => if s.brakeCause t.chan then s.endBrakeTest 4 else s
  | none => s

/-- R326, R328: pair `n` enters DEMAND: its brakes apply, and USE bit 0 forces the global safe state. -/
def State.enterDemand (s : State) (n : Nat) : State :=
  let t := ((s.setPair n (fun p => { p with demand := true })).showPair n).event F_SAF_EVENT_SIP_EVT
  let u := (if (s.pair n).demand then t else t.raise 0x0A0E (pay [n])).abortIfDemanded.settleBrakes
  if tbit (u.safPar (0x1020 + n) 2).toNat 0 then u.globalSafe 5 else u

/-- R326: contact A of a pair is normal when closed; contact B when closed in TYPE 1 and when open in TYPE 2. -/
def State.contactNormal (s : State) (n : Nat) (b : Bool) : Bool :=
  let closed := s.flag (bitAt A_SAF_SIP_RAW (n + 16 * bit b))
  if b && (s.safPar (0x1020 + n) 0).toNat = 2 then !closed else closed

/-- DISC_MS of pair `n` in ns. -/
def State.discTime (s : State) (n : Nat) : Nat := (s.safPar (0x1020 + n) 1).toNat * ms

/-- R325 to R327: both contacts are back: DEMAND ends if the second returned within DISC_MS of the first, and a latch only if both contacts were out together and returned within DISC_MS, after ten
passed pulses for a pulse fault. -/
def State.bothBack (s : State) (n : Nat) : State :=
  let p := s.pair n
  let quick := match p.firstBack with
    | some t => decide (s.tim.el ≤ t + s.discTime n)
    | none => true
  let latched := p.disc || !p.pulse.isEmpty
  let unlatch := p.outTogether && quick && (p.pulse.isEmpty || 10 ≤ p.passes)
  if (latched && !unlatch) || !quick then s.setPair n (fun p => { p with firstBack := none, differSince := none, outTogether := false })
  else
    ((s.setPair n (fun p => { p with
      demand := false, disc := false, pulse := [], passes := 0, outTogether := false, firstBack := none, differSince := none })).showPair n)

/-- SAFE_INPUT_CHANGE (R326 to R328): a contact takes a new state after three equal samples. -/
def execSafeInputChange (pair : Nat) (contactB closed : Bool) (stamp : Nat) (s : State) : Host.Outcome State Fault Refusal :=
  .next (
    let s0 := s.reach stamp
    let had := (s0.contactNormal pair false, s0.contactNormal pair true)
    let t := s0.setFlag (bitAt A_SAF_SIP_RAW (pair + 16 * bit contactB)) closed
    if !t.sipUsed pair then t
    else
      let now := (t.contactNormal pair false, t.contactNormal pair true)
      if now.1 && now.2 then t.bothBack pair
      else if now.1 || now.2 then
        let u := t.setPair pair (fun p => { p with
          differSince := some (p.differSince.getD t.tim.el),
          firstBack := if !had.1 && !had.2 then some t.tim.el else p.firstBack })
        u.enterDemand pair
      else (t.setPair pair (fun p => { p with differSince := none, firstBack := none, outTogether := true })).enterDemand pair)

/-- DISCREPANCY_EXPIRY (R327). A second contact that changed in this tick has ended the difference already (R8). -/
def execDiscrepancyExpiry (pair : Nat) (s : State) : Host.Outcome State Fault Refusal :=
  .next (match (s.pair pair).differSince with
    | some t =>
      let u := (s.reachEl (t + s.discTime pair)).setPair pair (fun p => { p with disc := true, differSince := none, outTogether := false })
      (u.raise 0x0A0C (pay [pair])).enterDemand pair
    | none => s)

/-- R325: SIT0 drops every 100 ms and SIT1 50 ms after it. -/
def State.pulseTime (s : State) (output : Bool) : State :=
  let t := match s.saf.pulseAt with
    | some e => s.reachEl (e + (if output then 50 else 100) * ms)
    | none => s
  if output then t else { t with saf := { t.saf with pulseAt := some t.tim.el } }

/-- TEST_PULSE (R325): SIT0 (output 0, contacts A) or SIT1 (output 1, contacts B) drops for its pulse; `faulty` are the pairs whose contact reads
closed during its own pulse or follows the other output's. -/
def execTestPulse (output : Bool) (faulty : List Nat) (s : State) : Host.Outcome State Fault Refusal :=
  .next (if !s.clk.vfld || !(if output then s.pins.sit1 else s.pins.sit0) then s
    else (s.pulseTime output).each (List.range 16) (fun t n =>
      if !t.sipUsed n then t
      else if faulty.contains n then
        let u := t.setPair n (fun p => { p with pulse := if p.pulse.contains output then p.pulse else p.pulse ++ [output], passes := 0, outTogether := false })
        (u.raise 0x0A0D (pay [n, bit output])).enterDemand n
      else if (t.pair n).pulse.contains output then
        t.setPair n (fun p => { p with passes := p.passes + 1, outTogether := if p.passes + 1 = 10 then false else p.outTogether })
      else t))

/-- R338: word `k` of safe data connection `c`. -/
def State.connPar (s : State) (c k : Nat) : Word := s.safPar (0x1060 + c) k

/-- R338: connection `c` is configured. -/
def State.connUsed (s : State) (c : Nat) : Bool := (s.connPar c 0).toNat != 0

/-- R338: connection `c` sends. -/
def State.connSends (s : State) (c : Nat) : Bool := bits (s.connPar c 0) 16 16 == 1

/-- The state of connection `c`. -/
def State.conn (s : State) (c : Nat) : SafeConn := s.saf.conns.getD c {}

/-- Change the state of connection `c`. -/
def State.setConn (s : State) (c : Nat) (f : SafeConn → SafeConn) : State :=
  { s with saf := { s.saf with conns := setNth s.saf.conns c f } }

/-- R329: a field of a safe frame: `n` bytes at offset `o`. -/
def frameField (b : List Byte) (o n : Nat) : Nat := leNat ((b.drop o).take n)

/-- R329, R331: MAGIC, FORMAT, LEN and CRC of a safe frame are right. -/
def safeFrameOk (b : List Byte) : Bool :=
  let len := frameField b 0x14 2
  frameField b 0 2 == 0x5346 && frameField b 2 1 == 1 && len ≤ 256 && b.length == 0x1C + len &&
  frameField b (0x18 + len) 4 == (crc32c (b.take (0x18 + len))).toNat

/-- R331: the receive connection that SRC and TYPE match. -/
def State.connFor (s : State) (b : List Byte) : Option Nat :=
  (List.range 16).find? (fun c => s.connUsed c && !s.connSends c && bits (s.connPar c 0) 15 0 == frameField b 4 2 &&
    bits (s.connPar c 0) 31 24 == frameField b 3 1)

/-- R331: SEQ is above the last accepted one, in serial-number order modulo 2³². -/
def seqAbove (last : Option Nat) (q : Nat) : Bool :=
  match last with
  | none => true
  | some l => let d := (q + 4294967296 - l % 4294967296) % 4294967296; 0 < d && d < 2147483648

/-- R331: the time of receipt fits SEND_T. -/
def State.timely (s : State) (c sendT stamp : Nat) : Bool := sendT ≤ stamp + ms && stamp ≤ sendT + (s.connPar c 2).toNat * ms

/-- Change which brakes connection `c` holds applied: key `c` for its demand, 100 + `c` for its time-out. [Log 23, DEDUCED, safe] -/
def State.holdBrakes (s : State) (key mask : Nat) : State :=
  s.each (List.range 8) (fun t n => t.setBrake n (fun b => { b with connHeld := if tbit mask n then insertNew b.connHeld key else remove b.connHeld key }))

/-- R333: an accepted SAFE_DEMAND acts when ACCEPT is 1. [Log 23, DEDUCED, safe] -/
def State.safeDemand (s : State) (c : Nat) (b : List Byte) : State :=
  let w := frameField b 0x18 4
  let t := ((s.holdBrakes c (w / 256 % 256)).abortIfDemanded).settleBrakes
  if w % 2 = 1 then t.globalSafe 7 else t

/-- R332, R333: a frame is accepted on connection `c`. -/
def State.acceptFrame (s : State) (c : Nat) (b : List Byte) (single : Bool) : State :=
  let run := (s.conn c).run + 1
  let t := s.setConn c (fun k => { k with lastSeq := some (frameField b 8 4), accepted := b, run := run, lastAt := s.tim.el, timedOut := false })
  let u := t.bump (F_SAF_CONN_CNT_ACCEPTED c)
  let n := if single then Nat.min 255 (u.fld (F_SAF_CONN_STAT_SINGLE c) + 1) else 0
  let v := (u.setFld (F_SAF_CONN_STAT_SINGLE c) n).setFld (F_SAF_CONN_STAT_STATE c) (if 10 ≤ n then 2 else 1)
  let w := if n = 10 then v.raise 0x0A10 (pay [c]) else v
  let x := if 3 ≤ run then w.holdBrakes (100 + c) 0 else w
  if frameField b 3 1 = 0x11 && bits (x.connPar c 3) 16 16 = 1 then x.safeDemand c b else x

/-- R332: two copies of a frame of connection `c` differ. [Log 107, DEDUCED, unsafe] -/
def State.copiesDiffer (s : State) (c : Nat) : State :=
  ((s.bump (F_SAF_CONN_STAT_DIFFER c)).event F_SAF_EVENT_CONN_EVT).raise 0x0A0F (pay [c])

/-- R332: a copy of number `q` no longer waits. -/
def State.unwait (s : State) (c q : Nat) : State := s.setConn c (fun k => { k with waiting := k.waiting.filter (fun w => frameField w.bytes 8 4 != q) })

/-- R331, R332: a copy with the right form, address and time. A first one waits; the copy from the other LAN is compared with it. [Log 107, DEDUCED, unsafe] -/
def State.goodCopy (s : State) (c : Nat) (lanB : Bool) (bytes : List Byte) : State :=
  let q := frameField bytes 8 4
  match (s.conn c).waiting.find? (fun w => frameField w.bytes 8 4 == q) with
  | none => s.setConn c (fun k => { k with waiting := k.waiting ++ [⟨lanB, bytes, s.tim.el⟩] })
  | some w =>
    if w.lanB = lanB then s
    else if w.bytes = bytes then (s.unwait c q).acceptFrame c bytes false
    else (s.unwait c q).copiesDiffer c

/-- SAFE_FRAME (R331, R332): one copy of a safe frame arrives on a LAN. A copy of the frame accepted last is compared and discarded. -/
def execSafeFrame (lanB : Bool) (bytes : List Byte) (stamp : Nat) (s : State) : Host.Outcome State Fault Refusal :=
  .next (
    let t := s.reach stamp
    match t.connFor bytes with
    | none => { t with saf := { t.saf with unmatched := t.saf.unmatched + 1 } }
    | some c =>
      let k := t.conn c
      let q := frameField bytes 8 4
      let dst := frameField bytes 6 2
      if safeFrameOk bytes && k.lastSeq = some q then (if k.accepted = bytes then t else t.copiesDiffer c)
      else if !safeFrameOk bytes || !(dst == (t.safPar 0x1001).toNat || dst == 0xFFFF) || !seqAbove k.lastSeq q ||
          !t.timely c (frameField bytes 0xC 8) stamp then t.bump (F_SAF_CONN_CNT_DROPPED c)
      else t.goodCopy c lanB bytes)

/-- DUAL_WAIT_EXPIRY (R332): SAF_DUAL_WAIT_US after its arrival a single copy is accepted as single-path. One whose number is no longer above the last
accepted one is dropped. -/
def execDualWaitExpiry (conn : Nat) (s : State) : Host.Outcome State Fault Refusal :=
  .next (match (s.conn conn).waiting with
    | w :: _ =>
      let q := frameField w.bytes 8 4
      let t := (s.reachEl (w.since + (s.safPar 0x1003).toNat * 1000)).unwait conn q
      if seqAbove (s.conn conn).lastSeq q then t.acceptFrame conn w.bytes true else t.bump (F_SAF_CONN_CNT_DROPPED conn)
    | [] => s)

/-- SAFE_CONNECTION_TIMEOUT (R333). -/
def execSafeConnectionTimeout (conn : Nat) (s : State) : Host.Outcome State Fault Refusal :=
  .next (if s.connUsed conn && !s.connSends conn && !(s.conn conn).timedOut then
    let t := (s.reachEl ((s.conn conn).lastAt + (s.connPar conn 2).toNat * ms)).setConn conn (fun k => { k with timedOut := true, run := 0 })
    let u := ((t.setFld (F_SAF_CONN_STAT_STATE conn) 3).event F_SAF_EVENT_CONN_EVT).raise 0x0A11 (pay [conn])
    match bits (u.connPar conn 3) 1 0 with
    | 1 => u.globalSafe 6
    | 2 => ((u.holdBrakes (100 + conn) (bits (u.connPar conn 3) 15 8)).abortIfDemanded).settleBrakes
    | _ => u
    else s)

/-- S_DIE_FAULT (R334): cause 9. -/
def execSDieFault (s : State) : Host.Outcome State Fault Refusal :=
  .next ({ s with saf := { s.saf with ownFault := true } }.globalSafe 9)

/-- EXTEST (R334, R521): only on an unlocked test port; it is held until a device reset. -/
def execExtest (s : State) : Host.Outcome State Fault Refusal :=
  .next (if s.pat.testPort && s.pins.testEn then s.globalSafe 10 else s)

end Sys2Proof.Machine
end

