-- ==== Sys2Proof/Machine/Pour.lean ====
section
/-! DEFINITION. The deadlines of a cycle's steps (R29), arbitration, and the pour with its bookkeeping window (R28, R30, R73, R316, R317, R330, R534). -/
namespace Sys2Proof.Machine

/-- R29: what replaces the result of a step that missed its deadline. [Log 13, DEDUCED, unsafe] -/
def State.stepReplaced (s : State) (n : Nat) : State :=
  match n with
  | 2 => s.fusionLate
  | 3 => s.controlLate
  | 4 => s.allocationLate
  | 5 => s.buildImage
  | 6 => s.formVerdict false
  | _ => s

/-- R28: the deadline of a step, from the freeze; in a 40 ms cycle the windows after input agreement are doubled, but safety ends at the pour. -/
def State.stepEnd (s : State) (n : Nat) : Nat :=
  if s.dev.period = 40 * ms && 6 ≤ n then s.dev.freezeAt + (if n = 6 then 38 else 40) * ms
  else s.windowEnd (nth [0, 1500, 5000, 8000, 15000, 16500, 18000, 20000] n)

/-- STEP_DEADLINE (R29): a step that has not finished by the end of its window is stopped. -/
def execStepDeadline (stepNo : Nat) (s : State) : Host.Outcome State Fault Refusal :=
  .next (
    if stepNo = 1 then (if s.undecided then (s.reach (s.stepEnd 1)).agreementLate else s)
    else if stepNo = 7 then (if s.dev.cycling then (s.reach (s.stepEnd 7)).raise 0x0006 (pay [7]) else s)
    else if 2 ≤ stepNo && stepNo ≤ 6 && s.stepOpen stepNo then
      let t := s.reach (s.stepEnd stepNo)
      (({ t with dev := { t.dev with stepsLate := insertNew t.dev.stepsLate stepNo } }).raise 0x0006 (pay [stepNo])).stepReplaced stepNo
    else s)

/-- In `stepsDone`, 9 stands for arbitration and 8 for the pour. [Log 13, DEDUCED, unsafe] -/
def arbitrationDone : Nat := 9
def pourDone : Nat := 8

/-- ARBITRATION (R288, R289): once in each full cycle, 0.2 ms before the pour. -/
def execArbitration (s : State) : Host.Outcome State Fault Refusal :=
  .next (if s.stepOpen arbitrationDone then ((s.reach (s.dev.pourAt - 200000)).arbitrationWork).stepDone arbitrationDone else s)

/-- R73 T3 by order (R75, R296): the named side takes the Ladle; both twins count the next epoch. [Log 16, DEDUCED, unsafe] [Log 91, DEDUCED, safe] -/
def State.engageNow (s : State) (side : Side) : State :=
  if side = s.pins.side then (if s.dev.st == .armed && !s.inSafe then s.takeLadle (s.twn.ladleEp + 1) else s)
  else if s.inStep then
    let t := s.setLadleEp (s.twn.ladleEp + 1)
    { t with twn := { t.twn with holder := some side } }
  else s

/-- R73 T4, R76: carry out an accepted DISENGAGE: the holder drops to ARMED, any other device knows that none holds. -/
def State.disengageNow (s : State) : State :=
  if s.holds then s.dropToArmed.raise 0x1304 else { s with twn := { s.twn with holder := none } }

/-- R73 T4 by TRANSFER (R296). -/
def State.transferNow (s : State) : State := if s.holds then s.handOver 0 else s

/-- R73 T5 (R77): PARKED from this pour on. -/
def State.parkNow (s : State) : State :=
  if s.dev.st == .armed then
    let u := (s.endTests 3).endFallback.gnsPowerDown
    { u with dev := { u.dev with st := .parked, newMode := none, ownNew := none } }
  else s

/-- R73 T6 (R77): ARMED again; the next freeze falls on a whole second and opens the first full cycle. -/
def State.unparkNow (s : State) : State :=
  if s.dev.st == .parked then
    { s with dev := { s.dev with st := .armed, mode := s.startMode, fresh := true, nextFreeze := boundaryAt (s.dev.freezeAt + 1) sec } }.gnsPowerUp
  else s

/-- R73 T7 by order. -/
def State.safeNow (s : State) : State := if s.dev.st == .safe || s.dev.st == .boot then s else s.enterSafe.raise 0x1303

/-- R73: one transition that an order brings. RESET acts after the pour. -/
def State.pourAct (s : State) (a : PourAct) : State :=
  match a with
  | .engage side => s.engageNow side
  | .disengage => s.disengageNow
  | .transfer => s.transferNow
  | .park => s.parkNow
  | .unpark => s.unparkNow
  | .safe => s.safeNow
  | .reset => { s with dev := { s.dev with toReset := true } }

/-- R73, R82: the transitions that a pour brings, in the order in which their orders were accepted. [Log 12, DEDUCED, safe] -/
def State.transitions (s : State) : State :=
  let t := s.shutdownAction
  t.dev.atPour.foldl State.pourAct { t with dev := { t.dev with atPour := [] } }

/-- R293: a take-over on silent loss. It drives at this pour. [Log 14, DEDUCED, unsafe] -/
def State.takeOverNow (s : State) : State :=
  if s.mayTakeOver then (((s.takeLadle (s.twn.ladleEp + 1)).event F_TWN_EVENT_TAKEOVER).raise 0x0409).gateForPour else s

/-- R288 row 2: the commands of the previous pour. -/
def State.repeatCommands (s : State) : State :=
  if s.twn.repeatPour then s.each s.thrList (fun t k => t.setThr k (fun h => { h with thrust := h.prevThrust, angle := h.prevAngle })) else s

/-- A fraction as a Q8.24 per-unit value. -/
def perUnit (x : Int × Nat) : Int := roundDiv (x.1 * 16777216) (Nat.max 1 x.2)

/-- R410: the field outputs that take a thruster's commands. -/
def State.driveThruster (s : State) (t : Nat) : State :=
  let u := if portTransport (s.thrW t 14) = 2 then s.driveField (portNumber (s.thrW t 14)) (perUnit (s.thrustFrac t)) else s
  if portTransport (s.thrW t 15) = 2 then u.driveField (portNumber (s.thrW t 15)) (perUnit (s.angleFrac t)) else u

/-- R323: the torque requests of brake channels on field outputs. -/
def State.driveTorque (s : State) (n : Nat) : State :=
  let w := s.safPar (0x1040 + n) 3
  let q := match s.saf.test with
    | some x => if x.chan = n then s.testTorque else 0
    | none => 0
  if s.brkEn n && portTransport w = 2 then s.driveField (portNumber w) (perUnit ((q : Int), 1000)) else s

/-- R310, R380, R387, R410: the commands leave through the lease gate. -/
def State.driveCommands (s : State) : State :=
  let t := s.repeatCommands
  let u := (t.each t.thrList State.driveThruster).each (List.range 8) State.driveTorque
  let v := (u.canPour u.testTorque).sendStream
  { v with saf := { v.saf with prevThrust := (List.range 32).map (fun k => if v.thrExists k then v.cmdThrust k else 0) } }.commandsPoured

/-- R316: the FEEDBACK of a thruster is below 2 % of full scale. The full scale of a speed in rpm is not given. -/
def State.thrStill (s : State) (t : Nat) : Bool :=
  let w := s.thrW t 16
  if portTransport w = 0 then true
  else match s.fieldFeedback w with
    | some v => if portUnit w = 1 then (Config.calc .thrust [(t : Int), v] 0).natAbs < 20 else v.natAbs < 20
    | none => false

/-- R316: the thruster of channel `n` stands still and unavailable; since when. -/
def State.noteStopped (s : State) (n : Nat) : State :=
  let t := s.brkThr n
  let still := !(s.thr t).avail && s.cmdThrust t == 0 && s.thrStill t
  s.setBrake n (fun b => { b with stoppedSince := if still then some (b.stoppedSince.getD s.tim.el) else none })

/-- R316: the demand of channel `n` is APPLY. -/
def State.brakeDemand (s : State) (n : Nat) : Bool :=
  (match (s.brake n).stoppedSince with
    | some t => t + (s.safPar 0x1006).toNat * ms ≤ s.tim.el
    | none => false) ||
  s.dev.st == .parked || (match s.saf.test with | some x => x.chan == n | none => false)

/-- R316, R317, R335: form the brake demand of a channel and carry it out. In the global safe state a channel with SAFE_ACT 1 keeps its state. -/
def State.brakePour (s : State) (n : Nat) : State :=
  if !s.brkEn n then s
  else
    let t := s.noteStopped n
    let d := t.brakeDemand n
    if t.inSafe then t else if d then t.applyBrake n else t.releaseBrake n

/-- R329, R330: SAFE_STATE on every send connection. -/
def State.sendSafeState (s : State) (c : Nat) : State :=
  if s.connUsed c && s.connSends c then
    let w0 := s.fld F_SAF_SIP_DEMAND + 65536 * s.fld F_SAF_STATUS_BRK_APPLIED + 16777216 * bit s.inSafe
    let f := s.safeFrame 0x10 (bits (s.connPar c 0) 15 0) (natBytes w0 4 ++ natBytes s.dev.stateEp 4)
    (s.lanSend .safeState (((s.connPar c 4).toNat : Int) :: f.map (fun b => (b.toNat : Int)))).nextSafe 0x10
  else s

/-- R192: words 5 to 7 of a capture sample of a thruster: command, angle and feedback. -/
def State.thrSample (s : State) (t : Nat) : List Word :=
  [intWord (s.cmdThrust t), intWord (s.thr t).angle, intWord ((s.fieldFeedback (s.thrW t 16)).getD 0)]

/-- R166, R191, R192, R202, R237: what a full cycle's pour publishes. -/
def State.publishCycle (s : State) : State :=
  (s.publishFusion.publishControl.publishAllocation.reportStop).captureSample s.thrSample

/-- R502: the panel follows the image of the pour. -/
def State.panelPour (s : State) : State :=
  let current := s.fullCycle && !s.dev.stepsLate.contains 2
  let blank := imageOf (fun _ => 0)
  let pos := if current then barImage (isqrt (400 * s.posErr2)) (1000 * s.posFoot) else blank
  let hdg := if current && s.dev.mode != 3 then barImage (20 * (s.err 2).natAbs) (1000 * s.hdgFoot) else blank
  (((s.newIcons 0 s.panelGroup0).newIcons 1 s.panelGroup1).newBar 2 pos).newBar 3 hdg

/-- R456, R457, R379: the image becomes the front buffer, source 30 asserts, and the image is published. -/
def State.publishPour (s : State) : State :=
  let t := (s.closeImage (stateCode s.dev.st)).swapImage
  let u := { t with intc := { t.intc with edge := insertNew t.intc.edge 30 }, net := { t.net with pours := t.net.pours + 1 } }.settleSources
  let v := ([0, 1, 2, 3].foldl State.serialPour u).send450
  (v.publishImage v.frontImage).publishFormation

/-- R499: a sampled time anchor is written, with the operating time of its freeze. -/
def State.writeAnchor (s : State) : State :=
  match s.rcd.anchor with
  | some p =>
    let t := { s with rcd := { s.rcd with anchor := none } }
    t.enqueue { t.formRec 0x0B81 0 p with hours := t.rcd.anchorHours }
  | none => s

/-- R305: the health report is formed, shown and sent as an item. -/
def State.reportPour (s : State) : State :=
  let r := s.healthReport
  (s.setRegs (A_TWN_HLT_OWN 0) r).ownItem 5 0 s.tim.wt s.tim.wt r

/-- R301: with both lanes up, at its pour a device sends the copy that the partner asked for, and a device that asked waits for it. -/
def State.syncPour (s : State) : State :=
  let both := s.fld F_TWN_STATUS_LANES = 3
  let t := if s.twn.partnerWantsCopy && s.fullCycle && both then s.sendCopy else s
  if t.twn.requested && t.twn.joining.isNone && both then { t with twn := { t.twn with copyDueBy := some (t.tim.el + 1800000) } } else t.requestSync

/-- R459: ALARM_ACKs count for the codes of the pair while these last. -/
def State.prunePairAcks (s : State) : State :=
  let codes := s.pairCodes
  { s with ord := { s.ord with pairAcked := if s.ord.pairAcked.contains 0xFFFF then codes else s.ord.pairAcked.filter codes.contains } }

/-- R28, R32, R267, R305, R477, R487, R496, R534: the bookkeeping window. -/
def State.bookkeeping (s : State) (katPass : Bool) : State :=
  let t := (((s.when (!s.alc.posed) State.poseFills).solverWork katPass).bankWork.throttleWork).writeAnchor
  let u := (t.settleAlarms.recorderWork).prunePairAcks
  let v := { u with mram := { u.mram with stateEp := u.dev.stateEp },
                    ord := { u.ord with counted := [], commandChanged := false, tunedThisCycle := [] } }
  v.reportPour.syncPour

/-- The pour, from its instant on. -/
def State.pourWork (s : State) (katPass : Bool) : State :=
  let full := s.fullCycle
  let s0 := s.fillQueues
  let s1 := if s0.stepOpen arbitrationDone then s0.arbitrationWork else s0
  let s2 := { s1.buildImage with dev := { s1.buildImage.dev with fresh := false } }
  let s3 := s2.transitions.takeOverNow
  let s4 := if full then s3.scenarioAlarms.injectionChecks.driveCommands.publishCycle else s3
  let s5 := s4.each (List.range 8) State.brakePour
  let s6 := s5.sendResponses.publishPour.panelPour
  ((s6.each (List.range 16) State.sendSafeState).bookkeeping katPass).drainTx

/-- POUR (R30): once in each cycle, at its instant. After it every step of the cycle is over. [Log 14, DEDUCED, unsafe] -/
def execPour (katPass : Bool) (s : State) : Host.Outcome State Fault Refusal :=
  .next (if s.dev.cycling && 0 < s.dev.freezes && !s.dev.stepsDone.contains pourDone then
    let t := (s.reach s.dev.pourAt).pourWork katPass
    { t with dev := { t.dev with stepsDone := [1, 2, 3, 4, 5, 6, pourDone, arbitrationDone] } }
    else s)

end Sys2Proof.Machine
end

