-- ==== Sys2Proof/Machine/ShortForms.lean ====
section
/-! DEFINITION. Short forms of 25 commands: the operands that each of them had before its header, its times or its lists were added. A short form
fills in what it does not name and drops what the command no longer takes from outside. No meaning, invariant or statement uses one;
Host/Slice0/DispatchArms.lean may name them (NOTES.md). -/
namespace Sys2Proof

/-- The header of a twin frame in lane 0 with number 0 that acknowledges nothing and returns no credits. -/
def plainHeader : TwinHeader := { lane := 0, length := 0, seq := 0, ack := 0, credits := [], crcOk := true }

/-- CONTROL_STEP in short form. -/
def Instr.controlStep (_status : Nat) : Instr := .controlStepRuns

/-- ALLOCATION_STEP in short form. -/
def Instr.allocationStep (_nominal _scenarios : Nat) : Instr := .allocationStepRuns

/-- PROBLEM_END in short form. -/
def Instr.problemEnd (tag : Nat) : Instr := .problemEnds tag 0

/-- HELLO in short form. -/
def Instr.hello (frame : Hello) : Instr := .helloFrame plainHeader frame

/-- AUTH in short form. -/
def Instr.auth (sig : List Byte) : Instr := .authFrame plainHeader sig []

/-- START in short form. -/
def Instr.start (firstFreeze epoch : Nat) : Instr := .startFrame plainHeader firstFreeze epoch

/-- ITEM in short form. -/
def Instr.item (entry : Item) : Instr := .itemFrame plainHeader entry 0 1

/-- CLOSE in short form. -/
def Instr.close (epoch count : Nat) (digest : Word) : Instr := .closeFrame plainHeader epoch count digest

/-- AGREE in short form. -/
def Instr.agree (epoch : Nat) (cope drag : Bool) (digest : Word) : Instr := .agreeFrame plainHeader epoch cope drag digest

/-- COMPARE in short form. -/
def Instr.compare (frame : CompareMsg) : Instr := .compareFrame plainHeader frame

/-- VERDICT in short form. -/
def Instr.verdict (frame : VerdictMsg) : Instr := .verdictFrame plainHeader frame

/-- RELEASE in short form. -/
def Instr.release (epoch : Nat) : Instr := .releaseFrame plainHeader epoch

/-- SYNC_REQ in short form. -/
def Instr.syncReq : Instr := .syncReqFrame plainHeader

/-- STATE in short form. -/
def Instr.state (chunk : Machine.TwinChunk) : Instr := .stateFrame plainHeader chunk

/-- SYNC_END in short form. -/
def Instr.syncEnd (epoch : Nat) (crcOk : Bool) : Instr := .syncEndFrame plainHeader epoch crcOk

/-- PTP_SYNC in short form. -/
def Instr.ptpSync (domain port : Nat) (twoStep : Bool) (seq : Nat) (ingress origin _delay : Int) : Instr := .ptpSyncArrives domain port twoStep seq ingress origin

/-- PTP_DELAY_RESP in short form. -/
def Instr.ptpDelayResp (domain port : Nat) (time : Int) : Instr := .ptpDelayRespArrives domain port time time

/-- ACQUISITION_SEARCH in short form. -/
def Instr.acquisitionSearch (engine sig sv antenna blocks peakOverMean : Nat) : Instr := .acquisitionSearchRuns engine sig sv antenna blocks false 0 peakOverMean

/-- EPHEMERIS_RENEWAL_END in short form. -/
def Instr.ephemerisRenewalEnd : Instr := .ephemerisRenewalEnds []

/-- CAN_REFERENCE_MESSAGE in short form. -/
def Instr.canReferenceMessage (channel _sof : Nat) : Instr := .canReferenceMessageStarts channel

/-- FIELD_SAMPLE in short form. -/
def Instr.fieldSample (channel : Nat) (code _readback : Int) (_stamp _instant : Nat) : Instr := .fieldSampleTaken channel (.codes [code])

/-- FIELD_FAULT_TIMER in short form. -/
def Instr.fieldFaultTimer (channel condition : Nat) (_present : Bool) : Instr := .fieldFaultTimerEnds channel condition

/-- FIELD_TEST_INJECTION_END in short form. -/
def Instr.fieldTestInjectionEnd (channel : Nat) (_reading : Int) : Instr := .fieldTestInjectionEnds channel

/-- ELK_RETRANSMIT in short form. -/
def Instr.elkRetransmit (port vc : Nat) : Instr := .elkRetransmitFrame port vc false

/-- THERMAL_UPDATE in short form. -/
def Instr.thermalUpdate (_power diodes : List Int) : Instr := .thermalUpdateRuns [] 0 [] diodes

namespace Machine

/-- The meaning of the short form of CONTROL_STEP. -/
def execControlStep (_status : Nat) (s : State) : Host.Outcome State Fault Refusal := execControlStepRuns s

/-- The meaning of the short form of ALLOCATION_STEP. -/
def execAllocationStep (_nominal _scenarios : Nat) (s : State) : Host.Outcome State Fault Refusal := execAllocationStepRuns s

/-- The meaning of the short form of PROBLEM_END. -/
def execProblemEnd (tag : Nat) (s : State) : Host.Outcome State Fault Refusal := execProblemEnds tag 0 s

/-- The meaning of the short form of HELLO. -/
def execHello (frame : Hello) (s : State) : Host.Outcome State Fault Refusal := execHelloFrame plainHeader frame s

/-- The meaning of the short form of AUTH. -/
def execAuth (sig : List Byte) (s : State) : Host.Outcome State Fault Refusal := execAuthFrame plainHeader sig [] s

/-- The meaning of the short form of START. -/
def execStart (firstFreeze epoch : Nat) (s : State) : Host.Outcome State Fault Refusal := execStartFrame plainHeader firstFreeze epoch s

/-- The meaning of the short form of ITEM. -/
def execItem (entry : Item) (s : State) : Host.Outcome State Fault Refusal := execItemFrame plainHeader entry 0 1 s

/-- The meaning of the short form of CLOSE. -/
def execClose (epoch count : Nat) (digest : Word) (s : State) : Host.Outcome State Fault Refusal := execCloseFrame plainHeader epoch count digest s

/-- The meaning of the short form of AGREE. -/
def execAgree (epoch : Nat) (cope drag : Bool) (digest : Word) (s : State) : Host.Outcome State Fault Refusal := execAgreeFrame plainHeader epoch cope drag digest s

/-- The meaning of the short form of COMPARE. -/
def execCompare (frame : CompareMsg) (s : State) : Host.Outcome State Fault Refusal := execCompareFrame plainHeader frame s

/-- The meaning of the short form of VERDICT. -/
def execVerdict (frame : VerdictMsg) (s : State) : Host.Outcome State Fault Refusal := execVerdictFrame plainHeader frame s

/-- The meaning of the short form of RELEASE. -/
def execRelease (epoch : Nat) (s : State) : Host.Outcome State Fault Refusal := execReleaseFrame plainHeader epoch s

/-- The meaning of the short form of SYNC_REQ. -/
def execSyncReq (s : State) : Host.Outcome State Fault Refusal := execSyncReqFrame plainHeader s

/-- The meaning of the short form of STATE. -/
def execState (chunk : TwinChunk) (s : State) : Host.Outcome State Fault Refusal := execStateFrame plainHeader chunk s

/-- The meaning of the short form of SYNC_END. -/
def execSyncEnd (epoch : Nat) (crcOk : Bool) (s : State) : Host.Outcome State Fault Refusal := execSyncEndFrame plainHeader epoch crcOk s

/-- The meaning of the short form of PTP_SYNC. -/
def execPtpSync (domain port : Nat) (twoStep : Bool) (seq : Nat) (ingress origin _delay : Int) (s : State) : Host.Outcome State Fault Refusal := execPtpSyncArrives domain port twoStep seq ingress origin s

/-- The meaning of the short form of PTP_DELAY_RESP. -/
def execPtpDelayResp (domain port : Nat) (time : Int) (s : State) : Host.Outcome State Fault Refusal := execPtpDelayRespArrives domain port time time s

/-- The meaning of the short form of ACQUISITION_SEARCH. -/
def execAcquisitionSearch (engine sig sv antenna blocks peakOverMean : Nat) (s : State) : Host.Outcome State Fault Refusal := execAcquisitionSearchRuns engine sig sv antenna blocks false 0 peakOverMean s

/-- The meaning of the short form of EPHEMERIS_RENEWAL_END. -/
def execEphemerisRenewalEnd (s : State) : Host.Outcome State Fault Refusal := execEphemerisRenewalEnds [] s

/-- The meaning of the short form of CAN_REFERENCE_MESSAGE. -/
def execCanReferenceMessage (channel _sof : Nat) (s : State) : Host.Outcome State Fault Refusal := execCanReferenceMessageStarts channel s

/-- The meaning of the short form of FIELD_SAMPLE. -/
def execFieldSample (channel : Nat) (code _readback : Int) (_stamp _instant : Nat) (s : State) : Host.Outcome State Fault Refusal := execFieldSampleTaken channel (.codes [code]) s

/-- The meaning of the short form of FIELD_FAULT_TIMER. -/
def execFieldFaultTimer (channel condition : Nat) (_present : Bool) (s : State) : Host.Outcome State Fault Refusal := execFieldFaultTimerEnds channel condition s

/-- The meaning of the short form of FIELD_TEST_INJECTION_END. -/
def execFieldTestInjectionEnd (channel : Nat) (_reading : Int) (s : State) : Host.Outcome State Fault Refusal := execFieldTestInjectionEnds channel s

/-- The meaning of the short form of ELK_RETRANSMIT. -/
def execElkRetransmit (port vc : Nat) (s : State) : Host.Outcome State Fault Refusal := execElkRetransmitFrame port vc false s

/-- The meaning of the short form of THERMAL_UPDATE. -/
def execThermalUpdate (_power diodes : List Int) (s : State) : Host.Outcome State Fault Refusal := execThermalUpdateRuns [] 0 [] diodes s

end Machine

end Sys2Proof
end

