-- ==== Sys2Proof/Machine/Dispatch.lean ====
section
/-! DEFINITION. One arm per command: the direct call of its meaning. -/
namespace Sys2Proof.Machine

/-- The effect of a command on everything but the queue. [Log 1, DESIGN CHOICE, unsafe] -/
def exec (i : Instr) (s : State) : Host.Outcome State Fault Refusal :=
  match i with
  | .powerOnReset straps => Sys2Proof.Machine.execPowerOnReset straps s
  | .vinFall => Sys2Proof.Machine.execVinFall s
  | .nrst widthNs straps => Sys2Proof.Machine.execNrst widthNs straps s
  | .keeperWatchdog straps => Sys2Proof.Machine.execKeeperWatchdog straps s
  | .orderedReset straps => Sys2Proof.Machine.execOrderedReset straps s
  | .app0Rst master => Sys2Proof.Machine.execApp0Rst master s
  | .app1Rst master => Sys2Proof.Machine.execApp1Rst master s
  | .pwrgoodRise => Sys2Proof.Machine.execPwrgoodRise s
  | .refinPresent => Sys2Proof.Machine.execRefinPresent s
  | .refinMissing => Sys2Proof.Machine.execRefinMissing s
  | .pllUnlock => Sys2Proof.Machine.execPllUnlock s
  | .clockMonitorWindow count => Sys2Proof.Machine.execClockMonitorWindow count s
  | .vfldPresent => Sys2Proof.Machine.execVfldPresent s
  | .vfldLow => Sys2Proof.Machine.execVfldLow s
  | .bootStart tests => Sys2Proof.Machine.execBootStart tests s
  | .slotStreamEnd tests => Sys2Proof.Machine.execSlotStreamEnd tests s
  | .bootTimeout => Sys2Proof.Machine.execBootTimeout s
  | .twinWaitEnd => Sys2Proof.Machine.execTwinWaitEnd s
  | .cycleFreeze latch => Sys2Proof.Machine.execCycleFreeze latch s
  | .measurementBlockWrite stamp => Sys2Proof.Machine.execMeasurementBlockWrite stamp s
  | .fieldItemSend => Sys2Proof.Machine.execFieldItemSend s
  | .closeTick => Sys2Proof.Machine.execCloseTick s
  | .agreeDecide => Sys2Proof.Machine.execAgreeDecide s
  | .agreeCheck => Sys2Proof.Machine.execAgreeCheck s
  | .fusionStep nav => Sys2Proof.Machine.execFusionStep nav s
  | .slotTimeout slot => Sys2Proof.Machine.execSlotTimeout slot s
  | .gatePersistExpiry slot => Sys2Proof.Machine.execGatePersistExpiry slot s
  | .conflictPersistExpiry quantity => Sys2Proof.Machine.execConflictPersistExpiry quantity s
  | .probationEnd slot => Sys2Proof.Machine.execProbationEnd slot s
  | .drValidExpiry heading => Sys2Proof.Machine.execDrValidExpiry heading s
  | .drLimitExpiry heading => Sys2Proof.Machine.execDrLimitExpiry heading s
  | .controlStepRuns => Sys2Proof.Machine.execControlStepRuns s
  | .followingErrorExpiry heading => Sys2Proof.Machine.execFollowingErrorExpiry heading s
  | .modelPlausibilityExpiry axis => Sys2Proof.Machine.execModelPlausibilityExpiry axis s
  | .followRefLoss => Sys2Proof.Machine.execFollowRefLoss s
  | .joystickTimeout => Sys2Proof.Machine.execJoystickTimeout s
  | .windFeedforwardRamp => Sys2Proof.Machine.execWindFeedforwardRamp s
  | .injectionEnd => Sys2Proof.Machine.execInjectionEnd s
  | .allocationStepRuns => Sys2Proof.Machine.execAllocationStepRuns s
  | .scenarioStale scenario => Sys2Proof.Machine.execScenarioStale scenario s
  | .shapeHoldExpiry scenario => Sys2Proof.Machine.execShapeHoldExpiry scenario s
  | .azimuthSwing thruster => Sys2Proof.Machine.execAzimuthSwing thruster s
  | .outputComparison => Sys2Proof.Machine.execOutputComparison s
  | .verdictFormation delivered => Sys2Proof.Machine.execVerdictFormation delivered s
  | .arbitration => Sys2Proof.Machine.execArbitration s
  | .stepDeadline stepNo => Sys2Proof.Machine.execStepDeadline stepNo s
  | .pour katPass => Sys2Proof.Machine.execPour katPass s
  | .orderArrival transport address port frame stamp => Sys2Proof.Machine.execOrderArrival transport address port frame stamp s
  | .engage order => Sys2Proof.Machine.execEngage order s
  | .disengage order => Sys2Proof.Machine.execDisengage order s
  | .transfer order => Sys2Proof.Machine.execTransfer order s
  | .setMode order => Sys2Proof.Machine.execSetMode order s
  | .setPoint order => Sys2Proof.Machine.execSetPoint order s
  | .setTrack order => Sys2Proof.Machine.execSetTrack order s
  | .setFollowRef order => Sys2Proof.Machine.execSetFollowRef order s
  | .joystick order => Sys2Proof.Machine.execJoystick order s
  | .takeCommand order => Sys2Proof.Machine.execTakeCommand order s
  | .thrusterAvail order => Sys2Proof.Machine.execThrusterAvail order s
  | .sensorReturn order => Sys2Proof.Machine.execSensorReturn order s
  | .tunable order => Sys2Proof.Machine.execTunable order s
  | .testStartBrake order => Sys2Proof.Machine.execTestStartBrake order s
  | .testStartInjection order => Sys2Proof.Machine.execTestStartInjection order s
  | .testStop order => Sys2Proof.Machine.execTestStop order s
  | .park order => Sys2Proof.Machine.execPark order s
  | .unpark order => Sys2Proof.Machine.execUnpark order s
  | .safe order => Sys2Proof.Machine.execSafe order s
  | .reset order => Sys2Proof.Machine.execReset order s
  | .alarmAck order => Sys2Proof.Machine.execAlarmAck order s
  | .orderMailboxSubmit master box => Sys2Proof.Machine.execOrderMailboxSubmit master box s
  | .slvSubmit master value placed => Sys2Proof.Machine.execSlvSubmit master value placed s
  | .slvFill master value placed => Sys2Proof.Machine.execSlvFill master value placed s
  | .submissionProcess => Sys2Proof.Machine.execSubmissionProcess s
  | .fillApply => Sys2Proof.Machine.execFillApply s
  | .problemStart => Sys2Proof.Machine.execProblemStart s
  | .problemEnds tag cycles => Sys2Proof.Machine.execProblemEnds tag cycles s
  | .problemDeadline tag => Sys2Proof.Machine.execProblemDeadline tag s
  | .laneFault lane => Sys2Proof.Machine.execLaneFault lane s
  | .laneEccCorrected lane => Sys2Proof.Machine.execLaneEccCorrected lane s
  | .twinLaneLost lane => Sys2Proof.Machine.execTwinLaneLost lane s
  | .twinLaneRetry lane => Sys2Proof.Machine.execTwinLaneRetry lane s
  | .twinLinkDown => Sys2Proof.Machine.execTwinLinkDown s
  | .twinRetransmit vc firstSeq => Sys2Proof.Machine.execTwinRetransmit vc firstSeq s
  | .twinNak vc firstSeq => Sys2Proof.Machine.execTwinNak vc firstSeq s
  | .helloSend nonce => Sys2Proof.Machine.execHelloSend nonce s
  | .helloFrame header frame => Sys2Proof.Machine.execHelloFrame header frame s
  | .authFrame header sig verified => Sys2Proof.Machine.execAuthFrame header sig verified s
  | .startFrame header firstFreeze epoch => Sys2Proof.Machine.execStartFrame header firstFreeze epoch s
  | .itemFrame header entry index count => Sys2Proof.Machine.execItemFrame header entry index count s
  | .closeFrame header epoch count digest => Sys2Proof.Machine.execCloseFrame header epoch count digest s
  | .agreeFrame header epoch cope drag digest => Sys2Proof.Machine.execAgreeFrame header epoch cope drag digest s
  | .compareFrame header frame => Sys2Proof.Machine.execCompareFrame header frame s
  | .verdictFrame header frame => Sys2Proof.Machine.execVerdictFrame header frame s
  | .renewSend => Sys2Proof.Machine.execRenewSend s
  | .renew path epoch side sendT arrival => Sys2Proof.Machine.execRenew path epoch side sendT arrival s
  | .ack path arrival => Sys2Proof.Machine.execAck path arrival s
  | .leaseExpiry => Sys2Proof.Machine.execLeaseExpiry s
  | .silentLossTimeout => Sys2Proof.Machine.execSilentLossTimeout s
  | .releaseFrame header epoch => Sys2Proof.Machine.execReleaseFrame header epoch s
  | .syncReqFrame header => Sys2Proof.Machine.execSyncReqFrame header s
  | .stateFrame header chunk => Sys2Proof.Machine.execStateFrame header chunk s
  | .syncEndFrame header epoch crcOk => Sys2Proof.Machine.execSyncEndFrame header epoch crcOk s
  | .syncEndTimeout => Sys2Proof.Machine.execSyncEndTimeout s
  | .timeMarkerSend => Sys2Proof.Machine.execTimeMarkerSend s
  | .timeMarker marker => Sys2Proof.Machine.execTimeMarker marker s
  | .twinOffsetAlarm => Sys2Proof.Machine.execTwinOffsetAlarm s
  | .switchTest channel => Sys2Proof.Machine.execSwitchTest channel s
  | .switchTestStep channel hsPct lsPct => Sys2Proof.Machine.execSwitchTestStep channel hsPct lsPct s
  | .brakeOvercurrent channel => Sys2Proof.Machine.execBrakeOvercurrent channel s
  | .brakeDegradedExpiry channel => Sys2Proof.Machine.execBrakeDegradedExpiry channel s
  | .brakeTestPhaseEnd => Sys2Proof.Machine.execBrakeTestPhaseEnd s
  | .brakeTestMotion counts => Sys2Proof.Machine.execBrakeTestMotion counts s
  | .brakeTestDue channel => Sys2Proof.Machine.execBrakeTestDue channel s
  | .testPulse output faulty => Sys2Proof.Machine.execTestPulse output faulty s
  | .safeInputChange pair contactB closed stamp => Sys2Proof.Machine.execSafeInputChange pair contactB closed stamp s
  | .discrepancyExpiry pair => Sys2Proof.Machine.execDiscrepancyExpiry pair s
  | .safeFrame lanB bytes stamp => Sys2Proof.Machine.execSafeFrame lanB bytes stamp s
  | .dualWaitExpiry conn => Sys2Proof.Machine.execDualWaitExpiry conn s
  | .safeConnectionTimeout conn => Sys2Proof.Machine.execSafeConnectionTimeout conn s
  | .sDieFault => Sys2Proof.Machine.execSDieFault s
  | .extest => Sys2Proof.Machine.execExtest s
  | .tsuExtUpdate => Sys2Proof.Machine.execTsuExtUpdate s
  | .ptpSyncArrives domain port twoStep seq ingress origin => Sys2Proof.Machine.execPtpSyncArrives domain port twoStep seq ingress origin s
  | .ptpFollowUp domain port seq origin => Sys2Proof.Machine.execPtpFollowUp domain port seq origin s
  | .ptpDelayRespArrives domain port time ingress => Sys2Proof.Machine.execPtpDelayRespArrives domain port time ingress s
  | .ptpAnnounce msg => Sys2Proof.Machine.execPtpAnnounce msg s
  | .ptpMessageSend domain port kind => Sys2Proof.Machine.execPtpMessageSend domain port kind s
  | .timeSourceLost source => Sys2Proof.Machine.execTimeSourceLost source s
  | .sourceQualified source => Sys2Proof.Machine.execSourceQualified source s
  | .stepDecision => Sys2Proof.Machine.execStepDecision s
  | .timeStep => Sys2Proof.Machine.execTimeStep s
  | .holdErrPublish => Sys2Proof.Machine.execHoldErrPublish s
  | .compareFire unit => Sys2Proof.Machine.execCompareFire unit s
  | .compareEnable master unit value => Sys2Proof.Machine.execCompareEnable master unit value s
  | .captureEdge unit rising stamp => Sys2Proof.Machine.execCaptureEdge unit rising stamp s
  | .captureRead master unit => Sys2Proof.Machine.execCaptureRead master unit s
  | .captureOld unit => Sys2Proof.Machine.execCaptureOld unit s
  | .timePulse output => Sys2Proof.Machine.execTimePulse output s
  | .timePulseEnd output => Sys2Proof.Machine.execTimePulseEnd output s
  | .antennaMeasure antenna milliamps => Sys2Proof.Machine.execAntennaMeasure antenna milliamps s
  | .antennaRetry antenna => Sys2Proof.Machine.execAntennaRetry antenna s
  | .acquisitionSearchRuns engine sig sv antenna blocks warm bin peakOverMean => Sys2Proof.Machine.execAcquisitionSearchRuns engine sig sv antenna blocks warm bin peakOverMean s
  | .acquisitionConfirm engine peakOverMean elev => Sys2Proof.Machine.execAcquisitionConfirm engine peakOverMean elev s
  | .pullInLock chan => Sys2Proof.Machine.execPullInLock chan s
  | .phaseLockHeld chan => Sys2Proof.Machine.execPhaseLockHeld chan s
  | .lockLoss chan => Sys2Proof.Machine.execLockLoss chan s
  | .cycleSlip chan => Sys2Proof.Machine.execCycleSlip chan s
  | .channelShadowEnd cluster sameAS sameAS2 sameSS2 => Sys2Proof.Machine.execChannelShadowEnd cluster sameAS sameAS2 sameSS2 s
  | .spectrumAverage stream lines noise agc => Sys2Proof.Machine.execSpectrumAverage stream lines noise agc s
  | .notchRelease stream notch => Sys2Proof.Machine.execNotchRelease stream notch s
  | .noiseFloorLearned floors => Sys2Proof.Machine.execNoiseFloorLearned floors s
  | .jamClear => Sys2Proof.Machine.execJamClear s
  | .suspectClear chan => Sys2Proof.Machine.execSuspectClear chan s
  | .suspicionClear side => Sys2Proof.Machine.execSuspicionClear side s
  | .snapshotTrigger master => Sys2Proof.Machine.execSnapshotTrigger master s
  | .snapshotHeld samples => Sys2Proof.Machine.execSnapshotHeld samples s
  | .snapshotRelease master => Sys2Proof.Machine.execSnapshotRelease master s
  | .parkPositionCheck satellites distanceM => Sys2Proof.Machine.execParkPositionCheck satellites distanceM s
  | .ephemerisRenewal => Sys2Proof.Machine.execEphemerisRenewal s
  | .ephemerisRenewalEnds sats => Sys2Proof.Machine.execEphemerisRenewalEnds sats s
  | .serialSentence port sentence => Sys2Proof.Machine.execSerialSentence port sentence s
  | .rtcmFrame port bytes first last => Sys2Proof.Machine.execRtcmFrame port bytes first last s
  | .canFrame channel frame => Sys2Proof.Machine.execCanFrame channel frame s
  | .fastPacketTimeout channel source pgn => Sys2Proof.Machine.execFastPacketTimeout channel source pgn s
  | .canObjectTimeout object => Sys2Proof.Machine.execCanObjectTimeout object s
  | .canQ1Pop master channel => Sys2Proof.Machine.execCanQ1Pop master channel s
  | .canError channel tec rec => Sys2Proof.Machine.execCanError channel tec rec s
  | .busoffHoldExpiry channel => Sys2Proof.Machine.execBusoffHoldExpiry channel s
  | .busoffRecovered channel => Sys2Proof.Machine.execBusoffRecovered channel s
  | .canReferenceMessageStarts channel => Sys2Proof.Machine.execCanReferenceMessageStarts channel s
  | .ethernetFrame frame => Sys2Proof.Machine.execEthernetFrame frame s
  | .prpEntryForget mac seq => Sys2Proof.Machine.execPrpEntryForget mac seq s
  | .rxLimitWindow port => Sys2Proof.Machine.execRxLimitWindow port s
  | .phyPoll port answered link => Sys2Proof.Machine.execPhyPoll port answered link s
  | .mdioRead master value => Sys2Proof.Machine.execMdioRead master value s
  | .mdioReadDone answer => Sys2Proof.Machine.execMdioReadDone answer s
  | .arpRefresh ip => Sys2Proof.Machine.execArpRefresh ip s
  | .arpTimeout ip => Sys2Proof.Machine.execArpTimeout ip s
  | .serviceRead req => Sys2Proof.Machine.execServiceRead req s
  | .serviceWrite req => Sys2Proof.Machine.execServiceWrite req s
  | .fieldSampleTaken channel input => Sys2Proof.Machine.execFieldSampleTaken channel input s
  | .fieldOutputWrite master channel value => Sys2Proof.Machine.execFieldOutputWrite master channel value s
  | .fieldFaultTimerEnds channel condition => Sys2Proof.Machine.execFieldFaultTimerEnds channel condition s
  | .readbackMismatch channel => Sys2Proof.Machine.execReadbackMismatch channel s
  | .modulatorOverload channel => Sys2Proof.Machine.execModulatorOverload channel s
  | .engineShadowEnd cluster same => Sys2Proof.Machine.execEngineShadowEnd cluster same s
  | .engineTestEnd cluster sparePasses => Sys2Proof.Machine.execEngineTestEnd cluster sparePasses s
  | .fieldTestInjection channel => Sys2Proof.Machine.execFieldTestInjection channel s
  | .fieldTestInjectionEnds channel => Sys2Proof.Machine.execFieldTestInjectionEnds channel s
  | .loopSample slot => Sys2Proof.Machine.execLoopSample slot s
  | .loopFollowingError slot => Sys2Proof.Machine.execLoopFollowingError slot s
  | .loopPlausibility slot => Sys2Proof.Machine.execLoopPlausibility slot s
  | .interruptAssert source => Sys2Proof.Machine.execInterruptAssert source s
  | .claim master target => Sys2Proof.Machine.execClaim master target s
  | .complete master target value => Sys2Proof.Machine.execComplete master target value s
  | .unfreeze master target => Sys2Proof.Machine.execUnfreeze master target s
  | .moderationInterval target => Sys2Proof.Machine.execModerationInterval target s
  | .targetIdle target => Sys2Proof.Machine.execTargetIdle target s
  | .doorbellSet master value => Sys2Proof.Machine.execDoorbellSet master value s
  | .machineTimer core => Sys2Proof.Machine.execMachineTimer core s
  | .hostRead addr words => Sys2Proof.Machine.execHostRead addr words s
  | .hostQuadRead addr words => Sys2Proof.Machine.execHostQuadRead addr words s
  | .hostWrite addr words partialWord => Sys2Proof.Machine.execHostWrite addr words partialWord s
  | .hostQuadWrite addr words partialWord => Sys2Proof.Machine.execHostQuadWrite addr words partialWord s
  | .hostStatus => Sys2Proof.Machine.execHostStatus s
  | .hostWritePerform => Sys2Proof.Machine.execHostWritePerform s
  | .flashErase master => Sys2Proof.Machine.execFlashErase master s
  | .flashProgram master => Sys2Proof.Machine.execFlashProgram master s
  | .flashRead master => Sys2Proof.Machine.execFlashRead master s
  | .flashCommandDone failed => Sys2Proof.Machine.execFlashCommandDone failed s
  | .elkPortLost port => Sys2Proof.Machine.execElkPortLost port s
  | .elkPortRetry port => Sys2Proof.Machine.execElkPortRetry port s
  | .elkRetransmitFrame port vc nak => Sys2Proof.Machine.execElkRetransmitFrame port vc nak s
  | .elkHelloSend port => Sys2Proof.Machine.execElkHelloSend port s
  | .elkHello port member formId => Sys2Proof.Machine.execElkHello port member formId s
  | .elkPacket port header packet => Sys2Proof.Machine.execElkPacket port header packet s
  | .elkUdpDatagram peer vc hopSeq packet => Sys2Proof.Machine.execElkUdpDatagram peer vc hopSeq packet s
  | .subSend => Sys2Proof.Machine.execSubSend s
  | .subscriberExpiry member => Sys2Proof.Machine.execSubscriberExpiry member s
  | .subscriptionTimeout unit => Sys2Proof.Machine.execSubscriptionTimeout unit s
  | .formationSetClose epoch => Sys2Proof.Machine.execFormationSetClose epoch s
  | .viewOpen master => Sys2Proof.Machine.execViewOpen master s
  | .viewClose master => Sys2Proof.Machine.execViewClose master s
  | .windowRead master offset => Sys2Proof.Machine.execWindowRead master offset s
  | .fabricTimeout master region => Sys2Proof.Machine.execFabricTimeout master region s
  | .registerWrite master addr value => Sys2Proof.Machine.execRegisterWrite master addr value s
  | .lockstepMismatch pair => Sys2Proof.Machine.execLockstepMismatch pair s
  | .eccError bank correctable ofCycle => Sys2Proof.Machine.execEccError bank correctable ofCycle s
  | .eccScrub memory corrected => Sys2Proof.Machine.execEccScrub memory corrected s
  | .railFault rail => Sys2Proof.Machine.execRailFault rail s
  | .annealMeasurement dies diodes => Sys2Proof.Machine.execAnnealMeasurement dies diodes s
  | .trimStep rail => Sys2Proof.Machine.execTrimStep rail s
  | .thermalUpdateRuns rails vin coils diodes => Sys2Proof.Machine.execThermalUpdateRuns rails vin coils diodes s
  | .trefTrack => Sys2Proof.Machine.execTrefTrack s
  | .cooled => Sys2Proof.Machine.execCooled s
  | .operatingTimeTick => Sys2Proof.Machine.execOperatingTimeTick s
  | .waveformStart vlcdMv => Sys2Proof.Machine.execWaveformStart vlcdMv s
  | .waveformPhaseEnd => Sys2Proof.Machine.execWaveformPhaseEnd s
  | .waveformEnd => Sys2Proof.Machine.execWaveformEnd s
  | .annCommit master value => Sys2Proof.Machine.execAnnCommit master value s
  | .vlcdTimeout vlcdMv => Sys2Proof.Machine.execVlcdTimeout vlcdMv s
  | .registerRead master addr => Sys2Proof.Machine.execRegisterRead master addr s
  | .refinReturn => Sys2Proof.Machine.execRefinReturn s
  | .hidleFall => Sys2Proof.Machine.execHidleFall s
  | .halfCycleResolved chan => Sys2Proof.Machine.execHalfCycleResolved chan s
  | .transmitTimeResolved chan => Sys2Proof.Machine.execTransmitTimeResolved chan s
  | .twinLaneUp lane => Sys2Proof.Machine.execTwinLaneUp lane s

end Sys2Proof.Machine
end

