-- ==== Sys2Proof/Machine/Idle.lean ====
section
/-! DEFINITION. What one cycle of the TSU clock does while no command waits (R339, R350). -/
namespace Sys2Proof.Machine

/-- R339: the steering accumulator after one cycle, and the ns by which the counter advances. [Log 4, DESIGN CHOICE, unsafe] -/
def steered (acc freq : Int) : Int × Nat :=
  if 2 ^ 43 ≤ acc + freq then (acc + freq - 2 ^ 43, 4)
  else if acc + freq ≤ -2 ^ 43 then (acc + freq + 2 ^ 43, 0)
  else (acc + freq, 2)

/-- R339, R350: one cycle of the TSU clock. [Log 4, DESIGN CHOICE, unsafe] -/
def State.tick (s : State) : State :=
  let d := steered s.tim.steer (s.int (word32 A_TSU_FREQ))
  if s.clk.vin && s.boot.started then
    { s with tim := { s.tim with steer := d.1, wt := s.tim.wt + d.2, el := s.tim.el + d.2 } }
  else s

end Sys2Proof.Machine
end

