-- ==== Sys2Proof/Machine/Pins.lean ====
section
/-! DEFINITION. The levels of the output pins that the state determines (R520, R521). SAFE_n is held in State (R56, R335). -/
namespace Sys2Proof.Machine

/-- R520: the pins whose level is a function of the state. -/
inductive OutPin where
  | pwrgood | safeN | faultN | xspiRstN | hint (k : Nat) | refout | tp (k : Nat)
  deriving DecidableEq, Repr

/-- R520: FAULT_n: high from the end of boot step 2; low while the keeper is halted, a device fault or a latched thermal shutdown is present, or no
Pattern is valid. [Log 18, DEDUCED, unsafe] -/
def State.faultPin (s : State) : Bool :=
  s.boot.started && !s.boot.halted && !s.hlt.deviceFault && !s.flag F_HLT_STATUS_SHUTDOWN && !(s.dev.st == .safe && !s.pat.loaded)

/-- R520: boot has come to step `n` with a Pattern in use. -/
def State.pastStep (s : State) (n : Nat) : Bool := s.pat.loaded && n ≤ s.fld F_KPR_BOOTSTAT_STEP

/-- R520: the level of a pin; true is high. The two host interrupt pins are those of targets 2 and 3 (R422). [Log 18, DEDUCED, unsafe] -/
def State.pinLevel (s : State) (p : OutPin) : Bool :=
  s.clk.vin && (match p with
    | .pwrgood => s.clk.pwrgood
    | .safeN => s.pins.safeN
    | .faultN => s.faultPin
    | .xspiRstN => s.boot.started && s.boot.time0 + 100000 ≤ s.tim.el
    | .hint k => (s.target (2 + k)).line
    | .refout => s.boot.started
    | .tp k => s.pastStep 10 && ((afind s.tim.tp k).isSome != (bits (s.parW 0x0B8D (2 * k)) 3 3 == 1)))

/-- R521: the test port is unlocked. -/
def State.testPortUnlocked (s : State) : Bool := s.pat.testPort && s.pins.testEn

/-- R520: the other pins of the table of pin states. -/
inductive LinePin where
  | xspiCsN | xspi | lan (p : Nat) | mdio | canTx (c : Nat) | sptTx (p : Nat) | sptDe (p : Nat) | hsio (k : Nat) | tdo | fch (n : Nat)
  | sboHs (n : Nat) | sboLs (n : Nat) | sit (k : Nat) | com (g : Nat) | seg (g k : Nat) | ant (n : Nat) | twl (lane : Nat) | elk (port : Nat)
  deriving DecidableEq, Repr

/-- R520: what such a pin does: a level, high impedance, electrical idle, a supply or switch that is off or on, 0 V, or a signal of its interface. -/
inductive LineState where
  | low | high | highZ | idle | off | on | zeroVolts | active
  deriving DecidableEq, Repr

/-- R325: test output `k` is inside its pulse of 0.5 ms; SIT1's pulse falls 50 ms after SIT0's. -/
def State.inPulse (s : State) (k : Nat) : Bool :=
  match s.saf.pulseAt with
  | some e => e + k * (50 * ms) ≤ s.tim.el && s.tim.el < e + k * (50 * ms) + ms / 2
  | none => false

/-- R520: the state of a pin of the table. HCS_n is low within a host transaction only, so HSIO is in high impedance between commands. -/
def State.lineState (s : State) (p : LinePin) : LineState :=
  match p with
  | .xspiCsN => if s.clk.vin && 5 ≤ s.fld F_KPR_BOOTSTAT_STEP then .active else .high
  | .xspi => if s.clk.vin && 5 ≤ s.fld F_KPR_BOOTSTAT_STEP then .active else .highZ
  | .lan k => if s.pastStep 10 && s.ethOn k then .active else .highZ
  | .mdio => if s.pastStep 10 && (s.ethOn 0 || s.ethOn 1 || s.ethOn 2) then .active else .highZ
  | .canTx c => if s.pastStep 10 && bits (s.parW (0x0C01 + c) 0) 0 0 == 1 then .active else .high
  | .sptTx k => if s.pastStep 10 && s.sptMode k != 0 then .active else .high
  | .sptDe k => if s.sptSends k then .high else .low
  | .hsio _ => .highZ
  | .tdo => if s.testPortUnlocked then .active else .highZ
  | .fch n => if s.clk.vfld && s.fchDrives n then .active else .highZ
  | .sboHs n => if s.clk.vfld && (s.brake n).hs then .on else .off
  | .sboLs n => if s.clk.vfld && (s.brake n).ls then .on else .off
  | .sit k => if !s.clk.vfld || !(if k = 0 then s.pins.sit0 else s.pins.sit1) then .off else if s.inPulse k then .low else .high
  | .com g => if !s.clk.vfld then .highZ else if (match s.ann.running with | some w => w.group == g && w.phase < 2 | none => false) then .active else .zeroVolts
  | .seg g k => match s.segDrive g k with
    | .highZ => .highZ
    | .zero => .zeroVolts
    | _ => .active
  | .ant n => if s.antSupplied n && s.fld (F_GNS_ANT_STATE n) != 3 then .on else .off
  | .twl _ => if s.twinOn then .active else .idle
  | .elk k => if s.formOn && k < 2 then .active else .idle

end Sys2Proof.Machine
end

