-- ==== Sys2Proof/WellFormed.lean ====
section
/-! DEFINITION. Well-formed commands: every unit number, address and count lies within what the manual gives the device, and every frame has the
shape of its layout. A command that is not well formed names something the device does not have. -/
namespace Sys2Proof

/-- R81: the fields of an order frame, and at most ten argument words. -/
def OrderIn.wf (o : OrderIn) : Bool :=
  o.format < 65536 && o.target < 256 && o.source < 65536 && o.seq < 4294967296 && o.ladleEp < 4294967296 && o.stateEp < 4294967296 &&
  o.args.length ≤ 10 && o.port < 65536

/-- R275: the fields of a HELLO. -/
def Hello.wf (h : Hello) : Bool :=
  h.serial < 18446744073709551616 && h.patternId.length == 4 && h.seq < 4294967296 && h.execId < 4294967296 && h.state ≤ 4 && h.bootStep ≤ 12 &&
  h.stateEp < 4294967296 && h.ladleEp < 4294967296 && h.nonce < 340282366920938463463374607431768211456

/-- R279: SOURCE holds a class of three bits and a number of twelve, and the epoch has 32 bits. -/
def Item.wf (i : Item) : Bool := i.cls < 8 && i.num < 4096 && i.epoch < 4294967296

/-- R272: a frame comes on one of two lanes; its payload has at most 1,024 bytes, its numbers 16 bits, and it carries credits of four channels. -/
def TwinHeader.wf (h : TwinHeader) : Bool := h.lane < 2 && h.length ≤ 1024 && h.seq < 65536 && h.ack < 65536 && h.credits.length == 4

/-- R291: a renewal on the twin link is a frame of it. -/
def Path.wf : Path → Bool
  | .twin h => h.wf
  | .lanA | .lanB => true

/-- R382, R384: the identifier has 11 or 29 bits, and the data the length that DLC gives. -/
def CanFrame.wf (f : CanFrame) : Bool :=
  f.id < (if f.ide then 536870912 else 2048) && f.dlc < 16 && f.data.length ≤ (if f.fdf then 64 else 8)

/-- R401: the modulator's code has five levels. -/
def FieldInput.wf : FieldInput → Bool
  | .codes l => l.all (fun x => -2 ≤ x && x ≤ 2)
  | .edges _ | .lines _ => true

/-- R379: the fields of a register service request. -/
def SvcReq.wf (r : SvcReq) : Bool := r.client < 4294967296 && r.seq < 4294967296 && r.addr < 4294967296 && r.count < 65536 && r.op < 256

/-- R441: the fields of an Eloaset packet. -/
def Packet.wf (p : Packet) : Bool := p.dst < 65536 && p.src < 65536 && p.typ < 256 && p.hops < 256 && p.fEpoch < 4294967296

/-- The command is well formed. -/
def Instr.wf : Instr → Bool
  | .powerOnReset _ => true
  | .vinFall => true
  | .nrst _ _ => true
  | .keeperWatchdog _ => true
  | .orderedReset _ => true
  | .app0Rst master => master < 20
  | .app1Rst master => master < 20
  | .pwrgoodRise => true
  | .refinPresent => true
  | .refinMissing => true
  | .pllUnlock => true
  | .clockMonitorWindow _ => true
  | .vfldPresent => true
  | .vfldLow => true
  | .bootStart tests => tests.sfdp ≤ 2 && tests.diodes.length == 4 && tests.failedBanks.all (· < 32)
  | .slotStreamEnd tests => tests.failedLanes.all (· < 72) && tests.failedChannels.all (· < 272) && tests.failedPairs.all (· < 11)
  | .bootTimeout => true
  | .twinWaitEnd => true
  | .cycleFreeze latch => latch.all (fun l => l.chan < 272)
  | .measurementBlockWrite _ => true
  | .fieldItemSend => true
  | .closeTick => true
  | .agreeDecide => true
  | .agreeCheck => true
  | .fusionStep nav => nav.length ≤ 2
  | .slotTimeout slot => slot < 48
  | .gatePersistExpiry slot => slot < 48
  | .conflictPersistExpiry quantity => quantity < 6
  | .probationEnd slot => slot < 48
  | .drValidExpiry _ => true
  | .drLimitExpiry _ => true
  | .controlStepRuns => true
  | .followingErrorExpiry _ => true
  | .modelPlausibilityExpiry axis => axis < 3
  | .followRefLoss => true
  | .joystickTimeout => true
  | .windFeedforwardRamp => true
  | .injectionEnd => true
  | .allocationStepRuns => true
  | .scenarioStale scenario => 1 ≤ scenario && scenario ≤ 127
  | .shapeHoldExpiry scenario => 1 ≤ scenario && scenario ≤ 127
  | .azimuthSwing thruster => thruster < 32
  | .outputComparison => true
  | .verdictFormation _ => true
  | .arbitration => true
  | .stepDeadline stepNo => stepNo < 8
  | .pour _ => true
  | .orderArrival _ _ port frame _ => port < 65536 && frame.length ≤ 16
  | .engage order => order.wf
  | .disengage order => order.wf
  | .transfer order => order.wf
  | .setMode order => order.wf
  | .setPoint order => order.wf
  | .setTrack order => order.wf
  | .setFollowRef order => order.wf
  | .joystick order => order.wf
  | .takeCommand order => order.wf
  | .thrusterAvail order => order.wf
  | .sensorReturn order => order.wf
  | .tunable order => order.wf
  | .testStartBrake order => order.wf
  | .testStartInjection order => order.wf
  | .testStop order => order.wf
  | .park order => order.wf
  | .unpark order => order.wf
  | .safe order => order.wf
  | .reset order => order.wf
  | .alarmAck order => order.wf
  | .orderMailboxSubmit master box => master < 20 && box < 3
  | .slvSubmit master _ placed => master < 20 && placed.all (fun e => e.1 % 4 == 0)
  | .slvFill master _ placed => master < 20 && placed.all (fun e => e.1 % 4 == 0)
  | .submissionProcess => true
  | .fillApply => true
  | .problemStart => true
  | .problemEnds tag _ => tag < 256
  | .problemDeadline tag => tag < 256
  | .laneFault lane => lane < 72
  | .laneEccCorrected lane => lane < 72
  | .twinLaneLost lane => lane < 2
  | .twinLaneRetry lane => lane < 2
  | .twinLinkDown => true
  | .twinRetransmit vc firstSeq => vc < 4 && firstSeq < 65536
  | .twinNak vc firstSeq => vc < 4 && firstSeq < 65536
  | .helloSend nonce => nonce < 340282366920938463463374607431768211456
  | .helloFrame header frame => header.wf && frame.wf
  | .authFrame header _ _ => header.wf
  | .startFrame header _ epoch => header.wf && epoch < 4294967296
  | .itemFrame header entry index count => header.wf && entry.wf && index < count && count < 256
  | .closeFrame header epoch _ _ => header.wf && epoch < 4294967296
  | .agreeFrame header epoch _ _ _ => header.wf && epoch < 4294967296
  | .compareFrame header frame => header.wf && frame.epoch < 4294967296
  | .verdictFrame header _ => header.wf
  | .renewSend => true
  | .renew path epoch _ _ _ => path.wf && epoch < 4294967296
  | .ack path _ => path.wf
  | .leaseExpiry => true
  | .silentLossTimeout => true
  | .releaseFrame header epoch => header.wf && epoch < 4294967296
  | .syncReqFrame header => header.wf
  | .stateFrame header _ => header.wf
  | .syncEndFrame header epoch _ => header.wf && epoch < 4294967296
  | .syncEndTimeout => true
  | .timeMarkerSend => true
  | .timeMarker _ => true
  | .twinOffsetAlarm => true
  | .switchTest channel => channel < 8
  | .switchTestStep channel _ _ => channel < 8
  | .brakeOvercurrent channel => channel < 8
  | .brakeDegradedExpiry channel => channel < 8
  | .brakeTestPhaseEnd => true
  | .brakeTestMotion _ => true
  | .brakeTestDue channel => channel < 8
  | .testPulse _ faulty => faulty.all (· < 16)
  | .safeInputChange pair _ _ _ => pair < 16
  | .discrepancyExpiry pair => pair < 16
  | .safeFrame _ bytes _ => bytes.length ≤ 1500
  | .dualWaitExpiry conn => conn < 16
  | .safeConnectionTimeout conn => conn < 16
  | .sDieFault => true
  | .extest => true
  | .tsuExtUpdate => true
  | .ptpSyncArrives domain port _ seq _ _ => domain < 2 && port < 3 && seq < 65536
  | .ptpFollowUp domain port seq _ => domain < 2 && port < 3 && seq < 65536
  | .ptpDelayRespArrives domain port _ _ => domain < 2 && port < 3
  | .ptpAnnounce msg => msg.domain < 2 && msg.port < 3
  | .ptpMessageSend domain port _ => domain < 2 && port < 3
  | .timeSourceLost source => source < 5
  | .sourceQualified source => source < 5
  | .stepDecision => true
  | .timeStep => true
  | .holdErrPublish => true
  | .compareFire unit => unit < 16
  | .compareEnable master unit _ => master < 20 && unit < 16
  | .captureEdge unit _ _ => unit < 16
  | .captureRead master unit => master < 20 && unit < 16
  | .captureOld unit => unit < 16
  | .timePulse output => output < 2
  | .timePulseEnd output => output < 2
  | .antennaMeasure antenna _ => antenna < 4
  | .antennaRetry antenna => antenna < 4
  | .acquisitionSearchRuns engine sig sv antenna _ _ _ _ => engine < 2 && sig < 20 && sv < 64 && antenna < 4
  | .acquisitionConfirm engine _ _ => engine < 2
  | .pullInLock chan => chan < 272
  | .phaseLockHeld chan => chan < 272
  | .lockLoss chan => chan < 272
  | .cycleSlip chan => chan < 272
  | .channelShadowEnd cluster _ _ _ => cluster < 8
  | .spectrumAverage stream lines _ _ => stream < 8 && lines.length ≤ 32
  | .notchRelease stream notch => stream < 8 && notch < 4
  | .noiseFloorLearned floors => floors.length ≤ 8
  | .jamClear => true
  | .suspectClear chan => chan < 272
  | .suspicionClear _ => true
  | .snapshotTrigger master => master < 20
  | .snapshotHeld samples => samples.all (fun x => x.stream < 8)
  | .snapshotRelease master => master < 20
  | .parkPositionCheck _ _ => true
  | .ephemerisRenewal => true
  | .ephemerisRenewalEnds _ => true
  | .serialSentence port sentence => port < 8 && sentence.chars.length ≤ 1024
  | .rtcmFrame port bytes _ _ => port < 8 && bytes.length ≤ 1029
  | .canFrame channel frame => channel < 6 && frame.wf
  | .fastPacketTimeout channel source pgn => channel < 6 && source < 256 && pgn < 262144
  | .canObjectTimeout object => object < 128
  | .canQ1Pop master channel => master < 20 && channel < 6
  | .canError channel _ _ => channel < 6
  | .busoffHoldExpiry channel => channel < 6
  | .busoffRecovered channel => channel < 6
  | .canReferenceMessageStarts channel => channel < 6
  | .ethernetFrame frame => frame.port < 3 && frame.srcMac < 281474976710656
  | .prpEntryForget mac seq => mac < 281474976710656 && seq < 65536
  | .rxLimitWindow port => port < 3
  | .phyPoll port _ _ => port < 3
  | .mdioRead master _ => master < 20
  | .mdioReadDone _ => true
  | .arpRefresh ip => ip < 4294967296
  | .arpTimeout ip => ip < 4294967296
  | .serviceRead req => req.wf
  | .serviceWrite req => req.wf
  | .fieldSampleTaken channel input => channel < 128 && input.wf
  | .fieldOutputWrite master channel _ => master < 20 && channel < 128
  | .fieldFaultTimerEnds channel condition => channel < 128 && condition < 3
  | .readbackMismatch channel => channel < 128
  | .modulatorOverload channel => channel < 128
  | .engineShadowEnd cluster _ => cluster < 8
  | .engineTestEnd cluster _ => cluster < 8
  | .fieldTestInjection channel => channel < 128
  | .fieldTestInjectionEnds channel => channel < 128
  | .loopSample slot => slot < 64
  | .loopFollowingError slot => slot < 64
  | .loopPlausibility slot => slot < 64
  | .interruptAssert source => source < 384
  | .claim master target => master < 20 && target < 4
  | .complete master target _ => master < 20 && target < 4
  | .unfreeze master target => master < 20 && target < 4
  | .moderationInterval target => target < 4
  | .targetIdle target => target < 4
  | .doorbellSet master _ => master < 20
  | .machineTimer core => core < 2
  | .hostRead addr words => addr < 4294967296 && 1 ≤ words && words ≤ 256
  | .hostQuadRead addr words => addr < 4294967296 && 1 ≤ words && words ≤ 256
  | .hostWrite addr words _ => addr < 4294967296 && words.length ≤ 256
  | .hostQuadWrite addr words _ => addr < 4294967296 && words.length ≤ 256
  | .hostStatus => true
  | .hostWritePerform => true
  | .flashErase master => master < 20
  | .flashProgram master => master < 20
  | .flashRead master => master < 20
  | .flashCommandDone _ => true
  | .elkPortLost port => port < 2
  | .elkPortRetry port => port < 2
  | .elkRetransmitFrame port vc _ => port < 2 && vc < 4
  | .elkHelloSend port => port < 2
  | .elkHello port member formId => port < 2 && member < 65536 && formId < 4294967296
  | .elkPacket port header packet => port < 2 && header.vc < 4 && header.credits.length == 4 && packet.wf
  | .elkUdpDatagram peer vc hopSeq packet => peer < 16 && vc < 4 && hopSeq < 65536 && packet.wf
  | .subSend => true
  | .subscriberExpiry member => member < 65536
  | .subscriptionTimeout unit => unit < 65536
  | .formationSetClose epoch => epoch < 4294967296
  | .viewOpen master => master < 20
  | .viewClose master => master < 20
  | .windowRead master offset => master < 20 && offset < 65536
  | .fabricTimeout master region => master < 20 && region < 12
  | .registerWrite master addr _ => master < 20 && addr < 4294967296
  | .lockstepMismatch pair => pair < 11
  | .eccError bank _ _ => bank < 34
  | .eccScrub memory _ => memory < 5
  | .railFault rail => rail < 8
  | .annealMeasurement dies diodes => dies.length == 6 && diodes.length == 4
  | .trimStep rail => rail < 8
  | .thermalUpdateRuns rails _ coils diodes => rails.length == 8 && coils.length == 8 && diodes.length == 4
  | .trefTrack => true
  | .cooled => true
  | .operatingTimeTick => true
  | .waveformStart _ => true
  | .waveformPhaseEnd => true
  | .waveformEnd => true
  | .annCommit master _ => master < 20
  | .vlcdTimeout _ => true
  | .registerRead master addr => master < 20 && addr < 4294967296
  | .refinReturn => true
  | .hidleFall => true
  | .halfCycleResolved chan => chan < 272
  | .transmitTimeResolved chan => chan < 272
  | .twinLaneUp lane => lane < 2

end Sys2Proof
end

