-- ==== Sys2Proof/Safety.lean ====
section
/-! DEFINITION. What a safe run is, in the terms that claims use: canonical memories, fused values that stay, and outputs that act only under the
lease gate. -/
namespace Sys2Proof.Machine

/-- Every memory of the device stands in its canonical form, so equal memories are equal data. -/
def State.Canonical (s : State) : Prop :=
  memWf resetWord s.regs = true ∧ memWf zeroCell s.appm = true ∧ memWf erasedCell s.flash = true ∧ memWf zeroCell s.xchg = true ∧
  memWf zeroCell s.mram.area = true ∧ memWf zeroCell s.sti.bufA = true ∧ memWf zeroCell s.sti.bufB = true ∧ memWf zeroCell s.gns.samples = true ∧
  memWf zeroCell s.ctl.capture = true

/-- What holds of every state a device can be in: canonical memories; at most one active alarm per code, lowest code first (R534); at most 1,024
queued records (R496); at most 131,072 records kept since the last release (R497); at most 512 buffered host words (R430). -/
structure State.Sound (s : State) : Prop where
  canonical : s.Canonical
  alarms : s.alarms.Pairwise (fun a b => a.code < b.code)
  queue : s.rcd.queue.length ≤ 1024
  used : s.recUsed ≤ 131072
  buffer : s.hst.buffer.length ≤ 512

/-- Every unit of which the device has a fixed number has its place: four interrupt targets, two application cores, eight brake channels, sixteen safe
input pairs and safe data connections, four time sources and six fused quantities. Between commands no pour is filling the transmit queues (R369). -/
structure State.Shaped (s : State) : Prop where
  targets : s.intc.targets.length = 4
  apps : s.apps.length = 2
  brakes : s.saf.brakes.length = 8
  pairs : s.saf.pairs.length = 16
  conns : s.saf.conns.length = 16
  sources : s.tim.sources.length = 4
  quants : s.fus.quants.length = 6
  sending : s.net.batching = false

/-- R422: the line of a target is asserted only while its claim stack is empty and not frozen and some source is assigned to it. -/
def State.LinesOk (s : State) : Prop :=
  ∀ k < 4, (s.target k).line = true → (s.target k).stack = [] ∧ (s.target k).frozen = false ∧ ∃ x ∈ s.intc.assigned, x.2 = k

/-- R63: the image that is running: all that was loaded of the Pattern, tuned values apart. -/
def State.image (s : State) : Pat := { s.pat with tuned := [] }

/-- The parts of the device's state that frames speak of: one for each field of `State`, then finer parts that lie inside `dev`, `twn`, `rcd`, `mram`,
`saf` and `tim`. -/
inductive Part where
  | serial | devKey | clk | boot | pat | dev | ord | alarms | rcd | mram | ann | intc | hst | apps | sti | acl | tim | pins | agr | twn |
  saf | hlt | thm | gns | fus | ctl | alc | slv | fch | loops | net | can | spt | elk | flashCmd | regs | appm | flash | xchg | out |
  freeCtr | pending
  | devSt | devMode | devEpoch | devAim | ladle | opTime | recNext | lease | brakes | elapsed | working
  deriving DecidableEq, Repr

/-- Part `p` is the same in `s` and in `t`. -/
def Part.same (p : Part) (s t : State) : Prop :=
  match p with
  | .serial => t.serial = s.serial
  | .devKey => t.devKey = s.devKey
  | .clk => t.clk = s.clk
  | .boot => t.boot = s.boot
  | .pat => t.pat = s.pat
  | .dev => t.dev = s.dev
  | .ord => t.ord = s.ord
  | .alarms => t.alarms = s.alarms
  | .rcd => t.rcd = s.rcd
  | .mram => t.mram = s.mram
  | .ann => t.ann = s.ann
  | .intc => t.intc = s.intc
  | .hst => t.hst = s.hst
  | .apps => t.apps = s.apps
  | .sti => t.sti = s.sti
  | .acl => t.acl = s.acl
  | .tim => t.tim = s.tim
  | .pins => t.pins = s.pins
  | .agr => t.agr = s.agr
  | .twn => t.twn = s.twn
  | .saf => t.saf = s.saf
  | .hlt => t.hlt = s.hlt
  | .thm => t.thm = s.thm
  | .gns => t.gns = s.gns
  | .fus => t.fus = s.fus
  | .ctl => t.ctl = s.ctl
  | .alc => t.alc = s.alc
  | .slv => t.slv = s.slv
  | .fch => t.fch = s.fch
  | .loops => t.loops = s.loops
  | .net => t.net = s.net
  | .can => t.can = s.can
  | .spt => t.spt = s.spt
  | .elk => t.elk = s.elk
  | .flashCmd => t.flashCmd = s.flashCmd
  | .regs => t.regs = s.regs
  | .appm => t.appm = s.appm
  | .flash => t.flash = s.flash
  | .xchg => t.xchg = s.xchg
  | .out => t.out = s.out
  | .freeCtr => t.freeCtr = s.freeCtr
  | .pending => t.pending = s.pending
  | .devSt => t.dev.st = s.dev.st
  | .devMode => (t.dev.mode, t.dev.period) = (s.dev.mode, s.dev.period)
  | .devEpoch => (t.dev.freezes, t.dev.stateEp, t.dev.freezeAt) = (s.dev.freezes, s.dev.stateEp, s.dev.freezeAt)
  | .devAim => (t.dev.setPoint, t.dev.joystick, t.dev.track, t.dev.follow) = (s.dev.setPoint, s.dev.joystick, s.dev.track, s.dev.follow)
  | .ladle => (t.twn.ladleEp, t.twn.holder) = (s.twn.ladleEp, s.twn.holder)
  | .opTime => t.rcd.opTime = s.rcd.opTime
  | .recNext => (t.mram.next, t.mram.base) = (s.mram.next, s.mram.base)
  | .lease => t.saf.leaseFrom = s.saf.leaseFrom
  | .brakes => t.saf.brakes = s.saf.brakes
  | .elapsed => t.tim.el = s.tim.el
  | .working => t.tim.wt = s.tim.wt

/-- From `s` to `t` nothing changes but the parts listed. -/
def Frame (ps : List Part) (s t : State) : Prop := ∀ p : Part, p ∉ ps → p.same s t

/-- R310, R311, R335: the global safe state is present: SAFE_n is low, no lease counts and the lease gate is closed. -/
def State.InGlobalSafe (s : State) : Prop :=
  s.inSafe = true ∧ s.pins.safeN = false ∧ s.saf.leaseFrom = none ∧ s.fld F_SAF_STATUS_GATE = gateClosed

/-- A register field as it stands: at bit 0 or above, within 32 bits. -/
def Fld.fits (f : Fld) : Bool := f.lo ≤ f.hi && f.hi < 32

/-- Two register fields do not overlap. -/
def Fld.apart (f g : Fld) : Prop := g.addr ≠ f.addr ∨ f.hi < g.lo ∨ g.hi < f.lo

/-- From `s` to `t` every field of the register bank keeps its value that overlaps none of the listed ones. -/
def FieldsBut (l : List Fld) (s t : State) : Prop := ∀ g : Fld, g.fits = true → (∀ f ∈ l, f.apart g) → t.fld g = s.fld g

/-- R496: the fields that a record lost from a full queue changes. -/
def recFields : List Fld := [word32 A_REC_LOST, F_REC_EVENT_LOST_EVT]

/-- R37, R534: the alarm of a code is active and unacknowledged, and its cause is present. -/
def State.Alarmed (s : State) (code : Nat) : Prop := s.alarm? code = some ⟨code, false, true⟩

/-- R534: the cause of a code's alarm is no longer present: it is inactive, or active until its acknowledgement. -/
def State.CauseGone (s : State) (code : Nat) : Prop := ∀ a, s.alarm? code = some a → a.cause = false

/-- From `s` to `t` the alarms of all codes but the listed ones stand as before. -/
def AlarmsBut (l : List Nat) (s t : State) : Prop := ∀ c, c ∉ l → t.alarm? c = s.alarm? c

/-- R3, R34, R468: an access of a master at an address is aligned, mapped and allowed by the table of its region. -/
def State.MayAccess (s : State) (master a : Nat) (write : Bool) : Prop :=
  a % 4 = 0 ∧ ∃ r, regionOf a = some r ∧ s.allowed r master a write = true

/-- R82, R83, R84, R87: an order stands: a cycle runs, it is not of a later cycle, its form and CRC are right, its source may send it, it is no duplicate, its sequence number, Ladle
epoch, state epoch, rate and command are right, and it does not name the other side of a device without a partner. -/
def State.Stands (s : State) (o : OrderIn) (code : Nat) (steering : Bool) : Prop :=
  s.dev.st ≠ .boot ∧ s.dev.cycling = true ∧ s.epochOf o.stamp ≤ s.dev.stateEp ∧ o.format = 1 ∧ o.crcOk = true ∧ o.target ≤ 2 ∧ s.authorised o code = true ∧ s.duplicate o = false ∧
  s.midChecks o steering (s.countedOrders o.source) = 0 ∧ s.foreignTarget o = false

/-- R83, R84, R85: what the order book holds once an order has been answered with result 0. -/
def State.Accepted (s t : State) (o : OrderIn) (code : Nat) : Prop :=
  t.ord.responses = s.ord.responses ++ [⟨o.transport, o.address, o.port, o.source, code, 0, o.seq⟩] ∧
  t.ord.lastSeq = aset s.ord.lastSeq o.source o.seq ∧ t.ord.counted = aset s.ord.counted o.source (s.countedOrders o.source + 1)

/-- R83, R86: the order of a row of the order table, its code, and whether it is a steering order that only the source in command may send. -/
def orderRow : Instr → Option (OrderIn × Nat × Bool)
  | .engage o => some (o, 0x01, true)
  | .disengage o => some (o, 0x02, true)
  | .transfer o => some (o, 0x03, true)
  | .setMode o => some (o, 0x04, true)
  | .setPoint o => some (o, 0x05, true)
  | .setTrack o => some (o, 0x06, true)
  | .setFollowRef o => some (o, 0x07, true)
  | .joystick o => some (o, 0x08, true)
  | .takeCommand o => some (o, 0x09, false)
  | .thrusterAvail o => some (o, 0x0A, false)
  | .sensorReturn o => some (o, 0x0B, false)
  | .tunable o => some (o, 0x0C, false)
  | .testStartBrake o => some (o, 0x0D, false)
  | .testStartInjection o => some (o, 0x0D, false)
  | .testStop o => some (o, 0x0E, false)
  | .park o => some (o, 0x0F, false)
  | .unpark o => some (o, 0x10, false)
  | .safe o => some (o, 0x11, false)
  | .reset o => some (o, 0x12, false)
  | .alarmAck o => some (o, 0x13, false)
  | _ => none

/-- The device sent exactly `l` from `s` to `t`, in this order. -/
def State.Sends (s t : State) (l : List Sent) : Prop := t.out = s.out ++ l

/-- R272: a frame of the partner on virtual channel `vc` counts: the pair works, the link is up, its CRC matches and its sequence number is the next one. -/
def State.takesFrame (s : State) (vc : Nat) (h : TwinHeader) : Bool := s.twinOn && s.linkUp && h.crcOk && h.seq == aget 0 s.twn.link.rxSeq vc

/-- R272, R273: the link after such a frame has been taken: what its header acknowledges and frees, its place in the sequence, the units its consumer frees. -/
def State.linkAfter (s : State) (vc : Nat) (h : TwinHeader) : TwinLink := (s.twn.link.takeHeader vc h).deliver vc h

/-- R272, R273: a frame can leave at once: the link is up, no frame waits and the virtual channel has credit for it. -/
def State.roomFor (s : State) (vc : Nat) (kind : MsgKind) (data : List Int) : Bool :=
  s.linkUp && s.twn.link.queue.isEmpty && twinUnits (twinPayload kind data) ≤ s.twn.link.credit vc

/-- R300: a device out of step that asked for the copy, and a frame of the copy (virtual channel 0) that the link takes while none waits to leave. -/
def State.Copies (s : State) (g : TwinHeader) : Prop := s.takesFrame 0 g = true ∧ s.twn.link.queue = [] ∧ s.twn.requested = true ∧ s.inStep = false

/-- R291: a renewal or its acknowledgement is heard: over the twin link, as a frame of virtual channel 3 that counts while no frame waits to leave; over the ring, as it arrives. -/
def State.hearsOn (s : State) : Path → Bool
  | .twin h => s.takesFrame 3 h && s.twn.link.queue.isEmpty
  | .lanA | .lanB => true

/-- R272, R273: the twin link after a renewal or an acknowledgement heard on a path. -/
def State.linkVia (s : State) : Path → TwinLink
  | .twin h => s.linkAfter 3 h
  | .lanA | .lanB => s.twn.link

/-- R272: a frame as it leaves on the twin link, with its header. -/
def State.twinSays (s : State) (vc seq : Nat) (kind : MsgKind) (data : List Int) : Sent :=
  ⟨.twin, kind, s.twn.link.header ⟨vc, seq, twinUnits (twinPayload kind data), kind, data⟩ ++ data⟩

/-- R366, R396: a frame as it leaves an Ethernet port, with the tag of ETH_VLAN. -/
def State.ethSays (s : State) (p : Nat) (kind : MsgKind) (data : List Int) : Sent := ⟨ethChan p, kind, s.vlanTag ++ data⟩

/-- R103, R472: a shadow's verdict counts: channel `n` still tracks, without having lost lock, the triple that spare `a` shadows. -/
def State.Compared (s : State) (n a : Nat) : Prop := (s.gchan n).st = 2 ∧ (s.gchan n).lost = false ∧ (s.gchan n).triple = (s.gchan a).triple

/-- R387: the elapsed time at which the bus of channel `c` is free after a received frame. -/
def State.busyAfter (s : State) (c : Nat) (f : CanFrame) : Nat := Nat.max (s.canChan c).busyTill (s.tim.el - (s.tim.wt - f.eof))

/-- R64, R519: the device resets. -/
def isReset : Instr → Bool
  | .powerOnReset _ | .vinFall | .nrst _ _ | .keeperWatchdog _ | .orderedReset _ => true
  | _ => false

/-- R61 to R64: what can change the external Pattern flash: the end of a flash window command, and a reset that stops one. -/
def touchesFlash : Instr → Bool
  | .flashCommandDone _ => true
  | c => isReset c

/-- R494: what can change the operating time. -/
def touchesOpTime : Instr → Bool
  | .operatingTimeTick | .bootStart _ => true
  | c => isReset c

/-- R496, R497: what can move the recorder's REC_NEXT or its base: bookkeeping at a pour, the first records of a start, and the release of a new Pattern. -/
def touchesRecNext : Instr → Bool
  | .pour _ | .bootStart _ | .slotStreamEnd _ | .cycleFreeze _ => true
  | _ => false

/-- R77, R79, R301: what can change the mode and the cycle period: a freeze, a pour, the end of boot step 11 or 12, the twin state of a resynchronisation, a reset. -/
def touchesMode : Instr → Bool
  | .cycleFreeze _ | .pour _ | .helloFrame _ _ | .authFrame _ _ _ | .timeMarker _ | .startFrame _ _ _ | .twinWaitEnd | .slotStreamEnd _ | .stateFrame _ _ => true
  | c => isReset c

/-- R26, R301: what can change the state epoch, the number of freezes and the instant of the last freeze. -/
def touchesEpoch : Instr → Bool
  | .cycleFreeze _ | .helloFrame _ _ | .authFrame _ _ _ | .timeMarker _ | .startFrame _ _ _ | .twinWaitEnd | .slotStreamEnd _ | .stateFrame _ _ => true
  | c => isReset c

end Sys2Proof.Machine
end

