-- ==== Sys2Proof/Certificates/Slice0/Obligations.lean ====
section
/-! DEFINITION. The statements about the model. Premises and conclusions use the vocabulary of Safety.lean: `Frame` and `FieldsBut` name all that a command may
change, `Alarmed`, `CauseGone` and `AlarmsBut` its alarms, `Sends` what leaves the device. A docstring names the rules of the manual and, for a choice of the model, its
log entry. -/
section Statements
open Sys2Proof Sys2Proof.Machine

/-- The queue is first in, first out, and a step is `exec` of its front command (log entry 3). -/
def Obligations.StepRunsTheFrontCommand : Prop :=
  ∀ (c : Instr) (r : List Instr) (s : State), step { s with pending := c :: r } = exec c { s with pending := r }

/-- R339, R343. That an empty queue stands for one clock cycle is the model's choice (log entry 4). -/
def Obligations.IdleStepIsOneTsuClockCycle : Prop :=
  ∀ s : State, s.pending = [] → ∃ t, step s = .next t ∧ Frame [.tim, .elapsed, .working] s t ∧
    (s.clk.vin = false ∨ s.boot.started = false → t = s) ∧
    (s.clk.vin = true → s.boot.started = true → -2 ^ 43 < s.tim.steer → s.tim.steer < 2 ^ 43 →
      ∃ d : Nat, (d = 0 ∨ d = 2 ∨ d = 4) ∧ t.tim.wt = s.tim.wt + d ∧ t.tim.el = s.tim.el + d ∧ -2 ^ 43 < t.tim.steer ∧ t.tim.steer < 2 ^ 43 ∧
        s.tim.steer + s.int (word32 A_TSU_FREQ) = t.tim.steer + 2 ^ 42 * ((d : Int) - 2))

/-- The invariant of `EveryStepKeepsSoundness` holds right after reset. -/
def Obligations.ResetStateIsSound : Prop := State.reset.Sound ∧ core.reset = State.reset

/-- R430, R496, R497, R534, with the canonical form of the memories. -/
def Obligations.EveryStepKeepsSoundness : Prop := ∀ s t : State, s.Sound → step s = .next t → t.Sound

/-- Every command completes in every state; fuses and queue are no command's to change. -/
def Obligations.EveryCommandCompletesAndKeepsIdentity : Prop :=
  ∀ (c : Instr) (s : State), ∃ t, exec c s = .next t ∧ t.serial = s.serial ∧ t.devKey = s.devKey ∧ t.pending = s.pending

/-- What each of five kinds of state can be changed by, over all commands. -/
def Obligations.OnlyListedCommandsTouchFlashModeEpochTimeAndRecords : Prop :=
  ∀ (c : Instr) (s t : State), exec c s = .next t →
    (touchesFlash c = false → t.flash = s.flash) ∧
    (touchesOpTime c = false → t.rcd.opTime = s.rcd.opTime) ∧
    (touchesRecNext c = false → t.mram.next = s.mram.next ∧ t.mram.base = s.mram.base) ∧
    (touchesMode c = false → t.dev.mode = s.dev.mode ∧ t.dev.period = s.dev.period) ∧
    (touchesEpoch c = false → t.dev.stateEp = s.dev.stateEp ∧ t.dev.freezes = s.dev.freezes ∧ t.dev.freezeAt = s.dev.freezeAt)

/-- R73, R74: the pairs of states between which each command can move the device. -/
def Obligations.StateMovesAsTheTableOfTransitions : Prop :=
  ∀ (c : Instr) (s t : State), exec c s = .next t →
    let same := t.dev.st = s.dev.st ∨ t.dev.st = .safe ∨ (s.dev.st = .active ∧ t.dev.st = .armed)
    match c with
    | .powerOnReset _ | .vinFall => t.dev.st = .boot
    | .nrst _ _ | .keeperWatchdog _ | .orderedReset _ => t.dev.st = .boot ∨ t.dev.st = s.dev.st
    | .cycleFreeze _ => same ∨ (s.dev.st = .boot ∧ t.dev.st = .armed)
    | .releaseFrame _ _ => same ∨ (s.dev.st = .armed ∧ t.dev.st = .active)
    | .pour _ => (s.dev.st = .safe → t.dev.st = .safe) ∧ (s.dev.st = .boot → t.dev.st = .boot ∨ t.dev.st = .safe) ∧ (s.dev.st ≠ .boot → t.dev.st ≠ .boot)
    | _ => same

/-- R74, over every step. -/
def Obligations.SafeIsLeftOnlyThroughADeviceReset : Prop :=
  (∀ s t : State, s.dev.st = .safe → step s = .next t → t.dev.st ≠ .safe →
    t.dev.st = .boot ∧ ∃ c r, s.pending = c :: r ∧ isReset c = true) ∧
  (∀ (p : Straps) (s : State), s.dev.st = .safe → s.dev.toReset = true → ∃ t, exec (.orderedReset p) s = .next t ∧ t.dev.st = .boot)

/-- R64, R65, R519. What reset leaves in parts whose reset value the manual does not give is the model's choice (log entries 5 and 6). -/
def Obligations.DeviceResetsReachWhatTheTableSays : Prop :=
  let full := fun (cause : Fld) (p : Straps) (s t : State) =>
    Frame [.serial, .devKey, .clk, .mram, .recNext, .tim, .elapsed, .pins, .regs, .flash, .out, .freeCtr, .pending] State.reset t ∧
    t.tim.el = s.tim.el ∧ t.tim.wt = 0 ∧ t.serial = s.serial ∧ t.devKey = s.devKey ∧ t.out = s.out ∧ t.pending = s.pending ∧
    t.mram = { s.mram with shutdown := s.mram.shutdown && !s.flag F_HLT_STATUS_COOLED } ∧ (s.flashCmd = none → t.flash = s.flash) ∧
    t.pins.side = p.side ∧ t.pins.testEn = p.testEn ∧ t.pins.safeN = false ∧ t.reg A_KPR_RESETCAUSE = fieldIn 0#32 cause 1
  let keeper := fun (cause : Fld) (p : Straps) (s t : State) =>
    Frame [.serial, .devKey, .clk, .alarms, .rcd, .mram, .recNext, .tim, .elapsed, .pins, .saf, .lease, .brakes, .regs, .flash, .out, .freeCtr, .pending]
      State.reset t ∧
    t.serial = s.serial ∧ t.devKey = s.devKey ∧ t.out = s.out ∧ t.pending = s.pending ∧ t.tim.el = s.tim.el ∧ t.tim.wt = 0 ∧
    t.mram = { s.mram with shutdown := t.mram.shutdown } ∧ t.reg A_KPR_RESETCAUSE = fieldIn 0#32 cause 1 ∧
    (s.flashCmd = none → t.flash = s.flash) ∧
    t.saf.params = s.saf.params ∧ t.saf.pairs = s.saf.pairs ∧ t.saf.conns = s.saf.conns ∧ t.saf.ownFault = s.saf.ownFault ∧ t.saf.test = none ∧
    t.pins.sit0 = s.pins.sit0 ∧ t.pins.sit1 = s.pins.sit1 ∧ t.pins.side = p.side ∧ t.pins.testEn = p.testEn ∧
    t.InGlobalSafe
  (∀ (p : Straps) (s : State), ∃ t, exec (.powerOnReset p) s = .next t ∧ full F_KPR_RESETCAUSE_POR p s t ∧ t.clk.vin = true ∧ t.clk.pwrgood = false) ∧
  (∀ s : State, ∃ t, exec .vinFall s = .next t ∧ t.clk.vin = false ∧ t.clk.pwrgood = false ∧ t.regs = [] ∧ t.dev = State.reset.dev ∧
    Frame [.serial, .devKey, .clk, .mram, .recNext, .tim, .elapsed, .pins, .regs, .flash, .out, .freeCtr, .pending] State.reset t ∧
    t.mram.ladleEp = s.mram.ladleEp ∧ t.mram.area = s.mram.area ∧ (s.flashCmd = none → t.flash = s.flash)) ∧
  (∀ (n : Nat) (p : Straps) (s : State), s.clk.vin = true → 1000 ≤ n → ∃ t, exec (.nrst n p) s = .next t ∧ full F_KPR_RESETCAUSE_NRST p s t ∧
    t.clk.vin = true ∧ t.clk.pwrgood = s.clk.pwrgood ∧ t.clk.vfld = s.clk.vfld ∧ t.clk.refin = s.clk.refin ∧ t.mram.powerCycles = s.mram.powerCycles) ∧
  (∀ (n : Nat) (p : Straps) (s : State), n < 500 → ∃ t, exec (.nrst n p) s = .next t ∧ Frame [.freeCtr] s t) ∧
  (∀ (p : Straps) (s : State), s.Sound → s.clk.vin = true → s.boot.started = true → ∃ t, exec (.keeperWatchdog p) s = .next t ∧
    keeper F_KPR_RESETCAUSE_WDOG p s t) ∧
  (∀ (p : Straps) (s : State), s.Sound → s.dev.toReset = true → ∃ t, exec (.orderedReset p) s = .next t ∧ keeper F_KPR_RESETCAUSE_ORDER p s t)

/-- R18: windows of the root clock monitor. -/
def Obligations.ClockMonitorWindowsPassOrForceTheGlobalSafeState : Prop :=
  ∀ (n : Nat) (s : State), s.Sound → s.clk.vin = true →
    (950 ≤ n ∧ n ≤ 1050 → ∃ t, exec (.clockMonitorWindow n) s = .next t ∧ t.clk = { s.clk with failedWindows := 0 } ∧
      t.flag F_GLB_STATUS_CLKMON_OK = true ∧ Frame [.clk, .regs] s t ∧ FieldsBut [F_GLB_STATUS_CLKMON_OK] s t) ∧
    (¬(950 ≤ n ∧ n ≤ 1050) → s.clk.failedWindows = 0 → ∃ t, exec (.clockMonitorWindow n) s = .next t ∧ t.clk = { s.clk with failedWindows := 1 } ∧
      t.flag F_GLB_STATUS_CLKMON_OK = false ∧ t.flag F_GLB_STATUS_CLKMON_EVT = true ∧ Frame [.clk, .regs] s t ∧
      FieldsBut [F_GLB_STATUS_CLKMON_OK, F_GLB_STATUS_CLKMON_EVT] s t) ∧
    (¬(950 ≤ n ∧ n ≤ 1050) → 1 ≤ s.clk.failedWindows → ∃ t, exec (.clockMonitorWindow n) s = .next t ∧ t.InGlobalSafe ∧ t.Alarmed 0x0003 ∧
      t.flag F_GLB_STATUS_CLKMON_OK = false ∧ t.flag F_GLB_STATUS_CLKMON_EVT = true ∧ (s.inSafe = false → t.fld F_SAF_CAUSE_CAUSE = 1 ∧ t.Alarmed 0x0A04) ∧
      (s.dev.st ≠ .boot → t.dev.st = .safe) ∧
      Frame [.clk, .dev, .alarms, .rcd, .mram, .pins, .twn, .saf, .ctl, .alc, .fch, .regs, .out, .devSt, .ladle, .lease, .brakes] s t)

/-- R19, R67, R317, R336, R427, R513, R518. The boundary at which SAFE follows is a freeze's business (`clk.boundarySafe`). -/
def Obligations.SuppliesAndClocksFollowTheirEvents : Prop :=
  let lost := fun (ok evt : Fld) (code : Nat) (s t : State) =>
    t.flag ok = false ∧ t.flag evt = true ∧ t.Alarmed code ∧ AlarmsBut [code] s t ∧ t.clk.pllHeld = true ∧ t.clk.noRenew = true
  let valids : List Fld := (List.range 128).map F_FCH_STATUS_VALID
  (∀ s : State, s.clk.vin = true → ∃ t, exec .pwrgoodRise s = .next t ∧ t.clk = { s.clk with pwrgood := true, pgAt := s.tim.el } ∧ Frame [.clk] s t) ∧
  (∀ s : State, s.Sound → ∃ t, exec .refinPresent s = .next t ∧ t.clk = { s.clk with refin := true } ∧ t.flag F_GLB_STATUS_REFIN_OK = s.clk.vin ∧
    Frame [.clk, .regs] s t ∧ FieldsBut [F_GLB_STATUS_REFIN_OK] s t) ∧
  (∀ s : State, s.Sound → ∃ t, exec .refinReturn s = .next t ∧ t.clk = { s.clk with refin := true } ∧ t.flag F_GLB_STATUS_REFIN_OK = s.clk.vin ∧
    Frame [.clk, .regs] s t ∧ FieldsBut [F_GLB_STATUS_REFIN_OK] s t) ∧
  (∀ s : State, s.Sound → s.clk.vin = true → s.boot.started = true → s.dev.st ≠ .boot → ∃ t, exec .refinMissing s = .next t ∧
    lost F_GLB_STATUS_REFIN_OK F_GLB_STATUS_REFIN_EVT 0x0002 s t ∧
    t.clk = { s.clk with refin := false, pllHeld := true, noRenew := true, boundarySafe := true } ∧
    Frame [.clk, .alarms, .rcd, .regs] s t ∧ FieldsBut (F_GLB_STATUS_REFIN_OK :: F_GLB_STATUS_REFIN_EVT :: recFields) s t) ∧
  (∀ s : State, s.Sound → s.clk.vin = true → s.boot.started = true → s.boot.halted = false → s.dev.st = .boot → ∃ t, exec .refinMissing s = .next t ∧
    lost F_GLB_STATUS_REFIN_OK F_GLB_STATUS_REFIN_EVT 0x0002 s t ∧ t.dev = { s.dev with st := .safe, cycling := false } ∧
    t.fld F_KPR_BOOTSTAT_STATE = (if s.pat.loaded then 4 else 2) ∧ Frame [.clk, .boot, .dev, .devSt, .alarms, .rcd, .regs] s t) ∧
  (∀ s : State, s.Sound → s.clk.vin = false ∨ s.boot.started = false → ∃ t, exec .refinMissing s = .next t ∧ t.clk = { s.clk with refin := false } ∧
    t.flag F_GLB_STATUS_REFIN_OK = false ∧ Frame [.clk, .regs] s t ∧ FieldsBut [F_GLB_STATUS_REFIN_OK] s t) ∧
  (∀ s : State, s.Sound → s.flag F_GLB_STATUS_PLL_LOCK = true → s.dev.st ≠ .boot → ∃ t, exec .pllUnlock s = .next t ∧
    lost F_GLB_STATUS_PLL_LOCK F_GLB_STATUS_UNLOCK_EVT 0x0001 s t ∧
    t.clk = { s.clk with pllHeld := true, noRenew := true, boundarySafe := true } ∧
    Frame [.clk, .alarms, .rcd, .regs] s t ∧ FieldsBut (F_GLB_STATUS_PLL_LOCK :: F_GLB_STATUS_UNLOCK_EVT :: recFields) s t) ∧
  (∀ s : State, s.Sound → s.flag F_GLB_STATUS_PLL_LOCK = true → s.boot.started = true → s.boot.halted = false → s.dev.st = .boot →
    ∃ t, exec .pllUnlock s = .next t ∧ lost F_GLB_STATUS_PLL_LOCK F_GLB_STATUS_UNLOCK_EVT 0x0001 s t ∧ t.dev = { s.dev with st := .safe, cycling := false } ∧
    t.fld F_KPR_BOOTSTAT_STATE = (if s.pat.loaded then 4 else 2) ∧ Frame [.clk, .boot, .dev, .devSt, .alarms, .rcd, .regs] s t) ∧
  (∀ s : State, s.Sound → ∃ t, exec .vfldPresent s = .next t ∧ t.clk = { s.clk with vfld := true } ∧ t.flag F_SAF_STATUS_VFLD_LOW = false ∧
    t.CauseGone 0x0A12 ∧ AlarmsBut [0x0A12] s t ∧ (∀ n < 128, s.fchUsed n = true → t.flag (F_FCH_STATUS_VALID n) = t.fchValid n) ∧
    Frame [.clk, .alarms, .rcd, .regs] s t ∧ FieldsBut (F_SAF_STATUS_VFLD_LOW :: valids ++ recFields) s t) ∧
  (∀ s : State, s.Sound → s.clk.vfld = true → ∃ t, exec .vfldLow s = .next t ∧ t.clk = { s.clk with vfld := false } ∧
    t.flag F_SAF_STATUS_VFLD_LOW = true ∧ t.Alarmed 0x0A12 ∧ AlarmsBut [0x0A12] s t ∧
    (∀ n < 8, t.brake n = if s.brkEn n then { s.brake n with hs := false, ls := false } else s.brake n) ∧
    t.saf = { s.saf with brakes := t.saf.brakes } ∧ t.fch = { s.fch with driven := [] } ∧
    (∀ n < 128, s.fchUsed n = true → s.fchOutput n = false → t.flag (F_FCH_STATUS_VALID n) = false) ∧
    Frame [.clk, .alarms, .rcd, .saf, .brakes, .fch, .regs] s t) ∧
  (∀ s : State, ∃ t, exec .hidleFall s = .next t ∧ t.hst = { s.hst with hidle := false } ∧ Frame [.hst] s t)

/-- R51, R52, R54, R57, R59, R67, R68, R277, R494. -/
def Obligations.BootStepsStartStopAndFallBack : Prop :=
  (∀ (b : BootTests) (s : State), s.clk.vin = false ∨ s.clk.pwrgood = false ∨ s.clk.refin = false ∨ s.boot.started = true ∨ b.pllLocks = false →
    exec (.bootStart b) s = .next s) ∧
  (∀ (b : BootTests) (s : State), s.Sound → s.clk.vin = true → s.clk.pwrgood = true → s.clk.refin = true → s.boot.started = false → b.pllLocks = true →
    b.keeperPasses = false → ∃ t, exec (.bootStart b) s = .next t ∧ t.boot = { s.boot with started := true, time0 := s.tim.el, halted := true } ∧
      t.flag F_GLB_STATUS_PLL_LOCK = true ∧ t.fld F_KPR_BOOTSTAT_STEP = 2 ∧ t.fld F_KPR_BOOTSTAT_STATE = 3 ∧ Frame [.boot, .regs] s t ∧
      FieldsBut [F_GLB_STATUS_PLL_LOCK, F_KPR_BOOTSTAT_STEP, F_KPR_BOOTSTAT_STATE] s t) ∧
  (∀ (b : BootTests) (s : State), s.Sound → s.clk.vin = true → s.clk.pwrgood = true → s.clk.refin = true → s.boot.started = false → b.pllLocks = true →
    b.keeperPasses = true → b.mramCrcOk = true → b.failedBanks = [] → s.mram.riserBanks = [] → ∃ t, exec (.bootStart b) s = .next t ∧
      t.boot.started = true ∧ t.boot.time0 = s.tim.el ∧ t.rcd.opTime = s.mram.opTime + 100 ∧ t.mram.opTime = s.mram.opTime + 100 ∧
      t.mram.powerCycles = s.mram.powerCycles + (if s.flag F_KPR_RESETCAUSE_POR then 1 else 0) ∧ t.twn.ladleEp = s.mram.ladleEp ∧
      t.serial = s.serial ∧ t.flash = s.flash) ∧
  (∀ (r : StartTests) (s : State), s.boot.streaming = 0 ∨ s.dev.st ≠ .boot → exec (.slotStreamEnd r) s = .next s) ∧
  (∀ (r : StartTests) (s : State) (k : Nat) (img : List Byte), s.Sound → s.boot.streaming = k → (k = 1 ∨ k = 2) → s.dev.st = .boot → s.boot.left = [] →
    s.locked = false → s.slotBytes k (imageLen (s.slotHeader k)) = img → 0 < s.streamStage img r →
    ∃ t, exec (.slotStreamEnd r) s = .next t ∧ t.dev = { s.dev with st := .safe, cycling := false } ∧
      t.fld (stageField k) = s.streamStage img r ∧ t.Alarmed (0x0100 + k) ∧ t.Alarmed 0x0104 ∧ t.locked = true ∧
      Frame [.boot, .dev, .alarms, .rcd, .regs, .devSt] s t) ∧
  (∀ (r : StartTests) (s : State) (k : Nat) (img : List Byte) (l : List (Nat × List Word)) (m : List (Nat × Mould)), s.boot.streaming = k →
    (k = 1 ∨ k = 2) → s.dev.st = .boot → s.slotBytes k (imageLen (s.slotHeader k)) = img → s.streamStage img r = 0 → s.placedStage img r = 0 →
    imageRecords img = some l → mouldsOf (mouldPids.map (fun p => aget [] l p)) = some m →
    ∃ t, exec (.slotStreamEnd r) s = .next t ∧ t.pat.loaded = true ∧ t.pat.slot = k ∧ t.pat.params = l ∧ t.flash = s.flash) ∧
  (∀ s : State, s.Sound → s.boot.started = true → s.boot.halted = false → s.dev.st = .boot → ∃ t, exec .bootTimeout s = .next t ∧
    t.dev = { s.dev with st := .safe, cycling := false } ∧ t.Alarmed 0x0107 ∧ AlarmsBut [0x0107] s t ∧
    t.fld F_KPR_BOOTSTAT_STATE = (if s.pat.loaded then 4 else 2) ∧ t.fld F_KPR_BOOTSTAT_STEP = s.fld F_KPR_BOOTSTAT_STEP ∧ t.locked = true ∧
    s.boot.time0 + (if s.boot.octal then 5000000000 else 30000000000) ≤ t.tim.el ∧
    Frame [.boot, .dev, .devSt, .alarms, .rcd, .tim, .elapsed, .working, .regs] s t) ∧
  (∀ s : State, s.Sound → s.boot.waitingTwin = true → ∃ t, exec .twinWaitEnd s = .next t ∧
    t.boot = { s.boot with waitingTwin := false, readyForFreeze := true } ∧ t.dev.st = s.dev.st ∧ t.fld F_KPR_BOOTSTAT_STEP = 12 ∧ t.cond 4 = true ∧
    t.Alarmed 0x040D ∧ AlarmsBut [0x040D] s t ∧ t.twn.outOfStepFromBoot = true ∧ t.tim.wt ≤ t.dev.nextFreeze ∧
    s.boot.time0 + 1800000000 ≤ t.tim.el ∧ s.boot.step11At + 800000000 ≤ t.tim.el ∧
    Frame [.boot, .dev, .alarms, .rcd, .tim, .twn, .regs, .devMode, .devEpoch, .elapsed, .working] s t)

/-- R19, R26, R28, R30, R31, R54, R56, R72, R77, R78. -/
def Obligations.AFreezeOpensTheNextCycle : Prop :=
  ∀ (l : List ChannelLatch) (s : State), 0 < s.dev.period →
    (s.dev.cycling = false → s.boot.readyForFreeze = false → exec (.cycleFreeze l) s = .next s) ∧
    (s.dev.cycling = true ∨ s.boot.readyForFreeze = true → ∃ t, exec (.cycleFreeze l) s = .next t ∧
      t.dev.stateEp = s.dev.stateEp + 1 ∧ t.dev.freezes = s.dev.freezes + 1 ∧ t.dev.freezeAt = s.dev.nextFreeze ∧
      s.dev.nextFreeze ≤ t.tim.wt ∧ t.tim.wt = s.tim.wt + (s.dev.nextFreeze - s.tim.wt) ∧ t.tim.el = s.tim.el + (s.dev.nextFreeze - s.tim.wt) ∧
      t.dev.nextFreeze % t.dev.period = 0 ∧ t.dev.freezeAt + t.dev.period ≤ t.dev.nextFreeze ∧ t.dev.pourAt = t.dev.nextFreeze - 2000000 ∧
      t.serial = s.serial ∧ t.flash = s.flash ∧
      (s.dev.st ≠ .boot → t.dev.cycling = s.dev.cycling ∧
        (t.dev.st = s.dev.st ∨ t.dev.st = .safe ∨ (s.dev.st = .active ∧ t.dev.st = .armed)) ∧
        (s.clk.boundarySafe = true → t.dev.st = .safe) ∧ (s.dev.st = .safe → t.dev.period = 20000000)) ∧
      (s.dev.st = .boot → t.dev.cycling = true ∧ (t.dev.st = .armed ∨ t.dev.st = .safe) ∧ (s.boot.sDieRefused = true → t.dev.st = .safe)))

/-- R72, R77, R78: the three periods of a cycle. -/
def Obligations.CyclePeriodStaysLegal : Prop :=
  let legal := fun s : State => s.dev.period = 20000000 ∨ s.dev.period = 40000000 ∨ s.dev.period = 1000000000
  legal State.reset ∧ ∀ s t : State, legal s → step s = .next t → legal t

/-- R27, R112, R279, R281 to R284, R286, R404. -/
def Obligations.TheTwinsAgreeOnTheItemsOfACycle : Prop :=
  let ends : List Part := [.dev, .ord, .alarms, .rcd, .mram, .tim, .agr, .twn, .saf, .fus, .ctl, .alc, .elk, .regs, .out, .devAim, .brakes, .elapsed, .working]
  (∀ (n : Nat) (s : State), s.gns.block ≠ [] → s.gns.blockDone = false → ∃ t, exec (.measurementBlockWrite n) s = .next t ∧
    t.gns = { s.gns with blockDone := true } ∧ n ≤ t.tim.wt ∧
    (∃ i, t.agr.own = s.agr.own ++ [i] ∧ i.side = s.pins.side ∧ i.cls = 3 ∧ i.num = 0 ∧ i.last = s.dev.freezeAt ∧ i.data = s.gns.block) ∧
    Frame [.tim, .elapsed, .working, .agr, .twn, .gns, .out] s t) ∧
  (∀ s : State, s.fullCycle = true → 0 < s.dev.freezes → s.agr.closed = false → ∃ t, exec .fieldItemSend s = .next t ∧
    (∃ l, t.agr.own = s.agr.own ++ l ∧ ∀ i ∈ l, i.side = s.pins.side ∧ (i.cls = 0 ∨ i.cls = 2)) ∧ s.dev.freezeAt + 1400000 ≤ t.tim.wt ∧
    Frame [.tim, .elapsed, .working, .agr, .twn, .fch, .out] s t) ∧
  (∀ s : State, s.undecided = true → s.agr.closed = false → s.inStep = true → ∃ t, exec .closeTick s = .next t ∧
    t.agr = { s.agr with closed := true, ownSet := s.ofEpoch s.agr.own } ∧ s.dev.freezeAt + 1440000 ≤ t.tim.wt ∧
    (s.blockLate = true → t.Alarmed 0x1111) ∧
    (∀ say : List Int, say = [(s.dev.stateEp : Int), ((s.ofEpoch s.agr.own).length : Int), ((setDigest (s.ofEpoch s.agr.own)).toNat : Int)] →
     s.roomFor 1 .close say = true → s.Sends t [s.twinSays 1 (aget 0 s.twn.link.txSeq 1) .close say]) ∧
    Frame [.alarms, .rcd, .tim, .elapsed, .working, .agr, .twn, .regs, .out] s t) ∧
  (∀ s : State, s.undecided = true → s.agr.closed = false → s.inStep = false → ∃ t, exec .closeTick s = .next t ∧
    t.agr = { s.agr with closed := true, ownSet := s.ofEpoch s.agr.own, agreed := orderItems (s.ofEpoch s.agr.own), decided := true } ∧ s.Sends t [] ∧
    s.dev.freezeAt + 1440000 ≤ t.tim.wt ∧ Frame ends s t) ∧
  (∀ s : State, s.undecided = true → s.agr.closed = true → s.inStep = true → s.isLead = true → ∃ t, exec .agreeDecide s = .next t ∧
    t.agr = { s.agr with agreed := orderItems (s.agr.ownSet ++ (if s.otherComplete then s.theirSet else [])), decided := true } ∧
    (∀ say : List Int, say = [(s.dev.stateEp : Int),
       ((bit (s.otherComplete || s.pins.side == .cope) + 2 * bit (s.otherComplete || s.pins.side == .drag) : Nat) : Int),
       ((setDigest (s.agr.ownSet ++ (if s.otherComplete then s.theirSet else []))).toNat : Int)] →
     s.roomFor 1 .agree say = true → s.Sends t [s.twinSays 1 (aget 0 s.twn.link.txSeq 1) .agree say]) ∧
    (s.otherComplete = false → t.Alarmed 0x0405) ∧ s.dev.freezeAt + 1470000 ≤ t.tim.wt ∧ Frame ends s t) ∧
  (∀ s : State, s.undecided = true → s.agr.closed = true → s.inStep = true → s.isLead = false → ∃ t, exec .agreeCheck s = .next t ∧
    s.dev.freezeAt + 1500000 ≤ t.tim.wt ∧ t.agr.decided = true ∧
    (∀ e c d h, s.agr.agreeRx = some (e, c, d, h) → setDigest (s.includedSet c d) = h →
      t.agr = { s.agr with agreed := orderItems (s.includedSet c d), decided := true } ∧ (c = false ∨ d = false → t.Alarmed 0x0405)) ∧
    (s.agr.agreeRx = none → t.agr.agreed = orderItems s.agr.ownSet ∧ t.Alarmed 0x0406) ∧ Frame ends s t) ∧
  (∀ (h : TwinHeader) (i : Item) (s : State), s.takesFrame 1 h = true → s.twn.link.queue = [] → s.peerMet = true → s.split = false →
    i.side = otherSide s.pins.side → s.dev.stateEp ≤ i.epoch →
    ∃ t, exec (.itemFrame h i 0 1) s = .next t ∧ t.agr = { s.agr with theirs := s.agr.theirs ++ [i], partialItem := none } ∧ t.twn.link = s.linkAfter 1 h ∧
      Frame [.agr, .twn] s t) ∧
  (∀ (h : TwinHeader) (i : Item) (k n : Nat) (d : List Word) (s : State), s.takesFrame 1 h = true → s.twn.link.queue = [] → 0 < k → k + 1 < n →
    s.agr.partialItem = some ({ i with data := d }, k) →
    ∃ t, exec (.itemFrame h i k n) s = .next t ∧ t.agr = { s.agr with partialItem := some ({ i with data := d ++ i.data }, k + 1) } ∧
      t.twn = { s.twn with link := s.linkAfter 1 h } ∧ Frame [.agr, .twn] s t) ∧
  (∀ (h : TwinHeader) (e n : Nat) (d : Word) (s : State), s.takesFrame 1 h = true → s.inStep = true →
    (e = s.dev.stateEp → s.twn.link.queue = [] → ∃ t, exec (.closeFrame h e n d) s = .next t ∧ t.agr = { s.agr with closeRx := some (e, n, d) } ∧
      t.twn = { s.twn with link := s.linkAfter 1 h } ∧ Frame [.agr, .twn] s t) ∧
    (e ≠ s.dev.stateEp → s.Sound → ∃ t, exec (.closeFrame h e n d) s = .next t ∧ t.inStep = false ∧ t.Alarmed 0x0406 ∧
      Frame [.dev, .alarms, .rcd, .twn, .regs, .out] s t)) ∧
  (∀ (h : TwinHeader) (e : Nat) (c d : Bool) (w : Word) (s : State), s.takesFrame 1 h = true → s.inStep = true →
    (e = s.dev.stateEp → s.twn.link.queue = [] → ∃ t, exec (.agreeFrame h e c d w) s = .next t ∧ t.agr = { s.agr with agreeRx := some (e, c, d, w) } ∧
      t.twn = { s.twn with link := s.linkAfter 1 h } ∧ Frame [.agr, .twn] s t) ∧
    (e ≠ s.dev.stateEp → s.Sound → ∃ t, exec (.agreeFrame h e c d w) s = .next t ∧ t.inStep = false ∧ t.Alarmed 0x0406 ∧
      Frame [.dev, .alarms, .rcd, .twn, .regs, .out] s t))

/-- R29, R143, R147 to R149, R151 to R154, R157, R158, R163. -/
def Obligations.FusionKeepsSlagsAndReturnsItsSources : Prop :=
  (∀ (l : List NavSolution) (s : State), s.stepOpen 2 = true → s.hlt.discarded.contains 2 = false → ∃ t, exec (.fusionStep l) s = .next t ∧
    t.dev.stepsDone = insertNew s.dev.stepsDone 2 ∧
    (∀ n, (s.fslot n).st = 4 → (t.fslot n).st = 4) ∧ t.fus.history.getLast? = some (s.dev.freezeAt, t.fus.obs) ∧ t.fus.obs.length = obsSize ∧
    t.fus.pub.length = 18 ∧ Frame [.dev, .alarms, .rcd, .tim, .gns, .fus, .regs] s t) ∧
  (∀ (l : List NavSolution) (s : State), s.stepOpen 2 = true → s.hlt.discarded.contains 2 = true → ∃ t, exec (.fusionStep l) s = .next t ∧
    t.dev.stepsLate = insertNew s.dev.stepsLate 2 ∧ t.dev.stepsDone = s.dev.stepsDone ∧ (∀ n, (s.fslot n).st = 4 → (t.fslot n).st = 4) ∧
    t.fus.history.getLast? = some (s.dev.freezeAt, t.fus.obs) ∧ Frame [.dev, .alarms, .rcd, .tim, .gns, .fus, .regs] s t) ∧
  (∀ (l : List NavSolution) (s : State), s.stepOpen 2 = false → exec (.fusionStep l) s = .next s) ∧
  (∀ (n : Nat) (s : State), s.Sound → s.fullCycle = true → s.slotUsed n = true → (s.fslot n).st = 1 ∨ (s.fslot n).st = 3 →
    s.judgedLater (s.slotExpiry n) = false → s.messagePending n (s.slotExpiry n) = false → ∃ t, exec (.slotTimeout n) s = .next t ∧
    t.fslot n = { s.fslot n with st := 2, vals := [], held := false, heldSince := [] } ∧ (∀ m, m ≠ n → t.fslot m = s.fslot m) ∧ t.Alarmed 0x1201 ∧
    AlarmsBut [0x1201] s t ∧ t.flag F_FUS_EVENT_TIMEOUT = true ∧ s.slotLast n + s.slotTimeoutNs n ≤ t.tim.wt ∧
    Frame [.alarms, .rcd, .tim, .elapsed, .working, .fus, .regs] s t ∧ FieldsBut (F_FUS_EVENT_TIMEOUT :: recFields) s t) ∧
  (∀ (n q a : Nat) (s : State), s.firstHold n = some (q, a, 1) → s.judgedLater (a + s.persistNs) = false →
    ∃ t, exec (.gatePersistExpiry n) s = .next t ∧ (t.fslot n).st = 4 ∧ (t.fslot n).reason = 1 ∧ (t.fslot n).epoch = s.dev.stateEp ∧
    (∀ m, m ≠ n → t.fslot m = s.fslot m) ∧ t.Alarmed 0x1202 ∧ AlarmsBut [0x1202] s t ∧ a + s.persistNs ≤ t.tim.wt ∧
    Frame [.alarms, .rcd, .tim, .elapsed, .working, .fus, .regs] s t) ∧
  (∀ (n q a k : Nat) (s : State), s.firstHold n = some (q, a, k) → k ≠ 1 → s.judgedLater (a + s.persistNs) = false →
    ∃ t, exec (.gatePersistExpiry n) s = .next t ∧
    (∀ m ∈ s.groupSlots q (s.slotGroup n), (t.fslot m).st = 4 ∧ (t.fslot m).reason = 2 ∧ (t.fslot m).epoch = s.dev.stateEp) ∧
    (∀ m, m ∉ s.groupSlots q (s.slotGroup n) → t.fslot m = s.fslot m) ∧ AlarmsBut [0x1202] s t ∧ a + s.persistNs ≤ t.tim.wt ∧
    Frame [.alarms, .rcd, .tim, .elapsed, .working, .fus, .regs] s t) ∧
  (∀ (n : Nat) (s : State), s.firstHold n = none → exec (.gatePersistExpiry n) s = .next s) ∧
  (∀ (q a b c : Nat) (s : State), (s.quant q).conflict = some c → s.groups q = [a, b] → s.judgedLater (c + s.persistNs) = false →
    ∃ t, exec (.conflictPersistExpiry q) s = .next t ∧
    (∀ m ∈ s.groupSlots q (if s.leads q b a then a else b), (t.fslot m).st = 4 ∧ (t.fslot m).reason = 4) ∧
    (∀ m, m ∉ s.groupSlots q (if s.leads q b a then a else b) → t.fslot m = s.fslot m) ∧
    (t.quant q).conflict = none ∧ t.Alarmed 0x1203 ∧ AlarmsBut [0x1202, 0x1203] s t ∧ c + s.persistNs ≤ t.tim.wt ∧
    Frame [.dev, .alarms, .rcd, .tim, .elapsed, .working, .fus, .regs] s t) ∧
  (∀ (n : Nat) (s : State), s.slotUsed n = true → (s.fslot n).st = 3 → ∃ t, exec (.probationEnd n) s = .next t ∧ t.fslot n = { s.fslot n with st := 1 } ∧
    (∀ m, m ≠ n → t.fslot m = s.fslot m) ∧ (s.fslot n).probUntil ≤ t.tim.wt ∧ Frame [.tim, .elapsed, .working, .fus] s t) ∧
  (∀ (h : Bool) (a : Nat) (s : State), (s.quant (bit h)).dr = some a → s.judgedLater (a + s.par 0x0509 * sec) = false →
    ∃ t, exec (.drValidExpiry h) s = .next t ∧ t.quant (bit h) = { s.quant (bit h) with valid := false } ∧
    (∀ q, q ≠ bit h → t.quant q = s.quant q) ∧ a + s.par 0x0509 * sec ≤ t.tim.wt ∧ Frame [.tim, .elapsed, .working, .fus] s t) ∧
  (∀ (h : Bool) (s : State), (s.quant (bit h)).dr.isSome = true → s.cond 0 = true → s.parMode 0x0705 ≠ 0 →
    s.judgedLater (s.tim.wt + s.drLimitEnd - s.tim.el) = false → ∃ t, exec (.drLimitExpiry h) s = .next t ∧ s.drLimitEnd ≤ t.tim.el ∧
    t.dev.expired = insertNew s.dev.expired 0 ∧
    (s.parMode 0x0706 = 0 → t.dev.ownNew = s.dev.ownNew ∧ t.ord = s.ord ∧ t.Alarmed 0x1301 ∧ AlarmsBut [0x1301] s t) ∧
    (s.parMode 0x0706 ≠ 0 → t.dev.ownNew = some 6 ∧ t.Alarmed 0x1302 ∧ AlarmsBut [0x1302] s t ∧
      (s.dev.newMode = none → t.ord = s.ord) ∧
      (∀ m, s.dev.newMode = some m → s.modeDue m = s.modeDue 6 → t.dev.newMode = none ∧ ∀ r ∈ t.ord.responses, r.code = 4 → r.result ≠ 0)) ∧
    Frame [.dev, .ord, .alarms, .rcd, .tim, .elapsed, .working, .regs] s t)

/-- R29, R169, R170, R172, R176, R177, R182 to R184, R187, R190, R191. -/
def Obligations.TheControlStepBoundsTheDemandAndSupervises : Prop :=
  let acts := fun (cause : Nat) (s t : State) =>
    (s.par 0x0804 = 1 → t.dev.ownNew = some 6 ∧ t.dev.joystick = [0, 0, 0] ∧
      (s.dev.newMode = none → t.dev = { s.dev with ownNew := some 6, joystick := [0, 0, 0] } ∧ t.ord = s.ord)) ∧
    (s.par 0x0804 ≠ 1 → t.dev = s.dev ∧ t.ord = s.ord) ∧ t.ctl.inj = none ∧
    (s.ctl.inj.isSome = true → t.ctl.stopCause = some cause ∧ t.ctl.refAdd = [0, 0, 0]) ∧ t.ctl.tau = s.ctl.tau ∧
    Frame [.dev, .devAim, .ord, .alarms, .rcd, .tim, .elapsed, .working, .ctl, .regs] s t
  let ready := fun (s : State) => s.stepOpen 3 = true ∧ s.hlt.discarded.contains 3 = false
  let ended := fun (s : State) => s.ctl.posed = true ∧ (s.ctl.sent = true → s.problemWaits controlTag = false)
  let solved := fun (s : State) => s.ctl.sent = true ∧ ((s.prob controlTag).status = 3 ∨ (s.prob controlTag).status = 4)
  (∀ s : State, s.stepOpen 3 = false → exec .controlStepRuns s = .next s) ∧
  (∀ s : State, ready s → s.dev.mode ≠ 6 → s.ctl.posed = false → ∃ t, exec .controlStepRuns s = .next t ∧ t.ctl.posed = true ∧
    (t.dev.stepsDone = insertNew s.dev.stepsDone 3 ∨ (t.dev.stepsDone = s.dev.stepsDone ∧ t.ctl.sent = true ∧ t.ctl.tau = s.ctl.tau)) ∧
    Frame [.dev, .devAim, .alarms, .rcd, .ctl, .slv, .xchg, .regs] s t) ∧
  (∀ s : State, ready s → s.ctl.posed = true → s.ctl.sent = true → s.problemWaits controlTag = true → exec .controlStepRuns s = .next s) ∧
  (∀ s : State, ready s → s.dev.mode ≠ 6 → ended s → solved s → ∃ t, exec .controlStepRuns s = .next t ∧
    t.dev.stepsDone = insertNew s.dev.stepsDone 3 ∧ (∀ a < 3, (nthI t.ctl.tau a).natAbs ≤ s.attainable a) ∧ t.ctl.plan.length = 40 ∧
    t.ctl.plan.head? = some t.ctl.tau ∧ t.ctl.reuse = 0 ∧ t.ctl.fixedGain = false ∧ t.ctl.regularised = ((s.prob controlTag).status == 4) ∧
    t.CauseGone 0x1308 ∧ t.CauseGone 0x1309 ∧ Frame [.dev, .alarms, .rcd, .ctl, .xchg, .regs] s t) ∧
  (∀ s : State, ready s → s.dev.mode ≠ 6 → ended s → ¬solved s → s.ctl.reuse < 5 → s.ctl.plan ≠ [] →
    ∃ t, exec .controlStepRuns s = .next t ∧ t.dev.stepsDone = insertNew s.dev.stepsDone 3 ∧
    t.ctl.tau = s.ctl.plan.getD (Nat.min 39 ((s.ctl.reuse + 1) * (s.dev.period / 1000000) / 500)) [0, 0, 0] ∧ t.ctl.plan = s.ctl.plan ∧
    t.ctl.reuse = s.ctl.reuse + 1 ∧ t.Alarmed 0x1308 ∧ AlarmsBut [0x1308] s t ∧ Frame [.dev, .alarms, .rcd, .ctl, .regs] s t) ∧
  (∀ s : State, ready s → s.dev.mode ≠ 6 → ended s → ¬solved s → 5 ≤ s.ctl.reuse →
    ∃ t, exec .controlStepRuns s = .next t ∧ t.dev.stepsDone = insertNew s.dev.stepsDone 3 ∧ (∀ a < 3, (nthI t.ctl.tau a).natAbs ≤ s.attainable a) ∧
    t.ctl.fixedGain = true ∧ t.Alarmed 0x1309 ∧ AlarmsBut [0x1309] s t ∧ Frame [.dev, .alarms, .rcd, .ctl, .regs] s t) ∧
  (∀ s : State, s.stepOpen 3 = true → s.hlt.discarded.contains 3 = true → s.dev.mode ≠ 6 → s.ctl.reuse < 5 → s.ctl.plan ≠ [] →
    ∃ t, exec .controlStepRuns s = .next t ∧ t.dev.stepsLate = insertNew s.dev.stepsLate 3 ∧ t.dev.stepsDone = s.dev.stepsDone ∧
    t.ctl.tau = s.ctl.plan.getD (Nat.min 39 ((s.ctl.reuse + 1) * (s.dev.period / 1000000) / 500)) [0, 0, 0] ∧ t.ctl.reuse = s.ctl.reuse + 1 ∧
    t.Alarmed 0x1308 ∧ AlarmsBut [0x1308] s t ∧ Frame [.dev, .alarms, .rcd, .ctl, .regs] s t) ∧
  (∀ s : State, ready s → s.dev.mode = 6 → s.ctl.sent = false → ∃ t, exec .controlStepRuns s = .next t ∧
    t.dev.stepsDone = insertNew s.dev.stepsDone 3 ∧
    (∀ a < 3, nthI t.ctl.tau a = clampI (nthI s.ctl.tau a - s.tauStep a) (nthI s.ctl.tau a + s.tauStep a)
      (if s.dev.joyLost then 0 else ((s.par 0x0801 a : Int) * nthI s.dev.joystick a).tdiv 1000)) ∧
    t.ctl.bound = false ∧ t.ctl.fixedGain = false ∧ Frame [.dev, .devAim, .alarms, .rcd, .ctl, .regs] s t) ∧
  (∀ (h : Bool) (a : Nat) (s : State), (if h then s.ctl.feHdg else s.ctl.fePos) = some a → ∃ t, exec (.followingErrorExpiry h) s = .next t ∧
    a + s.par 0x0807 * 1000000 ≤ t.tim.el ∧ t.Alarmed (if h then 0x1306 else 0x1305) ∧ AlarmsBut [0x1305, 0x1306] s t ∧ acts 6 s t) ∧
  (∀ (n k a : Nat) (s : State), s.ctl.mp = some (k, a) → ∃ t, exec (.modelPlausibilityExpiry n) s = .next t ∧ a + s.par 0x080A * 1000000 ≤ t.tim.el ∧
    t.Alarmed 0x1307 ∧ AlarmsBut [0x1307] s t ∧ acts 7 s t) ∧
  (∀ s : State, s.fullCycle = true → s.dev.mode = 5 → ∃ t, exec .followRefLoss s = .next t ∧ t.dev.ownNew = some 1 ∧
    s.ctl.followAt + s.par 0x0715 * 1000000 ≤ t.tim.el ∧ t.Alarmed 0x130A ∧ AlarmsBut [0x130A] s t ∧
    (s.dev.newMode = none → t.dev = { s.dev with ownNew := some 1 } ∧ t.ord = s.ord) ∧ Frame [.dev, .ord, .alarms, .rcd, .tim, .elapsed, .working, .regs] s t) ∧
  (∀ s : State, s.fullCycle = true → s.dev.mode = 6 → ∃ t, exec .joystickTimeout s = .next t ∧ t.dev = { s.dev with joyLost := true } ∧
    s.dev.joyAt + s.par 0x0716 * 1000000 ≤ t.tim.el ∧ Frame [.dev, .tim, .elapsed, .working] s t) ∧
  (∀ (up : Bool) (a : Nat) (s : State), s.ctl.ramp = some (up, a) → ∃ t, exec .windFeedforwardRamp s = .next t ∧
    t.ctl = { s.ctl with ramp := none, wff := if up then s.ctl.wff else [0, 0, 0] } ∧ a + s.par 0x0711 * 1000000000 ≤ t.tim.el ∧
    Frame [.tim, .elapsed, .working, .ctl] s t) ∧
  (∀ (i : Injection) (s : State), s.ctl.inj = some i → i.started = true → ∃ t, exec .injectionEnd s = .next t ∧
    t.ctl = { s.ctl with inj := none, refAdd := [0, 0, 0] } ∧ i.startT + i.duration * 1000000000 ≤ t.tim.wt ∧ Frame [.tim, .elapsed, .working, .ctl] s t)

/-- R29, R210, R222, R224, R225, R226, R228, R229, R231. -/
def Obligations.AllocationFallsBackCoversAndSwings : Prop :=
  let ready := fun (s : State) => s.stepOpen 4 = true ∧ s.hlt.discarded.contains 4 = false
  (∀ s : State, s.stepOpen 4 = false → exec .allocationStepRuns s = .next s) ∧
  (∀ s : State, ready s → s.alc.posed = false → ∃ t, exec .allocationStepRuns s = .next t ∧ t.alc.posed = true ∧
    (t.dev.stepsDone = insertNew s.dev.stepsDone 4 ∨ (t.dev.stepsDone = s.dev.stepsDone ∧ t.alc.tags.any t.problemWaits = true)) ∧
    t.alc.taken.length ≤ t.alc.cover ∧ t.alc.nshape = t.alc.shape.length ∧ t.alc.nshape ≤ s.par 0x030C ∧ t.alc.scens.length = s.alc.scens.length ∧
    t.alc.advisory = (s.dev.mode == 6) ∧ Frame [.dev, .alarms, .rcd, .alc, .slv, .regs, .xchg] s t) ∧
  (∀ s : State, ready s → s.alc.posed = true → s.alc.tags.any s.problemWaits = true → exec .allocationStepRuns s = .next s) ∧
  (∀ s : State, s.Sound → ready s → s.alc.posed = true → s.alc.tags.any s.problemWaits = false →
    ∃ t, exec .allocationStepRuns s = .next t ∧ t.dev.stepsDone = insertNew s.dev.stepsDone 4 ∧
    (∀ n, n = s.batchStatus nominalTag →
      t.alc.fallback = (if n = 3 ∨ n = 4 then none else if n = 5 then some 1 else if n = 0 ∨ n = 6 then some 2 else some 3) ∧
      t.cond 7 = (decide (n ≠ 3) && decide (n ≠ 4)) ∧ (n = 3 ∨ n = 4 → t.CauseGone 0x1603) ∧
      (n ≠ 3 → n ≠ 4 → t.flag F_CTL_ALC_EVENT_FALLBACK_EVT = true ∧ (s.alc.fallback ≠ t.alc.fallback → t.Alarmed 0x1603)) ∧
      t.alc.regularised = (n == 4)) ∧
    t.alc.evaluated ≤ s.alc.taken.length ∧ t.alc.taken = s.alc.taken ∧ t.alc.shape = s.alc.shape ∧ t.alc.scens.length = s.alc.scens.length ∧
    Frame [.dev, .alarms, .rcd, .alc, .regs] s t) ∧
  (∀ s : State, s.Sound → s.stepOpen 4 = true → s.hlt.discarded.contains 4 = true → s.alc.posed = true → ∃ t, exec .allocationStepRuns s = .next t ∧
    t.dev.stepsLate = insertNew s.dev.stepsLate 4 ∧ t.dev.stepsDone = s.dev.stepsDone ∧ t.alc.fallback = some 2 ∧ t.cond 7 = true ∧ t.alc.tags = [] ∧
    (s.alc.fallback ≠ some 2 → t.Alarmed 0x1603) ∧ Frame [.dev, .alarms, .rcd, .alc, .regs] s t) ∧
  (∀ (j : Nat) (s : State), 1 ≤ j → j ≤ s.nScen → s.applicable j = true → (s.scen j).due = true → s.par 0x030E ≤ (s.scen j).age → (s.scen j).stale = false →
    ∃ t, exec (.scenarioStale j) s = .next t ∧ t.scen j = { s.scen j with stale := true } ∧ t.Alarmed 0x1602 ∧ AlarmsBut [0x1602] s t ∧
    Frame [.alarms, .rcd, .alc, .regs] s t) ∧
  (∀ (j : Nat) (s : State), (s.scen j).stale = true → exec (.scenarioStale j) s = .next s) ∧
  (∀ (j a : Nat) (s : State), (s.scen j).below = some a → ∃ t, exec (.shapeHoldExpiry j) s = .next t ∧ t.scen j = { s.scen j with offHeld := true } ∧
    a + s.par 0x030B * 1000000000 ≤ t.tim.el ∧ Frame [.tim, .elapsed, .working, .alc] s t) ∧
  (∀ (n k a : Nat) (cw : Bool) (s : State), (s.thr n).edge = some (k, cw, a) → ∃ t, exec (.azimuthSwing n) s = .next t ∧
    t.thr n = { s.thr n with swing := some (k, !cw), edge := none } ∧ (∀ m, m ≠ n → t.thr m = s.thr m) ∧ a + s.par 0x0310 * 1000000000 ≤ t.tim.el ∧
    t.Alarmed 0x1607 ∧ AlarmsBut [0x1607] s t ∧ Frame [.alarms, .rcd, .tim, .elapsed, .working, .alc, .regs] s t)

/-- R28 to R30, R32, R283, R287, R288, R310 to R313. -/
def Obligations.OutputsAreComparedJudgedArbitratedAndPoured : Prop :=
  (∀ s : State, s.stepOpen 5 = true → ∃ t, exec .outputComparison s = .next t ∧ t.dev = { s.dev with stepsDone := insertNew s.dev.stepsDone 5 } ∧
    s.windowEnd 15000 ≤ t.tim.wt ∧ Frame [.dev, .sti, .tim, .elapsed, .working, .twn, .out] s t ∧
    (s.inStep = false → t.twn.ownCompare = s.twn.ownCompare ∧ s.Sends t []) ∧
    (s.inStep = true → ∃ m d, t.twn.ownCompare = some m ∧ m.epoch = s.dev.stateEp ∧ m.thrust.length = 32 ∧ m.angle.length = 32 ∧
      (s.roomFor 2 .compare d = true → s.Sends t [s.twinSays 2 (aget 0 s.twn.link.txSeq 2) .compare d]))) ∧
  (∀ s : State, s.stepOpen 5 = false → exec .outputComparison s = .next s) ∧
  (∀ (b : Bool) (s : State), s.stepOpen 6 = true → s.failedChecks b = 0 → s.Sound → ∃ t, exec (.verdictFormation b) s = .next t ∧
    t.flag F_SAF_STATUS_VERDICT = true ∧ t.fld F_SAF_STATUS_FAILCNT = 0 ∧ t.saf = { s.saf with verdictPass := true } ∧
    (∃ m, t.twn.ownVerdict = some m ∧ m.pass = true ∧ m.checks = 0) ∧ t.dev = { s.dev with stepsDone := insertNew s.dev.stepsDone 6 } ∧
    Frame [.dev, .tim, .elapsed, .working, .twn, .saf, .regs, .out] s t ∧ FieldsBut [F_SAF_STATUS_VERDICT, F_SAF_STATUS_FAILCNT] s t) ∧
  (∀ s : State, s.stepOpen 6 = true → s.Sound → ∃ t, exec (.verdictFormation false) s = .next t ∧ t.saf.verdictPass = false ∧ t.Alarmed 0x0A02 ∧
    (∃ m, t.twn.ownVerdict = some m ∧ m.pass = false ∧ m.checks = 1) ∧
    (s.fld F_SAF_STATUS_FAILCNT + 1 < (s.safPar 0x100D).toNat → t.fld F_SAF_STATUS_FAILCNT = Nat.min 7 (s.fld F_SAF_STATUS_FAILCNT + 1) ∧
      t.flag F_SAF_STATUS_VERDICT = false ∧ t.dev.st = s.dev.st) ∧
    ((s.safPar 0x100D).toNat ≤ s.fld F_SAF_STATUS_FAILCNT + 1 → t.InGlobalSafe ∧ (s.dev.st ≠ .boot → t.dev.st = .safe))) ∧
  (∀ (b : Bool) (s : State), s.stepOpen 6 = false → exec (.verdictFormation b) s = .next s) ∧
  (∀ s : State, s.stepOpen 9 = true → s.Sound → ∃ t, exec .arbitration s = .next t ∧ t.dev.stepsDone = insertNew s.dev.stepsDone 9 ∧
    t.twn.arbRow = (if s.inStep then s.arbRowNow else 0) ∧
    (s.inStep = true → s.arbRowNow ≠ 9 → t.Alarmed 0x0407 ∧ t.reg A_TWN_ARB = BitVec.ofNat 32 (s.dev.stateEp % 16777216 + 16777216 * s.arbRowNow)) ∧
    (s.inStep = false ∨ s.arbRowNow = 9 → t.dev = { s.dev with stepsDone := insertNew s.dev.stepsDone 9 } ∧ t.inStep = s.inStep ∧
      t.fld F_SAF_STATUS_GATE = (if s.holds && s.saf.leaseFrom.isSome && !s.inSafe then (if s.saf.verdictPass then gateOpen else gateHold) else gateClosed))) ∧
  (∀ s : State, s.stepOpen 9 = false → exec .arbitration s = .next s) ∧
  (∀ (k : Nat) (s : State), 2 ≤ k → k ≤ 6 → s.stepOpen k = true → ∃ t, exec (.stepDeadline k) s = .next t ∧ t.dev.stepsLate = insertNew s.dev.stepsLate k ∧
    t.Alarmed 0x0006 ∧ t.dev.pourAt = s.dev.pourAt ∧ t.dev.nextFreeze = s.dev.nextFreeze ∧ s.stepEnd k ≤ t.tim.wt ∧ t.dev.stepsDone = s.dev.stepsDone) ∧
  (∀ s : State, s.undecided = true → s.Sound → ∃ t, exec (.stepDeadline 1) s = .next t ∧ t.Alarmed 0x0006 ∧ t.inStep = false ∧ t.agr.decided = true ∧
    t.dev.pourAt = s.dev.pourAt ∧ t.dev.nextFreeze = s.dev.nextFreeze ∧ s.stepEnd 1 ≤ t.tim.wt) ∧
  (∀ s : State, s.dev.cycling = true → ∃ t, exec (.stepDeadline 7) s = .next t ∧ t.Alarmed 0x0006 ∧ AlarmsBut [0x0006] s t ∧ s.stepEnd 7 ≤ t.tim.wt ∧
    Frame [.alarms, .rcd, .tim, .elapsed, .working, .regs] s t) ∧
  (∀ (b : Bool) (s : State), s.dev.cycling = true → 0 < s.dev.freezes → 8 ∉ s.dev.stepsDone → ∃ t, exec (.pour b) s = .next t ∧
    t.dev.stepsDone = [1, 2, 3, 4, 5, 6, 8, 9] ∧ s.dev.pourAt ≤ t.tim.wt ∧ t.dev.stateEp = s.dev.stateEp ∧ t.dev.freezes = s.dev.freezes ∧
    t.mram.stateEp = s.dev.stateEp ∧ t.ord.counted = [] ∧ t.serial = s.serial ∧ t.flash = s.flash) ∧
  (∀ (b : Bool) (s : State), s.dev.cycling = false ∨ s.dev.freezes = 0 ∨ 8 ∈ s.dev.stepsDone → exec (.pour b) s = .next s) ∧
  (∀ (h : TwinHeader) (m : CompareMsg) (s : State), s.takesFrame 2 h = true → s.twn.link.queue = [] → s.inStep = true → m.epoch = s.dev.stateEp →
    5 ∉ s.dev.stepsLate → ∃ t, exec (.compareFrame h m) s = .next t ∧ t.twn = { s.twn with peerCompare := some m, link := s.linkAfter 2 h } ∧ Frame [.twn] s t) ∧
  (∀ (h : TwinHeader) (m : VerdictMsg) (s : State), s.takesFrame 3 h = true → s.twn.link.queue = [] → s.inStep = true →
    ∃ t, exec (.verdictFrame h m) s = .next t ∧ t.twn = { s.twn with peerVerdict := some m, link := s.linkAfter 3 h } ∧ Frame [.twn] s t)

/-- R84. -/
def Obligations.DuplicateOrdersAreDiscardedUnanswered : Prop :=
  (∀ (c : Instr) (o : OrderIn) (k : Nat) (b : Bool) (s : State), orderRow c = some (o, k, b) → s.dev.st ≠ .boot → s.dev.cycling = true →
    s.epochOf o.stamp ≤ s.dev.stateEp →
    (o.format = 1 → o.crcOk = true → o.target ≤ 2 → s.authorised o k = true → afind s.ord.lastSeq o.source = some o.seq →
      ∃ t, exec c s = .next t ∧ Frame [.regs] s t ∧ (boxOf o.transport = none → t = s) ∧
        (∀ n, boxOf o.transport = some n → t = s.boxAnswer n 0xFF)) ∧
    (o.format ≠ 1 ∨ o.crcOk = false ∨ 2 < o.target → ∃ t, exec c s = .next t ∧ Frame [.ord] s t ∧
      t.ord = { s.ord with responses := s.ord.responses ++ [⟨o.transport, o.address, o.port, o.source, k, 0x01, o.seq⟩] }) ∧
    (o.format = 1 → o.crcOk = true → o.target ≤ 2 → s.authorised o k = false → ∃ t, exec c s = .next t ∧ Frame [.ord] s t ∧
      t.ord = { s.ord with responses := s.ord.responses ++ [⟨o.transport, o.address, o.port, o.source, k, 0x03, o.seq⟩] })) ∧
  (∀ (tr : Transport) (a : Word) (p : Nat) (f : List Word) (n : Nat) (s : State), s.dev.st ≠ .boot → s.dev.cycling = true → knownCode (orderCode f) = false →
    s.epochOf n ≤ s.dev.stateEp → ∃ t, exec (.orderArrival tr a p f n) s = .next t ∧ t.ord = { s.ord with responses := s.ord.responses ++
      [⟨tr, a, p, (parseOrder tr a p f n).source, orderCode f,
        if (parseOrder tr a p f n).format ≠ 1 ∨ (parseOrder tr a p f n).crcOk = false ∨ 2 < (parseOrder tr a p f n).target then 0x01 else 0x02,
        (parseOrder tr a p f n).seq⟩] } ∧ Frame [.ord, .agr, .twn, .out] s t)

/-- R82, R83, R85, R87. -/
def Obligations.OrdersFailTheMiddleChecksInOrder : Prop :=
  ∀ (c : Instr) (o : OrderIn) (k : Nat) (b : Bool) (s : State), orderRow c = some (o, k, b) →
    (s.dev.st = .boot ∨ s.dev.cycling = false → exec c s = .next s) ∧
    (s.dev.st ≠ .boot → s.dev.cycling = true → s.dev.stateEp < s.epochOf o.stamp →
      exec c s = .next { s with ord := { s.ord with waiting := s.ord.waiting ++ [⟨o, k⟩] } }) ∧
    (s.dev.st ≠ .boot → s.dev.cycling = true → s.epochOf o.stamp ≤ s.dev.stateEp → o.format = 1 → o.crcOk = true → o.target ≤ 2 → s.authorised o k = true → s.duplicate o = false →
      ∀ r, r = (if o.seq < aget 0 s.ord.lastSeq o.source then 0x08 else if o.ladleEp ≠ s.twn.ladleEp then 0x09
          else if s.dev.stateEp < o.stateEp ∨ o.stateEp + s.par 0x1203 < s.dev.stateEp then 0x0A else if 8 ≤ s.countedOrders o.source then 0x0B
          else if b = true ∧ s.dev.command ≠ o.source then 0x04 else 0) →
        (r ≠ 0 → ∃ t, exec c s = .next t ∧ t.ord = { s.ord with
          counted := aset s.ord.counted o.source (s.countedOrders o.source + 1),
          responses := s.ord.responses ++ [⟨o.transport, o.address, o.port, o.source, k, r, o.seq⟩] } ∧ Frame [.ord] s t) ∧
        (r = 0 → s.foreignTarget o = true → ∃ t, exec c s = .next t ∧ s.Accepted t o k ∧ t.ord.sideState = s.ord.sideState ∧ Frame [.ord] s t))

/-- R76, R77, R79, R80, R86 to R88, R90, R158, R168, R180. Check codes 0x05, 0x06, 0x07 and 0x0C of each row stand as premises. -/
def Obligations.AcceptedOrdersActAsTheirRowsSay : Prop :=
  (∀ (o : OrderIn) (d : Side) (s : State), s.Stands o 0x01 true → s.namedSide o 0x01 = some d → stateAccepts (s.sideStateOf d) 0x01 = true →
    s.engageOk d = true → d ≠ s.pins.side ∨ s.ownState = 1 → ∃ t, exec (.engage o) s = .next t ∧ s.Accepted t o 0x01 ∧
    t.dev = { s.dev with atPour := s.dev.atPour ++ [.engage d] } ∧ t.ord.sideState = aset s.ord.sideState (sideCode d) 2 ∧ Frame [.ord, .dev] s t) ∧
  (∀ (o : OrderIn) (s : State), s.Stands o 0x02 true → s.stateOk 0x02 = true → s.someHolder = true → s.targetOk o 0x02 = true →
    ∃ t, exec (.disengage o) s = .next t ∧ s.Accepted t o 0x02 ∧ t.dev = { s.dev with atPour := s.dev.atPour ++ [.disengage] } ∧
    t.ord.sideState = (s.noteHolder 1).ord.sideState ∧ Frame [.ord, .dev] s t) ∧
  (∀ (o : OrderIn) (s : State), s.Stands o 0x03 true → s.stateOk 0x03 = true → s.someHolder = true → s.alone = false → s.transferReady = true →
    s.targetOk o 0x03 = true → ∃ t, exec (.transfer o) s = .next t ∧ s.Accepted t o 0x03 ∧ t.dev = { s.dev with atPour := s.dev.atPour ++ [.transfer] } ∧
    t.ord.sideState = s.noteTransfer.ord.sideState ∧ Frame [.ord, .dev] s t) ∧
  (∀ (o : OrderIn) (s : State), s.Stands o 0x04 true → s.stateOk 0x04 = true → s.modeReady (nthW o.args 0).toNat = true → 1 ≤ (nthW o.args 0).toNat →
    (nthW o.args 0).toNat ≤ 6 → s.targetOk o 0x04 = true → (∀ m, s.dev.ownNew = some m → s.modeDue m ≠ s.modeDue (nthW o.args 0).toNat) → ∃ t, exec (.setMode o) s = .next t ∧
    s.Accepted t o 0x04 ∧ t.dev = { s.dev with newMode := some (nthW o.args 0).toNat } ∧ Frame [.ord, .dev] s t) ∧
  (∀ (o : OrderIn) (s : State), s.Stands o 0x05 true → s.stateOk 0x05 = true → (nthW o.args 2).toNat ≤ 359999 → s.targetOk o 0x05 = true →
    ∃ t, exec (.setPoint o) s = .next t ∧ s.Accepted t o 0x05 ∧
    t.dev = { s.dev with setPoint := [(nthW o.args 0).toInt, (nthW o.args 1).toInt, ((nthW o.args 2).toNat : Int)] } ∧
    t.ctl = { s.ctl with spNew := true } ∧ Frame [.ord, .dev, .devAim, .ctl] s t) ∧
  (∀ (o : OrderIn) (s : State) (a b c d v : Word), s.Stands o 0x06 true → s.stateOk 0x06 = true → o.args.take 5 = [a, b, c, d, v] → v.toNat ≤ 3000 →
    s.targetOk o 0x06 = true → ∃ t, exec (.setTrack o) s = .next t ∧ s.Accepted t o 0x06 ∧
    t.dev = { s.dev with track := some [a.toInt, b.toInt, c.toInt, d.toInt, (v.toNat : Int)] } ∧ t.ctl = { s.ctl with trackAt := 0, trackEnd := false } ∧
    Frame [.ord, .dev, .devAim, .ctl] s t) ∧
  (∀ (o : OrderIn) (s : State) (w a b c : Word), s.Stands o 0x07 true → s.stateOk 0x07 = true → o.args.take 4 = [w, a, b, c] →
    s.followTargetOk w.toNat = true → s.followArgOk w.toNat = true → s.targetOk o 0x07 = true → ∃ t, exec (.setFollowRef o) s = .next t ∧
    s.Accepted t o 0x07 ∧ t.dev = { s.dev with follow := some [(w.toNat : Int), a.toInt, b.toInt, c.toInt] } ∧ t.ctl = { s.ctl with follow := none } ∧
    Frame [.ord, .dev, .devAim, .ctl] s t) ∧
  (∀ (o : OrderIn) (s : State) (a b c : Word), s.Stands o 0x08 true → s.stateOk 0x08 = true → o.args.take 3 = [a, b, c] →
    a.toInt.natAbs ≤ 1000 → b.toInt.natAbs ≤ 1000 → c.toInt.natAbs ≤ 1000 → s.targetOk o 0x08 = true → ∃ t, exec (.joystick o) s = .next t ∧
    s.Accepted t o 0x08 ∧ t.dev = { s.dev with joystick := [a.toInt, b.toInt, c.toInt], joyAt := s.tim.el, joyLost := false } ∧
    Frame [.ord, .dev, .devAim] s t) ∧
  (∀ (o : OrderIn) (s : State), s.Stands o 0x09 false → s.stateOk 0x09 = true → s.targetOk o 0x09 = true →
    s.dev.command = o.source ∨ s.ord.commandChanged = false → ∃ t, exec (.takeCommand o) s = .next t ∧ s.Accepted t o 0x09 ∧
    t.dev = { s.dev with command := o.source } ∧ t.ord.commandChanged = (s.ord.commandChanged || s.dev.command != o.source) ∧ Frame [.ord, .dev] s t) ∧
  (∀ (o : OrderIn) (s : State), s.Stands o 0x0A false → s.stateOk 0x0A = true → s.thrExists (nthW o.args 0).toNat = true → (nthW o.args 1).toNat ≤ 1 →
    ((nthW o.args 1).toNat = 1 → (s.thr (nthW o.args 0).toNat).ready = true) → s.targetOk o 0x0A = true →
    ∃ t, exec (.thrusterAvail o) s = .next t ∧ s.Accepted t o 0x0A ∧
    t.ord.availNext = s.ord.availNext ++ [((nthW o.args 0).toNat, (nthW o.args 1).toNat == 1)] ∧
    ((∀ b, s.saf.test = some b → s.brkThr b.chan ≠ (nthW o.args 0).toNat) → Frame [.ord] s t) ∧
    (∀ b, s.saf.test = some b → s.brkThr b.chan = (nthW o.args 0).toNat → t.saf.test = none ∧ t.Alarmed 0x0A0A) ∧
    Frame [.ord, .alarms, .rcd, .saf, .regs] s t) ∧
  (∀ (o : OrderIn) (s : State), s.Stands o 0x0B false → s.stateOk 0x0B = true → s.slotUsed (nthW o.args 0).toNat = true →
    (s.fslot (nthW o.args 0).toNat).st = 4 → s.targetOk o 0x0B = true → ∃ t, exec (.sensorReturn o) s = .next t ∧ s.Accepted t o 0x0B ∧
    t.fus = { s.fus with returns := insertNew s.fus.returns (nthW o.args 0).toNat } ∧ Frame [.ord, .fus] s t) ∧
  (∀ (o : OrderIn) (s : State), s.Stands o 0x0C false → s.stateOk 0x0C = true → s.tunableOk (nthW o.args 0) (nthW o.args 1) = true →
    s.targetOk o 0x0C = true → (nthW o.args 0).toNat ∉ s.ord.tunedThisCycle → ∃ t, exec (.tunable o) s = .next t ∧ s.Accepted t o 0x0C ∧
    t.ord.tuneNext = s.ord.tuneNext ++ [((nthW o.args 0).toNat, nthW o.args 1)] ∧
    t.ord.tunedThisCycle = s.ord.tunedThisCycle ++ [(nthW o.args 0).toNat] ∧ Frame [.ord] s t) ∧
  (∀ (o : OrderIn) (s : State), s.Stands o 0x0F false → s.ownState = 1 → s.noneActive = true → s.targetOk o 0x0F = true →
    ∃ t, exec (.park o) s = .next t ∧ s.Accepted t o 0x0F ∧ t.dev = { s.dev with atPour := s.dev.atPour ++ [.park] } ∧
    t.ord.sideState = (s.noteBoth 4).ord.sideState ∧ Frame [.ord, .dev] s t) ∧
  (∀ (o : OrderIn) (s : State), s.Stands o 0x10 false → s.ownState = 4 → s.targetOk o 0x10 = true →
    ∃ t, exec (.unpark o) s = .next t ∧ s.Accepted t o 0x10 ∧ t.dev = { s.dev with atPour := s.dev.atPour ++ [.unpark] } ∧
    t.ord.sideState = (s.noteBoth 1).ord.sideState ∧ Frame [.ord, .dev] s t) ∧
  (∀ (o : OrderIn) (d : Side) (s : State), s.Stands o 0x11 false → d = (s.namedSide o 0x11).getD s.pins.side →
    stateAccepts (s.sideStateOf d) 0x11 = true → (d = s.pins.side → s.stateOk 0x11 = true) → s.targetOk o 0x11 = true →
    ∃ t, exec (.safe o) s = .next t ∧ s.Accepted t o 0x11 ∧ t.dev = { s.dev with atPour := s.dev.atPour ++ (if d = s.pins.side then [.safe] else []) } ∧
    t.ord.sideState = (s.noteNamed (s.namedSide o 0x11) 3).ord.sideState ∧ Frame [.ord, .dev] s t) ∧
  (∀ (o : OrderIn) (d : Side) (s : State), s.Stands o 0x12 false → d = (s.namedSide o 0x12).getD s.pins.side →
    stateAccepts (s.sideStateOf d) 0x12 = true → (d = s.pins.side → s.stateOk 0x12 = true) → s.tooHot d = false → s.targetOk o 0x12 = true →
    ∃ t, exec (.reset o) s = .next t ∧ s.Accepted t o 0x12 ∧ t.dev = { s.dev with atPour := s.dev.atPour ++ (if d = s.pins.side then [.reset] else []) } ∧
    Frame [.ord, .dev] s t)

/-- R27, R81, R82, R94, R188, R191, R279, R322, R324, R534. -/
def Obligations.TestsAcknowledgementsAndOrderFramesAreTaken : Prop :=
  (∀ (o : OrderIn) (s : State), s.Stands o 0x0D false → s.stateOk 0x0D = true → s.someHolder = true → s.brakeTestable (nthW o.args 1).toNat = true →
    nthW o.args 0 = 1#32 → (nthW o.args 1).toNat ≤ 7 → 1 ≤ (nthW o.args 2).toNat → (nthW o.args 2).toNat ≤ 10 → (∀ w ∈ o.args.drop 3, w = 0#32) → s.targetOk o 0x0D = true →
    s.testRuns = false → ∃ t, exec (.testStartBrake o) s = .next t ∧ s.Accepted t o 0x0D ∧
    t.saf = { s.saf with test := some ⟨(nthW o.args 1).toNat, (nthW o.args 2).toNat, 0, s.tim.el, 0⟩ } ∧ Frame [.ord, .saf] s t) ∧
  (∀ (o : OrderIn) (s : State), s.Sound → s.Stands o 0x0D false → s.stateOk 0x0D = true → s.someHolder = true → s.injectionReady (nthW o.args 1).toNat = true →
    injectionArgs o.args = true → s.injectionFits o.args = true → s.targetOk o 0x0D = true → s.testRuns = false →
    ∃ t, exec (.testStartInjection o) s = .next t ∧ s.Accepted t o 0x0D ∧
    (∃ i : Injection, t.ctl = { s.ctl with inj := some i, capture := [], samples := 0 } ∧ i.started = false ∧ i.target = (nthW o.args 1).toNat ∧
      i.signal = (nthW o.args 2).toNat ∧ i.amp = (nthW o.args 3).toNat ∧ i.duration = (nthW o.args 6).toNat) ∧
    Frame [.ord, .ctl, .regs] s t ∧ FieldsBut [word32 A_CTL_TEST] s t) ∧
  (∀ (o : OrderIn) (s : State), s.Stands o 0x0E false → s.stateOk 0x0E = true → s.targetOk o 0x0E = true → ∃ t, exec (.testStop o) s = .next t ∧
    s.Accepted t o 0x0E ∧ t.saf.test = none ∧ t.ctl.inj = none ∧ t.mram.brakeAge = s.mram.brakeAge ∧
    (∀ b, s.saf.test = some b → t.Alarmed 0x0A0A) ∧ (s.ctl.inj.isSome = true → t.ctl.stopCause = some 1) ∧
    (s.saf.test = none → s.ctl.inj = none → s.ctl.stopCause = none → Frame [.ord] s t) ∧ Frame [.ord, .alarms, .rcd, .saf, .ctl, .regs, .brakes] s t) ∧
  (∀ (o : OrderIn) (s : State), s.Sound → s.Stands o 0x13 false → s.stateOk 0x13 = true → s.targetOk o 0x13 = true → (nthW o.args 0).toNat < 0xFFFF →
    ∃ t, exec (.alarmAck o) s = .next t ∧ s.Accepted t o 0x13 ∧ AlarmsBut [(nthW o.args 0).toNat] s t ∧
    (∀ a, s.alarm? (nthW o.args 0).toNat = some a → t.alarm? (nthW o.args 0).toNat = if a.cause then some { a with acked := true } else none) ∧
    (s.alarm? (nthW o.args 0).toNat = none → t.alarm? (nthW o.args 0).toNat = none) ∧ Frame [.ord, .alarms, .rcd, .regs] s t ∧ FieldsBut recFields s t) ∧
  (∀ (o : OrderIn) (s : State), s.Sound → s.Stands o 0x13 false → s.stateOk 0x13 = true → s.targetOk o 0x13 = true → (nthW o.args 0).toNat = 0xFFFF →
    ∃ t, exec (.alarmAck o) s = .next t ∧ s.Accepted t o 0x13 ∧
    (∀ c a, t.alarm? c = some a → a.acked = true ∧ a.cause = true ∧ (s.alarm? c).isSome = true) ∧
    (∀ c a, s.alarm? c = some a → a.cause = true → t.alarm? c = some { a with acked := true }) ∧ Frame [.ord, .alarms, .rcd, .regs] s t) ∧
  (∀ (tr : Transport) (a : Word) (p : Nat) (f : List Word) (n : Nat) (s : State), s.dev.st ≠ .boot → s.dev.cycling = true → knownCode (orderCode f) = true →
    s.tim.stepJump = none → ∃ t, exec (.orderArrival tr a p f n) s = .next t ∧
    (∃ i : Item, t.agr.own = s.agr.own ++ [i] ∧ i.side = s.pins.side ∧ i.cls = 4 ∧ i.last = n ∧ i.first = n ∧ i.data = f ∧
      i.epoch = (if n ≤ s.dev.freezeAt then s.dev.stateEp else s.dev.stateEp + 1)) ∧ Frame [.agr, .twn, .out] s t) ∧
  (∀ (m k : Nat) (s : State), s.Sound → s.MayAccess m (A_CTL_OMB_CTRL k) true → s.flag (F_CTL_OMB_CTRL_PEND k) = false → s.dev.st ≠ .boot →
    s.dev.cycling = true → knownCode (orderCode (s.regRun (A_CTL_OMB_BUF k 0) 16)) = true → ∃ t, exec (.orderMailboxSubmit m k) s = .next t ∧
    (∃ i : Item, t.agr.own = s.agr.own ++ [i] ∧ i.side = s.pins.side ∧ i.cls = 4 ∧ i.last = s.tim.wt ∧ i.data = s.regRun (A_CTL_OMB_BUF k 0) 16) ∧
    t.flag (F_CTL_OMB_CTRL_PEND k) = true ∧ t.out.getLast? = some ⟨.access m, .write, [A_CTL_OMB_CTRL k, 0, 1]⟩ ∧
    Frame [.agr, .twn, .regs, .out] s t ∧ FieldsBut [F_CTL_OMB_CTRL_PEND k] s t) ∧
  (∀ (m k : Nat) (s : State), s.MayAccess m (A_CTL_OMB_CTRL k) true → s.flag (F_CTL_OMB_CTRL_PEND k) = true → ∃ t, exec (.orderMailboxSubmit m k) s = .next t ∧
    s.Sends t [⟨.access m, .write, [A_CTL_OMB_CTRL k, 0, 1]⟩] ∧ Frame [.out] s t)

/-- R252 to R255, R257 to R260, R262 to R265. -/
def Obligations.TheSolverArrayTakesRunsAndEndsProblems : Prop :=
  (∀ (m : Nat) (v : Word) (l : List (Nat × Word)) (s : State), s.Sound → s.MayAccess m A_SLV_SUBMIT true → s.slv.queue.length < 512 →
    ∃ t, exec (.slvSubmit m v l) s = .next t ∧ t.slv = { s.slv with queue := s.slv.queue ++ [.submit (64 * bits v 21 6) m] } ∧
    t.fld F_SLV_FILLQ_DEPTH = s.slv.queue.length + 1 ∧ t.xchg = (s.place l).xchg ∧ s.Sends t [⟨.access m, .write, [A_SLV_SUBMIT, 0, v.toNat]⟩] ∧
    Frame [.slv, .regs, .xchg, .out] s t ∧ FieldsBut [F_SLV_FILLQ_DEPTH, F_SLV_FILLQ_HELD] s t) ∧
  (∀ (m : Nat) (v : Word) (l : List (Nat × Word)) (s : State), s.Sound → s.MayAccess m A_SLV_FILL true → s.slv.queue.length < 512 →
    ∃ t, exec (.slvFill m v l) s = .next t ∧ t.slv = { s.slv with queue := s.slv.queue ++ [.fill (4 * bits v 21 2)] } ∧
    t.fld F_SLV_FILLQ_DEPTH = s.slv.queue.length + 1 ∧ t.xchg = (s.place l).xchg ∧ s.Sends t [⟨.access m, .write, [A_SLV_FILL, 0, v.toNat]⟩] ∧
    Frame [.slv, .regs, .xchg, .out] s t ∧ FieldsBut [F_SLV_FILLQ_DEPTH, F_SLV_FILLQ_HELD] s t) ∧
  (∀ (m : Nat) (v : Word) (l : List (Nat × Word)) (s : State), s.Sound → s.MayAccess m A_SLV_FILL true → 512 ≤ s.slv.queue.length →
    ∃ t, exec (.slvFill m v l) s = .next t ∧ t.slv = s.slv ∧ t.flag F_SLV_EVENT_REFUSED = true ∧ t.Alarmed 0x1505 ∧
    Frame [.alarms, .rcd, .regs, .xchg, .out] s t) ∧
  (∀ (a m k p : Nat) (d : List Word) (r : List SlvCmd) (s : State), s.Sound → s.slv.queue = .submit a m :: r → s.xchgRun a 16 = d →
    bits (nthW d 0) 7 0 = k → bits (nthW d 0) 15 8 = p → ∃ t, exec .submissionProcess s = .next t ∧ t.slv.queue = r ∧
    Frame [.alarms, .rcd, .slv, .regs] s t ∧
      ((s.prob k).inFlight = true → t.slv.probs = s.slv.probs ∧ t.flag F_SLV_EVENT_REFUSED = true ∧ t.Alarmed 0x1505) ∧
      ((s.prob k).inFlight = false → s.descriptorOk d m = false → t.prob k = { status := 9, mould := p } ∧ t.Alarmed 0x150B ∧ t.slv.order = s.slv.order) ∧
      ((s.prob k).inFlight = false → s.descriptorOk d m = true → t.slv.order = s.slv.order ++ [k] ∧ t.alarms = s.alarms ∧
        (t.prob k).status = 1 ∧ (t.prob k).mould = p ∧ (t.prob k).resOfs = (nthW d 2).toNat ∧ (t.prob k).nodl = tbit (bits (nthW d 0) 23 16) 1 ∧
        (tbit (bits (nthW d 0) 23 16) 1 = false → s.tim.wt ≤ (t.prob k).deadline ∧ (t.prob k).deadline ≤ s.tim.wt + sec) ∧
        (∀ j, j ≠ k → t.prob j = s.prob j))) ∧
  (∀ (a : Nat) (r : List SlvCmd) (s : State), s.Sound → s.slv.queue = .fill a :: r → s.fillOf a = none →
    ∃ t, exec .fillApply s = .next t ∧ t.slv = { s.slv with queue := r } ∧ t.flag F_SLV_EVENT_FILL_REJ = true ∧ t.Alarmed 0x1506 ∧
    Frame [.alarms, .rcd, .slv, .regs] s t) ∧
  (∀ (a k : Nat) (l : List (Nat × Word)) (x : Mould) (r : List SlvCmd) (s : State), s.slv.queue = .fill a :: r → s.fillOf a = some (k, l) →
    s.mould? k = some x → ∃ t, exec .fillApply s = .next t ∧ Frame [.slv, .regs] s t ∧
    (∀ g, x.staging = some g → t.slv.queue = r ∧ t.mould? k = some { x with staging := some (applyWrites g l) }) ∧
    (x.staging = none → x.copy ∉ s.copiesInUse k → t.slv.queue = r ∧ t.mould? k = some { x with live := applyWrites x.live l }) ∧
    (x.staging = none → x.copy ∈ s.copiesInUse k → (s.copiesInUse k).length < 2 → t.slv.queue = r ∧
      t.mould? k = some { x with staging := some (applyWrites x.live l) }) ∧
    (x.staging = none → x.copy ∈ s.copiesInUse k → 2 ≤ (s.copiesInUse k).length → t.slv = s.slv)) ∧
  (∀ (k n : Nat) (r l : List Nat) (s : State), s.slv.order = k :: r → s.freeLanes = n :: l → ∃ t, exec .problemStart s = .next t ∧
    t.slv.order = r ∧ t.prob k = { s.prob k with status := 2, lane := n } ∧
    aget [] t.slv.laneMem n = (s.dataBlock (s.prob k)).take 24576 ∧ (∀ j, j ≠ k → t.prob j = s.prob j) ∧ Frame [.slv, .regs] s t) ∧
  (∀ (k n : Nat) (r : LaneResult) (s : State), s.Sound → (s.prob k).status = 2 → r = s.runOf (s.prob k) → ∃ t, exec (.problemEnds k n) s = .next t ∧
    (t.prob k).status = r.status ∧ (t.prob k).flags = (s.prob k).flags + bit r.clamped ∧ (t.prob k).resOfs = (s.prob k).resOfs ∧
    t.xchg = (s.xchgWrite (s.prob k).resOfs (recordOf k r.status ((s.prob k).flags + bit r.clamped) r.iter (s.mouldHash (s.prob k).mould) (s.prob k).lane n
      (r.x.map (BitVec.ofInt 32)) r.active)).xchg ∧
    k ∉ t.slv.order ∧ (∀ j, j ≠ k → t.prob j = s.prob j) ∧ aget [] t.slv.laneMem (s.prob k).lane = [] ∧
    (r.status = 5 → t.flag F_SLV_EVENT_OVERFLOW_EVT = true) ∧ (r.clamped = true → t.flag F_SLV_EVENT_CLAMP_EVT = true) ∧
    ((∀ j, j ≠ k → (s.prob j).inFlight = false) → t.flag F_SLV_EVENT_BATCH_DONE = true) ∧
    Frame [.alarms, .rcd, .slv, .regs, .xchg] s t) ∧
  (∀ (k n n' : Nat) (s s' : State), (s.prob k).status = 2 → (s'.prob k).status = 2 → s.mould? (s.prob k).mould = s'.mould? (s'.prob k).mould →
    (s.prob k).mats = (s'.prob k).mats → (s.prob k).warm = (s'.prob k).warm → (s.prob k).flags = (s'.prob k).flags →
    aget [] s.slv.laneMem (s.prob k).lane = aget [] s'.slv.laneMem (s'.prob k).lane →
    ∃ t t', exec (.problemEnds k n) s = .next t ∧ exec (.problemEnds k n') s' = .next t' ∧ (t.prob k).status = (t'.prob k).status ∧
      (t.prob k).flags = (t'.prob k).flags) ∧
  (∀ (k : Nat) (s : State), s.Sound → (s.prob k).inFlight = true → (s.prob k).nodl = false → ∃ t, exec (.problemDeadline k) s = .next t ∧
    (t.prob k).status = 6 ∧ t.slv.stopped = s.slv.stopped + 1 ∧ t.flag F_SLV_EVENT_DEADLINE_EVT = true ∧ k ∉ t.slv.order ∧
    (s.prob k).deadline ≤ t.tim.wt ∧ (∀ j, j ≠ k → t.prob j = s.prob j) ∧
    Frame [.tim, .elapsed, .working, .slv, .regs, .xchg, .freeCtr] s t) ∧
  (∀ (n k : Nat) (s : State), s.Sound → n ≤ 71 → s.lane n ≠ 2 → s.flying.find? (fun g => (s.prob g).status == 2 && (s.prob g).lane == n) = some k →
    (s.prob k).restarted = false → ∃ t, exec (.laneFault n) s = .next t ∧ t.slv.order = k :: s.slv.order ∧ n ∈ t.slv.faulted ∧
    t.prob k = { s.prob k with status := 1, restarted := true, flags := (s.prob k).flags + 8 } ∧ t.Alarmed 0x1507 ∧
    Frame [.alarms, .rcd, .slv, .regs] s t) ∧
  (∀ (n k : Nat) (s : State), s.Sound → n ≤ 71 → s.lane n ≠ 2 → s.flying.find? (fun g => (s.prob g).status == 2 && (s.prob g).lane == n) = some k →
    (s.prob k).restarted = true → ∃ t, exec (.laneFault n) s = .next t ∧ (t.prob k).status = 10 ∧ n ∈ t.slv.faulted ∧ t.twn = { s.twn with selfS := true } ∧
    t.Alarmed 0x150A ∧ Frame [.alarms, .rcd, .twn, .slv, .regs, .xchg, .freeCtr] s t) ∧
  (∀ (n : Nat) (s : State), s.Sound → n ≤ 71 → s.lane n ≠ 2 → ∃ t, exec (.laneEccCorrected n) s = .next t ∧
    t.hlt.eccCorr = Nat.min 4294967295 (s.hlt.eccCorr + 1) ∧ Frame [.hlt, .regs] s t ∧ FieldsBut [F_SLV_ECC_CNT_CORRECTED] s t)

/-- R272, R274, R286. -/
def Obligations.TheTwinLinkFailsRetriesAndRetransmits : Prop :=
  (∀ (n : Nat) (s : State), s.Sound → s.twinOn = true → n < 2 → s.flag (bitAt A_TWN_STATUS (10 + n)) = true → ∃ t, exec (.twinLaneLost n) s = .next t ∧
    t.flag (bitAt A_TWN_STATUS (10 + n)) = false ∧ t.flag F_TWN_EVENT_LANE_LOST = true ∧ t.Alarmed 0x0401 ∧ AlarmsBut [0x0401] s t ∧
    t.twn = { s.twn with laneLost := aset s.twn.laneLost n s.tim.el, downSince := if t.linkUp then s.twn.downSince else some s.tim.el } ∧
    Frame [.alarms, .rcd, .twn, .regs] s t ∧
    FieldsBut (bitAt A_TWN_STATUS (10 + n) :: F_TWN_EVENT_LANE_LOST :: recFields) s t) ∧
  (∀ (n e : Nat) (s : State), afind s.twn.laneLost n = some e → ∃ t, exec (.twinLaneRetry n) s = .next t ∧
    t.tim.el = Nat.max s.tim.el (e + 100 * ms) ∧ t.twn = { s.twn with laneLost := aset s.twn.laneLost n t.tim.el } ∧
    Frame [.tim, .elapsed, .working, .twn] s t) ∧
  (∀ (n : Nat) (s : State), s.Sound → s.twinOn = true → n < 2 → ∃ t, exec (.twinLaneUp n) s = .next t ∧
    t.flag (bitAt A_TWN_STATUS (10 + n)) = true ∧ afind t.twn.laneLost n = none ∧ t.twn.downSince = none ∧ t.linkUp = true ∧ t.CauseGone 0x0402 ∧
    (t.fld F_TWN_STATUS_LANES = 3 → t.CauseGone 0x0401) ∧ Frame [.alarms, .rcd, .tim, .twn, .regs, .out] s t) ∧
  (∀ (e : Nat) (s : State), s.Sound → s.twinOn = true → s.linkUp = false → s.twn.downSince = some e → ∃ t, exec .twinLinkDown s = .next t ∧ t.flag F_TWN_EVENT_LINK_DOWN = true ∧
    t.Alarmed 0x0402 ∧ t.peerMet = false ∧ t.inStep = false ∧ (s.inStep = true → t.Alarmed 0x0406 ∧ t.flag F_TWN_EVENT_OOS = true) ∧
    t.twn.requested = false ∧ t.twn.joining = none ∧ t.twn.link = {} ∧ t.twn.downSince = none ∧ e + ms ≤ t.tim.el ∧
    Frame [.dev, .alarms, .rcd, .tim, .elapsed, .working, .twn, .regs, .out] s t) ∧
  (∀ (v f : Nat) (l : List TwinFrame) (s : State), s.Sound → s.twinOn = true → s.linkUp = true →
    l = s.twn.link.held.filter (fun g => g.vc == v && !g.acked v ((f + 65535) % 65536)) →
    ∃ t, exec (.twinRetransmit v f) s = .next t ∧ s.Sends t (l.map (fun g => ⟨.twin, g.kind, s.twn.link.header g ++ g.data⟩)) ∧
    t.twn = { s.twn with link := { s.twn.link with held := s.twn.link.held.filter (fun g => !g.acked v ((f + 65535) % 65536)) } } ∧
    t.fld (word32 A_TWN_CNT_RETX) = Nat.min 4294967295 (s.fld (word32 A_TWN_CNT_RETX) + l.length) ∧ Frame [.twn, .regs, .out] s t ∧
    FieldsBut [word32 A_TWN_CNT_RETX] s t) ∧
  (∀ (v f : Nat) (l : List TwinFrame) (s : State), s.Sound → s.twinOn = true → s.linkUp = true →
    l = s.twn.link.held.filter (fun g => g.vc == v && !g.acked v ((f + 65535) % 65536)) →
    ∃ t, exec (.twinNak v f) s = .next t ∧ s.Sends t (l.map (fun g => ⟨.twin, g.kind, s.twn.link.header g ++ g.data⟩)) ∧
    t.twn = { s.twn with link := { s.twn.link with held := s.twn.link.held.filter (fun g => !g.acked v ((f + 65535) % 65536)) } } ∧
    t.fld (word32 A_TWN_CNT_RETX) = Nat.min 4294967295 (s.fld (word32 A_TWN_CNT_RETX) + l.length) ∧ Frame [.twn, .regs, .out] s t ∧
    FieldsBut [word32 A_TWN_CNT_RETX] s t) ∧
  (∀ (v f : Nat) (s : State), s.twinOn = false ∨ s.linkUp = false → exec (.twinRetransmit v f) s = .next s ∧ exec (.twinNak v f) s = .next s)

/-- R54, R272, R275 to R277, R294. -/
def Obligations.TheTwinsMeetAndStartTogether : Prop :=
  (∀ (n : Nat) (s : State), s.twinOn = true → s.linkUp = true → s.peerMet = false → ∃ t, exec (.helloSend n) s = .next t ∧
    t.twn.ownNonce = n ∧ t.twn.helloAt = some t.tim.el ∧ (∀ e, s.twn.helloAt = some e → t.tim.el = Nat.max s.tim.el (e + 100 * ms)) ∧
    (s.twn.helloAt = none → t.tim = s.tim) ∧ t.ownHello.getLast? = some (n : Int) ∧
    (s.roomFor 2 .hello t.ownHello = true → s.Sends t [t.twinSays 2 (aget 0 s.twn.link.txSeq 2) .hello t.ownHello]) ∧
    Frame [.tim, .elapsed, .working, .twn, .out] s t) ∧
  (∀ (n : Nat) (s : State), s.peerMet = true → exec (.helloSend n) s = .next s) ∧
  (∀ (g : TwinHeader) (h : Hello) (s : State), s.takesFrame 2 g = true → s.twn.link.queue = [] → s.boot.waitingTwin = false → s.twn.answered = true →
    ∃ t, exec (.helloFrame g h) s = .next t ∧ t.twn = { s.twn with peer := some h, peerNow := h.state, link := s.linkAfter 2 g } ∧ Frame [.twn] s t) ∧
  (∀ (g : TwinHeader) (h : Hello) (s : State), s.takesFrame 2 g = true → s.twn.link.queue = [] → s.boot.waitingTwin = false → s.twn.answered = false →
    ∃ t, exec (.helloFrame g h) s = .next t ∧ t.twn.peer = some h ∧ t.twn.answered = true ∧
    (twinUnits 8 ≤ (s.linkAfter 2 g).credit 2 → s.Sends t [t.twinSays 2 (aget 0 s.twn.link.txSeq 2) .auth [(h.nonce : Int), (s.twn.ownNonce : Int)]]) ∧
    Frame [.twn, .out] s t) ∧
  (∀ (g : TwinHeader) (h : Hello) (s : State), s.Sound → s.takesFrame 2 g = true → s.boot.waitingTwin = true → s.peerMet = true →
    s.twn.answered = true → (s.split = true ∨ h.state = 1 ∨ h.state = 2 ∨ h.state = 3) → ∃ t, exec (.helloFrame g h) s = .next t ∧ t.boot.readyForFreeze = true ∧
    t.boot.waitingTwin = false ∧ t.twn.outOfStepFromBoot = true ∧ t.dev.nextFreeze = boundaryAt s.tim.wt (modePeriod s.startMode) ∧
    (s.split = false → h.state = 3 → t.cond 4 = true ∧ t.Alarmed 0x040D) ∧ (s.split = true ∨ h.state ≠ 3 → t.alarms = s.alarms) ∧
    t.twn.ladleEp = s.twn.ladleEp ∧ t.dev.st = s.dev.st ∧ Frame [.boot, .dev, .devMode, .devEpoch, .alarms, .rcd, .twn, .regs, .out] s t) ∧
  (∀ (g : TwinHeader) (q : List Byte) (v : List Signed) (h : Hello) (s : State), s.Sound → s.takesFrame 2 g = true → s.twn.peer = some h →
    v.contains (s.authCheck h q) = true → h.serial = s.peerSerial → h.side = otherSide s.pins.side →
    ∃ t, exec (.authFrame g q v) s = .next t ∧ t.peerMet = true ∧ t.CauseGone 0x0403 ∧ t.twn.peer = some h ∧
    (t.split = true ↔ ¬(h.patternId = (List.range 4).map (nthW s.pat.id) ∧ toWord h.execId = s.reg A_TWN_EXEC)) ∧
    (t.split = true → t.Alarmed 0x0404) ∧ (t.split = false → t.CauseGone 0x0404) ∧ t.reg A_TWN_PEER_EXEC = toWord h.execId ∧
    t.reg A_TWN_PEER_SER0 = toWord h.serial ∧ t.dev.st = s.dev.st ∧
    Frame [.boot, .dev, .alarms, .rcd, .mram, .tim, .twn, .regs, .out, .devMode, .devEpoch, .ladle, .working] s t) ∧
  (∀ (g : TwinHeader) (q : List Byte) (v : List Signed) (h : Hello) (s : State), s.takesFrame 2 g = true → s.twn.link.queue = [] → s.twn.peer = some h →
    v.contains (s.authCheck h q) = false ∨ h.serial ≠ s.peerSerial ∨ h.side ≠ otherSide s.pins.side → ∃ t, exec (.authFrame g q v) s = .next t ∧
    t.Alarmed 0x0403 ∧ AlarmsBut [0x0403] s t ∧ t.twn = { s.twn with link := s.linkAfter 2 g } ∧
    Frame [.alarms, .rcd, .twn, .regs] s t ∧ (s.Sound → FieldsBut recFields s t)) ∧
  (∀ (g : TwinHeader) (f e : Nat) (s : State), s.takesFrame 2 g = true → s.boot.waitingTwin = true → s.peerMet = true → s.split = false →
    s.pins.side = .drag → ∃ t, exec (.startFrame g f e) s = .next t ∧
    t.boot.readyForFreeze = true ∧ t.boot.waitingTwin = false ∧ t.twn.startAt = some (f, e) ∧ t.dev.nextFreeze = f ∧ t.dev.stateEp = e - 1 ∧
    (∀ h, s.twn.peer = some h → t.twn.ladleEp = Nat.max s.twn.ladleEp h.ladleEp ∧ t.mram.ladleEp = Nat.max s.twn.ladleEp h.ladleEp) ∧
    t.dev.st = s.dev.st ∧ Frame [.boot, .dev, .devMode, .devEpoch, .mram, .twn, .ladle, .regs, .out] s t) ∧
  (∀ (g : TwinHeader) (f e : Nat) (s : State), s.takesFrame 2 g = true → s.twn.link.queue = [] → s.pins.side = .cope →
    ∃ t, exec (.startFrame g f e) s = .next t ∧ t.twn = { s.twn with link := s.linkAfter 2 g } ∧ Frame [.twn] s t)

/-- R71, R289, R291 to R295, R311. -/
def Obligations.TheLeaseIsRenewedAnsweredAndLost : Prop :=
  (∀ s : State, s.mayRenew = false → exec .renewSend s = .next s) ∧
  (∀ s : State, s.Sound → s.mayRenew = true → ∃ t, exec .renewSend s = .next t ∧ t.twn.renewSentAt = some t.tim.wt ∧ t.twn.ackTwin = false ∧
    s.tim.wt ≤ t.tim.wt ∧ t.tim.wt % (20 * ms) = 18 * ms ∧ t.tim.wt < s.tim.wt + 20 * ms ∧
    (s.partnerAbsent = true → t.saf.leaseFrom = some t.tim.el ∧ t.flag F_SAF_STATUS_LEASE = true) ∧
    (s.partnerAbsent = false → t.saf.leaseFrom = s.saf.leaseFrom) ∧
    (s.paired = true → s.peerMet = true →
      s.roomFor 3 .renew [(s.twn.ladleEp : Int), (sideCode s.pins.side : Int), (t.tim.wt : Int)] = true →
      t.twinSays 3 (aget 0 s.twn.link.txSeq 3) .renew [(s.twn.ladleEp : Int), (sideCode s.pins.side : Int), (t.tim.wt : Int)] ∈ t.out) ∧
    (s.paired = false → t.out = s.out) ∧
    Frame [.alarms, .rcd, .tim, .elapsed, .working, .twn, .saf, .lease, .net, .regs, .out] s t) ∧
  (∀ (p : Path) (e n a : Nat) (s : State), s.Sound → s.hearsOn p = true → s.twinOn = true → s.holds = false → s.twn.ladleEp ≤ e → ∃ t,
    exec (.renew p e (otherSide s.pins.side) n a) s = .next t ∧ t.twn.ladleEp = e ∧ t.twn.renewRxAt = some t.tim.el ∧
    t.twn.holder = some (otherSide s.pins.side) ∧ t.twn.takeOver = false ∧ t.tim.wt = Nat.max s.tim.wt a ∧ t.dev = s.dev ∧
    (s.twn.ladleEp < e → t.mram.ladleEp = e) ∧
    (∀ h, p = .twin h → twinUnits (twinPayload .ack [(n : Int)]) ≤ (s.linkAfter 3 h).credit 3 →
      s.Sends t [t.twinSays 3 (aget 0 s.twn.link.txSeq 3) .ack [(n : Int)]]) ∧
    Frame [.alarms, .rcd, .mram, .tim, .elapsed, .working, .twn, .ladle, .saf, .net, .regs, .out] s t) ∧
  (∀ (p : Path) (e n a : Nat) (s : State), s.Sound → s.hearsOn p = true → s.twinOn = true → s.holds = true → s.twn.ladleEp < e → ∃ t,
    exec (.renew p e (otherSide s.pins.side) n a) s = .next t ∧ t.dev.st = .armed ∧ t.twn.ladleEp = e ∧ t.mram.ladleEp = e ∧ t.saf.leaseFrom = none ∧
    t.fld F_SAF_STATUS_GATE = gateClosed ∧ t.twn.holder = some (otherSide s.pins.side)) ∧
  (∀ (p : Path) (e n a : Nat) (d : Side) (s : State), s.hearsOn p = true → e < s.twn.ladleEp ∨ d = s.pins.side → ∃ t, exec (.renew p e d n a) s = .next t ∧
    t.twn = { s.twn with link := s.linkVia p } ∧ Frame [.tim, .elapsed, .working, .twn] s t) ∧
  (∀ (p : Path) (a b : Nat) (s : State), s.Sound → s.hearsOn p = true → s.twn.renewSentAt = some b → s.mayRenew = true → a ≤ b + 2 * ms → ∃ t,
    exec (.ack p a) s = .next t ∧
    t.saf = { s.saf with leaseFrom := some t.tim.el } ∧ t.flag F_SAF_STATUS_LEASE = true ∧ t.twn.ackTwin = (s.twn.ackTwin || !onLan p) ∧
    t.twn.ackLan = (s.twn.ackLan || onLan p) ∧ Frame [.tim, .elapsed, .working, .twn, .saf, .lease, .regs] s t ∧ FieldsBut [F_SAF_STATUS_LEASE] s t) ∧
  (∀ (p : Path) (a b : Nat) (s : State), s.hearsOn p = true → s.twn.renewSentAt = some b → b + 2 * ms < a → ∃ t, exec (.ack p a) s = .next t ∧
    t.twn = { s.twn with link := s.linkVia p } ∧ Frame [.tim, .elapsed, .working, .twn] s t) ∧
  (∀ (e : Nat) (s : State), s.Sound → s.saf.leaseFrom = some e → ∃ t, exec .leaseExpiry s = .next t ∧ t.saf.leaseFrom = none ∧
    t.fld F_SAF_STATUS_GATE = gateClosed ∧ t.tim.el = Nat.max s.tim.el (e + 60 * ms) ∧ (s.holds = true → t.dev.st = .armed ∧ t.twn.holder = none) ∧
    (s.holds = false → t.dev = s.dev)) ∧
  (∀ (e : Nat) (s : State), s.twn.renewRxAt = some e → s.twinOn = true → s.holds = false → ∃ t, exec .silentLossTimeout s = .next t ∧
    t.twn = { s.twn with takeOver := true } ∧ t.tim.el = Nat.max s.tim.el (e + 70 * ms) ∧ Frame [.tim, .elapsed, .working, .twn] s t) ∧
  (∀ (g : TwinHeader) (e : Nat) (s : State), s.Sound → s.takesFrame 3 g = true → s.dev.st = .armed → s.inSafe = false → s.twn.ladleEp < e → ∃ t,
    exec (.releaseFrame g e) s = .next t ∧
    t.dev.st = .active ∧ t.twn.ladleEp = e ∧ t.mram.ladleEp = e ∧ t.twn.holder = some s.pins.side ∧ t.saf.leaseFrom = some s.tim.el) ∧
  (∀ (g : TwinHeader) (e : Nat) (s : State), s.takesFrame 3 g = true → s.twn.link.queue = [] → e ≤ s.twn.ladleEp ∨ s.holds = true → ∃ t,
    exec (.releaseFrame g e) s = .next t ∧ t.twn = { s.twn with link := s.linkAfter 3 g } ∧ Frame [.twn] s t) ∧
  (∀ (g : TwinHeader) (e : Nat) (s : State), s.takesFrame 3 g = true → s.twn.link.queue = [] → s.holds = false → s.twn.ladleEp < e →
    (s.dev.st ≠ .armed ∨ s.inSafe = true) → ∃ t, exec (.releaseFrame g e) s = .next t ∧
    t.twn = { s.twn with link := s.linkAfter 3 g, ladleEp := e, holder := none } ∧ t.mram.ladleEp = e ∧ Frame [.mram, .twn, .ladle] s t)

/-- R286, R300, R301. -/
def Obligations.ACopyBringsADeviceIntoStep : Prop :=
  (∀ (g : TwinHeader) (s : State), s.Sound → s.takesFrame 2 g = true → s.twn.link.queue = [] → s.peerMet = true → s.split = false → s.fullCycle = true → ∃ t,
    exec (.syncReqFrame g) s = .next t ∧
    t.twn = { s.twn with link := s.linkAfter 2 g, partnerWantsCopy := true, joining := none } ∧ t.inStep = false ∧ Frame [.dev, .twn, .regs] s t) ∧
  (∀ (g : TwinHeader) (s : State), s.takesFrame 2 g = true → s.twn.link.queue = [] → s.fullCycle = false → ∃ t, exec (.syncReqFrame g) s = .next t ∧
    t.twn = { s.twn with link := s.linkAfter 2 g } ∧ Frame [.twn] s t) ∧
  (∀ (g : TwinHeader) (c : TwinChunk) (s : State), s.takesFrame 0 g = true → s.twn.link.queue = [] → s.twn.requested = false ∨ s.inStep = true → ∃ t,
    exec (.stateFrame g c) s = .next t ∧ t.twn = { s.twn with link := s.linkAfter 0 g } ∧ Frame [.twn] s t) ∧
  (∀ (g : TwinHeader) (e l : Nat) (s : State), s.Copies g → ∃ t, exec (.stateFrame g (.epochs e l)) s = .next t ∧ t.dev.stateEp = e ∧
    t.twn.ladleEp = l ∧ t.mram.ladleEp = l ∧ Frame [.dev, .devEpoch, .mram, .agr, .twn, .ladle] s t) ∧
  (∀ (g : TwinHeader) (m : Nat) (new own : Option Nat) (sp joy : List Int) (tr fo : Option (List Int)) (b : Bool) (s : State), s.Copies g →
    ∃ t, exec (.stateFrame g (.mode m new own sp joy tr fo b)) s = .next t ∧ t.dev.mode = m ∧ t.dev.setPoint = sp ∧ t.dev.joystick = joy ∧ t.dev.track = tr ∧
    t.dev.follow = fo ∧ t.dev.joyLost = b ∧ t.dev.newMode = new ∧ t.dev.ownNew = own ∧ t.dev.period = modePeriod m ∧
    t.dev.nextFreeze = boundaryAt s.tim.wt (modePeriod m) ∧ t.dev.st = s.dev.st ∧ Frame [.dev, .devMode, .devAim, .twn] s t) ∧
  (∀ (g : TwinHeader) (src : Nat) (seqs : List (Nat × Nat)) (r : List (Nat × List Word)) (k : List Nat) (av : List (Nat × Bool)) (s : State), s.Copies g →
    ∃ t, exec (.stateFrame g (.command src seqs r k av)) s = .next t ∧ t.dev = { s.dev with command := src } ∧
    t.ord = { s.ord with lastSeq := seqs, last := r, pairAcked := k, availNext := av } ∧ Frame [.dev, .ord, .twn] s t) ∧
  (∀ (g : TwinHeader) (v n : List (Nat × Word)) (s : State), s.Copies g → ∃ t, exec (.stateFrame g (.tunables v n)) s = .next t ∧
    t.pat = { s.pat with tuned := v } ∧ t.ord = { s.ord with tuneNext := n } ∧ Frame [.pat, .ord, .twn] s t) ∧
  (∀ (g : TwinHeader) (b : Nat) (c : Ctl) (s : State), s.Copies g → ∃ t, exec (.stateFrame g (.control b c)) s = .next t ∧
    t.ctl.capture = s.ctl.capture ∧ t.ctl.samples = s.ctl.samples ∧ t.ctl.integ = c.integ ∧ t.ctl.ref = c.ref ∧ t.ctl.plan = c.plan ∧ Frame [.ctl, .twn] s t) ∧
  (∀ (g : TwinHeader) (b : Nat) (f : Fus) (a : Alc) (s : State), s.Copies g →
    (∃ t, exec (.stateFrame g (.fusion b f)) s = .next t ∧ t.fus = f.shift s.freezeEl b ∧ Frame [.fus, .twn] s t) ∧
    (∃ t, exec (.stateFrame g (.allocation b a)) s = .next t ∧ t.alc = a.shift s.freezeEl b ∧ Frame [.alc, .twn] s t)) ∧
  (∀ (g : TwinHeader) (k : Nat) (l : List (Nat × Word)) (m : Mould) (s : State), s.Copies g → s.mould? k = some m →
    ∃ t, exec (.stateFrame g (.mould k l)) s = .next t ∧
    t.mould? k = some { m with live := l.foldl (fun (a : Sparse 32) e => memSet zeroCell a e.1 e.2) m.live } ∧
    (∀ j, j ≠ k → t.mould? j = s.mould? j) ∧ Frame [.slv, .twn] s t) ∧
  (∀ (g : TwinHeader) (r : List Word) (s : State), s.Copies g → ∃ t, exec (.stateFrame g (.warm r)) s = .next t ∧ t = { s.xchgWrite warmOfs r with twn := t.twn } ∧
    Frame [.xchg, .twn] s t) ∧
  (∀ (g : TwinHeader) (e : Nat) (s : State), s.Copies g → ∃ t, exec (.syncEndFrame g e true) s = .next t ∧
    t.twn = { s.twn with link := s.linkAfter 0 g, joining := some (e + 1), copyDueBy := none } ∧ Frame [.twn] s t) ∧
  (∀ (g : TwinHeader) (e : Nat) (s : State), s.Sound → s.Copies g → ∃ t, exec (.syncEndFrame g e false) s = .next t ∧ t.twn.copyDueBy = none ∧
    t.flag F_TWN_EVENT_SYNC_FAIL = true ∧ t.Alarmed 0x040B ∧ AlarmsBut [0x040B] s t ∧
    (twinUnits (twinPayload .syncReq []) ≤ (s.linkAfter 0 g).credit 2 → s.Sends t [t.twinSays 2 (aget 0 s.twn.link.txSeq 2) .syncReq []]) ∧
    Frame [.alarms, .rcd, .twn, .regs, .out] s t) ∧
  (∀ (e : Nat) (s : State), s.Sound → s.twn.copyDueBy = some e → ∃ t, exec .syncEndTimeout s = .next t ∧ t.twn.copyDueBy = none ∧
    t.tim.el = Nat.max s.tim.el e ∧ t.flag F_TWN_EVENT_SYNC_FAIL = true ∧ t.Alarmed 0x040B ∧ AlarmsBut [0x040B] s t ∧
    (s.roomFor 2 .syncReq [] = true → s.Sends t [t.twinSays 2 (aget 0 s.twn.link.txSeq 2) .syncReq []]) ∧
    Frame [.alarms, .rcd, .tim, .elapsed, .working, .twn, .regs, .out] s t)

/-- R340, R342, R344 to R346, R348, R375, R376. -/
def Obligations.TimeSourcesAreMeasuredQualifiedAndLost : Prop :=
  (∀ s : State, s.Sound → ∃ t, exec .tsuExtUpdate s = .next t ∧ t.fld F_TSU_EXT_WRAP = s.tim.wt / 4294967296 % 2147483648 ∧
    t.fld F_TSU_EXT_HALF = s.tim.wt / 2147483648 % 2 ∧ Frame [.regs] s t ∧ FieldsBut [word32 A_TSU_EXT] s t) ∧
  (∀ (d p q : Nat) (i o a b : Int) (s : State), s.Sound → d ≤ 1 → d < s.tim.sources.length → s.ptpAccepts d p = true →
    a = i - s.par 0x0B88 (2 * p) → s.pathDelay d p o a = some b → s.keepsExchange d b = true →
    ∃ t, exec (.ptpSyncArrives d p false q i o) s = .next t ∧
    t.srcOfs (d + 1) = clampI (-2147483647) 2147483647 (o + b + s.asymmetry d p - a) ∧ (t.src (d + 1)).valid = true ∧ (t.src (d + 1)).lastSeen = s.tim.el ∧
    (t.src (d + 1)).validSince = (if (s.src (d + 1)).valid then (s.src (d + 1)).validSince else s.tim.el) ∧ t.tim.wt = s.tim.wt ∧
    t.reg (A_TSU_PTP_DELAY d) = intWord b ∧ (aget [] t.tim.ptp.delays d).getLast? = some b ∧
    ((aget [] s.tim.ptp.delays d).length ≤ 16 → (aget [] t.tim.ptp.delays d).length ≤ 16) ∧ Frame [.alarms, .rcd, .tim, .regs] s t) ∧
  (∀ (d p q : Nat) (i o : Int) (s : State), s.ptpAccepts d p = true → ∃ t, exec (.ptpSyncArrives d p true q i o) s = .next t ∧
    (d, q, i - s.par 0x0B88 (2 * p)) ∈ t.tim.ptp.syncs ∧ (∀ e ∈ t.tim.ptp.syncs, e.1 = d → e = (d, q, i - s.par 0x0B88 (2 * p))) ∧
    t.tim.sources = s.tim.sources ∧ t.tim.wt = s.tim.wt ∧ Frame [.tim] s t) ∧
  (∀ (d p q : Nat) (b : Bool) (i o : Int) (s : State), s.ptpAccepts d p = false → exec (.ptpSyncArrives d p b q i o) s = .next s) ∧
  (∀ (d p q : Nat) (i o a b : Int) (s : State), s.ptpAccepts d p = true → a = i - s.par 0x0B88 (2 * p) → s.pathDelay d p o a = some b →
    s.keepsExchange d b = false → ∃ t, exec (.ptpSyncArrives d p false q i o) s = .next t ∧ t.tim.sources = s.tim.sources ∧ t.tim.wt = s.tim.wt ∧
    t.tim.ptp = { s.tim.ptp with delays := t.tim.ptp.delays } ∧ Frame [.tim] s t) ∧
  (∀ (d p q : Nat) (o b : Int) (e : Nat × Nat × Int) (s : State), s.Sound → d ≤ 1 → d < s.tim.sources.length → s.ptpAccepts d p = true →
    s.tim.ptp.syncs.find? (fun e => e.1 = d && e.2.1 = q) = some e → s.pathDelay d p o e.2.2 = some b → s.keepsExchange d b = true →
    ∃ t, exec (.ptpFollowUp d p q o) s = .next t ∧
    t.srcOfs (d + 1) = clampI (-2147483647) 2147483647 (o + b + s.asymmetry d p - e.2.2) ∧ (t.src (d + 1)).valid = true ∧ (t.src (d + 1)).lastSeen = s.tim.el ∧
    (∀ x ∈ t.tim.ptp.syncs, x.1 ≠ d) ∧ Frame [.alarms, .rcd, .tim, .regs] s t) ∧
  (∀ (d p : Nat) (y i q : Int) (s : State), afind s.tim.ptp.request (4 * d + p) = some q → s.peerToPeer d = false → s.ptpAccepts d p = true → ∃ t,
    exec (.ptpDelayRespArrives d p y i) s = .next t ∧ afind t.tim.ptp.back (4 * d + p) = some (y - q) ∧
    t.tim.ptp = { s.tim.ptp with back := t.tim.ptp.back, request := t.tim.ptp.request } ∧ t.tim.wt = s.tim.wt ∧ Frame [.tim] s t) ∧
  (∀ (d p : Nat) (y i q : Int) (s : State), afind s.tim.ptp.request (4 * d + p) = some q → s.peerToPeer d = true → ∃ t,
    exec (.ptpDelayRespArrives d p y i) s = .next t ∧ afind t.tim.ptp.back (4 * d + p) = some ((i - s.par 0x0B88 (2 * p) - q - y) / 2) ∧
    t.tim.ptp = { s.tim.ptp with back := t.tim.ptp.back, request := t.tim.ptp.request } ∧ t.tim.wt = s.tim.wt ∧ Frame [.tim] s t) ∧
  (∀ (d p : Nat) (y i : Int) (s : State), afind s.tim.ptp.request (4 * d + p) = none → exec (.ptpDelayRespArrives d p y i) s = .next s) ∧
  (∀ (m : Announce) (s : State), s.par 0x0B81 m.domain = 0xFFFF ∨ tbit (bits (s.ptpW m.domain 0) 6 4) m.port = false →
    exec (.ptpAnnounce m) s = .next s) ∧
  (∀ (m a : Announce) (s : State), s.par 0x0B81 m.domain ≠ 0xFFFF → tbit (bits (s.ptpW m.domain 0) 6 4) m.port = true →
    (s.setPtp (fun p => p.hear s.tim.el m)).slaveOf m.domain = some a → a.ptpTimescale = true → ∃ t, exec (.ptpAnnounce m) s = .next t ∧
    afind t.tim.ptp.slave m.domain = some a.port ∧ m.domain ∉ t.tim.ptp.arb ∧ afind t.tim.ptp.parent m.domain = some a ∧
    afind t.tim.utcOf (m.domain + 1) = some (BitVec.ofNat 32 (a.utcOffset % 65536 + 65536 + 131072 * bit a.leap61 + 262144 * bit a.leap59)) ∧
    Frame [.tim, .regs] s t ∧ (s.Sound → FieldsBut [word32 A_TSU_UTC] s t)) ∧
  (∀ (m a : Announce) (s : State), m.domain ≤ 1 → m.domain < s.tim.sources.length → s.par 0x0B81 m.domain ≠ 0xFFFF →
    tbit (bits (s.ptpW m.domain 0) 6 4) m.port = true → (s.setPtp (fun p => p.hear s.tim.el m)).slaveOf m.domain = some a →
    a.ptpTimescale = false → (s.src (m.domain + 1)).valid = true → ∃ t, exec (.ptpAnnounce m) s = .next t ∧ afind t.tim.ptp.slave m.domain = some a.port ∧
    m.domain ∈ t.tim.ptp.arb ∧ (t.src (m.domain + 1)).valid = false ∧ t.Alarmed 0x0201 ∧ Frame [.alarms, .rcd, .tim, .regs] s t) ∧
  (∀ (m : Announce) (s : State), s.par 0x0B81 m.domain ≠ 0xFFFF → tbit (bits (s.ptpW m.domain 0) 6 4) m.port = true →
    (s.setPtp (fun p => p.hear s.tim.el m)).slaveOf m.domain = none → ∃ t, exec (.ptpAnnounce m) s = .next t ∧ afind t.tim.ptp.slave m.domain = none ∧
    t.tim.sources = s.tim.sources ∧ t.tim.wt = s.tim.wt ∧ Frame [.tim] s t) ∧
  (∀ (d p k : Nat) (s : State), s.ptpMay d p k = true → s.net.batching = false → ∃ t, exec (.ptpMessageSend d p k) s = .next t ∧
    afind t.tim.ptp.sentAt (16 * d + 4 * p + k) = some t.tim.el ∧
    (∀ e, afind s.tim.ptp.sentAt (16 * d + 4 * p + k) = some e → t.tim.el = Nat.max s.tim.el (e + s.ptpInterval d k)) ∧
    (s.ethOn p = true → k = 0 → s.Sends t [s.ethSays p .ptp ([d, 0, bits (s.ptpW d 0) 2 2, (t.tim.wt : Int) + s.par 0x0B88 (2 * p + 1)])]) ∧
    (s.ethOn p = true → k = 1 → afind s.tim.ptp.parent d = none → s.Sends t [s.ethSays p .ptp ([(d : Int), 1] ++ clockData (s.ownClock d) 0 ++
      [if s.selected = 3 && s.flag F_TSU_STATUS_LOCKED then 0x20 else 0xA0])]) ∧
    (∀ m, s.ethOn p = true → k = 1 → afind s.tim.ptp.parent d = some m →
      s.Sends t [s.ethSays p .ptp ([(d : Int), 1] ++ clockData m.gm (m.steps + 1))]) ∧
    (k = 2 → afind t.tim.ptp.request (4 * d + p) = some ((t.tim.wt : Int) + s.par 0x0B88 (2 * p + 1))) ∧
    (s.ethOn p = false → t.out = s.out) ∧ Frame [.tim, .elapsed, .working, .regs, .out] s t) ∧
  (∀ (d p k : Nat) (s : State), s.ptpMay d p k = false → exec (.ptpMessageSend d p k) s = .next s) ∧
  (∀ (n : Nat) (s : State), s.Sound → 1 ≤ n → n ≤ 4 → s.tim.sources.length = 4 → (s.src n).valid = true → ∃ t, exec (.timeSourceLost n) s = .next t ∧
    (t.src n).valid = false ∧ t.qualified n = false ∧ t.Alarmed 0x0201 ∧ t.tim.el = Nat.max s.tim.el ((s.src n).lastSeen + s.lossTime n) ∧
    Frame [.alarms, .rcd, .tim, .elapsed, .working, .regs] s t) ∧
  (∀ (n : Nat) (s : State), s.Sound → 1 ≤ n → n ≤ 4 → (s.src n).valid = true → ∃ t, exec (.sourceQualified n) s = .next t ∧ t.qualified n = true ∧
    (s.src n).validSince + s.par 0x0B83 * sec ≤ t.tim.el ∧ t.tim.sources = s.tim.sources ∧
    Frame [.alarms, .rcd, .tim, .elapsed, .working, .regs] s t) ∧
  (∀ (n : Nat) (s : State), (s.src n).valid = false → exec (.timeSourceLost n) s = .next s ∧ exec (.sourceQualified n) s = .next s)

/-- R340, R352 to R354, R356, R357, R359, R360. -/
def Obligations.WorkingTimeStepsOnlyAsAnnounced : Prop :=
  (∀ (e : Nat) (s : State), s.Sound → s.tim.bigSince = some e → s.selected ≠ 0 → s.tim.stepAt = none → ∃ t, exec .stepDecision s = .next t ∧
    t.tim.stepAt = some ((t.tim.wt + 500 * ms + (sec - 1)) / sec * sec, none) ∧
    t.tim.el = Nat.max s.tim.el (e + sec) ∧ t.flag F_TSU_STATUS_STEP_PEND = true ∧ Frame [.tim, .elapsed, .working, .regs] s t ∧
    FieldsBut [F_TSU_STATUS_STEP_PEND] s t) ∧
  (∀ s : State, s.tim.stepAt.isSome = true → ∃ t, exec .stepDecision s = .next t ∧ t.tim.stepAt = s.tim.stepAt ∧ Frame [.tim, .elapsed, .working] s t) ∧
  (∀ (a : Nat) (x : Option Int) (d : Int) (s : State), s.Sound → s.tim.stepAt = some (a, x) → s.tim.wt ≤ a → x.getD (evenStep (s.srcOfs s.selected)) = d →
    ∃ t, exec .timeStep s = .next t ∧ t.tim.wt = ((a : Int) + d).toNat ∧ t.tim.el = s.tim.el + (a - s.tim.wt) ∧ t.tim.stepAt = none ∧
    t.tim.noPulseUntil = a + sec ∧ t.tim.bigSince = none ∧ t.tim.stepJump = (if s.dev.cycling then some (a, d) else none) ∧
    t.dev.nextFreeze = (if s.dev.nextFreeze = a then ((a : Int) + d).toNat else s.dev.nextFreeze) ∧
    t.flag F_TSU_STATUS_SET = true ∧ t.flag F_TSU_STATUS_STEP_PEND = false ∧ t.reg A_TSU_STEP_LO = intWord d ∧
    t.fld (word32 A_TSU_STEP_CNT) = Nat.min 4294967295 (s.fld (word32 A_TSU_STEP_CNT) + 1) ∧ t.flag F_TSU_EVENT_STEP = true ∧ t.Alarmed 0x0204 ∧
    AlarmsBut [0x0204] s t ∧ t.rcd.anchorDue = true ∧ Frame [.dev, .alarms, .rcd, .tim, .elapsed, .working, .regs] s t) ∧
  (∀ s : State, s.tim.stepAt = none → exec .timeStep s = .next s) ∧
  (∀ (k : Nat) (s : State), s.Sound → s.flag F_TSU_STATUS_HOLDOVER = true → k = (s.tim.el - s.tim.holdSince + (sec - 1)) / sec → ∃ t,
    exec .holdErrPublish s = .next t ∧ t.fld (word32 A_TSU_HOLD_ERR) = s.holdErr k ∧ t.fld (word32 A_TSU_HOLD_S) = k % 4294967296 ∧
    t.tim.el = Nat.max s.tim.el (s.tim.holdSince + k * sec) ∧ Frame [.tim, .elapsed, .working, .regs] s t ∧
    FieldsBut [word32 A_TSU_HOLD_ERR, word32 A_TSU_HOLD_S] s t) ∧
  (∀ s : State, s.flag F_TSU_STATUS_HOLDOVER = false → exec .holdErrPublish s = .next s) ∧
  (∀ (l : Nat) (s : State), s.linkUp = true → s.tim.stepAt = none → l = (if s.flag (bitAt A_TWN_STATUS 10) then 0 else 1) → ∃ t,
    exec .timeMarkerSend s = .next t ∧ t.tim.wt % ms = 0 ∧ s.tim.wt ≤ t.tim.wt ∧
    t.tim.wt < s.tim.wt + ms ∧ s.Sends t [⟨.twin, .marker, [(l : Int), t.tim.wt, s.tim.rxMarker, 0, 0]⟩] ∧ Frame [.tim, .elapsed, .working, .out] s t) ∧
  (∀ (a l : Nat) (s : State), s.linkUp = true → s.isLead = true → s.tim.stepAt = some (a, none) → l = (if s.flag (bitAt A_TWN_STATUS 10) then 0 else 1) →
    ∃ t, exec .timeMarkerSend s = .next t ∧
    s.Sends t [⟨.twin, .marker, [(l : Int), t.tim.wt, s.tim.rxMarker, evenStep (s.srcOfs s.selected), (a / sec % 4294967296 : Nat)]⟩] ∧
    Frame [.tim, .elapsed, .working, .out] s t) ∧
  (∀ s : State, s.linkUp = false → ∃ t, exec .timeMarkerSend s = .next t ∧ t.out = s.out ∧ Frame [.tim, .elapsed, .working] s t) ∧
  (∀ (m : Marker) (s : State), m.crcOk = false → exec (.timeMarker m) s = .next s) ∧
  (∀ (m : Marker) (s : State), s.Sound → m.crcOk = true → s.boot.waitingTwin = false → ∃ t, exec (.timeMarker m) s = .next t ∧
    t.tim.twinOffset = markerOffset m ∧ t.tim.rxMarker = m.arrival ∧ t.flag F_TSU_STATUS_TWIN_OK = decide ((markerOffset m).natAbs ≤ 1000) ∧
    (1000 < (markerOffset m).natAbs → t.tim.twinBigSince.isSome = true) ∧ ((markerOffset m).natAbs ≤ 1000 → t.tim.twinBigSince = none ∧ t.CauseGone 0x0208) ∧
    (m.step ≠ 0 → s.isLead = false → t.tim.stepAt = some (markerSecond s.tim.wt m.stepSec, some m.step) ∧ t.flag F_TSU_STATUS_STEP_PEND = true) ∧
    (s.peerMet = true → s.linkUp = true → s.tim.sources.length = 4 → (t.src 4).valid = true ∧ (t.src 4).lastSeen = s.tim.el) ∧ t.tim.wt = s.tim.wt ∧
    Frame [.alarms, .rcd, .tim, .regs] s t) ∧
  (∀ (e : Nat) (s : State), s.tim.twinBigSince = some e → s.selected = 4 → ∃ t, exec .twinOffsetAlarm s = .next t ∧ t.Alarmed 0x0208 ∧
    t.tim.el = Nat.max s.tim.el (e + sec) ∧ AlarmsBut [0x0208] s t ∧ Frame [.alarms, .rcd, .tim, .elapsed, .working, .regs] s t ∧
    (s.Sound → FieldsBut recFields s t))

/-- R360 to R364. -/
def Obligations.CompareCaptureAndPulseUnitsFollowTheCounter : Prop :=
  (∀ (k : Nat) (s : State), s.Sound → k ≤ 15 → s.flag (F_TSU_CMP_CFG_EN k) = true → s.flag (F_TSU_CMP_CFG_MODE k) = false → k ∈ s.tim.armed →
    ∃ t, exec (.compareFire k) s = .next t ∧ t.tim.wt = s.tim.wt + ((s.reg (A_TSU_CMP_TIME k)).toNat + 4294967296 - tsuNs s.tim.wt) % 4294967296 ∧
    t.tim.armed = remove s.tim.armed k ∧ t.flag (F_TSU_CMP_CFG_FIRED k) = true ∧ t.reg (A_TSU_CMP_LAST k) = toWord (tsuNs t.tim.wt) ∧
    Frame [.intc, .tim, .elapsed, .working, .regs] s t) ∧
  (∀ (k : Nat) (s : State), s.Sound → k ≤ 15 → s.flag (F_TSU_CMP_CFG_EN k) = true → s.flag (F_TSU_CMP_CFG_MODE k) = true →
    0 < (s.reg (A_TSU_CMP_PERIOD k)).toNat → ∃ t, exec (.compareFire k) s = .next t ∧ s.tim.wt ≤ t.tim.wt ∧
    t.tim.wt % (s.reg (A_TSU_CMP_PERIOD k)).toNat = (s.reg (A_TSU_CMP_TIME k)).toNat % (s.reg (A_TSU_CMP_PERIOD k)).toNat ∧
    t.tim.wt < s.tim.wt + (s.reg (A_TSU_CMP_PERIOD k)).toNat ∧ t.flag (F_TSU_CMP_CFG_FIRED k) = true ∧
    t.reg (A_TSU_CMP_LAST k) = toWord (tsuNs t.tim.wt) ∧ Frame [.intc, .tim, .elapsed, .working, .regs] s t) ∧
  (∀ (k : Nat) (s : State), 15 < k ∨ s.flag (F_TSU_CMP_CFG_EN k) = false ∨ (s.flag (F_TSU_CMP_CFG_MODE k) = false ∧ k ∉ s.tim.armed) →
    exec (.compareFire k) s = .next s) ∧
  (∀ (m k : Nat) (v : Word) (s : State), s.Sound → 10 ≤ k → k ≤ 15 → s.MayAccess m (A_TSU_CMP_CFG k) true → v.getLsbD 0 = true → v.getLsbD 1 = false →
    ((s.reg (A_TSU_CMP_TIME k)).toNat + 4294967296 - tsuNs s.tim.wt) % 4294967296 < 2147483648 → ∃ t, exec (.compareEnable m k v) s = .next t ∧
    t.flag (F_TSU_CMP_CFG_EN k) = true ∧ t.tim = { s.tim with armed := insertNew s.tim.armed k } ∧
    s.Sends t [⟨.access m, .write, [A_TSU_CMP_CFG k, 0, v.toNat]⟩] ∧ Frame [.intc, .tim, .regs, .out] s t) ∧
  (∀ (m k : Nat) (v : Word) (s : State), s.Sound → 10 ≤ k → k ≤ 15 → s.MayAccess m (A_TSU_CMP_CFG k) true → v.getLsbD 0 = true → v.getLsbD 1 = false →
    2147483648 ≤ ((s.reg (A_TSU_CMP_TIME k)).toNat + 4294967296 - tsuNs s.tim.wt) % 4294967296 → ∃ t, exec (.compareEnable m k v) s = .next t ∧
    t.flag (F_TSU_CMP_CFG_LATE k) = true ∧ t.flag (F_TSU_CMP_CFG_FIRED k) = true ∧ t.flag F_TSU_EVENT_CMP_LATE = true ∧
    t.reg (A_TSU_CMP_LAST k) = toWord (tsuNs s.tim.wt) ∧ k ∉ t.tim.armed ∧ Frame [.intc, .tim, .regs, .out] s t) ∧
  (∀ (m k : Nat) (v : Word) (s : State), s.Sound → 10 ≤ k → k ≤ 15 → s.MayAccess m (A_TSU_CMP_CFG k) true → v.getLsbD 0 = false →
    ∃ t, exec (.compareEnable m k v) s = .next t ∧ t.flag (F_TSU_CMP_CFG_EN k) = false ∧ t.tim = { s.tim with armed := remove s.tim.armed k } ∧
    s.Sends t [⟨.access m, .write, [A_TSU_CMP_CFG k, 0, v.toNat]⟩] ∧ Frame [.intc, .tim, .regs, .out] s t) ∧
  (∀ (k n e : Nat) (b : Bool) (s : State), afind s.tim.capEdgeAt k = some e → n < e + 20 → exec (.captureEdge k b n) s = .next s) ∧
  (∀ (k n : Nat) (b : Bool) (s : State), (∀ e, afind s.tim.capEdgeAt k = some e → e + 20 ≤ n) → edgeSelected (s.fld (F_TSU_CAP_CFG_EDGE k)) b = true →
    (s.cap k).length < 4 → ∃ t, exec (.captureEdge k b n) s = .next t ∧ t.cap k = s.cap k ++ [(n, b)] ∧ (∀ j, j ≠ k → t.cap j = s.cap j) ∧
    afind t.tim.capEdgeAt k = some n ∧ t.tim.wt = s.tim.wt ∧ Frame [.tim] s t) ∧
  (∀ (k n : Nat) (b : Bool) (s : State), s.Sound → k ≤ 7 → (∀ e, afind s.tim.capEdgeAt k = some e → e + 20 ≤ n) →
    edgeSelected (s.fld (F_TSU_CAP_CFG_EDGE k)) b = true → 4 ≤ (s.cap k).length → ∃ t, exec (.captureEdge k b n) s = .next t ∧ t.cap k = s.cap k ∧
    t.flag (F_TSU_CAP_CFG_OVF k) = true ∧ t.flag F_TSU_EVENT_CAP_OVF = true ∧ (afind s.tim.capAlarmAt k = none → t.Alarmed 0x0209) ∧
    (∀ e, afind s.tim.capAlarmAt k = some e → s.tim.el < e + 60 * sec → t.alarms = s.alarms) ∧ Frame [.alarms, .rcd, .tim, .regs] s t) ∧
  (∀ (m k n : Nat) (b : Bool) (q : List (Nat × Bool)) (s : State), s.Sound → k ≤ 7 → s.MayAccess m (A_TSU_CAP_NS k) false → s.cap k = (n, b) :: q →
    ∃ t, exec (.captureRead m k) s = .next t ∧ t.cap k = q ∧ t.flag (F_TSU_CAP_CFG_OLD k) = false ∧
    s.Sends t [⟨.access m, .read, [A_TSU_CAP_NS k, 0, (toWord (tsuNs n)).toNat]⟩] ∧ Frame [.tim, .regs, .out] s t ∧
    FieldsBut [F_TSU_CAP_CFG_OLD k] s t) ∧
  (∀ (m k : Nat) (s : State), s.MayAccess m (A_TSU_CAP_NS k) false → s.cap k = [] → ∃ t, exec (.captureRead m k) s = .next t ∧
    s.Sends t [⟨.access m, .read, [A_TSU_CAP_NS k, 0, 0]⟩] ∧ Frame [.out] s t) ∧
  (∀ (k n : Nat) (b : Bool) (q : List (Nat × Bool)) (s : State), s.Sound → s.cap k = (n, b) :: q → ∃ t, exec (.captureOld k) s = .next t ∧
    t.flag (F_TSU_CAP_CFG_OLD k) = true ∧ t.tim.wt = Nat.max s.tim.wt (n + 2147483648) ∧ t.tim.caps = s.tim.caps ∧
    Frame [.tim, .elapsed, .working, .regs] s t ∧ FieldsBut [F_TSU_CAP_CFG_OLD k] s t) ∧
  (∀ (k : Nat) (s : State), s.tpPeriod k ≠ 0 → s.pat.loaded = true → (bits (s.parW 0x0B8D (2 * k)) 4 4 = 1 → s.flag F_TSU_STATUS_SET = true) →
    s.tim.noPulseUntil ≤ s.tim.wt → ∃ t, exec (.timePulse k) s = .next t ∧ t.tim.wt % s.tpPeriod k = 0 ∧ s.tim.wt ≤ t.tim.wt ∧
    t.tim.wt < s.tim.wt + s.tpPeriod k ∧ afind t.tim.tp k = some (t.tim.el + s.tpWidth k) ∧ Frame [.tim, .elapsed, .working] s t) ∧
  (∀ (k : Nat) (s : State), s.tpPeriod k = 0 ∨ s.pat.loaded = false ∨ (bits (s.parW 0x0B8D (2 * k)) 4 4 = 1 ∧ s.flag F_TSU_STATUS_SET = false) →
    exec (.timePulse k) s = .next s) ∧
  (∀ (k e : Nat) (s : State), afind s.tim.tp k = some e → ∃ t, exec (.timePulseEnd k) s = .next t ∧ afind t.tim.tp k = none ∧
    t.tim.el = Nat.max s.tim.el e ∧ Frame [.tim, .elapsed, .working] s t)

/-- R314, R317 to R320. -/
def Obligations.BrakesAreTestedDegradedAndFaulted : Prop :=
  (∀ (n : Nat) (s : State), n < s.saf.brakes.length → s.brkEn n = true → s.clk.vfld = true → (s.brake n).testStep = 0 → (s.brake n).fault = false →
    ∃ t, exec (.switchTest n) s = .next t ∧ t.brake n = { s.brake n with testStep := 1, testBad := false, testAt := some t.tim.el } ∧
    (∀ m, m ≠ n → t.brake m = s.brake m) ∧ (∀ e, (s.brake n).testAt = some e → t.tim.el = Nat.max s.tim.el (e + (s.safPar 0x1005).toNat * sec)) ∧
    Frame [.tim, .elapsed, .working, .saf, .brakes] s t) ∧
  (∀ (n : Nat) (s : State), s.brkEn n = false ∨ s.clk.vfld = false ∨ (s.brake n).fault = true → ∃ t, exec (.switchTest n) s = .next t ∧
    Frame [.tim, .elapsed, .working] s t) ∧
  (∀ (n h l : Nat) (s : State), s.Sound → n ≤ 7 → n < s.saf.brakes.length → h ≤ 100 → l ≤ 100 → (s.brake n).testStep ≠ 0 → (s.brake n).fault = false →
    diagnose (s.brake n).applied (s.brake n).testStep h l = .healthy → (s.brake n).testStep ≠ lastStep (s.brake n).applied →
    ∃ t, exec (.switchTestStep n h l) s = .next t ∧ t.brake n = { s.brake n with testStep := (s.brake n).testStep + 1 } ∧
    t.fld (F_SAF_BRK_STAT_HS_PCT n) = h ∧ t.fld (F_SAF_BRK_STAT_LS_PCT n) = l ∧ t.tim.el = s.tim.el + 300000 ∧
    Frame [.saf, .brakes, .tim, .elapsed, .working, .regs] s t ∧ FieldsBut [F_SAF_BRK_STAT_HS_PCT n, F_SAF_BRK_STAT_LS_PCT n] s t) ∧
  (∀ (n h l : Nat) (s : State), n < s.saf.brakes.length → (s.brake n).testStep ≠ 0 → diagnose (s.brake n).applied (s.brake n).testStep h l = .healthy →
    (s.brake n).testStep = lastStep (s.brake n).applied → (s.brake n).testBad = false → (s.brake n).degr = 0 →
    ∃ t, exec (.switchTestStep n h l) s = .next t ∧ t.brake n = { s.brake n with testStep := 0, goodTests := (s.brake n).goodTests + 1 } ∧
    Frame [.saf, .brakes, .tim, .elapsed, .working, .regs] s t) ∧
  (∀ (n h l : Nat) (s : State), s.Sound → n ≤ 7 → s.saf.brakes.length = 8 → (s.brake n).testStep ≠ 0 →
    diagnose (s.brake n).applied (s.brake n).testStep h l = .healthy → (s.brake n).testStep = lastStep (s.brake n).applied → (s.brake n).testBad = false →
    (s.brake n).degr = 1 ∨ (s.brake n).degr = 2 → (s.brake n).goodTests = 9 → (∀ m, m ≠ n → (s.brake m).degr = 0) →
    ∃ t, exec (.switchTestStep n h l) s = .next t ∧ (t.brake n).degr = 0 ∧ (t.brake n).expired = false ∧ afind t.mram.brakeLeft n = none ∧
    t.cond 3 = false ∧ t.CauseGone 0x0A05 ∧ t.CauseGone 0x0A06) ∧
  (∀ (n h l : Nat) (s : State), s.Sound → n ≤ 7 → n < s.saf.brakes.length → (s.brake n).testStep ≠ 0 →
    diagnose (s.brake n).applied (s.brake n).testStep h l = .hsOpen ∨ diagnose (s.brake n).applied (s.brake n).testStep h l = .lsOpen →
    ∃ t, exec (.switchTestStep n h l) s = .next t ∧ (t.brake n).fault = true ∧ (t.brake n).hs = false ∧ (t.brake n).ls = false ∧ t.Alarmed 0x0A07 ∧
    t.flag F_SAF_EVENT_BRK_FAULT = true ∧ t.dev = s.dev) ∧
  (∀ (n h l : Nat) (s : State), s.Sound → n ≤ 7 → n < s.saf.brakes.length → (s.brake n).testStep ≠ 0 → (s.brake n).degr = 0 →
    diagnose (s.brake n).applied (s.brake n).testStep h l = .hsClosed → ∃ t, exec (.switchTestStep n h l) s = .next t ∧ (t.brake n).degr = 1 ∧
    (t.brake n).hs = (s.brake n).hs ∧ aget 0 t.mram.brakeLeft n = 3600 * (s.safPar 0x1004).toNat ∧ t.cond 3 = true ∧ t.Alarmed 0x0A05 ∧
    t.flag F_SAF_EVENT_BRK_FAULT = true ∧ t.dev.st = s.dev.st) ∧
  (∀ (n h l : Nat) (s : State), s.Sound → n ≤ 7 → n < s.saf.brakes.length → (s.brake n).testStep ≠ 0 → (s.brake n).degr = 2 →
    diagnose (s.brake n).applied (s.brake n).testStep h l = .hsClosed → ∃ t, exec (.switchTestStep n h l) s = .next t ∧ (t.brake n).degr = 3 ∧
    (t.brake n).hs = false ∧ (t.brake n).ls = false ∧ t.InGlobalSafe ∧ t.Alarmed 0x0A08) ∧
  (∀ (n h l : Nat) (s : State), s.Sound → n ≤ 7 → n < s.saf.brakes.length → (s.brake n).testStep ≠ 0 →
    diagnose (s.brake n).applied (s.brake n).testStep h l = .bothClosed → ∃ t, exec (.switchTestStep n h l) s = .next t ∧ (t.brake n).degr = 3 ∧
    t.InGlobalSafe ∧ t.Alarmed 0x0A08) ∧
  (∀ (n : Nat) (s : State), s.Sound → n ≤ 7 → n < s.saf.brakes.length → s.brkEn n = true → ∃ t, exec (.brakeOvercurrent n) s = .next t ∧
    t.brake n = { s.brake n with fault := true, overcurrent := true, hs := false, ls := false } ∧ (∀ m, m ≠ n → t.brake m = s.brake m) ∧
    t.flag F_SAF_EVENT_BRK_FAULT = true ∧ t.Alarmed 0x0A07 ∧ AlarmsBut [0x0A07] s t ∧ Frame [.alarms, .rcd, .saf, .brakes, .regs] s t) ∧
  (∀ (n : Nat) (s : State), n < s.saf.brakes.length → (s.brake n).degr = 1 ∨ (s.brake n).degr = 2 → aget 0 s.mram.brakeLeft n = 0 →
    (s.brake n).expired = false → ∃ t, exec (.brakeDegradedExpiry n) s = .next t ∧
    t.brake n = { s.brake n with expired := true, hs := false, ls := false } ∧ t.Alarmed 0x0A06 ∧
    AlarmsBut [0x0A06] s t ∧ Frame [.alarms, .rcd, .saf, .brakes, .regs] s t) ∧
  (∀ (n : Nat) (s : State), (s.brake n).degr = 0 ∨ 0 < aget 0 s.mram.brakeLeft n ∨ (s.brake n).expired = true → exec (.brakeDegradedExpiry n) s = .next s)

/-- R323 to R325. -/
def Obligations.BrakeTestsEndWithTheirResult : Prop :=
  (∀ s : State, s.saf.test = none → exec .brakeTestPhaseEnd s = .next s) ∧
  (∀ (b : BrakeTest) (s : State), s.saf.test = some b → 1 ≤ b.phase → b.phase ≤ 3 → ∃ t, exec .brakeTestPhaseEnd s = .next t ∧
    t.saf = { s.saf with test := some { b with phase := b.phase + 1, phaseAt := t.tim.el } } ∧
    t.tim.el = Nat.max s.tim.el (b.phaseAt + s.phaseTime b) ∧ Frame [.saf, .tim, .elapsed, .working] s t) ∧
  (∀ (b : BrakeTest) (s : State), s.Sound → s.saf.test = some b → b.phase = 4 → b.chan ≤ 7 → ∃ t, exec .brakeTestPhaseEnd s = .next t ∧
    t.saf.test = none ∧ afind t.mram.brakeAge b.chan = some 0 ∧ t.reg (A_SAF_BRK_TEST b.chan) = halves 1 b.moved ∧ t.reg (A_SAF_BRK_AGE b.chan) = 0#32 ∧
    t.flag (F_SAF_BRK_STAT_TEST_DUE b.chan) = false ∧ t.flag (F_SAF_BRK_STAT_TEST_FAIL b.chan) = false ∧ t.flag F_SAF_STATUS_TEST = false ∧
    t.flag F_SAF_EVENT_TEST_EVT = true ∧ t.Alarmed 0x0A09 ∧ AlarmsBut [0x0A09] s t ∧
    Frame [.alarms, .rcd, .mram, .tim, .elapsed, .working, .saf, .brakes, .regs] s t) ∧
  (∀ (n : Nat) (b : BrakeTest) (s : State), s.saf.test = some b → b.phase ≤ 1 ∨ n ≤ bits (s.safPar (0x1040 + b.chan) 2) 31 16 →
    ∃ t, exec (.brakeTestMotion n) s = .next t ∧ t.saf = { s.saf with test := some { b with moved := n } } ∧ Frame [.saf] s t) ∧
  (∀ (n : Nat) (b : BrakeTest) (s : State), s.Sound → s.saf.test = some b → 2 ≤ b.phase → b.chan ≤ 7 → bits (s.safPar (0x1040 + b.chan) 2) 31 16 < n →
    ∃ t, exec (.brakeTestMotion n) s = .next t ∧ t.saf.test = none ∧ t.reg (A_SAF_BRK_TEST b.chan) = halves 3 n ∧
    t.flag (F_SAF_BRK_STAT_TEST_FAIL b.chan) = true ∧ t.flag F_SAF_STATUS_TEST = false ∧ t.Alarmed 0x0A0A ∧ AlarmsBut [0x0A0A] s t ∧ t.mram = s.mram ∧
    Frame [.alarms, .rcd, .saf, .brakes, .regs] s t) ∧
  (∀ (n : Nat) (s : State), s.Sound → n ≤ 7 → n < s.saf.brakes.length → s.brkEn n = true → (s.safPar 0x1007).toNat ≠ 0 →
    (s.safPar 0x1007).toNat ≤ aget 0 s.mram.brakeAge n → (s.brake n).dueRaised = false →
    ∃ t, exec (.brakeTestDue n) s = .next t ∧ t.brake n = { s.brake n with dueRaised := true } ∧ t.flag (F_SAF_BRK_STAT_TEST_DUE n) = true ∧
    t.Alarmed 0x0A0B ∧ AlarmsBut [0x0A0B] s t ∧ Frame [.alarms, .rcd, .saf, .brakes, .regs] s t ∧
    FieldsBut (F_SAF_BRK_STAT_TEST_DUE n :: recFields) s t) ∧
  (∀ (n : Nat) (s : State), s.brkEn n = false ∨ (s.safPar 0x1007).toNat = 0 ∨ aget 0 s.mram.brakeAge n < (s.safPar 0x1007).toNat ∨
    (s.brake n).dueRaised = true → exec (.brakeTestDue n) s = .next s) ∧
  (∀ (o : Bool) (s : State), s.clk.vfld = true → (if o then s.pins.sit1 else s.pins.sit0) = true → ∃ t, exec (.testPulse o []) s = .next t ∧
    Frame [.tim, .elapsed, .working, .saf] s t ∧
    ∀ n, (t.pair n).demand = (s.pair n).demand ∧ (t.pair n).disc = (s.pair n).disc ∧ (t.pair n).pulse = (s.pair n).pulse) ∧
  (∀ (o : Bool) (n : Nat) (s : State), s.Sound → s.clk.vfld = true → (if o then s.pins.sit1 else s.pins.sit0) = true → n < 16 → n < s.saf.pairs.length → s.sipUsed n = true →
    ∃ t, exec (.testPulse o [n]) s = .next t ∧ o ∈ (t.pair n).pulse ∧ (t.pair n).demand = true ∧ t.Alarmed 0x0A0D ∧
    (tbit (s.safPar (0x1020 + n) 2).toNat 0 = true → t.InGlobalSafe) ∧ (tbit (s.safPar (0x1020 + n) 2).toNat 0 = false → t.dev = s.dev)) ∧
  (∀ (o : Bool) (l : List Nat) (s : State), s.clk.vfld = false ∨ (if o then s.pins.sit1 else s.pins.sit0) = false → exec (.testPulse o l) s = .next s)

/-- R326 to R328, R331 to R335. -/
def Obligations.SafeInputsAndSafeDataAct : Prop :=
  (∀ (p n : Nat) (b c : Bool) (s : State), s.Sound → p < 16 → p < s.saf.pairs.length → s.sipUsed p = true →
    (if b && decide ((s.safPar (0x1020 + p) 0).toNat = 2) then !c else c) = false → ∃ t, exec (.safeInputChange p b c n) s = .next t ∧
    (t.pair p).demand = true ∧ t.flag F_SAF_EVENT_SIP_EVT = true ∧ ((s.pair p).demand = false → t.Alarmed 0x0A0E) ∧
    (tbit (s.safPar (0x1020 + p) 2).toNat 0 = true → t.InGlobalSafe) ∧ (tbit (s.safPar (0x1020 + p) 2).toNat 0 = false → t.dev = s.dev)) ∧
  (∀ (p n : Nat) (b c : Bool) (s : State), s.Sound → p < 16 → p < s.saf.pairs.length → s.sipUsed p = true → s.contactNormal p (!b) = true →
    (if b && decide ((s.safPar (0x1020 + p) 0).toNat = 2) then !c else c) = true → (s.pair p).disc = false → (s.pair p).pulse = [] →
    ∃ t, exec (.safeInputChange p b c n) s = .next t ∧ (t.pair p).demand = false ∧ (t.pair p).disc = false ∧ (t.pair p).differSince = none ∧
    t.flag (bitAt A_SAF_SIP p) = false ∧ Frame [.saf, .tim, .elapsed, .working, .regs] s t) ∧
  (∀ (p e : Nat) (s : State), s.Sound → p < 16 → p < s.saf.pairs.length → (s.pair p).differSince = some e → ∃ t, exec (.discrepancyExpiry p) s = .next t ∧
    (t.pair p).disc = true ∧ (t.pair p).demand = true ∧ (t.pair p).differSince = none ∧ t.Alarmed 0x0A0C ∧ e + s.discTime p ≤ t.tim.el) ∧
  (∀ (l : Bool) (b : List Byte) (n c : Nat) (s : State), c < s.saf.conns.length → s.connFor b = some c → safeFrameOk b = true →
    frameField b 6 2 = (s.safPar 0x1001).toNat ∨ frameField b 6 2 = 0xFFFF → (s.conn c).lastSeq ≠ some (frameField b 8 4) →
    seqAbove (s.conn c).lastSeq (frameField b 8 4) = true → s.timely c (frameField b 0xC 8) n = true →
    (∀ w ∈ (s.conn c).waiting, frameField w.bytes 8 4 ≠ frameField b 8 4) →
    ∃ t, exec (.safeFrame l b n) s = .next t ∧ t.conn c = { s.conn c with waiting := (s.conn c).waiting ++ [⟨l, b, t.tim.el⟩] } ∧
    Frame [.saf, .tim, .elapsed, .working] s t) ∧
  (∀ (l : Bool) (b : List Byte) (w : WaitingCopy) (n c : Nat) (s : State), s.Sound → c < 16 → c < s.saf.conns.length → s.connFor b = some c → safeFrameOk b = true →
    frameField b 6 2 = (s.safPar 0x1001).toNat ∨ frameField b 6 2 = 0xFFFF → (s.conn c).lastSeq ≠ some (frameField b 8 4) →
    seqAbove (s.conn c).lastSeq (frameField b 8 4) = true → s.timely c (frameField b 0xC 8) n = true →
    (s.conn c).waiting.find? (fun w => frameField w.bytes 8 4 == frameField b 8 4) = some w → w.lanB = !l → w.bytes ≠ b →
    ∃ t, exec (.safeFrame l b n) s = .next t ∧ (∀ x ∈ (t.conn c).waiting, frameField x.bytes 8 4 ≠ frameField b 8 4) ∧
    (t.conn c).lastSeq = (s.conn c).lastSeq ∧ t.Alarmed 0x0A0F ∧ AlarmsBut [0x0A0F] s t ∧
    t.fld (F_SAF_CONN_STAT_DIFFER c) = Nat.min (fieldMax (F_SAF_CONN_STAT_DIFFER c)) (s.fld (F_SAF_CONN_STAT_DIFFER c) + 1) ∧
    Frame [.alarms, .rcd, .saf, .tim, .elapsed, .working, .regs] s t) ∧
  (∀ (l : Bool) (b : List Byte) (w : WaitingCopy) (n c : Nat) (s : State), s.Sound → c < 16 → c < s.saf.conns.length → s.connFor b = some c → safeFrameOk b = true →
    frameField b 6 2 = (s.safPar 0x1001).toNat ∨ frameField b 6 2 = 0xFFFF → (s.conn c).lastSeq ≠ some (frameField b 8 4) →
    seqAbove (s.conn c).lastSeq (frameField b 8 4) = true → s.timely c (frameField b 0xC 8) n = true →
    (s.conn c).waiting.find? (fun w => frameField w.bytes 8 4 == frameField b 8 4) = some w → w.lanB = !l → w.bytes = b →
    ∃ t, exec (.safeFrame l b n) s = .next t ∧ (t.conn c).lastSeq = some (frameField b 8 4) ∧
    (∀ x ∈ (t.conn c).waiting, frameField x.bytes 8 4 ≠ frameField b 8 4) ∧
    (t.conn c).timedOut = false ∧ (t.conn c).run = (s.conn c).run + 1 ∧ (t.conn c).lastAt = t.tim.el ∧ t.fld (F_SAF_CONN_STAT_STATE c) = 1 ∧
    (frameField b 3 1 = 0x11 → bits (s.connPar c 3) 16 16 = 1 → frameField b 0x18 4 % 2 = 1 → t.InGlobalSafe)) ∧
  (∀ (l : Bool) (b : List Byte) (n c : Nat) (s : State), s.Sound → c < 16 → s.connFor b = some c → safeFrameOk b = false →
    ∃ t, exec (.safeFrame l b n) s = .next t ∧
    t.fld (F_SAF_CONN_CNT_DROPPED c) = Nat.min (fieldMax (F_SAF_CONN_CNT_DROPPED c)) (s.fld (F_SAF_CONN_CNT_DROPPED c) + 1) ∧
    Frame [.tim, .elapsed, .working, .regs] s t ∧ FieldsBut [F_SAF_CONN_CNT_DROPPED c] s t) ∧
  (∀ (b : List Byte) (n c : Nat) (l : Bool) (s : State), s.connFor b = some c → safeFrameOk b = true → (s.conn c).lastSeq = some (frameField b 8 4) →
    (s.conn c).accepted = b → ∃ t, exec (.safeFrame l b n) s = .next t ∧ Frame [.tim, .elapsed, .working] s t) ∧
  (∀ (b : List Byte) (n : Nat) (l : Bool) (s : State), s.connFor b = none → ∃ t, exec (.safeFrame l b n) s = .next t ∧
    t.saf = { s.saf with unmatched := s.saf.unmatched + 1 } ∧ Frame [.saf, .tim, .elapsed, .working] s t) ∧
  (∀ (c : Nat) (w : WaitingCopy) (r : List WaitingCopy) (s : State), s.Sound → c < 16 → c < s.saf.conns.length → (s.conn c).waiting = w :: r →
    seqAbove (s.conn c).lastSeq (frameField w.bytes 8 4) = true →
    ∃ t, exec (.dualWaitExpiry c) s = .next t ∧ t.tim.el = Nat.max s.tim.el (w.since + (s.safPar 0x1003).toNat * 1000) ∧
    (t.conn c).waiting = r.filter (fun x => frameField x.bytes 8 4 != frameField w.bytes 8 4) ∧
    (t.conn c).lastSeq = some (frameField w.bytes 8 4) ∧ (t.conn c).timedOut = false ∧
    t.fld (F_SAF_CONN_STAT_SINGLE c) = Nat.min 255 (s.fld (F_SAF_CONN_STAT_SINGLE c) + 1) ∧
    (s.fld (F_SAF_CONN_STAT_SINGLE c) = 9 → t.Alarmed 0x0A10 ∧ t.fld (F_SAF_CONN_STAT_STATE c) = 2)) ∧
  (∀ (c : Nat) (s : State), s.Sound → c < 16 → c < s.saf.conns.length → s.connUsed c = true → s.connSends c = false → (s.conn c).timedOut = false →
    ∃ t, exec (.safeConnectionTimeout c) s = .next t ∧ (t.conn c).timedOut = true ∧ (t.conn c).run = 0 ∧ t.fld (F_SAF_CONN_STAT_STATE c) = 3 ∧
    t.Alarmed 0x0A11 ∧ (s.conn c).lastAt + (s.connPar c 2).toNat * ms ≤ t.tim.el ∧ (bits (s.connPar c 3) 1 0 = 1 → t.InGlobalSafe) ∧
    (bits (s.connPar c 3) 1 0 = 0 → Frame [.alarms, .rcd, .saf, .tim, .elapsed, .working, .regs] s t)) ∧
  (∀ s : State, s.Sound → ∃ t, exec .sDieFault s = .next t ∧ t.InGlobalSafe ∧ t.saf.ownFault = true ∧ (s.dev.st ≠ .boot → t.dev.st = .safe)) ∧
  (∀ s : State, s.Sound → s.pat.testPort = true → s.pins.testEn = true → ∃ t, exec .extest s = .next t ∧ t.InGlobalSafe ∧
    (s.dev.st ≠ .boot → t.dev.st = .safe)) ∧
  (∀ s : State, s.pat.testPort = false ∨ s.pins.testEn = false → exec .extest s = .next s)

/-- R95, R99, R101, R103, R105, R106, R109, R110, R472, R478. -/
def Obligations.SatelliteChannelsAcquireTrackAndLose : Prop :=
  (∀ (n i : Nat) (s : State), s.Sound → s.antSupplied n = true → s.fld (F_GNS_ANT_STATE n) ≠ 3 → 2 ≤ i → i ≤ 80 → ∃ t,
    exec (.antennaMeasure n i) s = .next t ∧ t.fld (F_GNS_ANT_STATE n) = 1 ∧ t.fld (F_GNS_ANT_I_CURRENT n) = i ∧ aget 0 t.gns.antOver n = 0 ∧
    (∀ e, afind s.gns.measAt n = some e → t.tim.el = Nat.max s.tim.el (e + 10 * ms)) ∧
    Frame [.tim, .elapsed, .working, .gns, .regs] s t ∧ FieldsBut [F_GNS_ANT_STATE n, F_GNS_ANT_I_CURRENT n] s t) ∧
  (∀ (n i : Nat) (s : State), s.Sound → s.antSupplied n = true → s.fld (F_GNS_ANT_STATE n) ≠ 3 → s.fld (F_GNS_ANT_STATE n) ≠ 2 → i < 2 → ∃ t,
    exec (.antennaMeasure n i) s = .next t ∧ t.fld (F_GNS_ANT_STATE n) = 2 ∧ t.Alarmed 0x1101 ∧ t.flag F_GNS_EVENT_ANT_FAULT = true ∧
    Frame [.alarms, .rcd, .tim, .elapsed, .working, .gns, .regs] s t) ∧
  (∀ (n i : Nat) (s : State), s.Sound → s.antSupplied n = true → s.fld (F_GNS_ANT_STATE n) ≠ 3 → n ∉ s.gns.antRetry → 80 < i →
    1 ≤ aget 0 s.gns.antOver n → ∃ t, exec (.antennaMeasure n i) s = .next t ∧ t.fld (F_GNS_ANT_STATE n) = 3 ∧ t.fld (F_GNS_ANT_I_CURRENT n) = 0 ∧
    t.Alarmed 0x1102 ∧ t.flag F_GNS_EVENT_ANT_FAULT = true ∧ Frame [.alarms, .rcd, .tim, .elapsed, .working, .gns, .regs] s t) ∧
  (∀ (n i : Nat) (s : State), s.antSupplied n = false ∨ (s.fld (F_GNS_ANT_STATE n) = 3 ∧ n ∉ s.gns.antRetry) → exec (.antennaMeasure n i) s = .next s) ∧
  (∀ (n : Nat) (s : State), s.antSupplied n = true → s.fld (F_GNS_ANT_STATE n) = 3 → ∃ t, exec (.antennaRetry n) s = .next t ∧
    n ∈ t.gns.antRetry ∧ t.tim.el = Nat.max s.tim.el (aget 0 s.gns.retryAt n + 10 * sec) ∧ afind t.gns.measAt n = some t.tim.el ∧
    Frame [.tim, .elapsed, .working, .gns] s t) ∧
  (∀ (e g v a b k p : Nat) (w : Bool) (s : State), e < 2 → s.searchable ⟨g, v, a, gloField g v⟩ = true → b ≠ 0 → b ≤ acqBlocks g → k < acqBins g w →
    (w = true → s.predictable (satKey g v) = true) → ∃ t, exec (.acquisitionSearchRuns e g v a b w k p) s = .next t ∧
    (s.par 0x060C < p → t.gns = { s.gns with detected := aset s.gns.detected e ⟨⟨g, v, a, gloField g v⟩, b, w, k⟩ }) ∧
    (p ≤ s.par 0x060C → t.gns = { s.gns with detected := adel s.gns.detected e }) ∧ Frame [.gns] s t) ∧
  (∀ (e g v a b k p : Nat) (w : Bool) (s : State), 2 ≤ e ∨ s.searchable ⟨g, v, a, gloField g v⟩ = false ∨ b = 0 ∨ acqBlocks g < b ∨ acqBins g w ≤ k ∨
    (w = true ∧ s.predictable (satKey g v) = false) → exec (.acquisitionSearchRuns e g v a b w k p) s = .next s) ∧
  (∀ (e p : Nat) (h : Int) (d : Detection) (s : State), afind s.gns.detected e = some d → s.par 0x060C < p →
    ∃ t, exec (.acquisitionConfirm e p h) s = .next t ∧ t.gns.handed.getLast? = some (d.triple, h) ∧ afind t.gns.detected e = none ∧
    d.triple ∉ t.gns.acq ∧ t.gns.chans = s.gns.chans ∧ Frame [.gns] s t) ∧
  (∀ (e p : Nat) (h : Int) (d : Detection) (s : State), afind s.gns.detected e = some d → p ≤ s.par 0x060C →
    exec (.acquisitionConfirm e p h) s = .next { s with gns := { s.gns with detected := adel s.gns.detected e } }) ∧
  (∀ (n : Nat) (s : State), (s.gchan n).st = 1 → ∃ t, exec (.pullInLock n) s = .next t ∧
    t.gchan n = { s.gchan n with st := 2, codeOk := true, lockAt := s.tim.el } ∧ (∀ m, m ≠ n → t.gchan m = s.gchan m) ∧ Frame [.gns, .regs] s t ∧
    (s.Sound → FieldsBut [F_GNS_STATUS_NTRACK] s t)) ∧
  (∀ (n : Nat) (s : State), (s.gchan n).st = 2 → ∃ t, exec (.phaseLockHeld n) s = .next t ∧ t.gchan n = { s.gchan n with phaseOk := true } ∧
    t.tim.el = Nat.max s.tim.el ((s.gchan n).lockAt + 200 * ms) ∧ (∀ m, m ≠ n → t.gchan m = s.gchan m) ∧
    Frame [.tim, .elapsed, .working, .gns, .regs] s t) ∧
  (∀ (n : Nat) (s : State), (s.gchan n).st = 2 → ∃ t, exec (.halfCycleResolved n) s = .next t ∧ t.gchan n = { s.gchan n with halfRes := true } ∧
    (∀ m, m ≠ n → t.gchan m = s.gchan m) ∧ Frame [.gns, .regs] s t) ∧
  (∀ (n : Nat) (s : State), (s.gchan n).st = 2 → ∃ t, exec (.transmitTimeResolved n) s = .next t ∧ t.gchan n = { s.gchan n with towOk := true } ∧
    (∀ m, m ≠ n → t.gchan m = s.gchan m) ∧ Frame [.gns, .regs] s t) ∧
  (∀ (n : Nat) (s : State), (s.gchan n).st = 2 → ∃ t, exec (.cycleSlip n) s = .next t ∧
    t.gchan n = { s.gchan n with slip := true, slipCnt := ((s.gchan n).slipCnt + 1) % 256 } ∧ (∀ m, m ≠ n → t.gchan m = s.gchan m) ∧
    Frame [.gns, .regs] s t) ∧
  (∀ (n : Nat) (s : State), (s.gchan n).st = 2 → ∃ t, exec (.lockLoss n) s = .next t ∧ t.gchan n = { s.gchan n with lost := true } ∧
    (∀ m, m ≠ n → t.gchan m = s.gchan m) ∧ Frame [.gns, .regs] s t) ∧
  (∀ (n : Nat) (s : State), (s.gchan n).st = 0 → exec (.pullInLock n) s = .next s ∧ exec (.phaseLockHeld n) s = .next s ∧
    exec (.halfCycleResolved n) s = .next s ∧ exec (.transmitTimeResolved n) s = .next s ∧ exec (.cycleSlip n) s = .next s ∧ exec (.lockLoss n) s = .next s) ∧
  (∀ (c n a : Nat) (l : List Nat) (b d : Bool) (s : State), s.shadowSpares c = a :: l → afind s.hlt.shadowVote c = none → afind s.hlt.shadowOf c = some n →
    ∃ t, exec (.channelShadowEnd c true b d) s = .next t ∧ t.hlt.shadowChan = n ∧ aget 0 t.hlt.shadowNext c = (n + 1) % 32 ∧
    afind t.hlt.shadowOf c = none ∧ (∀ k ∈ a :: l, (t.gchan k).st = 4) ∧ (∀ m, m ∉ a :: l → t.gchan m = s.gchan m) ∧
    t.tim.el = Nat.max s.tim.el (aget 0 s.hlt.shadowAt c + sec) ∧ Frame [.tim, .elapsed, .working, .hlt, .gns, .regs] s t) ∧
  (∀ (c n a b : Nat) (l : List Nat) (f g : Bool) (s : State), s.shadowSpares c = a :: b :: l → afind s.hlt.shadowVote c = none →
    afind s.hlt.shadowOf c = some n → s.Compared n a → ∃ t, exec (.channelShadowEnd c false f g) s = .next t ∧ afind t.hlt.shadowVote c = some n ∧
    t.hlt.shadowMism = Nat.min 65535 (s.hlt.shadowMism + 1) ∧ Frame [.tim, .elapsed, .working, .hlt] s t) ∧
  (∀ (c n a b m : Nat) (l : List Nat) (g : Bool) (s : State), s.Sound → s.shadowSpares c = a :: b :: l → afind s.hlt.shadowVote c = some m →
    afind s.hlt.shadowOf c = some n → s.Compared n a →
    ∃ t, exec (.channelShadowEnd c true false g) s = .next t ∧ (t.gchan b).st = 5 ∧ b ∈ t.mram.riserChannels ∧ t.Alarmed 0x110D ∧
    t.flag F_GNS_EVENT_CH_RETIRED = true ∧ afind t.hlt.shadowOf c = none) ∧
  (∀ (c n a b m : Nat) (l : List Nat) (g : Bool) (s : State), s.Sound → n < 256 → s.shadowSpares c = a :: b :: l → afind s.hlt.shadowVote c = some m →
    afind s.hlt.shadowOf c = some n → s.Compared n a →
    ∃ t, exec (.channelShadowEnd c false false g) s = .next t ∧ (t.gchan n).st = 5 ∧ t.gchan a = s.gchan n ∧ n ∈ t.mram.riserChannels ∧ t.Alarmed 0x110D) ∧
  (∀ (c n a : Nat) (l : List Nat) (f g h : Bool) (s : State), s.shadowSpares c = a :: l → afind s.hlt.shadowOf c = some n → ¬s.Compared n a →
    ∃ t, exec (.channelShadowEnd c f g h) s = .next t ∧ afind t.hlt.shadowOf c = none ∧ t.hlt.shadowMism = s.hlt.shadowMism ∧ t.mram = s.mram ∧
    Frame [.tim, .elapsed, .working, .hlt, .gns, .regs] s t) ∧
  (∀ (c : Nat) (f g h : Bool) (s : State), afind s.hlt.shadowOf c = none → exec (.channelShadowEnd c f g h) s = .next s)

/-- R118, R119, R121, R122, R124, R125, R127. -/
def Obligations.InterferenceFalseSignalsAndSnapshots : Prop :=
  (∀ (k r a : Nat) (s : State), s.Sound → s.gnsRuns = true → k < 8 → s.gns.noiseRef.isEmpty = false → r - nth s.gns.noiseRef k ≤ 255 → a ≤ 255 →
    (∀ i < 4, s.notchOf k i = none) → ∃ t, exec (.spectrumAverage k [] r a) s = .next t ∧ t.noiseRise k = r - nth s.gns.noiseRef k ∧
    t.fld (F_GNS_STREAM_AGC_GAIN k) = a ∧ afind t.gns.lines k = some [] ∧
    (∀ e, afind s.gns.avgAt k = some e → t.tim.el = Nat.max s.tim.el (e + 10 * ms)) ∧
    (s.par 0x060E < r - nth s.gns.noiseRef k → s.flag F_GNS_STATUS_JAM = false → t.flag F_GNS_STATUS_JAM = true ∧ t.flag F_GNS_EVENT_JAM_EVT = true ∧
      t.Alarmed 0x1104) ∧
    (r - nth s.gns.noiseRef k ≤ s.par 0x060E → t.alarms = s.alarms ∧ FieldsBut [F_GNS_STREAM_NOISE_RISE k, F_GNS_STREAM_AGC_GAIN k] s t) ∧
    (s.par 0x060E ≤ r - nth s.gns.noiseRef k → t.gns.jamAt = t.tim.el) ∧ Frame [.alarms, .rcd, .tim, .elapsed, .working, .gns, .regs] s t) ∧
  (∀ (k r a h : Nat) (f : Int) (p : Int × Nat) (s : State), s.Sound → s.gnsRuns = true → k < 8 → s.par 0x060D ≤ h → p ∈ aget [] s.gns.lines k →
    sameLine p.1 f = true → (∀ i < 4, s.notchOf k i = none) → ∃ t, exec (.spectrumAverage k [(f, h)] r a) s = .next t ∧
    t.notchOf k 0 = some ⟨h, f, t.tim.el⟩ ∧
    t.flag (bitAt (A_GNS_STREAM k) 16) = true ∧ t.flag F_GNS_EVENT_NOTCH_ON = true ∧ t.Alarmed 0x1103 ∧
    Frame [.alarms, .rcd, .tim, .elapsed, .working, .gns, .regs] s t) ∧
  (∀ (k r a : Nat) (l : List (Int × Nat)) (s : State), s.gnsRuns = false ∨ 8 ≤ k → exec (.spectrumAverage k l r a) s = .next s) ∧
  (∀ (k n : Nat) (x : Notch) (s : State), s.Sound → k < 8 → n < 4 → s.notchOf k n = some x → ∃ t, exec (.notchRelease k n) s = .next t ∧
    t.notchOf k n = none ∧ t.reg (A_GNS_NOTCH k n) = 0#32 ∧ t.flag (bitAt (A_GNS_STREAM k) (16 + n)) = false ∧
    t.tim.el = Nat.max s.tim.el (x.seenAt + sec) ∧ Frame [.tim, .elapsed, .working, .gns, .regs] s t ∧
    FieldsBut [word32 (A_GNS_NOTCH k n), bitAt (A_GNS_STREAM k) (16 + n)] s t) ∧
  (∀ (l : List Nat) (s : State), s.gnsRuns = true → s.gns.noiseRef = [] → ∃ t, exec (.noiseFloorLearned l) s = .next t ∧
    t.gns = { s.gns with noiseRef := l } ∧ t.tim.el = Nat.max s.tim.el (s.gns.runAt + 60 * sec) ∧ Frame [.tim, .elapsed, .working, .gns] s t) ∧
  (∀ (l : List Nat) (s : State), s.gns.noiseRef ≠ [] → exec (.noiseFloorLearned l) s = .next s) ∧
  (∀ s : State, s.Sound → s.flag F_GNS_STATUS_JAM = true → (∀ n < 8, s.noiseRise n < s.par 0x060E) → ∃ t, exec .jamClear s = .next t ∧
    t.flag F_GNS_STATUS_JAM = false ∧ t.CauseGone 0x1104 ∧ AlarmsBut [0x1104] s t ∧ t.tim.el = Nat.max s.tim.el (s.gns.jamAt + 10 * sec) ∧
    Frame [.alarms, .rcd, .tim, .elapsed, .working, .regs] s t ∧ FieldsBut (F_GNS_STATUS_JAM :: recFields) s t) ∧
  (∀ (n : Nat) (s : State), n < 8 → s.par 0x060E ≤ s.noiseRise n → exec .jamClear s = .next s) ∧
  (∀ (n e : Nat) (s : State), (s.gchan n).suspect = true → (s.gchan n).failedAt + 10 * sec = e → (s.reach e).judgedLater e = false → ∃ t,
    exec (.suspectClear n) s = .next t ∧ t.gchan n = { s.gchan n with suspect := false } ∧ t.tim.wt = Nat.max s.tim.wt e ∧
    (∀ m, m ≠ n → t.gchan m = s.gchan m) ∧ Frame [.tim, .elapsed, .working, .gns, .regs] s t ∧
    (s.Sound → FieldsBut [F_GNS_STATUS_NTRACK, F_GNS_CHECK_NSUSPECT] s t)) ∧
  (∀ (d : Side) (e : Nat) (s : State), s.Sound → s.gns.chk.suspicion = [sideCode d] → s.suspicionEnd d = e → (s.reach e).judgedLater e = false →
    ∃ t, exec (.suspicionClear d) s = .next t ∧ t.gns.chk.suspicion = [] ∧ t.flag F_GNS_STATUS_SPOOF = false ∧ t.CauseGone 0x1109 ∧
    t.tim.wt = Nat.max s.tim.wt e ∧ AlarmsBut [0x1109] s t ∧ Frame [.alarms, .rcd, .tim, .elapsed, .working, .gns, .regs] s t) ∧
  (∀ (d : Side) (n e : Nat) (s : State), (s.gchan n).failedAt + 10 * sec = e → s.suspicionEnd d = e → (s.reach e).judgedLater e = true →
    (∃ t, exec (.suspectClear n) s = .next t ∧ t.gns = s.gns ∧ Frame [.tim, .elapsed, .working] s t) ∧
    (∃ t, exec (.suspicionClear d) s = .next t ∧ t.gns = s.gns ∧ Frame [.tim, .elapsed, .working] s t)) ∧
  (∀ (m : Nat) (s : State), s.Sound → s.MayAccess m A_GNS_SNAP_CTRL true → s.ringRuns = true → s.gns.held = none → s.gns.capture = none →
    ∃ t, exec (.snapshotTrigger m) s = .next t ∧ (∃ c, t.gns.capture = some c ∧ c.cause = 2 ∧ c.trigT = s.tim.wt ∧ c.epoch = s.dev.stateEp ∧
      c.nsamp = 120000 * s.par 0x0618) ∧ t.flag F_GNS_SNAP_CTRL_CAPTURING = true ∧ s.Sends t [⟨.access m, .write, [A_GNS_SNAP_CTRL, 0, 1]⟩] ∧
    Frame [.gns, .regs, .out] s t ∧ FieldsBut [F_GNS_SNAP_CTRL_CAPTURING] s t) ∧
  (∀ (m : Nat) (s : State), s.Sound → s.MayAccess m A_GNS_SNAP_CTRL true → s.gns.held.isSome = true →
    ∃ t, exec (.snapshotTrigger m) s = .next t ∧ t.gns = s.gns ∧ t.flag F_GNS_EVENT_SNAP_MISSED = true ∧ t.Alarmed 0x110B ∧
    t.fld F_GNS_SNAP_MISS_MISSED = Nat.min 65535 (s.fld F_GNS_SNAP_MISS_MISSED + 1) ∧ Frame [.alarms, .rcd, .regs, .out] s t) ∧
  (∀ (m : Nat) (s : State), s.Sound → s.MayAccess m A_GNS_SNAP_CTRL true → s.gns.held.isSome = true → ∃ t, exec (.snapshotRelease m) s = .next t ∧
    t.gns = { s.gns with held := none, samples := [] } ∧ t.flag F_GNS_SNAP_CTRL_HELD = false ∧ s.Sends t [⟨.access m, .write, [A_GNS_SNAP_CTRL, 0, 2]⟩] ∧
    Frame [.gns, .regs, .out] s t ∧ FieldsBut [F_GNS_SNAP_CTRL_HELD] s t) ∧
  (∀ (l : List IqSample) (c : Snapshot) (s : State), s.Sound → s.gns.capture = some c → s.gns.countedTwice = false →
    ∃ t, exec (.snapshotHeld l) s = .next t ∧ t.gns.held = some c ∧ t.gns.capture = none ∧ c.firstT + c.nsamp / 120000 * ms ≤ t.tim.wt ∧
    t.gns.samples = l.foldl (packSample c.nsamp) [] ∧
    t.fld F_GNS_SNAP_CTRL_SNAP_ID = (s.fld F_GNS_SNAP_CTRL_SNAP_ID + 1) % 65536 ∧ t.flag F_GNS_SNAP_CTRL_HELD = true ∧
    t.flag F_GNS_SNAP_CTRL_CAPTURING = false ∧ t.flag F_GNS_EVENT_SNAP_DONE = true ∧ t.Alarmed 0x110A ∧
    Frame [.alarms, .rcd, .tim, .elapsed, .working, .gns, .regs] s t) ∧
  (∀ (l : List IqSample) (s : State), s.gns.capture = none → exec (.snapshotHeld l) s = .next s) ∧
  (∀ (n d : Nat) (s : State), s.Sound → s.dev.st = .parked → s.gns.renewing = false → s.hasGnss = true → n < 5 → ∃ t,
    exec (.parkPositionCheck n d) s = .next t ∧ t.gns = { s.gns with parkFails := s.gns.parkFails + 1, parkCheckAt := t.tim.el } ∧
    t.tim.el = Nat.max s.tim.el (s.gns.parkCheckAt + 10 * sec) ∧
    (s.gns.parkFails = 5 → t.Alarmed 0x1110 ∧ t.flag F_GNS_EVENT_PARK_CHK = true) ∧
    (s.gns.parkFails ≠ 5 → Frame [.tim, .elapsed, .working, .gns] s t) ∧
    Frame [.alarms, .rcd, .tim, .elapsed, .working, .gns, .regs] s t) ∧
  (∀ (n d : Nat) (s : State), s.Sound → s.dev.st = .parked → s.gns.renewing = false → s.hasGnss = true → 5 ≤ n → ∃ t,
    exec (.parkPositionCheck n d) s = .next t ∧ t.gns = { s.gns with parkFails := 0, parkCheckAt := t.tim.el } ∧ t.CauseGone 0x1110 ∧
    (s.par 0x061B < d → t.Alarmed 0x110F ∧ t.flag F_GNS_EVENT_PARK_CHK = true) ∧ (d ≤ s.par 0x061B → t.CauseGone 0x110F) ∧
    Frame [.alarms, .rcd, .tim, .elapsed, .working, .gns, .regs] s t) ∧
  (∀ s : State, s.Sound → s.dev.st = .parked → s.hasGnss = true → s.gns.renewing = false → ∃ t, exec .ephemerisRenewal s = .next t ∧
    t.gns.renewing = true ∧ t.gnsRuns = true ∧ t.flag F_GNS_STATUS_BUDGET = true ∧ t.tim.el = Nat.max s.tim.el (s.gns.renewAt + 7200 * sec) ∧
    t.gns.renewAt = t.tim.el ∧ Frame [.tim, .elapsed, .working, .gns, .regs] s t) ∧
  (∀ (l : List Nat) (s : State), s.Sound → s.gns.renewing = true → ∃ t, exec (.ephemerisRenewalEnds l) s = .next t ∧ t.gns.renewing = false ∧
    t.gnsRuns = false ∧ t.gns.parkFails = s.gns.parkFails ∧ (∀ k ∈ l, s.tracksSat k = true → afind t.gns.aiding.ephem k = some s.tim.el) ∧
    (∀ n < 272, (t.gchan n).st = 5 ∨ (t.gchan n).st = 6) ∧ Frame [.hlt, .gns, .regs] s t) ∧
  (∀ (n d : Nat) (l : List Nat) (s : State), s.dev.st ≠ .parked → s.gns.renewing = false → exec (.parkPositionCheck n d) s = .next s ∧
    exec .ephemerisRenewal s = .next s ∧ exec (.ephemerisRenewalEnds l) s = .next s)

/-- R381, R382, R384, R385, R389 to R391. -/
def Obligations.CanChannelsFilterQueueAndRecover : Prop :=
  (∀ (c : Nat) (f : CanFrame) (s : State), s.flag (F_CAN_STATUS_EN c) = false ∨ 2 ≤ s.fld (F_CAN_STATUS_STATE c) ∨
    (f.fdf = true ∧ s.flag (F_CAN_STATUS_FD c) = false) → exec (.canFrame c f) s = .next s) ∧
  (∀ (c : Nat) (f : CanFrame) (s : State), s.Sound → s.flag (F_CAN_STATUS_EN c) = true → s.fld (F_CAN_STATUS_STATE c) < 2 → f.fdf = false →
    s.foreignRef c f = false → f.rtr = true ∨ s.canMatch c f.ide f.id = none → (s.canChan c).tx = [] → ∃ t, exec (.canFrame c f) s = .next t ∧
    t.flag (F_CAN_STATUS_SYNC c) = true ∧ t.canChan c = { s.canChan c with busyTill := s.busyAfter c f } ∧ t.can.objs = s.can.objs ∧ Frame [.can, .regs] s t ∧ FieldsBut [F_CAN_STATUS_SYNC c] s t) ∧
  (∀ (c e : Nat) (f : CanFrame) (s : State), s.Sound → c ≤ 5 → s.flag (F_CAN_STATUS_EN c) = true → s.fld (F_CAN_STATUS_STATE c) < 2 → f.fdf = false →
    s.foreignRef c f = false → f.rtr = false → s.canMatch c f.ide f.id = some (e, 2) → (s.canChan c).q1.length < 64 →
    (s.canChan c).tx = [] →
    ∃ t, exec (.canFrame c f) s = .next t ∧ t.canChan c = { s.canChan c with q1 := (s.canChan c).q1 ++ [elemWords f e], busyTill := s.busyAfter c f } ∧
    (∀ d, d ≠ c → t.canChan d = s.canChan d) ∧ t.fld (F_CAN_Q1_STAT_LEVEL c) = (s.canChan c).q1.length + 1 ∧
    t.fld (F_CAN_RX_CNT_COUNT c) = Nat.min 4294967295 (s.fld (F_CAN_RX_CNT_COUNT c) + 1) ∧ Frame [.can, .regs] s t ∧
    FieldsBut [F_CAN_STATUS_SYNC c, F_CAN_Q1_STAT_LEVEL c, F_CAN_RX_CNT_COUNT c] s t) ∧
  (∀ (c e : Nat) (f : CanFrame) (s : State), s.Sound → c ≤ 5 → s.flag (F_CAN_STATUS_EN c) = true → s.fld (F_CAN_STATUS_STATE c) < 2 → f.fdf = false →
    s.foreignRef c f = false → f.rtr = false → s.canMatch c f.ide f.id = some (e, 2) → 64 ≤ (s.canChan c).q1.length →
    (s.canChan c).tx = [] → ∃ t, exec (.canFrame c f) s = .next t ∧ (t.canChan c).q1 = (s.canChan c).q1 ∧ t.can.objs = s.can.objs ∧ t.flag (F_CAN_EVENT_Q1_OVF c) = true ∧ t.Alarmed 0x0704 ∧ AlarmsBut [0x0704] s t ∧
    Frame [.alarms, .rcd, .can, .regs] s t) ∧
  (∀ (c e o : Nat) (f : CanFrame) (s : State), s.Sound → c ≤ 5 → s.flag (F_CAN_STATUS_EN c) = true → s.fld (F_CAN_STATUS_STATE c) < 2 → f.fdf = false →
    f.ide = false → s.foreignRef c f = false → f.rtr = false → s.canMatch c f.ide f.id = some (e, 1) →
    (s.objsOf c 2).filter (fun o => (s.objW o 1).toNat == f.id && (bits (s.objW o 0) 3 3 == 1) == f.ide) = [o] →
    (s.objsOf c 1).filter (fun o => (s.objW o 1).toNat == f.id && (bits (s.objW o 0) 3 3 == 1) == f.ide) = [] → (s.canChan c).tx = [] →
    ∃ t, exec (.canFrame c f) s = .next t ∧ aget ({} : CanObj) t.can.objs o =
      ⟨some (f.eof, f.sof, f.data), (aget ({} : CanObj) s.can.objs o).newest, s.tim.el, false⟩ ∧ (t.canChan c).q1 = (s.canChan c).q1 ∧ (∀ d, d ≠ c → t.canChan d = s.canChan d) ∧
    t.fld (F_CAN_RX_CNT_COUNT c) = Nat.min 4294967295 (s.fld (F_CAN_RX_CNT_COUNT c) + 1) ∧ Frame [.alarms, .rcd, .can, .regs] s t) ∧
  (∀ (c : Nat) (f : CanFrame) (g : CanTx) (s : State), s.Sound → c ≤ 5 → s.canSends c = true → f.fdf = false → s.foreignRef c f = false →
    f.rtr = true ∨ s.canMatch c f.ide f.id = none → (s.canChan c).tx = [g] → g.isRef = false →
    Nat.max (s.canChan c).busyTill g.due ≤ s.tim.el - (s.tim.wt - f.sof) → ∃ t, exec (.canFrame c f) s = .next t ∧
    s.Sends t [⟨.can c, .canFrame, (g.head : Int) :: g.data.map (fun b => (b.toNat : Int))⟩] ∧ (t.canChan c).tx = [] ∧
    t.fld (F_CAN_TX_CNT_COUNT c) = Nat.min 4294967295 (s.fld (F_CAN_TX_CNT_COUNT c) + 1) ∧ Frame [.can, .regs, .out] s t) ∧
  (∀ (m c : Nat) (s : State), s.Sound → c ≤ 5 → s.MayAccess m (A_CAN_Q1_CTRL c) true → (s.canChan c).q1.length ≤ 64 → ∃ t,
    exec (.canQ1Pop m c) s = .next t ∧ t.canChan c = { s.canChan c with q1 := (s.canChan c).q1.tail } ∧
    t.fld (F_CAN_Q1_STAT_LEVEL c) = (s.canChan c).q1.length - 1 ∧ s.Sends t [⟨.access m, .write, [A_CAN_Q1_CTRL c, 0, 1]⟩] ∧
    Frame [.can, .regs, .out] s t ∧ FieldsBut [F_CAN_Q1_STAT_LEVEL c] s t) ∧
  (∀ (o : Nat) (s : State), s.Sound → s.objIs o (s.objChan o) 2 = true → (aget ({} : CanObj) s.can.objs o).timedOut = false →
    ∃ t, exec (.canObjectTimeout o) s = .next t ∧ aget ({} : CanObj) t.can.objs o = { aget ({} : CanObj) s.can.objs o with timedOut := true } ∧
    t.flag (F_CAN_EVENT_OBJ_TIMEOUT (s.objChan o)) = true ∧ t.Alarmed 0x0705 ∧ AlarmsBut [0x0705] s t ∧
    t.tim.el = Nat.max s.tim.el ((aget ({} : CanObj) s.can.objs o).lastAt + bits (s.objW o 2) 31 16 * ms) ∧
    Frame [.alarms, .rcd, .tim, .elapsed, .working, .can, .regs] s t) ∧
  (∀ (c a g : Nat) (p : FastPacket) (s : State), s.Sound → c ≤ 5 → (s.canChan c).fast.find? (fun q => q.source == a && q.pgn == g) = some p →
    ∃ t, exec (.fastPacketTimeout c a g) s = .next t ∧ (∀ q ∈ (t.canChan c).fast, ¬(q.source = a ∧ q.pgn = g)) ∧
    (t.canChan c).abandoned = (s.canChan c).abandoned + 1 ∧ t.flag (F_CAN_EVENT_FP_ABANDON c) = true ∧ t.tim.el = Nat.max s.tim.el (p.since + 750 * ms) ∧
    ((s.canChan c).fpAlarmAt = none → t.Alarmed 0x0707) ∧ AlarmsBut [0x0707] s t ∧ Frame [.alarms, .rcd, .tim, .elapsed, .working, .can, .regs] s t) ∧
  (∀ (c n r : Nat) (s : State), s.Sound → c ≤ 5 → s.flag (F_CAN_STATUS_EN c) = true → s.fld (F_CAN_STATUS_STATE c) < 2 → n ≤ 127 → r ≤ 127 →
    n < bits (s.canW c 3) 7 0 → r < bits (s.canW c 3) 15 8 → ∃ t, exec (.canError c n r) s = .next t ∧ t.fld (F_CAN_STATUS_STATE c) = 0 ∧
    t.fld (F_CAN_STATUS_TEC c) = n ∧ t.fld (F_CAN_STATUS_REC c) = r ∧ t.fld (F_CAN_ERR_CNT_COUNT c) = Nat.min 4294967295 (s.fld (F_CAN_ERR_CNT_COUNT c) + 1) ∧
    AlarmsBut [0x0701, 0x0702, 0x0703] s t ∧ Frame [.alarms, .rcd, .regs] s t) ∧
  (∀ (c n r : Nat) (s : State), s.Sound → c ≤ 5 → s.flag (F_CAN_STATUS_EN c) = true → s.fld (F_CAN_STATUS_STATE c) = 0 → n ≤ 255 → 127 < n ∨ 127 < r →
    ∃ t, exec (.canError c n r) s = .next t ∧ t.fld (F_CAN_STATUS_STATE c) = 1 ∧ t.flag (F_CAN_EVENT_PASSIVE c) = true ∧ t.Alarmed 0x0702 ∧
    t.fld (F_CAN_STATUS_TEC c) = n ∧ Frame [.alarms, .rcd, .regs] s t) ∧
  (∀ (c n r : Nat) (s : State), s.Sound → c ≤ 5 → s.flag (F_CAN_STATUS_EN c) = true → s.fld (F_CAN_STATUS_STATE c) < 2 → 255 < n →
    ∃ t, exec (.canError c n r) s = .next t ∧ t.fld (F_CAN_STATUS_STATE c) = 2 ∧ t.flag (F_CAN_EVENT_BUSOFF c) = true ∧
    t.flag (F_CAN_STATUS_SYNC c) = false ∧ (t.canChan c).boffAt = some s.tim.el ∧ t.Alarmed 0x0703 ∧ Frame [.alarms, .rcd, .can, .regs] s t) ∧
  (∀ (c a : Nat) (s : State), (s.canChan c).boffAt = some a → ∃ t, exec (.busoffHoldExpiry c) s = .next t ∧
    t.canChan c = { s.canChan c with boffAt := none, recovering := true, recAt := t.tim.el } ∧ t.tim.el = Nat.max s.tim.el (a + bits (s.canW c 3) 31 16 * ms) ∧
    Frame [.tim, .elapsed, .working, .can] s t) ∧
  (∀ (c : Nat) (s : State), s.Sound → c ≤ 5 → (s.canChan c).recovering = true → ∃ t, exec (.busoffRecovered c) s = .next t ∧
    (t.canChan c).recovering = false ∧
    t.tim.el = Nat.max s.tim.el ((s.canChan c).recAt + 1408 * s.canBit c false) ∧ (t.canChan c).busyTill = t.tim.el ∧ t.fld (F_CAN_STATUS_STATE c) = 0 ∧ t.fld (F_CAN_STATUS_TEC c) = 0 ∧ t.fld (F_CAN_STATUS_REC c) = 0 ∧
    t.flag (F_CAN_STATUS_SYNC c) = true ∧ t.flag (F_CAN_EVENT_RECOVERED c) = true ∧ AlarmsBut [0x0701, 0x0702, 0x0703] s t ∧
    Frame [.alarms, .rcd, .tim, .elapsed, .working, .can, .regs] s t) ∧
  (∀ (c : Nat) (s : State), s.Sound → c ≤ 5 → s.tmOn c = true → s.tmPeriod c ≠ 0 → s.canSends c = true → s.net.batching = false → (s.canChan c).tx = [] →
    (s.canChan c).busyTill ≤ s.tim.el → ∃ t, exec (.canReferenceMessageStarts c) s = .next t ∧
    t.tim.wt % s.tmPeriod c = 0 ∧ s.tim.wt ≤ t.tim.wt ∧ t.tim.wt < s.tim.wt + s.tmPeriod c ∧ t.reg (A_CAN_TM_SOF c) = toWord (tsuNs t.tim.wt) ∧
    s.Sends t [⟨.can c, .canFrame, (canHead (s.parW (0x0C10 + c) 1).toNat (bits (s.parW (0x0C10 + c) 0) 1 1 == 1) false false : Int) ::
      ([BitVec.ofNat 8 (t.tim.wt / s.tmPeriod c % 64), 0#8, 0#8, 0#8] ++ wordBytes (s.reg (A_CAN_TM_SOF c))).map (fun b => (b.toNat : Int))⟩] ∧
    t.fld (F_CAN_TX_CNT_COUNT c) = Nat.min 4294967295 (s.fld (F_CAN_TX_CNT_COUNT c) + 1) ∧ t.flag (F_CAN_STATUS_SYNC c) = true ∧
    Frame [.tim, .elapsed, .working, .can, .regs, .out] s t ∧ FieldsBut [F_CAN_TX_CNT_COUNT c, F_CAN_STATUS_SYNC c, word32 (A_CAN_TM_SOF c)] s t) ∧
  (∀ (c : Nat) (s : State), s.tmOn c = true → s.tmPeriod c ≠ 0 → s.canSends c = true → (s.canChan c).tx = [] →
    s.tim.el + s.tmPeriod c ≤ (s.canChan c).busyTill → ∃ t, exec (.canReferenceMessageStarts c) s = .next t ∧
    (∃ f, (t.canChan c).tx = [f] ∧ f.isRef = true ∧ f.object = none ∧ f.due = t.tim.el) ∧ t.out = s.out ∧
    Frame [.tim, .elapsed, .working, .can] s t) ∧
  (∀ (c : Nat) (s : State), s.tmOn c = false → exec (.canReferenceMessageStarts c) s = .next s)

/-- R366 to R368, R370 to R372. -/
def Obligations.EthernetPortsReceiveLimitAndResolve : Prop :=
  (∀ (f : EthFrame) (s : State), s.ethOn f.port = false → exec (.ethernetFrame f) s = .next s) ∧
  (∀ (f : EthFrame) (s : State), s.Sound → s.ethOn f.port = true → f.port < 3 → f.fcsOk = false → ∃ t, exec (.ethernetFrame f) s = .next t ∧
    t.fld (F_ETH_P_RX_ERR_COUNT f.port) = Nat.min 4294967295 (s.fld (F_ETH_P_RX_ERR_COUNT f.port) + 1) ∧ Frame [.regs] s t ∧
    FieldsBut [F_ETH_P_RX_ERR_COUNT f.port] s t) ∧
  (∀ (f : EthFrame) (s : State), f.fcsOk = true → macDrops f = true ∨ handled f = false → exec (.ethernetFrame f) s = .next s) ∧
  (∀ (f : EthFrame) (s : State), s.Sound → s.ethOn f.port = true → f.port < 3 → f.fcsOk = true → macDrops f = false → handled f = true →
    s.rxLimit < aget 0 s.net.window f.port + 1 → ∃ t, exec (.ethernetFrame f) s = .next t ∧
    t.fld (F_ETH_P_RX_DROP_COUNT f.port) = Nat.min 4294967295 (s.fld (F_ETH_P_RX_DROP_COUNT f.port) + 1) ∧ t.flag F_ETH_EVENT_RX_LIMIT = true ∧
    (afind s.net.limitAt f.port = none → t.Alarmed 0x0603) ∧ AlarmsBut [0x0603] s t ∧ Frame [.alarms, .rcd, .net, .regs] s t) ∧
  (∀ (f : EthFrame) (s : State), s.Sound → s.ethOn f.port = true → f.port < 3 → f.fcsOk = true → macDrops f = false → handled f = true →
    aget 0 s.net.window f.port + 1 ≤ s.rxLimit → f.prp = none → f.payload = .other → ∃ t, exec (.ethernetFrame f) s = .next t ∧
    t.net = { s.net with window := aset s.net.window f.port (aget 0 s.net.window f.port + 1) } ∧
    t.fld (F_ETH_P_RX_OK_COUNT f.port) = Nat.min 4294967295 (s.fld (F_ETH_P_RX_OK_COUNT f.port) + 1) ∧ Frame [.net, .regs] s t ∧
    FieldsBut [F_ETH_P_RX_OK_COUNT f.port] s t) ∧
  (∀ (f : EthFrame) (s : State), s.ethOn f.port = true → f.port < 3 → f.fcsOk = true → macDrops f = false → handled f = true → aget 0 s.net.window f.port + 1 ≤ s.rxLimit →
    f.prp = none → f.payload = .icmpEcho → s.net.batching = false → ∃ t, exec (.ethernetFrame f) s = .next t ∧
    s.Sends t [s.ethSays f.port .icmp []] ∧ Frame [.net, .regs, .out] s t) ∧
  (∀ (f : EthFrame) (s : State), s.ethOn f.port = true → f.port < 3 → f.fcsOk = true → macDrops f = false → handled f = true →
    aget 0 s.net.window f.port + 1 ≤ s.rxLimit → f.prp = none → f.payload = .arpRequest (s.ipWord (f.port == 2) 0) → s.net.batching = false → ∃ t,
    exec (.ethernetFrame f) s = .next t ∧ s.Sends t [s.ethSays f.port .arp [(s.ipWord (f.port == 2) 0 : Int), s.macOf f.port]] ∧
    Frame [.net, .regs, .out] s t) ∧
  (∀ (f : EthFrame) (ip k : Nat) (s : State), s.ethOn f.port = true → f.port < 3 → f.fcsOk = true → macDrops f = false → handled f = true →
    aget 0 s.net.window f.port + 1 ≤ s.rxLimit → f.prp = none → f.payload = .arpReply ip k → s.net.waiting = [] → ∃ t, exec (.ethernetFrame f) s = .next t ∧
    t.net.arp.getLast? = some ip ∧ afind t.net.arpInfo ip = some (k, s.tim.el) ∧ t.net.arp.length ≤ 64 ∧ t.CauseGone 0x0607 ∧ Frame [.alarms, .rcd, .net, .regs] s t) ∧
  (∀ (f : EthFrame) (q : Nat) (s : State), s.Sound → s.ethOn f.port = true → f.port < 3 → f.fcsOk = true → macDrops f = false → handled f = true →
    aget 0 s.net.window f.port + 1 ≤ s.rxLimit → f.prp = some q → f.payload = .other → s.net.prp.any (fun e => e.1 == f.srcMac && e.2.1 == q) = true →
    ∃ t, exec (.ethernetFrame f) s = .next t ∧ t.fld (F_ETH_P_DUP_COUNT f.port) = Nat.min 4294967295 (s.fld (F_ETH_P_DUP_COUNT f.port) + 1) ∧
    Frame [.net, .regs] s t ∧ FieldsBut [F_ETH_P_DUP_COUNT f.port] s t) ∧
  (∀ (m q : Nat) (e : Nat × Nat × Nat) (s : State), s.net.prp.find? (fun e => e.1 == m && e.2.1 == q) = some e →
    ∃ t, exec (.prpEntryForget m q) s = .next t ∧ t.net.prp.any (fun e => e.1 == m && e.2.1 == q) = false ∧ t.tim.el = Nat.max s.tim.el (e.2.2 + 400 * ms) ∧
    Frame [.tim, .elapsed, .working, .net] s t) ∧
  (∀ (p : Nat) (s : State), ∃ t, exec (.rxLimitWindow p) s = .next t ∧
    t.net = { s.net with window := adel s.net.window p, windowAt := aset s.net.windowAt p t.tim.el } ∧
    t.tim.el = Nat.max s.tim.el (aget 0 s.net.windowAt p + 10 * ms) ∧ (s.rxLimit < aget 0 s.net.window p → t.alarms = s.alarms) ∧
    (aget 0 s.net.window p ≤ s.rxLimit → (∀ e ∈ s.net.window, e.2 ≤ s.rxLimit) → t.CauseGone 0x0603) ∧ AlarmsBut [0x0603] s t ∧
    Frame [.alarms, .rcd, .tim, .elapsed, .working, .net, .regs] s t) ∧
  (∀ (p : Nat) (s : State), s.Sound → p < 3 → s.ethOn p = true → ∃ t, exec (.phyPoll p true true) s = .next t ∧
    s.Sends t [⟨.service, .mdio, [(s.par 0x0B05 p : Int), 1]⟩] ∧ afind t.net.polledAt p = some t.tim.el ∧
    (∀ e, afind s.net.polledAt p = some e → t.tim.el = Nat.max s.tim.el (e + 100 * ms)) ∧
    t.flag (bitAt A_ETH_STATUS p) = true ∧ t.flag (bitAt A_ETH_STATUS (4 + p)) = true ∧ (s.alarms = [] → t.alarms = []) ∧
    Frame [.alarms, .rcd, .tim, .elapsed, .working, .net, .regs, .out] s t) ∧
  (∀ (p : Nat) (s : State), s.Sound → p < 3 → s.ethOn p = true → s.flag (bitAt A_ETH_STATUS p) = true → ∃ t, exec (.phyPoll p true false) s = .next t ∧
    t.flag (bitAt A_ETH_STATUS p) = false ∧ t.flag (bitAt A_ETH_STATUS (4 + p)) = true ∧ t.flag F_ETH_EVENT_LINK_DOWN = true ∧ t.Alarmed 0x0601 ∧
    Frame [.alarms, .rcd, .tim, .elapsed, .working, .net, .regs, .out] s t) ∧
  (∀ (p : Nat) (b : Bool) (s : State), s.Sound → p < 3 → s.ethOn p = true → s.flag (bitAt A_ETH_STATUS (4 + p)) = true →
    ∃ t, exec (.phyPoll p false b) s = .next t ∧ t.flag (bitAt A_ETH_STATUS p) = s.flag (bitAt A_ETH_STATUS p) ∧
    t.flag (bitAt A_ETH_STATUS (4 + p)) = false ∧ t.flag F_ETH_EVENT_PHY_FAIL = true ∧ t.Alarmed 0x0602 ∧
    Frame [.alarms, .rcd, .tim, .elapsed, .working, .net, .regs, .out] s t ∧
    FieldsBut (bitAt A_ETH_STATUS (4 + p) :: F_ETH_EVENT_PHY_FAIL :: recFields) s t) ∧
  (∀ (p : Nat) (b c : Bool) (s : State), s.ethOn p = false → exec (.phyPoll p b c) s = .next s) ∧
  (∀ (m : Nat) (v : Word) (s : State), s.Sound → s.MayAccess m A_ETH_MDIO true → fieldOf v F_ETH_MDIO_START = 1 → s.flag F_ETH_MDIO_BUSY = false →
    ∃ t, exec (.mdioRead m v) s = .next t ∧ t.net = { s.net with mdio := some (fieldOf v F_ETH_MDIO_PHY, fieldOf v F_ETH_MDIO_REG) } ∧
    t.flag F_ETH_MDIO_BUSY = true ∧
    s.Sends t [⟨.service, .mdio, [fieldOf v F_ETH_MDIO_PHY, fieldOf v F_ETH_MDIO_REG]⟩, ⟨.access m, .write, [A_ETH_MDIO, 0, v.toNat]⟩] ∧
    Frame [.net, .regs, .out] s t ∧ FieldsBut [word32 A_ETH_MDIO] s t) ∧
  (∀ (d : Nat) (s : State), s.Sound → s.net.mdio.isSome = true → d < 65536 → ∃ t, exec (.mdioReadDone (some d)) s = .next t ∧ t.net.mdio = none ∧
    t.flag F_ETH_MDIO_BUSY = false ∧ t.flag F_ETH_MDIO_NOACK = false ∧ t.fld F_ETH_MDIO_DATA = d ∧ Frame [.net, .regs] s t ∧
    FieldsBut [F_ETH_MDIO_BUSY, F_ETH_MDIO_NOACK, F_ETH_MDIO_DATA] s t) ∧
  (∀ s : State, s.Sound → s.net.mdio.isSome = true → ∃ t, exec (.mdioReadDone none) s = .next t ∧ t.net.mdio = none ∧ t.flag F_ETH_MDIO_BUSY = false ∧
    t.flag F_ETH_MDIO_NOACK = true ∧ Frame [.net, .regs, .freeCtr] s t ∧ FieldsBut [F_ETH_MDIO_BUSY, F_ETH_MDIO_NOACK, F_ETH_MDIO_DATA] s t) ∧
  (∀ (ip : Nat) (e : Nat × Nat) (s : State), ip ∈ s.net.arp → afind s.net.arpInfo ip = some e → s.onService ip = false → s.ethOn 0 = true → s.ethOn 1 = true →
    s.net.batching = false → ∃ t, exec (.arpRefresh ip) s = .next t ∧ s.Sends t [s.ethSays 0 .arp [ip], s.ethSays 1 .arp [ip]] ∧
    t.tim.el = Nat.max s.tim.el (e.2 + 60 * sec) ∧ afind t.net.arpInfo ip = some (e.1, t.tim.el) ∧
    Frame [.tim, .elapsed, .working, .net, .regs, .out] s t) ∧
  (∀ (ip : Nat) (s : State), ip ∉ s.net.arp → exec (.arpRefresh ip) s = .next s) ∧
  (∀ (ip : Nat) (w : Waiting) (s : State), s.Sound → s.net.waiting.find? (fun w => w.hop == ip) = some w → ∃ t, exec (.arpTimeout ip) s = .next t ∧
    t.tim.el = Nat.max s.tim.el (w.since + sec) ∧ (∀ x ∈ t.net.waiting, x.hop = ip → t.tim.el < x.since + sec) ∧
    t.flag F_ETH_EVENT_ARP_FAIL = true ∧ t.Alarmed 0x0607 ∧ AlarmsBut [0x0607] s t ∧ Frame [.alarms, .rcd, .tim, .elapsed, .working, .net, .regs] s t)

/-- R378, R392 to R394. -/
def Obligations.SerialPortsAndTheRegisterServiceAnswer : Prop :=
  (∀ (p : Nat) (x : Sentence) (s : State), s.sptMode p ≠ 1 → s.sptMode p ≠ 3 → exec (.serialSentence p x) s = .next s) ∧
  (∀ (p n : Nat) (x : Sentence) (s : State), s.Sound → p ≤ 7 → s.sptMode p = 1 ∨ s.sptMode p = 3 → x.overflow = false → x.charErr = false →
    s.sentenceOk p x = true → s.slotsAt 0 p false = [n] → ∃ t, exec (.serialSentence p x) s = .next t ∧
    (∃ i, t.agr.own = s.agr.own ++ [i] ∧ i.side = s.pins.side ∧ i.cls = 0 ∧ i.num = n ∧ i.first = x.first ∧ i.last = x.last ∧ i.data = byteWords x.chars) ∧
    t.fld (F_SPT_CNT0_LOW p) = Nat.min 65535 (s.fld (F_SPT_CNT0_LOW p) + 1) ∧ Frame [.agr, .twn, .regs, .out] s t ∧ FieldsBut [F_SPT_CNT0_LOW p] s t) ∧
  (∀ (p : Nat) (x : Sentence) (s : State), s.Sound → p ≤ 7 → s.sptMode p = 1 ∨ s.sptMode p = 3 → x.overflow = true → ∃ t,
    exec (.serialSentence p x) s = .next t ∧ t.flag (F_SPT_EVENT_OVERRUN p) = true ∧
    t.fld (F_SPT_CNT1_HIGH p) = Nat.min 65535 (s.fld (F_SPT_CNT1_HIGH p) + 1) ∧ t.Alarmed 0x0801 ∧ AlarmsBut [0x0801] s t ∧ t.agr = s.agr ∧
    Frame [.alarms, .rcd, .regs] s t ∧ FieldsBut (F_SPT_EVENT_OVERRUN p :: F_SPT_CNT1_HIGH p :: recFields) s t) ∧
  (∀ (p : Nat) (x : Sentence) (s : State), s.Sound → p ≤ 7 → s.sptMode p = 1 ∨ s.sptMode p = 3 → x.overflow = false → x.charErr = true →
    ∃ t, exec (.serialSentence p x) s = .next t ∧ t.flag (F_SPT_EVENT_CHAR_ERR p) = true ∧
    t.fld (F_SPT_CNT0_HIGH p) = Nat.min 65535 (s.fld (F_SPT_CNT0_HIGH p) + 1) ∧ t.fld (F_SPT_CNT1_LOW p) = Nat.min 65535 (s.fld (F_SPT_CNT1_LOW p) + 1) ∧
    (afind s.spt.charAt p = none → t.Alarmed 0x0802) ∧ t.agr = s.agr ∧ Frame [.alarms, .rcd, .spt, .regs] s t) ∧
  (∀ (p : Nat) (x : Sentence) (s : State), s.Sound → p ≤ 7 → s.sptMode p = 1 ∨ s.sptMode p = 3 → x.overflow = false → x.charErr = false →
    s.sentenceOk p x = false → ∃ t, exec (.serialSentence p x) s = .next t ∧
    t.fld (F_SPT_CNT1_LOW p) = Nat.min 65535 (s.fld (F_SPT_CNT1_LOW p) + 1) ∧ Frame [.regs] s t ∧ FieldsBut [F_SPT_CNT1_LOW p] s t) ∧
  (∀ (p a b : Nat) (l : List Byte) (s : State), s.sptMode p ≠ 4 → exec (.rtcmFrame p l a b) s = .next s) ∧
  (∀ (p a b n : Nat) (l : List Byte) (s : State), s.Sound → p ≤ 7 → s.sptMode p = 4 → rtcmOk l = true → s.slotsAt 0 p true = [n] →
    ∃ t, exec (.rtcmFrame p l a b) s = .next t ∧
    (∃ i, t.agr.own = s.agr.own ++ [i] ∧ i.side = s.pins.side ∧ i.cls = 0 ∧ i.num = n ∧ i.first = a ∧ i.last = b ∧ i.data = byteWords l) ∧
    t.fld (F_SPT_CNT0_LOW p) = Nat.min 65535 (s.fld (F_SPT_CNT0_LOW p) + 1) ∧ Frame [.agr, .twn, .regs, .out] s t ∧ FieldsBut [F_SPT_CNT0_LOW p] s t) ∧
  (∀ (p a b : Nat) (l : List Byte) (s : State), s.Sound → p ≤ 7 → s.sptMode p = 4 → rtcmOk l = false → ∃ t, exec (.rtcmFrame p l a b) s = .next t ∧
    t.fld (F_SPT_CNT1_LOW p) = Nat.min 65535 (s.fld (F_SPT_CNT1_LOW p) + 1) ∧ Frame [.regs] s t ∧ FieldsBut [F_SPT_CNT1_LOW p] s t) ∧
  (∀ (r : SvcReq) (s : State), s.serviceOn r.port = false ∨ s.serviceClient r.client = false → exec (.serviceRead r) s = .next s ∧ exec (.serviceWrite r) s = .next s) ∧
  (∀ (r : SvcReq) (w : Word) (s u : State), s.net.batching = false → s.serviceOn 2 = true → s.serviceClient r.client = true → r.port = 2 → afind s.net.clients r.client = none →
    r.magicOk = true → r.crcOk = true → r.op = 1 → r.count = 1 → r.addr % 4 = 0 → r.data = [] → (s.reach r.stamp).busRead mEthSvc r.addr = (u, accOk, w) →
    u.net.arp.contains (u.nextHop true r.client) = true → ∃ t, exec (.serviceRead r) s = .next t ∧
    u.Sends t [u.ethSays 2 .svcResponse ((r.client : Int) :: wordData (responseFrame 1 r.seq r.addr 0 1 [w]))] ∧
    afind t.net.clients r.client = some ⟨r.seq, u.tim.el, wordData (responseFrame 1 r.seq r.addr 0 1 [w])⟩ ∧ Frame [.net, .regs, .out] u t) ∧
  (∀ (r : SvcReq) (w : Word) (s u : State), s.net.batching = false → s.serviceOn 2 = true → s.serviceClient r.client = true → r.port = 2 → afind s.net.clients r.client = none →
    tbit (s.par 0x0B08 2) 0 = true → r.magicOk = true → r.crcOk = true → r.op = 2 → r.count = 1 → r.addr % 4 = 0 → r.data = [w] →
    (s.reach r.stamp).busWrite mEthSvc r.addr w = (u, accOk, 0#32) → u.net.arp.contains (u.nextHop true r.client) = true →
    ∃ t, exec (.serviceWrite r) s = .next t ∧ u.Sends t [u.ethSays 2 .svcResponse ((r.client : Int) :: wordData (responseFrame 2 r.seq r.addr 0 1 []))] ∧
    Frame [.net, .regs, .out] u t) ∧
  (∀ (r : SvcReq) (s : State), s.net.batching = false → s.serviceOn 2 = true → s.serviceClient r.client = true → r.port = 2 → afind s.net.clients r.client = none →
    tbit (s.par 0x0B08 2) 0 = false → r.magicOk = true → r.crcOk = true → r.op = 2 → serviceFormat 2 r.addr r.count 256 r.data = true →
    s.net.arp.contains (s.nextHop true r.client) = true → ∃ t, exec (.serviceWrite r) s = .next t ∧
    s.Sends t [s.ethSays 2 .svcResponse ((r.client : Int) :: wordData (responseFrame 2 r.seq r.addr 4 0 []))] ∧
    Frame [.tim, .elapsed, .working, .net, .regs, .out] s t) ∧
  (∀ (r : SvcReq) (s : State), s.net.batching = false → s.serviceOn 2 = true → s.serviceClient r.client = true → r.port = 2 → afind s.net.clients r.client = none →
    r.crcOk = false → s.net.arp.contains (s.nextHop true r.client) = true → ∃ t, exec (.serviceRead r) s = .next t ∧
    s.Sends t [s.ethSays 2 .svcResponse ((r.client : Int) :: wordData (responseFrame r.op r.seq r.addr 3 0 []))] ∧
    Frame [.tim, .elapsed, .working, .net, .regs, .out] s t) ∧
  (∀ (r : SvcReq) (l : SvcLast) (s : State), s.net.batching = false → s.serviceOn 2 = true → s.serviceClient r.client = true → r.port = 2 → afind s.net.clients r.client = some l →
    l.seq = r.seq → (s.reach r.stamp).tim.el ≤ l.stamp + sec → s.net.arp.contains (s.nextHop true r.client) = true → ∃ t,
    exec (.serviceRead r) s = .next t ∧ s.Sends t [s.ethSays 2 .svcResponse ((r.client : Int) :: l.response)] ∧ t.net = s.net ∧
    Frame [.tim, .elapsed, .working, .regs, .out] s t)

/-- R403, R404, R406, R407, R410 to R412, R414. -/
def Obligations.FieldChannelsSampleDriveAndDiagnose : Prop :=
  (∀ (n : Nat) (x : FieldInput) (s : State), s.fchUsed n = false ∨ s.fchMode n = 0 ∨ s.flag (F_FCH_STATUS_NO_ENGINE n) = true →
    exec (.fieldSampleTaken n x) s = .next s) ∧
  (∀ (n : Nat) (l : List Int) (p : Cic × List Int) (s : State), s.fchUsed n = true → s.fchMode n ≠ 0 → s.flag (F_FCH_STATUS_NO_ENGINE n) = false →
    Cic.run (respRatio (s.fchResp n)) (s.fchan n).cic [] l = p → ∃ t, exec (.fieldSampleTaken n (.codes l)) s = .next t ∧ (t.fchan n).cic = p.1 ∧
    (t.fchan n).fir = (p.2 ++ (s.fchan n).fir).take (respSettling (s.fchResp n) * respFir (s.fchResp n)) ∧ (t.fchan n).lastAt = s.sampleInstant n ∧
    t.tim.wt = s.sampleInstant n ∧ t.tim.wt % (1000 * respPeriodUs (s.fchResp n)) = 0 ∧ s.tim.wt ≤ t.tim.wt ∧ (∀ m, m ≠ n → t.fchan m = s.fchan m)) ∧
  (∀ (n q : Nat) (x : FieldInput) (s : State), s.fchUsed n = true → s.fchMode n ≠ 0 → s.flag (F_FCH_STATUS_NO_ENGINE n) = false → n ∈ s.hlt.injRunning →
    s.sampleInstant n = q → ∃ t, exec (.fieldSampleTaken n x) s = .next t ∧ (t.fchan n).testLeft = (s.fchan n).testLeft - 1 ∧
    (s.fchMode n = 1 ∨ s.fchMode n = 2 → (t.fchan n).testRaw = t.rawOf n q) ∧ (t.fchan n).newest = (s.fchan n).newest ∧
    Frame [.fch, .tim, .elapsed, .working] s t) ∧
  (∀ (n : Nat) (x : FieldInput) (s : State), s.Sound → s.fchUsed n = true → s.fchMode n ≠ 0 → s.flag (F_FCH_STATUS_NO_ENGINE n) = false →
    n ∉ s.hlt.injRunning → 0 < (s.fchan n).settle → ∃ t, exec (.fieldSampleTaken n x) s = .next t ∧
    (t.fchan n).settle = (s.fchan n).settle - 1 ∧ (t.fchan n).newest = (s.fchan n).newest ∧
    t.flag (F_FCH_STATUS_SETTLED n) = decide ((s.fchan n).settle = 1) ∧
    t.reg (A_FCH_RAW n) = s.reg (A_FCH_RAW n) ∧ Frame [.fch, .tim, .elapsed, .working, .regs] s t ∧
    FieldsBut [F_FCH_STATUS_SETTLED n, F_FCH_STATUS_VALID n] s t) ∧
  (∀ (n q d : Nat) (x : FieldInput) (s : State), s.Sound → s.fchUsed n = true → s.fchMode n = 1 ∨ s.fchMode n = 2 →
    s.flag (F_FCH_STATUS_NO_ENGINE n) = false → n ∉ s.hlt.injRunning → (s.fchan n).settle = 0 → s.sampleInstant n = q →
    d = q - 1000 * respDelayUs (s.fchResp n) →
    ∃ t, exec (.fieldSampleTaken n x) s = .next t ∧ (t.fchan n).newest = some (d, q, t.rawOf n q) ∧
    (t.fchan n).cand = (if s.ofCycle d = true ∧ q ≤ s.dev.freezeAt + 1400000 then some (d, q, t.rawOf n q) else (s.fchan n).cand) ∧
    (∀ m, m ≠ n → t.fchan m = s.fchan m) ∧ t.reg (A_FCH_RAW n) = intWord (t.rawOf n q) ∧ t.reg (A_FCH_PU n) = intWord (s.puOf n (t.rawOf n q)) ∧
    t.reg (A_FCH_MEAS_T n) = toWord (tsuNs d) ∧ t.flag (F_FCH_STATUS_VALID n) = s.fchValid n ∧ Frame [.fch, .tim, .elapsed, .working, .regs] s t ∧
    FieldsBut [word32 (A_FCH_RAW n), word32 (A_FCH_PU n), word32 (A_FCH_MEAS_T n), F_FCH_STATUS_VALID n] s t) ∧
  (∀ (n q : Nat) (l : List (Bool × Bool)) (s : State), s.Sound → s.fchUsed n = true → s.fchMode n = 6 → s.flag (F_FCH_STATUS_NO_ENGINE n) = false →
    n ∉ s.hlt.injRunning → (s.fchan n).settle = 0 → s.sampleInstant n = q → ∃ t, exec (.fieldSampleTaken n (.lines l)) s = .next t ∧
    (t.fchan n).count = ((s.fchan n).turn l).count ∧ (t.fchan n).newest = some (q, q, ((s.fchan n).turn l).count) ∧
    t.reg (A_FCH_RAW n) = intWord ((s.fchan n).turn l).count ∧ t.reg (A_FCH_MEAS_T n) = toWord (tsuNs q)) ∧
  (∀ (m n : Nat) (v : Word) (s : State), s.Sound → n < 128 → s.MayAccess m (A_FCH_OUT n) true → s.fld (F_FCH_CFG_SRC n) = 0 → s.fchOutput n = true →
    s.flag (F_FCH_CFG_LEASE n) = true → s.fld F_SAF_STATUS_GATE = gateOpen → ∃ t, exec (.fieldOutputWrite m n v) s = .next t ∧
    t.reg (A_FCH_OUT n) = v ∧ t.fchDrives n = true ∧ t.flag (F_FCH_STATUS_CLAMP n) = (s.outRaw n v.toInt).2 ∧
    ((s.outRaw n v.toInt).2 = false → t.reg (A_FCH_CMD n) = v) ∧ s.Sends t [⟨.access m, .write, [A_FCH_OUT n, 0, v.toNat]⟩] ∧
    Frame [.fch, .regs, .out] s t ∧ FieldsBut [word32 (A_FCH_OUT n), word32 (A_FCH_CMD n), F_FCH_STATUS_CLAMP n] s t) ∧
  (∀ (m n : Nat) (v : Word) (s : State), s.Sound → n < 128 → s.MayAccess m (A_FCH_OUT n) true → s.flag (F_FCH_CFG_LEASE n) = true →
    s.fld F_SAF_STATUS_GATE ≠ gateOpen → ∃ t, exec (.fieldOutputWrite m n v) s = .next t ∧ t.reg (A_FCH_OUT n) = v ∧ t.fch = s.fch ∧
    Frame [.regs, .out] s t ∧ FieldsBut [word32 (A_FCH_OUT n)] s t) ∧
  (∀ (n k e : Nat) (s : State), s.Sound → n < 128 → k ≤ 2 → s.flag (condBit n k) = false → afind (s.fchan n).timers k = some e →
    ∃ t, exec (.fieldFaultTimerEnds n k) s = .next t ∧ t.flag (condBit n k) = true ∧ t.flag (condEvent n k) = true ∧ t.Alarmed (0x1001 + k) ∧
    t.flag (F_FCH_STATUS_VALID n) = false ∧ afind (t.fchan n).timers k = none ∧ t.tim.el = Nat.max s.tim.el (e + s.fltTime n) ∧
    AlarmsBut [0x1001 + k] s t ∧ Frame [.alarms, .rcd, .tim, .elapsed, .working, .fch, .regs] s t) ∧
  (∀ (n k e : Nat) (s : State), s.Sound → n < 128 → k ≤ 2 → s.flag (condBit n k) = true → afind (s.fchan n).timers k = some e →
    ∃ t, exec (.fieldFaultTimerEnds n k) s = .next t ∧ t.flag (condBit n k) = false ∧ t.tim.el = Nat.max s.tim.el (e + s.fltTime n) ∧
    ((∀ m < 128, m ≠ n → s.flag (condBit m k) = false) → t.CauseGone (0x1001 + k)) ∧
    ((∃ m < 128, m ≠ n ∧ s.flag (condBit m k) = true) → t.alarms = s.alarms) ∧ Frame [.alarms, .rcd, .tim, .elapsed, .working, .fch, .regs] s t ∧
    FieldsBut (condBit n k :: F_FCH_STATUS_VALID n :: recFields) s t) ∧
  (∀ (n k : Nat) (s : State), afind (s.fchan n).timers k = none ∨ 2 < k → exec (.fieldFaultTimerEnds n k) s = .next s) ∧
  (∀ (n e : Nat) (s : State), s.Sound → n < 128 → s.fchOutput n = true → s.fchDrives n = true → s.flag (F_FCH_STATUS_NO_ENGINE n) = false →
    afind (s.fchan n).timers 3 = some e → 16777216 < 100 * (s.int (F_FCH_RB_PU n) - s.int (F_FCH_CMD_PU n)).natAbs →
    ∃ t, exec (.readbackMismatch n) s = .next t ∧ t.tim.el = Nat.max s.tim.el (e + s.fltTime n) ∧
    t.flag (F_FCH_STATUS_RB_ERR n) = true ∧ t.flag (F_FCH_EVENT_RB_EVT n) = true ∧ t.Alarmed 0x1009 ∧ AlarmsBut [0x1009] s t ∧
    Frame [.alarms, .rcd, .tim, .elapsed, .working, .fch, .regs] s t) ∧
  (∀ (n : Nat) (s : State), afind (s.fchan n).timers 3 = none ∨ s.fchDrives n = false ∨
    100 * (s.int (F_FCH_RB_PU n) - s.int (F_FCH_CMD_PU n)).natAbs ≤ 16777216 → exec (.readbackMismatch n) s = .next s) ∧
  (∀ (n : Nat) (s : State), s.Sound → s.fchUsed n = true → s.fchMode n = 1 ∨ s.fchMode n = 2 → ∃ t, exec (.modulatorOverload n) s = .next t ∧
    t.flag (F_FCH_EVENT_OVL n) = true ∧ t.fld (F_FCH_CNT_OVER n) = Nat.min 65535 (s.fld (F_FCH_CNT_OVER n) + 1) ∧ t.Alarmed 0x1008 ∧
    (t.fchan n).settle = respSettling (s.fchResp n) ∧ (t.fchan n).newest = none ∧ (t.fchan n).cand = none ∧ (t.fchan n).cic = {} ∧ (t.fchan n).fir = [] ∧
    t.flag (F_FCH_STATUS_SETTLED n) = false ∧
    t.flag (F_FCH_STATUS_VALID n) = false ∧ AlarmsBut [0x1008] s t ∧ Frame [.alarms, .rcd, .fch, .regs] s t)

/-- R194, R196, R199, R200, R415, R472, R479, R480. -/
def Obligations.EnginesAreSparedAndLoopsSupervised : Prop :=
  (∀ (k : Nat) (s : State), k ≤ 7 → s.spareFree k = true → afind s.hlt.engineTest k = none → s.dev.st ≠ .boot → ∃ t, exec (.engineShadowEnd k true) s = .next t ∧
    t.engineUnderTest k = (s.engineUnderTest k + 1) % 16 ∧ t.hlt.engineMism = s.hlt.engineMism ∧ t.hlt.engineTest = s.hlt.engineTest ∧
    (∀ e, afind s.hlt.checkAt (16 + k) = some e → t.tim.el = Nat.max s.tim.el (e + sec)) ∧ afind t.hlt.checkAt (16 + k) = some t.tim.el ∧
    Frame [.tim, .elapsed, .working, .hlt] s t) ∧
  (∀ (k : Nat) (s : State), k ≤ 7 → s.spareFree k = true → afind s.hlt.engineTest k = none → s.dev.st ≠ .boot → ∃ t, exec (.engineShadowEnd k false) s = .next t ∧
    t.hlt.engineMism = Nat.min 65535 (s.hlt.engineMism + 1) ∧ afind t.hlt.engineTest k = some (s.engineUnderTest k) ∧
    t.engineUnderTest k = s.engineUnderTest k ∧ Frame [.tim, .elapsed, .working, .hlt] s t) ∧
  (∀ (k : Nat) (b : Bool) (s : State), 7 < k ∨ s.spareFree k = false ∨ s.dev.st = .boot → exec (.engineShadowEnd k b) s = .next s) ∧
  (∀ (k j : Nat) (s : State), s.Sound → k ≤ 7 → j < 16 → afind s.hlt.engineTest k = some j → ∃ t, exec (.engineTestEnd k true) s = .next t ∧
    afind t.hlt.engineTest k = none ∧ t.engineUnderTest k = (j + 1) % 16 ∧ t.spareFree k = false ∧ (32 * k + j) ∈ t.mram.riserEngines ∧
    t.flag (F_FCH_STATUS_SPARE (16 * k + j)) = true ∧ t.flag (F_FCH_EVENT_ENGINE_EVT (16 * k + j)) = true ∧ t.Alarmed 0x1005 ∧ t.Alarmed 0x1006 ∧
    (∀ e, afind s.hlt.checkAt (16 + k) = some e → t.tim.el = Nat.max s.tim.el (e + 10 * ms)) ∧
    AlarmsBut [0x1005, 0x1006] s t ∧ Frame [.alarms, .rcd, .mram, .tim, .elapsed, .working, .hlt, .fch, .regs] s t) ∧
  (∀ (k j : Nat) (s : State), s.Sound → k ≤ 7 → j < 16 → afind s.hlt.engineTest k = some j → ∃ t, exec (.engineTestEnd k false) s = .next t ∧
    afind t.hlt.engineTest k = none ∧ t.spareFree k = false ∧ (32 * k + 16) ∈ t.mram.riserEngines ∧ t.Alarmed 0x1005 ∧
    AlarmsBut [0x1005] s t ∧ Frame [.alarms, .rcd, .mram, .tim, .elapsed, .working, .hlt, .fch, .regs] s t) ∧
  (∀ (k : Nat) (b : Bool) (s : State), afind s.hlt.engineTest k = none → exec (.engineTestEnd k b) s = .next s) ∧
  (∀ (n : Nat) (s : State), s.Sound → s.dev.st ≠ .boot → s.fchUsed n = true → s.injectionTested n = true → n ∉ s.hlt.injRunning → ∃ t,
    exec (.fieldTestInjection n) s = .next t ∧ t.hlt.injRunning = s.hlt.injRunning ++ [n] ∧ t.flag (F_FCH_STATUS_SETTLED n) = false ∧
    (t.fchan n).testLeft = respSettling (s.fchResp n) + 1 ∧
    (∀ e, afind s.hlt.checkAt (64 + n) = some e → t.tim.el = Nat.max s.tim.el (e + s.injectionInterval n)) ∧
    t.flag (F_FCH_STATUS_VALID n) = false ∧ Frame [.tim, .elapsed, .working, .hlt, .fch, .regs] s t ∧
    FieldsBut [F_FCH_STATUS_SETTLED n, F_FCH_STATUS_VALID n] s t) ∧
  (∀ (n : Nat) (x : Int) (s : State), s.Sound → n < 128 → n ∈ s.hlt.injRunning → (s.fchan n).testLeft = 0 → (s.fchan n).testRaw = x → ∃ t,
    exec (.fieldTestInjectionEnds n) s = .next t ∧
    n ∉ t.hlt.injRunning ∧ t.hlt.injChan = n ∧ t.hlt.injPassed = injectionPasses (s.fchMode n) x ∧ (t.fchan n).settle = respSettling (s.fchResp n) ∧
    t.flag (F_FCH_STATUS_SETTLED n) = false ∧ (injectionPasses (s.fchMode n) x = true → aget 0 t.hlt.injFails n = 0 ∧ t.alarms = s.alarms) ∧
    (injectionPasses (s.fchMode n) x = false → aget 0 s.hlt.injFails n = 1 → aget 0 t.hlt.injFails n = 2 ∧ t.Alarmed 0x0C0B) ∧
    Frame [.alarms, .rcd, .hlt, .fch, .regs] s t) ∧
  (∀ (n : Nat) (s : State), n ∉ s.hlt.injRunning ∨ 0 < (s.fchan n).testLeft → exec (.fieldTestInjectionEnds n) s = .next s) ∧
  (∀ (k : Nat) (s : State), s.loopOn k = false → exec (.loopSample k) s = .next s) ∧
  (∀ (k : Nat) (s : State), s.Sound → k < 64 → s.loopOn k = true → s.loopDriving = false → (s.loop k).samples = 0 → ∃ t, exec (.loopSample k) s = .next t ∧
    (t.loop k).samples = 1 ∧ (t.loop k).uPrev = s.loopRb k ∧ (t.loop k).fbPrev = s.loopFb k ∧ (t.loop k).fe = none ∧ (t.loop k).pl = none ∧
    (t.loop k).feFault = false ∧ (t.loop k).plFault = false ∧ t.flag (maskBit A_LOOP_DRIVE0 k) = false ∧ t.flag (maskBit A_LOOP_CLAMP0 k) = false ∧
    (∀ j, j ≠ k → t.loop j = s.loop j) ∧ (s.holds = false → t.out = s.out)) ∧
  (∀ (k a : Nat) (s : State), s.Sound → k < 64 → (s.loop k).fe = some a → (s.loop k).feFault = false → ∃ t, exec (.loopFollowingError k) s = .next t ∧
    (t.loop k).feFault = true ∧ t.flag F_LOOP_EVENT_FE = true ∧ t.flag (maskBit A_LOOP_FAULT0 k) = true ∧ t.Alarmed 0x1401 ∧ AlarmsBut [0x1401] s t ∧
    t.tim.el = Nat.max s.tim.el (a + bits (s.loopW k 11) 15 0 * ms) ∧ (∀ j, j ≠ k → t.loop j = s.loop j) ∧
    (s.holds = true → s.loopActs k = true → (s.loop k).halted = 0 → (t.loop k).halted = 1)) ∧
  (∀ (k a : Nat) (s : State), s.Sound → k < 64 → (s.loop k).pl = some a → (s.loop k).plFault = false → ∃ t, exec (.loopPlausibility k) s = .next t ∧
    (t.loop k).plFault = true ∧ t.flag F_LOOP_EVENT_PL = true ∧ t.flag (maskBit A_LOOP_FAULT0 k) = true ∧ t.Alarmed 0x1402 ∧ AlarmsBut [0x1402] s t ∧
    t.tim.el = Nat.max s.tim.el (a + bits (s.loopW k 11) 31 16 * ms) ∧ (∀ j, j ≠ k → t.loop j = s.loop j)) ∧
  (∀ (k : Nat) (s : State), ((s.loop k).fe = none → exec (.loopFollowingError k) s = .next s) ∧ ((s.loop k).pl = none → exec (.loopPlausibility k) s = .next s))

/-- R419 to R425, R427. -/
def Obligations.InterruptsAreAssignedClaimedAndCompleted : Prop :=
  (∀ (n k : Nat) (s : State), s.Sound → s.intc.targets.length = 4 → s.pendingSource n = true → afind s.intc.assigned n = none →
    (targetOrder (s.fld (F_INTC_SRC_CFG_TARGET n))).find? (fun u => tbit (s.fld (F_INTC_SRC_CFG_EN n)) u && s.able u) = some k →
    ∃ t, exec (.interruptAssert n) s = .next t ∧ t.intc.assigned = s.intc.assigned ++ [(n, k)] ∧ t.fld (F_INTC_SRC_CFG_TARGET n) = k ∧
    (∀ j, (t.target j).stack = (s.target j).stack) ∧ t.intc.edge = s.intc.edge ∧
    ((s.target k).stack = [] → s.targetIsIdle k = true → (t.target k).line = true) ∧ Frame [.intc, .regs] s t ∧
    FieldsBut [F_INTC_SRC_CFG_TARGET n] s t) ∧
  (∀ (n : Nat) (s : State), s.pendingSource n = false ∨
    (targetOrder (s.fld (F_INTC_SRC_CFG_TARGET n))).find? (fun u => tbit (s.fld (F_INTC_SRC_CFG_EN n)) u && s.able u) = none →
    ∃ t, exec (.interruptAssert n) s = .next t ∧ t.intc.assigned = s.intc.assigned ∧ (∀ j, (t.target j).stack = (s.target j).stack) ∧
    t.intc.edge = s.intc.edge ∧ Frame [.intc] s t) ∧
  (∀ (m n k : Nat) (s : State), k < 4 → n < 384 → s.intc.targets.length = 4 → s.MayAccess m (A_INTC_T_CLAIM k) false → s.able k = true →
    (n, k) ∈ s.intc.assigned → (∀ e ∈ s.intc.assigned, e.2 = k → n ≤ e.1) → ∃ t, exec (.claim m k) s = .next t ∧
    (t.target k).stack = (s.target k).stack ++ [n] ∧ (∀ j, j ≠ k → (t.target j).stack = (s.target j).stack) ∧ afind t.intc.assigned n = none ∧
    (∀ e, e.1 ≠ n → (e ∈ t.intc.assigned ↔ e ∈ s.intc.assigned)) ∧ n ∉ t.intc.edge ∧ t.inService n = true ∧ (t.target k).line = false ∧
    s.Sends t [⟨.access m, .read, [A_INTC_T_CLAIM k, 0, 2147483648 + n]⟩] ∧ Frame [.intc, .out] s t) ∧
  (∀ (m k : Nat) (s : State), s.MayAccess m (A_INTC_T_CLAIM k) false → s.able k = false ∨ (∀ e ∈ s.intc.assigned, e.2 ≠ k) →
    ∃ t, exec (.claim m k) s = .next t ∧ s.Sends t [⟨.access m, .read, [A_INTC_T_CLAIM k, 0, 0]⟩] ∧ Frame [.out] s t) ∧
  (∀ (m k : Nat) (v : Word) (s : State), k < 4 → s.intc.targets.length = 4 → s.MayAccess m (A_INTC_T_COMPLETE k) true → (s.target k).frozen = false →
    (s.target k).stack.getLast? = some (bits v 8 0) → ∃ t, exec (.complete m k v) s = .next t ∧ (t.target k).stack = (s.target k).stack.dropLast ∧
    (t.target k).frozen = false ∧ (∀ j, j ≠ k → (t.target j).stack = (s.target j).stack) ∧ t.intc.edge = s.intc.edge ∧
    s.Sends t [⟨.access m, .write, [A_INTC_T_COMPLETE k, 0, v.toNat]⟩] ∧ Frame [.intc, .regs, .out] s t) ∧
  (∀ (m k : Nat) (v : Word) (s : State), s.Sound → k < 4 → s.intc.targets.length = 4 → s.MayAccess m (A_INTC_T_COMPLETE k) true →
    (s.target k).frozen = false → (s.target k).stack.getLast? ≠ some (bits v 8 0) → ∃ t, exec (.complete m k v) s = .next t ∧
    (t.target k).frozen = true ∧ (∀ j, (t.target j).stack = (s.target j).stack) ∧ t.flag (bitAt A_INTC_EVENT k) = true ∧ t.Alarmed 0x0301 ∧
    AlarmsBut [0x0301] s t ∧ (t.target k).line = false ∧ (∀ e ∈ t.intc.assigned, e.2 ≠ k) ∧
    s.Sends t [⟨.access m, .write, [A_INTC_T_COMPLETE k, 0, v.toNat]⟩] ∧ Frame [.alarms, .rcd, .intc, .regs, .out] s t) ∧
  (∀ (m k : Nat) (v : Word) (s : State), s.MayAccess m (A_INTC_T_COMPLETE k) true → (s.target k).frozen = true → ∃ t, exec (.complete m k v) s = .next t ∧
    s.Sends t [⟨.access m, .write, [A_INTC_T_COMPLETE k, 0, v.toNat]⟩] ∧ Frame [.out] s t) ∧
  (∀ (m k : Nat) (s : State), k < 4 → s.intc.targets.length = 4 → s.MayAccess m (A_INTC_T_CTRL k) true → ∃ t, exec (.unfreeze m k) s = .next t ∧
    (t.target k).stack = [] ∧ (t.target k).frozen = false ∧ (∀ j, j ≠ k → (t.target j).stack = (s.target j).stack) ∧
    s.Sends t [⟨.access m, .write, [A_INTC_T_CTRL k, 0, 1]⟩] ∧ Frame [.intc, .regs, .out] s t)

/-- R64, R417, R422, R425 to R427, R432, R433. -/
def Obligations.ModerationIdleTargetsDoorbellsAndTimers : Prop :=
  (∀ (k e : Nat) (s : State), k < 4 → s.intc.targets.length = 4 → (s.target k).lineAt = some e → ∃ t, exec (.moderationInterval k) s = .next t ∧
    t.tim.el = Nat.max s.tim.el (e + 1000 * s.fld (F_INTC_T_MOD_INTERVAL k)) ∧ t.intc.assigned = s.intc.assigned ∧
    (∀ j, (t.target j).stack = (s.target j).stack) ∧
    ((t.target k).line = true ↔ ((s.target k).stack = [] ∧ (s.target k).frozen = false ∧ ∃ x ∈ s.intc.assigned, x.2 = k)) ∧
    Frame [.intc, .tim, .elapsed, .working] s t) ∧
  (∀ (k : Nat) (s : State), (s.target k).lineAt = none → exec (.moderationInterval k) s = .next s) ∧
  (∀ (k : Nat) (s : State), k < 2 → s.intc.targets.length = 4 → ∃ t, exec (.targetIdle k) s = .next t ∧
    ((t.target k).line = true ↔ ((s.target k).stack = [] ∧ (s.target k).frozen = false ∧ ∃ x ∈ s.intc.assigned, x.2 = k)) ∧
    ((∀ x ∈ s.intc.assigned, x.2 ≠ k) → (t.target k).stalled = true ∧ t.targetIsIdle k = true) ∧ t.intc.assigned = s.intc.assigned ∧
    (∀ j, j ≠ k → t.target j = s.target j) ∧ (∀ j, (t.target j).stack = (s.target j).stack) ∧ Frame [.intc] s t) ∧
  (∀ (k j : Nat) (s : State), 2 ≤ k → k < 4 → 2 ≤ j → s.intc.targets.length = 4 → ∃ t, exec (.targetIdle j) s = .next t ∧ t.hst = { s.hst with hidle := true } ∧
    (s.flag (F_INTC_T_CTRL_IDLE_EN k) = true → ((t.target k).line = true ↔
      ((s.target k).stack = [] ∧ (s.target k).frozen = false ∧ ∃ x ∈ s.intc.assigned, x.2 = k))) ∧
    t.intc.assigned = s.intc.assigned ∧ (∀ i, (t.target i).stack = (s.target i).stack) ∧ Frame [.intc, .hst] s t) ∧
  (∀ (s : State), exec .hidleFall s = .next { s with hst := { s.hst with hidle := false } }) ∧
  (∀ (m : Nat) (v : Word) (s : State), s.Sound → s.MayAccess m A_INTC_SWSET true → ∃ t, exec (.doorbellSet m v) s = .next t ∧
    t.reg A_INTC_SWPEND = s.reg A_INTC_SWPEND ||| v ∧ (∀ k, k < 32 → tbit v.toNat k = true → t.asserted (352 + k) = true) ∧
    (∀ j, (t.target j).stack = (s.target j).stack) ∧ s.Sends t [⟨.access m, .write, [A_INTC_SWSET, 0, v.toNat]⟩] ∧ Frame [.intc, .regs, .out] s t) ∧
  (∀ (c : Nat) (s : State), c < 2 → s.apps.length = 2 → s.intc.targets.length = 4 → 8 * s.mtimecmp c < 2 ^ 64 → ∃ t, exec (.machineTimer c) s = .next t ∧
    t.tim.wt = Nat.max s.tim.wt (8 * s.mtimecmp c) ∧ (t.apps.getD c {}).timerIrq = true ∧ (t.target c).stalled = false ∧
    t.intc.assigned = s.intc.assigned ∧ Frame [.intc, .apps, .tim, .elapsed, .working] s t) ∧
  (∀ (m c : Nat) (i : Instr) (s : State), s.Sound → s.apps.length = 2 → s.intc.targets.length = 4 → s.MayAccess m A_KPR_APPCTL true →
    (i = .app0Rst m ∧ c = 0) ∨ (i = .app1Rst m ∧ c = 1) → ∃ t, exec i s = .next t ∧ (t.target c).stack = [] ∧ (t.target c).frozen = false ∧
    (∀ j, j ≠ c → (t.target j).stack = (s.target j).stack) ∧ t.reg (A_INTC_T_MOD c) = resetWord (A_INTC_T_MOD c) ∧
    t.mtimecmp c = 2 ^ 64 - 1 ∧ t.reg (A_INTC_T_MSIP c) = 0#32 ∧
    (s.pat.appcode = [] → (t.apps.getD c {}).running = false ∧ (t.target c).inReset = true ∧ t.appm = s.appm) ∧
    (s.pat.appcode ≠ [] → (t.apps.getD c {}).running = true ∧ (t.apps.getD c {}).pc = blobWord s.pat.appcode (8 + 4 * c) ∧
      (t.apps.getD c {}).started = (s.apps.getD c {}).started + 1 ∧ (t.target c).inReset = false) ∧
    (t.apps.getD (1 - c) {}).running = (s.apps.getD (1 - c) {}).running ∧
    s.Sends t [⟨.access m, .write, [A_KPR_APPCTL, 0, 2 ^ c]⟩] ∧ Frame [.intc, .apps, .regs, .appm, .out] s t)

/-- R428 to R430. -/
def Obligations.TheHostPortBuffersWritesAndAnswersReads : Prop :=
  (∀ (a n : Nat) (l : List Word) (b : Bool) (s : State), s.hostPortOn = false → exec (.hostRead a n) s = .next s ∧ exec (.hostQuadRead a n) s = .next s ∧
    exec (.hostWrite a l b) s = .next s ∧ exec (.hostQuadWrite a l b) s = .next s ∧ exec .hostStatus s = .next s) ∧
  (∀ (a : Nat) (l : List Word) (s : State), s.hostPortOn = true → s.hst.buffer.length + l.length ≤ 512 → ∃ t, exec (.hostWrite a l false) s = .next t ∧
    exec (.hostQuadWrite a l false) s = .next t ∧
    t.hst = { s.hst with buffer := s.hst.buffer ++ l.mapIdx (fun k w => (a + 4 * k, w, s.hst.nextCommand)), nextCommand := s.hst.nextCommand + 1 } ∧
    Frame [.hst, .intc, .regs] s t) ∧
  (∀ (a : Nat) (l : List Word) (s : State), s.Sound → s.hostPortOn = true → 512 < s.hst.buffer.length + l.length →
    ∃ t, exec (.hostWrite a l false) s = .next t ∧ exec (.hostQuadWrite a l false) s = .next t ∧ t.flag F_HST_STATUS_OVF = true ∧
    t.flag F_HST_EVENT_OVF_EVT = true ∧ t.Alarmed 0x0E02 ∧ AlarmsBut [0x0E02] s t ∧ Frame [.alarms, .rcd, .intc, .regs] s t) ∧
  (∀ (a : Nat) (l : List Word) (s : State), s.Sound → s.hostPortOn = true → s.hst.buffer.length + l.length + 1 ≤ 512 →
    ∃ t, exec (.hostWrite a l true) s = .next t ∧ exec (.hostQuadWrite a l true) s = .next t ∧
    t.hst = { s.hst with buffer := s.hst.buffer ++ l.mapIdx (fun k w => (a + 4 * k, w, s.hst.nextCommand)), nextCommand := s.hst.nextCommand + 1 } ∧
    t.flag F_HST_STATUS_FRAME = true ∧ t.flag F_HST_EVENT_FRAME_EVT = true ∧ t.Alarmed 0x0E03 ∧ AlarmsBut [0x0E03] s t ∧
    Frame [.alarms, .rcd, .hst, .intc, .regs] s t) ∧
  (∀ (a n : Nat) (w x : Word) (r : List (Nat × Word × Nat)) (s u : State), s.hst.buffer = (a, w, n) :: r →
    ({ s with hst := { s.hst with buffer := r } } : State).busWrite mHost a w = (u, 0, x) → exec .hostWritePerform s = .next u) ∧
  (∀ (a n c : Nat) (w x : Word) (r : List (Nat × Word × Nat)) (s u : State), s.Sound → s.hst.buffer = (a, w, n) :: r →
    ({ s with hst := { s.hst with buffer := r } } : State).busWrite mHost a w = (u, c, x) → c ≠ 0 → ∃ t, exec .hostWritePerform s = .next t ∧
    t.hst.buffer = u.hst.buffer.filter (fun e => e.2.2 != n) ∧ t.flag F_HST_STATUS_ERR = true ∧ t.flag F_HST_EVENT_ERR_EVT = true ∧
    t.reg A_HST_ERRADDR = toWord a ∧ t.Alarmed 0x0E01 ∧ AlarmsBut [0x0E01] u t ∧ Frame [.alarms, .rcd, .hst, .regs] u t) ∧
  (∀ (a n : Nat) (w : Word) (r : List (Nat × Word × Nat)) (s : State), s.hst.buffer = (a, w, n) :: r → a % 4 ≠ 0 → ∃ t, exec .hostWritePerform s = .next t ∧
    t.hst = { s.hst with buffer := r.filter (fun e => e.2.2 != n) } ∧ t.Alarmed 0x0E01 ∧ AlarmsBut [0x0E01] s t ∧ Frame [.alarms, .rcd, .hst, .regs] s t) ∧
  (∀ (s : State), s.hst.buffer = [] → exec .hostWritePerform s = .next s) ∧
  (∀ (a n : Nat) (s : State), exec (.hostQuadRead a n) s = exec (.hostRead a n) s) ∧
  (∀ (a : Nat) (w : Word) (s u : State), s.hostPortOn = true → s.hst.buffer = [] → s.busRead mHost a = (u, 0, w) → ∃ t,
    exec (.hostRead a 1) s = .next t ∧ exec (.hostQuadRead a 1) s = .next t ∧ u.Sends t [⟨.host, .read, [0xA5, w.toNat]⟩] ∧ Frame [.out] u t) ∧
  (∀ (a n c : Nat) (w : Word) (s u : State), s.hostPortOn = true → s.hst.buffer = [] → s.busRead mHost a = (u, c, w) → c ≠ 0 → ∃ t,
    exec (.hostRead a (n + 1)) s = .next t ∧ exec (.hostQuadRead a (n + 1)) s = .next t ∧ u.Sends t [⟨.host, .read, [0x5A, c]⟩] ∧ Frame [.out] u t) ∧
  (∀ (a n : Nat) (s : State), s.hostPortOn = true → s.hst.buffer = [] → a < 4294967296 → a % 4 ≠ 0 → ∃ t, exec (.hostRead a (n + 1)) s = .next t ∧
    s.Sends t [⟨.host, .read, [0x5A, 4]⟩] ∧ Frame [.out] s t) ∧
  (∀ (a n : Nat) (s : State), s.hostPortOn = true → s.hst.buffer = [] → a < 4294967296 → a % 4 = 0 → regionOf a = none → ∃ t,
    exec (.hostRead a (n + 1)) s = .next t ∧ exec (.hostQuadRead a (n + 1)) s = .next t ∧ s.Sends t [⟨.host, .read, [0x5A, 2]⟩] ∧ t.Alarmed 0x0005 ∧ AlarmsBut [0x0005] s t ∧
    Frame [.alarms, .rcd, .regs, .out] s t) ∧
  (∀ (a : Nat) (w : Word) (s : State), s.Sound → s.hostPortOn = true → s.hst.buffer = [] → appmBase ≤ a → s.MayAccess mHost a true → s.MayAccess mHost a false →
    ∃ t u, exec (.hostWrite a [w] false) s = .next t ∧ exec (.hostRead a 1) t = .next u ∧ s.Sends u [⟨.host, .read, [0xA5, w.toNat]⟩] ∧ u.hst.buffer = []) ∧
  (∀ (s : State), s.hostPortOn = true → ∃ t, exec .hostStatus s = .next t ∧ s.Sends t [⟨.host, .read, [bits s.hstWord 7 0]⟩] ∧ Frame [.out] s t)

/-- R61 to R63, R417. -/
def Obligations.FlashCommandsWaitAndTakeTheirEffectAtCompletion : Prop :=
  (∀ (m : Nat) (s : State), s.Sound → s.MayAccess m A_KPR_FLW_CTRL true →
    (s.flashRejects 1 (s.fld F_KPR_FLW_ADDR_ADDR) = true → ∃ t, exec (.flashErase m) s = .next t ∧ t.flag F_KPR_FLW_CTRL_REJECT = true ∧ t.Alarmed 0x010B ∧
      AlarmsBut [0x010B] s t ∧ s.Sends t [⟨.access m, .write, [A_KPR_FLW_CTRL, 0, 1]⟩] ∧ Frame [.alarms, .rcd, .intc, .regs, .out] s t) ∧
    (s.flashRejects 1 (s.fld F_KPR_FLW_ADDR_ADDR) = false → ∃ t, exec (.flashErase m) s = .next t ∧ t.flag F_KPR_FLW_CTRL_BUSY = true ∧
      t.flashCmd = some ⟨1, s.fld F_KPR_FLW_ADDR_ADDR, wordsBytes (s.regRun (A_KPR_FLW_BUF 0) 64)⟩ ∧
      s.Sends t [⟨.access m, .write, [A_KPR_FLW_CTRL, 0, 1]⟩] ∧ Frame [.intc, .flashCmd, .regs, .out] s t)) ∧
  (∀ (m : Nat) (s : State), s.Sound → s.MayAccess m A_KPR_FLW_CTRL true →
    (s.flashRejects 2 (s.fld F_KPR_FLW_ADDR_ADDR) = true → ∃ t, exec (.flashProgram m) s = .next t ∧ t.flag F_KPR_FLW_CTRL_REJECT = true ∧ t.Alarmed 0x010B ∧
      AlarmsBut [0x010B] s t ∧ s.Sends t [⟨.access m, .write, [A_KPR_FLW_CTRL, 0, 2]⟩] ∧ Frame [.alarms, .rcd, .intc, .regs, .out] s t) ∧
    (s.flashRejects 2 (s.fld F_KPR_FLW_ADDR_ADDR) = false → ∃ t, exec (.flashProgram m) s = .next t ∧ t.flag F_KPR_FLW_CTRL_BUSY = true ∧
      t.flashCmd = some ⟨2, s.fld F_KPR_FLW_ADDR_ADDR, wordsBytes (s.regRun (A_KPR_FLW_BUF 0) 64)⟩ ∧
      s.Sends t [⟨.access m, .write, [A_KPR_FLW_CTRL, 0, 2]⟩] ∧ Frame [.intc, .flashCmd, .regs, .out] s t)) ∧
  (∀ (m : Nat) (s : State), s.Sound → s.MayAccess m A_KPR_FLW_CTRL true →
    (s.flashRejects 3 (s.fld F_KPR_FLW_ADDR_ADDR) = true → ∃ t, exec (.flashRead m) s = .next t ∧ t.flag F_KPR_FLW_CTRL_REJECT = true ∧ t.Alarmed 0x010B ∧
      AlarmsBut [0x010B] s t ∧ s.Sends t [⟨.access m, .write, [A_KPR_FLW_CTRL, 0, 3]⟩] ∧ Frame [.alarms, .rcd, .intc, .regs, .out] s t) ∧
    (s.flashRejects 3 (s.fld F_KPR_FLW_ADDR_ADDR) = false → ∃ t, exec (.flashRead m) s = .next t ∧ t.flag F_KPR_FLW_CTRL_BUSY = true ∧
      t.flashCmd = some ⟨3, s.fld F_KPR_FLW_ADDR_ADDR, wordsBytes (s.regRun (A_KPR_FLW_BUF 0) 64)⟩ ∧
      s.Sends t [⟨.access m, .write, [A_KPR_FLW_CTRL, 0, 3]⟩] ∧ Frame [.intc, .flashCmd, .regs, .out] s t)) ∧
  (∀ (c a : Nat) (s : State), s.locked = false ∨ s.flag F_KPR_FLW_CTRL_BUSY = true ∨ 2 * slotSize ≤ a ∨ (s.pat.loaded = true ∧ s.pat.slot = slotOf a) ∨
    (c = 1 ∧ a % 65536 ≠ 0) ∨ (c ≠ 1 ∧ a % 256 ≠ 0) ↔ s.flashRejects c a = true) ∧
  (∀ (a : Nat) (p : List Byte) (s : State), s.Sound → s.flashCmd = some ⟨1, a, p⟩ → ∃ t, exec (.flashCommandDone false) s = .next t ∧
    t.flashCmd = none ∧ t.flag F_KPR_FLW_CTRL_BUSY = false ∧ 29 ∈ t.intc.edge ∧
    (∀ x, memGet erasedCell t.flash x = if a ≤ x ∧ x < a + 65536 then 0xFF#8 else memGet erasedCell s.flash x) ∧
    Frame [.intc, .flashCmd, .regs, .flash] s t) ∧
  (∀ (a : Nat) (p : List Byte) (s : State), s.Sound → s.flashCmd = some ⟨2, a, p⟩ → p.length = 256 → ∃ t, exec (.flashCommandDone false) s = .next t ∧
    t.flashCmd = none ∧ t.flag F_KPR_FLW_CTRL_BUSY = false ∧ 29 ∈ t.intc.edge ∧
    (∀ k b, p[k]? = some b → memGet erasedCell s.flash (a + k) = 0xFF#8 ∨ memGet erasedCell s.flash (a + k) = b → memGet erasedCell t.flash (a + k) = b) ∧
    (∀ x, x < a ∨ a + 256 ≤ x → memGet erasedCell t.flash x = memGet erasedCell s.flash x) ∧ Frame [.intc, .flashCmd, .regs, .flash, .freeCtr] s t) ∧
  (∀ (a : Nat) (p : List Byte) (b : Bool) (s : State), s.Sound → s.flashCmd = some ⟨3, a, p⟩ → ∃ t, exec (.flashCommandDone b) s = .next t ∧
    t.flashCmd = none ∧ t.flag F_KPR_FLW_CTRL_BUSY = false ∧ 29 ∈ t.intc.edge ∧
    (∀ k < 64, t.reg (A_KPR_FLW_BUF k) = BitVec.ofNat 32 (leNat (memGetRun erasedCell 1 s.flash (a + 4 * k) 4))) ∧ Frame [.intc, .flashCmd, .regs] s t) ∧
  (∀ (a c : Nat) (p : List Byte) (s : State), s.Sound → c = 1 ∨ c = 2 → s.flashCmd = some ⟨c, a, p⟩ → ∃ t, exec (.flashCommandDone true) s = .next t ∧
    t.flashCmd = none ∧ t.flag F_KPR_FLW_CTRL_BUSY = false ∧ t.flag F_KPR_FLW_CTRL_ERR = true ∧ 29 ∈ t.intc.edge ∧
    (∀ x, x < a ∨ a + (if c = 1 then 65536 else 256) ≤ x → memGet erasedCell t.flash x = memGet erasedCell s.flash x) ∧
    Frame [.intc, .flashCmd, .regs, .flash, .freeCtr] s t) ∧
  (∀ (b : Bool) (s : State), s.flashCmd = none → exec (.flashCommandDone b) s = .next s)

/-- R4, R5, R24, R34, R460, R461, R467, R468, R470, R471. -/
def Obligations.AccessesReachRegistersMemoryAndTheImageWindow : Prop :=
  (∀ (m a : Nat) (v : Word) (s : State), a < 4294967296 → a % 4 ≠ 0 →
    (∃ t, exec (.registerRead m a) s = .next t ∧ s.Sends t [⟨.access m, .read, [a, 4, 0]⟩] ∧ Frame [.out] s t) ∧
    (∃ t, exec (.registerWrite m a v) s = .next t ∧ s.Sends t [⟨.access m, .write, [a, 4, v.toNat]⟩] ∧ Frame [.out] s t)) ∧
  (∀ (m a : Nat) (v : Word) (s : State), a < 4294967296 → a % 4 = 0 → regionOf a = none →
    (∃ t, exec (.registerRead m a) s = .next t ∧ s.Sends t [⟨.access m, .read, [a, 2, 0]⟩] ∧ t.Alarmed 0x0005 ∧ AlarmsBut [0x0005] s t ∧
      Frame [.alarms, .rcd, .regs, .out] s t) ∧
    (∃ t, exec (.registerWrite m a v) s = .next t ∧ s.Sends t [⟨.access m, .write, [a, 2, v.toNat]⟩] ∧ t.Alarmed 0x0005 ∧ AlarmsBut [0x0005] s t ∧
      Frame [.alarms, .rcd, .regs, .out] s t)) ∧
  (∀ (m a r : Nat) (s : State), s.Sound → m < 20 → a < 4294967296 → a % 4 = 0 → regionOf a = some r → s.allowed r m a false = false → ∃ t,
    exec (.registerRead m a) s = .next t ∧ s.Sends t [⟨.access m, .read, [a, 1, 0]⟩] ∧ t.flag F_ACC_EVENT_VIOL = true ∧
    t.fld (word32 A_ACC_VIOL_CNT) = Nat.min 4294967295 (s.fld (word32 A_ACC_VIOL_CNT) + 1) ∧
    (s.flag F_ACC_EVENT_VIOL = false → t.reg A_ACC_VIOL = BitVec.ofNat 32 (m + 1048576 * r) ∧ t.reg A_ACC_VIOL_ADDR = toWord a) ∧
    (s.flag F_ACC_EVENT_VIOL = true → t.reg A_ACC_VIOL = s.reg A_ACC_VIOL ∧ t.reg A_ACC_VIOL_ADDR = s.reg A_ACC_VIOL_ADDR) ∧
    (afind s.acl.alarmAt m = none → t.Alarmed 0x0F01) ∧
    (firmwareMaster m = true → t.flag F_ACC_EVENT_FW_VIOL = true ∧ t.Alarmed 0x0F02 ∧ t.twn = { s.twn with selfE := true }) ∧
    (firmwareMaster m = false → t.twn = s.twn) ∧ AlarmsBut [0x0F01, 0x0F02] s t ∧ Frame [.alarms, .rcd, .acl, .twn, .regs, .out] s t) ∧
  (∀ (m a r : Nat) (v : Word) (s : State), s.Sound → m < 20 → a < 4294967296 → a % 4 = 0 → regionOf a = some r → s.allowed r m a true = false → ∃ t,
    exec (.registerWrite m a v) s = .next t ∧ s.Sends t [⟨.access m, .write, [a, 1, v.toNat]⟩] ∧ t.flag F_ACC_EVENT_VIOL = true ∧
    t.fld (word32 A_ACC_VIOL_CNT) = Nat.min 4294967295 (s.fld (word32 A_ACC_VIOL_CNT) + 1) ∧
    (s.flag F_ACC_EVENT_VIOL = false → t.reg A_ACC_VIOL = BitVec.ofNat 32 (m + 65536 + 1048576 * r) ∧ t.reg A_ACC_VIOL_ADDR = toWord a) ∧
    (afind s.acl.alarmAt m = none → t.Alarmed 0x0F01) ∧
    (firmwareMaster m = true → t.flag F_ACC_EVENT_FW_VIOL = true ∧ t.Alarmed 0x0F02 ∧ t.twn = { s.twn with selfE := true }) ∧
    AlarmsBut [0x0F01, 0x0F02] s t ∧ Frame [.alarms, .rcd, .acl, .twn, .regs, .out] s t) ∧
  (∀ (m a : Nat) (r : RegRow) (s : State), s.MayAccess m a false → a < stiBase → indexIn (A_INTC_T_CLAIM 0) 256 4 a = none →
    indexIn (A_TSU_CAP_NS 0) 16 8 a = none → regAt a = some r → ∃ t, exec (.registerRead m a) s = .next t ∧
    s.Sends t [⟨.access m, .read, [a, 0, (r.fields.foldl (fun acc f => readField (s.shownWord m a) acc f) 0#32).toNat]⟩] ∧
    ((∀ f ∈ r.fields, f.2.2 ≠ .rc) → t.regs = s.regs) ∧
    (s.Sound → (∃ f ∈ r.fields, f.2.2 = .rc) → t.reg a = r.fields.foldl clearField (s.reg a)) ∧ Frame [.regs, .out] s t) ∧
  (∀ (m a : Nat) (v : Word) (r : RegRow) (s : State), s.Sound → s.MayAccess m a true → a < stiBase → regAt a = some r → r.isRwl = false →
    s.ruledWrite m a v = none → a < A_INTC_SRC_CFG 0 ∨ A_INTC_SRC_CFG 384 ≤ a → roCompare a = false → ∃ t, exec (.registerWrite m a v) s = .next t ∧
    t.reg a = r.fields.foldl (fun w f => writeField s.locked v w f) (s.reg a) ∧ s.Sends t [⟨.access m, .write, [a, 0, v.toNat]⟩] ∧
    Frame [.intc, .apps, .regs, .out] s t) ∧
  (∀ (m a : Nat) (v : Word) (r : RegRow) (s : State), s.Sound → s.locked = true → s.MayAccess m a true → a < stiBase → regAt a = some r → r.isRwl = true →
    ∃ t, exec (.registerWrite m a v) s = .next t ∧ s.Sends t [⟨.access m, .write, [a, 1, v.toNat]⟩] ∧ t.reg a = s.reg a ∧ t.flag F_ACC_EVENT_VIOL = true ∧
    AlarmsBut [0x0F01, 0x0F02] s t ∧ Frame [.alarms, .rcd, .acl, .twn, .regs, .out] s t) ∧
  (∀ (m n a : Nat) (v : Word) (s : State), s.Sound → s.MayAccess m a true → s.MayAccess n a false → appmBase ≤ a → ∃ t u, exec (.registerWrite m a v) s = .next t ∧
    Frame [.appm, .out] s t ∧ (∀ x, x < a ∨ a + 4 ≤ x → memGet zeroCell t.appm x = memGet zeroCell s.appm x) ∧ exec (.registerRead n a) t = .next u ∧
    s.Sends u [⟨.access m, .write, [a, 0, v.toNat]⟩, ⟨.access n, .read, [a, 0, v.toNat]⟩] ∧ Frame [.appm, .out] s u) ∧
  (∀ (m n b e : Nat) (s : State), n < 65536 → s.MayAccess m (stiBase + n) false → afind s.sti.views m = some ⟨b, e, true⟩ → ∃ t,
    exec (.windowRead m n) s = .next t ∧
    s.Sends t [⟨.access m, .read, [stiBase + n, 0, (memGet zeroCell (if b = 0 then s.sti.bufA else s.sti.bufB) (n / 4)).toNat]⟩] ∧ Frame [.out] s t) ∧
  (∀ (m n : Nat) (s : State), s.Sound → n < 65536 → s.MayAccess m (stiBase + n) false → (∀ b e, afind s.sti.views m ≠ some ⟨b, e, true⟩) → ∃ t,
    exec (.windowRead m n) s = .next t ∧ s.Sends t [⟨.access m, .read, [stiBase + n, 1, 0]⟩] ∧
    t.fld F_STI_REFUSED_COUNT = Nat.min (fieldMax F_STI_REFUSED_COUNT) (s.fld F_STI_REFUSED_COUNT + 1) ∧
    (afind s.sti.alarmAt m = none → t.Alarmed 0x1701) ∧ t.reg A_ACC_EVENT = s.reg A_ACC_EVENT ∧ t.reg A_ACC_VIOL_CNT = s.reg A_ACC_VIOL_CNT ∧
    AlarmsBut [0x1701] s t ∧ Frame [.alarms, .rcd, .sti, .regs, .out] s t) ∧
  (∀ (m : Nat) (s : State), s.MayAccess m A_STI_VIEW_CTRL true → ∃ t, exec (.viewOpen m) s = .next t ∧
    t.sti = { s.sti with views := aset s.sti.views m ⟨s.sti.front, (s.reg A_STI_EPOCH).toNat, true⟩ } ∧
    s.Sends t [⟨.access m, .write, [A_STI_VIEW_CTRL, 0, 1]⟩] ∧ Frame [.sti, .out] s t) ∧
  (∀ (m : Nat) (s : State), s.MayAccess m A_STI_VIEW_CTRL true → ∃ t, exec (.viewClose m) s = .next t ∧ afind t.sti.views m = none ∧
    (∀ n, n ≠ m → afind t.sti.views n = afind s.sti.views n) ∧ s.Sends t [⟨.access m, .write, [A_STI_VIEW_CTRL, 0, 2]⟩] ∧ Frame [.sti, .out] s t) ∧
  (∀ (m r : Nat) (s : State), ∃ t, exec (.fabricTimeout m r) s = .next t ∧ t.Alarmed 0x0004 ∧ AlarmsBut [0x0004] s t ∧
    t.tim.el = s.tim.el + 20000 ∧
    s.Sends t [⟨.access m, .read, [0, 3, 0]⟩] ∧ Frame [.alarms, .rcd, .tim, .elapsed, .working, .regs, .out] s t)

/-- R11, R12, R472, R473, R477, R481, R500. -/
def Obligations.HardwareFaultsAreCountedSparedOrStopTheDevice : Prop :=
  (∀ (n : Nat) (s : State), n ∈ s.hlt.pairsOut ∨ 10 < n → exec (.lockstepMismatch n) s = .next s) ∧
  (∀ (n : Nat) (s : State), 1 ≤ n → n ≤ 4 → n ∉ s.hlt.pairsOut → s.spareTaken true = false → ∃ t, exec (.lockstepMismatch n) s = .next t ∧
    t.hlt.mismatches = Nat.min 65535 (s.hlt.mismatches + 1) ∧ t.hlt.pairsOut = s.hlt.pairsOut ++ [n] ∧ t.hlt.fusionSpareNext = true ∧
    t.hlt.fusionSpareUsed = false ∧ t.hlt.controlSpareNext = s.hlt.controlSpareNext ∧
    t.hlt.discarded = (if s.fullCycle && !s.dev.stepsDone.contains 8 then s.hlt.discarded ++ [2] else s.hlt.discarded) ∧
    (s.fullCycle = true → s.dev.stepsDone.contains 8 = false → s.dev.stepsDone.contains 2 = true → 2 ∈ t.dev.stepsLate) ∧
    t.twn = { s.twn with selfL := true } ∧ n ∈ t.mram.riserPairs ∧ t.Alarmed 0x0C0C ∧ AlarmsBut [0x0C0C] s t ∧
    Frame [.alarms, .rcd, .mram, .dev, .twn, .hlt, .regs] s t) ∧
  (∀ (n : Nat) (s : State), n = 6 ∨ n = 7 → n ∉ s.hlt.pairsOut → s.spareTaken false = false → ∃ t, exec (.lockstepMismatch n) s = .next t ∧
    t.hlt.mismatches = Nat.min 65535 (s.hlt.mismatches + 1) ∧ t.hlt.pairsOut = s.hlt.pairsOut ++ [n] ∧ t.hlt.controlSpareNext = true ∧
    t.hlt.controlSpareUsed = false ∧ t.hlt.fusionSpareNext = s.hlt.fusionSpareNext ∧
    t.hlt.discarded = (if s.fullCycle && !s.dev.stepsDone.contains 8 then s.hlt.discarded ++ [3, 4] else s.hlt.discarded) ∧
    (s.fullCycle = true → s.dev.stepsDone.contains 8 = false → s.dev.stepsDone.contains 4 = true → s.inStep = false → t.twn.repeatPour = true) ∧
    t.twn.selfL = true ∧ t.twn.holder = s.twn.holder ∧ n ∈ t.mram.riserPairs ∧ t.Alarmed 0x0C0C ∧ AlarmsBut [0x0C0C] s t ∧
    Frame [.alarms, .rcd, .mram, .twn, .hlt, .regs] s t) ∧
  (∀ (f : Bool) (n : Nat) (s : State), (f = true ∧ n = 5) ∨ (f = false ∧ n = 8) → n ∉ s.hlt.pairsOut → s.spareTaken f = false → ∃ t,
    exec (.lockstepMismatch n) s = .next t ∧ t.spareTaken f = true ∧ t.spareTaken (!f) = s.spareTaken (!f) ∧
    t.hlt.mismatches = Nat.min 65535 (s.hlt.mismatches + 1) ∧ t.hlt.pairsOut = s.hlt.pairsOut ++ [n] ∧ t.hlt.discarded = s.hlt.discarded ∧
    t.twn = { s.twn with selfL := true } ∧ n ∈ t.mram.riserPairs ∧ t.Alarmed 0x0C0C ∧ AlarmsBut [0x0C0C] s t ∧
    Frame [.alarms, .rcd, .mram, .twn, .hlt, .regs] s t) ∧
  (∀ (n : Nat) (s : State), s.Sound → n ∉ s.hlt.pairsOut → n = 0 ∨ n = 9 ∨ (1 ≤ n ∧ n ≤ 5 ∧ s.spareTaken true = true) ∨
      (6 ≤ n ∧ n ≤ 8 ∧ s.spareTaken false = true) → ∃ t, exec (.lockstepMismatch n) s = .next t ∧ t.dev.st = .safe ∧ t.holds = false ∧
    t.hlt.deviceFault = true ∧ t.hlt.mismatches = Nat.min 65535 (s.hlt.mismatches + 1) ∧ n ∈ t.hlt.pairsOut ∧ n ∈ t.mram.riserPairs ∧ t.Alarmed 0x0007 ∧
    (s.dev.st ≠ .boot → t.InGlobalSafe) ∧ t.pat = s.pat ∧ t.flash = s.flash ∧ t.rcd.opTime = s.rcd.opTime) ∧
  (∀ (s : State), s.Sound → 10 ∉ s.hlt.pairsOut → ∃ t, exec (.lockstepMismatch 10) s = .next t ∧ t.InGlobalSafe ∧ t.saf.ownFault = true ∧ 10 ∈ t.hlt.pairsOut ∧
    10 ∈ t.mram.riserPairs ∧ (s.dev.st ≠ .boot → t.dev.st = .safe) ∧ (s.inSafe = false → t.fld F_SAF_CAUSE_CAUSE = 9 ∧ t.Alarmed 0x0A04) ∧
    t.pat = s.pat ∧ t.flash = s.flash ∧ t.rcd.opTime = s.rcd.opTime) ∧
  (∀ (b : Nat) (c : Bool) (s : State), aget 0 s.hlt.bankCorr b < s.par 0x0822 → exec (.eccError b true c) s = .next { s with hlt := { s.hlt with
    eccCorr := Nat.min 4294967295 (s.hlt.eccCorr + 1), bankCorr := aset s.hlt.bankCorr b (aget 0 s.hlt.bankCorr b + 1),
    corrHour := aset s.hlt.corrHour 0 (Nat.min 65535 (aget 0 s.hlt.corrHour 0 + 1)) } }) ∧
  (∀ (b : Nat) (c : Bool) (s : State), s.par 0x0822 ≤ aget 0 s.hlt.bankCorr b → b ∉ s.mram.riserBanks → s.hlt.bankCopy = none → s.mram.riserBanks.length < 2 →
    ∃ t, exec (.eccError b true c) s = .next t ∧ t.hlt.bankCopy = some (b, 32 + s.mram.riserBanks.length) ∧
    t.hlt.eccCorr = Nat.min 4294967295 (s.hlt.eccCorr + 1) ∧ aget 0 t.hlt.bankCorr b = aget 0 s.hlt.bankCorr b + 1 ∧ Frame [.hlt] s t) ∧
  (∀ (b : Nat) (c : Bool) (s : State), b ∉ s.mram.riserBanks → s.hlt.bankCopy = none → s.mram.riserBanks.length < 2 → ∃ t,
    exec (.eccError b false c) s = .next t ∧ t.hlt.eccUncorr = Nat.min 4294967295 (s.hlt.eccUncorr + 1) ∧
    t.hlt.bankCopy = some (b, 32 + s.mram.riserBanks.length) ∧ t.twn = { s.twn with selfE := s.twn.selfE || c } ∧ Frame [.hlt, .twn] s t) ∧
  (∀ (b : Nat) (c : Bool) (s : State), s.Sound → b ∉ s.mram.riserBanks → s.hlt.bankCopy = none → 2 ≤ s.mram.riserBanks.length → ∃ t,
    exec (.eccError b false c) s = .next t ∧ t.hlt.eccUncorr = Nat.min 4294967295 (s.hlt.eccUncorr + 1) ∧ t.hlt.deviceFault = true ∧ t.dev.st = .safe ∧
    t.holds = false ∧ t.Alarmed 0x0007 ∧ t.pat = s.pat ∧ t.flash = s.flash) ∧
  (∀ (k n : Nat) (s : State), s.dev.st = .boot → exec (.eccScrub k n) s = .next s) ∧
  (∀ (k n : Nat) (s : State), k < 5 → s.dev.st ≠ .boot → ∃ t, exec (.eccScrub k n) s = .next t ∧
    t.hlt = { s.hlt with checkAt := aset s.hlt.checkAt k t.tim.el, scrubPasses := Nat.min 65535 (s.hlt.scrubPasses + 1),
                         eccCorr := Nat.min 4294967295 (s.hlt.eccCorr + n),
                         corrHour := aset s.hlt.corrHour k (Nat.min 65535 (aget 0 s.hlt.corrHour k + n)) } ∧
    (∀ e, afind s.hlt.checkAt k = some e → t.tim.el = Nat.max s.tim.el (e + (if k = 2 then 10 else if k = 4 then 86400 else 600) * 1000000000)) ∧
    (k ≠ 4 → Frame [.tim, .hlt, .elapsed, .working] s t) ∧ Frame [.alarms, .rcd, .tim, .hlt, .regs, .elapsed, .working] s t) ∧
  (∀ (n : Nat) (s : State), s.dev.st ≠ .boot → ∃ t, exec (.eccScrub 4 n) s = .next t ∧ t.hlt.scrubPasses = Nat.min 65535 (s.hlt.scrubPasses + 1) ∧
    t.hlt.eccCorr = Nat.min 4294967295 (s.hlt.eccCorr + n) ∧ aget 0 t.hlt.corrHour 4 = Nat.min 65535 (aget 0 s.hlt.corrHour 4 + n) ∧
    ((∀ i < s.recUsed, s.badSlot ((s.mram.base + i) % 131072) = false) → Frame [.tim, .hlt, .elapsed, .working] s t) ∧
    (s.Sound → (∃ i < s.recUsed, s.badSlot ((s.mram.base + i) % 131072) = true) → t.Alarmed 0x0B06 ∧ t.flag F_REC_EVENT_CRC_EVT = true) ∧
    AlarmsBut [0x0B06] s t ∧ Frame [.alarms, .rcd, .tim, .hlt, .regs, .elapsed, .working] s t) ∧
  (∀ (r : Nat) (s : State), afind s.hlt.railOut r = none → exec (.railFault r) s = .next s) ∧
  (∀ (r a : Nat) (s : State), s.Sound → afind s.hlt.railOut r = some a → ∃ t, exec (.railFault r) s = .next t ∧
    t.tim.el = Nat.max s.tim.el (a + 1000000) ∧ r ∈ t.hlt.railsBad ∧ t.hlt.deviceFault = true ∧ t.dev.st = .safe ∧
    t.holds = false ∧ t.Alarmed 0x0C06 ∧ t.Alarmed 0x0007 ∧ (s.dev.st ≠ .boot → t.InGlobalSafe) ∧ t.pat = s.pat ∧ t.flash = s.flash ∧
    t.rcd.opTime = s.rcd.opTime)

/-- R482, R483, R485, R486, R488 to R490, R494. -/
def Obligations.TemperaturesTrimsAndOperatingTimeAdvance : Prop :=
  (∀ (rails : List (Nat × Nat)) (vin : Nat) (coils : List Nat) (d : List Int) (s : State), s.boot.started = false ∨ s.boot.halted = true →
    exec (.thermalUpdateRuns rails vin coils d) s = .next s ∧ exec .trefTrack s = .next s ∧
    exec .operatingTimeTick s = .next s) ∧
  (∀ (rails : List (Nat × Nat)) (vin : Nat) (coils : List Nat) (d : List Int) (s : State), s.Sound → s.boot.started = true → s.boot.halted = false →
    rails.length ≤ 8 → ∃ t, exec (.thermalUpdateRuns rails vin coils d) s = .next t ∧ t.thm.nodes = (List.range 8).map (s.nodeStep (s.nodePower rails vin coils)) ∧
    (∀ e, s.thm.updatedAt = some e → t.tim.el = Nat.max s.tim.el (e + 1000000)) ∧ (s.thm.updatedAt = none → t.tim.el = s.tim.el) ∧ t.thm.updatedAt = some t.tim.el ∧
    (∀ r < rails.length, ∀ x, rails[r]? = some x → t.reg (A_HLT_RAIL_VI r) = halves x.1 x.2 ∧ (s.railOff r x.1 = false → afind t.hlt.railOut r = none) ∧
      (s.railOff r x.1 = true → afind t.hlt.railOut r = some ((afind s.hlt.railOut r).getD t.tim.el))) ∧ t.thm.diodes = d ∧
    (∀ k, k ∈ t.thm.badDiodes ↔ k < 4 ∧ (nthI d k < -500 ∨ 1500 < nthI d k)) ∧ (t.thm.badDiodes ≠ [] → t.Alarmed 0x0C05) ∧
    (∀ n < 8, t.nodeTemp n ≤ t.thm.tmax) ∧ (∃ n < 8, t.nodeTemp n = t.thm.tmax) ∧ t.thm.cycleMax = max s.thm.cycleMax t.thm.tmax ∧
    (1250 ≤ t.thm.tmax → t.flag F_HLT_STATUS_SHUTDOWN = true ∧ (s.flag F_HLT_STATUS_SHUTDOWN = false → t.thm.latchedAt = some t.tim.el ∧ t.mram.shutdown = true)) ∧
    (t.thm.tmax < 1250 → t.flag F_HLT_STATUS_SHUTDOWN = s.flag F_HLT_STATUS_SHUTDOWN ∧ t.thm.latchedAt = s.thm.latchedAt) ∧
    (1200 ≤ t.thm.tmax → s.thm.warned = false → t.thm.warned = true ∧ t.flag F_HLT_STATUS_WARN = true ∧ t.Alarmed 0x0C02) ∧
    (t.thm.tmax < 1150 → s.thm.warned = true → t.thm.warned = false ∧ t.flag F_HLT_STATUS_WARN = false ∧ t.CauseGone 0x0C02) ∧
    (1150 ≤ t.thm.tmax → t.thm.tmax < 1200 → t.thm.warned = s.thm.warned) ∧
    ((10 * s.par 0x0821 : Int) < t.thm.tmax → t.flag F_HLT_STATUS_COOLED = false ∧ t.thm.coolSince = none) ∧
    (t.thm.tmax ≤ (10 * s.par 0x0821 : Int) → t.flag F_HLT_STATUS_COOLED = s.flag F_HLT_STATUS_COOLED ∧ t.thm.coolSince = some (s.thm.coolSince.getD t.tim.el)) ∧
    AlarmsBut [0x0C05, 0x0C02] s t ∧ Frame [.alarms, .rcd, .mram, .tim, .hlt, .thm, .regs, .elapsed, .working] s t) ∧
  (∀ (s : State), s.boot.started = true → s.boot.halted = false → ∃ t, exec .trefTrack s = .next t ∧ t.thm.tref = s.thm.tref + roundDiv s.meanResidual 60 ∧
    t.thm.nodes = s.thm.nodes.map (· + roundDiv s.meanResidual 60) ∧ t.thm.diodes = s.thm.diodes ∧ t.thm.tmax = s.thm.tmax ∧
    (∀ e, s.thm.trackedAt = some e → t.tim.el = Nat.max s.tim.el (e + 1000000000)) ∧ (s.thm.trackedAt = none → t.tim.el = s.tim.el) ∧
    t.thm.trackedAt = some t.tim.el ∧ Frame [.tim, .thm, .regs, .elapsed, .working] s t) ∧
  (∀ (a : Nat) (s : State), s.Sound → s.thm.coolSince = some a → ∃ t, exec .cooled s = .next t ∧ t.flag F_HLT_STATUS_COOLED = true ∧
    t.tim.el = Nat.max s.tim.el (a + 10000000000) ∧ Frame [.tim, .elapsed, .working, .regs] s t ∧ FieldsBut [F_HLT_STATUS_COOLED] s t) ∧
  (∀ (s : State), s.thm.coolSince = none → exec .cooled s = .next s) ∧
  (∀ (r n : Nat) (s : State), s.Sound → r < 8 → afind s.hlt.trimPlan r = some (n + 1) → ∃ t, exec (.trimStep r) s = .next t ∧
    (s.trim r < 12 → s.withinPackage r (s.trim r + 1) = true → t.trim r = s.trim r + 1 ∧ t.fld (F_HLT_RAIL_TRIM_TRIM r) = s.trim r + 1 ∧
      afind t.hlt.trimPlan r = (if n = 0 then none else some n) ∧ t.flag F_HLT_EVENT_MARGIN_EVT = true ∧ t.Alarmed 0x0C09 ∧ t.hlt.trimAt = some t.tim.el ∧ AlarmsBut [0x0C09] s t) ∧
    (∀ e, s.hlt.trimAt = some e → t.tim.el = Nat.max s.tim.el (e + 1000000000)) ∧ (s.hlt.trimAt = none → t.tim.el = s.tim.el) ∧
    (12 ≤ s.trim r ∨ s.withinPackage r (s.trim r + 1) = false → t.trim r = s.trim r ∧ afind t.hlt.trimPlan r = none ∧
      aget (0, 0) t.mram.margin (railDie r) = ((aget (0, 0) s.mram.margin (railDie r)).1, 2) ∧ AlarmsBut [0x0C0A] s t ∧
      (railDie r ∉ s.hlt.exhaustedRaised → t.Alarmed 0x0C0A ∧ t.flag F_HLT_EVENT_MARGIN_EVT = true)) ∧
    (∀ q, q ≠ r → t.trim q = s.trim q) ∧ Frame [.alarms, .rcd, .mram, .tim, .hlt, .regs, .elapsed, .working] s t) ∧
  (∀ (r : Nat) (s : State), afind s.hlt.trimPlan r = none → exec (.trimStep r) s = .next s) ∧
  (∀ (l : List DieReading) (d : List Int) (s : State), s.rcd.hourly = false → exec (.annealMeasurement l d) s = .next s) ∧
  (∀ (l : List DieReading) (d : List Int) (s : State), s.rcd.hourly = true → ∃ t, exec (.annealMeasurement l d) s = .next t ∧ t.rcd.hourly = false ∧
    t.hlt.corrLast = s.hlt.corrHour ∧ t.hlt.corrHour = [] ∧ t.hlt.bankCorr = [] ∧ t.thm.diodes = d ∧ t.hlt.sinceCal = 0 ∧
    (∀ k, k ∈ t.thm.badDiodes ↔ k < 4 ∧ (nthI d k < -500 ∨ 1500 < nthI d k)) ∧ (t.thm.badDiodes ≠ [] → t.Alarmed 0x0C05) ∧
    (s.rcd.queue = [] → l.length ≤ 6 → ∃ e ∈ t.rcd.queue, e.typ = 0x0C80) ∧ AlarmsBut [0x0C04, 0x0C05, 0x0C0A] s t ∧
    t.rcd.opTime = s.rcd.opTime ∧ Frame [.alarms, .rcd, .mram, .hlt, .thm, .regs] s t) ∧
  (∀ (s : State), s.boot.started = true → s.boot.halted = false → ∃ t, exec .operatingTimeTick s = .next t ∧ t.rcd.opTime = s.rcd.opTime + 1 ∧
    t.mram.opTime = (if (s.rcd.opTime + 1) % 100 = 0 then s.rcd.opTime + 1 else s.mram.opTime) ∧ t.rcd.queue = s.rcd.queue ∧
    ((s.rcd.opTime + 1) % 36000 = 0 → t.rcd.hourly = true ∧ t.rcd.anchorDue = true ∧ ∀ n < 8, aget 0 t.mram.brakeAge n = aget 0 s.mram.brakeAge n + 1) ∧
    ((s.rcd.opTime + 1) % 36000 ≠ 0 → t.rcd.hourly = s.rcd.hourly ∧ t.mram.brakeAge = s.mram.brakeAge) ∧
    ((s.rcd.opTime + 1) % 10 = 0 → ∀ n < 8, (s.brake n).degr = 1 ∨ (s.brake n).degr = 2 → aget 0 t.mram.brakeLeft n = aget 0 s.mram.brakeLeft n - 1) ∧
    ((s.rcd.opTime + 1) % 10 ≠ 0 → t.mram.brakeLeft = s.mram.brakeLeft) ∧
    t.tim.el = Nat.max s.tim.el (s.rcd.tickAt + 100000000) ∧ t.rcd.tickAt = s.rcd.tickAt + 100000000 ∧
    Frame [.rcd, .opTime, .mram, .tim, .elapsed, .working, .regs] s t)

/-- R501, R503 to R508. -/
def Obligations.PanelWaveformsWriteTheGroupsInTurn : Prop :=
  (∀ (v : Nat) (s : State), s.ann.enabled = false ∨ s.ann.running.isSome = true ∨ s.clk.vfld = false → exec (.waveformStart v) s = .next s) ∧
  (∀ (v : Nat) (s : State), s.Sound → s.ann.enabled = true → s.ann.running = none → s.clk.vfld = true → ∃ t, exec (.waveformStart v) s = .next t ∧
    t.fld F_ANN_STATUS_BAND = nextBand (s.fld F_ANN_STATUS_BAND) s.displayTemp ∧ t.flag F_ANN_STATUS_VLCD_OK = t.vlcdGood v ∧
    (s.displayTemp < -250 ∨ 700 < s.displayTemp → t.Alarmed 0x0D02) ∧ (-250 ≤ s.displayTemp → s.displayTemp ≤ 700 → t.CauseGone 0x0D02) ∧
    (t.vlcdGood v = false ∨ s.ann.blocked = true → t.mram = s.mram ∧ (s.ann.vlcdAt.isSome = true ∨ (s.ann.rewrite = none ∧ s.ann.pending = []) → t.ann = s.ann) ∧
      (s.ann.vlcdAt = none → s.ann.rewrite.isSome = true ∨ s.ann.pending ≠ [] → t.ann = { s.ann with vlcdAt := some s.tim.el })) ∧
    (t.vlcdGood v = true → s.ann.blocked = false → s.ann.rewrite = none → s.ann.pending = [] → t.ann = s.ann ∧ t.mram = s.mram) ∧
    AlarmsBut [0x0D02] s t ∧ Frame [.alarms, .rcd, .mram, .ann, .regs] s t) ∧
  (∀ (v g : Nat) (i : List Word) (q : List (Nat × List Word)) (s : State), s.Sound → s.ann.enabled = true → s.ann.running = none → s.clk.vfld = true →
    s.ann.blocked = false → s.ann.rewrite = none → s.ann.pending = (g, i) :: q → ∃ t, exec (.waveformStart v) s = .next t ∧
    (t.vlcdGood v = true → t.ann = { s.ann with vlcdAt := none, pending := q, running := some ⟨g, t.fld F_ANN_STATUS_BAND, 0, i, s.shown g, s.tim.el⟩ } ∧
      t.mram.dirty = insertNew s.mram.dirty g ∧ t.mram.shown = s.mram.shown ∧ (g < 8 → t.fld F_ANN_STATUS_GROUP = g))) ∧
  (∀ (v g : Nat) (i : List Word) (s : State), s.Sound → s.ann.enabled = true → s.ann.running = none → s.clk.vfld = true → s.ann.blocked = false →
    s.ann.rewrite = some (g, i) → ∃ t, exec (.waveformStart v) s = .next t ∧ (t.vlcdGood v = true → t.ann.rewrite = none ∧ t.ann.pending = s.ann.pending ∧
      t.ann.running = some ⟨g, t.fld F_ANN_STATUS_BAND, 0, i, padWords 3 (aget [] s.ann.before g), s.tim.el⟩ ∧ g ∈ t.mram.dirty)) ∧
  (∀ (w : Waveform) (s : State), s.ann.running = some w → w.phase = 0 → ∃ t, exec .waveformPhaseEnd s = .next t ∧
    t.tim.el = Nat.max s.tim.el (w.phaseAt + 10000 * s.par 0x1502 w.band) ∧ t.ann = { s.ann with running := some { w with phase := 1, phaseAt := t.tim.el } } ∧
    Frame [.ann, .tim, .elapsed, .working] s t) ∧
  (∀ (w : Waveform) (s : State), s.ann.running = some w → w.phase = 1 → ∃ t, exec .waveformPhaseEnd s = .next t ∧
    t.tim.el = Nat.max s.tim.el (w.phaseAt + 10000 * s.selectionTicks w.band w.before w.image) ∧
    t.ann = { s.ann with running := some { w with phase := 2, phaseAt := t.tim.el } } ∧ Frame [.ann, .tim, .elapsed, .working] s t) ∧
  (∀ (s : State), s.ann.running = none ∨ (∃ w, s.ann.running = some w ∧ 2 ≤ w.phase) → exec .waveformPhaseEnd s = .next s) ∧
  (∀ (w : Waveform) (s : State), s.Sound → s.ann.running = some w → w.phase = 2 → ∃ t, exec .waveformEnd s = .next t ∧
    t.tim.el = Nat.max s.tim.el (w.phaseAt + 5000000) ∧ t.ann.running = none ∧ aget [] t.mram.shown w.group = w.image ∧
    (∀ g, g ≠ w.group → aget [] t.mram.shown g = aget [] s.mram.shown g) ∧ w.group ∉ t.mram.dirty ∧
    (afind s.ann.held w.group = none → t.ann.pending = s.ann.pending) ∧
    (∀ i, afind s.ann.held w.group = some i → s.ann.enabled = true → i ≠ padWords 3 w.image → afind s.ann.pending w.group = none →
      t.ann.pending = s.ann.pending ++ [(w.group, i)] ∧ afind t.ann.held w.group = none) ∧
    (w.band + 2 ≤ t.fld F_ANN_STATUS_BAND ∨ t.fld F_ANN_STATUS_BAND + 2 ≤ w.band → t.ann.rewrite = some (w.group, w.image) ∧
      aget [] t.ann.before w.group = w.before ∧ t.flag F_ANN_EVENT_JUMP_EVT = true ∧ t.Alarmed 0x0D03) ∧
    (t.fld F_ANN_STATUS_BAND < w.band + 2 → w.band < t.fld F_ANN_STATUS_BAND + 2 → t.ann.rewrite = s.ann.rewrite ∧ AlarmsBut [0x0D02] s t) ∧
    AlarmsBut [0x0D02, 0x0D03] s t ∧ Frame [.alarms, .rcd, .mram, .ann, .tim, .elapsed, .working, .regs] s t) ∧
  (∀ (s : State), (∀ w, s.ann.running = some w → w.phase ≠ 2) → exec .waveformEnd s = .next s) ∧
  (∀ (m g : Nat) (s : State), 4 ≤ g → g ≤ 7 → s.ann.enabled = true → s.MayAccess m A_ANN_COMMIT true → ∃ t,
    exec (.annCommit m (BitVec.ofNat 32 (2 ^ g))) s = .next t ∧
    ((∃ w, s.ann.running = some w ∧ w.group = g) → t.ann = { s.ann with held := aset s.ann.held g (s.regRun (A_ANN_SET_W (g - 4) 0) 3) }) ∧
    ((∀ w, s.ann.running = some w → w.group ≠ g) → s.regRun (A_ANN_SET_W (g - 4) 0) 3 = s.shown g →
      t.ann = { s.ann with pending := adel s.ann.pending g }) ∧
    ((∀ w, s.ann.running = some w → w.group ≠ g) → s.regRun (A_ANN_SET_W (g - 4) 0) 3 ≠ s.shown g →
      t.ann = { s.ann with pending := aset s.ann.pending g (s.regRun (A_ANN_SET_W (g - 4) 0) 3) }) ∧
    s.Sends t [⟨.access m, .write, [A_ANN_COMMIT, 0, 2 ^ g]⟩] ∧ Frame [.ann, .out] s t) ∧
  (∀ (v : Nat) (s : State), s.ann.vlcdAt = none → exec (.vlcdTimeout v) s = .next s) ∧
  (∀ (v e : Nat) (s : State), s.Sound → s.ann.vlcdAt = some e → s.vlcdGood v = true → ∃ t, exec (.vlcdTimeout v) s = .next t ∧
    t.ann = { s.ann with blocked := false, vlcdAt := none } ∧ t.tim.el = Nat.max s.tim.el (e + if s.ann.blocked then 1000000000 else 20000000) ∧
    t.flag F_ANN_STATUS_VLCD_OK = true ∧ t.CauseGone 0x0D01 ∧ (v < 65536 → t.fld F_ANN_TEMP_VLCD = v) ∧ AlarmsBut [0x0D01] s t ∧
    Frame [.alarms, .rcd, .ann, .tim, .elapsed, .working, .regs] s t) ∧
  (∀ (v e : Nat) (s : State), s.Sound → s.ann.vlcdAt = some e → s.vlcdGood v = false → ∃ t, exec (.vlcdTimeout v) s = .next t ∧
    t.ann = { s.ann with blocked := true, vlcdAt := some t.tim.el } ∧ t.tim.el = Nat.max s.tim.el (e + if s.ann.blocked then 1000000000 else 20000000) ∧
    t.flag F_ANN_STATUS_VLCD_OK = false ∧ (s.ann.blocked = false → t.flag F_ANN_EVENT_VLCD_EVT = true ∧ t.Alarmed 0x0D01) ∧
    (s.ann.blocked = true → t.alarms = s.alarms) ∧ AlarmsBut [0x0D01] s t ∧ Frame [.alarms, .rcd, .ann, .tim, .elapsed, .working, .regs] s t)

/-- R435 to R437. -/
def Obligations.EloasetPortsComeUpRetransmitAndAreLost : Prop :=
  (∀ (p : Nat) (s : State), 2 ≤ p ∨ s.elkOn p = false ∨ s.elkIsUp p = true → exec (.elkHelloSend p) s = .next s) ∧
  (∀ (p : Nat) (s : State), s.Sound → p < 2 → s.elkOn p = true → s.fld (F_ELK_P_STAT_STATE p) = 1 ∨ s.fld (F_ELK_P_STAT_STATE p) = 3 →
    ∃ t, exec (.elkHelloSend p) s = .next t ∧ s.Sends t [⟨.elk p, .elkHello, [s.member, s.par 0x0A02]⟩] ∧
    ((s.elkPort p).heard = none ∨ s.fld (F_ELK_P_STAT_STATE p) = 3 → t.elkPort p = { s.elkPort p with said := true, saidAt := some t.tim.el } ∧
      Frame [.tim, .elapsed, .working, .elk, .out] s t) ∧
    (∀ m, m < 65536 → (s.elkPort p).heard = some m → s.fld (F_ELK_P_STAT_STATE p) = 1 → t.elkIsUp p = true ∧ t.fld (F_ELK_P_STAT_PEER p) = m ∧
      t.flag (bitAt A_ELK_STATUS p) = true ∧ t.elkPort p = {}) ∧
    (∀ e, (s.elkPort p).saidAt = some e → t.tim.el = Nat.max s.tim.el (e + 100000000)) ∧ ((s.elkPort p).saidAt = none → t.tim.el = s.tim.el) ∧
    (∀ q, q ≠ p → t.elkPort q = s.elkPort q) ∧ AlarmsBut [0x0501] s t ∧ Frame [.alarms, .rcd, .tim, .elapsed, .working, .elk, .regs, .out] s t) ∧
  (∀ (p m f : Nat) (s : State), 2 ≤ p ∨ s.elkOn p = false ∨ s.elkIsUp p = true → exec (.elkHello p m f) s = .next s) ∧
  (∀ (p m f : Nat) (s : State), s.Sound → p < 2 → m < 65536 → s.elkOn p = true → s.elkIsUp p = false → f ≠ s.par 0x0A02 → ∃ t,
    exec (.elkHello p m f) s = .next t ∧ t.fld (F_ELK_P_STAT_PEER p) = m ∧ t.Alarmed 0x050C ∧ t.elkIsUp p = false ∧ AlarmsBut [0x050C] s t ∧
    Frame [.alarms, .rcd, .regs] s t) ∧
  (∀ (p m : Nat) (s : State), s.Sound → p < 2 → m < 65536 → s.elkOn p = true → s.elkIsUp p = false → ∃ t, exec (.elkHello p m (s.par 0x0A02)) s = .next t ∧
    ((s.elkPort p).said = true → s.fld (F_ELK_P_STAT_STATE p) = 1 → t.elkIsUp p = true ∧ t.fld (F_ELK_P_STAT_PEER p) = m ∧ t.elkPort p = {}) ∧
    ((s.elkPort p).said = false ∨ s.fld (F_ELK_P_STAT_STATE p) ≠ 1 → t.elkPort p = { s.elkPort p with heard := some m } ∧ t.elkIsUp p = false) ∧
    t.CauseGone 0x050C ∧ (∀ q, q ≠ p → t.elkPort q = s.elkPort q) ∧ AlarmsBut [0x0501, 0x050C] s t ∧ Frame [.alarms, .rcd, .elk, .regs] s t) ∧
  (∀ (p : Nat) (s : State), s.Sound → s.elkIsUp p = true → ∃ t, exec (.elkPortLost p) s = .next t ∧ t.fld (F_ELK_P_STAT_STATE p) = 3 ∧
    t.flag (bitAt A_ELK_STATUS p) = false ∧ (t.elkPort p).held = [] ∧ (t.elkPort p).queue = [] ∧ (t.elkPort p).lostAt = s.tim.el ∧
    t.fld (F_ELK_P_DROP_COUNT p) = Nat.min 4294967295 (s.fld (F_ELK_P_DROP_COUNT p) + ((s.elkPort p).held.length + (s.elkPort p).queue.length)) ∧
    t.flag F_ELK_EVENT_PORT_LOST = true ∧ t.Alarmed 0x0501 ∧ (∀ q, q ≠ p → t.elkPort q = s.elkPort q) ∧ AlarmsBut [0x0501] s t ∧
    Frame [.alarms, .rcd, .elk, .regs] s t) ∧
  (∀ (p v : Nat) (b : Bool) (s : State), s.elkIsUp p = false → exec (.elkPortLost p) s = .next s ∧ exec (.elkRetransmitFrame p v b) s = .next s) ∧
  (∀ (p v : Nat) (b : Bool) (s : State), (∀ e ∈ (s.elkPort p).held, e.vc ≠ v) → exec (.elkRetransmitFrame p v b) s = .next s) ∧
  (∀ (p : Nat) (s : State), s.Sound → p < 2 → s.fld (F_ELK_P_STAT_STATE p) = 3 → ∃ t, exec (.elkPortRetry p) s = .next t ∧
    t.fld (F_ELK_P_STAT_STATE p) = 1 ∧ t.tim.el = Nat.max s.tim.el ((s.elkPort p).lostAt + 100000000) ∧
    t.elkPort p = { s.elkPort p with lostAt := (s.elkPort p).lostAt + 100000000 } ∧ Frame [.elk, .tim, .elapsed, .working, .regs] s t) ∧
  (∀ (p : Nat) (s : State), 2 ≤ p ∨ s.fld (F_ELK_P_STAT_STATE p) ≠ 3 → exec (.elkPortRetry p) s = .next s) ∧
  (∀ (p v : Nat) (b : Bool) (f : ElkFrame) (s : State), s.elkIsUp p = true → (s.elkPort p).held.find? (fun e => e.vc == v) = some f →
    (∀ e ∈ (s.elkPort p).held, e.vc = v → e.sends < 32) → ∃ t, exec (.elkRetransmitFrame p v b) s = .next t ∧
    t.tim.el = (if b then s.tim.el else Nat.max s.tim.el (f.sentAt + 40000)) ∧
    s.Sends t (((s.elkPort p).held.filter (fun e => e.vc == v)).map (fun e => ⟨.elk p, .packet, frameData (s.elkPort p) e⟩)) ∧
    t.elkPort p = { s.elkPort p with held := (s.elkPort p).held.map (fun e => if e.vc = v then { e with sends := e.sends + 1, sentAt := t.tim.el } else e) } ∧
    Frame [.tim, .elapsed, .working, .elk, .regs, .out] s t) ∧
  (∀ (p v : Nat) (b : Bool) (s : State), s.Sound → s.elkIsUp p = true → (∃ e ∈ (s.elkPort p).held, e.vc = v ∧ 32 ≤ e.sends) → ∃ t,
    exec (.elkRetransmitFrame p v b) s = .next t ∧
    t.fld (F_ELK_P_STAT_STATE p) = 3 ∧ t.Alarmed 0x0501 ∧ (t.elkPort p).held = [] ∧ AlarmsBut [0x0501] s t ∧
    Frame [.alarms, .rcd, .tim, .elapsed, .working, .elk, .regs] s t) ∧
  (∀ (p : Nat) (h : LinkHeader) (k : Packet) (s : State), s.elkIsUp p = false → exec (.elkPacket p h k) s = .next s) ∧
  (∀ (p : Nat) (h : LinkHeader) (k : Packet) (s : State), s.Sound → s.elkIsUp p = true → h.crcOk = false → ∃ t, exec (.elkPacket p h k) s = .next t ∧
    t.fld (F_ELK_P_CRC_COUNT p) = Nat.min 4294967295 (s.fld (F_ELK_P_CRC_COUNT p) + 1) ∧
    ((s.elkPort p).crcRun < 15 → t.elkPort p = { s.elkPort p with crcRun := (s.elkPort p).crcRun + 1 } ∧ t.elkIsUp p = true ∧ t.alarms = s.alarms) ∧
    (15 ≤ (s.elkPort p).crcRun → t.fld (F_ELK_P_STAT_STATE p) = 3 ∧ t.Alarmed 0x0501) ∧ Frame [.alarms, .rcd, .elk, .regs] s t) ∧
  (∀ (p : Nat) (h : LinkHeader) (k : Packet) (s : State), s.elkIsUp p = true → h.crcOk = true → h.seq ≠ aget 0 (s.elkPort p).rxSeq h.vc →
    (s.elkPort p).queue = [] → ∃ t, exec (.elkPacket p h k) s = .next t ∧ t.elkPort p = (s.elkPort p).takeHeader h ∧ Frame [.elk] s t)

/-- R442 to R444, R446, R448, R449, R454. -/
def Obligations.MembersRoutePublishSubscribeAndCloseSets : Prop :=
  (∀ (p : Nat) (h : LinkHeader) (k : Packet) (s : State), s.Sound → s.elkIsUp p = true → h.crcOk = true → h.seq = aget 0 (s.elkPort p).rxSeq h.vc →
    (s.elkPort p).queue = [] → k.dst ≠ s.member → k.hops = 0 → ∃ t, exec (.elkPacket p h k) s = .next t ∧
    aget 0 (t.elkPort p).rxSeq h.vc = (h.seq + 1) % 65536 ∧ t.fld (F_ELK_P_RX_COUNT p) = Nat.min 4294967295 (s.fld (F_ELK_P_RX_COUNT p) + 1) ∧
    t.flag F_ELK_EVENT_ROUTE_DROP = true ∧ (afind s.elk.alarmAt 0x0503 = none → t.Alarmed 0x0503) ∧ AlarmsBut [0x0503] s t ∧
    Frame [.alarms, .rcd, .elk, .regs] s t) ∧
  (∀ (p q : Nat) (h : LinkHeader) (k : Packet) (s : State), s.Sound → p < 2 → q < 2 → p ≠ q → s.elkIsUp p = true → s.elkIsUp q = true → h.crcOk = true →
    h.seq = aget 0 (s.elkPort p).rxSeq h.vc → (s.elkPort p).queue = [] → (s.elkPort q).queue = [] → k.dst ≠ s.member → 0 < k.hops → s.routeOf k.dst = some q →
    unitsOf k.data.length ≤ (s.elkPort q).credit (vcOfType k.typ) → ∃ t, exec (.elkPacket p h k) s = .next t ∧
    s.Sends t [⟨.elk q, .packet, frameData (s.elkPort q) ⟨vcOfType k.typ, p, aget 0 (s.elkPort q).txSeq (vcOfType k.typ), 1, s.tim.el, unitsOf k.data.length,
      { k with hops := k.hops - 1 }⟩⟩] ∧ t.alarms = s.alarms ∧ aget 0 (t.elkPort p).rxSeq h.vc = (h.seq + 1) % 65536 ∧
    (t.elkPort q).queue = [] ∧ (t.elkPort q).held.length = (s.elkPort q).held.length + 1 ∧ Frame [.elk, .regs, .out] s t) ∧
  (∀ (p : Nat) (h : LinkHeader) (k : Packet) (s : State), s.Sound → s.elkIsUp p = true → h.crcOk = true → h.seq = aget 0 (s.elkPort p).rxSeq h.vc →
    (s.elkPort p).queue = [] → k.dst = s.member → k.typ = 1 → k.data.length = 16 → crcWords (k.data.take 15) = nthW k.data 15 →
    bits (nthW k.data 0) 15 0 / 2 * 2 ∈ s.subUnits → s.setClosed (s.fullEpoch (nthW k.data 1).toNat) = false →
    s.fullEpoch (nthW k.data 1).toNat ≤ s.formEpoch + 1 → ∃ t, exec (.elkPacket p h k) s = .next t ∧
    afind (aget [] t.elk.bufs (s.fullEpoch (nthW k.data 1).toNat)) (bits (nthW k.data 0) 15 0 / 2 * 2) = some k.data ∧ AlarmsBut [0x0509] s t ∧
    Frame [.alarms, .rcd, .elk, .regs] s t) ∧
  (∀ (p : Nat) (h : LinkHeader) (k : Packet) (s : State), s.Sound → s.elkIsUp p = true → h.crcOk = true → h.seq = aget 0 (s.elkPort p).rxSeq h.vc →
    (s.elkPort p).queue = [] → k.dst = s.member → k.typ = 1 → k.data.length = 16 → crcWords (k.data.take 15) = nthW k.data 15 →
    bits (nthW k.data 0) 15 0 / 2 * 2 ∈ s.subUnits → s.setClosed (s.fullEpoch (nthW k.data 1).toNat) = true → ∃ t, exec (.elkPacket p h k) s = .next t ∧
    t.fld F_ELK_LATE_LATE = Nat.min (fieldMax F_ELK_LATE_LATE) (s.fld F_ELK_LATE_LATE + 1) ∧ t.elk.bufs = s.elk.bufs ∧ t.flag F_ELK_EVENT_EPOCH = true ∧
    (afind s.elk.alarmAt 0x0507 = none → t.Alarmed 0x0507) ∧ AlarmsBut [0x0507] s t ∧ Frame [.alarms, .rcd, .elk, .regs] s t) ∧
  (∀ (n v h : Nat) (k : Packet) (s : State), s.elkOn 2 = false ∨ (s.parGiven 0x0A09).length ≤ n → exec (.elkUdpDatagram n v h k) s = .next s) ∧
  (∀ (n v h : Nat) (k : Packet) (s : State), s.Sound → s.elkOn 2 = true → n < (s.parGiven 0x0A09).length → h ≤ aget 0 s.elk.rxHop (4 * n + v) → ∃ t,
    exec (.elkUdpDatagram n v h k) s = .next t ∧ t.fld F_ELK_UDP_DROP_COUNT = Nat.min 4294967295 (s.fld F_ELK_UDP_DROP_COUNT + 1) ∧ Frame [.regs] s t ∧
    FieldsBut [F_ELK_UDP_DROP_COUNT] s t) ∧
  (∀ (n v h : Nat) (k : Packet) (s : State), s.Sound → s.elkOn 2 = true → n < (s.parGiven 0x0A09).length → aget 0 s.elk.rxHop (4 * n + v) < h →
    k.dst = s.member → k.typ = 3 → k.src / 2 * 2 ∈ s.subUnits → s.subUnits.length ≤ 64 → ∃ t, exec (.elkUdpDatagram n v h k) s = .next t ∧
    aget 0 t.elk.rxHop (4 * n + v) = h ∧ t.fld F_ELK_UDP_RX_COUNT = Nat.min 4294967295 (s.fld F_ELK_UDP_RX_COUNT + 1) ∧
    (nthW k.data 0 = 0#32 → aget 0 t.elk.acks (k.src / 2 * 2) = s.tim.el ∧ t.flag (F_ELK_SUB_STAT_ACKED (s.subIndex (k.src / 2 * 2))) = true ∧
      t.flag (F_ELK_SUB_STAT_FULL (s.subIndex (k.src / 2 * 2))) = false) ∧
    (nthW k.data 0 ≠ 0#32 → t.flag (F_ELK_SUB_STAT_FULL (s.subIndex (k.src / 2 * 2))) = true ∧ t.Alarmed 0x0508) ∧
    AlarmsBut [0x0505, 0x0508] s t ∧ Frame [.alarms, .rcd, .elk, .regs] s t) ∧
  (∀ (n v h : Nat) (k : Packet) (s : State), s.elkOn 2 = true → n < (s.parGiven 0x0A09).length → aget 0 s.elk.rxHop (4 * n + v) < h →
    k.dst = s.member → k.typ = 2 → ∃ t, exec (.elkUdpDatagram n v h k) s = .next t ∧
    (s.elk.table.length < 64 ∨ (afind s.elk.table k.src).isSome = true → afind t.elk.table k.src = some s.tim.el) ∧
    (64 ≤ s.elk.table.length → afind s.elk.table k.src = none → t.elk.table = s.elk.table) ∧ (∀ m, m ≠ k.src → afind t.elk.table m = afind s.elk.table m)) ∧
  (∀ (s : State), s.formOn = false → exec .subSend s = .next s) ∧
  (∀ (u p : Nat) (s : State), s.formOn = true → s.subUnits = [u] → p < 2 → s.elkIsUp p = true → s.routeOf (s.subDest u) = some p → (s.elkPort p).queue = [] →
    1 ≤ (s.elkPort p).credit 2 → ∃ t, exec .subSend s = .next t ∧
    s.Sends t [⟨.elk p, .packet, frameData (s.elkPort p) ⟨2, 3, aget 0 (s.elkPort p).txSeq 2, 1, t.tim.el, 1,
      ⟨s.subDest u, s.member, 2, 63, aget 0 s.elk.seqs 2, s.formEpoch % 4294967296, []⟩⟩⟩] ∧
    aget 0 t.elk.seqs 2 = (aget 0 s.elk.seqs 2 + 1) % 4294967296 ∧ (∀ e, s.elk.subAt = some e → t.tim.el = Nat.max s.tim.el (e + 1000000000)) ∧
    t.elk.subAt = some t.tim.el ∧ Frame [.tim, .elapsed, .working, .elk, .regs, .out] s t) ∧
  (∀ (m a : Nat) (s : State), s.Sound → afind s.elk.table m = some a → ∃ t, exec (.subscriberExpiry m) s = .next t ∧ afind t.elk.table m = none ∧
    (∀ n, n ≠ m → afind t.elk.table n = afind s.elk.table n) ∧ t.tim.el = Nat.max s.tim.el (a + 3000000000) ∧
    (s.elk.table.length ≤ 64 → t.fld F_ELK_STATUS_SUBSCRIBERS = t.elk.table.length) ∧ Frame [.elk, .tim, .elapsed, .working, .regs] s t) ∧
  (∀ (m : Nat) (s : State), afind s.elk.table m = none → exec (.subscriberExpiry m) s = .next s) ∧
  (∀ (u : Nat) (s : State), s.Sound → s.formOn = true → u ∈ s.subUnits → u ∉ s.elk.failed → s.subUnits.length ≤ 64 → ∃ t, exec (.subscriptionTimeout u) s = .next t ∧
    t.flag (F_ELK_SUB_STAT_ACKED (s.subIndex u)) = false ∧ t.flag F_ELK_EVENT_SUB_FAIL = true ∧ t.Alarmed 0x0505 ∧ AlarmsBut [0x0505] s t ∧
    t.tim.el = Nat.max s.tim.el (aget s.elk.startedAt s.elk.acks u + 3000000000) ∧ t.elk = { s.elk with failed := insertNew s.elk.failed u } ∧
    Frame [.alarms, .rcd, .tim, .elapsed, .working, .elk, .regs] s t) ∧
  (∀ (u : Nat) (s : State), s.formOn = false ∨ u ∉ s.subUnits ∨ u ∈ s.elk.failed → exec (.subscriptionTimeout u) s = .next s) ∧
  (∀ (e : Nat) (s : State), s.formOn = false ∨ e < s.elk.closedTo → exec (.formationSetClose e) s = .next s) ∧
  (∀ (e : Nat) (s : State), s.formOn = true → s.elk.closedTo ≤ e → ∃ t, exec (.formationSetClose e) s = .next t ∧
    t.tim.wt = Nat.max s.tim.wt (e * s.formPeriod + s.par 0x0A05 * ms) ∧ aget [] t.elk.bufs e = [] ∧ t.elk.closedTo = e + 1 ∧
    t.agr.own = s.agr.own ++ [⟨s.pins.side, 5, 3, t.epochOf (e * s.formPeriod + s.par 0x0A05 * ms), e * s.formPeriod + s.par 0x0A05 * ms,
      e * s.formPeriod + s.par 0x0A05 * ms, aget 0 s.agr.arrivals 20483, toWord e :: (aget ([] : List (Nat × List Word)) s.elk.bufs e).flatMap (fun r => r.2)⟩] ∧
    Frame [.elk, .agr, .tim, .elapsed, .working, .twn, .out] s t)

/-- R424, with the assignment of R421. The premises say that the target exists and, as R419 has it, that a source in service is neither assigned nor in
service a second time. -/
def Obligations.CompletionPopsTheStackAndTheSourceIsAssignedAgain : Prop :=
  ∀ (m k n : Nat) (v : Word) (s : State), s.Sound → k < 4 → s.intc.targets.length = 4 → s.MayAccess m (A_INTC_T_COMPLETE k) true → bits v 8 0 = n →
    (s.target k).frozen = false → (s.target k).stack.getLast? = some n → n ∉ (s.target k).stack.dropLast →
    (∀ j, j ≠ k → n ∉ (s.target j).stack) → afind s.intc.assigned n = none → ∃ t, exec (.complete m k v) s = .next t ∧
    (t.target k).stack = (s.target k).stack.dropLast ∧ (∀ j, j ≠ k → (t.target j).stack = (s.target j).stack) ∧ t.inService n = false ∧
    t.asserted n = s.asserted n ∧ (s.asserted n = true → t.pendingSource n = true ∧ afind t.intc.assigned n =
      (targetOrder (s.fld (F_INTC_SRC_CFG_TARGET n))).find? (fun u => tbit (s.fld (F_INTC_SRC_CFG_EN n)) u && t.able u)) ∧
    (s.asserted n = false → t.pendingSource n = false ∧ afind t.intc.assigned n = none)

/-- R53. -/
def Obligations.ChoosingASlotNeverWritesTheFlash : Prop :=
  (∀ (b : BootTests) (s : State), ∃ t, exec (.bootStart b) s = .next t ∧ t.flash = s.flash) ∧
  (∀ (r : StartTests) (s : State), ∃ t, exec (.slotStreamEnd r) s = .next t ∧ t.flash = s.flash) ∧
  (∀ (s : State), ∃ t, exec .bootTimeout s = .next t ∧ t.flash = s.flash) ∧
  (∀ (r : StartTests) (a : Nat) (p : List Byte) (s t u : State), s.Sound → exec (.slotStreamEnd r) s = .next t → t.flashCmd = some ⟨3, a, p⟩ →
    exec (.flashCommandDone false) t = .next u →
    ∀ k < 64, u.reg (A_KPR_FLW_BUF k) = BitVec.ofNat 32 (leNat (memGetRun erasedCell 1 s.flash (a + 4 * k) 4)))

/-- R471. -/
def Obligations.ARefusalOfAFirmwareMasterShowsAFault : Prop :=
  (∀ (m a r : Nat) (s : State), s.Sound → m ≤ 10 ∨ m = 15 ∨ (17 ≤ m ∧ m ≤ 19) → a < 4294967296 → a % 4 = 0 → regionOf a = some r →
    s.allowed r m a false = false → ∃ t, exec (.registerRead m a) s = .next t ∧ t.flag F_ACC_EVENT_FW_VIOL = true ∧ t.Alarmed 0x0F02 ∧
    t.twn.selfE = true ∧ t.asserted 65 = true) ∧
  (∀ (m a r : Nat) (v : Word) (s : State), s.Sound → m ≤ 10 ∨ m = 15 ∨ (17 ≤ m ∧ m ≤ 19) → a < 4294967296 → a % 4 = 0 → regionOf a = some r →
    s.allowed r m a true = false ∨ (stiBase ≤ a ∧ a < stiBase + 65536) ∨ (s.locked = true ∧ ∃ q, regAt a = some q ∧ q.isRwl = true) →
    ∃ t, exec (.registerWrite m a v) s = .next t ∧ t.flag F_ACC_EVENT_FW_VIOL = true ∧ t.Alarmed 0x0F02 ∧ t.twn.selfE = true ∧ t.asserted 65 = true) ∧
  (∀ (m a r : Nat) (v : Word) (s : State), s.Sound → (11 ≤ m ∧ m ≤ 14) ∨ m = 16 → a < 4294967296 → a % 4 = 0 → regionOf a = some r →
    (s.allowed r m a false = false → ∃ t, exec (.registerRead m a) s = .next t ∧ t.flag F_ACC_EVENT_FW_VIOL = s.flag F_ACC_EVENT_FW_VIOL ∧
      t.alarm? 0x0F02 = s.alarm? 0x0F02 ∧ t.twn = s.twn) ∧
    (s.allowed r m a true = false → ∃ t, exec (.registerWrite m a v) s = .next t ∧ t.flag F_ACC_EVENT_FW_VIOL = s.flag F_ACC_EVENT_FW_VIOL ∧
      t.alarm? 0x0F02 = s.alarm? 0x0F02 ∧ t.twn = s.twn)) ∧
  (∀ s : State, s.asserted 65 = true ↔ s.flag F_ACC_EVENT_VIOL = true ∨ s.flag F_ACC_EVENT_FW_VIOL = true)

/-- R34; the code 2 is that of R429. -/
def Obligations.UnmappedAccessesFailAndAreReported : Prop :=
  (∀ (m a : Nat) (s : State), a < 4294967296 → a % 4 = 0 → regionOf a = none → ∃ t, exec (.registerRead m a) s = .next t ∧
    s.Sends t [⟨.access m, .read, [a, 2, 0]⟩] ∧ t.Alarmed 0x0005 ∧ AlarmsBut [0x0005] s t ∧ Frame [.alarms, .rcd, .regs, .out] s t ∧
    (s.Sound → FieldsBut recFields s t) ∧
    ((∀ x, s.alarm? 0x0005 = some x → x.acked = true) → s.rcd.queue.length < 1024 → ∃ r, t.rcd.queue = s.rcd.queue ++ [r] ∧ r.typ = 0x0005 ∧
      r.payload = padWords 10 [toWord m, toWord a])) ∧
  (∀ (m a : Nat) (v : Word) (s : State), a < 4294967296 → a % 4 = 0 → regionOf a = none → ∃ t, exec (.registerWrite m a v) s = .next t ∧
    s.Sends t [⟨.access m, .write, [a, 2, v.toNat]⟩] ∧ t.Alarmed 0x0005 ∧ AlarmsBut [0x0005] s t ∧ Frame [.alarms, .rcd, .regs, .out] s t ∧
    (s.Sound → FieldsBut recFields s t) ∧
    ((∀ x, s.alarm? 0x0005 = some x → x.acked = true) → s.rcd.queue.length < 1024 → ∃ r, t.rcd.queue = s.rcd.queue ++ [r] ∧ r.typ = 0x0005 ∧
      r.payload = padWords 10 [toWord m, toWord a])) ∧
  (∀ (a n : Nat) (s : State), s.hostPortOn = true → s.hst.buffer = [] → a < 4294967296 → a % 4 = 0 → regionOf a = none → ∃ t,
    exec (.hostRead a (n + 1)) s = .next t ∧ s.Sends t [⟨.host, .read, [0x5A, 2]⟩] ∧ t.Alarmed 0x0005)

/-- R63. Boot step 6, the end of a slot's stream, loads an image only in BOOT. -/
def Obligations.TheRunningImageChangesOnlyThroughADeviceReset : Prop :=
  (∀ (c : Instr) (s t : State), isReset c = false → s.dev.st ≠ .boot → exec c s = .next t → t.image = s.image ∧ t.dev.st ≠ .boot) ∧
  (∀ (m : Nat) (b : Bool) (s : State), ∃ t u v, exec (.flashErase m) s = .next t ∧ t.pat = s.pat ∧ exec (.flashProgram m) s = .next u ∧ u.pat = s.pat ∧
    exec (.flashCommandDone b) s = .next v ∧ v.pat = s.pat)

/-- R309. -/
def Obligations.TheSafetyConfigurationComesOnlyFromTheImage : Prop :=
  (∀ (c : Instr) (s t : State), isReset c = false → (∀ r, c = .slotStreamEnd r → s.dev.st ≠ .boot) → exec c s = .next t → t.saf.params = s.saf.params) ∧
  (∀ (m a : Nat) (v : Word) (s : State), s.Sound → 0x90000 ≤ a → a < 0xA0000 → a ≠ A_SAF_EVENT → s.MayAccess m a true → ∃ t,
    exec (.registerWrite m a v) s = .next t ∧ t.reg a = s.reg a ∧ s.Sends t [⟨.access m, .write, [a, 0, v.toNat]⟩] ∧ t.saf = s.saf ∧
    Frame [.intc, .apps, .regs, .out] s t) ∧
  (∀ (m : Nat) (v : Word) (s : State), s.Sound → s.MayAccess m A_SAF_EVENT true → ∃ t, exec (.registerWrite m A_SAF_EVENT v) s = .next t ∧
    t.reg A_SAF_EVENT = s.reg A_SAF_EVENT &&& ~~~(v &&& 0x7F#32) ∧ t.saf = s.saf ∧ Frame [.intc, .apps, .regs, .out] s t)

/-- The numbers of units of R149, R314, R326, R329, R344, R369, R420 and R431. -/
def Obligations.EveryUnitKeepsItsPlace : Prop :=
  ∀ s t : State, s.Shaped → step s = .next t → t.Shaped

/-- R422, R425. Moderation is judged when the line asserts. -/
def Obligations.InterruptLinesFollowTheClaimStacks : Prop :=
  ∀ s t : State, s.LinesOk → step s = .next t → t.LinesOk

/-- R420, R422. -/
def Obligations.ResetStateMeetsTheInvariants : Prop :=
  State.reset.Shaped ∧ State.reset.LinesOk ∧ ∀ k < 4, (State.reset.target k).line = false

end Statements
end

