-- ==== Sys2Proof/Laws/Memory.lean ====
section
/-! SUPPORT. Laws of the sparse memories: a read after a write, and every memory operation keeps the canonical form. -/
namespace Sys2Proof.Machine

theorem memGet_below {w : Nat} (d : Nat → BitVec w) (m : Sparse w) (a b : Nat) (h : memAbove a m = true) (hb : b ≤ a) :
    memGet d m b = d b := by
  cases m with
  | nil => rfl
  | cons e m =>
    obtain ⟨k, v⟩ := e
    have hk : a < k := by simpa [memAbove] using h
    have h1 : k ≠ b := by omega
    have h2 : b < k := by omega
    simp [memGet, h1, h2]

theorem memAbove_le {w : Nat} (m : Sparse w) (a b : Nat) (h : memAbove b m = true) (hab : a ≤ b) : memAbove a m = true := by
  cases m with
  | nil => rfl
  | cons e m => simp [memAbove] at *; omega

theorem memAbove_memCons {w : Nat} (d : Nat → BitVec w) (a b : Nat) (v : BitVec w) (m : Sparse w) (h : memAbove a m = true) (hb : b < a) :
    memAbove b (memCons d a v m) = true := by
  unfold memCons
  split
  · exact memAbove_le m b a h (by omega)
  · simpa [memAbove] using hb

theorem memAbove_memSet {w : Nat} (d : Nat → BitVec w) (b a : Nat) (v : BitVec w) (m : Sparse w) (hm : memWf d m = true)
    (h : memAbove b m = true) (hb : b < a) : memAbove b (memSet d m a v) = true := by
  induction m with
  | nil => exact memAbove_memCons d a b v [] rfl hb
  | cons e m ih =>
    obtain ⟨k, u⟩ := e
    have hk : b < k := by simpa [memAbove] using h
    simp only [memWf, Bool.and_eq_true] at hm
    unfold memSet
    split
    · rename_i hak
      exact memAbove_memCons d a b v _ (by simpa [memAbove] using hak) hb
    · split
      · rename_i _ hka
        subst hka
        exact memAbove_memCons d k b v m hm.1.2 hb
      · simpa [memAbove] using hk

theorem memWf_memCons {w : Nat} (d : Nat → BitVec w) (a : Nat) (v : BitVec w) (m : Sparse w) (hm : memWf d m = true)
    (h : memAbove a m = true) : memWf d (memCons d a v m) = true := by
  unfold memCons
  split
  · exact hm
  · rename_i hv
    simp [memWf, hm, h, hv]

/-- A write keeps the canonical form. -/
theorem memWf_memSet {w : Nat} (d : Nat → BitVec w) (m : Sparse w) (a : Nat) (v : BitVec w) (hm : memWf d m = true) :
    memWf d (memSet d m a v) = true := by
  induction m with
  | nil => exact memWf_memCons d a v [] rfl rfl
  | cons e m ih =>
    obtain ⟨k, u⟩ := e
    have hm' := hm
    simp only [memWf, Bool.and_eq_true] at hm
    unfold memSet
    split
    · rename_i hak
      exact memWf_memCons d a v _ hm' (by simpa [memAbove] using hak)
    · split
      · rename_i _ hka
        subst hka
        exact memWf_memCons d k v m hm.2 hm.1.2
      · rename_i h1 h2
        have := memAbove_memSet d k a v m hm.2 hm.1.2 (by omega)
        simp only [memWf, Bool.and_eq_true]
        exact ⟨⟨hm.1.1, this⟩, ih hm.2⟩

/-- A run of writes keeps the canonical form. -/
theorem memWf_memSetRun {w : Nat} (d : Nat → BitVec w) (step : Nat) (vs : List (BitVec w)) (m : Sparse w) (a : Nat) (hm : memWf d m = true) :
    memWf d (memSetRun d step m a vs) = true := by
  induction vs generalizing m a with
  | nil => exact hm
  | cons v vs ih => exact ih _ _ (memWf_memSet d m a v hm)

theorem memAbove_filter {w : Nat} (d : Nat → BitVec w) (p : Nat × BitVec w → Bool) (a : Nat) (m : Sparse w) (hm : memWf d m = true)
    (h : memAbove a m = true) : memAbove a (m.filter p) = true := by
  induction m with
  | nil => rfl
  | cons e m ih =>
    obtain ⟨k, v⟩ := e
    have hk : a < k := by simpa [memAbove] using h
    simp only [memWf, Bool.and_eq_true] at hm
    by_cases hp : p (k, v) = true
    · simp [hp, memAbove, hk]
    · simp only [List.filter_cons, hp]
      exact ih hm.2 (memAbove_le m a k hm.1.2 (by omega))

/-- Taking entries out of a memory keeps the canonical form. -/
theorem memWf_filter {w : Nat} (d : Nat → BitVec w) (p : Nat × BitVec w → Bool) (m : Sparse w) (hm : memWf d m = true) :
    memWf d (m.filter p) = true := by
  induction m with
  | nil => rfl
  | cons e m ih =>
    obtain ⟨k, v⟩ := e
    simp only [memWf, Bool.and_eq_true] at hm
    by_cases hp : p (k, v) = true
    · simp only [List.filter_cons, hp, if_true, memWf, Bool.and_eq_true]
      exact ⟨⟨hm.1.1, memAbove_filter d p k m hm.2 hm.1.2⟩, ih hm.2⟩
    · simp only [List.filter_cons, hp]
      exact ih hm.2

theorem memGet_memCons {w : Nat} (d : Nat → BitVec w) (a b : Nat) (v : BitVec w) (m : Sparse w) (h : memAbove a m = true) :
    memGet d (memCons d a v m) b = if b = a then v else memGet d m b := by
  unfold memCons
  split
  · rename_i hv
    split
    · rename_i hb
      subst hb hv
      exact memGet_below d m b b h (Nat.le_refl b)
    · rfl
  · by_cases hab : a = b
    · simp [memGet, hab]
    · have hba : b ≠ a := fun h => hab h.symm
      by_cases hlt : b < a
      · simp [memGet, hab, hba, hlt, memGet_below d m a b h (by omega)]
      · simp [memGet, hab, hba, hlt]

/-- A read after a write: the written key gives the written value, every other key what it gave before. -/
theorem memGet_memSet {w : Nat} (d : Nat → BitVec w) (m : Sparse w) (a b : Nat) (v : BitVec w) (hm : memWf d m = true) :
    memGet d (memSet d m a v) b = if b = a then v else memGet d m b := by
  induction m with
  | nil => exact memGet_memCons d a b v [] rfl
  | cons e m ih =>
    obtain ⟨k, u⟩ := e
    simp only [memWf, Bool.and_eq_true] at hm
    unfold memSet
    split
    · rename_i hak
      exact memGet_memCons d a b v _ (by simpa [memAbove] using hak)
    · split
      · rename_i _ hka
        subst hka
        rw [memGet_memCons d k b v m hm.1.2]
        by_cases hb : b = k
        · simp [hb]
        · have hkb : k ≠ b := fun h => hb h.symm
          by_cases hlt : b < k
          · simp [memGet, hb, hkb, hlt, memGet_below d m k b hm.1.2 (by omega)]
          · simp [memGet, hb, hkb, hlt]
      · rename_i h1 h2
        by_cases hkb : k = b
        · have hba : b ≠ a := fun h => h2 (hkb.trans h)
          simp [memGet, hkb, hba]
        · by_cases hlt : b < k
          · have hba : b ≠ a := by omega
            simp [memGet, hkb, hlt, hba]
          · simp [memGet, hkb, hlt, ih hm.2]

/-- The written key reads as the written value. -/
theorem memGet_memSet_same {w : Nat} (d : Nat → BitVec w) (m : Sparse w) (a : Nat) (v : BitVec w) (hm : memWf d m = true) :
    memGet d (memSet d m a v) a = v := by simp [memGet_memSet d m a a v hm]

/-- Every other key reads as before. -/
theorem memGet_memSet_other {w : Nat} (d : Nat → BitVec w) (m : Sparse w) (a b : Nat) (v : BitVec w) (hm : memWf d m = true) (h : b ≠ a) :
    memGet d (memSet d m a v) b = memGet d m b := by simp [memGet_memSet d m a b v hm, h]

/-- An image stays canonical when sections are put into it. -/
theorem memWf_putSections (l : List (Nat × List Word)) (m : Sparse 32) (h : memWf zeroCell m = true) : memWf zeroCell (putSections m l) = true := by
  unfold putSections
  induction l generalizing m with
  | nil => exact h
  | cons e l ih => exact ih _ (memWf_memSetRun _ _ _ _ _ h)

end Sys2Proof.Machine
end

