-- ==== Sys2Proof/Laws/Acts.lean ====
section
/-! SUPPORT. What an operation may change. `Acts m s t`: from `s` to `t` only the parts whose bits stand in the mask `m` change, and a sound
state stays sound. One lemma of this form per operation says once what it can do; a proof about a longer operation cites those of its parts. -/
namespace Sys2Proof.Machine

/-- The place of a part in a mask. -/
def Part.idx : Part → Nat
  | .serial => 0
  | .devKey => 1
  | .clk => 2
  | .boot => 3
  | .pat => 4
  | .dev => 5
  | .ord => 6
  | .alarms => 7
  | .rcd => 8
  | .mram => 9
  | .ann => 10
  | .intc => 11
  | .hst => 12
  | .apps => 13
  | .sti => 14
  | .acl => 15
  | .tim => 16
  | .pins => 17
  | .agr => 18
  | .twn => 19
  | .saf => 20
  | .hlt => 21
  | .thm => 22
  | .gns => 23
  | .fus => 24
  | .ctl => 25
  | .alc => 26
  | .slv => 27
  | .fch => 28
  | .loops => 29
  | .net => 30
  | .can => 31
  | .spt => 32
  | .elk => 33
  | .flashCmd => 34
  | .regs => 35
  | .appm => 36
  | .flash => 37
  | .xchg => 38
  | .out => 39
  | .freeCtr => 40
  | .pending => 41
  | .devSt => 42
  | .devMode => 43
  | .devEpoch => 44
  | .devAim => 45
  | .ladle => 46
  | .opTime => 47
  | .recNext => 48
  | .lease => 49
  | .brakes => 50
  | .elapsed => 51
  | .working => 52

/-- From `s` to `t` only the parts in `m` change, and a sound state stays sound. -/
structure Acts (m : Nat) (s t : State) : Prop where
  frame : ∀ p : Part, m.testBit p.idx = false → p.same s t
  sound : s.Sound → t.Sound

theorem Part.same_refl (p : Part) (s : State) : p.same s s := by cases p <;> rfl

theorem Part.same_trans {p : Part} {s t u : State} (h : p.same s t) (k : p.same t u) : p.same s u := by
  cases p <;> exact Eq.trans k h

theorem mask_sub {m n i : Nat} (h : n ||| m = m) (hi : m.testBit i = false) : n.testBit i = false := by
  have := congrArg (fun x => x.testBit i) h
  simp [Nat.testBit_or, hi] at this
  exact this

theorem mask_step {m n k : Nat} (h : n ||| m = m) (hk : k ||| n = n) : k ||| m = m := by
  rw [← h, ← Nat.or_assoc, hk]

theorem Acts.refl {m : Nat} (s : State) : Acts m s s := ⟨fun p _ => p.same_refl s, id⟩

/-- One operation after another. -/
theorem Acts.step {m n : Nat} {s t u : State} (h : Acts m s t) (k : Acts n t u) (hs : n ||| m = m) : Acts m s u :=
  ⟨fun p hp => Part.same_trans (h.frame p hp) (k.frame p (mask_sub hs hp)), fun c => k.sound (h.sound c)⟩

theorem Acts.mono {m n : Nat} {s t : State} (h : Acts n s t) (hs : n ||| m = m) : Acts m s t := ⟨fun p hp => h.frame p (mask_sub hs hp), h.sound⟩

theorem Acts.ite {m : Nat} {c : Prop} [Decidable c] {s a b : State} (h : c → Acts m s a) (k : ¬c → Acts m s b) : Acts m s (if c then a else b) := by
  split
  · exact h ‹_›
  · exact k ‹_›

theorem Acts.someD {m : Nat} {s a d : State} (h : Acts m s a) : Acts m s ((some a).getD d) := h

theorem Acts.noneD {m : Nat} {s d : State} (h : Acts m s d) : Acts m s (none.getD d) := h

theorem Acts.pair {m : Nat} {α : Type} {s a : State} {b : α} (h : Acts m s a) : Acts m s (a, b).1 := h

theorem Acts.iteD {m : Nat} {c : Prop} [Decidable c] {s d : State} {a b : Option State} (h : c → Acts m s (a.getD d)) (k : ¬c → Acts m s (b.getD d)) :
    Acts m s ((if c then a else b).getD d) := by
  split
  · exact h ‹_›
  · exact k ‹_›

theorem Acts.iteP {m : Nat} {c : Prop} [Decidable c] {α : Type} {s : State} {a b : State × α} (h : c → Acts m s a.1) (k : ¬c → Acts m s b.1) :
    Acts m s (if c then a else b).1 := by
  split
  · exact h ‹_›
  · exact k ‹_›

theorem Acts.foldl {m : Nat} {α : Type} {f : State → α → State} {l : List α} {s₀ s : State} (h₀ : Acts m s₀ s) (h : ∀ s x, Acts m s (f s x)) :
    Acts m s₀ (l.foldl f s) := by
  induction l generalizing s with
  | nil => exact h₀
  | cons a l ih => exact ih (h₀.step (h s a) (Nat.or_self m))

theorem Acts.each {m : Nat} {f : State → Nat → State} {l : List Nat} {s₀ s : State} (h₀ : Acts m s₀ s) (h : ∀ s x, Acts m s (f s x)) :
    Acts m s₀ (s.each l f) := h₀.foldl h

theorem Acts.when {m : Nat} {f : State → State} {b : Bool} {s₀ s : State} (h₀ : Acts m s₀ s) (h : ∀ s, Acts m s (f s)) : Acts m s₀ (s.when b f) := by
  unfold State.when
  split
  · exact h₀.step (h s) (Nat.or_self m)
  · exact h₀

/-- The frame of an operation, by the parts it may change. -/
theorem Acts.toFrame {m : Nat} {ps : List Part} {s t : State} (h : Acts m s t) (hp : ∀ p : Part, p ∉ ps → m.testBit p.idx = false) : Frame ps s t :=
  fun p hn => h.frame p (hp p hn)

/-- A change of a part that no clause of soundness speaks of. -/
theorem State.Sound.of_eq {t u : State} (k : t.Sound) (h1 : u.regs = t.regs) (h2 : u.appm = t.appm) (h3 : u.flash = t.flash) (h4 : u.xchg = t.xchg)
    (h5 : u.mram.area = t.mram.area) (h6 : u.sti.bufA = t.sti.bufA) (h7 : u.sti.bufB = t.sti.bufB) (h8 : u.gns.samples = t.gns.samples)
    (h9 : u.ctl.capture = t.ctl.capture) (h10 : u.alarms = t.alarms) (h11 : u.rcd.queue = t.rcd.queue) (h12 : u.mram.next = t.mram.next)
    (h13 : u.mram.base = t.mram.base) (h14 : u.hst.buffer = t.hst.buffer) : u.Sound := by
  refine ⟨?_, h10 ▸ k.alarms, h11 ▸ k.queue, ?_, h14 ▸ k.buffer⟩
  · have := k.canonical
    unfold State.Canonical at *
    rw [h1, h2, h3, h4, h5, h6, h7, h8, h9]
    exact this
  · have := k.used
    unfold State.recUsed at *
    rw [h12, h13]
    exact this

/-- A change of the memories that keeps their canonical form. -/
theorem State.Sound.of_canonical {t u : State} (k : t.Sound) (hc : u.Canonical) (h1 : u.alarms = t.alarms) (h2 : u.rcd.queue = t.rcd.queue)
    (h3 : u.mram.next = t.mram.next) (h4 : u.mram.base = t.mram.base) (h5 : u.hst.buffer = t.hst.buffer) : u.Sound := by
  refine ⟨hc, h1 ▸ k.alarms, h2 ▸ k.queue, ?_, h5 ▸ k.buffer⟩
  have := k.used
  unfold State.recUsed at *
  rw [h3, h4]
  exact this

/-! Updates of fields: one lemma for each set of fields that some operation updates together. -/

theorem Acts.leaf {m c : Nat} {s t u : State} (h : Acts m s t) (_ : c ||| m = m) (hf : ∀ p : Part, m.testBit p.idx = false → p.same t u)
    (hc : t.Sound → u.Sound) : Acts m s u := ⟨fun p hp => Part.same_trans (h.frame p hp) (hf p hp), fun k => hc (h.sound k)⟩

theorem Acts.upd_clk {m : Nat} {s t : State} {clk0 : Clk} (h : Acts m s t) (hs : 4 ||| m = m) :
    Acts m s { t with clk := clk0 } :=
  h.leaf hs (fun p hp => by cases p <;> first | rfl | exact absurd (mask_sub hs hp) (by decide))
    (fun k => k.of_eq rfl rfl rfl rfl rfl rfl rfl rfl rfl rfl rfl rfl rfl rfl)

theorem Acts.upd_clk_fch {m : Nat} {s t : State} {clk0 : Clk} {fch0 : FieldDie} (h : Acts m s t) (hs : 268435460 ||| m = m) :
    Acts m s { t with clk := clk0, fch := fch0 } :=
  h.leaf hs (fun p hp => by cases p <;> first | rfl | exact absurd (mask_sub hs hp) (by decide))
    (fun k => k.of_eq rfl rfl rfl rfl rfl rfl rfl rfl rfl rfl rfl rfl rfl rfl)

theorem Acts.upd_boot {m : Nat} {s t : State} {boot0 : Boot} (h : Acts m s t) (hs : 8 ||| m = m) :
    Acts m s { t with boot := boot0 } :=
  h.leaf hs (fun p hp => by cases p <;> first | rfl | exact absurd (mask_sub hs hp) (by decide))
    (fun k => k.of_eq rfl rfl rfl rfl rfl rfl rfl rfl rfl rfl rfl rfl rfl rfl)

theorem Acts.upd_boot_pat {m : Nat} {s t : State} {boot0 : Boot} {pat0 : Pat} (h : Acts m s t) (hs : 24 ||| m = m) :
    Acts m s { t with boot := boot0, pat := pat0 } :=
  h.leaf hs (fun p hp => by cases p <;> first | rfl | exact absurd (mask_sub hs hp) (by decide))
    (fun k => k.of_eq rfl rfl rfl rfl rfl rfl rfl rfl rfl rfl rfl rfl rfl rfl)

theorem Acts.upd_boot_dev {m : Nat} {s t : State} {boot0 : Boot} {dev0 : Dev} (h : Acts m s t) (hs : 40 ||| m = m) (k0 : m.testBit 42 = true ∨ dev0.st
    = t.dev.st) (k1 : m.testBit 43 = true ∨ (dev0.mode, dev0.period) = (t.dev.mode, t.dev.period)) (k2 : m.testBit 44 = true ∨ (dev0.freezes,
    dev0.stateEp, dev0.freezeAt) = (t.dev.freezes, t.dev.stateEp, t.dev.freezeAt)) (k3 : m.testBit 45 = true ∨ (dev0.setPoint, dev0.joystick,
    dev0.track, dev0.follow) = (t.dev.setPoint, t.dev.joystick, t.dev.track, t.dev.follow)) :
    Acts m s { t with boot := boot0, dev := dev0 } :=
  h.leaf hs (fun p hp => by cases p <;> first | rfl | exact absurd (mask_sub hs hp) (by decide) | exact k0.resolve_left (fun e => Bool.noConfusion (e.symm.trans hp)) | exact k1.resolve_left (fun e => Bool.noConfusion (e.symm.trans hp)) | exact k2.resolve_left (fun e => Bool.noConfusion (e.symm.trans hp)) | exact k3.resolve_left (fun e => Bool.noConfusion (e.symm.trans hp)))
    (fun k => k.of_eq rfl rfl rfl rfl rfl rfl rfl rfl rfl rfl rfl rfl rfl rfl)

theorem Acts.upd_boot_dev_rcd_twn {m : Nat} {s t : State} {boot0 : Boot} {dev0 : Dev} {rcd0 : Recorder} {twn0 : Twn} (h : Acts m s t) (hs : 524584 |||
    m = m) (hq : rcd0.queue = t.rcd.queue) (k0 : m.testBit 42 = true ∨ dev0.st = t.dev.st) (k1 : m.testBit 43 = true ∨ (dev0.mode, dev0.period) =
    (t.dev.mode, t.dev.period)) (k2 : m.testBit 44 = true ∨ (dev0.freezes, dev0.stateEp, dev0.freezeAt) = (t.dev.freezes, t.dev.stateEp,
    t.dev.freezeAt)) (k3 : m.testBit 45 = true ∨ (dev0.setPoint, dev0.joystick, dev0.track, dev0.follow) = (t.dev.setPoint, t.dev.joystick,
    t.dev.track, t.dev.follow)) (k4 : m.testBit 46 = true ∨ (twn0.ladleEp, twn0.holder) = (t.twn.ladleEp, t.twn.holder)) (k5 : m.testBit 47 = true ∨
    rcd0.opTime = t.rcd.opTime) :
    Acts m s { t with boot := boot0, dev := dev0, rcd := rcd0, twn := twn0 } :=
  h.leaf hs (fun p hp => by cases p <;> first | rfl | exact absurd (mask_sub hs hp) (by decide) | exact k0.resolve_left (fun e => Bool.noConfusion (e.symm.trans hp)) | exact k1.resolve_left (fun e => Bool.noConfusion (e.symm.trans hp)) | exact k2.resolve_left (fun e => Bool.noConfusion (e.symm.trans hp)) | exact k3.resolve_left (fun e => Bool.noConfusion (e.symm.trans hp)) | exact k4.resolve_left (fun e => Bool.noConfusion (e.symm.trans hp)) | exact k5.resolve_left (fun e => Bool.noConfusion (e.symm.trans hp)))
    (fun k => k.of_eq rfl rfl rfl rfl rfl rfl rfl rfl rfl rfl hq rfl rfl rfl)

theorem Acts.upd_pat {m : Nat} {s t : State} {pat0 : Pat} (h : Acts m s t) (hs : 16 ||| m = m) :
    Acts m s { t with pat := pat0 } :=
  h.leaf hs (fun p hp => by cases p <;> first | rfl | exact absurd (mask_sub hs hp) (by decide))
    (fun k => k.of_eq rfl rfl rfl rfl rfl rfl rfl rfl rfl rfl rfl rfl rfl rfl)

theorem Acts.upd_pat_ord {m : Nat} {s t : State} {pat0 : Pat} {ord0 : Ord} (h : Acts m s t) (hs : 80 ||| m = m) :
    Acts m s { t with pat := pat0, ord := ord0 } :=
  h.leaf hs (fun p hp => by cases p <;> first | rfl | exact absurd (mask_sub hs hp) (by decide))
    (fun k => k.of_eq rfl rfl rfl rfl rfl rfl rfl rfl rfl rfl rfl rfl rfl rfl)

theorem Acts.upd_dev {m : Nat} {s t : State} {dev0 : Dev} (h : Acts m s t) (hs : 32 ||| m = m) (k0 : m.testBit 42 = true ∨ dev0.st = t.dev.st) (k1 :
    m.testBit 43 = true ∨ (dev0.mode, dev0.period) = (t.dev.mode, t.dev.period)) (k2 : m.testBit 44 = true ∨ (dev0.freezes, dev0.stateEp,
    dev0.freezeAt) = (t.dev.freezes, t.dev.stateEp, t.dev.freezeAt)) (k3 : m.testBit 45 = true ∨ (dev0.setPoint, dev0.joystick, dev0.track,
    dev0.follow) = (t.dev.setPoint, t.dev.joystick, t.dev.track, t.dev.follow)) :
    Acts m s { t with dev := dev0 } :=
  h.leaf hs (fun p hp => by cases p <;> first | rfl | exact absurd (mask_sub hs hp) (by decide) | exact k0.resolve_left (fun e => Bool.noConfusion (e.symm.trans hp)) | exact k1.resolve_left (fun e => Bool.noConfusion (e.symm.trans hp)) | exact k2.resolve_left (fun e => Bool.noConfusion (e.symm.trans hp)) | exact k3.resolve_left (fun e => Bool.noConfusion (e.symm.trans hp)))
    (fun k => k.of_eq rfl rfl rfl rfl rfl rfl rfl rfl rfl rfl rfl rfl rfl rfl)

theorem Acts.upd_dev_ord {m : Nat} {s t : State} {dev0 : Dev} {ord0 : Ord} (h : Acts m s t) (hs : 96 ||| m = m) (k0 : m.testBit 42 = true ∨ dev0.st =
    t.dev.st) (k1 : m.testBit 43 = true ∨ (dev0.mode, dev0.period) = (t.dev.mode, t.dev.period)) (k2 : m.testBit 44 = true ∨ (dev0.freezes,
    dev0.stateEp, dev0.freezeAt) = (t.dev.freezes, t.dev.stateEp, t.dev.freezeAt)) (k3 : m.testBit 45 = true ∨ (dev0.setPoint, dev0.joystick,
    dev0.track, dev0.follow) = (t.dev.setPoint, t.dev.joystick, t.dev.track, t.dev.follow)) :
    Acts m s { t with dev := dev0, ord := ord0 } :=
  h.leaf hs (fun p hp => by cases p <;> first | rfl | exact absurd (mask_sub hs hp) (by decide) | exact k0.resolve_left (fun e => Bool.noConfusion (e.symm.trans hp)) | exact k1.resolve_left (fun e => Bool.noConfusion (e.symm.trans hp)) | exact k2.resolve_left (fun e => Bool.noConfusion (e.symm.trans hp)) | exact k3.resolve_left (fun e => Bool.noConfusion (e.symm.trans hp)))
    (fun k => k.of_eq rfl rfl rfl rfl rfl rfl rfl rfl rfl rfl rfl rfl rfl rfl)

theorem Acts.upd_dev_rcd_tim {m : Nat} {s t : State} {dev0 : Dev} {rcd0 : Recorder} {tim0 : Tim} (h : Acts m s t) (hs : 65824 ||| m = m) (hq :
    rcd0.queue = t.rcd.queue) (k0 : m.testBit 42 = true ∨ dev0.st = t.dev.st) (k1 : m.testBit 43 = true ∨ (dev0.mode, dev0.period) = (t.dev.mode,
    t.dev.period)) (k2 : m.testBit 44 = true ∨ (dev0.freezes, dev0.stateEp, dev0.freezeAt) = (t.dev.freezes, t.dev.stateEp, t.dev.freezeAt)) (k3 :
    m.testBit 45 = true ∨ (dev0.setPoint, dev0.joystick, dev0.track, dev0.follow) = (t.dev.setPoint, t.dev.joystick, t.dev.track, t.dev.follow)) (k4 :
    m.testBit 47 = true ∨ rcd0.opTime = t.rcd.opTime) (k5 : m.testBit 51 = true ∨ tim0.el = t.tim.el) (k6 : m.testBit 52 = true ∨ tim0.wt = t.tim.wt)
    :
    Acts m s { t with dev := dev0, rcd := rcd0, tim := tim0 } :=
  h.leaf hs (fun p hp => by cases p <;> first | rfl | exact absurd (mask_sub hs hp) (by decide) | exact k0.resolve_left (fun e => Bool.noConfusion (e.symm.trans hp)) | exact k1.resolve_left (fun e => Bool.noConfusion (e.symm.trans hp)) | exact k2.resolve_left (fun e => Bool.noConfusion (e.symm.trans hp)) | exact k3.resolve_left (fun e => Bool.noConfusion (e.symm.trans hp)) | exact k4.resolve_left (fun e => Bool.noConfusion (e.symm.trans hp)) | exact k5.resolve_left (fun e => Bool.noConfusion (e.symm.trans hp)) | exact k6.resolve_left (fun e => Bool.noConfusion (e.symm.trans hp)))
    (fun k => k.of_eq rfl rfl rfl rfl rfl rfl rfl rfl rfl rfl hq rfl rfl rfl)

theorem Acts.upd_dev_tim_agr_twn {m : Nat} {s t : State} {dev0 : Dev} {tim0 : Tim} {agr0 : Agr} {twn0 : Twn} (h : Acts m s t) (hs : 852000 ||| m = m)
    (k0 : m.testBit 42 = true ∨ dev0.st = t.dev.st) (k1 : m.testBit 43 = true ∨ (dev0.mode, dev0.period) = (t.dev.mode, t.dev.period)) (k2 : m.testBit
    44 = true ∨ (dev0.freezes, dev0.stateEp, dev0.freezeAt) = (t.dev.freezes, t.dev.stateEp, t.dev.freezeAt)) (k3 : m.testBit 45 = true ∨
    (dev0.setPoint, dev0.joystick, dev0.track, dev0.follow) = (t.dev.setPoint, t.dev.joystick, t.dev.track, t.dev.follow)) (k4 : m.testBit 46 = true ∨
    (twn0.ladleEp, twn0.holder) = (t.twn.ladleEp, t.twn.holder)) (k5 : m.testBit 51 = true ∨ tim0.el = t.tim.el) (k6 : m.testBit 52 = true ∨ tim0.wt =
    t.tim.wt) :
    Acts m s { t with dev := dev0, tim := tim0, agr := agr0, twn := twn0 } :=
  h.leaf hs (fun p hp => by cases p <;> first | rfl | exact absurd (mask_sub hs hp) (by decide) | exact k0.resolve_left (fun e => Bool.noConfusion (e.symm.trans hp)) | exact k1.resolve_left (fun e => Bool.noConfusion (e.symm.trans hp)) | exact k2.resolve_left (fun e => Bool.noConfusion (e.symm.trans hp)) | exact k3.resolve_left (fun e => Bool.noConfusion (e.symm.trans hp)) | exact k4.resolve_left (fun e => Bool.noConfusion (e.symm.trans hp)) | exact k5.resolve_left (fun e => Bool.noConfusion (e.symm.trans hp)) | exact k6.resolve_left (fun e => Bool.noConfusion (e.symm.trans hp)))
    (fun k => k.of_eq rfl rfl rfl rfl rfl rfl rfl rfl rfl rfl rfl rfl rfl rfl)

theorem Acts.upd_dev_agr {m : Nat} {s t : State} {dev0 : Dev} {agr0 : Agr} (h : Acts m s t) (hs : 262176 ||| m = m) (k0 : m.testBit 42 = true ∨
    dev0.st = t.dev.st) (k1 : m.testBit 43 = true ∨ (dev0.mode, dev0.period) = (t.dev.mode, t.dev.period)) (k2 : m.testBit 44 = true ∨ (dev0.freezes,
    dev0.stateEp, dev0.freezeAt) = (t.dev.freezes, t.dev.stateEp, t.dev.freezeAt)) (k3 : m.testBit 45 = true ∨ (dev0.setPoint, dev0.joystick,
    dev0.track, dev0.follow) = (t.dev.setPoint, t.dev.joystick, t.dev.track, t.dev.follow)) :
    Acts m s { t with dev := dev0, agr := agr0 } :=
  h.leaf hs (fun p hp => by cases p <;> first | rfl | exact absurd (mask_sub hs hp) (by decide) | exact k0.resolve_left (fun e => Bool.noConfusion (e.symm.trans hp)) | exact k1.resolve_left (fun e => Bool.noConfusion (e.symm.trans hp)) | exact k2.resolve_left (fun e => Bool.noConfusion (e.symm.trans hp)) | exact k3.resolve_left (fun e => Bool.noConfusion (e.symm.trans hp)))
    (fun k => k.of_eq rfl rfl rfl rfl rfl rfl rfl rfl rfl rfl rfl rfl rfl rfl)

theorem Acts.upd_dev_twn {m : Nat} {s t : State} {dev0 : Dev} {twn0 : Twn} (h : Acts m s t) (hs : 524320 ||| m = m) (k0 : m.testBit 42 = true ∨
    dev0.st = t.dev.st) (k1 : m.testBit 43 = true ∨ (dev0.mode, dev0.period) = (t.dev.mode, t.dev.period)) (k2 : m.testBit 44 = true ∨ (dev0.freezes,
    dev0.stateEp, dev0.freezeAt) = (t.dev.freezes, t.dev.stateEp, t.dev.freezeAt)) (k3 : m.testBit 45 = true ∨ (dev0.setPoint, dev0.joystick,
    dev0.track, dev0.follow) = (t.dev.setPoint, t.dev.joystick, t.dev.track, t.dev.follow)) (k4 : m.testBit 46 = true ∨ (twn0.ladleEp, twn0.holder) =
    (t.twn.ladleEp, t.twn.holder)) :
    Acts m s { t with dev := dev0, twn := twn0 } :=
  h.leaf hs (fun p hp => by cases p <;> first | rfl | exact absurd (mask_sub hs hp) (by decide) | exact k0.resolve_left (fun e => Bool.noConfusion (e.symm.trans hp)) | exact k1.resolve_left (fun e => Bool.noConfusion (e.symm.trans hp)) | exact k2.resolve_left (fun e => Bool.noConfusion (e.symm.trans hp)) | exact k3.resolve_left (fun e => Bool.noConfusion (e.symm.trans hp)) | exact k4.resolve_left (fun e => Bool.noConfusion (e.symm.trans hp)))
    (fun k => k.of_eq rfl rfl rfl rfl rfl rfl rfl rfl rfl rfl rfl rfl rfl rfl)

theorem Acts.upd_dev_alc {m : Nat} {s t : State} {dev0 : Dev} {alc0 : Alc} (h : Acts m s t) (hs : 67108896 ||| m = m) (k0 : m.testBit 42 = true ∨ dev0.st = t.dev.st) (k1 : m.testBit 43 = true ∨ (dev0.mode, dev0.period) = (t.dev.mode, t.dev.period))
    (k2 : m.testBit 44 = true ∨ (dev0.freezes, dev0.stateEp, dev0.freezeAt) = (t.dev.freezes, t.dev.stateEp, t.dev.freezeAt)) (k3 : m.testBit 45 =
    true ∨ (dev0.setPoint, dev0.joystick, dev0.track, dev0.follow) = (t.dev.setPoint, t.dev.joystick, t.dev.track, t.dev.follow)) :
    Acts m s { t with dev := dev0, alc := alc0 } :=
  h.leaf hs (fun p hp => by cases p <;> first | rfl | exact absurd (mask_sub hs hp) (by decide) | exact k0.resolve_left (fun e => Bool.noConfusion (e.symm.trans hp)) | exact k1.resolve_left (fun e => Bool.noConfusion (e.symm.trans hp)) | exact k2.resolve_left (fun e => Bool.noConfusion (e.symm.trans hp)) | exact k3.resolve_left (fun e => Bool.noConfusion (e.symm.trans hp)))
    (fun k => k.of_eq rfl rfl rfl rfl rfl rfl rfl rfl rfl rfl rfl rfl rfl rfl)

theorem Acts.upd_dev_ctl {m : Nat} {s t : State} {dev0 : Dev} {ctl0 : Ctl} (h : Acts m s t) (hs : 33554464 ||| m = m) (hc : ctl0.capture =
    t.ctl.capture) (k0 : m.testBit 42 = true ∨ dev0.st = t.dev.st) (k1 : m.testBit 43 = true ∨ (dev0.mode, dev0.period) = (t.dev.mode, t.dev.period))
    (k2 : m.testBit 44 = true ∨ (dev0.freezes, dev0.stateEp, dev0.freezeAt) = (t.dev.freezes, t.dev.stateEp, t.dev.freezeAt)) (k3 : m.testBit 45 =
    true ∨ (dev0.setPoint, dev0.joystick, dev0.track, dev0.follow) = (t.dev.setPoint, t.dev.joystick, t.dev.track, t.dev.follow)) :
    Acts m s { t with dev := dev0, ctl := ctl0 } :=
  h.leaf hs (fun p hp => by cases p <;> first | rfl | exact absurd (mask_sub hs hp) (by decide) | exact k0.resolve_left (fun e => Bool.noConfusion (e.symm.trans hp)) | exact k1.resolve_left (fun e => Bool.noConfusion (e.symm.trans hp)) | exact k2.resolve_left (fun e => Bool.noConfusion (e.symm.trans hp)) | exact k3.resolve_left (fun e => Bool.noConfusion (e.symm.trans hp)))
    (fun k => k.of_eq rfl rfl rfl rfl rfl rfl rfl rfl hc rfl rfl rfl rfl rfl)

theorem Acts.upd_ord {m : Nat} {s t : State} {ord0 : Ord} (h : Acts m s t) (hs : 64 ||| m = m) :
    Acts m s { t with ord := ord0 } :=
  h.leaf hs (fun p hp => by cases p <;> first | rfl | exact absurd (mask_sub hs hp) (by decide))
    (fun k => k.of_eq rfl rfl rfl rfl rfl rfl rfl rfl rfl rfl rfl rfl rfl rfl)

theorem Acts.upd_ord_mram {m : Nat} {s t : State} {ord0 : Ord} {mram0 : Mram} (h : Acts m s t) (hs : 576 ||| m = m) (hm : mram0.area = t.mram.area)
    (hn : mram0.next = t.mram.next) (hk : mram0.base = t.mram.base) (k0 : m.testBit 48 = true ∨ (mram0.next, mram0.base) = (t.mram.next, t.mram.base))
    :
    Acts m s { t with ord := ord0, mram := mram0 } :=
  h.leaf hs (fun p hp => by cases p <;> first | rfl | exact absurd (mask_sub hs hp) (by decide) | exact k0.resolve_left (fun e => Bool.noConfusion (e.symm.trans hp)))
    (fun k => k.of_eq rfl rfl rfl rfl hm rfl rfl rfl rfl rfl rfl hn hk rfl)

theorem Acts.upd_alarms {m : Nat} {s t : State} {alarms0 : List Alarm} (h : Acts m s t) (hs : 128 ||| m = m) (hal : t.alarms.Pairwise (fun a b =>
    a.code < b.code) → alarms0.Pairwise (fun a b => a.code < b.code)) :
    Acts m s { t with alarms := alarms0 } :=
  h.leaf hs (fun p hp => by cases p <;> first | rfl | exact absurd (mask_sub hs hp) (by decide))
    (fun k => ⟨k.canonical, hal k.alarms, k.queue, k.used, k.buffer⟩)

theorem Acts.upd_rcd {m : Nat} {s t : State} {rcd0 : Recorder} (h : Acts m s t) (hs : 256 ||| m = m) (hq : rcd0.queue = t.rcd.queue) (k0 : m.testBit
    47 = true ∨ rcd0.opTime = t.rcd.opTime) :
    Acts m s { t with rcd := rcd0 } :=
  h.leaf hs (fun p hp => by cases p <;> first | rfl | exact absurd (mask_sub hs hp) (by decide) | exact k0.resolve_left (fun e => Bool.noConfusion (e.symm.trans hp)))
    (fun k => k.of_eq rfl rfl rfl rfl rfl rfl rfl rfl rfl rfl hq rfl rfl rfl)

theorem Acts.upd_rcd_mram_twn {m : Nat} {s t : State} {rcd0 : Recorder} {mram0 : Mram} {twn0 : Twn} (h : Acts m s t) (hs : 525056 ||| m = m) (hq :
    rcd0.queue = t.rcd.queue) (hm : mram0.area = t.mram.area) (hn : mram0.next = t.mram.next) (hk : mram0.base = t.mram.base) (k0 : m.testBit 46 =
    true ∨ (twn0.ladleEp, twn0.holder) = (t.twn.ladleEp, t.twn.holder)) (k1 : m.testBit 47 = true ∨ rcd0.opTime = t.rcd.opTime) (k2 : m.testBit 48 =
    true ∨ (mram0.next, mram0.base) = (t.mram.next, t.mram.base)) :
    Acts m s { t with rcd := rcd0, mram := mram0, twn := twn0 } :=
  h.leaf hs (fun p hp => by cases p <;> first | rfl | exact absurd (mask_sub hs hp) (by decide) | exact k0.resolve_left (fun e => Bool.noConfusion (e.symm.trans hp)) | exact k1.resolve_left (fun e => Bool.noConfusion (e.symm.trans hp)) | exact k2.resolve_left (fun e => Bool.noConfusion (e.symm.trans hp)))
    (fun k => k.of_eq rfl rfl rfl rfl hm rfl rfl rfl rfl rfl hq hn hk rfl)

theorem Acts.upd_rcd_tim {m : Nat} {s t : State} {rcd0 : Recorder} {tim0 : Tim} (h : Acts m s t) (hs : 65792 ||| m = m) (hq : rcd0.queue =
    t.rcd.queue) (k0 : m.testBit 47 = true ∨ rcd0.opTime = t.rcd.opTime) (k1 : m.testBit 51 = true ∨ tim0.el = t.tim.el) (k2 : m.testBit 52 = true ∨
    tim0.wt = t.tim.wt) :
    Acts m s { t with rcd := rcd0, tim := tim0 } :=
  h.leaf hs (fun p hp => by cases p <;> first | rfl | exact absurd (mask_sub hs hp) (by decide) | exact k0.resolve_left (fun e => Bool.noConfusion (e.symm.trans hp)) | exact k1.resolve_left (fun e => Bool.noConfusion (e.symm.trans hp)) | exact k2.resolve_left (fun e => Bool.noConfusion (e.symm.trans hp)))
    (fun k => k.of_eq rfl rfl rfl rfl rfl rfl rfl rfl rfl rfl hq rfl rfl rfl)

theorem Acts.upd_mram {m : Nat} {s t : State} {mram0 : Mram} (h : Acts m s t) (hs : 512 ||| m = m) (hm : mram0.area = t.mram.area) (hn : mram0.next =
    t.mram.next) (hk : mram0.base = t.mram.base) (k0 : m.testBit 48 = true ∨ (mram0.next, mram0.base) = (t.mram.next, t.mram.base)) :
    Acts m s { t with mram := mram0 } :=
  h.leaf hs (fun p hp => by cases p <;> first | rfl | exact absurd (mask_sub hs hp) (by decide) | exact k0.resolve_left (fun e => Bool.noConfusion (e.symm.trans hp)))
    (fun k => k.of_eq rfl rfl rfl rfl hm rfl rfl rfl rfl rfl rfl hn hk rfl)

theorem Acts.upd_mram_ann {m : Nat} {s t : State} {mram0 : Mram} {ann0 : Ann} (h : Acts m s t) (hs : 1536 ||| m = m) (hm : mram0.area = t.mram.area)
    (hn : mram0.next = t.mram.next) (hk : mram0.base = t.mram.base) (k0 : m.testBit 48 = true ∨ (mram0.next, mram0.base) = (t.mram.next, t.mram.base))
    :
    Acts m s { t with mram := mram0, ann := ann0 } :=
  h.leaf hs (fun p hp => by cases p <;> first | rfl | exact absurd (mask_sub hs hp) (by decide) | exact k0.resolve_left (fun e => Bool.noConfusion (e.symm.trans hp)))
    (fun k => k.of_eq rfl rfl rfl rfl hm rfl rfl rfl rfl rfl rfl hn hk rfl)

theorem Acts.upd_mram_twn {m : Nat} {s t : State} {mram0 : Mram} {twn0 : Twn} (h : Acts m s t) (hs : 524800 ||| m = m) (hm : mram0.area = t.mram.area)
    (hn : mram0.next = t.mram.next) (hk : mram0.base = t.mram.base) (k0 : m.testBit 46 = true ∨ (twn0.ladleEp, twn0.holder) = (t.twn.ladleEp,
    t.twn.holder)) (k1 : m.testBit 48 = true ∨ (mram0.next, mram0.base) = (t.mram.next, t.mram.base)) :
    Acts m s { t with mram := mram0, twn := twn0 } :=
  h.leaf hs (fun p hp => by cases p <;> first | rfl | exact absurd (mask_sub hs hp) (by decide) | exact k0.resolve_left (fun e => Bool.noConfusion (e.symm.trans hp)) | exact k1.resolve_left (fun e => Bool.noConfusion (e.symm.trans hp)))
    (fun k => k.of_eq rfl rfl rfl rfl hm rfl rfl rfl rfl rfl rfl hn hk rfl)

theorem Acts.upd_mram_hlt {m : Nat} {s t : State} {mram0 : Mram} {hlt0 : Hlt} (h : Acts m s t) (hs : 2097664 ||| m = m) (hm : mram0.area =
    t.mram.area) (hn : mram0.next = t.mram.next) (hk : mram0.base = t.mram.base) (k0 : m.testBit 48 = true ∨ (mram0.next, mram0.base) = (t.mram.next,
    t.mram.base)) :
    Acts m s { t with mram := mram0, hlt := hlt0 } :=
  h.leaf hs (fun p hp => by cases p <;> first | rfl | exact absurd (mask_sub hs hp) (by decide) | exact k0.resolve_left (fun e => Bool.noConfusion (e.symm.trans hp)))
    (fun k => k.of_eq rfl rfl rfl rfl hm rfl rfl rfl rfl rfl rfl hn hk rfl)

theorem Acts.upd_mram_thm {m : Nat} {s t : State} {mram0 : Mram} {thm0 : Thm} (h : Acts m s t) (hs : 4194816 ||| m = m) (hm : mram0.area =
    t.mram.area) (hn : mram0.next = t.mram.next) (hk : mram0.base = t.mram.base) (k0 : m.testBit 48 = true ∨ (mram0.next, mram0.base) = (t.mram.next,
    t.mram.base)) :
    Acts m s { t with mram := mram0, thm := thm0 } :=
  h.leaf hs (fun p hp => by cases p <;> first | rfl | exact absurd (mask_sub hs hp) (by decide) | exact k0.resolve_left (fun e => Bool.noConfusion (e.symm.trans hp)))
    (fun k => k.of_eq rfl rfl rfl rfl hm rfl rfl rfl rfl rfl rfl hn hk rfl)

theorem Acts.upd_ann {m : Nat} {s t : State} {ann0 : Ann} (h : Acts m s t) (hs : 1024 ||| m = m) :
    Acts m s { t with ann := ann0 } :=
  h.leaf hs (fun p hp => by cases p <;> first | rfl | exact absurd (mask_sub hs hp) (by decide))
    (fun k => k.of_eq rfl rfl rfl rfl rfl rfl rfl rfl rfl rfl rfl rfl rfl rfl)

theorem Acts.upd_intc {m : Nat} {s t : State} {intc0 : Intc} (h : Acts m s t) (hs : 2048 ||| m = m) :
    Acts m s { t with intc := intc0 } :=
  h.leaf hs (fun p hp => by cases p <;> first | rfl | exact absurd (mask_sub hs hp) (by decide))
    (fun k => k.of_eq rfl rfl rfl rfl rfl rfl rfl rfl rfl rfl rfl rfl rfl rfl)

theorem Acts.upd_intc_net {m : Nat} {s t : State} {intc0 : Intc} {net0 : Net} (h : Acts m s t) (hs : 1073743872 ||| m = m) :
    Acts m s { t with intc := intc0, net := net0 } :=
  h.leaf hs (fun p hp => by cases p <;> first | rfl | exact absurd (mask_sub hs hp) (by decide))
    (fun k => k.of_eq rfl rfl rfl rfl rfl rfl rfl rfl rfl rfl rfl rfl rfl rfl)

theorem Acts.upd_hst {m : Nat} {s t : State} {hst0 : Hst} (h : Acts m s t) (hs : 4096 ||| m = m) (hf : hst0.buffer = t.hst.buffer) :
    Acts m s { t with hst := hst0 } :=
  h.leaf hs (fun p hp => by cases p <;> first | rfl | exact absurd (mask_sub hs hp) (by decide))
    (fun k => k.of_eq rfl rfl rfl rfl rfl rfl rfl rfl rfl rfl rfl rfl rfl hf)

theorem Acts.upd_apps {m : Nat} {s t : State} {apps0 : List App} (h : Acts m s t) (hs : 8192 ||| m = m) :
    Acts m s { t with apps := apps0 } :=
  h.leaf hs (fun p hp => by cases p <;> first | rfl | exact absurd (mask_sub hs hp) (by decide))
    (fun k => k.of_eq rfl rfl rfl rfl rfl rfl rfl rfl rfl rfl rfl rfl rfl rfl)

theorem Acts.upd_sti {m : Nat} {s t : State} {sti0 : Sti} (h : Acts m s t) (hs : 16384 ||| m = m) (ha : sti0.bufA = t.sti.bufA) (hb : sti0.bufB =
    t.sti.bufB) :
    Acts m s { t with sti := sti0 } :=
  h.leaf hs (fun p hp => by cases p <;> first | rfl | exact absurd (mask_sub hs hp) (by decide))
    (fun k => k.of_eq rfl rfl rfl rfl rfl ha hb rfl rfl rfl rfl rfl rfl rfl)

theorem Acts.upd_acl {m : Nat} {s t : State} {acl0 : Acl} (h : Acts m s t) (hs : 32768 ||| m = m) :
    Acts m s { t with acl := acl0 } :=
  h.leaf hs (fun p hp => by cases p <;> first | rfl | exact absurd (mask_sub hs hp) (by decide))
    (fun k => k.of_eq rfl rfl rfl rfl rfl rfl rfl rfl rfl rfl rfl rfl rfl rfl)

theorem Acts.upd_tim {m : Nat} {s t : State} {tim0 : Tim} (h : Acts m s t) (hs : 65536 ||| m = m) (k0 : m.testBit 51 = true ∨ tim0.el = t.tim.el) (k1
    : m.testBit 52 = true ∨ tim0.wt = t.tim.wt) :
    Acts m s { t with tim := tim0 } :=
  h.leaf hs (fun p hp => by cases p <;> first | rfl | exact absurd (mask_sub hs hp) (by decide) | exact k0.resolve_left (fun e => Bool.noConfusion (e.symm.trans hp)) | exact k1.resolve_left (fun e => Bool.noConfusion (e.symm.trans hp)))
    (fun k => k.of_eq rfl rfl rfl rfl rfl rfl rfl rfl rfl rfl rfl rfl rfl rfl)

theorem Acts.upd_pins {m : Nat} {s t : State} {pins0 : Pins} (h : Acts m s t) (hs : 131072 ||| m = m) :
    Acts m s { t with pins := pins0 } :=
  h.leaf hs (fun p hp => by cases p <;> first | rfl | exact absurd (mask_sub hs hp) (by decide))
    (fun k => k.of_eq rfl rfl rfl rfl rfl rfl rfl rfl rfl rfl rfl rfl rfl rfl)

theorem Acts.upd_pins_saf {m : Nat} {s t : State} {pins0 : Pins} {saf0 : Saf} (h : Acts m s t) (hs : 1179648 ||| m = m)
    (k0 : m.testBit 49 = true ∨ saf0.leaseFrom = t.saf.leaseFrom) (k1 : m.testBit 50 = true ∨ saf0.brakes = t.saf.brakes) :
    Acts m s { t with pins := pins0, saf := saf0 } :=
  h.leaf hs (fun p hp => by cases p <;> first | rfl | exact absurd (mask_sub hs hp) (by decide) |
    exact k0.resolve_left (fun e => Bool.noConfusion (e.symm.trans hp)) | exact k1.resolve_left (fun e => Bool.noConfusion (e.symm.trans hp)))
    (fun k => k.of_eq rfl rfl rfl rfl rfl rfl rfl rfl rfl rfl rfl rfl rfl rfl)

theorem Acts.upd_agr {m : Nat} {s t : State} {agr0 : Agr} (h : Acts m s t) (hs : 262144 ||| m = m) :
    Acts m s { t with agr := agr0 } :=
  h.leaf hs (fun p hp => by cases p <;> first | rfl | exact absurd (mask_sub hs hp) (by decide))
    (fun k => k.of_eq rfl rfl rfl rfl rfl rfl rfl rfl rfl rfl rfl rfl rfl rfl)

theorem Acts.upd_twn {m : Nat} {s t : State} {twn0 : Twn} (h : Acts m s t) (hs : 524288 ||| m = m) (k0 : m.testBit 46 = true ∨ (twn0.ladleEp,
    twn0.holder) = (t.twn.ladleEp, t.twn.holder)) :
    Acts m s { t with twn := twn0 } :=
  h.leaf hs (fun p hp => by cases p <;> first | rfl | exact absurd (mask_sub hs hp) (by decide) | exact k0.resolve_left (fun e => Bool.noConfusion (e.symm.trans hp)))
    (fun k => k.of_eq rfl rfl rfl rfl rfl rfl rfl rfl rfl rfl rfl rfl rfl rfl)

theorem Acts.upd_twn_hlt_slv {m : Nat} {s t : State} {twn0 : Twn} {hlt0 : Hlt} {slv0 : Slv} (h : Acts m s t) (hs : 136839168 ||| m = m) (k0 :
    m.testBit 46 = true ∨ (twn0.ladleEp, twn0.holder) = (t.twn.ladleEp, t.twn.holder)) :
    Acts m s { t with twn := twn0, hlt := hlt0, slv := slv0 } :=
  h.leaf hs (fun p hp => by cases p <;> first | rfl | exact absurd (mask_sub hs hp) (by decide) | exact k0.resolve_left (fun e => Bool.noConfusion (e.symm.trans hp)))
    (fun k => k.of_eq rfl rfl rfl rfl rfl rfl rfl rfl rfl rfl rfl rfl rfl rfl)

theorem Acts.upd_saf {m : Nat} {s t : State} {saf0 : Saf} (h : Acts m s t) (hs : 1048576 ||| m = m) (k0 : m.testBit 49 = true ∨ saf0.leaseFrom =
    t.saf.leaseFrom) (k1 : m.testBit 50 = true ∨ saf0.brakes = t.saf.brakes) :
    Acts m s { t with saf := saf0 } :=
  h.leaf hs (fun p hp => by cases p <;> first | rfl | exact absurd (mask_sub hs hp) (by decide) | exact k0.resolve_left (fun e => Bool.noConfusion (e.symm.trans hp)) | exact k1.resolve_left (fun e => Bool.noConfusion (e.symm.trans hp)))
    (fun k => k.of_eq rfl rfl rfl rfl rfl rfl rfl rfl rfl rfl rfl rfl rfl rfl)

theorem Acts.upd_hlt {m : Nat} {s t : State} {hlt0 : Hlt} (h : Acts m s t) (hs : 2097152 ||| m = m) :
    Acts m s { t with hlt := hlt0 } :=
  h.leaf hs (fun p hp => by cases p <;> first | rfl | exact absurd (mask_sub hs hp) (by decide))
    (fun k => k.of_eq rfl rfl rfl rfl rfl rfl rfl rfl rfl rfl rfl rfl rfl rfl)

theorem Acts.upd_hlt_fch {m : Nat} {s t : State} {hlt0 : Hlt} {fch0 : FieldDie} (h : Acts m s t) (hs : 270532608 ||| m = m) :
    Acts m s { t with hlt := hlt0, fch := fch0 } :=
  h.leaf hs (fun p hp => by cases p <;> first | rfl | exact absurd (mask_sub hs hp) (by decide))
    (fun k => k.of_eq rfl rfl rfl rfl rfl rfl rfl rfl rfl rfl rfl rfl rfl rfl)

theorem Acts.upd_thm {m : Nat} {s t : State} {thm0 : Thm} (h : Acts m s t) (hs : 4194304 ||| m = m) :
    Acts m s { t with thm := thm0 } :=
  h.leaf hs (fun p hp => by cases p <;> first | rfl | exact absurd (mask_sub hs hp) (by decide))
    (fun k => k.of_eq rfl rfl rfl rfl rfl rfl rfl rfl rfl rfl rfl rfl rfl rfl)

theorem Acts.upd_gns {m : Nat} {s t : State} {gns0 : Gns} (h : Acts m s t) (hs : 8388608 ||| m = m) (hg : gns0.samples = t.gns.samples) :
    Acts m s { t with gns := gns0 } :=
  h.leaf hs (fun p hp => by cases p <;> first | rfl | exact absurd (mask_sub hs hp) (by decide))
    (fun k => k.of_eq rfl rfl rfl rfl rfl rfl rfl hg rfl rfl rfl rfl rfl rfl)

theorem Acts.upd_fus {m : Nat} {s t : State} {fus0 : Fus} (h : Acts m s t) (hs : 16777216 ||| m = m) :
    Acts m s { t with fus := fus0 } :=
  h.leaf hs (fun p hp => by cases p <;> first | rfl | exact absurd (mask_sub hs hp) (by decide))
    (fun k => k.of_eq rfl rfl rfl rfl rfl rfl rfl rfl rfl rfl rfl rfl rfl rfl)

theorem Acts.upd_ctl {m : Nat} {s t : State} {ctl0 : Ctl} (h : Acts m s t) (hs : 33554432 ||| m = m) (hc : ctl0.capture = t.ctl.capture) :
    Acts m s { t with ctl := ctl0 } :=
  h.leaf hs (fun p hp => by cases p <;> first | rfl | exact absurd (mask_sub hs hp) (by decide))
    (fun k => k.of_eq rfl rfl rfl rfl rfl rfl rfl rfl hc rfl rfl rfl rfl rfl)

theorem Acts.upd_ctl_alc {m : Nat} {s t : State} {ctl0 : Ctl} {alc0 : Alc} (h : Acts m s t) (hs : 100663296 ||| m = m) (hc : ctl0.capture = t.ctl.capture) :
    Acts m s { t with ctl := ctl0, alc := alc0 } :=
  h.leaf hs (fun p hp => by cases p <;> first | rfl | exact absurd (mask_sub hs hp) (by decide))
    (fun k => k.of_eq rfl rfl rfl rfl rfl rfl rfl rfl hc rfl rfl rfl rfl rfl)

theorem Acts.upd_alc {m : Nat} {s t : State} {alc0 : Alc} (h : Acts m s t) (hs : 67108864 ||| m = m) :
    Acts m s { t with alc := alc0 } :=
  h.leaf hs (fun p hp => by cases p <;> first | rfl | exact absurd (mask_sub hs hp) (by decide))
    (fun k => k.of_eq rfl rfl rfl rfl rfl rfl rfl rfl rfl rfl rfl rfl rfl rfl)

theorem Acts.upd_slv {m : Nat} {s t : State} {slv0 : Slv} (h : Acts m s t) (hs : 134217728 ||| m = m) :
    Acts m s { t with slv := slv0 } :=
  h.leaf hs (fun p hp => by cases p <;> first | rfl | exact absurd (mask_sub hs hp) (by decide))
    (fun k => k.of_eq rfl rfl rfl rfl rfl rfl rfl rfl rfl rfl rfl rfl rfl rfl)

theorem Acts.upd_fch {m : Nat} {s t : State} {fch0 : FieldDie} (h : Acts m s t) (hs : 268435456 ||| m = m) :
    Acts m s { t with fch := fch0 } :=
  h.leaf hs (fun p hp => by cases p <;> first | rfl | exact absurd (mask_sub hs hp) (by decide))
    (fun k => k.of_eq rfl rfl rfl rfl rfl rfl rfl rfl rfl rfl rfl rfl rfl rfl)

theorem Acts.upd_loops {m : Nat} {s t : State} {loops0 : List (Nat × LoopSlot)} (h : Acts m s t) (hs : 536870912 ||| m = m) :
    Acts m s { t with loops := loops0 } :=
  h.leaf hs (fun p hp => by cases p <;> first | rfl | exact absurd (mask_sub hs hp) (by decide))
    (fun k => k.of_eq rfl rfl rfl rfl rfl rfl rfl rfl rfl rfl rfl rfl rfl rfl)

theorem Acts.upd_net {m : Nat} {s t : State} {net0 : Net} (h : Acts m s t) (hs : 1073741824 ||| m = m) :
    Acts m s { t with net := net0 } :=
  h.leaf hs (fun p hp => by cases p <;> first | rfl | exact absurd (mask_sub hs hp) (by decide))
    (fun k => k.of_eq rfl rfl rfl rfl rfl rfl rfl rfl rfl rfl rfl rfl rfl rfl)

theorem Acts.upd_can {m : Nat} {s t : State} {can0 : Can} (h : Acts m s t) (hs : 2147483648 ||| m = m) :
    Acts m s { t with can := can0 } :=
  h.leaf hs (fun p hp => by cases p <;> first | rfl | exact absurd (mask_sub hs hp) (by decide))
    (fun k => k.of_eq rfl rfl rfl rfl rfl rfl rfl rfl rfl rfl rfl rfl rfl rfl)

theorem Acts.upd_spt {m : Nat} {s t : State} {spt0 : Spt} (h : Acts m s t) (hs : 4294967296 ||| m = m) :
    Acts m s { t with spt := spt0 } :=
  h.leaf hs (fun p hp => by cases p <;> first | rfl | exact absurd (mask_sub hs hp) (by decide))
    (fun k => k.of_eq rfl rfl rfl rfl rfl rfl rfl rfl rfl rfl rfl rfl rfl rfl)

theorem Acts.upd_elk {m : Nat} {s t : State} {elk0 : Elk} (h : Acts m s t) (hs : 8589934592 ||| m = m) :
    Acts m s { t with elk := elk0 } :=
  h.leaf hs (fun p hp => by cases p <;> first | rfl | exact absurd (mask_sub hs hp) (by decide))
    (fun k => k.of_eq rfl rfl rfl rfl rfl rfl rfl rfl rfl rfl rfl rfl rfl rfl)

theorem Acts.upd_flashCmd {m : Nat} {s t : State} {flashCmd0 : Option FlashCmd} (h : Acts m s t) (hs : 17179869184 ||| m = m) :
    Acts m s { t with flashCmd := flashCmd0 } :=
  h.leaf hs (fun p hp => by cases p <;> first | rfl | exact absurd (mask_sub hs hp) (by decide))
    (fun k => k.of_eq rfl rfl rfl rfl rfl rfl rfl rfl rfl rfl rfl rfl rfl rfl)

theorem Acts.upd_out {m : Nat} {s t : State} {out0 : List Sent} (h : Acts m s t) (hs : 549755813888 ||| m = m) :
    Acts m s { t with out := out0 } :=
  h.leaf hs (fun p hp => by cases p <;> first | rfl | exact absurd (mask_sub hs hp) (by decide))
    (fun k => k.of_eq rfl rfl rfl rfl rfl rfl rfl rfl rfl rfl rfl rfl rfl rfl)

theorem Acts.upd_freeCtr {m : Nat} {s t : State} {freeCtr0 : Nat} (h : Acts m s t) (hs : 1099511627776 ||| m = m) :
    Acts m s { t with freeCtr := freeCtr0 } :=
  h.leaf hs (fun p hp => by cases p <;> first | rfl | exact absurd (mask_sub hs hp) (by decide))
    (fun k => k.of_eq rfl rfl rfl rfl rfl rfl rfl rfl rfl rfl rfl rfl rfl rfl)

/-! The list of active alarms stays in order. -/

theorem mem_putAlarm {a b : Alarm} {l : List Alarm} (h : b ∈ putAlarm a l) : b = a ∨ b ∈ l := by
  induction l with
  | nil => simpa [putAlarm] using h
  | cons c l ih =>
    unfold putAlarm at h
    split at h
    · simpa using h
    · split at h
      · rcases List.mem_cons.mp h with h | h
        · exact Or.inl h
        · exact Or.inr (List.mem_cons_of_mem c h)
      · rcases List.mem_cons.mp h with h | h
        · exact Or.inr (h ▸ List.mem_cons_self)
        · exact (ih h).imp id (List.mem_cons_of_mem c)

theorem putAlarm_rise (a : Alarm) {l : List Alarm} (h : l.Pairwise (fun a b => a.code < b.code)) : (putAlarm a l).Pairwise (fun a b => a.code < b.code) := by
  induction l with
  | nil => simp [putAlarm]
  | cons c l ih =>
    have hc := List.pairwise_cons.mp h
    unfold putAlarm
    split
    · rename_i hac
      refine List.pairwise_cons.mpr ⟨fun b hb => ?_, h⟩
      rcases List.mem_cons.mp hb with hb | hb
      · exact hb ▸ hac
      · exact Nat.lt_trans hac (hc.1 b hb)
    · split
      · rename_i hac
        exact List.pairwise_cons.mpr ⟨fun b hb => hac ▸ hc.1 b hb, hc.2⟩
      · refine List.pairwise_cons.mpr ⟨fun b hb => ?_, ih hc.2⟩
        rcases mem_putAlarm hb with hb | hb
        · subst hb
          omega
        · exact hc.1 b hb

end Sys2Proof.Machine
end

