-- ==== Sys2Proof/Laws/ActsShared.lean ====
section
/-! SUPPORT. What the operations of the registers, the twin link, alarms, records, brakes, the lease and bus accesses may change: one lemma each. -/
namespace Sys2Proof.Machine

/-! Flags.lean -/

/-- Changes regs. -/
theorem State.setReg_acts (s : State) (a : Nat) (w : Word) : Acts 34359738368 s (s.setReg a w) :=
  ⟨fun p hp => by cases p <;> first | rfl | exact absurd hp (by decide), fun k => k.of_canonical (let c := k.canonical; ⟨memWf_memSet _ _ _ _ c.1, c.2⟩) rfl rfl rfl rfl rfl⟩

/-- Changes regs. -/
theorem State.setFld_acts : ∀ x0 x1 x2, Acts 34359738368 x0 (State.setFld x0 x1 x2) := by
  intro x0 x1 x2
  unfold State.setFld
  refine .step ?_ (State.setReg_acts ..) rfl
  exact .refl _

/-- Changes regs. -/
theorem State.setFlag_acts : ∀ x0 x1 x2, Acts 34359738368 x0 (State.setFlag x0 x1 x2) := by
  intro x0 x1 x2
  unfold State.setFlag
  refine .step ?_ (State.setFld_acts ..) rfl
  exact .refl _

/-- Changes regs. -/
theorem State.event_acts : ∀ x0 x1, Acts 34359738368 x0 (State.event x0 x1) := by
  intro x0 x1
  unfold State.event
  refine .step ?_ (State.setFld_acts ..) rfl
  exact .refl _

/-- Changes regs. -/
theorem State.setInt_acts : ∀ x0 x1 x2, Acts 34359738368 x0 (State.setInt x0 x1 x2) := by
  intro x0 x1 x2
  unfold State.setInt
  refine .step ?_ (State.setFld_acts ..) rfl
  exact .refl _

/-- Changes regs. -/
theorem State.bump_acts : ∀ x0 x1 x2, Acts 34359738368 x0 (State.bump x0 x1 x2) := by
  intro x0 x1 x2
  unfold State.bump
  refine .step ?_ (State.setFld_acts ..) rfl
  exact .refl _

/-- Changes regs. -/
theorem State.setRegs_acts (s : State) (a : Nat) (ws : List Word) : Acts 34359738368 s (s.setRegs a ws) :=
  ⟨fun p hp => by cases p <;> first | rfl | exact absurd hp (by decide), fun k => k.of_canonical (let c := k.canonical; ⟨memWf_memSetRun _ _ _ _ _ c.1, c.2⟩) rfl rfl rfl rfl rfl⟩

/-! Ops.lean -/

/-- Changes out. -/
theorem State.send_acts : ∀ x0 x1 x2 x3, Acts 549755813888 x0 (State.send x0 x1 x2 x3) := by
  intro x0 x1 x2 x3
  unfold State.send
  refine .upd_out ?_ rfl
  exact .refl _

/-- Changes tim, elapsed, working. -/
theorem State.reach_acts : ∀ x0 x1, Acts 6755399441121280 x0 (State.reach x0 x1) := by
  intro x0 x1
  unfold State.reach
  refine .upd_tim ?_ rfl (.inl rfl) (.inl rfl)
  exact .refl _

/-- Changes tim, elapsed, working. -/
theorem State.reachEl_acts : ∀ x0 x1, Acts 6755399441121280 x0 (State.reachEl x0 x1) := by
  intro x0 x1
  unfold State.reachEl
  refine .upd_tim ?_ rfl (.inl rfl) (.inl rfl)
  exact .refl _

/-- Changes freeCtr. -/
theorem State.useFree_acts : ∀ x0, Acts 1099511627776 x0 (State.useFree x0) := by
  intro x0
  unfold State.useFree
  refine .upd_freeCtr ?_ rfl
  exact .refl _

/-- Changes rcd, regs. -/
theorem State.enqueue_acts (s : State) (r : Rec) : Acts 34359738624 s (s.enqueue r) := by
  unfold State.enqueue
  refine Acts.ite (fun h => ?_) (fun _ => ?_)
  · refine ⟨fun p hp => by cases p <;> first | rfl | exact absurd hp (by decide), fun k => ⟨k.canonical, k.alarms, ?_, k.used, k.buffer⟩⟩
    show (s.rcd.queue ++ [r]).length ≤ 1024
    rw [List.length_append]
    exact h
  · refine Acts.step ?_ (State.event_acts ..) rfl
    refine Acts.step ?_ (State.bump_acts ..) rfl
    exact Acts.upd_rcd (Acts.refl s) rfl rfl (.inr rfl)

/-- Changes rcd, regs. -/
theorem State.record_acts : ∀ x0 x1 x2 x3, Acts 34359738624 x0 (State.record x0 x1 x2 x3) := by
  intro x0 x1 x2 x3
  unfold State.record
  refine .step ?_ (State.enqueue_acts ..) rfl
  exact .refl _

/-- Changes alarms, rcd, regs. -/
theorem State.raise_acts : ∀ x0 x1 x2, Acts 34359738752 x0 (State.raise x0 x1 x2) := by
  intro x0 x1 x2
  unfold State.raise
  split
  · refine .upd_alarms ?_ rfl (by first | exact putAlarm_rise _ | exact List.Pairwise.filter _)
    exact .refl _
  · refine .step ?_ (State.record_acts ..) rfl
    refine .upd_alarms ?_ rfl (by first | exact putAlarm_rise _ | exact List.Pairwise.filter _)
    exact .refl _

/-- Changes alarms, rcd, regs. -/
theorem State.dropAlarm_acts : ∀ x0 x1, Acts 34359738752 x0 (State.dropAlarm x0 x1) := by
  intro x0 x1
  unfold State.dropAlarm
  refine .ite (fun _ => ?_) fun _ => ?_
  · refine .step ?_ (State.record_acts ..) rfl
    refine .upd_alarms ?_ rfl (by first | exact putAlarm_rise _ | exact List.Pairwise.filter _)
    exact .refl _
  · refine .upd_alarms ?_ rfl (by first | exact putAlarm_rise _ | exact List.Pairwise.filter _)
    exact .refl _

/-- Changes alarms, rcd, regs. -/
theorem State.causeGone_acts : ∀ x0 x1, Acts 34359738752 x0 (State.causeGone x0 x1) := by
  intro x0 x1
  unfold State.causeGone
  split
  · refine .step ?_ (State.dropAlarm_acts ..) rfl
    exact .refl _
  · refine .upd_alarms ?_ rfl (by first | exact putAlarm_rise _ | exact List.Pairwise.filter _)
    exact .refl _
  · exact .refl _

/-- Changes alarms, rcd, regs. -/
theorem State.ackAlarm_acts : ∀ x0 x1, Acts 34359738752 x0 (State.ackAlarm x0 x1) := by
  intro x0 x1
  unfold State.ackAlarm
  split
  · refine .ite (fun _ => ?_) fun _ => ?_
    · refine .step ?_ (State.record_acts ..) rfl
      refine .upd_alarms ?_ rfl (by first | exact putAlarm_rise _ | exact List.Pairwise.filter _)
      exact .refl _
    · refine .step ?_ (State.dropAlarm_acts ..) rfl
      refine .step ?_ (State.record_acts ..) rfl
      refine .upd_alarms ?_ rfl (by first | exact putAlarm_rise _ | exact List.Pairwise.filter _)
      exact .refl _
  · exact .refl _

/-- A record goes into its slot when one is left. -/
theorem State.storeRec_acts (s : State) (r : Rec) (h : s.recFull = false) : Acts 281474976711168 s (s.storeRec r) := by
  refine ⟨fun p hp => by cases p <;> first | rfl | exact absurd hp (by decide), fun k => ?_⟩
  have c := k.canonical
  refine ⟨⟨c.1, c.2.1, c.2.2.1, c.2.2.2.1, memWf_memSetRun _ _ _ _ _ c.2.2.2.2.1, c.2.2.2.2.2⟩, k.alarms, k.queue, ?_, k.buffer⟩
  unfold State.recFull State.recUsed at *
  have h' := of_decide_eq_false h
  show s.mram.next + 1 - s.mram.base ≤ 131072
  omega

/-- Changes alarms, rcd, mram, regs, recNext. -/
theorem State.writeRec_acts (s : State) (r : Rec) : Acts 281509336449920 s (s.writeRec r) := by
  unfold State.writeRec
  refine Acts.ite (fun _ => ?_) (fun hf => ?_)
  · exact ((State.bump_acts ..).mono rfl).step (State.event_acts ..) rfl
  · have hf' : s.recFull = false := by simpa using hf
    have ht : Acts 281509336449920 s (s.storeRec r) := (State.storeRec_acts s r hf').mono rfl
    extract_lets t u
    refine Acts.ite (fun _ => ?_) (fun _ => Acts.ite (fun hu => ?_) (fun _ => ht))
    · exact (ht.step (State.raise_acts ..) rfl).step (State.event_acts ..) rfl
    · have h2 : Acts 281509336449920 s u := Acts.upd_alarms ht rfl (putAlarm_rise _)
      have h3 : u.recFull = false := by
        have h4 : u.recUsed = 131071 := hu
        unfold State.recFull
        rw [h4]
        rfl
      exact (h2.step (State.storeRec_acts u _ h3) rfl).step (State.event_acts ..) rfl

/-- Changes alarms, rcd, mram, regs, recNext. -/
theorem State.writeRecs_acts : ∀ n s, Acts 281509336449920 s (State.writeRecs n s) := by
  intro n
  induction n with
  | zero => exact Acts.refl
  | succ n ih =>
    intro s
    unfold State.writeRecs
    split
    · exact Acts.refl s
    · rename_i r q hq
      have hd : Acts 281509336449920 s { s with rcd := { s.rcd with queue := q } } :=
        ⟨fun p hp => by cases p <;> first | rfl | exact absurd hp (by decide), fun k => ⟨k.canonical, k.alarms, by
          have := k.queue
          rw [hq] at this
          exact Nat.le_of_succ_le this, k.used, k.buffer⟩⟩
      exact (hd.step (State.writeRec_acts ..) rfl).step (ih _) rfl

/-- Changes alarms, rcd, mram, regs, recNext. -/
theorem State.recorderWork_acts : ∀ x0, Acts 281509336449920 x0 (State.recorderWork x0) := by
  intro x0
  unfold State.recorderWork
  refine .ite (fun _ => ?_) fun _ => ?_
  · refine .step ?_ (State.raise_acts ..) rfl
    refine .upd_rcd ?_ rfl rfl (.inr rfl)
    refine .step ?_ (State.writeRecs_acts ..) rfl
    exact .refl _
  · refine .step ?_ (State.writeRecs_acts ..) rfl
    exact .refl _

/-- Changes mram. -/
theorem State.countRetired_acts : ∀ x0 x1, Acts 512 x0 (State.countRetired x0 x1) := by
  intro x0 x1
  unfold State.countRetired
  refine .upd_mram ?_ rfl rfl rfl rfl (.inr rfl)
  exact .refl _

/-! TwinLink.lean -/

/-- Changes twn, out. -/
theorem State.twinEmit_acts : ∀ x0 x1, Acts 549756338176 x0 (State.twinEmit x0 x1) := by
  intro x0 x1
  unfold State.twinEmit
  refine .step ?_ (State.send_acts ..) rfl
  refine .upd_twn ?_ rfl (.inr rfl)
  exact .refl _

/-- Changes twn, out. -/
theorem State.twinDrain_acts : ∀ n s, Acts 549756338176 s (State.twinDrain n s) := by
  intro n
  induction n with
  | zero => exact fun s => Acts.refl s
  | succ n ih =>
    intro s
    unfold State.twinDrain
    split
    · exact ((State.twinEmit_acts ..).mono rfl).step (ih ..) rfl
    · exact Acts.refl s

/-- Changes twn, out. -/
theorem State.twinPush_acts : ∀ x0, Acts 549756338176 x0 (State.twinPush x0) := by
  intro x0
  unfold State.twinPush
  refine .step ?_ (State.twinDrain_acts ..) rfl
  exact .refl _

/-- Changes twn, out. -/
theorem State.twinSend_acts : ∀ x0 x1 x2 x3, Acts 549756338176 x0 (State.twinSend x0 x1 x2 x3) := by
  intro x0 x1 x2 x3
  unfold State.twinSend
  refine .ite (fun _ => ?_) fun _ => ?_
  · refine .step ?_ (State.twinPush_acts ..) rfl
    refine .upd_twn ?_ rfl (.inr rfl)
    exact .refl _
  · exact .refl _

/-- Changes alarms, rcd, twn, regs. -/
theorem State.loseLane_acts : ∀ x0 x1, Acts 34360263040 x0 (State.loseLane x0 x1) := by
  intro x0 x1
  unfold State.loseLane
  refine .ite (fun _ => ?_) fun _ => ?_
  · refine .step ?_ (State.raise_acts ..) rfl
    refine .upd_twn ?_ rfl (.inr rfl)
    refine .step ?_ (State.event_acts ..) rfl
    refine .step ?_ (State.setFlag_acts ..) rfl
    exact .refl _
  · exact .refl _

/-- Changes alarms, rcd, twn, regs, out. -/
theorem State.twinBroken_acts : ∀ x0 x1 x2, Acts 584116076928 x0 (State.twinBroken x0 x1 x2) := by
  intro x0 x1 x2
  unfold State.twinBroken
  refine .ite (fun _ => ?_) fun _ => ?_
  · refine .step ?_ (State.loseLane_acts ..) rfl
    refine .upd_twn ?_ rfl (.inr rfl)
    refine .step ?_ (State.send_acts ..) rfl
    refine .step ?_ (State.bump_acts ..) rfl
    exact .refl _
  · refine .upd_twn ?_ rfl (.inr rfl)
    refine .step ?_ (State.send_acts ..) rfl
    refine .step ?_ (State.bump_acts ..) rfl
    exact .refl _

/-- Changes alarms, rcd, twn, regs, out. -/
theorem State.onFrame_acts {m : Nat} {s₀ s : State} {vc : Nat} {x : TwinHeader} {f : State → State} (h₀ : Acts m s₀ s)
    (h : ∀ s, Acts m s (f s)) (hm : 584116076928 ||| m = m) : Acts m s₀ (s.onFrame vc x f) := by
  unfold State.onFrame
  refine Acts.ite (fun _ => h₀) (fun _ => Acts.ite (fun _ => h₀.step (State.twinBroken_acts ..) (mask_step hm rfl)) (fun _ => ?_))
  extract_lets src t
  have ht : Acts m s₀ t := h₀.upd_twn (mask_step hm rfl) (.inr rfl)
  clear_value t
  refine Acts.ite (fun _ => ?_) (fun _ => ht.step (State.twinPush_acts ..) (mask_step hm rfl))
  have hu : Acts m s₀ { t with twn := { t.twn with link := t.twn.link.deliver vc x } } := ht.upd_twn (mask_step hm rfl) (.inr rfl)
  exact (hu.step (h _) (Nat.or_self m)).step (State.twinPush_acts ..) (mask_step hm rfl)

/-- Changes twn, regs, out. -/
theorem State.retransmit_acts : ∀ x0 x1 x2, Acts 584116076544 x0 (State.retransmit x0 x1 x2) := by
  intro x0 x1 x2
  unfold State.retransmit
  refine .ite (fun _ => ?_) fun _ => ?_
  · refine .foldl ?_ ?_
    · refine .step ?_ (State.bump_acts ..) rfl
      refine .upd_twn ?_ rfl (.inr rfl)
      exact .refl _
    · intro _ _
      refine .step ?_ (State.send_acts ..) rfl
      exact .refl _
  · exact .refl _

/-! SafetyOps.lean -/

/-- Changes dev, regs. -/
theorem State.setCond_acts : ∀ x0 x1 x2, Acts 34359738400 x0 (State.setCond x0 x1 x2) := by
  intro x0 x1 x2
  unfold State.setCond
  refine .ite (fun _ => ?_) fun _ => ?_
  · exact .refl _
  · refine .upd_dev ?_ rfl (.inr rfl) (.inr rfl) (.inr rfl) (.inr rfl)
    refine .step ?_ (State.setFlag_acts ..) rfl
    exact .refl _

/-- Changes dev. -/
theorem State.expireCond_acts : ∀ x0 x1, Acts 32 x0 (State.expireCond x0 x1) := by
  intro x0 x1
  unfold State.expireCond
  refine .upd_dev ?_ rfl (.inr rfl) (.inr rfl) (.inr rfl) (.inr rfl)
  exact .refl _

/-- Changes dev, ord. -/
theorem State.ownMode_acts : ∀ x0 x1, Acts 96 x0 (State.ownMode x0 x1) := by
  intro x0 x1
  unfold State.ownMode
  try dsimp only
  split
  · refine .ite (fun _ => ?_) fun _ => ?_
    · refine .upd_dev_ord ?_ rfl (.inr rfl) (.inr rfl) (.inr rfl) (.inr rfl)
      refine .upd_dev ?_ rfl (.inr rfl) (.inr rfl) (.inr rfl) (.inr rfl)
      exact .refl _
    · refine .upd_dev ?_ rfl (.inr rfl) (.inr rfl) (.inr rfl) (.inr rfl)
      exact .refl _
  · refine .upd_dev ?_ rfl (.inr rfl) (.inr rfl) (.inr rfl) (.inr rfl)
    exact .refl _

/-- Changes fch, regs. -/
theorem State.setGate_acts : ∀ x0 x1, Acts 34628173824 x0 (State.setGate x0 x1) := by
  intro x0 x1
  unfold State.setGate
  refine .ite (fun _ => ?_) fun _ => ?_
  · refine .upd_fch ?_ rfl
    refine .step ?_ (State.setFld_acts ..) rfl
    exact .refl _
  · refine .step ?_ (State.setFld_acts ..) rfl
    exact .refl _

/-- Changes saf, brakes. -/
theorem State.setBrake_acts : ∀ x0 x1 x2, Acts 1125899907891200 x0 (State.setBrake x0 x1 x2) := by
  intro x0 x1 x2
  unfold State.setBrake
  refine .upd_saf ?_ rfl (.inr rfl) (.inl rfl)
  exact .refl _

/-- Changes regs. -/
theorem State.showBrake_acts : ∀ x0 x1, Acts 34359738368 x0 (State.showBrake x0 x1) := by
  intro x0 x1
  unfold State.showBrake
  refine .step ?_ (State.setFlag_acts ..) rfl
  refine .step ?_ (State.setReg_acts ..) rfl
  refine .step ?_ (State.setFlag_acts ..) rfl
  refine .step ?_ (State.setFld_acts ..) rfl
  refine .step ?_ (State.setFld_acts ..) rfl
  exact .refl _

/-- Changes saf, regs, brakes. -/
theorem State.applyBrake_acts : ∀ x0 x1, Acts 1125934267629568 x0 (State.applyBrake x0 x1) := by
  intro x0 x1
  unfold State.applyBrake
  refine .step ?_ (State.showBrake_acts ..) rfl
  refine .step ?_ (State.setBrake_acts ..) rfl
  exact .refl _

/-- Changes saf, regs, brakes. -/
theorem State.releaseBrake_acts : ∀ x0 x1, Acts 1125934267629568 x0 (State.releaseBrake x0 x1) := by
  intro x0 x1
  unfold State.releaseBrake
  refine .ite (fun _ => ?_) fun _ => ?_
  · exact .refl _
  · refine .step ?_ (State.showBrake_acts ..) rfl
    refine .step ?_ (State.setBrake_acts ..) rfl
    exact .refl _

/-- Changes saf, brakes. -/
theorem State.startSwitchTest_acts : ∀ x0 x1, Acts 1125899907891200 x0 (State.startSwitchTest x0 x1) := by
  intro x0 x1
  unfold State.startSwitchTest
  refine .ite (fun _ => ?_) fun _ => ?_
  · refine .step ?_ (State.setBrake_acts ..) rfl
    exact .refl _
  · exact .refl _

/-- Changes saf, regs, brakes. -/
theorem State.settleBrakes_acts : ∀ x0, Acts 1125934267629568 x0 (State.settleBrakes x0) := by
  intro x0
  unfold State.settleBrakes
  refine .each ?_ ?_
  · exact .refl _
  · intro _ _
    refine .ite (fun _ => ?_) fun _ => ?_
    · refine .step ?_ (State.applyBrake_acts ..) rfl
      exact .refl _
    · exact .refl _

/-- Changes alarms, rcd, mram, saf, regs, brakes. -/
theorem State.endBrakeTest_acts : ∀ x0 x1, Acts 1125934267630464 x0 (State.endBrakeTest x0 x1) := by
  intro x0 x1
  unfold State.endBrakeTest
  split
  · exact .refl _
  · refine .ite (fun _ => ?_) fun _ => ?_
    · refine .step ?_ (State.raise_acts ..) rfl
      refine .step ?_ (State.setBrake_acts ..) rfl
      refine .step ?_ (State.setFlag_acts ..) rfl
      refine .step ?_ (State.setReg_acts ..) rfl
      refine .upd_mram ?_ rfl rfl rfl rfl (.inr rfl)
      refine .step ?_ (State.showBrake_acts ..) rfl
      refine .step ?_ (State.setFlag_acts ..) rfl
      refine .step ?_ (State.event_acts ..) rfl
      refine .step ?_ (State.setFlag_acts ..) rfl
      refine .step ?_ (State.setReg_acts ..) rfl
      refine .upd_saf ?_ rfl (.inr rfl) (.inr rfl)
      exact .refl _
    · refine .step ?_ (State.raise_acts ..) rfl
      refine .step ?_ (State.showBrake_acts ..) rfl
      refine .step ?_ (State.setFlag_acts ..) rfl
      refine .step ?_ (State.event_acts ..) rfl
      refine .step ?_ (State.setFlag_acts ..) rfl
      refine .step ?_ (State.setReg_acts ..) rfl
      refine .upd_saf ?_ rfl (.inr rfl) (.inr rfl)
      exact .refl _

/-- Changes ctl. -/
theorem State.stopInjection_acts : ∀ x0 x1, Acts 33554432 x0 (State.stopInjection x0 x1) := by
  intro x0 x1
  unfold State.stopInjection
  refine .ite (fun _ => ?_) fun _ => ?_
  · refine .upd_ctl ?_ rfl rfl
    exact .refl _
  · split
    · refine .upd_ctl ?_ rfl rfl
      exact .refl _
    · exact .refl _

/-- Changes alarms, rcd, ctl, regs. -/
theorem State.reportStop_acts : ∀ x0, Acts 34393293184 x0 (State.reportStop x0) := by
  intro x0
  unfold State.reportStop
  split
  · refine .step ?_ (State.raise_acts ..) rfl
    refine .upd_ctl ?_ rfl rfl
    exact .refl _
  · exact .refl _

/-- Changes alarms, rcd, mram, saf, ctl, regs, brakes. -/
theorem State.endTests_acts : ∀ x0 x1, Acts 1125934301184896 x0 (State.endTests x0 x1) := by
  intro x0 x1
  unfold State.endTests
  refine .step ?_ (State.stopInjection_acts ..) rfl
  refine .step ?_ (State.endBrakeTest_acts ..) rfl
  exact .refl _

/-- Changes alarms, rcd, saf, regs, brakes. -/
theorem State.brakeFault_acts : ∀ x0 x1 x2, Acts 1125934267629952 x0 (State.brakeFault x0 x1 x2) := by
  intro x0 x1 x2
  unfold State.brakeFault
  refine .step ?_ (State.raise_acts ..) rfl
  refine .step ?_ (State.event_acts ..) rfl
  refine .step ?_ (State.applyBrake_acts ..) rfl
  refine .step ?_ (State.setBrake_acts ..) rfl
  exact .refl _

/-- Changes saf, regs, lease. -/
theorem State.countRenewal_acts : ∀ x0, Acts 562984314208256 x0 (State.countRenewal x0) := by
  intro x0
  unfold State.countRenewal
  refine .step ?_ (State.setFlag_acts ..) rfl
  refine .upd_saf ?_ rfl (.inl rfl) (.inr rfl)
  exact .refl _

/-- Changes saf, fch, regs, lease. -/
theorem State.dropLease_acts : ∀ x0, Acts 562984582643712 x0 (State.dropLease x0) := by
  intro x0
  unfold State.dropLease
  refine .step ?_ (State.setGate_acts ..) rfl
  refine .step ?_ (State.setFlag_acts ..) rfl
  refine .upd_saf ?_ rfl (.inl rfl) (.inr rfl)
  exact .refl _

/-- Changes mram, twn, ladle. -/
theorem State.setLadleEp_acts : ∀ x0 x1, Acts 70368744702464 x0 (State.setLadleEp x0 x1) := by
  intro x0 x1
  unfold State.setLadleEp
  refine .upd_mram_twn ?_ rfl rfl rfl rfl (.inl rfl) (.inr rfl)
  exact .refl _

/-- Changes dev, alarms, rcd, mram, twn, saf, ctl, regs, devSt, ladle, lease, brakes. -/
theorem State.takeLadle_acts : ∀ x0 x1, Acts 1763651045819296 x0 (State.takeLadle x0 x1) := by
  intro x0 x1
  unfold State.takeLadle
  refine .upd_dev_twn ?_ rfl (.inl rfl) (.inr rfl) (.inr rfl) (.inr rfl) (.inl rfl)
  refine .step ?_ (State.countRenewal_acts ..) rfl
  refine .step ?_ (State.endTests_acts ..) rfl
  refine .step ?_ (State.setLadleEp_acts ..) rfl
  exact .refl _

/-- Changes dev, alarms, rcd, mram, twn, saf, ctl, fch, regs, devSt, ladle, lease, brakes. -/
theorem State.dropToArmed_acts : ∀ x0, Acts 1763651314254752 x0 (State.dropToArmed x0) := by
  intro x0
  unfold State.dropToArmed
  refine .upd_dev_twn ?_ rfl (.inl rfl) (.inr rfl) (.inr rfl) (.inr rfl) (.inl rfl)
  refine .step ?_ (State.dropLease_acts ..) rfl
  refine .step ?_ (State.endTests_acts ..) rfl
  exact .refl _

/-- Changes dev, alarms, rcd, mram, twn, saf, ctl, fch, regs, out, devSt, ladle, lease, brakes. -/
theorem State.handOver_acts : ∀ x0 x1, Acts 1764201070068640 x0 (State.handOver x0 x1) := by
  intro x0 x1
  unfold State.handOver
  refine .step ?_ (State.raise_acts ..) rfl
  refine .step ?_ (State.event_acts ..) rfl
  refine .upd_twn ?_ rfl (.inl rfl)
  refine .step ?_ (State.setLadleEp_acts ..) rfl
  refine .step ?_ (State.dropToArmed_acts ..) rfl
  refine .step ?_ (State.twinSend_acts ..) rfl
  refine .step ?_ (State.setGate_acts ..) rfl
  exact .refl _

/-- Changes twn, regs, out. -/
theorem State.requestSync_acts : ∀ x0, Acts 584116076544 x0 (State.requestSync x0) := by
  intro x0
  unfold State.requestSync
  refine .ite (fun _ => ?_) fun _ => ?_
  · refine .step ?_ (State.setFlag_acts ..) rfl
    refine .step ?_ (State.twinSend_acts ..) rfl
    refine .upd_twn ?_ rfl (.inr rfl)
    exact .refl _
  · exact .refl _

/-- Changes dev, alarms, rcd, twn, regs, out. -/
theorem State.leaveStep_acts : ∀ x0 x1 x2, Acts 584116076960 x0 (State.leaveStep x0 x1 x2) := by
  intro x0 x1 x2
  unfold State.leaveStep
  refine .ite (fun _ => ?_) fun _ => ?_
  · refine .step ?_ (State.requestSync_acts ..) rfl
    refine .when ?_ ?_
    · refine .step ?_ (State.raise_acts ..) rfl
      refine .step ?_ (State.event_acts ..) rfl
      refine .step ?_ (State.setFlag_acts ..) rfl
      exact .refl _
    · intro _
      refine .step ?_ (State.setCond_acts ..) rfl
      exact .refl _
  · exact .refl _

/-- Changes dev, alarms, rcd, alc, regs. -/
theorem State.endFallback_acts : ∀ x0, Acts 34426847648 x0 (State.endFallback x0) := by
  intro x0
  unfold State.endFallback
  refine .step ?_ (State.causeGone_acts ..) rfl
  refine .step ?_ (State.setCond_acts ..) rfl
  refine .upd_alc ?_ rfl
  exact .refl _

/-- Changes dev, alarms, rcd, ctl, alc, regs, devSt. -/
theorem State.inSafeState_acts : ∀ x0, Acts 4432506913184 x0 (State.inSafeState x0) := by
  intro x0
  unfold State.inSafeState
  refine .upd_dev ?_ rfl (.inl rfl) (.inr rfl) (.inr rfl) (.inr rfl)
  refine .step ?_ (State.endFallback_acts ..) rfl
  refine .step ?_ (State.reportStop_acts ..) rfl
  exact .refl _

/-- Changes dev, alarms, rcd, mram, pins, twn, saf, ctl, alc, fch, regs, out, devSt, ladle, lease, brakes. -/
theorem State.globalSafe_acts : ∀ x0 x1, Acts 1764201137308576 x0 (State.globalSafe x0 x1) := by
  intro x0 x1
  unfold State.globalSafe
  try dsimp only
  split
  · refine .step ?_ (State.settleBrakes_acts ..) rfl
    refine .step ?_ (State.dropLease_acts ..) rfl
    refine .ite (fun _ => ?_) fun _ => ?_
    · refine .step ?_ (State.raise_acts ..) rfl
      refine .step ?_ (State.event_acts ..) rfl
      refine .step ?_ (State.setFld_acts ..) rfl
      refine .upd_pins ?_ rfl
      refine .step ?_ (State.setFlag_acts ..) rfl
      refine .step ?_ (State.endTests_acts ..) rfl
      exact .refl _
    · refine .upd_pins ?_ rfl
      refine .step ?_ (State.setFlag_acts ..) rfl
      refine .step ?_ (State.endTests_acts ..) rfl
      exact .refl _
  · refine .step ?_ (State.inSafeState_acts ..) rfl
    refine .ite (fun _ => ?_) fun _ => ?_
    · refine .step ?_ (State.handOver_acts ..) rfl
      refine .step ?_ (State.settleBrakes_acts ..) rfl
      refine .step ?_ (State.dropLease_acts ..) rfl
      refine .ite (fun _ => ?_) fun _ => ?_
      · refine .step ?_ (State.raise_acts ..) rfl
        refine .step ?_ (State.event_acts ..) rfl
        refine .step ?_ (State.setFld_acts ..) rfl
        refine .upd_pins ?_ rfl
        refine .step ?_ (State.setFlag_acts ..) rfl
        refine .step ?_ (State.endTests_acts ..) rfl
        exact .refl _
      · refine .upd_pins ?_ rfl
        refine .step ?_ (State.setFlag_acts ..) rfl
        refine .step ?_ (State.endTests_acts ..) rfl
        exact .refl _
    · refine .step ?_ (State.dropToArmed_acts ..) rfl
      refine .step ?_ (State.settleBrakes_acts ..) rfl
      refine .step ?_ (State.dropLease_acts ..) rfl
      refine .ite (fun _ => ?_) fun _ => ?_
      · refine .step ?_ (State.raise_acts ..) rfl
        refine .step ?_ (State.event_acts ..) rfl
        refine .step ?_ (State.setFld_acts ..) rfl
        refine .upd_pins ?_ rfl
        refine .step ?_ (State.setFlag_acts ..) rfl
        refine .step ?_ (State.endTests_acts ..) rfl
        exact .refl _
      · refine .upd_pins ?_ rfl
        refine .step ?_ (State.setFlag_acts ..) rfl
        refine .step ?_ (State.endTests_acts ..) rfl
        exact .refl _
  · refine .step ?_ (State.inSafeState_acts ..) rfl
    refine .step ?_ (State.settleBrakes_acts ..) rfl
    refine .step ?_ (State.dropLease_acts ..) rfl
    refine .ite (fun _ => ?_) fun _ => ?_
    · refine .step ?_ (State.raise_acts ..) rfl
      refine .step ?_ (State.event_acts ..) rfl
      refine .step ?_ (State.setFld_acts ..) rfl
      refine .upd_pins ?_ rfl
      refine .step ?_ (State.setFlag_acts ..) rfl
      refine .step ?_ (State.endTests_acts ..) rfl
      exact .refl _
    · refine .upd_pins ?_ rfl
      refine .step ?_ (State.setFlag_acts ..) rfl
      refine .step ?_ (State.endTests_acts ..) rfl
      exact .refl _
  · refine .step ?_ (State.inSafeState_acts ..) rfl
    refine .step ?_ (State.settleBrakes_acts ..) rfl
    refine .step ?_ (State.dropLease_acts ..) rfl
    refine .ite (fun _ => ?_) fun _ => ?_
    · refine .step ?_ (State.raise_acts ..) rfl
      refine .step ?_ (State.event_acts ..) rfl
      refine .step ?_ (State.setFld_acts ..) rfl
      refine .upd_pins ?_ rfl
      refine .step ?_ (State.setFlag_acts ..) rfl
      refine .step ?_ (State.endTests_acts ..) rfl
      exact .refl _
    · refine .upd_pins ?_ rfl
      refine .step ?_ (State.setFlag_acts ..) rfl
      refine .step ?_ (State.endTests_acts ..) rfl
      exact .refl _
  · refine .step ?_ (State.inSafeState_acts ..) rfl
    refine .step ?_ (State.settleBrakes_acts ..) rfl
    refine .step ?_ (State.dropLease_acts ..) rfl
    refine .ite (fun _ => ?_) fun _ => ?_
    · refine .step ?_ (State.raise_acts ..) rfl
      refine .step ?_ (State.event_acts ..) rfl
      refine .step ?_ (State.setFld_acts ..) rfl
      refine .upd_pins ?_ rfl
      refine .step ?_ (State.setFlag_acts ..) rfl
      refine .step ?_ (State.endTests_acts ..) rfl
      exact .refl _
    · refine .upd_pins ?_ rfl
      refine .step ?_ (State.setFlag_acts ..) rfl
      refine .step ?_ (State.endTests_acts ..) rfl
      exact .refl _

/-- Changes dev, alarms, rcd, mram, pins, twn, saf, ctl, alc, fch, regs, out, devSt, ladle, lease, brakes. -/
theorem State.enterSafe_acts : ∀ x0, Acts 1764201137308576 x0 (State.enterSafe x0) := by
  intro x0
  unfold State.enterSafe
  refine .step ?_ (State.globalSafe_acts ..) rfl
  exact .refl _

/-! Access.lean -/

/-- Changes alarms, rcd, acl, twn, regs. -/
theorem State.refuse_acts : ∀ x0 x1 x2 x3 x4, Acts 34360295808 x0 (State.refuse x0 x1 x2 x3 x4) := by
  intro x0 x1 x2 x3 x4
  unfold State.refuse
  refine .ite (fun _ => ?_) fun _ => ?_
  · refine .step ?_ (State.raise_acts ..) rfl
    refine .step ?_ (State.event_acts ..) rfl
    refine .upd_twn ?_ rfl (.inr rfl)
    refine .ite (fun _ => ?_) fun _ => ?_
    · refine .step ?_ (State.raise_acts ..) rfl
      refine .upd_acl ?_ rfl
      refine .step ?_ (State.bump_acts ..) rfl
      refine .step ?_ (State.event_acts ..) rfl
      refine .ite (fun _ => ?_) fun _ => ?_
      · exact .refl _
      · refine .step ?_ (State.setReg_acts ..) rfl
        refine .step ?_ (State.setReg_acts ..) rfl
        exact .refl _
    · refine .step ?_ (State.bump_acts ..) rfl
      refine .step ?_ (State.event_acts ..) rfl
      refine .ite (fun _ => ?_) fun _ => ?_
      · exact .refl _
      · refine .step ?_ (State.setReg_acts ..) rfl
        refine .step ?_ (State.setReg_acts ..) rfl
        exact .refl _
  · refine .ite (fun _ => ?_) fun _ => ?_
    · refine .step ?_ (State.raise_acts ..) rfl
      refine .upd_acl ?_ rfl
      refine .step ?_ (State.bump_acts ..) rfl
      refine .step ?_ (State.event_acts ..) rfl
      refine .ite (fun _ => ?_) fun _ => ?_
      · exact .refl _
      · refine .step ?_ (State.setReg_acts ..) rfl
        refine .step ?_ (State.setReg_acts ..) rfl
        exact .refl _
    · refine .step ?_ (State.bump_acts ..) rfl
      refine .step ?_ (State.event_acts ..) rfl
      refine .ite (fun _ => ?_) fun _ => ?_
      · exact .refl _
      · refine .step ?_ (State.setReg_acts ..) rfl
        refine .step ?_ (State.setReg_acts ..) rfl
        exact .refl _

/-- Changes out. -/
theorem State.complete_acts : ∀ x0 x1 x2 x3 x4 x5, Acts 549755813888 x0 (State.complete x0 x1 x2 x3 x4 x5) := by
  intro x0 x1 x2 x3 x4 x5
  unfold State.complete
  refine .step ?_ (State.send_acts ..) rfl
  exact .refl _

/-- Changes alarms, rcd, acl, twn, regs. -/
theorem State.accessWith_acts {m : Nat} {s₀ s : State} {mm a : Nat} {w : Bool} {f : State → State × Nat × Word} (h₀ : Acts m s₀ s)
    (h : ∀ s, Acts m s (f s).1) (hm : 34360295808 ||| m = m) : Acts m s₀ (s.accessWith mm a w f).1 := by
  unfold State.accessWith
  split
  · exact h₀
  · split
    · exact (h₀.step (State.raise_acts s 0x0005 _) (mask_step hm rfl))
    · split
      · exact h₀.step (h s) (Nat.or_self m)
      · exact (h₀.step (State.refuse_acts s _ mm a w) (mask_step hm rfl))

/-- Changes regs. -/
theorem State.typedWrite_acts : ∀ x0 x1 x2, Acts 34359738368 x0 (State.typedWrite x0 x1 x2) := by
  intro x0 x1 x2
  unfold State.typedWrite
  split
  · exact .refl _
  · refine .step ?_ (State.setReg_acts ..) rfl
    exact .refl _

/-- Changes regs. -/
theorem State.clearOnRead_acts : ∀ x0 x1, Acts 34359738368 x0 (State.clearOnRead x0 x1) := by
  intro x0 x1
  unfold State.clearOnRead
  split
  · exact .refl _
  · refine .ite (fun _ => ?_) fun _ => ?_
    · refine .step ?_ (State.setReg_acts ..) rfl
      exact .refl _
    · exact .refl _

/-- Changes alarms, rcd, acl, twn, regs, out. -/
theorem State.commandWrite_acts {m : Nat} {s₀ s : State} {mm a : Nat} {v : Word} {f : State → State} (h₀ : Acts m s₀ s)
    (h : ∀ s, Acts m s (f s)) (hm : 584116109696 ||| m = m) : Acts m s₀ (s.commandWrite mm a v f) := by
  unfold State.commandWrite
  exact (State.accessWith_acts h₀ h (mask_step hm rfl)).step (State.complete_acts ..) (mask_step hm rfl)

end Sys2Proof.Machine
end

