-- ==== Sys2Proof/Laws/ActsTime.lean ====
section
/-! SUPPORT. What the operations of time, sending and orders may change: one lemma each. -/
namespace Sys2Proof.Machine

/-! Time.lean -/

/-- Changes tim. -/
theorem State.setSrc_acts : ∀ x0 x1 x2, Acts 65536 x0 (State.setSrc x0 x1 x2) := by
  intro x0 x1 x2
  unfold State.setSrc
  refine .upd_tim ?_ rfl (.inr rfl) (.inr rfl)
  exact .refl _

/-- Changes tim, regs. -/
theorem State.decideStep_acts : ∀ x0, Acts 34359803904 x0 (State.decideStep x0) := by
  intro x0
  unfold State.decideStep
  refine .ite (fun _ => ?_) fun _ => ?_
  · exact .refl _
  · refine .step ?_ (State.setFlag_acts ..) rfl
    refine .upd_tim ?_ rfl (.inr rfl) (.inr rfl)
    exact .refl _

/-- Changes alarms, rcd, tim, regs. -/
theorem State.enterHoldover_acts : ∀ x0 x1, Acts 34359804288 x0 (State.enterHoldover x0 x1) := by
  intro x0 x1
  unfold State.enterHoldover
  refine .step ?_ (State.raise_acts ..) rfl
  refine .step ?_ (State.event_acts ..) rfl
  refine .step ?_ (State.setFlag_acts ..) rfl
  refine .step ?_ (State.setInt_acts ..) rfl
  refine .step ?_ (State.setInt_acts ..) rfl
  refine .step ?_ (State.setFlag_acts ..) rfl
  refine .step ?_ (State.setFlag_acts ..) rfl
  refine .upd_tim ?_ rfl (.inr rfl) (.inr rfl)
  exact .refl _

/-- Changes alarms, rcd, regs. -/
theorem State.leaveHoldover_acts : ∀ x0 x1, Acts 34359738752 x0 (State.leaveHoldover x0 x1) := by
  intro x0 x1
  unfold State.leaveHoldover
  refine .ite (fun _ => ?_) fun _ => ?_
  · refine .step ?_ (State.causeGone_acts ..) rfl
    refine .step ?_ (State.raise_acts ..) rfl
    refine .step ?_ (State.event_acts ..) rfl
    refine .step ?_ (State.setFlag_acts ..) rfl
    exact .refl _
  · exact .refl _

/-- Changes regs. -/
theorem State.updateUtc_acts : ∀ x0, Acts 34359738368 x0 (State.updateUtc x0) := by
  intro x0
  unfold State.updateUtc
  split
  · refine .step ?_ (State.setReg_acts ..) rfl
    exact .refl _
  · refine .step ?_ (State.setReg_acts ..) rfl
    exact .refl _

/-- Changes alarms, rcd, tim, regs. -/
theorem State.select_acts : ∀ x0 x1, Acts 34359804288 x0 (State.select x0 x1) := by
  intro x0 x1
  unfold State.select
  refine .ite (fun _ => ?_) fun _ => ?_
  · exact .refl _
  · refine .ite (fun _ => ?_) fun _ => ?_
    · refine .ite (fun _ => ?_) fun _ => ?_
      · refine .step ?_ (State.enterHoldover_acts ..) rfl
        refine .step ?_ (State.updateUtc_acts ..) rfl
        refine .step ?_ (State.raise_acts ..) rfl
        refine .step ?_ (State.event_acts ..) rfl
        refine .step ?_ (State.setFld_acts ..) rfl
        exact .refl _
      · refine .step ?_ (State.updateUtc_acts ..) rfl
        refine .step ?_ (State.raise_acts ..) rfl
        refine .step ?_ (State.event_acts ..) rfl
        refine .step ?_ (State.setFld_acts ..) rfl
        exact .refl _
    · refine .ite (fun _ => ?_) fun _ => ?_
      · refine .step ?_ (State.decideStep_acts ..) rfl
        refine .step ?_ (State.leaveHoldover_acts ..) rfl
        refine .upd_tim ?_ rfl (.inr rfl) (.inr rfl)
        refine .step ?_ (State.updateUtc_acts ..) rfl
        refine .step ?_ (State.raise_acts ..) rfl
        refine .step ?_ (State.event_acts ..) rfl
        refine .step ?_ (State.setFld_acts ..) rfl
        exact .refl _
      · refine .ite (fun _ => ?_) fun _ => ?_
        · refine .step ?_ (State.leaveHoldover_acts ..) rfl
          refine .upd_tim ?_ rfl (.inr rfl) (.inr rfl)
          refine .step ?_ (State.updateUtc_acts ..) rfl
          refine .step ?_ (State.raise_acts ..) rfl
          refine .step ?_ (State.event_acts ..) rfl
          refine .step ?_ (State.setFld_acts ..) rfl
          exact .refl _
        · refine .step ?_ (State.setFlag_acts ..) rfl
          refine .step ?_ (State.setInt_acts ..) rfl
          refine .step ?_ (State.leaveHoldover_acts ..) rfl
          refine .upd_tim ?_ rfl (.inr rfl) (.inr rfl)
          refine .step ?_ (State.updateUtc_acts ..) rfl
          refine .step ?_ (State.raise_acts ..) rfl
          refine .step ?_ (State.event_acts ..) rfl
          refine .step ?_ (State.setFld_acts ..) rfl
          exact .refl _

/-- Changes alarms, rcd, tim, regs. -/
theorem State.reselect_acts : ∀ x0, Acts 34359804288 x0 (State.reselect x0) := by
  intro x0
  unfold State.reselect
  refine .ite (fun _ => ?_) fun _ => ?_
  · refine .ite (fun _ => ?_) fun _ => ?_
    · refine .step ?_ (State.raise_acts ..) rfl
      refine .step ?_ (State.event_acts ..) rfl
      exact .refl _
    · refine .step ?_ (State.causeGone_acts ..) rfl
      exact .refl _
  · refine .step ?_ (State.select_acts ..) rfl
    refine .ite (fun _ => ?_) fun _ => ?_
    · refine .step ?_ (State.raise_acts ..) rfl
      refine .step ?_ (State.event_acts ..) rfl
      exact .refl _
    · refine .step ?_ (State.causeGone_acts ..) rfl
      exact .refl _

/-- Changes alarms, rcd, tim, regs. -/
theorem State.servo_acts : ∀ x0 x1, Acts 34359804288 x0 (State.servo x0 x1) := by
  intro x0 x1
  unfold State.servo
  refine .ite (fun _ => ?_) fun _ => ?_
  · refine .step ?_ (State.raise_acts ..) rfl
    refine .step ?_ (State.setFlag_acts ..) rfl
    refine .step ?_ (State.setFlag_acts ..) rfl
    refine .step ?_ (State.setFlag_acts ..) rfl
    refine .step ?_ (State.setInt_acts ..) rfl
    refine .step ?_ (State.setInt_acts ..) rfl
    refine .upd_tim ?_ rfl (.inr rfl) (.inr rfl)
    exact .refl _
  · refine .step ?_ (State.causeGone_acts ..) rfl
    refine .step ?_ (State.setFlag_acts ..) rfl
    refine .step ?_ (State.setFlag_acts ..) rfl
    refine .step ?_ (State.setFlag_acts ..) rfl
    refine .step ?_ (State.setInt_acts ..) rfl
    refine .step ?_ (State.setInt_acts ..) rfl
    refine .upd_tim ?_ rfl (.inr rfl) (.inr rfl)
    exact .refl _

/-- Changes alarms, rcd, tim, regs. -/
theorem State.measureOffset_acts : ∀ x0 x1 x2, Acts 34359804288 x0 (State.measureOffset x0 x1 x2) := by
  intro x0 x1 x2
  unfold State.measureOffset
  refine .step ?_ (State.reselect_acts ..) rfl
  refine .ite (fun _ => ?_) fun _ => ?_
  · refine .step ?_ (State.servo_acts ..) rfl
    refine .step ?_ (State.causeGone_acts ..) rfl
    refine .step ?_ (State.setSrc_acts ..) rfl
    refine .step ?_ (State.setInt_acts ..) rfl
    exact .refl _
  · refine .step ?_ (State.causeGone_acts ..) rfl
    refine .step ?_ (State.setSrc_acts ..) rfl
    refine .step ?_ (State.setInt_acts ..) rfl
    exact .refl _

/-- Changes alarms, rcd, tim, regs. -/
theorem State.loseSource_acts : ∀ x0 x1, Acts 34359804288 x0 (State.loseSource x0 x1) := by
  intro x0 x1
  unfold State.loseSource
  refine .step ?_ (State.reselect_acts ..) rfl
  refine .step ?_ (State.raise_acts ..) rfl
  refine .step ?_ (State.setFlag_acts ..) rfl
  refine .step ?_ (State.setSrc_acts ..) rfl
  exact .refl _

/-- Changes regs. -/
theorem State.writeExt_acts : ∀ x0, Acts 34359738368 x0 (State.writeExt x0) := by
  intro x0
  unfold State.writeExt
  refine .step ?_ (State.setReg_acts ..) rfl
  exact .refl _

/-- Changes regs. -/
theorem execTsuExtUpdate_acts : ∀ x0, ∃ t, execTsuExtUpdate x0 = .next t ∧ Acts 34359738368 x0 t := by
  intro x0
  unfold execTsuExtUpdate
  refine ⟨_, rfl, ?_⟩
  refine .step ?_ (State.writeExt_acts ..) rfl
  exact .refl _

/-- Changes tim. -/
theorem State.setPtp_acts : ∀ x0 x1, Acts 65536 x0 (State.setPtp x0 x1) := by
  intro x0 x1
  unfold State.setPtp
  refine .upd_tim ?_ rfl (.inr rfl) (.inr rfl)
  exact .refl _

/-- Changes tim. -/
theorem State.noteDelay_acts : ∀ x0 x1 x2, Acts 65536 x0 (State.noteDelay x0 x1 x2) := by
  intro x0 x1 x2
  unfold State.noteDelay
  refine .step ?_ (State.setPtp_acts ..) rfl
  exact .refl _

/-- Changes alarms, rcd, tim, regs. -/
theorem State.takeSync_acts : ∀ x0 x1 x2 x3 x4, Acts 34359804288 x0 (State.takeSync x0 x1 x2 x3 x4) := by
  intro x0 x1 x2 x3 x4
  unfold State.takeSync
  split
  · refine .ite (fun _ => ?_) fun _ => ?_
    · refine .step ?_ (State.measureOffset_acts ..) rfl
      refine .step ?_ (State.setReg_acts ..) rfl
      refine .step ?_ (State.noteDelay_acts ..) rfl
      exact .refl _
    · refine .step ?_ (State.noteDelay_acts ..) rfl
      exact .refl _
  · exact .refl _

/-- Changes alarms, rcd, tim, regs. -/
theorem execPtpSyncArrives_acts : ∀ x0 x1 x2 x3 x4 x5 x6, ∃ t, execPtpSyncArrives x0 x1 x2 x3 x4 x5 x6 = .next t ∧ Acts 34359804288 x6 t := by
  intro x0 x1 x2 x3 x4 x5 x6
  unfold execPtpSyncArrives
  refine ⟨_, rfl, ?_⟩
  refine .ite (fun _ => ?_) fun _ => ?_
  · refine .ite (fun _ => ?_) fun _ => ?_
    · refine .step ?_ (State.setPtp_acts ..) rfl
      exact .refl _
    · refine .step ?_ (State.takeSync_acts ..) rfl
      exact .refl _
  · exact .refl _

/-- Changes alarms, rcd, tim, regs. -/
theorem execPtpFollowUp_acts : ∀ x0 x1 x2 x3 x4, ∃ t, execPtpFollowUp x0 x1 x2 x3 x4 = .next t ∧ Acts 34359804288 x4 t := by
  intro x0 x1 x2 x3 x4
  unfold execPtpFollowUp
  refine ⟨_, rfl, ?_⟩
  split
  · refine .ite (fun _ => ?_) fun _ => ?_
    · refine .step ?_ (State.takeSync_acts ..) rfl
      refine .step ?_ (State.setPtp_acts ..) rfl
      exact .refl _
    · exact .refl _
  · exact .refl _

/-- Changes tim. -/
theorem execPtpDelayRespArrives_acts : ∀ x0 x1 x2 x3 x4, ∃ t, execPtpDelayRespArrives x0 x1 x2 x3 x4 = .next t ∧ Acts 65536 x4 t := by
  intro x0 x1 x2 x3 x4
  unfold execPtpDelayRespArrives
  refine ⟨_, rfl, ?_⟩
  split
  · refine .ite (fun _ => ?_) fun _ => ?_
    · refine .step ?_ (State.setPtp_acts ..) rfl
      exact .refl _
    · exact .refl _
  · exact .refl _

/-- Changes alarms, rcd, tim, regs. -/
theorem State.followMaster_acts : ∀ x0 x1, Acts 34359804288 x0 (State.followMaster x0 x1) := by
  intro x0 x1
  unfold State.followMaster
  split
  · refine .step ?_ (State.updateUtc_acts ..) rfl
    refine .ite (fun _ => ?_) fun _ => ?_
    · refine .step ?_ (State.loseSource_acts ..) rfl
      refine .upd_tim ?_ rfl (.inr rfl) (.inr rfl)
      refine .step ?_ (State.setPtp_acts ..) rfl
      exact .refl _
    · refine .upd_tim ?_ rfl (.inr rfl) (.inr rfl)
      refine .step ?_ (State.setPtp_acts ..) rfl
      exact .refl _
  · refine .step ?_ (State.setPtp_acts ..) rfl
    exact .refl _

/-- Changes alarms, rcd, tim, regs. -/
theorem execPtpAnnounce_acts : ∀ x0 x1, ∃ t, execPtpAnnounce x0 x1 = .next t ∧ Acts 34359804288 x1 t := by
  intro x0 x1
  unfold execPtpAnnounce
  refine ⟨_, rfl, ?_⟩
  refine .ite (fun _ => ?_) fun _ => ?_
  · exact .refl _
  · refine .step ?_ (State.followMaster_acts ..) rfl
    refine .step ?_ (State.setPtp_acts ..) rfl
    exact .refl _

/-- Changes alarms, rcd, tim, regs, elapsed, working. -/
theorem execTimeSourceLost_acts : ∀ x0 x1, ∃ t, execTimeSourceLost x0 x1 = .next t ∧ Acts 6755433800860032 x1 t := by
  intro x0 x1
  unfold execTimeSourceLost
  refine ⟨_, rfl, ?_⟩
  refine .ite (fun _ => ?_) fun _ => ?_
  · refine .step ?_ (State.loseSource_acts ..) rfl
    refine .step ?_ (State.reachEl_acts ..) rfl
    exact .refl _
  · exact .refl _

/-- Changes alarms, rcd, tim, regs, elapsed, working. -/
theorem execSourceQualified_acts : ∀ x0 x1, ∃ t, execSourceQualified x0 x1 = .next t ∧ Acts 6755433800860032 x1 t := by
  intro x0 x1
  unfold execSourceQualified
  refine ⟨_, rfl, ?_⟩
  refine .ite (fun _ => ?_) fun _ => ?_
  · refine .step ?_ (State.reselect_acts ..) rfl
    refine .step ?_ (State.setFlag_acts ..) rfl
    refine .step ?_ (State.reachEl_acts ..) rfl
    exact .refl _
  · exact .refl _

/-- Changes tim, regs, elapsed, working. -/
theorem execStepDecision_acts : ∀ x0, ∃ t, execStepDecision x0 = .next t ∧ Acts 6755433800859648 x0 t := by
  intro x0
  unfold execStepDecision
  refine ⟨_, rfl, ?_⟩
  split
  · refine .ite (fun _ => ?_) fun _ => ?_
    · refine .step ?_ (State.decideStep_acts ..) rfl
      refine .step ?_ (State.reachEl_acts ..) rfl
      exact .refl _
    · exact .refl _
  · exact .refl _

/-- Changes tim, regs. -/
theorem State.stepCompares_acts : ∀ x0 x1 x2, Acts 34359803904 x0 (State.stepCompares x0 x1 x2) := by
  intro x0 x1 x2
  unfold State.stepCompares
  refine .each ?_ ?_
  · exact .refl _
  · intro _ _
    refine .ite (fun _ => ?_) fun _ => ?_
    · refine .step ?_ (State.setReg_acts ..) rfl
      refine .step ?_ (State.setFlag_acts ..) rfl
      refine .step ?_ (State.setFlag_acts ..) rfl
      refine .upd_tim ?_ rfl (.inr rfl) (.inr rfl)
      exact .refl _
    · exact .refl _

/-- Changes dev, alarms, rcd, tim, regs, elapsed, working. -/
theorem execTimeStep_acts : ∀ x0, ∃ t, execTimeStep x0 = .next t ∧ Acts 6755433800860064 x0 t := by
  intro x0
  unfold execTimeStep
  refine ⟨_, rfl, ?_⟩
  split
  · exact .refl _
  · refine .ite (fun _ => ?_) fun _ => ?_
    · refine .step ?_ (State.stepCompares_acts ..) rfl
      refine .step ?_ (State.raise_acts ..) rfl
      refine .step ?_ (State.event_acts ..) rfl
      refine .step ?_ (State.setFlag_acts ..) rfl
      refine .step ?_ (State.setFlag_acts ..) rfl
      refine .step ?_ (State.bump_acts ..) rfl
      refine .step ?_ (State.setReg_acts ..) rfl
      refine .step ?_ (State.setReg_acts ..) rfl
      refine .step ?_ (State.writeExt_acts ..) rfl
      refine .upd_dev_rcd_tim ?_ rfl rfl (.inr rfl) (.inr rfl) (.inr rfl) (.inr rfl) (.inr rfl) (.inr rfl) (.inl rfl)
      refine .step ?_ (State.reach_acts ..) rfl
      exact .refl _
    · refine .step ?_ (State.raise_acts ..) rfl
      refine .step ?_ (State.event_acts ..) rfl
      refine .step ?_ (State.setFlag_acts ..) rfl
      refine .step ?_ (State.setFlag_acts ..) rfl
      refine .step ?_ (State.bump_acts ..) rfl
      refine .step ?_ (State.setReg_acts ..) rfl
      refine .step ?_ (State.setReg_acts ..) rfl
      refine .step ?_ (State.writeExt_acts ..) rfl
      refine .upd_dev_rcd_tim ?_ rfl rfl (.inr rfl) (.inr rfl) (.inr rfl) (.inr rfl) (.inr rfl) (.inr rfl) (.inl rfl)
      refine .step ?_ (State.reach_acts ..) rfl
      exact .refl _

/-- Changes tim, regs, elapsed, working. -/
theorem execHoldErrPublish_acts : ∀ x0, ∃ t, execHoldErrPublish x0 = .next t ∧ Acts 6755433800859648 x0 t := by
  intro x0
  unfold execHoldErrPublish
  refine ⟨_, rfl, ?_⟩
  refine .ite (fun _ => ?_) fun _ => ?_
  · refine .step ?_ (State.setReg_acts ..) rfl
    refine .step ?_ (State.setReg_acts ..) rfl
    refine .step ?_ (State.reachEl_acts ..) rfl
    exact .refl _
  · exact .refl _

/-- Changes rcd, tim, regs, working. -/
theorem State.setTimeDirect_acts : ∀ x0 x1, Acts 4503633987174656 x0 (State.setTimeDirect x0 x1) := by
  intro x0 x1
  unfold State.setTimeDirect
  refine .step ?_ (State.setFlag_acts ..) rfl
  refine .step ?_ (State.writeExt_acts ..) rfl
  refine .upd_rcd_tim ?_ rfl rfl (.inr rfl) (.inr rfl) (.inl rfl)
  exact .refl _

/-- Changes tim. -/
theorem State.setCap_acts : ∀ x0 x1 x2, Acts 65536 x0 (State.setCap x0 x1 x2) := by
  intro x0 x1 x2
  unfold State.setCap
  refine .upd_tim ?_ rfl (.inr rfl) (.inr rfl)
  exact .refl _

/-- Changes alarms, rcd, tim, regs. -/
theorem execCaptureEdge_acts : ∀ x0 x1 x2 x3, ∃ t, execCaptureEdge x0 x1 x2 x3 = .next t ∧ Acts 34359804288 x3 t := by
  intro x0 x1 x2 x3
  unfold execCaptureEdge
  refine ⟨_, rfl, ?_⟩
  refine .ite (fun _ => ?_) fun _ => ?_
  · exact .refl _
  · refine .ite (fun _ => ?_) fun _ => ?_
    · refine .upd_tim ?_ rfl (.inr rfl) (.inr rfl)
      exact .refl _
    · refine .ite (fun _ => ?_) fun _ => ?_
      · refine .step ?_ (State.setCap_acts ..) rfl
        refine .upd_tim ?_ rfl (.inr rfl) (.inr rfl)
        exact .refl _
      · refine .ite (fun _ => ?_) fun _ => ?_
        · refine .step ?_ (State.raise_acts ..) rfl
          refine .upd_tim ?_ rfl (.inr rfl) (.inr rfl)
          refine .step ?_ (State.event_acts ..) rfl
          refine .step ?_ (State.setFlag_acts ..) rfl
          refine .upd_tim ?_ rfl (.inr rfl) (.inr rfl)
          exact .refl _
        · refine .step ?_ (State.event_acts ..) rfl
          refine .step ?_ (State.setFlag_acts ..) rfl
          refine .upd_tim ?_ rfl (.inr rfl) (.inr rfl)
          exact .refl _

/-- Changes tim, regs. -/
theorem State.capRead_acts : ∀ x0 x1, Acts 34359803904 x0 (State.capRead x0 x1).1 := by
  intro x0 x1
  unfold State.capRead
  split
  · refine .pair ?_
    exact .refl _
  · refine .pair ?_
    refine .step ?_ (State.setFlag_acts ..) rfl
    refine .step ?_ (State.setCap_acts ..) rfl
    exact .refl _

/-- Changes alarms, rcd, acl, tim, twn, regs, out. -/
theorem execCaptureRead_acts : ∀ x0 x1 x2, ∃ t, execCaptureRead x0 x1 x2 = .next t ∧ Acts 584116175232 x2 t := by
  intro x0 x1 x2
  unfold execCaptureRead
  refine ⟨_, rfl, ?_⟩
  refine .step ?_ (State.complete_acts ..) rfl
  refine State.accessWith_acts ?_ ?_ rfl
  · exact .refl _
  · intro _
    refine .pair ?_
    refine .step ?_ (State.capRead_acts ..) rfl
    exact .refl _

/-- Changes tim, regs, elapsed, working. -/
theorem execCaptureOld_acts : ∀ x0 x1, ∃ t, execCaptureOld x0 x1 = .next t ∧ Acts 6755433800859648 x1 t := by
  intro x0 x1
  unfold execCaptureOld
  refine ⟨_, rfl, ?_⟩
  split
  · exact .refl _
  · refine .step ?_ (State.setFlag_acts ..) rfl
    refine .step ?_ (State.reach_acts ..) rfl
    exact .refl _

/-- Changes tim, elapsed, working. -/
theorem execTimePulse_acts : ∀ x0 x1, ∃ t, execTimePulse x0 x1 = .next t ∧ Acts 6755399441121280 x1 t := by
  intro x0 x1
  unfold execTimePulse
  refine ⟨_, rfl, ?_⟩
  refine .ite (fun _ => ?_) fun _ => ?_
  · exact .refl _
  · refine .ite (fun _ => ?_) fun _ => ?_
    · refine .step ?_ (State.reach_acts ..) rfl
      exact .refl _
    · refine .upd_tim ?_ rfl (.inr rfl) (.inr rfl)
      refine .step ?_ (State.reach_acts ..) rfl
      exact .refl _

/-- Changes tim, elapsed, working. -/
theorem execTimePulseEnd_acts : ∀ x0 x1, ∃ t, execTimePulseEnd x0 x1 = .next t ∧ Acts 6755399441121280 x1 t := by
  intro x0 x1
  unfold execTimePulseEnd
  refine ⟨_, rfl, ?_⟩
  split
  · refine .upd_tim ?_ rfl (.inr rfl) (.inr rfl)
    refine .step ?_ (State.reachEl_acts ..) rfl
    exact .refl _
  · exact .refl _

/-- Changes tim, out, elapsed, working. -/
theorem execTimeMarkerSend_acts : ∀ x0, ∃ t, execTimeMarkerSend x0 = .next t ∧ Acts 6755949196935168 x0 t := by
  intro x0
  unfold execTimeMarkerSend
  refine ⟨_, rfl, ?_⟩
  refine .ite (fun _ => ?_) fun _ => ?_
  · refine .step ?_ (State.send_acts ..) rfl
    refine .step ?_ (State.reach_acts ..) rfl
    exact .refl _
  · refine .step ?_ (State.reach_acts ..) rfl
    exact .refl _

/-- Changes alarms, rcd, tim, regs. -/
theorem State.takeMarker_acts : ∀ x0 x1, Acts 34359804288 x0 (State.takeMarker x0 x1) := by
  intro x0 x1
  unfold State.takeMarker
  refine .ite (fun _ => ?_) fun _ => ?_
  · refine .step ?_ (State.measureOffset_acts ..) rfl
    refine .ite (fun _ => ?_) fun _ => ?_
    · refine .step ?_ (State.setFlag_acts ..) rfl
      refine .upd_tim ?_ rfl (.inr rfl) (.inr rfl)
      refine .ite (fun _ => ?_) fun _ => ?_
      · refine .step ?_ (State.causeGone_acts ..) rfl
        refine .step ?_ (State.setFlag_acts ..) rfl
        refine .upd_tim ?_ rfl (.inr rfl) (.inr rfl)
        exact .refl _
      · refine .step ?_ (State.setFlag_acts ..) rfl
        refine .upd_tim ?_ rfl (.inr rfl) (.inr rfl)
        exact .refl _
    · refine .ite (fun _ => ?_) fun _ => ?_
      · refine .step ?_ (State.causeGone_acts ..) rfl
        refine .step ?_ (State.setFlag_acts ..) rfl
        refine .upd_tim ?_ rfl (.inr rfl) (.inr rfl)
        exact .refl _
      · refine .step ?_ (State.setFlag_acts ..) rfl
        refine .upd_tim ?_ rfl (.inr rfl) (.inr rfl)
        exact .refl _
  · refine .ite (fun _ => ?_) fun _ => ?_
    · refine .step ?_ (State.setFlag_acts ..) rfl
      refine .upd_tim ?_ rfl (.inr rfl) (.inr rfl)
      refine .ite (fun _ => ?_) fun _ => ?_
      · refine .step ?_ (State.causeGone_acts ..) rfl
        refine .step ?_ (State.setFlag_acts ..) rfl
        refine .upd_tim ?_ rfl (.inr rfl) (.inr rfl)
        exact .refl _
      · refine .step ?_ (State.setFlag_acts ..) rfl
        refine .upd_tim ?_ rfl (.inr rfl) (.inr rfl)
        exact .refl _
    · refine .ite (fun _ => ?_) fun _ => ?_
      · refine .step ?_ (State.causeGone_acts ..) rfl
        refine .step ?_ (State.setFlag_acts ..) rfl
        refine .upd_tim ?_ rfl (.inr rfl) (.inr rfl)
        exact .refl _
      · refine .step ?_ (State.setFlag_acts ..) rfl
        refine .upd_tim ?_ rfl (.inr rfl) (.inr rfl)
        exact .refl _

/-- Changes alarms, rcd, tim, regs, elapsed, working. -/
theorem execTwinOffsetAlarm_acts : ∀ x0, ∃ t, execTwinOffsetAlarm x0 = .next t ∧ Acts 6755433800860032 x0 t := by
  intro x0
  unfold execTwinOffsetAlarm
  refine ⟨_, rfl, ?_⟩
  split
  · refine .ite (fun _ => ?_) fun _ => ?_
    · refine .step ?_ (State.raise_acts ..) rfl
      refine .step ?_ (State.reachEl_acts ..) rfl
      exact .refl _
    · exact .refl _
  · exact .refl _

/-! NetOps.lean -/

/-- Changes regs, out. -/
theorem State.frameOut_acts : ∀ x0 x1 x2 x3, Acts 584115552256 x0 (State.frameOut x0 x1 x2 x3) := by
  intro x0 x1 x2 x3
  unfold State.frameOut
  refine .step ?_ (State.send_acts ..) rfl
  refine .step ?_ (State.bump_acts ..) rfl
  exact .refl _

/-- Changes net, regs, out. -/
theorem State.ethSend_acts : ∀ x0 x1 x2 x3, Acts 585189294080 x0 (State.ethSend x0 x1 x2 x3) := by
  intro x0 x1 x2 x3
  unfold State.ethSend
  refine .ite (fun _ => ?_) fun _ => ?_
  · refine .ite (fun _ => ?_) fun _ => ?_
    · refine .upd_net ?_ rfl
      exact .refl _
    · refine .step ?_ (State.frameOut_acts ..) rfl
      exact .refl _
  · exact .refl _

/-- Changes net, regs, out. -/
theorem State.lanSend_acts : ∀ x0 x1 x2, Acts 585189294080 x0 (State.lanSend x0 x1 x2) := by
  intro x0 x1 x2
  unfold State.lanSend
  refine .step ?_ (State.ethSend_acts ..) rfl
  refine .step ?_ (State.ethSend_acts ..) rfl
  exact .refl _

/-- Changes net, regs, out. -/
theorem State.netSend_acts : ∀ x0 x1 x2 x3, Acts 585189294080 x0 (State.netSend x0 x1 x2 x3) := by
  intro x0 x1 x2 x3
  unfold State.netSend
  refine .ite (fun _ => ?_) fun _ => ?_
  · refine .step ?_ (State.ethSend_acts ..) rfl
    exact .refl _
  · refine .step ?_ (State.lanSend_acts ..) rfl
    exact .refl _

/-- Changes net, regs, out. -/
theorem State.udpSend_acts : ∀ x0 x1 x2 x3 x4, Acts 585189294080 x0 (State.udpSend x0 x1 x2 x3 x4) := by
  intro x0 x1 x2 x3 x4
  unfold State.udpSend
  refine .ite (fun _ => ?_) fun _ => ?_
  · refine .step ?_ (State.netSend_acts ..) rfl
    exact .refl _
  · refine .step ?_ (State.netSend_acts ..) rfl
    refine .upd_net ?_ rfl
    exact .refl _

/-- Changes can. -/
theorem State.setCanChan_acts : ∀ x0 x1 x2, Acts 2147483648 x0 (State.setCanChan x0 x1 x2) := by
  intro x0 x1 x2
  unfold State.setCanChan
  refine .upd_can ?_ rfl
  exact .refl _

/-- Changes can, regs, out. -/
theorem State.canStart_acts : ∀ x0 x1 x2 x3, Acts 586263035904 x0 (State.canStart x0 x1 x2 x3) := by
  intro x0 x1 x2 x3
  unfold State.canStart
  refine .when ?_ ?_
  · refine .step ?_ (State.send_acts ..) rfl
    refine .step ?_ (State.setFlag_acts ..) rfl
    refine .step ?_ (State.bump_acts ..) rfl
    refine .step ?_ (State.setCanChan_acts ..) rfl
    exact .refl _
  · intro _
    refine .step ?_ (State.setReg_acts ..) rfl
    exact .refl _

/-- Changes can, regs, out. -/
theorem State.canRun_acts : ∀ c limit n s, Acts 586263035904 s (State.canRun c limit n s) := by
  intro c limit n
  induction n with
  | zero => exact fun s => Acts.refl s
  | succ n ih =>
    intro s
    unfold State.canRun
    split
    · exact Acts.refl s
    · dsimp only
      refine Acts.ite (fun _ => Acts.refl s) (fun _ => ?_)
      split
      · exact ((State.canStart_acts ..).mono rfl).step (ih ..) rfl
      · exact Acts.refl s

/-- Changes can, regs, out. -/
theorem State.canSettle_acts : ∀ x0 x1 x2, Acts 586263035904 x0 (State.canSettle x0 x1 x2) := by
  intro x0 x1 x2
  unfold State.canSettle
  refine .ite (fun _ => ?_) fun _ => ?_
  · refine .step ?_ (State.canRun_acts ..) rfl
    exact .refl _
  · exact .refl _

/-- Changes alarms, rcd, can, regs. -/
theorem State.canReplace_acts : ∀ x0 x1 x2, Acts 36507222400 x0 (State.canReplace x0 x1 x2) := by
  intro x0 x1 x2
  unfold State.canReplace
  refine .ite (fun _ => ?_) fun _ => ?_
  · refine .ite (fun _ => ?_) fun _ => ?_
    · refine .step ?_ (State.raise_acts ..) rfl
      refine .step ?_ (State.setCanChan_acts ..) rfl
      refine .step ?_ (State.event_acts ..) rfl
      refine .step ?_ (State.setCanChan_acts ..) rfl
      exact .refl _
    · refine .step ?_ (State.event_acts ..) rfl
      refine .step ?_ (State.setCanChan_acts ..) rfl
      exact .refl _
  · exact .refl _

/-- Changes alarms, rcd, can, regs, out. -/
theorem State.canSend_acts : ∀ x0 x1 x2 x3 x4 x5, Acts 586263036288 x0 (State.canSend x0 x1 x2 x3 x4 x5) := by
  intro x0 x1 x2 x3 x4 x5
  unfold State.canSend
  refine .ite (fun _ => ?_) fun _ => ?_
  · refine .ite (fun _ => ?_) fun _ => ?_
    · refine .step ?_ (State.setCanChan_acts ..) rfl
      split
      · refine .step ?_ (State.canReplace_acts ..) rfl
        refine .step ?_ (State.canSettle_acts ..) rfl
        exact .refl _
      · refine .step ?_ (State.canSettle_acts ..) rfl
        exact .refl _
    · refine .step ?_ (State.canSettle_acts ..) rfl
      refine .step ?_ (State.setCanChan_acts ..) rfl
      split
      · refine .step ?_ (State.canReplace_acts ..) rfl
        refine .step ?_ (State.canSettle_acts ..) rfl
        exact .refl _
      · refine .step ?_ (State.canSettle_acts ..) rfl
        exact .refl _
  · exact .refl _

/-- Changes regs, out. -/
theorem State.drainQueue_acts : ∀ x0 x1, Acts 584115552256 x0 (State.drainQueue x0 x1) := by
  intro x0 x1
  unfold State.drainQueue
  refine .foldl ?_ ?_
  · exact .refl _
  · intro _ _
    refine .step ?_ (State.frameOut_acts ..) rfl
    exact .refl _

/-- Changes net. -/
theorem State.fillQueues_acts : ∀ x0, Acts 1073741824 x0 (State.fillQueues x0) := by
  intro x0
  unfold State.fillQueues
  refine .upd_net ?_ rfl
  exact .refl _

/-- Changes net, can, regs, out. -/
theorem State.drainTx_acts : ∀ x0, Acts 587336777728 x0 (State.drainTx x0) := by
  intro x0
  unfold State.drainTx
  refine .each ?_ ?_
  · refine .upd_net ?_ rfl
    refine .foldl ?_ ?_
    · refine .upd_net ?_ rfl
      exact .refl _
    · intro _ _
      refine .step ?_ (State.drainQueue_acts ..) rfl
      exact .refl _
  · intro _ _
    refine .step ?_ (State.canSettle_acts ..) rfl
    exact .refl _

/-! Orders.lean -/

/-- Changes ord. -/
theorem State.takeOrder_acts {m : Nat} {s₀ s : State} {o : OrderIn} {code : Nat} {run : State} (h₀ : Acts m s₀ s) (h : Acts m s₀ run)
    (hm : 64 ||| m = m) : Acts m s₀ (s.takeOrder o code run) := by
  unfold State.takeOrder
  exact Acts.ite (fun _ => h₀) (fun _ => Acts.ite (fun _ => h₀.upd_ord (mask_step hm rfl)) (fun _ => h))

/-- Changes ord. -/
theorem State.respond_acts : ∀ x0 x1 x2 x3, Acts 64 x0 (State.respond x0 x1 x2 x3) := by
  intro x0 x1 x2 x3
  unfold State.respond
  refine .upd_ord ?_ rfl
  exact .refl _

/-- Changes regs. -/
theorem State.boxAnswer_acts : ∀ x0 x1 x2, Acts 34359738368 x0 (State.boxAnswer x0 x1 x2) := by
  intro x0 x1 x2
  unfold State.boxAnswer
  refine .step ?_ (State.setFlag_acts ..) rfl
  refine .step ?_ (State.setFlag_acts ..) rfl
  refine .step ?_ (State.setFld_acts ..) rfl
  exact .refl _

/-- Changes regs. -/
theorem State.dropDuplicate_acts : ∀ x0 x1, Acts 34359738368 x0 (State.dropDuplicate x0 x1) := by
  intro x0 x1
  unfold State.dropDuplicate
  split
  · refine .step ?_ (State.boxAnswer_acts ..) rfl
    exact .refl _
  · exact .refl _

/-- Changes ord, regs. -/
theorem State.evalOrder_acts {m : Nat} {s₀ s : State} {o : OrderIn} {code : Nat} {st : Bool} {late : List (Nat × Bool)} {f : State → State}
    (h₀ : Acts m s₀ s) (h : ∀ s, Acts m s (f s)) (hm : 34359738432 ||| m = m) : Acts m s₀ (s.evalOrder o code st late f) := by
  have hr : ∀ (t : State) c r, Acts m s₀ t → Acts m s₀ (t.respond o c r) := fun t c r k => k.step (State.respond_acts ..) (mask_step hm rfl)
  have hd : Acts m s₀ (s.dropDuplicate o) := h₀.step (State.dropDuplicate_acts ..) (mask_step hm rfl)
  unfold State.evalOrder
  refine Acts.ite (fun _ => hr _ _ _ h₀) (fun _ => Acts.ite (fun _ => hr _ _ _ h₀) (fun _ => Acts.ite (fun _ => hd) (fun _ => ?_)))
  have hc : Acts m s₀ { s with ord := { s.ord with counted := aset s.ord.counted o.source (s.countedOrders o.source + 1) } } :=
    h₀.upd_ord (mask_step hm rfl)
  refine Acts.ite (fun _ => hr _ _ _ hc) (fun _ => ?_)
  refine Acts.ite (fun _ => hr _ _ _ (hc.upd_ord (mask_step hm rfl))) (fun _ => hr _ _ _ ?_)
  exact (hc.upd_ord (mask_step hm rfl)).step (h _) (Nat.or_self m)

/-- Changes ord. -/
theorem State.noteState_acts : ∀ x0 x1 x2, Acts 64 x0 (State.noteState x0 x1 x2) := by
  intro x0 x1 x2
  unfold State.noteState
  refine .upd_ord ?_ rfl
  exact .refl _

/-- Changes ord. -/
theorem State.noteBoth_acts : ∀ x0 x1, Acts 64 x0 (State.noteBoth x0 x1) := by
  intro x0 x1
  unfold State.noteBoth
  refine .step ?_ (State.noteState_acts ..) rfl
  refine .step ?_ (State.noteState_acts ..) rfl
  exact .refl _

/-- Changes ord. -/
theorem State.noteHolder_acts : ∀ x0 x1, Acts 64 x0 (State.noteHolder x0 x1) := by
  intro x0 x1
  unfold State.noteHolder
  split
  · refine .step ?_ (State.noteState_acts ..) rfl
    exact .refl _
  · exact .refl _

/-- Changes dev. -/
theorem State.atPour_acts : ∀ x0 x1, Acts 32 x0 (State.atPour x0 x1) := by
  intro x0 x1
  unfold State.atPour
  refine .upd_dev ?_ rfl (.inr rfl) (.inr rfl) (.inr rfl) (.inr rfl)
  exact .refl _

/-- Changes dev, ord, regs. -/
theorem State.engageOrder_acts : ∀ x0 x1, Acts 34359738464 x0 (State.engageOrder x0 x1) := by
  intro x0 x1
  unfold State.engageOrder
  refine State.evalOrder_acts ?_ ?_ rfl
  · exact .refl _
  · intro _
    refine .step ?_ (State.atPour_acts ..) rfl
    refine .step ?_ (State.noteState_acts ..) rfl
    exact .refl _

/-- Changes dev, ord, regs. -/
theorem execEngage_acts : ∀ x0 x1, ∃ t, execEngage x0 x1 = .next t ∧ Acts 34359738464 x1 t := by
  intro x0 x1
  unfold execEngage
  refine ⟨_, rfl, ?_⟩
  refine State.takeOrder_acts ?_ ?_ rfl
  · exact .refl _
  · refine .step ?_ (State.engageOrder_acts ..) rfl
    exact .refl _

/-- Changes dev, ord, regs. -/
theorem State.disengageOrder_acts : ∀ x0 x1, Acts 34359738464 x0 (State.disengageOrder x0 x1) := by
  intro x0 x1
  unfold State.disengageOrder
  refine State.evalOrder_acts ?_ ?_ rfl
  · exact .refl _
  · intro _
    refine .step ?_ (State.atPour_acts ..) rfl
    refine .step ?_ (State.noteHolder_acts ..) rfl
    exact .refl _

/-- Changes dev, ord, regs. -/
theorem execDisengage_acts : ∀ x0 x1, ∃ t, execDisengage x0 x1 = .next t ∧ Acts 34359738464 x1 t := by
  intro x0 x1
  unfold execDisengage
  refine ⟨_, rfl, ?_⟩
  refine State.takeOrder_acts ?_ ?_ rfl
  · exact .refl _
  · refine .step ?_ (State.disengageOrder_acts ..) rfl
    exact .refl _

/-- Changes ord. -/
theorem State.noteTransfer_acts : ∀ x0, Acts 64 x0 (State.noteTransfer x0) := by
  intro x0
  unfold State.noteTransfer
  split
  · refine .step ?_ (State.noteState_acts ..) rfl
    refine .step ?_ (State.noteState_acts ..) rfl
    exact .refl _
  · exact .refl _

/-- Changes dev, ord, regs. -/
theorem State.transferOrder_acts : ∀ x0 x1, Acts 34359738464 x0 (State.transferOrder x0 x1) := by
  intro x0 x1
  unfold State.transferOrder
  refine State.evalOrder_acts ?_ ?_ rfl
  · exact .refl _
  · intro _
    refine .step ?_ (State.atPour_acts ..) rfl
    refine .step ?_ (State.noteTransfer_acts ..) rfl
    exact .refl _

/-- Changes dev, ord, regs. -/
theorem execTransfer_acts : ∀ x0 x1, ∃ t, execTransfer x0 x1 = .next t ∧ Acts 34359738464 x1 t := by
  intro x0 x1
  unfold execTransfer
  refine ⟨_, rfl, ?_⟩
  refine State.takeOrder_acts ?_ ?_ rfl
  · exact .refl _
  · refine .step ?_ (State.transferOrder_acts ..) rfl
    exact .refl _

/-- Changes dev, ord, regs. -/
theorem State.setModeOrder_acts : ∀ x0 x1, Acts 34359738464 x0 (State.setModeOrder x0 x1) := by
  intro x0 x1
  unfold State.setModeOrder
  refine State.evalOrder_acts ?_ ?_ rfl
  · exact .refl _
  · intro _
    refine .upd_dev ?_ rfl (.inr rfl) (.inr rfl) (.inr rfl) (.inr rfl)
    exact .refl _

/-- Changes dev, ord, regs. -/
theorem execSetMode_acts : ∀ x0 x1, ∃ t, execSetMode x0 x1 = .next t ∧ Acts 34359738464 x1 t := by
  intro x0 x1
  unfold execSetMode
  refine ⟨_, rfl, ?_⟩
  refine State.takeOrder_acts ?_ ?_ rfl
  · exact .refl _
  · refine .step ?_ (State.setModeOrder_acts ..) rfl
    exact .refl _

/-- Changes dev, ord, ctl, regs, devAim. -/
theorem State.setPointOrder_acts : ∀ x0 x1, Acts 35218765381728 x0 (State.setPointOrder x0 x1) := by
  intro x0 x1
  unfold State.setPointOrder
  refine State.evalOrder_acts ?_ ?_ rfl
  · exact .refl _
  · intro _
    refine .upd_dev_ctl ?_ rfl rfl (.inr rfl) (.inr rfl) (.inr rfl) (.inl rfl)
    exact .refl _

/-- Changes dev, ord, ctl, regs, devAim. -/
theorem execSetPoint_acts : ∀ x0 x1, ∃ t, execSetPoint x0 x1 = .next t ∧ Acts 35218765381728 x1 t := by
  intro x0 x1
  unfold execSetPoint
  refine ⟨_, rfl, ?_⟩
  refine State.takeOrder_acts ?_ ?_ rfl
  · exact .refl _
  · refine .step ?_ (State.setPointOrder_acts ..) rfl
    exact .refl _

/-- Changes dev, ord, ctl, regs, devAim. -/
theorem State.setTrackOrder_acts : ∀ x0 x1, Acts 35218765381728 x0 (State.setTrackOrder x0 x1) := by
  intro x0 x1
  unfold State.setTrackOrder
  refine State.evalOrder_acts ?_ ?_ rfl
  · exact .refl _
  · intro _
    refine .upd_dev_ctl ?_ rfl rfl (.inr rfl) (.inr rfl) (.inr rfl) (.inl rfl)
    exact .refl _

/-- Changes dev, ord, ctl, regs, devAim. -/
theorem execSetTrack_acts : ∀ x0 x1, ∃ t, execSetTrack x0 x1 = .next t ∧ Acts 35218765381728 x1 t := by
  intro x0 x1
  unfold execSetTrack
  refine ⟨_, rfl, ?_⟩
  refine State.takeOrder_acts ?_ ?_ rfl
  · exact .refl _
  · refine .step ?_ (State.setTrackOrder_acts ..) rfl
    exact .refl _

/-- Changes dev, ord, regs, devAim. -/
theorem State.joystickOrder_acts : ∀ x0 x1, Acts 35218731827296 x0 (State.joystickOrder x0 x1) := by
  intro x0 x1
  unfold State.joystickOrder
  refine State.evalOrder_acts ?_ ?_ rfl
  · exact .refl _
  · intro _
    refine .upd_dev ?_ rfl (.inr rfl) (.inr rfl) (.inr rfl) (.inl rfl)
    exact .refl _

/-- Changes dev, ord, regs, devAim. -/
theorem execJoystick_acts : ∀ x0 x1, ∃ t, execJoystick x0 x1 = .next t ∧ Acts 35218731827296 x1 t := by
  intro x0 x1
  unfold execJoystick
  refine ⟨_, rfl, ?_⟩
  refine State.takeOrder_acts ?_ ?_ rfl
  · exact .refl _
  · refine .step ?_ (State.joystickOrder_acts ..) rfl
    exact .refl _

/-- Changes dev, ord, regs. -/
theorem State.takeCommandOrder_acts : ∀ x0 x1, Acts 34359738464 x0 (State.takeCommandOrder x0 x1) := by
  intro x0 x1
  unfold State.takeCommandOrder
  refine State.evalOrder_acts ?_ ?_ rfl
  · exact .refl _
  · intro _
    refine .ite (fun _ => ?_) fun _ => ?_
    · exact .refl _
    · refine .upd_dev_ord ?_ rfl (.inr rfl) (.inr rfl) (.inr rfl) (.inr rfl)
      exact .refl _

/-- Changes dev, ord, regs. -/
theorem execTakeCommand_acts : ∀ x0 x1, ∃ t, execTakeCommand x0 x1 = .next t ∧ Acts 34359738464 x1 t := by
  intro x0 x1
  unfold execTakeCommand
  refine ⟨_, rfl, ?_⟩
  refine State.takeOrder_acts ?_ ?_ rfl
  · exact .refl _
  · refine .step ?_ (State.takeCommandOrder_acts ..) rfl
    exact .refl _

/-- Changes ord, regs. -/
theorem State.tunableOrder_acts : ∀ x0 x1, Acts 34359738432 x0 (State.tunableOrder x0 x1) := by
  intro x0 x1
  unfold State.tunableOrder
  refine State.evalOrder_acts ?_ ?_ rfl
  · exact .refl _
  · intro _
    refine .upd_ord ?_ rfl
    exact .refl _

/-- Changes ord, regs. -/
theorem execTunable_acts : ∀ x0 x1, ∃ t, execTunable x0 x1 = .next t ∧ Acts 34359738432 x1 t := by
  intro x0 x1
  unfold execTunable
  refine ⟨_, rfl, ?_⟩
  refine State.takeOrder_acts ?_ ?_ rfl
  · exact .refl _
  · refine .step ?_ (State.tunableOrder_acts ..) rfl
    exact .refl _

/-- Changes dev, ord, regs. -/
theorem State.parkOrder_acts : ∀ x0 x1, Acts 34359738464 x0 (State.parkOrder x0 x1) := by
  intro x0 x1
  unfold State.parkOrder
  refine State.evalOrder_acts ?_ ?_ rfl
  · exact .refl _
  · intro _
    refine .step ?_ (State.atPour_acts ..) rfl
    refine .step ?_ (State.noteBoth_acts ..) rfl
    exact .refl _

/-- Changes dev, ord, regs. -/
theorem execPark_acts : ∀ x0 x1, ∃ t, execPark x0 x1 = .next t ∧ Acts 34359738464 x1 t := by
  intro x0 x1
  unfold execPark
  refine ⟨_, rfl, ?_⟩
  refine State.takeOrder_acts ?_ ?_ rfl
  · exact .refl _
  · refine .step ?_ (State.parkOrder_acts ..) rfl
    exact .refl _

/-- Changes dev, ord, regs. -/
theorem State.unparkOrder_acts : ∀ x0 x1, Acts 34359738464 x0 (State.unparkOrder x0 x1) := by
  intro x0 x1
  unfold State.unparkOrder
  refine State.evalOrder_acts ?_ ?_ rfl
  · exact .refl _
  · intro _
    refine .step ?_ (State.atPour_acts ..) rfl
    refine .step ?_ (State.noteBoth_acts ..) rfl
    exact .refl _

/-- Changes dev, ord, regs. -/
theorem execUnpark_acts : ∀ x0 x1, ∃ t, execUnpark x0 x1 = .next t ∧ Acts 34359738464 x1 t := by
  intro x0 x1
  unfold execUnpark
  refine ⟨_, rfl, ?_⟩
  refine State.takeOrder_acts ?_ ?_ rfl
  · exact .refl _
  · refine .step ?_ (State.unparkOrder_acts ..) rfl
    exact .refl _

/-- Changes ord. -/
theorem State.noteNamed_acts : ∀ x0 x1 x2, Acts 64 x0 (State.noteNamed x0 x1 x2) := by
  intro x0 x1 x2
  unfold State.noteNamed
  split
  · refine .step ?_ (State.noteState_acts ..) rfl
    exact .refl _
  · refine .step ?_ (State.noteBoth_acts ..) rfl
    exact .refl _

/-- Changes dev, ord, regs. -/
theorem State.safeOrder_acts : ∀ x0 x1, Acts 34359738464 x0 (State.safeOrder x0 x1) := by
  intro x0 x1
  unfold State.safeOrder
  refine State.evalOrder_acts ?_ ?_ rfl
  · exact .refl _
  · intro _
    refine .ite (fun _ => ?_) fun _ => ?_
    · refine .step ?_ (State.atPour_acts ..) rfl
      refine .step ?_ (State.noteNamed_acts ..) rfl
      exact .refl _
    · refine .step ?_ (State.noteNamed_acts ..) rfl
      exact .refl _

/-- Changes dev, ord, regs. -/
theorem execSafe_acts : ∀ x0 x1, ∃ t, execSafe x0 x1 = .next t ∧ Acts 34359738464 x1 t := by
  intro x0 x1
  unfold execSafe
  refine ⟨_, rfl, ?_⟩
  refine State.takeOrder_acts ?_ ?_ rfl
  · exact .refl _
  · refine .step ?_ (State.safeOrder_acts ..) rfl
    exact .refl _

/-- Changes dev, ord, regs. -/
theorem State.resetOrder_acts : ∀ x0 x1, Acts 34359738464 x0 (State.resetOrder x0 x1) := by
  intro x0 x1
  unfold State.resetOrder
  refine State.evalOrder_acts ?_ ?_ rfl
  · exact .refl _
  · intro _
    refine .ite (fun _ => ?_) fun _ => ?_
    · refine .step ?_ (State.atPour_acts ..) rfl
      exact .refl _
    · exact .refl _

/-- Changes dev, ord, regs. -/
theorem execReset_acts : ∀ x0 x1, ∃ t, execReset x0 x1 = .next t ∧ Acts 34359738464 x1 t := by
  intro x0 x1
  unfold execReset
  refine ⟨_, rfl, ?_⟩
  refine State.takeOrder_acts ?_ ?_ rfl
  · exact .refl _
  · refine .step ?_ (State.resetOrder_acts ..) rfl
    exact .refl _

/-- Changes ord, alarms, rcd, regs. -/
theorem State.alarmAckOrder_acts : ∀ x0 x1, Acts 34359738816 x0 (State.alarmAckOrder x0 x1) := by
  intro x0 x1
  unfold State.alarmAckOrder
  refine State.evalOrder_acts ?_ ?_ rfl
  · exact .refl _
  · intro _
    refine .ite (fun _ => ?_) fun _ => ?_
    · refine .foldl ?_ ?_
      · refine .upd_ord ?_ rfl
        exact .refl _
      · intro _ _
        refine .step ?_ (State.ackAlarm_acts ..) rfl
        exact .refl _
    · refine .step ?_ (State.ackAlarm_acts ..) rfl
      refine .upd_ord ?_ rfl
      exact .refl _

/-- Changes ord, alarms, rcd, regs. -/
theorem execAlarmAck_acts : ∀ x0 x1, ∃ t, execAlarmAck x0 x1 = .next t ∧ Acts 34359738816 x1 t := by
  intro x0 x1
  unfold execAlarmAck
  refine ⟨_, rfl, ?_⟩
  refine State.takeOrder_acts ?_ ?_ rfl
  · exact .refl _
  · refine .step ?_ (State.alarmAckOrder_acts ..) rfl
    exact .refl _

/-- Changes ord, saf, regs. -/
theorem State.testStartBrakeOrder_acts : ∀ x0 x1, Acts 34360787008 x0 (State.testStartBrakeOrder x0 x1) := by
  intro x0 x1
  unfold State.testStartBrakeOrder
  refine State.evalOrder_acts ?_ ?_ rfl
  · exact .refl _
  · intro _
    refine .upd_saf ?_ rfl (.inr rfl) (.inr rfl)
    exact .refl _

/-- Changes ord, saf, regs. -/
theorem execTestStartBrake_acts : ∀ x0 x1, ∃ t, execTestStartBrake x0 x1 = .next t ∧ Acts 34360787008 x1 t := by
  intro x0 x1
  unfold execTestStartBrake
  refine ⟨_, rfl, ?_⟩
  refine State.takeOrder_acts ?_ ?_ rfl
  · exact .refl _
  · refine .step ?_ (State.testStartBrakeOrder_acts ..) rfl
    exact .refl _

/-- Changes agr, twn, out. -/
theorem State.ownItem_acts : ∀ x0 x1 x2 x3 x4 x5, Acts 549756600320 x0 (State.ownItem x0 x1 x2 x3 x4 x5) := by
  intro x0 x1 x2 x3 x4 x5
  unfold State.ownItem
  refine .ite (fun _ => ?_) fun _ => ?_
  · refine .foldl ?_ ?_
    · refine .upd_agr ?_ rfl
      exact .refl _
    · intro _ _
      refine .step ?_ (State.twinSend_acts ..) rfl
      exact .refl _
  · refine .upd_agr ?_ rfl
    exact .refl _

/-- Changes ord. -/
theorem State.unknownOrder_acts : ∀ x0 x1 x2, Acts 64 x0 (State.unknownOrder x0 x1 x2) := by
  intro x0 x1 x2
  unfold State.unknownOrder
  refine .step ?_ (State.respond_acts ..) rfl
  exact .refl _

/-- Changes ord, agr, twn, out. -/
theorem State.orderArrives_acts : ∀ x0 x1 x2, Acts 549756600384 x0 (State.orderArrives x0 x1 x2) := by
  intro x0 x1 x2
  unfold State.orderArrives
  refine .ite (fun _ => ?_) fun _ => ?_
  · refine .step ?_ (State.ownItem_acts ..) rfl
    exact .refl _
  · refine State.takeOrder_acts ?_ ?_ rfl
    · refine .step ?_ (State.ownItem_acts ..) rfl
      exact .refl _
    · refine .step ?_ (State.unknownOrder_acts ..) rfl
      refine .step ?_ (State.ownItem_acts ..) rfl
      exact .refl _

/-- Changes ord, agr, twn, out. -/
theorem execOrderArrival_acts : ∀ x0 x1 x2 x3 x4 x5, ∃ t, execOrderArrival x0 x1 x2 x3 x4 x5 = .next t ∧ Acts 549756600384 x5 t := by
  intro x0 x1 x2 x3 x4 x5
  unfold execOrderArrival
  refine ⟨_, rfl, ?_⟩
  refine .ite (fun _ => ?_) fun _ => ?_
  · exact .refl _
  · refine .step ?_ (State.orderArrives_acts ..) rfl
    exact .refl _

/-- Changes ord, agr, twn, regs, out. -/
theorem State.submitBox_acts : ∀ x0 x1, Acts 584116338752 x0 (State.submitBox x0 x1) := by
  intro x0 x1
  unfold State.submitBox
  refine .ite (fun _ => ?_) fun _ => ?_
  · exact .refl _
  · refine .ite (fun _ => ?_) fun _ => ?_
    · refine .step ?_ (State.setFlag_acts ..) rfl
      exact .refl _
    · refine .step ?_ (State.orderArrives_acts ..) rfl
      refine .step ?_ (State.setFlag_acts ..) rfl
      exact .refl _

/-- Changes ord, alarms, rcd, acl, agr, twn, regs, out. -/
theorem execOrderMailboxSubmit_acts : ∀ x0 x1 x2, ∃ t, execOrderMailboxSubmit x0 x1 x2 = .next t ∧ Acts 584116371904 x2 t := by
  intro x0 x1 x2
  unfold execOrderMailboxSubmit
  refine ⟨_, rfl, ?_⟩
  refine State.commandWrite_acts ?_ ?_ rfl
  · exact .refl _
  · intro _
    refine .step ?_ (State.submitBox_acts ..) rfl
    exact .refl _

/-- Changes ord, alarms, rcd, net, can, regs, out. -/
theorem State.sendResponse_acts : ∀ x0 x1, Acts 587336778176 x0 (State.sendResponse x0 x1) := by
  intro x0 x1
  unfold State.sendResponse
  try dsimp only
  split
  · refine .step ?_ (State.boxAnswer_acts ..) rfl
    refine .ite (fun _ => ?_) fun _ => ?_
    · refine .upd_ord ?_ rfl
      exact .refl _
    · exact .refl _
  · refine .ite (fun _ => ?_) fun _ => ?_
    · refine .step ?_ (State.udpSend_acts ..) rfl
      refine .ite (fun _ => ?_) fun _ => ?_
      · refine .upd_ord ?_ rfl
        exact .refl _
      · exact .refl _
    · refine .step ?_ (State.canSend_acts ..) rfl
      refine .ite (fun _ => ?_) fun _ => ?_
      · refine .upd_ord ?_ rfl
        exact .refl _
      · exact .refl _

/-- Changes ord, alarms, rcd, net, can, regs, out. -/
theorem State.sendResponses_acts : ∀ x0, Acts 587336778176 x0 (State.sendResponses x0) := by
  intro x0
  unfold State.sendResponses
  refine .upd_ord ?_ rfl
  refine .foldl ?_ ?_
  · exact .refl _
  · intro _ _
    refine .step ?_ (State.sendResponse_acts ..) rfl
    exact .refl _

/-- Changes ord. -/
theorem State.answerUnknown_acts : ∀ x0, Acts 64 x0 (State.answerUnknown x0) := by
  intro x0
  unfold State.answerUnknown
  refine .foldl ?_ ?_
  · exact .refl _
  · intro _ _
    refine .step ?_ (State.unknownOrder_acts ..) rfl
    exact .refl _

end Sys2Proof.Machine
end

