-- ==== Sys2Proof/Laws/ActsNav.lean ====
section
/-! SUPPORT. What the operations of the GNSS baseband, the sensor slots, navigation and sensor fusion may change: one lemma each. -/
namespace Sys2Proof.Machine

/-! Gnss.lean -/

/-- Changes tim, gns, elapsed, working. -/
theorem State.nextMeasure_acts : ∀ x0 x1, Acts 6755399449509888 x0 (State.nextMeasure x0 x1) := by
  intro x0 x1
  unfold State.nextMeasure
  refine .upd_gns ?_ rfl rfl
  split
  · refine .step ?_ (State.reachEl_acts ..) rfl
    exact .refl _
  · exact .refl _

/-- Changes alarms, rcd, tim, gns, regs, elapsed, working. -/
theorem execAntennaMeasure_acts : ∀ x0 x1 x2, ∃ t, execAntennaMeasure x0 x1 x2 = .next t ∧ Acts 6755433809248640 x2 t := by
  intro x0 x1 x2
  unfold execAntennaMeasure
  refine ⟨_, rfl, ?_⟩
  refine .ite (fun _ => ?_) fun _ => ?_
  · exact .refl _
  · refine .ite (fun _ => ?_) fun _ => ?_
    · refine .ite (fun _ => ?_) fun _ => ?_
      · refine .step ?_ (State.setFld_acts ..) rfl
        refine .upd_gns ?_ rfl rfl
        refine .step ?_ (State.setFld_acts ..) rfl
        refine .upd_gns ?_ rfl rfl
        refine .step ?_ (State.nextMeasure_acts ..) rfl
        exact .refl _
      · refine .ite (fun _ => ?_) fun _ => ?_
        · refine .step ?_ (State.raise_acts ..) rfl
          refine .step ?_ (State.event_acts ..) rfl
          refine .step ?_ (State.setFld_acts ..) rfl
          refine .step ?_ (State.setFld_acts ..) rfl
          refine .upd_gns ?_ rfl rfl
          refine .upd_gns ?_ rfl rfl
          refine .step ?_ (State.setFld_acts ..) rfl
          refine .upd_gns ?_ rfl rfl
          refine .step ?_ (State.nextMeasure_acts ..) rfl
          exact .refl _
        · refine .step ?_ (State.setFld_acts ..) rfl
          refine .upd_gns ?_ rfl rfl
          refine .step ?_ (State.setFld_acts ..) rfl
          refine .upd_gns ?_ rfl rfl
          refine .step ?_ (State.nextMeasure_acts ..) rfl
          exact .refl _
    · refine .ite (fun _ => ?_) fun _ => ?_
      · refine .ite (fun _ => ?_) fun _ => ?_
        · refine .upd_gns ?_ rfl rfl
          refine .step ?_ (State.setFld_acts ..) rfl
          refine .upd_gns ?_ rfl rfl
          refine .step ?_ (State.nextMeasure_acts ..) rfl
          exact .refl _
        · refine .step ?_ (State.raise_acts ..) rfl
          refine .step ?_ (State.event_acts ..) rfl
          refine .step ?_ (State.setFld_acts ..) rfl
          refine .upd_gns ?_ rfl rfl
          refine .step ?_ (State.setFld_acts ..) rfl
          refine .upd_gns ?_ rfl rfl
          refine .step ?_ (State.nextMeasure_acts ..) rfl
          exact .refl _
      · refine .step ?_ (State.setFld_acts ..) rfl
        refine .upd_gns ?_ rfl rfl
        refine .step ?_ (State.setFld_acts ..) rfl
        refine .upd_gns ?_ rfl rfl
        refine .step ?_ (State.nextMeasure_acts ..) rfl
        exact .refl _

/-- Changes tim, gns, elapsed, working. -/
theorem execAntennaRetry_acts : ∀ x0 x1, ∃ t, execAntennaRetry x0 x1 = .next t ∧ Acts 6755399449509888 x1 t := by
  intro x0 x1
  unfold execAntennaRetry
  refine ⟨_, rfl, ?_⟩
  refine .ite (fun _ => ?_) fun _ => ?_
  · refine .upd_gns ?_ rfl rfl
    refine .step ?_ (State.reachEl_acts ..) rfl
    exact .refl _
  · exact .refl _

/-- Changes gns. -/
theorem execAcquisitionSearchRuns_acts : ∀ x0 x1 x2 x3 x4 x5 x6 x7 x8, ∃ t, execAcquisitionSearchRuns x0 x1 x2 x3 x4 x5 x6 x7 x8 = .next t ∧ Acts 8388608 x8 t := by
  intro x0 x1 x2 x3 x4 x5 x6 x7 x8
  unfold execAcquisitionSearchRuns
  refine ⟨_, rfl, ?_⟩
  refine .ite (fun _ => ?_) fun _ => ?_
  · exact .refl _
  · refine .upd_gns ?_ rfl rfl
    exact .refl _

/-- Changes gns, regs. -/
theorem State.setGchan_acts : ∀ x0 x1 x2, Acts 34368126976 x0 (State.setGchan x0 x1 x2) := by
  intro x0 x1 x2
  unfold State.setGchan
  refine .step ?_ (State.setFld_acts ..) rfl
  refine .upd_gns ?_ rfl rfl
  exact .refl _

/-- Changes gns. -/
theorem execAcquisitionConfirm_acts : ∀ x0 x1 x2 x3, ∃ t, execAcquisitionConfirm x0 x1 x2 x3 = .next t ∧ Acts 8388608 x3 t := by
  intro x0 x1 x2 x3
  unfold execAcquisitionConfirm
  refine ⟨_, rfl, ?_⟩
  split
  · exact .refl _
  · refine .ite (fun _ => ?_) fun _ => ?_
    · refine .upd_gns ?_ rfl rfl
      refine .upd_gns ?_ rfl rfl
      exact .refl _
    · refine .upd_gns ?_ rfl rfl
      exact .refl _

/-- Changes gns, regs. -/
theorem execPullInLock_acts : ∀ x0 x1, ∃ t, execPullInLock x0 x1 = .next t ∧ Acts 34368126976 x1 t := by
  intro x0 x1
  unfold execPullInLock
  refine ⟨_, rfl, ?_⟩
  refine .ite (fun _ => ?_) fun _ => ?_
  · refine .step ?_ (State.setGchan_acts ..) rfl
    exact .refl _
  · exact .refl _

/-- Changes tim, gns, regs, elapsed, working. -/
theorem execPhaseLockHeld_acts : ∀ x0 x1, ∃ t, execPhaseLockHeld x0 x1 = .next t ∧ Acts 6755433809248256 x1 t := by
  intro x0 x1
  unfold execPhaseLockHeld
  refine ⟨_, rfl, ?_⟩
  refine .ite (fun _ => ?_) fun _ => ?_
  · refine .step ?_ (State.setGchan_acts ..) rfl
    refine .step ?_ (State.reachEl_acts ..) rfl
    exact .refl _
  · exact .refl _

/-- Changes gns, regs. -/
theorem execHalfCycleResolved_acts : ∀ x0 x1, ∃ t, execHalfCycleResolved x0 x1 = .next t ∧ Acts 34368126976 x1 t := by
  intro x0 x1
  unfold execHalfCycleResolved
  refine ⟨_, rfl, ?_⟩
  refine .ite (fun _ => ?_) fun _ => ?_
  · refine .step ?_ (State.setGchan_acts ..) rfl
    exact .refl _
  · exact .refl _

/-- Changes gns, regs. -/
theorem execTransmitTimeResolved_acts : ∀ x0 x1, ∃ t, execTransmitTimeResolved x0 x1 = .next t ∧ Acts 34368126976 x1 t := by
  intro x0 x1
  unfold execTransmitTimeResolved
  refine ⟨_, rfl, ?_⟩
  refine .ite (fun _ => ?_) fun _ => ?_
  · refine .step ?_ (State.setGchan_acts ..) rfl
    exact .refl _
  · exact .refl _

/-- Changes gns, regs. -/
theorem execLockLoss_acts : ∀ x0 x1, ∃ t, execLockLoss x0 x1 = .next t ∧ Acts 34368126976 x1 t := by
  intro x0 x1
  unfold execLockLoss
  refine ⟨_, rfl, ?_⟩
  refine .ite (fun _ => ?_) fun _ => ?_
  · refine .step ?_ (State.setGchan_acts ..) rfl
    exact .refl _
  · exact .refl _

/-- Changes gns, regs. -/
theorem execCycleSlip_acts : ∀ x0 x1, ∃ t, execCycleSlip x0 x1 = .next t ∧ Acts 34368126976 x1 t := by
  intro x0 x1
  unfold execCycleSlip
  refine ⟨_, rfl, ?_⟩
  refine .ite (fun _ => ?_) fun _ => ?_
  · refine .step ?_ (State.setGchan_acts ..) rfl
    exact .refl _
  · exact .refl _

/-- Changes regs. -/
theorem State.showChan_acts : ∀ x0 x1 x2 x3, Acts 34359738368 x0 (State.showChan x0 x1 x2 x3) := by
  intro x0 x1 x2 x3
  unfold State.showChan
  refine .ite (fun _ => ?_) fun _ => ?_
  · refine .step ?_ (State.setReg_acts ..) rfl
    refine .step ?_ (State.setReg_acts ..) rfl
    refine .ite (fun _ => ?_) fun _ => ?_
    · refine .step ?_ (State.setReg_acts ..) rfl
      refine .step ?_ (State.setReg_acts ..) rfl
      exact .refl _
    · refine .step ?_ (State.setReg_acts ..) rfl
      exact .refl _
  · refine .ite (fun _ => ?_) fun _ => ?_
    · refine .step ?_ (State.setReg_acts ..) rfl
      refine .step ?_ (State.setReg_acts ..) rfl
      exact .refl _
    · refine .step ?_ (State.setReg_acts ..) rfl
      exact .refl _

/-- Changes gns, regs. -/
theorem State.releaseLow_acts : ∀ x0 x1, Acts 34368126976 x0 (State.releaseLow x0 x1) := by
  intro x0 x1
  unfold State.releaseLow
  refine .each ?_ ?_
  · exact .refl _
  · intro _ _
    refine .ite (fun _ => ?_) fun _ => ?_
    · refine .step ?_ (State.setGchan_acts ..) rfl
      exact .refl _
    · exact .refl _

/-- Changes gns, regs. -/
theorem State.releaseLost_acts : ∀ x0, Acts 34368126976 x0 (State.releaseLost x0) := by
  intro x0
  unfold State.releaseLost
  refine .each ?_ ?_
  · exact .refl _
  · intro _ _
    refine .upd_gns ?_ rfl rfl
    refine .step ?_ (State.setGchan_acts ..) rfl
    exact .refl _

/-- Changes gns, regs. -/
theorem State.moveTriple_acts : ∀ x0 x1, Acts 34368126976 x0 (State.moveTriple x0 x1) := by
  intro x0 x1
  unfold State.moveTriple
  split
  · refine .upd_gns ?_ rfl rfl
    refine .step ?_ (State.setGchan_acts ..) rfl
    exact .refl _
  · exact .refl _

/-- Changes gns, regs. -/
theorem State.setBudget_acts : ∀ x0, Acts 34368126976 x0 (State.setBudget x0) := by
  intro x0
  unfold State.setBudget
  refine .ite (fun _ => ?_) fun _ => ?_
  · exact .refl _
  · refine .each ?_ ?_
    · refine .step ?_ (State.setFlag_acts ..) rfl
      refine .ite (fun _ => ?_) fun _ => ?_
      · refine .each ?_ ?_
        · exact .refl _
        · intro _ _
          refine .step ?_ (State.moveTriple_acts ..) rfl
          exact .refl _
      · exact .refl _
    · intro _ _
      refine .step ?_ (State.setGchan_acts ..) rfl
      exact .refl _

/-- Changes gns, regs. -/
theorem State.assign_acts : ∀ x0 x1, Acts 34368126976 x0 (State.assign x0 x1) := by
  intro x0 x1
  unfold State.assign
  split
  · refine .step ?_ (State.setGchan_acts ..) rfl
    exact .refl _
  · refine .upd_gns ?_ rfl rfl
    exact .refl _

/-- Changes gns, regs. -/
theorem State.takeHanded_acts : ∀ x0, Acts 34368126976 x0 (State.takeHanded x0) := by
  intro x0
  unfold State.takeHanded
  refine .foldl ?_ ?_
  · refine .upd_gns ?_ rfl rfl
    exact .refl _
  · intro _ _
    refine .step ?_ (State.assign_acts ..) rfl
    exact .refl _

/-- Changes gns, regs. -/
theorem State.holdShadow_acts : ∀ x0 x1 x2, Acts 34368126976 x0 (State.holdShadow x0 x1 x2) := by
  intro x0 x1 x2
  unfold State.holdShadow
  refine .step ?_ (State.setGchan_acts ..) rfl
  exact .refl _

/-- Changes hlt, gns, regs. -/
theorem State.shadowCluster_acts : ∀ x0 x1, Acts 34370224128 x0 (State.shadowCluster x0 x1) := by
  intro x0 x1
  unfold State.shadowCluster
  split
  · exact .refl _
  · refine .ite (fun _ => ?_) fun _ => ?_
    · exact .refl _
    · refine .ite (fun _ => ?_) fun _ => ?_
      · refine .each ?_ ?_
        · refine .step ?_ (State.holdShadow_acts ..) rfl
          exact .refl _
        · intro _ _
          refine .step ?_ (State.holdShadow_acts ..) rfl
          exact .refl _
      · refine .step ?_ (State.holdShadow_acts ..) rfl
        exact .refl _
  · split
    · exact .refl _
    · refine .step ?_ (State.holdShadow_acts ..) rfl
      refine .upd_hlt ?_ rfl
      exact .refl _

/-- Changes gns, regs. -/
theorem State.gnsPowerUp_acts : ∀ x0, Acts 34368126976 x0 (State.gnsPowerUp x0) := by
  intro x0
  unfold State.gnsPowerUp
  refine .ite (fun _ => ?_) fun _ => ?_
  · exact .refl _
  · refine .each ?_ ?_
    · refine .upd_gns ?_ rfl rfl
      refine .step ?_ (State.setFlag_acts ..) rfl
      refine .step ?_ (State.setFlag_acts ..) rfl
      exact .refl _
    · intro _ _
      refine .step ?_ (State.setGchan_acts ..) rfl
      exact .refl _

/-- Changes hlt, gns, regs. -/
theorem State.gnsPowerDown_acts : ∀ x0, Acts 34370224128 x0 (State.gnsPowerDown x0) := by
  intro x0
  unfold State.gnsPowerDown
  refine .each ?_ ?_
  · refine .step ?_ (State.setFlag_acts ..) rfl
    refine .each ?_ ?_
    · refine .upd_hlt ?_ rfl
      refine .upd_gns ?_ rfl rfl
      refine .step ?_ (State.setFlag_acts ..) rfl
      exact .refl _
    · intro _ _
      refine .step ?_ (State.setGchan_acts ..) rfl
      exact .refl _
  · intro _ _
    refine .each ?_ ?_
    · refine .step ?_ (State.setFld_acts ..) rfl
      exact .refl _
    · intro _ _
      refine .step ?_ (State.setReg_acts ..) rfl
      exact .refl _

/-- Changes hlt, gns, regs. -/
theorem State.assignFreeze_acts : ∀ x0 x1 x2, Acts 34370224128 x0 (State.assignFreeze x0 x1 x2) := by
  intro x0 x1 x2
  unfold State.assignFreeze
  refine .each ?_ ?_
  · refine .step ?_ (State.takeHanded_acts ..) rfl
    refine .ite (fun _ => ?_) fun _ => ?_
    · refine .step ?_ (State.setBudget_acts ..) rfl
      refine .step ?_ (State.releaseLost_acts ..) rfl
      refine .step ?_ (State.releaseLow_acts ..) rfl
      exact .refl _
    · refine .step ?_ (State.releaseLost_acts ..) rfl
      exact .refl _
  · intro _ _
    refine .step ?_ (State.shadowCluster_acts ..) rfl
    exact .refl _

/-- Changes hlt, gns, regs. -/
theorem State.gnssFreeze_acts : ∀ x0 x1, Acts 34370224128 x0 (State.gnssFreeze x0 x1) := by
  intro x0 x1
  unfold State.gnssFreeze
  refine .ite (fun _ => ?_) fun _ => ?_
  · refine .upd_gns ?_ rfl rfl
    exact .refl _
  · refine .ite (fun _ => ?_) fun _ => ?_
    · refine .step ?_ (State.assignFreeze_acts ..) rfl
      refine .ite (fun _ => ?_) fun _ => ?_
      · refine .each ?_ ?_
        · refine .each ?_ ?_
          · refine .upd_gns ?_ rfl rfl
            exact .refl _
          · intro _ _
            refine .step ?_ (State.showChan_acts ..) rfl
            exact .refl _
        · intro _ _
          refine .step ?_ (State.setGchan_acts ..) rfl
          exact .refl _
      · refine .each ?_ ?_
        · refine .upd_gns ?_ rfl rfl
          exact .refl _
        · intro _ _
          refine .step ?_ (State.showChan_acts ..) rfl
          exact .refl _
    · refine .each ?_ ?_
      · refine .upd_gns ?_ rfl rfl
        exact .refl _
      · intro _ _
        refine .step ?_ (State.showChan_acts ..) rfl
        exact .refl _

/-- Changes tim, agr, twn, gns, out, elapsed, working. -/
theorem execMeasurementBlockWrite_acts : ∀ x0 x1, ∃ t, execMeasurementBlockWrite x0 x1 = .next t ∧ Acts 6755949206110208 x1 t := by
  intro x0 x1
  unfold execMeasurementBlockWrite
  refine ⟨_, rfl, ?_⟩
  refine .ite (fun _ => ?_) fun _ => ?_
  · exact .refl _
  · refine .step ?_ (State.ownItem_acts ..) rfl
    refine .upd_gns ?_ rfl rfl
    refine .step ?_ (State.reach_acts ..) rfl
    exact .refl _

/-- Changes regs. -/
theorem State.showNotch_acts : ∀ x0 x1 x2, Acts 34359738368 x0 (State.showNotch x0 x1 x2) := by
  intro x0 x1 x2
  unfold State.showNotch
  split
  · refine .step ?_ (State.setFlag_acts ..) rfl
    refine .step ?_ (State.setFlag_acts ..) rfl
    refine .step ?_ (State.setFld_acts ..) rfl
    refine .step ?_ (State.setInt_acts ..) rfl
    exact .refl _
  · refine .step ?_ (State.setFlag_acts ..) rfl
    refine .step ?_ (State.setReg_acts ..) rfl
    exact .refl _

/-- Changes alarms, rcd, gns, regs. -/
theorem State.engageNotch_acts : ∀ x0 x1 x2 x3, Acts 34368127360 x0 (State.engageNotch x0 x1 x2 x3) := by
  intro x0 x1 x2 x3
  unfold State.engageNotch
  refine .step ?_ (State.raise_acts ..) rfl
  refine .step ?_ (State.event_acts ..) rfl
  refine .step ?_ (State.showNotch_acts ..) rfl
  refine .upd_gns ?_ rfl rfl
  exact .refl _

/-- Changes gns, regs. -/
theorem State.followLine_acts : ∀ x0 x1 x2 x3, Acts 34368126976 x0 (State.followLine x0 x1 x2 x3) := by
  intro x0 x1 x2 x3
  unfold State.followLine
  split
  · exact .refl _
  · split
    · exact .refl _
    · refine .step ?_ (State.showNotch_acts ..) rfl
      refine .upd_gns ?_ rfl rfl
      exact .refl _

/-- Changes alarms, rcd, gns, regs. -/
theorem State.qualifyLine_acts : ∀ x0 x1 x2, Acts 34368127360 x0 (State.qualifyLine x0 x1 x2) := by
  intro x0 x1 x2
  unfold State.qualifyLine
  refine .ite (fun _ => ?_) fun _ => ?_
  · exact .refl _
  · split
    · refine .step ?_ (State.engageNotch_acts ..) rfl
      exact .refl _
    · refine .ite (fun _ => ?_) fun _ => ?_
      · refine .step ?_ (State.engageNotch_acts ..) rfl
        exact .refl _
      · exact .refl _

/-- Changes tim, gns, elapsed, working. -/
theorem State.nextAverage_acts : ∀ x0 x1, Acts 6755399449509888 x0 (State.nextAverage x0 x1) := by
  intro x0 x1
  unfold State.nextAverage
  refine .upd_gns ?_ rfl rfl
  split
  · refine .step ?_ (State.reachEl_acts ..) rfl
    exact .refl _
  · exact .refl _

/-- Changes alarms, rcd, tim, gns, regs, elapsed, working. -/
theorem execSpectrumAverage_acts : ∀ x0 x1 x2 x3 x4, ∃ t, execSpectrumAverage x0 x1 x2 x3 x4 = .next t ∧ Acts 6755433809248640 x4 t := by
  intro x0 x1 x2 x3 x4
  unfold execSpectrumAverage
  refine ⟨_, rfl, ?_⟩
  refine .ite (fun _ => ?_) fun _ => ?_
  · exact .refl _
  · refine .ite (fun _ => ?_) fun _ => ?_
    · refine .step ?_ (State.raise_acts ..) rfl
      refine .step ?_ (State.event_acts ..) rfl
      refine .step ?_ (State.setFlag_acts ..) rfl
      refine .step ?_ (State.setFld_acts ..) rfl
      refine .step ?_ (State.setFld_acts ..) rfl
      refine .ite (fun _ => ?_) fun _ => ?_
      · refine .upd_gns ?_ rfl rfl
        refine .upd_gns ?_ rfl rfl
        refine .foldl ?_ ?_
        · refine .each ?_ ?_
          · refine .step ?_ (State.nextAverage_acts ..) rfl
            exact .refl _
          · intro _ _
            refine .step ?_ (State.followLine_acts ..) rfl
            exact .refl _
        · intro _ _
          refine .step ?_ (State.qualifyLine_acts ..) rfl
          exact .refl _
      · refine .upd_gns ?_ rfl rfl
        refine .foldl ?_ ?_
        · refine .each ?_ ?_
          · refine .step ?_ (State.nextAverage_acts ..) rfl
            exact .refl _
          · intro _ _
            refine .step ?_ (State.followLine_acts ..) rfl
            exact .refl _
        · intro _ _
          refine .step ?_ (State.qualifyLine_acts ..) rfl
          exact .refl _
    · refine .step ?_ (State.setFld_acts ..) rfl
      refine .step ?_ (State.setFld_acts ..) rfl
      refine .ite (fun _ => ?_) fun _ => ?_
      · refine .upd_gns ?_ rfl rfl
        refine .upd_gns ?_ rfl rfl
        refine .foldl ?_ ?_
        · refine .each ?_ ?_
          · refine .step ?_ (State.nextAverage_acts ..) rfl
            exact .refl _
          · intro _ _
            refine .step ?_ (State.followLine_acts ..) rfl
            exact .refl _
        · intro _ _
          refine .step ?_ (State.qualifyLine_acts ..) rfl
          exact .refl _
      · refine .upd_gns ?_ rfl rfl
        refine .foldl ?_ ?_
        · refine .each ?_ ?_
          · refine .step ?_ (State.nextAverage_acts ..) rfl
            exact .refl _
          · intro _ _
            refine .step ?_ (State.followLine_acts ..) rfl
            exact .refl _
        · intro _ _
          refine .step ?_ (State.qualifyLine_acts ..) rfl
          exact .refl _

/-- Changes tim, gns, regs, elapsed, working. -/
theorem execNotchRelease_acts : ∀ x0 x1 x2, ∃ t, execNotchRelease x0 x1 x2 = .next t ∧ Acts 6755433809248256 x2 t := by
  intro x0 x1 x2
  unfold execNotchRelease
  refine ⟨_, rfl, ?_⟩
  split
  · refine .ite (fun _ => ?_) fun _ => ?_
    · refine .step ?_ (State.showNotch_acts ..) rfl
      refine .upd_gns ?_ rfl rfl
      refine .step ?_ (State.reachEl_acts ..) rfl
      exact .refl _
    · exact .refl _
  · exact .refl _

/-- Changes tim, gns, elapsed, working. -/
theorem execNoiseFloorLearned_acts : ∀ x0 x1, ∃ t, execNoiseFloorLearned x0 x1 = .next t ∧ Acts 6755399449509888 x1 t := by
  intro x0 x1
  unfold execNoiseFloorLearned
  refine ⟨_, rfl, ?_⟩
  refine .ite (fun _ => ?_) fun _ => ?_
  · refine .upd_gns ?_ rfl rfl
    refine .step ?_ (State.reachEl_acts ..) rfl
    exact .refl _
  · exact .refl _

/-- Changes alarms, rcd, tim, regs, elapsed, working. -/
theorem execJamClear_acts : ∀ x0, ∃ t, execJamClear x0 = .next t ∧ Acts 6755433800860032 x0 t := by
  intro x0
  unfold execJamClear
  refine ⟨_, rfl, ?_⟩
  refine .ite (fun _ => ?_) fun _ => ?_
  · refine .step ?_ (State.causeGone_acts ..) rfl
    refine .step ?_ (State.setFlag_acts ..) rfl
    refine .step ?_ (State.reachEl_acts ..) rfl
    exact .refl _
  · exact .refl _

/-- Changes regs. -/
theorem State.countSuspects_acts : ∀ x0, Acts 34359738368 x0 (State.countSuspects x0) := by
  intro x0
  unfold State.countSuspects
  refine .step ?_ (State.setFld_acts ..) rfl
  exact .refl _

/-- Changes gns, regs. -/
theorem State.clearSuspect_acts : ∀ x0 x1, Acts 34368126976 x0 (State.clearSuspect x0 x1) := by
  intro x0 x1
  unfold State.clearSuspect
  refine .step ?_ (State.countSuspects_acts ..) rfl
  refine .step ?_ (State.setGchan_acts ..) rfl
  exact .refl _

/-- Changes tim, gns, regs, elapsed, working. -/
theorem execSuspectClear_acts : ∀ x0 x1, ∃ t, execSuspectClear x0 x1 = .next t ∧ Acts 6755433809248256 x1 t := by
  intro x0 x1
  unfold execSuspectClear
  refine ⟨_, rfl, ?_⟩
  refine .ite (fun _ => ?_) fun _ => ?_
  · refine .ite (fun _ => ?_) fun _ => ?_
    · refine .step ?_ (State.reach_acts ..) rfl
      exact .refl _
    · refine .step ?_ (State.clearSuspect_acts ..) rfl
      refine .step ?_ (State.reach_acts ..) rfl
      exact .refl _
  · exact .refl _

/-- Changes alarms, rcd, gns, regs. -/
theorem State.clearSuspicion_acts : ∀ x0 x1, Acts 34368127360 x0 (State.clearSuspicion x0 x1) := by
  intro x0 x1
  unfold State.clearSuspicion
  refine .ite (fun _ => ?_) fun _ => ?_
  · refine .step ?_ (State.causeGone_acts ..) rfl
    refine .step ?_ (State.record_acts ..) rfl
    refine .step ?_ (State.setFlag_acts ..) rfl
    refine .upd_gns ?_ rfl rfl
    exact .refl _
  · refine .step ?_ (State.record_acts ..) rfl
    refine .step ?_ (State.setFlag_acts ..) rfl
    refine .upd_gns ?_ rfl rfl
    exact .refl _

/-- Changes alarms, rcd, tim, gns, regs, elapsed, working. -/
theorem execSuspicionClear_acts : ∀ x0 x1, ∃ t, execSuspicionClear x0 x1 = .next t ∧ Acts 6755433809248640 x1 t := by
  intro x0 x1
  unfold execSuspicionClear
  refine ⟨_, rfl, ?_⟩
  refine .ite (fun _ => ?_) fun _ => ?_
  · refine .ite (fun _ => ?_) fun _ => ?_
    · refine .step ?_ (State.reach_acts ..) rfl
      exact .refl _
    · refine .step ?_ (State.clearSuspicion_acts ..) rfl
      refine .step ?_ (State.reach_acts ..) rfl
      exact .refl _
  · exact .refl _

/-- Changes alarms, rcd, regs. -/
theorem State.snapMissed_acts : ∀ x0, Acts 34359738752 x0 (State.snapMissed x0) := by
  intro x0
  unfold State.snapMissed
  refine .step ?_ (State.raise_acts ..) rfl
  refine .step ?_ (State.event_acts ..) rfl
  refine .step ?_ (State.bump_acts ..) rfl
  exact .refl _

/-- Changes gns, regs. -/
theorem State.startCapture_acts : ∀ x0 x1 x2, Acts 34368126976 x0 (State.startCapture x0 x1 x2) := by
  intro x0 x1 x2
  unfold State.startCapture
  refine .step ?_ (State.setFlag_acts ..) rfl
  refine .upd_gns ?_ rfl rfl
  exact .refl _

/-- Changes alarms, rcd, gns, regs. -/
theorem State.snapTrigger_acts : ∀ x0 x1 x2, Acts 34368127360 x0 (State.snapTrigger x0 x1 x2) := by
  intro x0 x1 x2
  unfold State.snapTrigger
  refine .ite (fun _ => ?_) fun _ => ?_
  · refine .step ?_ (State.snapMissed_acts ..) rfl
    exact .refl _
  · refine .ite (fun _ => ?_) fun _ => ?_
    · exact .refl _
    · refine .step ?_ (State.startCapture_acts ..) rfl
      exact .refl _

/-- Changes gns, regs. -/
theorem State.snapRelease_acts (s : State) : Acts 34368126976 s s.snapRelease := by
  refine Acts.step (m := 34368126976) ?_ (State.setFlag_acts ..) rfl
  exact ⟨fun p hp => by cases p <;> first | rfl | exact absurd hp (by decide), fun k => k.of_canonical (let c := k.canonical; ⟨c.1, c.2.1, c.2.2.1, c.2.2.2.1, c.2.2.2.2.1, c.2.2.2.2.2.1,
    c.2.2.2.2.2.2.1, rfl, c.2.2.2.2.2.2.2.2⟩) rfl rfl rfl rfl rfl⟩

/-- Changes alarms, rcd, gns, regs. -/
theorem State.snapWrite_acts (s : State) (v : Word) : Acts 34368127360 s (s.snapWrite v) := by
  unfold State.snapWrite
  refine Acts.ite (fun _ => ?_) (fun _ => Acts.ite (fun _ => ?_) (fun _ => Acts.ite (fun _ => ?_) (fun _ => Acts.refl s)))
  · refine Acts.step ?_ (State.setFld_acts ..) rfl
    refine Acts.step ?_ (State.startCapture_acts ..) rfl
    exact ⟨fun p hp => by cases p <;> first | rfl | exact absurd hp (by decide), fun k => k.of_canonical (let c := k.canonical; ⟨c.1, c.2.1, c.2.2.1, c.2.2.2.1, c.2.2.2.2.1, c.2.2.2.2.2.1,
      c.2.2.2.2.2.2.1, rfl, c.2.2.2.2.2.2.2.2⟩) rfl rfl rfl rfl rfl⟩
  · have hk : Acts 34368127360 s (if s.gns.held.isSome then s.snapRelease else s) := Acts.ite (fun _ => s.snapRelease_acts.mono rfl) (fun _ => Acts.refl s)
    exact Acts.ite (fun _ => hk.step (State.snapTrigger_acts ..) rfl) (fun _ => hk)
  · exact (State.snapTrigger_acts ..).mono rfl

/-- Changes alarms, rcd, acl, twn, gns, regs, out. -/
theorem execSnapshotTrigger_acts : ∀ x0 x1, ∃ t, execSnapshotTrigger x0 x1 = .next t ∧ Acts 584124498304 x1 t := by
  intro x0 x1
  unfold execSnapshotTrigger
  refine ⟨_, rfl, ?_⟩
  refine State.commandWrite_acts ?_ ?_ rfl
  · exact .refl _
  · intro _
    refine .step ?_ (State.snapWrite_acts ..) rfl
    exact .refl _

/-- Changes alarms, rcd, acl, twn, gns, regs, out. -/
theorem execSnapshotRelease_acts : ∀ x0 x1, ∃ t, execSnapshotRelease x0 x1 = .next t ∧ Acts 584124498304 x1 t := by
  intro x0 x1
  unfold execSnapshotRelease
  refine ⟨_, rfl, ?_⟩
  refine State.commandWrite_acts ?_ ?_ rfl
  · exact .refl _
  · intro _
    refine .step ?_ (State.snapWrite_acts ..) rfl
    exact .refl _

/-- Changes alarms, rcd, tim, gns, regs, elapsed, working. -/
theorem execSnapshotHeld_acts (samples : List IqSample) (s : State) : ∃ t, execSnapshotHeld samples s = .next t ∧ Acts 6755433809248640 s t := by
  have hw : ∀ (n : Nat) (l : List IqSample) (m : Sparse 32), memWf zeroCell m = true → memWf zeroCell (l.foldl (packSample n) m) = true := by
    intro n l
    induction l with
    | nil => exact fun m h => h
    | cons e l ih =>
      refine fun m h => ih _ ?_
      unfold packSample
      split
      · exact memWf_memSet _ _ _ _ h
      · exact h
  unfold execSnapshotHeld
  refine ⟨_, rfl, ?_⟩
  split
  · exact Acts.refl s
  · extract_lets t src u v
    have ht : Acts 6755433809248640 s t := (State.reach_acts ..).mono rfl
    clear_value t
    have hu : Acts 6755433809248640 s u := Acts.step (n := 6755433809248640) ht ⟨fun p hp => by cases p <;> first | rfl | exact absurd hp (by decide),
      fun k => k.of_canonical (let c := k.canonical; ⟨c.1, c.2.1, c.2.2.1, c.2.2.2.1, c.2.2.2.2.1, c.2.2.2.2.2.1, c.2.2.2.2.2.2.1, hw _ _ _ rfl, c.2.2.2.2.2.2.2.2⟩) rfl rfl rfl rfl rfl⟩ rfl
    clear_value u
    have hv : Acts 6755433809248640 s v := Acts.ite (fun _ => hu) (fun _ => hu.step (State.setFld_acts ..) rfl)
    clear_value v
    exact (((hv.step (State.setFlag_acts ..) rfl).step (State.setFlag_acts ..) rfl).step (State.event_acts ..) rfl).step (State.raise_acts ..) rfl

/-- Changes alarms, rcd, tim, gns, regs, elapsed, working. -/
theorem execParkPositionCheck_acts : ∀ x0 x1 x2, ∃ t, execParkPositionCheck x0 x1 x2 = .next t ∧ Acts 6755433809248640 x2 t := by
  intro x0 x1 x2
  unfold execParkPositionCheck
  refine ⟨_, rfl, ?_⟩
  refine .ite (fun _ => ?_) fun _ => ?_
  · exact .refl _
  · refine .ite (fun _ => ?_) fun _ => ?_
    · refine .ite (fun _ => ?_) fun _ => ?_
      · refine .step ?_ (State.raise_acts ..) rfl
        refine .step ?_ (State.event_acts ..) rfl
        refine .upd_gns ?_ rfl rfl
        refine .upd_gns ?_ rfl rfl
        refine .step ?_ (State.reachEl_acts ..) rfl
        exact .refl _
      · refine .upd_gns ?_ rfl rfl
        refine .upd_gns ?_ rfl rfl
        refine .step ?_ (State.reachEl_acts ..) rfl
        exact .refl _
    · refine .ite (fun _ => ?_) fun _ => ?_
      · refine .step ?_ (State.raise_acts ..) rfl
        refine .step ?_ (State.event_acts ..) rfl
        refine .step ?_ (State.causeGone_acts ..) rfl
        refine .upd_gns ?_ rfl rfl
        refine .upd_gns ?_ rfl rfl
        refine .step ?_ (State.reachEl_acts ..) rfl
        exact .refl _
      · refine .step ?_ (State.causeGone_acts ..) rfl
        refine .step ?_ (State.causeGone_acts ..) rfl
        refine .upd_gns ?_ rfl rfl
        refine .upd_gns ?_ rfl rfl
        refine .step ?_ (State.reachEl_acts ..) rfl
        exact .refl _

/-- Changes tim, gns, regs, elapsed, working. -/
theorem execEphemerisRenewal_acts : ∀ x0, ∃ t, execEphemerisRenewal x0 = .next t ∧ Acts 6755433809248256 x0 t := by
  intro x0
  unfold execEphemerisRenewal
  refine ⟨_, rfl, ?_⟩
  refine .ite (fun _ => ?_) fun _ => ?_
  · exact .refl _
  · refine .each ?_ ?_
    · refine .step ?_ (State.setFlag_acts ..) rfl
      refine .step ?_ (State.setFlag_acts ..) rfl
      refine .upd_gns ?_ rfl rfl
      refine .step ?_ (State.reachEl_acts ..) rfl
      exact .refl _
    · intro _ _
      refine .step ?_ (State.setGchan_acts ..) rfl
      exact .refl _

/-- Changes gns. -/
theorem State.noteEphemerides_acts : ∀ x0 x1, Acts 8388608 x0 (State.noteEphemerides x0 x1) := by
  intro x0 x1
  unfold State.noteEphemerides
  refine .upd_gns ?_ rfl rfl
  exact .refl _

/-- Changes hlt, gns, regs. -/
theorem execEphemerisRenewalEnds_acts (sats : List Nat) (s : State) : ∃ t, execEphemerisRenewalEnds sats s = .next t ∧ Acts 34370224128 s t := by
  unfold execEphemerisRenewalEnds
  refine ⟨_, rfl, Acts.ite (fun _ => ?_) (fun _ => Acts.refl s)⟩
  have h1 : Acts 34370224128 s (s.noteEphemerides (sats.filter s.tracksSat)) := (State.noteEphemerides_acts s _).mono rfl
  dsimp only
  generalize s.noteEphemerides (sats.filter s.tracksSat) = t at h1 ⊢
  have h2 : Acts 34370224128 s { t with gns := { t.gns with renewing := false } } := h1.upd_gns rfl rfl
  generalize ({ t with gns := { t.gns with renewing := false } } : State) = u at h2 ⊢
  have h3 : Acts 34370224128 s u.gnsPowerDown := h2.step (State.gnsPowerDown_acts u) rfl
  generalize u.gnsPowerDown = v at h3 ⊢
  exact h3.upd_gns rfl rfl

/-- Changes alarms, rcd, mram, gns, regs. -/
theorem State.retireChannel_acts : ∀ x0 x1, Acts 34368127872 x0 (State.retireChannel x0 x1) := by
  intro x0 x1
  unfold State.retireChannel
  refine .ite (fun _ => ?_) fun _ => ?_
  · refine .step ?_ (State.raise_acts ..) rfl
    refine .step ?_ (State.raise_acts ..) rfl
    refine .step ?_ (State.event_acts ..) rfl
    refine .step ?_ (State.setGchan_acts ..) rfl
    refine .step ?_ (State.countRetired_acts ..) rfl
    refine .upd_mram ?_ rfl rfl rfl rfl (.inr rfl)
    exact .refl _
  · refine .step ?_ (State.raise_acts ..) rfl
    refine .step ?_ (State.event_acts ..) rfl
    refine .step ?_ (State.setGchan_acts ..) rfl
    refine .step ?_ (State.countRetired_acts ..) rfl
    refine .upd_mram ?_ rfl rfl rfl rfl (.inr rfl)
    exact .refl _

/-- Changes alarms, rcd, mram, gns, regs. -/
theorem State.spareContinues_acts : ∀ x0 x1 x2, Acts 34368127872 x0 (State.spareContinues x0 x1 x2) := by
  intro x0 x1 x2
  unfold State.spareContinues
  refine .step ?_ (State.retireChannel_acts ..) rfl
  refine .step ?_ (State.setGchan_acts ..) rfl
  exact .refl _

/-- Changes hlt, gns, regs. -/
theorem State.endShadow_acts : ∀ x0 x1, Acts 34370224128 x0 (State.endShadow x0 x1) := by
  intro x0 x1
  unfold State.endShadow
  refine .each ?_ ?_
  · refine .upd_hlt ?_ rfl
    exact .refl _
  · intro _ _
    refine .step ?_ (State.setGchan_acts ..) rfl
    exact .refl _

/-- Changes alarms, rcd, mram, gns, regs. -/
theorem State.shadowVerdict_acts : ∀ x0 x1 x2 x3 x4 x5, Acts 34368127872 x0 (State.shadowVerdict x0 x1 x2 x3 x4 x5) := by
  intro x0 x1 x2 x3 x4 x5
  unfold State.shadowVerdict
  split
  · refine .step ?_ (State.spareContinues_acts ..) rfl
    exact .refl _
  · refine .ite (fun _ => ?_) fun _ => ?_
    · exact .refl _
    · refine .ite (fun _ => ?_) fun _ => ?_
      · refine .step ?_ (State.retireChannel_acts ..) rfl
        exact .refl _
      · refine .ite (fun _ => ?_) fun _ => ?_
        · refine .step ?_ (State.retireChannel_acts ..) rfl
          exact .refl _
        · refine .step ?_ (State.spareContinues_acts ..) rfl
          exact .refl _

/-- Changes alarms, rcd, mram, tim, hlt, gns, regs, elapsed, working. -/
theorem execChannelShadowEnd_acts : ∀ x0 x1 x2 x3 x4, ∃ t, execChannelShadowEnd x0 x1 x2 x3 x4 = .next t ∧ Acts 6755433811346304 x4 t := by
  intro x0 x1 x2 x3 x4
  unfold execChannelShadowEnd
  refine ⟨_, rfl, ?_⟩
  split
  · refine .ite (fun _ => ?_) fun _ => ?_
    · refine .step ?_ (State.endShadow_acts ..) rfl
      refine .upd_hlt ?_ rfl
      refine .step ?_ (State.reachEl_acts ..) rfl
      exact .refl _
    · refine .ite (fun _ => ?_) fun _ => ?_
      · refine .step ?_ (State.endShadow_acts ..) rfl
        refine .step ?_ (State.shadowVerdict_acts ..) rfl
        refine .upd_hlt ?_ rfl
        refine .step ?_ (State.reachEl_acts ..) rfl
        exact .refl _
      · refine .ite (fun _ => ?_) fun _ => ?_
        · refine .step ?_ (State.endShadow_acts ..) rfl
          refine .upd_hlt ?_ rfl
          refine .step ?_ (State.reachEl_acts ..) rfl
          exact .refl _
        · refine .ite (fun _ => ?_) fun _ => ?_
          · refine .step ?_ (State.endShadow_acts ..) rfl
            refine .step ?_ (State.spareContinues_acts ..) rfl
            refine .upd_hlt ?_ rfl
            refine .upd_hlt ?_ rfl
            refine .step ?_ (State.reachEl_acts ..) rfl
            exact .refl _
          · refine .upd_hlt ?_ rfl
            refine .upd_hlt ?_ rfl
            refine .upd_hlt ?_ rfl
            refine .step ?_ (State.reachEl_acts ..) rfl
            exact .refl _
  · refine .step ?_ (State.endShadow_acts ..) rfl
    exact .refl _
  · exact .refl _

/-! Slots.lean -/

/-- Changes fus. -/
theorem State.setFslot_acts : ∀ x0 x1 x2, Acts 16777216 x0 (State.setFslot x0 x1 x2) := by
  intro x0 x1 x2
  unfold State.setFslot
  refine .upd_fus ?_ rfl
  exact .refl _

/-- Changes fus. -/
theorem State.setQuant_acts : ∀ x0 x1 x2, Acts 16777216 x0 (State.setQuant x0 x1 x2) := by
  intro x0 x1 x2
  unfold State.setQuant
  refine .upd_fus ?_ rfl
  exact .refl _

/-- Changes dev, alarms, rcd, fus, regs. -/
theorem State.slagSlot_acts : ∀ x0 x1 x2, Acts 34376516000 x0 (State.slagSlot x0 x1 x2) := by
  intro x0 x1 x2
  unfold State.slagSlot
  refine .ite (fun _ => ?_) fun _ => ?_
  · refine .step ?_ (State.setCond_acts ..) rfl
    refine .step ?_ (State.raise_acts ..) rfl
    refine .step ?_ (State.event_acts ..) rfl
    refine .upd_fus ?_ rfl
    refine .step ?_ (State.setFslot_acts ..) rfl
    exact .refl _
  · refine .step ?_ (State.raise_acts ..) rfl
    refine .step ?_ (State.event_acts ..) rfl
    refine .upd_fus ?_ rfl
    refine .step ?_ (State.setFslot_acts ..) rfl
    exact .refl _

/-- Changes dev, regs. -/
theorem State.settleSlag_acts : ∀ x0, Acts 34359738400 x0 (State.settleSlag x0) := by
  intro x0
  unfold State.settleSlag
  refine .step ?_ (State.setCond_acts ..) rfl
  exact .refl _

/-! Nav.lean -/

/-- Changes gns, regs. -/
theorem State.markSuspects_acts : ∀ x0 x1, Acts 34368126976 x0 (State.markSuspects x0 x1) := by
  intro x0 x1
  unfold State.markSuspects
  refine .ite (fun _ => ?_) fun _ => ?_
  · refine .each ?_ ?_
    · exact .refl _
    · intro _ _
      refine .step ?_ (State.setGchan_acts ..) rfl
      exact .refl _
  · refine .step ?_ (State.event_acts ..) rfl
    refine .each ?_ ?_
    · exact .refl _
    · intro _ _
      refine .step ?_ (State.setGchan_acts ..) rfl
      exact .refl _

/-- Changes alarms, rcd, gns, regs. -/
theorem State.noteBaselines_acts : ∀ x0 x1 x2, Acts 34368127360 x0 (State.noteBaselines x0 x1 x2) := by
  intro x0 x1 x2
  unfold State.noteBaselines
  refine .each ?_ ?_
  · exact .refl _
  · intro _ _
    try dsimp only
    split
    · refine .ite (fun _ => ?_) fun _ => ?_
      · refine .upd_gns ?_ rfl rfl
        exact .refl _
      · exact .refl _
    · refine .ite (fun _ => ?_) fun _ => ?_
      · refine .step ?_ (State.raise_acts ..) rfl
        refine .upd_gns ?_ rfl rfl
        exact .refl _
      · refine .upd_gns ?_ rfl rfl
        exact .refl _

/-- Changes alarms, rcd, gns, regs. -/
theorem State.raiseSuspicion_acts : ∀ x0 x1, Acts 34368127360 x0 (State.raiseSuspicion x0 x1) := by
  intro x0 x1
  unfold State.raiseSuspicion
  refine .ite (fun _ => ?_) fun _ => ?_
  · refine .step ?_ (State.event_acts ..) rfl
    refine .step ?_ (State.setFlag_acts ..) rfl
    refine .step ?_ (State.raise_acts ..) rfl
    refine .upd_gns ?_ rfl rfl
    exact .refl _
  · refine .step ?_ (State.raise_acts ..) rfl
    refine .upd_gns ?_ rfl rfl
    exact .refl _

/-- Changes alarms, rcd, regs. -/
theorem State.raiseChecks_acts : ∀ x0 x1, Acts 34359738752 x0 (State.raiseChecks x0 x1) := by
  intro x0 x1
  unfold State.raiseChecks
  refine .when ?_ ?_
  · refine .when ?_ ?_
    · refine .when ?_ ?_
      · refine .when ?_ ?_
        · exact .refl _
        · intro _
          refine .step ?_ (State.raise_acts ..) rfl
          exact .refl _
      · intro _
        refine .step ?_ (State.raise_acts ..) rfl
        exact .refl _
    · intro _
      refine .step ?_ (State.raise_acts ..) rfl
      exact .refl _
  · intro _
    refine .step ?_ (State.raise_acts ..) rfl
    exact .refl _

/-- Changes gns. -/
theorem State.keepAiding_acts : ∀ x0 x1 x2, Acts 8388608 x0 (State.keepAiding x0 x1 x2) := by
  intro x0 x1 x2
  unfold State.keepAiding
  try dsimp only
  split
  · refine .upd_gns ?_ rfl rfl
    refine .step ?_ (State.noteEphemerides_acts ..) rfl
    exact .refl _
  · refine .step ?_ (State.noteEphemerides_acts ..) rfl
    exact .refl _

/-- Changes alarms, rcd, gns, regs. -/
theorem State.navCheck_acts : ∀ x0 x1, Acts 34368127360 x0 (State.navCheck x0 x1) := by
  intro x0 x1
  unfold State.navCheck
  refine .ite (fun _ => ?_) fun _ => ?_
  · refine .step ?_ (State.raiseSuspicion_acts ..) rfl
    refine .step ?_ (State.noteBaselines_acts ..) rfl
    refine .step ?_ (State.raiseChecks_acts ..) rfl
    refine .ite (fun _ => ?_) fun _ => ?_
    · refine .step ?_ (State.keepAiding_acts ..) rfl
      refine .step ?_ (State.countSuspects_acts ..) rfl
      refine .step ?_ (State.setReg_acts ..) rfl
      refine .step ?_ (State.markSuspects_acts ..) rfl
      refine .upd_gns ?_ rfl rfl
      refine .upd_gns ?_ rfl rfl
      exact .refl _
    · refine .upd_gns ?_ rfl rfl
      refine .upd_gns ?_ rfl rfl
      exact .refl _
  · refine .step ?_ (State.noteBaselines_acts ..) rfl
    refine .step ?_ (State.raiseChecks_acts ..) rfl
    refine .ite (fun _ => ?_) fun _ => ?_
    · refine .step ?_ (State.keepAiding_acts ..) rfl
      refine .step ?_ (State.countSuspects_acts ..) rfl
      refine .step ?_ (State.setReg_acts ..) rfl
      refine .step ?_ (State.markSuspects_acts ..) rfl
      refine .upd_gns ?_ rfl rfl
      refine .upd_gns ?_ rfl rfl
      exact .refl _
    · refine .upd_gns ?_ rfl rfl
      refine .upd_gns ?_ rfl rfl
      exact .refl _

/-- Changes alarms, rcd, gns, regs. -/
theorem State.navClears_acts : ∀ x0, Acts 34368127360 x0 (State.navClears x0) := by
  intro x0
  unfold State.navClears
  refine .foldl ?_ ?_
  · refine .each ?_ ?_
    · exact .refl _
    · intro _ _
      refine .step ?_ (State.clearSuspect_acts ..) rfl
      exact .refl _
  · intro _ _
    refine .ite (fun _ => ?_) fun _ => ?_
    · refine .step ?_ (State.clearSuspicion_acts ..) rfl
      exact .refl _
    · exact .refl _

/-- Changes alarms, rcd, gns, regs. -/
theorem State.navigate_acts : ∀ x0 x1, Acts 34368127360 x0 (State.navigate x0 x1) := by
  intro x0 x1
  unfold State.navigate
  refine .step ?_ (State.navClears_acts ..) rfl
  refine .foldl ?_ ?_
  · refine .upd_gns ?_ rfl rfl
    exact .refl _
  · intro _ _
    refine .step ?_ (State.navCheck_acts ..) rfl
    exact .refl _

/-- Changes alarms, rcd, tim, regs. -/
theorem State.gnssTime_acts : ∀ x0 x1, Acts 34359804288 x0 (State.gnssTime x0 x1) := by
  intro x0 x1
  unfold State.gnssTime
  refine .ite (fun _ => ?_) fun _ => ?_
  · refine .step ?_ (State.measureOffset_acts ..) rfl
    split
    · refine .step ?_ (State.updateUtc_acts ..) rfl
      refine .upd_tim ?_ rfl (.inr rfl) (.inr rfl)
      exact .refl _
    · exact .refl _
  · exact .refl _

/-! Fusion.lean -/

/-- Changes fus. -/
theorem State.trackTime_acts : ∀ x0 x1 x2, Acts 16777216 x0 (State.trackTime x0 x1 x2) := by
  intro x0 x1 x2
  unfold State.trackTime
  refine .ite (fun _ => ?_) fun _ => ?_
  · exact .refl _
  · refine .step ?_ (State.setFslot_acts ..) rfl
    exact .refl _

/-- Changes fus. -/
theorem State.unwrapHeld_acts : ∀ x0 x1, Acts 16777216 x0 (State.unwrapHeld x0 x1) := by
  intro x0 x1
  unfold State.unwrapHeld
  refine .step ?_ (State.setFslot_acts ..) rfl
  exact .refl _

/-- Changes alarms, rcd, fus, regs. -/
theorem State.takeMeasurement_acts : ∀ x0 x1 x2 x3, Acts 34376515968 x0 (State.takeMeasurement x0 x1 x2 x3) := by
  intro x0 x1 x2 x3
  unfold State.takeMeasurement
  refine .ite (fun _ => ?_) fun _ => ?_
  · refine .ite (fun _ => ?_) fun _ => ?_
    · refine .step ?_ (State.raise_acts ..) rfl
      refine .step ?_ (State.setFslot_acts ..) rfl
      refine .step ?_ (State.bump_acts ..) rfl
      exact .refl _
    · refine .step ?_ (State.bump_acts ..) rfl
      exact .refl _
  · refine .step ?_ (State.setFslot_acts ..) rfl
    exact .refl _

/-- Changes fus. -/
theorem State.resume_acts : ∀ x0 x1, Acts 16777216 x0 (State.resume x0 x1) := by
  intro x0 x1
  unfold State.resume
  refine .ite (fun _ => ?_) fun _ => ?_
  · refine .ite (fun _ => ?_) fun _ => ?_
    · refine .step ?_ (State.setFslot_acts ..) rfl
      exact .refl _
    · refine .step ?_ (State.setFslot_acts ..) rfl
      exact .refl _
  · exact .refl _

/-- Changes alarms, rcd, fus, regs. -/
theorem State.timeOutSlot_acts : ∀ x0 x1, Acts 34376515968 x0 (State.timeOutSlot x0 x1) := by
  intro x0 x1
  unfold State.timeOutSlot
  refine .step ?_ (State.raise_acts ..) rfl
  refine .step ?_ (State.event_acts ..) rfl
  refine .step ?_ (State.setFslot_acts ..) rfl
  exact .refl _

/-- Changes alarms, rcd, fus, regs. -/
theorem State.intakeInternal_acts : ∀ x0 x1, Acts 34376515968 x0 (State.intakeInternal x0 x1) := by
  intro x0 x1
  unfold State.intakeInternal
  try dsimp only
  split
  · exact .refl _
  · refine .step ?_ (State.takeMeasurement_acts ..) rfl
    refine .step ?_ (State.resume_acts ..) rfl
    refine .step ?_ (State.setFslot_acts ..) rfl
    exact .refl _

/-- Changes gns. -/
theorem State.takeCorrection_acts : ∀ x0 x1, Acts 8388608 x0 (State.takeCorrection x0 x1) := by
  intro x0 x1
  unfold State.takeCorrection
  refine .upd_gns ?_ rfl rfl
  exact .refl _

/-- Changes alarms, rcd, gns, fus, regs. -/
theorem State.intakeMessages_acts (s : State) (n : Nat) : Acts 34384904576 s (s.intakeMessages n) := by
  unfold State.intakeMessages
  extract_lets note s1 all taken good s2 s3 values
  have hn : ∀ t side, Acts 34384904576 t (note t side) := by
    intro t side
    subst note
    dsimp only
    split
    · exact (State.setFslot_acts ..).mono rfl
    · exact Acts.refl t
  have h1 : Acts 34384904576 s s1 := (hn s 0).step (hn _ 1) rfl
  clear_value s1
  have h2 : Acts 34384904576 s s2 := (h1.step (State.bump_acts ..) rfl).step (State.bump_acts ..) rfl
  clear_value s2
  have h3 : Acts 34384904576 s s3 := h2.foldl (fun _ _ => (State.trackTime_acts ..).mono rfl)
  clear_value s3
  refine Acts.ite (fun _ => Acts.ite (fun _ => h3) (fun _ => ?_)) (fun _ => ?_)
  · exact (h3.foldl (fun _ _ => (State.takeCorrection_acts ..).mono rfl)).step (State.resume_acts ..) rfl
  · split
    · exact h3
    · dsimp only
      exact (((h3.step (State.setFslot_acts ..) rfl).step (State.bump_acts ..) rfl).step (State.resume_acts ..) rfl).step (State.takeMeasurement_acts ..) rfl

/-- Changes alarms, rcd, gns, fus, regs. -/
theorem State.intakeSlot_acts : ∀ x0 x1, Acts 34384904576 x0 (State.intakeSlot x0 x1) := by
  intro x0 x1
  unfold State.intakeSlot
  refine .ite (fun _ => ?_) fun _ => ?_
  · refine .ite (fun _ => ?_) fun _ => ?_
    · refine .step ?_ (State.unwrapHeld_acts ..) rfl
      refine .step ?_ (State.setFslot_acts ..) rfl
      exact .refl _
    · refine .step ?_ (State.timeOutSlot_acts ..) rfl
      refine .step ?_ (State.unwrapHeld_acts ..) rfl
      refine .step ?_ (State.setFslot_acts ..) rfl
      exact .refl _
  · refine .ite (fun _ => ?_) fun _ => ?_
    · refine .step ?_ (State.timeOutSlot_acts ..) rfl
      refine .ite (fun _ => ?_) fun _ => ?_
      · refine .step ?_ (State.intakeInternal_acts ..) rfl
        refine .step ?_ (State.unwrapHeld_acts ..) rfl
        refine .step ?_ (State.setFslot_acts ..) rfl
        exact .refl _
      · refine .step ?_ (State.intakeMessages_acts ..) rfl
        refine .step ?_ (State.unwrapHeld_acts ..) rfl
        refine .step ?_ (State.setFslot_acts ..) rfl
        exact .refl _
    · refine .ite (fun _ => ?_) fun _ => ?_
      · refine .step ?_ (State.intakeInternal_acts ..) rfl
        refine .step ?_ (State.unwrapHeld_acts ..) rfl
        refine .step ?_ (State.setFslot_acts ..) rfl
        exact .refl _
      · refine .step ?_ (State.intakeMessages_acts ..) rfl
        refine .step ?_ (State.unwrapHeld_acts ..) rfl
        refine .step ?_ (State.setFslot_acts ..) rfl
        exact .refl _

/-- Changes fus. -/
theorem State.noteNis_acts : ∀ x0 x1 x2 x3, Acts 16777216 x0 (State.noteNis x0 x1 x2 x3) := by
  intro x0 x1 x2 x3
  unfold State.noteNis
  refine .ite (fun _ => ?_) fun _ => ?_
  · refine .step ?_ (State.setFslot_acts ..) rfl
    exact .refl _
  · exact .refl _

/-- Changes fus. -/
theorem State.endSlotHolds_acts : ∀ x0 x1, Acts 16777216 x0 (State.endSlotHolds x0 x1) := by
  intro x0 x1
  unfold State.endSlotHolds
  refine .each ?_ ?_
  · exact .refl _
  · intro _ _
    refine .step ?_ (State.setFslot_acts ..) rfl
    exact .refl _

/-- Changes fus. -/
theorem State.holdSlot_acts : ∀ x0 x1 x2 x3, Acts 16777216 x0 (State.holdSlot x0 x1 x2 x3) := by
  intro x0 x1 x2 x3
  unfold State.holdSlot
  refine .step ?_ (State.setFslot_acts ..) rfl
  refine .step ?_ (State.noteNis_acts ..) rfl
  exact .refl _

/-- Changes fus. -/
theorem State.holdSource_acts : ∀ x0 x1 x2 x3, Acts 16777216 x0 (State.holdSource x0 x1 x2 x3) := by
  intro x0 x1 x2 x3
  unfold State.holdSource
  refine .step ?_ (State.setQuant_acts ..) rfl
  refine .foldl ?_ ?_
  · exact .refl _
  · intro _ _
    refine .step ?_ (State.setFslot_acts ..) rfl
    refine .step ?_ (State.noteNis_acts ..) rfl
    exact .refl _

/-- Changes fus. -/
theorem State.voteByPrediction_acts : ∀ x0 x1, Acts 16777216 x0 (State.voteByPrediction x0 x1).1 := by
  intro x0 x1
  unfold State.voteByPrediction
  try dsimp only
  split
  · refine .iteP (fun _ => ?_) fun _ => ?_
    · refine .pair ?_
      refine .step ?_ (State.setQuant_acts ..) rfl
      refine .foldl ?_ ?_
      · refine .step ?_ (State.endSlotHolds_acts ..) rfl
        exact .refl _
      · intro _ _
        refine .step ?_ (State.holdSource_acts ..) rfl
        exact .refl _
    · refine .pair ?_
      refine .step ?_ (State.setQuant_acts ..) rfl
      refine .foldl ?_ ?_
      · refine .step ?_ (State.endSlotHolds_acts ..) rfl
        exact .refl _
      · intro _ _
        refine .step ?_ (State.holdSource_acts ..) rfl
        exact .refl _
  · refine .pair ?_
    refine .step ?_ (State.setQuant_acts ..) rfl
    refine .foldl ?_ ?_
    · refine .step ?_ (State.endSlotHolds_acts ..) rfl
      exact .refl _
    · intro _ _
      refine .step ?_ (State.holdSource_acts ..) rfl
      exact .refl _

/-- Changes fus. -/
theorem State.voteByMedian_acts : ∀ x0 x1, Acts 16777216 x0 (State.voteByMedian x0 x1).1 := by
  intro x0 x1
  unfold State.voteByMedian
  refine .iteP (fun _ => ?_) fun _ => ?_
  · refine .step ?_ (State.voteByPrediction_acts ..) rfl
    exact .refl _
  · refine .pair ?_
    refine .step ?_ (State.setQuant_acts ..) rfl
    refine .foldl ?_ ?_
    · exact .refl _
    · intro _ _
      refine .step ?_ (State.holdSlot_acts ..) rfl
      exact .refl _

/-- Changes dev, alarms, rcd, fus, regs. -/
theorem State.noteReduced_acts : ∀ x0 x1 x2, Acts 34376516000 x0 (State.noteReduced x0 x1 x2) := by
  intro x0 x1 x2
  unfold State.noteReduced
  refine .ite (fun _ => ?_) fun _ => ?_
  · refine .step ?_ (State.raise_acts ..) rfl
    refine .step ?_ (State.setCond_acts ..) rfl
    refine .step ?_ (State.setQuant_acts ..) rfl
    exact .refl _
  · refine .ite (fun _ => ?_) fun _ => ?_
    · refine .step ?_ (State.setCond_acts ..) rfl
      refine .step ?_ (State.setQuant_acts ..) rfl
      exact .refl _
    · refine .step ?_ (State.causeGone_acts ..) rfl
      refine .step ?_ (State.setCond_acts ..) rfl
      refine .step ?_ (State.setQuant_acts ..) rfl
      exact .refl _

/-- Changes dev, alarms, rcd, fus, regs. -/
theorem State.noteDr_acts : ∀ x0 x1 x2, Acts 34376516000 x0 (State.noteDr x0 x1 x2) := by
  intro x0 x1 x2
  unfold State.noteDr
  refine .ite (fun _ => ?_) fun _ => ?_
  · refine .step ?_ (State.setCond_acts ..) rfl
    refine .ite (fun _ => ?_) fun _ => ?_
    · refine .step ?_ (State.causeGone_acts ..) rfl
      refine .step ?_ (State.setQuant_acts ..) rfl
      exact .refl _
    · split
      · refine .step ?_ (State.raise_acts ..) rfl
        refine .step ?_ (State.event_acts ..) rfl
        refine .step ?_ (State.setQuant_acts ..) rfl
        exact .refl _
      · refine .step ?_ (State.setQuant_acts ..) rfl
        exact .refl _
  · refine .step ?_ (State.causeGone_acts ..) rfl
    refine .step ?_ (State.causeGone_acts ..) rfl
    refine .step ?_ (State.setCond_acts ..) rfl
    refine .ite (fun _ => ?_) fun _ => ?_
    · refine .step ?_ (State.causeGone_acts ..) rfl
      refine .step ?_ (State.setQuant_acts ..) rfl
      exact .refl _
    · split
      · refine .step ?_ (State.raise_acts ..) rfl
        refine .step ?_ (State.event_acts ..) rfl
        refine .step ?_ (State.setQuant_acts ..) rfl
        exact .refl _
      · refine .step ?_ (State.setQuant_acts ..) rfl
        exact .refl _

/-- Changes alarms, rcd, fus, regs. -/
theorem State.noteOther_acts : ∀ x0 x1 x2, Acts 34376515968 x0 (State.noteOther x0 x1 x2) := by
  intro x0 x1 x2
  unfold State.noteOther
  refine .ite (fun _ => ?_) fun _ => ?_
  · refine .step ?_ (State.setQuant_acts ..) rfl
    exact .refl _
  · refine .ite (fun _ => ?_) fun _ => ?_
    · refine .step ?_ (State.raise_acts ..) rfl
      refine .step ?_ (State.setQuant_acts ..) rfl
      exact .refl _
    · refine .step ?_ (State.setQuant_acts ..) rfl
      exact .refl _

/-- Changes dev, alarms, rcd, fus, regs. -/
theorem State.endConflict_acts : ∀ x0 x1, Acts 34376516000 x0 (State.endConflict x0 x1) := by
  intro x0 x1
  unfold State.endConflict
  split
  · refine .step ?_ (State.raise_acts ..) rfl
    refine .foldl ?_ ?_
    · refine .step ?_ (State.setQuant_acts ..) rfl
      exact .refl _
    · intro _ _
      refine .step ?_ (State.slagSlot_acts ..) rfl
      exact .refl _
  · exact .refl _

/-- Changes dev, alarms, rcd, fus, regs. -/
theorem State.slagSource_acts : ∀ x0 x1 x2, Acts 34376516000 x0 (State.slagSource x0 x1 x2) := by
  intro x0 x1 x2
  unfold State.slagSource
  refine .each ?_ ?_
  · exact .refl _
  · intro _ _
    refine .step ?_ (State.slagSlot_acts ..) rfl
    exact .refl _

/-- Changes dev, alarms, rcd, fus, regs. -/
theorem State.persistDue_acts : ∀ x0 x1, Acts 34376516000 x0 (State.persistDue x0 x1) := by
  intro x0 x1
  unfold State.persistDue
  refine .ite (fun _ => ?_) fun _ => ?_
  · refine .step ?_ (State.endConflict_acts ..) rfl
    refine .each ?_ ?_
    · refine .each ?_ ?_
      · exact .refl _
      · intro _ _
        refine .step ?_ (State.slagSlot_acts ..) rfl
        exact .refl _
    · intro _ _
      refine .step ?_ (State.slagSource_acts ..) rfl
      exact .refl _
  · refine .each ?_ ?_
    · refine .each ?_ ?_
      · exact .refl _
      · intro _ _
        refine .step ?_ (State.slagSlot_acts ..) rfl
        exact .refl _
    · intro _ _
      refine .step ?_ (State.slagSource_acts ..) rfl
      exact .refl _

/-- Changes fus. -/
theorem State.drRunsOn_acts : ∀ x0 x1, Acts 16777216 x0 (State.drRunsOn x0 x1) := by
  intro x0 x1
  unfold State.drRunsOn
  split
  · refine .step ?_ (State.setQuant_acts ..) rfl
    exact .refl _
  · exact .refl _

/-- Changes dev, alarms, rcd, fus, regs. -/
theorem State.voteQuantity_acts : ∀ x0 x1, Acts 34376516000 x0 (State.voteQuantity x0 x1).1 := by
  intro x0 x1
  unfold State.voteQuantity
  refine .pair ?_
  refine .ite (fun _ => ?_) fun _ => ?_
  · refine .ite (fun _ => ?_) fun _ => ?_
    · refine .step ?_ (State.noteReduced_acts ..) rfl
      refine .step ?_ (State.persistDue_acts ..) rfl
      refine .step ?_ (State.setQuant_acts ..) rfl
      refine .iteP (fun _ => ?_) fun _ => ?_
      · refine .pair ?_
        exact .refl _
      · refine .iteP (fun _ => ?_) fun _ => ?_
        · refine .step ?_ (State.voteByMedian_acts ..) rfl
          exact .refl _
        · refine .step ?_ (State.voteByPrediction_acts ..) rfl
          exact .refl _
    · refine .step ?_ (State.noteOther_acts ..) rfl
      refine .step ?_ (State.noteReduced_acts ..) rfl
      refine .step ?_ (State.persistDue_acts ..) rfl
      refine .step ?_ (State.setQuant_acts ..) rfl
      refine .iteP (fun _ => ?_) fun _ => ?_
      · refine .pair ?_
        exact .refl _
      · refine .iteP (fun _ => ?_) fun _ => ?_
        · refine .step ?_ (State.voteByMedian_acts ..) rfl
          exact .refl _
        · refine .step ?_ (State.voteByPrediction_acts ..) rfl
          exact .refl _
  · refine .ite (fun _ => ?_) fun _ => ?_
    · refine .step ?_ (State.noteDr_acts ..) rfl
      refine .step ?_ (State.noteReduced_acts ..) rfl
      refine .step ?_ (State.persistDue_acts ..) rfl
      refine .step ?_ (State.setQuant_acts ..) rfl
      refine .iteP (fun _ => ?_) fun _ => ?_
      · refine .pair ?_
        exact .refl _
      · refine .iteP (fun _ => ?_) fun _ => ?_
        · refine .step ?_ (State.voteByMedian_acts ..) rfl
          exact .refl _
        · refine .step ?_ (State.voteByPrediction_acts ..) rfl
          exact .refl _
    · refine .step ?_ (State.noteOther_acts ..) rfl
      refine .step ?_ (State.noteReduced_acts ..) rfl
      refine .step ?_ (State.persistDue_acts ..) rfl
      refine .step ?_ (State.setQuant_acts ..) rfl
      refine .iteP (fun _ => ?_) fun _ => ?_
      · refine .pair ?_
        exact .refl _
      · refine .iteP (fun _ => ?_) fun _ => ?_
        · refine .step ?_ (State.voteByMedian_acts ..) rfl
          exact .refl _
        · refine .step ?_ (State.voteByPrediction_acts ..) rfl
          exact .refl _

/-- Changes dev, alarms, rcd, fus, regs. -/
theorem State.testProbation_acts : ∀ x0 x1, Acts 34376516000 x0 (State.testProbation x0 x1) := by
  intro x0 x1
  unfold State.testProbation
  refine .ite (fun _ => ?_) fun _ => ?_
  · refine .ite (fun _ => ?_) fun _ => ?_
    · refine .step ?_ (State.slagSlot_acts ..) rfl
      refine .foldl ?_ ?_
      · exact .refl _
      · intro _ _
        refine .step ?_ (State.noteNis_acts ..) rfl
        exact .refl _
    · refine .foldl ?_ ?_
      · exact .refl _
      · intro _ _
        refine .step ?_ (State.noteNis_acts ..) rfl
        exact .refl _
  · exact .refl _

/-- Changes alarms, rcd, fus, regs. -/
theorem State.refineAxis_acts : ∀ x0 x1 x2 x3, Acts 34376515968 x0 (State.refineAxis x0 x1 x2 x3) := by
  intro x0 x1 x2 x3
  unfold State.refineAxis
  refine .ite (fun _ => ?_) fun _ => ?_
  · exact .refl _
  · refine .ite (fun _ => ?_) fun _ => ?_
    · refine .step ?_ (State.raise_acts ..) rfl
      refine .step ?_ (State.event_acts ..) rfl
      refine .upd_fus ?_ rfl
      refine .upd_fus ?_ rfl
      exact .refl _
    · refine .upd_fus ?_ rfl
      exact .refl _

/-- Changes alarms, rcd, fus, regs. -/
theorem State.refineSlot_acts : ∀ x0 x1 x2, Acts 34376515968 x0 (State.refineSlot x0 x1 x2) := by
  intro x0 x1 x2
  unfold State.refineSlot
  refine .foldl ?_ ?_
  · exact .refl _
  · intro _ _
    refine .ite (fun _ => ?_) fun _ => ?_
    · refine .foldl ?_ ?_
      · exact .refl _
      · intro _ _
        refine .step ?_ (State.refineAxis_acts ..) rfl
        exact .refl _
    · exact .refl _

/-- Changes alarms, rcd, fus, regs. -/
theorem State.refineQuantity_acts : ∀ x0 x1 x2, Acts 34376515968 x0 (State.refineQuantity x0 x1 x2) := by
  intro x0 x1 x2
  unfold State.refineQuantity
  refine .ite (fun _ => ?_) fun _ => ?_
  · refine .foldl ?_ ?_
    · exact .refl _
    · intro _ _
      refine .step ?_ (State.refineSlot_acts ..) rfl
      exact .refl _
  · exact .refl _

/-- Changes fus. -/
theorem State.observe_acts : ∀ x0 x1, Acts 16777216 x0 (State.observe x0 x1) := by
  intro x0 x1
  unfold State.observe
  refine .upd_fus ?_ rfl
  exact .refl _

/-- Changes dev. -/
theorem State.stepDone_acts : ∀ x0 x1, Acts 32 x0 (State.stepDone x0 x1) := by
  intro x0 x1
  unfold State.stepDone
  refine .upd_dev ?_ rfl (.inr rfl) (.inr rfl) (.inr rfl) (.inr rfl)
  exact .refl _

/-- Changes dev, alarms, rcd, fus, regs. -/
theorem State.voteAll_acts (s : State) (l : List Nat) : Acts 34376516000 s (s.voteAll l).1 := by
  have h : ∀ (l : List Nat) (a : State × List (Nat × List Nat)),
      Acts 34376516000 a.1 (l.foldl (fun a q => let v := a.1.voteQuantity q; (v.1, a.2 ++ [(q, v.2)])) a).1 := by
    intro l
    induction l with
    | nil => exact fun a => Acts.refl a.1
    | cons q l ih =>
      intro a
      have h1 : Acts 34376516000 a.1 (a.1.voteQuantity q).1 := (State.voteQuantity_acts a.1 q).mono rfl
      rw [List.foldl_cons]
      dsimp only
      generalize a.1.voteQuantity q = v at h1 ⊢
      exact h1.step (ih (v.1, a.2 ++ [(q, v.2)])) (Nat.or_self _)
  exact h l (s, [])

/-- Changes dev, alarms, rcd, fus, regs. -/
theorem State.fusionLate_acts : ∀ x0, Acts 34376516000 x0 (State.fusionLate x0) := by
  intro x0
  unfold State.fusionLate
  refine .step ?_ (State.settleSlag_acts ..) rfl
  refine .step ?_ (State.observe_acts ..) rfl
  refine .each ?_ ?_
  · refine .each ?_ ?_
    · refine .each ?_ ?_
      · exact .refl _
      · intro _ _
        refine .step ?_ (State.setFslot_acts ..) rfl
        exact .refl _
    · intro _ _
      refine .step ?_ (State.persistDue_acts ..) rfl
      refine .step ?_ (State.setQuant_acts ..) rfl
      exact .refl _
  · intro _ _
    refine .step ?_ (State.drRunsOn_acts ..) rfl
    exact .refl _

/-- Changes dev, alarms, rcd, tim, gns, fus, regs. -/
theorem execFusionStep_acts : ∀ x0 x1, ∃ t, execFusionStep x0 x1 = .next t ∧ Acts 34384970144 x1 t := by
  intro x0 x1
  unfold execFusionStep
  refine ⟨_, rfl, ?_⟩
  refine .ite (fun _ => ?_) fun _ => ?_
  · exact .refl _
  · refine .ite (fun _ => ?_) fun _ => ?_
    · refine .step ?_ (State.fusionLate_acts ..) rfl
      refine .upd_dev ?_ rfl (.inr rfl) (.inr rfl) (.inr rfl) (.inr rfl)
      exact .refl _
    · refine .step ?_ (State.stepDone_acts ..) rfl
      refine .ite (fun _ => ?_) fun _ => ?_
      · refine .step ?_ (State.snapTrigger_acts ..) rfl
        refine .foldl ?_ ?_
        · refine .step ?_ (State.settleSlag_acts ..) rfl
          refine .step ?_ (State.observe_acts ..) rfl
          refine .foldl ?_ ?_
          · refine .step ?_ (State.voteAll_acts ..) rfl
            refine .each ?_ ?_
            · refine .each ?_ ?_
              · refine .step ?_ (State.navigate_acts ..) rfl
                exact .refl _
              · intro _ _
                refine .step ?_ (State.intakeSlot_acts ..) rfl
                exact .refl _
            · intro _ _
              refine .step ?_ (State.testProbation_acts ..) rfl
              exact .refl _
          · intro _ _
            refine .step ?_ (State.refineQuantity_acts ..) rfl
            exact .refl _
        · intro _ _
          refine .step ?_ (State.gnssTime_acts ..) rfl
          exact .refl _
      · refine .foldl ?_ ?_
        · refine .step ?_ (State.settleSlag_acts ..) rfl
          refine .step ?_ (State.observe_acts ..) rfl
          refine .foldl ?_ ?_
          · refine .step ?_ (State.voteAll_acts ..) rfl
            refine .each ?_ ?_
            · refine .each ?_ ?_
              · refine .step ?_ (State.navigate_acts ..) rfl
                exact .refl _
              · intro _ _
                refine .step ?_ (State.intakeSlot_acts ..) rfl
                exact .refl _
            · intro _ _
              refine .step ?_ (State.testProbation_acts ..) rfl
              exact .refl _
          · intro _ _
            refine .step ?_ (State.refineQuantity_acts ..) rfl
            exact .refl _
        · intro _ _
          refine .step ?_ (State.gnssTime_acts ..) rfl
          exact .refl _

/-- Changes alarms, rcd, tim, fus, regs, elapsed, working. -/
theorem execSlotTimeout_acts : ∀ x0 x1, ∃ t, execSlotTimeout x0 x1 = .next t ∧ Acts 6755433817637248 x1 t := by
  intro x0 x1
  unfold execSlotTimeout
  refine ⟨_, rfl, ?_⟩
  refine .ite (fun _ => ?_) fun _ => ?_
  · refine .ite (fun _ => ?_) fun _ => ?_
    · refine .step ?_ (State.reach_acts ..) rfl
      exact .refl _
    · refine .step ?_ (State.timeOutSlot_acts ..) rfl
      refine .step ?_ (State.reach_acts ..) rfl
      exact .refl _
  · exact .refl _

/-- Changes dev, alarms, rcd, tim, fus, regs, elapsed, working. -/
theorem execGatePersistExpiry_acts : ∀ x0 x1, ∃ t, execGatePersistExpiry x0 x1 = .next t ∧ Acts 6755433817637280 x1 t := by
  intro x0 x1
  unfold execGatePersistExpiry
  refine ⟨_, rfl, ?_⟩
  split
  · refine .ite (fun _ => ?_) fun _ => ?_
    · refine .step ?_ (State.reach_acts ..) rfl
      exact .refl _
    · refine .ite (fun _ => ?_) fun _ => ?_
      · refine .step ?_ (State.slagSlot_acts ..) rfl
        refine .step ?_ (State.reach_acts ..) rfl
        exact .refl _
      · refine .step ?_ (State.slagSource_acts ..) rfl
        refine .step ?_ (State.reach_acts ..) rfl
        exact .refl _
  · exact .refl _

/-- Changes dev, alarms, rcd, tim, fus, regs, elapsed, working. -/
theorem execConflictPersistExpiry_acts : ∀ x0 x1, ∃ t, execConflictPersistExpiry x0 x1 = .next t ∧ Acts 6755433817637280 x1 t := by
  intro x0 x1
  unfold execConflictPersistExpiry
  refine ⟨_, rfl, ?_⟩
  split
  · refine .ite (fun _ => ?_) fun _ => ?_
    · refine .step ?_ (State.reach_acts ..) rfl
      exact .refl _
    · refine .step ?_ (State.endConflict_acts ..) rfl
      refine .step ?_ (State.reach_acts ..) rfl
      exact .refl _
  · exact .refl _

/-- Changes tim, fus, elapsed, working. -/
theorem execProbationEnd_acts : ∀ x0 x1, ∃ t, execProbationEnd x0 x1 = .next t ∧ Acts 6755399457898496 x1 t := by
  intro x0 x1
  unfold execProbationEnd
  refine ⟨_, rfl, ?_⟩
  refine .ite (fun _ => ?_) fun _ => ?_
  · refine .step ?_ (State.setFslot_acts ..) rfl
    refine .step ?_ (State.reach_acts ..) rfl
    exact .refl _
  · exact .refl _

/-- Changes tim, fus, elapsed, working. -/
theorem execDrValidExpiry_acts : ∀ x0 x1, ∃ t, execDrValidExpiry x0 x1 = .next t ∧ Acts 6755399457898496 x1 t := by
  intro x0 x1
  unfold execDrValidExpiry
  refine ⟨_, rfl, ?_⟩
  split
  · refine .ite (fun _ => ?_) fun _ => ?_
    · refine .step ?_ (State.reach_acts ..) rfl
      exact .refl _
    · refine .step ?_ (State.setQuant_acts ..) rfl
      refine .step ?_ (State.reach_acts ..) rfl
      exact .refl _
  · exact .refl _

/-- Changes dev, ord, alarms, rcd, tim, regs, elapsed, working. -/
theorem execDrLimitExpiry_acts : ∀ x0 x1, ∃ t, execDrLimitExpiry x0 x1 = .next t ∧ Acts 6755433800860128 x1 t := by
  intro x0 x1
  unfold execDrLimitExpiry
  refine ⟨_, rfl, ?_⟩
  refine .ite (fun _ => ?_) fun _ => ?_
  · refine .ite (fun _ => ?_) fun _ => ?_
    · refine .step ?_ (State.reachEl_acts ..) rfl
      exact .refl _
    · refine .ite (fun _ => ?_) fun _ => ?_
      · refine .step ?_ (State.raise_acts ..) rfl
        refine .step ?_ (State.expireCond_acts ..) rfl
        refine .step ?_ (State.reachEl_acts ..) rfl
        exact .refl _
      · refine .step ?_ (State.raise_acts ..) rfl
        refine .step ?_ (State.ownMode_acts ..) rfl
        refine .step ?_ (State.expireCond_acts ..) rfl
        refine .step ?_ (State.reachEl_acts ..) rfl
        exact .refl _
  · exact .refl _

/-- Changes fus. -/
theorem State.switchSide_acts : ∀ x0 x1, Acts 16777216 x0 (State.switchSide x0 x1) := by
  intro x0 x1
  unfold State.switchSide
  refine .ite (fun _ => ?_) fun _ => ?_
  · refine .step ?_ (State.setFslot_acts ..) rfl
    exact .refl _
  · exact .refl _

/-- Changes alarms, rcd, fus, regs. -/
theorem State.timebase_acts : ∀ x0 x1, Acts 34376515968 x0 (State.timebase x0 x1) := by
  intro x0 x1
  unfold State.timebase
  refine .ite (fun _ => ?_) fun _ => ?_
  · exact .refl _
  · refine .ite (fun _ => ?_) fun _ => ?_
    · refine .step ?_ (State.raise_acts ..) rfl
      refine .step ?_ (State.event_acts ..) rfl
      refine .step ?_ (State.setFslot_acts ..) rfl
      exact .refl _
    · refine .ite (fun _ => ?_) fun _ => ?_
      · refine .step ?_ (State.setFslot_acts ..) rfl
        exact .refl _
      · exact .refl _

/-- Changes alarms, rcd, fus, regs. -/
theorem State.returnSlot_acts : ∀ x0 x1, Acts 34376515968 x0 (State.returnSlot x0 x1) := by
  intro x0 x1
  unfold State.returnSlot
  refine .ite (fun _ => ?_) fun _ => ?_
  · refine .step ?_ (State.raise_acts ..) rfl
    refine .step ?_ (State.setFslot_acts ..) rfl
    exact .refl _
  · exact .refl _

/-- Changes dev, alarms, rcd, fus, regs. -/
theorem State.fusionFreeze_acts : ∀ x0, Acts 34376516000 x0 (State.fusionFreeze x0) := by
  intro x0
  unfold State.fusionFreeze
  refine .step ?_ (State.settleSlag_acts ..) rfl
  refine .step ?_ (State.setCond_acts ..) rfl
  refine .each ?_ ?_
  · refine .each ?_ ?_
    · refine .upd_fus ?_ rfl
      refine .each ?_ ?_
      · exact .refl _
      · intro _ _
        refine .step ?_ (State.returnSlot_acts ..) rfl
        exact .refl _
    · intro _ _
      refine .step ?_ (State.switchSide_acts ..) rfl
      exact .refl _
  · intro _ _
    refine .step ?_ (State.timebase_acts ..) rfl
    exact .refl _

/-- Changes fus. -/
theorem State.fusionStart_acts : ∀ x0, Acts 16777216 x0 (State.fusionStart x0) := by
  intro x0
  unfold State.fusionStart
  refine .upd_fus ?_ rfl
  refine .each ?_ ?_
  · exact .refl _
  · intro _ _
    refine .step ?_ (State.setFslot_acts ..) rfl
    exact .refl _

/-- Changes ord, fus, regs. -/
theorem State.sensorReturnOrder_acts : ∀ x0 x1, Acts 34376515648 x0 (State.sensorReturnOrder x0 x1) := by
  intro x0 x1
  unfold State.sensorReturnOrder
  refine State.evalOrder_acts ?_ ?_ rfl
  · exact .refl _
  · intro _
    refine .upd_fus ?_ rfl
    exact .refl _

/-- Changes ord, fus, regs. -/
theorem execSensorReturn_acts : ∀ x0 x1, ∃ t, execSensorReturn x0 x1 = .next t ∧ Acts 34376515648 x1 t := by
  intro x0 x1
  unfold execSensorReturn
  refine ⟨_, rfl, ?_⟩
  refine State.takeOrder_acts ?_ ?_ rfl
  · exact .refl _
  · refine .step ?_ (State.sensorReturnOrder_acts ..) rfl
    exact .refl _

/-- Changes regs. -/
theorem State.publishFusion_acts : ∀ x0, Acts 34359738368 x0 (State.publishFusion x0) := by
  intro x0
  unfold State.publishFusion
  refine .each ?_ ?_
  · refine .step ?_ (State.setReg_acts ..) rfl
    refine .step ?_ (State.setReg_acts ..) rfl
    refine .step ?_ (State.setReg_acts ..) rfl
    refine .step ?_ (State.setReg_acts ..) rfl
    refine .step ?_ (State.setReg_acts ..) rfl
    exact .refl _
  · intro _ _
    refine .step ?_ (State.setReg_acts ..) rfl
    refine .step ?_ (State.setReg_acts ..) rfl
    exact .refl _

/-- Changes dev, fus, regs. -/
theorem State.clearSlag_acts : ∀ x0, Acts 34376515616 x0 (State.clearSlag x0) := by
  intro x0
  unfold State.clearSlag
  refine .step ?_ (State.settleSlag_acts ..) rfl
  refine .each ?_ ?_
  · exact .refl _
  · intro _ _
    refine .ite (fun _ => ?_) fun _ => ?_
    · refine .step ?_ (State.setFslot_acts ..) rfl
      exact .refl _
    · exact .refl _

end Sys2Proof.Machine
end

