-- ==== Sys2Proof/Laws/ActsPlant.lean ====
section
/-! SUPPORT. What the operations of the network receiver, the solver array, the control law and thrust allocation may change: one lemma each. -/
namespace Sys2Proof.Machine

/-! Net.lean -/

/-- Changes agr, twn, out. -/
theorem State.slotMessage_acts : ∀ x0 x1 x2 x3 x4, Acts 549756600320 x0 (State.slotMessage x0 x1 x2 x3 x4) := by
  intro x0 x1 x2 x3 x4
  unfold State.slotMessage
  refine .foldl ?_ ?_
  · exact .refl _
  · intro _ _
    refine .step ?_ (State.ownItem_acts ..) rfl
    exact .refl _

/-- Changes agr, twn, out. -/
theorem State.sensorDatagram_acts : ∀ x0 x1 x2 x3 x4, Acts 549756600320 x0 (State.sensorDatagram x0 x1 x2 x3 x4) := by
  intro x0 x1 x2 x3 x4
  unfold State.sensorDatagram
  refine .ite (fun _ => ?_) fun _ => ?_
  · refine .step ?_ (State.slotMessage_acts ..) rfl
    refine .ite (fun _ => ?_) fun _ => ?_
    · refine .foldl ?_ ?_
      · exact .refl _
      · intro _ _
        refine .step ?_ (State.slotMessage_acts ..) rfl
        exact .refl _
    · exact .refl _
  · refine .ite (fun _ => ?_) fun _ => ?_
    · refine .foldl ?_ ?_
      · exact .refl _
      · intro _ _
        refine .step ?_ (State.slotMessage_acts ..) rfl
        exact .refl _
    · exact .refl _

/-- Changes alarms, rcd, net, regs, out. -/
theorem State.resolved_acts : ∀ x0 x1 x2, Acts 585189294464 x0 (State.resolved x0 x1 x2) := by
  intro x0 x1 x2
  unfold State.resolved
  refine .ite (fun _ => ?_) fun _ => ?_
  · refine .step ?_ (State.causeGone_acts ..) rfl
    refine .foldl ?_ ?_
    · refine .upd_net ?_ rfl
      exact .refl _
    · intro _ _
      refine .step ?_ (State.netSend_acts ..) rfl
      exact .refl _
  · refine .foldl ?_ ?_
    · refine .upd_net ?_ rfl
      exact .refl _
    · intro _ _
      refine .step ?_ (State.netSend_acts ..) rfl
      exact .refl _

/-- Changes alarms, rcd, agr, twn, net, regs, out. -/
theorem State.deliver_acts : ∀ x0 x1, Acts 585190080896 x0 (State.deliver x0 x1) := by
  intro x0 x1
  unfold State.deliver
  try dsimp only
  split
  · refine .step ?_ (State.resolved_acts ..) rfl
    refine .step ?_ (State.bump_acts ..) rfl
    exact .refl _
  · refine .ite (fun _ => ?_) fun _ => ?_
    · refine .step ?_ (State.ethSend_acts ..) rfl
      refine .step ?_ (State.bump_acts ..) rfl
      exact .refl _
    · refine .step ?_ (State.bump_acts ..) rfl
      exact .refl _
  · refine .step ?_ (State.ethSend_acts ..) rfl
    refine .step ?_ (State.bump_acts ..) rfl
    exact .refl _
  · refine .ite (fun _ => ?_) fun _ => ?_
    · refine .step ?_ (State.sensorDatagram_acts ..) rfl
      refine .step ?_ (State.bump_acts ..) rfl
      exact .refl _
    · refine .step ?_ (State.bump_acts ..) rfl
      exact .refl _
  · refine .step ?_ (State.bump_acts ..) rfl
    exact .refl _
  · refine .step ?_ (State.bump_acts ..) rfl
    exact .refl _

/-- Changes regs. -/
theorem State.dropCopy_acts : ∀ x0 x1, Acts 34359738368 x0 (State.dropCopy x0 x1) := by
  intro x0 x1
  unfold State.dropCopy
  refine .step ?_ (State.bump_acts ..) rfl
  exact .refl _

/-- Changes alarms, rcd, agr, twn, net, regs, out. -/
theorem State.filterCopy_acts : ∀ x0 x1, Acts 585190080896 x0 (State.filterCopy x0 x1) := by
  intro x0 x1
  unfold State.filterCopy
  split
  · refine .ite (fun _ => ?_) fun _ => ?_
    · refine .step ?_ (State.deliver_acts ..) rfl
      exact .refl _
    · refine .ite (fun _ => ?_) fun _ => ?_
      · refine .step ?_ (State.dropCopy_acts ..) rfl
        exact .refl _
      · refine .step ?_ (State.deliver_acts ..) rfl
        refine .upd_net ?_ rfl
        exact .refl _
  · refine .step ?_ (State.deliver_acts ..) rfl
    exact .refl _
  · refine .step ?_ (State.deliver_acts ..) rfl
    exact .refl _
  · refine .step ?_ (State.deliver_acts ..) rfl
    exact .refl _
  · refine .step ?_ (State.deliver_acts ..) rfl
    exact .refl _
  · refine .step ?_ (State.deliver_acts ..) rfl
    exact .refl _

/-- Changes alarms, rcd, agr, twn, net, regs, out. -/
theorem State.filterPrp_acts : ∀ x0 x1, Acts 585190080896 x0 (State.filterPrp x0 x1) := by
  intro x0 x1
  unfold State.filterPrp
  split
  · refine .step ?_ (State.filterCopy_acts ..) rfl
    exact .refl _
  · refine .ite (fun _ => ?_) fun _ => ?_
    · refine .step ?_ (State.deliver_acts ..) rfl
      exact .refl _
    · refine .ite (fun _ => ?_) fun _ => ?_
      · refine .step ?_ (State.dropCopy_acts ..) rfl
        exact .refl _
      · refine .ite (fun _ => ?_) fun _ => ?_
        · refine .step ?_ (State.deliver_acts ..) rfl
          refine .upd_net ?_ rfl
          exact .refl _
        · refine .ite (fun _ => ?_) fun _ => ?_
          · refine .step ?_ (State.deliver_acts ..) rfl
            exact .refl _
          · refine .step ?_ (State.deliver_acts ..) rfl
            refine .step ?_ (State.raise_acts ..) rfl
            refine .step ?_ (State.event_acts ..) rfl
            refine .upd_net ?_ rfl
            exact .refl _

/-- Changes alarms, rcd, net, regs. -/
theorem State.overLimit_acts : ∀ x0 x1, Acts 35433480576 x0 (State.overLimit x0 x1) := by
  intro x0 x1
  unfold State.overLimit
  refine .ite (fun _ => ?_) fun _ => ?_
  · refine .step ?_ (State.raise_acts ..) rfl
    refine .upd_net ?_ rfl
    refine .step ?_ (State.event_acts ..) rfl
    refine .step ?_ (State.bump_acts ..) rfl
    exact .refl _
  · refine .step ?_ (State.event_acts ..) rfl
    refine .step ?_ (State.bump_acts ..) rfl
    exact .refl _

/-- Changes alarms, rcd, agr, twn, net, regs, out. -/
theorem execEthernetFrame_acts : ∀ x0 x1, ∃ t, execEthernetFrame x0 x1 = .next t ∧ Acts 585190080896 x1 t := by
  intro x0 x1
  unfold execEthernetFrame
  refine ⟨_, rfl, ?_⟩
  refine .ite (fun _ => ?_) fun _ => ?_
  · exact .refl _
  · refine .ite (fun _ => ?_) fun _ => ?_
    · refine .step ?_ (State.bump_acts ..) rfl
      exact .refl _
    · refine .ite (fun _ => ?_) fun _ => ?_
      · exact .refl _
      · refine .ite (fun _ => ?_) fun _ => ?_
        · refine .step ?_ (State.overLimit_acts ..) rfl
          refine .upd_net ?_ rfl
          exact .refl _
        · refine .step ?_ (State.filterPrp_acts ..) rfl
          refine .upd_net ?_ rfl
          exact .refl _

/-- Changes tim, net, elapsed, working. -/
theorem execPrpEntryForget_acts : ∀ x0 x1 x2, ∃ t, execPrpEntryForget x0 x1 x2 = .next t ∧ Acts 6755400514863104 x2 t := by
  intro x0 x1 x2
  unfold execPrpEntryForget
  refine ⟨_, rfl, ?_⟩
  split
  · refine .upd_net ?_ rfl
    refine .step ?_ (State.reachEl_acts ..) rfl
    exact .refl _
  · exact .refl _

/-- Changes alarms, rcd, tim, net, regs, elapsed, working. -/
theorem execRxLimitWindow_acts : ∀ x0 x1, ∃ t, execRxLimitWindow x0 x1 = .next t ∧ Acts 6755434874601856 x1 t := by
  intro x0 x1
  unfold execRxLimitWindow
  refine ⟨_, rfl, ?_⟩
  refine .ite (fun _ => ?_) fun _ => ?_
  · refine .step ?_ (State.causeGone_acts ..) rfl
    refine .upd_net ?_ rfl
    refine .step ?_ (State.reachEl_acts ..) rfl
    exact .refl _
  · refine .upd_net ?_ rfl
    refine .step ?_ (State.reachEl_acts ..) rfl
    exact .refl _

/-- Changes alarms, rcd, regs. -/
theorem State.raiseLevel_acts : ∀ x0 x1 x2 x3, Acts 34359738752 x0 (State.raiseLevel x0 x1 x2 x3) := by
  intro x0 x1 x2 x3
  unfold State.raiseLevel
  refine .ite (fun _ => ?_) fun _ => ?_
  · refine .step ?_ (State.raise_acts ..) rfl
    exact .refl _
  · exact .refl _

/-- Changes alarms, rcd, regs. -/
theorem State.phyState_acts : ∀ x0 x1 x2 x3, Acts 34359738752 x0 (State.phyState x0 x1 x2 x3) := by
  intro x0 x1 x2 x3
  unfold State.phyState
  refine .ite (fun _ => ?_) fun _ => ?_
  · refine .ite (fun _ => ?_) fun _ => ?_
    · refine .ite (fun _ => ?_) fun _ => ?_
      · refine .step ?_ (State.causeGone_acts ..) rfl
        refine .ite (fun _ => ?_) fun _ => ?_
        · refine .step ?_ (State.causeGone_acts ..) rfl
          refine .step ?_ (State.setFlag_acts ..) rfl
          refine .step ?_ (State.setFlag_acts ..) rfl
          exact .refl _
        · refine .step ?_ (State.setFlag_acts ..) rfl
          refine .step ?_ (State.setFlag_acts ..) rfl
          exact .refl _
      · refine .ite (fun _ => ?_) fun _ => ?_
        · refine .step ?_ (State.causeGone_acts ..) rfl
          refine .step ?_ (State.setFlag_acts ..) rfl
          refine .step ?_ (State.setFlag_acts ..) rfl
          exact .refl _
        · refine .step ?_ (State.setFlag_acts ..) rfl
          refine .step ?_ (State.setFlag_acts ..) rfl
          exact .refl _
    · refine .step ?_ (State.raiseLevel_acts ..) rfl
      refine .when ?_ ?_
      · refine .ite (fun _ => ?_) fun _ => ?_
        · refine .step ?_ (State.causeGone_acts ..) rfl
          refine .step ?_ (State.setFlag_acts ..) rfl
          refine .step ?_ (State.setFlag_acts ..) rfl
          exact .refl _
        · refine .step ?_ (State.setFlag_acts ..) rfl
          refine .step ?_ (State.setFlag_acts ..) rfl
          exact .refl _
      · intro _
        refine .step ?_ (State.event_acts ..) rfl
        exact .refl _
  · refine .step ?_ (State.raiseLevel_acts ..) rfl
    refine .step ?_ (State.event_acts ..) rfl
    refine .step ?_ (State.setFlag_acts ..) rfl
    exact .refl _

/-- Changes out. -/
theorem State.readPhy_acts : ∀ x0 x1 x2, Acts 549755813888 x0 (State.readPhy x0 x1 x2) := by
  intro x0 x1 x2
  unfold State.readPhy
  refine .step ?_ (State.send_acts ..) rfl
  exact .refl _

/-- Changes alarms, rcd, tim, net, regs, out, elapsed, working. -/
theorem execPhyPoll_acts : ∀ x0 x1 x2 x3, ∃ t, execPhyPoll x0 x1 x2 x3 = .next t ∧ Acts 6755984630415744 x3 t := by
  intro x0 x1 x2 x3
  unfold execPhyPoll
  refine ⟨_, rfl, ?_⟩
  refine .ite (fun _ => ?_) fun _ => ?_
  · exact .refl _
  · refine .step ?_ (State.phyState_acts ..) rfl
    refine .step ?_ (State.readPhy_acts ..) rfl
    refine .upd_net ?_ rfl
    refine .step ?_ (State.reachEl_acts ..) rfl
    exact .refl _

/-- Changes net, regs, out. -/
theorem State.mdioWrite_acts : ∀ x0 x1, Acts 585189294080 x0 (State.mdioWrite x0 x1) := by
  intro x0 x1
  unfold State.mdioWrite
  refine .ite (fun _ => ?_) fun _ => ?_
  · refine .step ?_ (State.readPhy_acts ..) rfl
    refine .step ?_ (State.setFlag_acts ..) rfl
    refine .upd_net ?_ rfl
    refine .step ?_ (State.typedWrite_acts ..) rfl
    exact .refl _
  · refine .step ?_ (State.typedWrite_acts ..) rfl
    exact .refl _

/-- Changes alarms, rcd, acl, twn, net, regs, out. -/
theorem execMdioRead_acts : ∀ x0 x1 x2, ∃ t, execMdioRead x0 x1 x2 = .next t ∧ Acts 585189851520 x2 t := by
  intro x0 x1 x2
  unfold execMdioRead
  refine ⟨_, rfl, ?_⟩
  refine State.commandWrite_acts ?_ ?_ rfl
  · exact .refl _
  · intro _
    refine .step ?_ (State.mdioWrite_acts ..) rfl
    exact .refl _

/-- Changes net, regs, freeCtr. -/
theorem execMdioReadDone_acts : ∀ x0 x1, ∃ t, execMdioReadDone x0 x1 = .next t ∧ Acts 1134945107968 x1 t := by
  intro x0 x1
  unfold execMdioReadDone
  refine ⟨_, rfl, ?_⟩
  refine .ite (fun _ => ?_) fun _ => ?_
  · exact .refl _
  · try dsimp only
    split
    · refine .step ?_ (State.setFlag_acts ..) rfl
      refine .step ?_ (State.setFld_acts ..) rfl
      refine .step ?_ (State.setFlag_acts ..) rfl
      refine .upd_net ?_ rfl
      exact .refl _
    · refine .step ?_ (State.useFree_acts ..) rfl
      refine .step ?_ (State.setFlag_acts ..) rfl
      refine .step ?_ (State.setFld_acts ..) rfl
      refine .step ?_ (State.setFlag_acts ..) rfl
      refine .upd_net ?_ rfl
      exact .refl _

/-- Changes tim, net, regs, out, elapsed, working. -/
theorem execArpRefresh_acts : ∀ x0 x1, ∃ t, execArpRefresh x0 x1 = .next t ∧ Acts 6755984630415360 x1 t := by
  intro x0 x1
  unfold execArpRefresh
  refine ⟨_, rfl, ?_⟩
  refine .ite (fun _ => ?_) fun _ => ?_
  · refine .step ?_ (State.netSend_acts ..) rfl
    refine .upd_net ?_ rfl
    refine .step ?_ (State.reachEl_acts ..) rfl
    exact .refl _
  · exact .refl _

/-- Changes alarms, rcd, tim, net, regs, elapsed, working. -/
theorem execArpTimeout_acts : ∀ x0 x1, ∃ t, execArpTimeout x0 x1 = .next t ∧ Acts 6755434874601856 x1 t := by
  intro x0 x1
  unfold execArpTimeout
  refine ⟨_, rfl, ?_⟩
  split
  · refine .step ?_ (State.raise_acts ..) rfl
    refine .step ?_ (State.event_acts ..) rfl
    refine .upd_net ?_ rfl
    refine .step ?_ (State.reachEl_acts ..) rfl
    exact .refl _
  · exact .refl _

/-! Solver.lean -/

/-- Changes xchg. -/
theorem State.xchgWrite_acts (s : State) (a : Nat) (ws : List Word) : Acts 274877906944 s (s.xchgWrite a ws) :=
  ⟨fun p hp => by cases p <;> first | rfl | exact absurd hp (by decide),
   fun k => k.of_canonical (let c := k.canonical; ⟨c.1, c.2.1, c.2.2.1, memWf_memSetRun _ _ _ _ _ c.2.2.2.1, c.2.2.2.2⟩) rfl rfl rfl rfl rfl⟩

/-- Changes xchg. -/
theorem State.place_acts (s : State) (l : List (Nat × Word)) : Acts 274877906944 s (s.place l) := by
  unfold State.place
  refine Acts.foldl (Acts.refl s) (fun t e => Acts.ite (fun _ => ?_) (fun _ => Acts.refl t))
  exact ⟨fun p hp => by cases p <;> first | rfl | exact absurd hp (by decide), fun k => k.of_canonical (let c := k.canonical; ⟨c.1, c.2.1, c.2.2.1, memWf_memSet _ _ _ _ c.2.2.2.1, c.2.2.2.2⟩) rfl rfl rfl rfl rfl⟩

/-- Changes regs. -/
theorem State.showMould_acts : ∀ x0 x1, Acts 34359738368 x0 (State.showMould x0 x1) := by
  intro x0 x1
  unfold State.showMould
  split
  · refine .step ?_ (State.setFlag_acts ..) rfl
    refine .step ?_ (State.setFld_acts ..) rfl
    refine .step ?_ (State.setFld_acts ..) rfl
    exact .refl _
  · exact .refl _

/-- Changes regs. -/
theorem State.showProb_acts : ∀ x0 x1, Acts 34359738368 x0 (State.showProb x0 x1) := by
  intro x0 x1
  unfold State.showProb
  refine .step ?_ (State.showMould_acts ..) rfl
  refine .step ?_ (State.setFld_acts ..) rfl
  refine .step ?_ (State.setReg_acts ..) rfl
  exact .refl _

/-- Changes slv, regs. -/
theorem State.setProb_acts : ∀ x0 x1 x2, Acts 34493956096 x0 (State.setProb x0 x1 x2) := by
  intro x0 x1 x2
  unfold State.setProb
  refine .step ?_ (State.showProb_acts ..) rfl
  refine .upd_slv ?_ rfl
  exact .refl _

/-- Changes regs. -/
theorem State.showQueue_acts : ∀ x0 x1, Acts 34359738368 x0 (State.showQueue x0 x1) := by
  intro x0 x1
  unfold State.showQueue
  refine .step ?_ (State.setFlag_acts ..) rfl
  refine .step ?_ (State.setFld_acts ..) rfl
  exact .refl _

/-- Changes alarms, rcd, slv, regs. -/
theorem State.slvPush_acts : ∀ x0 x1, Acts 34493956480 x0 (State.slvPush x0 x1) := by
  intro x0 x1
  unfold State.slvPush
  refine .ite (fun _ => ?_) fun _ => ?_
  · refine .step ?_ (State.showQueue_acts ..) rfl
    refine .upd_slv ?_ rfl
    exact .refl _
  · refine .step ?_ (State.raise_acts ..) rfl
    refine .step ?_ (State.event_acts ..) rfl
    exact .refl _

/-- Changes alarms, rcd, acl, twn, slv, regs, xchg, out. -/
theorem execSlvSubmit_acts : ∀ x0 x1 x2 x3, ∃ t, execSlvSubmit x0 x1 x2 x3 = .next t ∧ Acts 859128234368 x3 t := by
  intro x0 x1 x2 x3
  unfold execSlvSubmit
  refine ⟨_, rfl, ?_⟩
  refine State.commandWrite_acts ?_ ?_ rfl
  · refine .step ?_ (State.place_acts ..) rfl
    exact .refl _
  · intro _
    refine .step ?_ (State.slvPush_acts ..) rfl
    exact .refl _

/-- Changes alarms, rcd, acl, twn, slv, regs, xchg, out. -/
theorem execSlvFill_acts : ∀ x0 x1 x2 x3, ∃ t, execSlvFill x0 x1 x2 x3 = .next t ∧ Acts 859128234368 x3 t := by
  intro x0 x1 x2 x3
  unfold execSlvFill
  refine ⟨_, rfl, ?_⟩
  refine State.commandWrite_acts ?_ ?_ rfl
  · refine .step ?_ (State.place_acts ..) rfl
    exact .refl _
  · intro _
    refine .step ?_ (State.slvPush_acts ..) rfl
    exact .refl _

/-- Changes slv, regs. -/
theorem State.promote_acts : ∀ x0 x1, Acts 34493956096 x0 (State.promote x0 x1) := by
  intro x0 x1
  unfold State.promote
  split
  · split
    · refine .step ?_ (State.showMould_acts ..) rfl
      refine .upd_slv ?_ rfl
      exact .refl _
    · exact .refl _
  · exact .refl _

/-- Changes slv, regs. -/
theorem State.accept_acts : ∀ x0 x1, Acts 34493956096 x0 (State.accept x0 x1) := by
  intro x0 x1
  unfold State.accept
  refine .step ?_ (State.setProb_acts ..) rfl
  refine .upd_slv ?_ rfl
  refine .when ?_ ?_
  · refine .step ?_ (State.promote_acts ..) rfl
    exact .refl _
  · intro _
    refine .step ?_ (State.bump_acts ..) rfl
    exact .refl _

/-- Changes alarms, rcd, slv, regs. -/
theorem execSubmissionProcess_acts : ∀ x0, ∃ t, execSubmissionProcess x0 = .next t ∧ Acts 34493956480 x0 t := by
  intro x0
  unfold execSubmissionProcess
  refine ⟨_, rfl, ?_⟩
  split
  · refine .ite (fun _ => ?_) fun _ => ?_
    · refine .step ?_ (State.raise_acts ..) rfl
      refine .step ?_ (State.event_acts ..) rfl
      refine .step ?_ (State.showQueue_acts ..) rfl
      refine .upd_slv ?_ rfl
      exact .refl _
    · refine .ite (fun _ => ?_) fun _ => ?_
      · refine .step ?_ (State.accept_acts ..) rfl
        refine .step ?_ (State.showQueue_acts ..) rfl
        refine .upd_slv ?_ rfl
        exact .refl _
      · refine .step ?_ (State.raise_acts ..) rfl
        refine .step ?_ (State.setProb_acts ..) rfl
        refine .step ?_ (State.showQueue_acts ..) rfl
        refine .upd_slv ?_ rfl
        exact .refl _
  · exact .refl _

/-- Changes alarms, rcd, slv, regs. -/
theorem execFillApply_acts : ∀ x0, ∃ t, execFillApply x0 = .next t ∧ Acts 34493956480 x0 t := by
  intro x0
  unfold execFillApply
  refine ⟨_, rfl, ?_⟩
  split
  · try dsimp only
    split
    · refine .step ?_ (State.raise_acts ..) rfl
      refine .step ?_ (State.event_acts ..) rfl
      refine .step ?_ (State.showQueue_acts ..) rfl
      refine .upd_slv ?_ rfl
      exact .refl _
    · split
      · exact .refl _
      · try dsimp only
        split
        · refine .step ?_ (State.showMould_acts ..) rfl
          refine .step ?_ (State.showQueue_acts ..) rfl
          refine .upd_slv ?_ rfl
          refine .upd_slv ?_ rfl
          exact .refl _
        · refine .ite (fun _ => ?_) fun _ => ?_
          · refine .step ?_ (State.showMould_acts ..) rfl
            refine .step ?_ (State.showQueue_acts ..) rfl
            refine .upd_slv ?_ rfl
            refine .upd_slv ?_ rfl
            exact .refl _
          · refine .ite (fun _ => ?_) fun _ => ?_
            · refine .step ?_ (State.showQueue_acts ..) rfl
              exact .refl _
            · refine .step ?_ (State.showMould_acts ..) rfl
              refine .step ?_ (State.showQueue_acts ..) rfl
              refine .upd_slv ?_ rfl
              refine .upd_slv ?_ rfl
              exact .refl _
  · exact .refl _

/-- Changes regs. -/
theorem State.setLane_acts : ∀ x0 x1 x2, Acts 34359738368 x0 (State.setLane x0 x1 x2) := by
  intro x0 x1 x2
  unfold State.setLane
  refine .step ?_ (State.setFld_acts ..) rfl
  refine .step ?_ (State.setFld_acts ..) rfl
  refine .step ?_ (State.setFld_acts ..) rfl
  exact .refl _

/-- Changes slv. -/
theorem State.loadLane_acts : ∀ x0 x1 x2, Acts 134217728 x0 (State.loadLane x0 x1 x2) := by
  intro x0 x1 x2
  unfold State.loadLane
  refine .upd_slv ?_ rfl
  exact .refl _

/-- Changes slv, regs. -/
theorem execProblemStart_acts : ∀ x0, ∃ t, execProblemStart x0 = .next t ∧ Acts 34493956096 x0 t := by
  intro x0
  unfold execProblemStart
  refine ⟨_, rfl, ?_⟩
  split
  · refine .step ?_ (State.setProb_acts ..) rfl
    refine .step ?_ (State.loadLane_acts ..) rfl
    refine .upd_slv ?_ rfl
    exact .refl _
  · exact .refl _

/-- Changes slv, regs, xchg. -/
theorem State.finish_acts : ∀ x0 x1 x2 x3 x4, Acts 309371863040 x0 (State.finish x0 x1 x2 x3 x4) := by
  intro x0 x1 x2 x3 x4
  unfold State.finish
  refine .ite (fun _ => ?_) fun _ => ?_
  · refine .step ?_ (State.event_acts ..) rfl
    refine .step ?_ (State.setProb_acts ..) rfl
    refine .step ?_ (State.xchgWrite_acts ..) rfl
    refine .step ?_ (State.loadLane_acts ..) rfl
    refine .upd_slv ?_ rfl
    exact .refl _
  · refine .step ?_ (State.setProb_acts ..) rfl
    refine .step ?_ (State.xchgWrite_acts ..) rfl
    refine .step ?_ (State.loadLane_acts ..) rfl
    refine .upd_slv ?_ rfl
    exact .refl _

/-- Changes alarms, rcd, slv, regs. -/
theorem State.noteHeadroom_acts : ∀ x0 x1 x2 x3, Acts 34493956480 x0 (State.noteHeadroom x0 x1 x2 x3) := by
  intro x0 x1 x2 x3
  unfold State.noteHeadroom
  try dsimp only
  split
  · refine .ite (fun _ => ?_) fun _ => ?_
    · refine .step ?_ (State.raise_acts ..) rfl
      refine .step ?_ (State.event_acts ..) rfl
      refine .upd_slv ?_ rfl
      refine .step ?_ (State.setFld_acts ..) rfl
      refine .step ?_ (State.setFld_acts ..) rfl
      exact .refl _
    · refine .step ?_ (State.setFld_acts ..) rfl
      refine .step ?_ (State.setFld_acts ..) rfl
      exact .refl _
  · refine .step ?_ (State.setFld_acts ..) rfl
    refine .step ?_ (State.setFld_acts ..) rfl
    exact .refl _

/-- Changes alarms, rcd, slv, regs. -/
theorem State.noteOverflow_acts : ∀ x0 x1, Acts 34493956480 x0 (State.noteOverflow x0 x1) := by
  intro x0 x1
  unfold State.noteOverflow
  refine .ite (fun _ => ?_) fun _ => ?_
  · refine .step ?_ (State.raise_acts ..) rfl
    refine .upd_slv ?_ rfl
    refine .step ?_ (State.event_acts ..) rfl
    refine .step ?_ (State.bump_acts ..) rfl
    exact .refl _
  · refine .upd_slv ?_ rfl
    refine .step ?_ (State.event_acts ..) rfl
    refine .step ?_ (State.bump_acts ..) rfl
    exact .refl _

/-- Changes alarms, rcd, slv, regs. -/
theorem State.noteClamp_acts : ∀ x0 x1, Acts 34493956480 x0 (State.noteClamp x0 x1) := by
  intro x0 x1
  unfold State.noteClamp
  refine .ite (fun _ => ?_) fun _ => ?_
  · refine .step ?_ (State.raise_acts ..) rfl
    refine .upd_slv ?_ rfl
    refine .step ?_ (State.event_acts ..) rfl
    refine .step ?_ (State.bump_acts ..) rfl
    exact .refl _
  · refine .step ?_ (State.event_acts ..) rfl
    refine .step ?_ (State.bump_acts ..) rfl
    exact .refl _

/-- Changes alarms, rcd, slv, regs, xchg. -/
theorem execProblemEnds_acts : ∀ x0 x1 x2, ∃ t, execProblemEnds x0 x1 x2 = .next t ∧ Acts 309371863424 x2 t := by
  intro x0 x1 x2
  unfold execProblemEnds
  refine ⟨_, rfl, ?_⟩
  refine .ite (fun _ => ?_) fun _ => ?_
  · exact .refl _
  · refine .step ?_ (State.noteHeadroom_acts ..) rfl
    refine .when ?_ ?_
    · refine .when ?_ ?_
      · refine .step ?_ (State.finish_acts ..) rfl
        exact .refl _
      · intro _
        refine .step ?_ (State.noteOverflow_acts ..) rfl
        exact .refl _
    · intro _
      refine .step ?_ (State.noteClamp_acts ..) rfl
      exact .refl _

/-- Changes slv, regs, xchg, freeCtr. -/
theorem State.stopProblem_acts : ∀ x0 x1 x2 x3, Acts 1408883490816 x0 (State.stopProblem x0 x1 x2 x3) := by
  intro x0 x1 x2 x3
  unfold State.stopProblem
  refine .upd_freeCtr ?_ rfl
  refine .step ?_ (State.finish_acts ..) rfl
  exact .refl _

/-- Changes tim, slv, regs, xchg, freeCtr, elapsed, working. -/
theorem execProblemDeadline_acts : ∀ x0 x1, ∃ t, execProblemDeadline x0 x1 = .next t ∧ Acts 6756808324612096 x1 t := by
  intro x0 x1
  unfold execProblemDeadline
  refine ⟨_, rfl, ?_⟩
  refine .ite (fun _ => ?_) fun _ => ?_
  · refine .upd_slv ?_ rfl
    refine .step ?_ (State.event_acts ..) rfl
    refine .step ?_ (State.stopProblem_acts ..) rfl
    refine .step ?_ (State.reach_acts ..) rfl
    exact .refl _
  · exact .refl _

/-- Changes alarms, rcd, twn, slv, regs, xchg, freeCtr. -/
theorem execLaneFault_acts : ∀ x0 x1, ∃ t, execLaneFault x0 x1 = .next t ∧ Acts 1408884015488 x1 t := by
  intro x0 x1
  unfold execLaneFault
  refine ⟨_, rfl, ?_⟩
  refine .ite (fun _ => ?_) fun _ => ?_
  · exact .refl _
  · try dsimp only
    split
    · refine .upd_slv ?_ rfl
      exact .refl _
    · refine .ite (fun _ => ?_) fun _ => ?_
      · refine .step ?_ (State.raise_acts ..) rfl
        refine .upd_twn ?_ rfl (.inr rfl)
        refine .step ?_ (State.stopProblem_acts ..) rfl
        refine .upd_slv ?_ rfl
        exact .refl _
      · refine .step ?_ (State.raise_acts ..) rfl
        refine .upd_slv ?_ rfl
        refine .step ?_ (State.bump_acts ..) rfl
        refine .step ?_ (State.setProb_acts ..) rfl
        refine .step ?_ (State.loadLane_acts ..) rfl
        refine .upd_slv ?_ rfl
        exact .refl _

/-- Changes hlt, regs. -/
theorem execLaneEccCorrected_acts : ∀ x0 x1, ∃ t, execLaneEccCorrected x0 x1 = .next t ∧ Acts 34361835520 x1 t := by
  intro x0 x1
  unfold execLaneEccCorrected
  refine ⟨_, rfl, ?_⟩
  refine .ite (fun _ => ?_) fun _ => ?_
  · exact .refl _
  · refine .upd_hlt ?_ rfl
    refine .step ?_ (State.bump_acts ..) rfl
    exact .refl _

/-- Changes alarms, rcd, twn, hlt, slv, regs. -/
theorem State.katWork_acts : ∀ x0 x1, Acts 34496577920 x0 (State.katWork x0 x1) := by
  intro x0 x1
  unfold State.katWork
  refine .ite (fun _ => ?_) fun _ => ?_
  · refine .ite (fun _ => ?_) fun _ => ?_
    · refine .upd_slv ?_ rfl
      refine .upd_hlt ?_ rfl
      refine .step ?_ (State.setFlag_acts ..) rfl
      refine .step ?_ (State.setFld_acts ..) rfl
      exact .refl _
    · refine .upd_hlt ?_ rfl
      refine .step ?_ (State.setFlag_acts ..) rfl
      refine .step ?_ (State.setFld_acts ..) rfl
      exact .refl _
  · refine .step ?_ (State.raise_acts ..) rfl
    refine .upd_twn_hlt_slv ?_ rfl (.inr rfl)
    refine .upd_hlt ?_ rfl
    refine .step ?_ (State.setFlag_acts ..) rfl
    refine .step ?_ (State.setFld_acts ..) rfl
    exact .refl _

/-- Changes alarms, rcd, twn, hlt, slv, regs. -/
theorem State.solverWork_acts : ∀ x0 x1, Acts 34496577920 x0 (State.solverWork x0 x1) := by
  intro x0 x1
  unfold State.solverWork
  refine .step ?_ (State.katWork_acts ..) rfl
  refine .ite (fun _ => ?_) fun _ => ?_
  · exact .refl _
  · refine .step ?_ (State.raise_acts ..) rfl
    refine .upd_slv ?_ rfl
    exact .refl _

/-- Changes alarms, rcd, regs. -/
theorem State.spareIn_acts : ∀ x0 x1, Acts 34359738752 x0 (State.spareIn x0 x1) := by
  intro x0 x1
  unfold State.spareIn
  refine .ite (fun _ => ?_) fun _ => ?_
  · refine .step ?_ (State.raise_acts ..) rfl
    refine .step ?_ (State.setLane_acts ..) rfl
    exact .refl _
  · refine .step ?_ (State.setLane_acts ..) rfl
    exact .refl _

/-- Changes alarms, rcd, mram, slv, regs, recNext. -/
theorem State.retireLane_acts : ∀ x0 x1, Acts 281509470667648 x0 (State.retireLane x0 x1) := by
  intro x0 x1
  unfold State.retireLane
  try dsimp only
  split
  · refine .ite (fun _ => ?_) fun _ => ?_
    · refine .step ?_ (State.spareIn_acts ..) rfl
      refine .step ?_ (State.raise_acts ..) rfl
      refine .upd_slv ?_ rfl
      refine .step ?_ (State.event_acts ..) rfl
      refine .step ?_ (State.countRetired_acts ..) rfl
      refine .upd_mram ?_ rfl rfl rfl rfl (.inl rfl)
      refine .step ?_ (State.setLane_acts ..) rfl
      exact .refl _
    · refine .step ?_ (State.raise_acts ..) rfl
      refine .ite (fun _ => ?_) fun _ => ?_
      · refine .upd_slv ?_ rfl
        refine .step ?_ (State.event_acts ..) rfl
        refine .step ?_ (State.countRetired_acts ..) rfl
        refine .upd_mram ?_ rfl rfl rfl rfl (.inl rfl)
        refine .step ?_ (State.setLane_acts ..) rfl
        exact .refl _
      · refine .step ?_ (State.event_acts ..) rfl
        refine .step ?_ (State.countRetired_acts ..) rfl
        refine .upd_mram ?_ rfl rfl rfl rfl (.inl rfl)
        refine .step ?_ (State.setLane_acts ..) rfl
        exact .refl _
  · refine .step ?_ (State.raise_acts ..) rfl
    refine .ite (fun _ => ?_) fun _ => ?_
    · refine .upd_slv ?_ rfl
      refine .step ?_ (State.event_acts ..) rfl
      refine .step ?_ (State.countRetired_acts ..) rfl
      refine .upd_mram ?_ rfl rfl rfl rfl (.inl rfl)
      refine .step ?_ (State.setLane_acts ..) rfl
      exact .refl _
    · refine .step ?_ (State.event_acts ..) rfl
      refine .step ?_ (State.countRetired_acts ..) rfl
      refine .upd_mram ?_ rfl rfl rfl rfl (.inl rfl)
      refine .step ?_ (State.setLane_acts ..) rfl
      exact .refl _

/-- Changes alarms, rcd, mram, slv, regs, recNext. -/
theorem State.lanesFreeze_acts : ∀ x0, Acts 281509470667648 x0 (State.lanesFreeze x0) := by
  intro x0
  unfold State.lanesFreeze
  try dsimp only
  split
  · refine .ite (fun _ => ?_) fun _ => ?_
    · refine .step ?_ (State.spareIn_acts ..) rfl
      refine .upd_slv ?_ rfl
      refine .upd_slv ?_ rfl
      refine .each ?_ ?_
      · exact .refl _
      · intro _ _
        refine .step ?_ (State.retireLane_acts ..) rfl
        exact .refl _
    · refine .upd_slv ?_ rfl
      refine .upd_slv ?_ rfl
      refine .each ?_ ?_
      · exact .refl _
      · intro _ _
        refine .step ?_ (State.retireLane_acts ..) rfl
        exact .refl _
  · refine .upd_slv ?_ rfl
    refine .each ?_ ?_
    · exact .refl _
    · intro _ _
      refine .step ?_ (State.retireLane_acts ..) rfl
      exact .refl _

/-- Changes slv, regs. -/
theorem State.storeMoulds_acts : ∀ x0 x1, Acts 34493956096 x0 (State.storeMoulds x0 x1) := by
  intro x0 x1
  unfold State.storeMoulds
  refine .foldl ?_ ?_
  · refine .upd_slv ?_ rfl
    exact .refl _
  · intro _ _
    refine .step ?_ (State.setReg_acts ..) rfl
    refine .step ?_ (State.setReg_acts ..) rfl
    refine .step ?_ (State.setReg_acts ..) rfl
    exact .refl _

/-! Pose.lean -/

/-- Changes alarms, rcd, slv, regs, xchg. -/
theorem State.poseProblem_acts : ∀ x0 x1 x2 x3 x4 x5, Acts 309371863424 x0 (State.poseProblem x0 x1 x2 x3 x4 x5) := by
  intro x0 x1 x2 x3 x4 x5
  unfold State.poseProblem
  refine .step ?_ (State.slvPush_acts ..) rfl
  refine .step ?_ (State.xchgWrite_acts ..) rfl
  refine .step ?_ (State.xchgWrite_acts ..) rfl
  exact .refl _

/-- Changes alarms, rcd, slv, regs, xchg. -/
theorem State.poseFill_acts : ∀ x0 x1 x2 x3, Acts 309371863424 x0 (State.poseFill x0 x1 x2 x3) := by
  intro x0 x1 x2 x3
  unfold State.poseFill
  split
  · refine .ite (fun _ => ?_) fun _ => ?_
    · exact .refl _
    · refine .step ?_ (State.slvPush_acts ..) rfl
      refine .step ?_ (State.xchgWrite_acts ..) rfl
      exact .refl _
  · exact .refl _

/-! Control.lean -/

/-- Changes dev, ctl, devAim. -/
theorem State.takeFused_acts : ∀ x0, Acts 35184405643296 x0 (State.takeFused x0) := by
  intro x0
  unfold State.takeFused
  refine .ite (fun _ => ?_) fun _ => ?_
  · refine .upd_dev_ctl ?_ rfl rfl (.inr rfl) (.inr rfl) (.inr rfl) (.inl rfl)
    exact .refl _
  · exact .refl _

/-- Changes ctl. -/
theorem State.moveToSetPoint_acts : ∀ x0, Acts 33554432 x0 (State.moveToSetPoint x0) := by
  intro x0
  unfold State.moveToSetPoint
  refine .upd_ctl ?_ rfl rfl
  exact .refl _

/-- Changes ctl. -/
theorem State.moveOnTrack_acts : ∀ x0, Acts 33554432 x0 (State.moveOnTrack x0) := by
  intro x0
  unfold State.moveOnTrack
  split
  · exact .refl _
  · refine .ite (fun _ => ?_) fun _ => ?_
    · refine .upd_ctl ?_ rfl rfl
      exact .refl _
    · refine .upd_ctl ?_ rfl rfl
      exact .refl _

/-- Changes ctl. -/
theorem State.takeMember_acts : ∀ x0 x1, Acts 33554432 x0 (State.takeMember x0 x1) := by
  intro x0 x1
  unfold State.takeMember
  split
  · refine .upd_ctl ?_ rfl rfl
    exact .refl _
  · exact .refl _

/-- Changes ctl. -/
theorem State.takeTarget_acts : ∀ x0, Acts 33554432 x0 (State.takeTarget x0) := by
  intro x0
  unfold State.takeTarget
  split
  · refine .ite (fun _ => ?_) fun _ => ?_
    · refine .upd_ctl ?_ rfl rfl
      exact .refl _
    · refine .ite (fun _ => ?_) fun _ => ?_
      · refine .step ?_ (State.takeMember_acts ..) rfl
        exact .refl _
      · exact .refl _
  · exact .refl _

/-- Changes ctl. -/
theorem State.moveFollow_acts : ∀ x0, Acts 33554432 x0 (State.moveFollow x0) := by
  intro x0
  unfold State.moveFollow
  split
  · refine .upd_ctl ?_ rfl rfl
    exact .refl _
  · exact .refl _

/-- Changes dev, ctl, devAim. -/
theorem State.moveReference_acts : ∀ x0, Acts 35184405643296 x0 (State.moveReference x0) := by
  intro x0
  unfold State.moveReference
  try dsimp only
  split
  · refine .step ?_ (State.moveOnTrack_acts ..) rfl
    refine .step ?_ (State.takeFused_acts ..) rfl
    refine .upd_ctl ?_ rfl rfl
    refine .step ?_ (State.takeTarget_acts ..) rfl
    exact .refl _
  · refine .step ?_ (State.moveFollow_acts ..) rfl
    refine .step ?_ (State.takeFused_acts ..) rfl
    refine .upd_ctl ?_ rfl rfl
    refine .step ?_ (State.takeTarget_acts ..) rfl
    exact .refl _
  · refine .upd_ctl ?_ rfl rfl
    refine .step ?_ (State.moveToSetPoint_acts ..) rfl
    refine .step ?_ (State.takeFused_acts ..) rfl
    refine .upd_ctl ?_ rfl rfl
    refine .step ?_ (State.takeTarget_acts ..) rfl
    exact .refl _
  · refine .step ?_ (State.takeFused_acts ..) rfl
    refine .upd_ctl ?_ rfl rfl
    refine .step ?_ (State.takeTarget_acts ..) rfl
    exact .refl _
  · refine .step ?_ (State.moveToSetPoint_acts ..) rfl
    refine .step ?_ (State.takeFused_acts ..) rfl
    refine .upd_ctl ?_ rfl rfl
    refine .step ?_ (State.takeTarget_acts ..) rfl
    exact .refl _

/-- Changes ctl. -/
theorem State.deadbands_acts : ∀ x0, Acts 33554432 x0 (State.deadbands x0) := by
  intro x0
  unfold State.deadbands
  refine .upd_ctl ?_ rfl rfl
  exact .refl _

/-- Changes ctl. -/
theorem State.integrate_acts : ∀ x0, Acts 33554432 x0 (State.integrate x0) := by
  intro x0
  unfold State.integrate
  refine .ite (fun _ => ?_) fun _ => ?_
  · refine .upd_ctl ?_ rfl rfl
    exact .refl _
  · refine .upd_ctl ?_ rfl rfl
    exact .refl _

/-- Changes alarms, rcd, ctl, regs. -/
theorem State.windFeedforward_acts : ∀ x0, Acts 34393293184 x0 (State.windFeedforward x0) := by
  intro x0
  unfold State.windFeedforward
  refine .ite (fun _ => ?_) fun _ => ?_
  · refine .step ?_ (State.causeGone_acts ..) rfl
    refine .upd_ctl ?_ rfl rfl
    refine .ite (fun _ => ?_) fun _ => ?_
    · refine .step ?_ (State.raise_acts ..) rfl
      refine .upd_ctl ?_ rfl rfl
      exact .refl _
    · refine .ite (fun _ => ?_) fun _ => ?_
      · refine .upd_ctl ?_ rfl rfl
        exact .refl _
      · exact .refl _
  · refine .upd_ctl ?_ rfl rfl
    refine .ite (fun _ => ?_) fun _ => ?_
    · refine .step ?_ (State.raise_acts ..) rfl
      refine .upd_ctl ?_ rfl rfl
      exact .refl _
    · refine .ite (fun _ => ?_) fun _ => ?_
      · refine .upd_ctl ?_ rfl rfl
        exact .refl _
      · exact .refl _

/-- Changes alarms, rcd, ctl, slv, regs, xchg. -/
theorem State.poseControl_acts : ∀ x0, Acts 309405417856 x0 (State.poseControl x0) := by
  intro x0
  unfold State.poseControl
  split
  · split
    · refine .upd_ctl ?_ rfl rfl
      refine .step ?_ (State.poseProblem_acts ..) rfl
      exact .refl _
    · exact .refl _
  · exact .refl _

/-- Changes alarms, rcd, ctl, regs, xchg. -/
theorem State.controlSolved_acts : ∀ x0 x1, Acts 309271200128 x0 (State.controlSolved x0 x1) := by
  intro x0 x1
  unfold State.controlSolved
  refine .step ?_ (State.causeGone_acts ..) rfl
  refine .step ?_ (State.causeGone_acts ..) rfl
  refine .step ?_ (State.xchgWrite_acts ..) rfl
  refine .upd_ctl ?_ rfl rfl
  exact .refl _

/-- Changes alarms, rcd, ctl, regs. -/
theorem State.controlUnsolved_acts : ∀ x0, Acts 34393293184 x0 (State.controlUnsolved x0) := by
  intro x0
  unfold State.controlUnsolved
  refine .ite (fun _ => ?_) fun _ => ?_
  · refine .step ?_ (State.raise_acts ..) rfl
    refine .upd_ctl ?_ rfl rfl
    exact .refl _
  · refine .step ?_ (State.raise_acts ..) rfl
    refine .upd_ctl ?_ rfl rfl
    exact .refl _

/-- Changes ctl. -/
theorem State.joystickTau_acts : ∀ x0, Acts 33554432 x0 (State.joystickTau x0) := by
  intro x0
  unfold State.joystickTau
  refine .upd_ctl ?_ rfl rfl
  exact .refl _

/-- Changes ctl. -/
theorem State.supervise_acts : ∀ x0, Acts 33554432 x0 (State.supervise x0) := by
  intro x0
  unfold State.supervise
  refine .upd_ctl ?_ rfl rfl
  exact .refl _

/-- Changes dev, ord, ctl, devAim. -/
theorem State.supervisionAction_acts : ∀ x0 x1, Acts 35184405643360 x0 (State.supervisionAction x0 x1) := by
  intro x0 x1
  unfold State.supervisionAction
  refine .ite (fun _ => ?_) fun _ => ?_
  · refine .upd_dev ?_ rfl (.inr rfl) (.inr rfl) (.inr rfl) (.inl rfl)
    refine .step ?_ (State.ownMode_acts ..) rfl
    refine .step ?_ (State.stopInjection_acts ..) rfl
    exact .refl _
  · refine .step ?_ (State.stopInjection_acts ..) rfl
    exact .refl _

/-- Changes dev, alarms, rcd, ctl, slv, regs, xchg, devAim. -/
theorem State.controlBegins_acts : ∀ x0, Acts 35493777506720 x0 (State.controlBegins x0) := by
  intro x0
  unfold State.controlBegins
  refine .upd_ctl ?_ rfl rfl
  refine .step ?_ (State.supervise_acts ..) rfl
  refine .ite (fun _ => ?_) fun _ => ?_
  · refine .upd_ctl ?_ rfl rfl
    refine .step ?_ (State.windFeedforward_acts ..) rfl
    refine .step ?_ (State.moveReference_acts ..) rfl
    exact .refl _
  · refine .step ?_ (State.poseControl_acts ..) rfl
    refine .step ?_ (State.integrate_acts ..) rfl
    refine .step ?_ (State.deadbands_acts ..) rfl
    refine .step ?_ (State.windFeedforward_acts ..) rfl
    refine .step ?_ (State.moveReference_acts ..) rfl
    exact .refl _

/-- Changes alarms, rcd, ctl, regs, xchg. -/
theorem State.controlEnds_acts : ∀ x0, Acts 309271200128 x0 (State.controlEnds x0) := by
  intro x0
  unfold State.controlEnds
  refine .ite (fun _ => ?_) fun _ => ?_
  · refine .step ?_ (State.joystickTau_acts ..) rfl
    exact .refl _
  · refine .ite (fun _ => ?_) fun _ => ?_
    · refine .step ?_ (State.controlSolved_acts ..) rfl
      exact .refl _
    · refine .step ?_ (State.controlUnsolved_acts ..) rfl
      exact .refl _

/-- Changes alarms, rcd, ctl, regs. -/
theorem State.controlLate_acts : ∀ x0, Acts 34393293184 x0 (State.controlLate x0) := by
  intro x0
  unfold State.controlLate
  refine .ite (fun _ => ?_) fun _ => ?_
  · exact .refl _
  · refine .step ?_ (State.controlUnsolved_acts ..) rfl
    exact .refl _

/-- Changes dev, alarms, rcd, ctl, slv, regs, xchg, devAim. -/
theorem execControlStepRuns_acts : ∀ x0, ∃ t, execControlStepRuns x0 = .next t ∧ Acts 35493777506720 x0 t := by
  intro x0
  unfold execControlStepRuns
  refine ⟨_, rfl, ?_⟩
  refine .ite (fun _ => ?_) fun _ => ?_
  · exact .refl _
  · refine .ite (fun _ => ?_) fun _ => ?_
    · refine .step ?_ (State.controlLate_acts ..) rfl
      refine .upd_dev ?_ rfl (.inr rfl) (.inr rfl) (.inr rfl) (.inr rfl)
      exact .refl _
    · refine .ite (fun _ => ?_) fun _ => ?_
      · refine .ite (fun _ => ?_) fun _ => ?_
        · exact .refl _
        · refine .step ?_ (State.controlBegins_acts ..) rfl
          exact .refl _
      · refine .step ?_ (State.stepDone_acts ..) rfl
        refine .step ?_ (State.controlEnds_acts ..) rfl
        refine .ite (fun _ => ?_) fun _ => ?_
        · exact .refl _
        · refine .step ?_ (State.controlBegins_acts ..) rfl
          exact .refl _

/-- Changes dev, ord, alarms, rcd, tim, ctl, regs, devAim, elapsed, working. -/
theorem execFollowingErrorExpiry_acts : ∀ x0 x1, ∃ t, execFollowingErrorExpiry x0 x1 = .next t ∧ Acts 6790618206503392 x1 t := by
  intro x0 x1
  unfold execFollowingErrorExpiry
  refine ⟨_, rfl, ?_⟩
  split
  · refine .step ?_ (State.supervisionAction_acts ..) rfl
    refine .step ?_ (State.raise_acts ..) rfl
    refine .step ?_ (State.reachEl_acts ..) rfl
    exact .refl _
  · exact .refl _

/-- Changes dev, ord, alarms, rcd, tim, ctl, regs, devAim, elapsed, working. -/
theorem execModelPlausibilityExpiry_acts : ∀ x0 x1, ∃ t, execModelPlausibilityExpiry x0 x1 = .next t ∧ Acts 6790618206503392 x1 t := by
  intro x0 x1
  unfold execModelPlausibilityExpiry
  refine ⟨_, rfl, ?_⟩
  split
  · refine .step ?_ (State.supervisionAction_acts ..) rfl
    refine .step ?_ (State.raise_acts ..) rfl
    refine .step ?_ (State.reachEl_acts ..) rfl
    exact .refl _
  · exact .refl _

/-- Changes dev, ord, alarms, rcd, tim, regs, elapsed, working. -/
theorem execFollowRefLoss_acts : ∀ x0, ∃ t, execFollowRefLoss x0 = .next t ∧ Acts 6755433800860128 x0 t := by
  intro x0
  unfold execFollowRefLoss
  refine ⟨_, rfl, ?_⟩
  refine .ite (fun _ => ?_) fun _ => ?_
  · refine .step ?_ (State.raise_acts ..) rfl
    refine .step ?_ (State.ownMode_acts ..) rfl
    refine .step ?_ (State.reachEl_acts ..) rfl
    exact .refl _
  · exact .refl _

/-- Changes dev, tim, elapsed, working. -/
theorem execJoystickTimeout_acts : ∀ x0, ∃ t, execJoystickTimeout x0 = .next t ∧ Acts 6755399441121312 x0 t := by
  intro x0
  unfold execJoystickTimeout
  refine ⟨_, rfl, ?_⟩
  refine .ite (fun _ => ?_) fun _ => ?_
  · refine .upd_dev ?_ rfl (.inr rfl) (.inr rfl) (.inr rfl) (.inr rfl)
    refine .step ?_ (State.reachEl_acts ..) rfl
    exact .refl _
  · exact .refl _

/-- Changes tim, ctl, elapsed, working. -/
theorem execWindFeedforwardRamp_acts : ∀ x0, ∃ t, execWindFeedforwardRamp x0 = .next t ∧ Acts 6755399474675712 x0 t := by
  intro x0
  unfold execWindFeedforwardRamp
  refine ⟨_, rfl, ?_⟩
  split
  · refine .upd_ctl ?_ rfl rfl
    refine .step ?_ (State.reachEl_acts ..) rfl
    exact .refl _
  · exact .refl _

/-- Changes tim, ctl, elapsed, working. -/
theorem execInjectionEnd_acts : ∀ x0, ∃ t, execInjectionEnd x0 = .next t ∧ Acts 6755399474675712 x0 t := by
  intro x0
  unfold execInjectionEnd
  refine ⟨_, rfl, ?_⟩
  split
  · refine .ite (fun _ => ?_) fun _ => ?_
    · refine .upd_ctl ?_ rfl rfl
      refine .step ?_ (State.reach_acts ..) rfl
      exact .refl _
    · exact .refl _
  · exact .refl _

/-- Changes ord, ctl, regs. -/
theorem State.testStartInjectionOrder_acts (s : State) (order : OrderIn) : Acts 34393292864 s (s.testStartInjectionOrder order) := by
  unfold State.testStartInjectionOrder
  refine State.evalOrder_acts (Acts.refl s) (fun t => ?_) rfl
  refine Acts.step ?_ (State.setReg_acts ..) rfl
  exact ⟨fun p hp => by cases p <;> first | rfl | exact absurd hp (by decide), fun k => k.of_canonical (let c := k.canonical; ⟨c.1, c.2.1, c.2.2.1, c.2.2.2.1, c.2.2.2.2.1, c.2.2.2.2.2.1,
    c.2.2.2.2.2.2.1, c.2.2.2.2.2.2.2.1, rfl⟩) rfl rfl rfl rfl rfl⟩

/-- Changes ord, ctl, regs. -/
theorem execTestStartInjection_acts : ∀ x0 x1, ∃ t, execTestStartInjection x0 x1 = .next t ∧ Acts 34393292864 x1 t := by
  intro x0 x1
  unfold execTestStartInjection
  refine ⟨_, rfl, ?_⟩
  refine State.takeOrder_acts ?_ ?_ rfl
  · exact .refl _
  · refine .step ?_ (State.testStartInjectionOrder_acts ..) rfl
    exact .refl _

/-- Changes ord, alarms, rcd, mram, saf, ctl, regs, brakes. -/
theorem State.testStopOrder_acts : ∀ x0 x1, Acts 1125934301184960 x0 (State.testStopOrder x0 x1) := by
  intro x0 x1
  unfold State.testStopOrder
  refine State.evalOrder_acts ?_ ?_ rfl
  · exact .refl _
  · intro _
    refine .step ?_ (State.stopInjection_acts ..) rfl
    refine .step ?_ (State.endBrakeTest_acts ..) rfl
    exact .refl _

/-- Changes ord, alarms, rcd, mram, saf, ctl, regs, brakes. -/
theorem execTestStop_acts : ∀ x0 x1, ∃ t, execTestStop x0 x1 = .next t ∧ Acts 1125934301184960 x1 t := by
  intro x0 x1
  unfold execTestStop
  refine ⟨_, rfl, ?_⟩
  refine State.takeOrder_acts ?_ ?_ rfl
  · exact .refl _
  · refine .step ?_ (State.testStopOrder_acts ..) rfl
    exact .refl _

/-- Changes ctl. -/
theorem State.injectionFreeze_acts : ∀ x0, Acts 33554432 x0 (State.injectionFreeze x0) := by
  intro x0
  unfold State.injectionFreeze
  split
  · refine .upd_ctl ?_ rfl rfl
    exact .refl _
  · exact .refl _

/-- Changes ctl. -/
theorem State.injectionChecks_acts : ∀ x0, Acts 33554432 x0 (State.injectionChecks x0) := by
  intro x0
  unfold State.injectionChecks
  split
  · refine .ite (fun _ => ?_) fun _ => ?_
    · refine .step ?_ (State.stopInjection_acts ..) rfl
      refine .ite (fun _ => ?_) fun _ => ?_
      · refine .step ?_ (State.stopInjection_acts ..) rfl
        exact .refl _
      · exact .refl _
    · refine .ite (fun _ => ?_) fun _ => ?_
      · refine .step ?_ (State.stopInjection_acts ..) rfl
        exact .refl _
      · exact .refl _
  · exact .refl _

/-- Changes ctl, regs. -/
theorem State.captureSample_acts (s : State) (f : Nat → List Word) : Acts 34393292800 s (s.captureSample f) := by
  unfold State.captureSample
  split
  · refine Acts.ite (fun _ => ?_) (fun _ => Acts.refl s)
    refine Acts.step ?_ (State.setReg_acts ..) rfl
    exact ⟨fun p hp => by cases p <;> first | rfl | exact absurd hp (by decide), fun k => k.of_canonical (let c := k.canonical; ⟨c.1, c.2.1, c.2.2.1, c.2.2.2.1, c.2.2.2.2.1, c.2.2.2.2.2.1,
      c.2.2.2.2.2.2.1, c.2.2.2.2.2.2.2.1, memWf_memSetRun _ _ _ _ _ c.2.2.2.2.2.2.2.2⟩) rfl rfl rfl rfl rfl⟩
  · exact Acts.refl s

/-- Changes regs. -/
theorem State.publishControl_acts : ∀ x0, Acts 34359738368 x0 (State.publishControl x0) := by
  intro x0
  unfold State.publishControl
  refine .each ?_ ?_
  · refine .each ?_ ?_
    · refine .step ?_ (State.setReg_acts ..) rfl
      exact .refl _
    · intro _ _
      refine .step ?_ (State.setReg_acts ..) rfl
      exact .refl _
  · intro _ _
    refine .step ?_ (State.setReg_acts ..) rfl
    exact .refl _

/-- Changes ctl. -/
theorem State.controlNewMode_acts : ∀ x0, Acts 33554432 x0 (State.controlNewMode x0) := by
  intro x0
  unfold State.controlNewMode
  refine .upd_ctl ?_ rfl rfl
  refine .step ?_ (State.stopInjection_acts ..) rfl
  exact .refl _

/-! Allocation.lean -/

/-- Changes alc. -/
theorem State.setThr_acts : ∀ x0 x1 x2, Acts 67108864 x0 (State.setThr x0 x1 x2) := by
  intro x0 x1 x2
  unfold State.setThr
  refine .upd_alc ?_ rfl
  exact .refl _

/-- Changes alc. -/
theorem State.plantInputs_acts : ∀ x0 x1, Acts 67108864 x0 (State.plantInputs x0 x1) := by
  intro x0 x1
  unfold State.plantInputs
  refine .upd_alc ?_ rfl
  refine .each ?_ ?_
  · exact .refl _
  · intro _ _
    refine .step ?_ (State.setThr_acts ..) rfl
    exact .refl _

/-- Changes alc, regs. -/
theorem State.thrOut_acts : ∀ x0 x1, Acts 34426847232 x0 (State.thrOut x0 x1) := by
  intro x0 x1
  unfold State.thrOut
  refine .ite (fun _ => ?_) fun _ => ?_
  · refine .step ?_ (State.event_acts ..) rfl
    refine .step ?_ (State.setThr_acts ..) rfl
    exact .refl _
  · exact .refl _

/-- Changes ord, alarms, rcd, alc, regs. -/
theorem State.availabilityFreeze_acts : ∀ x0, Acts 34426847680 x0 (State.availabilityFreeze x0) := by
  intro x0
  unfold State.availabilityFreeze
  refine .upd_alc ?_ rfl
  refine .each ?_ ?_
  · refine .each ?_ ?_
    · refine .upd_ord ?_ rfl
      refine .foldl ?_ ?_
      · exact .refl _
      · intro _ _
        refine .ite (fun _ => ?_) fun _ => ?_
        · refine .step ?_ (State.setThr_acts ..) rfl
          exact .refl _
        · refine .step ?_ (State.thrOut_acts ..) rfl
          exact .refl _
    · intro _ _
      refine .ite (fun _ => ?_) fun _ => ?_
      · refine .step ?_ (State.thrOut_acts ..) rfl
        exact .refl _
      · exact .refl _
  · intro _ _
    refine .ite (fun _ => ?_) fun _ => ?_
    · refine .step ?_ (State.raise_acts ..) rfl
      refine .step ?_ (State.thrOut_acts ..) rfl
      exact .refl _
    · exact .refl _

/-- Changes ord, alarms, rcd, mram, saf, regs, brakes. -/
theorem State.thrusterAvailOrder_acts : ∀ x0 x1, Acts 1125934267630528 x0 (State.thrusterAvailOrder x0 x1) := by
  intro x0 x1
  unfold State.thrusterAvailOrder
  refine State.evalOrder_acts ?_ ?_ rfl
  · exact .refl _
  · intro _
    refine .upd_ord ?_ rfl
    split
    · refine .ite (fun _ => ?_) fun _ => ?_
      · refine .step ?_ (State.endBrakeTest_acts ..) rfl
        exact .refl _
      · exact .refl _
    · exact .refl _

/-- Changes ord, alarms, rcd, mram, saf, regs, brakes. -/
theorem execThrusterAvail_acts : ∀ x0 x1, ∃ t, execThrusterAvail x0 x1 = .next t ∧ Acts 1125934267630528 x1 t := by
  intro x0 x1
  unfold execThrusterAvail
  refine ⟨_, rfl, ?_⟩
  refine State.takeOrder_acts ?_ ?_ rfl
  · exact .refl _
  · refine .step ?_ (State.thrusterAvailOrder_acts ..) rfl
    exact .refl _

/-- Changes alc. -/
theorem State.command_acts : ∀ x0 x1 x2 x3 x4 x5, Acts 67108864 x0 (State.command x0 x1 x2 x3 x4 x5) := by
  intro x0 x1 x2 x3 x4 x5
  unfold State.command
  refine .ite (fun _ => ?_) fun _ => ?_
  · refine .step ?_ (State.setThr_acts ..) rfl
    exact .refl _
  · refine .ite (fun _ => ?_) fun _ => ?_
    · refine .step ?_ (State.setThr_acts ..) rfl
      exact .refl _
    · refine .step ?_ (State.setThr_acts ..) rfl
      exact .refl _

/-- Changes alc. -/
theorem State.swingStep_acts : ∀ x0 x1 x2 x3, Acts 67108864 x0 (State.swingStep x0 x1 x2 x3) := by
  intro x0 x1 x2 x3
  unfold State.swingStep
  refine .step ?_ (State.setThr_acts ..) rfl
  exact .refl _

/-- Changes alc. -/
theorem State.idleThruster_acts : ∀ x0 x1, Acts 67108864 x0 (State.idleThruster x0 x1) := by
  intro x0 x1
  unfold State.idleThruster
  refine .step ?_ (State.setThr_acts ..) rfl
  exact .refl _

/-- Changes alc. -/
theorem State.solvedCommand_acts : ∀ x0 x1, Acts 67108864 x0 (State.solvedCommand x0 x1) := by
  intro x0 x1
  unfold State.solvedCommand
  refine .ite (fun _ => ?_) fun _ => ?_
  · refine .step ?_ (State.command_acts ..) rfl
    exact .refl _
  · refine .step ?_ (State.command_acts ..) rfl
    exact .refl _

/-- Changes alc. -/
theorem State.fallbackCommand_acts : ∀ x0 x1, Acts 67108864 x0 (State.fallbackCommand x0 x1) := by
  intro x0 x1
  unfold State.fallbackCommand
  refine .step ?_ (State.setThr_acts ..) rfl
  exact .refl _

/-- Changes alc. -/
theorem State.applyAllocation_acts : ∀ x0 x1, Acts 67108864 x0 (State.applyAllocation x0 x1) := by
  intro x0 x1
  unfold State.applyAllocation
  refine .each ?_ ?_
  · exact .refl _
  · intro _ _
    refine .ite (fun _ => ?_) fun _ => ?_
    · refine .step ?_ (State.idleThruster_acts ..) rfl
      exact .refl _
    · split
      · refine .step ?_ (State.swingStep_acts ..) rfl
        exact .refl _
      · refine .ite (fun _ => ?_) fun _ => ?_
        · refine .step ?_ (State.fallbackCommand_acts ..) rfl
          exact .refl _
        · refine .step ?_ (State.solvedCommand_acts ..) rfl
          exact .refl _

/-- Changes alarms, rcd, alc, regs. -/
theorem State.noteSlack_acts : ∀ x0 x1, Acts 34426847616 x0 (State.noteSlack x0 x1) := by
  intro x0 x1
  unfold State.noteSlack
  refine .ite (fun _ => ?_) fun _ => ?_
  · refine .step ?_ (State.causeGone_acts ..) rfl
    refine .each ?_ ?_
    · refine .upd_alc ?_ rfl
      exact .refl _
    · intro _ _
      refine .step ?_ (State.raise_acts ..) rfl
      refine .step ?_ (State.event_acts ..) rfl
      exact .refl _
  · refine .each ?_ ?_
    · refine .upd_alc ?_ rfl
      exact .refl _
    · intro _ _
      refine .step ?_ (State.raise_acts ..) rfl
      refine .step ?_ (State.event_acts ..) rfl
      exact .refl _

/-- Changes alc. -/
theorem State.setScen_acts : ∀ x0 x1 x2, Acts 67108864 x0 (State.setScen x0 x1 x2) := by
  intro x0 x1 x2
  unfold State.setScen
  refine .upd_alc ?_ rfl
  exact .refl _

/-- Changes alc, regs. -/
theorem State.generateScenarios_acts : ∀ x0, Acts 34426847232 x0 (State.generateScenarios x0) := by
  intro x0
  unfold State.generateScenarios
  refine .step ?_ (State.setFld_acts ..) rfl
  refine .upd_alc ?_ rfl
  exact .refl _

/-- Changes alc. -/
theorem State.movePhi_acts : ∀ x0 x1, Acts 67108864 x0 (State.movePhi x0 x1) := by
  intro x0 x1
  unfold State.movePhi
  refine .ite (fun _ => ?_) fun _ => ?_
  · exact .refl _
  · refine .step ?_ (State.setScen_acts ..) rfl
    exact .refl _

/-- Changes alarms, rcd, alc, slv, regs, xchg. -/
theorem State.poseBatch_acts : ∀ x0 x1 x2 x3, Acts 309438972288 x0 (State.poseBatch x0 x1 x2 x3) := by
  intro x0 x1 x2 x3
  unfold State.poseBatch
  split
  · split
    · refine .ite (fun _ => ?_) fun _ => ?_
      · refine .upd_alc ?_ rfl
        refine .step ?_ (State.poseProblem_acts ..) rfl
        exact .refl _
      · refine .step ?_ (State.poseProblem_acts ..) rfl
        exact .refl _
    · exact .refl _
  · exact .refl _

/-- Changes alarms, rcd, alc, slv, regs, xchg. -/
theorem State.poseScenario_acts : ∀ x0 x1 x2 x3, Acts 309438972288 x0 (State.poseScenario x0 x1 x2 x3) := by
  intro x0 x1 x2 x3
  unfold State.poseScenario
  refine .step ?_ (State.poseBatch_acts ..) rfl
  refine .ite (fun _ => ?_) fun _ => ?_
  · exact .refl _
  · refine .step ?_ (State.poseBatch_acts ..) rfl
    exact .refl _

/-- Changes alarms, rcd, alc, slv, regs, xchg. -/
theorem State.poseAllocation_acts : ∀ x0, Acts 309438972288 x0 (State.poseAllocation x0) := by
  intro x0
  unfold State.poseAllocation
  refine .foldl ?_ ?_
  · refine .step ?_ (State.poseBatch_acts ..) rfl
    exact .refl _
  · intro _ _
    refine .step ?_ (State.poseScenario_acts ..) rfl
    exact .refl _

/-- Changes alc. -/
theorem State.scenarioResult_acts : ∀ x0 x1 x2, Acts 67108864 x0 (State.scenarioResult x0 x1 x2) := by
  intro x0 x1 x2
  unfold State.scenarioResult
  refine .ite (fun _ => ?_) fun _ => ?_
  · refine .step ?_ (State.setScen_acts ..) rfl
    exact .refl _
  · refine .step ?_ (State.setScen_acts ..) rfl
    exact .refl _

/-- Changes alc. -/
theorem State.scenarioWaits_acts : ∀ x0 x1 x2, Acts 67108864 x0 (State.scenarioWaits x0 x1 x2) := by
  intro x0 x1 x2
  unfold State.scenarioWaits
  refine .step ?_ (State.setScen_acts ..) rfl
  exact .refl _

/-- Changes dev, alarms, rcd, alc, regs. -/
theorem State.noteFallback_acts : ∀ x0 x1, Acts 34426847648 x0 (State.noteFallback x0 x1) := by
  intro x0 x1
  unfold State.noteFallback
  try dsimp only
  split
  · refine .ite (fun _ => ?_) fun _ => ?_
    · refine .step ?_ (State.event_acts ..) rfl
      refine .step ?_ (State.setCond_acts ..) rfl
      refine .upd_alc ?_ rfl
      exact .refl _
    · refine .step ?_ (State.raise_acts ..) rfl
      refine .step ?_ (State.event_acts ..) rfl
      refine .step ?_ (State.setCond_acts ..) rfl
      refine .upd_alc ?_ rfl
      exact .refl _
  · refine .step ?_ (State.causeGone_acts ..) rfl
    refine .step ?_ (State.setCond_acts ..) rfl
    refine .upd_alc ?_ rfl
    exact .refl _

/-- Changes alarms, rcd, alc, regs. -/
theorem State.planAllocation_acts : ∀ x0, Acts 34426847616 x0 (State.planAllocation x0) := by
  intro x0
  unfold State.planAllocation
  refine .ite (fun _ => ?_) fun _ => ?_
  · refine .ite (fun _ => ?_) fun _ => ?_
    · refine .each ?_ ?_
      · refine .upd_alc ?_ rfl
        refine .each ?_ ?_
        · exact .refl _
        · intro _ _
          refine .step ?_ (State.movePhi_acts ..) rfl
          exact .refl _
      · intro _ _
        refine .step ?_ (State.scenarioWaits_acts ..) rfl
        exact .refl _
    · refine .step ?_ (State.raise_acts ..) rfl
      refine .each ?_ ?_
      · refine .upd_alc ?_ rfl
        refine .each ?_ ?_
        · exact .refl _
        · intro _ _
          refine .step ?_ (State.movePhi_acts ..) rfl
          exact .refl _
      · intro _ _
        refine .step ?_ (State.scenarioWaits_acts ..) rfl
        exact .refl _
  · refine .step ?_ (State.causeGone_acts ..) rfl
    refine .each ?_ ?_
    · refine .upd_alc ?_ rfl
      refine .each ?_ ?_
      · exact .refl _
      · intro _ _
        refine .step ?_ (State.movePhi_acts ..) rfl
        exact .refl _
    · intro _ _
      refine .step ?_ (State.scenarioWaits_acts ..) rfl
      exact .refl _

/-- Changes dev, alarms, rcd, alc, regs. -/
theorem State.allocationEnds_acts : ∀ x0, Acts 34426847648 x0 (State.allocationEnds x0) := by
  intro x0
  unfold State.allocationEnds
  refine .upd_alc ?_ rfl
  refine .foldl ?_ ?_
  · refine .step ?_ (State.noteSlack_acts ..) rfl
    refine .step ?_ (State.applyAllocation_acts ..) rfl
    refine .step ?_ (State.noteFallback_acts ..) rfl
    exact .refl _
  · intro _ _
    refine .step ?_ (State.scenarioResult_acts ..) rfl
    exact .refl _

/-- Changes alarms, rcd, slv, regs, xchg. -/
theorem State.poseFills_acts : ∀ x0, Acts 309371863424 x0 (State.poseFills x0) := by
  intro x0
  unfold State.poseFills
  refine .foldl ?_ ?_
  · exact .refl _
  · intro _ _
    refine .step ?_ (State.poseFill_acts ..) rfl
    exact .refl _

/-- Changes dev, alarms, rcd, alc, slv, regs, xchg. -/
theorem execAllocationStepRuns_acts : ∀ x0, ∃ t, execAllocationStepRuns x0 = .next t ∧ Acts 309438972320 x0 t := by
  intro x0
  unfold execAllocationStepRuns
  refine ⟨_, rfl, ?_⟩
  refine .ite (fun _ => ?_) fun _ => ?_
  · exact .refl _
  · refine .ite (fun _ => ?_) fun _ => ?_
    · refine .step ?_ (State.allocationEnds_acts ..) rfl
      refine .upd_dev_alc ?_ rfl (.inr rfl) (.inr rfl) (.inr rfl) (.inr rfl)
      refine .ite (fun _ => ?_) fun _ => ?_
      · exact .refl _
      · refine .step ?_ (State.poseFills_acts ..) rfl
        refine .step ?_ (State.poseAllocation_acts ..) rfl
        refine .step ?_ (State.planAllocation_acts ..) rfl
        exact .refl _
    · refine .ite (fun _ => ?_) fun _ => ?_
      · refine .ite (fun _ => ?_) fun _ => ?_
        · exact .refl _
        · refine .step ?_ (State.poseFills_acts ..) rfl
          refine .step ?_ (State.poseAllocation_acts ..) rfl
          refine .step ?_ (State.planAllocation_acts ..) rfl
          exact .refl _
      · refine .step ?_ (State.stepDone_acts ..) rfl
        refine .step ?_ (State.allocationEnds_acts ..) rfl
        refine .ite (fun _ => ?_) fun _ => ?_
        · exact .refl _
        · refine .step ?_ (State.poseFills_acts ..) rfl
          refine .step ?_ (State.poseAllocation_acts ..) rfl
          refine .step ?_ (State.planAllocation_acts ..) rfl
          exact .refl _

/-- Changes dev, alarms, rcd, alc, slv, regs, xchg. -/
theorem State.allocationLate_acts : ∀ x0, Acts 309438972320 x0 (State.allocationLate x0) := by
  intro x0
  unfold State.allocationLate
  refine .step ?_ (State.allocationEnds_acts ..) rfl
  refine .ite (fun _ => ?_) fun _ => ?_
  · exact .refl _
  · refine .step ?_ (State.poseFills_acts ..) rfl
    refine .step ?_ (State.planAllocation_acts ..) rfl
    exact .refl _

/-- Changes alarms, rcd, alc, regs. -/
theorem execScenarioStale_acts : ∀ x0 x1, ∃ t, execScenarioStale x0 x1 = .next t ∧ Acts 34426847616 x1 t := by
  intro x0 x1
  unfold execScenarioStale
  refine ⟨_, rfl, ?_⟩
  refine .ite (fun _ => ?_) fun _ => ?_
  · refine .step ?_ (State.raise_acts ..) rfl
    refine .step ?_ (State.setScen_acts ..) rfl
    exact .refl _
  · exact .refl _

/-- Changes tim, alc, elapsed, working. -/
theorem execShapeHoldExpiry_acts : ∀ x0 x1, ∃ t, execShapeHoldExpiry x0 x1 = .next t ∧ Acts 6755399508230144 x1 t := by
  intro x0 x1
  unfold execShapeHoldExpiry
  refine ⟨_, rfl, ?_⟩
  split
  · refine .step ?_ (State.setScen_acts ..) rfl
    refine .step ?_ (State.reachEl_acts ..) rfl
    exact .refl _
  · exact .refl _

/-- Changes alarms, rcd, tim, alc, regs, elapsed, working. -/
theorem execAzimuthSwing_acts : ∀ x0 x1, ∃ t, execAzimuthSwing x0 x1 = .next t ∧ Acts 6755433867968896 x1 t := by
  intro x0 x1
  unfold execAzimuthSwing
  refine ⟨_, rfl, ?_⟩
  split
  · refine .step ?_ (State.raise_acts ..) rfl
    refine .step ?_ (State.setThr_acts ..) rfl
    refine .step ?_ (State.reachEl_acts ..) rfl
    exact .refl _
  · exact .refl _

/-- Changes alc. -/
theorem State.allocationNewMode_acts : ∀ x0, Acts 67108864 x0 (State.allocationNewMode x0) := by
  intro x0
  unfold State.allocationNewMode
  refine .ite (fun _ => ?_) fun _ => ?_
  · refine .upd_alc ?_ rfl
    exact .refl _
  · exact .refl _

/-- Changes dev, alarms, rcd, alc, regs. -/
theorem State.scenarioAlarms_acts : ∀ x0, Acts 34426847648 x0 (State.scenarioAlarms x0) := by
  intro x0
  unfold State.scenarioAlarms
  refine .ite (fun _ => ?_) fun _ => ?_
  · refine .step ?_ (State.setCond_acts ..) rfl
    refine .each ?_ ?_
    · exact .refl _
    · intro _ _
      refine .ite (fun _ => ?_) fun _ => ?_
      · refine .step ?_ (State.raise_acts ..) rfl
        refine .step ?_ (State.event_acts ..) rfl
        refine .step ?_ (State.setScen_acts ..) rfl
        exact .refl _
      · refine .step ?_ (State.setScen_acts ..) rfl
        exact .refl _
  · refine .step ?_ (State.causeGone_acts ..) rfl
    refine .step ?_ (State.setCond_acts ..) rfl
    refine .each ?_ ?_
    · exact .refl _
    · intro _ _
      refine .ite (fun _ => ?_) fun _ => ?_
      · refine .step ?_ (State.raise_acts ..) rfl
        refine .step ?_ (State.event_acts ..) rfl
        refine .step ?_ (State.setScen_acts ..) rfl
        exact .refl _
      · refine .step ?_ (State.setScen_acts ..) rfl
        exact .refl _

/-- Changes alc, regs. -/
theorem State.publishAllocation_acts : ∀ x0, Acts 34426847232 x0 (State.publishAllocation x0) := by
  intro x0
  unfold State.publishAllocation
  refine .each ?_ ?_
  · refine .each ?_ ?_
    · refine .each ?_ ?_
      · refine .step ?_ (State.setReg_acts ..) rfl
        refine .step ?_ (State.setReg_acts ..) rfl
        refine .step ?_ (State.setReg_acts ..) rfl
        refine .upd_alc ?_ rfl
        exact .refl _
      · intro _ _
        refine .step ?_ (State.setReg_acts ..) rfl
        exact .refl _
    · intro _ _
      refine .step ?_ (State.setReg_acts ..) rfl
      refine .step ?_ (State.setReg_acts ..) rfl
      refine .step ?_ (State.setReg_acts ..) rfl
      refine .step ?_ (State.setReg_acts ..) rfl
      exact .refl _
  · intro _ _
    refine .foldl ?_ ?_
    · exact .refl _
    · intro _ _
      refine .step ?_ (State.setReg_acts ..) rfl
      exact .refl _

/-- Changes alc. -/
theorem State.commandsPoured_acts : ∀ x0, Acts 67108864 x0 (State.commandsPoured x0) := by
  intro x0
  unfold State.commandsPoured
  refine .each ?_ ?_
  · exact .refl _
  · intro _ _
    refine .step ?_ (State.setThr_acts ..) rfl
    exact .refl _

end Sys2Proof.Machine
end

