-- ==== Sys2Proof/Laws/ActsLinks.lean ====
section
/-! SUPPORT. What the operations of CAN, the serial lines and the formation link may change: one lemma each. -/
namespace Sys2Proof.Machine

/-! Can.lean -/

/-- Changes alarms, rcd, can, regs, out. -/
theorem State.objSend_acts : ∀ x0 x1 x2 x3, Acts 586263036288 x0 (State.objSend x0 x1 x2 x3) := by
  intro x0 x1 x2 x3
  unfold State.objSend
  refine .step ?_ (State.canSend_acts ..) rfl
  exact .refl _

/-- Changes alarms, rcd, can, regs. -/
theorem State.pushQ1_acts : ∀ x0 x1 x2, Acts 36507222400 x0 (State.pushQ1 x0 x1 x2) := by
  intro x0 x1 x2
  unfold State.pushQ1
  refine .ite (fun _ => ?_) fun _ => ?_
  · refine .step ?_ (State.setFld_acts ..) rfl
    refine .step ?_ (State.setCanChan_acts ..) rfl
    exact .refl _
  · refine .step ?_ (State.raise_acts ..) rfl
    refine .step ?_ (State.event_acts ..) rfl
    exact .refl _

/-- Changes can, regs. -/
theorem State.popQ1_acts : ∀ x0 x1, Acts 36507222016 x0 (State.popQ1 x0 x1) := by
  intro x0 x1
  unfold State.popQ1
  refine .step ?_ (State.setFld_acts ..) rfl
  refine .step ?_ (State.setCanChan_acts ..) rfl
  exact .refl _

/-- Changes can, regs. -/
theorem State.q1Write_acts : ∀ x0 x1 x2, Acts 36507222016 x0 (State.q1Write x0 x1 x2) := by
  intro x0 x1 x2
  unfold State.q1Write
  refine .ite (fun _ => ?_) fun _ => ?_
  · refine .step ?_ (State.popQ1_acts ..) rfl
    exact .refl _
  · exact .refl _

/-- Changes alarms, rcd, can, regs. -/
theorem State.objFrame_acts : ∀ x0 x1 x2, Acts 36507222400 x0 (State.objFrame x0 x1 x2) := by
  intro x0 x1 x2
  unfold State.objFrame
  refine .ite (fun _ => ?_) fun _ => ?_
  · refine .step ?_ (State.causeGone_acts ..) rfl
    refine .upd_can ?_ rfl
    exact .refl _
  · refine .upd_can ?_ rfl
    exact .refl _

/-- Changes alarms, rcd, can, regs. -/
theorem State.abandon_acts : ∀ x0 x1 x2, Acts 36507222400 x0 (State.abandon x0 x1 x2) := by
  intro x0 x1 x2
  unfold State.abandon
  try dsimp only
  split
  · refine .ite (fun _ => ?_) fun _ => ?_
    · refine .step ?_ (State.raise_acts ..) rfl
      refine .step ?_ (State.setCanChan_acts ..) rfl
      refine .step ?_ (State.event_acts ..) rfl
      refine .step ?_ (State.setCanChan_acts ..) rfl
      exact .refl _
    · refine .step ?_ (State.event_acts ..) rfl
      refine .step ?_ (State.setCanChan_acts ..) rfl
      exact .refl _
  · refine .step ?_ (State.raise_acts ..) rfl
    refine .step ?_ (State.setCanChan_acts ..) rfl
    refine .step ?_ (State.event_acts ..) rfl
    refine .step ?_ (State.setCanChan_acts ..) rfl
    exact .refl _

/-- Changes agr, twn, can, out. -/
theorem State.growPacket_acts : ∀ x0 x1 x2 x3, Acts 551904083968 x0 (State.growPacket x0 x1 x2 x3) := by
  intro x0 x1 x2 x3
  unfold State.growPacket
  refine .ite (fun _ => ?_) fun _ => ?_
  · refine .step ?_ (State.slotMessage_acts ..) rfl
    refine .step ?_ (State.setCanChan_acts ..) rfl
    exact .refl _
  · refine .step ?_ (State.setCanChan_acts ..) rfl
    refine .step ?_ (State.setCanChan_acts ..) rfl
    exact .refl _

/-- Changes alarms, rcd, agr, twn, can, regs, out. -/
theorem State.fastFrame_acts : ∀ x0 x1 x2 x3 x4, Acts 586263822720 x0 (State.fastFrame x0 x1 x2 x3 x4) := by
  intro x0 x1 x2 x3 x4
  unfold State.fastFrame
  refine .ite (fun _ => ?_) fun _ => ?_
  · refine .ite (fun _ => ?_) fun _ => ?_
    · split
      · refine .step ?_ (State.abandon_acts ..) rfl
        exact .refl _
      · exact .refl _
    · refine .step ?_ (State.growPacket_acts ..) rfl
      split
      · refine .step ?_ (State.abandon_acts ..) rfl
        exact .refl _
      · exact .refl _
  · split
    · refine .ite (fun _ => ?_) fun _ => ?_
      · refine .step ?_ (State.growPacket_acts ..) rfl
        exact .refl _
      · refine .step ?_ (State.abandon_acts ..) rfl
        exact .refl _
    · exact .refl _

/-- Changes alarms, rcd, agr, twn, can, regs, out. -/
theorem State.pgnFrame_acts : ∀ x0 x1 x2, Acts 586263822720 x0 (State.pgnFrame x0 x1 x2) := by
  intro x0 x1 x2
  unfold State.pgnFrame
  refine .ite (fun _ => ?_) fun _ => ?_
  · exact .refl _
  · refine .ite (fun _ => ?_) fun _ => ?_
    · refine .step ?_ (State.fastFrame_acts ..) rfl
      exact .refl _
    · refine .step ?_ (State.slotMessage_acts ..) rfl
      exact .refl _

/-- Changes alarms, rcd, agr, twn, can, regs, out. -/
theorem State.queue0_acts : ∀ x0 x1 x2, Acts 586263822720 x0 (State.queue0 x0 x1 x2) := by
  intro x0 x1 x2
  unfold State.queue0
  refine .step ?_ (State.pgnFrame_acts ..) rfl
  refine .foldl ?_ ?_
  · refine .foldl ?_ ?_
    · exact .refl _
    · intro _ _
      refine .step ?_ (State.objFrame_acts ..) rfl
      exact .refl _
  · intro _ _
    refine .upd_can ?_ rfl
    exact .refl _

/-- Changes can, regs, out. -/
theorem State.busTaken_acts : ∀ x0 x1 x2, Acts 586263035904 x0 (State.busTaken x0 x1 x2) := by
  intro x0 x1 x2
  unfold State.busTaken
  refine .step ?_ (State.setCanChan_acts ..) rfl
  refine .step ?_ (State.canSettle_acts ..) rfl
  exact .refl _

/-- Changes alarms, rcd, agr, twn, can, regs, out. -/
theorem execCanFrame_acts : ∀ x0 x1 x2, ∃ t, execCanFrame x0 x1 x2 = .next t ∧ Acts 586263822720 x2 t := by
  intro x0 x1 x2
  unfold execCanFrame
  refine ⟨_, rfl, ?_⟩
  refine .ite (fun _ => ?_) fun _ => ?_
  · exact .refl _
  · refine .ite (fun _ => ?_) fun _ => ?_
    · refine .ite (fun _ => ?_) fun _ => ?_
      · refine .step ?_ (State.raise_acts ..) rfl
        refine .step ?_ (State.event_acts ..) rfl
        refine .step ?_ (State.setFlag_acts ..) rfl
        refine .step ?_ (State.busTaken_acts ..) rfl
        exact .refl _
      · refine .step ?_ (State.setFlag_acts ..) rfl
        refine .step ?_ (State.busTaken_acts ..) rfl
        exact .refl _
    · split
      · refine .when ?_ ?_
        · refine .when ?_ ?_
          · refine .when ?_ ?_
            · refine .ite (fun _ => ?_) fun _ => ?_
              · refine .step ?_ (State.raise_acts ..) rfl
                refine .step ?_ (State.event_acts ..) rfl
                refine .step ?_ (State.setFlag_acts ..) rfl
                refine .step ?_ (State.busTaken_acts ..) rfl
                exact .refl _
              · refine .step ?_ (State.setFlag_acts ..) rfl
                refine .step ?_ (State.busTaken_acts ..) rfl
                exact .refl _
            · intro _
              refine .step ?_ (State.bump_acts ..) rfl
              exact .refl _
          · intro _
            refine .step ?_ (State.pushQ1_acts ..) rfl
            exact .refl _
        · intro _
          refine .step ?_ (State.queue0_acts ..) rfl
          exact .refl _
      · refine .ite (fun _ => ?_) fun _ => ?_
        · refine .step ?_ (State.raise_acts ..) rfl
          refine .step ?_ (State.event_acts ..) rfl
          refine .step ?_ (State.setFlag_acts ..) rfl
          refine .step ?_ (State.busTaken_acts ..) rfl
          exact .refl _
        · refine .step ?_ (State.setFlag_acts ..) rfl
          refine .step ?_ (State.busTaken_acts ..) rfl
          exact .refl _

/-- Changes alarms, rcd, tim, can, regs, elapsed, working. -/
theorem execFastPacketTimeout_acts : ∀ x0 x1 x2 x3, ∃ t, execFastPacketTimeout x0 x1 x2 x3 = .next t ∧ Acts 6755435948343680 x3 t := by
  intro x0 x1 x2 x3
  unfold execFastPacketTimeout
  refine ⟨_, rfl, ?_⟩
  split
  · refine .step ?_ (State.abandon_acts ..) rfl
    refine .step ?_ (State.reachEl_acts ..) rfl
    exact .refl _
  · exact .refl _

/-- Changes alarms, rcd, tim, can, regs, elapsed, working. -/
theorem execCanObjectTimeout_acts : ∀ x0 x1, ∃ t, execCanObjectTimeout x0 x1 = .next t ∧ Acts 6755435948343680 x1 t := by
  intro x0 x1
  unfold execCanObjectTimeout
  refine ⟨_, rfl, ?_⟩
  refine .ite (fun _ => ?_) fun _ => ?_
  · exact .refl _
  · refine .step ?_ (State.raise_acts ..) rfl
    refine .step ?_ (State.event_acts ..) rfl
    refine .upd_can ?_ rfl
    refine .step ?_ (State.reachEl_acts ..) rfl
    exact .refl _

/-- Changes alarms, rcd, acl, twn, can, regs, out. -/
theorem execCanQ1Pop_acts : ∀ x0 x1 x2, ∃ t, execCanQ1Pop x0 x1 x2 = .next t ∧ Acts 586263593344 x2 t := by
  intro x0 x1 x2
  unfold execCanQ1Pop
  refine ⟨_, rfl, ?_⟩
  refine State.commandWrite_acts ?_ ?_ rfl
  · exact .refl _
  · intro _
    refine .step ?_ (State.popQ1_acts ..) rfl
    exact .refl _

/-- Changes alarms, rcd, can, regs. -/
theorem State.canLevels_acts : ∀ x0 x1 x2 x3, Acts 36507222400 x0 (State.canLevels x0 x1 x2 x3) := by
  intro x0 x1 x2 x3
  unfold State.canLevels
  refine .ite (fun _ => ?_) fun _ => ?_
  · refine .step ?_ (State.raise_acts ..) rfl
    refine .step ?_ (State.setCanChan_acts ..) rfl
    refine .step ?_ (State.setFlag_acts ..) rfl
    refine .step ?_ (State.bump_acts ..) rfl
    refine .step ?_ (State.event_acts ..) rfl
    refine .step ?_ (State.setFld_acts ..) rfl
    refine .when ?_ ?_
    · refine .when ?_ ?_
      · refine .when ?_ ?_
        · refine .step ?_ (State.setFld_acts ..) rfl
          refine .step ?_ (State.setFld_acts ..) rfl
          exact .refl _
        · intro _
          refine .step ?_ (State.event_acts ..) rfl
          exact .refl _
      · intro _
        refine .step ?_ (State.event_acts ..) rfl
        exact .refl _
    · intro _
      refine .step ?_ (State.raise_acts ..) rfl
      exact .refl _
  · refine .ite (fun _ => ?_) fun _ => ?_
    · refine .ite (fun _ => ?_) fun _ => ?_
      · refine .when ?_ ?_
        · refine .when ?_ ?_
          · refine .when ?_ ?_
            · refine .step ?_ (State.setFld_acts ..) rfl
              refine .step ?_ (State.setFld_acts ..) rfl
              exact .refl _
            · intro _
              refine .step ?_ (State.event_acts ..) rfl
              exact .refl _
          · intro _
            refine .step ?_ (State.event_acts ..) rfl
            exact .refl _
        · intro _
          refine .step ?_ (State.raise_acts ..) rfl
          exact .refl _
      · refine .step ?_ (State.raise_acts ..) rfl
        refine .step ?_ (State.event_acts ..) rfl
        refine .step ?_ (State.setFld_acts ..) rfl
        refine .when ?_ ?_
        · refine .when ?_ ?_
          · refine .when ?_ ?_
            · refine .step ?_ (State.setFld_acts ..) rfl
              refine .step ?_ (State.setFld_acts ..) rfl
              exact .refl _
            · intro _
              refine .step ?_ (State.event_acts ..) rfl
              exact .refl _
          · intro _
            refine .step ?_ (State.event_acts ..) rfl
            exact .refl _
        · intro _
          refine .step ?_ (State.raise_acts ..) rfl
          exact .refl _
    · refine .step ?_ (State.setFld_acts ..) rfl
      refine .when ?_ ?_
      · refine .when ?_ ?_
        · refine .when ?_ ?_
          · refine .step ?_ (State.setFld_acts ..) rfl
            refine .step ?_ (State.setFld_acts ..) rfl
            exact .refl _
          · intro _
            refine .step ?_ (State.event_acts ..) rfl
            exact .refl _
        · intro _
          refine .step ?_ (State.event_acts ..) rfl
          exact .refl _
      · intro _
        refine .step ?_ (State.raise_acts ..) rfl
        exact .refl _

/-- Changes alarms, rcd, regs. -/
theorem State.canCauses_acts : ∀ x0, Acts 34359738752 x0 (State.canCauses x0) := by
  intro x0
  unfold State.canCauses
  refine .ite (fun _ => ?_) fun _ => ?_
  · refine .step ?_ (State.causeGone_acts ..) rfl
    refine .ite (fun _ => ?_) fun _ => ?_
    · refine .step ?_ (State.causeGone_acts ..) rfl
      refine .ite (fun _ => ?_) fun _ => ?_
      · refine .step ?_ (State.causeGone_acts ..) rfl
        exact .refl _
      · exact .refl _
    · refine .ite (fun _ => ?_) fun _ => ?_
      · refine .step ?_ (State.causeGone_acts ..) rfl
        exact .refl _
      · exact .refl _
  · refine .ite (fun _ => ?_) fun _ => ?_
    · refine .step ?_ (State.causeGone_acts ..) rfl
      refine .ite (fun _ => ?_) fun _ => ?_
      · refine .step ?_ (State.causeGone_acts ..) rfl
        exact .refl _
      · exact .refl _
    · refine .ite (fun _ => ?_) fun _ => ?_
      · refine .step ?_ (State.causeGone_acts ..) rfl
        exact .refl _
      · exact .refl _

/-- Changes alarms, rcd, can, regs. -/
theorem execCanError_acts : ∀ x0 x1 x2 x3, ∃ t, execCanError x0 x1 x2 x3 = .next t ∧ Acts 36507222400 x3 t := by
  intro x0 x1 x2 x3
  unfold execCanError
  refine ⟨_, rfl, ?_⟩
  refine .ite (fun _ => ?_) fun _ => ?_
  · refine .step ?_ (State.canCauses_acts ..) rfl
    refine .step ?_ (State.canLevels_acts ..) rfl
    refine .step ?_ (State.bump_acts ..) rfl
    exact .refl _
  · exact .refl _

/-- Changes tim, can, elapsed, working. -/
theorem execBusoffHoldExpiry_acts : ∀ x0 x1, ∃ t, execBusoffHoldExpiry x0 x1 = .next t ∧ Acts 6755401588604928 x1 t := by
  intro x0 x1
  unfold execBusoffHoldExpiry
  refine ⟨_, rfl, ?_⟩
  split
  · refine .step ?_ (State.setCanChan_acts ..) rfl
    refine .step ?_ (State.reachEl_acts ..) rfl
    exact .refl _
  · exact .refl _

/-- Changes alarms, rcd, tim, can, regs, elapsed, working. -/
theorem execBusoffRecovered_acts : ∀ x0 x1, ∃ t, execBusoffRecovered x0 x1 = .next t ∧ Acts 6755435948343680 x1 t := by
  intro x0 x1
  unfold execBusoffRecovered
  refine ⟨_, rfl, ?_⟩
  refine .ite (fun _ => ?_) fun _ => ?_
  · refine .step ?_ (State.canCauses_acts ..) rfl
    refine .step ?_ (State.event_acts ..) rfl
    refine .step ?_ (State.setFlag_acts ..) rfl
    refine .step ?_ (State.setFld_acts ..) rfl
    refine .step ?_ (State.setFld_acts ..) rfl
    refine .step ?_ (State.setFld_acts ..) rfl
    refine .step ?_ (State.setCanChan_acts ..) rfl
    refine .step ?_ (State.reachEl_acts ..) rfl
    exact .refl _
  · exact .refl _

/-- Changes alarms, rcd, tim, can, regs, out, elapsed, working. -/
theorem execCanReferenceMessageStarts_acts : ∀ x0 x1, ∃ t, execCanReferenceMessageStarts x0 x1 = .next t ∧ Acts 6755985704157568 x1 t := by
  intro x0 x1
  unfold execCanReferenceMessageStarts
  refine ⟨_, rfl, ?_⟩
  refine .ite (fun _ => ?_) fun _ => ?_
  · exact .refl _
  · refine .step ?_ (State.canSend_acts ..) rfl
    refine .step ?_ (State.reach_acts ..) rfl
    exact .refl _

/-- Changes can, regs. -/
theorem State.setupCan_acts : ∀ x0, Acts 36507222016 x0 (State.setupCan x0) := by
  intro x0
  unfold State.setupCan
  refine .upd_can ?_ rfl
  refine .each ?_ ?_
  · refine .each ?_ ?_
    · exact .refl _
    · intro _ _
      refine .step ?_ (State.setFld_acts ..) rfl
      refine .step ?_ (State.setFld_acts ..) rfl
      refine .step ?_ (State.setFlag_acts ..) rfl
      exact .refl _
  · intro _ _
    refine .step ?_ (State.setFld_acts ..) rfl
    refine .step ?_ (State.setFlag_acts ..) rfl
    exact .refl _

/-- Changes agr, twn, can, regs, out. -/
theorem State.canFreeze_acts : ∀ x0, Acts 586263822336 x0 (State.canFreeze x0) := by
  intro x0
  unfold State.canFreeze
  refine .foldl ?_ ?_
  · refine .each ?_ ?_
    · exact .refl _
    · intro _ _
      refine .step ?_ (State.canSettle_acts ..) rfl
      exact .refl _
  · intro _ _
    refine .ite (fun _ => ?_) fun _ => ?_
    · refine .step ?_ (State.ownItem_acts ..) rfl
      exact .refl _
    · try dsimp only
      split
      · refine .step ?_ (State.ownItem_acts ..) rfl
        exact .refl _
      · exact .refl _

/-- Changes alarms, rcd, can, regs, out. -/
theorem State.sendObject_acts : ∀ x0 x1 x2 x3, Acts 586263036288 x0 (State.sendObject x0 x1 x2 x3) := by
  intro x0 x1 x2 x3
  unfold State.sendObject
  try dsimp only
  split
  · refine .step ?_ (State.objSend_acts ..) rfl
    exact .refl _
  · refine .step ?_ (State.objSend_acts ..) rfl
    exact .refl _
  · refine .step ?_ (State.objSend_acts ..) rfl
    exact .refl _
  · split
    · refine .step ?_ (State.objSend_acts ..) rfl
      exact .refl _
    · exact .refl _

/-- Changes alarms, rcd, can, regs, out. -/
theorem State.canPour_acts : ∀ x0 x1, Acts 586263036288 x0 (State.canPour x0 x1) := by
  intro x0 x1
  unfold State.canPour
  refine .ite (fun _ => ?_) fun _ => ?_
  · refine .each ?_ ?_
    · exact .refl _
    · intro _ _
      refine .each ?_ ?_
      · exact .refl _
      · intro _ _
        refine .step ?_ (State.sendObject_acts ..) rfl
        exact .refl _
  · exact .refl _

/-! Serial.lean -/

/-- Changes regs. -/
theorem State.sptDrop_acts : ∀ x0 x1, Acts 34359738368 x0 (State.sptDrop x0 x1) := by
  intro x0 x1
  unfold State.sptDrop
  refine .step ?_ (State.bump_acts ..) rfl
  exact .refl _

/-- Changes alarms, rcd, spt, regs. -/
theorem State.charErrors_acts : ∀ x0 x1, Acts 38654706048 x0 (State.charErrors x0 x1) := by
  intro x0 x1
  unfold State.charErrors
  refine .step ?_ (State.sptDrop_acts ..) rfl
  refine .ite (fun _ => ?_) fun _ => ?_
  · refine .step ?_ (State.raise_acts ..) rfl
    refine .upd_spt ?_ rfl
    refine .step ?_ (State.bump_acts ..) rfl
    refine .step ?_ (State.event_acts ..) rfl
    exact .refl _
  · refine .step ?_ (State.bump_acts ..) rfl
    refine .step ?_ (State.event_acts ..) rfl
    exact .refl _

/-- Changes alarms, rcd, agr, twn, spt, regs, out. -/
theorem execSerialSentence_acts : ∀ x0 x1 x2, ∃ t, execSerialSentence x0 x1 x2 = .next t ∧ Acts 588411306368 x2 t := by
  intro x0 x1 x2
  unfold execSerialSentence
  refine ⟨_, rfl, ?_⟩
  refine .ite (fun _ => ?_) fun _ => ?_
  · exact .refl _
  · refine .ite (fun _ => ?_) fun _ => ?_
    · refine .step ?_ (State.raise_acts ..) rfl
      refine .step ?_ (State.bump_acts ..) rfl
      refine .step ?_ (State.event_acts ..) rfl
      exact .refl _
    · refine .ite (fun _ => ?_) fun _ => ?_
      · refine .step ?_ (State.charErrors_acts ..) rfl
        exact .refl _
      · refine .ite (fun _ => ?_) fun _ => ?_
        · refine .step ?_ (State.slotMessage_acts ..) rfl
          refine .step ?_ (State.bump_acts ..) rfl
          exact .refl _
        · refine .step ?_ (State.sptDrop_acts ..) rfl
          exact .refl _

/-- Changes agr, twn, regs, out. -/
theorem execRtcmFrame_acts : ∀ x0 x1 x2 x3 x4, ∃ t, execRtcmFrame x0 x1 x2 x3 x4 = .next t ∧ Acts 584116338688 x4 t := by
  intro x0 x1 x2 x3 x4
  unfold execRtcmFrame
  refine ⟨_, rfl, ?_⟩
  refine .ite (fun _ => ?_) fun _ => ?_
  · exact .refl _
  · refine .ite (fun _ => ?_) fun _ => ?_
    · refine .step ?_ (State.slotMessage_acts ..) rfl
      refine .step ?_ (State.bump_acts ..) rfl
      exact .refl _
    · refine .step ?_ (State.sptDrop_acts ..) rfl
      exact .refl _

/-- Changes regs. -/
theorem State.setupSpt_acts : ∀ x0, Acts 34359738368 x0 (State.setupSpt x0) := by
  intro x0
  unfold State.setupSpt
  refine .each ?_ ?_
  · exact .refl _
  · intro _ _
    refine .step ?_ (State.setFld_acts ..) rfl
    refine .step ?_ (State.setFlag_acts ..) rfl
    refine .step ?_ (State.setFld_acts ..) rfl
    refine .step ?_ (State.setFld_acts ..) rfl
    exact .refl _

/-- Changes alarms, rcd, spt, regs, out. -/
theorem State.serialPour_acts : ∀ x0 x1, Acts 588410519936 x0 (State.serialPour x0 x1) := by
  intro x0 x1
  unfold State.serialPour
  refine .ite (fun _ => ?_) fun _ => ?_
  · exact .refl _
  · refine .ite (fun _ => ?_) fun _ => ?_
    · refine .step ?_ (State.raise_acts ..) rfl
      refine .step ?_ (State.event_acts ..) rfl
      exact .refl _
    · refine .foldl ?_ ?_
      · refine .upd_spt ?_ rfl
        exact .refl _
      · intro _ _
        refine .step ?_ (State.send_acts ..) rfl
        exact .refl _

/-- Changes net. -/
theorem State.nextLine_acts : ∀ x0, Acts 1073741824 x0 (State.nextLine x0) := by
  intro x0
  unfold State.nextLine
  refine .upd_net ?_ rfl
  exact .refl _

/-- Changes net, regs, out. -/
theorem State.send450_acts : ∀ x0, Acts 585189294080 x0 (State.send450 x0) := by
  intro x0
  unfold State.send450
  refine .ite (fun _ => ?_) fun _ => ?_
  · exact .refl _
  · refine .foldl ?_ ?_
    · exact .refl _
    · intro _ _
      refine .step ?_ (State.udpSend_acts ..) rfl
      refine .step ?_ (State.nextLine_acts ..) rfl
      exact .refl _

/-- Changes net, regs, out. -/
theorem State.sendStream_acts : ∀ x0, Acts 585189294080 x0 (State.sendStream x0) := by
  intro x0
  unfold State.sendStream
  refine .ite (fun _ => ?_) fun _ => ?_
  · refine .step ?_ (State.udpSend_acts ..) rfl
    exact .refl _
  · exact .refl _

/-- Changes alarms, rcd, net, regs. -/
theorem State.abandonPublication_acts : ∀ x0, Acts 35433480576 x0 (State.abandonPublication x0) := by
  intro x0
  unfold State.abandonPublication
  refine .ite (fun _ => ?_) fun _ => ?_
  · exact .refl _
  · refine .step ?_ (State.raise_acts ..) rfl
    refine .step ?_ (State.event_acts ..) rfl
    refine .upd_net ?_ rfl
    exact .refl _

/-- Changes alarms, rcd, net, regs, out. -/
theorem State.publishImage_acts : ∀ x0 x1, Acts 585189294464 x0 (State.publishImage x0 x1) := by
  intro x0 x1
  unfold State.publishImage
  refine .ite (fun _ => ?_) fun _ => ?_
  · refine .step ?_ (State.abandonPublication_acts ..) rfl
    exact .refl _
  · refine .ite (fun _ => ?_) fun _ => ?_
    · refine .foldl ?_ ?_
      · refine .step ?_ (State.abandonPublication_acts ..) rfl
        exact .refl _
      · intro _ _
        refine .step ?_ (State.udpSend_acts ..) rfl
        exact .refl _
    · refine .upd_net ?_ rfl
      refine .step ?_ (State.abandonPublication_acts ..) rfl
      exact .refl _

/-- Changes tim, net, regs, out. -/
theorem State.ptpEmit_acts : ∀ x0 x1 x2 x3, Acts 585189359616 x0 (State.ptpEmit x0 x1 x2 x3) := by
  intro x0 x1 x2 x3
  unfold State.ptpEmit
  refine .ite (fun _ => ?_) fun _ => ?_
  · refine .step ?_ (State.ethSend_acts ..) rfl
    exact .refl _
  · refine .ite (fun _ => ?_) fun _ => ?_
    · refine .step ?_ (State.ethSend_acts ..) rfl
      exact .refl _
    · refine .step ?_ (State.ethSend_acts ..) rfl
      refine .upd_tim ?_ rfl (.inr rfl) (.inr rfl)
      exact .refl _

/-- Changes tim, net, regs, out, elapsed, working. -/
theorem execPtpMessageSend_acts : ∀ x0 x1 x2 x3, ∃ t, execPtpMessageSend x0 x1 x2 x3 = .next t ∧ Acts 6755984630415360 x3 t := by
  intro x0 x1 x2 x3
  unfold execPtpMessageSend
  refine ⟨_, rfl, ?_⟩
  refine .ite (fun _ => ?_) fun _ => ?_
  · exact .refl _
  · refine .step ?_ (State.ptpEmit_acts ..) rfl
    refine .upd_tim ?_ rfl (.inr rfl) (.inr rfl)
    split
    · refine .step ?_ (State.reachEl_acts ..) rfl
      exact .refl _
    · exact .refl _

/-- Changes net, regs, out. -/
theorem State.setupNet_acts : ∀ x0, Acts 585189294080 x0 (State.setupNet x0) := by
  intro x0
  unfold State.setupNet
  refine .each ?_ ?_
  · refine .step ?_ (State.setFlag_acts ..) rfl
    exact .refl _
  · intro _ _
    refine .step ?_ (State.lanSend_acts ..) rfl
    exact .refl _

/-! Formation.lean -/

/-- Changes elk. -/
theorem State.setElkPort_acts : ∀ x0 x1 x2, Acts 8589934592 x0 (State.setElkPort x0 x1 x2) := by
  intro x0 x1 x2
  unfold State.setElkPort
  refine .upd_elk ?_ rfl
  exact .refl _

/-- Changes regs. -/
theorem State.setElkState_acts : ∀ x0 x1 x2, Acts 34359738368 x0 (State.setElkState x0 x1 x2) := by
  intro x0 x1 x2
  unfold State.setElkState
  refine .step ?_ (State.setFlag_acts ..) rfl
  refine .step ?_ (State.setFld_acts ..) rfl
  exact .refl _

/-- Changes alarms, rcd, elk, regs. -/
theorem State.minuteAlarm_acts : ∀ x0 x1 x2, Acts 42949673344 x0 (State.minuteAlarm x0 x1 x2) := by
  intro x0 x1 x2
  unfold State.minuteAlarm
  refine .ite (fun _ => ?_) fun _ => ?_
  · refine .step ?_ (State.raise_acts ..) rfl
    refine .upd_elk ?_ rfl
    exact .refl _
  · exact .refl _

/-- Changes elk, regs, out. -/
theorem State.elkEmit_acts : ∀ x0 x1 x2, Acts 592705486848 x0 (State.elkEmit x0 x1 x2) := by
  intro x0 x1 x2
  unfold State.elkEmit
  refine .step ?_ (State.send_acts ..) rfl
  refine .step ?_ (State.bump_acts ..) rfl
  refine .step ?_ (State.setElkPort_acts ..) rfl
  exact .refl _

/-- Changes elk, regs, out. -/
theorem State.elkDrain_acts : ∀ n s p, Acts 592705486848 s (State.elkDrain n s p) := by
  intro n
  induction n with
  | zero => exact fun s _ => Acts.refl s
  | succ n ih =>
    intro s p
    unfold State.elkDrain
    split
    · exact ((State.elkEmit_acts ..).mono rfl).step (ih ..) rfl
    · exact Acts.refl s

/-- Changes elk, regs, out. -/
theorem State.elkPush_acts : ∀ x0 x1, Acts 592705486848 x0 (State.elkPush x0 x1) := by
  intro x0 x1
  unfold State.elkPush
  refine .step ?_ (State.elkDrain_acts ..) rfl
  exact .refl _

/-- Changes alarms, rcd, net, elk, regs, out. -/
theorem State.sendPeer_acts : ∀ x0 x1 x2, Acts 593779229056 x0 (State.sendPeer x0 x1 x2) := by
  intro x0 x1 x2
  unfold State.sendPeer
  refine .ite (fun _ => ?_) fun _ => ?_
  · refine .step ?_ (State.minuteAlarm_acts ..) rfl
    refine .step ?_ (State.event_acts ..) rfl
    refine .step ?_ (State.bump_acts ..) rfl
    exact .refl _
  · refine .step ?_ (State.udpSend_acts ..) rfl
    refine .step ?_ (State.bump_acts ..) rfl
    refine .upd_elk ?_ rfl
    exact .refl _

/-- Changes alarms, rcd, elk, regs. -/
theorem State.portDown_acts : ∀ x0 x1, Acts 42949673344 x0 (State.portDown x0 x1) := by
  intro x0 x1
  unfold State.portDown
  refine .step ?_ (State.minuteAlarm_acts ..) rfl
  refine .step ?_ (State.event_acts ..) rfl
  refine .ite (fun _ => ?_) fun _ => ?_
  · refine .step ?_ (State.bump_acts ..) rfl
    exact .refl _
  · refine .step ?_ (State.bump_acts ..) rfl
    exact .refl _

/-- Changes alarms, rcd, net, elk, regs, out. -/
theorem State.sendPort_acts : ∀ x0 x1 x2 x3, Acts 593779229056 x0 (State.sendPort x0 x1 x2 x3) := by
  intro x0 x1 x2 x3
  unfold State.sendPort
  refine .ite (fun _ => ?_) fun _ => ?_
  · refine .ite (fun _ => ?_) fun _ => ?_
    · refine .step ?_ (State.elkPush_acts ..) rfl
      refine .step ?_ (State.setElkPort_acts ..) rfl
      exact .refl _
    · refine .step ?_ (State.portDown_acts ..) rfl
      exact .refl _
  · refine .ite (fun _ => ?_) fun _ => ?_
    · refine .step ?_ (State.sendPeer_acts ..) rfl
      exact .refl _
    · refine .step ?_ (State.portDown_acts ..) rfl
      exact .refl _

/-- Changes alarms, rcd, net, elk, regs, out. -/
theorem State.route_acts : ∀ x0 x1 x2, Acts 593779229056 x0 (State.route x0 x1 x2) := by
  intro x0 x1 x2
  unfold State.route
  split
  · refine .step ?_ (State.sendPort_acts ..) rfl
    exact .refl _
  · refine .ite (fun _ => ?_) fun _ => ?_
    · refine .step ?_ (State.minuteAlarm_acts ..) rfl
      refine .step ?_ (State.event_acts ..) rfl
      exact .refl _
    · refine .step ?_ (State.sendPort_acts ..) rfl
      exact .refl _

/-- Changes alarms, rcd, net, elk, regs, out. -/
theorem State.forward_acts : ∀ x0 x1 x2, Acts 593779229056 x0 (State.forward x0 x1 x2) := by
  intro x0 x1 x2
  unfold State.forward
  refine .ite (fun _ => ?_) fun _ => ?_
  · refine .step ?_ (State.minuteAlarm_acts ..) rfl
    refine .step ?_ (State.event_acts ..) rfl
    exact .refl _
  · refine .step ?_ (State.route_acts ..) rfl
    exact .refl _

/-- Changes alarms, rcd, net, elk, regs, out. -/
theorem State.sendOwn_acts : ∀ x0 x1 x2 x3, Acts 593779229056 x0 (State.sendOwn x0 x1 x2 x3) := by
  intro x0 x1 x2 x3
  unfold State.sendOwn
  refine .step ?_ (State.route_acts ..) rfl
  refine .upd_elk ?_ rfl
  exact .refl _

/-- Changes alarms, rcd, elk, regs. -/
theorem State.losePort_acts : ∀ x0 x1, Acts 42949673344 x0 (State.losePort x0 x1) := by
  intro x0 x1
  unfold State.losePort
  refine .step ?_ (State.raise_acts ..) rfl
  refine .step ?_ (State.event_acts ..) rfl
  refine .step ?_ (State.bump_acts ..) rfl
  refine .step ?_ (State.setElkState_acts ..) rfl
  refine .step ?_ (State.setElkPort_acts ..) rfl
  exact .refl _

/-- Changes alarms, rcd, elk, regs. -/
theorem execElkPortLost_acts : ∀ x0 x1, ∃ t, execElkPortLost x0 x1 = .next t ∧ Acts 42949673344 x1 t := by
  intro x0 x1
  unfold execElkPortLost
  refine ⟨_, rfl, ?_⟩
  refine .ite (fun _ => ?_) fun _ => ?_
  · refine .step ?_ (State.losePort_acts ..) rfl
    exact .refl _
  · exact .refl _

/-- Changes tim, elk, regs, elapsed, working. -/
theorem execElkPortRetry_acts : ∀ x0 x1, ∃ t, execElkPortRetry x0 x1 = .next t ∧ Acts 6755442390794240 x1 t := by
  intro x0 x1
  unfold execElkPortRetry
  refine ⟨_, rfl, ?_⟩
  refine .ite (fun _ => ?_) fun _ => ?_
  · refine .step ?_ (State.setElkState_acts ..) rfl
    refine .step ?_ (State.setElkPort_acts ..) rfl
    refine .step ?_ (State.reachEl_acts ..) rfl
    exact .refl _
  · exact .refl _

/-- Changes alarms, rcd, elk, regs, out. -/
theorem State.elkRetransmit_acts : ∀ x0 x1 x2, Acts 592705487232 x0 (State.elkRetransmit x0 x1 x2) := by
  intro x0 x1 x2
  unfold State.elkRetransmit
  refine .ite (fun _ => ?_) fun _ => ?_
  · refine .step ?_ (State.losePort_acts ..) rfl
    exact .refl _
  · refine .foldl ?_ ?_
    · refine .step ?_ (State.setElkPort_acts ..) rfl
      exact .refl _
    · intro _ _
      refine .step ?_ (State.send_acts ..) rfl
      refine .step ?_ (State.bump_acts ..) rfl
      refine .step ?_ (State.bump_acts ..) rfl
      exact .refl _

/-- Changes alarms, rcd, tim, elk, regs, out, elapsed, working. -/
theorem execElkRetransmitFrame_acts : ∀ x0 x1 x2 x3, ∃ t, execElkRetransmitFrame x0 x1 x2 x3 = .next t ∧ Acts 6755992146608512 x3 t := by
  intro x0 x1 x2 x3
  unfold execElkRetransmitFrame
  refine ⟨_, rfl, ?_⟩
  split
  · refine .ite (fun _ => ?_) fun _ => ?_
    · refine .step ?_ (State.elkRetransmit_acts ..) rfl
      refine .ite (fun _ => ?_) fun _ => ?_
      · exact .refl _
      · refine .step ?_ (State.reachEl_acts ..) rfl
        exact .refl _
    · exact .refl _
  · exact .refl _

/-- Changes alarms, rcd, elk, regs. -/
theorem State.elkComesUp_acts : ∀ x0 x1, Acts 42949673344 x0 (State.elkComesUp x0 x1) := by
  intro x0 x1
  unfold State.elkComesUp
  split
  · refine .ite (fun _ => ?_) fun _ => ?_
    · refine .ite (fun _ => ?_) fun _ => ?_
      · refine .step ?_ (State.causeGone_acts ..) rfl
        refine .step ?_ (State.setElkState_acts ..) rfl
        refine .step ?_ (State.setFld_acts ..) rfl
        refine .step ?_ (State.setElkPort_acts ..) rfl
        exact .refl _
      · refine .step ?_ (State.setElkState_acts ..) rfl
        refine .step ?_ (State.setFld_acts ..) rfl
        refine .step ?_ (State.setElkPort_acts ..) rfl
        exact .refl _
    · exact .refl _
  · exact .refl _

/-- Changes alarms, rcd, tim, elk, regs, out, elapsed, working. -/
theorem execElkHelloSend_acts : ∀ x0 x1, ∃ t, execElkHelloSend x0 x1 = .next t ∧ Acts 6755992146608512 x1 t := by
  intro x0 x1
  unfold execElkHelloSend
  refine ⟨_, rfl, ?_⟩
  refine .ite (fun _ => ?_) fun _ => ?_
  · refine .step ?_ (State.elkComesUp_acts ..) rfl
    refine .step ?_ (State.send_acts ..) rfl
    refine .step ?_ (State.setElkPort_acts ..) rfl
    refine .step ?_ (State.reachEl_acts ..) rfl
    exact .refl _
  · exact .refl _

/-- Changes alarms, rcd, elk, regs. -/
theorem execElkHello_acts : ∀ x0 x1 x2 x3, ∃ t, execElkHello x0 x1 x2 x3 = .next t ∧ Acts 42949673344 x3 t := by
  intro x0 x1 x2 x3
  unfold execElkHello
  refine ⟨_, rfl, ?_⟩
  refine .ite (fun _ => ?_) fun _ => ?_
  · exact .refl _
  · refine .ite (fun _ => ?_) fun _ => ?_
    · refine .step ?_ (State.elkComesUp_acts ..) rfl
      refine .step ?_ (State.causeGone_acts ..) rfl
      refine .step ?_ (State.setElkPort_acts ..) rfl
      exact .refl _
    · refine .step ?_ (State.raise_acts ..) rfl
      refine .step ?_ (State.setFld_acts ..) rfl
      exact .refl _

/-- Changes alarms, rcd, tim, net, elk, regs, out, elapsed, working. -/
theorem execSubSend_acts : ∀ x0, ∃ t, execSubSend x0 = .next t ∧ Acts 6755993220350336 x0 t := by
  intro x0
  unfold execSubSend
  refine ⟨_, rfl, ?_⟩
  refine .ite (fun _ => ?_) fun _ => ?_
  · refine .foldl ?_ ?_
    · refine .upd_elk ?_ rfl
      refine .step ?_ (State.reachEl_acts ..) rfl
      exact .refl _
    · intro _ _
      refine .step ?_ (State.sendOwn_acts ..) rfl
      exact .refl _
  · exact .refl _

/-- Changes regs. -/
theorem State.showTable_acts : ∀ x0, Acts 34359738368 x0 (State.showTable x0) := by
  intro x0
  unfold State.showTable
  refine .each ?_ ?_
  · refine .step ?_ (State.setFld_acts ..) rfl
    exact .refl _
  · intro _ _
    split
    · refine .step ?_ (State.setFld_acts ..) rfl
      refine .step ?_ (State.setFlag_acts ..) rfl
      exact .refl _
    · refine .step ?_ (State.setReg_acts ..) rfl
      exact .refl _

/-- Changes tim, elk, regs, elapsed, working. -/
theorem execSubscriberExpiry_acts : ∀ x0 x1, ∃ t, execSubscriberExpiry x0 x1 = .next t ∧ Acts 6755442390794240 x1 t := by
  intro x0 x1
  unfold execSubscriberExpiry
  refine ⟨_, rfl, ?_⟩
  split
  · refine .step ?_ (State.showTable_acts ..) rfl
    refine .upd_elk ?_ rfl
    refine .step ?_ (State.reachEl_acts ..) rfl
    exact .refl _
  · exact .refl _

/-- Changes alarms, rcd, tim, elk, regs, elapsed, working. -/
theorem execSubscriptionTimeout_acts : ∀ x0 x1, ∃ t, execSubscriptionTimeout x0 x1 = .next t ∧ Acts 6755442390794624 x1 t := by
  intro x0 x1
  unfold execSubscriptionTimeout
  refine ⟨_, rfl, ?_⟩
  refine .ite (fun _ => ?_) fun _ => ?_
  · refine .step ?_ (State.raise_acts ..) rfl
    refine .step ?_ (State.event_acts ..) rfl
    refine .step ?_ (State.setFlag_acts ..) rfl
    refine .upd_elk ?_ rfl
    refine .step ?_ (State.reachEl_acts ..) rfl
    exact .refl _
  · exact .refl _

/-- Changes alarms, rcd, net, elk, regs, out. -/
theorem State.publishFormation_acts : ∀ x0, Acts 593779229056 x0 (State.publishFormation x0) := by
  intro x0
  unfold State.publishFormation
  refine .ite (fun _ => ?_) fun _ => ?_
  · refine .foldl ?_ ?_
    · exact .refl _
    · intro _ _
      refine .step ?_ (State.sendOwn_acts ..) rfl
      exact .refl _
  · exact .refl _

/-- Changes tim, agr, twn, elk, out, elapsed, working. -/
theorem execFormationSetClose_acts : ∀ x0 x1, ∃ t, execFormationSetClose x0 x1 = .next t ∧ Acts 6755957787656192 x1 t := by
  intro x0 x1
  unfold execFormationSetClose
  refine ⟨_, rfl, ?_⟩
  refine .ite (fun _ => ?_) fun _ => ?_
  · exact .refl _
  · refine .step ?_ (State.ownItem_acts ..) rfl
    refine .upd_elk ?_ rfl
    refine .step ?_ (State.reach_acts ..) rfl
    exact .refl _

/-- Changes elk, regs. -/
theorem State.mergeSets_acts : ∀ x0, Acts 42949672960 x0 (State.mergeSets x0) := by
  intro x0
  unfold State.mergeSets
  refine .ite (fun _ => ?_) fun _ => ?_
  · exact .refl _
  · refine .ite (fun _ => ?_) fun _ => ?_
    · exact .refl _
    · refine .foldl ?_ ?_
      · refine .step ?_ (State.setFld_acts ..) rfl
        refine .step ?_ (State.setReg_acts ..) rfl
        refine .upd_elk ?_ rfl
        exact .refl _
      · intro _ _
        refine .ite (fun _ => ?_) fun _ => ?_
        · refine .step ?_ (State.setReg_acts ..) rfl
          refine .step ?_ (State.setFlag_acts ..) rfl
          refine .step ?_ (State.setFlag_acts ..) rfl
          refine .step ?_ (State.setFlag_acts ..) rfl
          exact .refl _
        · refine .step ?_ (State.setFlag_acts ..) rfl
          refine .step ?_ (State.setFlag_acts ..) rfl
          refine .step ?_ (State.setFlag_acts ..) rfl
          exact .refl _

/-- Changes dev, ord, ctl, regs, devAim. -/
theorem State.setFollowRefOrder_acts : ∀ x0 x1, Acts 35218765381728 x0 (State.setFollowRefOrder x0 x1) := by
  intro x0 x1
  unfold State.setFollowRefOrder
  refine State.evalOrder_acts ?_ ?_ rfl
  · exact .refl _
  · intro _
    refine .upd_dev_ctl ?_ rfl rfl (.inr rfl) (.inr rfl) (.inr rfl) (.inl rfl)
    exact .refl _

/-- Changes dev, ord, ctl, regs, devAim. -/
theorem execSetFollowRef_acts : ∀ x0 x1, ∃ t, execSetFollowRef x0 x1 = .next t ∧ Acts 35218765381728 x1 t := by
  intro x0 x1
  unfold execSetFollowRef
  refine ⟨_, rfl, ?_⟩
  refine State.takeOrder_acts ?_ ?_ rfl
  · exact .refl _
  · refine .step ?_ (State.setFollowRefOrder_acts ..) rfl
    exact .refl _

/-- Changes elk, regs. -/
theorem State.setupElk_acts : ∀ x0, Acts 42949672960 x0 (State.setupElk x0) := by
  intro x0
  unfold State.setupElk
  refine .ite (fun _ => ?_) fun _ => ?_
  · refine .foldl ?_ ?_
    · refine .each ?_ ?_
      · refine .upd_elk ?_ rfl
        refine .step ?_ (State.setFld_acts ..) rfl
        refine .step ?_ (State.setFlag_acts ..) rfl
        refine .step ?_ (State.setFlag_acts ..) rfl
        exact .refl _
      · intro _ _
        refine .step ?_ (State.setElkState_acts ..) rfl
        exact .refl _
    · intro _ _
      refine .step ?_ (State.setFld_acts ..) rfl
      exact .refl _
  · exact .refl _

end Sys2Proof.Machine
end

