-- ==== Sys2Proof/Laws/ActsArray.lean ====
section
/-! SUPPORT. What the operations of clocks, health, interrupts and field channels may change: one lemma each. -/
namespace Sys2Proof.Machine

/-! Clocks.lean -/

/-- Changes regs. -/
theorem State.loadRule_acts : ∀ x0 x1 x2 x3 x4 x5 x6, Acts 34359738368 x0 (State.loadRule x0 x1 x2 x3 x4 x5 x6) := by
  intro x0 x1 x2 x3 x4 x5 x6
  unfold State.loadRule
  refine .step ?_ (State.setFld_acts ..) rfl
  refine .step ?_ (State.setReg_acts ..) rfl
  refine .step ?_ (State.setReg_acts ..) rfl
  refine .step ?_ (State.setReg_acts ..) rfl
  refine .step ?_ (State.setReg_acts ..) rfl
  exact .refl _

/-- Changes regs. -/
theorem State.lockFixed_acts : ∀ x0, Acts 34359738368 x0 (State.lockFixed x0) := by
  intro x0
  unfold State.lockFixed
  refine .step ?_ (State.setFlag_acts ..) rfl
  refine .foldl ?_ ?_
  · exact .refl _
  · intro _ _
    refine .step ?_ (State.loadRule_acts ..) rfl
    exact .refl _

/-- Changes boot, dev, regs, devSt. -/
theorem State.bootToSafe_acts : ∀ x0, Acts 4432406249512 x0 (State.bootToSafe x0) := by
  intro x0
  unfold State.bootToSafe
  refine .upd_boot_dev ?_ rfl (.inl rfl) (.inr rfl) (.inr rfl) (.inr rfl)
  refine .ite (fun _ => ?_) fun _ => ?_
  · refine .step ?_ (State.setFld_acts ..) rfl
    exact .refl _
  · refine .step ?_ (State.lockFixed_acts ..) rfl
    refine .step ?_ (State.setFld_acts ..) rfl
    exact .refl _

/-- Changes boot, dev, alarms, rcd, mram, pins, twn, saf, hlt, ctl, alc, fch, regs, out, devSt, ladle, lease, brakes. -/
theorem State.deviceFault_acts : ∀ x0 x1, Acts 1764201139405736 x0 (State.deviceFault x0 x1) := by
  intro x0 x1
  unfold State.deviceFault
  try dsimp only
  split
  · refine .step ?_ (State.bootToSafe_acts ..) rfl
    refine .ite (fun _ => ?_) fun _ => ?_
    · refine .ite (fun _ => ?_) fun _ => ?_
      · refine .step ?_ (State.handOver_acts ..) rfl
        refine .step ?_ (State.raise_acts ..) rfl
        refine .upd_hlt ?_ rfl
        exact .refl _
      · refine .step ?_ (State.dropToArmed_acts ..) rfl
        refine .step ?_ (State.raise_acts ..) rfl
        refine .upd_hlt ?_ rfl
        exact .refl _
    · refine .step ?_ (State.raise_acts ..) rfl
      refine .upd_hlt ?_ rfl
      exact .refl _
  · refine .step ?_ (State.enterSafe_acts ..) rfl
    refine .ite (fun _ => ?_) fun _ => ?_
    · refine .ite (fun _ => ?_) fun _ => ?_
      · refine .step ?_ (State.handOver_acts ..) rfl
        refine .step ?_ (State.raise_acts ..) rfl
        refine .upd_hlt ?_ rfl
        exact .refl _
      · refine .step ?_ (State.dropToArmed_acts ..) rfl
        refine .step ?_ (State.raise_acts ..) rfl
        refine .upd_hlt ?_ rfl
        exact .refl _
    · refine .step ?_ (State.raise_acts ..) rfl
      refine .upd_hlt ?_ rfl
      exact .refl _

/-- Changes clk, boot, dev, alarms, rcd, regs, devSt. -/
theorem State.clockLost_acts : ∀ x0 x1, Acts 4432406249900 x0 (State.clockLost x0 x1) := by
  intro x0 x1
  unfold State.clockLost
  refine .ite (fun _ => ?_) fun _ => ?_
  · refine .ite (fun _ => ?_) fun _ => ?_
    · refine .step ?_ (State.bootToSafe_acts ..) rfl
      refine .upd_clk ?_ rfl
      refine .step ?_ (State.raise_acts ..) rfl
      exact .refl _
    · refine .upd_clk ?_ rfl
      refine .step ?_ (State.raise_acts ..) rfl
      exact .refl _
  · refine .upd_clk ?_ rfl
    refine .upd_clk ?_ rfl
    refine .step ?_ (State.raise_acts ..) rfl
    exact .refl _

/-- Changes clk, boot, dev, alarms, rcd, regs, devSt. -/
theorem execRefinMissing_acts : ∀ x0, ∃ t, execRefinMissing x0 = .next t ∧ Acts 4432406249900 x0 t := by
  intro x0
  unfold execRefinMissing
  refine ⟨_, rfl, ?_⟩
  refine .ite (fun _ => ?_) fun _ => ?_
  · refine .step ?_ (State.clockLost_acts ..) rfl
    refine .step ?_ (State.event_acts ..) rfl
    refine .step ?_ (State.setFlag_acts ..) rfl
    refine .upd_clk ?_ rfl
    exact .refl _
  · refine .step ?_ (State.setFlag_acts ..) rfl
    refine .upd_clk ?_ rfl
    exact .refl _

/-- Changes clk, boot, dev, alarms, rcd, regs, devSt. -/
theorem execPllUnlock_acts : ∀ x0, ∃ t, execPllUnlock x0 = .next t ∧ Acts 4432406249900 x0 t := by
  intro x0
  unfold execPllUnlock
  refine ⟨_, rfl, ?_⟩
  refine .ite (fun _ => ?_) fun _ => ?_
  · refine .step ?_ (State.clockLost_acts ..) rfl
    refine .step ?_ (State.event_acts ..) rfl
    refine .step ?_ (State.setFlag_acts ..) rfl
    exact .refl _
  · exact .refl _

/-- Changes clk, regs. -/
theorem execRefinReturn_acts : ∀ x0, ∃ t, execRefinReturn x0 = .next t ∧ Acts 34359738372 x0 t := by
  intro x0
  unfold execRefinReturn
  refine ⟨_, rfl, ?_⟩
  refine .step ?_ (State.setFlag_acts ..) rfl
  refine .upd_clk ?_ rfl
  exact .refl _

/-- Changes clk, dev, alarms, rcd, mram, pins, twn, saf, ctl, alc, fch, regs, out, devSt, ladle, lease, brakes. -/
theorem execClockMonitorWindow_acts : ∀ x0 x1, ∃ t, execClockMonitorWindow x0 x1 = .next t ∧ Acts 1764201137308580 x1 t := by
  intro x0 x1
  unfold execClockMonitorWindow
  refine ⟨_, rfl, ?_⟩
  refine .ite (fun _ => ?_) fun _ => ?_
  · exact .refl _
  · refine .ite (fun _ => ?_) fun _ => ?_
    · refine .step ?_ (State.setFlag_acts ..) rfl
      refine .upd_clk ?_ rfl
      exact .refl _
    · refine .ite (fun _ => ?_) fun _ => ?_
      · refine .step ?_ (State.globalSafe_acts ..) rfl
        refine .step ?_ (State.raise_acts ..) rfl
        refine .step ?_ (State.event_acts ..) rfl
        refine .step ?_ (State.setFlag_acts ..) rfl
        refine .upd_clk ?_ rfl
        exact .refl _
      · refine .step ?_ (State.event_acts ..) rfl
        refine .step ?_ (State.setFlag_acts ..) rfl
        refine .upd_clk ?_ rfl
        exact .refl _

/-! Health.lean -/

/-- Changes hlt. -/
theorem State.claimSpare_acts : ∀ x0 x1, Acts 2097152 x0 (State.claimSpare x0 x1) := by
  intro x0 x1
  unfold State.claimSpare
  refine .ite (fun _ => ?_) fun _ => ?_
  · refine .upd_hlt ?_ rfl
    exact .refl _
  · refine .upd_hlt ?_ rfl
    exact .refl _

/-- Changes hlt. -/
theorem State.loseSpare_acts : ∀ x0 x1, Acts 2097152 x0 (State.loseSpare x0 x1) := by
  intro x0 x1
  unfold State.loseSpare
  refine .ite (fun _ => ?_) fun _ => ?_
  · refine .upd_hlt ?_ rfl
    exact .refl _
  · refine .upd_hlt ?_ rfl
    exact .refl _

/-- Changes hlt. -/
theorem State.sparesFreeze_acts : ∀ x0, Acts 2097152 x0 (State.sparesFreeze x0) := by
  intro x0
  unfold State.sparesFreeze
  refine .upd_hlt ?_ rfl
  exact .refl _

/-- Changes dev, twn, hlt. -/
theorem State.discardResults_acts : ∀ x0 x1, Acts 2621472 x0 (State.discardResults x0 x1) := by
  intro x0 x1
  unfold State.discardResults
  refine .ite (fun _ => ?_) fun _ => ?_
  · refine .ite (fun _ => ?_) fun _ => ?_
    · refine .ite (fun _ => ?_) fun _ => ?_
      · refine .upd_dev ?_ rfl (.inr rfl) (.inr rfl) (.inr rfl) (.inr rfl)
        refine .upd_hlt ?_ rfl
        exact .refl _
      · refine .upd_hlt ?_ rfl
        exact .refl _
    · refine .ite (fun _ => ?_) fun _ => ?_
      · refine .upd_twn ?_ rfl (.inr rfl)
        refine .upd_hlt ?_ rfl
        exact .refl _
      · refine .upd_hlt ?_ rfl
        exact .refl _
  · exact .refl _

/-- Changes boot, dev, alarms, rcd, mram, pins, twn, saf, hlt, ctl, alc, fch, regs, out, devSt, ladle, lease, brakes. -/
theorem State.groupPairFails_acts : ∀ x0 x1 x2, Acts 1764201139405736 x0 (State.groupPairFails x0 x1 x2) := by
  intro x0 x1 x2
  unfold State.groupPairFails
  refine .ite (fun _ => ?_) fun _ => ?_
  · refine .step ?_ (State.deviceFault_acts ..) rfl
    exact .refl _
  · refine .ite (fun _ => ?_) fun _ => ?_
    · refine .step ?_ (State.loseSpare_acts ..) rfl
      exact .refl _
    · refine .step ?_ (State.claimSpare_acts ..) rfl
      refine .step ?_ (State.discardResults_acts ..) rfl
      exact .refl _

/-- Changes boot, dev, alarms, rcd, mram, pins, twn, saf, hlt, ctl, alc, fch, regs, out, devSt, ladle, lease, brakes. -/
theorem State.pairFails_acts : ∀ x0 x1, Acts 1764201139405736 x0 (State.pairFails x0 x1) := by
  intro x0 x1
  unfold State.pairFails
  refine .ite (fun _ => ?_) fun _ => ?_
  · refine .step ?_ (State.globalSafe_acts ..) rfl
    refine .upd_saf ?_ rfl (.inr rfl) (.inr rfl)
    refine .step ?_ (State.countRetired_acts ..) rfl
    refine .upd_mram_hlt ?_ rfl rfl rfl rfl (.inr rfl)
    exact .refl _
  · refine .ite (fun _ => ?_) fun _ => ?_
    · refine .step ?_ (State.deviceFault_acts ..) rfl
      refine .step ?_ (State.countRetired_acts ..) rfl
      refine .upd_mram_hlt ?_ rfl rfl rfl rfl (.inr rfl)
      exact .refl _
    · refine .step ?_ (State.groupPairFails_acts ..) rfl
      refine .step ?_ (State.raise_acts ..) rfl
      refine .upd_twn ?_ rfl (.inr rfl)
      refine .step ?_ (State.countRetired_acts ..) rfl
      refine .upd_mram_hlt ?_ rfl rfl rfl rfl (.inr rfl)
      exact .refl _

/-- Changes boot, dev, alarms, rcd, mram, pins, twn, saf, hlt, ctl, alc, fch, regs, out, devSt, ladle, lease, brakes. -/
theorem execLockstepMismatch_acts : ∀ x0 x1, ∃ t, execLockstepMismatch x0 x1 = .next t ∧ Acts 1764201139405736 x1 t := by
  intro x0 x1
  unfold execLockstepMismatch
  refine ⟨_, rfl, ?_⟩
  refine .ite (fun _ => ?_) fun _ => ?_
  · exact .refl _
  · refine .step ?_ (State.pairFails_acts ..) rfl
    exact .refl _

/-- Changes tim, hlt, elapsed, working. -/
theorem State.checkEnds_acts : ∀ x0 x1 x2, Acts 6755399443218432 x0 (State.checkEnds x0 x1 x2) := by
  intro x0 x1 x2
  unfold State.checkEnds
  refine .upd_hlt ?_ rfl
  split
  · refine .step ?_ (State.reachEl_acts ..) rfl
    exact .refl _
  · exact .refl _

/-- Changes hlt, regs. -/
theorem State.sampleRail_acts : ∀ x0 x1 x2 x3, Acts 34361835520 x0 (State.sampleRail x0 x1 x2 x3) := by
  intro x0 x1 x2 x3
  unfold State.sampleRail
  refine .upd_hlt ?_ rfl
  refine .step ?_ (State.setFld_acts ..) rfl
  refine .step ?_ (State.setReg_acts ..) rfl
  exact .refl _

/-- Changes boot, dev, alarms, rcd, mram, tim, pins, twn, saf, hlt, ctl, alc, fch, regs, out, devSt, ladle, lease, brakes, elapsed, working. -/
theorem execRailFault_acts : ∀ x0 x1, ∃ t, execRailFault x0 x1 = .next t ∧ Acts 8519600580527016 x1 t := by
  intro x0 x1
  unfold execRailFault
  refine ⟨_, rfl, ?_⟩
  split
  · exact .refl _
  · refine .step ?_ (State.deviceFault_acts ..) rfl
    refine .step ?_ (State.raise_acts ..) rfl
    refine .upd_hlt ?_ rfl
    refine .step ?_ (State.reachEl_acts ..) rfl
    exact .refl _

/-- Changes boot, dev, alarms, rcd, mram, pins, twn, saf, hlt, ctl, alc, fch, regs, out, devSt, ladle, lease, brakes. -/
theorem State.retireBank_acts : ∀ x0 x1, Acts 1764201139405736 x0 (State.retireBank x0 x1) := by
  intro x0 x1
  unfold State.retireBank
  refine .ite (fun _ => ?_) fun _ => ?_
  · exact .refl _
  · refine .ite (fun _ => ?_) fun _ => ?_
    · refine .step ?_ (State.deviceFault_acts ..) rfl
      exact .refl _
    · refine .upd_hlt ?_ rfl
      exact .refl _

/-- Changes boot, dev, alarms, rcd, mram, pins, twn, saf, hlt, ctl, alc, fch, regs, out, devSt, ladle, lease, brakes. -/
theorem execEccError_acts : ∀ x0 x1 x2 x3, ∃ t, execEccError x0 x1 x2 x3 = .next t ∧ Acts 1764201139405736 x3 t := by
  intro x0 x1 x2 x3
  unfold execEccError
  refine ⟨_, rfl, ?_⟩
  refine .ite (fun _ => ?_) fun _ => ?_
  · refine .ite (fun _ => ?_) fun _ => ?_
    · refine .step ?_ (State.retireBank_acts ..) rfl
      refine .upd_hlt ?_ rfl
      exact .refl _
    · refine .upd_hlt ?_ rfl
      exact .refl _
  · refine .step ?_ (State.retireBank_acts ..) rfl
    refine .ite (fun _ => ?_) fun _ => ?_
    · refine .upd_twn ?_ rfl (.inr rfl)
      refine .upd_hlt ?_ rfl
      exact .refl _
    · refine .upd_hlt ?_ rfl
      exact .refl _

/-- Changes hlt. -/
theorem State.bankWork_acts : ∀ x0, Acts 2097152 x0 (State.bankWork x0) := by
  intro x0
  unfold State.bankWork
  split
  · refine .upd_hlt ?_ rfl
    exact .refl _
  · exact .refl _

/-- Changes alarms, rcd, mram, hlt, regs. -/
theorem State.bankSwitchNow_acts : ∀ x0, Acts 34361836416 x0 (State.bankSwitchNow x0) := by
  intro x0
  unfold State.bankSwitchNow
  split
  · refine .step ?_ (State.raise_acts ..) rfl
    refine .step ?_ (State.event_acts ..) rfl
    refine .step ?_ (State.countRetired_acts ..) rfl
    refine .upd_mram_hlt ?_ rfl rfl rfl rfl (.inr rfl)
    exact .refl _
  · exact .refl _

/-- Changes alarms, rcd, regs. -/
theorem State.scrubRecords_acts : ∀ x0, Acts 34359738752 x0 (State.scrubRecords x0) := by
  intro x0
  unfold State.scrubRecords
  split
  · refine .step ?_ (State.raise_acts ..) rfl
    refine .step ?_ (State.event_acts ..) rfl
    exact .refl _
  · exact .refl _

/-- Changes alarms, rcd, tim, hlt, regs, elapsed, working. -/
theorem execEccScrub_acts : ∀ x0 x1 x2, ∃ t, execEccScrub x0 x1 x2 = .next t ∧ Acts 6755433802957184 x2 t := by
  intro x0 x1 x2
  unfold execEccScrub
  refine ⟨_, rfl, ?_⟩
  refine .ite (fun _ => ?_) fun _ => ?_
  · exact .refl _
  · refine .ite (fun _ => ?_) fun _ => ?_
    · refine .step ?_ (State.scrubRecords_acts ..) rfl
      refine .upd_hlt ?_ rfl
      refine .step ?_ (State.checkEnds_acts ..) rfl
      exact .refl _
    · refine .upd_hlt ?_ rfl
      refine .step ?_ (State.checkEnds_acts ..) rfl
      exact .refl _

/-- Changes alarms, rcd, hlt, regs. -/
theorem State.exhaust_acts : ∀ x0 x1, Acts 34361835904 x0 (State.exhaust x0 x1) := by
  intro x0 x1
  unfold State.exhaust
  refine .ite (fun _ => ?_) fun _ => ?_
  · exact .refl _
  · refine .step ?_ (State.raise_acts ..) rfl
    refine .step ?_ (State.event_acts ..) rfl
    refine .upd_hlt ?_ rfl
    exact .refl _

/-- Changes mram, regs. -/
theorem State.setMargin_acts : ∀ x0 x1 x2 x3, Acts 34359738880 x0 (State.setMargin x0 x1 x2 x3) := by
  intro x0 x1 x2 x3
  unfold State.setMargin
  refine .step ?_ (State.setReg_acts ..) rfl
  refine .upd_mram ?_ rfl rfl rfl rfl (.inr rfl)
  exact .refl _

/-- Changes alarms, rcd, mram, hlt, regs. -/
theorem State.replan_acts : ∀ x0 x1 x2, Acts 34361836416 x0 (State.replan x0 x1 x2) := by
  intro x0 x1 x2
  unfold State.replan
  refine .ite (fun _ => ?_) fun _ => ?_
  · refine .step ?_ (State.exhaust_acts ..) rfl
    refine .step ?_ (State.setMargin_acts ..) rfl
    refine .upd_hlt ?_ rfl
    refine .each ?_ ?_
    · exact .refl _
    · intro _ _
      refine .ite (fun _ => ?_) fun _ => ?_
      · exact .refl _
      · refine .upd_hlt ?_ rfl
        exact .refl _
  · refine .step ?_ (State.setMargin_acts ..) rfl
    refine .upd_hlt ?_ rfl
    refine .each ?_ ?_
    · exact .refl _
    · intro _ _
      refine .ite (fun _ => ?_) fun _ => ?_
      · exact .refl _
      · refine .upd_hlt ?_ rfl
        exact .refl _

/-- Changes alarms, rcd, mram, hlt, regs. -/
theorem State.readDie_acts : ∀ x0 x1 x2, Acts 34361836416 x0 (State.readDie x0 x1 x2) := by
  intro x0 x1 x2
  unfold State.readDie
  refine .ite (fun _ => ?_) fun _ => ?_
  · refine .step ?_ (State.replan_acts ..) rfl
    refine .step ?_ (State.setMargin_acts ..) rfl
    refine .upd_hlt ?_ rfl
    refine .step ?_ (State.setInt_acts ..) rfl
    refine .step ?_ (State.setInt_acts ..) rfl
    exact .refl _
  · refine .step ?_ (State.setMargin_acts ..) rfl
    refine .upd_hlt ?_ rfl
    refine .step ?_ (State.setInt_acts ..) rfl
    refine .step ?_ (State.setInt_acts ..) rfl
    exact .refl _

/-- Changes alarms, rcd, thm, regs. -/
theorem State.readDiodes_acts : ∀ x0 x1, Acts 34363933056 x0 (State.readDiodes x0 x1) := by
  intro x0 x1
  unfold State.readDiodes
  refine .each ?_ ?_
  · refine .upd_thm ?_ rfl
    exact .refl _
  · intro _ _
    refine .ite (fun _ => ?_) fun _ => ?_
    · refine .step ?_ (State.raise_acts ..) rfl
      refine .step ?_ (State.event_acts ..) rfl
      refine .step ?_ (State.setFld_acts ..) rfl
      exact .refl _
    · refine .step ?_ (State.setInt_acts ..) rfl
      exact .refl _

/-- Changes thm, regs. -/
theorem State.moveRef_acts : ∀ x0 x1, Acts 34363932672 x0 (State.moveRef x0 x1) := by
  intro x0 x1
  unfold State.moveRef
  refine .step ?_ (State.setInt_acts ..) rfl
  refine .upd_thm ?_ rfl
  exact .refl _

/-- Changes mram, regs. -/
theorem State.calibrateNode_acts : ∀ x0 x1, Acts 34359738880 x0 (State.calibrateNode x0 x1) := by
  intro x0 x1
  unfold State.calibrateNode
  refine .upd_mram ?_ rfl rfl rfl rfl (.inr rfl)
  refine .step ?_ (State.setInt_acts ..) rfl
  exact .refl _

/-- Changes alarms, rcd, regs. -/
theorem State.reportResidual_acts : ∀ x0 x1, Acts 34359738752 x0 (State.reportResidual x0 x1) := by
  intro x0 x1
  unfold State.reportResidual
  refine .ite (fun _ => ?_) fun _ => ?_
  · refine .step ?_ (State.raise_acts ..) rfl
    refine .step ?_ (State.event_acts ..) rfl
    refine .step ?_ (State.setInt_acts ..) rfl
    exact .refl _
  · refine .step ?_ (State.setInt_acts ..) rfl
    exact .refl _

/-- Changes alarms, rcd, mram, hlt, thm, regs. -/
theorem State.calibrate_acts : ∀ x0, Acts 34366030720 x0 (State.calibrate x0) := by
  intro x0
  unfold State.calibrate
  refine .upd_hlt ?_ rfl
  refine .each ?_ ?_
  · refine .each ?_ ?_
    · refine .step ?_ (State.moveRef_acts ..) rfl
      exact .refl _
    · intro _ _
      refine .step ?_ (State.calibrateNode_acts ..) rfl
      exact .refl _
  · intro _ _
    refine .step ?_ (State.reportResidual_acts ..) rfl
    exact .refl _

/-- Changes rcd, regs. -/
theorem State.healthRecord_acts : ∀ x0, Acts 34359738624 x0 (State.healthRecord x0) := by
  intro x0
  unfold State.healthRecord
  refine .step ?_ (State.record_acts ..) rfl
  exact .refl _

/-- Changes alarms, rcd, mram, hlt, thm, regs. -/
theorem State.anneal_acts : ∀ x0 x1 x2, Acts 34366030720 x0 (State.anneal x0 x1 x2) := by
  intro x0 x1 x2
  unfold State.anneal
  refine .step ?_ (State.healthRecord_acts ..) rfl
  refine .step ?_ (State.calibrate_acts ..) rfl
  refine .step ?_ (State.readDiodes_acts ..) rfl
  refine .foldl ?_ ?_
  · refine .upd_hlt ?_ rfl
    exact .refl _
  · intro _ _
    refine .step ?_ (State.readDie_acts ..) rfl
    exact .refl _

/-- Changes alarms, rcd, mram, hlt, regs. -/
theorem State.trimRefused_acts : ∀ x0 x1, Acts 34361836416 x0 (State.trimRefused x0 x1) := by
  intro x0 x1
  unfold State.trimRefused
  refine .step ?_ (State.exhaust_acts ..) rfl
  refine .step ?_ (State.setMargin_acts ..) rfl
  refine .upd_hlt ?_ rfl
  exact .refl _

/-- Changes alarms, rcd, mram, tim, hlt, regs, elapsed, working. -/
theorem execTrimStep_acts : ∀ x0 x1, ∃ t, execTrimStep x0 x1 = .next t ∧ Acts 6755433802957696 x1 t := by
  intro x0 x1
  unfold execTrimStep
  refine ⟨_, rfl, ?_⟩
  split
  · refine .ite (fun _ => ?_) fun _ => ?_
    · refine .step ?_ (State.raise_acts ..) rfl
      refine .step ?_ (State.event_acts ..) rfl
      refine .step ?_ (State.setFld_acts ..) rfl
      refine .upd_mram ?_ rfl rfl rfl rfl (.inr rfl)
      refine .upd_hlt ?_ rfl
      split
      · refine .step ?_ (State.reachEl_acts ..) rfl
        exact .refl _
      · exact .refl _
    · refine .step ?_ (State.trimRefused_acts ..) rfl
      split
      · refine .step ?_ (State.reachEl_acts ..) rfl
        exact .refl _
      · exact .refl _
  · exact .refl _

/-- Changes mram, thm, regs. -/
theorem State.latchShutdown_acts : ∀ x0, Acts 34363933184 x0 (State.latchShutdown x0) := by
  intro x0
  unfold State.latchShutdown
  refine .ite (fun _ => ?_) fun _ => ?_
  · exact .refl _
  · refine .step ?_ (State.event_acts ..) rfl
    refine .step ?_ (State.setFlag_acts ..) rfl
    refine .upd_mram_thm ?_ rfl rfl rfl rfl (.inr rfl)
    exact .refl _

/-- Changes alarms, rcd, mram, thm, regs. -/
theorem State.thermalChecks_acts : ∀ x0, Acts 34363933568 x0 (State.thermalChecks x0) := by
  intro x0
  unfold State.thermalChecks
  refine .ite (fun _ => ?_) fun _ => ?_
  · refine .step ?_ (State.latchShutdown_acts ..) rfl
    refine .ite (fun _ => ?_) fun _ => ?_
    · refine .ite (fun _ => ?_) fun _ => ?_
      · refine .step ?_ (State.raise_acts ..) rfl
        refine .step ?_ (State.event_acts ..) rfl
        refine .step ?_ (State.setFlag_acts ..) rfl
        refine .upd_thm ?_ rfl
        refine .upd_thm ?_ rfl
        refine .step ?_ (State.setFld_acts ..) rfl
        refine .step ?_ (State.setInt_acts ..) rfl
        refine .each ?_ ?_
        · exact .refl _
        · intro _ _
          refine .step ?_ (State.setInt_acts ..) rfl
          exact .refl _
      · refine .ite (fun _ => ?_) fun _ => ?_
        · refine .step ?_ (State.causeGone_acts ..) rfl
          refine .step ?_ (State.setFlag_acts ..) rfl
          refine .upd_thm ?_ rfl
          refine .upd_thm ?_ rfl
          refine .step ?_ (State.setFld_acts ..) rfl
          refine .step ?_ (State.setInt_acts ..) rfl
          refine .each ?_ ?_
          · exact .refl _
          · intro _ _
            refine .step ?_ (State.setInt_acts ..) rfl
            exact .refl _
        · refine .upd_thm ?_ rfl
          refine .step ?_ (State.setFld_acts ..) rfl
          refine .step ?_ (State.setInt_acts ..) rfl
          refine .each ?_ ?_
          · exact .refl _
          · intro _ _
            refine .step ?_ (State.setInt_acts ..) rfl
            exact .refl _
    · refine .step ?_ (State.setFlag_acts ..) rfl
      refine .ite (fun _ => ?_) fun _ => ?_
      · refine .step ?_ (State.raise_acts ..) rfl
        refine .step ?_ (State.event_acts ..) rfl
        refine .step ?_ (State.setFlag_acts ..) rfl
        refine .upd_thm ?_ rfl
        refine .upd_thm ?_ rfl
        refine .step ?_ (State.setFld_acts ..) rfl
        refine .step ?_ (State.setInt_acts ..) rfl
        refine .each ?_ ?_
        · exact .refl _
        · intro _ _
          refine .step ?_ (State.setInt_acts ..) rfl
          exact .refl _
      · refine .ite (fun _ => ?_) fun _ => ?_
        · refine .step ?_ (State.causeGone_acts ..) rfl
          refine .step ?_ (State.setFlag_acts ..) rfl
          refine .upd_thm ?_ rfl
          refine .upd_thm ?_ rfl
          refine .step ?_ (State.setFld_acts ..) rfl
          refine .step ?_ (State.setInt_acts ..) rfl
          refine .each ?_ ?_
          · exact .refl _
          · intro _ _
            refine .step ?_ (State.setInt_acts ..) rfl
            exact .refl _
        · refine .upd_thm ?_ rfl
          refine .step ?_ (State.setFld_acts ..) rfl
          refine .step ?_ (State.setInt_acts ..) rfl
          refine .each ?_ ?_
          · exact .refl _
          · intro _ _
            refine .step ?_ (State.setInt_acts ..) rfl
            exact .refl _
  · refine .ite (fun _ => ?_) fun _ => ?_
    · refine .ite (fun _ => ?_) fun _ => ?_
      · refine .step ?_ (State.raise_acts ..) rfl
        refine .step ?_ (State.event_acts ..) rfl
        refine .step ?_ (State.setFlag_acts ..) rfl
        refine .upd_thm ?_ rfl
        refine .upd_thm ?_ rfl
        refine .step ?_ (State.setFld_acts ..) rfl
        refine .step ?_ (State.setInt_acts ..) rfl
        refine .each ?_ ?_
        · exact .refl _
        · intro _ _
          refine .step ?_ (State.setInt_acts ..) rfl
          exact .refl _
      · refine .ite (fun _ => ?_) fun _ => ?_
        · refine .step ?_ (State.causeGone_acts ..) rfl
          refine .step ?_ (State.setFlag_acts ..) rfl
          refine .upd_thm ?_ rfl
          refine .upd_thm ?_ rfl
          refine .step ?_ (State.setFld_acts ..) rfl
          refine .step ?_ (State.setInt_acts ..) rfl
          refine .each ?_ ?_
          · exact .refl _
          · intro _ _
            refine .step ?_ (State.setInt_acts ..) rfl
            exact .refl _
        · refine .upd_thm ?_ rfl
          refine .step ?_ (State.setFld_acts ..) rfl
          refine .step ?_ (State.setInt_acts ..) rfl
          refine .each ?_ ?_
          · exact .refl _
          · intro _ _
            refine .step ?_ (State.setInt_acts ..) rfl
            exact .refl _
    · refine .step ?_ (State.setFlag_acts ..) rfl
      refine .ite (fun _ => ?_) fun _ => ?_
      · refine .step ?_ (State.raise_acts ..) rfl
        refine .step ?_ (State.event_acts ..) rfl
        refine .step ?_ (State.setFlag_acts ..) rfl
        refine .upd_thm ?_ rfl
        refine .upd_thm ?_ rfl
        refine .step ?_ (State.setFld_acts ..) rfl
        refine .step ?_ (State.setInt_acts ..) rfl
        refine .each ?_ ?_
        · exact .refl _
        · intro _ _
          refine .step ?_ (State.setInt_acts ..) rfl
          exact .refl _
      · refine .ite (fun _ => ?_) fun _ => ?_
        · refine .step ?_ (State.causeGone_acts ..) rfl
          refine .step ?_ (State.setFlag_acts ..) rfl
          refine .upd_thm ?_ rfl
          refine .upd_thm ?_ rfl
          refine .step ?_ (State.setFld_acts ..) rfl
          refine .step ?_ (State.setInt_acts ..) rfl
          refine .each ?_ ?_
          · exact .refl _
          · intro _ _
            refine .step ?_ (State.setInt_acts ..) rfl
            exact .refl _
        · refine .upd_thm ?_ rfl
          refine .step ?_ (State.setFld_acts ..) rfl
          refine .step ?_ (State.setInt_acts ..) rfl
          refine .each ?_ ?_
          · exact .refl _
          · intro _ _
            refine .step ?_ (State.setInt_acts ..) rfl
            exact .refl _

/-- Changes alarms, rcd, mram, tim, hlt, thm, regs, elapsed, working. -/
theorem execThermalUpdateRuns_acts : ∀ x0 x1 x2 x3 x4, ∃ t, execThermalUpdateRuns x0 x1 x2 x3 x4 = .next t ∧ Acts 6755433807152000 x4 t := by
  intro x0 x1 x2 x3 x4
  unfold execThermalUpdateRuns
  refine ⟨_, rfl, ?_⟩
  refine .ite (fun _ => ?_) fun _ => ?_
  · refine .step ?_ (State.thermalChecks_acts ..) rfl
    refine .step ?_ (State.readDiodes_acts ..) rfl
    refine .upd_thm ?_ rfl
    refine .foldl ?_ ?_
    · split
      · refine .step ?_ (State.reachEl_acts ..) rfl
        exact .refl _
      · exact .refl _
    · intro _ _
      refine .step ?_ (State.sampleRail_acts ..) rfl
      exact .refl _
  · exact .refl _

/-- Changes tim, thm, regs, elapsed, working. -/
theorem execTrefTrack_acts : ∀ x0, ∃ t, execTrefTrack x0 = .next t ∧ Acts 6755433805053952 x0 t := by
  intro x0
  unfold execTrefTrack
  refine ⟨_, rfl, ?_⟩
  refine .ite (fun _ => ?_) fun _ => ?_
  · refine .step ?_ (State.moveRef_acts ..) rfl
    refine .upd_thm ?_ rfl
    split
    · refine .step ?_ (State.reachEl_acts ..) rfl
      exact .refl _
    · exact .refl _
  · exact .refl _

/-- Changes tim, regs, elapsed, working. -/
theorem execCooled_acts : ∀ x0, ∃ t, execCooled x0 = .next t ∧ Acts 6755433800859648 x0 t := by
  intro x0
  unfold execCooled
  refine ⟨_, rfl, ?_⟩
  split
  · refine .step ?_ (State.setFlag_acts ..) rfl
    refine .step ?_ (State.reachEl_acts ..) rfl
    exact .refl _
  · exact .refl _

/-- Changes alarms, rcd, thm, regs. -/
theorem State.throttleWork_acts : ∀ x0, Acts 34363933056 x0 (State.throttleWork x0) := by
  intro x0
  unfold State.throttleWork
  refine .ite (fun _ => ?_) fun _ => ?_
  · refine .step ?_ (State.raise_acts ..) rfl
    refine .step ?_ (State.event_acts ..) rfl
    refine .step ?_ (State.setFlag_acts ..) rfl
    refine .step ?_ (State.setFld_acts ..) rfl
    refine .upd_thm ?_ rfl
    exact .refl _
  · refine .ite (fun _ => ?_) fun _ => ?_
    · refine .step ?_ (State.causeGone_acts ..) rfl
      refine .step ?_ (State.setFlag_acts ..) rfl
      refine .step ?_ (State.setFld_acts ..) rfl
      refine .upd_thm ?_ rfl
      exact .refl _
    · refine .step ?_ (State.setFlag_acts ..) rfl
      refine .step ?_ (State.setFld_acts ..) rfl
      refine .upd_thm ?_ rfl
      exact .refl _

/-- Changes dev, alarms, rcd, mram, pins, twn, saf, ctl, alc, fch, regs, out, devSt, ladle, lease, brakes. -/
theorem State.shutdownAction_acts : ∀ x0, Acts 1764201137308576 x0 (State.shutdownAction x0) := by
  intro x0
  unfold State.shutdownAction
  split
  · refine .ite (fun _ => ?_) fun _ => ?_
    · refine .step ?_ (State.raise_acts ..) rfl
      refine .step ?_ (State.enterSafe_acts ..) rfl
      refine .ite (fun _ => ?_) fun _ => ?_
      · refine .ite (fun _ => ?_) fun _ => ?_
        · refine .step ?_ (State.handOver_acts ..) rfl
          exact .refl _
        · refine .step ?_ (State.dropToArmed_acts ..) rfl
          exact .refl _
      · exact .refl _
    · exact .refl _
  · exact .refl _

/-- Changes hlt. -/
theorem State.startInjection_acts : ∀ x0 x1, Acts 2097152 x0 (State.startInjection x0 x1) := by
  intro x0 x1
  unfold State.startInjection
  refine .upd_hlt ?_ rfl
  exact .refl _

/-- Changes alarms, rcd, hlt, regs. -/
theorem State.endInjection_acts : ∀ x0 x1 x2 x3, Acts 34361835904 x0 (State.endInjection x0 x1 x2 x3) := by
  intro x0 x1 x2 x3
  unfold State.endInjection
  refine .ite (fun _ => ?_) fun _ => ?_
  · refine .step ?_ (State.raise_acts ..) rfl
    refine .step ?_ (State.event_acts ..) rfl
    refine .upd_hlt ?_ rfl
    exact .refl _
  · refine .upd_hlt ?_ rfl
    exact .refl _

/-! Interrupts.lean -/

/-- Changes intc. -/
theorem State.setTarget_acts : ∀ x0 x1 x2, Acts 2048 x0 (State.setTarget x0 x1 x2) := by
  intro x0 x1 x2
  unfold State.setTarget
  refine .upd_intc ?_ rfl
  exact .refl _

/-- Changes intc, regs. -/
theorem State.assignSource_acts : ∀ x0 x1, Acts 34359740416 x0 (State.assignSource x0 x1) := by
  intro x0 x1
  unfold State.assignSource
  refine .ite (fun _ => ?_) fun _ => ?_
  · split
    · refine .step ?_ (State.setFld_acts ..) rfl
      refine .upd_intc ?_ rfl
      exact .refl _
    · exact .refl _
  · exact .refl _

/-- Changes intc. -/
theorem State.updateLine_acts : ∀ x0 x1, Acts 2048 x0 (State.updateLine x0 x1) := by
  intro x0 x1
  unfold State.updateLine
  refine .ite (fun _ => ?_) fun _ => ?_
  · refine .ite (fun _ => ?_) fun _ => ?_
    · exact .refl _
    · refine .ite (fun _ => ?_) fun _ => ?_
      · refine .step ?_ (State.setTarget_acts ..) rfl
        exact .refl _
      · exact .refl _
  · refine .step ?_ (State.setTarget_acts ..) rfl
    exact .refl _

/-- Changes intc. -/
theorem State.updateLines_acts : ∀ x0, Acts 2048 x0 (State.updateLines x0) := by
  intro x0
  unfold State.updateLines
  refine .each ?_ ?_
  · exact .refl _
  · intro _ _
    refine .step ?_ (State.updateLine_acts ..) rfl
    exact .refl _

/-- Changes intc, regs. -/
theorem State.settleSources_acts : ∀ x0, Acts 34359740416 x0 (State.settleSources x0) := by
  intro x0
  unfold State.settleSources
  refine .step ?_ (State.updateLines_acts ..) rfl
  refine .each ?_ ?_
  · refine .upd_intc ?_ rfl
    exact .refl _
  · intro _ _
    refine .step ?_ (State.assignSource_acts ..) rfl
    exact .refl _

/-- Changes intc. -/
theorem State.claimRead_acts : ∀ x0 x1, Acts 2048 x0 (State.claimRead x0 x1).1 := by
  intro x0 x1
  unfold State.claimRead
  refine .iteP (fun _ => ?_) fun _ => ?_
  · split
    · refine .pair ?_
      refine .step ?_ (State.updateLines_acts ..) rfl
      refine .upd_intc ?_ rfl
      refine .step ?_ (State.setTarget_acts ..) rfl
      exact .refl _
    · refine .pair ?_
      exact .refl _
  · refine .pair ?_
    exact .refl _

/-- Changes alarms, rcd, intc, regs. -/
theorem State.completeWrite_acts : ∀ x0 x1 x2, Acts 34359740800 x0 (State.completeWrite x0 x1 x2) := by
  intro x0 x1 x2
  unfold State.completeWrite
  refine .ite (fun _ => ?_) fun _ => ?_
  · exact .refl _
  · refine .ite (fun _ => ?_) fun _ => ?_
    · refine .step ?_ (State.settleSources_acts ..) rfl
      refine .step ?_ (State.setTarget_acts ..) rfl
      exact .refl _
    · refine .step ?_ (State.settleSources_acts ..) rfl
      refine .step ?_ (State.raise_acts ..) rfl
      refine .step ?_ (State.event_acts ..) rfl
      refine .step ?_ (State.setTarget_acts ..) rfl
      exact .refl _

/-- Changes intc, regs. -/
theorem State.unfreezeTarget_acts : ∀ x0 x1, Acts 34359740416 x0 (State.unfreezeTarget x0 x1) := by
  intro x0 x1
  unfold State.unfreezeTarget
  refine .step ?_ (State.settleSources_acts ..) rfl
  refine .step ?_ (State.setTarget_acts ..) rfl
  exact .refl _

/-- Changes regs. -/
theorem State.doorbellWrite_acts : ∀ x0 x1, Acts 34359738368 x0 (State.doorbellWrite x0 x1) := by
  intro x0 x1
  unfold State.doorbellWrite
  refine .step ?_ (State.setReg_acts ..) rfl
  exact .refl _

/-- Changes apps. -/
theorem State.updateTimers_acts : ∀ x0, Acts 8192 x0 (State.updateTimers x0) := by
  intro x0
  unfold State.updateTimers
  refine .upd_apps ?_ rfl
  exact .refl _

/-- Changes intc, regs. -/
theorem execInterruptAssert_acts : ∀ x0 x1, ∃ t, execInterruptAssert x0 x1 = .next t ∧ Acts 34359740416 x1 t := by
  intro x0 x1
  unfold execInterruptAssert
  refine ⟨_, rfl, ?_⟩
  refine .step ?_ (State.updateLines_acts ..) rfl
  refine .step ?_ (State.assignSource_acts ..) rfl
  exact .refl _

/-- Changes alarms, rcd, intc, acl, twn, regs, out. -/
theorem execClaim_acts : ∀ x0 x1 x2, ∃ t, execClaim x0 x1 x2 = .next t ∧ Acts 584116111744 x2 t := by
  intro x0 x1 x2
  unfold execClaim
  refine ⟨_, rfl, ?_⟩
  refine .step ?_ (State.complete_acts ..) rfl
  refine State.accessWith_acts ?_ ?_ rfl
  · exact .refl _
  · intro _
    refine .pair ?_
    refine .step ?_ (State.claimRead_acts ..) rfl
    exact .refl _

/-- Changes alarms, rcd, intc, acl, twn, regs, out. -/
theorem execComplete_acts : ∀ x0 x1 x2 x3, ∃ t, execComplete x0 x1 x2 x3 = .next t ∧ Acts 584116111744 x3 t := by
  intro x0 x1 x2 x3
  unfold execComplete
  refine ⟨_, rfl, ?_⟩
  refine State.commandWrite_acts ?_ ?_ rfl
  · exact .refl _
  · intro _
    refine .step ?_ (State.completeWrite_acts ..) rfl
    exact .refl _

/-- Changes alarms, rcd, intc, acl, twn, regs, out. -/
theorem execUnfreeze_acts : ∀ x0 x1 x2, ∃ t, execUnfreeze x0 x1 x2 = .next t ∧ Acts 584116111744 x2 t := by
  intro x0 x1 x2
  unfold execUnfreeze
  refine ⟨_, rfl, ?_⟩
  refine State.commandWrite_acts ?_ ?_ rfl
  · exact .refl _
  · intro _
    refine .step ?_ (State.unfreezeTarget_acts ..) rfl
    exact .refl _

/-- Changes intc, tim, elapsed, working. -/
theorem execModerationInterval_acts : ∀ x0 x1, ∃ t, execModerationInterval x0 x1 = .next t ∧ Acts 6755399441123328 x1 t := by
  intro x0 x1
  unfold execModerationInterval
  refine ⟨_, rfl, ?_⟩
  split
  · refine .step ?_ (State.updateLine_acts ..) rfl
    refine .step ?_ (State.reachEl_acts ..) rfl
    exact .refl _
  · exact .refl _

/-- Changes intc, hst. -/
theorem execTargetIdle_acts : ∀ x0 x1, ∃ t, execTargetIdle x0 x1 = .next t ∧ Acts 6144 x1 t := by
  intro x0 x1
  unfold execTargetIdle
  refine ⟨_, rfl, ?_⟩
  refine .ite (fun _ => ?_) fun _ => ?_
  · refine .step ?_ (State.updateLine_acts ..) rfl
    refine .step ?_ (State.setTarget_acts ..) rfl
    exact .refl _
  · refine .step ?_ (State.updateLines_acts ..) rfl
    refine .upd_hst ?_ rfl rfl
    exact .refl _

/-- Changes hst. -/
theorem execHidleFall_acts : ∀ x0, ∃ t, execHidleFall x0 = .next t ∧ Acts 4096 x0 t := by
  intro x0
  unfold execHidleFall
  refine ⟨_, rfl, ?_⟩
  refine .upd_hst ?_ rfl rfl
  exact .refl _

/-- Changes alarms, rcd, intc, acl, twn, regs, out. -/
theorem execDoorbellSet_acts : ∀ x0 x1 x2, ∃ t, execDoorbellSet x0 x1 x2 = .next t ∧ Acts 584116111744 x2 t := by
  intro x0 x1 x2
  unfold execDoorbellSet
  refine ⟨_, rfl, ?_⟩
  refine State.commandWrite_acts ?_ ?_ rfl
  · exact .refl _
  · intro _
    refine .step ?_ (State.settleSources_acts ..) rfl
    refine .step ?_ (State.doorbellWrite_acts ..) rfl
    exact .refl _

/-- Changes intc, apps, tim, elapsed, working. -/
theorem execMachineTimer_acts : ∀ x0 x1, ∃ t, execMachineTimer x0 x1 = .next t ∧ Acts 6755399441131520 x1 t := by
  intro x0 x1
  unfold execMachineTimer
  refine ⟨_, rfl, ?_⟩
  refine .ite (fun _ => ?_) fun _ => ?_
  · refine .step ?_ (State.setTarget_acts ..) rfl
    refine .step ?_ (State.updateTimers_acts ..) rfl
    refine .step ?_ (State.reach_acts ..) rfl
    exact .refl _
  · exact .refl _

/-! FieldChain.lean -/

/-- Changes fch. -/
theorem State.setFchan_acts : ∀ x0 x1 x2, Acts 268435456 x0 (State.setFchan x0 x1 x2) := by
  intro x0 x1 x2
  unfold State.setFchan
  refine .upd_fch ?_ rfl
  exact .refl _

/-- Changes fch. -/
theorem State.takeInput_acts : ∀ x0 x1 x2 x3, Acts 268435456 x0 (State.takeInput x0 x1 x2 x3) := by
  intro x0 x1 x2 x3
  unfold State.takeInput
  refine .step ?_ (State.setFchan_acts ..) rfl
  exact .refl _

/-! Field.lean -/

/-- Changes regs. -/
theorem State.showFch_acts : ∀ x0 x1, Acts 34359738368 x0 (State.showFch x0 x1) := by
  intro x0 x1
  unfold State.showFch
  refine .step ?_ (State.setFlag_acts ..) rfl
  exact .refl _

/-- Changes fch, regs. -/
theorem State.suppress_acts : ∀ x0 x1, Acts 34628173824 x0 (State.suppress x0 x1) := by
  intro x0 x1
  unfold State.suppress
  refine .step ?_ (State.showFch_acts ..) rfl
  refine .step ?_ (State.setFlag_acts ..) rfl
  refine .step ?_ (State.setFchan_acts ..) rfl
  exact .refl _

/-- Changes fch. -/
theorem State.diagTimer_acts : ∀ x0 x1 x2 x3, Acts 268435456 x0 (State.diagTimer x0 x1 x2 x3) := by
  intro x0 x1 x2 x3
  unfold State.diagTimer
  refine .step ?_ (State.setFchan_acts ..) rfl
  exact .refl _

/-- Changes alarms, rcd, fch, regs. -/
theorem State.noteReadback_acts : ∀ x0 x1 x2, Acts 34628174208 x0 (State.noteReadback x0 x1 x2) := by
  intro x0 x1 x2
  unfold State.noteReadback
  refine .ite (fun _ => ?_) fun _ => ?_
  · refine .step ?_ (State.diagTimer_acts ..) rfl
    refine .step ?_ (State.setReg_acts ..) rfl
    exact .refl _
  · refine .ite (fun _ => ?_) fun _ => ?_
    · refine .step ?_ (State.setFchan_acts ..) rfl
      refine .step ?_ (State.setFlag_acts ..) rfl
      refine .step ?_ (State.setReg_acts ..) rfl
      exact .refl _
    · refine .step ?_ (State.causeGone_acts ..) rfl
      refine .step ?_ (State.setFchan_acts ..) rfl
      refine .step ?_ (State.setFlag_acts ..) rfl
      refine .step ?_ (State.setReg_acts ..) rfl
      exact .refl _

/-- Changes alarms, rcd, fch, regs, freeCtr. -/
theorem State.newSample_acts : ∀ x0 x1 x2, Acts 1134139801984 x0 (State.newSample x0 x1 x2) := by
  intro x0 x1 x2
  unfold State.newSample
  refine .step ?_ (State.showFch_acts ..) rfl
  refine .when ?_ ?_
  · refine .ite (fun _ => ?_) fun _ => ?_
    · refine .step ?_ (State.noteReadback_acts ..) rfl
      refine .each ?_ ?_
      · refine .ite (fun _ => ?_) fun _ => ?_
        · refine .step ?_ (State.setFlag_acts ..) rfl
          refine .step ?_ (State.setReg_acts ..) rfl
          refine .step ?_ (State.setReg_acts ..) rfl
          refine .step ?_ (State.setReg_acts ..) rfl
          refine .step ?_ (State.setFchan_acts ..) rfl
          exact .refl _
        · refine .step ?_ (State.setReg_acts ..) rfl
          refine .step ?_ (State.setReg_acts ..) rfl
          refine .step ?_ (State.setReg_acts ..) rfl
          refine .step ?_ (State.setFchan_acts ..) rfl
          exact .refl _
      · intro _ _
        refine .step ?_ (State.diagTimer_acts ..) rfl
        exact .refl _
    · refine .each ?_ ?_
      · refine .ite (fun _ => ?_) fun _ => ?_
        · refine .step ?_ (State.setFlag_acts ..) rfl
          refine .step ?_ (State.setReg_acts ..) rfl
          refine .step ?_ (State.setReg_acts ..) rfl
          refine .step ?_ (State.setReg_acts ..) rfl
          refine .step ?_ (State.setFchan_acts ..) rfl
          exact .refl _
        · refine .step ?_ (State.setReg_acts ..) rfl
          refine .step ?_ (State.setReg_acts ..) rfl
          refine .step ?_ (State.setReg_acts ..) rfl
          refine .step ?_ (State.setFchan_acts ..) rfl
          exact .refl _
      · intro _ _
        refine .step ?_ (State.diagTimer_acts ..) rfl
        exact .refl _
  · intro _
    refine .step ?_ (State.useFree_acts ..) rfl
    exact .refl _

/-- Changes alarms, rcd, tim, fch, regs, freeCtr, elapsed, working. -/
theorem execFieldSampleTaken_acts : ∀ x0 x1 x2, ∃ t, execFieldSampleTaken x0 x1 x2 = .next t ∧ Acts 6756533580923264 x2 t := by
  intro x0 x1 x2
  unfold execFieldSampleTaken
  refine ⟨_, rfl, ?_⟩
  refine .ite (fun _ => ?_) fun _ => ?_
  · exact .refl _
  · refine .ite (fun _ => ?_) fun _ => ?_
    · refine .step ?_ (State.setFchan_acts ..) rfl
      refine .step ?_ (State.takeInput_acts ..) rfl
      refine .step ?_ (State.reach_acts ..) rfl
      exact .refl _
    · refine .ite (fun _ => ?_) fun _ => ?_
      · refine .step ?_ (State.showFch_acts ..) rfl
        refine .step ?_ (State.setFlag_acts ..) rfl
        refine .step ?_ (State.setFchan_acts ..) rfl
        refine .step ?_ (State.takeInput_acts ..) rfl
        refine .step ?_ (State.reach_acts ..) rfl
        exact .refl _
      · refine .step ?_ (State.newSample_acts ..) rfl
        refine .step ?_ (State.takeInput_acts ..) rfl
        refine .step ?_ (State.reach_acts ..) rfl
        exact .refl _

/-- Changes fch. -/
theorem State.fieldFreeze_acts : ∀ x0 x1, Acts 268435456 x0 (State.fieldFreeze x0 x1) := by
  intro x0 x1
  unfold State.fieldFreeze
  refine .each ?_ ?_
  · exact .refl _
  · intro _ _
    refine .step ?_ (State.setFchan_acts ..) rfl
    exact .refl _

/-- Changes agr, twn, fch, out. -/
theorem State.sendFieldItem_acts : ∀ x0 x1, Acts 550025035776 x0 (State.sendFieldItem x0 x1) := by
  intro x0 x1
  unfold State.sendFieldItem
  split
  · exact .refl _
  · refine .step ?_ (State.setFchan_acts ..) rfl
    refine .ite (fun _ => ?_) fun _ => ?_
    · refine .step ?_ (State.ownItem_acts ..) rfl
      refine .foldl ?_ ?_
      · exact .refl _
      · intro _ _
        refine .step ?_ (State.ownItem_acts ..) rfl
        exact .refl _
    · refine .foldl ?_ ?_
      · exact .refl _
      · intro _ _
        refine .step ?_ (State.ownItem_acts ..) rfl
        exact .refl _

/-- Changes tim, agr, twn, fch, out, elapsed, working. -/
theorem execFieldItemSend_acts : ∀ x0, ∃ t, execFieldItemSend x0 = .next t ∧ Acts 6755949466157056 x0 t := by
  intro x0
  unfold execFieldItemSend
  refine ⟨_, rfl, ?_⟩
  refine .ite (fun _ => ?_) fun _ => ?_
  · refine .each ?_ ?_
    · refine .step ?_ (State.reach_acts ..) rfl
      exact .refl _
    · intro _ _
      refine .ite (fun _ => ?_) fun _ => ?_
      · refine .step ?_ (State.sendFieldItem_acts ..) rfl
        exact .refl _
      · exact .refl _
  · exact .refl _

/-- Changes fch, regs. -/
theorem State.driveField_acts : ∀ x0 x1 x2, Acts 34628173824 x0 (State.driveField x0 x1 x2) := by
  intro x0 x1 x2
  unfold State.driveField
  refine .ite (fun _ => ?_) fun _ => ?_
  · refine .upd_fch ?_ rfl
    refine .step ?_ (State.setFlag_acts ..) rfl
    refine .step ?_ (State.setReg_acts ..) rfl
    exact .refl _
  · exact .refl _

/-- Changes alarms, rcd, acl, twn, fch, regs, out. -/
theorem execFieldOutputWrite_acts : ∀ x0 x1 x2 x3, ∃ t, execFieldOutputWrite x0 x1 x2 x3 = .next t ∧ Acts 584384545152 x3 t := by
  intro x0 x1 x2 x3
  unfold execFieldOutputWrite
  refine ⟨_, rfl, ?_⟩
  refine State.commandWrite_acts ?_ ?_ rfl
  · exact .refl _
  · intro _
    refine .ite (fun _ => ?_) fun _ => ?_
    · refine .step ?_ (State.driveField_acts ..) rfl
      refine .step ?_ (State.setReg_acts ..) rfl
      exact .refl _
    · refine .step ?_ (State.setReg_acts ..) rfl
      exact .refl _

/-- Changes alarms, rcd, tim, fch, regs, elapsed, working. -/
theorem execFieldFaultTimerEnds_acts : ∀ x0 x1 x2, ∃ t, execFieldFaultTimerEnds x0 x1 x2 = .next t ∧ Acts 6755434069295488 x2 t := by
  intro x0 x1 x2
  unfold execFieldFaultTimerEnds
  refine ⟨_, rfl, ?_⟩
  try dsimp only
  split
  · exact .refl _
  · refine .ite (fun _ => ?_) fun _ => ?_
    · refine .ite (fun _ => ?_) fun _ => ?_
      · refine .step ?_ (State.showFch_acts ..) rfl
        refine .step ?_ (State.setFlag_acts ..) rfl
        refine .step ?_ (State.setFchan_acts ..) rfl
        refine .step ?_ (State.reachEl_acts ..) rfl
        exact .refl _
      · refine .step ?_ (State.causeGone_acts ..) rfl
        refine .step ?_ (State.showFch_acts ..) rfl
        refine .step ?_ (State.setFlag_acts ..) rfl
        refine .step ?_ (State.setFchan_acts ..) rfl
        refine .step ?_ (State.reachEl_acts ..) rfl
        exact .refl _
    · refine .step ?_ (State.showFch_acts ..) rfl
      refine .step ?_ (State.raise_acts ..) rfl
      refine .step ?_ (State.bump_acts ..) rfl
      refine .step ?_ (State.event_acts ..) rfl
      refine .step ?_ (State.setFlag_acts ..) rfl
      refine .step ?_ (State.setFchan_acts ..) rfl
      refine .step ?_ (State.reachEl_acts ..) rfl
      exact .refl _

/-- Changes alarms, rcd, tim, fch, regs, elapsed, working. -/
theorem execReadbackMismatch_acts : ∀ x0 x1, ∃ t, execReadbackMismatch x0 x1 = .next t ∧ Acts 6755434069295488 x1 t := by
  intro x0 x1
  unfold execReadbackMismatch
  refine ⟨_, rfl, ?_⟩
  try dsimp only
  split
  · refine .ite (fun _ => ?_) fun _ => ?_
    · refine .step ?_ (State.raise_acts ..) rfl
      refine .step ?_ (State.event_acts ..) rfl
      refine .step ?_ (State.setFlag_acts ..) rfl
      refine .step ?_ (State.setFchan_acts ..) rfl
      refine .step ?_ (State.reachEl_acts ..) rfl
      exact .refl _
    · exact .refl _
  · exact .refl _

/-- Changes alarms, rcd, fch, regs. -/
theorem execModulatorOverload_acts : ∀ x0 x1, ∃ t, execModulatorOverload x0 x1 = .next t ∧ Acts 34628174208 x1 t := by
  intro x0 x1
  unfold execModulatorOverload
  refine ⟨_, rfl, ?_⟩
  refine .ite (fun _ => ?_) fun _ => ?_
  · refine .step ?_ (State.suppress_acts ..) rfl
    refine .step ?_ (State.raise_acts ..) rfl
    refine .step ?_ (State.bump_acts ..) rfl
    refine .step ?_ (State.event_acts ..) rfl
    refine .step ?_ (State.setFchan_acts ..) rfl
    exact .refl _
  · exact .refl _

/-- Changes tim, hlt, elapsed, working. -/
theorem execEngineShadowEnd_acts : ∀ x0 x1 x2, ∃ t, execEngineShadowEnd x0 x1 x2 = .next t ∧ Acts 6755399443218432 x2 t := by
  intro x0 x1 x2
  unfold execEngineShadowEnd
  refine ⟨_, rfl, ?_⟩
  refine .ite (fun _ => ?_) fun _ => ?_
  · exact .refl _
  · refine .ite (fun _ => ?_) fun _ => ?_
    · refine .upd_hlt ?_ rfl
      refine .step ?_ (State.checkEnds_acts ..) rfl
      exact .refl _
    · refine .upd_hlt ?_ rfl
      refine .step ?_ (State.checkEnds_acts ..) rfl
      exact .refl _

/-- Changes alarms, rcd, mram, regs. -/
theorem State.retireEngine_acts : ∀ x0 x1 x2 x3, Acts 34359739264 x0 (State.retireEngine x0 x1 x2 x3) := by
  intro x0 x1 x2 x3
  unfold State.retireEngine
  refine .step ?_ (State.raise_acts ..) rfl
  refine .step ?_ (State.countRetired_acts ..) rfl
  refine .upd_mram ?_ rfl rfl rfl rfl (.inr rfl)
  exact .refl _

/-- Changes alarms, rcd, mram, tim, hlt, fch, regs, elapsed, working. -/
theorem execEngineTestEnd_acts : ∀ x0 x1 x2, ∃ t, execEngineTestEnd x0 x1 x2 = .next t ∧ Acts 6755434071393152 x2 t := by
  intro x0 x1 x2
  unfold execEngineTestEnd
  refine ⟨_, rfl, ?_⟩
  split
  · exact .refl _
  · refine .ite (fun _ => ?_) fun _ => ?_
    · refine .step ?_ (State.event_acts ..) rfl
      refine .step ?_ (State.setFlag_acts ..) rfl
      refine .step ?_ (State.raise_acts ..) rfl
      refine .step ?_ (State.retireEngine_acts ..) rfl
      refine .upd_hlt_fch ?_ rfl
      refine .step ?_ (State.checkEnds_acts ..) rfl
      exact .refl _
    · refine .step ?_ (State.retireEngine_acts ..) rfl
      refine .upd_hlt_fch ?_ rfl
      refine .step ?_ (State.checkEnds_acts ..) rfl
      exact .refl _

/-- Changes tim, hlt, fch, regs, elapsed, working. -/
theorem execFieldTestInjection_acts : ∀ x0 x1, ∃ t, execFieldTestInjection x0 x1 = .next t ∧ Acts 6755434071392256 x1 t := by
  intro x0 x1
  unfold execFieldTestInjection
  refine ⟨_, rfl, ?_⟩
  refine .ite (fun _ => ?_) fun _ => ?_
  · refine .step ?_ (State.showFch_acts ..) rfl
    refine .step ?_ (State.setFlag_acts ..) rfl
    refine .step ?_ (State.setFchan_acts ..) rfl
    refine .step ?_ (State.startInjection_acts ..) rfl
    refine .step ?_ (State.checkEnds_acts ..) rfl
    exact .refl _
  · exact .refl _

/-- Changes alarms, rcd, hlt, fch, regs. -/
theorem execFieldTestInjectionEnds_acts : ∀ x0 x1, ∃ t, execFieldTestInjectionEnds x0 x1 = .next t ∧ Acts 34630271360 x1 t := by
  intro x0 x1
  unfold execFieldTestInjectionEnds
  refine ⟨_, rfl, ?_⟩
  refine .ite (fun _ => ?_) fun _ => ?_
  · refine .step ?_ (State.suppress_acts ..) rfl
    refine .step ?_ (State.endInjection_acts ..) rfl
    exact .refl _
  · exact .refl _

/-- Changes fch, regs. -/
theorem State.suppressAll_acts : ∀ x0, Acts 34628173824 x0 (State.suppressAll x0) := by
  intro x0
  unfold State.suppressAll
  refine .each ?_ ?_
  · exact .refl _
  · intro _ _
    refine .step ?_ (State.suppress_acts ..) rfl
    exact .refl _

/-- Changes regs. -/
theorem State.latchFields_acts : ∀ x0 x1, Acts 34359738368 x0 (State.latchFields x0 x1) := by
  intro x0 x1
  unfold State.latchFields
  refine .each ?_ ?_
  · exact .refl _
  · intro _ _
    split
    · refine .step ?_ (State.event_acts ..) rfl
      refine .step ?_ (State.setReg_acts ..) rfl
      refine .step ?_ (State.setReg_acts ..) rfl
      exact .refl _
    · exact .refl _

/-- Changes intc, regs. -/
theorem State.fireUnit_acts : ∀ x0 x1, Acts 34359740416 x0 (State.fireUnit x0 x1) := by
  intro x0 x1
  unfold State.fireUnit
  refine .step ?_ (State.settleSources_acts ..) rfl
  refine .ite (fun _ => ?_) fun _ => ?_
  · refine .step ?_ (State.latchFields_acts ..) rfl
    refine .step ?_ (State.setReg_acts ..) rfl
    refine .step ?_ (State.setFlag_acts ..) rfl
    exact .refl _
  · refine .step ?_ (State.setReg_acts ..) rfl
    refine .step ?_ (State.setFlag_acts ..) rfl
    exact .refl _

/-- Changes intc, tim, regs, elapsed, working. -/
theorem execCompareFire_acts : ∀ x0 x1, ∃ t, execCompareFire x0 x1 = .next t ∧ Acts 6755433800861696 x1 t := by
  intro x0 x1
  unfold execCompareFire
  refine ⟨_, rfl, ?_⟩
  refine .ite (fun _ => ?_) fun _ => ?_
  · exact .refl _
  · refine .ite (fun _ => ?_) fun _ => ?_
    · refine .step ?_ (State.fireUnit_acts ..) rfl
      refine .step ?_ (State.reach_acts ..) rfl
      exact .refl _
    · refine .ite (fun _ => ?_) fun _ => ?_
      · refine .step ?_ (State.fireUnit_acts ..) rfl
        refine .upd_tim ?_ rfl (.inr rfl) (.inr rfl)
        refine .step ?_ (State.reach_acts ..) rfl
        exact .refl _
      · exact .refl _

/-- Changes intc, tim, regs. -/
theorem State.enableUnit_acts : ∀ x0 x1 x2, Acts 34359805952 x0 (State.enableUnit x0 x1 x2) := by
  intro x0 x1 x2
  unfold State.enableUnit
  refine .ite (fun _ => ?_) fun _ => ?_
  · refine .step ?_ (State.typedWrite_acts ..) rfl
    exact .refl _
  · refine .ite (fun _ => ?_) fun _ => ?_
    · refine .upd_tim ?_ rfl (.inr rfl) (.inr rfl)
      refine .step ?_ (State.typedWrite_acts ..) rfl
      exact .refl _
    · refine .ite (fun _ => ?_) fun _ => ?_
      · refine .ite (fun _ => ?_) fun _ => ?_
        · refine .upd_tim ?_ rfl (.inr rfl) (.inr rfl)
          refine .step ?_ (State.typedWrite_acts ..) rfl
          exact .refl _
        · refine .step ?_ (State.setFlag_acts ..) rfl
          refine .step ?_ (State.typedWrite_acts ..) rfl
          exact .refl _
      · refine .ite (fun _ => ?_) fun _ => ?_
        · refine .step ?_ (State.fireUnit_acts ..) rfl
          refine .step ?_ (State.event_acts ..) rfl
          refine .step ?_ (State.setFlag_acts ..) rfl
          refine .upd_tim ?_ rfl (.inr rfl) (.inr rfl)
          refine .step ?_ (State.typedWrite_acts ..) rfl
          exact .refl _
        · refine .upd_tim ?_ rfl (.inr rfl) (.inr rfl)
          refine .step ?_ (State.typedWrite_acts ..) rfl
          exact .refl _

/-- Changes alarms, rcd, intc, acl, tim, twn, regs, out. -/
theorem execCompareEnable_acts : ∀ x0 x1 x2 x3, ∃ t, execCompareEnable x0 x1 x2 x3 = .next t ∧ Acts 584116177280 x3 t := by
  intro x0 x1 x2 x3
  unfold execCompareEnable
  refine ⟨_, rfl, ?_⟩
  refine .ite (fun _ => ?_) fun _ => ?_
  · exact .refl _
  · refine State.commandWrite_acts ?_ ?_ rfl
    · exact .refl _
    · intro _
      refine .step ?_ (State.settleSources_acts ..) rfl
      refine .step ?_ (State.enableUnit_acts ..) rfl
      exact .refl _

/-- Changes regs. -/
theorem State.showRecord_acts : ∀ x0 x1, Acts 34359738368 x0 (State.showRecord x0 x1) := by
  intro x0 x1
  unfold State.showRecord
  refine .ite (fun _ => ?_) fun _ => ?_
  · refine .step ?_ (State.setFlag_acts ..) rfl
    refine .step ?_ (State.setReg_acts ..) rfl
    exact .refl _
  · refine .step ?_ (State.setReg_acts ..) rfl
    exact .refl _

/-- Changes regs. -/
theorem State.setupFields_acts : ∀ x0, Acts 34359738368 x0 (State.setupFields x0) := by
  intro x0
  unfold State.setupFields
  refine .each ?_ ?_
  · exact .refl _
  · intro _ _
    refine .step ?_ (State.showRecord_acts ..) rfl
    exact .refl _

/-- Changes alarms, rcd, fch, regs. -/
theorem State.startFields_acts : ∀ x0, Acts 34628174208 x0 (State.startFields x0) := by
  intro x0
  unfold State.startFields
  refine .each ?_ ?_
  · refine .step ?_ (State.suppressAll_acts ..) rfl
    refine .upd_fch ?_ rfl
    refine .each ?_ ?_
    · exact .refl _
    · intro _ _
      refine .foldl ?_ ?_
      · refine .upd_fch ?_ rfl
        exact .refl _
      · intro _ _
        refine .ite (fun _ => ?_) fun _ => ?_
        · refine .step ?_ (State.setFlag_acts ..) rfl
          exact .refl _
        · refine .step ?_ (State.raise_acts ..) rfl
          refine .step ?_ (State.event_acts ..) rfl
          refine .step ?_ (State.setFlag_acts ..) rfl
          exact .refl _
  · intro _ _
    refine .step ?_ (State.driveField_acts ..) rfl
    exact .refl _

/-- Changes regs. -/
theorem State.showFields_acts : ∀ x0, Acts 34359738368 x0 (State.showFields x0) := by
  intro x0
  unfold State.showFields
  refine .each ?_ ?_
  · exact .refl _
  · intro _ _
    refine .step ?_ (State.showFch_acts ..) rfl
    exact .refl _

/-- Changes clk, alarms, rcd, regs. -/
theorem execVfldPresent_acts : ∀ x0, ∃ t, execVfldPresent x0 = .next t ∧ Acts 34359738756 x0 t := by
  intro x0
  unfold execVfldPresent
  refine ⟨_, rfl, ?_⟩
  refine .step ?_ (State.showFields_acts ..) rfl
  refine .step ?_ (State.causeGone_acts ..) rfl
  refine .step ?_ (State.setFlag_acts ..) rfl
  refine .upd_clk ?_ rfl
  exact .refl _

/-- Changes clk, alarms, rcd, saf, fch, regs, brakes. -/
theorem execVfldLow_acts : ∀ x0, ∃ t, execVfldLow x0 = .next t ∧ Acts 1125934536065412 x0 t := by
  intro x0
  unfold execVfldLow
  refine ⟨_, rfl, ?_⟩
  refine .ite (fun _ => ?_) fun _ => ?_
  · refine .step ?_ (State.showFields_acts ..) rfl
    refine .each ?_ ?_
    · refine .step ?_ (State.raise_acts ..) rfl
      refine .step ?_ (State.setFlag_acts ..) rfl
      refine .upd_clk_fch ?_ rfl
      exact .refl _
    · intro _ _
      refine .ite (fun _ => ?_) fun _ => ?_
      · refine .step ?_ (State.applyBrake_acts ..) rfl
        exact .refl _
      · exact .refl _
  · exact .refl _

end Sys2Proof.Machine
end

