-- ==== Sys2Proof/Laws/ActsTwin.lean ====
section
/-! SUPPORT. What the operations of the State Image, the twin, application cores, resets, the flash window and the Pattern may change: one lemma each. -/
namespace Sys2Proof.Machine

/-! Image.lean -/

/-- Changes dev, ord, alarms, rcd, alc, net, can, regs, out. -/
theorem State.preview_acts : ∀ x0, Acts 587403887072 x0 (State.preview x0) := by
  intro x0
  unfold State.preview
  refine .ite (fun _ => ?_) fun _ => ?_
  · refine .step ?_ (State.sendResponses_acts ..) rfl
    refine .step ?_ (State.publishAllocation_acts ..) rfl
    refine .step ?_ (State.publishControl_acts ..) rfl
    refine .step ?_ (State.publishFusion_acts ..) rfl
    refine .step ?_ (State.scenarioAlarms_acts ..) rfl
    exact .refl _
  · refine .step ?_ (State.sendResponses_acts ..) rfl
    exact .refl _

/-- The back buffer takes a canonical image. -/
theorem State.setBack_acts (s : State) (m : Sparse 32) (hm : memWf zeroCell m = true) : Acts 16384 s (s.setBack m) := by
  refine ⟨fun p hp => by cases p <;> first | rfl | exact absurd hp (by decide), fun k => k.of_canonical ?_ rfl rfl rfl rfl rfl⟩
  have c := k.canonical
  unfold State.setBack State.Canonical
  split
  · exact ⟨c.1, c.2.1, c.2.2.1, c.2.2.2.1, c.2.2.2.2.1, c.2.2.2.2.2.1, hm, c.2.2.2.2.2.2.2⟩
  · exact ⟨c.1, c.2.1, c.2.2.1, c.2.2.2.1, c.2.2.2.2.1, hm, c.2.2.2.2.2.2.1, c.2.2.2.2.2.2.2⟩

/-- Changes sti. -/
theorem State.buildImage_acts (s : State) : Acts 16384 s s.buildImage := by
  unfold State.buildImage
  refine Acts.ite (fun _ => Acts.refl s) (fun _ => ?_)
  exact Acts.upd_sti (State.setBack_acts s s.comparedImage (memWf_putSections _ _ rfl)) rfl rfl rfl

/-- Changes sti. -/
theorem State.closeImage_acts (s : State) (after : Nat) : Acts 16384 s (s.closeImage after) := by
  unfold State.closeImage
  refine Acts.ite (fun _ => Acts.refl s) (fun _ => ⟨fun p hp => by cases p <;> first | rfl | exact absurd hp (by decide), fun k => ?_⟩)
  have c := k.canonical
  have hb : memWf zeroCell s.backBuffer = true := by
    unfold State.backBuffer
    split
    · exact c.2.2.2.2.2.2.1
    · exact c.2.2.2.2.2.1
  extract_lets own peer cope drag m u
  have hu : Acts 16384 s u := State.setBack_acts s _ (memWf_memSet _ _ _ _ (memWf_putSections _ _ hb))
  exact (Acts.upd_sti (m := 16384) (sti0 := { u.sti with closed := true }) hu rfl rfl rfl).sound k

/-- Changes sti, regs. -/
theorem State.swapImage_acts : ∀ x0, Acts 34359754752 x0 (State.swapImage x0) := by
  intro x0
  unfold State.swapImage
  refine .step ?_ (State.setReg_acts ..) rfl
  refine .upd_sti ?_ rfl rfl rfl
  exact .refl _

/-- Changes sti. -/
theorem State.breakViews_acts : ∀ x0, Acts 16384 x0 (State.breakViews x0) := by
  intro x0
  unfold State.breakViews
  refine .upd_sti ?_ rfl rfl rfl
  exact .refl _

/-! Twin.lean -/

/-- Changes alarms, rcd, twn, regs. -/
theorem execTwinLaneLost_acts : ∀ x0 x1, ∃ t, execTwinLaneLost x0 x1 = .next t ∧ Acts 34360263040 x1 t := by
  intro x0 x1
  unfold execTwinLaneLost
  refine ⟨_, rfl, ?_⟩
  refine .step ?_ (State.loseLane_acts ..) rfl
  exact .refl _

/-- Changes tim, twn, elapsed, working. -/
theorem execTwinLaneRetry_acts : ∀ x0 x1, ∃ t, execTwinLaneRetry x0 x1 = .next t ∧ Acts 6755399441645568 x1 t := by
  intro x0 x1
  unfold execTwinLaneRetry
  refine ⟨_, rfl, ?_⟩
  split
  · refine .upd_twn ?_ rfl (.inr rfl)
    refine .step ?_ (State.reachEl_acts ..) rfl
    exact .refl _
  · exact .refl _

/-- Changes alarms, rcd, tim, twn, regs, out. -/
theorem execTwinLaneUp_acts : ∀ x0 x1, ∃ t, execTwinLaneUp x0 x1 = .next t ∧ Acts 584116142464 x1 t := by
  intro x0 x1
  unfold execTwinLaneUp
  refine ⟨_, rfl, ?_⟩
  refine .ite (fun _ => ?_) fun _ => ?_
  · refine .step ?_ (State.reselect_acts ..) rfl
    refine .step ?_ (State.requestSync_acts ..) rfl
    refine .ite (fun _ => ?_) fun _ => ?_
    · refine .step ?_ (State.causeGone_acts ..) rfl
      refine .step ?_ (State.causeGone_acts ..) rfl
      refine .step ?_ (State.setFlag_acts ..) rfl
      refine .upd_twn ?_ rfl (.inr rfl)
      exact .refl _
    · refine .step ?_ (State.causeGone_acts ..) rfl
      refine .step ?_ (State.setFlag_acts ..) rfl
      refine .upd_twn ?_ rfl (.inr rfl)
      exact .refl _
  · exact .refl _

/-- Changes dev, alarms, rcd, tim, twn, regs, out, elapsed, working. -/
theorem execTwinLinkDown_acts : ∀ x0, ∃ t, execTwinLinkDown x0 = .next t ∧ Acts 6755983557198240 x0 t := by
  intro x0
  unfold execTwinLinkDown
  refine ⟨_, rfl, ?_⟩
  split
  · refine .ite (fun _ => ?_) fun _ => ?_
    · refine .step ?_ (State.reselect_acts ..) rfl
      refine .upd_twn ?_ rfl (.inr rfl)
      refine .step ?_ (State.setFlag_acts ..) rfl
      refine .step ?_ (State.setFlag_acts ..) rfl
      refine .step ?_ (State.leaveStep_acts ..) rfl
      refine .step ?_ (State.raise_acts ..) rfl
      refine .step ?_ (State.event_acts ..) rfl
      refine .step ?_ (State.reachEl_acts ..) rfl
      exact .refl _
    · exact .refl _
  · exact .refl _

/-- Changes twn, regs, out. -/
theorem execTwinRetransmit_acts : ∀ x0 x1 x2, ∃ t, execTwinRetransmit x0 x1 x2 = .next t ∧ Acts 584116076544 x2 t := by
  intro x0 x1 x2
  unfold execTwinRetransmit
  refine ⟨_, rfl, ?_⟩
  refine .step ?_ (State.retransmit_acts ..) rfl
  exact .refl _

/-- Changes twn, regs, out. -/
theorem execTwinNak_acts : ∀ x0 x1 x2, ∃ t, execTwinNak x0 x1 x2 = .next t ∧ Acts 584116076544 x2 t := by
  intro x0 x1 x2
  unfold execTwinNak
  refine ⟨_, rfl, ?_⟩
  refine .step ?_ (State.retransmit_acts ..) rfl
  exact .refl _

/-- Changes tim, twn, out, elapsed, working. -/
theorem execHelloSend_acts : ∀ x0 x1, ∃ t, execHelloSend x0 x1 = .next t ∧ Acts 6755949197459456 x1 t := by
  intro x0 x1
  unfold execHelloSend
  refine ⟨_, rfl, ?_⟩
  refine .ite (fun _ => ?_) fun _ => ?_
  · refine .step ?_ (State.twinSend_acts ..) rfl
    refine .upd_twn ?_ rfl (.inr rfl)
    split
    · refine .step ?_ (State.reachEl_acts ..) rfl
      exact .refl _
    · exact .refl _
  · exact .refl _

/-- Changes boot, dev, regs, devSt, devMode, devEpoch, devAim. -/
theorem State.readyAt_acts : ∀ x0 x1, Acts 66005057404968 x0 (State.readyAt x0 x1) := by
  intro x0 x1
  unfold State.readyAt
  refine .upd_boot_dev ?_ rfl (.inl rfl) (.inl rfl) (.inl rfl) (.inl rfl)
  refine .step ?_ (State.setFld_acts ..) rfl
  exact .refl _

/-- Changes boot, dev, alarms, rcd, twn, regs, devSt, devMode, devEpoch, devAim. -/
theorem State.startAlone_acts : ∀ x0 x1, Acts 66005057929640 x0 (State.startAlone x0 x1) := by
  intro x0 x1
  unfold State.startAlone
  refine .step ?_ (State.readyAt_acts ..) rfl
  refine .ite (fun _ => ?_) fun _ => ?_
  · refine .step ?_ (State.raise_acts ..) rfl
    refine .step ?_ (State.setCond_acts ..) rfl
    refine .upd_twn ?_ rfl (.inr rfl)
    exact .refl _
  · refine .upd_twn ?_ rfl (.inr rfl)
    exact .refl _

/-- Changes boot, dev, mram, twn, regs, devSt, devMode, devEpoch, devAim, ladle. -/
theorem State.commonStart_acts : ∀ x0 x1 x2, Acts 136373802107432 x0 (State.commonStart x0 x1 x2) := by
  intro x0 x1 x2
  unfold State.commonStart
  refine .step ?_ (State.readyAt_acts ..) rfl
  refine .step ?_ (State.setLadleEp_acts ..) rfl
  refine .upd_twn ?_ rfl (.inr rfl)
  exact .refl _

/-- Changes boot, dev, mram, twn, regs, out, devSt, devMode, devEpoch, devAim, ladle. -/
theorem State.sendStart_acts : ∀ x0 x1, Acts 136923557921320 x0 (State.sendStart x0 x1) := by
  intro x0 x1
  unfold State.sendStart
  refine .step ?_ (State.commonStart_acts ..) rfl
  refine .step ?_ (State.twinSend_acts ..) rfl
  exact .refl _

/-- Changes boot, rcd, tim, regs, working. -/
theorem State.twinTime_acts : ∀ x0, Acts 4503633987174664 x0 (State.twinTime x0) := by
  intro x0
  unfold State.twinTime
  refine .ite (fun _ => ?_) fun _ => ?_
  · refine .upd_boot ?_ rfl
    refine .step ?_ (State.setTimeDirect_acts ..) rfl
    exact .refl _
  · exact .refl _

/-- Changes boot, dev, alarms, rcd, mram, twn, regs, out, devSt, devMode, devEpoch, devAim, ladle. -/
theorem State.step11_acts : ∀ x0, Acts 136923557921704 x0 (State.step11 x0) := by
  intro x0
  unfold State.step11
  split
  · refine .ite (fun _ => ?_) fun _ => ?_
    · exact .refl _
    · refine .ite (fun _ => ?_) fun _ => ?_
      · refine .step ?_ (State.startAlone_acts ..) rfl
        exact .refl _
      · refine .ite (fun _ => ?_) fun _ => ?_
        · refine .step ?_ (State.startAlone_acts ..) rfl
          exact .refl _
        · refine .ite (fun _ => ?_) fun _ => ?_
          · refine .step ?_ (State.startAlone_acts ..) rfl
            exact .refl _
          · refine .ite (fun _ => ?_) fun _ => ?_
            · refine .step ?_ (State.sendStart_acts ..) rfl
              exact .refl _
            · exact .refl _
  · exact .refl _

/-- Changes boot, dev, alarms, rcd, mram, twn, regs, out, devSt, devMode, devEpoch, devAim, ladle. -/
theorem State.takeHello_acts : ∀ x0 x1, Acts 136923557921704 x0 (State.takeHello x0 x1) := by
  intro x0 x1
  unfold State.takeHello
  refine .step ?_ (State.step11_acts ..) rfl
  refine .ite (fun _ => ?_) fun _ => ?_
  · refine .upd_twn ?_ rfl (.inr rfl)
    exact .refl _
  · refine .step ?_ (State.twinSend_acts ..) rfl
    refine .upd_twn ?_ rfl (.inr rfl)
    exact .refl _

/-- Changes boot, dev, alarms, rcd, mram, twn, regs, out, devSt, devMode, devEpoch, devAim, ladle. -/
theorem execHelloFrame_acts : ∀ x0 x1 x2, ∃ t, execHelloFrame x0 x1 x2 = .next t ∧ Acts 136923557921704 x2 t := by
  intro x0 x1 x2
  unfold execHelloFrame
  refine ⟨_, rfl, ?_⟩
  refine State.onFrame_acts ?_ ?_ rfl
  · exact .refl _
  · intro _
    refine .step ?_ (State.takeHello_acts ..) rfl
    exact .refl _

/-- Changes alarms, rcd, regs. -/
theorem State.meetPeer_acts : ∀ x0 x1, Acts 34359738752 x0 (State.meetPeer x0 x1) := by
  intro x0 x1
  unfold State.meetPeer
  refine .ite (fun _ => ?_) fun _ => ?_
  · refine .step ?_ (State.causeGone_acts ..) rfl
    refine .step ?_ (State.setFlag_acts ..) rfl
    refine .step ?_ (State.causeGone_acts ..) rfl
    refine .step ?_ (State.setReg_acts ..) rfl
    refine .step ?_ (State.setReg_acts ..) rfl
    refine .step ?_ (State.setReg_acts ..) rfl
    refine .step ?_ (State.setFlag_acts ..) rfl
    exact .refl _
  · refine .step ?_ (State.raise_acts ..) rfl
    refine .step ?_ (State.setFlag_acts ..) rfl
    refine .step ?_ (State.causeGone_acts ..) rfl
    refine .step ?_ (State.setReg_acts ..) rfl
    refine .step ?_ (State.setReg_acts ..) rfl
    refine .step ?_ (State.setReg_acts ..) rfl
    refine .step ?_ (State.setFlag_acts ..) rfl
    exact .refl _

/-- Changes boot, dev, alarms, rcd, mram, tim, twn, regs, out, devSt, devMode, devEpoch, devAim, ladle, working. -/
theorem State.takeAuth_acts : ∀ x0 x1 x2, Acts 4640523185357736 x0 (State.takeAuth x0 x1 x2) := by
  intro x0 x1 x2
  unfold State.takeAuth
  split
  · refine .ite (fun _ => ?_) fun _ => ?_
    · refine .step ?_ (State.requestSync_acts ..) rfl
      refine .step ?_ (State.step11_acts ..) rfl
      refine .step ?_ (State.twinTime_acts ..) rfl
      refine .step ?_ (State.reselect_acts ..) rfl
      refine .step ?_ (State.meetPeer_acts ..) rfl
      exact .refl _
    · refine .step ?_ (State.raise_acts ..) rfl
      exact .refl _
  · exact .refl _

/-- Changes boot, dev, alarms, rcd, mram, tim, twn, regs, out, devSt, devMode, devEpoch, devAim, ladle, working. -/
theorem execAuthFrame_acts : ∀ x0 x1 x2 x3, ∃ t, execAuthFrame x0 x1 x2 x3 = .next t ∧ Acts 4640523185357736 x3 t := by
  intro x0 x1 x2 x3
  unfold execAuthFrame
  refine ⟨_, rfl, ?_⟩
  refine State.onFrame_acts ?_ ?_ rfl
  · exact .refl _
  · intro _
    refine .step ?_ (State.takeAuth_acts ..) rfl
    exact .refl _

/-- Changes boot, dev, alarms, rcd, mram, tim, twn, regs, out, devSt, devMode, devEpoch, devAim, ladle, working. -/
theorem execTimeMarker_acts : ∀ x0 x1, ∃ t, execTimeMarker x0 x1 = .next t ∧ Acts 4640523185357736 x1 t := by
  intro x0 x1
  unfold execTimeMarker
  refine ⟨_, rfl, ?_⟩
  refine .ite (fun _ => ?_) fun _ => ?_
  · refine .step ?_ (State.step11_acts ..) rfl
    refine .step ?_ (State.twinTime_acts ..) rfl
    refine .step ?_ (State.takeMarker_acts ..) rfl
    exact .refl _
  · exact .refl _

/-- Changes boot, dev, alarms, rcd, mram, twn, regs, out, devSt, devMode, devEpoch, devAim, ladle. -/
theorem execStartFrame_acts : ∀ x0 x1 x2 x3, ∃ t, execStartFrame x0 x1 x2 x3 = .next t ∧ Acts 136923557921704 x3 t := by
  intro x0 x1 x2 x3
  unfold execStartFrame
  refine ⟨_, rfl, ?_⟩
  refine State.onFrame_acts ?_ ?_ rfl
  · exact .refl _
  · intro _
    refine .ite (fun _ => ?_) fun _ => ?_
    · refine .step ?_ (State.commonStart_acts ..) rfl
      exact .refl _
    · exact .refl _

/-- Changes boot, dev, alarms, rcd, tim, twn, regs, devSt, devMode, devEpoch, devAim, elapsed, working. -/
theorem execTwinWaitEnd_acts : ∀ x0, ∃ t, execTwinWaitEnd x0 = .next t ∧ Acts 6821404499050920 x0 t := by
  intro x0
  unfold execTwinWaitEnd
  refine ⟨_, rfl, ?_⟩
  refine .ite (fun _ => ?_) fun _ => ?_
  · refine .step ?_ (State.startAlone_acts ..) rfl
    refine .step ?_ (State.reachEl_acts ..) rfl
    exact .refl _
  · exact .refl _

/-- Changes agr, twn. -/
theorem State.takeItem_acts : ∀ x0 x1, Acts 786432 x0 (State.takeItem x0 x1) := by
  intro x0 x1
  unfold State.takeItem
  refine .ite (fun _ => ?_) fun _ => ?_
  · refine .ite (fun _ => ?_) fun _ => ?_
    · refine .upd_twn ?_ rfl (.inr rfl)
      refine .upd_agr ?_ rfl
      exact .refl _
    · refine .upd_agr ?_ rfl
      exact .refl _
  · exact .refl _

/-- Changes agr, twn. -/
theorem State.takeFragment_acts : ∀ x0 x1 x2 x3, Acts 786432 x0 (State.takeFragment x0 x1 x2 x3) := by
  intro x0 x1 x2 x3
  unfold State.takeFragment
  try dsimp only
  split
  · refine .ite (fun _ => ?_) fun _ => ?_
    · refine .step ?_ (State.takeItem_acts ..) rfl
      refine .upd_agr ?_ rfl
      exact .refl _
    · refine .upd_agr ?_ rfl
      exact .refl _
  · refine .upd_agr ?_ rfl
    exact .refl _

/-- Changes alarms, rcd, agr, twn, regs, out. -/
theorem execItemFrame_acts : ∀ x0 x1 x2 x3 x4, ∃ t, execItemFrame x0 x1 x2 x3 x4 = .next t ∧ Acts 584116339072 x4 t := by
  intro x0 x1 x2 x3 x4
  unfold execItemFrame
  refine ⟨_, rfl, ?_⟩
  refine State.onFrame_acts ?_ ?_ rfl
  · exact .refl _
  · intro _
    refine .step ?_ (State.takeFragment_acts ..) rfl
    exact .refl _

/-- Changes alarms, rcd, twn, regs, out. -/
theorem execCompareFrame_acts : ∀ x0 x1 x2, ∃ t, execCompareFrame x0 x1 x2 = .next t ∧ Acts 584116076928 x2 t := by
  intro x0 x1 x2
  unfold execCompareFrame
  refine ⟨_, rfl, ?_⟩
  refine State.onFrame_acts ?_ ?_ rfl
  · exact .refl _
  · intro _
    refine .ite (fun _ => ?_) fun _ => ?_
    · refine .upd_twn ?_ rfl (.inr rfl)
      exact .refl _
    · exact .refl _

/-- Changes alarms, rcd, twn, regs, out. -/
theorem execVerdictFrame_acts : ∀ x0 x1 x2, ∃ t, execVerdictFrame x0 x1 x2 = .next t ∧ Acts 584116076928 x2 t := by
  intro x0 x1 x2
  unfold execVerdictFrame
  refine ⟨_, rfl, ?_⟩
  refine State.onFrame_acts ?_ ?_ rfl
  · exact .refl _
  · intro _
    refine .ite (fun _ => ?_) fun _ => ?_
    · refine .upd_twn ?_ rfl (.inr rfl)
      exact .refl _
    · exact .refl _

/-- Changes saf. -/
theorem State.nextSafe_acts : ∀ x0 x1, Acts 1048576 x0 (State.nextSafe x0 x1) := by
  intro x0 x1
  unfold State.nextSafe
  refine .upd_saf ?_ rfl (.inr rfl) (.inr rfl)
  exact .refl _

/-- Changes alarms, rcd, regs. -/
theorem State.judgeLan_acts : ∀ x0 x1 x2, Acts 34359738752 x0 (State.judgeLan x0 x1 x2) := by
  intro x0 x1 x2
  unfold State.judgeLan
  refine .ite (fun _ => ?_) fun _ => ?_
  · refine .step ?_ (State.raise_acts ..) rfl
    refine .step ?_ (State.event_acts ..) rfl
    exact .refl _
  · exact .refl _

/-- Changes alarms, rcd, tim, twn, saf, net, regs, out, lease, elapsed, working. -/
theorem execRenewSend_acts : ∀ x0, ∃ t, execRenewSend x0 = .next t ∧ Acts 7318934585409920 x0 t := by
  intro x0
  unfold execRenewSend
  refine ⟨_, rfl, ?_⟩
  refine .ite (fun _ => ?_) fun _ => ?_
  · exact .refl _
  · refine .ite (fun _ => ?_) fun _ => ?_
    · refine .step ?_ (State.countRenewal_acts ..) rfl
      refine .ite (fun _ => ?_) fun _ => ?_
      · refine .upd_twn ?_ rfl (.inr rfl)
        refine .step ?_ (State.judgeLan_acts ..) rfl
        refine .step ?_ (State.reach_acts ..) rfl
        exact .refl _
      · refine .ite (fun _ => ?_) fun _ => ?_
        · refine .step ?_ (State.nextSafe_acts ..) rfl
          refine .step ?_ (State.lanSend_acts ..) rfl
          refine .ite (fun _ => ?_) fun _ => ?_
          · refine .step ?_ (State.twinSend_acts ..) rfl
            refine .upd_twn ?_ rfl (.inr rfl)
            refine .step ?_ (State.judgeLan_acts ..) rfl
            refine .step ?_ (State.reach_acts ..) rfl
            exact .refl _
          · refine .upd_twn ?_ rfl (.inr rfl)
            refine .step ?_ (State.judgeLan_acts ..) rfl
            refine .step ?_ (State.reach_acts ..) rfl
            exact .refl _
        · refine .ite (fun _ => ?_) fun _ => ?_
          · refine .step ?_ (State.twinSend_acts ..) rfl
            refine .upd_twn ?_ rfl (.inr rfl)
            refine .step ?_ (State.judgeLan_acts ..) rfl
            refine .step ?_ (State.reach_acts ..) rfl
            exact .refl _
          · refine .upd_twn ?_ rfl (.inr rfl)
            refine .step ?_ (State.judgeLan_acts ..) rfl
            refine .step ?_ (State.reach_acts ..) rfl
            exact .refl _
    · refine .ite (fun _ => ?_) fun _ => ?_
      · refine .upd_twn ?_ rfl (.inr rfl)
        refine .step ?_ (State.judgeLan_acts ..) rfl
        refine .step ?_ (State.reach_acts ..) rfl
        exact .refl _
      · refine .ite (fun _ => ?_) fun _ => ?_
        · refine .step ?_ (State.nextSafe_acts ..) rfl
          refine .step ?_ (State.lanSend_acts ..) rfl
          refine .ite (fun _ => ?_) fun _ => ?_
          · refine .step ?_ (State.twinSend_acts ..) rfl
            refine .upd_twn ?_ rfl (.inr rfl)
            refine .step ?_ (State.judgeLan_acts ..) rfl
            refine .step ?_ (State.reach_acts ..) rfl
            exact .refl _
          · refine .upd_twn ?_ rfl (.inr rfl)
            refine .step ?_ (State.judgeLan_acts ..) rfl
            refine .step ?_ (State.reach_acts ..) rfl
            exact .refl _
        · refine .ite (fun _ => ?_) fun _ => ?_
          · refine .step ?_ (State.twinSend_acts ..) rfl
            refine .upd_twn ?_ rfl (.inr rfl)
            refine .step ?_ (State.judgeLan_acts ..) rfl
            refine .step ?_ (State.reach_acts ..) rfl
            exact .refl _
          · refine .upd_twn ?_ rfl (.inr rfl)
            refine .step ?_ (State.judgeLan_acts ..) rfl
            refine .step ?_ (State.reach_acts ..) rfl
            exact .refl _

/-- Changes twn, saf, net, regs, out. -/
theorem State.sendAck_acts : ∀ x0 x1 x2, Acts 585190866944 x0 (State.sendAck x0 x1 x2) := by
  intro x0 x1 x2
  unfold State.sendAck
  try dsimp only
  split
  · refine .step ?_ (State.twinSend_acts ..) rfl
    exact .refl _
  · refine .step ?_ (State.nextSafe_acts ..) rfl
    refine .step ?_ (State.ethSend_acts ..) rfl
    exact .refl _
  · refine .step ?_ (State.nextSafe_acts ..) rfl
    refine .step ?_ (State.ethSend_acts ..) rfl
    exact .refl _

/-- Changes alarms, rcd, twn, regs, out. -/
theorem State.onPath_acts {m : Nat} {s₀ s : State} {path : Path} {f : State → State} (h₀ : Acts m s₀ s)
    (h : ∀ s, Acts m s (f s)) (hm : 584116076928 ||| m = m) : Acts m s₀ (s.onPath path f) := by
  unfold State.onPath
  split
  · exact State.onFrame_acts h₀ h (mask_step hm rfl)
  · exact h₀.step (h _) (Nat.or_self m)
  · exact h₀.step (h _) (Nat.or_self m)

/-- Changes dev, alarms, rcd, mram, tim, twn, saf, ctl, fch, net, regs, out, devSt, ladle, lease, brakes, elapsed, working. -/
theorem execRenew_acts : ∀ x0 x1 x2 x3 x4 x5, ∃ t, execRenew x0 x1 x2 x3 x4 x5 = .next t ∧ Acts 8519601584931744 x5 t := by
  intro x0 x1 x2 x3 x4 x5
  unfold execRenew
  refine ⟨_, rfl, ?_⟩
  refine State.onPath_acts ?_ ?_ rfl
  · refine .step ?_ (State.reach_acts ..) rfl
    exact .refl _
  · intro _
    refine .ite (fun _ => ?_) fun _ => ?_
    · exact .refl _
    · refine .step ?_ (State.sendAck_acts ..) rfl
      refine .ite (fun _ => ?_) fun _ => ?_
      · refine .step ?_ (State.setLadleEp_acts ..) rfl
        refine .upd_twn ?_ rfl (.inl rfl)
        refine .ite (fun _ => ?_) fun _ => ?_
        · refine .step ?_ (State.judgeLan_acts ..) rfl
          refine .ite (fun _ => ?_) fun _ => ?_
          · refine .step ?_ (State.dropToArmed_acts ..) rfl
            exact .refl _
          · exact .refl _
        · refine .ite (fun _ => ?_) fun _ => ?_
          · refine .step ?_ (State.dropToArmed_acts ..) rfl
            exact .refl _
          · exact .refl _
      · refine .upd_twn ?_ rfl (.inl rfl)
        refine .ite (fun _ => ?_) fun _ => ?_
        · refine .step ?_ (State.judgeLan_acts ..) rfl
          refine .ite (fun _ => ?_) fun _ => ?_
          · refine .step ?_ (State.dropToArmed_acts ..) rfl
            exact .refl _
          · exact .refl _
        · refine .ite (fun _ => ?_) fun _ => ?_
          · refine .step ?_ (State.dropToArmed_acts ..) rfl
            exact .refl _
          · exact .refl _

/-- Changes alarms, rcd, tim, twn, saf, regs, out, lease, elapsed, working. -/
theorem execAck_acts : ∀ x0 x1 x2, ∃ t, execAck x0 x1 x2 = .next t ∧ Acts 7318933511668096 x2 t := by
  intro x0 x1 x2
  unfold execAck
  refine ⟨_, rfl, ?_⟩
  refine State.onPath_acts ?_ ?_ rfl
  · refine .step ?_ (State.reach_acts ..) rfl
    exact .refl _
  · intro _
    split
    · refine .ite (fun _ => ?_) fun _ => ?_
      · refine .upd_twn ?_ rfl (.inr rfl)
        refine .step ?_ (State.countRenewal_acts ..) rfl
        exact .refl _
      · exact .refl _
    · exact .refl _

/-- Changes dev, alarms, rcd, mram, tim, twn, saf, ctl, fch, regs, devSt, ladle, lease, brakes, elapsed, working. -/
theorem execLeaseExpiry_acts : ∀ x0, ∃ t, execLeaseExpiry x0 = .next t ∧ Acts 8519050755376032 x0 t := by
  intro x0
  unfold execLeaseExpiry
  refine ⟨_, rfl, ?_⟩
  split
  · refine .ite (fun _ => ?_) fun _ => ?_
    · refine .step ?_ (State.dropToArmed_acts ..) rfl
      refine .step ?_ (State.dropLease_acts ..) rfl
      refine .step ?_ (State.reachEl_acts ..) rfl
      exact .refl _
    · refine .step ?_ (State.dropLease_acts ..) rfl
      refine .step ?_ (State.reachEl_acts ..) rfl
      exact .refl _
  · exact .refl _

/-- Changes tim, twn, elapsed, working. -/
theorem execSilentLossTimeout_acts : ∀ x0, ∃ t, execSilentLossTimeout x0 = .next t ∧ Acts 6755399441645568 x0 t := by
  intro x0
  unfold execSilentLossTimeout
  refine ⟨_, rfl, ?_⟩
  split
  · refine .ite (fun _ => ?_) fun _ => ?_
    · refine .upd_twn ?_ rfl (.inr rfl)
      refine .step ?_ (State.reachEl_acts ..) rfl
      exact .refl _
    · exact .refl _
  · exact .refl _

/-- Changes dev, alarms, rcd, mram, twn, saf, ctl, regs, out, devSt, ladle, lease, brakes. -/
theorem execReleaseFrame_acts : ∀ x0 x1 x2, ∃ t, execReleaseFrame x0 x1 x2 = .next t ∧ Acts 1764200801633184 x2 t := by
  intro x0 x1 x2
  unfold execReleaseFrame
  refine ⟨_, rfl, ?_⟩
  refine State.onFrame_acts ?_ ?_ rfl
  · exact .refl _
  · intro _
    refine .ite (fun _ => ?_) fun _ => ?_
    · exact .refl _
    · refine .ite (fun _ => ?_) fun _ => ?_
      · refine .step ?_ (State.takeLadle_acts ..) rfl
        exact .refl _
      · refine .upd_twn ?_ rfl (.inl rfl)
        refine .step ?_ (State.setLadleEp_acts ..) rfl
        exact .refl _

/-- Changes dev, regs. -/
theorem State.partnerLeft_acts : ∀ x0, Acts 34359738400 x0 (State.partnerLeft x0) := by
  intro x0
  unfold State.partnerLeft
  refine .ite (fun _ => ?_) fun _ => ?_
  · refine .when ?_ ?_
    · refine .step ?_ (State.setFlag_acts ..) rfl
      exact .refl _
    · intro _
      refine .step ?_ (State.setCond_acts ..) rfl
      exact .refl _
  · exact .refl _

/-- Changes dev, alarms, rcd, twn, regs, out. -/
theorem execSyncReqFrame_acts : ∀ x0 x1, ∃ t, execSyncReqFrame x0 x1 = .next t ∧ Acts 584116076960 x1 t := by
  intro x0 x1
  unfold execSyncReqFrame
  refine ⟨_, rfl, ?_⟩
  refine State.onFrame_acts ?_ ?_ rfl
  · exact .refl _
  · intro _
    refine .ite (fun _ => ?_) fun _ => ?_
    · refine .upd_twn ?_ rfl (.inr rfl)
      refine .step ?_ (State.partnerLeft_acts ..) rfl
      exact .refl _
    · exact .refl _

/-- Changes twn, out. -/
theorem State.sendCopy_acts : ∀ x0, Acts 549756338176 x0 (State.sendCopy x0) := by
  intro x0
  unfold State.sendCopy
  refine .upd_twn ?_ rfl (.inr rfl)
  refine .step ?_ (State.twinSend_acts ..) rfl
  refine .foldl ?_ ?_
  · refine .upd_twn ?_ rfl (.inr rfl)
    exact .refl _
  · intro _ _
    refine .step ?_ (State.twinSend_acts ..) rfl
    exact .refl _

/-- Changes pat, dev, ord, mram, agr, twn, gns, fus, ctl, alc, slv, elk, regs, xchg, devMode, devEpoch, devAim, ladle. -/
theorem State.applyChunk_acts : ∀ x0 x1, Acts 132259483746928 x0 (State.applyChunk x0 x1) := by
  intro x0 x1
  unfold State.applyChunk
  split
  · refine .upd_dev_agr ?_ rfl (.inr rfl) (.inr rfl) (.inl rfl) (.inr rfl)
    refine .step ?_ (State.setLadleEp_acts ..) rfl
    exact .refl _
  · refine .upd_dev ?_ rfl (.inr rfl) (.inl rfl) (.inr rfl) (.inl rfl)
    exact .refl _
  · refine .upd_dev_ord ?_ rfl (.inr rfl) (.inr rfl) (.inr rfl) (.inr rfl)
    exact .refl _
  · refine .upd_pat_ord ?_ rfl
    exact .refl _
  · refine .upd_dev ?_ rfl (.inr rfl) (.inr rfl) (.inr rfl) (.inr rfl)
    refine .foldl ?_ ?_
    · exact .refl _
    · intro _ _
      refine .step ?_ (State.setFlag_acts ..) rfl
      exact .refl _
  · refine .upd_fus ?_ rfl
    exact .refl _
  · refine .upd_ctl ?_ rfl rfl
    exact .refl _
  · refine .upd_alc ?_ rfl
    exact .refl _
  · split
    · refine .upd_slv ?_ rfl
      exact .refl _
    · exact .refl _
  · refine .step ?_ (State.xchgWrite_acts ..) rfl
    exact .refl _
  · refine .upd_gns ?_ rfl rfl
    exact .refl _
  · refine .upd_elk ?_ rfl
    exact .refl _

/-- Changes pat, dev, ord, alarms, rcd, mram, agr, twn, gns, fus, ctl, alc, slv, elk, regs, xchg, out, devMode, devEpoch, devAim, ladle. -/
theorem execStateFrame_acts : ∀ x0 x1 x2, ∃ t, execStateFrame x0 x1 x2 = .next t ∧ Acts 132809239561200 x2 t := by
  intro x0 x1 x2
  unfold execStateFrame
  refine ⟨_, rfl, ?_⟩
  refine State.onFrame_acts ?_ ?_ rfl
  · exact .refl _
  · intro _
    refine .ite (fun _ => ?_) fun _ => ?_
    · refine .step ?_ (State.applyChunk_acts ..) rfl
      exact .refl _
    · exact .refl _

/-- Changes alarms, rcd, twn, regs, out. -/
theorem State.syncFails_acts : ∀ x0, Acts 584116076928 x0 (State.syncFails x0) := by
  intro x0
  unfold State.syncFails
  refine .step ?_ (State.twinSend_acts ..) rfl
  refine .step ?_ (State.raise_acts ..) rfl
  refine .step ?_ (State.event_acts ..) rfl
  refine .upd_twn ?_ rfl (.inr rfl)
  exact .refl _

/-- Changes alarms, rcd, twn, regs, out. -/
theorem execSyncEndFrame_acts : ∀ x0 x1 x2 x3, ∃ t, execSyncEndFrame x0 x1 x2 x3 = .next t ∧ Acts 584116076928 x3 t := by
  intro x0 x1 x2 x3
  unfold execSyncEndFrame
  refine ⟨_, rfl, ?_⟩
  refine State.onFrame_acts ?_ ?_ rfl
  · exact .refl _
  · intro _
    refine .ite (fun _ => ?_) fun _ => ?_
    · exact .refl _
    · refine .ite (fun _ => ?_) fun _ => ?_
      · refine .upd_twn ?_ rfl (.inr rfl)
        exact .refl _
      · refine .step ?_ (State.syncFails_acts ..) rfl
        exact .refl _

/-- Changes alarms, rcd, tim, twn, regs, out, elapsed, working. -/
theorem execSyncEndTimeout_acts : ∀ x0, ∃ t, execSyncEndTimeout x0 = .next t ∧ Acts 6755983557198208 x0 t := by
  intro x0
  unfold execSyncEndTimeout
  refine ⟨_, rfl, ?_⟩
  split
  · refine .step ?_ (State.syncFails_acts ..) rfl
    refine .step ?_ (State.reachEl_acts ..) rfl
    exact .refl _
  · exact .refl _

/-! Agreement.lean -/

/-- Changes dev, twn, regs. -/
theorem State.takeReports_acts : ∀ x0, Acts 34360262688 x0 (State.takeReports x0) := by
  intro x0
  unfold State.takeReports
  try dsimp only
  split
  · refine .step ?_ (State.setRegs_acts ..) rfl
    refine .step ?_ (State.setFld_acts ..) rfl
    refine .upd_twn ?_ rfl (.inr rfl)
    refine .step ?_ (State.setCond_acts ..) rfl
    refine .upd_twn ?_ rfl (.inr rfl)
    exact .refl _
  · refine .upd_twn ?_ rfl (.inr rfl)
    refine .step ?_ (State.setCond_acts ..) rfl
    refine .upd_twn ?_ rfl (.inr rfl)
    exact .refl _

/-- Changes dev, twn, regs. -/
theorem State.takeTimeStatus_acts : ∀ x0, Acts 34360262688 x0 (State.takeTimeStatus x0) := by
  intro x0
  unfold State.takeTimeStatus
  split
  · refine .step ?_ (State.setCond_acts ..) rfl
    refine .upd_twn ?_ rfl (.inr rfl)
    exact .refl _
  · exact .refl _

/-- Changes dev, twn, regs. -/
theorem State.takeBrakes_acts (s : State) : Acts 34360262688 s s.takeBrakes := by
  unfold State.takeBrakes
  extract_lets note u any
  have hn : ∀ t side, Acts 34360262688 t (note t side) := by
    intro t side
    subst note
    dsimp only
    cases t.agreedItem side 5 2 with
    | none => exact Acts.refl t
    | some i => exact Acts.ite (fun _ => Acts.upd_twn (Acts.refl t) rfl (.inr rfl)) (fun _ => Acts.upd_twn (Acts.refl t) rfl (.inr rfl))
  exact ((hn s .cope).step (hn _ .drag) rfl).step (State.setCond_acts ..) rfl

/-- Changes dev, ord, alarms, rcd, mram, saf, fus, ctl, regs, devAim, brakes. -/
theorem State.runOrder_acts : ∀ x0 x1, Acts 1161118690051040 x0 (State.runOrder x0 x1) := by
  intro x0 x1
  unfold State.runOrder
  split
  · refine .step ?_ (State.engageOrder_acts ..) rfl
    exact .refl _
  · refine .step ?_ (State.disengageOrder_acts ..) rfl
    exact .refl _
  · refine .step ?_ (State.transferOrder_acts ..) rfl
    exact .refl _
  · refine .step ?_ (State.setModeOrder_acts ..) rfl
    exact .refl _
  · refine .step ?_ (State.setPointOrder_acts ..) rfl
    exact .refl _
  · refine .step ?_ (State.setTrackOrder_acts ..) rfl
    exact .refl _
  · refine .step ?_ (State.setFollowRefOrder_acts ..) rfl
    exact .refl _
  · refine .step ?_ (State.joystickOrder_acts ..) rfl
    exact .refl _
  · refine .step ?_ (State.takeCommandOrder_acts ..) rfl
    exact .refl _
  · refine .step ?_ (State.thrusterAvailOrder_acts ..) rfl
    exact .refl _
  · refine .step ?_ (State.sensorReturnOrder_acts ..) rfl
    exact .refl _
  · refine .step ?_ (State.tunableOrder_acts ..) rfl
    exact .refl _
  · refine .ite (fun _ => ?_) fun _ => ?_
    · refine .step ?_ (State.testStartInjectionOrder_acts ..) rfl
      exact .refl _
    · refine .step ?_ (State.testStartBrakeOrder_acts ..) rfl
      exact .refl _
  · refine .step ?_ (State.testStopOrder_acts ..) rfl
    exact .refl _
  · refine .step ?_ (State.parkOrder_acts ..) rfl
    exact .refl _
  · refine .step ?_ (State.unparkOrder_acts ..) rfl
    exact .refl _
  · refine .step ?_ (State.safeOrder_acts ..) rfl
    exact .refl _
  · refine .step ?_ (State.resetOrder_acts ..) rfl
    exact .refl _
  · refine .step ?_ (State.alarmAckOrder_acts ..) rfl
    exact .refl _
  · refine .step ?_ (State.unknownOrder_acts ..) rfl
    exact .refl _

/-- Changes dev, ord, alarms, rcd, mram, saf, fus, ctl, regs, devAim, brakes. -/
theorem State.runWaiting_acts : ∀ x0, Acts 1161118690051040 x0 (State.runWaiting x0) := by
  intro x0
  unfold State.runWaiting
  refine .foldl ?_ ?_
  · refine .upd_ord ?_ rfl
    exact .refl _
  · intro _ _
    refine .step ?_ (State.runOrder_acts ..) rfl
    exact .refl _

/-- Changes dev, ord, alarms, rcd, mram, twn, saf, fus, ctl, alc, elk, regs, devAim, brakes. -/
theorem State.agreementEnds_acts : ∀ x0, Acts 1161127347618784 x0 (State.agreementEnds x0) := by
  intro x0
  unfold State.agreementEnds
  refine .step ?_ (State.plantInputs_acts ..) rfl
  refine .ite (fun _ => ?_) fun _ => ?_
  · refine .step ?_ (State.mergeSets_acts ..) rfl
    refine .step ?_ (State.runWaiting_acts ..) rfl
    refine .step ?_ (State.answerUnknown_acts ..) rfl
    refine .step ?_ (State.stepDone_acts ..) rfl
    refine .step ?_ (State.takeBrakes_acts ..) rfl
    refine .step ?_ (State.takeTimeStatus_acts ..) rfl
    refine .step ?_ (State.takeReports_acts ..) rfl
    exact .refl _
  · refine .step ?_ (State.runWaiting_acts ..) rfl
    refine .step ?_ (State.answerUnknown_acts ..) rfl
    refine .step ?_ (State.stepDone_acts ..) rfl
    refine .step ?_ (State.takeBrakes_acts ..) rfl
    refine .step ?_ (State.takeTimeStatus_acts ..) rfl
    refine .step ?_ (State.takeReports_acts ..) rfl
    exact .refl _

/-- Changes dev, ord, alarms, rcd, mram, agr, twn, saf, fus, ctl, alc, elk, regs, devAim, brakes. -/
theorem State.settleSet_acts : ∀ x0 x1, Acts 1161127347880928 x0 (State.settleSet x0 x1) := by
  intro x0 x1
  unfold State.settleSet
  refine .step ?_ (State.agreementEnds_acts ..) rfl
  refine .upd_agr ?_ rfl
  exact .refl _

/-- Changes dev, ord, alarms, rcd, mram, agr, twn, saf, fus, ctl, alc, elk, regs, devAim, brakes. -/
theorem State.useOwn_acts : ∀ x0, Acts 1161127347880928 x0 (State.useOwn x0) := by
  intro x0
  unfold State.useOwn
  refine .ite (fun _ => ?_) fun _ => ?_
  · exact .refl _
  · refine .step ?_ (State.settleSet_acts ..) rfl
    refine .upd_agr ?_ rfl
    exact .refl _

/-- Changes alarms, rcd, regs. -/
theorem State.excluded_acts : ∀ x0 x1, Acts 34359738752 x0 (State.excluded x0 x1) := by
  intro x0 x1
  unfold State.excluded
  refine .step ?_ (State.raise_acts ..) rfl
  refine .step ?_ (State.event_acts ..) rfl
  refine .step ?_ (State.bump_acts ..) rfl
  exact .refl _

/-- Changes dev, ord, alarms, rcd, mram, tim, agr, twn, saf, fus, ctl, alc, elk, regs, out, devAim, brakes, elapsed, working. -/
theorem execCloseTick_acts : ∀ x0, ∃ t, execCloseTick x0 = .next t ∧ Acts 7917076544816096 x0 t := by
  intro x0
  unfold execCloseTick
  refine ⟨_, rfl, ?_⟩
  refine .ite (fun _ => ?_) fun _ => ?_
  · refine .ite (fun _ => ?_) fun _ => ?_
    · refine .step ?_ (State.twinSend_acts ..) rfl
      refine .upd_agr ?_ rfl
      refine .ite (fun _ => ?_) fun _ => ?_
      · refine .step ?_ (State.raise_acts ..) rfl
        refine .step ?_ (State.reach_acts ..) rfl
        exact .refl _
      · refine .step ?_ (State.reach_acts ..) rfl
        exact .refl _
    · refine .step ?_ (State.useOwn_acts ..) rfl
      refine .upd_agr ?_ rfl
      refine .ite (fun _ => ?_) fun _ => ?_
      · refine .step ?_ (State.raise_acts ..) rfl
        refine .step ?_ (State.reach_acts ..) rfl
        exact .refl _
      · refine .step ?_ (State.reach_acts ..) rfl
        exact .refl _
  · exact .refl _

/-- Changes dev, ord, alarms, rcd, mram, tim, agr, twn, saf, fus, ctl, alc, elk, regs, out, devAim, brakes, elapsed, working. -/
theorem execAgreeDecide_acts : ∀ x0, ∃ t, execAgreeDecide x0 = .next t ∧ Acts 7917076544816096 x0 t := by
  intro x0
  unfold execAgreeDecide
  refine ⟨_, rfl, ?_⟩
  refine .ite (fun _ => ?_) fun _ => ?_
  · refine .step ?_ (State.settleSet_acts ..) rfl
    refine .ite (fun _ => ?_) fun _ => ?_
    · refine .step ?_ (State.twinSend_acts ..) rfl
      refine .step ?_ (State.reach_acts ..) rfl
      exact .refl _
    · refine .step ?_ (State.excluded_acts ..) rfl
      refine .step ?_ (State.twinSend_acts ..) rfl
      refine .step ?_ (State.reach_acts ..) rfl
      exact .refl _
  · exact .refl _

/-- Changes dev, alarms, rcd, agr, twn, regs, out. -/
theorem execCloseFrame_acts : ∀ x0 x1 x2 x3 x4, ∃ t, execCloseFrame x0 x1 x2 x3 x4 = .next t ∧ Acts 584116339104 x4 t := by
  intro x0 x1 x2 x3 x4
  unfold execCloseFrame
  refine ⟨_, rfl, ?_⟩
  refine State.onFrame_acts ?_ ?_ rfl
  · exact .refl _
  · intro _
    refine .ite (fun _ => ?_) fun _ => ?_
    · refine .ite (fun _ => ?_) fun _ => ?_
      · refine .upd_agr ?_ rfl
        exact .refl _
      · refine .step ?_ (State.leaveStep_acts ..) rfl
        exact .refl _
    · exact .refl _

/-- Changes dev, alarms, rcd, agr, twn, regs, out. -/
theorem execAgreeFrame_acts : ∀ x0 x1 x2 x3 x4 x5, ∃ t, execAgreeFrame x0 x1 x2 x3 x4 x5 = .next t ∧ Acts 584116339104 x5 t := by
  intro x0 x1 x2 x3 x4 x5
  unfold execAgreeFrame
  refine ⟨_, rfl, ?_⟩
  refine State.onFrame_acts ?_ ?_ rfl
  · exact .refl _
  · intro _
    refine .ite (fun _ => ?_) fun _ => ?_
    · refine .ite (fun _ => ?_) fun _ => ?_
      · refine .upd_agr ?_ rfl
        exact .refl _
      · refine .step ?_ (State.leaveStep_acts ..) rfl
        exact .refl _
    · exact .refl _

/-- Changes dev, ord, alarms, rcd, mram, agr, twn, saf, fus, ctl, alc, elk, regs, out, devAim, brakes. -/
theorem State.agreementLate_acts : ∀ x0, Acts 1161677103694816 x0 (State.agreementLate x0) := by
  intro x0
  unfold State.agreementLate
  refine .step ?_ (State.useOwn_acts ..) rfl
  refine .step ?_ (State.leaveStep_acts ..) rfl
  refine .step ?_ (State.raise_acts ..) rfl
  exact .refl _

/-- Changes dev, ord, alarms, rcd, mram, tim, agr, twn, saf, fus, ctl, alc, elk, regs, out, devAim, brakes, elapsed, working. -/
theorem execAgreeCheck_acts : ∀ x0, ∃ t, execAgreeCheck x0 = .next t ∧ Acts 7917076544816096 x0 t := by
  intro x0
  unfold execAgreeCheck
  refine ⟨_, rfl, ?_⟩
  refine .ite (fun _ => ?_) fun _ => ?_
  · refine .ite (fun _ => ?_) fun _ => ?_
    · refine .step ?_ (State.useOwn_acts ..) rfl
      refine .step ?_ (State.reach_acts ..) rfl
      exact .refl _
    · refine .ite (fun _ => ?_) fun _ => ?_
      · refine .step ?_ (State.agreementLate_acts ..) rfl
        refine .step ?_ (State.reach_acts ..) rfl
        exact .refl _
      · split
        · refine .ite (fun _ => ?_) fun _ => ?_
          · refine .step ?_ (State.settleSet_acts ..) rfl
            refine .ite (fun _ => ?_) fun _ => ?_
            · refine .ite (fun _ => ?_) fun _ => ?_
              · refine .step ?_ (State.reach_acts ..) rfl
                exact .refl _
              · refine .step ?_ (State.excluded_acts ..) rfl
                refine .step ?_ (State.reach_acts ..) rfl
                exact .refl _
            · refine .step ?_ (State.excluded_acts ..) rfl
              refine .ite (fun _ => ?_) fun _ => ?_
              · refine .step ?_ (State.reach_acts ..) rfl
                exact .refl _
              · refine .step ?_ (State.excluded_acts ..) rfl
                refine .step ?_ (State.reach_acts ..) rfl
                exact .refl _
          · refine .step ?_ (State.useOwn_acts ..) rfl
            refine .step ?_ (State.leaveStep_acts ..) rfl
            refine .step ?_ (State.reach_acts ..) rfl
            exact .refl _
        · refine .step ?_ (State.useOwn_acts ..) rfl
          refine .step ?_ (State.leaveStep_acts ..) rfl
          refine .step ?_ (State.reach_acts ..) rfl
          exact .refl _
  · exact .refl _

/-! Apps.lean -/

/-- Changes appm. -/
theorem State.loadSegment_acts (s : State) (b : List Byte) (g : Segment) : Acts 68719476736 s (s.loadSegment b g) :=
  ⟨fun p hp => by cases p <;> first | rfl | exact absurd hp (by decide), fun k => k.of_canonical (let c := k.canonical; ⟨c.1, memWf_memSetRun _ _ _ _ _ c.2.1, c.2.2⟩) rfl rfl rfl rfl rfl⟩

/-- Changes appm. -/
theorem State.loadApps_acts : ∀ x0, Acts 68719476736 x0 (State.loadApps x0) := by
  intro x0
  unfold State.loadApps
  refine .foldl ?_ ?_
  · exact .refl _
  · intro _ _
    refine .step ?_ (State.loadSegment_acts ..) rfl
    exact .refl _

/-- Changes intc, apps. -/
theorem State.startApp_acts : ∀ x0 x1, Acts 10240 x0 (State.startApp x0 x1) := by
  intro x0 x1
  unfold State.startApp
  refine .step ?_ (State.setTarget_acts ..) rfl
  refine .upd_apps ?_ rfl
  exact .refl _

/-- Changes intc, apps. -/
theorem State.startApps_acts : ∀ x0, Acts 10240 x0 (State.startApps x0) := by
  intro x0
  unfold State.startApps
  refine .each ?_ ?_
  · exact .refl _
  · intro _ _
    refine .step ?_ (State.startApp_acts ..) rfl
    exact .refl _

/-- Changes intc, apps, regs, appm. -/
theorem State.resetApp_acts : ∀ x0 x1, Acts 103079225344 x0 (State.resetApp x0 x1) := by
  intro x0 x1
  unfold State.resetApp
  refine .ite (fun _ => ?_) fun _ => ?_
  · refine .step ?_ (State.updateTimers_acts ..) rfl
    refine .upd_apps ?_ rfl
    refine .step ?_ (State.settleSources_acts ..) rfl
    refine .step ?_ (State.setTarget_acts ..) rfl
    refine .step ?_ (State.setReg_acts ..) rfl
    refine .step ?_ (State.setReg_acts ..) rfl
    refine .step ?_ (State.setReg_acts ..) rfl
    refine .step ?_ (State.setReg_acts ..) rfl
    refine .step ?_ (State.setReg_acts ..) rfl
    exact .refl _
  · refine .step ?_ (State.updateTimers_acts ..) rfl
    refine .step ?_ (State.settleSources_acts ..) rfl
    refine .step ?_ (State.startApp_acts ..) rfl
    refine .foldl ?_ ?_
    · refine .upd_apps ?_ rfl
      refine .step ?_ (State.settleSources_acts ..) rfl
      refine .step ?_ (State.setTarget_acts ..) rfl
      refine .step ?_ (State.setReg_acts ..) rfl
      refine .step ?_ (State.setReg_acts ..) rfl
      refine .step ?_ (State.setReg_acts ..) rfl
      refine .step ?_ (State.setReg_acts ..) rfl
      refine .step ?_ (State.setReg_acts ..) rfl
      exact .refl _
    · intro _ _
      refine .step ?_ (State.loadSegment_acts ..) rfl
      exact .refl _

/-- Changes intc, apps, regs, appm. -/
theorem State.appctlWrite_acts : ∀ x0 x1, Acts 103079225344 x0 (State.appctlWrite x0 x1) := by
  intro x0 x1
  unfold State.appctlWrite
  refine .each ?_ ?_
  · exact .refl _
  · intro _ _
    refine .step ?_ (State.resetApp_acts ..) rfl
    exact .refl _

/-- Changes alarms, rcd, intc, apps, acl, twn, regs, appm, out. -/
theorem execApp0Rst_acts : ∀ x0 x1, ∃ t, execApp0Rst x0 x1 = .next t ∧ Acts 652835596672 x1 t := by
  intro x0 x1
  unfold execApp0Rst
  refine ⟨_, rfl, ?_⟩
  refine State.commandWrite_acts ?_ ?_ rfl
  · exact .refl _
  · intro _
    refine .step ?_ (State.resetApp_acts ..) rfl
    exact .refl _

/-- Changes alarms, rcd, intc, apps, acl, twn, regs, appm, out. -/
theorem execApp1Rst_acts : ∀ x0 x1, ∃ t, execApp1Rst x0 x1 = .next t ∧ Acts 652835596672 x1 t := by
  intro x0 x1
  unfold execApp1Rst
  refine ⟨_, rfl, ?_⟩
  refine State.commandWrite_acts ?_ ?_ rfl
  · exact .refl _
  · intro _
    refine .step ?_ (State.resetApp_acts ..) rfl
    exact .refl _

/-! Arbitration.lean -/

/-- Changes sti, twn, out. -/
theorem State.compareOutputs_acts : ∀ x0, Acts 549756354560 x0 (State.compareOutputs x0) := by
  intro x0
  unfold State.compareOutputs
  refine .ite (fun _ => ?_) fun _ => ?_
  · refine .step ?_ (State.twinSend_acts ..) rfl
    refine .upd_twn ?_ rfl (.inr rfl)
    refine .step ?_ (State.buildImage_acts ..) rfl
    exact .refl _
  · refine .step ?_ (State.buildImage_acts ..) rfl
    exact .refl _

/-- Changes dev, sti, tim, twn, out, elapsed, working. -/
theorem execOutputComparison_acts : ∀ x0, ∃ t, execOutputComparison x0 = .next t ∧ Acts 6755949197475872 x0 t := by
  intro x0
  unfold execOutputComparison
  refine ⟨_, rfl, ?_⟩
  refine .ite (fun _ => ?_) fun _ => ?_
  · refine .step ?_ (State.stepDone_acts ..) rfl
    refine .step ?_ (State.compareOutputs_acts ..) rfl
    refine .step ?_ (State.reach_acts ..) rfl
    exact .refl _
  · exact .refl _

/-- Changes dev, alarms, rcd, mram, pins, twn, saf, ctl, alc, fch, regs, out, devSt, ladle, lease, brakes. -/
theorem State.verdictFails_acts : ∀ x0 x1, Acts 1764201137308576 x0 (State.verdictFails x0 x1) := by
  intro x0 x1
  unfold State.verdictFails
  refine .ite (fun _ => ?_) fun _ => ?_
  · refine .step ?_ (State.globalSafe_acts ..) rfl
    refine .upd_saf ?_ rfl (.inr rfl) (.inr rfl)
    refine .step ?_ (State.setFld_acts ..) rfl
    refine .step ?_ (State.setFlag_acts ..) rfl
    refine .step ?_ (State.raise_acts ..) rfl
    refine .step ?_ (State.event_acts ..) rfl
    refine .step ?_ (State.setReg_acts ..) rfl
    exact .refl _
  · refine .upd_saf ?_ rfl (.inr rfl) (.inr rfl)
    refine .step ?_ (State.setFld_acts ..) rfl
    refine .step ?_ (State.setFlag_acts ..) rfl
    refine .step ?_ (State.raise_acts ..) rfl
    refine .step ?_ (State.event_acts ..) rfl
    refine .step ?_ (State.setReg_acts ..) rfl
    exact .refl _

/-- Changes saf, regs. -/
theorem State.verdictPasses_acts : ∀ x0, Acts 34360786944 x0 (State.verdictPasses x0) := by
  intro x0
  unfold State.verdictPasses
  refine .step ?_ (State.setFld_acts ..) rfl
  refine .step ?_ (State.setFlag_acts ..) rfl
  refine .upd_saf ?_ rfl (.inr rfl) (.inr rfl)
  exact .refl _

/-- Changes dev, alarms, rcd, mram, pins, twn, saf, ctl, alc, fch, regs, out, devSt, ladle, lease, brakes. -/
theorem State.formVerdict_acts : ∀ x0 x1, Acts 1764201137308576 x0 (State.formVerdict x0 x1) := by
  intro x0 x1
  unfold State.formVerdict
  refine .ite (fun _ => ?_) fun _ => ?_
  · refine .step ?_ (State.twinSend_acts ..) rfl
    refine .upd_twn ?_ rfl (.inr rfl)
    refine .ite (fun _ => ?_) fun _ => ?_
    · refine .step ?_ (State.verdictPasses_acts ..) rfl
      exact .refl _
    · refine .step ?_ (State.verdictFails_acts ..) rfl
      exact .refl _
  · refine .upd_twn ?_ rfl (.inr rfl)
    refine .ite (fun _ => ?_) fun _ => ?_
    · refine .step ?_ (State.verdictPasses_acts ..) rfl
      exact .refl _
    · refine .step ?_ (State.verdictFails_acts ..) rfl
      exact .refl _

/-- Changes dev, alarms, rcd, mram, tim, pins, twn, saf, ctl, alc, fch, regs, out, devSt, ladle, lease, brakes, elapsed, working. -/
theorem execVerdictFormation_acts : ∀ x0 x1, ∃ t, execVerdictFormation x0 x1 = .next t ∧ Acts 8519600578429856 x1 t := by
  intro x0 x1
  unfold execVerdictFormation
  refine ⟨_, rfl, ?_⟩
  refine .ite (fun _ => ?_) fun _ => ?_
  · refine .step ?_ (State.stepDone_acts ..) rfl
    refine .step ?_ (State.formVerdict_acts ..) rfl
    refine .step ?_ (State.reach_acts ..) rfl
    exact .refl _
  · exact .refl _

/-- Changes dev, alarms, rcd, twn, regs, out. -/
theorem State.otherSideLeaves_acts : ∀ x0 x1, Acts 584116076960 x0 (State.otherSideLeaves x0 x1) := by
  intro x0 x1
  unfold State.otherSideLeaves
  refine .ite (fun _ => ?_) fun _ => ?_
  · refine .step ?_ (State.partnerLeft_acts ..) rfl
    exact .refl _
  · refine .step ?_ (State.leaveStep_acts ..) rfl
    exact .refl _

/-- Changes dev, alarms, rcd, mram, twn, saf, ctl, fch, regs, out, devSt, ladle, lease, brakes. -/
theorem State.arbHandOver_acts : ∀ x0 x1, Acts 1764201070068640 x0 (State.arbHandOver x0 x1) := by
  intro x0 x1
  unfold State.arbHandOver
  refine .ite (fun _ => ?_) fun _ => ?_
  · refine .step ?_ (State.handOver_acts ..) rfl
    exact .refl _
  · refine .ite (fun _ => ?_) fun _ => ?_
    · refine .ite (fun _ => ?_) fun _ => ?_
      · refine .step ?_ (State.leaveStep_acts ..) rfl
        exact .refl _
      · refine .step ?_ (State.partnerLeft_acts ..) rfl
        exact .refl _
    · exact .refl _

/-- Changes dev, alarms, rcd, mram, pins, twn, saf, ctl, alc, fch, regs, out, devSt, ladle, lease, brakes. -/
theorem State.row2_acts : ∀ x0, Acts 1764201137308576 x0 (State.row2 x0) := by
  intro x0
  unfold State.row2
  refine .ite (fun _ => ?_) fun _ => ?_
  · refine .upd_twn ?_ rfl (.inr rfl)
    refine .step ?_ (State.otherSideLeaves_acts ..) rfl
    exact .refl _
  · refine .ite (fun _ => ?_) fun _ => ?_
    · refine .step ?_ (State.enterSafe_acts ..) rfl
      refine .ite (fun _ => ?_) fun _ => ?_
      · refine .step ?_ (State.dropToArmed_acts ..) rfl
        refine .upd_twn ?_ rfl (.inr rfl)
        refine .step ?_ (State.otherSideLeaves_acts ..) rfl
        exact .refl _
      · refine .upd_twn ?_ rfl (.inr rfl)
        refine .step ?_ (State.otherSideLeaves_acts ..) rfl
        exact .refl _
    · refine .upd_twn ?_ rfl (.inr rfl)
      refine .upd_twn ?_ rfl (.inr rfl)
      refine .step ?_ (State.otherSideLeaves_acts ..) rfl
      exact .refl _

/-- Changes alarms, rcd, twn, regs. -/
theorem State.noteUnexplained_acts : ∀ x0, Acts 34360263040 x0 (State.noteUnexplained x0) := by
  intro x0
  unfold State.noteUnexplained
  refine .ite (fun _ => ?_) fun _ => ?_
  · refine .step ?_ (State.raise_acts ..) rfl
    refine .upd_twn ?_ rfl (.inr rfl)
    exact .refl _
  · refine .upd_twn ?_ rfl (.inr rfl)
    exact .refl _

/-- Changes dev, alarms, rcd, mram, pins, twn, saf, ctl, alc, fch, regs, out, devSt, ladle, lease, brakes. -/
theorem State.applyRow_acts : ∀ x0 x1, Acts 1764201137308576 x0 (State.applyRow x0 x1) := by
  intro x0 x1
  unfold State.applyRow
  try dsimp only
  split
  · refine .step ?_ (State.otherSideLeaves_acts ..) rfl
    refine .ite (fun _ => ?_) fun _ => ?_
    · exact .refl _
    · refine .upd_twn ?_ rfl (.inr rfl)
      exact .refl _
  · refine .step ?_ (State.row2_acts ..) rfl
    refine .ite (fun _ => ?_) fun _ => ?_
    · exact .refl _
    · refine .upd_twn ?_ rfl (.inr rfl)
      exact .refl _
  · refine .step ?_ (State.arbHandOver_acts ..) rfl
    refine .ite (fun _ => ?_) fun _ => ?_
    · exact .refl _
    · refine .upd_twn ?_ rfl (.inr rfl)
      exact .refl _
  · refine .step ?_ (State.otherSideLeaves_acts ..) rfl
    refine .ite (fun _ => ?_) fun _ => ?_
    · exact .refl _
    · refine .upd_twn ?_ rfl (.inr rfl)
      exact .refl _
  · refine .step ?_ (State.arbHandOver_acts ..) rfl
    refine .ite (fun _ => ?_) fun _ => ?_
    · exact .refl _
    · refine .upd_twn ?_ rfl (.inr rfl)
      exact .refl _
  · refine .ite (fun _ => ?_) fun _ => ?_
    · refine .ite (fun _ => ?_) fun _ => ?_
      · exact .refl _
      · refine .upd_twn ?_ rfl (.inr rfl)
        exact .refl _
    · refine .step ?_ (State.otherSideLeaves_acts ..) rfl
      refine .ite (fun _ => ?_) fun _ => ?_
      · exact .refl _
      · refine .upd_twn ?_ rfl (.inr rfl)
        exact .refl _
  · refine .step ?_ (State.otherSideLeaves_acts ..) rfl
    refine .step ?_ (State.noteUnexplained_acts ..) rfl
    refine .ite (fun _ => ?_) fun _ => ?_
    · exact .refl _
    · refine .upd_twn ?_ rfl (.inr rfl)
      exact .refl _
  · refine .ite (fun _ => ?_) fun _ => ?_
    · exact .refl _
    · refine .upd_twn ?_ rfl (.inr rfl)
      exact .refl _

/-- Changes dev, alarms, rcd, mram, pins, twn, saf, ctl, alc, fch, regs, out, devSt, ladle, lease, brakes. -/
theorem State.arbitrate_acts : ∀ x0, Acts 1764201137308576 x0 (State.arbitrate x0) := by
  intro x0
  unfold State.arbitrate
  refine .ite (fun _ => ?_) fun _ => ?_
  · refine .step ?_ (State.applyRow_acts ..) rfl
    refine .ite (fun _ => ?_) fun _ => ?_
    · refine .upd_twn ?_ rfl (.inr rfl)
      refine .ite (fun _ => ?_) fun _ => ?_
      · refine .step ?_ (State.event_acts ..) rfl
        refine .step ?_ (State.bump_acts ..) rfl
        exact .refl _
      · exact .refl _
    · refine .step ?_ (State.raise_acts ..) rfl
      refine .step ?_ (State.setReg_acts ..) rfl
      refine .upd_twn ?_ rfl (.inr rfl)
      refine .ite (fun _ => ?_) fun _ => ?_
      · refine .step ?_ (State.event_acts ..) rfl
        refine .step ?_ (State.bump_acts ..) rfl
        exact .refl _
      · exact .refl _
  · refine .upd_twn ?_ rfl (.inr rfl)
    exact .refl _

/-- Changes alarms, rcd, fch, regs. -/
theorem State.gateForPour_acts : ∀ x0, Acts 34628174208 x0 (State.gateForPour x0) := by
  intro x0
  unfold State.gateForPour
  refine .ite (fun _ => ?_) fun _ => ?_
  · refine .step ?_ (State.setGate_acts ..) rfl
    exact .refl _
  · refine .ite (fun _ => ?_) fun _ => ?_
    · refine .step ?_ (State.setGate_acts ..) rfl
      exact .refl _
    · refine .step ?_ (State.raise_acts ..) rfl
      refine .step ?_ (State.event_acts ..) rfl
      refine .step ?_ (State.setGate_acts ..) rfl
      exact .refl _

/-- Changes dev, alarms, rcd, mram, pins, twn, saf, ctl, alc, fch, regs, out, devSt, ladle, lease, brakes. -/
theorem State.arbitrationWork_acts : ∀ x0, Acts 1764201137308576 x0 (State.arbitrationWork x0) := by
  intro x0
  unfold State.arbitrationWork
  refine .step ?_ (State.gateForPour_acts ..) rfl
  refine .step ?_ (State.arbitrate_acts ..) rfl
  exact .refl _

/-! Reset.lean -/

/-- Changes flash, freeCtr. -/
theorem State.flashUnknown_acts (s : State) (a n : Nat) : Acts 1236950581248 s (s.flashUnknown a n) :=
  ⟨fun p hp => by cases p <;> first | rfl | exact absurd hp (by decide), fun k => k.of_canonical (let c := k.canonical; ⟨c.1, c.2.1, memWf_memSetRun _ _ _ _ _ c.2.2.1, c.2.2.2⟩) rfl rfl rfl rfl rfl⟩

/-- Changes flash, freeCtr. -/
theorem State.abortFlash_acts : ∀ x0, Acts 1236950581248 x0 (State.abortFlash x0) := by
  intro x0
  unfold State.abortFlash
  split
  · refine .ite (fun _ => ?_) fun _ => ?_
    · refine .step ?_ (State.flashUnknown_acts ..) rfl
      exact .refl _
    · refine .ite (fun _ => ?_) fun _ => ?_
      · refine .step ?_ (State.flashUnknown_acts ..) rfl
        exact .refl _
      · exact .refl _
  · exact .refl _

/-- Changes all but serial, devKey, out, pending, recNext, elapsed. -/
theorem State.afterReset_acts (s : State) (straps : Straps) : Acts 6471175685275644 s (s.afterReset straps) :=
  ⟨fun p hp => by cases p <;> first | rfl | exact absurd hp (by decide),
   fun k => ⟨⟨rfl, rfl, (s.abortFlash_acts.sound k).canonical.2.2.1, rfl, k.canonical.2.2.2.2.1, rfl, rfl, rfl, rfl⟩, List.Pairwise.nil, Nat.zero_le _, k.used,
    Nat.zero_le _⟩⟩

/-- Changes regs. -/
theorem State.setCause_acts : ∀ x0 x1, Acts 34359738368 x0 (State.setCause x0 x1) := by
  intro x0 x1
  unfold State.setCause
  refine .step ?_ (State.setReg_acts ..) rfl
  exact .refl _

/-- Changes all but serial, devKey, out, pending, recNext, elapsed. -/
theorem State.fullReset_acts : ∀ x0 x1 x2, Acts 6471175685275644 x0 (State.fullReset x0 x1 x2) := by
  intro x0 x1 x2
  unfold State.fullReset
  refine .step ?_ (State.setFlag_acts ..) rfl
  refine .step ?_ (State.setFlag_acts ..) rfl
  refine .step ?_ (State.setCause_acts ..) rfl
  refine .step ?_ (State.afterReset_acts ..) rfl
  exact .refl _

/-- Changes all but serial, devKey, pending, recNext, elapsed. -/
theorem State.keeperReset_acts (s : State) (straps : Straps) (cause : Fld) : Acts 6471725441089532 s (s.keeperReset straps cause) := by
  unfold State.keeperReset
  dsimp only
  refine Acts.step ?_ (State.globalSafe_acts ..) rfl
  refine Acts.each ?_ (fun _ _ => (State.showBrake_acts ..).mono rfl)
  refine Acts.step ?_ (State.setFlag_acts ..) rfl
  refine Acts.step ?_ (State.setFlag_acts ..) rfl
  refine Acts.step ?_ (State.setCause_acts ..) rfl
  have he : Acts 6471725441089532 s (s.endBrakeTest 4) := (State.endBrakeTest_acts ..).mono rfl
  have ha : Acts 6471725441089532 s ((s.endBrakeTest 4).afterReset straps) := he.step (State.afterReset_acts ..) rfl
  exact ⟨fun p hp => (Part.same_trans (ha.frame p hp) (by cases p <;> first | rfl | exact absurd hp (by decide))),
    fun k => (ha.sound k).of_canonical ⟨memWf_filter _ _ _ (he.sound k).canonical.1, (ha.sound k).canonical.2⟩ rfl rfl rfl rfl rfl⟩

/-- Changes all but serial, devKey, out, pending, recNext, elapsed. -/
theorem execPowerOnReset_acts : ∀ x0 x1, ∃ t, execPowerOnReset x0 x1 = .next t ∧ Acts 6471175685275644 x1 t := by
  intro x0 x1
  unfold execPowerOnReset
  refine ⟨_, rfl, ?_⟩
  refine .step ?_ (State.fullReset_acts ..) rfl
  refine .upd_clk ?_ rfl
  exact .refl _

/-- Changes all but serial, devKey, out, pending, recNext, elapsed. -/
theorem execVinFall_acts : ∀ x0, ∃ t, execVinFall x0 = .next t ∧ Acts 6471175685275644 x0 t := by
  intro x0
  unfold execVinFall
  refine ⟨_, rfl, ?_⟩
  refine .step ?_ (State.afterReset_acts ..) rfl
  refine .upd_clk ?_ rfl
  exact .refl _

/-- Changes all but serial, devKey, out, pending, recNext, elapsed. -/
theorem execNrst_acts : ∀ x0 x1 x2, ∃ t, execNrst x0 x1 x2 = .next t ∧ Acts 6471175685275644 x2 t := by
  intro x0 x1 x2
  unfold execNrst
  refine ⟨_, rfl, ?_⟩
  refine .ite (fun _ => ?_) fun _ => ?_
  · refine .step ?_ (State.fullReset_acts ..) rfl
    refine .step ?_ (State.useFree_acts ..) rfl
    exact .refl _
  · refine .step ?_ (State.useFree_acts ..) rfl
    exact .refl _

/-- Changes all but serial, devKey, pending, recNext, elapsed. -/
theorem execKeeperWatchdog_acts : ∀ x0 x1, ∃ t, execKeeperWatchdog x0 x1 = .next t ∧ Acts 6471725441089532 x1 t := by
  intro x0 x1
  unfold execKeeperWatchdog
  refine ⟨_, rfl, ?_⟩
  refine .ite (fun _ => ?_) fun _ => ?_
  · refine .step ?_ (State.keeperReset_acts ..) rfl
    exact .refl _
  · exact .refl _

/-- Changes all but serial, devKey, pending, recNext, elapsed. -/
theorem execOrderedReset_acts : ∀ x0 x1, ∃ t, execOrderedReset x0 x1 = .next t ∧ Acts 6471725441089532 x1 t := by
  intro x0 x1
  unfold execOrderedReset
  refine ⟨_, rfl, ?_⟩
  refine .ite (fun _ => ?_) fun _ => ?_
  · refine .step ?_ (State.keeperReset_acts ..) rfl
    exact .refl _
  · exact .refl _

/-- Changes clk. -/
theorem execPwrgoodRise_acts : ∀ x0, ∃ t, execPwrgoodRise x0 = .next t ∧ Acts 4 x0 t := by
  intro x0
  unfold execPwrgoodRise
  refine ⟨_, rfl, ?_⟩
  refine .ite (fun _ => ?_) fun _ => ?_
  · refine .upd_clk ?_ rfl
    exact .refl _
  · exact .refl _

/-- Changes clk, regs. -/
theorem execRefinPresent_acts : ∀ x0, ∃ t, execRefinPresent x0 = .next t ∧ Acts 34359738372 x0 t := by
  intro x0
  unfold execRefinPresent
  refine ⟨_, rfl, ?_⟩
  refine .step ?_ (State.setFlag_acts ..) rfl
  refine .upd_clk ?_ rfl
  exact .refl _

/-! Flash.lean -/

/-- Changes alarms, rcd, flashCmd, regs. -/
theorem State.flashCommand_acts : ∀ x0 x1, Acts 51539607936 x0 (State.flashCommand x0 x1) := by
  intro x0 x1
  unfold State.flashCommand
  refine .ite (fun _ => ?_) fun _ => ?_
  · exact .refl _
  · refine .ite (fun _ => ?_) fun _ => ?_
    · refine .step ?_ (State.raise_acts ..) rfl
      refine .step ?_ (State.setFlag_acts ..) rfl
      exact .refl _
    · refine .step ?_ (State.setFlag_acts ..) rfl
      refine .upd_flashCmd ?_ rfl
      exact .refl _

/-- Changes alarms, rcd, intc, flashCmd, regs. -/
theorem State.flwWrite_acts : ∀ x0 x1, Acts 51539609984 x0 (State.flwWrite x0 x1) := by
  intro x0 x1
  unfold State.flwWrite
  refine .step ?_ (State.settleSources_acts ..) rfl
  refine .step ?_ (State.flashCommand_acts ..) rfl
  refine .step ?_ (State.typedWrite_acts ..) rfl
  exact .refl _

/-- Changes regs, flash, freeCtr. -/
theorem State.flashEffect_acts (s : State) (c : FlashCmd) (failed : Bool) : Acts 1271310319616 s (s.flashEffect c failed) := by
  unfold State.flashEffect
  have hf : ∀ n, Acts 1271310319616 s ((s.flashUnknown c.addr n).setFlag F_KPR_FLW_CTRL_ERR true) :=
    fun n => ((State.flashUnknown_acts ..).mono rfl).step (State.setFlag_acts ..) rfl
  refine Acts.ite (fun _ => Acts.ite (fun _ => hf _) (fun _ => ?_)) (fun _ => Acts.ite (fun _ => Acts.ite (fun _ => hf _) (fun _ => ?_)) (fun _ => ?_))
  · exact ⟨fun p hp => by cases p <;> first | rfl | exact absurd hp (by decide), fun k => k.of_canonical (let c := k.canonical; ⟨c.1, c.2.1, memWf_filter _ _ _ c.2.2.1, c.2.2.2⟩) rfl rfl rfl rfl rfl⟩
  · exact ⟨fun p hp => by cases p <;> first | rfl | exact absurd hp (by decide), fun k => k.of_canonical (let c := k.canonical; ⟨c.1, c.2.1, memWf_memSetRun _ _ _ _ _ c.2.2.1, c.2.2.2⟩) rfl rfl rfl rfl rfl⟩
  · exact (State.setRegs_acts ..).mono rfl

/-- Changes intc, flashCmd, regs, flash, freeCtr. -/
theorem execFlashCommandDone_acts : ∀ x0 x1, ∃ t, execFlashCommandDone x0 x1 = .next t ∧ Acts 1288490190848 x1 t := by
  intro x0 x1
  unfold execFlashCommandDone
  refine ⟨_, rfl, ?_⟩
  split
  · refine .step ?_ (State.settleSources_acts ..) rfl
    refine .upd_intc ?_ rfl
    refine .step ?_ (State.setFlag_acts ..) rfl
    refine .upd_flashCmd ?_ rfl
    refine .step ?_ (State.flashEffect_acts ..) rfl
    exact .refl _
  · exact .refl _

/-- Changes alarms, rcd, intc, acl, twn, flashCmd, regs, out. -/
theorem execFlashErase_acts : ∀ x0 x1, ∃ t, execFlashErase x0 x1 = .next t ∧ Acts 601295980928 x1 t := by
  intro x0 x1
  unfold execFlashErase
  refine ⟨_, rfl, ?_⟩
  refine State.commandWrite_acts ?_ ?_ rfl
  · exact .refl _
  · intro _
    refine .step ?_ (State.flwWrite_acts ..) rfl
    exact .refl _

/-- Changes alarms, rcd, intc, acl, twn, flashCmd, regs, out. -/
theorem execFlashProgram_acts : ∀ x0 x1, ∃ t, execFlashProgram x0 x1 = .next t ∧ Acts 601295980928 x1 t := by
  intro x0 x1
  unfold execFlashProgram
  refine ⟨_, rfl, ?_⟩
  refine State.commandWrite_acts ?_ ?_ rfl
  · exact .refl _
  · intro _
    refine .step ?_ (State.flwWrite_acts ..) rfl
    exact .refl _

/-- Changes alarms, rcd, intc, acl, twn, flashCmd, regs, out. -/
theorem execFlashRead_acts : ∀ x0 x1, ∃ t, execFlashRead x0 x1 = .next t ∧ Acts 601295980928 x1 t := by
  intro x0 x1
  unfold execFlashRead
  refine ⟨_, rfl, ?_⟩
  refine State.commandWrite_acts ?_ ?_ rfl
  · exact .refl _
  · intro _
    refine .step ?_ (State.flwWrite_acts ..) rfl
    exact .refl _

/-! Pattern.lean -/

/-- Changes pat. -/
theorem State.withParams_acts : ∀ x0 x1, Acts 16 x0 (State.withParams x0 x1) := by
  intro x0 x1
  unfold State.withParams
  refine .upd_pat ?_ rfl
  exact .refl _

end Sys2Proof.Machine
end

