-- ==== Sys2Proof/Laws/ActsBoot.lean ====
section
/-! SUPPORT. What the operations of the loop engine, the panel, start-up and the bus may change: one lemma each. -/
namespace Sys2Proof.Machine

/-! LoopEngine.lean -/

/-- Changes loops. -/
theorem State.setLoop_acts : ∀ x0 x1 x2, Acts 536870912 x0 (State.setLoop x0 x1 x2) := by
  intro x0 x1 x2
  unfold State.setLoop
  refine .upd_loops ?_ rfl
  exact .refl _

/-- Changes regs. -/
theorem State.showLoop_acts : ∀ x0 x1, Acts 34359738368 x0 (State.showLoop x0 x1) := by
  intro x0 x1
  unfold State.showLoop
  refine .step ?_ (State.setFlag_acts ..) rfl
  exact .refl _

/-- Changes agr, twn, loops, out. -/
theorem State.loopFaultAction_acts : ∀ x0 x1, Acts 550293471232 x0 (State.loopFaultAction x0 x1) := by
  intro x0 x1
  unfold State.loopFaultAction
  refine .ite (fun _ => ?_) fun _ => ?_
  · refine .step ?_ (State.ownItem_acts ..) rfl
    refine .step ?_ (State.setLoop_acts ..) rfl
    exact .refl _
  · exact .refl _

/-- Changes alarms, rcd, regs. -/
theorem State.loopCauses_acts : ∀ x0, Acts 34359738752 x0 (State.loopCauses x0) := by
  intro x0
  unfold State.loopCauses
  refine .ite (fun _ => ?_) fun _ => ?_
  · refine .step ?_ (State.causeGone_acts ..) rfl
    refine .ite (fun _ => ?_) fun _ => ?_
    · refine .step ?_ (State.causeGone_acts ..) rfl
      refine .ite (fun _ => ?_) fun _ => ?_
      · refine .step ?_ (State.causeGone_acts ..) rfl
        exact .refl _
      · exact .refl _
    · refine .ite (fun _ => ?_) fun _ => ?_
      · refine .step ?_ (State.causeGone_acts ..) rfl
        exact .refl _
      · exact .refl _
  · refine .ite (fun _ => ?_) fun _ => ?_
    · refine .step ?_ (State.causeGone_acts ..) rfl
      refine .ite (fun _ => ?_) fun _ => ?_
      · refine .step ?_ (State.causeGone_acts ..) rfl
        exact .refl _
      · exact .refl _
    · refine .ite (fun _ => ?_) fun _ => ?_
      · refine .step ?_ (State.causeGone_acts ..) rfl
        exact .refl _
      · exact .refl _

/-- Changes alarms, rcd, agr, twn, loops, regs, out. -/
theorem State.loopChannel_acts : ∀ x0 x1, Acts 584653209984 x0 (State.loopChannel x0 x1) := by
  intro x0 x1
  unfold State.loopChannel
  refine .ite (fun _ => ?_) fun _ => ?_
  · refine .step ?_ (State.loopFaultAction_acts ..) rfl
    refine .step ?_ (State.raise_acts ..) rfl
    refine .step ?_ (State.event_acts ..) rfl
    refine .step ?_ (State.setLoop_acts ..) rfl
    exact .refl _
  · refine .step ?_ (State.setLoop_acts ..) rfl
    exact .refl _

/-- Changes loops. -/
theorem State.loopTests_acts : ∀ x0 x1 x2 x3 x4, Acts 536870912 x0 (State.loopTests x0 x1 x2 x3 x4) := by
  intro x0 x1 x2 x3 x4
  unfold State.loopTests
  refine .step ?_ (State.setLoop_acts ..) rfl
  exact .refl _

/-- Changes alarms, rcd, fch, can, regs, out. -/
theorem State.loopDrive_acts : ∀ x0 x1 x2, Acts 586531471744 x0 (State.loopDrive x0 x1 x2) := by
  intro x0 x1 x2
  unfold State.loopDrive
  refine .ite (fun _ => ?_) fun _ => ?_
  · refine .ite (fun _ => ?_) fun _ => ?_
    · refine .step ?_ (State.objSend_acts ..) rfl
      exact .refl _
    · exact .refl _
  · refine .step ?_ (State.driveField_acts ..) rfl
    exact .refl _

/-- Changes alarms, rcd, agr, twn, fch, loops, can, regs, out. -/
theorem State.loopStep_acts : ∀ x0 x1, Acts 587069129088 x0 (State.loopStep x0 x1) := by
  intro x0 x1
  unfold State.loopStep
  refine .step ?_ (State.loopCauses_acts ..) rfl
  refine .step ?_ (State.showLoop_acts ..) rfl
  refine .ite (fun _ => ?_) fun _ => ?_
  · refine .step ?_ (State.loopDrive_acts ..) rfl
    refine .step ?_ (State.loopChannel_acts ..) rfl
    refine .step ?_ (State.loopTests_acts ..) rfl
    refine .step ?_ (State.setFlag_acts ..) rfl
    refine .step ?_ (State.setFlag_acts ..) rfl
    refine .step ?_ (State.setInt_acts ..) rfl
    refine .step ?_ (State.setInt_acts ..) rfl
    refine .step ?_ (State.setInt_acts ..) rfl
    refine .step ?_ (State.setLoop_acts ..) rfl
    refine .step ?_ (State.setLoop_acts ..) rfl
    exact .refl _
  · refine .step ?_ (State.loopChannel_acts ..) rfl
    refine .step ?_ (State.loopTests_acts ..) rfl
    refine .step ?_ (State.setFlag_acts ..) rfl
    refine .step ?_ (State.setFlag_acts ..) rfl
    refine .step ?_ (State.setInt_acts ..) rfl
    refine .step ?_ (State.setInt_acts ..) rfl
    refine .step ?_ (State.setInt_acts ..) rfl
    refine .step ?_ (State.setLoop_acts ..) rfl
    refine .step ?_ (State.setLoop_acts ..) rfl
    exact .refl _

/-- Changes alarms, rcd, tim, agr, twn, fch, loops, can, regs, out, elapsed, working. -/
theorem execLoopSample_acts : ∀ x0 x1, ∃ t, execLoopSample x0 x1 = .next t ∧ Acts 6755986510250368 x1 t := by
  intro x0 x1
  unfold execLoopSample
  refine ⟨_, rfl, ?_⟩
  refine .ite (fun _ => ?_) fun _ => ?_
  · refine .step ?_ (State.loopStep_acts ..) rfl
    refine .step ?_ (State.reach_acts ..) rfl
    exact .refl _
  · exact .refl _

/-- Changes alarms, rcd, tim, agr, twn, loops, regs, out, elapsed, working. -/
theorem execLoopFollowingError_acts : ∀ x0 x1, ∃ t, execLoopFollowingError x0 x1 = .next t ∧ Acts 6755984094331264 x1 t := by
  intro x0 x1
  unfold execLoopFollowingError
  refine ⟨_, rfl, ?_⟩
  split
  · refine .ite (fun _ => ?_) fun _ => ?_
    · exact .refl _
    · refine .step ?_ (State.showLoop_acts ..) rfl
      refine .step ?_ (State.loopFaultAction_acts ..) rfl
      refine .step ?_ (State.raise_acts ..) rfl
      refine .step ?_ (State.event_acts ..) rfl
      refine .step ?_ (State.setLoop_acts ..) rfl
      refine .step ?_ (State.reachEl_acts ..) rfl
      exact .refl _
  · exact .refl _

/-- Changes alarms, rcd, tim, agr, twn, loops, regs, out, elapsed, working. -/
theorem execLoopPlausibility_acts : ∀ x0 x1, ∃ t, execLoopPlausibility x0 x1 = .next t ∧ Acts 6755984094331264 x1 t := by
  intro x0 x1
  unfold execLoopPlausibility
  refine ⟨_, rfl, ?_⟩
  split
  · refine .ite (fun _ => ?_) fun _ => ?_
    · exact .refl _
    · refine .step ?_ (State.showLoop_acts ..) rfl
      refine .step ?_ (State.loopFaultAction_acts ..) rfl
      refine .step ?_ (State.raise_acts ..) rfl
      refine .step ?_ (State.event_acts ..) rfl
      refine .step ?_ (State.setLoop_acts ..) rfl
      refine .step ?_ (State.reachEl_acts ..) rfl
      exact .refl _
  · exact .refl _

/-- Changes regs. -/
theorem State.setupLoops_acts : ∀ x0, Acts 34359738368 x0 (State.setupLoops x0) := by
  intro x0
  unfold State.setupLoops
  refine .each ?_ ?_
  · exact .refl _
  · intro _ _
    refine .step ?_ (State.setRegs_acts ..) rfl
    exact .refl _

/-! Panel.lean -/

/-- Changes ann. -/
theorem State.newImage_acts : ∀ x0 x1 x2, Acts 1024 x0 (State.newImage x0 x1 x2) := by
  intro x0 x1 x2
  unfold State.newImage
  refine .ite (fun _ => ?_) fun _ => ?_
  · exact .refl _
  · refine .ite (fun _ => ?_) fun _ => ?_
    · refine .upd_ann ?_ rfl
      exact .refl _
    · refine .ite (fun _ => ?_) fun _ => ?_
      · refine .upd_ann ?_ rfl
        exact .refl _
      · refine .upd_ann ?_ rfl
        exact .refl _

/-- Changes alarms, rcd, regs. -/
theorem State.sampleTemp_acts : ∀ x0, Acts 34359738752 x0 (State.sampleTemp x0) := by
  intro x0
  unfold State.sampleTemp
  refine .ite (fun _ => ?_) fun _ => ?_
  · refine .step ?_ (State.raise_acts ..) rfl
    refine .step ?_ (State.event_acts ..) rfl
    refine .step ?_ (State.setFld_acts ..) rfl
    refine .step ?_ (State.setInt_acts ..) rfl
    exact .refl _
  · refine .step ?_ (State.causeGone_acts ..) rfl
    refine .step ?_ (State.setFld_acts ..) rfl
    refine .step ?_ (State.setInt_acts ..) rfl
    exact .refl _

/-- Changes mram, ann, regs. -/
theorem State.startWaveform_acts : ∀ x0 x1 x2 x3, Acts 34359739904 x0 (State.startWaveform x0 x1 x2 x3) := by
  intro x0 x1 x2 x3
  unfold State.startWaveform
  refine .step ?_ (State.setFld_acts ..) rfl
  refine .upd_mram_ann ?_ rfl rfl rfl rfl (.inr rfl)
  exact .refl _

/-- Changes ann. -/
theorem State.requireVlcd_acts : ∀ x0, Acts 1024 x0 (State.requireVlcd x0) := by
  intro x0
  unfold State.requireVlcd
  refine .ite (fun _ => ?_) fun _ => ?_
  · refine .upd_ann ?_ rfl
    exact .refl _
  · exact .refl _

/-- Changes alarms, rcd, mram, ann, regs. -/
theorem execWaveformStart_acts : ∀ x0 x1, ∃ t, execWaveformStart x0 x1 = .next t ∧ Acts 34359740288 x1 t := by
  intro x0 x1
  unfold execWaveformStart
  refine ⟨_, rfl, ?_⟩
  refine .ite (fun _ => ?_) fun _ => ?_
  · exact .refl _
  · refine .ite (fun _ => ?_) fun _ => ?_
    · refine .step ?_ (State.requireVlcd_acts ..) rfl
      refine .step ?_ (State.setFlag_acts ..) rfl
      refine .step ?_ (State.setFld_acts ..) rfl
      refine .step ?_ (State.sampleTemp_acts ..) rfl
      exact .refl _
    · split
      · refine .step ?_ (State.startWaveform_acts ..) rfl
        refine .upd_ann ?_ rfl
        refine .step ?_ (State.setFlag_acts ..) rfl
        refine .step ?_ (State.setFld_acts ..) rfl
        refine .step ?_ (State.sampleTemp_acts ..) rfl
        exact .refl _
      · refine .step ?_ (State.startWaveform_acts ..) rfl
        refine .upd_ann ?_ rfl
        refine .step ?_ (State.setFlag_acts ..) rfl
        refine .step ?_ (State.setFld_acts ..) rfl
        refine .step ?_ (State.sampleTemp_acts ..) rfl
        exact .refl _
      · refine .step ?_ (State.setFlag_acts ..) rfl
        refine .step ?_ (State.setFld_acts ..) rfl
        refine .step ?_ (State.sampleTemp_acts ..) rfl
        exact .refl _

/-- Changes ann, tim, elapsed, working. -/
theorem execWaveformPhaseEnd_acts : ∀ x0, ∃ t, execWaveformPhaseEnd x0 = .next t ∧ Acts 6755399441122304 x0 t := by
  intro x0
  unfold execWaveformPhaseEnd
  refine ⟨_, rfl, ?_⟩
  split
  · refine .ite (fun _ => ?_) fun _ => ?_
    · refine .upd_ann ?_ rfl
      refine .step ?_ (State.reachEl_acts ..) rfl
      exact .refl _
    · refine .ite (fun _ => ?_) fun _ => ?_
      · refine .upd_ann ?_ rfl
        refine .step ?_ (State.reachEl_acts ..) rfl
        exact .refl _
      · exact .refl _
  · exact .refl _

/-- Changes alarms, rcd, mram, ann, tim, regs, elapsed, working. -/
theorem execWaveformEnd_acts : ∀ x0, ∃ t, execWaveformEnd x0 = .next t ∧ Acts 6755433800861568 x0 t := by
  intro x0
  unfold execWaveformEnd
  refine ⟨_, rfl, ?_⟩
  split
  · refine .ite (fun _ => ?_) fun _ => ?_
    · refine .ite (fun _ => ?_) fun _ => ?_
      · refine .step ?_ (State.raise_acts ..) rfl
        refine .step ?_ (State.event_acts ..) rfl
        refine .upd_ann ?_ rfl
        split
        · refine .step ?_ (State.newImage_acts ..) rfl
          refine .upd_ann ?_ rfl
          refine .upd_mram_ann ?_ rfl rfl rfl rfl (.inr rfl)
          refine .step ?_ (State.sampleTemp_acts ..) rfl
          refine .step ?_ (State.reachEl_acts ..) rfl
          exact .refl _
        · refine .upd_mram_ann ?_ rfl rfl rfl rfl (.inr rfl)
          refine .step ?_ (State.sampleTemp_acts ..) rfl
          refine .step ?_ (State.reachEl_acts ..) rfl
          exact .refl _
      · split
        · refine .step ?_ (State.newImage_acts ..) rfl
          refine .upd_ann ?_ rfl
          refine .upd_mram_ann ?_ rfl rfl rfl rfl (.inr rfl)
          refine .step ?_ (State.sampleTemp_acts ..) rfl
          refine .step ?_ (State.reachEl_acts ..) rfl
          exact .refl _
        · refine .upd_mram_ann ?_ rfl rfl rfl rfl (.inr rfl)
          refine .step ?_ (State.sampleTemp_acts ..) rfl
          refine .step ?_ (State.reachEl_acts ..) rfl
          exact .refl _
    · exact .refl _
  · exact .refl _

/-- Changes alarms, rcd, ann, tim, regs, elapsed, working. -/
theorem execVlcdTimeout_acts : ∀ x0 x1, ∃ t, execVlcdTimeout x0 x1 = .next t ∧ Acts 6755433800861056 x1 t := by
  intro x0 x1
  unfold execVlcdTimeout
  refine ⟨_, rfl, ?_⟩
  split
  · exact .refl _
  · refine .ite (fun _ => ?_) fun _ => ?_
    · refine .step ?_ (State.causeGone_acts ..) rfl
      refine .upd_ann ?_ rfl
      refine .step ?_ (State.setFlag_acts ..) rfl
      refine .step ?_ (State.setFld_acts ..) rfl
      refine .step ?_ (State.reachEl_acts ..) rfl
      exact .refl _
    · refine .ite (fun _ => ?_) fun _ => ?_
      · refine .upd_ann ?_ rfl
        refine .step ?_ (State.setFlag_acts ..) rfl
        refine .step ?_ (State.setFld_acts ..) rfl
        refine .step ?_ (State.reachEl_acts ..) rfl
        exact .refl _
      · refine .step ?_ (State.raise_acts ..) rfl
        refine .step ?_ (State.event_acts ..) rfl
        refine .upd_ann ?_ rfl
        refine .step ?_ (State.setFlag_acts ..) rfl
        refine .step ?_ (State.setFld_acts ..) rfl
        refine .step ?_ (State.reachEl_acts ..) rfl
        exact .refl _

/-- Changes ann. -/
theorem State.commitWrite_acts : ∀ x0 x1, Acts 1024 x0 (State.commitWrite x0 x1) := by
  intro x0 x1
  unfold State.commitWrite
  refine .each ?_ ?_
  · exact .refl _
  · intro _ _
    refine .ite (fun _ => ?_) fun _ => ?_
    · refine .step ?_ (State.newImage_acts ..) rfl
      exact .refl _
    · exact .refl _

/-- Changes alarms, rcd, ann, acl, twn, regs, out. -/
theorem execAnnCommit_acts : ∀ x0 x1 x2, ∃ t, execAnnCommit x0 x1 x2 = .next t ∧ Acts 584116110720 x2 t := by
  intro x0 x1 x2
  unfold execAnnCommit
  refine ⟨_, rfl, ?_⟩
  refine State.commandWrite_acts ?_ ?_ rfl
  · exact .refl _
  · intro _
    refine .step ?_ (State.commitWrite_acts ..) rfl
    exact .refl _

/-- Changes ann. -/
theorem State.newBar_acts : ∀ x0 x1 x2, Acts 1024 x0 (State.newBar x0 x1 x2) := by
  intro x0 x1 x2
  unfold State.newBar
  refine .ite (fun _ => ?_) fun _ => ?_
  · refine .step ?_ (State.newImage_acts ..) rfl
    refine .upd_ann ?_ rfl
    exact .refl _
  · exact .refl _

/-- Changes ann. -/
theorem State.newIcons_acts : ∀ x0 x1 x2, Acts 1024 x0 (State.newIcons x0 x1 x2) := by
  intro x0 x1 x2
  unfold State.newIcons
  refine .ite (fun _ => ?_) fun _ => ?_
  · exact .refl _
  · refine .step ?_ (State.newImage_acts ..) rfl
    refine .upd_ann ?_ rfl
    exact .refl _

/-- Changes ann, regs. -/
theorem State.panelStart_acts : ∀ x0, Acts 34359739392 x0 (State.panelStart x0) := by
  intro x0
  unfold State.panelStart
  refine .each ?_ ?_
  · refine .step ?_ (State.setFld_acts ..) rfl
    exact .refl _
  · intro _ _
    refine .upd_ann ?_ rfl
    exact .refl _

/-- Changes mram, regs. -/
theorem State.secondPassed_acts : ∀ x0, Acts 34359738880 x0 (State.secondPassed x0) := by
  intro x0
  unfold State.secondPassed
  refine .each ?_ ?_
  · exact .refl _
  · intro _ _
    refine .ite (fun _ => ?_) fun _ => ?_
    · refine .step ?_ (State.showBrake_acts ..) rfl
      refine .upd_mram ?_ rfl rfl rfl rfl (.inr rfl)
      exact .refl _
    · exact .refl _

/-- Changes rcd, mram, regs. -/
theorem State.hourPassed_acts : ∀ x0, Acts 34359739136 x0 (State.hourPassed x0) := by
  intro x0
  unfold State.hourPassed
  refine .upd_rcd ?_ rfl rfl (.inr rfl)
  refine .each ?_ ?_
  · exact .refl _
  · intro _ _
    refine .step ?_ (State.setReg_acts ..) rfl
    refine .upd_mram ?_ rfl rfl rfl rfl (.inr rfl)
    exact .refl _

/-- Changes rcd, mram, tim, regs, opTime, elapsed, working. -/
theorem execOperatingTimeTick_acts : ∀ x0, ∃ t, execOperatingTimeTick x0 = .next t ∧ Acts 6896171289215744 x0 t := by
  intro x0
  unfold execOperatingTimeTick
  refine ⟨_, rfl, ?_⟩
  refine .ite (fun _ => ?_) fun _ => ?_
  · refine .ite (fun _ => ?_) fun _ => ?_
    · refine .step ?_ (State.hourPassed_acts ..) rfl
      refine .ite (fun _ => ?_) fun _ => ?_
      · refine .step ?_ (State.secondPassed_acts ..) rfl
        refine .ite (fun _ => ?_) fun _ => ?_
        · refine .upd_mram ?_ rfl rfl rfl rfl (.inr rfl)
          refine .upd_rcd ?_ rfl rfl (.inl rfl)
          refine .step ?_ (State.reachEl_acts ..) rfl
          exact .refl _
        · refine .upd_rcd ?_ rfl rfl (.inl rfl)
          refine .step ?_ (State.reachEl_acts ..) rfl
          exact .refl _
      · refine .ite (fun _ => ?_) fun _ => ?_
        · refine .upd_mram ?_ rfl rfl rfl rfl (.inr rfl)
          refine .upd_rcd ?_ rfl rfl (.inl rfl)
          refine .step ?_ (State.reachEl_acts ..) rfl
          exact .refl _
        · refine .upd_rcd ?_ rfl rfl (.inl rfl)
          refine .step ?_ (State.reachEl_acts ..) rfl
          exact .refl _
    · refine .ite (fun _ => ?_) fun _ => ?_
      · refine .step ?_ (State.secondPassed_acts ..) rfl
        refine .ite (fun _ => ?_) fun _ => ?_
        · refine .upd_mram ?_ rfl rfl rfl rfl (.inr rfl)
          refine .upd_rcd ?_ rfl rfl (.inl rfl)
          refine .step ?_ (State.reachEl_acts ..) rfl
          exact .refl _
        · refine .upd_rcd ?_ rfl rfl (.inl rfl)
          refine .step ?_ (State.reachEl_acts ..) rfl
          exact .refl _
      · refine .ite (fun _ => ?_) fun _ => ?_
        · refine .upd_mram ?_ rfl rfl rfl rfl (.inr rfl)
          refine .upd_rcd ?_ rfl rfl (.inl rfl)
          refine .step ?_ (State.reachEl_acts ..) rfl
          exact .refl _
        · refine .upd_rcd ?_ rfl rfl (.inl rfl)
          refine .step ?_ (State.reachEl_acts ..) rfl
          exact .refl _
  · exact .refl _

/-! Boot.lean -/

/-- Changes regs. -/
theorem State.bootStep_acts : ∀ x0 x1, Acts 34359738368 x0 (State.bootStep x0 x1) := by
  intro x0 x1
  unfold State.bootStep
  refine .step ?_ (State.setFld_acts ..) rfl
  exact .refl _

/-- Changes alarms, rcd, regs. -/
theorem State.slotStage_acts : ∀ x0 x1 x2, Acts 34359738752 x0 (State.slotStage x0 x1 x2) := by
  intro x0 x1 x2
  unfold State.slotStage
  refine .ite (fun _ => ?_) fun _ => ?_
  · refine .step ?_ (State.setFld_acts ..) rfl
    exact .refl _
  · refine .step ?_ (State.raise_acts ..) rfl
    refine .step ?_ (State.setFld_acts ..) rfl
    exact .refl _

/-- Changes boot, dev, alarms, rcd, regs, devSt. -/
theorem State.noSlot_acts : ∀ x0, Acts 4432406249896 x0 (State.noSlot x0) := by
  intro x0
  unfold State.noSlot
  refine .step ?_ (State.bootToSafe_acts ..) rfl
  refine .step ?_ (State.raise_acts ..) rfl
  exact .refl _

/-- Changes boot, dev, alarms, rcd, regs, devSt. -/
theorem State.selectSlot_acts : ∀ x0, Acts 4432406249896 x0 (State.selectSlot x0) := by
  intro x0
  unfold State.selectSlot
  try dsimp only
  split
  · refine .step ?_ (State.noSlot_acts ..) rfl
    refine .each ?_ ?_
    · refine .step ?_ (State.bootStep_acts ..) rfl
      exact .refl _
    · intro _ _
      refine .step ?_ (State.slotStage_acts ..) rfl
      exact .refl _
  · refine .upd_boot ?_ rfl
    refine .each ?_ ?_
    · refine .step ?_ (State.bootStep_acts ..) rfl
      exact .refl _
    · intro _ _
      refine .step ?_ (State.slotStage_acts ..) rfl
      exact .refl _
  · refine .upd_boot ?_ rfl
    refine .ite (fun _ => ?_) fun _ => ?_
    · refine .step ?_ (State.raise_acts ..) rfl
      refine .each ?_ ?_
      · refine .step ?_ (State.bootStep_acts ..) rfl
        exact .refl _
      · intro _ _
        refine .step ?_ (State.slotStage_acts ..) rfl
        exact .refl _
    · refine .each ?_ ?_
      · refine .step ?_ (State.bootStep_acts ..) rfl
        exact .refl _
      · intro _ _
        refine .step ?_ (State.slotStage_acts ..) rfl
        exact .refl _

/-- Changes mram. -/
theorem State.fullTrims_acts : ∀ x0, Acts 512 x0 (State.fullTrims x0) := by
  intro x0
  unfold State.fullTrims
  refine .each ?_ ?_
  · exact .refl _
  · intro _ _
    refine .upd_mram ?_ rfl rfl rfl rfl (.inr rfl)
    exact .refl _

/-- Changes alarms, rcd, mram, regs. -/
theorem State.retireFailedBanks_acts : ∀ x0 x1, Acts 34359739264 x0 (State.retireFailedBanks x0 x1) := by
  intro x0 x1
  unfold State.retireFailedBanks
  refine .each ?_ ?_
  · exact .refl _
  · intro _ _
    refine .step ?_ (State.raise_acts ..) rfl
    refine .step ?_ (State.event_acts ..) rfl
    refine .step ?_ (State.countRetired_acts ..) rfl
    refine .upd_mram ?_ rfl rfl rfl rfl (.inr rfl)
    exact .refl _

/-- Changes alarms, rcd, thm, regs. -/
theorem State.startThermal_acts : ∀ x0 x1, Acts 34363933056 x0 (State.startThermal x0 x1) := by
  intro x0 x1
  unfold State.startThermal
  refine .each ?_ ?_
  · refine .step ?_ (State.setInt_acts ..) rfl
    refine .upd_thm ?_ rfl
    refine .step ?_ (State.readDiodes_acts ..) rfl
    exact .refl _
  · intro _ _
    refine .step ?_ (State.setInt_acts ..) rfl
    exact .refl _

/-- Changes saf, brakes. -/
theorem State.restoreBrake_acts : ∀ x0 x1, Acts 1125899907891200 x0 (State.restoreBrake x0 x1) := by
  intro x0 x1
  unfold State.restoreBrake
  split
  · refine .step ?_ (State.setBrake_acts ..) rfl
    exact .refl _
  · exact .refl _

/-- Changes saf, regs, brakes. -/
theorem State.showMram_acts : ∀ x0, Acts 1125934267629568 x0 (State.showMram x0) := by
  intro x0
  unfold State.showMram
  refine .each ?_ ?_
  · refine .each ?_ ?_
    · exact .refl _
    · intro _ _
      refine .step ?_ (State.setFld_acts ..) rfl
      refine .step ?_ (State.showBrake_acts ..) rfl
      refine .step ?_ (State.setReg_acts ..) rfl
      refine .step ?_ (State.restoreBrake_acts ..) rfl
      exact .refl _
  · intro _ _
    refine .step ?_ (State.setReg_acts ..) rfl
    exact .refl _

/-- Changes alarms, rcd, mram, twn, saf, thm, regs, ladle, opTime, recNext, brakes. -/
theorem State.readMram_acts : ∀ x0 x1 x2, Acts 1618515481592704 x0 (State.readMram x0 x1 x2) := by
  intro x0 x1 x2
  unfold State.readMram
  refine .step ?_ (State.showMram_acts ..) rfl
  refine .step ?_ (State.startThermal_acts ..) rfl
  refine .ite (fun _ => ?_) fun _ => ?_
  · refine .step ?_ (State.raise_acts ..) rfl
    refine .upd_rcd_mram_twn ?_ rfl rfl rfl rfl rfl (.inl rfl) (.inl rfl) (.inr rfl)
    refine .ite (fun _ => ?_) fun _ => ?_
    · refine .upd_mram ?_ rfl rfl rfl rfl (.inr rfl)
      refine .ite (fun _ => ?_) fun _ => ?_
      · exact .refl _
      · refine .step ?_ (State.raise_acts ..) rfl
        refine .step ?_ (State.fullTrims_acts ..) rfl
        refine .upd_mram ?_ rfl rfl rfl rfl (.inl rfl)
        exact .refl _
    · refine .ite (fun _ => ?_) fun _ => ?_
      · exact .refl _
      · refine .step ?_ (State.raise_acts ..) rfl
        refine .step ?_ (State.fullTrims_acts ..) rfl
        refine .upd_mram ?_ rfl rfl rfl rfl (.inl rfl)
        exact .refl _
  · refine .upd_rcd_mram_twn ?_ rfl rfl rfl rfl rfl (.inl rfl) (.inl rfl) (.inr rfl)
    refine .ite (fun _ => ?_) fun _ => ?_
    · refine .upd_mram ?_ rfl rfl rfl rfl (.inr rfl)
      refine .ite (fun _ => ?_) fun _ => ?_
      · exact .refl _
      · refine .step ?_ (State.raise_acts ..) rfl
        refine .step ?_ (State.fullTrims_acts ..) rfl
        refine .upd_mram ?_ rfl rfl rfl rfl (.inl rfl)
        exact .refl _
    · refine .ite (fun _ => ?_) fun _ => ?_
      · exact .refl _
      · refine .step ?_ (State.raise_acts ..) rfl
        refine .step ?_ (State.fullTrims_acts ..) rfl
        refine .upd_mram ?_ rfl rfl rfl rfl (.inl rfl)
        exact .refl _

/-- Changes boot, dev, alarms, rcd, regs, devSt. -/
theorem State.readFlashHeaders_acts : ∀ x0 x1, Acts 4432406249896 x0 (State.readFlashHeaders x0 x1) := by
  intro x0 x1
  unfold State.readFlashHeaders
  refine .ite (fun _ => ?_) fun _ => ?_
  · refine .step ?_ (State.noSlot_acts ..) rfl
    refine .each ?_ ?_
    · refine .step ?_ (State.bootStep_acts ..) rfl
      exact .refl _
    · intro _ _
      refine .step ?_ (State.slotStage_acts ..) rfl
      exact .refl _
  · refine .ite (fun _ => ?_) fun _ => ?_
    · refine .step ?_ (State.selectSlot_acts ..) rfl
      refine .step ?_ (State.raise_acts ..) rfl
      refine .upd_boot ?_ rfl
      refine .step ?_ (State.bootStep_acts ..) rfl
      exact .refl _
    · refine .step ?_ (State.selectSlot_acts ..) rfl
      refine .step ?_ (State.bootStep_acts ..) rfl
      exact .refl _

/-- Changes boot, dev, alarms, rcd, mram, pins, twn, saf, hlt, thm, ctl, alc, fch, regs, out, devSt, ladle, opTime, recNext, lease, brakes. -/
theorem State.startBoot_acts : ∀ x0 x1, Acts 2186413608666024 x0 (State.startBoot x0 x1) := by
  intro x0 x1
  unfold State.startBoot
  refine .ite (fun _ => ?_) fun _ => ?_
  · refine .step ?_ (State.setFld_acts ..) rfl
    refine .upd_boot ?_ rfl
    refine .step ?_ (State.bootStep_acts ..) rfl
    refine .step ?_ (State.setFlag_acts ..) rfl
    refine .upd_boot ?_ rfl
    exact .refl _
  · refine .ite (fun _ => ?_) fun _ => ?_
    · refine .step ?_ (State.deviceFault_acts ..) rfl
      refine .step ?_ (State.bootStep_acts ..) rfl
      refine .step ?_ (State.bootStep_acts ..) rfl
      refine .step ?_ (State.setFlag_acts ..) rfl
      refine .upd_boot ?_ rfl
      exact .refl _
    · refine .step ?_ (State.readFlashHeaders_acts ..) rfl
      refine .step ?_ (State.retireFailedBanks_acts ..) rfl
      refine .step ?_ (State.readMram_acts ..) rfl
      refine .step ?_ (State.bootStep_acts ..) rfl
      refine .step ?_ (State.bootStep_acts ..) rfl
      refine .step ?_ (State.bootStep_acts ..) rfl
      refine .step ?_ (State.setFlag_acts ..) rfl
      refine .upd_boot ?_ rfl
      exact .refl _

/-- Changes boot, dev, alarms, rcd, mram, pins, twn, saf, hlt, thm, ctl, alc, fch, regs, out, devSt, ladle, opTime, recNext, lease, brakes. -/
theorem execBootStart_acts : ∀ x0 x1, ∃ t, execBootStart x0 x1 = .next t ∧ Acts 2186413608666024 x1 t := by
  intro x0 x1
  unfold execBootStart
  refine ⟨_, rfl, ?_⟩
  refine .ite (fun _ => ?_) fun _ => ?_
  · refine .step ?_ (State.startBoot_acts ..) rfl
    exact .refl _
  · exact .refl _

/-- Changes regs. -/
theorem State.loadAccess_acts : ∀ x0, Acts 34359738368 x0 (State.loadAccess x0) := by
  intro x0
  unfold State.loadAccess
  refine .each ?_ ?_
  · exact .refl _
  · intro _ _
    refine .each ?_ ?_
    · exact .refl _
    · intro _ _
      refine .step ?_ (State.loadRule_acts ..) rfl
      exact .refl _

/-- Changes alarms, rcd, mram, regs, recNext. -/
theorem State.applyRelease_acts (s : State) (e : List Word) : Acts 281509336449920 s (s.applyRelease e) := by
  unfold State.applyRelease
  refine Acts.ite (fun _ => Acts.refl s) (fun _ => Acts.ite (fun _ => .step (.step (.refl s) (State.event_acts ..) rfl) (State.raise_acts ..) rfl) (fun hr => ?_))
  refine Acts.step ?_ (State.record_acts ..) rfl
  refine Acts.step ?_ (State.event_acts ..) rfl
  refine ⟨fun p hp => by cases p <;> first | rfl | exact absurd hp (by decide), fun k => ⟨k.canonical, k.alarms, k.queue, ?_, k.buffer⟩⟩
  have hu := k.used
  have h0 : s.releaseReason e = 0 := Decidable.not_not.mp hr
  have hb : s.mram.base ≤ (nthW e 3).toNat := by
    unfold State.releaseReason at h0
    simp only at h0
    split at h0
    · cases h0
    · split at h0
      · cases h0
      · rename_i h
        simp at h
        exact h.1
  unfold State.recUsed at *
  show s.mram.next - ((nthW e 3).toNat + 1) ≤ 131072
  omega

/-- Changes alarms, rcd, mram, regs, recNext. -/
theorem State.release_acts : ∀ x0, Acts 281509336449920 x0 (State.release x0) := by
  intro x0
  unfold State.release
  refine .foldl ?_ ?_
  · exact .refl _
  · intro _ _
    refine .step ?_ (State.applyRelease_acts ..) rfl
    exact .refl _

/-- Changes boot, dev, alarms, rcd, mram, pins, twn, saf, ctl, alc, fch, regs, out, devSt, ladle, lease, brakes. -/
theorem State.handSafety_acts : ∀ x0 x1, Acts 1764201137308584 x0 (State.handSafety x0 x1) := by
  intro x0 x1
  unfold State.handSafety
  refine .ite (fun _ => ?_) fun _ => ?_
  · refine .each ?_ ?_
    · refine .upd_pins_saf ?_ rfl (.inr rfl) (.inr rfl)
      exact .refl _
    · intro _ _
      refine .step ?_ (State.showBrake_acts ..) rfl
      exact .refl _
  · refine .step ?_ (State.raise_acts ..) rfl
    refine .step ?_ (State.globalSafe_acts ..) rfl
    refine .upd_boot ?_ rfl
    exact .refl _

/-- Changes regs. -/
theorem State.showPattern_acts : ∀ x0 x1, Acts 34359738368 x0 (State.showPattern x0 x1) := by
  intro x0 x1
  unfold State.showPattern
  refine .step ?_ (State.updateUtc_acts ..) rfl
  refine .step ?_ (State.setReg_acts ..) rfl
  refine .each ?_ ?_
  · exact .refl _
  · intro _ _
    refine .step ?_ (State.setFlag_acts ..) rfl
    exact .refl _

/-- Changes boot, pat, alarms, rcd, regs. -/
theorem State.useImage_acts : ∀ x0 x1 x2 x3, Acts 34359738776 x0 (State.useImage x0 x1 x2 x3) := by
  intro x0 x1 x2 x3
  unfold State.useImage
  refine .ite (fun _ => ?_) fun _ => ?_
  · refine .each ?_ ?_
    · refine .step ?_ (State.setRegs_acts ..) rfl
      refine .step ?_ (State.setReg_acts ..) rfl
      refine .step ?_ (State.setFld_acts ..) rfl
      refine .step ?_ (State.setFld_acts ..) rfl
      refine .upd_boot_pat ?_ rfl
      exact .refl _
    · intro _ _
      refine .step ?_ (State.setFld_acts ..) rfl
      exact .refl _
  · refine .step ?_ (State.raise_acts ..) rfl
    refine .each ?_ ?_
    · refine .step ?_ (State.setRegs_acts ..) rfl
      refine .step ?_ (State.setReg_acts ..) rfl
      refine .step ?_ (State.setFld_acts ..) rfl
      refine .step ?_ (State.setFld_acts ..) rfl
      refine .upd_boot_pat ?_ rfl
      exact .refl _
    · intro _ _
      refine .step ?_ (State.setFld_acts ..) rfl
      exact .refl _

/-- Changes boot, dev, alarms, rcd, mram, intc, apps, pins, twn, saf, ctl, alc, slv, fch, net, can, elk, regs, appm, out, devSt, ladle, recNext,
lease, brakes. -/
theorem State.setUp_acts : ∀ x0 x1 x2, Acts 2045756778884008 x0 (State.setUp x0 x1 x2) := by
  intro x0 x1 x2
  unfold State.setUp
  refine .ite (fun _ => ?_) fun _ => ?_
  · refine .step ?_ (State.setFlag_acts ..) rfl
    refine .step ?_ (State.bootStep_acts ..) rfl
    refine .ite (fun _ => ?_) fun _ => ?_
    · refine .step ?_ (State.release_acts ..) rfl
      refine .step ?_ (State.showPattern_acts ..) rfl
      refine .step ?_ (State.generateScenarios_acts ..) rfl
      refine .step ?_ (State.setupElk_acts ..) rfl
      refine .step ?_ (State.setupLoops_acts ..) rfl
      refine .step ?_ (State.setupNet_acts ..) rfl
      refine .step ?_ (State.setupSpt_acts ..) rfl
      refine .step ?_ (State.setupCan_acts ..) rfl
      refine .step ?_ (State.setupFields_acts ..) rfl
      refine .step ?_ (State.handSafety_acts ..) rfl
      refine .step ?_ (State.storeMoulds_acts ..) rfl
      refine .step ?_ (State.loadAccess_acts ..) rfl
      refine .step ?_ (State.bootStep_acts ..) rfl
      exact .refl _
    · refine .step ?_ (State.loadApps_acts ..) rfl
      refine .step ?_ (State.release_acts ..) rfl
      refine .step ?_ (State.showPattern_acts ..) rfl
      refine .step ?_ (State.generateScenarios_acts ..) rfl
      refine .step ?_ (State.setupElk_acts ..) rfl
      refine .step ?_ (State.setupLoops_acts ..) rfl
      refine .step ?_ (State.setupNet_acts ..) rfl
      refine .step ?_ (State.setupSpt_acts ..) rfl
      refine .step ?_ (State.setupCan_acts ..) rfl
      refine .step ?_ (State.setupFields_acts ..) rfl
      refine .step ?_ (State.handSafety_acts ..) rfl
      refine .step ?_ (State.storeMoulds_acts ..) rfl
      refine .step ?_ (State.loadAccess_acts ..) rfl
      refine .step ?_ (State.bootStep_acts ..) rfl
      exact .refl _
  · refine .step ?_ (State.startApps_acts ..) rfl
    refine .step ?_ (State.setFlag_acts ..) rfl
    refine .step ?_ (State.bootStep_acts ..) rfl
    refine .ite (fun _ => ?_) fun _ => ?_
    · refine .step ?_ (State.release_acts ..) rfl
      refine .step ?_ (State.showPattern_acts ..) rfl
      refine .step ?_ (State.generateScenarios_acts ..) rfl
      refine .step ?_ (State.setupElk_acts ..) rfl
      refine .step ?_ (State.setupLoops_acts ..) rfl
      refine .step ?_ (State.setupNet_acts ..) rfl
      refine .step ?_ (State.setupSpt_acts ..) rfl
      refine .step ?_ (State.setupCan_acts ..) rfl
      refine .step ?_ (State.setupFields_acts ..) rfl
      refine .step ?_ (State.handSafety_acts ..) rfl
      refine .step ?_ (State.storeMoulds_acts ..) rfl
      refine .step ?_ (State.loadAccess_acts ..) rfl
      refine .step ?_ (State.bootStep_acts ..) rfl
      exact .refl _
    · refine .step ?_ (State.loadApps_acts ..) rfl
      refine .step ?_ (State.release_acts ..) rfl
      refine .step ?_ (State.showPattern_acts ..) rfl
      refine .step ?_ (State.generateScenarios_acts ..) rfl
      refine .step ?_ (State.setupElk_acts ..) rfl
      refine .step ?_ (State.setupLoops_acts ..) rfl
      refine .step ?_ (State.setupNet_acts ..) rfl
      refine .step ?_ (State.setupSpt_acts ..) rfl
      refine .step ?_ (State.setupCan_acts ..) rfl
      refine .step ?_ (State.setupFields_acts ..) rfl
      refine .step ?_ (State.handSafety_acts ..) rfl
      refine .step ?_ (State.storeMoulds_acts ..) rfl
      refine .step ?_ (State.loadAccess_acts ..) rfl
      refine .step ?_ (State.bootStep_acts ..) rfl
      exact .refl _

/-- Changes alarms, rcd, mram, regs. -/
theorem State.returnUnit_acts : ∀ x0 x1, Acts 34359739264 x0 (State.returnUnit x0 x1) := by
  intro x0 x1
  unfold State.returnUnit
  refine .ite (fun _ => ?_) fun _ => ?_
  · refine .step ?_ (State.raise_acts ..) rfl
    refine .step ?_ (State.event_acts ..) rfl
    refine .upd_mram ?_ rfl rfl rfl rfl (.inr rfl)
    exact .refl _
  · exact .refl _

/-- Changes regs. -/
theorem State.placeLanes_acts : ∀ x0 x1, Acts 34359738368 x0 (State.placeLanes x0 x1) := by
  intro x0 x1
  unfold State.placeLanes
  refine .each ?_ ?_
  · refine .each ?_ ?_
    · exact .refl _
    · intro _ _
      refine .step ?_ (State.setLane_acts ..) rfl
      exact .refl _
  · intro _ _
    refine .each ?_ ?_
    · refine .each ?_ ?_
      · exact .refl _
      · intro _ _
        refine .step ?_ (State.setLane_acts ..) rfl
        exact .refl _
    · intro _ _
      refine .step ?_ (State.setLane_acts ..) rfl
      exact .refl _

/-- Changes alarms, rcd, mram, regs. -/
theorem State.bootLaneFails_acts : ∀ x0 x1 x2, Acts 34359739264 x0 (State.bootLaneFails x0 x1 x2) := by
  intro x0 x1 x2
  unfold State.bootLaneFails
  refine .ite (fun _ => ?_) fun _ => ?_
  · refine .step ?_ (State.raise_acts ..) rfl
    refine .step ?_ (State.raise_acts ..) rfl
    refine .step ?_ (State.event_acts ..) rfl
    refine .step ?_ (State.placeLanes_acts ..) rfl
    refine .step ?_ (State.countRetired_acts ..) rfl
    refine .upd_mram ?_ rfl rfl rfl rfl (.inr rfl)
    exact .refl _
  · refine .step ?_ (State.raise_acts ..) rfl
    refine .step ?_ (State.event_acts ..) rfl
    refine .step ?_ (State.placeLanes_acts ..) rfl
    refine .step ?_ (State.countRetired_acts ..) rfl
    refine .upd_mram ?_ rfl rfl rfl rfl (.inr rfl)
    exact .refl _

/-- Changes alarms, rcd, mram, regs. -/
theorem State.bootChannelFails_acts : ∀ x0 x1, Acts 34359739264 x0 (State.bootChannelFails x0 x1) := by
  intro x0 x1
  unfold State.bootChannelFails
  refine .ite (fun _ => ?_) fun _ => ?_
  · refine .step ?_ (State.raise_acts ..) rfl
    refine .step ?_ (State.raise_acts ..) rfl
    refine .step ?_ (State.event_acts ..) rfl
    refine .step ?_ (State.countRetired_acts ..) rfl
    refine .upd_mram ?_ rfl rfl rfl rfl (.inr rfl)
    exact .refl _
  · refine .step ?_ (State.raise_acts ..) rfl
    refine .step ?_ (State.event_acts ..) rfl
    refine .step ?_ (State.countRetired_acts ..) rfl
    refine .upd_mram ?_ rfl rfl rfl rfl (.inr rfl)
    exact .refl _

/-- Changes boot, dev, alarms, rcd, mram, pins, twn, saf, hlt, ctl, alc, fch, regs, out, devSt, ladle, lease, brakes. -/
theorem State.startPairs_acts : ∀ x0, Acts 1764201139405736 x0 (State.startPairs x0) := by
  intro x0
  unfold State.startPairs
  refine .ite (fun _ => ?_) fun _ => ?_
  · refine .step ?_ (State.deviceFault_acts ..) rfl
    refine .upd_hlt ?_ rfl
    exact .refl _
  · refine .ite (fun _ => ?_) fun _ => ?_
    · refine .step ?_ (State.deviceFault_acts ..) rfl
      refine .upd_hlt ?_ rfl
      exact .refl _
    · refine .upd_hlt ?_ rfl
      exact .refl _

/-- Changes boot, dev, alarms, rcd, mram, pins, twn, saf, hlt, ctl, alc, fch, regs, out, devSt, ladle, lease, brakes. -/
theorem State.startTests_acts : ∀ x0 x1, Acts 1764201139405736 x0 (State.startTests x0 x1) := by
  intro x0 x1
  unfold State.startTests
  refine .each ?_ ?_
  · refine .each ?_ ?_
    · refine .each ?_ ?_
      · refine .step ?_ (State.startPairs_acts ..) rfl
        refine .step ?_ (State.placeLanes_acts ..) rfl
        refine .each ?_ ?_
        · exact .refl _
        · intro _ _
          refine .step ?_ (State.returnUnit_acts ..) rfl
          exact .refl _
      · intro _ _
        refine .step ?_ (State.bootLaneFails_acts ..) rfl
        exact .refl _
    · intro _ _
      refine .step ?_ (State.bootChannelFails_acts ..) rfl
      exact .refl _
  · intro _ _
    refine .step ?_ (State.pairFails_acts ..) rfl
    exact .refl _

/-- Changes rcd, regs. -/
theorem State.powerUpRecord_acts : ∀ x0, Acts 34359738624 x0 (State.powerUpRecord x0) := by
  intro x0
  unfold State.powerUpRecord
  refine .step ?_ (State.record_acts ..) rfl
  exact .refl _

/-- Changes rcd, tim, regs, working. -/
theorem State.firstTime_acts : ∀ x0, Acts 4503633987174656 x0 (State.firstTime x0) := by
  intro x0
  unfold State.firstTime
  split
  · refine .step ?_ (State.setTimeDirect_acts ..) rfl
    exact .refl _
  · exact .refl _

/-- Changes boot, dev, alarms, rcd, mram, ann, tim, pins, twn, saf, hlt, ctl, alc, fch, regs, out, devSt, devMode, devEpoch, devAim, ladle, lease,
brakes, working. -/
theorem State.startRunning_acts : ∀ x0 x1, Acts 6329373417998248 x0 (State.startRunning x0 x1) := by
  intro x0 x1
  unfold State.startRunning
  refine .ite (fun _ => ?_) fun _ => ?_
  · refine .step ?_ (State.startTests_acts ..) rfl
    refine .step ?_ (State.bootStep_acts ..) rfl
    exact .refl _
  · refine .ite (fun _ => ?_) fun _ => ?_
    · refine .upd_boot ?_ rfl
      refine .step ?_ (State.bootStep_acts ..) rfl
      refine .step ?_ (State.firstTime_acts ..) rfl
      refine .step ?_ (State.panelStart_acts ..) rfl
      refine .upd_ann ?_ rfl
      refine .step ?_ (State.powerUpRecord_acts ..) rfl
      refine .step ?_ (State.startFields_acts ..) rfl
      refine .step ?_ (State.startTests_acts ..) rfl
      refine .step ?_ (State.bootStep_acts ..) rfl
      exact .refl _
    · refine .step ?_ (State.readyAt_acts ..) rfl
      refine .step ?_ (State.firstTime_acts ..) rfl
      refine .step ?_ (State.panelStart_acts ..) rfl
      refine .upd_ann ?_ rfl
      refine .step ?_ (State.powerUpRecord_acts ..) rfl
      refine .step ?_ (State.startFields_acts ..) rfl
      refine .step ?_ (State.startTests_acts ..) rfl
      refine .step ?_ (State.bootStep_acts ..) rfl
      exact .refl _

/-- Changes boot, dev, alarms, rcd, regs, devSt. -/
theorem State.nextSlot_acts : ∀ x0 x1 x2, Acts 4432406249896 x0 (State.nextSlot x0 x1 x2) := by
  intro x0 x1 x2
  unfold State.nextSlot
  try dsimp only
  split
  · refine .upd_boot ?_ rfl
    refine .step ?_ (State.bootStep_acts ..) rfl
    refine .step ?_ (State.slotStage_acts ..) rfl
    exact .refl _
  · refine .step ?_ (State.noSlot_acts ..) rfl
    refine .upd_boot ?_ rfl
    refine .step ?_ (State.bootStep_acts ..) rfl
    refine .step ?_ (State.slotStage_acts ..) rfl
    exact .refl _

/-- Changes all but serial, devKey, clk, ord, hst, sti, acl, agr, thm, gns, fus, loops, spt, flashCmd, flash, xchg, freeCtr, pending, opTime, elapsed.
-/
theorem execSlotStreamEnd_acts : ∀ x0 x1, ∃ t, execSlotStreamEnd x0 x1 = .next t ∧ Acts 6610929059573688 x1 t := by
  intro x0 x1
  unfold execSlotStreamEnd
  refine ⟨_, rfl, ?_⟩
  refine .ite (fun _ => ?_) fun _ => ?_
  · exact .refl _
  · refine .ite (fun _ => ?_) fun _ => ?_
    · refine .step ?_ (State.nextSlot_acts ..) rfl
      exact .refl _
    · split
      · refine .step ?_ (State.startRunning_acts ..) rfl
        refine .step ?_ (State.setUp_acts ..) rfl
        refine .step ?_ (State.useImage_acts ..) rfl
        refine .step ?_ (State.bootStep_acts ..) rfl
        exact .refl _
      · refine .step ?_ (State.nextSlot_acts ..) rfl
        exact .refl _

/-- Changes boot, dev, alarms, rcd, tim, regs, devSt, elapsed, working. -/
theorem execBootTimeout_acts : ∀ x0, ∃ t, execBootTimeout x0 = .next t ∧ Acts 6759831847371176 x0 t := by
  intro x0
  unfold execBootTimeout
  refine ⟨_, rfl, ?_⟩
  refine .ite (fun _ => ?_) fun _ => ?_
  · refine .step ?_ (State.bootToSafe_acts ..) rfl
    refine .step ?_ (State.raise_acts ..) rfl
    refine .step ?_ (State.reachEl_acts ..) rfl
    exact .refl _
  · exact .refl _

/-! Bus.lean -/

/-- Changes sti. -/
theorem State.openView_acts : ∀ x0 x1, Acts 16384 x0 (State.openView x0 x1) := by
  intro x0 x1
  unfold State.openView
  refine .upd_sti ?_ rfl rfl rfl
  exact .refl _

/-- Changes sti. -/
theorem State.closeView_acts : ∀ x0 x1, Acts 16384 x0 (State.closeView x0 x1) := by
  intro x0 x1
  unfold State.closeView
  refine .upd_sti ?_ rfl rfl rfl
  exact .refl _

/-- Changes sti. -/
theorem State.viewWrite_acts : ∀ x0 x1 x2, Acts 16384 x0 (State.viewWrite x0 x1 x2) := by
  intro x0 x1 x2
  unfold State.viewWrite
  refine .ite (fun _ => ?_) fun _ => ?_
  · refine .step ?_ (State.openView_acts ..) rfl
    refine .ite (fun _ => ?_) fun _ => ?_
    · refine .step ?_ (State.closeView_acts ..) rfl
      exact .refl _
    · exact .refl _
  · refine .ite (fun _ => ?_) fun _ => ?_
    · refine .step ?_ (State.closeView_acts ..) rfl
      exact .refl _
    · exact .refl _

/-- Changes alarms, rcd, sti, regs. -/
theorem State.windowWord_acts : ∀ x0 x1 x2, Acts 34359755136 x0 (State.windowWord x0 x1 x2).1 := by
  intro x0 x1 x2
  unfold State.windowWord
  split
  · refine .pair ?_
    exact .refl _
  · refine .pair ?_
    refine .ite (fun _ => ?_) fun _ => ?_
    · refine .step ?_ (State.raise_acts ..) rfl
      refine .upd_sti ?_ rfl rfl rfl
      refine .step ?_ (State.bump_acts ..) rfl
      exact .refl _
    · refine .step ?_ (State.bump_acts ..) rfl
      exact .refl _

/-- Changes alarms, rcd, intc, sti, tim, regs. -/
theorem State.readAt_acts : ∀ x0 x1 x2, Acts 34359822720 x0 (State.readAt x0 x1 x2).1 := by
  intro x0 x1 x2
  unfold State.readAt
  refine .iteP (fun _ => ?_) fun _ => ?_
  · refine .step ?_ (State.windowWord_acts ..) rfl
    exact .refl _
  · split
    · refine .pair ?_
      refine .step ?_ (State.claimRead_acts ..) rfl
      exact .refl _
    · refine .pair ?_
      refine .step ?_ (State.capRead_acts ..) rfl
      exact .refl _
    · refine .iteP (fun _ => ?_) fun _ => ?_
      · refine .pair ?_
        exact .refl _
      · split
        · refine .pair ?_
          refine .step ?_ (State.clearOnRead_acts ..) rfl
          exact .refl _
        · refine .pair ?_
          exact .refl _

/-- Changes regs. -/
theorem State.hstEventWrite_acts : ∀ x0 x1, Acts 34359738368 x0 (State.hstEventWrite x0 x1) := by
  intro x0 x1
  unfold State.hstEventWrite
  refine .when ?_ ?_
  · refine .when ?_ ?_
    · refine .when ?_ ?_
      · refine .step ?_ (State.typedWrite_acts ..) rfl
        exact .refl _
      · intro _
        refine .step ?_ (State.setFlag_acts ..) rfl
        exact .refl _
    · intro _
      refine .step ?_ (State.setFlag_acts ..) rfl
      exact .refl _
  · intro _
    refine .step ?_ (State.setFlag_acts ..) rfl
    exact .refl _

/-- Changes fch, regs. -/
theorem State.fchOutWrite_acts : ∀ x0 x1 x2, Acts 34628173824 x0 (State.fchOutWrite x0 x1 x2) := by
  intro x0 x1 x2
  unfold State.fchOutWrite
  refine .ite (fun _ => ?_) fun _ => ?_
  · refine .step ?_ (State.driveField_acts ..) rfl
    refine .step ?_ (State.setReg_acts ..) rfl
    exact .refl _
  · refine .step ?_ (State.setReg_acts ..) rfl
    exact .refl _

/-- Changes ord, agr, twn, regs, out. -/
theorem State.boxWrite_acts : ∀ x0 x1 x2, Acts 584116338752 x0 (State.boxWrite x0 x1 x2) := by
  intro x0 x1 x2
  unfold State.boxWrite
  refine .ite (fun _ => ?_) fun _ => ?_
  · refine .step ?_ (State.submitBox_acts ..) rfl
    refine .step ?_ (State.typedWrite_acts ..) rfl
    exact .refl _
  · refine .step ?_ (State.typedWrite_acts ..) rfl
    exact .refl _

/-- Changes intc, regs. -/
theorem State.intcCtrlWrite_acts : ∀ x0 x1 x2, Acts 34359740416 x0 (State.intcCtrlWrite x0 x1 x2) := by
  intro x0 x1 x2
  unfold State.intcCtrlWrite
  refine .ite (fun _ => ?_) fun _ => ?_
  · refine .step ?_ (State.unfreezeTarget_acts ..) rfl
    refine .step ?_ (State.typedWrite_acts ..) rfl
    exact .refl _
  · refine .step ?_ (State.typedWrite_acts ..) rfl
    exact .refl _

/-- Changes ord, alarms, rcd, intc, tim, agr, twn, fch, can, regs, out. -/
theorem State.arrayWrite_acts : ∀ x0 x1 x2, Acts 586532325824 x0 ((State.arrayWrite x0 x1 x2).getD x0) := by
  intro x0 x1 x2
  unfold State.arrayWrite
  split
  · refine .someD ?_
    refine .step ?_ (State.boxWrite_acts ..) rfl
    exact .refl _
  · split
    · refine .someD ?_
      refine .step ?_ (State.enableUnit_acts ..) rfl
      exact .refl _
    · split
      · refine .someD ?_
        refine .step ?_ (State.completeWrite_acts ..) rfl
        exact .refl _
      · split
        · refine .someD ?_
          refine .step ?_ (State.intcCtrlWrite_acts ..) rfl
          exact .refl _
        · split
          · refine .someD ?_
            refine .step ?_ (State.q1Write_acts ..) rfl
            exact .refl _
          · split
            · refine .someD ?_
              refine .step ?_ (State.fchOutWrite_acts ..) rfl
              exact .refl _
            · exact Acts.noneD (Acts.refl _)

/-- Changes ord, alarms, rcd, ann, intc, apps, sti, tim, agr, twn, gns, slv, fch, net, can, flashCmd, regs, appm, out. -/
theorem State.ruledWrite_acts : ∀ x0 x1 x2 x3, Acts 673648045504 x0 ((State.ruledWrite x0 x1 x2 x3).getD x0) := by
  intro x0 x1 x2 x3
  unfold State.ruledWrite
  refine Acts.iteD (fun _ => ?_) (fun _ => ?_)
  · refine Acts.someD ?_
    refine Acts.step ?_ (State.appctlWrite_acts ..) rfl
    exact Acts.refl _
  · refine Acts.iteD (fun _ => ?_) (fun _ => ?_)
    · refine Acts.someD ?_
      refine Acts.step ?_ (State.flwWrite_acts ..) rfl
      exact Acts.refl _
    · refine Acts.iteD (fun _ => ?_) (fun _ => ?_)
      · refine Acts.someD ?_
        refine Acts.step ?_ (State.snapWrite_acts ..) rfl
        exact Acts.refl _
      · refine Acts.iteD (fun _ => ?_) (fun _ => ?_)
        · refine Acts.someD ?_
          refine Acts.step ?_ (State.slvPush_acts ..) rfl
          exact Acts.refl _
        · refine Acts.iteD (fun _ => ?_) (fun _ => ?_)
          · refine Acts.someD ?_
            refine Acts.step ?_ (State.slvPush_acts ..) rfl
            exact Acts.refl _
          · refine Acts.iteD (fun _ => ?_) (fun _ => ?_)
            · refine Acts.someD ?_
              refine Acts.step ?_ (State.doorbellWrite_acts ..) rfl
              exact Acts.refl _
            · refine Acts.iteD (fun _ => ?_) (fun _ => ?_)
              · refine Acts.someD ?_
                refine Acts.step ?_ (State.commitWrite_acts ..) rfl
                exact Acts.refl _
              · refine Acts.iteD (fun _ => ?_) (fun _ => ?_)
                · refine Acts.someD ?_
                  refine Acts.step ?_ (State.mdioWrite_acts ..) rfl
                  exact Acts.refl _
                · refine Acts.iteD (fun _ => ?_) (fun _ => ?_)
                  · refine Acts.someD ?_
                    refine Acts.step ?_ (State.viewWrite_acts ..) rfl
                    exact Acts.refl _
                  · refine Acts.iteD (fun _ => ?_) (fun _ => ?_)
                    · refine Acts.someD ?_
                      refine Acts.step ?_ (State.hstEventWrite_acts ..) rfl
                      exact Acts.refl _
                    · refine Acts.step ?_ (State.arrayWrite_acts ..) rfl
                      exact Acts.refl _

theorem State.ruledWrite_pair {s : State} {m a : Nat} {v : Word} {t : State} (h : s.ruledWrite m a v = some t) : Acts 673648045504 s t := by
  have k := State.ruledWrite_acts s m a v
  rw [h] at k
  exact k

/-- Changes ord, alarms, rcd, ann, intc, apps, sti, acl, tim, agr, twn, gns, slv, fch, net, can, flashCmd, regs, appm, out. -/
theorem State.writeAt_acts (s : State) (m a : Nat) (v : Word) : Acts 673648078272 s (s.writeAt m a v).1 := by
  unfold State.writeAt
  split
  · exact (State.refuse_acts ..).mono rfl
  · split
    · exact ⟨fun p hp => by cases p <;> first | rfl | exact absurd hp (by decide), fun k => k.of_canonical (let c := k.canonical; ⟨c.1, memWf_memSetRun _ _ _ _ _ c.2.1, c.2.2⟩) rfl rfl rfl rfl rfl⟩
    · split
      · exact (((State.ruledWrite_pair (by assumption)).mono rfl).step (State.settleSources_acts ..) rfl).step (State.updateTimers_acts ..) rfl
      · exact (((State.typedWrite_acts ..).mono rfl).step (State.settleSources_acts ..) rfl).step (State.updateTimers_acts ..) rfl

/-- Changes alarms, rcd, intc, sti, acl, tim, twn, regs. -/
theorem State.busRead_acts : ∀ x0 x1 x2, Acts 34360379776 x0 (State.busRead x0 x1 x2).1 := by
  intro x0 x1 x2
  unfold State.busRead
  refine .iteP (fun _ => ?_) fun _ => ?_
  · refine .pair ?_
    exact .refl _
  · refine State.accessWith_acts ?_ ?_ rfl
    · exact .refl _
    · intro _
      refine .step ?_ (State.readAt_acts ..) rfl
      exact .refl _

/-- Changes ord, alarms, rcd, ann, intc, apps, sti, acl, tim, agr, twn, gns, slv, fch, net, can, flashCmd, regs, appm, out. -/
theorem State.busWrite_acts : ∀ x0 x1 x2 x3, Acts 673648078272 x0 (State.busWrite x0 x1 x2 x3).1 := by
  intro x0 x1 x2 x3
  unfold State.busWrite
  refine .iteP (fun _ => ?_) fun _ => ?_
  · refine .pair ?_
    exact .refl _
  · refine State.accessWith_acts ?_ ?_ rfl
    · exact .refl _
    · intro _
      refine .step ?_ (State.writeAt_acts ..) rfl
      exact .refl _

/-- Changes alarms, rcd, intc, sti, acl, tim, twn, regs, out. -/
theorem execRegisterRead_acts : ∀ x0 x1 x2, ∃ t, execRegisterRead x0 x1 x2 = .next t ∧ Acts 584116193664 x2 t := by
  intro x0 x1 x2
  unfold execRegisterRead
  refine ⟨_, rfl, ?_⟩
  refine .step ?_ (State.complete_acts ..) rfl
  refine .step ?_ (State.busRead_acts ..) rfl
  exact .refl _

/-- Changes ord, alarms, rcd, ann, intc, apps, sti, acl, tim, agr, twn, gns, slv, fch, net, can, flashCmd, regs, appm, out. -/
theorem execRegisterWrite_acts : ∀ x0 x1 x2 x3, ∃ t, execRegisterWrite x0 x1 x2 x3 = .next t ∧ Acts 673648078272 x3 t := by
  intro x0 x1 x2 x3
  unfold execRegisterWrite
  refine ⟨_, rfl, ?_⟩
  refine .step ?_ (State.complete_acts ..) rfl
  refine .step ?_ (State.busWrite_acts ..) rfl
  exact .refl _

/-- Changes alarms, rcd, sti, acl, twn, regs, out. -/
theorem execViewOpen_acts : ∀ x0 x1, ∃ t, execViewOpen x0 x1 = .next t ∧ Acts 584116126080 x1 t := by
  intro x0 x1
  unfold execViewOpen
  refine ⟨_, rfl, ?_⟩
  refine State.commandWrite_acts ?_ ?_ rfl
  · exact .refl _
  · intro _
    refine .step ?_ (State.openView_acts ..) rfl
    exact .refl _

/-- Changes alarms, rcd, sti, acl, twn, regs, out. -/
theorem execViewClose_acts : ∀ x0 x1, ∃ t, execViewClose x0 x1 = .next t ∧ Acts 584116126080 x1 t := by
  intro x0 x1
  unfold execViewClose
  refine ⟨_, rfl, ?_⟩
  refine State.commandWrite_acts ?_ ?_ rfl
  · exact .refl _
  · intro _
    refine .step ?_ (State.closeView_acts ..) rfl
    exact .refl _

/-- Changes alarms, rcd, intc, sti, acl, tim, twn, regs, out. -/
theorem execWindowRead_acts : ∀ x0 x1 x2, ∃ t, execWindowRead x0 x1 x2 = .next t ∧ Acts 584116193664 x2 t := by
  intro x0 x1 x2
  unfold execWindowRead
  refine ⟨_, rfl, ?_⟩
  refine .step ?_ (State.complete_acts ..) rfl
  refine .step ?_ (State.busRead_acts ..) rfl
  exact .refl _

/-- Changes alarms, rcd, tim, regs, out, elapsed, working. -/
theorem execFabricTimeout_acts : ∀ x0 x1 x2, ∃ t, execFabricTimeout x0 x1 x2 = .next t ∧ Acts 6755983556673920 x2 t := by
  intro x0 x1 x2
  unfold execFabricTimeout
  refine ⟨_, rfl, ?_⟩
  refine .step ?_ (State.complete_acts ..) rfl
  refine .step ?_ (State.raise_acts ..) rfl
  refine .step ?_ (State.reachEl_acts ..) rfl
  exact .refl _

end Sys2Proof.Machine
end

