-- ==== Sys2Proof/Laws/ActsCycle.lean ====
section
/-! SUPPORT. What the operations of the register service, the host port, the freeze, the S-die and the pour may change: one lemma each. -/
namespace Sys2Proof.Machine

/-! Service.lean -/

/-- Changes alarms, rcd, intc, sti, acl, tim, twn, regs. -/
theorem State.serveReads_acts : ∀ n s m a, Acts 34360379776 s (State.serveReads n s m a).1 := by
  intro n
  induction n with
  | zero => exact fun s _ _ => Acts.refl s
  | succ n ih =>
    intro s m a
    unfold State.serveReads
    dsimp only
    split
    · exact ((State.busRead_acts ..).mono rfl).step (ih ..) rfl
    · exact (State.busRead_acts ..).mono rfl

/-- Changes ord, alarms, rcd, ann, intc, apps, sti, acl, tim, agr, twn, gns, slv, fch, net, can, flashCmd, regs, appm, out. -/
theorem State.serveWrites_acts : ∀ l s m a, Acts 673648078272 s (State.serveWrites l s m a).1 := by
  intro l
  induction l with
  | nil => exact fun s _ _ => Acts.refl s
  | cons w l ih =>
    intro s m a
    unfold State.serveWrites
    dsimp only
    split
    · exact ((State.busWrite_acts ..).mono rfl).step (ih ..) rfl
    · exact (State.busWrite_acts ..).mono rfl

/-- Changes ord, alarms, rcd, ann, intc, apps, sti, acl, tim, agr, twn, gns, slv, fch, net, can, flashCmd, regs, appm, out. -/
theorem State.serve_acts : ∀ x0 x1 x2 x3 x4 x5 x6, Acts 673648078272 x0 (State.serve x0 x1 x2 x3 x4 x5 x6).1 := by
  intro x0 x1 x2 x3 x4 x5 x6
  unfold State.serve
  refine .iteP (fun _ => ?_) fun _ => ?_
  · refine .pair ?_
    refine .step ?_ (State.serveReads_acts ..) rfl
    exact .refl _
  · refine .pair ?_
    refine .step ?_ (State.serveWrites_acts ..) rfl
    exact .refl _

/-- Changes ord, alarms, rcd, ann, intc, apps, sti, acl, tim, agr, twn, gns, slv, fch, net, can, flashCmd, regs, appm, out. -/
theorem State.serviceNew_acts : ∀ x0 x1 x2, Acts 673648078272 x0 (State.serviceNew x0 x1 x2) := by
  intro x0 x1 x2
  unfold State.serviceNew
  refine .step ?_ (State.udpSend_acts ..) rfl
  refine .upd_net ?_ rfl
  refine .iteP (fun _ => ?_) fun _ => ?_
  · refine .pair ?_
    exact .refl _
  · refine .iteP (fun _ => ?_) fun _ => ?_
    · refine .pair ?_
      exact .refl _
    · refine .step ?_ (State.serve_acts ..) rfl
      exact .refl _

/-- Changes ord, alarms, rcd, ann, intc, apps, sti, acl, tim, agr, twn, gns, slv, fch, net, can, flashCmd, regs, appm, out, elapsed, working. -/
theorem State.service_acts : ∀ x0 x1 x2, Acts 6756073089134016 x0 (State.service x0 x1 x2) := by
  intro x0 x1 x2
  unfold State.service
  refine .ite (fun _ => ?_) fun _ => ?_
  · exact .refl _
  · try dsimp only
    split
    · refine .ite (fun _ => ?_) fun _ => ?_
      · refine .step ?_ (State.udpSend_acts ..) rfl
        refine .step ?_ (State.reach_acts ..) rfl
        exact .refl _
      · refine .step ?_ (State.serviceNew_acts ..) rfl
        refine .step ?_ (State.reach_acts ..) rfl
        exact .refl _
    · refine .step ?_ (State.serviceNew_acts ..) rfl
      refine .step ?_ (State.reach_acts ..) rfl
      exact .refl _

/-- Changes ord, alarms, rcd, ann, intc, apps, sti, acl, tim, agr, twn, gns, slv, fch, net, can, flashCmd, regs, appm, out, elapsed, working. -/
theorem execServiceRead_acts : ∀ x0 x1, ∃ t, execServiceRead x0 x1 = .next t ∧ Acts 6756073089134016 x1 t := by
  intro x0 x1
  unfold execServiceRead
  refine ⟨_, rfl, ?_⟩
  refine .step ?_ (State.service_acts ..) rfl
  exact .refl _

/-- Changes ord, alarms, rcd, ann, intc, apps, sti, acl, tim, agr, twn, gns, slv, fch, net, can, flashCmd, regs, appm, out, elapsed, working. -/
theorem execServiceWrite_acts : ∀ x0 x1, ∃ t, execServiceWrite x0 x1 = .next t ∧ Acts 6756073089134016 x1 t := by
  intro x0 x1
  unfold execServiceWrite
  refine ⟨_, rfl, ?_⟩
  refine .step ?_ (State.service_acts ..) rfl
  exact .refl _

/-! Eloaset.lean -/

/-- Changes alarms, rcd, elk, regs. -/
theorem State.noteDegraded_acts : ∀ x0 x1 x2, Acts 42949673344 x0 (State.noteDegraded x0 x1 x2) := by
  intro x0 x1 x2
  unfold State.noteDegraded
  refine .ite (fun _ => ?_) fun _ => ?_
  · refine .step ?_ (State.raise_acts ..) rfl
    refine .step ?_ (State.event_acts ..) rfl
    refine .upd_elk ?_ rfl
    exact .refl _
  · refine .ite (fun _ => ?_) fun _ => ?_
    · exact .refl _
    · refine .upd_elk ?_ rfl
      exact .refl _

/-- Changes alarms, rcd, elk, regs. -/
theorem State.dropPublication_acts : ∀ x0 x1, Acts 42949673344 x0 (State.dropPublication x0 x1) := by
  intro x0 x1
  unfold State.dropPublication
  refine .step ?_ (State.minuteAlarm_acts ..) rfl
  refine .step ?_ (State.event_acts ..) rfl
  refine .ite (fun _ => ?_) fun _ => ?_
  · refine .step ?_ (State.bump_acts ..) rfl
    exact .refl _
  · refine .upd_elk ?_ rfl
    exact .refl _

/-- Changes alarms, rcd, elk, regs. -/
theorem State.takePublication_acts : ∀ x0 x1, Acts 42949673344 x0 (State.takePublication x0 x1) := by
  intro x0 x1
  unfold State.takePublication
  refine .ite (fun _ => ?_) fun _ => ?_
  · exact .refl _
  · refine .ite (fun _ => ?_) fun _ => ?_
    · refine .step ?_ (State.dropPublication_acts ..) rfl
      exact .refl _
    · refine .ite (fun _ => ?_) fun _ => ?_
      · refine .step ?_ (State.dropPublication_acts ..) rfl
        exact .refl _
      · refine .step ?_ (State.noteDegraded_acts ..) rfl
        refine .upd_elk ?_ rfl
        exact .refl _

/-- Changes alarms, rcd, net, elk, regs, out. -/
theorem State.takeSub_acts : ∀ x0 x1, Acts 593779229056 x0 (State.takeSub x0 x1) := by
  intro x0 x1
  unfold State.takeSub
  refine .ite (fun _ => ?_) fun _ => ?_
  · refine .step ?_ (State.sendOwn_acts ..) rfl
    refine .step ?_ (State.showTable_acts ..) rfl
    refine .upd_elk ?_ rfl
    exact .refl _
  · refine .step ?_ (State.sendOwn_acts ..) rfl
    exact .refl _

/-- Changes alarms, rcd, elk, regs. -/
theorem State.takeSubAck_acts : ∀ x0 x1 x2, Acts 42949673344 x0 (State.takeSubAck x0 x1 x2) := by
  intro x0 x1 x2
  unfold State.takeSubAck
  refine .ite (fun _ => ?_) fun _ => ?_
  · exact .refl _
  · refine .ite (fun _ => ?_) fun _ => ?_
    · refine .ite (fun _ => ?_) fun _ => ?_
      · refine .step ?_ (State.causeGone_acts ..) rfl
        refine .step ?_ (State.setFlag_acts ..) rfl
        refine .step ?_ (State.setFlag_acts ..) rfl
        refine .upd_elk ?_ rfl
        exact .refl _
      · refine .step ?_ (State.setFlag_acts ..) rfl
        refine .step ?_ (State.setFlag_acts ..) rfl
        refine .upd_elk ?_ rfl
        exact .refl _
    · refine .step ?_ (State.raise_acts ..) rfl
      refine .step ?_ (State.event_acts ..) rfl
      refine .step ?_ (State.setFlag_acts ..) rfl
      exact .refl _

/-- Changes ord, alarms, rcd, ann, intc, apps, sti, acl, tim, agr, twn, gns, slv, fch, net, can, elk, flashCmd, regs, appm, out. -/
theorem State.takeSvcReq_acts : ∀ x0 x1 x2, Acts 682238012864 x0 (State.takeSvcReq x0 x1 x2) := by
  intro x0 x1 x2
  unfold State.takeSvcReq
  refine .ite (fun _ => ?_) fun _ => ?_
  · exact .refl _
  · refine .step ?_ (State.sendOwn_acts ..) rfl
    refine .iteP (fun _ => ?_) fun _ => ?_
    · refine .step ?_ (State.serve_acts ..) rfl
      exact .refl _
    · refine .pair ?_
      exact .refl _

/-- Changes ord, alarms, rcd, ann, intc, apps, sti, acl, tim, agr, twn, gns, slv, fch, net, can, elk, flashCmd, regs, appm, out. -/
theorem State.consume_acts : ∀ x0 x1, Acts 682238012864 x0 (State.consume x0 x1) := by
  intro x0 x1
  unfold State.consume
  refine .ite (fun _ => ?_) fun _ => ?_
  · refine .step ?_ (State.takePublication_acts ..) rfl
    exact .refl _
  · refine .ite (fun _ => ?_) fun _ => ?_
    · refine .step ?_ (State.takeSub_acts ..) rfl
      exact .refl _
    · refine .ite (fun _ => ?_) fun _ => ?_
      · refine .step ?_ (State.takeSubAck_acts ..) rfl
        exact .refl _
      · refine .ite (fun _ => ?_) fun _ => ?_
        · refine .step ?_ (State.takeSvcReq_acts ..) rfl
          exact .refl _
        · exact .refl _

/-- Changes ord, alarms, rcd, ann, intc, apps, sti, acl, tim, agr, twn, gns, slv, fch, net, can, elk, flashCmd, regs, appm, out. -/
theorem State.takePacket_acts : ∀ x0 x1 x2, Acts 682238012864 x0 (State.takePacket x0 x1 x2) := by
  intro x0 x1 x2
  unfold State.takePacket
  refine .ite (fun _ => ?_) fun _ => ?_
  · refine .step ?_ (State.consume_acts ..) rfl
    exact .refl _
  · refine .step ?_ (State.forward_acts ..) rfl
    exact .refl _

/-- Changes ord, alarms, rcd, ann, intc, apps, sti, acl, tim, agr, twn, gns, slv, fch, net, can, elk, flashCmd, regs, appm, out. -/
theorem State.takeFrame_acts : ∀ x0 x1 x2 x3, Acts 682238012864 x0 (State.takeFrame x0 x1 x2 x3) := by
  intro x0 x1 x2 x3
  unfold State.takeFrame
  refine .ite (fun _ => ?_) fun _ => ?_
  · refine .step ?_ (State.elkPush_acts ..) rfl
    refine .step ?_ (State.takePacket_acts ..) rfl
    refine .step ?_ (State.bump_acts ..) rfl
    refine .step ?_ (State.setElkPort_acts ..) rfl
    refine .step ?_ (State.setElkPort_acts ..) rfl
    exact .refl _
  · refine .step ?_ (State.elkPush_acts ..) rfl
    refine .step ?_ (State.setElkPort_acts ..) rfl
    exact .refl _

/-- Changes alarms, rcd, elk, regs. -/
theorem State.frameBroken_acts : ∀ x0 x1, Acts 42949673344 x0 (State.frameBroken x0 x1) := by
  intro x0 x1
  unfold State.frameBroken
  refine .ite (fun _ => ?_) fun _ => ?_
  · refine .step ?_ (State.losePort_acts ..) rfl
    refine .step ?_ (State.setElkPort_acts ..) rfl
    refine .step ?_ (State.bump_acts ..) rfl
    exact .refl _
  · refine .step ?_ (State.setElkPort_acts ..) rfl
    refine .step ?_ (State.bump_acts ..) rfl
    exact .refl _

/-- Changes ord, alarms, rcd, ann, intc, apps, sti, acl, tim, agr, twn, gns, slv, fch, net, can, elk, flashCmd, regs, appm, out. -/
theorem execElkPacket_acts : ∀ x0 x1 x2 x3, ∃ t, execElkPacket x0 x1 x2 x3 = .next t ∧ Acts 682238012864 x3 t := by
  intro x0 x1 x2 x3
  unfold execElkPacket
  refine ⟨_, rfl, ?_⟩
  refine .ite (fun _ => ?_) fun _ => ?_
  · exact .refl _
  · refine .ite (fun _ => ?_) fun _ => ?_
    · refine .step ?_ (State.frameBroken_acts ..) rfl
      exact .refl _
    · refine .step ?_ (State.takeFrame_acts ..) rfl
      exact .refl _

/-- Changes ord, alarms, rcd, ann, intc, apps, sti, acl, tim, agr, twn, gns, slv, fch, net, can, elk, flashCmd, regs, appm, out. -/
theorem execElkUdpDatagram_acts : ∀ x0 x1 x2 x3 x4, ∃ t, execElkUdpDatagram x0 x1 x2 x3 x4 = .next t ∧ Acts 682238012864 x4 t := by
  intro x0 x1 x2 x3 x4
  unfold execElkUdpDatagram
  refine ⟨_, rfl, ?_⟩
  refine .ite (fun _ => ?_) fun _ => ?_
  · exact .refl _
  · refine .ite (fun _ => ?_) fun _ => ?_
    · refine .step ?_ (State.bump_acts ..) rfl
      exact .refl _
    · refine .step ?_ (State.takePacket_acts ..) rfl
      refine .step ?_ (State.bump_acts ..) rfl
      refine .upd_elk ?_ rfl
      exact .refl _

/-! Freeze.lean -/

/-- Changes pins, regs. -/
theorem State.releaseSafe_acts : ∀ x0, Acts 34359869440 x0 (State.releaseSafe x0) := by
  intro x0
  unfold State.releaseSafe
  refine .step ?_ (State.setFld_acts ..) rfl
  refine .step ?_ (State.setFlag_acts ..) rfl
  refine .upd_pins ?_ rfl
  exact .refl _

/-- Changes dev, alarms, rcd, ctl, alc, regs, devSt. -/
theorem State.refusedAtStep12_acts : ∀ x0 x1, Acts 4432506913184 x0 (State.refusedAtStep12 x0 x1) := by
  intro x0 x1
  unfold State.refusedAtStep12
  refine .step ?_ (State.inSafeState_acts ..) rfl
  refine .ite (fun _ => ?_) fun _ => ?_
  · refine .step ?_ (State.setFld_acts ..) rfl
    exact .refl _
  · refine .step ?_ (State.raise_acts ..) rfl
    refine .step ?_ (State.event_acts ..) rfl
    refine .step ?_ (State.setFlag_acts ..) rfl
    refine .step ?_ (State.setFld_acts ..) rfl
    refine .step ?_ (State.setFld_acts ..) rfl
    exact .refl _

/-- Changes dev, alarms, rcd, mram, pins, twn, saf, ctl, alc, fch, regs, out, devSt, ladle, lease, brakes. -/
theorem State.hotRestart_acts : ∀ x0, Acts 1764201137308576 x0 (State.hotRestart x0) := by
  intro x0
  unfold State.hotRestart
  refine .ite (fun _ => ?_) fun _ => ?_
  · refine .ite (fun _ => ?_) fun _ => ?_
    · refine .step ?_ (State.raise_acts ..) rfl
      refine .step ?_ (State.enterSafe_acts ..) rfl
      refine .step ?_ (State.setFlag_acts ..) rfl
      exact .refl _
    · refine .upd_mram ?_ rfl rfl rfl rfl (.inr rfl)
      exact .refl _
  · exact .refl _

/-- Changes dev, alarms, rcd, mram, pins, twn, saf, gns, ctl, alc, fch, regs, out, devSt, devMode, devAim, ladle, lease, brakes. -/
theorem State.enterArmed_acts : ∀ x0, Acts 1808181610808224 x0 (State.enterArmed x0) := by
  intro x0
  unfold State.enterArmed
  refine .step ?_ (State.hotRestart_acts ..) rfl
  refine .step ?_ (State.gnsPowerUp_acts ..) rfl
  refine .step ?_ (State.setFld_acts ..) rfl
  refine .step ?_ (State.setFld_acts ..) rfl
  refine .upd_dev ?_ rfl (.inl rfl) (.inl rfl) (.inr rfl) (.inl rfl)
  refine .step ?_ (State.releaseSafe_acts ..) rfl
  exact .refl _

/-- Changes boot, dev, alarms, rcd, mram, pins, twn, saf, hlt, thm, gns, fus, ctl, alc, fch, regs, out, devSt, devMode, devAim, ladle, recNext, lease,
brakes. -/
theorem State.firstFreeze_acts : ∀ x0, Acts 2089656610587560 x0 (State.firstFreeze x0) := by
  intro x0
  unfold State.firstFreeze
  try dsimp only
  split
  · refine .step ?_ (State.refusedAtStep12_acts ..) rfl
    refine .ite (fun _ => ?_) fun _ => ?_
    · refine .step ?_ (State.clearSlag_acts ..) rfl
      refine .step ?_ (State.setFlag_acts ..) rfl
      refine .step ?_ (State.calibrate_acts ..) rfl
      refine .upd_boot_dev_rcd_twn ?_ rfl rfl (.inr rfl) (.inr rfl) (.inr rfl) (.inr rfl) (.inr rfl) (.inr rfl)
      exact .refl _
    · refine .step ?_ (State.calibrate_acts ..) rfl
      refine .upd_boot_dev_rcd_twn ?_ rfl rfl (.inr rfl) (.inr rfl) (.inr rfl) (.inr rfl) (.inr rfl) (.inr rfl)
      exact .refl _
  · refine .step ?_ (State.enterArmed_acts ..) rfl
    refine .ite (fun _ => ?_) fun _ => ?_
    · refine .step ?_ (State.clearSlag_acts ..) rfl
      refine .step ?_ (State.setFlag_acts ..) rfl
      refine .step ?_ (State.calibrate_acts ..) rfl
      refine .upd_boot_dev_rcd_twn ?_ rfl rfl (.inr rfl) (.inr rfl) (.inr rfl) (.inr rfl) (.inr rfl) (.inr rfl)
      exact .refl _
    · refine .step ?_ (State.calibrate_acts ..) rfl
      refine .upd_boot_dev_rcd_twn ?_ rfl rfl (.inr rfl) (.inr rfl) (.inr rfl) (.inr rfl) (.inr rfl) (.inr rfl)
      exact .refl _

/-- Changes dev, tim, agr, twn, ctl, alc, devEpoch, elapsed, working. -/
theorem State.openCycle_acts : ∀ x0, Acts 6772991728615456 x0 (State.openCycle x0) := by
  intro x0
  unfold State.openCycle
  refine .upd_dev_tim_agr_twn ?_ rfl (.inr rfl) (.inr rfl) (.inl rfl) (.inr rfl) (.inr rfl) (.inr rfl) (.inr rfl)
  refine .upd_ctl_alc ?_ rfl rfl
  refine .step ?_ (State.reach_acts ..) rfl
  exact .refl _

/-- Changes alarms, rcd, twn, regs. -/
theorem State.joinNow_acts : ∀ x0, Acts 34360263040 x0 (State.joinNow x0) := by
  intro x0
  unfold State.joinNow
  split
  · refine .ite (fun _ => ?_) fun _ => ?_
    · refine .ite (fun _ => ?_) fun _ => ?_
      · refine .step ?_ (State.causeGone_acts ..) rfl
        refine .step ?_ (State.raise_acts ..) rfl
        refine .step ?_ (State.event_acts ..) rfl
        refine .step ?_ (State.setFlag_acts ..) rfl
        refine .upd_twn ?_ rfl (.inr rfl)
        refine .step ?_ (State.causeGone_acts ..) rfl
        refine .step ?_ (State.setFlag_acts ..) rfl
        refine .upd_twn ?_ rfl (.inr rfl)
        exact .refl _
      · refine .step ?_ (State.causeGone_acts ..) rfl
        refine .step ?_ (State.setFlag_acts ..) rfl
        refine .upd_twn ?_ rfl (.inr rfl)
        exact .refl _
    · refine .upd_twn ?_ rfl (.inr rfl)
      exact .refl _
  · exact .refl _

/-- Changes dev, regs. -/
theorem State.soloCondition_acts : ∀ x0, Acts 34359738400 x0 (State.soloCondition x0) := by
  intro x0
  unfold State.soloCondition
  refine .step ?_ (State.setCond_acts ..) rfl
  exact .refl _

/-- Changes dev, ctl, alc, devMode. -/
theorem State.changeMode_acts : ∀ x0 x1, Acts 8796193685536 x0 (State.changeMode x0 x1) := by
  intro x0 x1
  unfold State.changeMode
  refine .ite (fun _ => ?_) fun _ => ?_
  · refine .upd_dev ?_ rfl (.inr rfl) (.inl rfl) (.inr rfl) (.inr rfl)
    exact .refl _
  · refine .step ?_ (State.allocationNewMode_acts ..) rfl
    refine .step ?_ (State.controlNewMode_acts ..) rfl
    refine .upd_dev ?_ rfl (.inr rfl) (.inl rfl) (.inr rfl) (.inr rfl)
    exact .refl _

/-- Changes dev, ctl, alc, devMode. -/
theorem State.orderedMode_acts : ∀ x0, Acts 8796193685536 x0 (State.orderedMode x0) := by
  intro x0
  unfold State.orderedMode
  split
  · refine .ite (fun _ => ?_) fun _ => ?_
    · refine .step ?_ (State.changeMode_acts ..) rfl
      refine .upd_dev ?_ rfl (.inr rfl) (.inr rfl) (.inr rfl) (.inr rfl)
      exact .refl _
    · exact .refl _
  · exact .refl _

/-- Changes dev, ctl, alc, devMode. -/
theorem State.modeFreeze_acts : ∀ x0, Acts 8796193685536 x0 (State.modeFreeze x0) := by
  intro x0
  unfold State.modeFreeze
  split
  · refine .ite (fun _ => ?_) fun _ => ?_
    · refine .step ?_ (State.changeMode_acts ..) rfl
      refine .upd_dev_ctl ?_ rfl rfl (.inr rfl) (.inr rfl) (.inr rfl) (.inr rfl)
      exact .refl _
    · refine .step ?_ (State.orderedMode_acts ..) rfl
      exact .refl _
  · refine .step ?_ (State.orderedMode_acts ..) rfl
    exact .refl _

/-- Changes pat, ord. -/
theorem State.tuneFreeze_acts : ∀ x0, Acts 80 x0 (State.tuneFreeze x0) := by
  intro x0
  unfold State.tuneFreeze
  refine .upd_pat_ord ?_ rfl
  exact .refl _

/-- Changes dev, devMode. -/
theorem State.schedule_acts : ∀ x0, Acts 8796093022240 x0 (State.schedule x0) := by
  intro x0
  unfold State.schedule
  refine .upd_dev ?_ rfl (.inr rfl) (.inl rfl) (.inr rfl) (.inr rfl)
  exact .refl _

/-- Changes saf, regs, brakes. -/
theorem State.brakeTestFreeze_acts : ∀ x0, Acts 1125934267629568 x0 (State.brakeTestFreeze x0) := by
  intro x0
  unfold State.brakeTestFreeze
  try dsimp only
  split
  · refine .ite (fun _ => ?_) fun _ => ?_
    · refine .ite (fun _ => ?_) fun _ => ?_
      · refine .step ?_ (State.startSwitchTest_acts ..) rfl
        refine .step ?_ (State.showBrake_acts ..) rfl
        refine .step ?_ (State.setFlag_acts ..) rfl
        refine .upd_saf ?_ rfl (.inr rfl) (.inr rfl)
        exact .refl _
      · refine .step ?_ (State.showBrake_acts ..) rfl
        refine .step ?_ (State.setFlag_acts ..) rfl
        refine .upd_saf ?_ rfl (.inr rfl) (.inr rfl)
        exact .refl _
    · refine .ite (fun _ => ?_) fun _ => ?_
      · refine .step ?_ (State.startSwitchTest_acts ..) rfl
        exact .refl _
      · exact .refl _
  · exact .refl _

/-- Changes rcd. -/
theorem State.anchorFreeze_acts : ∀ x0, Acts 256 x0 (State.anchorFreeze x0) := by
  intro x0
  unfold State.anchorFreeze
  refine .ite (fun _ => ?_) fun _ => ?_
  · refine .upd_rcd ?_ rfl rfl (.inr rfl)
    exact .refl _
  · exact .refl _

/-- Changes agr, twn, out. -/
theorem State.statusItems_acts : ∀ x0, Acts 549756600320 x0 (State.statusItems x0) := by
  intro x0
  unfold State.statusItems
  refine .step ?_ (State.ownItem_acts ..) rfl
  refine .step ?_ (State.ownItem_acts ..) rfl
  refine .upd_twn ?_ rfl (.inr rfl)
  exact .refl _

/-- Changes fus, ctl, alc. -/
theorem State.freshFreeze_acts : ∀ x0, Acts 117440512 x0 (State.freshFreeze x0) := by
  intro x0
  unfold State.freshFreeze
  refine .upd_ctl_alc ?_ rfl rfl
  refine .step ?_ (State.allocationNewMode_acts ..) rfl
  refine .step ?_ (State.fusionStart_acts ..) rfl
  exact .refl _

/-- Changes dev, alarms, rcd, fus, ctl, alc, regs. -/
theorem State.fullFreeze_acts : ∀ x0, Acts 34477179296 x0 (State.fullFreeze x0) := by
  intro x0
  unfold State.fullFreeze
  refine .step ?_ (State.injectionFreeze_acts ..) rfl
  refine .step ?_ (State.fusionFreeze_acts ..) rfl
  refine .when ?_ ?_
  · exact .refl _
  · intro _
    refine .step ?_ (State.freshFreeze_acts ..) rfl
    exact .refl _

/-- Changes pat, dev, ord, alarms, rcd, mram, sti, pins, agr, twn, saf, hlt, gns, fus, ctl, alc, slv, fch, can, regs, out, devSt, devMode, ladle,
recNext, lease, brakes. -/
theorem State.freezeWork_acts : ∀ x0 x1 x2, Acts 2054474516284400 x0 (State.freezeWork x0 x1 x2) := by
  intro x0 x1 x2
  unfold State.freezeWork
  refine .step ?_ (State.breakViews_acts ..) rfl
  refine .step ?_ (State.anchorFreeze_acts ..) rfl
  refine .step ?_ (State.statusItems_acts ..) rfl
  refine .step ?_ (State.brakeTestFreeze_acts ..) rfl
  refine .step ?_ (State.canFreeze_acts ..) rfl
  refine .step ?_ (State.fieldFreeze_acts ..) rfl
  refine .when ?_ ?_
  · refine .step ?_ (State.availabilityFreeze_acts ..) rfl
    refine .step ?_ (State.gnssFreeze_acts ..) rfl
    refine .step ?_ (State.sparesFreeze_acts ..) rfl
    refine .step ?_ (State.bankSwitchNow_acts ..) rfl
    refine .step ?_ (State.lanesFreeze_acts ..) rfl
    refine .step ?_ (State.schedule_acts ..) rfl
    refine .step ?_ (State.tuneFreeze_acts ..) rfl
    refine .step ?_ (State.modeFreeze_acts ..) rfl
    refine .step ?_ (State.soloCondition_acts ..) rfl
    refine .step ?_ (State.joinNow_acts ..) rfl
    refine .ite (fun _ => ?_) fun _ => ?_
    · refine .step ?_ (State.enterSafe_acts ..) rfl
      exact .refl _
    · exact .refl _
  · intro _
    refine .step ?_ (State.fullFreeze_acts ..) rfl
    exact .refl _

/-- Changes all but serial, devKey, clk, ann, intc, hst, apps, acl, loops, net, spt, elk, flashCmd, appm, flash, xchg, freeCtr, pending, opTime. -/
theorem execCycleFreeze_acts : ∀ x0 x1, ∃ t, execCycleFreeze x0 x1 = .next t ∧ Acts 8862650519733240 x1 t := by
  intro x0 x1
  unfold execCycleFreeze
  refine ⟨_, rfl, ?_⟩
  refine .ite (fun _ => ?_) fun _ => ?_
  · refine .step ?_ (State.freezeWork_acts ..) rfl
    refine .ite (fun _ => ?_) fun _ => ?_
    · refine .step ?_ (State.firstFreeze_acts ..) rfl
      refine .step ?_ (State.openCycle_acts ..) rfl
      exact .refl _
    · refine .step ?_ (State.openCycle_acts ..) rfl
      exact .refl _
  · exact .refl _

/-! HostPort.lean -/

/-- Changes alarms, rcd, hst, regs. -/
theorem State.hostWriteFails_acts (s : State) (a n : Nat) : Acts 34359742848 s (s.hostWriteFails a n) := by
  unfold State.hostWriteFails
  refine Acts.step ?_ (State.raise_acts ..) rfl
  refine Acts.step ?_ (State.event_acts ..) rfl
  refine Acts.step ?_ (State.setReg_acts ..) rfl
  refine Acts.step ?_ (State.setFlag_acts ..) rfl
  exact ⟨fun p hp => by cases p <;> first | rfl | exact absurd hp (by decide),
    fun k => ⟨k.canonical, k.alarms, k.queue, k.used, Nat.le_trans (List.length_filter_le ..) k.buffer⟩⟩

/-- Changes ord, alarms, rcd, ann, intc, hst, apps, sti, acl, tim, agr, twn, gns, slv, fch, net, can, flashCmd, regs, appm, out. -/
theorem State.performWrite_acts (s : State) : Acts 673648082368 s s.performWrite := by
  unfold State.performWrite
  split
  · exact Acts.refl s
  · rename_i a w n r hb
    have hd : Acts 673648082368 s { s with hst := { s.hst with buffer := r } } :=
      ⟨fun p hp => by cases p <;> first | rfl | exact absurd hp (by decide), fun k => ⟨k.canonical, k.alarms, k.queue, k.used, by
        have := k.buffer
        rw [hb] at this
        exact Nat.le_of_succ_le this⟩⟩
    have ht := hd.step (State.busWrite_acts _ mHost a w) rfl
    exact Acts.ite (fun _ => ht) (fun _ => ht.step (State.hostWriteFails_acts ..) rfl)

/-- Changes ord, alarms, rcd, ann, intc, hst, apps, sti, acl, tim, agr, twn, gns, slv, fch, net, can, flashCmd, regs, appm, out. -/
theorem State.drainWrites_acts : ∀ n s, Acts 673648082368 s (State.drainWrites n s) := by
  intro n
  induction n with
  | zero => exact Acts.refl
  | succ n ih =>
    intro s
    exact ((State.performWrite_acts s).mono rfl).step (ih _) rfl

/-- Changes alarms, rcd, hst, regs. -/
theorem State.takeWrite_acts (s : State) (a : Nat) (ws : List Word) (cut : Bool) : Acts 34359742848 s (s.takeWrite a ws cut) := by
  unfold State.takeWrite
  extract_lets src t
  have ht : Acts 34359742848 s t := by
    refine Acts.ite (fun _ => ?_) (fun hl => ?_)
    · exact (((State.setFlag_acts ..).mono rfl).step (State.event_acts ..) rfl).step (State.raise_acts ..) rfl
    · refine ⟨fun p hp => by cases p <;> first | rfl | exact absurd hp (by decide), fun k => ⟨k.canonical, k.alarms, k.queue, k.used, ?_⟩⟩
      show (s.hst.buffer ++ bufferWords a s.hst.nextCommand ws).length ≤ 512
      have hw : (bufferWords a s.hst.nextCommand ws).length = ws.length := List.length_mapIdx
      rw [List.length_append, hw]
      omega
  clear_value t
  exact Acts.ite (fun _ => ((ht.step (State.setFlag_acts ..) rfl).step (State.event_acts ..) rfl).step (State.raise_acts ..) rfl) (fun _ => ht)

/-- Changes alarms, rcd, intc, sti, acl, tim, twn, regs. -/
theorem State.hostWords_acts : ∀ n s a, Acts 34360379776 s (State.hostWords n s a).1 := by
  intro n
  induction n with
  | zero => exact fun s _ => Acts.refl s
  | succ n ih =>
    intro s a
    unfold State.hostWords
    dsimp only
    split
    · exact ((State.busRead_acts ..).mono rfl).step (ih ..) rfl
    · exact (State.busRead_acts ..).mono rfl

/-- Changes ord, alarms, rcd, ann, intc, hst, apps, sti, acl, tim, agr, twn, gns, slv, fch, net, can, flashCmd, regs, appm, out. -/
theorem State.hostReads_acts : ∀ x0 x1 x2, Acts 673648082368 x0 (State.hostReads x0 x1 x2) := by
  intro x0 x1 x2
  unfold State.hostReads
  refine .step ?_ (State.send_acts ..) rfl
  refine .step ?_ (State.hostWords_acts ..) rfl
  refine .step ?_ (State.drainWrites_acts ..) rfl
  exact .refl _

/-- Changes ord, alarms, rcd, ann, intc, hst, apps, sti, acl, tim, agr, twn, gns, slv, fch, net, can, flashCmd, regs, appm, out. -/
theorem execHostRead_acts : ∀ x0 x1 x2, ∃ t, execHostRead x0 x1 x2 = .next t ∧ Acts 673648082368 x2 t := by
  intro x0 x1 x2
  unfold execHostRead
  refine ⟨_, rfl, ?_⟩
  refine .ite (fun _ => ?_) fun _ => ?_
  · refine .step ?_ (State.hostReads_acts ..) rfl
    exact .refl _
  · exact .refl _

/-- Changes ord, alarms, rcd, ann, intc, hst, apps, sti, acl, tim, agr, twn, gns, slv, fch, net, can, flashCmd, regs, appm, out. -/
theorem execHostQuadRead_acts : ∀ x0 x1 x2, ∃ t, execHostQuadRead x0 x1 x2 = .next t ∧ Acts 673648082368 x2 t := by
  intro x0 x1 x2
  unfold execHostQuadRead
  refine ⟨_, rfl, ?_⟩
  refine .ite (fun _ => ?_) fun _ => ?_
  · refine .step ?_ (State.hostReads_acts ..) rfl
    exact .refl _
  · exact .refl _

/-- Changes alarms, rcd, intc, hst, regs. -/
theorem execHostWrite_acts : ∀ x0 x1 x2 x3, ∃ t, execHostWrite x0 x1 x2 x3 = .next t ∧ Acts 34359744896 x3 t := by
  intro x0 x1 x2 x3
  unfold execHostWrite
  refine ⟨_, rfl, ?_⟩
  refine .ite (fun _ => ?_) fun _ => ?_
  · refine .step ?_ (State.settleSources_acts ..) rfl
    refine .step ?_ (State.takeWrite_acts ..) rfl
    exact .refl _
  · exact .refl _

/-- Changes alarms, rcd, intc, hst, regs. -/
theorem execHostQuadWrite_acts : ∀ x0 x1 x2 x3, ∃ t, execHostQuadWrite x0 x1 x2 x3 = .next t ∧ Acts 34359744896 x3 t := by
  intro x0 x1 x2 x3
  unfold execHostQuadWrite
  refine ⟨_, rfl, ?_⟩
  refine .ite (fun _ => ?_) fun _ => ?_
  · refine .step ?_ (State.settleSources_acts ..) rfl
    refine .step ?_ (State.takeWrite_acts ..) rfl
    exact .refl _
  · exact .refl _

/-- Changes out. -/
theorem execHostStatus_acts : ∀ x0, ∃ t, execHostStatus x0 = .next t ∧ Acts 549755813888 x0 t := by
  intro x0
  unfold execHostStatus
  refine ⟨_, rfl, ?_⟩
  refine .ite (fun _ => ?_) fun _ => ?_
  · refine .step ?_ (State.send_acts ..) rfl
    exact .refl _
  · exact .refl _

/-- Changes ord, alarms, rcd, ann, intc, hst, apps, sti, acl, tim, agr, twn, gns, slv, fch, net, can, flashCmd, regs, appm, out. -/
theorem execHostWritePerform_acts : ∀ x0, ∃ t, execHostWritePerform x0 = .next t ∧ Acts 673648082368 x0 t := by
  intro x0
  unfold execHostWritePerform
  refine ⟨_, rfl, ?_⟩
  refine .step ?_ (State.performWrite_acts ..) rfl
  exact .refl _

/-! Hourly.lean -/

/-- Changes rcd, regs. -/
theorem State.refinedRecords_acts : ∀ x0, Acts 34359738624 x0 (State.refinedRecords x0) := by
  intro x0
  unfold State.refinedRecords
  refine .each ?_ ?_
  · exact .refl _
  · intro _ _
    refine .step ?_ (State.record_acts ..) rfl
    exact .refl _

/-- Changes rcd, regs. -/
theorem State.headroomRecords_acts : ∀ x0, Acts 34359738624 x0 (State.headroomRecords x0) := by
  intro x0
  unfold State.headroomRecords
  refine .foldl ?_ ?_
  · exact .refl _
  · intro _ _
    refine .step ?_ (State.record_acts ..) rfl
    exact .refl _

/-- Changes alarms, rcd, mram, hlt, thm, regs. -/
theorem execAnnealMeasurement_acts : ∀ x0 x1 x2, ∃ t, execAnnealMeasurement x0 x1 x2 = .next t ∧ Acts 34366030720 x2 t := by
  intro x0 x1 x2
  unfold execAnnealMeasurement
  refine ⟨_, rfl, ?_⟩
  refine .ite (fun _ => ?_) fun _ => ?_
  · refine .step ?_ (State.headroomRecords_acts ..) rfl
    refine .step ?_ (State.refinedRecords_acts ..) rfl
    refine .upd_rcd ?_ rfl rfl (.inr rfl)
    refine .step ?_ (State.anneal_acts ..) rfl
    exact .refl _
  · exact .refl _

/-! Alarms.lean -/

/-- Changes alarms, rcd, regs. -/
theorem State.settleAlarms_acts : ∀ x0, Acts 34359738752 x0 (State.settleAlarms x0) := by
  intro x0
  unfold State.settleAlarms
  refine .foldl ?_ ?_
  · exact .refl _
  · intro _ _
    refine .step ?_ (State.causeGone_acts ..) rfl
    exact .refl _

/-! SafetyDie.lean -/

/-- Changes dev, alarms, rcd, mram, pins, twn, saf, ctl, alc, fch, regs, out, devSt, ladle, lease, brakes. -/
theorem State.degrade_acts : ∀ x0 x1 x2, Acts 1764201137308576 x0 (State.degrade x0 x1 x2) := by
  intro x0 x1 x2
  unfold State.degrade
  refine .ite (fun _ => ?_) fun _ => ?_
  · refine .step ?_ (State.setBrake_acts ..) rfl
    exact .refl _
  · refine .ite (fun _ => ?_) fun _ => ?_
    · refine .step ?_ (State.raise_acts ..) rfl
      refine .step ?_ (State.setCond_acts ..) rfl
      refine .step ?_ (State.event_acts ..) rfl
      refine .step ?_ (State.showBrake_acts ..) rfl
      refine .step ?_ (State.setBrake_acts ..) rfl
      refine .upd_mram ?_ rfl rfl rfl rfl (.inr rfl)
      refine .step ?_ (State.setBrake_acts ..) rfl
      exact .refl _
    · refine .step ?_ (State.globalSafe_acts ..) rfl
      refine .step ?_ (State.raise_acts ..) rfl
      refine .step ?_ (State.applyBrake_acts ..) rfl
      refine .step ?_ (State.setBrake_acts ..) rfl
      refine .step ?_ (State.setBrake_acts ..) rfl
      exact .refl _

/-- Changes dev, alarms, rcd, mram, pins, twn, saf, ctl, alc, fch, regs, out, devSt, ladle, lease, brakes. -/
theorem State.bothStuck_acts : ∀ x0 x1, Acts 1764201137308576 x0 (State.bothStuck x0 x1) := by
  intro x0 x1
  unfold State.bothStuck
  refine .step ?_ (State.globalSafe_acts ..) rfl
  refine .step ?_ (State.raise_acts ..) rfl
  refine .step ?_ (State.showBrake_acts ..) rfl
  refine .step ?_ (State.setBrake_acts ..) rfl
  exact .refl _

/-- Changes dev, alarms, rcd, mram, saf, regs, brakes. -/
theorem State.goodTest_acts : ∀ x0 x1, Acts 1125934267630496 x0 (State.goodTest x0 x1) := by
  intro x0 x1
  unfold State.goodTest
  refine .ite (fun _ => ?_) fun _ => ?_
  · refine .ite (fun _ => ?_) fun _ => ?_
    · refine .step ?_ (State.showBrake_acts ..) rfl
      refine .step ?_ (State.setBrake_acts ..) rfl
      refine .upd_mram ?_ rfl rfl rfl rfl (.inr rfl)
      refine .step ?_ (State.setBrake_acts ..) rfl
      exact .refl _
    · refine .ite (fun _ => ?_) fun _ => ?_
      · refine .step ?_ (State.causeGone_acts ..) rfl
        refine .step ?_ (State.causeGone_acts ..) rfl
        refine .step ?_ (State.showBrake_acts ..) rfl
        refine .step ?_ (State.setBrake_acts ..) rfl
        refine .upd_mram ?_ rfl rfl rfl rfl (.inr rfl)
        refine .step ?_ (State.setBrake_acts ..) rfl
        exact .refl _
      · refine .step ?_ (State.setCond_acts ..) rfl
        refine .step ?_ (State.causeGone_acts ..) rfl
        refine .step ?_ (State.causeGone_acts ..) rfl
        refine .step ?_ (State.showBrake_acts ..) rfl
        refine .step ?_ (State.setBrake_acts ..) rfl
        refine .upd_mram ?_ rfl rfl rfl rfl (.inr rfl)
        refine .step ?_ (State.setBrake_acts ..) rfl
        exact .refl _
  · refine .step ?_ (State.setBrake_acts ..) rfl
    exact .refl _

/-- Changes tim, saf, brakes, elapsed, working. -/
theorem execSwitchTest_acts : ∀ x0 x1, ∃ t, execSwitchTest x0 x1 = .next t ∧ Acts 7881299349012480 x1 t := by
  intro x0 x1
  unfold execSwitchTest
  refine ⟨_, rfl, ?_⟩
  refine .step ?_ (State.startSwitchTest_acts ..) rfl
  split
  · refine .step ?_ (State.reachEl_acts ..) rfl
    exact .refl _
  · exact .refl _

/-- Changes dev, alarms, rcd, mram, pins, twn, saf, ctl, alc, fch, regs, out, devSt, ladle, lease, brakes. -/
theorem State.reactSwitch_acts : ∀ x0 x1 x2, Acts 1764201137308576 x0 (State.reactSwitch x0 x1 x2) := by
  intro x0 x1 x2
  unfold State.reactSwitch
  try dsimp only
  split
  · refine .ite (fun _ => ?_) fun _ => ?_
    · refine .step ?_ (State.endBrakeTest_acts ..) rfl
      split
      · exact .refl _
      · refine .step ?_ (State.degrade_acts ..) rfl
        exact .refl _
      · refine .step ?_ (State.degrade_acts ..) rfl
        exact .refl _
      · refine .step ?_ (State.brakeFault_acts ..) rfl
        exact .refl _
      · refine .step ?_ (State.brakeFault_acts ..) rfl
        exact .refl _
      · refine .step ?_ (State.bothStuck_acts ..) rfl
        exact .refl _
    · split
      · exact .refl _
      · refine .step ?_ (State.degrade_acts ..) rfl
        exact .refl _
      · refine .step ?_ (State.degrade_acts ..) rfl
        exact .refl _
      · refine .step ?_ (State.brakeFault_acts ..) rfl
        exact .refl _
      · refine .step ?_ (State.brakeFault_acts ..) rfl
        exact .refl _
      · refine .step ?_ (State.bothStuck_acts ..) rfl
        exact .refl _
  · split
    · exact .refl _
    · refine .step ?_ (State.degrade_acts ..) rfl
      exact .refl _
    · refine .step ?_ (State.degrade_acts ..) rfl
      exact .refl _
    · refine .step ?_ (State.brakeFault_acts ..) rfl
      exact .refl _
    · refine .step ?_ (State.brakeFault_acts ..) rfl
      exact .refl _
    · refine .step ?_ (State.bothStuck_acts ..) rfl
      exact .refl _

/-- Changes dev, alarms, rcd, mram, tim, pins, twn, saf, ctl, alc, fch, regs, out, devSt, ladle, lease, brakes, elapsed, working. -/
theorem execSwitchTestStep_acts : ∀ x0 x1 x2 x3, ∃ t, execSwitchTestStep x0 x1 x2 x3 = .next t ∧ Acts 8519600578429856 x3 t := by
  intro x0 x1 x2 x3
  unfold execSwitchTestStep
  refine ⟨_, rfl, ?_⟩
  refine .ite (fun _ => ?_) fun _ => ?_
  · exact .refl _
  · refine .ite (fun _ => ?_) fun _ => ?_
    · refine .ite (fun _ => ?_) fun _ => ?_
      · refine .step ?_ (State.setBrake_acts ..) rfl
        refine .step ?_ (State.reactSwitch_acts ..) rfl
        refine .step ?_ (State.setFld_acts ..) rfl
        refine .step ?_ (State.setFld_acts ..) rfl
        refine .step ?_ (State.reachEl_acts ..) rfl
        exact .refl _
      · refine .step ?_ (State.goodTest_acts ..) rfl
        refine .step ?_ (State.setBrake_acts ..) rfl
        refine .step ?_ (State.reactSwitch_acts ..) rfl
        refine .step ?_ (State.setFld_acts ..) rfl
        refine .step ?_ (State.setFld_acts ..) rfl
        refine .step ?_ (State.reachEl_acts ..) rfl
        exact .refl _
    · refine .step ?_ (State.setBrake_acts ..) rfl
      refine .step ?_ (State.reactSwitch_acts ..) rfl
      refine .step ?_ (State.setFld_acts ..) rfl
      refine .step ?_ (State.setFld_acts ..) rfl
      refine .step ?_ (State.reachEl_acts ..) rfl
      exact .refl _

/-- Changes alarms, rcd, saf, regs, brakes. -/
theorem execBrakeOvercurrent_acts : ∀ x0 x1, ∃ t, execBrakeOvercurrent x0 x1 = .next t ∧ Acts 1125934267629952 x1 t := by
  intro x0 x1
  unfold execBrakeOvercurrent
  refine ⟨_, rfl, ?_⟩
  refine .ite (fun _ => ?_) fun _ => ?_
  · refine .step ?_ (State.brakeFault_acts ..) rfl
    exact .refl _
  · exact .refl _

/-- Changes alarms, rcd, saf, regs, brakes. -/
theorem execBrakeDegradedExpiry_acts : ∀ x0 x1, ∃ t, execBrakeDegradedExpiry x0 x1 = .next t ∧ Acts 1125934267629952 x1 t := by
  intro x0 x1
  unfold execBrakeDegradedExpiry
  refine ⟨_, rfl, ?_⟩
  refine .ite (fun _ => ?_) fun _ => ?_
  · refine .step ?_ (State.raise_acts ..) rfl
    refine .step ?_ (State.applyBrake_acts ..) rfl
    refine .step ?_ (State.setBrake_acts ..) rfl
    exact .refl _
  · exact .refl _

/-- Changes alarms, rcd, mram, tim, saf, regs, brakes, elapsed, working. -/
theorem execBrakeTestPhaseEnd_acts : ∀ x0, ∃ t, execBrakeTestPhaseEnd x0 = .next t ∧ Acts 7881333708751744 x0 t := by
  intro x0
  unfold execBrakeTestPhaseEnd
  refine ⟨_, rfl, ?_⟩
  split
  · exact .refl _
  · refine .ite (fun _ => ?_) fun _ => ?_
    · exact .refl _
    · refine .ite (fun _ => ?_) fun _ => ?_
      · refine .step ?_ (State.endBrakeTest_acts ..) rfl
        refine .step ?_ (State.reachEl_acts ..) rfl
        exact .refl _
      · refine .upd_saf ?_ rfl (.inr rfl) (.inr rfl)
        refine .step ?_ (State.reachEl_acts ..) rfl
        exact .refl _

/-- Changes alarms, rcd, mram, saf, regs, brakes. -/
theorem execBrakeTestMotion_acts : ∀ x0 x1, ∃ t, execBrakeTestMotion x0 x1 = .next t ∧ Acts 1125934267630464 x1 t := by
  intro x0 x1
  unfold execBrakeTestMotion
  refine ⟨_, rfl, ?_⟩
  split
  · exact .refl _
  · refine .ite (fun _ => ?_) fun _ => ?_
    · refine .step ?_ (State.endBrakeTest_acts ..) rfl
      refine .upd_saf ?_ rfl (.inr rfl) (.inr rfl)
      exact .refl _
    · refine .upd_saf ?_ rfl (.inr rfl) (.inr rfl)
      exact .refl _

/-- Changes alarms, rcd, saf, regs, brakes. -/
theorem execBrakeTestDue_acts : ∀ x0 x1, ∃ t, execBrakeTestDue x0 x1 = .next t ∧ Acts 1125934267629952 x1 t := by
  intro x0 x1
  unfold execBrakeTestDue
  refine ⟨_, rfl, ?_⟩
  refine .ite (fun _ => ?_) fun _ => ?_
  · refine .step ?_ (State.raise_acts ..) rfl
    refine .step ?_ (State.setFlag_acts ..) rfl
    refine .step ?_ (State.setBrake_acts ..) rfl
    exact .refl _
  · exact .refl _

/-- Changes saf. -/
theorem State.setPair_acts : ∀ x0 x1 x2, Acts 1048576 x0 (State.setPair x0 x1 x2) := by
  intro x0 x1 x2
  unfold State.setPair
  refine .upd_saf ?_ rfl (.inr rfl) (.inr rfl)
  exact .refl _

/-- Changes regs. -/
theorem State.showPair_acts : ∀ x0 x1, Acts 34359738368 x0 (State.showPair x0 x1) := by
  intro x0 x1
  unfold State.showPair
  refine .step ?_ (State.setFlag_acts ..) rfl
  refine .step ?_ (State.setFlag_acts ..) rfl
  exact .refl _

/-- Changes alarms, rcd, mram, saf, regs, brakes. -/
theorem State.abortIfDemanded_acts : ∀ x0, Acts 1125934267630464 x0 (State.abortIfDemanded x0) := by
  intro x0
  unfold State.abortIfDemanded
  split
  · refine .ite (fun _ => ?_) fun _ => ?_
    · refine .step ?_ (State.endBrakeTest_acts ..) rfl
      exact .refl _
    · exact .refl _
  · exact .refl _

/-- Changes dev, alarms, rcd, mram, pins, twn, saf, ctl, alc, fch, regs, out, devSt, ladle, lease, brakes. -/
theorem State.enterDemand_acts : ∀ x0 x1, Acts 1764201137308576 x0 (State.enterDemand x0 x1) := by
  intro x0 x1
  unfold State.enterDemand
  refine .ite (fun _ => ?_) fun _ => ?_
  · refine .step ?_ (State.globalSafe_acts ..) rfl
    refine .step ?_ (State.settleBrakes_acts ..) rfl
    refine .step ?_ (State.abortIfDemanded_acts ..) rfl
    refine .ite (fun _ => ?_) fun _ => ?_
    · refine .step ?_ (State.event_acts ..) rfl
      refine .step ?_ (State.showPair_acts ..) rfl
      refine .step ?_ (State.setPair_acts ..) rfl
      exact .refl _
    · refine .step ?_ (State.raise_acts ..) rfl
      refine .step ?_ (State.event_acts ..) rfl
      refine .step ?_ (State.showPair_acts ..) rfl
      refine .step ?_ (State.setPair_acts ..) rfl
      exact .refl _
  · refine .step ?_ (State.settleBrakes_acts ..) rfl
    refine .step ?_ (State.abortIfDemanded_acts ..) rfl
    refine .ite (fun _ => ?_) fun _ => ?_
    · refine .step ?_ (State.event_acts ..) rfl
      refine .step ?_ (State.showPair_acts ..) rfl
      refine .step ?_ (State.setPair_acts ..) rfl
      exact .refl _
    · refine .step ?_ (State.raise_acts ..) rfl
      refine .step ?_ (State.event_acts ..) rfl
      refine .step ?_ (State.showPair_acts ..) rfl
      refine .step ?_ (State.setPair_acts ..) rfl
      exact .refl _

/-- Changes saf, regs. -/
theorem State.bothBack_acts : ∀ x0 x1, Acts 34360786944 x0 (State.bothBack x0 x1) := by
  intro x0 x1
  unfold State.bothBack
  refine .ite (fun _ => ?_) fun _ => ?_
  · refine .step ?_ (State.setPair_acts ..) rfl
    exact .refl _
  · refine .step ?_ (State.showPair_acts ..) rfl
    refine .step ?_ (State.setPair_acts ..) rfl
    exact .refl _

/-- Changes dev, alarms, rcd, mram, tim, pins, twn, saf, ctl, alc, fch, regs, out, devSt, ladle, lease, brakes, elapsed, working. -/
theorem execSafeInputChange_acts : ∀ x0 x1 x2 x3 x4, ∃ t, execSafeInputChange x0 x1 x2 x3 x4 = .next t ∧ Acts 8519600578429856 x4 t := by
  intro x0 x1 x2 x3 x4
  unfold execSafeInputChange
  refine ⟨_, rfl, ?_⟩
  refine .ite (fun _ => ?_) fun _ => ?_
  · refine .step ?_ (State.setFlag_acts ..) rfl
    refine .step ?_ (State.reach_acts ..) rfl
    exact .refl _
  · refine .ite (fun _ => ?_) fun _ => ?_
    · refine .step ?_ (State.bothBack_acts ..) rfl
      refine .step ?_ (State.setFlag_acts ..) rfl
      refine .step ?_ (State.reach_acts ..) rfl
      exact .refl _
    · refine .ite (fun _ => ?_) fun _ => ?_
      · refine .step ?_ (State.enterDemand_acts ..) rfl
        refine .step ?_ (State.setPair_acts ..) rfl
        refine .step ?_ (State.setFlag_acts ..) rfl
        refine .step ?_ (State.reach_acts ..) rfl
        exact .refl _
      · refine .step ?_ (State.enterDemand_acts ..) rfl
        refine .step ?_ (State.setPair_acts ..) rfl
        refine .step ?_ (State.setFlag_acts ..) rfl
        refine .step ?_ (State.reach_acts ..) rfl
        exact .refl _

/-- Changes dev, alarms, rcd, mram, tim, pins, twn, saf, ctl, alc, fch, regs, out, devSt, ladle, lease, brakes, elapsed, working. -/
theorem execDiscrepancyExpiry_acts : ∀ x0 x1, ∃ t, execDiscrepancyExpiry x0 x1 = .next t ∧ Acts 8519600578429856 x1 t := by
  intro x0 x1
  unfold execDiscrepancyExpiry
  refine ⟨_, rfl, ?_⟩
  split
  · refine .step ?_ (State.enterDemand_acts ..) rfl
    refine .step ?_ (State.raise_acts ..) rfl
    refine .step ?_ (State.setPair_acts ..) rfl
    refine .step ?_ (State.reachEl_acts ..) rfl
    exact .refl _
  · exact .refl _

/-- Changes tim, saf, elapsed, working. -/
theorem State.pulseTime_acts : ∀ x0 x1, Acts 6755399442169856 x0 (State.pulseTime x0 x1) := by
  intro x0 x1
  unfold State.pulseTime
  refine .ite (fun _ => ?_) fun _ => ?_
  · split
    · refine .step ?_ (State.reachEl_acts ..) rfl
      exact .refl _
    · exact .refl _
  · refine .upd_saf ?_ rfl (.inr rfl) (.inr rfl)
    split
    · refine .step ?_ (State.reachEl_acts ..) rfl
      exact .refl _
    · exact .refl _

/-- Changes dev, alarms, rcd, mram, tim, pins, twn, saf, ctl, alc, fch, regs, out, devSt, ladle, lease, brakes, elapsed, working. -/
theorem execTestPulse_acts : ∀ x0 x1 x2, ∃ t, execTestPulse x0 x1 x2 = .next t ∧ Acts 8519600578429856 x2 t := by
  intro x0 x1 x2
  unfold execTestPulse
  refine ⟨_, rfl, ?_⟩
  refine .ite (fun _ => ?_) fun _ => ?_
  · exact .refl _
  · refine .each ?_ ?_
    · refine .step ?_ (State.pulseTime_acts ..) rfl
      exact .refl _
    · intro _ _
      refine .ite (fun _ => ?_) fun _ => ?_
      · exact .refl _
      · refine .ite (fun _ => ?_) fun _ => ?_
        · refine .step ?_ (State.enterDemand_acts ..) rfl
          refine .step ?_ (State.raise_acts ..) rfl
          refine .step ?_ (State.setPair_acts ..) rfl
          exact .refl _
        · refine .ite (fun _ => ?_) fun _ => ?_
          · refine .step ?_ (State.setPair_acts ..) rfl
            exact .refl _
          · exact .refl _

/-- Changes saf. -/
theorem State.setConn_acts : ∀ x0 x1 x2, Acts 1048576 x0 (State.setConn x0 x1 x2) := by
  intro x0 x1 x2
  unfold State.setConn
  refine .upd_saf ?_ rfl (.inr rfl) (.inr rfl)
  exact .refl _

/-- Changes saf, brakes. -/
theorem State.holdBrakes_acts : ∀ x0 x1 x2, Acts 1125899907891200 x0 (State.holdBrakes x0 x1 x2) := by
  intro x0 x1 x2
  unfold State.holdBrakes
  refine .each ?_ ?_
  · exact .refl _
  · intro _ _
    refine .step ?_ (State.setBrake_acts ..) rfl
    exact .refl _

/-- Changes dev, alarms, rcd, mram, pins, twn, saf, ctl, alc, fch, regs, out, devSt, ladle, lease, brakes. -/
theorem State.safeDemand_acts : ∀ x0 x1 x2, Acts 1764201137308576 x0 (State.safeDemand x0 x1 x2) := by
  intro x0 x1 x2
  unfold State.safeDemand
  refine .ite (fun _ => ?_) fun _ => ?_
  · refine .step ?_ (State.globalSafe_acts ..) rfl
    refine .step ?_ (State.settleBrakes_acts ..) rfl
    refine .step ?_ (State.abortIfDemanded_acts ..) rfl
    refine .step ?_ (State.holdBrakes_acts ..) rfl
    exact .refl _
  · refine .step ?_ (State.settleBrakes_acts ..) rfl
    refine .step ?_ (State.abortIfDemanded_acts ..) rfl
    refine .step ?_ (State.holdBrakes_acts ..) rfl
    exact .refl _

/-- Changes dev, alarms, rcd, mram, pins, twn, saf, ctl, alc, fch, regs, out, devSt, ladle, lease, brakes. -/
theorem State.acceptFrame_acts : ∀ x0 x1 x2 x3, Acts 1764201137308576 x0 (State.acceptFrame x0 x1 x2 x3) := by
  intro x0 x1 x2 x3
  unfold State.acceptFrame
  refine .ite (fun _ => ?_) fun _ => ?_
  · refine .step ?_ (State.safeDemand_acts ..) rfl
    refine .ite (fun _ => ?_) fun _ => ?_
    · refine .step ?_ (State.holdBrakes_acts ..) rfl
      refine .ite (fun _ => ?_) fun _ => ?_
      · refine .step ?_ (State.raise_acts ..) rfl
        refine .step ?_ (State.setFld_acts ..) rfl
        refine .step ?_ (State.setFld_acts ..) rfl
        refine .step ?_ (State.bump_acts ..) rfl
        refine .step ?_ (State.setConn_acts ..) rfl
        exact .refl _
      · refine .step ?_ (State.setFld_acts ..) rfl
        refine .step ?_ (State.setFld_acts ..) rfl
        refine .step ?_ (State.bump_acts ..) rfl
        refine .step ?_ (State.setConn_acts ..) rfl
        exact .refl _
    · refine .ite (fun _ => ?_) fun _ => ?_
      · refine .step ?_ (State.raise_acts ..) rfl
        refine .step ?_ (State.setFld_acts ..) rfl
        refine .step ?_ (State.setFld_acts ..) rfl
        refine .step ?_ (State.bump_acts ..) rfl
        refine .step ?_ (State.setConn_acts ..) rfl
        exact .refl _
      · refine .step ?_ (State.setFld_acts ..) rfl
        refine .step ?_ (State.setFld_acts ..) rfl
        refine .step ?_ (State.bump_acts ..) rfl
        refine .step ?_ (State.setConn_acts ..) rfl
        exact .refl _
  · refine .ite (fun _ => ?_) fun _ => ?_
    · refine .step ?_ (State.holdBrakes_acts ..) rfl
      refine .ite (fun _ => ?_) fun _ => ?_
      · refine .step ?_ (State.raise_acts ..) rfl
        refine .step ?_ (State.setFld_acts ..) rfl
        refine .step ?_ (State.setFld_acts ..) rfl
        refine .step ?_ (State.bump_acts ..) rfl
        refine .step ?_ (State.setConn_acts ..) rfl
        exact .refl _
      · refine .step ?_ (State.setFld_acts ..) rfl
        refine .step ?_ (State.setFld_acts ..) rfl
        refine .step ?_ (State.bump_acts ..) rfl
        refine .step ?_ (State.setConn_acts ..) rfl
        exact .refl _
    · refine .ite (fun _ => ?_) fun _ => ?_
      · refine .step ?_ (State.raise_acts ..) rfl
        refine .step ?_ (State.setFld_acts ..) rfl
        refine .step ?_ (State.setFld_acts ..) rfl
        refine .step ?_ (State.bump_acts ..) rfl
        refine .step ?_ (State.setConn_acts ..) rfl
        exact .refl _
      · refine .step ?_ (State.setFld_acts ..) rfl
        refine .step ?_ (State.setFld_acts ..) rfl
        refine .step ?_ (State.bump_acts ..) rfl
        refine .step ?_ (State.setConn_acts ..) rfl
        exact .refl _

/-- Changes alarms, rcd, regs. -/
theorem State.copiesDiffer_acts : ∀ x0 x1, Acts 34359738752 x0 (State.copiesDiffer x0 x1) := by
  intro x0 x1
  unfold State.copiesDiffer
  refine .step ?_ (State.raise_acts ..) rfl
  refine .step ?_ (State.event_acts ..) rfl
  refine .step ?_ (State.bump_acts ..) rfl
  exact .refl _

/-- Changes saf. -/
theorem State.unwait_acts : ∀ x0 x1 x2, Acts 1048576 x0 (State.unwait x0 x1 x2) := by
  intro x0 x1 x2
  unfold State.unwait
  refine .step ?_ (State.setConn_acts ..) rfl
  exact .refl _

/-- Changes dev, alarms, rcd, mram, pins, twn, saf, ctl, alc, fch, regs, out, devSt, ladle, lease, brakes. -/
theorem State.goodCopy_acts : ∀ x0 x1 x2 x3, Acts 1764201137308576 x0 (State.goodCopy x0 x1 x2 x3) := by
  intro x0 x1 x2 x3
  unfold State.goodCopy
  try dsimp only
  split
  · refine .step ?_ (State.setConn_acts ..) rfl
    exact .refl _
  · refine .ite (fun _ => ?_) fun _ => ?_
    · exact .refl _
    · refine .ite (fun _ => ?_) fun _ => ?_
      · refine .step ?_ (State.acceptFrame_acts ..) rfl
        refine .step ?_ (State.unwait_acts ..) rfl
        exact .refl _
      · refine .step ?_ (State.copiesDiffer_acts ..) rfl
        refine .step ?_ (State.unwait_acts ..) rfl
        exact .refl _

/-- Changes dev, alarms, rcd, mram, tim, pins, twn, saf, ctl, alc, fch, regs, out, devSt, ladle, lease, brakes, elapsed, working. -/
theorem execSafeFrame_acts : ∀ x0 x1 x2 x3, ∃ t, execSafeFrame x0 x1 x2 x3 = .next t ∧ Acts 8519600578429856 x3 t := by
  intro x0 x1 x2 x3
  unfold execSafeFrame
  refine ⟨_, rfl, ?_⟩
  try dsimp only
  split
  · refine .upd_saf ?_ rfl (.inr rfl) (.inr rfl)
    refine .step ?_ (State.reach_acts ..) rfl
    exact .refl _
  · refine .ite (fun _ => ?_) fun _ => ?_
    · refine .ite (fun _ => ?_) fun _ => ?_
      · refine .step ?_ (State.reach_acts ..) rfl
        exact .refl _
      · refine .step ?_ (State.copiesDiffer_acts ..) rfl
        refine .step ?_ (State.reach_acts ..) rfl
        exact .refl _
    · refine .ite (fun _ => ?_) fun _ => ?_
      · refine .step ?_ (State.bump_acts ..) rfl
        refine .step ?_ (State.reach_acts ..) rfl
        exact .refl _
      · refine .step ?_ (State.goodCopy_acts ..) rfl
        refine .step ?_ (State.reach_acts ..) rfl
        exact .refl _

/-- Changes dev, alarms, rcd, mram, tim, pins, twn, saf, ctl, alc, fch, regs, out, devSt, ladle, lease, brakes, elapsed, working. -/
theorem execDualWaitExpiry_acts : ∀ x0 x1, ∃ t, execDualWaitExpiry x0 x1 = .next t ∧ Acts 8519600578429856 x1 t := by
  intro x0 x1
  unfold execDualWaitExpiry
  refine ⟨_, rfl, ?_⟩
  split
  · refine .ite (fun _ => ?_) fun _ => ?_
    · refine .step ?_ (State.acceptFrame_acts ..) rfl
      refine .step ?_ (State.unwait_acts ..) rfl
      refine .step ?_ (State.reachEl_acts ..) rfl
      exact .refl _
    · refine .step ?_ (State.bump_acts ..) rfl
      refine .step ?_ (State.unwait_acts ..) rfl
      refine .step ?_ (State.reachEl_acts ..) rfl
      exact .refl _
  · exact .refl _

/-- Changes dev, alarms, rcd, mram, tim, pins, twn, saf, ctl, alc, fch, regs, out, devSt, ladle, lease, brakes, elapsed, working. -/
theorem execSafeConnectionTimeout_acts : ∀ x0 x1, ∃ t, execSafeConnectionTimeout x0 x1 = .next t ∧ Acts 8519600578429856 x1 t := by
  intro x0 x1
  unfold execSafeConnectionTimeout
  refine ⟨_, rfl, ?_⟩
  refine .ite (fun _ => ?_) fun _ => ?_
  · try dsimp only
    split
    · refine .step ?_ (State.globalSafe_acts ..) rfl
      refine .step ?_ (State.raise_acts ..) rfl
      refine .step ?_ (State.event_acts ..) rfl
      refine .step ?_ (State.setFld_acts ..) rfl
      refine .step ?_ (State.setConn_acts ..) rfl
      refine .step ?_ (State.reachEl_acts ..) rfl
      exact .refl _
    · refine .step ?_ (State.settleBrakes_acts ..) rfl
      refine .step ?_ (State.abortIfDemanded_acts ..) rfl
      refine .step ?_ (State.holdBrakes_acts ..) rfl
      refine .step ?_ (State.raise_acts ..) rfl
      refine .step ?_ (State.event_acts ..) rfl
      refine .step ?_ (State.setFld_acts ..) rfl
      refine .step ?_ (State.setConn_acts ..) rfl
      refine .step ?_ (State.reachEl_acts ..) rfl
      exact .refl _
    · refine .step ?_ (State.raise_acts ..) rfl
      refine .step ?_ (State.event_acts ..) rfl
      refine .step ?_ (State.setFld_acts ..) rfl
      refine .step ?_ (State.setConn_acts ..) rfl
      refine .step ?_ (State.reachEl_acts ..) rfl
      exact .refl _
  · exact .refl _

/-- Changes dev, alarms, rcd, mram, pins, twn, saf, ctl, alc, fch, regs, out, devSt, ladle, lease, brakes. -/
theorem execSDieFault_acts : ∀ x0, ∃ t, execSDieFault x0 = .next t ∧ Acts 1764201137308576 x0 t := by
  intro x0
  unfold execSDieFault
  refine ⟨_, rfl, ?_⟩
  refine .step ?_ (State.globalSafe_acts ..) rfl
  refine .upd_saf ?_ rfl (.inr rfl) (.inr rfl)
  exact .refl _

/-- Changes dev, alarms, rcd, mram, pins, twn, saf, ctl, alc, fch, regs, out, devSt, ladle, lease, brakes. -/
theorem execExtest_acts : ∀ x0, ∃ t, execExtest x0 = .next t ∧ Acts 1764201137308576 x0 t := by
  intro x0
  unfold execExtest
  refine ⟨_, rfl, ?_⟩
  refine .ite (fun _ => ?_) fun _ => ?_
  · refine .step ?_ (State.globalSafe_acts ..) rfl
    exact .refl _
  · exact .refl _

/-! Pour.lean -/

/-- Changes dev, alarms, rcd, mram, sti, pins, twn, saf, fus, ctl, alc, slv, fch, regs, xchg, out, devSt, ladle, lease, brakes. -/
theorem State.stepReplaced_acts : ∀ x0 x1, Acts 1764476166226848 x0 (State.stepReplaced x0 x1) := by
  intro x0 x1
  unfold State.stepReplaced
  split
  · refine .step ?_ (State.fusionLate_acts ..) rfl
    exact .refl _
  · refine .step ?_ (State.controlLate_acts ..) rfl
    exact .refl _
  · refine .step ?_ (State.allocationLate_acts ..) rfl
    exact .refl _
  · refine .step ?_ (State.buildImage_acts ..) rfl
    exact .refl _
  · refine .step ?_ (State.formVerdict_acts ..) rfl
    exact .refl _
  · exact .refl _

/-- Changes dev, ord, alarms, rcd, mram, sti, tim, pins, agr, twn, saf, fus, ctl, alc, slv, fch, elk, regs, xchg, out, devSt, devAim, ladle, lease,
brakes, elapsed, working. -/
theorem execStepDeadline_acts : ∀ x0 x1, ∃ t, execStepDeadline x0 x1 = .next t ∧ Acts 8555068569633760 x1 t := by
  intro x0 x1
  unfold execStepDeadline
  refine ⟨_, rfl, ?_⟩
  refine .ite (fun _ => ?_) fun _ => ?_
  · refine .ite (fun _ => ?_) fun _ => ?_
    · refine .step ?_ (State.agreementLate_acts ..) rfl
      refine .step ?_ (State.reach_acts ..) rfl
      exact .refl _
    · exact .refl _
  · refine .ite (fun _ => ?_) fun _ => ?_
    · refine .ite (fun _ => ?_) fun _ => ?_
      · refine .step ?_ (State.raise_acts ..) rfl
        refine .step ?_ (State.reach_acts ..) rfl
        exact .refl _
      · exact .refl _
    · refine .ite (fun _ => ?_) fun _ => ?_
      · refine .step ?_ (State.stepReplaced_acts ..) rfl
        refine .step ?_ (State.raise_acts ..) rfl
        refine .upd_dev ?_ rfl (.inr rfl) (.inr rfl) (.inr rfl) (.inr rfl)
        refine .step ?_ (State.reach_acts ..) rfl
        exact .refl _
      · exact .refl _

/-- Changes dev, alarms, rcd, mram, tim, pins, twn, saf, ctl, alc, fch, regs, out, devSt, ladle, lease, brakes, elapsed, working. -/
theorem execArbitration_acts : ∀ x0, ∃ t, execArbitration x0 = .next t ∧ Acts 8519600578429856 x0 t := by
  intro x0
  unfold execArbitration
  refine ⟨_, rfl, ?_⟩
  refine .ite (fun _ => ?_) fun _ => ?_
  · refine .step ?_ (State.stepDone_acts ..) rfl
    refine .step ?_ (State.arbitrationWork_acts ..) rfl
    refine .step ?_ (State.reach_acts ..) rfl
    exact .refl _
  · exact .refl _

/-- Changes dev, alarms, rcd, mram, twn, saf, ctl, regs, devSt, ladle, lease, brakes. -/
theorem State.engageNow_acts : ∀ x0 x1, Acts 1763651045819296 x0 (State.engageNow x0 x1) := by
  intro x0 x1
  unfold State.engageNow
  refine .ite (fun _ => ?_) fun _ => ?_
  · refine .ite (fun _ => ?_) fun _ => ?_
    · refine .step ?_ (State.takeLadle_acts ..) rfl
      exact .refl _
    · exact .refl _
  · refine .ite (fun _ => ?_) fun _ => ?_
    · refine .upd_twn ?_ rfl (.inl rfl)
      refine .step ?_ (State.setLadleEp_acts ..) rfl
      exact .refl _
    · exact .refl _

/-- Changes dev, alarms, rcd, mram, twn, saf, ctl, fch, regs, devSt, ladle, lease, brakes. -/
theorem State.disengageNow_acts : ∀ x0, Acts 1763651314254752 x0 (State.disengageNow x0) := by
  intro x0
  unfold State.disengageNow
  refine .ite (fun _ => ?_) fun _ => ?_
  · refine .step ?_ (State.raise_acts ..) rfl
    refine .step ?_ (State.dropToArmed_acts ..) rfl
    exact .refl _
  · refine .upd_twn ?_ rfl (.inl rfl)
    exact .refl _

/-- Changes dev, alarms, rcd, mram, twn, saf, ctl, fch, regs, out, devSt, ladle, lease, brakes. -/
theorem State.transferNow_acts : ∀ x0, Acts 1764201070068640 x0 (State.transferNow x0) := by
  intro x0
  unfold State.transferNow
  refine .ite (fun _ => ?_) fun _ => ?_
  · refine .step ?_ (State.handOver_acts ..) rfl
    exact .refl _
  · exact .refl _

/-- Changes dev, alarms, rcd, mram, saf, hlt, gns, ctl, alc, regs, devSt, brakes. -/
theorem State.parkNow_acts (s : State) : Acts 1130332425290656 s s.parkNow := by
  unfold State.parkNow
  refine Acts.ite (fun _ => ?_) (fun _ => Acts.refl s)
  have h2 : Acts 1130332425290656 s ((s.endTests 3).endFallback).gnsPowerDown :=
    (((State.endTests_acts s 3).mono rfl).step (State.endFallback_acts _) rfl).step (State.gnsPowerDown_acts _) rfl
  dsimp only
  generalize ((s.endTests 3).endFallback).gnsPowerDown = u at h2
  exact Acts.upd_dev h2 rfl (.inl rfl) (.inr rfl) (.inr rfl) (.inr rfl)

/-- Changes dev, gns, regs, devSt, devMode. -/
theorem State.unparkNow_acts : ∀ x0, Acts 13228507660320 x0 (State.unparkNow x0) := by
  intro x0
  unfold State.unparkNow
  refine .ite (fun _ => ?_) fun _ => ?_
  · refine .step ?_ (State.gnsPowerUp_acts ..) rfl
    refine .upd_dev ?_ rfl (.inl rfl) (.inl rfl) (.inr rfl) (.inr rfl)
    exact .refl _
  · exact .refl _

/-- Changes dev, alarms, rcd, mram, pins, twn, saf, ctl, alc, fch, regs, out, devSt, ladle, lease, brakes. -/
theorem State.safeNow_acts : ∀ x0, Acts 1764201137308576 x0 (State.safeNow x0) := by
  intro x0
  unfold State.safeNow
  refine .ite (fun _ => ?_) fun _ => ?_
  · exact .refl _
  · refine .step ?_ (State.raise_acts ..) rfl
    refine .step ?_ (State.enterSafe_acts ..) rfl
    exact .refl _

/-- Changes dev, alarms, rcd, mram, pins, twn, saf, hlt, gns, ctl, alc, fch, regs, out, devSt, devMode, ladle, lease, brakes. -/
theorem State.pourAct_acts : ∀ x0 x1, Acts 1772997240816544 x0 (State.pourAct x0 x1) := by
  intro x0 x1
  unfold State.pourAct
  split
  · refine .step ?_ (State.engageNow_acts ..) rfl
    exact .refl _
  · refine .step ?_ (State.disengageNow_acts ..) rfl
    exact .refl _
  · refine .step ?_ (State.transferNow_acts ..) rfl
    exact .refl _
  · refine .step ?_ (State.parkNow_acts ..) rfl
    exact .refl _
  · refine .step ?_ (State.unparkNow_acts ..) rfl
    exact .refl _
  · refine .step ?_ (State.safeNow_acts ..) rfl
    exact .refl _
  · refine .upd_dev ?_ rfl (.inr rfl) (.inr rfl) (.inr rfl) (.inr rfl)
    exact .refl _

/-- Changes dev, alarms, rcd, mram, pins, twn, saf, hlt, gns, ctl, alc, fch, regs, out, devSt, devMode, ladle, lease, brakes. -/
theorem State.transitions_acts : ∀ x0, Acts 1772997240816544 x0 (State.transitions x0) := by
  intro x0
  unfold State.transitions
  refine .foldl ?_ ?_
  · refine .upd_dev ?_ rfl (.inr rfl) (.inr rfl) (.inr rfl) (.inr rfl)
    refine .step ?_ (State.shutdownAction_acts ..) rfl
    exact .refl _
  · intro _ _
    refine .step ?_ (State.pourAct_acts ..) rfl
    exact .refl _

/-- Changes dev, alarms, rcd, mram, twn, saf, ctl, fch, regs, devSt, ladle, lease, brakes. -/
theorem State.takeOverNow_acts : ∀ x0, Acts 1763651314254752 x0 (State.takeOverNow x0) := by
  intro x0
  unfold State.takeOverNow
  refine .ite (fun _ => ?_) fun _ => ?_
  · refine .step ?_ (State.gateForPour_acts ..) rfl
    refine .step ?_ (State.raise_acts ..) rfl
    refine .step ?_ (State.event_acts ..) rfl
    refine .step ?_ (State.takeLadle_acts ..) rfl
    exact .refl _
  · exact .refl _

/-- Changes alc. -/
theorem State.repeatCommands_acts : ∀ x0, Acts 67108864 x0 (State.repeatCommands x0) := by
  intro x0
  unfold State.repeatCommands
  refine .ite (fun _ => ?_) fun _ => ?_
  · refine .each ?_ ?_
    · exact .refl _
    · intro _ _
      refine .step ?_ (State.setThr_acts ..) rfl
      exact .refl _
  · exact .refl _

/-- Changes fch, regs. -/
theorem State.driveThruster_acts : ∀ x0 x1, Acts 34628173824 x0 (State.driveThruster x0 x1) := by
  intro x0 x1
  unfold State.driveThruster
  refine .ite (fun _ => ?_) fun _ => ?_
  · refine .step ?_ (State.driveField_acts ..) rfl
    refine .ite (fun _ => ?_) fun _ => ?_
    · refine .step ?_ (State.driveField_acts ..) rfl
      exact .refl _
    · exact .refl _
  · refine .ite (fun _ => ?_) fun _ => ?_
    · refine .step ?_ (State.driveField_acts ..) rfl
      exact .refl _
    · exact .refl _

/-- Changes fch, regs. -/
theorem State.driveTorque_acts : ∀ x0 x1, Acts 34628173824 x0 (State.driveTorque x0 x1) := by
  intro x0 x1
  unfold State.driveTorque
  refine .ite (fun _ => ?_) fun _ => ?_
  · refine .step ?_ (State.driveField_acts ..) rfl
    exact .refl _
  · exact .refl _

/-- Changes alarms, rcd, saf, alc, fch, net, can, regs, out. -/
theorem State.driveCommands_acts : ∀ x0, Acts 587673371008 x0 (State.driveCommands x0) := by
  intro x0
  unfold State.driveCommands
  refine .step ?_ (State.commandsPoured_acts ..) rfl
  refine .upd_saf ?_ rfl (.inr rfl) (.inr rfl)
  refine .step ?_ (State.sendStream_acts ..) rfl
  refine .step ?_ (State.canPour_acts ..) rfl
  refine .each ?_ ?_
  · refine .each ?_ ?_
    · refine .step ?_ (State.repeatCommands_acts ..) rfl
      exact .refl _
    · intro _ _
      refine .step ?_ (State.driveThruster_acts ..) rfl
      exact .refl _
  · intro _ _
    refine .step ?_ (State.driveTorque_acts ..) rfl
    exact .refl _

/-- Changes saf, brakes. -/
theorem State.noteStopped_acts : ∀ x0 x1, Acts 1125899907891200 x0 (State.noteStopped x0 x1) := by
  intro x0 x1
  unfold State.noteStopped
  refine .step ?_ (State.setBrake_acts ..) rfl
  exact .refl _

/-- Changes saf, regs, brakes. -/
theorem State.brakePour_acts : ∀ x0 x1, Acts 1125934267629568 x0 (State.brakePour x0 x1) := by
  intro x0 x1
  unfold State.brakePour
  refine .ite (fun _ => ?_) fun _ => ?_
  · exact .refl _
  · refine .ite (fun _ => ?_) fun _ => ?_
    · refine .step ?_ (State.noteStopped_acts ..) rfl
      exact .refl _
    · refine .ite (fun _ => ?_) fun _ => ?_
      · refine .step ?_ (State.applyBrake_acts ..) rfl
        refine .step ?_ (State.noteStopped_acts ..) rfl
        exact .refl _
      · refine .step ?_ (State.releaseBrake_acts ..) rfl
        refine .step ?_ (State.noteStopped_acts ..) rfl
        exact .refl _

/-- Changes saf, net, regs, out. -/
theorem State.sendSafeState_acts : ∀ x0 x1, Acts 585190342656 x0 (State.sendSafeState x0 x1) := by
  intro x0 x1
  unfold State.sendSafeState
  refine .ite (fun _ => ?_) fun _ => ?_
  · refine .step ?_ (State.nextSafe_acts ..) rfl
    refine .step ?_ (State.lanSend_acts ..) rfl
    exact .refl _
  · exact .refl _

/-- Changes alarms, rcd, ctl, alc, regs. -/
theorem State.publishCycle_acts : ∀ x0, Acts 34460402048 x0 (State.publishCycle x0) := by
  intro x0
  unfold State.publishCycle
  refine .step ?_ (State.captureSample_acts ..) rfl
  refine .step ?_ (State.reportStop_acts ..) rfl
  refine .step ?_ (State.publishAllocation_acts ..) rfl
  refine .step ?_ (State.publishControl_acts ..) rfl
  refine .step ?_ (State.publishFusion_acts ..) rfl
  exact .refl _

/-- Changes ann. -/
theorem State.panelPour_acts : ∀ x0, Acts 1024 x0 (State.panelPour x0) := by
  intro x0
  unfold State.panelPour
  refine .step ?_ (State.newBar_acts ..) rfl
  refine .step ?_ (State.newBar_acts ..) rfl
  refine .step ?_ (State.newIcons_acts ..) rfl
  refine .step ?_ (State.newIcons_acts ..) rfl
  exact .refl _

/-- Changes alarms, rcd, intc, sti, net, spt, elk, regs, out. -/
theorem State.publishPour_acts : ∀ x0, Acts 598074214784 x0 (State.publishPour x0) := by
  intro x0
  unfold State.publishPour
  refine .step ?_ (State.publishFormation_acts ..) rfl
  refine .step ?_ (State.publishImage_acts ..) rfl
  refine .step ?_ (State.send450_acts ..) rfl
  refine .foldl ?_ ?_
  · refine .step ?_ (State.settleSources_acts ..) rfl
    refine .upd_intc_net ?_ rfl
    refine .step ?_ (State.swapImage_acts ..) rfl
    refine .step ?_ (State.closeImage_acts ..) rfl
    exact .refl _
  · intro _ _
    refine .step ?_ (State.serialPour_acts ..) rfl
    exact .refl _

/-- Changes rcd, regs. -/
theorem State.writeAnchor_acts : ∀ x0, Acts 34359738624 x0 (State.writeAnchor x0) := by
  intro x0
  unfold State.writeAnchor
  split
  · refine .step ?_ (State.enqueue_acts ..) rfl
    refine .upd_rcd ?_ rfl rfl (.inr rfl)
    exact .refl _
  · exact .refl _

/-- Changes agr, twn, regs, out. -/
theorem State.reportPour_acts : ∀ x0, Acts 584116338688 x0 (State.reportPour x0) := by
  intro x0
  unfold State.reportPour
  refine .step ?_ (State.ownItem_acts ..) rfl
  refine .step ?_ (State.setRegs_acts ..) rfl
  exact .refl _

/-- Changes twn, regs, out. -/
theorem State.syncPour_acts : ∀ x0, Acts 584116076544 x0 (State.syncPour x0) := by
  intro x0
  unfold State.syncPour
  refine .ite (fun _ => ?_) fun _ => ?_
  · refine .upd_twn ?_ rfl (.inr rfl)
    refine .ite (fun _ => ?_) fun _ => ?_
    · refine .step ?_ (State.sendCopy_acts ..) rfl
      exact .refl _
    · exact .refl _
  · refine .step ?_ (State.requestSync_acts ..) rfl
    refine .ite (fun _ => ?_) fun _ => ?_
    · refine .step ?_ (State.sendCopy_acts ..) rfl
      exact .refl _
    · exact .refl _

/-- Changes ord. -/
theorem State.prunePairAcks_acts : ∀ x0, Acts 64 x0 (State.prunePairAcks x0) := by
  intro x0
  unfold State.prunePairAcks
  refine .upd_ord ?_ rfl
  exact .refl _

/-- Changes ord, alarms, rcd, mram, agr, twn, hlt, thm, slv, regs, xchg, out, recNext. -/
theorem State.bookkeeping_acts : ∀ x0 x1, Acts 282334111466432 x0 (State.bookkeeping x0 x1) := by
  intro x0 x1
  unfold State.bookkeeping
  refine .step ?_ (State.syncPour_acts ..) rfl
  refine .step ?_ (State.reportPour_acts ..) rfl
  refine .upd_ord_mram ?_ rfl rfl rfl rfl (.inr rfl)
  refine .step ?_ (State.prunePairAcks_acts ..) rfl
  refine .step ?_ (State.recorderWork_acts ..) rfl
  refine .step ?_ (State.settleAlarms_acts ..) rfl
  refine .step ?_ (State.writeAnchor_acts ..) rfl
  refine .step ?_ (State.throttleWork_acts ..) rfl
  refine .step ?_ (State.bankWork_acts ..) rfl
  refine .step ?_ (State.solverWork_acts ..) rfl
  refine .when ?_ ?_
  · exact .refl _
  · intro _
    refine .step ?_ (State.poseFills_acts ..) rfl
    exact .refl _

/-- Changes all but serial, devKey, clk, boot, pat, hst, apps, acl, tim, fus, loops, flashCmd, appm, flash, freeCtr, pending, devEpoch, devAim,
opTime, elapsed, working. -/
theorem State.pourWork_acts : ∀ x0 x1, Acts 2054763340255200 x0 (State.pourWork x0 x1) := by
  intro x0 x1
  unfold State.pourWork
  refine .step ?_ (State.drainTx_acts ..) rfl
  refine .step ?_ (State.bookkeeping_acts ..) rfl
  refine .each ?_ ?_
  · refine .step ?_ (State.panelPour_acts ..) rfl
    refine .step ?_ (State.publishPour_acts ..) rfl
    refine .step ?_ (State.sendResponses_acts ..) rfl
    refine .each ?_ ?_
    · refine .ite (fun _ => ?_) fun _ => ?_
      · refine .step ?_ (State.publishCycle_acts ..) rfl
        refine .step ?_ (State.driveCommands_acts ..) rfl
        refine .step ?_ (State.injectionChecks_acts ..) rfl
        refine .step ?_ (State.scenarioAlarms_acts ..) rfl
        refine .step ?_ (State.takeOverNow_acts ..) rfl
        refine .step ?_ (State.transitions_acts ..) rfl
        refine .upd_dev ?_ rfl (.inr rfl) (.inr rfl) (.inr rfl) (.inr rfl)
        refine .step ?_ (State.buildImage_acts ..) rfl
        refine .ite (fun _ => ?_) fun _ => ?_
        · refine .step ?_ (State.arbitrationWork_acts ..) rfl
          refine .step ?_ (State.fillQueues_acts ..) rfl
          exact .refl _
        · refine .step ?_ (State.fillQueues_acts ..) rfl
          exact .refl _
      · refine .step ?_ (State.takeOverNow_acts ..) rfl
        refine .step ?_ (State.transitions_acts ..) rfl
        refine .upd_dev ?_ rfl (.inr rfl) (.inr rfl) (.inr rfl) (.inr rfl)
        refine .step ?_ (State.buildImage_acts ..) rfl
        refine .ite (fun _ => ?_) fun _ => ?_
        · refine .step ?_ (State.arbitrationWork_acts ..) rfl
          refine .step ?_ (State.fillQueues_acts ..) rfl
          exact .refl _
        · refine .step ?_ (State.fillQueues_acts ..) rfl
          exact .refl _
    · intro _ _
      refine .step ?_ (State.brakePour_acts ..) rfl
      exact .refl _
  · intro _ _
    refine .step ?_ (State.sendSafeState_acts ..) rfl
    exact .refl _

/-- Changes all but serial, devKey, clk, boot, pat, hst, apps, acl, fus, loops, flashCmd, appm, flash, freeCtr, pending, devEpoch, devAim, opTime. -/
theorem execPour_acts : ∀ x0 x1, ∃ t, execPour x0 x1 = .next t ∧ Acts 8810162781376480 x1 t := by
  intro x0 x1
  unfold execPour
  refine ⟨_, rfl, ?_⟩
  refine .ite (fun _ => ?_) fun _ => ?_
  · refine .upd_dev ?_ rfl (.inr rfl) (.inr rfl) (.inr rfl) (.inr rfl)
    refine .step ?_ (State.pourWork_acts ..) rfl
    refine .step ?_ (State.reach_acts ..) rfl
    exact .refl _
  · exact .refl _

/-! Idle.lean -/

/-- Changes tim, elapsed, working. -/
theorem State.tick_acts : ∀ x0, Acts 6755399441121280 x0 (State.tick x0) := by
  intro x0
  unfold State.tick
  refine .ite (fun _ => ?_) fun _ => ?_
  · refine .upd_tim ?_ rfl (.inl rfl) (.inl rfl)
    exact .refl _
  · exact .refl _

end Sys2Proof.Machine
end

