-- ==== Sys2Proof/Laws/Dispatch.lean ====
section
/-! SUPPORT. The dispatch, command by command: `exec` of each command is its meaning. -/
namespace Sys2Proof.Machine

theorem exec_powerOnReset : ∀ straps s, exec (.powerOnReset straps) s = execPowerOnReset straps s := fun _ _ => rfl

theorem exec_vinFall : ∀ s, exec .vinFall s = execVinFall s := fun _ => rfl

theorem exec_nrst : ∀ widthNs straps s, exec (.nrst widthNs straps) s = execNrst widthNs straps s := fun _ _ _ => rfl

theorem exec_keeperWatchdog : ∀ straps s, exec (.keeperWatchdog straps) s = execKeeperWatchdog straps s := fun _ _ => rfl

theorem exec_orderedReset : ∀ straps s, exec (.orderedReset straps) s = execOrderedReset straps s := fun _ _ => rfl

theorem exec_app0Rst : ∀ master s, exec (.app0Rst master) s = execApp0Rst master s := fun _ _ => rfl

theorem exec_app1Rst : ∀ master s, exec (.app1Rst master) s = execApp1Rst master s := fun _ _ => rfl

theorem exec_pwrgoodRise : ∀ s, exec .pwrgoodRise s = execPwrgoodRise s := fun _ => rfl

theorem exec_refinPresent : ∀ s, exec .refinPresent s = execRefinPresent s := fun _ => rfl

theorem exec_refinMissing : ∀ s, exec .refinMissing s = execRefinMissing s := fun _ => rfl

theorem exec_pllUnlock : ∀ s, exec .pllUnlock s = execPllUnlock s := fun _ => rfl

theorem exec_clockMonitorWindow : ∀ count s, exec (.clockMonitorWindow count) s = execClockMonitorWindow count s := fun _ _ => rfl

theorem exec_vfldPresent : ∀ s, exec .vfldPresent s = execVfldPresent s := fun _ => rfl

theorem exec_vfldLow : ∀ s, exec .vfldLow s = execVfldLow s := fun _ => rfl

theorem exec_bootStart : ∀ tests s, exec (.bootStart tests) s = execBootStart tests s := fun _ _ => rfl

theorem exec_slotStreamEnd : ∀ tests s, exec (.slotStreamEnd tests) s = execSlotStreamEnd tests s := fun _ _ => rfl

theorem exec_bootTimeout : ∀ s, exec .bootTimeout s = execBootTimeout s := fun _ => rfl

theorem exec_twinWaitEnd : ∀ s, exec .twinWaitEnd s = execTwinWaitEnd s := fun _ => rfl

theorem exec_cycleFreeze : ∀ latch s, exec (.cycleFreeze latch) s = execCycleFreeze latch s := fun _ _ => rfl

theorem exec_measurementBlockWrite : ∀ stamp s, exec (.measurementBlockWrite stamp) s = execMeasurementBlockWrite stamp s := fun _ _ => rfl

theorem exec_fieldItemSend : ∀ s, exec .fieldItemSend s = execFieldItemSend s := fun _ => rfl

theorem exec_closeTick : ∀ s, exec .closeTick s = execCloseTick s := fun _ => rfl

theorem exec_agreeDecide : ∀ s, exec .agreeDecide s = execAgreeDecide s := fun _ => rfl

theorem exec_agreeCheck : ∀ s, exec .agreeCheck s = execAgreeCheck s := fun _ => rfl

theorem exec_fusionStep : ∀ nav s, exec (.fusionStep nav) s = execFusionStep nav s := fun _ _ => rfl

theorem exec_slotTimeout : ∀ slot s, exec (.slotTimeout slot) s = execSlotTimeout slot s := fun _ _ => rfl

theorem exec_gatePersistExpiry : ∀ slot s, exec (.gatePersistExpiry slot) s = execGatePersistExpiry slot s := fun _ _ => rfl

theorem exec_conflictPersistExpiry : ∀ quantity s, exec (.conflictPersistExpiry quantity) s = execConflictPersistExpiry quantity s := fun _ _ => rfl

theorem exec_probationEnd : ∀ slot s, exec (.probationEnd slot) s = execProbationEnd slot s := fun _ _ => rfl

theorem exec_drValidExpiry : ∀ heading s, exec (.drValidExpiry heading) s = execDrValidExpiry heading s := fun _ _ => rfl

theorem exec_drLimitExpiry : ∀ heading s, exec (.drLimitExpiry heading) s = execDrLimitExpiry heading s := fun _ _ => rfl

theorem exec_controlStepRuns : ∀ s, exec .controlStepRuns s = execControlStepRuns s := fun _ => rfl

theorem exec_followingErrorExpiry : ∀ heading s, exec (.followingErrorExpiry heading) s = execFollowingErrorExpiry heading s := fun _ _ => rfl

theorem exec_modelPlausibilityExpiry : ∀ axis s, exec (.modelPlausibilityExpiry axis) s = execModelPlausibilityExpiry axis s := fun _ _ => rfl

theorem exec_followRefLoss : ∀ s, exec .followRefLoss s = execFollowRefLoss s := fun _ => rfl

theorem exec_joystickTimeout : ∀ s, exec .joystickTimeout s = execJoystickTimeout s := fun _ => rfl

theorem exec_windFeedforwardRamp : ∀ s, exec .windFeedforwardRamp s = execWindFeedforwardRamp s := fun _ => rfl

theorem exec_injectionEnd : ∀ s, exec .injectionEnd s = execInjectionEnd s := fun _ => rfl

theorem exec_allocationStepRuns : ∀ s, exec .allocationStepRuns s = execAllocationStepRuns s := fun _ => rfl

theorem exec_scenarioStale : ∀ scenario s, exec (.scenarioStale scenario) s = execScenarioStale scenario s := fun _ _ => rfl

theorem exec_shapeHoldExpiry : ∀ scenario s, exec (.shapeHoldExpiry scenario) s = execShapeHoldExpiry scenario s := fun _ _ => rfl

theorem exec_azimuthSwing : ∀ thruster s, exec (.azimuthSwing thruster) s = execAzimuthSwing thruster s := fun _ _ => rfl

theorem exec_outputComparison : ∀ s, exec .outputComparison s = execOutputComparison s := fun _ => rfl

theorem exec_verdictFormation : ∀ delivered s, exec (.verdictFormation delivered) s = execVerdictFormation delivered s := fun _ _ => rfl

theorem exec_arbitration : ∀ s, exec .arbitration s = execArbitration s := fun _ => rfl

theorem exec_stepDeadline : ∀ stepNo s, exec (.stepDeadline stepNo) s = execStepDeadline stepNo s := fun _ _ => rfl

theorem exec_pour : ∀ katPass s, exec (.pour katPass) s = execPour katPass s := fun _ _ => rfl

theorem exec_orderArrival : ∀ transport address port frame stamp s, exec (.orderArrival transport address port frame stamp) s = execOrderArrival transport address port frame stamp s := fun _ _ _ _ _ _ => rfl

theorem exec_engage : ∀ order s, exec (.engage order) s = execEngage order s := fun _ _ => rfl

theorem exec_disengage : ∀ order s, exec (.disengage order) s = execDisengage order s := fun _ _ => rfl

theorem exec_transfer : ∀ order s, exec (.transfer order) s = execTransfer order s := fun _ _ => rfl

theorem exec_setMode : ∀ order s, exec (.setMode order) s = execSetMode order s := fun _ _ => rfl

theorem exec_setPoint : ∀ order s, exec (.setPoint order) s = execSetPoint order s := fun _ _ => rfl

theorem exec_setTrack : ∀ order s, exec (.setTrack order) s = execSetTrack order s := fun _ _ => rfl

theorem exec_setFollowRef : ∀ order s, exec (.setFollowRef order) s = execSetFollowRef order s := fun _ _ => rfl

theorem exec_joystick : ∀ order s, exec (.joystick order) s = execJoystick order s := fun _ _ => rfl

theorem exec_takeCommand : ∀ order s, exec (.takeCommand order) s = execTakeCommand order s := fun _ _ => rfl

theorem exec_thrusterAvail : ∀ order s, exec (.thrusterAvail order) s = execThrusterAvail order s := fun _ _ => rfl

theorem exec_sensorReturn : ∀ order s, exec (.sensorReturn order) s = execSensorReturn order s := fun _ _ => rfl

theorem exec_tunable : ∀ order s, exec (.tunable order) s = execTunable order s := fun _ _ => rfl

theorem exec_testStartBrake : ∀ order s, exec (.testStartBrake order) s = execTestStartBrake order s := fun _ _ => rfl

theorem exec_testStartInjection : ∀ order s, exec (.testStartInjection order) s = execTestStartInjection order s := fun _ _ => rfl

theorem exec_testStop : ∀ order s, exec (.testStop order) s = execTestStop order s := fun _ _ => rfl

theorem exec_park : ∀ order s, exec (.park order) s = execPark order s := fun _ _ => rfl

theorem exec_unpark : ∀ order s, exec (.unpark order) s = execUnpark order s := fun _ _ => rfl

theorem exec_safe : ∀ order s, exec (.safe order) s = execSafe order s := fun _ _ => rfl

theorem exec_reset : ∀ order s, exec (.reset order) s = execReset order s := fun _ _ => rfl

theorem exec_alarmAck : ∀ order s, exec (.alarmAck order) s = execAlarmAck order s := fun _ _ => rfl

theorem exec_orderMailboxSubmit : ∀ master box s, exec (.orderMailboxSubmit master box) s = execOrderMailboxSubmit master box s := fun _ _ _ => rfl

theorem exec_slvSubmit : ∀ master value placed s, exec (.slvSubmit master value placed) s = execSlvSubmit master value placed s := fun _ _ _ _ => rfl

theorem exec_slvFill : ∀ master value placed s, exec (.slvFill master value placed) s = execSlvFill master value placed s := fun _ _ _ _ => rfl

theorem exec_submissionProcess : ∀ s, exec .submissionProcess s = execSubmissionProcess s := fun _ => rfl

theorem exec_fillApply : ∀ s, exec .fillApply s = execFillApply s := fun _ => rfl

theorem exec_problemStart : ∀ s, exec .problemStart s = execProblemStart s := fun _ => rfl

theorem exec_problemEnds : ∀ tag cycles s, exec (.problemEnds tag cycles) s = execProblemEnds tag cycles s := fun _ _ _ => rfl

theorem exec_problemDeadline : ∀ tag s, exec (.problemDeadline tag) s = execProblemDeadline tag s := fun _ _ => rfl

theorem exec_laneFault : ∀ lane s, exec (.laneFault lane) s = execLaneFault lane s := fun _ _ => rfl

theorem exec_laneEccCorrected : ∀ lane s, exec (.laneEccCorrected lane) s = execLaneEccCorrected lane s := fun _ _ => rfl

theorem exec_twinLaneLost : ∀ lane s, exec (.twinLaneLost lane) s = execTwinLaneLost lane s := fun _ _ => rfl

theorem exec_twinLaneRetry : ∀ lane s, exec (.twinLaneRetry lane) s = execTwinLaneRetry lane s := fun _ _ => rfl

theorem exec_twinLinkDown : ∀ s, exec .twinLinkDown s = execTwinLinkDown s := fun _ => rfl

theorem exec_twinRetransmit : ∀ vc firstSeq s, exec (.twinRetransmit vc firstSeq) s = execTwinRetransmit vc firstSeq s := fun _ _ _ => rfl

theorem exec_twinNak : ∀ vc firstSeq s, exec (.twinNak vc firstSeq) s = execTwinNak vc firstSeq s := fun _ _ _ => rfl

theorem exec_helloSend : ∀ nonce s, exec (.helloSend nonce) s = execHelloSend nonce s := fun _ _ => rfl

theorem exec_helloFrame : ∀ header frame s, exec (.helloFrame header frame) s = execHelloFrame header frame s := fun _ _ _ => rfl

theorem exec_authFrame : ∀ header sig verified s, exec (.authFrame header sig verified) s = execAuthFrame header sig verified s := fun _ _ _ _ => rfl

theorem exec_startFrame : ∀ header firstFreeze epoch s, exec (.startFrame header firstFreeze epoch) s = execStartFrame header firstFreeze epoch s := fun _ _ _ _ => rfl

theorem exec_itemFrame : ∀ header entry index count s, exec (.itemFrame header entry index count) s = execItemFrame header entry index count s := fun _ _ _ _ _ => rfl

theorem exec_closeFrame : ∀ header epoch count digest s, exec (.closeFrame header epoch count digest) s = execCloseFrame header epoch count digest s := fun _ _ _ _ _ => rfl

theorem exec_agreeFrame : ∀ header epoch cope drag digest s, exec (.agreeFrame header epoch cope drag digest) s = execAgreeFrame header epoch cope drag digest s := fun _ _ _ _ _ _ => rfl

theorem exec_compareFrame : ∀ header frame s, exec (.compareFrame header frame) s = execCompareFrame header frame s := fun _ _ _ => rfl

theorem exec_verdictFrame : ∀ header frame s, exec (.verdictFrame header frame) s = execVerdictFrame header frame s := fun _ _ _ => rfl

theorem exec_renewSend : ∀ s, exec .renewSend s = execRenewSend s := fun _ => rfl

theorem exec_renew : ∀ path epoch side sendT arrival s, exec (.renew path epoch side sendT arrival) s = execRenew path epoch side sendT arrival s := fun _ _ _ _ _ _ => rfl

theorem exec_ack : ∀ path arrival s, exec (.ack path arrival) s = execAck path arrival s := fun _ _ _ => rfl

theorem exec_leaseExpiry : ∀ s, exec .leaseExpiry s = execLeaseExpiry s := fun _ => rfl

theorem exec_silentLossTimeout : ∀ s, exec .silentLossTimeout s = execSilentLossTimeout s := fun _ => rfl

theorem exec_releaseFrame : ∀ header epoch s, exec (.releaseFrame header epoch) s = execReleaseFrame header epoch s := fun _ _ _ => rfl

theorem exec_syncReqFrame : ∀ header s, exec (.syncReqFrame header) s = execSyncReqFrame header s := fun _ _ => rfl

theorem exec_stateFrame : ∀ header chunk s, exec (.stateFrame header chunk) s = execStateFrame header chunk s := fun _ _ _ => rfl

theorem exec_syncEndFrame : ∀ header epoch crcOk s, exec (.syncEndFrame header epoch crcOk) s = execSyncEndFrame header epoch crcOk s := fun _ _ _ _ => rfl

theorem exec_syncEndTimeout : ∀ s, exec .syncEndTimeout s = execSyncEndTimeout s := fun _ => rfl

theorem exec_timeMarkerSend : ∀ s, exec .timeMarkerSend s = execTimeMarkerSend s := fun _ => rfl

theorem exec_timeMarker : ∀ marker s, exec (.timeMarker marker) s = execTimeMarker marker s := fun _ _ => rfl

theorem exec_twinOffsetAlarm : ∀ s, exec .twinOffsetAlarm s = execTwinOffsetAlarm s := fun _ => rfl

theorem exec_switchTest : ∀ channel s, exec (.switchTest channel) s = execSwitchTest channel s := fun _ _ => rfl

theorem exec_switchTestStep : ∀ channel hsPct lsPct s, exec (.switchTestStep channel hsPct lsPct) s = execSwitchTestStep channel hsPct lsPct s := fun _ _ _ _ => rfl

theorem exec_brakeOvercurrent : ∀ channel s, exec (.brakeOvercurrent channel) s = execBrakeOvercurrent channel s := fun _ _ => rfl

theorem exec_brakeDegradedExpiry : ∀ channel s, exec (.brakeDegradedExpiry channel) s = execBrakeDegradedExpiry channel s := fun _ _ => rfl

theorem exec_brakeTestPhaseEnd : ∀ s, exec .brakeTestPhaseEnd s = execBrakeTestPhaseEnd s := fun _ => rfl

theorem exec_brakeTestMotion : ∀ counts s, exec (.brakeTestMotion counts) s = execBrakeTestMotion counts s := fun _ _ => rfl

theorem exec_brakeTestDue : ∀ channel s, exec (.brakeTestDue channel) s = execBrakeTestDue channel s := fun _ _ => rfl

theorem exec_testPulse : ∀ output faulty s, exec (.testPulse output faulty) s = execTestPulse output faulty s := fun _ _ _ => rfl

theorem exec_safeInputChange : ∀ pair contactB closed stamp s, exec (.safeInputChange pair contactB closed stamp) s = execSafeInputChange pair contactB closed stamp s := fun _ _ _ _ _ => rfl

theorem exec_discrepancyExpiry : ∀ pair s, exec (.discrepancyExpiry pair) s = execDiscrepancyExpiry pair s := fun _ _ => rfl

theorem exec_safeFrame : ∀ lanB bytes stamp s, exec (.safeFrame lanB bytes stamp) s = execSafeFrame lanB bytes stamp s := fun _ _ _ _ => rfl

theorem exec_dualWaitExpiry : ∀ conn s, exec (.dualWaitExpiry conn) s = execDualWaitExpiry conn s := fun _ _ => rfl

theorem exec_safeConnectionTimeout : ∀ conn s, exec (.safeConnectionTimeout conn) s = execSafeConnectionTimeout conn s := fun _ _ => rfl

theorem exec_sDieFault : ∀ s, exec .sDieFault s = execSDieFault s := fun _ => rfl

theorem exec_extest : ∀ s, exec .extest s = execExtest s := fun _ => rfl

theorem exec_tsuExtUpdate : ∀ s, exec .tsuExtUpdate s = execTsuExtUpdate s := fun _ => rfl

theorem exec_ptpSyncArrives : ∀ domain port twoStep seq ingress origin s, exec (.ptpSyncArrives domain port twoStep seq ingress origin) s = execPtpSyncArrives domain port twoStep seq ingress origin s := fun _ _ _ _ _ _ _ => rfl

theorem exec_ptpFollowUp : ∀ domain port seq origin s, exec (.ptpFollowUp domain port seq origin) s = execPtpFollowUp domain port seq origin s := fun _ _ _ _ _ => rfl

theorem exec_ptpDelayRespArrives : ∀ domain port time ingress s, exec (.ptpDelayRespArrives domain port time ingress) s = execPtpDelayRespArrives domain port time ingress s := fun _ _ _ _ _ => rfl

theorem exec_ptpAnnounce : ∀ msg s, exec (.ptpAnnounce msg) s = execPtpAnnounce msg s := fun _ _ => rfl

theorem exec_ptpMessageSend : ∀ domain port kind s, exec (.ptpMessageSend domain port kind) s = execPtpMessageSend domain port kind s := fun _ _ _ _ => rfl

theorem exec_timeSourceLost : ∀ source s, exec (.timeSourceLost source) s = execTimeSourceLost source s := fun _ _ => rfl

theorem exec_sourceQualified : ∀ source s, exec (.sourceQualified source) s = execSourceQualified source s := fun _ _ => rfl

theorem exec_stepDecision : ∀ s, exec .stepDecision s = execStepDecision s := fun _ => rfl

theorem exec_timeStep : ∀ s, exec .timeStep s = execTimeStep s := fun _ => rfl

theorem exec_holdErrPublish : ∀ s, exec .holdErrPublish s = execHoldErrPublish s := fun _ => rfl

theorem exec_compareFire : ∀ unit s, exec (.compareFire unit) s = execCompareFire unit s := fun _ _ => rfl

theorem exec_compareEnable : ∀ master unit value s, exec (.compareEnable master unit value) s = execCompareEnable master unit value s := fun _ _ _ _ => rfl

theorem exec_captureEdge : ∀ unit rising stamp s, exec (.captureEdge unit rising stamp) s = execCaptureEdge unit rising stamp s := fun _ _ _ _ => rfl

theorem exec_captureRead : ∀ master unit s, exec (.captureRead master unit) s = execCaptureRead master unit s := fun _ _ _ => rfl

theorem exec_captureOld : ∀ unit s, exec (.captureOld unit) s = execCaptureOld unit s := fun _ _ => rfl

theorem exec_timePulse : ∀ output s, exec (.timePulse output) s = execTimePulse output s := fun _ _ => rfl

theorem exec_timePulseEnd : ∀ output s, exec (.timePulseEnd output) s = execTimePulseEnd output s := fun _ _ => rfl

theorem exec_antennaMeasure : ∀ antenna milliamps s, exec (.antennaMeasure antenna milliamps) s = execAntennaMeasure antenna milliamps s := fun _ _ _ => rfl

theorem exec_antennaRetry : ∀ antenna s, exec (.antennaRetry antenna) s = execAntennaRetry antenna s := fun _ _ => rfl

theorem exec_acquisitionSearchRuns : ∀ engine sig sv antenna blocks warm bin peakOverMean s, exec (.acquisitionSearchRuns engine sig sv antenna blocks warm bin peakOverMean) s = execAcquisitionSearchRuns engine sig sv antenna blocks warm bin peakOverMean s := fun _ _ _ _ _ _ _ _ _ => rfl

theorem exec_acquisitionConfirm : ∀ engine peakOverMean elev s, exec (.acquisitionConfirm engine peakOverMean elev) s = execAcquisitionConfirm engine peakOverMean elev s := fun _ _ _ _ => rfl

theorem exec_pullInLock : ∀ chan s, exec (.pullInLock chan) s = execPullInLock chan s := fun _ _ => rfl

theorem exec_phaseLockHeld : ∀ chan s, exec (.phaseLockHeld chan) s = execPhaseLockHeld chan s := fun _ _ => rfl

theorem exec_lockLoss : ∀ chan s, exec (.lockLoss chan) s = execLockLoss chan s := fun _ _ => rfl

theorem exec_cycleSlip : ∀ chan s, exec (.cycleSlip chan) s = execCycleSlip chan s := fun _ _ => rfl

theorem exec_channelShadowEnd : ∀ cluster sameAS sameAS2 sameSS2 s, exec (.channelShadowEnd cluster sameAS sameAS2 sameSS2) s = execChannelShadowEnd cluster sameAS sameAS2 sameSS2 s := fun _ _ _ _ _ => rfl

theorem exec_spectrumAverage : ∀ stream lines noise agc s, exec (.spectrumAverage stream lines noise agc) s = execSpectrumAverage stream lines noise agc s := fun _ _ _ _ _ => rfl

theorem exec_notchRelease : ∀ stream notch s, exec (.notchRelease stream notch) s = execNotchRelease stream notch s := fun _ _ _ => rfl

theorem exec_noiseFloorLearned : ∀ floors s, exec (.noiseFloorLearned floors) s = execNoiseFloorLearned floors s := fun _ _ => rfl

theorem exec_jamClear : ∀ s, exec .jamClear s = execJamClear s := fun _ => rfl

theorem exec_suspectClear : ∀ chan s, exec (.suspectClear chan) s = execSuspectClear chan s := fun _ _ => rfl

theorem exec_suspicionClear : ∀ side s, exec (.suspicionClear side) s = execSuspicionClear side s := fun _ _ => rfl

theorem exec_snapshotTrigger : ∀ master s, exec (.snapshotTrigger master) s = execSnapshotTrigger master s := fun _ _ => rfl

theorem exec_snapshotHeld : ∀ samples s, exec (.snapshotHeld samples) s = execSnapshotHeld samples s := fun _ _ => rfl

theorem exec_snapshotRelease : ∀ master s, exec (.snapshotRelease master) s = execSnapshotRelease master s := fun _ _ => rfl

theorem exec_parkPositionCheck : ∀ satellites distanceM s, exec (.parkPositionCheck satellites distanceM) s = execParkPositionCheck satellites distanceM s := fun _ _ _ => rfl

theorem exec_ephemerisRenewal : ∀ s, exec .ephemerisRenewal s = execEphemerisRenewal s := fun _ => rfl

theorem exec_ephemerisRenewalEnds : ∀ sats s, exec (.ephemerisRenewalEnds sats) s = execEphemerisRenewalEnds sats s := fun _ _ => rfl

theorem exec_serialSentence : ∀ port sentence s, exec (.serialSentence port sentence) s = execSerialSentence port sentence s := fun _ _ _ => rfl

theorem exec_rtcmFrame : ∀ port bytes first last s, exec (.rtcmFrame port bytes first last) s = execRtcmFrame port bytes first last s := fun _ _ _ _ _ => rfl

theorem exec_canFrame : ∀ channel frame s, exec (.canFrame channel frame) s = execCanFrame channel frame s := fun _ _ _ => rfl

theorem exec_fastPacketTimeout : ∀ channel source pgn s, exec (.fastPacketTimeout channel source pgn) s = execFastPacketTimeout channel source pgn s := fun _ _ _ _ => rfl

theorem exec_canObjectTimeout : ∀ object s, exec (.canObjectTimeout object) s = execCanObjectTimeout object s := fun _ _ => rfl

theorem exec_canQ1Pop : ∀ master channel s, exec (.canQ1Pop master channel) s = execCanQ1Pop master channel s := fun _ _ _ => rfl

theorem exec_canError : ∀ channel tec rec s, exec (.canError channel tec rec) s = execCanError channel tec rec s := fun _ _ _ _ => rfl

theorem exec_busoffHoldExpiry : ∀ channel s, exec (.busoffHoldExpiry channel) s = execBusoffHoldExpiry channel s := fun _ _ => rfl

theorem exec_busoffRecovered : ∀ channel s, exec (.busoffRecovered channel) s = execBusoffRecovered channel s := fun _ _ => rfl

theorem exec_canReferenceMessageStarts : ∀ channel s, exec (.canReferenceMessageStarts channel) s = execCanReferenceMessageStarts channel s := fun _ _ => rfl

theorem exec_ethernetFrame : ∀ frame s, exec (.ethernetFrame frame) s = execEthernetFrame frame s := fun _ _ => rfl

theorem exec_prpEntryForget : ∀ mac seq s, exec (.prpEntryForget mac seq) s = execPrpEntryForget mac seq s := fun _ _ _ => rfl

theorem exec_rxLimitWindow : ∀ port s, exec (.rxLimitWindow port) s = execRxLimitWindow port s := fun _ _ => rfl

theorem exec_phyPoll : ∀ port answered link s, exec (.phyPoll port answered link) s = execPhyPoll port answered link s := fun _ _ _ _ => rfl

theorem exec_mdioRead : ∀ master value s, exec (.mdioRead master value) s = execMdioRead master value s := fun _ _ _ => rfl

theorem exec_mdioReadDone : ∀ answer s, exec (.mdioReadDone answer) s = execMdioReadDone answer s := fun _ _ => rfl

theorem exec_arpRefresh : ∀ ip s, exec (.arpRefresh ip) s = execArpRefresh ip s := fun _ _ => rfl

theorem exec_arpTimeout : ∀ ip s, exec (.arpTimeout ip) s = execArpTimeout ip s := fun _ _ => rfl

theorem exec_serviceRead : ∀ req s, exec (.serviceRead req) s = execServiceRead req s := fun _ _ => rfl

theorem exec_serviceWrite : ∀ req s, exec (.serviceWrite req) s = execServiceWrite req s := fun _ _ => rfl

theorem exec_fieldSampleTaken : ∀ channel input s, exec (.fieldSampleTaken channel input) s = execFieldSampleTaken channel input s := fun _ _ _ => rfl

theorem exec_fieldOutputWrite : ∀ master channel value s, exec (.fieldOutputWrite master channel value) s = execFieldOutputWrite master channel value s := fun _ _ _ _ => rfl

theorem exec_fieldFaultTimerEnds : ∀ channel condition s, exec (.fieldFaultTimerEnds channel condition) s = execFieldFaultTimerEnds channel condition s := fun _ _ _ => rfl

theorem exec_readbackMismatch : ∀ channel s, exec (.readbackMismatch channel) s = execReadbackMismatch channel s := fun _ _ => rfl

theorem exec_modulatorOverload : ∀ channel s, exec (.modulatorOverload channel) s = execModulatorOverload channel s := fun _ _ => rfl

theorem exec_engineShadowEnd : ∀ cluster same s, exec (.engineShadowEnd cluster same) s = execEngineShadowEnd cluster same s := fun _ _ _ => rfl

theorem exec_engineTestEnd : ∀ cluster sparePasses s, exec (.engineTestEnd cluster sparePasses) s = execEngineTestEnd cluster sparePasses s := fun _ _ _ => rfl

theorem exec_fieldTestInjection : ∀ channel s, exec (.fieldTestInjection channel) s = execFieldTestInjection channel s := fun _ _ => rfl

theorem exec_fieldTestInjectionEnds : ∀ channel s, exec (.fieldTestInjectionEnds channel) s = execFieldTestInjectionEnds channel s := fun _ _ => rfl

theorem exec_loopSample : ∀ slot s, exec (.loopSample slot) s = execLoopSample slot s := fun _ _ => rfl

theorem exec_loopFollowingError : ∀ slot s, exec (.loopFollowingError slot) s = execLoopFollowingError slot s := fun _ _ => rfl

theorem exec_loopPlausibility : ∀ slot s, exec (.loopPlausibility slot) s = execLoopPlausibility slot s := fun _ _ => rfl

theorem exec_interruptAssert : ∀ source s, exec (.interruptAssert source) s = execInterruptAssert source s := fun _ _ => rfl

theorem exec_claim : ∀ master target s, exec (.claim master target) s = execClaim master target s := fun _ _ _ => rfl

theorem exec_complete : ∀ master target value s, exec (.complete master target value) s = execComplete master target value s := fun _ _ _ _ => rfl

theorem exec_unfreeze : ∀ master target s, exec (.unfreeze master target) s = execUnfreeze master target s := fun _ _ _ => rfl

theorem exec_moderationInterval : ∀ target s, exec (.moderationInterval target) s = execModerationInterval target s := fun _ _ => rfl

theorem exec_targetIdle : ∀ target s, exec (.targetIdle target) s = execTargetIdle target s := fun _ _ => rfl

theorem exec_doorbellSet : ∀ master value s, exec (.doorbellSet master value) s = execDoorbellSet master value s := fun _ _ _ => rfl

theorem exec_machineTimer : ∀ core s, exec (.machineTimer core) s = execMachineTimer core s := fun _ _ => rfl

theorem exec_hostRead : ∀ addr words s, exec (.hostRead addr words) s = execHostRead addr words s := fun _ _ _ => rfl

theorem exec_hostQuadRead : ∀ addr words s, exec (.hostQuadRead addr words) s = execHostQuadRead addr words s := fun _ _ _ => rfl

theorem exec_hostWrite : ∀ addr words partialWord s, exec (.hostWrite addr words partialWord) s = execHostWrite addr words partialWord s := fun _ _ _ _ => rfl

theorem exec_hostQuadWrite : ∀ addr words partialWord s, exec (.hostQuadWrite addr words partialWord) s = execHostQuadWrite addr words partialWord s := fun _ _ _ _ => rfl

theorem exec_hostStatus : ∀ s, exec .hostStatus s = execHostStatus s := fun _ => rfl

theorem exec_hostWritePerform : ∀ s, exec .hostWritePerform s = execHostWritePerform s := fun _ => rfl

theorem exec_flashErase : ∀ master s, exec (.flashErase master) s = execFlashErase master s := fun _ _ => rfl

theorem exec_flashProgram : ∀ master s, exec (.flashProgram master) s = execFlashProgram master s := fun _ _ => rfl

theorem exec_flashRead : ∀ master s, exec (.flashRead master) s = execFlashRead master s := fun _ _ => rfl

theorem exec_flashCommandDone : ∀ failed s, exec (.flashCommandDone failed) s = execFlashCommandDone failed s := fun _ _ => rfl

theorem exec_elkPortLost : ∀ port s, exec (.elkPortLost port) s = execElkPortLost port s := fun _ _ => rfl

theorem exec_elkPortRetry : ∀ port s, exec (.elkPortRetry port) s = execElkPortRetry port s := fun _ _ => rfl

theorem exec_elkRetransmitFrame : ∀ port vc nak s, exec (.elkRetransmitFrame port vc nak) s = execElkRetransmitFrame port vc nak s := fun _ _ _ _ => rfl

theorem exec_elkHelloSend : ∀ port s, exec (.elkHelloSend port) s = execElkHelloSend port s := fun _ _ => rfl

theorem exec_elkHello : ∀ port member formId s, exec (.elkHello port member formId) s = execElkHello port member formId s := fun _ _ _ _ => rfl

theorem exec_elkPacket : ∀ port header packet s, exec (.elkPacket port header packet) s = execElkPacket port header packet s := fun _ _ _ _ => rfl

theorem exec_elkUdpDatagram : ∀ peer vc hopSeq packet s, exec (.elkUdpDatagram peer vc hopSeq packet) s = execElkUdpDatagram peer vc hopSeq packet s := fun _ _ _ _ _ => rfl

theorem exec_subSend : ∀ s, exec .subSend s = execSubSend s := fun _ => rfl

theorem exec_subscriberExpiry : ∀ member s, exec (.subscriberExpiry member) s = execSubscriberExpiry member s := fun _ _ => rfl

theorem exec_subscriptionTimeout : ∀ unit s, exec (.subscriptionTimeout unit) s = execSubscriptionTimeout unit s := fun _ _ => rfl

theorem exec_formationSetClose : ∀ epoch s, exec (.formationSetClose epoch) s = execFormationSetClose epoch s := fun _ _ => rfl

theorem exec_viewOpen : ∀ master s, exec (.viewOpen master) s = execViewOpen master s := fun _ _ => rfl

theorem exec_viewClose : ∀ master s, exec (.viewClose master) s = execViewClose master s := fun _ _ => rfl

theorem exec_windowRead : ∀ master offset s, exec (.windowRead master offset) s = execWindowRead master offset s := fun _ _ _ => rfl

theorem exec_fabricTimeout : ∀ master region s, exec (.fabricTimeout master region) s = execFabricTimeout master region s := fun _ _ _ => rfl

theorem exec_registerWrite : ∀ master addr value s, exec (.registerWrite master addr value) s = execRegisterWrite master addr value s := fun _ _ _ _ => rfl

theorem exec_lockstepMismatch : ∀ pair s, exec (.lockstepMismatch pair) s = execLockstepMismatch pair s := fun _ _ => rfl

theorem exec_eccError : ∀ bank correctable ofCycle s, exec (.eccError bank correctable ofCycle) s = execEccError bank correctable ofCycle s := fun _ _ _ _ => rfl

theorem exec_eccScrub : ∀ memory corrected s, exec (.eccScrub memory corrected) s = execEccScrub memory corrected s := fun _ _ _ => rfl

theorem exec_railFault : ∀ rail s, exec (.railFault rail) s = execRailFault rail s := fun _ _ => rfl

theorem exec_annealMeasurement : ∀ dies diodes s, exec (.annealMeasurement dies diodes) s = execAnnealMeasurement dies diodes s := fun _ _ _ => rfl

theorem exec_trimStep : ∀ rail s, exec (.trimStep rail) s = execTrimStep rail s := fun _ _ => rfl

theorem exec_thermalUpdateRuns : ∀ rails vin coils diodes s, exec (.thermalUpdateRuns rails vin coils diodes) s = execThermalUpdateRuns rails vin coils diodes s := fun _ _ _ _ _ => rfl

theorem exec_trefTrack : ∀ s, exec .trefTrack s = execTrefTrack s := fun _ => rfl

theorem exec_cooled : ∀ s, exec .cooled s = execCooled s := fun _ => rfl

theorem exec_operatingTimeTick : ∀ s, exec .operatingTimeTick s = execOperatingTimeTick s := fun _ => rfl

theorem exec_waveformStart : ∀ vlcdMv s, exec (.waveformStart vlcdMv) s = execWaveformStart vlcdMv s := fun _ _ => rfl

theorem exec_waveformPhaseEnd : ∀ s, exec .waveformPhaseEnd s = execWaveformPhaseEnd s := fun _ => rfl

theorem exec_waveformEnd : ∀ s, exec .waveformEnd s = execWaveformEnd s := fun _ => rfl

theorem exec_annCommit : ∀ master value s, exec (.annCommit master value) s = execAnnCommit master value s := fun _ _ _ => rfl

theorem exec_vlcdTimeout : ∀ vlcdMv s, exec (.vlcdTimeout vlcdMv) s = execVlcdTimeout vlcdMv s := fun _ _ => rfl

theorem exec_registerRead : ∀ master addr s, exec (.registerRead master addr) s = execRegisterRead master addr s := fun _ _ _ => rfl

theorem exec_refinReturn : ∀ s, exec .refinReturn s = execRefinReturn s := fun _ => rfl

theorem exec_hidleFall : ∀ s, exec .hidleFall s = execHidleFall s := fun _ => rfl

theorem exec_halfCycleResolved : ∀ chan s, exec (.halfCycleResolved chan) s = execHalfCycleResolved chan s := fun _ _ => rfl

theorem exec_transmitTimeResolved : ∀ chan s, exec (.transmitTimeResolved chan) s = execTransmitTimeResolved chan s := fun _ _ => rfl

theorem exec_twinLaneUp : ∀ lane s, exec (.twinLaneUp lane) s = execTwinLaneUp lane s := fun _ _ => rfl

end Sys2Proof.Machine
end

