-- ==== Sys2Proof/Laws/State.lean ====
section
/-! SUPPORT. The fields of the state after each shared update, reads of registers after writes, and the list of alarms after it changes. -/
namespace Sys2Proof.Machine

@[simp] theorem State.setReg_serial (s : State) (a : Nat) (w : Word) : (s.setReg a w).serial = s.serial := rfl
@[simp] theorem State.setReg_devKey (s : State) (a : Nat) (w : Word) : (s.setReg a w).devKey = s.devKey := rfl
@[simp] theorem State.setReg_clk (s : State) (a : Nat) (w : Word) : (s.setReg a w).clk = s.clk := rfl
@[simp] theorem State.setReg_boot (s : State) (a : Nat) (w : Word) : (s.setReg a w).boot = s.boot := rfl
@[simp] theorem State.setReg_pat (s : State) (a : Nat) (w : Word) : (s.setReg a w).pat = s.pat := rfl
@[simp] theorem State.setReg_dev (s : State) (a : Nat) (w : Word) : (s.setReg a w).dev = s.dev := rfl
@[simp] theorem State.setReg_ord (s : State) (a : Nat) (w : Word) : (s.setReg a w).ord = s.ord := rfl
@[simp] theorem State.setReg_alarms (s : State) (a : Nat) (w : Word) : (s.setReg a w).alarms = s.alarms := rfl
@[simp] theorem State.setReg_rcd (s : State) (a : Nat) (w : Word) : (s.setReg a w).rcd = s.rcd := rfl
@[simp] theorem State.setReg_mram (s : State) (a : Nat) (w : Word) : (s.setReg a w).mram = s.mram := rfl
@[simp] theorem State.setReg_ann (s : State) (a : Nat) (w : Word) : (s.setReg a w).ann = s.ann := rfl
@[simp] theorem State.setReg_intc (s : State) (a : Nat) (w : Word) : (s.setReg a w).intc = s.intc := rfl
@[simp] theorem State.setReg_hst (s : State) (a : Nat) (w : Word) : (s.setReg a w).hst = s.hst := rfl
@[simp] theorem State.setReg_apps (s : State) (a : Nat) (w : Word) : (s.setReg a w).apps = s.apps := rfl
@[simp] theorem State.setReg_sti (s : State) (a : Nat) (w : Word) : (s.setReg a w).sti = s.sti := rfl
@[simp] theorem State.setReg_acl (s : State) (a : Nat) (w : Word) : (s.setReg a w).acl = s.acl := rfl
@[simp] theorem State.setReg_tim (s : State) (a : Nat) (w : Word) : (s.setReg a w).tim = s.tim := rfl
@[simp] theorem State.setReg_pins (s : State) (a : Nat) (w : Word) : (s.setReg a w).pins = s.pins := rfl
@[simp] theorem State.setReg_agr (s : State) (a : Nat) (w : Word) : (s.setReg a w).agr = s.agr := rfl
@[simp] theorem State.setReg_twn (s : State) (a : Nat) (w : Word) : (s.setReg a w).twn = s.twn := rfl
@[simp] theorem State.setReg_saf (s : State) (a : Nat) (w : Word) : (s.setReg a w).saf = s.saf := rfl
@[simp] theorem State.setReg_hlt (s : State) (a : Nat) (w : Word) : (s.setReg a w).hlt = s.hlt := rfl
@[simp] theorem State.setReg_thm (s : State) (a : Nat) (w : Word) : (s.setReg a w).thm = s.thm := rfl
@[simp] theorem State.setReg_gns (s : State) (a : Nat) (w : Word) : (s.setReg a w).gns = s.gns := rfl
@[simp] theorem State.setReg_fus (s : State) (a : Nat) (w : Word) : (s.setReg a w).fus = s.fus := rfl
@[simp] theorem State.setReg_ctl (s : State) (a : Nat) (w : Word) : (s.setReg a w).ctl = s.ctl := rfl
@[simp] theorem State.setReg_alc (s : State) (a : Nat) (w : Word) : (s.setReg a w).alc = s.alc := rfl
@[simp] theorem State.setReg_slv (s : State) (a : Nat) (w : Word) : (s.setReg a w).slv = s.slv := rfl
@[simp] theorem State.setReg_fch (s : State) (a : Nat) (w : Word) : (s.setReg a w).fch = s.fch := rfl
@[simp] theorem State.setReg_loops (s : State) (a : Nat) (w : Word) : (s.setReg a w).loops = s.loops := rfl
@[simp] theorem State.setReg_net (s : State) (a : Nat) (w : Word) : (s.setReg a w).net = s.net := rfl
@[simp] theorem State.setReg_can (s : State) (a : Nat) (w : Word) : (s.setReg a w).can = s.can := rfl
@[simp] theorem State.setReg_spt (s : State) (a : Nat) (w : Word) : (s.setReg a w).spt = s.spt := rfl
@[simp] theorem State.setReg_elk (s : State) (a : Nat) (w : Word) : (s.setReg a w).elk = s.elk := rfl
@[simp] theorem State.setReg_flashCmd (s : State) (a : Nat) (w : Word) : (s.setReg a w).flashCmd = s.flashCmd := rfl
@[simp] theorem State.setReg_appm (s : State) (a : Nat) (w : Word) : (s.setReg a w).appm = s.appm := rfl
@[simp] theorem State.setReg_flash (s : State) (a : Nat) (w : Word) : (s.setReg a w).flash = s.flash := rfl
@[simp] theorem State.setReg_xchg (s : State) (a : Nat) (w : Word) : (s.setReg a w).xchg = s.xchg := rfl
@[simp] theorem State.setReg_out (s : State) (a : Nat) (w : Word) : (s.setReg a w).out = s.out := rfl
@[simp] theorem State.setReg_freeCtr (s : State) (a : Nat) (w : Word) : (s.setReg a w).freeCtr = s.freeCtr := rfl
@[simp] theorem State.setReg_pending (s : State) (a : Nat) (w : Word) : (s.setReg a w).pending = s.pending := rfl

@[simp] theorem State.setFld_serial (s : State) (f : Fld) (v : Nat) : (s.setFld f v).serial = s.serial := rfl
@[simp] theorem State.setFld_devKey (s : State) (f : Fld) (v : Nat) : (s.setFld f v).devKey = s.devKey := rfl
@[simp] theorem State.setFld_clk (s : State) (f : Fld) (v : Nat) : (s.setFld f v).clk = s.clk := rfl
@[simp] theorem State.setFld_boot (s : State) (f : Fld) (v : Nat) : (s.setFld f v).boot = s.boot := rfl
@[simp] theorem State.setFld_pat (s : State) (f : Fld) (v : Nat) : (s.setFld f v).pat = s.pat := rfl
@[simp] theorem State.setFld_dev (s : State) (f : Fld) (v : Nat) : (s.setFld f v).dev = s.dev := rfl
@[simp] theorem State.setFld_ord (s : State) (f : Fld) (v : Nat) : (s.setFld f v).ord = s.ord := rfl
@[simp] theorem State.setFld_alarms (s : State) (f : Fld) (v : Nat) : (s.setFld f v).alarms = s.alarms := rfl
@[simp] theorem State.setFld_rcd (s : State) (f : Fld) (v : Nat) : (s.setFld f v).rcd = s.rcd := rfl
@[simp] theorem State.setFld_mram (s : State) (f : Fld) (v : Nat) : (s.setFld f v).mram = s.mram := rfl
@[simp] theorem State.setFld_ann (s : State) (f : Fld) (v : Nat) : (s.setFld f v).ann = s.ann := rfl
@[simp] theorem State.setFld_intc (s : State) (f : Fld) (v : Nat) : (s.setFld f v).intc = s.intc := rfl
@[simp] theorem State.setFld_hst (s : State) (f : Fld) (v : Nat) : (s.setFld f v).hst = s.hst := rfl
@[simp] theorem State.setFld_apps (s : State) (f : Fld) (v : Nat) : (s.setFld f v).apps = s.apps := rfl
@[simp] theorem State.setFld_sti (s : State) (f : Fld) (v : Nat) : (s.setFld f v).sti = s.sti := rfl
@[simp] theorem State.setFld_acl (s : State) (f : Fld) (v : Nat) : (s.setFld f v).acl = s.acl := rfl
@[simp] theorem State.setFld_tim (s : State) (f : Fld) (v : Nat) : (s.setFld f v).tim = s.tim := rfl
@[simp] theorem State.setFld_pins (s : State) (f : Fld) (v : Nat) : (s.setFld f v).pins = s.pins := rfl
@[simp] theorem State.setFld_agr (s : State) (f : Fld) (v : Nat) : (s.setFld f v).agr = s.agr := rfl
@[simp] theorem State.setFld_twn (s : State) (f : Fld) (v : Nat) : (s.setFld f v).twn = s.twn := rfl
@[simp] theorem State.setFld_saf (s : State) (f : Fld) (v : Nat) : (s.setFld f v).saf = s.saf := rfl
@[simp] theorem State.setFld_hlt (s : State) (f : Fld) (v : Nat) : (s.setFld f v).hlt = s.hlt := rfl
@[simp] theorem State.setFld_thm (s : State) (f : Fld) (v : Nat) : (s.setFld f v).thm = s.thm := rfl
@[simp] theorem State.setFld_gns (s : State) (f : Fld) (v : Nat) : (s.setFld f v).gns = s.gns := rfl
@[simp] theorem State.setFld_fus (s : State) (f : Fld) (v : Nat) : (s.setFld f v).fus = s.fus := rfl
@[simp] theorem State.setFld_ctl (s : State) (f : Fld) (v : Nat) : (s.setFld f v).ctl = s.ctl := rfl
@[simp] theorem State.setFld_alc (s : State) (f : Fld) (v : Nat) : (s.setFld f v).alc = s.alc := rfl
@[simp] theorem State.setFld_slv (s : State) (f : Fld) (v : Nat) : (s.setFld f v).slv = s.slv := rfl
@[simp] theorem State.setFld_fch (s : State) (f : Fld) (v : Nat) : (s.setFld f v).fch = s.fch := rfl
@[simp] theorem State.setFld_loops (s : State) (f : Fld) (v : Nat) : (s.setFld f v).loops = s.loops := rfl
@[simp] theorem State.setFld_net (s : State) (f : Fld) (v : Nat) : (s.setFld f v).net = s.net := rfl
@[simp] theorem State.setFld_can (s : State) (f : Fld) (v : Nat) : (s.setFld f v).can = s.can := rfl
@[simp] theorem State.setFld_spt (s : State) (f : Fld) (v : Nat) : (s.setFld f v).spt = s.spt := rfl
@[simp] theorem State.setFld_elk (s : State) (f : Fld) (v : Nat) : (s.setFld f v).elk = s.elk := rfl
@[simp] theorem State.setFld_flashCmd (s : State) (f : Fld) (v : Nat) : (s.setFld f v).flashCmd = s.flashCmd := rfl
@[simp] theorem State.setFld_appm (s : State) (f : Fld) (v : Nat) : (s.setFld f v).appm = s.appm := rfl
@[simp] theorem State.setFld_flash (s : State) (f : Fld) (v : Nat) : (s.setFld f v).flash = s.flash := rfl
@[simp] theorem State.setFld_xchg (s : State) (f : Fld) (v : Nat) : (s.setFld f v).xchg = s.xchg := rfl
@[simp] theorem State.setFld_out (s : State) (f : Fld) (v : Nat) : (s.setFld f v).out = s.out := rfl
@[simp] theorem State.setFld_freeCtr (s : State) (f : Fld) (v : Nat) : (s.setFld f v).freeCtr = s.freeCtr := rfl
@[simp] theorem State.setFld_pending (s : State) (f : Fld) (v : Nat) : (s.setFld f v).pending = s.pending := rfl

@[simp] theorem State.setFlag_serial (s : State) (f : Fld) (b : Bool) : (s.setFlag f b).serial = s.serial := rfl
@[simp] theorem State.setFlag_devKey (s : State) (f : Fld) (b : Bool) : (s.setFlag f b).devKey = s.devKey := rfl
@[simp] theorem State.setFlag_clk (s : State) (f : Fld) (b : Bool) : (s.setFlag f b).clk = s.clk := rfl
@[simp] theorem State.setFlag_boot (s : State) (f : Fld) (b : Bool) : (s.setFlag f b).boot = s.boot := rfl
@[simp] theorem State.setFlag_pat (s : State) (f : Fld) (b : Bool) : (s.setFlag f b).pat = s.pat := rfl
@[simp] theorem State.setFlag_dev (s : State) (f : Fld) (b : Bool) : (s.setFlag f b).dev = s.dev := rfl
@[simp] theorem State.setFlag_ord (s : State) (f : Fld) (b : Bool) : (s.setFlag f b).ord = s.ord := rfl
@[simp] theorem State.setFlag_alarms (s : State) (f : Fld) (b : Bool) : (s.setFlag f b).alarms = s.alarms := rfl
@[simp] theorem State.setFlag_rcd (s : State) (f : Fld) (b : Bool) : (s.setFlag f b).rcd = s.rcd := rfl
@[simp] theorem State.setFlag_mram (s : State) (f : Fld) (b : Bool) : (s.setFlag f b).mram = s.mram := rfl
@[simp] theorem State.setFlag_ann (s : State) (f : Fld) (b : Bool) : (s.setFlag f b).ann = s.ann := rfl
@[simp] theorem State.setFlag_intc (s : State) (f : Fld) (b : Bool) : (s.setFlag f b).intc = s.intc := rfl
@[simp] theorem State.setFlag_hst (s : State) (f : Fld) (b : Bool) : (s.setFlag f b).hst = s.hst := rfl
@[simp] theorem State.setFlag_apps (s : State) (f : Fld) (b : Bool) : (s.setFlag f b).apps = s.apps := rfl
@[simp] theorem State.setFlag_sti (s : State) (f : Fld) (b : Bool) : (s.setFlag f b).sti = s.sti := rfl
@[simp] theorem State.setFlag_acl (s : State) (f : Fld) (b : Bool) : (s.setFlag f b).acl = s.acl := rfl
@[simp] theorem State.setFlag_tim (s : State) (f : Fld) (b : Bool) : (s.setFlag f b).tim = s.tim := rfl
@[simp] theorem State.setFlag_pins (s : State) (f : Fld) (b : Bool) : (s.setFlag f b).pins = s.pins := rfl
@[simp] theorem State.setFlag_agr (s : State) (f : Fld) (b : Bool) : (s.setFlag f b).agr = s.agr := rfl
@[simp] theorem State.setFlag_twn (s : State) (f : Fld) (b : Bool) : (s.setFlag f b).twn = s.twn := rfl
@[simp] theorem State.setFlag_saf (s : State) (f : Fld) (b : Bool) : (s.setFlag f b).saf = s.saf := rfl
@[simp] theorem State.setFlag_hlt (s : State) (f : Fld) (b : Bool) : (s.setFlag f b).hlt = s.hlt := rfl
@[simp] theorem State.setFlag_thm (s : State) (f : Fld) (b : Bool) : (s.setFlag f b).thm = s.thm := rfl
@[simp] theorem State.setFlag_gns (s : State) (f : Fld) (b : Bool) : (s.setFlag f b).gns = s.gns := rfl
@[simp] theorem State.setFlag_fus (s : State) (f : Fld) (b : Bool) : (s.setFlag f b).fus = s.fus := rfl
@[simp] theorem State.setFlag_ctl (s : State) (f : Fld) (b : Bool) : (s.setFlag f b).ctl = s.ctl := rfl
@[simp] theorem State.setFlag_alc (s : State) (f : Fld) (b : Bool) : (s.setFlag f b).alc = s.alc := rfl
@[simp] theorem State.setFlag_slv (s : State) (f : Fld) (b : Bool) : (s.setFlag f b).slv = s.slv := rfl
@[simp] theorem State.setFlag_fch (s : State) (f : Fld) (b : Bool) : (s.setFlag f b).fch = s.fch := rfl
@[simp] theorem State.setFlag_loops (s : State) (f : Fld) (b : Bool) : (s.setFlag f b).loops = s.loops := rfl
@[simp] theorem State.setFlag_net (s : State) (f : Fld) (b : Bool) : (s.setFlag f b).net = s.net := rfl
@[simp] theorem State.setFlag_can (s : State) (f : Fld) (b : Bool) : (s.setFlag f b).can = s.can := rfl
@[simp] theorem State.setFlag_spt (s : State) (f : Fld) (b : Bool) : (s.setFlag f b).spt = s.spt := rfl
@[simp] theorem State.setFlag_elk (s : State) (f : Fld) (b : Bool) : (s.setFlag f b).elk = s.elk := rfl
@[simp] theorem State.setFlag_flashCmd (s : State) (f : Fld) (b : Bool) : (s.setFlag f b).flashCmd = s.flashCmd := rfl
@[simp] theorem State.setFlag_appm (s : State) (f : Fld) (b : Bool) : (s.setFlag f b).appm = s.appm := rfl
@[simp] theorem State.setFlag_flash (s : State) (f : Fld) (b : Bool) : (s.setFlag f b).flash = s.flash := rfl
@[simp] theorem State.setFlag_xchg (s : State) (f : Fld) (b : Bool) : (s.setFlag f b).xchg = s.xchg := rfl
@[simp] theorem State.setFlag_out (s : State) (f : Fld) (b : Bool) : (s.setFlag f b).out = s.out := rfl
@[simp] theorem State.setFlag_freeCtr (s : State) (f : Fld) (b : Bool) : (s.setFlag f b).freeCtr = s.freeCtr := rfl
@[simp] theorem State.setFlag_pending (s : State) (f : Fld) (b : Bool) : (s.setFlag f b).pending = s.pending := rfl

@[simp] theorem State.event_serial (s : State) (f : Fld) : (s.event f).serial = s.serial := rfl
@[simp] theorem State.event_devKey (s : State) (f : Fld) : (s.event f).devKey = s.devKey := rfl
@[simp] theorem State.event_clk (s : State) (f : Fld) : (s.event f).clk = s.clk := rfl
@[simp] theorem State.event_boot (s : State) (f : Fld) : (s.event f).boot = s.boot := rfl
@[simp] theorem State.event_pat (s : State) (f : Fld) : (s.event f).pat = s.pat := rfl
@[simp] theorem State.event_dev (s : State) (f : Fld) : (s.event f).dev = s.dev := rfl
@[simp] theorem State.event_ord (s : State) (f : Fld) : (s.event f).ord = s.ord := rfl
@[simp] theorem State.event_alarms (s : State) (f : Fld) : (s.event f).alarms = s.alarms := rfl
@[simp] theorem State.event_rcd (s : State) (f : Fld) : (s.event f).rcd = s.rcd := rfl
@[simp] theorem State.event_mram (s : State) (f : Fld) : (s.event f).mram = s.mram := rfl
@[simp] theorem State.event_ann (s : State) (f : Fld) : (s.event f).ann = s.ann := rfl
@[simp] theorem State.event_intc (s : State) (f : Fld) : (s.event f).intc = s.intc := rfl
@[simp] theorem State.event_hst (s : State) (f : Fld) : (s.event f).hst = s.hst := rfl
@[simp] theorem State.event_apps (s : State) (f : Fld) : (s.event f).apps = s.apps := rfl
@[simp] theorem State.event_sti (s : State) (f : Fld) : (s.event f).sti = s.sti := rfl
@[simp] theorem State.event_acl (s : State) (f : Fld) : (s.event f).acl = s.acl := rfl
@[simp] theorem State.event_tim (s : State) (f : Fld) : (s.event f).tim = s.tim := rfl
@[simp] theorem State.event_pins (s : State) (f : Fld) : (s.event f).pins = s.pins := rfl
@[simp] theorem State.event_agr (s : State) (f : Fld) : (s.event f).agr = s.agr := rfl
@[simp] theorem State.event_twn (s : State) (f : Fld) : (s.event f).twn = s.twn := rfl
@[simp] theorem State.event_saf (s : State) (f : Fld) : (s.event f).saf = s.saf := rfl
@[simp] theorem State.event_hlt (s : State) (f : Fld) : (s.event f).hlt = s.hlt := rfl
@[simp] theorem State.event_thm (s : State) (f : Fld) : (s.event f).thm = s.thm := rfl
@[simp] theorem State.event_gns (s : State) (f : Fld) : (s.event f).gns = s.gns := rfl
@[simp] theorem State.event_fus (s : State) (f : Fld) : (s.event f).fus = s.fus := rfl
@[simp] theorem State.event_ctl (s : State) (f : Fld) : (s.event f).ctl = s.ctl := rfl
@[simp] theorem State.event_alc (s : State) (f : Fld) : (s.event f).alc = s.alc := rfl
@[simp] theorem State.event_slv (s : State) (f : Fld) : (s.event f).slv = s.slv := rfl
@[simp] theorem State.event_fch (s : State) (f : Fld) : (s.event f).fch = s.fch := rfl
@[simp] theorem State.event_loops (s : State) (f : Fld) : (s.event f).loops = s.loops := rfl
@[simp] theorem State.event_net (s : State) (f : Fld) : (s.event f).net = s.net := rfl
@[simp] theorem State.event_can (s : State) (f : Fld) : (s.event f).can = s.can := rfl
@[simp] theorem State.event_spt (s : State) (f : Fld) : (s.event f).spt = s.spt := rfl
@[simp] theorem State.event_elk (s : State) (f : Fld) : (s.event f).elk = s.elk := rfl
@[simp] theorem State.event_flashCmd (s : State) (f : Fld) : (s.event f).flashCmd = s.flashCmd := rfl
@[simp] theorem State.event_appm (s : State) (f : Fld) : (s.event f).appm = s.appm := rfl
@[simp] theorem State.event_flash (s : State) (f : Fld) : (s.event f).flash = s.flash := rfl
@[simp] theorem State.event_xchg (s : State) (f : Fld) : (s.event f).xchg = s.xchg := rfl
@[simp] theorem State.event_out (s : State) (f : Fld) : (s.event f).out = s.out := rfl
@[simp] theorem State.event_freeCtr (s : State) (f : Fld) : (s.event f).freeCtr = s.freeCtr := rfl
@[simp] theorem State.event_pending (s : State) (f : Fld) : (s.event f).pending = s.pending := rfl

@[simp] theorem State.bump_serial (s : State) (f : Fld) (n : Nat) : (s.bump f n).serial = s.serial := rfl
@[simp] theorem State.bump_devKey (s : State) (f : Fld) (n : Nat) : (s.bump f n).devKey = s.devKey := rfl
@[simp] theorem State.bump_clk (s : State) (f : Fld) (n : Nat) : (s.bump f n).clk = s.clk := rfl
@[simp] theorem State.bump_boot (s : State) (f : Fld) (n : Nat) : (s.bump f n).boot = s.boot := rfl
@[simp] theorem State.bump_pat (s : State) (f : Fld) (n : Nat) : (s.bump f n).pat = s.pat := rfl
@[simp] theorem State.bump_dev (s : State) (f : Fld) (n : Nat) : (s.bump f n).dev = s.dev := rfl
@[simp] theorem State.bump_ord (s : State) (f : Fld) (n : Nat) : (s.bump f n).ord = s.ord := rfl
@[simp] theorem State.bump_alarms (s : State) (f : Fld) (n : Nat) : (s.bump f n).alarms = s.alarms := rfl
@[simp] theorem State.bump_rcd (s : State) (f : Fld) (n : Nat) : (s.bump f n).rcd = s.rcd := rfl
@[simp] theorem State.bump_mram (s : State) (f : Fld) (n : Nat) : (s.bump f n).mram = s.mram := rfl
@[simp] theorem State.bump_ann (s : State) (f : Fld) (n : Nat) : (s.bump f n).ann = s.ann := rfl
@[simp] theorem State.bump_intc (s : State) (f : Fld) (n : Nat) : (s.bump f n).intc = s.intc := rfl
@[simp] theorem State.bump_hst (s : State) (f : Fld) (n : Nat) : (s.bump f n).hst = s.hst := rfl
@[simp] theorem State.bump_apps (s : State) (f : Fld) (n : Nat) : (s.bump f n).apps = s.apps := rfl
@[simp] theorem State.bump_sti (s : State) (f : Fld) (n : Nat) : (s.bump f n).sti = s.sti := rfl
@[simp] theorem State.bump_acl (s : State) (f : Fld) (n : Nat) : (s.bump f n).acl = s.acl := rfl
@[simp] theorem State.bump_tim (s : State) (f : Fld) (n : Nat) : (s.bump f n).tim = s.tim := rfl
@[simp] theorem State.bump_pins (s : State) (f : Fld) (n : Nat) : (s.bump f n).pins = s.pins := rfl
@[simp] theorem State.bump_agr (s : State) (f : Fld) (n : Nat) : (s.bump f n).agr = s.agr := rfl
@[simp] theorem State.bump_twn (s : State) (f : Fld) (n : Nat) : (s.bump f n).twn = s.twn := rfl
@[simp] theorem State.bump_saf (s : State) (f : Fld) (n : Nat) : (s.bump f n).saf = s.saf := rfl
@[simp] theorem State.bump_hlt (s : State) (f : Fld) (n : Nat) : (s.bump f n).hlt = s.hlt := rfl
@[simp] theorem State.bump_thm (s : State) (f : Fld) (n : Nat) : (s.bump f n).thm = s.thm := rfl
@[simp] theorem State.bump_gns (s : State) (f : Fld) (n : Nat) : (s.bump f n).gns = s.gns := rfl
@[simp] theorem State.bump_fus (s : State) (f : Fld) (n : Nat) : (s.bump f n).fus = s.fus := rfl
@[simp] theorem State.bump_ctl (s : State) (f : Fld) (n : Nat) : (s.bump f n).ctl = s.ctl := rfl
@[simp] theorem State.bump_alc (s : State) (f : Fld) (n : Nat) : (s.bump f n).alc = s.alc := rfl
@[simp] theorem State.bump_slv (s : State) (f : Fld) (n : Nat) : (s.bump f n).slv = s.slv := rfl
@[simp] theorem State.bump_fch (s : State) (f : Fld) (n : Nat) : (s.bump f n).fch = s.fch := rfl
@[simp] theorem State.bump_loops (s : State) (f : Fld) (n : Nat) : (s.bump f n).loops = s.loops := rfl
@[simp] theorem State.bump_net (s : State) (f : Fld) (n : Nat) : (s.bump f n).net = s.net := rfl
@[simp] theorem State.bump_can (s : State) (f : Fld) (n : Nat) : (s.bump f n).can = s.can := rfl
@[simp] theorem State.bump_spt (s : State) (f : Fld) (n : Nat) : (s.bump f n).spt = s.spt := rfl
@[simp] theorem State.bump_elk (s : State) (f : Fld) (n : Nat) : (s.bump f n).elk = s.elk := rfl
@[simp] theorem State.bump_flashCmd (s : State) (f : Fld) (n : Nat) : (s.bump f n).flashCmd = s.flashCmd := rfl
@[simp] theorem State.bump_appm (s : State) (f : Fld) (n : Nat) : (s.bump f n).appm = s.appm := rfl
@[simp] theorem State.bump_flash (s : State) (f : Fld) (n : Nat) : (s.bump f n).flash = s.flash := rfl
@[simp] theorem State.bump_xchg (s : State) (f : Fld) (n : Nat) : (s.bump f n).xchg = s.xchg := rfl
@[simp] theorem State.bump_out (s : State) (f : Fld) (n : Nat) : (s.bump f n).out = s.out := rfl
@[simp] theorem State.bump_freeCtr (s : State) (f : Fld) (n : Nat) : (s.bump f n).freeCtr = s.freeCtr := rfl
@[simp] theorem State.bump_pending (s : State) (f : Fld) (n : Nat) : (s.bump f n).pending = s.pending := rfl

@[simp] theorem State.setRegs_serial (s : State) (a : Nat) (ws : List Word) : (s.setRegs a ws).serial = s.serial := rfl
@[simp] theorem State.setRegs_devKey (s : State) (a : Nat) (ws : List Word) : (s.setRegs a ws).devKey = s.devKey := rfl
@[simp] theorem State.setRegs_clk (s : State) (a : Nat) (ws : List Word) : (s.setRegs a ws).clk = s.clk := rfl
@[simp] theorem State.setRegs_boot (s : State) (a : Nat) (ws : List Word) : (s.setRegs a ws).boot = s.boot := rfl
@[simp] theorem State.setRegs_pat (s : State) (a : Nat) (ws : List Word) : (s.setRegs a ws).pat = s.pat := rfl
@[simp] theorem State.setRegs_dev (s : State) (a : Nat) (ws : List Word) : (s.setRegs a ws).dev = s.dev := rfl
@[simp] theorem State.setRegs_ord (s : State) (a : Nat) (ws : List Word) : (s.setRegs a ws).ord = s.ord := rfl
@[simp] theorem State.setRegs_alarms (s : State) (a : Nat) (ws : List Word) : (s.setRegs a ws).alarms = s.alarms := rfl
@[simp] theorem State.setRegs_rcd (s : State) (a : Nat) (ws : List Word) : (s.setRegs a ws).rcd = s.rcd := rfl
@[simp] theorem State.setRegs_mram (s : State) (a : Nat) (ws : List Word) : (s.setRegs a ws).mram = s.mram := rfl
@[simp] theorem State.setRegs_ann (s : State) (a : Nat) (ws : List Word) : (s.setRegs a ws).ann = s.ann := rfl
@[simp] theorem State.setRegs_intc (s : State) (a : Nat) (ws : List Word) : (s.setRegs a ws).intc = s.intc := rfl
@[simp] theorem State.setRegs_hst (s : State) (a : Nat) (ws : List Word) : (s.setRegs a ws).hst = s.hst := rfl
@[simp] theorem State.setRegs_apps (s : State) (a : Nat) (ws : List Word) : (s.setRegs a ws).apps = s.apps := rfl
@[simp] theorem State.setRegs_sti (s : State) (a : Nat) (ws : List Word) : (s.setRegs a ws).sti = s.sti := rfl
@[simp] theorem State.setRegs_acl (s : State) (a : Nat) (ws : List Word) : (s.setRegs a ws).acl = s.acl := rfl
@[simp] theorem State.setRegs_tim (s : State) (a : Nat) (ws : List Word) : (s.setRegs a ws).tim = s.tim := rfl
@[simp] theorem State.setRegs_pins (s : State) (a : Nat) (ws : List Word) : (s.setRegs a ws).pins = s.pins := rfl
@[simp] theorem State.setRegs_agr (s : State) (a : Nat) (ws : List Word) : (s.setRegs a ws).agr = s.agr := rfl
@[simp] theorem State.setRegs_twn (s : State) (a : Nat) (ws : List Word) : (s.setRegs a ws).twn = s.twn := rfl
@[simp] theorem State.setRegs_saf (s : State) (a : Nat) (ws : List Word) : (s.setRegs a ws).saf = s.saf := rfl
@[simp] theorem State.setRegs_hlt (s : State) (a : Nat) (ws : List Word) : (s.setRegs a ws).hlt = s.hlt := rfl
@[simp] theorem State.setRegs_thm (s : State) (a : Nat) (ws : List Word) : (s.setRegs a ws).thm = s.thm := rfl
@[simp] theorem State.setRegs_gns (s : State) (a : Nat) (ws : List Word) : (s.setRegs a ws).gns = s.gns := rfl
@[simp] theorem State.setRegs_fus (s : State) (a : Nat) (ws : List Word) : (s.setRegs a ws).fus = s.fus := rfl
@[simp] theorem State.setRegs_ctl (s : State) (a : Nat) (ws : List Word) : (s.setRegs a ws).ctl = s.ctl := rfl
@[simp] theorem State.setRegs_alc (s : State) (a : Nat) (ws : List Word) : (s.setRegs a ws).alc = s.alc := rfl
@[simp] theorem State.setRegs_slv (s : State) (a : Nat) (ws : List Word) : (s.setRegs a ws).slv = s.slv := rfl
@[simp] theorem State.setRegs_fch (s : State) (a : Nat) (ws : List Word) : (s.setRegs a ws).fch = s.fch := rfl
@[simp] theorem State.setRegs_loops (s : State) (a : Nat) (ws : List Word) : (s.setRegs a ws).loops = s.loops := rfl
@[simp] theorem State.setRegs_net (s : State) (a : Nat) (ws : List Word) : (s.setRegs a ws).net = s.net := rfl
@[simp] theorem State.setRegs_can (s : State) (a : Nat) (ws : List Word) : (s.setRegs a ws).can = s.can := rfl
@[simp] theorem State.setRegs_spt (s : State) (a : Nat) (ws : List Word) : (s.setRegs a ws).spt = s.spt := rfl
@[simp] theorem State.setRegs_elk (s : State) (a : Nat) (ws : List Word) : (s.setRegs a ws).elk = s.elk := rfl
@[simp] theorem State.setRegs_flashCmd (s : State) (a : Nat) (ws : List Word) : (s.setRegs a ws).flashCmd = s.flashCmd := rfl
@[simp] theorem State.setRegs_appm (s : State) (a : Nat) (ws : List Word) : (s.setRegs a ws).appm = s.appm := rfl
@[simp] theorem State.setRegs_flash (s : State) (a : Nat) (ws : List Word) : (s.setRegs a ws).flash = s.flash := rfl
@[simp] theorem State.setRegs_xchg (s : State) (a : Nat) (ws : List Word) : (s.setRegs a ws).xchg = s.xchg := rfl
@[simp] theorem State.setRegs_out (s : State) (a : Nat) (ws : List Word) : (s.setRegs a ws).out = s.out := rfl
@[simp] theorem State.setRegs_freeCtr (s : State) (a : Nat) (ws : List Word) : (s.setRegs a ws).freeCtr = s.freeCtr := rfl
@[simp] theorem State.setRegs_pending (s : State) (a : Nat) (ws : List Word) : (s.setRegs a ws).pending = s.pending := rfl

@[simp] theorem State.useFree_serial (s : State) : (s.useFree).serial = s.serial := rfl
@[simp] theorem State.useFree_devKey (s : State) : (s.useFree).devKey = s.devKey := rfl
@[simp] theorem State.useFree_clk (s : State) : (s.useFree).clk = s.clk := rfl
@[simp] theorem State.useFree_boot (s : State) : (s.useFree).boot = s.boot := rfl
@[simp] theorem State.useFree_pat (s : State) : (s.useFree).pat = s.pat := rfl
@[simp] theorem State.useFree_dev (s : State) : (s.useFree).dev = s.dev := rfl
@[simp] theorem State.useFree_ord (s : State) : (s.useFree).ord = s.ord := rfl
@[simp] theorem State.useFree_alarms (s : State) : (s.useFree).alarms = s.alarms := rfl
@[simp] theorem State.useFree_rcd (s : State) : (s.useFree).rcd = s.rcd := rfl
@[simp] theorem State.useFree_mram (s : State) : (s.useFree).mram = s.mram := rfl
@[simp] theorem State.useFree_ann (s : State) : (s.useFree).ann = s.ann := rfl
@[simp] theorem State.useFree_intc (s : State) : (s.useFree).intc = s.intc := rfl
@[simp] theorem State.useFree_hst (s : State) : (s.useFree).hst = s.hst := rfl
@[simp] theorem State.useFree_apps (s : State) : (s.useFree).apps = s.apps := rfl
@[simp] theorem State.useFree_sti (s : State) : (s.useFree).sti = s.sti := rfl
@[simp] theorem State.useFree_acl (s : State) : (s.useFree).acl = s.acl := rfl
@[simp] theorem State.useFree_tim (s : State) : (s.useFree).tim = s.tim := rfl
@[simp] theorem State.useFree_pins (s : State) : (s.useFree).pins = s.pins := rfl
@[simp] theorem State.useFree_agr (s : State) : (s.useFree).agr = s.agr := rfl
@[simp] theorem State.useFree_twn (s : State) : (s.useFree).twn = s.twn := rfl
@[simp] theorem State.useFree_saf (s : State) : (s.useFree).saf = s.saf := rfl
@[simp] theorem State.useFree_hlt (s : State) : (s.useFree).hlt = s.hlt := rfl
@[simp] theorem State.useFree_thm (s : State) : (s.useFree).thm = s.thm := rfl
@[simp] theorem State.useFree_gns (s : State) : (s.useFree).gns = s.gns := rfl
@[simp] theorem State.useFree_fus (s : State) : (s.useFree).fus = s.fus := rfl
@[simp] theorem State.useFree_ctl (s : State) : (s.useFree).ctl = s.ctl := rfl
@[simp] theorem State.useFree_alc (s : State) : (s.useFree).alc = s.alc := rfl
@[simp] theorem State.useFree_slv (s : State) : (s.useFree).slv = s.slv := rfl
@[simp] theorem State.useFree_fch (s : State) : (s.useFree).fch = s.fch := rfl
@[simp] theorem State.useFree_loops (s : State) : (s.useFree).loops = s.loops := rfl
@[simp] theorem State.useFree_net (s : State) : (s.useFree).net = s.net := rfl
@[simp] theorem State.useFree_can (s : State) : (s.useFree).can = s.can := rfl
@[simp] theorem State.useFree_spt (s : State) : (s.useFree).spt = s.spt := rfl
@[simp] theorem State.useFree_elk (s : State) : (s.useFree).elk = s.elk := rfl
@[simp] theorem State.useFree_flashCmd (s : State) : (s.useFree).flashCmd = s.flashCmd := rfl
@[simp] theorem State.useFree_regs (s : State) : (s.useFree).regs = s.regs := rfl
@[simp] theorem State.useFree_appm (s : State) : (s.useFree).appm = s.appm := rfl
@[simp] theorem State.useFree_flash (s : State) : (s.useFree).flash = s.flash := rfl
@[simp] theorem State.useFree_xchg (s : State) : (s.useFree).xchg = s.xchg := rfl
@[simp] theorem State.useFree_out (s : State) : (s.useFree).out = s.out := rfl
@[simp] theorem State.useFree_pending (s : State) : (s.useFree).pending = s.pending := rfl

@[simp] theorem State.send_serial (s : State) (c : Chan) (k : MsgKind) (d : List Int) : (s.send c k d).serial = s.serial := rfl
@[simp] theorem State.send_devKey (s : State) (c : Chan) (k : MsgKind) (d : List Int) : (s.send c k d).devKey = s.devKey := rfl
@[simp] theorem State.send_clk (s : State) (c : Chan) (k : MsgKind) (d : List Int) : (s.send c k d).clk = s.clk := rfl
@[simp] theorem State.send_boot (s : State) (c : Chan) (k : MsgKind) (d : List Int) : (s.send c k d).boot = s.boot := rfl
@[simp] theorem State.send_pat (s : State) (c : Chan) (k : MsgKind) (d : List Int) : (s.send c k d).pat = s.pat := rfl
@[simp] theorem State.send_dev (s : State) (c : Chan) (k : MsgKind) (d : List Int) : (s.send c k d).dev = s.dev := rfl
@[simp] theorem State.send_ord (s : State) (c : Chan) (k : MsgKind) (d : List Int) : (s.send c k d).ord = s.ord := rfl
@[simp] theorem State.send_alarms (s : State) (c : Chan) (k : MsgKind) (d : List Int) : (s.send c k d).alarms = s.alarms := rfl
@[simp] theorem State.send_rcd (s : State) (c : Chan) (k : MsgKind) (d : List Int) : (s.send c k d).rcd = s.rcd := rfl
@[simp] theorem State.send_mram (s : State) (c : Chan) (k : MsgKind) (d : List Int) : (s.send c k d).mram = s.mram := rfl
@[simp] theorem State.send_ann (s : State) (c : Chan) (k : MsgKind) (d : List Int) : (s.send c k d).ann = s.ann := rfl
@[simp] theorem State.send_intc (s : State) (c : Chan) (k : MsgKind) (d : List Int) : (s.send c k d).intc = s.intc := rfl
@[simp] theorem State.send_hst (s : State) (c : Chan) (k : MsgKind) (d : List Int) : (s.send c k d).hst = s.hst := rfl
@[simp] theorem State.send_apps (s : State) (c : Chan) (k : MsgKind) (d : List Int) : (s.send c k d).apps = s.apps := rfl
@[simp] theorem State.send_sti (s : State) (c : Chan) (k : MsgKind) (d : List Int) : (s.send c k d).sti = s.sti := rfl
@[simp] theorem State.send_acl (s : State) (c : Chan) (k : MsgKind) (d : List Int) : (s.send c k d).acl = s.acl := rfl
@[simp] theorem State.send_tim (s : State) (c : Chan) (k : MsgKind) (d : List Int) : (s.send c k d).tim = s.tim := rfl
@[simp] theorem State.send_pins (s : State) (c : Chan) (k : MsgKind) (d : List Int) : (s.send c k d).pins = s.pins := rfl
@[simp] theorem State.send_agr (s : State) (c : Chan) (k : MsgKind) (d : List Int) : (s.send c k d).agr = s.agr := rfl
@[simp] theorem State.send_twn (s : State) (c : Chan) (k : MsgKind) (d : List Int) : (s.send c k d).twn = s.twn := rfl
@[simp] theorem State.send_saf (s : State) (c : Chan) (k : MsgKind) (d : List Int) : (s.send c k d).saf = s.saf := rfl
@[simp] theorem State.send_hlt (s : State) (c : Chan) (k : MsgKind) (d : List Int) : (s.send c k d).hlt = s.hlt := rfl
@[simp] theorem State.send_thm (s : State) (c : Chan) (k : MsgKind) (d : List Int) : (s.send c k d).thm = s.thm := rfl
@[simp] theorem State.send_gns (s : State) (c : Chan) (k : MsgKind) (d : List Int) : (s.send c k d).gns = s.gns := rfl
@[simp] theorem State.send_fus (s : State) (c : Chan) (k : MsgKind) (d : List Int) : (s.send c k d).fus = s.fus := rfl
@[simp] theorem State.send_ctl (s : State) (c : Chan) (k : MsgKind) (d : List Int) : (s.send c k d).ctl = s.ctl := rfl
@[simp] theorem State.send_alc (s : State) (c : Chan) (k : MsgKind) (d : List Int) : (s.send c k d).alc = s.alc := rfl
@[simp] theorem State.send_slv (s : State) (c : Chan) (k : MsgKind) (d : List Int) : (s.send c k d).slv = s.slv := rfl
@[simp] theorem State.send_fch (s : State) (c : Chan) (k : MsgKind) (d : List Int) : (s.send c k d).fch = s.fch := rfl
@[simp] theorem State.send_loops (s : State) (c : Chan) (k : MsgKind) (d : List Int) : (s.send c k d).loops = s.loops := rfl
@[simp] theorem State.send_net (s : State) (c : Chan) (k : MsgKind) (d : List Int) : (s.send c k d).net = s.net := rfl
@[simp] theorem State.send_can (s : State) (c : Chan) (k : MsgKind) (d : List Int) : (s.send c k d).can = s.can := rfl
@[simp] theorem State.send_spt (s : State) (c : Chan) (k : MsgKind) (d : List Int) : (s.send c k d).spt = s.spt := rfl
@[simp] theorem State.send_elk (s : State) (c : Chan) (k : MsgKind) (d : List Int) : (s.send c k d).elk = s.elk := rfl
@[simp] theorem State.send_flashCmd (s : State) (c : Chan) (k : MsgKind) (d : List Int) : (s.send c k d).flashCmd = s.flashCmd := rfl
@[simp] theorem State.send_regs (s : State) (c : Chan) (k : MsgKind) (d : List Int) : (s.send c k d).regs = s.regs := rfl
@[simp] theorem State.send_appm (s : State) (c : Chan) (k : MsgKind) (d : List Int) : (s.send c k d).appm = s.appm := rfl
@[simp] theorem State.send_flash (s : State) (c : Chan) (k : MsgKind) (d : List Int) : (s.send c k d).flash = s.flash := rfl
@[simp] theorem State.send_xchg (s : State) (c : Chan) (k : MsgKind) (d : List Int) : (s.send c k d).xchg = s.xchg := rfl
@[simp] theorem State.send_freeCtr (s : State) (c : Chan) (k : MsgKind) (d : List Int) : (s.send c k d).freeCtr = s.freeCtr := rfl
@[simp] theorem State.send_pending (s : State) (c : Chan) (k : MsgKind) (d : List Int) : (s.send c k d).pending = s.pending := rfl

@[simp] theorem State.complete_serial (s : State) (m : Nat) (w : Bool) (a st : Nat) (v : Word) : (s.complete m w a st v).serial = s.serial := rfl
@[simp] theorem State.complete_devKey (s : State) (m : Nat) (w : Bool) (a st : Nat) (v : Word) : (s.complete m w a st v).devKey = s.devKey := rfl
@[simp] theorem State.complete_clk (s : State) (m : Nat) (w : Bool) (a st : Nat) (v : Word) : (s.complete m w a st v).clk = s.clk := rfl
@[simp] theorem State.complete_boot (s : State) (m : Nat) (w : Bool) (a st : Nat) (v : Word) : (s.complete m w a st v).boot = s.boot := rfl
@[simp] theorem State.complete_pat (s : State) (m : Nat) (w : Bool) (a st : Nat) (v : Word) : (s.complete m w a st v).pat = s.pat := rfl
@[simp] theorem State.complete_dev (s : State) (m : Nat) (w : Bool) (a st : Nat) (v : Word) : (s.complete m w a st v).dev = s.dev := rfl
@[simp] theorem State.complete_ord (s : State) (m : Nat) (w : Bool) (a st : Nat) (v : Word) : (s.complete m w a st v).ord = s.ord := rfl
@[simp] theorem State.complete_alarms (s : State) (m : Nat) (w : Bool) (a st : Nat) (v : Word) : (s.complete m w a st v).alarms = s.alarms := rfl
@[simp] theorem State.complete_rcd (s : State) (m : Nat) (w : Bool) (a st : Nat) (v : Word) : (s.complete m w a st v).rcd = s.rcd := rfl
@[simp] theorem State.complete_mram (s : State) (m : Nat) (w : Bool) (a st : Nat) (v : Word) : (s.complete m w a st v).mram = s.mram := rfl
@[simp] theorem State.complete_ann (s : State) (m : Nat) (w : Bool) (a st : Nat) (v : Word) : (s.complete m w a st v).ann = s.ann := rfl
@[simp] theorem State.complete_intc (s : State) (m : Nat) (w : Bool) (a st : Nat) (v : Word) : (s.complete m w a st v).intc = s.intc := rfl
@[simp] theorem State.complete_hst (s : State) (m : Nat) (w : Bool) (a st : Nat) (v : Word) : (s.complete m w a st v).hst = s.hst := rfl
@[simp] theorem State.complete_apps (s : State) (m : Nat) (w : Bool) (a st : Nat) (v : Word) : (s.complete m w a st v).apps = s.apps := rfl
@[simp] theorem State.complete_sti (s : State) (m : Nat) (w : Bool) (a st : Nat) (v : Word) : (s.complete m w a st v).sti = s.sti := rfl
@[simp] theorem State.complete_acl (s : State) (m : Nat) (w : Bool) (a st : Nat) (v : Word) : (s.complete m w a st v).acl = s.acl := rfl
@[simp] theorem State.complete_tim (s : State) (m : Nat) (w : Bool) (a st : Nat) (v : Word) : (s.complete m w a st v).tim = s.tim := rfl
@[simp] theorem State.complete_pins (s : State) (m : Nat) (w : Bool) (a st : Nat) (v : Word) : (s.complete m w a st v).pins = s.pins := rfl
@[simp] theorem State.complete_agr (s : State) (m : Nat) (w : Bool) (a st : Nat) (v : Word) : (s.complete m w a st v).agr = s.agr := rfl
@[simp] theorem State.complete_twn (s : State) (m : Nat) (w : Bool) (a st : Nat) (v : Word) : (s.complete m w a st v).twn = s.twn := rfl
@[simp] theorem State.complete_saf (s : State) (m : Nat) (w : Bool) (a st : Nat) (v : Word) : (s.complete m w a st v).saf = s.saf := rfl
@[simp] theorem State.complete_hlt (s : State) (m : Nat) (w : Bool) (a st : Nat) (v : Word) : (s.complete m w a st v).hlt = s.hlt := rfl
@[simp] theorem State.complete_thm (s : State) (m : Nat) (w : Bool) (a st : Nat) (v : Word) : (s.complete m w a st v).thm = s.thm := rfl
@[simp] theorem State.complete_gns (s : State) (m : Nat) (w : Bool) (a st : Nat) (v : Word) : (s.complete m w a st v).gns = s.gns := rfl
@[simp] theorem State.complete_fus (s : State) (m : Nat) (w : Bool) (a st : Nat) (v : Word) : (s.complete m w a st v).fus = s.fus := rfl
@[simp] theorem State.complete_ctl (s : State) (m : Nat) (w : Bool) (a st : Nat) (v : Word) : (s.complete m w a st v).ctl = s.ctl := rfl
@[simp] theorem State.complete_alc (s : State) (m : Nat) (w : Bool) (a st : Nat) (v : Word) : (s.complete m w a st v).alc = s.alc := rfl
@[simp] theorem State.complete_slv (s : State) (m : Nat) (w : Bool) (a st : Nat) (v : Word) : (s.complete m w a st v).slv = s.slv := rfl
@[simp] theorem State.complete_fch (s : State) (m : Nat) (w : Bool) (a st : Nat) (v : Word) : (s.complete m w a st v).fch = s.fch := rfl
@[simp] theorem State.complete_loops (s : State) (m : Nat) (w : Bool) (a st : Nat) (v : Word) : (s.complete m w a st v).loops = s.loops := rfl
@[simp] theorem State.complete_net (s : State) (m : Nat) (w : Bool) (a st : Nat) (v : Word) : (s.complete m w a st v).net = s.net := rfl
@[simp] theorem State.complete_can (s : State) (m : Nat) (w : Bool) (a st : Nat) (v : Word) : (s.complete m w a st v).can = s.can := rfl
@[simp] theorem State.complete_spt (s : State) (m : Nat) (w : Bool) (a st : Nat) (v : Word) : (s.complete m w a st v).spt = s.spt := rfl
@[simp] theorem State.complete_elk (s : State) (m : Nat) (w : Bool) (a st : Nat) (v : Word) : (s.complete m w a st v).elk = s.elk := rfl
@[simp] theorem State.complete_flashCmd (s : State) (m : Nat) (w : Bool) (a st : Nat) (v : Word) : (s.complete m w a st v).flashCmd = s.flashCmd := rfl
@[simp] theorem State.complete_regs (s : State) (m : Nat) (w : Bool) (a st : Nat) (v : Word) : (s.complete m w a st v).regs = s.regs := rfl
@[simp] theorem State.complete_appm (s : State) (m : Nat) (w : Bool) (a st : Nat) (v : Word) : (s.complete m w a st v).appm = s.appm := rfl
@[simp] theorem State.complete_flash (s : State) (m : Nat) (w : Bool) (a st : Nat) (v : Word) : (s.complete m w a st v).flash = s.flash := rfl
@[simp] theorem State.complete_xchg (s : State) (m : Nat) (w : Bool) (a st : Nat) (v : Word) : (s.complete m w a st v).xchg = s.xchg := rfl
@[simp] theorem State.complete_freeCtr (s : State) (m : Nat) (w : Bool) (a st : Nat) (v : Word) : (s.complete m w a st v).freeCtr = s.freeCtr := rfl
@[simp] theorem State.complete_pending (s : State) (m : Nat) (w : Bool) (a st : Nat) (v : Word) : (s.complete m w a st v).pending = s.pending := rfl

@[simp] theorem State.reach_serial (s : State) (n : Nat) : (s.reach n).serial = s.serial := rfl
@[simp] theorem State.reach_devKey (s : State) (n : Nat) : (s.reach n).devKey = s.devKey := rfl
@[simp] theorem State.reach_clk (s : State) (n : Nat) : (s.reach n).clk = s.clk := rfl
@[simp] theorem State.reach_boot (s : State) (n : Nat) : (s.reach n).boot = s.boot := rfl
@[simp] theorem State.reach_pat (s : State) (n : Nat) : (s.reach n).pat = s.pat := rfl
@[simp] theorem State.reach_dev (s : State) (n : Nat) : (s.reach n).dev = s.dev := rfl
@[simp] theorem State.reach_ord (s : State) (n : Nat) : (s.reach n).ord = s.ord := rfl
@[simp] theorem State.reach_alarms (s : State) (n : Nat) : (s.reach n).alarms = s.alarms := rfl
@[simp] theorem State.reach_rcd (s : State) (n : Nat) : (s.reach n).rcd = s.rcd := rfl
@[simp] theorem State.reach_mram (s : State) (n : Nat) : (s.reach n).mram = s.mram := rfl
@[simp] theorem State.reach_ann (s : State) (n : Nat) : (s.reach n).ann = s.ann := rfl
@[simp] theorem State.reach_intc (s : State) (n : Nat) : (s.reach n).intc = s.intc := rfl
@[simp] theorem State.reach_hst (s : State) (n : Nat) : (s.reach n).hst = s.hst := rfl
@[simp] theorem State.reach_apps (s : State) (n : Nat) : (s.reach n).apps = s.apps := rfl
@[simp] theorem State.reach_sti (s : State) (n : Nat) : (s.reach n).sti = s.sti := rfl
@[simp] theorem State.reach_acl (s : State) (n : Nat) : (s.reach n).acl = s.acl := rfl
@[simp] theorem State.reach_pins (s : State) (n : Nat) : (s.reach n).pins = s.pins := rfl
@[simp] theorem State.reach_agr (s : State) (n : Nat) : (s.reach n).agr = s.agr := rfl
@[simp] theorem State.reach_twn (s : State) (n : Nat) : (s.reach n).twn = s.twn := rfl
@[simp] theorem State.reach_saf (s : State) (n : Nat) : (s.reach n).saf = s.saf := rfl
@[simp] theorem State.reach_hlt (s : State) (n : Nat) : (s.reach n).hlt = s.hlt := rfl
@[simp] theorem State.reach_thm (s : State) (n : Nat) : (s.reach n).thm = s.thm := rfl
@[simp] theorem State.reach_gns (s : State) (n : Nat) : (s.reach n).gns = s.gns := rfl
@[simp] theorem State.reach_fus (s : State) (n : Nat) : (s.reach n).fus = s.fus := rfl
@[simp] theorem State.reach_ctl (s : State) (n : Nat) : (s.reach n).ctl = s.ctl := rfl
@[simp] theorem State.reach_alc (s : State) (n : Nat) : (s.reach n).alc = s.alc := rfl
@[simp] theorem State.reach_slv (s : State) (n : Nat) : (s.reach n).slv = s.slv := rfl
@[simp] theorem State.reach_fch (s : State) (n : Nat) : (s.reach n).fch = s.fch := rfl
@[simp] theorem State.reach_loops (s : State) (n : Nat) : (s.reach n).loops = s.loops := rfl
@[simp] theorem State.reach_net (s : State) (n : Nat) : (s.reach n).net = s.net := rfl
@[simp] theorem State.reach_can (s : State) (n : Nat) : (s.reach n).can = s.can := rfl
@[simp] theorem State.reach_spt (s : State) (n : Nat) : (s.reach n).spt = s.spt := rfl
@[simp] theorem State.reach_elk (s : State) (n : Nat) : (s.reach n).elk = s.elk := rfl
@[simp] theorem State.reach_flashCmd (s : State) (n : Nat) : (s.reach n).flashCmd = s.flashCmd := rfl
@[simp] theorem State.reach_regs (s : State) (n : Nat) : (s.reach n).regs = s.regs := rfl
@[simp] theorem State.reach_appm (s : State) (n : Nat) : (s.reach n).appm = s.appm := rfl
@[simp] theorem State.reach_flash (s : State) (n : Nat) : (s.reach n).flash = s.flash := rfl
@[simp] theorem State.reach_xchg (s : State) (n : Nat) : (s.reach n).xchg = s.xchg := rfl
@[simp] theorem State.reach_out (s : State) (n : Nat) : (s.reach n).out = s.out := rfl
@[simp] theorem State.reach_freeCtr (s : State) (n : Nat) : (s.reach n).freeCtr = s.freeCtr := rfl
@[simp] theorem State.reach_pending (s : State) (n : Nat) : (s.reach n).pending = s.pending := rfl

@[simp] theorem State.reachEl_serial (s : State) (n : Nat) : (s.reachEl n).serial = s.serial := rfl
@[simp] theorem State.reachEl_devKey (s : State) (n : Nat) : (s.reachEl n).devKey = s.devKey := rfl
@[simp] theorem State.reachEl_clk (s : State) (n : Nat) : (s.reachEl n).clk = s.clk := rfl
@[simp] theorem State.reachEl_boot (s : State) (n : Nat) : (s.reachEl n).boot = s.boot := rfl
@[simp] theorem State.reachEl_pat (s : State) (n : Nat) : (s.reachEl n).pat = s.pat := rfl
@[simp] theorem State.reachEl_dev (s : State) (n : Nat) : (s.reachEl n).dev = s.dev := rfl
@[simp] theorem State.reachEl_ord (s : State) (n : Nat) : (s.reachEl n).ord = s.ord := rfl
@[simp] theorem State.reachEl_alarms (s : State) (n : Nat) : (s.reachEl n).alarms = s.alarms := rfl
@[simp] theorem State.reachEl_rcd (s : State) (n : Nat) : (s.reachEl n).rcd = s.rcd := rfl
@[simp] theorem State.reachEl_mram (s : State) (n : Nat) : (s.reachEl n).mram = s.mram := rfl
@[simp] theorem State.reachEl_ann (s : State) (n : Nat) : (s.reachEl n).ann = s.ann := rfl
@[simp] theorem State.reachEl_intc (s : State) (n : Nat) : (s.reachEl n).intc = s.intc := rfl
@[simp] theorem State.reachEl_hst (s : State) (n : Nat) : (s.reachEl n).hst = s.hst := rfl
@[simp] theorem State.reachEl_apps (s : State) (n : Nat) : (s.reachEl n).apps = s.apps := rfl
@[simp] theorem State.reachEl_sti (s : State) (n : Nat) : (s.reachEl n).sti = s.sti := rfl
@[simp] theorem State.reachEl_acl (s : State) (n : Nat) : (s.reachEl n).acl = s.acl := rfl
@[simp] theorem State.reachEl_pins (s : State) (n : Nat) : (s.reachEl n).pins = s.pins := rfl
@[simp] theorem State.reachEl_agr (s : State) (n : Nat) : (s.reachEl n).agr = s.agr := rfl
@[simp] theorem State.reachEl_twn (s : State) (n : Nat) : (s.reachEl n).twn = s.twn := rfl
@[simp] theorem State.reachEl_saf (s : State) (n : Nat) : (s.reachEl n).saf = s.saf := rfl
@[simp] theorem State.reachEl_hlt (s : State) (n : Nat) : (s.reachEl n).hlt = s.hlt := rfl
@[simp] theorem State.reachEl_thm (s : State) (n : Nat) : (s.reachEl n).thm = s.thm := rfl
@[simp] theorem State.reachEl_gns (s : State) (n : Nat) : (s.reachEl n).gns = s.gns := rfl
@[simp] theorem State.reachEl_fus (s : State) (n : Nat) : (s.reachEl n).fus = s.fus := rfl
@[simp] theorem State.reachEl_ctl (s : State) (n : Nat) : (s.reachEl n).ctl = s.ctl := rfl
@[simp] theorem State.reachEl_alc (s : State) (n : Nat) : (s.reachEl n).alc = s.alc := rfl
@[simp] theorem State.reachEl_slv (s : State) (n : Nat) : (s.reachEl n).slv = s.slv := rfl
@[simp] theorem State.reachEl_fch (s : State) (n : Nat) : (s.reachEl n).fch = s.fch := rfl
@[simp] theorem State.reachEl_loops (s : State) (n : Nat) : (s.reachEl n).loops = s.loops := rfl
@[simp] theorem State.reachEl_net (s : State) (n : Nat) : (s.reachEl n).net = s.net := rfl
@[simp] theorem State.reachEl_can (s : State) (n : Nat) : (s.reachEl n).can = s.can := rfl
@[simp] theorem State.reachEl_spt (s : State) (n : Nat) : (s.reachEl n).spt = s.spt := rfl
@[simp] theorem State.reachEl_elk (s : State) (n : Nat) : (s.reachEl n).elk = s.elk := rfl
@[simp] theorem State.reachEl_flashCmd (s : State) (n : Nat) : (s.reachEl n).flashCmd = s.flashCmd := rfl
@[simp] theorem State.reachEl_regs (s : State) (n : Nat) : (s.reachEl n).regs = s.regs := rfl
@[simp] theorem State.reachEl_appm (s : State) (n : Nat) : (s.reachEl n).appm = s.appm := rfl
@[simp] theorem State.reachEl_flash (s : State) (n : Nat) : (s.reachEl n).flash = s.flash := rfl
@[simp] theorem State.reachEl_xchg (s : State) (n : Nat) : (s.reachEl n).xchg = s.xchg := rfl
@[simp] theorem State.reachEl_out (s : State) (n : Nat) : (s.reachEl n).out = s.out := rfl
@[simp] theorem State.reachEl_freeCtr (s : State) (n : Nat) : (s.reachEl n).freeCtr = s.freeCtr := rfl
@[simp] theorem State.reachEl_pending (s : State) (n : Nat) : (s.reachEl n).pending = s.pending := rfl

@[simp] theorem State.raise_serial (s : State) (c : Nat) (p : List Word) : (s.raise c p).serial = s.serial := (State.raise_acts s c p).frame .serial rfl
@[simp] theorem State.raise_devKey (s : State) (c : Nat) (p : List Word) : (s.raise c p).devKey = s.devKey := (State.raise_acts s c p).frame .devKey rfl
@[simp] theorem State.raise_clk (s : State) (c : Nat) (p : List Word) : (s.raise c p).clk = s.clk := (State.raise_acts s c p).frame .clk rfl
@[simp] theorem State.raise_boot (s : State) (c : Nat) (p : List Word) : (s.raise c p).boot = s.boot := (State.raise_acts s c p).frame .boot rfl
@[simp] theorem State.raise_pat (s : State) (c : Nat) (p : List Word) : (s.raise c p).pat = s.pat := (State.raise_acts s c p).frame .pat rfl
@[simp] theorem State.raise_dev (s : State) (c : Nat) (p : List Word) : (s.raise c p).dev = s.dev := (State.raise_acts s c p).frame .dev rfl
@[simp] theorem State.raise_ord (s : State) (c : Nat) (p : List Word) : (s.raise c p).ord = s.ord := (State.raise_acts s c p).frame .ord rfl
@[simp] theorem State.raise_mram (s : State) (c : Nat) (p : List Word) : (s.raise c p).mram = s.mram := (State.raise_acts s c p).frame .mram rfl
@[simp] theorem State.raise_ann (s : State) (c : Nat) (p : List Word) : (s.raise c p).ann = s.ann := (State.raise_acts s c p).frame .ann rfl
@[simp] theorem State.raise_intc (s : State) (c : Nat) (p : List Word) : (s.raise c p).intc = s.intc := (State.raise_acts s c p).frame .intc rfl
@[simp] theorem State.raise_hst (s : State) (c : Nat) (p : List Word) : (s.raise c p).hst = s.hst := (State.raise_acts s c p).frame .hst rfl
@[simp] theorem State.raise_apps (s : State) (c : Nat) (p : List Word) : (s.raise c p).apps = s.apps := (State.raise_acts s c p).frame .apps rfl
@[simp] theorem State.raise_sti (s : State) (c : Nat) (p : List Word) : (s.raise c p).sti = s.sti := (State.raise_acts s c p).frame .sti rfl
@[simp] theorem State.raise_acl (s : State) (c : Nat) (p : List Word) : (s.raise c p).acl = s.acl := (State.raise_acts s c p).frame .acl rfl
@[simp] theorem State.raise_tim (s : State) (c : Nat) (p : List Word) : (s.raise c p).tim = s.tim := (State.raise_acts s c p).frame .tim rfl
@[simp] theorem State.raise_pins (s : State) (c : Nat) (p : List Word) : (s.raise c p).pins = s.pins := (State.raise_acts s c p).frame .pins rfl
@[simp] theorem State.raise_agr (s : State) (c : Nat) (p : List Word) : (s.raise c p).agr = s.agr := (State.raise_acts s c p).frame .agr rfl
@[simp] theorem State.raise_twn (s : State) (c : Nat) (p : List Word) : (s.raise c p).twn = s.twn := (State.raise_acts s c p).frame .twn rfl
@[simp] theorem State.raise_saf (s : State) (c : Nat) (p : List Word) : (s.raise c p).saf = s.saf := (State.raise_acts s c p).frame .saf rfl
@[simp] theorem State.raise_hlt (s : State) (c : Nat) (p : List Word) : (s.raise c p).hlt = s.hlt := (State.raise_acts s c p).frame .hlt rfl
@[simp] theorem State.raise_thm (s : State) (c : Nat) (p : List Word) : (s.raise c p).thm = s.thm := (State.raise_acts s c p).frame .thm rfl
@[simp] theorem State.raise_gns (s : State) (c : Nat) (p : List Word) : (s.raise c p).gns = s.gns := (State.raise_acts s c p).frame .gns rfl
@[simp] theorem State.raise_fus (s : State) (c : Nat) (p : List Word) : (s.raise c p).fus = s.fus := (State.raise_acts s c p).frame .fus rfl
@[simp] theorem State.raise_ctl (s : State) (c : Nat) (p : List Word) : (s.raise c p).ctl = s.ctl := (State.raise_acts s c p).frame .ctl rfl
@[simp] theorem State.raise_alc (s : State) (c : Nat) (p : List Word) : (s.raise c p).alc = s.alc := (State.raise_acts s c p).frame .alc rfl
@[simp] theorem State.raise_slv (s : State) (c : Nat) (p : List Word) : (s.raise c p).slv = s.slv := (State.raise_acts s c p).frame .slv rfl
@[simp] theorem State.raise_fch (s : State) (c : Nat) (p : List Word) : (s.raise c p).fch = s.fch := (State.raise_acts s c p).frame .fch rfl
@[simp] theorem State.raise_loops (s : State) (c : Nat) (p : List Word) : (s.raise c p).loops = s.loops := (State.raise_acts s c p).frame .loops rfl
@[simp] theorem State.raise_net (s : State) (c : Nat) (p : List Word) : (s.raise c p).net = s.net := (State.raise_acts s c p).frame .net rfl
@[simp] theorem State.raise_can (s : State) (c : Nat) (p : List Word) : (s.raise c p).can = s.can := (State.raise_acts s c p).frame .can rfl
@[simp] theorem State.raise_spt (s : State) (c : Nat) (p : List Word) : (s.raise c p).spt = s.spt := (State.raise_acts s c p).frame .spt rfl
@[simp] theorem State.raise_elk (s : State) (c : Nat) (p : List Word) : (s.raise c p).elk = s.elk := (State.raise_acts s c p).frame .elk rfl
@[simp] theorem State.raise_flashCmd (s : State) (c : Nat) (p : List Word) : (s.raise c p).flashCmd = s.flashCmd := (State.raise_acts s c p).frame .flashCmd rfl
@[simp] theorem State.raise_appm (s : State) (c : Nat) (p : List Word) : (s.raise c p).appm = s.appm := (State.raise_acts s c p).frame .appm rfl
@[simp] theorem State.raise_flash (s : State) (c : Nat) (p : List Word) : (s.raise c p).flash = s.flash := (State.raise_acts s c p).frame .flash rfl
@[simp] theorem State.raise_xchg (s : State) (c : Nat) (p : List Word) : (s.raise c p).xchg = s.xchg := (State.raise_acts s c p).frame .xchg rfl
@[simp] theorem State.raise_out (s : State) (c : Nat) (p : List Word) : (s.raise c p).out = s.out := (State.raise_acts s c p).frame .out rfl
@[simp] theorem State.raise_freeCtr (s : State) (c : Nat) (p : List Word) : (s.raise c p).freeCtr = s.freeCtr := (State.raise_acts s c p).frame .freeCtr rfl
@[simp] theorem State.raise_pending (s : State) (c : Nat) (p : List Word) : (s.raise c p).pending = s.pending := (State.raise_acts s c p).frame .pending rfl

@[simp] theorem State.record_serial (s : State) (a b : Nat) (p : List Word) : (s.record a b p).serial = s.serial := (State.record_acts s a b p).frame .serial rfl
@[simp] theorem State.record_devKey (s : State) (a b : Nat) (p : List Word) : (s.record a b p).devKey = s.devKey := (State.record_acts s a b p).frame .devKey rfl
@[simp] theorem State.record_clk (s : State) (a b : Nat) (p : List Word) : (s.record a b p).clk = s.clk := (State.record_acts s a b p).frame .clk rfl
@[simp] theorem State.record_boot (s : State) (a b : Nat) (p : List Word) : (s.record a b p).boot = s.boot := (State.record_acts s a b p).frame .boot rfl
@[simp] theorem State.record_pat (s : State) (a b : Nat) (p : List Word) : (s.record a b p).pat = s.pat := (State.record_acts s a b p).frame .pat rfl
@[simp] theorem State.record_dev (s : State) (a b : Nat) (p : List Word) : (s.record a b p).dev = s.dev := (State.record_acts s a b p).frame .dev rfl
@[simp] theorem State.record_ord (s : State) (a b : Nat) (p : List Word) : (s.record a b p).ord = s.ord := (State.record_acts s a b p).frame .ord rfl
@[simp] theorem State.record_alarms (s : State) (a b : Nat) (p : List Word) : (s.record a b p).alarms = s.alarms := (State.record_acts s a b p).frame .alarms rfl
@[simp] theorem State.record_mram (s : State) (a b : Nat) (p : List Word) : (s.record a b p).mram = s.mram := (State.record_acts s a b p).frame .mram rfl
@[simp] theorem State.record_ann (s : State) (a b : Nat) (p : List Word) : (s.record a b p).ann = s.ann := (State.record_acts s a b p).frame .ann rfl
@[simp] theorem State.record_intc (s : State) (a b : Nat) (p : List Word) : (s.record a b p).intc = s.intc := (State.record_acts s a b p).frame .intc rfl
@[simp] theorem State.record_hst (s : State) (a b : Nat) (p : List Word) : (s.record a b p).hst = s.hst := (State.record_acts s a b p).frame .hst rfl
@[simp] theorem State.record_apps (s : State) (a b : Nat) (p : List Word) : (s.record a b p).apps = s.apps := (State.record_acts s a b p).frame .apps rfl
@[simp] theorem State.record_sti (s : State) (a b : Nat) (p : List Word) : (s.record a b p).sti = s.sti := (State.record_acts s a b p).frame .sti rfl
@[simp] theorem State.record_acl (s : State) (a b : Nat) (p : List Word) : (s.record a b p).acl = s.acl := (State.record_acts s a b p).frame .acl rfl
@[simp] theorem State.record_tim (s : State) (a b : Nat) (p : List Word) : (s.record a b p).tim = s.tim := (State.record_acts s a b p).frame .tim rfl
@[simp] theorem State.record_pins (s : State) (a b : Nat) (p : List Word) : (s.record a b p).pins = s.pins := (State.record_acts s a b p).frame .pins rfl
@[simp] theorem State.record_agr (s : State) (a b : Nat) (p : List Word) : (s.record a b p).agr = s.agr := (State.record_acts s a b p).frame .agr rfl
@[simp] theorem State.record_twn (s : State) (a b : Nat) (p : List Word) : (s.record a b p).twn = s.twn := (State.record_acts s a b p).frame .twn rfl
@[simp] theorem State.record_saf (s : State) (a b : Nat) (p : List Word) : (s.record a b p).saf = s.saf := (State.record_acts s a b p).frame .saf rfl
@[simp] theorem State.record_hlt (s : State) (a b : Nat) (p : List Word) : (s.record a b p).hlt = s.hlt := (State.record_acts s a b p).frame .hlt rfl
@[simp] theorem State.record_thm (s : State) (a b : Nat) (p : List Word) : (s.record a b p).thm = s.thm := (State.record_acts s a b p).frame .thm rfl
@[simp] theorem State.record_gns (s : State) (a b : Nat) (p : List Word) : (s.record a b p).gns = s.gns := (State.record_acts s a b p).frame .gns rfl
@[simp] theorem State.record_fus (s : State) (a b : Nat) (p : List Word) : (s.record a b p).fus = s.fus := (State.record_acts s a b p).frame .fus rfl
@[simp] theorem State.record_ctl (s : State) (a b : Nat) (p : List Word) : (s.record a b p).ctl = s.ctl := (State.record_acts s a b p).frame .ctl rfl
@[simp] theorem State.record_alc (s : State) (a b : Nat) (p : List Word) : (s.record a b p).alc = s.alc := (State.record_acts s a b p).frame .alc rfl
@[simp] theorem State.record_slv (s : State) (a b : Nat) (p : List Word) : (s.record a b p).slv = s.slv := (State.record_acts s a b p).frame .slv rfl
@[simp] theorem State.record_fch (s : State) (a b : Nat) (p : List Word) : (s.record a b p).fch = s.fch := (State.record_acts s a b p).frame .fch rfl
@[simp] theorem State.record_loops (s : State) (a b : Nat) (p : List Word) : (s.record a b p).loops = s.loops := (State.record_acts s a b p).frame .loops rfl
@[simp] theorem State.record_net (s : State) (a b : Nat) (p : List Word) : (s.record a b p).net = s.net := (State.record_acts s a b p).frame .net rfl
@[simp] theorem State.record_can (s : State) (a b : Nat) (p : List Word) : (s.record a b p).can = s.can := (State.record_acts s a b p).frame .can rfl
@[simp] theorem State.record_spt (s : State) (a b : Nat) (p : List Word) : (s.record a b p).spt = s.spt := (State.record_acts s a b p).frame .spt rfl
@[simp] theorem State.record_elk (s : State) (a b : Nat) (p : List Word) : (s.record a b p).elk = s.elk := (State.record_acts s a b p).frame .elk rfl
@[simp] theorem State.record_flashCmd (s : State) (a b : Nat) (p : List Word) : (s.record a b p).flashCmd = s.flashCmd := (State.record_acts s a b p).frame .flashCmd rfl
@[simp] theorem State.record_appm (s : State) (a b : Nat) (p : List Word) : (s.record a b p).appm = s.appm := (State.record_acts s a b p).frame .appm rfl
@[simp] theorem State.record_flash (s : State) (a b : Nat) (p : List Word) : (s.record a b p).flash = s.flash := (State.record_acts s a b p).frame .flash rfl
@[simp] theorem State.record_xchg (s : State) (a b : Nat) (p : List Word) : (s.record a b p).xchg = s.xchg := (State.record_acts s a b p).frame .xchg rfl
@[simp] theorem State.record_out (s : State) (a b : Nat) (p : List Word) : (s.record a b p).out = s.out := (State.record_acts s a b p).frame .out rfl
@[simp] theorem State.record_freeCtr (s : State) (a b : Nat) (p : List Word) : (s.record a b p).freeCtr = s.freeCtr := (State.record_acts s a b p).frame .freeCtr rfl
@[simp] theorem State.record_pending (s : State) (a b : Nat) (p : List Word) : (s.record a b p).pending = s.pending := (State.record_acts s a b p).frame .pending rfl

@[simp] theorem State.causeGone_serial (s : State) (c : Nat) : (s.causeGone c).serial = s.serial := (State.causeGone_acts s c).frame .serial rfl
@[simp] theorem State.causeGone_devKey (s : State) (c : Nat) : (s.causeGone c).devKey = s.devKey := (State.causeGone_acts s c).frame .devKey rfl
@[simp] theorem State.causeGone_clk (s : State) (c : Nat) : (s.causeGone c).clk = s.clk := (State.causeGone_acts s c).frame .clk rfl
@[simp] theorem State.causeGone_boot (s : State) (c : Nat) : (s.causeGone c).boot = s.boot := (State.causeGone_acts s c).frame .boot rfl
@[simp] theorem State.causeGone_pat (s : State) (c : Nat) : (s.causeGone c).pat = s.pat := (State.causeGone_acts s c).frame .pat rfl
@[simp] theorem State.causeGone_dev (s : State) (c : Nat) : (s.causeGone c).dev = s.dev := (State.causeGone_acts s c).frame .dev rfl
@[simp] theorem State.causeGone_ord (s : State) (c : Nat) : (s.causeGone c).ord = s.ord := (State.causeGone_acts s c).frame .ord rfl
@[simp] theorem State.causeGone_mram (s : State) (c : Nat) : (s.causeGone c).mram = s.mram := (State.causeGone_acts s c).frame .mram rfl
@[simp] theorem State.causeGone_ann (s : State) (c : Nat) : (s.causeGone c).ann = s.ann := (State.causeGone_acts s c).frame .ann rfl
@[simp] theorem State.causeGone_intc (s : State) (c : Nat) : (s.causeGone c).intc = s.intc := (State.causeGone_acts s c).frame .intc rfl
@[simp] theorem State.causeGone_hst (s : State) (c : Nat) : (s.causeGone c).hst = s.hst := (State.causeGone_acts s c).frame .hst rfl
@[simp] theorem State.causeGone_apps (s : State) (c : Nat) : (s.causeGone c).apps = s.apps := (State.causeGone_acts s c).frame .apps rfl
@[simp] theorem State.causeGone_sti (s : State) (c : Nat) : (s.causeGone c).sti = s.sti := (State.causeGone_acts s c).frame .sti rfl
@[simp] theorem State.causeGone_acl (s : State) (c : Nat) : (s.causeGone c).acl = s.acl := (State.causeGone_acts s c).frame .acl rfl
@[simp] theorem State.causeGone_tim (s : State) (c : Nat) : (s.causeGone c).tim = s.tim := (State.causeGone_acts s c).frame .tim rfl
@[simp] theorem State.causeGone_pins (s : State) (c : Nat) : (s.causeGone c).pins = s.pins := (State.causeGone_acts s c).frame .pins rfl
@[simp] theorem State.causeGone_agr (s : State) (c : Nat) : (s.causeGone c).agr = s.agr := (State.causeGone_acts s c).frame .agr rfl
@[simp] theorem State.causeGone_twn (s : State) (c : Nat) : (s.causeGone c).twn = s.twn := (State.causeGone_acts s c).frame .twn rfl
@[simp] theorem State.causeGone_saf (s : State) (c : Nat) : (s.causeGone c).saf = s.saf := (State.causeGone_acts s c).frame .saf rfl
@[simp] theorem State.causeGone_hlt (s : State) (c : Nat) : (s.causeGone c).hlt = s.hlt := (State.causeGone_acts s c).frame .hlt rfl
@[simp] theorem State.causeGone_thm (s : State) (c : Nat) : (s.causeGone c).thm = s.thm := (State.causeGone_acts s c).frame .thm rfl
@[simp] theorem State.causeGone_gns (s : State) (c : Nat) : (s.causeGone c).gns = s.gns := (State.causeGone_acts s c).frame .gns rfl
@[simp] theorem State.causeGone_fus (s : State) (c : Nat) : (s.causeGone c).fus = s.fus := (State.causeGone_acts s c).frame .fus rfl
@[simp] theorem State.causeGone_ctl (s : State) (c : Nat) : (s.causeGone c).ctl = s.ctl := (State.causeGone_acts s c).frame .ctl rfl
@[simp] theorem State.causeGone_alc (s : State) (c : Nat) : (s.causeGone c).alc = s.alc := (State.causeGone_acts s c).frame .alc rfl
@[simp] theorem State.causeGone_slv (s : State) (c : Nat) : (s.causeGone c).slv = s.slv := (State.causeGone_acts s c).frame .slv rfl
@[simp] theorem State.causeGone_fch (s : State) (c : Nat) : (s.causeGone c).fch = s.fch := (State.causeGone_acts s c).frame .fch rfl
@[simp] theorem State.causeGone_loops (s : State) (c : Nat) : (s.causeGone c).loops = s.loops := (State.causeGone_acts s c).frame .loops rfl
@[simp] theorem State.causeGone_net (s : State) (c : Nat) : (s.causeGone c).net = s.net := (State.causeGone_acts s c).frame .net rfl
@[simp] theorem State.causeGone_can (s : State) (c : Nat) : (s.causeGone c).can = s.can := (State.causeGone_acts s c).frame .can rfl
@[simp] theorem State.causeGone_spt (s : State) (c : Nat) : (s.causeGone c).spt = s.spt := (State.causeGone_acts s c).frame .spt rfl
@[simp] theorem State.causeGone_elk (s : State) (c : Nat) : (s.causeGone c).elk = s.elk := (State.causeGone_acts s c).frame .elk rfl
@[simp] theorem State.causeGone_flashCmd (s : State) (c : Nat) : (s.causeGone c).flashCmd = s.flashCmd := (State.causeGone_acts s c).frame .flashCmd rfl
@[simp] theorem State.causeGone_appm (s : State) (c : Nat) : (s.causeGone c).appm = s.appm := (State.causeGone_acts s c).frame .appm rfl
@[simp] theorem State.causeGone_flash (s : State) (c : Nat) : (s.causeGone c).flash = s.flash := (State.causeGone_acts s c).frame .flash rfl
@[simp] theorem State.causeGone_xchg (s : State) (c : Nat) : (s.causeGone c).xchg = s.xchg := (State.causeGone_acts s c).frame .xchg rfl
@[simp] theorem State.causeGone_out (s : State) (c : Nat) : (s.causeGone c).out = s.out := (State.causeGone_acts s c).frame .out rfl
@[simp] theorem State.causeGone_freeCtr (s : State) (c : Nat) : (s.causeGone c).freeCtr = s.freeCtr := (State.causeGone_acts s c).frame .freeCtr rfl
@[simp] theorem State.causeGone_pending (s : State) (c : Nat) : (s.causeGone c).pending = s.pending := (State.causeGone_acts s c).frame .pending rfl

/-! Time. -/

@[simp] theorem State.reach_wt (s : State) (n : Nat) : (s.reach n).tim.wt = s.tim.wt + (n - s.tim.wt) := rfl
@[simp] theorem State.reach_el (s : State) (n : Nat) : (s.reach n).tim.el = s.tim.el + (n - s.tim.wt) := rfl
@[simp] theorem State.reachEl_wt (s : State) (n : Nat) : (s.reachEl n).tim.wt = s.tim.wt + (n - s.tim.el) := rfl
@[simp] theorem State.reachEl_el (s : State) (n : Nat) : (s.reachEl n).tim.el = s.tim.el + (n - s.tim.el) := rfl

/-! Soundness after the shared updates. -/

theorem State.Sound.setReg {s : State} (h : s.Sound) (a : Nat) (w : Word) : (s.setReg a w).Sound := (State.setReg_acts s a w).sound h
theorem State.Sound.setFld {s : State} (h : s.Sound) (f : Fld) (v : Nat) : (s.setFld f v).Sound := (State.setFld_acts s f v).sound h
theorem State.Sound.setFlag {s : State} (h : s.Sound) (f : Fld) (b : Bool) : (s.setFlag f b).Sound := (State.setFlag_acts s f b).sound h
theorem State.Sound.event {s : State} (h : s.Sound) (f : Fld) : (s.event f).Sound := (State.event_acts s f).sound h
theorem State.Sound.bump {s : State} (h : s.Sound) (f : Fld) (n : Nat) : (s.bump f n).Sound := (State.bump_acts s f n).sound h
theorem State.Sound.raise {s : State} (h : s.Sound) (c : Nat) (p : List Word) : (s.raise c p).Sound := (State.raise_acts s c p).sound h

/-! Reads of registers after writes. -/

theorem reg_setReg {s : State} (h : s.Sound) (a b : Nat) (w : Word) : (s.setReg a w).reg b = if b = a then w else s.reg b :=
  memGet_memSet resetWord s.regs a b w h.canonical.1

theorem fits_pow {f : Fld} (hf : f.fits = true) : ∃ k, 2 ^ 32 = 2 ^ f.lo * 2 ^ (f.hi + 1 - f.lo) * k := by
  have hlo : f.lo ≤ f.hi ∧ f.hi < 32 := by simpa [Fld.fits] using hf
  refine ⟨2 ^ (31 - f.hi), ?_⟩
  rw [← Nat.pow_add, ← Nat.pow_add]
  congr 1
  omega

/-- A word around a field: what stands above it, the field, what stands below it. -/
theorem word_split (W a b : Nat) : W = W / (a * b) * (a * b) + (W / a % b) * a + W % a := by
  have h1 : W = a * (W / a) + W % a := (Nat.div_add_mod W a).symm
  have h2 : W / a = b * (W / a / b) + W / a % b := (Nat.div_add_mod (W / a) b).symm
  have h3 : W / a / b = W / (a * b) := Nat.div_div_eq_div_mul W a b
  rw [h3] at h2
  calc W = a * (W / a) + W % a := h1
    _ = a * (b * (W / (a * b)) + W / a % b) + W % a := by rw [← h2]
    _ = _ := by ring

theorem fieldIn_toNat (w : Word) (f : Fld) (v : Nat) (hf : f.fits = true) :
    (fieldIn w f v).toNat = w.toNat / (2 ^ f.lo * 2 ^ (f.hi + 1 - f.lo)) * (2 ^ f.lo * 2 ^ (f.hi + 1 - f.lo)) +
      (v % 2 ^ (f.hi + 1 - f.lo)) * 2 ^ f.lo + w.toNat % 2 ^ f.lo := by
  obtain ⟨k, hk⟩ := fits_pow hf
  unfold fieldIn fieldOf
  rw [BitVec.toNat_ofNat]
  have hw := w.isLt
  generalize w.toNat = W at *
  have ha : 0 < 2 ^ f.lo := Nat.two_pow_pos _
  have hb : 0 < 2 ^ (f.hi + 1 - f.lo) := Nat.two_pow_pos _
  generalize 2 ^ f.lo = a at *
  generalize 2 ^ (f.hi + 1 - f.lo) = b at *
  have hs := word_split W a b
  have hv : v % b < b := Nat.mod_lt _ hb
  have hl : W % a < a := Nat.mod_lt _ ha
  have e : W - W / a % b * a + v % b * a = W / (a * b) * (a * b) + v % b * a + W % a := by omega
  rw [e]
  apply Nat.mod_eq_of_lt
  have hh : W / (a * b) < k := by
    rw [Nat.div_lt_iff_lt_mul (Nat.mul_pos ha hb)]
    calc W < 2 ^ 32 := hw
      _ = k * (a * b) := by rw [hk]; ring
  have h1 : (v % b + 1) * a ≤ b * a := Nat.mul_le_mul_right a hv
  have h2 : (W / (a * b) + 1) * (a * b) ≤ k * (a * b) := Nat.mul_le_mul_right _ hh
  have h3 : k * (a * b) = 2 ^ 32 := by rw [hk]; ring
  have h4 : b * a = a * b := Nat.mul_comm b a
  rw [Nat.add_mul] at h1 h2
  omega

/-- The field that was set reads as the value, cut to its width. -/
theorem fieldOf_fieldIn (w : Word) (f : Fld) (v : Nat) (hf : f.fits = true) : fieldOf (fieldIn w f v) f = v % 2 ^ (f.hi + 1 - f.lo) := by
  have h := fieldIn_toNat w f v hf
  unfold fieldOf
  rw [h]
  have ha : 0 < 2 ^ f.lo := Nat.two_pow_pos _
  have hb : 0 < 2 ^ (f.hi + 1 - f.lo) := Nat.two_pow_pos _
  generalize w.toNat = W at *
  generalize 2 ^ f.lo = a at *
  generalize 2 ^ (f.hi + 1 - f.lo) = b at *
  have e : W / (a * b) * (a * b) + v % b * a + W % a = W % a + a * (v % b + b * (W / (a * b))) := by ring
  rw [e, Nat.add_mul_div_left _ _ ha, Nat.div_eq_of_lt (Nat.mod_lt _ ha), Nat.zero_add, Nat.add_mul_mod_self_left, Nat.mod_mod]

/-- A field above the one that was set keeps its value. -/
theorem fieldOf_fieldIn_above (w : Word) (f g : Fld) (v : Nat) (hf : f.fits = true) (hg : f.hi < g.lo) : fieldOf (fieldIn w f v) g = fieldOf w g := by
  have h := fieldIn_toNat w f v hf
  have hlo : f.lo ≤ f.hi ∧ f.hi < 32 := by simpa [Fld.fits] using hf
  have hp : 2 ^ g.lo = 2 ^ f.lo * 2 ^ (f.hi + 1 - f.lo) * 2 ^ (g.lo - f.hi - 1) := by
    rw [← Nat.pow_add, ← Nat.pow_add]
    congr 1
    omega
  unfold fieldOf
  rw [h, hp]
  have ha : 0 < 2 ^ f.lo := Nat.two_pow_pos _
  have hb : 0 < 2 ^ (f.hi + 1 - f.lo) := Nat.two_pow_pos _
  generalize w.toNat = W at *
  generalize 2 ^ f.lo = a at *
  generalize 2 ^ (f.hi + 1 - f.lo) = b at *
  have hv : v % b < b := Nat.mod_lt _ hb
  have hl : W % a < a := Nat.mod_lt _ ha
  have h1 : (v % b + 1) * a ≤ b * a := Nat.mul_le_mul_right a hv
  have h4 : b * a = a * b := Nat.mul_comm b a
  rw [Nat.add_mul] at h1
  have e : W / (a * b) * (a * b) + v % b * a + W % a = (v % b * a + W % a) + a * b * (W / (a * b)) := by ring
  have q : (v % b * a + W % a + a * b * (W / (a * b))) / (a * b) = W / (a * b) := by
    rw [Nat.add_mul_div_left _ _ (Nat.mul_pos ha hb), Nat.div_eq_of_lt (by omega), Nat.zero_add]
  rw [e, ← Nat.div_div_eq_div_mul _ (a * b), q, Nat.div_div_eq_div_mul]

/-- A field below the one that was set keeps its value. -/
theorem fieldOf_fieldIn_below (w : Word) (f g : Fld) (v : Nat) (hf : f.fits = true) (hgg : g.lo ≤ g.hi) (hg : g.hi < f.lo) :
    fieldOf (fieldIn w f v) g = fieldOf w g := by
  have h := fieldIn_toNat w f v hf
  have hp : 2 ^ f.lo = 2 ^ g.lo * 2 ^ (g.hi + 1 - g.lo) * 2 ^ (f.lo - g.hi - 1) := by
    rw [← Nat.pow_add, ← Nat.pow_add]
    congr 1
    omega
  unfold fieldOf
  have key : ∀ W, W / 2 ^ g.lo % 2 ^ (g.hi + 1 - g.lo) = W % 2 ^ f.lo / 2 ^ g.lo % 2 ^ (g.hi + 1 - g.lo) := by
    intro W
    rw [hp]
    have ha : 0 < 2 ^ g.lo := Nat.two_pow_pos _
    generalize 2 ^ g.lo = a at *
    generalize 2 ^ (g.hi + 1 - g.lo) = b at *
    generalize 2 ^ (f.lo - g.hi - 1) = d at *
    conv_lhs => rw [← Nat.div_add_mod W (a * b * d)]
    rw [show a * b * d * (W / (a * b * d)) + W % (a * b * d) = W % (a * b * d) + a * (b * (d * (W / (a * b * d)))) by ring,
      Nat.add_mul_div_left _ _ ha, Nat.add_mul_mod_self_left]
  rw [key (fieldIn w f v).toNat, key w.toNat, h]
  congr 2
  have e : w.toNat / (2 ^ f.lo * 2 ^ (f.hi + 1 - f.lo)) * (2 ^ f.lo * 2 ^ (f.hi + 1 - f.lo)) + v % 2 ^ (f.hi + 1 - f.lo) * 2 ^ f.lo + w.toNat % 2 ^ f.lo =
      w.toNat % 2 ^ f.lo + 2 ^ f.lo * (w.toNat / (2 ^ f.lo * 2 ^ (f.hi + 1 - f.lo)) * 2 ^ (f.hi + 1 - f.lo) + v % 2 ^ (f.hi + 1 - f.lo)) := by ring
  rw [e, Nat.add_mul_mod_self_left, Nat.mod_mod]

theorem fld_setFld {s : State} (h : s.Sound) (f : Fld) (v : Nat) (hf : f.fits = true) : (s.setFld f v).fld f = v % 2 ^ (f.hi + 1 - f.lo) := by
  show fieldOf ((s.setReg f.addr (fieldIn (s.reg f.addr) f v)).reg f.addr) f = _
  rw [reg_setReg h, if_pos rfl, fieldOf_fieldIn _ _ _ hf]

theorem reg_setFld {s : State} (h : s.Sound) (f : Fld) (v a : Nat) (ha : a ≠ f.addr) : (s.setFld f v).reg a = s.reg a := by
  show (s.setReg f.addr (fieldIn (s.reg f.addr) f v)).reg a = _
  rw [reg_setReg h, if_neg ha]

/-- A field of another register, or one beside the field in its own register, keeps its value. -/
theorem fld_setFld_other {s : State} (h : s.Sound) (f g : Fld) (v : Nat) (hf : f.fits = true) (hg : g.fits = true)
    (ho : g.addr ≠ f.addr ∨ f.hi < g.lo ∨ g.hi < f.lo) : (s.setFld f v).fld g = s.fld g := by
  have hlo : g.lo ≤ g.hi ∧ g.hi < 32 := by simpa [Fld.fits] using hg
  by_cases ha : g.addr = f.addr
  · show fieldOf ((s.setReg f.addr (fieldIn (s.reg f.addr) f v)).reg g.addr) g = fieldOf (s.reg g.addr) g
    rw [reg_setReg h, if_pos ha, ha]
    rcases ho with ho | ho | ho
    · exact absurd ha ho
    · exact fieldOf_fieldIn_above _ _ _ _ hf ho
    · exact fieldOf_fieldIn_below _ _ _ _ hf hlo.1 ho
  · show fieldOf ((s.setFld f v).reg g.addr) g = _
    rw [reg_setFld h _ _ _ ha]
    rfl

theorem flag_setFlag {s : State} (h : s.Sound) (f : Fld) (b : Bool) (hf : f.fits = true) : (s.setFlag f b).flag f = b := by
  have hlo : f.lo ≤ f.hi ∧ f.hi < 32 := by simpa [Fld.fits] using hf
  unfold State.flag State.setFlag
  rw [fld_setFld h f _ hf, Nat.mod_eq_of_lt]
  · cases b <;> rfl
  · have : 2 ^ 1 ≤ 2 ^ (f.hi + 1 - f.lo) := Nat.pow_le_pow_right (by decide) (by omega)
    cases b
    · simp [bit]
    · exact Nat.lt_of_lt_of_le (by decide) this

theorem flag_setFlag_other {s : State} (h : s.Sound) (f g : Fld) (b : Bool) (hf : f.fits = true) (hg : g.fits = true)
    (ho : g.addr ≠ f.addr ∨ f.hi < g.lo ∨ g.hi < f.lo) : (s.setFlag f b).flag g = s.flag g := by
  unfold State.flag State.setFlag
  rw [fld_setFld_other h f g _ hf hg ho]

theorem flag_event {s : State} (h : s.Sound) (f : Fld) (hf : f.fits = true) : (s.event f).flag f = true := flag_setFlag h f true hf

theorem flag_event_other {s : State} (h : s.Sound) (f g : Fld) (hf : f.fits = true) (hg : g.fits = true)
    (ho : g.addr ≠ f.addr ∨ f.hi < g.lo ∨ g.hi < f.lo) : (s.event f).flag g = s.flag g := flag_setFlag_other h f g true hf hg ho

/-- Recording something writes no register but those of the recorder. -/
theorem reg_record {s : State} (h : s.Sound) (a b c : Nat) (p : List Word) (h1 : c ≠ A_REC_LOST) (h2 : c ≠ F_REC_EVENT_LOST_EVT.addr) :
    (s.record a b p).reg c = s.reg c := by
  unfold State.record State.enqueue
  split
  · rfl
  · have h0 : ({ s with rcd := { s.rcd with lostToQueue := s.rcd.lostToQueue + 1 } } : State).Sound :=
      h.of_eq rfl rfl rfl rfl rfl rfl rfl rfl rfl rfl rfl rfl rfl rfl
    show ((State.bump _ (word32 A_REC_LOST)).setFld F_REC_EVENT_LOST_EVT 1).reg c = _
    rw [reg_setFld (h0.bump _ _) _ _ _ h2]
    exact reg_setFld h0 _ _ _ h1

theorem reg_raise {s : State} (h : s.Sound) (a c : Nat) (p : List Word) (h1 : c ≠ A_REC_LOST) (h2 : c ≠ F_REC_EVENT_LOST_EVT.addr) :
    (s.raise a p).reg c = s.reg c := by
  unfold State.raise
  split
  · rfl
  · have h0 : ({ s with alarms := putAlarm ⟨a, false, true⟩ s.alarms } : State).Sound :=
      ⟨h.canonical, putAlarm_rise _ h.alarms, h.queue, h.used, h.buffer⟩
    exact reg_record h0 _ _ _ _ h1 h2

theorem fld_raise {s : State} (h : s.Sound) (a : Nat) (f : Fld) (p : List Word) (h1 : f.addr ≠ A_REC_LOST) (h2 : f.addr ≠ F_REC_EVENT_LOST_EVT.addr) :
    (s.raise a p).fld f = s.fld f := by
  unfold State.fld
  rw [reg_raise h _ _ _ h1 h2]

theorem flag_raise {s : State} (h : s.Sound) (a : Nat) (f : Fld) (p : List Word) (h1 : f.addr ≠ A_REC_LOST) (h2 : f.addr ≠ F_REC_EVENT_LOST_EVT.addr) :
    (s.raise a p).flag f = s.flag f := by
  unfold State.flag
  rw [fld_raise h _ _ _ h1 h2]

/-! Active alarms. -/

theorem find_putAlarm (a : Alarm) (c : Nat) (l : List Alarm) :
    (putAlarm a l).find? (fun x => x.code = c) = if a.code = c then some a else l.find? (fun x => x.code = c) := by
  induction l with
  | nil => by_cases h : a.code = c <;> simp [putAlarm, h]
  | cons b l ih =>
    unfold putAlarm
    split
    · simp only [List.find?_cons]
      split <;> simp_all
    · split
      · simp only [List.find?_cons]
        split <;> split <;> simp_all
      · simp only [List.find?_cons, ih]
        split <;> split <;> simp_all

@[simp] theorem alarm_record (s : State) (a b c : Nat) (p : List Word) : (s.record a b p).alarm? c = s.alarm? c := by
  unfold State.alarm?
  rw [State.record_alarms]

/-- R534: a raised alarm is active, not acknowledged, and its cause is present; every other alarm stands as before. -/
theorem alarm_raise (s : State) (a c : Nat) (p : List Word) : (s.raise a p).alarm? c = if a = c then some ⟨a, false, true⟩ else s.alarm? c := by
  have h : ∀ t : State, t.alarms = putAlarm ⟨a, false, true⟩ s.alarms → t.alarm? c = if a = c then some ⟨a, false, true⟩ else s.alarm? c := by
    intro t ht
    unfold State.alarm?
    rw [ht, find_putAlarm]
  unfold State.raise
  split
  · exact h _ rfl
  · rw [alarm_record]
    exact h _ rfl

end Sys2Proof.Machine
end

