-- ==== Sys2Proof/Laws/Regs.lean ====
section
/-! SUPPORT. Which register fields an operation may change: `Marks l s t` says that a sound state stays sound and that no field of the register bank
changes but the listed ones. One lemma for each basic operation; a longer one is a chain of them. -/
namespace Sys2Proof.Machine

/-- From `s` to `t` a sound state stays sound, and no register field but the listed ones changes. -/
def Marks (l : List Fld) (s t : State) : Prop := s.Sound → t.Sound ∧ FieldsBut l s t

theorem Marks.refl {l : List Fld} (s : State) : Marks l s s := fun h => ⟨h, fun _ _ _ => rfl⟩

theorem Marks.trans {l : List Fld} {s t u : State} (h : Marks l s t) (k : Marks l t u) : Marks l s u := fun c =>
  let x := h c
  let y := k x.1
  ⟨y.1, fun g hg ha => (y.2 g hg ha).trans (x.2 g hg ha)⟩

theorem Marks.mono {l k : List Fld} {s t : State} (h : Marks k s t) (hs : ∀ f ∈ k, f ∈ l) : Marks l s t := fun c =>
  ⟨(h c).1, fun g hg ha => (h c).2 g hg (fun f hf => ha f (hs f hf))⟩

/-- An operation whose frame leaves the register bank alone. -/
theorem Marks.acts {l : List Fld} {m : Nat} {s t u : State} (h : Marks l s t) (k : Acts m t u) (hm : m.testBit 35 = false) : Marks l s u := fun c =>
  ⟨k.sound (h c).1, fun g hg ha => by
    rw [← (h c).2 g hg ha]
    unfold State.fld State.reg
    rw [show u.regs = t.regs from k.frame .regs hm]⟩

/-- A change of a part that neither soundness nor the register bank speaks of. -/
theorem Marks.upd {l : List Fld} {s t u : State} (h : Marks l s t) (e : u.regs = t.regs) (k : t.Sound → u.Sound) : Marks l s u := fun c =>
  ⟨k (h c).1, fun g hg ha => by
    rw [← (h c).2 g hg ha]
    unfold State.fld State.reg
    rw [e]⟩

theorem Marks.setReg {l : List Fld} {s t : State} {a : Nat} {w : Word} (h : Marks l s t) (ha : word32 a ∈ l) : Marks l s (t.setReg a w) := fun c =>
  ⟨(h c).1.setReg a w, fun g hg hl => by
    have hn : g.addr ≠ a := by
      have h1 : g.lo ≤ g.hi ∧ g.hi < 32 := by simpa [Fld.fits] using hg
      rcases hl _ ha with k | k | k
      · exact k
      · exact absurd k (by show ¬ 31 < g.lo; omega)
      · exact absurd k (by show ¬ g.hi < 0; omega)
    rw [← (h c).2 g hg hl]
    unfold State.fld
    rw [reg_setReg (h c).1, if_neg hn]⟩

theorem Marks.setFld {l : List Fld} {s t : State} {f : Fld} {v : Nat} (h : Marks l s t) (hf : f.fits = true) (ha : f ∈ l) : Marks l s (t.setFld f v) := fun c =>
  ⟨(h c).1.setFld f v, fun g hg hl => by
    rw [← (h c).2 g hg hl, fld_setFld_other (h c).1 f g v hf hg (hl f ha)]⟩

theorem Marks.setFlag {l : List Fld} {s t : State} {f : Fld} {b : Bool} (h : Marks l s t) (hf : f.fits = true) (ha : f ∈ l) :
    Marks l s (t.setFlag f b) := h.setFld hf ha

theorem Marks.event {l : List Fld} {s t : State} {f : Fld} (h : Marks l s t) (hf : f.fits = true) (ha : f ∈ l) : Marks l s (t.event f) := h.setFld hf ha

theorem Marks.bump {l : List Fld} {s t : State} {f : Fld} {n : Nat} (h : Marks l s t) (hf : f.fits = true) (ha : f ∈ l) : Marks l s (t.bump f n) :=
  h.setFld hf ha

theorem Marks.record {l : List Fld} {s t : State} {a b : Nat} {p : List Word} (h : Marks l s t) (hr : ∀ f ∈ recFields, f ∈ l) :
    Marks l s (t.record a b p) := by
  unfold State.record State.enqueue
  split
  · exact h.upd rfl (fun c => ⟨c.canonical, c.alarms, by rw [List.length_append]; simp only [List.length_singleton]; omega, c.used, c.buffer⟩)
  · have k : Marks l s { t with rcd := { t.rcd with lostToQueue := t.rcd.lostToQueue + 1 } } := h.upd rfl (fun c => ⟨c.canonical, c.alarms, c.queue, c.used, c.buffer⟩)
    exact (k.bump rfl (hr _ (by simp [recFields]))).event rfl (hr _ (by simp [recFields]))

theorem Marks.raise {l : List Fld} {s t : State} {a : Nat} {p : List Word} (h : Marks l s t) (hr : ∀ f ∈ recFields, f ∈ l) : Marks l s (t.raise a p) := by
  have k : Marks l s { t with alarms := putAlarm ⟨a, false, true⟩ t.alarms } := h.upd rfl (fun c =>
    ⟨c.canonical, putAlarm_rise _ c.alarms, c.queue, c.used, c.buffer⟩)
  unfold State.raise
  split
  · exact k
  · exact k.record hr

theorem Marks.dropAlarm {l : List Fld} {s t : State} {a : Nat} (h : Marks l s t) (hr : ∀ f ∈ recFields, f ∈ l) : Marks l s (t.dropAlarm a) := by
  unfold State.dropAlarm
  have k : Marks l s { t with alarms := t.alarms.filter (fun x => x.code != a) } := h.upd rfl (fun c =>
    ⟨c.canonical, c.alarms.filter _, c.queue, c.used, c.buffer⟩)
  simp only
  split
  · exact k.record hr
  · exact k

theorem Marks.causeGone {l : List Fld} {s t : State} {a : Nat} (h : Marks l s t) (hr : ∀ f ∈ recFields, f ∈ l) : Marks l s (t.causeGone a) := by
  unfold State.causeGone
  split
  · exact h.dropAlarm hr
  · exact h.upd rfl (fun c => ⟨c.canonical, putAlarm_rise _ c.alarms, c.queue, c.used, c.buffer⟩)
  · exact h

theorem Marks.ite {l : List Fld} {c : Prop} [Decidable c] {s a b : State} (h : c → Marks l s a) (k : ¬c → Marks l s b) :
    Marks l s (if c then a else b) := by
  split
  · exact h ‹_›
  · exact k ‹_›

theorem Marks.each {l : List Fld} {f : State → Nat → State} {ns : List Nat} {s₀ s : State} (h₀ : Marks l s₀ s) (h : ∀ s, ∀ n ∈ ns, Marks l s (f s n)) :
    Marks l s₀ (s.each ns f) := by
  unfold State.each
  induction ns generalizing s with
  | nil => exact h₀
  | cons a r ih => exact ih (h₀.trans (h s a (List.mem_cons_self ..))) (fun s n hn => h s n (List.mem_cons_of_mem _ hn))

end Sys2Proof.Machine
end

