-- ==== Sys2Proof/Laws/Keeps.lean ====
section
/-! SUPPORT. What an operation leaves of one register field: `Keeps g s t` step by step, and with it what forcing the global safe state always
leaves. -/
namespace Sys2Proof.Machine

/-- From `s` to `t` a sound state stays sound, and the field `g` keeps its value. -/
def Keeps (g : Fld) (s t : State) : Prop := s.Sound → t.Sound ∧ t.fld g = s.fld g

theorem Keeps.refl {g : Fld} (s : State) : Keeps g s s := fun h => ⟨h, rfl⟩

theorem Keeps.trans {g : Fld} {s t u : State} (h : Keeps g s t) (k : Keeps g t u) : Keeps g s u := fun c =>
  let x := h c
  let y := k x.1
  ⟨y.1, y.2.trans x.2⟩

theorem Keeps.acts {g : Fld} {m : Nat} {s t u : State} (h : Keeps g s t) (k : Acts m t u) (hm : m.testBit 35 = false) : Keeps g s u := fun c =>
  ⟨k.sound (h c).1, by
    rw [← (h c).2]
    unfold State.fld State.reg
    rw [show u.regs = t.regs from k.frame .regs hm]⟩

theorem Keeps.upd {g : Fld} {s t u : State} (h : Keeps g s t) (e : u.regs = t.regs) (k : t.Sound → u.Sound) : Keeps g s u := fun c =>
  ⟨k (h c).1, by
    rw [← (h c).2]
    unfold State.fld State.reg
    rw [e]⟩

theorem Keeps.setReg {g : Fld} {s t : State} {a : Nat} {w : Word} (h : Keeps g s t) (ha : g.addr ≠ a) : Keeps g s (t.setReg a w) := fun c =>
  ⟨(h c).1.setReg a w, by
    rw [← (h c).2]
    unfold State.fld
    rw [reg_setReg (h c).1, if_neg ha]⟩

theorem Keeps.setFld {f g : Fld} {s t : State} {v : Nat} (h : Keeps g s t) (hf : f.fits = true) (hg : g.fits = true) (ho : f.apart g) :
    Keeps g s (t.setFld f v) := fun c => ⟨(h c).1.setFld f v, by rw [← (h c).2, fld_setFld_other (h c).1 f g v hf hg ho]⟩

theorem Keeps.setFlag {f g : Fld} {s t : State} {b : Bool} (h : Keeps g s t) (hf : f.fits = true) (hg : g.fits = true) (ho : f.apart g) :
    Keeps g s (t.setFlag f b) := h.setFld hf hg ho

theorem Keeps.event {f g : Fld} {s t : State} (h : Keeps g s t) (hf : f.fits = true) (hg : g.fits = true) (ho : f.apart g) :
    Keeps g s (t.event f) := h.setFld hf hg ho

theorem Keeps.bump {f g : Fld} {s t : State} {n : Nat} (h : Keeps g s t) (hf : f.fits = true) (hg : g.fits = true) (ho : f.apart g) :
    Keeps g s (t.bump f n) := h.setFld hf hg ho

theorem Keeps.record {g : Fld} {s t : State} {a b : Nat} {p : List Word} (h : Keeps g s t) (h1 : g.addr ≠ A_REC_LOST)
    (h2 : g.addr ≠ F_REC_EVENT_LOST_EVT.addr) : Keeps g s (t.record a b p) := fun c =>
  ⟨(State.record_acts t a b p).sound (h c).1, by
    rw [← (h c).2]
    unfold State.fld
    rw [reg_record (h c).1 a b _ p h1 h2]⟩

theorem Keeps.raise {g : Fld} {s t : State} {a : Nat} {p : List Word} (h : Keeps g s t) (h1 : g.addr ≠ A_REC_LOST)
    (h2 : g.addr ≠ F_REC_EVENT_LOST_EVT.addr) : Keeps g s (t.raise a p) := fun c =>
  ⟨(h c).1.raise a p, by
    rw [← (h c).2]
    unfold State.fld
    rw [reg_raise (h c).1 a _ p h1 h2]⟩

theorem Keeps.ite {g : Fld} {c : Prop} [Decidable c] {s a b : State} (h : c → Keeps g s a) (k : ¬c → Keeps g s b) :
    Keeps g s (if c then a else b) := by
  split
  · exact h ‹_›
  · exact k ‹_›

theorem Keeps.each {g : Fld} {f : State → Nat → State} {ns : List Nat} {s₀ s : State} (h₀ : Keeps g s₀ s) (h : ∀ s, ∀ n ∈ ns, Keeps g s (f s n)) :
    Keeps g s₀ (s.each ns f) := by
  unfold State.each
  induction ns generalizing s with
  | nil => exact h₀
  | cons a r ih => exact ih (h₀.trans (h s a (List.mem_cons_self ..))) (fun s n hn => h s n (List.mem_cons_of_mem _ hn))

/-- A field that lies outside a word: setting it changes nothing. -/
theorem fieldIn_outside (w : Word) (f : Fld) (v : Nat) (h : 32 ≤ f.lo) : fieldIn w f v = w := by
  obtain ⟨k, hk⟩ := Nat.exists_eq_add_of_le h
  have e : w.toNat / 2 ^ f.lo = 0 := Nat.div_eq_of_lt (Nat.lt_of_lt_of_le w.isLt (Nat.pow_le_pow_right (by decide) h))
  unfold fieldIn fieldOf
  rw [e, Nat.zero_mod, Nat.zero_mul, Nat.sub_zero, hk, Nat.pow_add]
  apply BitVec.eq_of_toNat_eq
  rw [BitVec.toNat_ofNat, show v % 2 ^ (f.hi + 1 - (32 + k)) * (2 ^ 32 * 2 ^ k) = 2 ^ 32 * (v % 2 ^ (f.hi + 1 - (32 + k)) * 2 ^ k) by ring,
    Nat.add_mul_mod_self_left, Nat.mod_eq_of_lt w.isLt]

/-- A single bit of a register, wherever it lies, beside the field `g`. -/
theorem Keeps.setBit {g : Fld} {s t : State} {a i : Nat} {b : Bool} (h : Keeps g s t) (hg : g.fits = true) (ho : g.addr ≠ a ∨ g.hi < i) :
    Keeps g s (t.setFlag (bitAt a i) b) := by
  by_cases hn : i < 32
  · refine h.setFlag (by simp [Fld.fits, bitAt, hn]) hg ?_
    rcases ho with ho | ho
    · exact Or.inl ho
    · exact Or.inr (Or.inr ho)
  · intro c
    refine ⟨(h c).1.setFlag _ _, ?_⟩
    rw [← (h c).2]
    show fieldOf ((t.setReg a (fieldIn (t.reg a) (bitAt a i) (bit b))).reg g.addr) g = _
    rw [fieldIn_outside _ _ _ (Nat.le_of_not_lt hn), reg_setReg (h c).1]
    split
    · rename_i e
      unfold State.fld
      rw [e]
    · rfl

/-! Fields of SAF_STATUS below bit 16, through the operations on brakes, tests and the Ladle. -/

/-- A field that brakes, tests, hand-overs and records leave alone: one of a block before SAF_EVENT, REC, TWN_EVENT and CTL_DEGR apart, and in SAF_STATUS
one below bit 16. -/
def Fld.safeBit (g : Fld) : Prop :=
  (g.addr < 0x90008 ∧ g.addr ≠ A_REC_LOST ∧ g.addr ≠ F_REC_EVENT_LOST_EVT.addr ∧ g.addr ≠ F_TWN_EVENT_HANDOVER.addr ∧
    g.addr ≠ A_CTL_DEGR) ∧ g.fits = true ∧
  (g.addr = A_SAF_STATUS → g.hi < 16)

theorem Fld.safeBit.ne {g : Fld} (hg : g.safeBit) {a : Nat} (h : 0x90008 ≤ a) : g.addr ≠ a := by
  have := hg.1.1
  omega

theorem Fld.safeBit.rec {g : Fld} (hg : g.safeBit) : g.addr ≠ A_REC_LOST ∧ g.addr ≠ F_REC_EVENT_LOST_EVT.addr := ⟨hg.1.2.1, hg.1.2.2.1⟩

theorem Fld.safeBit.below {g : Fld} (hg : g.safeBit) {i : Nat} (h : 16 ≤ i) : g.addr ≠ A_SAF_STATUS ∨ g.hi < i := by
  by_cases e : g.addr = A_SAF_STATUS
  · exact Or.inr (Nat.lt_of_lt_of_le (hg.2.2 e) h)
  · exact Or.inl e

theorem Keeps.showBrake {g : Fld} (hg : g.safeBit) {s t : State} {n : Nat} (h : Keeps g s t) : Keeps g s (t.showBrake n) := by
  have hf := hg.2.1
  unfold State.showBrake
  have no : ∀ i, g.addr ≠ A_SAF_BRK_STAT i := fun i => hg.ne (by simp only [A_SAF_BRK_STAT]; omega)
  have no2 : ∀ i, g.addr ≠ A_SAF_BRK_DEGR i := fun i => hg.ne (by simp only [A_SAF_BRK_DEGR]; omega)
  exact ((((h.setFld rfl hf (Or.inl (no n))).setFld rfl hf (Or.inl (no n))).setFlag rfl hf (Or.inl (no n))).setReg (no2 n)).setBit hf (hg.below (by omega))

theorem Keeps.applyBrake {g : Fld} (hg : g.safeBit) {s t : State} {n : Nat} (h : Keeps g s t) : Keeps g s (t.applyBrake n) :=
  (h.acts (State.setBrake_acts t n _) (by decide)).showBrake hg

theorem Keeps.settleBrakes {g : Fld} (hg : g.safeBit) {s t : State} (h : Keeps g s t) : Keeps g s t.settleBrakes :=
  h.each (fun u _ _ => by
    split
    · exact (Keeps.refl u).applyBrake hg
    · exact Keeps.refl u)

theorem Keeps.endBrakeTest {g : Fld} (hg : g.safeBit) {s t : State} {r : Nat} (h : Keeps g s t) : Keeps g s (t.endBrakeTest r) := by
  have hf := hg.2.1
  unfold State.endBrakeTest
  split
  · exact h
  · rename_i b _
    have no : ∀ i, g.addr ≠ A_SAF_BRK_TEST i := fun i => hg.ne (by simp only [A_SAF_BRK_TEST]; omega)
    have no2 : ∀ i, g.addr ≠ A_SAF_BRK_STAT i := fun i => hg.ne (by simp only [A_SAF_BRK_STAT]; omega)
    have no3 : ∀ i, g.addr ≠ A_SAF_BRK_AGE i := fun i => hg.ne (by simp only [A_SAF_BRK_AGE]; omega)
    have n1 := hg.rec.1
    have n2 := hg.rec.2
    have n4 : g.addr ≠ A_SAF_EVENT := hg.ne (by decide)
    have ht : F_SAF_STATUS_TEST.apart g := (hg.below (i := 24) (by decide)).elim Or.inl (fun x => Or.inr (Or.inr x))
    have h1 : Keeps g s { t with saf := { t.saf with test := none } } := h.upd rfl (fun k => k.of_eq rfl rfl rfl rfl rfl rfl rfl rfl rfl rfl rfl rfl rfl rfl)
    extract_lets q s1 s2 s3
    have k1 : Keeps g s s1 := h1
    have h2 : Keeps g s s2 := Keeps.event (f := F_SAF_EVENT_TEST_EVT) (Keeps.setFlag (f := F_SAF_BRK_STAT_TEST_FAIL b.chan)
      (Keeps.setReg (a := A_SAF_BRK_TEST b.chan) k1 (no _)) rfl hf (Or.inl (no2 _))) rfl hf (Or.inl n4)
    have h3 : Keeps g s s3 := Keeps.showBrake hg (Keeps.setFlag (f := F_SAF_STATUS_TEST) h2 rfl hf ht)
    clear_value s3
    split
    · refine Keeps.raise ?_ n1 n2
      refine Keeps.acts ?_ (State.setBrake_acts _ _ _) (by decide)
      refine Keeps.setFlag (f := F_SAF_BRK_STAT_TEST_DUE b.chan) (Keeps.setReg (a := A_SAF_BRK_AGE b.chan) ?_ (no3 _)) rfl hf (Or.inl (no2 _))
      exact h3.upd rfl (fun k => k.of_eq rfl rfl rfl rfl rfl rfl rfl rfl rfl rfl rfl rfl rfl rfl)
    · exact h3.raise n1 n2

theorem Keeps.setGate {g : Fld} (hg : g.fits = true) (ho : F_SAF_STATUS_GATE.apart g) {s t : State} {n : Nat} (h : Keeps g s t) :
    Keeps g s (t.setGate n) := by
  unfold State.setGate
  have k := h.setFld (f := F_SAF_STATUS_GATE) (v := n) rfl hg ho
  simp only
  split
  · exact k.upd rfl (fun k => k.of_eq rfl rfl rfl rfl rfl rfl rfl rfl rfl rfl rfl rfl rfl rfl)
  · exact k

theorem Keeps.endTests {g : Fld} (hg : g.safeBit) {s t : State} {n : Nat} (h : Keeps g s t) : Keeps g s (t.endTests n) :=
  (h.endBrakeTest hg).acts (State.stopInjection_acts _ n) (by decide)

theorem Keeps.dropLease {g : Fld} (hg : g.fits = true) (h1 : F_SAF_STATUS_GATE.apart g) (h2 : F_SAF_STATUS_LEASE.apart g) {s t : State}
    (h : Keeps g s t) : Keeps g s t.dropLease := by
  unfold State.dropLease
  refine Keeps.setGate hg h1 (Keeps.setFlag ?_ rfl hg h2)
  exact h.upd rfl (fun k => k.of_eq rfl rfl rfl rfl rfl rfl rfl rfl rfl rfl rfl rfl rfl rfl)

/-- The gate is closed once it has been closed. -/
theorem setGate_closed {s : State} (h : s.Sound) : (s.setGate gateClosed).fld F_SAF_STATUS_GATE = gateClosed := by
  have := fld_setFld h F_SAF_STATUS_GATE gateClosed rfl
  unfold State.setGate
  simp only [if_pos]
  exact this

/-- The Ladle dropped: no lease, and the gate closed. -/
theorem dropLease_spec {s : State} (h : s.Sound) : s.dropLease.Sound ∧ s.dropLease.saf.leaseFrom = none ∧
    s.dropLease.fld F_SAF_STATUS_GATE = gateClosed := by
  refine ⟨(State.dropLease_acts s).sound h, ?_, ?_⟩
  · unfold State.dropLease State.setGate
    simp
  · refine setGate_closed (State.Sound.setFlag ?_ _ _)
    exact h.of_eq rfl rfl rfl rfl rfl rfl rfl rfl rfl rfl rfl rfl rfl rfl


/-! One active alarm, through operations that raise others. -/

theorem Acts.keepsAlarms {m : Nat} {s t : State} (h : Acts m s t) (hm : m.testBit 7 = false) : t.alarms = s.alarms := h.frame .alarms hm

theorem alarm_of_acts {m c : Nat} {s t : State} (h : Acts m s t) (hm : m.testBit 7 = false) : t.alarm? c = s.alarm? c := by
  unfold State.alarm?
  rw [show t.alarms = s.alarms from h.frame .alarms hm]

theorem alarm_raise_other {s : State} {a c : Nat} {p : List Word} (h : a ≠ c) : (s.raise a p).alarm? c = s.alarm? c := by
  rw [alarm_raise, if_neg h]

theorem alarm_endBrakeTest {s : State} {r c : Nat} (h1 : 0x0A09 ≠ c) (h2 : 0x0A0A ≠ c) : (s.endBrakeTest r).alarm? c = s.alarm? c := by
  unfold State.endBrakeTest
  split
  · rfl
  · rename_i b _
    extract_lets q s1 s2 s3
    have e2 : s2.alarms = s.alarms := by
      show (((s1.setReg _ _).setFlag _ _).event _).alarms = _
      rw [State.event_alarms, State.setFlag_alarms, State.setReg_alarms]
    have e3 : s3.alarms = s2.alarms := by
      show ((s2.setFlag _ _).showBrake _).alarms = _
      rw [(State.showBrake_acts (s2.setFlag F_SAF_STATUS_TEST false) b.chan).keepsAlarms (by decide), State.setFlag_alarms]
    have h4 := e3.trans e2
    have h3 : s3.alarm? c = s.alarm? c := by
      unfold State.alarm?
      rw [h4]
    clear_value s3
    split
    · rw [alarm_raise_other h1, alarm_of_acts (State.setBrake_acts _ _ _) (by decide), ← h3]
      unfold State.alarm?
      rw [State.setFlag_alarms, State.setReg_alarms]
    · rw [alarm_raise_other h2, h3]

theorem alarm_dropToArmed {s : State} {c : Nat} (h1 : 0x0A09 ≠ c) (h2 : 0x0A0A ≠ c) : s.dropToArmed.alarm? c = s.alarm? c := by
  unfold State.dropToArmed
  show ((s.endTests 3).dropLease).alarm? c = _
  rw [alarm_of_acts (State.dropLease_acts _) (by decide)]
  unfold State.endTests
  rw [alarm_of_acts (State.stopInjection_acts _ _) (by decide), alarm_endBrakeTest h1 h2]

theorem alarm_handOver {s : State} {c k : Nat} (h1 : 0x0A09 ≠ c) (h2 : 0x0A0A ≠ c) (h3 : 0x0408 ≠ c) : (s.handOver k).alarm? c = s.alarm? c := by
  unfold State.handOver
  extract_lets e t u
  rw [alarm_raise_other h3, alarm_of_acts (State.event_acts _ _) (by decide)]
  show u.alarm? c = _
  rw [show u.alarm? c = t.dropToArmed.alarm? c from alarm_of_acts (State.setLadleEp_acts _ _) (by decide), alarm_dropToArmed h1 h2,
    show t.alarm? c = (s.setGate gateClosed).alarm? c from alarm_of_acts (State.twinSend_acts _ _ _ _) (by decide),
    alarm_of_acts (State.setGate_acts _ _) (by decide)]

theorem alarm_causeGone_other {s : State} {a c : Nat} (h : a ≠ c) : (s.causeGone a).alarm? c = s.alarm? c := by
  have hd : (s.dropAlarm a).alarm? c = s.alarm? c := by
    have e : ∀ t : State, t.alarms = s.alarms.filter (fun x => x.code != a) → t.alarm? c = s.alarm? c := by
      intro t ht
      unfold State.alarm?
      rw [ht, List.find?_filter]
      congr 1
      funext x
      by_cases k : x.code = c
      · simp [k, Ne.symm h]
      · simp [k]
    unfold State.dropAlarm
    dsimp only
    split
    · rw [alarm_record]
      exact e _ rfl
    · exact e _ rfl
  unfold State.causeGone
  split
  · exact hd
  · unfold State.alarm?
    rw [find_putAlarm, if_neg h]
  · rfl

theorem alarm_endFallback {s : State} {c : Nat} (h : 0x1603 ≠ c) : s.endFallback.alarm? c = s.alarm? c := by
  unfold State.endFallback
  rw [alarm_causeGone_other h, alarm_of_acts (State.setCond_acts _ _ _) (by decide)]
  rfl

theorem alarm_inSafeState {s : State} {c : Nat} (h : 0x130C ≠ c) (h2 : 0x1603 ≠ c) : s.inSafeState.alarm? c = s.alarm? c := by
  unfold State.inSafeState
  show s.reportStop.endFallback.alarm? c = _
  rw [alarm_endFallback h2]
  unfold State.reportStop
  split
  · rw [alarm_raise_other h]
    rfl
  · rfl

/-! Leaving ACTIVE, the hand-over and the global safe state. -/

/-- What holds while the gate is shut for good reason: no lease counts, and the gate is closed. -/
def State.Shut (s : State) : Prop := s.Sound ∧ s.saf.leaseFrom = none ∧ s.fld F_SAF_STATUS_GATE = gateClosed

theorem dropToArmed_spec {s : State} (h : s.Sound) : s.dropToArmed.Shut ∧ s.dropToArmed.dev.st = .armed ∧ s.dropToArmed.twn.holder = none := by
  have h1 : (s.endTests 3).Sound := (State.endTests_acts s 3).sound h
  have h2 := dropLease_spec h1
  refine ⟨⟨(State.dropToArmed_acts s).sound h, h2.2.1, h2.2.2⟩, rfl, rfl⟩

theorem Keeps.dropToArmed {g : Fld} (hg : g.safeBit) (h1 : F_SAF_STATUS_GATE.apart g) (h2 : F_SAF_STATUS_LEASE.apart g) {s t : State} (h : Keeps g s t) :
    Keeps g s t.dropToArmed := by
  unfold State.dropToArmed
  refine Keeps.upd (t := (t.endTests 3).dropLease) ?_ rfl (fun k => k.of_eq rfl rfl rfl rfl rfl rfl rfl rfl rfl rfl rfl rfl rfl rfl)
  exact (h.endTests hg).dropLease hg.2.1 h1 h2

theorem Keeps.handOver {g : Fld} (hg : g.safeBit) (h1 : F_SAF_STATUS_GATE.apart g) (h2 : F_SAF_STATUS_LEASE.apart g) {s t : State} {k : Nat}
    (h : Keeps g s t) : Keeps g s (t.handOver k) := by
  unfold State.handOver
  have n1 := hg.rec.1
  have n2 := hg.rec.2
  have n3 : g.addr ≠ F_TWN_EVENT_HANDOVER.addr := hg.1.2.2.2.1
  simp only
  refine Keeps.raise (Keeps.event ?_ rfl hg.2.1 (Or.inl n3)) n1 n2
  refine Keeps.upd (t := State.setLadleEp (State.dropToArmed _) _) ?_ rfl (fun k => k.of_eq rfl rfl rfl rfl rfl rfl rfl rfl rfl rfl rfl rfl rfl rfl)
  refine Keeps.acts ?_ (State.setLadleEp_acts _ _) (by decide)
  refine Keeps.dropToArmed hg h1 h2 ?_
  exact (h.setGate hg.2.1 h1).acts (State.twinSend_acts _ _ _ _) (by decide)

theorem Keeps.setCond {g : Fld} (hg : g.fits = true) (ho : g.addr ≠ A_CTL_DEGR) {s t : State} {n : Nat} {b : Bool} (h : Keeps g s t) :
    Keeps g s (t.setCond n b) := by
  unfold State.setCond
  split
  · exact h
  · exact (h.setBit hg (Or.inl ho)).upd rfl (fun k => k.of_eq rfl rfl rfl rfl rfl rfl rfl rfl rfl rfl rfl rfl rfl rfl)

theorem Keeps.causeGone {g : Fld} (hg : g.safeBit) {s t : State} {a : Nat} (h : Keeps g s t) : Keeps g s (t.causeGone a) := fun c =>
  have m : Marks recFields t (t.causeGone a) := (Marks.refl t).causeGone (fun _ k => k)
  have x := m (h c).1
  ⟨x.1, (x.2 g hg.2.1 (fun f hf => by
    simp only [recFields, List.mem_cons, List.not_mem_nil, or_false] at hf
    rcases hf with rfl | rfl
    · exact Or.inl hg.rec.1
    · exact Or.inl hg.rec.2)).trans (h c).2⟩

theorem Keeps.endFallback {g : Fld} (hg : g.safeBit) {s t : State} (h : Keeps g s t) : Keeps g s t.endFallback := by
  unfold State.endFallback
  refine Keeps.causeGone hg (Keeps.setCond hg.2.1 hg.1.2.2.2.2 ?_)
  exact h.upd rfl (fun k => k.of_eq rfl rfl rfl rfl rfl rfl rfl rfl rfl rfl rfl rfl rfl rfl)

theorem Keeps.inSafeState {g : Fld} (hg : g.safeBit) {s t : State} (h : Keeps g s t) : Keeps g s t.inSafeState := by
  have n1 := hg.rec.1
  have n2 := hg.rec.2
  unfold State.inSafeState
  refine Keeps.upd (t := t.reportStop.endFallback) ?_ rfl (fun k => k.of_eq rfl rfl rfl rfl rfl rfl rfl rfl rfl rfl rfl rfl rfl rfl)
  refine Keeps.endFallback hg ?_
  unfold State.reportStop
  split
  · refine Keeps.raise (Keeps.upd h rfl ?_) n1 n2
    exact fun k => k.of_eq rfl rfl rfl rfl rfl rfl rfl rfl rfl rfl rfl rfl rfl rfl
  · exact h

/-- A change that keeps the gate's field and lease. -/
theorem State.Shut.keep {s t : State} (h : s.Shut) (k : Keeps F_SAF_STATUS_GATE s t) (e : t.saf.leaseFrom = s.saf.leaseFrom) : t.Shut :=
  ⟨(k h.1).1, e.trans h.2.1, (k h.1).2.trans h.2.2⟩

theorem handOver_spec {s : State} (h : s.Sound) (c : Nat) : (s.handOver c).Shut ∧ (s.handOver c).dev.st = .armed ∧
    (s.handOver c).twn.ladleEp = s.twn.ladleEp + 1 ∧ (s.handOver c).mram.ladleEp = s.twn.ladleEp + 1 ∧
    (s.handOver c).twn.holder = some (otherSide (s.handOver c).pins.side) := by
  unfold State.handOver
  simp only
  generalize hx : (s.setGate gateClosed).twinSend 3 .release [((s.twn.ladleEp + 1 : Nat) : Int)] = x
  have hs : x.Sound := by rw [← hx]; exact (State.twinSend_acts _ _ _ _).sound ((State.setGate_acts _ _).sound h)
  have d := dropToArmed_spec hs
  generalize x.dropToArmed = y at d
  refine ⟨?_, ?_, ?_, ?_, ?_⟩
  · refine State.Shut.keep (s := y) d.1 ?_ (by simp [State.setLadleEp])
    refine Keeps.raise (Keeps.event (f := F_TWN_EVENT_HANDOVER) ?_ rfl rfl (Or.inl (by decide))) (by decide) (by decide)
    exact Keeps.upd (Keeps.refl y) rfl (fun k => k.of_eq rfl rfl rfl rfl rfl rfl rfl rfl rfl rfl rfl rfl rfl rfl)
  · simpa [State.setLadleEp] using d.2.1
  · simp [State.setLadleEp]
  · simp [State.setLadleEp]
  · simp [State.setLadleEp]


/-- The global safe state is present in a sound state. -/
def State.Safed (s : State) : Prop := s.Shut ∧ s.inSafe = true ∧ s.pins.safeN = false

theorem safe_fits : Fld.safeBit F_SAF_STATUS_SAFE := ⟨by decide, rfl, fun _ => by decide⟩

theorem gate_fits : Fld.safeBit F_SAF_STATUS_GATE := ⟨by decide, rfl, fun _ => by decide⟩

theorem Keeps.inSafe {s t : State} (h : Keeps F_SAF_STATUS_SAFE s t) (c : s.Sound) : t.inSafe = s.inSafe := by
  unfold State.inSafe State.flag
  rw [(h c).2]

theorem State.Safed.inSafeState {s : State} (h : s.Safed) : s.inSafeState.Safed ∧ s.inSafeState.dev.st = .safe := by
  have hp : s.inSafeState.pins = s.pins := (State.inSafeState_acts s).frame .pins (by decide)
  have hl : s.inSafeState.saf = s.saf := (State.inSafeState_acts s).frame .saf (by decide)
  refine ⟨⟨h.1.keep ((Keeps.refl s).inSafeState gate_fits) (by rw [hl]), ?_, by rw [hp]; exact h.2.2⟩, rfl⟩
  rw [((Keeps.refl s).inSafeState safe_fits).inSafe h.1.1, h.2.1]

/-- Forcing the global safe state: it is present, no lease counts, the gate is closed and SAFE_n is low. A device outside BOOT is in SAFE; one in BOOT
stays there (R73, R335). -/
theorem globalSafe_spec {s : State} (h : s.Sound) (c : Nat) : (s.globalSafe c).Safed ∧
    (s.globalSafe c).dev.st = (if s.dev.st = .boot then .boot else .safe) := by
  unfold State.globalSafe
  extract_lets first s1 q s2 s3 s4 s5
  have h1 : s1.Sound := ((State.endTests_acts s 3).sound h).setFlag F_SAF_STATUS_SAFE true
  have f1 : s1.inSafe = true := flag_setFlag ((State.endTests_acts s 3).sound h) F_SAF_STATUS_SAFE true rfl
  have d1 : s1.dev = s.dev := by
    show ((s.endTests 3).setFlag _ _).dev = _
    rw [State.setFlag_dev, show (s.endTests 3).dev = s.dev from (State.endTests_acts s 3).frame .dev (by decide)]
  clear_value s1
  have k2 : Keeps F_SAF_STATUS_SAFE s1 s2 := (Keeps.refl s1).upd rfl (fun k => k.of_eq rfl rfl rfl rfl rfl rfl rfl rfl rfl rfl rfl rfl rfl rfl)
  have p2 : s2.pins.safeN = false := rfl
  have d2 : s2.dev = s.dev := d1
  clear_value s2
  have k3 : Keeps F_SAF_STATUS_SAFE s1 s3 ∧ s3.pins = s2.pins ∧ s3.dev = s2.dev := by
    show Keeps _ s1 (if _ then _ else _) ∧ State.pins (if _ then _ else _) = _ ∧ State.dev (if _ then _ else _) = _
    split
    · refine ⟨Keeps.raise (Keeps.event (f := F_SAF_EVENT_SAFE_EVT) (Keeps.setFld (f := F_SAF_CAUSE_CAUSE) k2 rfl rfl (Or.inl (by decide))) rfl rfl
        (Or.inl (by decide))) (by decide) (by decide), ?_, ?_⟩
      · rw [State.raise_pins, State.event_pins, State.setFld_pins]
      · rw [State.raise_dev, State.event_dev, State.setFld_dev]
    · exact ⟨k2, rfl, rfl⟩
  clear_value s3
  have h3 : s3.Sound := (k3.1 h1).1
  have f3 : s3.inSafe = true := (k3.1.inSafe h1).trans f1
  have h4 : s4.Shut := dropLease_spec h3
  have p4 : s4.pins = s3.pins := (State.dropLease_acts s3).frame .pins (by decide)
  have d4 : s4.dev = s3.dev := (State.dropLease_acts s3).frame .dev (by decide)
  have f4 : s4.inSafe = true := by
    have k : Keeps F_SAF_STATUS_SAFE s3 s4 := (Keeps.refl s3).dropLease rfl (Or.inr (Or.inr (by decide))) (Or.inr (Or.inr (by decide)))
    rw [k.inSafe h3, f3]
  clear_value s4
  have h5 : s5.Safed := by
    refine ⟨h4.keep ((Keeps.refl s4).settleBrakes gate_fits) ((State.settleBrakes_acts s4).frame .lease (by decide)), ?_, ?_⟩
    · rw [((Keeps.refl s4).settleBrakes safe_fits).inSafe h4.1, f4]
    · rw [show s5.pins = s4.pins from (State.settleBrakes_acts s4).frame .pins (by decide), p4, k3.2.1, p2]
  have d5 : s5.dev.st = s.dev.st := by
    rw [show s5.dev = s4.dev from (State.settleBrakes_acts s4).frame .dev (by decide), d4, k3.2.2, d2]
  clear_value s5
  rw [← d5]
  split
  · rename_i e
    exact ⟨h5, by rw [e]; rfl⟩
  · rename_i e
    have hx : ∀ x : State, x.Shut → Keeps F_SAF_STATUS_SAFE s5 x → x.pins = s5.pins → x.inSafeState.Safed ∧ x.inSafeState.dev.st = .safe :=
      fun x a b q => State.Safed.inSafeState ⟨a, by rw [b.inSafe h5.1.1, h5.2.1], by rw [q, h5.2.2]⟩
    rw [if_neg (show ¬s5.dev.st = .boot by rw [e]; decide)]
    split
    · exact hx _ (handOver_spec h5.1.1 8).1 ((Keeps.refl s5).handOver safe_fits (Or.inr (Or.inr (by decide))) (Or.inr (Or.inr (by decide))))
        ((State.handOver_acts s5 8).frame .pins (by decide))
    · exact hx _ (dropToArmed_spec h5.1.1).1 ((Keeps.refl s5).dropToArmed safe_fits (Or.inr (Or.inr (by decide))) (Or.inr (Or.inr (by decide))))
        ((State.dropToArmed_acts s5).frame .pins (by decide))
  all_goals
    rename_i e
    rw [if_neg (show ¬s5.dev.st = .boot by rw [e]; decide)]
    exact h5.inSafeState


theorem cause_fits : Fld.safeBit F_SAF_CAUSE_CAUSE := ⟨by decide, rfl, fun h => absurd h (by decide)⟩

/-- R334, R335: the first cause of the global safe state shows in SAF_CAUSE, with alarm 0x0A04. -/
theorem globalSafe_cause {s : State} (h : s.Sound) (c : Nat) (hc : c < 16) (hn : s.inSafe = false) :
    (s.globalSafe c).fld F_SAF_CAUSE_CAUSE = c ∧ (s.globalSafe c).Alarmed 0x0A04 := by
  unfold State.globalSafe
  extract_lets first s1 q s2 s3 s4 s5
  have h1 : s1.Sound := ((State.endTests_acts s 3).sound h).setFlag F_SAF_STATUS_SAFE true
  clear_value s1
  have h2 : s2.Sound := h1.of_eq rfl rfl rfl rfl rfl rfl rfl rfl rfl rfl rfl rfl rfl rfl
  clear_value s2
  have k3 : s3.Sound ∧ s3.fld F_SAF_CAUSE_CAUSE = c ∧ s3.alarm? 0x0A04 = some ⟨0x0A04, false, true⟩ := by
    have e : s3 = ((s2.setFld F_SAF_CAUSE_CAUSE c).event F_SAF_EVENT_SAFE_EVT).raise 0x0A04 (pay [c]) := if_pos (by
      show (!s.inSafe || decide (s.fld F_SAF_CAUSE_CAUSE = 0)) = true
      rw [hn]
      rfl)
    have a : (s2.setFld F_SAF_CAUSE_CAUSE c).Sound := h2.setFld _ _
    have k : Keeps F_SAF_CAUSE_CAUSE (s2.setFld F_SAF_CAUSE_CAUSE c) s3 := by
      rw [e]
      exact Keeps.raise (Keeps.event (f := F_SAF_EVENT_SAFE_EVT) (Keeps.refl _) rfl rfl (Or.inl (by decide))) (by decide) (by decide)
    refine ⟨(k a).1, ?_, ?_⟩
    · rw [(k a).2, fld_setFld h2 _ _ rfl]
      exact Nat.mod_eq_of_lt hc
    · rw [e, alarm_raise, if_pos rfl]
  clear_value s3
  have k4 : Keeps F_SAF_CAUSE_CAUSE s3 s4 := (Keeps.refl s3).dropLease rfl (Or.inl (by decide)) (Or.inl (by decide))
  have a4 : s4.alarm? 0x0A04 = s3.alarm? 0x0A04 := alarm_of_acts (State.dropLease_acts s3) (by decide)
  clear_value s4
  have k5 : Keeps F_SAF_CAUSE_CAUSE s3 s5 := k4.settleBrakes cause_fits
  have a5 : s5.alarm? 0x0A04 = s3.alarm? 0x0A04 := (alarm_of_acts (State.settleBrakes_acts s4) (by decide)).trans a4
  clear_value s5
  have go : ∀ x : State, Keeps F_SAF_CAUSE_CAUSE s3 x → x.alarm? 0x0A04 = s3.alarm? 0x0A04 →
      x.inSafeState.fld F_SAF_CAUSE_CAUSE = c ∧ x.inSafeState.alarm? 0x0A04 = some ⟨0x0A04, false, true⟩ := fun x k a =>
    ⟨by rw [(k.inSafeState cause_fits k3.1).2, k3.2.1], by rw [alarm_inSafeState (by decide) (by decide), a, k3.2.2]⟩
  unfold State.Alarmed
  split
  · exact ⟨by rw [(k5 k3.1).2, k3.2.1], by rw [a5, k3.2.2]⟩
  · split
    · exact go _ (k5.handOver cause_fits (Or.inl (by decide)) (Or.inl (by decide))) ((alarm_handOver (by decide) (by decide) (by decide)).trans a5)
    · exact go _ (k5.dropToArmed cause_fits (Or.inl (by decide)) (Or.inl (by decide))) ((alarm_dropToArmed (by decide) (by decide)).trans a5)
  all_goals exact go _ k5 a5

theorem State.Safed.global {s : State} (h : s.Safed) : s.InGlobalSafe := ⟨h.2.1, h.2.2, h.1.2.1, h.1.2.2⟩

/-- What forcing the global safe state leaves alone. -/
theorem Keeps.globalSafe {g : Fld} (hg : g.safeBit) (h1 : g.addr ≠ A_SAF_STATUS) (h2 : g.addr ≠ A_SAF_CAUSE) {s t : State} {c : Nat} (h : Keeps g s t) :
    Keeps g s (t.globalSafe c) := by
  have hf := hg.2.1
  unfold State.globalSafe
  extract_lets first s1 q s2 s3 s4 s5
  have k1 : Keeps g s s1 := (h.endTests hg).setFlag (f := F_SAF_STATUS_SAFE) (b := true) rfl hf (Or.inl h1)
  have k2 : Keeps g s s2 := k1.upd rfl (fun k => k.of_eq rfl rfl rfl rfl rfl rfl rfl rfl rfl rfl rfl rfl rfl rfl)
  clear_value s2
  have k3 : Keeps g s s3 := by
    refine Keeps.ite (fun _ => ?_) (fun _ => k2)
    exact Keeps.raise (Keeps.event (f := F_SAF_EVENT_SAFE_EVT) (Keeps.setFld (f := F_SAF_CAUSE_CAUSE) k2 rfl hf (Or.inl h2)) rfl hf
      (Or.inl (hg.ne (by decide)))) hg.rec.1 hg.rec.2
  clear_value s3
  have k5 : Keeps g s s5 := (k3.dropLease hf (Or.inl h1) (Or.inl h1)).settleBrakes hg
  clear_value s5
  split
  · exact k5
  · refine Keeps.inSafeState hg ?_
    split
    · exact k5.handOver hg (Or.inl h1) (Or.inl h1)
    · exact k5.dropToArmed hg (Or.inl h1) (Or.inl h1)
  all_goals exact k5.inSafeState hg

theorem Frame.refl (ps : List Part) (s : State) : Frame ps s s := fun p _ => Part.same_refl p s

theorem Frame.trans {ps : List Part} {s t u : State} (h : Frame ps s t) (k : Frame ps t u) : Frame ps s u :=
  fun p hp => Part.same_trans (h p hp) (k p hp)

theorem Frame.mono {ps qs : List Part} {s t : State} (h : Frame ps s t) (hs : ∀ p ∈ ps, p ∈ qs) : Frame qs s t := fun p hp => h p (fun k => hp (hs p k))

/-- From `s` to `t` the S-die keeps everything but its brakes and the lease. -/
def State.SafKept (s t : State) : Prop :=
  t.saf.params = s.saf.params ∧ t.saf.pairs = s.saf.pairs ∧ t.saf.conns = s.saf.conns ∧ t.saf.txSeq = s.saf.txSeq ∧ t.saf.test = s.saf.test ∧
  t.saf.ownFault = s.saf.ownFault ∧ t.saf.prevThrust = s.saf.prevThrust ∧ t.saf.verdictPass = s.saf.verdictPass ∧ t.saf.handed = s.saf.handed

theorem State.SafKept.refl (s : State) : s.SafKept s := ⟨rfl, rfl, rfl, rfl, rfl, rfl, rfl, rfl, rfl⟩

theorem State.SafKept.of_eq {s t u : State} (h : s.SafKept t) (e : u.saf = t.saf) : s.SafKept u := by
  unfold State.SafKept at *
  rw [e]
  exact h

theorem State.SafKept.applyBrake {s t : State} (h : s.SafKept t) (n : Nat) : s.SafKept (t.applyBrake n) := by
  unfold State.applyBrake
  refine State.SafKept.of_eq (t := t.setBrake n (fun b => { b with hs := false, ls := false })) ?_ ((State.showBrake_acts _ n).frame .saf (by decide))
  exact h

theorem State.SafKept.settleBrakes {s t : State} (h : s.SafKept t) : s.SafKept t.settleBrakes := by
  unfold State.settleBrakes State.each
  generalize List.range 8 = l
  induction l generalizing t with
  | nil => exact h
  | cons n r ih =>
    refine ih ?_
    show s.SafKept (if _ then _ else _)
    split
    · exact h.applyBrake n
    · exact h

/-- What the global safe state changes of a device in BOOT. -/
abbrev safeParts : List Part := [.alarms, .rcd, .pins, .saf, .lease, .brakes, .regs]

/-- In BOOT, with no test running and no output driving, the global safe state changes alarms, records, SAFE_n and registers, and of the S-die brakes and
lease alone. -/
theorem State.globalSafe_inBoot (s : State) (c : Nat) (hb : s.dev.st = .boot) (ht : s.saf.test = none) (hi : s.ctl.inj = none)
    (hc : s.ctl.stopCause = none) (hd : s.fch.driven = []) :
    Frame safeParts s (s.globalSafe c) ∧ s.SafKept (s.globalSafe c) ∧
    (s.globalSafe c).pins = { s.pins with safeN := false } := by
  unfold State.globalSafe
  extract_lets first s1 q s2 s3 s4 s5
  have e0 : s.endTests 3 = s := by
    unfold State.endTests State.endBrakeTest
    rw [ht]
    show s.stopInjection 3 = s
    unfold State.stopInjection
    rw [hi, hc]
    rfl
  have a1 : s1 = s.setFlag F_SAF_STATUS_SAFE true := by
    show (s.endTests 3).setFlag _ _ = _
    rw [e0]
  have f1 : Frame [.regs] s s1 := by
    rw [a1]
    exact (State.setFlag_acts s _ _).toFrame (by intro p; cases p <;> decide)
  clear_value s1
  have f2 : Frame safeParts s s2 := by
    refine (f1.mono (by decide)).trans (fun p hp => ?_)
    cases p <;> first | rfl | exact absurd (by decide) hp
  have p2 : s2.pins = { s.pins with safeN := false } := by
    show ({ s1.pins with safeN := false } : Pins) = _
    rw [show s1.pins = s.pins from f1 .pins (by decide)]
  have g2 : s2.saf = s.saf := f1 .saf (by decide)
  clear_value s2
  have i3 : Acts 34359738752 s2 s3 := by
    refine Acts.ite (fun _ => ?_) (fun _ => Acts.refl s2)
    exact (((State.setFld_acts ..).mono rfl).step (State.event_acts ..) rfl).step (State.raise_acts ..) rfl
  have f3 : Frame safeParts s s3 := f2.trans (i3.toFrame (by intro p; cases p <;> decide))
  have p3 : s3.pins = { s.pins with safeN := false } := Eq.trans (i3.frame .pins (by decide)) p2
  have g3 : s3.saf = s.saf := Eq.trans (i3.frame .saf (by decide)) g2
  clear_value s3
  have k4 : s.SafKept s4 := by
    have a : s4.saf = { s3.saf with leaseFrom := none } := by
      show (State.setGate _ _).saf = _
      refine ((State.setGate_acts _ _).frame .saf (by decide) : _ = _).trans ?_
      exact State.setFlag_saf ..
    unfold State.SafKept
    rw [a, g3]
    exact State.SafKept.refl s
  have f4 : Frame safeParts s s4 := by
    refine f3.trans (fun p hp => ?_)
    by_cases hf : p = .fch
    · subst hf
      have b : s3.fch = s.fch := f3 .fch (by decide)
      show s4.fch = s3.fch
      have a : s4.fch = { s3.fch with driven := s3.fch.driven.filter (fun n =>
          !((({ s3 with saf := { s3.saf with leaseFrom := none } }).setFlag F_SAF_STATUS_LEASE false).setFld F_SAF_STATUS_GATE gateClosed).flag
            (F_FCH_CFG_LEASE n)) } := rfl
      have z : s3.fch.driven = [] := by rw [b]; exact hd
      rw [a, z, List.filter_nil]
      show _ = s3.fch
      conv_rhs => rw [show s3.fch = { s3.fch with driven := s3.fch.driven } from rfl, z]
    · exact (State.dropLease_acts s3).frame p (by cases p <;> first | rfl | exact absurd (by decide) hp | exact absurd rfl hf)
  have p4 : s4.pins = { s.pins with safeN := false } := Eq.trans ((State.dropLease_acts s3).frame .pins (by decide)) p3
  clear_value s4
  have i5 := State.settleBrakes_acts s4
  have k5 : s.SafKept s5 := k4.settleBrakes
  have f5 : Frame safeParts s s5 := f4.trans (i5.toFrame (by intro p; cases p <;> decide))
  have p5 : s5.pins = { s.pins with safeN := false } := Eq.trans (i5.frame .pins (by decide)) p4
  clear_value s5
  have d5 : s5.dev.st = .boot := Eq.trans (f5 .devSt (by decide)) hb
  split
  · exact ⟨f5, k5, p5⟩
  all_goals
    rename_i e
    rw [d5] at e
    cases e

end Sys2Proof.Machine
end

