-- ==== Sys2Proof/Laws/Moves.lean ====
section
/-! SUPPORT. How the device state can move (R73, R74): `Moves s t` says that from `s` to `t` it stays, goes to SAFE, or goes from ACTIVE to ARMED.
Every operation below moves it so; ARMED is entered from BOOT only at a freeze, and ACTIVE only at a pour or on a RELEASE. -/
namespace Sys2Proof.Machine

/-- The device state stays, becomes SAFE, or leaves ACTIVE for ARMED. -/
def Moves (s t : State) : Prop := t.dev.st = s.dev.st ∨ t.dev.st = .safe ∨ (s.dev.st = .active ∧ t.dev.st = .armed)

theorem Moves.refl (s : State) : Moves s s := Or.inl rfl

theorem Moves.step {s t u : State} (h : Moves s t) (k : Moves t u) : Moves s u := by
  unfold Moves at *
  rcases k with k | k | ⟨k, l⟩
  · rw [k]; exact h
  · exact Or.inr (Or.inl k)
  · rcases h with h | h | ⟨_, h⟩
    · exact Or.inr (Or.inr ⟨h ▸ k, l⟩)
    · rw [h] at k; cases k
    · rw [h] at k; cases k

theorem Moves.acts {m : Nat} {s t u : State} (h : Moves s t) (k : Acts m t u) (hm : m.testBit 42 = false) : Moves s u := by
  have e : u.dev.st = t.dev.st := k.frame .devSt hm
  unfold Moves at *
  rw [e]
  exact h

theorem Moves.ite {c : Prop} [Decidable c] {s a b : State} (h : c → Moves s a) (k : ¬c → Moves s b) : Moves s (if c then a else b) := by
  split
  · exact h ‹_›
  · exact k ‹_›

theorem Moves.foldl {α : Type} {f : State → α → State} {l : List α} {s₀ s : State} (h₀ : Moves s₀ s) (h : ∀ s x, Moves s (f s x)) :
    Moves s₀ (l.foldl f s) := by
  induction l generalizing s with
  | nil => exact h₀
  | cons a l ih => exact ih (h₀.step (h s a))

theorem Moves.each {f : State → Nat → State} {l : List Nat} {s₀ s : State} (h₀ : Moves s₀ s) (h : ∀ s x, Moves s (f s x)) :
    Moves s₀ (s.each l f) := h₀.foldl h

theorem Moves.when {f : State → State} {b : Bool} {s₀ s : State} (h₀ : Moves s₀ s) (h : ∀ s, Moves s (f s)) : Moves s₀ (s.when b f) := by
  unfold State.when
  split
  · exact h₀.step (h s)
  · exact h₀

/-- A change after which the device is in SAFE. -/
theorem Moves.toSafe {s t : State} (h : t.dev.st = .safe) : Moves s t := Or.inr (Or.inl h)

theorem Moves.upd_ann {s t : State} {ann0 : Ann} (h : Moves s t) : Moves s { t with ann := ann0 } := h

theorem Moves.upd_boot {s t : State} {boot0 : Boot} (h : Moves s t) : Moves s { t with boot := boot0 } := h

theorem Moves.upd_boot_dev {s t : State} {boot0 : Boot} {dev0 : Dev} (h : Moves s t) (e : dev0.st = t.dev.st) : Moves s { t with boot := boot0, dev := dev0 } := by
  unfold Moves at *
  rw [← e] at h
  exact h

theorem Moves.upd_boot_dev_rcd_twn {s t : State} {boot0 : Boot} {dev0 : Dev} {rcd0 : Recorder} {twn0 : Twn} (h : Moves s t) (e : dev0.st = t.dev.st) : Moves s { t with boot := boot0, dev := dev0, rcd := rcd0, twn := twn0 } := by
  unfold Moves at *
  rw [← e] at h
  exact h

theorem Moves.upd_clk {s t : State} {clk0 : Clk} (h : Moves s t) : Moves s { t with clk := clk0 } := h

theorem Moves.upd_dev {s t : State} {dev0 : Dev} (h : Moves s t) (e : dev0.st = t.dev.st) : Moves s { t with dev := dev0 } := by
  unfold Moves at *
  rw [← e] at h
  exact h

theorem Moves.upd_dev_twn {s t : State} {dev0 : Dev} {twn0 : Twn} (h : Moves s t) (e : dev0.st = t.dev.st) : Moves s { t with dev := dev0, twn := twn0 } := by
  unfold Moves at *
  rw [← e] at h
  exact h

theorem Moves.upd_hlt {s t : State} {hlt0 : Hlt} (h : Moves s t) : Moves s { t with hlt := hlt0 } := h

theorem Moves.upd_mram {s t : State} {mram0 : Mram} (h : Moves s t) : Moves s { t with mram := mram0 } := h

theorem Moves.upd_mram_hlt {s t : State} {mram0 : Mram} {hlt0 : Hlt} (h : Moves s t) : Moves s { t with mram := mram0, hlt := hlt0 } := h

theorem Moves.upd_pins {s t : State} {pins0 : Pins} (h : Moves s t) : Moves s { t with pins := pins0 } := h

theorem Moves.upd_pins_saf {s t : State} {pins0 : Pins} {saf0 : Saf} (h : Moves s t) : Moves s { t with pins := pins0, saf := saf0 } := h

theorem Moves.upd_saf {s t : State} {saf0 : Saf} (h : Moves s t) : Moves s { t with saf := saf0 } := h

theorem Moves.upd_twn {s t : State} {twn0 : Twn} (h : Moves s t) : Moves s { t with twn := twn0 } := h

theorem State.onFrame_moves {s₀ s : State} {vc : Nat} {x : TwinHeader} {f : State → State} (h₀ : Moves s₀ s) (h : ∀ s, Moves s (f s)) :
    Moves s₀ (s.onFrame vc x f) := by
  unfold State.onFrame
  refine Moves.ite (fun _ => h₀) (fun _ => Moves.ite (fun _ => h₀.acts (State.twinBroken_acts ..) rfl) (fun _ => ?_))
  extract_lets src t
  have ht : Moves s₀ t := h₀.upd_twn
  clear_value t
  refine Moves.ite (fun _ => ?_) (fun _ => ht.acts (State.twinPush_acts ..) rfl)
  have hu : Moves s₀ { t with twn := { t.twn with link := t.twn.link.deliver vc x } } := ht.upd_twn
  exact (hu.step (h _)).acts (State.twinPush_acts ..) rfl

theorem State.onPath_moves {s₀ s : State} {path : Path} {f : State → State} (h₀ : Moves s₀ s) (h : ∀ s, Moves s (f s)) :
    Moves s₀ (s.onPath path f) := by
  unfold State.onPath
  split
  · exact State.onFrame_moves h₀ h
  · exact h₀.step (h _)
  · exact h₀.step (h _)



theorem State.dropToArmed_moves (s : State) (h : s.holds = true) : Moves s s.dropToArmed :=
  Or.inr (Or.inr ⟨by simpa [State.holds] using h, rfl⟩)

theorem State.handOver_moves (s : State) (c : Nat) (h : s.holds = true) : Moves s (s.handOver c) := by
  unfold State.handOver
  extract_lets e t u
  refine Moves.acts (Moves.acts ?_ (State.event_acts _ _) (by decide)) (State.raise_acts _ _ _) (by decide)
  have ht : t.dev = s.dev := by
    rw [show t.dev = (s.setGate gateClosed).dev from (State.twinSend_acts _ _ _ _).frame .dev (by decide), (State.setGate_acts s _).frame .dev (by decide)]
  have hu : Moves s u := by
    refine Moves.acts ?_ (State.setLadleEp_acts _ _) (by decide)
    refine Moves.step (t := t) (Or.inl (by rw [ht])) (State.dropToArmed_moves t ?_)
    unfold State.holds at *
    rw [ht]
    exact h
  exact hu

theorem State.inSafeState_moves (s : State) : Moves s s.inSafeState := Moves.toSafe rfl

theorem State.globalSafe_moves (s : State) (c : Nat) : Moves s (s.globalSafe c) := by
  unfold State.globalSafe
  extract_lets first s1 q s2 s3 s4 s5
  have h1 : Moves s s1 := Moves.acts (Moves.acts (Moves.refl s) (State.endTests_acts _ _) (by decide)) (State.setFlag_acts _ _ _) (by decide)
  have h2 : Moves s s2 := h1
  clear_value s2
  have h3 : Moves s s3 := by
    refine Moves.ite (fun _ => ?_) (fun _ => h2)
    exact ((h2.acts (State.setFld_acts _ _ _) (by decide)).acts (State.event_acts _ _) (by decide)).acts (State.raise_acts _ _ _) (by decide)
  clear_value s3
  have h5 : Moves s s5 := (h3.acts (State.dropLease_acts _) (by decide)).acts (State.settleBrakes_acts _) (by decide)
  clear_value s5
  split
  · exact h5
  · exact Moves.toSafe rfl
  all_goals exact Moves.toSafe rfl

theorem State.enterSafe_moves : ∀ x0, Moves x0 (State.enterSafe x0) := by
  intro x0
  unfold State.enterSafe
  refine .step ?_ (State.globalSafe_moves ..)
  exact .refl _

theorem State.bootToSafe_moves (s : State) : Moves s s.bootToSafe := Moves.toSafe rfl

theorem State.deviceFault_moves (s : State) (k : Nat) : Moves s (s.deviceFault k) := by
  unfold State.deviceFault
  extract_lets q s1 s2
  have h1 : Moves s s1 := by
    refine Moves.acts ?_ (State.raise_acts _ _ _) (by decide)
    exact Moves.refl s
  clear_value s1
  have h2 : Moves s s2 := by
    refine Moves.ite (fun hh => ?_) (fun _ => h1)
    refine Moves.ite (fun _ => ?_) (fun _ => ?_)
    · exact h1.step (State.handOver_moves _ _ hh)
    · exact h1.step (State.dropToArmed_moves _ hh)
  clear_value s2
  split
  · exact Moves.toSafe rfl
  · exact h2.step (State.globalSafe_moves _ _)

theorem State.clockLost_moves (s : State) (c : Nat) : Moves s (s.clockLost c) := by
  unfold State.clockLost
  extract_lets q r t
  have k : Moves s (s.raise c) := Moves.acts (Moves.refl s) (State.raise_acts s c []) (by decide)
  have ht : Moves s t := k
  refine Moves.ite (fun _ => Moves.ite (fun _ => Moves.toSafe rfl) (fun _ => ht)) (fun _ => ht)

theorem execRefinMissing_moves : ∀ x0, ∃ t, execRefinMissing x0 = .next t ∧ Moves x0 t := by
  intro x0
  unfold execRefinMissing
  refine ⟨_, rfl, ?_⟩
  refine .ite (fun _ => ?_) fun _ => ?_
  · refine .step ?_ (State.clockLost_moves ..)
    refine .acts ?_ (State.event_acts ..) rfl
    refine .acts ?_ (State.setFlag_acts ..) rfl
    refine .upd_clk ?_
    exact .refl _
  · refine .acts ?_ (State.setFlag_acts ..) rfl
    refine .upd_clk ?_
    exact .refl _

theorem execPllUnlock_moves : ∀ x0, ∃ t, execPllUnlock x0 = .next t ∧ Moves x0 t := by
  intro x0
  unfold execPllUnlock
  refine ⟨_, rfl, ?_⟩
  refine .ite (fun _ => ?_) fun _ => ?_
  · refine .step ?_ (State.clockLost_moves ..)
    refine .acts ?_ (State.event_acts ..) rfl
    refine .acts ?_ (State.setFlag_acts ..) rfl
    exact .refl _
  · exact .refl _

theorem execClockMonitorWindow_moves : ∀ x0 x1, ∃ t, execClockMonitorWindow x0 x1 = .next t ∧ Moves x1 t := by
  intro x0 x1
  unfold execClockMonitorWindow
  refine ⟨_, rfl, ?_⟩
  refine .ite (fun _ => ?_) fun _ => ?_
  · exact .refl _
  · refine .ite (fun _ => ?_) fun _ => ?_
    · refine .acts ?_ (State.setFlag_acts ..) rfl
      refine .upd_clk ?_
      exact .refl _
    · refine .ite (fun _ => ?_) fun _ => ?_
      · refine .step ?_ (State.globalSafe_moves ..)
        refine .acts ?_ (State.raise_acts ..) rfl
        refine .acts ?_ (State.event_acts ..) rfl
        refine .acts ?_ (State.setFlag_acts ..) rfl
        refine .upd_clk ?_
        exact .refl _
      · refine .acts ?_ (State.event_acts ..) rfl
        refine .acts ?_ (State.setFlag_acts ..) rfl
        refine .upd_clk ?_
        exact .refl _

theorem State.groupPairFails_moves : ∀ x0 x1 x2, Moves x0 (State.groupPairFails x0 x1 x2) := by
  intro x0 x1 x2
  unfold State.groupPairFails
  refine .ite (fun _ => ?_) fun _ => ?_
  · refine .step ?_ (State.deviceFault_moves ..)
    exact .refl _
  · refine .ite (fun _ => ?_) fun _ => ?_
    · refine .acts ?_ (State.loseSpare_acts ..) rfl
      exact .refl _
    · refine .acts ?_ (State.claimSpare_acts ..) rfl
      refine .acts ?_ (State.discardResults_acts ..) rfl
      exact .refl _

theorem State.pairFails_moves : ∀ x0 x1, Moves x0 (State.pairFails x0 x1) := by
  intro x0 x1
  unfold State.pairFails
  refine .ite (fun _ => ?_) fun _ => ?_
  · refine .step ?_ (State.globalSafe_moves ..)
    refine .upd_saf ?_
    refine .acts ?_ (State.countRetired_acts ..) rfl
    refine .upd_mram_hlt ?_
    exact .refl _
  · refine .ite (fun _ => ?_) fun _ => ?_
    · refine .step ?_ (State.deviceFault_moves ..)
      refine .acts ?_ (State.countRetired_acts ..) rfl
      refine .upd_mram_hlt ?_
      exact .refl _
    · refine .step ?_ (State.groupPairFails_moves ..)
      refine .acts ?_ (State.raise_acts ..) rfl
      refine .upd_twn ?_
      refine .acts ?_ (State.countRetired_acts ..) rfl
      refine .upd_mram_hlt ?_
      exact .refl _

theorem execLockstepMismatch_moves : ∀ x0 x1, ∃ t, execLockstepMismatch x0 x1 = .next t ∧ Moves x1 t := by
  intro x0 x1
  unfold execLockstepMismatch
  refine ⟨_, rfl, ?_⟩
  refine .ite (fun _ => ?_) fun _ => ?_
  · exact .refl _
  · refine .step ?_ (State.pairFails_moves ..)
    exact .refl _

theorem execRailFault_moves : ∀ x0 x1, ∃ t, execRailFault x0 x1 = .next t ∧ Moves x1 t := by
  intro x0 x1
  unfold execRailFault
  refine ⟨_, rfl, ?_⟩
  split
  · exact .refl _
  · refine .step ?_ (State.deviceFault_moves ..)
    refine .acts ?_ (State.raise_acts ..) rfl
    refine .upd_hlt ?_
    refine .acts ?_ (State.reachEl_acts ..) rfl
    exact .refl _

theorem State.retireBank_moves : ∀ x0 x1, Moves x0 (State.retireBank x0 x1) := by
  intro x0 x1
  unfold State.retireBank
  refine .ite (fun _ => ?_) fun _ => ?_
  · exact .refl _
  · refine .ite (fun _ => ?_) fun _ => ?_
    · refine .step ?_ (State.deviceFault_moves ..)
      exact .refl _
    · refine .upd_hlt ?_
      exact .refl _

theorem execEccError_moves : ∀ x0 x1 x2 x3, ∃ t, execEccError x0 x1 x2 x3 = .next t ∧ Moves x3 t := by
  intro x0 x1 x2 x3
  unfold execEccError
  refine ⟨_, rfl, ?_⟩
  refine .ite (fun _ => ?_) fun _ => ?_
  · refine .ite (fun _ => ?_) fun _ => ?_
    · refine .step ?_ (State.retireBank_moves ..)
      refine .upd_hlt ?_
      exact .refl _
    · refine .upd_hlt ?_
      exact .refl _
  · refine .step ?_ (State.retireBank_moves ..)
    refine .ite (fun _ => ?_) fun _ => ?_
    · refine .upd_twn ?_
      refine .upd_hlt ?_
      exact .refl _
    · refine .upd_hlt ?_
      exact .refl _

theorem State.shutdownAction_moves (s : State) : Moves s s.shutdownAction := by
  unfold State.shutdownAction
  split
  · refine Moves.ite (fun _ => ?_) (fun _ => Moves.refl s)
    extract_lets u
    have hu : Moves s u := by
      refine Moves.ite (fun hh => ?_) (fun _ => Moves.refl s)
      exact Moves.ite (fun _ => State.handOver_moves _ _ hh) (fun _ => State.dropToArmed_moves _ hh)
    exact (hu.step (State.globalSafe_moves _ _)).acts (State.raise_acts _ _ _) (by decide)
  · exact Moves.refl s

theorem State.readyAt_moves : ∀ x0 x1, Moves x0 (State.readyAt x0 x1) := by
  intro x0 x1
  unfold State.readyAt
  refine .upd_boot_dev ?_ rfl
  refine .acts ?_ (State.setFld_acts ..) rfl
  exact .refl _

theorem State.startAlone_moves : ∀ x0 x1, Moves x0 (State.startAlone x0 x1) := by
  intro x0 x1
  unfold State.startAlone
  refine .step ?_ (State.readyAt_moves ..)
  refine .ite (fun _ => ?_) fun _ => ?_
  · refine .acts ?_ (State.raise_acts ..) rfl
    refine .acts ?_ (State.setCond_acts ..) rfl
    refine .upd_twn ?_
    exact .refl _
  · refine .upd_twn ?_
    exact .refl _

theorem State.commonStart_moves : ∀ x0 x1 x2, Moves x0 (State.commonStart x0 x1 x2) := by
  intro x0 x1 x2
  unfold State.commonStart
  refine .step ?_ (State.readyAt_moves ..)
  refine .acts ?_ (State.setLadleEp_acts ..) rfl
  refine .upd_twn ?_
  exact .refl _

theorem State.sendStart_moves : ∀ x0 x1, Moves x0 (State.sendStart x0 x1) := by
  intro x0 x1
  unfold State.sendStart
  refine .step ?_ (State.commonStart_moves ..)
  refine .acts ?_ (State.twinSend_acts ..) rfl
  exact .refl _

theorem State.step11_moves : ∀ x0, Moves x0 (State.step11 x0) := by
  intro x0
  unfold State.step11
  split
  · refine .ite (fun _ => ?_) fun _ => ?_
    · exact .refl _
    · refine .ite (fun _ => ?_) fun _ => ?_
      · refine .step ?_ (State.startAlone_moves ..)
        exact .refl _
      · refine .ite (fun _ => ?_) fun _ => ?_
        · refine .step ?_ (State.startAlone_moves ..)
          exact .refl _
        · refine .ite (fun _ => ?_) fun _ => ?_
          · refine .step ?_ (State.startAlone_moves ..)
            exact .refl _
          · refine .ite (fun _ => ?_) fun _ => ?_
            · refine .step ?_ (State.sendStart_moves ..)
              exact .refl _
            · exact .refl _
  · exact .refl _

theorem State.takeHello_moves : ∀ x0 x1, Moves x0 (State.takeHello x0 x1) := by
  intro x0 x1
  unfold State.takeHello
  refine .step ?_ (State.step11_moves ..)
  refine .ite (fun _ => ?_) fun _ => ?_
  · refine .upd_twn ?_
    exact .refl _
  · refine .acts ?_ (State.twinSend_acts ..) rfl
    refine .upd_twn ?_
    exact .refl _

theorem execHelloFrame_moves : ∀ x0 x1 x2, ∃ t, execHelloFrame x0 x1 x2 = .next t ∧ Moves x2 t := by
  intro x0 x1 x2
  unfold execHelloFrame
  refine ⟨_, rfl, ?_⟩
  refine State.onFrame_moves ?_ ?_
  · exact .refl _
  · intro _
    refine .step ?_ (State.takeHello_moves ..)
    exact .refl _

theorem State.takeAuth_moves : ∀ x0 x1 x2, Moves x0 (State.takeAuth x0 x1 x2) := by
  intro x0 x1 x2
  unfold State.takeAuth
  split
  · refine .ite (fun _ => ?_) fun _ => ?_
    · refine .acts ?_ (State.requestSync_acts ..) rfl
      refine .step ?_ (State.step11_moves ..)
      refine .acts ?_ (State.twinTime_acts ..) rfl
      refine .acts ?_ (State.reselect_acts ..) rfl
      refine .acts ?_ (State.meetPeer_acts ..) rfl
      exact .refl _
    · refine .acts ?_ (State.raise_acts ..) rfl
      exact .refl _
  · exact .refl _

theorem execAuthFrame_moves : ∀ x0 x1 x2 x3, ∃ t, execAuthFrame x0 x1 x2 x3 = .next t ∧ Moves x3 t := by
  intro x0 x1 x2 x3
  unfold execAuthFrame
  refine ⟨_, rfl, ?_⟩
  refine State.onFrame_moves ?_ ?_
  · exact .refl _
  · intro _
    refine .step ?_ (State.takeAuth_moves ..)
    exact .refl _

theorem execTimeMarker_moves : ∀ x0 x1, ∃ t, execTimeMarker x0 x1 = .next t ∧ Moves x1 t := by
  intro x0 x1
  unfold execTimeMarker
  refine ⟨_, rfl, ?_⟩
  refine .ite (fun _ => ?_) fun _ => ?_
  · refine .step ?_ (State.step11_moves ..)
    refine .acts ?_ (State.twinTime_acts ..) rfl
    refine .acts ?_ (State.takeMarker_acts ..) rfl
    exact .refl _
  · exact .refl _

theorem execStartFrame_moves : ∀ x0 x1 x2 x3, ∃ t, execStartFrame x0 x1 x2 x3 = .next t ∧ Moves x3 t := by
  intro x0 x1 x2 x3
  unfold execStartFrame
  refine ⟨_, rfl, ?_⟩
  refine State.onFrame_moves ?_ ?_
  · exact .refl _
  · intro _
    refine .ite (fun _ => ?_) fun _ => ?_
    · refine .step ?_ (State.commonStart_moves ..)
      exact .refl _
    · exact .refl _

theorem execTwinWaitEnd_moves : ∀ x0, ∃ t, execTwinWaitEnd x0 = .next t ∧ Moves x0 t := by
  intro x0
  unfold execTwinWaitEnd
  refine ⟨_, rfl, ?_⟩
  refine .ite (fun _ => ?_) fun _ => ?_
  · refine .step ?_ (State.startAlone_moves ..)
    refine .acts ?_ (State.reachEl_acts ..) rfl
    exact .refl _
  · exact .refl _

theorem execRenew_moves : ∀ x0 x1 x2 x3 x4 x5, ∃ t, execRenew x0 x1 x2 x3 x4 x5 = .next t ∧ Moves x5 t := by
  intro x0 x1 x2 x3 x4 x5
  unfold execRenew
  refine ⟨_, rfl, ?_⟩
  refine State.onPath_moves ?_ ?_
  · refine .acts ?_ (State.reach_acts ..) rfl
    exact .refl _
  · intro _
    refine .ite (fun _ => ?_) fun _ => ?_
    · exact .refl _
    · refine .acts ?_ (State.sendAck_acts ..) rfl
      refine .ite (fun _ => ?_) fun _ => ?_
      · refine .acts ?_ (State.setLadleEp_acts ..) rfl
        refine .upd_twn ?_
        refine .ite (fun _ => ?_) fun _ => ?_
        · refine .acts ?_ (State.judgeLan_acts ..) rfl
          refine .ite (fun _ => ?_) fun _ => ?_
          · refine .step ?_ (State.dropToArmed_moves _ (by assumption))
            exact .refl _
          · exact .refl _
        · refine .ite (fun _ => ?_) fun _ => ?_
          · refine .step ?_ (State.dropToArmed_moves _ (by assumption))
            exact .refl _
          · exact .refl _
      · refine .upd_twn ?_
        refine .ite (fun _ => ?_) fun _ => ?_
        · refine .acts ?_ (State.judgeLan_acts ..) rfl
          refine .ite (fun _ => ?_) fun _ => ?_
          · refine .step ?_ (State.dropToArmed_moves _ (by assumption))
            exact .refl _
          · exact .refl _
        · refine .ite (fun _ => ?_) fun _ => ?_
          · refine .step ?_ (State.dropToArmed_moves _ (by assumption))
            exact .refl _
          · exact .refl _

theorem execLeaseExpiry_moves : ∀ x0, ∃ t, execLeaseExpiry x0 = .next t ∧ Moves x0 t := by
  intro x0
  unfold execLeaseExpiry
  refine ⟨_, rfl, ?_⟩
  split
  · refine .ite (fun _ => ?_) fun _ => ?_
    · refine .step ?_ (State.dropToArmed_moves _ (by assumption))
      refine .acts ?_ (State.dropLease_acts ..) rfl
      refine .acts ?_ (State.reachEl_acts ..) rfl
      exact .refl _
    · refine .acts ?_ (State.dropLease_acts ..) rfl
      refine .acts ?_ (State.reachEl_acts ..) rfl
      exact .refl _
  · exact .refl _

theorem State.verdictFails_moves : ∀ x0 x1, Moves x0 (State.verdictFails x0 x1) := by
  intro x0 x1
  unfold State.verdictFails
  refine .ite (fun _ => ?_) fun _ => ?_
  · refine .step ?_ (State.globalSafe_moves ..)
    refine .upd_saf ?_
    refine .acts ?_ (State.setFld_acts ..) rfl
    refine .acts ?_ (State.setFlag_acts ..) rfl
    refine .acts ?_ (State.raise_acts ..) rfl
    refine .acts ?_ (State.event_acts ..) rfl
    refine .acts ?_ (State.setReg_acts ..) rfl
    exact .refl _
  · refine .upd_saf ?_
    refine .acts ?_ (State.setFld_acts ..) rfl
    refine .acts ?_ (State.setFlag_acts ..) rfl
    refine .acts ?_ (State.raise_acts ..) rfl
    refine .acts ?_ (State.event_acts ..) rfl
    refine .acts ?_ (State.setReg_acts ..) rfl
    exact .refl _

theorem State.formVerdict_moves : ∀ x0 x1, Moves x0 (State.formVerdict x0 x1) := by
  intro x0 x1
  unfold State.formVerdict
  refine .ite (fun _ => ?_) fun _ => ?_
  · refine .acts ?_ (State.twinSend_acts ..) rfl
    refine .upd_twn ?_
    refine .ite (fun _ => ?_) fun _ => ?_
    · refine .acts ?_ (State.verdictPasses_acts ..) rfl
      exact .refl _
    · refine .step ?_ (State.verdictFails_moves ..)
      exact .refl _
  · refine .upd_twn ?_
    refine .ite (fun _ => ?_) fun _ => ?_
    · refine .acts ?_ (State.verdictPasses_acts ..) rfl
      exact .refl _
    · refine .step ?_ (State.verdictFails_moves ..)
      exact .refl _

theorem execVerdictFormation_moves : ∀ x0 x1, ∃ t, execVerdictFormation x0 x1 = .next t ∧ Moves x1 t := by
  intro x0 x1
  unfold execVerdictFormation
  refine ⟨_, rfl, ?_⟩
  refine .ite (fun _ => ?_) fun _ => ?_
  · refine .acts ?_ (State.stepDone_acts ..) rfl
    refine .step ?_ (State.formVerdict_moves ..)
    refine .acts ?_ (State.reach_acts ..) rfl
    exact .refl _
  · exact .refl _

theorem State.arbHandOver_moves : ∀ x0 x1, Moves x0 (State.arbHandOver x0 x1) := by
  intro x0 x1
  unfold State.arbHandOver
  refine .ite (fun _ => ?_) fun _ => ?_
  · refine .step ?_ (State.handOver_moves _ _ (by assumption))
    exact .refl _
  · refine .ite (fun _ => ?_) fun _ => ?_
    · refine .ite (fun _ => ?_) fun _ => ?_
      · refine .acts ?_ (State.leaveStep_acts ..) rfl
        exact .refl _
      · refine .acts ?_ (State.partnerLeft_acts ..) rfl
        exact .refl _
    · exact .refl _

theorem State.row2_moves : ∀ x0, Moves x0 (State.row2 x0) := by
  intro x0
  unfold State.row2
  refine .ite (fun _ => ?_) fun _ => ?_
  · refine .upd_twn ?_
    refine .acts ?_ (State.otherSideLeaves_acts ..) rfl
    exact .refl _
  · refine .ite (fun _ => ?_) fun _ => ?_
    · refine .step ?_ (State.enterSafe_moves ..)
      refine .ite (fun _ => ?_) fun _ => ?_
      · refine .step ?_ (State.dropToArmed_moves _ (by assumption))
        refine .upd_twn ?_
        refine .acts ?_ (State.otherSideLeaves_acts ..) rfl
        exact .refl _
      · refine .upd_twn ?_
        refine .acts ?_ (State.otherSideLeaves_acts ..) rfl
        exact .refl _
    · refine .upd_twn ?_
      refine .upd_twn ?_
      refine .acts ?_ (State.otherSideLeaves_acts ..) rfl
      exact .refl _

theorem State.applyRow_moves : ∀ x0 x1, Moves x0 (State.applyRow x0 x1) := by
  intro x0 x1
  unfold State.applyRow
  try dsimp only
  split
  · refine .acts ?_ (State.otherSideLeaves_acts ..) rfl
    refine .ite (fun _ => ?_) fun _ => ?_
    · exact .refl _
    · refine .upd_twn ?_
      exact .refl _
  · refine .step ?_ (State.row2_moves ..)
    refine .ite (fun _ => ?_) fun _ => ?_
    · exact .refl _
    · refine .upd_twn ?_
      exact .refl _
  · refine .step ?_ (State.arbHandOver_moves ..)
    refine .ite (fun _ => ?_) fun _ => ?_
    · exact .refl _
    · refine .upd_twn ?_
      exact .refl _
  · refine .acts ?_ (State.otherSideLeaves_acts ..) rfl
    refine .ite (fun _ => ?_) fun _ => ?_
    · exact .refl _
    · refine .upd_twn ?_
      exact .refl _
  · refine .step ?_ (State.arbHandOver_moves ..)
    refine .ite (fun _ => ?_) fun _ => ?_
    · exact .refl _
    · refine .upd_twn ?_
      exact .refl _
  · refine .ite (fun _ => ?_) fun _ => ?_
    · refine .ite (fun _ => ?_) fun _ => ?_
      · exact .refl _
      · refine .upd_twn ?_
        exact .refl _
    · refine .acts ?_ (State.otherSideLeaves_acts ..) rfl
      refine .ite (fun _ => ?_) fun _ => ?_
      · exact .refl _
      · refine .upd_twn ?_
        exact .refl _
  · refine .acts ?_ (State.otherSideLeaves_acts ..) rfl
    refine .acts ?_ (State.noteUnexplained_acts ..) rfl
    refine .ite (fun _ => ?_) fun _ => ?_
    · exact .refl _
    · refine .upd_twn ?_
      exact .refl _
  · refine .ite (fun _ => ?_) fun _ => ?_
    · exact .refl _
    · refine .upd_twn ?_
      exact .refl _

theorem State.arbitrate_moves : ∀ x0, Moves x0 (State.arbitrate x0) := by
  intro x0
  unfold State.arbitrate
  refine .ite (fun _ => ?_) fun _ => ?_
  · refine .step ?_ (State.applyRow_moves ..)
    refine .ite (fun _ => ?_) fun _ => ?_
    · refine .upd_twn ?_
      refine .ite (fun _ => ?_) fun _ => ?_
      · refine .acts ?_ (State.event_acts ..) rfl
        refine .acts ?_ (State.bump_acts ..) rfl
        exact .refl _
      · exact .refl _
    · refine .acts ?_ (State.raise_acts ..) rfl
      refine .acts ?_ (State.setReg_acts ..) rfl
      refine .upd_twn ?_
      refine .ite (fun _ => ?_) fun _ => ?_
      · refine .acts ?_ (State.event_acts ..) rfl
        refine .acts ?_ (State.bump_acts ..) rfl
        exact .refl _
      · exact .refl _
  · refine .upd_twn ?_
    exact .refl _

theorem State.arbitrationWork_moves : ∀ x0, Moves x0 (State.arbitrationWork x0) := by
  intro x0
  unfold State.arbitrationWork
  refine .acts ?_ (State.gateForPour_acts ..) rfl
  refine .step ?_ (State.arbitrate_moves ..)
  exact .refl _

theorem State.noSlot_moves : ∀ x0, Moves x0 (State.noSlot x0) := by
  intro x0
  unfold State.noSlot
  refine .step ?_ (State.bootToSafe_moves ..)
  refine .acts ?_ (State.raise_acts ..) rfl
  exact .refl _

theorem State.selectSlot_moves : ∀ x0, Moves x0 (State.selectSlot x0) := by
  intro x0
  unfold State.selectSlot
  try dsimp only
  split
  · refine .step ?_ (State.noSlot_moves ..)
    refine .each ?_ ?_
    · refine .acts ?_ (State.bootStep_acts ..) rfl
      exact .refl _
    · intro _ _
      refine .acts ?_ (State.slotStage_acts ..) rfl
      exact .refl _
  · refine .upd_boot ?_
    refine .each ?_ ?_
    · refine .acts ?_ (State.bootStep_acts ..) rfl
      exact .refl _
    · intro _ _
      refine .acts ?_ (State.slotStage_acts ..) rfl
      exact .refl _
  · refine .upd_boot ?_
    refine .ite (fun _ => ?_) fun _ => ?_
    · refine .acts ?_ (State.raise_acts ..) rfl
      refine .each ?_ ?_
      · refine .acts ?_ (State.bootStep_acts ..) rfl
        exact .refl _
      · intro _ _
        refine .acts ?_ (State.slotStage_acts ..) rfl
        exact .refl _
    · refine .each ?_ ?_
      · refine .acts ?_ (State.bootStep_acts ..) rfl
        exact .refl _
      · intro _ _
        refine .acts ?_ (State.slotStage_acts ..) rfl
        exact .refl _

theorem State.readFlashHeaders_moves : ∀ x0 x1, Moves x0 (State.readFlashHeaders x0 x1) := by
  intro x0 x1
  unfold State.readFlashHeaders
  refine .ite (fun _ => ?_) fun _ => ?_
  · refine .step ?_ (State.noSlot_moves ..)
    refine .each ?_ ?_
    · refine .acts ?_ (State.bootStep_acts ..) rfl
      exact .refl _
    · intro _ _
      refine .acts ?_ (State.slotStage_acts ..) rfl
      exact .refl _
  · refine .ite (fun _ => ?_) fun _ => ?_
    · refine .step ?_ (State.selectSlot_moves ..)
      refine .acts ?_ (State.raise_acts ..) rfl
      refine .upd_boot ?_
      refine .acts ?_ (State.bootStep_acts ..) rfl
      exact .refl _
    · refine .step ?_ (State.selectSlot_moves ..)
      refine .acts ?_ (State.bootStep_acts ..) rfl
      exact .refl _

theorem State.startBoot_moves : ∀ x0 x1, Moves x0 (State.startBoot x0 x1) := by
  intro x0 x1
  unfold State.startBoot
  refine .ite (fun _ => ?_) fun _ => ?_
  · refine .acts ?_ (State.setFld_acts ..) rfl
    refine .upd_boot ?_
    refine .acts ?_ (State.bootStep_acts ..) rfl
    refine .acts ?_ (State.setFlag_acts ..) rfl
    refine .upd_boot ?_
    exact .refl _
  · refine .ite (fun _ => ?_) fun _ => ?_
    · refine .step ?_ (State.deviceFault_moves ..)
      refine .acts ?_ (State.bootStep_acts ..) rfl
      refine .acts ?_ (State.bootStep_acts ..) rfl
      refine .acts ?_ (State.setFlag_acts ..) rfl
      refine .upd_boot ?_
      exact .refl _
    · refine .step ?_ (State.readFlashHeaders_moves ..)
      refine .acts ?_ (State.retireFailedBanks_acts ..) rfl
      refine .acts ?_ (State.readMram_acts ..) rfl
      refine .acts ?_ (State.bootStep_acts ..) rfl
      refine .acts ?_ (State.bootStep_acts ..) rfl
      refine .acts ?_ (State.bootStep_acts ..) rfl
      refine .acts ?_ (State.setFlag_acts ..) rfl
      refine .upd_boot ?_
      exact .refl _

theorem execBootStart_moves : ∀ x0 x1, ∃ t, execBootStart x0 x1 = .next t ∧ Moves x1 t := by
  intro x0 x1
  unfold execBootStart
  refine ⟨_, rfl, ?_⟩
  refine .ite (fun _ => ?_) fun _ => ?_
  · refine .step ?_ (State.startBoot_moves ..)
    exact .refl _
  · exact .refl _

theorem State.handSafety_moves : ∀ x0 x1, Moves x0 (State.handSafety x0 x1) := by
  intro x0 x1
  unfold State.handSafety
  refine .ite (fun _ => ?_) fun _ => ?_
  · refine .each ?_ ?_
    · refine .upd_pins_saf ?_
      exact .refl _
    · intro _ _
      refine .acts ?_ (State.showBrake_acts ..) rfl
      exact .refl _
  · refine .acts ?_ (State.raise_acts ..) rfl
    refine .step ?_ (State.globalSafe_moves ..)
    refine .upd_boot ?_
    exact .refl _

theorem State.setUp_moves : ∀ x0 x1 x2, Moves x0 (State.setUp x0 x1 x2) := by
  intro x0 x1 x2
  unfold State.setUp
  refine .ite (fun _ => ?_) fun _ => ?_
  · refine .acts ?_ (State.setFlag_acts ..) rfl
    refine .acts ?_ (State.bootStep_acts ..) rfl
    refine .ite (fun _ => ?_) fun _ => ?_
    · refine .acts ?_ (State.release_acts ..) rfl
      refine .acts ?_ (State.showPattern_acts ..) rfl
      refine .acts ?_ (State.generateScenarios_acts ..) rfl
      refine .acts ?_ (State.setupElk_acts ..) rfl
      refine .acts ?_ (State.setupLoops_acts ..) rfl
      refine .acts ?_ (State.setupNet_acts ..) rfl
      refine .acts ?_ (State.setupSpt_acts ..) rfl
      refine .acts ?_ (State.setupCan_acts ..) rfl
      refine .acts ?_ (State.setupFields_acts ..) rfl
      refine .step ?_ (State.handSafety_moves ..)
      refine .acts ?_ (State.storeMoulds_acts ..) rfl
      refine .acts ?_ (State.loadAccess_acts ..) rfl
      refine .acts ?_ (State.bootStep_acts ..) rfl
      exact .refl _
    · refine .acts ?_ (State.loadApps_acts ..) rfl
      refine .acts ?_ (State.release_acts ..) rfl
      refine .acts ?_ (State.showPattern_acts ..) rfl
      refine .acts ?_ (State.generateScenarios_acts ..) rfl
      refine .acts ?_ (State.setupElk_acts ..) rfl
      refine .acts ?_ (State.setupLoops_acts ..) rfl
      refine .acts ?_ (State.setupNet_acts ..) rfl
      refine .acts ?_ (State.setupSpt_acts ..) rfl
      refine .acts ?_ (State.setupCan_acts ..) rfl
      refine .acts ?_ (State.setupFields_acts ..) rfl
      refine .step ?_ (State.handSafety_moves ..)
      refine .acts ?_ (State.storeMoulds_acts ..) rfl
      refine .acts ?_ (State.loadAccess_acts ..) rfl
      refine .acts ?_ (State.bootStep_acts ..) rfl
      exact .refl _
  · refine .acts ?_ (State.startApps_acts ..) rfl
    refine .acts ?_ (State.setFlag_acts ..) rfl
    refine .acts ?_ (State.bootStep_acts ..) rfl
    refine .ite (fun _ => ?_) fun _ => ?_
    · refine .acts ?_ (State.release_acts ..) rfl
      refine .acts ?_ (State.showPattern_acts ..) rfl
      refine .acts ?_ (State.generateScenarios_acts ..) rfl
      refine .acts ?_ (State.setupElk_acts ..) rfl
      refine .acts ?_ (State.setupLoops_acts ..) rfl
      refine .acts ?_ (State.setupNet_acts ..) rfl
      refine .acts ?_ (State.setupSpt_acts ..) rfl
      refine .acts ?_ (State.setupCan_acts ..) rfl
      refine .acts ?_ (State.setupFields_acts ..) rfl
      refine .step ?_ (State.handSafety_moves ..)
      refine .acts ?_ (State.storeMoulds_acts ..) rfl
      refine .acts ?_ (State.loadAccess_acts ..) rfl
      refine .acts ?_ (State.bootStep_acts ..) rfl
      exact .refl _
    · refine .acts ?_ (State.loadApps_acts ..) rfl
      refine .acts ?_ (State.release_acts ..) rfl
      refine .acts ?_ (State.showPattern_acts ..) rfl
      refine .acts ?_ (State.generateScenarios_acts ..) rfl
      refine .acts ?_ (State.setupElk_acts ..) rfl
      refine .acts ?_ (State.setupLoops_acts ..) rfl
      refine .acts ?_ (State.setupNet_acts ..) rfl
      refine .acts ?_ (State.setupSpt_acts ..) rfl
      refine .acts ?_ (State.setupCan_acts ..) rfl
      refine .acts ?_ (State.setupFields_acts ..) rfl
      refine .step ?_ (State.handSafety_moves ..)
      refine .acts ?_ (State.storeMoulds_acts ..) rfl
      refine .acts ?_ (State.loadAccess_acts ..) rfl
      refine .acts ?_ (State.bootStep_acts ..) rfl
      exact .refl _

theorem State.startPairs_moves : ∀ x0, Moves x0 (State.startPairs x0) := by
  intro x0
  unfold State.startPairs
  refine .ite (fun _ => ?_) fun _ => ?_
  · refine .step ?_ (State.deviceFault_moves ..)
    refine .upd_hlt ?_
    exact .refl _
  · refine .ite (fun _ => ?_) fun _ => ?_
    · refine .step ?_ (State.deviceFault_moves ..)
      refine .upd_hlt ?_
      exact .refl _
    · refine .upd_hlt ?_
      exact .refl _

theorem State.startTests_moves : ∀ x0 x1, Moves x0 (State.startTests x0 x1) := by
  intro x0 x1
  unfold State.startTests
  refine .each ?_ ?_
  · refine .each ?_ ?_
    · refine .each ?_ ?_
      · refine .step ?_ (State.startPairs_moves ..)
        refine .acts ?_ (State.placeLanes_acts ..) rfl
        refine .each ?_ ?_
        · exact .refl _
        · intro _ _
          refine .acts ?_ (State.returnUnit_acts ..) rfl
          exact .refl _
      · intro _ _
        refine .acts ?_ (State.bootLaneFails_acts ..) rfl
        exact .refl _
    · intro _ _
      refine .acts ?_ (State.bootChannelFails_acts ..) rfl
      exact .refl _
  · intro _ _
    refine .step ?_ (State.pairFails_moves ..)
    exact .refl _

theorem State.startRunning_moves : ∀ x0 x1, Moves x0 (State.startRunning x0 x1) := by
  intro x0 x1
  unfold State.startRunning
  refine .ite (fun _ => ?_) fun _ => ?_
  · refine .step ?_ (State.startTests_moves ..)
    refine .acts ?_ (State.bootStep_acts ..) rfl
    exact .refl _
  · refine .ite (fun _ => ?_) fun _ => ?_
    · refine .upd_boot ?_
      refine .acts ?_ (State.bootStep_acts ..) rfl
      refine .acts ?_ (State.firstTime_acts ..) rfl
      refine .acts ?_ (State.panelStart_acts ..) rfl
      refine .upd_ann ?_
      refine .acts ?_ (State.powerUpRecord_acts ..) rfl
      refine .acts ?_ (State.startFields_acts ..) rfl
      refine .step ?_ (State.startTests_moves ..)
      refine .acts ?_ (State.bootStep_acts ..) rfl
      exact .refl _
    · refine .step ?_ (State.readyAt_moves ..)
      refine .acts ?_ (State.firstTime_acts ..) rfl
      refine .acts ?_ (State.panelStart_acts ..) rfl
      refine .upd_ann ?_
      refine .acts ?_ (State.powerUpRecord_acts ..) rfl
      refine .acts ?_ (State.startFields_acts ..) rfl
      refine .step ?_ (State.startTests_moves ..)
      refine .acts ?_ (State.bootStep_acts ..) rfl
      exact .refl _

theorem State.nextSlot_moves : ∀ x0 x1 x2, Moves x0 (State.nextSlot x0 x1 x2) := by
  intro x0 x1 x2
  unfold State.nextSlot
  try dsimp only
  split
  · refine .upd_boot ?_
    refine .acts ?_ (State.bootStep_acts ..) rfl
    refine .acts ?_ (State.slotStage_acts ..) rfl
    exact .refl _
  · refine .step ?_ (State.noSlot_moves ..)
    refine .upd_boot ?_
    refine .acts ?_ (State.bootStep_acts ..) rfl
    refine .acts ?_ (State.slotStage_acts ..) rfl
    exact .refl _

theorem execSlotStreamEnd_moves : ∀ x0 x1, ∃ t, execSlotStreamEnd x0 x1 = .next t ∧ Moves x1 t := by
  intro x0 x1
  unfold execSlotStreamEnd
  refine ⟨_, rfl, ?_⟩
  refine .ite (fun _ => ?_) fun _ => ?_
  · exact .refl _
  · refine .ite (fun _ => ?_) fun _ => ?_
    · refine .step ?_ (State.nextSlot_moves ..)
      exact .refl _
    · split
      · refine .step ?_ (State.startRunning_moves ..)
        refine .step ?_ (State.setUp_moves ..)
        refine .acts ?_ (State.useImage_acts ..) rfl
        refine .acts ?_ (State.bootStep_acts ..) rfl
        exact .refl _
      · refine .step ?_ (State.nextSlot_moves ..)
        exact .refl _

theorem execBootTimeout_moves : ∀ x0, ∃ t, execBootTimeout x0 = .next t ∧ Moves x0 t := by
  intro x0
  unfold execBootTimeout
  refine ⟨_, rfl, ?_⟩
  refine .ite (fun _ => ?_) fun _ => ?_
  · refine .step ?_ (State.bootToSafe_moves ..)
    refine .acts ?_ (State.raise_acts ..) rfl
    refine .acts ?_ (State.reachEl_acts ..) rfl
    exact .refl _
  · exact .refl _

theorem State.refusedAtStep12_moves (s : State) (c : Nat) : Moves s (s.refusedAtStep12 c) := Moves.toSafe rfl

theorem State.hotRestart_moves : ∀ x0, Moves x0 (State.hotRestart x0) := by
  intro x0
  unfold State.hotRestart
  refine .ite (fun _ => ?_) fun _ => ?_
  · refine .ite (fun _ => ?_) fun _ => ?_
    · refine .acts ?_ (State.raise_acts ..) rfl
      refine .step ?_ (State.enterSafe_moves ..)
      refine .acts ?_ (State.setFlag_acts ..) rfl
      exact .refl _
    · refine .upd_mram ?_
      exact .refl _
  · exact .refl _

theorem State.freezeWork_moves : ∀ x0 x1 x2, Moves x0 (State.freezeWork x0 x1 x2) := by
  intro x0 x1 x2
  unfold State.freezeWork
  refine .acts ?_ (State.breakViews_acts ..) rfl
  refine .acts ?_ (State.anchorFreeze_acts ..) rfl
  refine .acts ?_ (State.statusItems_acts ..) rfl
  refine .acts ?_ (State.brakeTestFreeze_acts ..) rfl
  refine .acts ?_ (State.canFreeze_acts ..) rfl
  refine .acts ?_ (State.fieldFreeze_acts ..) rfl
  refine .when ?_ ?_
  · refine .acts ?_ (State.availabilityFreeze_acts ..) rfl
    refine .acts ?_ (State.gnssFreeze_acts ..) rfl
    refine .acts ?_ (State.sparesFreeze_acts ..) rfl
    refine .acts ?_ (State.bankSwitchNow_acts ..) rfl
    refine .acts ?_ (State.lanesFreeze_acts ..) rfl
    refine .acts ?_ (State.schedule_acts ..) rfl
    refine .acts ?_ (State.tuneFreeze_acts ..) rfl
    refine .acts ?_ (State.modeFreeze_acts ..) rfl
    refine .acts ?_ (State.soloCondition_acts ..) rfl
    refine .acts ?_ (State.joinNow_acts ..) rfl
    refine .ite (fun _ => ?_) fun _ => ?_
    · refine .step ?_ (State.enterSafe_moves ..)
      exact .refl _
    · exact .refl _
  · intro _
    refine .acts ?_ (State.fullFreeze_acts ..) rfl
    exact .refl _

theorem State.degrade_moves : ∀ x0 x1 x2, Moves x0 (State.degrade x0 x1 x2) := by
  intro x0 x1 x2
  unfold State.degrade
  refine .ite (fun _ => ?_) fun _ => ?_
  · refine .acts ?_ (State.setBrake_acts ..) rfl
    exact .refl _
  · refine .ite (fun _ => ?_) fun _ => ?_
    · refine .acts ?_ (State.raise_acts ..) rfl
      refine .acts ?_ (State.setCond_acts ..) rfl
      refine .acts ?_ (State.event_acts ..) rfl
      refine .acts ?_ (State.showBrake_acts ..) rfl
      refine .acts ?_ (State.setBrake_acts ..) rfl
      refine .upd_mram ?_
      refine .acts ?_ (State.setBrake_acts ..) rfl
      exact .refl _
    · refine .step ?_ (State.globalSafe_moves ..)
      refine .acts ?_ (State.raise_acts ..) rfl
      refine .acts ?_ (State.applyBrake_acts ..) rfl
      refine .acts ?_ (State.setBrake_acts ..) rfl
      refine .acts ?_ (State.setBrake_acts ..) rfl
      exact .refl _

theorem State.bothStuck_moves : ∀ x0 x1, Moves x0 (State.bothStuck x0 x1) := by
  intro x0 x1
  unfold State.bothStuck
  refine .step ?_ (State.globalSafe_moves ..)
  refine .acts ?_ (State.raise_acts ..) rfl
  refine .acts ?_ (State.showBrake_acts ..) rfl
  refine .acts ?_ (State.setBrake_acts ..) rfl
  exact .refl _

theorem State.reactSwitch_moves : ∀ x0 x1 x2, Moves x0 (State.reactSwitch x0 x1 x2) := by
  intro x0 x1 x2
  unfold State.reactSwitch
  try dsimp only
  split
  · refine .ite (fun _ => ?_) fun _ => ?_
    · refine .acts ?_ (State.endBrakeTest_acts ..) rfl
      split
      · exact .refl _
      · refine .step ?_ (State.degrade_moves ..)
        exact .refl _
      · refine .step ?_ (State.degrade_moves ..)
        exact .refl _
      · refine .acts ?_ (State.brakeFault_acts ..) rfl
        exact .refl _
      · refine .acts ?_ (State.brakeFault_acts ..) rfl
        exact .refl _
      · refine .step ?_ (State.bothStuck_moves ..)
        exact .refl _
    · split
      · exact .refl _
      · refine .step ?_ (State.degrade_moves ..)
        exact .refl _
      · refine .step ?_ (State.degrade_moves ..)
        exact .refl _
      · refine .acts ?_ (State.brakeFault_acts ..) rfl
        exact .refl _
      · refine .acts ?_ (State.brakeFault_acts ..) rfl
        exact .refl _
      · refine .step ?_ (State.bothStuck_moves ..)
        exact .refl _
  · split
    · exact .refl _
    · refine .step ?_ (State.degrade_moves ..)
      exact .refl _
    · refine .step ?_ (State.degrade_moves ..)
      exact .refl _
    · refine .acts ?_ (State.brakeFault_acts ..) rfl
      exact .refl _
    · refine .acts ?_ (State.brakeFault_acts ..) rfl
      exact .refl _
    · refine .step ?_ (State.bothStuck_moves ..)
      exact .refl _

theorem execSwitchTestStep_moves : ∀ x0 x1 x2 x3, ∃ t, execSwitchTestStep x0 x1 x2 x3 = .next t ∧ Moves x3 t := by
  intro x0 x1 x2 x3
  unfold execSwitchTestStep
  refine ⟨_, rfl, ?_⟩
  refine .ite (fun _ => ?_) fun _ => ?_
  · exact .refl _
  · refine .ite (fun _ => ?_) fun _ => ?_
    · refine .ite (fun _ => ?_) fun _ => ?_
      · refine .acts ?_ (State.setBrake_acts ..) rfl
        refine .step ?_ (State.reactSwitch_moves ..)
        refine .acts ?_ (State.setFld_acts ..) rfl
        refine .acts ?_ (State.setFld_acts ..) rfl
        refine .acts ?_ (State.reachEl_acts ..) rfl
        exact .refl _
      · refine .acts ?_ (State.goodTest_acts ..) rfl
        refine .acts ?_ (State.setBrake_acts ..) rfl
        refine .step ?_ (State.reactSwitch_moves ..)
        refine .acts ?_ (State.setFld_acts ..) rfl
        refine .acts ?_ (State.setFld_acts ..) rfl
        refine .acts ?_ (State.reachEl_acts ..) rfl
        exact .refl _
    · refine .acts ?_ (State.setBrake_acts ..) rfl
      refine .step ?_ (State.reactSwitch_moves ..)
      refine .acts ?_ (State.setFld_acts ..) rfl
      refine .acts ?_ (State.setFld_acts ..) rfl
      refine .acts ?_ (State.reachEl_acts ..) rfl
      exact .refl _

theorem State.enterDemand_moves : ∀ x0 x1, Moves x0 (State.enterDemand x0 x1) := by
  intro x0 x1
  unfold State.enterDemand
  refine .ite (fun _ => ?_) fun _ => ?_
  · refine .step ?_ (State.globalSafe_moves ..)
    refine .acts ?_ (State.settleBrakes_acts ..) rfl
    refine .acts ?_ (State.abortIfDemanded_acts ..) rfl
    refine .ite (fun _ => ?_) fun _ => ?_
    · refine .acts ?_ (State.event_acts ..) rfl
      refine .acts ?_ (State.showPair_acts ..) rfl
      refine .acts ?_ (State.setPair_acts ..) rfl
      exact .refl _
    · refine .acts ?_ (State.raise_acts ..) rfl
      refine .acts ?_ (State.event_acts ..) rfl
      refine .acts ?_ (State.showPair_acts ..) rfl
      refine .acts ?_ (State.setPair_acts ..) rfl
      exact .refl _
  · refine .acts ?_ (State.settleBrakes_acts ..) rfl
    refine .acts ?_ (State.abortIfDemanded_acts ..) rfl
    refine .ite (fun _ => ?_) fun _ => ?_
    · refine .acts ?_ (State.event_acts ..) rfl
      refine .acts ?_ (State.showPair_acts ..) rfl
      refine .acts ?_ (State.setPair_acts ..) rfl
      exact .refl _
    · refine .acts ?_ (State.raise_acts ..) rfl
      refine .acts ?_ (State.event_acts ..) rfl
      refine .acts ?_ (State.showPair_acts ..) rfl
      refine .acts ?_ (State.setPair_acts ..) rfl
      exact .refl _

theorem execSafeInputChange_moves : ∀ x0 x1 x2 x3 x4, ∃ t, execSafeInputChange x0 x1 x2 x3 x4 = .next t ∧ Moves x4 t := by
  intro x0 x1 x2 x3 x4
  unfold execSafeInputChange
  refine ⟨_, rfl, ?_⟩
  refine .ite (fun _ => ?_) fun _ => ?_
  · refine .acts ?_ (State.setFlag_acts ..) rfl
    refine .acts ?_ (State.reach_acts ..) rfl
    exact .refl _
  · refine .ite (fun _ => ?_) fun _ => ?_
    · refine .acts ?_ (State.bothBack_acts ..) rfl
      refine .acts ?_ (State.setFlag_acts ..) rfl
      refine .acts ?_ (State.reach_acts ..) rfl
      exact .refl _
    · refine .ite (fun _ => ?_) fun _ => ?_
      · refine .step ?_ (State.enterDemand_moves ..)
        refine .acts ?_ (State.setPair_acts ..) rfl
        refine .acts ?_ (State.setFlag_acts ..) rfl
        refine .acts ?_ (State.reach_acts ..) rfl
        exact .refl _
      · refine .step ?_ (State.enterDemand_moves ..)
        refine .acts ?_ (State.setPair_acts ..) rfl
        refine .acts ?_ (State.setFlag_acts ..) rfl
        refine .acts ?_ (State.reach_acts ..) rfl
        exact .refl _

theorem execDiscrepancyExpiry_moves : ∀ x0 x1, ∃ t, execDiscrepancyExpiry x0 x1 = .next t ∧ Moves x1 t := by
  intro x0 x1
  unfold execDiscrepancyExpiry
  refine ⟨_, rfl, ?_⟩
  split
  · refine .step ?_ (State.enterDemand_moves ..)
    refine .acts ?_ (State.raise_acts ..) rfl
    refine .acts ?_ (State.setPair_acts ..) rfl
    refine .acts ?_ (State.reachEl_acts ..) rfl
    exact .refl _
  · exact .refl _

theorem execTestPulse_moves : ∀ x0 x1 x2, ∃ t, execTestPulse x0 x1 x2 = .next t ∧ Moves x2 t := by
  intro x0 x1 x2
  unfold execTestPulse
  refine ⟨_, rfl, ?_⟩
  refine .ite (fun _ => ?_) fun _ => ?_
  · exact .refl _
  · refine .each ?_ ?_
    · refine .acts ?_ (State.pulseTime_acts ..) rfl
      exact .refl _
    · intro _ _
      refine .ite (fun _ => ?_) fun _ => ?_
      · exact .refl _
      · refine .ite (fun _ => ?_) fun _ => ?_
        · refine .step ?_ (State.enterDemand_moves ..)
          refine .acts ?_ (State.raise_acts ..) rfl
          refine .acts ?_ (State.setPair_acts ..) rfl
          exact .refl _
        · refine .ite (fun _ => ?_) fun _ => ?_
          · refine .acts ?_ (State.setPair_acts ..) rfl
            exact .refl _
          · exact .refl _

theorem State.safeDemand_moves : ∀ x0 x1 x2, Moves x0 (State.safeDemand x0 x1 x2) := by
  intro x0 x1 x2
  unfold State.safeDemand
  refine .ite (fun _ => ?_) fun _ => ?_
  · refine .step ?_ (State.globalSafe_moves ..)
    refine .acts ?_ (State.settleBrakes_acts ..) rfl
    refine .acts ?_ (State.abortIfDemanded_acts ..) rfl
    refine .acts ?_ (State.holdBrakes_acts ..) rfl
    exact .refl _
  · refine .acts ?_ (State.settleBrakes_acts ..) rfl
    refine .acts ?_ (State.abortIfDemanded_acts ..) rfl
    refine .acts ?_ (State.holdBrakes_acts ..) rfl
    exact .refl _

theorem State.acceptFrame_moves : ∀ x0 x1 x2 x3, Moves x0 (State.acceptFrame x0 x1 x2 x3) := by
  intro x0 x1 x2 x3
  unfold State.acceptFrame
  refine .ite (fun _ => ?_) fun _ => ?_
  · refine .step ?_ (State.safeDemand_moves ..)
    refine .ite (fun _ => ?_) fun _ => ?_
    · refine .acts ?_ (State.holdBrakes_acts ..) rfl
      refine .ite (fun _ => ?_) fun _ => ?_
      · refine .acts ?_ (State.raise_acts ..) rfl
        refine .acts ?_ (State.setFld_acts ..) rfl
        refine .acts ?_ (State.setFld_acts ..) rfl
        refine .acts ?_ (State.bump_acts ..) rfl
        refine .acts ?_ (State.setConn_acts ..) rfl
        exact .refl _
      · refine .acts ?_ (State.setFld_acts ..) rfl
        refine .acts ?_ (State.setFld_acts ..) rfl
        refine .acts ?_ (State.bump_acts ..) rfl
        refine .acts ?_ (State.setConn_acts ..) rfl
        exact .refl _
    · refine .ite (fun _ => ?_) fun _ => ?_
      · refine .acts ?_ (State.raise_acts ..) rfl
        refine .acts ?_ (State.setFld_acts ..) rfl
        refine .acts ?_ (State.setFld_acts ..) rfl
        refine .acts ?_ (State.bump_acts ..) rfl
        refine .acts ?_ (State.setConn_acts ..) rfl
        exact .refl _
      · refine .acts ?_ (State.setFld_acts ..) rfl
        refine .acts ?_ (State.setFld_acts ..) rfl
        refine .acts ?_ (State.bump_acts ..) rfl
        refine .acts ?_ (State.setConn_acts ..) rfl
        exact .refl _
  · refine .ite (fun _ => ?_) fun _ => ?_
    · refine .acts ?_ (State.holdBrakes_acts ..) rfl
      refine .ite (fun _ => ?_) fun _ => ?_
      · refine .acts ?_ (State.raise_acts ..) rfl
        refine .acts ?_ (State.setFld_acts ..) rfl
        refine .acts ?_ (State.setFld_acts ..) rfl
        refine .acts ?_ (State.bump_acts ..) rfl
        refine .acts ?_ (State.setConn_acts ..) rfl
        exact .refl _
      · refine .acts ?_ (State.setFld_acts ..) rfl
        refine .acts ?_ (State.setFld_acts ..) rfl
        refine .acts ?_ (State.bump_acts ..) rfl
        refine .acts ?_ (State.setConn_acts ..) rfl
        exact .refl _
    · refine .ite (fun _ => ?_) fun _ => ?_
      · refine .acts ?_ (State.raise_acts ..) rfl
        refine .acts ?_ (State.setFld_acts ..) rfl
        refine .acts ?_ (State.setFld_acts ..) rfl
        refine .acts ?_ (State.bump_acts ..) rfl
        refine .acts ?_ (State.setConn_acts ..) rfl
        exact .refl _
      · refine .acts ?_ (State.setFld_acts ..) rfl
        refine .acts ?_ (State.setFld_acts ..) rfl
        refine .acts ?_ (State.bump_acts ..) rfl
        refine .acts ?_ (State.setConn_acts ..) rfl
        exact .refl _

theorem State.goodCopy_moves : ∀ x0 x1 x2 x3, Moves x0 (State.goodCopy x0 x1 x2 x3) := by
  intro x0 x1 x2 x3
  unfold State.goodCopy
  try dsimp only
  split
  · refine .acts ?_ (State.setConn_acts ..) rfl
    exact .refl _
  · refine .ite (fun _ => ?_) fun _ => ?_
    · exact .refl _
    · refine .ite (fun _ => ?_) fun _ => ?_
      · refine .step ?_ (State.acceptFrame_moves ..)
        refine .acts ?_ (State.unwait_acts ..) rfl
        exact .refl _
      · refine .acts ?_ (State.copiesDiffer_acts ..) rfl
        refine .acts ?_ (State.unwait_acts ..) rfl
        exact .refl _

theorem execSafeFrame_moves : ∀ x0 x1 x2 x3, ∃ t, execSafeFrame x0 x1 x2 x3 = .next t ∧ Moves x3 t := by
  intro x0 x1 x2 x3
  unfold execSafeFrame
  refine ⟨_, rfl, ?_⟩
  try dsimp only
  split
  · refine .upd_saf ?_
    refine .acts ?_ (State.reach_acts ..) rfl
    exact .refl _
  · refine .ite (fun _ => ?_) fun _ => ?_
    · refine .ite (fun _ => ?_) fun _ => ?_
      · refine .acts ?_ (State.reach_acts ..) rfl
        exact .refl _
      · refine .acts ?_ (State.copiesDiffer_acts ..) rfl
        refine .acts ?_ (State.reach_acts ..) rfl
        exact .refl _
    · refine .ite (fun _ => ?_) fun _ => ?_
      · refine .acts ?_ (State.bump_acts ..) rfl
        refine .acts ?_ (State.reach_acts ..) rfl
        exact .refl _
      · refine .step ?_ (State.goodCopy_moves ..)
        refine .acts ?_ (State.reach_acts ..) rfl
        exact .refl _

theorem execDualWaitExpiry_moves : ∀ x0 x1, ∃ t, execDualWaitExpiry x0 x1 = .next t ∧ Moves x1 t := by
  intro x0 x1
  unfold execDualWaitExpiry
  refine ⟨_, rfl, ?_⟩
  split
  · refine .ite (fun _ => ?_) fun _ => ?_
    · refine .step ?_ (State.acceptFrame_moves ..)
      refine .acts ?_ (State.unwait_acts ..) rfl
      refine .acts ?_ (State.reachEl_acts ..) rfl
      exact .refl _
    · refine .acts ?_ (State.bump_acts ..) rfl
      refine .acts ?_ (State.unwait_acts ..) rfl
      refine .acts ?_ (State.reachEl_acts ..) rfl
      exact .refl _
  · exact .refl _

theorem execSafeConnectionTimeout_moves : ∀ x0 x1, ∃ t, execSafeConnectionTimeout x0 x1 = .next t ∧ Moves x1 t := by
  intro x0 x1
  unfold execSafeConnectionTimeout
  refine ⟨_, rfl, ?_⟩
  refine .ite (fun _ => ?_) fun _ => ?_
  · try dsimp only
    split
    · refine .step ?_ (State.globalSafe_moves ..)
      refine .acts ?_ (State.raise_acts ..) rfl
      refine .acts ?_ (State.event_acts ..) rfl
      refine .acts ?_ (State.setFld_acts ..) rfl
      refine .acts ?_ (State.setConn_acts ..) rfl
      refine .acts ?_ (State.reachEl_acts ..) rfl
      exact .refl _
    · refine .acts ?_ (State.settleBrakes_acts ..) rfl
      refine .acts ?_ (State.abortIfDemanded_acts ..) rfl
      refine .acts ?_ (State.holdBrakes_acts ..) rfl
      refine .acts ?_ (State.raise_acts ..) rfl
      refine .acts ?_ (State.event_acts ..) rfl
      refine .acts ?_ (State.setFld_acts ..) rfl
      refine .acts ?_ (State.setConn_acts ..) rfl
      refine .acts ?_ (State.reachEl_acts ..) rfl
      exact .refl _
    · refine .acts ?_ (State.raise_acts ..) rfl
      refine .acts ?_ (State.event_acts ..) rfl
      refine .acts ?_ (State.setFld_acts ..) rfl
      refine .acts ?_ (State.setConn_acts ..) rfl
      refine .acts ?_ (State.reachEl_acts ..) rfl
      exact .refl _
  · exact .refl _

theorem execSDieFault_moves : ∀ x0, ∃ t, execSDieFault x0 = .next t ∧ Moves x0 t := by
  intro x0
  unfold execSDieFault
  refine ⟨_, rfl, ?_⟩
  refine .step ?_ (State.globalSafe_moves ..)
  refine .upd_saf ?_
  exact .refl _

theorem execExtest_moves : ∀ x0, ∃ t, execExtest x0 = .next t ∧ Moves x0 t := by
  intro x0
  unfold execExtest
  refine ⟨_, rfl, ?_⟩
  refine .ite (fun _ => ?_) fun _ => ?_
  · refine .step ?_ (State.globalSafe_moves ..)
    exact .refl _
  · exact .refl _

theorem State.stepReplaced_moves : ∀ x0 x1, Moves x0 (State.stepReplaced x0 x1) := by
  intro x0 x1
  unfold State.stepReplaced
  split
  · refine .acts ?_ (State.fusionLate_acts ..) rfl
    exact .refl _
  · refine .acts ?_ (State.controlLate_acts ..) rfl
    exact .refl _
  · refine .acts ?_ (State.allocationLate_acts ..) rfl
    exact .refl _
  · refine .acts ?_ (State.buildImage_acts ..) rfl
    exact .refl _
  · refine .step ?_ (State.formVerdict_moves ..)
    exact .refl _
  · exact .refl _

theorem execStepDeadline_moves : ∀ x0 x1, ∃ t, execStepDeadline x0 x1 = .next t ∧ Moves x1 t := by
  intro x0 x1
  unfold execStepDeadline
  refine ⟨_, rfl, ?_⟩
  refine .ite (fun _ => ?_) fun _ => ?_
  · refine .ite (fun _ => ?_) fun _ => ?_
    · refine .acts ?_ (State.agreementLate_acts ..) rfl
      refine .acts ?_ (State.reach_acts ..) rfl
      exact .refl _
    · exact .refl _
  · refine .ite (fun _ => ?_) fun _ => ?_
    · refine .ite (fun _ => ?_) fun _ => ?_
      · refine .acts ?_ (State.raise_acts ..) rfl
        refine .acts ?_ (State.reach_acts ..) rfl
        exact .refl _
      · exact .refl _
    · refine .ite (fun _ => ?_) fun _ => ?_
      · refine .step ?_ (State.stepReplaced_moves ..)
        refine .acts ?_ (State.raise_acts ..) rfl
        refine .upd_dev ?_ rfl
        refine .acts ?_ (State.reach_acts ..) rfl
        exact .refl _
      · exact .refl _

theorem execArbitration_moves : ∀ x0, ∃ t, execArbitration x0 = .next t ∧ Moves x0 t := by
  intro x0
  unfold execArbitration
  refine ⟨_, rfl, ?_⟩
  refine .ite (fun _ => ?_) fun _ => ?_
  · refine .acts ?_ (State.stepDone_acts ..) rfl
    refine .step ?_ (State.arbitrationWork_moves ..)
    refine .acts ?_ (State.reach_acts ..) rfl
    exact .refl _
  · exact .refl _

theorem State.disengageNow_moves (s : State) : Moves s s.disengageNow := by
  unfold State.disengageNow
  exact Moves.ite (fun h => Moves.acts (State.dropToArmed_moves s h) (State.raise_acts _ _ _) (by decide)) (fun _ => Moves.upd_twn (Moves.refl s))

theorem State.transferNow_moves (s : State) : Moves s s.transferNow := by
  unfold State.transferNow
  exact Moves.ite (fun h => State.handOver_moves s _ h) (fun _ => Moves.refl s)

theorem State.safeNow_moves (s : State) : Moves s s.safeNow := by
  unfold State.safeNow
  exact Moves.ite (fun _ => Moves.refl s) (fun _ => Moves.acts (State.globalSafe_moves s 8) (State.raise_acts _ _ _) (by decide))

/-! At a pour a device also leaves PARKED for ARMED, ARMED for PARKED and ARMED for ACTIVE; SAFE still lasts, and BOOT ends in SAFE only. -/

/-- SAFE stays SAFE, BOOT stays or becomes SAFE, and no other state becomes BOOT. -/
def Pours (s t : State) : Prop :=
  (s.dev.st = .safe → t.dev.st = .safe) ∧ (s.dev.st = .boot → t.dev.st = .boot ∨ t.dev.st = .safe) ∧ (s.dev.st ≠ .boot → t.dev.st ≠ .boot)

theorem Moves.pours {s t : State} (h : Moves s t) : Pours s t := by
  unfold Moves at h
  unfold Pours
  rcases h with h | h | ⟨h, k⟩
  · rw [h]
    exact ⟨id, Or.inl, id⟩
  · rw [h]
    exact ⟨fun _ => rfl, fun _ => Or.inr rfl, fun _ => by decide⟩
  · rw [h, k]
    exact ⟨fun e => absurd e (by decide), fun e => absurd e (by decide), fun _ => by decide⟩

theorem Pours.step {s t u : State} (h : Pours s t) (k : Pours t u) : Pours s u :=
  ⟨fun e => k.1 (h.1 e), fun e => (h.2.1 e).elim k.2.1 (fun x => Or.inr (k.1 x)), fun e => k.2.2 (h.2.2 e)⟩

theorem Pours.moves {s t u : State} (h : Pours s t) (k : Moves t u) : Pours s u := h.step k.pours

theorem Pours.acts {m : Nat} {s t u : State} (h : Pours s t) (k : Acts m t u) (hm : m.testBit 42 = false) : Pours s u :=
  h.moves ((Moves.refl t).acts k hm)

theorem Pours.refl (s : State) : Pours s s := (Moves.refl s).pours

/-- From a state that is neither SAFE nor BOOT to one that is not BOOT. -/
theorem Pours.free {s t : State} (h1 : s.dev.st ≠ .safe) (h2 : s.dev.st ≠ .boot) (h3 : t.dev.st ≠ .boot) : Pours s t :=
  ⟨fun e => absurd e h1, fun e => absurd e h2, fun _ => h3⟩

theorem State.takeLadle_pours (s : State) (e : Nat) (h : s.dev.st = .armed) : Pours s (s.takeLadle e) := by
  refine Pours.free (by rw [h]; decide) (by rw [h]; decide) ?_
  show DevState.active ≠ .boot
  decide

theorem State.engageNow_pours (s : State) (side : Side) : Pours s (s.engageNow side) := by
  unfold State.engageNow
  split
  · split
    · rename_i h
      simp only [Bool.and_eq_true] at h
      exact State.takeLadle_pours s _ (by simpa using h.1)
    · exact Pours.refl s
  · split
    · exact Moves.pours (Or.inl (by
        show (s.setLadleEp (s.twn.ladleEp + 1)).dev.st = _
        exact (State.setLadleEp_acts s _).frame .devSt (by decide)))
    · exact Pours.refl s

theorem State.parkNow_pours (s : State) : Pours s s.parkNow := by
  unfold State.parkNow
  split
  · rename_i h
    have h' : s.dev.st = .armed := by simpa using h
    refine Pours.free (by rw [h']; decide) (by rw [h']; decide) ?_
    show DevState.parked ≠ .boot
    decide
  · exact Pours.refl s

theorem State.unparkNow_pours (s : State) : Pours s s.unparkNow := by
  unfold State.unparkNow
  split
  · rename_i h
    have h' : s.dev.st = .parked := by simpa using h
    refine Pours.acts ?_ (State.gnsPowerUp_acts _) (by decide)
    refine Pours.free (by rw [h']; decide) (by rw [h']; decide) ?_
    show DevState.armed ≠ .boot
    decide
  · exact Pours.refl s

theorem State.pourAct_pours (s : State) (a : PourAct) : Pours s (s.pourAct a) := by
  unfold State.pourAct
  split
  · exact State.engageNow_pours s _
  · exact (State.disengageNow_moves s).pours
  · exact (State.transferNow_moves s).pours
  · exact State.parkNow_pours s
  · exact State.unparkNow_pours s
  · exact (State.safeNow_moves s).pours
  · exact Moves.pours (Or.inl rfl)

theorem Pours.foldl {α : Type} {f : State → α → State} {l : List α} {s₀ s : State} (h₀ : Pours s₀ s) (h : ∀ s x, Pours s (f s x)) :
    Pours s₀ (l.foldl f s) := by
  induction l generalizing s with
  | nil => exact h₀
  | cons a r ih => exact ih (h₀.step (h s a))

theorem State.transitions_pours (s : State) : Pours s s.transitions := by
  unfold State.transitions
  extract_lets t
  have h : Pours s t := (State.shutdownAction_moves s).pours
  clear_value t
  exact Pours.foldl (h.moves (Or.inl rfl)) State.pourAct_pours

theorem State.takeOverNow_pours (s : State) : Pours s s.takeOverNow := by
  unfold State.takeOverNow
  split
  · rename_i h
    have h' : s.dev.st = .armed := by
      simp only [State.mayTakeOver, Bool.and_eq_true] at h
      simpa using h.1.1.1.1.2
    refine Pours.acts ?_ (State.gateForPour_acts _) (by decide)
    refine Pours.acts ?_ (State.raise_acts _ _ _) (by decide)
    refine Pours.acts ?_ (State.event_acts _ _) (by decide)
    exact State.takeLadle_pours s _ h'
  · exact Pours.refl s

theorem State.pourWork_pours (s : State) (b : Bool) : Pours s (s.pourWork b) := by
  unfold State.pourWork
  extract_lets full s0 s1 q r s2 s3 s4 s5 s6
  have h0 : Moves s s0 := (Moves.refl s).acts (State.fillQueues_acts s) (by decide)
  clear_value s0
  have h1 : Pours s s1 := (Moves.ite (fun _ => h0.step (State.arbitrationWork_moves s0)) (fun _ => h0)).pours
  have k2 : Pours s s1.buildImage := h1.acts (State.buildImage_acts s1) (by decide)
  have h2 : Pours s s2 := k2.moves (Or.inl rfl)
  clear_value s2
  have h3 : Pours s s3 := (h2.step (State.transitions_pours s2)).step (State.takeOverNow_pours _)
  clear_value s3
  have h4 : Pours s s4 := by
    show Pours s (if _ then _ else _)
    split
    · exact (((h3.acts (State.scenarioAlarms_acts _) (by decide)).acts (State.injectionChecks_acts _) (by decide)).acts (State.driveCommands_acts _)
        (by decide)).acts (State.publishCycle_acts _) (by decide)
    · exact h3
  clear_value s4
  have h5 : Pours s s5 := h4.moves (Moves.each (Moves.refl s4) (fun t n => (Moves.refl t).acts (State.brakePour_acts t n) (by decide)))
  clear_value s5
  have h6 : Pours s s6 := ((h5.acts (State.sendResponses_acts _) (by decide)).acts (State.publishPour_acts _) (by decide)).acts (State.panelPour_acts _) (by decide)
  clear_value s6
  refine Pours.acts ?_ (State.drainTx_acts _) (by decide)
  refine Pours.acts (h6.moves (Moves.each (Moves.refl s6) (fun t n => (Moves.refl t).acts (State.sendSafeState_acts t n) (by decide)))) (State.bookkeeping_acts _ _) (by decide)

theorem execPour_pours (b : Bool) (s : State) : ∃ t, execPour b s = .next t ∧ Pours s t := by
  unfold execPour
  refine ⟨_, rfl, ?_⟩
  split
  · extract_lets t
    have h : Pours s t := (((Moves.refl s).acts (State.reach_acts s s.dev.pourAt) (by decide)).pours).step (State.pourWork_pours _ b)
    clear_value t
    exact Pours.moves h (Or.inl rfl)
  · exact Pours.refl s

/-- A frame on the twin link moves the device state as what it carries does. -/
theorem State.onFrame_st (s : State) (vc : Nat) (x : TwinHeader) (f : State → State) :
    (s.onFrame vc x f).dev.st = s.dev.st ∨ ∃ u : State, u.dev.st = s.dev.st ∧ (s.onFrame vc x f).dev.st = (f u).dev.st := by
  unfold State.onFrame
  split
  · exact Or.inl rfl
  · split
    · exact Or.inl ((State.twinBroken_acts s vc x.lane).frame .devSt (by decide))
    · extract_lets src t
      have ht : t.dev.st = s.dev.st := rfl
      clear_value t
      split
      · exact Or.inr ⟨{ t with twn := { t.twn with link := t.twn.link.deliver vc x } }, ht, (State.twinPush_acts _).frame .devSt (by decide)⟩
      · exact Or.inl (((State.twinPush_acts t).frame .devSt (by decide)).trans ht)

/-- RELEASE: the one command beside a pour that makes a device ACTIVE, from ARMED. -/
theorem execReleaseFrame_moves (x : TwinHeader) (e : Nat) (s : State) :
    ∃ t, execReleaseFrame x e s = .next t ∧ (Moves s t ∨ (s.dev.st = .armed ∧ t.dev.st = .active)) := by
  unfold execReleaseFrame
  refine ⟨_, rfl, ?_⟩
  generalize hf : (fun t : State => _) = f
  have k : ∀ u : State, Moves u (f u) ∨ (u.dev.st = .armed ∧ (f u).dev.st = .active) := by
    intro u
    subst hf
    dsimp only
    split
    · exact Or.inl (Moves.refl u)
    · split
      · rename_i h
        simp only [Bool.and_eq_true] at h
        exact Or.inr ⟨by simpa using h.1, rfl⟩
      · exact Or.inl (Moves.upd_twn ((Moves.refl u).acts (State.setLadleEp_acts u e) (by decide)))
  rcases s.onFrame_st 3 x f with h | ⟨u, hu, h⟩
  · exact Or.inl (Or.inl h)
  · unfold Moves at *
    rw [h, ← hu]
    exact k u

theorem State.firstFreeze_out (s : State) : s.firstFreeze.dev.st = .armed ∨ s.firstFreeze.dev.st = .safe := by
  unfold State.firstFreeze
  extract_lets common q1 q2 q3 q4 t u
  clear_value u
  split
  · exact Or.inr rfl
  · unfold State.enterArmed
    extract_lets t2 q5 u2 v
    have hv : (v.gnsPowerUp).dev.st = .armed := by
      rw [show (v.gnsPowerUp).dev.st = v.dev.st from (State.gnsPowerUp_acts v).frame .devSt (by decide)]
      rfl
    rcases State.hotRestart_moves v.gnsPowerUp with h | h | ⟨h, _⟩
    · exact Or.inl (h.trans hv)
    · exact Or.inr h
    · rw [hv] at h
      cases h

/-- CYCLE_FREEZE: the one command that enters ARMED from BOOT. -/
theorem execCycleFreeze_moves (l : List ChannelLatch) (s : State) :
    ∃ t, execCycleFreeze l s = .next t ∧ (Moves s t ∨ (s.dev.st = .boot ∧ t.dev.st = .armed)) := by
  unfold execCycleFreeze
  refine ⟨_, rfl, ?_⟩
  split
  · extract_lets before t
    have ht : t.dev.st = s.dev.st := (State.reach_acts s s.dev.nextFreeze).frame .devSt (by decide)
    by_cases hb : s.dev.st = .boot
    · rw [if_pos hb]
      rcases State.firstFreeze_out t with h | h
      · rcases State.freezeWork_moves t.firstFreeze before l with k | k | ⟨k, _⟩
        · exact Or.inr ⟨hb, k.trans h⟩
        · exact Or.inl (Moves.toSafe k)
        · rw [h] at k
          cases k
      · refine Or.inl ?_
        rcases State.freezeWork_moves t.firstFreeze before l with k | k | ⟨k, _⟩
        · exact Moves.toSafe (k.trans h)
        · exact Moves.toSafe k
        · rw [h] at k
          cases k
    · rw [if_neg hb]
      exact Or.inl (Moves.step (Or.inl ht) (State.freezeWork_moves t before l))
  · exact Or.inl (Moves.refl s)

/-! A device reset ends in BOOT. -/

theorem State.fullReset_boot (s : State) (p : Straps) (c : Fld) : (s.fullReset p c).dev = State.reset.dev := rfl

theorem Acts.keepsSt {m : Nat} {s t : State} (h : Acts m s t) (hm : m.testBit 42 = false) : t.dev.st = s.dev.st := h.frame .devSt hm

/-- In BOOT the global safe state leaves the device in BOOT. -/
theorem State.globalSafe_boot (s : State) (c : Nat) (h : s.dev.st = .boot) : (s.globalSafe c).dev.st = .boot := by
  unfold State.globalSafe
  extract_lets first s1 q s2 s3 s4 s5
  have h1 : s1.dev.st = .boot := by
    rw [(State.setFlag_acts (s.endTests 3) F_SAF_STATUS_SAFE true).keepsSt (by decide), (State.endTests_acts s 3).keepsSt (by decide), h]
  have h2 : s2.dev.st = .boot := h1
  clear_value s2
  have h3 : s3.dev.st = .boot := by
    show (if _ then _ else _ : State).dev.st = _
    split
    · rw [(State.raise_acts ..).keepsSt (by decide), (State.event_acts ..).keepsSt (by decide), (State.setFld_acts ..).keepsSt (by decide), h2]
    · exact h2
  clear_value s3
  have h5 : s5.dev.st = .boot := by
    rw [(State.settleBrakes_acts s4).keepsSt (by decide), (State.dropLease_acts s3).keepsSt (by decide), h3]
  clear_value s5
  split
  · exact h5
  all_goals
    rename_i e
    rw [h5] at e
    cases e

theorem State.keeperReset_boot (s : State) (p : Straps) (c : Fld) : (s.keeperReset p c).dev.st = .boot := by
  unfold State.keeperReset
  extract_lets s0 t q0 q r u v
  refine State.globalSafe_boot _ 11 ?_
  rw [(Acts.each (m := 34359738368) (Acts.refl v) (fun t n => (State.showBrake_acts t n).mono (by decide))).keepsSt (by decide)]
  rfl

end Sys2Proof.Machine
end

