-- ==== Sys2Proof/Laws/Resets.lean ====
section
/-! SUPPORT. What the device resets leave (R64, R65): the full reset and the one that does not reach the S-die. -/
namespace Sys2Proof.Machine

/-- A whole register that a chain of operations keeps. -/
theorem Keeps.word {a : Nat} {s t : State} (h : Keeps (word32 a) s t) (c : s.Sound) : t.reg a = s.reg a := by
  have e := (h c).2
  have v : ∀ x : State, x.fld (word32 a) = (x.reg a).toNat := fun x => by
    unfold State.fld fieldOf
    show (x.reg a).toNat / 2 ^ 0 % 2 ^ 32 = _
    rw [Nat.pow_zero, Nat.div_one, Nat.mod_eq_of_lt (x.reg a).isLt]
  rw [v, v] at e
  exact BitVec.eq_of_toNat_eq e

theorem abortFlash_none {s : State} (h : s.flashCmd = none) : s.abortFlash = s := by
  unfold State.abortFlash
  rw [h]

/-- KPR_RESETCAUSE shows one cause over cleared registers. -/
theorem setCause_shows (s : State) (a b : Bool) (c : Fld) (hs : s.regs = []) :
    ((((s.setCause c).setFlag F_GLB_STATUS_REFIN_OK a).setFlag F_GLB_STATUS_SIDE b)).reg A_KPR_RESETCAUSE = fieldIn 0#32 c 1 := by
  unfold State.setCause State.setFlag State.setFld State.setReg State.reg
  simp only [hs]
  rw [memGet_memSet_other _ _ _ _ _ (memWf_memSet _ _ _ _ (memWf_memSet _ _ _ _ rfl)) (by decide),
    memGet_memSet_other _ _ _ _ _ (memWf_memSet _ _ _ _ rfl) (by decide), memGet_memSet_same _ _ _ _ rfl]

/-- Ending a brake test without a pass: MRAM stays, and the S-die keeps all but the test and what its brakes show. -/
theorem endBrakeTest_aborted (s : State) : (s.endBrakeTest 4).mram = s.mram ∧ (s.endBrakeTest 4).saf = { s.saf with test := none } := by
  unfold State.endBrakeTest
  split
  · rename_i h
    refine ⟨rfl, ?_⟩
    show s.saf = _
    rw [← h]
  · rename_i b _
    extract_lets q s1 s2 s3
    have h1 : s1.mram = s.mram ∧ s1.saf = { s.saf with test := none } := ⟨rfl, rfl⟩
    have h3 : s3.mram = s1.mram ∧ s3.saf = s1.saf := by
      have k := State.showBrake_acts (s2.setFlag F_SAF_STATUS_TEST false) b.chan
      refine ⟨(k.frame .mram (by decide)).trans ?_, (k.frame .saf (by decide)).trans ?_⟩
      · rw [State.setFlag_mram]
        show (((s1.setReg _ _).setFlag _ _).event _).mram = _
        simp
      · rw [State.setFlag_saf]
        show (((s1.setReg _ _).setFlag _ _).event _).saf = _
        simp
    clear_value s3
    rw [if_neg (by decide), State.raise_mram, State.raise_saf, h3.1, h3.2, h1.1, h1.2]
    exact ⟨rfl, rfl⟩

/-- R64, R65: a keeper watchdog or ordered reset. Everything but the S-die, fuses, MRAM, flash, supplies, elapsed time and straps is as right after
reset; the S-die keeps its inputs, connections and parameters and holds the global safe state; KPR_RESETCAUSE shows the cause alone. -/
theorem keeperReset_spec (s : State) (p : Straps) (c : Fld) (hs : s.Sound) :
    let t := s.keeperReset p c
    Frame [.serial, .devKey, .clk, .alarms, .rcd, .mram, .recNext, .tim, .elapsed, .pins, .saf, .lease, .brakes, .regs, .flash, .out, .freeCtr, .pending]
      State.reset t ∧
    t.serial = s.serial ∧ t.devKey = s.devKey ∧ t.out = s.out ∧ t.pending = s.pending ∧ t.tim.el = s.tim.el ∧ t.tim.wt = 0 ∧
    t.mram = { s.mram with shutdown := t.mram.shutdown } ∧ t.reg A_KPR_RESETCAUSE = fieldIn 0#32 c 1 ∧ (s.flashCmd = none → t.flash = s.flash) ∧
    t.saf.params = s.saf.params ∧ t.saf.pairs = s.saf.pairs ∧ t.saf.conns = s.saf.conns ∧ t.saf.ownFault = s.saf.ownFault ∧ t.saf.test = none ∧
    t.pins.sit0 = s.pins.sit0 ∧ t.pins.sit1 = s.pins.sit1 ∧ t.pins.side = p.side ∧ t.pins.testEn = p.testEn ∧ t.InGlobalSafe := by
  unfold State.keeperReset
  extract_lets s0 r q0 q1 q2 u v t0
  have hs0 : s0.Sound := (State.endBrakeTest_acts s 4).sound hs
  have e0 : s0.mram = s.mram ∧ s0.saf = { s.saf with test := none } := endBrakeTest_aborted s
  have f0 : Frame [.alarms, .rcd, .mram, .saf, .brakes, .regs] s s0 := (State.endBrakeTest_acts s 4).toFrame (by intro p; cases p <;> decide)
  clear_value s0
  have hr := State.afterReset_acts s0 p
  have hu : u.Sound := (hr.sound hs0).of_canonical ⟨memWf_filter _ _ _ hs0.canonical.1, (hr.sound hs0).canonical.2⟩ rfl rfl rfl rfl rfl
  have fu : Frame [.serial, .devKey, .clk, .mram, .recNext, .tim, .elapsed, .pins, .saf, .lease, .brakes, .regs, .flash, .out, .freeCtr, .pending]
      State.reset u := fun p hp => by cases p <;> first | rfl | exact absurd (by decide) hp
  have u1 : u.serial = s0.serial ∧ u.devKey = s0.devKey ∧ u.out = s0.out ∧ u.pending = s0.pending ∧ u.tim.el = s0.tim.el ∧ u.tim.wt = 0 ∧
      u.mram = { s0.mram with shutdown := u.mram.shutdown } ∧ u.flash = s0.abortFlash.flash ∧
      u.saf = { s0.saf with leaseFrom := none, brakes := s0.saf.brakes.map (fun (b : Brake) => { b with fault := false, overcurrent := false }) } ∧
      u.pins = { State.reset.pins with side := p.side, testEn := p.testEn, safeN := s0.pins.safeN, sit0 := s0.pins.sit0, sit1 := s0.pins.sit1 } :=
    ⟨rfl, rfl, rfl, rfl, rfl, rfl, rfl, rfl, rfl, rfl⟩
  clear_value u
  have ac := State.setReg_acts u A_KPR_RESETCAUSE (fieldIn 0#32 c 1)
  have hv : v.Sound := ((ac.sound hu).setFlag _ _).setFlag _ _
  have fv : Frame [.regs] u v := ((ac.step (State.setFlag_acts ..) rfl).step (State.setFlag_acts ..) rfl).toFrame
    (by intro p; cases p <;> decide)
  have rv : v.reg A_KPR_RESETCAUSE = fieldIn 0#32 c 1 := by
    have e := reg_setReg hu A_KPR_RESETCAUSE A_KPR_RESETCAUSE (fieldIn 0#32 c 1)
    rw [if_pos rfl] at e
    refine Eq.trans (reg_setFld ((ac.sound hu).setFlag _ _) _ _ _ (by decide)) ?_
    exact Eq.trans (reg_setFld (ac.sound hu) _ _ _ (by decide)) e
  have et : t0 = (v.each (List.range 8) State.showBrake).globalSafe 11 := rfl
  clear_value t0
  subst et
  clear_value v
  have aw : Acts 34359738368 v (v.each (List.range 8) State.showBrake) := Acts.each (Acts.refl v) (fun s x => State.showBrake_acts s x)
  have hk : Fld.safeBit (word32 A_KPR_RESETCAUSE) := ⟨by decide, rfl, fun h => absurd h (by decide)⟩
  have kw : Keeps (word32 A_KPR_RESETCAUSE) v (v.each (List.range 8) State.showBrake) := Keeps.each (Keeps.refl v) (fun s x _ => (Keeps.refl s).showBrake hk)
  generalize v.each (List.range 8) State.showBrake = w at *
  have fw : Frame [.regs] v w := aw.toFrame (by intro p; cases p <;> decide)
  have hw := aw.sound hv
  have fuw : Frame [.regs] u w := fv.trans fw
  have b1 : w.dev = State.reset.dev := Eq.trans (fuw .dev (by decide)) (fu .dev (by decide))
  have b2 : w.ctl = State.reset.ctl := Eq.trans (fuw .ctl (by decide)) (fu .ctl (by decide))
  have b3 : w.fch = State.reset.fch := Eq.trans (fuw .fch (by decide)) (fu .fch (by decide))
  have b4 : w.saf = u.saf := fuw .saf (by decide)
  have b5 : w.pins = u.pins := fuw .pins (by decide)
  obtain ⟨g1, g2, g3⟩ := State.globalSafe_inBoot w 11 (by rw [b1]; rfl) (by rw [b4, u1.2.2.2.2.2.2.2.2.1]; show s0.saf.test = none; rw [e0.2])
    (by rw [b2]; rfl) (by rw [b2]; rfl) (by rw [b3]; rfl)
  have g4 := globalSafe_spec hw 11
  have g5 : Keeps (word32 A_KPR_RESETCAUSE) v (w.globalSafe 11) := kw.trans
    ((Keeps.refl w).globalSafe hk (by decide) (by decide))
  have g6 := (g5.word hv).trans rv
  generalize w.globalSafe 11 = t at *
  have fut : Frame safeParts u t := (fuw.mono (by decide)).trans g1
  obtain ⟨v1, v2, v3, v4, v5, v6, v7, v8, v9, v10⟩ := u1
  have pt : t.pins = { u.pins with safeN := false } := by rw [g3, b5]
  unfold State.SafKept at g2
  rw [b4, v9, e0.2] at g2
  obtain ⟨k1, k2, k3, k4, k5, k6, -⟩ := g2
  refine ⟨(fu.mono (by decide)).trans (fut.mono (by decide)), ?_, ?_, ?_, ?_, ?_, ?_, ?_, g6, ?_, k1, k2, k3, k6, k5, ?_, ?_, ?_, ?_, g4.1.global⟩
  · exact Eq.trans (fut .serial (by decide)) (v1.trans (f0 .serial (by decide)))
  · exact Eq.trans (fut .devKey (by decide)) (v2.trans (f0 .devKey (by decide)))
  · exact Eq.trans (fut .out (by decide)) (v3.trans (f0 .out (by decide)))
  · exact Eq.trans (fut .pending (by decide)) (v4.trans (f0 .pending (by decide)))
  · exact Eq.trans (fut .elapsed (by decide)) (v5.trans (f0 .elapsed (by decide)))
  · exact Eq.trans (fut .working (by decide)) v6
  · have m : t.mram = u.mram := fut .mram (by decide)
    rw [e0.1] at v7
    rw [m]
    exact v7
  · intro h
    have x : s0.flashCmd = none := Eq.trans (f0 .flashCmd (by decide)) h
    rw [abortFlash_none x] at v8
    exact Eq.trans (fut .flash (by decide)) (v8.trans (f0 .flash (by decide)))
  all_goals rw [pt, v10]
  · show s0.pins.sit0 = _
    rw [show s0.pins = s.pins from f0 .pins (by decide)]
  · show s0.pins.sit1 = _
    rw [show s0.pins = s.pins from f0 .pins (by decide)]

end Sys2Proof.Machine
end

