-- ==== Sys2Proof/Tests/Slice0.lean ====
section
/-! SUPPORT. The model's own tests: for each statement with hypotheses a concrete state and operands that meet all of them together; the refusals of the
well-formedness check; a few worked values of the spec. -/

open Sys2Proof Sys2Proof.Machine
namespace Sys2Proof.Tests
set_option Elab.async false
set_option linter.unusedVariables false

def upd (s : State) (l : List (Fld × Nat)) : State := l.foldl (fun t e => t.setFld e.1 e.2) s
def W0 : State := State.reset
/-- parameters -/
def par (s : State) (l : List (Nat × List Nat)) : State := { s with pat := { s.pat with loaded := true, params := s.pat.params ++ l.map (fun e => (e.1, e.2.map toWord)) } }
def bootd (s : State) : State := { s with boot := { s.boot with started := true }, clk := { s.clk with vin := true, pwrgood := true, refin := true, vfld := true } }
def armed (s : State) : State := { bootd s with dev := { s.dev with st := .armed, cycling := true, freezes := 5, stateEp := 5, period := 20000000, freezeAt := 100000000, nextFreeze := 120000000, pourAt := 118000000 } }
/-- every access allowed, after the lock -/
def open_ (s : State) : State := ((List.range 12).foldl (fun t r => t.loadRule r 0 4294967295 0 0xFFFFFFFC 3) s).setFlag F_KPR_LOCK_LOCKED true
/-- a formation member: ID 6, units 10 and 12, member 20 reached by ELK1, others by the parent ELK0 -/
def form : State := let s := par (bootd W0) [(0x0A01, [6]), (0x0A02, [77]), (0x0A03, [7]), (0x0A05, [100]), (0x0A07, [0]), (0x0A08, [0x00150014, 1, 0x001F001E, 2]), (0x0A09, [0xC0A80105]), (0x0A0A, [5000]), (0x0A0B, [10]), (0x0A0C, [10, 12])]
  upd { s with pat := { s.pat with sections := [1, 0x0A] } } [(F_ELK_P_STAT_STATE 0, 2), (F_ELK_P_STAT_STATE 1, 2)]
def port (s : State) (p : Nat) (q : ElkPort) : State := s.setElkPort p (fun _ => q)
/-- the next state of a command, for witnesses -/
def nx (c : Instr) (s : State) : State := match exec c s with
  | .next t => t
  | _ => s
/-- the bytes of words -/
def leBytes : Nat → Nat → List Byte
  | 0, _ => []
  | n + 1, v => BitVec.ofNat 8 v :: leBytes n (v / 256)
/-- the sections of a small image: type, CRC-32C and words -/
def smallSections : List (Nat × Nat × List Nat) := [
  (1, 0, []), (2, 3988578198, [0x00090201, 0, 0, 0, 0, 0, 0, 0, 0, 0, 0x00090202, 0, 0, 0, 0, 0, 0, 0, 0, 0]), (3, 0, []),
  (4, 1384238045, [0x00010401, 1]), (5, 2955679530, [0x00030501, 0, 0, 0]), (7, 0, []),
  (8, 3398080753, [0x00030801, 1, 1, 1, 0x00030802, 1, 1, 1, 0x00010820, 10]), (9, 0, []),
  (0x0B, 2712212371, [0x00040B02, 0, 0, 0, 0, 0x00060B03, 0, 0, 0, 0, 0, 0]), (0x10, 1799025834, [0x00011001, 1]), (0x11, 0, []),
  (0x12, 1935385851, [0x00041201, 0, 0, 0, 0]), (0x13, 0, []), (0x14, 0, [])]
/-- its bodies, each in whole 64-byte blocks -/
def smallBody (ws : List Nat) : List Byte := let b := ws.flatMap (leBytes 4); b ++ List.replicate ((64 - b.length % 64) % 64) 0#8
def smallTable : Nat → List (Nat × Nat × List Nat) → List Byte
  | _, [] => []
  | o, e :: r => leBytes 4 e.1 ++ leBytes 4 o ++ leBytes 4 (4 * e.2.2.length) ++ leBytes 4 e.2.1 ++ smallTable (o + (smallBody e.2.2).length) r
def smallImage : List Byte :=
  let body := smallSections.flatMap (fun e => smallBody e.2.2)
  let table := smallTable 0x200 smallSections
  let n := 0x300 + body.length
  let h := List.replicate 8 0#8 ++ leBytes 4 n ++ leBytes 7 0 ++ leBytes 1 smallSections.length ++ leBytes 4 0x100 ++ leBytes 4 (n - 256)
  let h2 := h ++ List.replicate (0xF8 - h.length) 0#8 ++ leBytes 4 1439017867 ++ leBytes 4 0
  h2 ++ table ++ List.replicate (0x100 - table.length) 0#8 ++ body ++ List.replicate 256 0#8
/-- the Cope device of a pair, armed and in step, with both lanes up -/
def twin : State := upd (par (armed W0) [(0x0901, [1])]) [(F_TWN_STATUS_IN_STEP, 1), (F_TWN_STATUS_PEER_MET, 1), (F_TWN_STATUS_LANES, 2)]
def dev (s : State) (d : Dev → Dev) : State := { s with dev := d s.dev }
def agr (s : State) (d : Agr → Agr) : State := { s with agr := d s.agr }
def it (sd : Side) (e : Nat) (w : List Word) : Item := ⟨sd, 0, 1, e, 0, 0, 0, w⟩
/-- slots 0 (position, group 0), 1 (heading, group 1), 2 (position, group 2) in Auto -/
def sens : State := dev (par (armed W0) [(0x0540, [1, 0, 1, 1000, 0, 0, 500, 1000, 0, 0, 0, 0, 0, 0, 0, 0, 0, 0]), (0x0541, [0x11003, 0, 1, 1000, 0, 0, 500, 1000, 0, 0, 0, 0, 0, 0, 0, 0, 0, 0]),
  (0x0542, [0x20001, 0, 1, 1000, 0, 5000, 500, 1000, 0, 0, 0, 0, 0, 0, 0, 0, 0, 0])]) (fun d => { d with mode := 2 })
def slots (s : State) (l : List (Nat × FSlot)) : State := { s with fus := { s.fus with slots := l } }
def quant (s : State) (q : Nat) (x : Quant) : State := s.setQuant q (fun _ => x)
def ctl (s : State) (c : Ctl → Ctl) : State := { s with ctl := c s.ctl }
/-- a solo device in Auto with three order sources (host box, UDP, CAN) and two thrusters -/
def plant : State := dev (par sens [(0x1201, [0, 0, 0xFFFFFFFF, 1, 3, 0xC0A80109, 0xFFFFFFFF, 5000 * 65536 + 1, 4, 0x100, 0x7FFFF, 0]), (0x0340, [0, 1000, 0, 100000, 50000, 100, 100, 1000, 0, 0, 0, 0, 0, 0, 0, 0, 0, 0, 0, 0]),
  (0x0341, [1, 1000, 0, 100000, 50000, 100, 100, 1000, 0, 0, 0, 0, 0, 0, 0, 0, 0, 0, 0, 0])]) (fun d => { d with command := 1 })
def alc (s : State) (c : Alc → Alc) : State := { s with alc := c s.alc }
def ord_ (src seq : Nat) (args : List Word) : OrderIn := ⟨if src = 2 then .udp else if src = 3 then .can else .hostBox, if src = 2 then 0xC0A80109#32 else if src = 3 then 0x100#32 else 0#32, if src = 2 then 5000 else 0, 1, 0, src, seq, 0, 5, args, true, 0⟩
/-- fused position and heading valid -/
def navOk (s : State) : State := quant (quant s 0 { valid := true }) 1 { valid := true }
/-- a mould: n = 4, no equations, one inequality block -/
def mould1 : Mould := { head := [0x00040000#32, 0#32, 0#32, 0#32], hash := 7#32, map := [128], live := [(0, 5#32)], pages := 1 }
def xw (ofs : Nat) (l : List Nat) : List (Nat × Word) := l.zipIdx.map (fun e => (ofs / 4 + e.2, toWord e.1))
def sealW (l : List Nat) : List Nat := l ++ [(crcWords (l.map toWord)).toNat]
def solv (c : Slv → Slv) : State := let s := plant; { s with slv := c { W0.slv with moulds := [(3, mould1)] } }
def tw (s : State) (c : Twn → Twn) : State := { s with twn := c s.twn }
def saf (s : State) (c : Saf → Saf) : State := { s with saf := c s.saf }
def holder : State := upd (dev twin (fun d => { d with st := .active })) [(F_SAF_STATUS_SAFE, 0)]
def waiting : State := { upd twin [(F_TWN_STATUS_IN_STEP, 0)] with dev := W0.dev, boot := { twin.boot with waitingTwin := true, step11At := 5 } }
def copying : State := tw (upd twin [(F_TWN_STATUS_IN_STEP, 0)]) (fun t => { t with requested := true })
def tim (s : State) (c : Tim → Tim) : State := { s with tim := c s.tim }
def ptp (s : State) (c : Ptp → Ptp) : State := tim s (fun t => { t with ptp := c t.ptp })
def ann0 : PtpClock := ⟨1, 6, 0x21, 5, 1, 99⟩
def gns (s : State) (c : Gns → Gns) : State := { s with gns := c s.gns }
def hlt (s : State) (c : Hlt → Hlt) : State := { s with hlt := c s.hlt }
def net (s : State) (c : Net → Net) : State := { s with net := c s.net }
def brk (s : State) (n : Nat) (b : Brake) : State := { s with saf := { s.saf with brakes := s.saf.brakes.set n b } }
def prs (s : State) (n : Nat) (b : SafePair) : State := { s with saf := { s.saf with pairs := s.saf.pairs.set n b } }
def cnn (s : State) (n : Nat) (b : SafeConn) : State := { s with saf := { s.saf with conns := s.saf.conns.set n b } }
/-- parameters of the S-die -/
def spar (s : State) (l : List (Nat × List Nat)) : State := { s with saf := { s.saf with params := s.saf.params ++ l.map (fun e => (e.1, e.2.map toWord)) } }
/-- a device whose S-die drives its brakes, with the field supply -/
def braked : State := spar (armed W0) [(0x1004, [2]), (0x1007, [24]), (0x1040, [1, 0, 0x50000]), (0x1047, [1, 0, 0x50000])]
/-- the bytes of a safety frame with its CRC -/
def sfr (kind src dst seq time : Nat) (pay : List Byte) : List Byte :=
  let b := leBytes 2 0x5346 ++ leBytes 1 1 ++ leBytes 1 kind ++ leBytes 2 src ++ leBytes 2 dst ++ leBytes 4 seq ++ leBytes 8 time ++ leBytes 2 pay.length ++ leBytes 2 0 ++ pay
  b ++ leBytes 4 (crc32c b).toNat
/-- connection 3 receives kind 0x11 of device 5, with stop output, time-out 100 ms -/
def safeConn : State := spar (armed W0) [(0x1001, [9]), (0x1063, [0x11000005, 0, 100, 0x10001]), (0x1020, [1, 5, 1]), (0x102F, [2, 5, 0])]
/-- a running satellite receiver -/
def sat : State := upd (let s := par (armed W0) [(0x0601, [1]), (0x0602, [15]), (0x0603, [1, 1, 1, 2])]; { s with pat := { s.pat with sections := [1, 6] } }) [(F_GNS_STATUS_RUN, 1)]
def chan (n : Nat) (c : GChan) (s : State) : State := gns s (fun g => { g with chans := aset g.chans n c })
def hurt : State := chan 256 { st := 4 } (chan 257 { st := 4 } (chan 3 { st := 2, triple := ⟨0, 5, 0, 0⟩ } sat))
def shadowing : State := hlt (chan 256 { st := 3, triple := ⟨0, 5, 0, 0⟩ } hurt) (fun h => { h with shadowOf := [(0, 3)] })
def navs : NavSolution := ⟨.cope, true, 0, none, [⟨0, 3, 800, 0, true⟩], [], []⟩
/-- a twin-link frame in sequence -/
def th (seq : Nat) : TwinHeader := ⟨0, 64, seq, 65535, [], true⟩
def snap : Snapshot := ⟨2, 1000, 900, 240000, 5, 0#32⟩
/-- CAN channel 0 on, with a range filter for queue 1 and receive object 5 of ID 0x123 -/
def canned : State := upd (par (armed W0) [(0x0C01, [1, 0, 0, 0x00646060]), (0x0C06, [1, 0, 0, 0x00646060]), (0x0C10, [0x11, 0x80]), (0x0C20, [0x20, 0x200, 0x2FF]), (0x0C85, [0x20000, 0x123, 0x00100000, 0])]) [(F_CAN_STATUS_EN 0, 1), (F_CAN_STATUS_EN 5, 1), (F_CAN_STATUS_STATE 0, 0), (F_CAN_STATUS_STATE 5, 0)]
def canFr (id : Nat) : CanFrame := ⟨id, false, false, false, false, false, 2, [1#8, 2#8], 100, 200⟩
def can (s : State) (c : Can → Can) : State := { s with can := c s.can }
def cch (s : State) (c : Nat) (x : CanChan) : State := can s (fun y => { y with chans := aset y.chans c x })
/-- Ethernet ports on, service addresses, register service on at port 2 with writes -/
def lan : State := par (armed W0) [(0x0B01, [7]), (0x0B03, [0xC0A80102, 0xFFFFFF00, 0, 0xC0A80202, 0xFFFFFF00, 0]), (0x0B07, [1000]), (0x0B08, [0, 2, 1])]
def frm (p : Nat) (y : EthPayload) : EthFrame := ⟨p, 64, 0, true, false, false, true, false, 5, none, y, 1000⟩
def svc (op addr count : Nat) (d : List Word) : SvcReq := ⟨0xC0A80205, op, 9, addr, count, d, true, true, 2, 50⟩
/-- serial ports 0 (sentences, checksum) and 7 (RTCM), with slots 0 and 1 on them -/
def ser : State := par (armed W0) [(0x0D01, [0x101]), (0x0D08, [4]), (0x0540, [1, 0, 1, 1000, 0, 0, 500, 1000, 0, 0, 0, 0, 0, 0, 0, 0, 0, 0]),
  (0x0541, [9, 7, 1, 1000, 0, 0, 500, 1000, 0, 0, 0, 0, 0, 0, 0, 0, 0, 0])]
/-- "$A*41" -/
def sent : Sentence := ⟨[0x24#8, 0x41#8, 0x2A#8, 0x34#8, 0x31#8], false, false, 10, 20⟩
/-- field channel 0 an analogue input, 127 an output, with their modes -/
def fld_ : State := upd { par (armed W0) [(0x0E80, [1]), (0x0E81, [2]), (0x0EFF, [7]), (0x0F40, [1])] with fch := { W0.fch with ready := true } } [(F_FCH_CFG_MODE 0, 1), (F_FCH_CFG_MODE 1, 2), (F_FCH_CFG_MODE 127, 7)]
def fchn (s : State) (n : Nat) (x : FChan) : State := { s with fch := { s.fch with chans := aset s.fch.chans n x } }
def lop (s : State) (n : Nat) (x : LoopSlot) : State := { s with loops := aset s.loops n x }
def lanSvc : State := net (open_ lan) (fun n => { n with arp := [0xC0A80205] })

/-- The parts of soundness, as one test. -/
def soundB (s : State) : Bool := memWf resetWord s.regs && memWf zeroCell s.appm && memWf erasedCell s.flash && memWf zeroCell s.xchg &&
  memWf zeroCell s.mram.area && memWf zeroCell s.sti.bufA && memWf zeroCell s.sti.bufB && memWf zeroCell s.gns.samples && memWf zeroCell s.ctl.capture &&
  decide (s.alarms.Pairwise (fun a b => a.code < b.code)) && decide (s.rcd.queue.length ≤ 1024) && decide (s.recUsed ≤ 131072) && decide (s.hst.buffer.length ≤ 512)
theorem sound_of {s : State} (h : soundB s = true) : s.Sound := by
  simp only [soundB, Bool.and_eq_true, decide_eq_true_eq] at h
  obtain ⟨⟨⟨⟨⟨⟨⟨⟨⟨⟨⟨⟨h1, h2⟩, h3⟩, h4⟩, h5⟩, h6⟩, h7⟩, h8⟩, h9⟩, ha⟩, hb⟩, hc⟩, hd⟩ := h
  exact ⟨⟨h1, h2, h3, h4, h5, h6, h7, h8, h9⟩, ha, hb, hc, hd⟩
def mayB (s : State) (m a : Nat) (w : Bool) : Bool := a % 4 == 0 && (match regionOf a with
  | some r => s.allowed r m a w
  | none => false)
theorem may_of {s : State} {m a : Nat} {w : Bool} (h : mayB s m a w = true) : s.MayAccess m a w := by
  unfold mayB at h
  rw [Bool.and_eq_true, beq_iff_eq] at h
  refine ⟨h.1, ?_⟩
  cases e : regionOf a with
  | none => rw [e] at h; exact Bool.noConfusion h.2
  | some r => rw [e] at h; exact ⟨r, rfl, h.2⟩
def isNext (x : Host.Outcome State Fault Refusal) : Bool := match x with
  | .next _ => true
  | _ => false
theorem nx_next {c : Instr} {s : State} (h : isNext (exec c s) = true) : exec c s = .next (nx c s) := by
  unfold nx
  cases e : exec c s with
  | next t => rfl
  | fault f => rw [e] at h; exact Bool.noConfusion h
  | refused r => rw [e] at h; exact Bool.noConfusion h
theorem list_all {α : Type} {l : List α} {p : α → Prop} [DecidablePred p] (h : l.all (fun w => decide (p w)) = true) : ∀ w ∈ l, p w := by simpa using h
theorem tri_eq {α β γ : Type} {x : α × β × γ} {b : β} {c : γ} (h : x.2.1 = b) (k : x.2.2 = c) : x = (x.1, b, c) := by
  obtain ⟨x1, x2, x3⟩ := x
  cases h; cases k; rfl
theorem views_open {o : Option View} (h : o.all (fun v => !v.intact) = true) : ∀ b e, o ≠ some ⟨b, e, true⟩ := by
  intro b e k; subst k; exact Bool.noConfusion h
theorem stacks_free {s : State} {k n : Nat} (hl : s.intc.targets.length = 4)
    (h : (List.range 4).all (fun j => j == k || !(s.target j).stack.contains n) = true) : ∀ j, j ≠ k → n ∉ (s.target j).stack := by
  intro j hj
  by_cases l : j < 4
  · have := List.all_eq_true.1 h j (List.mem_range.2 l)
    simpa [hj] using this
  · have e : s.target j = {} := by unfold State.target; rw [List.getD_eq_getElem?_getD, List.getElem?_eq_none (by omega)]; rfl
    rw [e]; simp
theorem others_zero {s : State} {n : Nat} (hl : s.saf.brakes.length = 8)
    (h : (List.range 8).all (fun j => j == n || (s.brake j).degr == 0) = true) : ∀ m, m ≠ n → (s.brake m).degr = 0 := by
  intro j hj
  by_cases l : j < 8
  · have := List.all_eq_true.1 h j (List.mem_range.2 l)
    simpa [hj] using this
  · have e : s.brake j = {} := by unfold State.brake; rw [List.getD_eq_getElem?_getD, List.getElem?_eq_none (by omega)]; rfl
    rw [e]
theorem memGet_skip {w : Nat} (d : Nat → BitVec w) {k a : Nat} (v : BitVec w) (m : Sparse w) (h : k < a) : memGet d ((k, v) :: m) a = memGet d m a := by
  show (if k = a then v else if a < k then d a else memGet d m a) = _
  rw [if_neg (by omega), if_neg (by omega)]
theorem memGetRun_skip {w : Nat} (d : Nat → BitVec w) (k : Nat) (v : BitVec w) (m : Sparse w) : ∀ n a, k < a →
    memGetRun d 1 ((k, v) :: m) a n = memGetRun d 1 m a n
  | 0, _, _ => rfl
  | n + 1, a, h => by
    show memGet d _ a :: memGetRun d 1 _ (a + 1) n = memGet d m a :: memGetRun d 1 m (a + 1) n
    rw [memGet_skip d v m h, memGetRun_skip d k v m n (a + 1) (by omega)]
/-- Bytes laid out from an address on are read back from there. -/
theorem memGetRun_zip (d : Nat → Byte) : ∀ (l : List Byte) (k : Nat), memGetRun d 1 ((l.zipIdx k).map (fun e => (e.2, e.1))) k l.length = l
  | [], _ => rfl
  | b :: l, k => by
    show (if k = k then b else _) :: memGetRun d 1 ((k, b) :: ((l.zipIdx (k + 1)).map (fun e => (e.2, e.1)))) (k + 1) l.length = b :: l
    rw [if_pos rfl, memGetRun_skip d k b _ l.length (k + 1) (by omega), memGetRun_zip d l (k + 1)]
/-- The bytewise CRC with each step evaluated before the next. -/
def crcEach : List Byte → Nat → Nat
  | [], a => a
  | b :: r, a => if a < 4294967296 then crcEach r (crcByte a b) else crcEach r (crcByte a b)
theorem crcEach_eq : ∀ (l : List Byte) (a : Nat), l.foldl crcByte a = crcEach l a
  | [], _ => rfl
  | b :: r, a => by unfold crcEach; rw [ite_self]; exact crcEach_eq r _
theorem crc32c_each (l : List Byte) : crc32c l = BitVec.ofNat 32 (crcEach l 0xFFFFFFFF ^^^ 0xFFFFFFFF) := by unfold crc32c; rw [crcEach_eq]
theorem image_read {s : State} (h : s.flash = smallImage.zipIdx.map (fun e => (e.2, e.1))) : s.slotBytes 1 (imageLen (s.slotHeader 1)) = smallImage := by
  have e : imageLen (s.slotHeader 1) = smallImage.length := by unfold State.slotHeader State.slotBytes; rw [h]; decide +kernel
  unfold State.slotBytes; rw [e, h]
  exact memGetRun_zip erasedCell smallImage 0
theorem st_next {s : State} (c : Instr) (r : List Instr) (hp : s.pending = c :: r) (h : isNext (exec c { s with pending := r }) = true) :
    step s = .next (nx c { s with pending := r }) := by
  unfold step; rw [hp]; exact nx_next h
theorem opt_all {α : Type} {o : Option α} {p : α → Prop} (h : ∀ w ∈ o.toList, p w) : ∀ w, o = some w → p w := fun w e => h w (by rw [e]; exact List.mem_singleton.2 rfl)

/-- Operands of the well-formedness tests. -/
def boot0 : BootTests := ⟨true, true, [], true, 0, [0, 0, 0, 0]⟩
def start0 : StartTests := ⟨[], true, [], [], [], []⟩
def hello0 : Hello := ⟨1, .cope, [0#32, 0#32, 0#32, 0#32], 0, 0, 1, 1, 0, 0, 0⟩
def pkt0 : Packet := ⟨1, 2, 3, 4, 5, 6, []⟩
def announce0 : Announce := ⟨0, 0, true, 37, false, false, ann0, 0, 5, 1⟩
def thd : TwinHeader := ⟨0, 64, 0, 65535, [0, 0, 0, 0], true⟩
def cmp0 : CompareMsg := ⟨0, [], [], 0#32⟩
def dies0 : List DieReading := List.replicate 6 ⟨0, 0⟩
def latch0 : ChannelLatch := ⟨0, 0, 0, 0, 0, 0, 0⟩
/-- A well-formed term of every command whose check says more than yes. -/
theorem test_wf_accepts : [
    Instr.app0Rst 0,
    Instr.app1Rst 0,
    Instr.bootStart boot0,
    Instr.slotStreamEnd start0,
    Instr.cycleFreeze [],
    Instr.fusionStep [],
    Instr.slotTimeout 0,
    Instr.gatePersistExpiry 0,
    Instr.conflictPersistExpiry 0,
    Instr.probationEnd 0,
    Instr.modelPlausibilityExpiry 0,
    Instr.scenarioStale 1,
    Instr.shapeHoldExpiry 1,
    Instr.azimuthSwing 0,
    Instr.stepDeadline 0,
    Instr.orderArrival .udp 0#32 0 [] 0,
    Instr.engage (ord_ 1 4 []),
    Instr.disengage (ord_ 1 4 []),
    Instr.transfer (ord_ 1 4 []),
    Instr.setMode (ord_ 1 4 []),
    Instr.setPoint (ord_ 1 4 []),
    Instr.setTrack (ord_ 1 4 []),
    Instr.setFollowRef (ord_ 1 4 []),
    Instr.joystick (ord_ 1 4 []),
    Instr.takeCommand (ord_ 1 4 []),
    Instr.thrusterAvail (ord_ 1 4 []),
    Instr.sensorReturn (ord_ 1 4 []),
    Instr.tunable (ord_ 1 4 []),
    Instr.testStartBrake (ord_ 1 4 []),
    Instr.testStartInjection (ord_ 1 4 []),
    Instr.testStop (ord_ 1 4 []),
    Instr.park (ord_ 1 4 []),
    Instr.unpark (ord_ 1 4 []),
    Instr.safe (ord_ 1 4 []),
    Instr.reset (ord_ 1 4 []),
    Instr.alarmAck (ord_ 1 4 []),
    Instr.orderMailboxSubmit 0 0,
    Instr.slvSubmit 0 0#32 [],
    Instr.slvFill 0 0#32 [],
    Instr.problemEnds 0 0,
    Instr.problemDeadline 0,
    Instr.laneFault 0,
    Instr.laneEccCorrected 0,
    Instr.twinLaneLost 0,
    Instr.twinLaneRetry 0,
    Instr.twinRetransmit 0 0,
    Instr.twinNak 0 0,
    Instr.helloSend 0,
    Instr.helloFrame thd hello0,
    Instr.authFrame thd [] [],
    Instr.startFrame thd 0 0,
    Instr.itemFrame thd (it .cope 5 []) 0 1,
    Instr.closeFrame thd 0 0 0#32,
    Instr.agreeFrame thd 0 false false 0#32,
    Instr.compareFrame thd cmp0,
    Instr.verdictFrame thd ⟨true, true, true, true, true, 0⟩,
    Instr.renew (Path.twin thd) 0 .cope 0 0,
    Instr.ack (Path.twin thd) 0,
    Instr.releaseFrame thd 0,
    Instr.syncReqFrame thd,
    Instr.stateFrame thd (.epochs 0 0),
    Instr.syncEndFrame thd 0 false,
    Instr.switchTest 0,
    Instr.switchTestStep 0 0 0,
    Instr.brakeOvercurrent 0,
    Instr.brakeDegradedExpiry 0,
    Instr.brakeTestDue 0,
    Instr.testPulse false [],
    Instr.safeInputChange 0 false false 0,
    Instr.discrepancyExpiry 0,
    Instr.safeFrame false [] 0,
    Instr.dualWaitExpiry 0,
    Instr.safeConnectionTimeout 0,
    Instr.ptpSyncArrives 0 0 false 0 0 0,
    Instr.ptpFollowUp 0 0 0 0,
    Instr.ptpDelayRespArrives 0 0 0 0,
    Instr.ptpAnnounce announce0,
    Instr.ptpMessageSend 0 0 0,
    Instr.timeSourceLost 0,
    Instr.sourceQualified 0,
    Instr.compareFire 0,
    Instr.compareEnable 0 0 0#32,
    Instr.captureEdge 0 false 0,
    Instr.captureRead 0 0,
    Instr.captureOld 0,
    Instr.timePulse 0,
    Instr.timePulseEnd 0,
    Instr.antennaMeasure 0 0,
    Instr.antennaRetry 0,
    Instr.acquisitionSearchRuns 0 0 0 0 0 false 0 0,
    Instr.acquisitionConfirm 0 0 0,
    Instr.pullInLock 0,
    Instr.phaseLockHeld 0,
    Instr.lockLoss 0,
    Instr.cycleSlip 0,
    Instr.channelShadowEnd 0 false false false,
    Instr.spectrumAverage 0 [] 0 0,
    Instr.notchRelease 0 0,
    Instr.noiseFloorLearned [],
    Instr.suspectClear 0,
    Instr.snapshotTrigger 0,
    Instr.snapshotHeld [],
    Instr.snapshotRelease 0,
    Instr.serialSentence 0 sent,
    Instr.rtcmFrame 0 [] 0 0,
    Instr.canFrame 0 (canFr 5),
    Instr.fastPacketTimeout 0 0 0,
    Instr.canObjectTimeout 0,
    Instr.canQ1Pop 0 0,
    Instr.canError 0 0 0,
    Instr.busoffHoldExpiry 0,
    Instr.busoffRecovered 0,
    Instr.canReferenceMessageStarts 0,
    Instr.ethernetFrame (frm 0 .other),
    Instr.prpEntryForget 0 0,
    Instr.rxLimitWindow 0,
    Instr.phyPoll 0 false false,
    Instr.mdioRead 0 0#32,
    Instr.arpRefresh 0,
    Instr.arpTimeout 0,
    Instr.serviceRead (svc 1 0 1 []),
    Instr.serviceWrite (svc 1 0 1 []),
    Instr.fieldSampleTaken 0 (.codes []),
    Instr.fieldOutputWrite 0 0 0#32,
    Instr.fieldFaultTimerEnds 0 0,
    Instr.readbackMismatch 0,
    Instr.modulatorOverload 0,
    Instr.engineShadowEnd 0 false,
    Instr.engineTestEnd 0 false,
    Instr.fieldTestInjection 0,
    Instr.fieldTestInjectionEnds 0,
    Instr.loopSample 0,
    Instr.loopFollowingError 0,
    Instr.loopPlausibility 0,
    Instr.interruptAssert 0,
    Instr.claim 0 0,
    Instr.complete 0 0 0#32,
    Instr.unfreeze 0 0,
    Instr.moderationInterval 0,
    Instr.targetIdle 0,
    Instr.doorbellSet 0 0#32,
    Instr.machineTimer 0,
    Instr.hostRead 0 1,
    Instr.hostQuadRead 0 1,
    Instr.hostWrite 0 [] false,
    Instr.hostQuadWrite 0 [] false,
    Instr.flashErase 0,
    Instr.flashProgram 0,
    Instr.flashRead 0,
    Instr.elkPortLost 0,
    Instr.elkPortRetry 0,
    Instr.elkRetransmitFrame 0 0 false,
    Instr.elkHelloSend 0,
    Instr.elkHello 0 0 0,
    Instr.elkPacket 0 ⟨0, 0, 0, [0, 0, 0, 0], true⟩ pkt0,
    Instr.elkUdpDatagram 0 0 0 pkt0,
    Instr.subscriberExpiry 0,
    Instr.subscriptionTimeout 0,
    Instr.formationSetClose 0,
    Instr.viewOpen 0,
    Instr.viewClose 0,
    Instr.windowRead 0 0,
    Instr.fabricTimeout 0 0,
    Instr.registerWrite 0 0 0#32,
    Instr.lockstepMismatch 0,
    Instr.eccError 0 false false,
    Instr.eccScrub 0 0,
    Instr.railFault 0,
    Instr.annealMeasurement dies0 [0, 0, 0, 0],
    Instr.trimStep 0,
    Instr.thermalUpdateRuns (List.replicate 8 (0, 0)) 0 (List.replicate 8 0) [0, 0, 0, 0],
    Instr.annCommit 0 0#32,
    Instr.registerRead 0 0,
    Instr.halfCycleResolved 0,
    Instr.transmitTimeResolved 0,
    Instr.twinLaneUp 0].all Instr.wf = true := by decide +kernel
/-- Ill-formed terms, one for each check: each is refused. -/
theorem test_wf_refuses_1 : [
    Instr.app0Rst 20,
    Instr.app1Rst 20,
    Instr.bootStart { boot0 with sfdp := 3 },
    Instr.bootStart { boot0 with diodes := [1] },
    Instr.bootStart { boot0 with failedBanks := [32] },
    Instr.slotStreamEnd { start0 with failedLanes := [72] },
    Instr.slotStreamEnd { start0 with failedChannels := [272] },
    Instr.slotStreamEnd { start0 with failedPairs := [11] },
    Instr.cycleFreeze [{ latch0 with chan := 272 }],
    Instr.fusionStep (List.replicate 3 (navs)),
    Instr.slotTimeout 48,
    Instr.gatePersistExpiry 48,
    Instr.conflictPersistExpiry 6,
    Instr.probationEnd 48,
    Instr.modelPlausibilityExpiry 3,
    Instr.scenarioStale 0,
    Instr.scenarioStale 128,
    Instr.shapeHoldExpiry 0,
    Instr.shapeHoldExpiry 128,
    Instr.azimuthSwing 32,
    Instr.stepDeadline 8,
    Instr.orderArrival .udp 0#32 65536 [] 0,
    Instr.orderArrival .udp 0#32 0 (List.replicate 17 (0#32)) 0,
    Instr.engage { ord_ 1 4 [] with format := 65536 },
    Instr.engage { ord_ 1 4 [] with target := 256 },
    Instr.engage { ord_ 1 4 [] with source := 65536 },
    Instr.engage { ord_ 1 4 [] with seq := 4294967296 },
    Instr.engage { ord_ 1 4 [] with ladleEp := 4294967296 },
    Instr.engage { ord_ 1 4 [] with stateEp := 4294967296 },
    Instr.engage { ord_ 1 4 [] with args := List.replicate 11 0#32 },
    Instr.engage { ord_ 1 4 [] with port := 65536 },
    Instr.disengage { ord_ 1 4 [] with format := 65536 },
    Instr.transfer { ord_ 1 4 [] with format := 65536 },
    Instr.setMode { ord_ 1 4 [] with format := 65536 },
    Instr.setPoint { ord_ 1 4 [] with format := 65536 },
    Instr.setTrack { ord_ 1 4 [] with format := 65536 },
    Instr.setFollowRef { ord_ 1 4 [] with format := 65536 },
    Instr.joystick { ord_ 1 4 [] with format := 65536 },
    Instr.takeCommand { ord_ 1 4 [] with format := 65536 },
    Instr.thrusterAvail { ord_ 1 4 [] with format := 65536 }].all (fun c => !c.wf) = true := by decide +kernel
/-- Ill-formed terms, one for each check: each is refused. -/
theorem test_wf_refuses_2 : [
    Instr.sensorReturn { ord_ 1 4 [] with format := 65536 },
    Instr.tunable { ord_ 1 4 [] with format := 65536 },
    Instr.testStartBrake { ord_ 1 4 [] with format := 65536 },
    Instr.testStartInjection { ord_ 1 4 [] with format := 65536 },
    Instr.testStop { ord_ 1 4 [] with format := 65536 },
    Instr.park { ord_ 1 4 [] with format := 65536 },
    Instr.unpark { ord_ 1 4 [] with format := 65536 },
    Instr.safe { ord_ 1 4 [] with format := 65536 },
    Instr.reset { ord_ 1 4 [] with format := 65536 },
    Instr.alarmAck { ord_ 1 4 [] with format := 65536 },
    Instr.orderMailboxSubmit 20 0,
    Instr.orderMailboxSubmit 0 3,
    Instr.slvSubmit 20 0#32 [],
    Instr.slvSubmit 0 0#32 [(2, 0#32)],
    Instr.slvFill 20 0#32 [],
    Instr.slvFill 0 0#32 [(2, 0#32)],
    Instr.problemEnds 256 0,
    Instr.problemDeadline 256,
    Instr.laneFault 72,
    Instr.laneEccCorrected 72,
    Instr.twinLaneLost 2,
    Instr.twinLaneRetry 2,
    Instr.twinRetransmit 4 0,
    Instr.twinRetransmit 0 65536,
    Instr.twinNak 4 0,
    Instr.twinNak 0 65536,
    Instr.helloSend 340282366920938463463374607431768211456,
    Instr.helloFrame { thd with lane := 2 } hello0,
    Instr.helloFrame { thd with length := 1025 } hello0,
    Instr.helloFrame { thd with seq := 65536 } hello0,
    Instr.helloFrame { thd with ack := 65536 } hello0,
    Instr.helloFrame { thd with credits := [0] } hello0,
    Instr.helloFrame thd { hello0 with serial := 18446744073709551616 },
    Instr.helloFrame thd { hello0 with patternId := [] },
    Instr.helloFrame thd { hello0 with seq := 4294967296 },
    Instr.helloFrame thd { hello0 with execId := 4294967296 },
    Instr.helloFrame thd { hello0 with state := 5 },
    Instr.helloFrame thd { hello0 with bootStep := 13 },
    Instr.helloFrame thd { hello0 with stateEp := 4294967296 },
    Instr.helloFrame thd { hello0 with ladleEp := 4294967296 }].all (fun c => !c.wf) = true := by decide +kernel
/-- Ill-formed terms, one for each check: each is refused. -/
theorem test_wf_refuses_3 : [
    Instr.helloFrame thd { hello0 with nonce := 340282366920938463463374607431768211456 },
    Instr.authFrame { thd with lane := 2 } [] [],
    Instr.startFrame { thd with lane := 2 } 0 0,
    Instr.startFrame thd 0 4294967296,
    Instr.itemFrame { thd with lane := 2 } (it .cope 5 []) 0 1,
    Instr.itemFrame thd { it .cope 5 [] with cls := 8 } 0 1,
    Instr.itemFrame thd { it .cope 5 [] with num := 4096 } 0 1,
    Instr.itemFrame thd { it .cope 5 [] with epoch := 4294967296 } 0 1,
    Instr.itemFrame thd (it .cope 5 []) 1 1,
    Instr.itemFrame thd (it .cope 5 []) 0 256,
    Instr.closeFrame { thd with lane := 2 } 0 0 0#32,
    Instr.closeFrame thd 4294967296 0 0#32,
    Instr.agreeFrame { thd with lane := 2 } 0 false false 0#32,
    Instr.agreeFrame thd 4294967296 false false 0#32,
    Instr.compareFrame { thd with lane := 2 } cmp0,
    Instr.compareFrame thd { cmp0 with epoch := 4294967296 },
    Instr.verdictFrame { thd with lane := 2 } ⟨true, true, true, true, true, 0⟩,
    Instr.renew (.twin { thd with lane := 2 }) 0 .cope 0 0,
    Instr.renew (Path.twin thd) 4294967296 .cope 0 0,
    Instr.ack (.twin { thd with seq := 65536 }) 0,
    Instr.releaseFrame { thd with lane := 2 } 0,
    Instr.releaseFrame thd 4294967296,
    Instr.syncReqFrame { thd with lane := 2 },
    Instr.stateFrame { thd with lane := 2 } (.epochs 0 0),
    Instr.syncEndFrame { thd with lane := 2 } 0 false,
    Instr.syncEndFrame thd 4294967296 false,
    Instr.switchTest 8,
    Instr.switchTestStep 8 0 0,
    Instr.brakeOvercurrent 8,
    Instr.brakeDegradedExpiry 8,
    Instr.brakeTestDue 8,
    Instr.testPulse false [16],
    Instr.safeInputChange 16 false false 0,
    Instr.discrepancyExpiry 16,
    Instr.safeFrame false (List.replicate 1501 (0#8)) 0,
    Instr.dualWaitExpiry 16,
    Instr.safeConnectionTimeout 16,
    Instr.ptpSyncArrives 2 0 false 0 0 0,
    Instr.ptpSyncArrives 0 3 false 0 0 0,
    Instr.ptpSyncArrives 0 0 false 65536 0 0].all (fun c => !c.wf) = true := by decide +kernel
/-- Ill-formed terms, one for each check: each is refused. -/
theorem test_wf_refuses_4 : [
    Instr.ptpFollowUp 2 0 0 0,
    Instr.ptpFollowUp 0 3 0 0,
    Instr.ptpFollowUp 0 0 65536 0,
    Instr.ptpDelayRespArrives 2 0 0 0,
    Instr.ptpDelayRespArrives 0 3 0 0,
    Instr.ptpAnnounce { announce0 with domain := 2 },
    Instr.ptpAnnounce { announce0 with port := 3 },
    Instr.ptpMessageSend 2 0 0,
    Instr.ptpMessageSend 0 3 0,
    Instr.timeSourceLost 5,
    Instr.sourceQualified 5,
    Instr.compareFire 16,
    Instr.compareEnable 20 0 0#32,
    Instr.compareEnable 0 16 0#32,
    Instr.captureEdge 16 false 0,
    Instr.captureRead 20 0,
    Instr.captureRead 0 16,
    Instr.captureOld 16,
    Instr.timePulse 2,
    Instr.timePulseEnd 2,
    Instr.antennaMeasure 4 0,
    Instr.antennaRetry 4,
    Instr.acquisitionSearchRuns 2 0 0 0 0 false 0 0,
    Instr.acquisitionSearchRuns 0 20 0 0 0 false 0 0,
    Instr.acquisitionSearchRuns 0 0 64 0 0 false 0 0,
    Instr.acquisitionSearchRuns 0 0 0 4 0 false 0 0,
    Instr.acquisitionConfirm 2 0 0,
    Instr.pullInLock 272,
    Instr.phaseLockHeld 272,
    Instr.lockLoss 272,
    Instr.cycleSlip 272,
    Instr.channelShadowEnd 8 false false false,
    Instr.spectrumAverage 8 [] 0 0,
    Instr.spectrumAverage 0 (List.replicate 33 ((0, 0))) 0 0,
    Instr.notchRelease 8 0,
    Instr.notchRelease 0 4,
    Instr.noiseFloorLearned (List.replicate 9 (0)),
    Instr.suspectClear 272,
    Instr.snapshotTrigger 20,
    Instr.snapshotHeld [⟨8, 0, 1, 1⟩]].all (fun c => !c.wf) = true := by decide +kernel
/-- Ill-formed terms, one for each check: each is refused. -/
theorem test_wf_refuses_5 : [
    Instr.snapshotRelease 20,
    Instr.serialSentence 8 sent,
    Instr.serialSentence 0 { sent with chars := List.replicate 1025 0#8 },
    Instr.rtcmFrame 8 [] 0 0,
    Instr.rtcmFrame 0 (List.replicate 1030 (0#8)) 0 0,
    Instr.canFrame 6 (canFr 5),
    Instr.canFrame 0 { canFr 5 with id := 2048 },
    Instr.canFrame 0 { canFr 5 with dlc := 16 },
    Instr.canFrame 0 { canFr 5 with data := List.replicate 9 0#8 },
    Instr.fastPacketTimeout 6 0 0,
    Instr.fastPacketTimeout 0 256 0,
    Instr.fastPacketTimeout 0 0 262144,
    Instr.canObjectTimeout 128,
    Instr.canQ1Pop 20 0,
    Instr.canQ1Pop 0 6,
    Instr.canError 6 0 0,
    Instr.busoffHoldExpiry 6,
    Instr.busoffRecovered 6,
    Instr.canReferenceMessageStarts 6,
    Instr.ethernetFrame { frm 0 .other with port := 3 },
    Instr.ethernetFrame { frm 0 .other with srcMac := 281474976710656 },
    Instr.prpEntryForget 281474976710656 0,
    Instr.prpEntryForget 0 65536,
    Instr.rxLimitWindow 3,
    Instr.phyPoll 3 false false,
    Instr.mdioRead 20 0#32,
    Instr.arpRefresh 4294967296,
    Instr.arpTimeout 4294967296,
    Instr.serviceRead { svc 1 0 1 [] with client := 4294967296 },
    Instr.serviceRead { svc 1 0 1 [] with seq := 4294967296 },
    Instr.serviceRead { svc 1 0 1 [] with addr := 4294967296 },
    Instr.serviceRead { svc 1 0 1 [] with count := 65536 },
    Instr.serviceRead { svc 1 0 1 [] with op := 256 },
    Instr.serviceWrite { svc 1 0 1 [] with client := 4294967296 },
    Instr.fieldSampleTaken 128 (.codes []),
    Instr.fieldSampleTaken 0 (.codes [3]),
    Instr.fieldOutputWrite 20 0 0#32,
    Instr.fieldOutputWrite 0 128 0#32,
    Instr.fieldFaultTimerEnds 128 0,
    Instr.fieldFaultTimerEnds 0 3].all (fun c => !c.wf) = true := by decide +kernel
/-- Ill-formed terms, one for each check: each is refused. -/
theorem test_wf_refuses_6 : [
    Instr.readbackMismatch 128,
    Instr.modulatorOverload 128,
    Instr.engineShadowEnd 8 false,
    Instr.engineTestEnd 8 false,
    Instr.fieldTestInjection 128,
    Instr.fieldTestInjectionEnds 128,
    Instr.loopSample 64,
    Instr.loopFollowingError 64,
    Instr.loopPlausibility 64,
    Instr.interruptAssert 384,
    Instr.claim 20 0,
    Instr.claim 0 4,
    Instr.complete 20 0 0#32,
    Instr.complete 0 4 0#32,
    Instr.unfreeze 20 0,
    Instr.unfreeze 0 4,
    Instr.moderationInterval 4,
    Instr.targetIdle 4,
    Instr.doorbellSet 20 0#32,
    Instr.machineTimer 2,
    Instr.hostRead 4294967296 1,
    Instr.hostRead 0 0,
    Instr.hostRead 0 257,
    Instr.hostQuadRead 4294967296 1,
    Instr.hostQuadRead 0 0,
    Instr.hostQuadRead 0 257,
    Instr.hostWrite 4294967296 [] false,
    Instr.hostWrite 0 (List.replicate 257 (0#32)) false,
    Instr.hostQuadWrite 4294967296 [] false,
    Instr.hostQuadWrite 0 (List.replicate 257 (0#32)) false,
    Instr.flashErase 20,
    Instr.flashProgram 20,
    Instr.flashRead 20,
    Instr.elkPortLost 2,
    Instr.elkPortRetry 2,
    Instr.elkRetransmitFrame 2 0 false,
    Instr.elkRetransmitFrame 0 4 false,
    Instr.elkHelloSend 2,
    Instr.elkHello 2 0 0,
    Instr.elkHello 0 65536 0].all (fun c => !c.wf) = true := by decide +kernel
/-- Ill-formed terms, one for each check: each is refused. -/
theorem test_wf_refuses_7 : [
    Instr.elkHello 0 0 4294967296,
    Instr.elkPacket 2 ⟨0, 0, 0, [0, 0, 0, 0], true⟩ pkt0,
    Instr.elkPacket 0 ⟨4, 0, 0, [0, 0, 0, 0], true⟩ pkt0,
    Instr.elkPacket 0 ⟨0, 0, 0, [], true⟩ pkt0,
    Instr.elkPacket 0 ⟨0, 0, 0, [0, 0, 0, 0], true⟩ { pkt0 with dst := 65536 },
    Instr.elkPacket 0 ⟨0, 0, 0, [0, 0, 0, 0], true⟩ { pkt0 with src := 65536 },
    Instr.elkPacket 0 ⟨0, 0, 0, [0, 0, 0, 0], true⟩ { pkt0 with typ := 256 },
    Instr.elkPacket 0 ⟨0, 0, 0, [0, 0, 0, 0], true⟩ { pkt0 with hops := 256 },
    Instr.elkPacket 0 ⟨0, 0, 0, [0, 0, 0, 0], true⟩ { pkt0 with fEpoch := 4294967296 },
    Instr.elkUdpDatagram 16 0 0 pkt0,
    Instr.elkUdpDatagram 0 4 0 pkt0,
    Instr.elkUdpDatagram 0 0 65536 pkt0,
    Instr.elkUdpDatagram 0 0 0 { pkt0 with dst := 65536 },
    Instr.subscriberExpiry 65536,
    Instr.subscriptionTimeout 65536,
    Instr.formationSetClose 4294967296,
    Instr.viewOpen 20,
    Instr.viewClose 20,
    Instr.windowRead 20 0,
    Instr.windowRead 0 65536,
    Instr.fabricTimeout 20 0,
    Instr.fabricTimeout 0 12,
    Instr.registerWrite 20 0 0#32,
    Instr.registerWrite 0 4294967296 0#32,
    Instr.lockstepMismatch 11,
    Instr.eccError 34 false false,
    Instr.eccScrub 5 0,
    Instr.railFault 8,
    Instr.annealMeasurement [] [0, 0, 0, 0],
    Instr.annealMeasurement dies0 [],
    Instr.trimStep 8,
    Instr.thermalUpdateRuns [] 0 (List.replicate 8 0) [0, 0, 0, 0],
    Instr.thermalUpdateRuns (List.replicate 8 (0, 0)) 0 [] [0, 0, 0, 0],
    Instr.thermalUpdateRuns (List.replicate 8 (0, 0)) 0 (List.replicate 8 0) [],
    Instr.annCommit 20 0#32,
    Instr.registerRead 20 0,
    Instr.registerRead 0 4294967296,
    Instr.halfCycleResolved 272,
    Instr.transmitTimeResolved 272,
    Instr.twinLaneUp 2].all (fun c => !c.wf) = true := by decide +kernel

/-- R43: the check value of CRC-32C over the ASCII string 123456789. -/
theorem test_crc32c_check_value : crc32c [0x31#8, 0x32#8, 0x33#8, 0x34#8, 0x35#8, 0x36#8, 0x37#8, 0x38#8, 0x39#8] = 0xE3069283#32 := by decide +kernel
/-- The worked example of the solver array: 0x5000_0000 at exponent 3 times 0x3333_3333 at exponent -2 is 0x2000_0000 at exponent 1. -/
theorem test_solver_product : dotProduct 3 (-2) 1 [0x50000000] [0x33333333] = (0x20000000, false) := by decide +kernel
/-- The worked example of the CAN command frame: Ladle epoch 13, Drag, state epoch 0x30D45, available, 0.5 per-unit. -/
theorem test_can_object_bytes : State.objBytes { W0 with twn := { W0.twn with ladleEp := 13 }, pins := { W0.pins with side := .drag } } 0x30D45 true (can16 1 2) none =
    [0x0D#8, 0#8, 0#8, 0#8, 0xC5#8, 0x01#8, 0x00#8, 0x40#8] := by decide +kernel
/-- The worked example of the field channels: 10.4 mA on a 4 to 20 mA channel is 0.4 per-unit, 6,710,886 in Q8.24. -/
theorem test_field_per_unit : (upd (par W0 [(0x0E88, [0x7002, 4000000, 20000000, 0, 12000, 0, 0])]) [(F_FCH_CFG_MODE 8, 2)]).puOf 8 10400000 = 6710886 := by decide +kernel

theorem lines_idle {s : State} (h : (List.range 4).all (fun k => !(s.target k).line) = true) : s.LinesOk := by
  intro k hk e
  have := List.all_eq_true.1 h k (List.mem_range.2 hk)
  rw [e] at this; exact Bool.noConfusion this

/-- The premises of Obligations.IdleStepIsOneTsuClockCycle are met. -/
theorem witness_idle_step_is_one_tsu_clock_cycle :
    (∃ (s : State), s.pending = []) ∧
    (∃ (s : State), s.pending = []) ∧
    (∃ (s : State), s.pending = []) :=
  ⟨⟨W0, (by decide +kernel)⟩,
   ⟨{ bootd W0 with tim := { W0.tim with steer := 2 ^ 43 - 1 } }.setInt (word32 A_TSU_FREQ) (2 ^ 31 - 1), (by decide +kernel)⟩,
   ⟨{ bootd W0 with tim := { W0.tim with steer := - 2 ^ 43 + 1 } }.setInt (word32 A_TSU_FREQ) (- 2 ^ 31), (by decide +kernel)⟩⟩
/-- The premises of Obligations.EveryStepKeepsSoundness are met. -/
theorem witness_every_step_keeps_soundness : ∃ s t : State, s.Sound ∧ step s = .next t :=
  ⟨{ armed W0 with pending := [.closeTick] }, _, sound_of (by decide +kernel), st_next .closeTick [] rfl (by decide +kernel)⟩
/-- The premises of Obligations.OnlyListedCommandsTouchFlashModeEpochTimeAndRecords are met. -/
theorem witness_only_listed_commands_touch_flash_mode_epoch_time_and_records :
    (∃ (c : Instr) (s : State) (t : State), exec c s = .next t ∧ touchesFlash c = false) ∧
    (∃ (c : Instr) (s : State) (t : State), exec c s = .next t ∧ touchesOpTime c = false) ∧
    (∃ (c : Instr) (s : State) (t : State), exec c s = .next t ∧ touchesRecNext c = false) ∧
    (∃ (c : Instr) (s : State) (t : State), exec c s = .next t ∧ touchesMode c = false) ∧
    (∃ (c : Instr) (s : State) (t : State), exec c s = .next t ∧ touchesEpoch c = false) :=
  ⟨⟨.cycleFreeze [], armed W0, nx (.cycleFreeze []) (armed W0), nx_next (by decide +kernel), (by decide +kernel)⟩,
   ⟨.cycleFreeze [], armed W0, nx (.cycleFreeze []) (armed W0), nx_next (by decide +kernel), (by decide +kernel)⟩,
   ⟨.closeTick, armed W0, nx .closeTick (armed W0), nx_next (by decide +kernel), (by decide +kernel)⟩,
   ⟨.closeTick, armed W0, nx .closeTick (armed W0), nx_next (by decide +kernel), (by decide +kernel)⟩,
   ⟨.closeTick, armed W0, nx .closeTick (armed W0), nx_next (by decide +kernel), (by decide +kernel)⟩⟩
/-- The premises of Obligations.StateMovesAsTheTableOfTransitions are met. -/
theorem witness_state_moves_as_the_table_of_transitions : ∃ (c : Instr) (s : State) (t : State), exec c s = .next t :=
  ⟨.cycleFreeze [], armed W0, nx (.cycleFreeze []) (armed W0), nx_next (by decide +kernel)⟩
/-- The premises of Obligations.SafeIsLeftOnlyThroughADeviceReset are met. -/
theorem witness_safe_is_left_only_through_a_device_reset :
    (∃ (s : State) (t : State), s.dev.st = .safe ∧ step s = .next t ∧ t.dev.st ≠ .safe) ∧
    (∃ (p : Straps) (s : State), s.dev.st = .safe ∧ s.dev.toReset = true) :=
  ⟨⟨{ armed W0 with dev := { (armed W0).dev with st := .safe }, pending := [.powerOnReset ⟨.cope, false⟩] }, nx (.powerOnReset ⟨.cope, false⟩) { armed W0 with dev := { (armed W0).dev with st := .safe } }, (by decide +kernel), st_next (.powerOnReset ⟨.cope, false⟩) [] rfl (by decide +kernel), (by decide +kernel)⟩,
   ⟨⟨.drag, true⟩, { armed W0 with dev := { (armed W0).dev with st := .safe, toReset := true } }, (by decide +kernel), (by decide +kernel)⟩⟩
/-- The premises of Obligations.DeviceResetsReachWhatTheTableSays are met. -/
theorem witness_device_resets_reach_what_the_table_says :
    (∃ (n : Nat) (p : Straps) (s : State), s.clk.vin = true ∧ 1000 ≤ n) ∧
    (∃ (n : Nat) (p : Straps) (s : State), n < 500) ∧
    (∃ (p : Straps) (s : State), s.Sound ∧ s.clk.vin = true ∧ s.boot.started = true) ∧
    (∃ (p : Straps) (s : State), s.Sound ∧ s.dev.toReset = true) :=
  ⟨⟨1000, ⟨.drag, true⟩, { upd (armed W0) [(F_HLT_STATUS_COOLED, 1), (F_ANN_STATUS_BAND, 5)] with mram := { W0.mram with shutdown := true, ladleEp := 7 }, tim := { W0.tim with el := 55, wt := 66 }, alarms := [⟨5, true, false⟩], out := [⟨.host, .read, []⟩], pending := [.closeTick], serial := 4, hst := { W0.hst with hidle := true }, saf := { W0.saf with ownFault := true } }, (by decide +kernel), (by decide +kernel)⟩,
   ⟨499, ⟨.drag, true⟩, { upd (armed W0) [(F_HLT_STATUS_COOLED, 1), (F_ANN_STATUS_BAND, 5)] with mram := { W0.mram with shutdown := true, ladleEp := 7 }, tim := { W0.tim with el := 55, wt := 66 }, alarms := [⟨5, true, false⟩], out := [⟨.host, .read, []⟩], pending := [.closeTick], serial := 4, hst := { W0.hst with hidle := true }, saf := { W0.saf with ownFault := true } }, (by decide +kernel)⟩,
   ⟨⟨.drag, false⟩, { upd (armed W0) [(F_HLT_STATUS_COOLED, 1), (F_ANN_STATUS_BAND, 5)] with mram := { W0.mram with shutdown := true, ladleEp := 7 }, tim := { W0.tim with el := 55, wt := 66 }, alarms := [⟨5, true, false⟩], out := [⟨.host, .read, []⟩], pending := [.closeTick], serial := 4, hst := { W0.hst with hidle := true }, saf := { W0.saf with ownFault := true } }, sound_of (by decide +kernel), (by decide +kernel), (by decide +kernel)⟩,
   ⟨⟨.drag, false⟩, (let x := { upd (armed W0) [(F_HLT_STATUS_COOLED, 1), (F_ANN_STATUS_BAND, 5)] with mram := { W0.mram with shutdown := true, ladleEp := 7 }, tim := { W0.tim with el := 55, wt := 66 }, alarms := [⟨5, true, false⟩], out := [⟨.host, .read, []⟩], pending := [.closeTick], serial := 4, hst := { W0.hst with hidle := true }, saf := { W0.saf with ownFault := true } }; { x with dev := { x.dev with toReset := true } }), sound_of (by decide +kernel), (by decide +kernel)⟩⟩
/-- The premises of Obligations.ClockMonitorWindowsPassOrForceTheGlobalSafeState are met. -/
theorem witness_clock_monitor_windows_pass_or_force_the_global_safe_state :
    (∃ (n : Nat) (s : State), s.Sound ∧ s.clk.vin = true ∧ 950 ≤ n ∧ n ≤ 1050) ∧
    (∃ (n : Nat) (s : State), s.Sound ∧ s.clk.vin = true ∧ 950 ≤ n ∧ n ≤ 1050) ∧
    (∃ (n : Nat) (s : State), s.Sound ∧ s.clk.vin = true ∧ ¬(950 ≤ n ∧ n ≤ 1050) ∧ s.clk.failedWindows = 0) ∧
    (∃ (n : Nat) (s : State), s.Sound ∧ s.clk.vin = true ∧ ¬(950 ≤ n ∧ n ≤ 1050) ∧ s.clk.failedWindows = 0) ∧
    (∃ (n : Nat) (s : State), s.Sound ∧ s.clk.vin = true ∧ ¬(950 ≤ n ∧ n ≤ 1050) ∧ 1 ≤ s.clk.failedWindows) ∧
    (∃ (n : Nat) (s : State), s.Sound ∧ s.clk.vin = true ∧ ¬(950 ≤ n ∧ n ≤ 1050) ∧ 1 ≤ s.clk.failedWindows) :=
  ⟨⟨950, { armed W0 with clk := { (armed W0).clk with failedWindows := 1 } }, sound_of (by decide +kernel), (by decide +kernel), (by decide +kernel)⟩,
   ⟨1050, armed W0, sound_of (by decide +kernel), (by decide +kernel), (by decide +kernel)⟩,
   ⟨949, armed W0, sound_of (by decide +kernel), (by decide +kernel), (by decide +kernel), (by decide +kernel)⟩,
   ⟨1051, upd (armed W0) [(F_GLB_STATUS_CLKMON_OK, 1)], sound_of (by decide +kernel), (by decide +kernel), (by decide +kernel), (by decide +kernel)⟩,
   ⟨1051, { armed W0 with clk := { (armed W0).clk with failedWindows := 1 } }, sound_of (by decide +kernel), (by decide +kernel), (by decide +kernel), (by decide +kernel)⟩,
   ⟨0, { bootd W0 with clk := { (armed W0).clk with failedWindows := 3 } }, sound_of (by decide +kernel), (by decide +kernel), (by decide +kernel), (by decide +kernel)⟩⟩
/-- The premises of Obligations.SuppliesAndClocksFollowTheirEvents are met. -/
theorem witness_supplies_and_clocks_follow_their_events :
    (∃ (s : State), s.clk.vin = true) ∧
    (∃ (s : State), s.Sound) ∧
    (∃ (s : State), s.Sound) ∧
    (∃ (s : State), s.Sound) ∧
    (∃ (s : State), s.Sound) ∧
    (∃ (s : State), s.Sound ∧ s.clk.vin = true ∧ s.boot.started = true ∧ s.dev.st ≠ .boot) ∧
    (∃ (s : State), s.Sound ∧ s.clk.vin = true ∧ s.boot.started = true ∧ s.boot.halted = false ∧ s.dev.st = .boot) ∧
    (∃ (s : State), s.Sound ∧ s.clk.vin = true ∧ s.boot.started = true ∧ s.boot.halted = false ∧ s.dev.st = .boot) ∧
    (∃ (s : State), s.Sound ∧ (s.clk.vin = false ∨ s.boot.started = false)) ∧
    (∃ (s : State), s.Sound ∧ s.flag F_GLB_STATUS_PLL_LOCK = true ∧ s.dev.st ≠ .boot) ∧
    (∃ (s : State), s.Sound ∧ s.flag F_GLB_STATUS_PLL_LOCK = true ∧ s.boot.started = true ∧ s.boot.halted = false ∧ s.dev.st = .boot) ∧
    (∃ (s : State), s.Sound) ∧
    (∃ (s : State), s.Sound) ∧
    (∃ (s : State), s.Sound ∧ s.clk.vfld = true) ∧
    (∃ (s : State), s.Sound ∧ s.clk.vfld = true) :=
  ⟨⟨armed W0, (by decide +kernel)⟩,
   ⟨armed W0, sound_of (by decide +kernel)⟩,
   ⟨W0, sound_of (by decide +kernel)⟩,
   ⟨armed W0, sound_of (by decide +kernel)⟩,
   ⟨W0, sound_of (by decide +kernel)⟩,
   ⟨upd (armed W0) [(F_GLB_STATUS_REFIN_OK, 1)], sound_of (by decide +kernel), (by decide +kernel), (by decide +kernel), (by decide +kernel)⟩,
   ⟨bootd W0, sound_of (by decide +kernel), (by decide +kernel), (by decide +kernel), (by decide +kernel), (by decide +kernel)⟩,
   ⟨{ bootd W0 with pat := { W0.pat with loaded := true } }, sound_of (by decide +kernel), (by decide +kernel), (by decide +kernel), (by decide +kernel), (by decide +kernel)⟩,
   ⟨upd W0 [(F_GLB_STATUS_REFIN_OK, 1)], sound_of (by decide +kernel), (by decide +kernel)⟩,
   ⟨upd (armed W0) [(F_GLB_STATUS_PLL_LOCK, 1)], sound_of (by decide +kernel), (by decide +kernel), (by decide +kernel)⟩,
   ⟨upd (bootd W0) [(F_GLB_STATUS_PLL_LOCK, 1)], sound_of (by decide +kernel), (by decide +kernel), (by decide +kernel), (by decide +kernel), (by decide +kernel)⟩,
   ⟨{ upd (armed W0) [(F_SAF_STATUS_VFLD_LOW, 1)] with alarms := [⟨0x0A12, true, true⟩] }, sound_of (by decide +kernel)⟩,
   ⟨{ upd fld_ [(F_SAF_STATUS_VFLD_LOW, 1), (F_FCH_STATUS_SETTLED 0, 1)] with clk := { fld_.clk with vfld := false } }, sound_of (by decide +kernel)⟩,
   ⟨armed W0, sound_of (by decide +kernel), (by decide +kernel)⟩,
   ⟨{ upd fld_ [(F_FCH_STATUS_SETTLED 0, 1), (F_FCH_STATUS_VALID 0, 1), (F_FCH_STATUS_VALID 127, 1)] with fch := { fld_.fch with driven := [127] } }, sound_of (by decide +kernel), (by decide +kernel)⟩⟩
/-- The premises of Obligations.BootStepsStartStopAndFallBack are met. -/
theorem witness_boot_steps_start_stop_and_fall_back :
    (∃ (b : BootTests) (s : State), (s.clk.vin = false ∨ s.clk.pwrgood = false ∨ s.clk.refin = false ∨ s.boot.started = true ∨ b.pllLocks = false)) ∧
    (∃ (b : BootTests) (s : State), (s.clk.vin = false ∨ s.clk.pwrgood = false ∨ s.clk.refin = false ∨ s.boot.started = true ∨ b.pllLocks = false)) ∧
    (∃ (b : BootTests) (s : State), s.Sound ∧ s.clk.vin = true ∧ s.clk.pwrgood = true ∧ s.clk.refin = true ∧ s.boot.started = false ∧ b.pllLocks = true ∧ b.keeperPasses = false) ∧
    (∃ (b : BootTests) (s : State), s.Sound ∧ s.clk.vin = true ∧ s.clk.pwrgood = true ∧ s.clk.refin = true ∧ s.boot.started = false ∧ b.pllLocks = true ∧ b.keeperPasses = true ∧ b.mramCrcOk = true ∧ b.failedBanks = [] ∧ s.mram.riserBanks = []) ∧
    (∃ (b : BootTests) (s : State), s.Sound ∧ s.clk.vin = true ∧ s.clk.pwrgood = true ∧ s.clk.refin = true ∧ s.boot.started = false ∧ b.pllLocks = true ∧ b.keeperPasses = true ∧ b.mramCrcOk = true ∧ b.failedBanks = [] ∧ s.mram.riserBanks = []) ∧
    (∃ (r : StartTests) (s : State), (s.boot.streaming = 0 ∨ s.dev.st ≠ .boot)) ∧
    (∃ (r : StartTests) (s : State) (k : Nat) (img : List Byte), s.Sound ∧ s.boot.streaming = k ∧ (k = 1 ∨ k = 2) ∧ s.dev.st = .boot ∧ s.boot.left = [] ∧ s.locked = false ∧ s.slotBytes k (imageLen (s.slotHeader k)) = img ∧ 0 < s.streamStage img r) ∧
    (∃ (r : StartTests) (s : State) (k : Nat) (img : List Byte), s.Sound ∧ s.boot.streaming = k ∧ (k = 1 ∨ k = 2) ∧ s.dev.st = .boot ∧ s.boot.left = [] ∧ s.locked = false ∧ s.slotBytes k (imageLen (s.slotHeader k)) = img ∧ 0 < s.streamStage img r) ∧
    (∃ (r : StartTests) (s : State) (k : Nat) (img : List Byte) (l : List (Nat × List Word)) (m : List (Nat × Mould)), s.boot.streaming = k ∧ (k = 1 ∨ k = 2) ∧ s.dev.st = .boot ∧ s.slotBytes k (imageLen (s.slotHeader k)) = img ∧ s.streamStage img r = 0 ∧ s.placedStage img r = 0 ∧ imageRecords img = some l ∧ mouldsOf (mouldPids.map (fun p => aget [] l p)) = some m) ∧
    (∃ (s : State), s.Sound ∧ s.boot.started = true ∧ s.boot.halted = false ∧ s.dev.st = .boot) ∧
    (∃ (s : State), s.Sound ∧ s.boot.started = true ∧ s.boot.halted = false ∧ s.dev.st = .boot) ∧
    (∃ (s : State), s.Sound ∧ s.boot.waitingTwin = true) :=
  ⟨⟨⟨true, true, [], true, 0x53465044, [250, 250, 250, 250]⟩, bootd W0, (by decide +kernel)⟩,
   ⟨⟨true, true, [], true, 0x53465044, [250, 250, 250, 250]⟩, W0, (by decide +kernel)⟩,
   ⟨⟨true, false, [], true, 0x53465044, [250, 250, 250, 250]⟩, { W0 with clk := { W0.clk with vin := true, pwrgood := true, refin := true }, mram := { W0.mram with opTime := 77, powerCycles := 3 } }, sound_of (by decide +kernel), (by decide +kernel), (by decide +kernel), (by decide +kernel), (by decide +kernel), (by decide +kernel), (by decide +kernel)⟩,
   ⟨⟨true, true, [], true, 0x53465044, [250, 250, 250, 250]⟩, { W0 with clk := { W0.clk with vin := true, pwrgood := true, refin := true }, mram := { W0.mram with opTime := 77, powerCycles := 3 } }, sound_of (by decide +kernel), (by decide +kernel), (by decide +kernel), (by decide +kernel), (by decide +kernel), (by decide +kernel), (by decide +kernel), (by decide +kernel), (by decide +kernel), (by decide +kernel)⟩,
   ⟨⟨true, true, [], true, 0x53465044, [250, 250, 250, 250]⟩, upd { W0 with clk := { W0.clk with vin := true, pwrgood := true, refin := true }, mram := { W0.mram with opTime := 77, powerCycles := 3 } } [(F_KPR_RESETCAUSE_POR, 1)], sound_of (by decide +kernel), (by decide +kernel), (by decide +kernel), (by decide +kernel), (by decide +kernel), (by decide +kernel), (by decide +kernel), (by decide +kernel), (by decide +kernel), (by decide +kernel)⟩,
   ⟨⟨[], true, [], [], [], []⟩, armed W0, (by decide +kernel)⟩,
   ⟨⟨[], true, [], [], [], []⟩, { bootd W0 with flash := [(8, 0#8), (9, 0#8), (10, 0#8), (11, 0#8)], boot := { (bootd W0).boot with streaming := 1 } }, 1, [], sound_of (by decide +kernel), (by decide +kernel), (by decide +kernel), (by decide +kernel), (by decide +kernel), (by decide +kernel), (by decide +kernel), (by decide +kernel)⟩,
   ⟨⟨[], true, [], [], [], []⟩, { bootd W0 with flash := [(0x2000008, 0#8), (0x2000009, 0#8), (0x200000A, 0#8), (0x200000B, 0#8)], boot := { (bootd W0).boot with streaming := 2 } }, 2, [], sound_of (by decide +kernel), (by decide +kernel), (by decide +kernel), (by decide +kernel), (by decide +kernel), (by decide +kernel), (by decide +kernel), (by decide +kernel)⟩,
   ⟨⟨[endorsementCheck smallImage, imageCheck smallImage], true, [], [], [], []⟩, { bootd W0 with serial := 0, devKey := List.replicate 8 0#32, flash := smallImage.zipIdx.map (fun e => (e.2, e.1)), boot := { (bootd W0).boot with streaming := 1 } }, 1, smallImage, (imageRecords smallImage).getD [], [], (by decide +kernel), (by decide +kernel), (by decide +kernel), image_read rfl, (by unfold State.streamStage; simp only [crc32c_each]; decide +kernel), (by decide +kernel), (by decide +kernel), (by decide +kernel)⟩,
   ⟨bootd W0, sound_of (by decide +kernel), (by decide +kernel), (by decide +kernel), (by decide +kernel)⟩,
   ⟨{ bootd W0 with boot := { (bootd W0).boot with octal := true, time0 := 9 }, pat := { W0.pat with loaded := true } }, sound_of (by decide +kernel), (by decide +kernel), (by decide +kernel), (by decide +kernel)⟩,
   ⟨{ armed W0 with boot := { (armed W0).boot with waitingTwin := true, step11At := 44, time0 := 3 }, dev := { W0.dev with st := .boot } }, sound_of (by decide +kernel), (by decide +kernel)⟩⟩
/-- The premises of Obligations.AFreezeOpensTheNextCycle are met. -/
theorem witness_a_freeze_opens_the_next_cycle :
    (∃ (l : List ChannelLatch) (s : State), 0 < s.dev.period ∧ s.dev.cycling = false ∧ s.boot.readyForFreeze = false) ∧
    (∃ (l : List ChannelLatch) (s : State), 0 < s.dev.period ∧ (s.dev.cycling = true ∨ s.boot.readyForFreeze = true)) ∧
    (∃ (l : List ChannelLatch) (s : State), 0 < s.dev.period ∧ (s.dev.cycling = true ∨ s.boot.readyForFreeze = true)) ∧
    (∃ (l : List ChannelLatch) (s : State), 0 < s.dev.period ∧ (s.dev.cycling = true ∨ s.boot.readyForFreeze = true)) ∧
    (∃ (l : List ChannelLatch) (s : State), 0 < s.dev.period ∧ (s.dev.cycling = true ∨ s.boot.readyForFreeze = true)) ∧
    (∃ (l : List ChannelLatch) (s : State), 0 < s.dev.period ∧ (s.dev.cycling = true ∨ s.boot.readyForFreeze = true)) ∧
    (∃ (l : List ChannelLatch) (s : State), 0 < s.dev.period ∧ (s.dev.cycling = true ∨ s.boot.readyForFreeze = true)) :=
  ⟨⟨[], { W0 with dev := { W0.dev with period := 40000000 } }, (by decide +kernel), (by decide +kernel), (by decide +kernel)⟩,
   ⟨[], armed W0, (by decide +kernel), (by decide +kernel)⟩,
   ⟨[], { armed W0 with dev := { (armed W0).dev with st := .safe, period := 1000000000 } }, (by decide +kernel), (by decide +kernel)⟩,
   ⟨[], { armed W0 with dev := { (armed W0).dev with cycling := false, st := .boot }, boot := { (armed W0).boot with readyForFreeze := true, sDieRefused := true } }, (by decide +kernel), (by decide +kernel)⟩,
   ⟨[], { armed W0 with dev := { (armed W0).dev with cycling := false, st := .boot }, boot := { (armed W0).boot with readyForFreeze := true } }, (by decide +kernel), (by decide +kernel)⟩,
   ⟨[], { armed W0 with clk := { (armed W0).clk with boundarySafe := true } }, (by decide +kernel), (by decide +kernel)⟩,
   ⟨[⟨3, 400, 4000, 5, 6, 7, 8⟩], { armed W0 with dev := { (armed W0).dev with st := .active, nextFreeze := 120000001 }, tim := { W0.tim with wt := 130000000 } }, (by decide +kernel), (by decide +kernel)⟩⟩
/-- The premises of Obligations.CyclePeriodStaysLegal are met. -/
theorem witness_cycle_period_stays_legal : ∃ s t : State, (s.dev.period = 20000000 ∨ s.dev.period = 40000000 ∨ s.dev.period = 1000000000) ∧ step s = .next t :=
  ⟨{ armed W0 with pending := [.closeTick] }, _, by decide +kernel, st_next .closeTick [] rfl (by decide +kernel)⟩
/-- The premises of Obligations.TheTwinsAgreeOnTheItemsOfACycle are met. -/
theorem witness_the_twins_agree_on_the_items_of_a_cycle :
    (∃ (n : Nat) (s : State), s.gns.block ≠ [] ∧ s.gns.blockDone = false) ∧
    (∃ (s : State), s.fullCycle = true ∧ 0 < s.dev.freezes ∧ s.agr.closed = false) ∧
    (∃ (s : State), s.fullCycle = true ∧ 0 < s.dev.freezes ∧ s.agr.closed = false) ∧
    (∃ (s : State), s.undecided = true ∧ s.agr.closed = false ∧ s.inStep = true) ∧
    (∃ (s : State), s.undecided = true ∧ s.agr.closed = false ∧ s.inStep = true) ∧
    (∃ (s : State), s.undecided = true ∧ s.agr.closed = false ∧ s.inStep = false) ∧
    (∃ (s : State), s.undecided = true ∧ s.agr.closed = true ∧ s.inStep = true ∧ s.isLead = true) ∧
    (∃ (s : State), s.undecided = true ∧ s.agr.closed = true ∧ s.inStep = true ∧ s.isLead = true) ∧
    (∃ (s : State), s.undecided = true ∧ s.agr.closed = true ∧ s.inStep = true ∧ s.isLead = false) ∧
    (∃ (s : State), s.undecided = true ∧ s.agr.closed = true ∧ s.inStep = true ∧ s.isLead = false) ∧
    (∃ (s : State), s.undecided = true ∧ s.agr.closed = true ∧ s.inStep = true ∧ s.isLead = false) ∧
    (∃ (h : TwinHeader) (i : Item) (s : State), s.takesFrame 1 h = true ∧ s.twn.link.queue = [] ∧ s.peerMet = true ∧ s.split = false ∧ i.side = otherSide s.pins.side ∧ s.dev.stateEp ≤ i.epoch) ∧
    (∃ (h : TwinHeader) (i : Item) (s : State), s.takesFrame 1 h = true ∧ s.twn.link.queue = [] ∧ s.peerMet = true ∧ s.split = false ∧ i.side = otherSide s.pins.side ∧ s.dev.stateEp ≤ i.epoch) ∧
    (∃ (h : TwinHeader) (i : Item) (k : Nat) (n : Nat) (d : List Word) (s : State), s.takesFrame 1 h = true ∧ s.twn.link.queue = [] ∧ 0 < k ∧ k + 1 < n ∧ s.agr.partialItem = some ({ i with data := d }, k)) ∧
    (∃ (h : TwinHeader) (e : Nat) (n : Nat) (d : Word) (s : State), s.takesFrame 1 h = true ∧ s.inStep = true) ∧
    (∃ (h : TwinHeader) (e : Nat) (n : Nat) (d : Word) (s : State), s.takesFrame 1 h = true ∧ s.inStep = true) ∧
    (∃ (h : TwinHeader) (e : Nat) (c : Bool) (d : Bool) (w : Word) (s : State), s.takesFrame 1 h = true ∧ s.inStep = true) ∧
    (∃ (h : TwinHeader) (e : Nat) (c : Bool) (d : Bool) (w : Word) (s : State), s.takesFrame 1 h = true ∧ s.inStep = true) :=
  ⟨⟨105000000, { armed W0 with gns := { W0.gns with block := [1#32, 2#32] } }, (by decide +kernel), (by decide +kernel)⟩,
   ⟨armed W0, (by decide +kernel), (by decide +kernel), (by decide +kernel)⟩,
   ⟨dev twin (fun d => { d with st := .active }), (by decide +kernel), (by decide +kernel), (by decide +kernel)⟩,
   ⟨{ twin with gns := { W0.gns with block := [1#32] }, agr := { W0.agr with own := [it .cope 5 [3#32], it .cope 6 []] } }, (by decide +kernel), (by decide +kernel), (by decide +kernel)⟩,
   ⟨upd twin [(F_TWN_STATUS_LANES, 0)], (by decide +kernel), (by decide +kernel), (by decide +kernel)⟩,
   ⟨agr (armed W0) (fun a => { a with own := [it .cope 5 [3#32], it .cope 6 [], it .cope 5 [1#32]] }), (by decide +kernel), (by decide +kernel), (by decide +kernel)⟩,
   ⟨agr twin (fun a => { a with closed := true, ownSet := [it .cope 5 [3#32]], theirs := [it .drag 5 [4#32]] }), (by decide +kernel), (by decide +kernel), (by decide +kernel), (by decide +kernel)⟩,
   ⟨agr twin (fun a => { a with closed := true, ownSet := [it .cope 5 [3#32]], theirs := [it .drag 5 [4#32]], closeRx := some (5, 1, setDigest [it .drag 5 [4#32]]) }), (by decide +kernel), (by decide +kernel), (by decide +kernel), (by decide +kernel)⟩,
   ⟨agr { twin with pins := { W0.pins with side := .drag } } (fun a => { a with closed := true, ownSet := [it .drag 5 [3#32]], theirs := [it .cope 5 [4#32]] }), (by decide +kernel), (by decide +kernel), (by decide +kernel), (by decide +kernel)⟩,
   ⟨agr { twin with pins := { W0.pins with side := .drag } } (fun a => { a with closed := true, ownSet := [it .drag 5 [3#32]], theirs := [it .cope 5 [4#32]], agreeRx := some (5, true, false, setDigest [it .cope 5 [4#32]]) }), (by decide +kernel), (by decide +kernel), (by decide +kernel), (by decide +kernel)⟩,
   ⟨agr { twin with pins := { W0.pins with side := .drag } } (fun a => { a with closed := true, ownSet := [it .drag 5 [3#32]], theirs := [it .cope 5 [4#32]], agreeRx := some (5, true, true, setDigest []) }), (by decide +kernel), (by decide +kernel), (by decide +kernel), (by decide +kernel)⟩,
   ⟨th 0, it .drag 5 [], twin, (by decide +kernel), (by decide +kernel), (by decide +kernel), (by decide +kernel), (by decide +kernel), (by decide +kernel)⟩,
   ⟨th 0, it .drag 6 [2#32], twin, (by decide +kernel), (by decide +kernel), (by decide +kernel), (by decide +kernel), (by decide +kernel), (by decide +kernel)⟩,
   ⟨th 0, it .drag 5 [7#32], 1, 3, [6#32], agr twin (fun a => { a with partialItem := some (it .drag 5 [6#32], 1) }), (by decide +kernel), (by decide +kernel), (by decide +kernel), (by decide +kernel), (by decide +kernel)⟩,
   ⟨th 0, 5, 3, 4#32, twin, (by decide +kernel), (by decide +kernel)⟩,
   ⟨th 7, 6, 3, 4#32, tw twin (fun w => { w with link := { w.link with rxSeq := [(1, 7)] } }), (by decide +kernel), (by decide +kernel)⟩,
   ⟨th 0, 5, true, false, 4#32, twin, (by decide +kernel), (by decide +kernel)⟩,
   ⟨th 0, 4, true, false, 4#32, twin, (by decide +kernel), (by decide +kernel)⟩⟩
/-- The premises of Obligations.FusionKeepsSlagsAndReturnsItsSources are met. -/
theorem witness_fusion_keeps_slags_and_returns_its_sources :
    (∃ (l : List NavSolution) (s : State), s.stepOpen 2 = true ∧ s.hlt.discarded.contains 2 = false) ∧
    (∃ (l : List NavSolution) (s : State), s.stepOpen 2 = true ∧ s.hlt.discarded.contains 2 = false) ∧
    (∃ (l : List NavSolution) (s : State), s.stepOpen 2 = true ∧ s.hlt.discarded.contains 2 = true) ∧
    (∃ (l : List NavSolution) (s : State), s.stepOpen 2 = false) ∧
    (∃ (l : List NavSolution) (s : State), s.stepOpen 2 = false) ∧
    (∃ (n : Nat) (s : State), s.Sound ∧ s.fullCycle = true ∧ s.slotUsed n = true ∧ ((s.fslot n).st = 1 ∨ (s.fslot n).st = 3) ∧ s.judgedLater (s.slotExpiry n) = false ∧ s.messagePending n (s.slotExpiry n) = false) ∧
    (∃ (n : Nat) (s : State), s.Sound ∧ s.fullCycle = true ∧ s.slotUsed n = true ∧ ((s.fslot n).st = 1 ∨ (s.fslot n).st = 3) ∧ s.judgedLater (s.slotExpiry n) = false ∧ s.messagePending n (s.slotExpiry n) = false) ∧
    (∃ (n : Nat) (q : Nat) (a : Nat) (s : State), s.firstHold n = some (q, a, 1) ∧ s.judgedLater (a + s.persistNs) = false) ∧
    (∃ (n : Nat) (q : Nat) (a : Nat) (k : Nat) (s : State), s.firstHold n = some (q, a, k) ∧ k ≠ 1 ∧ s.judgedLater (a + s.persistNs) = false) ∧
    (∃ (n : Nat) (s : State), s.firstHold n = none) ∧
    (∃ (q : Nat) (a : Nat) (b : Nat) (c : Nat) (s : State), (s.quant q).conflict = some c ∧ s.groups q = [a, b] ∧ s.judgedLater (c + s.persistNs) = false) ∧
    (∃ (q : Nat) (a : Nat) (b : Nat) (c : Nat) (s : State), (s.quant q).conflict = some c ∧ s.groups q = [a, b] ∧ s.judgedLater (c + s.persistNs) = false) ∧
    (∃ (n : Nat) (s : State), s.slotUsed n = true ∧ (s.fslot n).st = 3) ∧
    (∃ (h : Bool) (a : Nat) (s : State), (s.quant (bit h)).dr = some a ∧ s.judgedLater (a + s.par 0x0509 * sec) = false) ∧
    (∃ (h : Bool) (a : Nat) (s : State), (s.quant (bit h)).dr = some a ∧ s.judgedLater (a + s.par 0x0509 * sec) = false) ∧
    (∃ (h : Bool) (s : State), (s.quant (bit h)).dr.isSome = true ∧ s.cond 0 = true ∧ s.parMode 0x0705 ≠ 0 ∧ s.judgedLater (s.tim.wt + s.drLimitEnd - s.tim.el) = false) ∧
    (∃ (h : Bool) (s : State), (s.quant (bit h)).dr.isSome = true ∧ s.cond 0 = true ∧ s.parMode 0x0705 ≠ 0 ∧ s.judgedLater (s.tim.wt + s.drLimitEnd - s.tim.el) = false) ∧
    (∃ (h : Bool) (s : State), (s.quant (bit h)).dr.isSome = true ∧ s.cond 0 = true ∧ s.parMode 0x0705 ≠ 0 ∧ s.judgedLater (s.tim.wt + s.drLimitEnd - s.tim.el) = false) :=
  ⟨⟨[], slots sens [(0, { st := 4, reason := 2 })], (by decide +kernel), (by decide +kernel)⟩,
   ⟨[navs], armed W0, (by decide +kernel), (by decide +kernel)⟩,
   ⟨[], hlt (slots sens [(0, { st := 4, reason := 2 })]) (fun x => { x with discarded := [2] }), (by decide +kernel), (by decide +kernel)⟩,
   ⟨[], W0, (by decide +kernel)⟩,
   ⟨[], dev sens (fun d => { d with stepsDone := [2] }), (by decide +kernel)⟩,
   ⟨0, slots (dev sens (fun d => { d with stepsDone := [2] })) [(0, { st := 3, held := true, lastAt := [(0, 50000000)] })], sound_of (by decide +kernel), (by decide +kernel), (by decide +kernel), (by decide +kernel), (by decide +kernel), (by decide +kernel)⟩,
   ⟨2, dev sens (fun d => { d with stepsLate := [2] }), sound_of (by decide +kernel), (by decide +kernel), (by decide +kernel), (by decide +kernel), (by decide +kernel), (by decide +kernel)⟩,
   ⟨0, 0, 5, dev (slots sens [(0, { st := 1, heldSince := [(0, 5)] }), (2, { st := 4 })]) (fun d => { d with stepsDone := [2] }), (by decide +kernel), (by decide +kernel)⟩,
   ⟨0, 0, 3, 2, dev (quant (slots sens [(0, { st := 1, vals := [(0, [1, 2])] })]) 0 { out := [(0, 3)] }) (fun d => { d with stepsDone := [2] }), (by decide +kernel), (by decide +kernel), (by decide +kernel)⟩,
   ⟨0, sens, (by decide +kernel)⟩,
   ⟨0, 0, 2, 4, dev (quant (slots sens [(0, { vals := [(0, [1, 2])] }), (2, { vals := [(0, [100000, 2])] })]) 0 { conflict := some 4, use := [(0, 5), (2, 7)] }) (fun d => { d with stepsDone := [2] }), (by decide +kernel), (by decide +kernel), (by decide +kernel)⟩,
   ⟨0, 0, 2, 4, dev (quant (slots sens [(0, { vals := [(0, [1, 2])] }), (2, { vals := [(0, [100000, 2])] })]) 0 { conflict := some 4 }) (fun d => { d with stepsDone := [2] }), (by decide +kernel), (by decide +kernel), (by decide +kernel)⟩,
   ⟨2, slots sens [(2, { st := 3, probUntil := 900000000 })], (by decide +kernel), (by decide +kernel)⟩,
   ⟨true, 4, dev (quant sens 1 { dr := some 4, valid := true }) (fun d => { d with stepsDone := [2] }), (by decide +kernel), (by decide +kernel)⟩,
   ⟨false, 4, dev (quant sens 0 { dr := some 4, valid := true }) (fun d => { d with stepsDone := [2] }), (by decide +kernel), (by decide +kernel)⟩,
   ⟨true, upd (dev (par (quant sens 1 { dr := some 4, valid := true }) [(0x0705, [0, 60]), (0x0706, [0, 1, 0, 0, 0, 0])]) (fun d => { d with stepsDone := [2] })) [(bitAt A_CTL_DEGR 0, 1)], (by decide +kernel), (by decide +kernel), (by decide +kernel), (by decide +kernel)⟩,
   ⟨false, upd (dev (par (quant sens 0 { dr := some 4, valid := true }) [(0x0705, [0, 60]), (0x0706, [0, 0, 0, 0, 0, 0])]) (fun d => { d with stepsDone := [2] })) [(bitAt A_CTL_DEGR 0, 1)], (by decide +kernel), (by decide +kernel), (by decide +kernel), (by decide +kernel)⟩,
   ⟨false, upd (dev (par (quant sens 0 { dr := some 4, valid := true }) [(0x0705, [0, 60]), (0x0706, [0, 1, 0, 0, 0, 0])]) (fun d => { d with stepsDone := [2], newMode := some 1 })) [(bitAt A_CTL_DEGR 0, 1)], (by decide +kernel), (by decide +kernel), (by decide +kernel), (by decide +kernel)⟩⟩
/-- The premises of Obligations.TheControlStepBoundsTheDemandAndSupervises are met. -/
theorem witness_the_control_step_bounds_the_demand_and_supervises :
    (∃ (s : State), s.stepOpen 3 = false) ∧
    (∃ (s : State), (s.stepOpen 3 = true ∧ s.hlt.discarded.contains 3 = false) ∧ s.dev.mode ≠ 6 ∧ s.ctl.posed = false) ∧
    (∃ (s : State), (s.stepOpen 3 = true ∧ s.hlt.discarded.contains 3 = false) ∧ s.ctl.posed = true ∧ s.ctl.sent = true ∧ s.problemWaits controlTag = true) ∧
    (∃ (s : State), (s.stepOpen 3 = true ∧ s.hlt.discarded.contains 3 = false) ∧ s.dev.mode ≠ 6 ∧ (s.ctl.posed = true ∧ (s.ctl.sent = true → s.problemWaits controlTag = false)) ∧ (s.ctl.sent = true ∧ ((s.prob controlTag).status = 3 ∨ (s.prob controlTag).status = 4))) ∧
    (∃ (s : State), (s.stepOpen 3 = true ∧ s.hlt.discarded.contains 3 = false) ∧ s.dev.mode ≠ 6 ∧ (s.ctl.posed = true ∧ (s.ctl.sent = true → s.problemWaits controlTag = false)) ∧ (s.ctl.sent = true ∧ ((s.prob controlTag).status = 3 ∨ (s.prob controlTag).status = 4))) ∧
    (∃ (s : State), (s.stepOpen 3 = true ∧ s.hlt.discarded.contains 3 = false) ∧ s.dev.mode ≠ 6 ∧ (s.ctl.posed = true ∧ (s.ctl.sent = true → s.problemWaits controlTag = false)) ∧ (¬(s.ctl.sent = true ∧ ((s.prob controlTag).status = 3 ∨ (s.prob controlTag).status = 4))) ∧ s.ctl.reuse < 5 ∧ s.ctl.plan ≠ []) ∧
    (∃ (s : State), (s.stepOpen 3 = true ∧ s.hlt.discarded.contains 3 = false) ∧ s.dev.mode ≠ 6 ∧ (s.ctl.posed = true ∧ (s.ctl.sent = true → s.problemWaits controlTag = false)) ∧ (¬(s.ctl.sent = true ∧ ((s.prob controlTag).status = 3 ∨ (s.prob controlTag).status = 4))) ∧ s.ctl.reuse < 5 ∧ s.ctl.plan ≠ []) ∧
    (∃ (s : State), (s.stepOpen 3 = true ∧ s.hlt.discarded.contains 3 = false) ∧ s.dev.mode ≠ 6 ∧ (s.ctl.posed = true ∧ (s.ctl.sent = true → s.problemWaits controlTag = false)) ∧ (¬(s.ctl.sent = true ∧ ((s.prob controlTag).status = 3 ∨ (s.prob controlTag).status = 4))) ∧ 5 ≤ s.ctl.reuse) ∧
    (∃ (s : State), s.stepOpen 3 = true ∧ s.hlt.discarded.contains 3 = true ∧ s.dev.mode ≠ 6 ∧ s.ctl.reuse < 5 ∧ s.ctl.plan ≠ []) ∧
    (∃ (s : State), (s.stepOpen 3 = true ∧ s.hlt.discarded.contains 3 = false) ∧ s.dev.mode = 6 ∧ s.ctl.sent = false) ∧
    (∃ (s : State), (s.stepOpen 3 = true ∧ s.hlt.discarded.contains 3 = false) ∧ s.dev.mode = 6 ∧ s.ctl.sent = false) ∧
    (∃ (h : Bool) (a : Nat) (s : State), (if h then s.ctl.feHdg else s.ctl.fePos) = some a) ∧
    (∃ (h : Bool) (a : Nat) (s : State), (if h then s.ctl.feHdg else s.ctl.fePos) = some a) ∧
    (∃ (n : Nat) (k : Nat) (a : Nat) (s : State), s.ctl.mp = some (k, a)) ∧
    (∃ (n : Nat) (k : Nat) (a : Nat) (s : State), s.ctl.mp = some (k, a)) ∧
    (∃ (s : State), s.fullCycle = true ∧ s.dev.mode = 5) ∧
    (∃ (s : State), s.fullCycle = true ∧ s.dev.mode = 6) ∧
    (∃ (up : Bool) (a : Nat) (s : State), s.ctl.ramp = some (up, a)) ∧
    (∃ (up : Bool) (a : Nat) (s : State), s.ctl.ramp = some (up, a)) ∧
    (∃ (i : Injection) (s : State), s.ctl.inj = some i ∧ i.started = true) :=
  ⟨⟨W0, (by decide +kernel)⟩,
   ⟨sens, (by decide +kernel), (by decide +kernel), (by decide +kernel)⟩,
   ⟨{ ctl sens (fun c => { c with posed := true, sent := true }) with slv := { W0.slv with probs := [(255, { status := 2 })] } }, (by decide +kernel), (by decide +kernel), (by decide +kernel), (by decide +kernel)⟩,
   ⟨{ ctl sens (fun c => { c with posed := true, sent := true, reuse := 4, fixedGain := true }) with slv := { W0.slv with probs := [(255, { status := 3 })] }, xchg := [(3, 5#32)] }, (by decide +kernel), (by decide +kernel), (by decide +kernel), (by decide +kernel)⟩,
   ⟨{ ctl sens (fun c => { c with posed := true, sent := true, reuse := 4, fixedGain := true }) with slv := { W0.slv with probs := [(255, { status := 4 })] }, alarms := [⟨0x1308, true, true⟩, ⟨0x1309, false, true⟩] }, (by decide +kernel), (by decide +kernel), (by decide +kernel), (by decide +kernel)⟩,
   ⟨ctl sens (fun c => { c with posed := true, reuse := 4, plan := [[1, 2, 3], [4, 5, 6]] }), (by decide +kernel), (by decide +kernel), (by decide +kernel), (by decide +kernel), (by decide +kernel), (by decide +kernel)⟩,
   ⟨{ ctl (dev sens (fun d => { d with period := 1000000000 })) (fun c => { c with posed := true, sent := true, reuse := 0, plan := [[1, 2, 3], [4, 5, 6], [7, 8, 9]] }) with slv := { W0.slv with probs := [(255, { status := 5 })] } }, (by decide +kernel), (by decide +kernel), (by decide +kernel), (by decide +kernel), (by decide +kernel), (by decide +kernel)⟩,
   ⟨ctl sens (fun c => { c with posed := true, reuse := 5, plan := [[1, 2, 3], [4, 5, 6]] }), (by decide +kernel), (by decide +kernel), (by decide +kernel), (by decide +kernel), (by decide +kernel)⟩,
   ⟨hlt (ctl sens (fun c => { c with reuse := 2, plan := [[1, 2, 3], [4, 5, 6]] })) (fun h => { h with discarded := [3] }), (by decide +kernel), (by decide +kernel), (by decide +kernel), (by decide +kernel), (by decide +kernel)⟩,
   ⟨dev (ctl (par sens [(0x0801, [1000, 2000, 3000])]) (fun c => { c with tau := [900, -300, 5], bound := true, fixedGain := true })) (fun d => { d with mode := 6, joystick := [1000, -1000, 3] }), (by decide +kernel), (by decide +kernel), (by decide +kernel)⟩,
   ⟨dev sens (fun d => { d with mode := 6, joystick := [1000, -1000, 3], joyLost := true }), (by decide +kernel), (by decide +kernel), (by decide +kernel)⟩,
   ⟨true, 7, ctl sens (fun c => { c with feHdg := some 7, inj := some ⟨0, 1, 2, 3, 4, 5, 6, 1, true, 8, 9, 10, none⟩ }), (by decide +kernel)⟩,
   ⟨false, 7, par (ctl sens (fun c => { c with fePos := some 7, inj := some ⟨0, 1, 2, 3, 4, 5, 6, 1, true, 8, 9, 10, none⟩ })) [(0x0804, [1])], (by decide +kernel)⟩,
   ⟨0, 0, 9, par (ctl sens (fun c => { c with mp := some (0, 9) })) [(0x0804, [1])], (by decide +kernel)⟩,
   ⟨0, 2, 9, ctl sens (fun c => { c with mp := some (2, 9) }), (by decide +kernel)⟩,
   ⟨dev sens (fun d => { d with mode := 5 }), (by decide +kernel), (by decide +kernel)⟩,
   ⟨dev sens (fun d => { d with mode := 6, joyAt := 44 }), (by decide +kernel), (by decide +kernel)⟩,
   ⟨true, 6, ctl sens (fun c => { c with ramp := some (true, 6), wff := [1, 2, 3] }), (by decide +kernel)⟩,
   ⟨false, 6, ctl sens (fun c => { c with ramp := some (false, 6), wff := [1, 2, 3] }), (by decide +kernel)⟩,
   ⟨⟨0, 1, 2, 3, 4, 5, 6, 1, true, 8, 9, 10, none⟩, ctl sens (fun c => { c with inj := some ⟨0, 1, 2, 3, 4, 5, 6, 1, true, 8, 9, 10, none⟩, refAdd := [1, 2, 3] }), (by decide +kernel), (by decide +kernel)⟩⟩
/-- The premises of Obligations.AllocationFallsBackCoversAndSwings are met. -/
theorem witness_allocation_falls_back_covers_and_swings :
    (∃ (s : State), s.stepOpen 4 = false) ∧
    (∃ (s : State), (s.stepOpen 4 = true ∧ s.hlt.discarded.contains 4 = false) ∧ s.alc.posed = false) ∧
    (∃ (s : State), (s.stepOpen 4 = true ∧ s.hlt.discarded.contains 4 = false) ∧ s.alc.posed = false) ∧
    (∃ (s : State), (s.stepOpen 4 = true ∧ s.hlt.discarded.contains 4 = false) ∧ s.alc.posed = true ∧ s.alc.tags.any s.problemWaits = true) ∧
    (∃ (s : State), s.Sound ∧ (s.stepOpen 4 = true ∧ s.hlt.discarded.contains 4 = false) ∧ s.alc.posed = true ∧ s.alc.tags.any s.problemWaits = false) ∧
    (∃ (s : State), s.Sound ∧ (s.stepOpen 4 = true ∧ s.hlt.discarded.contains 4 = false) ∧ s.alc.posed = true ∧ s.alc.tags.any s.problemWaits = false) ∧
    (∃ (s : State), s.Sound ∧ (s.stepOpen 4 = true ∧ s.hlt.discarded.contains 4 = false) ∧ s.alc.posed = true ∧ s.alc.tags.any s.problemWaits = false) ∧
    (∃ (s : State), s.Sound ∧ (s.stepOpen 4 = true ∧ s.hlt.discarded.contains 4 = false) ∧ s.alc.posed = true ∧ s.alc.tags.any s.problemWaits = false) ∧
    (∃ (s : State), s.Sound ∧ (s.stepOpen 4 = true ∧ s.hlt.discarded.contains 4 = false) ∧ s.alc.posed = true ∧ s.alc.tags.any s.problemWaits = false) ∧
    (∃ (s : State), s.Sound ∧ s.stepOpen 4 = true ∧ s.hlt.discarded.contains 4 = true ∧ s.alc.posed = true) ∧
    (∃ (j : Nat) (s : State), 1 ≤ j ∧ j ≤ s.nScen ∧ s.applicable j = true ∧ (s.scen j).due = true ∧ s.par 0x030E ≤ (s.scen j).age ∧ (s.scen j).stale = false) ∧
    (∃ (j : Nat) (s : State), (s.scen j).stale = true) ∧
    (∃ (j : Nat) (a : Nat) (s : State), (s.scen j).below = some a) ∧
    (∃ (n : Nat) (k : Nat) (a : Nat) (cw : Bool) (s : State), (s.thr n).edge = some (k, cw, a)) :=
  ⟨⟨W0, (by decide +kernel)⟩,
   ⟨alc plant (fun a => { a with thrs := [(0, { avail := true }), (1, { avail := true, edge := some (2, true, 77) })], scens := [{ typ := 1, object := 0, due := true, age := 9, below := some 5 }, { typ := 1, object := 1, stale := true }] }), (by decide +kernel), (by decide +kernel)⟩,
   ⟨armed W0, (by decide +kernel), (by decide +kernel)⟩,
   ⟨{ (alc plant (fun a => { a with thrs := [(0, { avail := true }), (1, { avail := true, edge := some (2, true, 77) })], scens := [{ typ := 1, object := 0, due := true, age := 9, below := some 5 }, { typ := 1, object := 1, stale := true }], posed := true, taken := [1], shape := [], tags := [0, 1], cover := 3 })) with slv := { W0.slv with probs := [(0, { status := 2 }), (1, { status := 3 })] } }, (by decide +kernel), (by decide +kernel), (by decide +kernel)⟩,
   ⟨{ (alc plant (fun a => { a with thrs := [(0, { avail := true }), (1, { avail := true, edge := some (2, true, 77) })], scens := [{ typ := 1, object := 0, due := true, age := 9, below := some 5 }, { typ := 1, object := 1, stale := true }], posed := true, taken := [1], shape := [], tags := [0, 1], cover := 3 })) with slv := { W0.slv with probs := [(0, { status := 3 }), (1, { status := 3 })] }, alarms := [⟨0x1603, true, true⟩] }, sound_of (by decide +kernel), (by decide +kernel), (by decide +kernel), (by decide +kernel)⟩,
   ⟨{ (alc plant (fun a => { a with thrs := [(0, { avail := true }), (1, { avail := true, edge := some (2, true, 77) })], scens := [{ typ := 1, object := 0, due := true, age := 9, below := some 5 }, { typ := 1, object := 1, stale := true }], posed := true, taken := [1], shape := [], tags := [0, 1], cover := 3 })) with slv := { W0.slv with probs := [(0, { status := 4 }), (1, { status := 3 })] } }, sound_of (by decide +kernel), (by decide +kernel), (by decide +kernel), (by decide +kernel)⟩,
   ⟨{ (alc plant (fun a => { a with thrs := [(0, { avail := true }), (1, { avail := true, edge := some (2, true, 77) })], scens := [{ typ := 1, object := 0, due := true, age := 9, below := some 5 }, { typ := 1, object := 1, stale := true }], posed := true, taken := [1], shape := [], tags := [0, 1], cover := 3 })) with slv := { W0.slv with probs := [(0, { status := 5 }), (1, { status := 3 })] } }, sound_of (by decide +kernel), (by decide +kernel), (by decide +kernel), (by decide +kernel)⟩,
   ⟨{ (alc plant (fun a => { a with thrs := [(0, { avail := true }), (1, { avail := true, edge := some (2, true, 77) })], scens := [{ typ := 1, object := 0, due := true, age := 9, below := some 5 }, { typ := 1, object := 1, stale := true }], posed := true, fallback := some 2, taken := [1, 2] })) with slv := { W0.slv with probs := [(0, { status := 3 }), (1, { status := 3 })] } }, sound_of (by decide +kernel), (by decide +kernel), (by decide +kernel), (by decide +kernel)⟩,
   ⟨dev ({ (alc plant (fun a => { a with thrs := [(0, { avail := true }), (1, { avail := true, edge := some (2, true, 77) })], scens := [{ typ := 1, object := 0, due := true, age := 9, below := some 5 }, { typ := 1, object := 1, stale := true }], posed := true, taken := [1], shape := [], tags := [0, 1], cover := 3 })) with slv := { W0.slv with probs := [(0, { status := 9 }), (1, { status := 3 })] } }) (fun d => { d with mode := 6 }), sound_of (by decide +kernel), (by decide +kernel), (by decide +kernel), (by decide +kernel)⟩,
   ⟨hlt ({ (alc plant (fun a => { a with thrs := [(0, { avail := true }), (1, { avail := true, edge := some (2, true, 77) })], scens := [{ typ := 1, object := 0, due := true, age := 9, below := some 5 }, { typ := 1, object := 1, stale := true }], posed := true, taken := [1], shape := [], tags := [0, 1], cover := 3 })) with slv := { W0.slv with probs := [(0, { status := 3 }), (1, { status := 3 })] } }) (fun h => { h with discarded := [4] }), sound_of (by decide +kernel), (by decide +kernel), (by decide +kernel), (by decide +kernel)⟩,
   ⟨1, par (alc plant (fun a => { a with thrs := [(0, { avail := true }), (1, { avail := true, edge := some (2, true, 77) })], scens := [{ typ := 1, object := 0, due := true, age := 9, below := some 5 }, { typ := 1, object := 1, stale := true }] })) [(0x030E, [9])], (by decide +kernel), (by decide +kernel), (by decide +kernel), (by decide +kernel), (by decide +kernel), (by decide +kernel)⟩,
   ⟨2, alc plant (fun a => { a with thrs := [(0, { avail := true }), (1, { avail := true, edge := some (2, true, 77) })], scens := [{ typ := 1, object := 0, due := true, age := 9, below := some 5 }, { typ := 1, object := 1, stale := true }] }), (by decide +kernel)⟩,
   ⟨1, 5, alc plant (fun a => { a with thrs := [(0, { avail := true }), (1, { avail := true, edge := some (2, true, 77) })], scens := [{ typ := 1, object := 0, due := true, age := 9, below := some 5 }, { typ := 1, object := 1, stale := true }] }), (by decide +kernel)⟩,
   ⟨1, 2, 77, true, alc plant (fun a => { a with thrs := [(0, { avail := true }), (1, { avail := true, edge := some (2, true, 77) })], scens := [{ typ := 1, object := 0, due := true, age := 9, below := some 5 }, { typ := 1, object := 1, stale := true }] }), (by decide +kernel)⟩⟩
/-- The premises of Obligations.OutputsAreComparedJudgedArbitratedAndPoured are met. -/
theorem witness_outputs_are_compared_judged_arbitrated_and_poured :
    (∃ (s : State), s.stepOpen 5 = true) ∧
    (∃ (s : State), s.stepOpen 5 = true) ∧
    (∃ (s : State), s.stepOpen 5 = false) ∧
    (∃ (b : Bool) (s : State), s.stepOpen 6 = true ∧ s.failedChecks b = 0 ∧ s.Sound) ∧
    (∃ (s : State), s.stepOpen 6 = true ∧ s.Sound) ∧
    (∃ (s : State), s.stepOpen 6 = true ∧ s.Sound) ∧
    (∃ (b : Bool) (s : State), s.stepOpen 6 = false) ∧
    (∃ (s : State), s.stepOpen 9 = true ∧ s.Sound) ∧
    (∃ (s : State), s.stepOpen 9 = true ∧ s.Sound) ∧
    (∃ (s : State), s.stepOpen 9 = true ∧ s.Sound) ∧
    (∃ (s : State), s.stepOpen 9 = true ∧ s.Sound) ∧
    (∃ (s : State), s.stepOpen 9 = false) ∧
    (∃ (k : Nat) (s : State), 2 ≤ k ∧ k ≤ 6 ∧ s.stepOpen k = true) ∧
    (∃ (k : Nat) (s : State), 2 ≤ k ∧ k ≤ 6 ∧ s.stepOpen k = true) ∧
    (∃ (k : Nat) (s : State), 2 ≤ k ∧ k ≤ 6 ∧ s.stepOpen k = true) ∧
    (∃ (k : Nat) (s : State), 2 ≤ k ∧ k ≤ 6 ∧ s.stepOpen k = true) ∧
    (∃ (k : Nat) (s : State), 2 ≤ k ∧ k ≤ 6 ∧ s.stepOpen k = true) ∧
    (∃ (s : State), s.undecided = true ∧ s.Sound) ∧
    (∃ (s : State), s.dev.cycling = true) ∧
    (∃ (b : Bool) (s : State), s.dev.cycling = true ∧ 0 < s.dev.freezes ∧ 8 ∉ s.dev.stepsDone) ∧
    (∃ (b : Bool) (s : State), s.dev.cycling = true ∧ 0 < s.dev.freezes ∧ 8 ∉ s.dev.stepsDone) ∧
    (∃ (b : Bool) (s : State), s.dev.cycling = true ∧ 0 < s.dev.freezes ∧ 8 ∉ s.dev.stepsDone) ∧
    (∃ (b : Bool) (s : State), (s.dev.cycling = false ∨ s.dev.freezes = 0 ∨ 8 ∈ s.dev.stepsDone)) ∧
    (∃ (h : TwinHeader) (m : CompareMsg) (s : State), s.takesFrame 2 h = true ∧ s.twn.link.queue = [] ∧ s.inStep = true ∧ m.epoch = s.dev.stateEp ∧ 5 ∉ s.dev.stepsLate) ∧
    (∃ (h : TwinHeader) (m : VerdictMsg) (s : State), s.takesFrame 3 h = true ∧ s.twn.link.queue = [] ∧ s.inStep = true) :=
  ⟨⟨armed W0, (by decide +kernel)⟩,
   ⟨dev twin (fun d => { d with stepsDone := [1, 2, 3, 4] }), (by decide +kernel)⟩,
   ⟨dev twin (fun d => { d with stepsDone := [5] }), (by decide +kernel)⟩,
   ⟨true, spar (dev twin (fun d => { d with stepsDone := [4, 5] })) [(0x1008, [0])], (by decide +kernel), (by decide +kernel), sound_of (by decide +kernel)⟩,
   ⟨upd (par (dev twin (fun d => { d with st := .active })) [(0x100D, [3])]) [(F_SAF_STATUS_FAILCNT, 1), (F_SAF_STATUS_VERDICT, 1)], (by decide +kernel), sound_of (by decide +kernel)⟩,
   ⟨upd (dev twin (fun d => { d with st := .active })) [(F_SAF_STATUS_FAILCNT, 7)], (by decide +kernel), sound_of (by decide +kernel)⟩,
   ⟨true, W0, (by decide +kernel)⟩,
   ⟨armed W0, (by decide +kernel), sound_of (by decide +kernel)⟩,
   ⟨dev twin (fun d => { d with st := .active }), (by decide +kernel), sound_of (by decide +kernel)⟩,
   ⟨{ dev twin (fun d => { d with st := .active }) with saf := { W0.saf with verdictPass := true, leaseFrom := some 5 }, twn := { twin.twn with holder := some .cope, ownVerdict := some ⟨true, true, false, false, false, 0⟩, peerVerdict := some ⟨true, true, false, false, false, 0⟩ } }, (by decide +kernel), sound_of (by decide +kernel)⟩,
   ⟨{ twin with twn := { twin.twn with ownVerdict := some ⟨false, true, false, false, false, 0⟩, peerVerdict := some ⟨true, true, false, false, false, 0⟩ } }, (by decide +kernel), sound_of (by decide +kernel)⟩,
   ⟨dev twin (fun d => { d with stepsDone := [9] }), (by decide +kernel)⟩,
   ⟨2, sens, (by decide +kernel), (by decide +kernel), (by decide +kernel)⟩,
   ⟨6, dev twin (fun d => { d with st := .active }), (by decide +kernel), (by decide +kernel), (by decide +kernel)⟩,
   ⟨4, plant, (by decide +kernel), (by decide +kernel), (by decide +kernel)⟩,
   ⟨3, plant, (by decide +kernel), (by decide +kernel), (by decide +kernel)⟩,
   ⟨5, twin, (by decide +kernel), (by decide +kernel), (by decide +kernel)⟩,
   ⟨twin, (by decide +kernel), sound_of (by decide +kernel)⟩,
   ⟨armed W0, (by decide +kernel)⟩,
   ⟨true, armed W0, (by decide +kernel), (by decide +kernel), (by decide +kernel)⟩,
   ⟨false, dev twin (fun d => { d with st := .active, stepsDone := [1, 2], atPour := [.park] }), (by decide +kernel), (by decide +kernel), (by decide +kernel)⟩,
   ⟨true, dev plant (fun d => { d with st := .safe }), (by decide +kernel), (by decide +kernel), (by decide +kernel)⟩,
   ⟨true, W0, (by decide +kernel)⟩,
   ⟨th 0, ⟨5, [], [], 0#32⟩, twin, (by decide +kernel), (by decide +kernel), (by decide +kernel), (by decide +kernel), (by decide +kernel)⟩,
   ⟨th 9, ⟨true, true, false, false, false, 0⟩, tw twin (fun w => { w with link := { w.link with rxSeq := [(3, 9)] } }), (by decide +kernel), (by decide +kernel), (by decide +kernel)⟩⟩
/-- The premises of Obligations.DuplicateOrdersAreDiscardedUnanswered are met. -/
theorem witness_duplicate_orders_are_discarded_unanswered :
    (∃ (c : Instr) (o : OrderIn) (k : Nat) (b : Bool) (s : State), orderRow c = some (o, k, b) ∧ s.dev.st ≠ .boot ∧ s.dev.cycling = true ∧ s.epochOf o.stamp ≤ s.dev.stateEp) ∧
    (∃ (c : Instr) (o : OrderIn) (k : Nat) (b : Bool) (s : State), orderRow c = some (o, k, b) ∧ s.dev.st ≠ .boot ∧ s.dev.cycling = true ∧ s.epochOf o.stamp ≤ s.dev.stateEp) ∧
    (∃ (c : Instr) (o : OrderIn) (k : Nat) (b : Bool) (s : State), orderRow c = some (o, k, b) ∧ s.dev.st ≠ .boot ∧ s.dev.cycling = true ∧ s.epochOf o.stamp ≤ s.dev.stateEp) ∧
    (∃ (c : Instr) (o : OrderIn) (k : Nat) (b : Bool) (s : State), orderRow c = some (o, k, b) ∧ s.dev.st ≠ .boot ∧ s.dev.cycling = true ∧ s.epochOf o.stamp ≤ s.dev.stateEp) ∧
    (∃ (tr : Transport) (a : Word) (p : Nat) (f : List Word) (n : Nat) (s : State), s.dev.st ≠ .boot ∧ s.dev.cycling = true ∧ knownCode (orderCode f) = false ∧ s.epochOf n ≤ s.dev.stateEp) ∧
    (∃ (tr : Transport) (a : Word) (p : Nat) (f : List Word) (n : Nat) (s : State), s.dev.st ≠ .boot ∧ s.dev.cycling = true ∧ knownCode (orderCode f) = false ∧ s.epochOf n ≤ s.dev.stateEp) :=
  ⟨⟨.engage (ord_ 1 4 []), ord_ 1 4 [], 1, true, { plant with ord := { W0.ord with lastSeq := [(1, 4)] } }, (by decide +kernel), (by decide +kernel), (by decide +kernel), (by decide +kernel)⟩,
   ⟨.engage (ord_ 2 4 []), ord_ 2 4 [], 1, true, { plant with ord := { W0.ord with lastSeq := [(2, 4)] } }, (by decide +kernel), (by decide +kernel), (by decide +kernel), (by decide +kernel)⟩,
   ⟨.park { ord_ 2 4 [] with target := 3 }, { ord_ 2 4 [] with target := 3 }, 0x0F, false, plant, (by decide +kernel), (by decide +kernel), (by decide +kernel), (by decide +kernel)⟩,
   ⟨.park { ord_ 2 4 [] with port := 4 }, { ord_ 2 4 [] with port := 4 }, 0x0F, false, plant, (by decide +kernel), (by decide +kernel), (by decide +kernel), (by decide +kernel)⟩,
   ⟨.udp, 5#32, 8, [0#32, 1#32], 66, plant, (by decide +kernel), (by decide +kernel), (by decide +kernel), (by decide +kernel)⟩,
   ⟨.can, 5#32, 8, [], 66, twin, (by decide +kernel), (by decide +kernel), (by decide +kernel), (by decide +kernel)⟩⟩
/-- The premises of Obligations.OrdersFailTheMiddleChecksInOrder are met. -/
theorem witness_orders_fail_the_middle_checks_in_order :
    (∃ (c : Instr) (o : OrderIn) (k : Nat) (b : Bool) (s : State), orderRow c = some (o, k, b) ∧ (s.dev.st = .boot ∨ s.dev.cycling = false)) ∧
    (∃ (c : Instr) (o : OrderIn) (k : Nat) (b : Bool) (s : State), orderRow c = some (o, k, b) ∧ s.dev.st ≠ .boot ∧ s.dev.cycling = true ∧ s.dev.stateEp < s.epochOf o.stamp) ∧
    (∃ (c : Instr) (o : OrderIn) (k : Nat) (b : Bool) (s : State), orderRow c = some (o, k, b) ∧ s.dev.st ≠ .boot ∧ s.dev.cycling = true ∧ s.epochOf o.stamp ≤ s.dev.stateEp ∧ o.format = 1 ∧ o.crcOk = true ∧ o.target ≤ 2 ∧ s.authorised o k = true ∧ s.duplicate o = false) ∧
    (∃ (c : Instr) (o : OrderIn) (k : Nat) (b : Bool) (s : State), orderRow c = some (o, k, b) ∧ s.dev.st ≠ .boot ∧ s.dev.cycling = true ∧ s.epochOf o.stamp ≤ s.dev.stateEp ∧ o.format = 1 ∧ o.crcOk = true ∧ o.target ≤ 2 ∧ s.authorised o k = true ∧ s.duplicate o = false) ∧
    (∃ (c : Instr) (o : OrderIn) (k : Nat) (b : Bool) (s : State), orderRow c = some (o, k, b) ∧ s.dev.st ≠ .boot ∧ s.dev.cycling = true ∧ s.epochOf o.stamp ≤ s.dev.stateEp ∧ o.format = 1 ∧ o.crcOk = true ∧ o.target ≤ 2 ∧ s.authorised o k = true ∧ s.duplicate o = false) ∧
    (∃ (c : Instr) (o : OrderIn) (k : Nat) (b : Bool) (s : State), orderRow c = some (o, k, b) ∧ s.dev.st ≠ .boot ∧ s.dev.cycling = true ∧ s.epochOf o.stamp ≤ s.dev.stateEp ∧ o.format = 1 ∧ o.crcOk = true ∧ o.target ≤ 2 ∧ s.authorised o k = true ∧ s.duplicate o = false) ∧
    (∃ (c : Instr) (o : OrderIn) (k : Nat) (b : Bool) (s : State), orderRow c = some (o, k, b) ∧ s.dev.st ≠ .boot ∧ s.dev.cycling = true ∧ s.epochOf o.stamp ≤ s.dev.stateEp ∧ o.format = 1 ∧ o.crcOk = true ∧ o.target ≤ 2 ∧ s.authorised o k = true ∧ s.duplicate o = false) ∧
    (∃ (c : Instr) (o : OrderIn) (k : Nat) (b : Bool) (s : State), orderRow c = some (o, k, b) ∧ s.dev.st ≠ .boot ∧ s.dev.cycling = true ∧ s.epochOf o.stamp ≤ s.dev.stateEp ∧ o.format = 1 ∧ o.crcOk = true ∧ o.target ≤ 2 ∧ s.authorised o k = true ∧ s.duplicate o = false) :=
  ⟨⟨.safe (ord_ 1 4 []), ord_ 1 4 [], 0x11, false, W0, (by decide +kernel), (by decide +kernel)⟩,
   ⟨.safe { ord_ 1 4 [] with stamp := 100000001 }, { ord_ 1 4 [] with stamp := 100000001 }, 0x11, false, plant, (by decide +kernel), (by decide +kernel), (by decide +kernel), (by decide +kernel)⟩,
   ⟨.safe (ord_ 1 4 []), ord_ 1 4 [], 0x11, false, { plant with ord := { W0.ord with lastSeq := [(1, 5)] } }, (by decide +kernel), (by decide +kernel), (by decide +kernel), (by decide +kernel), (by decide +kernel), (by decide +kernel), (by decide +kernel), (by decide +kernel), (by decide +kernel)⟩,
   ⟨.safe (ord_ 1 4 []), ord_ 1 4 [], 0x11, false, { plant with twn := { W0.twn with ladleEp := 1 } }, (by decide +kernel), (by decide +kernel), (by decide +kernel), (by decide +kernel), (by decide +kernel), (by decide +kernel), (by decide +kernel), (by decide +kernel), (by decide +kernel)⟩,
   ⟨.safe { ord_ 1 4 [] with stateEp := 6 }, { ord_ 1 4 [] with stateEp := 6 }, 0x11, false, plant, (by decide +kernel), (by decide +kernel), (by decide +kernel), (by decide +kernel), (by decide +kernel), (by decide +kernel), (by decide +kernel), (by decide +kernel), (by decide +kernel)⟩,
   ⟨.safe (ord_ 1 4 []), ord_ 1 4 [], 0x11, false, { plant with ord := { W0.ord with counted := [(1, 8)] } }, (by decide +kernel), (by decide +kernel), (by decide +kernel), (by decide +kernel), (by decide +kernel), (by decide +kernel), (by decide +kernel), (by decide +kernel), (by decide +kernel)⟩,
   ⟨.setMode (ord_ 2 4 []), ord_ 2 4 [], 4, true, plant, (by decide +kernel), (by decide +kernel), (by decide +kernel), (by decide +kernel), (by decide +kernel), (by decide +kernel), (by decide +kernel), (by decide +kernel), (by decide +kernel)⟩,
   ⟨.safe { ord_ 1 4 [] with target := 2 }, { ord_ 1 4 [] with target := 2 }, 0x11, false, plant, (by decide +kernel), (by decide +kernel), (by decide +kernel), (by decide +kernel), (by decide +kernel), (by decide +kernel), (by decide +kernel), (by decide +kernel), (by decide +kernel)⟩⟩
/-- The premises of Obligations.AcceptedOrdersActAsTheirRowsSay are met. -/
theorem witness_accepted_orders_act_as_their_rows_say :
    (∃ (o : OrderIn) (d : Side) (s : State), s.Stands o 0x01 true ∧ s.namedSide o 0x01 = some d ∧ stateAccepts (s.sideStateOf d) 0x01 = true ∧ s.engageOk d = true ∧ (d ≠ s.pins.side ∨ s.ownState = 1)) ∧
    (∃ (o : OrderIn) (s : State), s.Stands o 0x02 true ∧ s.stateOk 0x02 = true ∧ s.someHolder = true ∧ s.targetOk o 0x02 = true) ∧
    (∃ (o : OrderIn) (s : State), s.Stands o 0x03 true ∧ s.stateOk 0x03 = true ∧ s.someHolder = true ∧ s.alone = false ∧ s.transferReady = true ∧ s.targetOk o 0x03 = true) ∧
    (∃ (o : OrderIn) (s : State), s.Stands o 0x04 true ∧ s.stateOk 0x04 = true ∧ s.modeReady (nthW o.args 0).toNat = true ∧ 1 ≤ (nthW o.args 0).toNat ∧ (nthW o.args 0).toNat ≤ 6 ∧ s.targetOk o 0x04 = true ∧ (∀ m, s.dev.ownNew = some m → s.modeDue m ≠ s.modeDue (nthW o.args 0).toNat)) ∧
    (∃ (o : OrderIn) (s : State), s.Stands o 0x04 true ∧ s.stateOk 0x04 = true ∧ s.modeReady (nthW o.args 0).toNat = true ∧ 1 ≤ (nthW o.args 0).toNat ∧ (nthW o.args 0).toNat ≤ 6 ∧ s.targetOk o 0x04 = true ∧ (∀ m, s.dev.ownNew = some m → s.modeDue m ≠ s.modeDue (nthW o.args 0).toNat)) ∧
    (∃ (o : OrderIn) (s : State), s.Stands o 0x05 true ∧ s.stateOk 0x05 = true ∧ (nthW o.args 2).toNat ≤ 359999 ∧ s.targetOk o 0x05 = true) ∧
    (∃ (o : OrderIn) (s : State) (a : Word) (b : Word) (c : Word) (d : Word) (v : Word), s.Stands o 0x06 true ∧ s.stateOk 0x06 = true ∧ o.args.take 5 = [a, b, c, d, v] ∧ v.toNat ≤ 3000 ∧ s.targetOk o 0x06 = true) ∧
    (∃ (o : OrderIn) (s : State) (w : Word) (a : Word) (b : Word) (c : Word), s.Stands o 0x07 true ∧ s.stateOk 0x07 = true ∧ o.args.take 4 = [w, a, b, c] ∧ s.followTargetOk w.toNat = true ∧ s.followArgOk w.toNat = true ∧ s.targetOk o 0x07 = true) ∧
    (∃ (o : OrderIn) (s : State) (w : Word) (a : Word) (b : Word) (c : Word), s.Stands o 0x07 true ∧ s.stateOk 0x07 = true ∧ o.args.take 4 = [w, a, b, c] ∧ s.followTargetOk w.toNat = true ∧ s.followArgOk w.toNat = true ∧ s.targetOk o 0x07 = true) ∧
    (∃ (o : OrderIn) (s : State) (a : Word) (b : Word) (c : Word), s.Stands o 0x08 true ∧ s.stateOk 0x08 = true ∧ o.args.take 3 = [a, b, c] ∧ a.toInt.natAbs ≤ 1000 ∧ b.toInt.natAbs ≤ 1000 ∧ c.toInt.natAbs ≤ 1000 ∧ s.targetOk o 0x08 = true) ∧
    (∃ (o : OrderIn) (s : State), s.Stands o 0x09 false ∧ s.stateOk 0x09 = true ∧ s.targetOk o 0x09 = true ∧ (s.dev.command = o.source ∨ s.ord.commandChanged = false)) ∧
    (∃ (o : OrderIn) (s : State), s.Stands o 0x09 false ∧ s.stateOk 0x09 = true ∧ s.targetOk o 0x09 = true ∧ (s.dev.command = o.source ∨ s.ord.commandChanged = false)) ∧
    (∃ (o : OrderIn) (s : State), s.Stands o 0x0A false ∧ s.stateOk 0x0A = true ∧ s.thrExists (nthW o.args 0).toNat = true ∧ (nthW o.args 1).toNat ≤ 1 ∧ ((nthW o.args 1).toNat = 1 → (s.thr (nthW o.args 0).toNat).ready = true) ∧ s.targetOk o 0x0A = true) ∧
    (∃ (o : OrderIn) (s : State), s.Stands o 0x0A false ∧ s.stateOk 0x0A = true ∧ s.thrExists (nthW o.args 0).toNat = true ∧ (nthW o.args 1).toNat ≤ 1 ∧ ((nthW o.args 1).toNat = 1 → (s.thr (nthW o.args 0).toNat).ready = true) ∧ s.targetOk o 0x0A = true) ∧
    (∃ (o : OrderIn) (s : State), s.Stands o 0x0A false ∧ s.stateOk 0x0A = true ∧ s.thrExists (nthW o.args 0).toNat = true ∧ (nthW o.args 1).toNat ≤ 1 ∧ ((nthW o.args 1).toNat = 1 → (s.thr (nthW o.args 0).toNat).ready = true) ∧ s.targetOk o 0x0A = true) ∧
    (∃ (o : OrderIn) (s : State), s.Stands o 0x0B false ∧ s.stateOk 0x0B = true ∧ s.slotUsed (nthW o.args 0).toNat = true ∧ (s.fslot (nthW o.args 0).toNat).st = 4 ∧ s.targetOk o 0x0B = true) ∧
    (∃ (o : OrderIn) (s : State), s.Stands o 0x0C false ∧ s.stateOk 0x0C = true ∧ s.tunableOk (nthW o.args 0) (nthW o.args 1) = true ∧ s.targetOk o 0x0C = true ∧ (nthW o.args 0).toNat ∉ s.ord.tunedThisCycle) ∧
    (∃ (o : OrderIn) (s : State), s.Stands o 0x0F false ∧ s.ownState = 1 ∧ s.noneActive = true ∧ s.targetOk o 0x0F = true) ∧
    (∃ (o : OrderIn) (s : State), s.Stands o 0x10 false ∧ s.ownState = 4 ∧ s.targetOk o 0x10 = true) ∧
    (∃ (o : OrderIn) (d : Side) (s : State), s.Stands o 0x11 false ∧ d = (s.namedSide o 0x11).getD s.pins.side ∧ stateAccepts (s.sideStateOf d) 0x11 = true ∧ (d = s.pins.side → s.stateOk 0x11 = true) ∧ s.targetOk o 0x11 = true) ∧
    (∃ (o : OrderIn) (d : Side) (s : State), s.Stands o 0x11 false ∧ d = (s.namedSide o 0x11).getD s.pins.side ∧ stateAccepts (s.sideStateOf d) 0x11 = true ∧ (d = s.pins.side → s.stateOk 0x11 = true) ∧ s.targetOk o 0x11 = true) ∧
    (∃ (o : OrderIn) (d : Side) (s : State), s.Stands o 0x12 false ∧ d = (s.namedSide o 0x12).getD s.pins.side ∧ stateAccepts (s.sideStateOf d) 0x12 = true ∧ (d = s.pins.side → s.stateOk 0x12 = true) ∧ s.tooHot d = false ∧ s.targetOk o 0x12 = true) ∧
    (∃ (o : OrderIn) (d : Side) (s : State), s.Stands o 0x12 false ∧ d = (s.namedSide o 0x12).getD s.pins.side ∧ stateAccepts (s.sideStateOf d) 0x12 = true ∧ (d = s.pins.side → s.stateOk 0x12 = true) ∧ s.tooHot d = false ∧ s.targetOk o 0x12 = true) :=
  ⟨⟨ord_ 1 4 [], .cope, navOk plant, (by unfold State.Stands; decide +kernel), (by decide +kernel), (by decide +kernel), (by decide +kernel), (by decide +kernel)⟩,
   ⟨ord_ 1 4 [], dev plant (fun d => { d with st := .active }), (by unfold State.Stands; decide +kernel), (by decide +kernel), (by decide +kernel), (by decide +kernel)⟩,
   ⟨{ ord_ 1 4 [] with target := 0 }, (let x := upd (par (dev plant (fun d => { d with st := .active })) [(0x0901, [1])]) [(F_TWN_STATUS_IN_STEP, 1), (F_TWN_STATUS_PEER_MET, 1)]; { x with twn := { x.twn with dragReport := [0#32, 0x100#32, 0#32, 0x200#32] } }), (by unfold State.Stands; decide +kernel), (by decide +kernel), (by decide +kernel), (by decide +kernel), (by decide +kernel), (by decide +kernel)⟩,
   ⟨ord_ 1 4 [1#32], navOk plant, (by unfold State.Stands; decide +kernel), (by decide +kernel), (by decide +kernel), (by decide +kernel), (by decide +kernel), (by decide +kernel), (fun m h => Bool.noConfusion (show false = true from congrArg Option.isSome h))⟩,
   ⟨ord_ 1 4 [6#32], plant, (by unfold State.Stands; decide +kernel), (by decide +kernel), (by decide +kernel), (by decide +kernel), (by decide +kernel), (by decide +kernel), (fun m h => Bool.noConfusion (show false = true from congrArg Option.isSome h))⟩,
   ⟨ord_ 1 4 [0xFFFFFFFF#32, 0x80000000#32, 359999#32], plant, (by unfold State.Stands; decide +kernel), (by decide +kernel), (by decide +kernel), (by decide +kernel)⟩,
   ⟨ord_ 1 4 [1#32, 2#32, 3#32, 4#32, 3000#32], plant, 1#32, 2#32, 3#32, 4#32, 3000#32, (by unfold State.Stands; decide +kernel), (by decide +kernel), (by decide +kernel), (by decide +kernel), (by decide +kernel)⟩,
   ⟨ord_ 1 4 [0x10005#32, 1#32, 2#32, 3#32], par plant [(0x0545, [10, 0, 0, 0])], 0x10005#32, 1#32, 2#32, 3#32, (by unfold State.Stands; decide +kernel), (by decide +kernel), (by decide +kernel), (by decide +kernel), (by decide +kernel), (by decide +kernel)⟩,
   ⟨ord_ 1 4 [21#32, 1#32, 2#32, 3#32], (let x := par plant [(0x0A0C, [20])]; { x with pat := { x.pat with sections := [10] }, elk := { x.elk with units := [(20, [])] } }), 21#32, 1#32, 2#32, 3#32, (by unfold State.Stands; decide +kernel), (by decide +kernel), (by decide +kernel), (by decide +kernel), (by decide +kernel), (by decide +kernel)⟩,
   ⟨ord_ 1 4 [1000#32, 0xFFFFFC18#32, 0#32], dev plant (fun d => { d with joyLost := true }), 1000#32, 0xFFFFFC18#32, 0#32, (by unfold State.Stands; decide +kernel), (by decide +kernel), (by decide +kernel), (by decide +kernel), (by decide +kernel), (by decide +kernel), (by decide +kernel)⟩,
   ⟨ord_ 1 4 [], dev plant (fun d => { d with command := 2 }), (by unfold State.Stands; decide +kernel), (by decide +kernel), (by decide +kernel), (by decide +kernel)⟩,
   ⟨ord_ 1 4 [], { plant with ord := { W0.ord with commandChanged := true } }, (by unfold State.Stands; decide +kernel), (by decide +kernel), (by decide +kernel), (by decide +kernel)⟩,
   ⟨ord_ 1 4 [1#32, 1#32], plant, (by unfold State.Stands; decide +kernel), (by decide +kernel), (by decide +kernel), (by decide +kernel), (by decide +kernel), (by decide +kernel)⟩,
   ⟨ord_ 2 4 [0#32, 0#32], alc plant (fun a => { a with thrs := [(0, { ready := false })] }), (by unfold State.Stands; decide +kernel), (by decide +kernel), (by decide +kernel), (by decide +kernel), (by decide +kernel), (by decide +kernel)⟩,
   ⟨ord_ 2 4 [1#32, 0#32], { plant with saf := { W0.saf with test := some ⟨2, 3, 1, 4, 5⟩, params := [(0x1042, [1, 1, 0].map toWord)] } }, (by unfold State.Stands; decide +kernel), (by decide +kernel), (by decide +kernel), (by decide +kernel), (by decide +kernel), (by decide +kernel)⟩,
   ⟨ord_ 2 4 [2#32], slots plant [(2, { st := 4 })], (by unfold State.Stands; decide +kernel), (by decide +kernel), (by decide +kernel), (by decide +kernel), (by decide +kernel)⟩,
   ⟨ord_ 2 4 [0x1203#32, 5#32], par plant [(0x1301, [0x1203, 0, 255, 255])], (by unfold State.Stands; decide +kernel), (by decide +kernel), (by decide +kernel), (by decide +kernel), (by decide +kernel)⟩,
   ⟨ord_ 2 4 [], plant, (by unfold State.Stands; decide +kernel), (by decide +kernel), (by decide +kernel), (by decide +kernel)⟩,
   ⟨ord_ 2 4 [], dev plant (fun d => { d with st := .parked }), (by unfold State.Stands; decide +kernel), (by decide +kernel), (by decide +kernel)⟩,
   ⟨ord_ 3 4 [], .cope, plant, (by unfold State.Stands; decide +kernel), (by decide +kernel), (by decide +kernel), (by decide +kernel), (by decide +kernel)⟩,
   ⟨{ ord_ 3 4 [] with target := 1 }, .cope, dev plant (fun d => { d with st := .active }), (by unfold State.Stands; decide +kernel), (by decide +kernel), (by decide +kernel), (by decide +kernel), (by decide +kernel)⟩,
   ⟨ord_ 3 4 [], .cope, dev plant (fun d => { d with st := .safe }), (by unfold State.Stands; decide +kernel), (by decide +kernel), (by decide +kernel), (by decide +kernel), (by decide +kernel), (by decide +kernel)⟩,
   ⟨{ ord_ 3 4 [] with target := 1 }, .cope, dev plant (fun d => { d with st := .active }), (by unfold State.Stands; decide +kernel), (by decide +kernel), (by decide +kernel), (by decide +kernel), (by decide +kernel), (by decide +kernel)⟩⟩
/-- The premises of Obligations.TestsAcknowledgementsAndOrderFramesAreTaken are met. -/
theorem witness_tests_acknowledgements_and_order_frames_are_taken :
    (∃ (o : OrderIn) (s : State), s.Stands o 0x0D false ∧ s.stateOk 0x0D = true ∧ s.someHolder = true ∧ s.brakeTestable (nthW o.args 1).toNat = true ∧ nthW o.args 0 = 1#32 ∧ (nthW o.args 1).toNat ≤ 7 ∧ 1 ≤ (nthW o.args 2).toNat ∧ (nthW o.args 2).toNat ≤ 10 ∧ (∀ w ∈ o.args.drop 3, w = 0#32) ∧ s.targetOk o 0x0D = true ∧ s.testRuns = false) ∧
    (∃ (o : OrderIn) (s : State), s.Sound ∧ s.Stands o 0x0D false ∧ s.stateOk 0x0D = true ∧ s.someHolder = true ∧ s.injectionReady (nthW o.args 1).toNat = true ∧ injectionArgs o.args = true ∧ s.injectionFits o.args = true ∧ s.targetOk o 0x0D = true ∧ s.testRuns = false) ∧
    (∃ (o : OrderIn) (s : State), s.Sound ∧ s.Stands o 0x0D false ∧ s.stateOk 0x0D = true ∧ s.someHolder = true ∧ s.injectionReady (nthW o.args 1).toNat = true ∧ injectionArgs o.args = true ∧ s.injectionFits o.args = true ∧ s.targetOk o 0x0D = true ∧ s.testRuns = false) ∧
    (∃ (o : OrderIn) (s : State), s.Stands o 0x0E false ∧ s.stateOk 0x0E = true ∧ s.targetOk o 0x0E = true) ∧
    (∃ (o : OrderIn) (s : State), s.Stands o 0x0E false ∧ s.stateOk 0x0E = true ∧ s.targetOk o 0x0E = true) ∧
    (∃ (o : OrderIn) (s : State), s.Stands o 0x0E false ∧ s.stateOk 0x0E = true ∧ s.targetOk o 0x0E = true) ∧
    (∃ (o : OrderIn) (s : State), s.Sound ∧ s.Stands o 0x13 false ∧ s.stateOk 0x13 = true ∧ s.targetOk o 0x13 = true ∧ (nthW o.args 0).toNat < 0xFFFF) ∧
    (∃ (o : OrderIn) (s : State), s.Sound ∧ s.Stands o 0x13 false ∧ s.stateOk 0x13 = true ∧ s.targetOk o 0x13 = true ∧ (nthW o.args 0).toNat < 0xFFFF) ∧
    (∃ (o : OrderIn) (s : State), s.Sound ∧ s.Stands o 0x13 false ∧ s.stateOk 0x13 = true ∧ s.targetOk o 0x13 = true ∧ (nthW o.args 0).toNat < 0xFFFF) ∧
    (∃ (o : OrderIn) (s : State), s.Sound ∧ s.Stands o 0x13 false ∧ s.stateOk 0x13 = true ∧ s.targetOk o 0x13 = true ∧ (nthW o.args 0).toNat = 0xFFFF) ∧
    (∃ (tr : Transport) (a : Word) (p : Nat) (f : List Word) (n : Nat) (s : State), s.dev.st ≠ .boot ∧ s.dev.cycling = true ∧ knownCode (orderCode f) = true ∧ s.tim.stepJump = none) ∧
    (∃ (tr : Transport) (a : Word) (p : Nat) (f : List Word) (n : Nat) (s : State), s.dev.st ≠ .boot ∧ s.dev.cycling = true ∧ knownCode (orderCode f) = true ∧ s.tim.stepJump = none) ∧
    (∃ (m : Nat) (k : Nat) (s : State), s.Sound ∧ s.MayAccess m (A_CTL_OMB_CTRL k) true ∧ s.flag (F_CTL_OMB_CTRL_PEND k) = false ∧ s.dev.st ≠ .boot ∧ s.dev.cycling = true ∧ knownCode (orderCode (s.regRun (A_CTL_OMB_BUF k 0) 16)) = true) ∧
    (∃ (m : Nat) (k : Nat) (s : State), s.MayAccess m (A_CTL_OMB_CTRL k) true ∧ s.flag (F_CTL_OMB_CTRL_PEND k) = true) :=
  ⟨⟨ord_ 1 4 [1#32, 0#32, 10#32, 0#32], (let x := dev plant (fun d => { d with st := .active }); { x with saf := { x.saf with params := [(0x1040, [1, 0, 0x100].map toWord)] } }), (by unfold State.Stands; decide +kernel), (by decide +kernel), (by decide +kernel), (by decide +kernel), (by decide +kernel), (by decide +kernel), (by decide +kernel), (by decide +kernel), list_all (by decide +kernel), (by decide +kernel), (by decide +kernel)⟩,
   ⟨ord_ 1 4 [2#32, 2#32, 0#32, 100000#32, 15#32, 250#32, 3600#32, 64#32, 0#32, 0#32], dev (dev plant (fun d => { d with st := .active })) (fun d => { d with mode := 6 }), sound_of (by decide +kernel), (by unfold State.Stands; decide +kernel), (by decide +kernel), (by decide +kernel), (by decide +kernel), (by decide +kernel), (by decide +kernel), (by decide +kernel), (by decide +kernel)⟩,
   ⟨ord_ 1 4 [2#32, 16#32, 1#32, 1#32, 1#32, 1#32, 1#32, 1#32, 0#32, 0#32], upd (dev (dev plant (fun d => { d with st := .active })) (fun d => { d with mode := 6 })) [(word32 A_CTL_TEST, 77)], sound_of (by decide +kernel), (by unfold State.Stands; decide +kernel), (by decide +kernel), (by decide +kernel), (by decide +kernel), (by decide +kernel), (by decide +kernel), (by decide +kernel), (by decide +kernel)⟩,
   ⟨ord_ 1 4 [], plant, (by unfold State.Stands; decide +kernel), (by decide +kernel), (by decide +kernel)⟩,
   ⟨ord_ 1 4 [], { plant with saf := { W0.saf with test := some ⟨2, 3, 1, 4, 5⟩ }, mram := { W0.mram with brakeAge := [(2, 9)] } }, (by unfold State.Stands; decide +kernel), (by decide +kernel), (by decide +kernel)⟩,
   ⟨ord_ 1 4 [], ctl plant (fun c => { c with inj := some ⟨0, 1, 2, 3, 4, 5, 6, 1, true, 8, 9, 10, none⟩ }), (by unfold State.Stands; decide +kernel), (by decide +kernel), (by decide +kernel)⟩,
   ⟨ord_ 1 4 [5#32], { plant with alarms := [⟨5, false, true⟩, ⟨6, false, true⟩] }, sound_of (by decide +kernel), (by unfold State.Stands; decide +kernel), (by decide +kernel), (by decide +kernel), (by decide +kernel)⟩,
   ⟨ord_ 1 4 [5#32], { plant with alarms := [⟨5, false, false⟩, ⟨6, false, true⟩] }, sound_of (by decide +kernel), (by unfold State.Stands; decide +kernel), (by decide +kernel), (by decide +kernel), (by decide +kernel)⟩,
   ⟨ord_ 1 4 [0xFFFE#32], plant, sound_of (by decide +kernel), (by unfold State.Stands; decide +kernel), (by decide +kernel), (by decide +kernel), (by decide +kernel)⟩,
   ⟨ord_ 1 4 [0xFFFF#32], { plant with alarms := [⟨5, false, true⟩, ⟨6, true, true⟩, ⟨7, false, false⟩] }, sound_of (by decide +kernel), (by unfold State.Stands; decide +kernel), (by decide +kernel), (by decide +kernel), (by decide +kernel)⟩,
   ⟨.udp, 1#32, 2, [0x130000#32, 0x12#32], 100000000, plant, (by decide +kernel), (by decide +kernel), (by decide +kernel), (by decide +kernel)⟩,
   ⟨.udp, 1#32, 2, [0x01120000#32, 0x12#32, 0x12#32], 100000001, twin, (by decide +kernel), (by decide +kernel), (by decide +kernel), (by decide +kernel)⟩,
   ⟨0, 2, twin.setReg (A_CTL_OMB_BUF 2 0) 0x10000#32, sound_of (by decide +kernel), may_of (by decide +kernel), (by decide +kernel), (by decide +kernel), (by decide +kernel), (by decide +kernel)⟩,
   ⟨0, 2, upd plant [(F_CTL_OMB_CTRL_PEND 2, 1)], may_of (by decide +kernel), (by decide +kernel)⟩⟩
/-- The premises of Obligations.TheSolverArrayTakesRunsAndEndsProblems are met. -/
theorem witness_the_solver_array_takes_runs_and_ends_problems :
    (∃ (m : Nat) (v : Word) (l : List (Nat × Word)) (s : State), s.Sound ∧ s.MayAccess m A_SLV_SUBMIT true ∧ s.slv.queue.length < 512) ∧
    (∃ (m : Nat) (v : Word) (l : List (Nat × Word)) (s : State), s.Sound ∧ s.MayAccess m A_SLV_SUBMIT true ∧ s.slv.queue.length < 512) ∧
    (∃ (m : Nat) (v : Word) (l : List (Nat × Word)) (s : State), s.Sound ∧ s.MayAccess m A_SLV_FILL true ∧ s.slv.queue.length < 512) ∧
    (∃ (m : Nat) (v : Word) (l : List (Nat × Word)) (s : State), s.Sound ∧ s.MayAccess m A_SLV_FILL true ∧ 512 ≤ s.slv.queue.length) ∧
    (∃ (a : Nat) (m : Nat) (k : Nat) (p : Nat) (d : List Word) (r : List SlvCmd) (s : State), s.Sound ∧ s.slv.queue = .submit a m :: r ∧ s.xchgRun a 16 = d ∧ bits (nthW d 0) 7 0 = k ∧ bits (nthW d 0) 15 8 = p) ∧
    (∃ (a : Nat) (m : Nat) (k : Nat) (p : Nat) (d : List Word) (r : List SlvCmd) (s : State), s.Sound ∧ s.slv.queue = .submit a m :: r ∧ s.xchgRun a 16 = d ∧ bits (nthW d 0) 7 0 = k ∧ bits (nthW d 0) 15 8 = p) ∧
    (∃ (a : Nat) (m : Nat) (k : Nat) (p : Nat) (d : List Word) (r : List SlvCmd) (s : State), s.Sound ∧ s.slv.queue = .submit a m :: r ∧ s.xchgRun a 16 = d ∧ bits (nthW d 0) 7 0 = k ∧ bits (nthW d 0) 15 8 = p) ∧
    (∃ (a : Nat) (m : Nat) (k : Nat) (p : Nat) (d : List Word) (r : List SlvCmd) (s : State), s.Sound ∧ s.slv.queue = .submit a m :: r ∧ s.xchgRun a 16 = d ∧ bits (nthW d 0) 7 0 = k ∧ bits (nthW d 0) 15 8 = p) ∧
    (∃ (a : Nat) (r : List SlvCmd) (s : State), s.Sound ∧ s.slv.queue = .fill a :: r ∧ s.fillOf a = none) ∧
    (∃ (a : Nat) (k : Nat) (l : List (Nat × Word)) (x : Mould) (r : List SlvCmd) (s : State), s.slv.queue = .fill a :: r ∧ s.fillOf a = some (k, l) ∧ s.mould? k = some x) ∧
    (∃ (a : Nat) (k : Nat) (l : List (Nat × Word)) (x : Mould) (r : List SlvCmd) (s : State), s.slv.queue = .fill a :: r ∧ s.fillOf a = some (k, l) ∧ s.mould? k = some x) ∧
    (∃ (a : Nat) (k : Nat) (l : List (Nat × Word)) (x : Mould) (r : List SlvCmd) (s : State), s.slv.queue = .fill a :: r ∧ s.fillOf a = some (k, l) ∧ s.mould? k = some x) ∧
    (∃ (a : Nat) (k : Nat) (l : List (Nat × Word)) (x : Mould) (r : List SlvCmd) (s : State), s.slv.queue = .fill a :: r ∧ s.fillOf a = some (k, l) ∧ s.mould? k = some x) ∧
    (∃ (k : Nat) (n : Nat) (r : List Nat) (l : List Nat) (s : State), s.slv.order = k :: r ∧ s.freeLanes = n :: l) ∧
    (∃ (k : Nat) (n : Nat) (r : LaneResult) (s : State), s.Sound ∧ (s.prob k).status = 2 ∧ r = s.runOf (s.prob k)) ∧
    (∃ (k : Nat) (n : Nat) (r : LaneResult) (s : State), s.Sound ∧ (s.prob k).status = 2 ∧ r = s.runOf (s.prob k)) ∧
    (∃ (k : Nat) (n : Nat) (n' : Nat) (s : State) (s' : State), (s.prob k).status = 2 ∧ (s'.prob k).status = 2 ∧ s.mould? (s.prob k).mould = s'.mould? (s'.prob k).mould ∧ (s.prob k).mats = (s'.prob k).mats ∧ (s.prob k).warm = (s'.prob k).warm ∧ (s.prob k).flags = (s'.prob k).flags ∧ aget [] s.slv.laneMem (s.prob k).lane = aget [] s'.slv.laneMem (s'.prob k).lane) ∧
    (∃ (k : Nat) (s : State), s.Sound ∧ (s.prob k).inFlight = true ∧ (s.prob k).nodl = false) ∧
    (∃ (n : Nat) (k : Nat) (s : State), s.Sound ∧ n ≤ 71 ∧ s.lane n ≠ 2 ∧ s.flying.find? (fun g => (s.prob g).status == 2 && (s.prob g).lane == n) = some k ∧ (s.prob k).restarted = false) ∧
    (∃ (n : Nat) (k : Nat) (s : State), s.Sound ∧ n ≤ 71 ∧ s.lane n ≠ 2 ∧ s.flying.find? (fun g => (s.prob g).status == 2 && (s.prob g).lane == n) = some k ∧ (s.prob k).restarted = true) ∧
    (∃ (n : Nat) (s : State), s.Sound ∧ n ≤ 71 ∧ s.lane n ≠ 2) ∧
    (∃ (n : Nat) (s : State), s.Sound ∧ n ≤ 71 ∧ s.lane n ≠ 2) :=
  ⟨⟨0, 0xFFFFFFFF#32, [(0, 5#32)], solv (fun c => c), sound_of (by decide +kernel), may_of (by decide +kernel), (by decide +kernel)⟩,
   ⟨0, 64#32, [], solv (fun c => { c with queue := List.replicate 511 (.fill 0) }), sound_of (by decide +kernel), may_of (by decide +kernel), (by decide +kernel)⟩,
   ⟨0, 0xFFFFFFFF#32, [(0, 5#32)], solv (fun c => c), sound_of (by decide +kernel), may_of (by decide +kernel), (by decide +kernel)⟩,
   ⟨0, 0xFFFFFFFF#32, [(0, 5#32)], solv (fun c => { c with queue := List.replicate 512 (.fill 0) }), sound_of (by decide +kernel), may_of (by decide +kernel), (by decide +kernel)⟩,
   ⟨128, 4, 5, 3, State.xchgRun (((solv (fun c => { c with queue := [.submit 128 4, .fill 0] })).place (xw 128 (sealW [0x305, 0, 64, 0, 1000000000, 0, 0, 0, 0, 0, 0, 0, 0, 0, 0])))) 128 16, [.fill 0], ((solv (fun c => { c with queue := [.submit 128 4, .fill 0] })).place (xw 128 (sealW [0x305, 0, 64, 0, 1000000000, 0, 0, 0, 0, 0, 0, 0, 0, 0, 0]))), sound_of (by decide +kernel), (by decide +kernel), (by decide +kernel), (by decide +kernel), (by decide +kernel)⟩,
   ⟨128, 4, 5, 3, State.xchgRun (((solv (fun c => { c with queue := [.submit 128 4, .fill 0] })).place (xw 128 ([0x305, 0, 64, 0, 0, 0, 0, 0, 0, 0, 0, 0, 0, 0, 0, 1])))) 128 16, [.fill 0], ((solv (fun c => { c with queue := [.submit 128 4, .fill 0] })).place (xw 128 ([0x305, 0, 64, 0, 0, 0, 0, 0, 0, 0, 0, 0, 0, 0, 0, 1]))), sound_of (by decide +kernel), (by decide +kernel), (by decide +kernel), (by decide +kernel), (by decide +kernel)⟩,
   ⟨128, 4, 5, 3, State.xchgRun (((solv (fun c => { c with queue := [.submit 128 4, .fill 0], probs := [(5, { status := 2 })], order := [1] })).place (xw 128 (sealW [0x305, 0, 64, 0, 1000000000, 0, 0, 0, 0, 0, 0, 0, 0, 0, 0])))) 128 16, [.fill 0], ((solv (fun c => { c with queue := [.submit 128 4, .fill 0], probs := [(5, { status := 2 })], order := [1] })).place (xw 128 (sealW [0x305, 0, 64, 0, 1000000000, 0, 0, 0, 0, 0, 0, 0, 0, 0, 0]))), sound_of (by decide +kernel), (by decide +kernel), (by decide +kernel), (by decide +kernel), (by decide +kernel)⟩,
   ⟨128, 4, 5, 3, State.xchgRun (((solv (fun c => { c with queue := [.submit 128 4, .fill 0], probs := [(6, { status := 2, mould := 3 })], moulds := [(3, { mould1 with staging := some [(0, 6#32)] })], order := [1] })).place (xw 128 (sealW [0x305, 0, 64, 0, 1000000000, 0, 0, 0, 0, 0, 0, 0, 0, 0, 0])))) 128 16, [.fill 0], ((solv (fun c => { c with queue := [.submit 128 4, .fill 0], probs := [(6, { status := 2, mould := 3 })], moulds := [(3, { mould1 with staging := some [(0, 6#32)] })], order := [1] })).place (xw 128 (sealW [0x305, 0, 64, 0, 1000000000, 0, 0, 0, 0, 0, 0, 0, 0, 0, 0]))), sound_of (by decide +kernel), (by decide +kernel), (by decide +kernel), (by decide +kernel), (by decide +kernel)⟩,
   ⟨0, [], solv (fun c => { c with queue := [.fill 0] }), sound_of (by decide +kernel), (by decide +kernel), (by decide +kernel)⟩,
   ⟨0, 3, [(32, cleanMantissa 9#32), (2, cleanMantissa 9#32)], mould1, [.fill 4], ((solv (fun c => { c with queue := [.fill 0, .fill 4] })).place (xw 0 [3 + 65536 * 2, (crcWords [toWord (3 + 65536 * 2), toWord (1 + 256 * 0 + 65536 * 2), 9#32]).toNat, 1 + 65536 * 2, 9])), (by decide +kernel), (by decide +kernel), (by decide +kernel)⟩,
   ⟨0, 3, [(32, cleanMantissa 9#32), (2, cleanMantissa 9#32)], mould1, [.fill 4], ((solv (fun c => { c with queue := [.fill 0, .fill 4], probs := [(5, { status := 2, mould := 3 })] })).place (xw 0 [3 + 65536 * 2, (crcWords [toWord (3 + 65536 * 2), toWord (1 + 256 * 0 + 65536 * 2), 9#32]).toNat, 1 + 65536 * 2, 9])), (by decide +kernel), (by decide +kernel), (by decide +kernel)⟩,
   ⟨0, 3, [(32, cleanMantissa 9#32), (2, cleanMantissa 9#32)], { mould1 with staging := some [] }, [.fill 4], ((solv (fun c => { c with queue := [.fill 0, .fill 4], moulds := [(3, { mould1 with staging := some [] })], probs := [(5, { status := 2, mould := 3 })] })).place (xw 0 [3 + 65536 * 2, (crcWords [toWord (3 + 65536 * 2), toWord (1 + 256 * 0 + 65536 * 2), 9#32]).toNat, 1 + 65536 * 2, 9])), (by decide +kernel), (by decide +kernel), (by decide +kernel)⟩,
   ⟨0, 3, [(32, cleanMantissa 9#32), (2, cleanMantissa 9#32)], { mould1 with copy := 1 }, [.fill 4], ((solv (fun c => { c with queue := [.fill 0, .fill 4], moulds := [(3, { mould1 with copy := 1 })], probs := [(5, { status := 2, mould := 3, copy := 1 }), (6, { status := 1, mould := 3 })] })).place (xw 0 [3 + 65536 * 2, (crcWords [toWord (3 + 65536 * 2), toWord (1 + 256 * 0 + 65536 * 2), 9#32]).toNat, 1 + 65536 * 2, 9])), (by decide +kernel), (by decide +kernel), (by decide +kernel)⟩,
   ⟨5, 0, [1], (solv (fun c => { c with order := [5, 1], probs := [(5, { status := 1, mould := 3 })] })).freeLanes.tail, solv (fun c => { c with order := [5, 1], probs := [(5, { status := 1, mould := 3 })] }), (by decide +kernel), (by decide +kernel)⟩,
   ⟨5, 77, State.runOf (solv (fun c => { c with order := [1], probs := [(5, { status := 2, mould := 3, resOfs := 64, flags := 8 })] })) { status := 2, mould := 3, resOfs := 64, flags := 8 }, solv (fun c => { c with order := [1], probs := [(5, { status := 2, mould := 3, resOfs := 64, flags := 8 })] }), sound_of (by decide +kernel), (by decide +kernel), (by decide +kernel)⟩,
   ⟨5, 0, State.runOf (solv (fun c => { c with probs := [(5, { status := 2, mould := 3, resOfs := 64 }), (6, { status := 1 })], laneMem := [(0, [7#32])] })) { status := 2, mould := 3, resOfs := 64 }, solv (fun c => { c with probs := [(5, { status := 2, mould := 3, resOfs := 64 }), (6, { status := 1 })], laneMem := [(0, [7#32])] }), sound_of (by decide +kernel), (by decide +kernel), (by decide +kernel)⟩,
   ⟨5, 77, 9, solv (fun c => { c with order := [1], probs := [(5, { status := 2, mould := 3, resOfs := 64, flags := 8 })] }), solv (fun c => { c with probs := [(5, { status := 2, mould := 3, resOfs := 128, flags := 8, lane := 6 })] }), (by decide +kernel), (by decide +kernel), (by decide +kernel), (by decide +kernel), (by decide +kernel), (by decide +kernel), (by decide +kernel)⟩,
   ⟨5, solv (fun c => { c with order := [1, 5], probs := [(5, { status := 1, mould := 3, resOfs := 64, deadline := 700000000 }), (6, { status := 1 })] }), sound_of (by decide +kernel), (by decide +kernel), (by decide +kernel)⟩,
   ⟨71, 5, solv (fun c => { c with order := [1], probs := [(5, { status := 2, lane := 71, mould := 3 })] }), sound_of (by decide +kernel), (by decide +kernel), (by decide +kernel), (by decide +kernel), (by decide +kernel)⟩,
   ⟨0, 5, solv (fun c => { c with order := [1], probs := [(5, { status := 2, lane := 0, mould := 3, restarted := true })] }), sound_of (by decide +kernel), (by decide +kernel), (by decide +kernel), (by decide +kernel), (by decide +kernel)⟩,
   ⟨71, solv (fun c => c), sound_of (by decide +kernel), (by decide +kernel), (by decide +kernel)⟩,
   ⟨0, (let x := plant; { x with hlt := { x.hlt with eccCorr := 4294967295 } }), sound_of (by decide +kernel), (by decide +kernel), (by decide +kernel)⟩⟩
/-- The premises of Obligations.TheTwinLinkFailsRetriesAndRetransmits are met. -/
theorem witness_the_twin_link_fails_retries_and_retransmits :
    (∃ (n : Nat) (s : State), s.Sound ∧ s.twinOn = true ∧ n < 2 ∧ s.flag (bitAt A_TWN_STATUS (10 + n)) = true) ∧
    (∃ (n : Nat) (s : State), s.Sound ∧ s.twinOn = true ∧ n < 2 ∧ s.flag (bitAt A_TWN_STATUS (10 + n)) = true) ∧
    (∃ (n : Nat) (e : Nat) (s : State), afind s.twn.laneLost n = some e) ∧
    (∃ (n : Nat) (s : State), s.Sound ∧ s.twinOn = true ∧ n < 2) ∧
    (∃ (n : Nat) (s : State), s.Sound ∧ s.twinOn = true ∧ n < 2) ∧
    (∃ (e : Nat) (s : State), s.Sound ∧ s.twinOn = true ∧ s.linkUp = false ∧ s.twn.downSince = some e) ∧
    (∃ (e : Nat) (s : State), s.Sound ∧ s.twinOn = true ∧ s.linkUp = false ∧ s.twn.downSince = some e) ∧
    (∃ (v : Nat) (f : Nat) (l : List TwinFrame) (s : State), s.Sound ∧ s.twinOn = true ∧ s.linkUp = true ∧ l = s.twn.link.held.filter (fun g => g.vc == v && !g.acked v ((f + 65535) % 65536))) ∧
    (∃ (v : Nat) (f : Nat) (l : List TwinFrame) (s : State), s.Sound ∧ s.twinOn = true ∧ s.linkUp = true ∧ l = s.twn.link.held.filter (fun g => g.vc == v && !g.acked v ((f + 65535) % 65536))) ∧
    (∃ (v : Nat) (f : Nat) (l : List TwinFrame) (s : State), s.Sound ∧ s.twinOn = true ∧ s.linkUp = true ∧ l = s.twn.link.held.filter (fun g => g.vc == v && !g.acked v ((f + 65535) % 65536))) ∧
    (∃ (v : Nat) (f : Nat) (l : List TwinFrame) (s : State), s.Sound ∧ s.twinOn = true ∧ s.linkUp = true ∧ l = s.twn.link.held.filter (fun g => g.vc == v && !g.acked v ((f + 65535) % 65536))) ∧
    (∃ (v : Nat) (f : Nat) (s : State), (s.twinOn = false ∨ s.linkUp = false)) :=
  ⟨⟨1, twin, sound_of (by decide +kernel), (by decide +kernel), (by decide +kernel), (by decide +kernel)⟩,
   ⟨0, upd twin [(F_TWN_STATUS_LANES, 3)], sound_of (by decide +kernel), (by decide +kernel), (by decide +kernel), (by decide +kernel)⟩,
   ⟨0, 5, tw twin (fun t => { t with laneLost := [(1, 4), (0, 5)] }), (by decide +kernel)⟩,
   ⟨0, { twin with alarms := [⟨0x0401, true, true⟩, ⟨0x0402, false, true⟩] }, sound_of (by decide +kernel), (by decide +kernel), (by decide +kernel)⟩,
   ⟨1, tw (upd (par (armed W0) [(0x0901, [1])]) []) (fun t => { t with laneLost := [(1, 4)] }), sound_of (by decide +kernel), (by decide +kernel), (by decide +kernel)⟩,
   ⟨5, tw (upd twin [(F_TWN_STATUS_LANES, 0)]) (fun t => { t with requested := true, joining := some 4, downSince := some 5 }), sound_of (by decide +kernel), (by decide +kernel), (by decide +kernel), (by decide +kernel)⟩,
   ⟨0, par (armed W0) [(0x0901, [1])], sound_of (by decide +kernel), (by decide +kernel), (by decide +kernel), (by decide +kernel)⟩,
   ⟨1, 4, [⟨1, 4, 2, .close, [5]⟩, ⟨1, 5, 3, .agree, [6, 7]⟩], tw twin (fun t => { t with link := { t.link with held := [⟨1, 4, 2, .close, [5]⟩, ⟨0, 9, 2, .syncReq, []⟩, ⟨1, 5, 3, .agree, [6, 7]⟩, ⟨1, 3, 3, .hello, [6, 7]⟩] } }), sound_of (by decide +kernel), (by decide +kernel), (by decide +kernel), (by decide +kernel)⟩,
   ⟨1, 5, [⟨1, 5, 3, .agree, [6, 7]⟩], upd (tw twin (fun t => { t with link := { t.link with held := [⟨1, 4, 2, .close, [5]⟩, ⟨0, 9, 2, .syncReq, []⟩, ⟨1, 5, 3, .agree, [6, 7]⟩, ⟨1, 3, 3, .hello, [6, 7]⟩] } })) [(word32 A_TWN_CNT_RETX, 4294967295)], sound_of (by decide +kernel), (by decide +kernel), (by decide +kernel), (by decide +kernel)⟩,
   ⟨1, 3, [⟨1, 4, 2, .close, [5]⟩, ⟨1, 5, 3, .agree, [6, 7]⟩, ⟨1, 3, 3, .hello, [6, 7]⟩], tw twin (fun t => { t with link := { t.link with held := [⟨1, 4, 2, .close, [5]⟩, ⟨0, 9, 2, .syncReq, []⟩, ⟨1, 5, 3, .agree, [6, 7]⟩, ⟨1, 3, 3, .hello, [6, 7]⟩] } }), sound_of (by decide +kernel), (by decide +kernel), (by decide +kernel), (by decide +kernel)⟩,
   ⟨2, 3, [], twin, sound_of (by decide +kernel), (by decide +kernel), (by decide +kernel), (by decide +kernel)⟩,
   ⟨1, 5, armed W0, (by decide +kernel)⟩⟩
/-- The premises of Obligations.TheTwinsMeetAndStartTogether are met. -/
theorem witness_the_twins_meet_and_start_together :
    (∃ (n : Nat) (s : State), s.twinOn = true ∧ s.linkUp = true ∧ s.peerMet = false) ∧
    (∃ (n : Nat) (s : State), s.twinOn = true ∧ s.linkUp = true ∧ s.peerMet = false) ∧
    (∃ (n : Nat) (s : State), s.peerMet = true) ∧
    (∃ (g : TwinHeader) (h : Hello) (s : State), s.takesFrame 2 g = true ∧ s.twn.link.queue = [] ∧ s.boot.waitingTwin = false ∧ s.twn.answered = true) ∧
    (∃ (g : TwinHeader) (h : Hello) (s : State), s.takesFrame 2 g = true ∧ s.twn.link.queue = [] ∧ s.boot.waitingTwin = false ∧ s.twn.answered = false) ∧
    (∃ (g : TwinHeader) (h : Hello) (s : State), s.Sound ∧ s.takesFrame 2 g = true ∧ s.boot.waitingTwin = true ∧ s.peerMet = true ∧ s.twn.answered = true ∧ (s.split = true ∨ h.state = 1 ∨ h.state = 2 ∨ h.state = 3)) ∧
    (∃ (g : TwinHeader) (h : Hello) (s : State), s.Sound ∧ s.takesFrame 2 g = true ∧ s.boot.waitingTwin = true ∧ s.peerMet = true ∧ s.twn.answered = true ∧ (s.split = true ∨ h.state = 1 ∨ h.state = 2 ∨ h.state = 3)) ∧
    (∃ (g : TwinHeader) (h : Hello) (s : State), s.Sound ∧ s.takesFrame 2 g = true ∧ s.boot.waitingTwin = true ∧ s.peerMet = true ∧ s.twn.answered = true ∧ (s.split = true ∨ h.state = 1 ∨ h.state = 2 ∨ h.state = 3)) ∧
    (∃ (g : TwinHeader) (q : List Byte) (v : List Signed) (h : Hello) (s : State), s.Sound ∧ s.takesFrame 2 g = true ∧ s.twn.peer = some h ∧ v.contains (s.authCheck h q) = true ∧ h.serial = s.peerSerial ∧ h.side = otherSide s.pins.side) ∧
    (∃ (g : TwinHeader) (q : List Byte) (v : List Signed) (h : Hello) (s : State), s.Sound ∧ s.takesFrame 2 g = true ∧ s.twn.peer = some h ∧ v.contains (s.authCheck h q) = true ∧ h.serial = s.peerSerial ∧ h.side = otherSide s.pins.side) ∧
    (∃ (g : TwinHeader) (q : List Byte) (v : List Signed) (h : Hello) (s : State), s.Sound ∧ s.takesFrame 2 g = true ∧ s.twn.peer = some h ∧ v.contains (s.authCheck h q) = true ∧ h.serial = s.peerSerial ∧ h.side = otherSide s.pins.side) ∧
    (∃ (g : TwinHeader) (q : List Byte) (v : List Signed) (h : Hello) (s : State), s.takesFrame 2 g = true ∧ s.twn.link.queue = [] ∧ s.twn.peer = some h ∧ (v.contains (s.authCheck h q) = false ∨ h.serial ≠ s.peerSerial ∨ h.side ≠ otherSide s.pins.side)) ∧
    (∃ (g : TwinHeader) (q : List Byte) (v : List Signed) (h : Hello) (s : State), s.takesFrame 2 g = true ∧ s.twn.link.queue = [] ∧ s.twn.peer = some h ∧ (v.contains (s.authCheck h q) = false ∨ h.serial ≠ s.peerSerial ∨ h.side ≠ otherSide s.pins.side)) ∧
    (∃ (g : TwinHeader) (f : Nat) (e : Nat) (s : State), s.takesFrame 2 g = true ∧ s.boot.waitingTwin = true ∧ s.peerMet = true ∧ s.split = false ∧ s.pins.side = .drag) ∧
    (∃ (g : TwinHeader) (f : Nat) (e : Nat) (s : State), s.takesFrame 2 g = true ∧ s.boot.waitingTwin = true ∧ s.peerMet = true ∧ s.split = false ∧ s.pins.side = .drag) ∧
    (∃ (g : TwinHeader) (f : Nat) (e : Nat) (s : State), s.takesFrame 2 g = true ∧ s.twn.link.queue = [] ∧ s.pins.side = .cope) :=
  ⟨⟨77, upd twin [(F_TWN_STATUS_PEER_MET, 0)], (by decide +kernel), (by decide +kernel), (by decide +kernel)⟩,
   ⟨77, tw (upd twin [(F_TWN_STATUS_PEER_MET, 0)]) (fun t => { t with helloAt := some 50 }), (by decide +kernel), (by decide +kernel), (by decide +kernel)⟩,
   ⟨77, twin, (by decide +kernel)⟩,
   ⟨th 0, ⟨0, .drag, [0#32, 0#32, 0#32, 0#32], 4, 0, 1, 12, 7, 9, 33⟩, tw twin (fun t => { t with answered := true }), (by decide +kernel), (by decide +kernel), (by decide +kernel), (by decide +kernel)⟩,
   ⟨th 0, ⟨0, .drag, [0#32, 0#32, 0#32, 0#32], 4, 0, 1, 12, 7, 9, 33⟩, tw twin (fun t => { t with ownNonce := 8 }), (by decide +kernel), (by decide +kernel), (by decide +kernel), (by decide +kernel)⟩,
   ⟨th 0, ⟨0, .drag, [0#32, 0#32, 0#32, 0#32], 4, 0, 1, 12, 7, 9, 33⟩, tw waiting (fun t => { t with answered := true }), sound_of (by decide +kernel), (by decide +kernel), (by decide +kernel), (by decide +kernel), (by decide +kernel), (by decide +kernel)⟩,
   ⟨th 0, ⟨0, .drag, [0#32, 0#32, 0#32, 0#32], 4, 0, 3, 12, 7, 9, 33⟩, tw waiting (fun t => { t with answered := true }), sound_of (by decide +kernel), (by decide +kernel), (by decide +kernel), (by decide +kernel), (by decide +kernel), (by decide +kernel)⟩,
   ⟨th 0, ⟨0, .drag, [0#32, 0#32, 0#32, 0#32], 4, 0, 4, 12, 7, 9, 33⟩, tw (upd waiting [(F_TWN_STATUS_SPLIT, 1)]) (fun t => { t with answered := true }), sound_of (by decide +kernel), (by decide +kernel), (by decide +kernel), (by decide +kernel), (by decide +kernel), (by decide +kernel)⟩,
   ⟨th 0, [3#8], [State.authCheck (tw (upd twin [(F_TWN_STATUS_PEER_MET, 0)]) (fun t => { t with peer := some ⟨0, .drag, [0#32, 0#32, 0#32, 0#32], 4, 0, 1, 12, 7, 9, 33⟩ })) ⟨0, .drag, [0#32, 0#32, 0#32, 0#32], 4, 0, 1, 12, 7, 9, 33⟩ [3#8]], ⟨0, .drag, [0#32, 0#32, 0#32, 0#32], 4, 0, 1, 12, 7, 9, 33⟩, tw (upd twin [(F_TWN_STATUS_PEER_MET, 0)]) (fun t => { t with peer := some ⟨0, .drag, [0#32, 0#32, 0#32, 0#32], 4, 0, 1, 12, 7, 9, 33⟩ }), sound_of (by decide +kernel), (by decide +kernel), (by decide +kernel), (by decide +kernel), (by decide +kernel), (by decide +kernel)⟩,
   ⟨th 0, [3#8], [State.authCheck (tw (upd twin [(F_TWN_STATUS_PEER_MET, 0)]) (fun t => { t with peer := some ⟨0, .drag, [1#32, 0#32, 0#32, 0#32], 4, 0, 4, 12, 7, 9, 33⟩ })) ⟨0, .drag, [1#32, 0#32, 0#32, 0#32], 4, 0, 4, 12, 7, 9, 33⟩ [3#8]], ⟨0, .drag, [1#32, 0#32, 0#32, 0#32], 4, 0, 4, 12, 7, 9, 33⟩, tw (upd twin [(F_TWN_STATUS_PEER_MET, 0)]) (fun t => { t with peer := some ⟨0, .drag, [1#32, 0#32, 0#32, 0#32], 4, 0, 4, 12, 7, 9, 33⟩ }), sound_of (by decide +kernel), (by decide +kernel), (by decide +kernel), (by decide +kernel), (by decide +kernel), (by decide +kernel)⟩,
   ⟨th 0, [3#8], [State.authCheck (tw (upd waiting [(F_TWN_STATUS_PEER_MET, 0)]) (fun t => { t with peer := some ⟨0, .drag, [0#32, 0#32, 0#32, 0#32], 4, 0, 1, 12, 7, 9, 33⟩ })) ⟨0, .drag, [0#32, 0#32, 0#32, 0#32], 4, 0, 1, 12, 7, 9, 33⟩ [3#8]], ⟨0, .drag, [0#32, 0#32, 0#32, 0#32], 4, 0, 1, 12, 7, 9, 33⟩, tw (upd waiting [(F_TWN_STATUS_PEER_MET, 0)]) (fun t => { t with peer := some ⟨0, .drag, [0#32, 0#32, 0#32, 0#32], 4, 0, 1, 12, 7, 9, 33⟩ }), sound_of (by decide +kernel), (by decide +kernel), (by decide +kernel), (by decide +kernel), (by decide +kernel), (by decide +kernel)⟩,
   ⟨th 0, [3#8], [], ⟨0, .drag, [0#32, 0#32, 0#32, 0#32], 4, 0, 1, 12, 7, 9, 33⟩, tw (upd twin [(F_TWN_STATUS_PEER_MET, 0)]) (fun t => { t with peer := some ⟨0, .drag, [0#32, 0#32, 0#32, 0#32], 4, 0, 1, 12, 7, 9, 33⟩ }), (by decide +kernel), (by decide +kernel), (by decide +kernel), (by decide +kernel)⟩,
   ⟨th 0, [3#8], [State.authCheck (tw (upd twin [(F_TWN_STATUS_PEER_MET, 0)]) (fun t => { t with peer := some ⟨1, .drag, [1#32, 0#32, 0#32, 0#32], 4, 0, 4, 12, 7, 9, 33⟩ })) ⟨1, .drag, [1#32, 0#32, 0#32, 0#32], 4, 0, 4, 12, 7, 9, 33⟩ [3#8]], ⟨1, .drag, [1#32, 0#32, 0#32, 0#32], 4, 0, 4, 12, 7, 9, 33⟩, tw (upd twin [(F_TWN_STATUS_PEER_MET, 0)]) (fun t => { t with peer := some ⟨1, .drag, [1#32, 0#32, 0#32, 0#32], 4, 0, 4, 12, 7, 9, 33⟩ }), (by decide +kernel), (by decide +kernel), (by decide +kernel), (by decide +kernel)⟩,
   ⟨th 0, 400000000, 1, tw { waiting with pins := { W0.pins with side := .drag } } (fun t => { t with peer := some ⟨0, .drag, [0#32, 0#32, 0#32, 0#32], 4, 0, 1, 12, 7, 9, 33⟩, ladleEp := 3 }), (by decide +kernel), (by decide +kernel), (by decide +kernel), (by decide +kernel), (by decide +kernel)⟩,
   ⟨th 0, 400000000, 9, tw { waiting with pins := { W0.pins with side := .drag } } (fun t => { t with peer := some ⟨0, .drag, [0#32, 0#32, 0#32, 0#32], 4, 0, 1, 12, 7, 9, 33⟩, ladleEp := 10 }), (by decide +kernel), (by decide +kernel), (by decide +kernel), (by decide +kernel), (by decide +kernel)⟩,
   ⟨th 0, 4, 1, waiting, (by decide +kernel), (by decide +kernel), (by decide +kernel)⟩⟩
/-- The premises of Obligations.TheLeaseIsRenewedAnsweredAndLost are met. -/
theorem witness_the_lease_is_renewed_answered_and_lost :
    (∃ (s : State), s.mayRenew = false) ∧
    (∃ (s : State), s.Sound ∧ s.mayRenew = true) ∧
    (∃ (s : State), s.Sound ∧ s.mayRenew = true) ∧
    (∃ (s : State), s.Sound ∧ s.mayRenew = true) ∧
    (∃ (p : Path) (e : Nat) (n : Nat) (a : Nat) (s : State), s.Sound ∧ s.hearsOn p = true ∧ s.twinOn = true ∧ s.holds = false ∧ s.twn.ladleEp ≤ e) ∧
    (∃ (p : Path) (e : Nat) (n : Nat) (a : Nat) (s : State), s.Sound ∧ s.hearsOn p = true ∧ s.twinOn = true ∧ s.holds = false ∧ s.twn.ladleEp ≤ e) ∧
    (∃ (p : Path) (e : Nat) (n : Nat) (a : Nat) (s : State), s.Sound ∧ s.hearsOn p = true ∧ s.twinOn = true ∧ s.holds = true ∧ s.twn.ladleEp < e) ∧
    (∃ (p : Path) (e : Nat) (n : Nat) (a : Nat) (d : Side) (s : State), s.hearsOn p = true ∧ (e < s.twn.ladleEp ∨ d = s.pins.side)) ∧
    (∃ (p : Path) (e : Nat) (n : Nat) (a : Nat) (d : Side) (s : State), s.hearsOn p = true ∧ (e < s.twn.ladleEp ∨ d = s.pins.side)) ∧
    (∃ (p : Path) (a : Nat) (b : Nat) (s : State), s.Sound ∧ s.hearsOn p = true ∧ s.twn.renewSentAt = some b ∧ s.mayRenew = true ∧ a ≤ b + 2 * ms) ∧
    (∃ (p : Path) (a : Nat) (b : Nat) (s : State), s.Sound ∧ s.hearsOn p = true ∧ s.twn.renewSentAt = some b ∧ s.mayRenew = true ∧ a ≤ b + 2 * ms) ∧
    (∃ (p : Path) (a : Nat) (b : Nat) (s : State), s.hearsOn p = true ∧ s.twn.renewSentAt = some b ∧ b + 2 * ms < a) ∧
    (∃ (e : Nat) (s : State), s.Sound ∧ s.saf.leaseFrom = some e) ∧
    (∃ (e : Nat) (s : State), s.Sound ∧ s.saf.leaseFrom = some e) ∧
    (∃ (e : Nat) (s : State), s.twn.renewRxAt = some e ∧ s.twinOn = true ∧ s.holds = false) ∧
    (∃ (g : TwinHeader) (e : Nat) (s : State), s.Sound ∧ s.takesFrame 3 g = true ∧ s.dev.st = .armed ∧ s.inSafe = false ∧ s.twn.ladleEp < e) ∧
    (∃ (g : TwinHeader) (e : Nat) (s : State), s.takesFrame 3 g = true ∧ s.twn.link.queue = [] ∧ (e ≤ s.twn.ladleEp ∨ s.holds = true)) ∧
    (∃ (g : TwinHeader) (e : Nat) (s : State), s.takesFrame 3 g = true ∧ s.twn.link.queue = [] ∧ (e ≤ s.twn.ladleEp ∨ s.holds = true)) ∧
    (∃ (g : TwinHeader) (e : Nat) (s : State), s.takesFrame 3 g = true ∧ s.twn.link.queue = [] ∧ s.holds = false ∧ s.twn.ladleEp < e ∧ (s.dev.st ≠ .armed ∨ s.inSafe = true)) :=
  ⟨⟨twin, (by decide +kernel)⟩,
   ⟨holder, sound_of (by decide +kernel), (by decide +kernel)⟩,
   ⟨{ tw holder (fun t => { t with peerMissing := 0, ackTwin := true }) with tim := { W0.tim with wt := 18000000 } }, sound_of (by decide +kernel), (by decide +kernel)⟩,
   ⟨{ upd (dev (armed W0) (fun d => { d with st := .active })) [(F_SAF_STATUS_SAFE, 0)] with tim := { W0.tim with wt := 18000001 } }, sound_of (by decide +kernel), (by decide +kernel)⟩,
   ⟨.twin (th 0), 0, 3, 5, twin, sound_of (by decide +kernel), (by decide +kernel), (by decide +kernel), (by decide +kernel), (by decide +kernel)⟩,
   ⟨.lanA, 4, 3, 5, tw twin (fun t => { t with takeOver := true, ladleEp := 3 }), sound_of (by decide +kernel), (by decide +kernel), (by decide +kernel), (by decide +kernel), (by decide +kernel)⟩,
   ⟨.twin (th 0), 1, 3, 5, saf holder (fun x => { x with leaseFrom := some 4 }), sound_of (by decide +kernel), (by decide +kernel), (by decide +kernel), (by decide +kernel), (by decide +kernel)⟩,
   ⟨.twin (th 0), 1, 3, 5, .drag, tw holder (fun t => { t with ladleEp := 2 }), (by decide +kernel), (by decide +kernel)⟩,
   ⟨.lanB, 9, 3, 5, .cope, tw holder (fun t => { t with ladleEp := 2 }), (by decide +kernel), (by decide +kernel)⟩,
   ⟨.lanB, 2000077, 77, tw holder (fun t => { t with renewSentAt := some 77 }), sound_of (by decide +kernel), (by decide +kernel), (by decide +kernel), (by decide +kernel), (by decide +kernel)⟩,
   ⟨.twin (th 0), 77, 77, tw holder (fun t => { t with renewSentAt := some 77 }), sound_of (by decide +kernel), (by decide +kernel), (by decide +kernel), (by decide +kernel), (by decide +kernel)⟩,
   ⟨.twin (th 0), 2000078, 77, tw holder (fun t => { t with renewSentAt := some 77 }), (by decide +kernel), (by decide +kernel), (by decide +kernel)⟩,
   ⟨4, saf holder (fun x => { x with leaseFrom := some 4 }), sound_of (by decide +kernel), (by decide +kernel)⟩,
   ⟨4, saf twin (fun x => { x with leaseFrom := some 4 }), sound_of (by decide +kernel), (by decide +kernel)⟩,
   ⟨4, tw twin (fun t => { t with renewRxAt := some 4 }), (by decide +kernel), (by decide +kernel), (by decide +kernel)⟩,
   ⟨th 0, 1, upd twin [(F_SAF_STATUS_SAFE, 0)], sound_of (by decide +kernel), (by decide +kernel), (by decide +kernel), (by decide +kernel), (by decide +kernel)⟩,
   ⟨th 0, 0, twin, (by decide +kernel), (by decide +kernel), (by decide +kernel)⟩,
   ⟨th 0, 9, holder, (by decide +kernel), (by decide +kernel), (by decide +kernel)⟩,
   ⟨th 0, 9, twin, (by decide +kernel), (by decide +kernel), (by decide +kernel), (by decide +kernel), (by decide +kernel)⟩⟩
/-- The premises of Obligations.ACopyBringsADeviceIntoStep are met. -/
theorem witness_a_copy_brings_a_device_into_step :
    (∃ (g : TwinHeader) (s : State), s.Sound ∧ s.takesFrame 2 g = true ∧ s.twn.link.queue = [] ∧ s.peerMet = true ∧ s.split = false ∧ s.fullCycle = true) ∧
    (∃ (g : TwinHeader) (s : State), s.Sound ∧ s.takesFrame 2 g = true ∧ s.twn.link.queue = [] ∧ s.peerMet = true ∧ s.split = false ∧ s.fullCycle = true) ∧
    (∃ (g : TwinHeader) (s : State), s.takesFrame 2 g = true ∧ s.twn.link.queue = [] ∧ s.fullCycle = false) ∧
    (∃ (g : TwinHeader) (c : TwinChunk) (s : State), s.takesFrame 0 g = true ∧ s.twn.link.queue = [] ∧ (s.twn.requested = false ∨ s.inStep = true)) ∧
    (∃ (g : TwinHeader) (c : TwinChunk) (s : State), s.takesFrame 0 g = true ∧ s.twn.link.queue = [] ∧ (s.twn.requested = false ∨ s.inStep = true)) ∧
    (∃ (g : TwinHeader) (e : Nat) (l : Nat) (s : State), s.Copies g) ∧
    (∃ (g : TwinHeader) (m : Nat) (new : Option Nat) (own : Option Nat) (sp : List Int) (joy : List Int) (tr : Option (List Int)) (fo : Option (List Int)) (b : Bool) (s : State), s.Copies g) ∧
    (∃ (g : TwinHeader) (src : Nat) (seqs : List (Nat × Nat)) (r : List (Nat × List Word)) (k : List Nat) (av : List (Nat × Bool)) (s : State), s.Copies g) ∧
    (∃ (g : TwinHeader) (v : List (Nat × Word)) (n : List (Nat × Word)) (s : State), s.Copies g) ∧
    (∃ (g : TwinHeader) (b : Nat) (c : Ctl) (s : State), s.Copies g) ∧
    (∃ (g : TwinHeader) (b : Nat) (f : Fus) (a : Alc) (s : State), s.Copies g) ∧
    (∃ (g : TwinHeader) (k : Nat) (l : List (Nat × Word)) (m : Mould) (s : State), s.Copies g ∧ s.mould? k = some m) ∧
    (∃ (g : TwinHeader) (r : List Word) (s : State), s.Copies g) ∧
    (∃ (g : TwinHeader) (e : Nat) (s : State), s.Copies g) ∧
    (∃ (g : TwinHeader) (e : Nat) (s : State), s.Sound ∧ s.Copies g) ∧
    (∃ (e : Nat) (s : State), s.Sound ∧ s.twn.copyDueBy = some e) :=
  ⟨⟨th 0, twin, sound_of (by decide +kernel), (by decide +kernel), (by decide +kernel), (by decide +kernel), (by decide +kernel), (by decide +kernel)⟩,
   ⟨th 0, tw twin (fun t => { t with joining := some 5, requested := true }), sound_of (by decide +kernel), (by decide +kernel), (by decide +kernel), (by decide +kernel), (by decide +kernel), (by decide +kernel)⟩,
   ⟨th 0, upd (par (bootd W0) [(0x0901, [1])]) [(F_TWN_STATUS_IN_STEP, 1), (F_TWN_STATUS_PEER_MET, 1), (F_TWN_STATUS_LANES, 2)], (by decide +kernel), (by decide +kernel), (by decide +kernel)⟩,
   ⟨th 0, .epochs 4 5, twin, (by decide +kernel), (by decide +kernel), (by decide +kernel)⟩,
   ⟨th 0, .epochs 4 5, tw twin (fun t => { t with requested := true }), (by decide +kernel), (by decide +kernel), (by decide +kernel)⟩,
   ⟨th 0, 77, 5, copying, (by unfold State.Copies; decide +kernel)⟩,
   ⟨th 0, 3, some 4, none, [1, 2, 3], [4, 5, 6], some [7], none, true, copying, (by unfold State.Copies; decide +kernel)⟩,
   ⟨th 0, 3, [(1, 4)], [(2, [4#32])], [1, 4], [(2, true)], copying, (by unfold State.Copies; decide +kernel)⟩,
   ⟨th 0, [(0x1203, 4#32)], [(0x1203, 5#32)], copying, (by unfold State.Copies; decide +kernel)⟩,
   ⟨th 0, 5, { capture := [(1, 1#32)], samples := 4 }, ctl copying (fun c => { c with samples := 9 }), (by unfold State.Copies; decide +kernel)⟩,
   ⟨th 0, 5, {}, {}, copying, (by unfold State.Copies; decide +kernel)⟩,
   ⟨th 0, 3, [(0, 0#32), (9, 8#32)], mould1, { copying with slv := { W0.slv with moulds := [(3, mould1), (4, {})] } }, (by unfold State.Copies; decide +kernel), (by decide +kernel)⟩,
   ⟨th 0, [4#32, 0#32], copying, (by unfold State.Copies; decide +kernel)⟩,
   ⟨th 0, 77, tw copying (fun t => { t with copyDueBy := some 5 }), (by unfold State.Copies; decide +kernel)⟩,
   ⟨th 0, 77, tw copying (fun t => { t with copyDueBy := some 5 }), sound_of (by decide +kernel), (by unfold State.Copies; decide +kernel)⟩,
   ⟨5, tw copying (fun t => { t with copyDueBy := some 5 }), sound_of (by decide +kernel), (by decide +kernel)⟩⟩
/-- The premises of Obligations.TimeSourcesAreMeasuredQualifiedAndLost are met. -/
theorem witness_time_sources_are_measured_qualified_and_lost :
    (∃ (s : State), s.Sound) ∧
    (∃ (s : State), s.Sound) ∧
    (∃ (d : Nat) (p : Nat) (q : Nat) (i : Int) (o : Int) (a : Int) (b : Int) (s : State), s.Sound ∧ d ≤ 1 ∧ d < s.tim.sources.length ∧ s.ptpAccepts d p = true ∧ a = i - s.par 0x0B88 (2 * p) ∧ s.pathDelay d p o a = some b ∧ s.keepsExchange d b = true) ∧
    (∃ (d : Nat) (p : Nat) (q : Nat) (i : Int) (o : Int) (a : Int) (b : Int) (s : State), s.Sound ∧ d ≤ 1 ∧ d < s.tim.sources.length ∧ s.ptpAccepts d p = true ∧ a = i - s.par 0x0B88 (2 * p) ∧ s.pathDelay d p o a = some b ∧ s.keepsExchange d b = true) ∧
    (∃ (d : Nat) (p : Nat) (q : Nat) (i : Int) (o : Int) (s : State), s.ptpAccepts d p = true) ∧
    (∃ (d : Nat) (p : Nat) (q : Nat) (b : Bool) (i : Int) (o : Int) (s : State), s.ptpAccepts d p = false) ∧
    (∃ (d : Nat) (p : Nat) (q : Nat) (i : Int) (o : Int) (a : Int) (b : Int) (s : State), s.ptpAccepts d p = true ∧ a = i - s.par 0x0B88 (2 * p) ∧ s.pathDelay d p o a = some b ∧ s.keepsExchange d b = false) ∧
    (∃ (d : Nat) (p : Nat) (q : Nat) (o : Int) (b : Int) (e : Nat × Nat × Int) (s : State), s.Sound ∧ d ≤ 1 ∧ d < s.tim.sources.length ∧ s.ptpAccepts d p = true ∧ s.tim.ptp.syncs.find? (fun e => e.1 = d && e.2.1 = q) = some e ∧ s.pathDelay d p o e.2.2 = some b ∧ s.keepsExchange d b = true) ∧
    (∃ (d : Nat) (p : Nat) (y : Int) (i : Int) (q : Int) (s : State), afind s.tim.ptp.request (4 * d + p) = some q ∧ s.peerToPeer d = false ∧ s.ptpAccepts d p = true) ∧
    (∃ (d : Nat) (p : Nat) (y : Int) (i : Int) (q : Int) (s : State), afind s.tim.ptp.request (4 * d + p) = some q ∧ s.peerToPeer d = true) ∧
    (∃ (d : Nat) (p : Nat) (y : Int) (i : Int) (s : State), afind s.tim.ptp.request (4 * d + p) = none) ∧
    (∃ (m : Announce) (s : State), (s.par 0x0B81 m.domain = 0xFFFF ∨ tbit (bits (s.ptpW m.domain 0) 6 4) m.port = false)) ∧
    (∃ (m : Announce) (a : Announce) (s : State), s.par 0x0B81 m.domain ≠ 0xFFFF ∧ tbit (bits (s.ptpW m.domain 0) 6 4) m.port = true ∧ (s.setPtp (fun p => p.hear s.tim.el m)).slaveOf m.domain = some a ∧ a.ptpTimescale = true) ∧
    (∃ (m : Announce) (a : Announce) (s : State), s.par 0x0B81 m.domain ≠ 0xFFFF ∧ tbit (bits (s.ptpW m.domain 0) 6 4) m.port = true ∧ (s.setPtp (fun p => p.hear s.tim.el m)).slaveOf m.domain = some a ∧ a.ptpTimescale = true) ∧
    (∃ (m : Announce) (a : Announce) (s : State), m.domain ≤ 1 ∧ m.domain < s.tim.sources.length ∧ s.par 0x0B81 m.domain ≠ 0xFFFF ∧ tbit (bits (s.ptpW m.domain 0) 6 4) m.port = true ∧ (s.setPtp (fun p => p.hear s.tim.el m)).slaveOf m.domain = some a ∧ a.ptpTimescale = false ∧ (s.src (m.domain + 1)).valid = true) ∧
    (∃ (m : Announce) (s : State), s.par 0x0B81 m.domain ≠ 0xFFFF ∧ tbit (bits (s.ptpW m.domain 0) 6 4) m.port = true ∧ (s.setPtp (fun p => p.hear s.tim.el m)).slaveOf m.domain = none) ∧
    (∃ (d : Nat) (p : Nat) (k : Nat) (s : State), s.ptpMay d p k = true ∧ s.net.batching = false) ∧
    (∃ (d : Nat) (p : Nat) (k : Nat) (s : State), s.ptpMay d p k = true ∧ s.net.batching = false) ∧
    (∃ (d : Nat) (p : Nat) (k : Nat) (s : State), s.ptpMay d p k = true ∧ s.net.batching = false) ∧
    (∃ (d : Nat) (p : Nat) (k : Nat) (s : State), s.ptpMay d p k = true ∧ s.net.batching = false) ∧
    (∃ (d : Nat) (p : Nat) (k : Nat) (s : State), s.ptpMay d p k = false) ∧
    (∃ (n : Nat) (s : State), s.Sound ∧ 1 ≤ n ∧ n ≤ 4 ∧ s.tim.sources.length = 4 ∧ (s.src n).valid = true) ∧
    (∃ (n : Nat) (s : State), s.Sound ∧ 1 ≤ n ∧ n ≤ 4 ∧ s.tim.sources.length = 4 ∧ (s.src n).valid = true) ∧
    (∃ (n : Nat) (s : State), s.Sound ∧ 1 ≤ n ∧ n ≤ 4 ∧ (s.src n).valid = true) ∧
    (∃ (n : Nat) (s : State), s.Sound ∧ 1 ≤ n ∧ n ≤ 4 ∧ (s.src n).valid = true) ∧
    (∃ (n : Nat) (s : State), (s.src n).valid = false) :=
  ⟨⟨tim W0 (fun t => { t with wt := 5 * 2^32 + 2^31 + 7 }), sound_of (by decide +kernel)⟩,
   ⟨tim W0 (fun t => { t with wt := 2^80 - 1 }), sound_of (by decide +kernel)⟩,
   ⟨0, 1, 7, 1000, 5000, 1000, -1999, ptp (par (armed W0) [(0x0B81, [0, 1])]) (fun t => { t with slave := [(0, 1)], back := [(1, 2)] }), sound_of (by decide +kernel), (by decide +kernel), (by decide +kernel), (by decide +kernel), (by decide +kernel), (by decide +kernel), (by decide +kernel)⟩,
   ⟨1, 2, 7, 1000, 1000000000000, 993, 6, ptp (tim (par (armed W0) [(0x0B81, [0, 1]), (0x0B88, [0, 0, 0, 0, 7, 9]), (0x0B21, [0x72])]) (fun t => { t with sources := [{}, { valid := true, validSince := 4 }, {}, {}] })) (fun t => { t with slave := [(1, 2)], back := [(6, 6)], delays := [(1, [20, 10])] }), sound_of (by decide +kernel), (by decide +kernel), (by decide +kernel), (by decide +kernel), (by decide +kernel), (by decide +kernel), (by decide +kernel)⟩,
   ⟨0, 1, 7, 1000, 5000, ptp (par (armed W0) [(0x0B81, [0, 1])]) (fun t => { t with slave := [(0, 1)], syncs := [(0, 7, 5), (0, 8, 5), (1, 7, 1)] }), (by decide +kernel)⟩,
   ⟨0, 1, 7, true, 1, 2, W0, (by decide +kernel)⟩,
   ⟨0, 1, 7, 1000, 1000, 1000, 111, ptp (par (armed W0) [(0x0B81, [0, 1]), (0x0B8A, [100])]) (fun t => { t with slave := [(0, 1)], delays := [(0, [20, 10])], back := [(1, 222)] }), (by decide +kernel), (by decide +kernel), (by decide +kernel), (by decide +kernel)⟩,
   ⟨0, 1, 9, 1000, -472, (0, 9, 55), ptp (par (armed W0) [(0x0B81, [0, 1])]) (fun t => { t with slave := [(0, 1)], syncs := [(0, 9, 55), (1, 9, 4)], back := [(1, 1)] }), sound_of (by decide +kernel), (by decide +kernel), (by decide +kernel), (by decide +kernel), (by decide +kernel), (by decide +kernel), (by decide +kernel)⟩,
   ⟨1, 1, -7, 9, 5, ptp (par (armed W0) [(0x0B81, [0, 1])]) (fun t => { t with slave := [(1, 1)], request := [(5, 5)], back := [(5, 77)] }), (by decide +kernel), (by decide +kernel), (by decide +kernel)⟩,
   ⟨1, 1, 3, 90, 5, ptp (par (armed W0) [(0x0B81, [0, 1]), (0x0B21, [2])]) (fun t => { t with request := [(5, 5)] }), (by decide +kernel), (by decide +kernel)⟩,
   ⟨1, 1, 3, 90, W0, (by decide +kernel)⟩,
   ⟨⟨0, 1, true, 37, false, false, ann0, 0, 9, 1⟩, par W0 [(0x0B81, [0xFFFF, 0xFFFF])], (by decide +kernel)⟩,
   ⟨⟨1, 2, true, 65535, true, true, ann0, 0, 9, 1⟩, ⟨1, 2, true, 65535, true, true, ann0, 0, 9, 1⟩, ptp (par (armed W0) [(0x0B81, [0, 1]), (0x0B21, [0x78, 0x030000, 0])]) (fun t => { t with arb := [0, 1], foreign := [⟨⟨1, 2, true, 65535, true, true, ann0, 0, 9, 1⟩, 0, none⟩] }), (by decide +kernel), (by decide +kernel), (by decide +kernel), (by decide +kernel)⟩,
   ⟨⟨0, 2, true, 37, false, false, ann0, 0, 9, 1⟩, ⟨0, 2, true, 37, false, false, ann0, 0, 9, 1⟩, upd (ptp (par (armed W0) [(0x0B81, [0, 1]), (0x0B20, [0x78, 0x030000, 0])]) (fun t => { t with foreign := [⟨⟨0, 2, false, 37, false, false, ann0, 4, 9, 1⟩, 0, none⟩] })) [(F_TSU_STATUS_SRC, 1)], (by decide +kernel), (by decide +kernel), (by decide +kernel), (by decide +kernel)⟩,
   ⟨⟨1, 2, false, 37, true, true, ann0, 0, 9, 1⟩, ⟨1, 2, false, 37, true, true, ann0, 0, 9, 1⟩, ptp (tim (par (armed W0) [(0x0B81, [0, 1]), (0x0B21, [0x78, 0x030000, 0])]) (fun t => { t with sources := [{}, { valid := true }, {}, {}] })) (fun t => { t with foreign := [⟨⟨1, 2, true, 65535, true, true, ann0, 0, 9, 1⟩, 0, none⟩] }), (by decide +kernel), (by decide +kernel), (by decide +kernel), (by decide +kernel), (by decide +kernel), (by decide +kernel), (by decide +kernel)⟩,
   ⟨⟨1, 2, false, 37, true, true, ann0, 0, 9, 1⟩, ptp (par (armed W0) [(0x0B81, [0, 1]), (0x0B21, [0x70, 0x030000, 0])]) (fun t => { t with slave := [(1, 2), (0, 1)] }), (by decide +kernel), (by decide +kernel), (by decide +kernel)⟩,
   ⟨0, 0, 0, upd (par (armed W0) [(0x0B81, [0, 1]), (0x0B20, [0x70]), (0x0B01, [7])]) [(F_TSU_STATUS_SET, 1)], (by decide +kernel), (by decide +kernel)⟩,
   ⟨1, 2, 1, ptp (par (armed W0) [(0x0B81, [0, 1]), (0x0B21, [0x74, 0x030000]), (0x0B01, [7])]) (fun t => { t with slave := [(1, 0)], sentAt := [(25, 70)], parent := [(1, ⟨1, 2, true, 65535, true, true, ann0, 5, 9, 1⟩)] }), (by decide +kernel), (by decide +kernel)⟩,
   ⟨1, 0, 2, ptp (par (armed W0) [(0x0B81, [0, 1]), (0x0B21, [0x74, 0x030000]), (0x0B01, [7])]) (fun t => { t with slave := [(1, 0)], sentAt := [(22, 70)] }), (by decide +kernel), (by decide +kernel)⟩,
   ⟨0, 1, 1, upd (par (armed W0) [(0x0B81, [0, 1]), (0x0B20, [0x70]), (0x0B01, [7])]) [(F_TSU_STATUS_SET, 1)], (by decide +kernel), (by decide +kernel)⟩,
   ⟨0, 0, 0, W0, (by decide +kernel)⟩,
   ⟨1, tim (armed W0) (fun t => { t with sources := [{ valid := true, lastSeen := 5 }, {}, {}, {}] }), sound_of (by decide +kernel), (by decide +kernel), (by decide +kernel), (by decide +kernel), (by decide +kernel)⟩,
   ⟨4, upd (tim (armed W0) (fun t => { t with el := 10 ^ 12, sources := [{}, {}, {}, { valid := true, lastSeen := 5 }] })) [(F_TSU_STATUS_SRC, 4)], sound_of (by decide +kernel), (by decide +kernel), (by decide +kernel), (by decide +kernel), (by decide +kernel)⟩,
   ⟨4, tim (armed W0) (fun t => { t with sources := [{}, {}, {}, { valid := true, validSince := 7 }] }), sound_of (by decide +kernel), (by decide +kernel), (by decide +kernel), (by decide +kernel)⟩,
   ⟨1, tim (armed W0) (fun t => { t with el := 10 ^ 13, sources := [{ valid := true, validSince := 7 }, {}, {}, {}] }), sound_of (by decide +kernel), (by decide +kernel), (by decide +kernel), (by decide +kernel)⟩,
   ⟨1, W0, (by decide +kernel)⟩⟩
/-- The premises of Obligations.WorkingTimeStepsOnlyAsAnnounced are met. -/
theorem witness_working_time_steps_only_as_announced :
    (∃ (e : Nat) (s : State), s.Sound ∧ s.tim.bigSince = some e ∧ s.selected ≠ 0 ∧ s.tim.stepAt = none) ∧
    (∃ (e : Nat) (s : State), s.Sound ∧ s.tim.bigSince = some e ∧ s.selected ≠ 0 ∧ s.tim.stepAt = none) ∧
    (∃ (s : State), s.tim.stepAt.isSome = true) ∧
    (∃ (a : Nat) (x : Option Int) (d : Int) (s : State), s.Sound ∧ s.tim.stepAt = some (a, x) ∧ s.tim.wt ≤ a ∧ x.getD (evenStep (s.srcOfs s.selected)) = d) ∧
    (∃ (a : Nat) (x : Option Int) (d : Int) (s : State), s.Sound ∧ s.tim.stepAt = some (a, x) ∧ s.tim.wt ≤ a ∧ x.getD (evenStep (s.srcOfs s.selected)) = d) ∧
    (∃ (s : State), s.tim.stepAt = none) ∧
    (∃ (k : Nat) (s : State), s.Sound ∧ s.flag F_TSU_STATUS_HOLDOVER = true ∧ k = (s.tim.el - s.tim.holdSince + (sec - 1)) / sec) ∧
    (∃ (k : Nat) (s : State), s.Sound ∧ s.flag F_TSU_STATUS_HOLDOVER = true ∧ k = (s.tim.el - s.tim.holdSince + (sec - 1)) / sec) ∧
    (∃ (s : State), s.flag F_TSU_STATUS_HOLDOVER = false) ∧
    (∃ (l : Nat) (s : State), s.linkUp = true ∧ s.tim.stepAt = none ∧ l = (if s.flag (bitAt A_TWN_STATUS 10) then 0 else 1)) ∧
    (∃ (l : Nat) (s : State), s.linkUp = true ∧ s.tim.stepAt = none ∧ l = (if s.flag (bitAt A_TWN_STATUS 10) then 0 else 1)) ∧
    (∃ (a : Nat) (l : Nat) (s : State), s.linkUp = true ∧ s.isLead = true ∧ s.tim.stepAt = some (a, none) ∧ l = (if s.flag (bitAt A_TWN_STATUS 10) then 0 else 1)) ∧
    (∃ (s : State), s.linkUp = false) ∧
    (∃ (m : Marker) (s : State), m.crcOk = false) ∧
    (∃ (m : Marker) (s : State), s.Sound ∧ m.crcOk = true ∧ s.boot.waitingTwin = false) ∧
    (∃ (m : Marker) (s : State), s.Sound ∧ m.crcOk = true ∧ s.boot.waitingTwin = false) ∧
    (∃ (m : Marker) (s : State), s.Sound ∧ m.crcOk = true ∧ s.boot.waitingTwin = false) ∧
    (∃ (m : Marker) (s : State), s.Sound ∧ m.crcOk = true ∧ s.boot.waitingTwin = false) ∧
    (∃ (e : Nat) (s : State), s.tim.twinBigSince = some e ∧ s.selected = 4) :=
  ⟨⟨5, upd (tim (armed W0) (fun t => { t with bigSince := some 5 })) [(F_TSU_STATUS_SRC, 1)], sound_of (by decide +kernel), (by decide +kernel), (by decide +kernel), (by decide +kernel)⟩,
   ⟨0, upd (tim (armed W0) (fun t => { t with wt := 500000000, el := 10 ^ 10, bigSince := some 0 })) [(F_TSU_STATUS_SRC, 4)], sound_of (by decide +kernel), (by decide +kernel), (by decide +kernel), (by decide +kernel)⟩,
   ⟨tim (armed W0) (fun t => { t with stepAt := some (5 * sec, none), bigSince := some 3 }), (by decide +kernel)⟩,
   ⟨5 * sec, some 7, 7, dev (tim (armed W0) (fun t => { t with wt := 4999999999, stepAt := some (5 * sec, some 7), bigSince := some 4 })) (fun d => { d with nextFreeze := 5 * sec }), sound_of (by decide +kernel), (by decide +kernel), (by decide +kernel), (by decide +kernel)⟩,
   ⟨5 * sec, none, -4, upd (tim W0 (fun t => { t with stepAt := some (5 * sec, none) })) [(F_TSU_STATUS_SRC, 1), (F_TSU_SRC_OFS_OFS 0, 4294967291), (F_TSU_STATUS_STEP_PEND, 1), (word32 A_TSU_STEP_CNT, 4294967295)], sound_of (by decide +kernel), (by decide +kernel), (by decide +kernel), (by decide +kernel)⟩,
   ⟨W0, (by decide +kernel)⟩,
   ⟨78, upd (tim W0 (fun t => { t with el := 77777777777, holdSince := 5 })) [(F_TSU_STATUS_HOLDOVER, 1)], sound_of (by decide +kernel), (by decide +kernel), (by decide +kernel)⟩,
   ⟨0, upd (tim W0 (fun t => { t with el := 5, holdSince := 5 })) [(F_TSU_STATUS_HOLDOVER, 1)], sound_of (by decide +kernel), (by decide +kernel), (by decide +kernel)⟩,
   ⟨W0, (by decide +kernel)⟩,
   ⟨1, tim twin (fun t => { t with wt := 1000001, rxMarker := 9 }), (by decide +kernel), (by decide +kernel), (by decide +kernel)⟩,
   ⟨0, upd (tim twin (fun t => { t with wt := 2000000 })) [(bitAt A_TWN_STATUS 10, 1)], (by decide +kernel), (by decide +kernel), (by decide +kernel)⟩,
   ⟨5 * sec, 1, tim twin (fun t => { t with wt := 1000001, stepAt := some (5 * sec, none) }), (by decide +kernel), (by decide +kernel), (by decide +kernel), (by decide +kernel)⟩,
   ⟨W0, (by decide +kernel)⟩,
   ⟨⟨1, 2, 3, 4, 5, 6, false⟩, W0, (by decide +kernel)⟩,
   ⟨⟨1000, 5000, 4000, 900, 0, 6, true⟩, twin, sound_of (by decide +kernel), (by decide +kernel), (by decide +kernel)⟩,
   ⟨⟨1000, 500000, 4000, 900, 8, 6, true⟩, tim { twin with pins := { twin.pins with side := .drag } } (fun t => { t with twinBigSince := some 5 }), sound_of (by decide +kernel), (by decide +kernel), (by decide +kernel)⟩,
   ⟨⟨1000, 3900, 2000, 900, 8, 1, true⟩, tim { twin with pins := { twin.pins with side := .drag } } (fun t => { t with twinBigSince := some 5 }), sound_of (by decide +kernel), (by decide +kernel), (by decide +kernel)⟩,
   ⟨⟨1000, 3902, 2000, 900, 0, 1, true⟩, tim W0 (fun t => { t with twinBigSince := some 5 }), sound_of (by decide +kernel), (by decide +kernel), (by decide +kernel)⟩,
   ⟨5, upd (tim twin (fun t => { t with twinBigSince := some 5 })) [(F_TSU_STATUS_SRC, 4)], (by decide +kernel), (by decide +kernel)⟩⟩
/-- The premises of Obligations.CompareCaptureAndPulseUnitsFollowTheCounter are met. -/
theorem witness_compare_capture_and_pulse_units_follow_the_counter :
    (∃ (k : Nat) (s : State), s.Sound ∧ k ≤ 15 ∧ s.flag (F_TSU_CMP_CFG_EN k) = true ∧ s.flag (F_TSU_CMP_CFG_MODE k) = false ∧ k ∈ s.tim.armed) ∧
    (∃ (k : Nat) (s : State), s.Sound ∧ k ≤ 15 ∧ s.flag (F_TSU_CMP_CFG_EN k) = true ∧ s.flag (F_TSU_CMP_CFG_MODE k) = false ∧ k ∈ s.tim.armed) ∧
    (∃ (k : Nat) (s : State), s.Sound ∧ k ≤ 15 ∧ s.flag (F_TSU_CMP_CFG_EN k) = true ∧ s.flag (F_TSU_CMP_CFG_MODE k) = true ∧ 0 < (s.reg (A_TSU_CMP_PERIOD k)).toNat) ∧
    (∃ (k : Nat) (s : State), s.Sound ∧ k ≤ 15 ∧ s.flag (F_TSU_CMP_CFG_EN k) = true ∧ s.flag (F_TSU_CMP_CFG_MODE k) = true ∧ 0 < (s.reg (A_TSU_CMP_PERIOD k)).toNat) ∧
    (∃ (k : Nat) (s : State), (15 < k ∨ s.flag (F_TSU_CMP_CFG_EN k) = false ∨ (s.flag (F_TSU_CMP_CFG_MODE k) = false ∧ k ∉ s.tim.armed))) ∧
    (∃ (k : Nat) (s : State), (15 < k ∨ s.flag (F_TSU_CMP_CFG_EN k) = false ∨ (s.flag (F_TSU_CMP_CFG_MODE k) = false ∧ k ∉ s.tim.armed))) ∧
    (∃ (m : Nat) (k : Nat) (v : Word) (s : State), s.Sound ∧ 10 ≤ k ∧ k ≤ 15 ∧ s.MayAccess m (A_TSU_CMP_CFG k) true ∧ v.getLsbD 0 = true ∧ v.getLsbD 1 = false ∧ ((s.reg (A_TSU_CMP_TIME k)).toNat + 4294967296 - tsuNs s.tim.wt) % 4294967296 < 2147483648) ∧
    (∃ (m : Nat) (k : Nat) (v : Word) (s : State), s.Sound ∧ 10 ≤ k ∧ k ≤ 15 ∧ s.MayAccess m (A_TSU_CMP_CFG k) true ∧ v.getLsbD 0 = true ∧ v.getLsbD 1 = false ∧ ((s.reg (A_TSU_CMP_TIME k)).toNat + 4294967296 - tsuNs s.tim.wt) % 4294967296 < 2147483648) ∧
    (∃ (m : Nat) (k : Nat) (v : Word) (s : State), s.Sound ∧ 10 ≤ k ∧ k ≤ 15 ∧ s.MayAccess m (A_TSU_CMP_CFG k) true ∧ v.getLsbD 0 = true ∧ v.getLsbD 1 = false ∧ 2147483648 ≤ ((s.reg (A_TSU_CMP_TIME k)).toNat + 4294967296 - tsuNs s.tim.wt) % 4294967296) ∧
    (∃ (m : Nat) (k : Nat) (v : Word) (s : State), s.Sound ∧ 10 ≤ k ∧ k ≤ 15 ∧ s.MayAccess m (A_TSU_CMP_CFG k) true ∧ v.getLsbD 0 = true ∧ v.getLsbD 1 = false ∧ 2147483648 ≤ ((s.reg (A_TSU_CMP_TIME k)).toNat + 4294967296 - tsuNs s.tim.wt) % 4294967296) ∧
    (∃ (m : Nat) (k : Nat) (v : Word) (s : State), s.Sound ∧ 10 ≤ k ∧ k ≤ 15 ∧ s.MayAccess m (A_TSU_CMP_CFG k) true ∧ v.getLsbD 0 = false) ∧
    (∃ (k : Nat) (n : Nat) (e : Nat) (b : Bool) (s : State), afind s.tim.capEdgeAt k = some e ∧ n < e + 20) ∧
    (∃ (k : Nat) (n : Nat) (b : Bool) (s : State), (∀ e, afind s.tim.capEdgeAt k = some e → e + 20 ≤ n) ∧ edgeSelected (s.fld (F_TSU_CAP_CFG_EDGE k)) b = true ∧ (s.cap k).length < 4) ∧
    (∃ (k : Nat) (n : Nat) (b : Bool) (s : State), s.Sound ∧ k ≤ 7 ∧ (∀ e, afind s.tim.capEdgeAt k = some e → e + 20 ≤ n) ∧ edgeSelected (s.fld (F_TSU_CAP_CFG_EDGE k)) b = true ∧ 4 ≤ (s.cap k).length) ∧
    (∃ (k : Nat) (n : Nat) (b : Bool) (s : State), s.Sound ∧ k ≤ 7 ∧ (∀ e, afind s.tim.capEdgeAt k = some e → e + 20 ≤ n) ∧ edgeSelected (s.fld (F_TSU_CAP_CFG_EDGE k)) b = true ∧ 4 ≤ (s.cap k).length) ∧
    (∃ (m : Nat) (k : Nat) (n : Nat) (b : Bool) (q : List (Nat × Bool)) (s : State), s.Sound ∧ k ≤ 7 ∧ s.MayAccess m (A_TSU_CAP_NS k) false ∧ s.cap k = (n, b) :: q) ∧
    (∃ (m : Nat) (k : Nat) (s : State), s.MayAccess m (A_TSU_CAP_NS k) false ∧ s.cap k = []) ∧
    (∃ (k : Nat) (n : Nat) (b : Bool) (q : List (Nat × Bool)) (s : State), s.Sound ∧ s.cap k = (n, b) :: q) ∧
    (∃ (k : Nat) (s : State), s.tpPeriod k ≠ 0 ∧ s.pat.loaded = true ∧ (bits (s.parW 0x0B8D (2 * k)) 4 4 = 1 → s.flag F_TSU_STATUS_SET = true) ∧ s.tim.noPulseUntil ≤ s.tim.wt) ∧
    (∃ (k : Nat) (s : State), s.tpPeriod k ≠ 0 ∧ s.pat.loaded = true ∧ (bits (s.parW 0x0B8D (2 * k)) 4 4 = 1 → s.flag F_TSU_STATUS_SET = true) ∧ s.tim.noPulseUntil ≤ s.tim.wt) ∧
    (∃ (k : Nat) (s : State), (s.tpPeriod k = 0 ∨ s.pat.loaded = false ∨ (bits (s.parW 0x0B8D (2 * k)) 4 4 = 1 ∧ s.flag F_TSU_STATUS_SET = false))) ∧
    (∃ (k : Nat) (s : State), (s.tpPeriod k = 0 ∨ s.pat.loaded = false ∨ (bits (s.parW 0x0B8D (2 * k)) 4 4 = 1 ∧ s.flag F_TSU_STATUS_SET = false))) ∧
    (∃ (k : Nat) (e : Nat) (s : State), afind s.tim.tp k = some e) :=
  ⟨⟨0, tim (upd W0 [(F_TSU_CMP_CFG_EN 0, 1), (word32 (A_TSU_CMP_TIME 0), 5)]) (fun t => { t with wt := 10, armed := [0, 3] }), sound_of (by decide +kernel), (by decide +kernel), (by decide +kernel), (by decide +kernel), (by decide +kernel)⟩,
   ⟨15, tim (upd W0 [(F_TSU_CMP_CFG_EN 15, 1), (word32 (A_TSU_CMP_TIME 15), 999999999)]) (fun t => { t with wt := 10, armed := [15] }), sound_of (by decide +kernel), (by decide +kernel), (by decide +kernel), (by decide +kernel), (by decide +kernel)⟩,
   ⟨3, tim (upd W0 [(F_TSU_CMP_CFG_EN 3, 1), (F_TSU_CMP_CFG_MODE 3, 1), (word32 (A_TSU_CMP_TIME 3), 25), (word32 (A_TSU_CMP_PERIOD 3), 10)]) (fun t => { t with wt := 101 }), sound_of (by decide +kernel), (by decide +kernel), (by decide +kernel), (by decide +kernel), (by decide +kernel)⟩,
   ⟨15, tim (upd W0 [(F_TSU_CMP_CFG_EN 15, 1), (F_TSU_CMP_CFG_MODE 15, 1), (word32 (A_TSU_CMP_TIME 15), 4294967295), (word32 (A_TSU_CMP_PERIOD 15), 1)]) (fun t => { t with wt := 101 }), sound_of (by decide +kernel), (by decide +kernel), (by decide +kernel), (by decide +kernel), (by decide +kernel)⟩,
   ⟨16, W0, (by decide +kernel)⟩,
   ⟨3, upd W0 [(F_TSU_CMP_CFG_EN 3, 1)], (by decide +kernel)⟩,
   ⟨0, 10, 1#32, open_ (upd W0 [(word32 (A_TSU_CMP_TIME 10), 2147483647)]), sound_of (by decide +kernel), (by decide +kernel), (by decide +kernel), may_of (by decide +kernel), (by decide +kernel), (by decide +kernel), (by decide +kernel)⟩,
   ⟨0, 15, 0xFFFFFFFD#32, open_ (upd W0 [(word32 (A_TSU_CMP_TIME 15), 2)]), sound_of (by decide +kernel), (by decide +kernel), (by decide +kernel), may_of (by decide +kernel), (by decide +kernel), (by decide +kernel), (by decide +kernel)⟩,
   ⟨0, 10, 1#32, open_ (upd W0 [(word32 (A_TSU_CMP_TIME 10), 2147483648)]), sound_of (by decide +kernel), (by decide +kernel), (by decide +kernel), may_of (by decide +kernel), (by decide +kernel), (by decide +kernel), (by decide +kernel)⟩,
   ⟨0, 15, 1#32, open_ (tim (upd W0 [(word32 (A_TSU_CMP_TIME 15), 4)]) (fun t => { t with wt := 5, armed := [15] })), sound_of (by decide +kernel), (by decide +kernel), (by decide +kernel), may_of (by decide +kernel), (by decide +kernel), (by decide +kernel), (by decide +kernel)⟩,
   ⟨0, 12, 2#32, open_ (tim (upd W0 [(F_TSU_CMP_CFG_EN 12, 1)]) (fun t => { t with wt := 5, armed := [12, 15] })), sound_of (by decide +kernel), (by decide +kernel), (by decide +kernel), may_of (by decide +kernel), (by decide +kernel)⟩,
   ⟨0, 24, 5, true, tim W0 (fun t => { t with capEdgeAt := [(0, 5)] }), (by decide +kernel), (by decide +kernel)⟩,
   ⟨0, 25, true, tim (upd W0 [(F_TSU_CAP_CFG_EDGE 0, 3)]) (fun t => { t with capEdgeAt := [(0, 5)], caps := [(0, [(1, true), (2, false), (3, true)]), (1, [(1, false)])] }), opt_all (by decide +kernel), (by decide +kernel), (by decide +kernel)⟩,
   ⟨7, 25, false, tim (upd W0 [(F_TSU_CAP_CFG_EDGE 7, 2)]) (fun t => { t with capEdgeAt := [(7, 5)], caps := [(7, [(1, false), (2, false), (3, false), (4, false)])] }), sound_of (by decide +kernel), (by decide +kernel), opt_all (by decide +kernel), (by decide +kernel), (by decide +kernel)⟩,
   ⟨0, 25, true, tim (upd W0 [(F_TSU_CAP_CFG_EDGE 0, 1)]) (fun t => { t with capAlarmAt := [(0, 0)], caps := [(0, [(1, false), (2, false), (3, false), (4, false)])] }), sound_of (by decide +kernel), (by decide +kernel), opt_all (by decide +kernel), (by decide +kernel), (by decide +kernel)⟩,
   ⟨0, 7, 5000000001, false, [(9, true)], open_ (tim (upd W0 [(F_TSU_CAP_CFG_OLD 7, 1)]) (fun t => { t with caps := [(7, [(5000000001, false), (9, true)])] })), sound_of (by decide +kernel), (by decide +kernel), may_of (by decide +kernel), (by decide +kernel)⟩,
   ⟨0, 7, open_ W0, may_of (by decide +kernel), (by decide +kernel)⟩,
   ⟨2, 5, true, [], tim W0 (fun t => { t with caps := [(2, [(5, true)])] }), sound_of (by decide +kernel), (by decide +kernel)⟩,
   ⟨0, tim (par W0 [(0x0B8D, [1, 5, 2, 5])]) (fun t => { t with wt := 5 }), (by decide +kernel), (by decide +kernel), (by decide +kernel), (by decide +kernel)⟩,
   ⟨1, tim (upd (par W0 [(0x0B8D, [1, 5, 0x12, 5])]) [(F_TSU_STATUS_SET, 1)]) (fun t => { t with wt := 100000000, noPulseUntil := 100000000 }), (by decide +kernel), (by decide +kernel), (by decide +kernel), (by decide +kernel)⟩,
   ⟨0, W0, (by decide +kernel)⟩,
   ⟨0, par W0 [(0x0B8D, [0x11, 5, 2, 5])], (by decide +kernel)⟩,
   ⟨1, 50, tim W0 (fun t => { t with tp := [(0, 4), (1, 50)] }), (by decide +kernel)⟩⟩
/-- The premises of Obligations.BrakesAreTestedDegradedAndFaulted are met. -/
theorem witness_brakes_are_tested_degraded_and_faulted :
    (∃ (n : Nat) (s : State), n < s.saf.brakes.length ∧ s.brkEn n = true ∧ s.clk.vfld = true ∧ (s.brake n).testStep = 0 ∧ (s.brake n).fault = false) ∧
    (∃ (n : Nat) (s : State), n < s.saf.brakes.length ∧ s.brkEn n = true ∧ s.clk.vfld = true ∧ (s.brake n).testStep = 0 ∧ (s.brake n).fault = false) ∧
    (∃ (n : Nat) (s : State), (s.brkEn n = false ∨ s.clk.vfld = false ∨ (s.brake n).fault = true)) ∧
    (∃ (n : Nat) (s : State), (s.brkEn n = false ∨ s.clk.vfld = false ∨ (s.brake n).fault = true)) ∧
    (∃ (n : Nat) (s : State), (s.brkEn n = false ∨ s.clk.vfld = false ∨ (s.brake n).fault = true)) ∧
    (∃ (n : Nat) (h : Nat) (l : Nat) (s : State), s.Sound ∧ n ≤ 7 ∧ n < s.saf.brakes.length ∧ h ≤ 100 ∧ l ≤ 100 ∧ (s.brake n).testStep ≠ 0 ∧ (s.brake n).fault = false ∧ diagnose (s.brake n).applied (s.brake n).testStep h l = .healthy ∧ (s.brake n).testStep ≠ lastStep (s.brake n).applied) ∧
    (∃ (n : Nat) (h : Nat) (l : Nat) (s : State), s.Sound ∧ n ≤ 7 ∧ n < s.saf.brakes.length ∧ h ≤ 100 ∧ l ≤ 100 ∧ (s.brake n).testStep ≠ 0 ∧ (s.brake n).fault = false ∧ diagnose (s.brake n).applied (s.brake n).testStep h l = .healthy ∧ (s.brake n).testStep ≠ lastStep (s.brake n).applied) ∧
    (∃ (n : Nat) (h : Nat) (l : Nat) (s : State), s.Sound ∧ n ≤ 7 ∧ n < s.saf.brakes.length ∧ h ≤ 100 ∧ l ≤ 100 ∧ (s.brake n).testStep ≠ 0 ∧ (s.brake n).fault = false ∧ diagnose (s.brake n).applied (s.brake n).testStep h l = .healthy ∧ (s.brake n).testStep ≠ lastStep (s.brake n).applied) ∧
    (∃ (n : Nat) (h : Nat) (l : Nat) (s : State), n < s.saf.brakes.length ∧ (s.brake n).testStep ≠ 0 ∧ diagnose (s.brake n).applied (s.brake n).testStep h l = .healthy ∧ (s.brake n).testStep = lastStep (s.brake n).applied ∧ (s.brake n).testBad = false ∧ (s.brake n).degr = 0) ∧
    (∃ (n : Nat) (h : Nat) (l : Nat) (s : State), n < s.saf.brakes.length ∧ (s.brake n).testStep ≠ 0 ∧ diagnose (s.brake n).applied (s.brake n).testStep h l = .healthy ∧ (s.brake n).testStep = lastStep (s.brake n).applied ∧ (s.brake n).testBad = false ∧ (s.brake n).degr = 0) ∧
    (∃ (n : Nat) (h : Nat) (l : Nat) (s : State), s.Sound ∧ n ≤ 7 ∧ s.saf.brakes.length = 8 ∧ (s.brake n).testStep ≠ 0 ∧ diagnose (s.brake n).applied (s.brake n).testStep h l = .healthy ∧ (s.brake n).testStep = lastStep (s.brake n).applied ∧ (s.brake n).testBad = false ∧ ((s.brake n).degr = 1 ∨ (s.brake n).degr = 2) ∧ (s.brake n).goodTests = 9 ∧ (∀ m, m ≠ n → (s.brake m).degr = 0)) ∧
    (∃ (n : Nat) (h : Nat) (l : Nat) (s : State), s.Sound ∧ n ≤ 7 ∧ n < s.saf.brakes.length ∧ (s.brake n).testStep ≠ 0 ∧ (diagnose (s.brake n).applied (s.brake n).testStep h l = .hsOpen ∨ diagnose (s.brake n).applied (s.brake n).testStep h l = .lsOpen)) ∧
    (∃ (n : Nat) (h : Nat) (l : Nat) (s : State), s.Sound ∧ n ≤ 7 ∧ n < s.saf.brakes.length ∧ (s.brake n).testStep ≠ 0 ∧ (diagnose (s.brake n).applied (s.brake n).testStep h l = .hsOpen ∨ diagnose (s.brake n).applied (s.brake n).testStep h l = .lsOpen)) ∧
    (∃ (n : Nat) (h : Nat) (l : Nat) (s : State), s.Sound ∧ n ≤ 7 ∧ n < s.saf.brakes.length ∧ (s.brake n).testStep ≠ 0 ∧ (s.brake n).degr = 0 ∧ diagnose (s.brake n).applied (s.brake n).testStep h l = .hsClosed) ∧
    (∃ (n : Nat) (h : Nat) (l : Nat) (s : State), s.Sound ∧ n ≤ 7 ∧ n < s.saf.brakes.length ∧ (s.brake n).testStep ≠ 0 ∧ (s.brake n).degr = 0 ∧ diagnose (s.brake n).applied (s.brake n).testStep h l = .hsClosed) ∧
    (∃ (n : Nat) (h : Nat) (l : Nat) (s : State), s.Sound ∧ n ≤ 7 ∧ n < s.saf.brakes.length ∧ (s.brake n).testStep ≠ 0 ∧ (s.brake n).degr = 2 ∧ diagnose (s.brake n).applied (s.brake n).testStep h l = .hsClosed) ∧
    (∃ (n : Nat) (h : Nat) (l : Nat) (s : State), s.Sound ∧ n ≤ 7 ∧ n < s.saf.brakes.length ∧ (s.brake n).testStep ≠ 0 ∧ (s.brake n).degr = 2 ∧ diagnose (s.brake n).applied (s.brake n).testStep h l = .hsClosed) ∧
    (∃ (n : Nat) (h : Nat) (l : Nat) (s : State), s.Sound ∧ n ≤ 7 ∧ n < s.saf.brakes.length ∧ (s.brake n).testStep ≠ 0 ∧ diagnose (s.brake n).applied (s.brake n).testStep h l = .bothClosed) ∧
    (∃ (n : Nat) (h : Nat) (l : Nat) (s : State), s.Sound ∧ n ≤ 7 ∧ n < s.saf.brakes.length ∧ (s.brake n).testStep ≠ 0 ∧ diagnose (s.brake n).applied (s.brake n).testStep h l = .bothClosed) ∧
    (∃ (n : Nat) (s : State), s.Sound ∧ n ≤ 7 ∧ n < s.saf.brakes.length ∧ s.brkEn n = true) ∧
    (∃ (n : Nat) (s : State), s.Sound ∧ n ≤ 7 ∧ n < s.saf.brakes.length ∧ s.brkEn n = true) ∧
    (∃ (n : Nat) (s : State), n < s.saf.brakes.length ∧ ((s.brake n).degr = 1 ∨ (s.brake n).degr = 2) ∧ aget 0 s.mram.brakeLeft n = 0 ∧ (s.brake n).expired = false) ∧
    (∃ (n : Nat) (s : State), n < s.saf.brakes.length ∧ ((s.brake n).degr = 1 ∨ (s.brake n).degr = 2) ∧ aget 0 s.mram.brakeLeft n = 0 ∧ (s.brake n).expired = false) ∧
    (∃ (n : Nat) (s : State), ((s.brake n).degr = 0 ∨ 0 < aget 0 s.mram.brakeLeft n ∨ (s.brake n).expired = true)) ∧
    (∃ (n : Nat) (s : State), ((s.brake n).degr = 0 ∨ 0 < aget 0 s.mram.brakeLeft n ∨ (s.brake n).expired = true)) ∧
    (∃ (n : Nat) (s : State), ((s.brake n).degr = 0 ∨ 0 < aget 0 s.mram.brakeLeft n ∨ (s.brake n).expired = true)) :=
  ⟨⟨0, braked, (by decide +kernel), (by decide +kernel), (by decide +kernel), (by decide +kernel), (by decide +kernel)⟩,
   ⟨7, brk braked 7 { hs := true, degr := 2, testBad := true, testAt := some 70 }, (by decide +kernel), (by decide +kernel), (by decide +kernel), (by decide +kernel), (by decide +kernel)⟩,
   ⟨1, braked, (by decide +kernel)⟩,
   ⟨0, W0, (by decide +kernel)⟩,
   ⟨0, brk braked 0 { fault := true }, (by decide +kernel)⟩,
   ⟨7, 10, 90, brk braked 7 { testStep := 1 }, sound_of (by decide +kernel), (by decide +kernel), (by decide +kernel), (by decide +kernel), (by decide +kernel), (by decide +kernel), (by decide +kernel), (by decide +kernel), (by decide +kernel)⟩,
   ⟨0, 10, 80, brk braked 0 { testStep := 2 }, sound_of (by decide +kernel), (by decide +kernel), (by decide +kernel), (by decide +kernel), (by decide +kernel), (by decide +kernel), (by decide +kernel), (by decide +kernel), (by decide +kernel)⟩,
   ⟨0, 20, 100, brk braked 0 { testStep := 1, hs := true, ls := true }, sound_of (by decide +kernel), (by decide +kernel), (by decide +kernel), (by decide +kernel), (by decide +kernel), (by decide +kernel), (by decide +kernel), (by decide +kernel), (by decide +kernel)⟩,
   ⟨0, 20, 100, brk braked 0 { testStep := 3 }, (by decide +kernel), (by decide +kernel), (by decide +kernel), (by decide +kernel), (by decide +kernel), (by decide +kernel)⟩,
   ⟨0, 100, 80, brk braked 0 { testStep := 2, hs := true, ls := true, goodTests := 4 }, (by decide +kernel), (by decide +kernel), (by decide +kernel), (by decide +kernel), (by decide +kernel), (by decide +kernel)⟩,
   ⟨0, 20, 100, upd ({ brk braked 0 { testStep := 3, degr := 1, goodTests := 9 } with mram := { W0.mram with brakeLeft := [(0, 55)] } }) [], sound_of (by decide +kernel), (by decide +kernel), (by decide +kernel), (by decide +kernel), (by decide +kernel), (by decide +kernel), (by decide +kernel), (by decide +kernel), (by decide +kernel), others_zero (by decide +kernel) (by decide +kernel)⟩,
   ⟨0, 20, 79, brk braked 0 { testStep := 2 }, sound_of (by decide +kernel), (by decide +kernel), (by decide +kernel), (by decide +kernel), (by decide +kernel)⟩,
   ⟨7, 21, 90, brk braked 7 { testStep := 3, hs := true }, sound_of (by decide +kernel), (by decide +kernel), (by decide +kernel), (by decide +kernel), (by decide +kernel)⟩,
   ⟨0, 80, 80, brk braked 0 { testStep := 1 }, sound_of (by decide +kernel), (by decide +kernel), (by decide +kernel), (by decide +kernel), (by decide +kernel), (by decide +kernel)⟩,
   ⟨7, 21, 80, brk braked 7 { testStep := 1, hs := true, ls := true }, sound_of (by decide +kernel), (by decide +kernel), (by decide +kernel), (by decide +kernel), (by decide +kernel), (by decide +kernel)⟩,
   ⟨0, 80, 80, brk braked 0 { testStep := 1, degr := 2 }, sound_of (by decide +kernel), (by decide +kernel), (by decide +kernel), (by decide +kernel), (by decide +kernel), (by decide +kernel)⟩,
   ⟨7, 21, 80, brk braked 7 { testStep := 1, hs := true, ls := true, degr := 2 }, sound_of (by decide +kernel), (by decide +kernel), (by decide +kernel), (by decide +kernel), (by decide +kernel), (by decide +kernel)⟩,
   ⟨0, 80, 20, brk braked 0 { testStep := 1 }, sound_of (by decide +kernel), (by decide +kernel), (by decide +kernel), (by decide +kernel), (by decide +kernel)⟩,
   ⟨0, 80, 20, brk (dev braked (fun d => { d with st := .active })) 0 { testStep := 1, degr := 1 }, sound_of (by decide +kernel), (by decide +kernel), (by decide +kernel), (by decide +kernel), (by decide +kernel)⟩,
   ⟨0, brk braked 0 { hs := true, ls := true, degr := 1 }, sound_of (by decide +kernel), (by decide +kernel), (by decide +kernel), (by decide +kernel)⟩,
   ⟨7, braked, sound_of (by decide +kernel), (by decide +kernel), (by decide +kernel), (by decide +kernel)⟩,
   ⟨0, brk braked 0 { degr := 1, hs := true, ls := true }, (by decide +kernel), (by decide +kernel), (by decide +kernel), (by decide +kernel)⟩,
   ⟨7, brk W0 7 { degr := 2 }, (by decide +kernel), (by decide +kernel), (by decide +kernel), (by decide +kernel)⟩,
   ⟨3, braked, (by decide +kernel)⟩,
   ⟨9, braked, (by decide +kernel)⟩,
   ⟨0, { brk braked 0 { degr := 1 } with mram := { W0.mram with brakeLeft := [(0, 1)] } }, (by decide +kernel)⟩⟩
/-- The premises of Obligations.BrakeTestsEndWithTheirResult are met. -/
theorem witness_brake_tests_end_with_their_result :
    (∃ (s : State), s.saf.test = none) ∧
    (∃ (b : BrakeTest) (s : State), s.saf.test = some b ∧ 1 ≤ b.phase ∧ b.phase ≤ 3) ∧
    (∃ (b : BrakeTest) (s : State), s.saf.test = some b ∧ 1 ≤ b.phase ∧ b.phase ≤ 3) ∧
    (∃ (b : BrakeTest) (s : State), s.Sound ∧ s.saf.test = some b ∧ b.phase = 4 ∧ b.chan ≤ 7) ∧
    (∃ (b : BrakeTest) (s : State), s.Sound ∧ s.saf.test = some b ∧ b.phase = 4 ∧ b.chan ≤ 7) ∧
    (∃ (n : Nat) (b : BrakeTest) (s : State), s.saf.test = some b ∧ (b.phase ≤ 1 ∨ n ≤ bits (s.safPar (0x1040 + b.chan) 2) 31 16)) ∧
    (∃ (n : Nat) (b : BrakeTest) (s : State), s.saf.test = some b ∧ (b.phase ≤ 1 ∨ n ≤ bits (s.safPar (0x1040 + b.chan) 2) 31 16)) ∧
    (∃ (n : Nat) (b : BrakeTest) (s : State), s.Sound ∧ s.saf.test = some b ∧ 2 ≤ b.phase ∧ b.chan ≤ 7 ∧ bits (s.safPar (0x1040 + b.chan) 2) 31 16 < n) ∧
    (∃ (n : Nat) (b : BrakeTest) (s : State), s.Sound ∧ s.saf.test = some b ∧ 2 ≤ b.phase ∧ b.chan ≤ 7 ∧ bits (s.safPar (0x1040 + b.chan) 2) 31 16 < n) ∧
    (∃ (n : Nat) (s : State), s.Sound ∧ n ≤ 7 ∧ n < s.saf.brakes.length ∧ s.brkEn n = true ∧ (s.safPar 0x1007).toNat ≠ 0 ∧ (s.safPar 0x1007).toNat ≤ aget 0 s.mram.brakeAge n ∧ (s.brake n).dueRaised = false) ∧
    (∃ (n : Nat) (s : State), s.Sound ∧ n ≤ 7 ∧ n < s.saf.brakes.length ∧ s.brkEn n = true ∧ (s.safPar 0x1007).toNat ≠ 0 ∧ (s.safPar 0x1007).toNat ≤ aget 0 s.mram.brakeAge n ∧ (s.brake n).dueRaised = false) ∧
    (∃ (n : Nat) (s : State), (s.brkEn n = false ∨ (s.safPar 0x1007).toNat = 0 ∨ aget 0 s.mram.brakeAge n < (s.safPar 0x1007).toNat ∨ (s.brake n).dueRaised = true)) ∧
    (∃ (n : Nat) (s : State), (s.brkEn n = false ∨ (s.safPar 0x1007).toNat = 0 ∨ aget 0 s.mram.brakeAge n < (s.safPar 0x1007).toNat ∨ (s.brake n).dueRaised = true)) ∧
    (∃ (o : Bool) (s : State), s.clk.vfld = true ∧ (if o then s.pins.sit1 else s.pins.sit0) = true) ∧
    (∃ (o : Bool) (n : Nat) (s : State), s.Sound ∧ s.clk.vfld = true ∧ (if o then s.pins.sit1 else s.pins.sit0) = true ∧ n < 16 ∧ n < s.saf.pairs.length ∧ s.sipUsed n = true) ∧
    (∃ (o : Bool) (n : Nat) (s : State), s.Sound ∧ s.clk.vfld = true ∧ (if o then s.pins.sit1 else s.pins.sit0) = true ∧ n < 16 ∧ n < s.saf.pairs.length ∧ s.sipUsed n = true) ∧
    (∃ (o : Bool) (l : List Nat) (s : State), (s.clk.vfld = false ∨ (if o then s.pins.sit1 else s.pins.sit0) = false)) :=
  ⟨⟨W0, (by decide +kernel)⟩,
   ⟨⟨0, 3, 1, 5, 7⟩, saf braked (fun a => { a with test := some ⟨0, 3, 1, 5, 7⟩ }), (by decide +kernel), (by decide +kernel), (by decide +kernel)⟩,
   ⟨⟨0, 3, 3, 5, 7⟩, saf braked (fun a => { a with test := some ⟨0, 3, 3, 5, 7⟩ }), (by decide +kernel), (by decide +kernel), (by decide +kernel)⟩,
   ⟨⟨0, 3, 4, 5, 65535⟩, upd (saf braked (fun a => { a with test := some ⟨0, 3, 4, 5, 65535⟩ })) [(F_SAF_STATUS_TEST, 1), (F_SAF_BRK_STAT_TEST_DUE 0, 1)], sound_of (by decide +kernel), (by decide +kernel), (by decide +kernel), (by decide +kernel)⟩,
   ⟨⟨7, 3, 4, 5, 0⟩, saf braked (fun a => { a with test := some ⟨7, 3, 4, 5, 0⟩ }), sound_of (by decide +kernel), (by decide +kernel), (by decide +kernel), (by decide +kernel)⟩,
   ⟨500, ⟨0, 3, 1, 5, 7⟩, saf braked (fun a => { a with test := some ⟨0, 3, 1, 5, 7⟩ }), (by decide +kernel), (by decide +kernel)⟩,
   ⟨5, ⟨0, 3, 4, 5, 7⟩, saf braked (fun a => { a with test := some ⟨0, 3, 4, 5, 7⟩ }), (by decide +kernel), (by decide +kernel)⟩,
   ⟨6, ⟨0, 3, 2, 5, 7⟩, saf braked (fun a => { a with test := some ⟨0, 3, 2, 5, 7⟩ }), sound_of (by decide +kernel), (by decide +kernel), (by decide +kernel), (by decide +kernel), (by decide +kernel)⟩,
   ⟨6, ⟨7, 3, 4, 5, 7⟩, saf braked (fun a => { a with test := some ⟨7, 3, 4, 5, 7⟩ }), sound_of (by decide +kernel), (by decide +kernel), (by decide +kernel), (by decide +kernel), (by decide +kernel)⟩,
   ⟨7, { braked with mram := { W0.mram with brakeAge := [(7, 24)] } }, sound_of (by decide +kernel), (by decide +kernel), (by decide +kernel), (by decide +kernel), (by decide +kernel), (by decide +kernel), (by decide +kernel)⟩,
   ⟨0, { brk braked 0 { hs := true } with mram := { W0.mram with brakeAge := [(0, 2500)] } }, sound_of (by decide +kernel), (by decide +kernel), (by decide +kernel), (by decide +kernel), (by decide +kernel), (by decide +kernel), (by decide +kernel)⟩,
   ⟨1, braked, (by decide +kernel)⟩,
   ⟨0, brk braked 0 { dueRaised := true }, (by decide +kernel)⟩,
   ⟨true, { safeConn with pins := { safeConn.pins with sit1 := true } }, (by decide +kernel), (by decide +kernel)⟩,
   ⟨true, 0, { safeConn with pins := { safeConn.pins with sit1 := true } }, sound_of (by decide +kernel), (by decide +kernel), (by decide +kernel), (by decide +kernel), (by decide +kernel), (by decide +kernel)⟩,
   ⟨false, 15, { safeConn with pins := { safeConn.pins with sit0 := true } }, sound_of (by decide +kernel), (by decide +kernel), (by decide +kernel), (by decide +kernel), (by decide +kernel), (by decide +kernel)⟩,
   ⟨true, [0], W0, (by decide +kernel)⟩⟩
/-- The premises of Obligations.SafeInputsAndSafeDataAct are met. -/
theorem witness_safe_inputs_and_safe_data_act :
    (∃ (p : Nat) (n : Nat) (b : Bool) (c : Bool) (s : State), s.Sound ∧ p < 16 ∧ p < s.saf.pairs.length ∧ s.sipUsed p = true ∧ (if b && decide ((s.safPar (0x1020 + p) 0).toNat = 2) then !c else c) = false) ∧
    (∃ (p : Nat) (n : Nat) (b : Bool) (c : Bool) (s : State), s.Sound ∧ p < 16 ∧ p < s.saf.pairs.length ∧ s.sipUsed p = true ∧ (if b && decide ((s.safPar (0x1020 + p) 0).toNat = 2) then !c else c) = false) ∧
    (∃ (p : Nat) (n : Nat) (b : Bool) (c : Bool) (s : State), s.Sound ∧ p < 16 ∧ p < s.saf.pairs.length ∧ s.sipUsed p = true ∧ (if b && decide ((s.safPar (0x1020 + p) 0).toNat = 2) then !c else c) = false) ∧
    (∃ (p : Nat) (n : Nat) (b : Bool) (c : Bool) (s : State), s.Sound ∧ p < 16 ∧ p < s.saf.pairs.length ∧ s.sipUsed p = true ∧ s.contactNormal p (!b) = true ∧ (if b && decide ((s.safPar (0x1020 + p) 0).toNat = 2) then !c else c) = true ∧ (s.pair p).disc = false ∧ (s.pair p).pulse = []) ∧
    (∃ (p : Nat) (n : Nat) (b : Bool) (c : Bool) (s : State), s.Sound ∧ p < 16 ∧ p < s.saf.pairs.length ∧ s.sipUsed p = true ∧ s.contactNormal p (!b) = true ∧ (if b && decide ((s.safPar (0x1020 + p) 0).toNat = 2) then !c else c) = true ∧ (s.pair p).disc = false ∧ (s.pair p).pulse = []) ∧
    (∃ (p : Nat) (e : Nat) (s : State), s.Sound ∧ p < 16 ∧ p < s.saf.pairs.length ∧ (s.pair p).differSince = some e) ∧
    (∃ (p : Nat) (e : Nat) (s : State), s.Sound ∧ p < 16 ∧ p < s.saf.pairs.length ∧ (s.pair p).differSince = some e) ∧
    (∃ (l : Bool) (b : List Byte) (n : Nat) (c : Nat) (s : State), c < s.saf.conns.length ∧ s.connFor b = some c ∧ safeFrameOk b = true ∧ (frameField b 6 2 = (s.safPar 0x1001).toNat ∨ frameField b 6 2 = 0xFFFF) ∧ (s.conn c).lastSeq ≠ some (frameField b 8 4) ∧ seqAbove (s.conn c).lastSeq (frameField b 8 4) = true ∧ s.timely c (frameField b 0xC 8) n = true ∧ (∀ w ∈ (s.conn c).waiting, frameField w.bytes 8 4 ≠ frameField b 8 4)) ∧
    (∃ (l : Bool) (b : List Byte) (n : Nat) (c : Nat) (s : State), c < s.saf.conns.length ∧ s.connFor b = some c ∧ safeFrameOk b = true ∧ (frameField b 6 2 = (s.safPar 0x1001).toNat ∨ frameField b 6 2 = 0xFFFF) ∧ (s.conn c).lastSeq ≠ some (frameField b 8 4) ∧ seqAbove (s.conn c).lastSeq (frameField b 8 4) = true ∧ s.timely c (frameField b 0xC 8) n = true ∧ (∀ w ∈ (s.conn c).waiting, frameField w.bytes 8 4 ≠ frameField b 8 4)) ∧
    (∃ (l : Bool) (b : List Byte) (w : WaitingCopy) (n : Nat) (c : Nat) (s : State), s.Sound ∧ c < 16 ∧ c < s.saf.conns.length ∧ s.connFor b = some c ∧ safeFrameOk b = true ∧ (frameField b 6 2 = (s.safPar 0x1001).toNat ∨ frameField b 6 2 = 0xFFFF) ∧ (s.conn c).lastSeq ≠ some (frameField b 8 4) ∧ seqAbove (s.conn c).lastSeq (frameField b 8 4) = true ∧ s.timely c (frameField b 0xC 8) n = true ∧ (s.conn c).waiting.find? (fun w => frameField w.bytes 8 4 == frameField b 8 4) = some w ∧ w.lanB = !l ∧ w.bytes ≠ b) ∧
    (∃ (l : Bool) (b : List Byte) (w : WaitingCopy) (n : Nat) (c : Nat) (s : State), s.Sound ∧ c < 16 ∧ c < s.saf.conns.length ∧ s.connFor b = some c ∧ safeFrameOk b = true ∧ (frameField b 6 2 = (s.safPar 0x1001).toNat ∨ frameField b 6 2 = 0xFFFF) ∧ (s.conn c).lastSeq ≠ some (frameField b 8 4) ∧ seqAbove (s.conn c).lastSeq (frameField b 8 4) = true ∧ s.timely c (frameField b 0xC 8) n = true ∧ (s.conn c).waiting.find? (fun w => frameField w.bytes 8 4 == frameField b 8 4) = some w ∧ w.lanB = !l ∧ w.bytes = b) ∧
    (∃ (l : Bool) (b : List Byte) (w : WaitingCopy) (n : Nat) (c : Nat) (s : State), s.Sound ∧ c < 16 ∧ c < s.saf.conns.length ∧ s.connFor b = some c ∧ safeFrameOk b = true ∧ (frameField b 6 2 = (s.safPar 0x1001).toNat ∨ frameField b 6 2 = 0xFFFF) ∧ (s.conn c).lastSeq ≠ some (frameField b 8 4) ∧ seqAbove (s.conn c).lastSeq (frameField b 8 4) = true ∧ s.timely c (frameField b 0xC 8) n = true ∧ (s.conn c).waiting.find? (fun w => frameField w.bytes 8 4 == frameField b 8 4) = some w ∧ w.lanB = !l ∧ w.bytes = b) ∧
    (∃ (l : Bool) (b : List Byte) (n : Nat) (c : Nat) (s : State), s.Sound ∧ c < 16 ∧ s.connFor b = some c ∧ safeFrameOk b = false) ∧
    (∃ (b : List Byte) (n : Nat) (c : Nat) (l : Bool) (s : State), s.connFor b = some c ∧ safeFrameOk b = true ∧ (s.conn c).lastSeq = some (frameField b 8 4) ∧ (s.conn c).accepted = b) ∧
    (∃ (b : List Byte) (n : Nat) (l : Bool) (s : State), s.connFor b = none) ∧
    (∃ (c : Nat) (w : WaitingCopy) (r : List WaitingCopy) (s : State), s.Sound ∧ c < 16 ∧ c < s.saf.conns.length ∧ (s.conn c).waiting = w :: r ∧ seqAbove (s.conn c).lastSeq (frameField w.bytes 8 4) = true) ∧
    (∃ (c : Nat) (w : WaitingCopy) (r : List WaitingCopy) (s : State), s.Sound ∧ c < 16 ∧ c < s.saf.conns.length ∧ (s.conn c).waiting = w :: r ∧ seqAbove (s.conn c).lastSeq (frameField w.bytes 8 4) = true) ∧
    (∃ (c : Nat) (w : WaitingCopy) (r : List WaitingCopy) (s : State), s.Sound ∧ c < 16 ∧ c < s.saf.conns.length ∧ (s.conn c).waiting = w :: r ∧ seqAbove (s.conn c).lastSeq (frameField w.bytes 8 4) = true) ∧
    (∃ (c : Nat) (s : State), s.Sound ∧ c < 16 ∧ c < s.saf.conns.length ∧ s.connUsed c = true ∧ s.connSends c = false ∧ (s.conn c).timedOut = false) ∧
    (∃ (c : Nat) (s : State), s.Sound ∧ c < 16 ∧ c < s.saf.conns.length ∧ s.connUsed c = true ∧ s.connSends c = false ∧ (s.conn c).timedOut = false) ∧
    (∃ (s : State), s.Sound) ∧
    (∃ (s : State), s.Sound) ∧
    (∃ (s : State), s.Sound ∧ s.pat.testPort = true ∧ s.pins.testEn = true) ∧
    (∃ (s : State), (s.pat.testPort = false ∨ s.pins.testEn = false)) :=
  ⟨⟨0, 5, false, false, prs safeConn 0 { demand := false }, sound_of (by decide +kernel), (by decide +kernel), (by decide +kernel), (by decide +kernel), (by decide +kernel)⟩,
   ⟨15, 5, true, true, prs safeConn 15 { demand := false }, sound_of (by decide +kernel), (by decide +kernel), (by decide +kernel), (by decide +kernel), (by decide +kernel)⟩,
   ⟨15, 5, false, false, safeConn, sound_of (by decide +kernel), (by decide +kernel), (by decide +kernel), (by decide +kernel), (by decide +kernel)⟩,
   ⟨0, 5, false, true, upd safeConn [(bitAt A_SAF_SIP_RAW 16, 1)], sound_of (by decide +kernel), (by decide +kernel), (by decide +kernel), (by decide +kernel), (by decide +kernel), (by decide +kernel), (by decide +kernel), (by decide +kernel)⟩,
   ⟨15, 5, true, false, upd safeConn [(bitAt A_SAF_SIP_RAW 15, 1)], sound_of (by decide +kernel), (by decide +kernel), (by decide +kernel), (by decide +kernel), (by decide +kernel), (by decide +kernel), (by decide +kernel), (by decide +kernel)⟩,
   ⟨0, 7, prs safeConn 0 { demand := false, differSince := some 7 }, sound_of (by decide +kernel), (by decide +kernel), (by decide +kernel), (by decide +kernel)⟩,
   ⟨15, 7, prs safeConn 15 { differSince := some 7 }, sound_of (by decide +kernel), (by decide +kernel), (by decide +kernel), (by decide +kernel)⟩,
   ⟨false, sfr 0x11 5 9 7 1000 [1#8, 0#8, 0#8, 0#8], 1000, 3, safeConn, (by decide +kernel), (by decide +kernel), (by decide +kernel), (by decide +kernel), (by decide +kernel), (by decide +kernel), (by decide +kernel), (by decide +kernel)⟩,
   ⟨true, sfr 0x11 5 0xFFFF 8 1000000 [1#8, 0#8, 0#8, 0#8], 0, 3, cnn safeConn 3 { lastSeq := some 7 }, (by decide +kernel), (by decide +kernel), (by decide +kernel), (by decide +kernel), (by decide +kernel), (by decide +kernel), (by decide +kernel), (by decide +kernel)⟩,
   ⟨false, sfr 0x11 5 9 7 1000 [1#8, 0#8, 0#8, 0#8], ⟨true, sfr 0x11 5 9 7 1000 [0#8, 0#8, 0#8, 0#8], 50⟩, 1000, 3, cnn safeConn 3 { waiting := [⟨true, sfr 0x11 5 9 7 1000 [0#8, 0#8, 0#8, 0#8], 50⟩], run := 4 }, sound_of (by decide +kernel), (by decide +kernel), (by decide +kernel), (by decide +kernel), (by decide +kernel), (by decide +kernel), (by decide +kernel), (by decide +kernel), (by decide +kernel), (by decide +kernel), (by decide +kernel), (by decide +kernel)⟩,
   ⟨false, sfr 0x11 5 9 7 1000 [1#8, 0#8, 0#8, 0#8], ⟨true, sfr 0x11 5 9 7 1000 [1#8, 0#8, 0#8, 0#8], 50⟩, 1000, 3, cnn safeConn 3 { waiting := [⟨true, sfr 0x11 5 9 7 1000 [1#8, 0#8, 0#8, 0#8], 50⟩], run := 4 }, sound_of (by decide +kernel), (by decide +kernel), (by decide +kernel), (by decide +kernel), (by decide +kernel), (by decide +kernel), (by decide +kernel), (by decide +kernel), (by decide +kernel), (by decide +kernel), (by decide +kernel), (by decide +kernel)⟩,
   ⟨false, sfr 0x11 5 9 0 1000 [0#8, 0#8, 0#8, 0#8], ⟨true, sfr 0x11 5 9 0 1000 [0#8, 0#8, 0#8, 0#8], 5⟩, 100001000, 3, cnn safeConn 3 { waiting := [⟨true, sfr 0x11 5 9 0 1000 [0#8, 0#8, 0#8, 0#8], 5⟩], lastSeq := some 4294967295 }, sound_of (by decide +kernel), (by decide +kernel), (by decide +kernel), (by decide +kernel), (by decide +kernel), (by decide +kernel), (by decide +kernel), (by decide +kernel), (by decide +kernel), (by decide +kernel), (by decide +kernel), (by decide +kernel)⟩,
   ⟨false, (sfr 0x11 5 9 7 1000 [1#8]).set 27 0#8, 1000, 3, safeConn, sound_of (by decide +kernel), (by decide +kernel), (by decide +kernel), (by decide +kernel)⟩,
   ⟨sfr 0x11 5 9 7 1000 [1#8, 0#8, 0#8, 0#8], 7, 3, true, cnn safeConn 3 { lastSeq := some 7, accepted := sfr 0x11 5 9 7 1000 [1#8, 0#8, 0#8, 0#8] }, (by decide +kernel), (by decide +kernel), (by decide +kernel), (by decide +kernel)⟩,
   ⟨[], 7, true, safeConn, (by decide +kernel)⟩,
   ⟨3, ⟨true, sfr 0x11 5 9 7 1000 [0#8, 0#8, 0#8, 0#8], 50⟩, [], cnn safeConn 3 { waiting := [⟨true, sfr 0x11 5 9 7 1000 [0#8, 0#8, 0#8, 0#8], 50⟩] }, sound_of (by decide +kernel), (by decide +kernel), (by decide +kernel), (by decide +kernel), (by decide +kernel)⟩,
   ⟨3, ⟨true, sfr 0x11 5 9 7 1000 [1#8, 0#8, 0#8, 0#8], 50⟩, [⟨true, sfr 0x11 5 9 8 1000 [1#8, 0#8, 0#8, 0#8], 50⟩], upd (cnn safeConn 3 { waiting := [⟨true, sfr 0x11 5 9 7 1000 [1#8, 0#8, 0#8, 0#8], 50⟩, ⟨true, sfr 0x11 5 9 8 1000 [1#8, 0#8, 0#8, 0#8], 50⟩] }) [(F_SAF_CONN_STAT_SINGLE 3, 9)], sound_of (by decide +kernel), (by decide +kernel), (by decide +kernel), (by decide +kernel), (by decide +kernel)⟩,
   ⟨0, ⟨true, [], 50⟩, [], upd (cnn safeConn 0 { waiting := [⟨true, [], 50⟩] }) [(F_SAF_CONN_STAT_SINGLE 0, 255)], sound_of (by decide +kernel), (by decide +kernel), (by decide +kernel), (by decide +kernel), (by decide +kernel)⟩,
   ⟨3, safeConn, sound_of (by decide +kernel), (by decide +kernel), (by decide +kernel), (by decide +kernel), (by decide +kernel), (by decide +kernel)⟩,
   ⟨15, spar safeConn [(0x106F, [0x11000006, 0, 100, 0])], sound_of (by decide +kernel), (by decide +kernel), (by decide +kernel), (by decide +kernel), (by decide +kernel), (by decide +kernel)⟩,
   ⟨W0, sound_of (by decide +kernel)⟩,
   ⟨dev safeConn (fun d => { d with st := .active }), sound_of (by decide +kernel)⟩,
   ⟨{ safeConn with pat := { safeConn.pat with testPort := true }, pins := { W0.pins with testEn := true } }, sound_of (by decide +kernel), (by decide +kernel), (by decide +kernel)⟩,
   ⟨W0, (by decide +kernel)⟩⟩
/-- The premises of Obligations.SatelliteChannelsAcquireTrackAndLose are met. -/
theorem witness_satellite_channels_acquire_track_and_lose :
    (∃ (n : Nat) (i : Nat) (s : State), s.Sound ∧ s.antSupplied n = true ∧ s.fld (F_GNS_ANT_STATE n) ≠ 3 ∧ 2 ≤ i ∧ i ≤ 80) ∧
    (∃ (n : Nat) (i : Nat) (s : State), s.Sound ∧ s.antSupplied n = true ∧ s.fld (F_GNS_ANT_STATE n) ≠ 3 ∧ 2 ≤ i ∧ i ≤ 80) ∧
    (∃ (n : Nat) (i : Nat) (s : State), s.Sound ∧ s.antSupplied n = true ∧ s.fld (F_GNS_ANT_STATE n) ≠ 3 ∧ s.fld (F_GNS_ANT_STATE n) ≠ 2 ∧ i < 2) ∧
    (∃ (n : Nat) (i : Nat) (s : State), s.Sound ∧ s.antSupplied n = true ∧ s.fld (F_GNS_ANT_STATE n) ≠ 3 ∧ n ∉ s.gns.antRetry ∧ 80 < i ∧ 1 ≤ aget 0 s.gns.antOver n) ∧
    (∃ (n : Nat) (i : Nat) (s : State), (s.antSupplied n = false ∨ (s.fld (F_GNS_ANT_STATE n) = 3 ∧ n ∉ s.gns.antRetry))) ∧
    (∃ (n : Nat) (i : Nat) (s : State), (s.antSupplied n = false ∨ (s.fld (F_GNS_ANT_STATE n) = 3 ∧ n ∉ s.gns.antRetry))) ∧
    (∃ (n : Nat) (s : State), s.antSupplied n = true ∧ s.fld (F_GNS_ANT_STATE n) = 3) ∧
    (∃ (e : Nat) (g : Nat) (v : Nat) (a : Nat) (b : Nat) (k : Nat) (p : Nat) (w : Bool) (s : State), e < 2 ∧ s.searchable ⟨g, v, a, gloField g v⟩ = true ∧ b ≠ 0 ∧ b ≤ acqBlocks g ∧ k < acqBins g w ∧ (w = true → s.predictable (satKey g v) = true)) ∧
    (∃ (e : Nat) (g : Nat) (v : Nat) (a : Nat) (b : Nat) (k : Nat) (p : Nat) (w : Bool) (s : State), e < 2 ∧ s.searchable ⟨g, v, a, gloField g v⟩ = true ∧ b ≠ 0 ∧ b ≤ acqBlocks g ∧ k < acqBins g w ∧ (w = true → s.predictable (satKey g v) = true)) ∧
    (∃ (e : Nat) (g : Nat) (v : Nat) (a : Nat) (b : Nat) (k : Nat) (p : Nat) (w : Bool) (s : State), (2 ≤ e ∨ s.searchable ⟨g, v, a, gloField g v⟩ = false ∨ b = 0 ∨ acqBlocks g < b ∨ acqBins g w ≤ k ∨ (w = true ∧ s.predictable (satKey g v) = false))) ∧
    (∃ (e : Nat) (g : Nat) (v : Nat) (a : Nat) (b : Nat) (k : Nat) (p : Nat) (w : Bool) (s : State), (2 ≤ e ∨ s.searchable ⟨g, v, a, gloField g v⟩ = false ∨ b = 0 ∨ acqBlocks g < b ∨ acqBins g w ≤ k ∨ (w = true ∧ s.predictable (satKey g v) = false))) ∧
    (∃ (e : Nat) (g : Nat) (v : Nat) (a : Nat) (b : Nat) (k : Nat) (p : Nat) (w : Bool) (s : State), (2 ≤ e ∨ s.searchable ⟨g, v, a, gloField g v⟩ = false ∨ b = 0 ∨ acqBlocks g < b ∨ acqBins g w ≤ k ∨ (w = true ∧ s.predictable (satKey g v) = false))) ∧
    (∃ (e : Nat) (g : Nat) (v : Nat) (a : Nat) (b : Nat) (k : Nat) (p : Nat) (w : Bool) (s : State), (2 ≤ e ∨ s.searchable ⟨g, v, a, gloField g v⟩ = false ∨ b = 0 ∨ acqBlocks g < b ∨ acqBins g w ≤ k ∨ (w = true ∧ s.predictable (satKey g v) = false))) ∧
    (∃ (e : Nat) (p : Nat) (h : Int) (d : Detection) (s : State), afind s.gns.detected e = some d ∧ s.par 0x060C < p) ∧
    (∃ (e : Nat) (p : Nat) (h : Int) (d : Detection) (s : State), afind s.gns.detected e = some d ∧ p ≤ s.par 0x060C) ∧
    (∃ (n : Nat) (s : State), (s.gchan n).st = 1) ∧
    (∃ (n : Nat) (s : State), (s.gchan n).st = 2) ∧
    (∃ (n : Nat) (s : State), (s.gchan n).st = 2) ∧
    (∃ (n : Nat) (s : State), (s.gchan n).st = 2) ∧
    (∃ (n : Nat) (s : State), (s.gchan n).st = 2) ∧
    (∃ (n : Nat) (s : State), (s.gchan n).st = 2) ∧
    (∃ (n : Nat) (s : State), (s.gchan n).st = 0) ∧
    (∃ (c : Nat) (n : Nat) (a : Nat) (l : List Nat) (b : Bool) (d : Bool) (s : State), s.shadowSpares c = a :: l ∧ afind s.hlt.shadowVote c = none ∧ afind s.hlt.shadowOf c = some n) ∧
    (∃ (c : Nat) (n : Nat) (a : Nat) (b : Nat) (l : List Nat) (f : Bool) (g : Bool) (s : State), s.shadowSpares c = a :: b :: l ∧ afind s.hlt.shadowVote c = none ∧ afind s.hlt.shadowOf c = some n ∧ s.Compared n a) ∧
    (∃ (c : Nat) (n : Nat) (a : Nat) (b : Nat) (m : Nat) (l : List Nat) (g : Bool) (s : State), s.Sound ∧ s.shadowSpares c = a :: b :: l ∧ afind s.hlt.shadowVote c = some m ∧ afind s.hlt.shadowOf c = some n ∧ s.Compared n a) ∧
    (∃ (c : Nat) (n : Nat) (a : Nat) (b : Nat) (m : Nat) (l : List Nat) (g : Bool) (s : State), s.Sound ∧ n < 256 ∧ s.shadowSpares c = a :: b :: l ∧ afind s.hlt.shadowVote c = some m ∧ afind s.hlt.shadowOf c = some n ∧ s.Compared n a) ∧
    (∃ (c : Nat) (n : Nat) (a : Nat) (b : Nat) (m : Nat) (l : List Nat) (g : Bool) (s : State), s.Sound ∧ n < 256 ∧ s.shadowSpares c = a :: b :: l ∧ afind s.hlt.shadowVote c = some m ∧ afind s.hlt.shadowOf c = some n ∧ s.Compared n a) ∧
    (∃ (c : Nat) (n : Nat) (a : Nat) (l : List Nat) (f : Bool) (g : Bool) (h : Bool) (s : State), s.shadowSpares c = a :: l ∧ afind s.hlt.shadowOf c = some n ∧ ¬s.Compared n a) ∧
    (∃ (c : Nat) (f : Bool) (g : Bool) (h : Bool) (s : State), afind s.hlt.shadowOf c = none) :=
  ⟨⟨0, 2, gns sat (fun g => { g with antOver := [(0, 1)] }), sound_of (by decide +kernel), (by decide +kernel), (by decide +kernel), (by decide +kernel), (by decide +kernel)⟩,
   ⟨3, 80, gns (upd sat [(F_GNS_ANT_STATE 3, 2)]) (fun g => { g with measAt := [(3, 70)] }), sound_of (by decide +kernel), (by decide +kernel), (by decide +kernel), (by decide +kernel), (by decide +kernel)⟩,
   ⟨0, 1, sat, sound_of (by decide +kernel), (by decide +kernel), (by decide +kernel), (by decide +kernel), (by decide +kernel)⟩,
   ⟨1, 81, gns sat (fun g => { g with antOver := [(1, 1)] }), sound_of (by decide +kernel), (by decide +kernel), (by decide +kernel), (by decide +kernel), (by decide +kernel), (by decide +kernel)⟩,
   ⟨4, 50, sat, (by decide +kernel)⟩,
   ⟨0, 50, upd sat [(F_GNS_ANT_STATE 0, 3)], (by decide +kernel)⟩,
   ⟨0, gns (upd sat [(F_GNS_ANT_STATE 0, 3)]) (fun g => { g with retryAt := [(0, 70)] }), (by decide +kernel), (by decide +kernel)⟩,
   ⟨0, 0, 1, 0, 1, 20, 100000, false, sat, (by decide +kernel), (by decide +kernel), (by decide +kernel), (by decide +kernel), (by decide +kernel), (by decide +kernel)⟩,
   ⟨1, 0, 63, 3, 20, 0, 0, true, gns sat (fun g => { g with detected := [(1, ⟨⟨0, 1, 0, 0⟩, 3, false, 0⟩)], aiding := { g.aiding with fixAt := some 4, ephem := [(63, 5)] } }), (by decide +kernel), (by decide +kernel), (by decide +kernel), (by decide +kernel), (by decide +kernel), (by decide +kernel)⟩,
   ⟨2, 0, 1, 0, 1, 0, 1, false, W0, (by decide +kernel)⟩,
   ⟨1, 0, 1, 0, 21, 0, 1, false, sat, (by decide +kernel)⟩,
   ⟨1, 0, 1, 0, 1, 0, 1, true, sat, (by decide +kernel)⟩,
   ⟨1, 0, 1, 0, 1, 21, 1, false, sat, (by decide +kernel)⟩,
   ⟨0, 1000000, 300, ⟨⟨0, 1, 0, 0⟩, 3, false, 4⟩, gns sat (fun g => { g with acq := [⟨0, 2, 0, 0⟩, ⟨0, 1, 0, 0⟩], detected := [(0, ⟨⟨0, 1, 0, 0⟩, 3, false, 4⟩)], handed := [(⟨0, 1, 0, 0⟩, 5)] }), (by decide +kernel), (by decide +kernel)⟩,
   ⟨0, 0, 5, ⟨⟨0, 1, 0, 0⟩, 3, false, 4⟩, gns sat (fun g => { g with detected := [(0, ⟨⟨0, 1, 0, 0⟩, 3, false, 4⟩)] }), (by decide +kernel), (by decide +kernel)⟩,
   ⟨7, chan 7 { st := 1 } sat, (by decide +kernel)⟩,
   ⟨3, hurt, (by decide +kernel)⟩,
   ⟨3, hurt, (by decide +kernel)⟩,
   ⟨3, hurt, (by decide +kernel)⟩,
   ⟨3, chan 3 { st := 2, slipCnt := 255 } hurt, (by decide +kernel)⟩,
   ⟨3, hurt, (by decide +kernel)⟩,
   ⟨9, hurt, (by decide +kernel)⟩,
   ⟨0, 3, 256, [257], true, false, shadowing, (by decide +kernel), (by decide +kernel), (by decide +kernel)⟩,
   ⟨0, 3, 256, 257, [], true, true, shadowing, (by decide +kernel), (by decide +kernel), (by decide +kernel), (by unfold State.Compared; decide +kernel)⟩,
   ⟨0, 3, 256, 257, 3, [], true, hlt shadowing (fun h => { h with shadowVote := [(0, 3)] }), sound_of (by decide +kernel), (by decide +kernel), (by decide +kernel), (by decide +kernel), (by unfold State.Compared; decide +kernel)⟩,
   ⟨0, 3, 256, 257, 3, [], true, hlt shadowing (fun h => { h with shadowVote := [(0, 3)] }), sound_of (by decide +kernel), (by decide +kernel), (by decide +kernel), (by decide +kernel), (by decide +kernel), (by unfold State.Compared; decide +kernel)⟩,
   ⟨0, 3, 256, 257, 3, [], false, hlt shadowing (fun h => { h with shadowVote := [(0, 3)] }), sound_of (by decide +kernel), (by decide +kernel), (by decide +kernel), (by decide +kernel), (by decide +kernel), (by unfold State.Compared; decide +kernel)⟩,
   ⟨0, 3, 256, [257], false, true, true, chan 3 { st := 2, lost := true, triple := ⟨0, 5, 0, 0⟩ } shadowing, (by decide +kernel), (by decide +kernel), (by unfold State.Compared; decide +kernel)⟩,
   ⟨0, false, true, true, hurt, (by decide +kernel)⟩⟩
/-- The premises of Obligations.InterferenceFalseSignalsAndSnapshots are met. -/
theorem witness_interference_false_signals_and_snapshots :
    (∃ (k : Nat) (r : Nat) (a : Nat) (s : State), s.Sound ∧ s.gnsRuns = true ∧ k < 8 ∧ s.gns.noiseRef.isEmpty = false ∧ r - nth s.gns.noiseRef k ≤ 255 ∧ a ≤ 255 ∧ (∀ i < 4, s.notchOf k i = none)) ∧
    (∃ (k : Nat) (r : Nat) (a : Nat) (s : State), s.Sound ∧ s.gnsRuns = true ∧ k < 8 ∧ s.gns.noiseRef.isEmpty = false ∧ r - nth s.gns.noiseRef k ≤ 255 ∧ a ≤ 255 ∧ (∀ i < 4, s.notchOf k i = none)) ∧
    (∃ (k : Nat) (r : Nat) (a : Nat) (h : Nat) (f : Int) (p : Int × Nat) (s : State), s.Sound ∧ s.gnsRuns = true ∧ k < 8 ∧ s.par 0x060D ≤ h ∧ p ∈ aget [] s.gns.lines k ∧ sameLine p.1 f = true ∧ (∀ i < 4, s.notchOf k i = none)) ∧
    (∃ (k : Nat) (r : Nat) (a : Nat) (h : Nat) (f : Int) (p : Int × Nat) (s : State), s.Sound ∧ s.gnsRuns = true ∧ k < 8 ∧ s.par 0x060D ≤ h ∧ p ∈ aget [] s.gns.lines k ∧ sameLine p.1 f = true ∧ (∀ i < 4, s.notchOf k i = none)) ∧
    (∃ (k : Nat) (r : Nat) (a : Nat) (l : List (Int × Nat)) (s : State), (s.gnsRuns = false ∨ 8 ≤ k)) ∧
    (∃ (k : Nat) (n : Nat) (x : Notch) (s : State), s.Sound ∧ k < 8 ∧ n < 4 ∧ s.notchOf k n = some x) ∧
    (∃ (l : List Nat) (s : State), s.gnsRuns = true ∧ s.gns.noiseRef = []) ∧
    (∃ (l : List Nat) (s : State), s.gns.noiseRef ≠ []) ∧
    (∃ (s : State), s.Sound ∧ s.flag F_GNS_STATUS_JAM = true ∧ (∀ n < 8, s.noiseRise n < s.par 0x060E)) ∧
    (∃ (n : Nat) (s : State), n < 8 ∧ s.par 0x060E ≤ s.noiseRise n) ∧
    (∃ (n : Nat) (e : Nat) (s : State), (s.gchan n).suspect = true ∧ (s.gchan n).failedAt + 10 * sec = e ∧ (s.reach e).judgedLater e = false) ∧
    (∃ (d : Side) (e : Nat) (s : State), s.Sound ∧ s.gns.chk.suspicion = [sideCode d] ∧ s.suspicionEnd d = e ∧ (s.reach e).judgedLater e = false) ∧
    (∃ (d : Side) (e : Nat) (s : State), s.Sound ∧ s.gns.chk.suspicion = [sideCode d] ∧ s.suspicionEnd d = e ∧ (s.reach e).judgedLater e = false) ∧
    (∃ (d : Side) (n : Nat) (e : Nat) (s : State), (s.gchan n).failedAt + 10 * sec = e ∧ s.suspicionEnd d = e ∧ (s.reach e).judgedLater e = true) ∧
    (∃ (m : Nat) (s : State), s.Sound ∧ s.MayAccess m A_GNS_SNAP_CTRL true ∧ s.ringRuns = true ∧ s.gns.held = none ∧ s.gns.capture = none) ∧
    (∃ (m : Nat) (s : State), s.Sound ∧ s.MayAccess m A_GNS_SNAP_CTRL true ∧ s.gns.held.isSome = true) ∧
    (∃ (m : Nat) (s : State), s.Sound ∧ s.MayAccess m A_GNS_SNAP_CTRL true ∧ s.gns.held.isSome = true) ∧
    (∃ (m : Nat) (s : State), s.Sound ∧ s.MayAccess m A_GNS_SNAP_CTRL true ∧ s.gns.held.isSome = true) ∧
    (∃ (l : List IqSample) (c : Snapshot) (s : State), s.Sound ∧ s.gns.capture = some c ∧ s.gns.countedTwice = false) ∧
    (∃ (l : List IqSample) (s : State), s.gns.capture = none) ∧
    (∃ (n : Nat) (d : Nat) (s : State), s.Sound ∧ s.dev.st = .parked ∧ s.gns.renewing = false ∧ s.hasGnss = true ∧ n < 5) ∧
    (∃ (n : Nat) (d : Nat) (s : State), s.Sound ∧ s.dev.st = .parked ∧ s.gns.renewing = false ∧ s.hasGnss = true ∧ n < 5) ∧
    (∃ (n : Nat) (d : Nat) (s : State), s.Sound ∧ s.dev.st = .parked ∧ s.gns.renewing = false ∧ s.hasGnss = true ∧ 5 ≤ n) ∧
    (∃ (n : Nat) (d : Nat) (s : State), s.Sound ∧ s.dev.st = .parked ∧ s.gns.renewing = false ∧ s.hasGnss = true ∧ 5 ≤ n) ∧
    (∃ (s : State), s.Sound ∧ s.dev.st = .parked ∧ s.hasGnss = true ∧ s.gns.renewing = false) ∧
    (∃ (l : List Nat) (s : State), s.Sound ∧ s.gns.renewing = true) ∧
    (∃ (l : List Nat) (s : State), s.Sound ∧ s.gns.renewing = true) ∧
    (∃ (n : Nat) (d : Nat) (l : List Nat) (s : State), s.dev.st ≠ .parked ∧ s.gns.renewing = false) :=
  ⟨⟨0, 1000, 255, gns sat (fun g => { g with noiseRef := [900, 1, 1, 1, 1, 1, 1, 1], avgAt := [(0, 77)] }), sound_of (by decide +kernel), (by decide +kernel), (by decide +kernel), (by decide +kernel), (by decide +kernel), (by decide +kernel), (by decide +kernel)⟩,
   ⟨7, 5, 0, gns sat (fun g => { g with noiseRef := [900, 1, 1, 1, 1, 1, 1, 5] }), sound_of (by decide +kernel), (by decide +kernel), (by decide +kernel), (by decide +kernel), (by decide +kernel), (by decide +kernel), (by decide +kernel)⟩,
   ⟨0, 1000, 255, 30000, -500, (13481, 4), gns sat (fun g => { g with lines := [(0, [(0, 9), (13481, 4)])] }), sound_of (by decide +kernel), (by decide +kernel), (by decide +kernel), (by decide +kernel), (by decide +kernel), (by decide +kernel), (by decide +kernel)⟩,
   ⟨7, 0, 256, 4294967295, 500, (-13481, 40000), gns sat (fun g => { g with noiseRef := [900, 1, 1, 1, 1, 1, 1, 5], lines := [(7, [(-13481, 40000)])] }), sound_of (by decide +kernel), (by decide +kernel), (by decide +kernel), (by decide +kernel), (by decide +kernel), (by decide +kernel), (by decide +kernel)⟩,
   ⟨8, 0, 1, [], sat, (by decide +kernel)⟩,
   ⟨7, 3, ⟨5, 6, 70⟩, upd (gns sat (fun g => { g with notches := [(31, ⟨5, 6, 70⟩)] })) [(bitAt (A_GNS_STREAM 7) 19, 1), (word32 (A_GNS_NOTCH 7 3), 5)], sound_of (by decide +kernel), (by decide +kernel), (by decide +kernel), (by decide +kernel)⟩,
   ⟨[1, 2], sat, (by decide +kernel), (by decide +kernel)⟩,
   ⟨[1, 2], gns sat (fun g => { g with noiseRef := [3] }), (by decide +kernel)⟩,
   ⟨upd (par sat [(0x060E, [40])]) [(F_GNS_STATUS_JAM, 1), (F_GNS_STREAM_NOISE_RISE 7, 39)], sound_of (by decide +kernel), (by decide +kernel), (by decide +kernel)⟩,
   ⟨7, upd sat [(F_GNS_STREAM_NOISE_RISE 7, 255)], (by decide +kernel), (by decide +kernel)⟩,
   ⟨3, 10000000000, chan 3 { st := 2, suspect := true } hurt, (by decide +kernel), (by decide +kernel), (by decide +kernel)⟩,
   ⟨.cope, 60000000007, upd (gns (par sat [(0x0617, [60])]) (fun g => { g with chk := { g.chk with suspicion := [0], rxFailAt := [(0, 7)] } })) [(F_GNS_STATUS_SPOOF, 1)], sound_of (by decide +kernel), (by decide +kernel), (by decide +kernel), (by decide +kernel)⟩,
   ⟨.drag, 60000000000, upd (gns (par sat [(0x0617, [60])]) (fun g => { g with chk := { g.chk with suspicion := [1] } })) [(F_GNS_STATUS_SPOOF, 1)], sound_of (by decide +kernel), (by decide +kernel), (by decide +kernel), (by decide +kernel)⟩,
   ⟨.drag, 3, 10000000000, chan 3 { st := 2, suspect := true } (gns (par (dev sat (fun d => { d with nextFreeze := 10000000000 })) [(0x0617, [10])]) (fun g => { g with chk := { g.chk with suspicion := [1] } })), (by decide +kernel), (by decide +kernel), (by decide +kernel)⟩,
   ⟨0, open_ sat, sound_of (by decide +kernel), may_of (by decide +kernel), (by decide +kernel), (by decide +kernel), (by decide +kernel)⟩,
   ⟨0, open_ (upd (gns sat (fun g => { g with held := some snap })) [(F_GNS_SNAP_MISS_MISSED, 65535)]), sound_of (by decide +kernel), may_of (by decide +kernel), (by decide +kernel)⟩,
   ⟨0, open_ (upd (gns W0 (fun g => { g with held := some snap })) [(F_GNS_SNAP_MISS_MISSED, 5)]), sound_of (by decide +kernel), may_of (by decide +kernel), (by decide +kernel)⟩,
   ⟨0, open_ (upd (gns sat (fun g => { g with held := some snap })) [(F_GNS_SNAP_CTRL_HELD, 1)]), sound_of (by decide +kernel), may_of (by decide +kernel), (by decide +kernel)⟩,
   ⟨[⟨3, 7, 1, -3⟩], snap, upd (gns sat (fun g => { g with capture := some snap })) [(F_GNS_SNAP_CTRL_SNAP_ID, 65535), (F_GNS_SNAP_CTRL_CAPTURING, 1)], sound_of (by decide +kernel), (by decide +kernel), (by decide +kernel)⟩,
   ⟨[], W0, (by decide +kernel)⟩,
   ⟨4, 5, gns (dev sat (fun d => { d with st := .parked })) (fun g => { g with parkFails := 5, parkCheckAt := 77 }), sound_of (by decide +kernel), (by decide +kernel), (by decide +kernel), (by decide +kernel), (by decide +kernel)⟩,
   ⟨0, 5, gns (dev sat (fun d => { d with st := .parked })) (fun g => { g with parkFails := 6 }), sound_of (by decide +kernel), (by decide +kernel), (by decide +kernel), (by decide +kernel), (by decide +kernel)⟩,
   ⟨5, 1000000, gns (dev sat (fun d => { d with st := .parked })) (fun g => { g with parkFails := 6 }), sound_of (by decide +kernel), (by decide +kernel), (by decide +kernel), (by decide +kernel), (by decide +kernel)⟩,
   ⟨5, 0, gns (dev sat (fun d => { d with st := .parked })) (fun g => { g with parkFails := 6 }), sound_of (by decide +kernel), (by decide +kernel), (by decide +kernel), (by decide +kernel), (by decide +kernel)⟩,
   ⟨dev sat (fun d => { d with st := .parked }), sound_of (by decide +kernel), (by decide +kernel), (by decide +kernel), (by decide +kernel)⟩,
   ⟨[5, 6], gns (dev hurt (fun d => { d with st := .parked })) (fun g => { g with renewing := true }), sound_of (by decide +kernel), (by decide +kernel)⟩,
   ⟨[], gns W0 (fun g => { g with renewing := true }), sound_of (by decide +kernel), (by decide +kernel)⟩,
   ⟨3, 3, [], W0, (by decide +kernel), (by decide +kernel)⟩⟩
/-- The premises of Obligations.CanChannelsFilterQueueAndRecover are met. -/
theorem witness_can_channels_filter_queue_and_recover :
    (∃ (c : Nat) (f : CanFrame) (s : State), (s.flag (F_CAN_STATUS_EN c) = false ∨ 2 ≤ s.fld (F_CAN_STATUS_STATE c) ∨ (f.fdf = true ∧ s.flag (F_CAN_STATUS_FD c) = false))) ∧
    (∃ (c : Nat) (f : CanFrame) (s : State), (s.flag (F_CAN_STATUS_EN c) = false ∨ 2 ≤ s.fld (F_CAN_STATUS_STATE c) ∨ (f.fdf = true ∧ s.flag (F_CAN_STATUS_FD c) = false))) ∧
    (∃ (c : Nat) (f : CanFrame) (s : State), (s.flag (F_CAN_STATUS_EN c) = false ∨ 2 ≤ s.fld (F_CAN_STATUS_STATE c) ∨ (f.fdf = true ∧ s.flag (F_CAN_STATUS_FD c) = false))) ∧
    (∃ (c : Nat) (f : CanFrame) (s : State), s.Sound ∧ s.flag (F_CAN_STATUS_EN c) = true ∧ s.fld (F_CAN_STATUS_STATE c) < 2 ∧ f.fdf = false ∧ s.foreignRef c f = false ∧ (f.rtr = true ∨ s.canMatch c f.ide f.id = none) ∧ (s.canChan c).tx = []) ∧
    (∃ (c : Nat) (f : CanFrame) (s : State), s.Sound ∧ s.flag (F_CAN_STATUS_EN c) = true ∧ s.fld (F_CAN_STATUS_STATE c) < 2 ∧ f.fdf = false ∧ s.foreignRef c f = false ∧ (f.rtr = true ∨ s.canMatch c f.ide f.id = none) ∧ (s.canChan c).tx = []) ∧
    (∃ (c : Nat) (e : Nat) (f : CanFrame) (s : State), s.Sound ∧ c ≤ 5 ∧ s.flag (F_CAN_STATUS_EN c) = true ∧ s.fld (F_CAN_STATUS_STATE c) < 2 ∧ f.fdf = false ∧ s.foreignRef c f = false ∧ f.rtr = false ∧ s.canMatch c f.ide f.id = some (e, 2) ∧ (s.canChan c).q1.length < 64 ∧ (s.canChan c).tx = []) ∧
    (∃ (c : Nat) (e : Nat) (f : CanFrame) (s : State), s.Sound ∧ c ≤ 5 ∧ s.flag (F_CAN_STATUS_EN c) = true ∧ s.fld (F_CAN_STATUS_STATE c) < 2 ∧ f.fdf = false ∧ s.foreignRef c f = false ∧ f.rtr = false ∧ s.canMatch c f.ide f.id = some (e, 2) ∧ 64 ≤ (s.canChan c).q1.length ∧ (s.canChan c).tx = []) ∧
    (∃ (c : Nat) (e : Nat) (o : Nat) (f : CanFrame) (s : State), s.Sound ∧ c ≤ 5 ∧ s.flag (F_CAN_STATUS_EN c) = true ∧ s.fld (F_CAN_STATUS_STATE c) < 2 ∧ f.fdf = false ∧ f.ide = false ∧ s.foreignRef c f = false ∧ f.rtr = false ∧ s.canMatch c f.ide f.id = some (e, 1) ∧ (s.objsOf c 2).filter (fun o => (s.objW o 1).toNat == f.id && (bits (s.objW o 0) 3 3 == 1) == f.ide) = [o] ∧ (s.objsOf c 1).filter (fun o => (s.objW o 1).toNat == f.id && (bits (s.objW o 0) 3 3 == 1) == f.ide) = [] ∧ (s.canChan c).tx = []) ∧
    (∃ (c : Nat) (f : CanFrame) (g : CanTx) (s : State), s.Sound ∧ c ≤ 5 ∧ s.canSends c = true ∧ f.fdf = false ∧ s.foreignRef c f = false ∧ (f.rtr = true ∨ s.canMatch c f.ide f.id = none) ∧ (s.canChan c).tx = [g] ∧ g.isRef = false ∧ Nat.max (s.canChan c).busyTill g.due ≤ s.tim.el - (s.tim.wt - f.sof)) ∧
    (∃ (m : Nat) (c : Nat) (s : State), s.Sound ∧ c ≤ 5 ∧ s.MayAccess m (A_CAN_Q1_CTRL c) true ∧ (s.canChan c).q1.length ≤ 64) ∧
    (∃ (m : Nat) (c : Nat) (s : State), s.Sound ∧ c ≤ 5 ∧ s.MayAccess m (A_CAN_Q1_CTRL c) true ∧ (s.canChan c).q1.length ≤ 64) ∧
    (∃ (o : Nat) (s : State), s.Sound ∧ s.objIs o (s.objChan o) 2 = true ∧ (aget ({} : CanObj) s.can.objs o).timedOut = false) ∧
    (∃ (c : Nat) (a : Nat) (g : Nat) (p : FastPacket) (s : State), s.Sound ∧ c ≤ 5 ∧ (s.canChan c).fast.find? (fun q => q.source == a && q.pgn == g) = some p) ∧
    (∃ (c : Nat) (n : Nat) (r : Nat) (s : State), s.Sound ∧ c ≤ 5 ∧ s.flag (F_CAN_STATUS_EN c) = true ∧ s.fld (F_CAN_STATUS_STATE c) < 2 ∧ n ≤ 127 ∧ r ≤ 127 ∧ n < bits (s.canW c 3) 7 0 ∧ r < bits (s.canW c 3) 15 8) ∧
    (∃ (c : Nat) (n : Nat) (r : Nat) (s : State), s.Sound ∧ c ≤ 5 ∧ s.flag (F_CAN_STATUS_EN c) = true ∧ s.fld (F_CAN_STATUS_STATE c) < 2 ∧ n ≤ 127 ∧ r ≤ 127 ∧ n < bits (s.canW c 3) 7 0 ∧ r < bits (s.canW c 3) 15 8) ∧
    (∃ (c : Nat) (n : Nat) (r : Nat) (s : State), s.Sound ∧ c ≤ 5 ∧ s.flag (F_CAN_STATUS_EN c) = true ∧ s.fld (F_CAN_STATUS_STATE c) = 0 ∧ n ≤ 255 ∧ (127 < n ∨ 127 < r)) ∧
    (∃ (c : Nat) (n : Nat) (r : Nat) (s : State), s.Sound ∧ c ≤ 5 ∧ s.flag (F_CAN_STATUS_EN c) = true ∧ s.fld (F_CAN_STATUS_STATE c) = 0 ∧ n ≤ 255 ∧ (127 < n ∨ 127 < r)) ∧
    (∃ (c : Nat) (n : Nat) (r : Nat) (s : State), s.Sound ∧ c ≤ 5 ∧ s.flag (F_CAN_STATUS_EN c) = true ∧ s.fld (F_CAN_STATUS_STATE c) < 2 ∧ 255 < n) ∧
    (∃ (c : Nat) (n : Nat) (r : Nat) (s : State), s.Sound ∧ c ≤ 5 ∧ s.flag (F_CAN_STATUS_EN c) = true ∧ s.fld (F_CAN_STATUS_STATE c) < 2 ∧ 255 < n) ∧
    (∃ (c : Nat) (a : Nat) (s : State), (s.canChan c).boffAt = some a) ∧
    (∃ (c : Nat) (s : State), s.Sound ∧ c ≤ 5 ∧ (s.canChan c).recovering = true) ∧
    (∃ (c : Nat) (s : State), s.Sound ∧ c ≤ 5 ∧ s.tmOn c = true ∧ s.tmPeriod c ≠ 0 ∧ s.canSends c = true ∧ s.net.batching = false ∧ (s.canChan c).tx = [] ∧ (s.canChan c).busyTill ≤ s.tim.el) ∧
    (∃ (c : Nat) (s : State), s.Sound ∧ c ≤ 5 ∧ s.tmOn c = true ∧ s.tmPeriod c ≠ 0 ∧ s.canSends c = true ∧ s.net.batching = false ∧ (s.canChan c).tx = [] ∧ (s.canChan c).busyTill ≤ s.tim.el) ∧
    (∃ (c : Nat) (s : State), s.tmOn c = true ∧ s.tmPeriod c ≠ 0 ∧ s.canSends c = true ∧ (s.canChan c).tx = [] ∧ s.tim.el + s.tmPeriod c ≤ (s.canChan c).busyTill) ∧
    (∃ (c : Nat) (s : State), s.tmOn c = false) :=
  ⟨⟨0, canFr 5, W0, (by decide +kernel)⟩,
   ⟨0, { canFr 5 with fdf := true }, canned, (by decide +kernel)⟩,
   ⟨0, canFr 5, upd canned [(F_CAN_STATUS_STATE 0, 2)], (by decide +kernel)⟩,
   ⟨0, { canFr 0x123 with rtr := true }, canned, sound_of (by decide +kernel), (by decide +kernel), (by decide +kernel), (by decide +kernel), (by decide +kernel), (by decide +kernel), (by decide +kernel)⟩,
   ⟨5, canFr 0x124, canned, sound_of (by decide +kernel), (by decide +kernel), (by decide +kernel), (by decide +kernel), (by decide +kernel), (by decide +kernel), (by decide +kernel)⟩,
   ⟨0, 64, canFr 0x200, cch canned 0 { q1 := List.replicate 63 [] }, sound_of (by decide +kernel), (by decide +kernel), (by decide +kernel), (by decide +kernel), (by decide +kernel), (by decide +kernel), (by decide +kernel), (by decide +kernel), (by decide +kernel), (by decide +kernel)⟩,
   ⟨0, 64, canFr 0x2FF, cch canned 0 { q1 := List.replicate 64 [] }, sound_of (by decide +kernel), (by decide +kernel), (by decide +kernel), (by decide +kernel), (by decide +kernel), (by decide +kernel), (by decide +kernel), (by decide +kernel), (by decide +kernel), (by decide +kernel)⟩,
   ⟨0, 0, 5, canFr 0x123, can canned (fun c => { c with objs := [(5, { newest := some (1, 2, [3#8]), timedOut := true })] }), sound_of (by decide +kernel), (by decide +kernel), (by decide +kernel), (by decide +kernel), (by decide +kernel), (by decide +kernel), (by decide +kernel), (by decide +kernel), (by decide +kernel), (by decide +kernel), (by decide +kernel), (by decide +kernel)⟩,
   ⟨0, { canFr 0x123 with rtr := true, sof := 100, eof := 200 }, ⟨some 4, 77, [1#8, 2#8], 40, false⟩, tim (cch canned 0 { busyTill := 30, tx := [⟨some 4, 77, [1#8, 2#8], 40, false⟩] }) (fun t => { t with wt := 1000, el := 1000 }), sound_of (by decide +kernel), (by decide +kernel), (by decide +kernel), (by decide +kernel), (by decide +kernel), (by decide +kernel), (by decide +kernel), (by decide +kernel), (by decide +kernel)⟩,
   ⟨0, 0, open_ (cch canned 0 { q1 := [[1#32], [2#32]] }), sound_of (by decide +kernel), (by decide +kernel), may_of (by decide +kernel), (by decide +kernel)⟩,
   ⟨0, 5, open_ canned, sound_of (by decide +kernel), (by decide +kernel), may_of (by decide +kernel), (by decide +kernel)⟩,
   ⟨5, can canned (fun c => { c with objs := [(5, { newest := some (1, 2, [3#8]), lastAt := 7 })] }), sound_of (by decide +kernel), (by decide +kernel), (by decide +kernel)⟩,
   ⟨0, 7, 9, ⟨7, 9, 1, 2, 3, [], 5, 6⟩, cch canned 0 { fast := [⟨7, 8, 1, 2, 3, [], 5, 6⟩, ⟨7, 9, 1, 2, 3, [], 5, 6⟩] }, sound_of (by decide +kernel), (by decide +kernel), (by decide +kernel)⟩,
   ⟨0, 95, 95, canned, sound_of (by decide +kernel), (by decide +kernel), (by decide +kernel), (by decide +kernel), (by decide +kernel), (by decide +kernel), (by decide +kernel), (by decide +kernel)⟩,
   ⟨5, 0, 0, upd canned [(F_CAN_STATUS_STATE 5, 1)], sound_of (by decide +kernel), (by decide +kernel), (by decide +kernel), (by decide +kernel), (by decide +kernel), (by decide +kernel), (by decide +kernel), (by decide +kernel)⟩,
   ⟨0, 128, 0, canned, sound_of (by decide +kernel), (by decide +kernel), (by decide +kernel), (by decide +kernel), (by decide +kernel), (by decide +kernel)⟩,
   ⟨5, 255, 128, canned, sound_of (by decide +kernel), (by decide +kernel), (by decide +kernel), (by decide +kernel), (by decide +kernel), (by decide +kernel)⟩,
   ⟨0, 256, 0, canned, sound_of (by decide +kernel), (by decide +kernel), (by decide +kernel), (by decide +kernel), (by decide +kernel)⟩,
   ⟨5, 256, 0, upd canned [(F_CAN_STATUS_STATE 5, 1), (F_CAN_STATUS_SYNC 5, 1)], sound_of (by decide +kernel), (by decide +kernel), (by decide +kernel), (by decide +kernel), (by decide +kernel)⟩,
   ⟨0, 7, cch canned 0 { boffAt := some 7 }, (by decide +kernel)⟩,
   ⟨5, upd (cch canned 5 { recovering := true }) [(F_CAN_STATUS_STATE 5, 2), (F_CAN_STATUS_TEC 5, 255), (F_CAN_STATUS_REC 5, 127)], sound_of (by decide +kernel), (by decide +kernel), (by decide +kernel)⟩,
   ⟨0, upd (tim canned (fun t => { t with wt := 1 })) [(word32 (A_CAN_TM_SOF 0), 0x12345678)], sound_of (by decide +kernel), (by decide +kernel), (by decide +kernel), (by decide +kernel), (by decide +kernel), (by decide +kernel), (by decide +kernel), (by decide +kernel)⟩,
   ⟨0, cch canned 0 { busyTill := 0 }, sound_of (by decide +kernel), (by decide +kernel), (by decide +kernel), (by decide +kernel), (by decide +kernel), (by decide +kernel), (by decide +kernel), (by decide +kernel)⟩,
   ⟨0, cch canned 0 { busyTill := 10 ^ 10 }, (by decide +kernel), (by decide +kernel), (by decide +kernel), (by decide +kernel), (by decide +kernel)⟩,
   ⟨1, canned, (by decide +kernel)⟩⟩
/-- The premises of Obligations.EthernetPortsReceiveLimitAndResolve are met. -/
theorem witness_ethernet_ports_receive_limit_and_resolve :
    (∃ (f : EthFrame) (s : State), s.ethOn f.port = false) ∧
    (∃ (f : EthFrame) (s : State), s.ethOn f.port = false) ∧
    (∃ (f : EthFrame) (s : State), s.Sound ∧ s.ethOn f.port = true ∧ f.port < 3 ∧ f.fcsOk = false) ∧
    (∃ (f : EthFrame) (s : State), s.Sound ∧ s.ethOn f.port = true ∧ f.port < 3 ∧ f.fcsOk = false) ∧
    (∃ (f : EthFrame) (s : State), f.fcsOk = true ∧ (macDrops f = true ∨ handled f = false)) ∧
    (∃ (f : EthFrame) (s : State), f.fcsOk = true ∧ (macDrops f = true ∨ handled f = false)) ∧
    (∃ (f : EthFrame) (s : State), s.Sound ∧ s.ethOn f.port = true ∧ f.port < 3 ∧ f.fcsOk = true ∧ macDrops f = false ∧ handled f = true ∧ s.rxLimit < aget 0 s.net.window f.port + 1) ∧
    (∃ (f : EthFrame) (s : State), s.Sound ∧ s.ethOn f.port = true ∧ f.port < 3 ∧ f.fcsOk = true ∧ macDrops f = false ∧ handled f = true ∧ s.rxLimit < aget 0 s.net.window f.port + 1) ∧
    (∃ (f : EthFrame) (s : State), s.Sound ∧ s.ethOn f.port = true ∧ f.port < 3 ∧ f.fcsOk = true ∧ macDrops f = false ∧ handled f = true ∧ aget 0 s.net.window f.port + 1 ≤ s.rxLimit ∧ f.prp = none ∧ f.payload = .other) ∧
    (∃ (f : EthFrame) (s : State), s.ethOn f.port = true ∧ f.port < 3 ∧ f.fcsOk = true ∧ macDrops f = false ∧ handled f = true ∧ aget 0 s.net.window f.port + 1 ≤ s.rxLimit ∧ f.prp = none ∧ f.payload = .icmpEcho ∧ s.net.batching = false) ∧
    (∃ (f : EthFrame) (s : State), s.ethOn f.port = true ∧ f.port < 3 ∧ f.fcsOk = true ∧ macDrops f = false ∧ handled f = true ∧ aget 0 s.net.window f.port + 1 ≤ s.rxLimit ∧ f.prp = none ∧ f.payload = .arpRequest (s.ipWord (f.port == 2) 0) ∧ s.net.batching = false) ∧
    (∃ (f : EthFrame) (ip : Nat) (k : Nat) (s : State), s.ethOn f.port = true ∧ f.port < 3 ∧ f.fcsOk = true ∧ macDrops f = false ∧ handled f = true ∧ aget 0 s.net.window f.port + 1 ≤ s.rxLimit ∧ f.prp = none ∧ f.payload = .arpReply ip k ∧ s.net.waiting = []) ∧
    (∃ (f : EthFrame) (ip : Nat) (k : Nat) (s : State), s.ethOn f.port = true ∧ f.port < 3 ∧ f.fcsOk = true ∧ macDrops f = false ∧ handled f = true ∧ aget 0 s.net.window f.port + 1 ≤ s.rxLimit ∧ f.prp = none ∧ f.payload = .arpReply ip k ∧ s.net.waiting = []) ∧
    (∃ (f : EthFrame) (q : Nat) (s : State), s.Sound ∧ s.ethOn f.port = true ∧ f.port < 3 ∧ f.fcsOk = true ∧ macDrops f = false ∧ handled f = true ∧ aget 0 s.net.window f.port + 1 ≤ s.rxLimit ∧ f.prp = some q ∧ f.payload = .other ∧ s.net.prp.any (fun e => e.1 == f.srcMac && e.2.1 == q) = true) ∧
    (∃ (m : Nat) (q : Nat) (e : Nat × Nat × Nat) (s : State), s.net.prp.find? (fun e => e.1 == m && e.2.1 == q) = some e) ∧
    (∃ (p : Nat) (s : State), s.Sound ∧ p < 3 ∧ s.ethOn p = true) ∧
    (∃ (p : Nat) (s : State), s.Sound ∧ p < 3 ∧ s.ethOn p = true) ∧
    (∃ (p : Nat) (s : State), s.Sound ∧ p < 3 ∧ s.ethOn p = true ∧ s.flag (bitAt A_ETH_STATUS p) = true) ∧
    (∃ (p : Nat) (b : Bool) (s : State), s.Sound ∧ p < 3 ∧ s.ethOn p = true ∧ s.flag (bitAt A_ETH_STATUS (4 + p)) = true) ∧
    (∃ (p : Nat) (b : Bool) (c : Bool) (s : State), s.ethOn p = false) ∧
    (∃ (m : Nat) (v : Word) (s : State), s.Sound ∧ s.MayAccess m A_ETH_MDIO true ∧ fieldOf v F_ETH_MDIO_START = 1 ∧ s.flag F_ETH_MDIO_BUSY = false) ∧
    (∃ (d : Nat) (s : State), s.Sound ∧ s.net.mdio.isSome = true ∧ d < 65536) ∧
    (∃ (d : Nat) (s : State), s.Sound ∧ s.net.mdio.isSome = true ∧ d < 65536) ∧
    (∃ (s : State), s.Sound ∧ s.net.mdio.isSome = true) ∧
    (∃ (ip : Nat) (e : Nat × Nat) (s : State), ip ∈ s.net.arp ∧ afind s.net.arpInfo ip = some e ∧ s.onService ip = false ∧ s.ethOn 0 = true ∧ s.ethOn 1 = true ∧ s.net.batching = false) ∧
    (∃ (ip : Nat) (s : State), ip ∉ s.net.arp) ∧
    (∃ (ip : Nat) (w : Waiting) (s : State), s.Sound ∧ s.net.waiting.find? (fun w => w.hop == ip) = some w) :=
  ⟨⟨frm 0 .other, W0, (by decide +kernel)⟩,
   ⟨frm 3 .other, lan, (by decide +kernel)⟩,
   ⟨{ frm 0 .other with fcsOk := false }, lan, sound_of (by decide +kernel), (by decide +kernel), (by decide +kernel), (by decide +kernel)⟩,
   ⟨{ frm 2 .other with fcsOk := false }, upd lan [(F_ETH_P_RX_ERR_COUNT 2, 4294967295)], sound_of (by decide +kernel), (by decide +kernel), (by decide +kernel), (by decide +kernel)⟩,
   ⟨{ frm 0 .other with broadcast := true }, lan, (by decide +kernel), (by decide +kernel)⟩,
   ⟨{ frm 0 .other with multicast := true, joined := false }, W0, (by decide +kernel), (by decide +kernel)⟩,
   ⟨frm 0 .other, net lan (fun n => { n with window := [(0, 10)] }), sound_of (by decide +kernel), (by decide +kernel), (by decide +kernel), (by decide +kernel), (by decide +kernel), (by decide +kernel), (by decide +kernel)⟩,
   ⟨frm 2 .other, net lan (fun n => { n with window := [(2, 99)], limitAt := [(2, 0)] }), sound_of (by decide +kernel), (by decide +kernel), (by decide +kernel), (by decide +kernel), (by decide +kernel), (by decide +kernel), (by decide +kernel)⟩,
   ⟨frm 2 .other, net lan (fun n => { n with window := [(2, 9)] }), sound_of (by decide +kernel), (by decide +kernel), (by decide +kernel), (by decide +kernel), (by decide +kernel), (by decide +kernel), (by decide +kernel), (by decide +kernel), (by decide +kernel)⟩,
   ⟨frm 0 .icmpEcho, par lan [(0x0B04, [0x6005])], (by decide +kernel), (by decide +kernel), (by decide +kernel), (by decide +kernel), (by decide +kernel), (by decide +kernel), (by decide +kernel), (by decide +kernel), (by decide +kernel)⟩,
   ⟨frm 2 (.arpRequest 0xC0A80202), lan, (by decide +kernel), (by decide +kernel), (by decide +kernel), (by decide +kernel), (by decide +kernel), (by decide +kernel), (by decide +kernel), (by decide +kernel), (by decide +kernel)⟩,
   ⟨frm 0 (.arpReply 5 70), 5, 70, net lan (fun n => { n with arp := (List.range 64) }), (by decide +kernel), (by decide +kernel), (by decide +kernel), (by decide +kernel), (by decide +kernel), (by decide +kernel), (by decide +kernel), (by decide +kernel), (by decide +kernel)⟩,
   ⟨frm 0 (.arpReply 77 70), 77, 70, net lan (fun n => { n with arp := (List.range 64) }), (by decide +kernel), (by decide +kernel), (by decide +kernel), (by decide +kernel), (by decide +kernel), (by decide +kernel), (by decide +kernel), (by decide +kernel), (by decide +kernel)⟩,
   ⟨{ frm 1 .other with prp := some 7 }, 7, net lan (fun n => { n with prp := [(5, 7, 99)] }), sound_of (by decide +kernel), (by decide +kernel), (by decide +kernel), (by decide +kernel), (by decide +kernel), (by decide +kernel), (by decide +kernel), (by decide +kernel), (by decide +kernel), (by decide +kernel)⟩,
   ⟨5, 7, (5, 7, 99), net lan (fun n => { n with prp := [(4, 7, 1), (5, 7, 99), (5, 7, 98)] }), (by decide +kernel)⟩,
   ⟨0, lan, sound_of (by decide +kernel), (by decide +kernel), (by decide +kernel)⟩,
   ⟨2, net (upd lan [(bitAt A_ETH_STATUS 6, 1)]) (fun n => { n with polledAt := [(2, 77)] }), sound_of (by decide +kernel), (by decide +kernel), (by decide +kernel)⟩,
   ⟨2, upd lan [(bitAt A_ETH_STATUS 2, 1)], sound_of (by decide +kernel), (by decide +kernel), (by decide +kernel), (by decide +kernel)⟩,
   ⟨0, true, upd lan [(bitAt A_ETH_STATUS 4, 1), (bitAt A_ETH_STATUS 0, 1)], sound_of (by decide +kernel), (by decide +kernel), (by decide +kernel), (by decide +kernel)⟩,
   ⟨0, true, true, W0, (by decide +kernel)⟩,
   ⟨0, (4294967295#32 &&& BitVec.ofNat 32 (2 ^ F_ETH_MDIO_START.lo)), open_ lan, sound_of (by decide +kernel), may_of (by decide +kernel), (by decide +kernel), (by decide +kernel)⟩,
   ⟨65535, upd (net lan (fun n => { n with mdio := some (1, 2) })) [(F_ETH_MDIO_BUSY, 1), (F_ETH_MDIO_NOACK, 1)], sound_of (by decide +kernel), (by decide +kernel), (by decide +kernel)⟩,
   ⟨0, net lan (fun n => { n with mdio := some (1, 2) }), sound_of (by decide +kernel), (by decide +kernel), (by decide +kernel)⟩,
   ⟨upd (net lan (fun n => { n with mdio := some (1, 2) })) [(F_ETH_MDIO_BUSY, 1)], sound_of (by decide +kernel), (by decide +kernel)⟩,
   ⟨0xC0A80105, (7, 70), net lan (fun n => { n with arp := [0xC0A80105], arpInfo := [(0xC0A80105, 7, 70)] }), (by decide +kernel), (by decide +kernel), (by decide +kernel), (by decide +kernel), (by decide +kernel), (by decide +kernel)⟩,
   ⟨5, lan, (by decide +kernel)⟩,
   ⟨5, ⟨5, true, 7, .icmp, [], 99⟩, net lan (fun n => { n with waiting := [⟨4, true, 7, .icmp, [], 5⟩, ⟨5, true, 7, .icmp, [], 99⟩, ⟨5, true, 7, .icmp, [], 999⟩] }), sound_of (by decide +kernel), (by decide +kernel)⟩⟩
/-- The premises of Obligations.SerialPortsAndTheRegisterServiceAnswer are met. -/
theorem witness_serial_ports_and_the_register_service_answer :
    (∃ (p : Nat) (x : Sentence) (s : State), s.sptMode p ≠ 1 ∧ s.sptMode p ≠ 3) ∧
    (∃ (p : Nat) (x : Sentence) (s : State), s.sptMode p ≠ 1 ∧ s.sptMode p ≠ 3) ∧
    (∃ (p : Nat) (n : Nat) (x : Sentence) (s : State), s.Sound ∧ p ≤ 7 ∧ (s.sptMode p = 1 ∨ s.sptMode p = 3) ∧ x.overflow = false ∧ x.charErr = false ∧ s.sentenceOk p x = true ∧ s.slotsAt 0 p false = [n]) ∧
    (∃ (p : Nat) (x : Sentence) (s : State), s.Sound ∧ p ≤ 7 ∧ (s.sptMode p = 1 ∨ s.sptMode p = 3) ∧ x.overflow = true) ∧
    (∃ (p : Nat) (x : Sentence) (s : State), s.Sound ∧ p ≤ 7 ∧ (s.sptMode p = 1 ∨ s.sptMode p = 3) ∧ x.overflow = false ∧ x.charErr = true) ∧
    (∃ (p : Nat) (x : Sentence) (s : State), s.Sound ∧ p ≤ 7 ∧ (s.sptMode p = 1 ∨ s.sptMode p = 3) ∧ x.overflow = false ∧ x.charErr = false ∧ s.sentenceOk p x = false) ∧
    (∃ (p : Nat) (x : Sentence) (s : State), s.Sound ∧ p ≤ 7 ∧ (s.sptMode p = 1 ∨ s.sptMode p = 3) ∧ x.overflow = false ∧ x.charErr = false ∧ s.sentenceOk p x = false) ∧
    (∃ (p : Nat) (a : Nat) (b : Nat) (l : List Byte) (s : State), s.sptMode p ≠ 4) ∧
    (∃ (p : Nat) (a : Nat) (b : Nat) (n : Nat) (l : List Byte) (s : State), s.Sound ∧ p ≤ 7 ∧ s.sptMode p = 4 ∧ rtcmOk l = true ∧ s.slotsAt 0 p true = [n]) ∧
    (∃ (p : Nat) (a : Nat) (b : Nat) (l : List Byte) (s : State), s.Sound ∧ p ≤ 7 ∧ s.sptMode p = 4 ∧ rtcmOk l = false) ∧
    (∃ (r : SvcReq) (s : State), (s.serviceOn r.port = false ∨ s.serviceClient r.client = false)) ∧
    (∃ (r : SvcReq) (w : Word) (s : State) (u : State), s.net.batching = false ∧ s.serviceOn 2 = true ∧ s.serviceClient r.client = true ∧ r.port = 2 ∧ afind s.net.clients r.client = none ∧ r.magicOk = true ∧ r.crcOk = true ∧ r.op = 1 ∧ r.count = 1 ∧ r.addr % 4 = 0 ∧ r.data = [] ∧ (s.reach r.stamp).busRead mEthSvc r.addr = (u, accOk, w) ∧ u.net.arp.contains (u.nextHop true r.client) = true) ∧
    (∃ (r : SvcReq) (w : Word) (s : State) (u : State), s.net.batching = false ∧ s.serviceOn 2 = true ∧ s.serviceClient r.client = true ∧ r.port = 2 ∧ afind s.net.clients r.client = none ∧ tbit (s.par 0x0B08 2) 0 = true ∧ r.magicOk = true ∧ r.crcOk = true ∧ r.op = 2 ∧ r.count = 1 ∧ r.addr % 4 = 0 ∧ r.data = [w] ∧ (s.reach r.stamp).busWrite mEthSvc r.addr w = (u, accOk, 0#32) ∧ u.net.arp.contains (u.nextHop true r.client) = true) ∧
    (∃ (r : SvcReq) (s : State), s.net.batching = false ∧ s.serviceOn 2 = true ∧ s.serviceClient r.client = true ∧ r.port = 2 ∧ afind s.net.clients r.client = none ∧ tbit (s.par 0x0B08 2) 0 = false ∧ r.magicOk = true ∧ r.crcOk = true ∧ r.op = 2 ∧ serviceFormat 2 r.addr r.count 256 r.data = true ∧ s.net.arp.contains (s.nextHop true r.client) = true) ∧
    (∃ (r : SvcReq) (s : State), s.net.batching = false ∧ s.serviceOn 2 = true ∧ s.serviceClient r.client = true ∧ r.port = 2 ∧ afind s.net.clients r.client = none ∧ r.crcOk = false ∧ s.net.arp.contains (s.nextHop true r.client) = true) ∧
    (∃ (r : SvcReq) (l : SvcLast) (s : State), s.net.batching = false ∧ s.serviceOn 2 = true ∧ s.serviceClient r.client = true ∧ r.port = 2 ∧ afind s.net.clients r.client = some l ∧ l.seq = r.seq ∧ (s.reach r.stamp).tim.el ≤ l.stamp + sec ∧ s.net.arp.contains (s.nextHop true r.client) = true) :=
  ⟨⟨0, sent, W0, (by decide +kernel), (by decide +kernel)⟩,
   ⟨7, sent, ser, (by decide +kernel), (by decide +kernel)⟩,
   ⟨0, 0, sent, ser, sound_of (by decide +kernel), (by decide +kernel), (by decide +kernel), (by decide +kernel), (by decide +kernel), (by decide +kernel), (by decide +kernel)⟩,
   ⟨0, { sent with overflow := true, charErr := true }, ser, sound_of (by decide +kernel), (by decide +kernel), (by decide +kernel), (by decide +kernel)⟩,
   ⟨0, { sent with charErr := true }, ser, sound_of (by decide +kernel), (by decide +kernel), (by decide +kernel), (by decide +kernel), (by decide +kernel)⟩,
   ⟨0, { sent with chars := [0x24#8, 0x41#8, 0x2A#8, 0x34#8, 0x32#8] }, ser, sound_of (by decide +kernel), (by decide +kernel), (by decide +kernel), (by decide +kernel), (by decide +kernel), (by decide +kernel)⟩,
   ⟨0, { sent with chars := List.replicate 81 0x24#8 }, upd ser [(F_SPT_CNT1_LOW 0, 65535)], sound_of (by decide +kernel), (by decide +kernel), (by decide +kernel), (by decide +kernel), (by decide +kernel), (by decide +kernel)⟩,
   ⟨0, 1, 2, [], ser, (by decide +kernel)⟩,
   ⟨7, 1, 2, 1, [0xD3#8, 0#8, 0#8, 0x47#8, 0xEA#8, 0x4B#8], ser, sound_of (by decide +kernel), (by decide +kernel), (by decide +kernel), (by decide +kernel), (by decide +kernel)⟩,
   ⟨7, 1, 2, [0xD3#8, 0#8, 0#8, 0x47#8, 0xEA#8, 0x4C#8], ser, sound_of (by decide +kernel), (by decide +kernel), (by decide +kernel), (by decide +kernel)⟩,
   ⟨svc 1 0 1 [], W0, (by decide +kernel)⟩,
   ⟨svc 1 0x200 1 [], ((lanSvc.reach 50).busRead mEthSvc 0x200).2.2, lanSvc, (((lanSvc : State).reach 50).busRead mEthSvc 0x200).1, (by decide +kernel), (by decide +kernel), (by decide +kernel), (by decide +kernel), (by decide +kernel), (by decide +kernel), (by decide +kernel), (by decide +kernel), (by decide +kernel), (by decide +kernel), (by decide +kernel), tri_eq (by decide +kernel) (by decide +kernel), (by decide +kernel)⟩,
   ⟨svc 2 0x200 1 [5#32], 5#32, lanSvc, (((lanSvc : State).reach 50).busWrite mEthSvc 0x200 5#32).1, (by decide +kernel), (by decide +kernel), (by decide +kernel), (by decide +kernel), (by decide +kernel), (by decide +kernel), (by decide +kernel), (by decide +kernel), (by decide +kernel), (by decide +kernel), (by decide +kernel), (by decide +kernel), tri_eq (by decide +kernel) (by decide +kernel), (by decide +kernel)⟩,
   ⟨svc 2 0x204 2 [1#32, 2#32], net (par { lan with pat := { lan.pat with params := lan.pat.params.filter (fun e => e.1 != 0x0B08) } } [(0x0B08, [0, 2, 0])]) (fun n => { n with arp := [0xC0A80205] }), (by decide +kernel), (by decide +kernel), (by decide +kernel), (by decide +kernel), (by decide +kernel), (by decide +kernel), (by decide +kernel), (by decide +kernel), (by decide +kernel), (by decide +kernel), (by decide +kernel)⟩,
   ⟨{ svc 1 0x204 2 [] with crcOk := false }, net lan (fun n => { n with arp := [0xC0A80205] }), (by decide +kernel), (by decide +kernel), (by decide +kernel), (by decide +kernel), (by decide +kernel), (by decide +kernel), (by decide +kernel)⟩,
   ⟨svc 1 0x204 2 [], ⟨9, 50, [1, 2, 3]⟩, net lan (fun n => { n with arp := [0xC0A80205], clients := [(0xC0A80205, ⟨9, 50, [1, 2, 3]⟩)] }), (by decide +kernel), (by decide +kernel), (by decide +kernel), (by decide +kernel), (by decide +kernel), (by decide +kernel), (by decide +kernel), (by decide +kernel)⟩⟩
/-- The premises of Obligations.FieldChannelsSampleDriveAndDiagnose are met. -/
theorem witness_field_channels_sample_drive_and_diagnose :
    (∃ (n : Nat) (x : FieldInput) (s : State), (s.fchUsed n = false ∨ s.fchMode n = 0 ∨ s.flag (F_FCH_STATUS_NO_ENGINE n) = true)) ∧
    (∃ (n : Nat) (l : List Int) (p : Cic × List Int) (s : State), s.fchUsed n = true ∧ s.fchMode n ≠ 0 ∧ s.flag (F_FCH_STATUS_NO_ENGINE n) = false ∧ Cic.run (respRatio (s.fchResp n)) (s.fchan n).cic [] l = p) ∧
    (∃ (n : Nat) (l : List Int) (p : Cic × List Int) (s : State), s.fchUsed n = true ∧ s.fchMode n ≠ 0 ∧ s.flag (F_FCH_STATUS_NO_ENGINE n) = false ∧ Cic.run (respRatio (s.fchResp n)) (s.fchan n).cic [] l = p) ∧
    (∃ (n : Nat) (q : Nat) (x : FieldInput) (s : State), s.fchUsed n = true ∧ s.fchMode n ≠ 0 ∧ s.flag (F_FCH_STATUS_NO_ENGINE n) = false ∧ n ∈ s.hlt.injRunning ∧ s.sampleInstant n = q) ∧
    (∃ (n : Nat) (x : FieldInput) (s : State), s.Sound ∧ s.fchUsed n = true ∧ s.fchMode n ≠ 0 ∧ s.flag (F_FCH_STATUS_NO_ENGINE n) = false ∧ n ∉ s.hlt.injRunning ∧ 0 < (s.fchan n).settle) ∧
    (∃ (n : Nat) (x : FieldInput) (s : State), s.Sound ∧ s.fchUsed n = true ∧ s.fchMode n ≠ 0 ∧ s.flag (F_FCH_STATUS_NO_ENGINE n) = false ∧ n ∉ s.hlt.injRunning ∧ 0 < (s.fchan n).settle) ∧
    (∃ (n : Nat) (q : Nat) (d : Nat) (x : FieldInput) (s : State), s.Sound ∧ s.fchUsed n = true ∧ (s.fchMode n = 1 ∨ s.fchMode n = 2) ∧ s.flag (F_FCH_STATUS_NO_ENGINE n) = false ∧ n ∉ s.hlt.injRunning ∧ (s.fchan n).settle = 0 ∧ s.sampleInstant n = q ∧ d = q - 1000 * respDelayUs (s.fchResp n)) ∧
    (∃ (n : Nat) (q : Nat) (d : Nat) (x : FieldInput) (s : State), s.Sound ∧ s.fchUsed n = true ∧ (s.fchMode n = 1 ∨ s.fchMode n = 2) ∧ s.flag (F_FCH_STATUS_NO_ENGINE n) = false ∧ n ∉ s.hlt.injRunning ∧ (s.fchan n).settle = 0 ∧ s.sampleInstant n = q ∧ d = q - 1000 * respDelayUs (s.fchResp n)) ∧
    (∃ (n : Nat) (q : Nat) (l : List (Bool × Bool)) (s : State), s.Sound ∧ s.fchUsed n = true ∧ s.fchMode n = 6 ∧ s.flag (F_FCH_STATUS_NO_ENGINE n) = false ∧ n ∉ s.hlt.injRunning ∧ (s.fchan n).settle = 0 ∧ s.sampleInstant n = q) ∧
    (∃ (m : Nat) (n : Nat) (v : Word) (s : State), s.Sound ∧ n < 128 ∧ s.MayAccess m (A_FCH_OUT n) true ∧ s.fld (F_FCH_CFG_SRC n) = 0 ∧ s.fchOutput n = true ∧ s.flag (F_FCH_CFG_LEASE n) = true ∧ s.fld F_SAF_STATUS_GATE = gateOpen) ∧
    (∃ (m : Nat) (n : Nat) (v : Word) (s : State), s.Sound ∧ n < 128 ∧ s.MayAccess m (A_FCH_OUT n) true ∧ s.fld (F_FCH_CFG_SRC n) = 0 ∧ s.fchOutput n = true ∧ s.flag (F_FCH_CFG_LEASE n) = true ∧ s.fld F_SAF_STATUS_GATE = gateOpen) ∧
    (∃ (m : Nat) (n : Nat) (v : Word) (s : State), s.Sound ∧ n < 128 ∧ s.MayAccess m (A_FCH_OUT n) true ∧ s.flag (F_FCH_CFG_LEASE n) = true ∧ s.fld F_SAF_STATUS_GATE ≠ gateOpen) ∧
    (∃ (m : Nat) (n : Nat) (v : Word) (s : State), s.Sound ∧ n < 128 ∧ s.MayAccess m (A_FCH_OUT n) true ∧ s.flag (F_FCH_CFG_LEASE n) = true ∧ s.fld F_SAF_STATUS_GATE ≠ gateOpen) ∧
    (∃ (n : Nat) (k : Nat) (e : Nat) (s : State), s.Sound ∧ n < 128 ∧ k ≤ 2 ∧ s.flag (condBit n k) = false ∧ afind (s.fchan n).timers k = some e) ∧
    (∃ (n : Nat) (k : Nat) (e : Nat) (s : State), s.Sound ∧ n < 128 ∧ k ≤ 2 ∧ s.flag (condBit n k) = false ∧ afind (s.fchan n).timers k = some e) ∧
    (∃ (n : Nat) (k : Nat) (e : Nat) (s : State), s.Sound ∧ n < 128 ∧ k ≤ 2 ∧ s.flag (condBit n k) = true ∧ afind (s.fchan n).timers k = some e) ∧
    (∃ (n : Nat) (k : Nat) (e : Nat) (s : State), s.Sound ∧ n < 128 ∧ k ≤ 2 ∧ s.flag (condBit n k) = true ∧ afind (s.fchan n).timers k = some e) ∧
    (∃ (n : Nat) (k : Nat) (s : State), (afind (s.fchan n).timers k = none ∨ 2 < k)) ∧
    (∃ (n : Nat) (k : Nat) (s : State), (afind (s.fchan n).timers k = none ∨ 2 < k)) ∧
    (∃ (n : Nat) (e : Nat) (s : State), s.Sound ∧ n < 128 ∧ s.fchOutput n = true ∧ s.fchDrives n = true ∧ s.flag (F_FCH_STATUS_NO_ENGINE n) = false ∧ afind (s.fchan n).timers 3 = some e ∧ 16777216 < 100 * (s.int (F_FCH_RB_PU n) - s.int (F_FCH_CMD_PU n)).natAbs) ∧
    (∃ (n : Nat) (s : State), (afind (s.fchan n).timers 3 = none ∨ s.fchDrives n = false ∨ 100 * (s.int (F_FCH_RB_PU n) - s.int (F_FCH_CMD_PU n)).natAbs ≤ 16777216)) ∧
    (∃ (n : Nat) (s : State), (afind (s.fchan n).timers 3 = none ∨ s.fchDrives n = false ∨ 100 * (s.int (F_FCH_RB_PU n) - s.int (F_FCH_CMD_PU n)).natAbs ≤ 16777216)) ∧
    (∃ (n : Nat) (s : State), s.Sound ∧ s.fchUsed n = true ∧ (s.fchMode n = 1 ∨ s.fchMode n = 2)) :=
  ⟨⟨5, .codes [], fld_, (by decide +kernel)⟩,
   ⟨0, [1, -2, 2], Cic.run 125 {} [] [1, -2, 2], fld_, (by decide +kernel), (by decide +kernel), (by decide +kernel), (by decide +kernel)⟩,
   ⟨0, List.replicate 250 2, Cic.run 125 {} [] (List.replicate 250 2), tim fld_ (fun t => { t with wt := 123456789 }), (by decide +kernel), (by decide +kernel), (by decide +kernel), (by decide +kernel)⟩,
   ⟨0, fld_.sampleInstant 0, .codes [1], hlt (fchn fld_ 0 { testLeft := 5 }) (fun h => { h with injRunning := [0] }), (by decide +kernel), (by decide +kernel), (by decide +kernel), (by decide +kernel), (by decide +kernel)⟩,
   ⟨0, .codes [1], fchn fld_ 0 { settle := 1 }, sound_of (by decide +kernel), (by decide +kernel), (by decide +kernel), (by decide +kernel), (by decide +kernel), (by decide +kernel)⟩,
   ⟨127, .codes [], upd (fchn fld_ 127 { settle := 9 }) [(F_FCH_STATUS_VALID 127, 1)], sound_of (by decide +kernel), (by decide +kernel), (by decide +kernel), (by decide +kernel), (by decide +kernel), (by decide +kernel)⟩,
   ⟨0, fld_.sampleInstant 0, fld_.sampleInstant 0 - 1000 * respDelayUs 0, .codes [2, 2], upd fld_ [(F_FCH_STATUS_SETTLED 0, 1)], sound_of (by decide +kernel), (by decide +kernel), (by decide +kernel), (by decide +kernel), (by decide +kernel), (by decide +kernel), (by decide +kernel), (by decide +kernel)⟩,
   ⟨1, 100000000, 100000000 - 1000 * respDelayUs 0, .codes [], tim (fchn fld_ 1 { cand := some (1, 2, 3) }) (fun t => { t with wt := 100000000 }), sound_of (by decide +kernel), (by decide +kernel), (by decide +kernel), (by decide +kernel), (by decide +kernel), (by decide +kernel), (by decide +kernel), (by decide +kernel)⟩,
   ⟨5, fld_.sampleInstant 5, [(true, false), (true, true), (false, true), (false, false), (true, false)], upd (fchn (par fld_ [(0x0E85, [6])]) 5 { count := 7 }) [(F_FCH_CFG_MODE 5, 6)], sound_of (by decide +kernel), (by decide +kernel), (by decide +kernel), (by decide +kernel), (by decide +kernel), (by decide +kernel), (by decide +kernel)⟩,
   ⟨0, 127, 0x00800000#32, open_ (upd fld_ [(F_FCH_CFG_LEASE 127, 1), (F_SAF_STATUS_GATE, 2)]), sound_of (by decide +kernel), (by decide +kernel), may_of (by decide +kernel), (by decide +kernel), (by decide +kernel), (by decide +kernel), (by decide +kernel)⟩,
   ⟨0, 127, 0x7FFFFFFF#32, open_ (upd fld_ [(F_FCH_CFG_LEASE 127, 1), (F_SAF_STATUS_GATE, 2)]), sound_of (by decide +kernel), (by decide +kernel), may_of (by decide +kernel), (by decide +kernel), (by decide +kernel), (by decide +kernel), (by decide +kernel)⟩,
   ⟨0, 127, 0x00800000#32, open_ (upd fld_ [(F_FCH_CFG_LEASE 127, 1)]), sound_of (by decide +kernel), (by decide +kernel), may_of (by decide +kernel), (by decide +kernel), (by decide +kernel)⟩,
   ⟨0, 0, 0x00800000#32, open_ (upd fld_ [(F_FCH_CFG_LEASE 0, 1)]), sound_of (by decide +kernel), (by decide +kernel), may_of (by decide +kernel), (by decide +kernel), (by decide +kernel)⟩,
   ⟨0, 2, 70, fchn (par fld_ [(0x0E80, [1, 0, 0, 0, 0, 0, 500])]) 0 { timers := [(2, 70), (1, 5)] }, sound_of (by decide +kernel), (by decide +kernel), (by decide +kernel), (by decide +kernel), (by decide +kernel)⟩,
   ⟨1, 0, 70, upd (fchn fld_ 1 { timers := [(0, 70)] }) [(F_FCH_STATUS_VALID 1, 1)], sound_of (by decide +kernel), (by decide +kernel), (by decide +kernel), (by decide +kernel), (by decide +kernel)⟩,
   ⟨0, 2, 70, upd (fchn fld_ 0 { timers := [(2, 70)] }) [(condBit 0 2, 1)], sound_of (by decide +kernel), (by decide +kernel), (by decide +kernel), (by decide +kernel), (by decide +kernel)⟩,
   ⟨0, 2, 70, upd (fchn fld_ 0 { timers := [(2, 70)] }) [(condBit 0 2, 1), (condBit 1 2, 1)], sound_of (by decide +kernel), (by decide +kernel), (by decide +kernel), (by decide +kernel), (by decide +kernel)⟩,
   ⟨0, 2, fld_, (by decide +kernel)⟩,
   ⟨0, 3, fchn fld_ 0 { timers := [(3, 70)] }, (by decide +kernel)⟩,
   ⟨127, 70, upd { fchn fld_ 127 { timers := [(3, 70)] } with fch := { (fchn fld_ 127 { timers := [(3, 70)] }).fch with driven := [127] } } [(F_FCH_RB_PU 127, 167773)], sound_of (by decide +kernel), (by decide +kernel), (by decide +kernel), (by decide +kernel), (by decide +kernel), (by decide +kernel), (by decide +kernel)⟩,
   ⟨127, upd { fchn fld_ 127 { timers := [(3, 70)] } with fch := { (fchn fld_ 127 { timers := [(3, 70)] }).fch with driven := [127] } } [(F_FCH_RB_PU 127, 167772)], (by decide +kernel)⟩,
   ⟨0, fld_, (by decide +kernel)⟩,
   ⟨0, upd (fchn fld_ 0 { newest := some (1, 2, 3), cand := some (1, 2, 3), fir := [5], cic := { phase := 4 } }) [(F_FCH_CNT_OVER 0, 65535), (F_FCH_STATUS_SETTLED 0, 1)], sound_of (by decide +kernel), (by decide +kernel), (by decide +kernel)⟩⟩
/-- The premises of Obligations.EnginesAreSparedAndLoopsSupervised are met. -/
theorem witness_engines_are_spared_and_loops_supervised :
    (∃ (k : Nat) (s : State), k ≤ 7 ∧ s.spareFree k = true ∧ afind s.hlt.engineTest k = none ∧ s.dev.st ≠ .boot) ∧
    (∃ (k : Nat) (s : State), k ≤ 7 ∧ s.spareFree k = true ∧ afind s.hlt.engineTest k = none ∧ s.dev.st ≠ .boot) ∧
    (∃ (k : Nat) (b : Bool) (s : State), (7 < k ∨ s.spareFree k = false ∨ s.dev.st = .boot)) ∧
    (∃ (k : Nat) (b : Bool) (s : State), (7 < k ∨ s.spareFree k = false ∨ s.dev.st = .boot)) ∧
    (∃ (k : Nat) (j : Nat) (s : State), s.Sound ∧ k ≤ 7 ∧ j < 16 ∧ afind s.hlt.engineTest k = some j) ∧
    (∃ (k : Nat) (j : Nat) (s : State), s.Sound ∧ k ≤ 7 ∧ j < 16 ∧ afind s.hlt.engineTest k = some j) ∧
    (∃ (k : Nat) (j : Nat) (s : State), s.Sound ∧ k ≤ 7 ∧ j < 16 ∧ afind s.hlt.engineTest k = some j) ∧
    (∃ (k : Nat) (b : Bool) (s : State), afind s.hlt.engineTest k = none) ∧
    (∃ (n : Nat) (s : State), s.Sound ∧ s.dev.st ≠ .boot ∧ s.fchUsed n = true ∧ s.injectionTested n = true ∧ n ∉ s.hlt.injRunning) ∧
    (∃ (n : Nat) (x : Int) (s : State), s.Sound ∧ n < 128 ∧ n ∈ s.hlt.injRunning ∧ (s.fchan n).testLeft = 0 ∧ (s.fchan n).testRaw = x) ∧
    (∃ (n : Nat) (x : Int) (s : State), s.Sound ∧ n < 128 ∧ n ∈ s.hlt.injRunning ∧ (s.fchan n).testLeft = 0 ∧ (s.fchan n).testRaw = x) ∧
    (∃ (n : Nat) (x : Int) (s : State), s.Sound ∧ n < 128 ∧ n ∈ s.hlt.injRunning ∧ (s.fchan n).testLeft = 0 ∧ (s.fchan n).testRaw = x) ∧
    (∃ (n : Nat) (s : State), (n ∉ s.hlt.injRunning ∨ 0 < (s.fchan n).testLeft)) ∧
    (∃ (n : Nat) (s : State), (n ∉ s.hlt.injRunning ∨ 0 < (s.fchan n).testLeft)) ∧
    (∃ (k : Nat) (s : State), s.loopOn k = false) ∧
    (∃ (k : Nat) (s : State), s.Sound ∧ k < 64 ∧ s.loopOn k = true ∧ s.loopDriving = false ∧ (s.loop k).samples = 0) ∧
    (∃ (k : Nat) (a : Nat) (s : State), s.Sound ∧ k < 64 ∧ (s.loop k).fe = some a ∧ (s.loop k).feFault = false) ∧
    (∃ (k : Nat) (a : Nat) (s : State), s.Sound ∧ k < 64 ∧ (s.loop k).fe = some a ∧ (s.loop k).feFault = false) ∧
    (∃ (k : Nat) (a : Nat) (s : State), s.Sound ∧ k < 64 ∧ (s.loop k).pl = some a ∧ (s.loop k).plFault = false) :=
  ⟨⟨7, hlt fld_ (fun h => { h with engineNext := [(7, 15)], checkAt := [(23, 77)] }), (by decide +kernel), (by decide +kernel), (by decide +kernel), (by decide +kernel)⟩,
   ⟨0, hlt fld_ (fun h => { h with engineNext := [(0, 15)], engineMism := 65535 }), (by decide +kernel), (by decide +kernel), (by decide +kernel), (by decide +kernel)⟩,
   ⟨8, true, fld_, (by decide +kernel)⟩,
   ⟨0, false, { fld_ with fch := { fld_.fch with sparesOut := [0] } }, (by decide +kernel)⟩,
   ⟨7, 15, hlt fld_ (fun h => { h with engineTest := [(7, 15)], engineNext := [(7, 15)], checkAt := [(23, 77)] }), sound_of (by decide +kernel), (by decide +kernel), (by decide +kernel), (by decide +kernel)⟩,
   ⟨0, 0, hlt fld_ (fun h => { h with engineTest := [(0, 0)] }), sound_of (by decide +kernel), (by decide +kernel), (by decide +kernel), (by decide +kernel)⟩,
   ⟨0, 0, hlt fld_ (fun h => { h with engineTest := [(0, 0)] }), sound_of (by decide +kernel), (by decide +kernel), (by decide +kernel), (by decide +kernel)⟩,
   ⟨0, true, fld_, (by decide +kernel)⟩,
   ⟨0, hlt (upd fld_ [(F_FCH_STATUS_SETTLED 0, 1)]) (fun h => { h with checkAt := [(64, 77)] }), sound_of (by decide +kernel), (by decide +kernel), (by decide +kernel), (by decide +kernel), (by decide +kernel)⟩,
   ⟨0, 5020001, hlt (fchn fld_ 0 { testRaw := 5020001 }) (fun h => { h with injRunning := [0], injFails := [(0, 1)] }), sound_of (by decide +kernel), (by decide +kernel), (by decide +kernel), (by decide +kernel), (by decide +kernel)⟩,
   ⟨1, 10040000, hlt (fchn fld_ 1 { testRaw := 10040000 }) (fun h => { h with injRunning := [0, 1], injFails := [(1, 1)] }), sound_of (by decide +kernel), (by decide +kernel), (by decide +kernel), (by decide +kernel), (by decide +kernel)⟩,
   ⟨127, 10040001, hlt (fchn fld_ 127 { testRaw := 10040001 }) (fun h => { h with injRunning := [127], injFails := [] }), sound_of (by decide +kernel), (by decide +kernel), (by decide +kernel), (by decide +kernel), (by decide +kernel)⟩,
   ⟨3, fld_, (by decide +kernel)⟩,
   ⟨3, hlt (fchn fld_ 3 { testLeft := 1 }) (fun h => { h with injRunning := [3] }), (by decide +kernel)⟩,
   ⟨64, fld_, (by decide +kernel)⟩,
   ⟨0, fld_, sound_of (by decide +kernel), (by decide +kernel), (by decide +kernel), (by decide +kernel), (by decide +kernel)⟩,
   ⟨0, 7, lop fld_ 0 { fe := some 7 }, sound_of (by decide +kernel), (by decide +kernel), (by decide +kernel), (by decide +kernel)⟩,
   ⟨63, 7, lop (dev (par fld_ [(0x0F7F, [0x02000001])]) (fun d => { d with st := .active })) 63 { fe := some 7 }, sound_of (by decide +kernel), (by decide +kernel), (by decide +kernel), (by decide +kernel)⟩,
   ⟨63, 7, lop fld_ 63 { pl := some 7 }, sound_of (by decide +kernel), (by decide +kernel), (by decide +kernel), (by decide +kernel)⟩⟩
/-- The premises of Obligations.InterruptsAreAssignedClaimedAndCompleted are met. -/
theorem witness_interrupts_are_assigned_claimed_and_completed :
    (∃ (n : Nat) (k : Nat) (s : State), s.Sound ∧ s.intc.targets.length = 4 ∧ s.pendingSource n = true ∧ afind s.intc.assigned n = none ∧ (targetOrder (s.fld (F_INTC_SRC_CFG_TARGET n))).find? (fun u => tbit (s.fld (F_INTC_SRC_CFG_EN n)) u && s.able u) = some k) ∧
    (∃ (n : Nat) (k : Nat) (s : State), s.Sound ∧ s.intc.targets.length = 4 ∧ s.pendingSource n = true ∧ afind s.intc.assigned n = none ∧ (targetOrder (s.fld (F_INTC_SRC_CFG_TARGET n))).find? (fun u => tbit (s.fld (F_INTC_SRC_CFG_EN n)) u && s.able u) = some k) ∧
    (∃ (n : Nat) (s : State), (s.pendingSource n = false ∨ (targetOrder (s.fld (F_INTC_SRC_CFG_TARGET n))).find? (fun u => tbit (s.fld (F_INTC_SRC_CFG_EN n)) u && s.able u) = none)) ∧
    (∃ (n : Nat) (s : State), (s.pendingSource n = false ∨ (targetOrder (s.fld (F_INTC_SRC_CFG_TARGET n))).find? (fun u => tbit (s.fld (F_INTC_SRC_CFG_EN n)) u && s.able u) = none)) ∧
    (∃ (m : Nat) (n : Nat) (k : Nat) (s : State), k < 4 ∧ n < 384 ∧ s.intc.targets.length = 4 ∧ s.MayAccess m (A_INTC_T_CLAIM k) false ∧ s.able k = true ∧ (n, k) ∈ s.intc.assigned ∧ (∀ e ∈ s.intc.assigned, e.2 = k → n ≤ e.1)) ∧
    (∃ (m : Nat) (n : Nat) (k : Nat) (s : State), k < 4 ∧ n < 384 ∧ s.intc.targets.length = 4 ∧ s.MayAccess m (A_INTC_T_CLAIM k) false ∧ s.able k = true ∧ (n, k) ∈ s.intc.assigned ∧ (∀ e ∈ s.intc.assigned, e.2 = k → n ≤ e.1)) ∧
    (∃ (m : Nat) (k : Nat) (s : State), s.MayAccess m (A_INTC_T_CLAIM k) false ∧ (s.able k = false ∨ (∀ e ∈ s.intc.assigned, e.2 ≠ k))) ∧
    (∃ (m : Nat) (k : Nat) (s : State), s.MayAccess m (A_INTC_T_CLAIM k) false ∧ (s.able k = false ∨ (∀ e ∈ s.intc.assigned, e.2 ≠ k))) ∧
    (∃ (m : Nat) (k : Nat) (s : State), s.MayAccess m (A_INTC_T_CLAIM k) false ∧ (s.able k = false ∨ (∀ e ∈ s.intc.assigned, e.2 ≠ k))) ∧
    (∃ (m : Nat) (k : Nat) (v : Word) (s : State), k < 4 ∧ s.intc.targets.length = 4 ∧ s.MayAccess m (A_INTC_T_COMPLETE k) true ∧ (s.target k).frozen = false ∧ (s.target k).stack.getLast? = some (bits v 8 0)) ∧
    (∃ (m : Nat) (k : Nat) (v : Word) (s : State), s.Sound ∧ k < 4 ∧ s.intc.targets.length = 4 ∧ s.MayAccess m (A_INTC_T_COMPLETE k) true ∧ (s.target k).frozen = false ∧ (s.target k).stack.getLast? ≠ some (bits v 8 0)) ∧
    (∃ (m : Nat) (k : Nat) (v : Word) (s : State), s.Sound ∧ k < 4 ∧ s.intc.targets.length = 4 ∧ s.MayAccess m (A_INTC_T_COMPLETE k) true ∧ (s.target k).frozen = false ∧ (s.target k).stack.getLast? ≠ some (bits v 8 0)) ∧
    (∃ (m : Nat) (k : Nat) (v : Word) (s : State), s.MayAccess m (A_INTC_T_COMPLETE k) true ∧ (s.target k).frozen = true) ∧
    (∃ (m : Nat) (k : Nat) (s : State), k < 4 ∧ s.intc.targets.length = 4 ∧ s.MayAccess m (A_INTC_T_CTRL k) true) ∧
    (∃ (m : Nat) (k : Nat) (s : State), k < 4 ∧ s.intc.targets.length = 4 ∧ s.MayAccess m (A_INTC_T_CTRL k) true) :=
  ⟨⟨0, 2, upd { W0 with hst := { W0.hst with hidle := true } } [(F_GLB_STATUS_REFIN_EVT, 1), (F_INTC_SRC_CFG_EN 0, 4), (F_INTC_T_CTRL_IDLE_EN 2, 1)], sound_of (by decide +kernel), (by decide +kernel), (by decide +kernel), (by decide +kernel), (by decide +kernel)⟩,
   ⟨352, 3, upd W0 [(bitAt A_INTC_SWPEND 0, 1), (F_INTC_SRC_CFG_EN 352, 15), (F_INTC_SRC_CFG_TARGET 352, 2)], sound_of (by decide +kernel), (by decide +kernel), (by decide +kernel), (by decide +kernel), (by decide +kernel)⟩,
   ⟨0, upd W0 [(F_INTC_SRC_CFG_EN 0, 4)], (by decide +kernel)⟩,
   ⟨383, upd W0 [(bitAt A_INTC_SWPEND 31, 1), (F_INTC_SRC_CFG_EN 383, 3)], (by decide +kernel)⟩,
   ⟨0, 32, 2, { W0 with intc := { W0.intc with assigned := [(40, 2), (32, 2), (3, 3)], targets := [{}, {}, { stack := [16], line := true }, {}] } }, (by decide +kernel), (by decide +kernel), (by decide +kernel), may_of (by decide +kernel), (by decide +kernel), (by decide +kernel), (by decide +kernel)⟩,
   ⟨0, 383, 3, { W0 with intc := { W0.intc with assigned := [(383, 3)] } }, (by decide +kernel), (by decide +kernel), (by decide +kernel), may_of (by decide +kernel), (by decide +kernel), (by decide +kernel), (by decide +kernel)⟩,
   ⟨0, 0, { W0 with intc := { W0.intc with assigned := [(3, 0)] } }, may_of (by decide +kernel), (by decide +kernel)⟩,
   ⟨0, 3, W0, may_of (by decide +kernel), (by decide +kernel)⟩,
   ⟨0, 3, { W0 with intc := { W0.intc with assigned := [(3, 3)], targets := [{}, {}, {}, { stack := [1, 2, 3, 4] }] } }, may_of (by decide +kernel), (by decide +kernel)⟩,
   ⟨0, 2, 352#32, upd { W0 with intc := { W0.intc with targets := [{}, {}, { stack := [16, 352] }, { stack := [5] }] } } [(bitAt A_INTC_SWPEND 0, 1), (F_INTC_SRC_CFG_EN 352, 12)], (by decide +kernel), (by decide +kernel), may_of (by decide +kernel), (by decide +kernel), (by decide +kernel)⟩,
   ⟨0, 3, 7#32, upd { W0 with intc := { W0.intc with assigned := [(352, 3)], targets := [{}, {}, {}, { stack := [5], line := true }] } } [(bitAt A_INTC_SWPEND 0, 1), (F_INTC_SRC_CFG_EN 352, 12)], sound_of (by decide +kernel), (by decide +kernel), (by decide +kernel), may_of (by decide +kernel), (by decide +kernel), (by decide +kernel)⟩,
   ⟨0, 2, 0#32, W0, sound_of (by decide +kernel), (by decide +kernel), (by decide +kernel), may_of (by decide +kernel), (by decide +kernel), (by decide +kernel)⟩,
   ⟨0, 2, 5#32, { W0 with intc := { W0.intc with targets := [{}, {}, { stack := [5], frozen := true }, {}] } }, may_of (by decide +kernel), (by decide +kernel)⟩,
   ⟨0, 2, { W0 with intc := { W0.intc with targets := [{}, {}, { stack := [5], frozen := true }, {}] } }, (by decide +kernel), (by decide +kernel), may_of (by decide +kernel)⟩,
   ⟨0, 0, W0, (by decide +kernel), (by decide +kernel), may_of (by decide +kernel)⟩⟩
/-- The premises of Obligations.ModerationIdleTargetsDoorbellsAndTimers are met. -/
theorem witness_moderation_idle_targets_doorbells_and_timers :
    (∃ (k : Nat) (e : Nat) (s : State), k < 4 ∧ s.intc.targets.length = 4 ∧ (s.target k).lineAt = some e) ∧
    (∃ (k : Nat) (e : Nat) (s : State), k < 4 ∧ s.intc.targets.length = 4 ∧ (s.target k).lineAt = some e) ∧
    (∃ (k : Nat) (s : State), (s.target k).lineAt = none) ∧
    (∃ (k : Nat) (s : State), k < 2 ∧ s.intc.targets.length = 4) ∧
    (∃ (k : Nat) (s : State), k < 2 ∧ s.intc.targets.length = 4) ∧
    (∃ (k : Nat) (j : Nat) (s : State), 2 ≤ k ∧ k < 4 ∧ 2 ≤ j ∧ s.intc.targets.length = 4) ∧
    (∃ (k : Nat) (j : Nat) (s : State), 2 ≤ k ∧ k < 4 ∧ 2 ≤ j ∧ s.intc.targets.length = 4) ∧
    (∃ (m : Nat) (v : Word) (s : State), s.Sound ∧ s.MayAccess m A_INTC_SWSET true) ∧
    (∃ (c : Nat) (s : State), c < 2 ∧ s.apps.length = 2 ∧ s.intc.targets.length = 4 ∧ 8 * s.mtimecmp c < 2 ^ 64) ∧
    (∃ (c : Nat) (s : State), c < 2 ∧ s.apps.length = 2 ∧ s.intc.targets.length = 4 ∧ 8 * s.mtimecmp c < 2 ^ 64) ∧
    (∃ (m : Nat) (c : Nat) (i : Instr) (s : State), s.Sound ∧ s.apps.length = 2 ∧ s.intc.targets.length = 4 ∧ s.MayAccess m A_KPR_APPCTL true ∧ ((i = .app0Rst m ∧ c = 0) ∨ (i = .app1Rst m ∧ c = 1))) ∧
    (∃ (m : Nat) (c : Nat) (i : Instr) (s : State), s.Sound ∧ s.apps.length = 2 ∧ s.intc.targets.length = 4 ∧ s.MayAccess m A_KPR_APPCTL true ∧ ((i = .app0Rst m ∧ c = 0) ∨ (i = .app1Rst m ∧ c = 1))) :=
  ⟨⟨2, 1000, upd { W0 with intc := { W0.intc with assigned := [(3, 2)], targets := [{}, {}, { lineAt := some 1000 }, {}] } } [(F_INTC_T_MOD_INTERVAL 2, 5000)], (by decide +kernel), (by decide +kernel), (by decide +kernel)⟩,
   ⟨3, 1000, { W0 with intc := { W0.intc with targets := [{}, {}, {}, { lineAt := some 1000, line := true }] } }, (by decide +kernel), (by decide +kernel), (by decide +kernel)⟩,
   ⟨2, W0, (by decide +kernel)⟩,
   ⟨0, { W0 with intc := { W0.intc with assigned := [(3, 0)], targets := [{}, {}, {}, {}] } }, (by decide +kernel), (by decide +kernel)⟩,
   ⟨1, W0, (by decide +kernel), (by decide +kernel)⟩,
   ⟨2, 3, upd { W0 with intc := { W0.intc with assigned := [(3, 2)] } } [(F_INTC_T_CTRL_IDLE_EN 2, 1)], (by decide +kernel), (by decide +kernel), (by decide +kernel), (by decide +kernel)⟩,
   ⟨3, 2, upd { W0 with intc := { W0.intc with assigned := [(3, 3)], targets := [{}, {}, {}, {stack := [1], line := true}] } } [(F_INTC_T_CTRL_IDLE_EN 3, 1)], (by decide +kernel), (by decide +kernel), (by decide +kernel), (by decide +kernel)⟩,
   ⟨0, 0x80000001#32, upd W0 [(bitAt A_INTC_SWPEND 5, 1), (F_INTC_SRC_CFG_EN 352, 15)], sound_of (by decide +kernel), may_of (by decide +kernel)⟩,
   ⟨0, (W0.setReg (A_INTC_T_MTIMECMP_LO 0) 100#32).setReg (A_INTC_T_MTIMECMP_HI 0) 0#32, (by decide +kernel), (by decide +kernel), (by decide +kernel), (by decide +kernel)⟩,
   ⟨1, (W0.setReg (A_INTC_T_MTIMECMP_LO 1) 100#32).setReg (A_INTC_T_MTIMECMP_HI 1) 0#32, (by decide +kernel), (by decide +kernel), (by decide +kernel), (by decide +kernel)⟩,
   ⟨0, 0, .app0Rst 0, { W0 with pat := { W0.pat with appcode := List.replicate 64 1#8 }, intc := { W0.intc with targets := [{ stack := [3], frozen := true }, {}, {}, {}] } }, sound_of (by decide +kernel), (by decide +kernel), (by decide +kernel), may_of (by decide +kernel), (by decide +kernel)⟩,
   ⟨0, 1, .app1Rst 0, { W0 with intc := { W0.intc with assigned := [(3, 1)], targets := [{}, { stack := [3], frozen := true }, {}, {}] } }, sound_of (by decide +kernel), (by decide +kernel), (by decide +kernel), may_of (by decide +kernel), (by decide +kernel)⟩⟩
/-- The premises of Obligations.TheHostPortBuffersWritesAndAnswersReads are met. -/
theorem witness_the_host_port_buffers_writes_and_answers_reads :
    (∃ (a : Nat) (n : Nat) (l : List Word) (b : Bool) (s : State), s.hostPortOn = false) ∧
    (∃ (a : Nat) (l : List Word) (s : State), s.hostPortOn = true ∧ s.hst.buffer.length + l.length ≤ 512) ∧
    (∃ (a : Nat) (l : List Word) (s : State), s.Sound ∧ s.hostPortOn = true ∧ 512 < s.hst.buffer.length + l.length) ∧
    (∃ (a : Nat) (l : List Word) (s : State), s.Sound ∧ s.hostPortOn = true ∧ s.hst.buffer.length + l.length + 1 ≤ 512) ∧
    (∃ (a : Nat) (n : Nat) (w : Word) (x : Word) (r : List (Nat × Word × Nat)) (s : State) (u : State), s.hst.buffer = (a, w, n) :: r ∧ ({ s with hst := { s.hst with buffer := r } } : State).busWrite mHost a w = (u, 0, x)) ∧
    (∃ (a : Nat) (n : Nat) (c : Nat) (w : Word) (x : Word) (r : List (Nat × Word × Nat)) (s : State) (u : State), s.Sound ∧ s.hst.buffer = (a, w, n) :: r ∧ ({ s with hst := { s.hst with buffer := r } } : State).busWrite mHost a w = (u, c, x) ∧ c ≠ 0) ∧
    (∃ (a : Nat) (n : Nat) (w : Word) (r : List (Nat × Word × Nat)) (s : State), s.hst.buffer = (a, w, n) :: r ∧ a % 4 ≠ 0) ∧
    (∃ (s : State), s.hst.buffer = []) ∧
    (∃ (a : Nat) (w : Word) (s : State) (u : State), s.hostPortOn = true ∧ s.hst.buffer = [] ∧ s.busRead mHost a = (u, 0, w)) ∧
    (∃ (a : Nat) (n : Nat) (c : Nat) (w : Word) (s : State) (u : State), s.hostPortOn = true ∧ s.hst.buffer = [] ∧ s.busRead mHost a = (u, c, w) ∧ c ≠ 0) ∧
    (∃ (a : Nat) (n : Nat) (s : State), s.hostPortOn = true ∧ s.hst.buffer = [] ∧ a < 4294967296 ∧ a % 4 ≠ 0) ∧
    (∃ (a : Nat) (n : Nat) (s : State), s.hostPortOn = true ∧ s.hst.buffer = [] ∧ a < 4294967296 ∧ a % 4 = 0 ∧ regionOf a = none) ∧
    (∃ (a : Nat) (w : Word) (s : State), s.Sound ∧ s.hostPortOn = true ∧ s.hst.buffer = [] ∧ appmBase ≤ a ∧ s.MayAccess mHost a true ∧ s.MayAccess mHost a false) ∧
    (∃ (s : State), s.hostPortOn = true) :=
  ⟨⟨0, 3, [1#32], true, W0, (by decide +kernel)⟩,
   ⟨0x10000, [1#32, 2#32], bootd W0, (by decide +kernel), (by decide +kernel)⟩,
   ⟨0x10000, List.replicate 512 7#32, { bootd W0 with hst := { buffer := [(0, 1#32, 0)] } }, sound_of (by decide +kernel), (by decide +kernel), (by decide +kernel)⟩,
   ⟨0x10000, [5#32], { bootd W0 with hst := { buffer := [(0, 1#32, 0)], nextCommand := 1 } }, sound_of (by decide +kernel), (by decide +kernel), (by decide +kernel)⟩,
   ⟨0x10000004, 1, 5#32, 0#32, [(0, 1#32, 2)], { open_ (bootd W0) with hst := { buffer := [(0x10000004, 5#32, 1), (0, 1#32, 2)] } }, (({ ({ open_ (bootd W0) with hst := { buffer := [(0x10000004, 5#32, 1), (0, 1#32, 2)] } } : State) with hst := { ({ open_ (bootd W0) with hst := { buffer := [(0x10000004, 5#32, 1), (0, 1#32, 2)] } } : State).hst with buffer := ([(0, 1#32, 2)] : List (Nat × Word × Nat)) } } : State).busWrite mHost (0x10000004 : Nat) (5#32 : Word)).1, (by decide +kernel), tri_eq (by decide +kernel) (by decide +kernel)⟩,
   ⟨0x10000, 1, 1, 5#32, 0#32, [(0, 1#32, 1), (4, 1#32, 2)], { bootd W0 with hst := { buffer := [(0x10000, 5#32, 1), (0, 1#32, 1), (4, 1#32, 2)] } }, (({ ({ bootd W0 with hst := { buffer := [(0x10000, 5#32, 1), (0, 1#32, 1), (4, 1#32, 2)] } } : State) with hst := { ({ bootd W0 with hst := { buffer := [(0x10000, 5#32, 1), (0, 1#32, 1), (4, 1#32, 2)] } } : State).hst with buffer := ([(0, 1#32, 1), (4, 1#32, 2)] : List (Nat × Word × Nat)) } } : State).busWrite mHost (0x10000 : Nat) (5#32 : Word)).1, sound_of (by decide +kernel), (by decide +kernel), tri_eq (by decide +kernel) (by decide +kernel), (by decide +kernel)⟩,
   ⟨0x10001, 1, 5#32, [(0, 1#32, 1), (4, 1#32, 2)], { bootd W0 with hst := { buffer := [(0x10001, 5#32, 1), (0, 1#32, 1), (4, 1#32, 2)] } }, (by decide +kernel), (by decide +kernel)⟩,
   ⟨W0, (by decide +kernel)⟩,
   ⟨0x0, ((bootd W0).busRead mHost 0).2.2, bootd W0, ((bootd W0 : State).busRead mHost (0x0 : Nat)).1, (by decide +kernel), (by decide +kernel), tri_eq (by decide +kernel) (by decide +kernel)⟩,
   ⟨0x40000, 2, 1, 0#32, bootd W0, ((bootd W0 : State).busRead mHost (0x40000 : Nat)).1, (by decide +kernel), (by decide +kernel), tri_eq (by decide +kernel) (by decide +kernel), (by decide +kernel)⟩,
   ⟨0x40002, 2, bootd W0, (by decide +kernel), (by decide +kernel), (by decide +kernel), (by decide +kernel)⟩,
   ⟨0xF0000, 0, bootd W0, (by decide +kernel), (by decide +kernel), (by decide +kernel), (by decide +kernel), (by decide +kernel)⟩,
   ⟨0x107FFFFC, 0xDEADBEEF#32, open_ (bootd W0), sound_of (by decide +kernel), (by decide +kernel), (by decide +kernel), (by decide +kernel), may_of (by decide +kernel), may_of (by decide +kernel)⟩,
   ⟨{ bootd W0 with hst := { buffer := [(0, 1#32, 0)], hidle := true } }, (by decide +kernel)⟩⟩
/-- The premises of Obligations.FlashCommandsWaitAndTakeTheirEffectAtCompletion are met. -/
theorem witness_flash_commands_wait_and_take_their_effect_at_completion :
    (∃ (m : Nat) (s : State), s.Sound ∧ s.MayAccess m A_KPR_FLW_CTRL true) ∧
    (∃ (m : Nat) (s : State), s.Sound ∧ s.MayAccess m A_KPR_FLW_CTRL true) ∧
    (∃ (m : Nat) (s : State), s.Sound ∧ s.MayAccess m A_KPR_FLW_CTRL true) ∧
    (∃ (m : Nat) (s : State), s.Sound ∧ s.MayAccess m A_KPR_FLW_CTRL true) ∧
    (∃ (m : Nat) (s : State), s.Sound ∧ s.MayAccess m A_KPR_FLW_CTRL true) ∧
    (∃ (m : Nat) (s : State), s.Sound ∧ s.MayAccess m A_KPR_FLW_CTRL true) ∧
    (∃ (m : Nat) (s : State), s.Sound ∧ s.MayAccess m A_KPR_FLW_CTRL true) ∧
    (∃ (a : Nat) (p : List Byte) (s : State), s.Sound ∧ s.flashCmd = some ⟨1, a, p⟩) ∧
    (∃ (a : Nat) (p : List Byte) (s : State), s.Sound ∧ s.flashCmd = some ⟨2, a, p⟩ ∧ p.length = 256) ∧
    (∃ (a : Nat) (p : List Byte) (b : Bool) (s : State), s.Sound ∧ s.flashCmd = some ⟨3, a, p⟩) ∧
    (∃ (a : Nat) (c : Nat) (p : List Byte) (s : State), s.Sound ∧ (c = 1 ∨ c = 2) ∧ s.flashCmd = some ⟨c, a, p⟩) ∧
    (∃ (a : Nat) (c : Nat) (p : List Byte) (s : State), s.Sound ∧ (c = 1 ∨ c = 2) ∧ s.flashCmd = some ⟨c, a, p⟩) ∧
    (∃ (b : Bool) (s : State), s.flashCmd = none) :=
  ⟨⟨0, W0, sound_of (by decide +kernel), may_of (by decide +kernel)⟩,
   ⟨0, upd (open_ W0) [(F_KPR_FLW_ADDR_ADDR, 0x3FF0000)], sound_of (by decide +kernel), may_of (by decide +kernel)⟩,
   ⟨0, upd (open_ W0) [(F_KPR_FLW_ADDR_ADDR, 0x3FF0100)], sound_of (by decide +kernel), may_of (by decide +kernel)⟩,
   ⟨0, upd (open_ W0) [(F_KPR_FLW_ADDR_ADDR, 0x3FFFF00), (F_KPR_FLW_CTRL_BUSY, 1)], sound_of (by decide +kernel), may_of (by decide +kernel)⟩,
   ⟨0, upd (open_ W0) [(F_KPR_FLW_ADDR_ADDR, 0x3FFFF00), (F_KPR_FLW_CTRL_REJECT, 1)], sound_of (by decide +kernel), may_of (by decide +kernel)⟩,
   ⟨0, upd (open_ { W0 with pat := { W0.pat with loaded := true, slot := 2 } }) [(F_KPR_FLW_ADDR_ADDR, 0x3FFFF00)], sound_of (by decide +kernel), may_of (by decide +kernel)⟩,
   ⟨0, upd (open_ { W0 with pat := { W0.pat with loaded := true, slot := 1 } }) [(F_KPR_FLW_ADDR_ADDR, 0x3FFFF00)], sound_of (by decide +kernel), may_of (by decide +kernel)⟩,
   ⟨65536, [], upd { W0 with flashCmd := some ⟨1, 65536, []⟩, flash := [(65535, 0#8), (65536, 0#8), (131071, 0#8), (131072, 0#8)] } [(F_KPR_FLW_CTRL_BUSY, 1)], sound_of (by decide +kernel), (by decide +kernel)⟩,
   ⟨256, List.replicate 256 5#8, upd { W0 with flashCmd := some ⟨2, 256, List.replicate 256 5#8⟩, flash := [(255, 0#8), (256, 0#8), (257, 5#8), (512, 0#8)] } [(F_KPR_FLW_CTRL_BUSY, 1)], sound_of (by decide +kernel), (by decide +kernel), (by decide +kernel)⟩,
   ⟨256, [], false, upd { W0 with flashCmd := some ⟨3, 256, []⟩, flash := [(255, 0#8), (256, 1#8), (257, 5#8), (511, 0#8)] } [(F_KPR_FLW_CTRL_BUSY, 1)], sound_of (by decide +kernel), (by decide +kernel)⟩,
   ⟨0, 2, [], upd { W0 with flashCmd := some ⟨2, 0, []⟩, flash := [(255, 0#8), (256, 0#8)] } [(F_KPR_FLW_CTRL_BUSY, 1)], sound_of (by decide +kernel), (by decide +kernel), (by decide +kernel)⟩,
   ⟨65536, 1, [], upd { W0 with flashCmd := some ⟨1, 65536, []⟩ } [(F_KPR_FLW_CTRL_BUSY, 1)], sound_of (by decide +kernel), (by decide +kernel), (by decide +kernel)⟩,
   ⟨true, W0, (by decide +kernel)⟩⟩
/-- The premises of Obligations.AccessesReachRegistersMemoryAndTheImageWindow are met. -/
theorem witness_accesses_reach_registers_memory_and_the_image_window :
    (∃ (m : Nat) (a : Nat) (v : Word) (s : State), a < 4294967296 ∧ a % 4 ≠ 0) ∧
    (∃ (m : Nat) (a : Nat) (v : Word) (s : State), a < 4294967296 ∧ a % 4 = 0 ∧ regionOf a = none) ∧
    (∃ (m : Nat) (a : Nat) (r : Nat) (s : State), s.Sound ∧ m < 20 ∧ a < 4294967296 ∧ a % 4 = 0 ∧ regionOf a = some r ∧ s.allowed r m a false = false) ∧
    (∃ (m : Nat) (a : Nat) (r : Nat) (s : State), s.Sound ∧ m < 20 ∧ a < 4294967296 ∧ a % 4 = 0 ∧ regionOf a = some r ∧ s.allowed r m a false = false) ∧
    (∃ (m : Nat) (a : Nat) (r : Nat) (s : State), s.Sound ∧ m < 20 ∧ a < 4294967296 ∧ a % 4 = 0 ∧ regionOf a = some r ∧ s.allowed r m a false = false) ∧
    (∃ (m : Nat) (a : Nat) (r : Nat) (v : Word) (s : State), s.Sound ∧ m < 20 ∧ a < 4294967296 ∧ a % 4 = 0 ∧ regionOf a = some r ∧ s.allowed r m a true = false) ∧
    (∃ (m : Nat) (a : Nat) (r : Nat) (v : Word) (s : State), s.Sound ∧ m < 20 ∧ a < 4294967296 ∧ a % 4 = 0 ∧ regionOf a = some r ∧ s.allowed r m a true = false) ∧
    (∃ (m : Nat) (a : Nat) (r : RegRow) (s : State), s.MayAccess m a false ∧ a < stiBase ∧ indexIn (A_INTC_T_CLAIM 0) 256 4 a = none ∧ indexIn (A_TSU_CAP_NS 0) 16 8 a = none ∧ regAt a = some r) ∧
    (∃ (m : Nat) (a : Nat) (r : RegRow) (s : State), s.MayAccess m a false ∧ a < stiBase ∧ indexIn (A_INTC_T_CLAIM 0) 256 4 a = none ∧ indexIn (A_TSU_CAP_NS 0) 16 8 a = none ∧ regAt a = some r) ∧
    (∃ (m : Nat) (a : Nat) (v : Word) (r : RegRow) (s : State), s.Sound ∧ s.MayAccess m a true ∧ a < stiBase ∧ regAt a = some r ∧ r.isRwl = false ∧ s.ruledWrite m a v = none ∧ (a < A_INTC_SRC_CFG 0 ∨ A_INTC_SRC_CFG 384 ≤ a) ∧ roCompare a = false) ∧
    (∃ (m : Nat) (a : Nat) (v : Word) (r : RegRow) (s : State), s.Sound ∧ s.MayAccess m a true ∧ a < stiBase ∧ regAt a = some r ∧ r.isRwl = false ∧ s.ruledWrite m a v = none ∧ (a < A_INTC_SRC_CFG 0 ∨ A_INTC_SRC_CFG 384 ≤ a) ∧ roCompare a = false) ∧
    (∃ (m : Nat) (a : Nat) (v : Word) (r : RegRow) (s : State), s.Sound ∧ s.locked = true ∧ s.MayAccess m a true ∧ a < stiBase ∧ regAt a = some r ∧ r.isRwl = true) ∧
    (∃ (m : Nat) (n : Nat) (a : Nat) (v : Word) (s : State), s.Sound ∧ s.MayAccess m a true ∧ s.MayAccess n a false ∧ appmBase ≤ a) ∧
    (∃ (m : Nat) (n : Nat) (b : Nat) (e : Nat) (s : State), n < 65536 ∧ s.MayAccess m (stiBase + n) false ∧ afind s.sti.views m = some ⟨b, e, true⟩) ∧
    (∃ (m : Nat) (n : Nat) (s : State), s.Sound ∧ n < 65536 ∧ s.MayAccess m (stiBase + n) false ∧ (∀ b e, afind s.sti.views m ≠ some ⟨b, e, true⟩)) ∧
    (∃ (m : Nat) (n : Nat) (s : State), s.Sound ∧ n < 65536 ∧ s.MayAccess m (stiBase + n) false ∧ (∀ b e, afind s.sti.views m ≠ some ⟨b, e, true⟩)) ∧
    (∃ (m : Nat) (s : State), s.MayAccess m A_STI_VIEW_CTRL true) ∧
    (∃ (m : Nat) (s : State), s.MayAccess m A_STI_VIEW_CTRL true) :=
  ⟨⟨0, 0x10002, 1#32, W0, (by decide +kernel), (by decide +kernel)⟩,
   ⟨0, 0x104000 + 0x4000, 1#32, W0, (by decide +kernel), (by decide +kernel), (by decide +kernel)⟩,
   ⟨13, 0x40000, 4, W0, sound_of (by decide +kernel), (by decide +kernel), (by decide +kernel), (by decide +kernel), (by decide +kernel), (by decide +kernel)⟩,
   ⟨0, 0x90000, 9, upd (W0.setFlag F_KPR_LOCK_LOCKED true) [(F_ACC_EVENT_VIOL, 1), (word32 A_ACC_VIOL, 77)], sound_of (by decide +kernel), (by decide +kernel), (by decide +kernel), (by decide +kernel), (by decide +kernel), (by decide +kernel)⟩,
   ⟨19, 0x10000, 0, W0, sound_of (by decide +kernel), (by decide +kernel), (by decide +kernel), (by decide +kernel), (by decide +kernel), (by decide +kernel)⟩,
   ⟨13, 0x10000, 0, 3#32, W0, sound_of (by decide +kernel), (by decide +kernel), (by decide +kernel), (by decide +kernel), (by decide +kernel), (by decide +kernel)⟩,
   ⟨15, 0x10000, 0, 3#32, W0, sound_of (by decide +kernel), (by decide +kernel), (by decide +kernel), (by decide +kernel), (by decide +kernel), (by decide +kernel)⟩,
   ⟨13, 0x10000, (regAt 0x10000).getD ⟨0, [], []⟩, bootd W0, may_of (by decide +kernel), (by decide +kernel), (by decide +kernel), (by decide +kernel), (by decide +kernel)⟩,
   ⟨0, A_SAF_CONN_CNT 0, (regAt (A_SAF_CONN_CNT 0)).getD ⟨0, [], []⟩, W0.setReg (A_SAF_CONN_CNT 0) 0x30005#32, may_of (by decide +kernel), (by decide +kernel), (by decide +kernel), (by decide +kernel), (by decide +kernel)⟩,
   ⟨0, A_INTC_T_MOD 2, 0xFFFFFFFF#32, (regAt (A_INTC_T_MOD 2)).getD ⟨0, [], []⟩, W0, sound_of (by decide +kernel), may_of (by decide +kernel), (by decide +kernel), (by decide +kernel), (by decide +kernel), (by decide +kernel), (by decide +kernel), (by decide +kernel)⟩,
   ⟨0, A_GLB_STATUS, 0xFFFFFFFF#32, (regAt A_GLB_STATUS).getD ⟨0, [], []⟩, upd W0 [(F_GLB_STATUS_REFIN_EVT, 1)], sound_of (by decide +kernel), may_of (by decide +kernel), (by decide +kernel), (by decide +kernel), (by decide +kernel), (by decide +kernel), (by decide +kernel), (by decide +kernel)⟩,
   ⟨13, A_ACC_R_MASK 3 0, 1#32, (regAt (A_ACC_R_MASK 3 0)).getD ⟨0, [], []⟩, open_ W0, sound_of (by decide +kernel), (by decide +kernel), may_of (by decide +kernel), (by decide +kernel), (by decide +kernel), (by decide +kernel)⟩,
   ⟨13, 12, 0x10000000, 0x12345678#32, open_ { W0 with appm := [(0x10000000, 1#8), (0x10000003, 1#8), (0x10000004, 1#8)] }, sound_of (by decide +kernel), may_of (by decide +kernel), may_of (by decide +kernel), (by decide +kernel)⟩,
   ⟨13, 65532, 1, 7, { open_ W0 with sti := { W0.sti with views := [(13, ⟨1, 7, true⟩)], bufB := [(16383, 9#32)] } }, (by decide +kernel), may_of (by decide +kernel), (by decide +kernel)⟩,
   ⟨13, 0, { open_ W0 with sti := { W0.sti with views := [(13, ⟨1, 7, false⟩)] } }, sound_of (by decide +kernel), (by decide +kernel), may_of (by decide +kernel), views_open (by decide +kernel)⟩,
   ⟨13, 65532, open_ W0, sound_of (by decide +kernel), (by decide +kernel), may_of (by decide +kernel), views_open (by decide +kernel)⟩,
   ⟨0, { W0 with sti := { W0.sti with views := [(0, ⟨1, 7, false⟩), (4, ⟨1, 7, true⟩)], front := 1 } }, may_of (by decide +kernel)⟩,
   ⟨0, { W0 with sti := { W0.sti with views := [(0, ⟨1, 7, false⟩), (4, ⟨1, 7, true⟩)], front := 1 } }, may_of (by decide +kernel)⟩⟩
/-- The premises of Obligations.HardwareFaultsAreCountedSparedOrStopTheDevice are met. -/
theorem witness_hardware_faults_are_counted_spared_or_stop_the_device :
    (∃ (n : Nat) (s : State), (n ∈ s.hlt.pairsOut ∨ 10 < n)) ∧
    (∃ (n : Nat) (s : State), 1 ≤ n ∧ n ≤ 4 ∧ n ∉ s.hlt.pairsOut ∧ s.spareTaken true = false) ∧
    (∃ (n : Nat) (s : State), 1 ≤ n ∧ n ≤ 4 ∧ n ∉ s.hlt.pairsOut ∧ s.spareTaken true = false) ∧
    (∃ (n : Nat) (s : State), (n = 6 ∨ n = 7) ∧ n ∉ s.hlt.pairsOut ∧ s.spareTaken false = false) ∧
    (∃ (n : Nat) (s : State), (n = 6 ∨ n = 7) ∧ n ∉ s.hlt.pairsOut ∧ s.spareTaken false = false) ∧
    (∃ (f : Bool) (n : Nat) (s : State), ((f = true ∧ n = 5) ∨ (f = false ∧ n = 8)) ∧ n ∉ s.hlt.pairsOut ∧ s.spareTaken f = false) ∧
    (∃ (f : Bool) (n : Nat) (s : State), ((f = true ∧ n = 5) ∨ (f = false ∧ n = 8)) ∧ n ∉ s.hlt.pairsOut ∧ s.spareTaken f = false) ∧
    (∃ (n : Nat) (s : State), s.Sound ∧ n ∉ s.hlt.pairsOut ∧ (n = 0 ∨ n = 9 ∨ (1 ≤ n ∧ n ≤ 5 ∧ s.spareTaken true = true) ∨ (6 ≤ n ∧ n ≤ 8 ∧ s.spareTaken false = true))) ∧
    (∃ (n : Nat) (s : State), s.Sound ∧ n ∉ s.hlt.pairsOut ∧ (n = 0 ∨ n = 9 ∨ (1 ≤ n ∧ n ≤ 5 ∧ s.spareTaken true = true) ∨ (6 ≤ n ∧ n ≤ 8 ∧ s.spareTaken false = true))) ∧
    (∃ (n : Nat) (s : State), s.Sound ∧ n ∉ s.hlt.pairsOut ∧ (n = 0 ∨ n = 9 ∨ (1 ≤ n ∧ n ≤ 5 ∧ s.spareTaken true = true) ∨ (6 ≤ n ∧ n ≤ 8 ∧ s.spareTaken false = true))) ∧
    (∃ (n : Nat) (s : State), s.Sound ∧ n ∉ s.hlt.pairsOut ∧ (n = 0 ∨ n = 9 ∨ (1 ≤ n ∧ n ≤ 5 ∧ s.spareTaken true = true) ∨ (6 ≤ n ∧ n ≤ 8 ∧ s.spareTaken false = true))) ∧
    (∃ (s : State), s.Sound ∧ 10 ∉ s.hlt.pairsOut) ∧
    (∃ (s : State), s.Sound ∧ 10 ∉ s.hlt.pairsOut) ∧
    (∃ (b : Nat) (c : Bool) (s : State), aget 0 s.hlt.bankCorr b < s.par 0x0822) ∧
    (∃ (b : Nat) (c : Bool) (s : State), s.par 0x0822 ≤ aget 0 s.hlt.bankCorr b ∧ b ∉ s.mram.riserBanks ∧ s.hlt.bankCopy = none ∧ s.mram.riserBanks.length < 2) ∧
    (∃ (b : Nat) (c : Bool) (s : State), b ∉ s.mram.riserBanks ∧ s.hlt.bankCopy = none ∧ s.mram.riserBanks.length < 2) ∧
    (∃ (b : Nat) (c : Bool) (s : State), b ∉ s.mram.riserBanks ∧ s.hlt.bankCopy = none ∧ s.mram.riserBanks.length < 2) ∧
    (∃ (b : Nat) (c : Bool) (s : State), s.Sound ∧ b ∉ s.mram.riserBanks ∧ s.hlt.bankCopy = none ∧ 2 ≤ s.mram.riserBanks.length) ∧
    (∃ (k : Nat) (n : Nat) (s : State), s.dev.st = .boot) ∧
    (∃ (k : Nat) (n : Nat) (s : State), k < 5 ∧ s.dev.st ≠ .boot) ∧
    (∃ (k : Nat) (n : Nat) (s : State), k < 5 ∧ s.dev.st ≠ .boot) ∧
    (∃ (k : Nat) (n : Nat) (s : State), k < 5 ∧ s.dev.st ≠ .boot) ∧
    (∃ (n : Nat) (s : State), s.dev.st ≠ .boot) ∧
    (∃ (n : Nat) (s : State), s.dev.st ≠ .boot) ∧
    (∃ (r : Nat) (s : State), afind s.hlt.railOut r = none) ∧
    (∃ (r : Nat) (a : Nat) (s : State), s.Sound ∧ afind s.hlt.railOut r = some a) ∧
    (∃ (r : Nat) (a : Nat) (s : State), s.Sound ∧ afind s.hlt.railOut r = some a) :=
  ⟨⟨11, W0, (by decide +kernel)⟩,
   ⟨4, W0, (by decide +kernel), (by decide +kernel), (by decide +kernel), (by decide +kernel)⟩,
   ⟨1, { armed W0 with dev := { (armed W0).dev with stepsDone := [1, 2] } }, (by decide +kernel), (by decide +kernel), (by decide +kernel), (by decide +kernel)⟩,
   ⟨7, W0, (by decide +kernel), (by decide +kernel), (by decide +kernel)⟩,
   ⟨6, { armed W0 with dev := { (armed W0).dev with stepsDone := [1, 2, 3, 4] } }, (by decide +kernel), (by decide +kernel), (by decide +kernel)⟩,
   ⟨true, 5, armed W0, (by decide +kernel), (by decide +kernel), (by decide +kernel)⟩,
   ⟨false, 8, { armed W0 with hlt := { W0.hlt with fusionSpareNext := true } }, (by decide +kernel), (by decide +kernel), (by decide +kernel)⟩,
   ⟨9, { armed W0 with dev := { (armed W0).dev with st := .active }, twn := { W0.twn with holder := some W0.pins.side } }, sound_of (by decide +kernel), (by decide +kernel), (by decide +kernel)⟩,
   ⟨6, { armed W0 with hlt := { W0.hlt with controlSpareNext := true } }, sound_of (by decide +kernel), (by decide +kernel), (by decide +kernel)⟩,
   ⟨0, bootd W0, sound_of (by decide +kernel), (by decide +kernel), (by decide +kernel)⟩,
   ⟨5, { bootd W0 with hlt := { W0.hlt with fusionSpareUsed := true } , twn := { W0.twn with holder := some W0.pins.side } }, sound_of (by decide +kernel), (by decide +kernel), (by decide +kernel)⟩,
   ⟨{ armed W0 with dev := { (armed W0).dev with st := .active }, twn := { W0.twn with holder := some W0.pins.side } }, sound_of (by decide +kernel), (by decide +kernel)⟩,
   ⟨bootd W0, sound_of (by decide +kernel), (by decide +kernel)⟩,
   ⟨3, true, W0, (by decide +kernel)⟩,
   ⟨3, true, { par W0 [(0x0822, [2])] with hlt := { W0.hlt with bankCorr := [(3, 2)] }, mram := { W0.mram with riserBanks := [7] } }, (by decide +kernel), (by decide +kernel), (by decide +kernel), (by decide +kernel)⟩,
   ⟨3, true, W0, (by decide +kernel), (by decide +kernel), (by decide +kernel)⟩,
   ⟨3, false, { W0 with twn := { W0.twn with selfE := true } }, (by decide +kernel), (by decide +kernel), (by decide +kernel)⟩,
   ⟨3, true, { armed W0 with mram := { W0.mram with riserBanks := [7, 8] } }, sound_of (by decide +kernel), (by decide +kernel), (by decide +kernel), (by decide +kernel)⟩,
   ⟨3, 7, W0, (by decide +kernel)⟩,
   ⟨3, 70000, armed W0, (by decide +kernel), (by decide +kernel)⟩,
   ⟨2, 1, { armed W0 with hlt := { W0.hlt with checkAt := [(2, 5)] } }, (by decide +kernel), (by decide +kernel)⟩,
   ⟨4, 1, { armed W0 with hlt := { W0.hlt with checkAt := [(4, 5)] } }, (by decide +kernel), (by decide +kernel)⟩,
   ⟨1, armed W0, (by decide +kernel)⟩,
   ⟨1, { armed W0 with mram := { W0.mram with base := 3, next := 5, area := [(50, 1#32)] } }, (by decide +kernel)⟩,
   ⟨5, W0, (by decide +kernel)⟩,
   ⟨5, 3, { armed W0 with hlt := { W0.hlt with railOut := [(5, 3)] } }, sound_of (by decide +kernel), (by decide +kernel)⟩,
   ⟨5, 3, { bootd W0 with hlt := { W0.hlt with railOut := [(5, 3)] } }, sound_of (by decide +kernel), (by decide +kernel)⟩⟩
/-- The premises of Obligations.TemperaturesTrimsAndOperatingTimeAdvance are met. -/
theorem witness_temperatures_trims_and_operating_time_advance :
    (∃ (rails : List (Nat × Nat)) (vin : Nat) (coils : List Nat) (d : List Int) (s : State), (s.boot.started = false ∨ s.boot.halted = true)) ∧
    (∃ (rails : List (Nat × Nat)) (vin : Nat) (coils : List Nat) (d : List Int) (s : State), s.Sound ∧ s.boot.started = true ∧ s.boot.halted = false ∧ rails.length ≤ 8) ∧
    (∃ (rails : List (Nat × Nat)) (vin : Nat) (coils : List Nat) (d : List Int) (s : State), s.Sound ∧ s.boot.started = true ∧ s.boot.halted = false ∧ rails.length ≤ 8) ∧
    (∃ (rails : List (Nat × Nat)) (vin : Nat) (coils : List Nat) (d : List Int) (s : State), s.Sound ∧ s.boot.started = true ∧ s.boot.halted = false ∧ rails.length ≤ 8) ∧
    (∃ (rails : List (Nat × Nat)) (vin : Nat) (coils : List Nat) (d : List Int) (s : State), s.Sound ∧ s.boot.started = true ∧ s.boot.halted = false ∧ rails.length ≤ 8) ∧
    (∃ (rails : List (Nat × Nat)) (vin : Nat) (coils : List Nat) (d : List Int) (s : State), s.Sound ∧ s.boot.started = true ∧ s.boot.halted = false ∧ rails.length ≤ 8) ∧
    (∃ (rails : List (Nat × Nat)) (vin : Nat) (coils : List Nat) (d : List Int) (s : State), s.Sound ∧ s.boot.started = true ∧ s.boot.halted = false ∧ rails.length ≤ 8) ∧
    (∃ (s : State), s.boot.started = true ∧ s.boot.halted = false) ∧
    (∃ (a : Nat) (s : State), s.Sound ∧ s.thm.coolSince = some a) ∧
    (∃ (s : State), s.thm.coolSince = none) ∧
    (∃ (r : Nat) (n : Nat) (s : State), s.Sound ∧ r < 8 ∧ afind s.hlt.trimPlan r = some (n + 1)) ∧
    (∃ (r : Nat) (n : Nat) (s : State), s.Sound ∧ r < 8 ∧ afind s.hlt.trimPlan r = some (n + 1)) ∧
    (∃ (r : Nat) (n : Nat) (s : State), s.Sound ∧ r < 8 ∧ afind s.hlt.trimPlan r = some (n + 1)) ∧
    (∃ (r : Nat) (s : State), afind s.hlt.trimPlan r = none) ∧
    (∃ (l : List DieReading) (d : List Int) (s : State), s.rcd.hourly = false) ∧
    (∃ (l : List DieReading) (d : List Int) (s : State), s.rcd.hourly = true) ∧
    (∃ (s : State), s.boot.started = true ∧ s.boot.halted = false) ∧
    (∃ (s : State), s.boot.started = true ∧ s.boot.halted = false) ∧
    (∃ (s : State), s.boot.started = true ∧ s.boot.halted = false) :=
  ⟨⟨[], 20000, [300], [], W0, (by decide +kernel)⟩,
   ⟨[(800, 1000), (2000, 1)], 20000, [300], [300, 1501, -501, 400], bootd W0, sound_of (by decide +kernel), (by decide +kernel), (by decide +kernel), (by decide +kernel)⟩,
   ⟨[(800, 1000), (2000, 1)], 20000, [300], [1250, 1250, 1250, 1500], bootd W0, sound_of (by decide +kernel), (by decide +kernel), (by decide +kernel), (by decide +kernel)⟩,
   ⟨[(800, 1000), (2000, 1)], 20000, [300], [1249, 1200, 1150, 1000], { bootd W0 with thm := { W0.thm with warned := false } }, sound_of (by decide +kernel), (by decide +kernel), (by decide +kernel), (by decide +kernel)⟩,
   ⟨[(800, 1000), (2000, 1)], 20000, [300], [0, 0, 0, 0], upd { bootd W0 with thm := { W0.thm with warned := true, coolSince := some 4 } } [(F_HLT_STATUS_WARN, 1), (F_HLT_STATUS_COOLED, 1), (F_HLT_STATUS_SHUTDOWN, 1)], sound_of (by decide +kernel), (by decide +kernel), (by decide +kernel), (by decide +kernel)⟩,
   ⟨[(800, 1000), (2000, 1)], 20000, [300], [1160, 0, 0, 0], { bootd W0 with thm := { W0.thm with warned := true, coolSince := some 4 } }, sound_of (by decide +kernel), (by decide +kernel), (by decide +kernel), (by decide +kernel)⟩,
   ⟨[(0, 0)], 0, [], [1160, 0, 0, 0], { bootd W0 with thm := { W0.thm with updatedAt := some 77 }, hlt := { W0.hlt with railOut := [(0, 5)] } }, sound_of (by decide +kernel), (by decide +kernel), (by decide +kernel), (by decide +kernel)⟩,
   ⟨{ bootd W0 with thm := { W0.thm with trackedAt := some 5, diodes := [600, 600, 600, 600], badDiodes := [], tref := 100, nodes := [1, 2, 3, 4, 5, 6, 7, 8] } }, (by decide +kernel), (by decide +kernel)⟩,
   ⟨10, { W0 with thm := { W0.thm with coolSince := some 10 } }, sound_of (by decide +kernel), (by decide +kernel)⟩,
   ⟨W0, (by decide +kernel)⟩,
   ⟨5, 0, { W0 with hlt := { W0.hlt with trimPlan := [(5, 1)] }, mram := { W0.mram with trims := [(5, 11)] } }, sound_of (by decide +kernel), (by decide +kernel), (by decide +kernel)⟩,
   ⟨0, 2, { W0 with hlt := { W0.hlt with trimPlan := [(0, 3)] } }, sound_of (by decide +kernel), (by decide +kernel), (by decide +kernel)⟩,
   ⟨5, 1, { W0 with hlt := { W0.hlt with trimPlan := [(5, 2)] }, mram := { W0.mram with trims := [(5, 12)] } }, sound_of (by decide +kernel), (by decide +kernel), (by decide +kernel)⟩,
   ⟨5, W0, (by decide +kernel)⟩,
   ⟨[], [], W0, (by decide +kernel)⟩,
   ⟨[⟨1, 2⟩, ⟨1, 2⟩], [300, 1600, 200, 200], { armed W0 with rcd := { W0.rcd with hourly := true } }, (by decide +kernel)⟩,
   ⟨{ bootd W0 with rcd := { W0.rcd with opTime := 35999 }, saf := { W0.saf with brakes := [{ degr := 1 }, { degr := 3 }, {}, {}, {}, {}, {}, { degr := 2 }] }, mram := { W0.mram with brakeLeft := [(0, 5), (1, 4)] } }, (by decide +kernel), (by decide +kernel)⟩,
   ⟨{ bootd W0 with rcd := { W0.rcd with opTime := 98 } }, (by decide +kernel), (by decide +kernel)⟩,
   ⟨{ bootd W0 with rcd := { W0.rcd with opTime := 99 } }, (by decide +kernel), (by decide +kernel)⟩⟩
/-- The premises of Obligations.PanelWaveformsWriteTheGroupsInTurn are met. -/
theorem witness_panel_waveforms_write_the_groups_in_turn :
    (∃ (v : Nat) (s : State), (s.ann.enabled = false ∨ s.ann.running.isSome = true ∨ s.clk.vfld = false)) ∧
    (∃ (v : Nat) (s : State), s.Sound ∧ s.ann.enabled = true ∧ s.ann.running = none ∧ s.clk.vfld = true) ∧
    (∃ (v : Nat) (s : State), s.Sound ∧ s.ann.enabled = true ∧ s.ann.running = none ∧ s.clk.vfld = true) ∧
    (∃ (v : Nat) (s : State), s.Sound ∧ s.ann.enabled = true ∧ s.ann.running = none ∧ s.clk.vfld = true) ∧
    (∃ (v : Nat) (s : State), s.Sound ∧ s.ann.enabled = true ∧ s.ann.running = none ∧ s.clk.vfld = true) ∧
    (∃ (v : Nat) (g : Nat) (i : List Word) (q : List (Nat × List Word)) (s : State), s.Sound ∧ s.ann.enabled = true ∧ s.ann.running = none ∧ s.clk.vfld = true ∧ s.ann.blocked = false ∧ s.ann.rewrite = none ∧ s.ann.pending = (g, i) :: q) ∧
    (∃ (v : Nat) (g : Nat) (i : List Word) (s : State), s.Sound ∧ s.ann.enabled = true ∧ s.ann.running = none ∧ s.clk.vfld = true ∧ s.ann.blocked = false ∧ s.ann.rewrite = some (g, i)) ∧
    (∃ (w : Waveform) (s : State), s.ann.running = some w ∧ w.phase = 0) ∧
    (∃ (w : Waveform) (s : State), s.ann.running = some w ∧ w.phase = 1) ∧
    (∃ (s : State), (s.ann.running = none ∨ (∃ w, s.ann.running = some w ∧ 2 ≤ w.phase))) ∧
    (∃ (w : Waveform) (s : State), s.Sound ∧ s.ann.running = some w ∧ w.phase = 2) ∧
    (∃ (w : Waveform) (s : State), s.Sound ∧ s.ann.running = some w ∧ w.phase = 2) ∧
    (∃ (s : State), (∀ w, s.ann.running = some w → w.phase ≠ 2)) ∧
    (∃ (m : Nat) (g : Nat) (s : State), 4 ≤ g ∧ g ≤ 7 ∧ s.ann.enabled = true ∧ s.MayAccess m A_ANN_COMMIT true) ∧
    (∃ (m : Nat) (g : Nat) (s : State), 4 ≤ g ∧ g ≤ 7 ∧ s.ann.enabled = true ∧ s.MayAccess m A_ANN_COMMIT true) ∧
    (∃ (m : Nat) (g : Nat) (s : State), 4 ≤ g ∧ g ≤ 7 ∧ s.ann.enabled = true ∧ s.MayAccess m A_ANN_COMMIT true) ∧
    (∃ (v : Nat) (s : State), s.ann.vlcdAt = none) ∧
    (∃ (v : Nat) (e : Nat) (s : State), s.Sound ∧ s.ann.vlcdAt = some e ∧ s.vlcdGood v = true) ∧
    (∃ (v : Nat) (e : Nat) (s : State), s.Sound ∧ s.ann.vlcdAt = some e ∧ s.vlcdGood v = true) ∧
    (∃ (v : Nat) (e : Nat) (s : State), s.Sound ∧ s.ann.vlcdAt = some e ∧ s.vlcdGood v = false) ∧
    (∃ (v : Nat) (e : Nat) (s : State), s.Sound ∧ s.ann.vlcdAt = some e ∧ s.vlcdGood v = false) :=
  ⟨⟨3, W0, (by decide +kernel)⟩,
   ⟨0, { armed W0 with ann := { W0.ann with enabled := true, pending := [(3, [1#32])] } }, sound_of (by decide +kernel), (by decide +kernel), (by decide +kernel), (by decide +kernel)⟩,
   ⟨22000, ((par { armed W0 with ann := { W0.ann with enabled := true, pending := [] } } [(0x1501, [240, 230, 220, 210])]).setInt (word32 A_HLT_TREF) 120), sound_of (by decide +kernel), (by decide +kernel), (by decide +kernel), (by decide +kernel)⟩,
   ⟨22000, ((par { armed W0 with ann := { W0.ann with enabled := true, pending := [] } } [(0x1501, [240, 230, 220, 210])]).setInt (word32 A_HLT_TREF) 701), sound_of (by decide +kernel), (by decide +kernel), (by decide +kernel), (by decide +kernel)⟩,
   ⟨0, { armed W0 with ann := { W0.ann with enabled := true, pending := [(3, [1#32])], blocked := true, vlcdAt := some 4 } }, sound_of (by decide +kernel), (by decide +kernel), (by decide +kernel), (by decide +kernel)⟩,
   ⟨22000, 3, [1#32, 2#32, 3#32], [(1, [])], ((par { armed W0 with ann := { W0.ann with enabled := true, pending := [(3, [1#32, 2#32, 3#32]), (1, [])] } } [(0x1501, List.replicate 8 220)]).setInt (word32 A_HLT_TREF) 50), sound_of (by decide +kernel), (by decide +kernel), (by decide +kernel), (by decide +kernel), (by decide +kernel), (by decide +kernel), (by decide +kernel)⟩,
   ⟨22000, 3, [1#32, 2#32, 3#32], ((par { armed W0 with ann := { W0.ann with enabled := true, pending := [(1, [])], rewrite := some (3, [1#32, 2#32, 3#32]), before := [(3, [4#32])] } } [(0x1501, List.replicate 8 220)]).setInt (word32 A_HLT_TREF) 50), sound_of (by decide +kernel), (by decide +kernel), (by decide +kernel), (by decide +kernel), (by decide +kernel), (by decide +kernel)⟩,
   ⟨⟨3, 1, 0, [1#32], [], 500⟩, par { W0 with ann := { W0.ann with running := some ⟨3, 1, 0, [1#32], [], 500⟩ } } [(0x1502, [3000, 2000])], (by decide +kernel), (by decide +kernel)⟩,
   ⟨⟨3, 1, 1, [3#32], [], 500⟩, par { W0 with ann := { W0.ann with running := some ⟨3, 1, 1, [3#32], [], 500⟩ } } [(0x1503, List.replicate 32 0x12300)], (by decide +kernel), (by decide +kernel)⟩,
   ⟨{ W0 with ann := { W0.ann with running := some ⟨3, 1, 2, [3#32], [], 500⟩ } }, (by decide +kernel)⟩,
   ⟨⟨3, 0, 2, [3#32, 0#32, 0#32], [9#32], 500⟩, (({ W0 with ann := { W0.ann with enabled := true, running := some ⟨3, 0, 2, [3#32, 0#32, 0#32], [9#32], 500⟩, held := [(3, [7#32, 0#32, 0#32]), (2, [])], pending := [(5, [])] }, mram := { W0.mram with dirty := [1, 3], shown := [(2, [6#32])] } } : State).setInt (word32 A_HLT_TREF) 250), sound_of (by decide +kernel), (by decide +kernel), (by decide +kernel)⟩,
   ⟨⟨3, 0, 2, [3#32, 0#32, 0#32], [9#32], 500⟩, (({ W0 with ann := { W0.ann with enabled := true, running := some ⟨3, 0, 2, [3#32, 0#32, 0#32], [9#32], 500⟩ } } : State).setInt (word32 A_HLT_TREF) (-130)), sound_of (by decide +kernel), (by decide +kernel), (by decide +kernel)⟩,
   ⟨W0, opt_all (by decide +kernel)⟩,
   ⟨0, 7, { W0 with ann := { W0.ann with enabled := true, pending := [(7, [1#32]), (4, [])] } }, (by decide +kernel), (by decide +kernel), (by decide +kernel), may_of (by decide +kernel)⟩,
   ⟨0, 4, ({ W0 with ann := { W0.ann with enabled := true, running := some ⟨4, 0, 2, [], [], 500⟩ } } : State).setReg (A_ANN_SET_W 0 1) 5#32, (by decide +kernel), (by decide +kernel), (by decide +kernel), may_of (by decide +kernel)⟩,
   ⟨0, 5, ({ W0 with ann := { W0.ann with enabled := true, running := some ⟨4, 0, 2, [], [], 500⟩ } } : State).setReg (A_ANN_SET_W 1 1) 5#32, (by decide +kernel), (by decide +kernel), (by decide +kernel), may_of (by decide +kernel)⟩,
   ⟨3, W0, (by decide +kernel)⟩,
   ⟨0, 5, par { W0 with ann := { W0.ann with blocked := true, vlcdAt := some 5 } } [(0x1501, [0])], sound_of (by decide +kernel), (by decide +kernel), (by decide +kernel)⟩,
   ⟨22000, 5, upd (par { W0 with ann := { W0.ann with blocked := true, vlcdAt := some 5 }, alarms := [⟨0x0D01, false, true⟩] } [(0x1501, List.replicate 8 220)]) [(F_ANN_STATUS_BAND, 2)], sound_of (by decide +kernel), (by decide +kernel), (by decide +kernel)⟩,
   ⟨22000, 5, par { W0 with ann := { W0.ann with vlcdAt := some 5 } } [(0x1501, [24000])], sound_of (by decide +kernel), (by decide +kernel), (by decide +kernel)⟩,
   ⟨22000, 5, par { W0 with ann := { W0.ann with vlcdAt := some 5, blocked := true } } [(0x1501, [24000])], sound_of (by decide +kernel), (by decide +kernel), (by decide +kernel)⟩⟩
/-- The premises of Obligations.EloasetPortsComeUpRetransmitAndAreLost are met. -/
theorem witness_eloaset_ports_come_up_retransmit_and_are_lost :
    (∃ (p : Nat) (s : State), (2 ≤ p ∨ s.elkOn p = false ∨ s.elkIsUp p = true)) ∧
    (∃ (p : Nat) (s : State), (2 ≤ p ∨ s.elkOn p = false ∨ s.elkIsUp p = true)) ∧
    (∃ (p : Nat) (s : State), (2 ≤ p ∨ s.elkOn p = false ∨ s.elkIsUp p = true)) ∧
    (∃ (p : Nat) (s : State), s.Sound ∧ p < 2 ∧ s.elkOn p = true ∧ (s.fld (F_ELK_P_STAT_STATE p) = 1 ∨ s.fld (F_ELK_P_STAT_STATE p) = 3)) ∧
    (∃ (p : Nat) (s : State), s.Sound ∧ p < 2 ∧ s.elkOn p = true ∧ (s.fld (F_ELK_P_STAT_STATE p) = 1 ∨ s.fld (F_ELK_P_STAT_STATE p) = 3)) ∧
    (∃ (p : Nat) (s : State), s.Sound ∧ p < 2 ∧ s.elkOn p = true ∧ (s.fld (F_ELK_P_STAT_STATE p) = 1 ∨ s.fld (F_ELK_P_STAT_STATE p) = 3)) ∧
    (∃ (p : Nat) (m : Nat) (f : Nat) (s : State), (2 ≤ p ∨ s.elkOn p = false ∨ s.elkIsUp p = true)) ∧
    (∃ (p : Nat) (m : Nat) (f : Nat) (s : State), (2 ≤ p ∨ s.elkOn p = false ∨ s.elkIsUp p = true)) ∧
    (∃ (p : Nat) (m : Nat) (f : Nat) (s : State), (2 ≤ p ∨ s.elkOn p = false ∨ s.elkIsUp p = true)) ∧
    (∃ (p : Nat) (m : Nat) (f : Nat) (s : State), s.Sound ∧ p < 2 ∧ m < 65536 ∧ s.elkOn p = true ∧ s.elkIsUp p = false ∧ f ≠ s.par 0x0A02) ∧
    (∃ (p : Nat) (m : Nat) (s : State), s.Sound ∧ p < 2 ∧ m < 65536 ∧ s.elkOn p = true ∧ s.elkIsUp p = false) ∧
    (∃ (p : Nat) (m : Nat) (s : State), s.Sound ∧ p < 2 ∧ m < 65536 ∧ s.elkOn p = true ∧ s.elkIsUp p = false) ∧
    (∃ (p : Nat) (m : Nat) (s : State), s.Sound ∧ p < 2 ∧ m < 65536 ∧ s.elkOn p = true ∧ s.elkIsUp p = false) ∧
    (∃ (p : Nat) (s : State), s.Sound ∧ s.elkIsUp p = true) ∧
    (∃ (p : Nat) (s : State), s.Sound ∧ s.elkIsUp p = true) ∧
    (∃ (p : Nat) (v : Nat) (b : Bool) (s : State), s.elkIsUp p = false) ∧
    (∃ (p : Nat) (v : Nat) (b : Bool) (s : State), s.elkIsUp p = false) ∧
    (∃ (p : Nat) (v : Nat) (b : Bool) (s : State), (∀ e ∈ (s.elkPort p).held, e.vc ≠ v)) ∧
    (∃ (p : Nat) (s : State), s.Sound ∧ p < 2 ∧ s.fld (F_ELK_P_STAT_STATE p) = 3) ∧
    (∃ (p : Nat) (s : State), s.Sound ∧ p < 2 ∧ s.fld (F_ELK_P_STAT_STATE p) = 3) ∧
    (∃ (p : Nat) (s : State), (2 ≤ p ∨ s.fld (F_ELK_P_STAT_STATE p) ≠ 3)) ∧
    (∃ (p : Nat) (s : State), (2 ≤ p ∨ s.fld (F_ELK_P_STAT_STATE p) ≠ 3)) ∧
    (∃ (p : Nat) (v : Nat) (b : Bool) (f : ElkFrame) (s : State), s.elkIsUp p = true ∧ (s.elkPort p).held.find? (fun e => e.vc == v) = some f ∧ (∀ e ∈ (s.elkPort p).held, e.vc = v → e.sends < 32)) ∧
    (∃ (p : Nat) (v : Nat) (b : Bool) (f : ElkFrame) (s : State), s.elkIsUp p = true ∧ (s.elkPort p).held.find? (fun e => e.vc == v) = some f ∧ (∀ e ∈ (s.elkPort p).held, e.vc = v → e.sends < 32)) ∧
    (∃ (p : Nat) (v : Nat) (b : Bool) (s : State), s.Sound ∧ s.elkIsUp p = true ∧ (∃ e ∈ (s.elkPort p).held, e.vc = v ∧ 32 ≤ e.sends)) ∧
    (∃ (p : Nat) (h : LinkHeader) (k : Packet) (s : State), s.elkIsUp p = false) ∧
    (∃ (p : Nat) (h : LinkHeader) (k : Packet) (s : State), s.Sound ∧ s.elkIsUp p = true ∧ h.crcOk = false) ∧
    (∃ (p : Nat) (h : LinkHeader) (k : Packet) (s : State), s.Sound ∧ s.elkIsUp p = true ∧ h.crcOk = false) ∧
    (∃ (p : Nat) (h : LinkHeader) (k : Packet) (s : State), s.elkIsUp p = true ∧ h.crcOk = true ∧ h.seq ≠ aget 0 (s.elkPort p).rxSeq h.vc ∧ (s.elkPort p).queue = []) :=
  ⟨⟨2, form, (by decide +kernel)⟩,
   ⟨0, form, (by decide +kernel)⟩,
   ⟨1, W0, (by decide +kernel)⟩,
   ⟨0, upd form [(F_ELK_P_STAT_STATE 0, 1)], sound_of (by decide +kernel), (by decide +kernel), (by decide +kernel), (by decide +kernel)⟩,
   ⟨1, port (upd form [(F_ELK_P_STAT_STATE 1, 1)]) 1 { heard := some 65535, saidAt := some 8 }, sound_of (by decide +kernel), (by decide +kernel), (by decide +kernel), (by decide +kernel)⟩,
   ⟨1, port (upd form [(F_ELK_P_STAT_STATE 1, 3)]) 1 { heard := some 5, lostAt := 4 }, sound_of (by decide +kernel), (by decide +kernel), (by decide +kernel), (by decide +kernel)⟩,
   ⟨2, 9, 77, form, (by decide +kernel)⟩,
   ⟨1, 9, 77, W0, (by decide +kernel)⟩,
   ⟨1, 9, 78, form, (by decide +kernel)⟩,
   ⟨1, 65535, 78, upd form [(F_ELK_P_STAT_STATE 1, 3)], sound_of (by decide +kernel), (by decide +kernel), (by decide +kernel), (by decide +kernel), (by decide +kernel), (by decide +kernel)⟩,
   ⟨1, 65535, port (upd form [(F_ELK_P_STAT_STATE 1, 1)]) 1 { said := true }, sound_of (by decide +kernel), (by decide +kernel), (by decide +kernel), (by decide +kernel), (by decide +kernel)⟩,
   ⟨0, 0, port (upd form [(F_ELK_P_STAT_STATE 0, 3)]) 0 { said := true }, sound_of (by decide +kernel), (by decide +kernel), (by decide +kernel), (by decide +kernel), (by decide +kernel)⟩,
   ⟨0, 0, upd form [(F_ELK_P_STAT_STATE 0, 1)], sound_of (by decide +kernel), (by decide +kernel), (by decide +kernel), (by decide +kernel), (by decide +kernel)⟩,
   ⟨1, port { form with tim := { form.tim with el := 500 } } 1 { held := [⟨1, 0, 3, 1, 70, 2, ⟨1, 2, 3, 4, 5, 6, []⟩⟩], queue := [⟨1, 0, 3, 1, 70, 2, ⟨1, 2, 3, 4, 5, 6, []⟩⟩, ⟨2, 0, 3, 1, 70, 2, ⟨1, 2, 3, 4, 5, 6, []⟩⟩] }, sound_of (by decide +kernel), (by decide +kernel)⟩,
   ⟨0, upd form [(F_ELK_P_DROP_COUNT 0, 4294967295)], sound_of (by decide +kernel), (by decide +kernel)⟩,
   ⟨0, 1, false, W0, (by decide +kernel)⟩,
   ⟨9, 1, true, form, (by decide +kernel)⟩,
   ⟨1, 3, false, form, (by decide +kernel)⟩,
   ⟨1, port (upd form [(F_ELK_P_STAT_STATE 1, 3)]) 1 { lostAt := 7, said := true }, sound_of (by decide +kernel), (by decide +kernel), (by decide +kernel)⟩,
   ⟨0, { port (upd form [(F_ELK_P_STAT_STATE 0, 3)]) 0 { lostAt := 7, said := true } with tim := { form.tim with el := 9000000000, wt := 5 } }, sound_of (by decide +kernel), (by decide +kernel), (by decide +kernel)⟩,
   ⟨2, form, (by decide +kernel)⟩,
   ⟨1, form, (by decide +kernel)⟩,
   ⟨1, 2, false, ⟨2, 0, 3, 31, 70, 2, ⟨1, 2, 3, 4, 5, 6, [5#32]⟩⟩, port form 1 { held := [⟨2, 0, 3, 31, 70, 2, ⟨1, 2, 3, 4, 5, 6, [5#32]⟩⟩, ⟨1, 0, 3, 32, 70, 2, ⟨1, 2, 3, 4, 5, 6, []⟩⟩, ⟨2, 1, 4, 1, 70, 2, ⟨1, 2, 3, 4, 5, 6, []⟩⟩] }, (by decide +kernel), (by decide +kernel), (by decide +kernel)⟩,
   ⟨1, 2, true, ⟨2, 0, 3, 31, 70, 2, ⟨1, 2, 3, 4, 5, 6, [5#32]⟩⟩, port form 1 { held := [⟨2, 0, 3, 31, 70, 2, ⟨1, 2, 3, 4, 5, 6, [5#32]⟩⟩] }, (by decide +kernel), (by decide +kernel), (by decide +kernel)⟩,
   ⟨1, 2, true, port form 1 { held := [⟨2, 0, 3, 32, 70, 2, ⟨1, 2, 3, 4, 5, 6, [5#32]⟩⟩, ⟨1, 0, 3, 32, 70, 2, ⟨1, 2, 3, 4, 5, 6, []⟩⟩] }, sound_of (by decide +kernel), (by decide +kernel), (by decide +kernel)⟩,
   ⟨1, ⟨1, 2, 3, [0, 0, 0, 0], true⟩, ⟨6, 2, 3, 4, 5, 6, []⟩, W0, (by decide +kernel)⟩,
   ⟨1, ⟨1, 2, 3, [0, 0, 0, 0], false⟩, ⟨6, 2, 3, 4, 5, 6, []⟩, port form 1 { crcRun := 14 }, sound_of (by decide +kernel), (by decide +kernel), (by decide +kernel)⟩,
   ⟨1, ⟨1, 2, 3, [0, 0, 0, 0], false⟩, ⟨6, 2, 3, 4, 5, 6, []⟩, port form 1 { crcRun := 15, heard := some 4 }, sound_of (by decide +kernel), (by decide +kernel), (by decide +kernel)⟩,
   ⟨1, ⟨1, 2, 3, [0, 3, 0, 0], true⟩, ⟨6, 2, 3, 4, 5, 6, []⟩, port form 1 { crcRun := 14, rxSeq := [(1, 1)], held := [⟨1, 0, 3, 1, 70, 2, ⟨1, 2, 3, 4, 5, 6, []⟩⟩, ⟨1, 0, 4, 1, 70, 2, ⟨1, 2, 3, 4, 5, 6, []⟩⟩] }, (by decide +kernel), (by decide +kernel), (by decide +kernel), (by decide +kernel)⟩⟩
/-- The premises of Obligations.MembersRoutePublishSubscribeAndCloseSets are met. -/
theorem witness_members_route_publish_subscribe_and_close_sets :
    (∃ (p : Nat) (h : LinkHeader) (k : Packet) (s : State), s.Sound ∧ s.elkIsUp p = true ∧ h.crcOk = true ∧ h.seq = aget 0 (s.elkPort p).rxSeq h.vc ∧ (s.elkPort p).queue = [] ∧ k.dst ≠ s.member ∧ k.hops = 0) ∧
    (∃ (p : Nat) (q : Nat) (h : LinkHeader) (k : Packet) (s : State), s.Sound ∧ p < 2 ∧ q < 2 ∧ p ≠ q ∧ s.elkIsUp p = true ∧ s.elkIsUp q = true ∧ h.crcOk = true ∧ h.seq = aget 0 (s.elkPort p).rxSeq h.vc ∧ (s.elkPort p).queue = [] ∧ (s.elkPort q).queue = [] ∧ k.dst ≠ s.member ∧ 0 < k.hops ∧ s.routeOf k.dst = some q ∧ unitsOf k.data.length ≤ (s.elkPort q).credit (vcOfType k.typ)) ∧
    (∃ (p : Nat) (q : Nat) (h : LinkHeader) (k : Packet) (s : State), s.Sound ∧ p < 2 ∧ q < 2 ∧ p ≠ q ∧ s.elkIsUp p = true ∧ s.elkIsUp q = true ∧ h.crcOk = true ∧ h.seq = aget 0 (s.elkPort p).rxSeq h.vc ∧ (s.elkPort p).queue = [] ∧ (s.elkPort q).queue = [] ∧ k.dst ≠ s.member ∧ 0 < k.hops ∧ s.routeOf k.dst = some q ∧ unitsOf k.data.length ≤ (s.elkPort q).credit (vcOfType k.typ)) ∧
    (∃ (p : Nat) (h : LinkHeader) (k : Packet) (s : State), s.Sound ∧ s.elkIsUp p = true ∧ h.crcOk = true ∧ h.seq = aget 0 (s.elkPort p).rxSeq h.vc ∧ (s.elkPort p).queue = [] ∧ k.dst = s.member ∧ k.typ = 1 ∧ k.data.length = 16 ∧ crcWords (k.data.take 15) = nthW k.data 15 ∧ bits (nthW k.data 0) 15 0 / 2 * 2 ∈ s.subUnits ∧ s.setClosed (s.fullEpoch (nthW k.data 1).toNat) = false ∧ s.fullEpoch (nthW k.data 1).toNat ≤ s.formEpoch + 1) ∧
    (∃ (p : Nat) (h : LinkHeader) (k : Packet) (s : State), s.Sound ∧ s.elkIsUp p = true ∧ h.crcOk = true ∧ h.seq = aget 0 (s.elkPort p).rxSeq h.vc ∧ (s.elkPort p).queue = [] ∧ k.dst = s.member ∧ k.typ = 1 ∧ k.data.length = 16 ∧ crcWords (k.data.take 15) = nthW k.data 15 ∧ bits (nthW k.data 0) 15 0 / 2 * 2 ∈ s.subUnits ∧ s.setClosed (s.fullEpoch (nthW k.data 1).toNat) = false ∧ s.fullEpoch (nthW k.data 1).toNat ≤ s.formEpoch + 1) ∧
    (∃ (p : Nat) (h : LinkHeader) (k : Packet) (s : State), s.Sound ∧ s.elkIsUp p = true ∧ h.crcOk = true ∧ h.seq = aget 0 (s.elkPort p).rxSeq h.vc ∧ (s.elkPort p).queue = [] ∧ k.dst = s.member ∧ k.typ = 1 ∧ k.data.length = 16 ∧ crcWords (k.data.take 15) = nthW k.data 15 ∧ bits (nthW k.data 0) 15 0 / 2 * 2 ∈ s.subUnits ∧ s.setClosed (s.fullEpoch (nthW k.data 1).toNat) = true) ∧
    (∃ (p : Nat) (h : LinkHeader) (k : Packet) (s : State), s.Sound ∧ s.elkIsUp p = true ∧ h.crcOk = true ∧ h.seq = aget 0 (s.elkPort p).rxSeq h.vc ∧ (s.elkPort p).queue = [] ∧ k.dst = s.member ∧ k.typ = 1 ∧ k.data.length = 16 ∧ crcWords (k.data.take 15) = nthW k.data 15 ∧ bits (nthW k.data 0) 15 0 / 2 * 2 ∈ s.subUnits ∧ s.setClosed (s.fullEpoch (nthW k.data 1).toNat) = true) ∧
    (∃ (n : Nat) (v : Nat) (h : Nat) (k : Packet) (s : State), (s.elkOn 2 = false ∨ (s.parGiven 0x0A09).length ≤ n)) ∧
    (∃ (n : Nat) (v : Nat) (h : Nat) (k : Packet) (s : State), (s.elkOn 2 = false ∨ (s.parGiven 0x0A09).length ≤ n)) ∧
    (∃ (n : Nat) (v : Nat) (h : Nat) (k : Packet) (s : State), s.Sound ∧ s.elkOn 2 = true ∧ n < (s.parGiven 0x0A09).length ∧ h ≤ aget 0 s.elk.rxHop (4 * n + v)) ∧
    (∃ (n : Nat) (v : Nat) (h : Nat) (k : Packet) (s : State), s.Sound ∧ s.elkOn 2 = true ∧ n < (s.parGiven 0x0A09).length ∧ aget 0 s.elk.rxHop (4 * n + v) < h ∧ k.dst = s.member ∧ k.typ = 3 ∧ k.src / 2 * 2 ∈ s.subUnits ∧ s.subUnits.length ≤ 64) ∧
    (∃ (n : Nat) (v : Nat) (h : Nat) (k : Packet) (s : State), s.Sound ∧ s.elkOn 2 = true ∧ n < (s.parGiven 0x0A09).length ∧ aget 0 s.elk.rxHop (4 * n + v) < h ∧ k.dst = s.member ∧ k.typ = 3 ∧ k.src / 2 * 2 ∈ s.subUnits ∧ s.subUnits.length ≤ 64) ∧
    (∃ (n : Nat) (v : Nat) (h : Nat) (k : Packet) (s : State), s.Sound ∧ s.elkOn 2 = true ∧ n < (s.parGiven 0x0A09).length ∧ aget 0 s.elk.rxHop (4 * n + v) < h ∧ k.dst = s.member ∧ k.typ = 3 ∧ k.src / 2 * 2 ∈ s.subUnits ∧ s.subUnits.length ≤ 64) ∧
    (∃ (n : Nat) (v : Nat) (h : Nat) (k : Packet) (s : State), s.elkOn 2 = true ∧ n < (s.parGiven 0x0A09).length ∧ aget 0 s.elk.rxHop (4 * n + v) < h ∧ k.dst = s.member ∧ k.typ = 2) ∧
    (∃ (n : Nat) (v : Nat) (h : Nat) (k : Packet) (s : State), s.elkOn 2 = true ∧ n < (s.parGiven 0x0A09).length ∧ aget 0 s.elk.rxHop (4 * n + v) < h ∧ k.dst = s.member ∧ k.typ = 2) ∧
    (∃ (n : Nat) (v : Nat) (h : Nat) (k : Packet) (s : State), s.elkOn 2 = true ∧ n < (s.parGiven 0x0A09).length ∧ aget 0 s.elk.rxHop (4 * n + v) < h ∧ k.dst = s.member ∧ k.typ = 2) ∧
    (∃ (s : State), s.formOn = false) ∧
    (∃ (u : Nat) (p : Nat) (s : State), s.formOn = true ∧ s.subUnits = [u] ∧ p < 2 ∧ s.elkIsUp p = true ∧ s.routeOf (s.subDest u) = some p ∧ (s.elkPort p).queue = [] ∧ 1 ≤ (s.elkPort p).credit 2) ∧
    (∃ (m : Nat) (a : Nat) (s : State), s.Sound ∧ afind s.elk.table m = some a) ∧
    (∃ (m : Nat) (s : State), afind s.elk.table m = none) ∧
    (∃ (u : Nat) (s : State), s.Sound ∧ s.formOn = true ∧ u ∈ s.subUnits ∧ u ∉ s.elk.failed ∧ s.subUnits.length ≤ 64) ∧
    (∃ (u : Nat) (s : State), (s.formOn = false ∨ u ∉ s.subUnits ∨ u ∈ s.elk.failed)) ∧
    (∃ (u : Nat) (s : State), (s.formOn = false ∨ u ∉ s.subUnits ∨ u ∈ s.elk.failed)) ∧
    (∃ (u : Nat) (s : State), (s.formOn = false ∨ u ∉ s.subUnits ∨ u ∈ s.elk.failed)) ∧
    (∃ (e : Nat) (s : State), (s.formOn = false ∨ e < s.elk.closedTo)) ∧
    (∃ (e : Nat) (s : State), (s.formOn = false ∨ e < s.elk.closedTo)) ∧
    (∃ (e : Nat) (s : State), s.formOn = true ∧ s.elk.closedTo ≤ e) ∧
    (∃ (e : Nat) (s : State), s.formOn = true ∧ s.elk.closedTo ≤ e) :=
  ⟨⟨1, ⟨1, 65535, 3, [0, 0, 0, 0], true⟩, ⟨7, 2, 1, 0, 5, 6, []⟩, port form 1 { crcRun := 14, rxSeq := [(1, 65535)] }, sound_of (by decide +kernel), (by decide +kernel), (by decide +kernel), (by decide +kernel), (by decide +kernel), (by decide +kernel), (by decide +kernel)⟩,
   ⟨1, 0, ⟨1, 0, 3, [0, 0, 0, 0], true⟩, ⟨7, 2, 1, 1, 5, 6, [3#32]⟩, par { form with pat := { form.pat with params := [] } } [(0x0A01, [6]), (0x0A08, [0x00090007, 0])], sound_of (by decide +kernel), (by decide +kernel), (by decide +kernel), (by decide +kernel), (by decide +kernel), (by decide +kernel), (by decide +kernel), (by decide +kernel), (by decide +kernel), (by decide +kernel), (by decide +kernel), (by decide +kernel), (by decide +kernel), (by decide +kernel)⟩,
   ⟨0, 1, ⟨1, 0, 3, [0, 0, 0, 0], true⟩, ⟨20, 2, 3, 63, 5, 6, [3#32]⟩, form, sound_of (by decide +kernel), (by decide +kernel), (by decide +kernel), (by decide +kernel), (by decide +kernel), (by decide +kernel), (by decide +kernel), (by decide +kernel), (by decide +kernel), (by decide +kernel), (by decide +kernel), (by decide +kernel), (by decide +kernel), (by decide +kernel)⟩,
   ⟨0, ⟨1, 0, 3, [0, 0, 0, 0], true⟩, ⟨6, 2, 1, 63, 5, 6, (let b := (BitVec.ofNat 32 (11 + 65536 * 8192)) :: List.replicate 14 0#32; b ++ [crcWords b])⟩, par form [(0x0A04, [1000])], sound_of (by decide +kernel), (by decide +kernel), (by decide +kernel), (by decide +kernel), (by decide +kernel), (by decide +kernel), (by decide +kernel), (by decide +kernel), (by decide +kernel), (by decide +kernel), (by decide +kernel), (by decide +kernel)⟩,
   ⟨0, ⟨1, 0, 3, [0, 0, 0, 0], true⟩, ⟨6, 2, 1, 63, 5, 6, (let b := (BitVec.ofNat 32 12) :: 1#32 :: List.replicate 13 0#32; b ++ [crcWords b])⟩, par { form with elk := { form.elk with degraded := [12], bufs := [(1, [(10, [])])] } } [(0x0A04, [1000])], sound_of (by decide +kernel), (by decide +kernel), (by decide +kernel), (by decide +kernel), (by decide +kernel), (by decide +kernel), (by decide +kernel), (by decide +kernel), (by decide +kernel), (by decide +kernel), (by decide +kernel), (by decide +kernel)⟩,
   ⟨0, ⟨1, 0, 3, [0, 0, 0, 0], true⟩, ⟨6, 2, 1, 63, 5, 6, (let b := (BitVec.ofNat 32 12) :: 1#32 :: List.replicate 13 0#32; b ++ [crcWords b])⟩, par { form with elk := { form.elk with closedTo := 2 } } [(0x0A04, [1000])], sound_of (by decide +kernel), (by decide +kernel), (by decide +kernel), (by decide +kernel), (by decide +kernel), (by decide +kernel), (by decide +kernel), (by decide +kernel), (by decide +kernel), (by decide +kernel), (by decide +kernel)⟩,
   ⟨0, ⟨1, 0, 3, [0, 0, 0, 0], true⟩, ⟨6, 2, 1, 63, 5, 6, (let b := (BitVec.ofNat 32 12) :: 1#32 :: List.replicate 13 0#32; b ++ [crcWords b])⟩, par { form with tim := { form.tim with wt := 1100000001 } } [(0x0A04, [1000])], sound_of (by decide +kernel), (by decide +kernel), (by decide +kernel), (by decide +kernel), (by decide +kernel), (by decide +kernel), (by decide +kernel), (by decide +kernel), (by decide +kernel), (by decide +kernel), (by decide +kernel)⟩,
   ⟨1, 0, 0, ⟨6, 2, 1, 63, 5, 6, []⟩, form, (by decide +kernel)⟩,
   ⟨0, 0, 0, ⟨6, 2, 1, 63, 5, 6, []⟩, W0, (by decide +kernel)⟩,
   ⟨0, 1, 3, ⟨6, 2, 1, 63, 5, 6, []⟩, { form with elk := { form.elk with rxHop := [(1, 3)] } }, sound_of (by decide +kernel), (by decide +kernel), (by decide +kernel), (by decide +kernel)⟩,
   ⟨0, 1, 4, ⟨6, 11, 3, 63, 5, 6, [0#32]⟩, { form with elk := { form.elk with rxHop := [(1, 3)] } }, sound_of (by decide +kernel), (by decide +kernel), (by decide +kernel), (by decide +kernel), (by decide +kernel), (by decide +kernel), (by decide +kernel), (by decide +kernel)⟩,
   ⟨0, 1, 4, ⟨6, 13, 3, 63, 5, 6, [1#32]⟩, { form with elk := { form.elk with rxHop := [(1, 3)] } }, sound_of (by decide +kernel), (by decide +kernel), (by decide +kernel), (by decide +kernel), (by decide +kernel), (by decide +kernel), (by decide +kernel), (by decide +kernel)⟩,
   ⟨0, 1, 4, ⟨6, 13, 3, 63, 5, 6, [0#32]⟩, upd { form with alarms := [⟨0x0505, true, false⟩] } [(F_ELK_SUB_STAT_ACKED 0, 1)], sound_of (by decide +kernel), (by decide +kernel), (by decide +kernel), (by decide +kernel), (by decide +kernel), (by decide +kernel), (by decide +kernel), (by decide +kernel)⟩,
   ⟨0, 1, 4, ⟨6, 13, 2, 63, 5, 6, []⟩, { form with elk := { form.elk with table := [(13, 5), (14, 0)] }, tim := { form.tim with el := 99 } }, (by decide +kernel), (by decide +kernel), (by decide +kernel), (by decide +kernel), (by decide +kernel)⟩,
   ⟨0, 1, 4, ⟨6, 20, 2, 63, 5, 6, []⟩, { form with elk := { form.elk with table := [(13, 5), (14, 0)] }, tim := { form.tim with el := 99 } }, (by decide +kernel), (by decide +kernel), (by decide +kernel), (by decide +kernel), (by decide +kernel)⟩,
   ⟨0, 1, 4, ⟨6, 80, 2, 63, 5, 6, []⟩, { form with elk := { form.elk with table := (List.range 64).map (fun k => (k, 1)) }, tim := { form.tim with el := 99 } }, (by decide +kernel), (by decide +kernel), (by decide +kernel), (by decide +kernel), (by decide +kernel)⟩,
   ⟨W0, (by decide +kernel)⟩,
   ⟨20, 1, par { form with pat := { form.pat with params := [] } } [(0x0A01, [6]), (0x0A08, [0x00090007, 0, 0x00150014, 1]), (0x0A0C, [20])], (by decide +kernel), (by decide +kernel), (by decide +kernel), (by decide +kernel), (by decide +kernel), (by decide +kernel), (by decide +kernel)⟩,
   ⟨13, 5, { form with elk := { form.elk with table := [(13, 5), (14, 0)] }, tim := { form.tim with el := 99 } }, sound_of (by decide +kernel), (by decide +kernel)⟩,
   ⟨13, form, (by decide +kernel)⟩,
   ⟨12, form, sound_of (by decide +kernel), (by decide +kernel), (by decide +kernel), (by decide +kernel), (by decide +kernel)⟩,
   ⟨13, form, (by decide +kernel)⟩,
   ⟨13, W0, (by decide +kernel)⟩,
   ⟨12, { form with elk := { form.elk with failed := [12] } }, (by decide +kernel)⟩,
   ⟨4, W0, (by decide +kernel)⟩,
   ⟨4, { form with elk := { form.elk with closedTo := 9 }, tim := { form.tim with wt := 8000000000 } }, (by decide +kernel)⟩,
   ⟨4, { form with elk := { form.elk with bufs := [(4, [(10, [1#32]), (12, [2#32])])] } }, (by decide +kernel), (by decide +kernel)⟩,
   ⟨4, { form with elk := { form.elk with closedTo := 4 }, tim := { form.tim with wt := 8000000000 } }, (by decide +kernel), (by decide +kernel)⟩⟩
/-- The premises of Obligations.CompletionPopsTheStackAndTheSourceIsAssignedAgain are met. -/
theorem witness_completion_pops_the_stack_and_the_source_is_assigned_again :
    (∃ (m : Nat) (k : Nat) (n : Nat) (v : Word) (s : State), s.Sound ∧ k < 4 ∧ s.intc.targets.length = 4 ∧ s.MayAccess m (A_INTC_T_COMPLETE k) true ∧ bits v 8 0 = n ∧ (s.target k).frozen = false ∧ (s.target k).stack.getLast? = some n ∧ n ∉ (s.target k).stack.dropLast ∧ (∀ j, j ≠ k → n ∉ (s.target j).stack) ∧ afind s.intc.assigned n = none) ∧
    (∃ (m : Nat) (k : Nat) (n : Nat) (v : Word) (s : State), s.Sound ∧ k < 4 ∧ s.intc.targets.length = 4 ∧ s.MayAccess m (A_INTC_T_COMPLETE k) true ∧ bits v 8 0 = n ∧ (s.target k).frozen = false ∧ (s.target k).stack.getLast? = some n ∧ n ∉ (s.target k).stack.dropLast ∧ (∀ j, j ≠ k → n ∉ (s.target j).stack) ∧ afind s.intc.assigned n = none) ∧
    (∃ (m : Nat) (k : Nat) (n : Nat) (v : Word) (s : State), s.Sound ∧ k < 4 ∧ s.intc.targets.length = 4 ∧ s.MayAccess m (A_INTC_T_COMPLETE k) true ∧ bits v 8 0 = n ∧ (s.target k).frozen = false ∧ (s.target k).stack.getLast? = some n ∧ n ∉ (s.target k).stack.dropLast ∧ (∀ j, j ≠ k → n ∉ (s.target j).stack) ∧ afind s.intc.assigned n = none) :=
  ⟨⟨0, 2, 352, 352#32, upd { W0 with intc := { W0.intc with targets := [{}, {}, { stack := [16, 352] }, { stack := [5] }] } } [(bitAt A_INTC_SWPEND 0, 1), (F_INTC_SRC_CFG_EN 352, 12), (F_INTC_SRC_CFG_TARGET 352, 3)], sound_of (by decide +kernel), (by decide +kernel), (by decide +kernel), may_of (by decide +kernel), (by decide +kernel), (by decide +kernel), (by decide +kernel), (by decide +kernel), stacks_free (by decide +kernel) (by decide +kernel), (by decide +kernel)⟩,
   ⟨0, 3, 511, 511#32, { W0 with intc := { W0.intc with targets := [{}, {}, { stack := [16, 352] }, { stack := [511] }] } }, sound_of (by decide +kernel), (by decide +kernel), (by decide +kernel), may_of (by decide +kernel), (by decide +kernel), (by decide +kernel), (by decide +kernel), (by decide +kernel), stacks_free (by decide +kernel) (by decide +kernel), (by decide +kernel)⟩,
   ⟨0, 0, 0, 0#32, { W0 with intc := { W0.intc with targets := [{ stack := [0] }, {}, { stack := [16, 352] }, {}] } }, sound_of (by decide +kernel), (by decide +kernel), (by decide +kernel), may_of (by decide +kernel), (by decide +kernel), (by decide +kernel), (by decide +kernel), (by decide +kernel), stacks_free (by decide +kernel) (by decide +kernel), (by decide +kernel)⟩⟩
/-- The premises of Obligations.ChoosingASlotNeverWritesTheFlash are met. -/
theorem witness_choosing_a_slot_never_writes_the_flash : ∃ (r : StartTests) (a : Nat) (p : List Byte) (s : State) (t : State) (u : State), s.Sound ∧ exec (.slotStreamEnd r) s = .next t ∧ t.flashCmd = some ⟨3, a, p⟩ ∧ exec (.flashCommandDone false) t = .next u :=
  ⟨⟨[], true, [], [], [], []⟩, 0x20000, [], { W0 with flashCmd := some ⟨3, 0x20000, []⟩, flash := [(0x20000, 1#8), (0x20101, 2#8)] }, nx (.slotStreamEnd ⟨[], true, [], [], [], []⟩) { W0 with flashCmd := some ⟨3, 0x20000, []⟩, flash := [(0x20000, 1#8), (0x20101, 2#8)] }, nx (.flashCommandDone false) (nx (.slotStreamEnd ⟨[], true, [], [], [], []⟩) { W0 with flashCmd := some ⟨3, 0x20000, []⟩, flash := [(0x20000, 1#8), (0x20101, 2#8)] }), sound_of (by decide +kernel), nx_next (by decide +kernel), (by decide +kernel), nx_next (by decide +kernel)⟩
/-- The premises of Obligations.ARefusalOfAFirmwareMasterShowsAFault are met. -/
theorem witness_a_refusal_of_a_firmware_master_shows_a_fault :
    (∃ (m : Nat) (a : Nat) (r : Nat) (s : State), s.Sound ∧ (m ≤ 10 ∨ m = 15 ∨ (17 ≤ m ∧ m ≤ 19)) ∧ a < 4294967296 ∧ a % 4 = 0 ∧ regionOf a = some r ∧ s.allowed r m a false = false) ∧
    (∃ (m : Nat) (a : Nat) (r : Nat) (s : State), s.Sound ∧ (m ≤ 10 ∨ m = 15 ∨ (17 ≤ m ∧ m ≤ 19)) ∧ a < 4294967296 ∧ a % 4 = 0 ∧ regionOf a = some r ∧ s.allowed r m a false = false) ∧
    (∃ (m : Nat) (a : Nat) (r : Nat) (s : State), s.Sound ∧ (m ≤ 10 ∨ m = 15 ∨ (17 ≤ m ∧ m ≤ 19)) ∧ a < 4294967296 ∧ a % 4 = 0 ∧ regionOf a = some r ∧ s.allowed r m a false = false) ∧
    (∃ (m : Nat) (a : Nat) (r : Nat) (v : Word) (s : State), s.Sound ∧ (m ≤ 10 ∨ m = 15 ∨ (17 ≤ m ∧ m ≤ 19)) ∧ a < 4294967296 ∧ a % 4 = 0 ∧ regionOf a = some r ∧ (s.allowed r m a true = false ∨ (stiBase ≤ a ∧ a < stiBase + 65536) ∨ (s.locked = true ∧ ∃ q, regAt a = some q ∧ q.isRwl = true))) ∧
    (∃ (m : Nat) (a : Nat) (r : Nat) (v : Word) (s : State), s.Sound ∧ (m ≤ 10 ∨ m = 15 ∨ (17 ≤ m ∧ m ≤ 19)) ∧ a < 4294967296 ∧ a % 4 = 0 ∧ regionOf a = some r ∧ (s.allowed r m a true = false ∨ (stiBase ≤ a ∧ a < stiBase + 65536) ∨ (s.locked = true ∧ ∃ q, regAt a = some q ∧ q.isRwl = true))) ∧
    (∃ (m : Nat) (a : Nat) (r : Nat) (v : Word) (s : State), s.Sound ∧ (m ≤ 10 ∨ m = 15 ∨ (17 ≤ m ∧ m ≤ 19)) ∧ a < 4294967296 ∧ a % 4 = 0 ∧ regionOf a = some r ∧ (s.allowed r m a true = false ∨ (stiBase ≤ a ∧ a < stiBase + 65536) ∨ (s.locked = true ∧ ∃ q, regAt a = some q ∧ q.isRwl = true))) ∧
    (∃ (m : Nat) (a : Nat) (r : Nat) (v : Word) (s : State), s.Sound ∧ (m ≤ 10 ∨ m = 15 ∨ (17 ≤ m ∧ m ≤ 19)) ∧ a < 4294967296 ∧ a % 4 = 0 ∧ regionOf a = some r ∧ (s.allowed r m a true = false ∨ (stiBase ≤ a ∧ a < stiBase + 65536) ∨ (s.locked = true ∧ ∃ q, regAt a = some q ∧ q.isRwl = true))) ∧
    (∃ (m : Nat) (a : Nat) (r : Nat) (v : Word) (s : State), s.Sound ∧ ((11 ≤ m ∧ m ≤ 14) ∨ m = 16) ∧ a < 4294967296 ∧ a % 4 = 0 ∧ regionOf a = some r) ∧
    (∃ (m : Nat) (a : Nat) (r : Nat) (v : Word) (s : State), s.Sound ∧ ((11 ≤ m ∧ m ≤ 14) ∨ m = 16) ∧ a < 4294967296 ∧ a % 4 = 0 ∧ regionOf a = some r) :=
  ⟨⟨10, 0x00090000, 9, (open_ W0).setReg (A_ACC_R_MASK 9 0) 1#32, sound_of (by decide +kernel), (by decide +kernel), (by decide +kernel), (by decide +kernel), (by decide +kernel), (by decide +kernel)⟩,
   ⟨0, 0x001043FC, 7, (W0.setFlag F_KPR_LOCK_LOCKED true), sound_of (by decide +kernel), (by decide +kernel), (by decide +kernel), (by decide +kernel), (by decide +kernel), (by decide +kernel)⟩,
   ⟨19, 0x107FFFFC, 3, W0, sound_of (by decide +kernel), (by decide +kernel), (by decide +kernel), (by decide +kernel), (by decide +kernel), (by decide +kernel)⟩,
   ⟨15, 0x00090000, 9, 3#32, W0, sound_of (by decide +kernel), (by decide +kernel), (by decide +kernel), (by decide +kernel), (by decide +kernel), (by decide +kernel)⟩,
   ⟨3, 0x0100FFFC, 3, 3#32, open_ W0, sound_of (by decide +kernel), (by decide +kernel), (by decide +kernel), (by decide +kernel), (by decide +kernel), (by decide +kernel)⟩,
   ⟨3, A_ACC_EVENT, 3, 3#32, (W0.setFlag F_KPR_LOCK_LOCKED true), sound_of (by decide +kernel), (by decide +kernel), (by decide +kernel), (by decide +kernel), (by decide +kernel), (by decide +kernel)⟩,
   ⟨3, (A_ACC_R_MASK 9 0), 3, 3#32, open_ W0, sound_of (by decide +kernel), (by decide +kernel), (by decide +kernel), (by decide +kernel), (by decide +kernel), (by decide +kernel)⟩,
   ⟨11, 0x00090000, 9, 3#32, W0, sound_of (by decide +kernel), (by decide +kernel), (by decide +kernel), (by decide +kernel), (by decide +kernel)⟩,
   ⟨16, 0x00090000, 9, 3#32, W0, sound_of (by decide +kernel), (by decide +kernel), (by decide +kernel), (by decide +kernel), (by decide +kernel)⟩⟩
/-- The premises of Obligations.UnmappedAccessesFailAndAreReported are met. -/
theorem witness_unmapped_accesses_fail_and_are_reported :
    (∃ (m : Nat) (a : Nat) (s : State), a < 4294967296 ∧ a % 4 = 0 ∧ regionOf a = none) ∧
    (∃ (m : Nat) (a : Nat) (s : State), a < 4294967296 ∧ a % 4 = 0 ∧ regionOf a = none) ∧
    (∃ (m : Nat) (a : Nat) (v : Word) (s : State), a < 4294967296 ∧ a % 4 = 0 ∧ regionOf a = none) ∧
    (∃ (a : Nat) (n : Nat) (s : State), s.hostPortOn = true ∧ s.hst.buffer = [] ∧ a < 4294967296 ∧ a % 4 = 0 ∧ regionOf a = none) :=
  ⟨⟨0, 0xFFFFFFFC, W0, (by decide +kernel), (by decide +kernel), (by decide +kernel)⟩,
   ⟨4, 0x0FFFFFFC, { armed W0 with alarms := [⟨5, true, true⟩] }, (by decide +kernel), (by decide +kernel), (by decide +kernel)⟩,
   ⟨4, 0xFFFFFFFC, 1#32, armed W0, (by decide +kernel), (by decide +kernel), (by decide +kernel)⟩,
   ⟨0xFFFFFFFC, 0, { par W0 [(0x0E01, [1]), (0x0F01, [1])] with clk := { W0.clk with vin := true }, boot := { W0.boot with started := true } }, (by decide +kernel), (by decide +kernel), (by decide +kernel), (by decide +kernel), (by decide +kernel)⟩⟩
/-- The premises of Obligations.TheRunningImageChangesOnlyThroughADeviceReset are met. -/
theorem witness_the_running_image_changes_only_through_a_device_reset : ∃ (c : Instr) (s : State) (t : State), isReset c = false ∧ s.dev.st ≠ .boot ∧ exec c s = .next t :=
  ⟨.cycleFreeze [], armed W0, nx (.cycleFreeze []) (armed W0), (by decide +kernel), (by decide +kernel), nx_next (by decide +kernel)⟩
/-- The premises of Obligations.TheSafetyConfigurationComesOnlyFromTheImage are met. -/
theorem witness_the_safety_configuration_comes_only_from_the_image :
    (∃ (c : Instr) (s : State) (t : State), isReset c = false ∧ (∀ r, c = .slotStreamEnd r → s.dev.st ≠ .boot) ∧ exec c s = .next t) ∧
    (∃ (m : Nat) (a : Nat) (v : Word) (s : State), s.Sound ∧ 0x90000 ≤ a ∧ a < 0xA0000 ∧ a ≠ A_SAF_EVENT ∧ s.MayAccess m a true) ∧
    (∃ (m : Nat) (a : Nat) (v : Word) (s : State), s.Sound ∧ 0x90000 ≤ a ∧ a < 0xA0000 ∧ a ≠ A_SAF_EVENT ∧ s.MayAccess m a true) ∧
    (∃ (m : Nat) (a : Nat) (v : Word) (s : State), s.Sound ∧ 0x90000 ≤ a ∧ a < 0xA0000 ∧ a ≠ A_SAF_EVENT ∧ s.MayAccess m a true) ∧
    (∃ (m : Nat) (v : Word) (s : State), s.Sound ∧ s.MayAccess m A_SAF_EVENT true) :=
  ⟨⟨.cycleFreeze [], armed W0, nx (.cycleFreeze []) (armed W0), (by decide +kernel), (fun r h => Instr.noConfusion h), nx_next (by decide +kernel)⟩,
   ⟨0, 0x90000, 0xFFFFFFFF#32, W0, sound_of (by decide +kernel), (by decide +kernel), (by decide +kernel), (by decide +kernel), may_of (by decide +kernel)⟩,
   ⟨0, 0x9FFFC, 0xFFFFFFFF#32, open_ W0, sound_of (by decide +kernel), (by decide +kernel), (by decide +kernel), (by decide +kernel), may_of (by decide +kernel)⟩,
   ⟨0, 0x90020, 0xFFFFFFFF#32, open_ W0, sound_of (by decide +kernel), (by decide +kernel), (by decide +kernel), (by decide +kernel), may_of (by decide +kernel)⟩,
   ⟨0, 0xFFFFFFFF#32, open_ (W0.setReg A_SAF_EVENT 0xFFFFFFFF#32), sound_of (by decide +kernel), may_of (by decide +kernel)⟩⟩
/-- The premises of Obligations.EveryUnitKeepsItsPlace are met. -/
theorem witness_every_unit_keeps_its_place : ∃ s t : State, s.Shaped ∧ step s = .next t :=
  ⟨{ armed W0 with pending := [.closeTick] }, _, ⟨rfl, rfl, rfl, rfl, rfl, rfl, rfl, rfl⟩, st_next .closeTick [] rfl (by decide +kernel)⟩
/-- The premises of Obligations.InterruptLinesFollowTheClaimStacks are met. -/
theorem witness_interrupt_lines_follow_the_claim_stacks : ∃ s t : State, s.LinesOk ∧ step s = .next t :=
  ⟨{ armed W0 with pending := [.closeTick] }, _, lines_idle (by decide +kernel), st_next .closeTick [] rfl (by decide +kernel)⟩

end Sys2Proof.Tests
end

