-- ==== Sys2Proof/Proofs/Architecture.lean ====
section
/-! Accesses to addresses that no row of the address map holds (R34): what the fabric answers, what the alarm leaves in the record queue, and what the
master and the host port are told. -/
namespace Sys2Proof.Machine

/-! The record queue. -/

/-- R496: with room in the queue a record goes to its end. -/
theorem State.record_queue (s : State) (typ event : Nat) (p : List Word) (hroom : s.rcd.queue.length < 1024) :
    (s.record typ event p).rcd.queue = s.rcd.queue ++ [s.formRec typ event p] := by
  simp only [State.record, State.enqueue, if_pos hroom]

/-- R534: an alarm that is not active and unacknowledged leaves a record when it is raised. -/
theorem State.raise_eq_record {s : State} {c : Nat} (hnew : ∀ x, s.alarm? c = some x → x.acked = true) (p : List Word) :
    s.raise c p = ({ s with alarms := putAlarm ⟨c, false, true⟩ s.alarms } : State).record c 0 p := by
  unfold State.raise
  split
  case h_1 heq => exact absurd (hnew _ heq) Bool.false_ne_true
  case h_2 => rfl

theorem State.raise_queue {s : State} {c : Nat} (hnew : ∀ x, s.alarm? c = some x → x.acked = true) (hroom : s.rcd.queue.length < 1024) (p : List Word) :
    (s.raise c p).rcd.queue = s.rcd.queue ++ [s.formRec c 0 p] := by
  rw [State.raise_eq_record hnew]
  exact State.record_queue _ c 0 p hroom

/-! Accesses through the fabric. -/

/-- What stands in the device once an access of `m` at the unmapped address `a` has failed. -/
def State.unmapped (s : State) (m a : Nat) : State := s.raise 0x0005 (pay [m, a])

section
variable {m a : Nat} {s : State}

theorem State.accessWith_unmapped {w : Bool} {f : State → State × Nat × Word} (ha : a % 4 = 0) (hr : regionOf a = none) :
    s.accessWith m a w f = (s.unmapped m a, accUnmapped, 0#32) := by
  simp [State.accessWith, State.unmapped, ha, hr]

theorem beyondFabric_of_lt (hlt : a < 4294967296) : beyondFabric a = false := by
  simpa [beyondFabric] using hlt

theorem State.busRead_unmapped (hlt : a < 4294967296) (ha : a % 4 = 0) (hr : regionOf a = none) :
    s.busRead m a = (s.unmapped m a, accUnmapped, 0#32) := by
  simp [State.busRead, beyondFabric_of_lt hlt, State.accessWith_unmapped ha hr]

theorem State.busWrite_unmapped (hlt : a < 4294967296) (ha : a % 4 = 0) (hr : regionOf a = none) (v : Word) :
    s.busWrite m a v = (s.unmapped m a, accUnmapped, 0#32) := by
  simp [State.busWrite, beyondFabric_of_lt hlt, State.accessWith_unmapped ha hr]

theorem State.unmapped_alarmed (s : State) (m a : Nat) : (s.unmapped m a).Alarmed 0x0005 := by
  simp [State.Alarmed, State.unmapped, alarm_raise]

/-- R34: however the failed access completes, all that it leaves is the alarm 0x0005, its record and what the master is told. -/
theorem State.unmapped_complete (s : State) (m a : Nat) (w : Bool) (v : Word) :
    let t := (s.unmapped m a).complete m w a accUnmapped v
    s.Sends t [⟨.access m, if w then .write else .read, [a, 2, v.toNat]⟩] ∧ t.Alarmed 0x0005 ∧ AlarmsBut [0x0005] s t ∧
      Frame [.alarms, .rcd, .regs, .out] s t ∧ (s.Sound → FieldsBut recFields s t) ∧
      ((∀ x, s.alarm? 0x0005 = some x → x.acked = true) → s.rcd.queue.length < 1024 →
        ∃ r, t.rcd.queue = s.rcd.queue ++ [r] ∧ r.typ = 0x0005 ∧ r.payload = padWords 10 [toWord m, toWord a]) := by
  intro t
  have raised : Acts 34359738752 s (s.unmapped m a) := State.raise_acts ..
  have completed : Acts 549755813888 (s.unmapped m a) t := State.complete_acts ..
  have alarms (c : Nat) : t.alarm? c = (s.unmapped m a).alarm? c := alarm_of_acts completed rfl
  refine ⟨?sends, ?alarmed, ?others, ?frame, ?fields, ?queue⟩
  case sends =>
    have hout : (s.unmapped m a).out = s.out := State.raise_out ..
    exact congrArg (· ++ [_]) hout
  case alarmed => exact (alarms _).trans (s.unmapped_alarmed m a)
  case others =>
    intro c hc
    exact (alarms c).trans (alarm_raise_other (Ne.symm (List.ne_of_not_mem_cons hc)))
  case frame =>
    have raisedFrame : Frame [.alarms, .rcd, .regs] s (s.unmapped m a) := raised.toFrame (by intro p; cases p <;> decide)
    have completedFrame : Frame [.out] (s.unmapped m a) t := completed.toFrame (by intro p; cases p <;> decide)
    exact (raisedFrame.mono (by decide)).trans (completedFrame.mono (by decide))
  case fields =>
    intro hs
    have marked : Marks recFields s (s.unmapped m a) := (Marks.refl s).raise (fun _ h => h)
    exact (marked.acts completed rfl hs).2
  case queue =>
    intro hnew hroom
    exact ⟨_, State.raise_queue hnew hroom _, rfl, rfl⟩

/-! The host port. -/

/-- R429: a word whose read fails ends the answer with 0x5A and the code of the failure. -/
theorem State.hostWords_of_failure {u : State} {c : Nat} {w : Word} (hread : s.busRead mHost a = (u, c, w)) (hc : c ≠ accOk) (n : Nat) :
    State.hostWords (n + 1) s a = (u, [0x5A, (c : Int)]) := by
  simp [State.hostWords, hread, hc]

/-- R430: with no write waiting a read command reads at once. -/
theorem State.hostReads_of_empty (hbuf : s.hst.buffer = []) (n : Nat) :
    s.hostReads a n = (State.hostWords n s a).1.send .host .read (State.hostWords n s a).2 := by
  simp [State.hostReads, hbuf, State.drainWrites]

theorem State.hostReads_unmapped (hbuf : s.hst.buffer = []) (hlt : a < 4294967296) (ha : a % 4 = 0) (hr : regionOf a = none) (n : Nat) :
    s.hostReads a (n + 1) = (s.unmapped mHost a).send .host .read [0x5A, 2] := by
  rw [State.hostReads_of_empty hbuf, State.hostWords_of_failure (State.busRead_unmapped hlt ha hr) (by decide)]
  rfl

end

/-- Settles O55. The fabric answers a read and a write alike, with the alarm and the code 2; the host port reads as the master HOST and passes the code on. -/
theorem unmappedAccessesFailAndAreReported : Obligations.UnmappedAccessesFailAndAreReported := by
  unfold Obligations.UnmappedAccessesFailAndAreReported
  refine ⟨?read, ?write, ?host⟩
  case read =>
    intro m a s hlt ha hr
    refine ⟨(s.unmapped m a).complete m false a accUnmapped 0#32, ?_, s.unmapped_complete m a false 0#32⟩
    rw [exec_registerRead, execRegisterRead, State.busRead_unmapped hlt ha hr]
  case write =>
    intro m a v s hlt ha hr
    refine ⟨(s.unmapped m a).complete m true a accUnmapped v, ?_, s.unmapped_complete m a true v⟩
    rw [exec_registerWrite, execRegisterWrite, State.busWrite_unmapped hlt ha hr]
  case host =>
    intro a n s hon hbuf hlt ha hr
    have hout : (s.unmapped mHost a).out = s.out := State.raise_out ..
    refine ⟨(s.unmapped mHost a).send .host .read [0x5A, 2], ?_, congrArg (· ++ [_]) hout, s.unmapped_alarmed mHost a⟩
    rw [exec_hostRead, execHostRead, if_pos hon, State.hostReads_unmapped hbuf hlt ha hr]

end Sys2Proof.Machine
end

/-! The Pattern and its flash: what each command leaves of the image that runs (R63), the flash while a slot is chosen (R53), and what a read of a flash page
brings into the page buffer (R62). -/
namespace Sys2Proof.Machine

/-! The image through a chain of operations. -/

/-- From `s` to `t` the image that runs is the same: of what was loaded of the Pattern only tuned values may differ. -/
def SameImage (s t : State) : Prop := t.image = s.image

theorem SameImage.refl (s : State) : SameImage s s := rfl

theorem SameImage.step {s t u : State} (h : SameImage s t) (k : SameImage t u) : SameImage s u := Eq.trans k h

theorem SameImage.of_pat {s t : State} (h : t.pat = s.pat) : SameImage s t := by
  unfold SameImage State.image
  rw [h]

theorem SameImage.acts {m : Nat} {s t u : State} (h : SameImage s t) (k : Acts m t u) (hm : m.testBit Part.pat.idx = false) : SameImage s u :=
  h.step (.of_pat (k.frame .pat hm))

theorem SameImage.ite {c : Prop} [Decidable c] {s a b : State} (h : c → SameImage s a) (k : ¬c → SameImage s b) : SameImage s (if c then a else b) := by
  split
  · exact h ‹_›
  · exact k ‹_›

theorem SameImage.foldl {α : Type} {f : State → α → State} {l : List α} {s : State} (h : ∀ s x, SameImage s (f s x)) : SameImage s (l.foldl f s) := by
  induction l generalizing s with
  | nil => exact .refl s
  | cons x l ih => exact (h s x).step ih

/-- R90: what a freeze tunes is no part of the image. -/
theorem State.tuneFreeze_image (s : State) : SameImage s s.tuneFreeze := rfl

/-- R301: of the twin state only the tuned values reach the Pattern. -/
theorem State.applyChunk_image (s : State) (c : TwinChunk) : SameImage s (s.applyChunk c) := by
  unfold State.applyChunk
  split
  -- Arms 1, 4, 5 and 9 are the epochs, the tunables, the conditions and a mould; the others replace a part beside the Pattern.
  case h_1 stateEp ladleEp => exact .of_pat ((State.setLadleEp_acts s ladleEp).frame .pat rfl)
  case h_4 => rfl
  case h_5 base since expired joyAt =>
    have shown : SameImage s ((List.range 10).foldl (fun u n => u.setFlag (bitAt A_CTL_DEGR n) (afind since n).isSome) s) :=
      SameImage.foldl fun u _ => .of_pat (u.setFlag_pat ..)
    exact shown
  case h_9 => split <;> exact .of_pat rfl
  all_goals exact .of_pat rfl

/-- A frame of the twin link changes the image only as its content does. -/
theorem State.onFrame_image {s : State} {vc : Nat} {x : TwinHeader} {f : State → State} (hf : ∀ u, SameImage u (f u)) :
    SameImage s (s.onFrame vc x f) := by
  unfold State.onFrame
  refine .ite (fun _ => .refl s) fun _ => .ite (fun _ => (SameImage.refl s).acts (State.twinBroken_acts s vc x.lane) rfl) fun _ => ?_
  extract_lets src t
  have taken : SameImage s t := rfl
  clear_value t
  refine .ite (fun _ => .acts ?_ (State.twinPush_acts _) rfl) fun _ => taken.acts (State.twinPush_acts t) rfl
  exact taken.step (hf { t with twn := { t.twn with link := t.twn.link.deliver vc x } })

/-- R26, R90: of the work of a freeze only the tuning reaches the Pattern. -/
theorem State.freezeWork_image (s : State) (before : Nat) (latch : List ChannelLatch) : SameImage s (s.freezeWork before latch) := by
  unfold State.freezeWork
  extract_lets s1 s2 s3 s4 s5
  have h1 : SameImage s s1 := .ite (fun _ => (SameImage.refl s).acts (State.enterSafe_acts s) rfl) fun _ => .refl s
  have hMode : SameImage s s1.joinNow.soloCondition.modeFreeze :=
    ((h1.acts (State.joinNow_acts ..) rfl).acts (State.soloCondition_acts ..) rfl).acts (State.modeFreeze_acts ..) rfl
  have h2 : SameImage s s2 := (hMode.step (State.tuneFreeze_image _)).acts (State.schedule_acts ..) rfl
  have h3 : SameImage s s3 := ((h2.acts (State.lanesFreeze_acts ..) rfl).acts (State.bankSwitchNow_acts ..) rfl).acts (State.sparesFreeze_acts ..) rfl
  have h4 : SameImage s s4 := h3.acts (State.gnssFreeze_acts ..) rfl
  have h5 : SameImage s s5 :=
    (h4.acts (State.availabilityFreeze_acts ..) rfl).step (.ite (fun _ => (SameImage.refl _).acts (State.fullFreeze_acts ..) rfl) fun _ => .refl _)
  exact (((((h5.acts (State.fieldFreeze_acts ..) rfl).acts (State.canFreeze_acts ..) rfl).acts (State.brakeTestFreeze_acts ..) rfl).acts
    (State.statusItems_acts ..) rfl).acts (State.anchorFreeze_acts ..) rfl).acts (State.breakViews_acts ..) rfl

/-! A device that has left BOOT. -/

/-- The command completes; a device that has left BOOT runs the same image after it and has not gone back to BOOT. -/
def RunsOn (s : State) (o : Host.Outcome State Fault Refusal) : Prop :=
  ∃ t, o = .next t ∧ (s.dev.st ≠ .boot → SameImage s t ∧ t.dev.st ≠ .boot)

section
variable {m : Nat} {s : State} {o : Host.Outcome State Fault Refusal}

/-- A command that reaches neither the Pattern nor the device state. -/
theorem RunsOn.of_acts (h : ∃ t, o = .next t ∧ Acts m s t) (hpat : m.testBit Part.pat.idx = false := by rfl)
    (hst : m.testBit Part.devSt.idx = false := by rfl) : RunsOn s o := by
  obtain ⟨t, ht, acts⟩ := h
  refine ⟨t, ht, fun left => ⟨.of_pat (acts.frame .pat hpat), ?_⟩⟩
  rw [acts.keepsSt hst]
  exact left

/-- A command that moves the device state as a pour may (R73), and does not reach the Pattern. -/
theorem RunsOn.of_pours (h : ∃ t, o = .next t ∧ Acts m s t) (k : ∃ t, o = .next t ∧ Pours s t)
    (hpat : m.testBit Part.pat.idx = false := by rfl) : RunsOn s o := by
  obtain ⟨t, ht, acts⟩ := h
  obtain ⟨u, hu, -, -, stays⟩ := k
  cases ht.symm.trans hu
  exact ⟨t, ht, fun left => ⟨.of_pat (acts.frame .pat hpat), stays left⟩⟩

/-- A command that moves the device state by itself (R73), and does not reach the Pattern. -/
theorem RunsOn.of_moves (h : ∃ t, o = .next t ∧ Acts m s t) (k : ∃ t, o = .next t ∧ Moves s t)
    (hpat : m.testBit Part.pat.idx = false := by rfl) : RunsOn s o :=
  .of_pours h (k.imp fun _ => And.imp_right Moves.pours) hpat

end

/-- R71: a RELEASE that makes the device the holder takes it from ARMED to ACTIVE. -/
theorem execReleaseFrame_pours (x : TwinHeader) (e : Nat) (s : State) : ∃ t, execReleaseFrame x e s = .next t ∧ Pours s t := by
  obtain ⟨t, ht, moves | ⟨armed, active⟩⟩ := execReleaseFrame_moves x e s
  · exact ⟨t, ht, moves.pours⟩
  · exact ⟨t, ht, .free (by rw [armed]; decide) (by rw [armed]; decide) (by rw [active]; decide)⟩

/-- R52: a slot is put to use in BOOT alone. -/
theorem execSlotStreamEnd_runsOn (r : StartTests) (s : State) : RunsOn s (execSlotStreamEnd r s) := by
  refine ⟨_, rfl, fun left => ?_⟩
  have skipped : (s.boot.streaming = 0 || s.dev.st != .boot) = true := by simp [left]
  rw [if_pos skipped]
  exact ⟨.refl s, left⟩

/-- R26: a freeze outside BOOT tunes the image and leaves the device outside BOOT. -/
theorem execCycleFreeze_runsOn (l : List ChannelLatch) (s : State) : RunsOn s (execCycleFreeze l s) := by
  obtain ⟨t, ht, moved⟩ := execCycleFreeze_moves l s
  refine ⟨t, ht, fun left => ⟨?_, ?_⟩⟩
  · unfold execCycleFreeze at ht
    injection ht with ht
    rw [← ht]
    refine .ite (fun _ => ?_) fun _ => .refl s
    extract_lets before opened
    rw [if_neg left]
    exact ((SameImage.refl s).acts (State.openCycle_acts s) rfl).step (State.freezeWork_image ..)
  · obtain moves | ⟨boot, -⟩ := moved
    · exact moves.pours.2.2 left
    · exact absurd boot left

/-- R301: the copy of the twin state brings tuned values and no image. -/
theorem execStateFrame_runsOn (x : TwinHeader) (c : TwinChunk) (s : State) : RunsOn s (execStateFrame x c s) := by
  obtain ⟨t, ht, acts⟩ := execStateFrame_acts x c s
  refine ⟨t, ht, fun left => ⟨?_, ?_⟩⟩
  · unfold execStateFrame at ht
    injection ht with ht
    rw [← ht]
    exact State.onFrame_image fun u => .ite (fun _ => u.applyChunk_image c) fun _ => .refl u
  · rw [acts.keepsSt rfl]
    exact left

/-- Every command but the device resets completes, and a device that has left BOOT runs on with its image. The frame of most commands holds neither the
Pattern nor the device state (`of_acts`); those that move the device state keep to its table (`of_moves`, `of_pours`); the three that reach the Pattern
have lemmas of their own. -/
theorem exec_runsOn (c : Instr) (hr : isReset c = false) (s : State) : RunsOn s (exec c s) :=
  match c with
  | .powerOnReset _ => nomatch hr
  | .vinFall => nomatch hr
  | .nrst _ _ => nomatch hr
  | .keeperWatchdog _ => nomatch hr
  | .orderedReset _ => nomatch hr
  | .app0Rst _ => .of_acts (execApp0Rst_acts ..)
  | .app1Rst _ => .of_acts (execApp1Rst_acts ..)
  | .pwrgoodRise => .of_acts (execPwrgoodRise_acts ..)
  | .refinPresent => .of_acts (execRefinPresent_acts ..)
  | .refinMissing => .of_moves (execRefinMissing_acts ..) (execRefinMissing_moves ..)
  | .pllUnlock => .of_moves (execPllUnlock_acts ..) (execPllUnlock_moves ..)
  | .clockMonitorWindow _ => .of_moves (execClockMonitorWindow_acts ..) (execClockMonitorWindow_moves ..)
  | .vfldPresent => .of_acts (execVfldPresent_acts ..)
  | .vfldLow => .of_acts (execVfldLow_acts ..)
  | .bootStart _ => .of_moves (execBootStart_acts ..) (execBootStart_moves ..)
  | .slotStreamEnd r => execSlotStreamEnd_runsOn r s
  | .bootTimeout => .of_moves (execBootTimeout_acts ..) (execBootTimeout_moves ..)
  | .twinWaitEnd => .of_moves (execTwinWaitEnd_acts ..) (execTwinWaitEnd_moves ..)
  | .cycleFreeze l => execCycleFreeze_runsOn l s
  | .measurementBlockWrite _ => .of_acts (execMeasurementBlockWrite_acts ..)
  | .fieldItemSend => .of_acts (execFieldItemSend_acts ..)
  | .closeTick => .of_acts (execCloseTick_acts ..)
  | .agreeDecide => .of_acts (execAgreeDecide_acts ..)
  | .agreeCheck => .of_acts (execAgreeCheck_acts ..)
  | .fusionStep _ => .of_acts (execFusionStep_acts ..)
  | .slotTimeout _ => .of_acts (execSlotTimeout_acts ..)
  | .gatePersistExpiry _ => .of_acts (execGatePersistExpiry_acts ..)
  | .conflictPersistExpiry _ => .of_acts (execConflictPersistExpiry_acts ..)
  | .probationEnd _ => .of_acts (execProbationEnd_acts ..)
  | .drValidExpiry _ => .of_acts (execDrValidExpiry_acts ..)
  | .drLimitExpiry _ => .of_acts (execDrLimitExpiry_acts ..)
  | .controlStepRuns => .of_acts (execControlStepRuns_acts ..)
  | .followingErrorExpiry _ => .of_acts (execFollowingErrorExpiry_acts ..)
  | .modelPlausibilityExpiry _ => .of_acts (execModelPlausibilityExpiry_acts ..)
  | .followRefLoss => .of_acts (execFollowRefLoss_acts ..)
  | .joystickTimeout => .of_acts (execJoystickTimeout_acts ..)
  | .windFeedforwardRamp => .of_acts (execWindFeedforwardRamp_acts ..)
  | .injectionEnd => .of_acts (execInjectionEnd_acts ..)
  | .allocationStepRuns => .of_acts (execAllocationStepRuns_acts ..)
  | .scenarioStale _ => .of_acts (execScenarioStale_acts ..)
  | .shapeHoldExpiry _ => .of_acts (execShapeHoldExpiry_acts ..)
  | .azimuthSwing _ => .of_acts (execAzimuthSwing_acts ..)
  | .outputComparison => .of_acts (execOutputComparison_acts ..)
  | .verdictFormation _ => .of_moves (execVerdictFormation_acts ..) (execVerdictFormation_moves ..)
  | .arbitration => .of_moves (execArbitration_acts ..) (execArbitration_moves ..)
  | .stepDeadline _ => .of_moves (execStepDeadline_acts ..) (execStepDeadline_moves ..)
  | .pour _ => .of_pours (execPour_acts ..) (execPour_pours ..)
  | .orderArrival _ _ _ _ _ => .of_acts (execOrderArrival_acts ..)
  | .engage _ => .of_acts (execEngage_acts ..)
  | .disengage _ => .of_acts (execDisengage_acts ..)
  | .transfer _ => .of_acts (execTransfer_acts ..)
  | .setMode _ => .of_acts (execSetMode_acts ..)
  | .setPoint _ => .of_acts (execSetPoint_acts ..)
  | .setTrack _ => .of_acts (execSetTrack_acts ..)
  | .setFollowRef _ => .of_acts (execSetFollowRef_acts ..)
  | .joystick _ => .of_acts (execJoystick_acts ..)
  | .takeCommand _ => .of_acts (execTakeCommand_acts ..)
  | .thrusterAvail _ => .of_acts (execThrusterAvail_acts ..)
  | .sensorReturn _ => .of_acts (execSensorReturn_acts ..)
  | .tunable _ => .of_acts (execTunable_acts ..)
  | .testStartBrake _ => .of_acts (execTestStartBrake_acts ..)
  | .testStartInjection _ => .of_acts (execTestStartInjection_acts ..)
  | .testStop _ => .of_acts (execTestStop_acts ..)
  | .park _ => .of_acts (execPark_acts ..)
  | .unpark _ => .of_acts (execUnpark_acts ..)
  | .safe _ => .of_acts (execSafe_acts ..)
  | .reset _ => .of_acts (execReset_acts ..)
  | .alarmAck _ => .of_acts (execAlarmAck_acts ..)
  | .orderMailboxSubmit _ _ => .of_acts (execOrderMailboxSubmit_acts ..)
  | .slvSubmit _ _ _ => .of_acts (execSlvSubmit_acts ..)
  | .slvFill _ _ _ => .of_acts (execSlvFill_acts ..)
  | .submissionProcess => .of_acts (execSubmissionProcess_acts ..)
  | .fillApply => .of_acts (execFillApply_acts ..)
  | .problemStart => .of_acts (execProblemStart_acts ..)
  | .problemEnds _ _ => .of_acts (execProblemEnds_acts ..)
  | .problemDeadline _ => .of_acts (execProblemDeadline_acts ..)
  | .laneFault _ => .of_acts (execLaneFault_acts ..)
  | .laneEccCorrected _ => .of_acts (execLaneEccCorrected_acts ..)
  | .twinLaneLost _ => .of_acts (execTwinLaneLost_acts ..)
  | .twinLaneRetry _ => .of_acts (execTwinLaneRetry_acts ..)
  | .twinLinkDown => .of_acts (execTwinLinkDown_acts ..)
  | .twinRetransmit _ _ => .of_acts (execTwinRetransmit_acts ..)
  | .twinNak _ _ => .of_acts (execTwinNak_acts ..)
  | .helloSend _ => .of_acts (execHelloSend_acts ..)
  | .helloFrame _ _ => .of_moves (execHelloFrame_acts ..) (execHelloFrame_moves ..)
  | .authFrame _ _ _ => .of_moves (execAuthFrame_acts ..) (execAuthFrame_moves ..)
  | .startFrame _ _ _ => .of_moves (execStartFrame_acts ..) (execStartFrame_moves ..)
  | .itemFrame _ _ _ _ => .of_acts (execItemFrame_acts ..)
  | .closeFrame _ _ _ _ => .of_acts (execCloseFrame_acts ..)
  | .agreeFrame _ _ _ _ _ => .of_acts (execAgreeFrame_acts ..)
  | .compareFrame _ _ => .of_acts (execCompareFrame_acts ..)
  | .verdictFrame _ _ => .of_acts (execVerdictFrame_acts ..)
  | .renewSend => .of_acts (execRenewSend_acts ..)
  | .renew _ _ _ _ _ => .of_moves (execRenew_acts ..) (execRenew_moves ..)
  | .ack _ _ => .of_acts (execAck_acts ..)
  | .leaseExpiry => .of_moves (execLeaseExpiry_acts ..) (execLeaseExpiry_moves ..)
  | .silentLossTimeout => .of_acts (execSilentLossTimeout_acts ..)
  | .releaseFrame _ _ => .of_pours (execReleaseFrame_acts ..) (execReleaseFrame_pours ..)
  | .syncReqFrame _ => .of_acts (execSyncReqFrame_acts ..)
  | .stateFrame x c => execStateFrame_runsOn x c s
  | .syncEndFrame _ _ _ => .of_acts (execSyncEndFrame_acts ..)
  | .syncEndTimeout => .of_acts (execSyncEndTimeout_acts ..)
  | .timeMarkerSend => .of_acts (execTimeMarkerSend_acts ..)
  | .timeMarker _ => .of_moves (execTimeMarker_acts ..) (execTimeMarker_moves ..)
  | .twinOffsetAlarm => .of_acts (execTwinOffsetAlarm_acts ..)
  | .switchTest _ => .of_acts (execSwitchTest_acts ..)
  | .switchTestStep _ _ _ => .of_moves (execSwitchTestStep_acts ..) (execSwitchTestStep_moves ..)
  | .brakeOvercurrent _ => .of_acts (execBrakeOvercurrent_acts ..)
  | .brakeDegradedExpiry _ => .of_acts (execBrakeDegradedExpiry_acts ..)
  | .brakeTestPhaseEnd => .of_acts (execBrakeTestPhaseEnd_acts ..)
  | .brakeTestMotion _ => .of_acts (execBrakeTestMotion_acts ..)
  | .brakeTestDue _ => .of_acts (execBrakeTestDue_acts ..)
  | .testPulse _ _ => .of_moves (execTestPulse_acts ..) (execTestPulse_moves ..)
  | .safeInputChange _ _ _ _ => .of_moves (execSafeInputChange_acts ..) (execSafeInputChange_moves ..)
  | .discrepancyExpiry _ => .of_moves (execDiscrepancyExpiry_acts ..) (execDiscrepancyExpiry_moves ..)
  | .safeFrame _ _ _ => .of_moves (execSafeFrame_acts ..) (execSafeFrame_moves ..)
  | .dualWaitExpiry _ => .of_moves (execDualWaitExpiry_acts ..) (execDualWaitExpiry_moves ..)
  | .safeConnectionTimeout _ => .of_moves (execSafeConnectionTimeout_acts ..) (execSafeConnectionTimeout_moves ..)
  | .sDieFault => .of_moves (execSDieFault_acts ..) (execSDieFault_moves ..)
  | .extest => .of_moves (execExtest_acts ..) (execExtest_moves ..)
  | .tsuExtUpdate => .of_acts (execTsuExtUpdate_acts ..)
  | .ptpSyncArrives _ _ _ _ _ _ => .of_acts (execPtpSyncArrives_acts ..)
  | .ptpFollowUp _ _ _ _ => .of_acts (execPtpFollowUp_acts ..)
  | .ptpDelayRespArrives _ _ _ _ => .of_acts (execPtpDelayRespArrives_acts ..)
  | .ptpAnnounce _ => .of_acts (execPtpAnnounce_acts ..)
  | .ptpMessageSend _ _ _ => .of_acts (execPtpMessageSend_acts ..)
  | .timeSourceLost _ => .of_acts (execTimeSourceLost_acts ..)
  | .sourceQualified _ => .of_acts (execSourceQualified_acts ..)
  | .stepDecision => .of_acts (execStepDecision_acts ..)
  | .timeStep => .of_acts (execTimeStep_acts ..)
  | .holdErrPublish => .of_acts (execHoldErrPublish_acts ..)
  | .compareFire _ => .of_acts (execCompareFire_acts ..)
  | .compareEnable _ _ _ => .of_acts (execCompareEnable_acts ..)
  | .captureEdge _ _ _ => .of_acts (execCaptureEdge_acts ..)
  | .captureRead _ _ => .of_acts (execCaptureRead_acts ..)
  | .captureOld _ => .of_acts (execCaptureOld_acts ..)
  | .timePulse _ => .of_acts (execTimePulse_acts ..)
  | .timePulseEnd _ => .of_acts (execTimePulseEnd_acts ..)
  | .antennaMeasure _ _ => .of_acts (execAntennaMeasure_acts ..)
  | .antennaRetry _ => .of_acts (execAntennaRetry_acts ..)
  | .acquisitionSearchRuns _ _ _ _ _ _ _ _ => .of_acts (execAcquisitionSearchRuns_acts ..)
  | .acquisitionConfirm _ _ _ => .of_acts (execAcquisitionConfirm_acts ..)
  | .pullInLock _ => .of_acts (execPullInLock_acts ..)
  | .phaseLockHeld _ => .of_acts (execPhaseLockHeld_acts ..)
  | .lockLoss _ => .of_acts (execLockLoss_acts ..)
  | .cycleSlip _ => .of_acts (execCycleSlip_acts ..)
  | .channelShadowEnd n a b d => .of_acts (execChannelShadowEnd_acts n a b d s)
  | .spectrumAverage _ _ _ _ => .of_acts (execSpectrumAverage_acts ..)
  | .notchRelease _ _ => .of_acts (execNotchRelease_acts ..)
  | .noiseFloorLearned _ => .of_acts (execNoiseFloorLearned_acts ..)
  | .jamClear => .of_acts (execJamClear_acts ..)
  | .suspectClear _ => .of_acts (execSuspectClear_acts ..)
  | .suspicionClear _ => .of_acts (execSuspicionClear_acts ..)
  | .snapshotTrigger _ => .of_acts (execSnapshotTrigger_acts ..)
  | .snapshotHeld _ => .of_acts (execSnapshotHeld_acts ..)
  | .snapshotRelease _ => .of_acts (execSnapshotRelease_acts ..)
  | .parkPositionCheck _ _ => .of_acts (execParkPositionCheck_acts ..)
  | .ephemerisRenewal => .of_acts (execEphemerisRenewal_acts ..)
  | .ephemerisRenewalEnds _ => .of_acts (execEphemerisRenewalEnds_acts ..)
  | .serialSentence _ _ => .of_acts (execSerialSentence_acts ..)
  | .rtcmFrame _ _ _ _ => .of_acts (execRtcmFrame_acts ..)
  | .canFrame _ _ => .of_acts (execCanFrame_acts ..)
  | .fastPacketTimeout _ _ _ => .of_acts (execFastPacketTimeout_acts ..)
  | .canObjectTimeout _ => .of_acts (execCanObjectTimeout_acts ..)
  | .canQ1Pop _ _ => .of_acts (execCanQ1Pop_acts ..)
  | .canError _ _ _ => .of_acts (execCanError_acts ..)
  | .busoffHoldExpiry _ => .of_acts (execBusoffHoldExpiry_acts ..)
  | .busoffRecovered _ => .of_acts (execBusoffRecovered_acts ..)
  | .canReferenceMessageStarts _ => .of_acts (execCanReferenceMessageStarts_acts ..)
  | .ethernetFrame _ => .of_acts (execEthernetFrame_acts ..)
  | .prpEntryForget _ _ => .of_acts (execPrpEntryForget_acts ..)
  | .rxLimitWindow _ => .of_acts (execRxLimitWindow_acts ..)
  | .phyPoll _ _ _ => .of_acts (execPhyPoll_acts ..)
  | .mdioRead _ _ => .of_acts (execMdioRead_acts ..)
  | .mdioReadDone _ => .of_acts (execMdioReadDone_acts ..)
  | .arpRefresh _ => .of_acts (execArpRefresh_acts ..)
  | .arpTimeout _ => .of_acts (execArpTimeout_acts ..)
  | .serviceRead _ => .of_acts (execServiceRead_acts ..)
  | .serviceWrite _ => .of_acts (execServiceWrite_acts ..)
  | .fieldSampleTaken _ _ => .of_acts (execFieldSampleTaken_acts ..)
  | .fieldOutputWrite _ _ _ => .of_acts (execFieldOutputWrite_acts ..)
  | .fieldFaultTimerEnds _ _ => .of_acts (execFieldFaultTimerEnds_acts ..)
  | .readbackMismatch _ => .of_acts (execReadbackMismatch_acts ..)
  | .modulatorOverload _ => .of_acts (execModulatorOverload_acts ..)
  | .engineShadowEnd _ _ => .of_acts (execEngineShadowEnd_acts ..)
  | .engineTestEnd _ _ => .of_acts (execEngineTestEnd_acts ..)
  | .fieldTestInjection _ => .of_acts (execFieldTestInjection_acts ..)
  | .fieldTestInjectionEnds _ => .of_acts (execFieldTestInjectionEnds_acts ..)
  | .loopSample _ => .of_acts (execLoopSample_acts ..)
  | .loopFollowingError _ => .of_acts (execLoopFollowingError_acts ..)
  | .loopPlausibility _ => .of_acts (execLoopPlausibility_acts ..)
  | .interruptAssert _ => .of_acts (execInterruptAssert_acts ..)
  | .claim _ _ => .of_acts (execClaim_acts ..)
  | .complete _ _ _ => .of_acts (execComplete_acts ..)
  | .unfreeze _ _ => .of_acts (execUnfreeze_acts ..)
  | .moderationInterval _ => .of_acts (execModerationInterval_acts ..)
  | .targetIdle _ => .of_acts (execTargetIdle_acts ..)
  | .doorbellSet _ _ => .of_acts (execDoorbellSet_acts ..)
  | .machineTimer _ => .of_acts (execMachineTimer_acts ..)
  | .hostRead _ _ => .of_acts (execHostRead_acts ..)
  | .hostQuadRead _ _ => .of_acts (execHostQuadRead_acts ..)
  | .hostWrite _ _ _ => .of_acts (execHostWrite_acts ..)
  | .hostQuadWrite _ _ _ => .of_acts (execHostQuadWrite_acts ..)
  | .hostStatus => .of_acts (execHostStatus_acts ..)
  | .hostWritePerform => .of_acts (execHostWritePerform_acts ..)
  | .flashErase _ => .of_acts (execFlashErase_acts ..)
  | .flashProgram _ => .of_acts (execFlashProgram_acts ..)
  | .flashRead _ => .of_acts (execFlashRead_acts ..)
  | .flashCommandDone _ => .of_acts (execFlashCommandDone_acts ..)
  | .elkPortLost _ => .of_acts (execElkPortLost_acts ..)
  | .elkPortRetry _ => .of_acts (execElkPortRetry_acts ..)
  | .elkRetransmitFrame _ _ _ => .of_acts (execElkRetransmitFrame_acts ..)
  | .elkHelloSend _ => .of_acts (execElkHelloSend_acts ..)
  | .elkHello _ _ _ => .of_acts (execElkHello_acts ..)
  | .elkPacket _ _ _ => .of_acts (execElkPacket_acts ..)
  | .elkUdpDatagram _ _ _ _ => .of_acts (execElkUdpDatagram_acts ..)
  | .subSend => .of_acts (execSubSend_acts ..)
  | .subscriberExpiry _ => .of_acts (execSubscriberExpiry_acts ..)
  | .subscriptionTimeout _ => .of_acts (execSubscriptionTimeout_acts ..)
  | .formationSetClose _ => .of_acts (execFormationSetClose_acts ..)
  | .viewOpen _ => .of_acts (execViewOpen_acts ..)
  | .viewClose _ => .of_acts (execViewClose_acts ..)
  | .windowRead _ _ => .of_acts (execWindowRead_acts ..)
  | .fabricTimeout _ _ => .of_acts (execFabricTimeout_acts ..)
  | .registerWrite _ _ _ => .of_acts (execRegisterWrite_acts ..)
  | .lockstepMismatch _ => .of_moves (execLockstepMismatch_acts ..) (execLockstepMismatch_moves ..)
  | .eccError _ _ _ => .of_moves (execEccError_acts ..) (execEccError_moves ..)
  | .eccScrub _ _ => .of_acts (execEccScrub_acts ..)
  | .railFault _ => .of_moves (execRailFault_acts ..) (execRailFault_moves ..)
  | .annealMeasurement _ _ => .of_acts (execAnnealMeasurement_acts ..)
  | .trimStep _ => .of_acts (execTrimStep_acts ..)
  | .thermalUpdateRuns _ _ _ _ => .of_acts (execThermalUpdateRuns_acts ..)
  | .trefTrack => .of_acts (execTrefTrack_acts ..)
  | .cooled => .of_acts (execCooled_acts ..)
  | .operatingTimeTick => .of_acts (execOperatingTimeTick_acts ..)
  | .waveformStart _ => .of_acts (execWaveformStart_acts ..)
  | .waveformPhaseEnd => .of_acts (execWaveformPhaseEnd_acts ..)
  | .waveformEnd => .of_acts (execWaveformEnd_acts ..)
  | .annCommit _ _ => .of_acts (execAnnCommit_acts ..)
  | .vlcdTimeout _ => .of_acts (execVlcdTimeout_acts ..)
  | .registerRead _ _ => .of_acts (execRegisterRead_acts ..)
  | .refinReturn => .of_acts (execRefinReturn_acts ..)
  | .hidleFall => .of_acts (execHidleFall_acts ..)
  | .halfCycleResolved _ => .of_acts (execHalfCycleResolved_acts ..)
  | .transmitTimeResolved _ => .of_acts (execTransmitTimeResolved_acts ..)
  | .twinLaneUp _ => .of_acts (execTwinLaneUp_acts ..)

/-- Settles O56. Command by command (`exec_runsOn`): only a stream end in BOOT loads an image, and freezes and twin copies change tuned values alone. -/
theorem theRunningImageChangesOnlyThroughADeviceReset : Obligations.TheRunningImageChangesOnlyThroughADeviceReset := by
  unfold Obligations.TheRunningImageChangesOnlyThroughADeviceReset
  refine ⟨fun c s t hr left ht => ?image, fun m failed s => ?flash⟩
  case image =>
    obtain ⟨u, hu, runs⟩ := exec_runsOn c hr s
    cases ht.symm.trans hu
    exact runs left
  case flash =>
    obtain ⟨t, erase, ht⟩ := execFlashErase_acts m s
    obtain ⟨u, program, hu⟩ := execFlashProgram_acts m s
    obtain ⟨v, done, hv⟩ := execFlashCommandDone_acts failed s
    exact ⟨t, u, v, erase, ht.frame .pat rfl, program, hu.frame .pat rfl, done, hv.frame .pat rfl⟩

/-! Runs of writes and reads in a memory. -/

/-- A run of writes does not reach the keys below its first. -/
theorem memGet_memSetRun_below {w : Nat} (d : Nat → BitVec w) (step : Nat) (vs : List (BitVec w)) {m : Sparse w} {a b : Nat} (hm : memWf d m = true)
    (hb : b < a) : memGet d (memSetRun d step m a vs) b = memGet d m b := by
  induction vs generalizing m a with
  | nil => rfl
  | cons v vs ih =>
    calc memGet d (memSetRun d step (memSet d m a v) (a + step) vs) b
      _ = memGet d (memSet d m a v) b := ih (memWf_memSet d m a v hm) (by omega)
      _ = memGet d m b := memGet_memSet_other d m a b v hm (by omega)

/-- The `k`-th key of a run of writes reads as the `k`-th value. -/
theorem memGet_memSetRun {w : Nat} (d : Nat → BitVec w) {step : Nat} (hstep : 0 < step) {vs : List (BitVec w)} {m : Sparse w} {a k : Nat} {v : BitVec w}
    (hm : memWf d m = true) (hv : vs[k]? = some v) : memGet d (memSetRun d step m a vs) (a + step * k) = v := by
  induction vs generalizing m a k with
  | nil => simp at hv
  | cons u vs ih =>
    have written := memWf_memSet d m a u hm
    cases k with
    | zero =>
      obtain rfl : u = v := by simpa using hv
      calc memGet d (memSetRun d step (memSet d m a u) (a + step) vs) a
        _ = memGet d (memSet d m a u) a := memGet_memSetRun_below d step vs written (by omega)
        _ = u := memGet_memSet_same d m a u hm
    | succ k =>
      have shifted : a + step * (k + 1) = a + step + step * k := by ring
      rw [shifted]
      exact ih written (by simpa using hv)

/-- R3: the `k`-th word of a run of bytes is spelled by its four bytes from `4 * k` on. -/
theorem bytesWords_memGetRun (d : Nat → Byte) (m : Sparse 8) {n k : Nat} (a : Nat) (hk : k < n) :
    (bytesWords (memGetRun d 1 m a (4 * n)))[k]? = some (BitVec.ofNat 32 (leNat (memGetRun d 1 m (a + 4 * k) 4))) := by
  induction n generalizing a k with
  | zero => omega
  | succ n ih =>
    have unrolled : bytesWords (memGetRun d 1 m a (4 * (n + 1))) =
        BitVec.ofNat 32 (leNat (memGetRun d 1 m a 4)) :: bytesWords (memGetRun d 1 m (a + 4) (4 * n)) := rfl
    rw [unrolled]
    cases k with
    | zero => rfl
    | succ k =>
      have shifted : a + 4 * (k + 1) = a + 4 + 4 * k := by ring
      rw [List.getElem?_cons_succ, ih (a + 4) (by omega), shifted]

/-! The end of a read. -/

/-- A register of a run reads as its word, once the run is written. -/
theorem reg_setRegs {s : State} (h : s.Sound) {a k : Nat} {ws : List Word} {w : Word} (hw : ws[k]? = some w) : (s.setRegs a ws).reg (a + 4 * k) = w :=
  memGet_memSetRun resetWord (by decide) h.canonical.1 hw

/-- R421: settling the interrupt sources writes no register below INTC_SRCnCFG. -/
theorem Keeps.settleSources {g : Fld} (hg : g.fits = true) (hlow : g.addr < A_INTC_SRC_CFG 0) {s t : State} (h : Keeps g s t) :
    Keeps g s t.settleSources := by
  have below (n : Nat) : g.addr ≠ (F_INTC_SRC_CFG_TARGET n).addr := by
    simp only [F_INTC_SRC_CFG_TARGET, A_INTC_SRC_CFG] at hlow ⊢
    omega
  unfold State.settleSources
  refine Keeps.acts (Keeps.each ?_ fun u n _ => ?_) (State.updateLines_acts _) rfl
  · exact h.acts (Acts.upd_intc (m := 2048) (.refl t) rfl) rfl
  · unfold State.assignSource
    refine .ite (fun _ => ?_) fun _ => .refl u
    split
    · refine .setFld ?_ rfl hg (.inl (below n))
      exact (Keeps.refl u).acts (Acts.upd_intc (m := 2048) (.refl u) rfl) rfl
    · exact .refl u

/-- R62: a completed read brings the page from flash into the page buffer. -/
theorem execFlashCommandDone_read {a : Nat} {p : List Byte} {b : Bool} {s u : State} (hs : s.Sound) (hread : s.flashCmd = some ⟨3, a, p⟩)
    (hu : execFlashCommandDone b s = .next u) {k : Nat} (hk : k < 64) :
    u.reg (A_KPR_FLW_BUF k) = BitVec.ofNat 32 (leNat (memGetRun erasedCell 1 s.flash (a + 4 * k) 4)) := by
  have page : s.flashEffect ⟨3, a, p⟩ b = s.setRegs (A_KPR_FLW_BUF 0) (bytesWords (memGetRun erasedCell 1 s.flash a (4 * 64))) := by
    simp [State.flashEffect]
  unfold execFlashCommandDone at hu
  rw [hread] at hu
  simp only [page, Host.Outcome.next.injEq] at hu
  generalize hw : s.setRegs (A_KPR_FLW_BUF 0) _ = w at hu
  have sound : w.Sound := hw ▸ (State.setRegs_acts ..).sound hs
  have kept : Keeps (word32 (A_KPR_FLW_BUF k)) w u := by
    rw [← hu]
    refine .settleSources rfl (by simp only [word32, A_KPR_FLW_BUF, A_INTC_SRC_CFG]; omega) ?_
    refine .acts (.setFlag ?_ rfl rfl (.inl ?_)) (Acts.upd_intc (m := 2048) (.refl _) rfl) rfl
    · exact (Keeps.refl w).acts (Acts.upd_flashCmd (m := 17179869184) (.refl w) rfl) rfl
    · simp only [word32, F_KPR_FLW_CTRL_BUSY, A_KPR_FLW_BUF, A_KPR_FLW_CTRL]
      omega
  have place : A_KPR_FLW_BUF k = A_KPR_FLW_BUF 0 + 4 * k := by simp [A_KPR_FLW_BUF]
  rw [kept.word sound, ← hw, place]
  exact reg_setRegs hs (bytesWords_memGetRun erasedCell s.flash a hk)

/-! The choice of a slot. -/

/-- R52, R53: the end of a slot's stream leaves the flash as it is. -/
theorem exec_slotStreamEnd_flash (r : StartTests) (s : State) :
    ∃ t, exec (.slotStreamEnd r) s = .next t ∧ t.flash = s.flash ∧ (s.Sound → t.Sound) := by
  obtain ⟨t, ht, acts⟩ := execSlotStreamEnd_acts r s
  exact ⟨t, (exec_slotStreamEnd r s).trans ht, acts.frame .flash rfl, acts.sound⟩

/-- Settles O53. The commands of the choice leave the flash as it is, so a page read afterwards brings the bytes from before it. -/
theorem choosingASlotNeverWritesTheFlash : Obligations.ChoosingASlotNeverWritesTheFlash := by
  unfold Obligations.ChoosingASlotNeverWritesTheFlash
  refine ⟨fun b s => ?start, fun r s => ?stream, fun s => ?timeout, fun r a p s t u hs ht hread hu k hk => ?read⟩
  case start =>
    obtain ⟨t, ht, acts⟩ := execBootStart_acts b s
    exact ⟨t, ht, acts.frame .flash rfl⟩
  case stream =>
    obtain ⟨t, ht, flash, -⟩ := exec_slotStreamEnd_flash r s
    exact ⟨t, ht, flash⟩
  case timeout =>
    obtain ⟨t, ht, acts⟩ := execBootTimeout_acts s
    exact ⟨t, ht, acts.frame .flash rfl⟩
  case read =>
    obtain ⟨t', ht', flash, sound⟩ := exec_slotStreamEnd_flash r s
    cases ht.symm.trans ht'
    rw [← flash]
    exact execFlashCommandDone_read (sound hs) hread hu hk

end Sys2Proof.Machine

/-! The device state (R73, R74): what each command makes of it, and that SAFE ends only at a device reset. -/
namespace Sys2Proof.Machine

/-- R73: how a command can move the device state. A freeze also takes BOOT to ARMED, a RELEASE ARMED to ACTIVE; a pour does what was ordered. -/
def Transits (c : Instr) (s t : State) : Prop :=
  match c with
  | .powerOnReset _ | .vinFall => t.dev.st = .boot
  | .nrst _ _ | .keeperWatchdog _ | .orderedReset _ => t.dev.st = .boot ∨ t.dev.st = s.dev.st
  | .cycleFreeze _ => Moves s t ∨ (s.dev.st = .boot ∧ t.dev.st = .armed)
  | .releaseFrame _ _ => Moves s t ∨ (s.dev.st = .armed ∧ t.dev.st = .active)
  | .pour _ => Pours s t
  | _ => Moves s t

theorem moves_of_acts {m : Nat} {s : State} {o : Host.Outcome State Fault Refusal} (h : ∃ t, o = .next t ∧ Acts m s t)
    (hst : m.testBit Part.devSt.idx = false := by rfl) : ∃ t, o = .next t ∧ Moves s t :=
  h.imp fun _ => And.imp_right fun acts => (Moves.refl s).acts acts hst

/-! R64: a device reset takes the device to BOOT; one that does not come about leaves the device state. -/

theorem execNrst_resets (w : Nat) (p : Straps) (s : State) : ∃ t, execNrst w p s = .next t ∧ (t.dev.st = .boot ∨ t.dev.st = s.dev.st) := by
  refine ⟨_, rfl, ?_⟩
  split
  · exact .inl (congrArg Dev.st (State.fullReset_boot ..))
  · exact .inr rfl

theorem execKeeperWatchdog_resets (p : Straps) (s : State) :
    ∃ t, execKeeperWatchdog p s = .next t ∧ (t.dev.st = .boot ∨ t.dev.st = s.dev.st) := by
  refine ⟨_, rfl, ?_⟩
  split
  · exact .inl (State.keeperReset_boot ..)
  · exact .inr rfl

theorem execOrderedReset_boot {s : State} (ordered : s.dev.toReset = true) (p : Straps) :
    ∃ t, execOrderedReset p s = .next t ∧ t.dev.st = .boot := by
  refine ⟨s.keeperReset p F_KPR_RESETCAUSE_ORDER, ?_, State.keeperReset_boot ..⟩
  rw [execOrderedReset, if_pos ordered]

theorem execOrderedReset_resets (p : Straps) (s : State) :
    ∃ t, execOrderedReset p s = .next t ∧ (t.dev.st = .boot ∨ t.dev.st = s.dev.st) := by
  by_cases ordered : s.dev.toReset = true
  · exact (execOrderedReset_boot ordered p).imp fun _ => And.imp_right .inl
  · refine ⟨s, ?_, .inr rfl⟩
    rw [execOrderedReset, if_neg ordered]

/-- Every command completes and moves the device state as its row of R73 says. The frame of most commands does not hold the device state
(`moves_of_acts`). -/
theorem exec_transits (c : Instr) (s : State) : ∃ t, exec c s = .next t ∧ Transits c s t :=
  match c with
  | .powerOnReset _ => ⟨_, rfl, rfl⟩
  | .vinFall => ⟨_, rfl, rfl⟩
  | .nrst w p => execNrst_resets w p s
  | .keeperWatchdog p => execKeeperWatchdog_resets p s
  | .orderedReset p => execOrderedReset_resets p s
  | .app0Rst _ => moves_of_acts (execApp0Rst_acts ..)
  | .app1Rst _ => moves_of_acts (execApp1Rst_acts ..)
  | .pwrgoodRise => moves_of_acts (execPwrgoodRise_acts ..)
  | .refinPresent => moves_of_acts (execRefinPresent_acts ..)
  | .refinMissing => execRefinMissing_moves ..
  | .pllUnlock => execPllUnlock_moves ..
  | .clockMonitorWindow _ => execClockMonitorWindow_moves ..
  | .vfldPresent => moves_of_acts (execVfldPresent_acts ..)
  | .vfldLow => moves_of_acts (execVfldLow_acts ..)
  | .bootStart _ => execBootStart_moves ..
  | .slotStreamEnd r => execSlotStreamEnd_moves r s
  | .bootTimeout => execBootTimeout_moves ..
  | .twinWaitEnd => execTwinWaitEnd_moves ..
  | .cycleFreeze l => execCycleFreeze_moves l s
  | .measurementBlockWrite _ => moves_of_acts (execMeasurementBlockWrite_acts ..)
  | .fieldItemSend => moves_of_acts (execFieldItemSend_acts ..)
  | .closeTick => moves_of_acts (execCloseTick_acts ..)
  | .agreeDecide => moves_of_acts (execAgreeDecide_acts ..)
  | .agreeCheck => moves_of_acts (execAgreeCheck_acts ..)
  | .fusionStep _ => moves_of_acts (execFusionStep_acts ..)
  | .slotTimeout _ => moves_of_acts (execSlotTimeout_acts ..)
  | .gatePersistExpiry _ => moves_of_acts (execGatePersistExpiry_acts ..)
  | .conflictPersistExpiry _ => moves_of_acts (execConflictPersistExpiry_acts ..)
  | .probationEnd _ => moves_of_acts (execProbationEnd_acts ..)
  | .drValidExpiry _ => moves_of_acts (execDrValidExpiry_acts ..)
  | .drLimitExpiry _ => moves_of_acts (execDrLimitExpiry_acts ..)
  | .controlStepRuns => moves_of_acts (execControlStepRuns_acts ..)
  | .followingErrorExpiry _ => moves_of_acts (execFollowingErrorExpiry_acts ..)
  | .modelPlausibilityExpiry _ => moves_of_acts (execModelPlausibilityExpiry_acts ..)
  | .followRefLoss => moves_of_acts (execFollowRefLoss_acts ..)
  | .joystickTimeout => moves_of_acts (execJoystickTimeout_acts ..)
  | .windFeedforwardRamp => moves_of_acts (execWindFeedforwardRamp_acts ..)
  | .injectionEnd => moves_of_acts (execInjectionEnd_acts ..)
  | .allocationStepRuns => moves_of_acts (execAllocationStepRuns_acts ..)
  | .scenarioStale _ => moves_of_acts (execScenarioStale_acts ..)
  | .shapeHoldExpiry _ => moves_of_acts (execShapeHoldExpiry_acts ..)
  | .azimuthSwing _ => moves_of_acts (execAzimuthSwing_acts ..)
  | .outputComparison => moves_of_acts (execOutputComparison_acts ..)
  | .verdictFormation _ => execVerdictFormation_moves ..
  | .arbitration => execArbitration_moves ..
  | .stepDeadline _ => execStepDeadline_moves ..
  | .pour b => execPour_pours b s
  | .orderArrival _ _ _ _ _ => moves_of_acts (execOrderArrival_acts ..)
  | .engage _ => moves_of_acts (execEngage_acts ..)
  | .disengage _ => moves_of_acts (execDisengage_acts ..)
  | .transfer _ => moves_of_acts (execTransfer_acts ..)
  | .setMode _ => moves_of_acts (execSetMode_acts ..)
  | .setPoint _ => moves_of_acts (execSetPoint_acts ..)
  | .setTrack _ => moves_of_acts (execSetTrack_acts ..)
  | .setFollowRef _ => moves_of_acts (execSetFollowRef_acts ..)
  | .joystick _ => moves_of_acts (execJoystick_acts ..)
  | .takeCommand _ => moves_of_acts (execTakeCommand_acts ..)
  | .thrusterAvail _ => moves_of_acts (execThrusterAvail_acts ..)
  | .sensorReturn _ => moves_of_acts (execSensorReturn_acts ..)
  | .tunable _ => moves_of_acts (execTunable_acts ..)
  | .testStartBrake _ => moves_of_acts (execTestStartBrake_acts ..)
  | .testStartInjection _ => moves_of_acts (execTestStartInjection_acts ..)
  | .testStop _ => moves_of_acts (execTestStop_acts ..)
  | .park _ => moves_of_acts (execPark_acts ..)
  | .unpark _ => moves_of_acts (execUnpark_acts ..)
  | .safe _ => moves_of_acts (execSafe_acts ..)
  | .reset _ => moves_of_acts (execReset_acts ..)
  | .alarmAck _ => moves_of_acts (execAlarmAck_acts ..)
  | .orderMailboxSubmit _ _ => moves_of_acts (execOrderMailboxSubmit_acts ..)
  | .slvSubmit _ _ _ => moves_of_acts (execSlvSubmit_acts ..)
  | .slvFill _ _ _ => moves_of_acts (execSlvFill_acts ..)
  | .submissionProcess => moves_of_acts (execSubmissionProcess_acts ..)
  | .fillApply => moves_of_acts (execFillApply_acts ..)
  | .problemStart => moves_of_acts (execProblemStart_acts ..)
  | .problemEnds _ _ => moves_of_acts (execProblemEnds_acts ..)
  | .problemDeadline _ => moves_of_acts (execProblemDeadline_acts ..)
  | .laneFault _ => moves_of_acts (execLaneFault_acts ..)
  | .laneEccCorrected _ => moves_of_acts (execLaneEccCorrected_acts ..)
  | .twinLaneLost _ => moves_of_acts (execTwinLaneLost_acts ..)
  | .twinLaneRetry _ => moves_of_acts (execTwinLaneRetry_acts ..)
  | .twinLinkDown => moves_of_acts (execTwinLinkDown_acts ..)
  | .twinRetransmit _ _ => moves_of_acts (execTwinRetransmit_acts ..)
  | .twinNak _ _ => moves_of_acts (execTwinNak_acts ..)
  | .helloSend _ => moves_of_acts (execHelloSend_acts ..)
  | .helloFrame _ _ => execHelloFrame_moves ..
  | .authFrame _ _ _ => execAuthFrame_moves ..
  | .startFrame _ _ _ => execStartFrame_moves ..
  | .itemFrame _ _ _ _ => moves_of_acts (execItemFrame_acts ..)
  | .closeFrame _ _ _ _ => moves_of_acts (execCloseFrame_acts ..)
  | .agreeFrame _ _ _ _ _ => moves_of_acts (execAgreeFrame_acts ..)
  | .compareFrame _ _ => moves_of_acts (execCompareFrame_acts ..)
  | .verdictFrame _ _ => moves_of_acts (execVerdictFrame_acts ..)
  | .renewSend => moves_of_acts (execRenewSend_acts ..)
  | .renew _ _ _ _ _ => execRenew_moves ..
  | .ack _ _ => moves_of_acts (execAck_acts ..)
  | .leaseExpiry => execLeaseExpiry_moves ..
  | .silentLossTimeout => moves_of_acts (execSilentLossTimeout_acts ..)
  | .releaseFrame x e => execReleaseFrame_moves x e s
  | .syncReqFrame _ => moves_of_acts (execSyncReqFrame_acts ..)
  | .stateFrame _ _ => moves_of_acts (execStateFrame_acts ..)
  | .syncEndFrame _ _ _ => moves_of_acts (execSyncEndFrame_acts ..)
  | .syncEndTimeout => moves_of_acts (execSyncEndTimeout_acts ..)
  | .timeMarkerSend => moves_of_acts (execTimeMarkerSend_acts ..)
  | .timeMarker _ => execTimeMarker_moves ..
  | .twinOffsetAlarm => moves_of_acts (execTwinOffsetAlarm_acts ..)
  | .switchTest _ => moves_of_acts (execSwitchTest_acts ..)
  | .switchTestStep _ _ _ => execSwitchTestStep_moves ..
  | .brakeOvercurrent _ => moves_of_acts (execBrakeOvercurrent_acts ..)
  | .brakeDegradedExpiry _ => moves_of_acts (execBrakeDegradedExpiry_acts ..)
  | .brakeTestPhaseEnd => moves_of_acts (execBrakeTestPhaseEnd_acts ..)
  | .brakeTestMotion _ => moves_of_acts (execBrakeTestMotion_acts ..)
  | .brakeTestDue _ => moves_of_acts (execBrakeTestDue_acts ..)
  | .testPulse _ _ => execTestPulse_moves ..
  | .safeInputChange _ _ _ _ => execSafeInputChange_moves ..
  | .discrepancyExpiry _ => execDiscrepancyExpiry_moves ..
  | .safeFrame _ _ _ => execSafeFrame_moves ..
  | .dualWaitExpiry _ => execDualWaitExpiry_moves ..
  | .safeConnectionTimeout _ => execSafeConnectionTimeout_moves ..
  | .sDieFault => execSDieFault_moves ..
  | .extest => execExtest_moves ..
  | .tsuExtUpdate => moves_of_acts (execTsuExtUpdate_acts ..)
  | .ptpSyncArrives _ _ _ _ _ _ => moves_of_acts (execPtpSyncArrives_acts ..)
  | .ptpFollowUp _ _ _ _ => moves_of_acts (execPtpFollowUp_acts ..)
  | .ptpDelayRespArrives _ _ _ _ => moves_of_acts (execPtpDelayRespArrives_acts ..)
  | .ptpAnnounce _ => moves_of_acts (execPtpAnnounce_acts ..)
  | .ptpMessageSend _ _ _ => moves_of_acts (execPtpMessageSend_acts ..)
  | .timeSourceLost _ => moves_of_acts (execTimeSourceLost_acts ..)
  | .sourceQualified _ => moves_of_acts (execSourceQualified_acts ..)
  | .stepDecision => moves_of_acts (execStepDecision_acts ..)
  | .timeStep => moves_of_acts (execTimeStep_acts ..)
  | .holdErrPublish => moves_of_acts (execHoldErrPublish_acts ..)
  | .compareFire _ => moves_of_acts (execCompareFire_acts ..)
  | .compareEnable _ _ _ => moves_of_acts (execCompareEnable_acts ..)
  | .captureEdge _ _ _ => moves_of_acts (execCaptureEdge_acts ..)
  | .captureRead _ _ => moves_of_acts (execCaptureRead_acts ..)
  | .captureOld _ => moves_of_acts (execCaptureOld_acts ..)
  | .timePulse _ => moves_of_acts (execTimePulse_acts ..)
  | .timePulseEnd _ => moves_of_acts (execTimePulseEnd_acts ..)
  | .antennaMeasure _ _ => moves_of_acts (execAntennaMeasure_acts ..)
  | .antennaRetry _ => moves_of_acts (execAntennaRetry_acts ..)
  | .acquisitionSearchRuns _ _ _ _ _ _ _ _ => moves_of_acts (execAcquisitionSearchRuns_acts ..)
  | .acquisitionConfirm _ _ _ => moves_of_acts (execAcquisitionConfirm_acts ..)
  | .pullInLock _ => moves_of_acts (execPullInLock_acts ..)
  | .phaseLockHeld _ => moves_of_acts (execPhaseLockHeld_acts ..)
  | .lockLoss _ => moves_of_acts (execLockLoss_acts ..)
  | .cycleSlip _ => moves_of_acts (execCycleSlip_acts ..)
  | .channelShadowEnd n a b d => moves_of_acts (execChannelShadowEnd_acts n a b d s)
  | .spectrumAverage _ _ _ _ => moves_of_acts (execSpectrumAverage_acts ..)
  | .notchRelease _ _ => moves_of_acts (execNotchRelease_acts ..)
  | .noiseFloorLearned _ => moves_of_acts (execNoiseFloorLearned_acts ..)
  | .jamClear => moves_of_acts (execJamClear_acts ..)
  | .suspectClear _ => moves_of_acts (execSuspectClear_acts ..)
  | .suspicionClear _ => moves_of_acts (execSuspicionClear_acts ..)
  | .snapshotTrigger _ => moves_of_acts (execSnapshotTrigger_acts ..)
  | .snapshotHeld _ => moves_of_acts (execSnapshotHeld_acts ..)
  | .snapshotRelease _ => moves_of_acts (execSnapshotRelease_acts ..)
  | .parkPositionCheck _ _ => moves_of_acts (execParkPositionCheck_acts ..)
  | .ephemerisRenewal => moves_of_acts (execEphemerisRenewal_acts ..)
  | .ephemerisRenewalEnds _ => moves_of_acts (execEphemerisRenewalEnds_acts ..)
  | .serialSentence _ _ => moves_of_acts (execSerialSentence_acts ..)
  | .rtcmFrame _ _ _ _ => moves_of_acts (execRtcmFrame_acts ..)
  | .canFrame _ _ => moves_of_acts (execCanFrame_acts ..)
  | .fastPacketTimeout _ _ _ => moves_of_acts (execFastPacketTimeout_acts ..)
  | .canObjectTimeout _ => moves_of_acts (execCanObjectTimeout_acts ..)
  | .canQ1Pop _ _ => moves_of_acts (execCanQ1Pop_acts ..)
  | .canError _ _ _ => moves_of_acts (execCanError_acts ..)
  | .busoffHoldExpiry _ => moves_of_acts (execBusoffHoldExpiry_acts ..)
  | .busoffRecovered _ => moves_of_acts (execBusoffRecovered_acts ..)
  | .canReferenceMessageStarts _ => moves_of_acts (execCanReferenceMessageStarts_acts ..)
  | .ethernetFrame _ => moves_of_acts (execEthernetFrame_acts ..)
  | .prpEntryForget _ _ => moves_of_acts (execPrpEntryForget_acts ..)
  | .rxLimitWindow _ => moves_of_acts (execRxLimitWindow_acts ..)
  | .phyPoll _ _ _ => moves_of_acts (execPhyPoll_acts ..)
  | .mdioRead _ _ => moves_of_acts (execMdioRead_acts ..)
  | .mdioReadDone _ => moves_of_acts (execMdioReadDone_acts ..)
  | .arpRefresh _ => moves_of_acts (execArpRefresh_acts ..)
  | .arpTimeout _ => moves_of_acts (execArpTimeout_acts ..)
  | .serviceRead _ => moves_of_acts (execServiceRead_acts ..)
  | .serviceWrite _ => moves_of_acts (execServiceWrite_acts ..)
  | .fieldSampleTaken _ _ => moves_of_acts (execFieldSampleTaken_acts ..)
  | .fieldOutputWrite _ _ _ => moves_of_acts (execFieldOutputWrite_acts ..)
  | .fieldFaultTimerEnds _ _ => moves_of_acts (execFieldFaultTimerEnds_acts ..)
  | .readbackMismatch _ => moves_of_acts (execReadbackMismatch_acts ..)
  | .modulatorOverload _ => moves_of_acts (execModulatorOverload_acts ..)
  | .engineShadowEnd _ _ => moves_of_acts (execEngineShadowEnd_acts ..)
  | .engineTestEnd _ _ => moves_of_acts (execEngineTestEnd_acts ..)
  | .fieldTestInjection _ => moves_of_acts (execFieldTestInjection_acts ..)
  | .fieldTestInjectionEnds _ => moves_of_acts (execFieldTestInjectionEnds_acts ..)
  | .loopSample _ => moves_of_acts (execLoopSample_acts ..)
  | .loopFollowingError _ => moves_of_acts (execLoopFollowingError_acts ..)
  | .loopPlausibility _ => moves_of_acts (execLoopPlausibility_acts ..)
  | .interruptAssert _ => moves_of_acts (execInterruptAssert_acts ..)
  | .claim _ _ => moves_of_acts (execClaim_acts ..)
  | .complete _ _ _ => moves_of_acts (execComplete_acts ..)
  | .unfreeze _ _ => moves_of_acts (execUnfreeze_acts ..)
  | .moderationInterval _ => moves_of_acts (execModerationInterval_acts ..)
  | .targetIdle _ => moves_of_acts (execTargetIdle_acts ..)
  | .doorbellSet _ _ => moves_of_acts (execDoorbellSet_acts ..)
  | .machineTimer _ => moves_of_acts (execMachineTimer_acts ..)
  | .hostRead _ _ => moves_of_acts (execHostRead_acts ..)
  | .hostQuadRead _ _ => moves_of_acts (execHostQuadRead_acts ..)
  | .hostWrite _ _ _ => moves_of_acts (execHostWrite_acts ..)
  | .hostQuadWrite _ _ _ => moves_of_acts (execHostQuadWrite_acts ..)
  | .hostStatus => moves_of_acts (execHostStatus_acts ..)
  | .hostWritePerform => moves_of_acts (execHostWritePerform_acts ..)
  | .flashErase _ => moves_of_acts (execFlashErase_acts ..)
  | .flashProgram _ => moves_of_acts (execFlashProgram_acts ..)
  | .flashRead _ => moves_of_acts (execFlashRead_acts ..)
  | .flashCommandDone _ => moves_of_acts (execFlashCommandDone_acts ..)
  | .elkPortLost _ => moves_of_acts (execElkPortLost_acts ..)
  | .elkPortRetry _ => moves_of_acts (execElkPortRetry_acts ..)
  | .elkRetransmitFrame _ _ _ => moves_of_acts (execElkRetransmitFrame_acts ..)
  | .elkHelloSend _ => moves_of_acts (execElkHelloSend_acts ..)
  | .elkHello _ _ _ => moves_of_acts (execElkHello_acts ..)
  | .elkPacket _ _ _ => moves_of_acts (execElkPacket_acts ..)
  | .elkUdpDatagram _ _ _ _ => moves_of_acts (execElkUdpDatagram_acts ..)
  | .subSend => moves_of_acts (execSubSend_acts ..)
  | .subscriberExpiry _ => moves_of_acts (execSubscriberExpiry_acts ..)
  | .subscriptionTimeout _ => moves_of_acts (execSubscriptionTimeout_acts ..)
  | .formationSetClose _ => moves_of_acts (execFormationSetClose_acts ..)
  | .viewOpen _ => moves_of_acts (execViewOpen_acts ..)
  | .viewClose _ => moves_of_acts (execViewClose_acts ..)
  | .windowRead _ _ => moves_of_acts (execWindowRead_acts ..)
  | .fabricTimeout _ _ => moves_of_acts (execFabricTimeout_acts ..)
  | .registerWrite _ _ _ => moves_of_acts (execRegisterWrite_acts ..)
  | .lockstepMismatch _ => execLockstepMismatch_moves ..
  | .eccError _ _ _ => execEccError_moves ..
  | .eccScrub _ _ => moves_of_acts (execEccScrub_acts ..)
  | .railFault _ => execRailFault_moves ..
  | .annealMeasurement _ _ => moves_of_acts (execAnnealMeasurement_acts ..)
  | .trimStep _ => moves_of_acts (execTrimStep_acts ..)
  | .thermalUpdateRuns _ _ _ _ => moves_of_acts (execThermalUpdateRuns_acts ..)
  | .trefTrack => moves_of_acts (execTrefTrack_acts ..)
  | .cooled => moves_of_acts (execCooled_acts ..)
  | .operatingTimeTick => moves_of_acts (execOperatingTimeTick_acts ..)
  | .waveformStart _ => moves_of_acts (execWaveformStart_acts ..)
  | .waveformPhaseEnd => moves_of_acts (execWaveformPhaseEnd_acts ..)
  | .waveformEnd => moves_of_acts (execWaveformEnd_acts ..)
  | .annCommit _ _ => moves_of_acts (execAnnCommit_acts ..)
  | .vlcdTimeout _ => moves_of_acts (execVlcdTimeout_acts ..)
  | .registerRead _ _ => moves_of_acts (execRegisterRead_acts ..)
  | .refinReturn => moves_of_acts (execRefinReturn_acts ..)
  | .hidleFall => moves_of_acts (execHidleFall_acts ..)
  | .halfCycleResolved _ => moves_of_acts (execHalfCycleResolved_acts ..)
  | .transmitTimeResolved _ => moves_of_acts (execTransmitTimeResolved_acts ..)
  | .twinLaneUp _ => moves_of_acts (execTwinLaneUp_acts ..)

/-- R74: a command after which a device is no longer SAFE is a device reset, and the device is in BOOT. -/
theorem Transits.leavesSafe {c : Instr} {s t : State} (h : Transits c s t) (safe : s.dev.st = .safe) (left : t.dev.st ≠ .safe) :
    t.dev.st = .boot ∧ isReset c = true := by
  have stuck {p : Prop} (k : Moves s t) : p := absurd (k.pours.1 safe) left
  unfold Transits at h
  split at h
  case h_1 | h_2 => exact ⟨h, rfl⟩
  case h_3 | h_4 | h_5 => exact ⟨h.resolve_right fun same => left (same.trans safe), rfl⟩
  case h_6 | h_7 =>
    obtain moves | ⟨other, -⟩ := h
    · exact stuck moves
    · cases safe.symm.trans other
  case h_8 => exact absurd (h.1 safe) left
  case h_9 => exact stuck h

/-- Settles O8. An idle cycle keeps the device state, so a command has run, and only a device reset leaves SAFE (`Transits.leavesSafe`). -/
theorem safeIsLeftOnlyThroughADeviceReset : Obligations.SafeIsLeftOnlyThroughADeviceReset := by
  unfold Obligations.SafeIsLeftOnlyThroughADeviceReset
  refine ⟨fun s t safe hstep left => ?step, fun p s _ ordered => execOrderedReset_boot ordered p⟩
  case step =>
    unfold step at hstep
    split at hstep
    case h_1 =>
      cases hstep
      exact absurd ((s.tick_acts.keepsSt rfl).trans safe) left
    case h_2 c r waiting =>
      obtain ⟨u, hu, transits⟩ := exec_transits c { s with pending := r }
      cases hstep.symm.trans hu
      obtain ⟨boot, reset⟩ := transits.leavesSafe safe left
      exact ⟨boot, c, r, waiting, reset⟩

end Sys2Proof.Machine

/-! Orders up to the duplicate test (R83, R84): which of the three first outcomes an order meets, and what each leaves. -/
namespace Sys2Proof.Machine

theorem malformed_iff (o : OrderIn) : malformed o = true ↔ o.format ≠ 1 ∨ o.crcOk = false ∨ 2 < o.target := by
  simp [malformed, or_assoc]

theorem malformed_eq_false {o : OrderIn} (hformat : o.format = 1) (hcrc : o.crcOk = true) (htarget : o.target ≤ 2) : malformed o = false := by
  simp [malformed, hformat, hcrc, htarget]

theorem State.respond_frame (s : State) (o : OrderIn) (k r : Nat) : Frame [.ord] s (s.respond o k r) :=
  (State.respond_acts s o k r).toFrame (by intro p; cases p <;> decide)

theorem State.unknownOrder_frame (s : State) (o : OrderIn) (k : Nat) : Frame [.ord] s (s.unknownOrder o k) := s.respond_frame o k _

theorem State.dropDuplicate_frame (s : State) (o : OrderIn) : Frame [.regs] s (s.dropDuplicate o) :=
  (State.dropDuplicate_acts s o).toFrame (by intro p; cases p <;> decide)

section
variable {s : State} {o : OrderIn} {k : Nat} {b : Bool} {late : List (Nat × Bool)} {effect : State → State}

theorem State.dropDuplicate_of_none (hbox : Machine.boxOf o.transport = none) : s.dropDuplicate o = s := by
  simp [State.dropDuplicate, hbox]

theorem State.dropDuplicate_of_some {n : Nat} (hbox : Machine.boxOf o.transport = some n) : s.dropDuplicate o = s.boxAnswer n 0xFF := by
  simp [State.dropDuplicate, hbox]

theorem State.evalOrder_malformed (hform : malformed o = true) : s.evalOrder o k b late effect = s.respond o k 0x01 := by
  simp [State.evalOrder, hform]

theorem State.evalOrder_unauthorised (hform : malformed o = false) (hauth : s.authorised o k = false) :
    s.evalOrder o k b late effect = s.respond o k 0x03 := by
  simp [State.evalOrder, hform, hauth]

theorem State.evalOrder_duplicate (hform : malformed o = false) (hauth : s.authorised o k = true) (hdup : s.duplicate o = true) :
    s.evalOrder o k b late effect = s.dropDuplicate o := by
  simp [State.evalOrder, hform, hauth, hdup]

/-- R82: a device that runs cycles evaluates an order at once that is not of a later cycle. -/
theorem State.takeOrder_due {run : State} (left : s.dev.st ≠ .boot) (cycling : s.dev.cycling = true) (due : s.epochOf o.stamp ≤ s.dev.stateEp) :
    s.takeOrder o k run = run := by
  simp [State.takeOrder, left, cycling, Nat.not_lt.mpr due]

/-- R83, R86: every row of the order table takes its order through the same checks; the later checks and the effect are its own. -/
theorem exec_orderRow {c : Instr} (hrow : orderRow c = some (o, k, b)) (s : State) :
    ∃ late effect, exec c s = .next (s.takeOrder o k (s.evalOrder o k b late effect)) := by
  unfold orderRow at hrow
  split at hrow <;> cases hrow
  · exact ⟨_, _, by rw [exec_engage, execEngage, State.engageOrder]⟩
  · exact ⟨_, _, by rw [exec_disengage, execDisengage, State.disengageOrder]⟩
  · exact ⟨_, _, by rw [exec_transfer, execTransfer, State.transferOrder]⟩
  · exact ⟨_, _, by rw [exec_setMode, execSetMode, State.setModeOrder]⟩
  · exact ⟨_, _, by rw [exec_setPoint, execSetPoint, State.setPointOrder]⟩
  · exact ⟨_, _, by rw [exec_setTrack, execSetTrack, State.setTrackOrder]⟩
  · exact ⟨_, _, by rw [exec_setFollowRef, execSetFollowRef, State.setFollowRefOrder]⟩
  · exact ⟨_, _, by rw [exec_joystick, execJoystick, State.joystickOrder]⟩
  · exact ⟨_, _, by rw [exec_takeCommand, execTakeCommand, State.takeCommandOrder]⟩
  · exact ⟨_, _, by rw [exec_thrusterAvail, execThrusterAvail, State.thrusterAvailOrder]⟩
  · exact ⟨_, _, by rw [exec_sensorReturn, execSensorReturn, State.sensorReturnOrder]⟩
  · exact ⟨_, _, by rw [exec_tunable, execTunable, State.tunableOrder]⟩
  · exact ⟨_, _, by rw [exec_testStartBrake, execTestStartBrake, State.testStartBrakeOrder]⟩
  · exact ⟨_, _, by rw [exec_testStartInjection, execTestStartInjection, State.testStartInjectionOrder]⟩
  · exact ⟨_, _, by rw [exec_testStop, execTestStop, State.testStopOrder]⟩
  · exact ⟨_, _, by rw [exec_park, execPark, State.parkOrder]⟩
  · exact ⟨_, _, by rw [exec_unpark, execUnpark, State.unparkOrder]⟩
  · exact ⟨_, _, by rw [exec_safe, execSafe, State.safeOrder]⟩
  · exact ⟨_, _, by rw [exec_reset, execReset, State.resetOrder]⟩
  · exact ⟨_, _, by rw [exec_alarmAck, execAlarmAck, State.alarmAckOrder]⟩

theorem exec_orderRow_due {c : Instr} (hrow : orderRow c = some (o, k, b)) (left : s.dev.st ≠ .boot) (cycling : s.dev.cycling = true)
    (due : s.epochOf o.stamp ≤ s.dev.stateEp) : ∃ late effect, exec c s = .next (s.evalOrder o k b late effect) := by
  obtain ⟨late, effect, run⟩ := exec_orderRow hrow s
  exact ⟨late, effect, run.trans (congrArg _ (State.takeOrder_due left cycling due))⟩

/-- R82, R83: a due frame whose CODE no row has is answered once it has joined the own items. -/
theorem State.orderArrives_unknown {f : List Word} (hcode : knownCode (orderCode f) = false) (left : s.dev.st ≠ .boot)
    (cycling : s.dev.cycling = true) (due : s.epochOf o.stamp ≤ s.dev.stateEp) :
    ∃ u, Frame [.agr, .twn, .out] s u ∧ s.orderArrives o f = u.unknownOrder o (orderCode f) := by
  unfold State.orderArrives
  extract_lets u
  have joined : Frame [.agr, .twn, .out] s u := (State.ownItem_acts ..).toFrame (by intro p; cases p <;> decide)
  have dev : u.dev = s.dev := joined .dev (by decide)
  have tim : u.tim = s.tim := joined .tim (by decide)
  refine ⟨u, joined, ?_⟩
  rw [if_neg (by simp [hcode])]
  refine State.takeOrder_due ?_ ?_ ?_ <;> simp only [State.epochOf, dev, tim] <;> assumption

end

theorem State.unknownOrder_ord (s : State) (o : OrderIn) (k : Nat) : (s.unknownOrder o k).ord = { s.ord with responses := s.ord.responses ++
    [⟨o.transport, o.address, o.port, o.source, k, if o.format ≠ 1 ∨ o.crcOk = false ∨ 2 < o.target then 0x01 else 0x02, o.seq⟩] } := by
  simp only [State.unknownOrder, State.respond, malformed_iff]

/-- Settles O20. Every row evaluates its order by the same checks (`exec_orderRow`), and the duplicate test comes third in them. -/
theorem duplicateOrdersAreDiscardedUnanswered : Obligations.DuplicateOrdersAreDiscardedUnanswered := by
  unfold Obligations.DuplicateOrdersAreDiscardedUnanswered
  refine ⟨fun c o k b s hrow left cycling due => ?row, fun tr a p f n s left cycling hcode due => ?unknown⟩
  case row =>
    obtain ⟨late, effect, run⟩ := exec_orderRow_due hrow left cycling due
    refine ⟨fun hformat hcrc htarget hauth hseq => ?duplicate, fun hform => ?malformed, fun hformat hcrc htarget hauth => ?unauthorised⟩
    case duplicate =>
      have hdup : s.duplicate o = true := by simp [State.duplicate, hseq]
      rw [State.evalOrder_duplicate (malformed_eq_false hformat hcrc htarget) hauth hdup] at run
      exact ⟨_, run, s.dropDuplicate_frame o, State.dropDuplicate_of_none, fun _ => State.dropDuplicate_of_some⟩
    case malformed =>
      rw [State.evalOrder_malformed ((malformed_iff o).mpr hform)] at run
      exact ⟨_, run, s.respond_frame o k 0x01, rfl⟩
    case unauthorised =>
      rw [State.evalOrder_unauthorised (malformed_eq_false hformat hcrc htarget) hauth] at run
      exact ⟨_, run, s.respond_frame o k 0x03, rfl⟩
  case unknown =>
    obtain ⟨u, joined, arrived⟩ := State.orderArrives_unknown (o := parseOrder tr a p f n) hcode left cycling due
    have ord : u.ord = s.ord := joined .ord (by decide)
    refine ⟨u.unknownOrder (parseOrder tr a p f n) (orderCode f), ?_, ?_, ?_⟩
    · rw [exec_orderArrival, execOrderArrival, if_neg (by simp [left, cycling]), arrived]
    · rw [State.unknownOrder_ord, ord]
      rfl
    · exact (joined.mono (by decide)).trans ((u.unknownOrder_frame _ _).mono (by decide))

end Sys2Proof.Machine

/-! The interrupt controller (R417 to R424): what settling the sources leaves of them and of the targets, and where it assigns each. -/
namespace Sys2Proof.Machine

/-! Keyed lists, and the targets. -/

theorem afind_eq_none_iff {α : Type} {l : List (Nat × α)} {k : Nat} : afind l k = none ↔ ∀ e ∈ l, e.1 ≠ k := by
  induction l with
  | nil => simp [afind]
  | cons e l ih => by_cases h : e.1 = k <;> simp [afind, h, ih]

theorem afind_concat {α : Type} (l : List (Nat × α)) (i k : Nat) (v : α) :
    afind (l ++ [(i, v)]) k = (afind l k).or (if i = k then some v else none) := by
  induction l with
  | nil => rfl
  | cons e l ih => by_cases h : e.1 = k <;> simp [afind, h, ih]

theorem State.target_setTarget (s : State) (k j : Nat) (f : Target → Target) :
    (s.setTarget k f).target j = if k = j ∧ j < s.intc.targets.length then f (s.target j) else s.target j := by
  simp only [State.target, State.setTarget, setNth, List.getD_eq_getElem?_getD, List.getElem?_modify]
  by_cases hj : j < s.intc.targets.length <;> by_cases hk : k = j <;> simp [hj, hk]

theorem State.target_setTarget_other {s : State} {k j : Nat} {f : Target → Target} (h : j ≠ k) : (s.setTarget k f).target j = s.target j := by
  rw [State.target_setTarget, if_neg (fun c => h c.1.symm)]

/-- R423: a source is in service while a claim stack holds it. -/
theorem State.inService_iff {s : State} {n : Nat} : s.inService n = true ↔ ∃ j, n ∈ (s.target j).stack := by
  simp only [State.inService, List.any_eq_true, List.contains_iff_mem]
  constructor
  · rintro ⟨g, hg, hn⟩
    obtain ⟨j, hj, rfl⟩ := List.getElem_of_mem hg
    exact ⟨j, by simpa [State.target, hj] using hn⟩
  · rintro ⟨j, hn⟩
    by_cases hj : j < s.intc.targets.length
    · exact ⟨s.target j, by simp [State.target, hj], hn⟩
    · simp [State.target, hj] at hn

theorem mem_allSources {n : Nat} : n ∈ allSources ↔ n < 31 ∨ 32 ≤ n ∧ n ≤ 70 ∨ 128 ≤ n ∧ n ≤ 255 ∨ 352 ≤ n ∧ n ≤ 383 := by
  simp only [allSources, List.mem_append, List.mem_map, List.mem_range]
  constructor
  · rintro (((h | ⟨i, hi, rfl⟩) | ⟨i, hi, rfl⟩) | ⟨i, hi, rfl⟩) <;> omega
  · rintro (h | h | h | h)
    · exact .inl (.inl (.inl h))
    · exact .inl (.inl (.inr ⟨n - 32, by omega, by omega⟩))
    · exact .inl (.inr ⟨n - 128, by omega, by omega⟩)
    · exact .inr ⟨n - 352, by omega, by omega⟩

/-- R417: only sources that are not reserved are ever asserted. -/
theorem State.asserted_of_reserved (s : State) {n : Nat} (reserved : n ∉ allSources) : s.asserted n = false := by
  rw [mem_allSources] at reserved
  have level : edgeSource n = false := by
    simp only [edgeSource, Bool.or_eq_false_iff, beq_eq_false_iff_ne]
    omega
  rw [State.asserted, level, if_neg Bool.false_ne_true]
  by_cases hn : n = 31
  · subst hn
    rfl
  · simp only [State.levelAsserted, Bool.and_eq_true, decide_eq_true_eq]
    repeat rw [if_neg (by omega)]

theorem lt_of_mem_allSources : ∀ n ∈ allSources, n < 384 := fun n hn => by
  rw [mem_allSources] at hn
  omega

/-! What a settling leaves of the sources and the targets. -/

/-- From `s` to `t` nothing changes that asserts a source or keeps one from a target: registers outside INTC_SRCnCFG, captures, edge latches, claim stacks,
freezes and resets of targets. -/
structure SameSources (s t : State) : Prop where
  reg : ∀ a, a < A_INTC_SRC_CFG 0 ∨ A_INTC_SRC_CFG 384 ≤ a → t.reg a = s.reg a
  tim : t.tim = s.tim
  edge : t.intc.edge = s.intc.edge
  stack : ∀ j, (t.target j).stack = (s.target j).stack
  frozen : ∀ j, (t.target j).frozen = (s.target j).frozen
  inReset : ∀ j, (t.target j).inReset = (s.target j).inReset

namespace SameSources

theorem refl (s : State) : SameSources s s := ⟨fun _ _ => rfl, rfl, rfl, fun _ => rfl, fun _ => rfl, fun _ => rfl⟩

variable {s t u : State}

theorem trans (h : SameSources s t) (k : SameSources t u) : SameSources s u where
  reg a ha := (k.reg a ha).trans (h.reg a ha)
  tim := k.tim.trans h.tim
  edge := k.edge.trans h.edge
  stack j := (k.stack j).trans (h.stack j)
  frozen j := (k.frozen j).trans (h.frozen j)
  inReset j := (k.inReset j).trans (h.inReset j)

theorem fld (h : SameSources s t) (f : Fld) (hf : f.addr < A_INTC_SRC_CFG 0 ∨ A_INTC_SRC_CFG 384 ≤ f.addr) : t.fld f = s.fld f := by
  unfold State.fld
  rw [h.reg _ hf]

/-- R417: case by case, what a level source shows stands in registers outside INTC_SRCnCFG. -/
theorem levelAsserted (h : SameSources s t) (n : Nat) : t.levelAsserted n = s.levelAsserted n := by
  unfold State.levelAsserted State.anyBit State.flag
  rw [h.tim]
  repeat' refine ite_congr rfl (fun _ => ?_) (fun _ => ?_)
  all_goals
    simp (disch := (simp only [F_TSU_CMP_CFG_FIRED, F_TSU_CMP_CFG_IRQ, F_TSU_CAP_CFG_IRQ, F_KPR_FLW_CTRL_REJECT, F_KPR_FLW_CTRL_ERR, F_CTL_OMB_CTRL_DONE,
      F_CAN_Q1_STAT_LEVEL, bitAt, A_GLB_STATUS, A_SAF_EVENT, A_TWN_EVENT, A_TSU_EVENT, A_TSU_CMP_CFG, A_TSU_CAP_CFG, A_KPR_FLW_CTRL, A_CTL_OMB_CTRL,
      A_CTL_ALC_EVENT, A_FUS_EVENT, A_SLV_EVENT, A_LOOP_EVENT, A_GNS_EVENT, A_CAN_EVENT, A_CAN_Q1_STAT, A_SPT_EVENT, A_ETH_EVENT, A_ELK_EVENT, A_REC_EVENT,
      A_ANN_EVENT, A_HLT_EVENT, A_ACC_EVENT, A_HST_EVENT, A_INTC_EVENT, A_FCH_EVENT, A_INTC_SWPEND, A_INTC_SRC_CFG]; omega)) only [h.fld]

theorem asserted (h : SameSources s t) (n : Nat) : t.asserted n = s.asserted n := by
  simp only [State.asserted, h.levelAsserted, h.edge]

theorem inService (h : SameSources s t) (n : Nat) : t.inService n = s.inService n := by
  rw [Bool.eq_iff_iff]
  simp only [State.inService_iff, h.stack]

theorem pendingSource (h : SameSources s t) (n : Nat) : t.pendingSource n = s.pendingSource n := by
  simp only [State.pendingSource, h.asserted, h.inService]

theorem able (h : SameSources s t) (j : Nat) : t.able j = s.able j := by
  simp only [State.able, h.stack, h.frozen, h.inReset]

end SameSources

theorem State.setTarget_sameSources (s : State) (k : Nat) {f : Target → Target}
    (hf : ∀ g, (f g).stack = g.stack ∧ (f g).frozen = g.frozen ∧ (f g).inReset = g.inReset) : SameSources s (s.setTarget k f) := by
  refine ⟨fun _ _ => rfl, rfl, rfl, fun j => ?_, fun j => ?_, fun j => ?_⟩ <;> rw [State.target_setTarget] <;> split <;> simp [hf]

/-- R422: a line that is brought up to date leaves the sources and where they are assigned. -/
theorem State.updateLine_sameSources (s : State) (k : Nat) :
    SameSources s (s.updateLine k) ∧ (s.updateLine k).intc.assigned = s.intc.assigned := by
  unfold State.updateLine
  extract_lets g
  split_ifs
  · exact ⟨.refl s, rfl⟩
  · exact ⟨s.setTarget_sameSources k fun _ => ⟨rfl, rfl, rfl⟩, rfl⟩
  · exact ⟨.refl s, rfl⟩
  · exact ⟨s.setTarget_sameSources k fun _ => ⟨rfl, rfl, rfl⟩, rfl⟩

theorem State.updateLines_sameSources (s : State) : SameSources s s.updateLines ∧ s.updateLines.intc.assigned = s.intc.assigned := by
  refine List.foldlRecOn (motive := fun u => SameSources s u ∧ u.intc.assigned = s.intc.assigned) _ _ ⟨.refl s, rfl⟩ ?_
  intro u ⟨same, kept⟩ k _
  obtain ⟨same', kept'⟩ := u.updateLine_sameSources k
  exact ⟨same.trans same', kept'.trans kept⟩

/-! The rule of assignment (R421). -/

/-- R421: the target that the rule of assignment finds for source `n`. -/
def State.assignmentOf (s : State) (n : Nat) : Option Nat :=
  if s.pendingSource n then
    (targetOrder (s.fld (F_INTC_SRC_CFG_TARGET n))).find? (fun u => tbit (s.fld (F_INTC_SRC_CFG_EN n)) u && s.able u)
  else none

/-- R421: source `n` is assigned to target `k`. -/
def State.assignTo (s : State) (n k : Nat) : State :=
  { s with intc := { s.intc with assigned := s.intc.assigned ++ [(n, k)] } }.setFld (F_INTC_SRC_CFG_TARGET n) k

/-- R421: a source that is not assigned yet goes to the target that the rule finds; else nothing happens. -/
theorem State.assignSource_cases (s : State) (n : Nat) :
    (s.assignSource n = s ∧ (afind s.intc.assigned n).or (s.assignmentOf n) = afind s.intc.assigned n) ∨
    ∃ k, afind s.intc.assigned n = none ∧ s.assignmentOf n = some k ∧ s.assignSource n = s.assignTo n k := by
  unfold State.assignSource State.assignmentOf
  cases assigned : afind s.intc.assigned n with
  | some k => exact .inl ⟨by simp, rfl⟩
  | none =>
    by_cases pending : s.pendingSource n = true
    · simp only [pending, if_true, Option.isNone_none, Bool.and_self, Option.none_or]
      split
      case h_1 k found => exact .inr ⟨k, trivial, found, rfl⟩
      case h_2 found => exact .inl ⟨rfl, found⟩
    · exact .inl ⟨by simp [pending], by simp [pending]⟩

section
variable {s : State}

/-- An assignment writes INTC_SRCnCFG of its own source only. -/
theorem State.assignTo_reg (h : s.Sound) (n k : Nat) {a : Nat} (ha : a ≠ A_INTC_SRC_CFG n) : (s.assignTo n k).reg a = s.reg a := by
  have sound : ({ s with intc := { s.intc with assigned := s.intc.assigned ++ [(n, k)] } } : State).Sound :=
    (Acts.upd_intc (m := 2048) (.refl s) rfl).sound h
  exact reg_setFld sound (F_INTC_SRC_CFG_TARGET n) k a ha

theorem State.assignTo_sameSources (h : s.Sound) {n : Nat} (hn : n < 384) (k : Nat) : SameSources s (s.assignTo n k) where
  reg a ha := State.assignTo_reg h n k (by simp only [A_INTC_SRC_CFG] at ha ⊢; omega)
  tim := rfl
  edge := rfl
  stack _ := rfl
  frozen _ := rfl
  inReset _ := rfl

theorem State.assignSource_sameSources (h : s.Sound) {n : Nat} (hn : n < 384) : SameSources s (s.assignSource n) := by
  obtain ⟨idle, _⟩ | ⟨k, _, _, assigned⟩ := s.assignSource_cases n
  · rw [idle]
    exact .refl s
  · rw [assigned]
    exact State.assignTo_sameSources h hn k

theorem State.assignSource_reg (h : s.Sound) {m n : Nat} (hmn : m ≠ n) :
    (s.assignSource m).reg (A_INTC_SRC_CFG n) = s.reg (A_INTC_SRC_CFG n) := by
  obtain ⟨idle, _⟩ | ⟨k, _, _, assigned⟩ := s.assignSource_cases m
  · rw [idle]
  · rw [assigned]
    exact State.assignTo_reg h m k (by simp only [A_INTC_SRC_CFG]; omega)

theorem State.assignSource_assignmentOf (h : s.Sound) {m n : Nat} (hm : m < 384) (hmn : m ≠ n) :
    (s.assignSource m).assignmentOf n = s.assignmentOf n := by
  have same := State.assignSource_sameSources h hm
  have own := State.assignSource_reg h hmn
  simp only [State.assignmentOf, same.pendingSource, same.able, State.fld, F_INTC_SRC_CFG_TARGET, F_INTC_SRC_CFG_EN, own]

theorem State.assignSource_assigned (s : State) (m n : Nat) : afind (s.assignSource m).intc.assigned n =
    if m = n then (afind s.intc.assigned n).or (s.assignmentOf n) else afind s.intc.assigned n := by
  obtain ⟨idle, kept⟩ | ⟨k, free, found, assigned⟩ := s.assignSource_cases m
  · rw [idle]
    split
    case isTrue hmn => exact hmn ▸ kept.symm
    case isFalse => rfl
  · have added : (s.assignSource m).intc.assigned = s.intc.assigned ++ [(m, k)] := by rw [assigned]; rfl
    rw [added, afind_concat]
    split
    case isTrue hmn => rw [← hmn, found]
    case isFalse => exact Option.or_none

/-- R421: a source in `l` goes where the rule says before the first of `l` is assigned, since the others' assignments leave the rule for it. -/
theorem State.each_assignSource_assigned (n : Nat) {l : List Nat} (hl : ∀ m ∈ l, m < 384) (h : s.Sound) :
    afind (s.each l State.assignSource).intc.assigned n =
      if n ∈ l then (afind s.intc.assigned n).or (s.assignmentOf n) else afind s.intc.assigned n := by
  induction l generalizing s with
  | nil => rfl
  | cons m l ih =>
    obtain ⟨hm, hl⟩ := List.forall_mem_cons.mp hl
    have step := ih hl ((State.assignSource_acts s m).sound h)
    rw [State.assignSource_assigned] at step
    refine Eq.trans step ?_
    by_cases hmn : m = n
    · subst hmn
      obtain ⟨idle, kept⟩ | ⟨k, free, found, _⟩ := s.assignSource_cases m
      · simp [idle, kept]
      · simp [free, found]
    · simp [hmn, Ne.symm hmn, State.assignSource_assignmentOf h hm hmn]

theorem State.each_assignSource_sameSources {l : List Nat} (hl : ∀ m ∈ l, m < 384) (h : s.Sound) :
    SameSources s (s.each l State.assignSource) := by
  refine (List.foldlRecOn (motive := fun u => u.Sound ∧ SameSources s u) _ _ ⟨h, .refl s⟩ ?_).2
  intro u ⟨sound, same⟩ m hm
  exact ⟨(State.assignSource_acts u m).sound sound, same.trans (State.assignSource_sameSources sound (hl m hm))⟩

/-! Settling the sources. -/

/-- R421: the assignments end of sources that are no longer pending, and of targets in reset or frozen. -/
def State.endAssignments (s : State) : State :=
  { s with intc := { s.intc with assigned := s.intc.assigned.filter (fun e =>
    s.pendingSource e.1 && !(s.target e.2).inReset && !(s.target e.2).frozen) } }

theorem State.settleSources_eq (s : State) : s.settleSources = (s.endAssignments.each allSources State.assignSource).updateLines := rfl

theorem State.endAssignments_sound (h : s.Sound) : s.endAssignments.Sound := (Acts.upd_intc (m := 2048) (.refl s) rfl).sound h

theorem State.endAssignments_sameSources (s : State) : SameSources s s.endAssignments :=
  ⟨fun _ _ => rfl, rfl, rfl, fun _ => rfl, fun _ => rfl, fun _ => rfl⟩

theorem State.endAssignments_assigned {n : Nat} (free : afind s.intc.assigned n = none) : afind s.endAssignments.intc.assigned n = none :=
  afind_eq_none_iff.mpr fun e he => afind_eq_none_iff.mp free e (List.mem_filter.mp he).1

theorem State.endAssignments_assignmentOf (s : State) (n : Nat) : s.endAssignments.assignmentOf n = s.assignmentOf n := by
  have same := s.endAssignments_sameSources
  have fields (f : Fld) : s.endAssignments.fld f = s.fld f := rfl
  simp only [State.assignmentOf, same.pendingSource, same.able, fields]

theorem State.assignmentOf_of_not_pending {n : Nat} (h : s.pendingSource n = false) : s.assignmentOf n = none := by
  simp [State.assignmentOf, h]

theorem State.settleSources_sameSources (h : s.Sound) : SameSources s s.settleSources := by
  rw [State.settleSources_eq]
  have assigned := State.each_assignSource_sameSources lt_of_mem_allSources (State.endAssignments_sound h)
  exact (s.endAssignments_sameSources.trans assigned).trans (State.updateLines_sameSources _).1

/-- R421: settling the sources assigns one that was not assigned to the target that the rule finds for it. -/
theorem State.settleSources_assigned (h : s.Sound) {n : Nat} (free : afind s.intc.assigned n = none) :
    afind s.settleSources.intc.assigned n = s.assignmentOf n := by
  rw [State.settleSources_eq, (State.updateLines_sameSources _).2,
    State.each_assignSource_assigned n lt_of_mem_allSources (State.endAssignments_sound h), State.endAssignments_assigned free,
    s.endAssignments_assignmentOf, Option.none_or]
  split
  case isTrue => rfl
  case isFalse reserved =>
    have quiet : s.pendingSource n = false := by simp [State.pendingSource, s.asserted_of_reserved reserved]
    exact (State.assignmentOf_of_not_pending quiet).symm

end

/-! The completion of the top entry (R424). -/

/-- R3, R468: an allowed write of a command has its effect and completes without an error. -/
theorem State.commandWrite_of_mayAccess {s : State} {m a : Nat} (h : s.MayAccess m a true) (v : Word) (f : State → State) :
    s.commandWrite m a v f = (f s).complete m true a accOk v := by
  obtain ⟨aligned, r, region, allowed⟩ := h
  simp [State.commandWrite, State.accessWith, aligned, region, allowed]

theorem State.complete_sameSources (s : State) (m : Nat) (w : Bool) (a status : Nat) (v : Word) : SameSources s (s.complete m w a status v) :=
  ⟨fun _ _ => rfl, rfl, rfl, fun _ => rfl, fun _ => rfl, fun _ => rfl⟩

theorem State.complete_assigned (s : State) (m : Nat) (w : Bool) (a status : Nat) (v : Word) :
    (s.complete m w a status v).intc.assigned = s.intc.assigned := rfl

/-- R424: the top entry leaves the stack of target `k`. -/
def State.popStack (s : State) (k : Nat) : State := s.setTarget k (fun g => { g with stack := g.stack.dropLast })

theorem State.completeWrite_top {s : State} {k n : Nat} (thawed : (s.target k).frozen = false) (top : (s.target k).stack.getLast? = some n) :
    s.completeWrite k n = (s.popStack k).settleSources := by
  simp [State.completeWrite, State.popStack, thawed, top]

theorem State.popStack_stack {s : State} {k : Nat} (hk : k < s.intc.targets.length) :
    ((s.popStack k).target k).stack = (s.target k).stack.dropLast := by
  rw [State.popStack, State.target_setTarget, if_pos ⟨rfl, hk⟩]

theorem State.popStack_stack_other {s : State} {k j : Nat} (h : j ≠ k) : ((s.popStack k).target j).stack = (s.target j).stack := by
  rw [State.popStack, State.target_setTarget_other h]

@[simp] theorem State.popStack_assigned (s : State) (k : Nat) : (s.popStack k).intc.assigned = s.intc.assigned := rfl
@[simp] theorem State.popStack_fld (s : State) (k : Nat) (f : Fld) : (s.popStack k).fld f = s.fld f := rfl
@[simp] theorem State.popStack_asserted (s : State) (k n : Nat) : (s.popStack k).asserted n = s.asserted n := rfl

/-- A source that stood on a stack once is out of service when its entry is gone. -/
theorem State.popStack_inService {s : State} {k n : Nat} (hk : k < s.intc.targets.length) (once : n ∉ (s.target k).stack.dropLast)
    (elsewhere : ∀ j, j ≠ k → n ∉ (s.target j).stack) : (s.popStack k).inService n = false := by
  refine Bool.eq_false_iff.mpr fun serving => ?_
  obtain ⟨j, hj⟩ := State.inService_iff.mp serving
  by_cases hjk : j = k
  · subst hjk
    exact once (State.popStack_stack hk ▸ hj)
  · exact elsewhere j hjk (State.popStack_stack_other hjk ▸ hj)

/-- R424: what the command does when the source that it names is on top of the stack. -/
theorem exec_complete_top {m k n : Nat} {v : Word} {s : State} (access : s.MayAccess m (A_INTC_T_COMPLETE k) true) (source : bits v 8 0 = n)
    (thawed : (s.target k).frozen = false) (top : (s.target k).stack.getLast? = some n) :
    exec (.complete m k v) s = .next ((s.popStack k).settleSources.complete m true (A_INTC_T_COMPLETE k) accOk v) := by
  rw [exec_complete, execComplete, State.commandWrite_of_mayAccess access, source, State.completeWrite_top thawed top]

/-- Settles O52. The pop takes the source out of service, so that it is pending exactly while it is asserted; the settling that follows assigns it by the
rule (`State.settleSources_assigned`) and leaves stacks and sources alone (`State.settleSources_sameSources`). -/
theorem completionPopsTheStackAndTheSourceIsAssignedAgain : Obligations.CompletionPopsTheStackAndTheSourceIsAssignedAgain := by
  unfold Obligations.CompletionPopsTheStackAndTheSourceIsAssignedAgain
  intro m k n v s sound hk targets access source thawed top once elsewhere free
  have inRange : k < s.intc.targets.length := by omega
  have popSound : (s.popStack k).Sound := (State.setTarget_acts ..).sound sound
  have idle : (s.popStack k).inService n = false := State.popStack_inService inRange once elsewhere
  have pending : (s.popStack k).pendingSource n = s.asserted n := by simp [State.pendingSource, idle]
  refine ⟨_, exec_complete_top access source thawed top, ?_⟩
  have same := (State.settleSources_sameSources popSound).trans (State.complete_sameSources _ m true (A_INTC_T_COMPLETE k) accOk v)
  have rule := (congrArg (afind · n) (State.complete_assigned _ m true (A_INTC_T_COMPLETE k) accOk v)).trans (State.settleSources_assigned popSound free)
  generalize (s.popStack k).settleSources.complete m true (A_INTC_T_COMPLETE k) accOk v = t at same rule ⊢
  refine ⟨?popped, ?others, ?served, ?asserted, ?again, ?quiet⟩
  case popped => rw [same.stack, State.popStack_stack inRange]
  case others => exact fun j hj => (same.stack j).trans (State.popStack_stack_other hj)
  case served => rw [same.inService, idle]
  case asserted => rw [same.asserted, State.popStack_asserted]
  case again =>
    intro high
    have waiting := pending.trans high
    refine ⟨(same.pendingSource n).trans waiting, rule.trans ?_⟩
    rw [State.assignmentOf, if_pos waiting]
    simp only [same.able, State.popStack_fld]
  case quiet =>
    intro low
    have unpending := pending.trans low
    exact ⟨(same.pendingSource n).trans unpending, rule.trans (State.assignmentOf_of_not_pending unpending)⟩

end Sys2Proof.Machine

/-! Refused accesses (R468, R470, R471): which accesses the fabric refuses, and what a refusal leaves at a master whose refusal shows a fault and at the
others. -/
namespace Sys2Proof.Machine

/-! What a refusal records of every master (R470). -/

/-- R470: what the refusal of any access records and counts: ACC_EVENT.VIOL, the first access refused since it was cleared, the count of refusals, and the
alarm 0x0F01 at most once per master and second. -/
def State.recordRefusal (s : State) (r m a : Nat) (write : Bool) : State :=
  let s1 := if s.flag F_ACC_EVENT_VIOL then s
    else (s.setReg A_ACC_VIOL (BitVec.ofNat 32 (m % 32 + 65536 * bit write + 1048576 * r))).setReg A_ACC_VIOL_ADDR (toWord a)
  let s2 := (s1.event F_ACC_EVENT_VIOL).bump (word32 A_ACC_VIOL_CNT)
  if s2.limited s2.acl.alarmAt m sec then
    ({ s2 with acl := { s2.acl with alarmAt := aset s2.acl.alarmAt m s2.tim.el } }).raise 0x0F01 (pay [m, r, a])
  else s2

/-- R471: what a refusal that shows a fault of firmware or hardware adds. -/
def State.showFault (s : State) (r m a : Nat) : State :=
  (({ s with twn := { s.twn with selfE := true } }).event F_ACC_EVENT_FW_VIOL).raise 0x0F02 (pay [m, r, a])

theorem State.refuse_eq (s : State) (r m a : Nat) (write : Bool) : s.refuse r m a write =
    if firmwareMaster m then (s.recordRefusal r m a write).showFault r m a else s.recordRefusal r m a write := rfl

theorem firmwareMaster_iff {m : Nat} : firmwareMaster m = true ↔ m ≤ 10 ∨ m = 15 ∨ (17 ≤ m ∧ m ≤ 19) := by
  simp [firmwareMaster, or_assoc]

/-- R35, R471: the masters whose refusal shows no fault are the application cores, HOST, ETHSVC and ELOA. -/
theorem firmwareMaster_eq_false {m : Nat} (hm : (11 ≤ m ∧ m ≤ 14) ∨ m = 16) : firmwareMaster m = false := by
  rw [Bool.eq_false_iff, Ne, firmwareMaster_iff]
  omega

theorem State.recordRefusal_twn (s : State) (r m a : Nat) (write : Bool) : (s.recordRefusal r m a write).twn = s.twn := by
  unfold State.recordRefusal
  extract_lets s1 s2
  have h2 : s2.twn = s.twn := by
    simp only [s2, s1, State.bump_twn, State.event_twn]
    split <;> rfl
  split
  · rw [State.raise_twn]
    exact h2
  · exact h2

theorem State.recordRefusal_alarm {c : Nat} (hc : c ≠ 0x0F01) (s : State) (r m a : Nat) (write : Bool) :
    (s.recordRefusal r m a write).alarm? c = s.alarm? c := by
  unfold State.recordRefusal
  extract_lets s1 s2
  have h2 : s2.alarm? c = s.alarm? c := by
    simp only [s2, s1, State.alarm?, State.bump_alarms, State.event_alarms]
    split <;> rfl
  split
  · rw [alarm_raise_other hc.symm]
    exact h2
  · exact h2

theorem State.recordRefusal_keeps (s : State) (r m a : Nat) (write : Bool) : Keeps F_ACC_EVENT_FW_VIOL s (s.recordRefusal r m a write) := by
  unfold State.recordRefusal
  extract_lets s1 s2
  have h1 : Keeps F_ACC_EVENT_FW_VIOL s s1 :=
    .ite (fun _ => .refl s) fun _ => ((Keeps.refl s).setReg (by decide)).setReg (by decide)
  have h2 : Keeps F_ACC_EVENT_FW_VIOL s s2 :=
    (h1.event rfl rfl (.inr (.inl (by decide)))).bump rfl rfl (.inl (by decide))
  refine .ite (fun _ => ?_) fun _ => h2
  have h3 : Keeps F_ACC_EVENT_FW_VIOL s { s2 with acl := { s2.acl with alarmAt := aset s2.acl.alarmAt m s2.tim.el } } :=
    h2.upd rfl fun c => ⟨c.canonical, c.alarms, c.queue, c.used, c.buffer⟩
  exact h3.raise (by decide) (by decide)

/-! Interrupt source 65 (R417). -/

theorem State.asserted_access (s : State) : s.asserted 65 = s.anyBit A_ACC_EVENT 1 := rfl

/-- ACC_EVENT has two event bits, and source 65 is a level on them. -/
theorem State.asserted_access_iff (s : State) :
    s.asserted 65 = true ↔ s.flag F_ACC_EVENT_VIOL = true ∨ s.flag F_ACC_EVENT_FW_VIOL = true := by
  simp only [State.asserted_access, State.anyBit, State.flag, State.fld, fieldOf, F_ACC_EVENT_VIOL, F_ACC_EVENT_FW_VIOL, bne_iff_ne]
  omega

/-! What a fault shows (R471). -/

/-- R417, R471: in this state a fault of firmware or hardware shows: in ACC_EVENT, in its alarm, in the self-check bits, and in interrupt source 65. -/
def State.ShowsFault (s : State) : Prop :=
  s.flag F_ACC_EVENT_FW_VIOL = true ∧ s.Alarmed 0x0F02 ∧ s.twn.selfE = true ∧ s.asserted 65 = true

theorem State.showFault_showsFault {s : State} (sound : s.Sound) (r m a : Nat) : (s.showFault r m a).ShowsFault := by
  have counted : ({ s with twn := { s.twn with selfE := true } } : State).Sound :=
    ⟨sound.canonical, sound.alarms, sound.queue, sound.used, sound.buffer⟩
  have violation : (s.showFault r m a).flag F_ACC_EVENT_FW_VIOL = true := by
    rw [State.showFault, flag_raise (counted.event _) _ _ _ (by decide) (by decide)]
    exact flag_event counted _ rfl
  have alarmed : (s.showFault r m a).Alarmed 0x0F02 := by
    rw [State.Alarmed, State.showFault, alarm_raise, if_pos rfl]
  have selfCheck : (s.showFault r m a).twn.selfE = true := by
    rw [State.showFault, State.raise_twn, State.event_twn]
  exact ⟨violation, alarmed, selfCheck, (State.asserted_access_iff _).mpr (.inr violation)⟩

theorem State.refuse_showsFault {s : State} {m : Nat} (sound : s.Sound) (hm : firmwareMaster m = true) (r a : Nat) (write : Bool) :
    (s.refuse r m a write).ShowsFault := by
  rw [State.refuse_eq, if_pos hm]
  exact State.showFault_showsFault (s.recordRefusal_keeps r m a write sound).1 r m a

/-- R471: from `s` to `t` what shows a fault stands as before. -/
def SameFault (s t : State) : Prop :=
  t.flag F_ACC_EVENT_FW_VIOL = s.flag F_ACC_EVENT_FW_VIOL ∧ t.alarm? 0x0F02 = s.alarm? 0x0F02 ∧ t.twn = s.twn

theorem State.refuse_sameFault {s : State} {m : Nat} (sound : s.Sound) (hm : firmwareMaster m = false) (r a : Nat) (write : Bool) :
    SameFault s (s.refuse r m a write) := by
  rw [State.refuse_eq, hm, if_neg Bool.false_ne_true]
  refine ⟨?_, s.recordRefusal_alarm (by decide) r m a write, s.recordRefusal_twn r m a write⟩
  rw [State.flag, (s.recordRefusal_keeps r m a write sound).2, State.flag]

/-- The completion of an access only tells the master. -/
theorem State.ShowsFault.complete {s : State} (h : s.ShowsFault) (m : Nat) (write : Bool) (a status : Nat) (v : Word) :
    (s.complete m write a status v).ShowsFault := h

theorem SameFault.complete {s t : State} (h : SameFault s t) (m : Nat) (write : Bool) (a status : Nat) (v : Word) :
    SameFault s (t.complete m write a status v) := h

/-! Which accesses the fabric refuses (R4, R461, R468). -/

section
variable {s : State} {m a r : Nat}

theorem State.accessWith_refused {write : Bool} {f : State → State × Nat × Word} (aligned : a % 4 = 0) (region : regionOf a = some r)
    (denied : s.allowed r m a write = false) : s.accessWith m a write f = (s.refuse r m a write, accRefused, 0#32) := by
  simp [State.accessWith, aligned, region, denied]

theorem State.accessWith_allowed {write : Bool} {f : State → State × Nat × Word} (aligned : a % 4 = 0) (region : regionOf a = some r)
    (permitted : s.allowed r m a write = true) : s.accessWith m a write f = f s := by
  simp [State.accessWith, aligned, region, permitted]

/-- R4, R461: the State Image window takes no writes, and a register with an RWL field none after the lock. -/
def State.ClosedToWrites (s : State) (a : Nat) : Prop :=
  (stiBase ≤ a ∧ a < stiBase + 65536) ∨ (s.locked = true ∧ ∃ q, regAt a = some q ∧ q.isRwl = true)

theorem State.writeAt_of_closed (closed : s.ClosedToWrites a) (region : regionOf a = some r) (v : Word) :
    s.writeAt m a v = (s.refuse r m a true, accRefused, 0#32) := by
  rw [State.writeAt, if_pos, region, Option.getD_some]
  obtain ⟨low, high⟩ | ⟨locked, q, found, rwl⟩ := closed
  · simp [low, high]
  · simp [locked, found, rwl]

theorem exec_registerRead_refused (hlt : a < 4294967296) (aligned : a % 4 = 0) (region : regionOf a = some r)
    (denied : s.allowed r m a false = false) :
    exec (.registerRead m a) s = .next ((s.refuse r m a false).complete m false a accRefused 0#32) := by
  rw [exec_registerRead, execRegisterRead, State.busRead, beyondFabric_of_lt hlt, if_neg Bool.false_ne_true,
    State.accessWith_refused aligned region denied]

/-- R468: whether the tables refuse a write or what stands at the address takes none, the refusal is the same. -/
theorem exec_registerWrite_refused (hlt : a < 4294967296) (aligned : a % 4 = 0) (region : regionOf a = some r)
    (denied : s.allowed r m a true = false ∨ s.ClosedToWrites a) (v : Word) :
    exec (.registerWrite m a v) s = .next ((s.refuse r m a true).complete m true a accRefused v) := by
  rw [exec_registerWrite, execRegisterWrite, State.busWrite, beyondFabric_of_lt hlt, if_neg Bool.false_ne_true]
  cases permitted : s.allowed r m a true with
  | false => rw [State.accessWith_refused aligned region permitted]
  | true =>
    have closed : s.ClosedToWrites a := denied.resolve_left (by simp [permitted])
    rw [State.accessWith_allowed aligned region permitted, State.writeAt_of_closed closed region]

end

/-- Settles O54. Every refusal goes through `State.refuse`, whose last step alone distinguishes the masters. -/
theorem aRefusalOfAFirmwareMasterShowsAFault : Obligations.ARefusalOfAFirmwareMasterShowsAFault := by
  unfold Obligations.ARefusalOfAFirmwareMasterShowsAFault
  refine ⟨?read, ?write, ?others, State.asserted_access_iff⟩
  case read =>
    intro m a r s sound hm hlt aligned region denied
    exact ⟨_, exec_registerRead_refused hlt aligned region denied,
      (State.refuse_showsFault sound (firmwareMaster_iff.mpr hm) r a false).complete ..⟩
  case write =>
    intro m a r v s sound hm hlt aligned region denied
    exact ⟨_, exec_registerWrite_refused hlt aligned region denied v,
      (State.refuse_showsFault sound (firmwareMaster_iff.mpr hm) r a true).complete ..⟩
  case others =>
    intro m a r v s sound hm hlt aligned region
    have other := firmwareMaster_eq_false hm
    constructor
    · intro denied
      exact ⟨_, exec_registerRead_refused hlt aligned region denied, (State.refuse_sameFault sound other r a false).complete ..⟩
    · intro denied
      exact ⟨_, exec_registerWrite_refused hlt aligned region (.inl denied) v, (State.refuse_sameFault sound other r a true).complete ..⟩

end Sys2Proof.Machine

/-! What every command keeps: soundness, its identity and the queue, and, unless it is one of the commands listed for it, the Pattern flash, the operating
time, the recorder's counters, the mode with its period, the state epoch, the interrupt controller and the safety die. -/
namespace Sys2Proof.Machine
set_option Elab.async false

/-- R417 to R426: what can change the interrupt controller: its own commands, what settles the sources, a reset, and the start of the application cores. -/
def touchesIntc : Instr → Bool
  | .app0Rst _ | .app1Rst _ | .slotStreamEnd _ | .pour _ | .compareFire _ | .compareEnable .. | .serviceRead _ | .serviceWrite _ | .interruptAssert _
  | .claim .. | .complete .. | .unfreeze .. | .moderationInterval _ | .targetIdle _ | .doorbellSet .. | .machineTimer _ | .hostRead .. | .hostQuadRead ..
  | .hostWrite .. | .hostQuadWrite .. | .hostWritePerform | .flashErase _ | .flashProgram _ | .flashRead _ | .flashCommandDone _ | .elkPacket ..
  | .elkUdpDatagram .. | .windowRead .. | .registerWrite .. | .registerRead .. => true
  | c => isReset c

/-- R308 to R336: what can change the state of the safety die: its inputs, its data and its tests, what drives the brakes, the verdict, the lease, the Ladle and
the outputs, the test orders, a failed part, the start, and a reset. -/
def touchesSaf : Instr → Bool
  | .testStartBrake _ | .testStop _ | .thrusterAvail _ | .clockMonitorWindow _ | .lockstepMismatch _ | .railFault _ | .eccError .. | .vfldLow | .renewSend
  | .renew .. | .ack .. | .leaseExpiry | .releaseFrame .. | .closeTick | .agreeDecide | .agreeCheck | .verdictFormation _ | .bootStart _ | .slotStreamEnd _
  | .cycleFreeze _ | .switchTest _ | .switchTestStep .. | .brakeOvercurrent _ | .brakeDegradedExpiry _ | .brakeTestPhaseEnd | .brakeTestMotion _
  | .brakeTestDue _ | .safeInputChange .. | .discrepancyExpiry _ | .testPulse .. | .safeFrame .. | .dualWaitExpiry _ | .safeConnectionTimeout _ | .sDieFault
  | .extest | .stepDeadline _ | .arbitration | .pour _ => true
  | c => isReset c

/-- The frame `m` (a mask of `Acts`) does not hold what `c` may not change: no command changes the fuses or the queue, and each of the other seven parts is
left to the commands listed for it. -/
def confines (c : Instr) (m : Nat) : Bool :=
  !m.testBit Part.serial.idx && !m.testBit Part.devKey.idx && !m.testBit Part.pending.idx &&
  (touchesFlash c || !m.testBit Part.flash.idx) &&
  (touchesOpTime c || !m.testBit Part.opTime.idx) &&
  (touchesRecNext c || !m.testBit Part.recNext.idx) &&
  (touchesMode c || !m.testBit Part.devMode.idx) &&
  (touchesEpoch c || !m.testBit Part.devEpoch.idx) &&
  (touchesIntc c || !m.testBit Part.intc.idx) &&
  (touchesSaf c || !m.testBit Part.saf.idx)

/-- The command completes within a frame that holds nothing that it may not change. -/
def Confined (c : Instr) (s : State) (o : Host.Outcome State Fault Refusal) : Prop := ∃ m t, o = .next t ∧ Acts m s t ∧ confines c m = true

theorem Confined.of_acts {c : Instr} {m : Nat} {s : State} {o : Host.Outcome State Fault Refusal} (h : ∃ t, o = .next t ∧ Acts m s t)
    (hm : confines c m = true := by rfl) : Confined c s o := by
  obtain ⟨t, ho, acts⟩ := h
  exact ⟨m, t, ho, acts, hm⟩

/-- The frame of every command's meaning, read off its `_acts` lemma. -/
theorem exec_confined (c : Instr) (s : State) : Confined c s (exec c s) := by
  cases c with
  | powerOnReset straps => exact .of_acts (execPowerOnReset_acts straps s)
  | vinFall => exact .of_acts (execVinFall_acts s)
  | nrst widthNs straps => exact .of_acts (execNrst_acts widthNs straps s)
  | keeperWatchdog straps => exact .of_acts (execKeeperWatchdog_acts straps s)
  | orderedReset straps => exact .of_acts (execOrderedReset_acts straps s)
  | app0Rst master => exact .of_acts (execApp0Rst_acts master s)
  | app1Rst master => exact .of_acts (execApp1Rst_acts master s)
  | pwrgoodRise => exact .of_acts (execPwrgoodRise_acts s)
  | refinPresent => exact .of_acts (execRefinPresent_acts s)
  | refinMissing => exact .of_acts (execRefinMissing_acts s)
  | pllUnlock => exact .of_acts (execPllUnlock_acts s)
  | clockMonitorWindow count => exact .of_acts (execClockMonitorWindow_acts count s)
  | vfldPresent => exact .of_acts (execVfldPresent_acts s)
  | vfldLow => exact .of_acts (execVfldLow_acts s)
  | bootStart tests => exact .of_acts (execBootStart_acts tests s)
  | slotStreamEnd tests => exact .of_acts (execSlotStreamEnd_acts tests s)
  | bootTimeout => exact .of_acts (execBootTimeout_acts s)
  | twinWaitEnd => exact .of_acts (execTwinWaitEnd_acts s)
  | cycleFreeze latch => exact .of_acts (execCycleFreeze_acts latch s)
  | measurementBlockWrite stamp => exact .of_acts (execMeasurementBlockWrite_acts stamp s)
  | fieldItemSend => exact .of_acts (execFieldItemSend_acts s)
  | closeTick => exact .of_acts (execCloseTick_acts s)
  | agreeDecide => exact .of_acts (execAgreeDecide_acts s)
  | agreeCheck => exact .of_acts (execAgreeCheck_acts s)
  | fusionStep nav => exact .of_acts (execFusionStep_acts nav s)
  | slotTimeout slot => exact .of_acts (execSlotTimeout_acts slot s)
  | gatePersistExpiry slot => exact .of_acts (execGatePersistExpiry_acts slot s)
  | conflictPersistExpiry quantity => exact .of_acts (execConflictPersistExpiry_acts quantity s)
  | probationEnd slot => exact .of_acts (execProbationEnd_acts slot s)
  | drValidExpiry heading => exact .of_acts (execDrValidExpiry_acts heading s)
  | drLimitExpiry heading => exact .of_acts (execDrLimitExpiry_acts heading s)
  | controlStepRuns => exact .of_acts (execControlStepRuns_acts s)
  | followingErrorExpiry heading => exact .of_acts (execFollowingErrorExpiry_acts heading s)
  | modelPlausibilityExpiry axis => exact .of_acts (execModelPlausibilityExpiry_acts axis s)
  | followRefLoss => exact .of_acts (execFollowRefLoss_acts s)
  | joystickTimeout => exact .of_acts (execJoystickTimeout_acts s)
  | windFeedforwardRamp => exact .of_acts (execWindFeedforwardRamp_acts s)
  | injectionEnd => exact .of_acts (execInjectionEnd_acts s)
  | allocationStepRuns => exact .of_acts (execAllocationStepRuns_acts s)
  | scenarioStale scenario => exact .of_acts (execScenarioStale_acts scenario s)
  | shapeHoldExpiry scenario => exact .of_acts (execShapeHoldExpiry_acts scenario s)
  | azimuthSwing thruster => exact .of_acts (execAzimuthSwing_acts thruster s)
  | outputComparison => exact .of_acts (execOutputComparison_acts s)
  | verdictFormation delivered => exact .of_acts (execVerdictFormation_acts delivered s)
  | arbitration => exact .of_acts (execArbitration_acts s)
  | stepDeadline stepNo => exact .of_acts (execStepDeadline_acts stepNo s)
  | pour katPass => exact .of_acts (execPour_acts katPass s)
  | orderArrival transport address port frame stamp => exact .of_acts (execOrderArrival_acts transport address port frame stamp s)
  | engage order => exact .of_acts (execEngage_acts order s)
  | disengage order => exact .of_acts (execDisengage_acts order s)
  | transfer order => exact .of_acts (execTransfer_acts order s)
  | setMode order => exact .of_acts (execSetMode_acts order s)
  | setPoint order => exact .of_acts (execSetPoint_acts order s)
  | setTrack order => exact .of_acts (execSetTrack_acts order s)
  | setFollowRef order => exact .of_acts (execSetFollowRef_acts order s)
  | joystick order => exact .of_acts (execJoystick_acts order s)
  | takeCommand order => exact .of_acts (execTakeCommand_acts order s)
  | thrusterAvail order => exact .of_acts (execThrusterAvail_acts order s)
  | sensorReturn order => exact .of_acts (execSensorReturn_acts order s)
  | tunable order => exact .of_acts (execTunable_acts order s)
  | testStartBrake order => exact .of_acts (execTestStartBrake_acts order s)
  | testStartInjection order => exact .of_acts (execTestStartInjection_acts order s)
  | testStop order => exact .of_acts (execTestStop_acts order s)
  | park order => exact .of_acts (execPark_acts order s)
  | unpark order => exact .of_acts (execUnpark_acts order s)
  | safe order => exact .of_acts (execSafe_acts order s)
  | reset order => exact .of_acts (execReset_acts order s)
  | alarmAck order => exact .of_acts (execAlarmAck_acts order s)
  | orderMailboxSubmit master box => exact .of_acts (execOrderMailboxSubmit_acts master box s)
  | slvSubmit master value placed => exact .of_acts (execSlvSubmit_acts master value placed s)
  | slvFill master value placed => exact .of_acts (execSlvFill_acts master value placed s)
  | submissionProcess => exact .of_acts (execSubmissionProcess_acts s)
  | fillApply => exact .of_acts (execFillApply_acts s)
  | problemStart => exact .of_acts (execProblemStart_acts s)
  | problemEnds tag cycles => exact .of_acts (execProblemEnds_acts tag cycles s)
  | problemDeadline tag => exact .of_acts (execProblemDeadline_acts tag s)
  | laneFault lane => exact .of_acts (execLaneFault_acts lane s)
  | laneEccCorrected lane => exact .of_acts (execLaneEccCorrected_acts lane s)
  | twinLaneLost lane => exact .of_acts (execTwinLaneLost_acts lane s)
  | twinLaneRetry lane => exact .of_acts (execTwinLaneRetry_acts lane s)
  | twinLinkDown => exact .of_acts (execTwinLinkDown_acts s)
  | twinRetransmit vc firstSeq => exact .of_acts (execTwinRetransmit_acts vc firstSeq s)
  | twinNak vc firstSeq => exact .of_acts (execTwinNak_acts vc firstSeq s)
  | helloSend nonce => exact .of_acts (execHelloSend_acts nonce s)
  | helloFrame header frame => exact .of_acts (execHelloFrame_acts header frame s)
  | authFrame header sig verified => exact .of_acts (execAuthFrame_acts header sig verified s)
  | startFrame header firstFreeze epoch => exact .of_acts (execStartFrame_acts header firstFreeze epoch s)
  | itemFrame header entry index count => exact .of_acts (execItemFrame_acts header entry index count s)
  | closeFrame header epoch count digest => exact .of_acts (execCloseFrame_acts header epoch count digest s)
  | agreeFrame header epoch cope drag digest => exact .of_acts (execAgreeFrame_acts header epoch cope drag digest s)
  | compareFrame header frame => exact .of_acts (execCompareFrame_acts header frame s)
  | verdictFrame header frame => exact .of_acts (execVerdictFrame_acts header frame s)
  | renewSend => exact .of_acts (execRenewSend_acts s)
  | renew path epoch side sendT arrival => exact .of_acts (execRenew_acts path epoch side sendT arrival s)
  | ack path arrival => exact .of_acts (execAck_acts path arrival s)
  | leaseExpiry => exact .of_acts (execLeaseExpiry_acts s)
  | silentLossTimeout => exact .of_acts (execSilentLossTimeout_acts s)
  | releaseFrame header epoch => exact .of_acts (execReleaseFrame_acts header epoch s)
  | syncReqFrame header => exact .of_acts (execSyncReqFrame_acts header s)
  | stateFrame header chunk => exact .of_acts (execStateFrame_acts header chunk s)
  | syncEndFrame header epoch crcOk => exact .of_acts (execSyncEndFrame_acts header epoch crcOk s)
  | syncEndTimeout => exact .of_acts (execSyncEndTimeout_acts s)
  | timeMarkerSend => exact .of_acts (execTimeMarkerSend_acts s)
  | timeMarker marker => exact .of_acts (execTimeMarker_acts marker s)
  | twinOffsetAlarm => exact .of_acts (execTwinOffsetAlarm_acts s)
  | switchTest channel => exact .of_acts (execSwitchTest_acts channel s)
  | switchTestStep channel hsPct lsPct => exact .of_acts (execSwitchTestStep_acts channel hsPct lsPct s)
  | brakeOvercurrent channel => exact .of_acts (execBrakeOvercurrent_acts channel s)
  | brakeDegradedExpiry channel => exact .of_acts (execBrakeDegradedExpiry_acts channel s)
  | brakeTestPhaseEnd => exact .of_acts (execBrakeTestPhaseEnd_acts s)
  | brakeTestMotion counts => exact .of_acts (execBrakeTestMotion_acts counts s)
  | brakeTestDue channel => exact .of_acts (execBrakeTestDue_acts channel s)
  | testPulse output faulty => exact .of_acts (execTestPulse_acts output faulty s)
  | safeInputChange pair contactB closed stamp => exact .of_acts (execSafeInputChange_acts pair contactB closed stamp s)
  | discrepancyExpiry pair => exact .of_acts (execDiscrepancyExpiry_acts pair s)
  | safeFrame lanB bytes stamp => exact .of_acts (execSafeFrame_acts lanB bytes stamp s)
  | dualWaitExpiry conn => exact .of_acts (execDualWaitExpiry_acts conn s)
  | safeConnectionTimeout conn => exact .of_acts (execSafeConnectionTimeout_acts conn s)
  | sDieFault => exact .of_acts (execSDieFault_acts s)
  | extest => exact .of_acts (execExtest_acts s)
  | tsuExtUpdate => exact .of_acts (execTsuExtUpdate_acts s)
  | ptpSyncArrives domain port twoStep seq ingress origin => exact .of_acts (execPtpSyncArrives_acts domain port twoStep seq ingress origin s)
  | ptpFollowUp domain port seq origin => exact .of_acts (execPtpFollowUp_acts domain port seq origin s)
  | ptpDelayRespArrives domain port time ingress => exact .of_acts (execPtpDelayRespArrives_acts domain port time ingress s)
  | ptpAnnounce msg => exact .of_acts (execPtpAnnounce_acts msg s)
  | ptpMessageSend domain port kind => exact .of_acts (execPtpMessageSend_acts domain port kind s)
  | timeSourceLost source => exact .of_acts (execTimeSourceLost_acts source s)
  | sourceQualified source => exact .of_acts (execSourceQualified_acts source s)
  | stepDecision => exact .of_acts (execStepDecision_acts s)
  | timeStep => exact .of_acts (execTimeStep_acts s)
  | holdErrPublish => exact .of_acts (execHoldErrPublish_acts s)
  | compareFire unit => exact .of_acts (execCompareFire_acts unit s)
  | compareEnable master unit value => exact .of_acts (execCompareEnable_acts master unit value s)
  | captureEdge unit rising stamp => exact .of_acts (execCaptureEdge_acts unit rising stamp s)
  | captureRead master unit => exact .of_acts (execCaptureRead_acts master unit s)
  | captureOld unit => exact .of_acts (execCaptureOld_acts unit s)
  | timePulse output => exact .of_acts (execTimePulse_acts output s)
  | timePulseEnd output => exact .of_acts (execTimePulseEnd_acts output s)
  | antennaMeasure antenna milliamps => exact .of_acts (execAntennaMeasure_acts antenna milliamps s)
  | antennaRetry antenna => exact .of_acts (execAntennaRetry_acts antenna s)
  | acquisitionSearchRuns engine sig sv antenna blocks warm bin peakOverMean => exact .of_acts (execAcquisitionSearchRuns_acts engine sig sv antenna blocks warm bin peakOverMean s)
  | acquisitionConfirm engine peakOverMean elev => exact .of_acts (execAcquisitionConfirm_acts engine peakOverMean elev s)
  | pullInLock chan => exact .of_acts (execPullInLock_acts chan s)
  | phaseLockHeld chan => exact .of_acts (execPhaseLockHeld_acts chan s)
  | lockLoss chan => exact .of_acts (execLockLoss_acts chan s)
  | cycleSlip chan => exact .of_acts (execCycleSlip_acts chan s)
  | channelShadowEnd cluster sameAS sameAS2 sameSS2 => exact .of_acts (execChannelShadowEnd_acts cluster sameAS sameAS2 sameSS2 s)
  | spectrumAverage stream lines noise agc => exact .of_acts (execSpectrumAverage_acts stream lines noise agc s)
  | notchRelease stream notch => exact .of_acts (execNotchRelease_acts stream notch s)
  | noiseFloorLearned floors => exact .of_acts (execNoiseFloorLearned_acts floors s)
  | jamClear => exact .of_acts (execJamClear_acts s)
  | suspectClear chan => exact .of_acts (execSuspectClear_acts chan s)
  | suspicionClear side => exact .of_acts (execSuspicionClear_acts side s)
  | snapshotTrigger master => exact .of_acts (execSnapshotTrigger_acts master s)
  | snapshotHeld samples => exact .of_acts (execSnapshotHeld_acts samples s)
  | snapshotRelease master => exact .of_acts (execSnapshotRelease_acts master s)
  | parkPositionCheck satellites distanceM => exact .of_acts (execParkPositionCheck_acts satellites distanceM s)
  | ephemerisRenewal => exact .of_acts (execEphemerisRenewal_acts s)
  | ephemerisRenewalEnds sats => exact .of_acts (execEphemerisRenewalEnds_acts sats s)
  | serialSentence port sentence => exact .of_acts (execSerialSentence_acts port sentence s)
  | rtcmFrame port bytes first last => exact .of_acts (execRtcmFrame_acts port bytes first last s)
  | canFrame channel frame => exact .of_acts (execCanFrame_acts channel frame s)
  | fastPacketTimeout channel source pgn => exact .of_acts (execFastPacketTimeout_acts channel source pgn s)
  | canObjectTimeout object => exact .of_acts (execCanObjectTimeout_acts object s)
  | canQ1Pop master channel => exact .of_acts (execCanQ1Pop_acts master channel s)
  | canError channel tec rec => exact .of_acts (execCanError_acts channel tec rec s)
  | busoffHoldExpiry channel => exact .of_acts (execBusoffHoldExpiry_acts channel s)
  | busoffRecovered channel => exact .of_acts (execBusoffRecovered_acts channel s)
  | canReferenceMessageStarts channel => exact .of_acts (execCanReferenceMessageStarts_acts channel s)
  | ethernetFrame frame => exact .of_acts (execEthernetFrame_acts frame s)
  | prpEntryForget mac seq => exact .of_acts (execPrpEntryForget_acts mac seq s)
  | rxLimitWindow port => exact .of_acts (execRxLimitWindow_acts port s)
  | phyPoll port answered link => exact .of_acts (execPhyPoll_acts port answered link s)
  | mdioRead master value => exact .of_acts (execMdioRead_acts master value s)
  | mdioReadDone answer => exact .of_acts (execMdioReadDone_acts answer s)
  | arpRefresh ip => exact .of_acts (execArpRefresh_acts ip s)
  | arpTimeout ip => exact .of_acts (execArpTimeout_acts ip s)
  | serviceRead req => exact .of_acts (execServiceRead_acts req s)
  | serviceWrite req => exact .of_acts (execServiceWrite_acts req s)
  | fieldSampleTaken channel input => exact .of_acts (execFieldSampleTaken_acts channel input s)
  | fieldOutputWrite master channel value => exact .of_acts (execFieldOutputWrite_acts master channel value s)
  | fieldFaultTimerEnds channel condition => exact .of_acts (execFieldFaultTimerEnds_acts channel condition s)
  | readbackMismatch channel => exact .of_acts (execReadbackMismatch_acts channel s)
  | modulatorOverload channel => exact .of_acts (execModulatorOverload_acts channel s)
  | engineShadowEnd cluster same => exact .of_acts (execEngineShadowEnd_acts cluster same s)
  | engineTestEnd cluster sparePasses => exact .of_acts (execEngineTestEnd_acts cluster sparePasses s)
  | fieldTestInjection channel => exact .of_acts (execFieldTestInjection_acts channel s)
  | fieldTestInjectionEnds channel => exact .of_acts (execFieldTestInjectionEnds_acts channel s)
  | loopSample slot => exact .of_acts (execLoopSample_acts slot s)
  | loopFollowingError slot => exact .of_acts (execLoopFollowingError_acts slot s)
  | loopPlausibility slot => exact .of_acts (execLoopPlausibility_acts slot s)
  | interruptAssert source => exact .of_acts (execInterruptAssert_acts source s)
  | claim master target => exact .of_acts (execClaim_acts master target s)
  | complete master target value => exact .of_acts (execComplete_acts master target value s)
  | unfreeze master target => exact .of_acts (execUnfreeze_acts master target s)
  | moderationInterval target => exact .of_acts (execModerationInterval_acts target s)
  | targetIdle target => exact .of_acts (execTargetIdle_acts target s)
  | doorbellSet master value => exact .of_acts (execDoorbellSet_acts master value s)
  | machineTimer core => exact .of_acts (execMachineTimer_acts core s)
  | hostRead addr words => exact .of_acts (execHostRead_acts addr words s)
  | hostQuadRead addr words => exact .of_acts (execHostQuadRead_acts addr words s)
  | hostWrite addr words partialWord => exact .of_acts (execHostWrite_acts addr words partialWord s)
  | hostQuadWrite addr words partialWord => exact .of_acts (execHostQuadWrite_acts addr words partialWord s)
  | hostStatus => exact .of_acts (execHostStatus_acts s)
  | hostWritePerform => exact .of_acts (execHostWritePerform_acts s)
  | flashErase master => exact .of_acts (execFlashErase_acts master s)
  | flashProgram master => exact .of_acts (execFlashProgram_acts master s)
  | flashRead master => exact .of_acts (execFlashRead_acts master s)
  | flashCommandDone failed => exact .of_acts (execFlashCommandDone_acts failed s)
  | elkPortLost port => exact .of_acts (execElkPortLost_acts port s)
  | elkPortRetry port => exact .of_acts (execElkPortRetry_acts port s)
  | elkRetransmitFrame port vc nak => exact .of_acts (execElkRetransmitFrame_acts port vc nak s)
  | elkHelloSend port => exact .of_acts (execElkHelloSend_acts port s)
  | elkHello port member formId => exact .of_acts (execElkHello_acts port member formId s)
  | elkPacket port header packet => exact .of_acts (execElkPacket_acts port header packet s)
  | elkUdpDatagram peer vc hopSeq packet => exact .of_acts (execElkUdpDatagram_acts peer vc hopSeq packet s)
  | subSend => exact .of_acts (execSubSend_acts s)
  | subscriberExpiry member => exact .of_acts (execSubscriberExpiry_acts member s)
  | subscriptionTimeout unit => exact .of_acts (execSubscriptionTimeout_acts unit s)
  | formationSetClose epoch => exact .of_acts (execFormationSetClose_acts epoch s)
  | viewOpen master => exact .of_acts (execViewOpen_acts master s)
  | viewClose master => exact .of_acts (execViewClose_acts master s)
  | windowRead master offset => exact .of_acts (execWindowRead_acts master offset s)
  | fabricTimeout master region => exact .of_acts (execFabricTimeout_acts master region s)
  | registerWrite master addr value => exact .of_acts (execRegisterWrite_acts master addr value s)
  | lockstepMismatch pair => exact .of_acts (execLockstepMismatch_acts pair s)
  | eccError bank correctable ofCycle => exact .of_acts (execEccError_acts bank correctable ofCycle s)
  | eccScrub memory corrected => exact .of_acts (execEccScrub_acts memory corrected s)
  | railFault rail => exact .of_acts (execRailFault_acts rail s)
  | annealMeasurement dies diodes => exact .of_acts (execAnnealMeasurement_acts dies diodes s)
  | trimStep rail => exact .of_acts (execTrimStep_acts rail s)
  | thermalUpdateRuns rails vin coils diodes => exact .of_acts (execThermalUpdateRuns_acts rails vin coils diodes s)
  | trefTrack => exact .of_acts (execTrefTrack_acts s)
  | cooled => exact .of_acts (execCooled_acts s)
  | operatingTimeTick => exact .of_acts (execOperatingTimeTick_acts s)
  | waveformStart vlcdMv => exact .of_acts (execWaveformStart_acts vlcdMv s)
  | waveformPhaseEnd => exact .of_acts (execWaveformPhaseEnd_acts s)
  | waveformEnd => exact .of_acts (execWaveformEnd_acts s)
  | annCommit master value => exact .of_acts (execAnnCommit_acts master value s)
  | vlcdTimeout vlcdMv => exact .of_acts (execVlcdTimeout_acts vlcdMv s)
  | registerRead master addr => exact .of_acts (execRegisterRead_acts master addr s)
  | refinReturn => exact .of_acts (execRefinReturn_acts s)
  | hidleFall => exact .of_acts (execHidleFall_acts s)
  | halfCycleResolved chan => exact .of_acts (execHalfCycleResolved_acts chan s)
  | transmitTimeResolved chan => exact .of_acts (execTransmitTimeResolved_acts chan s)
  | twinLaneUp lane => exact .of_acts (execTwinLaneUp_acts lane s)

/-- A command that answers `t` kept soundness and stayed within a frame of its own. -/
theorem acts_of_exec {c : Instr} {s t : State} (h : exec c s = .next t) : ∃ m, Acts m s t ∧ confines c m = true := by
  obtain ⟨m, u, hu, acts, hm⟩ := exec_confined c s
  cases h.symm.trans hu
  exact ⟨m, acts, hm⟩

/-- What holds of an idle cycle and of every command holds of every step. -/
theorem step_cases {s t : State} (h : step s = .next t) :
    (s.pending = [] ∧ t = s.tick) ∨ ∃ c r, s.pending = c :: r ∧ exec c { s with pending := r } = .next t := by
  unfold step at h
  split at h
  case h_1 idle =>
    cases h
    exact .inl ⟨idle, rfl⟩
  case h_2 c r waiting => exact .inr ⟨c, r, waiting, h⟩

/-- Settles O1. A step of a queue that is not empty is `exec` of its front by definition. -/
theorem stepRunsTheFrontCommand : Obligations.StepRunsTheFrontCommand := by
  unfold Obligations.StepRunsTheFrontCommand
  intro c r s
  rfl

/-- Settles O4. Soundness stands in the frame lemma of each command; the queue of commands is no part of it. -/
theorem everyStepKeepsSoundness : Obligations.EveryStepKeepsSoundness := by
  unfold Obligations.EveryStepKeepsSoundness
  intro s t sound hstep
  obtain ⟨-, rfl⟩ | ⟨c, r, -, ran⟩ := step_cases hstep
  · exact s.tick_acts.sound sound
  · have taken : ({ s with pending := r } : State).Sound := sound.of_eq rfl rfl rfl rfl rfl rfl rfl rfl rfl rfl rfl rfl rfl rfl
    obtain ⟨m, acts, -⟩ := acts_of_exec ran
    exact acts.sound taken

/-- Settles O5. -/
theorem everyCommandCompletesAndKeepsIdentity : Obligations.EveryCommandCompletesAndKeepsIdentity := by
  unfold Obligations.EveryCommandCompletesAndKeepsIdentity
  intro c s
  obtain ⟨m, t, ran, acts, hm⟩ := exec_confined c s
  simp only [confines, Bool.and_eq_true, Bool.not_eq_true'] at hm
  obtain ⟨⟨⟨⟨⟨⟨⟨⟨⟨serial, devKey⟩, pending⟩, -⟩, -⟩, -⟩, -⟩, -⟩, -⟩, -⟩ := hm
  exact ⟨t, ran, acts.frame .serial serial, acts.frame .devKey devKey, acts.frame .pending pending⟩

/-- Settles O6. Each part is outside the frame of every command that is not listed for it. -/
theorem onlyListedCommandsTouchFlashModeEpochTimeAndRecords : Obligations.OnlyListedCommandsTouchFlashModeEpochTimeAndRecords := by
  unfold Obligations.OnlyListedCommandsTouchFlashModeEpochTimeAndRecords
  intro c s t ran
  obtain ⟨m, acts, hm⟩ := acts_of_exec ran
  simp only [confines, Bool.and_eq_true, Bool.or_eq_true, Bool.not_eq_true'] at hm
  obtain ⟨⟨⟨⟨⟨⟨⟨-, flash⟩, opTime⟩, recNext⟩, mode⟩, epoch⟩, -⟩, -⟩ := hm
  have outside {listed : Bool} {i : Nat} (h : listed = true ∨ m.testBit i = false) (k : listed = false) : m.testBit i = false :=
    h.resolve_left (by simp [k])
  refine ⟨fun h => acts.frame .flash (outside flash h), fun h => acts.frame .opTime (outside opTime h), fun h => ?recNext, fun h => ?mode, fun h => ?epoch⟩
  case recNext => exact Prod.mk.inj (acts.frame .recNext (outside recNext h))
  case mode => exact Prod.mk.inj (acts.frame .devMode (outside mode h))
  case epoch =>
    obtain ⟨freezes, rest⟩ := Prod.mk.inj (acts.frame .devEpoch (outside epoch h))
    obtain ⟨stateEp, freezeAt⟩ := Prod.mk.inj rest
    exact ⟨stateEp, freezes, freezeAt⟩

/-- Settles O7. The moves of each command (`exec_transits`) are the ones that its row of the table names. -/
theorem stateMovesAsTheTableOfTransitions : Obligations.StateMovesAsTheTableOfTransitions := by
  unfold Obligations.StateMovesAsTheTableOfTransitions
  intro c s t ran
  obtain ⟨u, hu, transits⟩ := exec_transits c s
  cases ran.symm.trans hu
  exact transits

end Sys2Proof.Machine

/-! The state after reset (R420, R422, R430, R496, R497, R534) and the idle cycle (R339, R343). -/
namespace Sys2Proof.Machine
set_option Elab.async false

theorem State.reset_canonical : State.reset.Canonical := ⟨rfl, rfl, rfl, rfl, rfl, rfl, rfl, rfl, rfl⟩

theorem State.reset_sound : State.reset.Sound where
  canonical := State.reset_canonical
  alarms := List.Pairwise.nil
  queue := Nat.zero_le _
  used := Nat.zero_le _
  buffer := Nat.zero_le _

/-- Settles O3. -/
theorem resetStateIsSound : Obligations.ResetStateIsSound := by
  unfold Obligations.ResetStateIsSound
  exact ⟨State.reset_sound, rfl⟩

theorem State.reset_shaped : State.reset.Shaped := ⟨rfl, rfl, rfl, rfl, rfl, rfl, rfl, rfl⟩

theorem State.reset_line : ∀ k < 4, (State.reset.target k).line = false := by decide

/-- Settles O60. No line is asserted after reset, so none is asserted wrongly. -/
theorem resetStateMeetsTheInvariants : Obligations.ResetStateMeetsTheInvariants := by
  unfold Obligations.ResetStateMeetsTheInvariants
  refine ⟨State.reset_shaped, fun k hk asserted => ?_, State.reset_line⟩
  exact absurd asserted (by simp [State.reset_line k hk])

/-- R339: the time that one clock cycle adds is 0, 2 or 4 ns, the accumulator stays within its range, and nothing of the rate is lost. The rate is a
signed register word. -/
theorem steered_spec {acc freq : Int} (low : -2 ^ 43 < acc) (high : acc < 2 ^ 43) (least : -2 ^ 31 ≤ freq) (most : freq < 2 ^ 31) :
    ((steered acc freq).2 = 0 ∨ (steered acc freq).2 = 2 ∨ (steered acc freq).2 = 4) ∧
    -2 ^ 43 < (steered acc freq).1 ∧ (steered acc freq).1 < 2 ^ 43 ∧ acc + freq = (steered acc freq).1 + 2 ^ 42 * (((steered acc freq).2 : Int) - 2) := by
  unfold steered
  split
  · exact ⟨.inr (.inr rfl), by omega, by omega, by push_cast; omega⟩
  · split
    · exact ⟨.inl rfl, by omega, by omega, by push_cast; omega⟩
    · exact ⟨.inr (.inl rfl), by omega, by omega, by push_cast; omega⟩

/-- A register word read as a signed number. -/
theorem State.int_word_range (s : State) (a : Nat) : -2 ^ 31 ≤ s.int (word32 a) ∧ s.int (word32 a) < 2 ^ 31 := by
  have bound : s.fld (word32 a) < 2 ^ 32 := Nat.mod_lt _ (Nat.two_pow_pos _)
  have width : (word32 a).hi + 1 - (word32 a).lo = 32 := rfl
  simp only [State.int, width]
  split <;> omega

theorem State.tick_frame (s : State) : Frame [.tim, .elapsed, .working] s s.tick :=
  s.tick_acts.toFrame (by intro p; cases p <;> decide)

/-- Settles O2. -/
theorem idleStepIsOneTsuClockCycle : Obligations.IdleStepIsOneTsuClockCycle := by
  unfold Obligations.IdleStepIsOneTsuClockCycle
  intro s idle
  refine ⟨s.tick, by rw [step, idle], s.tick_frame, ?still, ?runs⟩
  case still =>
    intro off
    rw [State.tick, if_neg]
    rintro on
    obtain ⟨vin, started⟩ := Bool.and_eq_true_iff.mp on
    simp [vin, started] at off
  case runs =>
    intro vin started low high
    obtain ⟨least, most⟩ := s.int_word_range A_TSU_FREQ
    obtain ⟨gain, low', high', sum⟩ := steered_spec low high least most
    have ran : s.tick = { s with tim := { s.tim with steer := (steered s.tim.steer (s.int (word32 A_TSU_FREQ))).1, wt := s.tim.wt + (steered s.tim.steer (s.int (word32 A_TSU_FREQ))).2, el := s.tim.el + (steered s.tim.steer (s.int (word32 A_TSU_FREQ))).2 } } := by
      simp [State.tick, vin, started]
    rw [ran]
    exact ⟨_, gain, rfl, rfl, low', high', sum⟩

end Sys2Proof.Machine

/-! A copy of the twin state may carry a fusion state with fewer quantities than the device has (R300, R301). -/
namespace Sys2Proof.Machine
set_option Elab.async false

/-- A fusion state without any fused quantity, as a frame of the twin state may carry it. -/
def copyWithoutQuantities : Instr :=
  .stateFrame { lane := 0, length := 0, seq := 0, ack := 0, credits := [], crcOk := true } (.fusion 0 { State.reset.fus with quants := [] })

/-- A paired device out of step with one lane up that has asked for a copy, with `copyWithoutQuantities` waiting. -/
def awaitsCopy : State :=
  let s := State.reset.setFld F_TWN_STATUS_LANES 1
  { s with
    boot := { s.boot with started := true }
    pat := { s.pat with loaded := true, params := [(0x0901, [1#32])] }
    twn := { s.twn with requested := true }
    pending := [copyWithoutQuantities] }

theorem awaitsCopy_shaped : awaitsCopy.Shaped := ⟨rfl, rfl, rfl, rfl, rfl, rfl, rfl, rfl⟩

theorem step_awaitsCopy : ∃ t, step awaitsCopy = .next t ∧ t.fus.quants = [] := by
  refine ⟨_, rfl, ?_⟩
  decide +kernel

/-- Refutes O58: the fusion part of a twin state is written into place as it arrives, and nothing says how many quantities it holds. -/
theorem not_everyUnitKeepsItsPlace : ¬ Obligations.EveryUnitKeepsItsPlace := by
  unfold Obligations.EveryUnitKeepsItsPlace
  intro keeps
  obtain ⟨t, ran, none⟩ := step_awaitsCopy
  have count := (keeps awaitsCopy t awaitsCopy_shaped ran).quants
  rw [none] at count
  exact absurd count (by decide)

end Sys2Proof.Machine

/-! R422: what keeps the line of each target asserted only over an empty, unfrozen claim stack with a source assigned. -/
namespace Sys2Proof.Machine
set_option Elab.async false

/-- R422: the line of target `k` may be asserted. -/
def State.LineOk (s : State) (k : Nat) : Prop :=
  (s.target k).line = true → (s.target k).stack = [] ∧ (s.target k).frozen = false ∧ ∃ x ∈ s.intc.assigned, x.2 = k

section
variable {s t : State} {m : Nat}

theorem State.LinesOk.of_intc (h : s.LinesOk) (same : t.intc = s.intc) : t.LinesOk := by
  unfold State.LinesOk State.target at h ⊢
  rwa [same]

theorem State.LinesOk.acts (h : s.LinesOk) (acts : Acts m s t) (hm : m.testBit Part.intc.idx = false := by rfl) : t.LinesOk :=
  h.of_intc (acts.frame .intc hm)

/-- What holds of a command's state holds of the state that it answers. -/
theorem State.LinesOk.of_acts {o : Host.Outcome State Fault Refusal} (h : s.LinesOk) (acts : ∃ t, o = .next t ∧ Acts m s t)
    (hm : m.testBit Part.intc.idx = false := by rfl) : ∃ t, o = .next t ∧ t.LinesOk := by
  obtain ⟨t, ho, acts⟩ := acts
  exact ⟨t, ho, h.acts acts hm⟩

theorem State.LinesOk.ite {c : Prop} [Decidable c] (h : c → s.LinesOk) (k : ¬c → t.LinesOk) : (if c then s else t).LinesOk := by
  split
  · exact h ‹_›
  · exact k ‹_›

theorem State.LinesOk.iteP {c : Prop} [Decidable c] {α : Type} {a b : State × α} (h : c → a.1.LinesOk) (k : ¬c → b.1.LinesOk) :
    (if c then a else b).1.LinesOk := by
  split
  · exact h ‹_›
  · exact k ‹_›

/-- A target may change in anything but what its line depends on. -/
theorem State.LinesOk.setTarget (h : s.LinesOk) (k : Nat) {f : Target → Target}
    (hf : ∀ g, (f g).line = g.line ∧ (f g).stack = g.stack ∧ (f g).frozen = g.frozen) : (s.setTarget k f).LinesOk := by
  intro j hj
  have ok := h j hj
  have kept : ((s.setTarget k f).target j).line = (s.target j).line ∧ ((s.setTarget k f).target j).stack = (s.target j).stack ∧
      ((s.setTarget k f).target j).frozen = (s.target j).frozen := by
    rw [State.target_setTarget]
    split
    · exact hf _
    · exact ⟨rfl, rfl, rfl⟩
  obtain ⟨line, stack, frozen⟩ := kept
  rw [line, stack, frozen]
  exact ok

/-- Bringing the line of target `k` up to date makes it right. -/
theorem State.updateLine_lineOk (s : State) (k : Nat) : (s.updateLine k).LineOk k := by
  obtain ⟨same, assigned⟩ := s.updateLine_sameSources k
  rw [State.LineOk, same.stack, same.frozen, assigned]
  intro line
  by_cases ready : ((s.target k).stack.isEmpty && !(s.target k).frozen && !(s.assignedTo k).isEmpty) = true
  · simp only [State.assignedTo, Bool.and_eq_true, List.isEmpty_iff, Bool.not_eq_true', List.isEmpty_eq_false_iff] at ready
    obtain ⟨⟨stack, frozen⟩, waiting⟩ := ready
    obtain ⟨n, hn⟩ := List.exists_mem_of_ne_nil _ waiting
    obtain ⟨x, hx, -⟩ := List.mem_map.mp hn
    obtain ⟨member, target⟩ := List.mem_filter.mp hx
    exact ⟨stack, frozen, x, member, of_decide_eq_true target⟩
  · have low : (s.updateLine k) = s.setTarget k (fun g => { g with line := false }) := by
      simp only [State.updateLine, if_neg ready]
    rw [low, State.target_setTarget] at line
    split at line
    case isTrue => exact absurd line Bool.false_ne_true
    case isFalse beyond =>
      have none : s.target k = {} := by
        have : s.intc.targets.length ≤ k := Nat.le_of_not_lt fun h => beyond ⟨rfl, h⟩
        simp [State.target, List.getD_eq_getElem?_getD, List.getElem?_eq_none this]
      rw [none] at line
      exact absurd line Bool.false_ne_true

/-- Bringing the line of one target up to date leaves the other targets. -/
theorem State.updateLine_target_other (s : State) {k j : Nat} (h : j ≠ k) : (s.updateLine k).target j = s.target j := by
  simp only [State.updateLine, apply_ite (fun u : State => u.target j), State.target_setTarget_other h, ite_self]

theorem State.LineOk.updateLine {j : Nat} (h : s.LineOk j) (k : Nat) : (s.updateLine k).LineOk j := by
  by_cases hjk : j = k
  · exact hjk ▸ s.updateLine_lineOk k
  · rwa [State.LineOk, s.updateLine_target_other hjk, (s.updateLine_sameSources k).2]

theorem State.LinesOk.updateLine (h : s.LinesOk) (k : Nat) : (s.updateLine k).LinesOk := fun j hj => State.LineOk.updateLine (h j hj) k

/-- All four lines brought up to date are right, whatever they were before. -/
theorem State.updateLines_linesOk (s : State) : s.updateLines.LinesOk := by
  intro j hj
  show State.LineOk ((((s.updateLine 0).updateLine 1).updateLine 2).updateLine 3) j
  have up (u : State) := u.updateLine_lineOk
  match j, hj with
  | 0, _ => exact (((up s 0).updateLine 1).updateLine 2).updateLine 3
  | 1, _ => exact ((up _ 1).updateLine 2).updateLine 3
  | 2, _ => exact (up _ 2).updateLine 3
  | 3, _ => exact up _ 3

theorem State.settleSources_linesOk (s : State) : s.settleSources.LinesOk := State.updateLines_linesOk _

/-! Accesses. -/

theorem State.LinesOk.accessWith (h : s.LinesOk) {f : State → State × Nat × Word} (hf : ∀ u, u.LinesOk → (f u).1.LinesOk) (mm a : Nat) (w : Bool) :
    (s.accessWith mm a w f).1.LinesOk := by
  unfold State.accessWith
  split
  · exact h
  · split
    · exact h.acts (State.raise_acts ..)
    · split
      · exact hf s h
      · exact h.acts (State.refuse_acts ..)

theorem State.LinesOk.commandWrite (h : s.LinesOk) {f : State → State} (hf : ∀ u, u.LinesOk → (f u).LinesOk) (mm a : Nat) (v : Word) :
    (s.commandWrite mm a v f).LinesOk := by
  unfold State.commandWrite
  exact (State.LinesOk.accessWith (f := fun t => (f t, accOk, 0#32)) h hf mm a true).acts (State.complete_acts ..)

theorem State.LinesOk.claimRead (h : s.LinesOk) (k : Nat) : (s.claimRead k).1.LinesOk := by
  unfold State.claimRead
  split
  · split
    · exact State.updateLines_linesOk _
    · exact h
  · exact h

theorem State.LinesOk.completeWrite (h : s.LinesOk) (k n : Nat) : (s.completeWrite k n).LinesOk := by
  unfold State.completeWrite
  exact .ite (fun _ => h) fun _ => .ite (fun _ => State.settleSources_linesOk _) fun _ => State.settleSources_linesOk _

theorem State.LinesOk.readAt (h : s.LinesOk) (mm a : Nat) : (s.readAt mm a).1.LinesOk := by
  unfold State.readAt
  split
  · exact h.acts (State.windowWord_acts ..)
  · split
    · exact h.claimRead _
    · exact h.acts (State.capRead_acts ..)
    · split
      · exact h
      · split
        · exact h.acts (State.clearOnRead_acts ..)
        · exact h

/-- A write that is carried out settles the sources. -/
theorem State.LinesOk.writeAt (h : s.LinesOk) (mm a : Nat) (v : Word) : (s.writeAt mm a v).1.LinesOk := by
  unfold State.writeAt
  split
  · exact h.acts (State.refuse_acts ..)
  · split
    · exact h
    · split
      · exact (State.settleSources_linesOk _).acts (State.updateTimers_acts ..)
      · exact (State.settleSources_linesOk _).acts (State.updateTimers_acts ..)

theorem State.LinesOk.busRead (h : s.LinesOk) (mm a : Nat) : (s.busRead mm a).1.LinesOk := by
  unfold State.busRead
  split
  · exact h
  · exact h.accessWith (fun u hu => hu.readAt mm a) mm a false

theorem State.LinesOk.busWrite (h : s.LinesOk) (mm a : Nat) (v : Word) : (s.busWrite mm a v).1.LinesOk := by
  unfold State.busWrite
  split
  · exact h
  · exact h.accessWith (fun u hu => hu.writeAt mm a v) mm a true

/-! The register service and the packets of the Eloaset that reach it. -/

theorem State.LinesOk.serveReads (n : Nat) (h : s.LinesOk) (mm a : Nat) : (State.serveReads n s mm a).1.LinesOk := by
  induction n generalizing s a with
  | zero => exact h
  | succ n ih =>
    unfold State.serveReads
    dsimp only
    split
    · exact ih (h.busRead mm a) _
    · exact h.busRead mm a

theorem State.LinesOk.serveWrites (l : List Word) (h : s.LinesOk) (mm a : Nat) : (State.serveWrites l s mm a).1.LinesOk := by
  induction l generalizing s a with
  | nil => exact h
  | cons w l ih =>
    unfold State.serveWrites
    dsimp only
    split
    · exact ih (h.busWrite mm a w) _
    · exact h.busWrite mm a w

theorem State.LinesOk.serve (h : s.LinesOk) (mm op seq addr count : Nat) (data : List Word) : (s.serve mm op seq addr count data).1.LinesOk := by
  unfold State.serve
  exact .iteP (fun _ => h.serveReads _ _ _) fun _ => h.serveWrites _ _ _

theorem State.LinesOk.serviceNew (h : s.LinesOk) (op : Nat) (req : SvcReq) : (s.serviceNew op req).LinesOk := by
  unfold State.serviceNew
  extract_lets good r src net t
  have answered : r.1.LinesOk := .iteP (fun _ => h) fun _ => .iteP (fun _ => h) fun _ => h.serve _ _ _ _ _ _
  clear_value r
  have kept : t.LinesOk := answered.of_intc rfl
  clear_value t
  exact kept.acts (State.udpSend_acts ..)

theorem State.LinesOk.service (h : s.LinesOk) (op : Nat) (req : SvcReq) : (s.service op req).LinesOk := by
  have reached : (s.reach req.stamp).LinesOk := h.acts (State.reach_acts ..)
  unfold State.service
  refine .ite (fun _ => h) fun _ => ?_
  dsimp only
  split
  · exact .ite (fun _ => reached.acts (State.udpSend_acts ..)) fun _ => reached.serviceNew op req
  · exact reached.serviceNew op req

theorem State.LinesOk.takeSvcReq (h : s.LinesOk) (src : Nat) (w : List Word) : (s.takeSvcReq src w).LinesOk := by
  unfold State.takeSvcReq
  extract_lets op lim permitted seq addr count data good r
  refine .ite (fun _ => h) fun _ => ?_
  have answered : r.1.LinesOk := .iteP (fun _ => h.serve _ _ _ _ _ _) fun _ => h
  exact answered.acts (State.sendOwn_acts ..)

theorem State.LinesOk.consume (h : s.LinesOk) (p : Packet) : (s.consume p).LinesOk := by
  unfold State.consume
  exact .ite (fun _ => h.acts (State.takePublication_acts ..)) fun _ => .ite (fun _ => h.acts (State.takeSub_acts ..)) fun _ =>
    .ite (fun _ => h.acts (State.takeSubAck_acts ..)) fun _ => .ite (fun _ => h.takeSvcReq _ _) fun _ => h

theorem State.LinesOk.takePacket (h : s.LinesOk) (vc : Nat) (p : Packet) : (s.takePacket vc p).LinesOk := by
  unfold State.takePacket
  exact .ite (fun _ => h.consume p) fun _ => h.acts (State.forward_acts ..)

theorem State.LinesOk.takeFrame (h : s.LinesOk) (port : Nat) (header : LinkHeader) (p : Packet) : (s.takeFrame port header p).LinesOk := by
  unfold State.takeFrame
  extract_lets t u
  have taken : t.LinesOk := h.acts (State.setElkPort_acts ..)
  have delivered : u.LinesOk := taken.acts (State.setElkPort_acts ..)
  refine .ite (fun _ => ?_) fun _ => taken.acts (State.elkPush_acts ..)
  exact ((delivered.acts (State.bump_acts ..)).takePacket _ _).acts (State.elkPush_acts ..)

/-! The host port. -/

theorem State.LinesOk.performWrite (h : s.LinesOk) : s.performWrite.LinesOk := by
  unfold State.performWrite
  split
  · exact h
  case h_2 a w n r waiting =>
    have taken : ({ s with hst := { s.hst with buffer := r } } : State).LinesOk := h.of_intc rfl
    exact .ite (fun _ => taken.busWrite _ _ _) fun _ => (taken.busWrite _ _ _).acts (State.hostWriteFails_acts ..)

theorem State.LinesOk.drainWrites (n : Nat) (h : s.LinesOk) : (State.drainWrites n s).LinesOk := by
  induction n generalizing s with
  | zero => exact h
  | succ n ih => exact ih h.performWrite

theorem State.LinesOk.hostWords (n : Nat) (h : s.LinesOk) (a : Nat) : (State.hostWords n s a).1.LinesOk := by
  induction n generalizing s a with
  | zero => exact h
  | succ n ih =>
    unfold State.hostWords
    dsimp only
    split
    · exact ih (h.busRead mHost a) _
    · exact h.busRead mHost a

theorem State.LinesOk.hostReads (h : s.LinesOk) (addr words : Nat) : (s.hostReads addr words).LinesOk := by
  unfold State.hostReads
  exact ((h.drainWrites _).hostWords words addr).acts (State.send_acts ..)

/-! Resets of the application cores, resets of the device, the boot and the pour. -/

theorem State.LinesOk.startApp (h : s.LinesOk) (c : Nat) : (s.startApp c).LinesOk := by
  unfold State.startApp
  exact State.LinesOk.setTarget (h.of_intc rfl) c fun _ => ⟨rfl, rfl, rfl⟩

theorem State.resetApp_linesOk (s : State) (c : Nat) : (s.resetApp c).LinesOk := by
  unfold State.resetApp
  extract_lets t u v own
  have settled : u.LinesOk := State.settleSources_linesOk _
  clear_value u
  have stopped : v.LinesOk := settled.of_intc rfl
  exact .ite (fun _ => stopped.acts (State.updateTimers_acts ..)) fun _ => (State.settleSources_linesOk _).acts (State.updateTimers_acts ..)

theorem State.flwWrite_linesOk (s : State) (v : Word) : (s.flwWrite v).LinesOk := State.settleSources_linesOk _

theorem State.fireUnit_linesOk (s : State) (k : Nat) : (s.fireUnit k).LinesOk := State.settleSources_linesOk _

/-- No line is asserted after a reset. -/
theorem State.afterReset_linesOk (s : State) (straps : Straps) : (s.afterReset straps).LinesOk :=
  State.LinesOk.of_intc (fun k hk line => absurd line (by simp [State.reset_line k hk])) (rfl : _ = State.reset.intc)

theorem State.fullReset_linesOk (s : State) (straps : Straps) (causes : Fld) : (s.fullReset straps causes).LinesOk := by
  unfold State.fullReset
  exact (((s.afterReset_linesOk straps).acts (State.setCause_acts ..)).acts (State.setFlag_acts ..)).acts (State.setFlag_acts ..)

theorem State.keeperReset_linesOk (s : State) (straps : Straps) (cause : Fld) : (s.keeperReset straps cause).LinesOk := by
  unfold State.keeperReset
  extract_lets s0 t q0 q1 q2 u v
  have fresh : t.LinesOk := s0.afterReset_linesOk straps
  have kept : u.LinesOk := fresh.of_intc rfl
  have shown : v.LinesOk := ((kept.acts (State.setCause_acts ..)).acts (State.setFlag_acts ..)).acts (State.setFlag_acts ..)
  exact (shown.acts ((Acts.refl v).each (State.showBrake_acts · ·))).acts (State.globalSafe_acts ..)

theorem State.LinesOk.startApps (h : s.LinesOk) : s.startApps.LinesOk :=
  List.foldlRecOn (motive := State.LinesOk) _ _ h fun _ hu c _ => hu.startApp c

theorem State.LinesOk.setUp (h : s.LinesOk) (img : List Byte) (moulds : List (Nat × Mould)) : (s.setUp img moulds).LinesOk := by
  unfold State.setUp
  extract_lets s1 s2 s3 s4 s5
  have h1 : s1.LinesOk := (((h.acts (State.bootStep_acts ..)).acts (State.loadAccess_acts ..)).acts (State.storeMoulds_acts ..)).acts (State.handSafety_acts ..)
  have h2 : s2.LinesOk := ((((h1.acts (State.setupFields_acts ..)).acts (State.setupCan_acts ..)).acts (State.setupSpt_acts ..)).acts
    (State.setupNet_acts ..)).acts (State.setupLoops_acts ..)
  have h3 : s3.LinesOk := (((h2.acts (State.setupElk_acts ..)).acts (State.generateScenarios_acts ..)).acts (State.showPattern_acts ..)).acts
    (State.release_acts ..)
  have h4 : s4.LinesOk := .ite (fun _ => h3) fun _ => h3.acts (State.loadApps_acts ..)
  have h5 : s5.LinesOk := (h4.acts (State.bootStep_acts ..)).acts (State.setFlag_acts ..)
  exact .ite (fun _ => h5) fun _ => h5.startApps

/-- The pour sets the edge of source 30 and settles the sources. -/
theorem State.publishPour_linesOk (s : State) : s.publishPour.LinesOk := by
  unfold State.publishPour
  extract_lets t q0 q1 u v
  have settled : u.LinesOk := State.settleSources_linesOk _
  clear_value u
  have sent : v.LinesOk := (settled.acts ((Acts.refl u).foldl State.serialPour_acts)).acts (State.send450_acts ..)
  exact (sent.acts (State.publishImage_acts ..)).acts (State.publishFormation_acts ..)

theorem State.pourWork_linesOk (s : State) (katPass : Bool) : (s.pourWork katPass).LinesOk := by
  unfold State.pourWork
  extract_lets full s0 s1 built dev s2 s3 s4 s5 s6
  have poured : s6.LinesOk := (State.publishPour_linesOk _).acts (State.panelPour_acts ..)
  clear_value s6
  exact ((poured.acts ((Acts.refl s6).each State.sendSafeState_acts)).acts (State.bookkeeping_acts ..)).acts (State.drainTx_acts ..)

/-- What every command that reaches the interrupt controller leaves: each settles the sources, brings lines up to date, or keeps what they depend on. -/
theorem State.LinesOk.exec_of_touchesIntc {c : Instr} (h : s.LinesOk) (touches : touchesIntc c = true) : ∃ t, exec c s = .next t ∧ t.LinesOk := by
  cases c with
  | powerOnReset straps => exact ⟨_, rfl, State.fullReset_linesOk _ _ _⟩
  | vinFall => exact ⟨_, rfl, State.afterReset_linesOk _ _⟩
  | nrst widthNs straps =>
    exact ⟨_, rfl, .ite (fun _ => State.fullReset_linesOk _ _ _) fun _ => h.acts (State.useFree_acts ..)⟩
  | keeperWatchdog straps => exact ⟨_, rfl, .ite (fun _ => State.keeperReset_linesOk _ _ _) fun _ => h⟩
  | orderedReset straps => exact ⟨_, rfl, .ite (fun _ => State.keeperReset_linesOk _ _ _) fun _ => h⟩
  | app0Rst master => exact ⟨_, rfl, h.commandWrite (fun u _ => u.resetApp_linesOk 0) _ _ _⟩
  | app1Rst master => exact ⟨_, rfl, h.commandWrite (fun u _ => u.resetApp_linesOk 1) _ _ _⟩
  | slotStreamEnd tests =>
    refine ⟨_, rfl, ?_⟩
    extract_lets slot
    refine .ite (fun _ => h) fun _ => ?_
    refine .ite (fun _ => h.acts (State.nextSlot_acts ..)) fun _ => ?_
    split
    · exact (State.LinesOk.setUp ((h.acts (State.bootStep_acts ..)).acts (State.useImage_acts ..)) _ _).acts (State.startRunning_acts ..)
    · exact h.acts (State.nextSlot_acts ..)
  | pour katPass => exact ⟨_, rfl, .ite (fun _ => State.LinesOk.of_intc (State.pourWork_linesOk _ _) rfl) fun _ => h⟩
  | compareFire unit =>
    exact ⟨_, rfl, .ite (fun _ => h) fun _ => .ite (fun _ => State.fireUnit_linesOk _ _) fun _ => .ite (fun _ => State.fireUnit_linesOk _ _) fun _ => h⟩
  | compareEnable master unit value =>
    exact ⟨_, rfl, .ite (fun _ => h) fun _ => h.commandWrite (fun u _ => State.settleSources_linesOk _) _ _ _⟩
  | serviceRead req => exact ⟨_, rfl, h.service 1 req⟩
  | serviceWrite req => exact ⟨_, rfl, h.service 2 req⟩
  | interruptAssert source => exact ⟨_, rfl, State.updateLines_linesOk _⟩
  | claim master target =>
    exact ⟨_, rfl, (h.accessWith (fun u hu => hu.claimRead target) master (A_INTC_T_CLAIM target) false).acts (State.complete_acts ..)⟩
  | complete master target value => exact ⟨_, rfl, h.commandWrite (fun u hu => hu.completeWrite _ _) _ _ _⟩
  | unfreeze master target => exact ⟨_, rfl, h.commandWrite (fun u _ => State.settleSources_linesOk _) _ _ _⟩
  | moderationInterval target =>
    refine ⟨_, rfl, ?_⟩
    split
    · exact State.LinesOk.updateLine (h.acts (State.reachEl_acts ..)) target
    · exact h
  | targetIdle target =>
    exact ⟨_, rfl, .ite (fun _ => State.LinesOk.updateLine (h.setTarget target (f := fun g => { g with stalled := true }) fun _ => ⟨rfl, rfl, rfl⟩) target) fun _ => State.updateLines_linesOk _⟩
  | doorbellSet master value => exact ⟨_, rfl, h.commandWrite (fun u _ => State.settleSources_linesOk _) _ _ _⟩
  | machineTimer core =>
    exact ⟨_, rfl, .ite (fun _ => ((h.acts (State.reach_acts ..)).acts (State.updateTimers_acts ..)).setTarget core fun _ => ⟨rfl, rfl, rfl⟩) fun _ => h⟩
  | hostRead addr words => exact ⟨_, rfl, .ite (fun _ => h.hostReads _ _) fun _ => h⟩
  | hostQuadRead addr words => exact ⟨_, rfl, .ite (fun _ => h.hostReads _ _) fun _ => h⟩
  | hostWrite addr words partialWord => exact ⟨_, rfl, .ite (fun _ => State.settleSources_linesOk _) fun _ => h⟩
  | hostQuadWrite addr words partialWord => exact ⟨_, rfl, .ite (fun _ => State.settleSources_linesOk _) fun _ => h⟩
  | hostWritePerform => exact ⟨_, rfl, h.performWrite⟩
  | flashErase master => exact ⟨_, rfl, h.commandWrite (fun u _ => u.flwWrite_linesOk _) _ _ _⟩
  | flashProgram master => exact ⟨_, rfl, h.commandWrite (fun u _ => u.flwWrite_linesOk _) _ _ _⟩
  | flashRead master => exact ⟨_, rfl, h.commandWrite (fun u _ => u.flwWrite_linesOk _) _ _ _⟩
  | flashCommandDone failed =>
    refine ⟨_, rfl, ?_⟩
    split
    · exact State.settleSources_linesOk _
    · exact h
  | elkPacket port header packet =>
    exact ⟨_, rfl, .ite (fun _ => h) fun _ => .ite (fun _ => h.acts (State.frameBroken_acts ..)) fun _ => h.takeFrame _ _ _⟩
  | elkUdpDatagram peer vc hopSeq packet =>
    refine ⟨_, rfl, ?_⟩
    extract_lets key
    refine .ite (fun _ => h) fun _ => .ite (fun _ => h.acts (State.bump_acts ..)) fun _ => ?_
    refine State.LinesOk.takePacket (State.LinesOk.acts ?_ (State.bump_acts ..)) _ _
    exact h.of_intc rfl
  | windowRead master offset => exact ⟨_, rfl, (h.busRead _ _).acts (State.complete_acts ..)⟩
  | registerWrite master addr value => exact ⟨_, rfl, (h.busWrite _ _ _).acts (State.complete_acts ..)⟩
  | registerRead master addr => exact ⟨_, rfl, (h.busRead _ _).acts (State.complete_acts ..)⟩
  | _ => exact absurd touches Bool.false_ne_true

end

/-- Every command keeps the lines right. -/
theorem exec_linesOk {c : Instr} {s t : State} (h : s.LinesOk) (ran : exec c s = .next t) : t.LinesOk := by
  cases touches : touchesIntc c with
  | true =>
    obtain ⟨u, hu, ok⟩ := h.exec_of_touchesIntc touches
    cases ran.symm.trans hu
    exact ok
  | false =>
    obtain ⟨m, acts, hm⟩ := acts_of_exec ran
    simp only [confines, touches, Bool.false_or, Bool.and_eq_true, Bool.not_eq_true'] at hm
    obtain ⟨⟨-, intc⟩, -⟩ := hm
    exact h.acts acts intc

/-- Settles O59. -/
theorem interruptLinesFollowTheClaimStacks : Obligations.InterruptLinesFollowTheClaimStacks := by
  unfold Obligations.InterruptLinesFollowTheClaimStacks
  intro s t ok hstep
  obtain ⟨-, rfl⟩ | ⟨c, r, -, ran⟩ := step_cases hstep
  · exact ok.acts s.tick_acts
  · exact exec_linesOk (s := { s with pending := r }) ok ran

end Sys2Proof.Machine

/-! R26, R77: the cycle period is 20 ms, 40 ms or 1 s wherever it is written. -/
namespace Sys2Proof.Machine
set_option Elab.async false

/-- R26, R77: a period that a cycle may have. -/
def LegalPeriod (p : Nat) : Prop := p = 20000000 ∨ p = 40000000 ∨ p = 1000000000

theorem legalPeriod_modePeriod (mode : Nat) : LegalPeriod (modePeriod mode) := by
  unfold modePeriod
  split
  · exact .inr (.inl rfl)
  · exact .inl rfl

/-- R26: the cycle period of the state is legal. -/
def State.Paced (s : State) : Prop := LegalPeriod s.dev.period

section
variable {s t : State} {m : Nat}

theorem State.Paced.of_period (h : s.Paced) (same : t.dev.period = s.dev.period) : t.Paced := by
  rwa [State.Paced, same]

theorem State.Paced.acts (h : s.Paced) (acts : Acts m s t) (hm : m.testBit Part.devMode.idx = false := by rfl) : t.Paced :=
  h.of_period (congrArg Prod.snd (acts.frame .devMode hm))

theorem State.Paced.ite {c : Prop} [Decidable c] (h : c → s.Paced) (k : ¬c → t.Paced) : (if c then s else t).Paced := by
  split
  · exact h ‹_›
  · exact k ‹_›

/-! Boot steps 11 and 12 (R277), where the first freeze is fixed. -/

theorem State.readyAt_paced (s : State) (t : Nat) : (s.readyAt t).Paced := legalPeriod_modePeriod _

theorem State.startAlone_paced (s : State) (lonely : Bool) : (s.startAlone lonely).Paced := State.readyAt_paced _ _

theorem State.Paced.step11 (h : s.Paced) : s.step11.Paced := by
  unfold State.step11
  split
  · exact .ite (fun _ => h) fun _ => .ite (fun _ => s.startAlone_paced _) fun _ => .ite (fun _ => s.startAlone_paced _) fun _ =>
      .ite (fun _ => s.startAlone_paced _) fun _ => .ite (fun _ => State.readyAt_paced _ _) fun _ => h
  · exact h

theorem State.Paced.takeHello (h : s.Paced) (frame : Hello) : (s.takeHello frame).Paced := by
  unfold State.takeHello
  extract_lets twn t
  have held : t.Paced := h.of_period rfl
  exact (State.Paced.ite (fun _ => held) fun _ => held.acts (State.twinSend_acts ..)).step11

theorem State.Paced.takeAuth (h : s.Paced) (sig : List Byte) (verified : List Signed) : (s.takeAuth sig verified).Paced := by
  unfold State.takeAuth
  split
  case h_1 partner _ =>
    refine .ite (fun _ => ?_) fun _ => h.acts (State.raise_acts ..)
    have met := ((h.acts (s.meetPeer_acts partner)).acts (State.reselect_acts ..)).acts (State.twinTime_acts ..)
    exact met.step11.acts (State.requestSync_acts ..)
  case h_2 => exact h

theorem State.Paced.applyChunk (h : s.Paced) (c : TwinChunk) : (s.applyChunk c).Paced := by
  cases c with
  | mode mode newMode ownNew setPoint joystick track follow joyLost => exact legalPeriod_modePeriod mode
  | epochs stateEp ladleEp => exact State.Paced.of_period (h.acts (State.setLadleEp_acts s ladleEp)) rfl
  | conditions base since expired joyAt =>
    exact State.Paced.of_period (h.acts ((Acts.refl s).foldl (l := List.range 10) fun u n => State.setFlag_acts u (bitAt A_CTL_DEGR n) (afind since n).isSome)) rfl
  | mould id block =>
    simp only [State.applyChunk]
    split
    · exact h.of_period rfl
    · exact h
  | command source lastSeq responses acked avail => exact h.of_period rfl
  | tunables values next => exact h.of_period rfl
  | fusion base fus => exact h.of_period rfl
  | control base ctl => exact h.of_period rfl
  | allocation base alc => exact h.of_period rfl
  | warm record => exact h.acts (State.xchgWrite_acts ..)
  | gnss base aiding checks => exact h.of_period rfl
  | formation epoch units => exact h.of_period rfl

/-- What a frame of the twin link does besides its consumer leaves the period. -/
theorem State.Paced.onFrame (h : s.Paced) {f : State → State} (hf : ∀ u, u.Paced → (f u).Paced) (vc : Nat) (g : TwinHeader) : (s.onFrame vc g f).Paced := by
  unfold State.onFrame
  refine .ite (fun _ => h) fun _ => .ite (fun _ => h.acts (State.twinBroken_acts ..)) fun _ => ?_
  extract_lets twn t
  have taken : t.Paced := h.of_period rfl
  refine .ite (fun _ => ?_) fun _ => taken.acts (State.twinPush_acts ..)
  refine State.Paced.acts (hf _ ?_) (State.twinPush_acts _)
  exact taken.of_period rfl

theorem State.Paced.startRunning (h : s.Paced) (tests : StartTests) : (s.startRunning tests).Paced := by
  unfold State.startRunning
  extract_lets s1 s2 ann s3
  have h1 : s1.Paced := (h.acts (State.bootStep_acts ..)).acts (State.startTests_acts ..)
  clear_value s1
  have h2 : s2.Paced := (h1.acts (State.startFields_acts ..)).acts (State.powerUpRecord_acts ..)
  clear_value s2
  have h3 : s3.Paced := by
    refine State.Paced.acts (State.Paced.acts ?_ (State.panelStart_acts _)) (State.firstTime_acts _)
    exact h2.of_period rfl
  clear_value s3
  exact .ite (fun _ => h1) fun _ => .ite (fun _ => (h3.acts (s3.bootStep_acts 11)).of_period rfl) fun _ => State.readyAt_paced _ _

/-! The freeze, which chooses the period of the cycle, and the pour. -/

theorem State.Paced.enterArmed (h : s.Paced) : s.enterArmed.Paced := by
  unfold State.enterArmed
  extract_lets t dev u v
  have released : t.Paced := h.acts (State.releaseSafe_acts ..)
  have armed : u.Paced := released.of_period rfl
  have shown : v.Paced := (armed.acts (State.setFld_acts ..)).acts (State.setFld_acts ..)
  exact (shown.acts (State.gnsPowerUp_acts ..)).acts (State.hotRestart_acts ..)

theorem State.Paced.firstFreeze (h : s.Paced) : s.firstFreeze.Paced := by
  unfold State.firstFreeze
  extract_lets common boot dev twn rcd t u
  have opened : t.Paced := by
    refine State.Paced.acts ?_ (State.calibrate_acts _)
    exact h.of_period rfl
  clear_value t
  have joined : u.Paced := .ite (fun _ => (opened.acts (State.setFlag_acts ..)).acts (State.clearSlag_acts ..)) fun _ => opened
  clear_value u
  split
  · exact joined.acts (State.refusedAtStep12_acts ..)
  · exact joined.enterArmed

/-- R26: whatever the state, the period of the next cycle is the one shown or one of the three. -/
theorem State.Paced.cyclePeriod (h : s.Paced) : LegalPeriod s.cyclePeriod := by
  unfold State.cyclePeriod
  split
  · split
    · exact .inr (.inr rfl)
    · exact h
  · exact .inl rfl
  · exact .inl rfl
  · exact legalPeriod_modePeriod _
  · exact legalPeriod_modePeriod _

theorem State.Paced.schedule (h : s.Paced) : s.schedule.Paced := h.cyclePeriod

theorem State.Paced.changeMode (h : s.Paced) (mode : Nat) : (s.changeMode mode).Paced := by
  unfold State.changeMode
  extract_lets dev t
  have changed : t.Paced := h.of_period rfl
  exact .ite (fun _ => changed) fun _ => (changed.acts (State.controlNewMode_acts ..)).acts (State.allocationNewMode_acts ..)

theorem State.Paced.orderedMode (h : s.Paced) : s.orderedMode.Paced := by
  unfold State.orderedMode
  split
  · refine .ite (fun _ => State.Paced.changeMode ?_ _) fun _ => h
    exact h.of_period rfl
  · exact h

theorem State.Paced.modeFreeze (h : s.Paced) : s.modeFreeze.Paced := by
  unfold State.modeFreeze
  split
  · refine .ite (fun _ => State.Paced.changeMode ?_ _) fun _ => h.orderedMode
    exact h.of_period rfl
  · exact h.orderedMode

theorem State.Paced.freezeWork (h : s.Paced) (before : Nat) (latch : List ChannelLatch) : (s.freezeWork before latch).Paced := by
  unfold State.freezeWork
  extract_lets s1 s2 s3 s4 s5
  have h1 : s1.Paced := .ite (fun _ => h.acts (State.enterSafe_acts ..)) fun _ => h
  clear_value s1
  have h2 : s2.Paced := (((h1.acts (State.joinNow_acts ..)).acts (State.soloCondition_acts ..)).modeFreeze.acts (State.tuneFreeze_acts ..)).schedule
  clear_value s2
  have h3 : s3.Paced := ((h2.acts (State.lanesFreeze_acts ..)).acts (State.bankSwitchNow_acts ..)).acts (State.sparesFreeze_acts ..)
  have h4 : s4.Paced := h3.acts (State.gnssFreeze_acts ..)
  have h5 : s5.Paced := (h4.acts (State.availabilityFreeze_acts ..)).acts ((Acts.refl _).when State.fullFreeze_acts)
  clear_value s5
  exact (((((h5.acts (State.fieldFreeze_acts ..)).acts (State.canFreeze_acts ..)).acts (State.brakeTestFreeze_acts ..)).acts
    (State.statusItems_acts ..)).acts (State.anchorFreeze_acts ..)).acts (State.breakViews_acts ..)

theorem State.Paced.unparkNow (h : s.Paced) : s.unparkNow.Paced := by
  unfold State.unparkNow
  refine .ite (fun _ => State.Paced.acts ?_ (State.gnsPowerUp_acts _)) fun _ => h
  exact h.of_period rfl

theorem State.Paced.pourAct (h : s.Paced) (a : PourAct) : (s.pourAct a).Paced := by
  cases a with
  | engage side => exact h.acts (State.engageNow_acts ..)
  | disengage => exact h.acts (State.disengageNow_acts ..)
  | transfer => exact h.acts (State.transferNow_acts ..)
  | park => exact h.acts (State.parkNow_acts ..)
  | unpark => exact h.unparkNow
  | safe => exact h.acts (State.safeNow_acts ..)
  | reset => exact h.of_period rfl

theorem State.Paced.transitions (h : s.Paced) : s.transitions.Paced := by
  unfold State.transitions
  extract_lets t
  have shut : t.Paced := h.acts (State.shutdownAction_acts ..)
  exact List.foldlRecOn (motive := State.Paced) _ _ (shut.of_period rfl) fun _ hu a _ => hu.pourAct a

theorem State.Paced.pourWork (h : s.Paced) (katPass : Bool) : (s.pourWork katPass).Paced := by
  unfold State.pourWork
  extract_lets full s0 s1 built dev s2 s3 s4 s5 s6
  have h0 : s0.Paced := h.acts (State.fillQueues_acts ..)
  have h1 : s1.Paced := .ite (fun _ => h0.acts (State.arbitrationWork_acts ..)) fun _ => h0
  clear_value s1
  have h2 : s2.Paced := State.Paced.of_period (h1.acts (State.buildImage_acts ..)) rfl
  clear_value s2
  have h3 : s3.Paced := h2.transitions.acts (State.takeOverNow_acts ..)
  clear_value s3
  have h4 : s4.Paced := .ite (fun _ => (((h3.acts (State.scenarioAlarms_acts ..)).acts (State.injectionChecks_acts ..)).acts
    (State.driveCommands_acts ..)).acts (State.publishCycle_acts ..)) fun _ => h3
  clear_value s4
  have h5 : s5.Paced := h4.acts ((Acts.refl s4).each State.brakePour_acts)
  have h6 : s6.Paced := ((h5.acts (State.sendResponses_acts ..)).acts (State.publishPour_acts ..)).acts (State.panelPour_acts ..)
  clear_value s6
  exact ((h6.acts ((Acts.refl s6).each State.sendSafeState_acts)).acts (State.bookkeeping_acts ..)).acts (State.drainTx_acts ..)

/-! Resets, after which the period is that of `State.reset`. -/

theorem State.afterReset_paced (s : State) (straps : Straps) : (s.afterReset straps).Paced := .inl rfl

theorem State.fullReset_paced (s : State) (straps : Straps) (cause : Fld) : (s.fullReset straps cause).Paced := by
  unfold State.fullReset
  exact (((s.afterReset_paced straps).acts (State.setCause_acts ..)).acts (State.setFlag_acts ..)).acts (State.setFlag_acts ..)

theorem State.keeperReset_paced (s : State) (straps : Straps) (cause : Fld) : (s.keeperReset straps cause).Paced := by
  unfold State.keeperReset
  extract_lets s0 t q0 q1 q2 u v
  have fresh : t.Paced := s0.afterReset_paced straps
  have kept : u.Paced := fresh.of_period rfl
  have shown : v.Paced := ((kept.acts (State.setCause_acts ..)).acts (State.setFlag_acts ..)).acts (State.setFlag_acts ..)
  exact (shown.acts ((Acts.refl v).each (State.showBrake_acts · ·))).acts (State.globalSafe_acts ..)

/-- What every command that may change the mode and the period leaves. -/
theorem State.Paced.exec_of_touchesMode {c : Instr} (h : s.Paced) (touches : touchesMode c = true) : ∃ t, exec c s = .next t ∧ t.Paced := by
  cases c with
  | powerOnReset straps => exact ⟨_, rfl, State.fullReset_paced ..⟩
  | vinFall => exact ⟨_, rfl, State.afterReset_paced ..⟩
  | nrst widthNs straps => exact ⟨_, rfl, .ite (fun _ => State.fullReset_paced ..) fun _ => h.acts (State.useFree_acts ..)⟩
  | keeperWatchdog straps => exact ⟨_, rfl, .ite (fun _ => State.keeperReset_paced ..) fun _ => h⟩
  | orderedReset straps => exact ⟨_, rfl, .ite (fun _ => State.keeperReset_paced ..) fun _ => h⟩
  | helloFrame header frame => exact ⟨_, rfl, h.onFrame (fun u hu => hu.takeHello frame) 2 header⟩
  | authFrame header sig verified => exact ⟨_, rfl, h.onFrame (fun u hu => hu.takeAuth sig verified) 2 header⟩
  | timeMarker marker =>
    exact ⟨_, rfl, .ite (fun _ => ((h.acts (State.takeMarker_acts ..)).acts (State.twinTime_acts ..)).step11) fun _ => h⟩
  | startFrame header firstFreeze epoch =>
    exact ⟨_, rfl, h.onFrame (fun u hu => .ite (fun _ => State.readyAt_paced ..) fun _ => hu) 2 header⟩
  | twinWaitEnd => exact ⟨_, rfl, .ite (fun _ => State.startAlone_paced ..) fun _ => h⟩
  | stateFrame header chunk =>
    exact ⟨_, rfl, h.onFrame (fun u hu => .ite (fun _ => hu.applyChunk chunk) fun _ => hu) 0 header⟩
  | slotStreamEnd tests =>
    refine ⟨_, rfl, ?_⟩
    extract_lets slot
    refine .ite (fun _ => h) fun _ => ?_
    refine .ite (fun _ => h.acts (State.nextSlot_acts ..)) fun _ => ?_
    split
    · exact State.Paced.startRunning (((h.acts (State.bootStep_acts ..)).acts (State.useImage_acts ..)).acts (State.setUp_acts ..)) tests
    · exact h.acts (State.nextSlot_acts ..)
  | cycleFreeze latch =>
    refine ⟨_, rfl, .ite (fun _ => ?_) fun _ => h⟩
    have opened : s.openCycle.Paced := h.acts s.openCycle_acts
    exact State.Paced.freezeWork (.ite (fun _ => opened.firstFreeze) fun _ => opened) _ latch
  | pour katPass =>
    refine ⟨_, rfl, .ite (fun _ => ?_) fun _ => h⟩
    have poured := (h.acts (s.reach_acts s.dev.pourAt)).pourWork katPass
    exact poured.of_period rfl
  | _ => exact absurd touches Bool.false_ne_true

end

/-- Every command keeps the period legal. -/
theorem exec_paced {c : Instr} {s t : State} (h : s.Paced) (ran : exec c s = .next t) : t.Paced := by
  cases touches : touchesMode c with
  | true =>
    obtain ⟨u, hu, paced⟩ := h.exec_of_touchesMode touches
    cases ran.symm.trans hu
    exact paced
  | false =>
    have kept := (onlyListedCommandsTouchFlashModeEpochTimeAndRecords c s t ran).2.2.2.1 touches
    exact h.of_period kept.2

/-- Settles O14. -/
theorem cyclePeriodStaysLegal : Obligations.CyclePeriodStaysLegal := by
  unfold Obligations.CyclePeriodStaysLegal
  have start : State.reset.Paced := .inl rfl
  refine ⟨start, fun s t paced hstep => ?_⟩
  obtain ⟨-, rfl⟩ | ⟨c, r, -, ran⟩ := step_cases hstep
  · exact State.Paced.acts paced s.tick_acts
  · exact exec_paced (s := { s with pending := r }) paced ran

end Sys2Proof.Machine

/-! Chains of operations: what a whole command changes, read off its operations one by one. -/
namespace Sys2Proof.Machine
set_option Elab.async false

/-- The mask of a list of parts, as `Acts` takes it. -/
def partMask (ps : List Part) : Nat := ps.foldr (fun p m => 2 ^ p.idx ||| m) 0

theorem Part.idx_injective {p q : Part} (h : p.idx = q.idx) : p = q := by
  have code (p : Part) : Part.ofNat p.idx = p := by cases p <;> rfl
  rw [← code p, h, code q]

theorem testBit_partMask {p : Part} {ps : List Part} (h : p ∉ ps) : (partMask ps).testBit p.idx = false := by
  induction ps with
  | nil => exact Nat.zero_testBit _
  | cons q ps ih =>
    obtain ⟨other, rest⟩ := not_or.mp (List.mem_cons.not.mp h)
    have apart : q.idx ≠ p.idx := fun e => other (Part.idx_injective e).symm
    simp only [partMask, List.foldr_cons, Nat.testBit_or, Nat.testBit_two_pow_of_ne apart, Bool.false_or]
    exact ih rest

theorem Acts.framed {ps : List Part} {s t : State} (h : Acts (partMask ps) s t) : Frame ps s t :=
  fun p hp => h.frame p (testBit_partMask hp)

/-- From a sound `s` to a sound `t` nothing changes but the listed parts, and in the register bank and the alarms nothing but the listed fields and codes. -/
structure Changes (ps : List Part) (fs : List Fld) (cs : List Nat) (s t : State) : Prop where
  sound : t.Sound
  frame : Frame ps s t
  fields : FieldsBut fs s t
  alarms : AlarmsBut cs s t

namespace Changes
variable {ps : List Part} {fs : List Fld} {cs : List Nat} {s t u : State} {m : Nat}

theorem refl (h : s.Sound) : Changes ps fs cs s s := ⟨h, Frame.refl ps s, fun _ _ _ => rfl, fun _ _ => rfl⟩

theorem trans (h : Changes ps fs cs s t) (k : Changes ps fs cs t u) : Changes ps fs cs s u :=
  ⟨k.sound, h.frame.trans k.frame, fun g hg ha => (k.fields g hg ha).trans (h.fields g hg ha), fun c hc => (k.alarms c hc).trans (h.alarms c hc)⟩

/-- An operation within the parts that leaves registers and alarms alone. -/
theorem acts (h : Changes ps fs cs s t) (k : Acts m t u) (within : m ||| partMask ps = partMask ps := by decide)
    (regs : m.testBit Part.regs.idx = false := by decide) (alarms : m.testBit Part.alarms.idx = false := by decide) : Changes ps fs cs s u where
  sound := k.sound h.sound
  frame := h.frame.trans fun p hp => k.frame p (mask_sub within (testBit_partMask hp))
  fields := fun g hg ha => by
    rw [← h.fields g hg ha]
    unfold State.fld State.reg
    rw [show u.regs = t.regs from k.frame .regs regs]
  alarms := fun c hc => (alarm_of_acts k alarms).trans (h.alarms c hc)

/-- An operation on the register bank that marks some of the fields. -/
theorem marks (h : Changes ps fs cs s t) (k : Acts m t u) (marks : Marks fs t u) (within : m ||| partMask ps = partMask ps := by decide)
    (alarms : m.testBit Part.alarms.idx = false := by decide) : Changes ps fs cs s u where
  sound := k.sound h.sound
  frame := h.frame.trans fun p hp => k.frame p (mask_sub within (testBit_partMask hp))
  fields := fun g hg ha => ((marks h.sound).2 g hg ha).trans (h.fields g hg ha)
  alarms := fun c hc => (alarm_of_acts k alarms).trans (h.alarms c hc)

/-- A record update of the parts, with no register and no alarm among what it sets. -/
theorem upd (h : Changes ps fs cs s t) (u : State) (frame : Frame ps t u := by intro p hp; cases p <;> first | rfl | simp at hp)
    (sound : t.Sound → u.Sound := by exact fun k => k.of_eq rfl rfl rfl rfl rfl rfl rfl rfl rfl rfl rfl rfl rfl rfl)
    (regs : u.regs = t.regs := by rfl) (alarms : u.alarms = t.alarms := by rfl) : Changes ps fs cs s u where
  sound := sound h.sound
  frame := h.frame.trans frame
  fields := fun g hg ha => by
    rw [← h.fields g hg ha]
    unfold State.fld State.reg
    rw [regs]
  alarms := fun c hc => by
    rw [← h.alarms c hc]
    unfold State.alarm?
    rw [alarms]

theorem setReg (h : Changes ps fs cs s t) (a : Nat) (w : Word) (hf : word32 a ∈ fs := by simp)
    (within : 34359738368 ||| partMask ps = partMask ps := by decide) : Changes ps fs cs s (t.setReg a w) :=
  h.marks (State.setReg_acts ..) ((Marks.refl t).setReg hf) within

theorem setFld (h : Changes ps fs cs s t) (f : Fld) (v : Nat) (fits : f.fits = true := by rfl) (hf : f ∈ fs := by simp)
    (within : 34359738368 ||| partMask ps = partMask ps := by decide) : Changes ps fs cs s (t.setFld f v) :=
  h.marks (State.setFld_acts ..) ((Marks.refl t).setFld fits hf) within

theorem setFlag (h : Changes ps fs cs s t) (f : Fld) (b : Bool) (fits : f.fits = true := by rfl) (hf : f ∈ fs := by simp)
    (within : 34359738368 ||| partMask ps = partMask ps := by decide) : Changes ps fs cs s (t.setFlag f b) := h.setFld f _ fits hf within

theorem event (h : Changes ps fs cs s t) (f : Fld) (fits : f.fits = true := by rfl) (hf : f ∈ fs := by simp)
    (within : 34359738368 ||| partMask ps = partMask ps := by decide) : Changes ps fs cs s (t.event f) := h.setFld f _ fits hf within

theorem bump (h : Changes ps fs cs s t) (f : Fld) (n : Nat) (fits : f.fits = true := by rfl) (hf : f ∈ fs := by simp)
    (within : 34359738368 ||| partMask ps = partMask ps := by decide) : Changes ps fs cs s (t.bump f n) := h.setFld f _ fits hf within

theorem record (h : Changes ps fs cs s t) (a b : Nat) (p : List Word) (hf : ∀ f ∈ recFields, f ∈ fs := by simp [recFields])
    (within : 34359738624 ||| partMask ps = partMask ps := by decide) : Changes ps fs cs s (t.record a b p) :=
  h.marks (State.record_acts ..) ((Marks.refl t).record hf) within

theorem raise (h : Changes ps fs cs s t) (a : Nat) (p : List Word) (ha : a ∈ cs := by simp) (hf : ∀ f ∈ recFields, f ∈ fs := by simp [recFields])
    (within : 34359738752 ||| partMask ps = partMask ps := by decide) : Changes ps fs cs s (t.raise a p) where
  sound := h.sound.raise a p
  frame := h.frame.trans fun q hq => (State.raise_acts t a p).frame q (mask_sub within (testBit_partMask hq))
  fields := fun g hg apart => (((Marks.refl t).raise hf h.sound).2 g hg apart).trans (h.fields g hg apart)
  alarms := fun c hc => (alarm_raise_other fun (e : a = c) => hc (e ▸ ha)).trans (h.alarms c hc)

theorem causeGone (h : Changes ps fs cs s t) (a : Nat) (ha : a ∈ cs := by simp) (hf : ∀ f ∈ recFields, f ∈ fs := by simp [recFields])
    (within : 34359738752 ||| partMask ps = partMask ps := by decide) : Changes ps fs cs s (t.causeGone a) where
  sound := (State.causeGone_acts t a).sound h.sound
  frame := h.frame.trans fun q hq => (State.causeGone_acts t a).frame q (mask_sub within (testBit_partMask hq))
  fields := fun g hg apart => (((Marks.refl t).causeGone hf h.sound).2 g hg apart).trans (h.fields g hg apart)
  alarms := fun c hc => (alarm_causeGone_other fun (e : a = c) => hc (e ▸ ha)).trans (h.alarms c hc)

theorem ite {c : Prop} [Decidable c] (h : c → Changes ps fs cs s t) (k : ¬c → Changes ps fs cs s u) : Changes ps fs cs s (if c then t else u) := by
  split
  · exact h ‹_›
  · exact k ‹_›

theorem when {f : State → State} {b : Bool} (h : Changes ps fs cs s t) (k : ∀ u, Changes ps fs cs s u → Changes ps fs cs s (f u)) :
    Changes ps fs cs s (t.when b f) := by
  unfold State.when
  exact ite (fun _ => k t h) fun _ => h

theorem each {f : State → Nat → State} {ns : List Nat} (h : Changes ps fs cs s t)
    (k : ∀ u, ∀ n ∈ ns, Changes ps fs cs s u → Changes ps fs cs s (f u n)) : Changes ps fs cs s (t.each ns f) :=
  List.foldlRecOn (motive := Changes ps fs cs s) _ _ h fun u hu n hn => k u n hn hu

theorem mono {ps' : List Part} {fs' : List Fld} {cs' : List Nat} (h : Changes ps' fs' cs' s t) (hp : ∀ p ∈ ps', p ∈ ps := by simp)
    (hf : ∀ f ∈ fs', f ∈ fs := by simp) (hc : ∀ c ∈ cs', c ∈ cs := by simp) : Changes ps fs cs s t where
  sound := h.sound
  frame := h.frame.mono hp
  fields := fun g hg ha => h.fields g hg fun f hm => ha f (hf f hm)
  alarms := fun c ha => h.alarms c fun hm => ha (hc c hm)

/-- A field that none of the listed fields overlaps. -/
theorem fld (h : Changes ps fs cs s t) (g : Fld) (fits : g.fits = true := by rfl) (apart : ∀ f ∈ fs, f.apart g := by unfold Fld.apart; decide) :
    t.fld g = s.fld g := h.fields g fits apart

/-- A flag that none of the listed fields overlaps. -/
theorem flag (h : Changes ps fs cs s t) (g : Fld) (fits : g.fits = true := by rfl) (apart : ∀ f ∈ fs, f.apart g := by unfold Fld.apart; decide) :
    t.flag g = s.flag g := by
  unfold State.flag
  rw [h.fields g fits apart]

end Changes

end Sys2Proof.Machine

/-! R18: windows of the root clock monitor. -/
namespace Sys2Proof.Machine
set_option Elab.async false

/-- Forcing the global safe state raises its own alarm, may end tests and hand the Ladle over, and leaves the alarms of all other codes. -/
theorem alarm_globalSafe {s : State} {cause c : Nat} (own : c ∉ [0x0A04, 0x0A09, 0x0A0A, 0x0408, 0x130C, 0x1603]) :
    (s.globalSafe cause).alarm? c = s.alarm? c := by
  obtain ⟨entry, passed, aborted, handed, injected, fallback⟩ : 0x0A04 ≠ c ∧ 0x0A09 ≠ c ∧ 0x0A0A ≠ c ∧ 0x0408 ≠ c ∧ 0x130C ≠ c ∧ 0x1603 ≠ c := by
    simp only [List.mem_cons, List.not_mem_nil, or_false, not_or] at own
    omega
  unfold State.globalSafe
  extract_lets isFirst s1 pins s2 s3 s4 s5
  have a2 : s2.alarm? c = s.alarm? c :=
    (alarm_of_acts (State.stopInjection_acts (s.endBrakeTest 4) 3) rfl).trans (alarm_endBrakeTest passed aborted)
  clear_value s2
  have a3 : s3.alarm? c = s.alarm? c := by
    simp only [s3]
    split
    · rw [alarm_raise_other entry, ← a2]
      rfl
    · exact a2
  have a5 : s5.alarm? c = s.alarm? c :=
    (alarm_of_acts (State.settleBrakes_acts s4) rfl).trans ((alarm_of_acts (State.dropLease_acts s3) rfl).trans a3)
  clear_value s5
  split
  · exact a5
  · rw [alarm_inSafeState injected fallback]
    split
    · rw [alarm_handOver passed aborted handed, a5]
    · rw [alarm_dropToArmed passed aborted, a5]
  all_goals rw [alarm_inSafeState injected fallback, a5]

/-- R18: a failing window: it is counted, CLKMON_OK clears and CLKMON_EVT sets. -/
def State.failWindow (s : State) : State :=
  ({ s with clk := { s.clk with failedWindows := s.clk.failedWindows + 1 } }.setFlag F_GLB_STATUS_CLKMON_OK false).event F_GLB_STATUS_CLKMON_EVT

theorem State.failWindow_acts (s : State) : Acts (partMask [.clk, .regs]) s s.failWindow :=
  ((Acts.upd_clk (.refl s) (by decide)).step (State.setFlag_acts ..) (by decide)).step (State.event_acts ..) (by decide)

theorem State.failWindow_changes {s : State} (sound : s.Sound) :
    Changes [.clk, .regs] [F_GLB_STATUS_CLKMON_OK, F_GLB_STATUS_CLKMON_EVT] [] s s.failWindow :=
  (((Changes.refl sound).acts (.upd_clk (m := partMask [.clk]) (.refl s) rfl)).setFlag _ _).event _

theorem State.failWindow_flags {s : State} (sound : s.Sound) :
    s.failWindow.flag F_GLB_STATUS_CLKMON_OK = false ∧ s.failWindow.flag F_GLB_STATUS_CLKMON_EVT = true := by
  have counted : ({ s with clk := { s.clk with failedWindows := s.clk.failedWindows + 1 } } : State).Sound :=
    (Acts.upd_clk (m := partMask [.clk]) (.refl s) rfl).sound sound
  have cleared := counted.setFlag F_GLB_STATUS_CLKMON_OK false
  refine ⟨?_, flag_event cleared _ rfl⟩
  rw [State.failWindow, flag_event_other cleared _ _ rfl rfl (.inr (by decide)), flag_setFlag counted _ _ rfl]

theorem exec_clockMonitorWindow_passing {n : Nat} {s : State} (vin : s.clk.vin = true) (inside : 950 ≤ n ∧ n ≤ 1050) :
    exec (.clockMonitorWindow n) s = .next ({ s with clk := { s.clk with failedWindows := 0 } }.setFlag F_GLB_STATUS_CLKMON_OK true) := by
  simp [exec_clockMonitorWindow, execClockMonitorWindow, vin, windowPasses, inside]

theorem exec_clockMonitorWindow_failing {n : Nat} {s : State} (vin : s.clk.vin = true) (outside : ¬(950 ≤ n ∧ n ≤ 1050)) :
    exec (.clockMonitorWindow n) s =
      .next (if 1 ≤ s.clk.failedWindows then (s.failWindow.raise 0x0003).globalSafe 1 else s.failWindow) := by
  have fails : windowPasses n = false := by simpa [windowPasses] using outside
  simp only [exec_clockMonitorWindow, execClockMonitorWindow, vin, fails, State.failWindow]
  simp

/-- Settles O10. -/
theorem clockMonitorWindowsPassOrForceTheGlobalSafeState : Obligations.ClockMonitorWindowsPassOrForceTheGlobalSafeState := by
  unfold Obligations.ClockMonitorWindowsPassOrForceTheGlobalSafeState
  intro n s sound vin
  refine ⟨fun inside => ?passes, fun outside first => ?first, fun outside again => ?second⟩
  case passes =>
    have counted := (Changes.refl (ps := [.clk, .regs]) (fs := [F_GLB_STATUS_CLKMON_OK]) (cs := []) sound).acts
      (.upd_clk (m := partMask [.clk]) (clk0 := { s.clk with failedWindows := 0 }) (.refl s) rfl)
    have shown := counted.setFlag F_GLB_STATUS_CLKMON_OK true
    exact ⟨_, exec_clockMonitorWindow_passing vin inside, rfl, flag_setFlag counted.sound _ _ rfl, shown.frame, shown.fields⟩
  case first =>
    obtain ⟨ok, evt⟩ := State.failWindow_flags sound
    have failed := State.failWindow_changes sound
    refine ⟨s.failWindow, by simp [exec_clockMonitorWindow_failing vin outside, first], ?_, ok, evt, failed.frame, failed.fields⟩
    simp [State.failWindow, first]
  case second =>
    obtain ⟨ok, evt⟩ := State.failWindow_flags sound
    have failed := State.failWindow_changes sound
    have raised : (s.failWindow.raise 0x0003).Sound := failed.sound.raise _ _
    have keeps {g : Fld} (hg : g.safeBit) (h1 : g.addr ≠ A_SAF_STATUS) (h2 : g.addr ≠ A_SAF_CAUSE) :
        ((s.failWindow.raise 0x0003).globalSafe 1).flag g = s.failWindow.flag g := by
      unfold State.flag
      rw [((Keeps.refl _).globalSafe hg h1 h2 raised).2, fld_raise failed.sound _ _ _ hg.rec.1 hg.rec.2]
    obtain ⟨safed, st⟩ := globalSafe_spec raised 1
    have acts : Acts (partMask [.clk, .dev, .alarms, .rcd, .mram, .pins, .twn, .saf, .ctl, .alc, .fch, .regs, .out, .devSt, .ladle, .lease, .brakes]) s
        ((s.failWindow.raise 0x0003).globalSafe 1) :=
      (((s.failWindow_acts.mono (by decide)).step (State.raise_acts ..) (by decide)).step (State.globalSafe_acts ..) (by decide))
    refine ⟨_, by rw [exec_clockMonitorWindow_failing vin outside, if_pos again], safed.global, ?_, ?_, ?_, fun entering => ?_, fun past => ?_, ?_⟩
    · rw [State.Alarmed, alarm_globalSafe (by decide), alarm_raise, if_pos rfl]
    · rw [keeps ⟨by decide, rfl, fun h => absurd h (by decide)⟩ (by decide) (by decide), ok]
    · rw [keeps ⟨by decide, rfl, fun h => absurd h (by decide)⟩ (by decide) (by decide), evt]
    · refine globalSafe_cause raised 1 (by decide) ?_
      rw [← entering]
      exact (flag_raise failed.sound _ _ _ (by decide) (by decide)).trans (failed.flag _)
    · have kept : (s.failWindow.raise 0x0003).dev = s.dev := State.raise_dev ..
      rw [st, kept, if_neg past]
    · exact acts.framed

end Sys2Proof.Machine

/-! R57, R59: the boot stops in SAFE. -/
namespace Sys2Proof.Machine
set_option Elab.async false

section
variable {g : Fld} {s t : State}

/-- Loading a rule of an access table leaves every register before those tables. -/
theorem Keeps.loadRule (fits : g.fits = true) (below : g.addr < 0xe0100) (h : Keeps g s t) (r k mask low high perm : Nat) :
    Keeps g s (t.loadRule r k mask low high perm) := by
  have outside {a : Nat} (ha : 0xe0100 ≤ a) : g.addr ≠ a := by omega
  unfold State.loadRule
  refine Keeps.setFld ?_ rfl fits (.inl (outside (by simp [F_ACC_R_N_N, A_ACC_R_N])))
  exact (((h.setReg (outside (by simp only [A_ACC_R_MASK]; omega))).setReg (outside (by simp only [A_ACC_R_LOW]; omega))).setReg
    (outside (by simp only [A_ACC_R_HIGH]; omega))).setReg (outside (by simp only [A_ACC_R_PERM]; omega))

theorem Keeps.lockFixed (fits : g.fits = true) (below : g.addr < 0xe0100) (other : g.addr ≠ A_KPR_LOCK) (h : Keeps g s t) : Keeps g s t.lockFixed := by
  unfold State.lockFixed
  refine Keeps.setFlag ?_ rfl fits (.inl other)
  exact List.foldlRecOn (motive := Keeps g s) _ _ h fun u hu r _ => hu.loadRule fits below _ _ _ _ _ _

/-- Stopping the boot leaves every register but KPR_BOOTSTAT, KPR_LOCK and those of the access tables. -/
theorem Keeps.bootToSafe (fits : g.fits = true) (below : g.addr < 0xe0100) (lock : g.addr ≠ A_KPR_LOCK) (stat : F_KPR_BOOTSTAT_STATE.apart g)
    (h : Keeps g s t) : Keeps g s t.bootToSafe := by
  unfold State.bootToSafe
  extract_lets u v
  have shown : Keeps g s u := h.setFld rfl fits stat
  have locked : Keeps g s v := .ite (fun _ => shown) fun _ => shown.lockFixed fits below lock
  exact locked.upd rfl fun sound => sound.of_eq rfl rfl rfl rfl rfl rfl rfl rfl rfl rfl rfl rfl rfl rfl

/-- R57: a stopped boot: the device in SAFE without cycles, with its reason in KPR_BOOTSTAT. -/
theorem State.bootToSafe_spec (sound : s.Sound) :
    s.bootToSafe.dev = { s.dev with st := .safe, cycling := false } ∧ s.bootToSafe.fld F_KPR_BOOTSTAT_STATE = (if s.pat.loaded then 4 else 2) ∧
    s.bootToSafe.locked = true := by
  unfold State.bootToSafe
  extract_lets t u
  have dev : u.dev = s.dev := by
    show (if _ then _ else _ : State).dev = _
    split
    · rfl
    · exact (State.lockFixed_acts t).frame .dev rfl
  have shown : t.Sound := sound.setFld _ _
  have kept : Keeps F_KPR_BOOTSTAT_STATE t u := .ite (fun _ => .refl t) fun _ => (Keeps.refl t).lockFixed rfl (by decide) (by decide)
  have locked : u.locked = true := by
    show (if _ then _ else _ : State).locked = _
    split
    · assumption
    · refine flag_setFlag ?_ F_KPR_LOCK_LOCKED true rfl
      exact List.foldlRecOn (motive := State.Sound) _ _ shown fun v hv r _ => (State.loadRule_acts v ..).sound hv
  refine ⟨congrArg (fun d : Dev => { d with st := .safe, cycling := false }) dev, ?_, locked⟩
  refine (kept shown).2.trans ?_
  rw [fld_setFld sound _ _ rfl]
  split <;> rfl

/-- R57: what a stopped boot changes. -/
theorem State.bootToSafe_frame (s : State) : Acts (partMask [.boot, .dev, .devSt, .regs]) s s.bootToSafe := s.bootToSafe_acts.mono (by decide)

end

/-! The loss of REFIN or of lock (R19). -/

section
variable {s : State} {code : Nat}

/-- R19: what a lost clock leaves, in BOOT and past it. -/
def ClockLost (code : Nat) (s t : State) : Prop :=
  t.Alarmed code ∧ AlarmsBut [code] s t ∧ t.clk.pllHeld = true ∧ t.clk.noRenew = true

/-- R19: the loss itself: its alarm, the held PLL and the end of renewals. -/
def State.holdPll (s : State) (code : Nat) : State := { s.raise code with clk := { s.clk with pllHeld := true, noRenew := true } }

theorem State.holdPll_changes (sound : s.Sound) (code : Nat) : Changes [.clk, .alarms, .rcd, .regs] recFields [code] s (s.holdPll code) :=
  ((Changes.refl sound).raise code []).acts (.upd_clk (m := partMask [.clk]) (.refl _) rfl)

theorem State.holdPll_alarmed (s : State) (code : Nat) : (s.holdPll code).Alarmed code := by
  show (s.raise code).alarm? code = _
  rw [alarm_raise, if_pos rfl]

/-- R19: past BOOT the device enters SAFE at the next cycle boundary. -/
theorem State.clockLost_of_past (past : s.dev.st ≠ .boot) (code : Nat) :
    s.clockLost code = { s.holdPll code with clk := { (s.holdPll code).clk with boundarySafe := true } } := by
  have kept : (s.holdPll code).dev.st = s.dev.st := congrArg (·.st) (State.raise_dev ..)
  exact if_neg (kept ▸ past)

/-- R19: a boot that has started stops at once. -/
theorem State.clockLost_of_boot (boot : s.dev.st = .boot) (started : s.boot.started = true) (running : s.boot.halted = false) (code : Nat) :
    s.clockLost code = (s.holdPll code).bootToSafe := by
  have dev : (s.holdPll code).dev.st = .boot := (congrArg (·.st) (State.raise_dev ..) : (s.holdPll code).dev.st = s.dev.st).trans boot
  have kept : (s.holdPll code).boot = s.boot := State.raise_boot ..
  have runs : ((s.holdPll code).boot.started && !(s.holdPll code).boot.halted) = true := by rw [kept, started, running]; rfl
  exact (if_pos dev).trans (if_pos runs)

end

/-! VALID of the field channels (R415, R513). -/

/-- VALID of a channel enters no channel's validity. -/
theorem State.showFch_fchValid {s : State} (sound : s.Sound) (k n : Nat) : (s.showFch k).fchValid n = s.fchValid n := by
  have others (f : Fld) (fits : f.fits = true) (apart : f.addr ≠ A_FCH_STATUS k ∨ 0 < f.lo) : (s.showFch k).fld f = s.fld f :=
    fld_setFld_other sound _ _ _ rfl fits (apart.imp id .inl)
  have mode : (s.showFch k).fchOutput n = s.fchOutput n := by
    simp only [State.fchOutput, State.fchMode]
    rw [others (F_FCH_CFG_MODE n) rfl (.inl (by simp only [F_FCH_CFG_MODE, A_FCH_CFG, A_FCH_STATUS]; omega))]
  simp only [State.fchValid, mode, State.flag]
  rw [others (F_FCH_STATUS_SETTLED n) rfl (.inr (Nat.le_of_ble_eq_true rfl)), others (F_FCH_STATUS_WIRE_BREAK n) rfl (.inr (Nat.le_of_ble_eq_true rfl)),
    others (F_FCH_STATUS_SHORT n) rfl (.inr (Nat.le_of_ble_eq_true rfl)), others (F_FCH_STATUS_OVER n) rfl (.inr (Nat.le_of_ble_eq_true rfl)),
    others (F_FCH_STATUS_NO_ENGINE n) rfl (.inr (Nat.le_of_ble_eq_true rfl))]
  rfl

theorem State.showFch_flag {s : State} (sound : s.Sound) (k n : Nat) :
    (s.showFch k).flag (F_FCH_STATUS_VALID n) = if k = n then s.fchValid n else s.flag (F_FCH_STATUS_VALID n) := by
  split
  case isTrue same => exact same ▸ flag_setFlag sound _ _ rfl
  case isFalse other =>
    exact flag_setFlag_other sound _ _ _ rfl rfl (.inl (by simp only [F_FCH_STATUS_VALID, A_FCH_STATUS]; omega))

theorem State.each_showFch {s : State} (sound : s.Sound) (l : List Nat) (n : Nat) :
    (s.each l State.showFch).fchValid n = s.fchValid n ∧
    (s.each l State.showFch).flag (F_FCH_STATUS_VALID n) = if n ∈ l then s.fchValid n else s.flag (F_FCH_STATUS_VALID n) := by
  induction l generalizing s with
  | nil => exact ⟨rfl, rfl⟩
  | cons k l ih =>
    have shown : (s.showFch k).Sound := sound.setFlag ..
    obtain ⟨valid, flag⟩ := ih shown
    refine ⟨valid.trans (s.showFch_fchValid sound k n), flag.trans ?_⟩
    rw [State.showFch_fchValid sound, State.showFch_flag sound]
    by_cases hk : k = n <;> simp [hk, Ne.symm]

/-- R513: VALID of every channel in use shows whether the channel is valid. -/
theorem State.showFields_valid {s : State} (sound : s.Sound) {n : Nat} (used : s.fchUsed n = true) :
    s.showFields.fchValid n = s.fchValid n ∧ s.showFields.flag (F_FCH_STATUS_VALID n) = s.fchValid n := by
  obtain ⟨valid, flag⟩ := State.each_showFch sound ((List.range 128).filter s.fchUsed) n
  have below : n < 128 := of_decide_eq_true (Bool.and_eq_true_iff.mp used).1
  exact ⟨valid, flag.trans (if_pos (by simp [below, used]))⟩

theorem Changes.showFields {ps : List Part} {fs : List Fld} {cs : List Nat} {s t : State} (h : Changes ps fs cs s t)
    (hf : ∀ n < 128, F_FCH_STATUS_VALID n ∈ fs) (within : 34359738368 ||| partMask ps = partMask ps := by decide) :
    Changes ps fs cs s t.showFields :=
  h.each fun _ n hn hu => hu.setFlag _ _ rfl (hf n (List.mem_range.mp (List.mem_filter.mp hn).1)) within

/-! The cause of an alarm goes (R534). -/

theorem State.find_filter_code (l : List Alarm) (c : Nat) : (l.filter (fun a => a.code != c)).find? (fun a => a.code = c) = none := by
  simp [List.find?_eq_none]

/-- R534: an alarm whose cause has gone is inactive, or active until its acknowledgement. -/
theorem State.causeGone_causeGone (s : State) (c : Nat) : (s.causeGone c).CauseGone c := by
  unfold State.causeGone State.CauseGone
  intro a found
  split at found
  case h_1 =>
    have dropped : (s.dropAlarm c).alarm? c = none := by
      unfold State.dropAlarm
      extract_lets t
      have gone : t.alarm? c = none := State.find_filter_code s.alarms c
      split
      · rw [alarm_record, gone]
      · exact gone
    rw [dropped] at found
    cases found
  case h_2 =>
    have waits := (find_putAlarm ⟨c, false, false⟩ c s.alarms).symm.trans found
    rw [if_pos rfl] at waits
    cases waits
    rfl
  case h_3 none => cases none.symm.trans found

theorem State.CauseGone.kept {s t : State} {c : Nat} (h : s.CauseGone c) (same : t.alarm? c = s.alarm? c) : t.CauseGone c :=
  fun a found => h a (same ▸ found)

/-! Brake channels (R317). -/

theorem bitAt_fits {a i : Nat} (h : i < 32) : (bitAt a i).fits = true := Bool.and_eq_true_iff.mpr ⟨decide_eq_true (Nat.le_refl i), decide_eq_true h⟩

/-- What SAF_STATUS, SAF_BRK_STAT and SAF_BRK_DEGR show of brake channel `n`. -/
def brakeFields (n : Nat) : List Fld :=
  [F_SAF_BRK_STAT_STATE n, F_SAF_BRK_STAT_DEGR_SW n, F_SAF_BRK_STAT_OVERCURRENT n, word32 (A_SAF_BRK_DEGR n), bitAt A_SAF_STATUS (16 + n)]

section
variable {ps : List Part} {fs : List Fld} {cs : List Nat} {s t : State}

theorem Changes.showBrake (h : Changes ps fs cs s t) {n : Nat} (below : n < 8) (hf : ∀ f ∈ brakeFields n, f ∈ fs)
    (within : 34359738368 ||| partMask ps = partMask ps := by decide) : Changes ps fs cs s (t.showBrake n) := by
  have fits : (bitAt A_SAF_STATUS (16 + n)).fits = true := bitAt_fits (by omega)
  exact ((((h.setFld _ _ rfl (hf _ (by simp [brakeFields])) within).setFld _ _ rfl (hf _ (by simp [brakeFields])) within).setFlag _ _ rfl
    (hf _ (by simp [brakeFields])) within).setReg _ _ (hf _ (by simp [brakeFields])) within).setFlag _ _ fits (hf _ (by simp [brakeFields])) within

theorem Changes.applyBrake (h : Changes ps fs cs s t) {n : Nat} (below : n < 8) (hf : ∀ f ∈ brakeFields n, f ∈ fs)
    (regs : 34359738368 ||| partMask ps = partMask ps := by decide) (brakes : 1125899907891200 ||| partMask ps = partMask ps := by decide) :
    Changes ps fs cs s (t.applyBrake n) :=
  (h.acts (State.setBrake_acts ..) brakes).showBrake below hf regs

theorem State.brake_setBrake (s : State) (n k : Nat) (f : Brake → Brake) (low : f {} = {}) :
    (s.setBrake n f).brake k = if n = k then f (s.brake k) else s.brake k := by
  simp only [State.setBrake, State.brake, setNth, List.getD_eq_getElem?_getD, List.getElem?_modify]
  cases s.saf.brakes[k]? <;> split <;> simp [low]

theorem State.saf_showBrake (s : State) (n : Nat) : (s.showBrake n).saf = s.saf := (s.showBrake_acts n).frame .saf rfl

/-- R317: an applied brake has both switches open. -/
theorem State.brake_applyBrake (s : State) (n k : Nat) :
    (s.applyBrake n).brake k = if n = k then { s.brake k with hs := false, ls := false } else s.brake k :=
  (congrArg (fun m : Saf => m.brakes.getD k {}) (State.saf_showBrake ..)).trans (State.brake_setBrake s n k _ rfl)

end

section
variable {s : State}

/-- R336: losing the field supply applies the enabled brakes. -/
def State.applyEnabled (s : State) (n : Nat) : State := if s.brkEn n then s.applyBrake n else s

theorem State.applyEnabled_each_changes {t : State} {ns : List Nat} (below : ∀ n ∈ ns, n < 8)
    (h : Changes [.clk, .alarms, .rcd, .saf, .brakes, .fch, .regs] (F_SAF_STATUS_VFLD_LOW :: recFields ++ (List.range 8).flatMap brakeFields) [0x0A12] s t) :
    Changes [.clk, .alarms, .rcd, .saf, .brakes, .fch, .regs] (F_SAF_STATUS_VFLD_LOW :: recFields ++ (List.range 8).flatMap brakeFields) [0x0A12] s
      (t.each ns State.applyEnabled) := by
  refine h.each fun u n hn hu => ?_
  have listed : ∀ f ∈ brakeFields n, f ∈ F_SAF_STATUS_VFLD_LOW :: recFields ++ (List.range 8).flatMap brakeFields := fun f hf =>
    List.mem_append_right _ (List.mem_flatMap.mpr ⟨n, List.mem_range.mpr (below n hn), hf⟩)
  exact .ite (fun _ => hu.applyBrake (below n hn) listed) fun _ => hu

theorem State.brkEn_applyEnabled (s : State) (n k : Nat) : (s.applyEnabled n).brkEn k = s.brkEn k := by
  unfold State.applyEnabled
  split
  · have params : (s.applyBrake n).saf.params = s.saf.params := congrArg (·.params) (State.saf_showBrake (s.setBrake n _) n)
    unfold State.brkEn State.safPar
    rw [params]
  · rfl

theorem State.applyEnabled_each (s : State) {ns : List Nat} (once : ns.Nodup) (k : Nat) :
    (s.each ns State.applyEnabled).brake k = (if k ∈ ns ∧ s.brkEn k = true then { s.brake k with hs := false, ls := false } else s.brake k) ∧
    (s.each ns State.applyEnabled).saf = { s.saf with brakes := (s.each ns State.applyEnabled).saf.brakes } := by
  induction ns generalizing s with
  | nil => exact ⟨by simp [State.each], rfl⟩
  | cons n ns ih =>
    obtain ⟨fresh, once⟩ := List.nodup_cons.mp once
    obtain ⟨brake, saf⟩ := ih (s.applyEnabled n) once
    have first : (s.applyEnabled n).brake k = if k = n ∧ s.brkEn k = true then { s.brake k with hs := false, ls := false } else s.brake k := by
      unfold State.applyEnabled
      by_cases enabled : s.brkEn n = true
      · rw [if_pos enabled, State.brake_applyBrake]
        by_cases same : n = k
        · simp [same, same ▸ enabled]
        · simp [same, Ne.symm same]
      · rw [if_neg enabled, if_neg]
        rintro ⟨rfl, h⟩
        exact enabled h
    have kept : (s.applyEnabled n).saf = { s.saf with brakes := (s.applyEnabled n).saf.brakes } := by
      unfold State.applyEnabled
      split
      · rw [State.applyBrake, State.saf_showBrake]
        rfl
      · rfl
    refine ⟨brake.trans ?_, saf.trans (by rw [kept]; rfl)⟩
    rw [State.brkEn_applyEnabled, first]
    by_cases same : k = n
    · subst same
      simp [fresh]
    · simp [same]

end


end Sys2Proof.Machine

/-! R19, R513, R518: supplies and clocks. -/
namespace Sys2Proof.Machine
set_option Elab.async false

section
variable {s : State} {ok evt : Fld} {code : Nat}

/-- The registers that show the loss of REFIN or of lock, apart from all that the loss changes besides. -/
structure ShowsLoss (ok evt : Fld) : Prop where
  okFits : ok.fits = true
  evtFits : evt.fits = true
  apart : evt.apart ok
  okPlace : ok.addr < 0xe0100 ∧ ok.addr ≠ A_KPR_LOCK ∧ ok.addr ≠ A_KPR_BOOTSTAT ∧ ok.addr ≠ A_REC_LOST ∧ ok.addr ≠ F_REC_EVENT_LOST_EVT.addr
  evtPlace : evt.addr < 0xe0100 ∧ evt.addr ≠ A_KPR_LOCK ∧ evt.addr ≠ A_KPR_BOOTSTAT ∧ evt.addr ≠ A_REC_LOST ∧ evt.addr ≠ F_REC_EVENT_LOST_EVT.addr

theorem ShowsLoss.refin : ShowsLoss F_GLB_STATUS_REFIN_OK F_GLB_STATUS_REFIN_EVT := ⟨rfl, rfl, .inr (by decide), by decide, by decide⟩
theorem ShowsLoss.lock : ShowsLoss F_GLB_STATUS_PLL_LOCK F_GLB_STATUS_UNLOCK_EVT := ⟨rfl, rfl, .inr (by decide), by decide, by decide⟩

/-- R19: the loss as its registers show it. -/
def State.showLoss (s : State) (ok evt : Fld) : State := (s.setFlag ok false).event evt

theorem State.showLoss_changes (sound : s.Sound) (shows : ShowsLoss ok evt) :
    Changes [.clk, .alarms, .rcd, .regs] (ok :: evt :: recFields) [code] s (s.showLoss ok evt) :=
  ((Changes.refl sound).setFlag ok false shows.okFits).event evt shows.evtFits

theorem State.holdPll_showLoss_changes (sound : s.Sound) (shows : ShowsLoss ok evt) (code : Nat) :
    Changes [.clk, .alarms, .rcd, .regs] (ok :: evt :: recFields) [code] s ((s.showLoss ok evt).holdPll code) :=
  ((State.showLoss_changes sound shows).raise code []).acts (.upd_clk (m := partMask [.clk]) (.refl _) rfl)

theorem State.holdPll_showLoss_flags (sound : s.Sound) (shows : ShowsLoss ok evt) (code : Nat) :
    ((s.showLoss ok evt).holdPll code).flag ok = false ∧ ((s.showLoss ok evt).holdPll code).flag evt = true := by
  obtain ⟨okFits, evtFits, apart, ⟨_, _, _, okLost, okEvent⟩, _, _, _, evtLost, evtEvent⟩ := shows
  have cleared := sound.setFlag ok false
  have shown : (s.showLoss ok evt).Sound := cleared.event evt
  constructor
  · refine (flag_raise shown code ok [] okLost okEvent).trans ?_
    rw [State.showLoss, flag_event_other cleared _ _ evtFits okFits apart, flag_setFlag sound _ _ okFits]
  · exact (flag_raise shown code evt [] evtLost evtEvent).trans (flag_event cleared evt evtFits)

/-- Stopping the boot leaves the registers that show the loss. -/
theorem ShowsLoss.bootToSafe (shows : ShowsLoss ok evt) (sound : s.Sound) : s.bootToSafe.flag ok = s.flag ok ∧ s.bootToSafe.flag evt = s.flag evt := by
  obtain ⟨okFits, evtFits, _, ⟨okLow, okLock, okStat, _⟩, evtLow, evtLock, evtStat, _⟩ := shows
  exact ⟨congrArg (· != 0) (((Keeps.refl s).bootToSafe okFits okLow okLock (.inl okStat)) sound).2,
    congrArg (· != 0) (((Keeps.refl s).bootToSafe evtFits evtLow evtLock (.inl evtStat)) sound).2⟩

/-- R19: the loss past BOOT: the alarm, the held PLL, the end of renewals, and SAFE at the next boundary. -/
theorem State.clockLost_past (sound : s.Sound) (shows : ShowsLoss ok evt) (past : s.dev.st ≠ .boot) (code : Nat) :
    let t := (s.showLoss ok evt).clockLost code
    (t.flag ok = false ∧ t.flag evt = true ∧ t.Alarmed code ∧ AlarmsBut [code] s t ∧ t.clk.pllHeld = true ∧ t.clk.noRenew = true) ∧
    t.clk = { s.clk with pllHeld := true, noRenew := true, boundarySafe := true } ∧
    Frame [.clk, .alarms, .rcd, .regs] s t ∧ FieldsBut (ok :: evt :: recFields) s t := by
  intro t
  have held := State.holdPll_showLoss_changes sound shows code
  have lost : t = { (s.showLoss ok evt).holdPll code with
      clk := { ((s.showLoss ok evt).holdPll code).clk with boundarySafe := true } } := State.clockLost_of_past (s := s.showLoss ok evt) past code
  have changes : Changes [.clk, .alarms, .rcd, .regs] (ok :: evt :: recFields) [code] s t :=
    lost ▸ held.acts (.upd_clk (m := partMask [.clk]) (.refl _) rfl)
  obtain ⟨okOff, evtOn⟩ := State.holdPll_showLoss_flags sound shows code
  rw [lost] at changes ⊢
  exact ⟨⟨okOff, evtOn, State.holdPll_alarmed .., changes.alarms, rfl, rfl⟩, rfl, changes.frame, changes.fields⟩

/-- R19: the loss in BOOT also stops a boot that has started. -/
theorem State.clockLost_boot (sound : s.Sound) (shows : ShowsLoss ok evt) (boot : s.dev.st = .boot) (started : s.boot.started = true)
    (running : s.boot.halted = false) (code : Nat) :
    let t := (s.showLoss ok evt).clockLost code
    (t.flag ok = false ∧ t.flag evt = true ∧ t.Alarmed code ∧ AlarmsBut [code] s t ∧ t.clk.pllHeld = true ∧ t.clk.noRenew = true) ∧
    t.dev = { s.dev with st := .safe, cycling := false } ∧ t.fld F_KPR_BOOTSTAT_STATE = (if s.pat.loaded then 4 else 2) ∧
    Frame [.clk, .boot, .dev, .devSt, .alarms, .rcd, .regs] s t := by
  intro t
  have held := State.holdPll_showLoss_changes sound shows code
  obtain ⟨okOff, evtOn⟩ := State.holdPll_showLoss_flags sound shows code
  have lost : t = ((s.showLoss ok evt).holdPll code).bootToSafe := State.clockLost_of_boot (s := s.showLoss ok evt) boot started running code
  have stops := ((s.showLoss ok evt).holdPll code).bootToSafe_frame
  obtain ⟨dev, state, _⟩ := State.bootToSafe_spec held.sound
  obtain ⟨okKept, evtKept⟩ := shows.bootToSafe held.sound
  have frame : Frame [.clk, .boot, .dev, .devSt, .alarms, .rcd, .regs] s t :=
    lost ▸ (held.frame.mono (by simp)).trans (stops.framed.mono (by simp))
  have clk : t.clk = { s.clk with pllHeld := true, noRenew := true } := lost ▸ stops.frame .clk rfl
  have alarm (c : Nat) : t.alarm? c = ((s.showLoss ok evt).holdPll code).alarm? c := lost ▸ alarm_of_acts stops rfl
  refine ⟨⟨lost ▸ okKept.trans okOff, lost ▸ evtKept.trans evtOn, (alarm code).trans (State.holdPll_alarmed ..),
    fun c hc => (alarm c).trans (held.alarms c hc), by rw [clk], by rw [clk]⟩, ?_, ?_, frame⟩
  · have kept : ((s.showLoss ok evt).holdPll code).dev = s.dev := held.frame .dev (by decide)
    rw [lost, dev, kept]
  · have kept : ((s.showLoss ok evt).holdPll code).pat = s.pat := held.frame .pat (by decide)
    rw [lost, state, kept]

end

section
variable {s : State}

/-- The reference and the field supply are parts of `clk`, which no other operation reads as a register. -/
theorem State.withClk_changes {ps : List Part} {fs : List Fld} {cs : List Nat} (sound : s.Sound) (c : Clk)
    (within : 4 ||| partMask ps = partMask ps := by decide) : Changes ps fs cs s { s with clk := c } :=
  (Changes.refl sound).acts (.upd_clk (m := 4) (.refl s) rfl) within

theorem exec_refinMissing_started (vin : s.clk.vin = true) (started : s.boot.started = true) :
    exec .refinMissing s =
      .next (({ s with clk := { s.clk with refin := false } }.showLoss F_GLB_STATUS_REFIN_OK F_GLB_STATUS_REFIN_EVT).clockLost 0x0002) := by
  simp only [exec_refinMissing, execRefinMissing, vin, started]
  rfl

theorem exec_refinMissing_idle (idle : s.clk.vin = false ∨ s.boot.started = false) :
    exec .refinMissing s = .next ({ s with clk := { s.clk with refin := false } }.setFlag F_GLB_STATUS_REFIN_OK false) := by
  rw [exec_refinMissing, execRefinMissing]
  exact congrArg Host.Outcome.next (if_neg (by simp only [Bool.and_eq_true, not_and_or, Bool.not_eq_true]; exact idle))

theorem exec_pllUnlock_locked (locked : s.flag F_GLB_STATUS_PLL_LOCK = true) :
    exec .pllUnlock s = .next ((s.showLoss F_GLB_STATUS_PLL_LOCK F_GLB_STATUS_UNLOCK_EVT).clockLost 0x0001) := by
  rw [exec_pllUnlock, execPllUnlock, if_pos locked]
  rfl

/-- VALID of each field channel. -/
def validFields : List Fld := (List.range 128).map F_FCH_STATUS_VALID

theorem State.showFields_changes (sound : s.Sound) : Changes [.regs] validFields [] s s.showFields :=
  (Changes.refl sound).showFields (fun n hn => List.mem_map.mpr ⟨n, List.mem_range.mpr hn, rfl⟩)

theorem validFields_apart {g : Fld} (below : g.addr < A_FCH_STATUS 0) : ∀ f ∈ validFields, f.apart g := by
  intro f hf
  obtain ⟨n, _, rfl⟩ := List.mem_map.mp hf
  exact .inl (by simp only [F_FCH_STATUS_VALID, A_FCH_STATUS] at below ⊢; omega)

/-- R513: the fields of the S-die's channels and the records show VFLD. -/
def vfldFields : List Fld := F_SAF_STATUS_VFLD_LOW :: validFields ++ recFields

theorem State.vfldPresent_spec (sound : s.Sound) :
    let t := (({ s with clk := { s.clk with vfld := true } }.setFlag F_SAF_STATUS_VFLD_LOW false).causeGone 0x0A12).showFields
    Changes [.clk, .alarms, .rcd, .regs] vfldFields [0x0A12] s t ∧ t.clk = { s.clk with vfld := true } ∧ t.flag F_SAF_STATUS_VFLD_LOW = false ∧ t.CauseGone 0x0A12 ∧
    ∀ n < 128, s.fchUsed n = true → t.flag (F_FCH_STATUS_VALID n) = t.fchValid n := by
  intro t
  let u := { s with clk := { s.clk with vfld := true } }.setFlag F_SAF_STATUS_VFLD_LOW false
  have supplied : ({ s with clk := { s.clk with vfld := true } } : State).Sound := (State.withClk_changes (ps := [.clk]) (fs := []) (cs := []) sound _).sound
  have shown : Changes [.clk, .alarms, .rcd, .regs] vfldFields [0x0A12] s u :=
    (State.withClk_changes sound { s.clk with vfld := true }).setFlag F_SAF_STATUS_VFLD_LOW false (hf := by simp [vfldFields])
  have gone := shown.causeGone 0x0A12 (hf := by simp [vfldFields, recFields])
  have low : (u.causeGone 0x0A12).flag F_SAF_STATUS_VFLD_LOW = false := by
    refine (congrArg (· != 0) (((Keeps.refl u).causeGone ⟨by decide, rfl, fun _ => by decide⟩ shown.sound).2)).trans ?_
    exact flag_setFlag supplied F_SAF_STATUS_VFLD_LOW false rfl
  have last := State.showFields_changes gone.sound
  refine ⟨gone.showFields fun n hn => List.mem_cons_of_mem _ (List.mem_append_left _ (List.mem_map.mpr ⟨n, List.mem_range.mpr hn, rfl⟩)),
    (last.frame .clk (by decide)).trans ((State.causeGone_acts u _).frame .clk rfl), (last.flag _ rfl (validFields_apart (by decide))).trans low, ?_, fun n _ used => ?_⟩
  · exact (State.causeGone_causeGone u 0x0A12).kept (last.alarms _ (by simp))
  · have kept : (u.causeGone 0x0A12).fchUsed n = s.fchUsed n := by
      have pat : (u.causeGone 0x0A12).pat = s.pat := gone.frame .pat (by decide)
      simp only [State.fchUsed, State.parGiven, pat]
    obtain ⟨valid, flag⟩ := State.showFields_valid gone.sound (kept.trans used)
    exact flag.trans valid.symm

/-- R336: what applying the enabled brakes may change besides the fields of VFLD. -/
def lowFields : List Fld := F_SAF_STATUS_VFLD_LOW :: recFields ++ (List.range 8).flatMap brakeFields

theorem lowFields_below : ∀ f ∈ lowFields, f.addr < A_FCH_CFG 0 := by
  intro f hf
  simp only [lowFields, recFields, List.mem_append, List.mem_cons, List.mem_flatMap, List.mem_range, List.not_mem_nil, or_false] at hf
  obtain (rfl | rfl | rfl) | ⟨n, hn, hf⟩ := hf
  · decide
  · decide
  · decide
  · simp only [brakeFields, List.mem_cons, List.not_mem_nil, or_false] at hf
    obtain rfl | rfl | rfl | rfl | rfl := hf <;>
      simp only [F_SAF_BRK_STAT_STATE, F_SAF_BRK_STAT_DEGR_SW, F_SAF_BRK_STAT_OVERCURRENT, A_SAF_BRK_STAT, word32, A_SAF_BRK_DEGR, bitAt, A_SAF_STATUS,
        A_FCH_CFG] <;> omega

theorem State.vfldLow_spec (sound : s.Sound) :
    let u := ({ s with clk := { s.clk with vfld := false }, fch := { s.fch with driven := [] } }.setFlag F_SAF_STATUS_VFLD_LOW true).raise 0x0A12
    let t := (u.each (List.range 8) State.applyEnabled).showFields
    Frame [.clk, .alarms, .rcd, .saf, .brakes, .fch, .regs] s t ∧ AlarmsBut [0x0A12] s t ∧ t.Alarmed 0x0A12 ∧ t.flag F_SAF_STATUS_VFLD_LOW = true ∧
    t.clk = { s.clk with vfld := false } ∧ t.fch = { s.fch with driven := [] } ∧ t.saf = { s.saf with brakes := t.saf.brakes } ∧
    (∀ n < 8, t.brake n = if s.brkEn n then { s.brake n with hs := false, ls := false } else s.brake n) ∧
    (∀ n < 128, s.fchUsed n = true → s.fchOutput n = false → t.flag (F_FCH_STATUS_VALID n) = false) := by
  intro u t
  have silent := (State.withClk_changes (ps := [.clk, .alarms, .rcd, .saf, .brakes, .fch, .regs]) (fs := lowFields) (cs := [0x0A12]) sound
    { s.clk with vfld := false }).acts (.upd_fch (m := partMask [.fch]) (fch0 := { s.fch with driven := [] }) (.refl _) rfl)
  have shown := silent.setFlag F_SAF_STATUS_VFLD_LOW true (hf := by simp [lowFields])
  have raised : Changes [.clk, .alarms, .rcd, .saf, .brakes, .fch, .regs] lowFields [0x0A12] s u := shown.raise 0x0A12 [] (hf := by simp [lowFields, recFields])
  have applied := State.applyEnabled_each_changes (ns := List.range 8) (fun n hn => List.mem_range.mp hn) raised
  have last := State.showFields_changes applied.sound
  let v := u.each (List.range 8) State.applyEnabled
  have frame : Frame [.clk, .alarms, .rcd, .saf, .brakes, .fch, .regs] s t := applied.frame.trans (last.frame.mono (by simp))
  have acts : Acts (partMask [.saf, .brakes, .regs]) u v := .each (.refl u) fun w n => .ite (fun _ => .mono (State.applyBrake_acts ..) (by decide)) fun _ => .refl w
  have saf0 : u.saf = s.saf := State.raise_saf ..
  have clk : v.clk = { s.clk with vfld := false } := (acts.frame .clk rfl).trans (State.raise_clk ..)
  have fch : v.fch = { s.fch with driven := [] } := (acts.frame .fch rfl).trans (State.raise_fch ..)
  have saf (k : Nat) := u.applyEnabled_each (List.nodup_range (n := 8)) k
  have safLast : t.saf = v.saf := last.frame .saf (by decide)
  have low : u.flag F_SAF_STATUS_VFLD_LOW = true :=
    (flag_raise shown.sound _ _ _ (by decide) (by decide)).trans (flag_setFlag silent.sound F_SAF_STATUS_VFLD_LOW true rfl)
  have lowKept : Keeps F_SAF_STATUS_VFLD_LOW u v := (Keeps.refl u).each fun w n _ =>
    .ite (fun _ => .applyBrake ⟨by decide, rfl, fun _ => by decide⟩ (.refl w)) fun _ => .refl w
  refine ⟨frame, fun c hc => (last.alarms c (by simp)).trans (applied.alarms c hc), ?_, ?_, (last.frame .clk (by decide)).trans clk,
    (last.frame .fch (by decide)).trans fch, ?_, fun n hn => ?_, fun n hn used input => ?_⟩
  · exact (last.alarms _ (by simp)).trans ((alarm_of_acts acts rfl).trans ((alarm_raise ..).trans (if_pos rfl)))
  · exact (last.flag _ rfl (validFields_apart (by decide))).trans ((congrArg (· != 0) (lowKept raised.sound).2).trans low)
  · rw [safLast, (saf 0).2, saf0]
  · have enabled : u.brkEn n = s.brkEn n := by rw [State.brkEn, State.safPar, saf0]; rfl
    have brake : u.brake n = s.brake n := by rw [State.brake, saf0]; rfl
    have last : t.brake n = v.brake n := congrArg (fun m : Saf => m.brakes.getD n {}) safLast
    rw [last, (saf n).1, enabled, brake]
    simp [hn]
  · have usedThere : v.fchUsed n = true := by
      have pat : v.pat = s.pat := applied.frame .pat (by decide)
      exact (by simp only [State.fchUsed, State.parGiven, pat] : v.fchUsed n = s.fchUsed n).trans used
    have mode : v.fchMode n = s.fchMode n := applied.fields _ rfl fun f hf => .inl (by
      have below := lowFields_below f hf
      simp only [F_FCH_CFG_MODE, A_FCH_CFG] at below ⊢
      omega)
    have inputThere : v.fchOutput n = false := by rw [State.fchOutput, mode]; exact input
    rw [(State.showFields_valid applied.sound usedThere).2, State.fchValid, inputThere, clk]
    simp

end

/-- Settles O11. -/
theorem suppliesAndClocksFollowTheirEvents : Obligations.SuppliesAndClocksFollowTheirEvents := by
  unfold Obligations.SuppliesAndClocksFollowTheirEvents
  have refin (s : State) (sound : s.Sound) : let t := { s with clk := { s.clk with refin := true } }.setFlag F_GLB_STATUS_REFIN_OK s.clk.vin
      t.clk = { s.clk with refin := true } ∧ t.flag F_GLB_STATUS_REFIN_OK = s.clk.vin ∧ Frame [.clk, .regs] s t ∧ FieldsBut [F_GLB_STATUS_REFIN_OK] s t := by
    intro t
    have back := State.withClk_changes (ps := [.clk, .regs]) (fs := [F_GLB_STATUS_REFIN_OK]) (cs := []) sound { s.clk with refin := true }
    have shown := back.setFlag F_GLB_STATUS_REFIN_OK s.clk.vin
    exact ⟨rfl, flag_setFlag back.sound _ _ rfl, shown.frame, shown.fields⟩
  refine ⟨fun s vin => ?pwrgood, fun s sound => ⟨_, rfl, refin s sound⟩, fun s sound => ⟨_, rfl, refin s sound⟩, fun s sound vin started past => ?missing,
    fun s sound vin started running boot => ?missingInBoot, fun s sound idle => ?missingIdle, fun s sound locked past => ?unlock,
    fun s sound locked started running boot => ?unlockInBoot, fun s sound => ?present, fun s sound supplied => ?low, fun s => ?hidle⟩
  case pwrgood =>
    exact ⟨{ s with clk := { s.clk with pwrgood := true, pgAt := s.tim.el } }, by rw [exec_pwrgoodRise, execPwrgoodRise, if_pos vin], rfl,
      (Acts.upd_clk (m := partMask [.clk]) (.refl s) rfl).framed⟩
  case missing =>
    have gone := State.withClk_changes (ps := [.clk]) (fs := []) (cs := []) sound { s.clk with refin := false }
    obtain ⟨lost, clk, frame, fields⟩ := State.clockLost_past gone.sound .refin past 0x0002
    exact ⟨_, exec_refinMissing_started vin started, lost, clk, (gone.frame.mono (by simp)).trans frame, fields⟩
  case missingInBoot =>
    have gone := State.withClk_changes (ps := [.clk]) (fs := []) (cs := []) sound { s.clk with refin := false }
    obtain ⟨lost, dev, state, frame⟩ := State.clockLost_boot gone.sound .refin boot started running 0x0002
    exact ⟨_, exec_refinMissing_started vin started, lost, dev, state, (gone.frame.mono (by simp)).trans frame⟩
  case missingIdle =>
    have gone := State.withClk_changes (ps := [.clk, .regs]) (fs := [F_GLB_STATUS_REFIN_OK]) (cs := []) sound { s.clk with refin := false }
    have shown := gone.setFlag F_GLB_STATUS_REFIN_OK false
    exact ⟨_, exec_refinMissing_idle idle, rfl, flag_setFlag gone.sound _ _ rfl, shown.frame, shown.fields⟩
  case unlock => exact ⟨_, exec_pllUnlock_locked locked, State.clockLost_past sound .lock past 0x0001⟩
  case unlockInBoot => exact ⟨_, exec_pllUnlock_locked locked, State.clockLost_boot sound .lock boot started running 0x0001⟩
  case present =>
    obtain ⟨changes, clk, low, gone, valid⟩ := State.vfldPresent_spec sound
    exact ⟨_, rfl, clk, low, gone, changes.alarms, valid, changes.frame, changes.fields⟩
  case low =>
    obtain ⟨frame, alarms, raised, low, clk, fch, saf, brakes, valid⟩ := State.vfldLow_spec sound
    refine ⟨_, by rw [exec_vfldLow, execVfldLow, if_pos supplied]; rfl, clk, low, raised, alarms, brakes, saf, fch, valid, frame⟩
  case hidle => exact ⟨_, rfl, rfl, (Acts.upd_hst (m := partMask [.hst]) (hst0 := { s.hst with hidle := false }) (.refl s) rfl rfl).framed⟩

end Sys2Proof.Machine

/-! R64, R519: the device resets. -/
namespace Sys2Proof.Machine
set_option Elab.async false

/-- What a reset that reaches all dies may leave other than at the first power-on. -/
def resetLeaves : List Part := [.serial, .devKey, .clk, .mram, .recNext, .tim, .elapsed, .pins, .regs, .flash, .out, .freeCtr, .pending]

section
variable (s : State) (p : Straps)

theorem State.afterReset_frame : Frame resetLeaves State.reset (s.afterReset p) := fun q hq => by
  cases q <;> first | rfl | exact absurd (by decide) hq

theorem State.afterReset_flash (idle : s.flashCmd = none) : (s.afterReset p).flash = s.flash := by
  show s.abortFlash.flash = _
  rw [abortFlash_none idle]

/-- R64, R65: a full reset: the reset state, but for what outlives it and the one cause shown. -/
theorem State.fullReset_spec (cause : Fld) :
    let t := s.fullReset p cause
    Frame resetLeaves State.reset t ∧ t.tim.el = s.tim.el ∧ t.tim.wt = 0 ∧ t.serial = s.serial ∧ t.devKey = s.devKey ∧ t.out = s.out ∧
    t.pending = s.pending ∧ t.mram = { s.mram with shutdown := s.mram.shutdown && !s.flag F_HLT_STATUS_COOLED } ∧
    (s.flashCmd = none → t.flash = s.flash) ∧ t.pins.side = p.side ∧ t.pins.testEn = p.testEn ∧ t.pins.safeN = false ∧
    t.reg A_KPR_RESETCAUSE = fieldIn 0#32 cause 1 := by
  have shows : Acts (partMask [.regs]) (s.afterReset p) (s.fullReset p cause) :=
    (((Acts.refl _).step (State.setReg_acts ..) rfl).step (State.setFlag_acts ..) rfl).step (State.setFlag_acts ..) rfl
  exact ⟨(s.afterReset_frame p).trans (shows.framed.mono (by decide)), rfl, rfl, rfl, rfl, rfl, rfl, rfl,
    s.afterReset_flash p, rfl, rfl, rfl, setCause_shows _ _ _ _ rfl⟩

end

theorem exec_nrst_resets {s : State} {n : Nat} (vin : s.clk.vin = true) (long : 1000 ≤ n) (p : Straps) :
    exec (.nrst n p) s = .next (s.useFree.fullReset p F_KPR_RESETCAUSE_NRST) := by
  have resets : nrstResets s.freeVal n = true := by
    rw [nrstResets, if_neg (by omega), if_neg (by omega)]
  rw [exec_nrst, execNrst, vin, resets]
  rfl

theorem exec_nrst_short {s : State} {n : Nat} (short : n < 500) (p : Straps) : exec (.nrst n p) s = .next s.useFree := by
  have none : nrstResets s.freeVal n = false := if_pos short
  rw [exec_nrst, execNrst, none, Bool.and_false]
  rfl

/-- Settles O9. -/
theorem deviceResetsReachWhatTheTableSays : Obligations.DeviceResetsReachWhatTheTableSays := by
  unfold Obligations.DeviceResetsReachWhatTheTableSays
  intro full keeper
  refine ⟨fun p s => ⟨_, rfl, State.fullReset_spec { s with clk := { s.clk with vin := true, pwrgood := false } } p _, rfl, rfl⟩,
    fun s => ⟨_, rfl, rfl, rfl, rfl, rfl, State.afterReset_frame { s with clk := { s.clk with vin := false, pwrgood := false } } _, rfl, rfl,
      State.afterReset_flash { s with clk := { s.clk with vin := false, pwrgood := false } } _⟩,
    fun n p s vin long => ?nrst, fun n p s short => ?short, fun p s sound vin started => ?watchdog, fun p s sound ordered => ?ordered⟩
  case nrst =>
    exact ⟨_, exec_nrst_resets vin long p, s.useFree.fullReset_spec p _, vin, rfl, rfl, rfl, rfl⟩
  case short => exact ⟨_, exec_nrst_short short p, s.useFree_acts.framed (ps := [.freeCtr])⟩
  case watchdog =>
    exact ⟨_, by rw [exec_keeperWatchdog, execKeeperWatchdog, vin, started]; rfl, keeperReset_spec s p _ sound⟩
  case ordered => exact ⟨_, by rw [exec_orderedReset, execOrderedReset, if_pos ordered], keeperReset_spec s p _ sound⟩

end Sys2Proof.Machine

/-! R51 to R59, R67, R68, R277: the boot. -/
namespace Sys2Proof.Machine
set_option Elab.async false

section
variable {s : State}

/-! BOOT_START. -/

theorem exec_bootStart_held {b : BootTests}
    (held : s.clk.vin = false ∨ s.clk.pwrgood = false ∨ s.clk.refin = false ∨ s.boot.started = true ∨ b.pllLocks = false) :
    exec (.bootStart b) s = .next s := by
  rw [exec_bootStart, execBootStart]
  refine congrArg Host.Outcome.next (if_neg fun starts => ?_)
  simp only [Bool.and_eq_true, Bool.not_eq_true'] at starts
  obtain ⟨⟨⟨⟨vin, pwrgood⟩, refin⟩, fresh⟩, locks⟩ := starts
  simp [vin, pwrgood, refin, fresh, locks] at held

theorem exec_bootStart_starts {b : BootTests} (vin : s.clk.vin = true) (pwrgood : s.clk.pwrgood = true) (refin : s.clk.refin = true)
    (fresh : s.boot.started = false) (locks : b.pllLocks = true) : exec (.bootStart b) s = .next (s.startBoot b) := by
  simp [exec_bootStart, execBootStart, vin, pwrgood, refin, fresh, locks]

/-- R54 steps 1 and 2: time 0 and the lock of the PLL. -/
def State.timeZero (s : State) : State :=
  ({ s with boot := { s.boot with started := true, time0 := s.tim.el } }.setFlag F_GLB_STATUS_PLL_LOCK true).bootStep 2

theorem State.timeZero_changes (sound : s.Sound) :
    Changes [.boot, .regs] [F_GLB_STATUS_PLL_LOCK, F_KPR_BOOTSTAT_STEP, F_KPR_BOOTSTAT_STATE] [] s s.timeZero :=
  (((Changes.refl sound).acts (.upd_boot (m := partMask [.boot]) (boot0 := { s.boot with started := true, time0 := s.tim.el }) (.refl s) rfl)).setFlag
    F_GLB_STATUS_PLL_LOCK true).setFld F_KPR_BOOTSTAT_STEP 2

/-- R54: a keeper that fails its self-test stops the boot in state 3. -/
theorem State.startBoot_keeperFails (sound : s.Sound) {b : BootTests} (fails : b.keeperPasses = false) :
    let t := s.startBoot b
    t.boot = { s.boot with started := true, time0 := s.tim.el, halted := true } ∧ t.flag F_GLB_STATUS_PLL_LOCK = true ∧ t.fld F_KPR_BOOTSTAT_STEP = 2 ∧
    t.fld F_KPR_BOOTSTAT_STATE = 3 ∧ Frame [.boot, .regs] s t ∧ FieldsBut [F_GLB_STATUS_PLL_LOCK, F_KPR_BOOTSTAT_STEP, F_KPR_BOOTSTAT_STATE] s t := by
  intro t
  have stops : t = { s.timeZero with boot := { s.timeZero.boot with halted := true } }.setFld F_KPR_BOOTSTAT_STATE 3 := by
    show s.startBoot b = _
    rw [State.startBoot, fails]
    rfl
  have begun := (Changes.refl (ps := [.boot, .regs]) (fs := [F_GLB_STATUS_PLL_LOCK, F_KPR_BOOTSTAT_STEP, F_KPR_BOOTSTAT_STATE]) (cs := []) sound).acts
    (.upd_boot (m := partMask [.boot]) (boot0 := { s.boot with started := true, time0 := s.tim.el }) (.refl s) rfl)
  have locked := begun.setFlag F_GLB_STATUS_PLL_LOCK true
  have shown := locked.setFld F_KPR_BOOTSTAT_STEP 2
  have halted := shown.acts (.upd_boot (m := partMask [.boot]) (boot0 := { s.boot with started := true, time0 := s.tim.el, halted := true }) (.refl _) rfl)
  have stopped := halted.setFld F_KPR_BOOTSTAT_STATE 3
  have sinceStep := ((Changes.refl (ps := [.boot, .regs]) (fs := [F_KPR_BOOTSTAT_STATE]) (cs := []) shown.sound).acts
    (.upd_boot (m := partMask [.boot]) (boot0 := { s.boot with started := true, time0 := s.tim.el, halted := true }) (.refl _) rfl)).setFld
    F_KPR_BOOTSTAT_STATE 3
  rw [stops]
  refine ⟨rfl, (sinceStep.flag F_GLB_STATUS_PLL_LOCK).trans ?_, (sinceStep.fld F_KPR_BOOTSTAT_STEP).trans (fld_setFld locked.sound _ _ rfl),
    fld_setFld halted.sound _ _ rfl, stopped.frame, stopped.fields⟩
  exact (congrArg (· != 0) (fld_setFld_other locked.sound F_KPR_BOOTSTAT_STEP F_GLB_STATUS_PLL_LOCK 2 rfl rfl (.inl (by decide)))).trans
    (flag_setFlag begun.sound _ _ rfl)

/-- R494: the power-cycle count goes on after a power-on reset. -/
def State.countCycle (s : State) : State :=
  if s.flag F_KPR_RESETCAUSE_POR then { s with mram := { s.mram with powerCycles := s.mram.powerCycles + 1 } } else s

/-- R494: the operating time and the Ladle epoch go on from MRAM. -/
def State.resumeCounters (s : State) : State :=
  let n := s.mram.opTime + 100
  { s with rcd := { s.rcd with opTime := n, tickAt := s.tim.el }, mram := { s.mram with opTime := n }, twn := { s.twn with ladleEp := s.mram.ladleEp } }

theorem State.countCycle_spec (s : State) : s.countCycle.mram.opTime = s.mram.opTime ∧ s.countCycle.mram.ladleEp = s.mram.ladleEp ∧ s.countCycle.boot = s.boot ∧
    s.countCycle.mram.powerCycles = s.mram.powerCycles + (if s.flag F_KPR_RESETCAUSE_POR then 1 else 0) := by
  unfold State.countCycle
  split <;> exact ⟨rfl, rfl, rfl, rfl⟩

/-- R54 step 4: what a device with a good MRAM goes on from. -/
theorem State.readMram_good (s : State) (diodes : List Int) :
    let t := s.readMram true diodes
    t.rcd.opTime = s.mram.opTime + 100 ∧ t.mram.opTime = s.mram.opTime + 100 ∧
    t.mram.powerCycles = s.mram.powerCycles + (if s.flag F_KPR_RESETCAUSE_POR then 1 else 0) ∧ t.twn.ladleEp = s.mram.ladleEp ∧ t.boot = s.boot := by
  intro t
  obtain ⟨opTime, ladle, boot, cycles⟩ := s.countCycle_spec
  let u := s.countCycle.resumeCounters
  have acts : Acts (partMask [.alarms, .rcd, .saf, .thm, .regs, .brakes]) u t :=
    ((Acts.ite (c := u.flag F_KPR_RESETCAUSE_WDOG = true) (fun _ => (State.raise_acts u 0x0109 []).mono (by decide)) fun _ => .refl u).step
      (State.startThermal_acts _ diodes) (by decide)).step (State.showMram_acts _) (by decide)
  have mram : t.mram = u.mram := acts.frame .mram rfl
  have twn : t.twn = u.twn := acts.frame .twn rfl
  have read : t.rcd.opTime = u.rcd.opTime := acts.frame .opTime rfl
  exact ⟨read.trans (congrArg (· + 100) opTime), (congrArg (·.opTime) mram).trans (congrArg (· + 100) opTime), (congrArg (·.powerCycles) mram).trans cycles,
    (congrArg (·.ladleEp) twn).trans ladle, (acts.frame .boot rfl).trans boot⟩

/-- R67: time 0 of the boot stands. -/
def State.SameStart (s t : State) : Prop := t.boot.started = s.boot.started ∧ t.boot.time0 = s.boot.time0

theorem State.SameStart.acts {m : Nat} {t u : State} (h : s.SameStart t) (k : Acts m t u) (hm : m.testBit Part.boot.idx = false := by rfl) : s.SameStart u := by
  have boot : u.boot = t.boot := k.frame .boot hm
  unfold State.SameStart
  rw [boot]
  exact h

theorem State.SameStart.withBoot {t : State} {b : Boot} (h : s.SameStart t) (started : b.started = t.boot.started) (time0 : b.time0 = t.boot.time0) :
    s.SameStart { t with boot := b } := ⟨started.trans h.1, time0.trans h.2⟩

theorem State.SameStart.bootToSafe {t : State} (h : s.SameStart t) : s.SameStart t.bootToSafe := by
  unfold State.bootToSafe
  extract_lets u v
  have locked : Acts (partMask [.regs]) t v :=
    .ite (fun _ => (State.setFld_acts ..).mono (by decide)) fun _ => ((State.setFld_acts ..).mono (by decide)).step (State.lockFixed_acts ..) (by decide)
  have kept : s.SameStart v := h.acts locked
  exact kept

theorem State.SameStart.noSlot {t : State} (h : s.SameStart t) : s.SameStart t.noSlot := (h.acts (State.raise_acts ..)).bootToSafe

/-- R51: reading the headers. -/
theorem State.SameStart.selectSlot {t : State} (h : s.SameStart t) : s.SameStart t.selectSlot := by
  unfold State.selectSlot
  extract_lets stepping stage good u seqOf
  have read : s.SameStart u := h.acts (m := 34359738752) (.each (.mono (State.bootStep_acts ..) (by decide)) fun v slot => .mono (State.slotStage_acts ..) (by decide))
  clear_value good u
  split
  · exact read.noSlot
  · exact read.withBoot rfl rfl
  · have both : s.SameStart (if seqOf 1 = seqOf 2 then u.raise 0x0108 else u) :=
      read.acts (m := 34359738752) (.ite (fun _ => .mono (State.raise_acts ..) (by decide)) fun _ => .refl u)
    exact both.withBoot rfl rfl

theorem State.SameStart.readFlashHeaders {t : State} (h : s.SameStart t) (sfdp : Nat) : s.SameStart (t.readFlashHeaders sfdp) := by
  unfold State.readFlashHeaders
  extract_lets u
  have read : s.SameStart u := h.acts (State.bootStep_acts ..)
  split
  · exact (read.acts (m := 34359738752) (.each (.refl u) fun v slot => .mono (State.slotStage_acts ..) (by decide))).noSlot
  · split
    · exact State.SameStart.selectSlot (State.SameStart.acts (read.withBoot (b := { u.boot with octal := false }) rfl rfl) (State.raise_acts ..))
    · exact read.selectSlot

theorem State.retireFailedBanks_nil (s : State) : s.retireFailedBanks [] = s := rfl

/-- R54 steps 1 to 6 of a device without a failed bank. -/
theorem State.startBoot_good {b : BootTests} (passes : b.keeperPasses = true) (crc : b.mramCrcOk = true) (failed : b.failedBanks = [])
    (banks : s.mram.riserBanks = []) :
    s.startBoot b = (((s.timeZero.bootStep 3).bootStep 4).readMram true b.diodes).readFlashHeaders b.sfdp := by
  have known : s.timeZero.mram.riserBanks = [] := banks
  have start : s.startBoot b = if 2 < (b.failedBanks.foldl insertNew s.timeZero.mram.riserBanks).length
      then (s.timeZero.bootStep 3).deviceFault faultNoBank
      else ((((s.timeZero.bootStep 3).bootStep 4).readMram true b.diodes).retireFailedBanks b.failedBanks).readFlashHeaders b.sfdp := by
    rw [State.startBoot, passes, crc]
    rfl
  rw [start, failed, known, if_neg (by simp), State.retireFailedBanks_nil]

theorem State.bootStart_good (sound : s.Sound) {b : BootTests} (passes : b.keeperPasses = true) (crc : b.mramCrcOk = true) (failed : b.failedBanks = [])
    (banks : s.mram.riserBanks = []) :
    let t := s.startBoot b
    t.boot.started = true ∧ t.boot.time0 = s.tim.el ∧ t.rcd.opTime = s.mram.opTime + 100 ∧ t.mram.opTime = s.mram.opTime + 100 ∧
    t.mram.powerCycles = s.mram.powerCycles + (if s.flag F_KPR_RESETCAUSE_POR then 1 else 0) ∧ t.twn.ladleEp = s.mram.ladleEp ∧
    t.serial = s.serial ∧ t.flash = s.flash := by
  intro t
  let u := (s.timeZero.bootStep 3).bootStep 4
  let v := u.readMram true b.diodes
  obtain ⟨opTime, mramTime, cycles, ladle, boot⟩ := u.readMram_good b.diodes
  have begun : Changes [.boot, .regs] [F_GLB_STATUS_PLL_LOCK, F_KPR_BOOTSTAT_STEP, F_KPR_BOOTSTAT_STATE] [] s u :=
    ((State.timeZero_changes sound).setFld F_KPR_BOOTSTAT_STEP 3).setFld F_KPR_BOOTSTAT_STEP 4
  have last : Acts (partMask [.boot, .dev, .devSt, .alarms, .rcd, .regs]) v t := by
    show Acts _ v (s.startBoot b)
    rw [State.startBoot_good passes crc failed banks]
    exact (State.readFlashHeaders_acts ..).mono (by decide)
  have sameBoot : s.timeZero.SameStart v := ⟨congrArg (·.started) boot, congrArg (·.time0) boot⟩
  have start : s.timeZero.SameStart t := by
    show s.timeZero.SameStart (s.startBoot b)
    rw [State.startBoot_good passes crc failed banks]
    exact sameBoot.readFlashHeaders _
  have lastMram : t.mram = v.mram := last.frame .mram rfl
  have lastTwn : t.twn = v.twn := last.frame .twn rfl
  have lastTime : t.rcd.opTime = v.rcd.opTime := last.frame .opTime rfl
  refine ⟨start.1, start.2, lastTime.trans opTime, (congrArg (·.opTime) lastMram).trans mramTime, ?_, (congrArg (·.ladleEp) lastTwn).trans ladle, ?_, ?_⟩
  · exact (congrArg (·.powerCycles) lastMram).trans (cycles.trans (by rw [begun.flag F_KPR_RESETCAUSE_POR, begun.frame .mram (by decide)]))
  · exact (last.frame .serial rfl).trans ((State.readMram_acts u ..).frame .serial rfl)
  · exact (last.frame .flash rfl).trans ((State.readMram_acts u ..).frame .flash rfl)

/-! SLOT_STREAM_END. -/

theorem State.streamStage_le (s : State) (img : List Byte) (r : StartTests) : s.streamStage img r ≤ 9 := by
  unfold State.streamStage
  repeat' split
  all_goals decide

theorem exec_slotStreamEnd_idle {r : StartTests} (idle : s.boot.streaming = 0 ∨ s.dev.st ≠ .boot) : exec (.slotStreamEnd r) s = .next s := by
  rw [exec_slotStreamEnd, execSlotStreamEnd]
  exact congrArg Host.Outcome.next (if_pos (by simpa using idle))

/-- R51: a slot that is read and fails a check of stages 5 to 9. -/
theorem exec_slotStreamEnd_fails {r : StartTests} {k : Nat} {img : List Byte} (slot : s.boot.streaming = k) (one : k = 1 ∨ k = 2) (boot : s.dev.st = .boot)
    (bytes : s.slotBytes k (imageLen (s.slotHeader k)) = img) (fails : 0 < s.streamStage img r) :
    exec (.slotStreamEnd r) s = .next (s.nextSlot k (s.streamStage img r)) := by
  have reads : ¬((decide (k = 0) || s.dev.st != .boot) = true) := by rw [boot]; rcases one with rfl | rfl <;> decide
  rw [exec_slotStreamEnd, execSlotStreamEnd, slot, if_neg reads, bytes]
  dsimp only
  rw [if_neg (Nat.ne_of_gt fails), if_pos (Nat.ne_of_gt fails)]

/-- R51, R52: a slot that is read and passes is put to use. -/
theorem exec_slotStreamEnd_passes {r : StartTests} {k : Nat} {img : List Byte} {l : List (Nat × List Word)} {m : List (Nat × Mould)}
    (slot : s.boot.streaming = k) (one : k = 1 ∨ k = 2) (boot : s.dev.st = .boot) (bytes : s.slotBytes k (imageLen (s.slotHeader k)) = img)
    (streams : s.streamStage img r = 0) (placed : s.placedStage img r = 0) (records : imageRecords img = some l)
    (moulds : mouldsOf (mouldPids.map (fun p => aget [] l p)) = some m) :
    exec (.slotStreamEnd r) s = .next ((((s.bootStep 7).useImage k img l).setUp img m).startRunning r) := by
  have reads : ¬((decide (k = 0) || s.dev.st != .boot) = true) := by rw [boot]; rcases one with rfl | rfl <;> decide
  rw [exec_slotStreamEnd, execSlotStreamEnd, slot, if_neg reads, bytes]
  dsimp only
  rw [if_pos streams, if_neg (not_not_intro placed), records, Option.getD_some, moulds]

theorem stageField_fits (k : Nat) : (stageField k).fits = true := by
  unfold stageField
  split <;> rfl

theorem stageField_addr (k : Nat) : (stageField k).addr = A_KPR_PATTERN := by
  unfold stageField
  split <;> rfl

/-- R52: the Pattern in use is the image's. -/
theorem State.useImage_pat (s : State) (k : Nat) (img : List Byte) (l : List (Nat × List Word)) :
    (s.useImage k img l).pat.loaded = true ∧ (s.useImage k img l).pat.slot = k ∧ (s.useImage k img l).pat.params = l := by
  unfold State.useImage
  extract_lets h id b t u v
  have shown : Acts (partMask [.alarms, .rcd, .regs]) t u :=
    ((((Acts.refl t).step (State.setFld_acts ..) (by decide)).step (State.setFld_acts ..) (by decide)).step (State.setReg_acts ..) (by decide)).step
      (State.setRegs_acts ..) (by decide)
  have others : Acts (partMask [.alarms, .rcd, .regs]) t v := shown.each fun w k => .mono (State.setFld_acts ..) (by decide)
  have raised : Acts (partMask [.alarms, .rcd, .regs]) t (if k = v.boot.firstChoice then v else v.raise 0x0103) :=
    .ite (fun _ => others) fun _ => others.step (State.raise_acts ..) (by decide)
  have pat : (if k = v.boot.firstChoice then v else v.raise 0x0103 : State).pat = t.pat := raised.frame .pat rfl
  rw [pat]
  exact ⟨rfl, rfl, rfl⟩

/-- R52, R59: the last slot fails. -/
theorem State.nextSlot_last (sound : s.Sound) {k stage : Nat} (one : k = 1 ∨ k = 2) (last : s.boot.left = []) (fails : 0 < stage) (low : stage < 10) :
    let t := s.nextSlot k stage
    t.dev = { s.dev with st := .safe, cycling := false } ∧ t.fld (stageField k) = stage ∧ t.Alarmed (0x0100 + k) ∧ t.Alarmed 0x0104 ∧ t.locked = true ∧
    Frame [.boot, .dev, .alarms, .rcd, .regs, .devSt] s t := by
  intro t
  let shown := s.setFld (stageField k) stage
  let u := ((shown.raise (0x0100 + k) (pay [stage])).bootStep (s.fld F_KPR_BOOTSTAT_STEP))
  let w := ({ u with boot := { u.boot with streaming := 0 } } : State).raise 0x0104
  have failed : s.slotStage k stage = shown.raise (0x0100 + k) (pay [stage]) := if_neg (Nat.ne_of_gt fails)
  have stops : t = w.bootToSafe := by
    have left : u.boot.left = [] := by
      have boot : u.boot = s.boot := (((State.bootStep_acts (shown.raise (0x0100 + k) (pay [stage])) _).frame .boot rfl).trans
        ((State.raise_acts ..).frame .boot rfl))
      rw [boot]
      exact last
    show s.nextSlot k stage = _
    unfold State.nextSlot
    rw [failed, if_pos low]
    show (match u.boot.left with
      | k :: r => { u with boot := { u.boot with streaming := k, left := r } }
      | [] => ({ u with boot := { u.boot with streaming := 0 } }).noSlot) = _
    rw [left]
    rfl
  have fits := stageField_fits k
  have place := stageField_addr k
  have begun : Changes [.boot, .alarms, .rcd, .regs] ([stageField k, F_KPR_BOOTSTAT_STEP] ++ recFields) [0x0100 + k, 0x0104] s u :=
    ((((Changes.refl sound).setFld (stageField k) stage fits).raise _ _).setFld F_KPR_BOOTSTAT_STEP _)
  have all := (begun.acts (.upd_boot (m := partMask [.boot]) (boot0 := { u.boot with streaming := 0 }) (.refl u) rfl)).raise 0x0104 []
  have early : Keeps (stageField k) shown u :=
    ((Keeps.refl shown).raise (by rw [place]; decide) (by rw [place]; decide)).setFld (f := F_KPR_BOOTSTAT_STEP) rfl fits (.inl (by rw [place]; decide))
  have late : Keeps (stageField k) shown w :=
    (early.upd (u := { u with boot := { u.boot with streaming := 0 } }) rfl fun h => h.of_eq rfl rfl rfl rfl rfl rfl rfl rfl rfl rfl rfl rfl rfl rfl).raise
      (by rw [place]; decide) (by rw [place]; decide)
  have kept : Keeps (stageField k) shown t := by
    rw [stops]
    exact late.bootToSafe fits (by rw [place]; decide) (by rw [place]; decide) (.inl (by rw [place]; decide))
  have stopFrame := w.bootToSafe_frame
  obtain ⟨dev, _, locked⟩ := State.bootToSafe_spec all.sound
  have alarm (c : Nat) : t.alarm? c = w.alarm? c := by rw [stops]; exact alarm_of_acts stopFrame rfl
  have dev0 : w.dev = s.dev := all.frame .dev (by decide)
  refine ⟨by rw [stops, dev, dev0], ?_, ?_, ?_, by rw [stops, locked], ?_⟩
  · refine (kept (sound.setFld ..)).2.trans ((fld_setFld sound _ _ fits).trans ?_)
    refine Nat.mod_eq_of_lt (Nat.lt_of_lt_of_le low ?_)
    unfold stageField
    split <;> decide
  · have raised : w.alarm? (0x0100 + k) = (shown.raise (0x0100 + k) (pay [stage])).alarm? (0x0100 + k) :=
      by
      have step : u.alarm? (0x0100 + k) = (shown.raise (0x0100 + k) (pay [stage])).alarm? (0x0100 + k) := alarm_of_acts (State.bootStep_acts _ _) rfl
      exact (alarm_raise_other (by omega)).trans step
    exact (alarm _).trans (raised.trans ((alarm_raise ..).trans (if_pos rfl)))
  · exact (alarm _).trans ((alarm_raise ..).trans (if_pos rfl))
  · rw [stops]
    exact (all.frame.mono (by simp)).trans (stopFrame.framed.mono (by simp))

end

/-! BOOT_TIMEOUT and TWIN_WAIT_END. -/

section
variable {s : State}

theorem exec_bootTimeout_running (started : s.boot.started = true) (running : s.boot.halted = false) (boot : s.dev.st = .boot) :
    exec .bootTimeout s = .next ((s.reachEl (s.boot.time0 + s.bootLimit)).raise 0x0107).bootToSafe := by
  rw [exec_bootTimeout, execBootTimeout, started, running, boot]
  rfl

theorem exec_twinWaitEnd_waiting (waits : s.boot.waitingTwin = true) :
    exec .twinWaitEnd s = .next ((s.reachEl (Nat.max (s.boot.time0 + 1800 * ms) (s.boot.step11At + 800 * ms))).startAlone true) := by
  rw [exec_twinWaitEnd, execTwinWaitEnd, if_pos waits]

theorem le_boundaryAt (t : Nat) {p : Nat} (h : 0 < p) : t ≤ boundaryAt t p := by
  have := Nat.div_add_mod (t + p - 1) p
  have := Nat.mod_lt (t + p - 1) h
  unfold boundaryAt
  rw [Nat.mul_comm]
  omega

theorem State.le_reachEl (s : State) (e : Nat) : e ≤ (s.reachEl e).tim.el := by
  show e ≤ s.tim.el + (e - s.tim.el)
  omega

theorem modePeriod_pos (m : Nat) : 0 < modePeriod m := by
  unfold modePeriod
  split <;> decide

/-- R57: the boot limit. -/
theorem State.bootTimeout_spec (sound : s.Sound) :
    let t := ((s.reachEl (s.boot.time0 + s.bootLimit)).raise 0x0107).bootToSafe
    t.dev = { s.dev with st := .safe, cycling := false } ∧ t.Alarmed 0x0107 ∧ AlarmsBut [0x0107] s t ∧
    t.fld F_KPR_BOOTSTAT_STATE = (if s.pat.loaded then 4 else 2) ∧ t.fld F_KPR_BOOTSTAT_STEP = s.fld F_KPR_BOOTSTAT_STEP ∧ t.locked = true ∧
    s.boot.time0 + s.bootLimit ≤ t.tim.el ∧ Frame [.boot, .dev, .devSt, .alarms, .rcd, .tim, .elapsed, .working, .regs] s t := by
  intro t
  let w := (s.reachEl (s.boot.time0 + s.bootLimit)).raise 0x0107
  have waited : Changes [.alarms, .rcd, .tim, .elapsed, .working, .regs] recFields [0x0107] s w :=
    ((Changes.refl sound).acts (State.reachEl_acts s (s.boot.time0 + s.bootLimit))).raise 0x0107 []
  have stops := w.bootToSafe_frame
  obtain ⟨dev, state, locked⟩ := State.bootToSafe_spec waited.sound
  have alarm (c : Nat) : t.alarm? c = w.alarm? c := alarm_of_acts stops rfl
  have tim : t.tim = (s.reachEl (s.boot.time0 + s.bootLimit)).tim := (stops.frame .tim rfl).trans (State.raise_tim ..)
  have dev0 : w.dev = s.dev := waited.frame .dev (by decide)
  have pat0 : w.pat = s.pat := waited.frame .pat (by decide)
  refine ⟨by rw [dev, dev0], (alarm _).trans ((alarm_raise ..).trans (if_pos rfl)), fun c hc => (alarm c).trans (waited.alarms c hc), by rw [state, pat0],
    ?_, locked, ?_, (waited.frame.mono (by simp)).trans (stops.framed.mono (by simp))⟩
  · have kept := ((Keeps.refl w).bootToSafe (g := F_KPR_BOOTSTAT_STEP) rfl (by decide) (by decide) (.inr (by decide))) waited.sound
    exact kept.2.trans (waited.fld _)
  · rw [tim]
    exact State.le_reachEl ..

theorem State.setCond_spec (sound : s.Sound) {n : Nat} (low : n < 32) (b : Bool) :
    (s.setCond n b).cond n = b ∧ (s.setCond n b).dev.st = s.dev.st ∧ Changes [.dev, .regs] [bitAt A_CTL_DEGR n] [] s (s.setCond n b) := by
  unfold State.setCond
  split
  case isTrue same => exact ⟨same, rfl, .refl sound⟩
  case isFalse =>
    have shown := (Changes.refl (ps := [.dev, .regs]) (fs := [bitAt A_CTL_DEGR n]) (cs := []) sound).setFlag (bitAt A_CTL_DEGR n) b (bitAt_fits low)
    exact ⟨flag_setFlag sound _ _ (bitAt_fits low), rfl, shown.upd _⟩

/-- R54: the first freeze is due. -/
theorem State.readyAt_spec (sound : s.Sound) (n : Nat) :
    (s.readyAt n).boot = { s.boot with waitingTwin := false, readyForFreeze := true } ∧
    (s.readyAt n).dev = { s.dev with nextFreeze := n, period := modePeriod s.startMode, stateEp := s.firstEpoch - 1 } ∧
    (s.readyAt n).fld F_KPR_BOOTSTAT_STEP = 12 ∧ Changes [.boot, .dev, .regs, .devMode, .devEpoch] [F_KPR_BOOTSTAT_STEP] [] s (s.readyAt n) :=
  ⟨rfl, rfl, fld_setFld sound _ _ rfl, ((Changes.refl sound).setFld F_KPR_BOOTSTAT_STEP 12).upd (s.readyAt n)⟩

/-- R277: the end of the wait for the twin. -/
theorem State.startAlone_spec (sound : s.Sound) :
    let t := s.startAlone true
    t.boot = { s.boot with waitingTwin := false, readyForFreeze := true } ∧ t.dev.st = s.dev.st ∧ t.fld F_KPR_BOOTSTAT_STEP = 12 ∧ t.cond 4 = true ∧
    t.Alarmed 0x040D ∧ AlarmsBut [0x040D] s t ∧ t.twn.outOfStepFromBoot = true ∧ t.tim.wt ≤ t.dev.nextFreeze ∧ t.tim = s.tim ∧
    Frame [.boot, .dev, .alarms, .rcd, .tim, .twn, .regs, .devMode, .devEpoch, .elapsed, .working] s t := by
  intro t
  let v := { s with twn := { s.twn with outOfStepFromBoot := true } }
  have noted : v.Sound := sound.of_eq rfl rfl rfl rfl rfl rfl rfl rfl rfl rfl rfl rfl rfl rfl
  let u := (v.setCond 4 true).raise 0x040D
  obtain ⟨cond, st, degraded⟩ := State.setCond_spec noted (show 4 < 32 by decide) true
  have lonely : Changes [.boot, .dev, .alarms, .rcd, .tim, .twn, .regs, .devMode, .devEpoch, .elapsed, .working]
      ([bitAt A_CTL_DEGR 4, F_KPR_BOOTSTAT_STEP] ++ recFields) [0x040D] s u :=
    (((Changes.refl sound).upd v).trans (degraded.mono)).raise 0x040D []
  obtain ⟨boot, dev, step, ready⟩ := State.readyAt_spec lonely.sound (boundaryAt u.tim.wt (modePeriod u.startMode))
  have all := lonely.trans (ready.mono)
  have bootKept : u.boot = s.boot := (State.raise_boot ..).trans (degraded.frame .boot (by decide))
  have stKept : u.dev.st = s.dev.st := (congrArg (·.st) (State.raise_dev ..)).trans st
  have twnKept : u.twn = v.twn := (State.raise_twn ..).trans (degraded.frame .twn (by decide))
  have timKept : u.tim = s.tim := (State.raise_tim ..).trans (degraded.frame .tim (by decide))
  have tim : t.tim = u.tim := ready.frame .tim (by decide)
  refine ⟨boot.trans (by rw [bootKept]), (congrArg (·.st) dev).trans stKept, step, ?_, ?_, all.alarms,
    congrArg (·.outOfStepFromBoot) ((ready.frame .twn (by decide)).trans twnKept), ?_, tim.trans timKept, all.frame⟩
  · exact (ready.flag (bitAt A_CTL_DEGR 4)).trans ((flag_raise degraded.sound _ _ _ (by decide) (by decide)).trans cond)
  · exact (ready.alarms _ (by simp)).trans ((alarm_raise ..).trans (if_pos rfl))
  · have next : t.dev.nextFreeze = boundaryAt u.tim.wt (modePeriod u.startMode) := congrArg (·.nextFreeze) dev
    rw [tim, next]
    exact le_boundaryAt _ (modePeriod_pos _)

theorem State.waitThenAlone_spec (sound : s.Sound) (e : Nat) :
    let t := (s.reachEl e).startAlone true
    t.boot = { s.boot with waitingTwin := false, readyForFreeze := true } ∧ t.dev.st = s.dev.st ∧ t.fld F_KPR_BOOTSTAT_STEP = 12 ∧ t.cond 4 = true ∧
    t.Alarmed 0x040D ∧ AlarmsBut [0x040D] s t ∧ t.twn.outOfStepFromBoot = true ∧ t.tim.wt ≤ t.dev.nextFreeze ∧ e ≤ t.tim.el ∧
    Frame [.boot, .dev, .alarms, .rcd, .tim, .twn, .regs, .devMode, .devEpoch, .elapsed, .working] s t := by
  intro t
  have waited : Changes [.tim, .elapsed, .working] [] [0x040D] s (s.reachEl e) := (Changes.refl sound).acts (State.reachEl_acts ..)
  obtain ⟨booted, st, step, cond, raised, alarms, alone, due, tim, frame⟩ := State.startAlone_spec waited.sound
  refine ⟨booted, st, step, cond, raised, fun c hc => (alarms c hc).trans (waited.alarms c hc), alone, due, ?_, (waited.frame.mono (by simp)).trans frame⟩
  rw [tim]
  exact State.le_reachEl ..

end

/-- Settles O12. -/
theorem bootStepsStartStopAndFallBack : Obligations.BootStepsStartStopAndFallBack := by
  unfold Obligations.BootStepsStartStopAndFallBack
  refine ⟨fun b s held => exec_bootStart_held held, fun b s sound vin pwrgood refin fresh locks fails => ⟨_, exec_bootStart_starts vin pwrgood refin fresh locks, State.startBoot_keeperFails sound fails⟩,
    fun b s sound vin pwrgood refin fresh locks passes crc failed banks => ⟨_, exec_bootStart_starts vin pwrgood refin fresh locks, State.bootStart_good sound passes crc failed banks⟩,
    fun r s idle => exec_slotStreamEnd_idle idle, fun r s k img sound slot one boot last _ bytes fails => ?fails,
    fun r s k img l m slot one boot bytes streams placed records moulds => ?passes, fun s sound started running boot => ?timeout, fun s sound waits => ?alone⟩
  case fails =>
    exact ⟨_, exec_slotStreamEnd_fails slot one boot bytes fails, State.nextSlot_last sound one last fails (Nat.lt_succ_of_le (s.streamStage_le img r))⟩
  case passes =>
    have run := ((State.setUp_acts ((s.bootStep 7).useImage k img l) img m).mono (m := 2045756778884008 ||| 6329373417998248) (by decide)).step
      (State.startRunning_acts _ r) (by decide)
    have pat : ((((s.bootStep 7).useImage k img l).setUp img m).startRunning r).pat = ((s.bootStep 7).useImage k img l).pat := run.frame .pat (by decide)
    obtain ⟨loaded, used, params⟩ := (s.bootStep 7).useImage_pat k img l
    refine ⟨_, exec_slotStreamEnd_passes slot one boot bytes streams placed records moulds, ?_⟩
    rw [pat]
    exact ⟨loaded, used, params, (run.frame .flash (by decide)).trans ((State.useImage_acts ..).frame .flash (by decide))⟩
  case timeout =>
    refine ⟨_, exec_bootTimeout_running started running boot, ?_⟩
    have limit : s.bootLimit = if s.boot.octal then 5000000000 else 30000000000 := by simp only [State.bootLimit, sec]
    obtain ⟨dev, raised, alarms, state, step, locked, late, frame⟩ := s.bootTimeout_spec sound
    exact ⟨dev, raised, alarms, state, step, locked, limit ▸ late, frame⟩
  case alone =>
    obtain ⟨booted, st, step, cond, raised, alarms, alone, due, late, frame⟩ :=
      State.waitThenAlone_spec sound (Nat.max (s.boot.time0 + 1800 * ms) (s.boot.step11At + 800 * ms))
    have first : s.boot.time0 + 1800 * ms ≤ _ := (Nat.le_max_left ..).trans late
    have second : s.boot.step11At + 800 * ms ≤ _ := (Nat.le_max_right ..).trans late
    exact ⟨_, exec_twinWaitEnd_waiting waits, booted, st, step, cond, raised, alarms, alone, due, first, second, frame⟩

end Sys2Proof.Machine

/-! R26, R28, R54, R72, R78: the freeze opens a cycle on the grid. -/
namespace Sys2Proof.Machine
set_option Elab.async false

/-- R26: whether cycles run and where the next freeze and pour fall. -/
def SameGrid (s t : State) : Prop :=
  (t.dev.cycling, t.dev.nextFreeze, t.dev.pourAt, t.dev.period) = (s.dev.cycling, s.dev.nextFreeze, s.dev.pourAt, s.dev.period)

namespace SameGrid
variable {s t u : State} {m : Nat}

theorem refl (s : State) : SameGrid s s := rfl

theorem cycling (h : SameGrid s t) : t.dev.cycling = s.dev.cycling := (Prod.mk.inj h).1

theorem period (h : SameGrid s t) : t.dev.period = s.dev.period := (Prod.mk.inj (Prod.mk.inj (Prod.mk.inj h).2).2).2

theorem trans (h : SameGrid s t) (k : SameGrid t u) : SameGrid s u := Eq.trans k h

theorem of_dev (h : SameGrid s t) (same : u.dev = t.dev) : SameGrid s u := by
  unfold SameGrid
  rw [same]
  exact h

theorem acts (h : SameGrid s t) (k : Acts m t u) (hm : m.testBit Part.dev.idx = false := by rfl) : SameGrid s u := h.of_dev (k.frame .dev hm)

theorem ite {c : Prop} [Decidable c] (h : c → SameGrid s t) (k : ¬c → SameGrid s u) : SameGrid s (if c then t else u) := by
  split
  · exact h ‹_›
  · exact k ‹_›

theorem setCond (h : SameGrid s t) (n : Nat) (b : Bool) : SameGrid s (t.setCond n b) := by
  unfold State.setCond
  exact .ite (fun _ => h) fun _ => h

theorem inSafeState (h : SameGrid s t) : SameGrid s t.inSafeState := by
  have reported : SameGrid s t.reportStop := h.acts (State.reportStop_acts ..)
  have quiet : SameGrid s { t.reportStop with alc := { t.reportStop.alc with fallback := none } } := reported
  have ended : SameGrid s t.reportStop.endFallback := (quiet.setCond 7 false).acts (State.causeGone_acts ..)
  exact ended

theorem dropToArmed (h : SameGrid s t) : SameGrid s t.dropToArmed := by
  have ended : SameGrid s (t.endTests 3).dropLease := (h.acts (State.endTests_acts ..)).acts (State.dropLease_acts ..)
  exact ended

theorem handOver (h : SameGrid s t) (cause : Nat) : SameGrid s (t.handOver cause) := by
  have sent : SameGrid s ((t.setGate gateClosed).twinSend 3 .release [(t.twn.ladleEp + 1 : Nat)]) := (h.acts (State.setGate_acts ..)).acts (State.twinSend_acts ..)
  have dropped := sent.dropToArmed.acts (State.setLadleEp_acts _ (t.twn.ladleEp + 1))
  unfold State.handOver
  extract_lets e w v twn
  have held : SameGrid s { v with twn := { v.twn with holder := some (otherSide v.pins.side) } } := dropped
  exact (held.acts (State.event_acts ..)).acts (State.raise_acts ..)

theorem globalSafe (h : SameGrid s t) (cause : Nat) : SameGrid s (t.globalSafe cause) := by
  unfold State.globalSafe
  extract_lets first s1 q s2 s3 s4 s5
  have ended : SameGrid s s1 := (h.acts (State.endTests_acts ..)).acts (State.setFlag_acts ..)
  have low : SameGrid s s2 := ended
  have shown : SameGrid s s3 :=
    .ite (fun _ => ((low.acts (State.setFld_acts ..)).acts (State.event_acts ..)).acts (State.raise_acts ..)) fun _ => low
  have settled : SameGrid s s5 := (shown.acts (State.dropLease_acts ..)).acts (State.settleBrakes_acts ..)
  clear_value s5
  split
  · exact settled
  · exact inSafeState (.ite (fun _ => settled.handOver 8) fun _ => settled.dropToArmed)
  · exact settled.inSafeState
  · exact settled.inSafeState
  · exact settled.inSafeState

theorem changeMode (h : SameGrid s t) (m : Nat) : SameGrid s (t.changeMode m) := by
  unfold State.changeMode
  extract_lets dev u
  have changed : SameGrid s u := h
  exact .ite (fun _ => changed) fun _ => (changed.acts (State.controlNewMode_acts ..)).acts (State.allocationNewMode_acts ..)

theorem orderedMode (h : SameGrid s t) : SameGrid s t.orderedMode := by
  unfold State.orderedMode
  split
  · refine .ite (fun _ => changeMode ?_ _) fun _ => h
    exact h
  · exact h

theorem modeFreeze (h : SameGrid s t) : SameGrid s t.modeFreeze := by
  unfold State.modeFreeze
  split
  · refine .ite (fun _ => changeMode ?_ _) fun _ => h.orderedMode
    exact h
  · exact h.orderedMode

theorem fusionFreeze (h : SameGrid s t) : SameGrid s t.fusionFreeze := by
  unfold State.fusionFreeze
  extract_lets a b c d
  have returned : SameGrid s a := h.acts (m := 34376515968) (.each (.refl t) fun v n => State.returnSlot_acts v n)
  have cleared : SameGrid s c := returned
  have based : SameGrid s d := cleared.acts (m := 34376515968)
    (.each (.each (.refl c) fun v n => (State.switchSide_acts v n).mono (by decide)) fun v n => State.timebase_acts v n)
  exact (based.setCond 9 _).setCond 2 _

theorem fullFreeze (h : SameGrid s t) : SameGrid s t.fullFreeze := by
  have fresh : SameGrid s (t.when t.dev.fresh State.freshFreeze) := h.acts ((Acts.refl t).when State.freshFreeze_acts)
  exact fresh.fusionFreeze.acts (State.injectionFreeze_acts ..)

end SameGrid

/-! The first freeze (R54, R56). -/

section
variable {s t : State}

theorem State.inSafeState_st (s : State) : s.inSafeState.dev.st = .safe := rfl

/-- R335: the global safe state takes a device past BOOT to SAFE. -/
theorem State.globalSafe_st (s : State) (cause : Nat) : (s.globalSafe cause).dev.st = if s.dev.st = .boot then .boot else .safe := by
  unfold State.globalSafe
  extract_lets first s1 q s2 s3 s4 s5
  have low : Acts (partMask [.alarms, .rcd, .mram, .pins, .saf, .ctl, .fch, .regs, .lease, .brakes]) s s2 :=
    .upd_pins (((State.endTests_acts s 3).mono (by decide)).step (State.setFlag_acts ..) (by decide)) (by decide)
  have shown : Acts (partMask [.alarms, .rcd, .mram, .pins, .saf, .ctl, .fch, .regs, .lease, .brakes]) s s3 :=
    .ite (fun _ => ((low.step (State.setFld_acts ..) (by decide)).step (State.event_acts ..) (by decide)).step (State.raise_acts ..) (by decide)) fun _ => low
  have same : s5.dev = s.dev := ((shown.step (State.dropLease_acts ..) (by decide)).step (State.settleBrakes_acts ..) (by decide)).frame .dev rfl
  clear_value s5
  split
  case h_1 boot => rw [if_pos (same ▸ boot), boot]
  case h_2 other =>
    have past : s.dev.st ≠ .boot := by rw [← same, other]; decide
    exact (State.inSafeState_st _).trans (if_neg past).symm
  all_goals
    rename_i other
    have past : s.dev.st ≠ .boot := by rw [← same, other]; decide
    exact (State.inSafeState_st _).trans (if_neg past).symm

theorem State.enterSafe_st (past : s.dev.st ≠ .boot) : s.enterSafe.dev.st = .safe := (s.globalSafe_st 8).trans (if_neg past)

/-- R56, R73 T1: what becomes of the device at its first freeze. -/
theorem State.enterArmed_spec (s : State) :
    SameGrid s s.enterArmed ∧ (s.enterArmed.dev.st = .armed ∨ s.enterArmed.dev.st = .safe) := by
  unfold State.enterArmed
  extract_lets a d u v
  have released : SameGrid s a := (SameGrid.refl s).acts (State.releaseSafe_acts ..)
  have armed : SameGrid s u := released
  have shown : Acts (partMask [.gns, .regs]) u v.gnsPowerUp :=
    (((State.setFld_acts ..).mono (by decide)).step (State.setFld_acts ..) (by decide)).step (State.gnsPowerUp_acts ..) (by decide)
  have powered : SameGrid s v.gnsPowerUp := armed.acts shown
  have st : v.gnsPowerUp.dev.st = .armed := congrArg (·.st) (shown.frame .dev rfl)
  generalize v.gnsPowerUp = w at powered st
  unfold State.hotRestart
  split
  · split
    · have hot : (w.setFlag F_HLT_STATUS_SHUTDOWN true).dev.st = .armed := st
      have safe := State.enterSafe_st (s := w.setFlag F_HLT_STATUS_SHUTDOWN true) (by rw [hot]; decide)
      refine ⟨((powered.acts (State.setFlag_acts ..)).globalSafe 8).acts (State.raise_acts ..), .inr ?_⟩
      exact (congrArg (·.st) (State.raise_dev ..)).trans safe
    · exact ⟨powered, .inl st⟩
  · exact ⟨powered, .inl st⟩

theorem State.refusedAtStep12_grid (s : State) (cause : Nat) : SameGrid s (s.refusedAtStep12 cause) := by
  unfold State.refusedAtStep12
  extract_lets t
  have shown : SameGrid s t := (SameGrid.refl s).acts (State.setFld_acts ..)
  exact SameGrid.inSafeState (.ite (fun _ => shown) fun _ =>
    (((shown.acts (State.setFld_acts ..)).acts (State.setFlag_acts ..)).acts (State.event_acts ..)).acts (State.raise_acts ..))

theorem State.armedCause_refused (refused : s.boot.sDieRefused = true) : s.armedCause = some 2 := if_pos refused

/-- R300: clearing the slag list moves no instant of the cycle. -/
theorem State.clearSlag_grid (s : State) : SameGrid s s.clearSlag := by
  unfold State.clearSlag State.settleSlag
  refine SameGrid.setCond ?_ _ _
  exact (SameGrid.refl s).acts (m := 16777216) (.each (.refl s) fun u n => .ite (fun _ => .upd_fus (.refl u) rfl) fun _ => .refl u)

theorem State.firstFreeze_spec (s : State) :
    SameGrid { s with dev := { s.dev with cycling := true } } s.firstFreeze ∧ (s.firstFreeze.dev.st = .armed ∨ s.firstFreeze.dev.st = .safe) ∧
    (s.boot.sDieRefused = true → s.firstFreeze.dev.st = .safe) := by
  unfold State.firstFreeze
  extract_lets d common b r w t u
  have opened : SameGrid { s with dev := { s.dev with cycling := true } } t := by
    refine SameGrid.acts ?_ (State.calibrate_acts _)
    exact rfl
  have boot : t.boot.sDieRefused = s.boot.sDieRefused := congrArg (·.sDieRefused) ((State.calibrate_acts ..).frame .boot rfl)
  clear_value t
  have joined : SameGrid { s with dev := { s.dev with cycling := true } } u :=
    .ite (fun _ => (opened.acts (State.setFlag_acts ..)).trans (State.clearSlag_grid _)) fun _ => opened
  have shown : Acts (partMask [.dev, .fus, .regs]) t u :=
    .ite (fun _ => ((State.setFlag_acts ..).mono (by decide)).step (State.clearSlag_acts ..) (by decide)) fun _ => .refl t
  have bootKept : u.boot = t.boot := shown.frame .boot rfl
  clear_value u
  split
  case h_1 c cause => exact ⟨joined.trans (u.refusedAtStep12_grid c), .inr rfl, fun _ => rfl⟩
  case h_2 free =>
    obtain ⟨grid, st⟩ := u.enterArmed_spec
    refine ⟨joined.trans grid, st, fun refused => ?_⟩
    have cause := State.armedCause_refused (s := u) (by rw [bootKept, boot, refused])
    cases cause.symm.trans free

/-- R26: `boundaryAt` falls on the grid, at or after its instant. -/
theorem boundaryAt_mod (t p : Nat) : boundaryAt t p % p = 0 := Nat.mul_mod_left ..

theorem State.cyclePeriod_pos (runs : 0 < s.dev.period) : 0 < s.cyclePeriod := by
  unfold State.cyclePeriod
  split
  · split
    · decide
    · exact runs
  · decide
  · decide
  · exact modePeriod_pos _
  · exact modePeriod_pos _

/-- R26, R28, R72: the next freeze and pour of an opened cycle. -/
structure State.Scheduled (s : State) : Prop where
  onGrid : s.dev.nextFreeze % s.dev.period = 0
  later : s.dev.freezeAt + s.dev.period ≤ s.dev.nextFreeze
  pour : s.dev.pourAt = s.dev.nextFreeze - 2000000

theorem State.schedule_next (s : State) : s.schedule.dev.nextFreeze = boundaryAt (s.dev.freezeAt + s.cyclePeriod) s.cyclePeriod := rfl

theorem State.schedule_pour (s : State) : s.schedule.dev.pourAt = boundaryAt (s.dev.freezeAt + s.cyclePeriod) s.cyclePeriod - 2 * ms := rfl

theorem State.schedule_period (s : State) : s.schedule.dev.period = s.cyclePeriod := rfl

/-- R26: scheduling sets the period and the two instants, whatever their values. -/
theorem State.schedule_rest (s : State) :
    s.schedule.dev.freezeAt = s.dev.freezeAt ∧ s.schedule.dev.cycling = s.dev.cycling ∧ s.schedule.dev.st = s.dev.st := by
  have sets : ∃ period next pour, s.schedule = { s with dev := { s.dev with period := period, nextFreeze := next, pourAt := pour } } := ⟨_, _, _, rfl⟩
  obtain ⟨period, next, pour, sets⟩ := sets
  rw [sets]
  exact ⟨rfl, rfl, rfl⟩

theorem State.schedule_scheduled (runs : 0 < s.dev.period) : s.schedule.Scheduled where
  onGrid := by
    rw [State.schedule_next, State.schedule_period, boundaryAt_mod]
  later := by
    rw [State.schedule_next, State.schedule_period, s.schedule_rest.1]
    exact le_boundaryAt _ (State.cyclePeriod_pos runs)
  pour := by
    rw [State.schedule_next, State.schedule_pour, ms]

theorem State.schedule_period_of_safe (safe : s.dev.st = .safe) : s.schedule.dev.period = 20000000 := by
  show s.cyclePeriod = _
  rw [State.cyclePeriod, safe]
  simp [ms]

theorem State.Scheduled.kept (h : s.Scheduled) (grid : SameGrid s t) (freeze : t.dev.freezeAt = s.dev.freezeAt) : t.Scheduled := by
  obtain ⟨onGrid, later, pour⟩ := h
  unfold SameGrid at grid
  simp only [Prod.mk.injEq] at grid
  obtain ⟨_, next, at_, period⟩ := grid
  exact ⟨by rw [next, period, onGrid], by rw [freeze, period, next]; exact later, by rw [at_, next, pour]⟩

/-- What `freezeWork` leaves of the cycle: the state it enters, and a schedule. -/
theorem State.freezeWork_spec (s : State) (runs : 0 < s.dev.period) (before : Nat) (latch : List ChannelLatch) :
    let t := s.freezeWork before latch
    t.Scheduled ∧ t.dev.cycling = s.dev.cycling ∧
    t.dev.st = (if s.clk.boundarySafe = true ∧ s.dev.st ≠ .safe ∧ s.dev.st ≠ .boot then .safe else s.dev.st) ∧
    (t.dev.st = .safe → t.dev.period = 20000000) := by
  unfold State.freezeWork
  extract_lets s1 s2 s3 s4 s5 t
  have st1 : s1.dev.st = if s.clk.boundarySafe = true ∧ s.dev.st ≠ .safe ∧ s.dev.st ≠ .boot then .safe else s.dev.st := by
    show (if _ then _ else _ : State).dev.st = _
    simp only [Bool.and_eq_true, bne_iff_ne, and_assoc]
    split
    case isTrue lost => exact State.enterSafe_st lost.2.2
    case isFalse => rfl
  have grid1 : SameGrid s s1 := .ite (fun _ => (SameGrid.refl s).globalSafe 8) fun _ => .refl s
  clear_value s1
  let w := s1.joinNow.soloCondition.modeFreeze.tuneFreeze
  have gridW : SameGrid s1 w := ((((SameGrid.refl s1).acts (State.joinNow_acts ..)).setCond 4 _).modeFreeze).acts (State.tuneFreeze_acts ..)
  have actsW : Acts (partMask [.dev, .ctl, .alc, .devMode, .alarms, .rcd, .twn, .regs, .pat, .ord]) s1 w :=
    ((((State.joinNow_acts s1).mono (by decide)).step (State.soloCondition_acts ..) (by decide)).step (State.modeFreeze_acts ..) (by decide)).step
      (State.tuneFreeze_acts ..) (by decide)
  have stW : w.dev.st = s1.dev.st := actsW.frame .devSt rfl
  have scheduled : s2 = w.schedule := rfl
  clear_value w
  clear_value s2
  subst scheduled
  have grid3 : SameGrid w.schedule s3 :=
    (((SameGrid.refl w.schedule).acts (State.lanesFreeze_acts ..)).acts (State.bankSwitchNow_acts ..)).acts (State.sparesFreeze_acts ..)
  have acts3 : Acts (partMask [.alarms, .rcd, .mram, .slv, .regs, .recNext, .hlt]) w.schedule s3 :=
    (((State.lanesFreeze_acts w.schedule).mono (by decide)).step (State.bankSwitchNow_acts ..) (by decide)).step (State.sparesFreeze_acts ..) (by decide)
  clear_value s3
  have grid4 : SameGrid w.schedule (s4.availabilityFreeze) := (grid3.acts (State.gnssFreeze_acts s3 latch)).acts (State.availabilityFreeze_acts s4)
  have acts5 : Acts (partMask [.hlt, .gns, .regs, .ord, .alarms, .rcd, .alc, .dev, .fus, .ctl]) s3 s5 :=
    (((State.gnssFreeze_acts s3 latch).mono (by decide)).step (State.availabilityFreeze_acts ..) (by decide)).step
      ((Acts.refl _).when State.fullFreeze_acts) (by decide)
  have grid5 : SameGrid w.schedule s5 := by
    show SameGrid w.schedule (State.when _ _ _)
    unfold State.when
    exact .ite (fun _ => grid4.fullFreeze) fun _ => grid4
  have last : Acts (partMask [.fch, .agr, .twn, .can, .regs, .out, .saf, .brakes, .rcd, .sti]) s5 t :=
    ((((((State.fieldFreeze_acts s5 before).mono (by decide)).step (State.canFreeze_acts ..) (by decide)).step (State.brakeTestFreeze_acts ..) (by decide)).step
      (State.statusItems_acts ..) (by decide)).step (State.anchorFreeze_acts ..) (by decide)).step (State.breakViews_acts ..) (by decide)
  clear_value t s5
  have grid : SameGrid w.schedule t := grid5.acts last
  have st : t.dev.st = w.schedule.dev.st := (last.frame .devSt rfl).trans ((acts5.frame .devSt rfl).trans (acts3.frame .devSt rfl))
  have epoch : Part.devEpoch.same w.schedule t :=
    (last.frame .devEpoch rfl).trans ((acts5.frame .devEpoch rfl).trans (acts3.frame .devEpoch rfl))
  have toW := grid1.trans gridW
  have runsW : 0 < w.dev.period := toW.period ▸ runs
  have freeze : t.dev.freezeAt = w.schedule.dev.freezeAt := (Prod.mk.inj (Prod.mk.inj epoch).2).2
  rw [w.schedule_rest.2.2] at st
  refine ⟨(State.schedule_scheduled runsW).kept grid freeze, ?_, st.trans (stW.trans st1), fun safe => ?_⟩
  · rw [grid.cycling, w.schedule_rest.2.1, toW.cycling]
  · rw [grid.period, State.schedule_period_of_safe (st.symm.trans safe)]

/-- R26, R32: an opened cycle: its epoch and its instants. -/
theorem State.openCycle_spec (s : State) :
    s.openCycle.dev = { s.dev with stateEp := s.dev.stateEp + 1, freezes := s.dev.freezes + 1, freezeAt := s.dev.nextFreeze, stepsDone := [], stepsLate := [] } ∧
    s.openCycle.tim.wt = s.tim.wt + (s.dev.nextFreeze - s.tim.wt) ∧ s.openCycle.tim.el = s.tim.el + (s.dev.nextFreeze - s.tim.wt) ∧
    s.openCycle.boot = s.boot ∧ s.openCycle.clk = s.clk := ⟨rfl, rfl, rfl, rfl, rfl⟩

end

theorem exec_cycleFreeze_idle {s : State} {l : List ChannelLatch} (idle : s.dev.cycling = false) (waits : s.boot.readyForFreeze = false) :
    exec (.cycleFreeze l) s = .next s := by
  rw [exec_cycleFreeze, execCycleFreeze, idle, waits]
  rfl

theorem exec_cycleFreeze_opens {s : State} {l : List ChannelLatch} (runs : s.dev.cycling = true ∨ s.boot.readyForFreeze = true) :
    exec (.cycleFreeze l) s = .next ((if s.dev.st = .boot then s.openCycle.firstFreeze else s.openCycle).freezeWork s.dev.freezeAt l) := by
  rw [exec_cycleFreeze, execCycleFreeze, if_pos (by simpa using runs)]

/-- What the first freeze may change. -/
def firstFreezeParts : List Part :=
  [.boot, .dev, .alarms, .rcd, .mram, .pins, .twn, .saf, .hlt, .thm, .gns, .fus, .ctl, .alc, .fch, .regs, .out, .devSt, .devMode, .devAim, .ladle, .recNext,
    .lease, .brakes]

/-- What the work of a freeze leaves of an opened cycle. -/
theorem State.freezeWork_keeps {o u : State} (acts : Acts (partMask firstFreezeParts) o u) (before : Nat) (l : List ChannelLatch) :
    let t := u.freezeWork before l
    t.dev.stateEp = o.dev.stateEp ∧ t.dev.freezes = o.dev.freezes ∧ t.dev.freezeAt = o.dev.freezeAt ∧ t.tim.wt = o.tim.wt ∧ t.tim.el = o.tim.el ∧
    t.serial = o.serial ∧ t.flash = o.flash := by
  intro t
  have work : Acts 2054474516284400 u t := State.freezeWork_acts u before l
  clear_value t
  have epoch : Part.devEpoch.same o t := (work.frame .devEpoch rfl).trans (acts.frame .devEpoch rfl)
  exact ⟨(Prod.mk.inj (Prod.mk.inj epoch).2).1, (Prod.mk.inj epoch).1, (Prod.mk.inj (Prod.mk.inj epoch).2).2,
    (work.frame .working rfl).trans (acts.frame .working rfl), (work.frame .elapsed rfl).trans (acts.frame .elapsed rfl),
    (work.frame .serial rfl).trans (acts.frame .serial rfl), (work.frame .flash rfl).trans (acts.frame .flash rfl)⟩

/-- R26, R54: the state `o` of a cycle that opens, after the first freeze's own work where it is the first. -/
def State.begun (s o : State) : State := if s.dev.st = .boot then o.firstFreeze else o

theorem State.begun_acts (s o : State) : Acts (partMask firstFreezeParts) o (s.begun o) :=
  .ite (fun _ => o.firstFreeze_acts.mono (by decide)) fun _ => .refl o

theorem State.begun_period (s o : State) : (s.begun o).dev.period = o.dev.period := by
  unfold State.begun
  split
  · exact o.firstFreeze_spec.1.period
  · rfl

/-- R28, R30, R72 to R78: a freeze past BOOT. -/
theorem State.freeze_past {s o : State} (runs : 0 < o.dev.period) (st : o.dev.st = s.dev.st) (cycling : o.dev.cycling = s.dev.cycling) (clk : o.clk = s.clk)
    (before : Nat) (l : List ChannelLatch) (past : s.dev.st ≠ .boot) :
    let t := o.freezeWork before l
    t.dev.cycling = s.dev.cycling ∧ (t.dev.st = s.dev.st ∨ t.dev.st = .safe ∨ (s.dev.st = .active ∧ t.dev.st = .armed)) ∧
    (s.clk.boundarySafe = true → t.dev.st = .safe) ∧ (s.dev.st = .safe → t.dev.period = 20000000) := by
  intro t
  obtain ⟨_, kept, entered, safePeriod⟩ := o.freezeWork_spec runs before l
  rw [st, clk] at entered
  refine ⟨kept.trans cycling, ?_, fun lost => ?_, fun safe => safePeriod ?_⟩
  · rw [entered]
    split
    · exact .inr (.inl rfl)
    · exact .inl rfl
  · rw [entered]
    by_cases safe : s.dev.st = .safe
    · simp [safe]
    · exact if_pos ⟨lost, safe, past⟩
  · rw [entered, safe]
    simp

/-- R54, R56: the freeze that ends the boot. -/
theorem State.freeze_first {o : State} (runs : 0 < o.dev.period) (before : Nat) (l : List ChannelLatch) :
    let t := o.firstFreeze.freezeWork before l
    t.dev.cycling = true ∧ (t.dev.st = .armed ∨ t.dev.st = .safe) ∧ (o.boot.sDieRefused = true → t.dev.st = .safe) := by
  intro t
  obtain ⟨grid, entered, refused⟩ := o.firstFreeze_spec
  have period : o.firstFreeze.dev.period = o.dev.period := grid.period
  obtain ⟨_, kept, st, _⟩ := o.firstFreeze.freezeWork_spec (period ▸ runs) before l
  refine ⟨kept.trans grid.cycling, ?_, fun sDie => ?_⟩
  · rw [st]
    split
    · exact .inr rfl
    · exact entered
  · rw [st, refused sDie]
    simp

/-- Settles O13. -/
theorem aFreezeOpensTheNextCycle : Obligations.AFreezeOpensTheNextCycle := by
  unfold Obligations.AFreezeOpensTheNextCycle
  intro l s period
  refine ⟨fun idle waits => exec_cycleFreeze_idle idle waits, fun runs => ⟨((s.begun s.openCycle).freezeWork s.dev.freezeAt l), exec_cycleFreeze_opens runs, ?_⟩⟩
  obtain ⟨dev, wt, el, boot, clk⟩ := s.openCycle_spec
  have serial : s.openCycle.serial = s.serial := (State.openCycle_acts s).frame .serial rfl
  have flash : s.openCycle.flash = s.flash := (State.openCycle_acts s).frame .flash rfl
  generalize s.openCycle = o at *
  have runsO : 0 < o.dev.period := by rw [dev]; exact period
  obtain ⟨stateEp, freezes, freezeAt, wtKept, elKept, serialKept, flashKept⟩ := State.freezeWork_keeps (s.begun_acts o) s.dev.freezeAt l
  obtain ⟨scheduled, -, -, -⟩ := (s.begun o).freezeWork_spec ((s.begun_period o).symm ▸ runsO) s.dev.freezeAt l
  refine ⟨stateEp.trans (by rw [dev]), freezes.trans (by rw [dev]), freezeAt.trans (by rw [dev]), ?_, wtKept.trans wt, elKept.trans el,
    scheduled.onGrid, scheduled.later, scheduled.pour, serialKept.trans serial, flashKept.trans flash, fun past => ?past, fun booting => ?booting⟩
  · rw [wtKept, wt]
    omega
  case past =>
    rw [State.begun, if_neg past]
    exact State.freeze_past runsO (by rw [dev]) (by rw [dev]) clk s.dev.freezeAt l past
  case booting =>
    rw [State.begun, if_pos booting, ← boot]
    exact State.freeze_first runsO s.dev.freezeAt l

end Sys2Proof.Machine

/-! An order that waited for the cycle is evaluated as soon as the set is decided (R82, R281): an ALARM_ACK may then acknowledge the alarm that the decision has
just raised (R282). -/
namespace Sys2Proof.Machine
set_option Elab.async false

/-- An ALARM_ACK of every alarm, from a mailbox source, stamped in the cycle before. -/
def acknowledgesAll : OrderIn :=
  { transport := .hostBox, address := 0#32, port := 0, format := 1, target := 0, source := 1, seq := 0, ladleEp := 0, stateEp := 0,
    args := [0xFFFF#32], crcOk := true, stamp := 0 }

/-- A lead device in step that decides without the other side's CLOSE, while `acknowledgesAll` waits for the cycle. -/
def decidesAlone : State :=
  let s := State.reset.setFlag F_TWN_STATUS_IN_STEP true
  { s with
    pat := { s.pat with loaded := true, params := [(0x1201, [0#32, 0#32, 0xFFFFFFFF#32, 0#32])] }
    dev := { s.dev with st := .armed, cycling := true, freezes := 1 }
    agr := { s.agr with closed := true }
    ord := { s.ord with waiting := [⟨acknowledgesAll, 0x13⟩] } }

theorem decidesAlone_acknowledged : ∃ t, exec .agreeDecide decidesAlone = .next t ∧ t.alarm? 0x0405 = some ⟨0x0405, true, true⟩ := by
  refine ⟨_, rfl, ?_⟩
  decide +kernel

/-- Refutes O15: the alarm of an exclusion does not stay unacknowledged when an ALARM_ACK waits for the cycle whose set the lead side decides. -/
theorem not_theTwinsAgreeOnTheItemsOfACycle : ¬ Obligations.TheTwinsAgreeOnTheItemsOfACycle := by
  unfold Obligations.TheTwinsAgreeOnTheItemsOfACycle
  rintro ⟨-, -, -, -, decides, -⟩
  obtain ⟨t, ran, -, -, excluded, -⟩ := decides decidesAlone (by decide +kernel) rfl (by decide +kernel) (by decide +kernel)
  have raised : t.alarm? 0x0405 = some ⟨0x0405, false, true⟩ := excluded (by decide +kernel)
  obtain ⟨u, ran', acknowledged⟩ := decidesAlone_acknowledged
  cases ran.symm.trans ran'
  exact absurd (raised.symm.trans acknowledged) (by decide)

end Sys2Proof.Machine

/-! A late step 1 decides alone as well (R282): its alarm 0x0006 may be acknowledged by an order of the same cycle. -/
namespace Sys2Proof.Machine
set_option Elab.async false

theorem decidesAlone_sound : decidesAlone.Sound := by
  have flagged : (State.reset.setFlag F_TWN_STATUS_IN_STEP true).Sound := State.reset_sound.setFlag _ true
  exact ⟨flagged.canonical, flagged.alarms, flagged.queue, flagged.used, flagged.buffer⟩

theorem decidesAlone_late : ∃ t, exec (.stepDeadline 1) decidesAlone = .next t ∧ t.alarm? 0x0006 = some ⟨0x0006, true, true⟩ := by
  refine ⟨_, rfl, ?_⟩
  decide +kernel

/-- Refutes O19: the alarm of a late step 1 does not stay unacknowledged when an ALARM_ACK waits for its cycle. -/
theorem not_outputsAreComparedJudgedArbitratedAndPoured : ¬ Obligations.OutputsAreComparedJudgedArbitratedAndPoured := by
  unfold Obligations.OutputsAreComparedJudgedArbitratedAndPoured
  rintro ⟨-, -, -, -, -, -, -, -, late, -⟩
  obtain ⟨t, ran, raised, -⟩ := late decidesAlone (by decide +kernel) decidesAlone_sound
  obtain ⟨u, ran', acknowledged⟩ := decidesAlone_late
  cases ran.symm.trans ran'
  exact absurd (raised.symm.trans acknowledged) (by decide)

end Sys2Proof.Machine

/-! Orders past the duplicate test (R83, R87): the middle checks, and the order that stands. -/
namespace Sys2Proof.Machine
set_option Elab.async false

section
variable {s : State} {o : OrderIn} {k : Nat} {b : Bool} {late : List (Nat × Bool)} {effect : State → State} {run : State}

/-- The order book of `s` once an order that passes the duplicate test has been counted (R83). -/
def State.counting (s : State) (o : OrderIn) : State :=
  { s with ord := { s.ord with counted := aset s.ord.counted o.source (s.countedOrders o.source + 1) } }

/-- The order book of `s` once an order has been counted and its SEQ is the last accepted one of its source (R83, R84). -/
def State.accepting (s : State) (o : OrderIn) : State :=
  { s with ord := { s.ord with counted := aset s.ord.counted o.source (s.countedOrders o.source + 1), lastSeq := aset s.ord.lastSeq o.source o.seq } }

theorem State.takeOrder_idle (idle : s.dev.st = .boot ∨ s.dev.cycling = false) : s.takeOrder o k run = s := by
  unfold State.takeOrder
  rcases idle with h | h <;> simp [h]

theorem State.takeOrder_later (left : s.dev.st ≠ .boot) (cycling : s.dev.cycling = true) (later : s.dev.stateEp < s.epochOf o.stamp) :
    s.takeOrder o k run = { s with ord := { s.ord with waiting := s.ord.waiting ++ [⟨o, k⟩] } } := by
  simp [State.takeOrder, left, cycling, later]

theorem State.evalOrder_fails (hform : malformed o = false) (hauth : s.authorised o k = true) (hdup : s.duplicate o = false)
    (fails : s.midChecks o b (s.countedOrders o.source) ≠ 0) :
    s.evalOrder o k b late effect = (s.counting o).respond o k (s.midChecks o b (s.countedOrders o.source)) := by
  simp [State.evalOrder, State.orderResult, State.counting, hform, hauth, hdup, fails]

theorem State.evalOrder_foreign (hform : malformed o = false) (hauth : s.authorised o k = true) (hdup : s.duplicate o = false)
    (pass : s.midChecks o b (s.countedOrders o.source) = 0) (foreign : s.foreignTarget o = true) :
    s.evalOrder o k b late effect = (s.accepting o).respond o k 0 := by
  simp [State.evalOrder, State.orderResult, State.accepting, hform, hauth, hdup, pass, foreign]

/-- R83: the middle checks of an order, in their order. -/
theorem State.midChecks_eq (s : State) (o : OrderIn) (b : Bool) (n : Nat) :
    s.midChecks o b n = if o.seq < aget 0 s.ord.lastSeq o.source then 0x08 else if o.ladleEp ≠ s.twn.ladleEp then 0x09
      else if s.dev.stateEp < o.stateEp ∨ o.stateEp + s.par 0x1203 < s.dev.stateEp then 0x0A else if 8 ≤ n then 0x0B
      else if b = true ∧ s.dev.command ≠ o.source then 0x04 else 0 := by
  simp [State.midChecks]

/-- Settles O21. -/
theorem ordersFailTheMiddleChecksInOrder : Obligations.OrdersFailTheMiddleChecksInOrder := by
  unfold Obligations.OrdersFailTheMiddleChecksInOrder
  intro c o k b s hrow
  obtain ⟨late, effect, run⟩ := exec_orderRow hrow s
  refine ⟨fun idle => ?idle, fun left cycling later => ?later, fun left cycling due hformat hcrc htarget hauth hdup r hr => ?due⟩
  case idle => exact run.trans (congrArg _ (State.takeOrder_idle idle))
  case later => exact run.trans (congrArg _ (State.takeOrder_later left cycling later))
  case due =>
    have hform := malformed_eq_false hformat hcrc htarget
    rw [State.takeOrder_due left cycling due] at run
    rw [← State.midChecks_eq] at hr
    refine ⟨fun fails => ?fails, fun pass foreign => ?foreign⟩
    case fails =>
      rw [State.evalOrder_fails hform hauth hdup (hr ▸ fails), ← hr] at run
      exact ⟨_, run, rfl, by intro p; cases p <;> simp [Part.same, State.respond, State.counting]⟩
    case foreign =>
      rw [State.evalOrder_foreign hform hauth hdup (hr ▸ pass) foreign] at run
      exact ⟨_, run, ⟨rfl, rfl, rfl⟩, rfl, by intro p; cases p <;> simp [Part.same, State.respond, State.accepting]⟩

end
end Sys2Proof.Machine

/-! What each accepted order of the table does (R86 to R90). -/
namespace Sys2Proof.Machine
set_option Elab.async false

section
variable {s : State} {o : OrderIn} {k : Nat} {b : Bool} {late : List (Nat × Bool)} {effect : State → State}

/-- R83, R87: an order that stands and passes the checks of its row is carried out and answered with 0. -/
theorem State.Stands.run (stands : s.Stands o k b) (pass : firstFail late = 0) :
    s.takeOrder o k (s.evalOrder o k b late effect) = (effect (s.accepting o)).respond o k 0 := by
  obtain ⟨left, cycling, due, hformat, hcrc, htarget, hauth, hdup, mid, own⟩ := stands
  rw [State.takeOrder_due left cycling due]
  simp [State.evalOrder, State.orderResult, State.accepting, malformed_eq_false hformat hcrc htarget, hauth, hdup, mid, own, pass]

theorem State.Stands.ran {c : Instr} (stands : s.Stands o k b) (row : exec c s = .next (s.takeOrder o k (s.evalOrder o k b late effect)))
    (pass : firstFail late = 0) : exec c s = .next ((effect (s.accepting o)).respond o k 0) :=
  row.trans (congrArg _ (stands.run pass))

theorem nthW_of_take {l : List Word} {n i : Nat} (low : i < n) : nthW l i = nthW (l.take n) i := by
  simp [nthW, List.getD_eq_getElem?_getD, low]

theorem accepted_respond {t : State} (responses : t.ord.responses = s.ord.responses) (lastSeq : t.ord.lastSeq = (s.accepting o).ord.lastSeq)
    (counted : t.ord.counted = (s.accepting o).ord.counted) : s.Accepted (t.respond o k 0) o k :=
  ⟨by simp [State.respond, responses], lastSeq, counted⟩

end

section
variable {s : State} {o : OrderIn}

theorem engage_stands {d : Side} (stands : s.Stands o 0x01 true) (named : s.namedSide o 0x01 = some d)
    (accepts : stateAccepts (s.sideStateOf d) 0x01 = true) (ok : s.engageOk d = true) (own : d ≠ s.pins.side ∨ s.ownState = 1) :
    ∃ t, exec (.engage o) s = .next t ∧ s.Accepted t o 0x01 ∧
    t.dev = { s.dev with atPour := s.dev.atPour ++ [.engage d] } ∧ t.ord.sideState = aset s.ord.sideState (sideCode d) 2 ∧ Frame [.ord, .dev] s t := by
  have pass : firstFail [(0x05, stateAccepts (s.sideStateOf d) 0x01 && s.engageOk d && (d != s.pins.side || s.ownState == 1)), (0x07, s.targetOk o 0x01)] = 0 := by
    rcases own with other | armed <;> simp [firstFail, State.targetOk, *]
  have side : (s.namedSide o 0x01).getD .cope = d := by rw [named]; rfl
  have run : exec (.engage o) s = .next ((((s.accepting o).noteState d 2).atPour (.engage d)).respond o 0x01 0) := by
    rw [exec_engage, execEngage, State.engageOrder, side, stands.run pass]
  exact ⟨_, run, accepted_respond rfl rfl rfl, rfl, rfl, by intro p; cases p <;> simp [Part.same, State.respond, State.accepting, State.atPour, State.noteState]⟩

theorem disengage_stands (stands : s.Stands o 0x02 true) (ok : s.stateOk 0x02 = true) (held : s.someHolder = true) (target : s.targetOk o 0x02 = true) :
    ∃ t, exec (.disengage o) s = .next t ∧ s.Accepted t o 0x02 ∧ t.dev = { s.dev with atPour := s.dev.atPour ++ [.disengage] } ∧
    t.ord.sideState = (s.noteHolder 1).ord.sideState ∧ Frame [.ord, .dev] s t := by
  have run := stands.ran (by rw [exec_disengage, execDisengage, State.disengageOrder]) (by simp [firstFail, *])
  obtain ⟨d, holder⟩ := Option.isSome_iff_exists.mp held
  have holder' : (s.accepting o).holderNow = some d := holder
  simp only [State.noteHolder, holder'] at run
  refine ⟨_, run, accepted_respond rfl rfl rfl, rfl, ?_, by intro p; cases p <;> simp [Part.same, State.respond, State.accepting, State.atPour, State.noteState]⟩
  simp only [State.noteHolder, holder]; rfl

theorem transfer_stands (stands : s.Stands o 0x03 true) (ok : s.stateOk 0x03 = true) (held : s.someHolder = true) (paired : s.alone = false)
    (ready : s.transferReady = true) (target : s.targetOk o 0x03 = true) :
    ∃ t, exec (.transfer o) s = .next t ∧ s.Accepted t o 0x03 ∧ t.dev = { s.dev with atPour := s.dev.atPour ++ [.transfer] } ∧
    t.ord.sideState = s.noteTransfer.ord.sideState ∧ Frame [.ord, .dev] s t := by
  have run := stands.ran (by rw [exec_transfer, execTransfer, State.transferOrder]) (by simp [firstFail, *])
  obtain ⟨d, holder⟩ := Option.isSome_iff_exists.mp held
  have holder' : (s.accepting o).holderNow = some d := holder
  simp only [State.noteTransfer, holder'] at run
  refine ⟨_, run, accepted_respond rfl rfl rfl, rfl, ?_, by intro p; cases p <;> simp [Part.same, State.respond, State.accepting, State.atPour, State.noteState]⟩
  simp only [State.noteTransfer, holder]; rfl

theorem setMode_stands (stands : s.Stands o 0x04 true) (ok : s.stateOk 0x04 = true) (ready : s.modeReady (nthW o.args 0).toNat = true) (low : 1 ≤ (nthW o.args 0).toNat)
    (high : (nthW o.args 0).toNat ≤ 6) (free : ∀ m, s.dev.ownNew = some m → s.modeDue m ≠ s.modeDue (nthW o.args 0).toNat) (target : s.targetOk o 0x04 = true) :
    ∃ t, exec (.setMode o) s = .next t ∧ s.Accepted t o 0x04 ∧ t.dev = { s.dev with newMode := some (nthW o.args 0).toNat } ∧ Frame [.ord, .dev] s t := by
  have run := stands.ran (by rw [exec_setMode, execSetMode, State.setModeOrder]) (by cases own : s.dev.ownNew <;> simp [firstFail, *])
  exact ⟨_, run, accepted_respond rfl rfl rfl, rfl, by intro p; cases p <;> simp [Part.same, State.respond, State.accepting]⟩

theorem setPoint_stands (stands : s.Stands o 0x05 true) (ok : s.stateOk 0x05 = true) (heading : (nthW o.args 2).toNat ≤ 359999) (target : s.targetOk o 0x05 = true) :
    ∃ t, exec (.setPoint o) s = .next t ∧ s.Accepted t o 0x05 ∧ t.dev = { s.dev with setPoint := [(nthW o.args 0).toInt, (nthW o.args 1).toInt, ((nthW o.args 2).toNat : Int)] } ∧
    t.ctl = { s.ctl with spNew := true } ∧ Frame [.ord, .dev, .devAim, .ctl] s t := by
  have run := stands.ran (by rw [exec_setPoint, execSetPoint, State.setPointOrder]) (by simp [firstFail, *])
  exact ⟨_, run, accepted_respond rfl rfl rfl, rfl, rfl, by intro p; cases p <;> simp [Part.same, State.respond, State.accepting]⟩

theorem setTrack_stands {a b c d v : Word} (stands : s.Stands o 0x06 true) (ok : s.stateOk 0x06 = true) (args : o.args.take 5 = [a, b, c, d, v]) (speed : v.toNat ≤ 3000) (target : s.targetOk o 0x06 = true) :
    ∃ t, exec (.setTrack o) s = .next t ∧ s.Accepted t o 0x06 ∧ t.dev = { s.dev with track := some [a.toInt, b.toInt, c.toInt, d.toInt, (v.toNat : Int)] } ∧
    t.ctl = { s.ctl with trackAt := 0, trackEnd := false } ∧ Frame [.ord, .dev, .devAim, .ctl] s t := by
  have knots : nthW o.args 4 = v := by rw [nthW_of_take (n := 5) (by decide), args]; rfl
  have way : o.args.take 4 = [a, b, c, d] := by
    have := congrArg (List.take 4) args
    simpa [List.take_take] using this
  have run := stands.ran (by rw [exec_setTrack, execSetTrack, State.setTrackOrder]) (by simp [firstFail, *])
  refine ⟨_, run, accepted_respond rfl rfl rfl, ?_, rfl, by intro p; cases p <;> simp [Part.same, State.respond, State.accepting]⟩
  simp [State.respond, State.accepting, knots, way]

theorem setFollowRef_stands {w a b c : Word} (stands : s.Stands o 0x07 true) (ok : s.stateOk 0x07 = true) (args : o.args.take 4 = [w, a, b, c]) (unit : s.followTargetOk w.toNat = true)
    (arg : s.followArgOk w.toNat = true) (target : s.targetOk o 0x07 = true) :
    ∃ t, exec (.setFollowRef o) s = .next t ∧ s.Accepted t o 0x07 ∧ t.dev = { s.dev with follow := some [(w.toNat : Int), a.toInt, b.toInt, c.toInt] } ∧
    t.ctl = { s.ctl with follow := none } ∧ Frame [.ord, .dev, .devAim, .ctl] s t := by
  have unitIs : nthW o.args 0 = w := by rw [nthW_of_take (n := 4) (by decide), args]; rfl
  have rest : (o.args.drop 1).take 3 = [a, b, c] := by
    have := congrArg (List.drop 1) args
    simpa [List.drop_take] using this
  have run := stands.ran (by rw [exec_setFollowRef, execSetFollowRef, State.setFollowRefOrder]) (by simp [firstFail, *])
  refine ⟨_, run, accepted_respond rfl rfl rfl, ?_, rfl, by intro p; cases p <;> simp [Part.same, State.respond, State.accepting]⟩
  simp only [State.respond, State.accepting, unitIs, rest, List.map_cons, List.map_nil]

theorem joystick_stands {a b c : Word} (stands : s.Stands o 0x08 true) (ok : s.stateOk 0x08 = true) (args : o.args.take 3 = [a, b, c])
    (surge : a.toInt.natAbs ≤ 1000) (sway : b.toInt.natAbs ≤ 1000) (yaw : c.toInt.natAbs ≤ 1000) (target : s.targetOk o 0x08 = true) :
    ∃ t, exec (.joystick o) s = .next t ∧ s.Accepted t o 0x08 ∧ t.dev = { s.dev with joystick := [a.toInt, b.toInt, c.toInt], joyAt := s.tim.el, joyLost := false } ∧ Frame [.ord, .dev, .devAim] s t := by
  have run := stands.ran (by rw [exec_joystick, execJoystick, State.joystickOrder]) (by simp [firstFail, demandOk, *])
  refine ⟨_, run, accepted_respond rfl rfl rfl, ?_, by intro p; cases p <;> simp [Part.same, State.respond, State.accepting]⟩
  simp [State.respond, State.accepting, args]

theorem sensorReturn_stands (stands : s.Stands o 0x0B false) (ok : s.stateOk 0x0B = true) (used : s.slotUsed (nthW o.args 0).toNat = true) (slagged : (s.fslot (nthW o.args 0).toNat).st = 4) (target : s.targetOk o 0x0B = true) :
    ∃ t, exec (.sensorReturn o) s = .next t ∧ s.Accepted t o 0x0B ∧ t.fus = { s.fus with returns := insertNew s.fus.returns (nthW o.args 0).toNat } ∧ Frame [.ord, .fus] s t := by
  have run := stands.ran (by rw [exec_sensorReturn, execSensorReturn, State.sensorReturnOrder]) (by simp [firstFail, *])
  exact ⟨_, run, accepted_respond rfl rfl rfl, rfl, by intro p; cases p <;> simp [Part.same, State.respond, State.accepting]⟩

theorem tunable_stands (stands : s.Stands o 0x0C false) (ok : s.stateOk 0x0C = true) (fits : s.tunableOk (nthW o.args 0) (nthW o.args 1) = true) (once : (nthW o.args 0).toNat ∉ s.ord.tunedThisCycle) (target : s.targetOk o 0x0C = true) :
    ∃ t, exec (.tunable o) s = .next t ∧ s.Accepted t o 0x0C ∧ t.ord.tuneNext = s.ord.tuneNext ++ [((nthW o.args 0).toNat, nthW o.args 1)] ∧
    t.ord.tunedThisCycle = s.ord.tunedThisCycle ++ [(nthW o.args 0).toNat] ∧ Frame [.ord] s t := by
  have run := stands.ran (by rw [exec_tunable, execTunable, State.tunableOrder]) (by simp [firstFail, *])
  exact ⟨_, run, accepted_respond rfl rfl rfl, rfl, rfl, by intro p; cases p <;> simp [Part.same, State.respond, State.accepting]⟩

theorem park_stands (stands : s.Stands o 0x0F false) (own : s.ownState = 1) (none : s.noneActive = true) (target : s.targetOk o 0x0F = true) :
    ∃ t, exec (.park o) s = .next t ∧ s.Accepted t o 0x0F ∧ t.dev = { s.dev with atPour := s.dev.atPour ++ [.park] } ∧
    t.ord.sideState = (s.noteBoth 4).ord.sideState ∧ Frame [.ord, .dev] s t := by
  have run := stands.ran (by rw [exec_park, execPark, State.parkOrder]) (by simp [firstFail, *])
  exact ⟨_, run, accepted_respond rfl rfl rfl, rfl, rfl, by intro p; cases p <;> simp [Part.same, State.respond, State.accepting, State.atPour, State.noteState, State.noteBoth]⟩

theorem unpark_stands (stands : s.Stands o 0x10 false) (own : s.ownState = 4) (target : s.targetOk o 0x10 = true) :
    ∃ t, exec (.unpark o) s = .next t ∧ s.Accepted t o 0x10 ∧ t.dev = { s.dev with atPour := s.dev.atPour ++ [.unpark] } ∧
    t.ord.sideState = (s.noteBoth 1).ord.sideState ∧ Frame [.ord, .dev] s t := by
  have run := stands.ran (by rw [exec_unpark, execUnpark, State.unparkOrder]) (by simp [firstFail, *])
  exact ⟨_, run, accepted_respond rfl rfl rfl, rfl, rfl, by intro p; cases p <;> simp [Part.same, State.respond, State.accepting, State.atPour, State.noteState, State.noteBoth]⟩

theorem takeCommand_stands (stands : s.Stands o 0x09 false) (ok : s.stateOk 0x09 = true) (target : s.targetOk o 0x09 = true)
    (free : s.dev.command = o.source ∨ s.ord.commandChanged = false) : ∃ t, exec (.takeCommand o) s = .next t ∧ s.Accepted t o 0x09 ∧
    t.dev = { s.dev with command := o.source } ∧ t.ord.commandChanged = (s.ord.commandChanged || s.dev.command != o.source) ∧ Frame [.ord, .dev] s t := by
  have run := stands.ran (by rw [exec_takeCommand, execTakeCommand, State.takeCommandOrder]) (by rcases free with same | first <;> simp [firstFail, *])
  by_cases same : s.dev.command = o.source
  · rw [if_pos (show (s.accepting o).dev.command = o.source from same)] at run
    refine ⟨_, run, accepted_respond rfl rfl rfl, ?_, by simp [State.respond, State.accepting, same],
      by intro p; cases p <;> simp [Part.same, State.respond, State.accepting]⟩
    rw [← same]; rfl
  · rw [if_neg (show (s.accepting o).dev.command ≠ o.source from same)] at run
    exact ⟨_, run, accepted_respond rfl rfl rfl, rfl, by simp [State.respond, same],
      by intro p; cases p <;> simp [Part.same, State.respond, State.accepting]⟩

theorem safe_stands {d : Side} (stands : s.Stands o 0x11 false) (side : d = (s.namedSide o 0x11).getD s.pins.side)
    (accepts : stateAccepts (s.sideStateOf d) 0x11 = true) (ok : d = s.pins.side → s.stateOk 0x11 = true) (target : s.targetOk o 0x11 = true) :
    ∃ t, exec (.safe o) s = .next t ∧ s.Accepted t o 0x11 ∧ t.dev = { s.dev with atPour := s.dev.atPour ++ (if d = s.pins.side then [.safe] else []) } ∧
    t.ord.sideState = (s.noteNamed (s.namedSide o 0x11) 3).ord.sideState ∧ Frame [.ord, .dev] s t := by
  subst side
  have run := stands.ran (by rw [exec_safe, execSafe, State.safeOrder]) (by
    by_cases mine : (s.namedSide o 0x11).getD s.pins.side = s.pins.side <;> simp_all [firstFail])
  cases named : s.namedSide o 0x11 with
  | none =>
    simp only [named, Option.getD_none, if_true, State.noteNamed] at run ⊢
    exact ⟨_, run, accepted_respond rfl rfl rfl, rfl, rfl, by
      intro p; cases p <;> simp [Part.same, State.respond, State.accepting, State.atPour, State.noteState, State.noteBoth]⟩
  | some e =>
    simp only [named, Option.getD_some, State.noteNamed] at run ⊢
    by_cases mine : e = s.pins.side
    · rw [if_pos mine] at run ⊢
      exact ⟨_, run, accepted_respond rfl rfl rfl, rfl, rfl, by
        intro p; cases p <;> simp [Part.same, State.respond, State.accepting, State.atPour, State.noteState]⟩
    · rw [if_neg mine] at run ⊢
      exact ⟨_, run, accepted_respond rfl rfl rfl, by rw [List.append_nil]; rfl, rfl, by
        intro p; cases p <;> simp [Part.same, State.respond, State.accepting, State.noteState]⟩

theorem reset_stands {d : Side} (stands : s.Stands o 0x12 false) (side : d = (s.namedSide o 0x12).getD s.pins.side)
    (accepts : stateAccepts (s.sideStateOf d) 0x12 = true) (ok : d = s.pins.side → s.stateOk 0x12 = true) (cool : s.tooHot d = false)
    (target : s.targetOk o 0x12 = true) : ∃ t, exec (.reset o) s = .next t ∧ s.Accepted t o 0x12 ∧
    t.dev = { s.dev with atPour := s.dev.atPour ++ (if d = s.pins.side then [.reset] else []) } ∧ Frame [.ord, .dev] s t := by
  subst side
  have run := stands.ran (by rw [exec_reset, execReset, State.resetOrder]) (by
    by_cases mine : (s.namedSide o 0x12).getD s.pins.side = s.pins.side <;> simp_all [firstFail])
  by_cases mine : (s.namedSide o 0x12).getD s.pins.side = s.pins.side
  · rw [if_pos mine] at run ⊢
    exact ⟨_, run, accepted_respond rfl rfl rfl, rfl, by intro p; cases p <;> simp [Part.same, State.respond, State.accepting, State.atPour]⟩
  · rw [if_neg mine] at run ⊢
    exact ⟨_, run, accepted_respond rfl rfl rfl, by rw [List.append_nil]; rfl, by intro p; cases p <;> simp [Part.same, State.respond, State.accepting]⟩

/-- R324: a brake test that TEST_STOP, an unavailable thruster or a change of state ends has not passed. -/
theorem State.endBrakeTest_alarmed {x : BrakeTest} (test : s.saf.test = some x) : (s.endBrakeTest 4).Alarmed 0x0A0A := by
  unfold State.endBrakeTest
  simp only [test]
  rw [if_neg (by decide)]
  exact (alarm_raise ..).trans (if_pos rfl)

theorem State.endBrakeTest_frame (s : State) : Frame [.alarms, .rcd, .saf, .regs] s (s.endBrakeTest 4) := by
  obtain ⟨mram, saf⟩ := endBrakeTest_aborted s
  have reach : Frame [.alarms, .rcd, .mram, .saf, .brakes, .regs] s (s.endBrakeTest 4) := (State.endBrakeTest_acts s 4).toFrame (by intro p; cases p <;> decide)
  intro p hp
  by_cases isMram : p = .mram
  · subst isMram; exact mram
  by_cases isBrakes : p = .brakes
  · subst isBrakes; exact congrArg (·.brakes) saf
  · exact reach p (by simp_all)

theorem thrusterAvail_stands (stands : s.Stands o 0x0A false) (ok : s.stateOk 0x0A = true) (present : s.thrExists (nthW o.args 0).toNat = true)
    (value : (nthW o.args 1).toNat ≤ 1) (ready : (nthW o.args 1).toNat = 1 → (s.thr (nthW o.args 0).toNat).ready = true) (target : s.targetOk o 0x0A = true) :
    ∃ t, exec (.thrusterAvail o) s = .next t ∧ s.Accepted t o 0x0A ∧
    t.ord.availNext = s.ord.availNext ++ [((nthW o.args 0).toNat, (nthW o.args 1).toNat == 1)] ∧
    ((∀ b, s.saf.test = some b → s.brkThr b.chan ≠ (nthW o.args 0).toNat) → Frame [.ord] s t) ∧
    (∀ b, s.saf.test = some b → s.brkThr b.chan = (nthW o.args 0).toNat → t.saf.test = none ∧ t.Alarmed 0x0A0A) ∧
    Frame [.ord, .alarms, .rcd, .saf, .regs] s t := by
  have run := stands.ran (by rw [exec_thrusterAvail, execThrusterAvail, State.thrusterAvailOrder]) (by
    by_cases one : (nthW o.args 1).toNat = 1 <;> simp [firstFail, *])
  have plain : Frame [.ord] s (s.accepting o) := by intro p; cases p <;> simp [Part.same, State.accepting]
  have answered (u : State) (l : List (Nat × Bool)) : Frame [.ord] u (({ u with ord := { u.ord with availNext := l } }).respond o 0x0A 0) := by
    intro p; cases p <;> simp [Part.same, State.respond]
  by_cases hit : ∃ b, s.saf.test = some b ∧ s.brkThr b.chan = (nthW o.args 0).toNat
  · obtain ⟨b, test, same⟩ := hit
    simp only [show (s.accepting o).saf.test = some b from test] at run
    rw [if_pos (show (s.accepting o).brkThr b.chan = _ from same)] at run
    have reach := State.endBrakeTest_frame (s.accepting o)
    have ord : ((s.accepting o).endBrakeTest 4).ord = (s.accepting o).ord := reach .ord (by decide)
    refine ⟨_, run, accepted_respond ?_ ?_ ?_, ?_, fun apart => absurd same (apart b test), fun _ _ _ => ⟨?_, ?_⟩, ?_⟩
    · rw [ord]; rfl
    · rw [ord]
    · rw [ord]
    · simp only [State.respond, ord]; rfl
    · exact congrArg (·.test) (endBrakeTest_aborted (s.accepting o)).2
    · exact State.endBrakeTest_alarmed (s := s.accepting o) test
    · exact ((plain.mono (by decide)).trans (reach.mono (by decide))).trans (Frame.mono (answered _ _) (by decide))
  · have run' : exec (.thrusterAvail o) s = .next ((({ s.accepting o with ord := { (s.accepting o).ord with
        availNext := s.ord.availNext ++ [((nthW o.args 0).toNat, (nthW o.args 1).toNat == 1)] } }).respond o 0x0A 0)) := by
      cases test : s.saf.test with
      | none =>
        simp only [show (s.accepting o).saf.test = none from test] at run
        exact run
      | some b =>
        simp only [show (s.accepting o).saf.test = some b from test] at run
        rw [if_neg (show ¬ (s.accepting o).brkThr b.chan = _ from fun same => hit ⟨b, test, same⟩)] at run
        exact run
    have framed : Frame [.ord] s _ := plain.trans (answered (s.accepting o) (s.ord.availNext ++ [((nthW o.args 0).toNat, (nthW o.args 1).toNat == 1)]))
    exact ⟨_, run', accepted_respond rfl rfl rfl, rfl, fun _ => framed, fun b test same => absurd ⟨b, test, same⟩ hit, framed.mono (by decide)⟩

end

/-- Settles O22. -/
theorem acceptedOrdersActAsTheirRowsSay : Obligations.AcceptedOrdersActAsTheirRowsSay := by
  unfold Obligations.AcceptedOrdersActAsTheirRowsSay
  exact ⟨fun _ _ _ => engage_stands, fun _ _ => disengage_stands, fun _ _ => transfer_stands,
    fun _ _ stands ok ready low high target free => setMode_stands stands ok ready low high free target, fun _ _ => setPoint_stands,
    fun _ _ _ _ _ _ _ => setTrack_stands, fun _ _ _ _ _ _ => setFollowRef_stands, fun _ _ _ _ _ => joystick_stands,
    fun _ _ => takeCommand_stands, fun _ _ => thrusterAvail_stands, fun _ _ => sensorReturn_stands,
    fun _ _ stands ok fits target once => tunable_stands stands ok fits once target, fun _ _ => park_stands, fun _ _ => unpark_stands,
    fun _ _ _ => safe_stands, fun _ _ _ => reset_stands⟩

end Sys2Proof.Machine

/-! Test orders, acknowledgements, and order frames that arrive (R81, R82, R94, R191, R322, R534). -/
namespace Sys2Proof.Machine
set_option Elab.async false

/-- R534: an active alarm once it has been acknowledged: it stays only while its cause does. -/
def Alarm.afterAck (a : Alarm) : Option Alarm := if a.cause then some { a with acked := true } else none

theorem Alarm.afterAck_afterAck (a : Alarm) : a.afterAck.bind Alarm.afterAck = a.afterAck := by
  unfold Alarm.afterAck
  split <;> simp [*]

theorem State.alarm?_code {s : State} {c : Nat} {a : Alarm} (h : s.alarm? c = some a) : a.code = c := by
  simpa using List.find?_some h

theorem alarm_dropAlarm (s : State) (a c : Nat) : (s.dropAlarm a).alarm? c = if a = c then none else s.alarm? c := by
  have filtered (t : State) (ht : t.alarms = s.alarms.filter (fun x => x.code != a)) : t.alarm? c = if a = c then none else s.alarm? c := by
    unfold State.alarm?
    rw [ht, List.find?_filter]
    split
    · subst a
      simp
    · congr 1
      funext x
      by_cases k : x.code = c <;> simp [k, Ne.symm ‹_›]
  unfold State.dropAlarm
  dsimp only
  split
  · exact (alarm_record ..).trans (filtered _ rfl)
  · exact filtered _ rfl

theorem alarm_ackAlarm (s : State) (a c : Nat) : (s.ackAlarm a).alarm? c = if a = c then (s.alarm? c).bind Alarm.afterAck else s.alarm? c := by
  unfold State.ackAlarm
  cases active : s.alarm? a with
  | none =>
    dsimp only
    split
    · subst a; rw [active]; rfl
    · rfl
  | some x =>
    have code := State.alarm?_code active
    have put : ((({ s with alarms := putAlarm { x with acked := true } s.alarms } : State)).record a 2 []).alarm? c =
        if a = c then some { x with acked := true } else s.alarm? c := by
      rw [alarm_record]
      exact (find_putAlarm ..).trans (by rw [code]; rfl)
    dsimp only
    by_cases same : a = c
    · subst same
      rw [if_pos rfl] at put ⊢
      rw [active]
      by_cases held : x.cause = true
      · rw [if_pos held, put]
        simp [Alarm.afterAck, held]
      · rw [if_neg held, alarm_dropAlarm, if_pos rfl]
        simp [Alarm.afterAck, held]
    · rw [if_neg same] at put ⊢
      split
      · exact put
      · rw [alarm_dropAlarm, if_neg same, put]

theorem alarm_foldl_ackAlarm (l : List Nat) (s : State) (c : Nat) :
    (l.foldl State.ackAlarm s).alarm? c = if c ∈ l then (s.alarm? c).bind Alarm.afterAck else s.alarm? c := by
  induction l generalizing s with
  | nil => simp
  | cons a l ih =>
    rw [List.foldl_cons, ih, alarm_ackAlarm]
    by_cases same : a = c <;> by_cases more : c ∈ l <;> simp [same, more, Ne.symm, Option.bind_assoc, Alarm.afterAck_afterAck]

theorem Marks.ackAlarm {l : List Fld} {s t : State} {a : Nat} (h : Marks l s t) (hr : ∀ f ∈ recFields, f ∈ l) : Marks l s (t.ackAlarm a) := by
  unfold State.ackAlarm
  split
  · rename_i x active
    have put : Marks l s (({ t with alarms := putAlarm { x with acked := true } t.alarms } : State).record a 2 []) :=
      (h.upd (u := { t with alarms := putAlarm { x with acked := true } t.alarms }) rfl
        (fun c => ⟨c.canonical, putAlarm_rise _ c.alarms, c.queue, c.used, c.buffer⟩)).record hr
    split
    · exact put
    · exact put.dropAlarm hr
  · exact h

theorem State.fld_of_regs {s t : State} (h : t.regs = s.regs) (f : Fld) : t.fld f = s.fld f := by
  unfold State.fld State.reg
  rw [h]

theorem State.flag_of_regs {s t : State} (h : t.regs = s.regs) (f : Fld) : t.flag f = s.flag f := by
  unfold State.flag
  rw [State.fld_of_regs h]

theorem Acts.reaches {ps : List Part} {m : Nat} {s t : State} (h : Acts m s t) (within : m ||| partMask ps = partMask ps := by decide) : Frame ps s t :=
  fun p hp => h.frame p (mask_sub within (testBit_partMask hp))

section
variable {s : State} {o : OrderIn}

theorem testStartBrake_stands (stands : s.Stands o 0x0D false) (ok : s.stateOk 0x0D = true) (held : s.someHolder = true)
    (testable : s.brakeTestable (nthW o.args 1).toNat = true) (kind : nthW o.args 0 = 1#32) (chan : (nthW o.args 1).toNat ≤ 7)
    (low : 1 ≤ (nthW o.args 2).toNat) (high : (nthW o.args 2).toNat ≤ 10) (rest : ∀ w ∈ o.args.drop 3, w = 0#32) (target : s.targetOk o 0x0D = true)
    (idle : s.testRuns = false) : ∃ t, exec (.testStartBrake o) s = .next t ∧ s.Accepted t o 0x0D ∧
    t.saf = { s.saf with test := some ⟨(nthW o.args 1).toNat, (nthW o.args 2).toNat, 0, s.tim.el, 0⟩ } ∧ Frame [.ord, .saf] s t := by
  have run := stands.ran (by rw [exec_testStartBrake, execTestStartBrake, State.testStartBrakeOrder]) (by
    have zeros : (o.args.drop 3).all (· == 0#32) = true := List.all_eq_true.mpr fun w hw => beq_iff_eq.mpr (rest w hw)
    simp only [firstFail, ok, held, testable, kind, zeros, target, idle]
    simp [*])
  exact ⟨_, run, accepted_respond rfl rfl rfl, rfl, by intro p; cases p <;> simp [Part.same, State.respond, State.accepting]⟩

theorem testStartInjection_stands (sound : s.Sound) (stands : s.Stands o 0x0D false) (ok : s.stateOk 0x0D = true) (held : s.someHolder = true)
    (ready : s.injectionReady (nthW o.args 1).toNat = true) (args : injectionArgs o.args = true) (fits : s.injectionFits o.args = true)
    (target : s.targetOk o 0x0D = true) (idle : s.testRuns = false) :
    ∃ t, exec (.testStartInjection o) s = .next t ∧ s.Accepted t o 0x0D ∧
    (∃ i : Injection, t.ctl = { s.ctl with inj := some i, capture := [], samples := 0 } ∧ i.started = false ∧ i.target = (nthW o.args 1).toNat ∧
      i.signal = (nthW o.args 2).toNat ∧ i.amp = (nthW o.args 3).toNat ∧ i.duration = (nthW o.args 6).toNat) ∧
    Frame [.ord, .ctl, .regs] s t ∧ FieldsBut [word32 A_CTL_TEST] s t := by
  have run := stands.ran (by rw [exec_testStartInjection, execTestStartInjection, State.testStartInjectionOrder]) (by
    simp only [firstFail, ok, held, ready, args, fits, target, idle]; rfl)
  refine ⟨_, run, accepted_respond rfl rfl rfl, ⟨_, rfl, rfl, rfl, rfl, rfl, rfl⟩, ?_, ?_⟩
  · intro p; cases p <;> simp [Part.same, State.respond, State.accepting, State.setReg]
  · exact (((Marks.refl s).setReg (w := 0#32) (List.mem_singleton.mpr rfl)) sound).2

theorem testStop_stands (stands : s.Stands o 0x0E false) (ok : s.stateOk 0x0E = true) (target : s.targetOk o 0x0E = true) :
    ∃ t, exec (.testStop o) s = .next t ∧ s.Accepted t o 0x0E ∧ t.saf.test = none ∧ t.ctl.inj = none ∧ t.mram.brakeAge = s.mram.brakeAge ∧
    (∀ b, s.saf.test = some b → t.Alarmed 0x0A0A) ∧ (s.ctl.inj.isSome = true → t.ctl.stopCause = some 1) ∧
    (s.saf.test = none → s.ctl.inj = none → s.ctl.stopCause = none → Frame [.ord] s t) ∧ Frame [.ord, .alarms, .rcd, .saf, .ctl, .regs, .brakes] s t := by
  have run := stands.ran (by rw [exec_testStop, execTestStop, State.testStopOrder]) (by simp [firstFail, *])
  have aborted := endBrakeTest_aborted (s.accepting o)
  have reach := State.endBrakeTest_frame (s.accepting o)
  have plain : Frame [.ord] s (s.accepting o) := by intro p; cases p <;> simp [Part.same, State.accepting]
  generalize hu : (s.accepting o).endBrakeTest 4 = u at run aborted reach
  have stopped : Frame [.ctl] u (u.stopInjection 1) := (State.stopInjection_acts u 1).reaches
  have answered : Frame [.ord] (u.stopInjection 1) ((u.stopInjection 1).respond o 0x0E 0) := State.respond_frame _ _ _ _
  have ord : (u.stopInjection 1).ord = (s.accepting o).ord := (stopped .ord (by decide)).trans (reach .ord (by decide))
  have ctl : u.ctl = s.ctl := reach .ctl (by decide)
  have saf : (u.stopInjection 1).saf = u.saf := stopped .saf (by decide)
  have mram : (u.stopInjection 1).mram = u.mram := stopped .mram (by decide)
  refine ⟨_, run, accepted_respond (by rw [ord]; rfl) (by rw [ord]) (by rw [ord]), ?_, ?_, ?_, fun b test => ?_, fun inj => ?_, fun noTest noInj noCause => ?_, ?_⟩
  · exact (congrArg (·.test) saf).trans (congrArg (·.test) aborted.2)
  · show (u.stopInjection 1).ctl.inj = none
    unfold State.stopInjection
    split
    · rfl
    · rename_i h
      split <;> simpa using h
  · exact (congrArg (·.brakeAge) mram).trans (congrArg (·.brakeAge) aborted.1)
  · have raised : u.Alarmed 0x0A0A := hu ▸ State.endBrakeTest_alarmed (s := s.accepting o) test
    exact (alarm_of_acts (State.stopInjection_acts u 1) rfl).trans raised
  · show (u.stopInjection 1).ctl.stopCause = some 1
    unfold State.stopInjection
    rw [if_pos (by rw [ctl]; exact inj)]
  · have same : u = s.accepting o := by
      rw [← hu]
      unfold State.endBrakeTest
      simp only [show (s.accepting o).saf.test = none from noTest]
    have still : u.stopInjection 1 = u := by
      unfold State.stopInjection
      simp only [ctl, noInj, noCause]
      rfl
    rw [still, same]
    exact plain.trans (State.respond_frame _ _ _ _)
  · exact (((plain.mono (by decide)).trans (reach.mono (by decide))).trans (stopped.mono (by decide))).trans (answered.mono (by decide))

theorem alarmAck_stands (sound : s.Sound) (stands : s.Stands o 0x13 false) (ok : s.stateOk 0x13 = true) (target : s.targetOk o 0x13 = true)
    (one : (nthW o.args 0).toNat < 0xFFFF) : ∃ t, exec (.alarmAck o) s = .next t ∧ s.Accepted t o 0x13 ∧ AlarmsBut [(nthW o.args 0).toNat] s t ∧
    (∀ a, s.alarm? (nthW o.args 0).toNat = some a → t.alarm? (nthW o.args 0).toNat = if a.cause then some { a with acked := true } else none) ∧
    (s.alarm? (nthW o.args 0).toNat = none → t.alarm? (nthW o.args 0).toNat = none) ∧ Frame [.ord, .alarms, .rcd, .regs] s t ∧ FieldsBut recFields s t := by
  have run := stands.ran (by rw [exec_alarmAck, execAlarmAck, State.alarmAckOrder]) (by simp [firstFail, *]; omega)
  rw [if_neg (by omega)] at run
  generalize (nthW o.args 0).toNat = code at run one
  have marked (u : State) (regs : u.regs = s.regs) (k : s.Sound → u.Sound) : FieldsBut recFields s ((u.ackAlarm code).respond o 0x13 0) :=
    (((Marks.refl s).upd (u := u) regs k).ackAlarm (fun _ h => h) |>.acts (State.respond_acts (u.ackAlarm code) o 0x13 0) (by decide) <| sound).2
  have acted (u : State) (c : Nat) (same : u.alarms = s.alarms) : ((u.ackAlarm code).respond o 0x13 0).alarm? c =
      if code = c then (s.alarm? c).bind Alarm.afterAck else s.alarm? c := by
    rw [show s.alarm? c = u.alarm? c by unfold State.alarm?; rw [same]]
    exact alarm_ackAlarm u code c
  have framed (u : State) : Frame [.alarms, .rcd, .regs] u (u.ackAlarm code) := (State.ackAlarm_acts u code).reaches
  generalize hu : ({ s.accepting o with ord := { (s.accepting o).ord with pairAcked := insertNew (s.accepting o).ord.pairAcked code } } : State) = u at run
  have plain : Frame [.ord] s u := by subst hu; intro p; cases p <;> simp [Part.same, State.accepting]
  have ord : (u.ackAlarm code).ord = u.ord := framed u .ord (by decide)
  have alarms : u.alarms = s.alarms := plain .alarms (by decide)
  refine ⟨_, run, accepted_respond ?_ ?_ ?_, fun c hc => ?_, fun a active => ?_, fun none => ?_, ?_, ?_⟩
  · rw [ord, ← hu]; rfl
  · rw [ord, ← hu]
  · rw [ord, ← hu]
  · rw [acted u c alarms, if_neg (by simpa [eq_comm] using hc)]
  · rw [acted u code alarms, if_pos rfl, active]; rfl
  · rw [acted u code alarms, if_pos rfl, none]; rfl
  · exact ((plain.mono (by decide)).trans ((framed u).mono (by decide))).trans ((State.respond_frame (u.ackAlarm code) o 0x13 0).mono (by decide))
  · exact marked u (plain .regs (by decide)) fun h => by subst hu; exact ⟨h.canonical, h.alarms, h.queue, h.used, h.buffer⟩

theorem alarmAck_all_stands (stands : s.Stands o 0x13 false) (ok : s.stateOk 0x13 = true) (target : s.targetOk o 0x13 = true)
    (all : (nthW o.args 0).toNat = 0xFFFF) : ∃ t, exec (.alarmAck o) s = .next t ∧ s.Accepted t o 0x13 ∧
    (∀ c a, t.alarm? c = some a → a.acked = true ∧ a.cause = true ∧ (s.alarm? c).isSome = true) ∧
    (∀ c a, s.alarm? c = some a → a.cause = true → t.alarm? c = some { a with acked := true }) ∧ Frame [.ord, .alarms, .rcd, .regs] s t := by
  have run := stands.ran (by rw [exec_alarmAck, execAlarmAck, State.alarmAckOrder]) (by simp [firstFail, *])
  rw [if_pos all] at run
  generalize hu : ({ s.accepting o with ord := { (s.accepting o).ord with pairAcked := [0xFFFF] } } : State) = u at run
  have plain : Frame [.ord] s u := by subst hu; intro p; cases p <;> simp [Part.same, State.accepting]
  have framed (l : List Nat) : Frame [.alarms, .rcd, .regs] u (l.foldl State.ackAlarm u) :=
    List.foldlRecOn (motive := fun t => Frame [.alarms, .rcd, .regs] u t) _ _ (Frame.refl _ u) fun t h c _ => h.trans (State.ackAlarm_acts t c).reaches
  have acted (c : Nat) : (((s.accepting o).alarms.map (·.code)).foldl State.ackAlarm u).alarm? c = (s.alarm? c).bind Alarm.afterAck := by
    rw [alarm_foldl_ackAlarm, show u.alarm? c = s.alarm? c by subst hu; rfl]
    cases active : s.alarm? c with
    | none => simp
    | some a =>
      have listed : c ∈ (s.accepting o).alarms.map (·.code) :=
        List.mem_map.mpr ⟨a, List.mem_of_find?_eq_some active, State.alarm?_code active⟩
      rw [if_pos listed]
  have reach := framed ((s.accepting o).alarms.map (·.code))
  generalize (((s.accepting o).alarms.map (·.code)).foldl State.ackAlarm u) = v at run acted reach
  have ord : v.ord = u.ord := reach .ord (by decide)
  refine ⟨_, run, accepted_respond ?_ ?_ ?_, fun c a active => ?_, fun c a active held => ?_, ?_⟩
  · rw [ord, ← hu]; rfl
  · rw [ord, ← hu]
  · rw [ord, ← hu]
  · obtain ⟨b, before, after⟩ := Option.bind_eq_some_iff.mp ((acted c).symm.trans active)
    unfold Alarm.afterAck at after
    split at after <;> cases after
    exact ⟨rfl, ‹_›, by simp [before]⟩
  · refine (acted c).trans ?_
    rw [active]
    exact if_pos held
  · exact ((plain.mono (by decide)).trans (reach.mono (by decide))).trans ((State.respond_frame v o 0x13 0).mono (by decide))

end

/-- R279: an item of this side joins its own items; the partner may be sent it. -/
theorem State.ownItem_own (s : State) (cls num first last : Nat) (data : List Word) : (s.ownItem cls num first last data).agr.own =
    s.agr.own ++ [⟨s.pins.side, cls, num, s.epochOf last, last, first, aget 0 s.agr.arrivals (4096 * cls + num), data⟩] := by
  unfold State.ownItem
  extract_lets key n i src t
  split
  · exact List.foldlRecOn (motive := fun u : State => u.agr.own = t.agr.own) _ _ rfl fun u h f _ => by
      have kept (w : List Int) : (u.twinSend 1 .item w).agr = u.agr := ((State.twinSend_acts u 1 .item w).reaches : Frame [.twn, .out] _ _) .agr (by decide)
      rw [kept, h]
  · rfl

theorem State.orderArrives_known (s : State) (o : OrderIn) {f : List Word} (known : knownCode (orderCode f) = true) :
    ∃ n, s.orderArrives o f = s.ownItem 4 n o.stamp o.stamp f := by
  unfold State.orderArrives
  extract_lets t
  exact ⟨_, if_pos known⟩

theorem orderArrival_item {tr : Transport} {a : Word} {p : Nat} {f : List Word} {n : Nat} {s : State} (left : s.dev.st ≠ .boot)
    (cycling : s.dev.cycling = true) (known : knownCode (orderCode f) = true) (smooth : s.tim.stepJump = none) :
    ∃ t, exec (.orderArrival tr a p f n) s = .next t ∧
    (∃ i : Item, t.agr.own = s.agr.own ++ [i] ∧ i.side = s.pins.side ∧ i.cls = 4 ∧ i.last = n ∧ i.first = n ∧ i.data = f ∧
      i.epoch = (if n ≤ s.dev.freezeAt then s.dev.stateEp else s.dev.stateEp + 1)) ∧ Frame [.agr, .twn, .out] s t := by
  have run : exec (.orderArrival tr a p f n) s = .next (s.orderArrives (parseOrder tr a p f n) f) := by
    rw [exec_orderArrival, execOrderArrival, if_neg (by simp [left, cycling])]
  obtain ⟨num, item⟩ := s.orderArrives_known (parseOrder tr a p f n) known
  rw [item] at run
  exact ⟨_, run, ⟨_, State.ownItem_own .., rfl, rfl, rfl, rfl, rfl, by
    by_cases early : n ≤ s.dev.freezeAt <;> simp [State.epochOf, smooth, parseOrder, early]⟩, (State.ownItem_acts ..).reaches⟩

theorem orderMailboxSubmit_item {m k : Nat} {s : State} (sound : s.Sound) (may : s.MayAccess m (A_CTL_OMB_CTRL k) true)
    (free : s.flag (F_CTL_OMB_CTRL_PEND k) = false) (left : s.dev.st ≠ .boot) (cycling : s.dev.cycling = true)
    (known : knownCode (orderCode (s.regRun (A_CTL_OMB_BUF k 0) 16)) = true) : ∃ t, exec (.orderMailboxSubmit m k) s = .next t ∧
    (∃ i : Item, t.agr.own = s.agr.own ++ [i] ∧ i.side = s.pins.side ∧ i.cls = 4 ∧ i.last = s.tim.wt ∧ i.data = s.regRun (A_CTL_OMB_BUF k 0) 16) ∧
    t.flag (F_CTL_OMB_CTRL_PEND k) = true ∧ t.out.getLast? = some ⟨.access m, .write, [A_CTL_OMB_CTRL k, 0, 1]⟩ ∧
    Frame [.agr, .twn, .regs, .out] s t ∧ FieldsBut [F_CTL_OMB_CTRL_PEND k] s t := by
  have run : exec (.orderMailboxSubmit m k) s = .next ((s.submitBox k).complete m true (A_CTL_OMB_CTRL k) accOk 1#32) := by
    rw [exec_orderMailboxSubmit, execOrderMailboxSubmit, State.commandWrite_of_mayAccess may]
  have submit : s.submitBox k = (s.setFlag (F_CTL_OMB_CTRL_PEND k) true).orderArrives
      (parseOrder (boxTransport k) 0#32 0 (s.regRun (A_CTL_OMB_BUF k 0) 16) s.tim.wt) (s.regRun (A_CTL_OMB_BUF k 0) 16) := by
    unfold State.submitBox
    rw [if_neg (by simp [free])]
    exact if_neg (by simp [left, cycling])
  obtain ⟨num, item⟩ := State.orderArrives_known (s.setFlag (F_CTL_OMB_CTRL_PEND k) true)
    (parseOrder (boxTransport k) 0#32 0 (s.regRun (A_CTL_OMB_BUF k 0) 16) s.tim.wt) known
  rw [submit, item] at run
  have changed : Changes [.agr, .twn, .regs, .out] [F_CTL_OMB_CTRL_PEND k] [] s (s.setFlag (F_CTL_OMB_CTRL_PEND k) true) := (Changes.refl sound).setFlag _ true
  have pend := flag_setFlag sound (F_CTL_OMB_CTRL_PEND k) true rfl
  have framed : Frame [.regs] s (s.setFlag (F_CTL_OMB_CTRL_PEND k) true) := (State.setFlag_acts ..).reaches
  have pins : (s.setFlag (F_CTL_OMB_CTRL_PEND k) true).pins = s.pins := framed .pins (by decide)
  have agr : (s.setFlag (F_CTL_OMB_CTRL_PEND k) true).agr = s.agr := framed .agr (by decide)
  generalize s.setFlag (F_CTL_OMB_CTRL_PEND k) true = u at run pend changed pins agr
  have own := u.ownItem_own 4 num s.tim.wt s.tim.wt (s.regRun (A_CTL_OMB_BUF k 0) 16)
  have acts := State.ownItem_acts u 4 num s.tim.wt s.tim.wt (s.regRun (A_CTL_OMB_BUF k 0) 16)
  have regs : (u.ownItem 4 num s.tim.wt s.tim.wt (s.regRun (A_CTL_OMB_BUF k 0) 16)).regs = u.regs := acts.frame .regs rfl
  have ended := (changed.acts acts).acts (State.complete_acts _ m true (A_CTL_OMB_CTRL k) accOk 1#32)
  rw [pins, agr] at own
  refine ⟨_, run, ⟨_, own, rfl, rfl, rfl, rfl⟩, ?_, ?_, ended.frame, ended.fields⟩
  · exact (State.flag_of_regs regs _).trans pend
  · simp [State.complete, State.send, accOk]

theorem orderMailboxSubmit_full {m k : Nat} {s : State} (may : s.MayAccess m (A_CTL_OMB_CTRL k) true) (full : s.flag (F_CTL_OMB_CTRL_PEND k) = true) :
    ∃ t, exec (.orderMailboxSubmit m k) s = .next t ∧ s.Sends t [⟨.access m, .write, [A_CTL_OMB_CTRL k, 0, 1]⟩] ∧ Frame [.out] s t := by
  have run : exec (.orderMailboxSubmit m k) s = .next (s.complete m true (A_CTL_OMB_CTRL k) accOk 1#32) := by
    rw [exec_orderMailboxSubmit, execOrderMailboxSubmit, State.commandWrite_of_mayAccess may, State.submitBox, if_pos full]
  exact ⟨_, run, rfl, (State.complete_acts ..).reaches⟩
/-- Settles O23. -/
theorem testsAcknowledgementsAndOrderFramesAreTaken : Obligations.TestsAcknowledgementsAndOrderFramesAreTaken := by
  unfold Obligations.TestsAcknowledgementsAndOrderFramesAreTaken
  exact ⟨fun _ _ => testStartBrake_stands, fun _ _ => testStartInjection_stands, fun _ _ => testStop_stands, fun _ _ => alarmAck_stands,
    fun _ _ _ => alarmAck_all_stands, fun _ _ _ _ _ _ => orderArrival_item, fun _ _ _ => orderMailboxSubmit_item, fun _ _ _ => orderMailboxSubmit_full⟩

end Sys2Proof.Machine

/-! The problems of the solver array are listed by tag, and nothing keeps a tag from standing in the list twice. -/
namespace Sys2Proof.Machine
set_option Elab.async false

/-- A state after reset in which tag 0 is listed twice as running: only the first entry is its problem. -/
def listedTwice : State := { State.reset with slv := { State.reset.slv with probs := [(0, { status := 2 }), (0, { status := 2 })] } }

theorem listedTwice_sound : listedTwice.Sound :=
  ⟨State.reset_sound.canonical, State.reset_sound.alarms, State.reset_sound.queue, State.reset_sound.used, State.reset_sound.buffer⟩

theorem listedTwice_others (j : Nat) (other : j ≠ 0) : (listedTwice.prob j).inFlight = false := by
  simp [listedTwice, State.prob, aget, other.symm, Prob.inFlight]

/-- The second entry still flies when the problem of the tag ends. -/
theorem listedTwice_notDone : ∃ t, exec (.problemEnds 0 0) listedTwice = .next t ∧ t.flag F_SLV_EVENT_BATCH_DONE = false := by
  refine ⟨_, rfl, ?_⟩
  decide +kernel

/-- Refutes O24: the last problem in flight ends without BATCH_DONE when its tag is listed a second time. -/
theorem not_theSolverArrayTakesRunsAndEndsProblems : ¬ Obligations.TheSolverArrayTakesRunsAndEndsProblems := by
  unfold Obligations.TheSolverArrayTakesRunsAndEndsProblems
  rintro ⟨-, -, -, -, -, -, -, ends, -⟩
  obtain ⟨t, ran, -, -, -, -, -, -, -, -, -, done, -⟩ := ends 0 0 _ listedTwice listedTwice_sound (by decide +kernel) rfl
  obtain ⟨u, ran', undone⟩ := listedTwice_notDone
  cases ran.symm.trans ran'
  rw [done listedTwice_others] at undone
  cases undone

end Sys2Proof.Machine

/-! Degraded operation of a brake ends after ten good tests (R320), but condition 3 is of both sides (R321). -/
namespace Sys2Proof.Machine
set_option Elab.async false

/-- Brake channel 0 is in degraded operation before the last step of its tenth good test; the other side has a stuck switch of its own. -/
def degradedOnBothSides : State :=
  let s := State.reset.setFlag (bitAt A_CTL_DEGR 3) true
  { s with
    saf := { s.saf with brakes := setNth s.saf.brakes 0 (fun b => { b with degr := 1, goodTests := 9, testStep := lastStep b.applied }) }
    twn := { s.twn with peerBrakes := List.replicate 8 0#32 ++ [1#32] } }

theorem degradedOnBothSides_sound : degradedOnBothSides.Sound := by
  have flagged : (State.reset.setFlag (bitAt A_CTL_DEGR 3) true).Sound := State.reset_sound.setFlag _ true
  exact ⟨flagged.canonical, flagged.alarms, flagged.queue, flagged.used, flagged.buffer⟩

theorem degradedOnBothSides_others (m : Nat) (other : m ≠ 0) : (degradedOnBothSides.brake m).degr = 0 := by
  have eight : m = 1 ∨ m = 2 ∨ m = 3 ∨ m = 4 ∨ m = 5 ∨ m = 6 ∨ m = 7 ∨ 8 ≤ m := by omega
  rcases eight with rfl | rfl | rfl | rfl | rfl | rfl | rfl | past
  case inr.inr.inr.inr.inr.inr.inr =>
    have none : degradedOnBothSides.brake m = {} := List.getD_eq_default _ _ past
    rw [none]
  all_goals decide +kernel

/-- Channel 0 reads healthy in its last step, and condition 3 stays present for the other side. -/
theorem degradedOnBothSides_stays : ∃ t, exec (.switchTestStep 0 0 100) degradedOnBothSides = .next t ∧ t.cond 3 = true := by
  refine ⟨_, rfl, ?_⟩
  decide +kernel

/-- Refutes O32: ten good tests in a row do not clear condition 3 while a channel of the other side is degraded. -/
theorem not_brakesAreTestedDegradedAndFaulted : ¬ Obligations.BrakesAreTestedDegradedAndFaulted := by
  unfold Obligations.BrakesAreTestedDegradedAndFaulted
  rintro ⟨-, -, -, -, ends, -⟩
  obtain ⟨t, ran, -, -, -, cleared, -⟩ := ends 0 0 100 degradedOnBothSides degradedOnBothSides_sound (by decide) (by decide +kernel) (by decide +kernel)
    (by decide +kernel) (by decide +kernel) (by decide +kernel) (.inl (by decide +kernel)) (by decide +kernel) degradedOnBothSides_others
  obtain ⟨u, ran', stays⟩ := degradedOnBothSides_stays
  cases ran.symm.trans ran'
  exact absurd (cleared.symm.trans stays) (by decide)

end Sys2Proof.Machine

/-! A safe input pair whose second contact returns later than DISC_MS after the first stays in DEMAND (R325 to R327). -/
namespace Sys2Proof.Machine
set_option Elab.async false

/-- Pair 0 is in DEMAND, its contact B is back, and contact A has been back for longer than DISC_MS. -/
def backTooLate : State :=
  let s := State.reset.setFlag (bitAt A_SAF_SIP_RAW 16) true
  { s with
    saf := { s.saf with params := [(0x1020, [1#32, 0#32, 0#32])], pairs := setNth s.saf.pairs 0 (fun p => { p with demand := true, firstBack := some 0 }) }
    tim := { s.tim with el := 1 } }

theorem backTooLate_sound : backTooLate.Sound := by
  have flagged : (State.reset.setFlag (bitAt A_SAF_SIP_RAW 16) true).Sound := State.reset_sound.setFlag _ true
  exact ⟨flagged.canonical, flagged.alarms, flagged.queue, flagged.used, flagged.buffer⟩

theorem backTooLate_demands : ∃ t, exec (.safeInputChange 0 false true 0) backTooLate = .next t ∧ (t.pair 0).demand = true := by
  refine ⟨_, rfl, ?_⟩
  decide +kernel

/-- Refutes O34: with both contacts back an unlatched DEMAND does not end when they returned more than DISC_MS apart. -/
theorem not_safeInputsAndSafeDataAct : ¬ Obligations.SafeInputsAndSafeDataAct := by
  unfold Obligations.SafeInputsAndSafeDataAct
  rintro ⟨-, back, -⟩
  obtain ⟨t, ran, ended, -⟩ := back 0 0 false true backTooLate backTooLate_sound (by decide) (by decide +kernel) (by decide +kernel) (by decide +kernel)
    (by decide +kernel) (by decide +kernel) (by decide +kernel)
  obtain ⟨u, ran', demands⟩ := backTooLate_demands
  cases ran.symm.trans ran'
  exact absurd (ended.symm.trans demands) (by decide)

end Sys2Proof.Machine

/-! A half-duplex serial port discards what it hears while it drives its line (R392). -/
namespace Sys2Proof.Machine
set_option Elab.async false

/-- Serial port 0 hears in half duplex and drives its line. -/
def drivesItsLine : State := { State.reset with pat := { State.reset.pat with loaded := true, params := [(0x0D01, [0x201#32, 4800#32])] } }

theorem drivesItsLine_sound : drivesItsLine.Sound :=
  ⟨State.reset_sound.canonical, State.reset_sound.alarms, State.reset_sound.queue, State.reset_sound.used, State.reset_sound.buffer⟩

/-- A sentence whose characters overran the receiver. -/
def overrun : Sentence := { chars := [], first := 0, last := 0, overflow := true, charErr := false }

theorem drivesItsLine_discards : exec (.serialSentence 0 overrun) drivesItsLine = .next drivesItsLine := by
  refine congrArg Host.Outcome.next (if_pos ?_)
  decide +kernel

/-- Refutes O39: an overrun at a half-duplex port that drives its line is neither shown nor counted. -/
theorem not_serialPortsAndTheRegisterServiceAnswer : ¬ Obligations.SerialPortsAndTheRegisterServiceAnswer := by
  unfold Obligations.SerialPortsAndTheRegisterServiceAnswer
  rintro ⟨-, -, overruns, -⟩
  obtain ⟨t, ran, shown, -⟩ := overruns 0 overrun drivesItsLine drivesItsLine_sound (by decide) (.inl (by decide +kernel)) rfl
  cases ran.symm.trans drivesItsLine_discards
  exact absurd shown (by decide +kernel)

end Sys2Proof.Machine

/-! A SUB carries the formation epoch of the instant at which it leaves (R445, R448). -/
namespace Sys2Proof.Machine
set_option Elab.async false

/-- A member of a formation, with port 0 up and one subscription routed through it. The formation period is 100 ms, and the last SUB left at power-on. -/
def subscribes : State :=
  { State.reset with
    pat := { State.reset.pat with
      sections := [0x0A]
      params := [(0x0A03, [1#32]), (0x0A04, [100#32]), (0x0A08, [0xFFFF0000#32, 0#32]), (0x0A0C, [2#32])] }
    elk := { State.reset.elk with subAt := some 0 } }.setFld (F_ELK_P_STAT_STATE 0) elkUp

/-- The wait of 1 s for the next SUB takes the member from formation epoch 0 to formation epoch 10, which the packet carries. -/
theorem subscribes_sends_later_epoch : ∃ t, exec .subSend subscribes = .next t ∧
    t.out = [⟨.elk 0, .packet, [2, 1, 16, 0, 65535, 0, 0, 0, 0, 2, 0, 2, 63, 0, 0, 10]⟩] := by
  refine ⟨_, rfl, ?_⟩
  decide +kernel

/-- The formation epoch of a packet without data is the last number of its frame. -/
theorem frameData_fEpoch (p : ElkPort) (e : ElkFrame) (empty : e.packet.data = []) : (frameData p e)[15]? = some (e.packet.fEpoch : Int) := by
  simp [frameData, empty, wordData]

/-- Refutes O51: the formation epoch of a SUB is that of its sending, and not the one before the wait for it. -/
theorem not_membersRoutePublishSubscribeAndCloseSets : ¬ Obligations.MembersRoutePublishSubscribeAndCloseSets := by
  unfold Obligations.MembersRoutePublishSubscribeAndCloseSets
  rintro ⟨-, -, -, -, -, -, -, -, -, sub, -⟩
  obtain ⟨t, ran, sent, -⟩ := sub 2 0 subscribes (by decide +kernel) (by decide +kernel) (by decide) (by decide +kernel) (by decide +kernel)
    (by decide +kernel) (by decide +kernel)
  obtain ⟨t', ran', later⟩ := subscribes_sends_later_epoch
  cases ran.symm.trans ran'
  have numbers := congrArg (List.map fun e : Sent => e.data[15]?) (later.symm.trans sent)
  have quiet : subscribes.out = [] := rfl
  have now : subscribes.formEpoch % 4294967296 = 0 := by decide +kernel
  rw [quiet, List.nil_append, List.map_cons, List.map_cons, frameData_fEpoch _ _ rfl] at numbers
  simp only [now] at numbers
  simp at numbers

end Sys2Proof.Machine

/-! The interrupt controller: lines, claims and completions (R419 to R425). -/
namespace Sys2Proof.Machine
set_option Elab.async false

/-! Sorting. -/

theorem insertSorted_eq_orderedInsert (k : Nat) (l : List Nat) : insertSorted k l = l.orderedInsert (· ≤ ·) k := by
  induction l with
  | nil => rfl
  | cons x r ih => simp only [insertSorted, List.orderedInsert_cons, ih]

theorem sortNat_spec (l : List Nat) : (sortNat l).Pairwise (· ≤ ·) ∧ ∀ x, x ∈ sortNat l ↔ x ∈ l := by
  induction l using List.reverseRecOn with
  | nil => exact ⟨.nil, fun _ => Iff.rfl⟩
  | append_singleton l k ih =>
    obtain ⟨sorted, same⟩ := ih
    have last : sortNat (l ++ [k]) = (sortNat l).orderedInsert (· ≤ ·) k := by
      rw [sortNat, List.foldl_concat, insertSorted_eq_orderedInsert, sortNat]
    rw [last]
    exact ⟨sorted.orderedInsert k _, fun x => by simp [List.mem_orderedInsert, same, or_comm]⟩

/-- The least number of a list is the first of the sorted list. -/
theorem sortNat_of_least {l : List Nat} {n : Nat} (hn : n ∈ l) (least : ∀ m ∈ l, n ≤ m) : ∃ r, sortNat l = n :: r := by
  obtain ⟨sorted, same⟩ := sortNat_spec l
  cases h : sortNat l with
  | nil => exact absurd ((same n).mpr hn) (by simp [h])
  | cons m r =>
    rw [h] at sorted same
    have low : n ≤ m := least m ((same m).mp (List.mem_cons_self ..))
    have high : m ≤ n := by
      obtain rfl | later := List.mem_cons.mp ((same n).mpr hn)
      · exact le_rfl
      · exact (List.pairwise_cons.mp sorted).1 n later
    exact ⟨r, by rw [Nat.le_antisymm high low]⟩

/-! Lines. -/

section
variable {s t : State} {k : Nat}

/-- R422: a line that may assert, and that moderation lets assert, is asserted. -/
theorem State.updateLine_line (hk : k < s.intc.targets.length) (allows : s.moderationAllows k = true) :
    ((s.updateLine k).target k).line = true ↔ (s.target k).stack = [] ∧ (s.target k).frozen = false ∧ ∃ x ∈ s.intc.assigned, x.2 = k := by
  obtain ⟨same, assigned⟩ := s.updateLine_sameSources k
  constructor
  · intro line
    have ok := s.updateLine_lineOk k line
    rwa [same.stack, same.frozen, assigned] at ok
  · rintro ⟨stack, frozen, x, member, target⟩
    have waiting : (s.assignedTo k).isEmpty = false := by
      rw [List.isEmpty_eq_false_iff_exists_mem]
      exact ⟨x.1, List.mem_map.mpr ⟨x, List.mem_filter.mpr ⟨member, by simpa using target⟩, rfl⟩⟩
    unfold State.updateLine
    simp only [stack, frozen, waiting, List.isEmpty_nil, Bool.not_false, Bool.and_self, if_true, allows]
    split
    case isTrue high => exact high
    case isFalse => rw [State.target_setTarget, if_pos ⟨rfl, hk⟩]

theorem State.updateLine_length (s : State) (k : Nat) : (s.updateLine k).intc.targets.length = s.intc.targets.length := by
  unfold State.updateLine
  simp only [apply_ite (fun u : State => u.intc.targets.length), State.setTarget, setNth, List.length_modify, ite_self]

theorem State.setTarget_moderationAllows {j : Nat} (h : k ≠ j) (f : Target → Target) : (s.setTarget j f).moderationAllows k = s.moderationAllows k := by
  simp only [State.moderationAllows, State.assignedTo, State.targetIsIdle, State.target_setTarget_other h]
  rfl

theorem State.updateLine_moderationAllows {j : Nat} (h : k ≠ j) : (s.updateLine j).moderationAllows k = s.moderationAllows k := by
  unfold State.updateLine
  simp only [apply_ite (fun u : State => u.moderationAllows k), State.setTarget_moderationAllows h, ite_self]

theorem State.updateLines_target (s : State) (hk : k < 4) : ∃ u : State, s.updateLines.target k = (u.updateLine k).target k ∧
    u.target k = s.target k ∧ u.moderationAllows k = s.moderationAllows k ∧ u.intc.assigned = s.intc.assigned ∧
    u.intc.targets.length = s.intc.targets.length := by
  have others (u : State) {j : Nat} (h : k ≠ j) : (u.updateLine j).target k = u.target k := u.updateLine_target_other h
  have same (u : State) {j : Nat} (h : k ≠ j) : (u.updateLine j).target k = u.target k ∧ (u.updateLine j).moderationAllows k = u.moderationAllows k ∧
      (u.updateLine j).intc.assigned = u.intc.assigned ∧ (u.updateLine j).intc.targets.length = u.intc.targets.length :=
    ⟨others u h, State.updateLine_moderationAllows h, (u.updateLine_sameSources j).2, u.updateLine_length j⟩
  show ∃ u : State, ((((s.updateLine 0).updateLine 1).updateLine 2).updateLine 3).target k = _ ∧ _
  match k, hk with
  | 0, _ => exact ⟨s, (others _ (by decide)).trans ((others _ (by decide)).trans (others _ (by decide))), rfl, rfl, rfl, rfl⟩
  | 1, _ => exact ⟨s.updateLine 0, (others _ (by decide)).trans (others _ (by decide)), same s (by decide)⟩
  | 2, _ =>
    have one := same s (show 2 ≠ 0 by decide)
    have two := same (s.updateLine 0) (show 2 ≠ 1 by decide)
    exact ⟨(s.updateLine 0).updateLine 1, others _ (by decide), two.1.trans one.1, two.2.1.trans one.2.1, two.2.2.1.trans one.2.2.1,
      two.2.2.2.trans one.2.2.2⟩
  | 3, _ =>
    have one := same s (show 3 ≠ 0 by decide)
    have two := same (s.updateLine 0) (show 3 ≠ 1 by decide)
    have three := same ((s.updateLine 0).updateLine 1) (show 3 ≠ 2 by decide)
    exact ⟨((s.updateLine 0).updateLine 1).updateLine 2, rfl, three.1.trans (two.1.trans one.1), three.2.1.trans (two.2.1.trans one.2.1),
      three.2.2.1.trans (two.2.2.1.trans one.2.2.1), three.2.2.2.trans (two.2.2.2.trans one.2.2.2)⟩

theorem State.updateLines_line (hk : k < 4) (length : s.intc.targets.length = 4) (allows : s.moderationAllows k = true) :
    (s.updateLines.target k).line = true ↔ (s.target k).stack = [] ∧ (s.target k).frozen = false ∧ ∃ x ∈ s.intc.assigned, x.2 = k := by
  obtain ⟨u, same, target, allows', assigned, length'⟩ := s.updateLines_target hk
  rw [same, State.updateLine_line (by omega) (allows'.trans allows), target, assigned]

/-- R427: an idle target's line is not moderated. -/
theorem State.moderationAllows_of_idle (idle : s.targetIsIdle k = true) : s.moderationAllows k = true := by simp [State.moderationAllows, idle]

/-! What settling leaves of any state. -/

/-- From `s` to `t` the edge latches, and the claim stack and freeze of each target, stay. -/
structure SameStacks (s t : State) : Prop where
  edge : t.intc.edge = s.intc.edge
  stack : ∀ j, (t.target j).stack = (s.target j).stack
  frozen : ∀ j, (t.target j).frozen = (s.target j).frozen
  inReset : ∀ j, (t.target j).inReset = (s.target j).inReset

namespace SameStacks

theorem refl (s : State) : SameStacks s s := ⟨rfl, fun _ => rfl, fun _ => rfl, fun _ => rfl⟩

theorem trans {u : State} (h : SameStacks s t) (k : SameStacks t u) : SameStacks s u :=
  ⟨k.edge.trans h.edge, fun j => (k.stack j).trans (h.stack j), fun j => (k.frozen j).trans (h.frozen j), fun j => (k.inReset j).trans (h.inReset j)⟩

theorem of_sources (h : SameSources s t) : SameStacks s t := ⟨h.edge, h.stack, h.frozen, h.inReset⟩

end SameStacks

theorem State.assignSource_sameStacks (s : State) (n : Nat) : SameStacks s (s.assignSource n) := by
  obtain ⟨idle, -⟩ | ⟨k, -, -, assigned⟩ := s.assignSource_cases n
  · rw [idle]
    exact .refl s
  · rw [assigned]
    exact ⟨rfl, fun _ => rfl, fun _ => rfl, fun _ => rfl⟩

/-- R420, R421: the target that the rule of assignment finds is able. -/
theorem State.able_of_find {l : List Nat} {w : Nat} (found : l.find? (fun u => tbit w u && s.able u) = some k) : s.able k = true := by
  have both := List.find?_some found
  exact (Bool.and_eq_true_iff.mp both).2

/-- R421: sources are never assigned to a target that is in reset or frozen. -/
theorem State.assignSource_able {n : Nat} {e : Nat × Nat} (he : e ∈ (s.assignSource n).intc.assigned) : e ∈ s.intc.assigned ∨ s.able e.2 = true := by
  obtain ⟨idle, -⟩ | ⟨k, -, found, assigned⟩ := s.assignSource_cases n
  · exact .inl (idle ▸ he)
  · rw [assigned] at he
    obtain old | new := List.mem_append.mp (show e ∈ s.intc.assigned ++ [(n, k)] from he)
    · exact .inl old
    · obtain rfl := List.mem_singleton.mp new
      have pending : s.pendingSource n = true := by
        by_contra quiet
        simp [State.assignmentOf, quiet] at found
      rw [State.assignmentOf, if_pos pending] at found
      exact .inr (State.able_of_find found)

theorem State.settleSources_sameStacks (s : State) : SameStacks s s.settleSources := by
  rw [State.settleSources_eq]
  refine .trans ?_ (.of_sources (State.updateLines_sameSources _).1)
  refine List.foldlRecOn (motive := SameStacks s) _ _ (.of_sources s.endAssignments_sameSources) fun u h n _ => h.trans (u.assignSource_sameStacks n)

/-- R425: settling leaves no source assigned to a frozen target. -/
theorem State.settleSources_frozen (frozen : (s.target k).frozen = true) : ∀ e ∈ s.settleSources.intc.assigned, e.2 ≠ k := by
  rw [State.settleSources_eq, (State.updateLines_sameSources _).2]
  suffices SameStacks s (s.endAssignments.each allSources State.assignSource) ∧
      ∀ e ∈ (s.endAssignments.each allSources State.assignSource).intc.assigned, e.2 ≠ k from this.2
  refine List.foldlRecOn (motive := fun u => SameStacks s u ∧ ∀ e ∈ u.intc.assigned, e.2 ≠ k) _ _ ⟨.of_sources s.endAssignments_sameSources, ?_⟩ ?_
  · rintro e he rfl
    have kept := (List.mem_filter.mp he).2
    simp [frozen] at kept
  · rintro u ⟨same, free⟩ n -
    refine ⟨same.trans (u.assignSource_sameStacks n), fun e he => ?_⟩
    rintro rfl
    obtain old | able := State.assignSource_able he
    · exact free e old rfl
    · simp [State.able, same.frozen, frozen] at able

/-! Accesses. -/

theorem State.Sends.complete (same : t.out = s.out) (m : Nat) (write : Bool) (a status : Nat) (w : Word) :
    s.Sends (t.complete m write a status w) [⟨.access m, if write then .write else .read, [a, status, w.toNat]⟩] := by
  simp [State.Sends, State.complete, State.send, same]

/-- R423: what a claim of target `k` answers, once the access is allowed. -/
theorem exec_claim_allowed {m : Nat} (access : s.MayAccess m (A_INTC_T_CLAIM k) false) :
    exec (.claim m k) s = .next ((s.claimRead k).1.complete m false (A_INTC_T_CLAIM k) accOk (s.claimRead k).2) := by
  obtain ⟨aligned, r, region, permitted⟩ := access
  rw [exec_claim, execClaim, State.accessWith_allowed aligned region permitted]

theorem exec_complete_allowed {m : Nat} {v : Word} (access : s.MayAccess m (A_INTC_T_COMPLETE k) true) :
    exec (.complete m k v) s = .next ((s.completeWrite k (bits v 8 0)).complete m true (A_INTC_T_COMPLETE k) accOk v) := by
  rw [exec_complete, execComplete, State.commandWrite_of_mayAccess access]

/-! The claim (R423). -/

/-- R423: source `n` goes from its assignment to the top of the stack of target `k`. -/
def State.takeSource (s : State) (k n : Nat) : State :=
  let u := s.setTarget k (fun g => { g with stack := g.stack ++ [n] })
  { u with intc := { u.intc with assigned := adel u.intc.assigned n, edge := remove u.intc.edge n } }

theorem State.claimRead_takes {n : Nat} (able : s.able k = true) (assigned : (n, k) ∈ s.intc.assigned)
    (least : ∀ e ∈ s.intc.assigned, e.2 = k → n ≤ e.1) : s.claimRead k = ((s.takeSource k n).updateLines, BitVec.ofNat 32 (2147483648 + n)) := by
  have listed : n ∈ s.assignedTo k := List.mem_map.mpr ⟨_, List.mem_filter.mpr ⟨assigned, by simp⟩, rfl⟩
  have first : ∀ m ∈ s.assignedTo k, n ≤ m := fun m hm => by
    obtain ⟨e, he, rfl⟩ := List.mem_map.mp hm
    obtain ⟨member, target⟩ := List.mem_filter.mp he
    exact least e member (of_decide_eq_true target)
  obtain ⟨r, sorted⟩ := sortNat_of_least listed first
  simp only [State.claimRead, able, if_true, sorted]
  rfl

theorem State.claimRead_empty (idle : s.able k = false ∨ ∀ e ∈ s.intc.assigned, e.2 ≠ k) : s.claimRead k = (s, 0#32) := by
  unfold State.claimRead
  by_cases able : s.able k = true
  · have none : s.assignedTo k = [] := by
      have free := idle.resolve_left (by simp [able])
      simp only [State.assignedTo, List.map_eq_nil_iff, List.filter_eq_nil_iff, decide_eq_true_eq]
      exact free
    rw [if_pos able, none]
    rfl
  · rw [if_neg able]

theorem State.takeSource_target (s : State) (k n j : Nat) :
    (s.takeSource k n).target j = if k = j ∧ j < s.intc.targets.length then { s.target j with stack := (s.target j).stack ++ [n] } else s.target j :=
  s.target_setTarget k j _

theorem State.takeSource_assigned (s : State) (k n : Nat) : (s.takeSource k n).intc.assigned = adel s.intc.assigned n := rfl

theorem mem_adel {α : Type} {l : List (Nat × α)} {n : Nat} {e : Nat × α} : e ∈ adel l n ↔ e ∈ l ∧ e.1 ≠ n := by simp [adel]

theorem State.takeSource_acts (s : State) (k n : Nat) : Acts 2048 s (s.takeSource k n) :=
  Acts.upd_intc (m := 2048) (State.setTarget_acts ..) rfl

/-! The completion (R424, R425). -/

/-- R425: target `k` freezes because source `n` is not on top of its stack. -/
def State.freezeStack (s : State) (k n : Nat) : State :=
  ((s.setTarget k (fun g => { g with frozen := true })).event (bitAt A_INTC_EVENT k)).raise 0x0301 (pay [k, n])

theorem State.completeWrite_other {n : Nat} (thawed : (s.target k).frozen = false) (top : (s.target k).stack.getLast? ≠ some n) :
    s.completeWrite k n = (s.freezeStack k n).settleSources := by
  simp [State.completeWrite, State.freezeStack, thawed, top]

theorem State.completeWrite_frozen {n : Nat} (frozen : (s.target k).frozen = true) : s.completeWrite k n = s := by
  simp [State.completeWrite, frozen]

end

/-! R421: a source that becomes pending. -/

section
variable {s : State} {n k : Nat}

theorem mem_targetOrder {last k : Nat} (h : k ∈ targetOrder last) : k < 4 := by
  simp only [targetOrder, List.mem_cons, List.not_mem_nil, or_false] at h
  omega

/-- A pending source is one of the sources of the table. -/
theorem State.pendingSource_lt (pending : s.pendingSource n = true) : n < 384 := by
  by_contra beyond
  have reserved : n ∉ allSources := fun h => beyond (lt_of_mem_allSources n h)
  simp [State.pendingSource, s.asserted_of_reserved reserved] at pending

theorem State.assignSource_assigns (pending : s.pendingSource n = true) (free : afind s.intc.assigned n = none)
    (found : (targetOrder (s.fld (F_INTC_SRC_CFG_TARGET n))).find? (fun u => tbit (s.fld (F_INTC_SRC_CFG_EN n)) u && s.able u) = some k) :
    s.assignSource n = s.assignTo n k := by
  simp only [State.assignSource, pending, free, Option.isNone_none, Bool.and_self, if_true, found]
  rfl

theorem State.assignSource_waits (none : s.pendingSource n = false ∨
    (targetOrder (s.fld (F_INTC_SRC_CFG_TARGET n))).find? (fun u => tbit (s.fld (F_INTC_SRC_CFG_EN n)) u && s.able u) = none) : s.assignSource n = s := by
  unfold State.assignSource
  split
  case isFalse => rfl
  case isTrue ready =>
    have nobody := none.resolve_left (by simp [(Bool.and_eq_true_iff.mp ready).1])
    rw [nobody]

/-- R421: an assignment changes INTC_SRCnCFG.TARGET of its source, and nothing else in the registers. -/
theorem State.assignTo_changes (h : s.Sound) (n k : Nat) : Changes [.intc, .regs] [F_INTC_SRC_CFG_TARGET n] [] s (s.assignTo n k) :=
  ((Changes.refl h).upd { s with intc := { s.intc with assigned := s.intc.assigned ++ [(n, k)] } }).setFld _ k

theorem State.assignTo_targetIsIdle (h : s.Sound) {j : Nat} (_ : j < 4) : (s.assignTo n k).targetIsIdle j = s.targetIsIdle j := by
  have kept : (s.assignTo n k).flag (F_INTC_T_CTRL_IDLE_EN j) = s.flag (F_INTC_T_CTRL_IDLE_EN j) :=
    (State.assignTo_changes h n k).flag _ rfl (by
      simp only [List.mem_singleton, forall_eq, Fld.apart, F_INTC_SRC_CFG_TARGET, F_INTC_T_CTRL_IDLE_EN, A_INTC_SRC_CFG, A_INTC_T_CTRL]
      omega)
  simp only [State.targetIsIdle, kept]
  rfl

end

/-! The commands. -/

/-- R421: the assignment of a pending source. -/
theorem exec_interruptAssert_assigns {s : State} {n k : Nat} (sound : s.Sound) (length : s.intc.targets.length = 4) (pending : s.pendingSource n = true)
    (free : afind s.intc.assigned n = none)
    (found : (targetOrder (s.fld (F_INTC_SRC_CFG_TARGET n))).find? (fun u => tbit (s.fld (F_INTC_SRC_CFG_EN n)) u && s.able u) = some k) :
    ∃ t, exec (.interruptAssert n) s = .next t ∧ t.intc.assigned = s.intc.assigned ++ [(n, k)] ∧ t.fld (F_INTC_SRC_CFG_TARGET n) = k ∧
      (∀ j, (t.target j).stack = (s.target j).stack) ∧ t.intc.edge = s.intc.edge ∧
      ((s.target k).stack = [] → s.targetIsIdle k = true → (t.target k).line = true) ∧ Frame [.intc, .regs] s t ∧
      FieldsBut [F_INTC_SRC_CFG_TARGET n] s t := by
  have hk : k < 4 := mem_targetOrder (List.mem_of_find?_eq_some found)
  have able : s.able k = true := State.able_of_find found
  have run : exec (.interruptAssert n) s = .next (s.assignTo n k).updateLines := by
    rw [exec_interruptAssert, execInterruptAssert, State.assignSource_assigns pending free found]
  have change := State.assignTo_changes sound n k
  have whole := change.acts (State.updateLines_acts (s.assignTo n k))
  obtain ⟨same, kept⟩ := (s.assignTo n k).updateLines_sameSources
  refine ⟨_, run, kept, ?field, same.stack, same.edge, fun stack idle => ?line, whole.frame, whole.fields⟩
  case field =>
    rw [State.fld_of_regs (State.updateLines_acts _ |>.frame .regs rfl)]
    refine (fld_setFld ?_ _ _ rfl).trans (Nat.mod_eq_of_lt hk)
    exact sound.of_eq rfl rfl rfl rfl rfl rfl rfl rfl rfl rfl rfl rfl rfl rfl
  case line =>
    have allows := State.moderationAllows_of_idle ((State.assignTo_targetIsIdle (n := n) (k := k) sound hk).trans idle)
    refine (State.updateLines_line (s := s.assignTo n k) hk length allows).mpr
      ⟨stack, ?_, (n, k), List.mem_append_right _ (List.mem_singleton_self _), rfl⟩
    simp only [State.able, Bool.and_eq_true, Bool.not_eq_true'] at able
    exact able.1.2

/-- R423: a claim that finds a source. -/
theorem exec_claim_takes {s : State} {m n k : Nat} (hk : k < 4) (hn : n < 384) (length : s.intc.targets.length = 4)
    (access : s.MayAccess m (A_INTC_T_CLAIM k) false) (able : s.able k = true) (assigned : (n, k) ∈ s.intc.assigned)
    (least : ∀ e ∈ s.intc.assigned, e.2 = k → n ≤ e.1) :
    ∃ t, exec (.claim m k) s = .next t ∧
      (t.target k).stack = (s.target k).stack ++ [n] ∧ (∀ j, j ≠ k → (t.target j).stack = (s.target j).stack) ∧ afind t.intc.assigned n = none ∧
      (∀ e, e.1 ≠ n → (e ∈ t.intc.assigned ↔ e ∈ s.intc.assigned)) ∧ n ∉ t.intc.edge ∧ t.inService n = true ∧ (t.target k).line = false ∧
      s.Sends t [⟨.access m, .read, [A_INTC_T_CLAIM k, 0, 2147483648 + n]⟩] ∧ Frame [.intc, .out] s t := by
  have run := exec_claim_allowed access
  rw [State.claimRead_takes able assigned least] at run
  have value : (BitVec.ofNat 32 (2147483648 + n)).toNat = 2147483648 + n := by
    rw [BitVec.toNat_ofNat]
    omega
  generalize BitVec.ofNat 32 (2147483648 + n) = w at run value
  obtain ⟨same, kept⟩ := (s.takeSource k n).updateLines_sameSources
  have stack : ((s.takeSource k n).target k).stack = (s.target k).stack ++ [n] := by
    rw [State.takeSource_target, if_pos ⟨rfl, by omega⟩]
  have others (j : Nat) (hj : j ≠ k) : ((s.takeSource k n).target j).stack = (s.target j).stack := by
    rw [State.takeSource_target, if_neg fun h => hj h.1.symm]
  have edge : n ∉ (s.takeSource k n).intc.edge := by simp [State.takeSource, remove]
  have lines := (s.takeSource k n).updateLines_linesOk k hk
  have acts : Acts 2048 s (s.takeSource k n).updateLines := (State.takeSource_acts s k n).step (State.updateLines_acts _) rfl
  have whole : Frame [.intc, .out] s _ :=
    (Acts.step (m := partMask [.intc, .out]) (acts.mono rfl) (State.complete_acts _ m false (A_INTC_T_CLAIM k) accOk w) rfl).framed
  have sends := State.Sends.complete (acts.frame .out rfl) m false (A_INTC_T_CLAIM k) accOk w
  rw [State.takeSource_assigned] at kept
  rw [value] at sends
  generalize s.takeSource k n = v at *
  generalize v.updateLines = u at *
  have top : ((u.complete m false (A_INTC_T_CLAIM k) accOk w).target k).stack = (s.target k).stack ++ [n] := (same.stack k).trans stack
  refine ⟨_, run, top, fun j hj => (same.stack j).trans (others j hj), ?free, fun e he => ?rest, ?edge, ?served, ?line, ?sent, whole⟩
  case free => exact afind_eq_none_iff.mpr fun e he => (mem_adel.mp (kept ▸ he)).2
  case rest =>
    show e ∈ u.intc.assigned ↔ _
    rw [kept, mem_adel, and_iff_left he]
  case edge => exact fun h => edge (same.edge ▸ h)
  case served => exact State.inService_iff.mpr ⟨k, by simp [top]⟩
  case line =>
    refine Bool.eq_false_iff.mpr fun line => ?_
    have empty := (lines line).1
    rw [same.stack, stack] at empty
    simp at empty
  case sent => exact_mod_cast sends

/-- R424: the completion of the top entry. -/
theorem exec_complete_pops {s : State} {m k : Nat} {v : Word} (hk : k < 4) (length : s.intc.targets.length = 4)
    (access : s.MayAccess m (A_INTC_T_COMPLETE k) true) (thawed : (s.target k).frozen = false) (top : (s.target k).stack.getLast? = some (bits v 8 0)) :
    ∃ t, exec (.complete m k v) s = .next t ∧ (t.target k).stack = (s.target k).stack.dropLast ∧
      (t.target k).frozen = false ∧ (∀ j, j ≠ k → (t.target j).stack = (s.target j).stack) ∧ t.intc.edge = s.intc.edge ∧
      s.Sends t [⟨.access m, .write, [A_INTC_T_COMPLETE k, 0, v.toNat]⟩] ∧ Frame [.intc, .regs, .out] s t := by
  have same := (s.popStack k).settleSources_sameStacks
  have acts : Acts 34359740416 s (s.popStack k).settleSources :=
    ((State.setTarget_acts s k fun g => { g with stack := g.stack.dropLast }).mono rfl).step (State.settleSources_acts _) rfl
  have frozen : ((s.popStack k).target k).frozen = false := by
    rw [State.popStack, State.target_setTarget]
    split <;> exact thawed
  have run := exec_complete_top access rfl thawed top
  have stack : ((s.popStack k).target k).stack = (s.target k).stack.dropLast := State.popStack_stack (by omega)
  have others (j : Nat) (hj : j ≠ k) : ((s.popStack k).target j).stack = (s.target j).stack := State.popStack_stack_other hj
  have edge : (s.popStack k).intc.edge = s.intc.edge := rfl
  generalize s.popStack k = u at *
  have out := acts.frame .out rfl
  have whole : Frame [.intc, .regs, .out] s _ := acts.reaches.trans (State.complete_acts u.settleSources m true (A_INTC_T_COMPLETE k) accOk v).reaches
  generalize u.settleSources = t at *
  exact ⟨_, run, (same.stack k).trans stack, (same.frozen k).trans frozen, fun j hj => (same.stack j).trans (others j hj), same.edge.trans edge,
    State.Sends.complete out .., whole⟩

/-- R425: a target that freezes keeps its stack, and changes nothing but its own event bit and alarm 0x0301. -/
theorem State.freezeStack_changes {s : State} (sound : s.Sound) (k n : Nat) (hk : k < 4) :
    Changes [.alarms, .rcd, .intc, .regs] (bitAt A_INTC_EVENT k :: recFields) [0x0301] s (s.freezeStack k n) := by
  exact Changes.raise (.event (.acts (.refl sound) (State.setTarget_acts ..)) _ (bitAt_fits (by omega))) _ _

theorem State.freezeStack_target (s : State) (k n j : Nat) :
    (s.freezeStack k n).target j = if k = j ∧ j < s.intc.targets.length then { s.target j with frozen := true } else s.target j := by
  have intc : (s.freezeStack k n).intc = (s.setTarget k (fun g => { g with frozen := true })).intc := by
    rw [State.freezeStack, State.raise_intc, State.event_intc]
  have same : (s.freezeStack k n).target j = (s.setTarget k (fun g => { g with frozen := true })).target j := by
    rw [State.target, intc]
    rfl
  rw [same, State.target_setTarget]

/-- R425: the completion of another entry than the top one. -/
theorem exec_complete_freezes {s : State} {m k : Nat} {v : Word} (sound : s.Sound) (hk : k < 4) (length : s.intc.targets.length = 4)
    (access : s.MayAccess m (A_INTC_T_COMPLETE k) true) (thawed : (s.target k).frozen = false) (top : (s.target k).stack.getLast? ≠ some (bits v 8 0)) :
    ∃ t, exec (.complete m k v) s = .next t ∧
      (t.target k).frozen = true ∧ (∀ j, (t.target j).stack = (s.target j).stack) ∧ t.flag (bitAt A_INTC_EVENT k) = true ∧ t.Alarmed 0x0301 ∧
      AlarmsBut [0x0301] s t ∧ (t.target k).line = false ∧ (∀ e ∈ t.intc.assigned, e.2 ≠ k) ∧
      s.Sends t [⟨.access m, .write, [A_INTC_T_COMPLETE k, 0, v.toNat]⟩] ∧ Frame [.alarms, .rcd, .intc, .regs, .out] s t := by
  have run := exec_complete_allowed (v := v) access
  rw [State.completeWrite_other thawed top] at run
  generalize bits v 8 0 = n at run
  have change := State.freezeStack_changes sound k n hk
  have frozen : ((s.freezeStack k n).target k).frozen = true := by
    rw [State.freezeStack_target, if_pos ⟨rfl, by omega⟩]
  have stack (j : Nat) : ((s.freezeStack k n).target j).stack = (s.target j).stack := by
    rw [State.freezeStack_target]
    split <;> rfl
  have fits : (bitAt A_INTC_EVENT k).fits = true := bitAt_fits (by omega)
  have event : (s.freezeStack k n).flag (bitAt A_INTC_EVENT k) = true := by
    have shown : (s.setTarget k (fun g => { g with frozen := true })).Sound := (State.setTarget_acts ..).sound sound
    rw [State.freezeStack, flag_raise (shown.event _) _ _ _ (show A_INTC_EVENT ≠ _ by decide) (show A_INTC_EVENT ≠ _ by decide)]
    exact flag_event shown _ fits
  have alarmed : (s.freezeStack k n).Alarmed 0x0301 := (alarm_raise _ _ _ _).trans (if_pos rfl)
  generalize s.freezeStack k n = u at *
  have settled := State.settleSources_sameSources change.sound
  have free := State.settleSources_frozen frozen
  have lines := u.settleSources_linesOk k hk
  have acts := State.settleSources_acts u
  have alarms (c : Nat) : u.settleSources.alarm? c = u.alarm? c := alarm_of_acts acts rfl
  have whole : Frame [.alarms, .rcd, .intc, .regs, .out] s _ :=
    ((change.frame.mono (by simp)).trans (acts.reaches)).trans (State.complete_acts u.settleSources m true (A_INTC_T_COMPLETE k) accOk v).reaches
  have out : u.settleSources.out = s.out := (acts.frame .out rfl).trans (change.frame .out (by simp))
  generalize u.settleSources = t at *
  have flags : t.flag (bitAt A_INTC_EVENT k) = u.flag (bitAt A_INTC_EVENT k) := by
    unfold State.flag
    rw [settled.fld _ (.inl (show A_INTC_EVENT < A_INTC_SRC_CFG 0 by decide))]
  refine ⟨_, run, (settled.frozen k).trans frozen, fun j => (settled.stack j).trans (stack j), flags.trans event, (alarms _).trans alarmed,
    fun c hc => (alarms c).trans (change.alarms c hc), ?line, free, State.Sends.complete out .., whole⟩
  refine Bool.eq_false_iff.mpr fun line => ?_
  have thawed := (lines line).2.1
  rw [settled.frozen, frozen] at thawed
  exact absurd thawed (by decide)

/-- R425: the stack of a target is emptied and unfrozen. -/
theorem exec_unfreeze_empties {s : State} {m k : Nat} (hk : k < 4) (length : s.intc.targets.length = 4)
    (access : s.MayAccess m (A_INTC_T_CTRL k) true) :
    ∃ t, exec (.unfreeze m k) s = .next t ∧
      (t.target k).stack = [] ∧ (t.target k).frozen = false ∧ (∀ j, j ≠ k → (t.target j).stack = (s.target j).stack) ∧
      s.Sends t [⟨.access m, .write, [A_INTC_T_CTRL k, 0, 1]⟩] ∧ Frame [.intc, .regs, .out] s t := by
  have run : exec (.unfreeze m k) s = .next ((s.unfreezeTarget k).complete m true (A_INTC_T_CTRL k) accOk 1#32) := by
    rw [exec_unfreeze, execUnfreeze, State.commandWrite_of_mayAccess access]
  have acts := State.unfreezeTarget_acts s k
  have same := (s.setTarget k (fun g => { g with stack := [], frozen := false })).settleSources_sameStacks
  have target : (s.setTarget k (fun g => { g with stack := [], frozen := false })).target k = { s.target k with stack := [], frozen := false } := by
    rw [State.target_setTarget, if_pos ⟨rfl, by omega⟩]
  have others (j : Nat) (hj : j ≠ k) : (s.setTarget k (fun g => { g with stack := [], frozen := false })).target j = s.target j :=
    State.target_setTarget_other hj
  have out := acts.frame .out rfl
  have whole : Frame [.intc, .regs, .out] s _ := acts.reaches.trans (State.complete_acts (s.unfreezeTarget k) m true (A_INTC_T_CTRL k) accOk 1#32).reaches
  rw [show (s.setTarget k (fun g => { g with stack := [], frozen := false })).settleSources = s.unfreezeTarget k from rfl] at same
  generalize s.setTarget k (fun g => { g with stack := [], frozen := false }) = u at *
  generalize s.unfreezeTarget k = t at *
  exact ⟨_, run, (same.stack k).trans (by rw [target]), (same.frozen k).trans (by rw [target]),
    fun j hj => (same.stack j).trans (congrArg Target.stack (others j hj)), State.Sends.complete out .., whole⟩

/-- Settles O42: assignment by `State.assignSource_cases`, claims by `State.claimRead_takes`, and completions by the three forms of `State.completeWrite`,
of whose settling stacks and freezes come out as they went in (`State.settleSources_sameStacks`). -/
theorem interruptsAreAssignedClaimedAndCompleted : Obligations.InterruptsAreAssignedClaimedAndCompleted := by
  unfold Obligations.InterruptsAreAssignedClaimedAndCompleted
  refine ⟨fun n k s sound length pending free found => exec_interruptAssert_assigns sound length pending free found, ?waits,
    fun m n k s hk hn length access able assigned least => exec_claim_takes hk hn length access able assigned least, ?nothing,
    fun m k v s hk length access thawed top => exec_complete_pops hk length access thawed top,
    fun m k v s sound hk length access thawed top => exec_complete_freezes sound hk length access thawed top, ?ignored,
    fun m k s hk length access => exec_unfreeze_empties hk length access⟩
  case waits =>
    intro n s waits
    obtain ⟨same, kept⟩ := s.updateLines_sameSources
    exact ⟨_, by rw [exec_interruptAssert, execInterruptAssert, State.assignSource_waits waits], kept, same.stack, same.edge,
      (State.updateLines_acts s).reaches⟩
  case nothing =>
    intro m k s access idle
    have run := exec_claim_allowed access
    rw [State.claimRead_empty idle] at run
    exact ⟨_, run, State.Sends.complete rfl .., (State.complete_acts ..).reaches⟩
  case ignored =>
    intro m k v s access frozen
    have run := exec_complete_allowed (v := v) access
    rw [State.completeWrite_frozen frozen] at run
    exact ⟨_, run, State.Sends.complete rfl .., (State.complete_acts ..).reaches⟩

end Sys2Proof.Machine

/-! Moderation, idle targets, doorbells, machine timers and resets of the application cores (R417, R425 to R427, R432, R433). -/
namespace Sys2Proof.Machine
set_option Elab.async false

theorem State.reachEl_max (s : State) (e : Nat) : (s.reachEl e).tim.el = Nat.max s.tim.el e := by
  show s.tim.el + (e - s.tim.el) = max s.tim.el e
  omega

theorem State.reach_max (s : State) (e : Nat) : (s.reach e).tim.wt = Nat.max s.tim.wt e := by
  show s.tim.wt + (e - s.tim.wt) = max s.tim.wt e
  omega

theorem tbit_eq_testBit (n i : Nat) : tbit n i = n.testBit i := by
  rw [tbit, Nat.testBit_eq_decide_div_mod_eq]
  rfl

theorem State.flag_bitAt (s : State) (a k : Nat) : s.flag (bitAt a k) = tbit (s.reg a).toNat k := by
  have two : k + 1 - k = 1 := by omega
  have bit := Nat.mod_two_eq_zero_or_one ((s.reg a).toNat / 2 ^ k)
  simp only [State.flag, State.fld, fieldOf, bitAt, tbit, two, Nat.pow_one]
  obtain low | high := bit
  · simp [low]
  · simp [high]

/-- R417: the doorbell sources stand in INTC_SWPEND. -/
theorem State.asserted_doorbell (s : State) {k : Nat} (hk : k < 32) : s.asserted (352 + k) = tbit (s.reg A_INTC_SWPEND).toNat k := by
  have level : edgeSource (352 + k) = false := by
    simp only [edgeSource, Bool.or_eq_false_iff, beq_eq_false_iff_ne]
    omega
  have bank : (decide (352 ≤ 352 + k) && decide (352 + k ≤ 383)) = true := by
    simp only [Bool.and_eq_true, decide_eq_true_eq]
    omega
  have fields : (decide (128 ≤ 352 + k) && decide (352 + k ≤ 255)) = false := by
    simp only [Bool.and_eq_false_iff, decide_eq_false_iff_not]
    omega
  rw [State.asserted, level, if_neg Bool.false_ne_true, State.levelAsserted]
  simp only [fields, bank]
  repeat rw [if_neg (by omega)]
  rw [if_neg Bool.false_ne_true, if_pos trivial, State.flag_bitAt, Nat.add_sub_cancel_left]

section
variable {s : State} {k : Nat}

/-- R426: once the interval since the last assertion has passed, moderation lets the line assert. -/
theorem State.moderationAllows_of_interval {e : Nat} (asserted : (s.target k).lineAt = some e)
    (passed : e + 1000 * s.fld (F_INTC_T_MOD_INTERVAL k) ≤ s.tim.el) : s.moderationAllows k = true := by
  simp [State.moderationAllows, asserted, passed]

theorem exec_moderationInterval_line {e : Nat} (hk : k < 4) (length : s.intc.targets.length = 4) (asserted : (s.target k).lineAt = some e) :
    ∃ t, exec (.moderationInterval k) s = .next t ∧
      t.tim.el = Nat.max s.tim.el (e + 1000 * s.fld (F_INTC_T_MOD_INTERVAL k)) ∧ t.intc.assigned = s.intc.assigned ∧
      (∀ j, (t.target j).stack = (s.target j).stack) ∧
      ((t.target k).line = true ↔ ((s.target k).stack = [] ∧ (s.target k).frozen = false ∧ ∃ x ∈ s.intc.assigned, x.2 = k)) ∧
      Frame [.intc, .tim, .elapsed, .working] s t := by
  let r := s.reachEl (e + 1000 * s.fld (F_INTC_T_MOD_INTERVAL k))
  have run : exec (.moderationInterval k) s = .next (r.updateLine k) := by
    rw [exec_moderationInterval, execModerationInterval, asserted]
  obtain ⟨same, assigned⟩ := r.updateLine_sameSources k
  have allows : r.moderationAllows k = true := State.moderationAllows_of_interval (s := r) asserted (State.le_reachEl ..)
  refine ⟨_, run, (congrArg Tim.el same.tim).trans (State.reachEl_max ..), assigned, same.stack,
    State.updateLine_line (s := r) (show k < s.intc.targets.length by omega) allows, ?_⟩
  exact (State.reachEl_acts ..).reaches.trans (State.updateLine_acts r k).reaches

/-- R427: a core that stalls. -/
theorem exec_targetIdle_core (hk : k < 2) (length : s.intc.targets.length = 4) :
    ∃ t, exec (.targetIdle k) s = .next t ∧
      ((t.target k).line = true ↔ ((s.target k).stack = [] ∧ (s.target k).frozen = false ∧ ∃ x ∈ s.intc.assigned, x.2 = k)) ∧
      ((∀ x ∈ s.intc.assigned, x.2 ≠ k) → (t.target k).stalled = true ∧ t.targetIsIdle k = true) ∧ t.intc.assigned = s.intc.assigned ∧
      (∀ j, j ≠ k → t.target j = s.target j) ∧ (∀ j, (t.target j).stack = (s.target j).stack) ∧ Frame [.intc] s t := by
  have run : exec (.targetIdle k) s = .next ((s.setTarget k (fun g => { g with stalled := true })).updateLine k) := by
    rw [exec_targetIdle, execTargetIdle, if_pos hk]
  have own : (s.setTarget k (fun g => { g with stalled := true })).target k = { s.target k with stalled := true } := by
    rw [State.target_setTarget, if_pos ⟨rfl, by omega⟩]
  have others (j : Nat) (hj : j ≠ k) : (s.setTarget k (fun g => { g with stalled := true })).target j = s.target j := State.target_setTarget_other hj
  have inRange : k < (s.setTarget k (fun g => { g with stalled := true })).intc.targets.length := by
    simp only [State.setTarget, setNth, List.length_modify]
    omega
  have kept : (s.setTarget k (fun g => { g with stalled := true })).intc.assigned = s.intc.assigned := rfl
  have acts : Acts 2048 s _ := (State.setTarget_acts s k fun g => { g with stalled := true }).step (State.updateLine_acts _ k) rfl
  generalize s.setTarget k (fun g => { g with stalled := true }) = u at *
  obtain ⟨same, assigned⟩ := u.updateLine_sameSources k
  have idle : u.targetIsIdle k = true := by simp [State.targetIsIdle, hk, own]
  have line := State.updateLine_line inRange (State.moderationAllows_of_idle idle)
  rw [own, kept] at line
  refine ⟨_, run, line, fun free => ?stalled, assigned.trans kept, fun j hj => (u.updateLine_target_other hj).trans (others j hj), fun j => ?stack,
    acts.reaches⟩
  case stalled =>
    have low : (u.updateLine k).target k = { u.target k with line := false } := by
      have none : u.assignedTo k = [] := by
        simp only [State.assignedTo, List.map_eq_nil_iff, List.filter_eq_nil_iff, decide_eq_true_eq, kept]
        exact free
      simp only [State.updateLine, none, List.isEmpty_nil, Bool.not_true, Bool.and_false, if_neg Bool.false_ne_true]
      rw [State.target_setTarget, if_pos ⟨rfl, inRange⟩]
    have stalled : ((u.updateLine k).target k).stalled = true := by rw [low, own]
    exact ⟨stalled, by rw [State.targetIsIdle, if_pos hk, stalled]⟩
  case stack =>
    rw [same.stack]
    by_cases hj : j = k
    · rw [hj, own]
    · rw [others j hj]

/-- R427: HIDLE rises for both host targets. -/
theorem exec_targetIdle_host {j : Nat} (hk : 2 ≤ k) (hk4 : k < 4) (hj : 2 ≤ j) (length : s.intc.targets.length = 4) :
    ∃ t, exec (.targetIdle j) s = .next t ∧ t.hst = { s.hst with hidle := true } ∧
      (s.flag (F_INTC_T_CTRL_IDLE_EN k) = true → ((t.target k).line = true ↔
        ((s.target k).stack = [] ∧ (s.target k).frozen = false ∧ ∃ x ∈ s.intc.assigned, x.2 = k))) ∧
      t.intc.assigned = s.intc.assigned ∧ (∀ i, (t.target i).stack = (s.target i).stack) ∧ Frame [.intc, .hst] s t := by
  let u : State := { s with hst := { s.hst with hidle := true } }
  have run : exec (.targetIdle j) s = .next u.updateLines := by
    rw [exec_targetIdle, execTargetIdle, if_neg (by omega)]
  obtain ⟨same, assigned⟩ := u.updateLines_sameSources
  have acts := State.updateLines_acts u
  refine ⟨_, run, acts.frame .hst rfl, fun enabled => ?_, assigned, same.stack, Frame.trans ?_ acts.reaches⟩
  · have idle : u.targetIsIdle k = true := by
      rw [State.targetIsIdle, if_neg (by omega), show u.flag (F_INTC_T_CTRL_IDLE_EN k) = true from enabled]
      rfl
    exact State.updateLines_line (s := u) hk4 length (State.moderationAllows_of_idle idle)
  · intro p hp
    cases p <;> first | rfl | simp at hp

/-- R417: a doorbell that is set is an asserted source. -/
theorem exec_doorbellSet_sets {m : Nat} {v : Word} (sound : s.Sound) (access : s.MayAccess m A_INTC_SWSET true) :
    ∃ t, exec (.doorbellSet m v) s = .next t ∧
      t.reg A_INTC_SWPEND = s.reg A_INTC_SWPEND ||| v ∧ (∀ k, k < 32 → tbit v.toNat k = true → t.asserted (352 + k) = true) ∧
      (∀ j, (t.target j).stack = (s.target j).stack) ∧ s.Sends t [⟨.access m, .write, [A_INTC_SWSET, 0, v.toNat]⟩] ∧ Frame [.intc, .regs, .out] s t := by
  have run : exec (.doorbellSet m v) s = .next ((s.doorbellWrite v).settleSources.complete m true A_INTC_SWSET accOk v) := by
    rw [exec_doorbellSet, execDoorbellSet, State.commandWrite_of_mayAccess access]
  have acts := State.setReg_acts s A_INTC_SWPEND (s.reg A_INTC_SWPEND ||| v)
  have pend : (s.doorbellWrite v).reg A_INTC_SWPEND = s.reg A_INTC_SWPEND ||| v := by
    rw [State.doorbellWrite, reg_setReg sound, if_pos rfl]
  have stack (j : Nat) : ((s.doorbellWrite v).target j).stack = (s.target j).stack := rfl
  rw [show s.setReg A_INTC_SWPEND (s.reg A_INTC_SWPEND ||| v) = s.doorbellWrite v from rfl] at acts
  generalize s.doorbellWrite v = u at *
  have same := State.settleSources_sameSources (acts.sound sound)
  have settled := State.settleSources_acts u
  have out : u.settleSources.out = s.out := (settled.frame .out rfl).trans (acts.frame .out rfl)
  have whole : Frame [.intc, .regs, .out] s _ :=
    (acts.reaches.trans settled.reaches).trans (State.complete_acts u.settleSources m true A_INTC_SWSET accOk v).reaches
  generalize u.settleSources = t at *
  have shown : t.reg A_INTC_SWPEND = s.reg A_INTC_SWPEND ||| v := (same.reg _ (.inl (by decide))).trans pend
  refine ⟨_, run, shown, fun k hk set => ?_, fun j => (same.stack j).trans (stack j), State.Sends.complete out .., whole⟩
  rw [State.asserted_doorbell _ hk]
  show tbit (t.reg A_INTC_SWPEND).toNat k = true
  rw [shown, tbit_eq_testBit, BitVec.toNat_or, Nat.testBit_or, ← tbit_eq_testBit v.toNat, set, Bool.or_true]

/-! Application cores (R432, R433). -/

/-- Core `c`. -/
def State.core (s : State) (c : Nat) : App := s.apps.getD c {}

theorem State.updateTimers_core (s : State) {c : Nat} (hc : c < s.apps.length) : s.updateTimers.core c =
    { s.core c with timerIrq := decide (s.mtimecmp c ≤ s.tim.wt / 8), softIrq := tbit (s.reg (A_INTC_T_MSIP c)).toNat 0 } := by
  simp [State.core, State.updateTimers, hc]

theorem State.core_setNth (s : State) (c j : Nat) (f : App → App) : ({ s with apps := setNth s.apps c f } : State).core j =
    if c = j ∧ j < s.apps.length then f (s.core j) else s.core j := by
  simp only [State.core, setNth, List.getD_eq_getElem?_getD, List.getElem?_modify]
  by_cases hj : j < s.apps.length <;> by_cases hk : c = j <;> simp [hj, hk]

/-- R432: working time reaches the comparand of core `c`. -/
theorem exec_machineTimer_raises {c : Nat} (hc : c < 2) (cores : s.apps.length = 2) (length : s.intc.targets.length = 4) (fits : 8 * s.mtimecmp c < 2 ^ 64) :
    ∃ t, exec (.machineTimer c) s = .next t ∧
      t.tim.wt = Nat.max s.tim.wt (8 * s.mtimecmp c) ∧ (t.apps.getD c {}).timerIrq = true ∧ (t.target c).stalled = false ∧
      t.intc.assigned = s.intc.assigned ∧ Frame [.intc, .apps, .tim, .elapsed, .working] s t := by
  let r := s.reach (8 * s.mtimecmp c)
  have run : exec (.machineTimer c) s = .next (r.updateTimers.setTarget c (fun g => { g with stalled := false })) := by
    rw [exec_machineTimer, execMachineTimer, if_pos fits]
  have wt : r.tim.wt = Nat.max s.tim.wt (8 * s.mtimecmp c) := State.reach_max ..
  have timer := State.updateTimers_core r (show c < s.apps.length by omega)
  refine ⟨_, run, wt, ?irq, ?stalled, rfl, ?frame⟩
  case irq =>
    refine (congrArg App.timerIrq timer).trans (decide_eq_true ?_)
    show s.mtimecmp c ≤ r.tim.wt / 8
    have later : 8 * s.mtimecmp c ≤ r.tim.wt := wt ▸ Nat.le_max_right ..
    omega
  case stalled =>
    rw [State.target_setTarget, if_pos ⟨rfl, show c < s.intc.targets.length by omega⟩]
  case frame => exact ((State.reach_acts ..).reaches.trans (State.updateTimers_acts r).reaches).trans (State.setTarget_acts ..).reaches

/-- R64: the registers of target `c` return to their reset values. -/
def State.resetTargetRegs (s : State) (c : Nat) : State :=
  ((((s.setReg (A_INTC_T_MOD c) (resetWord (A_INTC_T_MOD c))).setReg (A_INTC_T_CTRL c) 0#32).setReg (A_INTC_T_MTIMECMP_LO c)
    (resetWord (A_INTC_T_MTIMECMP_LO c))).setReg (A_INTC_T_MTIMECMP_HI c) (resetWord (A_INTC_T_MTIMECMP_HI c))).setReg (A_INTC_T_MSIP c) 0#32

/-- R64, R425: core `c` stands still in reset, and its target's stack is empty. -/
def State.holdCore (s : State) (c : Nat) : State :=
  let u := ((s.resetTargetRegs c).setTarget c (fun _ => { inReset := true })).settleSources
  { u with apps := setNth u.apps c (fun a => { a with running := false }) }

/-- R433: the segments that core `c` owns alone are loaded again. -/
def State.reloadCore (s : State) (c : Nat) : State :=
  ((segmentsOf s.pat.appcode).filter (fun g => g.owner == 2 ^ c)).foldl (fun t g => t.loadSegment s.pat.appcode g) s

theorem State.resetApp_eq (s : State) (c : Nat) : s.resetApp c =
    if (s.holdCore c).pat.appcode.isEmpty then (s.holdCore c).updateTimers
    else (((s.holdCore c).reloadCore c).startApp c).settleSources.updateTimers := by
  rw [State.resetApp, State.reloadCore, State.holdCore, State.resetTargetRegs]

theorem State.resetTargetRegs_acts (s : State) (c : Nat) : Acts 34359738368 s (s.resetTargetRegs c) := by
  unfold State.resetTargetRegs
  refine .step (.step (.step (.step ?_ (State.setReg_acts ..) rfl) (State.setReg_acts ..) rfl) (State.setReg_acts ..) rfl) (State.setReg_acts ..) rfl
  exact State.setReg_acts ..

theorem State.resetTargetRegs_intc (s : State) (c : Nat) : (s.resetTargetRegs c).intc = s.intc := (s.resetTargetRegs_acts c).frame .intc rfl

theorem State.resetTargetRegs_reg (sound : s.Sound) (c : Nat) :
    (s.resetTargetRegs c).reg (A_INTC_T_MOD c) = resetWord (A_INTC_T_MOD c) ∧
    (s.resetTargetRegs c).reg (A_INTC_T_MTIMECMP_LO c) = resetWord (A_INTC_T_MTIMECMP_LO c) ∧
    (s.resetTargetRegs c).reg (A_INTC_T_MTIMECMP_HI c) = resetWord (A_INTC_T_MTIMECMP_HI c) ∧
    (s.resetTargetRegs c).reg (A_INTC_T_MSIP c) = 0#32 := by
  have s1 := sound.setReg (A_INTC_T_MOD c) (resetWord (A_INTC_T_MOD c))
  have s2 := s1.setReg (A_INTC_T_CTRL c) 0#32
  have s3 := s2.setReg (A_INTC_T_MTIMECMP_LO c) (resetWord (A_INTC_T_MTIMECMP_LO c))
  have s4 := s3.setReg (A_INTC_T_MTIMECMP_HI c) (resetWord (A_INTC_T_MTIMECMP_HI c))
  simp only [State.resetTargetRegs, reg_setReg s4, reg_setReg s3, reg_setReg s2, reg_setReg s1, reg_setReg sound]
  simp [A_INTC_T_MOD, A_INTC_T_CTRL, A_INTC_T_MTIMECMP_LO, A_INTC_T_MTIMECMP_HI, A_INTC_T_MSIP]

/-- What a reset of core `c` leaves at its target, whatever follows. -/
structure CoreReset (s t : State) (c : Nat) : Prop where
  sound : t.Sound
  stack : (t.target c).stack = []
  frozen : (t.target c).frozen = false
  others : ∀ j, j ≠ c → (t.target j).stack = (s.target j).stack
  mod : t.reg (A_INTC_T_MOD c) = resetWord (A_INTC_T_MOD c)
  low : t.reg (A_INTC_T_MTIMECMP_LO c) = resetWord (A_INTC_T_MTIMECMP_LO c)
  high : t.reg (A_INTC_T_MTIMECMP_HI c) = resetWord (A_INTC_T_MTIMECMP_HI c)
  msip : t.reg (A_INTC_T_MSIP c) = 0#32
  length : t.intc.targets.length = s.intc.targets.length

theorem CoreReset.step {t u : State} {c : Nat} (h : CoreReset s t c) (sound : u.Sound) (same : SameStacks t u)
    (regs : ∀ a, a < A_INTC_SRC_CFG 0 → u.reg a = t.reg a) (hc : c < 2) (length : u.intc.targets.length = t.intc.targets.length) : CoreReset s u c where
  sound := sound
  stack := (same.stack c).trans h.stack
  frozen := (same.frozen c).trans h.frozen
  others j hj := (same.stack j).trans (h.others j hj)
  mod := (regs _ (by simp only [A_INTC_T_MOD, A_INTC_SRC_CFG]; omega)).trans h.mod
  low := (regs _ (by simp only [A_INTC_T_MTIMECMP_LO, A_INTC_SRC_CFG]; omega)).trans h.low
  high := (regs _ (by simp only [A_INTC_T_MTIMECMP_HI, A_INTC_SRC_CFG]; omega)).trans h.high
  msip := (regs _ (by simp only [A_INTC_T_MSIP, A_INTC_SRC_CFG]; omega)).trans h.msip
  length := length.trans h.length

theorem State.updateLines_length (s : State) : s.updateLines.intc.targets.length = s.intc.targets.length :=
  List.foldlRecOn (motive := fun u : State => u.intc.targets.length = s.intc.targets.length) _ _ rfl fun u h k _ => (u.updateLine_length k).trans h

theorem State.assignSource_targets (s : State) (n : Nat) : (s.assignSource n).intc.targets = s.intc.targets := by
  obtain ⟨idle, -⟩ | ⟨k, -, -, assigned⟩ := s.assignSource_cases n
  · rw [idle]
  · rw [assigned]
    rfl

theorem State.each_assignSource_targets (s : State) (l : List Nat) : (s.each l State.assignSource).intc.targets = s.intc.targets :=
  List.foldlRecOn (motive := fun u : State => u.intc.targets = s.intc.targets) _ _ rfl fun u h n _ => (u.assignSource_targets n).trans h

theorem State.settleSources_length (s : State) : s.settleSources.intc.targets.length = s.intc.targets.length := by
  rw [State.settleSources_eq, State.updateLines_length, State.each_assignSource_targets]
  rfl

theorem CoreReset.settle {t : State} {c : Nat} (h : CoreReset s t c) (hc : c < 2) : CoreReset s t.settleSources c :=
  have same := State.settleSources_sameSources h.sound
  h.step ((State.settleSources_acts t).sound h.sound) (.of_sources same) (fun a ha => same.reg a (.inl ha)) hc t.settleSources_length

/-- R425: target `c` in reset, with the registers of `s.resetTargetRegs c`. -/
def State.resetTarget (s : State) (c : Nat) : State := (s.resetTargetRegs c).setTarget c (fun _ => { inReset := true })

/-- Core `c` stands still. -/
def State.stopCore (s : State) (c : Nat) : State := { s with apps := setNth s.apps c (fun a => { a with running := false }) }

theorem State.holdCore_eq (s : State) (c : Nat) : s.holdCore c = (s.resetTarget c).settleSources.stopCore c := by
  rw [State.holdCore, State.stopCore, State.resetTarget]

theorem State.resetTarget_target (s : State) (c j : Nat) :
    (s.resetTarget c).target j = if c = j ∧ j < s.intc.targets.length then { inReset := true } else s.target j := by
  have same : (s.resetTargetRegs c).target j = s.target j := by rw [State.target, State.target, s.resetTargetRegs_intc c]
  rw [State.resetTarget, State.target_setTarget, same, s.resetTargetRegs_intc c]

theorem State.setTarget_reg (s : State) (k a : Nat) (f : Target → Target) : (s.setTarget k f).reg a = s.reg a := rfl

theorem State.resetTarget_reg (s : State) (c a : Nat) : (s.resetTarget c).reg a = (s.resetTargetRegs c).reg a := by
  rw [State.resetTarget, State.setTarget_reg]

theorem State.stopCore_target (s : State) (c j : Nat) : (s.stopCore c).target j = s.target j := rfl

theorem State.resetTarget_length (s : State) (c : Nat) : (s.resetTarget c).intc.targets.length = s.intc.targets.length := by
  rw [State.resetTarget, ← s.resetTargetRegs_intc c]
  exact List.length_modify ..

theorem State.resetTarget_coreReset {c : Nat} (sound : s.Sound) (hc : c < 2) (length : s.intc.targets.length = 4) : CoreReset s (s.resetTarget c) c := by
  obtain ⟨mod, low, high, msip⟩ := State.resetTargetRegs_reg sound c
  have own : (s.resetTarget c).target c = { inReset := true } := by rw [State.resetTarget_target, if_pos ⟨rfl, by omega⟩]
  have others (j : Nat) (hj : j ≠ c) : (s.resetTarget c).target j = s.target j := by rw [State.resetTarget_target, if_neg fun h => hj h.1.symm]
  have clean : (s.resetTarget c).Sound := by
    rw [State.resetTarget]
    exact (State.setTarget_acts ..).sound ((s.resetTargetRegs_acts c).sound sound)
  rw [← State.resetTarget_reg] at mod low high msip
  have same := s.resetTarget_length c
  generalize s.resetTarget c = r at *
  exact ⟨clean, by rw [own], by rw [own], fun j hj => by rw [others j hj], mod, low, high, msip, same⟩

theorem CoreReset.stop {t : State} {c : Nat} (h : CoreReset s t c) (hc : c < 2) (d : Nat) : CoreReset s (t.stopCore d) c :=
  h.step (h.sound.of_eq rfl rfl rfl rfl rfl rfl rfl rfl rfl rfl rfl rfl rfl rfl) ⟨rfl, fun _ => rfl, fun _ => rfl, fun _ => rfl⟩ (fun _ _ => rfl) hc rfl

theorem State.holdCore_coreReset {c : Nat} (sound : s.Sound) (hc : c < 2) (length : s.intc.targets.length = 4) :
    CoreReset s (s.holdCore c) c ∧ ((s.holdCore c).target c).inReset = true := by
  rw [State.holdCore_eq]
  refine ⟨((State.resetTarget_coreReset sound hc length).settle hc).stop hc c, ?_⟩
  have still := (s.resetTarget c).settleSources_sameStacks.inReset c
  rw [State.resetTarget_target, if_pos ⟨rfl, by omega⟩] at still
  rw [State.stopCore_target, still]

theorem State.reloadCore_acts (s : State) (c : Nat) : Acts 68719476736 s (s.reloadCore c) :=
  Acts.foldl (.refl s) fun t g => State.loadSegment_acts t _ g

/-- A change that touches neither registers nor the interrupt controller keeps what the reset of a core leaves. -/
theorem CoreReset.acts {t u : State} {c m : Nat} (h : CoreReset s t c) (hc : c < 2) (acts : Acts m t u) (intc : m.testBit Part.intc.idx = false := by rfl)
    (regs : m.testBit Part.regs.idx = false := by rfl) : CoreReset s u c := by
  have same : u.intc = t.intc := acts.frame .intc intc
  have bank : u.regs = t.regs := acts.frame .regs regs
  have target (j : Nat) : u.target j = t.target j := by rw [State.target, State.target, same]
  exact h.step (acts.sound h.sound) ⟨by rw [same], fun j => by rw [target], fun j => by rw [target], fun j => by rw [target]⟩
    (fun a _ => by rw [State.reg, State.reg, bank]) hc (by rw [same])

theorem State.startApp_core (s : State) (c j : Nat) : (s.startApp c).core j =
    if c = j ∧ j < s.apps.length then
      { s.core j with running := true, pc := blobWord s.pat.appcode (8 + 4 * c), started := (s.core j).started + 1 } else s.core j :=
  s.core_setNth c j _

theorem State.startApp_target (s : State) (c j : Nat) : (s.startApp c).target j =
    if c = j ∧ j < s.intc.targets.length then { s.target j with inReset := false } else s.target j :=
  State.target_setTarget { s with apps := setNth s.apps c (fun a => { a with
    running := true, pc := blobWord s.pat.appcode (8 + 4 * c), started := a.started + 1 }) } c j _

theorem State.startApp_length (s : State) (c : Nat) : (s.startApp c).intc.targets.length = s.intc.targets.length := List.length_modify ..

/-- R433: a core whose reset is over starts at its ENTRY. -/
theorem CoreReset.start {t : State} {c : Nat} (h : CoreReset s t c) : CoreReset s (t.startApp c) c := by
  have stack (j : Nat) : ((t.startApp c).target j).stack = (t.target j).stack := by
    rw [State.startApp_target]
    split <;> rfl
  have frozen : ((t.startApp c).target c).frozen = (t.target c).frozen := by
    rw [State.startApp_target]
    split <;> rfl
  have acts := State.startApp_acts t c
  have bank : (t.startApp c).regs = t.regs := acts.frame .regs rfl
  have reg (a : Nat) : (t.startApp c).reg a = t.reg a := by rw [State.reg, State.reg, bank]
  exact ⟨acts.sound h.sound, (stack c).trans h.stack, frozen.trans h.frozen, fun j hj => (stack j).trans (h.others j hj), (reg _).trans h.mod,
    (reg _).trans h.low, (reg _).trans h.high, (reg _).trans h.msip, (t.startApp_length c).trans h.length⟩

theorem State.stopCore_core (s : State) (c j : Nat) : (s.stopCore c).core j =
    if c = j ∧ j < s.apps.length then { s.core j with running := false } else s.core j := s.core_setNth c j _

theorem State.core_of_apps {t : State} (h : t.apps = s.apps) (j : Nat) : t.core j = s.core j := by rw [State.core, State.core, h]

theorem State.holdTarget_acts (s : State) (c : Nat) : Acts 34359740416 s (s.resetTarget c).settleSources := by
  rw [State.resetTarget]
  exact (((s.resetTargetRegs_acts c).mono rfl).step (State.setTarget_acts ..) rfl).step (State.settleSources_acts _) rfl

theorem State.holdCore_acts (s : State) (c : Nat) : Acts 34359748608 s (s.holdCore c) := by
  rw [State.holdCore_eq, State.stopCore]
  exact Acts.upd_apps ((s.holdTarget_acts c).mono rfl) rfl

theorem State.holdCore_count (s : State) (c : Nat) : (s.holdCore c).apps.length = s.apps.length := by
  rw [State.holdCore_eq, State.stopCore, ← (s.holdTarget_acts c).frame .apps rfl]
  exact List.length_modify ..

/-- R433: what holding core `c` leaves of the cores. -/
theorem State.holdCore_core (s : State) (c j : Nat) : (s.holdCore c).core j =
    if c = j ∧ j < s.apps.length then { s.core j with running := false } else s.core j := by
  have apps : (s.resetTarget c).settleSources.apps = s.apps := (s.holdTarget_acts c).frame .apps rfl
  rw [State.holdCore_eq, State.stopCore_core, State.core_of_apps apps, apps]

/-- What a reset leaves running of core `c`, and of the other core. -/
structure CoreState (s t : State) (c : Nat) : Prop where
  other : (t.core (1 - c)).running = (s.core (1 - c)).running
  stopped : s.pat.appcode = [] → (t.core c).running = false ∧ (t.target c).inReset = true ∧ t.appm = s.appm
  started : s.pat.appcode ≠ [] → (t.core c).running = true ∧ (t.core c).pc = blobWord s.pat.appcode (8 + 4 * c) ∧
    (t.core c).started = (s.core c).started + 1 ∧ (t.target c).inReset = false

theorem State.updateTimers_target (s : State) (j : Nat) : s.updateTimers.target j = s.target j := rfl

theorem State.updateTimers_running (s : State) (j : Nat) : (s.updateTimers.core j).running = (s.core j).running ∧
    (s.updateTimers.core j).pc = (s.core j).pc ∧ (s.updateTimers.core j).started = (s.core j).started := by
  by_cases hj : j < s.apps.length
  · rw [s.updateTimers_core hj]
    exact ⟨rfl, rfl, rfl⟩
  · have beyond : s.apps.length ≤ j := Nat.le_of_not_lt hj
    simp [State.core, State.updateTimers, List.getElem?_eq_none beyond]

/-- R64, R433: the reset of a core through KPR_APPCTL. -/
theorem State.resetApp_resets {c : Nat} (sound : s.Sound) (hc : c < 2) (cores : s.apps.length = 2) (length : s.intc.targets.length = 4) :
    CoreReset s (s.resetApp c) c ∧ CoreState s (s.resetApp c) c := by
  obtain ⟨held, still⟩ := State.holdCore_coreReset sound hc length
  have core := s.holdCore_core c
  have acts := s.holdCore_acts c
  have total := s.holdCore_count c
  have pat : (s.holdCore c).pat = s.pat := acts.frame .pat rfl
  have appm : (s.holdCore c).appm = s.appm := acts.frame .appm rfl
  rw [State.resetApp_eq]
  generalize s.holdCore c = v at *
  rw [pat]
  have away : ¬(c = 1 - c ∧ 1 - c < s.apps.length) := by omega
  have here : c = c ∧ c < s.apps.length := ⟨rfl, by omega⟩
  by_cases bare : s.pat.appcode = []
  · rw [if_pos (by simp [bare])]
    have timers := State.updateTimers_acts v
    refine ⟨held.acts hc timers, ?_, fun _ => ⟨?_, still, (timers.frame .appm rfl).trans appm⟩, fun code => absurd bare code⟩
    · rw [(v.updateTimers_running _).1, core, if_neg away]
    · rw [(v.updateTimers_running _).1, core, if_pos here]
  · rw [if_neg (by simpa using bare)]
    have reload := v.reloadCore_acts c
    have apps : (v.reloadCore c).apps = v.apps := reload.frame .apps rfl
    have code : (v.reloadCore c).pat = s.pat := (reload.frame .pat rfl).trans pat
    have loaded := held.acts hc reload
    generalize v.reloadCore c = r at *
    have settled := State.settleSources_acts (r.startApp c)
    have timers := State.updateTimers_acts (r.startApp c).settleSources
    have targets := (r.startApp c).settleSources_sameStacks
    have cores' (j : Nat) : (r.startApp c).settleSources.core j = (r.startApp c).core j := State.core_of_apps (settled.frame .apps rfl) j
    have running := (r.startApp c).settleSources.updateTimers_running
    have old (j : Nat) : r.core j = v.core j := State.core_of_apps apps j
    have started := r.startApp_core c
    rw [code, apps, total] at started
    have begun := loaded.start
    have released : ((r.startApp c).target c).inReset = false := by
      rw [State.startApp_target, if_pos ⟨rfl, by rw [loaded.length]; omega⟩]
    refine ⟨(begun.settle hc).acts hc timers, ?_, fun none => absurd none bare, fun _ => ⟨?_, ?_, ?_, ?_⟩⟩
    · rw [(running _).1, cores', started, if_neg away, old, core, if_neg away]
    · rw [(running _).1, cores', started, if_pos here]
    · rw [(running _).2.1, cores', started, if_pos here]
    · rw [(running _).2.2, cores', started, if_pos here, old, core, if_pos here]
    · rw [State.updateTimers_target, targets.inReset, released]

theorem resetWord_mtimecmp {c : Nat} (hc : c < 2) :
    (resetWord (A_INTC_T_MTIMECMP_LO c)).toNat + 4294967296 * (resetWord (A_INTC_T_MTIMECMP_HI c)).toNat = 2 ^ 64 - 1 := by
  obtain rfl | rfl : c = 0 ∨ c = 1 := by omega
  · decide +kernel
  · decide +kernel

/-- R433: a write of KPR_APPCTL that resets core `c`. -/
theorem exec_appRst {m c : Nat} {i : Instr} (sound : s.Sound) (cores : s.apps.length = 2) (length : s.intc.targets.length = 4)
    (access : s.MayAccess m A_KPR_APPCTL true) (order : (i = .app0Rst m ∧ c = 0) ∨ (i = .app1Rst m ∧ c = 1)) : ∃ t, exec i s = .next t ∧
      (t.target c).stack = [] ∧ (t.target c).frozen = false ∧
      (∀ j, j ≠ c → (t.target j).stack = (s.target j).stack) ∧ t.reg (A_INTC_T_MOD c) = resetWord (A_INTC_T_MOD c) ∧
      t.mtimecmp c = 2 ^ 64 - 1 ∧ t.reg (A_INTC_T_MSIP c) = 0#32 ∧
      (s.pat.appcode = [] → (t.apps.getD c {}).running = false ∧ (t.target c).inReset = true ∧ t.appm = s.appm) ∧
      (s.pat.appcode ≠ [] → (t.apps.getD c {}).running = true ∧ (t.apps.getD c {}).pc = blobWord s.pat.appcode (8 + 4 * c) ∧
        (t.apps.getD c {}).started = (s.apps.getD c {}).started + 1 ∧ (t.target c).inReset = false) ∧
      (t.apps.getD (1 - c) {}).running = (s.apps.getD (1 - c) {}).running ∧
      s.Sends t [⟨.access m, .write, [A_KPR_APPCTL, 0, 2 ^ c]⟩] ∧ Frame [.intc, .apps, .regs, .appm, .out] s t := by
  have run : ∃ v : Word, v.toNat = 2 ^ c ∧ exec i s = .next ((s.resetApp c).complete m true A_KPR_APPCTL accOk v) := by
    obtain ⟨rfl, rfl⟩ | ⟨rfl, rfl⟩ := order
    · exact ⟨1#32, rfl, by rw [exec_app0Rst, execApp0Rst, State.commandWrite_of_mayAccess access]⟩
    · exact ⟨2#32, rfl, by rw [exec_app1Rst, execApp1Rst, State.commandWrite_of_mayAccess access]⟩
  have hc : c < 2 := by omega
  obtain ⟨v, value, run⟩ := run
  obtain ⟨reset, core⟩ := State.resetApp_resets sound hc cores length
  have acts := State.resetApp_acts s c
  have out : (s.resetApp c).out = s.out := acts.frame .out rfl
  have whole : Frame [.intc, .apps, .regs, .appm, .out] s _ :=
    acts.reaches.trans (State.complete_acts (s.resetApp c) m true A_KPR_APPCTL accOk v).reaches
  generalize s.resetApp c = t at *
  have sends := State.Sends.complete out m true A_KPR_APPCTL accOk v
  rw [value] at sends
  refine ⟨_, run, reset.stack, reset.frozen, reset.others, reset.mod, ?time, reset.msip, core.stopped, core.started, core.other, ?sent, whole⟩
  case time =>
    show (t.reg (A_INTC_T_MTIMECMP_LO c)).toNat + 4294967296 * (t.reg (A_INTC_T_MTIMECMP_HI c)).toNat = 2 ^ 64 - 1
    rw [reset.low, reset.high, resetWord_mtimecmp hc]
  case sent => exact_mod_cast sends

end

/-- Settles O43: a line that moderation lets assert follows its stack (`State.updateLine_line`), and the reset of a core is followed through its four
operations (`State.resetApp_resets`). -/
theorem moderationIdleTargetsDoorbellsAndTimers : Obligations.ModerationIdleTargetsDoorbellsAndTimers := by
  unfold Obligations.ModerationIdleTargetsDoorbellsAndTimers
  refine ⟨fun k e s hk length asserted => exec_moderationInterval_line hk length asserted, ?never,
    fun k s hk length => exec_targetIdle_core hk length, fun k j s hk hk4 hj length => exec_targetIdle_host hk hk4 hj length, fun s => exec_hidleFall s,
    fun m v s sound access => exec_doorbellSet_sets sound access, fun c s hc cores length fits => exec_machineTimer_raises hc cores length fits,
    fun m c i s sound cores length access order => exec_appRst sound cores length access order⟩
  case never =>
    intro k s never
    rw [exec_moderationInterval, execModerationInterval, never]

end Sys2Proof.Machine

/-! Keyed lists: what is found after a key is set or removed. -/
namespace Sys2Proof.Machine
set_option Elab.async false

section
variable {α : Type} {l : List (Nat × α)} {k j : Nat} {v d : α}

theorem afind_aset (l : List (Nat × α)) (k j : Nat) (v : α) : afind (aset l k v) j = if k = j then some v else afind l j := by
  induction l with
  | nil => rfl
  | cons e l ih =>
    by_cases hk : e.1 = k
    · subst hk
      by_cases hj : e.1 = j <;> simp [aset, afind, hj]
    · by_cases hj : e.1 = j
      · subst hj
        simp [aset, afind, hk, Ne.symm hk]
      · simp [aset, afind, hk, hj, ih]

@[simp] theorem afind_aset_self : afind (aset l k v) k = some v := by rw [afind_aset, if_pos rfl]

theorem afind_aset_other (h : j ≠ k) : afind (aset l k v) j = afind l j := by rw [afind_aset, if_neg h.symm]

theorem aget_eq_afind (d : α) (l : List (Nat × α)) (k : Nat) : aget d l k = (afind l k).getD d := by
  induction l with
  | nil => rfl
  | cons e l ih => by_cases h : e.1 = k <;> simp [aget, afind, h, ih]

@[simp] theorem aget_aset_self : aget d (aset l k v) k = v := by rw [aget_eq_afind, afind_aset_self, Option.getD_some]

theorem aget_aset_other (h : j ≠ k) : aget d (aset l k v) j = aget d l j := by rw [aget_eq_afind, aget_eq_afind, afind_aset_other h]

theorem afind_adel (l : List (Nat × α)) (k j : Nat) : afind (adel l k) j = if k = j then none else afind l j := by
  induction l with
  | nil => simp [adel, afind]
  | cons e l ih =>
    simp only [adel] at ih
    by_cases hk : e.1 = k
    · subst hk
      by_cases hj : e.1 = j
      · subst hj
        simpa [adel] using ih
      · simp [adel, afind, hj, ih]
    · by_cases hj : e.1 = j
      · subst hj
        simp [adel, afind, hk, Ne.symm hk]
      · simp [adel, afind, hk, hj, ih]

@[simp] theorem afind_adel_self : afind (adel l k) k = none := by rw [afind_adel, if_pos rfl]

theorem afind_adel_other (h : j ≠ k) : afind (adel l k) j = afind l j := by rw [afind_adel, if_neg h.symm]

@[simp] theorem aget_adel_self : aget d (adel l k) k = d := by rw [aget_eq_afind, afind_adel_self, Option.getD_none]

theorem aget_adel_other (h : j ≠ k) : aget d (adel l k) j = aget d l j := by rw [aget_eq_afind, aget_eq_afind, afind_adel_other h]

/-- A new key goes last. -/
theorem aset_of_none (h : afind l k = none) : aset l k v = l ++ [(k, v)] := by
  induction l with
  | nil => rfl
  | cons e l ih =>
    by_cases hk : e.1 = k
    · simp [afind, hk] at h
    · simp only [afind, hk, if_false] at h
      simp [aset, hk, ih h]

end

theorem mem_insertNew {l : List Nat} {k j : Nat} : j ∈ insertNew l k ↔ j ∈ l ∨ j = k := by
  unfold insertNew
  split
  case isTrue h =>
    have present : k ∈ l := by simpa using h
    exact ⟨.inl, fun h => h.elim id fun e => e ▸ present⟩
  case isFalse => simp

theorem insertNew_of_not_mem {l : List Nat} {k : Nat} (h : k ∉ l) : insertNew l k = l ++ [k] := by simp [insertNew, h]

theorem mem_remove {l : List Nat} {k j : Nat} : j ∈ remove l k ↔ j ∈ l ∧ j ≠ k := by simp [remove]

end Sys2Proof.Machine

/-! The annunciator panel (R501 to R508). -/
namespace Sys2Proof.Machine
set_option Elab.async false

theorem plainBand_le (t : Int) : plainBand t ≤ 7 := (List.length_filter_le ..).trans_eq List.length_range

theorem nextBand_lt {b : Nat} (hb : b < 8) (t : Int) : nextBand b t < 8 := by
  unfold nextBand
  split
  · exact Nat.lt_succ_of_le (plainBand_le t)
  · exact hb

theorem State.fld_lt (s : State) (f : Fld) : s.fld f < 2 ^ (f.hi + 1 - f.lo) := Nat.mod_lt _ (by positivity)

/-- The fields of the panel that a sample of the display temperature changes. -/
def sampleFields : List Fld := [F_ANN_TEMP_TEMP, F_ANN_STATUS_BAND, F_ANN_EVENT_TEMP_EVT, word32 A_REC_LOST, F_REC_EVENT_LOST_EVT]

section
variable {s t : State}

theorem Changes.setInt {ps : List Part} {fs : List Fld} {cs : List Nat} (h : Changes ps fs cs s t) (f : Fld) (i : Int) (fits : f.fits = true := by rfl)
    (hf : f ∈ fs := by simp) (within : 34359738368 ||| partMask ps = partMask ps := by decide) : Changes ps fs cs s (t.setInt f i) :=
  h.setFld f _ fits hf within

/-- The registers of a sample, without what it reports. -/
def State.showTemp (s : State) : State :=
  (s.setInt F_ANN_TEMP_TEMP s.displayTemp).setFld F_ANN_STATUS_BAND (nextBand (s.fld F_ANN_STATUS_BAND) s.displayTemp)

theorem State.sampleTemp_eq (s : State) : s.sampleTemp =
    if s.displayTemp < -250 || 700 < s.displayTemp then (s.showTemp.event F_ANN_EVENT_TEMP_EVT).raise 0x0D02 else s.showTemp.causeGone 0x0D02 := rfl

theorem State.showTemp_changes (sound : s.Sound) : Changes [.regs] [F_ANN_TEMP_TEMP, F_ANN_STATUS_BAND] [] s s.showTemp :=
  ((Changes.refl sound).setInt _ _).setFld _ _

/-- R503: a sample of the display temperature. -/
theorem State.sampleTemp_changes (sound : s.Sound) : Changes [.alarms, .rcd, .regs] sampleFields [0x0D02] s s.sampleTemp := by
  have shown : Changes [.alarms, .rcd, .regs] sampleFields [0x0D02] s s.showTemp := (State.showTemp_changes sound).mono (hf := by simp [sampleFields])
  rw [State.sampleTemp_eq]
  refine .ite (fun _ => ?_) fun _ => ?_
  · exact (shown.event _ rfl (by simp [sampleFields])).raise _ _ (hf := by simp [recFields, sampleFields])
  · exact shown.causeGone _ (hf := by simp [recFields, sampleFields])

theorem State.sampleTemp_band (sound : s.Sound) : s.sampleTemp.fld F_ANN_STATUS_BAND = nextBand (s.fld F_ANN_STATUS_BAND) s.displayTemp := by
  have shown : s.showTemp.fld F_ANN_STATUS_BAND = nextBand (s.fld F_ANN_STATUS_BAND) s.displayTemp := by
    have first : (s.setInt F_ANN_TEMP_TEMP s.displayTemp).Sound := sound.setFld ..
    exact (fld_setFld first _ _ rfl).trans (Nat.mod_eq_of_lt (nextBand_lt (s.fld_lt F_ANN_STATUS_BAND) _))
  have reported : Changes [.alarms, .rcd, .regs] (F_ANN_EVENT_TEMP_EVT :: recFields) [0x0D02] s.showTemp s.sampleTemp := by
    have clean := (State.showTemp_changes sound).sound
    rw [State.sampleTemp_eq]
    exact .ite (fun _ => ((Changes.refl clean).event _).raise _ _) fun _ => (Changes.refl clean).causeGone _
  exact (reported.fld F_ANN_STATUS_BAND).trans shown

theorem State.sampleTemp_alarmed (outside : s.displayTemp < -250 ∨ 700 < s.displayTemp) : s.sampleTemp.Alarmed 0x0D02 := by
  rw [State.sampleTemp_eq, if_pos (by simpa using outside)]
  exact (alarm_raise ..).trans (if_pos rfl)

theorem State.sampleTemp_causeGone (low : -250 ≤ s.displayTemp) (high : s.displayTemp ≤ 700) : s.sampleTemp.CauseGone 0x0D02 := by
  rw [State.sampleTemp_eq, if_neg (by simp [low, high])]
  exact s.showTemp.causeGone_causeGone _

/-! The start of a waveform (R503 to R508). -/

/-- R503, R504: what the start of a waveform samples before it decides. -/
def State.sampleStart (s : State) (v : Nat) : State :=
  (s.sampleTemp.setFld F_ANN_TEMP_VLCD v).setFlag F_ANN_STATUS_VLCD_OK ((s.sampleTemp.setFld F_ANN_TEMP_VLCD v).vlcdGood v)

/-- The fields that the start of a waveform changes. -/
def waveformFields : List Fld := [F_ANN_TEMP_VLCD, F_ANN_STATUS_VLCD_OK, F_ANN_STATUS_GROUP] ++ sampleFields

theorem State.vlcdGood_congr (pat : t.pat = s.pat) (band : t.fld F_ANN_STATUS_BAND = s.fld F_ANN_STATUS_BAND) (v : Nat) : t.vlcdGood v = s.vlcdGood v := by
  unfold State.vlcdGood State.par State.parW
  rw [pat, band]

theorem State.sampleStart_changes (sound : s.Sound) (v : Nat) : Changes [.alarms, .rcd, .regs] waveformFields [0x0D02] s (s.sampleStart v) :=
  (((State.sampleTemp_changes sound).mono (hf := fun f hf => List.mem_append_right _ hf)).setFld _ _ rfl (by decide)).setFlag _ _ rfl (by decide)

/-- R503, R504: the band and VLCD_OK that stand after the samples, and the alarm of the temperature. -/
structure Sampled (s t : State) (v : Nat) : Prop where
  band : t.fld F_ANN_STATUS_BAND = nextBand (s.fld F_ANN_STATUS_BAND) s.displayTemp
  good : t.flag F_ANN_STATUS_VLCD_OK = t.vlcdGood v
  outside : s.displayTemp < -250 ∨ 700 < s.displayTemp → t.Alarmed 0x0D02
  inside : -250 ≤ s.displayTemp → s.displayTemp ≤ 700 → t.CauseGone 0x0D02

theorem State.sampleStart_sampled (sound : s.Sound) (v : Nat) : Sampled s (s.sampleStart v) v := by
  have sample := State.sampleTemp_changes sound
  have vlcd : Changes [.regs] [F_ANN_TEMP_VLCD] [] s.sampleTemp (s.sampleTemp.setFld F_ANN_TEMP_VLCD v) := (Changes.refl sample.sound).setFld _ _
  have ok : Changes [.regs] [F_ANN_STATUS_VLCD_OK] [] (s.sampleTemp.setFld F_ANN_TEMP_VLCD v) (s.sampleStart v) := (Changes.refl vlcd.sound).setFlag _ _
  have band := (ok.fld F_ANN_STATUS_BAND).trans (vlcd.fld F_ANN_STATUS_BAND)
  have alarm : (s.sampleStart v).alarm? 0x0D02 = s.sampleTemp.alarm? 0x0D02 := rfl
  refine ⟨band.trans (State.sampleTemp_band sound), ?_, fun h => alarm.trans (State.sampleTemp_alarmed h),
    fun low high => (State.sampleTemp_causeGone low high).kept alarm⟩
  have same := State.vlcdGood_congr (t := s.sampleStart v) (s := s.sampleTemp.setFld F_ANN_TEMP_VLCD v) rfl (ok.fld F_ANN_STATUS_BAND) v
  exact (flag_setFlag vlcd.sound _ _ rfl).trans same.symm

/-- R503: no waveform starts. -/
theorem exec_waveformStart_idle {v : Nat} (idle : s.ann.enabled = false ∨ s.ann.running.isSome = true ∨ s.clk.vfld = false) :
    exec (.waveformStart v) s = .next s := by
  have stop : (!s.ann.enabled || s.ann.running.isSome || !s.clk.vfld) = true := by
    obtain h | h | h := idle <;> simp [h]
  rw [exec_waveformStart, execWaveformStart, if_pos stop]

/-- R506, R507: the group whose waveform starts: the one to be written again, else the first pending one. -/
def State.nextWaveform (s : State) : State :=
  match s.ann.rewrite, s.ann.pending with
  | some (g, i), _ => ({ s with ann := { s.ann with rewrite := none } }).startWaveform g i (padWords 3 (aget [] s.ann.before g))
  | none, (g, i) :: q => ({ s with ann := { s.ann with pending := q } }).startWaveform g i (s.shown g)
  | none, [] => s

theorem State.nextWaveform_rewrite {g : Nat} {i : List Word} (h : s.ann.rewrite = some (g, i)) : s.nextWaveform =
    ({ s with ann := { s.ann with rewrite := none } }).startWaveform g i (padWords 3 (aget [] s.ann.before g)) := by rw [State.nextWaveform, h]

theorem State.nextWaveform_pending {g : Nat} {i : List Word} {q : List (Nat × List Word)} (h : s.ann.rewrite = none) (k : s.ann.pending = (g, i) :: q) :
    s.nextWaveform = ({ s with ann := { s.ann with pending := q } }).startWaveform g i (s.shown g) := by rw [State.nextWaveform, h, k]

theorem State.nextWaveform_none (h : s.ann.rewrite = none) (k : s.ann.pending = []) : s.nextWaveform = s := by rw [State.nextWaveform, h, k]

theorem State.requireVlcd_changes (sound : s.Sound) : Changes [.alarms, .rcd, .mram, .ann, .regs] waveformFields [0x0D02] s s.requireVlcd := by
  unfold State.requireVlcd
  exact .ite (fun _ => (Changes.refl sound).upd _) fun _ => .refl sound

/-- R505: the start of a waveform keeps the band. -/
theorem State.startWaveform_changes (sound : s.Sound) (g : Nat) (i b : List Word) :
    Changes [.mram, .ann, .regs] [F_ANN_STATUS_GROUP] [] s (s.startWaveform g i b) := by
  have marked : Changes [.mram, .ann, .regs] [F_ANN_STATUS_GROUP] [] s { s with
      mram := { s.mram with dirty := insertNew s.mram.dirty g }
      ann := { s.ann with vlcdAt := none, running := some ⟨g, s.fld F_ANN_STATUS_BAND, 0, i, b, s.tim.el⟩ } } := (Changes.refl sound).upd _
  exact marked.setFld F_ANN_STATUS_GROUP g

/-- R505, R508: what the start of a waveform leaves. -/
theorem State.startWaveform_result (sound : s.Sound) (g : Nat) (i b : List Word) :
    (s.startWaveform g i b).ann = { s.ann with vlcdAt := none, running := some ⟨g, (s.startWaveform g i b).fld F_ANN_STATUS_BAND, 0, i, b, s.tim.el⟩ } ∧
    (s.startWaveform g i b).mram = { s.mram with dirty := insertNew s.mram.dirty g } ∧
    (g < 8 → (s.startWaveform g i b).fld F_ANN_STATUS_GROUP = g) ∧ (s.startWaveform g i b).tim = s.tim := by
  have band := (State.startWaveform_changes sound g i b).fld F_ANN_STATUS_BAND
  refine ⟨by rw [band]; rfl, rfl, fun fits => ?_, rfl⟩
  refine (fld_setFld ?_ _ _ rfl).trans (Nat.mod_eq_of_lt fits)
  exact sound.of_eq rfl rfl rfl rfl rfl rfl rfl rfl rfl rfl rfl rfl rfl rfl

theorem State.nextWaveform_changes (sound : s.Sound) : Changes [.mram, .ann, .regs] [F_ANN_STATUS_GROUP] [] s s.nextWaveform := by
  have updated (a : Ann) : Changes [.mram, .ann, .regs] [F_ANN_STATUS_GROUP] [] s { s with ann := a } := (Changes.refl sound).upd _
  unfold State.nextWaveform
  split
  · exact (updated _).trans (State.startWaveform_changes (updated _).sound ..)
  · exact (updated _).trans (State.startWaveform_changes (updated _).sound ..)
  · exact .refl sound

section
variable {v : Nat} (sound : s.Sound) (enabled : s.ann.enabled = true) (free : s.ann.running = none) (supplied : s.clk.vfld = true)
include enabled free supplied

/-- R503: what follows the samples. -/
theorem exec_waveformStart_samples : exec (.waveformStart v) s = .next (
    if (s.sampleStart v).ann.blocked || !(s.sampleStart v).vlcdGood v then (s.sampleStart v).requireVlcd else (s.sampleStart v).nextWaveform) := by
  have go : (!s.ann.enabled || s.ann.running.isSome || !s.clk.vfld) = false := by simp [enabled, free, supplied]
  rw [exec_waveformStart, execWaveformStart, if_neg (by simp [go])]
  rfl

include sound

/-- R503, R504: whatever follows the samples keeps what they show. -/
theorem exec_waveformStart_sampled : ∃ t, exec (.waveformStart v) s = .next t ∧ Sampled s t v ∧
    Changes [.alarms, .rcd, .mram, .ann, .regs] waveformFields [0x0D02] s t ∧ (t.vlcdGood v = (s.sampleStart v).vlcdGood v) ∧
    t = if s.ann.blocked || !t.vlcdGood v then (s.sampleStart v).requireVlcd else (s.sampleStart v).nextWaveform := by
  have run := exec_waveformStart_samples (v := v) enabled free supplied
  have sampled := State.sampleStart_sampled sound v
  have change := State.sampleStart_changes sound v
  have ann : (s.sampleStart v).ann = s.ann := change.frame .ann (by simp)
  rw [ann] at run
  generalize s.sampleStart v = u at *
  have after : Changes [.alarms, .rcd, .mram, .ann, .regs] [F_ANN_STATUS_GROUP] [] u
      (if s.ann.blocked || !u.vlcdGood v then u.requireVlcd else u.nextWaveform) := by
    refine .ite (fun _ => ?_) fun _ => (State.nextWaveform_changes change.sound).mono
    unfold State.requireVlcd
    exact .ite (fun _ => (Changes.refl change.sound).upd _) fun _ => .refl change.sound
  have band := after.fld F_ANN_STATUS_BAND
  have same := State.vlcdGood_congr (after.frame .pat (by simp)) band v
  have alarm := after.alarms 0x0D02 (by simp)
  refine ⟨_, run, ⟨band.trans sampled.band, ?_, fun h => alarm.trans (sampled.outside h), fun low high => (sampled.inside low high).kept alarm⟩,
    (change.mono).trans (after.mono (hf := by simp [waveformFields]) (hc := by simp)), same, by rw [same]⟩
  rw [after.flag F_ANN_STATUS_VLCD_OK, sampled.good, same]

end

/-- R505: waveform `w` enters phase `n` now. -/
def State.enterPhase (s : State) (w : Waveform) (n : Nat) : State :=
  { s with ann := { s.ann with running := some { w with phase := n, phaseAt := s.tim.el } } }

/-- R505: a phase that lasts a number of ticks ends. -/
theorem State.enterPhase_after (s : State) (w : Waveform) (n ticks : Nat) :
    ((s.reachEl (w.phaseAt + tickNs * ticks)).enterPhase w n).tim.el = Nat.max s.tim.el (w.phaseAt + 10000 * ticks) ∧
    ((s.reachEl (w.phaseAt + tickNs * ticks)).enterPhase w n).ann =
      { s.ann with running := some { w with phase := n, phaseAt := ((s.reachEl (w.phaseAt + tickNs * ticks)).enterPhase w n).tim.el } } ∧
    Frame [.ann, .tim, .elapsed, .working] s ((s.reachEl (w.phaseAt + tickNs * ticks)).enterPhase w n) := by
  rw [show tickNs = 10000 from rfl]
  generalize w.phaseAt + 10000 * ticks = e
  refine ⟨State.reachEl_max s e, rfl, (State.reachEl_acts s e).reaches.trans ?_⟩
  intro p hp
  cases p <;> first | rfl | simp at hp

theorem exec_waveformPhaseEnd_prepared {w : Waveform} (running : s.ann.running = some w) (phase : w.phase = 0) :
    exec .waveformPhaseEnd s = .next ((s.reachEl (w.phaseAt + tickNs * s.par 0x1502 w.band)).enterPhase w 1) := by
  rw [exec_waveformPhaseEnd, execWaveformPhaseEnd, running]
  exact congrArg Host.Outcome.next (if_pos phase)

theorem exec_waveformPhaseEnd_selected {w : Waveform} (running : s.ann.running = some w) (phase : w.phase = 1) :
    exec .waveformPhaseEnd s = .next ((s.reachEl (w.phaseAt + tickNs * s.selectionTicks w.band w.before w.image)).enterPhase w 2) := by
  rw [exec_waveformPhaseEnd, execWaveformPhaseEnd, running]
  exact congrArg Host.Outcome.next ((if_neg (by omega)).trans (if_pos phase))

theorem exec_waveformPhaseEnd_idle (idle : s.ann.running = none ∨ ∃ w, s.ann.running = some w ∧ 2 ≤ w.phase) : exec .waveformPhaseEnd s = .next s := by
  rw [exec_waveformPhaseEnd, execWaveformPhaseEnd]
  obtain free | ⟨w, running, phase⟩ := idle
  · rw [free]
  · rw [running]
    exact congrArg Host.Outcome.next ((if_neg (by omega)).trans (if_neg (by omega)))

/-! The end of a waveform (R506 to R508). -/

/-- R508: the group of a waveform shows its image. -/
def State.showImage (s : State) (w : Waveform) : State :=
  { s with mram := { s.mram with shown := aset s.mram.shown w.group w.image, dirty := remove s.mram.dirty w.group }, ann := { s.ann with running := none } }

/-- R506: an image that was held during a waveform of its group. -/
def State.takeHeld (s : State) (g : Nat) : State :=
  match afind s.ann.held g with
  | some img => ({ s with ann := { s.ann with held := adel s.ann.held g } }).newImage g img
  | none => s

/-- R507: a band jump of two or more bands writes the group again. -/
def State.writeAgain (s : State) (w : Waveform) : State :=
  (({ s with ann := { s.ann with rewrite := some (w.group, w.image), before := aset s.ann.before w.group w.before } }).event
    F_ANN_EVENT_JUMP_EVT).raise 0x0D03 (pay [w.group])

theorem exec_waveformEnd_ends {w : Waveform} (running : s.ann.running = some w) (phase : w.phase = 2) : exec .waveformEnd s = .next (
    let v := ((s.reachEl (w.phaseAt + 500 * tickNs)).sampleTemp.showImage w).takeHeld w.group
    if w.band + 2 ≤ v.fld F_ANN_STATUS_BAND || v.fld F_ANN_STATUS_BAND + 2 ≤ w.band then v.writeAgain w else v) := by
  rw [exec_waveformEnd, execWaveformEnd, running]
  exact congrArg Host.Outcome.next (if_pos phase)

theorem exec_waveformEnd_idle (idle : ∀ w, s.ann.running = some w → w.phase ≠ 2) : exec .waveformEnd s = .next s := by
  rw [exec_waveformEnd, execWaveformEnd]
  cases running : s.ann.running with
  | none => rfl
  | some w => exact congrArg Host.Outcome.next (if_neg (idle w running))

theorem State.newImage_changes (sound : s.Sound) (g : Nat) (i : List Word) : Changes [.ann] [] [] s (s.newImage g i) := by
  have updated (a : Ann) : Changes [.ann] [] [] s { s with ann := a } := (Changes.refl sound).upd _
  unfold State.newImage
  exact .ite (fun _ => .refl sound) fun _ => .ite (fun _ => updated _) fun _ => .ite (fun _ => updated _) fun _ => updated _

theorem State.takeHeld_changes (sound : s.Sound) (g : Nat) : Changes [.ann] [] [] s (s.takeHeld g) := by
  have updated (a : Ann) : Changes [.ann] [] [] s { s with ann := a } := (Changes.refl sound).upd _
  unfold State.takeHeld
  split
  · exact (updated _).trans (State.newImage_changes (updated _).sound ..)
  · exact .refl sound

/-- R506: a new image keeps everything of the panel but what is pending and what is held. -/
theorem State.newImage_ann (s : State) (g : Nat) (i : List Word) :
    (s.newImage g i).ann = { s.ann with pending := (s.newImage g i).ann.pending, held := (s.newImage g i).ann.held } := by
  unfold State.newImage
  repeat' split
  all_goals rfl

theorem State.takeHeld_ann (s : State) (g : Nat) :
    (s.takeHeld g).ann = { s.ann with pending := (s.takeHeld g).ann.pending, held := (s.takeHeld g).ann.held } := by
  unfold State.takeHeld
  split
  · rw [State.newImage_ann]
  · rfl

theorem State.newImage_other {g : Nat} {i : List Word} (enabled : s.ann.enabled = true) (other : ∀ w, s.ann.running = some w → w.group ≠ g) :
    s.newImage g i = { s with ann := { s.ann with pending := if i = s.shown g then adel s.ann.pending g else aset s.ann.pending g i } } := by
  unfold State.newImage
  cases running : s.ann.running with
  | none => by_cases h : i = s.shown g <;> simp [enabled, h]
  | some w => by_cases h : i = s.shown g <;> simp [enabled, other w running, h]

theorem State.takeHeld_none {g : Nat} (h : afind s.ann.held g = none) : s.takeHeld g = s := by rw [State.takeHeld, h]

/-- R506: an image that was held, differs from the shown one and is not pending yet becomes pending at the back. -/
theorem State.takeHeld_pending {g : Nat} {i : List Word} (held : afind s.ann.held g = some i) (enabled : s.ann.enabled = true) (free : s.ann.running = none)
    (differs : i ≠ s.shown g) (new : afind s.ann.pending g = none) :
    (s.takeHeld g).ann.pending = s.ann.pending ++ [(g, i)] ∧ afind (s.takeHeld g).ann.held g = none := by
  have put := State.newImage_other (s := { s with ann := { s.ann with held := adel s.ann.held g } }) (g := g) (i := i) enabled
    (by simp [free])
  rw [State.takeHeld, held]
  refine ⟨(congrArg (fun t : State => t.ann.pending) put).trans ?_, (congrArg (fun t : State => afind t.ann.held g) put).trans afind_adel_self⟩
  exact (if_neg differs).trans (aset_of_none new)

/-- R506 to R508: what the end of a waveform leaves. -/
theorem exec_waveformEnd_result {w : Waveform} (sound : s.Sound) (running : s.ann.running = some w) (phase : w.phase = 2) :
    ∃ t, exec .waveformEnd s = .next t ∧
      t.tim.el = Nat.max s.tim.el (w.phaseAt + 5000000) ∧ t.ann.running = none ∧ aget [] t.mram.shown w.group = w.image ∧
      (∀ g, g ≠ w.group → aget [] t.mram.shown g = aget [] s.mram.shown g) ∧ w.group ∉ t.mram.dirty ∧
      (afind s.ann.held w.group = none → t.ann.pending = s.ann.pending) ∧
      (∀ i, afind s.ann.held w.group = some i → s.ann.enabled = true → i ≠ padWords 3 w.image → afind s.ann.pending w.group = none →
        t.ann.pending = s.ann.pending ++ [(w.group, i)] ∧ afind t.ann.held w.group = none) ∧
      (w.band + 2 ≤ t.fld F_ANN_STATUS_BAND ∨ t.fld F_ANN_STATUS_BAND + 2 ≤ w.band → t.ann.rewrite = some (w.group, w.image) ∧
        aget [] t.ann.before w.group = w.before ∧ t.flag F_ANN_EVENT_JUMP_EVT = true ∧ t.Alarmed 0x0D03) ∧
      (t.fld F_ANN_STATUS_BAND < w.band + 2 → w.band < t.fld F_ANN_STATUS_BAND + 2 → t.ann.rewrite = s.ann.rewrite ∧ AlarmsBut [0x0D02] s t) ∧
      AlarmsBut [0x0D02, 0x0D03] s t ∧ Frame [.alarms, .rcd, .mram, .ann, .tim, .elapsed, .working, .regs] s t := by
  have run := exec_waveformEnd_ends running phase
  have el : (s.reachEl (w.phaseAt + 500 * tickNs)).tim.el = Nat.max s.tim.el (w.phaseAt + 5000000) := State.reachEl_max ..
  have waited : Changes [.tim, .elapsed, .working] [] [] s (s.reachEl (w.phaseAt + 500 * tickNs)) := (Changes.refl sound).acts (State.reachEl_acts ..)
  generalize s.reachEl (w.phaseAt + 500 * tickNs) = r at *
  have sampled := State.sampleTemp_changes waited.sound
  have change : Changes [.alarms, .rcd, .tim, .elapsed, .working, .regs] sampleFields [0x0D02] s r.sampleTemp := waited.mono.trans sampled.mono
  have tim : r.sampleTemp.tim = r.tim := sampled.frame .tim (by simp)
  generalize r.sampleTemp = p at *
  have ann : p.ann = s.ann := change.frame .ann (by simp)
  have mram : p.mram = s.mram := change.frame .mram (by simp)
  have shown : Changes [.mram, .ann] [] [] p (p.showImage w) := (Changes.refl change.sound).upd _
  have taken := State.takeHeld_changes shown.sound w.group
  have panel := (p.showImage w).takeHeld_ann w.group
  have rest : (p.showImage w).ann = { s.ann with running := none } := by
    rw [← ann]
    rfl
  have quiet (h : afind s.ann.held w.group = none) : ((p.showImage w).takeHeld w.group).ann.pending = s.ann.pending := by
    rw [State.takeHeld_none (by rwa [rest]), rest]
  have pending (i : List Word) (held : afind s.ann.held w.group = some i) (enabled : s.ann.enabled = true) (differs : i ≠ padWords 3 w.image)
      (new : afind s.ann.pending w.group = none) : ((p.showImage w).takeHeld w.group).ann.pending = s.ann.pending ++ [(w.group, i)] ∧
      afind ((p.showImage w).takeHeld w.group).ann.held w.group = none := by
    have image : (p.showImage w).shown w.group = padWords 3 w.image := by simp [State.shown, State.showImage]
    have result := State.takeHeld_pending (s := p.showImage w) (by rwa [rest]) (by rwa [rest]) (by rw [rest]) (by rwa [image]) (by rwa [rest])
    rwa [rest] at result
  have whole : Changes [.alarms, .rcd, .mram, .ann, .tim, .elapsed, .working, .regs] sampleFields [0x0D02] s ((p.showImage w).takeHeld w.group) :=
    (change.mono.trans shown.mono).trans taken.mono
  have image : ((p.showImage w).takeHeld w.group).mram = { s.mram with shown := aset s.mram.shown w.group w.image, dirty := remove s.mram.dirty w.group } := by
    rw [← mram]
    exact taken.frame .mram (by simp)
  have el' : ((p.showImage w).takeHeld w.group).tim.el = Nat.max s.tim.el (w.phaseAt + 5000000) := by
    rw [show ((p.showImage w).takeHeld w.group).tim = p.tim from taken.frame .tim (by simp), tim, el]
  rw [rest] at panel
  generalize (p.showImage w).takeHeld w.group = v at *
  have oldShown : aget [] v.mram.shown w.group = w.image := by rw [image, aget_aset_self]
  have oldOthers (g : Nat) (hg : g ≠ w.group) : aget [] v.mram.shown g = aget [] s.mram.shown g := by rw [image, aget_aset_other hg]
  have clean : w.group ∉ v.mram.dirty := by
    rw [image, mem_remove]
    exact fun h => h.2 rfl
  have still : v.ann.running = none := by rw [panel]
  simp only [Bool.or_eq_true, decide_eq_true_eq] at run
  by_cases jump : w.band + 2 ≤ v.fld F_ANN_STATUS_BAND ∨ v.fld F_ANN_STATUS_BAND + 2 ≤ w.band
  · rw [if_pos jump] at run
    have again : Changes [.alarms, .rcd, .ann, .regs] (F_ANN_EVENT_JUMP_EVT :: recFields) [0x0D03] v (v.writeAgain w) :=
      ((Changes.refl whole.sound).upd _).event _ |>.raise _ _
    have band := again.fld F_ANN_STATUS_BAND
    have mram' : (v.writeAgain w).mram = v.mram := again.frame .mram (by simp)
    have ann' : (v.writeAgain w).ann = { v.ann with rewrite := some (w.group, w.image), before := aset v.ann.before w.group w.before } := by
      rw [State.writeAgain, State.raise_ann, State.event_ann]
    have tim' : (v.writeAgain w).tim = v.tim := again.frame .tim (by simp)
    have event : (v.writeAgain w).flag F_ANN_EVENT_JUMP_EVT = true := by
      have set : ({ v with ann := { v.ann with rewrite := some (w.group, w.image), before := aset v.ann.before w.group w.before } } : State).Sound :=
        whole.sound.of_eq rfl rfl rfl rfl rfl rfl rfl rfl rfl rfl rfl rfl rfl rfl
      rw [State.writeAgain, flag_raise (set.event _) _ _ _ (by decide) (by decide)]
      exact flag_event set _ rfl
    have alarmed : (v.writeAgain w).Alarmed 0x0D03 := (alarm_raise ..).trans (if_pos rfl)
    have all : Changes [.alarms, .rcd, .mram, .ann, .tim, .elapsed, .working, .regs] (F_ANN_EVENT_JUMP_EVT :: sampleFields) [0x0D02, 0x0D03] s (v.writeAgain w) :=
      (whole.mono (hf := fun f hf => List.mem_cons_of_mem _ hf)).trans (again.mono (hf := by simp [recFields, sampleFields]))
    generalize v.writeAgain w = t at *
    refine ⟨t, run, by rw [tim', el'], by rw [ann']; exact still, by rw [mram', oldShown], fun g hg => by rw [mram', oldOthers g hg], by rwa [mram'],
      fun h => by rw [ann']; exact quiet h, fun i a b c d => by rw [ann']; exact pending i a b c d,
      fun _ => ⟨by rw [ann'], by rw [ann', aget_aset_self], event, alarmed⟩, fun low high => ?_, all.alarms, all.frame⟩
    rw [band] at low high
    omega
  · rw [if_neg jump] at run
    exact ⟨v, run, el', still, oldShown, oldOthers, clean, quiet, pending, fun h => absurd h jump, fun _ _ => ⟨by rw [panel], whole.alarms⟩,
      fun c hc => whole.alarms c (by simp at hc ⊢; exact hc.1), whole.frame⟩

/-! Committed images (R506). -/

theorem State.newImage_running {g : Nat} {i : List Word} {w : Waveform} (enabled : s.ann.enabled = true) (running : s.ann.running = some w)
    (group : w.group = g) : s.newImage g i = { s with ann := { s.ann with held := aset s.ann.held g i } } := by
  simp [State.newImage, enabled, running, group]

/-- R506: a commit of one group takes its SET image. -/
theorem State.commitWrite_one {g : Nat} (low : 4 ≤ g) (high : g ≤ 7) : s.commitWrite (BitVec.ofNat 32 (2 ^ g)) =
    s.newImage g (s.regRun (A_ANN_SET_W (g - 4) 0) 3) := by
  have only (k : Nat) (hk : k ∈ [4, 5, 6, 7]) : tbit (BitVec.ofNat 32 (2 ^ g)).toNat k = decide (k = g) := by
    obtain rfl | rfl | rfl | rfl : g = 4 ∨ g = 5 ∨ g = 6 ∨ g = 7 := by omega
    all_goals
      revert k
      decide
  simp only [State.commitWrite, State.each, List.foldl_cons, List.foldl_nil, only 4 (by simp), only 5 (by simp), only 6 (by simp), only 7 (by simp),
    decide_eq_true_eq]
  obtain rfl | rfl | rfl | rfl : g = 4 ∨ g = 5 ∨ g = 6 ∨ g = 7 := by omega
  all_goals simp

/-! The check of VLCD (R504). -/

/-- R504: what a check of VLCD shows. -/
def State.checkVlcd (s : State) (v : Nat) : State := (s.setFld F_ANN_TEMP_VLCD v).setFlag F_ANN_STATUS_VLCD_OK (s.vlcdGood v)

theorem State.checkVlcd_changes (sound : s.Sound) (v : Nat) : Changes [.regs] [F_ANN_TEMP_VLCD, F_ANN_STATUS_VLCD_OK] [] s (s.checkVlcd v) :=
  ((Changes.refl sound).setFld _ _).setFlag _ _

theorem State.checkVlcd_shows (sound : s.Sound) (v : Nat) :
    (s.checkVlcd v).flag F_ANN_STATUS_VLCD_OK = s.vlcdGood v ∧ (v < 65536 → (s.checkVlcd v).fld F_ANN_TEMP_VLCD = v) := by
  have first : Changes [.regs] [F_ANN_TEMP_VLCD] [] s (s.setFld F_ANN_TEMP_VLCD v) := (Changes.refl sound).setFld _ _
  have second : Changes [.regs] [F_ANN_STATUS_VLCD_OK] [] (s.setFld F_ANN_TEMP_VLCD v) (s.checkVlcd v) := (Changes.refl first.sound).setFlag _ _
  refine ⟨flag_setFlag first.sound _ _ rfl, fun fits => (second.fld F_ANN_TEMP_VLCD).trans ?_⟩
  exact (fld_setFld sound _ _ rfl).trans (Nat.mod_eq_of_lt fits)

/-- R504: when VLCD is checked next. -/
def State.vlcdDue (s : State) (e : Nat) : Nat := e + if s.ann.blocked then 1000000000 else 20000000

theorem exec_vlcdTimeout_checks {v e : Nat} (since : s.ann.vlcdAt = some e) : exec (.vlcdTimeout v) s = .next (
    let t := (s.reachEl (s.vlcdDue e)).checkVlcd v
    if s.vlcdGood v then ({ t with ann := { t.ann with blocked := false, vlcdAt := none } }).causeGone 0x0D01
    else
      let u := { t with ann := { t.ann with blocked := true, vlcdAt := some t.tim.el } }
      if s.ann.blocked then u else (u.event F_ANN_EVENT_VLCD_EVT).raise 0x0D01) := by
  rw [exec_vlcdTimeout, execVlcdTimeout, since]
  rfl

theorem State.reachEl_checkVlcd (sound : s.Sound) (e v : Nat) :
    Changes [.tim, .elapsed, .working, .regs] [F_ANN_TEMP_VLCD, F_ANN_STATUS_VLCD_OK] [] s ((s.reachEl e).checkVlcd v) ∧
    ((s.reachEl e).checkVlcd v).tim.el = Nat.max s.tim.el e ∧ ((s.reachEl e).checkVlcd v).flag F_ANN_STATUS_VLCD_OK = s.vlcdGood v ∧
    (v < 65536 → ((s.reachEl e).checkVlcd v).fld F_ANN_TEMP_VLCD = v) := by
  have waited : Changes [.tim, .elapsed, .working] [] [] s (s.reachEl e) := (Changes.refl sound).acts (State.reachEl_acts s e)
  have el := State.reachEl_max s e
  have same : (s.reachEl e).vlcdGood v = s.vlcdGood v := State.vlcdGood_congr rfl rfl v
  generalize s.reachEl e = r at *
  obtain ⟨good, value⟩ := State.checkVlcd_shows waited.sound v
  have shown := State.checkVlcd_changes waited.sound v
  exact ⟨(waited.mono (hf := by simp)).trans shown.mono, (congrArg Tim.el (shown.frame .tim (by simp))).trans el, good.trans same, value⟩

theorem exec_vlcdTimeout_good {v e : Nat} (sound : s.Sound) (since : s.ann.vlcdAt = some e) (good : s.vlcdGood v = true) : ∃ t,
    exec (.vlcdTimeout v) s = .next t ∧
      t.ann = { s.ann with blocked := false, vlcdAt := none } ∧ t.tim.el = Nat.max s.tim.el (e + if s.ann.blocked then 1000000000 else 20000000) ∧
      t.flag F_ANN_STATUS_VLCD_OK = true ∧ t.CauseGone 0x0D01 ∧ (v < 65536 → t.fld F_ANN_TEMP_VLCD = v) ∧ AlarmsBut [0x0D01] s t ∧
      Frame [.alarms, .rcd, .ann, .tim, .elapsed, .working, .regs] s t := by
  have run := exec_vlcdTimeout_checks (v := v) since
  simp only [good, if_true] at run
  obtain ⟨checked, el, shown, value⟩ := State.reachEl_checkVlcd sound (s.vlcdDue e) v
  have ann : ((s.reachEl (s.vlcdDue e)).checkVlcd v).ann = s.ann := checked.frame .ann (by simp)
  generalize (s.reachEl (s.vlcdDue e)).checkVlcd v = c at *
  rw [ann] at run
  have cleared : Changes [.alarms, .rcd, .ann, .regs] recFields [0x0D01] c
      (({ c with ann := { s.ann with blocked := false, vlcdAt := none } }).causeGone 0x0D01) := ((Changes.refl checked.sound).upd _).causeGone _
  have gone := State.causeGone_causeGone { c with ann := { s.ann with blocked := false, vlcdAt := none } } 0x0D01
  have tim : (({ c with ann := { s.ann with blocked := false, vlcdAt := none } } : State).causeGone 0x0D01).tim = c.tim := cleared.frame .tim (by simp)
  have panel : (({ c with ann := { s.ann with blocked := false, vlcdAt := none } } : State).causeGone 0x0D01).ann =
    { s.ann with blocked := false, vlcdAt := none } := State.causeGone_ann ..
  have whole : Changes [.alarms, .rcd, .ann, .tim, .elapsed, .working, .regs] (F_ANN_TEMP_VLCD :: F_ANN_STATUS_VLCD_OK :: recFields) [0x0D01] s _ :=
    (checked.mono (hc := by simp)).trans (cleared.mono (hf := by simp [recFields]))
  refine ⟨_, run, panel, by rw [tim, el, State.vlcdDue], ?_, gone, fun fits => ?_, whole.alarms, whole.frame⟩
  · rw [cleared.flag F_ANN_STATUS_VLCD_OK, shown, good]
  · rw [cleared.fld F_ANN_TEMP_VLCD, value fits]

theorem exec_vlcdTimeout_bad {v e : Nat} (sound : s.Sound) (since : s.ann.vlcdAt = some e) (bad : s.vlcdGood v = false) : ∃ t,
    exec (.vlcdTimeout v) s = .next t ∧
      t.ann = { s.ann with blocked := true, vlcdAt := some t.tim.el } ∧ t.tim.el = Nat.max s.tim.el (e + if s.ann.blocked then 1000000000 else 20000000) ∧
      t.flag F_ANN_STATUS_VLCD_OK = false ∧ (s.ann.blocked = false → t.flag F_ANN_EVENT_VLCD_EVT = true ∧ t.Alarmed 0x0D01) ∧
      (s.ann.blocked = true → t.alarms = s.alarms) ∧ AlarmsBut [0x0D01] s t ∧ Frame [.alarms, .rcd, .ann, .tim, .elapsed, .working, .regs] s t := by
  have run := exec_vlcdTimeout_checks (v := v) since
  simp only [bad, Bool.false_eq_true, if_false] at run
  obtain ⟨checked, el, shown, value⟩ := State.reachEl_checkVlcd sound (s.vlcdDue e) v
  have ann : ((s.reachEl (s.vlcdDue e)).checkVlcd v).ann = s.ann := checked.frame .ann (by simp)
  have alarms : ((s.reachEl (s.vlcdDue e)).checkVlcd v).alarms = s.alarms := checked.frame .alarms (by simp)
  generalize (s.reachEl (s.vlcdDue e)).checkVlcd v = c at *
  rw [ann] at run
  have barred : Changes [.ann] [] [] c { c with ann := { s.ann with blocked := true, vlcdAt := some c.tim.el } } := (Changes.refl checked.sound).upd _
  have ok : ({ c with ann := { s.ann with blocked := true, vlcdAt := some c.tim.el } } : State).flag F_ANN_STATUS_VLCD_OK = false :=
    (barred.flag _).trans (shown.trans bad)
  have panel : ({ c with ann := { s.ann with blocked := true, vlcdAt := some c.tim.el } } : State).ann =
    { s.ann with blocked := true, vlcdAt := some c.tim.el } := rfl
  have tim : ({ c with ann := { s.ann with blocked := true, vlcdAt := some c.tim.el } } : State).tim = c.tim := rfl
  have codes : ({ c with ann := { s.ann with blocked := true, vlcdAt := some c.tim.el } } : State).alarms = s.alarms := alarms
  generalize ({ c with ann := { s.ann with blocked := true, vlcdAt := some c.tim.el } } : State) = u at *
  have so : Changes [.ann, .tim, .elapsed, .working, .regs] [F_ANN_TEMP_VLCD, F_ANN_STATUS_VLCD_OK] [] s u :=
    checked.mono.trans (barred.mono (hf := by simp))
  by_cases blocked : s.ann.blocked = true
  · rw [if_pos blocked] at run
    refine ⟨u, run, by rw [panel, tim], by rw [tim, el, State.vlcdDue], ok, fun no => ?_, fun _ => codes, fun c _ => so.alarms c (by simp), so.frame.mono (by simp)⟩
    exact absurd (blocked.symm.trans no) (by decide)
  · rw [if_neg blocked] at run
    have reported : Changes [.alarms, .rcd, .regs] (F_ANN_EVENT_VLCD_EVT :: recFields) [0x0D01] u ((u.event F_ANN_EVENT_VLCD_EVT).raise 0x0D01) :=
      ((Changes.refl so.sound).event _).raise _ _
    have whole : Changes [.alarms, .rcd, .ann, .tim, .elapsed, .working, .regs]
        (F_ANN_TEMP_VLCD :: F_ANN_STATUS_VLCD_OK :: F_ANN_EVENT_VLCD_EVT :: recFields) [0x0D01] s _ :=
      (so.mono (hc := by simp)).trans (reported.mono (hf := by simp [recFields]))
    have alarmed : ((u.event F_ANN_EVENT_VLCD_EVT).raise 0x0D01).Alarmed 0x0D01 := (alarm_raise ..).trans (if_pos rfl)
    have event : ((u.event F_ANN_EVENT_VLCD_EVT).raise 0x0D01).flag F_ANN_EVENT_VLCD_EVT = true := by
      rw [flag_raise (so.sound.event _) _ _ _ (by decide) (by decide)]
      exact flag_event so.sound _ rfl
    have tim' : ((u.event F_ANN_EVENT_VLCD_EVT).raise 0x0D01).tim = c.tim := (reported.frame .tim (by simp)).trans tim
    have panel' : ((u.event F_ANN_EVENT_VLCD_EVT).raise 0x0D01).ann = u.ann := reported.frame .ann (by simp)
    refine ⟨_, run, by rw [panel', panel, tim'], by rw [tim', el, State.vlcdDue], ?_, fun _ => ⟨event, alarmed⟩, fun yes => absurd yes blocked, whole.alarms,
      whole.frame⟩
    rw [reported.flag F_ANN_STATUS_VLCD_OK, ok]

end

/-- Settles O49. Every waveform begins with one sample of the temperature and of VLCD (`exec_waveformStart_sampled`) and ends with another
(`exec_waveformEnd_result`), between which only its phases pass. -/
theorem panelWaveformsWriteTheGroupsInTurn : Obligations.PanelWaveformsWriteTheGroupsInTurn := by
  unfold Obligations.PanelWaveformsWriteTheGroupsInTurn
  refine ⟨fun v s idle => exec_waveformStart_idle idle, ?start, ?pending, ?again, ?prepared, ?selected, fun s idle => exec_waveformPhaseEnd_idle idle,
    fun w s sound running phase => exec_waveformEnd_result sound running phase, fun s idle => exec_waveformEnd_idle idle, ?commit, ?never,
    fun v e s sound since good => exec_vlcdTimeout_good sound since good, fun v e s sound since bad => exec_vlcdTimeout_bad sound since bad⟩
  case start =>
    intro v s sound enabled free supplied
    obtain ⟨t, run, sampled, change, same, result⟩ := exec_waveformStart_sampled (v := v) sound enabled free supplied
    have first := State.sampleStart_changes sound v
    have ann : (s.sampleStart v).ann = s.ann := first.frame .ann (by simp)
    have tim : (s.sampleStart v).tim = s.tim := first.frame .tim (by simp)
    have mram : (s.sampleStart v).mram = s.mram := first.frame .mram (by simp)
    refine ⟨t, run, sampled.band, sampled.good, sampled.outside, sampled.inside, fun stopped => ?_, fun good clear none empty => ?_, change.alarms,
      change.frame⟩
    · rw [if_pos (by obtain h | h := stopped <;> simp [h])] at result
      rw [result, State.requireVlcd, ann, tim]
      refine ⟨by split <;> exact mram, fun idle => ?_, fun new waits => ?_⟩
      · obtain known | ⟨none, empty⟩ := idle
        · rw [if_neg (by simp [Option.isNone_eq_false_iff.mpr known]), ann]
        · rw [if_neg (by simp [none, empty]), ann]
      · rw [if_pos (by obtain h | h := waits <;> simp [new, h])]
    · rw [if_neg (by simp [good, clear]), State.nextWaveform_none (by rw [ann, none]) (by rw [ann, empty])] at result
      rw [result]
      exact ⟨ann, mram⟩
  case pending =>
    intro v g i q s sound enabled free supplied clear none next
    obtain ⟨t, run, sampled, change, same, result⟩ := exec_waveformStart_sampled (v := v) sound enabled free supplied
    have first := State.sampleStart_changes sound v
    have ann : (s.sampleStart v).ann = s.ann := first.frame .ann (by simp)
    have tim : (s.sampleStart v).tim = s.tim := first.frame .tim (by simp)
    have mram : (s.sampleStart v).mram = s.mram := first.frame .mram (by simp)
    refine ⟨t, run, fun good => ?_⟩
    rw [if_neg (by simp [good, clear]), State.nextWaveform_pending (by rwa [ann]) (by rwa [ann])] at result
    have shown : (s.sampleStart v).shown g = s.shown g := by rw [State.shown, State.shown, mram]
    rw [ann, shown] at result
    generalize s.sampleStart v = u at *
    obtain ⟨begun, marks, group, -⟩ := State.startWaveform_result (s := { u with ann := { s.ann with pending := q } })
      (first.sound.of_eq rfl rfl rfl rfl rfl rfl rfl rfl rfl rfl rfl rfl rfl rfl) g i (s.shown g)
    rw [← result] at begun marks group
    exact ⟨begun.trans (by simp only [tim]), by rw [marks, mram], by rw [marks, mram], group⟩
  case again =>
    intro v g i s sound enabled free supplied clear rewrite
    obtain ⟨t, run, sampled, change, same, result⟩ := exec_waveformStart_sampled (v := v) sound enabled free supplied
    have first := State.sampleStart_changes sound v
    have ann : (s.sampleStart v).ann = s.ann := first.frame .ann (by simp)
    have tim : (s.sampleStart v).tim = s.tim := first.frame .tim (by simp)
    refine ⟨t, run, fun good => ?_⟩
    rw [if_neg (by simp [good, clear]), State.nextWaveform_rewrite (by rwa [ann])] at result
    rw [ann] at result
    generalize s.sampleStart v = u at *
    obtain ⟨begun, marks, -, -⟩ := State.startWaveform_result (s := { u with ann := { s.ann with rewrite := none } })
      (first.sound.of_eq rfl rfl rfl rfl rfl rfl rfl rfl rfl rfl rfl rfl rfl rfl) g i (padWords 3 (aget [] s.ann.before g))
    rw [← result] at begun marks
    refine ⟨by rw [begun], by rw [begun], by simp only [begun, tim], ?_⟩
    rw [marks]
    exact mem_insertNew.mpr (.inr rfl)
  case prepared =>
    intro w s running phase
    exact ⟨_, exec_waveformPhaseEnd_prepared running phase, State.enterPhase_after ..⟩
  case selected =>
    intro w s running phase
    exact ⟨_, exec_waveformPhaseEnd_selected running phase, State.enterPhase_after ..⟩
  case commit =>
    intro m g s low high enabled access
    have run : exec (.annCommit m (BitVec.ofNat 32 (2 ^ g))) s = .next ((s.newImage g (s.regRun (A_ANN_SET_W (g - 4) 0) 3)).complete m true A_ANN_COMMIT accOk
        (BitVec.ofNat 32 (2 ^ g))) := by
      rw [exec_annCommit, execAnnCommit, State.commandWrite_of_mayAccess access, State.commitWrite_one low high]
    have acts := State.newImage_acts s g (s.regRun (A_ANN_SET_W (g - 4) 0) 3)
    have value : (BitVec.ofNat 32 (2 ^ g)).toNat = 2 ^ g := by
      rw [BitVec.toNat_ofNat]
      exact Nat.mod_eq_of_lt (Nat.pow_lt_pow_right (by decide) (by omega))
    generalize BitVec.ofNat 32 (2 ^ g) = v at *
    generalize s.regRun (A_ANN_SET_W (g - 4) 0) 3 = i at *
    have sends := State.Sends.complete (acts.frame .out rfl) m true A_ANN_COMMIT accOk v
    rw [value] at sends
    refine ⟨_, run, fun busy => ?_, fun other same => ?_, fun other differs => ?_, by exact_mod_cast sends,
      acts.reaches.trans (State.complete_acts (s.newImage g i) m true A_ANN_COMMIT accOk v).reaches⟩
    · obtain ⟨w, running, group⟩ := busy
      exact congrArg State.ann (State.newImage_running enabled running group)
    · exact (congrArg State.ann (State.newImage_other enabled other)).trans (by rw [if_pos same])
    · exact (congrArg State.ann (State.newImage_other enabled other)).trans (by rw [if_neg differs])
  case never =>
    intro v s never
    rw [exec_vlcdTimeout, execVlcdTimeout, never]

end Sys2Proof.Machine

/-! The ports of the Eloaset link (R435 to R437). -/
namespace Sys2Proof.Machine
set_option Elab.async false

theorem State.fld_bump {s : State} (sound : s.Sound) (f : Fld) (n : Nat) (fits : f.fits = true := by rfl) :
    (s.bump f n).fld f = Nat.min (fieldMax f) (s.fld f + n) := by
  have top : fieldMax f < 2 ^ (f.hi + 1 - f.lo) := Nat.sub_lt (by positivity) Nat.one_pos
  rw [State.bump, fld_setFld sound _ _ fits, Nat.mod_eq_of_lt (Nat.lt_of_le_of_lt (Nat.min_le_right ..) top)]
  exact Nat.min_comm ..

section
variable {s t : State} {p : Nat}

theorem State.elkPort_setElkPort (s : State) (p q : Nat) (f : ElkPort → ElkPort) :
    (s.setElkPort p f).elkPort q = if p = q then f (s.elkPort p) else s.elkPort q := by
  simp only [State.elkPort, State.setElkPort, aget_eq_afind, afind_aset]
  split <;> rfl

theorem State.elkPort_setElkPort_self (s : State) (p : Nat) (f : ElkPort → ElkPort) : (s.setElkPort p f).elkPort p = f (s.elkPort p) := by
  rw [State.elkPort_setElkPort, if_pos rfl]

theorem State.elkPort_setElkPort_other {q : Nat} (h : q ≠ p) (f : ElkPort → ElkPort) : (s.setElkPort p f).elkPort q = s.elkPort q := by
  rw [State.elkPort_setElkPort, if_neg h.symm]

theorem State.elkPort_of_elk (same : t.elk = s.elk) (q : Nat) : t.elkPort q = s.elkPort q := by rw [State.elkPort, State.elkPort, same]

theorem State.elkIsUp_iff : s.elkIsUp p = true ↔ p < 2 ∧ s.fld (F_ELK_P_STAT_STATE p) = elkUp := by simp [State.elkIsUp]

/-- Two fields of port `p`, or of it and of a register beside those of the ports. -/
def portFields (p : Nat) : List Fld := [F_ELK_P_STAT_STATE p, bitAt A_ELK_STATUS p]

theorem State.setElkState_changes (sound : s.Sound) (hp : p < 2) (st : Nat) : Changes [.regs] (portFields p) [] s (s.setElkState p st) :=
  ((Changes.refl sound).setFld _ st rfl (by simp [portFields])).setFlag _ _ (bitAt_fits (by omega)) (by simp [portFields])

/-- The state of a port, and its bit in ELK_STATUS. -/
theorem State.setElkState_shows (sound : s.Sound) (hp : p < 2) {st : Nat} (hs : st < 4) :
    (s.setElkState p st).fld (F_ELK_P_STAT_STATE p) = st ∧ (s.setElkState p st).flag (bitAt A_ELK_STATUS p) = (st == elkUp) := by
  have first : (s.setFld (F_ELK_P_STAT_STATE p) st).Sound := sound.setFld ..
  refine ⟨?_, flag_setFlag first _ _ (bitAt_fits (by omega))⟩
  refine (fld_setFld_other first _ _ _ (bitAt_fits (by omega)) rfl (.inl ?_)).trans ((fld_setFld sound _ _ rfl).trans (Nat.mod_eq_of_lt hs))
  simp only [F_ELK_P_STAT_STATE, A_ELK_P_STAT, bitAt, A_ELK_STATUS]
  omega

/-! Coming up (R437). -/

theorem State.elkComesUp_waits (waits : (s.elkPort p).heard = none ∨ (s.elkPort p).said = false ∨ s.fld (F_ELK_P_STAT_STATE p) ≠ elkWaiting) :
    s.elkComesUp p = s := by
  unfold State.elkComesUp
  split
  · rename_i m heard
    rw [if_neg]
    obtain h | h | h := waits
    · simp [heard] at h
    · simp [h]
    · simp [h]
  · rfl

/-- R437: port `p` is up with member `m`. -/
def State.elkJoin (s : State) (p m : Nat) : State := ((s.setElkPort p (fun _ => {})).setFld (F_ELK_P_STAT_PEER p) m).setElkState p elkUp

theorem State.elkComesUp_joins {m : Nat} (heard : (s.elkPort p).heard = some m) (said : (s.elkPort p).said = true)
    (waiting : s.fld (F_ELK_P_STAT_STATE p) = elkWaiting) : s.elkComesUp p =
    if (List.range 2).all (fun k => (s.elkJoin p m).fld (F_ELK_P_STAT_STATE k) != elkLost) then (s.elkJoin p m).causeGone 0x0501 else s.elkJoin p m := by
  rw [State.elkComesUp, heard]
  exact if_pos (by simp [said, waiting])

/-- The registers of a port that comes up. -/
def joinFields (p : Nat) : List Fld := F_ELK_P_STAT_PEER p :: portFields p

theorem State.elkJoin_changes (sound : s.Sound) (hp : p < 2) (m : Nat) : Changes [.elk, .regs] (joinFields p) [] s (s.elkJoin p m) := by
  have port : Changes [.elk, .regs] (joinFields p) [] s (s.setElkPort p (fun _ => {})) := (Changes.refl sound).acts (State.setElkPort_acts ..)
  have peer := port.setFld (F_ELK_P_STAT_PEER p) m rfl (by simp [joinFields])
  exact peer.trans ((State.setElkState_changes peer.sound hp elkUp).mono (hf := fun f hf => List.mem_cons_of_mem _ hf))

/-- What is up after HELLOs have been exchanged. -/
structure ElkJoined (s t : State) (p m : Nat) : Prop where
  up : t.elkIsUp p = true
  peer : t.fld (F_ELK_P_STAT_PEER p) = m
  bit : t.flag (bitAt A_ELK_STATUS p) = true
  port : t.elkPort p = {}
  others : ∀ q, q ≠ p → t.elkPort q = s.elkPort q

theorem State.elkJoin_joined (sound : s.Sound) (hp : p < 2) {m : Nat} (hm : m < 65536) : ElkJoined s (s.elkJoin p m) p m := by
  have port : (s.setElkPort p (fun _ => {})).Sound := (State.setElkPort_acts ..).sound sound
  have peer := port.setFld (F_ELK_P_STAT_PEER p) m
  obtain ⟨state, bit⟩ := State.setElkState_shows peer hp (st := elkUp) (by decide)
  have shown := State.setElkState_changes peer hp elkUp
  have elk : (s.elkJoin p m).elk = (s.setElkPort p (fun _ => {})).elk := rfl
  refine ⟨State.elkIsUp_iff.mpr ⟨hp, state⟩, ?_, bit, ?_, fun q hq => ?_⟩
  · refine (shown.fld (F_ELK_P_STAT_PEER p) rfl ?_).trans ((fld_setFld port _ _ rfl).trans (Nat.mod_eq_of_lt hm))
    simp only [portFields, List.forall_mem_cons, List.not_mem_nil, false_implies, implies_true, and_true, Fld.apart, F_ELK_P_STAT_STATE,
      F_ELK_P_STAT_PEER, bitAt, A_ELK_P_STAT, A_ELK_STATUS]
    omega
  · rw [State.elkPort_of_elk elk, State.elkPort_setElkPort_self]
  · rw [State.elkPort_of_elk elk, State.elkPort_setElkPort_other hq]

theorem ElkJoined.changes {u : State} {m : Nat} (h : ElkJoined s t p m) (hp : p < 2) (k : Changes [.alarms, .rcd, .regs] recFields [0x0501] t u) :
    ElkJoined s u p m := by
  have elk := State.elkPort_of_elk (k.frame .elk (by simp))
  have apart (f : Fld) (hf : f.addr < 0x60000) : ∀ g ∈ recFields, g.apart f := by
    simp only [recFields, List.forall_mem_cons, List.not_mem_nil, false_implies, implies_true, and_true, Fld.apart, word32, F_REC_EVENT_LOST_EVT,
      A_REC_LOST, A_REC_EVENT]
    omega
  refine ⟨State.elkIsUp_iff.mpr ⟨hp, ?_⟩, ?_, ?_, (elk p).trans h.port, fun q hq => (elk q).trans (h.others q hq)⟩
  · refine (k.fld _ rfl (apart _ ?_)).trans (State.elkIsUp_iff.mp h.up).2
    simp only [F_ELK_P_STAT_STATE, A_ELK_P_STAT]
    omega
  · refine (k.fld _ rfl (apart _ ?_)).trans h.peer
    simp only [F_ELK_P_STAT_PEER, A_ELK_P_STAT]
    omega
  · exact (k.flag _ (bitAt_fits (by omega)) (apart _ (show A_ELK_STATUS < 0x60000 by decide))).trans h.bit

/-- R437: HELLOs with equal ELK_FORM_ID have been exchanged. -/
theorem State.elkComesUp_joined {m : Nat} (sound : s.Sound) (hp : p < 2) (hm : m < 65536) (heard : (s.elkPort p).heard = some m)
    (said : (s.elkPort p).said = true) (waiting : s.fld (F_ELK_P_STAT_STATE p) = elkWaiting) : ElkJoined s (s.elkComesUp p) p m := by
  have joined := State.elkJoin_joined sound hp hm
  have clean := (State.elkJoin_changes sound hp m).sound
  rw [State.elkComesUp_joins heard said waiting]
  split
  · exact joined.changes hp ((Changes.refl clean).causeGone _)
  · exact joined

/-- R437: what a port changes that comes up or waits. -/
theorem State.elkComesUp_changes (sound : s.Sound) (hp : p < 2) :
    Changes [.alarms, .rcd, .elk, .regs] (joinFields p ++ recFields) [0x0501] s (s.elkComesUp p) := by
  by_cases waits : (s.elkPort p).heard = none ∨ (s.elkPort p).said = false ∨ s.fld (F_ELK_P_STAT_STATE p) ≠ elkWaiting
  · rw [State.elkComesUp_waits waits]
    exact .refl sound
  · push Not at waits
    obtain ⟨heard, said, waiting⟩ := waits
    obtain ⟨m, heard⟩ := Option.ne_none_iff_exists'.mp heard
    rw [State.elkComesUp_joins heard (by simpa using said) waiting]
    have joined : Changes [.alarms, .rcd, .elk, .regs] (joinFields p ++ recFields) [0x0501] s (s.elkJoin p m) :=
      (State.elkJoin_changes sound hp m).mono (hf := fun f hf => List.mem_append_left _ hf)
    exact .ite (fun _ => joined.causeGone _ (hf := fun f hf => List.mem_append_right _ hf)) fun _ => joined

end

end Sys2Proof.Machine

/-! Loss, retransmission and HELLOs of the ports of the Eloaset link (R435 to R437). -/
namespace Sys2Proof.Machine
set_option Elab.async false

theorem recFields_apart {f : Fld} (lost : f.addr ≠ A_REC_LOST) (event : f.addr ≠ A_REC_EVENT) : ∀ g ∈ recFields, g.apart f := by
  simp only [recFields, List.forall_mem_cons, List.not_mem_nil, false_implies, implies_true, and_true]
  exact ⟨.inl lost, .inl event⟩

theorem portFields_apart {f : Fld} {p : Nat} (stat : f.addr ≠ A_ELK_P_STAT p) (status : f.addr ≠ A_ELK_STATUS) : ∀ g ∈ portFields p, g.apart f := by
  simp only [portFields, List.forall_mem_cons, List.not_mem_nil, false_implies, implies_true, and_true]
  exact ⟨.inl stat, .inl status⟩

section
variable {s t : State} {p : Nat}

/-- What a report of a lost port counts and shows. -/
def dropFields (p : Nat) : List Fld := F_ELK_P_DROP_COUNT p :: F_ELK_EVENT_PORT_LOST :: recFields

theorem dropFields_apart {f : Fld} (low : f.addr < A_REC_EVENT) (event : f.addr ≠ A_ELK_EVENT) (drop : f.addr ≠ A_ELK_P_DROP p) :
    ∀ g ∈ dropFields p, g.apart f := by
  simp only [dropFields, List.forall_mem_cons]
  exact ⟨.inl drop, .inl event, recFields_apart (fun e => absurd (e ▸ low) (by decide)) (Nat.ne_of_lt low)⟩

theorem dropFields_apart_state (hp : p < 2) : ∀ g ∈ dropFields p, g.apart (F_ELK_P_STAT_STATE p) := by
  apply dropFields_apart
  all_goals
    simp only [F_ELK_P_STAT_STATE, A_ELK_P_STAT, A_REC_EVENT, A_ELK_EVENT, A_ELK_P_DROP]
    omega

theorem dropFields_apart_status (p : Nat) : ∀ g ∈ dropFields p, g.apart (bitAt A_ELK_STATUS p) := by
  apply dropFields_apart
  all_goals
    simp only [bitAt, A_ELK_STATUS, A_REC_EVENT, A_ELK_EVENT, A_ELK_P_DROP]
    omega

/-- R436: what stands when port `p` is lost. -/
structure PortLost (s t : State) (p : Nat) : Prop where
  changes : Changes [.alarms, .rcd, .elk, .regs] (portFields p ++ dropFields p) [0x0501] s t
  state : t.fld (F_ELK_P_STAT_STATE p) = elkLost
  bit : t.flag (bitAt A_ELK_STATUS p) = false
  dropped : t.fld (F_ELK_P_DROP_COUNT p) =
    Nat.min 4294967295 (s.fld (F_ELK_P_DROP_COUNT p) + ((s.elkPort p).held.length + (s.elkPort p).queue.length))
  event : t.flag F_ELK_EVENT_PORT_LOST = true
  alarmed : t.Alarmed 0x0501
  port : t.elkPort p = { lostAt := s.tim.el }
  others : ∀ q, q ≠ p → t.elkPort q = s.elkPort q

/-- R436: the frames that a lost port discards are counted and the loss is reported. -/
def State.reportLoss (s : State) (p n : Nat) : State := ((s.bump (F_ELK_P_DROP_COUNT p) n).event F_ELK_EVENT_PORT_LOST).raise 0x0501 (pay [p])

theorem State.reportLoss_changes (sound : s.Sound) (n : Nat) : Changes [.alarms, .rcd, .regs] (dropFields p) [0x0501] s (s.reportLoss p n) :=
  (((Changes.refl sound).bump _ n rfl (by simp [dropFields])).event _ rfl (by simp [dropFields])).raise _ _ (hf := fun f hf => by simp [dropFields, hf])

theorem State.reportLoss_shows (sound : s.Sound) (hp : p < 2) (n : Nat) : (s.reportLoss p n).flag F_ELK_EVENT_PORT_LOST = true ∧ (s.reportLoss p n).Alarmed 0x0501 ∧
    (s.reportLoss p n).fld (F_ELK_P_DROP_COUNT p) = Nat.min 4294967295 (s.fld (F_ELK_P_DROP_COUNT p) + n) := by
  have bumped := sound.bump (F_ELK_P_DROP_COUNT p) n
  refine ⟨?_, (alarm_raise ..).trans (if_pos rfl), ?_⟩
  · exact (flag_raise (bumped.event _) _ _ _ (by decide) (by decide)).trans (flag_event bumped _ rfl)
  · have low : (F_ELK_P_DROP_COUNT p).addr < A_ELK_P_DROP 2 := by simp [F_ELK_P_DROP_COUNT, A_ELK_P_DROP]; omega
    have high : A_ELK_EVENT < (F_ELK_P_DROP_COUNT p).addr := by simp [F_ELK_P_DROP_COUNT, A_ELK_P_DROP, A_ELK_EVENT]; omega
    refine (fld_raise (bumped.event _) _ _ _ (fun e => absurd (e ▸ low) (by decide)) (fun e => absurd (e ▸ low) (by decide))).trans ?_
    exact (fld_setFld_other bumped _ _ _ rfl rfl (.inl (Nat.ne_of_gt high))).trans (State.fld_bump sound _ n)

theorem State.losePort_eq (s : State) (p : Nat) : s.losePort p =
    ((s.setElkPort p (fun _ => { lostAt := s.tim.el })).setElkState p elkLost).reportLoss p ((s.elkPort p).held.length + (s.elkPort p).queue.length) := rfl

theorem State.losePort_lost (sound : s.Sound) (hp : p < 2) : PortLost s (s.losePort p) p := by
  have port : Changes [.elk, .regs] (portFields p) [] s (s.setElkPort p (fun _ => { lostAt := s.tim.el })) := (Changes.refl sound).acts (State.setElkPort_acts ..)
  have shown := port.trans ((State.setElkState_changes port.sound hp elkLost).mono (hf := fun _ hf => hf))
  obtain ⟨state, bit⟩ := State.setElkState_shows port.sound hp (st := elkLost) (by decide)
  have elk : ((s.setElkPort p (fun _ => { lostAt := s.tim.el })).setElkState p elkLost).elk = (s.setElkPort p (fun _ => { lostAt := s.tim.el })).elk := rfl
  rw [State.losePort_eq]
  generalize (s.setElkPort p (fun _ => { lostAt := s.tim.el })).setElkState p elkLost = b at *
  have counted : b.fld (F_ELK_P_DROP_COUNT p) = s.fld (F_ELK_P_DROP_COUNT p) := by
    refine shown.fld _ rfl (portFields_apart ?_ ?_)
    all_goals
      simp only [F_ELK_P_DROP_COUNT, A_ELK_P_STAT, A_ELK_STATUS, A_ELK_P_DROP]
      omega
  have reported := State.reportLoss_changes (p := p) shown.sound ((s.elkPort p).held.length + (s.elkPort p).queue.length)
  obtain ⟨event, alarmed, dropped⟩ := State.reportLoss_shows shown.sound hp ((s.elkPort p).held.length + (s.elkPort p).queue.length)
  have same := State.elkPort_of_elk (reported.frame .elk (by simp))
  refine ⟨?_, (reported.fld _ rfl (dropFields_apart_state hp)).trans state, (reported.flag _ (bitAt_fits (by omega)) (dropFields_apart_status p)).trans bit, ?_,
    event, alarmed, ?_, fun q hq => ?_⟩
  · exact (shown.mono (hf := fun f hf => List.mem_append_left _ hf) (hc := by simp)).trans (reported.mono (hf := fun f hf => List.mem_append_right _ hf))
  · rw [dropped, counted]
  · rw [same, State.elkPort_of_elk elk, State.elkPort_setElkPort_self]
  · rw [same, State.elkPort_of_elk elk, State.elkPort_setElkPort_other hq]

/-! The frames sent again (R436). -/

theorem State.elkRetransmit_lost {v : Nat} (many : ∃ e ∈ (s.elkPort p).held, e.vc = v ∧ 32 ≤ e.sends) : s.elkRetransmit p v = s.losePort p := by
  obtain ⟨e, held, vc, sends⟩ := many
  exact if_pos (List.any_eq_true.mpr ⟨e, List.mem_filter.mpr ⟨held, by simp [vc]⟩, decide_eq_true sends⟩)

/-- R436: one frame of port `p`, whose state was `q`, leaves again. -/
def State.sendAgain (s : State) (p : Nat) (q : ElkPort) (e : ElkFrame) : State :=
  ((s.bump (F_ELK_P_RETX_COUNT p)).bump (F_ELK_P_TX_COUNT p)).send (.elk p) .packet (frameData q e)

theorem State.sendAgain_acts (s : State) (p : Nat) (q : ElkPort) (e : ElkFrame) : Acts (partMask [.regs, .out]) s (s.sendAgain p q e) :=
  (((Acts.refl s).step (State.bump_acts ..) rfl).step (State.bump_acts ..) rfl).step (State.send_acts ..) rfl

theorem State.sendAgain_out (s : State) (p : Nat) (q : ElkPort) (e : ElkFrame) : (s.sendAgain p q e).out = s.out ++ [⟨.elk p, .packet, frameData q e⟩] := rfl

theorem State.sendAgain_all (s : State) (p : Nat) (q : ElkPort) (l : List ElkFrame) :
    s.Sends (l.foldl (fun u e => u.sendAgain p q e) s) (l.map (fun e => ⟨.elk p, .packet, frameData q e⟩)) ∧
      Acts (partMask [.regs, .out]) s (l.foldl (fun u e => u.sendAgain p q e) s) := by
  induction l generalizing s with
  | nil => exact ⟨(List.append_nil _).symm, .refl s⟩
  | cons e l ih =>
    obtain ⟨sends, acts⟩ := ih (s.sendAgain p q e)
    refine ⟨?_, (State.sendAgain_acts s p q e).step acts (Nat.or_self _)⟩
    rw [State.Sends, List.foldl_cons, sends, State.sendAgain_out, List.append_assoc]
    rfl

/-- R436: the frames of a virtual channel that port `p` holds are sent again at time `a`. -/
def ElkPort.sentAgain (q : ElkPort) (v a : Nat) : ElkPort :=
  { q with held := q.held.map (fun e => if e.vc = v then { e with sends := e.sends + 1, sentAt := a } else e) }

theorem State.elkRetransmit_sends {v : Nat} (few : ∀ e ∈ (s.elkPort p).held, e.vc = v → e.sends < 32) :
    s.elkRetransmit p v = ((s.elkPort p).held.filter (fun e => e.vc == v)).foldl (fun u e => u.sendAgain p (s.elkPort p) e)
      (s.setElkPort p (fun k => k.sentAgain v s.tim.el)) := by
  refine if_neg fun many => ?_
  obtain ⟨e, again, sends⟩ := List.any_eq_true.mp many
  obtain ⟨held, vc⟩ := List.mem_filter.mp again
  have := few e held (by simpa using vc)
  have := of_decide_eq_true sends
  omega

/-! HELLOs (R437). -/

theorem State.elkJoin_elk (s : State) (p m : Nat) : (s.elkJoin p m).elk = (s.setElkPort p (fun _ => {})).elk := rfl

theorem State.elkComesUp_others {q : Nat} (hq : q ≠ p) : (s.elkComesUp p).elkPort q = s.elkPort q := by
  by_cases waits : (s.elkPort p).heard = none ∨ (s.elkPort p).said = false ∨ s.fld (F_ELK_P_STAT_STATE p) ≠ elkWaiting
  · rw [State.elkComesUp_waits waits]
  · push Not at waits
    obtain ⟨heard, said, waiting⟩ := waits
    obtain ⟨m, heard⟩ := Option.ne_none_iff_exists'.mp heard
    rw [State.elkComesUp_joins heard (by simpa using said) waiting]
    have joined : (s.elkJoin p m).elkPort q = s.elkPort q := (State.elkPort_of_elk (State.elkJoin_elk ..) q).trans (State.elkPort_setElkPort_other hq _)
    split
    · exact (State.elkPort_of_elk ((State.causeGone_acts (s.elkJoin p m) 0x0501).frame .elk rfl) q).trans joined
    · exact joined

/-- R437: when the next HELLO of port `p` leaves. -/
def State.helloTime (s : State) (p : Nat) : Nat := (s.elkPort p).saidAt.elim s.tim.el (· + 100000000)

/-- R437: port `p` has sent a HELLO at time `a`. -/
def ElkPort.hasSaid (q : ElkPort) (a : Nat) : ElkPort := { q with said := true, saidAt := some a }

/-- R437: a HELLO has left port `p`. -/
def State.helloSaid (s : State) (p : Nat) : State :=
  ((s.reachEl (s.helloTime p)).setElkPort p (fun q => q.hasSaid (s.reachEl (s.helloTime p)).tim.el)).send (.elk p) .elkHello [(s.member : Int), s.par 0x0A02]

theorem State.helloSaid_acts (s : State) (p : Nat) : Acts (partMask [.tim, .elapsed, .working, .elk, .out]) s (s.helloSaid p) :=
  (((Acts.refl s).step (State.reachEl_acts ..) rfl).step (State.setElkPort_acts ..) rfl).step (State.send_acts ..) rfl

theorem State.helloSaid_out (s : State) (p : Nat) : s.Sends (s.helloSaid p) [⟨.elk p, .elkHello, [s.member, s.par 0x0A02]⟩] := rfl

theorem State.helloSaid_el (s : State) (p : Nat) : (s.helloSaid p).tim.el = Nat.max s.tim.el (s.helloTime p) := State.reachEl_max ..

theorem State.helloSaid_elk (s : State) (p : Nat) :
    (s.helloSaid p).elk = ((s.reachEl (s.helloTime p)).setElkPort p (fun q => q.hasSaid (s.reachEl (s.helloTime p)).tim.el)).elk := rfl

theorem State.helloSaid_port (s : State) (p : Nat) : (s.helloSaid p).elkPort p = (s.elkPort p).hasSaid (s.helloSaid p).tim.el :=
  (State.elkPort_of_elk (State.helloSaid_elk s p) p).trans (State.elkPort_setElkPort_self ..)

theorem State.helloSaid_others {q : Nat} (hq : q ≠ p) : (s.helloSaid p).elkPort q = s.elkPort q :=
  (State.elkPort_of_elk (State.helloSaid_elk s p) q).trans (State.elkPort_setElkPort_other hq _)

theorem exec_elkHelloSend_silent (quiet : 2 ≤ p ∨ s.elkOn p = false ∨ s.elkIsUp p = true) : exec (.elkHelloSend p) s = .next s := by
  rw [exec_elkHelloSend, execElkHelloSend, if_neg]
  simp only [Bool.and_eq_true, decide_eq_true_eq, Bool.or_eq_true]
  rintro ⟨⟨low, on⟩, state⟩
  obtain h | h | h := quiet
  · omega
  · exact absurd (h.symm.trans on) (by decide)
  · have := (State.elkIsUp_iff.mp h).2
    rw [this] at state
    exact absurd state (by decide)

theorem exec_elkHelloSend_said (hp : p < 2) (on : s.elkOn p = true) (state : s.fld (F_ELK_P_STAT_STATE p) = 1 ∨ s.fld (F_ELK_P_STAT_STATE p) = 3) :
    exec (.elkHelloSend p) s = .next ((s.helloSaid p).elkComesUp p) := by
  rw [exec_elkHelloSend, execElkHelloSend, if_pos (by simp only [hp, on, decide_true, Bool.true_and, Bool.or_eq_true, decide_eq_true_eq]; exact state), State.helloSaid, State.helloTime]
  cases (s.elkPort p).saidAt <;> rfl

theorem exec_elkHelloSend_result (sound : s.Sound) (hp : p < 2) (on : s.elkOn p = true)
    (state : s.fld (F_ELK_P_STAT_STATE p) = 1 ∨ s.fld (F_ELK_P_STAT_STATE p) = 3) :
    ∃ t, exec (.elkHelloSend p) s = .next t ∧ s.Sends t [⟨.elk p, .elkHello, [s.member, s.par 0x0A02]⟩] ∧
    ((s.elkPort p).heard = none ∨ s.fld (F_ELK_P_STAT_STATE p) = 3 → t.elkPort p = { s.elkPort p with said := true, saidAt := some t.tim.el } ∧
      Frame [.tim, .elapsed, .working, .elk, .out] s t) ∧
    (∀ m, m < 65536 → (s.elkPort p).heard = some m → s.fld (F_ELK_P_STAT_STATE p) = 1 → t.elkIsUp p = true ∧ t.fld (F_ELK_P_STAT_PEER p) = m ∧
      t.flag (bitAt A_ELK_STATUS p) = true ∧ t.elkPort p = {}) ∧
    (∀ e, (s.elkPort p).saidAt = some e → t.tim.el = Nat.max s.tim.el (e + 100000000)) ∧ ((s.elkPort p).saidAt = none → t.tim.el = s.tim.el) ∧
    (∀ q, q ≠ p → t.elkPort q = s.elkPort q) ∧ AlarmsBut [0x0501] s t ∧ Frame [.alarms, .rcd, .tim, .elapsed, .working, .elk, .regs, .out] s t := by
  have said := State.helloSaid_acts s p
  have sends := State.helloSaid_out s p
  have el := State.helloSaid_el s p
  have port := State.helloSaid_port s p
  have others (q : Nat) (hq : q ≠ p) := State.helloSaid_others (s := s) hq
  have regs : (s.helloSaid p).fld (F_ELK_P_STAT_STATE p) = s.fld (F_ELK_P_STAT_STATE p) := State.fld_of_regs (said.frame .regs rfl) _
  have run := exec_elkHelloSend_said hp on state
  generalize s.helloSaid p = u at *
  have up := State.elkComesUp_changes (said.sound sound) hp
  have tim : (u.elkComesUp p).tim = u.tim := up.frame .tim (by simp)
  refine ⟨_, run, ?_, fun waits => ?_, fun m hm heard waiting => ?_, fun e at' => ?_, fun never => ?_, fun q hq => ?_, fun c hc => ?_, ?_⟩
  · rw [State.Sends, up.frame .out (by simp)]
    exact sends
  · rw [State.elkComesUp_waits (by rw [port, regs]; exact waits.imp_right fun h => .inr (by rw [h]; decide))]
    exact ⟨port, said.reaches⟩
  · have joined := State.elkComesUp_joined (said.sound sound) hp hm (by rw [port]; exact heard) (by rw [port]; rfl) (regs.trans waiting)
    exact ⟨joined.up, joined.peer, joined.bit, joined.port⟩
  · rw [tim, el, State.helloTime, at']
    rfl
  · rw [tim, el, State.helloTime, never]
    exact Nat.max_self _
  · rw [State.elkComesUp_others hq, others q hq]
  · exact (up.alarms c hc).trans (alarm_of_acts said rfl)
  · exact said.reaches.trans (up.frame.mono (by simp))

end

end Sys2Proof.Machine

/-! What arrives at the ports of the Eloaset: HELLOs, times to retry and frames (R435 to R438). -/
namespace Sys2Proof.Machine
set_option Elab.async false

section
variable {s t : State} {p : Nat}

/-! A HELLO (R437). -/

theorem exec_elkHello_deaf {m f : Nat} (deaf : 2 ≤ p ∨ s.elkOn p = false ∨ s.elkIsUp p = true) : exec (.elkHello p m f) s = .next s := by
  rw [exec_elkHello, execElkHello, if_pos (by simpa [or_assoc] using deaf)]

theorem State.elkIsUp_of_fld (same : t.fld (F_ELK_P_STAT_STATE p) = s.fld (F_ELK_P_STAT_STATE p)) : t.elkIsUp p = s.elkIsUp p := by
  rw [State.elkIsUp, State.elkIsUp, same]

theorem recFields_apart_state (hp : p < 2) : ∀ g ∈ recFields, g.apart (F_ELK_P_STAT_STATE p) := by
  apply recFields_apart
  all_goals
    simp only [F_ELK_P_STAT_STATE, A_ELK_P_STAT, A_REC_LOST, A_REC_EVENT]
    omega

theorem exec_elkHello_other {m f : Nat} (sound : s.Sound) (hp : p < 2) (hm : m < 65536) (on : s.elkOn p = true) (down : s.elkIsUp p = false)
    (differs : f ≠ s.par 0x0A02) : ∃ t, exec (.elkHello p m f) s = .next t ∧ t.fld (F_ELK_P_STAT_PEER p) = m ∧ t.Alarmed 0x050C ∧ t.elkIsUp p = false ∧
    AlarmsBut [0x050C] s t ∧ Frame [.alarms, .rcd, .regs] s t := by
  have run : exec (.elkHello p m f) s = .next ((s.setFld (F_ELK_P_STAT_PEER p) m).raise 0x050C (pay [p])) := by
    rw [exec_elkHello, execElkHello, if_neg (by simp [hp, on, down]), if_neg differs]
  have change : Changes [.alarms, .rcd, .regs] (F_ELK_P_STAT_PEER p :: recFields) [0x050C] s ((s.setFld (F_ELK_P_STAT_PEER p) m).raise 0x050C (pay [p])) :=
    ((Changes.refl sound).setFld _ m).raise _ _
  refine ⟨_, run, ?_, (alarm_raise ..).trans (if_pos rfl), ?_, change.alarms, change.frame⟩
  · have low : (F_ELK_P_STAT_PEER p).addr < A_REC_EVENT := by simp only [F_ELK_P_STAT_PEER, A_ELK_P_STAT, A_REC_EVENT]; omega
    refine (fld_raise (sound.setFld ..) _ _ _ (fun e => absurd (e ▸ low) (by decide)) (fun e => absurd (e ▸ low) (by decide))).trans ?_
    exact (fld_setFld sound _ _ rfl).trans (Nat.mod_eq_of_lt hm)
  · rw [State.elkIsUp_of_fld, down]
    exact change.fld _ rfl (List.forall_mem_cons.mpr ⟨.inr (.inr (show 1 < 16 by decide)), recFields_apart_state hp⟩)

/-- R437: port `p` has heard the HELLO of member `m`. -/
def State.helloHeard (s : State) (p m : Nat) : State := (s.setElkPort p (fun q => { q with heard := some m })).causeGone 0x050C

theorem exec_elkHello_result {m : Nat} (sound : s.Sound) (hp : p < 2) (hm : m < 65536) (on : s.elkOn p = true) (down : s.elkIsUp p = false) :
    ∃ t, exec (.elkHello p m (s.par 0x0A02)) s = .next t ∧
    ((s.elkPort p).said = true → s.fld (F_ELK_P_STAT_STATE p) = 1 → t.elkIsUp p = true ∧ t.fld (F_ELK_P_STAT_PEER p) = m ∧ t.elkPort p = {}) ∧
    ((s.elkPort p).said = false ∨ s.fld (F_ELK_P_STAT_STATE p) ≠ 1 → t.elkPort p = { s.elkPort p with heard := some m } ∧ t.elkIsUp p = false) ∧
    t.CauseGone 0x050C ∧ (∀ q, q ≠ p → t.elkPort q = s.elkPort q) ∧ AlarmsBut [0x0501, 0x050C] s t ∧ Frame [.alarms, .rcd, .elk, .regs] s t := by
  have run : exec (.elkHello p m (s.par 0x0A02)) s = .next ((s.helloHeard p m).elkComesUp p) := by
    rw [exec_elkHello, execElkHello, if_neg (by simp [hp, on, down]), if_pos rfl, State.helloHeard]
  have change : Changes [.alarms, .rcd, .elk, .regs] recFields [0x050C] s (s.helloHeard p m) :=
    ((Changes.refl sound).acts (State.setElkPort_acts ..)).causeGone _
  have gone : (s.helloHeard p m).CauseGone 0x050C := State.causeGone_causeGone _ _
  have elk : (s.helloHeard p m).elk = (s.setElkPort p (fun q => { q with heard := some m })).elk := (State.causeGone_acts ..).frame .elk rfl
  have port := (State.elkPort_of_elk elk p).trans (State.elkPort_setElkPort_self ..)
  have others (q : Nat) (hq : q ≠ p) := (State.elkPort_of_elk elk q).trans (State.elkPort_setElkPort_other hq _)
  have state : (s.helloHeard p m).fld (F_ELK_P_STAT_STATE p) = s.fld (F_ELK_P_STAT_STATE p) := change.fld _ rfl (recFields_apart_state hp)
  generalize s.helloHeard p m = u at *
  have up := State.elkComesUp_changes change.sound hp
  refine ⟨_, run, fun said waiting => ?_, fun waits => ?_, gone.kept (up.alarms _ (by decide)), fun q hq => ?_, ?_, ?_⟩
  · have joined := State.elkComesUp_joined change.sound hp hm (by rw [port]) (by rw [port]; exact said) (state.trans waiting)
    exact ⟨joined.up, joined.peer, joined.port⟩
  · rw [State.elkComesUp_waits (by rw [port, state]; exact .inr waits)]
    exact ⟨port, (State.elkIsUp_of_fld state).trans down⟩
  · rw [State.elkComesUp_others hq, others q hq]
  · intro c hc
    obtain ⟨first, last⟩ := not_or.mp (List.mem_pair.not.mp hc)
    exact (up.alarms c (List.mem_singleton.not.mpr first)).trans (change.alarms c (List.mem_singleton.not.mpr last))
  · exact change.frame.trans up.frame

/-! Loss and retry (R436). -/

theorem exec_elkPortLost_up (up : s.elkIsUp p = true) : exec (.elkPortLost p) s = .next (s.losePort p) := by
  rw [exec_elkPortLost, execElkPortLost, if_pos up]

theorem exec_elkPortLost_down (down : s.elkIsUp p = false) : exec (.elkPortLost p) s = .next s := by
  rw [exec_elkPortLost, execElkPortLost, if_neg (by simp [down])]

theorem exec_elkPortRetry_idle (idle : 2 ≤ p ∨ s.fld (F_ELK_P_STAT_STATE p) ≠ 3) : exec (.elkPortRetry p) s = .next s := by
  rw [exec_elkPortRetry, execElkPortRetry, if_neg]
  simp only [Bool.and_eq_true, decide_eq_true_eq, not_and]
  exact fun low => idle.resolve_left (Nat.not_le.mpr low)

theorem hundred_ms : 100 * ms = 100000000 := rfl

/-- R436: `d` ns have passed since port `p` was lost, or was tried last. -/
def State.portRetried (s : State) (p d : Nat) : State :=
  (s.reachEl ((s.elkPort p).lostAt + d)).setElkPort p (fun q => { q with lostAt := q.lostAt + d })

theorem State.portRetried_acts (s : State) (p d : Nat) : Acts (partMask [.elk, .tim, .elapsed, .working]) s (s.portRetried p d) :=
  ((Acts.refl s).step (State.reachEl_acts ..) rfl).step (State.setElkPort_acts ..) rfl

theorem State.portRetried_el (s : State) (p d : Nat) : (s.portRetried p d).tim.el = Nat.max s.tim.el ((s.elkPort p).lostAt + d) := State.reachEl_max ..

theorem State.portRetried_port (s : State) (p d : Nat) : (s.portRetried p d).elkPort p = { s.elkPort p with lostAt := (s.elkPort p).lostAt + d } :=
  State.elkPort_setElkPort_self ..

theorem exec_elkPortRetry_lost (hp : p < 2) (lost : s.fld (F_ELK_P_STAT_STATE p) = 3) :
    exec (.elkPortRetry p) s = .next ((s.portRetried p 100000000).setElkState p elkWaiting) := by
  have both : (decide (p < 2) && decide (s.fld (F_ELK_P_STAT_STATE p) = elkLost)) = true := by
    simp only [hp, lost, decide_true, Bool.true_and]
    rfl
  rw [exec_elkPortRetry, execElkPortRetry, if_pos both, hundred_ms, State.portRetried]

theorem exec_elkPortRetry_result (sound : s.Sound) (hp : p < 2) (lost : s.fld (F_ELK_P_STAT_STATE p) = 3) : ∃ t, exec (.elkPortRetry p) s = .next t ∧
    t.fld (F_ELK_P_STAT_STATE p) = 1 ∧ t.tim.el = Nat.max s.tim.el ((s.elkPort p).lostAt + 100000000) ∧
    t.elkPort p = { s.elkPort p with lostAt := (s.elkPort p).lostAt + 100000000 } ∧ Frame [.elk, .tim, .elapsed, .working, .regs] s t := by
  have run := exec_elkPortRetry_lost hp lost
  have acts := State.portRetried_acts s p 100000000
  have el := State.portRetried_el s p 100000000
  have port := State.portRetried_port s p 100000000
  generalize s.portRetried p 100000000 = u at *
  have shown := State.setElkState_changes (acts.sound sound) hp elkWaiting
  exact ⟨_, run, (State.setElkState_shows (acts.sound sound) hp (by decide)).1, el, (State.elkPort_of_elk (shown.frame .elk (by simp)) p).trans port,
    acts.reaches.trans (shown.frame.mono (by simp))⟩

/-! Retransmission (R436). -/

theorem exec_elkRetransmitFrame_down {v : Nat} {b : Bool} (down : s.elkIsUp p = false) : exec (.elkRetransmitFrame p v b) s = .next s := by
  rw [exec_elkRetransmitFrame, execElkRetransmitFrame]
  cases (s.elkPort p).held.find? (fun e => e.vc == v) with
  | none => rfl
  | some e => exact congrArg Host.Outcome.next (if_neg (by simp [down]))

theorem exec_elkRetransmitFrame_none {v : Nat} {b : Bool} (none : ∀ e ∈ (s.elkPort p).held, e.vc ≠ v) : exec (.elkRetransmitFrame p v b) s = .next s := by
  rw [exec_elkRetransmitFrame, execElkRetransmitFrame, List.find?_eq_none.mpr (by simpa using none)]

/-- R436: when the frames after `f` are sent again: at a NAK, or 40 µs after `f` was sent. -/
def State.resendAt (s : State) (b : Bool) (f : ElkFrame) : State := if b then s else s.reachEl (f.sentAt + 40000)

theorem exec_elkRetransmitFrame_up {v : Nat} {b : Bool} {f : ElkFrame} (up : s.elkIsUp p = true) (first : (s.elkPort p).held.find? (fun e => e.vc == v) = some f) :
    exec (.elkRetransmitFrame p v b) s = .next ((s.resendAt b f).elkRetransmit p v) := by
  rw [exec_elkRetransmitFrame, execElkRetransmitFrame, first]
  exact congrArg Host.Outcome.next (if_pos up)

theorem State.resendAt_acts (s : State) (b : Bool) (f : ElkFrame) : Acts (partMask [.tim, .elapsed, .working]) s (s.resendAt b f) :=
  .ite (fun _ => .refl s) fun _ => (Acts.refl s).step (State.reachEl_acts ..) rfl

theorem State.resendAt_el (s : State) (b : Bool) (f : ElkFrame) :
    (s.resendAt b f).tim.el = if b then s.tim.el else Nat.max s.tim.el (f.sentAt + 40000) := by
  unfold State.resendAt
  split
  · rfl
  · exact State.reachEl_max ..

theorem exec_elkRetransmitFrame_sends {v : Nat} {b : Bool} {f : ElkFrame} (up : s.elkIsUp p = true)
    (first : (s.elkPort p).held.find? (fun e => e.vc == v) = some f) (few : ∀ e ∈ (s.elkPort p).held, e.vc = v → e.sends < 32) :
    ∃ t, exec (.elkRetransmitFrame p v b) s = .next t ∧ t.tim.el = (if b then s.tim.el else Nat.max s.tim.el (f.sentAt + 40000)) ∧
    s.Sends t (((s.elkPort p).held.filter (fun e => e.vc == v)).map (fun e => ⟨.elk p, .packet, frameData (s.elkPort p) e⟩)) ∧
    t.elkPort p = { s.elkPort p with held := (s.elkPort p).held.map (fun e => if e.vc = v then { e with sends := e.sends + 1, sentAt := t.tim.el } else e) } ∧
    Frame [.tim, .elapsed, .working, .elk, .regs, .out] s t := by
  have run := exec_elkRetransmitFrame_up (b := b) up first
  have reached := State.resendAt_acts s b f
  have el := State.resendAt_el s b f
  generalize s.resendAt b f = u at *
  have same : u.elkPort p = s.elkPort p := State.elkPort_of_elk (reached.frame .elk rfl) p
  rw [State.elkRetransmit_sends (by rwa [same]), same] at run
  have marked := State.setElkPort_acts u p (fun k => k.sentAgain v u.tim.el)
  have port := State.elkPort_setElkPort_self u p (fun k => k.sentAgain v u.tim.el)
  generalize u.setElkPort p (fun k => k.sentAgain v u.tim.el) = w at *
  have time : w.tim = u.tim := marked.frame .tim rfl
  obtain ⟨sends, acts⟩ := State.sendAgain_all w p (s.elkPort p) ((s.elkPort p).held.filter (fun e => e.vc == v))
  generalize ((s.elkPort p).held.filter (fun e => e.vc == v)).foldl (fun u e => u.sendAgain p (s.elkPort p) e) w = t at *
  have tim : t.tim = u.tim := (acts.frame .tim rfl).trans time
  refine ⟨t, run, by rw [tim, el], ?_, ?_, (reached.reaches.trans marked.reaches).trans acts.reaches⟩
  · rw [State.Sends, sends, show w.out = u.out from marked.frame .out rfl, show u.out = s.out from reached.frame .out rfl]
  · rw [State.elkPort_of_elk (acts.frame .elk rfl), port, same, tim]
    rfl

theorem exec_elkRetransmitFrame_lost {v : Nat} {b : Bool} (sound : s.Sound) (up : s.elkIsUp p = true)
    (many : ∃ e ∈ (s.elkPort p).held, e.vc = v ∧ 32 ≤ e.sends) : ∃ t, exec (.elkRetransmitFrame p v b) s = .next t ∧
    t.fld (F_ELK_P_STAT_STATE p) = 3 ∧ t.Alarmed 0x0501 ∧ (t.elkPort p).held = [] ∧ AlarmsBut [0x0501] s t ∧
    Frame [.alarms, .rcd, .tim, .elapsed, .working, .elk, .regs] s t := by
  obtain ⟨e, held, vc, sends⟩ := many
  obtain ⟨f, first⟩ := Option.isSome_iff_exists.mp (List.find?_isSome (p := fun e => e.vc == v).mpr ⟨e, held, by simp [vc]⟩)
  have run := exec_elkRetransmitFrame_up (b := b) up first
  have reached := State.resendAt_acts s b f
  generalize s.resendAt b f = u at *
  have same : u.elkPort p = s.elkPort p := State.elkPort_of_elk (reached.frame .elk rfl) p
  rw [State.elkRetransmit_lost ⟨e, by rwa [same], vc, sends⟩] at run
  have lost := State.losePort_lost (reached.sound sound) (State.elkIsUp_iff.mp up).1
  refine ⟨_, run, lost.state, lost.alarmed, by rw [lost.port], fun c hc => (lost.changes.alarms c hc).trans (alarm_of_acts reached rfl),
    reached.reaches.trans (lost.changes.frame.mono (by simp))⟩

/-! Frames (R435 to R438). -/

theorem exec_elkPacket_down {h : LinkHeader} {k : Packet} (down : s.elkIsUp p = false) : exec (.elkPacket p h k) s = .next s := by
  rw [exec_elkPacket, execElkPacket, if_pos (by simp [down])]

/-- R436: a frame of port `p` that fails its CRC is counted. -/
def State.brokenCounted (s : State) (p : Nat) : State := (s.bump (F_ELK_P_CRC_COUNT p)).setElkPort p (fun q => { q with crcRun := q.crcRun + 1 })

theorem State.brokenCounted_changes (sound : s.Sound) (p : Nat) : Changes [.elk, .regs] [F_ELK_P_CRC_COUNT p] [] s (s.brokenCounted p) :=
  ((Changes.refl sound).bump _ 1).acts (State.setElkPort_acts ..)

theorem State.brokenCounted_count (sound : s.Sound) (p : Nat) :
    (s.brokenCounted p).fld (F_ELK_P_CRC_COUNT p) = Nat.min 4294967295 (s.fld (F_ELK_P_CRC_COUNT p) + 1) :=
  (State.fld_of_regs (t := s.brokenCounted p) (s := s.bump (F_ELK_P_CRC_COUNT p)) rfl _).trans (State.fld_bump sound _ 1)

theorem exec_elkPacket_broken {h : LinkHeader} {k : Packet} (sound : s.Sound) (up : s.elkIsUp p = true) (bad : h.crcOk = false) :
    ∃ t, exec (.elkPacket p h k) s = .next t ∧ t.fld (F_ELK_P_CRC_COUNT p) = Nat.min 4294967295 (s.fld (F_ELK_P_CRC_COUNT p) + 1) ∧
    ((s.elkPort p).crcRun < 15 → t.elkPort p = { s.elkPort p with crcRun := (s.elkPort p).crcRun + 1 } ∧ t.elkIsUp p = true ∧ t.alarms = s.alarms) ∧
    (15 ≤ (s.elkPort p).crcRun → t.fld (F_ELK_P_STAT_STATE p) = 3 ∧ t.Alarmed 0x0501) ∧ Frame [.alarms, .rcd, .elk, .regs] s t := by
  obtain ⟨hp, -⟩ := State.elkIsUp_iff.mp up
  have run : exec (.elkPacket p h k) s =
      .next (if 16 ≤ ((s.brokenCounted p).elkPort p).crcRun then (s.brokenCounted p).losePort p else s.brokenCounted p) := by
    rw [exec_elkPacket, execElkPacket, if_neg (by simp [up]), if_pos (by simp [bad])]
    rfl
  have change := State.brokenCounted_changes sound p
  have count := State.brokenCounted_count sound p
  have port : (s.brokenCounted p).elkPort p = { s.elkPort p with crcRun := (s.elkPort p).crcRun + 1 } := State.elkPort_setElkPort_self ..
  have still : (s.brokenCounted p).elkIsUp p = true := by
    rw [State.elkIsUp_of_fld, up]
    refine change.fld _ rfl (List.forall_mem_singleton.mpr (.inl ?_))
    simp only [F_ELK_P_STAT_STATE, F_ELK_P_CRC_COUNT, A_ELK_P_STAT, A_ELK_P_CRC]
    omega
  generalize s.brokenCounted p = u at *
  rw [port] at run
  by_cases last : 15 ≤ (s.elkPort p).crcRun
  · rw [if_pos (Nat.succ_le_succ last)] at run
    have lost := State.losePort_lost change.sound hp
    refine ⟨_, run, (lost.changes.fld _ rfl ?_).trans count, fun early => absurd last (Nat.not_le.mpr early), fun _ => ⟨lost.state, lost.alarmed⟩,
      (change.frame.mono (by simp)).trans lost.changes.frame⟩
    refine List.forall_mem_append.mpr ⟨portFields_apart ?_ ?_, dropFields_apart ?_ ?_ ?_⟩
    all_goals
      simp only [F_ELK_P_CRC_COUNT, A_ELK_P_CRC, A_ELK_P_STAT, A_ELK_STATUS, A_REC_EVENT, A_ELK_EVENT, A_ELK_P_DROP]
      omega
  · rw [if_neg fun h => last (Nat.le_of_succ_le_succ h)] at run
    exact ⟨u, run, count, fun _ => ⟨port, still, change.frame .alarms (by simp)⟩, fun late => absurd late last, change.frame.mono (by simp)⟩

theorem State.elkPush_empty (empty : (s.elkPort p).queue = []) : s.elkPush p = s := by rw [State.elkPush, empty]; rfl

theorem exec_elkPacket_disordered {h : LinkHeader} {k : Packet} (up : s.elkIsUp p = true) (good : h.crcOk = true)
    (other : h.seq ≠ aget 0 (s.elkPort p).rxSeq h.vc) (empty : (s.elkPort p).queue = []) :
    ∃ t, exec (.elkPacket p h k) s = .next t ∧ t.elkPort p = (s.elkPort p).takeHeader h ∧ Frame [.elk] s t := by
  have port := State.elkPort_setElkPort_self s p (fun q => q.takeHeader h)
  have run : exec (.elkPacket p h k) s = .next (s.setElkPort p (fun q => q.takeHeader h)) := by
    rw [exec_elkPacket, execElkPacket, if_neg (by simp [up]), if_neg (by simp [good]), State.takeFrame]
    extract_lets t
    rw [if_neg (by rw [port]; exact other), State.elkPush_empty (by rw [port]; exact empty)]
  exact ⟨_, run, port, (State.setElkPort_acts ..).reaches⟩

end

/-- Settles O50. A port joins when HELLOs of both ways have been exchanged (`State.elkComesUp_joined`), and every loss of a port, however it comes about,
is `State.losePort_lost`. -/
theorem eloasetPortsComeUpRetransmitAndAreLost : Obligations.EloasetPortsComeUpRetransmitAndAreLost := by
  unfold Obligations.EloasetPortsComeUpRetransmitAndAreLost
  refine ⟨fun p s => exec_elkHelloSend_silent, fun p s sound hp on state => exec_elkHelloSend_result sound hp on state, fun p m f s => exec_elkHello_deaf,
    fun p m f s sound hp hm on down differs => exec_elkHello_other sound hp hm on down differs,
    fun p m s sound hp hm on down => exec_elkHello_result sound hp hm on down, ?lost,
    fun p v b s down => ⟨exec_elkPortLost_down down, exec_elkRetransmitFrame_down down⟩, fun p v b s => exec_elkRetransmitFrame_none,
    fun p s sound hp lost => exec_elkPortRetry_result sound hp lost, fun p s => exec_elkPortRetry_idle,
    fun p v b f s up first few => exec_elkRetransmitFrame_sends up first few, fun p v b s sound up many => exec_elkRetransmitFrame_lost sound up many,
    fun p h k s => exec_elkPacket_down, fun p h k s sound up bad => exec_elkPacket_broken sound up bad,
    fun p h k s up good other empty => exec_elkPacket_disordered up good other empty⟩
  case lost =>
    intro p s sound up
    have lost := State.losePort_lost sound (State.elkIsUp_iff.mp up).1
    exact ⟨_, exec_elkPortLost_up up, lost.state, lost.bit, by rw [lost.port], by rw [lost.port], by rw [lost.port], lost.dropped, lost.event, lost.alarmed,
      lost.others, lost.changes.alarms, lost.changes.frame⟩

end Sys2Proof.Machine

/-! Memories and register words: writes that change nothing, runs of bytes, and what a register keeps when sources are settled (R3, R4). -/
namespace Sys2Proof.Machine
set_option Elab.async false

section
variable {w : Nat} {d : Nat → BitVec w} {m : Sparse w}

/-- Writing what a key reads as changes nothing. -/
theorem memSet_memGet (hm : memWf d m = true) (a : Nat) : memSet d m a (memGet d m a) = m := by
  induction m with
  | nil => exact if_pos rfl
  | cons e m ih =>
    obtain ⟨k, u⟩ := e
    simp only [memWf, Bool.and_eq_true, bne_iff_ne] at hm
    obtain ⟨⟨used, -⟩, rest⟩ := hm
    by_cases below : a < k
    · simp [memSet, memGet, below, Nat.ne_of_gt below, memCons]
    · by_cases here : k = a
      · subst here
        simp [memSet, memGet, memCons, used]
      · simp [memSet, memGet, below, here, ih rest]

/-- A run of writes at neighbouring keys leaves the keys outside it. -/
theorem memGet_memSetRun_outside (vs : List (BitVec w)) {m : Sparse w} {a x : Nat} (hm : memWf d m = true) (outside : x < a ∨ a + vs.length ≤ x) :
    memGet d (memSetRun d 1 m a vs) x = memGet d m x := by
  induction vs generalizing m a with
  | nil => rfl
  | cons v vs ih =>
    rw [List.length_cons] at outside
    calc memGet d (memSetRun d 1 (memSet d m a v) (a + 1) vs) x
      _ = memGet d (memSet d m a v) x := ih (memWf_memSet d m a v hm) (by omega)
      _ = memGet d m x := memGet_memSet_other d m a x v hm (by omega)

/-- A memory of which only the keys of a set are left. -/
theorem memGet_filter (hm : memWf d m = true) (p : Nat → Bool) (x : Nat) :
    memGet d (m.filter (fun e => p e.1)) x = if p x then memGet d m x else d x := by
  induction m with
  | nil => simp [memGet]
  | cons e m ih =>
    obtain ⟨k, u⟩ := e
    simp only [memWf, Bool.and_eq_true] at hm
    obtain ⟨⟨-, above⟩, rest⟩ := hm
    have left : memAbove k (m.filter (fun e => p e.1)) = true := memAbove_filter d _ k m rest above
    by_cases here : k = x
    · subst here
      by_cases kept : p k = true
      · simp [kept, memGet]
      · simp [kept, memGet_below d _ k k left (Nat.le_refl k)]
    · by_cases below : x < k
      · have none : memGet d ((k, u) :: m) x = d x := by simp [memGet, here, below]
        have gone : memGet d (((k, u) :: m).filter (fun e => p e.1)) x = d x := by
          rw [List.filter_cons]
          split
          · simp [memGet, here, below]
          · exact memGet_below d _ k x left (Nat.le_of_lt below)
        rw [gone, none, ite_self]
      · rw [List.filter_cons]
        split
        · simp [memGet, here, below, ih rest]
        · simp [memGet, here, below, ih rest]

theorem memGetRun_getElem? (m : Sparse w) (a : Nat) : ∀ {n k : Nat}, k < n → (memGetRun d 1 m a n)[k]? = some (memGet d m (a + k)) := by
  intro n k hk
  induction n generalizing a k with
  | zero => omega
  | succ n ih =>
    cases k with
    | zero => rfl
    | succ k => rw [memGetRun, List.getElem?_cons_succ, ih (a + 1) (by omega), Nat.add_assoc, Nat.add_comm 1]

theorem memGetRun_length (m : Sparse w) (a n : Nat) : (memGetRun d 1 m a n).length = n := by
  induction n generalizing a with
  | zero => rfl
  | succ n ih => rw [memGetRun, List.length_cons, ih]

/-- What a run of neighbouring keys reads as, once it is written. -/
theorem memGetRun_memSetRun (hm : memWf d m = true) (a : Nat) (vs : List (BitVec w)) : memGetRun d 1 (memSetRun d 1 m a vs) a vs.length = vs := by
  refine List.ext_getElem (memGetRun_length ..) fun k _ hk => ?_
  have written := memGet_memSetRun d (by decide : 0 < 1) (a := a) hm (List.getElem?_eq_getElem hk)
  have read := memGetRun_getElem? (d := d) (memSetRun d 1 m a vs) a hk
  rw [Nat.one_mul] at written
  rw [written] at read
  exact (List.getElem?_eq_some_iff.mp read).2

end

/-! Register words (R4). -/

theorem State.setReg_reg {s : State} (sound : s.Sound) (a : Nat) : s.setReg a (s.reg a) = s := by
  rw [State.setReg, State.reg, memSet_memGet sound.canonical.1]

theorem fieldIn_fieldOf (w : Word) (f : Fld) : fieldIn w f (fieldOf w f) = w := by
  have cut : fieldOf w f % 2 ^ (f.hi + 1 - f.lo) = fieldOf w f := Nat.mod_mod ..
  have low : fieldOf w f * 2 ^ f.lo ≤ w.toNat := (Nat.mul_le_mul_right _ (Nat.mod_le ..)).trans (Nat.div_mul_le_self ..)
  rw [fieldIn, cut, Nat.sub_add_cancel low, BitVec.ofNat_toNat, BitVec.setWidth_eq]

/-- R4: a W1C field that is not written 1 stays. -/
theorem writeField_w1c_zero {l : Bool} {v w : Word} {hi lo : Nat} (zero : fieldOf v ⟨0, hi, lo⟩ = 0) : writeField l v w (hi, lo, .w1c) = w := by
  have kept : fieldOf w ⟨0, hi, lo⟩ &&& fieldMax ⟨0, hi, lo⟩ = fieldOf w ⟨0, hi, lo⟩ := by
    rw [fieldMax, Nat.and_two_pow_sub_one_eq_mod]
    exact Nat.mod_mod ..
  rw [writeField, zero, Nat.sub_zero, kept]
  exact fieldIn_fieldOf ..

theorem State.typedWrite_row {s : State} {a : Nat} {r : RegRow} (row : regAt a = some r) (plain : roCompare a = false) (v : Word) :
    s.typedWrite a v = s.setReg a (r.fields.foldl (fun w f => writeField s.locked v w f) (s.reg a)) := by
  rw [State.typedWrite, row]
  simp only [plain, Bool.false_eq_true, if_false]

theorem State.setReg_sameReg {s : State} (sound : s.Sound) {a b : Nat} (w : Word) (other : b ≠ a) : (s.setReg a w).reg b = s.reg b := by
  rw [reg_setReg sound, if_neg other]

theorem State.settleSources_reg {s : State} (sound : s.Sound) {a : Nat} (h : a < A_INTC_SRC_CFG 0 ∨ A_INTC_SRC_CFG 384 ≤ a) :
    s.settleSources.reg a = s.reg a := (State.settleSources_sameSources sound).reg a h

theorem State.settleSources_fld {s : State} (sound : s.Sound) {f : Fld} (h : f.addr < A_INTC_SRC_CFG 0 ∨ A_INTC_SRC_CFG 384 ≤ f.addr) :
    s.settleSources.fld f = s.fld f := by rw [State.fld, State.fld, State.settleSources_reg sound h]

theorem State.settleSources_flag {s : State} (sound : s.Sound) {f : Fld} (h : f.addr < A_INTC_SRC_CFG 0 ∨ A_INTC_SRC_CFG 384 ≤ f.addr) :
    s.settleSources.flag f = s.flag f := by rw [State.flag, State.flag, State.settleSources_fld sound h]

theorem State.settleSources_edge {s : State} (sound : s.Sound) : s.settleSources.intc.edge = s.intc.edge := (State.settleSources_sameSources sound).edge

end Sys2Proof.Machine

/-! The flash window: its commands and what they leave at completion (R61 to R63). -/
namespace Sys2Proof.Machine
set_option Elab.async false

section
variable {s t : State} {m c : Nat} {v : Word} {i : Instr}

/-! An access completes (R470). -/

theorem State.complete_fld (s : State) (m : Nat) (w : Bool) (a k : Nat) (v : Word) (f : Fld) : (s.complete m w a k v).fld f = s.fld f := rfl

theorem State.complete_flag (s : State) (m : Nat) (w : Bool) (a k : Nat) (v : Word) (f : Fld) : (s.complete m w a k v).flag f = s.flag f := rfl

theorem State.complete_alarm (s : State) (m : Nat) (w : Bool) (a k : Nat) (v : Word) (c : Nat) : (s.complete m w a k v).alarm? c = s.alarm? c := rfl

/-! A command (R61). -/

theorem regAt_flw : regAt A_KPR_FLW_CTRL = some ⟨A_KPR_FLW_CTRL, [], [(10, 10, .w1c), (9, 9, .w1c), (8, 8, .ro), (1, 0, .wo)]⟩ := by decide +kernel

/-- R61: a command by itself leaves REJECT and ERR. -/
theorem State.typedWrite_flw (sound : s.Sound) (reject : fieldOf v ⟨0, 10, 10⟩ = 0) (err : fieldOf v ⟨0, 9, 9⟩ = 0) : s.typedWrite A_KPR_FLW_CTRL v = s := by
  rw [State.typedWrite_row regAt_flw (by decide)]
  simp only [List.foldl_cons, List.foldl_nil, writeField_w1c_zero reject, writeField_w1c_zero err]
  exact State.setReg_reg sound _

/-- A command of the flash window, as KPR_FLW_CTRL carries it. -/
structure FlashWord (c : Nat) (v : Word) : Prop where
  value : v.toNat = c
  command : bits v 1 0 = c
  some : c ≠ 0
  reject : fieldOf v ⟨0, 10, 10⟩ = 0
  err : fieldOf v ⟨0, 9, 9⟩ = 0

theorem State.flwWrite_eq (sound : s.Sound) (word : FlashWord c v) : s.flwWrite v = (s.flashCommand c).settleSources := by
  rw [State.flwWrite, State.typedWrite_flw sound word.reject word.err, word.command]

theorem exec_flash_rejected (sound : s.Sound) (word : FlashWord c v) (run : exec i s = .next ((s.flwWrite v).complete m true A_KPR_FLW_CTRL accOk v))
    (rejects : s.flashRejects c (s.fld F_KPR_FLW_ADDR_ADDR) = true) : ∃ t, exec i s = .next t ∧ t.flag F_KPR_FLW_CTRL_REJECT = true ∧ t.Alarmed 0x010B ∧
      AlarmsBut [0x010B] s t ∧ s.Sends t [⟨.access m, .write, [A_KPR_FLW_CTRL, 0, c]⟩] ∧ Frame [.alarms, .rcd, .intc, .regs, .out] s t := by
  have command : s.flashCommand c = (s.setFlag F_KPR_FLW_CTRL_REJECT true).raise 0x010B := by
    rw [State.flashCommand]
    exact (if_neg word.some).trans (if_pos rejects)
  rw [State.flwWrite_eq sound word, command] at run
  have change : Changes [.alarms, .rcd, .regs] (F_KPR_FLW_CTRL_REJECT :: recFields) [0x010B] s ((s.setFlag F_KPR_FLW_CTRL_REJECT true).raise 0x010B) :=
    ((Changes.refl sound).setFlag _ _).raise _ _
  have alarmed : ((s.setFlag F_KPR_FLW_CTRL_REJECT true).raise 0x010B).Alarmed 0x010B := (alarm_raise ..).trans (if_pos rfl)
  have shown : ((s.setFlag F_KPR_FLW_CTRL_REJECT true).raise 0x010B).flag F_KPR_FLW_CTRL_REJECT = true :=
    (flag_raise (sound.setFlag ..) _ _ _ (by decide) (by decide)).trans (flag_setFlag sound _ _ rfl)
  generalize (s.setFlag F_KPR_FLW_CTRL_REJECT true).raise 0x010B = u at *
  have settled := State.settleSources_acts u
  have flag := (State.settleSources_flag change.sound (f := F_KPR_FLW_CTRL_REJECT) (.inl (by decide))).trans shown
  have alarms (a : Nat) : u.settleSources.alarm? a = u.alarm? a := alarm_of_acts settled rfl
  have out : u.settleSources.out = s.out := (settled.frame .out rfl).trans (change.frame .out (by simp))
  have sends := State.Sends.complete out m true A_KPR_FLW_CTRL accOk v
  rw [word.value] at sends
  refine ⟨_, run, by rw [State.complete_flag, flag], ?_, fun a ha => ?_, sends, ?_⟩
  · rw [State.Alarmed, State.complete_alarm, alarms]
    exact alarmed
  · rw [State.complete_alarm, alarms, change.alarms a ha]
  · exact (change.frame.mono (by simp)).trans (settled.reaches.trans (State.complete_acts ..).reaches)

theorem exec_flash_started (sound : s.Sound) (word : FlashWord c v) (run : exec i s = .next ((s.flwWrite v).complete m true A_KPR_FLW_CTRL accOk v))
    (accepts : s.flashRejects c (s.fld F_KPR_FLW_ADDR_ADDR) = false) : ∃ t, exec i s = .next t ∧ t.flag F_KPR_FLW_CTRL_BUSY = true ∧
      t.flashCmd = some ⟨c, s.fld F_KPR_FLW_ADDR_ADDR, wordsBytes (s.regRun (A_KPR_FLW_BUF 0) 64)⟩ ∧
      s.Sends t [⟨.access m, .write, [A_KPR_FLW_CTRL, 0, c]⟩] ∧ Frame [.intc, .flashCmd, .regs, .out] s t := by
  have command : s.flashCommand c =
      { s with flashCmd := some ⟨c, s.fld F_KPR_FLW_ADDR_ADDR, wordsBytes (s.regRun (A_KPR_FLW_BUF 0) 64)⟩ }.setFlag F_KPR_FLW_CTRL_BUSY true := by
    rw [State.flashCommand]
    exact (if_neg word.some).trans (if_neg (by simp [accepts]))
  rw [State.flwWrite_eq sound word, command] at run
  generalize some (FlashCmd.mk c (s.fld F_KPR_FLW_ADDR_ADDR) (wordsBytes (s.regRun (A_KPR_FLW_BUF 0) 64))) = f at *
  have taken : Acts (partMask [.flashCmd]) s { s with flashCmd := f } := Acts.upd_flashCmd (.refl s) rfl
  have held : ({ s with flashCmd := f } : State).flashCmd = f := rfl
  generalize ({ s with flashCmd := f } : State) = u at *
  have busy := State.setFlag_acts u F_KPR_FLW_CTRL_BUSY true
  have shown : (u.setFlag F_KPR_FLW_CTRL_BUSY true).flag F_KPR_FLW_CTRL_BUSY = true := flag_setFlag (taken.sound sound) _ _ rfl
  generalize u.setFlag F_KPR_FLW_CTRL_BUSY true = w at *
  have settled := State.settleSources_acts w
  have cmd : w.settleSources.flashCmd = f := ((settled.frame .flashCmd rfl).trans (busy.frame .flashCmd rfl)).trans held
  have out : w.settleSources.out = s.out := ((settled.frame .out rfl).trans (busy.frame .out rfl)).trans (taken.frame .out rfl)
  have sends := State.Sends.complete out m true A_KPR_FLW_CTRL accOk v
  rw [word.value] at sends
  refine ⟨_, run, ?_, by rw [State.complete_flashCmd, cmd], sends, ?_⟩
  · rw [State.complete_flag, State.settleSources_flag (busy.sound (taken.sound sound)) (.inl (by decide)), shown]
  · exact (taken.reaches.trans busy.reaches).trans (settled.reaches.trans (State.complete_acts ..).reaches)

theorem flashWord_erase : FlashWord 1 1#32 := ⟨rfl, rfl, by decide, rfl, rfl⟩
theorem flashWord_program : FlashWord 2 2#32 := ⟨rfl, rfl, by decide, rfl, rfl⟩
theorem flashWord_read : FlashWord 3 3#32 := ⟨rfl, rfl, by decide, rfl, rfl⟩

/-! Completion (R62). -/

/-- R62: the end of a command whose effect left `s`. -/
def State.flashEnded (s : State) : State :=
  let t := ({ s with flashCmd := none }).setFlag F_KPR_FLW_CTRL_BUSY false
  ({ t with intc := { t.intc with edge := insertNew t.intc.edge 29 } }).settleSources

theorem exec_flashCommandDone_some {k : FlashCmd} {b : Bool} (command : s.flashCmd = some k) :
    exec (.flashCommandDone b) s = .next (s.flashEffect k b).flashEnded := by
  rw [exec_flashCommandDone, execFlashCommandDone, command]
  rfl

theorem exec_flashCommandDone_none {b : Bool} (command : s.flashCmd = none) : exec (.flashCommandDone b) s = .next s := by
  rw [exec_flashCommandDone, execFlashCommandDone, command]

/-- R62: what stands at the end of every command. -/
structure FlashEnd (s t : State) : Prop where
  frame : Frame [.intc, .flashCmd, .regs] s t
  done : t.flashCmd = none
  idle : t.flag F_KPR_FLW_CTRL_BUSY = false
  edge : 29 ∈ t.intc.edge
  reg : ∀ a, a ≠ A_KPR_FLW_CTRL → a < A_INTC_SRC_CFG 0 → t.reg a = s.reg a
  err : t.flag F_KPR_FLW_CTRL_ERR = s.flag F_KPR_FLW_CTRL_ERR

theorem State.flashEnded_end (sound : s.Sound) : FlashEnd s s.flashEnded := by
  have cleared : Acts (partMask [.flashCmd]) s { s with flashCmd := none } := Acts.upd_flashCmd (.refl s) rfl
  have idle : ({ s with flashCmd := none } : State).flashCmd = none := rfl
  have regs : ({ s with flashCmd := none } : State).regs = s.regs := rfl
  unfold State.flashEnded
  generalize ({ s with flashCmd := none } : State) = u at *
  have clean := cleared.sound sound
  have flag := State.setFlag_acts u F_KPR_FLW_CTRL_BUSY false
  have shown : (u.setFlag F_KPR_FLW_CTRL_BUSY false).flag F_KPR_FLW_CTRL_BUSY = false := flag_setFlag clean _ _ rfl
  have err : (u.setFlag F_KPR_FLW_CTRL_BUSY false).flag F_KPR_FLW_CTRL_ERR = s.flag F_KPR_FLW_CTRL_ERR :=
    (flag_setFlag_other clean _ _ _ rfl rfl (.inr (by decide))).trans (State.flag_of_regs regs _)
  have reg (a : Nat) (ha : a ≠ A_KPR_FLW_CTRL) : (u.setFlag F_KPR_FLW_CTRL_BUSY false).reg a = s.reg a := by
    refine (State.setReg_sameReg clean _ ha).trans ?_
    rw [State.reg, regs, State.reg]
  generalize u.setFlag F_KPR_FLW_CTRL_BUSY false = w at *
  have latched : Acts (partMask [.intc]) w { w with intc := { w.intc with edge := insertNew w.intc.edge 29 } } := Acts.upd_intc (.refl w) rfl
  have edge : 29 ∈ ({ w with intc := { w.intc with edge := insertNew w.intc.edge 29 } } : State).intc.edge := mem_insertNew.mpr (.inr rfl)
  have same : ({ w with intc := { w.intc with edge := insertNew w.intc.edge 29 } } : State).regs = w.regs := rfl
  show FlashEnd s (State.settleSources { w with intc := { w.intc with edge := insertNew w.intc.edge 29 } })
  generalize ({ w with intc := { w.intc with edge := insertNew w.intc.edge 29 } } : State) = x at *
  have ready := latched.sound (flag.sound clean)
  have settled := State.settleSources_acts x
  refine ⟨(cleared.reaches.trans flag.reaches).trans (latched.reaches.trans settled.reaches), ?_, ?_, ?_, fun a ha low => ?_, ?_⟩
  · exact (settled.frame .flashCmd rfl).trans ((latched.frame .flashCmd rfl).trans ((flag.frame .flashCmd rfl).trans idle))
  · rw [State.settleSources_flag ready (.inl (by decide)), State.flag_of_regs same, shown]
  · rw [State.settleSources_edge ready]
    exact edge
  · rw [State.settleSources_reg ready (.inl low), State.reg, same]
    exact reg a ha
  · rw [State.settleSources_flag ready (.inl (by decide)), State.flag_of_regs same, err]

/-! Effects (R61, R62). -/

theorem State.flashEffect_erase (a : Nat) (p : List Byte) :
    s.flashEffect ⟨1, a, p⟩ false = { s with flash := s.flash.filter (fun e => e.1 < a || a + 65536 ≤ e.1) } := rfl

theorem State.flashEffect_program (a : Nat) (p : List Byte) : s.flashEffect ⟨2, a, p⟩ false =
    { s with flash := memSetRun erasedCell 1 s.flash a (programmed (memGetRun erasedCell 1 s.flash a 256) p s.freeCtr), freeCtr := s.freeCtr + 256 } := rfl

theorem State.flashEffect_read (a : Nat) (p : List Byte) (b : Bool) :
    s.flashEffect ⟨3, a, p⟩ b = s.setRegs (A_KPR_FLW_BUF 0) (bytesWords (memGetRun erasedCell 1 s.flash a 256)) := rfl

/-- The length of what a failed erase or program leaves unknown. -/
def failedLength (c : Nat) : Nat := if c = 1 then 65536 else 256

theorem State.flashEffect_failed (hc : c = 1 ∨ c = 2) (a : Nat) (p : List Byte) :
    s.flashEffect ⟨c, a, p⟩ true = (s.flashUnknown a (failedLength c)).setFlag F_KPR_FLW_CTRL_ERR true := by
  obtain rfl | rfl := hc <;> rfl

/-- R61: a byte that was erased, or held its value, is programmed. -/
theorem programmed_getElem? {old new : List Byte} {n k : Nat} {x b : Byte} (before : old[k]? = some x) (after : new[k]? = some b) (fits : x = 0xFF#8 ∨ x = b) :
    (programmed old new n)[k]? = some b := by
  have both : (old.zip new)[k]? = some (x, b) := List.getElem?_zip_eq_some.mpr ⟨before, after⟩
  rw [programmed, List.getElem?_mapIdx, both]
  obtain rfl | rfl := fits <;> simp

theorem programmed_length {old new : List Byte} (n : Nat) (same : old.length = new.length) : (programmed old new n).length = old.length := by
  rw [programmed, List.length_mapIdx, List.length_zip, same, Nat.min_self]

/-! Results at completion. -/

theorem exec_flashCommandDone_ends {k : FlashCmd} (b : Bool) (sound : s.Sound) (command : s.flashCmd = some k) :
    ∃ t, exec (.flashCommandDone b) s = .next t ∧ FlashEnd (s.flashEffect k b) t :=
  ⟨_, exec_flashCommandDone_some command, State.flashEnded_end ((State.flashEffect_acts s k b).sound sound)⟩

theorem exec_flashCommandDone_erase {a : Nat} {p : List Byte} (sound : s.Sound) (command : s.flashCmd = some ⟨1, a, p⟩) :
    ∃ t, exec (.flashCommandDone false) s = .next t ∧ t.flashCmd = none ∧ t.flag F_KPR_FLW_CTRL_BUSY = false ∧ 29 ∈ t.intc.edge ∧
    (∀ x, memGet erasedCell t.flash x = if a ≤ x ∧ x < a + 65536 then 0xFF#8 else memGet erasedCell s.flash x) ∧
    Frame [.intc, .flashCmd, .regs, .flash] s t := by
  obtain ⟨t, run, ended⟩ := exec_flashCommandDone_ends false sound command
  have only : Frame [.flash] s (s.flashEffect ⟨1, a, p⟩ false) := by
    intro q hq
    cases q <;> first | rfl | simp at hq
  have flash : t.flash = s.flash.filter (fun e => e.1 < a || a + 65536 ≤ e.1) := ended.frame .flash (by simp)
  refine ⟨t, run, ended.done, ended.idle, ended.edge, fun x => ?_, (only.mono (by simp)).trans (ended.frame.mono (by simp))⟩
  rw [flash, memGet_filter sound.canonical.2.2.1 (fun k => k < a || a + 65536 ≤ k)]
  by_cases inside : a ≤ x ∧ x < a + 65536
  · rw [if_pos inside, if_neg (by simp only [Bool.or_eq_true, decide_eq_true_eq]; omega)]
    rfl
  · rw [if_neg inside, if_pos (by simp only [Bool.or_eq_true, decide_eq_true_eq]; omega)]

theorem exec_flashCommandDone_program {a : Nat} {p : List Byte} (sound : s.Sound) (command : s.flashCmd = some ⟨2, a, p⟩) (page : p.length = 256) :
    ∃ t, exec (.flashCommandDone false) s = .next t ∧ t.flashCmd = none ∧ t.flag F_KPR_FLW_CTRL_BUSY = false ∧ 29 ∈ t.intc.edge ∧
    (∀ k b, p[k]? = some b → memGet erasedCell s.flash (a + k) = 0xFF#8 ∨ memGet erasedCell s.flash (a + k) = b → memGet erasedCell t.flash (a + k) = b) ∧
    (∀ x, x < a ∨ a + 256 ≤ x → memGet erasedCell t.flash x = memGet erasedCell s.flash x) ∧ Frame [.intc, .flashCmd, .regs, .flash, .freeCtr] s t := by
  obtain ⟨t, run, ended⟩ := exec_flashCommandDone_ends false sound command
  have only : Frame [.flash, .freeCtr] s (s.flashEffect ⟨2, a, p⟩ false) := by
    intro q hq
    cases q <;> first | rfl | simp at hq
  have flash : t.flash = memSetRun erasedCell 1 s.flash a (programmed (memGetRun erasedCell 1 s.flash a 256) p s.freeCtr) := ended.frame .flash (by simp)
  have wf : memWf erasedCell s.flash = true := sound.canonical.2.2.1
  refine ⟨t, run, ended.done, ended.idle, ended.edge, fun k b written fits => ?_, fun x outside => ?_, (only.mono (by simp)).trans (ended.frame.mono (by simp))⟩
  · have hk : k < 256 := page ▸ (List.getElem?_eq_some_iff.mp written).1
    have entry := memGet_memSetRun erasedCell (by decide : 0 < 1) (a := a) wf
      (programmed_getElem? (n := s.freeCtr) (memGetRun_getElem? (d := erasedCell) s.flash a hk) written fits)
    rw [Nat.one_mul] at entry
    rw [flash, entry]
  · rw [flash, memGet_memSetRun_outside _ wf (by rwa [programmed_length _ ((memGetRun_length ..).trans page.symm), memGetRun_length])]

theorem exec_flashCommandDone_page {a : Nat} {p : List Byte} {b : Bool} (sound : s.Sound) (command : s.flashCmd = some ⟨3, a, p⟩) :
    ∃ t, exec (.flashCommandDone b) s = .next t ∧ t.flashCmd = none ∧ t.flag F_KPR_FLW_CTRL_BUSY = false ∧ 29 ∈ t.intc.edge ∧
    (∀ k < 64, t.reg (A_KPR_FLW_BUF k) = BitVec.ofNat 32 (leNat (memGetRun erasedCell 1 s.flash (a + 4 * k) 4))) ∧ Frame [.intc, .flashCmd, .regs] s t := by
  obtain ⟨t, run, ended⟩ := exec_flashCommandDone_ends b sound command
  have only : Frame [.regs] s (s.flashEffect ⟨3, a, p⟩ b) := (State.setRegs_acts ..).reaches
  exact ⟨t, run, ended.done, ended.idle, ended.edge, fun k hk => execFlashCommandDone_read sound command run hk,
    (only.mono (by simp)).trans (ended.frame.mono (by simp))⟩

theorem exec_flashCommandDone_failed {a : Nat} {p : List Byte} (sound : s.Sound) (hc : c = 1 ∨ c = 2) (command : s.flashCmd = some ⟨c, a, p⟩) :
    ∃ t, exec (.flashCommandDone true) s = .next t ∧
    t.flashCmd = none ∧ t.flag F_KPR_FLW_CTRL_BUSY = false ∧ t.flag F_KPR_FLW_CTRL_ERR = true ∧ 29 ∈ t.intc.edge ∧
    (∀ x, x < a ∨ a + (if c = 1 then 65536 else 256) ≤ x → memGet erasedCell t.flash x = memGet erasedCell s.flash x) ∧
    Frame [.intc, .flashCmd, .regs, .flash, .freeCtr] s t := by
  obtain ⟨t, run, ended⟩ := exec_flashCommandDone_ends true sound command
  have lost := State.flashUnknown_acts s a (failedLength c)
  have marked := State.setFlag_acts (s.flashUnknown a (failedLength c)) F_KPR_FLW_CTRL_ERR true
  rw [State.flashEffect_failed hc] at ended
  have err : t.flag F_KPR_FLW_CTRL_ERR = true := ended.err.trans (flag_setFlag (lost.sound sound) _ _ rfl)
  have flash : t.flash = (s.flashUnknown a (failedLength c)).flash := (ended.frame .flash (by simp)).trans (marked.frame .flash rfl)
  refine ⟨t, run, ended.done, ended.idle, err, ended.edge, fun x outside => ?_, (lost.reaches.trans marked.reaches).trans (ended.frame.mono (by simp))⟩
  rw [flash]
  exact memGet_memSetRun_outside _ sound.canonical.2.2.1 (by rwa [List.length_map, List.length_range])

theorem State.flashRejects_iff (a : Nat) : s.locked = false ∨ s.flag F_KPR_FLW_CTRL_BUSY = true ∨ 2 * slotSize ≤ a ∨ (s.pat.loaded = true ∧ s.pat.slot = slotOf a) ∨
    (c = 1 ∧ a % 65536 ≠ 0) ∨ (c ≠ 1 ∧ a % 256 ≠ 0) ↔ s.flashRejects c a = true := by
  have grain : (c = 1 ∧ a % 65536 ≠ 0) ∨ (c ≠ 1 ∧ a % 256 ≠ 0) ↔ (if c = 1 then a % 65536 != 0 else a % 256 != 0) = true := by
    split <;> simp [*]
  rw [grain, State.flashRejects]
  simp only [Bool.or_eq_true, Bool.and_eq_true, Bool.not_eq_true', decide_eq_true_eq, beq_iff_eq, or_assoc]

end

/-- Settles O45. A command with neither REJECT nor ERR written 1 leaves KPR_FLW_CTRL as it is (`State.typedWrite_flw`), and every end of a command is
`State.flashEnded_end`. -/
theorem flashCommandsWaitAndTakeTheirEffectAtCompletion : Obligations.FlashCommandsWaitAndTakeTheirEffectAtCompletion := by
  unfold Obligations.FlashCommandsWaitAndTakeTheirEffectAtCompletion
  refine ⟨fun m s sound access => ?erase, fun m s sound access => ?program, fun m s sound access => ?read, fun c a s => State.flashRejects_iff a,
    fun a p s sound command => exec_flashCommandDone_erase sound command, fun a p s sound command page => exec_flashCommandDone_program sound command page,
    fun a p b s sound command => exec_flashCommandDone_page sound command, fun a c p s sound hc command => exec_flashCommandDone_failed sound hc command,
    fun b s command => exec_flashCommandDone_none command⟩
  case erase =>
    have run : exec (.flashErase m) s = .next ((s.flwWrite 1#32).complete m true A_KPR_FLW_CTRL accOk 1#32) := by
      rw [exec_flashErase, execFlashErase, State.commandWrite_of_mayAccess access]
    exact ⟨exec_flash_rejected sound flashWord_erase run, exec_flash_started sound flashWord_erase run⟩
  case program =>
    have run : exec (.flashProgram m) s = .next ((s.flwWrite 2#32).complete m true A_KPR_FLW_CTRL accOk 2#32) := by
      rw [exec_flashProgram, execFlashProgram, State.commandWrite_of_mayAccess access]
    exact ⟨exec_flash_rejected sound flashWord_program run, exec_flash_started sound flashWord_program run⟩
  case read =>
    have run : exec (.flashRead m) s = .next ((s.flwWrite 3#32).complete m true A_KPR_FLW_CTRL accOk 3#32) := by
      rw [exec_flashRead, execFlashRead, State.commandWrite_of_mayAccess access]
    exact ⟨exec_flash_rejected sound flashWord_read run, exec_flash_started sound flashWord_read run⟩

end Sys2Proof.Machine

/-! Refused accesses: what every refusal records and counts (R470, R471). -/
namespace Sys2Proof.Machine
set_option Elab.async false

theorem State.fld_word32 (s : State) (a : Nat) : s.fld (word32 a) = (s.reg a).toNat := by
  show (s.reg a).toNat / 2 ^ 0 % 2 ^ 32 = _
  rw [Nat.pow_zero, Nat.div_one, Nat.mod_eq_of_lt (s.reg a).isLt]

/-- A register of which no field changes. -/
theorem Changes.reg {ps : List Part} {fs : List Fld} {cs : List Nat} {s t : State} (h : Changes ps fs cs s t) (a : Nat)
    (apart : ∀ f ∈ fs, a ≠ f.addr := by decide) : t.reg a = s.reg a := by
  have same : t.fld (word32 a) = s.fld (word32 a) := h.fields _ rfl fun f hf => .inl (apart f hf)
  exact BitVec.eq_of_toNat_eq (by rw [← State.fld_word32, ← State.fld_word32, same])

theorem State.flag_of_fld {s t : State} {f : Fld} (same : t.fld f = s.fld f) : t.flag f = s.flag f := by rw [State.flag, State.flag, same]

section
variable {s t : State} {m r a : Nat} {w : Bool}

/-- The registers that a refusal writes. -/
def refuseFields : List Fld :=
  F_ACC_EVENT_VIOL :: F_ACC_EVENT_FW_VIOL :: word32 A_ACC_VIOL_CNT :: word32 A_ACC_VIOL :: word32 A_ACC_VIOL_ADDR :: recFields

/-- What ACC_VIOL says of a refused access. -/
def violWord (m r : Nat) (w : Bool) : Word := BitVec.ofNat 32 (m % 32 + 65536 * bit w + 1048576 * r)

/-- R470: the first refusal since VIOL was cleared is recorded. -/
def State.noteViolation (s : State) (r m a : Nat) (w : Bool) : State :=
  if s.flag F_ACC_EVENT_VIOL then s else (s.setReg A_ACC_VIOL (violWord m r w)).setReg A_ACC_VIOL_ADDR (toWord a)

/-- R470: the alarm 0x0F01, at most once per master and second. -/
def State.alarmViolation (s : State) (r m a : Nat) : State :=
  if s.limited s.acl.alarmAt m sec then
    ({ s with acl := { s.acl with alarmAt := aset s.acl.alarmAt m s.tim.el } }).raise 0x0F01 (pay [m, r, a])
  else s

theorem State.recordRefusal_eq (s : State) (r m a : Nat) (w : Bool) : s.recordRefusal r m a w =
    (((s.noteViolation r m a w).event F_ACC_EVENT_VIOL).bump (word32 A_ACC_VIOL_CNT)).alarmViolation r m a := rfl

theorem State.noteViolation_changes (sound : s.Sound) : Changes [.regs] [word32 A_ACC_VIOL, word32 A_ACC_VIOL_ADDR] [] s (s.noteViolation r m a w) :=
  .ite (fun _ => .refl sound) fun _ => ((Changes.refl sound).setReg _ _).setReg _ _

theorem State.noteViolation_first (sound : s.Sound) (first : s.flag F_ACC_EVENT_VIOL = false) :
    (s.noteViolation r m a w).reg A_ACC_VIOL = violWord m r w ∧ (s.noteViolation r m a w).reg A_ACC_VIOL_ADDR = toWord a := by
  have written := sound.setReg A_ACC_VIOL (violWord m r w)
  rw [State.noteViolation, if_neg (by simp [first]), reg_setReg written, reg_setReg written, if_neg (by decide), if_pos rfl, reg_setReg sound, if_pos rfl]
  exact ⟨rfl, rfl⟩

theorem State.noteViolation_later (later : s.flag F_ACC_EVENT_VIOL = true) : s.noteViolation r m a w = s := if_pos later

theorem State.alarmViolation_changes (sound : s.Sound) : Changes [.alarms, .rcd, .acl, .regs] recFields [0x0F01] s (s.alarmViolation r m a) :=
  .ite (fun _ => ((Changes.refl sound).upd _).raise _ _) fun _ => .refl sound

theorem State.alarmViolation_first (none : afind s.acl.alarmAt m = none) : (s.alarmViolation r m a).Alarmed 0x0F01 := by
  have due : s.limited s.acl.alarmAt m sec = true := by rw [State.limited, none]
  rw [State.alarmViolation, if_pos due]
  exact (alarm_raise ..).trans (if_pos rfl)

theorem State.showFault_changes (sound : s.Sound) :
    Changes [.alarms, .rcd, .twn, .regs] (F_ACC_EVENT_FW_VIOL :: recFields) [0x0F02] s (s.showFault r m a) :=
  (((Changes.refl sound).upd { s with twn := { s.twn with selfE := true } }).event _).raise _ _

/-- R470, R471: what stands after a refusal. -/
structure RefusalRecorded (s t : State) (m r a : Nat) (w : Bool) : Prop where
  changes : Changes [.alarms, .rcd, .acl, .twn, .regs] refuseFields [0x0F01, 0x0F02] s t
  viol : t.flag F_ACC_EVENT_VIOL = true
  count : t.fld (word32 A_ACC_VIOL_CNT) = Nat.min 4294967295 (s.fld (word32 A_ACC_VIOL_CNT) + 1)
  first : s.flag F_ACC_EVENT_VIOL = false → t.reg A_ACC_VIOL = violWord m r w ∧ t.reg A_ACC_VIOL_ADDR = toWord a
  later : s.flag F_ACC_EVENT_VIOL = true → t.reg A_ACC_VIOL = s.reg A_ACC_VIOL ∧ t.reg A_ACC_VIOL_ADDR = s.reg A_ACC_VIOL_ADDR
  alarmed : afind s.acl.alarmAt m = none → t.Alarmed 0x0F01
  twn : t.twn = s.twn

/-- R470: what every refusal records. -/
theorem State.recordRefusal_refusal (sound : s.Sound) : RefusalRecorded s (s.recordRefusal r m a w) m r a w := by
  rw [State.recordRefusal_eq]
  have noted := State.noteViolation_changes (r := r) (m := m) (a := a) (w := w) sound
  have first := State.noteViolation_first (r := r) (m := m) (a := a) (w := w) sound
  have later (h : s.flag F_ACC_EVENT_VIOL = true) := State.noteViolation_later (r := r) (m := m) (a := a) (w := w) h
  generalize s.noteViolation r m a w = u at *
  have counted : Changes [.regs] [F_ACC_EVENT_VIOL, word32 A_ACC_VIOL_CNT] [] u ((u.event F_ACC_EVENT_VIOL).bump (word32 A_ACC_VIOL_CNT)) :=
    ((Changes.refl noted.sound).event _).bump _ 1
  have evented := noted.sound.event F_ACC_EVENT_VIOL
  have viol : ((u.event F_ACC_EVENT_VIOL).bump (word32 A_ACC_VIOL_CNT)).flag F_ACC_EVENT_VIOL = true :=
    (State.flag_of_fld (fld_setFld_other evented _ _ _ rfl rfl (.inl (by decide)))).trans (flag_event noted.sound _ rfl)
  have count : ((u.event F_ACC_EVENT_VIOL).bump (word32 A_ACC_VIOL_CNT)).fld (word32 A_ACC_VIOL_CNT) =
      Nat.min 4294967295 (s.fld (word32 A_ACC_VIOL_CNT) + 1) := by
    have kept : (u.event F_ACC_EVENT_VIOL).fld (word32 A_ACC_VIOL_CNT) = s.fld (word32 A_ACC_VIOL_CNT) :=
      (fld_setFld_other noted.sound _ _ _ rfl rfl (.inl (by decide))).trans (noted.fld _)
    exact (State.fld_bump evented _ 1).trans (by rw [kept]; rfl)
  have violReg := counted.reg A_ACC_VIOL
  have addrReg := counted.reg A_ACC_VIOL_ADDR
  generalize (u.event F_ACC_EVENT_VIOL).bump (word32 A_ACC_VIOL_CNT) = v at *
  have told := State.alarmViolation_changes (r := r) (m := m) (a := a) counted.sound
  have acl : v.acl = s.acl := (counted.frame .acl (by simp)).trans (noted.frame .acl (by simp))
  have whole : Changes [.alarms, .rcd, .acl, .twn, .regs] refuseFields [0x0F01, 0x0F02] s (v.alarmViolation r m a) :=
    ((noted.mono (hf := by simp [refuseFields]) (hc := by simp)).trans (counted.mono (hf := by simp [refuseFields]) (hc := by simp))).trans
      (told.mono (hf := by simp [refuseFields, recFields]))
  have both := told.frame .twn (by simp)
  refine ⟨whole, (told.flag _).trans viol, (told.fld _).trans count, fun clear => ?_, fun set => ?_, fun never => ?_, ?_⟩
  · obtain ⟨h1, h2⟩ := first clear
    exact ⟨by rw [told.reg A_ACC_VIOL, violReg, h1], by rw [told.reg A_ACC_VIOL_ADDR, addrReg, h2]⟩
  · rw [later set] at violReg addrReg
    exact ⟨by rw [told.reg A_ACC_VIOL, violReg], by rw [told.reg A_ACC_VIOL_ADDR, addrReg]⟩
  · exact State.alarmViolation_first (by rw [acl, never])
  · exact both.trans ((counted.frame .twn (by simp)).trans (noted.frame .twn (by simp)))

/-- R471: what stands after a refused access of any master. -/
structure AccessRefused (s t : State) (m r a : Nat) (w : Bool) : Prop where
  changes : Changes [.alarms, .rcd, .acl, .twn, .regs] refuseFields [0x0F01, 0x0F02] s t
  viol : t.flag F_ACC_EVENT_VIOL = true
  count : t.fld (word32 A_ACC_VIOL_CNT) = Nat.min 4294967295 (s.fld (word32 A_ACC_VIOL_CNT) + 1)
  first : s.flag F_ACC_EVENT_VIOL = false → t.reg A_ACC_VIOL = violWord m r w ∧ t.reg A_ACC_VIOL_ADDR = toWord a
  later : s.flag F_ACC_EVENT_VIOL = true → t.reg A_ACC_VIOL = s.reg A_ACC_VIOL ∧ t.reg A_ACC_VIOL_ADDR = s.reg A_ACC_VIOL_ADDR
  alarmed : afind s.acl.alarmAt m = none → t.Alarmed 0x0F01
  fault : firmwareMaster m = true → t.flag F_ACC_EVENT_FW_VIOL = true ∧ t.Alarmed 0x0F02 ∧ t.twn = { s.twn with selfE := true }
  other : firmwareMaster m = false → t.twn = s.twn

theorem State.refuse_refused (sound : s.Sound) : AccessRefused s (s.refuse r m a w) m r a w := by
  have recorded := State.recordRefusal_refusal (r := r) (m := m) (a := a) (w := w) sound
  rw [State.refuse_eq]
  generalize s.recordRefusal r m a w = u at *
  split
  case isTrue firmware =>
    have shown := State.showFault_changes (r := r) (m := m) (a := a) recorded.changes.sound
    obtain ⟨fwViol, alarm, -, -⟩ := State.showFault_showsFault recorded.changes.sound r m a
    have twn : (u.showFault r m a).twn = { s.twn with selfE := true } := by
      rw [State.showFault, State.raise_twn, State.event_twn, recorded.twn]
    refine ⟨recorded.changes.trans (shown.mono (hf := by simp [refuseFields, recFields])), (shown.flag _).trans recorded.viol, (shown.fld _).trans recorded.count, fun clear => ?_,
      fun set => ?_, fun never => ?_, fun _ => ⟨fwViol, alarm, twn⟩, fun no => absurd (no.symm.trans firmware) (by decide)⟩
    · rw [shown.reg A_ACC_VIOL, shown.reg A_ACC_VIOL_ADDR]
      exact recorded.first clear
    · rw [shown.reg A_ACC_VIOL, shown.reg A_ACC_VIOL_ADDR]
      exact recorded.later set
    · exact (shown.alarms _ (by decide)).trans (recorded.alarmed never)
  case isFalse other =>
    exact ⟨recorded.changes, recorded.viol, recorded.count, recorded.first, recorded.later, recorded.alarmed, fun yes => absurd yes other, fun _ => recorded.twn⟩

end

end Sys2Proof.Machine

/-! Accesses: registers, application memory and the window of the State Image (R4, R24, R34, R460, R461). -/
namespace Sys2Proof.Machine
set_option Elab.async false

/-! The address map and the register table (R33). -/

theorem lt_of_regionOf {a r : Nat} (h : regionOf a = some r) : a < 4294967296 := by
  have bound : ∀ e ∈ addressMap, e.2.1 < 4294967296 := by decide
  rw [regionOf] at h
  split at h
  case h_1 e found =>
    have inside := List.find?_some found
    simp only [Bool.and_eq_true, decide_eq_true_eq] at inside
    exact Nat.lt_of_le_of_lt inside.2 (bound e (List.mem_of_find?_eq_some found))
  case h_2 => exact absurd h (by simp)

/-- The length of what an array of registers spans. -/
def arraySpan (l : List (Nat × Nat)) : Nat := l.foldr (fun e n => e.1 * e.2 + n) 0

theorem le_arraySpan {l : List (Nat × Nat)} {off : Nat} (h : arrayRest l off = some 0) : off ≤ arraySpan l := by
  induction l generalizing off with
  | nil =>
    obtain rfl : off = 0 := by simpa [arrayRest] using h
    exact Nat.zero_le _
  | cons e l ih =>
    obtain ⟨st, n⟩ := e
    rw [arrayRest] at h
    split at h
    case isFalse => exact absurd h (by simp)
    case isTrue low =>
      have rest := ih h
      calc off
        _ = st * (off / st) + off % st := (Nat.div_add_mod ..).symm
        _ ≤ st * n + arraySpan l := Nat.add_le_add (Nat.mul_le_mul_left _ (Nat.le_of_lt low)) rest

theorem regAt_appm {a : Nat} (h : appmBase ≤ a) : regAt a = none := by
  have bound : ∀ r ∈ regRows, r.base + arraySpan (strideOrder r.dims) < appmBase := by decide +kernel
  refine List.find?_eq_none.mpr fun r member holds => ?_
  simp only [RegRow.holds, Bool.and_eq_true, decide_eq_true_eq, beq_iff_eq] at holds
  have span := le_arraySpan holds.2
  have low := bound r member
  omega

theorem leNat_wordBytes (v : Word) : leNat (wordBytes v) = v.toNat := by
  simp only [wordBytes, leNat, wordByte]
  bv_omega

/-! What an allowed access does. -/

section
variable {s t : State} {m a : Nat} {v : Word}

theorem State.busRead_allowed (access : s.MayAccess m a false) : s.busRead m a = s.readAt m a := by
  obtain ⟨aligned, r, region, permitted⟩ := access
  rw [State.busRead, beyondFabric_of_lt (lt_of_regionOf region), if_neg Bool.false_ne_true, State.accessWith_allowed aligned region permitted]

theorem State.busWrite_allowed (access : s.MayAccess m a true) (v : Word) : s.busWrite m a v = s.writeAt m a v := by
  obtain ⟨aligned, r, region, permitted⟩ := access
  rw [State.busWrite, beyondFabric_of_lt (lt_of_regionOf region), if_neg Bool.false_ne_true, State.accessWith_allowed aligned region permitted]

theorem exec_registerRead_allowed (access : s.MayAccess m a false) :
    exec (.registerRead m a) s = .next ((s.readAt m a).1.complete m false a (s.readAt m a).2.1 (s.readAt m a).2.2) := by
  rw [exec_registerRead, execRegisterRead, State.busRead_allowed access]

theorem exec_registerWrite_allowed (access : s.MayAccess m a true) (v : Word) :
    exec (.registerWrite m a v) s = .next ((s.writeAt m a v).1.complete m true a (s.writeAt m a v).2.1 v) := by
  rw [exec_registerWrite, execRegisterWrite, State.busWrite_allowed access]

theorem State.busRead_unaligned (hlt : a < 4294967296) (unaligned : a % 4 ≠ 0) : s.busRead m a = (s, accUnaligned, 0#32) := by
  rw [State.busRead, beyondFabric_of_lt hlt, if_neg Bool.false_ne_true, State.accessWith, if_pos (by simpa using unaligned)]

theorem State.busWrite_unaligned (hlt : a < 4294967296) (unaligned : a % 4 ≠ 0) : s.busWrite m a v = (s, accUnaligned, 0#32) := by
  rw [State.busWrite, beyondFabric_of_lt hlt, if_neg Bool.false_ne_true, State.accessWith, if_pos (by simpa using unaligned)]

/-! Registers (R4). -/

theorem State.readAt_register {r : RegRow} (low : a < stiBase) (claim : indexIn (A_INTC_T_CLAIM 0) 256 4 a = none)
    (capture : indexIn (A_TSU_CAP_NS 0) 16 8 a = none) (row : regAt a = some r) :
    s.readAt m a = (s.clearOnRead a, accOk, typedValue r (s.shownWord m a)) := by
  have noWindow : ¬(decide (stiBase ≤ a) && decide (a < stiBase + 65536)) = true := by simp; omega
  have noMemory : ¬appmBase ≤ a := fun h => absurd (Nat.lt_of_le_of_lt h low) (by decide)
  rw [State.readAt, if_neg noWindow, claim, capture]
  simp only [row, if_neg noMemory]

theorem State.clearOnRead_plain {r : RegRow} (row : regAt a = some r) (plain : ∀ f ∈ r.fields, f.2.2 ≠ .rc) : s.clearOnRead a = s := by
  rw [State.clearOnRead, row]
  refine if_neg fun clears => ?_
  obtain ⟨f, member, rc⟩ := List.any_eq_true.mp clears
  exact plain f member (beq_iff_eq.mp rc)

theorem State.clearOnRead_clears {r : RegRow} (row : regAt a = some r) (some : ∃ f ∈ r.fields, f.2.2 = .rc) :
    s.clearOnRead a = s.setReg a (r.fields.foldl clearField (s.reg a)) := by
  rw [State.clearOnRead, row]
  obtain ⟨f, member, rc⟩ := some
  exact if_pos (List.any_eq_true.mpr ⟨f, member, by simp [rc]⟩)

theorem exec_registerRead_register {r : RegRow} (access : s.MayAccess m a false) (low : a < stiBase) (claim : indexIn (A_INTC_T_CLAIM 0) 256 4 a = none)
    (capture : indexIn (A_TSU_CAP_NS 0) 16 8 a = none) (row : regAt a = some r) : ∃ t, exec (.registerRead m a) s = .next t ∧
    s.Sends t [⟨.access m, .read, [a, 0, (r.fields.foldl (fun acc f => readField (s.shownWord m a) acc f) 0#32).toNat]⟩] ∧
    ((∀ f ∈ r.fields, f.2.2 ≠ .rc) → t.regs = s.regs) ∧
    (s.Sound → (∃ f ∈ r.fields, f.2.2 = .rc) → t.reg a = r.fields.foldl clearField (s.reg a)) ∧ Frame [.regs, .out] s t := by
  have run := exec_registerRead_allowed access
  rw [State.readAt_register low claim capture row] at run
  have cleared := State.clearOnRead_acts s a
  refine ⟨_, run, State.Sends.complete (cleared.frame .out rfl) m false a accOk _, fun plain => ?_, fun sound clears => ?_,
    cleared.reaches.trans (State.complete_acts ..).reaches⟩
  · rw [State.clearOnRead_plain row plain]
    rfl
  · rw [State.clearOnRead_clears row clears]
    exact (reg_setReg sound ..).trans (if_pos rfl)

theorem State.writeAt_register {r : RegRow} (low : a < stiBase) (row : regAt a = some r) (plain : r.isRwl = false) (unruled : s.ruledWrite m a v = none) :
    s.writeAt m a v = ((s.typedWrite a v).settleSources.updateTimers, accOk, 0#32) := by
  have takes : ¬((decide (stiBase ≤ a) && decide (a < stiBase + 65536)) || (s.locked && ((regAt a).map RegRow.isRwl).getD false)) = true := by
    rw [row, Option.map_some, Option.getD_some, plain]
    simp
    omega
  have noMemory : ¬appmBase ≤ a := fun h => absurd (Nat.lt_of_le_of_lt h low) (by decide)
  rw [State.writeAt, if_neg takes, if_neg noMemory, unruled]

theorem State.typedWrite_settled_acts (s : State) (a : Nat) (v : Word) :
    Acts (partMask [.intc, .apps, .regs]) s (s.typedWrite a v).settleSources.updateTimers :=
  (((Acts.refl s).step (State.typedWrite_acts ..) rfl).step (State.settleSources_acts ..) rfl).step (State.updateTimers_acts ..) rfl

theorem State.updateTimers_reg (s : State) (a : Nat) : s.updateTimers.reg a = s.reg a := rfl

theorem State.typedWrite_settled_reg {r : RegRow} (sound : s.Sound) (row : regAt a = some r) (plain : roCompare a = false)
    (outside : a < A_INTC_SRC_CFG 0 ∨ A_INTC_SRC_CFG 384 ≤ a) :
    (s.typedWrite a v).settleSources.updateTimers.reg a = r.fields.foldl (fun w f => writeField s.locked v w f) (s.reg a) := by
  rw [State.updateTimers_reg, State.settleSources_reg ((State.typedWrite_acts ..).sound sound) outside, State.typedWrite_row row plain, reg_setReg sound, if_pos rfl]

theorem exec_registerWrite_register {r : RegRow} (sound : s.Sound) (access : s.MayAccess m a true) (low : a < stiBase) (row : regAt a = some r)
    (rwl : r.isRwl = false) (unruled : s.ruledWrite m a v = none) (outside : a < A_INTC_SRC_CFG 0 ∨ A_INTC_SRC_CFG 384 ≤ a) (plain : roCompare a = false) :
    ∃ t, exec (.registerWrite m a v) s = .next t ∧ t.reg a = r.fields.foldl (fun w f => writeField s.locked v w f) (s.reg a) ∧
    s.Sends t [⟨.access m, .write, [a, 0, v.toNat]⟩] ∧ Frame [.intc, .apps, .regs, .out] s t := by
  have run := exec_registerWrite_allowed access v
  rw [State.writeAt_register low row rwl unruled] at run
  have acts := State.typedWrite_settled_acts s a v
  have reg := State.typedWrite_settled_reg (v := v) sound row plain outside
  generalize (s.typedWrite a v).settleSources.updateTimers = u at *
  exact ⟨_, run, reg, State.Sends.complete (acts.frame .out rfl) m true a accOk v, acts.reaches.trans (State.complete_acts ..).reaches⟩

theorem ne_of_isRwl {b : Nat} {r : RegRow} (row : regAt a = some r) (rwl : r.isRwl = true) (plain : (regAt b).map RegRow.isRwl = some false) : a ≠ b := by
  rintro rfl
  rw [row, Option.map_some, rwl] at plain
  exact absurd plain (by decide)

theorem apart_of_isRwl {r : RegRow} (row : regAt a = some r) (rwl : r.isRwl = true) : ∀ f ∈ refuseFields, a ≠ f.addr := by
  simp only [refuseFields, recFields, List.forall_mem_cons, List.not_mem_nil, false_implies, implies_true, and_true]
  refine ⟨?_, ?_, ?_, ?_, ?_, ?_, ?_⟩
  all_goals exact ne_of_isRwl row rwl (by decide +kernel)

theorem exec_registerWrite_locked {r : RegRow} (sound : s.Sound) (locked : s.locked = true) (access : s.MayAccess m a true) (row : regAt a = some r)
    (rwl : r.isRwl = true) : ∃ t, exec (.registerWrite m a v) s = .next t ∧ s.Sends t [⟨.access m, .write, [a, 1, v.toNat]⟩] ∧ t.reg a = s.reg a ∧
    t.flag F_ACC_EVENT_VIOL = true ∧ AlarmsBut [0x0F01, 0x0F02] s t ∧ Frame [.alarms, .rcd, .acl, .twn, .regs, .out] s t := by
  obtain ⟨aligned, q, region, -⟩ := access
  have run := exec_registerWrite_refused (m := m) (lt_of_regionOf region) aligned region (.inr (.inr ⟨locked, r, row, rwl⟩)) v
  have refused := State.refuse_refused (m := m) (r := q) (a := a) (w := true) sound
  generalize s.refuse q m a true = u at *
  exact ⟨_, run, State.Sends.complete (refused.changes.frame .out (by simp)) m true a accRefused v, refused.changes.reg a (apart_of_isRwl row rwl), refused.viol,
    refused.changes.alarms, (refused.changes.frame.mono (by simp)).trans (State.complete_acts ..).reaches⟩

/-! Application memory. -/

/-- A word written to APPM. -/
def State.appmWrite (s : State) (a : Nat) (v : Word) : State := { s with appm := memSetRun zeroCell 1 s.appm a (wordBytes v) }

theorem State.writeAt_appm (high : appmBase ≤ a) : s.writeAt m a v = (s.appmWrite a v, accOk, 0#32) := by
  have takes : ¬((decide (stiBase ≤ a) && decide (a < stiBase + 65536)) || (s.locked && ((regAt a).map RegRow.isRwl).getD false)) = true := by
    have above : stiBase + 65536 ≤ a := Nat.le_trans (by decide) high
    rw [regAt_appm high]
    simp
    omega
  rw [State.writeAt, if_neg takes, if_pos high, State.appmWrite]

theorem indexIn_high {base st n : Nat} (h : base + st * n ≤ a) : indexIn base st n a = none := by
  rw [indexIn, if_neg]
  simp only [inArray, Bool.and_eq_true, decide_eq_true_eq]
  omega

theorem State.readAt_appm (high : appmBase ≤ a) : s.readAt m a = (s, accOk, BitVec.ofNat 32 (leNat (memGetRun zeroCell 1 s.appm a 4))) := by
  have noWindow : ¬(decide (stiBase ≤ a) && decide (a < stiBase + 65536)) = true := by
    have above : stiBase + 65536 ≤ a := Nat.le_trans (by decide) high
    simp
    omega
  have claim : indexIn (A_INTC_T_CLAIM 0) 256 4 a = none := indexIn_high (Nat.le_trans (by decide) high)
  have capture : indexIn (A_TSU_CAP_NS 0) 16 8 a = none := indexIn_high (Nat.le_trans (by decide) high)
  have view : a ≠ A_STI_VIEW := fun e => absurd (e ▸ high) (by decide)
  have viewEp : a ≠ A_STI_VIEW_EP := fun e => absurd (e ▸ high) (by decide)
  rw [State.readAt, if_neg noWindow, claim, capture]
  simp only [if_pos high, State.shownWord, if_neg view, if_neg viewEp]

theorem State.readAt_appmWrite (sound : s.Sound) (high : appmBase ≤ a) : (s.appmWrite a v).readAt m a = (s.appmWrite a v, accOk, v) := by
  have read : memGetRun zeroCell 1 (s.appmWrite a v).appm a 4 = wordBytes v := memGetRun_memSetRun sound.canonical.2.1 a (wordBytes v)
  rw [State.readAt_appm high, read, leNat_wordBytes, BitVec.ofNat_toNat, BitVec.setWidth_eq]

theorem State.MayAccess.of_regs {w : Bool} (access : s.MayAccess m a w) (same : t.regs = s.regs) : t.MayAccess m a w := by
  obtain ⟨aligned, r, region, permitted⟩ := access
  refine ⟨aligned, r, region, ?_⟩
  have reg (x : Nat) : t.reg x = s.reg x := by rw [State.reg, same, State.reg]
  have rule : t.ruleAllows r m a w = s.ruleAllows r m a w := by
    funext k
    simp only [State.ruleAllows, reg]
  rw [State.allowed, State.locked, State.flag_of_regs same, State.fld_of_regs same, rule]
  exact permitted

theorem exec_registerWrite_appm {n : Nat} (sound : s.Sound) (write : s.MayAccess m a true) (read : s.MayAccess n a false) (high : appmBase ≤ a) :
    ∃ t u, exec (.registerWrite m a v) s = .next t ∧ Frame [.appm, .out] s t ∧
    (∀ x, x < a ∨ a + 4 ≤ x → memGet zeroCell t.appm x = memGet zeroCell s.appm x) ∧ exec (.registerRead n a) t = .next u ∧
    s.Sends u [⟨.access m, .write, [a, 0, v.toNat]⟩, ⟨.access n, .read, [a, 0, v.toNat]⟩] ∧ Frame [.appm, .out] s u := by
  have wrote := exec_registerWrite_allowed write v
  rw [State.writeAt_appm high] at wrote
  have only : Frame [.appm, .out] s ((s.appmWrite a v).complete m true a accOk v) := by
    intro q hq
    cases q <;> first | rfl | simp at hq
  have access : ((s.appmWrite a v).complete m true a accOk v).MayAccess n a false := read.of_regs (only .regs (by simp))
  have value : ((s.appmWrite a v).complete m true a accOk v).readAt n a = ((s.appmWrite a v).complete m true a accOk v, accOk, v) := by
    rw [State.readAt_appm high]
    have same := State.readAt_appmWrite (m := n) (v := v) sound high
    rw [State.readAt_appm high] at same
    exact congrArg (fun p => (_, p.2)) same
  have got := exec_registerRead_allowed access
  rw [value] at got
  refine ⟨_, _, wrote, only, fun x outside => ?_, got, ?_, only.trans (State.complete_acts ..).reaches⟩
  · exact memGet_memSetRun_outside (wordBytes v) sound.canonical.2.1 outside
  · exact List.append_assoc ..

end

end Sys2Proof.Machine

/-! The window of the State Image and its views, and accesses that fail (R24, R34, R460, R461). -/
namespace Sys2Proof.Machine
set_option Elab.async false

section
variable {s t : State} {m n a r : Nat} {v : Word}

/-! Accesses that fail. -/

theorem exec_registerRead_unaligned (hlt : a < 4294967296) (unaligned : a % 4 ≠ 0) :
    ∃ t, exec (.registerRead m a) s = .next t ∧ s.Sends t [⟨.access m, .read, [a, 4, 0]⟩] ∧ Frame [.out] s t := by
  have run : exec (.registerRead m a) s = .next (s.complete m false a accUnaligned 0#32) := by
    rw [exec_registerRead, execRegisterRead, State.busRead_unaligned hlt unaligned]
  exact ⟨_, run, State.Sends.complete rfl m false a accUnaligned 0#32, (State.complete_acts ..).reaches⟩

theorem exec_registerWrite_unaligned (hlt : a < 4294967296) (unaligned : a % 4 ≠ 0) :
    ∃ t, exec (.registerWrite m a v) s = .next t ∧ s.Sends t [⟨.access m, .write, [a, 4, v.toNat]⟩] ∧ Frame [.out] s t := by
  have run : exec (.registerWrite m a v) s = .next (s.complete m true a accUnaligned v) := by
    rw [exec_registerWrite, execRegisterWrite, State.busWrite_unaligned hlt unaligned]
  exact ⟨_, run, State.Sends.complete rfl m true a accUnaligned v, (State.complete_acts ..).reaches⟩

theorem violWord_read (hm : m < 20) : violWord m r false = BitVec.ofNat 32 (m + 1048576 * r) := by
  rw [violWord, Nat.mod_eq_of_lt (by omega)]
  rfl

theorem violWord_write (hm : m < 20) : violWord m r true = BitVec.ofNat 32 (m + 65536 + 1048576 * r) := by
  rw [violWord, Nat.mod_eq_of_lt (by omega)]
  rfl

/-- A refused access, once it has completed. -/
theorem AccessRefused.complete {w : Bool} (h : AccessRefused s t m r a w) (k : Nat) (v : Word) :
    s.Sends (t.complete m w a k v) [⟨.access m, if w then .write else .read, [a, k, v.toNat]⟩] ∧
      AlarmsBut [0x0F01, 0x0F02] s (t.complete m w a k v) ∧ Frame [.alarms, .rcd, .acl, .twn, .regs, .out] s (t.complete m w a k v) :=
  ⟨State.Sends.complete (h.changes.frame .out (by simp)) m w a k v, h.changes.alarms,
    (h.changes.frame.mono (by simp)).trans (State.complete_acts ..).reaches⟩

/-! The window and its views (R460, R461). -/

theorem exec_windowRead_window (hn : n < 65536) (access : s.MayAccess m (stiBase + n) false) :
    exec (.windowRead m n) s = .next ((s.windowWord m n).1.complete m false (stiBase + n) (s.windowWord m n).2.1 (s.windowWord m n).2.2) := by
  have inside : (decide (stiBase ≤ stiBase + n) && decide (stiBase + n < stiBase + 65536)) = true := by simp [hn]
  have read : s.readAt m (stiBase + n) = s.windowWord m n := by rw [State.readAt, if_pos inside, Nat.add_sub_cancel_left]
  rw [exec_windowRead, execWindowRead, Nat.mod_eq_of_lt hn]
  dsimp only
  rw [State.busRead_allowed access, read]

theorem exec_windowRead_intact {b e : Nat} (hn : n < 65536) (access : s.MayAccess m (stiBase + n) false) (view : afind s.sti.views m = some ⟨b, e, true⟩) :
    ∃ t, exec (.windowRead m n) s = .next t ∧
    s.Sends t [⟨.access m, .read, [stiBase + n, 0, (memGet zeroCell (if b = 0 then s.sti.bufA else s.sti.bufB) (n / 4)).toNat]⟩] ∧ Frame [.out] s t := by
  have run := exec_windowRead_window hn access
  have word : s.windowWord m n = (s, accOk, memGet zeroCell (if b = 0 then s.sti.bufA else s.sti.bufB) (n / 4)) := by
    rw [State.windowWord, view]
    rfl
  rw [word] at run
  exact ⟨_, run, State.Sends.complete rfl m false (stiBase + n) accOk _, (State.complete_acts ..).reaches⟩

/-- R461: the alarm 0x1701, at most once per master and minute. -/
def State.alarmWindow (s : State) (m : Nat) : State :=
  if s.limited s.sti.alarmAt m (60 * sec) then
    ({ s with sti := { s.sti with alarmAt := aset s.sti.alarmAt m s.tim.el } }).raise 0x1701 (pay [m])
  else s

theorem State.windowWord_refused (closed : ∀ b e, afind s.sti.views m ≠ some ⟨b, e, true⟩) :
    s.windowWord m n = ((s.bump F_STI_REFUSED_COUNT).alarmWindow m, accRefused, 0#32) := by
  rw [State.windowWord]
  split
  case h_1 b e view => exact absurd view (closed b e)
  case h_2 => rfl

theorem exec_windowRead_refused (sound : s.Sound) (hn : n < 65536) (access : s.MayAccess m (stiBase + n) false)
    (closed : ∀ b e, afind s.sti.views m ≠ some ⟨b, e, true⟩) : ∃ t,
    exec (.windowRead m n) s = .next t ∧ s.Sends t [⟨.access m, .read, [stiBase + n, 1, 0]⟩] ∧
    t.fld F_STI_REFUSED_COUNT = Nat.min (fieldMax F_STI_REFUSED_COUNT) (s.fld F_STI_REFUSED_COUNT + 1) ∧
    (afind s.sti.alarmAt m = none → t.Alarmed 0x1701) ∧ t.reg A_ACC_EVENT = s.reg A_ACC_EVENT ∧ t.reg A_ACC_VIOL_CNT = s.reg A_ACC_VIOL_CNT ∧
    AlarmsBut [0x1701] s t ∧ Frame [.alarms, .rcd, .sti, .regs, .out] s t := by
  have run := exec_windowRead_window hn access
  rw [State.windowWord_refused closed] at run
  have counted : Changes [.regs] [F_STI_REFUSED_COUNT] [] s (s.bump F_STI_REFUSED_COUNT) := (Changes.refl sound).bump _ 1
  have count := State.fld_bump sound F_STI_REFUSED_COUNT 1
  have sti : (s.bump F_STI_REFUSED_COUNT).sti = s.sti := counted.frame .sti (by simp)
  generalize s.bump F_STI_REFUSED_COUNT = u at *
  have told : Changes [.alarms, .rcd, .sti, .regs] recFields [0x1701] u (u.alarmWindow m) :=
    .ite (fun _ => ((Changes.refl counted.sound).upd _).raise _ _) fun _ => .refl counted.sound
  have alarmed (never : afind s.sti.alarmAt m = none) : (u.alarmWindow m).Alarmed 0x1701 := by
    have due : u.limited u.sti.alarmAt m (60 * sec) = true := by rw [State.limited, sti, never]
    rw [State.alarmWindow, if_pos due]
    exact (alarm_raise ..).trans (if_pos rfl)
  generalize u.alarmWindow m = w at *
  have whole : Changes [.alarms, .rcd, .sti, .regs] (F_STI_REFUSED_COUNT :: recFields) [0x1701] s w :=
    (counted.mono (hc := by simp)).trans (told.mono (hf := by simp [recFields]))
  exact ⟨_, run, State.Sends.complete (whole.frame .out (by simp)) m false (stiBase + n) accRefused 0#32, (told.fld _).trans count, alarmed,
    whole.reg A_ACC_EVENT, whole.reg A_ACC_VIOL_CNT, whole.alarms, (whole.frame.mono (by simp)).trans (State.complete_acts ..).reaches⟩

theorem exec_viewOpen_opens (access : s.MayAccess m A_STI_VIEW_CTRL true) : ∃ t, exec (.viewOpen m) s = .next t ∧
    t.sti = { s.sti with views := aset s.sti.views m ⟨s.sti.front, (s.reg A_STI_EPOCH).toNat, true⟩ } ∧
    s.Sends t [⟨.access m, .write, [A_STI_VIEW_CTRL, 0, 1]⟩] ∧ Frame [.sti, .out] s t := by
  have run : exec (.viewOpen m) s = .next ((s.openView m).complete m true A_STI_VIEW_CTRL accOk 1#32) := by
    rw [exec_viewOpen, execViewOpen, State.commandWrite_of_mayAccess access]
  exact ⟨_, run, rfl, State.Sends.complete rfl m true A_STI_VIEW_CTRL accOk 1#32, (State.openView_acts ..).reaches.trans (State.complete_acts ..).reaches⟩

theorem exec_viewClose_closes (access : s.MayAccess m A_STI_VIEW_CTRL true) : ∃ t, exec (.viewClose m) s = .next t ∧ afind t.sti.views m = none ∧
    (∀ n, n ≠ m → afind t.sti.views n = afind s.sti.views n) ∧ s.Sends t [⟨.access m, .write, [A_STI_VIEW_CTRL, 0, 2]⟩] ∧ Frame [.sti, .out] s t := by
  have run : exec (.viewClose m) s = .next ((s.closeView m).complete m true A_STI_VIEW_CTRL accOk 2#32) := by
    rw [exec_viewClose, execViewClose, State.commandWrite_of_mayAccess access]
  exact ⟨_, run, afind_adel_self .., fun k hk => afind_adel_other hk, State.Sends.complete rfl m true A_STI_VIEW_CTRL accOk 2#32,
    (State.closeView_acts ..).reaches.trans (State.complete_acts ..).reaches⟩

/-! The fabric time-out (R24). -/

theorem exec_fabricTimeout_result : ∃ t, exec (.fabricTimeout m r) s = .next t ∧ t.Alarmed 0x0004 ∧ AlarmsBut [0x0004] s t ∧
    t.tim.el = s.tim.el + 20000 ∧ s.Sends t [⟨.access m, .read, [0, 3, 0]⟩] ∧ Frame [.alarms, .rcd, .tim, .elapsed, .working, .regs, .out] s t := by
  have run : exec (.fabricTimeout m r) s = .next (((s.reachEl (s.tim.el + 20000)).raise 0x0004 (pay [m, r])).complete m false 0 accTimeout 0#32) := by
    rw [exec_fabricTimeout, execFabricTimeout]
  have waited := State.reachEl_acts s (s.tim.el + 20000)
  have el : (s.reachEl (s.tim.el + 20000)).tim.el = s.tim.el + 20000 := (State.reachEl_max ..).trans (Nat.max_eq_right (Nat.le_add_right ..))
  generalize s.reachEl (s.tim.el + 20000) = u at *
  have raised := State.raise_acts u 0x0004 (pay [m, r])
  have alarmed : (u.raise 0x0004 (pay [m, r])).Alarmed 0x0004 := (alarm_raise ..).trans (if_pos rfl)
  have others (c : Nat) (hc : c ∉ [0x0004]) : (u.raise 0x0004 (pay [m, r])).alarm? c = s.alarm? c :=
    (alarm_raise_other fun e => hc (List.mem_singleton.mpr e.symm)).trans (alarm_of_acts waited rfl)
  have tim : (u.raise 0x0004 (pay [m, r])).tim = u.tim := raised.frame .tim rfl
  generalize u.raise 0x0004 (pay [m, r]) = w at *
  exact ⟨_, run, alarmed, others, (congrArg Tim.el tim).trans el,
    State.Sends.complete ((raised.frame .out rfl).trans (waited.frame .out rfl)) m false 0 accTimeout 0#32,
    (waited.reaches.trans raised.reaches).trans (State.complete_acts ..).reaches⟩

end

/-- Settles O46. Whether an access is refused, lost or performed depends on `State.busRead` and `State.busWrite` alone (`State.busRead_allowed`), and every
refusal records the same (`State.refuse_refused`). -/
theorem accessesReachRegistersMemoryAndTheImageWindow : Obligations.AccessesReachRegistersMemoryAndTheImageWindow := by
  unfold Obligations.AccessesReachRegistersMemoryAndTheImageWindow
  refine ⟨fun m a v s hlt unaligned => ⟨exec_registerRead_unaligned hlt unaligned, exec_registerWrite_unaligned hlt unaligned⟩, ?unmapped, ?readRefused,
    ?writeRefused, fun m a r s access low claim capture row => exec_registerRead_register access low claim capture row,
    fun m a v r s sound access low row rwl unruled outside plain => exec_registerWrite_register sound access low row rwl unruled outside plain,
    fun m a v r s sound locked access _ row rwl => exec_registerWrite_locked sound locked access row rwl,
    fun m n a v s sound write read high => exec_registerWrite_appm sound write read high,
    fun m n b e s hn access view => exec_windowRead_intact hn access view, fun m n s sound hn access closed => exec_windowRead_refused sound hn access closed,
    fun m s access => exec_viewOpen_opens access, fun m s access => exec_viewClose_closes access, fun m r s => exec_fabricTimeout_result⟩
  case unmapped =>
    intro m a v s hlt aligned region
    obtain ⟨read, write, -⟩ := unmappedAccessesFailAndAreReported
    obtain ⟨t, ran, sends, alarmed, others, frame, -⟩ := read m a s hlt aligned region
    obtain ⟨u, ran', sends', alarmed', others', frame', -⟩ := write m a v s hlt aligned region
    exact ⟨⟨t, ran, sends, alarmed, others, frame⟩, ⟨u, ran', sends', alarmed', others', frame'⟩⟩
  case readRefused =>
    intro m a r s sound hm hlt aligned region denied
    have run := exec_registerRead_refused (m := m) hlt aligned region denied
    have refused := State.refuse_refused (r := r) (m := m) (a := a) (w := false) sound
    generalize s.refuse r m a false = u at *
    obtain ⟨sends, alarms, frame⟩ := refused.complete accRefused 0#32
    exact ⟨_, run, sends, refused.viol, refused.count, fun clear => violWord_read (r := r) hm ▸ refused.first clear, refused.later, refused.alarmed, refused.fault,
      refused.other, alarms, frame⟩
  case writeRefused =>
    intro m a r v s sound hm hlt aligned region denied
    have run := exec_registerWrite_refused (m := m) hlt aligned region (.inl denied) v
    have refused := State.refuse_refused (r := r) (m := m) (a := a) (w := true) sound
    generalize s.refuse r m a true = u at *
    obtain ⟨sends, alarms, frame⟩ := refused.complete accRefused v
    exact ⟨_, run, sends, refused.viol, refused.count, fun clear => violWord_write (r := r) hm ▸ refused.first clear, refused.alarmed, refused.fault, alarms, frame⟩

end Sys2Proof.Machine

/-! The host port (R428 to R430). -/
namespace Sys2Proof.Machine
set_option Elab.async false

section
variable {s t u : State} {a n : Nat} {w : Word}

/-! Writes. -/

/-- R430: a write command that fits is in the buffer. -/
def State.bufferWrite (s : State) (a : Nat) (l : List Word) : State :=
  { s with hst := { s.hst with buffer := s.hst.buffer ++ bufferWords a s.hst.nextCommand l, nextCommand := s.hst.nextCommand + 1 } }

/-- R430: a write command that does not fit is lost. -/
def State.loseWrite (s : State) : State := ((s.setFlag F_HST_STATUS_OVF true).event F_HST_EVENT_OVF_EVT).raise 0x0E02

/-- R430: a last word that was cut off is dropped. -/
def State.cutWrite (s : State) : State := ((s.setFlag F_HST_STATUS_FRAME true).event F_HST_EVENT_FRAME_EVT).raise 0x0E03

theorem State.bufferWrite_frame (s : State) (a : Nat) (l : List Word) : Frame [.hst] s (s.bufferWrite a l) := by
  intro p hp
  cases p <;> first | rfl | simp at hp

theorem State.takeWrite_fits {l : List Word} (fits : s.hst.buffer.length + l.length ≤ 512) : s.takeWrite a l false = s.bufferWrite a l := by
  simp only [State.takeWrite, bit, Bool.false_eq_true, if_false]
  exact if_neg (by omega)

theorem State.takeWrite_full {l : List Word} (full : 512 < s.hst.buffer.length + l.length) : s.takeWrite a l false = s.loseWrite := by
  simp only [State.takeWrite, bit, Bool.false_eq_true, if_false]
  exact if_pos (by omega)

theorem State.takeWrite_cut {l : List Word} (fits : s.hst.buffer.length + l.length + 1 ≤ 512) : s.takeWrite a l true = (s.bufferWrite a l).cutWrite := by
  simp only [State.takeWrite, bit, if_true]
  rw [if_neg (by omega)]
  rfl

theorem exec_hostWrite_on (on : s.hostPortOn = true) (l : List Word) (b : Bool) :
    exec (.hostWrite a l b) s = .next (s.takeWrite a l b).settleSources ∧ exec (.hostQuadWrite a l b) s = .next (s.takeWrite a l b).settleSources :=
  ⟨by rw [exec_hostWrite, execHostWrite, if_pos on], by rw [exec_hostQuadWrite, execHostQuadWrite, if_pos on]⟩

theorem exec_hostRead_on (on : s.hostPortOn = true) (n : Nat) :
    exec (.hostRead a n) s = .next (s.hostReads a n) ∧ exec (.hostQuadRead a n) s = .next (s.hostReads a n) :=
  ⟨by rw [exec_hostRead, execHostRead, if_pos on], by rw [exec_hostQuadRead, execHostQuadRead, if_pos on]⟩

theorem exec_host_off (off : s.hostPortOn = false) (l : List Word) (b : Bool) : exec (.hostRead a n) s = .next s ∧ exec (.hostQuadRead a n) s = .next s ∧
    exec (.hostWrite a l b) s = .next s ∧ exec (.hostQuadWrite a l b) s = .next s ∧ exec .hostStatus s = .next s := by
  have no : ¬s.hostPortOn = true := by simp [off]
  refine ⟨?_, ?_, ?_, ?_, ?_⟩
  · rw [exec_hostRead, execHostRead, if_neg no]
  · rw [exec_hostQuadRead, execHostQuadRead, if_neg no]
  · rw [exec_hostWrite, execHostWrite, if_neg no]
  · rw [exec_hostQuadWrite, execHostQuadWrite, if_neg no]
  · rw [exec_hostStatus, execHostStatus, if_neg no]

/-- R430: what stands in the status, the event bit and the alarm of a write that is lost or cut off. -/
structure HostReport (s t : State) (status event : Fld) (code : Nat) : Prop where
  changes : Changes [.alarms, .rcd, .regs] (status :: event :: recFields) [code] s t
  status : t.flag status = true
  event : t.flag event = true
  alarmed : t.Alarmed code

theorem hostReport_of {status event : Fld} {code : Nat} {p : List Word} (sound : s.Sound) (hs : status.fits = true) (he : event.fits = true)
    (apart : status.addr ≠ event.addr) (above : A_REC_LOST < status.addr) (above' : A_REC_LOST < event.addr) :
    HostReport s (((s.setFlag status true).event event).raise code p) status event code := by
  have first := sound.setFlag status true
  have second := first.event event
  have order : F_REC_EVENT_LOST_EVT.addr < A_REC_LOST := by decide
  refine ⟨((((Changes.refl sound).setFlag _ _ hs).event _ he).raise _ _), ?_, ?_, (alarm_raise ..).trans (if_pos rfl)⟩
  · rw [flag_raise second _ _ _ (by omega) (by omega)]
    exact (flag_event_other first event status he hs (.inl apart)).trans (flag_setFlag sound _ _ hs)
  · rw [flag_raise second _ _ _ (by omega) (by omega)]
    exact flag_event first _ he

theorem HostReport.settle {status event : Fld} {code : Nat} (h : HostReport s t status event code)
    (hs : status.addr < A_INTC_SRC_CFG 0 ∨ A_INTC_SRC_CFG 384 ≤ status.addr) (he : event.addr < A_INTC_SRC_CFG 0 ∨ A_INTC_SRC_CFG 384 ≤ event.addr) :
    t.settleSources.flag status = true ∧ t.settleSources.flag event = true ∧ t.settleSources.Alarmed code ∧ AlarmsBut [code] s t.settleSources ∧
    Frame [.alarms, .rcd, .intc, .regs] s t.settleSources := by
  have settled := State.settleSources_acts t
  refine ⟨?_, ?_, (alarm_of_acts settled rfl).trans h.alarmed, fun c hc => (alarm_of_acts settled rfl).trans (h.changes.alarms c hc),
    (h.changes.frame.mono (by simp)).trans settled.reaches⟩
  · rw [State.settleSources_flag h.changes.sound hs, h.status]
  · rw [State.settleSources_flag h.changes.sound he, h.event]

theorem State.loseWrite_report (sound : s.Sound) : HostReport s s.loseWrite F_HST_STATUS_OVF F_HST_EVENT_OVF_EVT 0x0E02 :=
  hostReport_of sound rfl rfl (by decide) (by decide) (by decide)

theorem State.cutWrite_report (sound : s.Sound) : HostReport s s.cutWrite F_HST_STATUS_FRAME F_HST_EVENT_FRAME_EVT 0x0E03 :=
  hostReport_of sound rfl rfl (by decide) (by decide) (by decide)

theorem exec_hostWrite_fits {l : List Word} (on : s.hostPortOn = true) (fits : s.hst.buffer.length + l.length ≤ 512) : ∃ t,
    exec (.hostWrite a l false) s = .next t ∧ exec (.hostQuadWrite a l false) s = .next t ∧
    t.hst = { s.hst with buffer := s.hst.buffer ++ l.mapIdx (fun k w => (a + 4 * k, w, s.hst.nextCommand)), nextCommand := s.hst.nextCommand + 1 } ∧
    Frame [.hst, .intc, .regs] s t := by
  obtain ⟨single, quad⟩ := exec_hostWrite_on (a := a) on l false
  rw [State.takeWrite_fits fits] at single quad
  have settled := State.settleSources_acts (s.bufferWrite a l)
  exact ⟨_, single, quad, settled.frame .hst rfl, ((State.bufferWrite_frame s a l).mono (by simp)).trans settled.reaches⟩

theorem exec_hostWrite_full {l : List Word} (sound : s.Sound) (on : s.hostPortOn = true) (full : 512 < s.hst.buffer.length + l.length) : ∃ t,
    exec (.hostWrite a l false) s = .next t ∧ exec (.hostQuadWrite a l false) s = .next t ∧ t.flag F_HST_STATUS_OVF = true ∧
    t.flag F_HST_EVENT_OVF_EVT = true ∧ t.Alarmed 0x0E02 ∧ AlarmsBut [0x0E02] s t ∧ Frame [.alarms, .rcd, .intc, .regs] s t := by
  obtain ⟨single, quad⟩ := exec_hostWrite_on (a := a) on l false
  rw [State.takeWrite_full full] at single quad
  exact ⟨_, single, quad, (State.loseWrite_report sound).settle (by decide) (by decide)⟩

theorem exec_hostWrite_cut {l : List Word} (sound : s.Sound) (on : s.hostPortOn = true) (fits : s.hst.buffer.length + l.length + 1 ≤ 512) : ∃ t,
    exec (.hostWrite a l true) s = .next t ∧ exec (.hostQuadWrite a l true) s = .next t ∧
    t.hst = { s.hst with buffer := s.hst.buffer ++ l.mapIdx (fun k w => (a + 4 * k, w, s.hst.nextCommand)), nextCommand := s.hst.nextCommand + 1 } ∧
    t.flag F_HST_STATUS_FRAME = true ∧ t.flag F_HST_EVENT_FRAME_EVT = true ∧ t.Alarmed 0x0E03 ∧ AlarmsBut [0x0E03] s t ∧
    Frame [.alarms, .rcd, .hst, .intc, .regs] s t := by
  obtain ⟨single, quad⟩ := exec_hostWrite_on (a := a) on l true
  rw [State.takeWrite_cut fits] at single quad
  have buffered : Changes [.hst] [] [] s (s.bufferWrite a l) := by
    refine (Changes.refl sound).upd _ (State.bufferWrite_frame s a l) fun k => ⟨k.canonical, k.alarms, k.queue, k.used, ?_⟩
    simp only [State.bufferWrite, bufferWords, List.length_append, List.length_mapIdx]
    omega
  have hst : (s.bufferWrite a l).hst =
    { s.hst with buffer := s.hst.buffer ++ l.mapIdx (fun k w => (a + 4 * k, w, s.hst.nextCommand)), nextCommand := s.hst.nextCommand + 1 } := rfl
  generalize s.bufferWrite a l = u at *
  obtain ⟨status, event, alarmed, others, frame⟩ := (State.cutWrite_report buffered.sound).settle (by decide) (by decide)
  exact ⟨_, single, quad, (frame .hst (by simp)).trans hst, status, event, alarmed, fun c hc => (others c hc).trans (buffered.alarms c (by simp)),
    (buffered.frame.mono (by simp)).trans (frame.mono (by simp))⟩

/-! Buffered words (R430). -/

/-- R430: the word at the head of the buffer has left it. -/
def State.popWrite (s : State) (r : List (Nat × Word × Nat)) : State := { s with hst := { s.hst with buffer := r } }

theorem exec_hostWritePerform_cons {r : List (Nat × Word × Nat)} (head : s.hst.buffer = (a, w, n) :: r) : exec .hostWritePerform s =
    .next (if ((s.popWrite r).busWrite mHost a w).2.1 = accOk then ((s.popWrite r).busWrite mHost a w).1
      else ((s.popWrite r).busWrite mHost a w).1.hostWriteFails a n) := by
  rw [exec_hostWritePerform, execHostWritePerform, State.performWrite, head]
  rfl

theorem State.popWrite_sound {r : List (Nat × Word × Nat)} (sound : s.Sound) (head : s.hst.buffer = (a, w, n) :: r) : (s.popWrite r).Sound := by
  refine ⟨sound.canonical, sound.alarms, sound.queue, sound.used, ?_⟩
  have room := sound.buffer
  rw [head, List.length_cons] at room
  exact Nat.le_of_succ_le room

/-- R430: the later words of a failed command are dropped. -/
def State.dropCommand (s : State) (n : Nat) : State := { s with hst := { s.hst with buffer := s.hst.buffer.filter (fun e => e.2.2 != n) } }

/-- R430: a failed write is shown and reported. -/
def State.showFailure (s : State) (a : Nat) : State :=
  (((s.setFlag F_HST_STATUS_ERR true).setReg A_HST_ERRADDR (toWord a)).event F_HST_EVENT_ERR_EVT).raise 0x0E01 (pay [a])

theorem State.hostWriteFails_eq (s : State) (a n : Nat) : s.hostWriteFails a n = (s.dropCommand n).showFailure a := rfl

theorem exec_hostWritePerform_result {c : Nat} {x : Word} {r : List (Nat × Word × Nat)} (head : s.hst.buffer = (a, w, n) :: r)
    (result : (s.popWrite r).busWrite mHost a w = (u, c, x)) : exec .hostWritePerform s = .next (if c = accOk then u else (u.dropCommand n).showFailure a) := by
  rw [exec_hostWritePerform_cons head, result, State.hostWriteFails_eq]

theorem State.showFailure_acts (s : State) (a : Nat) : Acts (partMask [.alarms, .rcd, .regs]) s (s.showFailure a) :=
  ((((Acts.refl s).step (State.setFlag_acts ..) rfl).step (State.setReg_acts ..) rfl).step (State.event_acts ..) rfl).step (State.raise_acts ..) rfl

theorem State.showFailure_alarm (s : State) (a : Nat) : (s.showFailure a).Alarmed 0x0E01 ∧ AlarmsBut [0x0E01] s (s.showFailure a) :=
  ⟨(alarm_raise ..).trans (if_pos rfl), fun _ hc => alarm_raise_other fun e => hc (List.mem_singleton.mpr e.symm)⟩

theorem State.showFailure_shows (sound : s.Sound) (a : Nat) : (s.showFailure a).flag F_HST_STATUS_ERR = true ∧
    (s.showFailure a).flag F_HST_EVENT_ERR_EVT = true ∧ (s.showFailure a).reg A_HST_ERRADDR = toWord a := by
  have first := sound.setFlag F_HST_STATUS_ERR true
  have second := first.setReg A_HST_ERRADDR (toWord a)
  have third := second.event F_HST_EVENT_ERR_EVT
  refine ⟨?_, ?_, ?_⟩
  · refine (flag_raise third _ _ _ (by decide) (by decide)).trans ((flag_event_other second _ _ rfl rfl (.inl (by decide))).trans ?_)
    refine (State.flag_of_fld ?_).trans (flag_setFlag sound _ _ rfl)
    exact congrArg (fieldOf · F_HST_STATUS_ERR) (State.setReg_sameReg first _ (by decide))
  · exact (flag_raise third _ _ _ (by decide) (by decide)).trans (flag_event second _ rfl)
  · refine (reg_raise third _ _ _ (by decide) (by decide)).trans ((reg_setFld second _ _ _ (by decide)).trans ?_)
    rw [reg_setReg first, if_pos rfl]

theorem State.dropCommand_frame (s : State) (n : Nat) : Frame [.hst] s (s.dropCommand n) := by
  intro p hp
  cases p <;> first | rfl | simp at hp

theorem State.dropCommand_sound (sound : s.Sound) (n : Nat) : (s.dropCommand n).Sound :=
  ⟨sound.canonical, sound.alarms, sound.queue, sound.used, (List.length_filter_le ..).trans sound.buffer⟩

theorem exec_hostWritePerform_fails {c : Nat} {x : Word} {r : List (Nat × Word × Nat)} (sound : s.Sound) (head : s.hst.buffer = (a, w, n) :: r)
    (result : (s.popWrite r).busWrite mHost a w = (u, c, x)) (failed : c ≠ 0) : ∃ t, exec .hostWritePerform s = .next t ∧
    t.hst.buffer = u.hst.buffer.filter (fun e => e.2.2 != n) ∧ t.flag F_HST_STATUS_ERR = true ∧ t.flag F_HST_EVENT_ERR_EVT = true ∧
    t.reg A_HST_ERRADDR = toWord a ∧ t.Alarmed 0x0E01 ∧ AlarmsBut [0x0E01] u t ∧ Frame [.alarms, .rcd, .hst, .regs] u t := by
  have run := exec_hostWritePerform_result head result
  rw [if_neg (show ¬c = accOk from failed)] at run
  have clean : u.Sound := by
    have acts := State.busWrite_acts (s.popWrite r) mHost a w
    rw [result] at acts
    exact acts.sound (State.popWrite_sound sound head)
  obtain ⟨status, event, addr⟩ := State.showFailure_shows (State.dropCommand_sound clean n) a
  obtain ⟨alarmed, others⟩ := State.showFailure_alarm (u.dropCommand n) a
  have acts := State.showFailure_acts (u.dropCommand n) a
  have hst : ((u.dropCommand n).showFailure a).hst = (u.dropCommand n).hst := acts.frame .hst rfl
  exact ⟨_, run, congrArg Hst.buffer hst, status, event, addr, alarmed, others, ((State.dropCommand_frame u n).mono (by simp)).trans acts.reaches⟩

theorem State.busWrite_unaligned_fails (unaligned : a % 4 ≠ 0) : ∃ c, s.busWrite mHost a w = (s, c, 0#32) ∧ c ≠ 0 := by
  by_cases low : a < 4294967296
  · exact ⟨accUnaligned, State.busWrite_unaligned low unaligned, by decide⟩
  · exact ⟨accRefused, by rw [State.busWrite, beyondFabric, if_pos (by simpa using low)], by decide⟩

theorem exec_hostWritePerform_unaligned {r : List (Nat × Word × Nat)} (head : s.hst.buffer = (a, w, n) :: r) (unaligned : a % 4 ≠ 0) :
    ∃ t, exec .hostWritePerform s = .next t ∧ t.hst = { s.hst with buffer := r.filter (fun e => e.2.2 != n) } ∧ t.Alarmed 0x0E01 ∧ AlarmsBut [0x0E01] s t ∧
    Frame [.alarms, .rcd, .hst, .regs] s t := by
  obtain ⟨c, result, failed⟩ := State.busWrite_unaligned_fails (s := s.popWrite r) (w := w) unaligned
  have run := exec_hostWritePerform_result head result
  rw [if_neg (show ¬c = accOk from failed)] at run
  obtain ⟨alarmed, others⟩ := State.showFailure_alarm ((s.popWrite r).dropCommand n) a
  have acts := State.showFailure_acts ((s.popWrite r).dropCommand n) a
  have hst : (((s.popWrite r).dropCommand n).showFailure a).hst = ((s.popWrite r).dropCommand n).hst := acts.frame .hst rfl
  have popped : Frame [.hst] s (s.popWrite r) := by
    intro p hp
    cases p <;> first | rfl | simp at hp
  exact ⟨_, run, hst, alarmed, others, ((popped.trans (State.dropCommand_frame _ n)).mono (by simp)).trans acts.reaches⟩

/-! Reads. -/

theorem exec_hostRead_word (on : s.hostPortOn = true) (empty : s.hst.buffer = []) (result : s.busRead mHost a = (u, 0, w)) : ∃ t,
    exec (.hostRead a 1) s = .next t ∧ exec (.hostQuadRead a 1) s = .next t ∧ u.Sends t [⟨.host, .read, [0xA5, w.toNat]⟩] ∧ Frame [.out] u t := by
  obtain ⟨single, quad⟩ := exec_hostRead_on (a := a) on 1
  have words : State.hostWords 1 s a = (u, [0xA5, (w.toNat : Int)]) := by
    simp only [State.hostWords, result]
    rfl
  rw [State.hostReads_of_empty empty, words] at single quad
  exact ⟨_, single, quad, rfl, (State.send_acts ..).reaches⟩

theorem exec_hostRead_fails {c : Nat} (on : s.hostPortOn = true) (empty : s.hst.buffer = []) (result : s.busRead mHost a = (u, c, w)) (failed : c ≠ 0) : ∃ t,
    exec (.hostRead a (n + 1)) s = .next t ∧ exec (.hostQuadRead a (n + 1)) s = .next t ∧ u.Sends t [⟨.host, .read, [0x5A, c]⟩] ∧ Frame [.out] u t := by
  obtain ⟨single, quad⟩ := exec_hostRead_on (a := a) on (n + 1)
  rw [State.hostReads_of_empty empty, State.hostWords_of_failure result failed] at single quad
  exact ⟨_, single, quad, rfl, (State.send_acts ..).reaches⟩

theorem exec_hostRead_unmapped (on : s.hostPortOn = true) (empty : s.hst.buffer = []) (hlt : a < 4294967296) (aligned : a % 4 = 0) (region : regionOf a = none) :
    ∃ t, exec (.hostRead a (n + 1)) s = .next t ∧ exec (.hostQuadRead a (n + 1)) s = .next t ∧ s.Sends t [⟨.host, .read, [0x5A, 2]⟩] ∧ t.Alarmed 0x0005 ∧
    AlarmsBut [0x0005] s t ∧ Frame [.alarms, .rcd, .regs, .out] s t := by
  obtain ⟨t, single, quad, sends, frame⟩ := exec_hostRead_fails (n := n) on empty (State.busRead_unmapped hlt aligned region) (by decide)
  have raised : Acts 34359738752 s (s.unmapped mHost a) := State.raise_acts ..
  have alarms (c : Nat) : t.alarm? c = (s.unmapped mHost a).alarm? c := by
    rw [State.alarm?, frame .alarms (by simp), State.alarm?]
  refine ⟨t, single, quad, ?_, (alarms _).trans (s.unmapped_alarmed mHost a), fun c hc => (alarms c).trans ?_, raised.reaches.trans (frame.mono (by simp))⟩
  · rw [State.Sends, sends, show (s.unmapped mHost a).out = s.out from raised.frame .out rfl]
    rfl
  · exact alarm_raise_other fun e => hc (List.mem_singleton.mpr e.symm)

/-! A word of APPM through the port. -/

theorem State.MayAccess.settleSources {m : Nat} {b : Bool} (sound : s.Sound) (access : s.MayAccess m a b) : s.settleSources.MayAccess m a b := by
  obtain ⟨aligned, r, region, permitted⟩ := access
  refine ⟨aligned, r, region, ?_⟩
  have high (x : Nat) (h : A_ACC_R_N 0 ≤ x) : s.settleSources.reg x = s.reg x := State.settleSources_reg sound (.inr (Nat.le_trans (by decide) h))
  have rule : s.settleSources.ruleAllows r m a b = s.ruleAllows r m a b := by
    funext k
    have mask := high (A_ACC_R_MASK r k) (by simp only [A_ACC_R_N, A_ACC_R_MASK]; omega)
    have low := high (A_ACC_R_LOW r k) (by simp only [A_ACC_R_N, A_ACC_R_LOW]; omega)
    have top := high (A_ACC_R_HIGH r k) (by simp only [A_ACC_R_N, A_ACC_R_HIGH]; omega)
    have perm := high (A_ACC_R_PERM r k) (by simp only [A_ACC_R_N, A_ACC_R_PERM]; omega)
    rw [State.ruleAllows, mask, low, top, perm, State.ruleAllows]
  have count : s.settleSources.fld (F_ACC_R_N_N r) = s.fld (F_ACC_R_N_N r) := by
    refine State.settleSources_fld sound (.inr ?_)
    simp only [F_ACC_R_N_N, A_ACC_R_N, A_INTC_SRC_CFG]
    omega
  rw [State.allowed, State.locked, State.settleSources_flag sound (.inl (by decide)), count, rule]
  exact permitted

theorem exec_host_appm (sound : s.Sound) (on : s.hostPortOn = true) (empty : s.hst.buffer = []) (high : appmBase ≤ a) (write : s.MayAccess mHost a true)
    (read : s.MayAccess mHost a false) : ∃ t u, exec (.hostWrite a [w] false) s = .next t ∧ exec (.hostRead a 1) t = .next u ∧
    s.Sends u [⟨.host, .read, [0xA5, w.toNat]⟩] ∧ u.hst.buffer = [] := by
  obtain ⟨single, -⟩ := exec_hostWrite_on (a := a) on [w] false
  rw [State.takeWrite_fits (by simp [empty])] at single
  have buffered := State.bufferWrite_frame s a [w]
  have clean : (s.bufferWrite a [w]).Sound := ⟨sound.canonical, sound.alarms, sound.queue, sound.used, by simp [State.bufferWrite, bufferWords, empty]⟩
  have buffer : (s.bufferWrite a [w]).hst.buffer = [(a, w, s.hst.nextCommand)] := by simp [State.bufferWrite, bufferWords, empty]
  have write' : (s.bufferWrite a [w]).MayAccess mHost a true := write.of_regs rfl
  have read' : (s.bufferWrite a [w]).MayAccess mHost a false := read.of_regs rfl
  have on' : (s.bufferWrite a [w]).hostPortOn = true := on
  generalize s.bufferWrite a [w] = x at *
  have settled := State.settleSources_acts x
  have ready := settled.sound clean
  have write'' := write'.settleSources clean
  have read'' := read'.settleSources clean
  have clk : x.settleSources.clk = x.clk := settled.frame .clk rfl
  have boot : x.settleSources.boot = x.boot := settled.frame .boot rfl
  have hst : x.settleSources.hst = x.hst := settled.frame .hst rfl
  have out : x.settleSources.out = s.out := (settled.frame .out rfl).trans (buffered .out (by simp))
  have on'' : x.settleSources.hostPortOn = true := by
    rw [State.hostPortOn, clk, boot]
    exact on'
  generalize x.settleSources = t at *
  have pending : t.hst.buffer = [(a, w, s.hst.nextCommand)] := by rw [hst, buffer]
  have permitted : (t.popWrite []).MayAccess mHost a true := write''.of_regs rfl
  have permitted' : ((t.popWrite []).appmWrite a w).MayAccess mHost a false := read''.of_regs rfl
  have wrote : (t.popWrite []).busWrite mHost a w = ((t.popWrite []).appmWrite a w, accOk, 0#32) := by
    rw [State.busWrite_allowed permitted, State.writeAt_appm high]
  have performed : t.performWrite = (t.popWrite []).appmWrite a w := by
    rw [State.performWrite, pending]
    exact (congrArg (fun q : State × Nat × Word => if q.2.1 = accOk then q.1 else q.1.hostWriteFails a s.hst.nextCommand) wrote).trans (if_pos rfl)
  have got : ((t.popWrite []).appmWrite a w).busRead mHost a = ((t.popWrite []).appmWrite a w, accOk, w) := by
    rw [State.busRead_allowed permitted', State.readAt_appmWrite (State.popWrite_sound ready pending) high]
  have reads : t.hostReads a 1 = ((t.popWrite []).appmWrite a w).send .host .read [0xA5, (w.toNat : Int)] := by
    simp only [State.hostReads, pending, List.length_singleton, State.drainWrites, performed, State.hostWords, got, if_true]
  refine ⟨t, _, single, (exec_hostRead_on on'' 1).1.trans (congrArg Host.Outcome.next reads), ?_, rfl⟩
  exact congrArg (· ++ [_]) out

end

/-- Settles O44. Both forms of a command do the same (`exec_hostWrite_on`, `exec_hostRead_on`), and the port reads and writes through the fabric. -/
theorem theHostPortBuffersWritesAndAnswersReads : Obligations.TheHostPortBuffersWritesAndAnswersReads := by
  unfold Obligations.TheHostPortBuffersWritesAndAnswersReads
  refine ⟨fun a n l b s off => exec_host_off off l b, fun a l s on fits => exec_hostWrite_fits on fits, fun a l s sound on full => exec_hostWrite_full sound on full,
    fun a l s sound on fits => exec_hostWrite_cut sound on fits, ?performed, fun a n c w x r s u sound head result failed =>
    exec_hostWritePerform_fails sound head result failed, fun a n w r s head unaligned => exec_hostWritePerform_unaligned head unaligned, ?idle,
    fun a n s => rfl, fun a w s u on empty result => exec_hostRead_word on empty result,
    fun a n c w s u on empty result failed => exec_hostRead_fails on empty result failed, ?unaligned,
    fun a n s on empty hlt aligned region => exec_hostRead_unmapped on empty hlt aligned region,
    fun a w s sound on empty high write read => exec_host_appm sound on empty high write read, ?status⟩
  case performed =>
    intro a n w x r s u head result
    exact (exec_hostWritePerform_result head result).trans (congrArg Host.Outcome.next (if_pos rfl))
  case idle =>
    intro s empty
    rw [exec_hostWritePerform, execHostWritePerform, State.performWrite, empty]
  case unaligned =>
    intro a n s on empty hlt unaligned
    obtain ⟨t, single, -, sends, frame⟩ := exec_hostRead_fails (n := n) on empty (State.busRead_unaligned hlt unaligned) (by decide)
    exact ⟨t, single, sends, frame⟩
  case status =>
    intro s on
    exact ⟨s.send .host .read [(bits s.hstWord 7 0 : Int)], by rw [exec_hostStatus, execHostStatus, if_pos on], rfl, (State.send_acts ..).reaches⟩

end Sys2Proof.Machine

/-! What the S-die keeps through its own operations: its configuration and the state of its inputs (R326, R338). -/
namespace Sys2Proof.Machine
set_option Elab.async false

/-- From `s` to `t` the S-die keeps its parameters and the state of its safe inputs. -/
structure SameInputs (s t : State) : Prop where
  params : t.saf.params = s.saf.params
  pairs : t.saf.pairs = s.saf.pairs

namespace SameInputs
variable {s t u : State}

theorem refl (s : State) : SameInputs s s := ⟨rfl, rfl⟩

theorem trans (h : SameInputs s t) (k : SameInputs t u) : SameInputs s u := ⟨k.params.trans h.params, k.pairs.trans h.pairs⟩

theorem of_saf (h : t.saf = s.saf) : SameInputs s t := ⟨congrArg Saf.params h, congrArg Saf.pairs h⟩

theorem acts {m : Nat} (h : SameInputs s t) (k : Acts m t u) (hm : m.testBit Part.saf.idx = false := by decide) : SameInputs s u :=
  h.trans (.of_saf (k.frame .saf hm))

theorem ite {c : Prop} [Decidable c] (h : c → SameInputs s t) (k : ¬c → SameInputs s u) : SameInputs s (if c then t else u) := by
  split
  · exact h ‹_›
  · exact k ‹_›

theorem of_safKept (h : s.SafKept t) : SameInputs s t := ⟨h.1, h.2.1⟩

theorem settleBrakes (h : SameInputs s t) : SameInputs s t.settleBrakes := h.trans (.of_safKept (State.SafKept.refl t).settleBrakes)

theorem setBrake (h : SameInputs s t) (n : Nat) (f : Brake → Brake) : SameInputs s (t.setBrake n f) := ⟨h.params, h.pairs⟩

theorem showBrake (h : SameInputs s t) (n : Nat) : SameInputs s (t.showBrake n) := h.trans (.of_saf (State.saf_showBrake t n))

theorem abortBrakeTest (h : SameInputs s t) : SameInputs s (t.endBrakeTest 4) := by
  obtain ⟨-, saf⟩ := endBrakeTest_aborted t
  exact h.trans ⟨by rw [saf], by rw [saf]⟩

theorem endTests (h : SameInputs s t) (n : Nat) : SameInputs s (t.endTests n) := h.abortBrakeTest.acts (State.stopInjection_acts ..)

theorem dropLease (h : SameInputs s t) : SameInputs s t.dropLease := by
  have dropped : SameInputs s { t with saf := { t.saf with leaseFrom := none } } := ⟨h.params, h.pairs⟩
  exact (dropped.acts (State.setFlag_acts _ F_SAF_STATUS_LEASE false)).acts (State.setGate_acts ..)

theorem dropToArmed (h : SameInputs s t) : SameInputs s t.dropToArmed := ⟨(h.endTests 3).dropLease.params, (h.endTests 3).dropLease.pairs⟩

theorem handOver (h : SameInputs s t) (n : Nat) : SameInputs s (t.handOver n) := by
  unfold State.handOver
  extract_lets e q u
  have sent : SameInputs s q := (h.acts (State.setGate_acts ..)).acts (State.twinSend_acts ..)
  have armed : SameInputs s u := ⟨sent.dropToArmed.params, sent.dropToArmed.pairs⟩
  have held : SameInputs s { u with twn := { u.twn with holder := some (otherSide u.pins.side) } } := ⟨armed.params, armed.pairs⟩
  exact (held.acts (State.event_acts ..)).acts (State.raise_acts ..)

theorem globalSafe (h : SameInputs s t) (n : Nat) : SameInputs s (t.globalSafe n) := by
  unfold State.globalSafe
  extract_lets first s1 q s2 s3 s4 s5
  have h1 : SameInputs s s1 := (h.endTests 3).acts (State.setFlag_acts ..)
  have h2 : SameInputs s s2 := ⟨h1.params, h1.pairs⟩
  have h3 : SameInputs s s3 := .ite (fun _ => ((h2.acts (State.setFld_acts ..)).acts (State.event_acts ..)).acts (State.raise_acts ..)) fun _ => h2
  have h5 : SameInputs s s5 := h3.dropLease.settleBrakes
  clear_value s5
  split
  · exact h5
  · exact (SameInputs.ite (fun _ => h5.handOver 8) fun _ => h5.dropToArmed).acts (State.inSafeState_acts ..)
  all_goals exact h5.acts (State.inSafeState_acts ..)

theorem abortIfDemanded (h : SameInputs s t) : SameInputs s t.abortIfDemanded := by
  unfold State.abortIfDemanded
  split
  · exact .ite (fun _ => h.abortBrakeTest) fun _ => h
  · exact h

theorem safPar (h : SameInputs s t) (p i : Nat) : t.safPar p i = s.safPar p i := by rw [State.safPar, State.safPar, h.params]

theorem sipUsed (h : SameInputs s t) (n : Nat) : t.sipUsed n = s.sipUsed n := by rw [State.sipUsed, State.sipUsed, h.safPar]

theorem pair (h : SameInputs s t) (n : Nat) : t.pair n = s.pair n := by rw [State.pair, State.pair, h.pairs]

end SameInputs

/-! A pair enters DEMAND (R326, R328). -/

section
variable {s t : State} {n : Nat}

theorem State.pair_setPair (s : State) (n k : Nat) (f : SafePair → SafePair) :
    (s.setPair n f).pair k = if n = k ∧ k < s.saf.pairs.length then f (s.pair k) else s.pair k := by
  simp only [State.setPair, State.pair, setNth, List.getD_eq_getElem?_getD, List.getElem?_modify]
  by_cases inside : k < s.saf.pairs.length
  · rw [List.getElem?_eq_getElem inside]
    by_cases same : n = k <;> simp [same, inside]
  · rw [List.getElem?_eq_none (by omega)]
    simp [inside]

theorem State.setPair_safPar (s : State) (n : Nat) (f : SafePair → SafePair) (p i : Nat) : (s.setPair n f).safPar p i = s.safPar p i := rfl

/-- R326: pair `n` shows DEMAND. -/
def State.showDemand (s : State) (n : Nat) : State := ((s.setPair n (fun p => { p with demand := true })).showPair n).event F_SAF_EVENT_SIP_EVT

/-- R326, R328: what the demand of pair `n` applies and ends. -/
def State.demandActs (s : State) (n : Nat) : State :=
  (if (s.pair n).demand then s.showDemand n else (s.showDemand n).raise 0x0A0E (pay [n])).abortIfDemanded.settleBrakes

theorem State.enterDemand_eq (s : State) (n : Nat) : s.enterDemand n =
    if tbit ((s.demandActs n).safPar (0x1020 + n) 2).toNat 0 then (s.demandActs n).globalSafe 5 else s.demandActs n := rfl

theorem State.demandActs_inputs (s : State) (n : Nat) : SameInputs (s.setPair n (fun p => { p with demand := true })) (s.demandActs n) := by
  have shown : SameInputs (s.setPair n (fun p => { p with demand := true })) (s.showDemand n) :=
    ((SameInputs.refl _).acts (State.showPair_acts ..)).acts (State.event_acts ..)
  exact (SameInputs.ite (fun _ => shown) fun _ => shown.acts (State.raise_acts ..)).abortIfDemanded.settleBrakes

/-- R326: entering DEMAND changes of the inputs of the S-die the demand of the pair alone. -/
theorem State.enterDemand_inputs (s : State) (n : Nat) : SameInputs (s.setPair n (fun p => { p with demand := true })) (s.enterDemand n) := by
  rw [State.enterDemand_eq]
  exact .ite (fun _ => (s.demandActs_inputs n).globalSafe 5) fun _ => s.demandActs_inputs n

theorem State.demandActs_acts (s : State) (n : Nat) : Acts (partMask [.alarms, .rcd, .mram, .saf, .brakes, .regs]) s (s.demandActs n) := by
  have shown : Acts (partMask [.alarms, .rcd, .mram, .saf, .brakes, .regs]) s (s.showDemand n) :=
    (((Acts.refl s).step (State.setPair_acts ..) rfl).step (State.showPair_acts ..) rfl).step (State.event_acts ..) rfl
  have told := Acts.ite (c := (s.pair n).demand = true) (fun _ => shown) fun _ => shown.step (State.raise_acts _ 0x0A0E (pay [n])) rfl
  exact (told.step (State.abortIfDemanded_acts _) rfl).step (State.settleBrakes_acts _) rfl

theorem alarm_abortIfDemanded {c : Nat} (passed : 0x0A09 ≠ c) (aborted : 0x0A0A ≠ c) : s.abortIfDemanded.alarm? c = s.alarm? c := by
  unfold State.abortIfDemanded
  split
  · split
    · exact alarm_endBrakeTest passed aborted
    · rfl
  · rfl

/-- R326, R328: the alarms that entering DEMAND can raise. -/
theorem alarm_enterDemand {c : Nat} (own : c ∉ [0x0A04, 0x0A09, 0x0A0A, 0x0A0E, 0x0408, 0x130C, 0x1603]) : (s.enterDemand n).alarm? c = s.alarm? c := by
  simp only [List.mem_cons, List.not_mem_nil, or_false, not_or] at own
  obtain ⟨safe, passed, aborted, demand, handed, injected, fallback⟩ := own
  have shown : (s.showDemand n).alarm? c = s.alarm? c :=
    alarm_of_acts ((((Acts.refl (m := partMask [.saf, .regs]) s).step (State.setPair_acts ..) rfl).step (State.showPair_acts ..) rfl).step (State.event_acts ..) rfl) rfl
  have acted : (s.demandActs n).alarm? c = s.alarm? c := by
    refine (alarm_of_acts (State.settleBrakes_acts _) rfl).trans ((alarm_abortIfDemanded (Ne.symm passed) (Ne.symm aborted)).trans ?_)
    split
    · exact shown
    · exact (alarm_raise_other (Ne.symm demand)).trans shown
  rw [State.enterDemand_eq]
  split
  · exact (alarm_globalSafe (by simp [*])).trans acted
  · exact acted

/-- R328: a pair whose USE has bit 0 forces the global safe state, any other leaves the device state. -/
theorem State.enterDemand_use (sound : s.Sound) (n : Nat) : (tbit (s.safPar (0x1020 + n) 2).toNat 0 = true → (s.enterDemand n).InGlobalSafe) ∧
    (tbit (s.safPar (0x1020 + n) 2).toNat 0 = false → (s.enterDemand n).dev = s.dev) := by
  have par : (s.demandActs n).safPar (0x1020 + n) 2 = s.safPar (0x1020 + n) 2 := (s.demandActs_inputs n).safPar ..
  rw [State.enterDemand_eq, par]
  constructor
  · intro use
    rw [if_pos use]
    exact (globalSafe_spec ((s.demandActs_acts n).sound sound) 5).1.global
  · intro use
    rw [if_neg (by simp [use])]
    exact (s.demandActs_acts n).frame .dev rfl

end

end Sys2Proof.Machine

/-! The brake test of a channel and the test pulses of the safe inputs (R323 to R325). -/
namespace Sys2Proof.Machine
set_option Elab.async false

section
variable {s t : State} {n : Nat}

/-! The end of a brake test (R323, R324). -/

/-- The registers that the end of a brake test of channel `n` writes, beside the age of a passed one. -/
def testEndFields (n : Nat) : List Fld := word32 (A_SAF_BRK_TEST n) :: F_SAF_BRK_STAT_TEST_FAIL n :: F_SAF_EVENT_TEST_EVT :: F_SAF_STATUS_TEST :: brakeFields n

/-- R323: no brake test runs. -/
def State.clearTest (s : State) : State := { s with saf := { s.saf with test := none } }

/-- R323: the result of brake test `b` shows. -/
def State.showResult (s : State) (b : BrakeTest) (r : Nat) : State :=
  ((s.setReg (A_SAF_BRK_TEST b.chan) (halves r b.moved)).setFlag (F_SAF_BRK_STAT_TEST_FAIL b.chan) (r != 1)).event F_SAF_EVENT_TEST_EVT

/-- R323: channel `n` is shown without a brake test. -/
def State.showTestOver (s : State) (n : Nat) : State := (s.setFlag F_SAF_STATUS_TEST false).showBrake n

/-- R324: the channel of a passed test counts its age from 0. -/
def State.restartAge (s : State) (n : Nat) : State :=
  (((({ s with mram := { s.mram with brakeAge := aset s.mram.brakeAge n 0 } } : State).setReg (A_SAF_BRK_AGE n) 0#32).setFlag
    (F_SAF_BRK_STAT_TEST_DUE n) false).setBrake n (fun b => { b with dueRaised := false })).raise 0x0A09 (pay [n])

theorem State.endBrakeTest_eq {b : BrakeTest} (running : s.saf.test = some b) (r : Nat) : s.endBrakeTest r =
    if r = 1 then ((s.clearTest.showResult b r).showTestOver b.chan).restartAge b.chan
    else ((s.clearTest.showResult b r).showTestOver b.chan).raise 0x0A0A (pay [b.chan, r]) := by
  rw [State.endBrakeTest, running]
  rfl

theorem State.showResult_changes (sound : s.Sound) (b : BrakeTest) (r : Nat) : Changes [.regs] (testEndFields b.chan) [] s (s.showResult b r) :=
  (((Changes.refl sound).setReg _ _ (by simp [testEndFields])).setFlag _ _ rfl (by simp [testEndFields])).event _ rfl (by simp [testEndFields])

theorem State.showTestOver_changes (sound : s.Sound) (hn : n < 8) : Changes [.regs] (F_SAF_STATUS_TEST :: brakeFields n) [] s (s.showTestOver n) :=
  ((Changes.refl sound).setFlag _ _).showBrake hn fun _ hf => List.mem_cons_of_mem _ hf

theorem State.showResult_shows (sound : s.Sound) (b : BrakeTest) (r : Nat) : (s.showResult b r).reg (A_SAF_BRK_TEST b.chan) = halves r b.moved ∧
    (s.showResult b r).flag (F_SAF_BRK_STAT_TEST_FAIL b.chan) = (r != 1) ∧ (s.showResult b r).flag F_SAF_EVENT_TEST_EVT = true := by
  have first := sound.setReg (A_SAF_BRK_TEST b.chan) (halves r b.moved)
  have second := first.setFlag (F_SAF_BRK_STAT_TEST_FAIL b.chan) (r != 1)
  have high : A_SAF_EVENT < A_SAF_BRK_STAT b.chan := by simp only [A_SAF_EVENT, A_SAF_BRK_STAT]; omega
  have apart : A_SAF_BRK_TEST b.chan ≠ A_SAF_BRK_STAT b.chan := by simp only [A_SAF_BRK_TEST, A_SAF_BRK_STAT]; omega
  have above : A_SAF_BRK_TEST b.chan ≠ A_SAF_EVENT := by simp only [A_SAF_BRK_TEST, A_SAF_EVENT]; omega
  refine ⟨?_, ?_, flag_event second _ rfl⟩
  · refine (reg_setFld second _ _ _ above).trans ((reg_setFld first _ _ _ apart).trans ?_)
    rw [reg_setReg sound, if_pos rfl]
  · exact (flag_event_other second _ _ rfl rfl (.inl (Nat.ne_of_gt high))).trans (flag_setFlag first _ _ rfl)

theorem brakeFields_apart {f : Fld} (stat : f.addr ≠ A_SAF_BRK_STAT n ∨ 5 < f.lo) (degr : f.addr ≠ A_SAF_BRK_DEGR n) (status : f.addr ≠ A_SAF_STATUS ∨ 16 + n < f.lo) :
    ∀ g ∈ brakeFields n, g.apart f := by
  simp only [brakeFields, List.forall_mem_cons, List.not_mem_nil, false_implies, implies_true, and_true]
  refine ⟨?_, ?_, ?_, .inl degr, status.imp_right .inl⟩
  · exact stat.imp_right fun h => .inl (show 2 < f.lo by omega)
  · exact stat.imp_right fun h => .inl (show 4 < f.lo by omega)
  · exact stat.imp_right .inl

/-- What stands once the end of test `b` with result `r` shows. -/
structure TestOver (s t : State) (b : BrakeTest) (r : Nat) : Prop where
  changes : Changes [.saf, .regs] (testEndFields b.chan) [] s t
  saf : t.saf = { s.saf with test := none }
  result : t.reg (A_SAF_BRK_TEST b.chan) = halves r b.moved
  fail : t.flag (F_SAF_BRK_STAT_TEST_FAIL b.chan) = (r != 1)
  event : t.flag F_SAF_EVENT_TEST_EVT = true
  idle : t.flag F_SAF_STATUS_TEST = false

theorem State.testOver (sound : s.Sound) (b : BrakeTest) (hb : b.chan < 8) (r : Nat) : TestOver s ((s.clearTest.showResult b r).showTestOver b.chan) b r := by
  have cleared : Changes [.saf, .regs] (testEndFields b.chan) [] s s.clearTest := (Changes.refl sound).upd _
  have saf : s.clearTest.saf = { s.saf with test := none } := rfl
  generalize s.clearTest = u at *
  have shown := State.showResult_changes cleared.sound b r
  obtain ⟨result, fail, event⟩ := State.showResult_shows cleared.sound b r
  generalize u.showResult b r = v at *
  have ended := State.showTestOver_changes shown.sound hb
  have test : (v.setFlag F_SAF_STATUS_TEST false).flag F_SAF_STATUS_TEST = false := flag_setFlag shown.sound _ _ rfl
  have last : Changes [.regs] (brakeFields b.chan) [] (v.setFlag F_SAF_STATUS_TEST false) (v.showTestOver b.chan) :=
    (Changes.refl (shown.sound.setFlag F_SAF_STATUS_TEST false)).showBrake hb fun _ hf => hf
  have statusLow : A_SAF_STATUS < A_SAF_BRK_STAT b.chan := by simp only [A_SAF_STATUS, A_SAF_BRK_STAT]; omega
  have failApart : A_SAF_BRK_STAT b.chan ≠ A_SAF_STATUS := Nat.ne_of_gt statusLow
  have before : Changes [.saf, .regs] (testEndFields b.chan) [] s v := cleared.trans (shown.mono (hf := fun _ hf => hf))
  refine ⟨before.trans (ended.mono (hf := fun _ hf => List.mem_cons_of_mem _ (List.mem_cons_of_mem _ (List.mem_cons_of_mem _ hf)))), ?_, ?_, ?_, ?_, ?_⟩
  · exact (ended.frame .saf (by simp)).trans ((shown.frame .saf (by simp)).trans saf)
  · refine (ended.reg _ ?_).trans result
    simp only [brakeFields, List.forall_mem_cons, List.not_mem_nil, false_implies, implies_true, and_true, F_SAF_STATUS_TEST, F_SAF_BRK_STAT_STATE,
      F_SAF_BRK_STAT_DEGR_SW, F_SAF_BRK_STAT_OVERCURRENT, word32, bitAt, A_SAF_BRK_TEST, A_SAF_STATUS, A_SAF_BRK_STAT, A_SAF_BRK_DEGR]
    omega
  · refine (ended.flag _ rfl (List.forall_mem_cons.mpr ⟨.inl failApart, brakeFields_apart (.inr (show 5 < 7 by decide)) ?_ (.inl failApart)⟩)).trans fail
    simp only [F_SAF_BRK_STAT_TEST_FAIL, A_SAF_BRK_STAT, A_SAF_BRK_DEGR]
    omega
  · refine (ended.flag _ rfl (List.forall_mem_cons.mpr ⟨.inl (by decide), brakeFields_apart (.inl ?_) ?_ (.inl (by decide))⟩)).trans event
    · simp only [F_SAF_EVENT_TEST_EVT, A_SAF_EVENT, A_SAF_BRK_STAT]
      omega
    · simp only [F_SAF_EVENT_TEST_EVT, A_SAF_EVENT, A_SAF_BRK_DEGR]
      omega
  · refine (last.flag _ rfl (brakeFields_apart (.inl (Nat.ne_of_lt statusLow)) ?_ (.inr (show 16 + b.chan < 24 by omega)))).trans test
    simp only [F_SAF_STATUS_TEST, A_SAF_STATUS, A_SAF_BRK_DEGR]
    omega

/-- R324: what the channel of a passed test shows. -/
theorem State.restartAge_shows (sound : s.Sound) (hn : n < 8) :
    Changes [.alarms, .rcd, .mram, .saf, .brakes, .regs] (word32 (A_SAF_BRK_AGE n) :: F_SAF_BRK_STAT_TEST_DUE n :: recFields) [0x0A09] s (s.restartAge n) ∧
    afind (s.restartAge n).mram.brakeAge n = some 0 ∧ (s.restartAge n).saf.test = s.saf.test ∧ (s.restartAge n).reg (A_SAF_BRK_AGE n) = 0#32 ∧
    (s.restartAge n).flag (F_SAF_BRK_STAT_TEST_DUE n) = false ∧ (s.restartAge n).Alarmed 0x0A09 := by
  have aged : Changes [.mram] [] [] s { s with mram := { s.mram with brakeAge := aset s.mram.brakeAge n 0 } } := (Changes.refl sound).upd _
  have age : afind ({ s with mram := { s.mram with brakeAge := aset s.mram.brakeAge n 0 } } : State).mram.brakeAge n = some 0 := afind_aset_self ..
  have saf : ({ s with mram := { s.mram with brakeAge := aset s.mram.brakeAge n 0 } } : State).saf = s.saf := rfl
  unfold State.restartAge
  generalize ({ s with mram := { s.mram with brakeAge := aset s.mram.brakeAge n 0 } } : State) = u at *
  have written : Changes [.regs] [word32 (A_SAF_BRK_AGE n), F_SAF_BRK_STAT_TEST_DUE n] [] u
      ((u.setReg (A_SAF_BRK_AGE n) 0#32).setFlag (F_SAF_BRK_STAT_TEST_DUE n) false) := ((Changes.refl aged.sound).setReg _ _).setFlag _ _
  have first := aged.sound.setReg (A_SAF_BRK_AGE n) 0#32
  have due : ((u.setReg (A_SAF_BRK_AGE n) 0#32).setFlag (F_SAF_BRK_STAT_TEST_DUE n) false).flag (F_SAF_BRK_STAT_TEST_DUE n) = false := flag_setFlag first _ _ rfl
  have zero : ((u.setReg (A_SAF_BRK_AGE n) 0#32).setFlag (F_SAF_BRK_STAT_TEST_DUE n) false).reg (A_SAF_BRK_AGE n) = 0#32 := by
    have apart : A_SAF_BRK_AGE n ≠ A_SAF_BRK_STAT n := by simp only [A_SAF_BRK_AGE, A_SAF_BRK_STAT]; omega
    refine (reg_setFld first _ _ _ apart).trans ?_
    rw [reg_setReg aged.sound, if_pos rfl]
  generalize (u.setReg (A_SAF_BRK_AGE n) 0#32).setFlag (F_SAF_BRK_STAT_TEST_DUE n) false = v at *
  have low : A_SAF_BRK_STAT n < A_REC_EVENT ∧ A_SAF_BRK_AGE n < A_REC_EVENT := by simp only [A_SAF_BRK_STAT, A_SAF_BRK_AGE, A_REC_EVENT]; omega
  have order : A_REC_EVENT < A_REC_LOST := by decide
  have marked := State.setBrake_acts v n (fun b => { b with dueRaised := false })
  have test : (v.setBrake n (fun b => { b with dueRaised := false })).saf.test = v.saf.test := rfl
  have vsaf : v.saf = s.saf := (written.frame .saf (by simp)).trans saf
  have vmram : v.mram = u.mram := written.frame .mram (by simp)
  generalize v.setBrake n (fun b => { b with dueRaised := false }) = w at *
  have told : Changes [.alarms, .rcd, .regs] recFields [0x0A09] w (w.raise 0x0A09 (pay [n])) := (Changes.refl (marked.sound written.sound)).raise _ _
  have mram : (w.raise 0x0A09 (pay [n])).mram = u.mram := (told.frame .mram (by simp)).trans ((marked.frame .mram rfl).trans vmram)
  refine ⟨?_, by rw [mram, age], ?_, ?_, ?_, (alarm_raise ..).trans (if_pos rfl)⟩
  · have before : Changes [.alarms, .rcd, .mram, .saf, .brakes, .regs] (word32 (A_SAF_BRK_AGE n) :: F_SAF_BRK_STAT_TEST_DUE n :: recFields) [0x0A09] s v :=
      (aged.mono (hf := by simp) (hc := by simp)).trans (written.mono (hf := by simp) (hc := by simp))
    exact (before.acts marked).trans (told.mono (hf := by simp [recFields]))
  · rw [show (w.raise 0x0A09 (pay [n])).saf = w.saf from told.frame .saf (by simp), test, vsaf]
  · rw [reg_raise (marked.sound written.sound) _ _ _ (by omega) (Nat.ne_of_lt low.2), State.reg, show w.regs = v.regs from marked.frame .regs rfl]
    exact zero
  · rw [flag_raise (marked.sound written.sound) _ _ _ (show A_SAF_BRK_STAT n ≠ _ by omega) (Nat.ne_of_lt low.1),
      State.flag_of_regs (marked.frame .regs rfl), due]

theorem State.endBrakeTest_pass {b : BrakeTest} (sound : s.Sound) (running : s.saf.test = some b) (hb : b.chan ≤ 7) :
    (s.endBrakeTest 1).saf.test = none ∧ afind (s.endBrakeTest 1).mram.brakeAge b.chan = some 0 ∧ (s.endBrakeTest 1).reg (A_SAF_BRK_TEST b.chan) = halves 1 b.moved ∧
    (s.endBrakeTest 1).reg (A_SAF_BRK_AGE b.chan) = 0#32 ∧ (s.endBrakeTest 1).flag (F_SAF_BRK_STAT_TEST_DUE b.chan) = false ∧
    (s.endBrakeTest 1).flag (F_SAF_BRK_STAT_TEST_FAIL b.chan) = false ∧ (s.endBrakeTest 1).flag F_SAF_STATUS_TEST = false ∧
    (s.endBrakeTest 1).flag F_SAF_EVENT_TEST_EVT = true ∧ (s.endBrakeTest 1).Alarmed 0x0A09 ∧ AlarmsBut [0x0A09] s (s.endBrakeTest 1) ∧
    Frame [.alarms, .rcd, .mram, .saf, .brakes, .regs] s (s.endBrakeTest 1) := by
  have ended := State.testOver sound b (Nat.lt_succ_of_le hb) 1
  rw [State.endBrakeTest_eq running, if_pos rfl]
  generalize (s.clearTest.showResult b 1).showTestOver b.chan = u at *
  obtain ⟨change, age, test, zero, due, alarmed⟩ := State.restartAge_shows (n := b.chan) ended.changes.sound (Nat.lt_succ_of_le hb)
  have fields {a : Nat} (h1 : a ≠ A_SAF_BRK_AGE b.chan) (h2 : a ≠ A_SAF_BRK_STAT b.chan) (h3 : a < A_REC_EVENT) :
      ∀ f ∈ word32 (A_SAF_BRK_AGE b.chan) :: F_SAF_BRK_STAT_TEST_DUE b.chan :: recFields, a ≠ f.addr := by
    have order : A_REC_EVENT < A_REC_LOST := by decide
    simp only [recFields, List.forall_mem_cons, List.not_mem_nil, false_implies, implies_true, and_true]
    exact ⟨h1, h2, show a ≠ A_REC_LOST by omega, Nat.ne_of_lt h3⟩
  have plain {f : Fld} (fits : f.fits = true) (h1 : f.addr ≠ A_SAF_BRK_AGE b.chan) (h2 : f.addr ≠ A_SAF_BRK_STAT b.chan) (h3 : f.addr < A_REC_EVENT) :
      (u.restartAge b.chan).flag f = u.flag f := change.flag f fits fun g hg => .inl (fields h1 h2 h3 g hg)
  refine ⟨by rw [test, ended.saf], age, ?_, zero, due, ?_, ?_, ?_, alarmed, fun c hc => (change.alarms c hc).trans (ended.changes.alarms c (by simp)),
    (ended.changes.frame.mono (by simp)).trans change.frame⟩
  · refine (change.reg _ (fields ?_ ?_ ?_)).trans ended.result
    all_goals
      simp only [A_SAF_BRK_TEST, A_SAF_BRK_AGE, A_SAF_BRK_STAT, A_REC_EVENT]
      omega
  · refine (change.flag _ rfl ?_).trans ended.fail
    simp only [List.forall_mem_cons]
    refine ⟨.inl ?_, .inr (.inl (show 6 < 7 by decide)), recFields_apart ?_ ?_⟩
    all_goals
      simp only [F_SAF_BRK_STAT_TEST_FAIL, word32, A_SAF_BRK_STAT, A_SAF_BRK_AGE, A_REC_LOST, A_REC_EVENT]
      omega
  · refine (plain rfl ?_ ?_ ?_).trans ended.idle
    all_goals
      simp only [F_SAF_STATUS_TEST, A_SAF_STATUS, A_SAF_BRK_AGE, A_SAF_BRK_STAT, A_REC_EVENT]
      omega
  · refine (plain rfl ?_ ?_ ?_).trans ended.event
    all_goals
      simp only [F_SAF_EVENT_TEST_EVT, A_SAF_EVENT, A_SAF_BRK_AGE, A_SAF_BRK_STAT, A_REC_EVENT]
      omega

theorem State.endBrakeTest_motion {b : BrakeTest} (sound : s.Sound) (running : s.saf.test = some b) (hb : b.chan ≤ 7) :
    (s.endBrakeTest 3).saf.test = none ∧ (s.endBrakeTest 3).reg (A_SAF_BRK_TEST b.chan) = halves 3 b.moved ∧
    (s.endBrakeTest 3).flag (F_SAF_BRK_STAT_TEST_FAIL b.chan) = true ∧ (s.endBrakeTest 3).flag F_SAF_STATUS_TEST = false ∧
    (s.endBrakeTest 3).Alarmed 0x0A0A ∧ AlarmsBut [0x0A0A] s (s.endBrakeTest 3) ∧ Frame [.alarms, .rcd, .saf, .regs] s (s.endBrakeTest 3) := by
  have ended := State.testOver sound b (Nat.lt_succ_of_le hb) 3
  rw [State.endBrakeTest_eq running, if_neg (by decide)]
  generalize (s.clearTest.showResult b 3).showTestOver b.chan = u at *
  have told : Changes [.alarms, .rcd, .regs] recFields [0x0A0A] u (u.raise 0x0A0A (pay [b.chan, 3])) := (Changes.refl ended.changes.sound).raise _ _
  have low : A_SAF_BRK_STAT b.chan < A_REC_EVENT ∧ A_SAF_BRK_TEST b.chan < A_REC_EVENT := by
    simp only [A_SAF_BRK_STAT, A_SAF_BRK_TEST, A_REC_EVENT]
    omega
  have order : A_REC_EVENT < A_REC_LOST := by decide
  refine ⟨?_, ?_, ?_, ?_, (alarm_raise ..).trans (if_pos rfl), fun c hc => (told.alarms c hc).trans (ended.changes.alarms c (by simp)),
    (ended.changes.frame.mono (by simp)).trans (told.frame.mono (by simp))⟩
  · rw [show (u.raise 0x0A0A (pay [b.chan, 3])).saf = u.saf from told.frame .saf (by simp), ended.saf]
  · rw [reg_raise ended.changes.sound _ _ _ (by omega) (Nat.ne_of_lt low.2), ended.result]
  · rw [flag_raise ended.changes.sound _ _ _ (show A_SAF_BRK_STAT b.chan ≠ _ by omega) (Nat.ne_of_lt low.1), ended.fail]
    rfl
  · rw [flag_raise ended.changes.sound _ _ _ (by decide) (by decide), ended.idle]

/-! Phases and motion (R323). -/

theorem exec_brakeTestPhaseEnd_running {b : BrakeTest} (running : s.saf.test = some b) (phase : b.phase ≠ 0) : exec .brakeTestPhaseEnd s =
    .next (if b.phase = 4 then (s.reachEl (b.phaseAt + s.phaseTime b)).endBrakeTest 1
      else { s.reachEl (b.phaseAt + s.phaseTime b) with saf := { (s.reachEl (b.phaseAt + s.phaseTime b)).saf with
        test := some { b with phase := b.phase + 1, phaseAt := (s.reachEl (b.phaseAt + s.phaseTime b)).tim.el } } }) := by
  rw [exec_brakeTestPhaseEnd, execBrakeTestPhaseEnd, running]
  exact congrArg Host.Outcome.next (if_neg phase)

theorem exec_brakeTestPhaseEnd_next {b : BrakeTest} (running : s.saf.test = some b) (low : 1 ≤ b.phase) (high : b.phase ≤ 3) :
    ∃ t, exec .brakeTestPhaseEnd s = .next t ∧ t.saf = { s.saf with test := some { b with phase := b.phase + 1, phaseAt := t.tim.el } } ∧
    t.tim.el = Nat.max s.tim.el (b.phaseAt + s.phaseTime b) ∧ Frame [.saf, .tim, .elapsed, .working] s t := by
  have run := exec_brakeTestPhaseEnd_running running (by omega)
  rw [if_neg (by omega)] at run
  generalize b.phaseAt + s.phaseTime b = e at *
  have waited := State.reachEl_acts s e
  have saf : (s.reachEl e).saf = s.saf := waited.frame .saf rfl
  have el := State.reachEl_max s e
  generalize s.reachEl e = u at *
  have only : Frame [.saf] u { u with saf := { u.saf with test := some { b with phase := b.phase + 1, phaseAt := u.tim.el } } } := by
    intro p hp
    cases p <;> first | rfl | simp at hp
  exact ⟨_, run, by rw [saf], el, waited.reaches.trans (only.mono (by simp))⟩

theorem exec_brakeTestPhaseEnd_passed {b : BrakeTest} (sound : s.Sound) (running : s.saf.test = some b) (last : b.phase = 4) (hb : b.chan ≤ 7) :
    ∃ t, exec .brakeTestPhaseEnd s = .next t ∧
    t.saf.test = none ∧ afind t.mram.brakeAge b.chan = some 0 ∧ t.reg (A_SAF_BRK_TEST b.chan) = halves 1 b.moved ∧ t.reg (A_SAF_BRK_AGE b.chan) = 0#32 ∧
    t.flag (F_SAF_BRK_STAT_TEST_DUE b.chan) = false ∧ t.flag (F_SAF_BRK_STAT_TEST_FAIL b.chan) = false ∧ t.flag F_SAF_STATUS_TEST = false ∧
    t.flag F_SAF_EVENT_TEST_EVT = true ∧ t.Alarmed 0x0A09 ∧ AlarmsBut [0x0A09] s t ∧
    Frame [.alarms, .rcd, .mram, .tim, .elapsed, .working, .saf, .brakes, .regs] s t := by
  have run := exec_brakeTestPhaseEnd_running running (by omega)
  rw [if_pos last] at run
  have waited := State.reachEl_acts s (b.phaseAt + s.phaseTime b)
  have running' : (s.reachEl (b.phaseAt + s.phaseTime b)).saf.test = some b := running
  generalize s.reachEl (b.phaseAt + s.phaseTime b) = u at *
  obtain ⟨test, age, result, zero, due, fail, idle, event, alarmed, others, frame⟩ := State.endBrakeTest_pass (waited.sound sound) running' hb
  exact ⟨_, run, test, age, result, zero, due, fail, idle, event, alarmed, fun c hc => (others c hc).trans (alarm_of_acts waited rfl),
    waited.reaches.trans (frame.mono (by simp))⟩

theorem exec_brakeTestMotion_running {b : BrakeTest} {k : Nat} (running : s.saf.test = some b) : exec (.brakeTestMotion k) s =
    .next (if 2 ≤ b.phase && bits (s.safPar (0x1040 + b.chan) 2) 31 16 < k then
      ({ s with saf := { s.saf with test := some { b with moved := k } } } : State).endBrakeTest 3
      else { s with saf := { s.saf with test := some { b with moved := k } } }) := by
  rw [exec_brakeTestMotion, execBrakeTestMotion, running]

theorem exec_brakeTestMotion_noted {b : BrakeTest} {k : Nat} (running : s.saf.test = some b)
    (few : b.phase ≤ 1 ∨ k ≤ bits (s.safPar (0x1040 + b.chan) 2) 31 16) :
    ∃ t, exec (.brakeTestMotion k) s = .next t ∧ t.saf = { s.saf with test := some { b with moved := k } } ∧ Frame [.saf] s t := by
  have run := exec_brakeTestMotion_running (k := k) running
  rw [if_neg (by simp only [Bool.and_eq_true, decide_eq_true_eq]; omega)] at run
  refine ⟨_, run, rfl, fun p hp => ?_⟩
  cases p <;> first | rfl | simp at hp

theorem exec_brakeTestMotion_ended {b : BrakeTest} {k : Nat} (sound : s.Sound) (running : s.saf.test = some b) (phase : 2 ≤ b.phase) (hb : b.chan ≤ 7)
    (many : bits (s.safPar (0x1040 + b.chan) 2) 31 16 < k) :
    ∃ t, exec (.brakeTestMotion k) s = .next t ∧ t.saf.test = none ∧ t.reg (A_SAF_BRK_TEST b.chan) = halves 3 k ∧
    t.flag (F_SAF_BRK_STAT_TEST_FAIL b.chan) = true ∧ t.flag F_SAF_STATUS_TEST = false ∧ t.Alarmed 0x0A0A ∧ AlarmsBut [0x0A0A] s t ∧ t.mram = s.mram ∧
    Frame [.alarms, .rcd, .saf, .brakes, .regs] s t := by
  have run := exec_brakeTestMotion_running (k := k) running
  rw [if_pos (by simp [phase, many])] at run
  have noted : Changes [.saf] [] [] s { s with saf := { s.saf with test := some { b with moved := k } } } := (Changes.refl sound).upd _
  have running' : ({ s with saf := { s.saf with test := some { b with moved := k } } } : State).saf.test = some { b with moved := k } := rfl
  generalize ({ s with saf := { s.saf with test := some { b with moved := k } } } : State) = u at *
  obtain ⟨test, result, fail, idle, alarmed, others, frame⟩ := State.endBrakeTest_motion noted.sound running' hb
  exact ⟨_, run, test, result, fail, idle, alarmed, fun c hc => (others c hc).trans (noted.alarms c (by simp)),
    (frame .mram (by simp)).trans (noted.frame .mram (by simp)), (noted.frame.mono (by simp)).trans (frame.mono (by simp))⟩

/-! A test that is due (R324). -/

theorem exec_brakeTestDue_due (sound : s.Sound) (hn : n < s.saf.brakes.length) (enabled : s.brkEn n = true) (ordered : (s.safPar 0x1007).toNat ≠ 0)
    (old : (s.safPar 0x1007).toNat ≤ aget 0 s.mram.brakeAge n) (fresh : (s.brake n).dueRaised = false) (low : n ≤ 7) :
    ∃ t, exec (.brakeTestDue n) s = .next t ∧ t.brake n = { s.brake n with dueRaised := true } ∧ t.flag (F_SAF_BRK_STAT_TEST_DUE n) = true ∧
    t.Alarmed 0x0A0B ∧ AlarmsBut [0x0A0B] s t ∧ Frame [.alarms, .rcd, .saf, .brakes, .regs] s t ∧
    FieldsBut (F_SAF_BRK_STAT_TEST_DUE n :: recFields) s t := by
  have run : exec (.brakeTestDue n) s =
      .next (((s.setBrake n (fun b => { b with dueRaised := true })).setFlag (F_SAF_BRK_STAT_TEST_DUE n) true).raise 0x0A0B (pay [n])) := by
    rw [exec_brakeTestDue, execBrakeTestDue, if_pos (by simp [enabled, ordered, old, fresh])]
  have marked : Changes [.alarms, .rcd, .saf, .brakes, .regs] (F_SAF_BRK_STAT_TEST_DUE n :: recFields) [0x0A0B] s
    (s.setBrake n (fun b => { b with dueRaised := true })) := (Changes.refl sound).acts (State.setBrake_acts ..)
  have brake : (s.setBrake n (fun b => { b with dueRaised := true })).brake n = { s.brake n with dueRaised := true } := by
    simp only [State.setBrake, State.brake, setNth, List.getD_eq_getElem?_getD, List.getElem?_modify, List.getElem?_eq_getElem hn]
    simp
  generalize s.setBrake n (fun b => { b with dueRaised := true }) = u at *
  have whole := (marked.setFlag (F_SAF_BRK_STAT_TEST_DUE n) true).raise 0x0A0B (pay [n])
  have told : Changes [.alarms, .rcd, .regs] (F_SAF_BRK_STAT_TEST_DUE n :: recFields) [0x0A0B] u
    ((u.setFlag (F_SAF_BRK_STAT_TEST_DUE n) true).raise 0x0A0B (pay [n])) := ((Changes.refl marked.sound).setFlag _ _).raise _ _
  have saf : ((u.setFlag (F_SAF_BRK_STAT_TEST_DUE n) true).raise 0x0A0B (pay [n])).saf = u.saf := told.frame .saf (by simp)
  have below : A_SAF_BRK_STAT n < A_REC_EVENT := by simp only [A_SAF_BRK_STAT, A_REC_EVENT]; omega
  have order : A_REC_EVENT < A_REC_LOST := by decide
  refine ⟨_, run, by rw [State.brake, saf]; exact brake, ?_, (alarm_raise ..).trans (if_pos rfl), whole.alarms, whole.frame, whole.fields⟩
  rw [flag_raise (marked.sound.setFlag _ _) _ _ _ (show A_SAF_BRK_STAT n ≠ _ by omega) (Nat.ne_of_lt below)]
  exact flag_setFlag marked.sound _ _ rfl

theorem exec_brakeTestDue_idle (idle : s.brkEn n = false ∨ (s.safPar 0x1007).toNat = 0 ∨ aget 0 s.mram.brakeAge n < (s.safPar 0x1007).toNat ∨
    (s.brake n).dueRaised = true) : exec (.brakeTestDue n) s = .next s := by
  rw [exec_brakeTestDue, execBrakeTestDue, if_neg]
  simp only [Bool.and_eq_true, bne_iff_ne, decide_eq_true_eq, Bool.not_eq_true']
  rintro ⟨⟨⟨enabled, ordered⟩, old⟩, fresh⟩
  obtain h | h | h | h := idle
  · exact absurd (h.symm.trans enabled) (by decide)
  · exact ordered h
  · omega
  · exact absurd (h.symm.trans fresh) (by decide)

end

end Sys2Proof.Machine

/-! The test pulses of the safe inputs (R325). -/
namespace Sys2Proof.Machine
set_option Elab.async false

section
variable {s t u : State} {o : Bool} {n k : Nat}

/-- R325: a pair that answered a pulse rightly counts it. -/
def SafePair.passed (p : SafePair) : SafePair :=
  { p with passes := p.passes + 1, outTogether := if p.passes + 1 = 10 then false else p.outTogether }

/-- R325: a pair that answered the pulse of output `o` wrongly records it. -/
def SafePair.failed (o : Bool) (p : SafePair) : SafePair :=
  { p with pulse := if p.pulse.contains o then p.pulse else p.pulse ++ [o], passes := 0, outTogether := false }

/-- R325: what the pulse of output `o` does to pair `n` where the pairs of `faulty` answer wrongly. -/
def State.pulsePair (o : Bool) (faulty : List Nat) (t : State) (n : Nat) : State :=
  if !t.sipUsed n then t
  else if faulty.contains n then ((t.setPair n (SafePair.failed o)).raise 0x0A0D (pay [n, bit o])).enterDemand n
  else if (t.pair n).pulse.contains o then t.setPair n SafePair.passed
  else t

theorem exec_testPulse_eq (o : Bool) (faulty : List Nat) (s : State) : exec (.testPulse o faulty) s =
    .next (if !s.clk.vfld || !(if o then s.pins.sit1 else s.pins.sit0) then s else (s.pulseTime o).each (List.range 16) (State.pulsePair o faulty)) := rfl

theorem exec_testPulse_idle (l : List Nat) (idle : s.clk.vfld = false ∨ (if o then s.pins.sit1 else s.pins.sit0) = false) :
    exec (.testPulse o l) s = .next s := by
  rw [exec_testPulse_eq, if_pos]
  obtain h | h := idle <;> simp [h]

theorem exec_testPulse_pulsed (l : List Nat) (field : s.clk.vfld = true) (drives : (if o then s.pins.sit1 else s.pins.sit0) = true) :
    exec (.testPulse o l) s = .next ((s.pulseTime o).each (List.range 16) (State.pulsePair o l)) := by
  rw [exec_testPulse_eq, if_neg (by simp [field, drives])]

/-- R325: a pair that answers rightly is left as it is, or counts the pulse. -/
theorem State.pulsePair_right (o : Bool) {faulty : List Nat} (t : State) (right : k ∉ faulty) :
    t.pulsePair o faulty k = t ∨ t.pulsePair o faulty k = t.setPair k SafePair.passed := by
  unfold State.pulsePair
  by_cases unused : (!t.sipUsed k) = true
  · exact .inl (if_pos unused)
  rw [if_neg unused, if_neg (by simpa using right)]
  split
  · exact .inr rfl
  · exact .inl rfl

theorem SameInputs.pulseTime (s : State) (o : Bool) : SameInputs s (s.pulseTime o) := by
  unfold State.pulseTime
  extract_lets t
  have waited : SameInputs s t := by
    unfold t
    split
    · exact (SameInputs.refl s).acts (State.reachEl_acts ..)
    · exact .refl s
  clear_value t
  exact .ite (fun _ => waited) fun _ => ⟨waited.params, waited.pairs⟩

/-- What a right answer leaves of every pair, and of the rest of the device. -/
structure PulsedRight (s t : State) : Prop where
  acts : Acts (partMask [.saf]) s t
  demand : ∀ n, (t.pair n).demand = (s.pair n).demand
  disc : ∀ n, (t.pair n).disc = (s.pair n).disc
  pulse : ∀ n, (t.pair n).pulse = (s.pair n).pulse
  params : t.saf.params = s.saf.params
  length : t.saf.pairs.length = s.saf.pairs.length
  global : s.InGlobalSafe → t.InGlobalSafe

namespace PulsedRight

theorem refl (s : State) : PulsedRight s s := ⟨.refl s, fun _ => rfl, fun _ => rfl, fun _ => rfl, rfl, rfl, id⟩

theorem trans (h : PulsedRight s t) (k : PulsedRight t u) : PulsedRight s u :=
  ⟨h.acts.step k.acts rfl, fun n => (k.demand n).trans (h.demand n), fun n => (k.disc n).trans (h.disc n), fun n => (k.pulse n).trans (h.pulse n),
    k.params.trans h.params, k.length.trans h.length, fun g => k.global (h.global g)⟩

theorem setPair (s : State) (k : Nat) : PulsedRight s (s.setPair k SafePair.passed) where
  acts := State.setPair_acts s k SafePair.passed
  demand n := by rw [State.pair_setPair]; split <;> rfl
  disc n := by rw [State.pair_setPair]; split <;> rfl
  pulse n := by rw [State.pair_setPair]; split <;> rfl
  params := rfl
  length := List.length_modify ..
  global := id

theorem pulsePair (o : Bool) {faulty : List Nat} (t : State) (right : k ∉ faulty) : PulsedRight t (t.pulsePair o faulty k) := by
  obtain same | counted := State.pulsePair_right o t right
  · rw [same]
    exact .refl t
  · rw [counted]
    exact .setPair t k

theorem each (o : Bool) {faulty : List Nat} (t : State) (l : List Nat) (right : ∀ k ∈ l, k ∉ faulty) : PulsedRight t (t.each l (State.pulsePair o faulty)) :=
  List.foldlRecOn (motive := PulsedRight t) _ _ (.refl t) fun u h k hk => h.trans (.pulsePair o u (right k hk))

theorem sipUsed (h : PulsedRight s t) (n : Nat) : t.sipUsed n = s.sipUsed n := by rw [State.sipUsed, State.sipUsed, State.safPar, State.safPar, h.params]

end PulsedRight

theorem exec_testPulse_right (field : s.clk.vfld = true) (drives : (if o then s.pins.sit1 else s.pins.sit0) = true) :
    ∃ t, exec (.testPulse o []) s = .next t ∧ Frame [.tim, .elapsed, .working, .saf] s t ∧
    ∀ n, (t.pair n).demand = (s.pair n).demand ∧ (t.pair n).disc = (s.pair n).disc ∧ (t.pair n).pulse = (s.pair n).pulse := by
  have waited := State.pulseTime_acts s o
  have inputs := SameInputs.pulseTime s o
  have run := exec_testPulse_pulsed [] field drives
  generalize s.pulseTime o = u at *
  have each := PulsedRight.each o (faulty := []) u (List.range 16) fun _ _ => List.not_mem_nil
  refine ⟨_, run, (waited.mono (m := partMask [.tim, .elapsed, .working, .saf]) rfl |>.step each.acts rfl).reaches, fun n => ?_⟩
  rw [each.demand, each.disc, each.pulse, inputs.pair]
  exact ⟨rfl, rfl, rfl⟩

/-- What the pulse of output `o` leaves at pair `n`, which answered it wrongly (R325, R328). -/
structure PulsedWrong (s t : State) (o : Bool) (n : Nat) : Prop where
  pulse : o ∈ (t.pair n).pulse
  demand : (t.pair n).demand = true
  alarmed : t.Alarmed 0x0A0D
  forced : tbit (s.safPar (0x1020 + n) 2).toNat 0 = true → t.InGlobalSafe
  calm : tbit (s.safPar (0x1020 + n) 2).toNat 0 = false → t.dev = s.dev

theorem SafePair.failed_pulse (o : Bool) (p : SafePair) : o ∈ (p.failed o).pulse := by
  simp only [SafePair.failed]
  split
  · simp_all
  · simp

theorem PulsedWrong.pulsePair (sound : s.Sound) (used : s.sipUsed n = true) (inside : n < s.saf.pairs.length) : PulsedWrong s (s.pulsePair o [n] n) o n := by
  have wrong : s.pulsePair o [n] n = ((s.setPair n (SafePair.failed o)).raise 0x0A0D (pay [n, bit o])).enterDemand n := by
    rw [State.pulsePair, if_neg (by simp [used]), if_pos (by simp)]
  rw [wrong]
  have noted := State.setPair_acts s n (SafePair.failed o)
  have pair : (s.setPair n (SafePair.failed o)).pair n = (s.pair n).failed o := by rw [State.pair_setPair, if_pos ⟨rfl, inside⟩]
  have par : (s.setPair n (SafePair.failed o)).safPar (0x1020 + n) 2 = s.safPar (0x1020 + n) 2 := rfl
  have length : n < (s.setPair n (SafePair.failed o)).saf.pairs.length := by simpa [State.setPair, setNth] using inside
  generalize s.setPair n (SafePair.failed o) = u at *
  have told := (State.raise_acts u 0x0A0D (pay [n, bit o]))
  have alarmed : (u.raise 0x0A0D (pay [n, bit o])).Alarmed 0x0A0D := (alarm_raise ..).trans (if_pos rfl)
  have kept := (SameInputs.refl u).acts told
  generalize u.raise 0x0A0D (pay [n, bit o]) = v at *
  have entered : (v.enterDemand n).pair n = { v.pair n with demand := true } := by
    rw [(v.enterDemand_inputs n).pair, State.pair_setPair, if_pos ⟨rfl, by rwa [kept.pairs]⟩]
  obtain ⟨forced, calm⟩ := State.enterDemand_use (told.sound (noted.sound sound)) n
  have param : v.safPar (0x1020 + n) 2 = s.safPar (0x1020 + n) 2 := (kept.safPar ..).trans par
  rw [param] at forced calm
  refine ⟨?_, by rw [entered], ?_, forced, fun use => (calm use).trans ((told.frame .dev rfl).trans (noted.frame .dev rfl))⟩
  · rw [entered, kept.pair, pair]
    exact SafePair.failed_pulse ..
  · rw [State.Alarmed, alarm_enterDemand (by decide)]
    exact alarmed

theorem PulsedWrong.right (h : PulsedWrong s t o n) (k : PulsedRight t u) : PulsedWrong s u o n where
  pulse := by rw [k.pulse]; exact h.pulse
  demand := by rw [k.demand]; exact h.demand
  alarmed := by rw [State.Alarmed, State.alarm?, show u.alarms = t.alarms from k.acts.frame .alarms rfl]; exact h.alarmed
  forced use := k.global (h.forced use)
  calm use := (k.acts.frame .dev rfl).trans (h.calm use)

theorem exec_testPulse_wrong (sound : s.Sound) (field : s.clk.vfld = true) (drives : (if o then s.pins.sit1 else s.pins.sit0) = true)
    (low : n < 16) (inside : n < s.saf.pairs.length) (used : s.sipUsed n = true) : ∃ t, exec (.testPulse o [n]) s = .next t ∧ PulsedWrong s t o n := by
  have waited := State.pulseTime_acts s o
  have inputs := SameInputs.pulseTime s o
  have run := exec_testPulse_pulsed [n] field drives
  generalize s.pulseTime o = u at *
  obtain ⟨before, after, cut⟩ := List.append_of_mem (List.mem_range.mpr low)
  have once : (n :: (before ++ after)).Nodup := List.nodup_middle.mp (cut ▸ List.nodup_range)
  have others : ∀ k ∈ before ++ after, k ∉ [n] := fun k hk same => (List.nodup_cons.mp once).1 (List.mem_singleton.mp same ▸ hk)
  rw [cut, State.each, List.foldl_append, List.foldl_cons] at run
  have first := PulsedRight.each o u before fun k hk => others k (List.mem_append_left _ hk)
  simp only [State.each] at first
  have waiting := first.acts.sound (waited.sound sound)
  have usedThen : (before.foldl (State.pulsePair o [n]) u).sipUsed n = true := (first.sipUsed n).trans ((inputs.sipUsed n).trans used)
  have par : (before.foldl (State.pulsePair o [n]) u).safPar (0x1020 + n) 2 = s.safPar (0x1020 + n) 2 := by
    rw [State.safPar, first.params, inputs.params, State.safPar]
  have dev : (before.foldl (State.pulsePair o [n]) u).dev = s.dev := (first.acts.frame .dev rfl).trans (waited.frame .dev rfl)
  have length : n < (before.foldl (State.pulsePair o [n]) u).saf.pairs.length := by rwa [first.length, inputs.pairs]
  generalize before.foldl (State.pulsePair o [n]) u = v at *
  have wrong := (PulsedWrong.pulsePair (o := o) waiting usedThen length).right (.each o (faulty := [n]) _ after fun k hk => others k (List.mem_append_right _ hk))
  exact ⟨_, run, wrong.pulse, wrong.demand, wrong.alarmed, par ▸ wrong.forced, fun use => (wrong.calm (par.symm ▸ use)).trans dev⟩

theorem exec_brakeTestPhaseEnd_idle (idle : s.saf.test = none) : exec .brakeTestPhaseEnd s = .next s := by
  rw [exec_brakeTestPhaseEnd, execBrakeTestPhaseEnd, idle]

/-- Settles O33. -/
theorem brakeTestsEndWithTheirResult : Obligations.BrakeTestsEndWithTheirResult := by
  refine ⟨fun s idle => exec_brakeTestPhaseEnd_idle idle, fun b s running low high => exec_brakeTestPhaseEnd_next running low high,
    fun b s sound running last hb => exec_brakeTestPhaseEnd_passed sound running last hb, fun n b s running few => exec_brakeTestMotion_noted running few,
    fun n b s sound running phase hb many => exec_brakeTestMotion_ended sound running phase hb many,
    fun n s sound low hn enabled ordered old fresh => exec_brakeTestDue_due sound hn enabled ordered old fresh low, fun n s idle => exec_brakeTestDue_idle idle,
    fun o s field drives => exec_testPulse_right field drives, fun o n s sound field drives low inside used => ?_, fun o l s idle => exec_testPulse_idle l idle⟩
  obtain ⟨t, run, pulse, demand, alarmed, forced, calm⟩ := exec_testPulse_wrong sound field drives low inside used
  exact ⟨t, run, pulse, demand, alarmed, forced, calm⟩

end

end Sys2Proof.Machine

/-! What a change of the time sources and a request for a copy may change (R286, R300, R346, R347). -/
namespace Sys2Proof.Machine
set_option Elab.async false

section
variable {s t : State}

/-! The selection of the time source. -/

/-- The registers that a change of the selected time source writes. -/
def reselectFields : List Fld :=
  [word32 A_TSU_UTC, word32 A_TSU_SLEW, word32 A_TSU_FREQ, F_TSU_STATUS_SRC, F_TSU_STATUS_HOLDOVER, F_TSU_STATUS_SLEWING, F_TSU_STATUS_LOCKED,
   F_TSU_STATUS_STEP_PEND, F_TSU_EVENT_CONFLICT, F_TSU_EVENT_SRC_CHG, F_TSU_EVENT_HOLD_IN, F_TSU_EVENT_HOLD_OUT] ++ recFields

/-- The alarms that a change of the selected time source raises or ends. -/
def reselectAlarms : List Nat := [0x0202, 0x0203, 0x0205, 0x0206]

theorem recFields_reselect : ∀ f ∈ recFields, f ∈ reselectFields := fun _ hf => List.mem_append_right _ hf

/-- A change within what a change of the selected time source may change. -/
abbrev Reselects (s t : State) : Prop := Changes [.alarms, .rcd, .tim, .regs] reselectFields reselectAlarms s t

theorem Reselects.raise (h : Reselects s t) (c : Nat) (p : List Word) (hc : c ∈ reselectAlarms := by decide) : Reselects s (t.raise c p) :=
  Changes.raise h c p hc recFields_reselect

theorem Reselects.causeGone (h : Reselects s t) (c : Nat) (hc : c ∈ reselectAlarms := by decide) : Reselects s (t.causeGone c) :=
  Changes.causeGone h c hc recFields_reselect

theorem Reselects.setFld (h : Reselects s t) (f : Fld) (v : Nat) (fits : f.fits = true := by rfl) (hf : f ∈ reselectFields := by simp [reselectFields]) :
    Reselects s (t.setFld f v) := Changes.setFld h f v fits hf

theorem Reselects.setFlag (h : Reselects s t) (f : Fld) (b : Bool) (fits : f.fits = true := by rfl) (hf : f ∈ reselectFields := by simp [reselectFields]) :
    Reselects s (t.setFlag f b) := Changes.setFld h f _ fits hf

theorem Reselects.event (h : Reselects s t) (f : Fld) (fits : f.fits = true := by rfl) (hf : f ∈ reselectFields := by simp [reselectFields]) :
    Reselects s (t.event f) := Changes.setFld h f _ fits hf

theorem Reselects.setInt (h : Reselects s t) (a : Nat) (v : Int) (hf : word32 a ∈ reselectFields := by simp [reselectFields]) :
    Reselects s (t.setInt (word32 a) v) := Changes.setInt h (word32 a) v rfl hf

theorem Reselects.updateUtc (h : Reselects s t) : Reselects s t.updateUtc := by
  unfold State.updateUtc
  split
  all_goals exact Changes.setReg h _ _ (by simp [reselectFields])

theorem Reselects.enterHoldover (h : Reselects s t) (lost : Nat) : Reselects s (t.enterHoldover lost) := by
  unfold State.enterHoldover
  extract_lets tim v u
  have marked : Reselects s v := Changes.upd h _
  have shown : Reselects s u := (((marked.setFlag F_TSU_STATUS_HOLDOVER true).setFlag F_TSU_STATUS_SLEWING false).setInt _ 0).setInt _ v.tim.integral
  exact ((shown.setFlag F_TSU_STATUS_LOCKED false).event F_TSU_EVENT_HOLD_IN).raise _ _

theorem Reselects.leaveHoldover (h : Reselects s t) (n : Nat) : Reselects s (t.leaveHoldover n) := by
  unfold State.leaveHoldover
  exact .ite (fun _ => (((h.setFlag F_TSU_STATUS_HOLDOVER false).event F_TSU_EVENT_HOLD_OUT).raise _ _).causeGone _) fun _ => h

theorem Reselects.decideStep (h : Reselects s t) : Reselects s t.decideStep := by
  unfold State.decideStep
  refine .ite (fun _ => h) fun _ => ?_
  have decided : Reselects s { t with tim := { t.tim with stepAt := some ((t.tim.wt + 500 * ms + sec - 1) / sec * sec, none) } } := Changes.upd h _
  exact decided.setFlag F_TSU_STATUS_STEP_PEND true

theorem Reselects.select (h : Reselects s t) (n : Nat) : Reselects s (t.select n) := by
  unfold State.select
  extract_lets old far hold shown tim u v
  refine .ite (fun _ => h) fun _ => ?_
  have chosen : Reselects s shown := (((h.setFld F_TSU_STATUS_SRC n).event F_TSU_EVENT_SRC_CHG).raise _ _).updateUtc
  have noted : Reselects s u := Changes.upd chosen _
  have held : Reselects s v := noted.leaveHoldover n
  refine .ite (fun _ => .ite (fun _ => chosen.enterHoldover old) fun _ => chosen) fun _ => ?_
  exact .ite (fun _ => held.decideStep) fun _ => .ite (fun _ => held) fun _ => (held.setInt _ _).setFlag F_TSU_STATUS_SLEWING _

theorem Reselects.reselect (h : Reselects s t) : Reselects s t.reselect := by
  unfold State.reselect
  extract_lets u
  have told : Reselects s u := .ite (fun _ => (h.event F_TSU_EVENT_CONFLICT).raise _ _) fun _ => h.causeGone _
  exact .ite (fun _ => told) fun _ => told.select _

theorem State.reselect_changes (sound : s.Sound) : Reselects s s.reselect := Reselects.reselect (.refl sound)

/-! A request for a copy of the partner's state. -/

theorem State.requestSync_changes (sound : s.Sound) : Changes [.twn, .regs, .out] [F_TWN_STATUS_SYNCING] [] s s.requestSync := by
  unfold State.requestSync
  refine .ite (fun _ => ?_) fun _ => .refl sound
  have asked : Changes [.twn, .regs, .out] [F_TWN_STATUS_SYNCING] [] s { s with twn := { s.twn with requested := true } } := (Changes.refl sound).upd _
  exact (asked.acts (State.twinSend_acts ..)).setFlag F_TWN_STATUS_SYNCING true

/-- R286: the registers that leaving step writes. -/
def leaveStepFields : List Fld := [F_TWN_STATUS_IN_STEP, F_TWN_EVENT_OOS, bitAt A_CTL_DEGR 4, F_TWN_STATUS_SYNCING] ++ recFields

theorem State.setCond_changes (sound : s.Sound) (n : Nat) (hn : n < 32) (b : Bool) : Changes [.dev, .regs] [bitAt A_CTL_DEGR n] [] s (s.setCond n b) := by
  unfold State.setCond
  extract_lets t
  have shown : Changes [.dev, .regs] [bitAt A_CTL_DEGR n] [] s t := (Changes.refl sound).setFlag _ b (bitAt_fits hn)
  exact .ite (fun _ => .refl sound) fun _ => shown.upd _

theorem State.leaveStep_changes (sound : s.Sound) (reason row : Nat) :
    Changes [.dev, .alarms, .rcd, .twn, .regs, .out] leaveStepFields [0x0406] s (s.leaveStep reason row) := by
  have inRec : ∀ f ∈ recFields, f ∈ leaveStepFields := fun _ hf => List.mem_append_right _ hf
  unfold State.leaveStep
  extract_lets t
  refine .ite (fun _ => ?_) fun _ => .refl sound
  have told : Changes [.dev, .alarms, .rcd, .twn, .regs, .out] leaveStepFields [0x0406] s t :=
    (((Changes.refl sound).setFlag F_TWN_STATUS_IN_STEP false rfl (by simp [leaveStepFields])).event F_TWN_EVENT_OOS rfl (by simp [leaveStepFields])).raise _ _ (by simp) inRec
  have lead := told.when (b := t.isLead) (f := fun u => u.setCond 4 true) fun u hu =>
    hu.trans ((State.setCond_changes hu.sound 4 (by decide) true).mono (hf := by simp [leaveStepFields]) (hc := by simp))
  exact lead.trans ((State.requestSync_changes lead.sound).mono (hf := by simp [leaveStepFields]) (hc := by simp))

/-- R286: a device in step that leaves it shows and tells this. -/
structure LeftStep (s t : State) : Prop where
  changes : Changes [.dev, .alarms, .rcd, .twn, .regs, .out] leaveStepFields [0x0406] s t
  out : t.inStep = false
  told : s.inStep = true → t.Alarmed 0x0406 ∧ t.flag F_TWN_EVENT_OOS = true

theorem State.leaveStep_left (sound : s.Sound) (reason row : Nat) : LeftStep s (s.leaveStep reason row) := by
  suffices h : (s.leaveStep reason row).inStep = false ∧ (s.inStep = true → (s.leaveStep reason row).Alarmed 0x0406 ∧ (s.leaveStep reason row).flag F_TWN_EVENT_OOS = true) from
    ⟨State.leaveStep_changes sound reason row, h.1, h.2⟩
  unfold State.leaveStep
  extract_lets t
  split
  next step =>
    have first := sound.setFlag F_TWN_STATUS_IN_STEP false
    have second := first.event F_TWN_EVENT_OOS
    have soundT : t.Sound := second.raise _ _
    have out : t.inStep = false := by
      refine (flag_raise second _ _ _ (by decide) (by decide)).trans ((flag_event_other first _ _ rfl rfl (.inl (by decide))).trans ?_)
      exact flag_setFlag sound _ _ rfl
    have event : t.flag F_TWN_EVENT_OOS = true := (flag_raise second _ _ _ (by decide) (by decide)).trans (flag_event first _ rfl)
    have alarmed : t.Alarmed 0x0406 := (alarm_raise ..).trans (if_pos rfl)
    clear_value t
    have lead : Changes [.dev, .regs] [bitAt A_CTL_DEGR 4] [] t (t.when t.isLead (fun u => u.setCond 4 true)) :=
      (Changes.refl soundT).when fun u hu => hu.trans (State.setCond_changes hu.sound 4 (by decide) true)
    have asked := State.requestSync_changes lead.sound
    refine ⟨(asked.flag _).trans ((lead.flag _).trans out), fun _ => ⟨?_, (asked.flag _).trans ((lead.flag _).trans event)⟩⟩
    rw [State.Alarmed, asked.alarms _ (by simp), lead.alarms _ (by simp)]
    exact alarmed
  next step => exact ⟨by simpa using step, fun h => absurd h step⟩

end

end Sys2Proof.Machine

/-! The twin link: its lanes, its fall and retransmission (R272, R274, R286). -/
namespace Sys2Proof.Machine
set_option Elab.async false

section
variable {s t : State} {n : Nat}

theorem State.flag_of_reg {f : Fld} (same : t.reg f.addr = s.reg f.addr) : t.flag f = s.flag f := by
  rw [State.flag, State.flag, State.fld, State.fld, same]

/-! Lanes (R274). -/

/-- R274: the bit that shows lane `n` up. -/
def laneBit (n : Nat) : Fld := bitAt A_TWN_STATUS (10 + n)

theorem laneBit_fits (hn : n < 2) : (laneBit n).fits = true := bitAt_fits (by omega)

theorem State.linkUp_of_lane (hn : n < 2) (up : s.flag (laneBit n) = true) : s.linkUp = true := by
  have lanes : s.linkUp = ((s.reg A_TWN_STATUS).toNat / 2 ^ 10 % 4 != 0) := rfl
  rw [laneBit, State.flag_bitAt, tbit] at up
  rw [lanes, bne_iff_ne]
  obtain rfl | rfl : n = 0 ∨ n = 1 := by omega
  · simp only [beq_iff_eq] at up
    omega
  · simp only [beq_iff_eq] at up
    omega

/-- R274: the lane `n` is down, with its event. -/
def State.laneDown (s : State) (n : Nat) : State := (s.setFlag (laneBit n) false).event F_TWN_EVENT_LANE_LOST

/-- R274: since when lane `n` is retried, and since when no lane is up. -/
def State.laneTimes (s : State) (n : Nat) : State :=
  { s with twn := { s.twn with laneLost := aset s.twn.laneLost n s.tim.el, downSince := if s.linkUp then s.twn.downSince else some s.tim.el } }

theorem State.loseLane_up (on : s.twinOn = true) (hn : n < 2) (up : s.flag (laneBit n) = true) :
    s.loseLane n = ((s.laneDown n).laneTimes n).raise 0x0401 (pay [n]) := if_pos (by simp [on, hn, show s.flag (bitAt A_TWN_STATUS (10 + n)) = true from up])

theorem exec_twinLaneLost_up (sound : s.Sound) (on : s.twinOn = true) (hn : n < 2) (up : s.flag (laneBit n) = true) :
    ∃ t, exec (.twinLaneLost n) s = .next t ∧ t.flag (laneBit n) = false ∧ t.flag F_TWN_EVENT_LANE_LOST = true ∧ t.Alarmed 0x0401 ∧ AlarmsBut [0x0401] s t ∧
    t.twn = { s.twn with laneLost := aset s.twn.laneLost n s.tim.el, downSince := if t.linkUp then s.twn.downSince else some s.tim.el } ∧
    Frame [.alarms, .rcd, .twn, .regs] s t ∧ FieldsBut (laneBit n :: F_TWN_EVENT_LANE_LOST :: recFields) s t := by
  have run : exec (.twinLaneLost n) s = .next (((s.laneDown n).laneTimes n).raise 0x0401 (pay [n])) := by
    rw [exec_twinLaneLost, execTwinLaneLost, State.loseLane_up on hn up]
  have first := sound.setFlag (laneBit n) false
  have down : Changes [.alarms, .rcd, .twn, .regs] (laneBit n :: F_TWN_EVENT_LANE_LOST :: recFields) [0x0401] s (s.laneDown n) :=
    ((Changes.refl sound).setFlag _ _ (laneBit_fits hn)).event _
  have lane : (s.laneDown n).flag (laneBit n) = false :=
    (flag_event_other first F_TWN_EVENT_LANE_LOST _ rfl (laneBit_fits hn) (.inl (show A_TWN_STATUS ≠ A_TWN_EVENT by decide))).trans (flag_setFlag sound _ _ (laneBit_fits hn))
  have event : (s.laneDown n).flag F_TWN_EVENT_LANE_LOST = true := flag_event first _ rfl
  have twn : ((s.laneDown n).laneTimes n).twn = { s.twn with
    laneLost := aset s.twn.laneLost n s.tim.el, downSince := if (s.laneDown n).linkUp then s.twn.downSince else some s.tim.el } := rfl
  generalize s.laneDown n = u at *
  have timed := down.upd (u.laneTimes n)
  have regs : (u.laneTimes n).regs = u.regs := rfl
  generalize u.laneTimes n = v at *
  have told : Changes [.alarms, .rcd, .regs] recFields [0x0401] v (v.raise 0x0401 (pay [n])) := (Changes.refl timed.sound).raise _ _
  have whole := timed.raise 0x0401 (pay [n])
  have link : (v.raise 0x0401 (pay [n])).linkUp = u.linkUp := by
    rw [State.linkUp, State.linkUp, told.fld F_TWN_STATUS_LANES, State.fld_of_regs regs]
  refine ⟨_, run, ?_, ?_, (alarm_raise ..).trans (if_pos rfl), whole.alarms, ?_, whole.frame, whole.fields⟩
  · rw [flag_raise timed.sound _ _ _ (show A_TWN_STATUS ≠ _ by decide) (show A_TWN_STATUS ≠ _ by decide), State.flag_of_regs regs, lane]
  · rw [told.flag F_TWN_EVENT_LANE_LOST, State.flag_of_regs regs, event]
  · rw [told.frame .twn (by simp), twn, link]

theorem exec_twinLaneRetry_waiting {e : Nat} (lost : afind s.twn.laneLost n = some e) : ∃ t, exec (.twinLaneRetry n) s = .next t ∧
    t.tim.el = Nat.max s.tim.el (e + 100 * ms) ∧ t.twn = { s.twn with laneLost := aset s.twn.laneLost n t.tim.el } ∧
    Frame [.tim, .elapsed, .working, .twn] s t := by
  have run : exec (.twinLaneRetry n) s = .next { s.reachEl (e + 100 * ms) with twn :=
      { (s.reachEl (e + 100 * ms)).twn with laneLost := aset (s.reachEl (e + 100 * ms)).twn.laneLost n (s.reachEl (e + 100 * ms)).tim.el } } := by
    rw [exec_twinLaneRetry, execTwinLaneRetry, lost]
  generalize e + 100 * ms = e at *
  have waited := State.reachEl_acts s e
  have el := State.reachEl_max s e
  have twn : (s.reachEl e).twn = s.twn := waited.frame .twn rfl
  generalize s.reachEl e = u at *
  have noted : Frame [.twn] u { u with twn := { u.twn with laneLost := aset u.twn.laneLost n u.tim.el } } := by
    intro p hp
    cases p <;> first | rfl | simp at hp
  exact ⟨_, run, el, by rw [twn], waited.reaches.trans (noted.mono (by simp))⟩

/-- R274: the lane `n` is up. -/
def State.laneUp (s : State) (n : Nat) : State :=
  { s with twn := { s.twn with laneLost := adel s.twn.laneLost n, downSince := none } }.setFlag (laneBit n) true

/-- R274: the alarms whose cause lane `n` ends as it comes up. -/
def State.laneReported (s : State) : State :=
  if (s.causeGone 0x0402).fld F_TWN_STATUS_LANES = 3 then (s.causeGone 0x0402).causeGone 0x0401 else s.causeGone 0x0402

theorem exec_twinLaneUp_on (on : s.twinOn = true) (hn : n < 2) :
    exec (.twinLaneUp n) s = .next (s.laneUp n).laneReported.requestSync.reselect := by
  rw [exec_twinLaneUp, execTwinLaneUp, if_pos (by simp [on, hn])]
  rfl

theorem State.laneReported_changes (sound : s.Sound) : Changes [.alarms, .rcd, .regs] recFields [0x0401, 0x0402] s s.laneReported :=
  .ite (fun _ => ((Changes.refl sound).causeGone _).causeGone _) fun _ => (Changes.refl sound).causeGone _

theorem State.laneReported_gone (sound : s.Sound) : s.laneReported.CauseGone 0x0402 ∧ (s.fld F_TWN_STATUS_LANES = 3 → s.laneReported.CauseGone 0x0401) := by
  have lanes : (s.causeGone 0x0402).fld F_TWN_STATUS_LANES = s.fld F_TWN_STATUS_LANES :=
    ((Changes.refl sound).causeGone (ps := [.alarms, .rcd, .regs]) (fs := recFields) (cs := [0x0402]) 0x0402).fld _
  unfold State.laneReported
  rw [lanes]
  split
  next both =>
    exact ⟨(State.causeGone_causeGone s 0x0402).kept (alarm_causeGone_other (by decide)), fun _ => State.causeGone_causeGone _ 0x0401⟩
  next single => exact ⟨State.causeGone_causeGone s 0x0402, fun both => absurd both single⟩

/-! What the operations of the link leave of the twin state. -/

/-- The twin state of `s` but for the buffers of the link. -/
def SameTwin (s t : State) : Prop := ∃ l, t.twn = { s.twn with link := l }

theorem SameTwin.refl (s : State) : SameTwin s s := ⟨s.twn.link, rfl⟩

theorem SameTwin.trans {u : State} (h : SameTwin s t) (k : SameTwin t u) : SameTwin s u := by
  obtain ⟨l, hl⟩ := h
  obtain ⟨m, hm⟩ := k
  exact ⟨m, by rw [hm, hl]⟩

theorem State.twinEmit_same (s : State) (f : TwinFrame) : SameTwin s (s.twinEmit f) := ⟨_, rfl⟩

theorem State.twinDrain_same (n : Nat) (s : State) : SameTwin s (s.twinDrain n) := by
  induction n generalizing s with
  | zero => exact .refl s
  | succ n ih =>
    rw [State.twinDrain]
    split
    · exact (s.twinEmit_same _).trans (ih _)
    · exact .refl s

theorem State.twinPush_same (s : State) : SameTwin s s.twinPush := s.twinDrain_same _

theorem State.twinSend_same (s : State) (vc : Nat) (kind : MsgKind) (data : List Int) : SameTwin s (s.twinSend vc kind data) := by
  unfold State.twinSend
  extract_lets f
  split
  · have queued : SameTwin s { s with twn := { s.twn with link := { s.twn.link with queue := s.twn.link.queue ++ [f] } } } := ⟨_, rfl⟩
    exact queued.trans (State.twinPush_same _)
  · exact .refl s

/-- What a request for a copy leaves of the twin state. -/
theorem State.requestSync_keeps (s : State) : s.requestSync.twn.laneLost = s.twn.laneLost ∧ s.requestSync.twn.downSince = s.twn.downSince := by
  unfold State.requestSync
  split
  · have lost : ({ s with twn := { s.twn with requested := true } } : State).twn.laneLost = s.twn.laneLost := rfl
    have since : ({ s with twn := { s.twn with requested := true } } : State).twn.downSince = s.twn.downSince := rfl
    generalize ({ s with twn := { s.twn with requested := true } } : State) = u at *
    obtain ⟨l, hl⟩ := State.twinSend_same u 2 .syncReq []
    rw [show ((u.twinSend 2 .syncReq []).setFlag F_TWN_STATUS_SYNCING true).twn = _ from ((State.setFlag_acts ..).frame .twn rfl).trans hl]
    exact ⟨lost, since⟩
  · exact ⟨rfl, rfl⟩

theorem exec_twinLaneUp_shown (sound : s.Sound) (on : s.twinOn = true) (hn : n < 2) : ∃ t, exec (.twinLaneUp n) s = .next t ∧
    t.flag (laneBit n) = true ∧ afind t.twn.laneLost n = none ∧ t.twn.downSince = none ∧ t.linkUp = true ∧ t.CauseGone 0x0402 ∧
    (t.fld F_TWN_STATUS_LANES = 3 → t.CauseGone 0x0401) ∧ Frame [.alarms, .rcd, .tim, .twn, .regs, .out] s t := by
  have run := exec_twinLaneUp_on on hn
  have noted : Changes [.twn, .regs] [laneBit n] [] s { s with twn := { s.twn with laneLost := adel s.twn.laneLost n, downSince := none } } :=
    (Changes.refl sound).upd _
  have up : Changes [.twn, .regs] [laneBit n] [] s (s.laneUp n) := noted.setFlag _ _ (laneBit_fits hn)
  have lane : (s.laneUp n).flag (laneBit n) = true := flag_setFlag noted.sound _ _ (laneBit_fits hn)
  have twn : (s.laneUp n).twn = { s.twn with laneLost := adel s.twn.laneLost n, downSince := none } := rfl
  generalize s.laneUp n = u at *
  have reported := State.laneReported_changes up.sound
  obtain ⟨down, single⟩ := State.laneReported_gone up.sound
  generalize u.laneReported = v at *
  have asked := State.requestSync_changes reported.sound
  obtain ⟨lost, since⟩ := State.requestSync_keeps v
  generalize v.requestSync = w at *
  have chosen := State.reselect_changes asked.sound
  have sameTwn : w.reselect.twn = w.twn := chosen.frame .twn (by simp)
  have sameReg : w.reselect.reg A_TWN_STATUS = w.reg A_TWN_STATUS := chosen.reg _ (by decide)
  generalize w.reselect = x at *
  have lanes : x.fld F_TWN_STATUS_LANES = u.fld F_TWN_STATUS_LANES := by
    rw [chosen.fld F_TWN_STATUS_LANES, asked.fld F_TWN_STATUS_LANES, reported.fld F_TWN_STATUS_LANES]
  have bit : x.flag (laneBit n) = true := by
    have syncing : F_TWN_STATUS_SYNCING.apart (laneBit n) := .inr (.inr (show 10 + n < 18 by omega))
    have other : v.flag (laneBit n) = u.flag (laneBit n) := State.flag_of_reg (reported.reg A_TWN_STATUS (by decide))
    rw [State.flag_of_reg (f := laneBit n) sameReg, asked.flag (laneBit n) (laneBit_fits hn) (by simpa using syncing), other, lane]
  have kept {c : Nat} (hc : c ∉ reselectAlarms) : x.alarm? c = v.alarm? c := (chosen.alarms c hc).trans (asked.alarms c (by simp))
  refine ⟨_, run, bit, ?_, ?_, State.linkUp_of_lane hn bit, down.kept (kept (by decide)), fun both => (single (lanes ▸ both)).kept (kept (by decide)), ?_⟩
  · rw [sameTwn, lost, reported.frame .twn (by simp), twn]
    exact afind_adel_self ..
  · rw [sameTwn, since, reported.frame .twn (by simp), twn]
  · exact (((up.frame.mono (by simp)).trans (reported.frame.mono (by simp))).trans (asked.frame.mono (by simp))).trans (chosen.frame.mono (by simp))

/-! The fall of the link (R274, R286). -/

/-- R274: what the device shows and tells of the fall of the link, since when no lane was up for 1 ms being `e`. -/
def State.linkLost (s : State) (e : Nat) : State := ((s.reachEl (e + ms)).event F_TWN_EVENT_LINK_DOWN).raise 0x0402

/-- R286: both ends begin anew. -/
def State.linkAnew (s : State) : State :=
  { s with twn := { s.twn with
    link := {}, downSince := none, helloAt := none, answered := false, requested := false, copyDueBy := none, joining := none, partnerWantsCopy := false } }

/-- R286: the partner counts as not met, and no copy runs. -/
def State.forgetPeer (s : State) : State := (s.setFlag F_TWN_STATUS_PEER_MET false).setFlag F_TWN_STATUS_SYNCING false

theorem exec_twinLinkDown_off {e : Nat} (on : s.twinOn = true) (down : s.linkUp = false) (since : s.twn.downSince = some e) :
    exec .twinLinkDown s = .next ((s.linkLost e).leaveStep 4 0).forgetPeer.linkAnew.reselect := by
  rw [exec_twinLinkDown, execTwinLinkDown, since]
  exact congrArg Host.Outcome.next (if_pos (by simp [on, down]))

theorem State.linkLost_shows (sound : s.Sound) (e : Nat) :
    Changes [.alarms, .rcd, .tim, .elapsed, .working, .regs] (F_TWN_EVENT_LINK_DOWN :: recFields) [0x0402] s (s.linkLost e) ∧
    (s.linkLost e).flag F_TWN_EVENT_LINK_DOWN = true ∧ (s.linkLost e).Alarmed 0x0402 ∧ e + ms ≤ (s.linkLost e).tim.el := by
  have waited : Changes [.alarms, .rcd, .tim, .elapsed, .working, .regs] (F_TWN_EVENT_LINK_DOWN :: recFields) [0x0402] s (s.reachEl (e + ms)) :=
    (Changes.refl sound).acts (State.reachEl_acts ..)
  have el := State.reachEl_max s (e + ms)
  unfold State.linkLost
  generalize s.reachEl (e + ms) = u at *
  have event : (u.event F_TWN_EVENT_LINK_DOWN).flag F_TWN_EVENT_LINK_DOWN = true := flag_event waited.sound _ rfl
  have shown := waited.event F_TWN_EVENT_LINK_DOWN
  have tim : (u.event F_TWN_EVENT_LINK_DOWN).tim = u.tim := rfl
  generalize u.event F_TWN_EVENT_LINK_DOWN = v at *
  have told := State.raise_acts v 0x0402 []
  refine ⟨shown.raise _ _, (flag_raise shown.sound _ _ _ (by decide) (by decide)).trans event, (alarm_raise ..).trans (if_pos rfl), ?_⟩
  rw [told.frame .tim rfl, tim, el]
  exact Nat.le_max_right ..

theorem exec_twinLinkDown_shown {e : Nat} (sound : s.Sound) (on : s.twinOn = true) (down : s.linkUp = false) (since : s.twn.downSince = some e) :
    ∃ t, exec .twinLinkDown s = .next t ∧ t.flag F_TWN_EVENT_LINK_DOWN = true ∧
    t.Alarmed 0x0402 ∧ t.peerMet = false ∧ t.inStep = false ∧ (s.inStep = true → t.Alarmed 0x0406 ∧ t.flag F_TWN_EVENT_OOS = true) ∧
    t.twn.requested = false ∧ t.twn.joining = none ∧ t.twn.link = {} ∧ t.twn.downSince = none ∧ e + ms ≤ t.tim.el ∧
    Frame [.dev, .alarms, .rcd, .tim, .elapsed, .working, .twn, .regs, .out] s t := by
  have run := exec_twinLinkDown_off on down since
  obtain ⟨lost, event, alarmed, time⟩ := State.linkLost_shows sound e
  generalize s.linkLost e = u at *
  obtain ⟨left, out, told⟩ := State.leaveStep_left lost.sound 4 0
  generalize u.leaveStep 4 0 = v at *
  have forgot : Changes [.regs] [F_TWN_STATUS_PEER_MET, F_TWN_STATUS_SYNCING] [] v v.forgetPeer :=
    ((Changes.refl left.sound).setFlag _ _).setFlag _ _
  have met : v.forgetPeer.peerMet = false :=
    (flag_setFlag_other (left.sound.setFlag _ _) _ _ _ rfl rfl (by decide)).trans (flag_setFlag left.sound _ _ rfl)
  generalize v.forgetPeer = w at *
  have anew : Changes [.twn] [] [] w w.linkAnew := (Changes.refl forgot.sound).upd _
  have begun : w.linkAnew.twn.requested = false ∧ w.linkAnew.twn.joining = none ∧ w.linkAnew.twn.link = {} ∧ w.linkAnew.twn.downSince = none := ⟨rfl, rfl, rfl, rfl⟩
  generalize w.linkAnew = x at *
  have chosen := State.reselect_changes anew.sound
  have el : x.reselect.tim.el = x.tim.el := chosen.frame .elapsed (by simp)
  generalize x.reselect = y at *
  have kept {c : Nat} (hc : c ∉ reselectAlarms) : y.alarm? c = v.alarm? c :=
    (chosen.alarms c hc).trans ((anew.alarms c (by simp)).trans (forgot.alarms c (by simp)))
  have shown {f : Fld} (fits : f.fits = true) (h1 : ∀ g ∈ [F_TWN_STATUS_PEER_MET, F_TWN_STATUS_SYNCING], g.apart f) (h2 : ∀ g ∈ reselectFields, g.apart f) :
      y.flag f = v.flag f := (chosen.flag f fits h2).trans ((anew.flag f fits (by simp)).trans (forgot.flag f fits h1))
  have tim : x.tim = u.tim := (anew.frame .tim (by simp)).trans ((forgot.frame .tim (by simp)).trans (left.frame .tim (by simp)))
  have instep : u.inStep = s.inStep := lost.flag F_TWN_STATUS_IN_STEP
  refine ⟨_, run, ?_, ?_, ?_, ?_, fun step => ?_, ?_, ?_, ?_, ?_, ?_, ?_⟩
  · rw [shown rfl (by unfold Fld.apart; decide) (by unfold Fld.apart; decide), left.flag F_TWN_EVENT_LINK_DOWN, event]
  · rw [State.Alarmed, kept (by decide), left.alarms _ (by decide)]
    exact alarmed
  · exact ((chosen.flag F_TWN_STATUS_PEER_MET).trans (anew.flag F_TWN_STATUS_PEER_MET)).trans met
  · exact (shown rfl (by unfold Fld.apart; decide) (by unfold Fld.apart; decide)).trans out
  · obtain ⟨alarm, flag⟩ := told (instep.trans step)
    refine ⟨?_, (shown rfl (by unfold Fld.apart; decide) (by unfold Fld.apart; decide)).trans flag⟩
    rw [State.Alarmed, kept (by decide)]
    exact alarm
  · rw [chosen.frame .twn (by simp), begun.1]
  · rw [chosen.frame .twn (by simp), begun.2.1]
  · rw [chosen.frame .twn (by simp), begun.2.2.1]
  · rw [chosen.frame .twn (by simp), begun.2.2.2]
  · rw [el, tim]
    exact time
  · exact ((((lost.frame.mono (by simp)).trans (left.frame.mono (by simp))).trans (forgot.frame.mono (by simp))).trans (anew.frame.mono (by simp))).trans
      (chosen.frame.mono (by simp))

/-! Retransmission (R272). -/

/-- R272: the link once the frames of channel `vc` before the one with number `f` count as acknowledged. -/
def TwinLink.acknowledged (l : TwinLink) (vc f : Nat) : TwinLink := { l with held := l.held.filter (fun g => !g.acked vc ((f + 65535) % 65536)) }

/-- R272: the held frames of channel `vc` from the one with number `f`. -/
def TwinLink.again (l : TwinLink) (vc f : Nat) : List TwinFrame := l.held.filter (fun g => g.vc == vc && !g.acked vc ((f + 65535) % 65536))

/-- R272: a held frame leaves again. -/
def State.twinAgain (s : State) (l : TwinLink) (f : TwinFrame) : State := s.send .twin f.kind (l.header f ++ f.data)

theorem State.twinAgain_all (s : State) (k : TwinLink) (l : List TwinFrame) :
    s.Sends (l.foldl (fun u f => u.twinAgain k f) s) (l.map (fun f => ⟨.twin, f.kind, k.header f ++ f.data⟩)) ∧
      Acts (partMask [.out]) s (l.foldl (fun u f => u.twinAgain k f) s) := by
  induction l generalizing s with
  | nil => exact ⟨(List.append_nil _).symm, .refl s⟩
  | cons f l ih =>
    obtain ⟨sends, acts⟩ := ih (s.twinAgain k f)
    refine ⟨?_, Acts.step (State.send_acts ..) acts rfl⟩
    rw [State.Sends, List.foldl_cons, sends, show (s.twinAgain k f).out = s.out ++ [⟨.twin, f.kind, k.header f ++ f.data⟩] from rfl, List.append_assoc]
    rfl

theorem State.retransmit_eq {v f : Nat} (on : s.twinOn = true) (up : s.linkUp = true) : s.retransmit v f =
    (s.twn.link.again v f).foldl (fun u g => u.twinAgain s.twn.link g)
      (({ s with twn := { s.twn with link := s.twn.link.acknowledged v f } } : State).bump (word32 A_TWN_CNT_RETX) (s.twn.link.again v f).length) := by
  have same : (s.twn.link.acknowledged v f).held.filter (fun g => g.vc == v) = s.twn.link.again v f := List.filter_filter
  rw [← same]
  exact if_pos (by simp [on, up])

theorem State.retransmit_shown {v f : Nat} (sound : s.Sound) (on : s.twinOn = true) (up : s.linkUp = true) :
    s.Sends (s.retransmit v f) ((s.twn.link.again v f).map (fun g => ⟨.twin, g.kind, s.twn.link.header g ++ g.data⟩)) ∧
    (s.retransmit v f).twn = { s.twn with link := s.twn.link.acknowledged v f } ∧
    (s.retransmit v f).fld (word32 A_TWN_CNT_RETX) = Nat.min 4294967295 (s.fld (word32 A_TWN_CNT_RETX) + (s.twn.link.again v f).length) ∧
    Frame [.twn, .regs, .out] s (s.retransmit v f) ∧ FieldsBut [word32 A_TWN_CNT_RETX] s (s.retransmit v f) := by
  rw [State.retransmit_eq on up]
  generalize s.twn.link.again v f = l
  have noted : Changes [.twn, .regs, .out] [word32 A_TWN_CNT_RETX] [] s { s with twn := { s.twn with link := s.twn.link.acknowledged v f } } := (Changes.refl sound).upd _
  have counted := noted.bump (word32 A_TWN_CNT_RETX) l.length
  have count := State.fld_bump noted.sound (word32 A_TWN_CNT_RETX) l.length
  have twn : (({ s with twn := { s.twn with link := s.twn.link.acknowledged v f } } : State).bump (word32 A_TWN_CNT_RETX) l.length).twn =
    { s.twn with link := s.twn.link.acknowledged v f } := rfl
  have out : (({ s with twn := { s.twn with link := s.twn.link.acknowledged v f } } : State).bump (word32 A_TWN_CNT_RETX) l.length).out = s.out := rfl
  generalize ({ s with twn := { s.twn with link := s.twn.link.acknowledged v f } } : State).bump (word32 A_TWN_CNT_RETX) l.length = u at *
  obtain ⟨sends, acts⟩ := State.twinAgain_all u s.twn.link l
  have whole := counted.acts acts
  refine ⟨?_, (acts.frame .twn rfl).trans twn, ?_, whole.frame, whole.fields⟩
  · rw [State.Sends, sends, out]
  · rw [State.fld_of_regs (acts.frame .regs rfl), count]
    rfl

/-- Settles O25. -/
theorem theTwinLinkFailsRetriesAndRetransmits : Obligations.TheTwinLinkFailsRetriesAndRetransmits := by
  refine ⟨fun n s sound on hn up => exec_twinLaneLost_up sound on hn up, fun n e s lost => exec_twinLaneRetry_waiting lost,
    fun n s sound on hn => exec_twinLaneUp_shown sound on hn, fun e s sound on down since => exec_twinLinkDown_shown sound on down since,
    fun v f l s sound on up again => ⟨_, exec_twinRetransmit v f s, again ▸ State.retransmit_shown sound on up⟩,
    fun v f l s sound on up again => ⟨_, exec_twinNak v f s, again ▸ State.retransmit_shown sound on up⟩, fun v f s off => ?_⟩
  have idle : s.retransmit v f = s := if_neg (by obtain h | h := off <;> simp [h])
  rw [exec_twinRetransmit, exec_twinNak, execTwinRetransmit, execTwinNak, idle]
  exact ⟨rfl, rfl⟩

end

end Sys2Proof.Machine

/-! Frames that count (R272), and the copy that brings a device into step (R300, R301). -/
namespace Sys2Proof.Machine
set_option Elab.async false

section
variable {s t : State} {g : TwinHeader} {v : Nat}

/-! A frame that counts (R272, R273). -/

/-- The device with another state of the twin link. -/
def State.withLink (s : State) (l : TwinLink) : State := { s with twn := { s.twn with link := l } }

theorem State.withLink_acts (s : State) (l : TwinLink) : Acts (partMask [.twn]) s (s.withLink l) :=
  Acts.upd_twn (m := partMask [.twn]) (.refl s) rfl (.inr rfl)

theorem State.twinPush_idle (empty : s.twn.link.queue = []) : s.twinPush = s := by
  rw [State.twinPush, empty]
  rfl

theorem State.onFrame_takes (takes : s.takesFrame v g = true) (f : State → State) : s.onFrame v g f = (f (s.withLink (s.linkAfter v g))).twinPush := by
  simp only [State.takesFrame, Bool.and_eq_true, beq_iff_eq] at takes
  obtain ⟨⟨⟨on, up⟩, crc⟩, next⟩ := takes
  unfold State.onFrame
  rw [if_neg (by simp [on, up]), if_neg (by simp [crc])]
  exact if_pos next

/-- A frame that counts, whose consumer leaves the link alone, does what its consumer does. -/
theorem State.onFrame_done (takes : s.takesFrame v g = true) (empty : s.twn.link.queue = []) (f : State → State)
    (kept : (f (s.withLink (s.linkAfter v g))).twn.link = s.linkAfter v g) : s.onFrame v g f = f (s.withLink (s.linkAfter v g)) := by
  rw [State.onFrame_takes takes, State.twinPush_idle]
  rw [kept]
  exact empty

/-! A request for the copy (R301). -/

theorem State.partnerLeft_out (sound : s.Sound) : s.partnerLeft.inStep = false := by
  unfold State.partnerLeft
  extract_lets t
  split
  next step =>
    have out : t.inStep = false := flag_setFlag sound _ _ rfl
    have lead : Changes [.dev, .regs] [bitAt A_CTL_DEGR 4] [] t (t.when t.isLead (fun u => u.setCond 4 true)) :=
      (Changes.refl (sound.setFlag _ _)).when fun u hu => hu.trans (State.setCond_changes hu.sound 4 (by decide) true)
    exact (lead.flag _).trans out
  next step => simpa using step

/-- R301: the partner asks for the copy, which is frozen at the next pour. -/
def State.copyWanted (s : State) : State := { s.partnerLeft with twn := { s.partnerLeft.twn with partnerWantsCopy := true, joining := none } }

theorem exec_syncReqFrame_takes (takes : s.takesFrame 2 g = true) : exec (.syncReqFrame g) s =
    .next (let t := s.withLink (s.linkAfter 2 g); if t.peerMet && !t.split && t.fullCycle then t.copyWanted else t).twinPush :=
  congrArg Host.Outcome.next (State.onFrame_takes takes _)

theorem exec_syncReqFrame_wanted (sound : s.Sound) (takes : s.takesFrame 2 g = true) (empty : s.twn.link.queue = []) (met : s.peerMet = true)
    (whole : s.split = false) (full : s.fullCycle = true) : ∃ t, exec (.syncReqFrame g) s = .next t ∧
    t.twn = { s.twn with link := s.linkAfter 2 g, partnerWantsCopy := true, joining := none } ∧ t.inStep = false ∧ Frame [.dev, .twn, .regs] s t := by
  have run := exec_syncReqFrame_takes takes
  have linked := State.withLink_acts s (s.linkAfter 2 g)
  have wanted : ((s.withLink (s.linkAfter 2 g)).peerMet && !(s.withLink (s.linkAfter 2 g)).split && (s.withLink (s.linkAfter 2 g)).fullCycle) = true := by
    rw [show (s.withLink (s.linkAfter 2 g)).peerMet = s.peerMet from rfl, show (s.withLink (s.linkAfter 2 g)).split = s.split from rfl,
      show (s.withLink (s.linkAfter 2 g)).fullCycle = s.fullCycle from rfl, met, whole, full]
    rfl
  have twn : (s.withLink (s.linkAfter 2 g)).twn = { s.twn with link := s.linkAfter 2 g } := rfl
  simp only [wanted, if_true] at run
  generalize s.withLink (s.linkAfter 2 g) = u at *
  have left := State.partnerLeft_acts u
  have out := State.partnerLeft_out (linked.sound sound)
  have noted : Acts (partMask [.twn]) u.partnerLeft u.copyWanted := Acts.upd_twn (m := partMask [.twn]) (.refl _) rfl (.inr rfl)
  have now : u.copyWanted.twn = { s.twn with link := s.linkAfter 2 g, partnerWantsCopy := true, joining := none } := by
    rw [State.copyWanted, left.frame .twn rfl, twn]
  have queue : u.copyWanted.twn.link.queue = [] := (congrArg (fun w : Twn => w.link.queue) now).trans empty
  rw [State.twinPush_idle queue] at run
  exact ⟨_, run, now, out, linked.reaches.trans ((left.reaches).trans (noted.reaches))⟩

theorem exec_syncReqFrame_early (takes : s.takesFrame 2 g = true) (empty : s.twn.link.queue = []) (parted : s.fullCycle = false) :
    ∃ t, exec (.syncReqFrame g) s = .next t ∧ t.twn = { s.twn with link := s.linkAfter 2 g } ∧ Frame [.twn] s t := by
  have run := exec_syncReqFrame_takes takes
  have early : ((s.withLink (s.linkAfter 2 g)).peerMet && !(s.withLink (s.linkAfter 2 g)).split && (s.withLink (s.linkAfter 2 g)).fullCycle) = false := by
    rw [show (s.withLink (s.linkAfter 2 g)).fullCycle = s.fullCycle from rfl, parted, Bool.and_false]
  simp only [early, Bool.false_eq_true, if_false] at run
  rw [State.twinPush_idle (s := s.withLink (s.linkAfter 2 g)) empty] at run
  exact ⟨_, run, rfl, (State.withLink_acts ..).reaches⟩

/-! The parts of the copy (R300, R301). -/

theorem exec_stateFrame_ignored (takes : s.takesFrame 0 g = true) (empty : s.twn.link.queue = []) (idle : s.twn.requested = false ∨ s.inStep = true) (c : TwinChunk) :
    ∃ t, exec (.stateFrame g c) s = .next t ∧ t.twn = { s.twn with link := s.linkAfter 0 g } ∧ Frame [.twn] s t := by
  have ignored : (if (s.withLink (s.linkAfter 0 g)).twn.requested && !(s.withLink (s.linkAfter 0 g)).inStep then (s.withLink (s.linkAfter 0 g)).applyChunk c
      else s.withLink (s.linkAfter 0 g)) = s.withLink (s.linkAfter 0 g) := by
    refine if_neg ?_
    rw [show (s.withLink (s.linkAfter 0 g)).twn.requested = s.twn.requested from rfl, show (s.withLink (s.linkAfter 0 g)).inStep = s.inStep from rfl]
    obtain h | h := idle <;> simp [h]
  have run : exec (.stateFrame g c) s = .next (s.withLink (s.linkAfter 0 g)) :=
    congrArg Host.Outcome.next ((State.onFrame_done takes empty _ (by rw [ignored]; rfl)).trans ignored)
  exact ⟨_, run, rfl, (State.withLink_acts ..).reaches⟩

theorem exec_stateFrame_copies (copies : s.Copies g) (c : TwinChunk)
    (kept : ((s.withLink (s.linkAfter 0 g)).applyChunk c).twn.link = s.linkAfter 0 g) :
    exec (.stateFrame g c) s = .next ((s.withLink (s.linkAfter 0 g)).applyChunk c) := by
  obtain ⟨takes, empty, requested, out⟩ := copies
  have applied : (if (s.withLink (s.linkAfter 0 g)).twn.requested && !(s.withLink (s.linkAfter 0 g)).inStep then (s.withLink (s.linkAfter 0 g)).applyChunk c
      else s.withLink (s.linkAfter 0 g)) = (s.withLink (s.linkAfter 0 g)).applyChunk c := by
    refine if_pos ?_
    rw [show (s.withLink (s.linkAfter 0 g)).twn.requested = s.twn.requested from rfl, show (s.withLink (s.linkAfter 0 g)).inStep = s.inStep from rfl, requested, out]
    rfl
  exact congrArg Host.Outcome.next ((State.onFrame_done takes empty _ (by rw [applied]; exact kept)).trans applied)

theorem exec_stateFrame_mould {k : Nat} {m : Mould} (copies : s.Copies g) (l : List (Nat × Word)) (mould : s.mould? k = some m) :
    ∃ t, exec (.stateFrame g (.mould k l)) s = .next t ∧
    t.mould? k = some { m with live := l.foldl (fun (a : Sparse 32) e => memSet zeroCell a e.1 e.2) m.live } ∧
    (∀ j, j ≠ k → t.mould? j = s.mould? j) ∧ Frame [.slv, .twn] s t := by
  have applied : (s.withLink (s.linkAfter 0 g)).applyChunk (.mould k l) = { s.withLink (s.linkAfter 0 g) with slv :=
      { s.slv with moulds := aset s.slv.moulds k { m with live := l.foldl (fun (a : Sparse 32) e => memSet zeroCell a e.1 e.2) m.live } } } := by
    have same : afind (s.withLink (s.linkAfter 0 g)).slv.moulds k = some m := mould
    rw [State.applyChunk, same]
    rfl
  have run := exec_stateFrame_copies copies (.mould k l) (by rw [applied]; rfl)
  rw [applied] at run
  refine ⟨_, run, afind_aset_self .., fun j hj => afind_aset_other hj, fun p hp => ?_⟩
  cases p <;> first | rfl | simp at hp

/-! The end of the copy (R301). -/

/-- R301: the device joins at the freeze after the cycle `e`. -/
def State.joinsAfter (s : State) (e : Nat) : State := { s with twn := { s.twn with joining := some (e + 1), copyDueBy := none } }

theorem exec_syncEndFrame_copies (copies : s.Copies g) (e : Nat) (ok : Bool) : exec (.syncEndFrame g e ok) s =
    .next (if ok then (s.withLink (s.linkAfter 0 g)).joinsAfter e else (s.withLink (s.linkAfter 0 g)).syncFails).twinPush := by
  obtain ⟨takes, empty, requested, out⟩ := copies
  refine congrArg Host.Outcome.next ((State.onFrame_takes takes _).trans ?_)
  refine congrArg State.twinPush (if_neg ?_)
  rw [show (s.withLink (s.linkAfter 0 g)).twn.requested = s.twn.requested from rfl, show (s.withLink (s.linkAfter 0 g)).inStep = s.inStep from rfl, requested, out]
  decide

theorem exec_syncEndFrame_joins (copies : s.Copies g) (e : Nat) : ∃ t, exec (.syncEndFrame g e true) s = .next t ∧
    t.twn = { s.twn with link := s.linkAfter 0 g, joining := some (e + 1), copyDueBy := none } ∧ Frame [.twn] s t := by
  have run := exec_syncEndFrame_copies copies e true
  rw [if_pos rfl, State.twinPush_idle (s := (s.withLink (s.linkAfter 0 g)).joinsAfter e) copies.2.1] at run
  refine ⟨_, run, rfl, fun p hp => ?_⟩
  cases p <;> first | rfl | simp at hp

/-! A frame that can leave at once (R272, R273). -/

/-- R272: the link after the frame `f`, the only one that waits, has left. -/
def TwinLink.emitted (l : TwinLink) (f : TwinFrame) : TwinLink :=
  { l with
    queue := []
    held := l.held ++ [{ f with seq := aget 0 l.txSeq f.vc }]
    txSeq := aset l.txSeq f.vc ((aget 0 l.txSeq f.vc + 1) % 65536)
    sent := aset l.sent f.vc ((aget 0 l.sent f.vc + f.units) % 256) }

theorem TwinLink.next_only {f : TwinFrame} {l : TwinLink} (only : l.queue = [f]) (low : f.vc ≤ 3) (credit : f.units ≤ l.credit f.vc) : l.next = some f := by
  unfold TwinLink.next
  rw [only]
  have of_vc (k : Nat) : [f].find? (fun g => g.vc == k) = if f.vc = k then some f else none := by
    by_cases h : f.vc = k <;> simp [h]
  obtain h | h | h | h : f.vc = 3 ∨ f.vc = 2 ∨ f.vc = 1 ∨ f.vc = 0 := by omega
  all_goals
    rw [h] at credit
    simp [h, credit]

/-- The frame that asks to leave. -/
def askedFrame (vc : Nat) (kind : MsgKind) (data : List Int) : TwinFrame := ⟨vc, 0, twinUnits (twinPayload kind data), kind, data⟩

theorem State.twinSend_now {kind : MsgKind} {data : List Int} (room : s.roomFor v kind data = true) (low : v ≤ 3) :
    s.twinSend v kind data =
      (s.withLink (s.twn.link.emitted (askedFrame v kind data))).send .twin kind (s.twinSays v (aget 0 s.twn.link.txSeq v) kind data).data := by
  simp only [State.roomFor, Bool.and_eq_true, List.isEmpty_iff, decide_eq_true_eq] at room
  obtain ⟨⟨up, empty⟩, credit⟩ := room
  have queued : s.twinSend v kind data = (s.withLink { s.twn.link with queue := [askedFrame v kind data] }).twinPush := by
    rw [State.twinSend, if_pos up, empty]
    rfl
  have next : ({ s.twn.link with queue := [askedFrame v kind data] } : TwinLink).next = some (askedFrame v kind data) :=
    TwinLink.next_only rfl low credit
  have drained : (s.withLink { s.twn.link with queue := [askedFrame v kind data] }).twinPush =
      (s.withLink { s.twn.link with queue := [askedFrame v kind data] }).twinEmit (askedFrame v kind data) := by
    rw [State.twinPush, show (s.withLink { s.twn.link with queue := [askedFrame v kind data] }).twn.link.queue.length = 0 + 1 from rfl, State.twinDrain,
      show (s.withLink { s.twn.link with queue := [askedFrame v kind data] }).twn.link.next = some (askedFrame v kind data) from next]
    rfl
  rw [queued, drained, State.twinEmit]
  simp only [State.withLink, askedFrame]
  rw [show dropOldest v [(⟨v, 0, twinUnits (twinPayload kind data), kind, data⟩ : TwinFrame)] = [] from if_pos rfl]
  rfl

/-- What a frame that could leave at once shows. -/
theorem State.twinSend_says {kind : MsgKind} {data : List Int} (room : s.roomFor v kind data = true) (low : v ≤ 3) :
    s.Sends (s.twinSend v kind data) [s.twinSays v (aget 0 s.twn.link.txSeq v) kind data] ∧ (s.twinSend v kind data).twn.link.queue = [] ∧
    ∀ w q k d, (s.twinSend v kind data).twinSays w q k d = s.twinSays w q k d := by
  rw [State.twinSend_now room low]
  exact ⟨rfl, rfl, fun _ _ _ _ => rfl⟩

/-! A copy that fails (R301). -/

theorem State.syncFails_shown (sound : s.Sound) : s.syncFails.twn.copyDueBy = none ∧ s.syncFails.flag F_TWN_EVENT_SYNC_FAIL = true ∧ s.syncFails.Alarmed 0x040B ∧
    Changes [.alarms, .rcd, .twn, .regs, .out] (F_TWN_EVENT_SYNC_FAIL :: recFields) [0x040B] s s.syncFails ∧
    (s.roomFor 2 .syncReq [] = true → s.Sends s.syncFails [s.twinSays 2 (aget 0 s.twn.link.txSeq 2) .syncReq []] ∧ s.syncFails.twn.link.queue = [] ∧
      ∀ w q k d, s.syncFails.twinSays w q k d = s.twinSays w q k d) := by
  unfold State.syncFails
  extract_lets before t
  have noted : Changes [.alarms, .rcd, .twn, .regs, .out] (F_TWN_EVENT_SYNC_FAIL :: recFields) [0x040B] s { s with twn := { s.twn with copyDueBy := none } } :=
    (Changes.refl sound).upd _
  have told : Changes [.alarms, .rcd, .twn, .regs, .out] (F_TWN_EVENT_SYNC_FAIL :: recFields) [0x040B] s t := (noted.event _).raise _ _
  have twn : t.twn = { s.twn with copyDueBy := none } := (State.raise_acts ..).frame .twn rfl
  have out : t.out = s.out := (State.raise_acts ..).frame .out rfl
  have event : t.flag F_TWN_EVENT_SYNC_FAIL = true :=
    (flag_raise (noted.event F_TWN_EVENT_SYNC_FAIL).sound _ _ _ (by decide) (by decide)).trans (flag_event noted.sound _ rfl)
  have alarmed : t.Alarmed 0x040B := (alarm_raise ..).trans (if_pos rfl)
  have up : t.linkUp = s.linkUp := congrArg (· != 0) (told.fld F_TWN_STATUS_LANES)
  clear_value t
  have sent := State.twinSend_acts t 2 .syncReq []
  obtain ⟨l, same⟩ := State.twinSend_same t 2 .syncReq []
  refine ⟨by rw [same, twn], (State.flag_of_regs (sent.frame .regs rfl) _).trans event, ?_, told.acts sent, fun room => ?_⟩
  · rw [State.Alarmed, alarm_of_acts sent rfl]
    exact alarmed
  · have link : t.twn.link = s.twn.link := by rw [twn]
    have room' : t.roomFor 2 .syncReq [] = true := by
      rw [State.roomFor, up, link]
      exact room
    obtain ⟨sends, empty, texts⟩ := State.twinSend_says room' (by decide)
    have header (w q : Nat) (k : MsgKind) (d : List Int) : t.twinSays w q k d = s.twinSays w q k d := by rw [State.twinSays, State.twinSays, link]
    refine ⟨?_, empty, fun w q k d => (texts w q k d).trans (header w q k d)⟩
    rw [State.Sends, sends, out, header, link]

theorem exec_syncEndFrame_fails (sound : s.Sound) (copies : s.Copies g) (e : Nat) : ∃ t, exec (.syncEndFrame g e false) s = .next t ∧ t.twn.copyDueBy = none ∧
    t.flag F_TWN_EVENT_SYNC_FAIL = true ∧ t.Alarmed 0x040B ∧ AlarmsBut [0x040B] s t ∧
    (twinUnits (twinPayload .syncReq []) ≤ (s.linkAfter 0 g).credit 2 → s.Sends t [t.twinSays 2 (aget 0 s.twn.link.txSeq 2) .syncReq []]) ∧
    Frame [.alarms, .rcd, .twn, .regs, .out] s t := by
  have run := exec_syncEndFrame_copies copies e false
  rw [if_neg (by decide)] at run
  have linked : Changes [.alarms, .rcd, .twn, .regs, .out] (F_TWN_EVENT_SYNC_FAIL :: recFields) [0x040B] s (s.withLink (s.linkAfter 0 g)) :=
    (Changes.refl sound).acts (State.withLink_acts ..)
  obtain ⟨takes, empty, requested, outOfStep⟩ := copies
  have up : s.linkUp = true := by
    simp only [State.takesFrame, Bool.and_eq_true] at takes
    exact takes.1.1.2
  have room (credit : twinUnits (twinPayload .syncReq []) ≤ (s.linkAfter 0 g).credit 2) : (s.withLink (s.linkAfter 0 g)).roomFor 2 .syncReq [] = true := by
    simp only [State.roomFor, Bool.and_eq_true, List.isEmpty_iff, decide_eq_true_eq]
    exact ⟨⟨up, empty⟩, credit⟩
  have seq : aget 0 (s.withLink (s.linkAfter 0 g)).twn.link.txSeq 2 = aget 0 s.twn.link.txSeq 2 := rfl
  have out : (s.withLink (s.linkAfter 0 g)).out = s.out := rfl
  generalize s.withLink (s.linkAfter 0 g) = u at *
  obtain ⟨due, event, alarmed, whole, sends⟩ := State.syncFails_shown linked.sound
  generalize u.syncFails = w at *
  have pushed := State.twinPush_acts w
  obtain ⟨l, same⟩ := State.twinPush_same w
  refine ⟨_, run, by rw [same, due], (State.flag_of_regs (pushed.frame .regs rfl) _).trans event, ?_, ((linked.trans whole).acts pushed).alarms, fun credit => ?_,
    ((linked.trans whole).acts pushed).frame⟩
  · rw [State.Alarmed, alarm_of_acts pushed rfl]
    exact alarmed
  · obtain ⟨left, none, texts⟩ := sends (room credit)
    rw [State.twinPush_idle none, State.Sends, left, out, texts, seq]

theorem exec_syncEndTimeout_due {e : Nat} (sound : s.Sound) (due : s.twn.copyDueBy = some e) : ∃ t, exec .syncEndTimeout s = .next t ∧ t.twn.copyDueBy = none ∧
    t.tim.el = Nat.max s.tim.el e ∧ t.flag F_TWN_EVENT_SYNC_FAIL = true ∧ t.Alarmed 0x040B ∧ AlarmsBut [0x040B] s t ∧
    (s.roomFor 2 .syncReq [] = true → s.Sends t [t.twinSays 2 (aget 0 s.twn.link.txSeq 2) .syncReq []]) ∧
    Frame [.alarms, .rcd, .tim, .elapsed, .working, .twn, .regs, .out] s t := by
  have run : exec .syncEndTimeout s = .next (s.reachEl e).syncFails := by rw [exec_syncEndTimeout, execSyncEndTimeout, due]
  have waited := State.reachEl_acts s e
  have el := State.reachEl_max s e
  have room : (s.reachEl e).roomFor 2 .syncReq [] = s.roomFor 2 .syncReq [] := rfl
  have seq : aget 0 (s.reachEl e).twn.link.txSeq 2 = aget 0 s.twn.link.txSeq 2 := rfl
  have out : (s.reachEl e).out = s.out := rfl
  generalize s.reachEl e = u at *
  obtain ⟨done, event, alarmed, whole, sends⟩ := State.syncFails_shown (waited.sound sound)
  refine ⟨_, run, done, (whole.frame .elapsed (by simp)).trans el, event, alarmed, fun c hc => (whole.alarms c hc).trans (alarm_of_acts waited rfl),
    fun h => ?_, waited.reaches.trans (whole.frame.mono (by simp))⟩
  obtain ⟨left, -, texts⟩ := sends (room.trans h)
  rw [State.Sends, left, out, texts, seq]

/-- Settles O28. -/
theorem aCopyBringsADeviceIntoStep : Obligations.ACopyBringsADeviceIntoStep := by
  refine ⟨fun g s sound takes empty met whole full => exec_syncReqFrame_wanted sound takes empty met whole full,
    fun g s takes empty parted => exec_syncReqFrame_early takes empty parted, fun g c s takes empty idle => exec_stateFrame_ignored takes empty idle c,
    fun g e l s copies => ?_, fun g m new own sp joy tr fo b s copies => ?_, fun g src seqs r k av s copies => ?_, fun g v n s copies => ?_,
    fun g b c s copies => ?_, fun g b f a s copies => ⟨?_, ?_⟩, fun g k l m s copies mould => exec_stateFrame_mould copies l mould, fun g r s copies => ?_,
    fun g e s copies => exec_syncEndFrame_joins copies e, fun g e s sound copies => exec_syncEndFrame_fails sound copies e,
    fun e s sound due => exec_syncEndTimeout_due sound due⟩
  · refine ⟨_, exec_stateFrame_copies copies (.epochs e l) rfl, rfl, rfl, rfl, fun p hp => ?_⟩
    cases p <;> first | rfl | simp at hp
  · refine ⟨_, exec_stateFrame_copies copies (.mode m new own sp joy tr fo b) rfl, rfl, rfl, rfl, rfl, rfl, rfl, rfl, rfl, rfl, rfl, rfl, fun p hp => ?_⟩
    cases p <;> first | rfl | simp at hp
  · refine ⟨_, exec_stateFrame_copies copies (.command src seqs r k av) rfl, rfl, rfl, fun p hp => ?_⟩
    cases p <;> first | rfl | simp at hp
  · refine ⟨_, exec_stateFrame_copies copies (.tunables v n) rfl, rfl, rfl, fun p hp => ?_⟩
    cases p <;> first | rfl | simp at hp
  · refine ⟨_, exec_stateFrame_copies copies (.control b c) rfl, rfl, rfl, rfl, rfl, rfl, fun p hp => ?_⟩
    cases p <;> first | rfl | simp at hp
  · refine ⟨_, exec_stateFrame_copies copies (.fusion b f) rfl, rfl, fun p hp => ?_⟩
    cases p <;> first | rfl | simp at hp
  · refine ⟨_, exec_stateFrame_copies copies (.allocation b a) rfl, rfl, fun p hp => ?_⟩
    cases p <;> first | rfl | simp at hp
  · refine ⟨_, exec_stateFrame_copies copies (.warm r) rfl, rfl, fun p hp => ?_⟩
    cases p <;> first | rfl | simp at hp

end

end Sys2Proof.Machine

/-! Ethernet reception (R366 to R372). -/
namespace Sys2Proof.Machine
set_option Elab.async false

section
variable {s t : State} {f : EthFrame} {p : Nat}

/-- R368: a frame of port `p` counts in its window. -/
def State.inWindow (s : State) (p : Nat) : State := { s with net := { s.net with window := aset s.net.window p (aget 0 s.net.window p + 1) } }

theorem State.inWindow_acts (s : State) (p : Nat) : Acts (partMask [.net]) s (s.inWindow p) := Acts.upd_net (m := partMask [.net]) (.refl s) rfl

/-- R367, R368: a frame that its port, its check and the MAC let pass. -/
structure State.Hears (s : State) (f : EthFrame) : Prop where
  on : s.ethOn f.port = true
  low : f.port < 3
  fcs : f.fcsOk = true
  mac : macDrops f = false
  handled : handled f = true

theorem exec_ethernetFrame_hears (h : s.Hears f) : exec (.ethernetFrame f) s =
    .next (if s.rxLimit < aget 0 s.net.window f.port + 1 then (s.inWindow f.port).overLimit f.port else (s.inWindow f.port).filterPrp f) := by
  refine congrArg Host.Outcome.next ((if_neg ?_).trans ((if_neg ?_).trans ((if_neg ?_).trans rfl)))
  · simp [h.on, h.low]
  · simp [h.fcs]
  · simp [h.mac, h.handled]

theorem exec_ethernetFrame_off (off : s.ethOn f.port = false) : exec (.ethernetFrame f) s = .next s :=
  congrArg Host.Outcome.next (if_pos (by simp [off]))

theorem exec_ethernetFrame_dropped (fcs : f.fcsOk = true) (drops : macDrops f = true ∨ Machine.handled f = false) : exec (.ethernetFrame f) s = .next s := by
  have silent : (macDrops f || !Machine.handled f) = true := by
    obtain h | h := drops <;> simp [h]
  refine congrArg Host.Outcome.next (ite_eq_left_iff.mpr fun _ => (if_neg ?_).trans (if_pos silent))
  simp [fcs]

theorem exec_ethernetFrame_broken (sound : s.Sound) (on : s.ethOn f.port = true) (low : f.port < 3) (fcs : f.fcsOk = false) :
    ∃ t, exec (.ethernetFrame f) s = .next t ∧
    t.fld (F_ETH_P_RX_ERR_COUNT f.port) = Nat.min 4294967295 (s.fld (F_ETH_P_RX_ERR_COUNT f.port) + 1) ∧ Frame [.regs] s t ∧
    FieldsBut [F_ETH_P_RX_ERR_COUNT f.port] s t := by
  have run : exec (.ethernetFrame f) s = .next (s.bump (F_ETH_P_RX_ERR_COUNT f.port)) :=
    congrArg Host.Outcome.next ((if_neg (by simp [on, low])).trans (if_pos (by simp [fcs])))
  have counted : Changes [.regs] [F_ETH_P_RX_ERR_COUNT f.port] [] s (s.bump (F_ETH_P_RX_ERR_COUNT f.port)) := (Changes.refl sound).bump _ 1
  exact ⟨_, run, State.fld_bump sound (F_ETH_P_RX_ERR_COUNT f.port) 1, counted.frame, counted.fields⟩

/-! The receive limit (R368). -/

/-- R368: a frame beyond the limit is dropped and counted. -/
def State.limitShown (s : State) (p : Nat) : State := (s.bump (F_ETH_P_RX_DROP_COUNT p)).event F_ETH_EVENT_RX_LIMIT

/-- R368: the alarm of the receive limit of port `p`. -/
def State.limitTold (s : State) (p : Nat) : State := ({ s with net := { s.net with limitAt := aset s.net.limitAt p s.tim.el } }).raise 0x0603 (pay [p])

theorem State.overLimit_eq (s : State) (p : Nat) : s.overLimit p =
    if (s.limitShown p).limited (s.limitShown p).net.limitAt p (60 * sec) then (s.limitShown p).limitTold p else s.limitShown p := rfl

theorem State.limitTold_changes (sound : s.Sound) (p : Nat) : Changes [.alarms, .rcd, .net, .regs] recFields [0x0603] s (s.limitTold p) :=
  ((Changes.refl sound).upd { s with net := { s.net with limitAt := aset s.net.limitAt p s.tim.el } }).raise _ _

theorem dropCount_apart (low : p < 3) : ∀ g ∈ recFields, g.apart (F_ETH_P_RX_DROP_COUNT p) := by
  refine recFields_apart ?_ ?_
  all_goals
    simp only [F_ETH_P_RX_DROP_COUNT, A_ETH_P_RX_DROP, A_REC_LOST, A_REC_EVENT]
    omega

theorem exec_ethernetFrame_limited (sound : s.Sound) (h : s.Hears f) (beyond : s.rxLimit < aget 0 s.net.window f.port + 1) :
    ∃ t, exec (.ethernetFrame f) s = .next t ∧
    t.fld (F_ETH_P_RX_DROP_COUNT f.port) = Nat.min 4294967295 (s.fld (F_ETH_P_RX_DROP_COUNT f.port) + 1) ∧ t.flag F_ETH_EVENT_RX_LIMIT = true ∧
    (afind s.net.limitAt f.port = none → t.Alarmed 0x0603) ∧ AlarmsBut [0x0603] s t ∧ Frame [.alarms, .rcd, .net, .regs] s t := by
  have run := exec_ethernetFrame_hears h
  rw [if_pos beyond, State.overLimit_eq] at run
  have counts := State.inWindow_acts s f.port
  have limitAt : (s.inWindow f.port).net.limitAt = s.net.limitAt := rfl
  generalize s.inWindow f.port = u at *
  have first := State.fld_bump (counts.sound sound) (F_ETH_P_RX_DROP_COUNT f.port) 1
  have bumped : Changes [.regs] [F_ETH_P_RX_DROP_COUNT f.port, F_ETH_EVENT_RX_LIMIT] [] u (u.bump (F_ETH_P_RX_DROP_COUNT f.port)) :=
    (Changes.refl (counts.sound sound)).bump _ 1
  have shown : Changes [.regs] [F_ETH_P_RX_DROP_COUNT f.port, F_ETH_EVENT_RX_LIMIT] [] u (u.limitShown f.port) := bumped.event _
  have event : (u.limitShown f.port).flag F_ETH_EVENT_RX_LIMIT = true := flag_event bumped.sound _ rfl
  have count : (u.limitShown f.port).fld (F_ETH_P_RX_DROP_COUNT f.port) = Nat.min 4294967295 (s.fld (F_ETH_P_RX_DROP_COUNT f.port) + 1) := by
    have apart : A_ETH_P_RX_DROP f.port ≠ A_ETH_EVENT := by simp only [A_ETH_P_RX_DROP, A_ETH_EVENT]; omega
    rw [State.fld_of_regs (counts.frame .regs rfl)] at first
    exact (fld_setFld_other bumped.sound F_ETH_EVENT_RX_LIMIT _ _ rfl rfl (.inl apart)).trans first
  generalize u.limitShown f.port = v at *
  have told := State.limitTold_changes shown.sound f.port
  have alarmed : (v.limitTold f.port).Alarmed 0x0603 := (alarm_raise ..).trans (if_pos rfl)
  have whole : Changes [.alarms, .rcd, .net, .regs] ([F_ETH_P_RX_DROP_COUNT f.port, F_ETH_EVENT_RX_LIMIT] ++ recFields) [0x0603] s
      (if v.limited v.net.limitAt f.port (60 * sec) then v.limitTold f.port else v) := by
    have before : Changes [.alarms, .rcd, .net, .regs] ([F_ETH_P_RX_DROP_COUNT f.port, F_ETH_EVENT_RX_LIMIT] ++ recFields) [0x0603] s v :=
      ((Changes.refl sound).acts counts).trans (shown.mono (hf := by simp) (hc := by simp))
    exact .ite (fun _ => before.trans (told.mono (hf := fun _ hf => List.mem_append_right _ hf))) fun _ => before
  refine ⟨_, run, ?_, ?_, fun fresh => ?_, whole.alarms, whole.frame⟩
  · split
    · rw [told.fld _ rfl (dropCount_apart h.low), count]
    · exact count
  · split
    · rw [told.flag F_ETH_EVENT_RX_LIMIT, event]
    · exact event
  · rw [if_pos]
    · exact alarmed
    · rw [State.limited, show v.net.limitAt = u.net.limitAt by rw [shown.frame .net (by simp)], limitAt, fresh]

/-! Delivery (R367, R371, R372). -/

theorem State.filterPrp_plain (untagged : f.prp = none) (plain : ∀ a b c d, f.payload ≠ .udp a b c d) : s.filterPrp f = s.deliver f := by
  rw [State.filterPrp, untagged]
  show s.filterCopy f = s.deliver f
  unfold State.filterCopy
  split
  next payload => exact absurd payload (plain _ _ _ _)
  all_goals rfl

theorem exec_ethernetFrame_delivers (h : s.Hears f) (room : aget 0 s.net.window f.port + 1 ≤ s.rxLimit) (untagged : f.prp = none)
    (plain : ∀ a b c d, f.payload ≠ .udp a b c d) : exec (.ethernetFrame f) s = .next ((s.inWindow f.port).deliver f) := by
  rw [exec_ethernetFrame_hears h, if_neg (Nat.not_lt.mpr room), State.filterPrp_plain untagged plain]

theorem exec_ethernetFrame_other (sound : s.Sound) (h : s.Hears f) (room : aget 0 s.net.window f.port + 1 ≤ s.rxLimit) (untagged : f.prp = none)
    (payload : f.payload = .other) : ∃ t, exec (.ethernetFrame f) s = .next t ∧
    t.net = { s.net with window := aset s.net.window f.port (aget 0 s.net.window f.port + 1) } ∧
    t.fld (F_ETH_P_RX_OK_COUNT f.port) = Nat.min 4294967295 (s.fld (F_ETH_P_RX_OK_COUNT f.port) + 1) ∧ Frame [.net, .regs] s t ∧
    FieldsBut [F_ETH_P_RX_OK_COUNT f.port] s t := by
  have run := exec_ethernetFrame_delivers h room untagged (by simp [payload])
  have delivered (u : State) : u.deliver f = u.bump (F_ETH_P_RX_OK_COUNT f.port) := by rw [State.deliver, payload]
  rw [delivered] at run
  have counts : Changes [.net, .regs] [F_ETH_P_RX_OK_COUNT f.port] [] s (s.inWindow f.port) := (Changes.refl sound).acts (State.inWindow_acts ..)
  have net : (s.inWindow f.port).net = { s.net with window := aset s.net.window f.port (aget 0 s.net.window f.port + 1) } := rfl
  have regs : (s.inWindow f.port).regs = s.regs := rfl
  generalize s.inWindow f.port = u at *
  have whole := counts.bump (F_ETH_P_RX_OK_COUNT f.port) 1
  refine ⟨_, run, ((State.bump_acts ..).frame .net rfl).trans net, (State.fld_bump counts.sound (F_ETH_P_RX_OK_COUNT f.port) 1).trans ?_, whole.frame, whole.fields⟩
  rw [State.fld_of_regs regs]
  rfl

/-! Answers (R367, R396). -/

theorem State.frameOut_acts' (s : State) (p : Nat) (k : MsgKind) (d : List Int) : Acts (partMask [.regs, .out]) s (s.frameOut p k d) :=
  ((Acts.refl s).step (State.bump_acts ..) rfl).step (State.send_acts ..) rfl

theorem State.ethSend_now (on : s.ethOn p = true) (calm : s.net.batching = false) (k : MsgKind) (d : List Int) : s.ethSend p k d = s.frameOut p k d := by
  rw [State.ethSend, if_pos on, if_neg (by simp [calm])]

theorem State.frameOut_out (s : State) (p : Nat) (k : MsgKind) (d : List Int) : (s.frameOut p k d).out = s.out ++ [s.ethSays p k d] := rfl

/-- R367: a delivered frame is counted. -/
def State.received (s : State) (p : Nat) : State := (s.inWindow p).bump (F_ETH_P_RX_OK_COUNT p)

theorem State.received_acts (s : State) (p : Nat) : Acts (partMask [.net, .regs]) s (s.received p) :=
  ((State.inWindow_acts s p).mono rfl).step (State.bump_acts ..) rfl

theorem exec_ethernetFrame_answered {k : MsgKind} {d : List Int} (h : s.Hears f) (calm : s.net.batching = false)
    (run : exec (.ethernetFrame f) s = .next ((s.received f.port).ethSend f.port k d)) :
    ∃ t, exec (.ethernetFrame f) s = .next t ∧ s.Sends t [s.ethSays f.port k d] ∧ Frame [.net, .regs, .out] s t := by
  have on : (s.received f.port).ethOn f.port = true := h.on
  have calm' : (s.received f.port).net.batching = false := calm
  rw [State.ethSend_now on calm'] at run
  refine ⟨_, run, State.frameOut_out .., ((State.received_acts s f.port).mono (m := partMask [.net, .regs, .out]) rfl |>.step (State.frameOut_acts' ..) rfl).reaches⟩

theorem exec_ethernetFrame_echo (h : s.Hears f) (room : aget 0 s.net.window f.port + 1 ≤ s.rxLimit) (untagged : f.prp = none) (payload : f.payload = .icmpEcho)
    (calm : s.net.batching = false) :
    ∃ t, exec (.ethernetFrame f) s = .next t ∧ s.Sends t [s.ethSays f.port .icmp []] ∧ Frame [.net, .regs, .out] s t := by
  have run := exec_ethernetFrame_delivers h room untagged (by simp [payload])
  rw [State.deliver, payload] at run
  exact exec_ethernetFrame_answered h calm run

theorem exec_ethernetFrame_question (h : s.Hears f) (room : aget 0 s.net.window f.port + 1 ≤ s.rxLimit) (untagged : f.prp = none)
    (payload : f.payload = .arpRequest (s.ipWord (f.port == 2) 0)) (calm : s.net.batching = false) :
    ∃ t, exec (.ethernetFrame f) s = .next t ∧ s.Sends t [s.ethSays f.port .arp [(s.ipWord (f.port == 2) 0 : Int), s.macOf f.port]] ∧
    Frame [.net, .regs, .out] s t := by
  have run := exec_ethernetFrame_delivers h room untagged (by simp [payload])
  rw [State.deliver, payload] at run
  exact exec_ethernetFrame_answered h calm (run.trans (congrArg Host.Outcome.next (if_pos rfl)))

/-! Address resolution (R367). -/

/-- R367: the cache once the address `ip` is its newest. -/
def newestOf (cache : List Nat) (ip : Nat) : List Nat := (remove cache ip ++ [ip]).drop ((remove cache ip).length - 63)

theorem newestOf_getLast? (cache : List Nat) (ip : Nat) : (newestOf cache ip).getLast? = some ip := by
  rw [newestOf, List.drop_append_of_le_length (by omega)]
  simp

theorem newestOf_length (cache : List Nat) (ip : Nat) : (newestOf cache ip).length ≤ 64 := by
  simp only [newestOf, List.length_drop, List.length_append, List.length_cons, List.length_nil]
  omega

theorem afind_filter_key {α : Type} {l : List (Nat × α)} {k : Nat} {q : Nat → Bool} (keep : q k = true) : afind (l.filter (fun e => q e.1)) k = afind l k := by
  induction l with
  | nil => rfl
  | cons e l ih =>
    by_cases same : e.1 = k
    · simp [same, keep, afind]
    · by_cases kept : q e.1 = true
      · simp only [List.filter_cons, kept, if_true, afind, same, if_false]
        exact ih
      · simp only [List.filter_cons, kept, afind, same, if_false]
        exact ih

/-- R367: the cache takes the address. -/
def State.cached (s : State) (ip mac : Nat) : State :=
  { s with net := { s.net with
    arp := newestOf s.net.arp ip, arpInfo := (aset s.net.arpInfo ip (mac, s.tim.el)).filter (fun e => (newestOf s.net.arp ip).contains e.1), waiting := [] } }

theorem State.resolved_idle {ip k : Nat} (waiting : s.net.waiting = []) : s.resolved ip k = (s.cached ip k).causeGone 0x0607 := by
  rw [State.resolved, waiting]
  rfl

theorem exec_ethernetFrame_resolves {ip k : Nat} (h : s.Hears f) (room : aget 0 s.net.window f.port + 1 ≤ s.rxLimit) (untagged : f.prp = none)
    (payload : f.payload = .arpReply ip k) (waiting : s.net.waiting = []) : ∃ t, exec (.ethernetFrame f) s = .next t ∧
    t.net.arp.getLast? = some ip ∧ afind t.net.arpInfo ip = some (k, s.tim.el) ∧ t.net.arp.length ≤ 64 ∧ t.CauseGone 0x0607 ∧
    Frame [.alarms, .rcd, .net, .regs] s t := by
  have run := exec_ethernetFrame_delivers h room untagged (by simp [payload])
  rw [State.deliver, payload] at run
  replace run : exec (.ethernetFrame f) s = .next ((s.received f.port).resolved ip k) := run
  rw [State.resolved_idle (s := s.received f.port) waiting] at run
  have received := State.received_acts s f.port
  have el : (s.received f.port).tim.el = s.tim.el := rfl
  generalize s.received f.port = u at *
  have cached : Acts (partMask [.net]) u (u.cached ip k) := Acts.upd_net (m := partMask [.net]) (.refl u) rfl
  have held : ip ∈ newestOf u.net.arp ip := List.mem_of_getLast? (newestOf_getLast? ..)
  have info : afind (u.cached ip k).net.arpInfo ip = some (k, s.tim.el) := by
    refine (afind_filter_key (q := fun a => (newestOf u.net.arp ip).contains a) (by simpa using held)).trans ?_
    rw [afind_aset_self, el]
  have arp : (u.cached ip k).net.arp = newestOf u.net.arp ip := rfl
  generalize u.cached ip k = v at *
  have gone := State.causeGone_acts v 0x0607
  have net : (v.causeGone 0x0607).net = v.net := gone.frame .net rfl
  refine ⟨_, run, by rw [net, arp, newestOf_getLast?], by rw [net, info], by rw [net, arp]; exact newestOf_length .., State.causeGone_causeGone v 0x0607, ?_⟩
  exact (((received.mono (m := partMask [.alarms, .rcd, .net, .regs]) rfl).step cached rfl).step gone rfl).reaches

/-! Duplicates (R371). -/

theorem exec_ethernetFrame_copy {q : Nat} (sound : s.Sound) (h : s.Hears f) (room : aget 0 s.net.window f.port + 1 ≤ s.rxLimit) (tagged : f.prp = some q)
    (payload : f.payload = .other) (known : s.net.prp.any (fun e => e.1 == f.srcMac && e.2.1 == q) = true) : ∃ t, exec (.ethernetFrame f) s = .next t ∧
    t.fld (F_ETH_P_DUP_COUNT f.port) = Nat.min 4294967295 (s.fld (F_ETH_P_DUP_COUNT f.port) + 1) ∧ Frame [.net, .regs] s t ∧
    FieldsBut [F_ETH_P_DUP_COUNT f.port] s t := by
  have plain : carriesPtp f = false := by rw [carriesPtp, payload]
  have known' : (s.inWindow f.port).net.prp.any (fun e => e.1 == f.srcMac && e.2.1 == q) = true := known
  have run : exec (.ethernetFrame f) s = .next ((s.inWindow f.port).bump (F_ETH_P_DUP_COUNT f.port)) := by
    rw [exec_ethernetFrame_hears h, if_neg (Nat.not_lt.mpr room), State.filterPrp, tagged]
    exact congrArg Host.Outcome.next ((if_neg (by simp [plain])).trans (if_pos known'))
  have counts : Changes [.net, .regs] [F_ETH_P_DUP_COUNT f.port] [] s (s.inWindow f.port) := (Changes.refl sound).acts (State.inWindow_acts ..)
  have regs : (s.inWindow f.port).regs = s.regs := rfl
  generalize s.inWindow f.port = u at *
  have whole := counts.bump (F_ETH_P_DUP_COUNT f.port) 1
  refine ⟨_, run, (State.fld_bump counts.sound (F_ETH_P_DUP_COUNT f.port) 1).trans ?_, whole.frame, whole.fields⟩
  rw [State.fld_of_regs regs]
  rfl

theorem exec_prpEntryForget_found {m q : Nat} {e : Nat × Nat × Nat} (found : s.net.prp.find? (fun e => e.1 == m && e.2.1 == q) = some e) :
    ∃ t, exec (.prpEntryForget m q) s = .next t ∧ t.net.prp.any (fun e => e.1 == m && e.2.1 == q) = false ∧ t.tim.el = Nat.max s.tim.el (e.2.2 + 400 * ms) ∧
    Frame [.tim, .elapsed, .working, .net] s t := by
  have run : exec (.prpEntryForget m q) s = .next { s.reachEl (e.2.2 + 400 * ms) with net :=
      { (s.reachEl (e.2.2 + 400 * ms)).net with prp := (s.reachEl (e.2.2 + 400 * ms)).net.prp.filter (fun x => !(x.1 == m && x.2.1 == q)) } } := by
    rw [exec_prpEntryForget, execPrpEntryForget, found]
  generalize e.2.2 + 400 * ms = d at *
  have waited := State.reachEl_acts s d
  have el := State.reachEl_max s d
  generalize s.reachEl d = u at *
  have forgot : Frame [.net] u { u with net := { u.net with prp := u.net.prp.filter (fun x => !(x.1 == m && x.2.1 == q)) } } := by
    intro p hp
    cases p <;> first | rfl | simp at hp
  refine ⟨_, run, ?_, el, waited.reaches.trans (forgot.mono (by simp))⟩
  simp only [List.any_filter, List.any_eq_false]
  intro x _
  cases (x.1 == m && x.2.1 == q) <;> simp

end

end Sys2Proof.Machine

/-! Windows, PHYs, MDIO and address resolution of the Ethernet ports (R366 to R368). -/
namespace Sys2Proof.Machine
set_option Elab.async false

section
variable {s t : State} {p : Nat}

/-! The end of a window (R368). -/

/-- R368: the window of port `p` ends at elapsed time `e`, or now where that has passed. -/
def State.windowOver (s : State) (p e : Nat) : State :=
  { s.reachEl e with net := { s.net with window := adel s.net.window p, windowAt := aset s.net.windowAt p (s.reachEl e).tim.el } }

/-- R368: no port was over its limit. -/
def State.windowsCalm (s : State) (p : Nat) : Bool := aget 0 s.net.window p ≤ s.rxLimit && (adel s.net.window p).all (fun e => decide (e.2 ≤ s.rxLimit))

theorem State.windowOver_rxLimit (s : State) (p e : Nat) : (s.windowOver p e).rxLimit = s.rxLimit := rfl

theorem State.windowsCalm_eq (s : State) (p e : Nat) : s.windowsCalm p =
    (aget 0 s.net.window p ≤ s.rxLimit && (s.windowOver p e).net.window.all (fun x => decide (x.2 ≤ (s.windowOver p e).rxLimit))) := by
  rw [State.windowOver_rxLimit]
  rfl

theorem State.windowOver_told (s : State) (p e : Nat) :
    (let r := s.reachEl e
     let t := { r with net := { r.net with window := adel r.net.window p, windowAt := aset r.net.windowAt p r.tim.el } }
     if aget 0 s.net.window p ≤ s.rxLimit && t.net.window.all (fun x => decide (x.2 ≤ t.rxLimit)) then t.causeGone 0x0603 else t) =
    if s.windowsCalm p then (s.windowOver p e).causeGone 0x0603 else s.windowOver p e := by
  rw [State.windowsCalm_eq s p e]
  rfl

theorem exec_rxLimitWindow_eq (s : State) (p : Nat) : exec (.rxLimitWindow p) s = .next (if s.windowsCalm p then
    (s.windowOver p (aget 0 s.net.windowAt p + 10 * ms)).causeGone 0x0603 else s.windowOver p (aget 0 s.net.windowAt p + 10 * ms)) :=
  (exec_rxLimitWindow p s).trans (congrArg Host.Outcome.next (State.windowOver_told s p _))

theorem State.windowOver_acts (s : State) (p e : Nat) : Acts (partMask [.tim, .elapsed, .working, .net]) s (s.windowOver p e) :=
  ((State.reachEl_acts s e).mono rfl).step (Acts.upd_net (m := partMask [.net]) (.refl _) rfl) rfl

theorem exec_rxLimitWindow_ends (s : State) (p : Nat) : ∃ t, exec (.rxLimitWindow p) s = .next t ∧
    t.net = { s.net with window := adel s.net.window p, windowAt := aset s.net.windowAt p t.tim.el } ∧
    t.tim.el = Nat.max s.tim.el (aget 0 s.net.windowAt p + 10 * ms) ∧ (s.rxLimit < aget 0 s.net.window p → t.alarms = s.alarms) ∧
    (aget 0 s.net.window p ≤ s.rxLimit → (∀ e ∈ s.net.window, e.2 ≤ s.rxLimit) → t.CauseGone 0x0603) ∧ AlarmsBut [0x0603] s t ∧
    Frame [.alarms, .rcd, .tim, .elapsed, .working, .net, .regs] s t := by
  have run := exec_rxLimitWindow_eq s p
  generalize aget 0 s.net.windowAt p + 10 * ms = d at *
  have ends := State.windowOver_acts s p d
  have el : (s.windowOver p d).tim.el = Nat.max s.tim.el d := State.reachEl_max s d
  have net : (s.windowOver p d).net = { s.net with window := adel s.net.window p, windowAt := aset s.net.windowAt p (s.windowOver p d).tim.el } := rfl
  generalize s.windowOver p d = u at *
  by_cases calm : s.windowsCalm p = true
  · rw [if_pos calm] at run
    have gone := State.causeGone_acts u 0x0603
    have tim : (u.causeGone 0x0603).tim = u.tim := gone.frame .tim rfl
    have few : aget 0 s.net.window p ≤ s.rxLimit := of_decide_eq_true (Bool.and_eq_true .. ▸ calm).1
    refine ⟨_, run, ?_, by rw [tim, el], fun many => absurd few (Nat.not_le.mpr many), fun _ _ => State.causeGone_causeGone u 0x0603, fun c hc => ?_, ?_⟩
    · rw [tim, ← net]
      exact gone.frame .net rfl
    · exact (alarm_causeGone_other fun e => hc (by simp [e])).trans (alarm_of_acts ends rfl)
    · exact ((ends.mono (m := partMask [.alarms, .rcd, .tim, .elapsed, .working, .net, .regs]) rfl).step gone rfl).reaches
  · rw [if_neg calm] at run
    refine ⟨_, run, net, el, fun _ => ends.frame .alarms rfl, fun few all => absurd ?_ calm, fun c _ => alarm_of_acts ends rfl, ends.reaches⟩
    simp only [State.windowsCalm, Bool.and_eq_true, decide_eq_true_eq, List.all_eq_true]
    exact ⟨few, fun e he => all e (List.mem_of_mem_filter he)⟩

/-! The poll of a PHY (R366). -/

/-- R366: the PHY of port `p` answers or not. -/
def phyBit (p : Nat) : Fld := bitAt A_ETH_STATUS (4 + p)

/-- R366: the link of port `p` is up. -/
def linkBit (p : Nat) : Fld := bitAt A_ETH_STATUS p

/-- R366: when the PHY of port `p` is polled next. -/
def State.pollTime (s : State) (p d : Nat) : Nat := (afind s.net.polledAt p).elim s.tim.el (· + d)

/-- R366: the PHY of port `p` is polled. -/
def State.polled (s : State) (p d : Nat) : State :=
  ({ s.reachEl (s.pollTime p d) with net := { s.net with polledAt := aset s.net.polledAt p (s.reachEl (s.pollTime p d)).tim.el } }).readPhy (s.par 0x0B05 p) 1

theorem State.polled_acts (s : State) (p d : Nat) : Acts (partMask [.tim, .elapsed, .working, .net, .out]) s (s.polled p d) :=
  (((State.reachEl_acts s _).mono (m := partMask [.tim, .elapsed, .working, .net, .out]) rfl).step (Acts.upd_net (m := partMask [.net]) (.refl _) rfl) rfl).step
    (State.readPhy_acts ..) rfl

theorem exec_phyPoll_on {d : Nat} (interval : 100 * ms = d) (on : s.ethOn p = true) (low : p < 3) (answered link : Bool) :
    exec (.phyPoll p answered link) s = .next ((s.polled p d).phyState p answered link) := by
  rw [exec_phyPoll, execPhyPoll, if_neg (by simp [on, low]), interval]
  cases h : afind s.net.polledAt p with
  | none =>
    rw [State.polled, State.pollTime, h]
    rfl
  | some e =>
    rw [State.polled, State.pollTime, h]
    rfl

/-- What a poll leaves beside the state of the PHY. -/
structure Polled (s t : State) (p d : Nat) : Prop where
  acts : Acts (partMask [.tim, .elapsed, .working, .net, .out]) s t
  sends : s.Sends t [⟨.service, .mdio, [(s.par 0x0B05 p : Int), 1]⟩]
  at' : afind t.net.polledAt p = some t.tim.el
  el : ∀ e, afind s.net.polledAt p = some e → t.tim.el = Nat.max s.tim.el (e + d)

theorem State.polled_polled (s : State) (p d : Nat) : Polled s (s.polled p d) p d where
  acts := s.polled_acts p d
  sends := rfl
  at' := afind_aset_self ..
  el e he := (State.reachEl_max s (s.pollTime p d)).trans (by rw [State.pollTime, he]; rfl)

theorem linkBit_fits (hp : p < 3) : (linkBit p).fits = true := bitAt_fits (by omega)
theorem phyBit_fits (hp : p < 3) : (phyBit p).fits = true := bitAt_fits (by omega)

/-- The registers that the state of the PHY of port `p` shows in. -/
def phyFields (p : Nat) : List Fld := [phyBit p, linkBit p, F_ETH_EVENT_LINK_DOWN, F_ETH_EVENT_PHY_FAIL] ++ recFields

/-- R366: a PHY that answers. -/
def State.phyAnswers (s : State) (p : Nat) (link : Bool) : State := (s.setFlag (phyBit p) true).setFlag (linkBit p) link

/-- R366: no PHY of an enabled port is silent any more. -/
def State.physAnswer (s : State) : State := if s.allPorts 4 then s.causeGone 0x0602 else s

/-- R366: no enabled port is without its link any more. -/
def State.linksStand (s : State) : State := if s.allPorts 0 then s.causeGone 0x0601 else s

theorem State.phyState_up (s : State) (p : Nat) : s.phyState p true true = (s.phyAnswers p true).physAnswer.linksStand := rfl

theorem State.phyState_down (up : s.flag (linkBit p) = true) :
    s.phyState p true false = ((s.phyAnswers p false).physAnswer.event F_ETH_EVENT_LINK_DOWN).raise 0x0601 (pay [p]) := by
  have up' : s.flag (bitAt A_ETH_STATUS p) = true := up
  simp only [State.phyState, up', State.raiseLevel, Bool.true_or, if_true, State.when, Bool.false_eq_true, if_false]
  rfl

theorem State.phyState_silent (knew : s.flag (phyBit p) = true) (link : Bool) :
    s.phyState p false link = ((s.setFlag (phyBit p) false).event F_ETH_EVENT_PHY_FAIL).raise 0x0602 (pay [p]) := by
  have knew' : s.flag (bitAt A_ETH_STATUS (4 + p)) = true := knew
  simp only [State.phyState, knew', State.raiseLevel, Bool.true_or, if_true, Bool.false_eq_true, if_false]
  rfl

theorem State.phyAnswers_shows (sound : s.Sound) (hp : p < 3) (link : Bool) : Changes [.regs] [phyBit p, linkBit p] [] s (s.phyAnswers p link) ∧
    (s.phyAnswers p link).flag (linkBit p) = link ∧ (s.phyAnswers p link).flag (phyBit p) = true := by
  have first := sound.setFlag (phyBit p) true
  have apart : phyBit p ≠ linkBit p ∧ (linkBit p).hi < (phyBit p).lo := ⟨by simp [phyBit, linkBit, bitAt], show p < 4 + p by omega⟩
  refine ⟨((Changes.refl sound).setFlag _ _ (phyBit_fits hp)).setFlag _ _ (linkBit_fits hp), flag_setFlag first _ _ (linkBit_fits hp), ?_⟩
  exact (flag_setFlag_other first _ _ _ (linkBit_fits hp) (phyBit_fits hp) (.inr (.inl apart.2))).trans (flag_setFlag sound _ _ (phyBit_fits hp))

theorem State.physAnswer_changes (sound : s.Sound) : Changes [.alarms, .rcd, .regs] recFields [0x0602] s s.physAnswer :=
  .ite (fun _ => (Changes.refl sound).causeGone _) fun _ => .refl sound

theorem State.linksStand_changes (sound : s.Sound) : Changes [.alarms, .rcd, .regs] recFields [0x0601] s s.linksStand :=
  .ite (fun _ => (Changes.refl sound).causeGone _) fun _ => .refl sound

theorem causeGone_of_no_alarms (none : s.alarms = []) (c : Nat) : (s.causeGone c).alarms = [] := by
  have absent : s.alarm? c = Option.none := by rw [State.alarm?, none]; rfl
  rw [State.causeGone, absent]
  exact none

theorem State.physAnswer_quiet (quiet : s.alarms = []) : s.physAnswer.alarms = [] := by
  unfold State.physAnswer
  split
  · exact causeGone_of_no_alarms quiet _
  · exact quiet

theorem State.linksStand_quiet (quiet : s.alarms = []) : s.linksStand.alarms = [] := by
  unfold State.linksStand
  split
  · exact causeGone_of_no_alarms quiet _
  · exact quiet

theorem statusReg_kept {ps : List Part} {cs : List Nat} (h : Changes ps recFields cs s t) : t.reg A_ETH_STATUS = s.reg A_ETH_STATUS := h.reg A_ETH_STATUS (by decide)

theorem exec_phyPoll_up (sound : s.Sound) (low : p < 3) (on : s.ethOn p = true) : ∃ t, exec (.phyPoll p true true) s = .next t ∧
    s.Sends t [⟨.service, .mdio, [(s.par 0x0B05 p : Int), 1]⟩] ∧ afind t.net.polledAt p = some t.tim.el ∧
    (∀ e, afind s.net.polledAt p = some e → t.tim.el = Nat.max s.tim.el (e + 100 * ms)) ∧
    t.flag (linkBit p) = true ∧ t.flag (phyBit p) = true ∧ (s.alarms = [] → t.alarms = []) ∧
    Frame [.alarms, .rcd, .tim, .elapsed, .working, .net, .regs, .out] s t := by
  have run := exec_phyPoll_on hundred_ms on low true true
  rw [State.phyState_up] at run
  rw [hundred_ms]
  obtain ⟨acts, sends, polledAt, el⟩ := s.polled_polled p 100000000
  generalize s.polled p 100000000 = u at *
  obtain ⟨shown, link, phy⟩ := State.phyAnswers_shows (acts.sound sound) low true
  generalize u.phyAnswers p true = v at *
  have answer := State.physAnswer_changes shown.sound
  have quiet : v.alarms = [] → v.physAnswer.alarms = [] := State.physAnswer_quiet
  generalize v.physAnswer = w at *
  have stand := State.linksStand_changes answer.sound
  have quiet' : w.alarms = [] → w.linksStand.alarms = [] := State.linksStand_quiet
  generalize w.linksStand = x at *
  have status : x.reg A_ETH_STATUS = v.reg A_ETH_STATUS := (statusReg_kept stand).trans (statusReg_kept answer)
  have kept : x.net = u.net ∧ x.tim = u.tim ∧ x.out = u.out :=
    ⟨(stand.frame .net (by simp)).trans ((answer.frame .net (by simp)).trans (shown.frame .net (by simp))),
      (stand.frame .tim (by simp)).trans ((answer.frame .tim (by simp)).trans (shown.frame .tim (by simp))),
      (stand.frame .out (by simp)).trans ((answer.frame .out (by simp)).trans (shown.frame .out (by simp)))⟩
  obtain ⟨net, tim, out⟩ := kept
  refine ⟨_, run, out.trans sends, by rw [net, tim, polledAt], by rw [tim]; exact el, (State.flag_of_reg status).trans link, (State.flag_of_reg status).trans phy,
    fun h => quiet' (quiet ?_), ?_⟩
  · rw [shown.frame .alarms (by simp), acts.frame .alarms rfl, h]
  · exact acts.reaches.trans ((shown.frame.mono (by simp)).trans ((answer.frame.mono (by simp)).trans (stand.frame.mono (by simp))))

theorem exec_phyPoll_falls (sound : s.Sound) (low : p < 3) (on : s.ethOn p = true) (up : s.flag (linkBit p) = true) :
    ∃ t, exec (.phyPoll p true false) s = .next t ∧
    t.flag (linkBit p) = false ∧ t.flag (phyBit p) = true ∧ t.flag F_ETH_EVENT_LINK_DOWN = true ∧ t.Alarmed 0x0601 ∧
    Frame [.alarms, .rcd, .tim, .elapsed, .working, .net, .regs, .out] s t := by
  have run := exec_phyPoll_on hundred_ms on low true false
  have acts := s.polled_acts p 100000000
  generalize s.polled p 100000000 = u at *
  rw [State.phyState_down ((State.flag_of_regs (acts.frame .regs rfl) _).trans up)] at run
  obtain ⟨shown, link, phy⟩ := State.phyAnswers_shows (acts.sound sound) low false
  generalize u.phyAnswers p false = v at *
  have answer := State.physAnswer_changes shown.sound
  generalize v.physAnswer = w at *
  have told : Changes [.alarms, .rcd, .regs] (F_ETH_EVENT_LINK_DOWN :: recFields) [0x0601] w ((w.event F_ETH_EVENT_LINK_DOWN).raise 0x0601 (pay [p])) :=
    ((Changes.refl answer.sound).event _).raise _ _
  have event : ((w.event F_ETH_EVENT_LINK_DOWN).raise 0x0601 (pay [p])).flag F_ETH_EVENT_LINK_DOWN = true :=
    (flag_raise (answer.sound.event _) _ _ _ (by decide) (by decide)).trans (flag_event answer.sound _ rfl)
  have status : ((w.event F_ETH_EVENT_LINK_DOWN).raise 0x0601 (pay [p])).reg A_ETH_STATUS = v.reg A_ETH_STATUS :=
    (told.reg A_ETH_STATUS (by decide)).trans (statusReg_kept answer)
  refine ⟨_, run, (State.flag_of_reg status).trans link, (State.flag_of_reg status).trans phy, event, (alarm_raise ..).trans (if_pos rfl), ?_⟩
  exact acts.reaches.trans ((shown.frame.mono (by simp)).trans ((answer.frame.mono (by simp)).trans (told.frame.mono (by simp))))

theorem exec_phyPoll_silent (sound : s.Sound) (low : p < 3) (on : s.ethOn p = true) (knew : s.flag (phyBit p) = true) (b : Bool) :
    ∃ t, exec (.phyPoll p false b) s = .next t ∧ t.flag (linkBit p) = s.flag (linkBit p) ∧
    t.flag (phyBit p) = false ∧ t.flag F_ETH_EVENT_PHY_FAIL = true ∧ t.Alarmed 0x0602 ∧
    Frame [.alarms, .rcd, .tim, .elapsed, .working, .net, .regs, .out] s t ∧
    FieldsBut (phyBit p :: F_ETH_EVENT_PHY_FAIL :: recFields) s t := by
  have run := exec_phyPoll_on hundred_ms on low false b
  have acts := s.polled_acts p 100000000
  generalize s.polled p 100000000 = u at *
  rw [State.phyState_silent ((State.flag_of_regs (acts.frame .regs rfl) _).trans knew)] at run
  have start : Changes [.alarms, .rcd, .tim, .elapsed, .working, .net, .regs, .out] (phyBit p :: F_ETH_EVENT_PHY_FAIL :: recFields) [0x0602] s u :=
    (Changes.refl sound).acts acts
  have link : (u.setFlag (phyBit p) false).flag (linkBit p) = s.flag (linkBit p) :=
    (flag_setFlag_other start.sound _ _ _ (phyBit_fits low) (linkBit_fits low) (.inr (.inr (show p < 4 + p by omega)))).trans (State.flag_of_regs (acts.frame .regs rfl) _)
  have phy : (u.setFlag (phyBit p) false).flag (phyBit p) = false := flag_setFlag start.sound _ _ (phyBit_fits low)
  have silent := start.setFlag (phyBit p) false (phyBit_fits low)
  generalize u.setFlag (phyBit p) false = v at *
  have told : Changes [.alarms, .rcd, .regs] (F_ETH_EVENT_PHY_FAIL :: recFields) [0x0602] v ((v.event F_ETH_EVENT_PHY_FAIL).raise 0x0602 (pay [p])) :=
    ((Changes.refl silent.sound).event _).raise _ _
  have status : ((v.event F_ETH_EVENT_PHY_FAIL).raise 0x0602 (pay [p])).reg A_ETH_STATUS = v.reg A_ETH_STATUS := told.reg A_ETH_STATUS (by decide)
  have event : ((v.event F_ETH_EVENT_PHY_FAIL).raise 0x0602 (pay [p])).flag F_ETH_EVENT_PHY_FAIL = true :=
    (flag_raise (silent.sound.event _) _ _ _ (by decide) (by decide)).trans (flag_event silent.sound _ rfl)
  have whole := (silent.event F_ETH_EVENT_PHY_FAIL).raise 0x0602 (pay [p])
  exact ⟨_, run, (State.flag_of_reg status).trans link, (State.flag_of_reg status).trans phy, event, (alarm_raise ..).trans (if_pos rfl), whole.frame, whole.fields⟩

theorem exec_phyPoll_off (off : s.ethOn p = false) (b c : Bool) : exec (.phyPoll p b c) s = .next s := by
  rw [exec_phyPoll, execPhyPoll, if_pos (by simp [off])]

end

end Sys2Proof.Machine

/-! MDIO reads and address resolution of the Ethernet ports (R366, R367). -/
namespace Sys2Proof.Machine
set_option Elab.async false

section
variable {s t : State} {m : Nat} {v : Word}

/-! MDIO (R366). -/

theorem regAt_mdio : regAt A_ETH_MDIO =
    some ⟨A_ETH_MDIO, [], [(31, 31, .wo), (30, 30, .ro), (29, 29, .ro), (25, 21, .rw), (20, 16, .rw), (15, 0, .ro)]⟩ := by decide +kernel

/-- R366: the read of a PHY register starts. -/
def State.startMdio (s : State) (phy reg : Nat) : State :=
  ({ s with net := { s.net with mdio := some (phy, reg) } }).setFlag F_ETH_MDIO_BUSY true

theorem State.mdioWrite_start (start : fieldOf v F_ETH_MDIO_START = 1) (free : s.flag F_ETH_MDIO_BUSY = false) :
    s.mdioWrite v = ((s.typedWrite A_ETH_MDIO v).startMdio (fieldOf v F_ETH_MDIO_PHY) (fieldOf v F_ETH_MDIO_REG)).readPhy
      (fieldOf v F_ETH_MDIO_PHY) (fieldOf v F_ETH_MDIO_REG) := if_pos (by simp [start, free])

/-- A field beside a whole register lies beside each of its fields. -/
theorem apart_of_word32 {f g : Fld} (fits : g.fits = true) (h : (word32 f.addr).apart g) : f.apart g := by
  obtain ⟨_, high⟩ : g.lo ≤ g.hi ∧ g.hi < 32 := by simpa [Fld.fits] using fits
  obtain other | low | below := h
  · exact .inl other
  · exact absurd low (show ¬31 < g.lo by omega)
  · exact absurd below (Nat.not_lt_zero _)

theorem exec_mdioRead_starts (sound : s.Sound) (access : s.MayAccess m A_ETH_MDIO true) (start : fieldOf v F_ETH_MDIO_START = 1)
    (free : s.flag F_ETH_MDIO_BUSY = false) : ∃ t, exec (.mdioRead m v) s = .next t ∧
    t.net = { s.net with mdio := some (fieldOf v F_ETH_MDIO_PHY, fieldOf v F_ETH_MDIO_REG) } ∧ t.flag F_ETH_MDIO_BUSY = true ∧
    s.Sends t [⟨.service, .mdio, [fieldOf v F_ETH_MDIO_PHY, fieldOf v F_ETH_MDIO_REG]⟩, ⟨.access m, .write, [A_ETH_MDIO, 0, v.toNat]⟩] ∧
    Frame [.net, .regs, .out] s t ∧ FieldsBut [word32 A_ETH_MDIO] s t := by
  have run : exec (.mdioRead m v) s = .next ((s.mdioWrite v).complete m true A_ETH_MDIO accOk v) := by
    rw [exec_mdioRead, execMdioRead, State.commandWrite_of_mayAccess access]
  rw [State.mdioWrite_start start free, State.typedWrite_row regAt_mdio (by decide)] at run
  generalize List.foldl (fun w f => writeField s.locked v w f) (s.reg A_ETH_MDIO) _ = w at run
  generalize fieldOf v F_ETH_MDIO_PHY = phy at *
  generalize fieldOf v F_ETH_MDIO_REG = reg at *
  have written : Changes [.net, .regs, .out] [word32 A_ETH_MDIO, F_ETH_MDIO_BUSY] [] s (s.setReg A_ETH_MDIO w) := (Changes.refl sound).setReg _ _
  have net : (s.setReg A_ETH_MDIO w).net = s.net := rfl
  have out : (s.setReg A_ETH_MDIO w).out = s.out := rfl
  generalize s.setReg A_ETH_MDIO w = u at *
  have noted := written.upd { u with net := { u.net with mdio := some (phy, reg) } }
  have begun : Changes [.net, .regs, .out] [word32 A_ETH_MDIO, F_ETH_MDIO_BUSY] [] s (u.startMdio phy reg) := noted.setFlag F_ETH_MDIO_BUSY true
  have busy : (u.startMdio phy reg).flag F_ETH_MDIO_BUSY = true := flag_setFlag noted.sound _ _ rfl
  have net' : (u.startMdio phy reg).net = { s.net with mdio := some (phy, reg) } := by
    rw [← net]
    rfl
  have out' : (u.startMdio phy reg).out = s.out := out
  generalize u.startMdio phy reg = x at *
  have ended : Acts (partMask [.out]) x ((x.readPhy phy reg).complete m true A_ETH_MDIO accOk v) :=
    ((Acts.refl x).step (State.readPhy_acts ..) rfl).step (State.complete_acts ..) rfl
  have whole := begun.acts ended
  refine ⟨_, run, (ended.frame .net rfl).trans net', (State.flag_of_regs (ended.frame .regs rfl) _).trans busy, ?_, whole.frame, fun g fits apart => ?_⟩
  · rw [State.Sends, show ((x.readPhy phy reg).complete m true A_ETH_MDIO accOk v).out =
      x.out ++ [⟨.service, .mdio, [phy, reg]⟩] ++ [⟨.access m, .write, [A_ETH_MDIO, 0, v.toNat]⟩] from rfl, out', List.append_assoc]
    rfl
  · have beside : (word32 A_ETH_MDIO).apart g := apart _ (List.mem_singleton.mpr rfl)
    exact whole.fields g fits (List.forall_mem_cons.mpr ⟨beside, List.forall_mem_singleton.mpr (apart_of_word32 fits beside)⟩)

/-- R366: no MDIO read runs any more. -/
def State.mdioOver (s : State) : State := ({ s with net := { s.net with mdio := none } }).setFlag F_ETH_MDIO_BUSY false

/-- R366: the data and the answer that an ended read shows. -/
def State.mdioShown (s : State) (d : Nat) (silent : Bool) : State := (s.mdioOver.setFld F_ETH_MDIO_DATA d).setFlag F_ETH_MDIO_NOACK silent

/-- What stands at the end of an MDIO read. -/
structure MdioEnd (s t : State) (silent : Bool) : Prop where
  changes : Changes [.net, .regs] [F_ETH_MDIO_BUSY, F_ETH_MDIO_NOACK, F_ETH_MDIO_DATA] [] s t
  over' : t.net.mdio = none
  free : t.flag F_ETH_MDIO_BUSY = false
  answer : t.flag F_ETH_MDIO_NOACK = silent

theorem State.mdioShown_end (sound : s.Sound) (d : Nat) (silent : Bool) : MdioEnd s (s.mdioShown d silent) silent ∧ (s.mdioShown d silent).fld F_ETH_MDIO_DATA = d % 65536 := by
  have noted : Changes [.net, .regs] [F_ETH_MDIO_BUSY, F_ETH_MDIO_NOACK, F_ETH_MDIO_DATA] [] s { s with net := { s.net with mdio := none } } := (Changes.refl sound).upd _
  have ended : Changes [.net, .regs] [F_ETH_MDIO_BUSY, F_ETH_MDIO_NOACK, F_ETH_MDIO_DATA] [] s s.mdioOver := noted.setFlag _ false
  have free : s.mdioOver.flag F_ETH_MDIO_BUSY = false := flag_setFlag noted.sound _ _ rfl
  have net : s.mdioOver.net.mdio = none := rfl
  unfold State.mdioShown
  generalize s.mdioOver = u at *
  have data : (u.setFld F_ETH_MDIO_DATA d).fld F_ETH_MDIO_DATA = d % 65536 := fld_setFld ended.sound _ _ rfl
  have free' : (u.setFld F_ETH_MDIO_DATA d).flag F_ETH_MDIO_BUSY = false :=
    (State.flag_of_fld (fld_setFld_other ended.sound _ _ _ rfl rfl (by decide))).trans free
  have shown := ended.setFld F_ETH_MDIO_DATA d
  have net' : (u.setFld F_ETH_MDIO_DATA d).net.mdio = none := net
  generalize u.setFld F_ETH_MDIO_DATA d = w at *
  refine ⟨⟨shown.setFlag _ _, net', ?_, flag_setFlag shown.sound _ _ rfl⟩, (fld_setFld_other shown.sound _ _ _ rfl rfl (by decide)).trans data⟩
  exact (flag_setFlag_other shown.sound _ _ _ rfl rfl (by decide)).trans free'

theorem exec_mdioReadDone_answered {d : Nat} (sound : s.Sound) (runs : s.net.mdio.isSome = true) (low : d < 65536) :
    ∃ t, exec (.mdioReadDone (some d)) s = .next t ∧ t.net.mdio = none ∧
    t.flag F_ETH_MDIO_BUSY = false ∧ t.flag F_ETH_MDIO_NOACK = false ∧ t.fld F_ETH_MDIO_DATA = d ∧ Frame [.net, .regs] s t ∧
    FieldsBut [F_ETH_MDIO_BUSY, F_ETH_MDIO_NOACK, F_ETH_MDIO_DATA] s t := by
  have run : exec (.mdioReadDone (some d)) s = .next (s.mdioShown d false) := by
    rw [exec_mdioReadDone, execMdioReadDone, if_neg (by simpa using Option.isSome_iff_ne_none.mp runs)]
    rfl
  obtain ⟨⟨changes, ended, free, answer⟩, data⟩ := State.mdioShown_end sound d false
  exact ⟨_, run, ended, free, answer, data.trans (Nat.mod_eq_of_lt low), changes.frame, changes.fields⟩

theorem exec_mdioReadDone_silent (sound : s.Sound) (runs : s.net.mdio.isSome = true) : ∃ t, exec (.mdioReadDone none) s = .next t ∧ t.net.mdio = none ∧
    t.flag F_ETH_MDIO_BUSY = false ∧ t.flag F_ETH_MDIO_NOACK = true ∧ Frame [.net, .regs, .freeCtr] s t ∧
    FieldsBut [F_ETH_MDIO_BUSY, F_ETH_MDIO_NOACK, F_ETH_MDIO_DATA] s t := by
  have run : exec (.mdioReadDone none) s = .next (s.mdioShown s.mdioOver.freeVal.toNat true).useFree := by
    rw [exec_mdioReadDone, execMdioReadDone, if_neg (by simpa using Option.isSome_iff_ne_none.mp runs)]
    rfl
  obtain ⟨⟨changes, ended, free, answer⟩, -⟩ := State.mdioShown_end sound s.mdioOver.freeVal.toNat true
  generalize s.mdioShown s.mdioOver.freeVal.toNat true = u at *
  have used := State.useFree_acts u
  have regs : u.useFree.regs = u.regs := used.frame .regs rfl
  have net : u.useFree.net = u.net := used.frame .net rfl
  refine ⟨_, run, by rw [net, ended], (State.flag_of_regs regs _).trans free, (State.flag_of_regs regs _).trans answer,
    (changes.frame.mono (by simp)).trans used.reaches, fun g fits apart => (State.fld_of_regs regs g).trans (changes.fields g fits apart)⟩

/-! ARP (R367). -/

theorem State.lanSend_now {k : MsgKind} {d : List Int} (first : s.ethOn 0 = true) (second : s.ethOn 1 = true) (calm : s.net.batching = false) :
    s.Sends (s.lanSend k d) [s.ethSays 0 k d, s.ethSays 1 k d] ∧ Acts (partMask [.regs, .out]) s (s.lanSend k d) := by
  rw [State.lanSend, State.ethSend_now first calm]
  have sent := State.frameOut_acts' s 0 k d
  have on : (s.frameOut 0 k d).ethOn 1 = true := second
  have calm' : (s.frameOut 0 k d).net.batching = false := calm
  rw [State.ethSend_now on calm']
  refine ⟨?_, sent.step (State.frameOut_acts' ..) rfl⟩
  rw [State.Sends, State.frameOut_out, State.frameOut_out, List.append_assoc]
  rfl

theorem State.netSend_lan (s : State) (k : MsgKind) (d : List Int) : s.netSend false k d = s.lanSend k d := rfl

/-- R367: the address `ip` is asked for again at elapsed time `e`. -/
def State.askedAgain (s : State) (ip mac e : Nat) : State :=
  { s.reachEl e with net := { s.net with arpInfo := aset s.net.arpInfo ip (mac, (s.reachEl e).tim.el) } }

theorem State.askedAgain_told (s : State) (ip mac e : Nat) :
    ({ s.reachEl e with net := { (s.reachEl e).net with arpInfo := aset (s.reachEl e).net.arpInfo ip (mac, (s.reachEl e).tim.el) } } : State) =
      s.askedAgain ip mac e := rfl

theorem State.askedAgain_acts (s : State) (ip mac e : Nat) : Acts (partMask [.tim, .elapsed, .working, .net]) s (s.askedAgain ip mac e) :=
  ((State.reachEl_acts s e).mono rfl).step (Acts.upd_net (m := partMask [.net]) (.refl _) rfl) rfl

theorem exec_arpRefresh_known {ip : Nat} (known : ip ∈ s.net.arp) : exec (.arpRefresh ip) s =
    .next ((s.askedAgain ip (aget (0, s.tim.el) s.net.arpInfo ip).1 ((aget (0, s.tim.el) s.net.arpInfo ip).2 + 60 * sec)).netSend (s.onService ip) .arp [(ip : Int)]) := by
  rw [exec_arpRefresh, execArpRefresh, if_pos (by simpa using known)]
  exact congrArg (fun u : State => Host.Outcome.next (u.netSend (s.onService ip) .arp [(ip : Int)])) (State.askedAgain_told s ip _ _)

theorem State.askedAgain_sends {ip mac : Nat} (first : s.ethOn 0 = true) (second : s.ethOn 1 = true) (calm : s.net.batching = false) (d : Nat) :
    s.Sends ((s.askedAgain ip mac d).lanSend .arp [(ip : Int)]) [s.ethSays 0 .arp [ip], s.ethSays 1 .arp [ip]] ∧
    ((s.askedAgain ip mac d).lanSend .arp [(ip : Int)]).tim.el = Nat.max s.tim.el d ∧
    afind ((s.askedAgain ip mac d).lanSend .arp [(ip : Int)]).net.arpInfo ip = some (mac, ((s.askedAgain ip mac d).lanSend .arp [(ip : Int)]).tim.el) ∧
    Frame [.tim, .elapsed, .working, .net, .regs, .out] s ((s.askedAgain ip mac d).lanSend .arp [(ip : Int)]) := by
  have asked := State.askedAgain_acts s ip mac d
  have el : (s.askedAgain ip mac d).tim.el = Nat.max s.tim.el d := State.reachEl_max s d
  have held : afind (s.askedAgain ip mac d).net.arpInfo ip = some (mac, (s.askedAgain ip mac d).tim.el) := afind_aset_self ..
  have keeps (p : Nat) (k : MsgKind) (x : List Int) : (s.askedAgain ip mac d).ethSays p k x = s.ethSays p k x := rfl
  have on (p : Nat) : (s.askedAgain ip mac d).ethOn p = s.ethOn p := rfl
  have calm' : (s.askedAgain ip mac d).net.batching = false := calm
  have out : (s.askedAgain ip mac d).out = s.out := rfl
  generalize s.askedAgain ip mac d = u at *
  obtain ⟨sends, acts⟩ := State.lanSend_now (s := u) (k := .arp) (d := [(ip : Int)]) ((on 0).trans first) ((on 1).trans second) calm'
  have net : (u.lanSend .arp [(ip : Int)]).net = u.net := acts.frame .net rfl
  have tim : (u.lanSend .arp [(ip : Int)]).tim = u.tim := acts.frame .tim rfl
  refine ⟨?_, by rw [tim, el], by rw [net, held, tim], ((asked.mono (m := partMask [.tim, .elapsed, .working, .net, .regs, .out]) rfl).step acts rfl).reaches⟩
  rw [State.Sends, sends, out, keeps, keeps]

theorem exec_arpRefresh_asks {ip : Nat} {e : Nat × Nat} (known : ip ∈ s.net.arp) (info : afind s.net.arpInfo ip = some e) (lan : s.onService ip = false)
    (first : s.ethOn 0 = true) (second : s.ethOn 1 = true) (calm : s.net.batching = false) : ∃ t, exec (.arpRefresh ip) s = .next t ∧
    s.Sends t [s.ethSays 0 .arp [ip], s.ethSays 1 .arp [ip]] ∧ t.tim.el = Nat.max s.tim.el (e.2 + 60 * sec) ∧
    afind t.net.arpInfo ip = some (e.1, t.tim.el) ∧ Frame [.tim, .elapsed, .working, .net, .regs, .out] s t := by
  have entry : aget (0, s.tim.el) s.net.arpInfo ip = e := by rw [aget_eq_afind, info, Option.getD_some]
  have run := exec_arpRefresh_known known
  rw [entry, lan, State.netSend_lan] at run
  exact ⟨_, run, State.askedAgain_sends first second calm _⟩

theorem exec_arpRefresh_unknown {ip : Nat} (unknown : ip ∉ s.net.arp) : exec (.arpRefresh ip) s = .next s := by
  rw [exec_arpRefresh, execArpRefresh, if_neg (by simpa using unknown)]

/-- R367: what waits for the address `ip` since 1 s or more, at elapsed time `e`, is dropped. -/
def State.waitOver (s : State) (ip e : Nat) : State :=
  { s.reachEl e with net := { s.net with waiting := s.net.waiting.filter (fun x => x.hop != ip || decide ((s.reachEl e).tim.el < x.since + sec)) } }

theorem State.waitOver_told (s : State) (ip e : Nat) : ({ s.reachEl e with net := { (s.reachEl e).net with
      waiting := (s.reachEl e).net.waiting.filter (fun x => x.hop != ip || decide ((s.reachEl e).tim.el < x.since + sec)) } } : State) = s.waitOver ip e := rfl

theorem State.waitOver_left (s : State) (ip e : Nat) : ∀ x ∈ (s.waitOver ip e).net.waiting, x.hop = ip → (s.waitOver ip e).tim.el < x.since + sec := by
  intro x hx same
  have kept : (x.hop != ip || decide ((s.waitOver ip e).tim.el < x.since + sec)) = true := (List.mem_filter.mp hx).2
  generalize (s.waitOver ip e).tim.el = a at *
  simpa [same] using kept

theorem exec_arpTimeout_drops {ip : Nat} {w : Waiting} (sound : s.Sound) (found : s.net.waiting.find? (fun w => w.hop == ip) = some w) :
    ∃ t, exec (.arpTimeout ip) s = .next t ∧
    t.tim.el = Nat.max s.tim.el (w.since + sec) ∧ (∀ x ∈ t.net.waiting, x.hop = ip → t.tim.el < x.since + sec) ∧
    t.flag F_ETH_EVENT_ARP_FAIL = true ∧ t.Alarmed 0x0607 ∧ AlarmsBut [0x0607] s t ∧ Frame [.alarms, .rcd, .tim, .elapsed, .working, .net, .regs] s t := by
  have run : exec (.arpTimeout ip) s = .next (((s.waitOver ip (w.since + sec)).event F_ETH_EVENT_ARP_FAIL).raise 0x0607 (pay [w.dest])) := by
    rw [exec_arpTimeout, execArpTimeout, found]
    exact congrArg (fun u : State => Host.Outcome.next ((u.event F_ETH_EVENT_ARP_FAIL).raise 0x0607 (pay [w.dest]))) (State.waitOver_told s ip (w.since + sec))
  generalize w.since + sec = d at *
  have ended : Acts (partMask [.tim, .elapsed, .working, .net]) s (s.waitOver ip d) :=
    ((State.reachEl_acts s d).mono rfl).step (Acts.upd_net (m := partMask [.net]) (.refl _) rfl) rfl
  have el : (s.waitOver ip d).tim.el = Nat.max s.tim.el d := State.reachEl_max s d
  have left := State.waitOver_left s ip d
  generalize s.waitOver ip d = u at *
  have start : Changes [.alarms, .rcd, .tim, .elapsed, .working, .net, .regs] (F_ETH_EVENT_ARP_FAIL :: recFields) [0x0607] s u := (Changes.refl sound).acts ended
  have told : Changes [.alarms, .rcd, .regs] (F_ETH_EVENT_ARP_FAIL :: recFields) [0x0607] u ((u.event F_ETH_EVENT_ARP_FAIL).raise 0x0607 (pay [w.dest])) :=
    ((Changes.refl start.sound).event _).raise _ _
  have whole := start.trans (told.mono)
  refine ⟨_, run, by rw [told.frame .tim (by simp), el], by rw [told.frame .net (by simp), told.frame .tim (by simp)]; exact left, ?_,
    (alarm_raise ..).trans (if_pos rfl), whole.alarms, whole.frame⟩
  exact (flag_raise (start.sound.event _) _ _ _ (by decide) (by decide)).trans (flag_event start.sound _ rfl)

end

/-- Settles O38. -/
theorem ethernetPortsReceiveLimitAndResolve : Obligations.EthernetPortsReceiveLimitAndResolve :=
  ⟨fun _ _ off => exec_ethernetFrame_off off, fun _ _ sound on low fcs => exec_ethernetFrame_broken sound on low fcs,
   fun _ _ fcs drops => exec_ethernetFrame_dropped fcs drops,
   fun _ _ sound on low fcs mac fit beyond => exec_ethernetFrame_limited sound ⟨on, low, fcs, mac, fit⟩ beyond,
   fun _ _ sound on low fcs mac fit room untagged payload => exec_ethernetFrame_other sound ⟨on, low, fcs, mac, fit⟩ room untagged payload,
   fun _ _ on low fcs mac fit room untagged payload calm => exec_ethernetFrame_echo ⟨on, low, fcs, mac, fit⟩ room untagged payload calm,
   fun _ _ on low fcs mac fit room untagged payload calm => exec_ethernetFrame_question ⟨on, low, fcs, mac, fit⟩ room untagged payload calm,
   fun _ _ _ _ on low fcs mac fit room untagged payload waiting => exec_ethernetFrame_resolves ⟨on, low, fcs, mac, fit⟩ room untagged payload waiting,
   fun _ _ _ sound on low fcs mac fit room tagged payload known => exec_ethernetFrame_copy sound ⟨on, low, fcs, mac, fit⟩ room tagged payload known,
   fun _ _ _ _ found => exec_prpEntryForget_found found, fun p s => exec_rxLimitWindow_ends s p, fun _ _ sound low on => exec_phyPoll_up sound low on,
   fun _ _ sound low on up => exec_phyPoll_falls sound low on up, fun _ b _ sound low on knew => exec_phyPoll_silent sound low on knew b,
   fun _ b c _ off => exec_phyPoll_off off b c, fun _ _ _ sound access start free => exec_mdioRead_starts sound access start free,
   fun _ _ sound runs low => exec_mdioReadDone_answered sound runs low, fun _ sound runs => exec_mdioReadDone_silent sound runs,
   fun _ _ _ known info lan first second calm => exec_arpRefresh_asks known info lan first second calm, fun _ _ unknown => exec_arpRefresh_unknown unknown,
   fun _ _ _ sound found => exec_arpTimeout_drops sound found⟩

end Sys2Proof.Machine

/-! Frames on the CAN channels (R381 to R385, R387). -/
namespace Sys2Proof.Machine
set_option Elab.async false

section
variable {s t : State} {c : Nat} {f : CanFrame}

/-! The state of a channel. -/

theorem State.canChan_setCanChan (s : State) (c d : Nat) (f : CanChan → CanChan) : (s.setCanChan c f).canChan d = if c = d then f (s.canChan c) else s.canChan d := by
  simp only [State.canChan, State.setCanChan, aget_eq_afind, afind_aset]
  split <;> rfl

@[simp] theorem State.canChan_setCanChan_self (s : State) (c : Nat) (f : CanChan → CanChan) : (s.setCanChan c f).canChan c = f (s.canChan c) := by
  rw [State.canChan_setCanChan, if_pos rfl]

theorem State.canChan_setCanChan_other {d : Nat} (h : d ≠ c) (f : CanChan → CanChan) : (s.setCanChan c f).canChan d = s.canChan d := by
  rw [State.canChan_setCanChan, if_neg h.symm]

theorem State.canChan_of_can (same : t.can = s.can) (d : Nat) : t.canChan d = s.canChan d := by rw [State.canChan, State.canChan, same]

/-! What decides on a frame (R381 to R383, R390). -/

theorem State.parW_of_pat (pat : t.pat = s.pat) : t.parW = s.parW := by
  funext p i
  rw [State.parW, State.parW, pat]

theorem State.parGiven_of_pat (pat : t.pat = s.pat) : t.parGiven = s.parGiven := by
  funext p
  rw [State.parGiven, State.parGiven, pat]

theorem State.canMatch_of_pat (pat : t.pat = s.pat) (pins : t.pins = s.pins) (ide : Bool) (id : Nat) : t.canMatch c ide id = s.canMatch c ide id := by
  have par := State.parW_of_pat pat
  have given := State.parGiven_of_pat pat
  have element : t.slotElem = s.slotElem := by
    funext n
    rw [State.slotElem, State.slotElem, State.slotW, State.slotW, par]
  have used : t.slotUsed = s.slotUsed := by
    funext n
    rw [State.slotUsed, State.slotUsed, given]
  simp only [State.canMatch, State.canElems, State.objsOf, State.objIs, State.objW, State.canSlots, State.slotList, State.slotMine, State.slotSide, State.slotDecode,
    State.slotW, State.orderIds, State.srcEntry, par, given, element, used, pins]

/-- What says whether this device sends reference messages, beside the registers of the channel. -/
structure SameLead (s t : State) : Prop where
  pat : t.pat = s.pat
  dev : t.dev = s.dev
  twn : t.twn = s.twn
  pins : t.pins = s.pins

theorem SameLead.canSends (h : SameLead s t) (en : t.flag (F_CAN_STATUS_EN c) = s.flag (F_CAN_STATUS_EN c))
    (st : t.fld (F_CAN_STATUS_STATE c) = s.fld (F_CAN_STATUS_STATE c)) : t.canSends c = s.canSends c := by
  simp only [State.canSends, State.canW, State.parW_of_pat h.pat, en, st]

theorem SameLead.isLead (h : SameLead s t) : t.isLead = s.isLead := by
  have paired : t.paired = s.paired := by rw [State.paired, State.paired, State.par, State.par, State.parW_of_pat h.pat]
  rw [State.isLead, State.isLead, State.holds, State.holds, paired, h.dev, h.twn, h.pins]

theorem SameLead.foreignRef (h : SameLead s t) (sends : t.canSends c = s.canSends c) (f : CanFrame) : t.foreignRef c f = s.foreignRef c f := by
  simp only [State.foreignRef, State.tmOn, State.parW_of_pat h.pat, h.isLead, sends]

/-! The bus (R381, R387). -/

theorem State.canSettle_idle (empty : (s.canChan c).tx = []) (limit : Nat) : s.canSettle c limit = s := by
  unfold State.canSettle
  split
  · rw [empty]
    rfl
  · rfl

theorem State.busTaken_idle (empty : (s.canChan c).tx = []) (f : CanFrame) : s.busTaken c f = s.setCanChan c (fun k => { k with busyTill := s.busyAfter c f }) := by
  rw [State.busTaken, State.canSettle_idle empty]
  rfl

/-- R381: a frame is seen on the bus of channel `c`. -/
def State.canSeen (s : State) (c : Nat) (f : CanFrame) : State := (s.busTaken c f).setFlag (F_CAN_STATUS_SYNC c) true

/-- R381: channel `c` is on and takes classical frames, and the frame is not another node's reference message. -/
structure State.CanHears (s : State) (c : Nat) (f : CanFrame) : Prop where
  on : s.flag (F_CAN_STATUS_EN c) = true
  state : s.fld (F_CAN_STATUS_STATE c) < 2
  classic : f.fdf = false
  own : s.foreignRef c f = false

theorem exec_canFrame_off (off : s.flag (F_CAN_STATUS_EN c) = false ∨ 2 ≤ s.fld (F_CAN_STATUS_STATE c) ∨ (f.fdf = true ∧ s.flag (F_CAN_STATUS_FD c) = false)) :
    exec (.canFrame c f) s = .next s := by
  rw [exec_canFrame, execCanFrame, if_pos]
  obtain h | h | ⟨h, k⟩ := off
  · simp [h]
  · simp [h]
  · simp [h, k]

theorem exec_canFrame_unmatched (h : s.CanHears c f) (own : (s.canSeen c f).foreignRef c f = false)
    (none : f.rtr = true ∨ (s.canSeen c f).canMatch c f.ide f.id = none) : exec (.canFrame c f) s = .next (s.canSeen c f) := by
  have open' : ¬(!s.flag (F_CAN_STATUS_EN c) || decide (2 ≤ s.fld (F_CAN_STATUS_STATE c)) || (f.fdf && !s.flag (F_CAN_STATUS_FD c))) = true := by
    simp [h.on, h.state, h.classic]
  rw [exec_canFrame, execCanFrame, if_neg open']
  simp only [State.canSeen] at own none ⊢
  simp only [own, Bool.and_false, Bool.false_eq_true, if_false]
  obtain remote | none := none
  · rw [if_pos remote]
  · rw [none, ite_self]

/-- R384: what an action of the filter does with a frame: bit 0 gives it to the firmware, bit 1 to queue 1. -/
def State.canActs (s : State) (c e action : Nat) (f : CanFrame) : State :=
  ((s.when (action % 2 == 1 || (action / 2 == 1 && !decide (64 ≤ (s.canChan c).q1.length))) (fun x => x.bump (F_CAN_RX_CNT_COUNT c))).when (action / 2 == 1)
    (fun x => x.pushQ1 c (elemWords f e))).when (action % 2 == 1) (fun x => x.queue0 c f)

theorem exec_canFrame_matched {e a : Nat} (h : s.CanHears c f) (own : (s.canSeen c f).foreignRef c f = false) (data : f.rtr = false)
    (element : (s.canSeen c f).canMatch c f.ide f.id = some (e, a)) : exec (.canFrame c f) s = .next ((s.canSeen c f).canActs c e a f) := by
  have open' : ¬(!s.flag (F_CAN_STATUS_EN c) || decide (2 ≤ s.fld (F_CAN_STATUS_STATE c)) || (f.fdf && !s.flag (F_CAN_STATUS_FD c))) = true := by
    simp [h.on, h.state, h.classic]
  rw [exec_canFrame, execCanFrame, if_neg open']
  simp only [State.canSeen] at own element ⊢
  simp only [own, Bool.and_false, Bool.false_eq_true, if_false, data, element]
  rfl

/-- What a frame seen on a channel with nothing to send leaves. -/
structure CanSeen (s t : State) (c : Nat) (f : CanFrame) : Prop where
  changes : Changes [.can, .regs] [F_CAN_STATUS_SYNC c] [] s t
  can : t.can = (s.setCanChan c (fun k => { k with busyTill := s.busyAfter c f })).can
  sync : t.flag (F_CAN_STATUS_SYNC c) = true
  own : t.foreignRef c f = s.foreignRef c f
  element : t.canMatch c f.ide f.id = s.canMatch c f.ide f.id

theorem State.canSeen_idle (sound : s.Sound) (empty : (s.canChan c).tx = []) (f : CanFrame) : CanSeen s (s.canSeen c f) c f := by
  unfold State.canSeen
  rw [State.busTaken_idle empty]
  have held : Changes [.can, .regs] [F_CAN_STATUS_SYNC c] [] s (s.setCanChan c (fun k => { k with busyTill := s.busyAfter c f })) :=
    (Changes.refl sound).acts (State.setCanChan_acts ..)
  generalize hu : s.setCanChan c (fun k => { k with busyTill := s.busyAfter c f }) = u at *
  have seen := held.setFlag (F_CAN_STATUS_SYNC c) true
  have can : (u.setFlag (F_CAN_STATUS_SYNC c) true).can = u.can := rfl
  have sync : (u.setFlag (F_CAN_STATUS_SYNC c) true).flag (F_CAN_STATUS_SYNC c) = true := flag_setFlag held.sound _ _ rfl
  generalize u.setFlag (F_CAN_STATUS_SYNC c) true = v at *
  have lead : SameLead s v := ⟨seen.frame .pat (by simp), seen.frame .dev (by simp), seen.frame .twn (by simp), seen.frame .pins (by simp)⟩
  have beside {g : Fld} (low : 0 < g.lo) : ∀ x ∈ [F_CAN_STATUS_SYNC c], x.apart g := List.forall_mem_singleton.mpr (.inr (.inl low))
  have sends : v.canSends c = s.canSends c := lead.canSends (seen.flag _ rfl (beside Nat.one_pos)) (seen.fld _ rfl (beside (by decide : 0 < 4)))
  exact ⟨seen, hu ▸ can, sync, lead.foreignRef sends f, State.canMatch_of_pat lead.pat lead.pins ..⟩

theorem exec_canFrame_seen (sound : s.Sound) (h : s.CanHears c f) (drops : f.rtr = true ∨ s.canMatch c f.ide f.id = none) (empty : (s.canChan c).tx = []) :
    ∃ t, exec (.canFrame c f) s = .next t ∧ t.flag (F_CAN_STATUS_SYNC c) = true ∧ t.canChan c = { s.canChan c with busyTill := s.busyAfter c f } ∧
    t.can.objs = s.can.objs ∧ Frame [.can, .regs] s t ∧ FieldsBut [F_CAN_STATUS_SYNC c] s t := by
  have seen := State.canSeen_idle sound empty f
  refine ⟨_, exec_canFrame_unmatched h (seen.own.trans h.own) (drops.imp_right seen.element.trans), seen.sync, ?_, by rw [seen.can]; rfl, seen.changes.frame, seen.changes.fields⟩
  rw [State.canChan_of_can seen.can, State.canChan_setCanChan_self]

/-! Queue 1 (R384). -/

theorem State.pushQ1_room (room : (s.canChan c).q1.length < 64) (w : List Word) : s.pushQ1 c w =
    (s.setCanChan c (fun k => { k with q1 := k.q1 ++ [w] })).setFld (F_CAN_Q1_STAT_LEVEL c) ((s.canChan c).q1.length + 1) := if_pos room

theorem State.pushQ1_full (full : 64 ≤ (s.canChan c).q1.length) (w : List Word) : s.pushQ1 c w = (s.event (F_CAN_EVENT_Q1_OVF c)).raise 0x0704 (pay [c, 1]) :=
  if_neg (Nat.not_lt.mpr full)

theorem State.canActs_queued {e : Nat} (room : (s.canChan c).q1.length < 64) : s.canActs c e 2 f =
    ((s.bump (F_CAN_RX_CNT_COUNT c)).setCanChan c (fun k => { k with q1 := k.q1 ++ [elemWords f e] })).setFld (F_CAN_Q1_STAT_LEVEL c) ((s.canChan c).q1.length + 1) := by
  have counted : (2 % 2 == 1 || (2 / 2 == 1 && !decide (64 ≤ (s.canChan c).q1.length))) = true := by simp [room]
  simp only [State.canActs, counted, State.when, if_true]
  exact State.pushQ1_room (s := s.bump (F_CAN_RX_CNT_COUNT c)) room _

theorem State.canActs_lost {e : Nat} (full : 64 ≤ (s.canChan c).q1.length) : s.canActs c e 2 f = (s.event (F_CAN_EVENT_Q1_OVF c)).raise 0x0704 (pay [c, 1]) := by
  have uncounted : (2 % 2 == 1 || (2 / 2 == 1 && !decide (64 ≤ (s.canChan c).q1.length))) = false := by simp [full]
  simp only [State.canActs, uncounted, State.when, Bool.false_eq_true, if_false]
  exact State.pushQ1_full full _

theorem exec_canFrame_queued {e : Nat} (sound : s.Sound) (h : s.CanHears c f) (data : f.rtr = false) (element : s.canMatch c f.ide f.id = some (e, 2))
    (room : (s.canChan c).q1.length < 64) (empty : (s.canChan c).tx = []) :
    ∃ t, exec (.canFrame c f) s = .next t ∧ t.canChan c = { s.canChan c with q1 := (s.canChan c).q1 ++ [elemWords f e], busyTill := s.busyAfter c f } ∧
    (∀ d, d ≠ c → t.canChan d = s.canChan d) ∧ t.fld (F_CAN_Q1_STAT_LEVEL c) = (s.canChan c).q1.length + 1 ∧
    t.fld (F_CAN_RX_CNT_COUNT c) = Nat.min 4294967295 (s.fld (F_CAN_RX_CNT_COUNT c) + 1) ∧ Frame [.can, .regs] s t ∧
    FieldsBut [F_CAN_STATUS_SYNC c, F_CAN_Q1_STAT_LEVEL c, F_CAN_RX_CNT_COUNT c] s t := by
  have seen := State.canSeen_idle sound empty f
  have run := exec_canFrame_matched h (seen.own.trans h.own) data (seen.element.trans element)
  generalize s.canSeen c f = u at *
  have chan : u.canChan c = { s.canChan c with busyTill := s.busyAfter c f } := by rw [State.canChan_of_can seen.can, State.canChan_setCanChan_self]
  have others (d : Nat) (hd : d ≠ c) : u.canChan d = s.canChan d := by rw [State.canChan_of_can seen.can, State.canChan_setCanChan_other hd]
  rw [State.canActs_queued (by rw [chan]; exact room), chan] at run
  have start : Changes [.can, .regs] [F_CAN_STATUS_SYNC c, F_CAN_Q1_STAT_LEVEL c, F_CAN_RX_CNT_COUNT c] [] s u := seen.changes.mono
  have counted := start.bump (F_CAN_RX_CNT_COUNT c) 1
  have count := State.fld_bump start.sound (F_CAN_RX_CNT_COUNT c) 1
  rw [seen.changes.fld (F_CAN_RX_CNT_COUNT c) rfl (by
    simp only [List.forall_mem_singleton, Fld.apart, F_CAN_STATUS_SYNC, F_CAN_RX_CNT_COUNT, A_CAN_STATUS, A_CAN_RX_CNT]
    omega)] at count
  have can : (u.bump (F_CAN_RX_CNT_COUNT c)).can = u.can := rfl
  generalize u.bump (F_CAN_RX_CNT_COUNT c) = v at *
  have queued := counted.acts (State.setCanChan_acts v c (fun k => { k with q1 := k.q1 ++ [elemWords f e] }))
  have chan' : (v.setCanChan c (fun k => { k with q1 := k.q1 ++ [elemWords f e] })).canChan c =
      { s.canChan c with q1 := (s.canChan c).q1 ++ [elemWords f e], busyTill := s.busyAfter c f } := by
    rw [State.canChan_setCanChan_self, State.canChan_of_can can, chan]
  have others' (d : Nat) (hd : d ≠ c) : (v.setCanChan c (fun k => { k with q1 := k.q1 ++ [elemWords f e] })).canChan d = s.canChan d := by
    rw [State.canChan_setCanChan_other hd, State.canChan_of_can can, others d hd]
  have regs : (v.setCanChan c (fun k => { k with q1 := k.q1 ++ [elemWords f e] })).regs = v.regs := rfl
  generalize v.setCanChan c (fun k => { k with q1 := k.q1 ++ [elemWords f e] }) = w at *
  have whole := queued.setFld (F_CAN_Q1_STAT_LEVEL c) ((s.canChan c).q1.length + 1)
  have can' : (w.setFld (F_CAN_Q1_STAT_LEVEL c) ((s.canChan c).q1.length + 1)).can = w.can := rfl
  refine ⟨_, run, (State.canChan_of_can can' c).trans chan', fun d hd => (State.canChan_of_can can' d).trans (others' d hd), ?_, ?_, whole.frame, whole.fields⟩
  · rw [fld_setFld queued.sound _ _ rfl]
    exact Nat.mod_eq_of_lt (show (s.canChan c).q1.length + 1 < 128 by omega)
  · rw [fld_setFld_other queued.sound _ _ _ rfl rfl (.inl (by simp only [F_CAN_RX_CNT_COUNT, F_CAN_Q1_STAT_LEVEL, A_CAN_RX_CNT, A_CAN_Q1_STAT]; omega)),
      State.fld_of_regs regs, count]
    rfl

theorem exec_canFrame_lost {e : Nat} (sound : s.Sound) (low : c ≤ 5) (h : s.CanHears c f) (data : f.rtr = false) (element : s.canMatch c f.ide f.id = some (e, 2))
    (full : 64 ≤ (s.canChan c).q1.length) (empty : (s.canChan c).tx = []) :
    ∃ t, exec (.canFrame c f) s = .next t ∧ (t.canChan c).q1 = (s.canChan c).q1 ∧ t.can.objs = s.can.objs ∧ t.flag (F_CAN_EVENT_Q1_OVF c) = true ∧
    t.Alarmed 0x0704 ∧ AlarmsBut [0x0704] s t ∧ Frame [.alarms, .rcd, .can, .regs] s t := by
  have seen := State.canSeen_idle sound empty f
  have run := exec_canFrame_matched h (seen.own.trans h.own) data (seen.element.trans element)
  generalize s.canSeen c f = u at *
  have chan : (u.canChan c).q1 = (s.canChan c).q1 := by rw [State.canChan_of_can seen.can, State.canChan_setCanChan_self]
  have objs : u.can.objs = s.can.objs := by rw [seen.can]; rfl
  rw [State.canActs_lost (by rw [chan]; exact full)] at run
  have start : Changes [.alarms, .rcd, .can, .regs] ([F_CAN_STATUS_SYNC c, F_CAN_EVENT_Q1_OVF c] ++ recFields) [0x0704] s u := seen.changes.mono (hc := by simp)
  have whole := (start.event (F_CAN_EVENT_Q1_OVF c)).raise 0x0704 (pay [c, 1])
  have told : Changes [.alarms, .rcd, .regs] (F_CAN_EVENT_Q1_OVF c :: recFields) [0x0704] u ((u.event (F_CAN_EVENT_Q1_OVF c)).raise 0x0704 (pay [c, 1])) :=
    ((Changes.refl start.sound).event _).raise _ _
  have can : ((u.event (F_CAN_EVENT_Q1_OVF c)).raise 0x0704 (pay [c, 1])).can = u.can := told.frame .can (by simp)
  refine ⟨_, run, by rw [State.canChan_of_can can, chan], by rw [can, objs], ?_, (alarm_raise ..).trans (if_pos rfl), whole.alarms, whole.frame⟩
  refine (flag_raise (start.sound.event _) _ _ _ ?_ ?_).trans (flag_event start.sound _ rfl)
  all_goals
    simp only [F_CAN_EVENT_Q1_OVF, A_CAN_EVENT, A_REC_LOST, F_REC_EVENT_LOST_EVT, A_REC_EVENT]
    omega

theorem exec_canQ1Pop_pops {m : Nat} (sound : s.Sound) (access : s.MayAccess m (A_CAN_Q1_CTRL c) true) (few : (s.canChan c).q1.length ≤ 64) : ∃ t,
    exec (.canQ1Pop m c) s = .next t ∧ t.canChan c = { s.canChan c with q1 := (s.canChan c).q1.tail } ∧
    t.fld (F_CAN_Q1_STAT_LEVEL c) = (s.canChan c).q1.length - 1 ∧ s.Sends t [⟨.access m, .write, [A_CAN_Q1_CTRL c, 0, 1]⟩] ∧
    Frame [.can, .regs, .out] s t ∧ FieldsBut [F_CAN_Q1_STAT_LEVEL c] s t := by
  have run : exec (.canQ1Pop m c) s = .next ((s.popQ1 c).complete m true (A_CAN_Q1_CTRL c) accOk 1#32) := by
    rw [exec_canQ1Pop, execCanQ1Pop, State.commandWrite_of_mayAccess access]
  have popped : Changes [.can, .regs, .out] [F_CAN_Q1_STAT_LEVEL c] [] s (s.setCanChan c (fun k => { k with q1 := k.q1.tail })) :=
    (Changes.refl sound).acts (State.setCanChan_acts ..)
  have shown : Changes [.can, .regs, .out] [F_CAN_Q1_STAT_LEVEL c] [] s (s.popQ1 c) := popped.setFld _ _
  have level : (s.popQ1 c).fld (F_CAN_Q1_STAT_LEVEL c) = (s.canChan c).q1.length - 1 :=
    (fld_setFld popped.sound _ _ rfl).trans (Nat.mod_eq_of_lt (show (s.canChan c).q1.length - 1 < 128 by omega))
  have chan : (s.popQ1 c).canChan c = { s.canChan c with q1 := (s.canChan c).q1.tail } :=
    State.canChan_setCanChan_self s c (fun k => { k with q1 := k.q1.tail })
  have out : (s.popQ1 c).out = s.out := rfl
  generalize s.popQ1 c = u at *
  have ended := State.complete_acts u m true (A_CAN_Q1_CTRL c) accOk 1#32
  have whole := shown.acts ended
  exact ⟨_, run, (State.canChan_of_can (ended.frame .can rfl) c).trans chan, (State.fld_of_regs (ended.frame .regs rfl) _).trans level,
    State.Sends.complete out m true (A_CAN_Q1_CTRL c) accOk 1#32, whole.frame, whole.fields⟩

end

end Sys2Proof.Machine

/-! Receive objects, fast packets and waiting frames of the CAN channels (R385, R387, R389). -/
namespace Sys2Proof.Machine
set_option Elab.async false

section
variable {s t : State} {c o : Nat} {f : CanFrame} {g : CanTx}

/-! Receive objects (R385). -/

theorem State.objW_of_pat (pat : t.pat = s.pat) : t.objW = s.objW := by
  funext o k
  rw [State.objW, State.objW, State.parW_of_pat pat]

theorem State.objIs_of_pat (pat : t.pat = s.pat) : t.objIs = s.objIs := by
  funext o c k
  rw [State.objIs, State.objIs, State.objW_of_pat pat, State.parGiven_of_pat pat]

theorem State.objsOf_of_pat (pat : t.pat = s.pat) (c k : Nat) : t.objsOf c k = s.objsOf c k := by rw [State.objsOf, State.objsOf, State.objIs_of_pat pat]

/-- R385: the object of channel `c` and KIND `k` that take a frame. -/
def State.takers (s : State) (c k : Nat) (f : CanFrame) : List Nat :=
  (s.objsOf c k).filter (fun o => (s.objW o 1).toNat == f.id && (bits (s.objW o 0) 3 3 == 1) == f.ide)

theorem State.takers_of_pat (pat : t.pat = s.pat) (c k : Nat) (f : CanFrame) : t.takers c k f = s.takers c k f := by
  simp only [State.takers, State.objsOf_of_pat pat, State.objW_of_pat pat]

theorem State.queue0_object (short : f.ide = false) (receives : s.takers c 2 f = [o]) (loops : s.takers c 1 f = []) : s.queue0 c f = s.objFrame o f := by
  have queued : s.queue0 c f = ((s.takers c 1 f).foldl (fun (v : State) o => { v with can := { v.can with readback := aset v.can.readback o (f.eof, f.data) } })
    ((s.takers c 2 f).foldl (fun (u : State) o => u.objFrame o f) s)).pgnFrame c f := rfl
  rw [queued, receives, loops]
  exact if_pos (by simp [short])

/-- R385: object `o` takes a frame. -/
def State.objTakes (s : State) (o : Nat) (f : CanFrame) : State :=
  { s with can := { s.can with objs := aset s.can.objs o ⟨some (f.eof, f.sof, f.data), (aget ({} : CanObj) s.can.objs o).newest, s.tim.el, false⟩ } }

theorem State.objFrame_eq (s : State) (o : Nat) (f : CanFrame) :
    s.objFrame o f = if (s.objTakes o f).can.objs.all (fun e => !e.2.timedOut) then (s.objTakes o f).causeGone 0x0705 else s.objTakes o f := rfl

theorem State.objTakes_acts (s : State) (o : Nat) (f : CanFrame) : Acts (partMask [.can]) s (s.objTakes o f) := Acts.upd_can (m := partMask [.can]) (.refl s) rfl

/-- What a receive object that takes a frame shows. -/
theorem State.objFrame_shows (sound : s.Sound) (o : Nat) (f : CanFrame) : (s.objFrame o f).can = (s.objTakes o f).can ∧
    Changes [.alarms, .rcd, .can, .regs] recFields [0x0705] s (s.objFrame o f) := by
  have takes : Changes [.alarms, .rcd, .can, .regs] recFields [0x0705] s (s.objTakes o f) := (Changes.refl sound).acts (State.objTakes_acts s o f)
  rw [State.objFrame_eq]
  split
  · exact ⟨(State.causeGone_acts ..).frame .can rfl, takes.causeGone _⟩
  · exact ⟨rfl, takes⟩

theorem exec_canFrame_object {e : Nat} (sound : s.Sound) (h : s.CanHears c f) (low : c ≤ 5) (data : f.rtr = false) (short : f.ide = false)
    (element : s.canMatch c f.ide f.id = some (e, 1)) (receives : s.takers c 2 f = [o]) (loops : s.takers c 1 f = []) (empty : (s.canChan c).tx = []) :
    ∃ t, exec (.canFrame c f) s = .next t ∧ aget ({} : CanObj) t.can.objs o =
      ⟨some (f.eof, f.sof, f.data), (aget ({} : CanObj) s.can.objs o).newest, s.tim.el, false⟩ ∧ (t.canChan c).q1 = (s.canChan c).q1 ∧
    (∀ d, d ≠ c → t.canChan d = s.canChan d) ∧ t.fld (F_CAN_RX_CNT_COUNT c) = Nat.min 4294967295 (s.fld (F_CAN_RX_CNT_COUNT c) + 1) ∧
    Frame [.alarms, .rcd, .can, .regs] s t := by
  have seen := State.canSeen_idle sound empty f
  have run := exec_canFrame_matched h (seen.own.trans h.own) data (seen.element.trans element)
  generalize s.canSeen c f = u at *
  have acts : u.canActs c e 1 f = (u.bump (F_CAN_RX_CNT_COUNT c)).queue0 c f := rfl
  rw [acts] at run
  have chan : (u.canChan c).q1 = (s.canChan c).q1 := by rw [State.canChan_of_can seen.can, State.canChan_setCanChan_self]
  have others (d : Nat) (hd : d ≠ c) : u.canChan d = s.canChan d := by rw [State.canChan_of_can seen.can, State.canChan_setCanChan_other hd]
  have objs : u.can.objs = s.can.objs := by rw [seen.can]; rfl
  have apart : ∀ x ∈ [F_CAN_STATUS_SYNC c], x.apart (F_CAN_RX_CNT_COUNT c) := by
    simp only [List.forall_mem_singleton, Fld.apart, F_CAN_STATUS_SYNC, F_CAN_RX_CNT_COUNT, A_CAN_STATUS, A_CAN_RX_CNT]
    omega
  have count := State.fld_bump seen.changes.sound (F_CAN_RX_CNT_COUNT c) 1
  rw [seen.changes.fld (F_CAN_RX_CNT_COUNT c) rfl apart] at count
  have counted := State.bump_acts u (F_CAN_RX_CNT_COUNT c) 1
  generalize u.bump (F_CAN_RX_CNT_COUNT c) = v at *
  have pat : v.pat = s.pat := (counted.frame .pat rfl).trans (seen.changes.frame .pat (by simp))
  rw [State.queue0_object short ((State.takers_of_pat pat ..).trans receives) ((State.takers_of_pat pat ..).trans loops)] at run
  obtain ⟨can, changes⟩ := State.objFrame_shows (counted.sound seen.changes.sound) o f
  have vcan : v.can = u.can := counted.frame .can rfl
  have el : v.tim.el = s.tim.el := (counted.frame .elapsed rfl).trans (seen.changes.frame .elapsed (by simp))
  have chans (d : Nat) : (v.objFrame o f).canChan d = u.canChan d := by
    rw [State.canChan, State.canChan, can, ← vcan]
    rfl
  have beside : ∀ x ∈ recFields, x.apart (F_CAN_RX_CNT_COUNT c) := by
    refine recFields_apart ?_ ?_
    all_goals
      simp only [F_CAN_RX_CNT_COUNT, A_CAN_RX_CNT, A_REC_LOST, A_REC_EVENT]
      omega
  refine ⟨_, run, ?_, by rw [chans, chan], fun d hd => (chans d).trans (others d hd), (changes.fld _ rfl beside).trans count, ?_⟩
  · rw [can, State.objTakes, aget_eq_afind, afind_aset_self, el, vcan, objs]
    rfl
  · exact (seen.changes.frame.mono (by simp)).trans ((counted.reaches (ps := [.alarms, .rcd, .can, .regs])).trans changes.frame)

/-- R385: object `o` times out at elapsed time `e`, or now where that has passed. -/
def State.objExpires (s : State) (o e : Nat) : State :=
  { s.reachEl e with can := { s.can with objs := aset s.can.objs o { aget ({} : CanObj) s.can.objs o with timedOut := true } } }

theorem State.objExpires_told (s : State) (o e : Nat) : ({ s.reachEl e with can := { (s.reachEl e).can with
    objs := aset (s.reachEl e).can.objs o { aget ({} : CanObj) s.can.objs o with timedOut := true } } } : State) = s.objExpires o e := rfl

/-- What the time-out of an object leaves. -/
theorem State.objExpires_shows (sound : s.Sound) (o e k : Nat) (low : k < 8) :
    let t := ((s.objExpires o e).event (F_CAN_EVENT_OBJ_TIMEOUT k)).raise 0x0705 (pay [o])
    aget ({} : CanObj) t.can.objs o = { aget ({} : CanObj) s.can.objs o with timedOut := true } ∧
    t.flag (F_CAN_EVENT_OBJ_TIMEOUT k) = true ∧ t.Alarmed 0x0705 ∧ AlarmsBut [0x0705] s t ∧ t.tim.el = Nat.max s.tim.el e ∧
    Frame [.alarms, .rcd, .tim, .elapsed, .working, .can, .regs] s t := by
  have expires : Acts (partMask [.tim, .elapsed, .working, .can]) s (s.objExpires o e) :=
    ((State.reachEl_acts s e).mono rfl).step (Acts.upd_can (m := partMask [.can]) (.refl _) rfl) rfl
  have el : (s.objExpires o e).tim.el = Nat.max s.tim.el e := State.reachEl_max s e
  have held : aget ({} : CanObj) (s.objExpires o e).can.objs o = { aget ({} : CanObj) s.can.objs o with timedOut := true } := by
    rw [State.objExpires, aget_eq_afind, afind_aset_self, Option.getD_some]
  generalize s.objExpires o e = u at *
  have start : Changes [.alarms, .rcd, .tim, .elapsed, .working, .can, .regs] (F_CAN_EVENT_OBJ_TIMEOUT k :: recFields) [0x0705] s u := (Changes.refl sound).acts expires
  have told : Changes [.alarms, .rcd, .regs] (F_CAN_EVENT_OBJ_TIMEOUT k :: recFields) [0x0705] u ((u.event (F_CAN_EVENT_OBJ_TIMEOUT k)).raise 0x0705 (pay [o])) :=
    ((Changes.refl start.sound).event _).raise _ _
  have whole := start.trans told.mono
  refine ⟨by rw [told.frame .can (by simp), held], ?_, (alarm_raise ..).trans (if_pos rfl), whole.alarms, by rw [told.frame .tim (by simp), el], whole.frame⟩
  refine (flag_raise (start.sound.event _) _ _ _ ?_ ?_).trans (flag_event start.sound _ rfl)
  all_goals
    simp only [F_CAN_EVENT_OBJ_TIMEOUT, A_CAN_EVENT, A_REC_LOST, F_REC_EVENT_LOST_EVT, A_REC_EVENT]
    omega

theorem exec_canObjectTimeout_silent (sound : s.Sound) (receive : s.objIs o (s.objChan o) 2 = true) (fresh : (aget ({} : CanObj) s.can.objs o).timedOut = false) :
    ∃ t, exec (.canObjectTimeout o) s = .next t ∧ aget ({} : CanObj) t.can.objs o = { aget ({} : CanObj) s.can.objs o with timedOut := true } ∧
    t.flag (F_CAN_EVENT_OBJ_TIMEOUT (s.objChan o)) = true ∧ t.Alarmed 0x0705 ∧ AlarmsBut [0x0705] s t ∧
    t.tim.el = Nat.max s.tim.el ((aget ({} : CanObj) s.can.objs o).lastAt + bits (s.objW o 2) 31 16 * ms) ∧
    Frame [.alarms, .rcd, .tim, .elapsed, .working, .can, .regs] s t := by
  have run : exec (.canObjectTimeout o) s = .next (((s.objExpires o ((aget ({} : CanObj) s.can.objs o).lastAt + bits (s.objW o 2) 31 16 * ms)).event
      (F_CAN_EVENT_OBJ_TIMEOUT (s.objChan o))).raise 0x0705 (pay [o])) :=
    (exec_canObjectTimeout o s).trans (congrArg Host.Outcome.next ((if_neg (by simp [receive, fresh])).trans
      (congrArg (fun u : State => (u.event (F_CAN_EVENT_OBJ_TIMEOUT (s.objChan o))).raise 0x0705 (pay [o])) (State.objExpires_told s o _))))
  exact ⟨_, run, State.objExpires_shows sound o _ _ (Nat.mod_lt _ (by decide))⟩

/-! Fast packets (R389). -/

/-- R389: the packet `p` leaves channel `c`. -/
def State.abandoned (s : State) (c : Nat) (p : FastPacket) : State :=
  (s.setCanChan c (fun k => { k with fast := k.fast.filter (fun q => !(q.source == p.source && q.pgn == p.pgn)), abandoned := k.abandoned + 1 })).event
    (F_CAN_EVENT_FP_ABANDON c)

/-- R389: the alarm of the abandoned fast packets of channel `c`. -/
def State.abandonTold (s : State) (c : Nat) : State := (s.setCanChan c (fun k => { k with fpAlarmAt := some s.tim.el })).raise 0x0707

theorem State.abandon_cases (s : State) (c : Nat) (p : FastPacket) :
    s.abandon c p = (s.abandoned c p).abandonTold c ∨ (((s.abandoned c p).canChan c).fpAlarmAt ≠ none ∧ s.abandon c p = s.abandoned c p) := by
  unfold State.abandon
  extract_lets t
  split
  next a told =>
    split
    · exact .inl rfl
    · exact .inr ⟨fun none => Option.some_ne_none a (told.symm.trans none), rfl⟩
  next => exact .inl rfl

/-- What the end of a fast packet leaves. -/
structure Abandoned (s t : State) (c : Nat) (p : FastPacket) : Prop where
  changes : Changes [.alarms, .rcd, .can, .regs] (F_CAN_EVENT_FP_ABANDON c :: recFields) [0x0707] s t
  fast : (t.canChan c).fast = (s.canChan c).fast.filter (fun q => !(q.source == p.source && q.pgn == p.pgn))
  count : (t.canChan c).abandoned = (s.canChan c).abandoned + 1
  event : t.flag (F_CAN_EVENT_FP_ABANDON c) = true
  told : (s.canChan c).fpAlarmAt = none → t.Alarmed 0x0707

theorem State.abandon_abandons (sound : s.Sound) (low : c ≤ 5) (p : FastPacket) : Abandoned s (s.abandon c p) c p := by
  have dropped := State.setCanChan_acts s c (fun k => { k with fast := k.fast.filter (fun q => !(q.source == p.source && q.pgn == p.pgn)), abandoned := k.abandoned + 1 })
  have start : Changes [.alarms, .rcd, .can, .regs] (F_CAN_EVENT_FP_ABANDON c :: recFields) [0x0707] s (s.abandoned c p) :=
    ((Changes.refl sound).acts dropped).event _
  have event : (s.abandoned c p).flag (F_CAN_EVENT_FP_ABANDON c) = true := flag_event (dropped.sound sound) _ rfl
  have chan : (s.abandoned c p).canChan c =
      { s.canChan c with fast := (s.canChan c).fast.filter (fun q => !(q.source == p.source && q.pgn == p.pgn)), abandoned := (s.canChan c).abandoned + 1 } :=
    State.canChan_setCanChan_self s c (fun k => { k with fast := k.fast.filter (fun q => !(q.source == p.source && q.pgn == p.pgn)), abandoned := k.abandoned + 1 })
  obtain rings | ⟨rang, silent⟩ := State.abandon_cases s c p
  · rw [rings]
    generalize s.abandoned c p = u at *
    have noted := State.setCanChan_acts u c (fun k => { k with fpAlarmAt := some u.tim.el })
    have chan' : (u.setCanChan c (fun k => { k with fpAlarmAt := some u.tim.el })).canChan c = { u.canChan c with fpAlarmAt := some u.tim.el } :=
      State.canChan_setCanChan_self u c (fun k => { k with fpAlarmAt := some u.tim.el })
    have told : Changes [.alarms, .rcd, .can, .regs] (F_CAN_EVENT_FP_ABANDON c :: recFields) [0x0707] s (u.abandonTold c) := (start.acts noted).raise _ _
    have can : (u.abandonTold c).canChan c = (u.setCanChan c (fun k => { k with fpAlarmAt := some u.tim.el })).canChan c :=
      State.canChan_of_can ((State.raise_acts ..).frame .can rfl) c
    refine ⟨told, by rw [can, chan', chan], by rw [can, chan', chan], ?_, fun _ => (alarm_raise ..).trans (if_pos rfl)⟩
    refine (flag_raise (noted.sound start.sound) _ _ _ ?_ ?_).trans ((State.flag_of_regs (noted.frame .regs rfl) _).trans event)
    all_goals
      simp only [F_CAN_EVENT_FP_ABANDON, A_CAN_EVENT, A_REC_LOST, F_REC_EVENT_LOST_EVT, A_REC_EVENT]
      omega
  · rw [silent]
    exact ⟨start, by rw [chan], by rw [chan], event, fun fresh => absurd (by rw [chan]; exact fresh) rang⟩

/-- What a fast packet that does not complete by elapsed time `d` leaves. -/
theorem State.abandon_late {a k : Nat} {p : FastPacket} (sound : s.Sound) (low : c ≤ 5) (source : p.source = a) (pgn : p.pgn = k) (d : Nat) :
    let t := (s.reachEl d).abandon c p
    (∀ q ∈ (t.canChan c).fast, ¬(q.source = a ∧ q.pgn = k)) ∧
    (t.canChan c).abandoned = (s.canChan c).abandoned + 1 ∧ t.flag (F_CAN_EVENT_FP_ABANDON c) = true ∧ t.tim.el = Nat.max s.tim.el d ∧
    ((s.canChan c).fpAlarmAt = none → t.Alarmed 0x0707) ∧ AlarmsBut [0x0707] s t ∧ Frame [.alarms, .rcd, .tim, .elapsed, .working, .can, .regs] s t := by
  have waited := State.reachEl_acts s d
  have el := State.reachEl_max s d
  have chan : (s.reachEl d).canChan c = s.canChan c := rfl
  generalize s.reachEl d = u at *
  obtain ⟨changes, fast, count, event, told⟩ := State.abandon_abandons (waited.sound sound) low p
  refine ⟨fun q hq => ?_, by rw [count, chan], event, (changes.frame .elapsed (by simp)).trans el, fun fresh => told (by rw [chan]; exact fresh),
    fun x hx => (changes.alarms x hx).trans (alarm_of_acts waited rfl), waited.reaches.trans (changes.frame.mono (by simp))⟩
  rw [fast] at hq
  have kept := (List.mem_filter.mp hq).2
  rintro ⟨hs, hp⟩
  simp [source, pgn, hs, hp] at kept

theorem exec_fastPacketTimeout_found {a k : Nat} {p : FastPacket} (sound : s.Sound) (low : c ≤ 5)
    (found : (s.canChan c).fast.find? (fun q => q.source == a && q.pgn == k) = some p) :
    ∃ t, exec (.fastPacketTimeout c a k) s = .next t ∧ (∀ q ∈ (t.canChan c).fast, ¬(q.source = a ∧ q.pgn = k)) ∧
    (t.canChan c).abandoned = (s.canChan c).abandoned + 1 ∧ t.flag (F_CAN_EVENT_FP_ABANDON c) = true ∧ t.tim.el = Nat.max s.tim.el (p.since + 750 * ms) ∧
    ((s.canChan c).fpAlarmAt = none → t.Alarmed 0x0707) ∧ AlarmsBut [0x0707] s t ∧ Frame [.alarms, .rcd, .tim, .elapsed, .working, .can, .regs] s t := by
  have run : exec (.fastPacketTimeout c a k) s = .next ((s.reachEl (p.since + 750 * ms)).abandon c p) := by
    rw [exec_fastPacketTimeout, execFastPacketTimeout, found]
  have same : p.source = a ∧ p.pgn = k := by simpa using List.find?_some found
  exact ⟨_, run, State.abandon_late sound low same.1 same.2 _⟩

/-! A frame that waits (R387). -/

theorem canWinner_only {start : Nat} (due : g.due ≤ start) : canWinner start [g] = some g := by simp [canWinner, due]

/-- R387: the only frame that waits starts once the bus is free and it is due. -/
theorem State.canSettle_starts {limit : Nat} (sends : s.canSends c = true) (only : (s.canChan c).tx = [g]) (due : Nat.max (s.canChan c).busyTill g.due ≤ limit) :
    s.canSettle c limit = s.canStart c (Nat.max (s.canChan c).busyTill g.due) g := by
  unfold State.canSettle
  rw [if_pos sends, only]
  show State.canRun c limit 1 s = _
  rw [State.canRun, only]
  simp only [List.map_cons, List.map_nil, List.foldl_nil, if_neg (Nat.not_lt.mpr due), canWinner_only (Nat.le_max_right (s.canChan c).busyTill g.due)]
  rfl

/-- R387: the frame `g` leaves channel `c`, no reference message yet. -/
def State.canLeaves (s : State) (c start : Nat) (g : CanTx) : State :=
  (((s.setCanChan c (fun k => { k with tx := k.tx.erase g, busyTill := start + s.canTime c g.head g.data.length })).bump (F_CAN_TX_CNT_COUNT c)).setFlag
    (F_CAN_STATUS_SYNC c) true).send (.can c) .canFrame ((g.head : Int) :: g.data.map (fun b => (b.toNat : Int)))

theorem State.canStart_eq (s : State) (c start : Nat) (g : CanTx) : s.canStart c start g =
    (s.canLeaves c start g).when g.isRef (fun x => x.setReg (A_CAN_TM_SOF c) (toWord (tsuNs (x.tim.wt + start - x.tim.el)))) := rfl

/-- What a frame that leaves shows. -/
structure CanLeft (s t : State) (c : Nat) (g : CanTx) : Prop where
  changes : Changes [.can, .regs, .out] [F_CAN_TX_CNT_COUNT c, F_CAN_STATUS_SYNC c] [] s t
  sends : s.Sends t [⟨.can c, .canFrame, (g.head : Int) :: g.data.map (fun b => (b.toNat : Int))⟩]
  tx : (t.canChan c).tx = (s.canChan c).tx.erase g
  count : t.fld (F_CAN_TX_CNT_COUNT c) = Nat.min 4294967295 (s.fld (F_CAN_TX_CNT_COUNT c) + 1)
  sync : t.flag (F_CAN_STATUS_SYNC c) = true

theorem State.canLeaves_left (sound : s.Sound) (c start : Nat) (g : CanTx) : CanLeft s (s.canLeaves c start g) c g := by
  have freed := State.setCanChan_acts s c (fun k => { k with tx := k.tx.erase g, busyTill := start + s.canTime c g.head g.data.length })
  have chan : (s.setCanChan c (fun k => { k with tx := k.tx.erase g, busyTill := start + s.canTime c g.head g.data.length })).canChan c =
      { s.canChan c with tx := (s.canChan c).tx.erase g, busyTill := start + s.canTime c g.head g.data.length } :=
    State.canChan_setCanChan_self s c (fun k => { k with tx := k.tx.erase g, busyTill := start + s.canTime c g.head g.data.length })
  have out : (s.setCanChan c (fun k => { k with tx := k.tx.erase g, busyTill := start + s.canTime c g.head g.data.length })).out = s.out := rfl
  unfold State.canLeaves
  generalize s.setCanChan c (fun k => { k with tx := k.tx.erase g, busyTill := start + s.canTime c g.head g.data.length }) = u at *
  have first : Changes [.can, .regs, .out] [F_CAN_TX_CNT_COUNT c, F_CAN_STATUS_SYNC c] [] s u := (Changes.refl sound).acts freed
  have counted := first.bump (F_CAN_TX_CNT_COUNT c) 1
  have count := State.fld_bump first.sound (F_CAN_TX_CNT_COUNT c) 1
  rw [State.fld_of_regs (freed.frame .regs rfl)] at count
  have kept : (u.bump (F_CAN_TX_CNT_COUNT c)).can = u.can ∧ (u.bump (F_CAN_TX_CNT_COUNT c)).out = u.out := ⟨rfl, rfl⟩
  obtain ⟨can, out'⟩ := kept
  generalize u.bump (F_CAN_TX_CNT_COUNT c) = v at *
  have shown := counted.setFlag (F_CAN_STATUS_SYNC c) true
  have sync : (v.setFlag (F_CAN_STATUS_SYNC c) true).flag (F_CAN_STATUS_SYNC c) = true := flag_setFlag counted.sound _ _ rfl
  have count' : (v.setFlag (F_CAN_STATUS_SYNC c) true).fld (F_CAN_TX_CNT_COUNT c) = v.fld (F_CAN_TX_CNT_COUNT c) :=
    fld_setFld_other counted.sound _ _ _ rfl rfl (.inl (by simp only [F_CAN_TX_CNT_COUNT, F_CAN_STATUS_SYNC, A_CAN_TX_CNT, A_CAN_STATUS]; omega))
  have kept' : (v.setFlag (F_CAN_STATUS_SYNC c) true).can = v.can ∧ (v.setFlag (F_CAN_STATUS_SYNC c) true).out = v.out := ⟨rfl, rfl⟩
  obtain ⟨can', out''⟩ := kept'
  generalize v.setFlag (F_CAN_STATUS_SYNC c) true = w at *
  have sent := State.send_acts w (.can c) .canFrame ((g.head : Int) :: g.data.map (fun b => (b.toNat : Int)))
  have sends : (w.send (.can c) .canFrame ((g.head : Int) :: g.data.map (fun b => (b.toNat : Int)))).out =
    w.out ++ [⟨.can c, .canFrame, (g.head : Int) :: g.data.map (fun b => (b.toNat : Int))⟩] := rfl
  generalize w.send (.can c) .canFrame ((g.head : Int) :: g.data.map (fun b => (b.toNat : Int))) = x at *
  refine ⟨shown.acts sent, by rw [State.Sends, sends, out'', out', out], ?_, ?_, (State.flag_of_regs (sent.frame .regs rfl) _).trans sync⟩
  · rw [State.canChan_of_can (sent.frame .can rfl), State.canChan_of_can can', State.canChan_of_can can, chan]
  · rw [State.fld_of_regs (sent.frame .regs rfl), count', count]
    rfl

/-- R381: the bus of channel `c` is taken until an elapsed time. -/
def State.busyTo (s : State) (c e : Nat) : State := s.setCanChan c (fun k => { k with busyTill := Nat.max k.busyTill e })

theorem State.busTaken_eq (s : State) (c : Nat) (f : CanFrame) : s.busTaken c f =
    let t := s.canSettle c (s.tim.el - (s.tim.wt - f.sof))
    t.busyTo c (t.tim.el - (t.tim.wt - f.eof)) := rfl

/-- What a frame seen on a channel leaves once the frame that waited has started. -/
theorem State.canSeen_starts (sound : s.Sound) (sends : s.canSends c = true) (only : (s.canChan c).tx = [g]) (plain : g.isRef = false)
    (due : Nat.max (s.canChan c).busyTill g.due ≤ s.tim.el - (s.tim.wt - f.sof)) : CanLeft s (s.canSeen c f) c g := by
  have left := State.canLeaves_left sound c (Nat.max (s.canChan c).busyTill g.due) g
  have started : s.canSettle c (s.tim.el - (s.tim.wt - f.sof)) = s.canLeaves c (Nat.max (s.canChan c).busyTill g.due) g := by
    rw [State.canSettle_starts sends only due, State.canStart_eq, plain]
    rfl
  rw [State.canSeen, State.busTaken_eq, started]
  generalize s.canLeaves c (Nat.max (s.canChan c).busyTill g.due) g = u at *
  dsimp only
  generalize u.tim.el - (u.tim.wt - f.eof) = e
  have taken := State.setCanChan_acts u c (fun k => { k with busyTill := Nat.max k.busyTill e })
  have busy : Changes [.can, .regs, .out] [F_CAN_TX_CNT_COUNT c, F_CAN_STATUS_SYNC c] [] s (u.busyTo c e) := left.changes.acts taken
  have tx : ((u.busyTo c e).canChan c).tx = (u.canChan c).tx := by rw [State.busyTo, State.canChan_setCanChan_self]
  have out : (u.busyTo c e).out = u.out := taken.frame .out rfl
  have regs : (u.busyTo c e).regs = u.regs := taken.frame .regs rfl
  generalize u.busyTo c e = v at *
  have shown := State.setFlag_acts v (F_CAN_STATUS_SYNC c) true
  refine ⟨busy.setFlag _ _, ?_, ?_, ?_, flag_setFlag busy.sound _ _ rfl⟩
  · rw [State.Sends, shown.frame .out rfl, out, left.sends]
  · rw [State.canChan_of_can (shown.frame .can rfl), tx, left.tx]
  · rw [← left.count, ← State.fld_of_regs regs]
    exact fld_setFld_other busy.sound _ _ _ rfl rfl (.inl (by simp only [F_CAN_TX_CNT_COUNT, F_CAN_STATUS_SYNC, A_CAN_TX_CNT, A_CAN_STATUS]; omega))

theorem CanLeft.canSends (h : CanLeft s t c g) : t.canSends c = s.canSends c := by
  have beside {x : Fld} (a : x.addr = A_CAN_STATUS c) (low : 0 < x.lo) : ∀ y ∈ [F_CAN_TX_CNT_COUNT c, F_CAN_STATUS_SYNC c], y.apart x := by
    simp only [List.forall_mem_cons, List.not_mem_nil, false_implies, implies_true, and_true]
    refine ⟨.inl ?_, .inr (.inl low)⟩
    rw [a]
    simp only [F_CAN_TX_CNT_COUNT, A_CAN_TX_CNT, A_CAN_STATUS]
    omega
  rw [State.canSends, State.canSends, State.canW, State.canW, State.parW_of_pat (h.changes.frame .pat (by simp)), h.changes.flag _ rfl (beside rfl Nat.one_pos),
    h.changes.fld (F_CAN_STATUS_STATE c) rfl (beside rfl (show 0 < 4 by decide))]

theorem State.canSends_on (sends : s.canSends c = true) : s.flag (F_CAN_STATUS_EN c) = true ∧ s.fld (F_CAN_STATUS_STATE c) < 2 := by
  simp only [State.canSends, Bool.and_eq_true, decide_eq_true_eq] at sends
  exact ⟨sends.1.1, sends.2⟩

theorem exec_canFrame_starts (sound : s.Sound) (sends : s.canSends c = true) (classic : f.fdf = false) (own : s.foreignRef c f = false)
    (drops : f.rtr = true ∨ s.canMatch c f.ide f.id = none) (only : (s.canChan c).tx = [g]) (plain : g.isRef = false)
    (due : Nat.max (s.canChan c).busyTill g.due ≤ s.tim.el - (s.tim.wt - f.sof)) : ∃ t, exec (.canFrame c f) s = .next t ∧
    s.Sends t [⟨.can c, .canFrame, (g.head : Int) :: g.data.map (fun b => (b.toNat : Int))⟩] ∧ (t.canChan c).tx = [] ∧
    t.fld (F_CAN_TX_CNT_COUNT c) = Nat.min 4294967295 (s.fld (F_CAN_TX_CNT_COUNT c) + 1) ∧ Frame [.can, .regs, .out] s t := by
  have left := State.canSeen_starts (f := f) sound sends only plain due
  obtain ⟨on, state⟩ := State.canSends_on sends
  have lead : SameLead s (s.canSeen c f) :=
    ⟨left.changes.frame .pat (by simp), left.changes.frame .dev (by simp), left.changes.frame .twn (by simp), left.changes.frame .pins (by simp)⟩
  have run := exec_canFrame_unmatched ⟨on, state, classic, own⟩ ((lead.foreignRef left.canSends f).trans own)
    (drops.imp_right (State.canMatch_of_pat lead.pat lead.pins _ _).trans)
  exact ⟨_, run, left.sends, by rw [left.tx, only]; simp, left.count, left.changes.frame⟩

end

end Sys2Proof.Machine

/-! Error confinement of the CAN channels (R391). -/
namespace Sys2Proof.Machine
set_option Elab.async false

section
variable {s t : State} {c n r : Nat}

/-! The counters and their warnings. -/

/-- The fields of CAN_STATUS that the error counters of channel `c` show in. -/
def counterFields (c : Nat) : List Fld := [F_CAN_STATUS_TEC c, F_CAN_STATUS_REC c]

/-- R391: the counters show. -/
def State.counted (s : State) (c n r : Nat) : State := (s.setFld (F_CAN_STATUS_TEC c) (Nat.min n 511)).setFld (F_CAN_STATUS_REC c) (Nat.min r 255)

/-- R391: the transmit counter reaches its warning threshold. -/
def State.warnsTec (s : State) (c n : Nat) : Bool := bits (s.canW c 3) 7 0 ≤ n && s.fld (F_CAN_STATUS_TEC c) < bits (s.canW c 3) 7 0

/-- R391: the receive counter reaches its warning threshold. -/
def State.warnsRec (s : State) (c r : Nat) : Bool := bits (s.canW c 3) 15 8 ≤ r && s.fld (F_CAN_STATUS_REC c) < bits (s.canW c 3) 15 8

/-- R391: the warnings of channel `c` are told. -/
def State.warned (s : State) (c : Nat) (tec rec' : Bool) : State :=
  ((s.when tec (fun x => x.event (F_CAN_EVENT_TEC_WARN c))).when rec' (fun x => x.event (F_CAN_EVENT_REC_WARN c))).when (tec || rec') (fun x => x.raise 0x0701 (pay [c]))

/-- R391: channel `c` is bus-off. -/
def State.busOff (s : State) (c : Nat) : State :=
  (((s.setFld (F_CAN_STATUS_STATE c) 2).event (F_CAN_EVENT_BUSOFF c)).bump (F_CAN_BOFF_CNT_COUNT c)).setFlag (F_CAN_STATUS_SYNC c) false

/-- R391: bus-off is told, and its time taken. -/
def State.busOffTold (s : State) (c : Nat) : State := (s.setCanChan c (fun k => { k with boffAt := some s.tim.el, recovering := false })).raise 0x0703

/-- R391: channel `c` is error passive. -/
def State.passive (s : State) (c : Nat) : State := ((s.setFld (F_CAN_STATUS_STATE c) 1).event (F_CAN_EVENT_PASSIVE c)).raise 0x0702

theorem State.canLevels_off (high : 255 < n) (r : Nat) : s.canLevels c n r =
    (((s.counted c n r).warned c (s.warnsTec c n) (s.warnsRec c r)).busOff c).busOffTold c := if_pos high

theorem State.canLevels_passive (low : n ≤ 255) (high : 127 < n ∨ 127 < r) (was : s.fld (F_CAN_STATUS_STATE c) ≠ 1) : s.canLevels c n r =
    ((s.counted c n r).warned c (s.warnsTec c n) (s.warnsRec c r)).passive c :=
  (if_neg (Nat.not_lt.mpr low)).trans ((if_pos (by simpa using high)).trans (if_neg was))

theorem State.canLevels_active (lowT : n ≤ 127) (lowR : r ≤ 127) : s.canLevels c n r =
    ((s.counted c n r).warned c (s.warnsTec c n) (s.warnsRec c r)).setFld (F_CAN_STATUS_STATE c) 0 :=
  (if_neg (by omega)).trans (if_neg (by simp; omega))

theorem State.counted_changes (sound : s.Sound) (c n r : Nat) : Changes [.regs] (counterFields c) [] s (s.counted c n r) :=
  ((Changes.refl sound).setFld _ _ rfl (by simp [counterFields])).setFld _ _ rfl (by simp [counterFields])

theorem State.counted_shows (sound : s.Sound) (c n r : Nat) : (s.counted c n r).fld (F_CAN_STATUS_TEC c) = Nat.min n 511 ∧
    (s.counted c n r).fld (F_CAN_STATUS_REC c) = Nat.min r 255 := by
  have first := sound.setFld (F_CAN_STATUS_TEC c) (Nat.min n 511)
  refine ⟨?_, ?_⟩
  · refine (fld_setFld_other first _ _ _ rfl rfl (.inr (.inl (by decide : 15 < 16)))).trans ((fld_setFld sound _ _ rfl).trans ?_)
    exact Nat.mod_eq_of_lt (Nat.lt_of_le_of_lt (Nat.min_le_right n 511) (by decide : 511 < 512))
  · refine (fld_setFld first _ _ rfl).trans ?_
    exact Nat.mod_eq_of_lt (Nat.lt_of_le_of_lt (Nat.min_le_right r 255) (by decide : 255 < 256))

/-- The registers that the warnings of channel `c` write. -/
def warnFields (c : Nat) : List Fld := [F_CAN_EVENT_TEC_WARN c, F_CAN_EVENT_REC_WARN c] ++ recFields

theorem State.warned_changes (sound : s.Sound) (c : Nat) (a b : Bool) : Changes [.alarms, .rcd, .regs] (warnFields c) [0x0701] s (s.warned c a b) :=
  (((Changes.refl sound).when fun _ hu => hu.event _ rfl (by simp [warnFields])).when fun _ hu => hu.event _ rfl (by simp [warnFields])).when
    fun _ hu => hu.raise _ _ (by simp) fun _ hf => List.mem_append_right _ hf

/-- A register below the recorder's that is not CAN_EVENT stands beside what a warning writes. -/
theorem warnFields_apart {f : Fld} (event : f.addr ≠ A_CAN_EVENT c) (low : f.addr < A_REC_EVENT) : ∀ g ∈ warnFields c, g.apart f := by
  have order : A_REC_EVENT < A_REC_LOST := by decide
  simp only [warnFields, List.cons_append, List.nil_append, List.forall_mem_cons]
  exact ⟨.inl event, .inl event, recFields_apart (by omega) (Nat.ne_of_lt low)⟩

/-! The causes that have cleared (R391, R534). -/

theorem State.canCauses_changes (sound : s.Sound) : Changes [.alarms, .rcd, .regs] recFields [0x0701, 0x0702, 0x0703] s s.canCauses := by
  unfold State.canCauses
  extract_lets warned a b
  have first : Changes [.alarms, .rcd, .regs] recFields [0x0701, 0x0702, 0x0703] s a := .ite (fun _ => (Changes.refl sound).causeGone _) fun _ => .refl sound
  have second : Changes [.alarms, .rcd, .regs] recFields [0x0701, 0x0702, 0x0703] s b := .ite (fun _ => first.causeGone _) fun _ => first
  exact .ite (fun _ => second.causeGone _) fun _ => second

theorem State.noCan_false {f : State → Nat → Bool} (low : c ≤ 5) (on : s.flag (F_CAN_STATUS_EN c) = true) (meets : f s c = true) : s.noCan f = false := by
  rw [State.noCan, List.all_eq_false]
  exact ⟨c, List.mem_range.mpr (by omega), by simp [on, meets]⟩

/-- R391: while channel `c` is error passive, or bus-off, the cause of its alarm stands. -/
theorem State.canCauses_stands (sound : s.Sound) (low : c ≤ 5) (on : s.flag (F_CAN_STATUS_EN c) = true) :
    (s.fld (F_CAN_STATUS_STATE c) = 1 → s.canCauses.alarm? 0x0702 = s.alarm? 0x0702) ∧
    (s.fld (F_CAN_STATUS_STATE c) = 2 → s.canCauses.alarm? 0x0703 = s.alarm? 0x0703) := by
  unfold State.canCauses
  extract_lets warned a b
  have first : Changes [.alarms, .rcd, .regs] recFields [0x0701] s a := .ite (fun _ => (Changes.refl sound).causeGone _) fun _ => .refl sound
  have second : Changes [.alarms, .rcd, .regs] recFields [0x0702] a b := .ite (fun _ => (Changes.refl first.sound).causeGone _) fun _ => .refl first.sound
  have apart {f : Fld} (h : f.addr = A_CAN_STATUS c) : ∀ g ∈ recFields, g.apart f := by
    refine recFields_apart ?_ ?_
    all_goals
      rw [h]
      simp only [A_CAN_STATUS, A_REC_LOST, A_REC_EVENT]
      omega
  have onA : a.flag (F_CAN_STATUS_EN c) = true := (first.flag _ rfl (apart rfl)).trans on
  have onB : b.flag (F_CAN_STATUS_EN c) = true := (second.flag _ rfl (apart rfl)).trans onA
  have stA : a.fld (F_CAN_STATUS_STATE c) = s.fld (F_CAN_STATUS_STATE c) := first.fld _ rfl (apart rfl)
  have stB : b.fld (F_CAN_STATUS_STATE c) = s.fld (F_CAN_STATUS_STATE c) := (second.fld _ rfl (apart rfl)).trans stA
  refine ⟨fun passive => ?_, fun off => ?_⟩
  · have kept : b = a := if_neg (by rw [State.noCan_false low onA (by rw [stA, passive]; rfl)]; decide)
    have last : (if b.noCan (fun t c => t.fld (F_CAN_STATUS_STATE c) == 2) then b.causeGone 0x0703 else b).alarm? 0x0702 = b.alarm? 0x0702 := by
      split
      · exact alarm_causeGone_other (by decide)
      · rfl
    exact last.trans ((congrArg (fun x : State => x.alarm? 0x0702) kept).trans (first.alarms _ (by decide)))
  · rw [if_neg (by rw [State.noCan_false low onB (by rw [stB, off]; rfl)]; decide)]
    exact (second.alarms _ (by decide)).trans (first.alarms _ (by decide))

/-! An error frame (R391). -/

theorem exec_canError_on (on : s.flag (F_CAN_STATUS_EN c) = true) (up : s.fld (F_CAN_STATUS_STATE c) < 2) :
    exec (.canError c n r) s = .next ((s.bump (F_CAN_ERR_CNT_COUNT c)).canLevels c n r).canCauses := by
  rw [exec_canError, execCanError, if_pos (by simp [on, up])]

/-- The registers that an error frame of channel `c` writes before its state shows. -/
def errorFields (c : Nat) : List Fld := F_CAN_ERR_CNT_COUNT c :: counterFields c ++ warnFields c

/-- What stands once the counters of an error frame show and its warnings are told. -/
structure ErrorSeen (s u : State) (c n r : Nat) : Prop where
  changes : Changes [.alarms, .rcd, .regs] (errorFields c) [0x0701] s u
  tec : u.fld (F_CAN_STATUS_TEC c) = Nat.min n 511
  rec' : u.fld (F_CAN_STATUS_REC c) = Nat.min r 255
  on : u.flag (F_CAN_STATUS_EN c) = s.flag (F_CAN_STATUS_EN c)
  count : u.fld (F_CAN_ERR_CNT_COUNT c) = Nat.min 4294967295 (s.fld (F_CAN_ERR_CNT_COUNT c) + 1)

/-- R391: the error counters of channel `c` after an error frame, with the warnings. -/
def State.errorSeen (s : State) (c n r : Nat) : State :=
  ((s.bump (F_CAN_ERR_CNT_COUNT c)).counted c n r).warned c ((s.bump (F_CAN_ERR_CNT_COUNT c)).warnsTec c n) ((s.bump (F_CAN_ERR_CNT_COUNT c)).warnsRec c r)

theorem statusAddr (c : Nat) (low : c ≤ 5) : A_CAN_STATUS c ≠ A_CAN_EVENT c ∧ A_CAN_STATUS c < A_REC_EVENT ∧ A_CAN_ERR_CNT c ≠ A_CAN_EVENT c ∧
    A_CAN_ERR_CNT c < A_REC_EVENT ∧ A_CAN_STATUS c ≠ A_CAN_ERR_CNT c := by
  simp only [A_CAN_STATUS, A_CAN_EVENT, A_CAN_ERR_CNT, A_REC_EVENT]
  omega

theorem State.errorSeen_seen (sound : s.Sound) (low : c ≤ 5) (n r : Nat) : ErrorSeen s (s.errorSeen c n r) c n r := by
  obtain ⟨statusEvent, statusLow, countEvent, countLow, statusCount⟩ := statusAddr c low
  unfold State.errorSeen
  have first : Changes [.regs] [F_CAN_ERR_CNT_COUNT c] [] s (s.bump (F_CAN_ERR_CNT_COUNT c)) := (Changes.refl sound).bump _ 1
  have count := State.fld_bump sound (F_CAN_ERR_CNT_COUNT c) 1
  generalize s.bump (F_CAN_ERR_CNT_COUNT c) = u at *
  have shown := State.counted_changes first.sound c n r
  obtain ⟨tec, recs⟩ := State.counted_shows first.sound c n r
  generalize u.counted c n r = v at *
  generalize u.warnsTec c n = a
  generalize u.warnsRec c r = b
  have told := State.warned_changes shown.sound c a b
  have status {f : Fld} (fits : f.fits = true) (h : f.addr = A_CAN_STATUS c) : (v.warned c a b).fld f = v.fld f :=
    told.fld f fits (warnFields_apart (by rw [h]; exact statusEvent) (by rw [h]; exact statusLow))
  refine ⟨?_, (status rfl rfl).trans tec, (status rfl rfl).trans recs, State.flag_of_fld ((status rfl rfl).trans ?_), ?_⟩
  · exact ((first.mono (hf := by simp [errorFields]) (hc := by simp)).trans (shown.mono (hf := by simp +contextual [errorFields]) (hc := by simp))).trans
      (told.mono (hf := by simp +contextual [errorFields]))
  · refine (shown.fld (F_CAN_STATUS_EN c) rfl ?_).trans (first.fld (F_CAN_STATUS_EN c) rfl (List.forall_mem_singleton.mpr (.inl statusCount)))
    simp only [counterFields, List.forall_mem_cons, List.not_mem_nil, false_implies, implies_true, and_true]
    exact ⟨.inr (.inr (show 1 < 16 by decide)), .inr (.inr (show 1 < 8 by decide))⟩
  · refine (told.fld (F_CAN_ERR_CNT_COUNT c) rfl (warnFields_apart countEvent countLow)).trans ((shown.fld (F_CAN_ERR_CNT_COUNT c) rfl ?_).trans count)
    simp only [counterFields, List.forall_mem_cons, List.not_mem_nil, false_implies, implies_true, and_true]
    exact ⟨.inl statusCount.symm, .inl statusCount.symm⟩

/-- What the causes that clear leave of the registers of a channel. -/
theorem State.canCauses_fld (sound : s.Sound) {f : Fld} (fits : f.fits = true) (low : f.addr < A_REC_EVENT) : s.canCauses.fld f = s.fld f := by
  have order : A_REC_EVENT < A_REC_LOST := by decide
  exact (State.canCauses_changes sound).fld f fits (recFields_apart (by omega) (Nat.ne_of_lt low))

theorem exec_canError_active (sound : s.Sound) (low : c ≤ 5) (on : s.flag (F_CAN_STATUS_EN c) = true) (up : s.fld (F_CAN_STATUS_STATE c) < 2)
    (lowT : n ≤ 127) (lowR : r ≤ 127) : ∃ t, exec (.canError c n r) s = .next t ∧ t.fld (F_CAN_STATUS_STATE c) = 0 ∧
    t.fld (F_CAN_STATUS_TEC c) = n ∧ t.fld (F_CAN_STATUS_REC c) = r ∧ t.fld (F_CAN_ERR_CNT_COUNT c) = Nat.min 4294967295 (s.fld (F_CAN_ERR_CNT_COUNT c) + 1) ∧
    AlarmsBut [0x0701, 0x0702, 0x0703] s t ∧ Frame [.alarms, .rcd, .regs] s t := by
  obtain ⟨-, statusLow, -, countLow, statusCount⟩ := statusAddr c low
  have run : exec (.canError c n r) s = .next ((s.errorSeen c n r).setFld (F_CAN_STATUS_STATE c) 0).canCauses := by
    rw [exec_canError_on on up, State.canLevels_active lowT lowR]
    rfl
  obtain ⟨changes, tec, recs, -, count⟩ := State.errorSeen_seen sound low n r
  generalize s.errorSeen c n r = u at *
  have shown : Changes [.regs] [F_CAN_STATUS_STATE c] [] u (u.setFld (F_CAN_STATUS_STATE c) 0) := (Changes.refl changes.sound).setFld _ _
  have state : (u.setFld (F_CAN_STATUS_STATE c) 0).fld (F_CAN_STATUS_STATE c) = 0 := (fld_setFld changes.sound _ _ rfl).trans (Nat.zero_mod _)
  generalize u.setFld (F_CAN_STATUS_STATE c) 0 = v at *
  have causes := State.canCauses_changes shown.sound
  have kept {f : Fld} (fits : f.fits = true) (h : f.addr < A_REC_EVENT) : v.canCauses.fld f = v.fld f := State.canCauses_fld shown.sound fits h
  have above {f : Fld} (h : 5 < f.lo) : ∀ g ∈ [F_CAN_STATUS_STATE c], g.apart f := List.forall_mem_singleton.mpr (.inr (.inl h))
  refine ⟨_, run, (kept rfl statusLow).trans state, ?_, ?_, ?_, fun x hx => ?_, ?_⟩
  · rw [kept rfl statusLow, shown.fld _ rfl (above (by decide : 5 < 16)), tec]
    exact Nat.min_eq_left (by omega)
  · rw [kept rfl statusLow, shown.fld _ rfl (above (by decide : 5 < 8)), recs]
    exact Nat.min_eq_left (by omega)
  · exact (kept (f := F_CAN_ERR_CNT_COUNT c) rfl countLow).trans ((shown.fld _ rfl (List.forall_mem_singleton.mpr (.inl statusCount.symm))).trans count)
  · exact (causes.alarms x hx).trans ((shown.alarms x (by simp)).trans (changes.alarms x (fun h => hx (List.mem_cons.mpr (.inl (List.mem_singleton.mp h))))))
  · exact changes.frame.trans ((shown.frame.mono (by simp)).trans causes.frame)

theorem exec_canError_passive (sound : s.Sound) (low : c ≤ 5) (on : s.flag (F_CAN_STATUS_EN c) = true) (up : s.fld (F_CAN_STATUS_STATE c) = 0)
    (lowT : n ≤ 255) (high : 127 < n ∨ 127 < r) : ∃ t, exec (.canError c n r) s = .next t ∧ t.fld (F_CAN_STATUS_STATE c) = 1 ∧
    t.flag (F_CAN_EVENT_PASSIVE c) = true ∧ t.Alarmed 0x0702 ∧ t.fld (F_CAN_STATUS_TEC c) = n ∧ Frame [.alarms, .rcd, .regs] s t := by
  obtain ⟨statusEvent, statusLow, -, countLow, statusCount⟩ := statusAddr c low
  have eventLow : A_CAN_EVENT c < A_REC_EVENT := by simp only [A_CAN_EVENT, A_REC_EVENT]; omega
  have order : A_REC_EVENT < A_REC_LOST := by decide
  have was : (s.bump (F_CAN_ERR_CNT_COUNT c)).fld (F_CAN_STATUS_STATE c) ≠ 1 := by
    rw [State.bump, fld_setFld_other sound _ _ _ rfl rfl (.inl statusCount), up]
    decide
  have run : exec (.canError c n r) s = .next ((s.errorSeen c n r).passive c).canCauses := by
    rw [exec_canError_on on (by omega), State.canLevels_passive lowT high was]
    rfl
  obtain ⟨changes, tec, recs, en, -⟩ := State.errorSeen_seen sound low n r
  generalize s.errorSeen c n r = u at *
  have first : Changes [.regs] [F_CAN_STATUS_STATE c] [] u (u.setFld (F_CAN_STATUS_STATE c) 1) := (Changes.refl changes.sound).setFld _ _
  have state : (u.setFld (F_CAN_STATUS_STATE c) 1).fld (F_CAN_STATUS_STATE c) = 1 := (fld_setFld changes.sound _ _ rfl).trans rfl
  unfold State.passive at run
  generalize u.setFld (F_CAN_STATUS_STATE c) 1 = v at *
  have told : Changes [.alarms, .rcd, .regs] (F_CAN_EVENT_PASSIVE c :: recFields) [0x0702] v ((v.event (F_CAN_EVENT_PASSIVE c)).raise 0x0702) :=
    ((Changes.refl first.sound).event _).raise _ _
  have event : ((v.event (F_CAN_EVENT_PASSIVE c)).raise 0x0702).flag (F_CAN_EVENT_PASSIVE c) = true :=
    (flag_raise (first.sound.event _) _ _ _ (show A_CAN_EVENT c ≠ A_REC_LOST by omega) (Nat.ne_of_lt eventLow)).trans (flag_event first.sound _ rfl)
  have alarmed : ((v.event (F_CAN_EVENT_PASSIVE c)).raise 0x0702).Alarmed 0x0702 := (alarm_raise ..).trans (if_pos rfl)
  generalize (v.event (F_CAN_EVENT_PASSIVE c)).raise 0x0702 = w at *
  have status {f : Fld} (fits : f.fits = true) (h : f.addr = A_CAN_STATUS c) : w.fld f = v.fld f := by
    refine told.fld f fits (List.forall_mem_cons.mpr ⟨.inl (by rw [h]; exact statusEvent), recFields_apart ?_ ?_⟩)
    · rw [h]
      omega
    · rw [h]
      exact Nat.ne_of_lt statusLow
  have stateW : w.fld (F_CAN_STATUS_STATE c) = 1 := (status rfl rfl).trans state
  have tecW : w.fld (F_CAN_STATUS_TEC c) = n := by
    rw [status rfl rfl, first.fld (F_CAN_STATUS_TEC c) rfl (List.forall_mem_singleton.mpr (.inr (.inl (by decide : 5 < 16)))), tec]
    exact Nat.min_eq_left (by omega)
  have onW : w.flag (F_CAN_STATUS_EN c) = true := by
    rw [State.flag_of_fld (status (f := F_CAN_STATUS_EN c) rfl rfl), first.flag (F_CAN_STATUS_EN c) rfl (List.forall_mem_singleton.mpr (.inr (.inr (by decide : 1 < 4)))), en, on]
  have causes := State.canCauses_changes told.sound
  have stands := (State.canCauses_stands told.sound low onW).1 stateW
  refine ⟨_, run, (State.canCauses_fld told.sound rfl statusLow).trans stateW, State.flag_of_fld (State.canCauses_fld told.sound rfl eventLow) |>.trans event, ?_,
    (State.canCauses_fld told.sound rfl statusLow).trans tecW, ?_⟩
  · rw [State.Alarmed, stands]
    exact alarmed
  · exact changes.frame.trans ((first.frame.mono (by simp)).trans (told.frame.trans causes.frame))

/-! Bus-off and recovery (R391). -/

/-- What channel `c` shows once it is bus-off. -/
structure BusOff (s t : State) (c : Nat) : Prop where
  changes : Changes [.alarms, .rcd, .can, .regs] ([F_CAN_STATUS_STATE c, F_CAN_EVENT_BUSOFF c, F_CAN_BOFF_CNT_COUNT c, F_CAN_STATUS_SYNC c] ++ recFields) [0x0703] s t
  state : t.fld (F_CAN_STATUS_STATE c) = 2
  event : t.flag (F_CAN_EVENT_BUSOFF c) = true
  sync : t.flag (F_CAN_STATUS_SYNC c) = false
  since : (t.canChan c).boffAt = some s.tim.el
  alarmed : t.Alarmed 0x0703

theorem State.busOff_off (sound : s.Sound) (low : c ≤ 5) : BusOff s ((s.busOff c).busOffTold c) c := by
  obtain ⟨statusEvent, statusLow, -⟩ := statusAddr c low
  have eventLow : A_CAN_EVENT c < A_REC_EVENT := by simp only [A_CAN_EVENT, A_REC_EVENT]; omega
  have order : A_REC_EVENT < A_REC_LOST := by decide
  have count : A_CAN_STATUS c ≠ A_CAN_BOFF_CNT c ∧ A_CAN_EVENT c ≠ A_CAN_BOFF_CNT c := by simp only [A_CAN_STATUS, A_CAN_EVENT, A_CAN_BOFF_CNT]; omega
  have first := sound.setFld (F_CAN_STATUS_STATE c) 2
  have second := first.event (F_CAN_EVENT_BUSOFF c)
  have third := second.setFld (F_CAN_BOFF_CNT_COUNT c) (Nat.min (((s.setFld (F_CAN_STATUS_STATE c) 2).event (F_CAN_EVENT_BUSOFF c)).fld (F_CAN_BOFF_CNT_COUNT c) + 1)
    (fieldMax (F_CAN_BOFF_CNT_COUNT c)))
  have off : Changes [.alarms, .rcd, .can, .regs] ([F_CAN_STATUS_STATE c, F_CAN_EVENT_BUSOFF c, F_CAN_BOFF_CNT_COUNT c, F_CAN_STATUS_SYNC c] ++ recFields) [0x0703] s (s.busOff c) :=
    (((((Changes.refl sound).setFld _ 2).event _).bump _ 1).setFlag _ false)
  have state : (s.busOff c).fld (F_CAN_STATUS_STATE c) = 2 := by
    refine (fld_setFld_other third _ _ _ rfl rfl (.inr (.inl (by decide : 0 < 4)))).trans ((fld_setFld_other second _ _ _ rfl rfl (.inl count.1)).trans ?_)
    exact (fld_setFld_other first _ _ _ rfl rfl (.inl statusEvent)).trans ((fld_setFld sound _ _ rfl).trans rfl)
  have event : (s.busOff c).flag (F_CAN_EVENT_BUSOFF c) = true := by
    refine (flag_setFlag_other third _ _ _ rfl rfl (.inl statusEvent.symm)).trans ((State.flag_of_fld (fld_setFld_other second _ _ _ rfl rfl (.inl count.2))).trans ?_)
    exact flag_event first _ rfl
  have sync : (s.busOff c).flag (F_CAN_STATUS_SYNC c) = false := flag_setFlag third _ _ rfl
  have el : (s.busOff c).tim.el = s.tim.el := rfl
  generalize s.busOff c = u at *
  have noted := State.setCanChan_acts u c (fun k => { k with boffAt := some u.tim.el, recovering := false })
  have since : ((u.setCanChan c (fun k => { k with boffAt := some u.tim.el, recovering := false })).canChan c).boffAt = some s.tim.el := by
    rw [State.canChan_setCanChan_self, el]
  unfold State.busOffTold
  generalize u.setCanChan c (fun k => { k with boffAt := some u.tim.el, recovering := false }) = v at *
  have told := State.raise_acts v 0x0703 []
  have regs : v.regs = u.regs := noted.frame .regs rfl
  have status {f : Fld} (h : f.addr = A_CAN_STATUS c ∨ f.addr = A_CAN_EVENT c) : (v.raise 0x0703).reg f.addr = u.reg f.addr := by
    have : f.addr < A_REC_EVENT := by omega
    refine (reg_raise (noted.sound off.sound) _ _ _ (by omega) (Nat.ne_of_lt this)).trans ?_
    rw [State.reg, State.reg, regs]
  refine ⟨(off.acts noted).raise _ _ (by simp) (fun _ hf => List.mem_append_right _ hf), ?_, (State.flag_of_reg (status (.inr rfl))).trans event,
    (State.flag_of_reg (status (.inl rfl))).trans sync, by rw [State.canChan_of_can (told.frame .can rfl), since], (alarm_raise ..).trans (if_pos rfl)⟩
  rw [State.fld, status (.inl rfl)]
  exact state

theorem exec_canError_off (sound : s.Sound) (low : c ≤ 5) (on : s.flag (F_CAN_STATUS_EN c) = true) (up : s.fld (F_CAN_STATUS_STATE c) < 2) (high : 255 < n) :
    ∃ t, exec (.canError c n r) s = .next t ∧ t.fld (F_CAN_STATUS_STATE c) = 2 ∧ t.flag (F_CAN_EVENT_BUSOFF c) = true ∧
    t.flag (F_CAN_STATUS_SYNC c) = false ∧ (t.canChan c).boffAt = some s.tim.el ∧ t.Alarmed 0x0703 ∧ Frame [.alarms, .rcd, .can, .regs] s t := by
  obtain ⟨statusEvent, statusLow, -⟩ := statusAddr c low
  have eventLow : A_CAN_EVENT c < A_REC_EVENT := by simp only [A_CAN_EVENT, A_REC_EVENT]; omega
  have order : A_REC_EVENT < A_REC_LOST := by decide
  have count : A_CAN_STATUS c ≠ A_CAN_BOFF_CNT c := by simp only [A_CAN_STATUS, A_CAN_BOFF_CNT]; omega
  have run : exec (.canError c n r) s = .next (((s.errorSeen c n r).busOff c).busOffTold c).canCauses := by
    rw [exec_canError_on on up, State.canLevels_off high]
    rfl
  obtain ⟨changes, -, -, en, -⟩ := State.errorSeen_seen sound low n r
  generalize s.errorSeen c n r = u at *
  obtain ⟨off, state, event, sync, since, alarmed⟩ := State.busOff_off changes.sound low
  generalize (u.busOff c).busOffTold c = v at *
  have onV : v.flag (F_CAN_STATUS_EN c) = true := by
    refine (off.flag (F_CAN_STATUS_EN c) rfl ?_).trans (en.trans on)
    simp only [List.cons_append, List.nil_append, List.forall_mem_cons]
    exact ⟨.inr (.inr (show 1 < 4 by decide)), .inl statusEvent, .inl count, .inr (.inl (show 0 < 1 by decide)),
      recFields_apart (show A_CAN_STATUS c ≠ A_REC_LOST by omega) (Nat.ne_of_lt statusLow)⟩
  have causes := State.canCauses_changes off.sound
  have stands := (State.canCauses_stands off.sound low onV).2 state
  refine ⟨_, run, (State.canCauses_fld off.sound rfl statusLow).trans state, (State.flag_of_fld (State.canCauses_fld off.sound rfl eventLow)).trans event,
    (State.flag_of_fld (State.canCauses_fld off.sound rfl statusLow)).trans sync, ?_, ?_, ?_⟩
  · rw [State.canChan_of_can (causes.frame .can (by simp)), since, changes.frame .elapsed (by simp)]
  · rw [State.Alarmed, stands]
    exact alarmed
  · exact (changes.frame.mono (by simp)).trans (off.frame.trans (causes.frame.mono (by simp)))

/-- R391: the recovery of channel `c` starts at elapsed time `d`, or now where that has passed. -/
def State.recovers (s : State) (c d : Nat) : State :=
  (s.reachEl d).setCanChan c (fun k => { k with boffAt := none, recovering := true, recAt := (s.reachEl d).tim.el })

theorem State.recovers_shows (s : State) (c d : Nat) :
    (s.recovers c d).canChan c = { s.canChan c with boffAt := none, recovering := true, recAt := (s.recovers c d).tim.el } ∧
    (s.recovers c d).tim.el = Nat.max s.tim.el d ∧ Frame [.tim, .elapsed, .working, .can] s (s.recovers c d) := by
  have waited := State.reachEl_acts s d
  have el := State.reachEl_max s d
  have chan : (s.reachEl d).canChan c = s.canChan c := rfl
  unfold State.recovers
  generalize s.reachEl d = u at *
  have noted := State.setCanChan_acts u c (fun k => { k with boffAt := none, recovering := true, recAt := u.tim.el })
  refine ⟨?_, el, ((waited.mono (m := partMask [.tim, .elapsed, .working, .can]) rfl).step noted rfl).reaches⟩
  rw [State.canChan_setCanChan_self, chan]
  rfl

theorem exec_busoffHoldExpiry_held {a : Nat} (held : (s.canChan c).boffAt = some a) :
    exec (.busoffHoldExpiry c) s = .next (s.recovers c (a + bits (s.canW c 3) 31 16 * ms)) := by
  rw [exec_busoffHoldExpiry, execBusoffHoldExpiry, held]
  rfl

/-- R391: channel `c` is error active again, with both counters 0. -/
def State.recovered (s : State) (c : Nat) : State :=
  ((((s.setFld (F_CAN_STATUS_STATE c) 0).setFld (F_CAN_STATUS_TEC c) 0).setFld (F_CAN_STATUS_REC c) 0).setFlag (F_CAN_STATUS_SYNC c) true).event
    (F_CAN_EVENT_RECOVERED c)

/-- The registers that the recovery of channel `c` writes. -/
def recoveredFields (c : Nat) : List Fld :=
  [F_CAN_STATUS_STATE c, F_CAN_STATUS_TEC c, F_CAN_STATUS_REC c, F_CAN_STATUS_SYNC c, F_CAN_EVENT_RECOVERED c]

theorem State.recovered_shows (sound : s.Sound) (c : Nat) : Changes [.regs] (recoveredFields c) [] s (s.recovered c) ∧
    (s.recovered c).fld (F_CAN_STATUS_STATE c) = 0 ∧ (s.recovered c).fld (F_CAN_STATUS_TEC c) = 0 ∧ (s.recovered c).fld (F_CAN_STATUS_REC c) = 0 ∧
    (s.recovered c).flag (F_CAN_STATUS_SYNC c) = true ∧ (s.recovered c).flag (F_CAN_EVENT_RECOVERED c) = true := by
  have apart : A_CAN_STATUS c ≠ A_CAN_EVENT c := by simp only [A_CAN_STATUS, A_CAN_EVENT]; omega
  have s1 := sound.setFld (F_CAN_STATUS_STATE c) 0
  have s2 := s1.setFld (F_CAN_STATUS_TEC c) 0
  have s3 := s2.setFld (F_CAN_STATUS_REC c) 0
  have s4 := s3.setFlag (F_CAN_STATUS_SYNC c) true
  have zero {u : State} (hu : u.Sound) (f : Fld) (fits : f.fits = true) : (u.setFld f 0).fld f = 0 := (fld_setFld hu f 0 fits).trans (Nat.zero_mod _)
  have last {f : Fld} (h : f.addr = A_CAN_STATUS c) (fits : f.fits = true) : (s.recovered c).fld f =
      ((((s.setFld (F_CAN_STATUS_STATE c) 0).setFld (F_CAN_STATUS_TEC c) 0).setFld (F_CAN_STATUS_REC c) 0).setFlag (F_CAN_STATUS_SYNC c) true).fld f :=
    fld_setFld_other s4 _ _ _ rfl fits (.inl (by rw [h]; exact apart))
  refine ⟨?_, ?_, ?_, ?_, ?_, flag_event s4 _ rfl⟩
  · exact (((((Changes.refl sound).setFld _ 0 rfl (by simp [recoveredFields])).setFld _ 0 rfl (by simp [recoveredFields])).setFld _ 0 rfl
      (by simp [recoveredFields])).setFlag _ true rfl (by simp [recoveredFields])).event _ rfl (by simp [recoveredFields])
  · refine (last rfl rfl).trans ((fld_setFld_other s3 _ _ _ rfl rfl (.inr (.inl (by decide : 0 < 4)))).trans ?_)
    refine (fld_setFld_other s2 _ _ _ rfl rfl (.inr (.inr (by decide : 5 < 8)))).trans ((fld_setFld_other s1 _ _ _ rfl rfl (.inr (.inr (by decide : 5 < 16)))).trans ?_)
    exact zero sound _ rfl
  · refine (last rfl rfl).trans ((fld_setFld_other s3 _ _ _ rfl rfl (.inr (.inl (by decide : 0 < 16)))).trans ?_)
    exact (fld_setFld_other s2 _ _ _ rfl rfl (.inr (.inl (by decide : 15 < 16)))).trans (zero s1 _ rfl)
  · exact (last rfl rfl).trans ((fld_setFld_other s3 _ _ _ rfl rfl (.inr (.inl (by decide : 0 < 8)))).trans (zero s2 _ rfl))
  · exact (State.flag_of_fld (last rfl rfl)).trans (flag_setFlag s3 _ _ rfl)

/-- R391: the recovery of channel `c` ends at elapsed time `d`, or now where that has passed. -/
def State.recoveryOver (s : State) (c d : Nat) : State := (s.reachEl d).setCanChan c (fun k => { k with recovering := false, busyTill := (s.reachEl d).tim.el })

/-- What the end of a recovery leaves. -/
theorem State.recoveryOver_shows (sound : s.Sound) (low : c ≤ 5) (d : Nat) :
    let t := ((s.recoveryOver c d).recovered c).canCauses
    (t.canChan c).recovering = false ∧ t.tim.el = Nat.max s.tim.el d ∧ (t.canChan c).busyTill = t.tim.el ∧ t.fld (F_CAN_STATUS_STATE c) = 0 ∧
    t.fld (F_CAN_STATUS_TEC c) = 0 ∧ t.fld (F_CAN_STATUS_REC c) = 0 ∧ t.flag (F_CAN_STATUS_SYNC c) = true ∧ t.flag (F_CAN_EVENT_RECOVERED c) = true ∧
    AlarmsBut [0x0701, 0x0702, 0x0703] s t ∧ Frame [.alarms, .rcd, .tim, .elapsed, .working, .can, .regs] s t := by
  obtain ⟨-, statusLow, -⟩ := statusAddr c low
  have eventLow : A_CAN_EVENT c < A_REC_EVENT := by simp only [A_CAN_EVENT, A_REC_EVENT]; omega
  have waited : Acts (partMask [.tim, .elapsed, .working, .can]) s (s.recoveryOver c d) := ((State.reachEl_acts s d).mono rfl).step (State.setCanChan_acts ..) rfl
  have el : (s.recoveryOver c d).tim.el = Nat.max s.tim.el d := State.reachEl_max s d
  have recovering : ((s.recoveryOver c d).canChan c).recovering = false := by rw [State.recoveryOver, State.canChan_setCanChan_self]
  have busy : ((s.recoveryOver c d).canChan c).busyTill = (s.recoveryOver c d).tim.el := by
    rw [State.recoveryOver, State.canChan_setCanChan_self]
    rfl
  generalize s.recoveryOver c d = u at *
  obtain ⟨changes, state, tec, recs, sync, event⟩ := State.recovered_shows (waited.sound sound) c
  have can : (u.recovered c).can = u.can := changes.frame .can (by simp)
  have time : (u.recovered c).tim = u.tim := changes.frame .tim (by simp)
  generalize u.recovered c = v at *
  have causes := State.canCauses_changes changes.sound
  have chan : v.canCauses.canChan c = u.canChan c := State.canChan_of_can ((causes.frame .can (by simp)).trans can) c
  have tim : v.canCauses.tim = u.tim := (causes.frame .tim (by simp)).trans time
  dsimp only
  refine ⟨by rw [chan, recovering], by rw [tim, el], by rw [chan, busy, tim], (State.canCauses_fld changes.sound rfl statusLow).trans state,
    (State.canCauses_fld changes.sound rfl statusLow).trans tec, (State.canCauses_fld changes.sound rfl statusLow).trans recs,
    (State.flag_of_fld (State.canCauses_fld changes.sound rfl statusLow)).trans sync, (State.flag_of_fld (State.canCauses_fld changes.sound rfl eventLow)).trans event,
    fun x hx => (causes.alarms x hx).trans ((changes.alarms x (by simp)).trans (alarm_of_acts waited rfl)), ?_⟩
  exact (waited.reaches (ps := [.alarms, .rcd, .tim, .elapsed, .working, .can, .regs])).trans ((changes.frame.mono (by simp)).trans (causes.frame.mono (by simp)))

theorem exec_busoffRecovered_recovering (recovering : (s.canChan c).recovering = true) : exec (.busoffRecovered c) s =
    .next ((s.recoveryOver c ((s.canChan c).recAt + 1408 * s.canBit c false)).recovered c).canCauses := by
  rw [exec_busoffRecovered, execBusoffRecovered]
  exact congrArg Host.Outcome.next (if_pos recovering)

end

end Sys2Proof.Machine

/-! Reference messages of the CAN channels (R387, R390). -/
namespace Sys2Proof.Machine
set_option Elab.async false

section
variable {s t : State} {c : Nat}

/-- The first multiple of `p` from `w`. -/
theorem ceil_multiple (w : Nat) {p : Nat} (hp : p ≠ 0) : (w + p - 1) / p * p % p = 0 ∧ w ≤ (w + p - 1) / p * p ∧ (w + p - 1) / p * p < w + p := by
  have rest := Nat.mod_lt (w + p - 1) (Nat.pos_of_ne_zero hp)
  have whole := Nat.div_add_mod' (w + p - 1) p
  exact ⟨Nat.mul_mod_left .., by omega, by omega⟩

/-- R390: working time at which the next reference message of channel `c` falls due. -/
def State.refTime (s : State) (c : Nat) : Nat := (s.tim.wt + s.tmPeriod c - 1) / s.tmPeriod c * s.tmPeriod c

/-- R390: the reference message of channel `c` that falls due at the time of `t`. -/
def State.refFrame (t : State) (c p : Nat) : CanTx :=
  ⟨none, canHead (t.parW (0x0C10 + c) 1).toNat (bits (t.parW (0x0C10 + c) 0) 1 1 == 1) false false,
    BitVec.ofNat 8 (t.tim.wt / p % 64) :: [0#8, 0#8, 0#8] ++ wordBytes (t.reg (A_CAN_TM_SOF c)), t.tim.el, true⟩

/-- R387: the frame `g` waits on channel `c`. -/
def State.canWaits (s : State) (c : Nat) (g : CanTx) : State := s.setCanChan c (fun k => { k with tx := k.tx ++ [g] })

theorem exec_canReference_off (off : s.tmOn c = false) : exec (.canReferenceMessageStarts c) s = .next s := by
  rw [exec_canReferenceMessageStarts, execCanReferenceMessageStarts]
  exact congrArg Host.Outcome.next (if_pos (by simp [off]))

theorem State.canSend_waits (sends : s.canSends c = true) (empty : (s.canChan c).tx = []) (head : Nat) (data : List Byte) :
    s.canSend c none head data true = if s.net.batching then s.canWaits c ⟨none, head, data, s.tim.el, true⟩
      else (s.canWaits c ⟨none, head, data, s.tim.el, true⟩).canSettle c s.tim.el := by
  rw [State.canSend, if_pos sends, State.canSettle_idle empty]
  rfl

theorem State.refFrame_sends {t : State} (sends : t.canSends c = true) (empty : (t.canChan c).tx = []) (p : Nat) :
    t.canSend c none (canHead (t.parW (0x0C10 + c) 1).toNat (bits (t.parW (0x0C10 + c) 0) 1 1 == 1) false false)
      (BitVec.ofNat 8 (t.tim.wt / p % 64) :: [0#8, 0#8, 0#8] ++ wordBytes (t.reg (A_CAN_TM_SOF c))) true =
    if t.net.batching then t.canWaits c (t.refFrame c p) else (t.canWaits c (t.refFrame c p)).canSettle c t.tim.el := State.canSend_waits sends empty _ _

theorem State.reach_canSends (s : State) (c e : Nat) : (s.reach e).canSends c = s.canSends c := rfl

theorem State.reach_canChan (s : State) (c e : Nat) : (s.reach e).canChan c = s.canChan c := rfl

theorem exec_canReference_due (on : s.tmOn c = true) (period : s.tmPeriod c ≠ 0) (sends : s.canSends c = true) (empty : (s.canChan c).tx = []) :
    exec (.canReferenceMessageStarts c) s = .next (
      if (s.reach (s.refTime c)).net.batching then (s.reach (s.refTime c)).canWaits c ((s.reach (s.refTime c)).refFrame c (s.tmPeriod c))
      else ((s.reach (s.refTime c)).canWaits c ((s.reach (s.refTime c)).refFrame c (s.tmPeriod c))).canSettle c (s.reach (s.refTime c)).tim.el) := by
  rw [exec_canReferenceMessageStarts, execCanReferenceMessageStarts]
  refine congrArg Host.Outcome.next ((if_neg (by simp [on, period])).trans ?_)
  rw [← State.refFrame_sends ((State.reach_canSends ..).trans sends) (by rw [State.reach_canChan, empty])]
  rfl

theorem State.canWaits_only {g : CanTx} (empty : (s.canChan c).tx = []) : ((s.canWaits c g).canChan c).tx = [g] := by
  rw [State.canWaits, State.canChan_setCanChan_self, empty]
  rfl

/-- What a reference message that has fallen due by `e` waits with. -/
theorem State.refFrame_facts (s : State) (c p e : Nat) :
    ((s.reach e).refFrame c p).isRef = true ∧ ((s.reach e).refFrame c p).object = none ∧ ((s.reach e).refFrame c p).due = (s.reach e).tim.el ∧
    ((s.reach e).refFrame c p).head = canHead (s.parW (0x0C10 + c) 1).toNat (bits (s.parW (0x0C10 + c) 0) 1 1 == 1) false false ∧
    ((s.reach e).refFrame c p).data = [BitVec.ofNat 8 ((s.reach e).tim.wt / p % 64), 0#8, 0#8, 0#8] ++ wordBytes (s.reg (A_CAN_TM_SOF c)) :=
  ⟨rfl, rfl, rfl, rfl, rfl⟩

/-- What stands once the reference message `g` waits on channel `c`. -/
structure RefWaits (s v : State) (c e : Nat) (g : CanTx) : Prop where
  acts : Acts (partMask [.tim, .elapsed, .working, .can]) s v
  wt : v.tim.wt = e
  el : v.tim.el = s.tim.el + (e - s.tim.wt)
  only : (v.canChan c).tx = [g]
  busy : (v.canChan c).busyTill = (s.canChan c).busyTill
  sends : v.canSends c = s.canSends c

theorem State.canWaits_waits {e : Nat} (later : s.tim.wt ≤ e) (empty : (s.canChan c).tx = []) (g : CanTx) : RefWaits s ((s.reach e).canWaits c g) c e g where
  acts := ((State.reach_acts s e).mono rfl).step (State.setCanChan_acts (s.reach e) c (fun k => { k with tx := k.tx ++ [g] })) rfl
  wt := (State.reach_max s e).trans (Nat.max_eq_right later)
  el := rfl
  only := State.canWaits_only (by rw [State.reach_canChan, empty])
  busy := by
    rw [State.canWaits, State.canChan_setCanChan_self]
    rfl
  sends := rfl

theorem exec_canReference_waits (on : s.tmOn c = true) (period : s.tmPeriod c ≠ 0) (sends : s.canSends c = true) (empty : (s.canChan c).tx = []) :
    ∃ g v, exec (.canReferenceMessageStarts c) s = .next (if s.net.batching then v else v.canSettle c v.tim.el) ∧ RefWaits s v c (s.refTime c) g ∧
    g.isRef = true ∧ g.object = none ∧ g.due = v.tim.el ∧
    g.head = canHead (s.parW (0x0C10 + c) 1).toNat (bits (s.parW (0x0C10 + c) 0) 1 1 == 1) false false ∧
    g.data = [BitVec.ofNat 8 (v.tim.wt / s.tmPeriod c % 64), 0#8, 0#8, 0#8] ++ wordBytes (s.reg (A_CAN_TM_SOF c)) := by
  obtain ⟨-, later, -⟩ := ceil_multiple s.tim.wt period
  have run := exec_canReference_due on period sends empty
  have facts := State.refFrame_facts s c (s.tmPeriod c) (s.refTime c)
  have waits := State.canWaits_waits (c := c) (e := s.refTime c) later empty ((s.reach (s.refTime c)).refFrame c (s.tmPeriod c))
  have tim (e : Nat) (g : CanTx) : ((s.reach e).canWaits c g).tim = (s.reach e).tim := rfl
  have net (e : Nat) : (s.reach e).net = s.net := rfl
  rw [net, ← tim (s.refTime c) ((s.reach (s.refTime c)).refFrame c (s.tmPeriod c))] at run
  rw [← tim (s.refTime c) ((s.reach (s.refTime c)).refFrame c (s.tmPeriod c))] at facts
  exact ⟨_, _, run, waits, facts⟩

theorem State.canSettle_holds {g : CanTx} {limit : Nat} (only : (s.canChan c).tx = [g]) (busy : limit < (s.canChan c).busyTill) : s.canSettle c limit = s := by
  unfold State.canSettle
  split
  · rw [only]
    show State.canRun c limit 1 s = s
    rw [State.canRun, only]
    exact if_pos (Nat.lt_of_lt_of_le busy (Nat.le_max_left ..))
  · rfl

theorem State.refTime_next (s : State) (c : Nat) (period : s.tmPeriod c ≠ 0) :
    s.refTime c % s.tmPeriod c = 0 ∧ s.tim.wt ≤ s.refTime c ∧ s.refTime c < s.tim.wt + s.tmPeriod c := ceil_multiple s.tim.wt period

theorem exec_canReference_busy (on : s.tmOn c = true) (period : s.tmPeriod c ≠ 0) (sends : s.canSends c = true) (empty : (s.canChan c).tx = [])
    (busy : s.tim.el + s.tmPeriod c ≤ (s.canChan c).busyTill) : ∃ t, exec (.canReferenceMessageStarts c) s = .next t ∧
    (∃ f, (t.canChan c).tx = [f] ∧ f.isRef = true ∧ f.object = none ∧ f.due = t.tim.el) ∧ t.out = s.out ∧ Frame [.tim, .elapsed, .working, .can] s t := by
  obtain ⟨g, v, run, waits, isRef, object, due, -⟩ := exec_canReference_waits on period sends empty
  obtain ⟨-, later, soon⟩ := State.refTime_next s c period
  have holds : v.tim.el < (v.canChan c).busyTill := by
    rw [waits.busy, waits.el]
    exact Nat.lt_of_lt_of_le (by omega) busy
  rw [State.canSettle_holds waits.only holds, ite_self] at run
  exact ⟨v, run, ⟨g, waits.only, isRef, object, due⟩, waits.acts.frame .out rfl, waits.acts.reaches⟩

/-- R390: a reference message that starts at once leaves the working time as its stamp. -/
theorem State.canStart_ref {g : CanTx} (isRef : g.isRef = true) : s.canStart c s.tim.el g = (s.canLeaves c s.tim.el g).setReg (A_CAN_TM_SOF c) (toWord (tsuNs s.tim.wt)) := by
  have left : Acts (partMask [.can, .regs, .out]) s (s.canLeaves c s.tim.el g) :=
    (((Acts.refl s).step (State.setCanChan_acts ..) rfl |>.step (State.bump_acts ..) rfl).step (State.setFlag_acts ..) rfl).step (State.send_acts ..) rfl
  have tim : (s.canLeaves c s.tim.el g).tim = s.tim := left.frame .tim rfl
  rw [State.canStart_eq, isRef, State.when, if_pos rfl, tim, Nat.add_sub_cancel]

theorem exec_canReference_starts (sound : s.Sound) (on : s.tmOn c = true) (period : s.tmPeriod c ≠ 0) (sends : s.canSends c = true)
    (calm : s.net.batching = false) (empty : (s.canChan c).tx = []) (free : (s.canChan c).busyTill ≤ s.tim.el) :
    ∃ t, exec (.canReferenceMessageStarts c) s = .next t ∧
    t.tim.wt % s.tmPeriod c = 0 ∧ s.tim.wt ≤ t.tim.wt ∧ t.tim.wt < s.tim.wt + s.tmPeriod c ∧ t.reg (A_CAN_TM_SOF c) = toWord (tsuNs t.tim.wt) ∧
    s.Sends t [⟨.can c, .canFrame, (canHead (s.parW (0x0C10 + c) 1).toNat (bits (s.parW (0x0C10 + c) 0) 1 1 == 1) false false : Int) ::
      ([BitVec.ofNat 8 (t.tim.wt / s.tmPeriod c % 64), 0#8, 0#8, 0#8] ++ wordBytes (s.reg (A_CAN_TM_SOF c))).map (fun b => (b.toNat : Int))⟩] ∧
    t.fld (F_CAN_TX_CNT_COUNT c) = Nat.min 4294967295 (s.fld (F_CAN_TX_CNT_COUNT c) + 1) ∧ t.flag (F_CAN_STATUS_SYNC c) = true ∧
    Frame [.tim, .elapsed, .working, .can, .regs, .out] s t ∧ FieldsBut [F_CAN_TX_CNT_COUNT c, F_CAN_STATUS_SYNC c, word32 (A_CAN_TM_SOF c)] s t := by
  obtain ⟨g, v, run, waits, isRef, -, due, head, data⟩ := exec_canReference_waits on period sends empty
  have next := State.refTime_next s c period
  have start : Nat.max (v.canChan c).busyTill g.due = v.tim.el := by
    rw [waits.busy, due]
    exact Nat.max_eq_right (by rw [waits.el]; omega)
  rw [if_neg (by simp [calm]), State.canSettle_starts (waits.sends.trans sends) waits.only (Nat.le_of_eq start), start, State.canStart_ref isRef] at run
  rw [← waits.wt] at next
  have waiting : Changes [.tim, .elapsed, .working, .can, .regs, .out] [F_CAN_TX_CNT_COUNT c, F_CAN_STATUS_SYNC c, word32 (A_CAN_TM_SOF c)] [] s v :=
    (Changes.refl sound).acts waits.acts
  have left := State.canLeaves_left waiting.sound c v.tim.el g
  generalize v.canLeaves c v.tim.el g = w at *
  have stamped := State.setReg_acts w (A_CAN_TM_SOF c) (toWord (tsuNs v.tim.wt))
  have tim : (w.setReg (A_CAN_TM_SOF c) (toWord (tsuNs v.tim.wt))).tim = v.tim := (stamped.frame .tim rfl).trans (left.changes.frame .tim (by simp))
  have whole := (waiting.trans (left.changes.mono)).setReg (A_CAN_TM_SOF c) (toWord (tsuNs v.tim.wt))
  have apart : A_CAN_TX_CNT c ≠ A_CAN_TM_SOF c ∧ A_CAN_STATUS c ≠ A_CAN_TM_SOF c := by simp only [A_CAN_TX_CNT, A_CAN_TM_SOF, A_CAN_STATUS]; omega
  have count : (w.setReg (A_CAN_TM_SOF c) (toWord (tsuNs v.tim.wt))).reg (F_CAN_TX_CNT_COUNT c).addr = w.reg (F_CAN_TX_CNT_COUNT c).addr :=
    State.setReg_sameReg left.changes.sound _ apart.1
  refine ⟨_, run, by rw [tim]; exact next.1, by rw [tim]; exact next.2.1, by rw [tim]; exact next.2.2, ?_, ?_, ?_, ?_, whole.frame, whole.fields⟩
  · rw [reg_setReg left.changes.sound, if_pos rfl, tim]
  · rw [State.Sends, stamped.frame .out rfl, left.sends, waits.acts.frame .out rfl, head, data, tim]
  · rw [State.fld, count]
    exact left.count.trans (by rw [State.fld_of_regs (waits.acts.frame .regs rfl)])
  · exact (State.flag_of_reg (State.setReg_sameReg left.changes.sound _ apart.2)).trans left.sync

end

/-- Settles O37. -/
theorem canChannelsFilterQueueAndRecover : Obligations.CanChannelsFilterQueueAndRecover :=
  ⟨fun _ _ _ off => exec_canFrame_off off,
   fun _ _ _ sound on state classic own drops empty => exec_canFrame_seen sound ⟨on, state, classic, own⟩ drops empty,
   fun _ _ _ _ sound _ on state classic own data element room empty => exec_canFrame_queued sound ⟨on, state, classic, own⟩ data element room empty,
   fun _ _ _ _ sound low on state classic own data element full empty => exec_canFrame_lost sound low ⟨on, state, classic, own⟩ data element full empty,
   fun _ _ _ _ _ sound low on state classic short own data element receives loops empty =>
    exec_canFrame_object sound ⟨on, state, classic, own⟩ low data short element receives loops empty,
   fun _ _ _ _ sound _ sends classic own drops only plain due => exec_canFrame_starts sound sends classic own drops only plain due,
   fun _ _ _ sound _ access few => exec_canQ1Pop_pops sound access few, fun _ _ sound receive fresh => exec_canObjectTimeout_silent sound receive fresh,
   fun _ _ _ _ _ sound low found => exec_fastPacketTimeout_found sound low found,
   fun _ _ _ _ sound low on up lowT lowR _ _ => exec_canError_active sound low on up lowT lowR,
   fun _ _ _ _ sound low on up lowT high => exec_canError_passive sound low on up lowT high,
   fun _ _ _ _ sound low on up high => exec_canError_off sound low on up high,
   fun c _ s held => ⟨_, exec_busoffHoldExpiry_held held, State.recovers_shows s c _⟩,
   fun _ _ sound low recovering => ⟨_, exec_busoffRecovered_recovering recovering, State.recoveryOver_shows sound low _⟩,
   fun _ _ sound _ on period sends calm empty free => exec_canReference_starts sound on period sends calm empty free,
   fun _ _ on period sends empty busy => exec_canReference_busy on period sends empty busy, fun _ _ off => exec_canReference_off off⟩

end Sys2Proof.Machine

/-! The measured offsets of the time sources, and what the servo and the selection leave (R344 to R347, R350). -/
namespace Sys2Proof.Machine
set_option Elab.async false

section
variable {s t u : State}

/-- What a change of the selected time source and the servo leave as it was: working and elapsed time, the sources, what PTP and the twin markers hold, a step once it is decided. -/
structure KeepsTime (s t : State) : Prop where
  wt : t.tim.wt = s.tim.wt
  el : t.tim.el = s.tim.el
  sources : t.tim.sources = s.tim.sources
  ptp : t.tim.ptp = s.tim.ptp
  utcOf : t.tim.utcOf = s.tim.utcOf
  twinOffset : t.tim.twinOffset = s.tim.twinOffset
  rxMarker : t.tim.rxMarker = s.tim.rxMarker
  twinBigSince : t.tim.twinBigSince = s.tim.twinBigSince
  stepAt : s.tim.stepAt.isSome = true → t.tim.stepAt = s.tim.stepAt
  pending : s.Sound → t.Sound ∧ (s.flag F_TSU_STATUS_STEP_PEND = true → t.flag F_TSU_STATUS_STEP_PEND = true)
  alarm : ∀ c ∉ 0x0201 :: 0x0207 :: reselectAlarms, t.alarm? c = s.alarm? c
  alarmed : ∀ c ∉ 0x0207 :: reselectAlarms, s.Alarmed c → t.Alarmed c
  frame : Frame [.alarms, .rcd, .tim, .regs] s t

namespace KeepsTime

theorem refl (s : State) : KeepsTime s s :=
  ⟨rfl, rfl, rfl, rfl, rfl, rfl, rfl, rfl, fun _ => rfl, fun h => ⟨h, id⟩, fun _ _ => rfl, fun _ _ => id, Frame.refl _ s⟩

/-- A change outside time that leaves STEP_PEND, and 0x0201 if its cause is present. -/
theorem shows (h : KeepsTime s t) (tim : u.tim = t.tim) (frame : Frame [.alarms, .rcd, .tim, .regs] t u)
    (pending : t.Sound → u.Sound ∧ u.flag F_TSU_STATUS_STEP_PEND = t.flag F_TSU_STATUS_STEP_PEND)
    (alarm : ∀ c ∉ 0x0207 :: reselectAlarms, u.alarm? c = t.alarm? c) : KeepsTime s u where
  wt := by rw [tim, h.wt]
  el := by rw [tim, h.el]
  sources := by rw [tim, h.sources]
  ptp := by rw [tim, h.ptp]
  utcOf := by rw [tim, h.utcOf]
  twinOffset := by rw [tim, h.twinOffset]
  rxMarker := by rw [tim, h.rxMarker]
  twinBigSince := by rw [tim, h.twinBigSince]
  stepAt := fun decided => by rw [tim, h.stepAt decided]
  pending := fun sound => by
    obtain ⟨soundT, kept⟩ := h.pending sound
    obtain ⟨soundU, same⟩ := pending soundT
    exact ⟨soundU, fun pend => same.trans (kept pend)⟩
  alarm := fun c hc => (alarm c (List.not_mem_of_not_mem_cons hc)).trans (h.alarm c hc)
  alarmed := fun c hc told => (congrArg (· = _) (alarm c hc)).mpr (h.alarmed c hc told)
  frame := h.frame.trans frame

theorem raise (h : KeepsTime s t) (c : Nat) (p : List Word) (hc : c ∈ 0x0207 :: reselectAlarms := by decide) : KeepsTime s (t.raise c p) :=
  h.shows ((State.raise_acts t c p).frame .tim rfl) ((State.raise_acts t c p).mono (m := partMask [.alarms, .rcd, .tim, .regs]) rfl).framed
    (fun sound => ⟨sound.raise c p, flag_raise sound _ _ _ (by decide) (by decide)⟩) fun _ hd => alarm_raise_other fun e => hd (e ▸ hc)

theorem causeGone (h : KeepsTime s t) (c : Nat) (hc : c ∈ 0x0207 :: reselectAlarms := by decide) : KeepsTime s (t.causeGone c) :=
  h.shows ((State.causeGone_acts t c).frame .tim rfl) ((State.causeGone_acts t c).mono (m := partMask [.alarms, .rcd, .tim, .regs]) rfl).framed
    (fun sound => ⟨(State.causeGone_acts t c).sound sound, Changes.flag (fs := recFields) ((Changes.refl (ps := [.alarms, .rcd, .regs]) (cs := [c]) sound).causeGone c) _⟩)
    fun _ hd => alarm_causeGone_other fun e => hd (e ▸ hc)

theorem setFld (h : KeepsTime s t) (f : Fld) (v : Nat) (fits : f.fits = true := by rfl) (apart : f.apart F_TSU_STATUS_STEP_PEND := by unfold Fld.apart; decide) :
    KeepsTime s (t.setFld f v) :=
  h.shows rfl ((State.setFld_acts t f v).mono (m := partMask [.alarms, .rcd, .tim, .regs]) rfl).framed
    (fun sound => ⟨(State.setFld_acts t f v).sound sound, Changes.flag (fs := [f]) ((Changes.refl (ps := [.regs]) (cs := []) sound).setFld f v fits) _ rfl
      fun _ hf => (List.mem_singleton.mp hf) ▸ apart⟩)
    fun _ _ => rfl

theorem setFlag (h : KeepsTime s t) (f : Fld) (b : Bool) (fits : f.fits = true := by rfl) (apart : f.apart F_TSU_STATUS_STEP_PEND := by unfold Fld.apart; decide) :
    KeepsTime s (t.setFlag f b) := h.setFld f _ fits apart

theorem event (h : KeepsTime s t) (f : Fld) (fits : f.fits = true := by rfl) (apart : f.apart F_TSU_STATUS_STEP_PEND := by unfold Fld.apart; decide) :
    KeepsTime s (t.event f) := h.setFld f _ fits apart

theorem setInt (h : KeepsTime s t) (f : Fld) (v : Int) (fits : f.fits = true := by rfl) (apart : f.apart F_TSU_STATUS_STEP_PEND := by unfold Fld.apart; decide) :
    KeepsTime s (t.setInt f v) := h.setFld f _ fits apart

theorem setReg (h : KeepsTime s t) (a : Nat) (w : Word) (other : a ≠ A_TSU_STATUS := by decide) : KeepsTime s (t.setReg a w) :=
  h.shows rfl ((State.setReg_acts t a w).mono (m := partMask [.alarms, .rcd, .tim, .regs]) rfl).framed
    (fun sound => ⟨(State.setReg_acts t a w).sound sound, by
      exact State.flag_of_reg ((reg_setReg sound ..).trans (if_neg (Ne.symm other)))⟩) fun _ _ => rfl

/-- A change of what the servo and the holdover hold. -/
theorem holds (h : KeepsTime s t) (tim : Tim) (same : { t.tim with integral := tim.integral, phase := tim.phase, hadSource := tim.hadSource, outOfLockAt := tim.outOfLockAt, bigSince := tim.bigSince, holdSince := tim.holdSince, holdE0 := tim.holdE0 } = tim := by rfl) :
    KeepsTime s { t with tim := tim } where
  wt := by rw [← same]; exact h.wt
  el := by rw [← same]; exact h.el
  sources := by rw [← same]; exact h.sources
  ptp := by rw [← same]; exact h.ptp
  utcOf := by rw [← same]; exact h.utcOf
  twinOffset := by rw [← same]; exact h.twinOffset
  rxMarker := by rw [← same]; exact h.rxMarker
  twinBigSince := by rw [← same]; exact h.twinBigSince
  stepAt := by rw [← same]; exact h.stepAt
  pending := fun sound => by
    obtain ⟨soundT, kept⟩ := h.pending sound
    exact ⟨soundT.of_eq rfl rfl rfl rfl rfl rfl rfl rfl rfl rfl rfl rfl rfl rfl, kept⟩
  alarm := h.alarm
  alarmed := h.alarmed
  frame := h.frame.trans fun p hp => by
    cases p
    case elapsed => exact (congrArg Tim.el same).symm
    case working => exact (congrArg Tim.wt same).symm
    all_goals first | rfl | simp at hp

theorem ite {c : Prop} [Decidable c] (h : c → KeepsTime s t) (k : ¬c → KeepsTime s u) : KeepsTime s (if c then t else u) := by
  split
  · exact h ‹_›
  · exact k ‹_›

theorem updateUtc (h : KeepsTime s t) : KeepsTime s t.updateUtc := by
  unfold State.updateUtc
  split
  all_goals exact h.setReg _ _

theorem enterHoldover (h : KeepsTime s t) (lost : Nat) : KeepsTime s (t.enterHoldover lost) := by
  unfold State.enterHoldover
  extract_lets tim v u
  have marked : KeepsTime s v := h.holds _
  have shown : KeepsTime s u := (((marked.setFlag F_TSU_STATUS_HOLDOVER true).setFlag F_TSU_STATUS_SLEWING false).setInt (word32 A_TSU_SLEW) 0).setInt (word32 A_TSU_FREQ) v.tim.integral
  exact ((shown.setFlag F_TSU_STATUS_LOCKED false).event F_TSU_EVENT_HOLD_IN).raise _ _

theorem leaveHoldover (h : KeepsTime s t) (n : Nat) : KeepsTime s (t.leaveHoldover n) := by
  unfold State.leaveHoldover
  exact .ite (fun _ => (((h.setFlag F_TSU_STATUS_HOLDOVER false).event F_TSU_EVENT_HOLD_OUT).raise _ _).causeGone _) fun _ => h

theorem decideStep (h : KeepsTime s t) : KeepsTime s t.decideStep := by
  unfold State.decideStep
  split
  next => exact h
  next undecided =>
    refine { h with stepAt := fun decided => ?_, pending := fun sound => ?_, frame := ?_ }
    · rw [h.stepAt decided] at undecided
      exact absurd decided undecided
    · have soundT := (h.pending sound).1
      refine ⟨State.Sound.setFlag ?_ _ _, fun _ => flag_setFlag ?_ _ _ rfl⟩
      all_goals exact soundT.of_eq rfl rfl rfl rfl rfl rfl rfl rfl rfl rfl rfl rfl rfl rfl
    · exact h.frame.trans (by intro p hp; cases p <;> first | rfl | simp at hp)

theorem select (h : KeepsTime s t) (n : Nat) : KeepsTime s (t.select n) := by
  unfold State.select
  extract_lets old far hold shown tim u v
  refine .ite (fun _ => h) fun _ => ?_
  have chosen : KeepsTime s shown := (((h.setFld F_TSU_STATUS_SRC n).event F_TSU_EVENT_SRC_CHG).raise _ _).updateUtc
  have noted : KeepsTime s u := chosen.holds _
  have held : KeepsTime s v := noted.leaveHoldover n
  refine .ite (fun _ => .ite (fun _ => chosen.enterHoldover old) fun _ => chosen) fun _ => ?_
  exact .ite (fun _ => held.decideStep) fun _ => .ite (fun _ => held) fun _ => (held.setInt (word32 A_TSU_SLEW) _).setFlag F_TSU_STATUS_SLEWING _

theorem reselect (h : KeepsTime s t) : KeepsTime s t.reselect := by
  unfold State.reselect
  extract_lets u
  have told : KeepsTime s u := .ite (fun _ => (h.event F_TSU_EVENT_CONFLICT).raise _ _) fun _ => h.causeGone _
  exact .ite (fun _ => told) fun _ => told.select _

theorem servo (h : KeepsTime s t) (ofs : Int) : KeepsTime s (t.servo ofs) := by
  unfold State.servo
  extract_lets inp integ p sum lim tim v w x
  have held : KeepsTime s v := h.holds _
  have shown : KeepsTime s x := ((((held.setInt (word32 A_TSU_FREQ) sum).setInt (word32 A_TSU_SLEW) ofs).setFlag F_TSU_STATUS_SLEWING _).setFlag F_TSU_STATUS_FREQ_LIM lim).setFlag F_TSU_STATUS_LOCKED _
  exact .ite (fun _ => shown.raise _ _) fun _ => shown.causeGone _

end KeepsTime

/-! A measured offset (R344). -/

/-- R344: a source as a measured offset leaves it. -/
def TimeSource.measured (c : TimeSource) (now : Nat) : TimeSource := { valid := true, validSince := if c.valid then c.validSince else now, lastSeen := now }

/-- R344: a measured offset of source `n` as it is published, before the servo and the selection. -/
def State.published (s : State) (n : Nat) (ofs : Int) : State :=
  ((s.setInt (F_TSU_SRC_OFS_OFS (n - 1)) (clampI (-2147483647) 2147483647 ofs)).setSrc n (fun c => c.measured s.tim.el)).causeGone 0x0201

/-- R344, R346, R350: what the servo and the selection make of a published offset. -/
def State.served (s : State) (n : Nat) (ofs : Int) : State := if s.selected = n && !s.flag F_TSU_STATUS_STEP_PEND then s.servo ofs else s

theorem State.measureOffset_eq (s : State) (n : Nat) (ofs : Int) : s.measureOffset n ofs = ((s.published n ofs).served n ofs).reselect := rfl

theorem State.measureOffset_keeps (s : State) (n : Nat) (ofs : Int) : KeepsTime (s.published n ofs) (s.measureOffset n ofs) := by
  have served : KeepsTime (s.published n ofs) ((s.published n ofs).served n ofs) := .ite (fun _ => (KeepsTime.refl _).servo ofs) fun _ => .refl _
  exact served.reselect

/-- The registers that the servo writes (R350, R351). -/
def servoFields : List Fld := F_TSU_STATUS_FREQ_LIM :: reselectFields

theorem State.servo_changes (sound : s.Sound) (ofs : Int) : Changes [.alarms, .rcd, .tim, .regs] servoFields [0x0207] s (s.servo ofs) := by
  have inServo : ∀ f ∈ recFields, f ∈ servoFields := fun f hf => List.mem_cons_of_mem _ (recFields_reselect f hf)
  unfold State.servo
  extract_lets inp integ p sum lim tim v w x
  have held : Changes [.alarms, .rcd, .tim, .regs] servoFields [0x0207] s v := (Changes.refl sound).upd _
  have steered : Changes [.alarms, .rcd, .tim, .regs] servoFields [0x0207] s w :=
    ((held.setInt (word32 A_TSU_FREQ) sum rfl (by simp [servoFields, reselectFields])).setInt (word32 A_TSU_SLEW) ofs rfl (by simp [servoFields, reselectFields])).setFlag
      F_TSU_STATUS_SLEWING _ rfl (by simp [servoFields, reselectFields])
  have shown : Changes [.alarms, .rcd, .tim, .regs] servoFields [0x0207] s x :=
    (steered.setFlag F_TSU_STATUS_FREQ_LIM lim rfl (by simp [servoFields])).setFlag F_TSU_STATUS_LOCKED _ rfl (by simp [servoFields, reselectFields])
  exact .ite (fun _ => shown.raise _ _ (by simp) inServo) fun _ => shown.causeGone _ (by simp) inServo

/-- The alarms that the servo and the selection raise or end. -/
def servoAlarms : List Nat := 0x0207 :: reselectAlarms

theorem State.measureOffset_changes {n : Nat} {ofs : Int} (sound : (s.published n ofs).Sound) :
    Changes [.alarms, .rcd, .tim, .regs] servoFields servoAlarms (s.published n ofs) (s.measureOffset n ofs) := by
  rw [State.measureOffset_eq]
  have served : Changes [.alarms, .rcd, .tim, .regs] servoFields servoAlarms (s.published n ofs) ((s.published n ofs).served n ofs) :=
    .ite (fun _ => (State.servo_changes sound ofs).mono (hc := by simp [servoAlarms])) fun _ => .refl sound
  exact served.trans ((State.reselect_changes served.sound).mono (hf := fun _ hf => List.mem_cons_of_mem _ hf) (hc := fun _ hc => List.mem_cons_of_mem _ hc))

theorem State.published_changes (sound : s.Sound) (n : Nat) (ofs : Int) :
    Changes [.alarms, .rcd, .tim, .regs] (F_TSU_SRC_OFS_OFS (n - 1) :: recFields) [0x0201] s (s.published n ofs) := by
  have shown : Changes [.alarms, .rcd, .tim, .regs] (F_TSU_SRC_OFS_OFS (n - 1) :: recFields) [0x0201] s
      (s.setInt (F_TSU_SRC_OFS_OFS (n - 1)) (clampI (-2147483647) 2147483647 ofs)) := (Changes.refl sound).setInt _ _
  have seen : Changes [.alarms, .rcd, .tim, .regs] (F_TSU_SRC_OFS_OFS (n - 1) :: recFields) [0x0201] s
      ((s.setInt (F_TSU_SRC_OFS_OFS (n - 1)) (clampI (-2147483647) 2147483647 ofs)).setSrc n (fun c => c.measured s.tim.el)) := shown.upd _
  exact seen.causeGone _ (by simp) fun _ hf => List.mem_cons_of_mem _ hf

theorem State.published_tim (s : State) (n : Nat) (ofs : Int) :
    (s.published n ofs).tim = { s.tim with sources := setNth s.tim.sources (n - 1) (fun c => c.measured s.tim.el) } :=
  (State.causeGone_acts _ _).frame .tim rfl

end

end Sys2Proof.Machine

/-! Steps of working time, holdover and the time markers of the twins (R340, R352 to R360). -/
namespace Sys2Proof.Machine
set_option Elab.async false

section
variable {s t : State} {e k l a : Nat} {d : Int} {m : Marker}

/-! The decision on a step (R357). -/

theorem add_sec_sub_one (n : Nat) : n + sec - 1 = n + (sec - 1) := Nat.add_sub_assoc (show 1 ≤ sec by decide) n

theorem State.decideStep_stepAt (undecided : s.tim.stepAt = none) :
    s.decideStep.tim.stepAt = some ((s.tim.wt + 500 * ms + (sec - 1)) / sec * sec, none) := by
  rw [State.decideStep, if_neg (by simp [undecided]), ← add_sec_sub_one]
  rfl

theorem State.decideStep_wt (s : State) : s.decideStep.tim.wt = s.tim.wt := by
  unfold State.decideStep
  split <;> rfl

/-- R357: a step decided at elapsed time `e`. -/
structure Decided (s t : State) (e : Nat) : Prop where
  stepAt : t.tim.stepAt = some ((t.tim.wt + 500 * ms + (sec - 1)) / sec * sec, none)
  el : t.tim.el = Nat.max s.tim.el e
  pending : t.flag F_TSU_STATUS_STEP_PEND = true
  frame : Frame [.tim, .elapsed, .working, .regs] s t
  fields : FieldsBut [F_TSU_STATUS_STEP_PEND] s t

theorem State.decideStep_decided (sound : s.Sound) (undecided : s.tim.stepAt = none) (e : Nat) : Decided s (s.reachEl e).decideStep e := by
  have el := State.reachEl_max s e
  have reached : Changes [.tim, .elapsed, .working, .regs] [F_TSU_STATUS_STEP_PEND] [] s (s.reachEl e) := (Changes.refl sound).acts (State.reachEl_acts ..)
  have undecided' : (s.reachEl e).tim.stepAt = none := undecided
  generalize s.reachEl e = u at *
  have stepAt := State.decideStep_stepAt undecided'
  rw [← State.decideStep_wt] at stepAt
  have shown : u.decideStep = { u with tim := { u.tim with stepAt := some ((u.tim.wt + 500 * ms + sec - 1) / sec * sec, none) } }.setFlag F_TSU_STATUS_STEP_PEND true :=
    if_neg (by simp [undecided'])
  have decided (x : Option (Nat × Option Int)) : Changes [.tim, .elapsed, .working, .regs] [F_TSU_STATUS_STEP_PEND] [] s { u with tim := { u.tim with stepAt := x } } := reached.upd _
  refine ⟨stepAt, ?_, ?_, ?_, ?_⟩
  all_goals rw [shown]
  · exact el
  · exact flag_setFlag (decided _).sound _ _ rfl
  · exact ((decided _).setFlag F_TSU_STATUS_STEP_PEND true).frame
  · exact ((decided _).setFlag F_TSU_STATUS_STEP_PEND true).fields

theorem execStepDecision_big (big : s.tim.bigSince = some e) (selected : s.selected ≠ 0) : execStepDecision s = .next (s.reachEl (e + sec)).decideStep := by
  rw [execStepDecision, big]
  exact congrArg _ (if_pos (by simpa using selected))

theorem exec_stepDecision_decides (sound : s.Sound) (big : s.tim.bigSince = some e) (selected : s.selected ≠ 0) (undecided : s.tim.stepAt = none) :
    ∃ t, exec .stepDecision s = .next t ∧ Decided s t (e + sec) := by
  rw [exec_stepDecision, execStepDecision_big big selected]
  exact ⟨_, rfl, State.decideStep_decided sound undecided _⟩

theorem State.decideStep_done (decided : s.tim.stepAt.isSome = true) (e : Nat) :
    (s.reachEl e).decideStep.tim.stepAt = s.tim.stepAt ∧ Frame [.tim, .elapsed, .working] s (s.reachEl e).decideStep := by
  rw [State.decideStep, if_pos (c := (s.reachEl e).tim.stepAt.isSome = true) decided]
  exact ⟨rfl, (State.reachEl_acts s e).framed (ps := [.tim, .elapsed, .working])⟩

theorem exec_stepDecision_decided (decided : s.tim.stepAt.isSome = true) :
    ∃ t, exec .stepDecision s = .next t ∧ t.tim.stepAt = s.tim.stepAt ∧ Frame [.tim, .elapsed, .working] s t := by
  rw [exec_stepDecision, execStepDecision]
  split
  next e _ =>
    split
    · exact ⟨_, rfl, State.decideStep_done decided _⟩
    · exact ⟨s, rfl, rfl, Frame.refl _ s⟩
  next => exact ⟨s, rfl, rfl, Frame.refl _ s⟩

/-! Holdover (R356). -/

/-- R356: the published error and whole seconds of holdover. -/
def State.showHoldover (s : State) (error seconds : Nat) : State := (s.setReg A_TSU_HOLD_ERR (toWord error)).setReg A_TSU_HOLD_S (toWord seconds)

theorem State.showHoldover_shows (sound : s.Sound) (error seconds e : Nat) (small : error < 4294967296) :
    ((s.reachEl e).showHoldover error seconds).fld (word32 A_TSU_HOLD_ERR) = error ∧ ((s.reachEl e).showHoldover error seconds).fld (word32 A_TSU_HOLD_S) = seconds % 4294967296 ∧
      ((s.reachEl e).showHoldover error seconds).tim.el = Nat.max s.tim.el e ∧ Frame [.tim, .elapsed, .working, .regs] s ((s.reachEl e).showHoldover error seconds) ∧
      FieldsBut [word32 A_TSU_HOLD_ERR, word32 A_TSU_HOLD_S] s ((s.reachEl e).showHoldover error seconds) := by
  have el := State.reachEl_max s e
  have reached : Changes [.tim, .elapsed, .working, .regs] [word32 A_TSU_HOLD_ERR, word32 A_TSU_HOLD_S] [] s (s.reachEl e) := (Changes.refl sound).acts (State.reachEl_acts ..)
  generalize s.reachEl e = u at *
  have first := reached.setReg A_TSU_HOLD_ERR (toWord error)
  have change := first.setReg A_TSU_HOLD_S (toWord seconds)
  refine ⟨?_, ?_, el, change.frame, change.fields⟩
  · rw [State.fld_word32, State.showHoldover, reg_setReg first.sound, if_neg (by decide), reg_setReg reached.sound, if_pos rfl]
    exact Nat.mod_eq_of_lt small
  · rw [State.fld_word32, State.showHoldover, reg_setReg first.sound, if_pos rfl]
    rfl

theorem execHoldErrPublish_on (holdover : s.flag F_TSU_STATUS_HOLDOVER = true) (whole : k = (s.tim.el - s.tim.holdSince + (sec - 1)) / sec) :
    execHoldErrPublish s = .next ((s.reachEl (s.tim.holdSince + k * sec)).showHoldover (s.holdErr k) k) := by
  rw [execHoldErrPublish, if_pos holdover, whole, ← add_sec_sub_one]
  rfl

theorem State.holdErr_small (s : State) (k : Nat) : s.holdErr k < 4294967296 := Nat.lt_succ_of_le (Nat.min_le_left ..)

theorem exec_holdErrPublish_publishes (sound : s.Sound) (holdover : s.flag F_TSU_STATUS_HOLDOVER = true) (whole : k = (s.tim.el - s.tim.holdSince + (sec - 1)) / sec) :
    ∃ t, exec .holdErrPublish s = .next t ∧ t.fld (word32 A_TSU_HOLD_ERR) = s.holdErr k ∧ t.fld (word32 A_TSU_HOLD_S) = k % 4294967296 ∧
      t.tim.el = Nat.max s.tim.el (s.tim.holdSince + k * sec) ∧ Frame [.tim, .elapsed, .working, .regs] s t ∧
      FieldsBut [word32 A_TSU_HOLD_ERR, word32 A_TSU_HOLD_S] s t := by
  rw [exec_holdErrPublish, execHoldErrPublish_on holdover whole]
  exact ⟨_, rfl, State.showHoldover_shows sound _ _ _ (State.holdErr_small s k)⟩

/-! Markers that leave (R352, R354). -/

/-- R354: the step that a marker of this device announces: its size and its whole second. -/
def State.announces (s : State) : Int × Nat :=
  match s.tim.stepAt with
  | some (a, none) => if s.isLead then (evenStep (s.srcOfs s.selected), a / sec % 4294967296) else (0, 0)
  | _ => (0, 0)

/-- R352: a marker as it leaves. -/
def State.marker (s : State) : Sent :=
  ⟨.twin, .marker, [((if s.flag (bitAt A_TWN_STATUS 10) then 0 else 1 : Nat) : Int), (s.tim.wt : Int), (s.tim.rxMarker : Int), s.announces.1, (s.announces.2 : Int)]⟩

/-- R352: a marker leaves. -/
def State.sendMarker (s : State) : State := { s with out := s.out ++ [s.marker] }

theorem State.sendMarker_eq (t : State) : t.send .twin .marker [((if t.flag (bitAt A_TWN_STATUS 10) then 0 else 1 : Nat) : Int), (t.tim.wt : Int),
    (t.tim.rxMarker : Int), t.announces.1, (t.announces.2 : Int)] = t.sendMarker := rfl

theorem State.reach_linkUp (s : State) (w : Nat) : (s.reach w).linkUp = s.linkUp := rfl

theorem execTimeMarkerSend_up (up : s.linkUp = true) : execTimeMarkerSend s = .next (s.reach ((s.tim.wt + ms - 1) / ms * ms)).sendMarker := by
  unfold execTimeMarkerSend
  generalize (s.tim.wt + ms - 1) / ms * ms = w
  extract_lets t announced lane
  have announces : announced = t.announces := rfl
  rw [if_pos ((s.reach_linkUp w).trans up), announces, ← State.sendMarker_eq]

theorem execTimeMarkerSend_down (down : s.linkUp = false) : execTimeMarkerSend s = .next (s.reach ((s.tim.wt + ms - 1) / ms * ms)) := by
  unfold execTimeMarkerSend
  generalize (s.tim.wt + ms - 1) / ms * ms = w
  exact congrArg _ (if_neg (by rw [s.reach_linkUp w, down]; simp))

theorem State.sendMarker_frame (s : State) (w : Nat) : Frame [.tim, .elapsed, .working, .out] s (s.reach w).sendMarker := by
  intro p hp
  cases p <;> first | rfl | simp at hp

theorem State.sendMarker_sends (s : State) (w : Nat) : s.Sends (s.reach w).sendMarker [⟨.twin, .marker,
    [((if s.flag (bitAt A_TWN_STATUS 10) then 0 else 1 : Nat) : Int), ((s.reach w).sendMarker.tim.wt : Int), (s.tim.rxMarker : Int), s.announces.1, (s.announces.2 : Int)]⟩] := rfl

theorem exec_timeMarkerSend_down (down : s.linkUp = false) :
    ∃ t, exec .timeMarkerSend s = .next t ∧ t.out = s.out ∧ Frame [.tim, .elapsed, .working] s t := by
  rw [exec_timeMarkerSend, execTimeMarkerSend_down down]
  exact ⟨_, rfl, (State.reach_acts ..).frame .out rfl, (State.reach_acts ..).framed (ps := [.tim, .elapsed, .working])⟩

theorem next_ms (w : Nat) : Nat.max w ((w + ms - 1) / ms * ms) % ms = 0 ∧ w ≤ Nat.max w ((w + ms - 1) / ms * ms) ∧ Nat.max w ((w + ms - 1) / ms * ms) < w + ms := by
  rw [show ms = 1000000 from rfl]
  have ahead : w ≤ (w + 1000000 - 1) / 1000000 * 1000000 := by omega
  have reached : Nat.max w ((w + 1000000 - 1) / 1000000 * 1000000) = (w + 1000000 - 1) / 1000000 * 1000000 := Nat.max_eq_right ahead
  rw [reached]
  omega

/-! The step (R357, R359, R360). -/

/-- What the compare units that a step passes over leave: every register before theirs, and all of time but the list of armed units. -/
structure PassedOver (s t : State) : Prop where
  sound : t.Sound
  low : ∀ b < A_TSU_CMP_CFG 0, t.reg b = s.reg b
  tim : t.tim = { s.tim with armed := t.tim.armed }
  frame : Frame [.tim, .regs] s t

theorem PassedOver.trans {u : State} (h : PassedOver s t) (k : PassedOver t u) : PassedOver s u :=
  ⟨k.sound, fun b low => (k.low b low).trans (h.low b low), by rw [k.tim, h.tim], h.frame.trans k.frame⟩

/-- R360: unit `k` fires at a step to working time `b`. -/
def State.passOver (s : State) (k b : Nat) : State :=
  (({ s with tim := { s.tim with armed := remove s.tim.armed k } }.setFlag (F_TSU_CMP_CFG_FIRED k) true).setFlag (F_TSU_CMP_CFG_STEPPED k) true).setReg
    (A_TSU_CMP_LAST k) (toWord (tsuNs b))

/-- R360: unit `k` is a one-shot whose instant the step from `a` to `b` passes over. -/
def State.passes (s : State) (k a b : Nat) : Bool :=
  !s.flag (F_TSU_CMP_CFG_MODE k) && ((s.reg (A_TSU_CMP_TIME k)).toNat + (4294967296 - tsuNs a)) % 4294967296 ≤ b - a

theorem State.stepCompares_eq (s : State) (a b : Nat) : s.stepCompares a b = s.each s.tim.armed (fun t k => if t.passes k a b then t.passOver k b else t) := rfl

/-- The mark that a unit has fired at a step writes registers only. -/
theorem State.passOver_acts (s : State) (k b : Nat) :
    Acts (partMask [.regs]) { s with tim := { s.tim with armed := remove s.tim.armed k } } (s.passOver k b) := by
  unfold State.passOver
  exact (((Acts.refl _).step (State.setFlag_acts ..) rfl).step (State.setFlag_acts ..) rfl).step (State.setReg_acts ..) rfl

theorem State.passOver_passes (sound : s.Sound) (k b : Nat) : PassedOver s (s.passOver k b) := by
  have first : State.Sound { s with tim := { s.tim with armed := remove s.tim.armed k } } :=
    sound.of_eq rfl rfl rfl rfl rfl rfl rfl rfl rfl rfl rfl rfl rfl rfl
  have second := first.setFlag (F_TSU_CMP_CFG_FIRED k) true
  have third := second.setFlag (F_TSU_CMP_CFG_STEPPED k) true
  have disarmed : Frame [.tim, .regs] s { s with tim := { s.tim with armed := remove s.tim.armed k } } := by
    intro p hp
    cases p <;> first | rfl | simp at hp
  have acts := s.passOver_acts k b
  have tim : (s.passOver k b).tim = { s.tim with armed := remove s.tim.armed k } := acts.frame .tim rfl
  refine ⟨third.setReg _ _, fun c low => ?_, ?_, disarmed.trans (acts.framed.mono (by simp))⟩
  case refine_2 => rw [tim]
  have before : c ≠ A_TSU_CMP_CFG k ∧ c ≠ A_TSU_CMP_LAST k := by
    simp only [A_TSU_CMP_CFG, A_TSU_CMP_LAST] at *
    omega
  have regs := (reg_setReg third (A_TSU_CMP_LAST k) c (toWord (tsuNs b))).trans (if_neg before.2)
  exact regs.trans ((reg_setFld second _ _ _ before.1).trans (reg_setFld first _ _ _ before.1))

theorem State.stepCompares_passes (sound : s.Sound) (a b : Nat) : PassedOver s (s.stepCompares a b) := by
  rw [State.stepCompares_eq]
  refine List.foldlRecOn (motive := PassedOver s) _ _ ⟨sound, fun _ _ => rfl, rfl, Frame.refl _ s⟩ fun u h k _ => ?_
  split
  · exact h.trans (State.passOver_passes h.sound k b)
  · exact h

/-- R357, R360: what a step at `a` by `d` leaves before it is shown: working time, the freeze due at the step, and nothing of a step to come. -/
def State.stepped (s : State) (a : Nat) (d : Int) : State :=
  { s with tim := { s.tim with wt := ((a : Int) + d).toNat, stepAt := none, noPulseUntil := a + sec, bigSince := none, ptp := { s.tim.ptp with syncs := [], request := [], back := [] }, stepJump := if s.dev.cycling then some (a, d) else none }, dev := { s.dev with nextFreeze := if s.dev.nextFreeze = a then ((a : Int) + d).toNat else s.dev.nextFreeze }, rcd := { s.rcd with anchorDue := true } }

/-- R340, R359: the registers of a step's size and count. -/
def State.countStep (s : State) (d : Int) : State :=
  ((s.writeExt.setReg A_TSU_STEP_LO (intWord d)).setReg A_TSU_STEP_HI (intWord (d / 4294967296))).bump (word32 A_TSU_STEP_CNT)

/-- R359: the status, the event and the alarm of a step. -/
def State.tellStep (s : State) (d : Int) : State :=
  (((s.setFlag F_TSU_STATUS_SET true).setFlag F_TSU_STATUS_STEP_PEND false).event F_TSU_EVENT_STEP).raise 0x0204 [intWord d, intWord (d / 4294967296)]

/-- R340, R359: a step as it is shown and recorded. -/
def State.showStep (s : State) (d : Int) : State := (s.countStep d).tellStep d

theorem execTimeStep_eq {x : Option Int} (decided : s.tim.stepAt = some (a, x)) (size : x.getD (evenStep (s.srcOfs s.selected)) = d) :
    execTimeStep s = .next (if 0 < d then (((s.reach a).stepped a d).showStep d).stepCompares a ((a : Int) + d).toNat else ((s.reach a).stepped a d).showStep d) := by
  subst size
  rw [execTimeStep, decided]
  cases x <;> rfl

/-- What a step shows (R359). -/
structure StepShown (s t : State) (d : Int) : Prop where
  sound : t.Sound
  set : t.flag F_TSU_STATUS_SET = true
  pending : t.flag F_TSU_STATUS_STEP_PEND = false
  low : t.reg A_TSU_STEP_LO = intWord d
  count : t.fld (word32 A_TSU_STEP_CNT) = Nat.min 4294967295 (s.fld (word32 A_TSU_STEP_CNT) + 1)
  event : t.flag F_TSU_EVENT_STEP = true
  alarmed : t.Alarmed 0x0204
  alarms : AlarmsBut [0x0204] s t

theorem State.countStep_counts (sound : s.Sound) (d : Int) : (s.countStep d).Sound ∧ (s.countStep d).reg A_TSU_STEP_LO = intWord d ∧
    (s.countStep d).fld (word32 A_TSU_STEP_CNT) = Nat.min 4294967295 (s.fld (word32 A_TSU_STEP_CNT) + 1) := by
  have ext : s.writeExt.Sound := sound.setReg _ _
  have before : s.writeExt.fld (word32 A_TSU_STEP_CNT) = s.fld (word32 A_TSU_STEP_CNT) := by
    rw [State.fld_word32, State.writeExt, reg_setReg sound, if_neg (by decide), State.fld_word32]
  rw [← before, State.countStep]
  generalize s.writeExt = u at *
  have lo := ext.setReg A_TSU_STEP_LO (intWord d)
  have low : (u.setReg A_TSU_STEP_LO (intWord d)).reg A_TSU_STEP_LO = intWord d := (reg_setReg ext ..).trans (if_pos rfl)
  have count : (u.setReg A_TSU_STEP_LO (intWord d)).fld (word32 A_TSU_STEP_CNT) = u.fld (word32 A_TSU_STEP_CNT) := by
    rw [State.fld_word32, reg_setReg ext, if_neg (by decide), State.fld_word32]
  rw [← count]
  generalize u.setReg A_TSU_STEP_LO (intWord d) = v at *
  have hi := lo.setReg A_TSU_STEP_HI (intWord (d / 4294967296))
  have kept (c : Nat) (other : c ≠ A_TSU_STEP_HI) : (v.setReg A_TSU_STEP_HI (intWord (d / 4294967296))).reg c = v.reg c := (reg_setReg lo ..).trans (if_neg other)
  generalize v.setReg A_TSU_STEP_HI (intWord (d / 4294967296)) = w at *
  have same : w.fld (word32 A_TSU_STEP_CNT) = v.fld (word32 A_TSU_STEP_CNT) := by rw [State.fld_word32, kept _ (by decide), State.fld_word32]
  refine ⟨(State.bump_acts ..).sound hi, ?_, ?_⟩
  · exact (reg_setFld hi _ _ _ (by decide)).trans ((kept _ (by decide)).trans low)
  · exact (State.fld_bump hi _ _).trans (by rw [same]; rfl)

theorem State.tellStep_changes (sound : s.Sound) (d : Int) : Changes [.alarms, .rcd, .regs]
    ([F_TSU_STATUS_SET, F_TSU_STATUS_STEP_PEND, F_TSU_EVENT_STEP] ++ recFields) [0x0204] s (s.tellStep d) :=
  ((((Changes.refl sound).setFlag F_TSU_STATUS_SET true).setFlag F_TSU_STATUS_STEP_PEND false).event F_TSU_EVENT_STEP).raise _ _

theorem State.tellStep_tells (sound : s.Sound) (d : Int) : (s.tellStep d).flag F_TSU_STATUS_SET = true ∧ (s.tellStep d).flag F_TSU_STATUS_STEP_PEND = false ∧
    (s.tellStep d).flag F_TSU_EVENT_STEP = true ∧ (s.tellStep d).Alarmed 0x0204 := by
  have set := sound.setFlag F_TSU_STATUS_SET true
  have ended := set.setFlag F_TSU_STATUS_STEP_PEND false
  have told := ended.event F_TSU_EVENT_STEP
  refine ⟨?_, ?_, ?_, (alarm_raise ..).trans (if_pos rfl)⟩
  all_goals refine (flag_raise told _ _ _ (by decide) (by decide)).trans ?_
  · exact (flag_event_other ended _ _ rfl rfl (.inl (by decide))).trans ((flag_setFlag_other set _ _ _ rfl rfl (by decide)).trans (flag_setFlag sound _ _ rfl))
  · exact (flag_event_other ended _ _ rfl rfl (.inl (by decide))).trans (flag_setFlag set _ _ rfl)
  · exact flag_event ended _ rfl

theorem State.countStep_acts (s : State) (d : Int) : Acts (partMask [.regs]) s (s.countStep d) :=
  ((((Acts.refl s).step (State.writeExt_acts s) rfl).step (State.setReg_acts ..) rfl).step (State.setReg_acts ..) rfl).step (State.bump_acts ..) rfl

theorem State.showStep_acts (s : State) (d : Int) : Acts (partMask [.alarms, .rcd, .regs]) s (s.showStep d) := by
  unfold State.showStep State.tellStep
  exact (((((s.countStep_acts d).mono rfl).step (State.setFlag_acts ..) rfl).step (State.setFlag_acts ..) rfl).step (State.event_acts ..) rfl).step (State.raise_acts ..) rfl

theorem State.showStep_shows (sound : s.Sound) (d : Int) : StepShown s (s.showStep d) d := by
  obtain ⟨counted, low, count⟩ := State.countStep_counts sound d
  have quiet (c : Nat) : (s.countStep d).alarm? c = s.alarm? c := alarm_of_acts (s.countStep_acts d) rfl
  rw [State.showStep]
  generalize s.countStep d = u at *
  obtain ⟨set, pending, event, alarmed⟩ := State.tellStep_tells counted d
  have change := State.tellStep_changes counted d
  exact ⟨change.sound, set, pending, (change.reg _ (by simp [recFields]; decide)).trans low, (change.fld _).trans count, event, alarmed,
    fun c hc => (change.alarms c hc).trans (quiet c)⟩

theorem StepShown.passes {u : State} (h : StepShown s t d) (k : PassedOver t u) : StepShown s u d where
  sound := k.sound
  set := (State.flag_of_reg (k.low _ (by decide))).trans h.set
  pending := (State.flag_of_reg (k.low _ (by decide))).trans h.pending
  low := (k.low _ (by decide)).trans h.low
  count := by rw [State.fld_word32, k.low _ (by decide), ← State.fld_word32, h.count]
  event := (State.flag_of_reg (k.low _ (by decide))).trans h.event
  alarmed := (congrArg (fun l : List Alarm => l.find? _ = _) (k.frame .alarms (by simp))).mpr h.alarmed
  alarms := fun c hc => (congrArg (fun l : List Alarm => l.find? _) (k.frame .alarms (by simp))).trans (h.alarms c hc)

/-- R357, R359, R360: what a step makes of `s`, all of it. -/
structure Stepped (s t : State) (a : Nat) (d : Int) : Prop where
  shown : StepShown s t d
  tim : t.tim = { ((s.reach a).stepped a d).tim with armed := t.tim.armed }
  dev : t.dev = ((s.reach a).stepped a d).dev
  anchor : t.rcd.anchorDue = true
  frame : Frame [.dev, .alarms, .rcd, .tim, .elapsed, .working, .regs] s t

theorem State.enqueue_anchorDue (s : State) (r : Rec) : (s.enqueue r).rcd.anchorDue = s.rcd.anchorDue := by
  unfold State.enqueue
  split <;> rfl

theorem State.raise_anchorDue (s : State) (c : Nat) (p : List Word) : (s.raise c p).rcd.anchorDue = s.rcd.anchorDue := by
  unfold State.raise
  split
  · rfl
  · exact State.enqueue_anchorDue ..

theorem State.stepped_of_showStep (sound : s.Sound) (a : Nat) (d : Int) : Stepped s (((s.reach a).stepped a d).showStep d) a d := by
  have moved : ((s.reach a).stepped a d).Sound := sound.of_eq rfl rfl rfl rfl rfl rfl rfl rfl rfl rfl rfl rfl rfl rfl
  have shown := State.showStep_shows moved d
  have acts := State.showStep_acts ((s.reach a).stepped a d) d
  have frame : Frame [.dev, .alarms, .rcd, .tim, .elapsed, .working, .regs] s ((s.reach a).stepped a d) := by intro p hp; cases p <;> first | rfl | simp at hp
  refine ⟨?_, ?_, acts.frame .dev rfl, ?_, frame.trans (acts.mono (m := partMask [.dev, .alarms, .rcd, .tim, .elapsed, .working, .regs]) rfl).framed⟩
  · exact { shown with }
  · rw [show (((s.reach a).stepped a d).showStep d).tim = ((s.reach a).stepped a d).tim from acts.frame .tim rfl]
  · exact (State.raise_anchorDue ..).trans (congrArg Recorder.anchorDue ((State.countStep_acts _ d).frame .rcd rfl))

theorem exec_timeStep_steps {x : Option Int} (sound : s.Sound) (decided : s.tim.stepAt = some (a, x)) (size : x.getD (evenStep (s.srcOfs s.selected)) = d) :
    ∃ t, exec .timeStep s = .next t ∧ Stepped s t a d := by
  rw [exec_timeStep, execTimeStep_eq decided size]
  have done := State.stepped_of_showStep sound a d
  generalize ((s.reach a).stepped a d).showStep d = u at *
  split
  next =>
    have passed := State.stepCompares_passes done.shown.sound a ((a : Int) + d).toNat
    refine ⟨_, rfl, done.shown.passes passed, ?_, (passed.frame .dev (by simp)).trans done.dev, ?_, done.frame.trans (passed.frame.mono (by simp))⟩
    · rw [passed.tim, done.tim]
    · exact (congrArg Recorder.anchorDue (passed.frame .rcd (by simp))).trans done.anchor
  next => exact ⟨_, rfl, done⟩

/-! Markers that arrive (R352 to R354). -/

/-- R352, R353: what a marker gives before an announced step: the twin offset and TWIN_OK. -/
def State.noteMarker (s : State) (m : Marker) : State :=
  { s with tim := { s.tim with twinOffset := markerOffset m, rxMarker := m.arrival, twinBigSince := if decide ((markerOffset m).natAbs ≤ 1000) then none else some (s.tim.twinBigSince.getD s.tim.el) } }

def State.showMarker (s : State) (ok : Bool) : State := if ok then (s.setFlag F_TSU_STATUS_TWIN_OK ok).causeGone 0x0208 else s.setFlag F_TSU_STATUS_TWIN_OK ok

/-- R354: a device that follows takes an announced step. -/
def State.takeStep (s : State) (m : Marker) : State :=
  if m.step != 0 && !s.isLead then
    { s with tim := { s.tim with stepAt := some (markerSecond s.tim.wt m.stepSec, some m.step) } }.setFlag F_TSU_STATUS_STEP_PEND true
  else s

theorem State.takeMarker_eq (s : State) (m : Marker) : s.takeMarker m =
    let u := ((s.noteMarker m).showMarker (decide ((markerOffset m).natAbs ≤ 1000))).takeStep m
    if u.peerMet && u.linkUp then u.measureOffset 4 (markerOffset m) else u := rfl

theorem State.showMarker_changes (sound : s.Sound) (ok : Bool) : Changes [.alarms, .rcd, .regs] (F_TSU_STATUS_TWIN_OK :: recFields) [0x0208] s (s.showMarker ok) := by
  have shown : Changes [.alarms, .rcd, .regs] (F_TSU_STATUS_TWIN_OK :: recFields) [0x0208] s (s.setFlag F_TSU_STATUS_TWIN_OK ok) := (Changes.refl sound).setFlag _ _
  unfold State.showMarker
  exact .ite (fun _ => shown.causeGone _) fun _ => shown

theorem State.showMarker_flag (sound : s.Sound) (ok : Bool) : (s.showMarker ok).flag F_TSU_STATUS_TWIN_OK = ok := by
  have shown := flag_setFlag sound F_TSU_STATUS_TWIN_OK ok rfl
  unfold State.showMarker
  split
  · exact (Changes.flag (fs := recFields) ((Changes.refl (ps := [.alarms, .rcd, .regs]) (cs := [0x0208]) (sound.setFlag ..)).causeGone _) _).trans shown
  · exact shown

theorem State.showMarker_gone (s : State) : (s.showMarker true).CauseGone 0x0208 := State.causeGone_causeGone _ _

/-- What a marker gives before an announced step is taken (R352, R353). -/
structure Noted (s t : State) (m : Marker) : Prop where
  sound : t.Sound
  tim : t.tim = (s.noteMarker m).tim
  ok : t.flag F_TSU_STATUS_TWIN_OK = decide ((markerOffset m).natAbs ≤ 1000)
  gone : (markerOffset m).natAbs ≤ 1000 → t.CauseGone 0x0208
  lead : t.isLead = s.isLead
  met : t.peerMet = s.peerMet
  up : t.linkUp = s.linkUp
  frame : Frame [.alarms, .rcd, .tim, .regs] s t

theorem State.showMarker_noted (sound : s.Sound) (m : Marker) : Noted s ((s.noteMarker m).showMarker (decide ((markerOffset m).natAbs ≤ 1000))) m := by
  have sound' : (s.noteMarker m).Sound := sound.of_eq rfl rfl rfl rfl rfl rfl rfl rfl rfl rfl rfl rfl rfl rfl
  have shown := State.showMarker_changes sound' (decide ((markerOffset m).natAbs ≤ 1000))
  have noted : Frame [.alarms, .rcd, .tim, .regs] s (s.noteMarker m) := by intro p hp; cases p <;> first | rfl | simp at hp
  have told : Frame [.alarms, .rcd, .tim, .regs] (s.noteMarker m) ((s.noteMarker m).showMarker (decide ((markerOffset m).natAbs ≤ 1000))) := shown.frame.mono (by simp)
  have frame := noted.trans told
  have lead : SameLead s ((s.noteMarker m).showMarker (decide ((markerOffset m).natAbs ≤ 1000))) :=
    ⟨frame .pat (by simp), frame .dev (by simp), frame .twn (by simp), frame .pins (by simp)⟩
  refine ⟨shown.sound, shown.frame .tim (by simp), State.showMarker_flag sound' _, fun small => ?_, lead.isLead, shown.flag _, ?_, frame⟩
  · rw [decide_eq_true small]
    exact State.showMarker_gone _
  · exact congrArg (· != 0) (shown.fld F_TWN_STATUS_LANES)

/-- What a marker gives before the offset of the twin source is measured (R352 to R354). -/
structure Marked (s t : State) (m : Marker) : Prop where
  sound : t.Sound
  twinOffset : t.tim.twinOffset = markerOffset m
  rxMarker : t.tim.rxMarker = m.arrival
  ok : t.flag F_TSU_STATUS_TWIN_OK = decide ((markerOffset m).natAbs ≤ 1000)
  big : 1000 < (markerOffset m).natAbs → t.tim.twinBigSince.isSome = true
  small : (markerOffset m).natAbs ≤ 1000 → t.tim.twinBigSince = none ∧ t.CauseGone 0x0208
  step : m.step ≠ 0 → s.isLead = false → t.tim.stepAt = some (markerSecond s.tim.wt m.stepSec, some m.step) ∧ t.flag F_TSU_STATUS_STEP_PEND = true
  wt : t.tim.wt = s.tim.wt
  frame : Frame [.alarms, .rcd, .tim, .regs] s t

/-- What of the sources and the link a marker leaves before the offset of the twin source is measured. -/
structure KeepsSources (s t : State) : Prop where
  sources : t.tim.sources = s.tim.sources
  el : t.tim.el = s.tim.el
  met : t.peerMet = s.peerMet
  up : t.linkUp = s.linkUp

theorem State.noteMarker_since (s : State) (m : Marker) : (1000 < (markerOffset m).natAbs → (s.noteMarker m).tim.twinBigSince.isSome = true) ∧
    ((markerOffset m).natAbs ≤ 1000 → (s.noteMarker m).tim.twinBigSince = none) := by
  refine ⟨fun big => ?_, fun small => if_pos (by simpa using small)⟩
  exact congrArg Option.isSome (if_neg (c := decide ((markerOffset m).natAbs ≤ 1000) = true) (by simpa using big))

theorem State.takeStep_marked (h : Noted s t m) : Marked s (t.takeStep m) m ∧ KeepsSources s (t.takeStep m) := by
  have since := s.noteMarker_since m
  have stays (u : State) (tim : u.tim = { (s.noteMarker m).tim with stepAt := u.tim.stepAt }) (sound : u.Sound)
      (flag : ∀ f, f.fits = true → f.apart F_TSU_STATUS_STEP_PEND → u.flag f = t.flag f) (alarm : u.alarms = t.alarms)
      (up : u.linkUp = t.linkUp) (frame : Frame [.tim, .regs] t u)
      (step : m.step ≠ 0 → s.isLead = false → u.tim.stepAt = some (markerSecond s.tim.wt m.stepSec, some m.step) ∧ u.flag F_TSU_STATUS_STEP_PEND = true) :
      Marked s u m ∧ KeepsSources s u := by
    refine ⟨⟨sound, by rw [tim]; rfl, by rw [tim]; rfl, (flag _ rfl (by unfold Fld.apart; decide)).trans h.ok, ?_, ?_, step, by rw [tim]; rfl, h.frame.trans (frame.mono (by simp))⟩,
      ⟨by rw [tim]; rfl, by rw [tim]; rfl, (flag _ rfl (by unfold Fld.apart; decide)).trans h.met, up.trans h.up⟩⟩
    · rw [tim]
      exact since.1
    · rw [tim]
      exact fun small => ⟨since.2 small, (h.gone small).kept (congrArg (fun l : List Alarm => l.find? _) alarm)⟩
  unfold State.takeStep
  split
  next taken =>
    have set : State.Sound { t with tim := { t.tim with stepAt := some (markerSecond t.tim.wt m.stepSec, some m.step) } } :=
      h.sound.of_eq rfl rfl rfl rfl rfl rfl rfl rfl rfl rfl rfl rfl rfl rfl
    refine stays _ (congrArg (fun x : Tim => { x with stepAt := some (markerSecond t.tim.wt m.stepSec, some m.step) }) h.tim) (set.setFlag _ _)
      (fun f fits apart => flag_setFlag_other set _ _ _ rfl fits ?_) rfl ?_ ?_ fun _ _ => ⟨?_, flag_setFlag set _ _ rfl⟩
    · rcases apart with other | low | high
      exacts [.inl other.symm, .inr (.inr low), .inr (.inl high)]
    · exact congrArg (· != 0) (fld_setFld_other set _ F_TWN_STATUS_LANES _ rfl rfl (.inl (by decide)))
    · intro p hp
      cases p <;> first | rfl | simp at hp
    · exact (congrArg (fun x : Tim => some (markerSecond x.wt m.stepSec, some m.step)) h.tim).trans rfl
  next stays' =>
    refine stays t (by rw [h.tim]) h.sound (fun _ _ _ => rfl) rfl rfl (Frame.refl _ t) fun step follows => absurd ?_ stays'
    rw [h.lead, follows]
    simp [step]

theorem State.measured_marked {u : State} (h : Marked s t m) (k : KeepsSources s t) (measured : (t.measureOffset 4 (markerOffset m)) = u) :
    Marked s u m ∧ (s.tim.sources.length = 4 → (u.src 4).valid = true ∧ (u.src 4).lastSeen = s.tim.el) := by
  subst measured
  have published := State.published_changes h.sound 4 (markerOffset m)
  have tim := State.published_tim t 4 (markerOffset m)
  have change := State.measureOffset_changes published.sound
  have keeps := State.measureOffset_keeps t 4 (markerOffset m)
  generalize t.published 4 (markerOffset m) = v at *
  generalize t.measureOffset 4 (markerOffset m) = u at *
  have flag (f : Fld) (fits : f.fits = true) (first : ∀ g ∈ F_TSU_SRC_OFS_OFS 3 :: recFields, g.apart f) (second : ∀ g ∈ servoFields, g.apart f) : u.flag f = t.flag f :=
    (change.flag f fits second).trans (published.flag f fits first)
  refine ⟨⟨change.sound, ?_, ?_, ?_, ?_, fun small => ⟨?_, ?_⟩, fun step follows => ⟨?_, ?_⟩, ?_, ?_⟩, fun four => ?_⟩
  · rw [keeps.twinOffset, tim, h.twinOffset]
  · rw [keeps.rxMarker, tim, h.rxMarker]
  · exact (flag _ rfl (by unfold Fld.apart; decide) (by unfold Fld.apart; decide)).trans h.ok
  · rw [keeps.twinBigSince, tim]
    exact h.big
  · rw [keeps.twinBigSince, tim]
    exact (h.small small).1
  · exact (h.small small).2.kept ((change.alarms _ (by decide)).trans (published.alarms _ (by decide)))
  · have decided : v.tim.stepAt = some (markerSecond s.tim.wt m.stepSec, some m.step) := by
      rw [tim]
      exact (h.step step follows).1
    rw [keeps.stepAt (by rw [decided]; rfl), decided]
  · exact (keeps.pending published.sound).2 ((published.flag _ rfl (by unfold Fld.apart; decide)).trans (h.step step follows).2)
  · rw [keeps.wt, tim, h.wt]
  · exact h.frame.trans (published.frame.trans change.frame)
  · have source : u.src 4 = (t.src 4).measured t.tim.el := by
      rw [State.src, keeps.sources, tim, State.src]
      have length : t.tim.sources.length = 4 := (congrArg List.length k.sources).trans four
      simp only [setNth, List.getD_eq_getElem?_getD, List.getElem?_modify]
      rw [List.getElem?_eq_getElem (by rw [length]; decide)]
      rfl
    rw [source]
    exact ⟨rfl, k.el⟩

theorem exec_timeMarker_marks (sound : s.Sound) (crc : m.crcOk = true) (running : s.boot.waitingTwin = false) : ∃ t, exec (.timeMarker m) s = .next t ∧ Marked s t m ∧
    (s.peerMet = true → s.linkUp = true → s.tim.sources.length = 4 → (t.src 4).valid = true ∧ (t.src 4).lastSeen = s.tim.el) := by
  have idle (u : State) (h : Marked s u m) : u.twinTime.step11 = u := by
    have boot : u.boot.waitingTwin = false := (congrArg Boot.waitingTwin (h.frame .boot (by simp))).trans running
    rw [State.twinTime, if_neg (by simp [boot]), State.step11]
    split
    · rw [if_pos (by simp [boot])]
    · rfl
  obtain ⟨marked, sources⟩ := State.takeStep_marked (State.showMarker_noted sound m)
  have run : exec (.timeMarker m) s = .next (s.takeMarker m).twinTime.step11 := by
    rw [exec_timeMarker, execTimeMarker, if_pos crc]
  rw [State.takeMarker_eq] at run
  generalize ((s.noteMarker m).showMarker (decide ((markerOffset m).natAbs ≤ 1000))).takeStep m = u at *
  dsimp only at run
  split at run
  next met =>
    obtain ⟨measured, source⟩ := State.measured_marked marked sources rfl
    rw [idle _ measured] at run
    exact ⟨_, run, measured, fun _ _ => source⟩
  next apart =>
    rw [idle _ marked] at run
    refine ⟨_, run, marked, fun met up => absurd ?_ apart⟩
    rw [sources.met, sources.up, met, up]
    rfl

/-! A twin offset that stays large (R353). -/

theorem State.raise_reached (s : State) (c e : Nat) : ((s.reachEl e).raise c).Alarmed c ∧ ((s.reachEl e).raise c).tim.el = Nat.max s.tim.el e ∧
    AlarmsBut [c] s ((s.reachEl e).raise c) ∧ Frame [.alarms, .rcd, .tim, .elapsed, .working, .regs] s ((s.reachEl e).raise c) ∧
    (s.Sound → FieldsBut recFields s ((s.reachEl e).raise c)) := by
  have acts := State.raise_acts (s.reachEl e) c []
  have reached := s.reachEl_acts e
  refine ⟨(alarm_raise ..).trans (if_pos rfl), (congrArg Tim.el (acts.frame .tim rfl)).trans (State.reachEl_max s e),
    fun d hd => alarm_raise_other fun same => hd (by simp [same]), ?_, fun sound => ?_⟩
  · exact ((reached.mono (m := partMask [.alarms, .rcd, .tim, .elapsed, .working, .regs]) rfl).step acts rfl).framed
  · have first : Changes [.alarms, .rcd, .tim, .elapsed, .working, .regs] recFields [c] s (s.reachEl e) := (Changes.refl sound).acts reached
    exact (first.raise c [] (by simp) fun _ => id).fields

theorem execTwinOffsetAlarm_big (big : s.tim.twinBigSince = some e) (selected : s.selected = 4) : execTwinOffsetAlarm s = .next ((s.reachEl (e + sec)).raise 0x0208) := by
  rw [execTwinOffsetAlarm, big]
  exact congrArg _ (if_pos selected)

theorem exec_twinOffsetAlarm_raises (big : s.tim.twinBigSince = some e) (selected : s.selected = 4) : ∃ t, exec .twinOffsetAlarm s = .next t ∧ t.Alarmed 0x0208 ∧
    t.tim.el = Nat.max s.tim.el (e + sec) ∧ AlarmsBut [0x0208] s t ∧ Frame [.alarms, .rcd, .tim, .elapsed, .working, .regs] s t ∧ (s.Sound → FieldsBut recFields s t) := by
  rw [exec_twinOffsetAlarm, execTwinOffsetAlarm_big big selected]
  exact ⟨_, rfl, State.raise_reached s 0x0208 (e + sec)⟩

theorem State.announces_none (undecided : s.tim.stepAt = none) : s.announces = (0, 0) := by
  rw [State.announces, undecided]

theorem State.announces_lead (decided : s.tim.stepAt = some (a, none)) (lead : s.isLead = true) : s.announces = (evenStep (s.srcOfs s.selected), a / sec % 4294967296) := by
  rw [State.announces, decided]
  exact if_pos lead

end

/-- Settles O30. -/
theorem workingTimeStepsOnlyAsAnnounced : Obligations.WorkingTimeStepsOnlyAsAnnounced := by
  unfold Obligations.WorkingTimeStepsOnlyAsAnnounced
  refine ⟨?decides, fun s => exec_stepDecision_decided, ?steps, ?idle, fun k s => exec_holdErrPublish_publishes, ?quiet, ?marker, ?announced, fun s => exec_timeMarkerSend_down, ?wrong,
    ?marked, fun e s => exec_twinOffsetAlarm_raises⟩
  case decides =>
    intro e s sound big selected undecided
    obtain ⟨t, run, stepAt, el, pending, frame, fields⟩ := exec_stepDecision_decides sound big selected undecided
    exact ⟨t, run, stepAt, el, pending, frame, fields⟩
  case steps =>
    intro a x d s sound decided _ size
    obtain ⟨t, run, done⟩ := exec_timeStep_steps sound decided size
    obtain ⟨_, set, pending, low, count, event, alarmed, alarms⟩ := done.shown
    refine ⟨t, run, ?_, ?_, ?_, ?_, ?_, ?_, ?_, set, pending, low, count, event, alarmed, alarms, done.anchor, done.frame⟩
    all_goals first | rw [done.tim] | rw [done.dev]
    all_goals rfl
  case idle =>
    intro s undecided
    rw [exec_timeStep, execTimeStep, undecided]
  case quiet =>
    intro s off
    rw [exec_holdErrPublish, execHoldErrPublish, if_neg (by simp [off])]
  case marker =>
    intro l s up undecided lane
    have sends := s.sendMarker_sends ((s.tim.wt + ms - 1) / ms * ms)
    rw [s.announces_none undecided, ← lane] at sends
    have wt : (s.reach ((s.tim.wt + ms - 1) / ms * ms)).sendMarker.tim.wt = Nat.max s.tim.wt ((s.tim.wt + ms - 1) / ms * ms) := State.reach_max ..
    rw [exec_timeMarkerSend, execTimeMarkerSend_up up]
    refine ⟨_, rfl, ?_, ?_, ?_, sends, State.sendMarker_frame s _⟩
    all_goals rw [wt]
    · exact (next_ms s.tim.wt).1
    · exact (next_ms s.tim.wt).2.1
    · exact (next_ms s.tim.wt).2.2
  case announced =>
    intro a l s up lead decided lane
    have sends := s.sendMarker_sends ((s.tim.wt + ms - 1) / ms * ms)
    rw [s.announces_lead decided lead, ← lane] at sends
    rw [exec_timeMarkerSend, execTimeMarkerSend_up up]
    exact ⟨_, rfl, sends, State.sendMarker_frame s _⟩
  case wrong =>
    intro m s crc
    rw [exec_timeMarker, execTimeMarker, if_neg (by simp [crc])]
  case marked =>
    intro m s sound crc running
    obtain ⟨t, run, marked, source⟩ := exec_timeMarker_marks sound crc running
    exact ⟨t, run, marked.twinOffset, marked.rxMarker, marked.ok, marked.big, marked.small, marked.step, source, marked.wt, marked.frame⟩

end Sys2Proof.Machine

/-! Time sources: their offsets, their qualification and loss, and PTP (R340, R342, R344 to R348, R375). -/
namespace Sys2Proof.Machine
set_option Elab.async false

section
variable {s t u : State} {d p q n k : Nat} {i o a b x : Int}

/-! Signed registers. -/

theorem State.int_of_fld {f : Fld} (same : t.fld f = s.fld f) : t.int f = s.int f := by rw [State.int, State.int, same]

theorem State.int_setInt (sound : s.Sound) (c : Nat) (low : -2 ^ 31 ≤ x) (high : x < 2 ^ 31) : (s.setInt (word32 c) x).int (word32 c) = x := by
  have width : (word32 c).hi + 1 - (word32 c).lo = 32 := rfl
  have word : (s.setInt (word32 c) x).fld (word32 c) = (x % 2 ^ 32).toNat := by
    rw [State.setInt, fld_setFld sound _ _ rfl, width, intWord, BitVec.toNat_ofInt]
    push_cast
    omega
  simp only [State.int, width, word]
  split <;> omega

theorem clampI_range (x : Int) : -2 ^ 31 ≤ clampI (-2147483647) 2147483647 x ∧ clampI (-2147483647) 2147483647 x < 2 ^ 31 := by
  unfold clampI
  omega

/-! A measured offset (R344). -/

theorem getD_setNth_same {α : Type} (l : List α) (i : Nat) (f : α → α) (c : α) (hi : i < l.length) : (setNth l i f).getD i c = f (l.getD i c) := by
  simp [setNth, List.getD_eq_getElem?_getD, List.getElem?_eq_getElem hi]

/-- What a measured offset `x` of source `n` makes of `s`. -/
structure Measured (s t : State) (n : Nat) (x : Int) : Prop where
  sound : t.Sound
  offset : t.srcOfs n = clampI (-2147483647) 2147483647 x
  source : t.src n = (s.src n).measured s.tim.el
  wt : t.tim.wt = s.tim.wt
  ptp : t.tim.ptp = s.tim.ptp
  delay : ∀ d ≤ 1, t.reg (A_TSU_PTP_DELAY d) = s.reg (A_TSU_PTP_DELAY d)
  frame : Frame [.alarms, .rcd, .tim, .regs] s t

theorem ptpDelay_apart : ∀ n ≤ 3, ∀ d ≤ 1, ∀ f ∈ F_TSU_SRC_OFS_OFS n :: servoFields, f.apart (word32 (A_TSU_PTP_DELAY d)) := by
  unfold Fld.apart
  decide

theorem srcOfs_apart : ∀ n ≤ 3, ∀ f ∈ servoFields, f.apart (F_TSU_SRC_OFS_OFS n) := by
  unfold Fld.apart
  decide

theorem State.published_offset (sound : s.Sound) (n : Nat) (hn : n - 1 ≤ 3) (x : Int) : (s.published n x).srcOfs n = clampI (-2147483647) 2147483647 x := by
  have first : State.Sound ((s.setInt (F_TSU_SRC_OFS_OFS (n - 1)) (clampI (-2147483647) 2147483647 x)).setSrc n (fun c => c.measured s.tim.el)) :=
    ((State.setInt_acts ..).sound sound).of_eq rfl rfl rfl rfl rfl rfl rfl rfl rfl rfl rfl rfl rfl rfl
  have told : Changes [.alarms, .rcd, .regs] recFields [0x0201]
      ((s.setInt (F_TSU_SRC_OFS_OFS (n - 1)) (clampI (-2147483647) 2147483647 x)).setSrc n (fun c => c.measured s.tim.el)) (s.published n x) :=
    (Changes.refl first).causeGone _
  have same := told.fld (F_TSU_SRC_OFS_OFS (n - 1)) rfl fun f hf => srcOfs_apart _ hn f (by
    simp only [servoFields, reselectFields, List.mem_cons, List.mem_append]
    exact .inr (.inr hf))
  exact (State.int_of_fld same).trans (State.int_setInt sound (A_TSU_SRC_OFS (n - 1)) (clampI_range x).1 (clampI_range x).2)

theorem State.measureOffset_measured (sound : s.Sound) (hn : n - 1 ≤ 3) (there : n - 1 < s.tim.sources.length) (x : Int) : Measured s (s.measureOffset n x) n x := by
  have published := State.published_changes sound n x
  have change := State.measureOffset_changes published.sound
  have keeps := State.measureOffset_keeps s n x
  have tim := State.published_tim s n x
  have offset := State.published_offset sound n hn x
  generalize s.published n x = v at *
  generalize s.measureOffset n x = u at *
  refine ⟨change.sound, ?_, ?_, ?_, ?_, fun d hd => ?_, published.frame.trans change.frame⟩
  · exact (State.int_of_fld (change.fld (F_TSU_SRC_OFS_OFS (n - 1)) rfl (srcOfs_apart _ hn))).trans offset
  · rw [State.src, keeps.sources, tim]
    exact getD_setNth_same _ _ _ _ there
  · rw [keeps.wt, tim]
  · rw [keeps.ptp, tim]
  · have apart := ptpDelay_apart _ hn d hd
    have same := (change.fld (word32 (A_TSU_PTP_DELAY d)) rfl fun f hf => apart f (List.mem_cons_of_mem _ hf)).trans
      (published.fld (word32 (A_TSU_PTP_DELAY d)) rfl fun f hf => apart f (List.mem_cons.mpr ((List.mem_cons.mp hf).imp_right fun h =>
        List.mem_cons_of_mem _ (recFields_reselect f h))))
    rw [State.fld_word32, State.fld_word32] at same
    exact BitVec.eq_of_toNat_eq same

/-! A Sync that gives an offset (R344, R348). -/

/-- R348: the path delay of a kept exchange, as it is remembered and published. -/
def State.showDelay (s : State) (d : Nat) (b : Int) : State := (s.noteDelay d b).setReg (A_TSU_PTP_DELAY d) (intWord b)

theorem State.takeSync_kept (path : s.pathDelay d p o a = some b) (keeps : s.keepsExchange d b = true) :
    s.takeSync d p o a = (s.showDelay d b).measureOffset (d + 1) (o + b + s.asymmetry d p - a) := by
  rw [State.takeSync, path]
  exact if_pos keeps

theorem State.takeSync_discarded (path : s.pathDelay d p o a = some b) (discards : s.keepsExchange d b = false) : s.takeSync d p o a = s.noteDelay d b := by
  rw [State.takeSync, path]
  exact if_neg (by simp [discards])

/-- R348: the path delays of domain `d` with that of one more exchange. -/
def State.delaysWith (s : State) (d : Nat) (b : Int) : List Int :=
  (aget [] s.tim.ptp.delays d ++ [b]).drop ((aget [] s.tim.ptp.delays d).length + 1 - 16)

theorem State.noteDelay_delays (s : State) (d : Nat) (b : Int) : aget [] (s.noteDelay d b).tim.ptp.delays d = s.delaysWith d b := by
  have held : (s.noteDelay d b).tim.ptp.delays = aset s.tim.ptp.delays d (s.delaysWith d b) := rfl
  rw [aget_eq_afind, held, afind_aset_self]
  rfl

theorem State.delaysWith_last (s : State) (d : Nat) (b : Int) : (s.delaysWith d b).getLast? = some b := by
  rw [State.delaysWith, List.getLast?_drop, if_neg (by rw [List.length_append, List.length_singleton]; omega)]
  exact List.getLast?_concat

theorem State.delaysWith_length (s : State) (d : Nat) (b : Int) : (s.delaysWith d b).length ≤ 16 := by
  rw [State.delaysWith, List.length_drop, List.length_append, List.length_singleton]
  omega

/-- What a Sync leaves that gives the offset `x` of domain `d`'s source with path delay `b`. -/
structure Synced (s t : State) (d : Nat) (b x : Int) : Prop where
  offset : t.srcOfs (d + 1) = clampI (-2147483647) 2147483647 x
  source : t.src (d + 1) = (s.src (d + 1)).measured s.tim.el
  wt : t.tim.wt = s.tim.wt
  delay : t.reg (A_TSU_PTP_DELAY d) = intWord b
  delays : aget [] t.tim.ptp.delays d = s.delaysWith d b
  syncs : t.tim.ptp.syncs = s.tim.ptp.syncs
  frame : Frame [.alarms, .rcd, .tim, .regs] s t

theorem State.takeSync_synced (sound : s.Sound) (hd : d ≤ 1) (there : d < s.tim.sources.length) (path : s.pathDelay d p o a = some b)
    (keeps : s.keepsExchange d b = true) : Synced s (s.takeSync d p o a) d b (o + b + s.asymmetry d p - a) := by
  rw [State.takeSync_kept path keeps]
  have first : (s.noteDelay d b).Sound := sound.of_eq rfl rfl rfl rfl rfl rfl rfl rfl rfl rfl rfl rfl rfl rfl
  have measured := State.measureOffset_measured (s := s.showDelay d b) (n := d + 1) (first.setReg _ _) (by omega) there (o + b + s.asymmetry d p - a)
  have shown : (s.showDelay d b).reg (A_TSU_PTP_DELAY d) = intWord b := (reg_setReg first ..).trans (if_pos rfl)
  have frame : Frame [.alarms, .rcd, .tim, .regs] s (s.showDelay d b) := by intro p hp; cases p <;> first | rfl | simp at hp
  refine ⟨measured.offset, measured.source, measured.wt, (measured.delay d hd).trans shown, ?_, ?_, frame.trans measured.frame⟩
  all_goals rw [measured.ptp]
  · exact State.noteDelay_delays s d b
  · rfl

theorem execPtpSyncArrives_oneStep (accepts : s.ptpAccepts d p = true) (arrival : a = i - s.par 0x0B88 (2 * p)) :
    execPtpSyncArrives d p false q i o s = .next (s.takeSync d p o a) := by
  rw [execPtpSyncArrives, if_pos accepts, arrival]
  rfl

/-! A two-step Sync and its Follow_Up (R375). -/

/-- R375: the two-step Syncs that wait, without those of domain `d`. -/
def State.clearSyncs (s : State) (d : Nat) : State := s.setPtp (fun p => { p with syncs := p.syncs.filter (fun e => e.1 != d) })

theorem execPtpFollowUp_completes {e : Nat × Nat × Int} (accepts : s.ptpAccepts d p = true) (waits : s.tim.ptp.syncs.find? (fun e => e.1 = d && e.2.1 = q) = some e) :
    execPtpFollowUp d p q o s = .next ((s.clearSyncs d).takeSync d p o e.2.2) := by
  rw [execPtpFollowUp, waits]
  exact congrArg _ (if_pos accepts)

theorem exec_ptpFollowUp_offset {e : Nat × Nat × Int} (sound : s.Sound) (hd : d ≤ 1) (there : d < s.tim.sources.length) (accepts : s.ptpAccepts d p = true)
    (waits : s.tim.ptp.syncs.find? (fun e => e.1 = d && e.2.1 = q) = some e) (path : s.pathDelay d p o e.2.2 = some b) (keeps : s.keepsExchange d b = true) :
    ∃ t, exec (.ptpFollowUp d p q o) s = .next t ∧ t.srcOfs (d + 1) = clampI (-2147483647) 2147483647 (o + b + s.asymmetry d p - e.2.2) ∧
      (t.src (d + 1)).valid = true ∧ (t.src (d + 1)).lastSeen = s.tim.el ∧ (∀ x ∈ t.tim.ptp.syncs, x.1 ≠ d) ∧ Frame [.alarms, .rcd, .tim, .regs] s t := by
  have cleared : (s.clearSyncs d).Sound := sound.of_eq rfl rfl rfl rfl rfl rfl rfl rfl rfl rfl rfl rfl rfl rfl
  have synced := State.takeSync_synced (s := s.clearSyncs d) cleared hd there path keeps
  have frame : Frame [.alarms, .rcd, .tim, .regs] s (s.clearSyncs d) := by intro p hp; cases p <;> first | rfl | simp at hp
  rw [exec_ptpFollowUp, execPtpFollowUp_completes accepts waits]
  refine ⟨_, rfl, synced.offset, ?_, ?_, fun x hx => ?_, frame.trans synced.frame⟩
  · rw [synced.source]
    rfl
  · rw [synced.source]
    rfl
  · rw [synced.syncs] at hx
    simpa using (List.mem_filter.mp hx).2

/-! Delay responses (R348). -/

theorem exec_ptpDelayRespArrives_measures {y : Int} (asked : afind s.tim.ptp.request (4 * d + p) = some x) (may : (s.peerToPeer d || s.ptpAccepts d p) = true)
    (way : (if s.peerToPeer d then (i - s.par 0x0B88 (2 * p) - x - y) / 2 else y - x) = b) : ∃ t, exec (.ptpDelayRespArrives d p y i) s = .next t ∧
      afind t.tim.ptp.back (4 * d + p) = some b ∧ t.tim.ptp = { s.tim.ptp with back := t.tim.ptp.back, request := t.tim.ptp.request } ∧ t.tim.wt = s.tim.wt ∧ Frame [.tim] s t := by
  have run : exec (.ptpDelayRespArrives d p y i) s = .next (s.setPtp (fun h => { h with back := aset h.back (4 * d + p) b, request := adel h.request (4 * d + p) })) := by
    rw [exec_ptpDelayRespArrives, execPtpDelayRespArrives, asked, ← way]
    exact congrArg _ (if_pos may)
  exact ⟨_, run, afind_aset_self .., rfl, rfl, by intro p hp; cases p <;> first | rfl | simp at hp⟩

/-! Announces and the best master (R342, R344, R375). -/

/-- R375: the state once an Announce is held. -/
def State.heard (s : State) (m : Announce) : State := s.setPtp (fun p => p.hear s.tim.el m)

/-- R342: TSU_UTC from an Announce. -/
def announceUtc (a : Announce) : Word := BitVec.ofNat 32 (a.utcOffset % 65536 + 65536 + 131072 * bit a.leap61 + 262144 * bit a.leap59)

/-- R342, R375: the domain follows an Announce, before its timescale is judged. -/
def State.followed (s : State) (d : Nat) (a : Announce) : State :=
  { s with tim := { s.tim with ptp := { s.tim.ptp with slave := aset s.tim.ptp.slave d a.port, parent := aset s.tim.ptp.parent d a, arb := if a.ptpTimescale then remove s.tim.ptp.arb d else insertNew s.tim.ptp.arb d }, utcOf := aset s.tim.utcOf (d + 1) (announceUtc a) } }

theorem State.followMaster_follows {a : Announce} (follows : s.slaveOf d = some a) :
    s.followMaster d = (if !a.ptpTimescale && (s.src (d + 1)).valid then (s.followed d a).loseSource (d + 1) else s.followed d a).updateUtc := by
  rw [State.followMaster, follows]
  rfl

theorem execPtpAnnounce_hears {m : Announce} (enabled : s.par 0x0B81 m.domain ≠ 0xFFFF) (port : tbit (bits (s.ptpW m.domain 0) 6 4) m.port = true) :
    execPtpAnnounce m s = .next ((s.heard m).followMaster m.domain) := by
  rw [execPtpAnnounce, if_neg (by simp [enabled, port])]
  rfl

theorem State.updateUtc_acts' (s : State) : Acts (partMask [.regs]) s s.updateUtc := by
  unfold State.updateUtc
  split
  all_goals exact (Acts.refl s).step (State.setReg_acts ..) rfl

theorem State.updateUtc_fields (sound : s.Sound) : FieldsBut [word32 A_TSU_UTC] s s.updateUtc := by
  unfold State.updateUtc
  split
  all_goals exact (Changes.setReg (ps := [.regs]) (cs := []) (.refl sound) _ _).fields

theorem not_mem_remove (l : List Nat) (n : Nat) : n ∉ remove l n := by simp [remove]

theorem mem_insertNew_self (l : List Nat) (n : Nat) : n ∈ insertNew l n := mem_insertNew.mpr (.inr rfl)

/-! A source that is lost or qualified (R344, R345). -/

/-- R344, R345: a lost source before the selection. -/
def State.dropSource (s : State) (n : Nat) : State :=
  ((s.setSrc n (fun c => { c with valid := false })).setFlag (bitAt A_TSU_STATUS (8 + n)) false).raise 0x0201 (pay [n])

theorem State.loseSource_keeps (s : State) (n : Nat) : KeepsTime (s.dropSource n) (s.loseSource n) := (KeepsTime.refl _).reselect

/-- R344: a lost source, and what of time it leaves. -/
structure Dropped (s t : State) (n : Nat) : Prop where
  tim : t.tim = { s.tim with sources := setNth s.tim.sources (n - 1) (fun c => { c with valid := false }) }
  alarmed : t.Alarmed 0x0201
  frame : Frame [.alarms, .rcd, .tim, .regs] s t

theorem State.dropSource_drops (s : State) (n : Nat) : Dropped s (s.dropSource n) n := by
  have acts : Acts (partMask [.alarms, .rcd, .regs]) (s.setSrc n (fun c => { c with valid := false })) (s.dropSource n) :=
    ((Acts.refl _).step (State.setFlag_acts ..) rfl).step (State.raise_acts ..) rfl
  have frame : Frame [.alarms, .rcd, .tim, .regs] s (s.setSrc n (fun c => { c with valid := false })) := by intro p hp; cases p <;> first | rfl | simp at hp
  exact ⟨acts.frame .tim rfl, (alarm_raise ..).trans (if_pos rfl), frame.trans (acts.framed.mono (by simp))⟩

theorem Dropped.invalid (h : Dropped s t n) (there : n - 1 < s.tim.sources.length) : (t.src n).valid = false := by
  rw [State.src, h.tim]
  exact congrArg TimeSource.valid (getD_setNth_same _ _ _ _ there)

theorem qualified_apart : ∀ n ≤ 4, ∀ f ∈ reselectFields, f.apart (bitAt A_TSU_STATUS (8 + n)) := by
  unfold Fld.apart
  decide

theorem State.dropSource_changes (sound : s.Sound) (hn : n ≤ 4) : (s.dropSource n).Sound ∧ (s.dropSource n).qualified n = false := by
  have first : State.Sound (s.setSrc n (fun c => { c with valid := false })) := sound.of_eq rfl rfl rfl rfl rfl rfl rfl rfl rfl rfl rfl rfl rfl rfl
  have fits : (bitAt A_TSU_STATUS (8 + n)).fits = true := bitAt_fits (by omega)
  have second := first.setFlag (bitAt A_TSU_STATUS (8 + n)) false
  exact ⟨second.raise _ _, (flag_raise second _ _ _ (show A_TSU_STATUS ≠ _ by decide) (show A_TSU_STATUS ≠ _ by decide)).trans (flag_setFlag first _ _ fits)⟩

theorem State.loseSource_lost (sound : s.Sound) (hn : n ≤ 4) (there : n - 1 < s.tim.sources.length) :
    ((s.loseSource n).src n).valid = false ∧ (s.loseSource n).qualified n = false ∧ (s.loseSource n).Alarmed 0x0201 ∧ (s.loseSource n).tim.el = s.tim.el ∧
      Frame [.alarms, .rcd, .tim, .regs] s (s.loseSource n) := by
  have drops := s.dropSource_drops n
  obtain ⟨soundD, unqualified⟩ := State.dropSource_changes sound hn
  have keeps := s.loseSource_keeps n
  have selected : Reselects (s.dropSource n) (s.loseSource n) := State.reselect_changes soundD
  generalize s.dropSource n = u at *
  generalize s.loseSource n = v at *
  refine ⟨?_, ?_, keeps.alarmed _ (by decide) drops.alarmed, by rw [keeps.el, drops.tim], drops.frame.trans keeps.frame⟩
  · rw [State.src, keeps.sources]
    exact drops.invalid there
  · exact (selected.flag _ (bitAt_fits (by omega)) (qualified_apart n hn)).trans unqualified

theorem State.loseSource_reached (sound : s.Sound) (hn : n ≤ 4) (there : n - 1 < s.tim.sources.length) (e : Nat) :
    (((s.reachEl e).loseSource n).src n).valid = false ∧ ((s.reachEl e).loseSource n).qualified n = false ∧ ((s.reachEl e).loseSource n).Alarmed 0x0201 ∧
      ((s.reachEl e).loseSource n).tim.el = Nat.max s.tim.el e ∧ Frame [.alarms, .rcd, .tim, .elapsed, .working, .regs] s ((s.reachEl e).loseSource n) := by
  have acts := s.reachEl_acts e
  obtain ⟨invalid, unqualified, alarmed, el, frame⟩ := State.loseSource_lost (s := s.reachEl e) (acts.sound sound) hn there
  refine ⟨invalid, unqualified, alarmed, el.trans (State.reachEl_max s e), Frame.trans ?_ (frame.mono (by simp))⟩
  exact (acts.mono (m := partMask [.alarms, .rcd, .tim, .elapsed, .working, .regs]) rfl).framed

theorem execTimeSourceLost_valid (valid : (s.src n).valid = true) :
    execTimeSourceLost n s = .next ((s.reachEl ((s.src n).lastSeen + s.lossTime n)).loseSource n) := by
  rw [execTimeSourceLost, if_pos valid]

/-- R345: a source that has been valid for its time, before the selection. -/
def State.qualify (s : State) (n : Nat) : State := s.setFlag (bitAt A_TSU_STATUS (8 + n)) true

theorem State.qualify_reached (sound : s.Sound) (hn : n ≤ 4) (e : Nat) : (((s.reachEl e).qualify n).reselect).qualified n = true ∧
    e ≤ (((s.reachEl e).qualify n).reselect).tim.el ∧ (((s.reachEl e).qualify n).reselect).tim.sources = s.tim.sources ∧
      Frame [.alarms, .rcd, .tim, .elapsed, .working, .regs] s (((s.reachEl e).qualify n).reselect) := by
  have acts := s.reachEl_acts e
  have el : e ≤ (s.reachEl e).tim.el := by rw [State.reachEl_max]; exact Nat.le_max_right ..
  have sources : (s.reachEl e).tim.sources = s.tim.sources := rfl
  generalize s.reachEl e = u at *
  have fits : (bitAt A_TSU_STATUS (8 + n)).fits = true := bitAt_fits (by omega)
  have soundU := acts.sound sound
  have shown : Acts (partMask [.alarms, .rcd, .tim, .elapsed, .working, .regs]) s (u.qualify n) :=
    (acts.mono (m := partMask [.alarms, .rcd, .tim, .elapsed, .working, .regs]) rfl).step (State.setFlag_acts ..) rfl
  have keeps : KeepsTime (u.qualify n) (u.qualify n).reselect := (KeepsTime.refl _).reselect
  have selected := State.reselect_changes (soundU.setFlag (bitAt A_TSU_STATUS (8 + n)) true)
  refine ⟨?_, ?_, keeps.sources.trans sources, shown.framed.trans (keeps.frame.mono (by simp))⟩
  · exact (selected.flag _ fits (qualified_apart n hn)).trans (flag_setFlag soundU _ _ fits)
  · rw [keeps.el]
    exact el

theorem execSourceQualified_valid (valid : (s.src n).valid = true) :
    execSourceQualified n s = .next ((s.reachEl ((s.src n).validSince + s.par 0x0B83 * sec)).qualify n).reselect := by
  rw [execSourceQualified, if_pos valid]
  rfl

/-! What an Announce leaves (R342, R375). -/

theorem State.followed_afind (s : State) (d : Nat) (m : Announce) : afind (s.followed d m).tim.ptp.slave d = some m.port ∧
    afind (s.followed d m).tim.ptp.parent d = some m ∧ afind (s.followed d m).tim.utcOf (d + 1) = some (announceUtc m) :=
  ⟨afind_aset_self .., afind_aset_self .., afind_aset_self ..⟩

theorem State.followed_frame (s : State) (m c : Announce) : Frame [.tim] s ((s.heard m).followed d c) := by
  intro p hp
  cases p <;> first | rfl | simp at hp

theorem exec_ptpAnnounce_ptp {m c : Announce} (enabled : s.par 0x0B81 m.domain ≠ 0xFFFF) (port : tbit (bits (s.ptpW m.domain 0) 6 4) m.port = true)
    (follows : (s.heard m).slaveOf m.domain = some c) (ptpScale : c.ptpTimescale = true) :
    exec (.ptpAnnounce m) s = .next ((s.heard m).followed m.domain c).updateUtc ∧ m.domain ∉ ((s.heard m).followed m.domain c).tim.ptp.arb := by
  refine ⟨?_, ?_⟩
  · rw [exec_ptpAnnounce, execPtpAnnounce_hears enabled port, State.followMaster_follows follows, ptpScale]
    rfl
  · have arb : ((s.heard m).followed m.domain c).tim.ptp.arb = remove (s.heard m).tim.ptp.arb m.domain := if_pos ptpScale
    rw [arb]
    exact not_mem_remove _ _

theorem exec_ptpAnnounce_arb {m c : Announce} (enabled : s.par 0x0B81 m.domain ≠ 0xFFFF) (port : tbit (bits (s.ptpW m.domain 0) 6 4) m.port = true)
    (follows : (s.heard m).slaveOf m.domain = some c) (arbScale : c.ptpTimescale = false) (valid : (s.src (m.domain + 1)).valid = true) :
    exec (.ptpAnnounce m) s = .next (((s.heard m).followed m.domain c).loseSource (m.domain + 1)).updateUtc ∧ m.domain ∈ ((s.heard m).followed m.domain c).tim.ptp.arb := by
  refine ⟨?_, ?_⟩
  · have valid' : ((s.heard m).src (m.domain + 1)).valid = true := valid
    rw [exec_ptpAnnounce, execPtpAnnounce_hears enabled port, State.followMaster_follows follows, arbScale, valid']
    rfl
  · have arb : ((s.heard m).followed m.domain c).tim.ptp.arb = insertNew (s.heard m).tim.ptp.arb m.domain := if_neg (by simp [arbScale])
    rw [arb]
    exact mem_insertNew_self ..

theorem exec_ptpAnnounce_lost {m c : Announce} (there : m.domain < s.tim.sources.length) (enabled : s.par 0x0B81 m.domain ≠ 0xFFFF)
    (port : tbit (bits (s.ptpW m.domain 0) 6 4) m.port = true) (follows : (s.heard m).slaveOf m.domain = some c) (arbScale : c.ptpTimescale = false)
    (valid : (s.src (m.domain + 1)).valid = true) : ∃ t, exec (.ptpAnnounce m) s = .next t ∧ afind t.tim.ptp.slave m.domain = some c.port ∧ m.domain ∈ t.tim.ptp.arb ∧
      (t.src (m.domain + 1)).valid = false ∧ t.Alarmed 0x0201 ∧ Frame [.alarms, .rcd, .tim, .regs] s t := by
  obtain ⟨run, arb⟩ := exec_ptpAnnounce_arb enabled port follows arbScale valid
  have frame := State.followed_frame (d := m.domain) s m c
  have there' : m.domain < ((s.heard m).followed m.domain c).tim.sources.length := there
  obtain ⟨slave, -, -⟩ := (s.heard m).followed_afind m.domain c
  generalize (s.heard m).followed m.domain c = u at *
  have drops := u.dropSource_drops (m.domain + 1)
  have keeps := (u.loseSource_keeps (m.domain + 1)).updateUtc
  refine ⟨_, run, ?_, ?_, ?_, keeps.alarmed _ (by decide) drops.alarmed, (frame.mono (by simp)).trans (drops.frame.trans keeps.frame)⟩
  · rw [keeps.ptp, drops.tim]
    exact slave
  · rw [keeps.ptp, drops.tim]
    exact arb
  · rw [State.src, keeps.sources]
    exact drops.invalid there'

theorem exec_ptpAnnounce_none {m : Announce} (enabled : s.par 0x0B81 m.domain ≠ 0xFFFF) (port : tbit (bits (s.ptpW m.domain 0) 6 4) m.port = true)
    (free : (s.heard m).slaveOf m.domain = none) : ∃ t, exec (.ptpAnnounce m) s = .next t ∧ afind t.tim.ptp.slave m.domain = none ∧
      t.tim.sources = s.tim.sources ∧ t.tim.wt = s.tim.wt ∧ Frame [.tim] s t := by
  have run : exec (.ptpAnnounce m) s = .next ((s.heard m).setPtp (fun h => { h with slave := adel h.slave m.domain, parent := adel h.parent m.domain })) := by
    rw [exec_ptpAnnounce, execPtpAnnounce_hears enabled port, State.followMaster, free]
  exact ⟨_, run, afind_adel_self .., rfl, rfl, by intro p hp; cases p <;> first | rfl | simp at hp⟩

/-! PTP messages that leave (R375, R376). -/

/-- R375: message `key` leaves now. -/
def State.stampPtp (s : State) (key : Nat) : State := { s with tim := { s.tim with ptp := { s.tim.ptp with sentAt := aset s.tim.ptp.sentAt key s.tim.el } } }

/-- R375: time moves on to the end of the interval since the last message of its kind. -/
def State.ptpDue (s : State) (key interval : Nat) : State :=
  match afind s.tim.ptp.sentAt key with
  | some e => s.reachEl (e + interval)
  | none => s

theorem execPtpMessageSend_may (may : s.ptpMay d p k = true) :
    execPtpMessageSend d p k s = .next (((s.ptpDue (16 * d + 4 * p + k) (s.ptpInterval d k)).stampPtp (16 * d + 4 * p + k)).ptpEmit d p k) := by
  rw [execPtpMessageSend, if_neg (by simp [may])]
  rfl

/-- R373, R375: PTP message `data` of port `p`, once all else of it is done. -/
def State.ptpOut (s : State) (p : Nat) (data : List Int) : State := s.ethSend p .ptp data

theorem State.ptpOut_on (on : s.ethOn p = true) (calm : s.net.batching = false) (data : List Int) : s.Sends (s.ptpOut p data) [s.ethSays p .ptp data] := by
  rw [State.ptpOut, State.ethSend_now on calm]
  exact State.frameOut_out ..

theorem State.ptpOut_off (off : s.ethOn p = false) (data : List Int) : s.ptpOut p data = s := by
  rw [State.ptpOut, State.ethSend, if_neg (by simp [off])]

theorem State.ptpOut_frame (calm : s.net.batching = false) (p : Nat) (data : List Int) : Frame [.regs, .out] s (s.ptpOut p data) := by
  by_cases on : s.ethOn p = true
  · rw [State.ptpOut, State.ethSend_now on calm]
    exact (State.frameOut_acts' ..).framed
  · rw [State.ptpOut_off (by simpa using on)]
    exact Frame.refl _ s

/-- R375, R376: what PTP message `k` of a domain carries. -/
def State.ptpData (s : State) (d p k : Nat) : List Int :=
  if k = 0 then [(d : Int), 0, (bits (s.ptpW d 0) 2 2 : Nat), (s.tim.wt : Int) + s.par 0x0B88 (2 * p + 1)]
  else if k = 1 then [(d : Int), 1] ++ (match afind s.tim.ptp.parent d with
    | some m => clockData m.gm (m.steps + 1)
    | none => clockData (s.ownClock d) 0 ++ [if s.selected = 3 && s.flag F_TSU_STATUS_LOCKED then 0x20 else 0xA0])
  else [(d : Int), 2, (s.tim.wt : Int) + s.par 0x0B88 (2 * p + 1)]

/-- R348: the stamp of a delay request is kept. -/
def State.ptpAsk (s : State) (d p k : Nat) : State :=
  if k = 0 ∨ k = 1 then s
  else { s with tim := { s.tim with ptp := { s.tim.ptp with request := aset s.tim.ptp.request (4 * d + p) ((s.tim.wt : Int) + s.par 0x0B88 (2 * p + 1)) } } }

theorem State.ptpEmit_eq (s : State) (d p k : Nat) : s.ptpEmit d p k = (s.ptpAsk d p k).ptpOut p (s.ptpData d p k) := by
  unfold State.ptpEmit State.ptpAsk State.ptpData
  by_cases sync : k = 0
  · rw [if_pos sync, if_pos sync, if_pos (show k = 0 ∨ k = 1 from .inl sync)]
    rfl
  by_cases announce : k = 1
  · rw [if_neg sync, if_neg sync, if_pos announce, if_pos announce, if_pos (show k = 0 ∨ k = 1 from .inr announce)]
    rfl
  · rw [if_neg sync, if_neg sync, if_neg announce, if_neg announce, if_neg (by simp [sync, announce])]
    rfl

/-- R375: a message as it is stamped: only time and PTP's own instants move. -/
theorem State.stampPtp_tim (s : State) (key interval : Nat) : ∃ T : Tim, (s.ptpDue key interval).stampPtp key = { s with tim := T } ∧
    afind T.ptp.sentAt key = some T.el ∧ (∀ e, afind s.tim.ptp.sentAt key = some e → T.el = Nat.max s.tim.el (e + interval)) ∧ T.ptp.parent = s.tim.ptp.parent := by
  rw [State.ptpDue]
  split
  next e at_ =>
    refine ⟨((s.reachEl (e + interval)).stampPtp key).tim, rfl, afind_aset_self .., fun f same => ?_, rfl⟩
    cases at_.symm.trans same
    exact State.reachEl_max ..
  next fresh =>
    exact ⟨(s.stampPtp key).tim, rfl, afind_aset_self .., fun e same => (by cases fresh.symm.trans same), rfl⟩

/-- What a PTP message leaves once it is stamped. -/
structure PtpSent (s t : State) (d p k : Nat) : Prop where
  el : t.tim.el = s.tim.el
  wt : t.tim.wt = s.tim.wt
  sentAt : t.tim.ptp.sentAt = s.tim.ptp.sentAt
  request : k = 2 → afind t.tim.ptp.request (4 * d + p) = some ((s.tim.wt : Int) + s.par 0x0B88 (2 * p + 1))
  sends : s.ethOn p = true → s.Sends t [s.ethSays p .ptp (s.ptpData d p k)]
  still : s.ethOn p = false → t.out = s.out
  frame : Frame [.tim, .regs, .out] s t

theorem State.ptpAsk_asks (s : State) (d p k : Nat) : PtpSent s ((s.ptpAsk d p k).ptpOut p (s.ptpData d p k)) d p k ∨ s.net.batching = true := by
  by_cases calm : s.net.batching = true
  · exact .inr calm
  left
  have asked : (s.ptpAsk d p k).net.batching = false ∧ (s.ptpAsk d p k).ethOn p = s.ethOn p ∧ (s.ptpAsk d p k).tim.el = s.tim.el ∧ (s.ptpAsk d p k).tim.wt = s.tim.wt ∧
      (s.ptpAsk d p k).tim.ptp.sentAt = s.tim.ptp.sentAt ∧ (s.ptpAsk d p k).out = s.out ∧ (∀ data, (s.ptpAsk d p k).ethSays p .ptp data = s.ethSays p .ptp data) ∧
      Frame [.tim] s (s.ptpAsk d p k) := by
    unfold State.ptpAsk
    split
    · exact ⟨by simpa using calm, rfl, rfl, rfl, rfl, rfl, fun _ => rfl, Frame.refl _ s⟩
    · exact ⟨by simpa using calm, rfl, rfl, rfl, rfl, rfl, fun _ => rfl, by intro p hp; cases p <;> first | rfl | simp at hp⟩
  have request (two : k = 2) : afind (s.ptpAsk d p k).tim.ptp.request (4 * d + p) = some ((s.tim.wt : Int) + s.par 0x0B88 (2 * p + 1)) := by
    rw [State.ptpAsk, if_neg (by omega)]
    exact afind_aset_self ..
  generalize carried : s.ptpData d p k = data
  generalize s.ptpAsk d p k = v at *
  obtain ⟨calmV, on, el, wt, sentAt, out, told, frame⟩ := asked
  have left := State.ptpOut_frame calmV p data
  have tim : (v.ptpOut p data).tim = v.tim := left .tim (by simp)
  refine ⟨by rw [tim, el], by rw [tim, wt], by rw [tim, sentAt], fun two => by rw [tim, request two], fun up => ?_, fun down => ?_, (frame.mono (by simp)).trans (left.mono (by simp))⟩
  · have sends := State.ptpOut_on (on.trans up) calmV data
    rw [State.Sends, told, out, ← carried] at sends
    rw [← carried]
    exact sends
  · rw [State.ptpOut_off (on.trans down), out]

theorem exec_ptpMessageSend_sends (may : s.ptpMay d p k = true) (calm : s.net.batching = false) : ∃ T t, exec (.ptpMessageSend d p k) s = .next t ∧
    afind T.ptp.sentAt (16 * d + 4 * p + k) = some T.el ∧ (∀ e, afind s.tim.ptp.sentAt (16 * d + 4 * p + k) = some e → T.el = Nat.max s.tim.el (e + s.ptpInterval d k)) ∧
      T.ptp.parent = s.tim.ptp.parent ∧ PtpSent { s with tim := T } t d p k := by
  obtain ⟨T, stamped, at_, el, parent⟩ := s.stampPtp_tim (16 * d + 4 * p + k) (s.ptpInterval d k)
  rw [exec_ptpMessageSend, execPtpMessageSend_may may, stamped, State.ptpEmit_eq]
  refine ⟨T, _, rfl, at_, el, parent, ?_⟩
  rcases State.ptpAsk_asks { s with tim := T } d p k with sent | busy
  · exact sent
  · exact Bool.noConfusion (calm.symm.trans busy)

end

/-- Settles O29. -/
theorem timeSourcesAreMeasuredQualifiedAndLost : Obligations.TimeSourcesAreMeasuredQualifiedAndLost := by
  unfold Obligations.TimeSourcesAreMeasuredQualifiedAndLost
  refine ⟨?ext, ?oneStep, ?twoStep, ?other, ?discarded, fun d p q o b e s sound hd there accepts waits path keeps => exec_ptpFollowUp_offset sound hd there accepts waits path keeps,
    ?back, ?peer, ?unasked, ?closed, ?follows, ?arb, ?free, ?sends, ?mayNot, ?lost, ?qualified, ?invalid⟩
  case ext =>
    intro s sound
    have change : Changes [.regs] [word32 A_TSU_EXT] [] s s.writeExt := (Changes.refl sound).setReg _ _
    have word : s.writeExt.reg A_TSU_EXT = BitVec.ofNat 32 (s.tim.wt / 4294967296 * 2 + s.tim.wt / 2147483648 % 2) := (reg_setReg sound ..).trans (if_pos rfl)
    refine ⟨_, rfl, ?_, ?_, change.frame, change.fields⟩
    all_goals
      show fieldOf (s.writeExt.reg A_TSU_EXT) _ = _
      rw [word]
      simp only [fieldOf, F_TSU_EXT_WRAP, F_TSU_EXT_HALF, BitVec.toNat_ofNat]
      omega
  case oneStep =>
    intro d p q i o a b s sound hd there accepts arrival path keeps
    have synced := State.takeSync_synced sound hd there path keeps
    rw [exec_ptpSyncArrives, execPtpSyncArrives_oneStep accepts arrival]
    refine ⟨_, rfl, synced.offset, ?_, ?_, ?_, synced.wt, synced.delay, ?_, fun _ => ?_, synced.frame⟩
    all_goals first | rw [synced.source] | rw [synced.delays]
    · rfl
    · rfl
    · rfl
    · exact s.delaysWith_last d b
    · exact s.delaysWith_length d b
  case twoStep =>
    intro d p q i o s accepts
    have run : exec (.ptpSyncArrives d p true q i o) s = .next (s.setPtp (fun h => { h with syncs := h.syncs.filter (fun e => e.1 != d) ++ [(d, q, i - s.par 0x0B88 (2 * p))] })) := by
      rw [exec_ptpSyncArrives, execPtpSyncArrives, if_pos accepts]
      rfl
    refine ⟨_, run, List.mem_append_right _ List.mem_cons_self, fun e he same => ?_, rfl, rfl, by intro p hp; cases p <;> first | rfl | simp at hp⟩
    rcases List.mem_append.mp he with old | new
    · exact absurd same (by simpa using (List.mem_filter.mp old).2)
    · exact List.mem_singleton.mp new
  case other =>
    intro d p q b i o s refuses
    rw [exec_ptpSyncArrives, execPtpSyncArrives, if_neg (by simp [refuses])]
  case discarded =>
    intro d p q i o a b s accepts arrival path discards
    rw [exec_ptpSyncArrives, execPtpSyncArrives_oneStep accepts arrival, State.takeSync_discarded path discards]
    exact ⟨_, rfl, rfl, rfl, rfl, by intro p hp; cases p <;> first | rfl | simp at hp⟩
  case back =>
    intro d p y i q s asked end_ accepts
    exact exec_ptpDelayRespArrives_measures asked (by simp [accepts]) (if_neg (by simp [end_]))
  case peer =>
    intro d p y i q s asked peer
    exact exec_ptpDelayRespArrives_measures asked (by simp [peer]) (if_pos peer)
  case unasked =>
    intro d p y i s unasked
    rw [exec_ptpDelayRespArrives, execPtpDelayRespArrives, unasked]
  case closed =>
    intro m s closed
    rw [exec_ptpAnnounce, execPtpAnnounce, if_pos (by simpa using closed)]
  case follows =>
    intro m a s enabled port follows scale
    obtain ⟨run, arb⟩ := exec_ptpAnnounce_ptp enabled port follows scale
    obtain ⟨slave, parent, utc⟩ := (s.heard m).followed_afind m.domain a
    have frame := State.followed_frame (d := m.domain) s m a
    have sound (h : s.Sound) : State.Sound ((s.heard m).followed m.domain a) := h.of_eq rfl rfl rfl rfl rfl rfl rfl rfl rfl rfl rfl rfl rfl rfl
    have regs : ((s.heard m).followed m.domain a).regs = s.regs := rfl
    generalize (s.heard m).followed m.domain a = u at *
    have acts := u.updateUtc_acts'
    have tim : u.updateUtc.tim = u.tim := acts.frame .tim rfl
    refine ⟨_, run, by rw [tim, slave], by rw [tim]; exact arb, by rw [tim, parent], by rw [tim, utc]; rfl, (frame.mono (by simp)).trans (acts.framed.mono (by simp)), fun h f fits apart => ?_⟩
    exact ((State.updateUtc_fields (sound h)) f fits apart).trans (State.fld_of_regs regs f)
  case arb =>
    intro m a s _ there enabled port follows scale valid
    exact exec_ptpAnnounce_lost there enabled port follows scale valid
  case free =>
    intro m s enabled port free
    exact exec_ptpAnnounce_none enabled port free
  case sends =>
    intro d p k s may calm
    obtain ⟨T, t, run, at_, el, parent, sent⟩ := exec_ptpMessageSend_sends may calm
    have frame : Frame [.tim, .elapsed, .working, .regs, .out] s { s with tim := T } := by intro p hp; cases p <;> first | rfl | simp at hp
    refine ⟨t, run, ?_, fun e same => ?_, fun on sync => ?_, fun on announce alone => ?_, fun m on announce master => ?_, fun ask => ?_, sent.still, frame.trans (sent.frame.mono (by simp))⟩
    · rw [sent.sentAt, sent.el]
      exact at_
    · rw [sent.el]
      exact el e same
    · have sends := sent.sends on
      rw [State.ptpData, if_pos sync] at sends
      rw [sent.wt]
      exact sends
    · have sends := sent.sends on
      rw [State.ptpData, if_neg (by omega), if_pos announce, show afind T.ptp.parent d = none by rw [parent, alone]] at sends
      exact sends
    · have sends := sent.sends on
      rw [State.ptpData, if_neg (by omega), if_pos announce, show afind T.ptp.parent d = some m by rw [parent, master]] at sends
      exact sends
    · rw [sent.wt]
      exact sent.request ask
  case mayNot =>
    intro d p k s mayNot
    rw [exec_ptpMessageSend, execPtpMessageSend, if_pos (by simp [mayNot])]
  case lost =>
    intro n s sound _ hn four valid
    rw [exec_timeSourceLost, execTimeSourceLost_valid valid]
    exact ⟨_, rfl, State.loseSource_reached sound hn (by omega) _⟩
  case qualified =>
    intro n s sound _ hn valid
    rw [exec_sourceQualified, execSourceQualified_valid valid]
    exact ⟨_, rfl, State.qualify_reached sound hn _⟩
  case invalid =>
    intro n s invalid
    rw [exec_timeSourceLost, execTimeSourceLost, exec_sourceQualified, execSourceQualified, if_neg (by simp [invalid]), if_neg (by simp [invalid])]
    exact ⟨rfl, rfl⟩

end Sys2Proof.Machine

/-! The lease: renewals, their acknowledgement, the end of the lease, silent loss and a release of the Ladle (R71, R73, R289, R291 to R294). -/
namespace Sys2Proof.Machine
set_option Elab.async false

section
variable {s t u : State} {p : Path} {e n a b v : Nat} {g : TwinHeader}

/-! A renewal or an acknowledgement that is heard (R272, R291). -/

/-- R272, R291: the device once what is heard on a path has been taken from it. -/
def State.tookVia (s : State) (p : Path) : State := s.withLink (s.linkVia p)

theorem State.onPath_heard (hears : s.hearsOn p = true) (f : State → State) (quiet : (f (s.tookVia p)).twn.link.queue = []) :
    s.onPath p f = f (s.tookVia p) := by
  cases p with
  | twin h =>
    have takes : s.takesFrame 3 h = true := (Bool.and_eq_true_iff.mp hears).1
    exact (State.onFrame_takes takes f).trans (State.twinPush_idle quiet)
  | lanA => rfl
  | lanB => rfl

theorem State.onPath_heard_push (hears : s.hearsOn p = true) (f : State → State) :
    s.onPath p f = f (s.tookVia p) ∨ s.onPath p f = (f (s.tookVia p)).twinPush := by
  cases p with
  | twin h => exact .inr (State.onFrame_takes (Bool.and_eq_true_iff.mp hears).1 f)
  | lanA => exact .inl rfl
  | lanB => exact .inl rfl

theorem State.tookVia_queue (hears : s.hearsOn p = true) (path : ∃ h, p = .twin h) : (s.tookVia p).twn.link.queue = [] := by
  obtain ⟨h, rfl⟩ := path
  exact List.isEmpty_iff.mp (Bool.and_eq_true_iff.mp hears).2

/-- R291: on a path whose frame changes nothing more, nothing more happens. -/
theorem State.onPath_still (hears : s.hearsOn p = true) (f : State → State) (link : (f (s.tookVia p)).twn.link = s.linkVia p) : s.onPath p f = f (s.tookVia p) := by
  cases p with
  | twin h => exact State.onPath_heard hears f (by rw [link]; exact State.tookVia_queue hears ⟨h, rfl⟩)
  | lanA => rfl
  | lanB => rfl

theorem State.reach_hearsOn (s : State) (a : Nat) (p : Path) : (s.reach a).hearsOn p = s.hearsOn p := by cases p <;> rfl

theorem State.tookVia_acts (s : State) (p : Path) : Acts (partMask [.twn]) s (s.tookVia p) := State.withLink_acts ..

theorem State.heardAt_acts (s : State) (a : Nat) (p : Path) : Acts (partMask [.tim, .elapsed, .working, .twn]) s ((s.reach a).tookVia p) :=
  ((State.reach_acts s a).mono rfl).step (State.tookVia_acts ..) rfl

/-! Renewals that leave (R291, R292). -/

theorem State.paired_of_pat (pat : t.pat = s.pat) : t.paired = s.paired := by rw [State.paired, State.paired, State.par, State.par, State.parW_of_pat pat]

theorem next_renewInstant (w : Nat) : w ≤ renewInstant w ∧ renewInstant w % (20 * ms) = 18 * ms ∧ renewInstant w < w + 20 * ms := by
  unfold renewInstant
  rw [show ms = 1000000 from rfl]
  omega

theorem State.reach_renewInstant (s : State) : (s.reach (renewInstant s.tim.wt)).tim.wt = renewInstant s.tim.wt :=
  (State.reach_max ..).trans (Nat.max_eq_right (next_renewInstant s.tim.wt).1)

/-- R291: the device as it is about to send a renewal. -/
def State.renewing (s : State) : State :=
  let u := s.judgeLan s.twn.ackTwin s.twn.ackLan
  { u with twn := { u.twn with renewSentAt := some u.tim.wt, ackTwin := false, ackLan := false } }

/-- R291, R330: the renewal on the LANs. -/
def State.renewLan (s : State) : State :=
  (s.lanSend .renew ((s.safeFrame 1 0xFFFF (renewBytes s.twn.ladleEp (sideCode s.pins.side) s.tim.wt)).map (fun b => (b.toNat : Int)))).nextSafe 1

/-- R291: the renewal on the twin link. -/
def State.renewTwin (s : State) : State :=
  if s.peerMet then s.twinSend 3 .renew [(s.twn.ladleEp : Int), (sideCode s.pins.side : Int), (s.tim.wt : Int)] else s

/-- R291, R304: the renewal on every path that a device has. -/
def State.renewOut (s : State) : State := if !s.paired then s else if s.par 0x0906 = 1 then s.renewTwin.renewLan else s.renewTwin

/-- R292: the renewal of a device without a partner counts. -/
def State.renewAlone (s : State) : State := if s.partnerAbsent then s.countRenewal else s

theorem execRenewSend_may (may : s.mayRenew = true) : execRenewSend s = .next (s.reach (renewInstant s.tim.wt)).renewing.renewOut.renewAlone := by
  rw [execRenewSend, if_neg (by simp [may])]
  generalize s.reach (renewInstant s.tim.wt) = t
  rfl

/-- What a device that is about to send a renewal has noted. -/
structure Renewing (s t : State) : Prop where
  sound : s.Sound → t.Sound
  twn : t.twn = { s.twn with renewSentAt := some s.tim.wt, ackTwin := false, ackLan := false }
  up : s.Sound → t.linkUp = s.linkUp
  met : s.Sound → t.peerMet = s.peerMet
  frame : Frame [.alarms, .rcd, .twn, .regs] s t

theorem State.judgeLan_changes (sound : s.Sound) (twin lan : Bool) :
    Changes [.alarms, .rcd, .regs] (F_TWN_EVENT_LAN_ONLY :: recFields) [0x040E] s (s.judgeLan twin lan) := by
  unfold State.judgeLan
  exact .ite (fun _ => ((Changes.refl sound).event F_TWN_EVENT_LAN_ONLY).raise _ _) fun _ => .refl sound

theorem State.renewing_notes (s : State) : Renewing s s.renewing := by
  have acts := State.judgeLan_acts s s.twn.ackTwin s.twn.ackLan
  have twn : s.renewing.twn = { s.twn with renewSentAt := some s.tim.wt, ackTwin := false, ackLan := false } := by
    show ({ (s.judgeLan s.twn.ackTwin s.twn.ackLan).twn with renewSentAt := some (s.judgeLan s.twn.ackTwin s.twn.ackLan).tim.wt, ackTwin := false, ackLan := false } : Twn) = _
    rw [show (s.judgeLan s.twn.ackTwin s.twn.ackLan).twn = s.twn from acts.frame .twn rfl, show (s.judgeLan s.twn.ackTwin s.twn.ackLan).tim = s.tim from acts.frame .tim rfl]
  have noted : Acts (partMask [.twn]) (s.judgeLan s.twn.ackTwin s.twn.ackLan) s.renewing := Acts.upd_twn (m := partMask [.twn]) (.refl _) rfl (.inr rfl)
  refine ⟨fun sound => noted.sound (acts.sound sound), twn, fun sound => ?_, fun sound => (State.judgeLan_changes sound _ _).flag F_TWN_STATUS_PEER_MET,
    (acts.mono (m := partMask [.alarms, .rcd, .twn, .regs]) rfl).framed.trans (noted.framed.mono (by simp))⟩
  exact congrArg (· != 0) ((State.judgeLan_changes sound s.twn.ackTwin s.twn.ackLan).fld F_TWN_STATUS_LANES)

theorem State.renewLan_acts (s : State) : Acts (partMask [.saf, .net, .regs, .out]) s s.renewLan := by
  unfold State.renewLan
  exact ((Acts.refl s).step (State.lanSend_acts ..) rfl).step (State.nextSafe_acts ..) rfl

theorem State.renewTwin_acts (s : State) : Acts (partMask [.twn, .out]) s s.renewTwin := by
  unfold State.renewTwin
  exact .ite (fun _ => (Acts.refl s).step (State.twinSend_acts ..) rfl) fun _ => .refl s

/-! What a frame on the LANs leaves (R366, R370). -/

/-- The counter that a frame on a LAN moves. -/
def lanFields : List Fld := [F_ETH_P_TX_OK_COUNT 0, F_ETH_P_TX_OK_COUNT 1]

theorem State.ethSend_lan (sound : s.Sound) (q : Nat) (lan : q ≤ 1) (k : MsgKind) (data : List Int) :
    Changes [.net, .regs, .out] lanFields [] s (s.ethSend q k data) ∧ ∃ l, (s.ethSend q k data).out = s.out ++ l := by
  have field : F_ETH_P_TX_OK_COUNT q ∈ lanFields := by
    match q, lan with
    | 0, _ => simp [lanFields]
    | 1, _ => simp [lanFields]
  unfold State.ethSend
  split
  · split
    · exact ⟨(Changes.refl sound).upd _, [], (List.append_nil _).symm⟩
    · exact ⟨((Changes.refl sound).bump (F_ETH_P_TX_OK_COUNT q) 1 rfl field).upd _, _, rfl⟩
  · exact ⟨.refl sound, [], (List.append_nil _).symm⟩

theorem State.renewLan_lan (sound : s.Sound) : Changes [.saf, .net, .regs, .out] lanFields [] s s.renewLan ∧ (∃ l, s.renewLan.out = s.out ++ l) ∧
    s.renewLan.saf.leaseFrom = s.saf.leaseFrom := by
  unfold State.renewLan
  generalize (s.safeFrame 1 0xFFFF (renewBytes s.twn.ladleEp (sideCode s.pins.side) s.tim.wt)).map (fun b => (b.toNat : Int)) = data
  obtain ⟨first, l, out⟩ := State.ethSend_lan sound 0 (by decide) .renew data
  obtain ⟨second, k, out'⟩ := State.ethSend_lan first.sound 1 (by decide) .renew data
  have both : Changes [.saf, .net, .regs, .out] lanFields [] s (s.lanSend .renew data) :=
    (first.mono (hf := fun _ h => h)).trans (second.mono (hf := fun _ h => h))
  refine ⟨both.upd _, ⟨l ++ k, ?_⟩, ?_⟩
  · exact out'.trans (by rw [out, List.append_assoc])
  · have kept : (s.lanSend .renew data).saf = s.saf := (second.frame .saf (by simp)).trans (first.frame .saf (by simp))
    show (s.lanSend .renew data).saf.leaseFrom = _
    rw [kept]

/-- What a renewal leaves once it has been sent. -/
structure RenewedOut (s t : State) : Prop where
  sound : t.Sound
  twn : SameTwin s t
  lease : t.saf.leaseFrom = s.saf.leaseFrom
  absent : t.partnerAbsent = s.partnerAbsent
  tim : t.tim = s.tim
  alone : s.paired = false → t.out = s.out
  sends : s.paired = true → s.peerMet = true → s.roomFor 3 .renew [(s.twn.ladleEp : Int), (sideCode s.pins.side : Int), (s.tim.wt : Int)] = true →
    t.twinSays 3 (aget 0 s.twn.link.txSeq 3) .renew [(s.twn.ladleEp : Int), (sideCode s.pins.side : Int), (s.tim.wt : Int)] ∈ t.out
  frame : Frame [.twn, .saf, .net, .regs, .out] s t

theorem RenewedOut.refl (sound : s.Sound) (alone : s.paired = false) : RenewedOut s s :=
  ⟨sound, .refl s, rfl, rfl, rfl, fun _ => rfl, fun paired => Bool.noConfusion (alone.symm.trans paired), Frame.refl _ s⟩

theorem State.renewTwin_out (sound : s.Sound) (paired : s.paired = true) : RenewedOut s s.renewTwin := by
  have acts := s.renewTwin_acts
  have twn : SameTwin s s.renewTwin := by
    unfold State.renewTwin
    split
    · exact State.twinSend_same ..
    · exact .refl s
  have met : s.renewTwin.peerMet = s.peerMet := State.flag_of_regs (acts.frame .regs rfl) _
  refine ⟨acts.sound sound, twn, congrArg Saf.leaseFrom (acts.frame .saf rfl), ?_, acts.frame .tim rfl, fun alone => Bool.noConfusion (paired.symm.trans alone), fun _ met room => ?_,
    acts.framed.mono (by simp)⟩
  · obtain ⟨l, same⟩ := twn
    unfold State.partnerAbsent
    rw [met, same, State.paired_of_pat (acts.frame .pat rfl)]
  · obtain ⟨sends, -, texts⟩ := State.twinSend_says room (by decide)
    rw [State.renewTwin, if_pos met, texts, sends]
    exact List.mem_append_right _ List.mem_cons_self

theorem RenewedOut.lan (h : RenewedOut s t) (paired : s.paired = true) : RenewedOut s t.renewLan := by
  obtain ⟨change, ⟨l, out⟩, lease⟩ := State.renewLan_lan h.sound
  have twn : t.renewLan.twn = t.twn := change.frame .twn (by simp)
  have link (w q : Nat) (k : MsgKind) (d : List Int) : t.renewLan.twinSays w q k d = t.twinSays w q k d := by rw [State.twinSays, State.twinSays, twn]
  refine ⟨change.sound, ?_, lease.trans h.lease, ?_, (change.frame .tim (by simp)).trans h.tim, fun alone => Bool.noConfusion (paired.symm.trans alone), fun pair met room => ?_,
    h.frame.trans (change.frame.mono (by simp))⟩
  · obtain ⟨k, same⟩ := h.twn
    exact ⟨k, twn.trans same⟩
  · have met : t.renewLan.peerMet = t.peerMet := change.flag F_TWN_STATUS_PEER_MET
    rw [← h.absent]
    unfold State.partnerAbsent
    rw [met, twn, State.paired_of_pat (change.frame .pat (by simp))]
  · rw [link, out]
    exact List.mem_append_left _ (h.sends pair met room)

theorem State.renewOut_out (sound : s.Sound) : RenewedOut s s.renewOut := by
  unfold State.renewOut
  by_cases paired : s.paired = true
  · rw [if_neg (by simp [paired])]
    have twin := State.renewTwin_out sound paired
    split
    · exact twin.lan paired
    · exact twin
  · rw [if_pos (by simpa using paired)]
    exact .refl sound (by simpa using paired)

theorem State.roomFor_of_link (link : t.twn.link = s.twn.link) (up : t.linkUp = s.linkUp) (k : MsgKind) (data : List Int) : t.roomFor v k data = s.roomFor v k data := by
  rw [State.roomFor, State.roomFor, link, up]

/-- What a renewal at the working time of `s` leaves. -/
structure Renewed (s t : State) : Prop where
  sentAt : t.twn.renewSentAt = some s.tim.wt
  ack : t.twn.ackTwin = false
  tim : t.tim = s.tim
  absent : s.partnerAbsent = true → t.saf.leaseFrom = some s.tim.el ∧ t.flag F_SAF_STATUS_LEASE = true
  there : s.partnerAbsent = false → t.saf.leaseFrom = s.saf.leaseFrom
  sends : s.paired = true → s.peerMet = true → s.roomFor 3 .renew [(s.twn.ladleEp : Int), (sideCode s.pins.side : Int), (s.tim.wt : Int)] = true →
    t.twinSays 3 (aget 0 s.twn.link.txSeq 3) .renew [(s.twn.ladleEp : Int), (sideCode s.pins.side : Int), (s.tim.wt : Int)] ∈ t.out
  alone : s.paired = false → t.out = s.out
  frame : Frame [.alarms, .rcd, .twn, .saf, .lease, .net, .regs, .out] s t

theorem State.renewOut_renewed (sound : s.Sound) : Renewed s s.renewing.renewOut.renewAlone := by
  have noted := s.renewing_notes
  have link : s.renewing.twn.link = s.twn.link := by rw [noted.twn]
  have ladle : s.renewing.twn.ladleEp = s.twn.ladleEp := by rw [noted.twn]
  have absentV : s.renewing.partnerAbsent = s.partnerAbsent := by
    unfold State.partnerAbsent
    rw [noted.met sound, noted.twn, State.paired_of_pat (noted.frame .pat (by simp))]
  have paired : s.renewing.paired = s.paired := State.paired_of_pat (noted.frame .pat (by simp))
  have tim : s.renewing.tim = s.tim := noted.frame .tim (by simp)
  have pins : s.renewing.pins = s.pins := noted.frame .pins (by simp)
  have room (k : MsgKind) (data : List Int) : s.renewing.roomFor 3 k data = s.roomFor 3 k data := State.roomFor_of_link link (noted.up sound) k data
  have sent := State.renewOut_out (noted.sound sound)
  generalize s.renewing = u at *
  generalize u.renewOut = w at *
  have frame : Frame [.alarms, .rcd, .twn, .saf, .lease, .net, .regs, .out] s w := (noted.frame.mono (by simp)).trans (sent.frame.mono (by simp))
  have sends : s.paired = true → s.peerMet = true → s.roomFor 3 .renew [(s.twn.ladleEp : Int), (sideCode s.pins.side : Int), (s.tim.wt : Int)] = true →
      w.twinSays 3 (aget 0 s.twn.link.txSeq 3) .renew [(s.twn.ladleEp : Int), (sideCode s.pins.side : Int), (s.tim.wt : Int)] ∈ w.out := by
    intro pair met free
    have said := sent.sends (paired.trans pair) ((noted.met sound).trans met)
    rw [room, ladle, pins, tim, link] at said
    exact said free
  have absentW : w.partnerAbsent = s.partnerAbsent := sent.absent.trans absentV
  have timW : w.tim = s.tim := sent.tim.trans tim
  have notes : w.twn.renewSentAt = some s.tim.wt ∧ w.twn.ackTwin = false := by
    obtain ⟨l, same⟩ := sent.twn
    rw [same, noted.twn]
    exact ⟨rfl, rfl⟩
  have still : s.paired = false → w.out = s.out := fun alone => (sent.alone (paired.trans alone)).trans (noted.frame .out (by simp))
  unfold State.renewAlone
  by_cases absent : s.partnerAbsent = true
  · rw [if_pos (absentW.trans absent)]
    have counted : Acts (partMask [.saf, .lease, .regs]) w w.countRenewal := State.countRenewal_acts w
    have lease : State.Sound { w with saf := { w.saf with leaseFrom := some w.tim.el } } := sent.sound.of_eq rfl rfl rfl rfl rfl rfl rfl rfl rfl rfl rfl rfl rfl rfl
    refine ⟨notes.1, notes.2, timW, fun _ => ⟨?_, flag_setFlag lease _ _ rfl⟩, fun present => Bool.noConfusion (present.symm.trans absent), sends, still,
      frame.trans (counted.framed.mono (by simp))⟩
    exact congrArg (fun x : Tim => some x.el) timW
  · rw [if_neg (by rw [absentW]; exact absent)]
    refine ⟨notes.1, notes.2, timW, fun there => absurd there absent, fun _ => ?_, sends, still, frame⟩
    exact sent.lease.trans (congrArg Saf.leaseFrom (noted.frame .saf (by simp)))

theorem exec_renewSend_renews (sound : s.Sound) (may : s.mayRenew = true) : ∃ t, exec .renewSend s = .next t ∧ Renewed (s.reach (renewInstant s.tim.wt)) t := by
  rw [exec_renewSend, execRenewSend_may may]
  exact ⟨_, rfl, State.renewOut_renewed ((State.reach_acts ..).sound sound)⟩

end

end Sys2Proof.Machine

/-! The standby's side of the lease, its end and the release of the Ladle (R71, R73, R289, R291 to R294). -/
namespace Sys2Proof.Machine
set_option Elab.async false

section
variable {s t u : State} {p : Path} {e n a b v : Nat} {g : TwinHeader} {d : Side}

/-! A renewal that is heard (R291, R293, R295). -/

/-- R291: what a standby notes of a renewal of side `d` sent at `n`, before its Ladle epoch. -/
def State.noteRenew (s : State) (p : Path) (d : Side) (n : Nat) : State :=
  let b := if n != s.twn.rxSend then s.judgeLan s.twn.rxTwin s.twn.rxLan else s
  { b with twn := { b.twn with rxSend := n, rxTwin := (!(n != s.twn.rxSend) && b.twn.rxTwin) || !onLan p, rxLan := (!(n != s.twn.rxSend) && b.twn.rxLan) || onLan p, renewRxAt := some b.tim.el, holder := some d, takeOver := false } }

/-- R293, R294: a higher Ladle epoch is adopted. -/
def State.adoptLadle (s : State) (e : Nat) : State := if s.twn.ladleEp < e then s.setLadleEp e else s

/-- What a standby notes of a renewal. -/
structure RenewNoted (s t : State) (d : Side) : Prop where
  sound : s.Sound → t.Sound
  ladle : t.twn.ladleEp = s.twn.ladleEp
  link : t.twn.link = s.twn.link
  rxAt : t.twn.renewRxAt = some s.tim.el
  holder : t.twn.holder = some d
  takeOver : t.twn.takeOver = false
  up : s.Sound → t.linkUp = s.linkUp
  gate : s.Sound → t.fld F_SAF_STATUS_GATE = s.fld F_SAF_STATUS_GATE
  frame : Frame [.alarms, .rcd, .twn, .ladle, .regs] s t

theorem State.noteRenew_notes (s : State) (p : Path) (d : Side) (n : Nat) : RenewNoted s (s.noteRenew p d n) d := by
  have judged : (s.Sound → Changes [.alarms, .rcd, .regs] (F_TWN_EVENT_LAN_ONLY :: recFields) [0x040E] s (if n != s.twn.rxSend then s.judgeLan s.twn.rxTwin s.twn.rxLan else s)) ∧
      Acts (partMask [.alarms, .rcd, .regs]) s (if n != s.twn.rxSend then s.judgeLan s.twn.rxTwin s.twn.rxLan else s) :=
    ⟨fun sound => .ite (fun _ => State.judgeLan_changes sound _ _) fun _ => .refl sound, .ite (fun _ => (State.judgeLan_acts ..).mono rfl) fun _ => .refl s⟩
  unfold State.noteRenew
  generalize (if n != s.twn.rxSend then s.judgeLan s.twn.rxTwin s.twn.rxLan else s) = u at *
  obtain ⟨change, acts⟩ := judged
  have twn : u.twn = s.twn := acts.frame .twn rfl
  have tim : u.tim = s.tim := acts.frame .tim rfl
  refine ⟨fun sound => (change sound).sound.of_eq rfl rfl rfl rfl rfl rfl rfl rfl rfl rfl rfl rfl rfl rfl, ?_, ?_, ?_, rfl, rfl,
    fun sound => congrArg (· != 0) ((change sound).fld F_TWN_STATUS_LANES), fun sound => (change sound).fld F_SAF_STATUS_GATE, ?_⟩
  · show u.twn.ladleEp = _
    rw [twn]
  · show u.twn.link = _
    rw [twn]
  · show some u.tim.el = _
    rw [tim]
  · refine Frame.trans (acts.framed.mono (by simp)) ?_
    intro p hp
    cases p <;> first | rfl | simp at hp

theorem State.adoptLadle_adopts (low : s.twn.ladleEp ≤ e) : (s.adoptLadle e).twn = { s.twn with ladleEp := e } ∧ (s.twn.ladleEp < e → (s.adoptLadle e).mram.ladleEp = e) ∧
    Acts (partMask [.mram, .twn, .ladle]) s (s.adoptLadle e) := by
  unfold State.adoptLadle
  split
  next lower => exact ⟨rfl, fun _ => rfl, (State.setLadleEp_acts ..).mono rfl⟩
  next same =>
    have equal : s.twn.ladleEp = e := by omega
    subst equal
    exact ⟨rfl, fun lower => absurd lower same, .refl s⟩

/-! The answer to a renewal (R291). -/

theorem State.sendAck_lan (sound : s.Sound) (q : Nat) (lan : q ≤ 1) (data : List Int) :
    Changes [.saf, .net, .regs, .out] lanFields [] s ((s.ethSend q .ack data).nextSafe 2) ∧ ((s.ethSend q .ack data).nextSafe 2).saf.leaseFrom = s.saf.leaseFrom := by
  have change := (State.ethSend_lan sound q lan .ack data).1
  have saf : (s.ethSend q .ack data).saf = s.saf := change.frame .saf (by simp)
  refine ⟨(change.mono (hf := fun _ h => h)).upd _, ?_⟩
  show (s.ethSend q .ack data).saf.leaseFrom = _
  rw [saf]

/-- What an acknowledgement leaves. -/
structure AckSent (s t : State) : Prop where
  sound : t.Sound
  twn : SameTwin s t
  lease : t.saf.leaseFrom = s.saf.leaseFrom
  gate : t.fld F_SAF_STATUS_GATE = s.fld F_SAF_STATUS_GATE
  frame : Frame [.twn, .saf, .net, .regs, .out] s t

theorem AckSent.push (h : AckSent s t) : AckSent s t.twinPush := by
  have acts := t.twinPush_acts
  exact ⟨acts.sound h.sound, h.twn.trans t.twinPush_same, (congrArg Saf.leaseFrom (acts.frame .saf rfl)).trans h.lease, (State.fld_of_regs (acts.frame .regs rfl) _).trans h.gate,
    h.frame.trans ((acts.mono (m := partMask [.twn, .saf, .net, .regs, .out]) rfl).framed)⟩

theorem State.sendAck_sent (sound : s.Sound) (p : Path) (n : Nat) : AckSent s (s.sendAck p n) := by
  have lan (q : Nat) (hq : q ≤ 1) (data : List Int) : AckSent s ((s.ethSend q .ack data).nextSafe 2) := by
    obtain ⟨change, lease⟩ := State.sendAck_lan sound q hq data
    exact ⟨change.sound, ⟨s.twn.link, (change.frame .twn (by simp)).trans rfl⟩, lease, change.fld _, change.frame.mono (by simp)⟩
  cases p with
  | twin h =>
    have acts := State.twinSend_acts s 3 .ack [(n : Int)]
    exact ⟨acts.sound sound, State.twinSend_same .., congrArg Saf.leaseFrom (acts.frame .saf rfl), State.fld_of_regs (acts.frame .regs rfl) _,
      (acts.mono (m := partMask [.twn, .saf, .net, .regs, .out]) rfl).framed⟩
  | lanA => exact lan 0 (by decide) _
  | lanB => exact lan 1 (by decide) _

/-! A renewal as a standby or an old holder takes it (R291, R293, R295). -/

/-- R291, R293: what a renewal of the partner that counts makes of the device. -/
def State.hearRenew (s : State) (p : Path) (e n : Nat) (d : Side) : State := ((s.noteRenew p d n).adoptLadle e).sendAck p n

/-- What a heard renewal leaves. -/
structure Heard (s t : State) (e : Nat) (d : Side) : Prop where
  ladle : t.twn.ladleEp = e
  rxAt : t.twn.renewRxAt = some s.tim.el
  holder : t.twn.holder = some d
  takeOver : t.twn.takeOver = false
  mram : s.twn.ladleEp < e → t.mram.ladleEp = e
  lease : t.saf.leaseFrom = s.saf.leaseFrom
  gate : t.fld F_SAF_STATUS_GATE = s.fld F_SAF_STATUS_GATE
  frame : Frame [.alarms, .rcd, .mram, .twn, .ladle, .saf, .net, .regs, .out] s t

theorem State.heard_of_ack (sound : s.Sound) (low : s.twn.ladleEp ≤ e) (p : Path) (n : Nat) (d : Side) (sent : AckSent ((s.noteRenew p d n).adoptLadle e) t) : Heard s t e d := by
  have noted := s.noteRenew_notes p d n
  have low' : (s.noteRenew p d n).twn.ladleEp ≤ e := by rw [noted.ladle]; exact low
  obtain ⟨twn, mram, acts⟩ := State.adoptLadle_adopts low'
  have lower (h : s.twn.ladleEp < e) := mram (noted.ladle.trans_lt h)
  generalize s.noteRenew p d n = u at *
  generalize u.adoptLadle e = w at *
  obtain ⟨l, same⟩ := sent.twn
  refine ⟨?_, ?_, ?_, ?_, fun h => ?_, ?_, ?_, (noted.frame.mono (by simp)).trans ((acts.framed.mono (by simp)).trans (sent.frame.mono (by simp)))⟩
  · rw [same, twn]
  · rw [same, twn]
    exact noted.rxAt
  · rw [same, twn]
    exact noted.holder
  · rw [same, twn]
    exact noted.takeOver
  · rw [show t.mram = w.mram from sent.frame .mram (by simp)]
    exact lower h
  · rw [sent.lease, show w.saf = u.saf from acts.frame .saf rfl, show u.saf = s.saf from noted.frame .saf (by simp)]
  · rw [sent.gate, State.fld_of_regs (acts.frame .regs rfl), noted.gate sound]

/-- R291: what a renewal does once it is heard. -/
def State.renewStep (p : Path) (e n : Nat) (d : Side) (t : State) : State :=
  if !t.twinOn || d != otherSide t.pins.side || e < t.twn.ladleEp || (t.holds && e = t.twn.ladleEp) then t
  else (if t.holds then t.dropToArmed else t).hearRenew p e n d

theorem execRenew_step : execRenew p e d n a s = .next ((s.reach a).onPath p (State.renewStep p e n d)) := rfl

theorem State.renewStep_hears (on : s.twinOn = true) (low : s.twn.ladleEp ≤ e) (standby : s.holds = false) (side : d = otherSide s.pins.side) :
    s.renewStep p e n d = s.hearRenew p e n d := by
  unfold State.renewStep
  rw [if_neg (by simp [on, side, standby, Nat.not_lt.mpr low]), if_neg (by simp [standby])]

theorem State.renewStep_drops (on : s.twinOn = true) (low : s.twn.ladleEp < e) (holder : s.holds = true) (side : d = otherSide s.pins.side) :
    s.renewStep p e n d = s.dropToArmed.hearRenew p e n d := by
  unfold State.renewStep
  rw [if_neg (by simp [on, side, Nat.not_lt.mpr low.le, Nat.ne_of_gt low]), if_pos holder]

theorem otherSide_ne (d : Side) : (d != otherSide d) = true := by cases d <;> rfl

theorem State.renewStep_ignores (other : e < s.twn.ladleEp ∨ d = s.pins.side) : s.renewStep p e n d = s := by
  unfold State.renewStep
  refine if_pos ?_
  obtain low | own := other
  · simp [low]
  · simp [own, otherSide_ne]

/-- R291: a heard renewal with its answer, once the link has sent what it can. -/
theorem exec_renew_ack (hears : s.hearsOn p = true) (w : State) (step : (((s.reach a).tookVia p).renewStep p e n d) = w.sendAck p n) (soundW : w.Sound) :
    ∃ t, exec (.renew p e d n a) s = .next t ∧ AckSent w t := by
  have sent := State.sendAck_sent soundW p n
  rw [exec_renew, execRenew_step]
  have hears' : (s.reach a).hearsOn p = true := (s.reach_hearsOn a p).trans hears
  obtain now | pushed := State.onPath_heard_push hears' (State.renewStep p e n d)
  · rw [now, step]
    exact ⟨_, rfl, sent⟩
  · rw [pushed, step]
    exact ⟨_, rfl, sent.push⟩

/-- R291: the acknowledgement on the twin link leaves at once where the link has room. -/
theorem exec_renew_answers {h : TwinHeader} (hears : s.hearsOn (.twin h) = true) (w : State) (step : (((s.reach a).tookVia (.twin h)).renewStep (.twin h) e n d) = w.sendAck (.twin h) n)
    (link : w.twn.link = s.linkAfter 3 h) (up : w.linkUp = s.linkUp) (out : w.out = s.out) (room : twinUnits (twinPayload .ack [(n : Int)]) ≤ (s.linkAfter 3 h).credit 3) :
    ∃ t, exec (.renew (.twin h) e d n a) s = .next t ∧ s.Sends t [t.twinSays 3 (aget 0 s.twn.link.txSeq 3) .ack [(n : Int)]] := by
  obtain ⟨takes, empty⟩ := Bool.and_eq_true_iff.mp hears
  have linkUp : s.linkUp = true := by
    simp only [State.takesFrame, Bool.and_eq_true] at takes
    exact takes.1.1.2
  have free : w.roomFor 3 .ack [(n : Int)] = true := by
    rw [State.roomFor, link, up, linkUp]
    simp only [Bool.true_and, Bool.and_eq_true, decide_eq_true_eq]
    exact ⟨empty, room⟩
  obtain ⟨sends, queue, texts⟩ := State.twinSend_says free (by decide)
  have run : exec (.renew (.twin h) e d n a) s = .next (w.sendAck (.twin h) n) := by
    rw [exec_renew, execRenew_step, State.onPath_heard ((s.reach_hearsOn a _).trans hears) _ (by rw [step]; exact queue), step]
  refine ⟨_, run, ?_⟩
  show (w.twinSend 3 .ack [(n : Int)]).out = s.out ++ [(w.twinSend 3 .ack [(n : Int)]).twinSays 3 (aget 0 s.twn.link.txSeq 3) .ack [(n : Int)]]
  rw [sends, out, texts, link]
  rfl

/-! The end of the lease (R71, R73 T4, R292). -/

/-- What leaves the lease ended and the gate closed. -/
structure LeaseEnded (s : State) : Prop where
  sound : s.Sound
  lease : s.saf.leaseFrom = none
  gate : s.fld F_SAF_STATUS_GATE = gateClosed

theorem State.dropLease_ends (sound : s.Sound) : LeaseEnded s.dropLease := by
  have cleared : State.Sound { s with saf := { s.saf with leaseFrom := none } } := sound.of_eq rfl rfl rfl rfl rfl rfl rfl rfl rfl rfl rfl rfl rfl rfl
  have off := cleared.setFlag F_SAF_STATUS_LEASE false
  have acts := State.dropLease_acts s
  refine ⟨acts.sound sound, ?_, ?_⟩
  · exact congrArg Saf.leaseFrom ((State.setGate_acts ({ s with saf := { s.saf with leaseFrom := none } }.setFlag F_SAF_STATUS_LEASE false) gateClosed).frame .saf rfl)
  · exact (fld_setFld off F_SAF_STATUS_GATE gateClosed rfl).trans (by decide)

theorem LeaseEnded.of_same (h : LeaseEnded s) (sound : t.Sound) (saf : t.saf = s.saf) (regs : t.regs = s.regs) : LeaseEnded t :=
  ⟨sound, (congrArg Saf.leaseFrom saf).trans h.lease, (State.fld_of_regs regs _).trans h.gate⟩

theorem State.dropToArmed_ends (sound : s.Sound) : LeaseEnded s.dropToArmed :=
  (State.dropLease_ends ((State.endTests_acts s 3).sound sound)).of_same ((State.dropToArmed_acts s).sound sound) rfl rfl

theorem State.dropToArmed_twn (s : State) : s.dropToArmed.twn = { s.twn with holder := none } := by
  have before : (s.endTests 3).dropLease.twn = s.twn := ((State.dropLease_acts _).frame .twn rfl).trans ((State.endTests_acts s 3).frame .twn rfl)
  show ({ (s.endTests 3).dropLease.twn with holder := none } : Twn) = _
  rw [before]

theorem State.dropToArmed_st (s : State) : s.dropToArmed.dev.st = .armed := rfl

/-- What the end of the lease leaves. -/
structure Expired (s t : State) (e : Nat) : Prop where
  lease : t.saf.leaseFrom = none
  gate : t.fld F_SAF_STATUS_GATE = gateClosed
  el : t.tim.el = Nat.max s.tim.el e
  holder : s.holds = true → t.dev.st = .armed ∧ t.twn.holder = none
  standby : s.holds = false → t.dev = s.dev

/-- R292: the lease ends, and with it the Ladle of a holder. -/
def State.expire (s : State) : State := if s.dropLease.holds then s.dropLease.dropToArmed else s.dropLease

theorem State.expire_expires (sound : s.Sound) (e : Nat) : Expired s (s.reachEl e).expire e := by
  have reached := s.reachEl_acts e
  have el := s.reachEl_max e
  have ended := State.dropLease_ends (reached.sound sound)
  have acts := State.dropLease_acts (s.reachEl e)
  have holds : (s.reachEl e).dropLease.holds = s.holds := congrArg (fun x : Dev => x.st == .active) (acts.frame .dev rfl)
  have dev : (s.reachEl e).dropLease.dev = s.dev := acts.frame .dev rfl
  have tim : (s.reachEl e).dropLease.tim.el = Nat.max s.tim.el e := (congrArg Tim.el (acts.frame .tim rfl)).trans el
  unfold State.expire
  generalize (s.reachEl e).dropLease = u at *
  by_cases holder : s.holds = true
  · rw [if_pos (holds.trans holder)]
    have dropped := State.dropToArmed_ends ended.sound
    refine ⟨dropped.lease, dropped.gate, ?_, fun _ => ⟨State.dropToArmed_st u, by rw [State.dropToArmed_twn]⟩, fun no => absurd holder (by simp [no])⟩
    exact (congrArg Tim.el ((State.dropToArmed_acts u).frame .tim rfl)).trans tim
  · rw [if_neg (by rw [holds]; exact holder)]
    exact ⟨ended.lease, ended.gate, tim, fun yes => absurd yes holder, fun _ => dev⟩

theorem execLeaseExpiry_lease (lease : s.saf.leaseFrom = some e) : execLeaseExpiry s = .next (s.reachEl (e + 60 * ms)).expire := by
  rw [execLeaseExpiry, lease]
  rfl

/-! An acknowledgement (R292). -/

/-- R292: a renewal acknowledged on a path counts. -/
def State.countAck (s : State) (p : Path) : State :=
  { s.countRenewal with twn := { s.countRenewal.twn with ackTwin := s.countRenewal.twn.ackTwin || !onLan p, ackLan := s.countRenewal.twn.ackLan || onLan p } }

/-- R292: what an acknowledgement at working time `a` does once it is heard. -/
def State.ackStep (p : Path) (a : Nat) (t : State) : State :=
  match t.twn.renewSentAt with
  | some sent => if t.mayRenew && a ≤ sent + 2 * ms then t.countAck p else t
  | none => t

theorem execAck_step : execAck p a s = .next ((s.reach a).onPath p (State.ackStep p a)) := rfl

theorem State.ackStep_counts (sent : s.twn.renewSentAt = some b) (may : s.mayRenew = true) (early : a ≤ b + 2 * ms) : s.ackStep p a = s.countAck p := by
  rw [State.ackStep, sent]
  exact if_pos (by simp [may, early])

theorem State.ackStep_late (sent : s.twn.renewSentAt = some b) (late : b + 2 * ms < a) : s.ackStep p a = s := by
  rw [State.ackStep, sent]
  exact if_neg (by simp [Nat.not_le.mpr late])

/-- What a counted acknowledgement leaves. -/
structure AckCounted (s t : State) (p : Path) : Prop where
  saf : t.saf = { s.saf with leaseFrom := some s.tim.el }
  lease : t.flag F_SAF_STATUS_LEASE = true
  link : t.twn.link = s.twn.link
  ackTwin : t.twn.ackTwin = (s.twn.ackTwin || !onLan p)
  ackLan : t.twn.ackLan = (s.twn.ackLan || onLan p)
  frame : Frame [.twn, .saf, .lease, .regs] s t
  fields : FieldsBut [F_SAF_STATUS_LEASE] s t

theorem State.countAck_counts (sound : s.Sound) (p : Path) : AckCounted s (s.countAck p) p := by
  have reported : Changes [.twn, .saf, .lease, .regs] [F_SAF_STATUS_LEASE] [] s { s with saf := { s.saf with leaseFrom := some s.tim.el } } := (Changes.refl sound).upd _
  have counted := reported.setFlag F_SAF_STATUS_LEASE true
  have noted : Frame [.twn] s.countRenewal (s.countAck p) := by intro p hp; cases p <;> first | rfl | simp at hp
  exact ⟨rfl, flag_setFlag reported.sound _ _ rfl, rfl, rfl, rfl, counted.frame.trans (noted.mono (by simp)), counted.fields⟩

end

end Sys2Proof.Machine

/-! The lease and the Ladle over the twin link: what each command of them does (R71, R73, R289, R291 to R294). -/
namespace Sys2Proof.Machine
set_option Elab.async false

section
variable {s t u : State} {p : Path} {e n a b v : Nat} {g : TwinHeader} {d : Side}

theorem exec_ack_counts (sound : s.Sound) (hears : s.hearsOn p = true) (sent : s.twn.renewSentAt = some b) (may : s.mayRenew = true) (early : a ≤ b + 2 * ms) :
    ∃ t, exec (.ack p a) s = .next t ∧ t.saf = { s.saf with leaseFrom := some t.tim.el } ∧ t.flag F_SAF_STATUS_LEASE = true ∧
      t.twn.ackTwin = (s.twn.ackTwin || !onLan p) ∧ t.twn.ackLan = (s.twn.ackLan || onLan p) ∧ Frame [.tim, .elapsed, .working, .twn, .saf, .lease, .regs] s t ∧
      FieldsBut [F_SAF_STATUS_LEASE] s t := by
  have acts := s.heardAt_acts a p
  have step : ((s.reach a).tookVia p).ackStep p a = ((s.reach a).tookVia p).countAck p := State.ackStep_counts (b := b) sent may early
  have counted := State.countAck_counts (acts.sound sound) p
  have run := (execAck_step (p := p) (a := a) (s := s)).trans (congrArg Host.Outcome.next ((State.onPath_still ((s.reach_hearsOn a p).trans hears) (State.ackStep p a)
    (by rw [step]; exact counted.link)).trans step))
  have tim : (((s.reach a).tookVia p).countAck p).tim = ((s.reach a).tookVia p).tim := counted.frame .tim (by simp)
  refine ⟨_, run, ?_, counted.lease, counted.ackTwin, counted.ackLan, (acts.framed.mono (by simp)).trans (counted.frame.mono (by simp)), ?_⟩
  · rw [counted.saf, tim]
    rfl
  · exact fun f fits apart => (counted.fields f fits apart).trans (State.fld_of_regs (acts.frame .regs rfl) f)

theorem exec_ack_late (hears : s.hearsOn p = true) (sent : s.twn.renewSentAt = some b) (late : b + 2 * ms < a) :
    ∃ t, exec (.ack p a) s = .next t ∧ t.twn = { s.twn with link := s.linkVia p } ∧ Frame [.tim, .elapsed, .working, .twn] s t := by
  have step : ((s.reach a).tookVia p).ackStep p a = (s.reach a).tookVia p := State.ackStep_late (b := b) sent late
  have run := (execAck_step (p := p) (a := a) (s := s)).trans (congrArg Host.Outcome.next ((State.onPath_still ((s.reach_hearsOn a p).trans hears) (State.ackStep p a)
    (by rw [step]; cases p <;> rfl)).trans step))
  exact ⟨_, run, by cases p <;> rfl, (s.heardAt_acts a p).framed⟩

theorem exec_renew_ignored (hears : s.hearsOn p = true) (other : e < s.twn.ladleEp ∨ d = s.pins.side) :
    ∃ t, exec (.renew p e d n a) s = .next t ∧ t.twn = { s.twn with link := s.linkVia p } ∧ Frame [.tim, .elapsed, .working, .twn] s t := by
  have step : ((s.reach a).tookVia p).renewStep p e n d = (s.reach a).tookVia p := State.renewStep_ignores other
  have run := (execRenew_step (p := p) (a := a) (s := s) (e := e) (d := d) (n := n)).trans (congrArg Host.Outcome.next
    ((State.onPath_still ((s.reach_hearsOn a p).trans hears) (State.renewStep p e n d) (by rw [step]; cases p <;> rfl)).trans step))
  exact ⟨_, run, by cases p <;> rfl, (s.heardAt_acts a p).framed⟩

theorem exec_renew_heard (sound : s.Sound) (hears : s.hearsOn p = true) (on : s.twinOn = true) (standby : s.holds = false) (low : s.twn.ladleEp ≤ e) :
    ∃ t, exec (.renew p e (otherSide s.pins.side) n a) s = .next t ∧ Heard ((s.reach a).tookVia p) t e (otherSide s.pins.side) ∧
      (∀ h, p = .twin h → twinUnits (twinPayload .ack [(n : Int)]) ≤ (s.linkAfter 3 h).credit 3 →
        s.Sends t [t.twinSays 3 (aget 0 s.twn.link.txSeq 3) .ack [(n : Int)]]) := by
  have acts := s.heardAt_acts a p
  have step : ((s.reach a).tookVia p).renewStep p e n (otherSide s.pins.side) = _ := State.renewStep_hears on low standby rfl
  have noted := ((s.reach a).tookVia p).noteRenew_notes p (otherSide s.pins.side) n
  have soundU := acts.sound sound
  have low' : (((s.reach a).tookVia p).noteRenew p (otherSide s.pins.side) n).twn.ladleEp ≤ e := noted.ladle.trans_le low
  obtain ⟨twn, -, adopts⟩ := State.adoptLadle_adopts low'
  obtain ⟨t, run, sent⟩ := exec_renew_ack (d := otherSide s.pins.side) (e := e) (n := n) (a := a) hears _ step (adopts.sound (noted.sound soundU))
  refine ⟨t, run, State.heard_of_ack soundU low p n _ sent, fun h path room => ?_⟩
  subst path
  have link : (((((s.reach a).tookVia (.twin h)).noteRenew (.twin h) (otherSide s.pins.side) n).adoptLadle e)).twn.link = s.linkAfter 3 h := by
    rw [twn]
    exact noted.link
  have up : (((((s.reach a).tookVia (.twin h)).noteRenew (.twin h) (otherSide s.pins.side) n).adoptLadle e)).linkUp = s.linkUp :=
    (congrArg (· != 0) (State.fld_of_regs (adopts.frame .regs rfl) F_TWN_STATUS_LANES)).trans (noted.up soundU)
  have out : (((((s.reach a).tookVia (.twin h)).noteRenew (.twin h) (otherSide s.pins.side) n).adoptLadle e)).out = s.out :=
    (adopts.frame .out rfl).trans (noted.frame .out (by simp))
  obtain ⟨t', run', sends⟩ := exec_renew_answers (a := a) hears _ step link up out room
  cases run.symm.trans run'
  exact sends

theorem exec_renew_drops (sound : s.Sound) (hears : s.hearsOn p = true) (on : s.twinOn = true) (holder : s.holds = true) (low : s.twn.ladleEp < e) :
    ∃ t, exec (.renew p e (otherSide s.pins.side) n a) s = .next t ∧ t.dev.st = .armed ∧ t.twn.ladleEp = e ∧ t.mram.ladleEp = e ∧ t.saf.leaseFrom = none ∧
      t.fld F_SAF_STATUS_GATE = gateClosed ∧ t.twn.holder = some (otherSide s.pins.side) := by
  have acts := s.heardAt_acts a p
  have step : ((s.reach a).tookVia p).renewStep p e n (otherSide s.pins.side) = _ := State.renewStep_drops on low holder rfl
  have ended := State.dropToArmed_ends (acts.sound sound)
  have ladle : ((s.reach a).tookVia p).dropToArmed.twn.ladleEp = s.twn.ladleEp := by rw [State.dropToArmed_twn]; rfl
  have armed := State.dropToArmed_st ((s.reach a).tookVia p)
  generalize ((s.reach a).tookVia p).dropToArmed = u at *
  have noted := u.noteRenew_notes p (otherSide s.pins.side) n
  have low' : (u.noteRenew p (otherSide s.pins.side) n).twn.ladleEp ≤ e := (noted.ladle.trans ladle).trans_le low.le
  obtain ⟨-, -, adopts⟩ := State.adoptLadle_adopts low'
  obtain ⟨t, run, sent⟩ := exec_renew_ack (d := otherSide s.pins.side) (e := e) (n := n) (a := a) hears _ step (adopts.sound (noted.sound ended.sound))
  have heard := State.heard_of_ack ended.sound (ladle.trans_le low.le) p n (otherSide s.pins.side) sent
  refine ⟨t, run, ?_, heard.ladle, heard.mram (ladle.trans_lt low), heard.lease.trans ended.lease, heard.gate.trans ended.gate, heard.holder⟩
  rw [show t.dev = u.dev from heard.frame .dev (by simp)]
  exact armed

theorem next_renewInstant_of_eq {x w : Nat} (at_ : x = renewInstant w) : w ≤ x ∧ x % (20 * ms) = 18 * ms ∧ x < w + 20 * ms :=
  at_.symm ▸ next_renewInstant w

/-- A renewal at working time `w`, as it is seen from before that time. -/
structure RenewedAt (s t : State) : Prop where
  sentAt : t.twn.renewSentAt = some t.tim.wt
  ack : t.twn.ackTwin = false
  absent : s.partnerAbsent = true → t.saf.leaseFrom = some t.tim.el ∧ t.flag F_SAF_STATUS_LEASE = true
  there : s.partnerAbsent = false → t.saf.leaseFrom = s.saf.leaseFrom
  sends : s.paired = true → s.peerMet = true → s.roomFor 3 .renew [(s.twn.ladleEp : Int), (sideCode s.pins.side : Int), (t.tim.wt : Int)] = true →
    t.twinSays 3 (aget 0 s.twn.link.txSeq 3) .renew [(s.twn.ladleEp : Int), (sideCode s.pins.side : Int), (t.tim.wt : Int)] ∈ t.out
  alone : s.paired = false → t.out = s.out
  frame : Frame [.alarms, .rcd, .tim, .elapsed, .working, .twn, .saf, .lease, .net, .regs, .out] s t

theorem Renewed.at {w : Nat} (h : Renewed (s.reach w) t) : RenewedAt s t ∧ t.tim.wt = (s.reach w).tim.wt := by
  have reached : Acts (partMask [.tim, .elapsed, .working]) s (s.reach w) := State.reach_acts ..
  refine ⟨⟨?_, h.ack, fun absent => ?_, h.there, fun paired met room => ?_, h.alone, (reached.framed.mono (by simp)).trans (h.frame.mono (by simp))⟩, congrArg Tim.wt h.tim⟩
  · rw [h.sentAt, h.tim]
  · rw [h.tim]
    exact h.absent absent
  · rw [h.tim] at room ⊢
    exact h.sends paired met room

theorem exec_renewSend_may (sound : s.Sound) (may : s.mayRenew = true) : ∃ t, exec .renewSend s = .next t ∧ RenewedAt s t ∧ s.tim.wt ≤ t.tim.wt ∧
    t.tim.wt % (20 * ms) = 18 * ms ∧ t.tim.wt < s.tim.wt + 20 * ms := by
  obtain ⟨t, run, renewed⟩ := exec_renewSend_renews sound may
  exact ⟨t, run, renewed.at.1, next_renewInstant_of_eq (renewed.at.2.trans s.reach_renewInstant)⟩

/-! Silence (R293). -/

/-- R293: a standby may take over at the next pour. -/
def State.mayTake (s : State) : State := { s with twn := { s.twn with takeOver := true } }

theorem execSilentLossTimeout_standby (heard : s.twn.renewRxAt = some e) (on : s.twinOn = true) (standby : s.holds = false) :
    execSilentLossTimeout s = .next (s.reachEl (e + 70 * ms)).mayTake := by
  rw [execSilentLossTimeout, heard]
  exact congrArg Host.Outcome.next (if_pos (by simp [on, standby]))

theorem State.mayTake_reached (s : State) (e : Nat) : (s.reachEl e).mayTake.twn = { s.twn with takeOver := true } ∧ (s.reachEl e).mayTake.tim.el = Nat.max s.tim.el e ∧
    Frame [.tim, .elapsed, .working, .twn] s (s.reachEl e).mayTake :=
  ⟨rfl, s.reachEl_max e, by intro p hp; cases p <;> first | rfl | simp at hp⟩

/-! A release of the Ladle (R73 T3, R289). -/

/-- R289: what a release with epoch `e` does once it is taken. -/
def State.released (e : Nat) (t : State) : State :=
  if t.holds || e ≤ t.twn.ladleEp then t
  else if t.dev.st == .armed && !t.inSafe then t.takeLadle e
  else { t.setLadleEp e with twn := { (t.setLadleEp e).twn with holder := none } }

theorem exec_releaseFrame_takes (takes : s.takesFrame 3 g = true) :
    exec (.releaseFrame g e) s = .next ((s.withLink (s.linkAfter 3 g)).released e).twinPush := congrArg Host.Outcome.next (State.onFrame_takes takes _)

/-- R191, R324: the end of the tests at a change of holder leaves MRAM. -/
theorem State.endTests_frame (s : State) (c : Nat) : Frame [.alarms, .rcd, .saf, .ctl, .regs] s (s.endTests c) :=
  (s.endBrakeTest_frame.mono (by simp)).trans (((State.stopInjection_acts (s.endBrakeTest 4) c).mono (m := partMask [.alarms, .rcd, .saf, .ctl, .regs]) rfl).framed)

theorem State.takeLadle_takes (s : State) (e : Nat) : (s.takeLadle e).dev.st = .active ∧ (s.takeLadle e).twn.ladleEp = e ∧ (s.takeLadle e).mram.ladleEp = e ∧
    (s.takeLadle e).twn.holder = some s.pins.side ∧ (s.takeLadle e).saf.leaseFrom = some s.tim.el := by
  have tests := (s.setLadleEp e).endTests_frame 3
  have twn : ((s.setLadleEp e).endTests 3).twn = (s.setLadleEp e).twn := tests .twn (by simp)
  have mram : ((s.setLadleEp e).endTests 3).mram = (s.setLadleEp e).mram := tests .mram (by simp)
  have pins : ((s.setLadleEp e).endTests 3).pins = s.pins := tests .pins (by simp)
  have tim : ((s.setLadleEp e).endTests 3).tim = s.tim := tests .tim (by simp)
  have shape : s.takeLadle e = (let u := ((s.setLadleEp e).endTests 3).countRenewal
    { u with dev := { u.dev with st := .active }, twn := { u.twn with holder := some u.pins.side, takeOver := false } }) := rfl
  rw [shape]
  generalize (s.setLadleEp e).endTests 3 = u at *
  refine ⟨rfl, ?_, ?_, ?_, ?_⟩
  · show u.twn.ladleEp = e
    rw [twn]
    rfl
  · show u.mram.ladleEp = e
    rw [mram]
    rfl
  · show some u.pins.side = _
    rw [pins]
  · show some u.tim.el = _
    rw [tim]

theorem State.released_takes (armed : s.dev.st = .armed) (safe : s.inSafe = false) (low : s.twn.ladleEp < e) : s.released e = s.takeLadle e := by
  unfold State.released
  rw [if_neg (by simp [State.holds, armed, Nat.not_le.mpr low]), if_pos (by simp [armed, safe])]

theorem State.released_ignores (other : e ≤ s.twn.ladleEp ∨ s.holds = true) : s.released e = s := by
  unfold State.released
  refine if_pos ?_
  obtain old | holder := other
  · simp [old]
  · simp [holder]

/-- R294: the device keeps a higher Ladle epoch and knows no holder. -/
def State.adoptOnly (s : State) (e : Nat) : State := { s.setLadleEp e with twn := { (s.setLadleEp e).twn with holder := none } }

theorem State.released_adopts (standby : s.holds = false) (low : s.twn.ladleEp < e) (kept : s.dev.st ≠ .armed ∨ s.inSafe = true) : s.released e = s.adoptOnly e := by
  unfold State.released
  rw [if_neg (by simp [standby, Nat.not_le.mpr low]), if_neg (by obtain st | safe := kept <;> simp_all)]
  rfl

theorem exec_releaseFrame_armed (takes : s.takesFrame 3 g = true) (armed : s.dev.st = .armed) (safe : s.inSafe = false) (low : s.twn.ladleEp < e) : ∃ t,
    exec (.releaseFrame g e) s = .next t ∧ t.dev.st = .active ∧ t.twn.ladleEp = e ∧ t.mram.ladleEp = e ∧ t.twn.holder = some s.pins.side ∧ t.saf.leaseFrom = some s.tim.el := by
  have run := exec_releaseFrame_takes (e := e) takes
  have step : (s.withLink (s.linkAfter 3 g)).released e = (s.withLink (s.linkAfter 3 g)).takeLadle e := State.released_takes armed safe low
  rw [step] at run
  obtain ⟨st, ladle, mram, holder, lease⟩ := (s.withLink (s.linkAfter 3 g)).takeLadle_takes e
  generalize (s.withLink (s.linkAfter 3 g)).takeLadle e = u at *
  have acts := u.twinPush_acts
  obtain ⟨l, same⟩ := u.twinPush_same
  refine ⟨_, run, ?_, ?_, ?_, ?_, ?_⟩
  · rw [show u.twinPush.dev = u.dev from acts.frame .dev rfl, st]
  · rw [same, ladle]
  · rw [show u.twinPush.mram = u.mram from acts.frame .mram rfl, mram]
  · rw [same, holder]
    rfl
  · rw [show u.twinPush.saf = u.saf from acts.frame .saf rfl, lease]
    rfl

theorem exec_releaseFrame_ignored (takes : s.takesFrame 3 g = true) (empty : s.twn.link.queue = []) (other : e ≤ s.twn.ladleEp ∨ s.holds = true) : ∃ t,
    exec (.releaseFrame g e) s = .next t ∧ t.twn = { s.twn with link := s.linkAfter 3 g } ∧ Frame [.twn] s t := by
  have run := exec_releaseFrame_takes (e := e) takes
  have step : (s.withLink (s.linkAfter 3 g)).released e = s.withLink (s.linkAfter 3 g) := State.released_ignores other
  rw [step, State.twinPush_idle (s := s.withLink (s.linkAfter 3 g)) empty] at run
  exact ⟨_, run, rfl, (State.withLink_acts ..).reaches⟩

theorem exec_releaseFrame_adopts (takes : s.takesFrame 3 g = true) (empty : s.twn.link.queue = []) (standby : s.holds = false) (low : s.twn.ladleEp < e)
    (kept : s.dev.st ≠ .armed ∨ s.inSafe = true) : ∃ t, exec (.releaseFrame g e) s = .next t ∧
    t.twn = { s.twn with link := s.linkAfter 3 g, ladleEp := e, holder := none } ∧ t.mram.ladleEp = e ∧ Frame [.mram, .twn, .ladle] s t := by
  have run := exec_releaseFrame_takes (e := e) takes
  have step : (s.withLink (s.linkAfter 3 g)).released e = (s.withLink (s.linkAfter 3 g)).adoptOnly e := State.released_adopts standby low kept
  rw [step, State.twinPush_idle (s := (s.withLink (s.linkAfter 3 g)).adoptOnly e) empty] at run
  refine ⟨_, run, rfl, rfl, ?_⟩
  intro p hp
  cases p <;> first | rfl | simp at hp

theorem exec_leaseExpiry_expires (sound : s.Sound) (lease : s.saf.leaseFrom = some e) : ∃ t, exec .leaseExpiry s = .next t ∧ Expired s t (e + 60 * ms) := by
  rw [exec_leaseExpiry, execLeaseExpiry_lease lease]
  exact ⟨_, rfl, State.expire_expires sound _⟩

theorem exec_silentLossTimeout_takes (heard : s.twn.renewRxAt = some e) (on : s.twinOn = true) (standby : s.holds = false) : ∃ t, exec .silentLossTimeout s = .next t ∧
    t.twn = { s.twn with takeOver := true } ∧ t.tim.el = Nat.max s.tim.el (e + 70 * ms) ∧ Frame [.tim, .elapsed, .working, .twn] s t := by
  rw [exec_silentLossTimeout, execSilentLossTimeout_standby heard on standby]
  exact ⟨_, rfl, State.mayTake_reached s _⟩

end

/-- Settles O27. -/
theorem theLeaseIsRenewedAnsweredAndLost : Obligations.TheLeaseIsRenewedAnsweredAndLost := by
  unfold Obligations.TheLeaseIsRenewedAnsweredAndLost
  refine ⟨?mayNot, ?renews, ?heard, fun p e n a s sound hears on holder low => exec_renew_drops sound hears on holder low,
    fun p e n a d s hears other => exec_renew_ignored hears other, fun p a b s sound hears sent may early => exec_ack_counts sound hears sent may early,
    fun p a b s hears sent late => exec_ack_late hears sent late, ?expires, fun e s heard on standby => exec_silentLossTimeout_takes heard on standby, ?takes,
    fun g e s takes empty other => exec_releaseFrame_ignored takes empty other, fun g e s takes empty standby low kept => exec_releaseFrame_adopts takes empty standby low kept⟩
  case mayNot =>
    intro s mayNot
    rw [exec_renewSend, execRenewSend, if_pos (by simp [mayNot])]
  case renews =>
    intro s sound may
    obtain ⟨t, run, renewed, ahead, phase, near⟩ := exec_renewSend_may sound may
    exact ⟨t, run, renewed.sentAt, renewed.ack, ahead, phase, near, renewed.absent, renewed.there, renewed.sends, renewed.alone, renewed.frame⟩
  case heard =>
    intro p e n a s sound hears on standby low
    obtain ⟨t, run, heard, sends⟩ := exec_renew_heard (n := n) (a := a) sound hears on standby low
    have tim : t.tim = (s.reach a).tim := heard.frame .tim (by simp)
    refine ⟨t, run, heard.ladle, ?_, heard.holder, heard.takeOver, ?_, heard.frame .dev (by simp), heard.mram, sends,
      ((s.heardAt_acts a p).framed.mono (by simp)).trans (heard.frame.mono (by simp))⟩
    · rw [heard.rxAt, tim]
      rfl
    · rw [tim, State.reach_max]
  case expires =>
    intro e s sound lease
    obtain ⟨t, run, ended, gate, el, holder, standby⟩ := exec_leaseExpiry_expires sound lease
    exact ⟨t, run, ended, gate, el, holder, standby⟩
  case takes =>
    intro g e s _ takes armed safe low
    exact exec_releaseFrame_armed takes armed safe low

end Sys2Proof.Machine

/-! The satellite receiver: antennas, acquisition, the lock states of a channel and the vote of its shadow (R95, R103, R105, R106, R109, R110, R472, R478). -/
namespace Sys2Proof.Machine
set_option Elab.async false

section
variable {s t u : State} {n i e v a b k p c m : Nat}

/-! A channel (R100, R101). -/

theorem State.setGchan_gchan (s : State) (n : Nat) (c : GChan) : (s.setGchan n c).gchan n = c := by
  have chans : (s.setGchan n c).gns.chans = (if c = {} then adel s.gns.chans n else aset s.gns.chans n c) := rfl
  rw [State.gchan, chans, aget_eq_afind]
  split
  next unused => rw [afind_adel_self, unused]; rfl
  next => rw [afind_aset_self]; rfl

theorem State.setGchan_other (s : State) (c : GChan) (other : m ≠ n) : (s.setGchan n c).gchan m = s.gchan m := by
  have chans : (s.setGchan n c).gns.chans = (if c = {} then adel s.gns.chans n else aset s.gns.chans n c) := rfl
  rw [State.gchan, State.gchan, chans, aget_eq_afind, aget_eq_afind]
  split
  · rw [afind_adel_other other]
  · rw [afind_aset_other other]

theorem State.setGchan_acts' (s : State) (n : Nat) (c : GChan) : Acts (partMask [.gns, .regs]) s (s.setGchan n c) := (State.setGchan_acts s n c).mono rfl

theorem State.setGchan_changes (sound : s.Sound) (n : Nat) (c : GChan) : Changes [.gns, .regs] [F_GNS_STATUS_NTRACK] [] s (s.setGchan n c) := by
  unfold State.setGchan
  extract_lets l
  have set : Changes [.gns, .regs] [F_GNS_STATUS_NTRACK] [] s { s with gns := { s.gns with chans := l } } := (Changes.refl sound).upd _
  exact set.setFld _ _

/-- Channel `n` becomes `c` and no other changes. -/
structure ChanSet (s t : State) (n : Nat) (c : GChan) : Prop where
  chan : t.gchan n = c
  others : ∀ m, m ≠ n → t.gchan m = s.gchan m
  frame : Frame [.gns, .regs] s t

theorem State.setGchan_set (s : State) (n : Nat) (c : GChan) : ChanSet s (s.setGchan n c) n c :=
  ⟨s.setGchan_gchan n c, fun _ other => s.setGchan_other c other, (s.setGchan_acts' n c).framed⟩

theorem State.setGchan_reached (s : State) (n e : Nat) (c : GChan) : ((s.reachEl e).setGchan n c).gchan n = c ∧ ((s.reachEl e).setGchan n c).tim.el = Nat.max s.tim.el e ∧
    (∀ m, m ≠ n → ((s.reachEl e).setGchan n c).gchan m = s.gchan m) ∧ Frame [.tim, .elapsed, .working, .gns, .regs] s ((s.reachEl e).setGchan n c) := by
  have set := (s.reachEl e).setGchan_set n c
  refine ⟨set.chan, s.reachEl_max e, set.others, Frame.trans ?_ (set.frame.mono (by simp))⟩
  exact ((s.reachEl_acts e).mono (m := partMask [.tim, .elapsed, .working, .gns, .regs]) rfl).framed

theorem execPhaseLockHeld_tracks (tracks : (s.gchan n).st = 2) :
    execPhaseLockHeld n s = .next ((s.reachEl ((s.gchan n).lockAt + 200 * ms)).setGchan n { s.gchan n with phaseOk := true }) := by
  rw [execPhaseLockHeld]
  exact congrArg Host.Outcome.next (if_pos tracks)

theorem exec_phaseLockHeld_holds (tracks : (s.gchan n).st = 2) : ∃ t, exec (.phaseLockHeld n) s = .next t ∧ t.gchan n = { s.gchan n with phaseOk := true } ∧
    t.tim.el = Nat.max s.tim.el ((s.gchan n).lockAt + 200 * ms) ∧ (∀ m, m ≠ n → t.gchan m = s.gchan m) ∧ Frame [.tim, .elapsed, .working, .gns, .regs] s t := by
  rw [exec_phaseLockHeld, execPhaseLockHeld_tracks tracks]
  exact ⟨_, rfl, State.setGchan_reached s n _ _⟩

theorem exec_chan_unused (unused : (s.gchan n).st = 0) : exec (.pullInLock n) s = .next s ∧ exec (.phaseLockHeld n) s = .next s ∧
    exec (.halfCycleResolved n) s = .next s ∧ exec (.transmitTimeResolved n) s = .next s ∧ exec (.cycleSlip n) s = .next s ∧ exec (.lockLoss n) s = .next s := by
  have one : ¬ (s.gchan n).st = 1 := by omega
  have two : ¬ (s.gchan n).st = 2 := by omega
  rw [exec_pullInLock, exec_phaseLockHeld, exec_halfCycleResolved, exec_transmitTimeResolved, exec_cycleSlip, exec_lockLoss]
  exact ⟨congrArg Host.Outcome.next (if_neg one), congrArg Host.Outcome.next (if_neg two), congrArg Host.Outcome.next (if_neg two), congrArg Host.Outcome.next (if_neg two),
    congrArg Host.Outcome.next (if_neg two), congrArg Host.Outcome.next (if_neg two)⟩

/-! Acquisition (R105, R106). -/

theorem exec_acquisitionConfirm_confirms {h : Int} {d : Detection} (found : afind s.gns.detected e = some d) (strong : s.par 0x060C < p) :
    ∃ t, exec (.acquisitionConfirm e p h) s = .next t ∧ t.gns.handed.getLast? = some (d.triple, h) ∧ afind t.gns.detected e = none ∧
    d.triple ∉ t.gns.acq ∧ t.gns.chans = s.gns.chans ∧ Frame [.gns] s t := by
  have run : exec (.acquisitionConfirm e p h) s = .next { s with gns := { s.gns with detected := adel s.gns.detected e, handed := s.gns.handed.filter (fun x => x.1 != d.triple) ++ [(d.triple, h)], acq := s.gns.acq.filter (· != d.triple) } } := by
    rw [exec_acquisitionConfirm, execAcquisitionConfirm, found]
    exact congrArg Host.Outcome.next (if_pos strong)
  refine ⟨_, run, List.getLast?_concat, afind_adel_self .., ?_, rfl, ?_⟩
  · simp
  · intro p hp
    cases p <;> first | rfl | simp at hp

theorem exec_acquisitionConfirm_drops {h : Int} {d : Detection} (found : afind s.gns.detected e = some d) (weak : p ≤ s.par 0x060C) :
    exec (.acquisitionConfirm e p h) s = .next { s with gns := { s.gns with detected := adel s.gns.detected e } } := by
  rw [exec_acquisitionConfirm, execAcquisitionConfirm, found]
  exact congrArg Host.Outcome.next (if_neg (Nat.not_lt.mpr weak))

/-- R105: what a search must be to be run. -/
def State.searches (s : State) (e g v a b : Nat) (w : Bool) (k : Nat) : Bool :=
  2 ≤ e || !s.searchable ⟨g, v, a, gloField g v⟩ || b = 0 || acqBlocks g < b || acqBins g w ≤ k || (w && !s.predictable (satKey g v))

theorem exec_acquisitionSearchRuns_runs {g : Nat} {w : Bool} (may : s.searches e g v a b w k = false) : ∃ t, exec (.acquisitionSearchRuns e g v a b w k p) s = .next t ∧
    (s.par 0x060C < p → t.gns = { s.gns with detected := aset s.gns.detected e ⟨⟨g, v, a, gloField g v⟩, b, w, k⟩ }) ∧
    (p ≤ s.par 0x060C → t.gns = { s.gns with detected := adel s.gns.detected e }) ∧ Frame [.gns] s t := by
  have run : exec (.acquisitionSearchRuns e g v a b w k p) s = .next { s with gns := { s.gns with detected := if s.par 0x060C < p then aset s.gns.detected e ⟨⟨g, v, a, gloField g v⟩, b, w, k⟩ else adel s.gns.detected e } } := by
    rw [exec_acquisitionSearchRuns, execAcquisitionSearchRuns]
    exact congrArg Host.Outcome.next (if_neg (c := s.searches e g v a b w k = true) (by simp [may]))
  refine ⟨_, run, fun strong => ?_, fun weak => ?_, ?_⟩
  · rw [if_pos strong]
  · rw [if_neg (Nat.not_lt.mpr weak)]
  · intro p hp
    cases p <;> first | rfl | simp at hp

theorem exec_acquisitionSearchRuns_not {g : Nat} {w : Bool} (mayNot : s.searches e g v a b w k = true) : exec (.acquisitionSearchRuns e g v a b w k p) s = .next s := by
  rw [exec_acquisitionSearchRuns, execAcquisitionSearchRuns]
  exact congrArg Host.Outcome.next (if_pos (c := s.searches e g v a b w k = true) mayNot)

/-! Antennas (R95). -/

/-- R95: how often in a row the current of antenna `n` has been high, once it is `i` mA. -/
def State.antHigh (s : State) (n i : Nat) : Nat := if 80 < i then aget 0 s.gns.antOver n + 1 else 0

/-- R95: a sampled antenna current, before it is judged. -/
def State.antSampled (s : State) (n i : Nat) : State :=
  let t := ({ s.nextMeasure n with gns := { (s.nextMeasure n).gns with antRetry := remove (s.nextMeasure n).gns.antRetry n } }).setFld (F_GNS_ANT_I_CURRENT n) (Nat.min 255 i)
  { t with gns := { t.gns with antOver := aset t.gns.antOver n (s.antHigh n i) } }

/-- R95: an antenna is found shorted, and its supply is switched off. -/
def State.antShorted (s : State) (n : Nat) : State :=
  (((({ s with gns := { s.gns with retryAt := aset s.gns.retryAt n s.tim.el } }).setFld (F_GNS_ANT_STATE n) 3).setFld (F_GNS_ANT_I_CURRENT n) 0).event F_GNS_EVENT_ANT_FAULT).raise 0x1102 (pay [n])

/-- R95: an antenna is found open. -/
def State.antOpen (s : State) (n : Nat) : State := ((s.setFld (F_GNS_ANT_STATE n) 2).event F_GNS_EVENT_ANT_FAULT).raise 0x1101 (pay [n])

/-- R95: what a sampled current says of the antenna. -/
def State.antJudged (s u : State) (n i : Nat) : State :=
  if 80 < i then
    if s.gns.antRetry.contains n then u.setFld (F_GNS_ANT_I_CURRENT n) 0
    else if 2 ≤ s.antHigh n i then u.antShorted n else u.setFld (F_GNS_ANT_STATE n) 1
  else if i < 2 then if s.fld (F_GNS_ANT_STATE n) = 2 then u else u.antOpen n
  else u.setFld (F_GNS_ANT_STATE n) 1

theorem exec_antennaMeasure_judges (supplied : s.antSupplied n = true) (powered : s.fld (F_GNS_ANT_STATE n) ≠ 3) :
    exec (.antennaMeasure n i) s = .next (s.antJudged (s.antSampled n i) n i) := by
  rw [exec_antennaMeasure, execAntennaMeasure]
  exact congrArg Host.Outcome.next (if_neg (c := (!s.antSupplied n || (s.fld (F_GNS_ANT_STATE n) == 3 && !s.gns.antRetry.contains n)) = true) (by simp [supplied, powered]))

theorem exec_antennaMeasure_off (off : s.antSupplied n = false ∨ (s.fld (F_GNS_ANT_STATE n) = 3 ∧ n ∉ s.gns.antRetry)) : exec (.antennaMeasure n i) s = .next s := by
  rw [exec_antennaMeasure, execAntennaMeasure]
  refine congrArg Host.Outcome.next (if_pos (c := (!s.antSupplied n || (s.fld (F_GNS_ANT_STATE n) == 3 && !s.gns.antRetry.contains n)) = true) ?_)
  obtain off | ⟨short, waits⟩ := off
  · simp [off]
  · simp [short, waits]

theorem State.antSupplied_lt (supplied : s.antSupplied n = true) : n < 4 := by
  simp only [State.antSupplied, Bool.and_eq_true, decide_eq_true_eq] at supplied
  exact supplied.1.1

theorem antFields_fit : ∀ n < 4, (F_GNS_ANT_STATE n).fits = true ∧ (F_GNS_ANT_I_CURRENT n).fits = true ∧
    (F_GNS_ANT_STATE n).hi + 1 - (F_GNS_ANT_STATE n).lo = 2 ∧ (F_GNS_ANT_I_CURRENT n).hi + 1 - (F_GNS_ANT_I_CURRENT n).lo = 8 := by decide

/-- What a measurement of antenna `n` leaves before it is judged. -/
structure AntSampled (s t : State) (n i : Nat) : Prop where
  change : Changes [.tim, .elapsed, .working, .gns, .regs] [F_GNS_ANT_I_CURRENT n] [] s t
  current : t.fld (F_GNS_ANT_I_CURRENT n) = Nat.min 255 i
  high : aget 0 t.gns.antOver n = s.antHigh n i
  el : ∀ e, afind s.gns.measAt n = some e → t.tim.el = Nat.max s.tim.el (e + 10 * ms)

theorem State.nextMeasure_acts' (s : State) (n : Nat) : Acts (partMask [.tim, .elapsed, .working, .gns]) s (s.nextMeasure n) := (State.nextMeasure_acts s n).mono rfl

theorem State.nextMeasure_el (at_ : afind s.gns.measAt n = some e) : (s.nextMeasure n).tim.el = Nat.max s.tim.el (e + 10 * ms) := by
  rw [State.nextMeasure, at_]
  exact s.reachEl_max _

theorem State.antSampled_sampled (sound : s.Sound) (hn : n < 4) (i : Nat) : AntSampled s (s.antSampled n i) n i := by
  obtain ⟨-, fits, -, width⟩ := antFields_fit n hn
  have measured : Changes [.tim, .elapsed, .working, .gns, .regs] [F_GNS_ANT_I_CURRENT n] [] s (s.nextMeasure n) := (Changes.refl sound).acts (s.nextMeasure_acts' n)
  have el (e : Nat) (at_ : afind s.gns.measAt n = some e) := State.nextMeasure_el at_
  unfold State.antSampled
  generalize s.nextMeasure n = u at *
  have tried : Changes [.tim, .elapsed, .working, .gns, .regs] [F_GNS_ANT_I_CURRENT n] [] s { u with gns := { u.gns with antRetry := remove u.gns.antRetry n } } := measured.upd _
  refine ⟨(tried.setFld _ _ fits).upd _, ?_, aget_aset_self .., el⟩
  refine (fld_setFld tried.sound _ _ fits).trans ?_
  rw [width]
  exact Nat.mod_eq_of_lt (Nat.lt_succ_of_le (Nat.min_le_left ..))

theorem antState_apart : ∀ n < 4, (F_GNS_ANT_I_CURRENT n).apart (F_GNS_ANT_STATE n) ∧ (F_GNS_ANT_STATE n).apart (F_GNS_ANT_I_CURRENT n) ∧
    F_GNS_EVENT_ANT_FAULT.apart (F_GNS_ANT_STATE n) ∧ F_GNS_EVENT_ANT_FAULT.apart (F_GNS_ANT_I_CURRENT n) := by
  unfold Fld.apart
  decide

theorem exec_antennaMeasure_normal (sound : s.Sound) (supplied : s.antSupplied n = true) (powered : s.fld (F_GNS_ANT_STATE n) ≠ 3) (low : 2 ≤ i) (high : i ≤ 80) : ∃ t,
    exec (.antennaMeasure n i) s = .next t ∧ t.fld (F_GNS_ANT_STATE n) = 1 ∧ t.fld (F_GNS_ANT_I_CURRENT n) = i ∧ aget 0 t.gns.antOver n = 0 ∧
    (∀ e, afind s.gns.measAt n = some e → t.tim.el = Nat.max s.tim.el (e + 10 * ms)) ∧
    Frame [.tim, .elapsed, .working, .gns, .regs] s t ∧ FieldsBut [F_GNS_ANT_STATE n, F_GNS_ANT_I_CURRENT n] s t := by
  have run := exec_antennaMeasure_judges (i := i) supplied powered
  have hn := State.antSupplied_lt supplied
  obtain ⟨fits, fitsI, width, -⟩ := antFields_fit n hn
  obtain ⟨apart, apart', -, -⟩ := antState_apart n hn
  have sampled := State.antSampled_sampled sound hn i
  have judged : s.antJudged (s.antSampled n i) n i = (s.antSampled n i).setFld (F_GNS_ANT_STATE n) 1 := by
    rw [State.antJudged, if_neg (by omega), if_neg (by omega)]
  have zero : s.antHigh n i = 0 := if_neg (by omega)
  rw [judged] at run
  generalize s.antSampled n i = u at *
  have change : Changes [.tim, .elapsed, .working, .gns, .regs] [F_GNS_ANT_STATE n, F_GNS_ANT_I_CURRENT n] [] s (u.setFld (F_GNS_ANT_STATE n) 1) :=
    (sampled.change.mono).setFld _ _ fits
  refine ⟨_, run, ?_, ?_, ?_, sampled.el, change.frame, change.fields⟩
  · rw [fld_setFld sampled.change.sound _ _ fits, width]
    rfl
  · rw [fld_setFld_other sampled.change.sound _ _ _ fits fitsI apart', sampled.current]
    exact Nat.min_eq_right (by omega)
  · exact sampled.high.trans zero

theorem State.antOpen_shows (sound : s.Sound) (hn : n < 4) : (s.antOpen n).fld (F_GNS_ANT_STATE n) = 2 ∧ (s.antOpen n).Alarmed 0x1101 ∧
    (s.antOpen n).flag F_GNS_EVENT_ANT_FAULT = true ∧ Frame [.alarms, .rcd, .regs] s (s.antOpen n) := by
  obtain ⟨fits, -, width, -⟩ := antFields_fit n hn
  obtain ⟨-, -, apart, -⟩ := antState_apart n hn
  have set := sound.setFld (F_GNS_ANT_STATE n) 2
  have told := set.event F_GNS_EVENT_ANT_FAULT
  have acts : Acts (partMask [.alarms, .rcd, .regs]) s (s.antOpen n) := (((Acts.refl s).step (State.setFld_acts ..) rfl).step (State.event_acts ..) rfl).step (State.raise_acts ..) rfl
  have raised : Changes [.alarms, .rcd, .regs] recFields [0x1101] ((s.setFld (F_GNS_ANT_STATE n) 2).event F_GNS_EVENT_ANT_FAULT) (s.antOpen n) :=
    (Changes.refl told).raise _ _ (by simp) fun _ => id
  refine ⟨?_, (alarm_raise ..).trans (if_pos rfl), (flag_raise told _ _ _ (by decide) (by decide)).trans (flag_event set _ rfl), acts.framed⟩
  refine (raised.fld _ fits fun f hf => ?_).trans ((fld_setFld_other set _ _ _ rfl fits apart).trans ?_)
  · exact .inl ((by decide : ∀ f ∈ recFields, A_GNS_ANT ≠ f.addr) f hf)
  · rw [fld_setFld sound _ _ fits, width]
    rfl

theorem exec_antennaMeasure_open (sound : s.Sound) (supplied : s.antSupplied n = true) (powered : s.fld (F_GNS_ANT_STATE n) ≠ 3) (was : s.fld (F_GNS_ANT_STATE n) ≠ 2)
    (low : i < 2) : ∃ t, exec (.antennaMeasure n i) s = .next t ∧ t.fld (F_GNS_ANT_STATE n) = 2 ∧ t.Alarmed 0x1101 ∧ t.flag F_GNS_EVENT_ANT_FAULT = true ∧
    Frame [.alarms, .rcd, .tim, .elapsed, .working, .gns, .regs] s t := by
  have run := exec_antennaMeasure_judges (i := i) supplied powered
  have sampled := State.antSampled_sampled sound (State.antSupplied_lt supplied) i
  have judged : s.antJudged (s.antSampled n i) n i = (s.antSampled n i).antOpen n := by
    rw [State.antJudged, if_neg (by omega), if_pos low, if_neg was]
  rw [judged] at run
  obtain ⟨state, alarmed, event, frame⟩ := State.antOpen_shows sampled.change.sound (State.antSupplied_lt supplied)
  exact ⟨_, run, state, alarmed, event, (sampled.change.frame.mono (by simp)).trans (frame.mono (by simp))⟩

theorem State.antShorted_shows (sound : s.Sound) (hn : n < 4) : (s.antShorted n).fld (F_GNS_ANT_STATE n) = 3 ∧ (s.antShorted n).fld (F_GNS_ANT_I_CURRENT n) = 0 ∧
    (s.antShorted n).Alarmed 0x1102 ∧ (s.antShorted n).flag F_GNS_EVENT_ANT_FAULT = true ∧ Frame [.alarms, .rcd, .gns, .regs] s (s.antShorted n) := by
  obtain ⟨fits, fitsI, width, widthI⟩ := antFields_fit n hn
  obtain ⟨apart, -, apartS, apartI⟩ := antState_apart n hn
  have noted : State.Sound { s with gns := { s.gns with retryAt := aset s.gns.retryAt n s.tim.el } } := sound.of_eq rfl rfl rfl rfl rfl rfl rfl rfl rfl rfl rfl rfl rfl rfl
  have frame : Frame [.alarms, .rcd, .gns, .regs] s { s with gns := { s.gns with retryAt := aset s.gns.retryAt n s.tim.el } } := by
    intro p hp
    cases p <;> first | rfl | simp at hp
  unfold State.antShorted
  generalize ({ s with gns := { s.gns with retryAt := aset s.gns.retryAt n s.tim.el } } : State) = u at *
  have set := noted.setFld (F_GNS_ANT_STATE n) 3
  have off := set.setFld (F_GNS_ANT_I_CURRENT n) 0
  have told := off.event F_GNS_EVENT_ANT_FAULT
  have acts : Acts (partMask [.alarms, .rcd, .gns, .regs]) u ((((u.setFld (F_GNS_ANT_STATE n) 3).setFld (F_GNS_ANT_I_CURRENT n) 0).event F_GNS_EVENT_ANT_FAULT).raise 0x1102 (pay [n])) :=
    ((((Acts.refl u).step (State.setFld_acts ..) rfl).step (State.setFld_acts ..) rfl).step (State.event_acts ..) rfl).step (State.raise_acts ..) rfl
  have raised := Changes.raise (ps := [.alarms, .rcd, .regs]) (fs := recFields) (cs := [0x1102]) (.refl told) 0x1102 (pay [n]) (by simp) fun _ => id
  have inRec (f : Fld) (hf : f ∈ recFields) : A_GNS_ANT ≠ f.addr ∧ A_GNS_ANT_I ≠ f.addr := (by decide : ∀ f ∈ recFields, A_GNS_ANT ≠ f.addr ∧ A_GNS_ANT_I ≠ f.addr) f hf
  refine ⟨?_, ?_, (alarm_raise ..).trans (if_pos rfl), (flag_raise told _ _ _ (by decide) (by decide)).trans (flag_event off _ rfl), frame.trans acts.framed⟩
  · refine (raised.fld _ fits fun f hf => .inl (inRec f hf).1).trans ((fld_setFld_other off _ _ _ rfl fits apartS).trans ?_)
    rw [fld_setFld_other set _ _ _ fitsI fits apart, fld_setFld noted _ _ fits, width]
    rfl
  · refine (raised.fld _ fitsI fun f hf => .inl (inRec f hf).2).trans ((fld_setFld_other off _ _ _ rfl fitsI apartI).trans ?_)
    rw [fld_setFld set _ _ fitsI, widthI]
    rfl

theorem exec_antennaMeasure_shorts (sound : s.Sound) (supplied : s.antSupplied n = true) (powered : s.fld (F_GNS_ANT_STATE n) ≠ 3) (first : n ∉ s.gns.antRetry)
    (high : 80 < i) (again : 1 ≤ aget 0 s.gns.antOver n) : ∃ t, exec (.antennaMeasure n i) s = .next t ∧ t.fld (F_GNS_ANT_STATE n) = 3 ∧ t.fld (F_GNS_ANT_I_CURRENT n) = 0 ∧
    t.Alarmed 0x1102 ∧ t.flag F_GNS_EVENT_ANT_FAULT = true ∧ Frame [.alarms, .rcd, .tim, .elapsed, .working, .gns, .regs] s t := by
  have run := exec_antennaMeasure_judges (i := i) supplied powered
  have sampled := State.antSampled_sampled sound (State.antSupplied_lt supplied) i
  have twice : 2 ≤ s.antHigh n i := by
    rw [State.antHigh, if_pos high]
    omega
  have judged : s.antJudged (s.antSampled n i) n i = (s.antSampled n i).antShorted n := by
    rw [State.antJudged, if_pos high, if_neg (by simpa using first), if_pos twice]
  rw [judged] at run
  obtain ⟨state, current, alarmed, event, frame⟩ := State.antShorted_shows sampled.change.sound (State.antSupplied_lt supplied)
  exact ⟨_, run, state, current, alarmed, event, (sampled.change.frame.mono (by simp)).trans (frame.mono (by simp))⟩

/-- R95: the supply of antenna `n` is switched on for one measurement. -/
def State.tryAntenna (s : State) (n : Nat) : State :=
  { s with gns := { s.gns with antRetry := insertNew s.gns.antRetry n, retryAt := aset s.gns.retryAt n s.tim.el, measAt := aset s.gns.measAt n s.tim.el } }

theorem execAntennaRetry_shorted (supplied : s.antSupplied n = true) (short : s.fld (F_GNS_ANT_STATE n) = 3) :
    execAntennaRetry n s = .next ((s.reachEl (aget 0 s.gns.retryAt n + 10 * sec)).tryAntenna n) := by
  rw [execAntennaRetry, if_pos (by simp [supplied, short])]
  rfl

theorem State.tryAntenna_tries (s : State) (n e : Nat) : n ∈ ((s.reachEl e).tryAntenna n).gns.antRetry ∧ ((s.reachEl e).tryAntenna n).tim.el = Nat.max s.tim.el e ∧
    afind ((s.reachEl e).tryAntenna n).gns.measAt n = some ((s.reachEl e).tryAntenna n).tim.el ∧ Frame [.tim, .elapsed, .working, .gns] s ((s.reachEl e).tryAntenna n) :=
  ⟨mem_insertNew_self .., s.reachEl_max e, afind_aset_self .., by intro p hp; cases p <;> first | rfl | simp at hp⟩

theorem exec_antennaRetry_tries (supplied : s.antSupplied n = true) (short : s.fld (F_GNS_ANT_STATE n) = 3) : ∃ t, exec (.antennaRetry n) s = .next t ∧
    n ∈ t.gns.antRetry ∧ t.tim.el = Nat.max s.tim.el (aget 0 s.gns.retryAt n + 10 * sec) ∧ afind t.gns.measAt n = some t.tim.el ∧
    Frame [.tim, .elapsed, .working, .gns] s t := by
  rw [exec_antennaRetry, execAntennaRetry_shorted supplied short]
  exact ⟨_, rfl, s.tryAntenna_tries n _⟩

end

end Sys2Proof.Machine

/-! The vote of a channel's shadow (R100, R103, R472, R474, R478). -/
namespace Sys2Proof.Machine
set_option Elab.async false

section
variable {s t u : State} {n e a b k c m : Nat} {l : List Nat}

/-! The end of a shadow (R103). -/

/-- Channels of a list become idle spares and no other channel changes. -/
structure Idled (s t : State) (l : List Nat) : Prop where
  idle : ∀ k ∈ l, t.gchan k = { st := 4 }
  others : ∀ k ∉ l, t.gchan k = s.gchan k
  frame : Frame [.gns, .regs] s t
  changes : s.Sound → Changes [.gns, .regs] [F_GNS_STATUS_NTRACK] [] s t

theorem State.each_idled (s : State) (l : List Nat) : Idled s (s.each l (fun u k => u.setGchan k { st := 4 })) l := by
  induction l generalizing s with
  | nil => exact ⟨fun _ h => absurd h List.not_mem_nil, fun _ _ => rfl, Frame.refl _ s, fun sound => .refl sound⟩
  | cons a l ih =>
    have set := s.setGchan_set a { st := 4 }
    have rest := ih (s.setGchan a { st := 4 })
    refine ⟨fun k hk => ?_, fun k hk => ?_, set.frame.trans rest.frame, fun sound => ?_⟩
    · by_cases later : k ∈ l
      · exact rest.idle k later
      · obtain rfl : k = a := (List.mem_cons.mp hk).resolve_right later
        exact (rest.others k later).trans set.chan
    · obtain ⟨first, later⟩ := not_or.mp (List.mem_cons.not.mp hk)
      exact (rest.others k later).trans (set.others k first)
    · have changed := s.setGchan_changes sound a { st := 4 }
      exact changed.trans (rest.changes changed.sound)

theorem State.shadowSpares_of_chans (chans : t.gns.chans = s.gns.chans) (c : Nat) : t.shadowSpares c = s.shadowSpares c := by
  rw [State.shadowSpares, State.shadowSpares]
  refine List.filter_congr fun k _ => ?_
  rw [State.gchan, State.gchan, chans]

/-- What the end of the shadow of cluster `c` leaves. -/
structure ShadowEnded (s t : State) (c : Nat) : Prop where
  idle : ∀ k ∈ s.shadowSpares c, t.gchan k = { st := 4 }
  others : ∀ k ∉ s.shadowSpares c, t.gchan k = s.gchan k
  hlt : t.hlt = { s.hlt with shadowOf := adel s.hlt.shadowOf c, shadowVote := adel s.hlt.shadowVote c }
  frame : Frame [.hlt, .gns, .regs] s t
  flag : s.Sound → ∀ f : Fld, f.fits = true → F_GNS_STATUS_NTRACK.apart f → t.flag f = s.flag f

theorem State.endShadow_ends (s : State) (c : Nat) : ShadowEnded s (s.endShadow c) c := by
  have idled := State.each_idled { s with hlt := { s.hlt with shadowOf := adel s.hlt.shadowOf c, shadowVote := adel s.hlt.shadowVote c } } (s.shadowSpares c)
  refine ⟨idled.idle, idled.others, idled.frame .hlt (by simp), Frame.trans ?_ (idled.frame.mono (by simp)), fun sound f fits apart => ?_⟩
  · intro p hp
    cases p <;> first | rfl | simp at hp
  · exact (idled.changes (sound.of_eq rfl rfl rfl rfl rfl rfl rfl rfl rfl rfl rfl rfl rfl rfl)).flag f fits fun g hg => (List.mem_singleton.mp hg) ▸ apart

theorem ShadowEnded.shadowOf (h : ShadowEnded s t c) : afind t.hlt.shadowOf c = none := by
  rw [h.hlt]
  exact afind_adel_self ..

/-! A channel that is retired (R474). -/

/-- What the retirement of channel `n` leaves. -/
structure Retired (s t : State) (n : Nat) : Prop where
  chan : t.gchan n = { st := 5 }
  others : ∀ m, m ≠ n → t.gchan m = s.gchan m
  riser : n ∈ t.mram.riserChannels
  alarmed : t.Alarmed 0x110D
  sound : s.Sound → t.Sound
  event : s.Sound → t.flag F_GNS_EVENT_CH_RETIRED = true
  hlt : t.hlt = s.hlt

/-- R474: a retired channel in the map. -/
def State.mapRetired (s : State) (n : Nat) : State := ({ s with mram := { s.mram with riserChannels := insertNew s.mram.riserChannels n } }).countRetired (keyChannel n)

theorem State.retireChannel_retires (s : State) (n : Nat) : Retired s (s.retireChannel n) n := by
  unfold State.retireChannel
  extract_lets mram t u
  have mapped : t = (s.mapRetired n).setGchan n { st := 5 } := rfl
  have set := (s.mapRetired n).setGchan_set n { st := 5 }
  have riser : n ∈ t.mram.riserChannels := mem_insertNew_self ..
  have soundT (sound : s.Sound) : t.Sound := (State.setGchan_acts ..).sound ((sound.of_eq rfl rfl rfl rfl rfl rfl rfl rfl rfl rfl rfl rfl rfl rfl : (s.mapRetired n).Sound))
  have told : Acts (partMask [.alarms, .rcd, .regs]) t u := ((Acts.refl t).step (State.event_acts ..) rfl).step (State.raise_acts ..) rfl
  have gns : u.gns = t.gns := told.frame .gns rfl
  have retired : Retired s u n := by
    refine ⟨?_, fun m other => ?_, ?_, (alarm_raise ..).trans (if_pos rfl), fun sound => told.sound (soundT sound), fun sound => ?_, told.frame .hlt rfl⟩
    · rw [State.gchan, gns]
      exact set.chan
    · rw [State.gchan, gns]
      exact set.others m other
    · rw [show u.mram = t.mram from told.frame .mram rfl]
      exact riser
    · exact (flag_raise ((soundT sound).event _) _ _ _ (by decide) (by decide)).trans (flag_event (soundT sound) _ rfl)
  clear_value u
  split
  · have last := State.raise_acts u 0x110E []
    refine ⟨?_, fun m other => ?_, ?_, ?_, fun sound => last.sound (retired.sound sound), fun sound => ?_, (last.frame .hlt rfl).trans retired.hlt⟩
    · rw [State.gchan, show (u.raise 0x110E).gns = u.gns from last.frame .gns rfl]
      exact retired.chan
    · rw [State.gchan, show (u.raise 0x110E).gns = u.gns from last.frame .gns rfl]
      exact retired.others m other
    · rw [show (u.raise 0x110E).mram = u.mram from last.frame .mram rfl]
      exact retired.riser
    · rw [State.Alarmed, alarm_raise_other (by decide)]
      exact retired.alarmed
    · exact (flag_raise (retired.sound sound) _ _ _ (by decide) (by decide)).trans (retired.event sound)
  · exact retired

/-! The end of a channel's shadow (R103, R472, R478). -/

/-- R472: the test of channel `n` of cluster `c` is done, and the rotation moves on. -/
def State.shadowDone (s r : State) (c n : Nat) : State := { r with hlt := { s.hlt with shadowChan := n, shadowNext := aset s.hlt.shadowNext c ((n + 1) % 32) } }

/-- R472: a mismatch is counted. -/
def State.shadowDiffers (s : State) : State := { s with hlt := { s.hlt with shadowMism := Nat.min 65535 (s.hlt.shadowMism + 1) } }

/-- R478: channel `n` is put to a vote. -/
def State.shadowVotes (s : State) (c n : Nat) : State := { s with hlt := { s.hlt with shadowVote := aset s.hlt.shadowVote c n, shadowAt := aset s.hlt.shadowAt c s.tim.el } }

/-- R472, R478: what the end of a shadow gives, from the state `t` in which the test is done. -/
def State.shadowOutcome (s t : State) (c n a : Nat) (l : List Nat) (f g : Bool) : State :=
  if (s.gchan n).st != 2 || (s.gchan n).lost || (s.gchan n).triple != (s.gchan a).triple then t.endShadow c
  else if (afind s.hlt.shadowVote c).isSome then (t.shadowVerdict n a l f g).endShadow c
  else if f then t.endShadow c
  else if l.isEmpty then (t.shadowDiffers.spareContinues n a).endShadow c
  else t.shadowDiffers.shadowVotes c n

theorem execChannelShadowEnd_ends {f g h : Bool} (spares : s.shadowSpares c = a :: l) (tests : afind s.hlt.shadowOf c = some n) :
    execChannelShadowEnd c f g h s = .next (s.shadowOutcome (s.shadowDone (s.reachEl (aget 0 s.hlt.shadowAt c + sec)) c n) c n a l f g) := by
  unfold execChannelShadowEnd
  generalize s.reachEl (aget 0 s.hlt.shadowAt c + sec) = r
  rw [tests, spares]
  rfl

/-- What the end of a shadow's test leaves, before its outcome. -/
structure ShadowDone (s t : State) (c n e : Nat) : Prop where
  chans : t.gns = s.gns
  mram : t.mram = s.mram
  hlt : t.hlt = { s.hlt with shadowChan := n, shadowNext := aset s.hlt.shadowNext c ((n + 1) % 32) }
  el : t.tim.el = Nat.max s.tim.el e
  sound : s.Sound → t.Sound
  frame : Frame [.tim, .elapsed, .working, .hlt] s t

theorem State.shadowDone_done (s : State) (c n e : Nat) : ShadowDone s (s.shadowDone (s.reachEl e) c n) c n e :=
  ⟨rfl, rfl, rfl, s.reachEl_max e, fun sound => sound.of_eq rfl rfl rfl rfl rfl rfl rfl rfl rfl rfl rfl rfl rfl rfl, by intro p hp; cases p <;> first | rfl | simp at hp⟩

theorem ShadowDone.spares (h : ShadowDone s t c n e) : t.shadowSpares c = s.shadowSpares c := State.shadowSpares_of_chans (by rw [h.chans]) c

theorem ShadowDone.gchan (h : ShadowDone s t c n e) (k : Nat) : t.gchan k = s.gchan k := by rw [State.gchan, State.gchan, h.chans]

theorem mem_shadowSpares : k ∈ s.shadowSpares c ↔ (k = 256 + 2 * c ∨ k = 257 + 2 * c) ∧ ((s.gchan k).st = 4 ∨ (s.gchan k).st = 3) := by
  simp [State.shadowSpares, List.mem_filter]

/-- A shadow that ends without a verdict. -/
structure ShadowIdle (s t : State) (c n a e : Nat) (l : List Nat) : Prop where
  chan : t.hlt.shadowChan = n
  next : aget 0 t.hlt.shadowNext c = (n + 1) % 32
  off : afind t.hlt.shadowOf c = none
  idle : ∀ k ∈ a :: l, (t.gchan k).st = 4
  others : ∀ m, m ∉ a :: l → t.gchan m = s.gchan m
  mism : t.hlt.shadowMism = s.hlt.shadowMism
  mram : t.mram = s.mram
  el : t.tim.el = Nat.max s.tim.el e
  frame : Frame [.tim, .elapsed, .working, .hlt, .gns, .regs] s t

theorem ShadowDone.idle (h : ShadowDone s t c n e) (spares : s.shadowSpares c = a :: l) : ShadowIdle s (t.endShadow c) c n a e l := by
  have ended := t.endShadow_ends c
  have same := h.spares.trans spares
  refine ⟨?_, ?_, ended.shadowOf, fun k hk => ?_, fun k hk => ?_, ?_, ?_, ?_, (h.frame.mono (by simp)).trans (ended.frame.mono (by simp))⟩
  · rw [ended.hlt, h.hlt]
  · rw [ended.hlt, h.hlt]
    exact aget_aset_self ..
  · rw [ended.idle k (by rw [same]; exact hk)]
  · exact (ended.others k (by rw [same]; exact hk)).trans (h.gchan k)
  · rw [ended.hlt, h.hlt]
  · exact (ended.frame .mram (by simp)).trans h.mram
  · rw [show (t.endShadow c).tim = t.tim from ended.frame .tim (by simp), h.el]

theorem State.shadowOutcome_agrees {g : Bool} (t : State) (quiet : afind s.hlt.shadowVote c = none) : s.shadowOutcome t c n a l true g = t.endShadow c := by
  unfold State.shadowOutcome
  rw [quiet]
  exact ite_self _

theorem State.not_compared (parted : ¬ s.Compared n a) : ((s.gchan n).st != 2 || (s.gchan n).lost || (s.gchan n).triple != (s.gchan a).triple) = true := by
  simp only [State.Compared, not_and] at parted
  by_contra all
  simp only [Bool.or_eq_true, bne_iff_ne, ne_eq, not_or, Bool.not_eq_true, not_not] at all
  exact parted all.1.1 all.1.2 all.2

theorem State.compared (together : s.Compared n a) : ¬ ((s.gchan n).st != 2 || (s.gchan n).lost || (s.gchan n).triple != (s.gchan a).triple) = true := by
  obtain ⟨tracks, kept, same⟩ := together
  simp [tracks, kept, same]

theorem State.shadowOutcome_parted {f g : Bool} (t : State) (parted : ¬ s.Compared n a) : s.shadowOutcome t c n a l f g = t.endShadow c := if_pos (State.not_compared parted)

theorem exec_channelShadowEnd_idle {f g h : Bool} (spares : s.shadowSpares c = a :: l) (tests : afind s.hlt.shadowOf c = some n)
    (idle : ∀ t : State, s.shadowOutcome t c n a l f g = t.endShadow c) :
    ∃ t, exec (.channelShadowEnd c f g h) s = .next t ∧ ShadowIdle s t c n a (aget 0 s.hlt.shadowAt c + sec) l := by
  rw [exec_channelShadowEnd, execChannelShadowEnd_ends spares tests, idle]
  exact ⟨_, rfl, (s.shadowDone_done c n _).idle spares⟩

/-! The vote (R478). -/

theorem State.shadowOutcome_votes {g : Bool} (t : State) (quiet : afind s.hlt.shadowVote c = none) (together : s.Compared n a) :
    s.shadowOutcome t c n a (b :: l) false g = t.shadowDiffers.shadowVotes c n := by
  unfold State.shadowOutcome
  rw [if_neg (State.compared together), quiet]
  rfl

theorem ShadowDone.votes (h : ShadowDone s t c n e) : afind (t.shadowDiffers.shadowVotes c n).hlt.shadowVote c = some n ∧
    (t.shadowDiffers.shadowVotes c n).hlt.shadowMism = Nat.min 65535 (s.hlt.shadowMism + 1) ∧ Frame [.tim, .elapsed, .working, .hlt] s (t.shadowDiffers.shadowVotes c n) := by
  refine ⟨afind_aset_self .., ?_, h.frame.trans (by intro p hp; cases p <;> first | rfl | simp at hp)⟩
  show Nat.min 65535 (t.hlt.shadowMism + 1) = _
  rw [h.hlt]

theorem exec_channelShadowEnd_votes {f g : Bool} (spares : s.shadowSpares c = a :: b :: l) (quiet : afind s.hlt.shadowVote c = none) (tests : afind s.hlt.shadowOf c = some n)
    (together : s.Compared n a) : ∃ t, exec (.channelShadowEnd c false f g) s = .next t ∧ afind t.hlt.shadowVote c = some n ∧
    t.hlt.shadowMism = Nat.min 65535 (s.hlt.shadowMism + 1) ∧ Frame [.tim, .elapsed, .working, .hlt] s t := by
  rw [exec_channelShadowEnd, execChannelShadowEnd_ends spares tests, State.shadowOutcome_votes _ quiet together]
  exact ⟨_, rfl, (s.shadowDone_done c n _).votes⟩

theorem State.shadowOutcome_verdict {f g : Bool} (t : State) (vote : afind s.hlt.shadowVote c = some m) (together : s.Compared n a) :
    s.shadowOutcome t c n a l f g = (t.shadowVerdict n a l f g).endShadow c := by
  unfold State.shadowOutcome
  rw [if_neg (State.compared together), vote]
  rfl

theorem chRetired_apart : F_GNS_STATUS_NTRACK.apart F_GNS_EVENT_CH_RETIRED := by
  unfold Fld.apart
  decide

/-- R478: a retired channel stays retired at the end of the shadow. -/
theorem Retired.ended (h : Retired s t n) (c : Nat) : (t.endShadow c).gchan n = { st := 5 } ∧ n ∈ (t.endShadow c).mram.riserChannels ∧ (t.endShadow c).Alarmed 0x110D ∧
    (s.Sound → (t.endShadow c).flag F_GNS_EVENT_CH_RETIRED = true) ∧ afind (t.endShadow c).hlt.shadowOf c = none := by
  have ended := t.endShadow_ends c
  have out : n ∉ t.shadowSpares c := by
    rw [mem_shadowSpares, h.chan]
    simp
  refine ⟨(ended.others n out).trans h.chan, ?_, ?_, fun sound => (ended.flag (h.sound sound) _ rfl chRetired_apart).trans (h.event sound), ended.shadowOf⟩
  · rw [show (t.endShadow c).mram = t.mram from ended.frame .mram (by simp)]
    exact h.riser
  · exact (congrArg (fun x : List Alarm => x.find? _ = _) (ended.frame .alarms (by simp))).mpr h.alarmed

theorem exec_channelShadowEnd_retiresSecond {g : Bool} (sound : s.Sound) (spares : s.shadowSpares c = a :: b :: l) (vote : afind s.hlt.shadowVote c = some m)
    (tests : afind s.hlt.shadowOf c = some n) (together : s.Compared n a) : ∃ t, exec (.channelShadowEnd c true false g) s = .next t ∧ (t.gchan b).st = 5 ∧
    b ∈ t.mram.riserChannels ∧ t.Alarmed 0x110D ∧ t.flag F_GNS_EVENT_CH_RETIRED = true ∧ afind t.hlt.shadowOf c = none := by
  rw [exec_channelShadowEnd, execChannelShadowEnd_ends spares tests, State.shadowOutcome_verdict _ vote together]
  have done := s.shadowDone_done c n (aget 0 s.hlt.shadowAt c + sec)
  obtain ⟨chan, riser, alarmed, event, off⟩ := (State.retireChannel_retires (s.shadowDone (s.reachEl (aget 0 s.hlt.shadowAt c + sec)) c n) b).ended c
  exact ⟨_, rfl, congrArg GChan.st chan, riser, alarmed, event (done.sound sound), off⟩

theorem exec_channelShadowEnd_retiresTested {g : Bool} (channel : n < 256) (spares : s.shadowSpares c = a :: b :: l) (vote : afind s.hlt.shadowVote c = some m)
    (tests : afind s.hlt.shadowOf c = some n) (together : s.Compared n a) : ∃ t, exec (.channelShadowEnd c false false g) s = .next t ∧ (t.gchan n).st = 5 ∧
    t.gchan a = s.gchan n ∧ n ∈ t.mram.riserChannels ∧ t.Alarmed 0x110D := by
  rw [exec_channelShadowEnd, execChannelShadowEnd_ends spares tests, State.shadowOutcome_verdict _ vote together]
  have done := s.shadowDone_done c n (aget 0 s.hlt.shadowAt c + sec)
  generalize s.shadowDone (s.reachEl (aget 0 s.hlt.shadowAt c + sec)) c n = u at *
  have spare : 256 ≤ a := by
    have first : a ∈ s.shadowSpares c := by rw [spares]; exact List.mem_cons_self
    obtain ⟨place, -⟩ := mem_shadowSpares.mp first
    omega
  have set := u.setGchan_set a (u.gchan n)
  have retired := (u.setGchan a (u.gchan n)).retireChannel_retires n
  have works : ((u.setGchan a (u.gchan n)).retireChannel n).gchan a = s.gchan n := (retired.others a (by omega)).trans (set.chan.trans (done.gchan n))
  obtain ⟨chan, riser, alarmed, -, -⟩ := retired.ended c
  refine ⟨_, rfl, congrArg GChan.st chan, ?_, riser, alarmed⟩
  refine (((u.setGchan a (u.gchan n)).retireChannel n).endShadow_ends c).others a ?_ |>.trans works
  rw [mem_shadowSpares, works, together.1]
  simp

end

/-- Settles O35. -/
theorem satelliteChannelsAcquireTrackAndLose : Obligations.SatelliteChannelsAcquireTrackAndLose := by
  unfold Obligations.SatelliteChannelsAcquireTrackAndLose
  refine ⟨fun n i s sound supplied powered low high => exec_antennaMeasure_normal sound supplied powered low high,
    fun n i s sound supplied powered was low => exec_antennaMeasure_open sound supplied powered was low,
    fun n i s sound supplied powered first high again => exec_antennaMeasure_shorts sound supplied powered first high again,
    fun n i s off => exec_antennaMeasure_off off, fun n s supplied short => exec_antennaRetry_tries supplied short, ?search, ?noSearch,
    fun e p h d s found strong => exec_acquisitionConfirm_confirms found strong, fun e p h d s found weak => exec_acquisitionConfirm_drops found weak,
    ?pullIn, fun n s tracks => exec_phaseLockHeld_holds tracks, ?half, ?transmit, ?slip, ?loss, fun n s unused => exec_chan_unused unused, ?agrees,
    fun c n a b l f g s spares quiet tests together => exec_channelShadowEnd_votes spares quiet tests together,
    fun c n a b m l g s sound spares vote tests together => exec_channelShadowEnd_retiresSecond sound spares vote tests together,
    fun c n a b m l g s _ channel spares vote tests together => exec_channelShadowEnd_retiresTested channel spares vote tests together, ?parted, ?untested⟩
  case search =>
    intro e g v a b k p w s engine may blocks most bin warm
    refine exec_acquisitionSearchRuns_runs ?_
    have predicted : (w && !s.predictable (satKey g v)) = false := by
      cases w with
      | false => rfl
      | true => simp [warm rfl]
    simp [State.searches, may, blocks, predicted, Nat.not_le.mpr engine, Nat.not_lt.mpr most, Nat.not_le.mpr bin]
  case noSearch =>
    intro e g v a b k p w s mayNot
    refine exec_acquisitionSearchRuns_not ?_
    rcases mayNot with h | h | h | h | h | ⟨h, h'⟩ <;> simp_all [State.searches]
  case pullIn =>
    intro n s pulls
    have run : exec (.pullInLock n) s = .next (s.setGchan n { s.gchan n with st := 2, codeOk := true, lockAt := s.tim.el }) := by
      rw [exec_pullInLock]
      exact congrArg Host.Outcome.next (if_pos pulls)
    obtain ⟨chan, others, frame⟩ := s.setGchan_set n { s.gchan n with st := 2, codeOk := true, lockAt := s.tim.el }
    exact ⟨_, run, chan, others, frame, fun sound => (s.setGchan_changes sound n _).fields⟩
  case half =>
    intro n s tracks
    rw [exec_halfCycleResolved]
    obtain ⟨chan, others, frame⟩ := s.setGchan_set n { s.gchan n with halfRes := true }
    exact ⟨_, congrArg Host.Outcome.next (if_pos tracks), chan, others, frame⟩
  case transmit =>
    intro n s tracks
    rw [exec_transmitTimeResolved]
    obtain ⟨chan, others, frame⟩ := s.setGchan_set n { s.gchan n with towOk := true }
    exact ⟨_, congrArg Host.Outcome.next (if_pos tracks), chan, others, frame⟩
  case slip =>
    intro n s tracks
    rw [exec_cycleSlip]
    obtain ⟨chan, others, frame⟩ := s.setGchan_set n { s.gchan n with slip := true, slipCnt := ((s.gchan n).slipCnt + 1) % 256 }
    exact ⟨_, congrArg Host.Outcome.next (if_pos tracks), chan, others, frame⟩
  case loss =>
    intro n s tracks
    rw [exec_lockLoss]
    obtain ⟨chan, others, frame⟩ := s.setGchan_set n { s.gchan n with lost := true }
    exact ⟨_, congrArg Host.Outcome.next (if_pos tracks), chan, others, frame⟩
  case agrees =>
    intro c n a l b d s spares quiet tests
    obtain ⟨t, run, ended⟩ := exec_channelShadowEnd_idle (f := true) (g := b) (h := d) spares tests fun t => State.shadowOutcome_agrees t quiet
    exact ⟨t, run, ended.chan, ended.next, ended.off, ended.idle, ended.others, ended.el, ended.frame⟩
  case parted =>
    intro c n a l f g h s spares tests parted
    obtain ⟨t, run, ended⟩ := exec_channelShadowEnd_idle (f := f) (g := g) (h := h) spares tests fun t => State.shadowOutcome_parted t parted
    exact ⟨t, run, ended.off, ended.mism, ended.mram, ended.frame⟩
  case untested =>
    intro c f g h s untested
    rw [exec_channelShadowEnd, execChannelShadowEnd, untested]

end Sys2Proof.Machine

/-! A device fault (R477, R481), and the lockstep mismatches of the processor pairs (R11, R12, R473). -/
namespace Sys2Proof.Machine
set_option Elab.async false

section
variable {s t u : State} {n k c a b : Nat} {f : Bool}

/-! Words of a memory that another word's write leaves, whether the memory is canonical or not. -/

theorem memGet_memCons_other {w : Nat} (d : Nat → BitVec w) {a b : Nat} {v : BitVec w} (m : Sparse w) (other : b ≠ a) (kept : v ≠ d a) (above : b < a → memGet d m b = d b) :
    memGet d (memCons d a v m) b = memGet d m b := by
  rw [memCons, if_neg kept]
  show (if a = b then v else if b < a then d b else memGet d m b) = _
  rw [if_neg (Ne.symm other)]
  split
  · next low => exact (above low).symm
  · rfl

theorem memGet_memSet_apart {w : Nat} (d : Nat → BitVec w) (m : Sparse w) {a b : Nat} {v : BitVec w} (other : b ≠ a) (kept : v ≠ d a) :
    memGet d (memSet d m a v) b = memGet d m b := by
  induction m with
  | nil => exact memGet_memCons_other d [] other kept fun _ => rfl
  | cons e m ih =>
    obtain ⟨k, u⟩ := e
    show memGet d (if a < k then memCons d a v ((k, u) :: m) else if k = a then memCons d a v m else (k, u) :: memSet d m a v) b =
      (if k = b then u else if b < k then d b else memGet d m b)
    split
    · refine memGet_memCons_other d _ other kept fun low => ?_
      show (if k = b then u else if b < k then d b else memGet d m b) = _
      rw [if_neg (by omega), if_pos (by omega)]
    · split
      · next same =>
        subst same
        rw [if_neg (Ne.symm other), memCons, if_neg kept]
        show (if k = b then v else if b < k then d b else memGet d m b) = _
        rw [if_neg (Ne.symm other)]
      · show (if k = b then u else if b < k then d b else memGet d (memSet d m a v) b) = _
        rw [ih]

theorem State.reg_setFld_apart (s : State) {f : Fld} {v b : Nat} (other : b ≠ f.addr) (fits : f.fits = true) (zero : resetWord f.addr = 0#32)
    (set : v % 2 ^ (f.hi + 1 - f.lo) ≠ 0) : (s.setFld f v).reg b = s.reg b := by
  refine memGet_memSet_apart resetWord s.regs other fun same => set ?_
  rw [← fieldOf_fieldIn (s.reg f.addr) f v fits, same, zero, fieldOf]
  simp

/-- R496: a record leaves every register but REC_LOST and REC_EVENT, in any state. -/
theorem State.record_reg_apart (s : State) (c e : Nat) (p : List Word) {b : Nat} (lost : b ≠ A_REC_LOST) (event : b ≠ F_REC_EVENT_LOST_EVT.addr) :
    (s.record c e p).reg b = s.reg b := by
  unfold State.record State.enqueue
  split
  · rfl
  · have counted : (Nat.min (State.fld { s with rcd := { s.rcd with lostToQueue := s.rcd.lostToQueue + 1 } } (word32 A_REC_LOST) + 1)
        (fieldMax (word32 A_REC_LOST))) % 2 ^ ((word32 A_REC_LOST).hi + 1 - (word32 A_REC_LOST).lo) ≠ 0 := by
      have top : fieldMax (word32 A_REC_LOST) = 4294967295 := rfl
      have width : 2 ^ ((word32 A_REC_LOST).hi + 1 - (word32 A_REC_LOST).lo) = 4294967296 := rfl
      rw [top, width]
      generalize State.fld _ _ = x
      have small : Nat.min (x + 1) 4294967295 < 4294967296 := Nat.lt_of_le_of_lt (Nat.min_le_right ..) (by decide)
      have some : 0 < Nat.min (x + 1) 4294967295 := Nat.lt_min.mpr ⟨Nat.succ_pos x, by decide⟩
      rw [Nat.mod_eq_of_lt small]
      exact Nat.pos_iff_ne_zero.mp some
    exact (State.reg_setFld_apart _ event rfl (by decide) (by decide)).trans (State.reg_setFld_apart (f := word32 A_REC_LOST) _ lost rfl (by decide) counted)

theorem State.raise_reg_apart (s : State) (c : Nat) (p : List Word) {b : Nat} (lost : b ≠ A_REC_LOST) (event : b ≠ F_REC_EVENT_LOST_EVT.addr) :
    (s.raise c p).reg b = s.reg b := by
  unfold State.raise
  split
  · rfl
  · exact State.record_reg_apart _ c 0 p lost event

theorem State.raise_inStep (s : State) (c : Nat) (p : List Word) : (s.raise c p).inStep = s.inStep := by
  show (fieldOf ((s.raise c p).reg F_TWN_STATUS_IN_STEP.addr) _ != 0) = _
  rw [s.raise_reg_apart c p (by decide) (by decide)]
  rfl

/-! A device fault. -/

/-- The riser map of the processor pairs and the own fault of the S-die stay. -/
structure SameUnits (s t : State) : Prop where
  pairs : t.mram.riserPairs = s.mram.riserPairs
  fault : t.saf.ownFault = s.saf.ownFault

theorem SameUnits.refl (s : State) : SameUnits s s := ⟨rfl, rfl⟩

theorem SameUnits.trans (h : SameUnits s t) (k : SameUnits t u) : SameUnits s u := ⟨k.pairs.trans h.pairs, k.fault.trans h.fault⟩

theorem SameUnits.acts {m : Nat} (h : SameUnits s t) (k : Acts m t u) (left : (m.testBit 9 || m.testBit 20) = false) : SameUnits s u := by
  obtain ⟨mram, saf⟩ := Bool.or_eq_false_iff.mp left
  exact h.trans ⟨congrArg Mram.riserPairs (k.frame .mram mram), congrArg Saf.ownFault (k.frame .saf saf)⟩

theorem SameUnits.ite {p : Prop} [Decidable p] {x y : State} (h : p → SameUnits s x) (k : ¬p → SameUnits s y) : SameUnits s (if p then x else y) := by
  split
  · exact h ‹_›
  · exact k ‹_›

theorem State.endBrakeTest_units (s : State) (r : Nat) : SameUnits s (s.endBrakeTest r) := by
  unfold State.endBrakeTest
  split
  · exact .refl s
  · next b _ =>
    extract_lets saf s1 s2 s3 mram s4
    have h1 : SameUnits s s1 := ⟨rfl, rfl⟩
    have h2 : SameUnits s s2 := ((h1.acts (State.setReg_acts ..) rfl).acts (State.setFlag_acts ..) rfl).acts (State.event_acts ..) rfl
    have h3 : SameUnits s s3 := (h2.acts (State.setFlag_acts ..) rfl).acts (State.showBrake_acts ..) rfl
    clear_value s3
    have h4 : SameUnits s s4 := ⟨h3.pairs, h3.fault⟩
    refine .ite (fun _ => SameUnits.acts ?_ (State.raise_acts ..) rfl) fun _ => h3.acts (State.raise_acts ..) rfl
    have set := (h4.acts (State.setReg_acts s4 (A_SAF_BRK_AGE b.chan) 0#32) rfl).acts (State.setFlag_acts _ (F_SAF_BRK_STAT_TEST_DUE b.chan) false) rfl
    exact ⟨set.pairs, set.fault⟩

theorem State.endTests_units (s : State) (k : Nat) : SameUnits s (s.endTests k) := (s.endBrakeTest_units 4).acts (State.stopInjection_acts ..) rfl

theorem State.dropLease_units (s : State) : SameUnits s s.dropLease :=
  ((⟨rfl, rfl⟩ : SameUnits s { s with saf := { s.saf with leaseFrom := none } }).acts (State.setFlag_acts ..) rfl).acts (State.setGate_acts ..) rfl

theorem State.settleBrakes_units (s : State) : SameUnits s s.settleBrakes := by
  obtain ⟨_, _, _, _, _, fault, _⟩ := (State.SafKept.refl s).settleBrakes
  exact ⟨congrArg Mram.riserPairs ((State.settleBrakes_acts s).frame .mram rfl), fault⟩

theorem State.dropToArmed_units (s : State) : SameUnits s s.dropToArmed := by
  have dropped := (s.endTests_units 3).trans (s.endTests 3).dropLease_units
  exact ⟨dropped.pairs, dropped.fault⟩

theorem State.handOver_units (s : State) (k : Nat) : SameUnits s (s.handOver k) := by
  unfold State.handOver
  extract_lets e t u
  have dropped : SameUnits s t.dropToArmed := (((SameUnits.refl s).acts (State.setGate_acts ..) rfl).acts (State.twinSend_acts ..) rfl).trans t.dropToArmed_units
  refine SameUnits.acts (SameUnits.acts ?_ (State.event_acts ..) rfl) (State.raise_acts ..) rfl
  exact ⟨dropped.pairs, dropped.fault⟩

theorem State.globalSafe_units (s : State) (k : Nat) : SameUnits s (s.globalSafe k) := by
  unfold State.globalSafe
  extract_lets first s1 p s2 s3 s4 s5
  have h1 : SameUnits s s1 := (s.endTests_units 3).acts (State.setFlag_acts ..) rfl
  have h2 : SameUnits s s2 := ⟨h1.pairs, h1.fault⟩
  have h3 : SameUnits s s3 := .ite (fun _ => ((h2.acts (State.setFld_acts ..) rfl).acts (State.event_acts ..) rfl).acts (State.raise_acts ..) rfl) fun _ => h2
  have h5 : SameUnits s s5 := (h3.trans s3.dropLease_units).trans s4.settleBrakes_units
  split
  case h_1 => exact h5
  case h_2 => exact SameUnits.acts (.ite (fun _ => h5.trans (State.handOver_units ..)) fun _ => h5.trans s5.dropToArmed_units) (State.inSafeState_acts ..) rfl
  all_goals exact h5.acts (State.inSafeState_acts ..) rfl

/-- The alarms that a device fault may change. -/
def faultAlarms : List Nat := [0x0007, 0x0A04, 0x0A09, 0x0A0A, 0x0408, 0x130C, 0x1603]

/-- R477: the step of a device fault in which a holder gives the Ladle up. -/
def State.giveUp (s : State) : State :=
  if s.holds then (if s.paired && takeoverOk s.peerReport then s.handOver 7 else s.dropToArmed) else s

theorem State.giveUp_units (s : State) : SameUnits s s.giveUp :=
  .ite (fun _ => .ite (fun _ => s.handOver_units 7) fun _ => s.dropToArmed_units) fun _ => .refl s

theorem State.giveUp_sound (sound : s.Sound) : s.giveUp.Sound := by
  unfold State.giveUp
  split
  · split
    · exact (State.handOver_acts s 7).sound sound
    · exact s.dropToArmed_acts.sound sound
  · exact sound

theorem State.giveUp_alarm (s : State) (own : c ∉ [0x0A04, 0x0A09, 0x0A0A, 0x0408, 0x130C, 0x1603]) : s.giveUp.alarm? c = s.alarm? c := by
  obtain ⟨passed, aborted, handed⟩ : 0x0A09 ≠ c ∧ 0x0A0A ≠ c ∧ 0x0408 ≠ c := by
    simp only [List.mem_cons, List.not_mem_nil, or_false, not_or] at own
    omega
  unfold State.giveUp
  split
  · split
    · exact alarm_handOver passed aborted handed
    · exact alarm_dropToArmed passed aborted
  · rfl

theorem State.handOver_st (s : State) (k : Nat) : (s.handOver k).dev.st = .armed := by
  unfold State.handOver
  extract_lets e t u
  rw [State.raise_dev, (State.event_acts _ _).frame .dev rfl]
  rfl

theorem State.giveUp_hlt (s : State) : s.giveUp.hlt = s.hlt := by
  unfold State.giveUp
  split
  · split
    · exact (State.handOver_acts s 7).frame .hlt rfl
    · exact s.dropToArmed_acts.frame .hlt rfl
  · rfl

theorem State.giveUp_st (s : State) : s.giveUp.dev.st = .boot ↔ s.dev.st = .boot := by
  unfold State.giveUp
  split
  case isTrue holds =>
    have active : s.dev.st = .active := by simpa [State.holds] using holds
    rw [active]
    split
    · simp [s.handOver_st 7]
    · simp [s.dropToArmed_st]
  case isFalse => rfl

/-- What a device fault leaves. -/
structure Faulted (s t : State) : Prop where
  st : t.dev.st = .safe
  hlt : t.hlt = { s.hlt with deviceFault := true }
  pairs : t.mram.riserPairs = s.mram.riserPairs
  alarmed : t.Alarmed 0x0007
  alarms : AlarmsBut faultAlarms s t
  safe : s.Sound → s.dev.st ≠ .boot → t.InGlobalSafe

theorem Faulted.holds (h : Faulted s t) : t.holds = false := by rw [State.holds, h.st]; rfl

theorem State.deviceFault_faults (s : State) (k : Nat) : Faulted s (s.deviceFault k) := by
  have shape : s.deviceFault k = (match ((({ s with hlt := { s.hlt with deviceFault := true } }).raise 0x0007 (pay [k])).giveUp).dev.st with
    | .boot => ((({ s with hlt := { s.hlt with deviceFault := true } }).raise 0x0007 (pay [k])).giveUp).bootToSafe
    | _ => ((({ s with hlt := { s.hlt with deviceFault := true } }).raise 0x0007 (pay [k])).giveUp).enterSafe) := rfl
  generalize known : ({ s with hlt := { s.hlt with deviceFault := true } }).raise 0x0007 (pay [k]) = u at shape
  have dev : u.dev = s.dev := known ▸ State.raise_dev ..
  have hlt : u.hlt = { s.hlt with deviceFault := true } := known ▸ State.raise_hlt ..
  have pairs : u.mram.riserPairs = s.mram.riserPairs := known ▸ congrArg Mram.riserPairs (State.raise_mram ({ s with hlt := { s.hlt with deviceFault := true } }) 0x0007 (pay [k]))
  have alarmed : u.alarm? 0x0007 = some ⟨0x0007, false, true⟩ := by rw [← known, alarm_raise, if_pos rfl]
  have kept (c : Nat) (hc : c ∉ faultAlarms) : u.alarm? c = s.alarm? c := by
    rw [← known, alarm_raise, if_neg fun (same : 0x0007 = c) => hc (same ▸ (by decide : 0x0007 ∈ faultAlarms))]
    rfl
  have sound (h : s.Sound) : u.Sound :=
    known ▸ (State.raise_acts ({ s with hlt := { s.hlt with deviceFault := true } }) ..).sound (h.of_eq rfl rfl rfl rfl rfl rfl rfl rfl rfl rfl rfl rfl rfl rfl)
  have booting : u.giveUp.dev.st = .boot ↔ s.dev.st = .boot := by rw [u.giveUp_st, dev]
  have own (c : Nat) (hc : c ∉ faultAlarms) : c ∉ [0x0A04, 0x0A09, 0x0A0A, 0x0408, 0x130C, 0x1603] := fun h => hc (List.mem_cons_of_mem _ h)
  rw [shape]
  split
  case h_1 boot =>
    have acts := u.giveUp.bootToSafe_acts
    refine ⟨rfl, ?_, ?_, ?_, fun c hc => ?_, fun _ past => absurd (booting.mp boot) past⟩
    · rw [acts.frame .hlt rfl, u.giveUp_hlt, hlt]
    · exact (congrArg Mram.riserPairs (acts.frame .mram rfl)).trans (u.giveUp_units.pairs.trans pairs)
    · rw [State.Alarmed, alarm_of_acts acts rfl, u.giveUp_alarm (by decide), alarmed]
    · rw [alarm_of_acts acts rfl, u.giveUp_alarm (own c hc), kept c hc]
  case h_2 past =>
    have acts := u.giveUp.enterSafe_acts
    refine ⟨State.enterSafe_st past, ?_, ?_, ?_, fun c hc => ?_, fun h _ => ?_⟩
    · rw [acts.frame .hlt rfl, u.giveUp_hlt, hlt]
    · exact (u.giveUp.globalSafe_units 8).pairs.trans (u.giveUp_units.pairs.trans pairs)
    · rw [State.Alarmed, State.enterSafe, alarm_globalSafe (by decide), u.giveUp_alarm (by decide), alarmed]
    · rw [State.enterSafe, alarm_globalSafe (own c hc), u.giveUp_alarm (own c hc), kept c hc]
    · exact (globalSafe_spec (State.giveUp_sound (sound h)) 8).1.global

/-! The pairs (R11, R12, R473). -/

/-- A mismatch is counted and its pair retired. -/
def State.pairOut (s : State) (n : Nat) : State :=
  { s with hlt := { s.hlt with mismatches := Nat.min 65535 (s.hlt.mismatches + 1), pairsOut := insertNew s.hlt.pairsOut n },
           mram := { s.mram with riserPairs := insertNew s.mram.riserPairs n } }.countRetired (keyPair n)

theorem State.pairOut_riser (s : State) (n : Nat) : n ∈ (s.pairOut n).mram.riserPairs := mem_insertNew_self ..

theorem State.pairOut_pairsOut (s : State) (n : Nat) : n ∈ (s.pairOut n).hlt.pairsOut := mem_insertNew_self ..

theorem State.pairOut_frame (s : State) (n : Nat) : Frame [.mram, .hlt] s (s.pairOut n) := by
  intro p hp
  cases p <;> first | rfl | simp at hp

theorem State.pairOut_sound (sound : s.Sound) : (s.pairOut n).Sound := sound.of_eq rfl rfl rfl rfl rfl rfl rfl rfl rfl rfl rfl rfl rfl rfl

/-- R12: the mismatch of a fusion or control pair is marked (bit L) and reported. -/
def State.pairMarked (s : State) (n : Nat) : State :=
  ({ s.pairOut n with twn := { (s.pairOut n).twn with selfL := true } }).raise 0x0C0C (pay [n])

/-- What the marking of pair `n` leaves. -/
structure Mismatched (s t : State) (n : Nat) : Prop where
  hlt : t.hlt = { s.hlt with mismatches := Nat.min 65535 (s.hlt.mismatches + 1), pairsOut := insertNew s.hlt.pairsOut n }
  twn : t.twn = { s.twn with selfL := true }
  dev : t.dev = s.dev
  inStep : t.inStep = s.inStep
  riser : n ∈ t.mram.riserPairs
  alarmed : t.Alarmed 0x0C0C
  alarms : AlarmsBut [0x0C0C] s t
  frame : Frame [.alarms, .rcd, .mram, .twn, .hlt, .regs] s t
  sound : s.Sound → t.Sound

theorem State.pairMarked_marks (s : State) (n : Nat) : Mismatched s (s.pairMarked n) n := by
  have out := s.pairOut_frame n
  have acts : Acts _ _ (s.pairMarked n) := State.raise_acts { s.pairOut n with twn := { (s.pairOut n).twn with selfL := true } } 0x0C0C (pay [n])
  refine ⟨acts.frame .hlt rfl, acts.frame .twn rfl, acts.frame .dev rfl, State.raise_inStep .., ?_, ?_, fun c hc => ?_, ?_, fun sound => ?_⟩
  · rw [show (s.pairMarked n).mram = (s.pairOut n).mram from acts.frame .mram rfl]
    exact s.pairOut_riser n
  · rw [State.Alarmed, State.pairMarked, alarm_raise, if_pos rfl]
  · rw [State.pairMarked, alarm_raise_other fun same => hc (by simp [same])]
    rfl
  · refine (Frame.trans ?_ ((acts.mono (m := partMask [.alarms, .rcd, .regs]) rfl).framed.mono (by simp)))
    intro p hp
    cases p <;> first | rfl | simp at hp
  · exact acts.sound ((State.pairOut_sound sound).of_eq rfl rfl rfl rfl rfl rfl rfl rfl rfl rfl rfl rfl rfl rfl)

theorem Mismatched.spareTaken (h : Mismatched s t n) (f : Bool) : t.spareTaken f = s.spareTaken f := by
  rw [State.spareTaken, State.spareTaken, h.hlt]

theorem Mismatched.fullCycle (h : Mismatched s t n) : t.fullCycle = s.fullCycle := by
  rw [State.fullCycle, State.fullCycle, h.dev]

end

end Sys2Proof.Machine

/-! R11, R12, R473: the pair that fails, its spare, and the results of its cycle. -/
namespace Sys2Proof.Machine
set_option Elab.async false

section
variable {s t u : State} {n k c a b : Nat} {f : Bool}

theorem exec_lockstepMismatch_fails (used : n ∉ s.hlt.pairsOut) (unit : n ≤ 10) : exec (.lockstepMismatch n) s = .next (s.pairFails n) := by
  rw [exec_lockstepMismatch, execLockstepMismatch, if_neg (by simp [used, unit])]

theorem exec_lockstepMismatch_group (used : n ∉ s.hlt.pairsOut) (low : 1 ≤ n) (high : n ≤ 8) :
    exec (.lockstepMismatch n) s = .next ((s.pairMarked n).groupPairFails (n ≤ 5) (n == 5 || n == 8)) := by
  rw [exec_lockstepMismatch_fails used (by omega)]
  refine congrArg Host.Outcome.next ?_
  unfold State.pairFails
  extract_lets
  rw [if_neg (by omega), if_neg (by simp; omega)]
  rfl

theorem State.groupPairFails_none (taken : s.spareTaken f = true) (b : Bool) : s.groupPairFails f b = s.deviceFault faultNoPair := if_pos taken

theorem State.groupPairFails_spare (free : s.spareTaken f = false) : s.groupPairFails f true = s.loseSpare f := by
  rw [State.groupPairFails, if_neg (by simp [free]), if_pos rfl]

theorem State.groupPairFails_claims (free : s.spareTaken f = false) : s.groupPairFails f false = (s.discardResults f).claimSpare f := by
  rw [State.groupPairFails, if_neg (by simp [free]), if_neg (by simp)]

/-! R11: the discarded results of a cycle. -/

theorem State.discardResults_hlt (s : State) (f : Bool) : (s.discardResults f).hlt =
    { s.hlt with discarded := if s.fullCycle && !s.dev.stepsDone.contains 8 then s.hlt.discarded ++ (if f then [2] else [3, 4]) else s.hlt.discarded } := by
  unfold State.discardResults
  extract_lets
  split
  · cases f
    · rw [if_neg (by simp)]
      split <;> rfl
    · rw [if_pos rfl]
      split <;> rfl
  · rfl

theorem State.discardResults_twn (s : State) : (s.discardResults true).twn = s.twn := by
  unfold State.discardResults
  extract_lets
  rw [if_pos rfl]
  split
  · split <;> rfl
  · rfl

theorem State.discardResults_kept (s : State) (f : Bool) : (s.discardResults f).twn.selfL = s.twn.selfL ∧ (s.discardResults f).twn.holder = s.twn.holder := by
  unfold State.discardResults
  extract_lets
  split
  · split
    · split <;> exact ⟨rfl, rfl⟩
    · split <;> exact ⟨rfl, rfl⟩
  · exact ⟨rfl, rfl⟩

theorem State.discardResults_late (cycle : s.fullCycle = true) (before : s.dev.stepsDone.contains 8 = false) (fused : s.dev.stepsDone.contains 2 = true) :
    2 ∈ (s.discardResults true).dev.stepsLate := by
  unfold State.discardResults
  extract_lets hlt t
  have done : t.dev.stepsDone.contains 2 = true := fused
  rw [if_pos (by simp only [cycle, before]; rfl), if_pos rfl, if_pos done]
  exact mem_insertNew_self ..

theorem State.discardResults_repeats (cycle : s.fullCycle = true) (before : s.dev.stepsDone.contains 8 = false) (allocated : s.dev.stepsDone.contains 4 = true)
    (out : s.inStep = false) : (s.discardResults false).twn.repeatPour = true := by
  unfold State.discardResults
  extract_lets hlt t
  have done : (t.dev.stepsDone.contains 4 && !t.inStep) = true := by
    show (s.dev.stepsDone.contains 4 && !s.inStep) = true
    rw [allocated, out]
    rfl
  rw [if_pos (by simp only [cycle, before]; rfl), if_neg (by simp), if_pos done]

theorem State.discardResults_fusionFrame (s : State) : Frame [.dev, .hlt] s (s.discardResults true) := by
  unfold State.discardResults
  extract_lets
  rw [if_pos rfl]
  split
  · split
    · intro p hp
      cases p <;> first | rfl | simp at hp
    · intro p hp
      cases p <;> first | rfl | simp at hp
  · exact Frame.refl _ s

theorem State.discardResults_controlFrame (s : State) : Frame [.twn, .hlt] s (s.discardResults false) := by
  unfold State.discardResults
  extract_lets
  split
  · rw [if_neg (by simp)]
    split
    · intro p hp
      cases p <;> first | rfl | simp at hp
    · intro p hp
      cases p <;> first | rfl | simp at hp
  · exact Frame.refl _ s

theorem State.claimSpare_frame (s : State) (f : Bool) : Frame [.hlt] s (s.claimSpare f) := ((State.claimSpare_acts s f).mono (m := partMask [.hlt]) rfl).framed

theorem State.discardResults_outside (s : State) (f : Bool) : (s.discardResults f).mram = s.mram ∧ (s.discardResults f).alarms = s.alarms :=
  ⟨(State.discardResults_acts s f).frame .mram rfl, (State.discardResults_acts s f).frame .alarms rfl⟩

/-! The answers to a mismatch. -/

theorem State.fusionPairFails (s : State) (n : Nat) (low : 1 ≤ n) (high : n ≤ 4) (used : n ∉ s.hlt.pairsOut) (free : s.spareTaken true = false) :
    ∃ t, exec (.lockstepMismatch n) s = .next t ∧
    t.hlt.mismatches = Nat.min 65535 (s.hlt.mismatches + 1) ∧ t.hlt.pairsOut = s.hlt.pairsOut ++ [n] ∧ t.hlt.fusionSpareNext = true ∧
    t.hlt.fusionSpareUsed = false ∧ t.hlt.controlSpareNext = s.hlt.controlSpareNext ∧
    t.hlt.discarded = (if s.fullCycle && !s.dev.stepsDone.contains 8 then s.hlt.discarded ++ [2] else s.hlt.discarded) ∧
    (s.fullCycle = true → s.dev.stepsDone.contains 8 = false → s.dev.stepsDone.contains 2 = true → 2 ∈ t.dev.stepsLate) ∧
    t.twn = { s.twn with selfL := true } ∧ n ∈ t.mram.riserPairs ∧ t.Alarmed 0x0C0C ∧ AlarmsBut [0x0C0C] s t ∧
    Frame [.alarms, .rcd, .mram, .dev, .twn, .hlt, .regs] s t := by
  have marked := s.pairMarked_marks n
  have next : exec (.lockstepMismatch n) s = .next (((s.pairMarked n).discardResults true).claimSpare true) := by
    rw [exec_lockstepMismatch_group used low (by omega), show decide (n ≤ 5) = true from decide_eq_true (by omega),
      show (n == 5 || n == 8) = false from by simp; omega, State.groupPairFails_claims ((marked.spareTaken true).trans free)]
  generalize s.pairMarked n = u at *
  have hlt : ((u.discardResults true).claimSpare true).hlt = { (u.discardResults true).hlt with fusionSpareNext := true } := rfl
  rw [u.discardResults_hlt true, marked.hlt, marked.fullCycle, marked.dev] at hlt
  have unused : s.hlt.fusionSpareUsed = false := by
    rw [State.spareTaken, if_pos rfl] at free
    exact (Bool.or_eq_false_iff.mp free).1
  have alarms (c : Nat) : ((u.discardResults true).claimSpare true).alarm? c = u.alarm? c := by
    have kept : ((u.discardResults true).claimSpare true).alarms = u.alarms := (u.discardResults_outside true).2
    rw [State.alarm?, kept, State.alarm?]
  refine ⟨_, next, ?_, ?_, ?_, ?_, ?_, ?_, fun cycle before fused => ?_, ?_, ?_, ?_, fun c hc => ?_, ?_⟩
  · rw [hlt]
  · rw [hlt]
    exact insertNew_of_not_mem used
  · rw [hlt]
  · rw [hlt]
    exact unused
  · rw [hlt]
  · rw [hlt]
    rfl
  · exact State.discardResults_late (marked.fullCycle.trans cycle) ((congrArg (fun d : Dev => d.stepsDone.contains 8) marked.dev).trans before)
      ((congrArg (fun d : Dev => d.stepsDone.contains 2) marked.dev).trans fused)
  · exact u.discardResults_twn.trans marked.twn
  · show n ∈ (u.discardResults true).mram.riserPairs
    rw [(u.discardResults_outside true).1]
    exact marked.riser
  · exact (alarms _).trans marked.alarmed
  · exact (alarms c).trans (marked.alarms c hc)
  · exact (marked.frame.mono (by simp)).trans ((u.discardResults_fusionFrame.mono (by simp)).trans ((State.claimSpare_frame _ true).mono (by simp)))

theorem State.controlPairFails (s : State) (n : Nat) (pair : n = 6 ∨ n = 7) (used : n ∉ s.hlt.pairsOut) (free : s.spareTaken false = false) :
    ∃ t, exec (.lockstepMismatch n) s = .next t ∧
    t.hlt.mismatches = Nat.min 65535 (s.hlt.mismatches + 1) ∧ t.hlt.pairsOut = s.hlt.pairsOut ++ [n] ∧ t.hlt.controlSpareNext = true ∧
    t.hlt.controlSpareUsed = false ∧ t.hlt.fusionSpareNext = s.hlt.fusionSpareNext ∧
    t.hlt.discarded = (if s.fullCycle && !s.dev.stepsDone.contains 8 then s.hlt.discarded ++ [3, 4] else s.hlt.discarded) ∧
    (s.fullCycle = true → s.dev.stepsDone.contains 8 = false → s.dev.stepsDone.contains 4 = true → s.inStep = false → t.twn.repeatPour = true) ∧
    t.twn.selfL = true ∧ t.twn.holder = s.twn.holder ∧ n ∈ t.mram.riserPairs ∧ t.Alarmed 0x0C0C ∧ AlarmsBut [0x0C0C] s t ∧
    Frame [.alarms, .rcd, .mram, .twn, .hlt, .regs] s t := by
  have marked := s.pairMarked_marks n
  have next : exec (.lockstepMismatch n) s = .next (((s.pairMarked n).discardResults false).claimSpare false) := by
    rw [exec_lockstepMismatch_group used (by omega) (by omega), show decide (n ≤ 5) = false from decide_eq_false (by omega),
      show (n == 5 || n == 8) = false from by simp; omega, State.groupPairFails_claims ((marked.spareTaken false).trans free)]
  generalize s.pairMarked n = u at *
  have hlt : ((u.discardResults false).claimSpare false).hlt = { (u.discardResults false).hlt with controlSpareNext := true } := rfl
  rw [u.discardResults_hlt false, marked.hlt, marked.fullCycle, marked.dev] at hlt
  have unused : s.hlt.controlSpareUsed = false := by
    rw [State.spareTaken, if_neg (by simp)] at free
    exact (Bool.or_eq_false_iff.mp free).1
  have alarms (c : Nat) : ((u.discardResults false).claimSpare false).alarm? c = u.alarm? c := by
    have kept : ((u.discardResults false).claimSpare false).alarms = u.alarms := (u.discardResults_outside false).2
    rw [State.alarm?, kept, State.alarm?]
  refine ⟨_, next, ?_, ?_, ?_, ?_, ?_, ?_, fun cycle before allocated out => ?_, ?_, ?_, ?_, ?_, fun c hc => ?_, ?_⟩
  · rw [hlt]
  · rw [hlt]
    exact insertNew_of_not_mem used
  · rw [hlt]
  · rw [hlt]
    exact unused
  · rw [hlt]
  · rw [hlt]
    rfl
  · exact State.discardResults_repeats (marked.fullCycle.trans cycle) ((congrArg (fun d : Dev => d.stepsDone.contains 8) marked.dev).trans before)
      ((congrArg (fun d : Dev => d.stepsDone.contains 4) marked.dev).trans allocated) (marked.inStep.trans out)
  · exact (u.discardResults_kept false).1.trans (congrArg Twn.selfL marked.twn)
  · exact (u.discardResults_kept false).2.trans (by rw [marked.twn])
  · show n ∈ (u.discardResults false).mram.riserPairs
    rw [(u.discardResults_outside false).1]
    exact marked.riser
  · exact (alarms _).trans marked.alarmed
  · exact (alarms c).trans (marked.alarms c hc)
  · exact (marked.frame.mono (by simp)).trans ((u.discardResults_controlFrame.mono (by simp)).trans ((State.claimSpare_frame _ false).mono (by simp)))

theorem State.sparePairFails (f : Bool) (n : Nat) (s : State) (spare : (f = true ∧ n = 5) ∨ (f = false ∧ n = 8)) (used : n ∉ s.hlt.pairsOut)
    (free : s.spareTaken f = false) : ∃ t,
    exec (.lockstepMismatch n) s = .next t ∧ t.spareTaken f = true ∧ t.spareTaken (!f) = s.spareTaken (!f) ∧
    t.hlt.mismatches = Nat.min 65535 (s.hlt.mismatches + 1) ∧ t.hlt.pairsOut = s.hlt.pairsOut ++ [n] ∧ t.hlt.discarded = s.hlt.discarded ∧
    t.twn = { s.twn with selfL := true } ∧ n ∈ t.mram.riserPairs ∧ t.Alarmed 0x0C0C ∧ AlarmsBut [0x0C0C] s t ∧
    Frame [.alarms, .rcd, .mram, .twn, .hlt, .regs] s t := by
  have marked := s.pairMarked_marks n
  have group : decide (n ≤ 5) = f := by rcases spare with ⟨rfl, rfl⟩ | ⟨rfl, rfl⟩ <;> rfl
  have next : exec (.lockstepMismatch n) s = .next ((s.pairMarked n).loseSpare f) := by
    rw [exec_lockstepMismatch_group used (by omega) (by omega), group, show (n == 5 || n == 8) = true from by simp; omega,
      State.groupPairFails_spare ((marked.spareTaken f).trans free)]
  have others := marked.spareTaken (!f)
  generalize s.pairMarked n = u at *
  have frame : Frame [.hlt] u (u.loseSpare f) := ((State.loseSpare_acts u f).mono (m := partMask [.hlt]) rfl).framed
  have counted : (u.loseSpare f).hlt.mismatches = u.hlt.mismatches ∧ (u.loseSpare f).hlt.pairsOut = u.hlt.pairsOut ∧ (u.loseSpare f).hlt.discarded = u.hlt.discarded := by
    cases f <;> exact ⟨rfl, rfl, rfl⟩
  have lost : (u.loseSpare f).spareTaken f = true ∧ (u.loseSpare f).spareTaken (!f) = u.spareTaken (!f) := by
    cases f <;> exact ⟨rfl, rfl⟩
  obtain ⟨mismatches, pairsOut, discarded⟩ := counted
  have alarms (c : Nat) : (u.loseSpare f).alarm? c = u.alarm? c := alarm_of_acts (State.loseSpare_acts u f) rfl
  refine ⟨_, next, lost.1, lost.2.trans others, ?_, ?_, ?_, ?_, ?_, ?_, fun c hc => ?_, ?_⟩
  · rw [mismatches, marked.hlt]
  · rw [pairsOut, marked.hlt]
    exact insertNew_of_not_mem used
  · rw [discarded, marked.hlt]
  · exact (frame .twn (by simp)).trans marked.twn
  · rw [show (u.loseSpare f).mram = u.mram from frame .mram (by simp)]
    exact marked.riser
  · exact (alarms _).trans marked.alarmed
  · exact (alarms c).trans (marked.alarms c hc)
  · exact marked.frame.trans (frame.mono (by simp))

/-- R11, R473: a pair that no spare replaces is a device fault. -/
theorem State.lastPairFails (n : Nat) (s : State) (sound : s.Sound) (used : n ∉ s.hlt.pairsOut)
    (last : n = 0 ∨ n = 9 ∨ (1 ≤ n ∧ n ≤ 5 ∧ s.spareTaken true = true) ∨ (6 ≤ n ∧ n ≤ 8 ∧ s.spareTaken false = true)) :
    ∃ t, exec (.lockstepMismatch n) s = .next t ∧ t.dev.st = .safe ∧ t.holds = false ∧
    t.hlt.deviceFault = true ∧ t.hlt.mismatches = Nat.min 65535 (s.hlt.mismatches + 1) ∧ n ∈ t.hlt.pairsOut ∧ n ∈ t.mram.riserPairs ∧ t.Alarmed 0x0007 ∧
    (s.dev.st ≠ .boot → t.InGlobalSafe) ∧ t.pat = s.pat ∧ t.flash = s.flash ∧ t.rcd.opTime = s.rcd.opTime := by
  have fault (u : State) (hlt : u.hlt = (s.pairOut n).hlt) (riser : n ∈ u.mram.riserPairs) (dev : u.dev = s.dev) (soundU : u.Sound)
      (kept : u.pat = s.pat ∧ u.flash = s.flash ∧ u.rcd.opTime = s.rcd.opTime) (k : Nat) :
      (u.deviceFault k).dev.st = .safe ∧ (u.deviceFault k).holds = false ∧
      (u.deviceFault k).hlt.deviceFault = true ∧ (u.deviceFault k).hlt.mismatches = Nat.min 65535 (s.hlt.mismatches + 1) ∧ n ∈ (u.deviceFault k).hlt.pairsOut ∧
      n ∈ (u.deviceFault k).mram.riserPairs ∧ (u.deviceFault k).Alarmed 0x0007 ∧ (s.dev.st ≠ .boot → (u.deviceFault k).InGlobalSafe) ∧
      (u.deviceFault k).pat = s.pat ∧ (u.deviceFault k).flash = s.flash ∧ (u.deviceFault k).rcd.opTime = s.rcd.opTime := by
    have faulted := u.deviceFault_faults k
    have acts := u.deviceFault_acts k
    have out := s.pairOut_pairsOut n
    refine ⟨faulted.st, faulted.holds, ?_, ?_, ?_, ?_, faulted.alarmed, fun past => faulted.safe soundU (dev ▸ past), ?_, ?_, ?_⟩
    · rw [faulted.hlt]
    · rw [faulted.hlt, hlt]
      rfl
    · rw [faulted.hlt, hlt]
      exact out
    · rw [faulted.pairs]
      exact riser
    · exact (acts.frame .pat rfl).trans kept.1
    · exact (acts.frame .flash rfl).trans kept.2.1
    · exact (acts.frame .opTime rfl).trans kept.2.2
  by_cases single : n = 0 ∨ n = 9
  · refine ⟨(s.pairOut n).deviceFault faultKeeperLink, ?_, fault _ rfl (s.pairOut_riser n) rfl (State.pairOut_sound sound) ⟨rfl, rfl, rfl⟩ _⟩
    rw [exec_lockstepMismatch_fails used (by omega)]
    refine congrArg Host.Outcome.next ?_
    unfold State.pairFails
    extract_lets
    rw [if_neg (by omega), if_pos (by simp; omega)]
    rfl
  · have marked := s.pairMarked_marks n
    have opTime : (s.pairMarked n).rcd.opTime = s.rcd.opTime := (State.raise_acts { s.pairOut n with twn := { (s.pairOut n).twn with selfL := true } } 0x0C0C (pay [n])).frame .opTime rfl
    refine ⟨(s.pairMarked n).deviceFault faultNoPair, ?_, fault _ (marked.hlt.trans rfl) marked.riser marked.dev (marked.sound sound)
      ⟨marked.frame .pat (by simp), marked.frame .flash (by simp), opTime⟩ _⟩
    rw [exec_lockstepMismatch_group used (by omega) (by omega), State.groupPairFails_none]
    rw [marked.spareTaken]
    by_cases fusion : n ≤ 5
    · rw [decide_eq_true fusion]
      rcases last with rfl | rfl | ⟨_, _, taken⟩ | ⟨low, _, _⟩
      · exact absurd (.inl rfl) single
      · exact absurd (.inr rfl) single
      · exact taken
      · omega
    · rw [decide_eq_false fusion]
      rcases last with rfl | rfl | ⟨_, high, _⟩ | ⟨_, _, taken⟩
      · exact absurd (.inl rfl) single
      · exact absurd (.inr rfl) single
      · omega
      · exact taken

/-- R473: a mismatch of the safety pair. -/
theorem State.safetyPairFails (s : State) (sound : s.Sound) (used : 10 ∉ s.hlt.pairsOut) :
    ∃ t, exec (.lockstepMismatch 10) s = .next t ∧ t.InGlobalSafe ∧ t.saf.ownFault = true ∧ 10 ∈ t.hlt.pairsOut ∧
    10 ∈ t.mram.riserPairs ∧ (s.dev.st ≠ .boot → t.dev.st = .safe) ∧ (s.inSafe = false → t.fld F_SAF_CAUSE_CAUSE = 9 ∧ t.Alarmed 0x0A04) ∧
    t.pat = s.pat ∧ t.flash = s.flash ∧ t.rcd.opTime = s.rcd.opTime := by
  have next : exec (.lockstepMismatch 10) s = .next ({ s.pairOut 10 with saf := { (s.pairOut 10).saf with ownFault := true } }.globalSafe 9) :=
    exec_lockstepMismatch_fails used (by decide)
  have riser := s.pairOut_riser 10
  have out := s.pairOut_pairsOut 10
  have soundU : State.Sound { s.pairOut 10 with saf := { (s.pairOut 10).saf with ownFault := true } } :=
    (State.pairOut_sound sound).of_eq rfl rfl rfl rfl rfl rfl rfl rfl rfl rfl rfl rfl rfl rfl
  have same : ({ s.pairOut 10 with saf := { (s.pairOut 10).saf with ownFault := true } } : State).dev = s.dev ∧
      ({ s.pairOut 10 with saf := { (s.pairOut 10).saf with ownFault := true } } : State).inSafe = s.inSafe := ⟨rfl, rfl⟩
  have faulty : ({ s.pairOut 10 with saf := { (s.pairOut 10).saf with ownFault := true } } : State).saf.ownFault = true := rfl
  have kept : ({ s.pairOut 10 with saf := { (s.pairOut 10).saf with ownFault := true } } : State).pat = s.pat ∧
    ({ s.pairOut 10 with saf := { (s.pairOut 10).saf with ownFault := true } } : State).flash = s.flash ∧
    ({ s.pairOut 10 with saf := { (s.pairOut 10).saf with ownFault := true } } : State).rcd.opTime = s.rcd.opTime := ⟨rfl, rfl, rfl⟩
  replace riser : 10 ∈ ({ s.pairOut 10 with saf := { (s.pairOut 10).saf with ownFault := true } } : State).mram.riserPairs := riser
  replace out : 10 ∈ ({ s.pairOut 10 with saf := { (s.pairOut 10).saf with ownFault := true } } : State).hlt.pairsOut := out
  generalize ({ s.pairOut 10 with saf := { (s.pairOut 10).saf with ownFault := true } } : State) = u at *
  have acts := State.globalSafe_acts u 9
  obtain ⟨safed, st⟩ := globalSafe_spec soundU 9
  refine ⟨_, next, safed.global, ?_, ?_, ?_, fun past => ?_, fun entering => ?_, ?_, ?_, ?_⟩
  · rw [(u.globalSafe_units 9).fault]
    exact faulty
  · rw [acts.frame .hlt rfl]
    exact out
  · rw [(u.globalSafe_units 9).pairs]
    exact riser
  · rw [st, same.1, if_neg past]
  · exact globalSafe_cause soundU 9 (by decide) (same.2.trans entering)
  · exact (acts.frame .pat rfl).trans kept.1
  · exact (acts.frame .flash rfl).trans kept.2.1
  · exact (acts.frame .opTime rfl).trans kept.2.2

end

end Sys2Proof.Machine

/-! Memory errors, scrub passes and rail faults (R472, R473, R477, R481, R500). -/
namespace Sys2Proof.Machine
set_option Elab.async false

section
variable {s t u : State} {n k c a b e : Nat} {f : Bool}

/-! Memory errors (R473, R477). -/

theorem State.retireBank_copies (kept : b ∉ s.mram.riserBanks) (idle : s.hlt.bankCopy = none) (spare : s.mram.riserBanks.length < 2) :
    s.retireBank b = { s with hlt := { s.hlt with bankCopy := some (b, 32 + s.mram.riserBanks.length) } } := by
  have left : s.bankSpares ≠ 0 := by rw [State.bankSpares]; omega
  unfold State.retireBank
  rw [if_neg (by simp [kept, idle]), if_neg left]

theorem State.retireBank_faults (kept : b ∉ s.mram.riserBanks) (idle : s.hlt.bankCopy = none) (used : 2 ≤ s.mram.riserBanks.length) :
    s.retireBank b = s.deviceFault faultNoBank := by
  have left : s.bankSpares = 0 := by rw [State.bankSpares]; omega
  unfold State.retireBank
  rw [if_neg (by simp [kept, idle]), if_pos left]

/-- R473: a corrected error of bank `b` is counted. -/
def State.bankCounted (s : State) (b : Nat) : State :=
  { s with hlt := { s.hlt with
    eccCorr := Nat.min 4294967295 (s.hlt.eccCorr + 1), bankCorr := aset s.hlt.bankCorr b (aget 0 s.hlt.bankCorr b + 1),
    corrHour := aset s.hlt.corrHour 0 (Nat.min 65535 (aget 0 s.hlt.corrHour 0 + 1)) } }

/-- R473: an uncorrectable error is counted, and marks the cycle (bit E) where it lies in its data. -/
def State.uncorrected (s : State) (c : Bool) : State :=
  { s with hlt := { s.hlt with eccUncorr := Nat.min 4294967295 (s.hlt.eccUncorr + 1) }, twn := { s.twn with selfE := s.twn.selfE || c } }

theorem exec_eccError_corrected (s : State) (b : Nat) (c : Bool) :
    exec (.eccError b true c) s = .next (if s.par 0x0822 < aget 0 s.hlt.bankCorr b + 1 then (s.bankCounted b).retireBank b else s.bankCounted b) := rfl

theorem exec_eccError_uncorrected (s : State) (b : Nat) (c : Bool) : exec (.eccError b false c) s = .next ((s.uncorrected c).retireBank b) := by
  rw [exec_eccError]
  refine congrArg Host.Outcome.next ?_
  rw [if_neg (by simp)]
  refine congrArg (fun u => State.retireBank u b) ?_
  cases c
  · rw [if_neg (by simp), State.uncorrected, Bool.or_false]
  · rw [if_pos rfl, State.uncorrected, Bool.or_true]

/-! Scrub passes (R472, R500). -/

/-- What the end of a periodic check leaves, `i` after its last end. -/
structure CheckEnded (s t : State) (k i : Nat) : Prop where
  hlt : t.hlt = { s.hlt with checkAt := aset s.hlt.checkAt k t.tim.el }
  time : ∀ e, afind s.hlt.checkAt k = some e → t.tim.el = Nat.max s.tim.el (e + i)
  frame : Frame [.tim, .hlt, .elapsed, .working] s t

theorem State.checkEnds_ends (s : State) (k i : Nat) : CheckEnded s (s.checkEnds k i) k i := by
  refine ⟨?_, fun e known => ?_, ((s.checkEnds_acts k i).mono (m := partMask [.tim, .hlt, .elapsed, .working]) rfl).framed⟩
  · unfold State.checkEnds
    split <;> rfl
  · unfold State.checkEnds
    rw [known]
    exact s.reachEl_max (e + i)

theorem scrubInterval_eq (memory : k < 5) : scrubInterval k = (if k = 2 then 10 else if k = 4 then 86400 else 600) * 1000000000 := by
  have table : nth [600, 600, 10, 600, 86400] k = if k = 2 then 10 else if k = 4 then 86400 else 600 := by
    interval_cases k <;> rfl
  rw [scrubInterval, table]
  rfl

/-- R472: a scrub pass counted, after its check. -/
def State.scrubbed (s : State) (k n : Nat) : State :=
  { s with hlt := { s.hlt with
    scrubPasses := Nat.min 65535 (s.hlt.scrubPasses + 1), eccCorr := Nat.min 4294967295 (s.hlt.eccCorr + n),
    corrHour := aset s.hlt.corrHour k (Nat.min 65535 (aget 0 s.hlt.corrHour k + n)) } }

/-- What a scrub pass counts. -/
structure Scrubbed (s t : State) (k n i : Nat) : Prop where
  hlt : t.hlt = { s.hlt with checkAt := aset s.hlt.checkAt k t.tim.el, scrubPasses := Nat.min 65535 (s.hlt.scrubPasses + 1),
                             eccCorr := Nat.min 4294967295 (s.hlt.eccCorr + n),
                             corrHour := aset s.hlt.corrHour k (Nat.min 65535 (aget 0 s.hlt.corrHour k + n)) }
  time : ∀ e, afind s.hlt.checkAt k = some e → t.tim.el = Nat.max s.tim.el (e + i)
  frame : Frame [.tim, .hlt, .elapsed, .working] s t

theorem State.scrubbed_counts (s : State) (k n i : Nat) : Scrubbed s ((s.checkEnds k i).scrubbed k n) k n i := by
  have ended := s.checkEnds_ends k i
  refine ⟨?_, ended.time, ended.frame.trans ?_⟩
  · have tim : ((s.checkEnds k i).scrubbed k n).tim = (s.checkEnds k i).tim := rfl
    rw [tim, State.scrubbed, ended.hlt]
  · intro p hp
    cases p <;> first | rfl | simp at hp

theorem exec_eccScrub_boot (boot : s.dev.st = .boot) : exec (.eccScrub k n) s = .next s := by
  rw [exec_eccScrub, execEccScrub, if_pos boot]

theorem exec_eccScrub_checks (past : s.dev.st ≠ .boot) : exec (.eccScrub k n) s =
    .next (if k = 4 then ((s.checkEnds k (scrubInterval k)).scrubbed k n).scrubRecords else (s.checkEnds k (scrubInterval k)).scrubbed k n) := by
  rw [exec_eccScrub, execEccScrub, if_neg past]
  rfl

theorem State.badSlot_of_mram (mram : t.mram = s.mram) (i : Nat) : t.badSlot i = s.badSlot i := by
  rw [State.badSlot, State.badSlot, mram]

theorem State.recUsed_of_mram (mram : t.mram = s.mram) : t.recUsed = s.recUsed := by rw [State.recUsed, State.recUsed, mram]

theorem State.scrubRecords_good (good : ∀ i < s.recUsed, s.badSlot ((s.mram.base + i) % 131072) = false) : s.scrubRecords = s := by
  have found : (List.range s.recUsed).find? (fun i => s.badSlot ((s.mram.base + i) % 131072)) = none :=
    List.find?_eq_none.mpr fun i hi => by simp [good i (List.mem_range.mp hi)]
  rw [State.scrubRecords, found]

theorem State.scrubRecords_alarms (s : State) : AlarmsBut [0x0B06] s s.scrubRecords := by
  intro c hc
  unfold State.scrubRecords
  split
  · exact (alarm_raise_other fun same => hc (by simp [same])).trans (alarm_of_acts (State.event_acts ..) rfl)
  · rfl

theorem State.scrubRecords_bad (sound : s.Sound) (bad : ∃ i < s.recUsed, s.badSlot ((s.mram.base + i) % 131072) = true) :
    s.scrubRecords.Alarmed 0x0B06 ∧ s.scrubRecords.flag F_REC_EVENT_CRC_EVT = true := by
  obtain ⟨i, kept, fails⟩ := bad
  have some : ((List.range s.recUsed).find? (fun i => s.badSlot ((s.mram.base + i) % 131072))).isSome = true :=
    List.find?_isSome.mpr ⟨i, List.mem_range.mpr kept, fails⟩
  obtain ⟨j, found⟩ := Option.isSome_iff_exists.mp some
  rw [State.scrubRecords, found]
  have marked : (s.event F_REC_EVENT_CRC_EVT).flag F_REC_EVENT_CRC_EVT = true := flag_event sound F_REC_EVENT_CRC_EVT rfl
  have soundU : (s.event F_REC_EVENT_CRC_EVT).Sound := (State.event_acts ..).sound sound
  have raised : Changes [.alarms, .rcd, .regs] recFields [0x0B06] (s.event F_REC_EVENT_CRC_EVT)
      ((s.event F_REC_EVENT_CRC_EVT).raise 0x0B06 (pay [s.mram.base + j])) := (Changes.refl soundU).raise 0x0B06 _
  exact ⟨(alarm_raise ..).trans (if_pos rfl), (raised.flag F_REC_EVENT_CRC_EVT).trans marked⟩

/-! Rail faults (R481). -/

theorem exec_railFault_none (inside : afind s.hlt.railOut k = none) : exec (.railFault k) s = .next s := by
  rw [exec_railFault, execRailFault, inside]

/-- A rail that has been outside its window since `e` is marked bad. -/
def State.railMarked (s : State) (k e : Nat) : State :=
  ({ s.reachEl e with hlt := { (s.reachEl e).hlt with railsBad := insertNew (s.reachEl e).hlt.railsBad k } }).raise 0x0C06 (pay [k])

theorem exec_railFault_some (outside : afind s.hlt.railOut k = some a) : exec (.railFault k) s = .next ((s.railMarked k (a + ms)).deviceFault faultRail) := by
  rw [exec_railFault, execRailFault, outside]
  rfl

/-- What a rail fault leaves. -/
structure RailFailed (s t : State) (k e : Nat) : Prop where
  time : t.tim.el = Nat.max s.tim.el e
  bad : k ∈ t.hlt.railsBad
  fault : t.hlt.deviceFault = true
  st : t.dev.st = .safe
  holds : t.holds = false
  rail : t.Alarmed 0x0C06
  device : t.Alarmed 0x0007
  safe : s.Sound → s.dev.st ≠ .boot → t.InGlobalSafe
  pat : t.pat = s.pat
  flash : t.flash = s.flash
  opTime : t.rcd.opTime = s.rcd.opTime

theorem State.railMarked_faults (s : State) (k e : Nat) : RailFailed s ((s.railMarked k e).deviceFault faultRail) k e := by
  have raised : Acts _ _ (s.railMarked k e) :=
    State.raise_acts { s.reachEl e with hlt := { (s.reachEl e).hlt with railsBad := insertNew (s.reachEl e).hlt.railsBad k } } 0x0C06 (pay [k])
  have time : (s.railMarked k e).tim.el = Nat.max s.tim.el e := (congrArg Tim.el (raised.frame .tim rfl)).trans (s.reachEl_max e)
  have bad : k ∈ (s.railMarked k e).hlt.railsBad := by
    rw [raised.frame .hlt rfl]
    exact mem_insertNew_self ..
  have alarmed : (s.railMarked k e).Alarmed 0x0C06 := (alarm_raise ..).trans (if_pos rfl)
  have dev : (s.railMarked k e).dev = s.dev := raised.frame .dev rfl
  have soundM (sound : s.Sound) : (s.railMarked k e).Sound :=
    raised.sound (sound.of_eq rfl rfl rfl rfl rfl rfl rfl rfl rfl rfl rfl rfl rfl rfl)
  have pat : (s.railMarked k e).pat = s.pat := raised.frame .pat rfl
  have flash : (s.railMarked k e).flash = s.flash := raised.frame .flash rfl
  have opTime : (s.railMarked k e).rcd.opTime = s.rcd.opTime := raised.frame .opTime rfl
  have faulted := (s.railMarked k e).deviceFault_faults faultRail
  have acts := (s.railMarked k e).deviceFault_acts faultRail
  generalize s.railMarked k e = u at *
  refine ⟨(congrArg Tim.el (acts.frame .tim rfl)).trans time, ?_, ?_, faulted.st, faulted.holds, ?_, faulted.alarmed,
    fun sound past => faulted.safe (soundM sound) (dev ▸ past), (acts.frame .pat rfl).trans pat, (acts.frame .flash rfl).trans flash, (acts.frame .opTime rfl).trans opTime⟩
  · rw [faulted.hlt]
    exact bad
  · rw [faulted.hlt]
  · exact (faulted.alarms 0x0C06 (by decide)).trans alarmed

theorem exec_railFault_fails (outside : afind s.hlt.railOut k = some a) : ∃ t, exec (.railFault k) s = .next t ∧ RailFailed s t k (a + 1000000) :=
  ⟨_, exec_railFault_some outside, s.railMarked_faults k (a + 1000000)⟩

end

/-- Settles O47: a mismatch retires its pair, a memory error its bank; with no spare left, and for the keeper, the link or a rail, a device fault follows. -/
theorem hardwareFaultsAreCountedSparedOrStopTheDevice : Obligations.HardwareFaultsAreCountedSparedOrStopTheDevice := by
  refine ⟨fun n s out => ?_, fun n s low high used free => s.fusionPairFails n low high used free, fun n s pair used free => s.controlPairFails n pair used free,
    fun f n s spare used free => State.sparePairFails f n s spare used free, fun n s sound used last => State.lastPairFails n s sound used last,
    fun s sound used => s.safetyPairFails sound used, fun b c s few => ?_, fun b c s many kept idle spare => ?_, fun b c s kept idle spare => ?_,
    fun b c s sound kept idle used => ?_, fun k n s boot => exec_eccScrub_boot boot, fun k n s memory past => ?_, fun n s past => ?_,
    fun r s inside => exec_railFault_none inside, fun r a s sound outside => ?_⟩
  · rw [exec_lockstepMismatch, execLockstepMismatch, if_pos (by simpa using out)]
  · rw [exec_eccError_corrected, if_neg (by omega)]
    rfl
  · refine ⟨(s.bankCounted b).retireBank b, ?_, ?_, ?_, ?_, ?_⟩
    · rw [exec_eccError_corrected, if_pos (by omega)]
    all_goals rw [State.retireBank_copies (s := s.bankCounted b) kept idle spare]
    · rfl
    · rfl
    · exact aget_aset_self
    · intro p hp
      cases p <;> first | rfl | simp at hp
  · refine ⟨(s.uncorrected c).retireBank b, exec_eccError_uncorrected .., ?_, ?_, ?_, ?_⟩
    all_goals rw [State.retireBank_copies (s := s.uncorrected c) kept idle spare]
    · rfl
    · rfl
    · rfl
    · intro p hp
      cases p <;> first | rfl | simp at hp
  · have faulted := (s.uncorrected c).deviceFault_faults faultNoBank
    have acts := (s.uncorrected c).deviceFault_acts faultNoBank
    refine ⟨(s.uncorrected c).deviceFault faultNoBank, ?_, ?_, ?_, faulted.st, faulted.holds, faulted.alarmed, acts.frame .pat rfl, acts.frame .flash rfl⟩
    · rw [exec_eccError_uncorrected, State.retireBank_faults (s := s.uncorrected c) kept idle used]
    · rw [faulted.hlt]
      rfl
    · rw [faulted.hlt]
  · have scrubbed := s.scrubbed_counts k n (scrubInterval k)
    have acts := State.scrubRecords_acts ((s.checkEnds k (scrubInterval k)).scrubbed k n)
    rw [exec_eccScrub_checks past]
    rw [scrubInterval_eq memory] at *
    by_cases mram : k = 4
    · rw [if_pos mram]
      refine ⟨_, rfl, ?_, fun e known => ?_, fun other => absurd mram other, ?_⟩
      · rw [acts.frame .hlt rfl, show (State.scrubRecords _).tim = _ from acts.frame .tim rfl]
        exact scrubbed.hlt
      · rw [show (State.scrubRecords _).tim = _ from acts.frame .tim rfl]
        exact scrubbed.time e known
      · exact (scrubbed.frame.mono (by simp)).trans ((acts.mono (m := partMask [.alarms, .rcd, .regs]) rfl).framed.mono (by simp))
    · rw [if_neg mram]
      exact ⟨_, rfl, scrubbed.hlt, scrubbed.time, fun _ => scrubbed.frame, scrubbed.frame.mono (by simp)⟩
  · have scrubbed := s.scrubbed_counts 4 n (scrubInterval 4)
    have acts := State.scrubRecords_acts ((s.checkEnds 4 (scrubInterval 4)).scrubbed 4 n)
    have soundS (sound : s.Sound) : ((s.checkEnds 4 (scrubInterval 4)).scrubbed 4 n).Sound :=
      ((State.checkEnds_acts s 4 (scrubInterval 4)).sound sound).of_eq rfl rfl rfl rfl rfl rfl rfl rfl rfl rfl rfl rfl rfl rfl
    rw [exec_eccScrub_checks past, if_pos rfl]
    generalize (s.checkEnds 4 (scrubInterval 4)).scrubbed 4 n = u at *
    have mram : u.mram = s.mram := scrubbed.frame .mram (by simp)
    have hlt : u.scrubRecords.hlt = u.hlt := acts.frame .hlt rfl
    refine ⟨_, rfl, ?_, ?_, ?_, fun good => ?_, fun sound bad => ?_, fun c hc => ?_, ?_⟩
    · rw [hlt, scrubbed.hlt]
    · rw [hlt, scrubbed.hlt]
    · rw [hlt, scrubbed.hlt]
      exact aget_aset_self
    · rw [State.scrubRecords_good (s := u) (by simpa only [State.recUsed_of_mram mram, State.badSlot_of_mram mram, mram] using good)]
      exact scrubbed.frame
    · exact State.scrubRecords_bad (soundS sound) (by simpa only [State.recUsed_of_mram mram, State.badSlot_of_mram mram, mram] using bad)
    · rw [u.scrubRecords_alarms c hc]
      rw [State.alarm?, scrubbed.frame .alarms (by simp)]
      rfl
    · exact (scrubbed.frame.mono (by simp)).trans ((acts.mono (m := partMask [.alarms, .rcd, .regs]) rfl).framed.mono (by simp))
  · obtain ⟨t, next, failed⟩ := exec_railFault_fails outside
    exact ⟨t, next, failed.time, failed.bad, failed.fault, failed.st, failed.holds, failed.rail, failed.device, failed.safe sound, failed.pat, failed.flash, failed.opTime⟩

end Sys2Proof.Machine

/-! THERMAL_UPDATE (R481, R485): the samples of the rails, the step of the nodes and the diode readings. -/
namespace Sys2Proof.Machine
set_option Elab.async false

section
variable {s t u : State} {n k c a b e r mv ma : Nat}

/-! The instant of a periodic event. -/

/-- Time after an event that comes `i` after its last one, where there was one. -/
def State.after (s : State) (last : Option Nat) (i : Nat) : State :=
  match last with
  | some e => s.reachEl (e + i)
  | none => s

theorem State.after_frame (s : State) (o : Option Nat) (i : Nat) : Frame [.tim, .elapsed, .working] s (s.after o i) := by
  unfold State.after
  split
  · exact ((State.reachEl_acts s _).mono (m := partMask [.tim, .elapsed, .working]) rfl).framed
  · exact Frame.refl _ s

theorem State.after_sound (sound : s.Sound) (o : Option Nat) (i : Nat) : (s.after o i).Sound := by
  unfold State.after
  split
  · exact (State.reachEl_acts s _).sound sound
  · exact sound

theorem State.after_some (s : State) (e i : Nat) : (s.after (some e) i).tim.el = Nat.max s.tim.el (e + i) := s.reachEl_max (e + i)

theorem State.after_same (s : State) (o : Option Nat) (i : Nat) : (s.after o i).regs = s.regs ∧ (s.after o i).thm = s.thm ∧ (s.after o i).hlt = s.hlt ∧
    (s.after o i).mram = s.mram ∧ (s.after o i).pat = s.pat ∧ (s.after o i).alarms = s.alarms :=
  ⟨s.after_frame o i .regs (by simp), s.after_frame o i .thm (by simp), s.after_frame o i .hlt (by simp), s.after_frame o i .mram (by simp),
    s.after_frame o i .pat (by simp), s.after_frame o i .alarms (by simp)⟩

/-! One sample of a rail (R481). -/

/-- The registers of the samples. -/
def railFields : List Fld := (List.range 8).flatMap fun r => [word32 (A_HLT_RAIL_VI r), F_HLT_RAIL_TRIM_POWER r]

/-- What the sample of rail `r` leaves. -/
structure RailSampled (s t : State) (r mv ma : Nat) : Prop where
  vi : t.reg (A_HLT_RAIL_VI r) = halves mv ma
  others : ∀ q, q ≠ r → t.reg (A_HLT_RAIL_VI q) = s.reg (A_HLT_RAIL_VI q)
  inside : s.railOff r mv = false → afind t.hlt.railOut r = none
  outside : s.railOff r mv = true → afind t.hlt.railOut r = some ((afind s.hlt.railOut r).getD s.tim.el)
  windows : ∀ q, q ≠ r → afind t.hlt.railOut q = afind s.hlt.railOut q
  changes : r < 8 → Changes [.hlt, .regs] railFields [] s t

theorem mem_railFields (rail : r < 8) : word32 (A_HLT_RAIL_VI r) ∈ railFields ∧ F_HLT_RAIL_TRIM_POWER r ∈ railFields :=
  ⟨List.mem_flatMap.mpr ⟨r, List.mem_range.mpr rail, List.mem_cons_self ..⟩,
    List.mem_flatMap.mpr ⟨r, List.mem_range.mpr rail, List.mem_cons_of_mem _ (List.mem_cons_self ..)⟩⟩

/-- The two registers of a sample. -/
def State.railShown (s : State) (r mv ma : Nat) : State := (s.setReg (A_HLT_RAIL_VI r) (halves mv ma)).setFld (F_HLT_RAIL_TRIM_POWER r) (mv * ma / 1000)

/-- Since when rail `r` has been outside its window. -/
def State.railSince (s : State) (r mv : Nat) : List (Nat × Nat) :=
  if !s.railOff r mv then adel s.hlt.railOut r else if (afind s.hlt.railOut r).isSome then s.hlt.railOut else aset s.hlt.railOut r s.tim.el

theorem State.railSince_inside (inside : s.railOff r mv = false) : s.railSince r mv = adel s.hlt.railOut r := by rw [State.railSince, inside]; rfl

theorem State.railSince_outside (outside : s.railOff r mv = true) : afind (s.railSince r mv) r = some ((afind s.hlt.railOut r).getD s.tim.el) := by
  rw [State.railSince, outside, if_neg (by simp)]
  cases since : afind s.hlt.railOut r with
  | none => rw [if_neg (by simp), afind_aset_self, Option.getD_none]
  | some e => rw [if_pos (by simp), since, Option.getD_some]

theorem State.railSince_other (other : k ≠ r) : afind (s.railSince r mv) k = afind s.hlt.railOut k := by
  unfold State.railSince
  split
  · exact afind_adel_other other
  · split
    · rfl
    · exact afind_aset_other other

theorem State.sampleRail_eq (s : State) (r mv ma : Nat) : s.sampleRail r mv ma =
    { s.railShown r mv ma with hlt := { s.hlt with railOut := s.railSince r mv } } := rfl

theorem State.sampleRail_samples (sound : s.Sound) (r mv ma : Nat) : RailSampled s (s.sampleRail r mv ma) r mv ma := by
  have set := sound.setReg (A_HLT_RAIL_VI r) (halves mv ma)
  have power (q : Nat) : A_HLT_RAIL_VI q ≠ (F_HLT_RAIL_TRIM_POWER r).addr := by
    show 0xb0080 + 8 * q ≠ 0xb0084 + 8 * r
    omega
  refine ⟨?_, fun q other => ?_, fun inside => ?_, State.railSince_outside, fun q => State.railSince_other, fun rail => ?_⟩
  · refine (reg_setFld set _ _ _ (power r)).trans ?_
    rw [reg_setReg sound, if_pos rfl]
  · refine (reg_setFld set _ _ _ (power q)).trans ?_
    rw [reg_setReg sound, if_neg]
    show 0xb0080 + 8 * q ≠ 0xb0080 + 8 * r
    omega
  · show afind (s.railSince r mv) r = none
    rw [State.railSince_inside inside, afind_adel_self]
  · rw [State.sampleRail_eq]
    exact (((Changes.refl sound).setReg _ _ (mem_railFields rail).1).setFld _ _ rfl (mem_railFields rail).2).upd _

/-- The samples of a list of rails from rail `k` on. -/
structure RailsSampled (s t : State) (l : List (Nat × Nat)) (k : Nat) : Prop where
  shown : ∀ i x, l[i]? = some x → t.reg (A_HLT_RAIL_VI (k + i)) = halves x.1 x.2 ∧ (s.railOff (k + i) x.1 = false → afind t.hlt.railOut (k + i) = none) ∧
    (s.railOff (k + i) x.1 = true → afind t.hlt.railOut (k + i) = some ((afind s.hlt.railOut (k + i)).getD s.tim.el))
  before : ∀ q, q < k → t.reg (A_HLT_RAIL_VI q) = s.reg (A_HLT_RAIL_VI q) ∧ afind t.hlt.railOut q = afind s.hlt.railOut q
  changes : Changes [.hlt, .regs] railFields [] s t

theorem State.railOff_of_mram (mram : t.mram = s.mram) (r mv : Nat) : t.railOff r mv = s.railOff r mv := by
  rw [State.railOff, State.railOff, State.railValue, State.railValue, State.trim, State.trim, mram]

theorem State.sampleRails_sample (l : List (Nat × Nat)) (s : State) (k : Nat) (sound : s.Sound) (few : k + l.length ≤ 8) :
    RailsSampled s ((l.zipIdx k).foldl (fun (u : State) e => u.sampleRail e.2 e.1.1 e.1.2) s) l k := by
  induction l generalizing s k with
  | nil => exact ⟨fun i x h => by simp at h, fun _ _ => ⟨rfl, rfl⟩, .refl sound⟩
  | cons y l ih =>
    have first := State.sampleRail_samples sound k y.1 y.2
    have count : (y :: l).length = l.length + 1 := rfl
    have changed := first.changes (by omega)
    have rest := ih (s.sampleRail k y.1 y.2) (k + 1) changed.sound (by omega)
    have mram : (s.sampleRail k y.1 y.2).mram = s.mram := changed.frame .mram (by simp)
    have tim : (s.sampleRail k y.1 y.2).tim = s.tim := changed.frame .tim (by simp)
    rw [List.zipIdx_cons, List.foldl_cons]
    refine ⟨fun i x found => ?_, fun q low => ?_, changed.trans rest.changes⟩
    · cases i with
      | zero =>
        obtain rfl : y = x := by simpa using found
        obtain ⟨reg, window⟩ := rest.before k (by omega)
        exact ⟨reg.trans first.vi, fun inside => window.trans (first.inside inside), fun outside => window.trans (first.outside outside)⟩
      | succ i =>
        obtain ⟨reg, inside, outside⟩ := rest.shown i x (by simpa using found)
        rw [State.railOff_of_mram mram] at inside outside
        rw [first.windows _ (by omega), tim] at outside
        have place : k + 1 + i = k + (i + 1) := by omega
        rw [place] at reg inside outside
        exact ⟨reg, inside, outside⟩
    · obtain ⟨reg, window⟩ := rest.before q (by omega)
      exact ⟨reg.trans (first.others q (by omega)), window.trans (first.windows q (by omega))⟩

/-! The diode readings (R486). -/

/-- The registers of the diode readings. -/
def diodeFields : List Fld := (List.range 4).map F_HLT_DIODE_TEMP ++ F_HLT_EVENT_DIODE_EVT :: recFields

/-- The diodes whose readings fail. -/
def badReadings (d : List Int) : List Nat := (List.range 4).filter fun k => !diodeGood (nthI d k)

theorem mem_badReadings {d : List Int} : k ∈ badReadings d ↔ k < 4 ∧ (nthI d k < -500 ∨ 1500 < nthI d k) := by
  rw [badReadings, List.mem_filter, List.mem_range]
  refine and_congr_right fun _ => ?_
  rw [Bool.not_eq_true', diodeGood, Bool.and_eq_false_iff, decide_eq_false_iff_not, decide_eq_false_iff_not, not_le, not_le]

/-- One diode taken (R486). -/
def State.readDiode (d : List Int) (u : State) (k : Nat) : State :=
  if (badReadings d).contains k then ((u.setFld (F_HLT_DIODE_TEMP k) 0x8000).event F_HLT_EVENT_DIODE_EVT).raise 0x0C05 (pay [k])
  else u.setInt (F_HLT_DIODE_TEMP k) (nthI d k)

theorem State.readDiodes_eq (s : State) (d : List Int) : s.readDiodes d =
    State.each { s with thm := { s.thm with diodes := d, badDiodes := badReadings d } } (List.range 4) (State.readDiode d) := rfl

theorem State.readDiode_acts (d : List Int) (u : State) (k : Nat) : Acts (partMask [.alarms, .rcd, .regs]) u (u.readDiode d k) := by
  unfold State.readDiode
  split
  · exact (((Acts.refl u).step (State.setFld_acts ..) rfl).step (State.event_acts ..) rfl).step (State.raise_acts ..) rfl
  · exact (State.setInt_acts ..).mono rfl

theorem State.readDiode_alarm (d : List Int) (u : State) (k : Nat) : (u.readDiode d k).alarm? c = u.alarm? c ∨ (c = 0x0C05 ∧ (u.readDiode d k).Alarmed 0x0C05) := by
  unfold State.readDiode
  split
  · by_cases own : 0x0C05 = c
    · exact .inr ⟨own.symm, (alarm_raise ..).trans (if_pos rfl)⟩
    · exact .inl ((alarm_raise_other own).trans ((alarm_of_acts (State.event_acts ..) rfl).trans (alarm_of_acts (State.setFld_acts ..) rfl)))
  · exact .inl (alarm_of_acts (State.setInt_acts ..) rfl)

theorem State.readDiode_alarmed {d : List Int} (bad : k ∈ badReadings d) (u : State) : (u.readDiode d k).Alarmed 0x0C05 := by
  rw [State.readDiode, if_pos (List.contains_iff_mem.mpr bad)]
  exact (alarm_raise ..).trans (if_pos rfl)

theorem State.each_acts' {f : State → Nat → State} {m : Nat} (l : List Nat) (s : State) (h : ∀ u k, Acts m u (f u k)) : Acts m s (s.each l f) :=
  List.foldlRecOn (motive := Acts m s) l f (.refl s) fun u hu k _ => hu.step (h u k) (Nat.or_self m)

/-- An alarm that each step keeps or raises, and one step raises, stands at the end. -/
theorem State.each_alarmed {f : State → Nat → State} {l : List Nat} (s : State) (kept : ∀ u k, u.Alarmed c → (f u k).Alarmed c)
    (raised : ∃ k ∈ l, ∀ u, (f u k).Alarmed c) : (s.each l f).Alarmed c := by
  induction l generalizing s with
  | nil => simp at raised
  | cons a l ih =>
    by_cases later : ∃ k ∈ l, ∀ u, (f u k).Alarmed c
    · exact ih (f s a) later
    · obtain ⟨k, listed, now⟩ := raised
      obtain rfl : k = a := (List.mem_cons.mp listed).resolve_right fun tail => later ⟨k, tail, now⟩
      exact List.foldlRecOn (motive := fun u => State.Alarmed u c) l f (now s) fun u hu j _ => kept u j hu

/-- What the diode readings leave. -/
structure DiodesRead (s t : State) (d : List Int) : Prop where
  thm : t.thm = { s.thm with diodes := d, badDiodes := badReadings d }
  alarmed : badReadings d ≠ [] → t.Alarmed 0x0C05
  alarms : AlarmsBut [0x0C05] s t
  frame : Frame [.alarms, .rcd, .thm, .regs] s t
  changes : s.Sound → Changes [.alarms, .rcd, .thm, .regs] diodeFields [0x0C05] s t

theorem State.readDiodes_reads (s : State) (d : List Int) : DiodesRead s (s.readDiodes d) d := by
  have acts := State.each_acts' (List.range 4) { s with thm := { s.thm with diodes := d, badDiodes := badReadings d } } (State.readDiode_acts d)
  have kept (u : State) (k : Nat) (h : u.Alarmed 0x0C05) : (u.readDiode d k).Alarmed 0x0C05 :=
    (u.readDiode_alarm d k).elim (fun same => same.trans h) fun own => own.2
  rw [State.readDiodes_eq]
  refine ⟨acts.frame .thm rfl, fun bad => ?_, fun c other => ?_, ?_, fun sound => ?_⟩
  · obtain ⟨k, failing⟩ := List.exists_mem_of_ne_nil _ bad
    exact State.each_alarmed _ kept ⟨k, List.mem_range.mpr (mem_badReadings.mp failing).1, State.readDiode_alarmed failing⟩
  · exact List.foldlRecOn (motive := fun u : State => u.alarm? c = s.alarm? c) _ _ rfl fun u hu k _ =>
      ((u.readDiode_alarm d k).resolve_right fun own => other (by simp [own.1])).trans hu
  · refine Frame.trans (t := { s with thm := { s.thm with diodes := d, badDiodes := badReadings d } }) ?_ (acts.framed.mono (by simp))
    intro p hp
    cases p <;> first | rfl | simp at hp
  · refine Changes.each ((Changes.refl sound).upd _) fun u k listed h => ?_
    have own : F_HLT_DIODE_TEMP k ∈ diodeFields := List.mem_append_left _ (List.mem_map_of_mem listed)
    unfold State.readDiode
    refine .ite (fun _ => ?_) fun _ => h.setInt _ _ rfl own
    exact ((h.setFld _ _ rfl own).event _ rfl (List.mem_append_right _ (List.mem_cons_self ..))).raise _ _ (by simp)
      fun f hf => List.mem_append_right _ (List.mem_cons_of_mem _ hf)

end

end Sys2Proof.Machine

/-! The thermal decisions (R486, R488 to R490): temperatures, warning, cooling and shutdown. -/
namespace Sys2Proof.Machine
set_option Elab.async false

section
variable {s t u : State} {n k c a b e r : Nat} {x : Int}

/-! The greatest node temperature. -/

/-- One step towards the pair with the greatest value. -/
def greater (f : Nat → Int) (m : Nat × Int) (n : Nat) : Nat × Int := if m.2 < f n then (n, f n) else m

/-- A pair of a number and its value under `f`. -/
def Pairs (f : Nat → Int) (m : Nat × Int) : Prop := m.2 = f m.1

theorem greatest_pairs (f : Nat → Int) (l : List Nat) {m : Nat × Int} (h : Pairs f m) : Pairs f (l.foldl (greater f) m) ∧
    ((l.foldl (greater f) m).1 = m.1 ∨ (l.foldl (greater f) m).1 ∈ l) ∧ m.2 ≤ (l.foldl (greater f) m).2 ∧ ∀ n ∈ l, f n ≤ (l.foldl (greater f) m).2 := by
  induction l generalizing m with
  | nil => exact ⟨h, .inl rfl, le_refl _, by simp⟩
  | cons a l ih =>
    have next : Pairs f (greater f m a) ∧ ((greater f m a).1 = m.1 ∨ (greater f m a).1 = a) ∧ m.2 ≤ (greater f m a).2 ∧ f a ≤ (greater f m a).2 := by
      unfold greater
      split
      case isTrue low => exact ⟨rfl, .inr rfl, le_of_lt low, le_refl _⟩
      case isFalse high => exact ⟨h, .inl rfl, le_refl _, not_lt.mp high⟩
    obtain ⟨paired, place, grows, own⟩ := next
    obtain ⟨pairs, places, further, all⟩ := ih paired
    refine ⟨pairs, ?_, le_trans grows further, fun n listed => ?_⟩
    · rcases places with same | later
      · rcases place with first | here
        · exact .inl (same.trans first)
        · exact .inr (List.mem_cons.mpr (.inl (same.trans here)))
      · exact .inr (List.mem_cons_of_mem _ later)
    · rcases List.mem_cons.mp listed with rfl | later
      · exact le_trans own further
      · exact all n later

theorem State.maxNode_max (s : State) : (∀ n < 8, s.nodeTemp n ≤ s.maxNode.2) ∧ ∃ n < 8, s.nodeTemp n = s.maxNode.2 := by
  have shape : s.maxNode = (List.range 8).foldl (greater s.nodeTemp) (0, s.nodeTemp 0) := rfl
  obtain ⟨pairs, place, _, all⟩ := greatest_pairs s.nodeTemp (List.range 8) (m := (0, s.nodeTemp 0)) rfl
  rw [shape]
  refine ⟨fun n low => all n (List.mem_range.mpr low), _, ?_, pairs.symm⟩
  rcases place with first | listed
  · rw [first]
    show 0 < 8
    omega
  · exact List.mem_range.mp listed

theorem State.nodeTemp_of (diodes : t.thm.diodes = s.thm.diodes) (bad : t.thm.badDiodes = s.thm.badDiodes) (nodes : t.thm.nodes = s.thm.nodes)
    (offset : t.offset n = s.offset n) : t.nodeTemp n = s.nodeTemp n := by
  rw [State.nodeTemp, State.nodeTemp, State.goodDiodes, State.goodDiodes, State.nodeModel, State.nodeModel, diodes, bad, nodes, offset]

/-! What follows from the greatest temperature `x` of node `n`. -/

/-- The temperatures and the times that go with them. -/
def State.tempsShown (s : State) (n : Nat) (x : Int) : State :=
  let t := s.each (List.range 8) (fun u n => u.setInt (F_HLT_NODE_TEMP n) (u.nodeTemp n))
  { (t.setInt (word32 A_HLT_TJMAX) x).setFld F_HLT_STATUS_NODE n with thm := { t.thm with
    tmax := x, cycleMax := max t.thm.cycleMax x, coolSince := if x ≤ 10 * t.par 0x0821 then some (t.thm.coolSince.getD t.tim.el) else none } }

/-- The warning at 120 °C, which ends below 115 °C. -/
def State.warnCheck (u : State) (x : Int) : State :=
  if 1200 ≤ x && !u.thm.warned then
    ((({ u with thm := { u.thm with warned := true } }).setFlag F_HLT_STATUS_WARN true).event F_HLT_EVENT_WARN_EVT).raise 0x0C02
  else if x < 1150 && u.thm.warned then ((({ u with thm := { u.thm with warned := false } }).setFlag F_HLT_STATUS_WARN false).causeGone 0x0C02)
  else u

/-- COOLED is 0 above its limit. -/
def State.coolCheck (v : State) (x : Int) : State := if x ≤ 10 * v.par 0x0821 then v else v.setFlag F_HLT_STATUS_COOLED false

/-- The shutdown at 125 °C. -/
def State.shutCheck (w : State) (x : Int) : State := if 1250 ≤ x then w.latchShutdown else w

theorem State.thermalChecks_eq (s : State) : s.thermalChecks =
    (((s.tempsShown s.maxNode.1 s.maxNode.2).warnCheck s.maxNode.2).coolCheck s.maxNode.2).shutCheck s.maxNode.2 := rfl

/-- The fields of the thermal decisions. -/
def thermalFields : List Fld :=
  (List.range 8).map F_HLT_NODE_TEMP ++ [word32 A_HLT_TJMAX, F_HLT_STATUS_NODE, F_HLT_STATUS_WARN, F_HLT_STATUS_COOLED, F_HLT_STATUS_SHUTDOWN,
    F_HLT_EVENT_WARN_EVT, F_HLT_EVENT_SHUT_EVT] ++ recFields

/-- The parts of the thermal decisions. -/
abbrev thermalParts : List Part := [.alarms, .rcd, .mram, .thm, .regs]

/-- What the shown temperatures leave. -/
structure TempsShown (s t : State) (x : Int) : Prop where
  thm : t.thm = { s.thm with tmax := x, cycleMax := max s.thm.cycleMax x,
                             coolSince := if x ≤ 10 * s.par 0x0821 then some (s.thm.coolSince.getD s.tim.el) else none }
  changes : Changes thermalParts ((List.range 8).map F_HLT_NODE_TEMP ++ [word32 A_HLT_TJMAX, F_HLT_STATUS_NODE]) [] s t
  mram : t.mram = s.mram

theorem State.tempsShown_shows (sound : s.Sound) (n : Nat) (x : Int) : TempsShown s (s.tempsShown n x) x := by
  have each := State.each_acts' (List.range 8) s fun (u : State) k => State.setInt_acts u (F_HLT_NODE_TEMP k) (u.nodeTemp k)
  have changes : Changes thermalParts ((List.range 8).map F_HLT_NODE_TEMP ++ [word32 A_HLT_TJMAX, F_HLT_STATUS_NODE]) [] s
      (s.each (List.range 8) fun u k => u.setInt (F_HLT_NODE_TEMP k) (u.nodeTemp k)) :=
    (Changes.refl sound).each fun u k listed h => h.setInt _ _ rfl (List.mem_append_left _ (List.mem_map_of_mem listed))
  unfold State.tempsShown
  extract_lets t
  have same : t.thm = s.thm ∧ t.tim = s.tim ∧ t.pat = s.pat ∧ t.mram = s.mram := ⟨each.frame .thm rfl, each.frame .tim rfl, each.frame .pat rfl, each.frame .mram rfl⟩
  replace changes : Changes thermalParts ((List.range 8).map F_HLT_NODE_TEMP ++ [word32 A_HLT_TJMAX, F_HLT_STATUS_NODE]) [] s t := changes
  clear_value t
  obtain ⟨thm, tim, pat, mram⟩ := same
  refine ⟨?_, ?_, mram⟩
  · show ({ t.thm with tmax := x, cycleMax := max t.thm.cycleMax x, coolSince := _ } : Thm) = _
    rw [thm, tim, State.par, State.parW_of_pat pat]
    rfl
  · exact ((changes.setInt (word32 A_HLT_TJMAX) x rfl (List.mem_append_right _ (by simp))).setFld F_HLT_STATUS_NODE n rfl (List.mem_append_right _ (by simp))).upd _

/-- What the warning leaves. -/
structure WarnChecked (s t : State) (x : Int) : Prop where
  warns : 1200 ≤ x → s.thm.warned = false → t.thm.warned = true ∧ t.flag F_HLT_STATUS_WARN = true ∧ t.Alarmed 0x0C02
  ends : x < 1150 → s.thm.warned = true → t.thm.warned = false ∧ t.flag F_HLT_STATUS_WARN = false ∧ t.CauseGone 0x0C02
  stays : 1150 ≤ x → x < 1200 → t.thm.warned = s.thm.warned
  thm : t.thm = { s.thm with warned := t.thm.warned }
  changes : Changes thermalParts ([F_HLT_STATUS_WARN, F_HLT_EVENT_WARN_EVT] ++ recFields) [0x0C02] s t
  mram : t.mram = s.mram

theorem State.warnCheck_warns (high : 1200 ≤ x) (calm : s.thm.warned = false) : s.warnCheck x =
    (((({ s with thm := { s.thm with warned := true } } : State).setFlag F_HLT_STATUS_WARN true).event F_HLT_EVENT_WARN_EVT).raise 0x0C02) :=
  if_pos (by simp [high, calm])

theorem State.warnCheck_checks (sound : s.Sound) (x : Int) : WarnChecked s (s.warnCheck x) x := by
  by_cases warn : 1200 ≤ x ∧ s.thm.warned = false
  · obtain ⟨high, calm⟩ := warn
    rw [State.warnCheck_warns high calm]
    have set : State.Sound { s with thm := { s.thm with warned := true } } := sound.of_eq rfl rfl rfl rfl rfl rfl rfl rfl rfl rfl rfl rfl rfl rfl
    have shown := flag_setFlag set F_HLT_STATUS_WARN true rfl
    have soundW := set.setFlag F_HLT_STATUS_WARN true
    have marked : Changes thermalParts ([F_HLT_EVENT_WARN_EVT] ++ recFields) [0x0C02] (State.setFlag { s with thm := { s.thm with warned := true } } F_HLT_STATUS_WARN true)
      (((State.setFlag { s with thm := { s.thm with warned := true } } F_HLT_STATUS_WARN true).event F_HLT_EVENT_WARN_EVT).raise 0x0C02) :=
      ((Changes.refl soundW).event _).raise _ _
    have thm : (((State.setFlag { s with thm := { s.thm with warned := true } } F_HLT_STATUS_WARN true).event F_HLT_EVENT_WARN_EVT).raise 0x0C02).thm =
      { s.thm with warned := true } := State.raise_thm ..
    refine ⟨fun _ _ => ⟨congrArg Thm.warned thm, (marked.flag _).trans shown, (alarm_raise ..).trans (if_pos rfl)⟩, fun low => by omega, fun _ low => by omega, ?_, ?_, State.raise_mram ..⟩
    · rw [thm]
    · exact ((((Changes.refl sound).upd { s with thm := { s.thm with warned := true } }).setFlag F_HLT_STATUS_WARN true).event _).raise _ _
  · by_cases over' : x < 1150 ∧ s.thm.warned = true
    · obtain ⟨low, hot⟩ := over'
      have eq : s.warnCheck x = (State.setFlag { s with thm := { s.thm with warned := false } } F_HLT_STATUS_WARN false).causeGone 0x0C02 := by
        rw [State.warnCheck, if_neg (by simp [hot]), if_pos (by simp [low, hot])]
      have set : State.Sound { s with thm := { s.thm with warned := false } } := sound.of_eq rfl rfl rfl rfl rfl rfl rfl rfl rfl rfl rfl rfl rfl rfl
      have shown := flag_setFlag set F_HLT_STATUS_WARN false rfl
      have soundW := set.setFlag F_HLT_STATUS_WARN false
      have gone : Changes thermalParts recFields [0x0C02] (State.setFlag { s with thm := { s.thm with warned := false } } F_HLT_STATUS_WARN false)
        ((State.setFlag { s with thm := { s.thm with warned := false } } F_HLT_STATUS_WARN false).causeGone 0x0C02) := (Changes.refl soundW).causeGone _
      have acts := State.causeGone_acts (State.setFlag { s with thm := { s.thm with warned := false } } F_HLT_STATUS_WARN false) 0x0C02
      have thm : ((State.setFlag { s with thm := { s.thm with warned := false } } F_HLT_STATUS_WARN false).causeGone 0x0C02).thm = { s.thm with warned := false } :=
        acts.frame .thm rfl
      rw [eq]
      refine ⟨fun high => by omega, fun _ _ => ⟨congrArg Thm.warned thm, (gone.flag _).trans shown, State.causeGone_causeGone _ _⟩, fun high => by omega, ?_, ?_, acts.frame .mram rfl⟩
      · rw [thm]
      · exact ((Changes.refl sound).upd { s with thm := { s.thm with warned := false } }).setFlag F_HLT_STATUS_WARN false |>.causeGone _
    · have eq : s.warnCheck x = s := by
        rw [State.warnCheck, if_neg (by simpa using warn), if_neg (by simpa using over')]
      rw [eq]
      exact ⟨fun high calm => absurd ⟨high, calm⟩ warn, fun low hot => absurd ⟨low, hot⟩ over', fun _ _ => rfl, rfl, .refl sound, rfl⟩

/-- What COOLED becomes. -/
structure CoolChecked (s t : State) (x : Int) : Prop where
  warm : (10 * s.par 0x0821 : Int) < x → t.flag F_HLT_STATUS_COOLED = false
  cool : x ≤ (10 * s.par 0x0821 : Int) → t = s
  thm : t.thm = s.thm
  mram : t.mram = s.mram
  changes : Changes thermalParts [F_HLT_STATUS_COOLED] [] s t

theorem State.coolCheck_checks (sound : s.Sound) (x : Int) : CoolChecked s (s.coolCheck x) x := by
  unfold State.coolCheck
  split
  case isTrue cool => exact ⟨fun warm => by omega, fun _ => rfl, rfl, rfl, .refl sound⟩
  case isFalse warm => exact ⟨fun _ => flag_setFlag sound _ false rfl, fun cool => absurd cool warm, rfl, rfl, (Changes.refl sound).setFlag _ _⟩

/-- What the shutdown leaves. -/
structure ShutChecked (s t : State) (x : Int) : Prop where
  shut : 1250 ≤ x → t.flag F_HLT_STATUS_SHUTDOWN = true ∧ (s.flag F_HLT_STATUS_SHUTDOWN = false → t.thm.latchedAt = some s.tim.el ∧ t.mram.shutdown = true)
  stays : x < 1250 → t = s
  thm : t.thm = { s.thm with latchedAt := t.thm.latchedAt }
  changes : Changes thermalParts [F_HLT_STATUS_SHUTDOWN, F_HLT_EVENT_SHUT_EVT] [] s t

theorem State.shutCheck_checks (sound : s.Sound) (x : Int) : ShutChecked s (s.shutCheck x) x := by
  unfold State.shutCheck
  split
  case isFalse low => exact ⟨fun high => absurd high low, fun _ => rfl, rfl, .refl sound⟩
  case isTrue high =>
    unfold State.latchShutdown
    split
    case isTrue latched => exact ⟨fun _ => ⟨latched, fun clear => by simp [clear] at latched⟩, fun low => by omega, rfl, .refl sound⟩
    case isFalse =>
      have latched : State.Sound { s with thm := { s.thm with latchedAt := some s.tim.el }, mram := { s.mram with shutdown := true } } :=
        sound.of_eq rfl rfl rfl rfl rfl rfl rfl rfl rfl rfl rfl rfl rfl rfl
      have shown := flag_setFlag latched F_HLT_STATUS_SHUTDOWN true rfl
      have marked : Changes thermalParts [F_HLT_EVENT_SHUT_EVT] [] (State.setFlag { s with thm := { s.thm with latchedAt := some s.tim.el }, mram := { s.mram with shutdown := true } }
        F_HLT_STATUS_SHUTDOWN true) _ := (Changes.refl (latched.setFlag F_HLT_STATUS_SHUTDOWN true)).event F_HLT_EVENT_SHUT_EVT
      refine ⟨fun _ => ⟨(marked.flag _).trans shown, fun _ => ⟨rfl, rfl⟩⟩, fun low => by omega, rfl, ?_⟩
      exact (((Changes.refl sound).upd { s with thm := { s.thm with latchedAt := some s.tim.el }, mram := { s.mram with shutdown := true } }).setFlag
        F_HLT_STATUS_SHUTDOWN true).event F_HLT_EVENT_SHUT_EVT

/-- What the thermal decisions leave. -/
structure ThermalChecked (s t : State) (x : Int) : Prop where
  thm : t.thm = { s.thm with tmax := x, cycleMax := max s.thm.cycleMax x, warned := t.thm.warned, latchedAt := t.thm.latchedAt,
                             coolSince := if x ≤ 10 * s.par 0x0821 then some (s.thm.coolSince.getD s.tim.el) else none }
  shut : 1250 ≤ x → t.flag F_HLT_STATUS_SHUTDOWN = true ∧ (s.flag F_HLT_STATUS_SHUTDOWN = false → t.thm.latchedAt = some s.tim.el ∧ t.mram.shutdown = true)
  runs : x < 1250 → t.flag F_HLT_STATUS_SHUTDOWN = s.flag F_HLT_STATUS_SHUTDOWN ∧ t.thm.latchedAt = s.thm.latchedAt
  warns : 1200 ≤ x → s.thm.warned = false → t.thm.warned = true ∧ t.flag F_HLT_STATUS_WARN = true ∧ t.Alarmed 0x0C02
  ends : x < 1150 → s.thm.warned = true → t.thm.warned = false ∧ t.flag F_HLT_STATUS_WARN = false ∧ t.CauseGone 0x0C02
  stays : 1150 ≤ x → x < 1200 → t.thm.warned = s.thm.warned
  warm : (10 * s.par 0x0821 : Int) < x → t.flag F_HLT_STATUS_COOLED = false
  cool : x ≤ (10 * s.par 0x0821 : Int) → t.flag F_HLT_STATUS_COOLED = s.flag F_HLT_STATUS_COOLED
  changes : Changes thermalParts thermalFields [0x0C02] s t

theorem State.thermalChecks_checks (sound : s.Sound) : ThermalChecked s s.thermalChecks s.maxNode.2 := by
  rw [State.thermalChecks_eq]
  generalize s.maxNode.1 = n
  generalize s.maxNode.2 = x
  have shown := State.tempsShown_shows sound n x
  generalize s.tempsShown n x = s1 at *
  have warned := State.warnCheck_checks shown.changes.sound x
  generalize s1.warnCheck x = s2 at *
  have cooled := State.coolCheck_checks warned.changes.sound x
  generalize s2.coolCheck x = s3 at *
  have shut := State.shutCheck_checks cooled.changes.sound x
  generalize s3.shutCheck x = s4 at *
  have par : s2.par 0x0821 = s.par 0x0821 := by
    rw [State.par, State.parW_of_pat ((warned.changes.frame .pat (by simp)).trans (shown.changes.frame .pat (by simp)))]
    rfl
  have thm3 : s3.thm = s2.thm := cooled.thm
  have warnKept : s4.flag F_HLT_STATUS_WARN = s2.flag F_HLT_STATUS_WARN := (shut.changes.flag _).trans (cooled.changes.flag _)
  have alarmKept : s4.alarm? 0x0C02 = s2.alarm? 0x0C02 := (shut.changes.alarms _ (by simp)).trans (cooled.changes.alarms _ (by simp))
  have warnedKept : s4.thm.warned = s2.thm.warned := by rw [shut.thm, thm3]
  have warnedFirst : s1.thm.warned = s.thm.warned := by rw [shown.thm]
  have shutKept : s3.flag F_HLT_STATUS_SHUTDOWN = s.flag F_HLT_STATUS_SHUTDOWN :=
    (cooled.changes.flag _).trans ((warned.changes.flag _).trans (shown.changes.flag _))
  have time : s3.tim = s.tim := (cooled.changes.frame .tim (by simp)).trans ((warned.changes.frame .tim (by simp)).trans (shown.changes.frame .tim (by simp)))
  refine ⟨?_, fun high => ⟨(shut.shut high).1, fun clear => ?_⟩, fun low => ?_, fun high calm => ?_, fun low hot => ?_, fun low high => ?_, fun warm => ?_, fun cool => ?_, ?_⟩
  · rw [shut.thm, thm3, warned.thm, shown.thm]
  · rw [← time]
    exact (shut.shut high).2 (shutKept.trans clear)
  · rw [shut.stays low]
    exact ⟨shutKept, by rw [thm3, warned.thm, shown.thm]⟩
  · obtain ⟨set, flag, alarmed⟩ := warned.warns high (warnedFirst.trans calm)
    exact ⟨warnedKept.trans set, warnKept.trans flag, alarmKept.trans alarmed⟩
  · obtain ⟨set, flag, gone⟩ := warned.ends low (warnedFirst.trans hot)
    exact ⟨warnedKept.trans set, warnKept.trans flag, fun a found => gone a (alarmKept ▸ found)⟩
  · exact warnedKept.trans ((warned.stays low high).trans warnedFirst)
  · exact (shut.changes.flag _).trans (cooled.warm (par ▸ warm))
  · exact (shut.changes.flag _).trans ((congrArg (fun u => State.flag u F_HLT_STATUS_COOLED) (cooled.cool (par ▸ cool))).trans
      ((warned.changes.flag _).trans (shown.changes.flag _)))
  · exact (shown.changes.mono (by simp) (fun f hf => by simp only [thermalFields, List.mem_append, List.mem_cons] at hf ⊢; tauto) (by simp)).trans ((warned.changes.mono (by simp) (fun f hf => by simp only [thermalFields, List.mem_append, List.mem_cons] at hf ⊢; tauto)).trans
      ((cooled.changes.mono (by simp) (by simp [thermalFields]) (by simp)).trans (shut.changes.mono (by simp) (by simp [thermalFields]) (by simp))))

end

end Sys2Proof.Machine

/-! THERMAL_UPDATE, TREF_TRACK and COOLED (R481, R485, R486, R490). -/
namespace Sys2Proof.Machine
set_option Elab.async false

section
variable {s t u : State} {n k c a b e r : Nat} {x : Int}

/-- The nodes move on by their power. -/
def State.nodesMoved (s : State) (p : List Int) : State :=
  { s with thm := { s.thm with updatedAt := some s.tim.el, nodes := (List.range 8).map (s.nodeStep p) } }

/-- THERMAL_UPDATE with the interval `i`. -/
def State.thermalUpdate (s : State) (rails : List (Nat × Nat)) (vin : Nat) (coils : List Nat) (d : List Int) (i : Nat) : State :=
  let r := s.after s.thm.updatedAt i
  (((rails.zipIdx.foldl (fun (u : State) e => u.sampleRail e.2 e.1.1 e.1.2) r).nodesMoved (r.nodePower rails vin coils)).readDiodes d).thermalChecks

theorem exec_thermalUpdateRuns_runs (started : s.boot.started = true) (runs : s.boot.halted = false) (rails : List (Nat × Nat)) (vin : Nat) (coils : List Nat)
    (d : List Int) : exec (.thermalUpdateRuns rails vin coils d) s = .next (s.thermalUpdate rails vin coils d ms) := by
  rw [exec_thermalUpdateRuns, execThermalUpdateRuns, if_pos (by simp [started, runs])]
  rfl

theorem State.nodeStep_of (nodes : t.thm.nodes = s.thm.nodes) (tref : t.thm.tref = s.thm.tref) (pat : t.pat = s.pat) (p : List Int) : t.nodeStep p = s.nodeStep p := by
  funext n
  rw [State.nodeStep, State.nodeStep, State.heatOut, State.heatOut, State.par, State.par, State.parW_of_pat pat, nodes, tref]

theorem State.nodePower_of (regs : t.regs = s.regs) (pat : t.pat = s.pat) (rails : List (Nat × Nat)) (vin : Nat) (coils : List Nat) :
    t.nodePower rails vin coils = s.nodePower rails vin coils := by
  have load : t.antennaLoad = s.antennaLoad := by
    simp only [State.antennaLoad, State.fld_of_regs regs, State.par, State.parW_of_pat pat]
  have field : t.fieldDissipation = s.fieldDissipation := by
    simp only [State.fieldDissipation, State.parGiven, State.parW_of_pat pat, pat]
  rw [State.nodePower, State.nodePower, load, field]

theorem railVi_diode (rail : r < 8) : ∀ f ∈ diodeFields, A_HLT_RAIL_VI r ≠ f.addr := by interval_cases r <;> decide

theorem railVi_thermal (rail : r < 8) : ∀ f ∈ thermalFields, A_HLT_RAIL_VI r ≠ f.addr := by interval_cases r <;> decide

theorem nodeOffset_thermal (node : n < 8) : ∀ f ∈ thermalFields, f.apart (F_HLT_NODE_OFFSET n) := by
  unfold Fld.apart
  interval_cases n <;> decide

/-- What THERMAL_UPDATE leaves. -/
structure ThermalUpdated (s t : State) (rails : List (Nat × Nat)) (p : List Int) (d : List Int) (i : Nat) : Prop where
  nodes : t.thm.nodes = (List.range 8).map (s.nodeStep p)
  time : ∀ e, s.thm.updatedAt = some e → t.tim.el = Nat.max s.tim.el (e + i)
  now : s.thm.updatedAt = none → t.tim.el = s.tim.el
  updated : t.thm.updatedAt = some t.tim.el
  rail : ∀ r x, rails[r]? = some x → t.reg (A_HLT_RAIL_VI r) = halves x.1 x.2 ∧ (s.railOff r x.1 = false → afind t.hlt.railOut r = none) ∧
    (s.railOff r x.1 = true → afind t.hlt.railOut r = some ((afind s.hlt.railOut r).getD t.tim.el))
  diodes : t.thm.diodes = d
  bad : t.thm.badDiodes = badReadings d
  reported : t.thm.badDiodes ≠ [] → t.Alarmed 0x0C05
  top : (∀ n < 8, t.nodeTemp n ≤ t.thm.tmax) ∧ ∃ n < 8, t.nodeTemp n = t.thm.tmax
  cycleMax : t.thm.cycleMax = max s.thm.cycleMax t.thm.tmax
  shut : 1250 ≤ t.thm.tmax → t.flag F_HLT_STATUS_SHUTDOWN = true ∧ (s.flag F_HLT_STATUS_SHUTDOWN = false → t.thm.latchedAt = some t.tim.el ∧ t.mram.shutdown = true)
  runs : t.thm.tmax < 1250 → t.flag F_HLT_STATUS_SHUTDOWN = s.flag F_HLT_STATUS_SHUTDOWN ∧ t.thm.latchedAt = s.thm.latchedAt
  warns : 1200 ≤ t.thm.tmax → s.thm.warned = false → t.thm.warned = true ∧ t.flag F_HLT_STATUS_WARN = true ∧ t.Alarmed 0x0C02
  ends : t.thm.tmax < 1150 → s.thm.warned = true → t.thm.warned = false ∧ t.flag F_HLT_STATUS_WARN = false ∧ t.CauseGone 0x0C02
  stays : 1150 ≤ t.thm.tmax → t.thm.tmax < 1200 → t.thm.warned = s.thm.warned
  warm : (10 * s.par 0x0821 : Int) < t.thm.tmax → t.flag F_HLT_STATUS_COOLED = false ∧ t.thm.coolSince = none
  cool : t.thm.tmax ≤ (10 * s.par 0x0821 : Int) → t.flag F_HLT_STATUS_COOLED = s.flag F_HLT_STATUS_COOLED ∧ t.thm.coolSince = some (s.thm.coolSince.getD t.tim.el)
  alarms : AlarmsBut [0x0C05, 0x0C02] s t
  frame : Frame [.alarms, .rcd, .mram, .tim, .hlt, .thm, .regs, .elapsed, .working] s t

theorem State.thermalUpdate_updates (sound : s.Sound) (rails : List (Nat × Nat)) (few : rails.length ≤ 8) (vin : Nat) (coils : List Nat) (d : List Int) (i : Nat) :
    ThermalUpdated s (s.thermalUpdate rails vin coils d i) rails (s.nodePower rails vin coils) d i := by
  unfold State.thermalUpdate
  extract_lets s1
  have frame1 : Frame [.tim, .elapsed, .working] s s1 := s.after_frame _ i
  have sound1 : s1.Sound := State.after_sound sound _ i
  have regs1 : s1.regs = s.regs := frame1 .regs (by simp)
  have pat1 : s1.pat = s.pat := frame1 .pat (by simp)
  have time (e : Nat) (known : s.thm.updatedAt = some e) : s1.tim.el = Nat.max s.tim.el (e + i) := by
    simp only [s1, known]
    exact s.after_some e i
  have now (fresh : s.thm.updatedAt = none) : s1.tim.el = s.tim.el := by
    simp only [s1, fresh]
    rfl
  clear_value s1
  rw [State.nodePower_of regs1 pat1]
  generalize s.nodePower rails vin coils = p
  have sampled := State.sampleRails_sample rails s1 0 sound1 (by omega)
  generalize rails.zipIdx.foldl (fun (u : State) e => u.sampleRail e.2 e.1.1 e.1.2) s1 = s2 at *
  have thm2 : s2.thm = s.thm := (sampled.changes.frame .thm (by simp)).trans (frame1 .thm (by simp))
  have tim2 : s2.tim = s1.tim := sampled.changes.frame .tim (by simp)
  have pat2 : s2.pat = s.pat := (sampled.changes.frame .pat (by simp)).trans pat1
  have moved : (s2.nodesMoved p).thm = { s.thm with updatedAt := some s1.tim.el, nodes := (List.range 8).map (s.nodeStep p) } := by
    rw [State.nodesMoved, State.nodeStep_of (congrArg Thm.nodes thm2) (congrArg Thm.tref thm2) pat2, thm2, tim2]
  have steps : Changes [.thm] [] [] s2 (s2.nodesMoved p) := (Changes.refl sampled.changes.sound).upd _
  generalize s2.nodesMoved p = s3 at *
  have read := s3.readDiodes_reads d
  have readC := read.changes steps.sound
  generalize s3.readDiodes d = s4 at *
  have checked := State.thermalChecks_checks readC.sound
  obtain ⟨top, reached⟩ := s4.maxNode_max
  generalize s4.maxNode.2 = x at *
  generalize s4.thermalChecks = s5 at *
  have thm4 : s4.thm = { s.thm with updatedAt := some s1.tim.el, nodes := (List.range 8).map (s.nodeStep p), diodes := d, badDiodes := badReadings d } := by
    rw [read.thm, moved]
  have thm5 := checked.thm
  rw [thm4] at thm5
  have tmax : s5.thm.tmax = x := by rw [thm5]
  have tim4 : s4.tim = s1.tim := (read.frame .tim (by simp)).trans ((steps.frame .tim (by simp)).trans tim2)
  have tim5 : s5.tim = s1.tim := (checked.changes.frame .tim (by simp)).trans tim4
  have hlt5 : s5.hlt = s2.hlt := (checked.changes.frame .hlt (by simp)).trans ((read.frame .hlt (by simp)).trans (steps.frame .hlt (by simp)))
  have pat4 : s4.pat = s.pat := (read.frame .pat (by simp)).trans ((steps.frame .pat (by simp)).trans pat2)
  have par : s4.par 0x0821 = s.par 0x0821 := by rw [State.par, State.par, State.parW_of_pat pat4]
  have status (f : Fld) (fits : f.fits = true) (rail : ∀ g ∈ railFields, g.apart f) (diode : ∀ g ∈ diodeFields, g.apart f) : s4.flag f = s.flag f :=
    (readC.flag f fits diode).trans ((steps.flag f fits (by simp)).trans ((sampled.changes.flag f fits rail).trans (State.flag_of_regs regs1 f)))
  have shutdown : s4.flag F_HLT_STATUS_SHUTDOWN = s.flag F_HLT_STATUS_SHUTDOWN := status _ rfl (by unfold Fld.apart; decide) (by unfold Fld.apart; decide)
  have cooled : s4.flag F_HLT_STATUS_COOLED = s.flag F_HLT_STATUS_COOLED := status _ rfl (by unfold Fld.apart; decide) (by unfold Fld.apart; decide)
  have temp (n : Nat) (node : n < 8) : s5.nodeTemp n = s4.nodeTemp n :=
    State.nodeTemp_of (by rw [thm5, thm4]) (by rw [thm5, thm4]) (by rw [thm5, thm4]) (State.int_of_fld (checked.changes.fld _ rfl (nodeOffset_thermal node)))
  have latched4 : s4.thm.latchedAt = s.thm.latchedAt := by rw [thm4]
  have warned4 : s4.thm.warned = s.thm.warned := by rw [thm4]
  have cool5 : s5.thm.coolSince = if x ≤ 10 * s.par 0x0821 then some (s.thm.coolSince.getD s5.tim.el) else none := by rw [thm5, par, tim4, tim5]
  refine ⟨by rw [thm5], fun e known => by rw [tim5, time e known], fun fresh => by rw [tim5, now fresh], by rw [thm5, tim5], fun r x found => ?_, by rw [thm5],
    by rw [thm5], fun bad => ?_, ⟨fun n node => ?_, ?_⟩, ?_, fun high => ?_, fun low => ?_, fun high calm => ?_, fun low hot => ?_, fun low high => ?_,
    fun warm => ⟨?_, ?_⟩, fun cool => ⟨?_, ?_⟩, fun c other => ?_, ?_⟩
  · have rail : r < 8 := by
      obtain ⟨low, _⟩ := List.getElem?_eq_some_iff.mp found
      omega
    obtain ⟨reg, inside, outside⟩ := sampled.shown r x found
    rw [Nat.zero_add] at reg inside outside
    rw [State.railOff_of_mram (frame1 .mram (by simp))] at inside outside
    refine ⟨?_, fun h => hlt5 ▸ inside h, fun h => ?_⟩
    · rw [checked.changes.reg _ (railVi_thermal rail), readC.reg _ (railVi_diode rail), steps.reg _ (by simp), reg]
    · rw [hlt5, tim5, outside h, show s1.hlt = s.hlt from frame1 .hlt (by simp)]
  · refine (checked.changes.alarms _ (by decide)).trans (read.alarmed ?_)
    rw [thm5] at bad
    exact bad
  · rw [temp n node, tmax]
    exact top n node
  · obtain ⟨n, node, most⟩ := reached
    exact ⟨n, node, by rw [temp n node, tmax, most]⟩
  · rw [tmax, thm5]
  · obtain ⟨flag, latches⟩ := checked.shut (tmax ▸ high)
    exact ⟨flag, fun clear => by rw [tim5, ← tim4]; exact latches (shutdown.trans clear)⟩
  · obtain ⟨flag, latch⟩ := checked.runs (tmax ▸ low)
    exact ⟨flag.trans shutdown, latch.trans latched4⟩
  · exact checked.warns (tmax ▸ high) (warned4.trans calm)
  · exact checked.ends (tmax ▸ low) (warned4.trans hot)
  · exact (checked.stays (tmax ▸ low) (tmax ▸ high)).trans warned4
  · exact checked.warm (by rw [par, ← tmax]; exact warm)
  · rw [cool5, if_neg (by rw [← tmax]; omega)]
  · exact (checked.cool (by rw [par, ← tmax]; exact cool)).trans cooled
  · rw [cool5, if_pos (by rw [← tmax]; omega)]
  · obtain ⟨diode, warn⟩ : c ∉ [0x0C05] ∧ c ∉ [0x0C02] := by simpa using other
    rw [checked.changes.alarms c warn, read.alarms c diode, steps.alarms c (by simp), sampled.changes.alarms c (by simp)]
    rw [State.alarm?, frame1 .alarms (by simp)]
    rfl
  · exact (frame1.mono (by simp)).trans ((sampled.changes.frame.mono (by simp)).trans ((steps.frame.mono (by simp)).trans
      ((read.frame.mono (by simp)).trans (checked.changes.frame.mono (by simp)))))

/-! T_ref and cooling. -/

/-- What TREF_TRACK leaves. -/
structure Tracked (s t : State) (i : Nat) : Prop where
  tref : t.thm.tref = s.thm.tref + roundDiv s.meanResidual 60
  nodes : t.thm.nodes = s.thm.nodes.map (· + roundDiv s.meanResidual 60)
  diodes : t.thm.diodes = s.thm.diodes
  tmax : t.thm.tmax = s.thm.tmax
  time : ∀ e, s.thm.trackedAt = some e → t.tim.el = Nat.max s.tim.el (e + i)
  now : s.thm.trackedAt = none → t.tim.el = s.tim.el
  tracked : t.thm.trackedAt = some t.tim.el
  frame : Frame [.tim, .thm, .regs, .elapsed, .working] s t

/-- TREF_TRACK with the interval `i`. -/
def State.trackRef (s : State) (i : Nat) : State :=
  let r := s.after s.thm.trackedAt i
  { r with thm := { r.thm with trackedAt := some r.tim.el } }.moveRef (roundDiv r.meanResidual 60)

theorem exec_trefTrack_runs (started : s.boot.started = true) (runs : s.boot.halted = false) : exec .trefTrack s = .next (s.trackRef sec) := by
  rw [exec_trefTrack, execTrefTrack, if_pos (by simp [started, runs])]
  rfl

theorem State.meanResidual_of_thm (thm : t.thm = s.thm) : t.meanResidual = s.meanResidual := by
  simp only [State.meanResidual, State.meanOf, State.goodDiodes, State.diodeResidual, thm]
  rfl

theorem State.trackRef_tracks (s : State) (i : Nat) : Tracked s (s.trackRef i) i := by
  unfold State.trackRef
  extract_lets s1 m
  have frame1 : Frame [.tim, .elapsed, .working] s s1 := s.after_frame _ i
  have time (e : Nat) (known : s.thm.trackedAt = some e) : s1.tim.el = Nat.max s.tim.el (e + i) := by
    simp only [s1, known]
    exact s.after_some e i
  have now (fresh : s.thm.trackedAt = none) : s1.tim.el = s.tim.el := by
    simp only [s1, fresh]
    rfl
  have thm1 : s1.thm = s.thm := frame1 .thm (by simp)
  have mean := State.meanResidual_of_thm thm1
  clear_value s1
  rw [mean]
  have acts := State.moveRef_acts { s1 with thm := { s1.thm with trackedAt := some s1.tim.el } } (roundDiv s.meanResidual 60)
  have tim : (State.moveRef { s1 with thm := { s1.thm with trackedAt := some s1.tim.el } } (roundDiv s.meanResidual 60)).tim = s1.tim := acts.frame .tim rfl
  have thm : (State.moveRef { s1 with thm := { s1.thm with trackedAt := some s1.tim.el } } (roundDiv s.meanResidual 60)).thm =
      { s.thm with trackedAt := some s1.tim.el, tref := s.thm.tref + roundDiv s.meanResidual 60, nodes := s.thm.nodes.map (· + roundDiv s.meanResidual 60) } := by
    rw [← thm1]
    rfl
  refine ⟨congrArg Thm.tref thm, congrArg Thm.nodes thm, (congrArg Thm.diodes thm).trans rfl, (congrArg Thm.tmax thm).trans rfl, fun e known => (congrArg Tim.el tim).trans (time e known),
    fun fresh => (congrArg Tim.el tim).trans (now fresh), (congrArg Thm.trackedAt thm).trans (congrArg some (congrArg Tim.el tim).symm), ?_⟩
  refine (frame1.mono (by simp)).trans (Frame.trans (t := { s1 with thm := { s1.thm with trackedAt := some s1.tim.el } }) ?_
    ((acts.mono (m := partMask [.thm, .regs]) rfl).framed.mono (by simp)))
  intro p hp
  cases p <;> first | rfl | simp at hp

/-- COOLED at an instant. -/
structure CooledAt (s t : State) (e : Nat) : Prop where
  flag : t.flag F_HLT_STATUS_COOLED = true
  time : t.tim.el = Nat.max s.tim.el e
  frame : Frame [.tim, .elapsed, .working, .regs] s t
  fields : FieldsBut [F_HLT_STATUS_COOLED] s t

theorem State.cooledAt (sound : s.Sound) (e : Nat) : CooledAt s ((s.reachEl e).setFlag F_HLT_STATUS_COOLED true) e := by
  have reached := s.reachEl_acts e
  have changed := ((Changes.refl sound).acts (ps := [.tim, .elapsed, .working, .regs]) (fs := [F_HLT_STATUS_COOLED]) (cs := []) reached).setFlag F_HLT_STATUS_COOLED true
  exact ⟨flag_setFlag (reached.sound sound) _ true rfl, s.reachEl_max e, changed.frame, changed.fields⟩

theorem exec_cooled_sets (sound : s.Sound) (since : s.thm.coolSince = some a) : ∃ t, exec .cooled s = .next t ∧ CooledAt s t (a + 10000000000) := by
  refine ⟨_, ?_, State.cooledAt sound (a + 10000000000)⟩
  rw [exec_cooled, execCooled, since]
  rfl

end

end Sys2Proof.Machine

/-! Trim steps (R483, R484) and the operating time (R494). -/
namespace Sys2Proof.Machine
set_option Elab.async false

section
variable {s t u : State} {n k c a b e r i : Nat}

/-! Trim steps. -/

/-- One planned step of rail `r` taken, with `n` left. -/
def State.trimRaised (s : State) (r n : Nat) : State :=
  let t := { s with hlt := { s.hlt with trimAt := some s.tim.el, trimPlan := if n = 0 then adel s.hlt.trimPlan r else aset s.hlt.trimPlan r n } }
  ((({ t with mram := { t.mram with trims := aset t.mram.trims r (s.trim r + 1) } }).setFld (F_HLT_RAIL_TRIM_TRIM r) (s.trim r + 1)).event
    F_HLT_EVENT_MARGIN_EVT).raise 0x0C09 (pay [r, s.trim r + 1])

/-- TRIM_STEP with the interval `i`. -/
def State.trimStepped (s : State) (r n i : Nat) : State :=
  let u := s.after s.hlt.trimAt i
  if u.trim r + 1 ≤ 12 && u.withinPackage r (u.trim r + 1) then u.trimRaised r n else u.trimRefused r

theorem exec_trimStep_planned (planned : afind s.hlt.trimPlan r = some (n + 1)) : exec (.trimStep r) s = .next (s.trimStepped r n sec) := by
  rw [exec_trimStep, execTrimStep, planned]
  rfl

theorem exec_trimStep_none (idle : afind s.hlt.trimPlan r = none) : exec (.trimStep r) s = .next s := by
  rw [exec_trimStep, execTrimStep, idle]

/-- What a trim step that is taken leaves. -/
structure TrimRaised (s t : State) (r n : Nat) : Prop where
  trim : t.trim r = s.trim r + 1
  others : ∀ q, q ≠ r → t.trim q = s.trim q
  shown : t.fld (F_HLT_RAIL_TRIM_TRIM r) = s.trim r + 1
  plan : afind t.hlt.trimPlan r = if n = 0 then none else some n
  event : t.flag F_HLT_EVENT_MARGIN_EVT = true
  alarmed : t.Alarmed 0x0C09
  taken : t.hlt.trimAt = some t.tim.el
  time : t.tim = s.tim
  alarms : AlarmsBut [0x0C09] s t
  frame : Frame [.alarms, .rcd, .mram, .hlt, .regs] s t

theorem trimField_fits (r : Nat) : (F_HLT_RAIL_TRIM_TRIM r).fits = true := rfl

theorem State.trimRaised_raises (sound : s.Sound) (rail : r < 8) (room : s.trim r < 12) (n : Nat) : TrimRaised s (s.trimRaised r n) r n := by
  unfold State.trimRaised
  extract_lets h t
  have soundT : State.Sound { t with mram := { t.mram with trims := aset t.mram.trims r (s.trim r + 1) } } :=
    sound.of_eq rfl rfl rfl rfl rfl rfl rfl rfl rfl rfl rfl rfl rfl rfl
  have plan : afind t.hlt.trimPlan r = if n = 0 then none else some n := by
    show afind (if n = 0 then adel s.hlt.trimPlan r else aset s.hlt.trimPlan r n) r = _
    split
    · exact afind_adel_self
    · exact afind_aset_self
  have taken : t.hlt.trimAt = some s.tim.el := rfl
  have moved : Frame [.mram, .hlt] s { t with mram := { t.mram with trims := aset t.mram.trims r (s.trim r + 1) } } := by
    intro p hp
    cases p <;> first | rfl | simp at hp
  have own : ({ t with mram := { t.mram with trims := aset t.mram.trims r (s.trim r + 1) } } : State).trim r = s.trim r + 1 := aget_aset_self
  have others (q : Nat) (other : q ≠ r) : ({ t with mram := { t.mram with trims := aset t.mram.trims r (s.trim r + 1) } } : State).trim q = s.trim q := aget_aset_other other
  have kept : ({ t with mram := { t.mram with trims := aset t.mram.trims r (s.trim r + 1) } } : State).hlt = t.hlt := rfl
  generalize ({ t with mram := { t.mram with trims := aset t.mram.trims r (s.trim r + 1) } } : State) = u at *
  have shown : (u.setFld (F_HLT_RAIL_TRIM_TRIM r) (s.trim r + 1)).fld (F_HLT_RAIL_TRIM_TRIM r) = s.trim r + 1 :=
    (fld_setFld soundT _ _ rfl).trans (Nat.mod_eq_of_lt (show s.trim r + 1 < 16 by omega))
  have soundU := soundT.setFld (F_HLT_RAIL_TRIM_TRIM r) (s.trim r + 1)
  have acts : Acts (partMask [.alarms, .rcd, .regs]) u (((u.setFld (F_HLT_RAIL_TRIM_TRIM r) (s.trim r + 1)).event F_HLT_EVENT_MARGIN_EVT).raise 0x0C09 (pay [r, s.trim r + 1])) :=
    (((Acts.refl u).step (State.setFld_acts ..) rfl).step (State.event_acts ..) rfl).step (State.raise_acts ..) rfl
  have marks : Changes [.alarms, .rcd, .regs] (F_HLT_EVENT_MARGIN_EVT :: recFields) [0x0C09] (u.setFld (F_HLT_RAIL_TRIM_TRIM r) (s.trim r + 1))
      (((u.setFld (F_HLT_RAIL_TRIM_TRIM r) (s.trim r + 1)).event F_HLT_EVENT_MARGIN_EVT).raise 0x0C09 (pay [r, s.trim r + 1])) :=
    ((Changes.refl soundU).event _).raise _ _
  have raised : Changes [.alarms, .rcd, .regs] recFields [0x0C09] ((u.setFld (F_HLT_RAIL_TRIM_TRIM r) (s.trim r + 1)).event F_HLT_EVENT_MARGIN_EVT)
      (((u.setFld (F_HLT_RAIL_TRIM_TRIM r) (s.trim r + 1)).event F_HLT_EVENT_MARGIN_EVT).raise 0x0C09 (pay [r, s.trim r + 1])) :=
    (Changes.refl (soundU.setFld F_HLT_EVENT_MARGIN_EVT 1)).raise _ _
  have apart : ∀ f ∈ F_HLT_EVENT_MARGIN_EVT :: recFields, f.apart (F_HLT_RAIL_TRIM_TRIM r) := by
    unfold Fld.apart
    interval_cases r <;> decide
  have flag := flag_event soundU F_HLT_EVENT_MARGIN_EVT rfl
  have tim : u.tim = s.tim := moved .tim (by simp)
  have tim' := acts.frame .tim rfl
  have mram' := acts.frame .mram rfl
  have hlt' := acts.frame .hlt rfl
  have alarmed := alarm_raise ((u.setFld (F_HLT_RAIL_TRIM_TRIM r) (s.trim r + 1)).event F_HLT_EVENT_MARGIN_EVT) 0x0C09 0x0C09 (pay [r, s.trim r + 1])
  have alarms (c : Nat) : (u.setFld (F_HLT_RAIL_TRIM_TRIM r) (s.trim r + 1)).alarm? c = s.alarm? c := by
    rw [State.alarm?, State.alarm?, (State.setFld_acts u (F_HLT_RAIL_TRIM_TRIM r) (s.trim r + 1)).frame .alarms rfl, moved .alarms (by simp)]
  generalize ((u.setFld (F_HLT_RAIL_TRIM_TRIM r) (s.trim r + 1)).event F_HLT_EVENT_MARGIN_EVT).raise 0x0C09 (pay [r, s.trim r + 1]) = v at *
  have trims (q : Nat) : v.trim q = u.trim q := congrArg (fun m : Mram => aget 0 m.trims q) mram'
  refine ⟨(trims r).trans own, fun q other => (trims q).trans (others q other), (marks.fld _ rfl apart).trans shown, ?_, (raised.flag _).trans flag,
    alarmed.trans (if_pos rfl), ?_, tim'.trans tim, fun c other => (marks.alarms c other).trans (alarms c), (moved.mono (by simp)).trans (acts.framed.mono (by simp))⟩
  · rw [hlt', kept, plan]
  · rw [hlt', kept, taken, tim', tim]

/-- What a trim step that is refused leaves. -/
structure TrimRefused (s t : State) (r : Nat) : Prop where
  trims : t.mram.trims = s.mram.trims
  plan : afind t.hlt.trimPlan r = none
  margin : aget (0, 0) t.mram.margin (railDie r) = ((aget (0, 0) s.mram.margin (railDie r)).1, 2)
  alarms : AlarmsBut [0x0C0A] s t
  exhausted : s.Sound → railDie r ∉ s.hlt.exhaustedRaised → t.Alarmed 0x0C0A ∧ t.flag F_HLT_EVENT_MARGIN_EVT = true
  time : t.tim = s.tim
  frame : Frame [.alarms, .rcd, .mram, .hlt, .regs] s t

/-- What the report of an exhausted die leaves. -/
structure Exhausted (s t : State) (d : Nat) : Prop where
  hlt : t.hlt = { s.hlt with exhaustedRaised := t.hlt.exhaustedRaised }
  alarms : AlarmsBut [0x0C0A] s t
  raised : s.Sound → d ∉ s.hlt.exhaustedRaised → t.Alarmed 0x0C0A ∧ t.flag F_HLT_EVENT_MARGIN_EVT = true

theorem State.exhaust_exhausts (s : State) (d : Nat) : Exhausted s (s.exhaust d) d := by
  unfold State.exhaust
  split
  case isTrue known => exact ⟨rfl, fun _ _ => rfl, fun _ new => absurd (List.contains_iff_mem.mp known) new⟩
  case isFalse =>
    have marked : Acts _ _ (State.event { s with hlt := { s.hlt with exhaustedRaised := s.hlt.exhaustedRaised ++ [d] } } F_HLT_EVENT_MARGIN_EVT) := State.event_acts ..
    refine ⟨(State.raise_hlt ..).trans ?_, fun c other => ?_, fun sound _ => ⟨(alarm_raise ..).trans (if_pos rfl), ?_⟩⟩
    · rw [State.raise_hlt]
      exact marked.frame .hlt rfl
    · exact (alarm_raise_other fun same => other (by simp [same])).trans (by rw [State.alarm?, marked.frame .alarms rfl]; rfl)
    · have set : State.Sound { s with hlt := { s.hlt with exhaustedRaised := s.hlt.exhaustedRaised ++ [d] } } :=
        sound.of_eq rfl rfl rfl rfl rfl rfl rfl rfl rfl rfl rfl rfl rfl rfl
      have raised := (Changes.refl (ps := [.alarms, .rcd, .regs]) (fs := recFields) (cs := [0x0C0A]) (set.setFld F_HLT_EVENT_MARGIN_EVT 1)).raise 0x0C0A (pay [d])
      exact (raised.flag _).trans (flag_event set _ rfl)

theorem State.trimRefused_refuses (s : State) (r : Nat) : TrimRefused s (s.trimRefused r) r := by
  have acts := State.trimRefused_acts s r
  have tim : (s.trimRefused r).tim = s.tim := acts.frame .tim rfl
  have frame := (acts.mono (m := partMask [.alarms, .rcd, .mram, .hlt, .regs]) rfl).framed
  clear acts
  unfold State.trimRefused
  extract_lets d h t
  have set : (t.setMargin d (aget (0, 0) t.mram.margin d).1 2).mram = { s.mram with margin := aset s.mram.margin d ((aget (0, 0) s.mram.margin d).1, 2) } := rfl
  have hlt : (t.setMargin d (aget (0, 0) t.mram.margin d).1 2).hlt = { s.hlt with trimPlan := adel s.hlt.trimPlan r } := rfl
  have alarms : (t.setMargin d (aget (0, 0) t.mram.margin d).1 2).alarms = s.alarms := rfl
  have sound (h : s.Sound) : (t.setMargin d (aget (0, 0) t.mram.margin d).1 2).Sound :=
    (State.setMargin_acts t d (aget (0, 0) t.mram.margin d).1 2).sound (h.of_eq rfl rfl rfl rfl rfl rfl rfl rfl rfl rfl rfl rfl rfl rfl)
  replace tim : ((t.setMargin d (aget (0, 0) t.mram.margin d).1 2).exhaust d).tim = s.tim := tim
  replace frame : Frame [.alarms, .rcd, .mram, .hlt, .regs] s ((t.setMargin d (aget (0, 0) t.mram.margin d).1 2).exhaust d) := frame
  generalize t.setMargin d (aget (0, 0) t.mram.margin d).1 2 = u at *
  have ex := u.exhaust_exhausts d
  have mram : (u.exhaust d).mram = u.mram := (State.exhaust_acts u d).frame .mram rfl
  refine ⟨?_, ?_, ?_, fun c other => (ex.alarms c other).trans ?_, fun h new => ex.raised (sound h) ?_, tim, frame⟩
  · rw [mram, set]
  · rw [ex.hlt, hlt]
    exact afind_adel_self
  · rw [mram, set]
    exact aget_aset_self
  · rw [State.alarm?, alarms]
    rfl
  · rw [hlt]
    exact new

/-! The operating time. -/

/-- What one whole operating second brings channel `n`. -/
def State.brakeSecond (t : State) (n : Nat) : State :=
  if (t.brake n).degr != 0 && (t.brake n).degr != 3 then
    ({ t with mram := { t.mram with brakeLeft := aset t.mram.brakeLeft n (aget 0 t.mram.brakeLeft n - 1) } }).showBrake n
  else t

/-- What one whole operating hour brings channel `n`. -/
def State.brakeHour (t : State) (n : Nat) : State :=
  ({ t with mram := { t.mram with brakeAge := aset t.mram.brakeAge n (aget 0 t.mram.brakeAge n + 1) } }).setReg (A_SAF_BRK_AGE n)
    (toWord (Nat.min (aget 0 t.mram.brakeAge n + 1) 4294967295))

theorem State.secondPassed_eq (s : State) : s.secondPassed = s.each (List.range 8) State.brakeSecond := rfl

theorem State.hourPassed_eq (s : State) : s.hourPassed =
    { s.each (List.range 8) State.brakeHour with rcd := { (s.each (List.range 8) State.brakeHour).rcd with hourly := true, anchorDue := true } } := rfl

/-- A step for each number of a list, where each step changes its own entry alone: the entry of a listed number as its own step leaves it. -/
theorem State.each_entry {α : Type} {f : State → Nat → State} {g : State → Nat → α} {inv : State → Prop} (own : ∀ u k j, j ≠ k → g (f u k) j = g u j)
    (kept : ∀ u k, inv u → inv (f u k)) : ∀ {l : List Nat}, l.Nodup → n ∈ l → ∀ s : State, inv s → ∃ u, inv u ∧ g u n = g s n ∧ g (s.each l f) n = g (f u n) n
  | a :: l, once, listed, s, start => by
    obtain ⟨new, rest⟩ := List.nodup_cons.mp once
    rcases List.mem_cons.mp listed with rfl | later
    · refine ⟨s, start, rfl, ?_⟩
      exact List.foldlRecOn (motive := fun u : State => g u n = g (f s n) n) l f rfl fun u hu k hk => (own u k n (fun same => new (same ▸ hk))).trans hu
    · obtain ⟨u, holds, before, after⟩ := State.each_entry own kept rest later (f s a) (kept s a start)
      exact ⟨u, holds, before.trans (own s a n fun same => new (same ▸ later)), after⟩

theorem State.brakeSecond_saf (t : State) (n : Nat) : (t.brakeSecond n).saf = t.saf := by
  unfold State.brakeSecond
  split
  · exact (State.showBrake_acts _ n).frame .saf rfl
  · rfl

theorem State.brakeSecond_mram (t : State) (n : Nat) : (t.brakeSecond n).mram =
    { t.mram with brakeLeft := if (t.brake n).degr != 0 && (t.brake n).degr != 3 then aset t.mram.brakeLeft n (aget 0 t.mram.brakeLeft n - 1) else t.mram.brakeLeft } := by
  unfold State.brakeSecond
  split
  · exact (State.showBrake_acts _ n).frame .mram rfl
  · rfl

/-- What whole operating seconds leave. -/
structure SecondPassed (s t : State) : Prop where
  left : ∀ n < 8, (s.brake n).degr = 1 ∨ (s.brake n).degr = 2 → aget 0 t.mram.brakeLeft n = aget 0 s.mram.brakeLeft n - 1
  mram : t.mram = { s.mram with brakeLeft := t.mram.brakeLeft }
  rcd : t.rcd = s.rcd

theorem State.secondPassed_passes (s : State) : SecondPassed s s.secondPassed := by
  refine ⟨fun n unit degraded => ?_, ?_, (State.secondPassed_acts s).frame .rcd rfl⟩
  · obtain ⟨u, saf, before, after⟩ := State.each_entry (n := n) (f := State.brakeSecond) (g := fun u j => aget 0 u.mram.brakeLeft j) (inv := fun u => u.saf = s.saf)
      (fun u k j other => by
        show aget 0 (u.brakeSecond k).mram.brakeLeft j = _
        rw [u.brakeSecond_mram k]
        show aget 0 (if _ then _ else _) j = _
        split
        · exact aget_aset_other other
        · rfl)
      (fun u k h => (u.brakeSecond_saf k).trans h) (List.nodup_range (n := 8)) (List.mem_range.mpr unit) s rfl
    rw [State.secondPassed_eq]
    refine Eq.trans after ?_
    have degr : (u.brake n).degr = (s.brake n).degr := by rw [State.brake, State.brake, saf]
    show aget 0 (u.brakeSecond n).mram.brakeLeft n = _
    rw [u.brakeSecond_mram n, degr]
    show aget 0 (if _ then _ else _) n = _
    rw [if_pos (by rcases degraded with one | two <;> simp [*]), aget_aset_self]
    exact congrArg (· - 1) before
  · rw [State.secondPassed_eq]
    generalize List.range 8 = l
    refine List.foldlRecOn (motive := fun u : State => u.mram = { s.mram with brakeLeft := u.mram.brakeLeft }) l State.brakeSecond rfl fun u hu k _ => ?_
    rw [u.brakeSecond_mram k, hu]

/-- What a whole operating hour leaves. -/
structure HourPassed (s t : State) : Prop where
  age : ∀ n < 8, aget 0 t.mram.brakeAge n = aget 0 s.mram.brakeAge n + 1
  mram : t.mram = { s.mram with brakeAge := t.mram.brakeAge }
  rcd : t.rcd = { s.rcd with hourly := true, anchorDue := true }

theorem State.hourPassed_passes (s : State) : HourPassed s s.hourPassed := by
  have rcd : (s.each (List.range 8) State.brakeHour).rcd = s.rcd :=
    List.foldlRecOn (motive := fun u : State => u.rcd = s.rcd) _ _ rfl fun u hu k _ => hu
  rw [State.hourPassed_eq]
  refine ⟨fun n unit => ?_, ?_, ?_⟩
  · obtain ⟨u, _, before, after⟩ := State.each_entry (n := n) (f := State.brakeHour) (g := fun u j => aget 0 u.mram.brakeAge j) (inv := fun _ => True)
      (fun u k j other => aget_aset_other other) (fun _ _ _ => trivial) (List.nodup_range (n := 8)) (List.mem_range.mpr unit) s trivial
    exact after.trans (aget_aset_self.trans (congrArg (· + 1) before))
  · exact List.foldlRecOn (motive := fun u : State => u.mram = { s.mram with brakeAge := u.mram.brakeAge }) _ _ rfl fun u hu k _ => by
      show ({ u.mram with brakeAge := _ } : Mram) = _
      rw [hu]
      rfl
  · rw [rcd]

/-- OPERATING_TIME_TICK with the interval `i`. -/
def State.ticked (s : State) (i : Nat) : State :=
  let n := s.rcd.opTime + 1
  let r := s.reachEl (s.rcd.tickAt + i)
  let t := { r with rcd := { r.rcd with opTime := n, tickAt := s.rcd.tickAt + i } }
  let u := if n % 100 = 0 then { t with mram := { t.mram with opTime := n } } else t
  let v := if n % 10 = 0 then u.secondPassed else u
  if n % 36000 = 0 then v.hourPassed else v

theorem exec_operatingTimeTick_runs (started : s.boot.started = true) (runs : s.boot.halted = false) : exec .operatingTimeTick s = .next (s.ticked (100 * ms)) := by
  rw [exec_operatingTimeTick, execOperatingTimeTick, if_pos (by simp [started, runs])]
  rfl

/-- What a tick of the operating time leaves. -/
structure Ticked (s t : State) (e : Nat) : Prop where
  opTime : t.rcd.opTime = s.rcd.opTime + 1
  stored : t.mram.opTime = (if (s.rcd.opTime + 1) % 100 = 0 then s.rcd.opTime + 1 else s.mram.opTime)
  queue : t.rcd.queue = s.rcd.queue
  hour : (s.rcd.opTime + 1) % 36000 = 0 → t.rcd.hourly = true ∧ t.rcd.anchorDue = true ∧ ∀ n < 8, aget 0 t.mram.brakeAge n = aget 0 s.mram.brakeAge n + 1
  within : (s.rcd.opTime + 1) % 36000 ≠ 0 → t.rcd.hourly = s.rcd.hourly ∧ t.mram.brakeAge = s.mram.brakeAge
  second : (s.rcd.opTime + 1) % 10 = 0 → ∀ n < 8, (s.brake n).degr = 1 ∨ (s.brake n).degr = 2 → aget 0 t.mram.brakeLeft n = aget 0 s.mram.brakeLeft n - 1
  tenth : (s.rcd.opTime + 1) % 10 ≠ 0 → t.mram.brakeLeft = s.mram.brakeLeft
  time : t.tim.el = Nat.max s.tim.el e
  tickAt : t.rcd.tickAt = e

theorem State.ticked_ticks (s : State) (i : Nat) : Ticked s (s.ticked i) (s.rcd.tickAt + i) := by
  unfold State.ticked
  extract_lets n r q t m u v
  have time : r.tim.el = Nat.max s.tim.el (s.rcd.tickAt + i) := s.reachEl_max _
  have rcdT : t.rcd = { s.rcd with opTime := n, tickAt := s.rcd.tickAt + i } := rfl
  have mramU : u.mram = { s.mram with opTime := if n % 100 = 0 then n else s.mram.opTime } := by
    simp only [u]
    split <;> rfl
  have rcdU : u.rcd = t.rcd := by
    simp only [u]
    split <;> rfl
  have brakeU (k : Nat) : u.brake k = s.brake k := by
    simp only [u]
    split <;> rfl
  have timU : u.tim = r.tim := by
    simp only [u]
    split <;> rfl
  clear_value u
  have mramV : v.mram = { u.mram with brakeLeft := v.mram.brakeLeft } := by
    simp only [v]
    split
    · exact u.secondPassed_passes.mram
    · rfl
  have rcdV : v.rcd = t.rcd := by
    simp only [v]
    split
    · exact u.secondPassed_passes.rcd.trans rcdU
    · exact rcdU
  have timV : v.tim = r.tim := by
    simp only [v]
    split
    · exact ((State.secondPassed_acts u).frame .tim rfl).trans timU
    · exact timU
  have second (whole : n % 10 = 0) (k : Nat) (unit : k < 8) (degraded : (s.brake k).degr = 1 ∨ (s.brake k).degr = 2) :
      aget 0 v.mram.brakeLeft k = aget 0 s.mram.brakeLeft k - 1 := by
    simp only [v, if_pos whole]
    rw [u.secondPassed_passes.left k unit ((brakeU k).symm ▸ degraded), mramU]
  have tenth (part : n % 10 ≠ 0) : v.mram.brakeLeft = s.mram.brakeLeft := by
    simp only [v, if_neg part]
    rw [mramU]
  clear_value v
  rw [mramU] at mramV
  split
  case isTrue hour =>
    have passed := v.hourPassed_passes
    have left : v.hourPassed.mram.brakeLeft = v.mram.brakeLeft := by rw [passed.mram]
    have tim : v.hourPassed.tim = v.tim := (State.hourPassed_acts v).frame .tim rfl
    refine ⟨?_, ?_, ?_, fun _ => ⟨?_, ?_, fun k unit => ?_⟩, fun no => absurd hour no, fun whole k unit degraded => ?_, fun part => ?_, ?_, ?_⟩
    · rw [passed.rcd, rcdV, rcdT]
    · rw [passed.mram, mramV]
    · rw [passed.rcd, rcdV, rcdT]
    · rw [passed.rcd]
    · rw [passed.rcd]
    · rw [passed.age k unit, mramV]
    · rw [left]
      exact second whole k unit degraded
    · rw [left]
      exact tenth part
    · rw [tim, timV, time]
    · rw [passed.rcd, rcdV, rcdT]
  case isFalse hour =>
    refine ⟨?_, ?_, ?_, fun yes => absurd yes hour, fun _ => ⟨?_, ?_⟩, second, tenth, ?_, ?_⟩
    · rw [rcdV, rcdT]
    · rw [mramV]
    · rw [rcdV, rcdT]
    · rw [rcdV, rcdT]
    · rw [mramV]
    · rw [timV, time]
    · rw [rcdV, rcdT]

theorem exec_operatingTimeTick_ticks (started : s.boot.started = true) (runs : s.boot.halted = false) :
    ∃ t, exec .operatingTimeTick s = .next t ∧ Ticked s t (s.rcd.tickAt + 100000000) :=
  ⟨_, exec_operatingTimeTick_runs started runs, s.ticked_ticks (100 * ms)⟩

end

end Sys2Proof.Machine

/-! The hourly measurement (R482, R483, R486) and its health record (R495). -/
namespace Sys2Proof.Machine
set_option Elab.async false

section
variable {s t u : State} {n k j c a b e r i m : Nat} {cs : List Nat}

/-- What a part of the hourly measurement keeps: the queue only grows, by `k` records at most, and the counts of the hour stay. -/
structure HourPart (cs : List Nat) (k : Nat) (s t : State) : Prop where
  grows : s.rcd.queue <+: t.rcd.queue
  few : t.rcd.queue.length ≤ s.rcd.queue.length + k
  corrLast : t.hlt.corrLast = s.hlt.corrLast
  corrHour : t.hlt.corrHour = s.hlt.corrHour
  bankCorr : t.hlt.bankCorr = s.hlt.bankCorr
  alarms : AlarmsBut cs s t

namespace HourPart

theorem refl (s : State) : HourPart cs 0 s s := ⟨List.prefix_refl _, Nat.le_refl _, rfl, rfl, rfl, fun _ _ => rfl⟩

theorem trans (h : HourPart cs k s t) (g : HourPart cs j t u) : HourPart cs (k + j) s u :=
  ⟨h.grows.trans g.grows, by have := h.few; have := g.few; omega, g.corrLast.trans h.corrLast, g.corrHour.trans h.corrHour, g.bankCorr.trans h.bankCorr,
    fun c hc => (g.alarms c hc).trans (h.alarms c hc)⟩

theorem mono (h : HourPart cs k s t) (more : k ≤ j) : HourPart cs j s t :=
  ⟨h.grows, Nat.le_trans h.few (Nat.add_le_add_left more _), h.corrLast, h.corrHour, h.bankCorr, h.alarms⟩

/-- An operation that leaves the recorder, the health counts and the alarms. -/
theorem acts (h : HourPart cs k s t) (g : Acts m t u) (left : (m.testBit 7 || m.testBit 8 || m.testBit 21) = false) : HourPart cs k s u := by
  obtain ⟨outside, hlt⟩ := Bool.or_eq_false_iff.mp left
  obtain ⟨alarms, rcd⟩ := Bool.or_eq_false_iff.mp outside
  have rcd' : u.rcd = t.rcd := g.frame .rcd rcd
  have hlt' : u.hlt = t.hlt := g.frame .hlt hlt
  exact ⟨rcd' ▸ h.grows, rcd' ▸ h.few, hlt' ▸ h.corrLast, hlt' ▸ h.corrHour, hlt' ▸ h.bankCorr, fun c hc => (alarm_of_acts g alarms).trans (h.alarms c hc)⟩

theorem record (s : State) (a b : Nat) (p : List Word) : HourPart cs 1 s (s.record a b p) := by
  have hlt : (s.record a b p).hlt = s.hlt := State.record_hlt ..
  refine ⟨?_, ?_, by rw [hlt], by rw [hlt], by rw [hlt], fun c _ => by rw [State.alarm?, State.record_alarms]; rfl⟩
  all_goals
    unfold State.record State.enqueue
    split
  · exact List.prefix_append ..
  · exact List.prefix_refl _
  · simp
  · exact Nat.le_succ _

theorem raise (s : State) (own : c ∈ cs) (p : List Word) : HourPart cs 1 s (s.raise c p) := by
  have reported (u : State) (rcd : u.rcd = s.rcd) : s.rcd.queue <+: (u.record c 0 p).rcd.queue ∧ (u.record c 0 p).rcd.queue.length ≤ s.rcd.queue.length + 1 :=
    rcd ▸ ⟨(record (cs := []) u c 0 p).grows, (record (cs := []) u c 0 p).few⟩
  have queue : s.rcd.queue <+: (s.raise c p).rcd.queue ∧ (s.raise c p).rcd.queue.length ≤ s.rcd.queue.length + 1 := by
    unfold State.raise
    split
    · exact ⟨List.prefix_refl _, Nat.le_succ _⟩
    · exact reported _ rfl
  have hlt : (s.raise c p).hlt = s.hlt := State.raise_hlt ..
  exact ⟨queue.1, queue.2, by rw [hlt], by rw [hlt], by rw [hlt], fun d hd => alarm_raise_other fun (same : c = d) => hd (same ▸ own)⟩

theorem ite {p : Prop} [Decidable p] (h : p → HourPart cs k s t) (g : ¬p → HourPart cs k s u) : HourPart cs k s (if p then t else u) := by
  split
  · exact h ‹_›
  · exact g ‹_›

theorem foldl {α : Type} {f : State → α → State} (l : List α) (s : State) (step : ∀ u x, HourPart cs k u (f u x)) : HourPart cs (l.length * k) s (l.foldl f s) := by
  induction l generalizing s with
  | nil => exact (refl s).mono (Nat.zero_le _)
  | cons x l ih => exact ((step s x).trans (ih (f s x))).mono (by simp only [List.length_cons, Nat.succ_mul]; omega)

theorem each {f : State → Nat → State} (l : List Nat) (s : State) (step : ∀ u x, HourPart cs k u (f u x)) : HourPart cs (l.length * k) s (s.each l f) :=
  foldl l s step

end HourPart

/-! The dies (R482 to R484). -/

theorem State.exhaust_hour (s : State) (d : Nat) : HourPart [0x0C0A] 1 s (s.exhaust d) := by
  unfold State.exhaust
  refine .ite (fun _ => (HourPart.refl s).mono (Nat.zero_le 1)) fun _ => ?_
  have listed : HourPart [0x0C0A] 0 s { s with hlt := { s.hlt with exhaustedRaised := s.hlt.exhaustedRaised ++ [d] } } :=
    ⟨List.prefix_refl _, Nat.le_refl _, rfl, rfl, rfl, fun _ _ => rfl⟩
  have marked := listed.acts (State.event_acts _ F_HLT_EVENT_MARGIN_EVT) rfl
  exact (marked.trans (.raise _ (by simp) _)).mono (Nat.le_refl 1)

theorem State.replan_hour (s : State) (d : Nat) (x : Int) : HourPart [0x0C0A] 1 s (s.replan d x) := by
  unfold State.replan
  extract_lets least target s1 inUse full status h s2
  have h1 : HourPart [0x0C0A] 0 s s1 := (HourPart.each (k := 0) _ s fun u rail => by
    extract_lets n p
    exact .ite (fun _ => .refl u) fun _ => ⟨List.prefix_refl _, Nat.le_refl _, rfl, rfl, rfl, fun _ _ => rfl⟩).mono (by simp)
  have settled : HourPart [0x0C0A] 0 s { s1 with hlt := { s1.hlt with leastSlack := adel s1.hlt.leastSlack d } } :=
    ⟨h1.grows, h1.few, h1.corrLast, h1.corrHour, h1.bankCorr, h1.alarms⟩
  have h2 : HourPart [0x0C0A] 0 s s2 := settled.acts (State.setMargin_acts _ d 0 status) rfl
  exact .ite (fun _ => (h2.trans (s2.exhaust_hour d)).mono (by decide)) fun _ => h2.mono (Nat.zero_le 1)

theorem State.readDie_hour (s : State) (d : Nat) (r : DieReading) : HourPart [0x0C0A] 1 s (s.readDie d r) := by
  unfold State.readDie
  extract_lets slack t least m since h u
  have shown : HourPart [0x0C0A] 0 s t := ((HourPart.refl s).acts (State.setInt_acts ..) rfl).acts (State.setInt_acts ..) rfl
  have kept : HourPart [0x0C0A] 0 s { t with hlt := { t.hlt with leastSlack := aset t.hlt.leastSlack d least } } :=
    ⟨shown.grows, shown.few, shown.corrLast, shown.corrHour, shown.bankCorr, shown.alarms⟩
  have read : HourPart [0x0C0A] 0 s u := kept.acts (State.setMargin_acts _ d since m.2) rfl
  exact .ite (fun _ => (read.trans (u.replan_hour d slack)).mono (by decide)) fun _ => read.mono (Nat.zero_le 1)

/-! The diodes and the calibration (R486). -/

theorem State.readDiodes_hour (s : State) (d : List Int) : HourPart [0x0C05] 4 s (s.readDiodes d) := by
  rw [State.readDiodes_eq]
  have each := HourPart.each (cs := [0x0C05]) (k := 1) (List.range 4) { s with thm := { s.thm with diodes := d, badDiodes := badReadings d } } fun u k => by
    show HourPart _ _ u (u.readDiode d k)
    unfold State.readDiode
    refine .ite (fun _ => ?_) fun _ => (HourPart.acts (.refl u) (State.setInt_acts ..) rfl).mono (Nat.zero_le 1)
    exact ((((HourPart.refl u).acts (State.setFld_acts ..) rfl).acts (State.event_acts ..) rfl).trans (.raise _ (by simp) _)).mono (by decide)
  exact ⟨each.grows, each.few, each.corrLast, each.corrHour, each.bankCorr, each.alarms⟩

theorem State.goodDiodes_few (s : State) : s.goodDiodes.length ≤ 4 := List.length_filter_le _ (List.range 4)

theorem State.reportResidual_hour (s : State) (k : Nat) : HourPart [0x0C04] 1 s (s.reportResidual k) := by
  unfold State.reportResidual
  extract_lets r t
  have shown : HourPart [0x0C04] 0 s t := (HourPart.refl s).acts (State.setInt_acts ..) rfl
  exact .ite (fun _ => ((shown.acts (State.event_acts ..) rfl).trans (.raise _ (by simp) _)).mono (by decide)) fun _ => shown.mono (Nat.zero_le 1)

/-- What the calibration leaves. -/
structure Calibrated (s t : State) : Prop where
  hour : HourPart [0x0C04] 4 s t
  sinceCal : t.hlt.sinceCal = 0
  diodes : t.thm.diodes = s.thm.diodes
  bad : t.thm.badDiodes = s.thm.badDiodes

theorem State.calibrate_calibrates (s : State) : Calibrated s s.calibrate := by
  unfold State.calibrate
  extract_lets t u h
  have moved : HourPart [0x0C04] 0 s t := (HourPart.refl s).acts (State.moveRef_acts ..) rfl
  have offsets := HourPart.each (cs := [0x0C04]) (k := 0) ([0, 2, 5].filter (fun n => t.goodDiodes.any (fun k => diodeNode k == n))) t fun u n =>
    (HourPart.refl u).acts (State.calibrateNode_acts u n) rfl
  have reports := HourPart.each (cs := [0x0C04]) (k := 1) t.goodDiodes (t.each ([0, 2, 5].filter (fun n => t.goodDiodes.any (fun k => diodeNode k == n))) State.calibrateNode)
    State.reportResidual_hour
  have all : HourPart [0x0C04] 4 s u := (moved.trans (offsets.trans reports)).mono (by have := t.goodDiodes_few; omega)
  have actsO := State.each_acts' ([0, 2, 5].filter (fun n => t.goodDiodes.any (fun k => diodeNode k == n))) t State.calibrateNode_acts
  have actsR := State.each_acts' t.goodDiodes (t.each ([0, 2, 5].filter (fun n => t.goodDiodes.any (fun k => diodeNode k == n))) State.calibrateNode) State.reportResidual_acts
  have thm : u.thm = t.thm := (actsR.frame .thm rfl).trans (actsO.frame .thm rfl)
  refine ⟨⟨all.grows, all.few, all.corrLast, all.corrHour, all.bankCorr, all.alarms⟩, rfl, ?_, ?_⟩
  · show u.thm.diodes = _
    rw [thm]
    rfl
  · show u.thm.badDiodes = _
    rw [thm]
    rfl

/-! The whole measurement. -/

theorem State.refinedRecords_grows (s : State) : ∃ k, HourPart [] k s s.refinedRecords :=
  ⟨_, HourPart.each _ s fun u _ => HourPart.record u _ _ _⟩

theorem State.headroomRecords_grows (s : State) : ∃ k, HourPart [] k s s.headroomRecords :=
  ⟨_, HourPart.foldl _ s fun u _ => HourPart.record u _ _ _⟩

/-- What the measurement leaves before its records. -/
structure DiesMeasured (s t : State) (l : List DieReading) (d : List Int) : Prop where
  grows : s.rcd.queue <+: t.rcd.queue
  few : t.rcd.queue.length ≤ s.rcd.queue.length + (l.length + 8)
  corrLast : t.hlt.corrLast = s.hlt.corrHour
  corrHour : t.hlt.corrHour = []
  bankCorr : t.hlt.bankCorr = []
  diodes : t.thm.diodes = d
  bad : t.thm.badDiodes = badReadings d
  sinceCal : t.hlt.sinceCal = 0
  reported : badReadings d ≠ [] → t.Alarmed 0x0C05
  alarms : AlarmsBut [0x0C04, 0x0C05, 0x0C0A] s t

/-- The measurement before its records. -/
def State.measured (s : State) (l : List DieReading) (d : List Int) : State :=
  (((l.zipIdx).foldl (fun (t : State) e => t.readDie e.2 e.1) { s with hlt := { s.hlt with corrLast := s.hlt.corrHour, corrHour := [], bankCorr := [] } }).readDiodes d).calibrate

theorem State.anneal_eq (s : State) (l : List DieReading) (d : List Int) : s.anneal l d = (s.measured l d).healthRecord := rfl

theorem State.measured_measures (s : State) (l : List DieReading) (d : List Int)   : DiesMeasured s (s.measured l d) l d := by
  unfold State.measured
  have dies := HourPart.foldl (cs := [0x0C0A]) (k := 1) l.zipIdx { s with hlt := { s.hlt with corrLast := s.hlt.corrHour, corrHour := [], bankCorr := [] } }
    fun u (e : DieReading × Nat) => u.readDie_hour e.2 e.1
  rw [List.length_zipIdx, Nat.mul_one] at dies
  generalize (l.zipIdx).foldl (fun (t : State) e => t.readDie e.2 e.1) { s with hlt := { s.hlt with corrLast := s.hlt.corrHour, corrHour := [], bankCorr := [] } } = t at *
  have diodes := t.readDiodes_hour d
  have read := t.readDiodes_reads d
  generalize t.readDiodes d = u at *
  have calibrated := u.calibrate_calibrates
  generalize u.calibrate = v at *
  have hour := calibrated.hour
  refine ⟨dies.grows.trans (diodes.grows.trans hour.grows), ?_, hour.corrLast.trans (diodes.corrLast.trans dies.corrLast),
    hour.corrHour.trans (diodes.corrHour.trans dies.corrHour), hour.bankCorr.trans (diodes.bankCorr.trans dies.bankCorr), ?_, ?_, calibrated.sinceCal,
    fun bad => (hour.alarms _ (by decide)).trans (read.alarmed bad), fun c other => ?_⟩
  · have first : t.rcd.queue.length ≤ s.rcd.queue.length + l.length := dies.few
    have second := diodes.few
    have third := hour.few
    omega
  · rw [calibrated.diodes, read.thm]
  · rw [calibrated.bad, read.thm]
  · obtain ⟨residual, diode, margin⟩ : c ∉ [0x0C04] ∧ c ∉ [0x0C05] ∧ c ∉ [0x0C0A] := by simpa using other
    exact (hour.alarms c residual).trans ((diodes.alarms c diode).trans (dies.alarms c margin))

theorem exec_annealMeasurement_idle (done : s.rcd.hourly = false) (l : List DieReading) (d : List Int) : exec (.annealMeasurement l d) s = .next s := by
  rw [exec_annealMeasurement, execAnnealMeasurement, if_neg (by simp [done])]

theorem exec_annealMeasurement_due (due : s.rcd.hourly = true) (l : List DieReading) (d : List Int) : exec (.annealMeasurement l d) s =
    .next (State.refinedRecords { s.anneal l d with rcd := { (s.anneal l d).rcd with hourly := false } }).headroomRecords := by
  rw [exec_annealMeasurement, execAnnealMeasurement, if_pos due]

/-- What the hourly records keep. -/
structure Recorded (s t : State) : Prop where
  grows : s.rcd.queue <+: t.rcd.queue
  hlt : t.hlt = s.hlt
  thm : t.thm = s.thm
  hourly : t.rcd.hourly = s.rcd.hourly
  alarms : AlarmsBut [] s t

theorem State.record_hourly (s : State) (a b : Nat) (p : List Word) : (s.record a b p).rcd.hourly = s.rcd.hourly := by
  unfold State.record State.enqueue
  split
  · rfl
  · rfl

theorem State.hourRecords_record (s : State) : Recorded s s.refinedRecords.headroomRecords := by
  obtain ⟨j, refined⟩ := s.refinedRecords_grows
  obtain ⟨k, headroom⟩ := s.refinedRecords.headroomRecords_grows
  have all := refined.trans headroom
  refine ⟨all.grows, ((State.headroomRecords_acts _).frame .hlt rfl).trans ((State.refinedRecords_acts s).frame .hlt rfl),
    ((State.headroomRecords_acts _).frame .thm rfl).trans ((State.refinedRecords_acts s).frame .thm rfl), ?_, all.alarms⟩
  have first : s.refinedRecords.rcd.hourly = s.rcd.hourly := by
    unfold State.refinedRecords
    exact List.foldlRecOn (motive := fun u : State => u.rcd.hourly = s.rcd.hourly) _ _ rfl fun u hu k _ => (State.record_hourly ..).trans hu
  refine Eq.trans ?_ first
  generalize s.refinedRecords = t
  unfold State.headroomRecords
  exact List.foldlRecOn (motive := fun u : State => u.rcd.hourly = t.rcd.hourly) _ _ rfl fun u hu k _ => (State.record_hourly ..).trans hu

/-- What the hourly measurement leaves. -/
structure Annealed (s t : State) (l : List DieReading) (d : List Int) : Prop where
  hourly : t.rcd.hourly = false
  corrLast : t.hlt.corrLast = s.hlt.corrHour
  corrHour : t.hlt.corrHour = []
  bankCorr : t.hlt.bankCorr = []
  diodes : t.thm.diodes = d
  sinceCal : t.hlt.sinceCal = 0
  bad : t.thm.badDiodes = badReadings d
  reported : badReadings d ≠ [] → t.Alarmed 0x0C05
  health : s.rcd.queue = [] → l.length ≤ 6 → ∃ e ∈ t.rcd.queue, e.typ = 0x0C80
  alarms : AlarmsBut [0x0C04, 0x0C05, 0x0C0A] s t

theorem State.anneal_anneals (s : State) (l : List DieReading) (d : List Int) :
    Annealed s (State.refinedRecords { s.anneal l d with rcd := { (s.anneal l d).rcd with hourly := false } }).headroomRecords l d := by
  have measured := s.measured_measures l d
  rw [State.anneal_eq]
  generalize s.measured l d = u at *
  have acts := u.healthRecord_acts
  have queued (room : u.rcd.queue.length < 1024) : ∃ e ∈ u.healthRecord.rcd.queue, e.typ = 0x0C80 := by
    unfold State.healthRecord
    extract_lets trims
    rw [State.record_queue _ _ _ _ room]
    exact ⟨_, List.mem_append_right _ (List.mem_singleton.mpr rfl), rfl⟩
  have recorded := State.hourRecords_record { u.healthRecord with rcd := { u.healthRecord.rcd with hourly := false } }
  generalize (State.refinedRecords { u.healthRecord with rcd := { u.healthRecord.rcd with hourly := false } }).headroomRecords = t at *
  have hlt : t.hlt = u.hlt := recorded.hlt.trans (acts.frame .hlt rfl)
  have thm : t.thm = u.thm := recorded.thm.trans (acts.frame .thm rfl)
  have alarm (c : Nat) : t.alarm? c = u.alarm? c := by
    rw [recorded.alarms c (by simp)]
    exact (alarm_of_acts acts rfl : u.healthRecord.alarm? c = u.alarm? c)
  refine ⟨recorded.hourly, by rw [hlt, measured.corrLast], by rw [hlt, measured.corrHour], by rw [hlt, measured.bankCorr], by rw [thm, measured.diodes],
    by rw [hlt, measured.sinceCal], by rw [thm, measured.bad], fun bad => (alarm _).trans (measured.reported bad), fun empty short => ?_,
    fun c other => (alarm c).trans (measured.alarms c other)⟩
  have few := measured.few
  have none' : s.rcd.queue.length = 0 := by rw [empty, List.length_nil]
  obtain ⟨e, listed, typ⟩ := queued (by omega)
  exact ⟨e, recorded.grows.subset listed, typ⟩

/-- What TRIM_STEP leaves. -/
structure TrimStepped (s t : State) (r n i : Nat) : Prop where
  raised : s.trim r < 12 → s.withinPackage r (s.trim r + 1) = true → t.trim r = s.trim r + 1 ∧ t.fld (F_HLT_RAIL_TRIM_TRIM r) = s.trim r + 1 ∧
    afind t.hlt.trimPlan r = (if n = 0 then none else some n) ∧ t.flag F_HLT_EVENT_MARGIN_EVT = true ∧ t.Alarmed 0x0C09 ∧ t.hlt.trimAt = some t.tim.el ∧ AlarmsBut [0x0C09] s t
  time : ∀ e, s.hlt.trimAt = some e → t.tim.el = Nat.max s.tim.el (e + i)
  now : s.hlt.trimAt = none → t.tim.el = s.tim.el
  refused : 12 ≤ s.trim r ∨ s.withinPackage r (s.trim r + 1) = false → t.trim r = s.trim r ∧ afind t.hlt.trimPlan r = none ∧
    aget (0, 0) t.mram.margin (railDie r) = ((aget (0, 0) s.mram.margin (railDie r)).1, 2) ∧ AlarmsBut [0x0C0A] s t ∧
    (railDie r ∉ s.hlt.exhaustedRaised → t.Alarmed 0x0C0A ∧ t.flag F_HLT_EVENT_MARGIN_EVT = true)
  others : ∀ q, q ≠ r → t.trim q = s.trim q
  frame : Frame [.alarms, .rcd, .mram, .tim, .hlt, .regs, .elapsed, .working] s t

theorem State.trimStepped_steps (sound : s.Sound) (rail : r < 8) (n i : Nat) : TrimStepped s (s.trimStepped r n i) r n i := by
  unfold State.trimStepped
  extract_lets u
  have frame : Frame [.tim, .elapsed, .working] s u := s.after_frame _ i
  have soundU : u.Sound := State.after_sound sound _ i
  have time (e : Nat) (known : s.hlt.trimAt = some e) : u.tim.el = Nat.max s.tim.el (e + i) := by
    simp only [u, known]
    exact s.after_some e i
  have now (first : s.hlt.trimAt = none) : u.tim.el = s.tim.el := by
    simp only [u, first]
    rfl
  clear_value u
  have mram : u.mram = s.mram := frame .mram (by simp)
  have trim (q : Nat) : u.trim q = s.trim q := by rw [State.trim, State.trim, mram]
  have within' : u.withinPackage r (s.trim r + 1) = s.withinPackage r (s.trim r + 1) := by
    simp only [State.withinPackage, State.packagePower, trim]
    rfl
  have alarm (c : Nat) : u.alarm? c = s.alarm? c := by
    rw [State.alarm?, frame .alarms (by simp)]
    rfl
  have hlt : u.hlt = s.hlt := frame .hlt (by simp)
  rw [trim r, within']
  by_cases go : s.trim r < 12 ∧ s.withinPackage r (s.trim r + 1) = true
  · obtain ⟨room, power⟩ := go
    have raised := State.trimRaised_raises soundU rail ((trim r).symm ▸ room) n
    rw [if_pos (by simp [power]; omega)]
    refine ⟨fun _ _ => ⟨?_, ?_, raised.plan, raised.event, raised.alarmed, raised.taken, fun c other => (raised.alarms c other).trans (alarm c)⟩,
      fun e known => ?_, fun first => ?_, fun no => ?_, fun q other => (raised.others q other).trans (trim q), (frame.mono (by simp)).trans (raised.frame.mono (by simp))⟩
    · rw [raised.trim, trim]
    · rw [raised.shown, trim]
    · rw [raised.time]
      exact time e known
    · rw [raised.time]
      exact now first
    · rcases no with full | heavy
      · omega
      · simp [power] at heavy
  · have refused := u.trimRefused_refuses r
    have stays (q : Nat) : (u.trimRefused r).trim q = s.trim q := by rw [State.trim, refused.trims, ← trim, State.trim]
    rw [if_neg (by rw [Bool.and_eq_true, decide_eq_true_eq]; exact go)]
    refine ⟨fun room power => absurd ⟨room, power⟩ go, fun e known => ?_, fun first => ?_, fun _ => ⟨stays r, refused.plan, ?_, fun c other => (refused.alarms c other).trans (alarm c),
      fun new => refused.exhausted soundU (hlt.symm ▸ new)⟩, fun q _ => stays q, (frame.mono (by simp)).trans (refused.frame.mono (by simp))⟩
    · rw [refused.time]
      exact time e known
    · rw [refused.time]
      exact now first
    · rw [refused.margin, mram]

theorem exec_annealMeasurement_measures (due : s.rcd.hourly = true) (l : List DieReading) (d : List Int) : ∃ t, exec (.annealMeasurement l d) s = .next t ∧ Annealed s t l d ∧
    t.rcd.opTime = s.rcd.opTime ∧ Frame [.alarms, .rcd, .mram, .hlt, .thm, .regs] s t := by
  have next := exec_annealMeasurement_due due l d
  have annealed := s.anneal_anneals l d
  generalize (State.refinedRecords { s.anneal l d with rcd := { (s.anneal l d).rcd with hourly := false } }).headroomRecords = t at *
  obtain ⟨u, same, acts⟩ := execAnnealMeasurement_acts l d s
  rw [exec_annealMeasurement, same] at next
  obtain rfl := Host.Outcome.next.inj next
  exact ⟨u, same, annealed, acts.frame .opTime rfl, (acts.mono (m := partMask [.alarms, .rcd, .mram, .hlt, .thm, .regs]) rfl).framed⟩

theorem exec_operatingTimeTick_acts (started : s.boot.started = true) (runs : s.boot.halted = false) : ∃ t, exec .operatingTimeTick s = .next t ∧
    Ticked s t (s.rcd.tickAt + 100000000) ∧ Frame [.rcd, .opTime, .mram, .tim, .elapsed, .working, .regs] s t := by
  obtain ⟨t, next, ticked⟩ := exec_operatingTimeTick_ticks started runs
  obtain ⟨u, same, acts⟩ := execOperatingTimeTick_acts s
  rw [exec_operatingTimeTick, same] at next
  obtain rfl := Host.Outcome.next.inj next
  exact ⟨u, same, ticked, (acts.mono (m := partMask [.rcd, .opTime, .mram, .tim, .elapsed, .working, .regs]) rfl).framed⟩

theorem exec_trimStep_steps (sound : s.Sound) (rail : r < 8) (planned : afind s.hlt.trimPlan r = some (n + 1)) :
    ∃ t, exec (.trimStep r) s = .next t ∧ TrimStepped s t r n 1000000000 := ⟨_, exec_trimStep_planned planned, State.trimStepped_steps sound rail n sec⟩

theorem exec_trefTrack_tracks (started : s.boot.started = true) (runs : s.boot.halted = false) : ∃ t, exec .trefTrack s = .next t ∧ Tracked s t 1000000000 :=
  ⟨_, exec_trefTrack_runs started runs, s.trackRef_tracks sec⟩

theorem exec_thermalUpdateRuns_updates (sound : s.Sound) (started : s.boot.started = true) (runs : s.boot.halted = false) (rails : List (Nat × Nat))
    (few : rails.length ≤ 8) (vin : Nat) (coils : List Nat) (d : List Int) :
    ∃ t, exec (.thermalUpdateRuns rails vin coils d) s = .next t ∧ ThermalUpdated s t rails (s.nodePower rails vin coils) d 1000000 :=
  ⟨_, exec_thermalUpdateRuns_runs started runs rails vin coils d, State.thermalUpdate_updates sound rails few vin coils d ms⟩

end

/-- Settles O48: thermal updates, tracking, cooling, trim steps, the hourly measurement and the operating time, by the steps of each. -/
theorem temperaturesTrimsAndOperatingTimeAdvance : Obligations.TemperaturesTrimsAndOperatingTimeAdvance := by
  refine ⟨fun rails vin coils d s off => ?_, fun rails vin coils d s sound started runs few => ?_, fun s started runs => ?_, fun a s sound since => ?_, fun s idle => ?_,
    fun r n s sound rail planned => ?_, fun r s idle => exec_trimStep_none idle, fun l d s done => exec_annealMeasurement_idle done l d, fun l d s due => ?_,
    fun s started runs => ?_⟩
  · have stopped : ¬(s.boot.started && !s.boot.halted) = true := by
      rcases off with notStarted | halted
      · simp [notStarted]
      · simp [halted]
    exact ⟨by rw [exec_thermalUpdateRuns, execThermalUpdateRuns, if_neg stopped], by rw [exec_trefTrack, execTrefTrack, if_neg stopped],
      by rw [exec_operatingTimeTick, execOperatingTimeTick, if_neg stopped]⟩
  · obtain ⟨t, next, updated⟩ := exec_thermalUpdateRuns_updates sound started runs rails few vin coils d
    refine ⟨t, next, updated.nodes, updated.time, updated.now, updated.updated, fun r _ x found => updated.rail r x found,
      updated.diodes, fun k => ?_, updated.reported, updated.top.1, updated.top.2, updated.cycleMax, updated.shut, updated.runs, updated.warns, updated.ends, updated.stays,
      updated.warm, updated.cool, updated.alarms, updated.frame⟩
    rw [updated.bad]
    exact mem_badReadings
  · obtain ⟨t, next, tracked⟩ := exec_trefTrack_tracks started runs
    exact ⟨t, next, tracked.tref, tracked.nodes, tracked.diodes, tracked.tmax, tracked.time, tracked.now, tracked.tracked, tracked.frame⟩
  · obtain ⟨t, next, cooled⟩ := exec_cooled_sets sound since
    exact ⟨t, next, cooled.flag, cooled.time, cooled.frame, cooled.fields⟩
  · rw [exec_cooled, execCooled, idle]
  · obtain ⟨t, next, stepped⟩ := exec_trimStep_steps sound rail planned
    exact ⟨t, next, stepped.raised, stepped.time, stepped.now, stepped.refused, stepped.others, stepped.frame⟩
  · obtain ⟨t, next, annealed, opTime, frame⟩ := exec_annealMeasurement_measures due l d
    exact ⟨t, next, annealed.hourly, annealed.corrLast, annealed.corrHour, annealed.bankCorr, annealed.diodes, annealed.sinceCal,
      fun k => annealed.bad.symm ▸ mem_badReadings, fun bad => annealed.reported (annealed.bad ▸ bad), annealed.health, annealed.alarms, opTime, frame⟩
  · obtain ⟨t, next, ticked, frame⟩ := exec_operatingTimeTick_acts started runs
    exact ⟨t, next, ticked.opTime, ticked.stored, ticked.queue, ticked.hour, ticked.within, ticked.second, ticked.tenth, ticked.time, ticked.tickAt, frame⟩

end Sys2Proof.Machine

/-! Lines, notches and the noise floor of the satellite receiver (R118, R119). -/
namespace Sys2Proof.Machine
set_option Elab.async false

section
variable {s t u : State} {n k c a b e r i h m : Nat} {f : Int}

/-- Steps that leave a state alone, for each number of a list. -/
theorem State.each_still {g : State → Nat → State} {l : List Nat} (still : ∀ k ∈ l, g s k = s) : s.each l g = s :=
  List.foldlRecOn (motive := fun u => u = s) l g rfl fun u hu k hk => by rw [hu, still k hk]

/-! The end of an average. -/

/-- What the end of an average of stream `k` leaves, `i` after the last. -/
structure AverageEnded (s t : State) (k i : Nat) : Prop where
  gns : t.gns = { s.gns with avgAt := aset s.gns.avgAt k t.tim.el }
  time : ∀ e, afind s.gns.avgAt k = some e → t.tim.el = Nat.max s.tim.el (e + i)
  regs : t.regs = s.regs
  alarms : t.alarms = s.alarms
  frame : Frame [.tim, .elapsed, .working, .gns] s t
  sound : s.Sound → t.Sound

theorem State.nextAverage_ends (s : State) (k : Nat) : AverageEnded s (s.nextAverage k) k (10 * ms) := by
  have shape : s.nextAverage k = { s.after (afind s.gns.avgAt k) (10 * ms) with gns := { (s.after (afind s.gns.avgAt k) (10 * ms)).gns with
    avgAt := aset (s.after (afind s.gns.avgAt k) (10 * ms)).gns.avgAt k (s.after (afind s.gns.avgAt k) (10 * ms)).tim.el } } := rfl
  have frame := s.after_frame (afind s.gns.avgAt k) (10 * ms)
  have sound (h : s.Sound) := State.after_sound h (afind s.gns.avgAt k) (10 * ms)
  have time (e : Nat) (known : afind s.gns.avgAt k = some e) : (s.after (afind s.gns.avgAt k) (10 * ms)).tim.el = Nat.max s.tim.el (e + 10 * ms) := by
    rw [known]
    exact s.after_some e _
  rw [shape]
  generalize s.after (afind s.gns.avgAt k) (10 * ms) = u at *
  have gns : u.gns = s.gns := frame .gns (by simp)
  refine ⟨?_, time, frame .regs (by simp), frame .alarms (by simp), (frame.mono (by simp)).trans ?_, fun h => (sound h).of_eq rfl rfl rfl rfl rfl rfl rfl rfl rfl rfl rfl rfl rfl rfl⟩
  · rw [gns]
  · intro p hp
    cases p <;> first | rfl | simp at hp

/-! The levels of a stream. -/

/-- The levels of stream `k`: its lines, the rise of its noise floor and its gain, and what the rise means. -/
def State.levelled (v : State) (k rise agc : Nat) (high : List (Int × Nat)) : State :=
  let w := { v with gns := { v.gns with lines := aset v.gns.lines k high } }
  let y := if w.par 0x060E ≤ rise then { w with gns := { w.gns with jamAt := w.tim.el } } else w
  let x := (y.setFld (F_GNS_STREAM_NOISE_RISE k) rise).setFld (F_GNS_STREAM_AGC_GAIN k) (Nat.min 255 agc)
  if x.par 0x060E < rise && !x.flag F_GNS_STATUS_JAM then ((x.setFlag F_GNS_STATUS_JAM true).event F_GNS_EVENT_JAM_EVT).raise 0x1104 else x

/-- What the levels leave. -/
structure Levelled (s t : State) (k rise agc : Nat) (high : List (Int × Nat)) : Prop where
  gns : t.gns = { s.gns with lines := aset s.gns.lines k high, jamAt := if s.par 0x060E ≤ rise then s.tim.el else s.gns.jamAt }
  noise : rise ≤ 255 → t.noiseRise k = rise
  gain : agc ≤ 255 → t.fld (F_GNS_STREAM_AGC_GAIN k) = agc
  jam : s.par 0x060E < rise → s.flag F_GNS_STATUS_JAM = false → t.flag F_GNS_STATUS_JAM = true ∧ t.flag F_GNS_EVENT_JAM_EVT = true ∧ t.Alarmed 0x1104
  quiet : rise ≤ s.par 0x060E → t.alarms = s.alarms ∧ FieldsBut [F_GNS_STREAM_NOISE_RISE k, F_GNS_STREAM_AGC_GAIN k] s t
  changes : Changes [.alarms, .rcd, .gns, .regs] ([F_GNS_STREAM_NOISE_RISE k, F_GNS_STREAM_AGC_GAIN k, F_GNS_STATUS_JAM, F_GNS_EVENT_JAM_EVT] ++ recFields) [0x1104] s t

/-- The two fields of the levels. -/
def State.levelsShown (y : State) (k rise agc : Nat) : State := (y.setFld (F_GNS_STREAM_NOISE_RISE k) rise).setFld (F_GNS_STREAM_AGC_GAIN k) (Nat.min 255 agc)

theorem State.levelsShown_changes (sound : s.Sound) (k rise agc : Nat) :
    Changes [.regs] [F_GNS_STREAM_NOISE_RISE k, F_GNS_STREAM_AGC_GAIN k] [] s (s.levelsShown k rise agc) :=
  ((Changes.refl sound).setFld _ _).setFld _ _

theorem stream_apart (stream : k < 8) : ∀ f ∈ [F_GNS_STATUS_JAM, F_GNS_EVENT_JAM_EVT, F_GNS_EVENT_NOTCH_ON] ++ recFields,
    f.apart (F_GNS_STREAM_NOISE_RISE k) ∧ f.apart (F_GNS_STREAM_AGC_GAIN k) ∧ (∀ g : Fld, g.addr = A_GNS_STREAM k → f.apart g) := by
  have away : ∀ f ∈ [F_GNS_STATUS_JAM, F_GNS_EVENT_JAM_EVT, F_GNS_EVENT_NOTCH_ON] ++ recFields, A_GNS_STREAM k ≠ f.addr := by interval_cases k <;> decide
  exact fun f hf => ⟨.inl (away f hf), .inl (away f hf), fun g own => .inl (own ▸ away f hf)⟩

theorem State.levelled_levels (sound : s.Sound) (stream : k < 8) (rise agc : Nat) (high : List (Int × Nat)) :
    Levelled s (s.levelled k rise agc high) k rise agc high := by
  unfold State.levelled
  extract_lets g w g' y x
  have soundW : w.Sound := sound.of_eq rfl rfl rfl rfl rfl rfl rfl rfl rfl rfl rfl rfl rfl rfl
  have gnsY : y.gns = { s.gns with lines := aset s.gns.lines k high, jamAt := if s.par 0x060E ≤ rise then s.tim.el else s.gns.jamAt } := by
    have par : w.par 0x060E = s.par 0x060E := rfl
    simp only [y, par]
    split <;> rfl
  have first : Changes [.gns] [] [] s y :=
    .ite (fun _ => (Changes.refl sound).upd _) fun _ => (Changes.refl sound).upd _
  have parY : y.par 0x060E = s.par 0x060E := by rw [State.par, State.par, State.parW_of_pat (first.frame .pat (by simp))]
  clear_value y
  have shown : Changes [.regs] [F_GNS_STREAM_NOISE_RISE k, F_GNS_STREAM_AGC_GAIN k] [] y x := State.levelsShown_changes first.sound k rise agc
  have gain : agc ≤ 255 → x.fld (F_GNS_STREAM_AGC_GAIN k) = agc := fun few =>
    (fld_setFld (first.sound.setFld _ _) (F_GNS_STREAM_AGC_GAIN k) _ rfl).trans (by
      show Nat.min 255 agc % 256 = agc
      rw [show Nat.min 255 agc = agc from Nat.min_eq_right few, Nat.mod_eq_of_lt (by omega)])
  have riseX : rise ≤ 255 → x.fld (F_GNS_STREAM_NOISE_RISE k) = rise := fun few =>
    (fld_setFld_other (first.sound.setFld _ _) _ _ _ rfl rfl (.inr (.inl (show 7 < 8 by omega)))).trans
      ((fld_setFld first.sound (F_GNS_STREAM_NOISE_RISE k) _ rfl).trans (Nat.mod_eq_of_lt (show rise < 256 by omega)))
  have parX : x.par 0x060E = s.par 0x060E := parY
  have gnsX : x.gns = y.gns := rfl
  have away : A_GNS_STATUS ≠ A_GNS_STREAM k := by
    show 0x210000 ≠ 0x210010 + 4 * k
    omega
  have jamX : x.flag F_GNS_STATUS_JAM = s.flag F_GNS_STATUS_JAM :=
    (shown.flag _ rfl fun g hg => by
      simp only [List.mem_cons, List.not_mem_nil, or_false] at hg
      rcases hg with rfl | rfl
      · exact .inl away
      · exact .inl away).trans (first.flag _)
  have quietX : Changes [.gns, .regs] [F_GNS_STREAM_NOISE_RISE k, F_GNS_STREAM_AGC_GAIN k] [] s x := (first.mono (by simp) (by simp)).trans (shown.mono (by simp))
  clear_value x
  rw [parX, jamX]
  split
  case isTrue jams =>
    obtain ⟨high', clear⟩ := Bool.and_eq_true_iff.mp jams
    replace high' : s.par 0x060E < rise := of_decide_eq_true high'
    have set := flag_setFlag quietX.sound F_GNS_STATUS_JAM true rfl
    have soundJ := quietX.sound.setFlag F_GNS_STATUS_JAM true
    have evt := flag_event soundJ F_GNS_EVENT_JAM_EVT rfl
    have raised := (Changes.refl (ps := [.alarms, .rcd, .regs]) (fs := recFields) (cs := [0x1104]) (soundJ.setFld F_GNS_EVENT_JAM_EVT 1)).raise 0x1104 []
    have marked := ((Changes.refl (ps := [.alarms, .rcd, .regs]) (fs := F_GNS_EVENT_JAM_EVT :: recFields) (cs := [0x1104]) soundJ).event F_GNS_EVENT_JAM_EVT).raise 0x1104 []
    have all := (((Changes.refl (ps := [.alarms, .rcd, .regs]) (fs := [F_GNS_STATUS_JAM, F_GNS_EVENT_JAM_EVT] ++ recFields) (cs := [0x1104]) quietX.sound).setFlag
      F_GNS_STATUS_JAM true).event F_GNS_EVENT_JAM_EVT).raise 0x1104 []
    have apart (g : Fld) (own : g.addr = A_GNS_STREAM k) : ∀ f ∈ [F_GNS_STATUS_JAM, F_GNS_EVENT_JAM_EVT] ++ recFields, f.apart g := fun f hf =>
      (stream_apart stream f (by simp only [List.mem_append, List.mem_cons] at hf ⊢; tauto)).2.2 g own
    refine ⟨(all.frame .gns (by simp)).trans (gnsX.trans gnsY), fun few => ?_, fun few => ?_, fun _ _ => ⟨(marked.flag _).trans set, (raised.flag _).trans evt, (alarm_raise ..).trans (if_pos rfl)⟩,
      fun low => absurd high' (Nat.not_lt.mpr low), ?_⟩
    · exact (all.fld _ rfl (apart _ rfl)).trans (riseX few)
    · exact (all.fld _ rfl (apart _ rfl)).trans (gain few)
    · exact (quietX.mono (by simp) (by simp) (by simp)).trans (all.mono (by simp) (fun f hf => by simp only [List.mem_append, List.mem_cons] at hf ⊢; tauto))
  case isFalse still =>
    refine ⟨gnsX.trans gnsY, riseX, gain, fun high' clear => absurd (by simp [high', clear]) still, fun _ => ⟨quietX.frame .alarms (by simp), quietX.fields⟩, quietX.mono (by simp) (by simp) (by simp)⟩

/-! Notches (R118). -/

/-- What a notch that takes a line leaves. -/
structure NotchEngaged (s t : State) (k n : Nat) (line : Int × Nat) : Prop where
  gns : t.gns = { s.gns with notches := aset s.gns.notches (4 * k + n) ⟨line.2, line.1, s.tim.el⟩ }
  mask : s.Sound → t.flag (bitAt (A_GNS_STREAM k) (16 + n)) = true
  event : s.Sound → t.flag F_GNS_EVENT_NOTCH_ON = true
  alarmed : t.Alarmed 0x1103
  acts : Acts (partMask [.alarms, .rcd, .gns, .regs]) s t

theorem State.showNotch_some {x : Notch} (known : s.notchOf k n = some x) (sound : s.Sound) (low : 16 + n < 32) :
    (s.showNotch k n).flag (bitAt (A_GNS_STREAM k) (16 + n)) = true := by
  unfold State.showNotch
  rw [known]
  exact flag_setFlag (((sound.setFld _ _).setFld _ _).setFlag _ _) _ true (bitAt_fits low)

theorem State.engageNotch_engages (s : State) (stream : k < 8) (notch : n < 4) (line : Int × Nat) : NotchEngaged s (s.engageNotch k n line) k n line := by
  have shape : s.engageNotch k n line = ((State.showNotch { s with gns := { s.gns with notches := aset s.gns.notches (4 * k + n) ⟨line.2, line.1, s.tim.el⟩ } } k n).event
    F_GNS_EVENT_NOTCH_ON).raise 0x1103 [toWord k, intWord line.1] := rfl
  have known : State.notchOf { s with gns := { s.gns with notches := aset s.gns.notches (4 * k + n) ⟨line.2, line.1, s.tim.el⟩ } } k n = some ⟨line.2, line.1, s.tim.el⟩ :=
    afind_aset_self
  have soundN (sound : s.Sound) : State.Sound { s with gns := { s.gns with notches := aset s.gns.notches (4 * k + n) ⟨line.2, line.1, s.tim.el⟩ } } :=
    sound.of_eq rfl rfl rfl rfl rfl rfl rfl rfl rfl rfl rfl rfl rfl rfl
  have acts₀ : Acts (partMask [.gns]) s { s with gns := { s.gns with notches := aset s.gns.notches (4 * k + n) ⟨line.2, line.1, s.tim.el⟩ } } :=
    Acts.upd_gns (.refl s) rfl rfl
  rw [shape]
  have gnsU : ({ s with gns := { s.gns with notches := aset s.gns.notches (4 * k + n) ⟨line.2, line.1, s.tim.el⟩ } } : State).gns =
    { s.gns with notches := aset s.gns.notches (4 * k + n) ⟨line.2, line.1, s.tim.el⟩ } := rfl
  generalize ({ s with gns := { s.gns with notches := aset s.gns.notches (4 * k + n) ⟨line.2, line.1, s.tim.el⟩ } } : State) = u at *
  have mask (sound : s.Sound) := State.showNotch_some known (soundN sound) (show 16 + n < 32 by omega)
  have soundV (sound : s.Sound) : (u.showNotch k n).Sound := (State.showNotch_acts u k n).sound (soundN sound)
  have acts : Acts (partMask [.alarms, .rcd, .gns, .regs]) s (((u.showNotch k n).event F_GNS_EVENT_NOTCH_ON).raise 0x1103 [toWord k, intWord line.1]) :=
    (((acts₀.mono rfl).step (State.showNotch_acts u k n) rfl).step (State.event_acts ..) rfl).step (State.raise_acts ..) rfl
  have gns : (((u.showNotch k n).event F_GNS_EVENT_NOTCH_ON).raise 0x1103 [toWord k, intWord line.1]).gns = u.gns :=
    ((State.raise_gns ..).trans ((State.event_acts ..).frame .gns rfl)).trans ((State.showNotch_acts u k n).frame .gns rfl)
  refine ⟨gns.trans gnsU, fun sound => ?_, fun sound => ?_, (alarm_raise ..).trans (if_pos rfl), acts⟩
  · have marked := ((Changes.refl (ps := [.alarms, .rcd, .regs]) (fs := F_GNS_EVENT_NOTCH_ON :: recFields) (cs := [0x1103]) (soundV sound)).event F_GNS_EVENT_NOTCH_ON).raise 0x1103
      [toWord k, intWord line.1]
    exact (marked.flag _ (bitAt_fits (by omega)) fun f hf => (stream_apart stream f (by simp only [List.mem_append, List.mem_cons] at hf ⊢; tauto)).2.2 _ rfl).trans (mask sound)
  · have raised := (Changes.refl (ps := [.alarms, .rcd, .regs]) (fs := recFields) (cs := [0x1103]) ((soundV sound).setFld F_GNS_EVENT_NOTCH_ON 1)).raise 0x1103
      [toWord k, intWord line.1]
    exact (raised.flag _).trans (flag_event (soundV sound) _ rfl)

theorem State.qualifyLine_free (free : ∀ i < 4, s.notchOf k i = none) (line : Int × Nat) : s.qualifyLine k line = s.engageNotch k 0 line := by
  unfold State.qualifyLine
  rw [if_neg (by
    simp only [List.any_eq_true, List.mem_range, not_exists, not_and]
    intro i low
    rw [free i low]
    simp)]
  have found : (List.range 4).find? (fun k' => (s.notchOf k k').isNone) = some 0 := by
    show (match (s.notchOf k 0).isNone with | true => some 0 | false => _) = _
    rw [free 0 (by omega)]
    rfl
  rw [found]

theorem State.followLine_none (free : s.notchOf k i = none) (lines : List (Int × Nat)) : s.followLine k lines i = s := by
  rw [State.followLine, free]

/-! SPECTRUM_AVERAGE. -/

/-- The lines of an average that stand for the second time qualify. -/
def State.linesTaken (s : State) (k : Nat) (lines : List (Int × Nat)) : State :=
  ((lines.filter (fun l => s.par 0x060D ≤ l.2)).filter (fun l => (aget [] s.gns.lines k).any (fun p => sameLine p.1 l.1))).foldl (fun u l => State.qualifyLine u k l)
    ((s.nextAverage k).each (List.range 4) (fun u i => u.followLine k lines i))

theorem exec_spectrumAverage_runs (runs : s.gnsRuns = true) (stream : k < 8) (lines : List (Int × Nat)) (r a : Nat) : exec (.spectrumAverage k lines r a) s =
    .next ((s.linesTaken k lines).levelled k (if (s.linesTaken k lines).gns.noiseRef.isEmpty then 0 else Nat.min 255 (r - nth (s.linesTaken k lines).gns.noiseRef k)) a
      (lines.filter (fun l => s.par 0x060D ≤ l.2))) := by
  rw [exec_spectrumAverage, execSpectrumAverage, if_neg (by simp [runs]; omega)]
  rfl

theorem State.linesTaken_free (free : ∀ i < 4, s.notchOf k i = none) (lines : List (Int × Nat)) : s.linesTaken k lines =
    ((lines.filter (fun l => s.par 0x060D ≤ l.2)).filter (fun l => (aget [] s.gns.lines k).any (fun p => sameLine p.1 l.1))).foldl (fun u l => State.qualifyLine u k l)
      (s.nextAverage k) := by
  have ended := s.nextAverage_ends k
  have still : ∀ i ∈ List.range 4, (s.nextAverage k).followLine k lines i = s.nextAverage k := fun i hi => State.followLine_none ?_ lines
  · rw [State.linesTaken, State.each_still still]
  rw [State.notchOf, ended.gns]
  exact free i (List.mem_range.mp hi)

theorem exec_spectrumAverage_empty (sound : s.Sound) (runs : s.gnsRuns = true) (stream : k < 8) (learned : s.gns.noiseRef.isEmpty = false)
    (range : r - nth s.gns.noiseRef k ≤ 255) (gain : a ≤ 255) (free : ∀ i < 4, s.notchOf k i = none) : ∃ t, exec (.spectrumAverage k [] r a) s = .next t ∧
    t.noiseRise k = r - nth s.gns.noiseRef k ∧
    t.fld (F_GNS_STREAM_AGC_GAIN k) = a ∧ afind t.gns.lines k = some [] ∧
    (∀ e, afind s.gns.avgAt k = some e → t.tim.el = Nat.max s.tim.el (e + 10 * ms)) ∧
    (s.par 0x060E < r - nth s.gns.noiseRef k → s.flag F_GNS_STATUS_JAM = false → t.flag F_GNS_STATUS_JAM = true ∧ t.flag F_GNS_EVENT_JAM_EVT = true ∧
      t.Alarmed 0x1104) ∧
    (r - nth s.gns.noiseRef k ≤ s.par 0x060E → t.alarms = s.alarms ∧ FieldsBut [F_GNS_STREAM_NOISE_RISE k, F_GNS_STREAM_AGC_GAIN k] s t) ∧
    (s.par 0x060E ≤ r - nth s.gns.noiseRef k → t.gns.jamAt = t.tim.el) ∧ Frame [.alarms, .rcd, .tim, .elapsed, .working, .gns, .regs] s t := by
  have ended := s.nextAverage_ends k
  have taken : s.linesTaken k [] = s.nextAverage k := State.linesTaken_free free []
  have next := exec_spectrumAverage_runs runs stream [] r a
  rw [taken, ended.gns, List.filter_nil] at next
  have rise : (if s.gns.noiseRef.isEmpty then 0 else Nat.min 255 (r - nth s.gns.noiseRef k)) = r - nth s.gns.noiseRef k := by
    rw [if_neg (by simp [learned])]
    exact Nat.min_eq_right range
  rw [rise] at next
  generalize s.nextAverage k = u at *
  have levels := State.levelled_levels (ended.sound sound) stream (r - nth s.gns.noiseRef k) a []
  generalize u.levelled k (r - nth s.gns.noiseRef k) a [] = t at *
  have par : u.par 0x060E = s.par 0x060E := by rw [State.par, State.par, State.parW_of_pat (ended.frame .pat (by simp))]
  have tim : t.tim = u.tim := levels.changes.frame .tim (by simp)
  refine ⟨t, next, levels.noise range, levels.gain gain, ?_, fun e known => ?_, fun high clear => ?_, fun low => ?_, fun high => ?_, ?_⟩
  · rw [levels.gns]
    exact afind_aset_self
  · rw [tim]
    exact ended.time e known
  · exact levels.jam (par ▸ high) ((State.flag_of_regs ended.regs _).trans clear)
  · obtain ⟨alarms, fields⟩ := levels.quiet (par ▸ low)
    exact ⟨alarms.trans ended.alarms, fun g fits apart => (fields g fits apart).trans (State.fld_of_regs ended.regs g)⟩
  · rw [levels.gns, par]
    show (if _ then _ else _) = _
    rw [if_pos high, tim]
  · exact (ended.frame.mono (by simp)).trans (levels.changes.frame.mono (by simp))

theorem exec_spectrumAverage_line {p : Int × Nat} (sound : s.Sound) (runs : s.gnsRuns = true) (stream : k < 8) (strong : s.par 0x060D ≤ h)
    (before : p ∈ aget [] s.gns.lines k) (same : sameLine p.1 f = true) (free : ∀ i < 4, s.notchOf k i = none) :
    ∃ t, exec (.spectrumAverage k [(f, h)] r a) s = .next t ∧ t.notchOf k 0 = some ⟨h, f, t.tim.el⟩ ∧
    t.flag (bitAt (A_GNS_STREAM k) 16) = true ∧ t.flag F_GNS_EVENT_NOTCH_ON = true ∧ t.Alarmed 0x1103 ∧
    Frame [.alarms, .rcd, .tim, .elapsed, .working, .gns, .regs] s t := by
  have ended := s.nextAverage_ends k
  have high : [(f, h)].filter (fun l => decide (s.par 0x060D ≤ l.2)) = [(f, h)] := by simp [strong]
  have twice : [(f, h)].filter (fun l => (aget [] s.gns.lines k).any (fun p => sameLine p.1 l.1)) = [(f, h)] := by
    simp only [List.filter_cons, List.filter_nil]
    rw [if_pos (List.any_eq_true.mpr ⟨p, before, same⟩)]
  have taken : s.linesTaken k [(f, h)] = (s.nextAverage k).engageNotch k 0 (f, h) := by
    rw [State.linesTaken_free free, high, twice]
    refine State.qualifyLine_free (fun i low => ?_) (f, h)
    rw [State.notchOf, ended.gns]
    exact free i low
  have next := exec_spectrumAverage_runs runs stream [(f, h)] r a
  rw [taken] at next
  generalize s.nextAverage k = u at *
  have engaged := u.engageNotch_engages stream (show 0 < 4 by decide) (f, h)
  generalize u.engageNotch k 0 (f, h) = v at *
  generalize (if v.gns.noiseRef.isEmpty then 0 else Nat.min 255 (r - nth v.gns.noiseRef k)) = rise at next
  have levels := State.levelled_levels (engaged.acts.sound (ended.sound sound)) stream rise a ([(f, h)].filter (fun l => decide (s.par 0x060D ≤ l.2)))
  generalize v.levelled k rise a ([(f, h)].filter (fun l => decide (s.par 0x060D ≤ l.2))) = t at *
  have tim : t.tim = u.tim := (levels.changes.frame .tim (by simp)).trans (engaged.acts.frame .tim rfl)
  have bit : ∀ g ∈ [F_GNS_STREAM_NOISE_RISE k, F_GNS_STREAM_AGC_GAIN k, F_GNS_STATUS_JAM, F_GNS_EVENT_JAM_EVT] ++ recFields, g.apart (bitAt (A_GNS_STREAM k) 16) := by
    intro g hg
    rw [List.mem_append, List.mem_cons, List.mem_cons] at hg
    rcases hg with (rfl | rfl | later) | later
    · exact .inr (.inl (show 15 < 16 by omega))
    · exact .inr (.inl (show 7 < 16 by omega))
    · exact (stream_apart stream g (by simp only [List.mem_append, List.mem_cons] at later ⊢; tauto)).2.2 _ rfl
    · exact (stream_apart stream g (List.mem_append_right _ later)).2.2 _ rfl
  have notch : ∀ g ∈ [F_GNS_STREAM_NOISE_RISE k, F_GNS_STREAM_AGC_GAIN k, F_GNS_STATUS_JAM, F_GNS_EVENT_JAM_EVT] ++ recFields, g.apart F_GNS_EVENT_NOTCH_ON := by
    unfold Fld.apart
    interval_cases k <;> decide
  refine ⟨t, next, ?_, (levels.changes.flag _ rfl bit).trans (engaged.mask (ended.sound sound)), (levels.changes.flag _ rfl notch).trans (engaged.event (ended.sound sound)),
    (levels.changes.alarms _ (by decide)).trans engaged.alarmed, (ended.frame.mono (by simp)).trans ((engaged.acts.framed.mono (by simp)).trans (levels.changes.frame.mono (by simp)))⟩
  rw [State.notchOf, levels.gns, engaged.gns, tim]
  exact afind_aset_self

theorem exec_spectrumAverage_idle (idle : s.gnsRuns = false ∨ 8 ≤ k) (l : List (Int × Nat)) : exec (.spectrumAverage k l r a) s = .next s := by
  rw [exec_spectrumAverage, execSpectrumAverage, if_pos (by simpa using idle)]

/-! NOTCH_RELEASE, NOISE_FLOOR_LEARNED and JAM_CLEAR. -/

/-- Notch `n` of stream `k` is free. -/
def State.notchFreed (s : State) (k n e : Nat) : State :=
  State.showNotch { s.reachEl e with gns := { (s.reachEl e).gns with notches := adel (s.reachEl e).gns.notches (4 * k + n) } } k n

theorem State.showNotch_none (free : s.notchOf k n = none) : s.showNotch k n = (s.setReg (A_GNS_NOTCH k n) 0#32).setFlag (bitAt (A_GNS_STREAM k) (16 + n)) false := by
  rw [State.showNotch, free]

/-- What the release of notch `n` of stream `k` leaves. -/
structure NotchFreed (s t : State) (k n e : Nat) : Prop where
  free : t.notchOf k n = none
  reg : t.reg (A_GNS_NOTCH k n) = 0#32
  mask : t.flag (bitAt (A_GNS_STREAM k) (16 + n)) = false
  time : t.tim.el = Nat.max s.tim.el e
  frame : Frame [.tim, .elapsed, .working, .gns, .regs] s t
  fields : FieldsBut [word32 (A_GNS_NOTCH k n), bitAt (A_GNS_STREAM k) (16 + n)] s t

theorem State.notchFreed_frees (sound : s.Sound) (stream : k < 8) (notch : n < 4) (e : Nat) : NotchFreed s (s.notchFreed k n e) k n e := by
  have gone : State.notchOf { s.reachEl e with gns := { (s.reachEl e).gns with notches := adel (s.reachEl e).gns.notches (4 * k + n) } } k n = none := afind_adel_self
  have time : ({ s.reachEl e with gns := { (s.reachEl e).gns with notches := adel (s.reachEl e).gns.notches (4 * k + n) } } : State).tim.el = Nat.max s.tim.el e := s.reachEl_max e
  have moved : Changes [.tim, .elapsed, .working, .gns] [] [] s { s.reachEl e with gns := { (s.reachEl e).gns with notches := adel (s.reachEl e).gns.notches (4 * k + n) } } :=
    ((Changes.refl sound).acts (s.reachEl_acts e)).upd _
  rw [State.notchFreed, State.showNotch_none gone]
  generalize ({ s.reachEl e with gns := { (s.reachEl e).gns with notches := adel (s.reachEl e).gns.notches (4 * k + n) } } : State) = u at *
  have set := moved.sound.setReg (A_GNS_NOTCH k n) 0#32
  have fits := bitAt_fits (a := A_GNS_STREAM k) (i := 16 + n) (by omega)
  have away : A_GNS_NOTCH k n ≠ (bitAt (A_GNS_STREAM k) (16 + n)).addr := by
    show 0x210040 + 16 * k + 4 * n ≠ 0x210010 + 4 * k
    omega
  have all : Changes [.tim, .elapsed, .working, .gns, .regs] [word32 (A_GNS_NOTCH k n), bitAt (A_GNS_STREAM k) (16 + n)] [] s _ :=
    ((moved.mono (by simp) (by simp)).setReg (A_GNS_NOTCH k n) 0#32).setFlag (bitAt (A_GNS_STREAM k) (16 + n)) false fits
  refine ⟨gone, (reg_setFld set _ _ _ away).trans ?_, flag_setFlag set _ false fits, time, all.frame, all.fields⟩
  rw [reg_setReg moved.sound, if_pos rfl]

theorem exec_notchRelease_frees {x : Notch} (notch : n < 4) (known : s.notchOf k n = some x) : exec (.notchRelease k n) s = .next (s.notchFreed k n (x.seenAt + sec)) := by
  rw [exec_notchRelease, execNotchRelease, known]
  refine congrArg Host.Outcome.next ?_
  exact if_pos notch

/-- The noise floors learned at an instant. -/
def State.noiseLearned (s : State) (l : List Nat) (e : Nat) : State := { s.reachEl e with gns := { (s.reachEl e).gns with noiseRef := l } }

theorem exec_noiseFloorLearned_first (runs : s.gnsRuns = true) (unknown : s.gns.noiseRef = []) (l : List Nat) :
    exec (.noiseFloorLearned l) s = .next (s.noiseLearned l (s.gns.runAt + 60 * sec)) := by
  have first : (s.gnsRuns && s.gns.noiseRef.isEmpty) = true := by rw [runs, unknown]; rfl
  rw [exec_noiseFloorLearned, execNoiseFloorLearned, if_pos first, State.noiseLearned]

theorem State.noiseLearned_learns (s : State) (l : List Nat) (e : Nat) : (s.noiseLearned l e).gns = { s.gns with noiseRef := l } ∧
    (s.noiseLearned l e).tim.el = Nat.max s.tim.el e ∧ Frame [.tim, .elapsed, .working, .gns] s (s.noiseLearned l e) := by
  refine ⟨rfl, s.reachEl_max e, ?_⟩
  intro p hp
  cases p <;> first | rfl | simp at hp

theorem exec_noiseFloorLearned_learns (runs : s.gnsRuns = true) (unknown : s.gns.noiseRef = []) (l : List Nat) : ∃ t, exec (.noiseFloorLearned l) s = .next t ∧
    t.gns = { s.gns with noiseRef := l } ∧ t.tim.el = Nat.max s.tim.el (s.gns.runAt + 60 * sec) ∧ Frame [.tim, .elapsed, .working, .gns] s t :=
  ⟨_, exec_noiseFloorLearned_first runs unknown l, s.noiseLearned_learns l _⟩

theorem exec_noiseFloorLearned_known (known : s.gns.noiseRef ≠ []) (l : List Nat) : exec (.noiseFloorLearned l) s = .next s := by
  rw [exec_noiseFloorLearned, execNoiseFloorLearned, if_neg (by simp [known])]

/-- What the end of jamming leaves. -/
structure JamCleared (s t : State) (e : Nat) : Prop where
  flag : t.flag F_GNS_STATUS_JAM = false
  gone : t.CauseGone 0x1104
  alarms : AlarmsBut [0x1104] s t
  time : t.tim.el = Nat.max s.tim.el e
  frame : Frame [.alarms, .rcd, .tim, .elapsed, .working, .regs] s t
  fields : FieldsBut (F_GNS_STATUS_JAM :: recFields) s t

theorem State.jamCleared (sound : s.Sound) (e : Nat) : JamCleared s (((s.reachEl e).setFlag F_GNS_STATUS_JAM false).causeGone 0x1104) e := by
  have reached := (s.reachEl_acts e).sound sound
  have all : Changes [.alarms, .rcd, .tim, .elapsed, .working, .regs] (F_GNS_STATUS_JAM :: recFields) [0x1104] s _ :=
    (((Changes.refl sound).acts (s.reachEl_acts e)).setFlag F_GNS_STATUS_JAM false).causeGone 0x1104
  have gone := (Changes.refl (ps := [.alarms, .rcd, .regs]) (fs := recFields) (cs := [0x1104]) (reached.setFlag F_GNS_STATUS_JAM false)).causeGone 0x1104
  have tim : (((s.reachEl e).setFlag F_GNS_STATUS_JAM false).causeGone 0x1104).tim = (s.reachEl e).tim := gone.frame .tim (by simp)
  exact ⟨(gone.flag _).trans (flag_setFlag reached _ false rfl), State.causeGone_causeGone _ _, all.alarms, (congrArg Tim.el tim).trans (s.reachEl_max e), all.frame, all.fields⟩

theorem exec_jamClear_clears (jammed : s.flag F_GNS_STATUS_JAM = true) (low : ∀ n < 8, s.noiseRise n < s.par 0x060E) :
    exec .jamClear s = .next (((s.reachEl (s.gns.jamAt + 10 * sec)).setFlag F_GNS_STATUS_JAM false).causeGone 0x1104) := by
  rw [exec_jamClear, execJamClear, if_pos]
  rw [jammed, Bool.true_and, List.all_eq_true]
  exact fun n hn => decide_eq_true (low n (List.mem_range.mp hn))

theorem exec_jamClear_high (stream : n < 8) (high : s.par 0x060E ≤ s.noiseRise n) : exec .jamClear s = .next s := by
  rw [exec_jamClear, execJamClear, if_neg]
  rw [Bool.and_eq_true, List.all_eq_true]
  rintro ⟨_, low⟩
  have := of_decide_eq_true (low n (List.mem_range.mpr stream))
  omega

end

end Sys2Proof.Machine

/-! Suspicion and snapshots of the satellite receiver (R121, R122, R124, R125). -/
namespace Sys2Proof.Machine
set_option Elab.async false

section
variable {s t u : State} {n k c a b e m : Nat} {d : Side}

theorem State.reach_acts' (s : State) (e : Nat) : Acts (partMask [.tim, .elapsed, .working]) s (s.reach e) := (s.reach_acts e).mono rfl

/-! Marks of channels and of a side (R121, R122). -/

/-- What clears the mark of channel `n` at `e`. -/
structure SuspectCleared (s t : State) (n e : Nat) : Prop where
  chan : t.gchan n = { s.gchan n with suspect := false }
  time : t.tim.wt = Nat.max s.tim.wt e
  others : ∀ m, m ≠ n → t.gchan m = s.gchan m
  frame : Frame [.tim, .elapsed, .working, .gns, .regs] s t
  fields : s.Sound → FieldsBut [F_GNS_STATUS_NTRACK, F_GNS_CHECK_NSUSPECT] s t

theorem State.clearSuspect_clears (s : State) (n e : Nat) : SuspectCleared s ((s.reach e).clearSuspect n) n e := by
  have time := s.reach_max e
  have acts := s.reach_acts' e
  have same (m : Nat) : (s.reach e).gchan m = s.gchan m := by rw [State.gchan, State.gchan, acts.frame .gns rfl]
  have started (sound : s.Sound) := (Changes.refl (ps := [.tim, .elapsed, .working, .gns, .regs]) (fs := [F_GNS_STATUS_NTRACK, F_GNS_CHECK_NSUSPECT]) (cs := []) sound).acts acts
  generalize s.reach e = u at *
  have set := u.setGchan_set n { u.gchan n with suspect := false }
  have counted : Acts (partMask [.regs]) (u.setGchan n { u.gchan n with suspect := false }) (u.clearSuspect n) := (State.countSuspects_acts _).mono rfl
  have chans (m : Nat) : (u.clearSuspect n).gchan m = (u.setGchan n { u.gchan n with suspect := false }).gchan m := by
    rw [State.gchan, State.gchan, counted.frame .gns rfl]
  refine ⟨?_, ?_, fun m other => (chans m).trans ((set.others m other).trans (same m)), ?_, fun sound => ?_⟩
  · rw [chans, set.chan, same]
  · rw [counted.frame .tim rfl, set.frame .tim (by simp), time]
  · exact (acts.framed.mono (by simp)).trans ((set.frame.mono (by simp)).trans (counted.framed.mono (by simp)))
  · have changed := (started sound).trans ((u.setGchan_changes (started sound).sound n { u.gchan n with suspect := false }).mono (by simp))
    exact (changed.setFld F_GNS_CHECK_NSUSPECT _).fields

theorem exec_suspectClear_now (marked : (s.gchan n).suspect = true) (due : (s.gchan n).failedAt + 10 * sec = e) (now : (s.reach e).judgedLater e = false) :
    exec (.suspectClear n) s = .next ((s.reach e).clearSuspect n) := by
  rw [exec_suspectClear, execSuspectClear]
  simp only [marked, if_true, due, now]
  rfl

theorem exec_suspectClear_later (due : (s.gchan n).failedAt + 10 * sec = e) (later : (s.reach e).judgedLater e = true) :
    ∃ t, exec (.suspectClear n) s = .next t ∧ t.gns = s.gns ∧ Frame [.tim, .elapsed, .working] s t := by
  rw [exec_suspectClear, execSuspectClear]
  simp only [due, later, if_true]
  split
  · exact ⟨_, rfl, (s.reach_acts' e).frame .gns rfl, (s.reach_acts' e).framed⟩
  · exact ⟨_, rfl, rfl, Frame.refl _ s⟩

theorem exec_suspicionClear_now (marked : s.suspected d = true) (due : s.suspicionEnd d = e) (now : (s.reach e).judgedLater e = false) :
    exec (.suspicionClear d) s = .next ((s.reach e).clearSuspicion d) := by
  rw [exec_suspicionClear, execSuspicionClear, if_pos marked]
  simp only [due, now]
  rfl

theorem exec_suspicionClear_later (due : s.suspicionEnd d = e) (later : (s.reach e).judgedLater e = true) :
    ∃ t, exec (.suspicionClear d) s = .next t ∧ t.gns = s.gns ∧ Frame [.tim, .elapsed, .working] s t := by
  rw [exec_suspicionClear, execSuspicionClear]
  simp only [due, later, if_true]
  split
  · exact ⟨_, rfl, (s.reach_acts' e).frame .gns rfl, (s.reach_acts' e).framed⟩
  · exact ⟨_, rfl, rfl, Frame.refl _ s⟩

/-- What clears the suspicion of the one side that is under it, at `e`. -/
structure SuspicionCleared (s t : State) (e : Nat) : Prop where
  none : t.gns.chk.suspicion = []
  flag : t.flag F_GNS_STATUS_SPOOF = false
  gone : t.CauseGone 0x1109
  time : t.tim.wt = Nat.max s.tim.wt e
  alarms : AlarmsBut [0x1109] s t
  frame : Frame [.alarms, .rcd, .tim, .elapsed, .working, .gns, .regs] s t

theorem State.clearSuspicion_clears (sound : s.Sound) (only : s.gns.chk.suspicion = [sideCode d]) (e : Nat) : SuspicionCleared s ((s.reach e).clearSuspicion d) e := by
  have time := s.reach_max e
  have started := (Changes.refl (ps := [.alarms, .rcd, .tim, .elapsed, .working, .gns, .regs]) (fs := F_GNS_STATUS_SPOOF :: recFields) (cs := [0x1109]) sound).acts (s.reach_acts' e)
  have only' : (s.reach e).gns.chk.suspicion = [sideCode d] := by rw [(s.reach_acts' e).frame .gns rfl, only]
  generalize s.reach e = u at *
  have emptied : remove u.gns.chk.suspicion (sideCode d) = [] := by rw [only']; simp [remove]
  unfold State.clearSuspicion
  extract_lets g chk t v w
  have suspicion : t.gns.chk.suspicion = [] := emptied
  have changesT : Changes [.alarms, .rcd, .tim, .elapsed, .working, .gns, .regs] (F_GNS_STATUS_SPOOF :: recFields) [0x1109] s t := started.upd _
  have timT : t.tim = u.tim := rfl
  clear_value t
  have clear : t.suspected t.pins.side = false := by rw [State.suspected, suspicion]; rfl
  have flagV : v.flag F_GNS_STATUS_SPOOF = false := (flag_setFlag changesT.sound _ _ rfl).trans clear
  have changesV : Changes [.alarms, .rcd, .tim, .elapsed, .working, .gns, .regs] (F_GNS_STATUS_SPOOF :: recFields) [0x1109] s v := changesT.setFlag _ _
  have kept : v.gns = t.gns ∧ v.tim = t.tim := ⟨rfl, rfl⟩
  clear_value v
  have recorded : Changes [.rcd, .regs] recFields [] v w := (Changes.refl changesV.sound).record _ _ _
  have changesW := changesV.record 0x1109 1 (pay [sideCode d])
  have gnsW : w.gns = t.gns := (State.record_gns ..).trans kept.1
  have timW : w.tim = u.tim := (State.record_tim ..).trans (kept.2.trans timT)
  replace changesW : Changes [.alarms, .rcd, .tim, .elapsed, .working, .gns, .regs] (F_GNS_STATUS_SPOOF :: recFields) [0x1109] s w := changesW
  clear_value w
  rw [if_pos (by rw [gnsW, suspicion]; rfl)]
  have ended := State.causeGone_acts w 0x1109
  have last : Changes [.alarms, .rcd, .regs] recFields [0x1109] w (w.causeGone 0x1109) := (Changes.refl changesW.sound).causeGone _
  refine ⟨?_, (last.flag _).trans ((recorded.flag _).trans flagV), State.causeGone_causeGone _ _, ?_, (changesW.causeGone 0x1109).alarms, (changesW.causeGone 0x1109).frame⟩
  · rw [ended.frame .gns rfl, gnsW, suspicion]
  · rw [ended.frame .tim rfl, timW, time]

/-! Snapshots (R124, R125). -/

theorem State.Sound.withGns (sound : s.Sound) {g : Gns} (canonical : memWf zeroCell g.samples = true) : State.Sound { s with gns := g } := by
  obtain ⟨regs, appm, flash, xchg, area, bufA, bufB, _, capture⟩ := sound.canonical
  exact sound.of_canonical ⟨regs, appm, flash, xchg, area, bufA, bufB, canonical, capture⟩ rfl rfl rfl rfl rfl

theorem memWf_packed (n : Nat) (l : List IqSample) : memWf zeroCell (l.foldl (packSample n) []) = true :=
  List.foldlRecOn (motive := fun m : Sparse 32 => memWf zeroCell m = true) l (packSample n) rfl fun m wf x _ => by
    unfold packSample
    split
    · exact memWf_memSet _ _ _ _ wf
    · exact wf

theorem exec_snapshotTrigger_may (may : s.MayAccess m A_GNS_SNAP_CTRL true) : exec (.snapshotTrigger m) s =
    .next ((s.snapTrigger 2 s.tim.wt).complete m true A_GNS_SNAP_CTRL accOk 1#32) := by
  rw [exec_snapshotTrigger, execSnapshotTrigger, State.commandWrite_of_mayAccess may]
  rfl

theorem exec_snapshotRelease_may (may : s.MayAccess m A_GNS_SNAP_CTRL true) (held : s.gns.held.isSome = true) : exec (.snapshotRelease m) s =
    .next (s.snapRelease.complete m true A_GNS_SNAP_CTRL accOk 2#32) := by
  rw [exec_snapshotRelease, execSnapshotRelease, State.commandWrite_of_mayAccess may]
  have shape : s.snapWrite 2#32 = if s.gns.held.isSome then s.snapRelease else s := rfl
  rw [shape, if_pos held]

theorem State.snapTrigger_starts (runs : s.ringRuns = true) (free : s.gns.held = none) (idle : s.gns.capture = none) (c w : Nat) :
    s.snapTrigger c w = s.startCapture c w := by
  rw [State.snapTrigger, if_neg (by simp [free]), if_neg (by simp [runs, idle])]

theorem State.snapTrigger_missed (held : s.gns.held.isSome = true) (c w : Nat) : s.snapTrigger c w = s.snapMissed := if_pos held

theorem State.complete_frame (s : State) (m : Nat) (w : Bool) (a status : Nat) (v : Word) : Frame [.out] s (s.complete m w a status v) :=
  ((State.complete_acts s m w a status v).mono (m := partMask [.out]) rfl).framed

theorem snapshot_triggers (sound : s.Sound) (may : s.MayAccess m A_GNS_SNAP_CTRL true) (runs : s.ringRuns = true) (free : s.gns.held = none) (idle : s.gns.capture = none) :
    ∃ t, exec (.snapshotTrigger m) s = .next t ∧ (∃ c, t.gns.capture = some c ∧ c.cause = 2 ∧ c.trigT = s.tim.wt ∧ c.epoch = s.dev.stateEp ∧
      c.nsamp = 120000 * s.par 0x0618) ∧ t.flag F_GNS_SNAP_CTRL_CAPTURING = true ∧ s.Sends t [⟨.access m, .write, [A_GNS_SNAP_CTRL, 0, 1]⟩] ∧
    Frame [.gns, .regs, .out] s t ∧ FieldsBut [F_GNS_SNAP_CTRL_CAPTURING] s t := by
  have next := exec_snapshotTrigger_may may
  rw [State.snapTrigger_starts runs free idle] at next
  have shape : ∃ x : Snapshot, s.startCapture 2 s.tim.wt = State.setFlag { s with gns := { s.gns with capture := some x } } F_GNS_SNAP_CTRL_CAPTURING true ∧
      x.cause = 2 ∧ x.trigT = s.tim.wt ∧ x.epoch = s.dev.stateEp ∧ x.nsamp = 120000 * s.par 0x0618 := ⟨_, rfl, rfl, rfl, rfl, rfl⟩
  obtain ⟨x, started, cause, trigT, epoch, nsamp⟩ := shape
  rw [started] at next
  have changed : Changes [.gns, .regs] [F_GNS_SNAP_CTRL_CAPTURING] [] s (State.setFlag { s with gns := { s.gns with capture := some x } } F_GNS_SNAP_CTRL_CAPTURING true) :=
    ((Changes.refl sound).upd { s with gns := { s.gns with capture := some x } }).setFlag _ _
  have set : State.Sound { s with gns := { s.gns with capture := some x } } := sound.of_eq rfl rfl rfl rfl rfl rfl rfl rfl rfl rfl rfl rfl rfl rfl
  exact ⟨_, next, ⟨x, rfl, cause, trigT, epoch, nsamp⟩, flag_setFlag set F_GNS_SNAP_CTRL_CAPTURING true rfl, rfl,
    (changed.frame.mono (by simp)).trans ((State.complete_frame _ _ _ _ _ _).mono (by simp)), changed.fields⟩

theorem snapshot_missed (sound : s.Sound) (may : s.MayAccess m A_GNS_SNAP_CTRL true) (held : s.gns.held.isSome = true) :
    ∃ t, exec (.snapshotTrigger m) s = .next t ∧ t.gns = s.gns ∧ t.flag F_GNS_EVENT_SNAP_MISSED = true ∧ t.Alarmed 0x110B ∧
    t.fld F_GNS_SNAP_MISS_MISSED = Nat.min 65535 (s.fld F_GNS_SNAP_MISS_MISSED + 1) ∧ Frame [.alarms, .rcd, .regs, .out] s t := by
  have next := exec_snapshotTrigger_may may
  rw [State.snapTrigger_missed held] at next
  have counted : (s.bump F_GNS_SNAP_MISS_MISSED).fld F_GNS_SNAP_MISS_MISSED = Nat.min 65535 (s.fld F_GNS_SNAP_MISS_MISSED + 1) := by
    have top : fieldMax F_GNS_SNAP_MISS_MISSED = 65535 := rfl
    rw [State.fld_bump sound F_GNS_SNAP_MISS_MISSED 1 rfl, top]
  have soundB : (s.bump F_GNS_SNAP_MISS_MISSED).Sound := (State.bump_acts ..).sound sound
  have marked := ((Changes.refl (ps := [.alarms, .rcd, .regs]) (fs := F_GNS_EVENT_SNAP_MISSED :: recFields) (cs := [0x110B]) soundB).event F_GNS_EVENT_SNAP_MISSED).raise 0x110B []
  have raised := (Changes.refl (ps := [.alarms, .rcd, .regs]) (fs := recFields) (cs := [0x110B]) (soundB.setFld F_GNS_EVENT_SNAP_MISSED 1)).raise 0x110B []
  have acts : Acts (partMask [.alarms, .rcd, .regs]) s s.snapMissed :=
    (((Acts.refl s).step (State.bump_acts ..) rfl).step (State.event_acts ..) rfl).step (State.raise_acts ..) rfl
  exact ⟨_, next, acts.frame .gns rfl, (raised.flag _).trans (flag_event soundB _ rfl), (alarm_raise ..).trans (if_pos rfl), (marked.fld _).trans counted,
    (acts.framed.mono (by simp)).trans ((State.complete_frame _ _ _ _ _ _).mono (by simp))⟩

theorem snapshot_released (sound : s.Sound) (may : s.MayAccess m A_GNS_SNAP_CTRL true) (held : s.gns.held.isSome = true) : ∃ t, exec (.snapshotRelease m) s = .next t ∧
    t.gns = { s.gns with held := none, samples := [] } ∧ t.flag F_GNS_SNAP_CTRL_HELD = false ∧ s.Sends t [⟨.access m, .write, [A_GNS_SNAP_CTRL, 0, 2]⟩] ∧
    Frame [.gns, .regs, .out] s t ∧ FieldsBut [F_GNS_SNAP_CTRL_HELD] s t := by
  have set : State.Sound { s with gns := { s.gns with held := none, samples := [] } } := sound.withGns rfl
  have shown : Changes [.regs] [F_GNS_SNAP_CTRL_HELD] [] { s with gns := { s.gns with held := none, samples := [] } } s.snapRelease :=
    (Changes.refl set).setFlag F_GNS_SNAP_CTRL_HELD false
  have freed : Frame [.gns] s { s with gns := { s.gns with held := none, samples := [] } } := by
    intro p hp
    cases p <;> first | rfl | simp at hp
  exact ⟨_, exec_snapshotRelease_may may held, shown.frame .gns (by simp), flag_setFlag set F_GNS_SNAP_CTRL_HELD false rfl, rfl,
    (freed.mono (by simp)).trans ((shown.frame.mono (by simp)).trans ((State.complete_frame _ _ _ _ _ _).mono (by simp))), shown.fields⟩

/-- What a capture that completes at `e` leaves. -/
structure SnapHeld (s t : State) (l : List IqSample) (c : Snapshot) (e : Nat) : Prop where
  held : t.gns.held = some c
  capture : t.gns.capture = none
  time : e ≤ t.tim.wt
  samples : t.gns.samples = l.foldl (packSample c.nsamp) []
  number : t.fld F_GNS_SNAP_CTRL_SNAP_ID = (s.fld F_GNS_SNAP_CTRL_SNAP_ID + 1) % 65536
  holds : t.flag F_GNS_SNAP_CTRL_HELD = true
  idle : t.flag F_GNS_SNAP_CTRL_CAPTURING = false
  event : t.flag F_GNS_EVENT_SNAP_DONE = true
  alarmed : t.Alarmed 0x110A
  frame : Frame [.alarms, .rcd, .tim, .elapsed, .working, .gns, .regs] s t

/-- The snapshot in the ring at `e`. -/
def State.snapTaken (s : State) (l : List IqSample) (c : Snapshot) (e : Nat) : State :=
  { s.reach e with gns := { (s.reach e).gns with capture := none, held := some c, countedTwice := false, samples := l.foldl (packSample c.nsamp) [] } }

/-- The snapshot counted, shown and reported. -/
def State.snapShown (u : State) (c : Snapshot) : State :=
  ((((u.setFld F_GNS_SNAP_CTRL_SNAP_ID (u.fld F_GNS_SNAP_CTRL_SNAP_ID + 1)).setFlag F_GNS_SNAP_CTRL_CAPTURING false).setFlag F_GNS_SNAP_CTRL_HELD true).event
    F_GNS_EVENT_SNAP_DONE).raise 0x110A (pay [c.cause])

theorem exec_snapshotHeld_once {l : List IqSample} {c : Snapshot} (running : s.gns.capture = some c) (once : s.gns.countedTwice = false) :
    exec (.snapshotHeld l) s = .next ((s.snapTaken l c (c.firstT + c.nsamp / 120000 * ms)).snapShown c) := by
  have kept (e : Nat) : (s.reach e).gns.countedTwice = false := by rw [(s.reach_acts' e).frame .gns rfl, once]
  rw [exec_snapshotHeld, execSnapshotHeld, running]
  simp only [kept]
  rfl

theorem State.snapTaken_holds (sound : s.Sound) (l : List IqSample) (c : Snapshot) (e : Nat) : SnapHeld s ((s.snapTaken l c e).snapShown c) l c e := by
  have acts := s.reach_acts' e
  have time : e ≤ (s.snapTaken l c e).tim.wt := by
    show e ≤ (s.reach e).tim.wt
    rw [s.reach_max e]
    exact Nat.le_max_right ..
  have frame : Frame [.tim, .elapsed, .working, .gns] s (s.snapTaken l c e) := by
    refine (acts.framed.mono (by simp)).trans ?_
    intro p hp
    cases p <;> first | rfl | simp at hp
  have soundU : (s.snapTaken l c e).Sound := (acts.sound sound).withGns (memWf_packed c.nsamp l)
  have number : (s.snapTaken l c e).fld F_GNS_SNAP_CTRL_SNAP_ID = s.fld F_GNS_SNAP_CTRL_SNAP_ID := State.fld_of_regs (frame .regs (by simp)) _
  have taken : (s.snapTaken l c e).gns.held = some c ∧ (s.snapTaken l c e).gns.capture = none ∧ (s.snapTaken l c e).gns.samples = l.foldl (packSample c.nsamp) [] := ⟨rfl, rfl, rfl⟩
  generalize s.snapTaken l c e = u at *
  obtain ⟨held, capture, samples⟩ := taken
  have sound1 := soundU.setFld F_GNS_SNAP_CTRL_SNAP_ID (u.fld F_GNS_SNAP_CTRL_SNAP_ID + 1)
  have id1 := fld_setFld soundU F_GNS_SNAP_CTRL_SNAP_ID (u.fld F_GNS_SNAP_CTRL_SNAP_ID + 1) rfl
  have idle2 := flag_setFlag sound1 F_GNS_SNAP_CTRL_CAPTURING false rfl
  have sound2 := sound1.setFlag F_GNS_SNAP_CTRL_CAPTURING false
  have held3 := flag_setFlag sound2 F_GNS_SNAP_CTRL_HELD true rfl
  have sound3 := sound2.setFlag F_GNS_SNAP_CTRL_HELD true
  have done4 := flag_event sound3 F_GNS_EVENT_SNAP_DONE rfl
  have from4 := (Changes.refl (ps := [.alarms, .rcd, .regs]) (fs := recFields) (cs := [0x110A]) (sound3.setFld F_GNS_EVENT_SNAP_DONE 1)).raise 0x110A (pay [c.cause])
  have from3 := ((Changes.refl (ps := [.alarms, .rcd, .regs]) (fs := F_GNS_EVENT_SNAP_DONE :: recFields) (cs := [0x110A]) sound3).event F_GNS_EVENT_SNAP_DONE).raise 0x110A (pay [c.cause])
  have from2 := (((Changes.refl (ps := [.alarms, .rcd, .regs]) (fs := F_GNS_SNAP_CTRL_HELD :: F_GNS_EVENT_SNAP_DONE :: recFields) (cs := [0x110A]) sound2).setFlag
    F_GNS_SNAP_CTRL_HELD true).event F_GNS_EVENT_SNAP_DONE).raise 0x110A (pay [c.cause])
  have from1 := ((((Changes.refl (ps := [.alarms, .rcd, .regs]) (fs := F_GNS_SNAP_CTRL_CAPTURING :: F_GNS_SNAP_CTRL_HELD :: F_GNS_EVENT_SNAP_DONE :: recFields) (cs := [0x110A])
    sound1).setFlag F_GNS_SNAP_CTRL_CAPTURING false).setFlag F_GNS_SNAP_CTRL_HELD true).event F_GNS_EVENT_SNAP_DONE).raise 0x110A (pay [c.cause])
  have acts : Acts (partMask [.alarms, .rcd, .regs]) u (u.snapShown c) :=
    (((((Acts.refl u).step (State.setFld_acts ..) rfl).step (State.setFlag_acts ..) rfl).step (State.setFlag_acts ..) rfl).step (State.event_acts ..) rfl).step (State.raise_acts ..) rfl
  have gns : (u.snapShown c).gns = u.gns := acts.frame .gns rfl
  have tim : (u.snapShown c).tim = u.tim := acts.frame .tim rfl
  refine ⟨by rw [gns, held], by rw [gns, capture], by rw [tim]; exact time, by rw [gns, samples], (from1.fld _).trans (id1.trans ?_), (from3.flag _).trans held3,
    (from2.flag _).trans idle2, (from4.flag _).trans done4, (alarm_raise ..).trans (if_pos rfl), (frame.mono (by simp)).trans (acts.framed.mono (by simp))⟩
  rw [number]
  rfl

theorem exec_snapshotHeld_none (idle : s.gns.capture = none) (l : List IqSample) : exec (.snapshotHeld l) s = .next s := by
  rw [exec_snapshotHeld, execSnapshotHeld, idle]

end

end Sys2Proof.Machine

/-! The PARKED checks of the satellite receiver (R107, R127). -/
namespace Sys2Proof.Machine
set_option Elab.async false

section
variable {s t u : State} {n k c a b d e m : Nat}

/-! Position checks. -/

/-- A position check with `fails` failed in a row, at the instant that `r` has reached. -/
def State.parkChecked (r : State) (fails : Nat) : State := { r with gns := { r.gns with parkCheckAt := r.tim.el, parkFails := fails } }

theorem State.parkChecked_frame (r : State) (fails : Nat) : Frame [.gns] r (r.parkChecked fails) := by
  intro p hp
  cases p <;> first | rfl | simp at hp

/-- A position check without enough satellites. -/
def State.parkFew (r : State) : State :=
  if r.gns.parkFails + 1 = 6 then ((r.parkChecked (r.gns.parkFails + 1)).event F_GNS_EVENT_PARK_CHK).raise 0x1110 else r.parkChecked (r.gns.parkFails + 1)

/-- A position check with enough satellites, `far` or near. -/
def State.parkSeen (r : State) (far : Bool) : State :=
  if far then (((r.parkChecked 0).causeGone 0x1110).event F_GNS_EVENT_PARK_CHK).raise 0x110F else ((r.parkChecked 0).causeGone 0x1110).causeGone 0x110F

theorem exec_parkPositionCheck_few (parked : s.dev.st = .parked) (checks : s.gns.renewing = false) (gnss : s.hasGnss = true) (few : n < 5) (d : Nat) :
    exec (.parkPositionCheck n d) s = .next (s.reachEl (s.gns.parkCheckAt + 10 * sec)).parkFew := by
  rw [exec_parkPositionCheck, execParkPositionCheck, if_neg (by simp [parked, checks, gnss])]
  obtain ⟨r, reached⟩ : ∃ r, s.reachEl (s.gns.parkCheckAt + 10 * sec) = r := ⟨_, rfl⟩
  rw [reached]
  exact congrArg Host.Outcome.next (if_pos few)

theorem exec_parkPositionCheck_seen (parked : s.dev.st = .parked) (checks : s.gns.renewing = false) (gnss : s.hasGnss = true) (enough : 5 ≤ n) (d : Nat) :
    exec (.parkPositionCheck n d) s = .next ((s.reachEl (s.gns.parkCheckAt + 10 * sec)).parkSeen (s.par 0x061B < d)) := by
  rw [exec_parkPositionCheck, execParkPositionCheck, if_neg (by simp [parked, checks, gnss]), State.parkSeen]
  obtain ⟨r, reached⟩ : ∃ r, s.reachEl (s.gns.parkCheckAt + 10 * sec) = r := ⟨_, rfl⟩
  rw [reached]
  simp only [decide_eq_true_eq]
  exact congrArg Host.Outcome.next (if_neg (Nat.not_lt.mpr enough))

/-- What a position check without enough satellites leaves. -/
structure ParkFew (s t : State) (e : Nat) : Prop where
  gns : t.gns = { s.gns with parkFails := s.gns.parkFails + 1, parkCheckAt := t.tim.el }
  time : t.tim.el = Nat.max s.tim.el e
  sixth : s.gns.parkFails = 5 → t.Alarmed 0x1110 ∧ t.flag F_GNS_EVENT_PARK_CHK = true
  quiet : s.gns.parkFails ≠ 5 → Frame [.tim, .elapsed, .working, .gns] s t
  frame : Frame [.alarms, .rcd, .tim, .elapsed, .working, .gns, .regs] s t

theorem State.reachEl_frame (s : State) (e : Nat) : Frame [.tim, .elapsed, .working] s (s.reachEl e) :=
  ((s.reachEl_acts e).mono (m := partMask [.tim, .elapsed, .working]) rfl).framed

theorem State.parkChecked_sound (sound : s.Sound) (e fails : Nat) : ((s.reachEl e).parkChecked fails).Sound :=
  ((s.reachEl_acts e).sound sound).of_eq rfl rfl rfl rfl rfl rfl rfl rfl rfl rfl rfl rfl rfl rfl

theorem State.parkFew_fails (sound : s.Sound) (e : Nat) : ParkFew s (s.reachEl e).parkFew e := by
  have same : (s.reachEl e).gns = s.gns := (s.reachEl_frame e) .gns (by simp)
  have time : ((s.reachEl e).parkChecked (s.gns.parkFails + 1)).tim.el = Nat.max s.tim.el e := s.reachEl_max e
  have gns : ((s.reachEl e).parkChecked (s.gns.parkFails + 1)).gns =
    { s.gns with parkFails := s.gns.parkFails + 1, parkCheckAt := ((s.reachEl e).parkChecked (s.gns.parkFails + 1)).tim.el } := rfl
  have frame : Frame [.tim, .elapsed, .working, .gns] s ((s.reachEl e).parkChecked (s.gns.parkFails + 1)) :=
    ((s.reachEl_frame e).mono (by simp)).trans (((s.reachEl e).parkChecked_frame _).mono (by simp))
  have soundU := State.parkChecked_sound sound e (s.gns.parkFails + 1)
  rw [State.parkFew, same]
  generalize (s.reachEl e).parkChecked (s.gns.parkFails + 1) = u at *
  split
  case isTrue sixth =>
    have raised := (Changes.refl (ps := [.alarms, .rcd, .regs]) (fs := recFields) (cs := [0x1110]) (soundU.setFld F_GNS_EVENT_PARK_CHK 1)).raise 0x1110 []
    have acts : Acts (partMask [.alarms, .rcd, .regs]) u ((u.event F_GNS_EVENT_PARK_CHK).raise 0x1110) := ((Acts.refl u).step (State.event_acts ..) rfl).step (State.raise_acts ..) rfl
    have tim : ((u.event F_GNS_EVENT_PARK_CHK).raise 0x1110).tim = u.tim := acts.frame .tim rfl
    refine ⟨?_, by rw [tim, time], fun _ => ⟨(alarm_raise ..).trans (if_pos rfl), (raised.flag _).trans (flag_event soundU _ rfl)⟩, fun other => absurd (by omega) other,
      (frame.mono (by simp)).trans (acts.framed.mono (by simp))⟩
    rw [acts.frame .gns rfl, tim, gns]
  case isFalse other => exact ⟨gns, time, fun five => absurd (by omega) other, fun _ => frame, frame.mono (by simp)⟩

/-- What a position check with enough satellites leaves. -/
structure ParkSeen (s t : State) (d : Nat) : Prop where
  gns : t.gns = { s.gns with parkFails := 0, parkCheckAt := t.tim.el }
  seen : t.CauseGone 0x1110
  far : s.par 0x061B < d → t.Alarmed 0x110F ∧ t.flag F_GNS_EVENT_PARK_CHK = true
  near : d ≤ s.par 0x061B → t.CauseGone 0x110F
  frame : Frame [.alarms, .rcd, .tim, .elapsed, .working, .gns, .regs] s t

theorem State.parkSeen_sees (sound : s.Sound) (e d : Nat) : ParkSeen s ((s.reachEl e).parkSeen (s.par 0x061B < d)) d := by
  have gns : ((s.reachEl e).parkChecked 0).gns = { s.gns with parkFails := 0, parkCheckAt := ((s.reachEl e).parkChecked 0).tim.el } := rfl
  have frame : Frame [.tim, .elapsed, .working, .gns] s ((s.reachEl e).parkChecked 0) :=
    ((s.reachEl_frame e).mono (by simp)).trans (((s.reachEl e).parkChecked_frame _).mono (by simp))
  have soundU := State.parkChecked_sound sound e 0
  rw [State.parkSeen]
  simp only [decide_eq_true_eq]
  generalize (s.reachEl e).parkChecked 0 = u at *
  have gone := State.causeGone_causeGone u 0x1110
  have goneActs : Acts (partMask [.alarms, .rcd, .regs]) u (u.causeGone 0x1110) := (State.causeGone_acts u 0x1110).mono rfl
  have soundV := goneActs.sound soundU
  generalize u.causeGone 0x1110 = v at *
  split
  case isTrue far =>
    have raised := (Changes.refl (ps := [.alarms, .rcd, .regs]) (fs := recFields) (cs := [0x110F]) (soundV.setFld F_GNS_EVENT_PARK_CHK 1)).raise 0x110F []
    have marked := ((Changes.refl (ps := [.alarms, .rcd, .regs]) (fs := F_GNS_EVENT_PARK_CHK :: recFields) (cs := [0x110F]) soundV).event F_GNS_EVENT_PARK_CHK).raise 0x110F []
    have acts : Acts (partMask [.alarms, .rcd, .regs]) u ((v.event F_GNS_EVENT_PARK_CHK).raise 0x110F) := (goneActs.step (State.event_acts ..) rfl).step (State.raise_acts ..) rfl
    refine ⟨?_, fun x found => gone x ((marked.alarms 0x1110 (by decide)) ▸ found), fun _ => ⟨(alarm_raise ..).trans (if_pos rfl), (raised.flag _).trans (flag_event soundV _ rfl)⟩,
      fun near => by omega, (frame.mono (by simp)).trans (acts.framed.mono (by simp))⟩
    rw [acts.frame .gns rfl, show ((v.event F_GNS_EVENT_PARK_CHK).raise 0x110F).tim = u.tim from acts.frame .tim rfl, gns]
  case isFalse near =>
    have ended := (Changes.refl (ps := [.alarms, .rcd, .regs]) (fs := recFields) (cs := [0x110F]) soundV).causeGone 0x110F
    have acts : Acts (partMask [.alarms, .rcd, .regs]) u (v.causeGone 0x110F) := goneActs.step (State.causeGone_acts ..) rfl
    refine ⟨?_, fun x found => gone x ((ended.alarms 0x1110 (by decide)) ▸ found), fun far => absurd far near, fun _ => State.causeGone_causeGone _ _,
      (frame.mono (by simp)).trans (acts.framed.mono (by simp))⟩
    rw [acts.frame .gns rfl, show (v.causeGone 0x110F).tim = u.tim from acts.frame .tim rfl, gns]

/-! The renewal of the ephemerides. -/

/-- What setting the channels of a list leaves. -/
structure ChansSet (s t : State) (l : List Nat) (ch : State → Nat → GChan) : Prop where
  gns : t.gns = { s.gns with chans := t.gns.chans }
  chan : l.Nodup → ∀ n ∈ l, ∃ u, t.gchan n = ch u n
  frame : Frame [.gns, .regs] s t
  changes : s.Sound → Changes [.gns, .regs] [F_GNS_STATUS_NTRACK] [] s t

theorem State.setGchan_gns (s : State) (n : Nat) (x : GChan) : (s.setGchan n x).gns = { s.gns with chans := (s.setGchan n x).gns.chans } := rfl

theorem State.each_setGchan (s : State) (l : List Nat) (ch : State → Nat → GChan) : ChansSet s (s.each l fun v n => v.setGchan n (ch v n)) l ch := by
  refine ⟨?_, fun once n listed => ?_, ?_, fun sound => ?_⟩
  · exact List.foldlRecOn (motive := fun u : State => u.gns = { s.gns with chans := u.gns.chans }) l _ rfl fun u hu n _ => by
      rw [u.setGchan_gns n (ch u n), hu]
  · obtain ⟨u, _, _, after⟩ := State.each_entry (n := n) (f := fun v n => v.setGchan n (ch v n)) (g := fun u j => u.gchan j) (inv := fun _ => True)
      (fun u k j other => State.setGchan_other u _ other) (fun _ _ _ => trivial) once listed s trivial
    exact ⟨u, after.trans (u.setGchan_gchan n _)⟩
  · exact List.foldlRecOn (motive := fun u : State => Frame [.gns, .regs] s u) l _ (Frame.refl _ s) fun u hu n _ => hu.trans (u.setGchan_set n _).frame
  · exact Changes.each (.refl sound) fun u n _ h => h.trans (u.setGchan_changes h.sound n _)

/-- The start of a renewal at `e`. -/
def State.renewalStarted (s : State) (e : Nat) : State :=
  (State.setFlag { s.reachEl e with gns := { (s.reachEl e).gns with renewing := true, renewAt := (s.reachEl e).tim.el } } F_GNS_STATUS_RUN true).setFlag F_GNS_STATUS_BUDGET true

theorem exec_ephemerisRenewal_starts (parked : s.dev.st = .parked) (gnss : s.hasGnss = true) (idle : s.gns.renewing = false) : exec .ephemerisRenewal s =
    .next ((s.renewalStarted (s.gns.renewAt + 7200 * sec)).each (List.range 32 ++ [256, 257]) (fun v n => v.setGchan n (v.idleChan n))) := by
  rw [exec_ephemerisRenewal, execEphemerisRenewal, if_neg (by simp [parked, idle, gnss]), State.renewalStarted]

/-- What the start of a renewal leaves. -/
structure RenewalStarted (s t : State) (e : Nat) : Prop where
  renewing : t.gns.renewing = true
  runs : t.gnsRuns = true
  budget : t.flag F_GNS_STATUS_BUDGET = true
  time : t.tim.el = Nat.max s.tim.el e
  renewAt : t.gns.renewAt = t.tim.el
  frame : Frame [.tim, .elapsed, .working, .gns, .regs] s t

theorem State.renewalStarted_starts (sound : s.Sound) (e : Nat) :
    RenewalStarted s ((s.renewalStarted e).each (List.range 32 ++ [256, 257]) (fun v n => v.setGchan n (v.idleChan n))) e := by
  have soundR : State.Sound { s.reachEl e with gns := { (s.reachEl e).gns with renewing := true, renewAt := (s.reachEl e).tim.el } } :=
    ((s.reachEl_acts e).sound sound).of_eq rfl rfl rfl rfl rfl rfl rfl rfl rfl rfl rfl rfl rfl rfl
  have soundS := soundR.setFlag F_GNS_STATUS_RUN true
  have time : (s.renewalStarted e).tim.el = Nat.max s.tim.el e := s.reachEl_max e
  have gns : (s.renewalStarted e).gns.renewing = true ∧ (s.renewalStarted e).gns.renewAt = (s.renewalStarted e).tim.el := ⟨rfl, rfl⟩
  have runs : (s.renewalStarted e).flag F_GNS_STATUS_RUN = true :=
    (flag_setFlag_other soundS F_GNS_STATUS_BUDGET F_GNS_STATUS_RUN true rfl rfl (.inr (.inr (by decide)))).trans (flag_setFlag soundR _ true rfl)
  have budget : (s.renewalStarted e).flag F_GNS_STATUS_BUDGET = true := flag_setFlag soundS _ true rfl
  have changed : Changes [.tim, .elapsed, .working, .gns, .regs] [F_GNS_STATUS_RUN, F_GNS_STATUS_BUDGET] [] s (s.renewalStarted e) :=
    ((((Changes.refl sound).acts (s.reachEl_acts e)).upd { s.reachEl e with gns := { (s.reachEl e).gns with renewing := true, renewAt := (s.reachEl e).tim.el } }).setFlag
      F_GNS_STATUS_RUN true).setFlag F_GNS_STATUS_BUDGET true
  generalize s.renewalStarted e = u at *
  have set := u.each_setGchan (List.range 32 ++ [256, 257]) State.idleChan
  have more := set.changes changed.sound
  generalize u.each (List.range 32 ++ [256, 257]) (fun v n => v.setGchan n (v.idleChan n)) = v at *
  have tim : v.tim = u.tim := set.frame .tim (by simp)
  refine ⟨by rw [set.gns]; exact gns.1, (more.flag _).trans runs, (more.flag _).trans budget, by rw [tim, time], ?_, changed.frame.trans (set.frame.mono (by simp))⟩
  rw [set.gns, tim]
  exact gns.2

/-- Keys set to one value. -/
theorem afind_setAll {l : List Nat} {x : Nat} (m : List (Nat × Nat)) (known : k ∈ l ∨ afind m k = some x) : afind (l.foldl (fun l k => aset l k x) m) k = some x := by
  induction l generalizing m with
  | nil => exact known.resolve_left List.not_mem_nil
  | cons a l ih =>
    refine ih (aset m a x) ?_
    rcases known with listed | set
    · rcases List.mem_cons.mp listed with rfl | later
      · exact .inr afind_aset_self
      · exact .inl later
    · refine .inr ?_
      rw [afind_aset]
      split
      · rfl
      · exact set

/-- The fields of a receiver that powers down. -/
def powerFields : List Fld :=
  [F_GNS_STATUS_NTRACK, F_GNS_SNAP_CTRL_CAPTURING] ++ (List.range 8).flatMap fun n => F_GNS_STREAM_NOTCHES n :: (List.range 4).map fun k => word32 (A_GNS_NOTCH n k)

/-- What a receiver that powers down leaves. -/
structure PoweredDown (s t : State) : Prop where
  off : s.Sound → t.gnsRuns = false
  aiding : t.gns.aiding = s.gns.aiding
  renewing : t.gns.renewing = s.gns.renewing
  chans : ∀ n < 272, (t.gchan n).st = 5 ∨ (t.gchan n).st = 6
  frame : Frame [.hlt, .gns, .regs] s t

/-- A channel of a receiver that is off. -/
def State.offChan (w : State) (n : Nat) : GChan := if w.mram.riserChannels.contains n then { st := 5 } else { st := 6 }

theorem State.offChan_st (w : State) (n : Nat) : (w.offChan n).st = 5 ∨ (w.offChan n).st = 6 := by
  unfold State.offChan
  split
  · exact .inl rfl
  · exact .inr rfl

/-- The registers of the notches of stream `n` are cleared. -/
def State.notchesCleared (w : State) (n : Nat) : State := (w.setFld (F_GNS_STREAM_NOTCHES n) 0).each (List.range 4) (fun x k => x.setReg (A_GNS_NOTCH n k) 0#32)

/-- The receiver off, before its registers are cleared. -/
def State.receiverOff (s : State) : State :=
  let t := s.setFlag F_GNS_STATUS_RUN false
  let u := { t with gns := { t.gns with acq := [], detected := [], handed := [], notches := [], lines := [], capture := none, parkFails := 0, parkCheckAt := t.tim.el, renewAt := t.tim.el } }
  { u with hlt := { u.hlt with shadowOf := [], shadowVote := [] } }

theorem State.gnsPowerDown_eq (s : State) : s.gnsPowerDown =
    ((s.receiverOff.each (List.range 272) (fun w n => w.setGchan n (w.offChan n))).setFlag F_GNS_SNAP_CTRL_CAPTURING false).each (List.range 8) State.notchesCleared := rfl

theorem State.notchesCleared_acts (w : State) (n : Nat) : Acts (partMask [.regs]) w (w.notchesCleared n) :=
  (State.setFld_acts w (F_GNS_STREAM_NOTCHES n) 0 |>.mono rfl).step (State.each_acts' (List.range 4) _ fun x k => State.setReg_acts x (A_GNS_NOTCH n k) 0#32) rfl

theorem State.notchesCleared_changes (sound : s.Sound) (stream : n < 8) : Changes [.gns, .regs] powerFields [] s (s.notchesCleared n) := by
  have listed : ∀ f ∈ F_GNS_STREAM_NOTCHES n :: (List.range 4).map (fun k => word32 (A_GNS_NOTCH n k)), f ∈ powerFields := fun f hf =>
    List.mem_append_right _ (List.mem_flatMap.mpr ⟨n, List.mem_range.mpr stream, hf⟩)
  exact Changes.each ((Changes.refl sound).setFld _ _ rfl (listed _ (List.mem_cons_self ..))) fun u k hk h =>
    h.setReg _ _ (listed _ (List.mem_cons_of_mem _ (List.mem_map_of_mem hk)))

theorem run_apart : ∀ f ∈ powerFields, f.apart F_GNS_STATUS_RUN := by
  unfold Fld.apart
  decide

theorem State.gnsPowerDown_powers (s : State) : PoweredDown s s.gnsPowerDown := by
  have frame := ((State.gnsPowerDown_acts s).mono (m := partMask [.hlt, .gns, .regs]) rfl).framed
  rw [State.gnsPowerDown_eq] at *
  have started : s.receiverOff.gns.aiding = s.gns.aiding ∧ s.receiverOff.gns.renewing = s.gns.renewing := ⟨rfl, rfl⟩
  have soundO (sound : s.Sound) : s.receiverOff.Sound :=
    (sound.setFlag F_GNS_STATUS_RUN false).of_eq rfl rfl rfl rfl rfl rfl rfl rfl rfl rfl rfl rfl rfl rfl
  have off (sound : s.Sound) : s.receiverOff.flag F_GNS_STATUS_RUN = false := flag_setFlag sound _ false rfl
  generalize s.receiverOff = u at *
  have set := u.each_setGchan (List.range 272) State.offChan
  generalize u.each (List.range 272) (fun w n => w.setGchan n (w.offChan n)) = v at *
  have acts : Acts (partMask [.regs]) v ((v.setFlag F_GNS_SNAP_CTRL_CAPTURING false).each (List.range 8) State.notchesCleared) :=
    (State.setFlag_acts v F_GNS_SNAP_CTRL_CAPTURING false |>.mono rfl).step (State.each_acts' _ _ State.notchesCleared_acts) rfl
  have gns : ((v.setFlag F_GNS_SNAP_CTRL_CAPTURING false).each (List.range 8) State.notchesCleared).gns = v.gns := acts.frame .gns rfl
  refine ⟨fun sound => ?_, ?_, ?_, fun n low => ?_, frame⟩
  · have first := (set.changes (soundO sound)).mono (ps := [.gns, .regs]) (fs := powerFields) (cs := []) (by simp) (by simp [powerFields])
    have all := (first.setFlag F_GNS_SNAP_CTRL_CAPTURING false rfl (by simp [powerFields])).each (ns := List.range 8) (f := State.notchesCleared) fun w n hn h =>
      h.trans (State.notchesCleared_changes h.sound (List.mem_range.mp hn))
    exact (all.flag _ rfl run_apart).trans (off sound)
  · rw [gns, set.gns]
    exact started.1
  · rw [gns, set.gns]
    exact started.2
  · obtain ⟨w, chan⟩ := set.chan List.nodup_range n (List.mem_range.mpr low)
    rw [State.gchan, gns]
    show (v.gchan n).st = 5 ∨ (v.gchan n).st = 6
    rw [chan]
    exact w.offChan_st n

theorem exec_ephemerisRenewalEnds_idle (idle : s.gns.renewing = false) (l : List Nat) : exec (.ephemerisRenewalEnds l) s = .next s := by
  rw [exec_ephemerisRenewalEnds, execEphemerisRenewalEnds, if_neg (by simp [idle])]

theorem exec_ephemerisRenewalEnds_keeps (sound : s.Sound) (renewing : s.gns.renewing = true) (l : List Nat) : ∃ t, exec (.ephemerisRenewalEnds l) s = .next t ∧
    t.gns.renewing = false ∧ t.gnsRuns = false ∧ t.gns.parkFails = s.gns.parkFails ∧ (∀ k ∈ l, s.tracksSat k = true → afind t.gns.aiding.ephem k = some s.tim.el) ∧
    (∀ n < 272, (t.gchan n).st = 5 ∨ (t.gchan n).st = 6) ∧ Frame [.hlt, .gns, .regs] s t := by
  have ephem (k : Nat) (listed : k ∈ l) (tracks : s.tracksSat k = true) : afind (s.noteEphemerides (l.filter s.tracksSat)).gns.aiding.ephem k = some s.tim.el :=
    afind_setAll _ (.inl (List.mem_filter.mpr ⟨listed, tracks⟩))
  have noted : Frame [.gns] s (s.noteEphemerides (l.filter s.tracksSat)) := by
    intro p hp
    cases p <;> first | rfl | simp at hp
  have soundN : (s.noteEphemerides (l.filter s.tracksSat)).Sound := sound.of_eq rfl rfl rfl rfl rfl rfl rfl rfl rfl rfl rfl rfl rfl rfl
  have next : exec (.ephemerisRenewalEnds l) s = .next { State.gnsPowerDown { s.noteEphemerides (l.filter s.tracksSat) with gns := { (s.noteEphemerides (l.filter s.tracksSat)).gns with
      renewing := false } } with gns := { (State.gnsPowerDown { s.noteEphemerides (l.filter s.tracksSat) with gns := { (s.noteEphemerides (l.filter s.tracksSat)).gns with
      renewing := false } }).gns with parkFails := s.gns.parkFails, renewAt := s.gns.renewAt } } := by
    rw [exec_ephemerisRenewalEnds, execEphemerisRenewalEnds, if_pos renewing]
  generalize s.noteEphemerides (l.filter s.tracksSat) = u at *
  have down := State.gnsPowerDown_powers { u with gns := { u.gns with renewing := false } }
  have stopped : Frame [.gns] u { u with gns := { u.gns with renewing := false } } := by
    intro p hp
    cases p <;> first | rfl | simp at hp
  have off := down.off (soundN.of_eq rfl rfl rfl rfl rfl rfl rfl rfl rfl rfl rfl rfl rfl rfl)
  generalize State.gnsPowerDown { u with gns := { u.gns with renewing := false } } = v at *
  have last : Frame [.gns] v { v with gns := { v.gns with parkFails := s.gns.parkFails, renewAt := s.gns.renewAt } } := by
    intro p hp
    cases p <;> first | rfl | simp at hp
  refine ⟨_, next, down.renewing, off, rfl, fun k listed tracks => ?_, down.chans,
    (noted.mono (by simp)).trans ((stopped.mono (by simp)).trans (down.frame.trans (last.mono (by simp))))⟩
  show afind v.gns.aiding.ephem k = _
  rw [down.aiding]
  exact ephem k listed tracks

end

/-- Settles O36: the levels of a stream, its notches, the marks of suspicion, the snapshot's life and the PARKED checks, event by event. -/
theorem interferenceFalseSignalsAndSnapshots : Obligations.InterferenceFalseSignalsAndSnapshots := by
  refine ⟨fun k r a s sound runs stream learned range gain free => exec_spectrumAverage_empty sound runs stream learned range gain free,
    fun k r a h f p s sound runs stream strong before same free => exec_spectrumAverage_line sound runs stream strong before same free,
    fun k r a l s idle => exec_spectrumAverage_idle idle l, fun k n x s sound stream notch known => ?_, fun l s runs unknown => exec_noiseFloorLearned_learns runs unknown l,
    fun l s known => exec_noiseFloorLearned_known known l, fun s sound jammed low => ?_, fun n s stream high => exec_jamClear_high stream high,
    fun n e s marked due now => ?_, fun d e s sound only due now => ?_,
    fun d n e s channel side later => ⟨exec_suspectClear_later channel later, exec_suspicionClear_later side later⟩,
    fun m s sound may runs free idle => snapshot_triggers sound may runs free idle, fun m s sound may held => snapshot_missed sound may held,
    fun m s sound may held => snapshot_released sound may held, fun l c s sound running once => ?_, fun l s idle => exec_snapshotHeld_none idle l,
    fun n d s sound parked checks gnss few => ?_, fun n d s sound parked checks gnss enough => ?_, fun s sound parked gnss idle => ?_,
    fun l s sound renewing => exec_ephemerisRenewalEnds_keeps sound renewing l, fun n d l s elsewhere idle => ⟨?_, ?_, exec_ephemerisRenewalEnds_idle idle l⟩⟩
  · have freed := State.notchFreed_frees sound stream notch (x.seenAt + sec)
    exact ⟨_, exec_notchRelease_frees notch known, freed.free, freed.reg, freed.mask, freed.time, freed.frame, freed.fields⟩
  · have cleared := State.jamCleared sound (s.gns.jamAt + 10 * sec)
    exact ⟨_, exec_jamClear_clears jammed low, cleared.flag, cleared.gone, cleared.alarms, cleared.time, cleared.frame, cleared.fields⟩
  · have cleared := s.clearSuspect_clears n e
    exact ⟨_, exec_suspectClear_now marked due now, cleared.chan, cleared.time, cleared.others, cleared.frame, cleared.fields⟩
  · have cleared := State.clearSuspicion_clears sound only e
    have marked : s.suspected d = true := by rw [State.suspected, only]; simp
    exact ⟨_, exec_suspicionClear_now marked due now, cleared.none, cleared.flag, cleared.gone, cleared.time, cleared.alarms, cleared.frame⟩
  · have held := State.snapTaken_holds sound l c (c.firstT + c.nsamp / 120000 * ms)
    exact ⟨_, exec_snapshotHeld_once running once, held.held, held.capture, held.time, held.samples, held.number, held.holds, held.idle, held.event, held.alarmed, held.frame⟩
  · have checked := State.parkFew_fails sound (s.gns.parkCheckAt + 10 * sec)
    exact ⟨_, exec_parkPositionCheck_few parked checks gnss few d, checked.gns, checked.time, checked.sixth, checked.quiet, checked.frame⟩
  · have checked := State.parkSeen_sees sound (s.gns.parkCheckAt + 10 * sec) d
    exact ⟨_, exec_parkPositionCheck_seen parked checks gnss enough d, checked.gns, checked.seen, checked.far, checked.near, checked.frame⟩
  · have started := State.renewalStarted_starts sound (s.gns.renewAt + 7200 * sec)
    exact ⟨_, exec_ephemerisRenewal_starts parked gnss idle, started.renewing, started.runs, started.budget, started.time, started.renewAt, started.frame⟩
  · rw [exec_parkPositionCheck, execParkPositionCheck, if_pos (by simp [elsewhere])]
  · rw [exec_ephemerisRenewal, execEphemerisRenewal, if_pos (by simp [elsewhere])]

end Sys2Proof.Machine

/-! Engine shadows, engine tests and test injections (R415, R472, R475, R479, R480). -/
namespace Sys2Proof.Machine
set_option Elab.async false

section
variable {s t u r : State} {n k j c a b e : Nat} {x : Int}

/-! The shadow of a cluster (R479). -/

/-- R479: equal outputs move the rotation on. -/
def State.rotationMoved (s : State) (k : Nat) : State :=
  { s with hlt := { s.hlt with engineNext := aset s.hlt.engineNext k ((s.engineUnderTest k + 1) % 16) } }

/-- R479: a mismatch counts and starts the test of the spare. -/
def State.spareTest (s : State) (k : Nat) : State :=
  { s with hlt := { s.hlt with engineMism := Nat.min 65535 (s.hlt.engineMism + 1), engineTest := aset s.hlt.engineTest k (s.engineUnderTest k) } }

theorem exec_engineShadowEnd_runs (cluster : k ≤ 7) (free : s.spareFree k = true) (idle : afind s.hlt.engineTest k = none) (past : s.dev.st ≠ .boot) (f : Bool) :
    exec (.engineShadowEnd k f) s =
      .next (if f then (s.checkEnds (16 + k) sec).rotationMoved k else (s.checkEnds (16 + k) sec).spareTest k) := by
  have runs : ¬((decide (7 < k) || !s.spareFree k || (afind s.hlt.engineTest k).isSome || decide (s.dev.st = .boot)) = true) := by simp [free, idle, past]; omega
  rw [exec_engineShadowEnd, execEngineShadowEnd]
  exact congrArg Host.Outcome.next (if_neg runs)

theorem exec_engineShadowEnd_idle (idle : 7 < k ∨ s.spareFree k = false ∨ s.dev.st = .boot) (f : Bool) : exec (.engineShadowEnd k f) s = .next s := by
  have stops : (decide (7 < k) || !s.spareFree k || (afind s.hlt.engineTest k).isSome || decide (s.dev.st = .boot)) = true := by
    rcases idle with h | h | h <;> simp [h]
  rw [exec_engineShadowEnd, execEngineShadowEnd]
  exact congrArg Host.Outcome.next (if_pos stops)

theorem CheckEnded.engineUnderTest {i : Nat} (h : CheckEnded s r a i) (k : Nat) : r.engineUnderTest k = s.engineUnderTest k := by
  rw [State.engineUnderTest, State.engineUnderTest, h.hlt]

theorem State.rotationMoved_moves {i : Nat} (h : CheckEnded s r (16 + k) i) : (r.rotationMoved k).engineUnderTest k = (s.engineUnderTest k + 1) % 16 ∧
    (r.rotationMoved k).hlt.engineMism = s.hlt.engineMism ∧ (r.rotationMoved k).hlt.engineTest = s.hlt.engineTest ∧
    (∀ e, afind s.hlt.checkAt (16 + k) = some e → (r.rotationMoved k).tim.el = Nat.max s.tim.el (e + i)) ∧
    afind (r.rotationMoved k).hlt.checkAt (16 + k) = some (r.rotationMoved k).tim.el ∧ Frame [.tim, .elapsed, .working, .hlt] s (r.rotationMoved k) := by
  have hlt : (r.rotationMoved k).hlt = { r.hlt with engineNext := aset r.hlt.engineNext k ((r.engineUnderTest k + 1) % 16) } := rfl
  have moved : Frame [.tim, .elapsed, .working, .hlt] r (r.rotationMoved k) := by
    intro p hp
    cases p <;> first | rfl | simp at hp
  refine ⟨?_, ?_, ?_, h.time, ?_, (h.frame.mono (by simp)).trans moved⟩
  · rw [State.engineUnderTest, hlt, h.engineUnderTest]
    exact aget_aset_self
  · rw [hlt, h.hlt]
  · rw [hlt, h.hlt]
  · rw [hlt, h.hlt]
    exact afind_aset_self

theorem State.spareTest_starts {i : Nat} (h : CheckEnded s r (16 + k) i) : (r.spareTest k).hlt.engineMism = Nat.min 65535 (s.hlt.engineMism + 1) ∧
    afind (r.spareTest k).hlt.engineTest k = some (s.engineUnderTest k) ∧ (r.spareTest k).engineUnderTest k = s.engineUnderTest k ∧
    Frame [.tim, .elapsed, .working, .hlt] s (r.spareTest k) := by
  have hlt : (r.spareTest k).hlt = { r.hlt with engineMism := Nat.min 65535 (r.hlt.engineMism + 1), engineTest := aset r.hlt.engineTest k (r.engineUnderTest k) } := rfl
  have moved : Frame [.tim, .elapsed, .working, .hlt] r (r.spareTest k) := by
    intro p hp
    cases p <;> first | rfl | simp at hp
  refine ⟨?_, ?_, ?_, (h.frame.mono (by simp)).trans moved⟩
  · rw [hlt, h.hlt]
  · rw [hlt, h.engineUnderTest]
    exact afind_aset_self
  · rw [← h.engineUnderTest, State.engineUnderTest, State.engineUnderTest, hlt]

/-! The test of a spare (R415, R475, R479). -/

theorem exec_engineTestEnd_idle (idle : afind s.hlt.engineTest k = none) (f : Bool) : exec (.engineTestEnd k f) s = .next s := by
  rw [exec_engineTestEnd, execEngineTestEnd, idle]

/-- The test of the spare of cluster `k` has ended: the spare is no longer free. -/
def State.spareTested (s : State) (k j : Nat) : State :=
  { s with
    hlt := { s.hlt with engineTest := adel s.hlt.engineTest k, engineNext := aset s.hlt.engineNext k ((j + 1) % 16) }
    fch := { s.fch with sparesOut := insertNew s.fch.sparesOut k } }

/-- R415: a spare that passes stands in for engine `j`. -/
def State.engineReplaced (s : State) (k j : Nat) : State :=
  ((((s.spareTested k j).retireEngine k j (16 * k + s.engineUnderTest k)).raise 0x1006 (pay [k])).setFlag (F_FCH_STATUS_SPARE (16 * k + j)) true).event
    (F_FCH_EVENT_ENGINE_EVT (16 * k + j))

theorem exec_engineTestEnd_runs (testing : afind s.hlt.engineTest k = some j) (f : Bool) :
    exec (.engineTestEnd k f) s = .next (if f then (s.checkEnds (16 + k) (10 * ms)).engineReplaced k j
      else ((s.checkEnds (16 + k) (10 * ms)).spareTested k j).retireEngine k 16 (16 * k + (s.checkEnds (16 + k) (10 * ms)).engineUnderTest k)) := by
  rw [exec_engineTestEnd, execEngineTestEnd, testing]
  rfl

/-- What the retirement of engine `b` of cluster `k` leaves. -/
structure EngineRetired (s t : State) (k b : Nat) : Prop where
  member : (32 * k + b) ∈ t.mram.riserEngines
  alarmed : t.Alarmed 0x1005
  changes : s.Sound → Changes [.alarms, .rcd, .mram, .regs] recFields [0x1005] s t

theorem State.retireEngine_retires (s : State) (k b c : Nat) : EngineRetired s (s.retireEngine k b c) k b := by
  have shape : s.retireEngine k b c =
    (State.countRetired { s with mram := { s.mram with riserEngines := insertNew s.mram.riserEngines (32 * k + b) } } (keyEngine (32 * k + b))).raise 0x1005
      (pay [c, 16]) := rfl
  have counted (sound : s.Sound) : Changes [.alarms, .rcd, .mram, .regs] recFields [0x1005] s
      (State.countRetired { s with mram := { s.mram with riserEngines := insertNew s.mram.riserEngines (32 * k + b) } } (keyEngine (32 * k + b))) :=
    ((Changes.refl sound).upd { s with mram := { s.mram with riserEngines := insertNew s.mram.riserEngines (32 * k + b) } }).acts (State.countRetired_acts ..)
  have member : (32 * k + b) ∈ (State.countRetired { s with mram := { s.mram with riserEngines := insertNew s.mram.riserEngines (32 * k + b) } }
      (keyEngine (32 * k + b))).mram.riserEngines := mem_insertNew_self ..
  rw [shape]
  generalize State.countRetired _ _ = v at *
  refine ⟨?_, (alarm_raise ..).trans (if_pos rfl), fun sound => (counted sound).raise 0x1005 _⟩
  rw [show (v.raise 0x1005 (pay [c, 16])).mram = v.mram from (State.raise_acts ..).frame .mram rfl]
  exact member

theorem State.spareTested_changes (sound : s.Sound) (k j : Nat) : Changes [.hlt, .fch] [] [] s (s.spareTested k j) := (Changes.refl sound).upd _

/-- What the end of a test of the spare of cluster `k` leaves. -/
structure SpareTested (s t : State) (k j i : Nat) : Prop where
  idle : afind t.hlt.engineTest k = none
  next : t.engineUnderTest k = (j + 1) % 16
  taken : t.spareFree k = false
  time : ∀ e, afind s.hlt.checkAt (16 + k) = some e → t.tim.el = Nat.max s.tim.el (e + i)

theorem State.spareTested_tests {i : Nat} (h : CheckEnded s r (16 + k) i) (j : Nat) : SpareTested s (r.spareTested k j) k j i := by
  refine ⟨afind_adel_self, aget_aset_self, ?_, h.time⟩
  show (!(insertNew r.fch.sparesOut k).contains k) = false
  simp [mem_insertNew_self]

theorem SpareTested.of_frame {i : Nat} (h : SpareTested s t k j i) (kept : Frame [.alarms, .rcd, .mram, .regs] t u) : SpareTested s u k j i := by
  have hlt : u.hlt = t.hlt := kept .hlt (by simp)
  have fch : u.fch = t.fch := kept .fch (by simp)
  have tim : u.tim = t.tim := kept .tim (by simp)
  refine ⟨hlt ▸ h.idle, ?_, ?_, tim ▸ h.time⟩
  · rw [← h.next, State.engineUnderTest, State.engineUnderTest, hlt]
  · rw [← h.taken, State.spareFree, State.spareFree, fch]

theorem CheckEnded.sound {i : Nat} (sound : s.Sound) (h : r = s.checkEnds a i) : r.Sound := h ▸ (State.checkEnds_acts ..).sound sound

theorem CheckEnded.alarm {i : Nat} (h : CheckEnded s r a i) (c : Nat) : r.alarm? c = s.alarm? c := by
  rw [State.alarm?, State.alarm?, h.frame .alarms (by simp)]

/-- What a spare that passes leaves. -/
structure EngineReplaced (s t : State) (k j i : Nat) : Prop where
  tested : SpareTested s t k j i
  member : (32 * k + j) ∈ t.mram.riserEngines
  spare : t.flag (F_FCH_STATUS_SPARE (16 * k + j)) = true
  event : t.flag (F_FCH_EVENT_ENGINE_EVT (16 * k + j)) = true
  retired : t.Alarmed 0x1005
  replaced : t.Alarmed 0x1006
  alarms : AlarmsBut [0x1005, 0x1006] s t
  frame : Frame [.alarms, .rcd, .mram, .tim, .elapsed, .working, .hlt, .fch, .regs] s t

theorem State.engineReplaced_replaces {i : Nat} (h : CheckEnded s r (16 + k) i) (sound : r.Sound) (j : Nat) : EngineReplaced s (r.engineReplaced k j) k j i := by
  have tested := State.spareTested_tests h j
  have first := State.spareTested_changes sound k j
  have retired := (r.spareTested k j).retireEngine_retires k j (16 * k + r.engineUnderTest k)
  have changed := retired.changes first.sound
  unfold State.engineReplaced
  generalize (r.spareTested k j).retireEngine k j (16 * k + r.engineUnderTest k) = v at *
  have raised : Changes [.alarms, .rcd, .regs] recFields [0x1006] v (v.raise 0x1006 (pay [k])) := (Changes.refl changed.sound).raise 0x1006 _
  have alarmed : (v.raise 0x1006 (pay [k])).Alarmed 0x1006 := (alarm_raise ..).trans (if_pos rfl)
  generalize v.raise 0x1006 (pay [k]) = w at *
  have marked : Changes [.regs] [F_FCH_STATUS_SPARE (16 * k + j), F_FCH_EVENT_ENGINE_EVT (16 * k + j)] [] w
      ((w.setFlag (F_FCH_STATUS_SPARE (16 * k + j)) true).event (F_FCH_EVENT_ENGINE_EVT (16 * k + j))) :=
    ((Changes.refl raised.sound).setFlag (F_FCH_STATUS_SPARE (16 * k + j)) true).event (F_FCH_EVENT_ENGINE_EVT (16 * k + j))
  have shown := raised.sound.setFlag (F_FCH_STATUS_SPARE (16 * k + j)) true
  have apart : (F_FCH_STATUS_SPARE (16 * k + j)).addr ≠ (F_FCH_EVENT_ENGINE_EVT (16 * k + j)).addr := by
    show 0x100004 + 256 * (16 * k + j) ≠ 0x100008 + 256 * (16 * k + j)
    omega
  have later : Frame [.alarms, .rcd, .mram, .regs] (r.spareTested k j) _ :=
    (changed.frame.trans (raised.frame.mono (by simp))).trans (marked.frame.mono (by simp))
  refine ⟨tested.of_frame later, ?_, (flag_event_other shown _ _ rfl rfl (.inl apart)).trans (flag_setFlag raised.sound _ _ rfl), flag_event shown _ rfl,
    ((marked.alarms _ (by simp)).trans (raised.alarms _ (by simp))).trans retired.alarmed, (marked.alarms _ (by simp)).trans alarmed, fun c hc => ?_, ?_⟩
  · rw [marked.frame .mram (by simp), raised.frame .mram (by simp)]
    exact retired.member
  · obtain ⟨apart₁, apart₂⟩ : c ≠ 0x1005 ∧ c ≠ 0x1006 := by simpa using hc
    exact ((marked.alarms c (by simp)).trans (raised.alarms c (by simpa using apart₂))).trans
      ((changed.alarms c (by simpa using apart₁)).trans ((first.alarms c (by simp)).trans (h.alarm c)))
  · exact ((h.frame.mono (by simp)).trans (first.frame.mono (by simp))).trans (later.mono (by simp))

/-- What a spare that fails leaves. -/
structure SpareRetired (s t : State) (k i : Nat) : Prop where
  idle : afind t.hlt.engineTest k = none
  taken : t.spareFree k = false
  member : (32 * k + 16) ∈ t.mram.riserEngines
  alarmed : t.Alarmed 0x1005
  alarms : AlarmsBut [0x1005] s t
  frame : Frame [.alarms, .rcd, .mram, .tim, .elapsed, .working, .hlt, .fch, .regs] s t

theorem State.spareRetired_retires {i : Nat} (h : CheckEnded s r (16 + k) i) (sound : r.Sound) (j : Nat) :
    SpareRetired s ((r.spareTested k j).retireEngine k 16 c) k i := by
  have first := State.spareTested_changes sound k j
  have retired := (r.spareTested k j).retireEngine_retires k 16 c
  have changed := retired.changes first.sound
  have tested := (State.spareTested_tests h j).of_frame changed.frame
  exact ⟨tested.idle, tested.taken, retired.member, retired.alarmed,
    fun c hc => (changed.alarms c hc).trans ((first.alarms c (by simp)).trans (h.alarm c)),
    ((h.frame.mono (by simp)).trans (first.frame.mono (by simp))).trans (changed.frame.mono (by simp))⟩

end

end Sys2Proof.Machine

/-! Test injections of the field channels (R406, R472, R480). -/
namespace Sys2Proof.Machine
set_option Elab.async false

section
variable {s t u r : State} {n k j c a b e i : Nat} {x : Int}

/-- The two bits of STATUS that a suppression writes. -/
def settleFields (n : Nat) : List Fld := [F_FCH_STATUS_SETTLED n, F_FCH_STATUS_VALID n]

/-- Channel `n` is not settled, and its VALID is up to date. -/
def State.unsettled (s : State) (n : Nat) : State := (s.setFlag (F_FCH_STATUS_SETTLED n) false).showFch n

theorem State.unsettled_flags (sound : s.Sound) (n : Nat) : (s.unsettled n).flag (F_FCH_STATUS_SETTLED n) = false ∧
    (s.unsettled n).flag (F_FCH_STATUS_VALID n) = false := by
  have shown := sound.setFlag (F_FCH_STATUS_SETTLED n) false
  have settled : (s.setFlag (F_FCH_STATUS_SETTLED n) false).flag (F_FCH_STATUS_SETTLED n) = false := flag_setFlag sound _ _ rfl
  have invalid : (s.setFlag (F_FCH_STATUS_SETTLED n) false).fchValid n = false := by simp [State.fchValid, settled]
  refine ⟨(flag_setFlag_other shown _ _ _ rfl rfl (.inr (.inl (show 0 < 1 by omega)))).trans settled, ?_⟩
  rw [State.unsettled, State.showFch, invalid]
  exact flag_setFlag shown _ _ rfl

theorem State.unsettled_changes (sound : s.Sound) (n : Nat) : Changes [.regs] (settleFields n) [] s (s.unsettled n) :=
  ((Changes.refl sound).setFlag _ _ rfl (by simp [settleFields])).setFlag _ _ rfl (by simp [settleFields])

/-- Channel `n` with its record changed to `f`. -/
theorem State.setFchan_fchan (s : State) (n : Nat) (f : FChan → FChan) : (s.setFchan n f).fchan n = f (s.fchan n) := aget_aset_self

theorem State.fchan_of_fch (fch : t.fch = s.fch) (n : Nat) : t.fchan n = s.fchan n := by rw [State.fchan, State.fchan, fch]

/-! The start of an injection (R480). -/

/-- The injection into channel `n` runs: it converts `i` samples of the reference. -/
def State.injected (s : State) (n i : Nat) : State := (s.startInjection n).setFchan n fun c => { c with testLeft := i }

theorem exec_fieldTestInjection_runs (past : s.dev.st ≠ .boot) (used : s.fchUsed n = true) (tested : s.injectionTested n = true) (idle : n ∉ s.hlt.injRunning) :
    exec (.fieldTestInjection n) s = .next (((s.checkEnds (64 + n) (s.injectionInterval n)).injected n
      (respSettling ((s.checkEnds (64 + n) (s.injectionInterval n)).fchResp n) + 1)).unsettled n) := by
  have starts : (s.dev.st != .boot && s.fchUsed n && s.injectionTested n && !s.hlt.injRunning.contains n) = true := by simp [past, used, tested, idle]
  rw [exec_fieldTestInjection, execFieldTestInjection]
  exact congrArg Host.Outcome.next (if_pos starts)

/-- What the start of an injection into channel `n` leaves. -/
structure InjectionStarted (s t : State) (n i : Nat) : Prop where
  running : t.hlt.injRunning = s.hlt.injRunning ++ [n]
  settled : t.flag (F_FCH_STATUS_SETTLED n) = false
  left : (t.fchan n).testLeft = respSettling (s.fchResp n) + 1
  time : ∀ e, afind s.hlt.checkAt (64 + n) = some e → t.tim.el = Nat.max s.tim.el (e + i)
  valid : t.flag (F_FCH_STATUS_VALID n) = false
  frame : Frame [.tim, .elapsed, .working, .hlt, .fch, .regs] s t
  fields : FieldsBut [F_FCH_STATUS_SETTLED n, F_FCH_STATUS_VALID n] s t

theorem State.injected_starts (h : CheckEnded s r (64 + n) i) (sound : r.Sound) (idle : n ∉ s.hlt.injRunning) :
    InjectionStarted s ((r.injected n (respSettling (r.fchResp n) + 1)).unsettled n) n i := by
  have regs : r.regs = s.regs := h.frame .regs (by simp)
  have resp : r.fchResp n = s.fchResp n := State.fld_of_regs regs _
  have running : (r.injected n (respSettling (r.fchResp n) + 1)).hlt.injRunning = s.hlt.injRunning ++ [n] := by
    show insertNew r.hlt.injRunning n = _
    rw [h.hlt]
    exact insertNew_of_not_mem idle
  have left : ((r.injected n (respSettling (r.fchResp n) + 1)).fchan n).testLeft = respSettling (s.fchResp n) + 1 := by
    rw [State.injected, State.setFchan_fchan, resp]
  have changed : Changes [.hlt, .fch] [] [] r (r.injected n (respSettling (r.fchResp n) + 1)) := (Changes.refl sound).upd _
  generalize r.injected n (respSettling (r.fchResp n) + 1) = v at *
  have shown := State.unsettled_changes changed.sound n
  have flags := State.unsettled_flags changed.sound n
  refine ⟨?_, flags.1, ?_, fun e known => ?_, flags.2, ?_, fun g fits apart => ?_⟩
  · rw [shown.frame .hlt (by simp)]
    exact running
  · rw [State.fchan_of_fch (shown.frame .fch (by simp))]
    exact left
  · rw [shown.frame .tim (by simp), changed.frame .tim (by simp)]
    exact h.time e known
  · exact ((h.frame.mono (by simp)).trans (changed.frame.mono (by simp))).trans (shown.frame.mono (by simp))
  · exact (shown.fields g fits apart).trans ((changed.fields g fits (by simp)).trans (State.fld_of_regs regs g))

/-! The end of an injection (R406, R480). -/

theorem exec_fieldTestInjectionEnds_idle (idle : n ∉ s.hlt.injRunning ∨ 0 < (s.fchan n).testLeft) : exec (.fieldTestInjectionEnds n) s = .next s := by
  have stays : ¬((s.hlt.injRunning.contains n && decide ((s.fchan n).testLeft = 0)) = true) := by
    rcases idle with h | h
    · simp [h]
    · simp [Nat.ne_of_gt h]
  rw [exec_fieldTestInjectionEnds, execFieldTestInjectionEnds]
  exact congrArg Host.Outcome.next (if_neg stays)

theorem exec_fieldTestInjectionEnds_runs (running : n ∈ s.hlt.injRunning) (last : (s.fchan n).testLeft = 0) :
    exec (.fieldTestInjectionEnds n) s = .next ((s.endInjection n (s.fchMode n) (s.fchan n).testRaw).suppress n) := by
  have ends : (s.hlt.injRunning.contains n && decide ((s.fchan n).testLeft = 0)) = true := by simp [running, last]
  rw [exec_fieldTestInjectionEnds, execFieldTestInjectionEnds]
  exact congrArg Host.Outcome.next (if_pos ends)

/-- R480: the injections that have failed in a row, after one that passes or fails. -/
def State.failsAfter (s : State) (n : Nat) (ok : Bool) : Nat := if ok then 0 else aget 0 s.hlt.injFails n + 1

/-- R480: an injection judged, before its report. -/
def State.injectionJudged (s : State) (n : Nat) (ok : Bool) : State :=
  { s with hlt := { s.hlt with
    injRunning := remove s.hlt.injRunning n, injChan := n, injPassed := ok,
    injFails := if ok then adel s.hlt.injFails n else aset s.hlt.injFails n (s.failsAfter n ok) } }

theorem State.endInjection_eq (s : State) (n m : Nat) (x : Int) : s.endInjection n m x =
    if s.failsAfter n (injectionPasses m x) = 2 then ((s.injectionJudged n (injectionPasses m x)).event F_HLT_EVENT_INJ_EVT).raise 0x0C0B (pay [n])
    else s.injectionJudged n (injectionPasses m x) := rfl

/-- The fields of the report of a failed injection. -/
def injFields : List Fld := F_HLT_EVENT_INJ_EVT :: recFields

theorem State.endInjection_changes (sound : s.Sound) (n m : Nat) (x : Int) : Changes [.alarms, .rcd, .hlt, .regs] injFields [0x0C0B] s (s.endInjection n m x) := by
  have judged : Changes [.alarms, .rcd, .hlt, .regs] injFields [0x0C0B] s (s.injectionJudged n (injectionPasses m x)) := (Changes.refl sound).upd _
  rw [State.endInjection_eq]
  exact .ite (fun _ => (judged.event _ rfl (by simp [injFields])).raise _ _ (hf := fun f hf => List.mem_cons_of_mem _ hf)) fun _ => judged

theorem State.endInjection_hlt (s : State) (n m : Nat) (x : Int) : (s.endInjection n m x).hlt = (s.injectionJudged n (injectionPasses m x)).hlt := by
  rw [State.endInjection_eq]
  split
  · exact ((State.raise_acts ..).frame .hlt rfl).trans ((State.event_acts ..).frame .hlt rfl)
  · rfl

theorem State.endInjection_passes {m : Nat} (pass : injectionPasses m x = true) (s : State) (n : Nat) : aget 0 (s.endInjection n m x).hlt.injFails n = 0 ∧
    (s.endInjection n m x).alarms = s.alarms := by
  refine ⟨?_, ?_⟩
  · rw [State.endInjection_hlt, pass]
    exact aget_adel_self
  · rw [State.endInjection_eq, pass, State.failsAfter, if_pos rfl, if_neg (by omega)]
    rfl

theorem State.endInjection_second {m : Nat} (fail : injectionPasses m x = false) (once : aget 0 s.hlt.injFails n = 1) :
    aget 0 (s.endInjection n m x).hlt.injFails n = 2 ∧ (s.endInjection n m x).Alarmed 0x0C0B := by
  have second : s.failsAfter n false = 2 := by rw [State.failsAfter, if_neg (by simp), once]
  refine ⟨?_, ?_⟩
  · rw [State.endInjection_hlt, fail]
    exact aget_aset_self.trans second
  · rw [State.endInjection_eq, fail, if_pos second]
    exact (alarm_raise ..).trans (if_pos rfl)

theorem State.suppress_eq (s : State) (n : Nat) : s.suppress n =
    (s.setFchan n fun c => { c with settle := respSettling (s.fchResp n), newest := none, cand := none, lastAt := 0 }).unsettled n := rfl

/-- What the suppression of channel `n` leaves. -/
structure Suppressed (s t : State) (n : Nat) : Prop where
  settle : (t.fchan n).settle = respSettling (s.fchResp n)
  settled : t.flag (F_FCH_STATUS_SETTLED n) = false
  changes : Changes [.fch, .regs] (settleFields n) [] s t

theorem State.suppress_suppresses (sound : s.Sound) (n : Nat) : Suppressed s (s.suppress n) n := by
  have settle : ((s.setFchan n fun c => { c with settle := respSettling (s.fchResp n), newest := none, cand := none, lastAt := 0 }).fchan n).settle =
    respSettling (s.fchResp n) := by rw [State.setFchan_fchan]
  have changed : Changes [.fch, .regs] (settleFields n) [] s
    (s.setFchan n fun c => { c with settle := respSettling (s.fchResp n), newest := none, cand := none, lastAt := 0 }) := (Changes.refl sound).acts (State.setFchan_acts ..)
  rw [State.suppress_eq]
  generalize State.setFchan s n _ = v at *
  have shown := State.unsettled_changes changed.sound n
  refine ⟨?_, (State.unsettled_flags changed.sound n).1, changed.trans (shown.mono)⟩
  rw [State.fchan_of_fch (shown.frame .fch (by simp))]
  exact settle

/-- What the end of an injection into channel `n` leaves. -/
structure InjectionEnded (s t : State) (n : Nat) (ok : Bool) : Prop where
  reconnected : n ∉ t.hlt.injRunning
  chan : t.hlt.injChan = n
  passed : t.hlt.injPassed = ok
  settle : (t.fchan n).settle = respSettling (s.fchResp n)
  settled : t.flag (F_FCH_STATUS_SETTLED n) = false
  good : ok = true → aget 0 t.hlt.injFails n = 0 ∧ t.alarms = s.alarms
  second : ok = false → aget 0 s.hlt.injFails n = 1 → aget 0 t.hlt.injFails n = 2 ∧ t.Alarmed 0x0C0B
  frame : Frame [.alarms, .rcd, .hlt, .fch, .regs] s t

theorem resp_apart (channel : n < 128) : ∀ f ∈ injFields, f.apart (F_FCH_CFG_RESP n) := by
  have away (a : Nat) (low : a < 0x100000 ∨ 0x108000 ≤ a) : (F_FCH_CFG_RESP n).addr ≠ a := by
    show 0x100000 + 256 * n ≠ a
    omega
  simp only [injFields, recFields, List.forall_mem_cons]
  exact ⟨.inl (away _ (by decide)), .inl (away _ (by decide)), .inl (away _ (by decide)), by simp⟩

theorem State.endInjection_ends (sound : s.Sound) (channel : n < 128) (m : Nat) (x : Int) :
    InjectionEnded s ((s.endInjection n m x).suppress n) n (injectionPasses m x) := by
  have ended := State.endInjection_changes sound n m x
  have hlt := s.endInjection_hlt n m x
  have good (pass : injectionPasses m x = true) := State.endInjection_passes pass s n
  have second (fail : injectionPasses m x = false) (once : aget 0 s.hlt.injFails n = 1) := State.endInjection_second fail once
  have resp : (s.endInjection n m x).fchResp n = s.fchResp n := ended.fld _ rfl (resp_apart channel)
  generalize s.endInjection n m x = v at *
  have suppressed := State.suppress_suppresses ended.sound n
  have kept : (v.suppress n).hlt = v.hlt := suppressed.changes.frame .hlt (by simp)
  have alarms : (v.suppress n).alarms = v.alarms := suppressed.changes.frame .alarms (by simp)
  refine ⟨?_, ?_, ?_, resp ▸ suppressed.settle, suppressed.settled, fun pass => ?_, fun fail once => ?_,
    (ended.frame.mono (by simp)).trans (suppressed.changes.frame.mono (by simp))⟩
  · rw [kept, hlt]
    exact fun h => (mem_remove.mp h).2 rfl
  · rw [kept, hlt]
    rfl
  · rw [kept, hlt]
    rfl
  · rw [kept, alarms]
    exact good pass
  · rw [kept, State.Alarmed, State.alarm?, alarms]
    exact second fail once

end

end Sys2Proof.Machine

/-! The loop engine (R194 to R200): a sample of a slot that does not drive, and the faults of a slot. -/
namespace Sys2Proof.Machine
set_option Elab.async false

section
variable {s t u r : State} {n k j c a b e i code : Nat} {ev : Fld}

theorem maskBit_fits (a i : Nat) : (maskBit a i).fits = true := by
  have low : i % 32 < 32 := Nat.mod_lt _ (by omega)
  simp [maskBit, Fld.fits, low]

theorem State.setLoop_loop (s : State) (n : Nat) (f : LoopSlot → LoopSlot) : (s.setLoop n f).loop n = f (s.loop n) := aget_aset_self

theorem State.setLoop_loop_other (other : j ≠ n) (s : State) (f : LoopSlot → LoopSlot) : (s.setLoop n f).loop j = s.loop j := aget_aset_other other

/-- Every slot but `k` stays, and so does the device; what is sent stays where the device does not hold the Ladle. -/
structure SlotsKept (k : Nat) (s t : State) : Prop where
  others : ∀ j, j ≠ k → t.loop j = s.loop j
  dev : t.dev = s.dev
  quiet : s.holds = false → t.out = s.out

/-- The samples, the timers and the faults of slot `k` stay. -/
structure SameSample (k : Nat) (s t : State) : Prop where
  samples : (t.loop k).samples = (s.loop k).samples
  uPrev : (t.loop k).uPrev = (s.loop k).uPrev
  fbPrev : (t.loop k).fbPrev = (s.loop k).fbPrev
  fe : (t.loop k).fe = (s.loop k).fe
  pl : (t.loop k).pl = (s.loop k).pl
  feFault : (t.loop k).feFault = (s.loop k).feFault
  plFault : (t.loop k).plFault = (s.loop k).plFault

theorem SameSample.of_loop (same : t.loop k = s.loop k) : SameSample k s t := by constructor <;> rw [same]

theorem SameSample.trans (h : SameSample k s t) (g : SameSample k t u) : SameSample k s u :=
  ⟨g.samples.trans h.samples, g.uPrev.trans h.uPrev, g.fbPrev.trans h.fbPrev, g.fe.trans h.fe, g.pl.trans h.pl, g.feFault.trans h.feFault, g.plFault.trans h.plFault⟩

theorem State.loop_of_loops (same : t.loops = s.loops) (k : Nat) : t.loop k = s.loop k := by rw [State.loop, State.loop, same]

namespace SlotsKept

theorem refl (k : Nat) (s : State) : SlotsKept k s s := ⟨fun _ _ => rfl, rfl, fun _ => rfl⟩

theorem trans (h : SlotsKept k s t) (g : SlotsKept k t u) : SlotsKept k s u where
  others j other := (g.others j other).trans (h.others j other)
  dev := g.dev.trans h.dev
  quiet free := (g.quiet (by rw [← free, State.holds, State.holds, h.dev])).trans (h.quiet free)

theorem acts {m : Nat} (h : Acts m s t) (loops : m.testBit Part.loops.idx = false := by decide) (dev : m.testBit Part.dev.idx = false := by decide)
    (out : m.testBit Part.out.idx = false := by decide) : SlotsKept k s t :=
  ⟨fun j _ => State.loop_of_loops (h.frame .loops loops) j, h.frame .dev dev, fun _ => h.frame .out out⟩

theorem setLoop (k : Nat) (s : State) (f : LoopSlot → LoopSlot) : SlotsKept k s (s.setLoop k f) := ⟨fun _ other => State.setLoop_loop_other other s f, rfl, fun _ => rfl⟩

end SlotsKept

/-! The fault of a slot (R199, R200). -/

theorem State.loopFaultAction_kept (s : State) (k : Nat) : SlotsKept k s (s.loopFaultAction k) := by
  have first : SlotsKept k s (s.setLoop k fun l => { l with halted := 1 }) := SlotsKept.setLoop ..
  unfold State.loopFaultAction
  split
  · next acts =>
    have holds : s.holds = true := by simp only [Bool.and_eq_true] at acts; exact acts.1.1
    refine ⟨fun j other => ?_, ?_, fun free => by simp [holds] at free⟩
    · exact (State.loop_of_loops ((State.ownItem_acts ..).frame .loops rfl) j).trans (first.others j other)
    · exact ((State.ownItem_acts ..).frame .dev rfl).trans first.dev
  · exact .refl k s

theorem State.loopFaultAction_slot (s : State) (k : Nat) : ∃ h, (s.loopFaultAction k).loop k = { s.loop k with halted := h } := by
  unfold State.loopFaultAction
  split
  · refine ⟨1, ?_⟩
    rw [State.loop_of_loops ((State.ownItem_acts ..).frame .loops rfl), State.setLoop_loop]
  · exact ⟨(s.loop k).halted, rfl⟩

theorem State.loopFaultAction_halts (holds : s.holds = true) (acts : s.loopActs k = true) (runs : (s.loop k).halted = 0) : ((s.loopFaultAction k).loop k).halted = 1 := by
  unfold State.loopFaultAction
  rw [if_pos (by simp [holds, acts, runs]), State.loop_of_loops ((State.ownItem_acts ..).frame .loops rfl), State.setLoop_loop]

/-- A fault of slot `k`: its mark `f`, its event, its alarm, what it does on the device that holds the Ladle, and the FAULT bit. -/
def State.loopFails (s : State) (k : Nat) (f : LoopSlot → LoopSlot) (ev : Fld) (code : Nat) : State :=
  ((((s.setLoop k f).event ev).raise code (pay [k])).loopFaultAction k).showLoop k

theorem State.showLoop_kept (s : State) (k : Nat) : SlotsKept k s (s.showLoop k) := .acts (State.showLoop_acts ..)

theorem State.loop_showLoop (s : State) (k j : Nat) : (s.showLoop k).loop j = s.loop j := State.loop_of_loops ((State.showLoop_acts ..).frame .loops rfl) j

/-- What a fault of slot `k` leaves. -/
structure LoopFailed (s t : State) (k : Nat) (f : LoopSlot → LoopSlot) (ev : Fld) (code : Nat) : Prop where
  slot : ∃ h, t.loop k = { f (s.loop k) with halted := h }
  halts : s.holds = true → s.loopActs k = true → (f (s.loop k)).halted = 0 → (t.loop k).halted = 1
  kept : SlotsKept k s t
  event : t.flag ev = true
  fault : ((f (s.loop k)).feFault || (f (s.loop k)).plFault) = true → t.flag (maskBit A_LOOP_FAULT0 k) = true
  alarmed : t.Alarmed code
  alarms : AlarmsBut [code] s t
  tim : t.tim = s.tim

theorem maskBit_addr (slot : k < 64) (a : Nat) : (maskBit a k).addr = a ∨ (maskBit a k).addr = a + 4 := by
  show a + 4 * (k / 32) = a ∨ a + 4 * (k / 32) = a + 4
  omega

theorem State.loopActs_of_pat (pat : t.pat = s.pat) (k : Nat) : t.loopActs k = s.loopActs k := by
  rw [State.loopActs, State.loopActs, State.loopW, State.loopW, State.parW_of_pat pat]

theorem State.loopFails_fails (sound : s.Sound) (slot : k < 64) (f : LoopSlot → LoopSlot) (fits : ev.fits = true) (own : ev.addr = A_LOOP_EVENT) (code : Nat) :
    LoopFailed s (s.loopFails k f ev code) k f ev code := by
  have marked : Changes [.loops] [] [] s (s.setLoop k f) := (Changes.refl sound).acts (State.setLoop_acts ..)
  have at₁ : (s.setLoop k f).loop k = f (s.loop k) := s.setLoop_loop k f
  have kept₁ : SlotsKept k s (s.setLoop k f) := SlotsKept.setLoop ..
  unfold State.loopFails
  generalize s.setLoop k f = v at *
  have shown : (v.event ev).flag ev = true := flag_event marked.sound ev fits
  have raised : Changes [.alarms, .rcd, .regs] recFields [code] (v.event ev) ((v.event ev).raise code (pay [k])) :=
    (Changes.refl (marked.sound.setFld ev 1)).raise code _ (by simp)
  have alarmed₂ : ((v.event ev).raise code (pay [k])).Alarmed code := (alarm_raise ..).trans (if_pos rfl)
  have alarms₁ (d : Nat) : (v.event ev).alarm? d = v.alarm? d := alarm_of_acts (State.event_acts ..) rfl
  have away : ∀ g ∈ recFields, g.apart ev := by
    simp only [recFields, List.forall_mem_cons]
    exact ⟨.inl (own ▸ by decide), .inl (own ▸ by decide), by simp⟩
  have acts₂ : Acts (partMask [.alarms, .rcd, .regs]) v ((v.event ev).raise code (pay [k])) := ((State.event_acts v ev).mono rfl).step (State.raise_acts ..) rfl
  have flag₂ : ((v.event ev).raise code (pay [k])).flag ev = true := (raised.flag ev fits away).trans shown
  have alarms₂ (d : Nat) (hd : d ∉ [code]) : ((v.event ev).raise code (pay [k])).alarm? d = v.alarm? d := (raised.alarms d hd).trans (alarms₁ d)
  have sound₂ := raised.sound
  generalize (v.event ev).raise code (pay [k]) = w at *
  have kept₂ : SlotsKept k v w := .acts acts₂
  have at₂ : w.loop k = f (s.loop k) := (State.loop_of_loops (acts₂.frame .loops rfl) k).trans at₁
  have dev₂ : w.dev = s.dev := kept₂.dev.trans kept₁.dev
  have pat₂ : w.pat = s.pat := (acts₂.frame .pat rfl).trans (marked.frame .pat (by simp))
  have tim₂ : w.tim = s.tim := (acts₂.frame .tim rfl).trans (marked.frame .tim (by simp))
  have kept₃ := w.loopFaultAction_kept k
  have acts₃ := State.loopFaultAction_acts w k
  have halts₃ (holds : s.holds = true) (may : s.loopActs k = true) (runs : (f (s.loop k)).halted = 0) : ((w.loopFaultAction k).loop k).halted = 1 :=
    State.loopFaultAction_halts (by rw [← holds, State.holds, State.holds, dev₂]) ((State.loopActs_of_pat pat₂ k).trans may) (at₂ ▸ runs)
  obtain ⟨h, at₃⟩ := w.loopFaultAction_slot k
  rw [at₂] at at₃
  have sound₃ := acts₃.sound sound₂
  have flag₃ : (w.loopFaultAction k).flag ev = true := (State.flag_of_regs (acts₃.frame .regs rfl) ev).trans flag₂
  have alarms₃ (d : Nat) : (w.loopFaultAction k).alarm? d = w.alarm? d := alarm_of_acts acts₃ rfl
  have tim₃ : (w.loopFaultAction k).tim = s.tim := (acts₃.frame .tim rfl).trans tim₂
  generalize w.loopFaultAction k = x at *
  have alarms₄ (d : Nat) : (x.showLoop k).alarm? d = x.alarm? d := alarm_of_acts (State.showLoop_acts ..) rfl
  refine ⟨⟨h, (x.loop_showLoop k k).trans at₃⟩, fun holds may runs => (x.loop_showLoop k k) ▸ halts₃ holds may runs,
    ((kept₁.trans kept₂).trans kept₃).trans (x.showLoop_kept k), ?_, fun faulty => ?_, ?_, fun d hd => ?_, ((State.showLoop_acts ..).frame .tim rfl).trans tim₃⟩
  · refine (flag_setFlag_other sound₃ _ ev _ (maskBit_fits ..) fits (.inl ?_)).trans flag₃
    rw [own]
    rcases maskBit_addr slot A_LOOP_FAULT0 with h | h <;> rw [h] <;> decide
  · rw [State.showLoop, flag_setFlag sound₃ _ _ (maskBit_fits ..), State.loopFaulty, at₃]
    exact Bool.or_eq_true_iff.mpr (.inl faulty)
  · exact ((alarms₄ code).trans (alarms₃ code)).trans alarmed₂
  · exact ((alarms₄ d).trans (alarms₃ d)).trans ((alarms₂ d hd).trans (marked.alarms d (by simp)))

end

end Sys2Proof.Machine

/-! The samples and the supervision of the loop engine, and what the engines and loops of the field channels do (R194 to R200, R479, R480). -/
namespace Sys2Proof.Machine
set_option Elab.async false

section
variable {s t u r : State} {n k j c a b e i code : Nat} {ev : Fld}

/-! The timers of the supervision (R199). -/

theorem exec_loopFollowingError_idle (idle : (s.loop k).fe = none) : exec (.loopFollowingError k) s = .next s := by
  rw [exec_loopFollowingError, execLoopFollowingError, idle]

theorem exec_loopPlausibility_idle (idle : (s.loop k).pl = none) : exec (.loopPlausibility k) s = .next s := by
  rw [exec_loopPlausibility, execLoopPlausibility, idle]

/-- R199: the slot has a following error. -/
def LoopSlot.follows (l : LoopSlot) : LoopSlot := { l with feFault := true }

/-- R199: the slot has a plausibility error. -/
def LoopSlot.implausible (l : LoopSlot) : LoopSlot := { l with plFault := true }

theorem exec_loopFollowingError_fails (since : (s.loop k).fe = some a) (first : (s.loop k).feFault = false) :
    exec (.loopFollowingError k) s =
      .next ((s.reachEl (a + bits (s.loopW k 11) 15 0 * ms)).loopFails k LoopSlot.follows F_LOOP_EVENT_FE 0x1401) := by
  rw [exec_loopFollowingError, execLoopFollowingError, since]
  exact congrArg Host.Outcome.next (if_neg (by simp [first]))

theorem exec_loopPlausibility_fails (since : (s.loop k).pl = some a) (first : (s.loop k).plFault = false) :
    exec (.loopPlausibility k) s =
      .next ((s.reachEl (a + bits (s.loopW k 11) 31 16 * ms)).loopFails k LoopSlot.implausible F_LOOP_EVENT_PL 0x1402) := by
  rw [exec_loopPlausibility, execLoopPlausibility, since]
  exact congrArg Host.Outcome.next (if_neg (by simp [first]))

/-- What a fault of slot `k` leaves that comes at the elapsed time `e`. -/
structure LoopFailedAt (s t : State) (k e : Nat) (f : LoopSlot → LoopSlot) (ev : Fld) (code : Nat) : Prop where
  slot : ∃ h, t.loop k = { f (s.loop k) with halted := h }
  event : t.flag ev = true
  fault : ((f (s.loop k)).feFault || (f (s.loop k)).plFault) = true → t.flag (maskBit A_LOOP_FAULT0 k) = true
  alarmed : t.Alarmed code
  alarms : AlarmsBut [code] s t
  time : t.tim.el = Nat.max s.tim.el e
  others : ∀ j, j ≠ k → t.loop j = s.loop j
  halts : s.holds = true → s.loopActs k = true → (f (s.loop k)).halted = 0 → (t.loop k).halted = 1

theorem State.loopFails_reached (sound : s.Sound) (slot : k < 64) (f : LoopSlot → LoopSlot) (fits : ev.fits = true) (own : ev.addr = A_LOOP_EVENT) (code e : Nat) :
    LoopFailedAt s ((s.reachEl e).loopFails k f ev code) k e f ev code := by
  have moved := s.reachEl_frame e
  have time := s.reachEl_max e
  have sound₁ := (State.reachEl_acts s e).sound sound
  generalize s.reachEl e = r at *
  have failed := State.loopFails_fails sound₁ slot f fits own code
  have loop (j : Nat) : r.loop j = s.loop j := State.loop_of_loops (moved .loops (by simp)) j
  have holds : r.holds = s.holds := by rw [State.holds, State.holds, moved .dev (by simp)]
  have may : r.loopActs k = s.loopActs k := State.loopActs_of_pat (moved .pat (by simp)) k
  refine ⟨loop k ▸ failed.slot, failed.event, loop k ▸ failed.fault, failed.alarmed, fun d hd => (failed.alarms d hd).trans ?_, failed.tim ▸ time,
    fun j other => (failed.kept.others j other).trans (loop j), ?_⟩
  · rw [State.alarm?, State.alarm?, moved .alarms (by simp)]
  · rw [← holds, ← may, ← loop k]
    exact failed.halts

/-! A sample of a slot that does not drive (R194 to R199). -/

/-- The fields that a sample of slot `k` writes but DRIVE and CLAMP. -/
def loopFields (k : Nat) : List Fld :=
  [F_LOOP_SLOT_SP_VALUE k, F_LOOP_SLOT_FB_VALUE k, F_LOOP_SLOT_OUT_VALUE k, F_LOOP_EVENT_CH_FAULT, maskBit A_LOOP_FAULT0 k] ++ recFields

/-- R195 to R197: a sample published, of a slot that does not drive. -/
def State.samplePublished (s : State) (k : Nat) (sp fb out : Int) : State :=
  ((((s.setInt (F_LOOP_SLOT_SP_VALUE k) sp).setInt (F_LOOP_SLOT_FB_VALUE k) fb).setInt (F_LOOP_SLOT_OUT_VALUE k) out).setFlag (maskBit A_LOOP_CLAMP0 k) false).setFlag
    (maskBit A_LOOP_DRIVE0 k) false

theorem State.loopStep_idle (idle : s.loopDriving = false) (k : Nat) : ∃ (f g : LoopSlot → LoopSlot) (sp e p : Int),
    s.loopStep k = (((((((s.setLoop k f).setLoop k g).samplePublished k sp (s.loopFb k) (s.loopRb k)).loopTests k e p false).loopChannel k).showLoop k)).loopCauses ∧
    (∀ l, (f l).samples = l.samples + 1) ∧ ∀ l, (g l).samples = l.samples ∧ (g l).uPrev = s.loopRb k ∧ (g l).fbPrev = s.loopFb k := by
  unfold State.loopStep
  extract_lets v l ts w sp fb er slope df iTry base rest x driving stopped lim out i lag s1 s2 s3 s4
  have rests : driving = false := idle
  have reads : out = s.loopRb k := if_neg (by simp [rests])
  have clamped : (driving && out != x) = false := by rw [rests, Bool.false_and]
  have published : s3 = s1.samplePublished k sp (s.loopFb k) (s.loopRb k) := by
    show ((((s1.setInt _ sp).setInt _ (s.loopFb k)).setInt _ out).setFlag _ (driving && out != x)).setFlag _ driving = _
    rw [clamped, rests, reads, State.samplePublished]
  have tested : s4 = ((s1.samplePublished k sp (s.loopFb k) (s.loopRb k)).loopTests k er (fb - lag) false).loopChannel k := by
    show (s3.loopTests k er (fb - lag) driving).loopChannel k = _
    rw [published, rests]
  refine ⟨fun l => { l with samples := l.samples + 1, lastAt := s.tim.wt, halted := haltAfter (s.thr (s.loopThr k)).avail l.halted },
    fun k => { k with i := i, uPrev := out, fbPrev := fb, df := df, lag := lag }, sp, er, fb - lag, ?_, fun _ => rfl, fun _ => ⟨rfl, reads, rfl⟩⟩
  rw [if_neg (by simp [rests]), tested]

theorem State.loopTests_rests (s : State) (k : Nat) (x y : Int) : ((s.loopTests k x y false).loop k).fe = none ∧ ((s.loopTests k x y false).loop k).pl = none ∧
    ((s.loopTests k x y false).loop k).feFault = false ∧ ((s.loopTests k x y false).loop k).plFault = false ∧
    ((s.loopTests k x y false).loop k).samples = (s.loop k).samples ∧ ((s.loopTests k x y false).loop k).uPrev = (s.loop k).uPrev ∧
    ((s.loopTests k x y false).loop k).fbPrev = (s.loop k).fbPrev := by
  unfold State.loopTests
  rw [State.setLoop_loop]
  simp

theorem State.loopTests_kept (s : State) (k : Nat) (x y : Int) : SlotsKept k s (s.loopTests k x y false) := by
  unfold State.loopTests
  exact SlotsKept.setLoop ..

theorem State.loopChannel_same (s : State) (k : Nat) : SameSample k s (s.loopChannel k) ∧ SlotsKept k s (s.loopChannel k) := by
  unfold State.loopChannel
  extract_lets bad was v
  have first : SameSample k s v := by constructor <;> rw [State.setLoop_loop]
  have kept : SlotsKept k s v := SlotsKept.setLoop ..
  split
  · have acts : Acts (partMask [.alarms, .rcd, .regs]) v ((v.event F_LOOP_EVENT_CH_FAULT).raise 0x1403 (pay [k])) :=
      ((State.event_acts v F_LOOP_EVENT_CH_FAULT).mono rfl).step (State.raise_acts ..) rfl
    generalize (v.event F_LOOP_EVENT_CH_FAULT).raise 0x1403 (pay [k]) = w at *
    obtain ⟨h, slot⟩ := w.loopFaultAction_slot k
    have action : SameSample k w (w.loopFaultAction k) := by constructor <;> rw [slot]
    exact ⟨(first.trans (.of_loop (State.loop_of_loops (acts.frame .loops rfl) k))).trans action, (kept.trans (.acts acts)).trans (w.loopFaultAction_kept k)⟩
  · exact ⟨first, kept⟩

theorem mem_loopFields {f : Fld} (h : f ∈ recFields) : f ∈ loopFields k := List.mem_append_right _ h

theorem State.loopChannel_changes (sound : s.Sound) (k : Nat) : Changes [.alarms, .rcd, .agr, .twn, .loops, .regs, .out] (loopFields k) [0x1403] s (s.loopChannel k) := by
  unfold State.loopChannel
  extract_lets bad was v
  have first : Changes [.alarms, .rcd, .agr, .twn, .loops, .regs, .out] (loopFields k) [0x1403] s v := (Changes.refl sound).acts (State.setLoop_acts ..)
  exact .ite (fun _ => ((first.event _ rfl (by simp [loopFields])).raise _ _ (hf := fun f => mem_loopFields)).acts (State.loopFaultAction_acts ..)) fun _ => first

theorem State.loopCauses_changes (sound : s.Sound) (k : Nat) :
    Changes [.alarms, .rcd, .agr, .twn, .loops, .regs, .out] (loopFields k) [0x1401, 0x1402, 0x1403] s s.loopCauses := by
  have gone (c : Nat) (hc : c ∈ [0x1401, 0x1402, 0x1403]) (v : State)
      (h : Changes [.alarms, .rcd, .agr, .twn, .loops, .regs, .out] (loopFields k) [0x1401, 0x1402, 0x1403] s v) (p : Bool) :
      Changes [.alarms, .rcd, .agr, .twn, .loops, .regs, .out] (loopFields k) [0x1401, 0x1402, 0x1403] s (if p then v.causeGone c else v) :=
    .ite (fun _ => h.causeGone c hc (fun f => mem_loopFields)) fun _ => h
  unfold State.loopCauses
  exact gone _ (by simp) _ (gone _ (by simp) _ (gone _ (by simp) _ (.refl sound) _) _) _

theorem loopFields_apart (slot : k < 64) : (∀ f ∈ loopFields k, f.apart (maskBit A_LOOP_CLAMP0 k)) ∧ ∀ f ∈ loopFields k, f.apart (maskBit A_LOOP_DRIVE0 k) := by
  have away (m : Nat) (base : m = A_LOOP_CLAMP0 ∨ m = A_LOOP_DRIVE0) (x : Nat) (hx : x ≤ A_LOOP_EVENT ∨ 0x481000 ≤ x) : (maskBit m k).addr ≠ x := by
    show m + 4 * (k / 32) ≠ x
    have low : A_LOOP_EVENT = 0x480008 ∧ A_LOOP_CLAMP0 = 0x480018 ∧ A_LOOP_DRIVE0 = 0x480020 := ⟨rfl, rfl, rfl⟩
    omega
  have fault (m : Nat) (base : m = A_LOOP_CLAMP0 ∨ m = A_LOOP_DRIVE0) : (maskBit m k).addr ≠ (maskBit A_LOOP_FAULT0 k).addr := by
    show m + 4 * (k / 32) ≠ A_LOOP_FAULT0 + 4 * (k / 32)
    have low : A_LOOP_FAULT0 = 0x480010 ∧ A_LOOP_CLAMP0 = 0x480018 ∧ A_LOOP_DRIVE0 = 0x480020 := ⟨rfl, rfl, rfl⟩
    omega
  have all (m : Nat) (base : m = A_LOOP_CLAMP0 ∨ m = A_LOOP_DRIVE0) : ∀ f ∈ loopFields k, f.apart (maskBit m k) := by
    have shown (o : Nat) : A_LOOP_EVENT ≤ 0x480008 ∧ 0x481000 ≤ 0x481000 + 64 * k + o := ⟨Nat.le_refl _, by omega⟩
    simp only [loopFields, recFields, List.cons_append, List.nil_append, List.forall_mem_cons]
    refine ⟨.inl (away m base _ (.inr ?_)), .inl (away m base _ (.inr ?_)), .inl (away m base _ (.inr ?_)), .inl (away m base _ (.inl (Nat.le_refl _))),
      .inl (fault m base), .inl (away m base _ (.inl (by decide))), .inl (away m base _ (.inl (by decide))), by simp⟩
    · show 0x481000 ≤ 0x481034 + 64 * k
      omega
    · show 0x481000 ≤ 0x481038 + 64 * k
      omega
    · show 0x481000 ≤ 0x48103c + 64 * k
      omega
  exact ⟨all _ (.inl rfl), all _ (.inr rfl)⟩

/-- What a sample of slot `k` leaves that does not drive. -/
structure LoopSampled (s t : State) (k : Nat) : Prop where
  samples : (t.loop k).samples = (s.loop k).samples + 1
  uPrev : (t.loop k).uPrev = s.loopRb k
  fbPrev : (t.loop k).fbPrev = s.loopFb k
  fe : (t.loop k).fe = none
  pl : (t.loop k).pl = none
  feFault : (t.loop k).feFault = false
  plFault : (t.loop k).plFault = false
  drive : t.flag (maskBit A_LOOP_DRIVE0 k) = false
  clamp : t.flag (maskBit A_LOOP_CLAMP0 k) = false
  kept : SlotsKept k s t

theorem State.samplePublished_flags (sound : s.Sound) (k : Nat) (x y z : Int) : (s.samplePublished k x y z).flag (maskBit A_LOOP_DRIVE0 k) = false ∧
    (s.samplePublished k x y z).flag (maskBit A_LOOP_CLAMP0 k) = false ∧ (s.samplePublished k x y z).Sound := by
  have shown := ((sound.setFld (F_LOOP_SLOT_SP_VALUE k) (intWord x).toNat).setFld (F_LOOP_SLOT_FB_VALUE k) (intWord y).toNat).setFld (F_LOOP_SLOT_OUT_VALUE k) (intWord z).toNat
  have clamped := shown.setFlag (maskBit A_LOOP_CLAMP0 k) false
  have apart : (maskBit A_LOOP_CLAMP0 k).addr ≠ (maskBit A_LOOP_DRIVE0 k).addr := by
    show 0x480018 + 4 * (k / 32) ≠ 0x480020 + 4 * (k / 32)
    omega
  exact ⟨flag_setFlag clamped _ _ (maskBit_fits ..),
    (flag_setFlag_other clamped _ _ _ (maskBit_fits ..) (maskBit_fits ..) (.inl apart)).trans (flag_setFlag shown _ _ (maskBit_fits ..)), clamped.setFlag _ _⟩

theorem State.loopStep_samples (sound : s.Sound) (slot : k < 64) (idle : s.loopDriving = false) : LoopSampled s (s.loopStep k) k := by
  obtain ⟨f, g, sp, er, p, shape, counts, values⟩ := State.loopStep_idle idle k
  rw [shape]
  have kept₁ : SlotsKept k s ((s.setLoop k f).setLoop k g) := (SlotsKept.setLoop k s f).trans (SlotsKept.setLoop ..)
  have sound₁ : ((s.setLoop k f).setLoop k g).Sound := (State.setLoop_acts ..).sound ((State.setLoop_acts ..).sound sound)
  have at₁ : ((s.setLoop k f).setLoop k g).loop k = g (f (s.loop k)) := by rw [State.setLoop_loop, State.setLoop_loop]
  generalize (s.setLoop k f).setLoop k g = v₁ at *
  have acts₂ : Acts (partMask [.regs]) v₁ (v₁.samplePublished k sp (s.loopFb k) (s.loopRb k)) :=
    (((((State.setInt_acts v₁ _ sp).mono rfl).step (State.setInt_acts ..) rfl).step (State.setInt_acts ..) rfl).step (State.setFlag_acts ..) rfl).step
      (State.setFlag_acts ..) rfl
  obtain ⟨drive₂, clamp₂, sound₂⟩ := State.samplePublished_flags sound₁ k sp (s.loopFb k) (s.loopRb k)
  have at₂ := (State.loop_of_loops (acts₂.frame .loops rfl) k).trans at₁
  have kept₂ := kept₁.trans (.acts acts₂)
  generalize v₁.samplePublished k sp (s.loopFb k) (s.loopRb k) = v₂ at *
  obtain ⟨fe, pl, feFault, plFault, samples, uPrev, fbPrev⟩ := v₂.loopTests_rests k er p
  have tests : Changes [.loops] [] [] v₂ (v₂.loopTests k er p false) := (Changes.refl sound₂).acts (State.loopTests_acts ..)
  have kept₃ : SlotsKept k s (v₂.loopTests k er p false) := kept₂.trans (v₂.loopTests_kept k er p)
  rw [at₂] at samples uPrev fbPrev
  generalize v₂.loopTests k er p false = v₃ at *
  obtain ⟨same₄, kept₄⟩ := v₃.loopChannel_same k
  have channel := State.loopChannel_changes tests.sound k
  have kept₅ := ((kept₃.trans kept₄).trans (State.showLoop_kept _ k)).trans
    (.acts ((State.loopCauses_acts ((v₃.loopChannel k).showLoop k)).mono (m := partMask [.alarms, .rcd, .regs]) rfl))
  have all : Changes [.alarms, .rcd, .agr, .twn, .loops, .regs, .out] (loopFields k) [0x1401, 0x1402, 0x1403] v₃ (((v₃.loopChannel k).showLoop k).loopCauses) :=
    ((channel.mono (hc := by simp)).setFlag _ _ (maskBit_fits ..) (by simp [loopFields])).trans (State.loopCauses_changes ((State.showLoop_acts ..).sound channel.sound) k)
  have same₅ : SameSample k v₃ (((v₃.loopChannel k).showLoop k).loopCauses) :=
    same₄.trans (.of_loop ((State.loop_of_loops ((State.loopCauses_acts ..).frame .loops rfl) k).trans (State.loop_showLoop ..)))
  generalize ((v₃.loopChannel k).showLoop k).loopCauses = v₅ at *
  obtain ⟨apartC, apartD⟩ := loopFields_apart slot
  obtain ⟨gs, gu, gf⟩ := values (f (s.loop k))
  exact ⟨same₅.samples.trans (samples.trans (gs.trans (counts _))), same₅.uPrev.trans (uPrev.trans gu), same₅.fbPrev.trans (fbPrev.trans gf),
    same₅.fe.trans fe, same₅.pl.trans pl, same₅.feFault.trans feFault, same₅.plFault.trans plFault,
    (all.flag _ (maskBit_fits ..) apartD).trans ((tests.flag _ (maskBit_fits ..) (by simp)).trans drive₂),
    (all.flag _ (maskBit_fits ..) apartC).trans ((tests.flag _ (maskBit_fits ..) (by simp)).trans clamp₂), kept₅⟩

theorem exec_loopSample_off (off : s.loopOn k = false) : exec (.loopSample k) s = .next s := by
  rw [exec_loopSample, execLoopSample, if_neg (by simp [off])]

theorem State.loopRb_reached (e k : Nat) : (s.reach e).loopRb k = s.loopRb k := rfl

theorem State.loopFb_reached (e k : Nat) : (s.reach e).loopFb k = s.loopFb k := rfl

theorem State.reach_kept (s : State) (e k : Nat) : SlotsKept k s (s.reach e) := .acts (s.reach_acts e)

theorem exec_loopSample_samples (sound : s.Sound) (slot : k < 64) (on : s.loopOn k = true) (idle : s.loopDriving = false) :
    ∃ t, exec (.loopSample k) s = .next t ∧ LoopSampled s t k := by
  have runs : exec (.loopSample k) s = .next ((s.reach (if (s.loop k).samples = 0 then
      (s.tim.wt + s.loopPeriod k * 1000 - 1) / (s.loopPeriod k * 1000) * (s.loopPeriod k * 1000)
      else ((s.loop k).lastAt / (s.loopPeriod k * 1000) + 1) * (s.loopPeriod k * 1000))).loopStep k) := by
    rw [exec_loopSample, execLoopSample, if_pos on]
  refine ⟨_, runs, ?_⟩
  generalize (if (s.loop k).samples = 0 then _ else _ : Nat) = e
  have sampled := State.loopStep_samples (s := s.reach e) ((s.reach_acts e).sound sound) slot idle
  exact ⟨sampled.samples, sampled.uPrev, sampled.fbPrev, sampled.fe, sampled.pl, sampled.feFault, sampled.plFault, sampled.drive, sampled.clamp,
    (s.reach_kept e k).trans sampled.kept⟩

end

/-- Settles O41: shadows, tests of the spares and injections end with their results, and a slot samples and fails as its timers say. -/
theorem enginesAreSparedAndLoopsSupervised : Obligations.EnginesAreSparedAndLoopsSupervised := by
  unfold Obligations.EnginesAreSparedAndLoopsSupervised
  refine ⟨fun k s cluster free idle past => ⟨_, exec_engineShadowEnd_runs cluster free idle past true, State.rotationMoved_moves (s.checkEnds_ends (16 + k) sec)⟩,
    fun k s cluster free idle past => ⟨_, exec_engineShadowEnd_runs cluster free idle past false, State.spareTest_starts (s.checkEnds_ends (16 + k) sec)⟩,
    fun k f s idle => exec_engineShadowEnd_idle idle f, fun k j s sound _ _ testing => ⟨_, exec_engineTestEnd_runs testing true, ?_⟩,
    fun k j s sound _ _ testing => ⟨_, exec_engineTestEnd_runs testing false, ?_⟩, fun k f s idle => exec_engineTestEnd_idle idle f,
    fun n s sound past used tested idle => ⟨_, exec_fieldTestInjection_runs past used tested idle, ?_⟩,
    fun n x s sound channel running last raw => ⟨_, exec_fieldTestInjectionEnds_runs running last, ?_⟩, fun n s idle => exec_fieldTestInjectionEnds_idle idle,
    fun k s off => exec_loopSample_off off, fun k s sound slot on idle first => ?_, fun k a s sound slot since first => ⟨_, exec_loopFollowingError_fails since first, ?_⟩,
    fun k a s sound slot since first => ⟨_, exec_loopPlausibility_fails since first, ?_⟩, fun k s => ⟨exec_loopFollowingError_idle, exec_loopPlausibility_idle⟩⟩
  · have h := State.engineReplaced_replaces (s.checkEnds_ends (16 + k) (10 * ms)) (CheckEnded.sound sound rfl) j
    obtain ⟨⟨idle, next, taken, time⟩, member, spare, event, retired, replaced, alarms, frame⟩ := h
    exact ⟨idle, next, taken, member, spare, event, retired, replaced, time, alarms, frame⟩
  · have h := State.spareRetired_retires (c := 16 * k + (s.checkEnds (16 + k) (10 * ms)).engineUnderTest k) (s.checkEnds_ends (16 + k) (10 * ms)) (CheckEnded.sound sound rfl) j
    exact ⟨h.idle, h.taken, h.member, h.alarmed, h.alarms, h.frame⟩
  · have h := State.injected_starts (s.checkEnds_ends (64 + n) (s.injectionInterval n)) (CheckEnded.sound sound rfl) idle
    exact ⟨h.running, h.settled, h.left, h.time, h.valid, h.frame, h.fields⟩
  · subst raw
    have h := State.endInjection_ends sound channel (s.fchMode n) (s.fchan n).testRaw
    exact ⟨h.reconnected, h.chan, h.passed, h.settle, h.settled, h.good, h.second, h.frame⟩
  · obtain ⟨t, runs, h⟩ := exec_loopSample_samples sound slot on idle
    exact ⟨t, runs, by rw [h.samples, first], h.uPrev, h.fbPrev, h.fe, h.pl, h.feFault, h.plFault, h.drive, h.clamp, h.kept.others, h.kept.quiet⟩
  · have h := State.loopFails_reached sound slot LoopSlot.follows (ev := F_LOOP_EVENT_FE) rfl rfl 0x1401 (a + bits (s.loopW k 11) 15 0 * ms)
    obtain ⟨x, halted⟩ := h.slot
    exact ⟨by rw [halted]; rfl, h.event, h.fault (by simp [LoopSlot.follows]), h.alarmed, h.alarms, h.time, h.others, h.halts⟩
  · have h := State.loopFails_reached sound slot LoopSlot.implausible (ev := F_LOOP_EVENT_PL) rfl rfl 0x1402 (a + bits (s.loopW k 11) 31 16 * ms)
    obtain ⟨x, halted⟩ := h.slot
    exact ⟨by rw [halted]; rfl, h.event, h.fault (by simp [LoopSlot.implausible]), h.alarmed, h.alarms, h.time, h.others⟩

end Sys2Proof.Machine

/-! HELLO (R275) and the start of a device alone in boot step 11 (R277). -/
namespace Sys2Proof.Machine
set_option Elab.async false

section
variable {s t u r : State} {n k e i v : Nat} {g : TwinHeader} {h : Hello}

theorem State.par_of_pat (pat : t.pat = s.pat) (p k : Nat) : t.par p k = s.par p k := by rw [State.par, State.par, State.parW_of_pat pat]

theorem takesFrame_up (takes : s.takesFrame v g = true) : s.linkUp = true := by
  simp only [State.takesFrame, Bool.and_eq_true] at takes
  exact takes.1.1.2

/-! HELLO_SEND (R275). -/

/-- R275: a fresh nonce, at the instant of a HELLO. -/
def State.freshNonce (s : State) (n : Nat) : State := { s with twn := { s.twn with ownNonce := n, helloAt := some s.tim.el } }

theorem exec_helloSend_met (met : s.peerMet = true) (n : Nat) : exec (.helloSend n) s = .next s := by
  rw [exec_helloSend, execHelloSend, if_neg (by simp [met])]

theorem exec_helloSend_sends (on : s.twinOn = true) (up : s.linkUp = true) (unmet : s.peerMet = false) (n : Nat) : exec (.helloSend n) s =
    .next (((s.after s.twn.helloAt (100 * ms)).freshNonce n).twinSend 2 .hello ((s.after s.twn.helloAt (100 * ms)).freshNonce n).ownHello) := by
  have sends : (s.twinOn && s.linkUp && !s.peerMet) = true := by simp [on, up, unmet]
  rw [exec_helloSend, execHelloSend, if_pos sends]
  refine congrArg Host.Outcome.next ?_
  unfold State.after
  cases s.twn.helloAt <;> rfl

theorem State.ownHello_last (s : State) : s.ownHello.getLast? = some (s.twn.ownNonce : Int) := by
  unfold State.ownHello
  rw [List.getLast?_append]
  rfl

theorem State.ownHello_of_twin (same : SameTwin s t) (kept : Frame [.twn, .out] s t) : t.ownHello = s.ownHello := by
  obtain ⟨l, twn⟩ := same
  have ladle : t.twn.ladleEp = s.twn.ladleEp := by rw [twn]
  have nonce : t.twn.ownNonce = s.twn.ownNonce := by rw [twn]
  have regs : t.regs = s.regs := kept .regs (by simp)
  have serial : t.serial = s.serial := kept .serial (by simp)
  unfold State.ownHello
  rw [ladle, nonce, serial, kept .pins (by simp), kept .pat (by simp), kept .dev (by simp), kept .mram (by simp), State.fld_of_regs regs, State.reg, State.reg, regs]

/-- What a HELLO with the nonce `n` leaves. -/
structure HelloSent (s t : State) (n i : Nat) : Prop where
  nonce : t.twn.ownNonce = n
  sent : t.twn.helloAt = some t.tim.el
  again : ∀ e, s.twn.helloAt = some e → t.tim.el = Nat.max s.tim.el (e + i)
  first : s.twn.helloAt = none → t.tim = s.tim
  last : t.ownHello.getLast? = some (n : Int)
  told : s.roomFor 2 .hello t.ownHello = true → s.Sends t [t.twinSays 2 (aget 0 s.twn.link.txSeq 2) .hello t.ownHello]
  frame : Frame [.tim, .elapsed, .working, .twn, .out] s t

theorem State.helloSent (s : State) (n i : Nat) :
    HelloSent s (((s.after s.twn.helloAt i).freshNonce n).twinSend 2 .hello ((s.after s.twn.helloAt i).freshNonce n).ownHello) n i := by
  have again (e : Nat) (known : s.twn.helloAt = some e) : (s.after s.twn.helloAt i).tim.el = Nat.max s.tim.el (e + i) := by
    rw [known]
    exact s.after_some e i
  have first (fresh : s.twn.helloAt = none) : (s.after s.twn.helloAt i).tim = s.tim := by
    rw [fresh]
    rfl
  have moved := s.after_frame s.twn.helloAt i
  generalize s.after s.twn.helloAt i = r at *
  have noted : Frame [.twn] r (r.freshNonce n) := by
    intro p hp
    cases p <;> first | rfl | simp at hp
  have link : (r.freshNonce n).twn.link = s.twn.link := by
    rw [← show r.twn = s.twn from moved .twn (by simp)]
    rfl
  have sentAt : (r.freshNonce n).twn.helloAt = some (r.freshNonce n).tim.el := rfl
  have nonce : (r.freshNonce n).twn.ownNonce = n := rfl
  have tim : (r.freshNonce n).tim = r.tim := noted .tim (by simp)
  have up : (r.freshNonce n).linkUp = s.linkUp := by rw [State.linkUp, State.linkUp, State.fld_of_regs ((noted .regs (by simp)).trans (moved .regs (by simp)))]
  have out : (r.freshNonce n).out = s.out := (noted .out (by simp)).trans (moved .out (by simp))
  have before : Frame [.tim, .elapsed, .working, .twn, .out] s (r.freshNonce n) := (moved.mono (by simp)).trans (noted.mono (by simp))
  generalize r.freshNonce n = u at *
  have same := u.twinSend_same 2 .hello u.ownHello
  have acts := State.twinSend_acts u 2 .hello u.ownHello
  have kept : Frame [.twn, .out] u (u.twinSend 2 .hello u.ownHello) := acts.reaches
  have hello := State.ownHello_of_twin same kept
  have shown (room : u.roomFor 2 .hello u.ownHello = true) := State.twinSend_says room (v := 2) (by omega)
  generalize u.twinSend 2 .hello u.ownHello = w at *
  have tim' : w.tim = u.tim := kept .tim (by simp)
  obtain ⟨l, twn⟩ := same
  refine ⟨by rw [twn]; exact nonce, ?_, fun e known => ?_, fun fresh => tim'.trans (tim.trans (first fresh)), ?_, fun room => ?_, before.trans (kept.mono (by simp))⟩
  · rw [twn, tim']
    exact sentAt
  · rw [tim', tim]
    exact again e known
  · rw [State.ownHello_last, twn]
    exact congrArg (fun x : Nat => some (x : Int)) nonce
  · rw [hello] at room ⊢
    obtain ⟨sends, _, told⟩ := shown (by rw [← room, State.roomFor, State.roomFor, up, link])
    rw [told, ← link]
    exact sends.trans (by rw [out])

/-! HELLO (R275). -/

/-- R275: the partner's HELLO is held. -/
def State.heldHello (s : State) (h : Hello) : State := { s with twn := { s.twn with peer := some h, peerNow := h.state, answered := true } }

theorem State.heldHello_acts (s : State) (h : Hello) : Acts (partMask [.twn]) s (s.heldHello h) := Acts.upd_twn (m := partMask [.twn]) (.refl s) rfl (.inr rfl)

theorem State.takeHello_eq (s : State) (h : Hello) : s.takeHello h =
    (if s.twn.answered then s.heldHello h else (s.heldHello h).twinSend 2 .auth [(h.nonce : Int), (s.twn.ownNonce : Int)]).step11 := rfl

theorem exec_helloFrame_takes (takes : s.takesFrame 2 g = true) (h : Hello) :
    exec (.helloFrame g h) s = .next ((s.withLink (s.linkAfter 2 g)).takeHello h).twinPush := congrArg Host.Outcome.next (State.onFrame_takes takes _)

theorem State.step11_idle (idle : s.boot.waitingTwin = false) : s.step11 = s := by
  unfold State.step11
  split
  · exact if_pos (by simp [idle])
  · rfl

theorem exec_helloFrame_again (takes : s.takesFrame 2 g = true) (empty : s.twn.link.queue = []) (idle : s.boot.waitingTwin = false) (answered : s.twn.answered = true) :
    ∃ t, exec (.helloFrame g h) s = .next t ∧ t.twn = { s.twn with peer := some h, peerNow := h.state, link := s.linkAfter 2 g } ∧ Frame [.twn] s t := by
  have done : (s.withLink (s.linkAfter 2 g)).takeHello h = (s.withLink (s.linkAfter 2 g)).heldHello h := by
    rw [State.takeHello_eq, if_pos (show (s.withLink (s.linkAfter 2 g)).twn.answered = true from answered)]
    exact State.step11_idle idle
  have twn : ((s.withLink (s.linkAfter 2 g)).heldHello h).twn = { s.twn with peer := some h, peerNow := h.state, link := s.linkAfter 2 g } := by
    have same : ({ s.twn with answered := true } : Twn) = s.twn := by rw [← answered]
    exact congrArg (fun w : Twn => { w with peer := some h, peerNow := h.state, link := s.linkAfter 2 g }) same
  have run := exec_helloFrame_takes takes h
  rw [done, State.twinPush_idle (s := (s.withLink (s.linkAfter 2 g)).heldHello h) empty] at run
  exact ⟨_, run, twn, (((State.withLink_acts ..).step (State.heldHello_acts ..) rfl).reaches)⟩

theorem exec_helloFrame_first (takes : s.takesFrame 2 g = true) (empty : s.twn.link.queue = []) (idle : s.boot.waitingTwin = false) (fresh : s.twn.answered = false) :
    ∃ t, exec (.helloFrame g h) s = .next t ∧ t.twn.peer = some h ∧ t.twn.answered = true ∧
    (twinUnits 8 ≤ (s.linkAfter 2 g).credit 2 → s.Sends t [t.twinSays 2 (aget 0 s.twn.link.txSeq 2) .auth [(h.nonce : Int), (s.twn.ownNonce : Int)]]) ∧
    Frame [.twn, .out] s t := by
  have up := takesFrame_up takes
  have held : Acts (partMask [.twn]) s ((s.withLink (s.linkAfter 2 g)).heldHello h) := (State.withLink_acts ..).step (State.heldHello_acts ..) rfl
  have run := exec_helloFrame_takes takes h
  rw [State.takeHello_eq, if_neg (by simp [State.withLink, fresh])] at run
  have peer : ((s.withLink (s.linkAfter 2 g)).heldHello h).twn.peer = some h := rfl
  have answered : ((s.withLink (s.linkAfter 2 g)).heldHello h).twn.answered = true := rfl
  have link : ((s.withLink (s.linkAfter 2 g)).heldHello h).twn.link = s.linkAfter 2 g := rfl
  have nonce : (s.withLink (s.linkAfter 2 g)).twn.ownNonce = s.twn.ownNonce := rfl
  rw [nonce] at run
  generalize (s.withLink (s.linkAfter 2 g)).heldHello h = u at *
  have out : u.out = s.out := held.frame .out rfl
  have seq : u.twn.link.txSeq = s.twn.link.txSeq := by
    rw [link]
    rfl
  have room (credit : twinUnits 8 ≤ (s.linkAfter 2 g).credit 2) : u.roomFor 2 .auth [(h.nonce : Int), (s.twn.ownNonce : Int)] = true := by
    have waits : u.twn.link.queue = [] := by
      rw [link]
      exact empty
    have upU : u.linkUp = true := by rw [← up, State.linkUp, State.linkUp, State.fld_of_regs (held.frame .regs rfl)]
    rw [State.roomFor, upU, waits, link]
    exact decide_eq_true credit
  have same := u.twinSend_same 2 .auth [(h.nonce : Int), (s.twn.ownNonce : Int)]
  have acts := State.twinSend_acts u 2 .auth [(h.nonce : Int), (s.twn.ownNonce : Int)]
  have shown (credit : twinUnits 8 ≤ (s.linkAfter 2 g).credit 2) := State.twinSend_says (room credit) (v := 2) (by omega)
  generalize u.twinSend 2 .auth [(h.nonce : Int), (s.twn.ownNonce : Int)] = w at *
  have waiting : w.boot.waitingTwin = false := by
    rw [acts.frame .boot rfl, held.frame .boot rfl]
    exact idle
  rw [State.step11_idle waiting] at run
  obtain ⟨l, twn⟩ := same.trans w.twinPush_same
  have pushed : Frame [.twn, .out] w w.twinPush := (State.twinPush_acts w).reaches
  refine ⟨_, run, by rw [twn]; exact peer, by rw [twn]; exact answered, fun credit => ?_, (held.reaches).trans ((acts.reaches).trans pushed)⟩
  obtain ⟨sends, empty', told⟩ := shown credit
  rw [State.twinPush_idle empty', told, ← seq]
  exact sends.trans (by rw [out])

/-! The start alone (R277). -/

/-- The fields that the start alone writes. -/
def aloneFields : List Fld := [bitAt A_CTL_DEGR 4, F_KPR_BOOTSTAT_STEP] ++ recFields

/-- What the start alone leaves. -/
structure StartedAlone (s t : State) (lonely : Bool) : Prop where
  boot : t.boot = { s.boot with waitingTwin := false, readyForFreeze := true }
  twn : t.twn = { s.twn with outOfStepFromBoot := true }
  next : t.dev.nextFreeze = boundaryAt s.tim.wt (modePeriod s.startMode)
  st : t.dev.st = s.dev.st
  degraded : lonely = true → t.cond 4 = true ∧ t.Alarmed 0x040D
  quiet : lonely = false → t.alarms = s.alarms
  changes : Changes [.boot, .dev, .devMode, .devEpoch, .alarms, .rcd, .twn, .regs] aloneFields [0x040D] s t

/-- R277: condition 4 with alarm 0x040D. -/
def State.noTwin (s : State) : State := (s.setCond 4 true).raise 0x040D

theorem mem_aloneFields {f : Fld} (mem : f ∈ recFields) : f ∈ aloneFields := List.mem_append_right _ mem

theorem State.noTwin_changes (sound : s.Sound) : Changes [.boot, .dev, .devMode, .devEpoch, .alarms, .rcd, .twn, .regs] aloneFields [0x040D] s s.noTwin :=
  (((State.setCond_changes sound 4 (by decide) true).mono (hf := by simp [aloneFields])).raise 0x040D [] (hf := fun _ => mem_aloneFields))

theorem State.noTwin_shows (sound : s.Sound) : s.noTwin.cond 4 = true ∧ s.noTwin.Alarmed 0x040D ∧ s.noTwin.dev.st = s.dev.st := by
  obtain ⟨cond, st, degraded⟩ := State.setCond_spec sound (show 4 < 32 by decide) true
  exact ⟨(flag_raise degraded.sound _ _ _ (by decide) (by decide)).trans cond, (alarm_raise ..).trans (if_pos rfl), (congrArg (·.st) (State.raise_dev ..)).trans st⟩

/-- The first freeze of a device that starts alone is due. -/
def State.readyAlone (s : State) : State := s.readyAt (boundaryAt s.tim.wt (modePeriod s.startMode))

theorem State.startAlone_eq (s : State) (lonely : Bool) : s.startAlone lonely =
    if lonely then State.readyAlone (State.noTwin { s with twn := { s.twn with outOfStepFromBoot := true } })
    else State.readyAlone { s with twn := { s.twn with outOfStepFromBoot := true } } := by
  cases lonely <;> rfl

theorem State.readyAlone_starts {w : Twn} (start : Changes [.boot, .dev, .devMode, .devEpoch, .alarms, .rcd, .twn, .regs] aloneFields [0x040D] s u)
    (st : u.dev.st = s.dev.st) (twn : u.twn = w) (boot : u.boot = s.boot) : u.readyAlone.boot = { s.boot with waitingTwin := false, readyForFreeze := true } ∧
    u.readyAlone.twn = w ∧ u.readyAlone.dev.nextFreeze = boundaryAt s.tim.wt (modePeriod s.startMode) ∧ u.readyAlone.dev.st = s.dev.st ∧
    u.readyAlone.alarms = u.alarms ∧ u.readyAlone.cond 4 = u.cond 4 ∧
    Changes [.boot, .dev, .devMode, .devEpoch, .alarms, .rcd, .twn, .regs] aloneFields [0x040D] s u.readyAlone := by
  obtain ⟨bootR, dev, _, ready⟩ := State.readyAt_spec start.sound (boundaryAt u.tim.wt (modePeriod u.startMode))
  have mode : u.startMode = s.startMode := State.par_of_pat (start.frame .pat (by simp)) ..
  refine ⟨bootR.trans (by rw [boot]), (ready.frame .twn (by simp)).trans twn, ?_, (congrArg (·.st) dev).trans st, ready.frame .alarms (by simp), ready.flag _, ?_⟩
  · rw [← mode, ← show u.tim = s.tim from start.frame .tim (by simp)]
    exact congrArg (·.nextFreeze) dev
  · exact start.trans (ready.mono (hf := by simp [aloneFields]))

theorem State.startAlone_starts (sound : s.Sound) (lonely : Bool) : StartedAlone s (s.startAlone lonely) lonely := by
  have noted : Changes [.boot, .dev, .devMode, .devEpoch, .alarms, .rcd, .twn, .regs] aloneFields [0x040D] s
    { s with twn := { s.twn with outOfStepFromBoot := true } } := (Changes.refl sound).upd _
  rw [State.startAlone_eq]
  cases lonely
  case false =>
    obtain ⟨boot, twn, next, st, alarms, _, changes⟩ := State.readyAlone_starts noted rfl rfl rfl
    exact ⟨boot, twn, next, st, fun h => by simp at h, fun _ => alarms, changes⟩
  case true =>
    have twnV : ({ s with twn := { s.twn with outOfStepFromBoot := true } } : State).twn = { s.twn with outOfStepFromBoot := true } := rfl
    have stV : ({ s with twn := { s.twn with outOfStepFromBoot := true } } : State).dev.st = s.dev.st := rfl
    have bootV : ({ s with twn := { s.twn with outOfStepFromBoot := true } } : State).boot = s.boot := rfl
    generalize ({ s with twn := { s.twn with outOfStepFromBoot := true } } : State) = v at *
    have lone := State.noTwin_changes noted.sound
    obtain ⟨cond, raised, stN⟩ := State.noTwin_shows noted.sound
    have acts : Acts (partMask [.dev, .alarms, .rcd, .regs, .devSt, .devMode, .devEpoch, .devAim]) v v.noTwin :=
      ((State.setCond_acts v 4 true).mono rfl).step (State.raise_acts ..) rfl
    obtain ⟨boot, twn, next, st, alarms, cond', changes⟩ := State.readyAlone_starts (noted.trans lone) (stN.trans stV) ((acts.frame .twn rfl).trans twnV)
      ((acts.frame .boot rfl).trans bootV)
    refine ⟨boot, twn, next, st, fun _ => ⟨cond'.trans cond, ?_⟩, fun h => by simp at h, changes⟩
    show v.noTwin.readyAlone.Alarmed 0x040D
    rw [State.Alarmed, State.alarm?, alarms]
    exact raised

end

end Sys2Proof.Machine

/-! AUTH (R275, R276), START and the common start (R277, R294). -/
namespace Sys2Proof.Machine
set_option Elab.async false

section
variable {s t u : State} {n k e f v : Nat} {g : TwinHeader} {h : Hello} {q : List Byte} {l : List Signed}

/-! The common start (R277, R294). -/

/-- What a common start at the freeze `f` with the state epoch `e` leaves. -/
structure StartedTogether (s t : State) (f e : Nat) : Prop where
  ready : t.boot.readyForFreeze = true
  ends : t.boot.waitingTwin = false
  startAt : t.twn.startAt = some (f, e)
  next : t.dev.nextFreeze = f
  epoch : t.dev.stateEp = e - 1
  ladle : ∀ h, s.twn.peer = some h → t.twn.ladleEp = Nat.max s.twn.ladleEp h.ladleEp ∧ t.mram.ladleEp = Nat.max s.twn.ladleEp h.ladleEp
  st : t.dev.st = s.dev.st
  peer : t.twn.peer = s.twn.peer
  link : t.twn.link = s.twn.link
  changes : s.Sound → Changes [.boot, .dev, .devMode, .devEpoch, .mram, .twn, .ladle, .regs] [F_KPR_BOOTSTAT_STEP] [] s t

/-- R294: the Ladle epoch of the partner's HELLO, 0 before it. -/
def State.peerLadle (s : State) : Nat := (s.twn.peer.map Hello.ladleEp).getD 0

/-- A common start decided, before the first freeze is due. -/
def State.agreedStart (s : State) (f e : Nat) : State :=
  { s with
    mram := { s.mram with ladleEp := Nat.max s.twn.ladleEp s.peerLadle }
    twn := { s.twn with startAt := some (f, e), ladleEp := Nat.max s.twn.ladleEp s.peerLadle } }

theorem State.commonStart_eq (s : State) (f e : Nat) : s.commonStart f e = (s.agreedStart f e).readyAt f := by
  unfold State.commonStart State.agreedStart State.peerLadle
  cases s.twn.peer <;> rfl

theorem State.commonStart_starts (s : State) (f e : Nat) : StartedTogether s (s.commonStart f e) f e := by
  have ladle (h : Hello) (known : s.twn.peer = some h) : s.peerLadle = h.ladleEp := by
    rw [State.peerLadle, known]
    rfl
  have changed (sound : s.Sound) : Changes [.boot, .dev, .devMode, .devEpoch, .mram, .twn, .ladle, .regs] [F_KPR_BOOTSTAT_STEP] [] s (s.agreedStart f e) :=
    (Changes.refl sound).upd _
  rw [State.commonStart_eq]
  refine ⟨rfl, rfl, rfl, rfl, rfl, fun h known => ?_, rfl, rfl, rfl, fun sound => ?_⟩
  · rw [← ladle h known]
    exact ⟨rfl, rfl⟩
  · exact (changed sound).trans ((State.readyAt_spec (changed sound).sound f).2.2.2.mono)

/-! What may follow a meeting: the choice of the time source, the working time of the partner, the end of boot step 11 and a request for the copy. -/

/-- The fields that what follows a meeting writes. -/
def meetingFields : List Fld := reselectFields ++ [word32 A_TSU_EXT, F_TSU_STATUS_SET] ++ aloneFields ++ [F_TWN_STATUS_SYNCING]

/-- The alarms that what follows a meeting raises or ends. -/
def meetingAlarms : List Nat := reselectAlarms ++ [0x040D]

/-- A change within what may follow a meeting. -/
structure FollowsMeeting (s t : State) : Prop where
  changes : Changes [.boot, .dev, .devMode, .devEpoch, .alarms, .rcd, .mram, .tim, .twn, .ladle, .regs, .out, .working] meetingFields meetingAlarms s t
  peer : t.twn.peer = s.twn.peer

namespace FollowsMeeting

theorem refl (sound : s.Sound) : FollowsMeeting s s := ⟨.refl sound, rfl⟩

theorem trans (a : FollowsMeeting s t) (b : FollowsMeeting t u) : FollowsMeeting s u := ⟨a.changes.trans b.changes, b.peer.trans a.peer⟩

theorem of_changes {ps : List Part} {fs : List Fld} {cs : List Nat} (a : Changes ps fs cs s t) (peer : t.twn.peer = s.twn.peer)
    (parts : ∀ p ∈ ps, p ∈ [Part.boot, .dev, .devMode, .devEpoch, .alarms, .rcd, .mram, .tim, .twn, .ladle, .regs, .out, .working] := by simp)
    (fields : ∀ f ∈ fs, f ∈ meetingFields := by simp [meetingFields]) (alarms : ∀ c ∈ cs, c ∈ meetingAlarms := by simp [meetingAlarms]) : FollowsMeeting s t :=
  ⟨a.mono parts fields alarms, peer⟩

theorem reselect (sound : s.Sound) : FollowsMeeting s s.reselect :=
  have changes := State.reselect_changes sound
  .of_changes changes (congrArg Twn.peer (show s.reselect.twn = s.twn from changes.frame .twn (by simp)))
    (fields := fun f hf => by simp only [meetingFields, List.mem_append]; tauto) (alarms := fun c hc => List.mem_append_left _ hc)

theorem twinTime (sound : s.Sound) : FollowsMeeting s s.twinTime := by
  unfold State.twinTime
  split
  · have moved : Changes [.tim, .rcd, .working] [] [] s
        { s with tim := { s.tim with wt := ((s.tim.wt : Int) + evenStep s.tim.twinOffset).toNat }, rcd := { s.rcd with anchorDue := true } } := (Changes.refl sound).upd _
    have set : Changes [.tim, .rcd, .working, .regs] [word32 A_TSU_EXT, F_TSU_STATUS_SET] [] s (s.setTimeDirect s.tim.twinOffset) :=
      ((moved.mono).setReg A_TSU_EXT _).setFlag F_TSU_STATUS_SET true
    have marked : Changes [.boot] [] [] (s.setTimeDirect s.tim.twinOffset)
      { s.setTimeDirect s.tim.twinOffset with boot := { (s.setTimeDirect s.tim.twinOffset).boot with twinTimeSet := true } } := (Changes.refl set.sound).upd _
    exact .trans (.of_changes set rfl) (.of_changes marked rfl)
  · exact .refl sound

theorem startAlone (sound : s.Sound) (lonely : Bool) : FollowsMeeting s (s.startAlone lonely) :=
  have started := State.startAlone_starts sound lonely
  .of_changes started.changes (by rw [started.twn]) (fields := fun f hf => by simp only [meetingFields, List.mem_append]; tauto)

theorem twinSend (sound : s.Sound) (kind : MsgKind) (data : List Int) : FollowsMeeting s (s.twinSend v kind data) := by
  obtain ⟨m, twn⟩ := s.twinSend_same v kind data
  have sent : Changes [.twn, .out] [] [] s (s.twinSend v kind data) := (Changes.refl sound).acts (State.twinSend_acts ..)
  exact .of_changes sent (by rw [twn])

theorem twinPush (sound : s.Sound) : FollowsMeeting s s.twinPush := by
  obtain ⟨m, twn⟩ := s.twinPush_same
  have sent : Changes [.twn, .out] [] [] s s.twinPush := (Changes.refl sound).acts (State.twinPush_acts ..)
  exact .of_changes sent (by rw [twn])

theorem commonStart (sound : s.Sound) (f e : Nat) : FollowsMeeting s (s.commonStart f e) :=
  have started := s.commonStart_starts f e
  .of_changes (started.changes sound) started.peer (fields := fun f hf => by simp only [List.mem_singleton] at hf; subst hf; simp [meetingFields, aloneFields])

theorem sendStart (sound : s.Sound) (h : Hello) : FollowsMeeting s (s.sendStart h) :=
  have sent : FollowsMeeting s (s.twinSend 2 .start _) := twinSend sound ..
  sent.trans (commonStart sent.changes.sound ..)

theorem step11 (sound : s.Sound) : FollowsMeeting s s.step11 := by
  unfold State.step11
  split
  · next h _ =>
    by_cases waits : (!s.boot.waitingTwin || !s.peerMet) = true
    · rw [if_pos waits]
      exact refl sound
    · rw [if_neg waits]
      split
      · exact startAlone sound false
      · split
        · exact startAlone sound false
        · split
          · exact startAlone sound true
          · split
            · exact sendStart sound h
            · exact refl sound
  · exact refl sound

theorem requestSync (sound : s.Sound) : FollowsMeeting s s.requestSync := by
  refine .of_changes (State.requestSync_changes sound) ?_ (fields := fun f hf => by simp only [List.mem_singleton] at hf; subst hf; simp [meetingFields])
  unfold State.requestSync
  split
  · have peer : ({ s with twn := { s.twn with requested := true } } : State).twn.peer = s.twn.peer := rfl
    generalize ({ s with twn := { s.twn with requested := true } } : State) = u at *
    obtain ⟨m, twn⟩ := u.twinSend_same 2 .syncReq []
    rw [show ((u.twinSend 2 .syncReq []).setFlag F_TWN_STATUS_SYNCING true).twn = _ from ((State.setFlag_acts ..).frame .twn rfl).trans twn]
    exact peer
  · rfl

end FollowsMeeting

/-! HELLO in boot step 11 (R277). -/

/-- R277: the partner's state has this device start alone. -/
def State.startsAlone (s : State) (h : Hello) : Prop := s.split = true ∨ h.state = 1 ∨ h.state = 2 ∨ h.state = 3

theorem State.step11_alone (waits : s.boot.waitingTwin = true) (met : s.peerMet = true) (peer : s.twn.peer = some h) (alone : s.startsAlone h) :
    s.step11 = s.startAlone (!s.split && h.state == 3) := by
  have runs : ¬((!s.boot.waitingTwin || !s.peerMet) = true) := by simp [waits, met]
  unfold State.step11
  rw [peer]
  simp only
  rw [if_neg runs]
  cases split : s.split
  · obtain bad | one | two | three := alone
    · simp [split] at bad
    · simp [one]
    · simp [two]
    · simp [three]
  · simp

theorem exec_helloFrame_alone (sound : s.Sound) (takes : s.takesFrame 2 g = true) (waits : s.boot.waitingTwin = true) (met : s.peerMet = true)
    (answered : s.twn.answered = true) (alone : s.startsAlone h) : ∃ t, exec (.helloFrame g h) s = .next t ∧ t.boot.readyForFreeze = true ∧
    t.boot.waitingTwin = false ∧ t.twn.outOfStepFromBoot = true ∧ t.dev.nextFreeze = boundaryAt s.tim.wt (modePeriod s.startMode) ∧
    (s.split = false → h.state = 3 → t.cond 4 = true ∧ t.Alarmed 0x040D) ∧ (s.split = true ∨ h.state ≠ 3 → t.alarms = s.alarms) ∧
    t.twn.ladleEp = s.twn.ladleEp ∧ t.dev.st = s.dev.st ∧ Frame [.boot, .dev, .devMode, .devEpoch, .alarms, .rcd, .twn, .regs, .out] s t := by
  have held : Changes [.twn] [] [] s ((s.withLink (s.linkAfter 2 g)).heldHello h) := ((Changes.refl sound).acts (State.withLink_acts ..)).acts (State.heldHello_acts ..)
  have run := exec_helloFrame_takes takes h
  rw [State.takeHello_eq, if_pos (show (s.withLink (s.linkAfter 2 g)).twn.answered = true from answered)] at run
  have peer : ((s.withLink (s.linkAfter 2 g)).heldHello h).twn.peer = some h := rfl
  have ladle : ((s.withLink (s.linkAfter 2 g)).heldHello h).twn.ladleEp = s.twn.ladleEp := rfl
  generalize (s.withLink (s.linkAfter 2 g)).heldHello h = u at *
  have regs : u.regs = s.regs := held.frame .regs (by simp)
  have boot : u.boot = s.boot := held.frame .boot (by simp)
  have split : u.split = s.split := State.flag_of_regs regs _
  have alarms : u.alarms = s.alarms := held.frame .alarms (by simp)
  have aloneU : u.startsAlone h := by
    rw [State.startsAlone, split]
    exact alone
  rw [State.step11_alone (by rw [boot]; exact waits) ((State.flag_of_regs regs _).trans met) peer aloneU, split] at run
  have started := State.startAlone_starts held.sound (!s.split && h.state == 3)
  generalize u.startAlone (!s.split && h.state == 3) = w at *
  have pushed : Frame [.twn, .out] w w.twinPush := (State.twinPush_acts w).reaches
  obtain ⟨m, twn⟩ := w.twinPush_same
  have mode : u.startMode = s.startMode := State.par_of_pat (held.frame .pat (by simp)) ..
  have bootT : w.twinPush.boot = w.boot := pushed .boot (by simp)
  have devT : w.twinPush.dev = w.dev := pushed .dev (by simp)
  have regsT : w.twinPush.regs = w.regs := pushed .regs (by simp)
  have alarmsT : w.twinPush.alarms = w.alarms := pushed .alarms (by simp)
  refine ⟨_, run, by rw [bootT, started.boot], by rw [bootT, started.boot], by rw [twn, started.twn], ?_, fun whole safe => ?_, fun other => ?_,
    by rw [twn, started.twn]; exact ladle, by rw [devT, started.st, held.frame .dev (by simp)], ?_⟩
  · rw [devT, started.next, mode, show u.tim = s.tim from held.frame .tim (by simp)]
  · obtain ⟨cond, raised⟩ := started.degraded (by simp [whole, safe])
    refine ⟨(State.flag_of_regs regsT _).trans cond, ?_⟩
    rw [State.Alarmed, State.alarm?, alarmsT]
    exact raised
  · rw [alarmsT, started.quiet (by rcases other with h | h <;> simp [h]), alarms]
  · exact ((held.frame.mono (by simp)).trans (started.changes.frame.mono (by simp))).trans (pushed.mono (by simp))

/-! AUTH (R275, R276). -/

theorem exec_authFrame_takes (takes : s.takesFrame 2 g = true) (q : List Byte) (l : List Signed) :
    exec (.authFrame g q l) s = .next ((s.withLink (s.linkAfter 2 g)).takeAuth q l).twinPush := congrArg Host.Outcome.next (State.onFrame_takes takes _)

/-- R275: an AUTH of the partner whose HELLO is `h` verifies. -/
def State.verifies (s : State) (h : Hello) (q : List Byte) (l : List Signed) : Bool :=
  l.contains (s.authCheck h q) && h.serial = s.peerSerial && h.side = otherSide s.pins.side

theorem State.takeAuth_some (peer : s.twn.peer = some h) (q : List Byte) (l : List Signed) :
    s.takeAuth q l = if s.verifies h q l then (s.meetPeer h).reselect.twinTime.step11.requestSync else s.raise 0x0403 := by
  rw [State.takeAuth, peer]
  rfl

/-- The fields that the meeting itself writes. -/
def metFields : List Fld :=
  [F_TWN_STATUS_PEER_MET, word32 A_TWN_PEER_SER0, word32 A_TWN_PEER_SER1, word32 A_TWN_PEER_EXEC, F_TWN_STATUS_SPLIT] ++ recFields

/-- R276: the PATTERN_ID and the EXEC_ID of a HELLO are those of this device. -/
def State.samePattern (s : State) (h : Hello) : Prop := h.patternId = (List.range 4).map (nthW s.pat.id) ∧ toWord h.execId = s.reg A_TWN_EXEC

/-- What the meeting of the partner leaves. -/
structure PeerMet (s t : State) (h : Hello) : Prop where
  met : t.peerMet = true
  gone : t.CauseGone 0x0403
  split : t.split = true ↔ ¬s.samePattern h
  raised : t.split = true → t.Alarmed 0x0404
  whole : t.split = false → t.CauseGone 0x0404
  exec : t.reg A_TWN_PEER_EXEC = toWord h.execId
  serial : t.reg A_TWN_PEER_SER0 = toWord h.serial
  changes : Changes [.alarms, .rcd, .regs] metFields [0x0403, 0x0404] s t

/-- R275: the identity of the partner shows. -/
def State.peerShown (s : State) (h : Hello) : State :=
  (((s.setFlag F_TWN_STATUS_PEER_MET true).setReg A_TWN_PEER_SER0 (toWord h.serial)).setReg A_TWN_PEER_SER1 (BitVec.ofNat 32 (h.serial / 4294967296))).setReg
    A_TWN_PEER_EXEC (toWord h.execId)

theorem mem_metFields {x : Fld} (mem : x ∈ recFields) : x ∈ metFields := List.mem_append_right _ mem

theorem State.peerShown_changes (sound : s.Sound) (h : Hello) : Changes [.alarms, .rcd, .regs] metFields [0x0403, 0x0404] s (s.peerShown h) :=
  ((((Changes.refl sound).setFlag _ _ rfl (by simp [metFields])).setReg _ _ (by simp [metFields])).setReg _ _ (by simp [metFields])).setReg _ _ (by simp [metFields])

theorem State.peerShown_shows (sound : s.Sound) (h : Hello) : (s.peerShown h).peerMet = true ∧ (s.peerShown h).reg A_TWN_PEER_EXEC = toWord h.execId ∧
    (s.peerShown h).reg A_TWN_PEER_SER0 = toWord h.serial := by
  have s₁ := sound.setFlag F_TWN_STATUS_PEER_MET true
  have s₂ := s₁.setReg A_TWN_PEER_SER0 (toWord h.serial)
  have s₃ := s₂.setReg A_TWN_PEER_SER1 (BitVec.ofNat 32 (h.serial / 4294967296))
  have words : Changes [.regs] [word32 A_TWN_PEER_SER0, word32 A_TWN_PEER_SER1, word32 A_TWN_PEER_EXEC] [] (s.setFlag F_TWN_STATUS_PEER_MET true) (s.peerShown h) :=
    (((Changes.refl s₁).setReg _ _).setReg _ _).setReg _ _
  have last : Changes [.regs] [word32 A_TWN_PEER_SER1, word32 A_TWN_PEER_EXEC] [] ((s.setFlag F_TWN_STATUS_PEER_MET true).setReg A_TWN_PEER_SER0 (toWord h.serial))
    (s.peerShown h) := ((Changes.refl s₂).setReg _ _).setReg _ _
  refine ⟨(words.flag F_TWN_STATUS_PEER_MET).trans (flag_setFlag sound _ _ rfl), ?_, (last.reg A_TWN_PEER_SER0).trans ?_⟩
  · rw [State.peerShown, reg_setReg s₃, if_pos rfl]
  · rw [reg_setReg s₁, if_pos rfl]

theorem State.meetPeer_eq (s : State) (h : Hello) : s.meetPeer h =
    if h.patternId = (List.range 4).map (nthW ((s.peerShown h).causeGone 0x0403).pat.id) && toWord h.execId = ((s.peerShown h).causeGone 0x0403).reg A_TWN_EXEC then
      (((s.peerShown h).causeGone 0x0403).setFlag F_TWN_STATUS_SPLIT false).causeGone 0x0404
    else (((s.peerShown h).causeGone 0x0403).setFlag F_TWN_STATUS_SPLIT true).raise 0x0404 := rfl

theorem State.meetPeer_meets (sound : s.Sound) (h : Hello) : PeerMet s (s.meetPeer h) h := by
  have shown := State.peerShown_changes sound h
  obtain ⟨met₀, exec₀, serial₀⟩ := State.peerShown_shows sound h
  rw [State.meetPeer_eq]
  generalize s.peerShown h = a at *
  have ended : Changes [.alarms, .rcd, .regs] recFields [0x0403] a (a.causeGone 0x0403) := (Changes.refl shown.sound).causeGone 0x0403
  have gone₁ : (a.causeGone 0x0403).CauseGone 0x0403 := State.causeGone_causeGone _ _
  generalize a.causeGone 0x0403 = b at *
  have both : Changes [.alarms, .rcd, .regs] metFields [0x0403, 0x0404] s b := shown.trans (ended.mono (hf := fun _ => mem_metFields))
  have pat : b.pat = s.pat := both.frame .pat (by simp)
  have own : b.reg A_TWN_EXEC = s.reg A_TWN_EXEC := both.reg _
  have after (c : State) (told : Changes [.alarms, .rcd, .regs] (F_TWN_STATUS_SPLIT :: recFields) [0x0404] b c) :
      c.peerMet = true ∧ c.CauseGone 0x0403 ∧ c.reg A_TWN_PEER_EXEC = toWord h.execId ∧ c.reg A_TWN_PEER_SER0 = toWord h.serial ∧
      Changes [.alarms, .rcd, .regs] metFields [0x0403, 0x0404] s c :=
    ⟨((told.flag F_TWN_STATUS_PEER_MET).trans (ended.flag _)).trans met₀, gone₁.kept (told.alarms _ (by simp)),
      ((told.reg A_TWN_PEER_EXEC).trans (ended.reg _)).trans exec₀, ((told.reg A_TWN_PEER_SER0).trans (ended.reg _)).trans serial₀,
      both.trans (told.mono (hf := fun f hf => by simp only [metFields, List.mem_append, List.mem_cons] at hf ⊢; tauto))⟩
  rw [pat, own]
  by_cases same : s.samePattern h
  case pos =>
    rw [if_pos (Bool.and_eq_true_iff.mpr ⟨decide_eq_true same.1, decide_eq_true same.2⟩)]
    have marked : (b.setFlag F_TWN_STATUS_SPLIT false).split = false := flag_setFlag both.sound _ _ rfl
    have cleared : Changes [.alarms, .rcd, .regs] recFields [0x0404] (b.setFlag F_TWN_STATUS_SPLIT false) ((b.setFlag F_TWN_STATUS_SPLIT false).causeGone 0x0404) :=
      (Changes.refl (both.sound.setFlag _ _)).causeGone 0x0404
    have whole : ((b.setFlag F_TWN_STATUS_SPLIT false).causeGone 0x0404).split = false := (cleared.flag F_TWN_STATUS_SPLIT).trans marked
    obtain ⟨met, gone, exec', serial, changes⟩ := after _ (((Changes.refl both.sound).setFlag F_TWN_STATUS_SPLIT false).causeGone 0x0404)
    exact ⟨met, gone, ⟨fun bad => absurd bad (by simp [whole]), fun other => absurd same other⟩, fun bad => absurd bad (by simp [whole]),
      fun _ => State.causeGone_causeGone _ _, exec', serial, changes⟩
  case neg =>
    have differs : ¬((decide (h.patternId = (List.range 4).map (nthW s.pat.id)) && decide (toWord h.execId = s.reg A_TWN_EXEC)) = true) := fun bad =>
      same ⟨of_decide_eq_true (Bool.and_eq_true_iff.mp bad).1, of_decide_eq_true (Bool.and_eq_true_iff.mp bad).2⟩
    rw [if_neg differs]
    have marked : (b.setFlag F_TWN_STATUS_SPLIT true).split = true := flag_setFlag both.sound _ _ rfl
    have raised : Changes [.alarms, .rcd, .regs] recFields [0x0404] (b.setFlag F_TWN_STATUS_SPLIT true) ((b.setFlag F_TWN_STATUS_SPLIT true).raise 0x0404) :=
      (Changes.refl (both.sound.setFlag _ _)).raise 0x0404 _
    have split : ((b.setFlag F_TWN_STATUS_SPLIT true).raise 0x0404).split = true := (raised.flag F_TWN_STATUS_SPLIT).trans marked
    obtain ⟨met, gone, exec', serial, changes⟩ := after _ (((Changes.refl both.sound).setFlag F_TWN_STATUS_SPLIT true).raise 0x0404 _)
    exact ⟨met, gone, ⟨fun _ => same, fun _ => split⟩, fun _ => (alarm_raise ..).trans (if_pos rfl), fun bad => absurd bad (by simp [split]), exec', serial, changes⟩

theorem State.verifies_of_withLink (s : State) (m : TwinLink) (h : Hello) (q : List Byte) (l : List Signed) : (s.withLink m).verifies h q l = s.verifies h q l := rfl

theorem exec_authFrame_meets (sound : s.Sound) (takes : s.takesFrame 2 g = true) (peer : s.twn.peer = some h) (verified : s.verifies h q l = true) :
    ∃ t, exec (.authFrame g q l) s = .next t ∧ t.peerMet = true ∧ t.CauseGone 0x0403 ∧ t.twn.peer = some h ∧
    (t.split = true ↔ ¬s.samePattern h) ∧ (t.split = true → t.Alarmed 0x0404) ∧ (t.split = false → t.CauseGone 0x0404) ∧ t.reg A_TWN_PEER_EXEC = toWord h.execId ∧
    t.reg A_TWN_PEER_SER0 = toWord h.serial ∧ t.dev.st = s.dev.st ∧
    Frame [.boot, .dev, .alarms, .rcd, .mram, .tim, .twn, .regs, .out, .devMode, .devEpoch, .ladle, .working] s t := by
  have linked : Changes [.twn] [] [] s (s.withLink (s.linkAfter 2 g)) := (Changes.refl sound).acts (State.withLink_acts ..)
  have peerU : (s.withLink (s.linkAfter 2 g)).twn.peer = some h := peer
  have run := exec_authFrame_takes takes q l
  rw [State.takeAuth_some peerU, State.verifies_of_withLink, if_pos verified] at run
  have same : (s.withLink (s.linkAfter 2 g)).samePattern h ↔ s.samePattern h := Iff.rfl
  generalize s.withLink (s.linkAfter 2 g) = u at *
  have met := State.meetPeer_meets linked.sound h
  have peerM : (u.meetPeer h).twn.peer = some h := by rw [show (u.meetPeer h).twn = u.twn from met.changes.frame .twn (by simp), peerU]
  generalize u.meetPeer h = a at *
  have chosen := FollowsMeeting.reselect met.changes.sound
  have timed := chosen.trans (FollowsMeeting.twinTime chosen.changes.sound)
  have stepped := timed.trans (FollowsMeeting.step11 timed.changes.sound)
  have asked := stepped.trans (FollowsMeeting.requestSync stepped.changes.sound)
  obtain ⟨changes, peerT⟩ := asked.trans (FollowsMeeting.twinPush asked.changes.sound)
  generalize a.reselect.twinTime.step11.requestSync.twinPush = w at *
  have split : w.split = a.split := changes.flag F_TWN_STATUS_SPLIT
  refine ⟨_, run, (changes.flag F_TWN_STATUS_PEER_MET).trans met.met, met.gone.kept (changes.alarms _ (by decide)), peerT.trans peerM, ?_, fun parted => ?_, fun whole => ?_,
    (changes.reg A_TWN_PEER_EXEC).trans met.exec, (changes.reg A_TWN_PEER_SER0).trans met.serial, ?_, ?_⟩
  · rw [split, met.split, same]
  · exact (changes.alarms _ (by decide)).trans (met.raised (split ▸ parted))
  · exact (met.whole (split ▸ whole)).kept (changes.alarms _ (by decide))
  · have st : w.dev.st = a.dev.st := changes.frame .devSt (by simp)
    rw [st, show a.dev = u.dev from met.changes.frame .dev (by simp), show u.dev = s.dev from linked.frame .dev (by simp)]
  · exact ((linked.frame.mono (by simp)).trans (met.changes.frame.mono (by simp))).trans (changes.frame.mono (by simp))

theorem exec_authFrame_fails (takes : s.takesFrame 2 g = true) (empty : s.twn.link.queue = []) (peer : s.twn.peer = some h) (refused : s.verifies h q l = false) :
    ∃ t, exec (.authFrame g q l) s = .next t ∧ t.Alarmed 0x0403 ∧ AlarmsBut [0x0403] s t ∧ t.twn = { s.twn with link := s.linkAfter 2 g } ∧
    Frame [.alarms, .rcd, .twn, .regs] s t ∧ (s.Sound → FieldsBut recFields s t) := by
  have linked : Acts (partMask [.twn]) s (s.withLink (s.linkAfter 2 g)) := State.withLink_acts ..
  have peerU : (s.withLink (s.linkAfter 2 g)).twn.peer = some h := peer
  have run := exec_authFrame_takes takes q l
  rw [State.takeAuth_some peerU, State.verifies_of_withLink, if_neg (by simp [refused])] at run
  have twn : (s.withLink (s.linkAfter 2 g)).twn = { s.twn with link := s.linkAfter 2 g } := rfl
  generalize s.withLink (s.linkAfter 2 g) = u at *
  have now : (u.raise 0x0403).twn = { s.twn with link := s.linkAfter 2 g } := (State.raise_twn ..).trans twn
  have waits : (u.raise 0x0403).twn.link.queue = [] := by
    rw [now]
    exact empty
  rw [State.twinPush_idle waits] at run
  refine ⟨_, run, (alarm_raise ..).trans (if_pos rfl), fun c hc => ?_, now, ((linked.mono rfl).step (m := partMask [.alarms, .rcd, .twn, .regs]) (State.raise_acts ..) rfl).reaches,
    fun sound => ?_⟩
  · exact (alarm_raise_other fun same => hc (by simp [same])).trans (alarm_of_acts linked rfl)
  · have all : Changes [.alarms, .rcd, .twn, .regs] recFields [0x0403] s (u.raise 0x0403) := ((Changes.refl sound).acts linked).raise 0x0403 _
    exact all.fields

/-! START (R277). -/

theorem exec_startFrame_takes (takes : s.takesFrame 2 g = true) (f e : Nat) : exec (.startFrame g f e) s =
    .next (if s.boot.waitingTwin && s.peerMet && !s.split && s.pins.side = .drag then (s.withLink (s.linkAfter 2 g)).commonStart f e
      else s.withLink (s.linkAfter 2 g)).twinPush := congrArg Host.Outcome.next (State.onFrame_takes takes _)

theorem exec_startFrame_starts (takes : s.takesFrame 2 g = true) (waits : s.boot.waitingTwin = true) (met : s.peerMet = true) (whole : s.split = false)
    (side : s.pins.side = .drag) (f e : Nat) : ∃ t, exec (.startFrame g f e) s = .next t ∧
    t.boot.readyForFreeze = true ∧ t.boot.waitingTwin = false ∧ t.twn.startAt = some (f, e) ∧ t.dev.nextFreeze = f ∧ t.dev.stateEp = e - 1 ∧
    (∀ h, s.twn.peer = some h → t.twn.ladleEp = Nat.max s.twn.ladleEp h.ladleEp ∧ t.mram.ladleEp = Nat.max s.twn.ladleEp h.ladleEp) ∧
    t.dev.st = s.dev.st ∧ Frame [.boot, .dev, .devMode, .devEpoch, .mram, .twn, .ladle, .regs, .out] s t := by
  have linked : Acts (partMask [.twn]) s (s.withLink (s.linkAfter 2 g)) := State.withLink_acts ..
  have run := exec_startFrame_takes takes f e
  rw [if_pos (by simp [waits, met, whole, side])] at run
  have started := (s.withLink (s.linkAfter 2 g)).commonStart_starts f e
  have common : Frame [.boot, .dev, .devMode, .devEpoch, .mram, .twn, .ladle, .regs, .out] (s.withLink (s.linkAfter 2 g)) ((s.withLink (s.linkAfter 2 g)).commonStart f e) := by
    intro p hp
    cases p <;> first | rfl | simp at hp
  generalize (s.withLink (s.linkAfter 2 g)).commonStart f e = w at *
  have pushed : Frame [.twn, .out] w w.twinPush := (State.twinPush_acts w).reaches
  obtain ⟨m, twn⟩ := w.twinPush_same
  have boot : w.twinPush.boot = w.boot := pushed .boot (by simp)
  have dev : w.twinPush.dev = w.dev := pushed .dev (by simp)
  have mram : w.twinPush.mram = w.mram := pushed .mram (by simp)
  refine ⟨_, run, by rw [boot, started.ready], by rw [boot, started.ends], by rw [twn]; exact started.startAt, by rw [dev, started.next], by rw [dev, started.epoch],
    fun h known => ?_, ?_, ((linked.reaches).trans common).trans (pushed.mono (by simp))⟩
  · rw [twn, mram]
    exact started.ladle h known
  · rw [dev, started.st]
    rfl

theorem exec_startFrame_cope (takes : s.takesFrame 2 g = true) (empty : s.twn.link.queue = []) (side : s.pins.side = .cope) (f e : Nat) :
    ∃ t, exec (.startFrame g f e) s = .next t ∧ t.twn = { s.twn with link := s.linkAfter 2 g } ∧ Frame [.twn] s t := by
  have run := exec_startFrame_takes takes f e
  rw [if_neg (by simp [side]), State.twinPush_idle (s := s.withLink (s.linkAfter 2 g)) empty] at run
  exact ⟨_, run, rfl, (State.withLink_acts ..).reaches⟩

end

/-- Settles O26: how the twins meet, split and start, frame by frame. -/
theorem theTwinsMeetAndStartTogether : Obligations.TheTwinsMeetAndStartTogether := by
  unfold Obligations.TheTwinsMeetAndStartTogether
  refine ⟨fun n s on up unmet => ⟨_, exec_helloSend_sends on up unmet n, ?_⟩, fun n s met => exec_helloSend_met met n,
    fun g h s takes empty idle answered => exec_helloFrame_again takes empty idle answered, fun g h s takes empty idle fresh => exec_helloFrame_first takes empty idle fresh,
    fun g h s sound takes waits met answered alone => exec_helloFrame_alone sound takes waits met answered alone,
    fun g q v h s sound takes peer verified serial side => exec_authFrame_meets sound takes peer ?_,
    fun g q v h s takes empty peer refused => exec_authFrame_fails takes empty peer ?_,
    fun g f e s takes waits met whole side => exec_startFrame_starts takes waits met whole side f e,
    fun g f e s takes empty side => exec_startFrame_cope takes empty side f e⟩
  · have sent := s.helloSent n (100 * ms)
    exact ⟨sent.nonce, sent.sent, sent.again, sent.first, sent.last, sent.told, sent.frame⟩
  · rw [State.verifies, verified]
    simp [serial, side]
  · rw [State.verifies]
    rcases refused with bad | bad | bad
    · rw [bad]
      rfl
    · simp [bad]
    · simp [bad]

end Sys2Proof.Machine

/-! FUSION_STEP (R130 to R163): the slag list, the steps of the cycle and the published observer. -/
namespace Sys2Proof.Machine
set_option Elab.async false

section
variable {s t u : State} {n k q g a b i : Nat}

/-! What keeps the slag list and the steps of the cycle. -/

/-- Every slot on the slag list stays there, and the cycle keeps its freeze and its steps. -/
structure SlagKept (s t : State) : Prop where
  slag : ∀ n, (s.fslot n).st = 4 → (t.fslot n).st = 4
  done : t.dev.stepsDone = s.dev.stepsDone
  late : t.dev.stepsLate = s.dev.stepsLate
  freeze : t.dev.freezeAt = s.dev.freezeAt

theorem State.fslot_of_fus (fus : t.fus = s.fus) (n : Nat) : t.fslot n = s.fslot n := by rw [State.fslot, State.fslot, fus]

theorem State.setFslot_fslot (s : State) (n : Nat) (f : FSlot → FSlot) : (s.setFslot n f).fslot n = f (s.fslot n) := aget_aset_self

theorem State.setFslot_fslot_other (other : k ≠ n) (s : State) (f : FSlot → FSlot) : (s.setFslot n f).fslot k = s.fslot k := aget_aset_other other

namespace SlagKept

theorem refl (s : State) : SlagKept s s := ⟨fun _ h => h, rfl, rfl, rfl⟩

theorem trans (h : SlagKept s t) (k : SlagKept t u) : SlagKept s u :=
  ⟨fun n four => k.slag n (h.slag n four), k.done.trans h.done, k.late.trans h.late, k.freeze.trans h.freeze⟩

/-- An operation that leaves the slots of fusion and the device's own state alone. -/
theorem acts {m : Nat} (h : SlagKept s t) (k : Acts m t u) (fus : m.testBit Part.fus.idx = false := by decide) (dev : m.testBit Part.dev.idx = false := by decide) :
    SlagKept s u :=
  h.trans ⟨fun n four => (State.fslot_of_fus (k.frame .fus fus) n).symm ▸ four, congrArg Dev.stepsDone (k.frame .dev dev), congrArg Dev.stepsLate (k.frame .dev dev),
    congrArg Dev.freezeAt (k.frame .dev dev)⟩

/-- A record update that leaves the slots and the steps alone. -/
theorem upd (h : SlagKept s t) (u : State) (slots : u.fus.slots = t.fus.slots := by rfl) (done : u.dev.stepsDone = t.dev.stepsDone := by rfl)
    (late : u.dev.stepsLate = t.dev.stepsLate := by rfl) (freeze : u.dev.freezeAt = t.dev.freezeAt := by rfl) : SlagKept s u :=
  h.trans ⟨fun n four => by rw [State.fslot, slots]; exact four, done, late, freeze⟩

theorem setFslot (h : SlagKept s t) (n : Nat) (f : FSlot → FSlot) (kept : (t.fslot n).st = 4 → (f (t.fslot n)).st = 4) : SlagKept s (t.setFslot n f) := by
  refine h.trans ⟨fun m four => ?_, rfl, rfl, rfl⟩
  by_cases same : m = n
  · subst same
    rw [State.setFslot_fslot]
    exact kept four
  · rw [State.setFslot_fslot_other same]
    exact four

theorem setQuant (h : SlagKept s t) (q : Nat) (f : Quant → Quant) : SlagKept s (t.setQuant q f) := h.upd _

theorem setCond (h : SlagKept s t) (n : Nat) (b : Bool) : SlagKept s (t.setCond n b) := by
  unfold State.setCond
  split
  · exact h
  · exact (h.acts (State.setFlag_acts ..)).upd _

theorem raise (h : SlagKept s t) (c : Nat) (p : List Word) : SlagKept s (t.raise c p) := h.acts (State.raise_acts ..)

theorem causeGone (h : SlagKept s t) (c : Nat) : SlagKept s (t.causeGone c) := h.acts (State.causeGone_acts ..)

theorem event (h : SlagKept s t) (f : Fld) : SlagKept s (t.event f) := h.acts (State.event_acts ..)

theorem bump (h : SlagKept s t) (f : Fld) (n : Nat) : SlagKept s (t.bump f n) := h.acts (State.bump_acts ..)

theorem foldl {α : Type} (h : SlagKept s t) (l : List α) (f : State → α → State) (step : ∀ u x, SlagKept u (f u x)) : SlagKept s (l.foldl f t) :=
  List.foldlRecOn (motive := SlagKept s) l f h fun u hu x _ => hu.trans (step u x)

theorem each (h : SlagKept s t) (l : List Nat) (f : State → Nat → State) (step : ∀ u x, SlagKept u (f u x)) : SlagKept s (t.each l f) := h.foldl l f step

theorem ite {p : Prop} [Decidable p] {x y : State} (h : p → SlagKept s x) (k : ¬p → SlagKept s y) : SlagKept s (if p then x else y) := by
  split
  · exact h ‹_›
  · exact k ‹_›

/-! Intake (R134 to R143). -/

theorem slagSlot (h : SlagKept s t) (n reason : Nat) : SlagKept s (t.slagSlot n reason) := by
  unfold State.slagSlot
  extract_lets v fus w x
  have slagged : SlagKept s v := h.setFslot _ _ fun _ => rfl
  have told : SlagKept s x := ((slagged.upd w).event _).raise _ _
  exact .ite (fun _ => told.setCond _ _) fun _ => told

theorem timeOutSlot (h : SlagKept s t) (n : Nat) (other : (t.fslot n).st ≠ 4) : SlagKept s (t.timeOutSlot n) :=
  ((h.setFslot n _ fun four => absurd four other).event _).raise _ _

theorem resume (s : State) (n : Nat) : SlagKept s (s.resume n) := by
  unfold State.resume
  refine .ite (fun out => .ite (fun _ => (refl s).setFslot n _ fun four => ?_) fun _ => (refl s).setFslot n _ fun four => ?_) fun _ => refl s
  all_goals exact absurd (four.symm.trans out) (by decide)

theorem takeMeasurement (s : State) (n : Nat) (x : Int) (data : List Int) : SlagKept s (s.takeMeasurement n x data) := by
  unfold State.takeMeasurement
  extract_lets v vals
  have counted : SlagKept s v := (refl s).bump _ _
  exact .ite (fun _ => .ite (fun _ => (counted.setFslot n _ fun four => four).raise _ _) fun _ => counted) fun _ => (refl s).setFslot n _ fun four => four

theorem unwrapHeld (s : State) (n : Nat) : SlagKept s (s.unwrapHeld n) := (refl s).setFslot n _ fun four => four

theorem intakeInternal (s : State) (n : Nat) : SlagKept s (s.intakeInternal n) := by
  unfold State.intakeInternal
  extract_lets fix
  split
  · exact refl s
  · have noted : SlagKept s (s.setFslot n fun f => { f with lastAt := aset f.lastAt (s.slotSide n) s.dev.freezeAt }) := (refl s).setFslot n _ fun four => four
    exact (noted.trans (resume _ n)).trans (takeMeasurement _ n _ _)

theorem trackTime (s : State) (n : Nat) (m : Item) : SlagKept s (s.trackTime n m) :=
  .ite (fun _ => refl s) fun _ => (refl s).setFslot n _ fun four => four

theorem intakeMessages (s : State) (n : Nat) : SlagKept s (s.intakeMessages n) := by
  unfold State.intakeMessages
  extract_lets note s1 all taken good s2 s3 values
  have noted (v : State) (side : Nat) : SlagKept v (note v side) := by
    show SlagKept v (match ((v.slotItems n side).filter (v.messageOk n)).getLast? with
      | some i => v.setFslot n (fun f => { f with lastAt := aset f.lastAt side i.last })
      | none => v)
    split
    · exact (refl v).setFslot n _ fun four => four
    · exact refl v
  have counted : SlagKept s s2 := (((noted s 0).trans (noted _ 1)).bump _ _).bump _ _
  have tracked : SlagKept s s3 := counted.foldl good _ fun v m => trackTime v n m
  clear_value s3
  refine .ite (fun _ => .ite (fun _ => tracked) fun _ => ?_) fun _ => ?_
  · exact (tracked.foldl good _ fun v m => (refl v).upd _).trans (resume _ n)
  · split
    · exact tracked
    · next m _ =>
      extract_lets gst s4 s5
      have dropped : SlagKept s s5 := (tracked.setFslot n _ fun four => four).bump _ _
      exact (dropped.trans (resume _ n)).trans (takeMeasurement _ n _ _)

theorem intakeSlot (s : State) (n : Nat) : SlagKept s (s.intakeSlot n) := by
  unfold State.intakeSlot
  extract_lets v w
  have fresh : SlagKept s v := ((refl s).setFslot n _ fun four => four).trans (unwrapHeld _ n)
  refine .ite (fun suspect => .ite (fun _ => fresh) fun _ => fresh.timeOutSlot n ?_) fun _ => ?_
  · have other := (Bool.and_eq_true_iff.mp suspect).2
    simpa using other
  · have taken : SlagKept s w := .ite (fun _ => fresh.trans (intakeInternal v n)) fun _ => fresh.trans (intakeMessages v n)
    refine .ite (fun waits => taken.timeOutSlot n fun four => ?_) fun _ => taken
    have open' := (Bool.and_eq_true_iff.mp waits).1
    rw [State.slotWaits, four] at open'
    exact absurd open' (by decide)

/-! Tests and votes (R144 to R158). -/

theorem noteNis (s : State) (n q : Nat) (d : Nat × Nat) : SlagKept s (s.noteNis n q d) := .ite (fun _ => (refl s).setFslot n _ fun four => four) fun _ => refl s

theorem testProbation (s : State) (n : Nat) : SlagKept s (s.testProbation n) := by
  unfold State.testProbation
  extract_lets f qs v
  have noted : SlagKept s v := (refl s).foldl qs _ fun v k => noteNis v n k _
  exact .ite (fun _ => .ite (fun _ => noted.slagSlot n 2) fun _ => noted) fun _ => refl s

theorem endSlotHolds (s : State) (q : Nat) : SlagKept s (s.endSlotHolds q) := (refl s).each _ _ fun v n => (refl v).setFslot n _ fun four => four

theorem holdSlot (s : State) (q n : Nat) (out : Bool) : SlagKept s (s.holdSlot q n out) := by
  unfold State.holdSlot
  extract_lets v
  have noted : SlagKept s v := noteNis s n q _
  refine noted.setFslot n _ fun four => ?_
  split <;> exact four

theorem holdSource (s : State) (q g : Nat) (out : Bool) : SlagKept s (s.holdSource q g out) :=
  ((refl s).foldl _ _ fun v n => (noteNis v n q _).setFslot n _ fun four => four).setQuant q _

theorem voteByPrediction (s : State) (q : Nat) : SlagKept s (s.voteByPrediction q).1 := by
  unfold State.voteByPrediction
  extract_lets gs v w inn
  have held : SlagKept s w := (endSlotHolds s q).foldl gs _ fun v g => holdSource v q g _
  clear_value w inn gs
  split
  · split
    · exact held.setQuant q _
    · exact held.setQuant q _
  · exact held.setQuant q _

theorem voteByMedian (s : State) (q : Nat) : SlagKept s (s.voteByMedian q).1 := by
  unfold State.voteByMedian
  extract_lets ok inn v
  split
  · exact voteByPrediction s q
  · exact ((refl s).foldl _ _ fun v n => holdSlot v q n _).setQuant q _

theorem noteReduced (s : State) (q : Nat) (one : Bool) : SlagKept s (s.noteReduced q one) := by
  unfold State.noteReduced
  extract_lets v any w
  have marked : SlagKept s w := ((refl s).setQuant q _).setCond 1 any
  exact .ite (fun _ => marked.raise _ _) fun _ => .ite (fun _ => marked) fun _ => marked.causeGone _

theorem noteDr (s : State) (q : Nat) (used : Bool) : SlagKept s (s.noteDr q used) := by
  unfold State.noteDr
  extract_lets code v dr w
  have moved : SlagKept s v := by
    refine .ite (fun _ => ((refl s).setQuant q _).causeGone _) fun _ => ?_
    split
    · exact (((refl s).setQuant q _).event _).raise _ _
    · exact (refl s).setQuant q _
  have marked : SlagKept s w := moved.setCond 0 dr
  exact .ite (fun _ => marked) fun _ => (marked.causeGone _).causeGone _

theorem noteOther (s : State) (q : Nat) (used : Bool) : SlagKept s (s.noteOther q used) := by
  unfold State.noteOther
  extract_lets v supplied
  have marked : SlagKept s v := (refl s).setQuant q _
  exact .ite (fun _ => marked) fun _ => .ite (fun _ => marked.raise _ _) fun _ => marked

theorem slagSource (s : State) (q g : Nat) : SlagKept s (s.slagSource q g) := (refl s).each _ _ fun v n => (refl v).slagSlot n 2

theorem endConflict (s : State) (q : Nat) : SlagKept s (s.endConflict q) := by
  unfold State.endConflict
  split
  · exact (((refl s).setQuant q _).foldl _ _ fun v n => (refl v).slagSlot n 4).raise _ _
  · exact refl s

theorem persistDue (s : State) (q : Nat) : SlagKept s (s.persistDue q) := by
  unfold State.persistDue
  extract_lets due v w
  have tested : SlagKept s v := (refl s).each _ _ fun v n => (refl v).slagSlot n 1
  have sources : SlagKept s w := tested.each _ _ fun v g => slagSource v q g
  exact .ite (fun _ => sources.trans (endConflict w q)) fun _ => sources

theorem voteQuantity (s : State) (q : Nat) : SlagKept s (s.voteQuantity q).1 := by
  unfold State.voteQuantity
  extract_lets gs r used fresh lead v w x
  have voted : SlagKept s r.1 := by
    show SlagKept s (if !(s.quant q).init then (s, s.firstSources q) else if 3 ≤ gs.length then s.voteByMedian q else s.voteByPrediction q).1
    split
    · exact refl s
    · split
      · exact voteByMedian s q
      · exact voteByPrediction s q
  have due : SlagKept s v := (voted.setQuant q _).trans (persistDue _ q)
  have reduced : SlagKept s w := due.trans (noteReduced v q _)
  clear_value w v lead fresh used r
  show SlagKept s x
  exact .ite (fun _ => .ite (fun _ => reduced) fun _ => reduced.trans (noteOther w q _)) fun _ =>
    .ite (fun _ => reduced.trans (noteDr w q _)) fun _ => reduced.trans (noteOther w q _)

theorem voteAll (s : State) (l : List Nat) : SlagKept s (s.voteAll l).1 := by
  unfold State.voteAll
  refine List.foldlRecOn (motive := fun r : State × List (Nat × List Nat) => SlagKept s r.1) l _ (refl s) fun r hr q _ => ?_
  dsimp only
  exact hr.trans (voteQuantity r.1 q)

/-! Refinement, the observer and the rest of the step (R153 to R163). -/

theorem refineAxis (s : State) (n r a : Nat) : SlagKept s (s.refineAxis n r a) := by
  unfold State.refineAxis
  extract_lets key bound step old want new fus v
  have moved : SlagKept s v := (refl s).upd v
  exact .ite (fun _ => refl s) fun _ => .ite (fun _ => ((moved.upd _).event _).raise _ _) fun _ => moved

theorem refineSlot (s : State) (q n : Nat) : SlagKept s (s.refineSlot q n) :=
  (refl s).foldl _ _ fun v row => .ite (fun _ => (refl v).foldl _ _ fun w a => refineAxis w n row.1 a) fun _ => refl v

theorem refineQuantity (s : State) (q : Nat) (l : List Nat) : SlagKept s (s.refineQuantity q l) :=
  .ite (fun _ => (refl s).foldl _ _ fun v n => refineSlot v q n) fun _ => refl s

theorem observe (s : State) (l : List (Nat × List Nat)) : SlagKept s (s.observe l) := (refl s).upd _

theorem drRunsOn (s : State) (q : Nat) : SlagKept s (s.drRunsOn q) := by
  unfold State.drRunsOn
  split
  · exact (refl s).setQuant q _
  · exact refl s

end SlagKept

end

end Sys2Proof.Machine

/-! The commands of fusion (R131, R143 to R158). -/
namespace Sys2Proof.Machine
set_option Elab.async false

section
variable {s t u : State} {n k q g a b c e i : Nat} {l : List NavSolution}

/-! FUSION_STEP (R130 to R163). -/

theorem getLast?_drop_concat {α : Type} (l : List α) (x : α) (i : Nat) : ((l ++ [x]).drop (l.length - i)).getLast? = some x := by
  rw [List.drop_append_of_le_length (Nat.sub_le ..)]
  exact List.getLast?_concat

/-- What the update of the observer leaves. -/
structure Observed (s t : State) : Prop where
  last : t.fus.history.getLast? = some (s.dev.freezeAt, t.fus.obs)
  obs : t.fus.obs.length = obsSize
  pub : t.fus.pub.length = 18

theorem State.observe_observes (s : State) (l : List (Nat × List Nat)) : Observed s (s.observe l) :=
  ⟨getLast?_drop_concat .., by simp [State.observe], by simp [State.observe]⟩

theorem Observed.of_fus (h : Observed s t) (same : u.fus = t.fus) : Observed s u := ⟨same ▸ h.last, same ▸ h.obs, same ▸ h.pub⟩

theorem Observed.of_freeze (h : Observed t u) (freeze : t.dev.freezeAt = s.dev.freezeAt) : Observed s u := ⟨freeze ▸ h.last, h.obs, h.pub⟩

/-- R134 to R158: intake, the tests of probation and the votes of a step. -/
def State.voted (s : State) (l : List NavSolution) : State × List (Nat × List Nat) :=
  let s2 := s.navigate l
  let s3 := s2.each s2.slotList State.intakeSlot
  (s3.each s3.slotList State.testProbation).voteAll (List.range 6)

/-- R159 to R163: refinement and the observer after the votes. -/
def State.refinedObserved (r : State × List (Nat × List Nat)) : State := (r.2.foldl (fun (t : State) e => t.refineQuantity e.1 e.2) r.1).observe r.2

/-- R344: what the solutions of the blocks agreed on in `s` give the time of `v`, and the snapshot of a fresh suspicion. -/
def State.timedOf (s v : State) (l : List NavSolution) : State :=
  let s7 := (l.filter (fun v => s.blockAgreed v.side)).foldl State.gnssTime v
  if (s7.suspected s7.pins.side && !s.suspected s.pins.side) && s7.par 0x061A = 1 then s7.snapTrigger 1 (s7.windowEnd 5000) else s7

theorem exec_fusionStep_done (opens : s.stepOpen 2 = true) (kept : s.hlt.discarded.contains 2 = false) (l : List NavSolution) :
    exec (.fusionStep l) s = .next ((s.timedOf (State.refinedObserved (s.voted l)).settleSlag l).stepDone 2) := by
  rw [exec_fusionStep, execFusionStep, opens, kept]
  rfl

/-- The step is late. -/
def State.stepLate (s : State) (n : Nat) : State := { s with dev := { s.dev with stepsLate := insertNew s.dev.stepsLate n } }

theorem exec_fusionStep_late (opens : s.stepOpen 2 = true) (lost : s.hlt.discarded.contains 2 = true) (l : List NavSolution) :
    exec (.fusionStep l) s = .next (s.stepLate 2).fusionLate := by
  have late : ({ s with dev := { s.dev with stepsLate := insertNew s.dev.stepsLate 2 } } : State) = s.stepLate 2 := rfl
  rw [exec_fusionStep, execFusionStep, if_neg (by simp [opens]), if_pos lost, late]

theorem exec_fusionStep_closed (closed : s.stepOpen 2 = false) (l : List NavSolution) : exec (.fusionStep l) s = .next s := by
  rw [exec_fusionStep, execFusionStep, closed]
  rfl

theorem State.voted_kept (s : State) (l : List NavSolution) : SlagKept s (s.voted l).1 := by
  unfold State.voted
  extract_lets s2 s3
  have navigated : SlagKept s s2 := (SlagKept.refl s).acts (State.navigate_acts ..)
  have taken : SlagKept s s3 := navigated.each _ _ fun v n => SlagKept.intakeSlot v n
  exact (taken.each _ _ fun v n => SlagKept.testProbation v n).trans (SlagKept.voteAll _ _)

theorem State.refinedObserved_kept (r : State × List (Nat × List Nat)) : SlagKept r.1 (State.refinedObserved r) ∧ Observed r.1 (State.refinedObserved r) := by
  have refined : SlagKept r.1 (r.2.foldl (fun (t : State) e => t.refineQuantity e.1 e.2) r.1) :=
    (SlagKept.refl r.1).foldl _ _ fun v e => SlagKept.refineQuantity v e.1 e.2
  exact ⟨refined.trans (SlagKept.observe _ _), (State.observe_observes ..).of_freeze refined.freeze⟩

theorem State.timedOf_acts (s v : State) (l : List NavSolution) : Acts (partMask [.alarms, .rcd, .tim, .gns, .regs]) v (s.timedOf v l) := by
  unfold State.timedOf
  extract_lets s7
  have timed : Acts (partMask [.alarms, .rcd, .tim, .gns, .regs]) v s7 :=
    List.foldlRecOn (motive := fun w => Acts (partMask [.alarms, .rcd, .tim, .gns, .regs]) v w) _ _ (.refl v) fun w hw x _ => hw.step (State.gnssTime_acts w x) rfl
  split
  · exact timed.step (State.snapTrigger_acts ..) rfl
  · exact timed

theorem State.fslot_of_slots {s t : State} (same : t.fus = s.fus) (n : Nat) : (t.fslot n).st = (s.fslot n).st := by rw [State.fslot_of_fus same]

theorem exec_fusionStep_fuses (opens : s.stepOpen 2 = true) (kept : s.hlt.discarded.contains 2 = false) (l : List NavSolution) :
    ∃ t, exec (.fusionStep l) s = .next t ∧ t.dev.stepsDone = insertNew s.dev.stepsDone 2 ∧ (∀ n, (s.fslot n).st = 4 → (t.fslot n).st = 4) ∧
    t.fus.history.getLast? = some (s.dev.freezeAt, t.fus.obs) ∧ t.fus.obs.length = obsSize ∧
    t.fus.pub.length = 18 ∧ Frame [.dev, .alarms, .rcd, .tim, .gns, .fus, .regs] s t := by
  obtain ⟨t, next, acts⟩ := execFusionStep_acts l s
  have run := exec_fusionStep_done opens kept l
  rw [exec_fusionStep, next] at run
  have voted := s.voted_kept l
  obtain ⟨refined, observed⟩ := State.refinedObserved_kept (s.voted l)
  have before := voted.trans refined
  have shown := observed.of_freeze voted.freeze
  generalize State.refinedObserved (s.voted l) = v at *
  have settled : SlagKept s v.settleSlag := before.setCond _ _
  have fusV : v.settleSlag.fus = v.fus := (State.settleSlag_acts v).frame .fus rfl
  generalize v.settleSlag = w at *
  have timed := s.timedOf_acts w l
  have after := settled.acts timed
  have fusW : (s.timedOf w l).fus = v.fus := (timed.frame .fus rfl).trans fusV
  generalize s.timedOf w l = x at *
  have final : Observed s (x.stepDone 2) := shown.of_fus fusW
  obtain rfl := Host.Outcome.next.inj run
  refine ⟨_, (exec_fusionStep l s).trans next, ?_, fun n four => after.slag n four, final.last, final.obs, final.pub, acts.reaches⟩
  show insertNew x.dev.stepsDone 2 = _
  rw [after.done]

theorem State.fusionLate_kept (s : State) : SlagKept s s.fusionLate ∧ Observed s s.fusionLate := by
  unfold State.fusionLate
  extract_lets t u
  have stale : SlagKept s t := (SlagKept.refl s).each _ _ fun v n => (SlagKept.refl v).setFslot n _ fun four => four
  have run : SlagKept s u := (stale.each _ _ fun v q => ((SlagKept.refl v).setQuant q _).trans (SlagKept.persistDue _ q)).each _ _ fun v q => SlagKept.drRunsOn v q
  clear_value u
  have observed := run.trans (SlagKept.observe u [])
  exact ⟨observed.setCond _ _, ((u.observe_observes []).of_freeze run.freeze).of_fus ((State.settleSlag_acts _).frame .fus rfl)⟩

theorem exec_fusionStep_lost (opens : s.stepOpen 2 = true) (lost : s.hlt.discarded.contains 2 = true) (l : List NavSolution) :
    ∃ t, exec (.fusionStep l) s = .next t ∧ t.dev.stepsLate = insertNew s.dev.stepsLate 2 ∧ t.dev.stepsDone = s.dev.stepsDone ∧
    (∀ n, (s.fslot n).st = 4 → (t.fslot n).st = 4) ∧ t.fus.history.getLast? = some (s.dev.freezeAt, t.fus.obs) ∧
    Frame [.dev, .alarms, .rcd, .tim, .gns, .fus, .regs] s t := by
  obtain ⟨t, next, acts⟩ := execFusionStep_acts l s
  have run := exec_fusionStep_late opens lost l
  rw [exec_fusionStep, next] at run
  obtain ⟨kept, observed⟩ := (s.stepLate 2).fusionLate_kept
  obtain rfl := Host.Outcome.next.inj run
  exact ⟨_, (exec_fusionStep l s).trans next, kept.late, kept.done, kept.slag, observed.last, acts.reaches⟩

end

end Sys2Proof.Machine

/-! The timers of the sensor slots and of the fused quantities (R143, R147 to R154, R158). -/
namespace Sys2Proof.Machine
set_option Elab.async false

section
variable {s t u r : State} {n k q g a b c e i m reason : Nat}

theorem State.fus_reached (s : State) (e : Nat) : (s.reach e).fus = s.fus := rfl

theorem State.reach_frame' (s : State) (e : Nat) : Frame [.tim, .elapsed, .working] s (s.reach e) := (s.reach_acts' e).framed

theorem State.judgedLater_reach (s : State) (e i : Nat) : (s.reach e).judgedLater i = s.judgedLater i := rfl

theorem State.messagePending_reach (s : State) (e n i : Nat) : (s.reach e).messagePending n i = s.messagePending n i := rfl

/-! SLOT_TIMEOUT (R143). -/

theorem exec_slotTimeout_times (cycle : s.fullCycle = true) (used : s.slotUsed n = true) (waits : (s.fslot n).st = 1 ∨ (s.fslot n).st = 3)
    (now : s.judgedLater (s.slotExpiry n) = false) (heard : s.messagePending n (s.slotExpiry n) = false) :
    exec (.slotTimeout n) s = .next ((s.reach (s.slotExpiry n)).timeOutSlot n) := by
  have runs : (s.fullCycle && s.slotUsed n && s.slotWaits n) = true := by
    rw [cycle, used, State.slotWaits]
    rcases waits with h | h <;> rw [h] <;> rfl
  rw [exec_slotTimeout, execSlotTimeout, if_pos runs]
  generalize s.slotExpiry n = e at *
  have judged : ¬(((s.reach e).judgedLater e || (s.reach e).messagePending n e) = true) := by
    rw [State.judgedLater_reach, State.messagePending_reach, now, heard]
    simp
  exact congrArg Host.Outcome.next (if_neg judged)

/-- What the time-out of slot `n` leaves. -/
structure SlotTimedOut (s t : State) (n : Nat) : Prop where
  slot : t.fslot n = { s.fslot n with st := 2, vals := [], held := false, heldSince := [] }
  others : ∀ m, m ≠ n → t.fslot m = s.fslot m
  alarmed : t.Alarmed 0x1201
  event : t.flag F_FUS_EVENT_TIMEOUT = true
  changes : Changes [.alarms, .rcd, .fus, .regs] (F_FUS_EVENT_TIMEOUT :: recFields) [0x1201] s t

theorem State.timeOutSlot_times (sound : s.Sound) (n : Nat) : SlotTimedOut s (s.timeOutSlot n) n := by
  have fus : (s.timeOutSlot n).fus = (s.setFslot n fun f => { f with st := 2, vals := [], held := false, heldSince := [] }).fus :=
    ((State.raise_acts ..).frame .fus rfl).trans ((State.event_acts ..).frame .fus rfl)
  have set : Changes [.alarms, .rcd, .fus, .regs] (F_FUS_EVENT_TIMEOUT :: recFields) [0x1201] s
    (s.setFslot n fun f => { f with st := 2, vals := [], held := false, heldSince := [] }) := (Changes.refl sound).upd _
  have told := set.sound.setFld F_FUS_EVENT_TIMEOUT 1
  have raised : Changes [.alarms, .rcd, .regs] recFields [0x1201] _ (s.timeOutSlot n) := (Changes.refl told).raise 0x1201 (pay [n])
  refine ⟨?_, fun m other => ?_, (alarm_raise ..).trans (if_pos rfl), (raised.flag _).trans (flag_event set.sound _ rfl),
    (set.event F_FUS_EVENT_TIMEOUT).raise 0x1201 _ (hf := fun f hf => List.mem_cons_of_mem _ hf)⟩
  · rw [State.fslot_of_fus fus, State.setFslot_fslot]
  · rw [State.fslot_of_fus fus, State.setFslot_fslot_other other]

/-! The slag list (R147 to R152). -/

/-- The slots of a list go to the slag list for a reason. -/
structure Slagged (s t : State) (l : List Nat) (reason : Nat) : Prop where
  slag : ∀ m ∈ l, (t.fslot m).st = 4 ∧ (t.fslot m).reason = reason ∧ (t.fslot m).epoch = s.dev.stateEp
  others : ∀ m, m ∉ l → t.fslot m = s.fslot m
  conflict : ∀ q, (t.quant q).conflict = (s.quant q).conflict
  alarms : AlarmsBut [0x1202] s t
  epoch : t.dev.stateEp = s.dev.stateEp
  acts : Acts (partMask [.dev, .alarms, .rcd, .fus, .regs]) s t
  dev : reason ≠ 4 → t.dev = s.dev

theorem State.quant_of_fus (fus : t.fus = s.fus) (q : Nat) : t.quant q = s.quant q := by rw [State.quant, State.quant, fus]

theorem Slagged.refl (s : State) (reason : Nat) : Slagged s s [] reason :=
  ⟨fun m hm => by simp at hm, fun _ _ => rfl, fun _ => rfl, fun _ _ => rfl, rfl, .refl s, fun _ => rfl⟩

theorem State.setCond_epoch (s : State) (n : Nat) (f : Bool) : (s.setCond n f).dev.stateEp = s.dev.stateEp :=
  congrArg (fun x => x.2.1) (show ((s.setCond n f).dev.freezes, (s.setCond n f).dev.stateEp, (s.setCond n f).dev.freezeAt) = _ from (State.setCond_acts s n f).frame .devEpoch rfl)

theorem State.setFslot_quant (s : State) (n : Nat) (f : FSlot → FSlot) (q : Nat) : (s.setFslot n f).quant q = s.quant q := rfl

/-- Slot `n` on the slag list, and the quantities without the sources that no slot is left of. -/
def State.slagMarked (s : State) (n reason : Nat) : State :=
  let t := s.setFslot n (fun f => { f with st := 4, reason, epoch := s.dev.stateEp, heldSince := [], vals := [], held := false })
  { t with fus := { t.fus with quants := t.fus.quants.map (fun (q : Quant) =>
    if t.slotList.any (fun m => t.slotGroup m == t.slotGroup n && (t.fslot m).st == 1) then q
    else { q with out := adel q.out (t.slotGroup n) }) } }

/-- Slot `n` on the slag list, with what reports it. -/
def State.slagTold (s : State) (n reason : Nat) : State := ((s.slagMarked n reason).event F_FUS_EVENT_SLAG).raise 0x1202 (pay [n, reason])

theorem State.slagSlot_eq (s : State) (n reason : Nat) :
    s.slagSlot n reason = if reason = 4 then (s.slagTold n reason).setCond 2 true else s.slagTold n reason := rfl

theorem State.slagMarked_fslot (s : State) (n reason m : Nat) : (s.slagMarked n reason).fslot m =
    (s.setFslot n (fun f => { f with st := 4, reason, epoch := s.dev.stateEp, heldSince := [], vals := [], held := false })).fslot m := rfl

theorem State.slagMarked_conflict (s : State) (n reason q : Nat) : ((s.slagMarked n reason).quant q).conflict = (s.quant q).conflict := by
  unfold State.slagMarked State.quant
  extract_lets v fus
  show Quant.conflict (List.getD (v.fus.quants.map _) q {}) = Quant.conflict (v.fus.quants.getD q {})
  rw [List.getD_eq_getElem?_getD, List.getD_eq_getElem?_getD, List.getElem?_map]
  cases v.fus.quants[q]? with
  | none => rfl
  | some x =>
    simp only [Option.map_some, Option.getD_some]
    split <;> rfl

theorem State.slagTold_slags (s : State) (n reason : Nat) : Slagged s (s.slagTold n reason) [n] reason ∧ (s.slagTold n reason).Alarmed 0x1202 ∧
    (s.slagTold n reason).dev = s.dev := by
  have acts₀ : Acts (partMask [.fus]) s (s.slagMarked n reason) := Acts.upd_fus (m := partMask [.fus]) ((State.setFslot_acts ..).mono rfl) rfl
  have told : Acts (partMask [.alarms, .rcd, .regs]) (s.slagMarked n reason) (s.slagTold n reason) := ((State.event_acts _ _).mono rfl).step (State.raise_acts ..) rfl
  have dev : (s.slagTold n reason).dev = s.dev := (told.frame .dev rfl).trans (acts₀.frame .dev rfl)
  have fus : (s.slagTold n reason).fus = (s.slagMarked n reason).fus := told.frame .fus rfl
  refine ⟨⟨fun m hm => ?_, fun m hm => ?_, fun q => ?_, fun x hx => ?_, congrArg Dev.stateEp dev, (acts₀.mono rfl).step told rfl, fun _ => dev⟩,
    (alarm_raise ..).trans (if_pos rfl), dev⟩
  · obtain rfl : m = n := by simpa using hm
    rw [State.fslot_of_fus fus, State.slagMarked_fslot, State.setFslot_fslot]
    exact ⟨rfl, rfl, rfl⟩
  · rw [State.fslot_of_fus fus, State.slagMarked_fslot, State.setFslot_fslot_other (by simpa using hm)]
  · rw [State.quant_of_fus fus, State.slagMarked_conflict]
  · refine (alarm_raise_other fun same => hx (by simp [same])).trans ?_
    exact (alarm_of_acts (State.event_acts ..) rfl).trans (alarm_of_acts acts₀ rfl)

theorem State.slagSlot_slags (s : State) (n reason : Nat) : Slagged s (s.slagSlot n reason) [n] reason ∧ (s.slagSlot n reason).Alarmed 0x1202 := by
  obtain ⟨slagged, alarmed, dev⟩ := s.slagTold_slags n reason
  rw [State.slagSlot_eq]
  split
  · next four =>
    have cond := State.setCond_acts (s.slagTold n reason) 2 true
    have fus : ((s.slagTold n reason).setCond 2 true).fus = (s.slagTold n reason).fus := cond.frame .fus rfl
    refine ⟨⟨fun m hm => ?_, fun m hm => ?_, fun q => ?_, fun x hx => (alarm_of_acts cond rfl).trans (slagged.alarms x hx),
      (State.setCond_epoch ..).trans slagged.epoch, slagged.acts.step cond rfl, fun other => absurd four other⟩, (alarm_of_acts cond rfl).trans alarmed⟩
    · rw [State.fslot_of_fus fus]
      exact slagged.slag m hm
    · rw [State.fslot_of_fus fus]
      exact slagged.others m hm
    · rw [State.quant_of_fus fus]
      exact slagged.conflict q
  · exact ⟨slagged, alarmed⟩

theorem Slagged.trans {l₁ l₂ : List Nat} (h : Slagged s t l₁ reason) (k : Slagged t u l₂ reason) : Slagged s u (l₁ ++ l₂) reason where
  slag m hm := by
    by_cases later : m ∈ l₂
    · rw [← h.epoch]
      exact k.slag m later
    · rw [k.others m later]
      exact h.slag m ((List.mem_append.mp hm).resolve_right later)
  others m hm := by
    obtain ⟨first, second⟩ := not_or.mp (List.mem_append.not.mp hm)
    exact (k.others m second).trans (h.others m first)
  conflict q := (k.conflict q).trans (h.conflict q)
  alarms c hc := (k.alarms c hc).trans (h.alarms c hc)
  epoch := k.epoch.trans h.epoch
  acts := h.acts.step k.acts rfl
  dev other := (k.dev other).trans (h.dev other)

theorem State.slagAll (s : State) (l : List Nat) (reason : Nat) : Slagged s (s.each l fun u n => u.slagSlot n reason) l reason := by
  induction l generalizing s with
  | nil => exact .refl s reason
  | cons n l ih => exact (s.slagSlot_slags n reason).1.trans (ih (s.slagSlot n reason))

/-! GATE_PERSIST_EXPIRY (R147, R148, R151, R152). -/

theorem exec_gatePersistExpiry_none (idle : s.firstHold n = none) : exec (.gatePersistExpiry n) s = .next s := by
  rw [exec_gatePersistExpiry, execGatePersistExpiry, idle]

theorem exec_gatePersistExpiry_some (first : s.firstHold n = some (q, a, k)) (now : s.judgedLater (a + s.persistNs) = false) :
    exec (.gatePersistExpiry n) s = .next (if k = 1 then (s.reach (a + s.persistNs)).slagSlot n 1
      else (s.reach (a + s.persistNs)).slagSource q (s.slotGroup n)) := by
  rw [exec_gatePersistExpiry, execGatePersistExpiry, first]
  dsimp only
  obtain ⟨e, due⟩ : ∃ e, a + s.persistNs = e := ⟨_, rfl⟩
  rw [due] at now ⊢
  have judged : ¬((s.reach e).judgedLater e = true) := by
    rw [State.judgedLater_reach, now]
    simp
  exact congrArg Host.Outcome.next (if_neg judged)

theorem State.le_reach (s : State) (e : Nat) : e ≤ (s.reach e).tim.wt := by
  rw [State.reach_max]
  exact Nat.le_max_right ..

/-- What leaves slots on the slag list at the working time `e`. -/
structure SlaggedAt (s t : State) (l : List Nat) (reason e : Nat) : Prop where
  slag : ∀ m ∈ l, (t.fslot m).st = 4 ∧ (t.fslot m).reason = reason ∧ (t.fslot m).epoch = s.dev.stateEp
  others : ∀ m, m ∉ l → t.fslot m = s.fslot m
  alarms : AlarmsBut [0x1202] s t
  time : e ≤ t.tim.wt
  frame : reason ≠ 4 → Frame [.alarms, .rcd, .tim, .elapsed, .working, .fus, .regs] s t

theorem Slagged.reached {l : List Nat} (h : Slagged (s.reach e) t l reason) : SlaggedAt s t l reason e := by
  have tim : t.tim = (s.reach e).tim := h.acts.frame .tim rfl
  refine ⟨h.slag, h.others, h.alarms, tim ▸ s.le_reach e, fun other p hp => ?_⟩
  by_cases own : p ∈ [Part.dev, .alarms, .rcd, .fus, .regs]
  · have kept : t.dev = s.dev := h.dev other
    obtain rfl : p = .dev := by
      simp only [List.mem_cons, List.not_mem_nil, or_false] at own hp
      tauto
    exact kept
  · have all : Frame [.dev, .alarms, .rcd, .tim, .elapsed, .working, .fus, .regs] s t := ((s.reach_frame' e).mono (by simp)).trans (h.acts.framed.mono (by simp))
    refine all p ?_
    simp only [List.mem_cons, List.not_mem_nil, or_false] at own hp ⊢
    tauto

end

end Sys2Proof.Machine

/-! The expiries of fusion (R92, R93, R143, R147 to R154). -/
namespace Sys2Proof.Machine
set_option Elab.async false

section
variable {s t u r : State} {n k q g a b c e i m : Nat} {f : Bool}

theorem State.groupSlots_reach (s : State) (e q g : Nat) : (s.reach e).groupSlots q g = s.groupSlots q g := rfl

theorem State.groups_reach (s : State) (e q : Nat) : (s.reach e).groups q = s.groups q := rfl

theorem State.leads_reach (s : State) (e q a b : Nat) : (s.reach e).leads q a b = s.leads q a b := rfl

/-! SLOT_TIMEOUT (R143). -/

/-- What the time-out of slot `n` leaves at the working time `e`. -/
structure SlotTimedOutAt (s t : State) (n e : Nat) : Prop where
  slot : t.fslot n = { s.fslot n with st := 2, vals := [], held := false, heldSince := [] }
  others : ∀ m, m ≠ n → t.fslot m = s.fslot m
  alarmed : t.Alarmed 0x1201
  event : t.flag F_FUS_EVENT_TIMEOUT = true
  time : e ≤ t.tim.wt
  changes : Changes [.alarms, .rcd, .tim, .elapsed, .working, .fus, .regs] (F_FUS_EVENT_TIMEOUT :: recFields) [0x1201] s t

theorem State.timeOutSlot_reached (sound : s.Sound) (n e : Nat) : SlotTimedOutAt s ((s.reach e).timeOutSlot n) n e := by
  have moved : Changes [.tim, .elapsed, .working] [] [] s (s.reach e) := (Changes.refl sound).acts (State.reach_acts ..)
  have out := State.timeOutSlot_times moved.sound n
  have tim : ((s.reach e).timeOutSlot n).tim = (s.reach e).tim := out.changes.frame .tim (by simp)
  exact ⟨out.slot, out.others, out.alarmed, out.event, tim ▸ s.le_reach e, (moved.mono).trans out.changes.mono⟩

theorem exec_slotTimeout_ends (sound : s.Sound) (cycle : s.fullCycle = true) (used : s.slotUsed n = true) (waits : (s.fslot n).st = 1 ∨ (s.fslot n).st = 3)
    (now : s.judgedLater (s.slotExpiry n) = false) (heard : s.messagePending n (s.slotExpiry n) = false) :
    ∃ t, exec (.slotTimeout n) s = .next t ∧ SlotTimedOutAt s t n (s.slotExpiry n) :=
  ⟨_, exec_slotTimeout_times cycle used waits now heard, State.timeOutSlot_reached sound n _⟩

/-! GATE_PERSIST_EXPIRY (R147, R148). -/

theorem State.slagSlot_reached (s : State) (n reason e : Nat) : SlaggedAt s ((s.reach e).slagSlot n reason) [n] reason e ∧
    ((s.reach e).slagSlot n reason).Alarmed 0x1202 := by
  obtain ⟨slagged, alarmed⟩ := (s.reach e).slagSlot_slags n reason
  exact ⟨slagged.reached, alarmed⟩

theorem State.slagSource_reached (s : State) (q g e : Nat) : SlaggedAt s ((s.reach e).slagSource q g) (s.groupSlots q g) 2 e :=
  ((s.reach e).slagAll (s.groupSlots q g) 2).reached

theorem exec_gatePersistExpiry_slot (first : s.firstHold n = some (q, a, 1)) (now : s.judgedLater (a + s.persistNs) = false) :
    ∃ t, exec (.gatePersistExpiry n) s = .next t ∧ SlaggedAt s t [n] 1 (a + s.persistNs) ∧ t.Alarmed 0x1202 :=
  ⟨_, exec_gatePersistExpiry_some first now, s.slagSlot_reached n 1 _⟩

theorem exec_gatePersistExpiry_source (first : s.firstHold n = some (q, a, k)) (other : k ≠ 1) (now : s.judgedLater (a + s.persistNs) = false) :
    ∃ t, exec (.gatePersistExpiry n) s = .next t ∧ SlaggedAt s t (s.groupSlots q (s.slotGroup n)) 2 (a + s.persistNs) := by
  have run := exec_gatePersistExpiry_some first now
  rw [if_neg other] at run
  exact ⟨_, run, s.slagSource_reached q (s.slotGroup n) _⟩

/-! CONFLICT_PERSIST_EXPIRY (R149). -/

theorem State.quant_setQuant (low : q < s.fus.quants.length) (f : Quant → Quant) : (s.setQuant q f).quant q = f (s.quant q) := by
  simp only [State.quant, State.setQuant, setNth, List.getD_eq_getElem?_getD, List.getElem?_modify_eq]
  rw [List.getElem?_eq_getElem low]
  rfl

theorem State.quant_setQuant_other (other : k ≠ q) (s : State) (f : Quant → Quant) : (s.setQuant q f).quant k = s.quant k := by
  simp only [State.quant, State.setQuant, setNth, List.getD_eq_getElem?_getD, List.getElem?_modify, if_neg other.symm]
  cases s.fus.quants[k]? <;> rfl

theorem State.quant_given (given : s.quant q ≠ {}) : q < s.fus.quants.length := by
  by_contra high
  exact given (by rw [State.quant, List.getD_eq_getElem?_getD, List.getElem?_eq_none (by omega), Option.getD_none])

/-- R149: the source of a conflict that does not lead. -/
def State.loser (s : State) (q a b : Nat) : Nat := if s.leads q b a then a else b

/-- What the end of a conflict leaves. -/
structure ConflictEnded (s t : State) (q : Nat) (l : List Nat) : Prop where
  slag : ∀ m ∈ l, (t.fslot m).st = 4 ∧ (t.fslot m).reason = 4
  others : ∀ m, m ∉ l → t.fslot m = s.fslot m
  ended : (t.quant q).conflict = none
  alarmed : t.Alarmed 0x1203
  alarms : AlarmsBut [0x1202, 0x1203] s t
  acts : Acts (partMask [.dev, .alarms, .rcd, .fus, .regs]) s t

theorem State.endConflict_eq (two : s.groups q = [a, b]) : s.endConflict q =
    ((s.setQuant q fun x => { x with conflict := none }).each (s.groupSlots q (s.loser q a b)) fun u n => u.slagSlot n 4).raise 0x1203 := by
  rw [State.endConflict, two]
  rfl

theorem State.endConflict_ends (two : s.groups q = [a, b]) (conflict : (s.quant q).conflict = some c) :
    ConflictEnded s (s.endConflict q) q (s.groupSlots q (s.loser q a b)) := by
  have given : q < s.fus.quants.length := State.quant_given fun none' => by rw [none'] at conflict; simp at conflict
  have fslot (m : Nat) : (s.setQuant q fun x => { x with conflict := none }).fslot m = s.fslot m := rfl
  have ended : ((s.setQuant q fun x => { x with conflict := none }).quant q).conflict = none := by rw [State.quant_setQuant given]
  have acts : Acts (partMask [.fus]) s (s.setQuant q fun x => { x with conflict := none }) := (State.setQuant_acts ..).mono rfl
  rw [State.endConflict_eq two]
  generalize s.setQuant q _ = v at *
  generalize s.groupSlots q _ = l
  have slagged := v.slagAll l 4
  generalize (v.each l fun u n => u.slagSlot n 4) = w at *
  have fus : (w.raise 0x1203).fus = w.fus := (State.raise_acts ..).frame .fus rfl
  refine ⟨fun m hm => ?_, fun m hm => ?_, ?_, (alarm_raise ..).trans (if_pos rfl), fun d hd => ?_, ((acts.mono rfl).step slagged.acts rfl).step (State.raise_acts ..) rfl⟩
  · obtain ⟨st, reason, _⟩ := slagged.slag m hm
    rw [State.fslot_of_fus fus]
    exact ⟨st, reason⟩
  · rw [State.fslot_of_fus fus, slagged.others m hm, fslot]
  · rw [State.quant_of_fus fus, slagged.conflict, ended]
  · obtain ⟨first, second⟩ : d ≠ 0x1202 ∧ d ≠ 0x1203 := by simpa using hd
    exact (alarm_raise_other fun same => second same.symm).trans ((slagged.alarms d (by simpa using first)).trans (alarm_of_acts acts rfl))

theorem exec_conflictPersistExpiry_some (conflict : (s.quant q).conflict = some c) (now : s.judgedLater (c + s.persistNs) = false) :
    exec (.conflictPersistExpiry q) s = .next ((s.reach (c + s.persistNs)).endConflict q) := by
  rw [exec_conflictPersistExpiry, execConflictPersistExpiry, conflict]
  dsimp only
  obtain ⟨e, due⟩ : ∃ e, c + s.persistNs = e := ⟨_, rfl⟩
  rw [due] at now ⊢
  have judged : ¬((s.reach e).judgedLater e = true) := by
    rw [State.judgedLater_reach, now]
    simp
  exact congrArg Host.Outcome.next (if_neg judged)

/-- What the end of a conflict leaves that has lasted until the working time `e`. -/
structure ConflictEndedAt (s t : State) (q e : Nat) (l : List Nat) : Prop where
  slag : ∀ m ∈ l, (t.fslot m).st = 4 ∧ (t.fslot m).reason = 4
  others : ∀ m, m ∉ l → t.fslot m = s.fslot m
  ended : (t.quant q).conflict = none
  alarmed : t.Alarmed 0x1203
  alarms : AlarmsBut [0x1202, 0x1203] s t
  time : e ≤ t.tim.wt
  frame : Frame [.dev, .alarms, .rcd, .tim, .elapsed, .working, .fus, .regs] s t

theorem State.endConflict_reached (two : s.groups q = [a, b]) (conflict : (s.quant q).conflict = some c) (e : Nat) :
    ConflictEndedAt s ((s.reach e).endConflict q) q e (s.groupSlots q (s.loser q a b)) := by
  have ended := State.endConflict_ends (s := s.reach e) two conflict
  have tim : ((s.reach e).endConflict q).tim = (s.reach e).tim := ended.acts.frame .tim rfl
  exact ⟨ended.slag, ended.others, ended.ended, ended.alarmed, ended.alarms, tim ▸ s.le_reach e,
    ((s.reach_frame' e).mono (by simp)).trans (ended.acts.framed.mono (by simp))⟩

theorem exec_conflictPersistExpiry_ends (conflict : (s.quant q).conflict = some c) (two : s.groups q = [a, b]) (now : s.judgedLater (c + s.persistNs) = false) :
    ∃ t, exec (.conflictPersistExpiry q) s = .next t ∧ ConflictEndedAt s t q (c + s.persistNs) (s.groupSlots q (s.loser q a b)) :=
  ⟨_, exec_conflictPersistExpiry_some conflict now, State.endConflict_reached two conflict _⟩

/-! PROBATION_END and DR_VALID_EXPIRY (R143, R154, R158). -/

theorem exec_probationEnd_ends (used : s.slotUsed n = true) (probing : (s.fslot n).st = 3) : ∃ t, exec (.probationEnd n) s = .next t ∧
    t.fslot n = { s.fslot n with st := 1 } ∧ (∀ m, m ≠ n → t.fslot m = s.fslot m) ∧ (s.fslot n).probUntil ≤ t.tim.wt ∧ Frame [.tim, .elapsed, .working, .fus] s t := by
  have run : exec (.probationEnd n) s = .next ((s.reach (s.fslot n).probUntil).setFslot n fun f => { f with st := 1 }) := by
    rw [exec_probationEnd, execProbationEnd, if_pos (by simp [used, probing])]
  refine ⟨_, run, State.setFslot_fslot .., fun m other => State.setFslot_fslot_other other .., s.le_reach _, ?_⟩
  exact ((s.reach_frame' _).mono (by simp)).trans (((State.setFslot_acts ..).mono (m := partMask [.tim, .elapsed, .working, .fus]) rfl).framed)

/-- The quantity `q` is not valid. -/
def State.invalidate (s : State) (q : Nat) : State := s.setQuant q fun x => { x with valid := false }

theorem exec_drValidExpiry_some (reckons : (s.quant (bit f)).dr = some a) (now : s.judgedLater (a + s.par 0x0509 * sec) = false) :
    exec (.drValidExpiry f) s = .next ((s.reach (a + s.par 0x0509 * sec)).invalidate (bit f)) := by
  rw [exec_drValidExpiry, execDrValidExpiry, reckons]
  dsimp only
  obtain ⟨e, due⟩ : ∃ e, a + s.par 0x0509 * sec = e := ⟨_, rfl⟩
  rw [due] at now ⊢
  have judged : ¬((s.reach e).judgedLater e = true) := by
    rw [State.judgedLater_reach, now]
    simp
  exact congrArg Host.Outcome.next (if_neg judged)

/-- What leaves the quantity `q` invalid at the working time `e`. -/
structure Invalidated (s t : State) (q e : Nat) : Prop where
  quant : t.quant q = { s.quant q with valid := false }
  others : ∀ k, k ≠ q → t.quant k = s.quant k
  time : e ≤ t.tim.wt
  frame : Frame [.tim, .elapsed, .working, .fus] s t

theorem State.invalidate_reached (reckons : (s.quant q).dr = some a) (e : Nat) : Invalidated s ((s.reach e).invalidate q) q e := by
  have given : q < (s.reach e).fus.quants.length := State.quant_given (s := s) fun none' => by rw [none'] at reckons; simp at reckons
  exact ⟨State.quant_setQuant given _, fun k other => State.quant_setQuant_other other .., s.le_reach e,
    ((s.reach_frame' e).mono (by simp)).trans (((State.setQuant_acts ..).mono (m := partMask [.tim, .elapsed, .working, .fus]) rfl).framed)⟩

theorem exec_drValidExpiry_ends (reckons : (s.quant (bit f)).dr = some a) (now : s.judgedLater (a + s.par 0x0509 * sec) = false) :
    ∃ t, exec (.drValidExpiry f) s = .next t ∧ Invalidated s t (bit f) (a + s.par 0x0509 * sec) :=
  ⟨_, exec_drValidExpiry_some reckons now, State.invalidate_reached reckons _⟩

/-! DR_LIMIT_EXPIRY (R92, R93, R153). -/

/-- The limit of dead reckoning has expired where the mode's DR_ACTION warns, or asks for Joystick mode. -/
def State.drExpired (s : State) (ask : Bool) : State := if ask then ((s.expireCond 0).ownMode 6).raise 0x1302 else (s.expireCond 0).raise 0x1301

theorem exec_drLimitExpiry_expires (reckons : (s.quant (bit f)).dr.isSome = true) (cond : s.cond 0 = true) (limit : s.parMode 0x0705 ≠ 0)
    (now : s.judgedLater (s.tim.wt + s.drLimitEnd - s.tim.el) = false) :
    exec (.drLimitExpiry f) s = .next ((s.reachEl s.drLimitEnd).drExpired (s.parMode 0x0706 != 0)) := by
  have runs : ((s.quant (bit f)).dr.isSome && s.cond 0 && s.parMode 0x0705 != 0) = true := by simp [reckons, cond, limit]
  rw [exec_drLimitExpiry, execDrLimitExpiry, if_pos runs]
  dsimp only
  obtain ⟨e, due⟩ : ∃ e, s.drLimitEnd = e := ⟨_, rfl⟩
  rw [due] at now ⊢
  have judged : ¬((s.reachEl e).judgedLater (s.tim.wt + e - s.tim.el) = true) := by
    rw [show (s.reachEl e).judgedLater (s.tim.wt + e - s.tim.el) = s.judgedLater (s.tim.wt + e - s.tim.el) from rfl, now]
    simp
  refine congrArg Host.Outcome.next ((if_neg judged).trans ?_)
  have mode : (s.reachEl e).parMode 0x0706 = s.parMode 0x0706 := rfl
  rw [mode, State.drExpired]
  by_cases warn : s.parMode 0x0706 = 0
  · rw [if_pos warn, if_neg (by simp [warn])]
  · rw [if_neg warn, if_pos (by simp [warn])]

/-- What the device's own change to `mode` leaves. -/
structure AsksMode (s t : State) (mode : Nat) : Prop where
  own : t.dev.ownNew = some mode
  expired : t.dev.expired = s.dev.expired
  free : s.dev.newMode = none → t.ord = s.ord
  wins : ∀ m, s.dev.newMode = some m → s.modeDue m = s.modeDue mode → t.dev.newMode = none ∧ ∀ r ∈ t.ord.responses, r.code = 4 → r.result ≠ 0
  acts : Acts (partMask [.dev, .ord]) s t

theorem State.ownMode_asks (s : State) (mode : Nat) : AsksMode s (s.ownMode mode) mode := by
  have acts : Acts (partMask [.dev, .ord]) s (s.ownMode mode) := (State.ownMode_acts ..).mono rfl
  have cases' : (s.ownMode mode).dev.ownNew = some mode ∧ (s.ownMode mode).dev.expired = s.dev.expired := by
    unfold State.ownMode
    split
    · split <;> exact ⟨rfl, rfl⟩
    · exact ⟨rfl, rfl⟩
  refine ⟨cases'.1, cases'.2, fun free => ?_, fun m asked same => ?_, acts⟩
  · unfold State.ownMode
    rw [free]
  · unfold State.ownMode
    rw [asked]
    simp only [same, if_true]
    refine ⟨trivial, fun r hr four => ?_⟩
    obtain ⟨x, _, rfl⟩ := List.mem_map.mp hr
    by_cases refused : x.code = 4 ∧ x.result = 0
    · simp [refused]
    · rw [if_neg (by simpa using refused)] at four ⊢
      exact fun zero => refused ⟨four, zero⟩

/-- What the expiry of the limit of dead reckoning leaves, reached at the elapsed time `e`. -/
structure DrExpired (s t : State) (ask : Bool) (e : Nat) : Prop where
  time : e ≤ t.tim.el
  expired : t.dev.expired = insertNew s.dev.expired 0
  warns : ask = false → t.dev.ownNew = s.dev.ownNew ∧ t.ord = s.ord ∧ t.Alarmed 0x1301 ∧ AlarmsBut [0x1301] s t
  asks : ask = true → t.dev.ownNew = some 6 ∧ t.Alarmed 0x1302 ∧ AlarmsBut [0x1302] s t ∧ (s.dev.newMode = none → t.ord = s.ord) ∧
    (∀ m, s.dev.newMode = some m → s.modeDue m = s.modeDue 6 → t.dev.newMode = none ∧ ∀ r ∈ t.ord.responses, r.code = 4 → r.result ≠ 0)
  frame : Frame [.dev, .ord, .alarms, .rcd, .tim, .elapsed, .working, .regs] s t

theorem State.expireCond_acts' (s : State) (n : Nat) : Acts (partMask [.dev]) s (s.expireCond n) := (State.expireCond_acts ..).mono rfl

theorem State.drExpired_expires (s : State) (ask : Bool) (e : Nat) : DrExpired s ((s.reachEl e).drExpired ask) ask e := by
  have reached := s.le_reachEl e
  have moved := s.reachEl_frame e
  have dev : (s.reachEl e).dev = s.dev := rfl
  have ord : (s.reachEl e).ord = s.ord := rfl
  have due (m : Nat) : (s.reachEl e).modeDue m = s.modeDue m := rfl
  have alarms : (s.reachEl e).alarms = s.alarms := rfl
  generalize s.reachEl e = r at *
  have marked : (r.expireCond 0).dev.expired = insertNew s.dev.expired 0 := by
    show insertNew r.dev.expired 0 = _
    rw [dev]
  have ownNew : (r.expireCond 0).dev.ownNew = s.dev.ownNew := by
    show r.dev.ownNew = _
    rw [dev]
  have newMode : (r.expireCond 0).dev.newMode = s.dev.newMode := by
    show r.dev.newMode = _
    rw [dev]
  have dueV (m : Nat) : (r.expireCond 0).modeDue m = s.modeDue m := due m
  have acts := r.expireCond_acts' 0
  unfold State.drExpired
  generalize r.expireCond 0 = v at *
  have alarmV (c : Nat) : v.alarm? c = s.alarm? c := by rw [alarm_of_acts acts rfl, State.alarm?, State.alarm?, alarms]
  have ordV : v.ord = s.ord := (acts.frame .ord rfl).trans ord
  have timV : v.tim = r.tim := acts.frame .tim rfl
  cases ask
  case false =>
    show DrExpired s (v.raise 0x1301) false e
    have raised := State.raise_acts v 0x1301 []
    have devR : (v.raise 0x1301).dev = v.dev := raised.frame .dev rfl
    have timR : (v.raise 0x1301).tim = r.tim := (raised.frame .tim rfl).trans timV
    refine ⟨timR ▸ reached, by rw [devR, marked], fun _ => ⟨by rw [devR, ownNew], (raised.frame .ord rfl).trans ordV, (alarm_raise ..).trans (if_pos rfl), fun c hc => ?_⟩,
      fun h => by simp at h, ?_⟩
    · exact (alarm_raise_other fun same => hc (by simp [same])).trans (alarmV c)
    · exact ((moved.mono (by simp)).trans (acts.framed.mono (by simp))).trans (raised.reaches (ps := [.dev, .ord, .alarms, .rcd, .tim, .elapsed, .working, .regs]))
  case true =>
    show DrExpired s ((v.ownMode 6).raise 0x1302) true e
    have asked := v.ownMode_asks 6
    generalize v.ownMode 6 = w at *
    have raised := State.raise_acts w 0x1302 []
    have devR : (w.raise 0x1302).dev = w.dev := raised.frame .dev rfl
    have ordR : (w.raise 0x1302).ord = w.ord := raised.frame .ord rfl
    have timR : (w.raise 0x1302).tim = r.tim := (raised.frame .tim rfl).trans ((asked.acts.frame .tim rfl).trans timV)
    refine ⟨timR ▸ reached, by rw [devR, asked.expired, marked], fun h => by simp at h, fun _ => ⟨by rw [devR, asked.own], (alarm_raise ..).trans (if_pos rfl), fun c hc => ?_,
      fun free => by rw [ordR, asked.free (newMode.trans free), ordV], fun m known same => ?_⟩, ?_⟩
    · exact (alarm_raise_other fun same => hc (by simp [same])).trans ((alarm_of_acts asked.acts rfl).trans (alarmV c))
    · rw [devR, ordR]
      exact asked.wins m (newMode.trans known) (by rw [dueV, dueV, same])
    · exact ((moved.mono (by simp)).trans (acts.framed.mono (by simp))).trans
        ((asked.acts.framed.mono (by simp)).trans (raised.reaches (ps := [.dev, .ord, .alarms, .rcd, .tim, .elapsed, .working, .regs])))

theorem exec_drLimitExpiry_ends (reckons : (s.quant (bit f)).dr.isSome = true) (cond : s.cond 0 = true) (limit : s.parMode 0x0705 ≠ 0)
    (now : s.judgedLater (s.tim.wt + s.drLimitEnd - s.tim.el) = false) :
    ∃ t, exec (.drLimitExpiry f) s = .next t ∧ DrExpired s t (s.parMode 0x0706 != 0) s.drLimitEnd :=
  ⟨_, exec_drLimitExpiry_expires reckons cond limit now, s.drExpired_expires _ _⟩

end

/-- Settles O16: a fusion step keeps the slag list and the observer's history, and the timers of slots and quantities act as the rules say. -/
theorem fusionKeepsSlagsAndReturnsItsSources : Obligations.FusionKeepsSlagsAndReturnsItsSources := by
  unfold Obligations.FusionKeepsSlagsAndReturnsItsSources
  refine ⟨fun l s opens kept => exec_fusionStep_fuses opens kept l, fun l s opens lost => exec_fusionStep_lost opens lost l,
    fun l s closed => exec_fusionStep_closed closed l, fun n s sound cycle used waits now heard => ?_,
    fun n q a s first now => ?_, fun n q a k s first other now => ?_, fun n s idle => exec_gatePersistExpiry_none idle,
    fun q a b c s conflict two now => ?_, fun n s used probing => exec_probationEnd_ends used probing, fun f a s reckons now => ?_,
    fun f s reckons cond limit now => ?_⟩
  · obtain ⟨t, run, h⟩ := exec_slotTimeout_ends sound cycle used waits now heard
    exact ⟨t, run, h.slot, h.others, h.alarmed, h.changes.alarms, h.event, h.time, h.changes.frame, h.changes.fields⟩
  · obtain ⟨t, run, h, alarmed⟩ := exec_gatePersistExpiry_slot first now
    obtain ⟨st, reason, epoch⟩ := h.slag n (by simp)
    exact ⟨t, run, st, reason, epoch, fun m other => h.others m (by simpa using other), alarmed, h.alarms, h.time, h.frame (by decide)⟩
  · obtain ⟨t, run, h⟩ := exec_gatePersistExpiry_source first other now
    exact ⟨t, run, h.slag, h.others, h.alarms, h.time, h.frame (by decide)⟩
  · obtain ⟨t, run, h⟩ := exec_conflictPersistExpiry_ends conflict two now
    exact ⟨t, run, h.slag, h.others, h.ended, h.alarmed, h.alarms, h.time, h.frame⟩
  · obtain ⟨t, run, h⟩ := exec_drValidExpiry_ends reckons now
    exact ⟨t, run, h.quant, h.others, h.time, h.frame⟩
  · obtain ⟨t, run, h⟩ := exec_drLimitExpiry_ends reckons cond limit now
    exact ⟨t, run, h.time, h.expired, fun warn => h.warns (by simp [warn]), fun ask => h.asks (by simp [ask]), h.frame⟩

end Sys2Proof.Machine

/-! CONTROL_STEP (R167 to R178, R183): the reference, the demand and its fallbacks. -/
namespace Sys2Proof.Machine
set_option Elab.async false

section
variable {s t u : State} {n k a i e : Nat} {x : Int}

/-! Bounds (R170). -/

theorem natAbs_clampI (m : Nat) (x : Int) : (clampI (-(m : Int)) m x).natAbs ≤ m := by
  unfold clampI
  split
  · omega
  · split <;> omega

theorem nthI_range_map (f : Nat → Int) (low : a < 3) : nthI ((List.range 3).map f) a = f a := by
  rw [nthI, List.getD_eq_getElem?_getD, List.getElem?_map, List.getElem?_range low]
  rfl

theorem State.boundTau_attainable (s : State) (f : Nat → Int) (low : a < 3) : (nthI ((List.range 3).map fun a => s.boundTau a (f a)) a).natAbs ≤ s.attainable a := by
  rw [nthI_range_map _ low]
  exact natAbs_clampI ..

theorem length_foldl_concat {α β : Type} (f : List α → β → α) (l : List β) (p : List α) : (l.foldl (fun p j => p ++ [f p j]) p).length = p.length + l.length := by
  induction l generalizing p with
  | nil => rfl
  | cons j l ih =>
    simp only [List.foldl_cons, ih, List.length_append, List.length_cons, List.length_nil]
    omega

theorem head?_foldl_concat {α β : Type} (f : List α → β → α) (l : List β) (y : α) (p : List α) :
    (l.foldl (fun p j => p ++ [f p j]) (y :: p)).head? = some y := by
  induction l generalizing p with
  | nil => rfl
  | cons j l ih => exact ih (p ++ [f (y :: p) j])

/-! The demand of a step (R169, R170, R176 to R178). -/

/-- What a solved problem leaves. -/
structure ControlSolved (s t : State) (f : Bool) : Prop where
  tau : ∀ a < 3, (nthI t.ctl.tau a).natAbs ≤ s.attainable a
  plan : t.ctl.plan.length = 40
  head : t.ctl.plan.head? = some t.ctl.tau
  reuse : t.ctl.reuse = 0
  fixedGain : t.ctl.fixedGain = false
  regularised : t.ctl.regularised = f
  plans : t.CauseGone 0x1308
  gains : t.CauseGone 0x1309

/-- R169, R170: the demand τ₀ of a solved problem. -/
def State.solvedTau (s : State) : List Int := (List.range 3).map fun a => s.boundTau a (roundRat (s.resultOf controlTag a))

/-- R169, R170: the 40 steps of a plan that begins with a demand. -/
def State.planFrom (s : State) (tau : List Int) : List (List Int) :=
  (List.range 39).foldl (fun (p : List (List Int)) j => p ++ [s.planStep (p.getLastD tau) (j + 1)]) [tau]

theorem State.planFrom_length (s : State) (tau : List Int) : (s.planFrom tau).length = 40 :=
  length_foldl_concat (fun (p : List (List Int)) j => s.planStep (p.getLastD tau) (j + 1)) (List.range 39) [tau]

theorem State.planFrom_head (s : State) (tau : List Int) : (s.planFrom tau).head? = some tau :=
  head?_foldl_concat (fun (p : List (List Int)) j => s.planStep (p.getLastD tau) (j + 1)) (List.range 39) tau []

/-- R169, R170: the demand and the plan of a solved problem, before the next warm start is written. -/
def State.demandSolved (s : State) (regularised : Bool) : State :=
  { s with ctl := { s.ctl with
    tau := s.solvedTau, bound := s.tauBound s.solvedTau, plan := s.planFrom s.solvedTau, reuse := 0, fixedGain := false, regularised } }

theorem State.controlSolved_solves (s : State) (f : Bool) : ControlSolved s (s.controlSolved f) f := by
  have shape : s.controlSolved f = (((s.demandSolved f).xchgWrite warmOfs (shiftRecord ((s.demandSolved f).xchgRun (resOfs controlTag) 256))).causeGone 0x1308).causeGone 0x1309 := rfl
  have tau (a : Nat) (low : a < 3) : (nthI (s.demandSolved f).ctl.tau a).natAbs ≤ s.attainable a := by
    rw [show (s.demandSolved f).ctl.tau = s.solvedTau from rfl]
    exact s.boundTau_attainable (fun a => roundRat (s.resultOf controlTag a)) low
  have length : (s.demandSolved f).ctl.plan.length = 40 := s.planFrom_length s.solvedTau
  have head : (s.demandSolved f).ctl.plan.head? = some (s.demandSolved f).ctl.tau := by
    rw [show (s.demandSolved f).ctl.plan = s.planFrom s.solvedTau from rfl, show (s.demandSolved f).ctl.tau = s.solvedTau from rfl, State.planFrom_head]
  have reuse : (s.demandSolved f).ctl.reuse = 0 := rfl
  have fixedGain : (s.demandSolved f).ctl.fixedGain = false := rfl
  have regularised : (s.demandSolved f).ctl.regularised = f := rfl
  rw [shape]
  generalize shiftRecord ((s.demandSolved f).xchgRun (resOfs controlTag) 256) = r
  generalize s.demandSolved f = v at *
  have written := State.xchgWrite_acts v warmOfs r
  have ctlW : (v.xchgWrite warmOfs r).ctl = v.ctl := written.frame .ctl rfl
  generalize v.xchgWrite warmOfs r = w at *
  have first : (w.causeGone 0x1308).CauseGone 0x1308 := State.causeGone_causeGone _ _
  have ctlG : (w.causeGone 0x1308).ctl = w.ctl := (State.causeGone_acts ..).frame .ctl rfl
  generalize w.causeGone 0x1308 = y at *
  have ctl : (y.causeGone 0x1309).ctl = v.ctl := ((State.causeGone_acts ..).frame .ctl rfl).trans (ctlG.trans ctlW)
  constructor
  · rw [ctl]
    exact tau
  · rw [ctl, length]
  · rw [ctl, head]
  · rw [ctl, reuse]
  · rw [ctl, fixedGain]
  · rw [ctl, regularised]
  · exact first.kept (alarm_causeGone_other (by decide))
  · exact State.causeGone_causeGone _ _

/-- What a problem without a solution leaves while the plan serves. -/
structure PlanReused (s t : State) : Prop where
  tau : t.ctl.tau = s.ctl.plan.getD (Nat.min 39 ((s.ctl.reuse + 1) * (s.dev.period / 1000000) / 500)) [0, 0, 0]
  plan : t.ctl.plan = s.ctl.plan
  reuse : t.ctl.reuse = s.ctl.reuse + 1
  alarmed : t.Alarmed 0x1308
  alarms : AlarmsBut [0x1308] s t

theorem State.planTau_plan (planned : s.ctl.plan ≠ []) (k : Nat) : s.planTau k = s.ctl.plan.getD (Nat.min 39 (k * (s.dev.period / 1000000) / 500)) [0, 0, 0] := by
  unfold State.planTau
  split
  · next none' => exact absurd none' planned
  · rfl

/-- R176: the plan's value for another cycle. -/
def State.planTaken (s : State) : State :=
  { s with ctl := { s.ctl with
    tau := s.planTau (s.ctl.reuse + 1), bound := s.tauBound (s.planTau (s.ctl.reuse + 1)), reuse := s.ctl.reuse + 1, regularised := false } }

/-- R177: the demand of the fixed gain. -/
def State.gainTaken (s : State) : State :=
  { s with ctl := { s.ctl with
    tau := s.fixedGainTau, bound := s.tauBound s.fixedGainTau, reuse := Nat.min 7 (s.ctl.reuse + 1), fixedGain := true, regularised := false } }

theorem State.controlUnsolved_eq (s : State) : s.controlUnsolved = if s.ctl.reuse + 1 ≤ 5 then s.planTaken.raise 0x1308 else s.gainTaken.raise 0x1309 := rfl

theorem State.controlUnsolved_reuses (planned : s.ctl.plan ≠ []) (few : s.ctl.reuse < 5) : PlanReused s s.controlUnsolved := by
  rw [State.controlUnsolved_eq, if_pos (by omega)]
  refine ⟨?_, ?_, ?_, (alarm_raise ..).trans (if_pos rfl), fun c hc => alarm_raise_other fun same => hc (by simp [same])⟩
  · rw [State.raise_ctl]
    exact State.planTau_plan planned _
  · rw [State.raise_ctl]
    rfl
  · rw [State.raise_ctl]
    rfl

/-- What a problem without a solution leaves once the plan has served. -/
structure GainTaken (s t : State) : Prop where
  tau : ∀ a < 3, (nthI t.ctl.tau a).natAbs ≤ s.attainable a
  fixedGain : t.ctl.fixedGain = true
  alarmed : t.Alarmed 0x1309
  alarms : AlarmsBut [0x1309] s t

theorem State.fixedGainTau_attainable (s : State) (low : a < 3) : (nthI s.fixedGainTau a).natAbs ≤ s.attainable a := by
  unfold State.fixedGainTau
  extract_lets y
  exact s.boundTau_attainable _ low

theorem State.controlUnsolved_gain (used : 5 ≤ s.ctl.reuse) : GainTaken s s.controlUnsolved := by
  rw [State.controlUnsolved_eq, if_neg (by omega)]
  refine ⟨fun a low => ?_, ?_, (alarm_raise ..).trans (if_pos rfl), fun c hc => alarm_raise_other fun same => hc (by simp [same])⟩
  · rw [State.raise_ctl]
    exact s.fixedGainTau_attainable low
  · rw [State.raise_ctl]
    rfl

/-! The start of a step (R167, R168). -/

/-- The demand and the pending problem stay, and of the device's own state all but the set-point. -/
structure DemandKept (s t : State) : Prop where
  tau : t.ctl.tau = s.ctl.tau
  sent : t.ctl.sent = s.ctl.sent
  dev : ∃ p, t.dev = { s.dev with setPoint := p }

namespace DemandKept

theorem refl (s : State) : DemandKept s s := ⟨rfl, rfl, s.dev.setPoint, rfl⟩

theorem trans (h : DemandKept s t) (g : DemandKept t u) : DemandKept s u := by
  obtain ⟨p, hp⟩ := h.dev
  obtain ⟨r, hr⟩ := g.dev
  exact ⟨g.tau.trans h.tau, g.sent.trans h.sent, r, by rw [hr, hp]⟩

/-- An operation that leaves the control law and the device's own state alone. -/
theorem acts {m : Nat} (h : DemandKept s t) (g : Acts m t u) (ctl : m.testBit Part.ctl.idx = false := by decide) (dev : m.testBit Part.dev.idx = false := by decide) :
    DemandKept s u :=
  h.trans ⟨congrArg Ctl.tau (g.frame .ctl ctl), congrArg Ctl.sent (g.frame .ctl ctl), t.dev.setPoint, (g.frame .dev dev).trans rfl⟩

/-- A record update of other parts of the control law. -/
theorem upd (h : DemandKept s t) (u : State) (tau : u.ctl.tau = t.ctl.tau := by rfl) (sent : u.ctl.sent = t.ctl.sent := by rfl) (dev : u.dev = t.dev := by rfl) :
    DemandKept s u := h.trans ⟨tau, sent, t.dev.setPoint, dev.trans rfl⟩

theorem ite {p : Prop} [Decidable p] {x y : State} (h : p → DemandKept s x) (k : ¬p → DemandKept s y) : DemandKept s (if p then x else y) := by
  split
  · exact h ‹_›
  · exact k ‹_›

theorem takeMember (s : State) (m : Nat) : DemandKept s (s.takeMember m) := by
  unfold State.takeMember
  split
  · exact (refl s).upd _
  · exact refl s

theorem takeTarget (s : State) : DemandKept s s.takeTarget := by
  unfold State.takeTarget
  split
  · exact .ite (fun _ => (refl s).upd _) fun _ => .ite (fun _ => takeMember s _) fun _ => refl s
  · exact refl s

theorem takeFused (s : State) : DemandKept s s.takeFused := by
  unfold State.takeFused
  exact .ite (fun _ => ⟨rfl, rfl, _, rfl⟩) fun _ => refl s

theorem moveToSetPoint (s : State) : DemandKept s s.moveToSetPoint := (refl s).upd _

theorem moveOnTrack (s : State) : DemandKept s s.moveOnTrack := by
  unfold State.moveOnTrack
  split
  · exact refl s
  · extract_lets dn de len a h
    exact .ite (fun _ => (refl s).upd _) fun _ => (refl s).upd _

theorem moveFollow (s : State) : DemandKept s s.moveFollow := by
  unfold State.moveFollow
  split
  · exact (refl s).upd _
  · exact refl s

theorem moveReference (s : State) : DemandKept s s.moveReference := by
  unfold State.moveReference
  extract_lets t ctl v
  have fused : DemandKept s v := ((takeTarget s).upd _).trans (takeFused _)
  clear_value v
  split
  · exact fused.trans (moveOnTrack v)
  · exact fused.trans (moveFollow v)
  · exact (fused.trans (moveToSetPoint v)).upd _
  · exact fused
  · exact fused.trans (moveToSetPoint v)

theorem windFeedforward (s : State) : DemandKept s s.windFeedforward := by
  unfold State.windFeedforward
  extract_lets now at0 c v full value ctl w
  have ramped : DemandKept s v := .ite (fun _ => ((refl s).upd _).acts (State.raise_acts ..)) fun _ => .ite (fun _ => (refl s).upd _) fun _ => refl s
  have moved : DemandKept s w := ramped.upd _
  exact .ite (fun _ => moved.acts (State.causeGone_acts ..)) fun _ => moved

end DemandKept

end

end Sys2Proof.Machine

/-! The commands of the control law (R167 to R191). -/
namespace Sys2Proof.Machine
set_option Elab.async false

section
variable {s t u r : State} {n k a i e cause code : Nat} {f : Bool}

/-! The start of a control step (R167 to R175). -/

/-- R167 to R173: what the start of a step moves before its problem goes out. -/
def State.stepMoved (s : State) : State := s.moveReference.windFeedforward

theorem State.stepMoved_kept (s : State) : DemandKept s s.stepMoved := (DemandKept.moveReference s).trans (.windFeedforward _)

/-- What the start of a control step leaves. -/
structure StepBegun (s t : State) : Prop where
  posed : t.ctl.posed = true
  tau : t.ctl.tau = s.ctl.tau
  dev : ∃ p, t.dev = { s.dev with setPoint := p }

theorem State.poseControl_kept (s : State) : s.poseControl.ctl.tau = s.ctl.tau ∧ s.poseControl.dev = s.dev := by
  refine ⟨?_, (State.poseControl_acts s).frame .dev rfl⟩
  unfold State.poseControl
  split
  · next id _ =>
    split
    · next m _ =>
      have kept : (s.poseProblem controlTag id (!s.ctl.plan.isEmpty) (m.blockWords (s.controlHorizon.block s.controlBox s.stepRate)) (s.windowEnd 8000)).ctl = s.ctl :=
        (State.poseProblem_acts ..).frame .ctl rfl
      generalize s.poseProblem controlTag id (!s.ctl.plan.isEmpty) (m.blockWords (s.controlHorizon.block s.controlBox s.stepRate)) (s.windowEnd 8000) = v at *
      show v.ctl.tau = s.ctl.tau
      rw [kept]
    · rfl
  · rfl

theorem State.integrate_kept (s : State) : s.integrate.ctl.tau = s.ctl.tau ∧ s.integrate.dev = s.dev := by
  unfold State.integrate
  split <;> exact ⟨rfl, rfl⟩

/-- R175, R183: the deadbands, the integrals and the problem of a step, or their rest in Joystick. -/
def State.stepPosed (s : State) : State :=
  if s.dev.mode = 6 then { s with ctl := { s.ctl with intHold := true, dbPos := false, dbHdg := false } } else s.deadbands.integrate.poseControl

theorem State.stepPosed_kept (s : State) : s.stepPosed.ctl.tau = s.ctl.tau ∧ s.stepPosed.dev = s.dev := by
  unfold State.stepPosed
  split
  · exact ⟨rfl, rfl⟩
  · have posed := s.deadbands.integrate.poseControl_kept
    have moved := s.deadbands.integrate_kept
    exact ⟨posed.1.trans moved.1, posed.2.trans moved.2⟩

theorem State.supervise_kept (s : State) : s.supervise.ctl.tau = s.ctl.tau ∧ s.supervise.ctl.sent = s.ctl.sent ∧ s.supervise.dev = s.dev := ⟨rfl, rfl, rfl⟩

/-- The control problem of the cycle has been posed. -/
def State.markPosed (s : State) : State := { s with ctl := { s.ctl with posed := true } }

theorem State.controlBegins_eq (s : State) : s.controlBegins = s.stepMoved.stepPosed.supervise.markPosed := by
  rw [State.controlBegins, State.markPosed, State.stepPosed, State.stepMoved]

theorem State.controlBegins_begins (s : State) : StepBegun s s.controlBegins := by
  have moved := s.stepMoved_kept
  have posed := s.stepMoved.stepPosed_kept
  rw [State.controlBegins_eq]
  generalize s.stepMoved.stepPosed = u at *
  obtain ⟨tau, _, devU⟩ := u.supervise_kept
  generalize u.supervise = v at *
  obtain ⟨p, dev⟩ := moved.dev
  exact ⟨rfl, tau.trans (posed.1.trans moved.tau), p, devU.trans (posed.2.trans dev)⟩

/-- In Joystick no problem goes out. -/
theorem State.controlBegins_joystick (joystick : s.dev.mode = 6) : DemandKept s s.controlBegins ∧
    Acts (partMask [.dev, .alarms, .rcd, .ctl, .regs, .devAim]) s s.controlBegins := by
  have moved := s.stepMoved_kept
  have acts : Acts (partMask [.dev, .alarms, .rcd, .ctl, .regs, .devAim]) s s.stepMoved :=
    ((State.moveReference_acts s).mono rfl).step (State.windFeedforward_acts _) rfl
  have mode : s.stepMoved.dev.mode = 6 := by
    obtain ⟨p, dev⟩ := moved.dev
    rw [dev]
    exact joystick
  rw [State.controlBegins_eq]
  generalize s.stepMoved = v at *
  have rests : v.stepPosed = { v with ctl := { v.ctl with intHold := true, dbPos := false, dbHdg := false } } := if_pos mode
  rw [rests]
  have rest : DemandKept s { v with ctl := { v.ctl with intHold := true, dbPos := false, dbHdg := false } } := moved.upd _
  have restActs : Acts (partMask [.dev, .alarms, .rcd, .ctl, .regs, .devAim]) s { v with ctl := { v.ctl with intHold := true, dbPos := false, dbHdg := false } } :=
    acts.upd_ctl rfl rfl
  generalize ({ v with ctl := { v.ctl with intHold := true, dbPos := false, dbHdg := false } } : State) = w at *
  obtain ⟨tau, sent, dev⟩ := w.supervise_kept
  have watched : DemandKept s w.supervise := rest.upd _ tau sent dev
  have watchedActs := restActs.step (State.supervise_acts w) rfl
  generalize w.supervise = x at *
  exact ⟨watched.upd _, watchedActs.upd_ctl rfl rfl⟩

/-! The end of a control step. -/

theorem State.controlEnds_posed (s : State) : s.controlEnds.ctl.posed = s.ctl.posed := by
  unfold State.controlEnds
  split
  · rfl
  · extract_lets st
    split
    · show (s.controlSolved (st == 4)).ctl.posed = s.ctl.posed
      have shape : s.controlSolved (st == 4) = (((s.demandSolved (st == 4)).xchgWrite warmOfs
        (shiftRecord ((s.demandSolved (st == 4)).xchgRun (resOfs controlTag) 256))).causeGone 0x1308).causeGone 0x1309 := rfl
      have posed : (s.demandSolved (st == 4)).ctl.posed = s.ctl.posed := rfl
      rw [shape]
      generalize shiftRecord ((s.demandSolved (st == 4)).xchgRun (resOfs controlTag) 256) = r
      generalize s.demandSolved (st == 4) = v at *
      have acts : Acts (partMask [.alarms, .rcd, .regs, .xchg]) v (((v.xchgWrite warmOfs r).causeGone 0x1308).causeGone 0x1309) :=
        (((State.xchgWrite_acts v warmOfs r).mono rfl).step (State.causeGone_acts ..) rfl).step (State.causeGone_acts ..) rfl
      rw [show _ = v.ctl from acts.frame .ctl rfl]
      exact posed
    · rw [State.controlUnsolved_eq]
      split <;> rw [State.raise_ctl] <;> rfl

theorem exec_controlStepRuns_closed (closed : s.stepOpen 3 = false) : exec .controlStepRuns s = .next s := by
  rw [exec_controlStepRuns, execControlStepRuns, if_pos (by simp [closed])]

theorem exec_controlStepRuns_late (opens : s.stepOpen 3 = true) (lost : s.hlt.discarded.contains 3 = true) :
    exec .controlStepRuns s = .next (s.stepLate 3).controlLate := by
  have late : ({ s with dev := { s.dev with stepsLate := insertNew s.dev.stepsLate 3 } } : State) = s.stepLate 3 := rfl
  rw [exec_controlStepRuns, execControlStepRuns, if_neg (by simp [opens]), if_pos lost, late]

/-- R176: the step goes on from `t`: it waits for a problem in the array, or ends. -/
def State.controlGoesOn (t : State) : State := if t.ctl.sent && t.problemWaits controlTag then t else t.controlEnds.stepDone 3

/-- The control step is open and its pair in service. -/
def State.controlReady (s : State) : Prop := s.stepOpen 3 = true ∧ s.hlt.discarded.contains 3 = false

theorem exec_controlStepRuns_runs (ready : s.controlReady) :
    exec .controlStepRuns s = .next (if s.ctl.posed then s else s.controlBegins).controlGoesOn := by
  obtain ⟨opens, kept⟩ := ready
  rw [exec_controlStepRuns, execControlStepRuns, if_neg (by simp [opens]), if_neg (by rw [kept]; exact Bool.false_ne_true)]
  rfl

theorem State.controlGoesOn_waits (sent : s.ctl.sent = true) (waits : s.problemWaits controlTag = true) : s.controlGoesOn = s :=
  if_pos (by simp [sent, waits])

/-- The problem posed has ended, or never reached the array. -/
def State.problemEnded (s : State) : Prop := s.ctl.posed = true ∧ (s.ctl.sent = true → s.problemWaits controlTag = false)

/-- The problem posed is solved. -/
def State.problemSolved (s : State) : Prop := s.ctl.sent = true ∧ ((s.prob controlTag).status = 3 ∨ (s.prob controlTag).status = 4)

theorem State.controlGoesOn_ends (idle : s.ctl.sent = true → s.problemWaits controlTag = false) : s.controlGoesOn = s.controlEnds.stepDone 3 := by
  refine if_neg fun both => ?_
  obtain ⟨sent, waits⟩ := Bool.and_eq_true_iff.mp both
  rw [idle sent] at waits
  exact Bool.false_ne_true waits

theorem exec_controlStepRuns_ends (ready : s.controlReady) (ended : s.problemEnded) : exec .controlStepRuns s = .next (s.controlEnds.stepDone 3) := by
  rw [exec_controlStepRuns_runs ready, if_pos ended.1, State.controlGoesOn_ends ended.2]

theorem State.controlEnds_solved (other : s.dev.mode ≠ 6) (solved : s.problemSolved) : s.controlEnds = s.controlSolved ((s.prob controlTag).status == 4) := by
  obtain ⟨sent, status⟩ := solved
  unfold State.controlEnds
  rw [if_neg other]
  simp only [sent, if_true]
  rw [if_pos (by simpa using status)]

theorem State.controlEnds_unsolved (other : s.dev.mode ≠ 6) (unsolved : ¬s.problemSolved) : s.controlEnds = s.controlUnsolved := by
  unfold State.controlEnds
  rw [if_neg other]
  extract_lets st
  refine if_neg fun status => unsolved ?_
  have code : st = 3 ∨ st = 4 := by simpa using status
  cases sent : s.ctl.sent
  · have zero : st = 0 := if_neg (by simp [sent])
    omega
  · have same : st = (s.prob controlTag).status := if_pos sent
    refine ⟨sent, ?_⟩
    rw [← same]
    exact code

theorem State.stepDone_frame (s : State) (n : Nat) : Frame [.dev] s (s.stepDone n) := by
  intro p hp
  cases p <;> first | rfl | simp at hp

theorem State.stepDone_done (acts : Acts k s t) (dev : k.testBit Part.dev.idx = false) (n : Nat) : (t.stepDone n).dev.stepsDone = insertNew s.dev.stepsDone n := by
  show insertNew t.dev.stepsDone n = _
  rw [show t.dev = s.dev from acts.frame .dev dev]

/-- What the first command of a control step outside Joystick leaves. -/
theorem exec_controlStepRuns_first (ready : s.controlReady) (fresh : s.ctl.posed = false) : ∃ t, exec .controlStepRuns s = .next t ∧ t.ctl.posed = true ∧
    (t.dev.stepsDone = insertNew s.dev.stepsDone 3 ∨ (t.dev.stepsDone = s.dev.stepsDone ∧ t.ctl.sent = true ∧ t.ctl.tau = s.ctl.tau)) ∧
    Frame [.dev, .devAim, .alarms, .rcd, .ctl, .slv, .xchg, .regs] s t := by
  obtain ⟨t, next, acts⟩ := execControlStepRuns_acts s
  have run := exec_controlStepRuns_runs ready
  rw [exec_controlStepRuns, next, if_neg (by simp [fresh])] at run
  have begun := s.controlBegins_begins
  generalize s.controlBegins = b at *
  obtain ⟨p, dev⟩ := begun.dev
  have steps : b.dev.stepsDone = s.dev.stepsDone := by rw [dev]
  obtain rfl := Host.Outcome.next.inj run
  refine ⟨_, next, ?_, ?_, acts.reaches⟩
  · unfold State.controlGoesOn
    split
    · exact begun.posed
    · exact b.controlEnds_posed.trans begun.posed
  · unfold State.controlGoesOn
    split
    · next both => exact .inr ⟨steps, (Bool.and_eq_true_iff.mp both).1, begun.tau⟩
    · exact .inl ((State.stepDone_done (State.controlEnds_acts b) rfl 3).trans (by rw [steps]))

theorem exec_controlStepRuns_solved (ready : s.controlReady) (other : s.dev.mode ≠ 6) (ended : s.problemEnded) (solved : s.problemSolved) :
    ∃ t, exec .controlStepRuns s = .next t ∧ t.dev.stepsDone = insertNew s.dev.stepsDone 3 ∧ ControlSolved s t ((s.prob controlTag).status == 4) ∧
    Frame [.dev, .alarms, .rcd, .ctl, .xchg, .regs] s t := by
  have run := exec_controlStepRuns_ends ready ended
  rw [State.controlEnds_solved other solved] at run
  have demand := s.controlSolved_solves ((s.prob controlTag).status == 4)
  have acts := State.controlSolved_acts s ((s.prob controlTag).status == 4)
  generalize s.controlSolved ((s.prob controlTag).status == 4) = w at *
  exact ⟨_, run, State.stepDone_done acts rfl 3, ⟨demand.tau, demand.plan, demand.head, demand.reuse, demand.fixedGain, demand.regularised, demand.plans, demand.gains⟩,
    (acts.reaches (ps := [.dev, .alarms, .rcd, .ctl, .xchg, .regs])).trans ((w.stepDone_frame 3).mono (by simp))⟩

theorem exec_controlStepRuns_plan (ready : s.controlReady) (other : s.dev.mode ≠ 6) (ended : s.problemEnded) (unsolved : ¬s.problemSolved)
    (few : s.ctl.reuse < 5) (planned : s.ctl.plan ≠ []) : ∃ t, exec .controlStepRuns s = .next t ∧ t.dev.stepsDone = insertNew s.dev.stepsDone 3 ∧
    PlanReused s t ∧ Frame [.dev, .alarms, .rcd, .ctl, .regs] s t := by
  have run := exec_controlStepRuns_ends ready ended
  rw [State.controlEnds_unsolved other unsolved] at run
  have demand := State.controlUnsolved_reuses planned few
  have acts := State.controlUnsolved_acts s
  generalize s.controlUnsolved = w at *
  exact ⟨_, run, State.stepDone_done acts rfl 3, ⟨demand.tau, demand.plan, demand.reuse, demand.alarmed, demand.alarms⟩,
    (acts.reaches (ps := [.dev, .alarms, .rcd, .ctl, .regs])).trans ((w.stepDone_frame 3).mono (by simp))⟩

theorem exec_controlStepRuns_gain (ready : s.controlReady) (other : s.dev.mode ≠ 6) (ended : s.problemEnded) (unsolved : ¬s.problemSolved)
    (used : 5 ≤ s.ctl.reuse) : ∃ t, exec .controlStepRuns s = .next t ∧ t.dev.stepsDone = insertNew s.dev.stepsDone 3 ∧ GainTaken s t ∧
    Frame [.dev, .alarms, .rcd, .ctl, .regs] s t := by
  have run := exec_controlStepRuns_ends ready ended
  rw [State.controlEnds_unsolved other unsolved] at run
  have demand := State.controlUnsolved_gain used
  have acts := State.controlUnsolved_acts s
  generalize s.controlUnsolved = w at *
  exact ⟨_, run, State.stepDone_done acts rfl 3, ⟨demand.tau, demand.fixedGain, demand.alarmed, demand.alarms⟩,
    (acts.reaches (ps := [.dev, .alarms, .rcd, .ctl, .regs])).trans ((w.stepDone_frame 3).mono (by simp))⟩

theorem exec_controlStepRuns_lost (opens : s.stepOpen 3 = true) (lost : s.hlt.discarded.contains 3 = true) (other : s.dev.mode ≠ 6) (few : s.ctl.reuse < 5)
    (planned : s.ctl.plan ≠ []) : ∃ t, exec .controlStepRuns s = .next t ∧ t.dev.stepsLate = insertNew s.dev.stepsLate 3 ∧ t.dev.stepsDone = s.dev.stepsDone ∧
    PlanReused s t ∧ Frame [.dev, .alarms, .rcd, .ctl, .regs] s t := by
  have run := exec_controlStepRuns_late opens lost
  have unsolved : (s.stepLate 3).controlLate = (s.stepLate 3).controlUnsolved := if_neg other
  have demand := State.controlUnsolved_reuses (s := s.stepLate 3) planned few
  have marked : Frame [.dev] s (s.stepLate 3) := by
    intro p hp
    cases p <;> first | rfl | simp at hp
  have acts := State.controlUnsolved_acts (s.stepLate 3)
  rw [unsolved] at run
  generalize (s.stepLate 3).controlUnsolved = w at *
  have dev : w.dev = (s.stepLate 3).dev := acts.frame .dev rfl
  exact ⟨_, run, by rw [dev]; rfl, by rw [dev]; rfl, ⟨demand.tau, demand.plan, demand.reuse, demand.alarmed, demand.alarms⟩,
    (marked.mono (by simp)).trans (acts.reaches (ps := [.dev, .alarms, .rcd, .ctl, .regs]))⟩

/-! Joystick (R183). -/

/-- R183: the joystick's demand in axis `a`. -/
def State.joystickWant (s : State) (a : Nat) : Int := if s.dev.joyLost then 0 else ((s.par 0x0801 a : Int) * nthI s.dev.joystick a).tdiv 1000

theorem State.joystickTau_tau (s : State) (low : a < 3) : nthI s.joystickTau.ctl.tau a =
    clampI (nthI s.ctl.tau a - s.tauStep a) (nthI s.ctl.tau a + s.tauStep a) (s.joystickWant a) :=
  nthI_range_map (fun a => clampI (nthI s.ctl.tau a - s.tauStep a) (nthI s.ctl.tau a + s.tauStep a) (s.joystickWant a)) low

theorem exec_controlStepRuns_joystick (ready : s.controlReady) (joystick : s.dev.mode = 6) (idle : s.ctl.sent = false) :
    ∃ t, exec .controlStepRuns s = .next t ∧ t.dev.stepsDone = insertNew s.dev.stepsDone 3 ∧
    (∀ a < 3, nthI t.ctl.tau a = clampI (nthI s.ctl.tau a - s.tauStep a) (nthI s.ctl.tau a + s.tauStep a) (s.joystickWant a)) ∧
    t.ctl.bound = false ∧ t.ctl.fixedGain = false ∧ Frame [.dev, .devAim, .alarms, .rcd, .ctl, .regs] s t := by
  have begun : DemandKept s (if s.ctl.posed then s else s.controlBegins) ∧
      Acts (partMask [.dev, .alarms, .rcd, .ctl, .regs, .devAim]) s (if s.ctl.posed then s else s.controlBegins) := by
    split
    · exact ⟨.refl s, .refl s⟩
    · exact State.controlBegins_joystick joystick
  have run := exec_controlStepRuns_runs ready
  generalize (if s.ctl.posed then s else s.controlBegins) = b at *
  obtain ⟨kept, acts⟩ := begun
  obtain ⟨p, dev⟩ := kept.dev
  have ends : b.controlEnds = b.joystickTau := if_pos (by rw [dev]; exact joystick)
  rw [State.controlGoesOn_ends (fun sent => absurd (sent.symm.trans (kept.sent.trans idle)) (by simp)), ends] at run
  have pat : b.pat = s.pat := acts.frame .pat rfl
  have step (a : Nat) : b.tauStep a = s.tauStep a := by rw [State.tauStep, State.tauStep, State.periodMs, State.periodMs, State.par_of_pat pat, dev]
  have want (a : Nat) : b.joystickWant a = s.joystickWant a := by rw [State.joystickWant, State.joystickWant, State.par_of_pat pat, dev]
  refine ⟨_, run, ?_, fun a low => ?_, rfl, rfl, ?_⟩
  · show insertNew b.dev.stepsDone 3 = _
    rw [dev]
  · show nthI b.joystickTau.ctl.tau a = _
    rw [b.joystickTau_tau low, step, want, kept.tau]
  · exact (acts.framed.mono (by simp)).trans ((((State.joystickTau_acts b).reaches (ps := [.dev, .devAim, .alarms, .rcd, .ctl, .regs]))).trans
      ((b.joystickTau.stepDone_frame 3).mono (by simp)))

end

end Sys2Proof.Machine

/-! The timers of control (R172, R182 to R187, R190, R191). -/
namespace Sys2Proof.Machine
set_option Elab.async false

section
variable {s t u : State} {n k a i e m cause : Nat} {up : Bool}

/-! The waiting step (R29). -/

theorem exec_controlStepRuns_waits (ready : s.controlReady) (posed : s.ctl.posed = true) (sent : s.ctl.sent = true) (waits : s.problemWaits controlTag = true) :
    exec .controlStepRuns s = .next s := by
  rw [exec_controlStepRuns_runs ready, if_pos posed, State.controlGoesOn_waits sent waits]

/-! The action of supervision (R187, R191). -/

theorem State.ownMode_alone (free : s.dev.newMode = none) (mode : Nat) : s.ownMode mode = { s with dev := { s.dev with ownNew := some mode } } := by
  rw [State.ownMode, free]

/-- What the stop of an injection leaves. -/
structure InjectionStopped (s t : State) (cause : Nat) : Prop where
  idle : t.ctl.inj = none
  stopped : s.ctl.inj.isSome = true → t.ctl.stopCause = some cause ∧ t.ctl.refAdd = [0, 0, 0]
  tau : t.ctl.tau = s.ctl.tau
  acts : Acts (partMask [.ctl]) s t

theorem State.stopInjection_stops (s : State) (cause : Nat) : InjectionStopped s (s.stopInjection cause) cause := by
  have acts : Acts (partMask [.ctl]) s (s.stopInjection cause) := (State.stopInjection_acts ..).mono rfl
  rcases runs : s.ctl.inj with _ | i
  · have idle : ¬s.ctl.inj.isSome = true := by rw [runs]; simp
    have kept : (s.stopInjection cause).ctl.inj = none ∧ (s.stopInjection cause).ctl.tau = s.ctl.tau := by
      rw [State.stopInjection, if_neg idle]
      split <;> exact ⟨runs, rfl⟩
    exact ⟨kept.1, fun some' => absurd some' idle, kept.2, acts⟩
  · have ends : s.stopInjection cause = { s with ctl := { s.ctl with inj := none, refAdd := [0, 0, 0], stopCause := some cause } } := if_pos (by rw [runs]; rfl)
    rw [ends] at acts ⊢
    exact ⟨rfl, fun _ => ⟨rfl, rfl⟩, rfl, acts⟩

/-- R187: Joystick from the next freeze on, with the zero demand. -/
def State.joystickZeroed (s : State) : State := { s.ownMode 6 with dev := { (s.ownMode 6).dev with joystick := [0, 0, 0] } }

theorem State.supervisionAction_eq (s : State) (cause : Nat) :
    s.supervisionAction cause = if s.par 0x0804 = 1 then (s.stopInjection cause).joystickZeroed else s.stopInjection cause := by
  have pat : (s.stopInjection cause).pat = s.pat := (State.stopInjection_acts ..).frame .pat rfl
  rw [← State.par_of_pat pat]
  rfl

theorem State.joystickZeroed_frame (s : State) : Frame [.dev, .devAim, .ord] s s.joystickZeroed := by
  have zeroed : Frame [.dev, .devAim] (s.ownMode 6) s.joystickZeroed := by
    intro p hp
    cases p <;> first | rfl | simp at hp
  exact ((s.ownMode_asks 6).acts.framed.mono (by simp)).trans (zeroed.mono (by simp))

/-- What the action of supervision leaves. -/
structure Supervised (s t : State) (cause : Nat) : Prop where
  joystick : s.par 0x0804 = 1 → t.dev.ownNew = some 6 ∧ t.dev.joystick = [0, 0, 0] ∧
    (s.dev.newMode = none → t.dev = { s.dev with ownNew := some 6, joystick := [0, 0, 0] } ∧ t.ord = s.ord)
  stays : s.par 0x0804 ≠ 1 → t.dev = s.dev ∧ t.ord = s.ord
  idle : t.ctl.inj = none
  stopped : s.ctl.inj.isSome = true → t.ctl.stopCause = some cause ∧ t.ctl.refAdd = [0, 0, 0]
  tau : t.ctl.tau = s.ctl.tau
  frame : Frame [.dev, .devAim, .ord, .ctl] s t

theorem State.supervisionAction_supervises (s : State) (cause : Nat) : Supervised s (s.supervisionAction cause) cause := by
  have stop := s.stopInjection_stops cause
  rw [State.supervisionAction_eq]
  generalize s.stopInjection cause = w at *
  have dev : w.dev = s.dev := stop.acts.frame .dev rfl
  have ord : w.ord = s.ord := stop.acts.frame .ord rfl
  split
  next asks =>
    have asked := w.ownMode_asks 6
    have ctl : w.joystickZeroed.ctl = w.ctl := asked.acts.frame .ctl rfl
    refine ⟨fun _ => ⟨asked.own, rfl, fun free => ⟨?_, (asked.free (by rw [dev, free])).trans ord⟩⟩, fun other => absurd asks other, by rw [ctl, stop.idle],
      fun some' => by rw [ctl]; exact stop.stopped some', by rw [ctl, stop.tau], (stop.acts.framed.mono (by simp)).trans (w.joystickZeroed_frame.mono (by simp))⟩
    rw [State.joystickZeroed, State.ownMode_alone (by rw [dev, free]), ← dev]
  next stays => exact ⟨fun asks => absurd asks stays, fun _ => ⟨dev, ord⟩, stop.idle, stop.stopped, stop.tau, stop.acts.framed.mono (by simp)⟩

/-! FOLLOWING_ERROR_EXPIRY and MODEL_PLAUSIBILITY_EXPIRY (R184 to R187). -/

/-- What an alarm of supervision with its action leaves at the elapsed time `e`. -/
structure SupervisedAt (s t : State) (cause code e : Nat) : Prop where
  time : e ≤ t.tim.el
  alarmed : t.Alarmed code
  alarms : AlarmsBut [code] s t
  joystick : s.par 0x0804 = 1 → t.dev.ownNew = some 6 ∧ t.dev.joystick = [0, 0, 0] ∧
    (s.dev.newMode = none → t.dev = { s.dev with ownNew := some 6, joystick := [0, 0, 0] } ∧ t.ord = s.ord)
  stays : s.par 0x0804 ≠ 1 → t.dev = s.dev ∧ t.ord = s.ord
  idle : t.ctl.inj = none
  stopped : s.ctl.inj.isSome = true → t.ctl.stopCause = some cause ∧ t.ctl.refAdd = [0, 0, 0]
  tau : t.ctl.tau = s.ctl.tau
  frame : Frame [.dev, .devAim, .ord, .alarms, .rcd, .tim, .elapsed, .working, .ctl, .regs] s t

theorem State.supervised_at (s : State) (e code cause : Nat) (p : List Word) :
    SupervisedAt s (((s.reachEl e).raise code p).supervisionAction cause) cause code e := by
  have moved := s.reachEl_frame e
  have late := s.le_reachEl e
  have alarmR (c : Nat) : (s.reachEl e).alarm? c = s.alarm? c := rfl
  generalize s.reachEl e = r at *
  have raised := State.raise_acts r code p
  have alarmed : (r.raise code p).Alarmed code := (alarm_raise ..).trans (if_pos rfl)
  have others (c : Nat) (other : c ≠ code) : (r.raise code p).alarm? c = r.alarm? c := alarm_raise_other fun same => other same.symm
  generalize r.raise code p = v at *
  have act := v.supervisionAction_supervises cause
  have acts := State.supervisionAction_acts v cause
  generalize v.supervisionAction cause = t at *
  have devV : v.dev = s.dev := (raised.frame .dev rfl).trans (moved .dev (by simp))
  have ordV : v.ord = s.ord := (raised.frame .ord rfl).trans (moved .ord (by simp))
  have ctlV : v.ctl = s.ctl := (raised.frame .ctl rfl).trans (moved .ctl (by simp))
  have parV : v.par 0x0804 = s.par 0x0804 := by rw [State.par_of_pat ((raised.frame .pat rfl).trans (moved .pat (by simp)))]
  have tim : t.tim = r.tim := (acts.frame .tim rfl).trans (raised.frame .tim rfl)
  have alarm (c : Nat) : t.alarm? c = v.alarm? c := alarm_of_acts acts rfl
  refine ⟨tim ▸ late, ?_, fun c hc => ?_, ?_, ?_, act.idle, ?_, ?_, ?_⟩
  · exact (alarm code).trans alarmed
  · exact (alarm c).trans ((others c (by simpa using hc)).trans (alarmR c))
  · rw [← parV, ← devV, ← ordV]
    exact act.joystick
  · rw [← parV, ← devV, ← ordV]
    exact act.stays
  · rw [← ctlV]
    exact act.stopped
  · rw [act.tau, ctlV]
  · exact ((moved.mono (by simp)).trans (raised.reaches (ps := [.dev, .devAim, .ord, .alarms, .rcd, .tim, .elapsed, .working, .ctl, .regs]))).trans
      (act.frame.mono (by simp))

theorem exec_followingErrorExpiry_some (h : Bool) (runs : (if h then s.ctl.feHdg else s.ctl.fePos) = some a) :
    ∃ t, exec (.followingErrorExpiry h) s = .next t ∧ SupervisedAt s t 6 (if h then 0x1306 else 0x1305) (a + s.par 0x0807 * ms) := by
  refine ⟨_, ?_, s.supervised_at _ _ 6 []⟩
  rw [exec_followingErrorExpiry, execFollowingErrorExpiry, runs]

theorem exec_modelPlausibilityExpiry_some (n : Nat) (runs : s.ctl.mp = some (k, a)) :
    ∃ t, exec (.modelPlausibilityExpiry n) s = .next t ∧ SupervisedAt s t 7 0x1307 (a + s.par 0x080A * ms) := by
  refine ⟨_, ?_, s.supervised_at _ _ 7 (pay [n])⟩
  rw [exec_modelPlausibilityExpiry, execModelPlausibilityExpiry, runs]

/-! FOLLOW_REF_LOSS (R182). -/

/-- What the loss of the reference of a Follow leaves at the elapsed time `e`. -/
structure FollowLost (s t : State) (e : Nat) : Prop where
  own : t.dev.ownNew = some 1
  time : e ≤ t.tim.el
  alarmed : t.Alarmed 0x130A
  alarms : AlarmsBut [0x130A] s t
  free : s.dev.newMode = none → t.dev = { s.dev with ownNew := some 1 } ∧ t.ord = s.ord
  frame : Frame [.dev, .ord, .alarms, .rcd, .tim, .elapsed, .working, .regs] s t

theorem State.followLost_at (s : State) (e : Nat) : FollowLost s (((s.reachEl e).ownMode 1).raise 0x130A) e := by
  have moved := s.reachEl_frame e
  have late := s.le_reachEl e
  have alarmR (c : Nat) : (s.reachEl e).alarm? c = s.alarm? c := rfl
  generalize s.reachEl e = r at *
  have devR : r.dev = s.dev := moved .dev (by simp)
  have asked := r.ownMode_asks 1
  have alone := r.ownMode_alone (mode := 1)
  generalize r.ownMode 1 = v at *
  have raised := State.raise_acts v 0x130A []
  have dev : (v.raise 0x130A).dev = v.dev := raised.frame .dev rfl
  have ord : (v.raise 0x130A).ord = v.ord := raised.frame .ord rfl
  have tim : (v.raise 0x130A).tim = r.tim := (raised.frame .tim rfl).trans (asked.acts.frame .tim rfl)
  refine ⟨by rw [dev, asked.own], tim ▸ late, (alarm_raise ..).trans (if_pos rfl), fun c hc => ?_, fun free => ?_, ?_⟩
  · exact (alarm_raise_other fun same => hc (by simp [same])).trans ((alarm_of_acts asked.acts rfl).trans (alarmR c))
  · have free' : r.dev.newMode = none := by rw [devR, free]
    exact ⟨by rw [dev, alone free', ← devR], by rw [ord, asked.free free', moved .ord (by simp)]⟩
  · exact ((moved.mono (by simp)).trans (asked.acts.framed.mono (by simp))).trans
      (raised.reaches (ps := [.dev, .ord, .alarms, .rcd, .tim, .elapsed, .working, .regs]))

theorem exec_followRefLoss_follow (cycle : s.fullCycle = true) (follow : s.dev.mode = 5) :
    ∃ t, exec .followRefLoss s = .next t ∧ FollowLost s t (s.ctl.followAt + s.par 0x0715 * ms) := by
  refine ⟨_, ?_, s.followLost_at _⟩
  rw [exec_followRefLoss, execFollowRefLoss, if_pos (by rw [cycle, follow]; rfl)]

/-! JOYSTICK_TIMEOUT, WIND_FEEDFORWARD_RAMP and INJECTION_END (R172, R183, R190). -/

/-- R183: the joystick's demand is lost at the elapsed time `e`. -/
def State.joystickLostAt (s : State) (e : Nat) : State := { s.reachEl e with dev := { (s.reachEl e).dev with joyLost := true } }

theorem State.joystickLostAt_loses (s : State) (e : Nat) : (s.joystickLostAt e).dev = { s.dev with joyLost := true } ∧
    e ≤ (s.joystickLostAt e).tim.el ∧ Frame [.dev, .tim, .elapsed, .working] s (s.joystickLostAt e) := by
  refine ⟨rfl, s.le_reachEl e, ?_⟩
  intro p hp
  cases p <;> first | rfl | simp at hp

theorem exec_joystickTimeout_joystick (cycle : s.fullCycle = true) (joystick : s.dev.mode = 6) :
    ∃ t, exec .joystickTimeout s = .next t ∧ t.dev = { s.dev with joyLost := true } ∧
    s.dev.joyAt + s.par 0x0716 * ms ≤ t.tim.el ∧ Frame [.dev, .tim, .elapsed, .working] s t := by
  refine ⟨_, ?_, s.joystickLostAt_loses _⟩
  rw [exec_joystickTimeout, execJoystickTimeout, if_pos (by rw [cycle, joystick]; rfl)]
  rfl

/-- R172: a ramp of the wind feedforward ends at the elapsed time `e`. -/
def State.rampEnds (s : State) (up : Bool) (e : Nat) : State :=
  { s.reachEl e with ctl := { (s.reachEl e).ctl with ramp := none, wff := if up then (s.reachEl e).ctl.wff else [0, 0, 0] } }

theorem State.rampEnds_ends (s : State) (up : Bool) (e : Nat) :
    (s.rampEnds up e).ctl = { s.ctl with ramp := none, wff := if up then s.ctl.wff else [0, 0, 0] } ∧
    e ≤ (s.rampEnds up e).tim.el ∧ Frame [.tim, .elapsed, .working, .ctl] s (s.rampEnds up e) := by
  refine ⟨rfl, s.le_reachEl e, ?_⟩
  intro p hp
  cases p <;> first | rfl | simp at hp

theorem exec_windFeedforwardRamp_some (runs : s.ctl.ramp = some (up, a)) : ∃ t, exec .windFeedforwardRamp s = .next t ∧
    t.ctl = { s.ctl with ramp := none, wff := if up then s.ctl.wff else [0, 0, 0] } ∧ a + s.par 0x0711 * sec ≤ t.tim.el ∧
    Frame [.tim, .elapsed, .working, .ctl] s t := by
  refine ⟨_, ?_, s.rampEnds_ends up _⟩
  rw [exec_windFeedforwardRamp, execWindFeedforwardRamp, runs]
  rfl

/-- R190: an injection ends at the working time `e`. -/
def State.injectionEnds (s : State) (e : Nat) : State := { s.reach e with ctl := { (s.reach e).ctl with inj := none, refAdd := [0, 0, 0] } }

theorem State.injectionEnds_ends (s : State) (e : Nat) : (s.injectionEnds e).ctl = { s.ctl with inj := none, refAdd := [0, 0, 0] } ∧
    e ≤ (s.injectionEnds e).tim.wt ∧ Frame [.tim, .elapsed, .working, .ctl] s (s.injectionEnds e) := by
  refine ⟨rfl, s.le_reach e, ?_⟩
  intro p hp
  cases p <;> first | rfl | simp at hp

theorem exec_injectionEnd_some {i : Injection} (runs : s.ctl.inj = some i) (started : i.started = true) : ∃ t, exec .injectionEnd s = .next t ∧
    t.ctl = { s.ctl with inj := none, refAdd := [0, 0, 0] } ∧ i.startT + i.duration * sec ≤ t.tim.wt ∧ Frame [.tim, .elapsed, .working, .ctl] s t := by
  refine ⟨_, ?_, s.injectionEnds_ends _⟩
  rw [exec_injectionEnd, execInjectionEnd, runs]
  exact congrArg Host.Outcome.next (if_pos started)

end

/-- Settles O17: a step that is open poses its problem, waits for it, and ends with the demand of the solved problem, of the plan or of the fixed gain, each
within its bounds; every timer of control is one jump in time and one change of control. -/
theorem theControlStepBoundsTheDemandAndSupervises : Obligations.TheControlStepBoundsTheDemandAndSupervises := by
  unfold Obligations.TheControlStepBoundsTheDemandAndSupervises
  intro acts ready ended solved
  refine ⟨fun s => exec_controlStepRuns_closed, fun s opens _ => exec_controlStepRuns_first opens, fun s => exec_controlStepRuns_waits, fun s opens other over' done => ?_,
    fun s opens other over' fails few planned => ?_, fun s opens other over' fails used => ?_, fun s opens lost other few planned => ?_,
    fun s => exec_controlStepRuns_joystick, fun h a s runs => ?_, fun n k a s runs => ?_, fun s cycle follow => ?_, fun s => exec_joystickTimeout_joystick,
    fun up a s => exec_windFeedforwardRamp_some, fun i s => exec_injectionEnd_some⟩
  · obtain ⟨t, run, done', d, frame⟩ := exec_controlStepRuns_solved opens other over' done
    exact ⟨t, run, done', d.tau, d.plan, d.head, d.reuse, d.fixedGain, d.regularised, d.plans, d.gains, frame⟩
  · obtain ⟨t, run, done', d, frame⟩ := exec_controlStepRuns_plan opens other over' fails few planned
    exact ⟨t, run, done', d.tau, d.plan, d.reuse, d.alarmed, d.alarms, frame⟩
  · obtain ⟨t, run, done', d, frame⟩ := exec_controlStepRuns_gain opens other over' fails used
    exact ⟨t, run, done', d.tau, d.fixedGain, d.alarmed, d.alarms, frame⟩
  · obtain ⟨t, run, late, done', d, frame⟩ := exec_controlStepRuns_lost opens lost other few planned
    exact ⟨t, run, late, done', d.tau, d.reuse, d.alarmed, d.alarms, frame⟩
  · obtain ⟨t, run, d⟩ := exec_followingErrorExpiry_some h runs
    refine ⟨t, run, d.time, d.alarmed, fun c hc => d.alarms c ?_, d.joystick, d.stays, d.idle, d.stopped, d.tau, d.frame⟩
    cases h <;> simp_all
  · obtain ⟨t, run, d⟩ := exec_modelPlausibilityExpiry_some n runs
    exact ⟨t, run, d.time, d.alarmed, d.alarms, d.joystick, d.stays, d.idle, d.stopped, d.tau, d.frame⟩
  · obtain ⟨t, run, d⟩ := exec_followRefLoss_follow cycle follow
    exact ⟨t, run, d.own, d.time, d.alarmed, d.alarms, d.free, d.frame⟩

end Sys2Proof.Machine

/-! ALLOCATION_STEP (R216, R224 to R231): what the plan of a cycle bounds, and what the steps of the allocation leave of it. -/
namespace Sys2Proof.Machine
set_option Elab.async false

section
variable {s t u : State} {n k a i e m tag j : Nat} {b : Bool}

/-! The plan of a cycle. -/

/-- The plan of the cycle is the same: what it takes, how much it covers and shapes. -/
structure PlanKept (s t : State) : Prop where
  posed : t.alc.posed = s.alc.posed
  taken : t.alc.taken = s.alc.taken
  cover : t.alc.cover = s.alc.cover
  shape : t.alc.shape = s.alc.shape
  nshape : t.alc.nshape = s.alc.nshape
  advisory : t.alc.advisory = s.alc.advisory
  scens : t.alc.scens.length = s.alc.scens.length

namespace PlanKept

theorem refl (s : State) : PlanKept s s := ⟨rfl, rfl, rfl, rfl, rfl, rfl, rfl⟩

theorem trans (h : PlanKept s t) (k : PlanKept t u) : PlanKept s u :=
  ⟨k.posed.trans h.posed, k.taken.trans h.taken, k.cover.trans h.cover, k.shape.trans h.shape, k.nshape.trans h.nshape, k.advisory.trans h.advisory,
    k.scens.trans h.scens⟩

theorem of_alc (same : t.alc = s.alc) : PlanKept s t := by
  constructor <;> rw [same]

theorem setScen (h : PlanKept s t) (j : Nat) (f : Scen → Scen) : PlanKept s (t.setScen j f) :=
  h.trans ⟨rfl, rfl, rfl, rfl, rfl, rfl, List.length_modify ..⟩

theorem each {f : State → Nat → State} {l : List Nat} (h : PlanKept s t) (k : ∀ u n, PlanKept u (f u n)) : PlanKept s (t.each l f) :=
  List.foldlRecOn (motive := PlanKept s) _ _ h fun u hu n _ => hu.trans (k u n)

theorem scenarioWaits (s : State) (j : Nat) (b : Bool) : PlanKept s (s.scenarioWaits j b) := (refl s).setScen ..

theorem movePhi (s : State) (j : Nat) : PlanKept s (s.movePhi j) := by
  unfold State.movePhi
  dsimp only
  split
  · exact refl s
  · exact (refl s).setScen ..

theorem poseBatch (s : State) (p tag : Nat) (block : Block) : PlanKept s (s.poseBatch p tag block) := by
  unfold State.poseBatch
  split
  next _ id _ =>
    split
    next _ mould _ =>
      have same : (s.poseProblem tag id false (mould.blockWords block) (s.windowEnd 15000)).alc = s.alc := (State.poseProblem_acts ..).frame .alc rfl
      generalize s.poseProblem tag id false (mould.blockWords block) (s.windowEnd 15000) = v at *
      dsimp only
      split
      · exact (of_alc same).trans ⟨rfl, rfl, rfl, rfl, rfl, rfl, rfl⟩
      · exact of_alc same
    next => exact refl s
  next => exact refl s

theorem poseScenario (s : State) (n i j : Nat) : PlanKept s (s.poseScenario n i j) := by
  unfold State.poseScenario
  dsimp only
  split
  · exact poseBatch ..
  · exact (poseBatch ..).trans (poseBatch ..)

theorem poseAllocation (s : State) : PlanKept s s.poseAllocation := by
  unfold State.poseAllocation
  dsimp only
  have begun := poseBatch s 0x0320 nominalTag (s.allocBlock s.plant s.alc.shape.length (s.alc.shape.zipIdx.map (fun e => s.shapeRow e.1 e.2)))
  generalize s.poseBatch 0x0320 nominalTag _ = v at *
  exact List.foldlRecOn (motive := PlanKept s) _ _ begun fun u hu e _ => hu.trans (poseScenario ..)

theorem poseFills (s : State) : PlanKept s s.poseFills := of_alc ((State.poseFills_acts s).frame .alc rfl)

end PlanKept

/-- R224: as many scenarios as the mode wants of those that apply. -/
def State.coverWanted (s : State) : Nat := s.modeCover (s.scenList.filter s.applicable).length

/-- R225: as many scenarios as the throttle and the lanes allow. -/
def State.coverAllowed (s : State) : Nat := s.coverLimits.foldl Nat.min s.coverWanted

/-- R224 to R232: the plan is set. -/
def State.planSet (s : State) : State :=
  { s with alc := { s.alc with
    posed := true
    tags := []
    taken := s.takenScenarios s.coverAllowed
    shape := s.shaping
    fb := s.fallbackAllocation
    cover := s.coverAllowed
    nshape := s.shaping.length
    advisory := s.dev.mode == 6
    reduced := decide (s.coverAllowed < s.coverWanted)
    next := match (s.takenScenarios s.coverAllowed).getLast? with
      | some j => s.scenAfter j
      | none => s.alc.next } }

/-- R222, R235: the scenarios that the plan leaves out. -/
def State.planWaits (s : State) : State :=
  s.each (s.scenList.filter (fun j => !s.alc.taken.contains j)) (fun t j => t.scenarioWaits j (s.alc.shape.contains j))

/-- R225: the alarm of a reduced cover. -/
def State.coverAlarm (s : State) (before less : Bool) : State := if less then (if before then s else s.raise 0x1605) else s.causeGone 0x1605

theorem State.planAllocation_eq (s : State) : s.planAllocation =
    (s.each s.scenList State.movePhi).planSet.planWaits.coverAlarm s.alc.reduced
      (decide ((s.each s.scenList State.movePhi).coverAllowed < (s.each s.scenList State.movePhi).coverWanted)) := rfl

theorem State.coverAlarm_alc (s : State) (before less : Bool) : (s.coverAlarm before less).alc = s.alc := by
  unfold State.coverAlarm
  split
  · split
    · rfl
    · exact (State.raise_acts ..).frame .alc rfl
  · exact (State.causeGone_acts ..).frame .alc rfl

/-- The plan of the cycle holds its bounds. -/
structure Planned (s t : State) : Prop where
  posed : t.alc.posed = true
  cover : t.alc.taken.length ≤ t.alc.cover
  counted : t.alc.nshape = t.alc.shape.length
  shaped : t.alc.nshape ≤ s.par 0x030C
  scens : t.alc.scens.length = s.alc.scens.length
  advisory : t.alc.advisory = (s.dev.mode == 6)

theorem Planned.kept (h : Planned s t) (k : PlanKept t u) : Planned s u :=
  ⟨by rw [k.posed, h.posed], by rw [k.taken, k.cover]; exact h.cover, by rw [k.nshape, k.shape]; exact h.counted, by rw [k.nshape]; exact h.shaped,
    by rw [k.scens, h.scens], by rw [k.advisory, h.advisory]⟩

theorem State.shaping_bounded (s : State) : s.shaping.length ≤ s.par 0x030C := by
  unfold State.shaping
  split
  · exact Nat.zero_le _
  · exact List.length_take_le ..

theorem State.takenScenarios_bounded (s : State) (c : Nat) : (s.takenScenarios c).length ≤ c := List.length_take_le ..

theorem State.planSet_planned (s : State) : Planned s s.planSet :=
  ⟨rfl, s.takenScenarios_bounded _, rfl, s.shaping_bounded, rfl, rfl⟩

theorem State.planAllocation_planned (s : State) : Planned s s.planAllocation := by
  have moved := (PlanKept.refl s).each (l := s.scenList) PlanKept.movePhi
  have acts := (Acts.refl s).each (l := s.scenList) State.movePhi_acts
  rw [State.planAllocation_eq]
  generalize s.each s.scenList State.movePhi = v at *
  have pat : v.pat = s.pat := acts.frame .pat rfl
  have dev : v.dev = s.dev := acts.frame .dev rfl
  have set' := v.planSet_planned
  generalize decide (v.coverAllowed < v.coverWanted) = less
  generalize v.planSet = w at *
  have waits : PlanKept w w.planWaits := (PlanKept.refl w).each fun u j => .scenarioWaits u j _
  have done := set'.kept (waits.trans (.of_alc (State.coverAlarm_alc _ s.alc.reduced less)))
  exact ⟨done.posed, done.cover, done.counted, by rw [← State.par_of_pat pat]; exact done.shaped, by rw [done.scens, moved.scens],
    by rw [done.advisory, dev]⟩

end

end Sys2Proof.Machine

/-! ALLOCATION_STEP (R209 to R212, R220 to R232): the end of the step. -/
namespace Sys2Proof.Machine
set_option Elab.async false

section
variable {s t u : State} {n k a i e m tag j : Nat} {b : Bool} {cause : Option Nat}

/-! The commands and the results. -/

/-- The plan of the cycle, the fallback and the tags are the same. -/
structure AllocKept (s t : State) : Prop where
  plan : PlanKept s t
  fallback : t.alc.fallback = s.alc.fallback
  tags : t.alc.tags = s.alc.tags

namespace AllocKept

theorem refl (s : State) : AllocKept s s := ⟨.refl s, rfl, rfl⟩

theorem trans (h : AllocKept s t) (k : AllocKept t u) : AllocKept s u := ⟨h.plan.trans k.plan, k.fallback.trans h.fallback, k.tags.trans h.tags⟩

theorem of_alc (same : t.alc = s.alc) : AllocKept s t := ⟨.of_alc same, by rw [same], by rw [same]⟩

theorem setThr (s : State) (n : Nat) (f : Thr → Thr) : AllocKept s (s.setThr n f) := ⟨⟨rfl, rfl, rfl, rfl, rfl, rfl, rfl⟩, rfl, rfl⟩

theorem setScen (s : State) (j : Nat) (f : Scen → Scen) : AllocKept s (s.setScen j f) := ⟨(PlanKept.refl s).setScen j f, rfl, rfl⟩

theorem command (s : State) (n : Nat) (want angle fr : Int) (onEdge : Bool) : AllocKept s (s.command n want angle fr onEdge) := by
  unfold State.command
  dsimp only
  split
  · exact setThr ..
  · split <;> exact setThr ..

theorem solvedCommand (s : State) (n : Nat) : AllocKept s (s.solvedCommand n) := by
  unfold State.solvedCommand
  dsimp only
  split <;> exact command ..

theorem swingStep (s : State) (n k : Nat) (cw : Bool) : AllocKept s (s.swingStep n k cw) := by
  unfold State.swingStep
  exact setThr ..

theorem fallbackCommand (s : State) (n : Nat) : AllocKept s (s.fallbackCommand n) := by
  unfold State.fallbackCommand
  exact setThr ..

theorem applyAllocation (s : State) (b : Bool) : AllocKept s (s.applyAllocation b) := by
  refine List.foldlRecOn (motive := AllocKept s) _ _ (refl s) fun u hu n _ => hu.trans ?_
  split
  · exact setThr ..
  · split
    · exact swingStep ..
    · split
      · exact fallbackCommand ..
      · exact solvedCommand ..

theorem noteSlack (s : State) (b : Bool) : AllocKept s (s.noteSlack b) := by
  unfold State.noteSlack
  extract_lets sl short new alc t u
  have slack : AllocKept s t := ⟨⟨rfl, rfl, rfl, rfl, rfl, rfl, rfl⟩, rfl, rfl⟩
  have told : Acts 34359738752 t u :=
    (Acts.refl t).each fun v a => ((State.event_acts ..).mono rfl).step (State.raise_acts ..) rfl
  have both := slack.trans (of_alc (told.frame .alc rfl))
  split
  · exact both.trans (of_alc ((State.causeGone_acts ..).frame .alc rfl))
  · exact both

theorem scenarioResult (s : State) (i j : Nat) : AllocKept s (s.scenarioResult i j) := by
  unfold State.scenarioResult
  extract_lets c n shaped sts ok
  generalize ok = done
  split
  · exact setScen ..
  · exact setScen ..

theorem results (s : State) (l : List (Nat × Nat)) : AllocKept s (l.foldl (fun (t : State) (e : Nat × Nat) => t.scenarioResult e.2 e.1) s) :=
  List.foldlRecOn (motive := AllocKept s) _ _ (refl s) fun _ hu _ _ => hu.trans (scenarioResult ..)

end AllocKept

/-! The fallback (R231). -/

/-- What the choice between the nominal solution and the fallback leaves. -/
structure FallbackNoted (s t : State) (cause : Option Nat) : Prop where
  fallback : t.alc.fallback = cause
  cond : t.cond 7 = cause.isSome
  gone : cause = none → t.CauseGone 0x1603
  event : cause ≠ none → t.flag F_CTL_ALC_EVENT_FALLBACK_EVT = true
  alarmed : cause ≠ none → s.alc.fallback ≠ cause → t.Alarmed 0x1603

/-- R231: the fallback is set, with its condition. -/
def State.fallbackSet (s : State) (cause : Option Nat) : State := { s with alc := { s.alc with fallback := cause } }.setCond 7 cause.isSome

theorem State.fallbackSet_set (sound : s.Sound) (cause : Option Nat) :
    (s.fallbackSet cause).alc.fallback = cause ∧ (s.fallbackSet cause).cond 7 = cause.isSome ∧ (s.fallbackSet cause).Sound := by
  have soundA : ({ s with alc := { s.alc with fallback := cause } } : State).Sound := sound.of_eq rfl rfl rfl rfl rfl rfl rfl rfl rfl rfl rfl rfl rfl rfl
  obtain ⟨cond, _, changes⟩ := State.setCond_spec soundA (show 7 < 32 by decide) cause.isSome
  exact ⟨congrArg Alc.fallback (changes.frame .alc (by simp)), cond, changes.sound⟩

theorem State.noteFallback_none (s : State) : s.noteFallback none = (s.fallbackSet none).causeGone 0x1603 := rfl

theorem State.noteFallback_some (s : State) (c : Nat) : s.noteFallback (some c) =
    if s.alc.fallback = some c then (s.fallbackSet (some c)).event F_CTL_ALC_EVENT_FALLBACK_EVT
    else ((s.fallbackSet (some c)).event F_CTL_ALC_EVENT_FALLBACK_EVT).raise 0x1603 (pay [c]) := rfl

theorem State.noteFallback_notes (sound : s.Sound) (cause : Option Nat) : FallbackNoted s (s.noteFallback cause) cause := by
  obtain ⟨fallback, cond, soundS⟩ := State.fallbackSet_set sound cause
  cases cause with
  | none =>
    rw [State.noteFallback_none]
    generalize s.fallbackSet none = v at *
    have gone := (Changes.refl (ps := [.alarms, .rcd, .regs]) (fs := recFields) (cs := [0x1603]) soundS).causeGone 0x1603
    exact ⟨(congrArg Alc.fallback (gone.frame .alc (by simp))).trans fallback, (gone.flag (bitAt A_CTL_DEGR 7)).trans cond, fun _ => State.causeGone_causeGone _ _,
      fun some' => absurd rfl some', fun some' => absurd rfl some'⟩
  | some c =>
    rw [State.noteFallback_some]
    generalize s.fallbackSet (some c) = v at *
    have event := (Changes.refl (ps := [.alarms, .rcd, .regs]) (fs := F_CTL_ALC_EVENT_FALLBACK_EVT :: recFields) (cs := [0x1603]) soundS).event
      F_CTL_ALC_EVENT_FALLBACK_EVT
    have shown : (v.event F_CTL_ALC_EVENT_FALLBACK_EVT).flag F_CTL_ALC_EVENT_FALLBACK_EVT = true := flag_setFlag soundS _ true rfl
    generalize v.event F_CTL_ALC_EVENT_FALLBACK_EVT = w at *
    split
    next same =>
      exact ⟨(congrArg Alc.fallback (event.frame .alc (by simp))).trans fallback, (event.flag (bitAt A_CTL_DEGR 7)).trans cond, fun h => by simp at h,
        fun _ => shown, fun _ other => absurd same other⟩
    next =>
      have raised := event.raise 0x1603 (pay [c])
      refine ⟨(congrArg Alc.fallback (raised.frame .alc (by simp))).trans fallback, (raised.flag (bitAt A_CTL_DEGR 7)).trans cond, fun h => by simp at h,
        fun _ => ?_, fun _ _ => (alarm_raise ..).trans (if_pos rfl)⟩
      rw [((Changes.refl (ps := [.alarms, .rcd, .regs]) event.sound).raise (fs := recFields) (cs := [0x1603]) 0x1603 (pay [c])).flag F_CTL_ALC_EVENT_FALLBACK_EVT, shown]

end

end Sys2Proof.Machine

/-! ALLOCATION_STEP, SCENARIO_STALE, SHAPE_HOLD_EXPIRY and AZIMUTH_SWING (R29, R210, R222, R228, R231). -/
namespace Sys2Proof.Machine
set_option Elab.async false

section
variable {s t u : State} {n k a i e m tag j : Nat} {b : Bool} {cause : Option Nat}

/-! The end of the step, whatever state it begins in. -/

theorem State.setCond_steps (s : State) (n : Nat) (b : Bool) :
    (s.setCond n b).dev.stepsDone = s.dev.stepsDone ∧ (s.setCond n b).dev.stepsLate = s.dev.stepsLate := by
  unfold State.setCond
  split <;> exact ⟨rfl, rfl⟩

/-- The choice of the fallback keeps the plan, the tags and the steps. -/
structure FallbackKept (s t : State) : Prop where
  plan : PlanKept s t
  tags : t.alc.tags = s.alc.tags
  stepsDone : t.dev.stepsDone = s.dev.stepsDone
  stepsLate : t.dev.stepsLate = s.dev.stepsLate

theorem FallbackKept.acts (h : FallbackKept s t) (acts : Acts m t u) (alc : m.testBit Part.alc.idx = false) (dev : m.testBit Part.dev.idx = false) :
    FallbackKept s u := by
  have alc' : u.alc = t.alc := acts.frame .alc alc
  have dev' : u.dev = t.dev := acts.frame .dev dev
  exact ⟨h.plan.trans (.of_alc alc'), by rw [alc', h.tags], by rw [dev', h.stepsDone], by rw [dev', h.stepsLate]⟩

theorem State.fallbackSet_kept (s : State) (cause : Option Nat) : FallbackKept s (s.fallbackSet cause) := by
  have set' : PlanKept s { s with alc := { s.alc with fallback := cause } } := ⟨rfl, rfl, rfl, rfl, rfl, rfl, rfl⟩
  obtain ⟨done, late⟩ := State.setCond_steps { s with alc := { s.alc with fallback := cause } } 7 cause.isSome
  have alc : (s.fallbackSet cause).alc = { s.alc with fallback := cause } := (State.setCond_acts ..).frame .alc rfl
  exact ⟨set'.trans (.of_alc alc), by rw [alc], done, late⟩

theorem State.noteFallback_kept (s : State) (cause : Option Nat) : FallbackKept s (s.noteFallback cause) := by
  have set' := s.fallbackSet_kept cause
  cases cause with
  | none => exact set'.acts (State.causeGone_acts ..) rfl rfl
  | some c =>
    have event := set'.acts (State.event_acts _ F_CTL_ALC_EVENT_FALLBACK_EVT) rfl rfl
    rw [State.noteFallback_some]
    split
    · exact event
    · exact event.acts (State.raise_acts ..) rfl rfl

/-- R209 to R212, R231: the fallback noted, the commands applied and the slack noted. -/
def State.allocApplied (s : State) (cause : Option Nat) : State := ((s.noteFallback cause).applyAllocation cause.isSome).noteSlack cause.isSome

/-- R220 to R222: the results of the scenarios taken. -/
def State.allocResults (s : State) (l : List Nat) : State := l.zipIdx.foldl (fun (t : State) (e : Nat × Nat) => t.scenarioResult e.2 e.1) s

/-- R226: the figures of the step. -/
def State.allocFigures (s : State) (l : List Nat) (nominal : Nat) : State :=
  { s with alc := { s.alc with
    evaluated := (l.filter (fun j => (s.scen j).flags / 2 % 2 == 1)).length
    regularised := nominal == 4
    limited := s.allocThrs.any (fun t => (s.thr t).tLim || (s.thr t).rateLim || (s.thr t).azLim) } }

theorem State.allocationEnds_eq (s : State) : s.allocationEnds =
    ((s.allocApplied (fallbackCause (s.batchStatus nominalTag))).allocResults s.alc.taken).allocFigures s.alc.taken (s.batchStatus nominalTag) := rfl

theorem State.allocResults_acts (s : State) (l : List Nat) : Acts (partMask [.alc]) s (s.allocResults l) :=
  List.foldlRecOn (motive := fun u => Acts (partMask [.alc]) s u) _ _ (.refl s) fun _ hu _ _ => hu.step (State.scenarioResult_acts ..) rfl

/-- What the end of the step leaves. -/
structure AllocEnded (s t : State) : Prop where
  plan : PlanKept s t
  tags : t.alc.tags = s.alc.tags
  regularised : t.alc.regularised = (s.batchStatus nominalTag == 4)
  evaluated : t.alc.evaluated ≤ s.alc.taken.length
  stepsDone : t.dev.stepsDone = s.dev.stepsDone
  stepsLate : t.dev.stepsLate = s.dev.stepsLate
  frame : Frame [.dev, .alarms, .rcd, .alc, .regs] s t

theorem State.allocationEnds_ends (s : State) : AllocEnded s s.allocationEnds := by
  have frame := ((State.allocationEnds_acts s).mono (m := partMask [.dev, .alarms, .rcd, .alc, .regs]) rfl).framed
  rw [State.allocationEnds_eq] at frame ⊢
  obtain ⟨n, status⟩ : ∃ n, s.batchStatus nominalTag = n := ⟨_, rfl⟩
  rw [status] at frame ⊢
  have noted := s.noteFallback_kept (fallbackCause n)
  rw [State.allocApplied] at frame ⊢
  generalize s.noteFallback (fallbackCause n) = v at *
  have applied := AllocKept.applyAllocation v (fallbackCause n).isSome
  have acts := State.applyAllocation_acts v (fallbackCause n).isSome
  generalize v.applyAllocation (fallbackCause n).isSome = w at *
  have slack := applied.trans (AllocKept.noteSlack w (fallbackCause n).isSome)
  have acts' := (acts.mono (m := 67108864 ||| 34426847616) rfl).step (State.noteSlack_acts w (fallbackCause n).isSome) rfl
  generalize w.noteSlack (fallbackCause n).isSome = x at *
  have results := slack.trans (AllocKept.results x s.alc.taken.zipIdx)
  have acts'' := x.allocResults_acts s.alc.taken
  change AllocKept v (x.allocResults s.alc.taken) at results
  generalize x.allocResults s.alc.taken = y at *
  have dev : y.dev = v.dev := (acts''.frame .dev rfl).trans (acts'.frame .dev rfl)
  have figures : PlanKept y (y.allocFigures s.alc.taken n) := ⟨rfl, rfl, rfl, rfl, rfl, rfl, rfl⟩
  exact ⟨(noted.plan.trans results.plan).trans figures, results.tags.trans noted.tags, by rw [status]; rfl, List.length_filter_le ..,
    (congrArg Dev.stepsDone dev).trans noted.stepsDone, (congrArg Dev.stepsLate dev).trans noted.stepsLate, frame⟩

/-! The fallback of the step (R231). -/

/-- The fields of the slack's event and its alarm. -/
def slackFields : List Fld := F_CTL_ALC_EVENT_SHORT_EVT :: recFields

theorem mem_slackFields {f : Fld} (h : f ∈ recFields) : f ∈ slackFields := List.mem_cons_of_mem _ h

theorem State.noteSlack_changes (sound : s.Sound) (b : Bool) : Changes [.alarms, .rcd, .alc, .regs] slackFields [0x1604] s (s.noteSlack b) := by
  unfold State.noteSlack
  extract_lets sl short new alc t u
  have slack : Changes [.alarms, .rcd, .alc, .regs] slackFields [0x1604] s t := (Changes.refl sound).upd t
  have told : Changes [.alarms, .rcd, .alc, .regs] slackFields [0x1604] s u := slack.each fun v a _ hv =>
    (hv.event F_CTL_ALC_EVENT_SHORT_EVT (hf := List.mem_cons_self ..)).raise 0x1604 (pay [a]) (hf := fun _ => mem_slackFields)
  exact Changes.ite (fun _ => told.causeGone 0x1604 (hf := fun _ => mem_slackFields)) fun _ => told

theorem State.allocationEnds_notes (sound : s.Sound) (status : s.batchStatus nominalTag = n) : FallbackNoted s s.allocationEnds (fallbackCause n) := by
  rw [State.allocationEnds_eq, status, State.allocApplied]
  have noted := State.noteFallback_notes sound (fallbackCause n)
  have soundV : (s.noteFallback (fallbackCause n)).Sound := (State.noteFallback_acts ..).sound sound
  generalize s.noteFallback (fallbackCause n) = v at *
  have applied := (Changes.refl (ps := [.alarms, .rcd, .alc, .regs]) (fs := slackFields) (cs := [0x1604]) soundV).acts
    (State.applyAllocation_acts v (fallbackCause n).isSome)
  have kept := AllocKept.applyAllocation v (fallbackCause n).isSome
  generalize v.applyAllocation (fallbackCause n).isSome = w at *
  have slack := applied.trans (State.noteSlack_changes applied.sound (fallbackCause n).isSome)
  have kept' := kept.trans (AllocKept.noteSlack w (fallbackCause n).isSome)
  generalize w.noteSlack (fallbackCause n).isSome = x at *
  have results := slack.acts (x.allocResults_acts s.alc.taken)
  have kept'' : AllocKept v (x.allocResults s.alc.taken) := kept'.trans (AllocKept.results x s.alc.taken.zipIdx)
  generalize x.allocResults s.alc.taken = y at *
  have done := results.upd (y.allocFigures s.alc.taken n)
  have fallback : (y.allocFigures s.alc.taken n).alc.fallback = v.alc.fallback := kept''.fallback
  generalize y.allocFigures s.alc.taken n = z at *
  have alarm : z.alarm? 0x1603 = v.alarm? 0x1603 := done.alarms 0x1603 (by simp)
  refine ⟨fallback.trans noted.fallback, (done.flag (bitAt A_CTL_DEGR 7)).trans noted.cond, fun free => ?_, fun fails => ?_, fun fails other => ?_⟩
  · exact (noted.gone free).kept alarm
  · exact (done.flag F_CTL_ALC_EVENT_FALLBACK_EVT).trans (noted.event fails)
  · exact alarm.trans (noted.alarmed fails other)

/-! The step (R29, R226). -/

/-- R29: the step is open and its result stands. -/
def State.allocReady (s : State) : Prop := s.stepOpen 4 = true ∧ s.hlt.discarded.contains 4 = false

/-- R226: the step that poses the batch. -/
def State.allocPosed (s : State) : State := s.planAllocation.poseAllocation.poseFills

/-- R29: the posed step goes on: it waits for the batch or ends. -/
def State.allocGoesOn (s : State) : State := if s.alc.tags.any s.problemWaits then s else s.allocationEnds.stepDone 4

/-- R11: the step whose result is lost. -/
def State.allocDropped (s : State) : State :=
  { s with dev := { s.dev with stepsLate := insertNew s.dev.stepsLate 4 }, alc := { s.alc with tags := [] } }

theorem State.allocPosed_planned (s : State) : Planned s s.allocPosed :=
  (s.planAllocation_planned).kept ((PlanKept.poseAllocation _).trans (.poseFills _))

theorem State.allocPosed_acts (s : State) : Acts (partMask [.alarms, .rcd, .alc, .slv, .regs, .xchg]) s s.allocPosed :=
  (((State.planAllocation_acts s).mono rfl).step (State.poseAllocation_acts _) rfl).step (State.poseFills_acts _) rfl

theorem exec_allocationStepRuns_closed (closed : s.stepOpen 4 = false) : exec .allocationStepRuns s = .next s := by
  rw [exec_allocationStepRuns, execAllocationStepRuns, closed]
  rfl

theorem exec_allocationStepRuns_eq (opens : s.stepOpen 4 = true) : exec .allocationStepRuns s =
    .next (if (if s.alc.posed then s else s.allocPosed).hlt.discarded.contains 4 then (if s.alc.posed then s else s.allocPosed).allocDropped.allocationEnds
      else (if s.alc.posed then s else s.allocPosed).allocGoesOn) := by
  rw [exec_allocationStepRuns, execAllocationStepRuns, opens]
  rfl

theorem exec_allocationStepRuns_first (ready : s.allocReady) (fresh : s.alc.posed = false) :
    exec .allocationStepRuns s = .next s.allocPosed.allocGoesOn := by
  obtain ⟨opens, stands⟩ := ready
  have none' : ¬(s.alc.posed = true) := by rw [fresh]; simp
  rw [exec_allocationStepRuns_eq opens, if_neg none']
  have acts := s.allocPosed_acts
  generalize s.allocPosed = v at *
  have hlt : v.hlt = s.hlt := acts.frame .hlt rfl
  rw [hlt, stands]
  rfl

theorem exec_allocationStepRuns_posed (ready : s.allocReady) (posed : s.alc.posed = true) : exec .allocationStepRuns s = .next s.allocGoesOn := by
  obtain ⟨opens, stands⟩ := ready
  rw [exec_allocationStepRuns_eq opens, if_pos posed, stands]
  rfl

theorem exec_allocationStepRuns_dropped (opens : s.stepOpen 4 = true) (lost : s.hlt.discarded.contains 4 = true) (posed : s.alc.posed = true) :
    exec .allocationStepRuns s = .next s.allocDropped.allocationEnds := by
  rw [exec_allocationStepRuns_eq opens, if_pos posed, lost]
  rfl

theorem State.stepDone_planned (s : State) (n : Nat) : PlanKept s (s.stepDone n) := ⟨rfl, rfl, rfl, rfl, rfl, rfl, rfl⟩

/-- What a step that goes on leaves. -/
structure AllocGoesOn (s t : State) : Prop where
  plan : PlanKept s t
  steps : t.dev.stepsDone = insertNew s.dev.stepsDone 4 ∨ (t.dev.stepsDone = s.dev.stepsDone ∧ t.alc.tags.any t.problemWaits = true)
  frame : Frame [.dev, .alarms, .rcd, .alc, .regs] s t

theorem State.allocGoesOn_goes (s : State) : AllocGoesOn s s.allocGoesOn := by
  rw [State.allocGoesOn]
  split
  next waits => exact ⟨.refl s, .inr ⟨rfl, waits⟩, .refl _ s⟩
  next =>
    have ended := s.allocationEnds_ends
    generalize s.allocationEnds = v at *
    exact ⟨ended.plan.trans (v.stepDone_planned 4), .inl (by show insertNew v.dev.stepsDone 4 = _; rw [ended.stepsDone]),
      ended.frame.trans ((v.stepDone_frame 4).mono (by simp))⟩

theorem State.allocGoesOn_ends (idle : s.alc.tags.any s.problemWaits = false) : s.allocGoesOn = s.allocationEnds.stepDone 4 := if_neg (by rw [idle]; simp)

theorem State.allocGoesOn_waits (waits : s.alc.tags.any s.problemWaits = true) : s.allocGoesOn = s := if_pos waits

/-- What the first step of a cycle leaves. -/
structure AllocBegun (s t : State) : Prop where
  planned : Planned s t
  steps : t.dev.stepsDone = insertNew s.dev.stepsDone 4 ∨ (t.dev.stepsDone = s.dev.stepsDone ∧ t.alc.tags.any t.problemWaits = true)
  frame : Frame [.dev, .alarms, .rcd, .alc, .slv, .regs, .xchg] s t

theorem State.allocPosed_begins (s : State) : AllocBegun s s.allocPosed.allocGoesOn := by
  have planned := s.allocPosed_planned
  have acts := s.allocPosed_acts
  generalize s.allocPosed = v at *
  have goes := v.allocGoesOn_goes
  have dev : v.dev = s.dev := acts.frame .dev rfl
  exact ⟨planned.kept goes.plan, by rw [← dev]; exact goes.steps, (acts.framed.mono (by simp)).trans (goes.frame.mono (by simp))⟩

/-- What a step whose batch has ended leaves, where its nominal problem ended with status `n`. -/
structure AllocDone (s t : State) : Prop where
  stepsDone : t.dev.stepsDone = insertNew s.dev.stepsDone 4
  noted : FallbackNoted s t (fallbackCause (s.batchStatus nominalTag))
  regularised : t.alc.regularised = (s.batchStatus nominalTag == 4)
  evaluated : t.alc.evaluated ≤ s.alc.taken.length
  plan : PlanKept s t
  frame : Frame [.dev, .alarms, .rcd, .alc, .regs] s t

theorem exec_allocationStepRuns_ended (sound : s.Sound) (ready : s.allocReady) (posed : s.alc.posed = true) (idle : s.alc.tags.any s.problemWaits = false) :
    ∃ t, exec .allocationStepRuns s = .next t ∧ AllocDone s t := by
  have run := exec_allocationStepRuns_posed ready posed
  rw [State.allocGoesOn_ends idle] at run
  have ended := s.allocationEnds_ends
  have noted := State.allocationEnds_notes sound (n := s.batchStatus nominalTag) rfl
  generalize s.allocationEnds = v at *
  exact ⟨_, run, by show insertNew v.dev.stepsDone 4 = _; rw [ended.stepsDone], ⟨noted.fallback, noted.cond, noted.gone, noted.event, noted.alarmed⟩,
    ended.regularised, ended.evaluated, ended.plan.trans (v.stepDone_planned 4), ended.frame.trans ((v.stepDone_frame 4).mono (by simp))⟩

/-- What a step whose result is lost leaves. -/
structure AllocLost (s t : State) : Prop where
  stepsLate : t.dev.stepsLate = insertNew s.dev.stepsLate 4
  stepsDone : t.dev.stepsDone = s.dev.stepsDone
  noted : FallbackNoted s t (some 2)
  tags : t.alc.tags = []
  frame : Frame [.dev, .alarms, .rcd, .alc, .regs] s t

theorem exec_allocationStepRuns_lost (sound : s.Sound) (opens : s.stepOpen 4 = true) (lost : s.hlt.discarded.contains 4 = true) (posed : s.alc.posed = true) :
    ∃ t, exec .allocationStepRuns s = .next t ∧ AllocLost s t := by
  have run := exec_allocationStepRuns_dropped opens lost posed
  have soundD : s.allocDropped.Sound := sound.of_eq rfl rfl rfl rfl rfl rfl rfl rfl rfl rfl rfl rfl rfl rfl
  have dropped : Frame [.dev, .alc] s s.allocDropped := by
    intro p hp
    cases p <;> first | rfl | simp at hp
  have late : s.allocDropped.dev.stepsLate = insertNew s.dev.stepsLate 4 := rfl
  have done : s.allocDropped.dev.stepsDone = s.dev.stepsDone := rfl
  have fallback : s.allocDropped.alc.fallback = s.alc.fallback := rfl
  have tags : s.allocDropped.alc.tags = [] := rfl
  have status : s.allocDropped.batchStatus nominalTag = 6 := rfl
  generalize s.allocDropped = v at *
  have ended := v.allocationEnds_ends
  have noted := State.allocationEnds_notes soundD status
  exact ⟨_, run, ended.stepsLate.trans late, ended.stepsDone.trans done, ⟨noted.fallback, noted.cond, noted.gone, noted.event, by rw [← fallback]; exact noted.alarmed⟩,
    ended.tags.trans tags, (dropped.mono (by simp)).trans ended.frame⟩

end

end Sys2Proof.Machine

/-! SCENARIO_STALE, SHAPE_HOLD_EXPIRY and AZIMUTH_SWING (R210, R222, R228), and the obligation on the allocation. -/
namespace Sys2Proof.Machine
set_option Elab.async false

section
variable {s t u : State} {n k a i e m tag j : Nat} {cw : Bool}

theorem State.scen_setScen (low : j - 1 < s.alc.scens.length) (f : Scen → Scen) : (s.setScen j f).scen j = f (s.scen j) := by
  simp only [State.scen, State.setScen, setNth, List.getD_eq_getElem?_getD, List.getElem?_modify_eq]
  rw [List.getElem?_eq_getElem low]
  rfl

theorem State.scen_given (given : s.scen j ≠ {}) : j - 1 < s.alc.scens.length := by
  by_contra high
  exact given (by rw [State.scen, List.getD_eq_getElem?_getD, List.getElem?_eq_none (by omega), Option.getD_none])

theorem State.scen_of_alc (same : t.alc = s.alc) (j : Nat) : t.scen j = s.scen j := by rw [State.scen, State.scen, same]

theorem State.thr_setThr (s : State) (n : Nat) (f : Thr → Thr) : (s.setThr n f).thr n = f (s.thr n) := aget_aset_self

theorem State.thr_setThr_other (s : State) (other : m ≠ n) (f : Thr → Thr) : (s.setThr n f).thr m = s.thr m := aget_aset_other other

theorem State.thr_of_alc (same : t.alc = s.alc) (n : Nat) : t.thr n = s.thr n := by rw [State.thr, State.thr, same]

/-! SCENARIO_STALE (R222). -/

/-- R222: the conditions of a scenario that becomes stale. -/
def State.turnsStale (s : State) (j : Nat) : Bool :=
  1 ≤ j && j ≤ s.nScen && s.applicable j && (s.scen j).due && s.par 0x030E ≤ (s.scen j).age && !(s.scen j).stale

theorem exec_scenarioStale_eq (j : Nat) (s : State) : exec (.scenarioStale j) s =
    .next (if s.turnsStale j then (s.setScen j (fun x => { x with stale := true })).raise 0x1602 (pay [j]) else s) := rfl

theorem exec_scenarioStale_already (stale : (s.scen j).stale = true) : exec (.scenarioStale j) s = .next s := by
  rw [exec_scenarioStale_eq, State.turnsStale, stale]
  simp

theorem exec_scenarioStale_due (first : 1 ≤ j) (last : j ≤ s.nScen) (applies : s.applicable j = true) (due : (s.scen j).due = true)
    (old : s.par 0x030E ≤ (s.scen j).age) (fresh : (s.scen j).stale = false) : ∃ t, exec (.scenarioStale j) s = .next t ∧
    t.scen j = { s.scen j with stale := true } ∧ t.Alarmed 0x1602 ∧ AlarmsBut [0x1602] s t ∧ Frame [.alarms, .rcd, .alc, .regs] s t := by
  have turns : s.turnsStale j = true := by simp [State.turnsStale, first, last, applies, due, old, fresh]
  have low : j - 1 < s.alc.scens.length := by
    have last' : j ≤ s.alc.scens.length := last
    omega
  have run := exec_scenarioStale_eq j s
  rw [if_pos turns] at run
  have marked := State.scen_setScen low fun x => { x with stale := true }
  have acts := State.setScen_acts s j fun x => { x with stale := true }
  generalize s.setScen j _ = v at *
  have raised := State.raise_acts v 0x1602 (pay [j])
  refine ⟨_, run, (State.scen_of_alc (raised.frame .alc rfl) j).trans marked, (alarm_raise ..).trans (if_pos rfl), fun c hc => ?_, ?_⟩
  · exact (alarm_raise_other fun same => hc (by simp [same])).trans (alarm_of_acts acts rfl)
  · exact (acts.reaches (ps := [.alarms, .rcd, .alc, .regs])).trans raised.reaches

/-! SHAPE_HOLD_EXPIRY (R228). -/

theorem State.shapeHeld_at (s : State) (given : s.scen j ≠ {}) (e : Nat) :
    ((s.reachEl e).setScen j fun x => { x with offHeld := true }).scen j = { s.scen j with offHeld := true } ∧
    e ≤ ((s.reachEl e).setScen j fun x => { x with offHeld := true }).tim.el ∧
    Frame [.tim, .elapsed, .working, .alc] s ((s.reachEl e).setScen j fun x => { x with offHeld := true }) :=
  ⟨State.scen_setScen (s := s.reachEl e) (State.scen_given given) _, s.le_reachEl e,
    ((s.reachEl_frame e).mono (by simp)).trans (((State.setScen_acts ..).mono (m := partMask [.alc]) rfl).framed.mono (by simp))⟩

theorem exec_shapeHoldExpiry_some (below : (s.scen j).below = some a) : ∃ t, exec (.shapeHoldExpiry j) s = .next t ∧
    t.scen j = { s.scen j with offHeld := true } ∧ a + s.par 0x030B * sec ≤ t.tim.el ∧ Frame [.tim, .elapsed, .working, .alc] s t := by
  have given : s.scen j ≠ {} := fun none' => by rw [none'] at below; simp at below
  refine ⟨_, ?_, s.shapeHeld_at given _⟩
  rw [exec_shapeHoldExpiry, execShapeHoldExpiry, below]

/-! AZIMUTH_SWING (R210). -/

/-- What a swing to the other edge leaves at the elapsed time `e`. -/
structure SwingBegun (s t : State) (n k : Nat) (cw : Bool) (e : Nat) : Prop where
  thr : t.thr n = { s.thr n with swing := some (k, cw), edge := none }
  others : ∀ m, m ≠ n → t.thr m = s.thr m
  time : e ≤ t.tim.el
  alarmed : t.Alarmed 0x1607
  alarms : AlarmsBut [0x1607] s t
  frame : Frame [.alarms, .rcd, .tim, .elapsed, .working, .alc, .regs] s t

theorem State.swing_begins (s : State) (n k : Nat) (cw : Bool) (e : Nat) :
    SwingBegun s (((s.reachEl e).setThr n fun h => { h with swing := some (k, cw), edge := none }).raise 0x1607 (pay [n])) n k cw e := by
  have moved := s.reachEl_frame e
  have late := s.le_reachEl e
  have alarmR (c : Nat) : (s.reachEl e).alarm? c = s.alarm? c := rfl
  generalize s.reachEl e = r at *
  have alc : r.alc = s.alc := moved .alc (by simp)
  have set' := r.thr_setThr n fun h => { h with swing := some (k, cw), edge := none }
  have others (m : Nat) (other : m ≠ n) := r.thr_setThr_other other fun h => { h with swing := some (k, cw), edge := none }
  have acts := State.setThr_acts r n fun h => { h with swing := some (k, cw), edge := none }
  generalize r.setThr n _ = v at *
  have raised := State.raise_acts v 0x1607 (pay [n])
  have alc' : (v.raise 0x1607 (pay [n])).alc = v.alc := raised.frame .alc rfl
  have tim : (v.raise 0x1607 (pay [n])).tim = r.tim := (raised.frame .tim rfl).trans (acts.frame .tim rfl)
  refine ⟨?_, fun m other => ?_, tim ▸ late, (alarm_raise ..).trans (if_pos rfl), fun c hc => ?_, ?_⟩
  · rw [State.thr_of_alc alc', set', State.thr_of_alc alc]
  · rw [State.thr_of_alc alc', others m other, State.thr_of_alc alc]
  · exact (alarm_raise_other fun same => hc (by simp [same])).trans ((alarm_of_acts acts rfl).trans (alarmR c))
  · exact ((moved.mono (by simp)).trans (acts.reaches (ps := [.alarms, .rcd, .tim, .elapsed, .working, .alc, .regs]))).trans raised.reaches

theorem exec_azimuthSwing_some (edge : (s.thr n).edge = some (k, cw, a)) :
    ∃ t, exec (.azimuthSwing n) s = .next t ∧ SwingBegun s t n k (!cw) (a + s.par 0x0310 * sec) := by
  refine ⟨_, ?_, s.swing_begins n k (!cw) _⟩
  rw [exec_azimuthSwing, execAzimuthSwing, edge]

/-! The cause of a fallback (R231). -/

theorem fallbackCause_eq (n : Nat) : fallbackCause n = (if n = 3 ∨ n = 4 then none else if n = 5 then some 1 else if n = 0 ∨ n = 6 then some 2 else some 3) := by
  simp [fallbackCause]

theorem fallbackCause_isSome (n : Nat) : (fallbackCause n).isSome = (decide (n ≠ 3) && decide (n ≠ 4)) := by
  rw [fallbackCause_eq]
  split
  next used => obtain rfl | rfl := used <;> rfl
  next fails =>
    obtain ⟨first, second⟩ := not_or.mp fails
    have held : (decide (n ≠ 3) && decide (n ≠ 4)) = true := by simp [first, second]
    rw [held]
    split
    · rfl
    · split <;> rfl

theorem fallbackCause_none (used : n = 3 ∨ n = 4) : fallbackCause n = none := (fallbackCause_eq n).trans (if_pos used)

theorem fallbackCause_some (first : n ≠ 3) (second : n ≠ 4) : fallbackCause n ≠ none := by
  have held := fallbackCause_isSome n
  intro none'
  rw [none'] at held
  simp [first, second] at held

end

/-- Settles O18: the plan of a cycle holds its bounds through the posing of the batch, the step ends once with the nominal solution or a noted fallback, and each
timer of scenarios and azimuths is one change. -/
theorem allocationFallsBackCoversAndSwings : Obligations.AllocationFallsBackCoversAndSwings := by
  unfold Obligations.AllocationFallsBackCoversAndSwings
  intro ready
  refine ⟨fun s => exec_allocationStepRuns_closed, fun s opens fresh => ?_, fun s opens posed waits => ?_, fun s sound opens posed idle => ?_,
    fun s sound opens lost posed => ?_, fun j s => exec_scenarioStale_due, fun j s => exec_scenarioStale_already, fun j a s => exec_shapeHoldExpiry_some,
    fun n k a cw s edge => ?_⟩
  · have begun := s.allocPosed_begins
    have run := exec_allocationStepRuns_first opens fresh
    generalize s.allocPosed.allocGoesOn = t at *
    obtain ⟨planned, steps, frame⟩ := begun
    exact ⟨t, run, planned.posed, steps, planned.cover, planned.counted, planned.shaped, planned.scens, planned.advisory, frame⟩
  · rw [exec_allocationStepRuns_posed opens posed, State.allocGoesOn_waits waits]
  · obtain ⟨t, run, d⟩ := exec_allocationStepRuns_ended sound opens posed idle
    refine ⟨t, run, d.stepsDone, fun n status => ?_, d.evaluated, d.plan.taken, d.plan.shape, d.plan.scens, d.frame⟩
    have noted := d.noted
    rw [← status] at noted
    refine ⟨noted.fallback.trans (fallbackCause_eq n), noted.cond.trans (fallbackCause_isSome n), fun used => noted.gone (fallbackCause_none used),
      fun first second => ⟨noted.event (fallbackCause_some first second), fun other => noted.alarmed (fallbackCause_some first second) ?_⟩, by rw [d.regularised, status]⟩
    rwa [← noted.fallback]
  · obtain ⟨t, run, d⟩ := exec_allocationStepRuns_lost sound opens lost posed
    exact ⟨t, run, d.stepsLate, d.stepsDone, d.noted.fallback, d.noted.cond, d.tags, d.noted.alarmed (by simp), d.frame⟩
  · obtain ⟨t, run, d⟩ := exec_azimuthSwing_some edge
    exact ⟨t, run, d.thr, d.others, d.time, d.alarmed, d.alarms, d.frame⟩

end Sys2Proof.Machine

/-! What keeps the parameters of the safety die (R309): the operations on brakes, tests, Ladle and the global safe state. -/
namespace Sys2Proof.Machine
set_option Elab.async false

section
variable {s t u : State} {m n k a c e i row cause : Nat} {b : Bool}

/-- The S-die's own copy of the SAFETY parameters is as before. -/
def SafetyKept (s t : State) : Prop := t.saf.params = s.saf.params

namespace SafetyKept

theorem refl (s : State) : SafetyKept s s := rfl

theorem trans (h : SafetyKept s t) (k : SafetyKept t u) : SafetyKept s u := Eq.trans k h

/-- An operation outside the safety die. -/
theorem acts (h : SafetyKept s t) (k : Acts m t u) (free : m.testBit Part.saf.idx = false := by rfl) : SafetyKept s u :=
  (congrArg Saf.params (k.frame .saf free)).trans h

theorem ite {p : Prop} [Decidable p] (h : SafetyKept s t) (k : SafetyKept s u) : SafetyKept s (if p then t else u) := by
  split
  · exact h
  · exact k

theorem each {f : State → Nat → State} {l : List Nat} (h : SafetyKept s t) (k : ∀ u n, SafetyKept u (f u n)) : SafetyKept s (t.each l f) :=
  List.foldlRecOn (motive := SafetyKept s) _ _ h fun u hu n _ => hu.trans (k u n)

/-! Updates of the other parts. -/

theorem mram (h : SafetyKept s t) (x : Mram) : SafetyKept s { t with mram := x } := h

theorem twn (h : SafetyKept s t) (x : Twn) : SafetyKept s { t with twn := x } := h

theorem hlt (h : SafetyKept s t) (x : Hlt) : SafetyKept s { t with hlt := x } := h

theorem pins (h : SafetyKept s t) (x : Pins) : SafetyKept s { t with pins := x } := h

theorem dev (h : SafetyKept s t) (x : Dev) : SafetyKept s { t with dev := x } := h

theorem ord (h : SafetyKept s t) (x : Ord) : SafetyKept s { t with ord := x } := h

theorem agr (h : SafetyKept s t) (x : Agr) : SafetyKept s { t with agr := x } := h

/-! Brakes (R315 to R327). -/

theorem setBrake (h : SafetyKept s t) (n : Nat) (f : Brake → Brake) : SafetyKept s (t.setBrake n f) := h

theorem applyBrake (h : SafetyKept s t) (n : Nat) : SafetyKept s (t.applyBrake n) := (h.setBrake n _).acts (State.showBrake_acts ..)

theorem releaseBrake (h : SafetyKept s t) (n : Nat) : SafetyKept s (t.releaseBrake n) := ite h ((h.setBrake n _).acts (State.showBrake_acts ..))

theorem startSwitchTest (h : SafetyKept s t) (n : Nat) : SafetyKept s (t.startSwitchTest n) := ite (h.setBrake n _) h

theorem settleBrakes (h : SafetyKept s t) : SafetyKept s t.settleBrakes := h.each fun u n => ite ((refl u).applyBrake n) (refl u)

theorem brakeFault (h : SafetyKept s t) (n cause : Nat) : SafetyKept s (t.brakeFault n cause) :=
  (((h.setBrake n _).applyBrake n).acts (State.event_acts ..)).acts (State.raise_acts ..)

theorem endBrakeTest (h : SafetyKept s t) (result : Nat) : SafetyKept s (t.endBrakeTest result) := by
  unfold State.endBrakeTest
  split
  · exact h
  next x _ =>
    extract_lets safe s1 s2 s3 mram s4
    have ended : SafetyKept s s1 := h
    clear_value s1
    have counted : SafetyKept s s2 := ((ended.acts (State.setReg_acts ..)).acts (State.setFlag_acts ..)).acts (State.event_acts ..)
    clear_value s2
    have shown : SafetyKept s s3 := (counted.acts (State.setFlag_acts ..)).acts (State.showBrake_acts ..)
    clear_value s3
    have aged : SafetyKept s s4 := shown.mram _
    clear_value s4
    exact ite ((((aged.acts (State.setReg_acts ..)).acts (State.setFlag_acts ..)).setBrake x.chan _).acts (State.raise_acts ..)) (shown.acts (State.raise_acts ..))

theorem endTests (h : SafetyKept s t) (cause : Nat) : SafetyKept s (t.endTests cause) := (h.endBrakeTest 4).acts (State.stopInjection_acts ..)

/-! Lease and Ladle (R65 to R74, R310). -/

theorem lease (h : SafetyKept s t) (l : Option Nat) : SafetyKept s { t with saf := { t.saf with leaseFrom := l } } := h

theorem countRenewal (h : SafetyKept s t) : SafetyKept s t.countRenewal := (h.lease _).acts (State.setFlag_acts ..)

theorem dropLease (h : SafetyKept s t) : SafetyKept s t.dropLease := ((h.lease _).acts (State.setFlag_acts ..)).acts (State.setGate_acts ..)

theorem takeLadle (h : SafetyKept s t) (e : Nat) : SafetyKept s (t.takeLadle e) := ((h.acts (State.setLadleEp_acts t e)).endTests 3).countRenewal

theorem dropToArmed (h : SafetyKept s t) : SafetyKept s t.dropToArmed := (h.endTests 3).dropLease

theorem handOver (h : SafetyKept s t) (cause : Nat) : SafetyKept s (t.handOver cause) := by
  unfold State.handOver
  extract_lets e v w
  have dropped : SafetyKept s w :=
    ((h.acts (State.setGate_acts t gateClosed)).acts (State.twinSend_acts _ 3 .release [(e : Int)])).dropToArmed.acts (State.setLadleEp_acts _ e)
  clear_value w
  have given : SafetyKept s { w with twn := { w.twn with holder := some (otherSide w.pins.side) } } := dropped.twn _
  exact (given.acts (State.event_acts ..)).acts (State.raise_acts ..)

/-! The global safe state (R329 to R336) and device faults. -/

theorem inSafeState (h : SafetyKept s t) : SafetyKept s t.inSafeState := h.acts (State.inSafeState_acts ..)

theorem globalSafe (h : SafetyKept s t) (cause : Nat) : SafetyKept s (t.globalSafe cause) := by
  unfold State.globalSafe
  extract_lets first s1 pins s2 s3 s4 s5
  have flagged : SafetyKept s s1 := (h.endTests 3).acts (State.setFlag_acts ..)
  clear_value s1
  have low : SafetyKept s s2 := flagged.pins _
  clear_value s2
  have told : SafetyKept s s3 := ite (((low.acts (State.setFld_acts ..)).acts (State.event_acts ..)).acts (State.raise_acts ..)) low
  clear_value s3
  have settled : SafetyKept s s5 := told.dropLease.settleBrakes
  clear_value s5
  split
  · exact settled
  · exact (ite (settled.handOver 8) settled.dropToArmed).inSafeState
  all_goals exact settled.inSafeState

theorem enterSafe (h : SafetyKept s t) : SafetyKept s t.enterSafe := h.globalSafe 8

theorem deviceFault (h : SafetyKept s t) (kind : Nat) : SafetyKept s (t.deviceFault kind) := by
  unfold State.deviceFault
  extract_lets hlt' s1 s2
  have told : SafetyKept s s1 := (h.hlt _).acts (State.raise_acts ..)
  clear_value s1
  have left : SafetyKept s s2 := ite (ite (told.handOver 7) told.dropToArmed) told
  clear_value s2
  split
  · exact left.acts (State.bootToSafe_acts ..)
  · exact left.enterSafe

theorem shutdownAction (h : SafetyKept s t) : SafetyKept s t.shutdownAction := by
  unfold State.shutdownAction
  split
  · refine ite (acts (enterSafe (ite (ite (h.handOver 6) h.dropToArmed) h)) (State.raise_acts ..)) h
  · exact h

end SafetyKept

end

end Sys2Proof.Machine

/-! What keeps the parameters of the safety die (R309): failed parts, orders, the agreement, the verdict, arbitration and the lease. -/
namespace Sys2Proof.Machine
set_option Elab.async false

section
variable {s t u : State} {m n k a c e i row cause vc : Nat} {b : Bool} {o : OrderIn}

namespace SafetyKept

/-! Frames of the twin link (R272). -/

theorem onFrame {x : TwinHeader} {f : State → State} (h : SafetyKept s t) (k : ∀ u, SafetyKept u (f u)) : SafetyKept s (t.onFrame vc x f) := by
  unfold State.onFrame
  refine ite h (ite (h.acts (State.twinBroken_acts ..)) ?_)
  extract_lets twn v
  have taken : SafetyKept s v := h.twn _
  clear_value v
  exact ite (((taken.twn _).trans (k _)).acts (State.twinPush_acts ..)) (taken.acts (State.twinPush_acts ..))

theorem onPath {path : Path} {f : State → State} (h : SafetyKept s t) (k : ∀ u, SafetyKept u (f u)) : SafetyKept s (t.onPath path f) := by
  unfold State.onPath
  split
  · exact h.onFrame k
  · exact h.trans (k t)
  · exact h.trans (k t)

/-! Failed parts (R11, R483 to R487). -/

theorem groupPairFails (h : SafetyKept s t) (fusion spare : Bool) : SafetyKept s (t.groupPairFails fusion spare) :=
  ite (h.deviceFault _) (ite (h.acts (State.loseSpare_acts ..)) ((h.acts (State.discardResults_acts ..)).acts (State.claimSpare_acts ..)))

theorem ownFault (h : SafetyKept s t) (b : Bool) : SafetyKept s { t with saf := { t.saf with ownFault := b } } := h

theorem retired (h : SafetyKept s t) (x : Hlt) (y : Mram) : SafetyKept s { t with hlt := x, mram := y } := h

theorem pairFails (h : SafetyKept s t) (n : Nat) : SafetyKept s (t.pairFails n) := by
  unfold State.pairFails
  extract_lets mram hlt v saf twn
  have counted : SafetyKept s v := (h.retired _ _).acts (State.countRetired_acts ..)
  clear_value v
  exact ite ((counted.ownFault true).globalSafe 9) (ite (counted.deviceFault _) (((counted.twn _).acts (State.raise_acts ..)).groupPairFails _ _))

theorem retireBank (h : SafetyKept s t) (bank : Nat) : SafetyKept s (t.retireBank bank) := ite h (ite (h.deviceFault _) (h.hlt _))

/-! Orders (R82 to R87). -/

theorem evalOrder (h : SafetyKept s t) {steering : Bool} {late : List (Nat × Bool)} {effect : State → State} (k : ∀ u, SafetyKept u (effect u)) :
    SafetyKept s (t.evalOrder o c steering late effect) := by
  unfold State.evalOrder
  refine ite (h.acts (State.respond_acts ..)) (ite (h.acts (State.respond_acts ..)) (ite (h.acts (State.dropDuplicate_acts ..)) ?_))
  extract_lets r ord v ord' w
  have counted : SafetyKept s v := h.ord _
  clear_value v
  have taken : SafetyKept s w := counted.ord _
  clear_value w
  exact ite (counted.acts (State.respond_acts ..)) (ite (taken.acts (State.respond_acts ..)) ((taken.trans (k w)).acts (State.respond_acts ..)))

theorem takeOrder (h : SafetyKept s u) : SafetyKept s (s.takeOrder o c u) := ite (refl s) (ite ((refl s).ord _) h)

theorem test (h : SafetyKept s t) (x : Option BrakeTest) : SafetyKept s { t with saf := { t.saf with test := x } } := h

theorem testStartBrakeOrder (h : SafetyKept s t) (o : OrderIn) : SafetyKept s (t.testStartBrakeOrder o) := h.evalOrder fun u => (refl u).test _

theorem testStopOrder (h : SafetyKept s t) (o : OrderIn) : SafetyKept s (t.testStopOrder o) :=
  h.evalOrder fun u => ((refl u).endBrakeTest 4).acts (State.stopInjection_acts ..)

theorem thrusterAvailOrder (h : SafetyKept s t) (o : OrderIn) : SafetyKept s (t.thrusterAvailOrder o) := by
  refine h.evalOrder fun u => ord ?_ _
  split
  · exact ite ((refl u).endBrakeTest 4) (refl u)
  · exact refl u

theorem runOrder (h : SafetyKept s t) (w : WaitingOrder) : SafetyKept s (t.runOrder w) := by
  unfold State.runOrder
  split
  · exact h.acts (State.engageOrder_acts ..)
  · exact h.acts (State.disengageOrder_acts ..)
  · exact h.acts (State.transferOrder_acts ..)
  · exact h.acts (State.setModeOrder_acts ..)
  · exact h.acts (State.setPointOrder_acts ..)
  · exact h.acts (State.setTrackOrder_acts ..)
  · exact h.acts (State.setFollowRefOrder_acts ..)
  · exact h.acts (State.joystickOrder_acts ..)
  · exact h.acts (State.takeCommandOrder_acts ..)
  · exact h.thrusterAvailOrder _
  · exact h.acts (State.sensorReturnOrder_acts ..)
  · exact h.acts (State.tunableOrder_acts ..)
  · exact ite (h.acts (State.testStartInjectionOrder_acts ..)) (h.testStartBrakeOrder _)
  · exact h.testStopOrder _
  · exact h.acts (State.parkOrder_acts ..)
  · exact h.acts (State.unparkOrder_acts ..)
  · exact h.acts (State.safeOrder_acts ..)
  · exact h.acts (State.resetOrder_acts ..)
  · exact h.acts (State.alarmAckOrder_acts ..)
  · exact h.acts (State.unknownOrder_acts ..)

theorem runWaiting (h : SafetyKept s t) : SafetyKept s t.runWaiting :=
  List.foldlRecOn (motive := SafetyKept s) _ _ (h.ord _) fun _ hu w _ => hu.runOrder w

/-! The agreement on the items of a cycle (R281 to R286). -/

theorem agreementEnds (h : SafetyKept s t) : SafetyKept s t.agreementEnds := by
  unfold State.agreementEnds
  extract_lets v w
  have taken : SafetyKept s v := ((((h.acts (State.takeReports_acts ..)).acts (State.takeTimeStatus_acts ..)).acts (State.takeBrakes_acts ..)).acts
    (State.stepDone_acts _ 1)).acts (State.answerUnknown_acts ..) |>.runWaiting
  clear_value v
  have merged : SafetyKept s w := ite (taken.acts (State.mergeSets_acts ..)) taken
  clear_value w
  exact merged.acts (State.plantInputs_acts ..)

theorem settleSet (h : SafetyKept s t) (l : List Item) : SafetyKept s (t.settleSet l) := (h.agr _).agreementEnds

theorem useOwn (h : SafetyKept s t) : SafetyKept s t.useOwn := ite h ((h.agr _).settleSet _)

theorem agreementLate (h : SafetyKept s t) : SafetyKept s t.agreementLate := ((h.acts (State.raise_acts ..)).acts (State.leaveStep_acts _ 6 0)).useOwn

/-! Verdict and arbitration (R287 to R290, R312). -/

theorem verdict (h : SafetyKept s t) (b : Bool) : SafetyKept s { t with saf := { t.saf with verdictPass := b } } := h

theorem verdictFails (h : SafetyKept s t) (checks : Nat) : SafetyKept s (t.verdictFails checks) := by
  unfold State.verdictFails
  extract_lets n v w saf x
  have told : SafetyKept s v := ((h.acts (State.setReg_acts ..)).acts (State.event_acts ..)).acts (State.raise_acts ..)
  clear_value v
  have counted : SafetyKept s w := (told.acts (State.setFlag_acts ..)).acts (State.setFld_acts ..)
  clear_value w
  have failed : SafetyKept s x := counted.verdict false
  clear_value x
  exact ite (failed.globalSafe 3) failed

theorem verdictPasses (h : SafetyKept s t) : SafetyKept s t.verdictPasses := ((h.verdict true).acts (State.setFlag_acts ..)).acts (State.setFld_acts ..)

theorem formVerdict (h : SafetyKept s t) (delivered : Bool) : SafetyKept s (t.formVerdict delivered) := by
  unfold State.formVerdict
  extract_lets checks v msg twn w
  have judged : SafetyKept s v := ite h.verdictPasses (h.verdictFails checks)
  clear_value v
  have noted : SafetyKept s w := judged.twn _
  clear_value w
  exact ite (noted.acts (State.twinSend_acts ..)) noted

theorem otherSideLeaves (h : SafetyKept s t) (row : Nat) : SafetyKept s (t.otherSideLeaves row) := h.acts (State.otherSideLeaves_acts ..)

theorem arbHandOver (h : SafetyKept s t) (row : Nat) : SafetyKept s (t.arbHandOver row) :=
  ite (h.handOver row) (ite (ite (h.acts (State.leaveStep_acts _ 3 row)) (h.acts (State.partnerLeft_acts ..))) h)

theorem row2 (h : SafetyKept s t) : SafetyKept s t.row2 := by
  unfold State.row2
  extract_lets again lead v twn w
  have left : SafetyKept s v := h.otherSideLeaves 2
  clear_value v
  have noted : SafetyKept s w := left.twn _
  clear_value w
  exact ite noted (ite (enterSafe (ite noted.dropToArmed noted)) (noted.twn _))

theorem applyRow (h : SafetyKept s t) (row : Nat) : SafetyKept s (t.applyRow row) := by
  unfold State.applyRow
  extract_lets twn v
  have noted : SafetyKept s v := ite h (h.twn _)
  clear_value v
  split
  · exact noted.otherSideLeaves 1
  · exact noted.row2
  · exact noted.arbHandOver 3
  · exact noted.otherSideLeaves 4
  · exact noted.arbHandOver 5
  · exact ite noted (noted.otherSideLeaves 6)
  · exact (noted.acts (State.noteUnexplained_acts ..)).otherSideLeaves 8
  · exact noted

theorem arbitrate (h : SafetyKept s t) : SafetyKept s t.arbitrate := by
  unfold State.arbitrate
  refine ite ?_ (h.twn _)
  extract_lets row bad v twn w x
  have counted : SafetyKept s v := ite ((h.acts (State.bump_acts ..)).acts (State.event_acts ..)) h
  clear_value v
  have shown : SafetyKept s w := counted.twn _
  clear_value w
  have told : SafetyKept s x := ite shown ((shown.acts (State.setReg_acts ..)).acts (State.raise_acts ..))
  clear_value x
  exact told.applyRow row

theorem arbitrationWork (h : SafetyKept s t) : SafetyKept s t.arbitrationWork := h.arbitrate.acts (State.gateForPour_acts ..)

/-! The lease between the twins (R65 to R72). -/

theorem txSeq (h : SafetyKept s t) (l : List (Nat × Nat)) : SafetyKept s { t with saf := { t.saf with txSeq := l } } := h

theorem nextSafe (h : SafetyKept s t) (typ : Nat) : SafetyKept s (t.nextSafe typ) := h.txSeq _

theorem sendAck (h : SafetyKept s t) (path : Path) (sendT : Nat) : SafetyKept s (t.sendAck path sendT) := by
  unfold State.sendAck
  extract_lets lan
  have sent (p : Nat) : SafetyKept s (lan p) := (h.acts (State.ethSend_acts ..)).nextSafe 2
  split
  · exact h.acts (State.twinSend_acts ..)
  · exact sent 0
  · exact sent 1

end SafetyKept

end

end Sys2Proof.Machine

/-! What keeps the parameters of the safety die (R309): the start, the freeze, the tests of the brakes, the safe inputs and data, and the pour. -/
namespace Sys2Proof.Machine
set_option Elab.async false

section
variable {s t u : State} {m n k a c e i row cause vc : Nat} {b : Bool} {o : OrderIn}

namespace SafetyKept

/-! The start (R49 to R60). -/

theorem boot (h : SafetyKept s t) (x : Boot) : SafetyKept s { t with boot := x } := h

theorem restoreBrake (h : SafetyKept s t) (n : Nat) : SafetyKept s (t.restoreBrake n) := by
  unfold State.restoreBrake
  split
  · exact h.setBrake n _
  · exact h

theorem showMram (h : SafetyKept s t) : SafetyKept s t.showMram := by
  unfold State.showMram
  exact (h.each fun u n => ((((refl u).restoreBrake n).acts (State.setReg_acts ..)).acts (State.showBrake_acts ..)).acts (State.setFld_acts ..)).each
    fun u n => (refl u).acts (State.setReg_acts ..)

theorem counters (h : SafetyKept s t) (x : Recorder) (y : Mram) (z : Twn) : SafetyKept s { t with rcd := x, mram := y, twn := z } := h

theorem readMram (h : SafetyKept s t) (crcOk : Bool) (diodes : List Int) : SafetyKept s (t.readMram crcOk diodes) := by
  unfold State.readMram
  extract_lets s1 mram s2 n rcd mram' twn s3 s4
  have mapped : SafetyKept s s1 := ite h (((h.mram _).acts (State.fullTrims_acts ..)).acts (State.raise_acts ..))
  clear_value s1
  have counted : SafetyKept s s2 := ite (mapped.mram _) mapped
  clear_value s2
  have goesOn : SafetyKept s s3 := counted.counters _ _ _
  clear_value s3
  have told : SafetyKept s s4 := ite (goesOn.acts (State.raise_acts ..)) goesOn
  clear_value s4
  exact (told.acts (State.startThermal_acts ..)).showMram

theorem startBoot (h : SafetyKept s t) (tests : BootTests) : SafetyKept s (t.startBoot tests) := by
  unfold State.startBoot
  extract_lets boot s1 known s2
  have begun : SafetyKept s s1 := ((h.boot _).acts (State.setFlag_acts ..)).acts (State.bootStep_acts ..)
  clear_value s1
  refine ite ((begun.boot _).acts (State.setFld_acts ..)) (ite ((begun.acts (State.bootStep_acts ..)).deviceFault _) ?_)
  exact ((((begun.acts (State.bootStep_acts ..)).acts (State.bootStep_acts ..)).readMram _ _).acts (State.retireFailedBanks_acts ..)).acts
    (State.readFlashHeaders_acts ..)

/-! The freeze (R26 to R32, R79). -/

theorem hotRestart (h : SafetyKept s t) : SafetyKept s t.hotRestart :=
  ite (ite ((h.acts (State.setFlag_acts ..)).enterSafe.acts (State.raise_acts ..)) (h.mram _)) h

theorem enterArmed (h : SafetyKept s t) : SafetyKept s t.enterArmed := by
  unfold State.enterArmed
  extract_lets v dev w x
  have released : SafetyKept s v := h.acts (State.releaseSafe_acts ..)
  clear_value v
  have entered : SafetyKept s w := released.dev _
  clear_value w
  have shown : SafetyKept s x := (entered.acts (State.setFld_acts ..)).acts (State.setFld_acts ..)
  clear_value x
  exact (shown.acts (State.gnsPowerUp_acts ..)).hotRestart

theorem cycling (h : SafetyKept s t) (w : Boot) (x : Dev) (y : Twn) (z : Recorder) : SafetyKept s { t with boot := w, dev := x, twn := y, rcd := z } := h

theorem firstFreeze (h : SafetyKept s t) : SafetyKept s t.firstFreeze := by
  unfold State.firstFreeze
  extract_lets common boot dev twn rcd v w
  have begun : SafetyKept s v := (h.cycling _ _ _ _).acts (State.calibrate_acts ..)
  clear_value v
  have met : SafetyKept s w := ite ((begun.acts (State.setFlag_acts ..)).acts (State.clearSlag_acts ..)) begun
  clear_value w
  split
  · exact met.acts (State.refusedAtStep12_acts ..)
  · exact met.enterArmed

theorem brakeTestFreeze (h : SafetyKept s t) : SafetyKept s t.brakeTestFreeze := by
  unfold State.brakeTestFreeze
  extract_lets first
  split
  · extract_lets v
    have begun : SafetyKept s v := ((h.test _).acts (State.setFlag_acts ..)).acts (State.showBrake_acts ..)
    clear_value v
    exact ite (ite (begun.startSwitchTest _) begun) (ite (h.startSwitchTest _) h)
  · exact h

theorem freezeWork (h : SafetyKept s t) (before : Nat) (latch : List ChannelLatch) : SafetyKept s (t.freezeWork before latch) := by
  unfold State.freezeWork
  extract_lets s1 s2 s3 s4 s5
  have safe : SafetyKept s s1 := ite h.enterSafe h
  clear_value s1
  have planned : SafetyKept s s2 := ((((safe.acts (State.joinNow_acts ..)).acts (State.soloCondition_acts ..)).acts (State.modeFreeze_acts ..)).acts
    (State.tuneFreeze_acts ..)).acts (State.schedule_acts ..)
  clear_value s2
  have spared : SafetyKept s s3 := ((planned.acts (State.lanesFreeze_acts ..)).acts (State.bankSwitchNow_acts ..)).acts (State.sparesFreeze_acts ..)
  clear_value s3
  have latched : SafetyKept s s4 := spared.acts (State.gnssFreeze_acts ..)
  clear_value s4
  have available : SafetyKept s s5 := ite ((latched.acts (State.availabilityFreeze_acts ..)).acts (State.fullFreeze_acts ..)) (latched.acts (State.availabilityFreeze_acts ..))
  clear_value s5
  exact (((((available.acts (State.fieldFreeze_acts ..)).acts (State.canFreeze_acts ..)).brakeTestFreeze).acts (State.statusItems_acts ..)).acts
    (State.anchorFreeze_acts ..)).acts (State.breakViews_acts ..)

/-! The switch tests of the brakes (R315 to R320). -/

theorem degrade (h : SafetyKept s t) (n sw : Nat) : SafetyKept s (t.degrade n sw) := by
  unfold State.degrade
  extract_lets brake s1 left mram v
  have bad : SafetyKept s s1 := h.setBrake n _
  clear_value s1
  have kept : SafetyKept s v := bad.mram _
  clear_value v
  refine ite bad (ite ?_ (((bad.setBrake n _).applyBrake n).acts (State.raise_acts ..) |>.globalSafe 4))
  exact ((((kept.setBrake n _).acts (State.showBrake_acts ..)).acts (State.event_acts ..)).acts (State.setCond_acts ..)).acts (State.raise_acts ..)

theorem bothStuck (h : SafetyKept s t) (n : Nat) : SafetyKept s (t.bothStuck n) :=
  (((h.setBrake n _).acts (State.showBrake_acts ..)).acts (State.raise_acts ..)).globalSafe 4

theorem goodTest (h : SafetyKept s t) (n : Nat) : SafetyKept s (t.goodTest n) := by
  unfold State.goodTest
  extract_lets v mram w x y
  have counted : SafetyKept s v := h.setBrake n _
  clear_value v
  have repaired : SafetyKept s w := counted.mram _
  clear_value w
  have shown : SafetyKept s x := (repaired.setBrake n _).acts (State.showBrake_acts ..)
  clear_value x
  have ended : SafetyKept s y := (shown.acts (State.causeGone_acts ..)).acts (State.causeGone_acts ..)
  clear_value y
  exact ite (ite shown (ite ended (ended.acts (State.setCond_acts ..)))) counted

theorem reactSwitch (h : SafetyKept s t) (n : Nat) (d : Diagnosis) : SafetyKept s (t.reactSwitch n d) := by
  unfold State.reactSwitch
  extract_lets v
  have reacted : SafetyKept s v := by
    cases d with
    | healthy => exact h
    | hsClosed => exact h.degrade n 1
    | lsClosed => exact h.degrade n 2
    | hsOpen => exact h.brakeFault n 1
    | lsOpen => exact h.brakeFault n 2
    | bothClosed => exact h.bothStuck n
  clear_value v
  split
  · exact ite (reacted.endBrakeTest 2) reacted
  · exact reacted

/-! Safe inputs (R321 to R323). -/

theorem setPair (h : SafetyKept s t) (n : Nat) (f : SafePair → SafePair) : SafetyKept s (t.setPair n f) := h

theorem abortIfDemanded (h : SafetyKept s t) : SafetyKept s t.abortIfDemanded := by
  unfold State.abortIfDemanded
  split
  · exact ite (h.endBrakeTest 4) h
  · exact h

theorem enterDemand (h : SafetyKept s t) (n : Nat) : SafetyKept s (t.enterDemand n) := by
  unfold State.enterDemand
  extract_lets v w
  have entered : SafetyKept s v := ((h.setPair n _).acts (State.showPair_acts ..)).acts (State.event_acts ..)
  clear_value v
  have settled : SafetyKept s w := (abortIfDemanded (ite entered (entered.acts (State.raise_acts ..)))).settleBrakes
  clear_value w
  exact ite (settled.globalSafe 5) settled

theorem bothBack (h : SafetyKept s t) (n : Nat) : SafetyKept s (t.bothBack n) := by
  unfold State.bothBack
  extract_lets pair quick latched unlatch
  exact ite (h.setPair n _) ((h.setPair n _).acts (State.showPair_acts ..))

theorem pulseAt (h : SafetyKept s t) (x : Option Nat) : SafetyKept s { t with saf := { t.saf with pulseAt := x } } := h

theorem pulseTime (h : SafetyKept s t) (output : Bool) : SafetyKept s (t.pulseTime output) := by
  unfold State.pulseTime
  extract_lets v
  have reached : SafetyKept s v := by
    unfold v
    split
    · exact h.acts (State.reachEl_acts ..)
    · exact h
  clear_value v
  exact ite reached (reached.pulseAt _)

/-! Safe data (R328 to R333). -/

theorem setConn (h : SafetyKept s t) (n : Nat) (f : SafeConn → SafeConn) : SafetyKept s (t.setConn n f) := h

theorem holdBrakes (h : SafetyKept s t) (key mask : Nat) : SafetyKept s (t.holdBrakes key mask) := h.each fun u n => (refl u).setBrake n _

theorem safeDemand (h : SafetyKept s t) (n : Nat) (bytes : List Byte) : SafetyKept s (t.safeDemand n bytes) := by
  unfold State.safeDemand
  extract_lets w v
  have settled : SafetyKept s v := ((h.holdBrakes _ _).abortIfDemanded).settleBrakes
  clear_value v
  exact ite (settled.globalSafe 7) settled

theorem acceptFrame (h : SafetyKept s t) (n : Nat) (bytes : List Byte) (single : Bool) : SafetyKept s (t.acceptFrame n bytes single) := by
  unfold State.acceptFrame
  extract_lets run v w count x y z
  have accepted : SafetyKept s v := h.setConn n _
  clear_value v
  have counted : SafetyKept s w := accepted.acts (State.bump_acts ..)
  clear_value w
  have shown : SafetyKept s x := (counted.acts (State.setFld_acts ..)).acts (State.setFld_acts ..)
  clear_value x
  have told : SafetyKept s y := ite (shown.acts (State.raise_acts ..)) shown
  clear_value y
  have free : SafetyKept s z := ite (told.holdBrakes _ _) told
  clear_value z
  exact ite (free.safeDemand n bytes) free

theorem unwait (h : SafetyKept s t) (n q : Nat) : SafetyKept s (t.unwait n q) := h.setConn n _

theorem goodCopy (h : SafetyKept s t) (n : Nat) (lanB : Bool) (bytes : List Byte) : SafetyKept s (t.goodCopy n lanB bytes) := by
  unfold State.goodCopy
  extract_lets q
  split
  · exact h.setConn n _
  · exact ite h (ite ((h.unwait n q).acceptFrame n bytes false) ((h.unwait n q).acts (State.copiesDiffer_acts ..)))

/-! Steps and the pour (R28 to R32, R85). -/

theorem stepReplaced (h : SafetyKept s t) (n : Nat) : SafetyKept s (t.stepReplaced n) := by
  unfold State.stepReplaced
  split
  · exact h.acts (State.fusionLate_acts ..)
  · exact h.acts (State.controlLate_acts ..)
  · exact h.acts (State.allocationLate_acts ..)
  · exact h.acts (State.buildImage_acts ..)
  · exact h.formVerdict false
  · exact h

theorem engageNow (h : SafetyKept s t) (side : Side) : SafetyKept s (t.engageNow side) := by
  unfold State.engageNow
  extract_lets v twn
  have raised : SafetyKept s v := h.acts (State.setLadleEp_acts ..)
  clear_value v
  exact ite (ite (h.takeLadle _) h) (ite (raised.twn _) h)

theorem disengageNow (h : SafetyKept s t) : SafetyKept s t.disengageNow := ite (h.dropToArmed.acts (State.raise_acts ..)) (h.twn _)

theorem transferNow (h : SafetyKept s t) : SafetyKept s t.transferNow := ite (h.handOver 0) h

theorem safeNow (h : SafetyKept s t) : SafetyKept s t.safeNow := ite h (h.enterSafe.acts (State.raise_acts ..))

theorem parkNow (h : SafetyKept s t) : SafetyKept s t.parkNow := by
  unfold State.parkNow
  extract_lets v dev
  have ended : SafetyKept s v := ((h.endTests 3).acts (State.endFallback_acts ..)).acts (State.gnsPowerDown_acts ..)
  clear_value v
  exact ite (ended.dev _) h

theorem pourAct (h : SafetyKept s t) (x : PourAct) : SafetyKept s (t.pourAct x) := by
  cases x with
  | engage side => exact h.engageNow side
  | disengage => exact h.disengageNow
  | transfer => exact h.transferNow
  | park => exact h.parkNow
  | unpark => exact h.acts (State.unparkNow_acts t)
  | safe => exact h.safeNow
  | reset => exact h.dev _

theorem transitions (h : SafetyKept s t) : SafetyKept s t.transitions := by
  unfold State.transitions
  extract_lets v
  have shut : SafetyKept s v := h.shutdownAction
  clear_value v
  exact List.foldlRecOn (motive := SafetyKept s) _ _ (shut.dev _) fun _ hu x _ => hu.pourAct x

theorem takeOverNow (h : SafetyKept s t) : SafetyKept s t.takeOverNow :=
  ite (((((h.takeLadle _).acts (State.event_acts ..)).acts (State.raise_acts ..))).acts (State.gateForPour_acts ..)) h

theorem prevThrust (h : SafetyKept s t) (l : List Int) : SafetyKept s { t with saf := { t.saf with prevThrust := l } } := h

theorem driveCommands (h : SafetyKept s t) : SafetyKept s t.driveCommands := by
  unfold State.driveCommands
  extract_lets v w x
  have again : SafetyKept s v := h.acts (State.repeatCommands_acts ..)
  clear_value v
  have driven : SafetyKept s w := (again.each fun u n => (refl u).acts (State.driveThruster_acts ..)).each fun u n => (refl u).acts (State.driveTorque_acts ..)
  clear_value w
  have sent : SafetyKept s x := (driven.acts (State.canPour_acts ..)).acts (State.sendStream_acts ..)
  clear_value x
  exact (sent.prevThrust _).acts (State.commandsPoured_acts ..)

theorem noteStopped (h : SafetyKept s t) (n : Nat) : SafetyKept s (t.noteStopped n) := h.setBrake n _

theorem brakePour (h : SafetyKept s t) (n : Nat) : SafetyKept s (t.brakePour n) := by
  unfold State.brakePour
  extract_lets v d
  have noted : SafetyKept s v := h.noteStopped n
  clear_value v
  exact ite h (ite noted (ite (noted.applyBrake n) (noted.releaseBrake n)))

theorem sendSafeState (h : SafetyKept s t) (n : Nat) : SafetyKept s (t.sendSafeState n) := ite ((h.acts (State.lanSend_acts ..)).nextSafe 0x10) h

theorem pourWork (h : SafetyKept s t) (katPass : Bool) : SafetyKept s (t.pourWork katPass) := by
  unfold State.pourWork
  extract_lets full s0 s1 image dev s2 s3 s4 s5 s6
  have filled : SafetyKept s s0 := h.acts (State.fillQueues_acts ..)
  clear_value s0
  have arbitrated : SafetyKept s s1 := ite filled.arbitrationWork filled
  clear_value s1
  have built : SafetyKept s s2 := (arbitrated.acts (State.buildImage_acts ..)).dev _
  clear_value s2
  have moved : SafetyKept s s3 := built.transitions.takeOverNow
  clear_value s3
  have driven : SafetyKept s s4 :=
    ite ((((moved.acts (State.scenarioAlarms_acts ..)).acts (State.injectionChecks_acts ..)).driveCommands).acts (State.publishCycle_acts ..)) moved
  clear_value s4
  have braked : SafetyKept s s5 := driven.each fun u n => (refl u).brakePour n
  clear_value s5
  have published : SafetyKept s s6 := ((braked.acts (State.sendResponses_acts ..)).acts (State.publishPour_acts ..)).acts (State.panelPour_acts ..)
  clear_value s6
  exact ((published.each fun u n => (refl u).sendSafeState n).acts (State.bookkeeping_acts ..)).acts (State.drainTx_acts ..)

end SafetyKept

end

end Sys2Proof.Machine

/-! Every command but the device resets and, in BOOT, the end of a slot's stream keeps the parameters of the safety die (R309). -/
namespace Sys2Proof.Machine
set_option Elab.async false

section
variable {s t u : State} {c : Instr}

/-- The command completes and keeps the parameters. -/
def KeepsSafety (s : State) (o : Host.Outcome State Fault Refusal) : Prop := ∃ t, o = .next t ∧ SafetyKept s t

namespace SafetyKept

theorem fieldDie (h : SafetyKept s t) (x : Clk) (y : FieldDie) : SafetyKept s { t with clk := x, fch := y } := h

theorem clk (h : SafetyKept s t) (x : Clk) : SafetyKept s { t with clk := x } := h

theorem unmatched (h : SafetyKept s t) (n : Nat) : SafetyKept s { t with saf := { t.saf with unmatched := n } } := h

end SafetyKept

namespace SafetyKept

/-! Clock, rails, memories and pairs. -/

theorem execClockMonitorWindow_safety (count : Nat) (s : State) : KeepsSafety s (execClockMonitorWindow count s) := by
  refine ⟨_, rfl, ite (refl s) (ite (((refl s).clk _).acts (State.setFlag_acts ..)) ?_)⟩
  extract_lets clk v
  have failed : SafetyKept s v := (((refl s).clk _).acts (State.setFlag_acts ..)).acts (State.event_acts ..)
  exact ite ((failed.acts (State.raise_acts ..)).globalSafe 1) failed

theorem execRailFault_safety (rail : Nat) (s : State) : KeepsSafety s (execRailFault rail s) := by
  refine ⟨_, rfl, ?_⟩
  split
  · exact refl s
  · exact ((((refl s).acts (State.reachEl_acts ..)).hlt _).acts (State.raise_acts ..)).deviceFault _

theorem execEccError_safety (bank : Nat) (correctable ofCycle : Bool) (s : State) : KeepsSafety s (execEccError bank correctable ofCycle s) := by
  refine ⟨_, rfl, ite ?_ ?_⟩
  · extract_lets n hlt v
    have counted : SafetyKept s v := (refl s).hlt _
    clear_value v
    exact ite (counted.retireBank bank) counted
  · extract_lets hlt v twn w
    have counted : SafetyKept s v := (refl s).hlt _
    clear_value v
    have marked : SafetyKept s w := ite (counted.twn _) counted
    clear_value w
    exact marked.retireBank bank

theorem execVfldLow_safety (s : State) : KeepsSafety s (execVfldLow s) := by
  refine ⟨_, rfl, ite ?_ (refl s)⟩
  extract_lets clk fch v
  have low : SafetyKept s v := (((refl s).fieldDie _ _).acts (State.setFlag_acts ..)).acts (State.raise_acts ..)
  clear_value v
  exact (low.each fun u n => ite ((refl u).applyBrake n) (refl u)).acts (State.showFields_acts ..)

/-! Lease and Ladle. -/

theorem execRenewSend_safety (s : State) : KeepsSafety s (execRenewSend s) := by
  refine ⟨_, rfl, ite (refl s) ?_⟩
  extract_lets v w twn x y z
  have judged : SafetyKept s w := ((refl s).acts (State.reach_acts ..)).acts (State.judgeLan_acts ..)
  have sent : SafetyKept s x := judged.twn _
  have twin : SafetyKept s y := ite (sent.acts (State.twinSend_acts ..)) sent
  have both : SafetyKept s z := ite sent (ite ((twin.acts (State.lanSend_acts ..)).nextSafe 1) twin)
  clear_value z
  exact ite both.countRenewal both

theorem execRenew_safety (path : Path) (epoch : Nat) (side : Side) (sendT arrival : Nat) (s : State) :
    KeepsSafety s (execRenew path epoch side sendT arrival s) := by
  refine ⟨_, rfl, ((refl s).acts (State.reach_acts ..)).onPath fun t => ite (refl t) ?_⟩
  extract_lets v new w lan twn x
  have dropped : SafetyKept t v := ite (refl t).dropToArmed (refl t)
  clear_value v
  have judged : SafetyKept t w := ite (dropped.acts (State.judgeLan_acts ..)) dropped
  clear_value w
  have noted : SafetyKept t x := judged.twn _
  clear_value x
  exact (ite (noted.acts (State.setLadleEp_acts ..)) noted).sendAck path sendT

theorem execAck_safety (path : Path) (arrival : Nat) (s : State) : KeepsSafety s (execAck path arrival s) := by
  refine ⟨_, rfl, ((refl s).acts (State.reach_acts ..)).onPath fun t => ?_⟩
  split
  · extract_lets v twn
    have counted : SafetyKept t v := (refl t).countRenewal
    clear_value v
    exact ite (counted.twn _) (refl t)
  · exact refl t

theorem execLeaseExpiry_safety (s : State) : KeepsSafety s (execLeaseExpiry s) := by
  refine ⟨_, rfl, ?_⟩
  split
  · extract_lets v
    have ended : SafetyKept s v := ((refl s).acts (State.reachEl_acts ..)).dropLease
    clear_value v
    exact ite ended.dropToArmed ended
  · exact refl s

theorem execReleaseFrame_safety (x : TwinHeader) (epoch : Nat) (s : State) : KeepsSafety s (execReleaseFrame x epoch s) :=
  ⟨_, rfl, (refl s).onFrame fun t => ite (refl t) (ite ((refl t).takeLadle epoch) (((refl t).acts (State.setLadleEp_acts t epoch)).twn _))⟩

/-! The agreement and the steps of a cycle. -/

theorem execCloseTick_safety (s : State) : KeepsSafety s (execCloseTick s) := by
  refine ⟨_, rfl, ite ?_ (refl s)⟩
  extract_lets r v own agr w
  have reached : SafetyKept s r := (refl s).acts (State.reach_acts ..)
  clear_value r
  have told : SafetyKept s v := ite (reached.acts (State.raise_acts ..)) reached
  clear_value v
  have closed : SafetyKept s w := told.agr _
  clear_value w
  exact ite (closed.acts (State.twinSend_acts ..)) closed.useOwn

theorem execAgreeDecide_safety (s : State) : KeepsSafety s (execAgreeDecide s) := by
  refine ⟨_, rfl, ite ?_ (refl s)⟩
  extract_lets v inc l cope drag w x
  have reached : SafetyKept s v := (refl s).acts (State.reach_acts ..)
  clear_value v
  have sent : SafetyKept s w := reached.acts (State.twinSend_acts ..)
  clear_value w
  have decided : SafetyKept s x := ite sent (sent.acts (State.excluded_acts ..))
  clear_value x
  exact decided.settleSet l

theorem execAgreeCheck_safety (s : State) : KeepsSafety s (execAgreeCheck s) := by
  refine ⟨_, rfl, ite ?_ (refl s)⟩
  extract_lets v
  have reached : SafetyKept s v := (refl s).acts (State.reach_acts ..)
  clear_value v
  refine ite reached.useOwn (ite reached.agreementLate ?_)
  split
  · extract_lets l w
    have checked : SafetyKept s w := ite reached (reached.acts (State.excluded_acts ..))
    clear_value w
    exact ite ((ite checked (checked.acts (State.excluded_acts ..))).settleSet l) (reached.acts (State.leaveStep_acts v 1 0)).useOwn
  · exact (reached.acts (State.leaveStep_acts v 1 0)).useOwn

theorem execStepDeadline_safety (stepNo : Nat) (s : State) : KeepsSafety s (execStepDeadline stepNo s) := by
  have reached : SafetyKept s (s.reach (s.stepEnd stepNo)) := (refl s).acts (State.reach_acts ..)
  have late (n : Nat) : SafetyKept s (s.reach (s.stepEnd n)) := (refl s).acts (State.reach_acts ..)
  refine ⟨_, rfl, ite (ite (late 1).agreementLate (refl s)) (ite (ite ((late 7).acts (State.raise_acts ..)) (refl s)) (ite ?_ (refl s)))⟩
  exact ((reached.dev _).acts (State.raise_acts ..)).stepReplaced stepNo

/-! Safe inputs and safe data. -/

theorem execSafeInputChange_safety (pair : Nat) (contactB closed : Bool) (stamp : Nat) (s : State) :
    KeepsSafety s (execSafeInputChange pair contactB closed stamp s) := by
  refine ⟨_, rfl, ?_⟩
  extract_lets s0 had v now w
  have shown : SafetyKept s v := ((refl s).acts (State.reach_acts ..)).acts (State.setFlag_acts ..)
  clear_value v
  have differs : SafetyKept s w := shown.setPair pair _
  clear_value w
  exact ite shown (ite (shown.bothBack pair) (ite (differs.enterDemand pair) ((shown.setPair pair _).enterDemand pair)))

theorem execDiscrepancyExpiry_safety (pair : Nat) (s : State) : KeepsSafety s (execDiscrepancyExpiry pair s) := by
  refine ⟨_, rfl, ?_⟩
  split
  · extract_lets v
    have latched : SafetyKept s v := ((refl s).acts (State.reachEl_acts ..)).setPair pair _
    clear_value v
    exact (latched.acts (State.raise_acts ..)).enterDemand pair
  · exact refl s

theorem execTestPulse_safety (output : Bool) (faulty : List Nat) (s : State) : KeepsSafety s (execTestPulse output faulty s) := by
  refine ⟨_, rfl, ite (refl s) (((refl s).pulseTime output).each fun t n => ite (refl t) (ite ?_ (ite ((refl t).setPair n _) (refl t))))⟩
  extract_lets v
  have wrong : SafetyKept t v := (refl t).setPair n _
  clear_value v
  exact (wrong.acts (State.raise_acts ..)).enterDemand n

theorem execSafeFrame_safety (lanB : Bool) (bytes : List Byte) (stamp : Nat) (s : State) : KeepsSafety s (execSafeFrame lanB bytes stamp s) := by
  refine ⟨_, rfl, ?_⟩
  extract_lets v
  have reached : SafetyKept s v := (refl s).acts (State.reach_acts ..)
  clear_value v
  split
  · exact reached.unmatched _
  · next n _ =>
    extract_lets
    exact ite (ite reached (reached.acts (State.copiesDiffer_acts ..))) (ite (reached.acts (State.bump_acts ..)) (reached.goodCopy n lanB bytes))

theorem execDualWaitExpiry_safety (conn : Nat) (s : State) : KeepsSafety s (execDualWaitExpiry conn s) := by
  refine ⟨_, rfl, ?_⟩
  split
  · extract_lets q v
    have waited : SafetyKept s v := ((refl s).acts (State.reachEl_acts ..)).unwait conn q
    clear_value v
    exact ite (waited.acceptFrame conn _ true) (waited.acts (State.bump_acts ..))
  · exact refl s

theorem execSafeConnectionTimeout_safety (conn : Nat) (s : State) : KeepsSafety s (execSafeConnectionTimeout conn s) := by
  refine ⟨_, rfl, ite ?_ (refl s)⟩
  extract_lets v w
  have silent : SafetyKept s v := ((refl s).acts (State.reachEl_acts ..)).setConn conn _
  clear_value v
  have told : SafetyKept s w := ((silent.acts (State.setFld_acts ..)).acts (State.event_acts ..)).acts (State.raise_acts ..)
  clear_value w
  split
  · exact told.globalSafe 6
  · exact ((told.holdBrakes _ _).abortIfDemanded).settleBrakes
  · exact told

/-! Brakes and their tests. -/

theorem execSwitchTest_safety (channel : Nat) (s : State) : KeepsSafety s (execSwitchTest channel s) := by
  refine ⟨_, rfl, ?_⟩
  extract_lets v
  have reached : SafetyKept s v := by
    unfold v
    split
    · exact (refl s).acts (State.reachEl_acts ..)
    · exact refl s
  clear_value v
  exact reached.startSwitchTest channel

theorem execSwitchTestStep_safety (channel hsPct lsPct : Nat) (s : State) : KeepsSafety s (execSwitchTestStep channel hsPct lsPct s) := by
  refine ⟨_, rfl, ?_⟩
  extract_lets brake v d w x
  have shown : SafetyKept s v := (((refl s).acts (State.reachEl_acts ..)).acts (State.setFld_acts ..)).acts (State.setFld_acts ..)
  clear_value v
  have reacted : SafetyKept s w := shown.reactSwitch channel d
  clear_value w
  have ended : SafetyKept s x := reacted.setBrake channel _
  clear_value x
  exact ite (refl s) (ite (ite ended (ended.goodTest channel)) (reacted.setBrake channel _))

theorem execBrakeTestPhaseEnd_safety (s : State) : KeepsSafety s (execBrakeTestPhaseEnd s) := by
  refine ⟨_, rfl, ?_⟩
  split
  · exact refl s
  · extract_lets v saf
    have reached : SafetyKept s v := (refl s).acts (State.reachEl_acts ..)
    clear_value v
    exact ite (refl s) (ite (reached.endBrakeTest 1) (reached.test _))

theorem execBrakeTestMotion_safety (counts : Nat) (s : State) : KeepsSafety s (execBrakeTestMotion counts s) := by
  refine ⟨_, rfl, ?_⟩
  split
  · exact refl s
  · extract_lets saf v
    have moved : SafetyKept s v := (refl s).test _
    clear_value v
    exact ite (moved.endBrakeTest 3) moved

/-! Every command. -/

/-- R63: the end of a slot's stream does nothing outside BOOT. -/
theorem execSlotStreamEnd_left (tests : StartTests) (left : s.dev.st ≠ .boot) : execSlotStreamEnd tests s = .next s := by
  have idle : (s.boot.streaming = 0 || s.dev.st != .boot) = true := by simp [left]
  exact congrArg Host.Outcome.next (if_pos idle)

/-- What every command that reaches the safety die leaves, but for a device reset and the end of a slot's stream in BOOT. -/
theorem exec_safety_of_touchesSaf (reset : isReset c = false) (left : ∀ r, c = .slotStreamEnd r → s.dev.st ≠ .boot) (touches : touchesSaf c = true) :
    KeepsSafety s (exec c s) := by
  cases c with
  | testStartBrake order => exact ⟨_, rfl, takeOrder ((refl s).testStartBrakeOrder order)⟩
  | testStop order => exact ⟨_, rfl, takeOrder ((refl s).testStopOrder order)⟩
  | thrusterAvail order => exact ⟨_, rfl, takeOrder ((refl s).thrusterAvailOrder order)⟩
  | clockMonitorWindow count => exact execClockMonitorWindow_safety ..
  | lockstepMismatch pair => exact ⟨_, rfl, ite (refl s) ((refl s).pairFails pair)⟩
  | railFault rail => exact execRailFault_safety ..
  | eccError bank correctable ofCycle => exact execEccError_safety ..
  | vfldLow => exact execVfldLow_safety s
  | renewSend => exact execRenewSend_safety s
  | renew path epoch side sendT arrival => exact execRenew_safety ..
  | ack path arrival => exact execAck_safety ..
  | leaseExpiry => exact execLeaseExpiry_safety s
  | releaseFrame header epoch => exact execReleaseFrame_safety ..
  | closeTick => exact execCloseTick_safety s
  | agreeDecide => exact execAgreeDecide_safety s
  | agreeCheck => exact execAgreeCheck_safety s
  | verdictFormation delivered => exact ⟨_, rfl, ite ((((refl s).acts (State.reach_acts ..)).formVerdict delivered).acts (State.stepDone_acts ..)) (refl s)⟩
  | bootStart tests => exact ⟨_, rfl, ite ((refl s).startBoot tests) (refl s)⟩
  | slotStreamEnd tests => exact ⟨s, execSlotStreamEnd_left tests (left tests rfl), refl s⟩
  | cycleFreeze latch =>
    exact ⟨_, rfl, ite ((ite ((refl s).acts (State.openCycle_acts s)).firstFreeze ((refl s).acts (State.openCycle_acts s))).freezeWork _ latch) (refl s)⟩
  | switchTest channel => exact execSwitchTest_safety ..
  | switchTestStep channel hsPct lsPct => exact execSwitchTestStep_safety ..
  | brakeOvercurrent channel => exact ⟨_, rfl, ite ((refl s).brakeFault channel 3) (refl s)⟩
  | brakeDegradedExpiry channel => exact ⟨_, rfl, ite ((((refl s).setBrake channel _).applyBrake channel).acts (State.raise_acts ..)) (refl s)⟩
  | brakeTestPhaseEnd => exact execBrakeTestPhaseEnd_safety s
  | brakeTestMotion counts => exact execBrakeTestMotion_safety ..
  | brakeTestDue channel => exact ⟨_, rfl, ite ((((refl s).setBrake channel _).acts (State.setFlag_acts ..)).acts (State.raise_acts ..)) (refl s)⟩
  | safeInputChange pair contactB closed stamp => exact execSafeInputChange_safety ..
  | discrepancyExpiry pair => exact execDiscrepancyExpiry_safety ..
  | testPulse output faulty => exact execTestPulse_safety ..
  | safeFrame lanB bytes stamp => exact execSafeFrame_safety ..
  | dualWaitExpiry conn => exact execDualWaitExpiry_safety ..
  | safeConnectionTimeout conn => exact execSafeConnectionTimeout_safety ..
  | sDieFault => exact ⟨_, rfl, ((refl s).ownFault true).globalSafe 9⟩
  | extest => exact ⟨_, rfl, ite ((refl s).globalSafe 10) (refl s)⟩
  | stepDeadline stepNo => exact execStepDeadline_safety ..
  | arbitration => exact ⟨_, rfl, ite ((((refl s).acts (State.reach_acts ..)).arbitrationWork).acts (State.stepDone_acts ..)) (refl s)⟩
  | pour katPass => exact ⟨_, rfl, ite ((((refl s).acts (State.reach_acts ..)).pourWork katPass).dev _) (refl s)⟩
  | _ => exact absurd (touches.symm.trans reset) (by decide)

/-- R309: the parameters of the safety die come only from an image. -/
theorem of_exec (reset : isReset c = false) (left : ∀ r, c = .slotStreamEnd r → s.dev.st ≠ .boot) (ran : exec c s = .next t) : SafetyKept s t := by
  cases touches : touchesSaf c with
  | true =>
    obtain ⟨u, hu, kept⟩ := exec_safety_of_touchesSaf reset left touches
    cases ran.symm.trans hu
    exact kept
  | false =>
    obtain ⟨m, acts, hm⟩ := acts_of_exec ran
    simp only [confines, touches, Bool.false_or, Bool.and_eq_true, Bool.not_eq_true'] at hm
    obtain ⟨-, saf⟩ := hm
    exact (SafetyKept.refl s).acts acts saf

end SafetyKept

end

end Sys2Proof.Machine

/-! Writes to the registers of the block SAF (R4, R309), and the obligation on the configuration of the safety die. -/
namespace Sys2Proof.Machine
set_option Elab.async false

section
variable {s t : State} {m a i j : Nat} {v w : Word} {r : RegRow} {locked : Bool}

/-! Where a row of the register table stands. -/

/-- The addresses from the base of a row on that hold its registers, where its greatest stride is not 0. -/
def RegRow.span (r : RegRow) : Nat := match strideOrder r.dims with
  | [] => 1
  | (st, n) :: _ => st * n

/-- The row has no stride of 0. -/
def RegRow.strided (r : RegRow) : Bool := (strideOrder r.dims).all fun d => 0 < d.1

theorem RegRow.holds_span (strided : r.strided = true) (holds : r.holds a = true) : r.base ≤ a ∧ a < r.base + r.span := by
  obtain ⟨above, rest⟩ : r.base ≤ a ∧ arrayRest (strideOrder r.dims) (a - r.base) = some 0 := by simpa [RegRow.holds] using holds
  refine ⟨above, ?_⟩
  unfold RegRow.span
  unfold RegRow.strided at strided
  cases dims : strideOrder r.dims with
  | nil =>
    have zero : a - r.base = 0 := by simpa [dims, arrayRest] using rest
    dsimp only
    omega
  | cons d ds =>
    have positive : 0 < d.1 := by
      rw [dims] at strided
      exact of_decide_eq_true (List.all_eq_true.mp strided d (List.mem_cons_self ..))
    have below : (a - r.base) / d.1 < d.2 := by
      by_contra high
      rw [dims, arrayRest, if_neg high] at rest
      simp at rest
    have inside : a - r.base < d.1 * d.2 := by rw [Nat.mul_comm]; exact (Nat.div_lt_iff_lt_mul positive).mp below
    dsimp only
    omega

/-! The rows of the block SAF. -/

/-- A row that no write changes. -/
def RegRow.readOnly (r : RegRow) : Bool := r.fields.all fun f => f.2.2 == .ro || f.2.2 == .rc

/-- R4: of the rows that stand in the block SAF only SAF_EVENT can be written. -/
theorem rows_saf : regRows.all (fun r => r.strided && (r.base + r.span ≤ 0x90000 || 0xA0000 ≤ r.base || r.readOnly || (r.base == A_SAF_EVENT && r.span == 1))) = true := by
  decide +kernel

theorem regAt_saf_readOnly (low : 0x90000 ≤ a) (high : a < 0xA0000) (other : a ≠ A_SAF_EVENT) (row : regAt a = some r) : r.readOnly = true := by
  obtain ⟨strided, place⟩ := Bool.and_eq_true_iff.mp (List.all_eq_true.mp rows_saf r (List.mem_of_find?_eq_some row))
  have holds : r.holds a = true := by
    unfold regAt at row
    have found := List.find?_some row
    exact found
  obtain ⟨above, below⟩ := RegRow.holds_span strided holds
  simp only [Bool.or_eq_true, decide_eq_true_eq, Bool.and_eq_true, beq_iff_eq] at place
  rcases place with ((before | after) | read) | ⟨base, span⟩
  · omega
  · omega
  · exact read
  · exact absurd (show a = A_SAF_EVENT by omega) other

theorem RegRow.isRwl_of_readOnly (read : r.readOnly = true) : r.isRwl = false := by
  rw [RegRow.isRwl, Bool.eq_false_iff]
  intro rwl
  obtain ⟨f, member, locks⟩ := List.any_eq_true.mp rwl
  have kept := List.all_eq_true.mp read f member
  rw [beq_iff_eq.mp locks] at kept
  exact absurd kept (by decide)

theorem writeField_readOnly {f : Nat × Nat × Acc} (read : f.2.2 = .ro ∨ f.2.2 = .rc) : writeField locked v w f = w := by
  unfold writeField
  rcases read with ro | rc
  · rw [ro]
  · rw [rc]

theorem foldl_writeField_readOnly {l : List (Nat × Nat × Acc)} (read : ∀ f ∈ l, f.2.2 = .ro ∨ f.2.2 = .rc) :
    l.foldl (fun w f => writeField locked v w f) w = w := by
  induction l with
  | nil => rfl
  | cons f l ih =>
    rw [List.foldl_cons, writeField_readOnly (read f (List.mem_cons_self ..))]
    exact ih fun g hg => read g (List.mem_cons_of_mem _ hg)

theorem roCompare_saf (low : 0x90000 ≤ a) : roCompare a = false := by
  have last : A_TSU_CMP_CFG 10 < 0x90000 := by decide
  simp only [roCompare, Bool.and_eq_false_iff, decide_eq_false_iff_not]
  exact .inr (by omega)

/-- R4: a write to a register of read-only fields, or to no register, leaves the word that stands there. -/
theorem State.typedWrite_reg_saf (sound : s.Sound) (low : 0x90000 ≤ a) (high : a < 0xA0000) (other : a ≠ A_SAF_EVENT) : (s.typedWrite a v).reg a = s.reg a := by
  cases row : regAt a with
  | none =>
    rw [State.typedWrite, row]
  | some r =>
    have read : ∀ f ∈ r.fields, f.2.2 = .ro ∨ f.2.2 = .rc := fun f hf => by
      simpa using List.all_eq_true.mp (regAt_saf_readOnly low high other row) f hf
    rw [State.typedWrite_row row (roCompare_saf low), reg_setReg sound, if_pos rfl, foldl_writeField_readOnly read]

/-! A write to the block SAF. -/

theorem indexIn_outside {base st n : Nat} (out : a < base ∨ base + st * n ≤ a) : indexIn base st n a = none := by
  rcases out with below | above
  · rw [indexIn, if_neg]
    simp only [inArray, Bool.and_eq_true, decide_eq_true_eq]
    omega
  · exact indexIn_high above

/-- The registers whose rule goes beyond their fields' access types stand outside the block SAF. -/
theorem State.ruledWrite_saf (low : 0x90000 ≤ a) (high : a < 0xA0000) : s.ruledWrite m a v = none := by
  have apart (b : Nat) (out : b < 0x90000 ∨ 0xA0000 ≤ b) : a ≠ b := by omega
  rw [State.ruledWrite, if_neg (apart _ (by decide)), if_neg (apart _ (by decide)), if_neg (apart _ (by decide)), if_neg (apart _ (by decide)),
    if_neg (apart _ (by decide)), if_neg (apart _ (by decide)), if_neg (apart _ (by decide)), if_neg (apart _ (by decide)), if_neg (apart _ (by decide)),
    if_neg (apart _ (by decide)), State.arrayWrite]
  have none' (base st n : Nat) (out : base + st * n ≤ 0x90000 ∨ 0xA0000 ≤ base) : indexIn base st n a = none := indexIn_outside (by omega)
  rw [none' _ _ _ (by decide), none' _ _ _ (by decide), none' _ _ _ (by decide), none' _ _ _ (by decide), none' _ _ _ (by decide), none' _ _ _ (by decide)]

theorem State.writeAt_saf (low : 0x90000 ≤ a) (high : a < 0xA0000) (plain : ((regAt a).map RegRow.isRwl).getD false = false) :
    s.writeAt m a v = ((s.typedWrite a v).settleSources.updateTimers, accOk, 0#32) := by
  have window : 0xA0000 ≤ stiBase := by decide
  have memory : 0xA0000 ≤ appmBase := by decide
  have takes : ¬((decide (stiBase ≤ a) && decide (a < stiBase + 65536)) || (s.locked && ((regAt a).map RegRow.isRwl).getD false)) = true := by
    rw [plain]
    simp
    omega
  rw [State.writeAt, if_neg takes, if_neg (by omega), State.ruledWrite_saf low high]

theorem State.settled_reg_saf (sound : s.Sound) (low : 0x90000 ≤ a) (high : a < 0xA0000) :
    (s.typedWrite a v).settleSources.updateTimers.reg a = (s.typedWrite a v).reg a := by
  have first : A_INTC_SRC_CFG 384 ≤ 0x90000 ∨ 0xA0000 ≤ A_INTC_SRC_CFG 0 := by decide
  rw [State.updateTimers_reg, State.settleSources_reg ((State.typedWrite_acts ..).sound sound) (by omega)]

/-- R309: what a write of `v` to the block SAF leaves, where its register then holds `w`. -/
structure SafWritten (s t : State) (m a : Nat) (v w : Word) : Prop where
  reg : t.reg a = w
  sends : s.Sends t [⟨.access m, .write, [a, 0, v.toNat]⟩]
  saf : t.saf = s.saf
  frame : Frame [.intc, .apps, .regs, .out] s t

theorem exec_registerWrite_saf (sound : s.Sound) (access : s.MayAccess m a true) (low : 0x90000 ≤ a) (high : a < 0xA0000)
    (plain : ((regAt a).map RegRow.isRwl).getD false = false) (word : (s.typedWrite a v).reg a = w) :
    ∃ t, exec (.registerWrite m a v) s = .next t ∧ SafWritten s t m a v w := by
  have run := exec_registerWrite_allowed access v
  rw [State.writeAt_saf low high plain] at run
  have acts := State.typedWrite_settled_acts s a v
  have reg := (State.settled_reg_saf (v := v) sound low high).trans word
  generalize (s.typedWrite a v).settleSources.updateTimers = u at *
  have frame : Frame [.intc, .apps, .regs, .out] s (u.complete m true a accOk v) := acts.reaches.trans (State.complete_acts ..).reaches
  exact ⟨_, run, reg, State.Sends.complete (acts.frame .out rfl) m true a accOk v, frame .saf (by simp), frame⟩

theorem exec_registerWrite_saf_readOnly (sound : s.Sound) (low : 0x90000 ≤ a) (high : a < 0xA0000) (other : a ≠ A_SAF_EVENT) (access : s.MayAccess m a true) :
    ∃ t, exec (.registerWrite m a v) s = .next t ∧ SafWritten s t m a v (s.reg a) := by
  have plain : ((regAt a).map RegRow.isRwl).getD false = false := by
    cases row : regAt a with
    | none => rfl
    | some r => exact RegRow.isRwl_of_readOnly (regAt_saf_readOnly low high other row)
  exact exec_registerWrite_saf sound access low high plain (State.typedWrite_reg_saf sound low high other)

/-! SAF_EVENT (R4). -/

theorem getLsbD_eq_fieldOf (w : Word) (j : Nat) : w.getLsbD j = decide (fieldOf w ⟨0, j, j⟩ = 1) := by
  rw [fieldOf, BitVec.getLsbD, Nat.testBit_eq_decide_div_mod_eq, Nat.add_sub_cancel_left, Nat.pow_one]

/-- Writing 1 clears a single bit, and no other. -/
theorem getLsbD_writeField_w1c (hi : i < 32) :
    (writeField locked v w (i, i, .w1c)).getLsbD j = (w.getLsbD j && !(decide (j = i) && v.getLsbD i)) := by
  have fits : (⟨0, i, i⟩ : Fld).fits = true := by simpa [Fld.fits] using hi
  rw [getLsbD_eq_fieldOf, getLsbD_eq_fieldOf w, getLsbD_eq_fieldOf v, writeField]
  dsimp only
  rcases Nat.lt_trichotomy j i with below | rfl | above
  · rw [fieldOf_fieldIn_below w _ ⟨0, j, j⟩ _ fits (le_refl j) below]
    simp [below.ne]
  · rw [fieldOf_fieldIn w _ _ fits]
    have bit (x : Word) : fieldOf x ⟨0, j, j⟩ = 0 ∨ fieldOf x ⟨0, j, j⟩ = 1 := by
      rw [fieldOf, Nat.add_sub_cancel_left, Nat.pow_one]
      exact Nat.mod_two_eq_zero_or_one _
    simp only [fieldMax, Nat.add_sub_cancel_left, Nat.pow_one]
    rcases bit w with hw | hw <;> rcases bit v with hv | hv <;> rw [hw, hv] <;> rfl
  · rw [fieldOf_fieldIn_above w _ ⟨0, j, j⟩ _ fits above]
    simp [above.ne']

theorem regAt_safEvent : regAt A_SAF_EVENT = some ⟨A_SAF_EVENT, [], [(6, 6, .w1c), (5, 5, .w1c), (4, 4, .w1c), (3, 3, .w1c), (2, 2, .w1c), (1, 1, .w1c),
    (0, 0, .w1c)]⟩ := by
  decide +kernel

theorem getLsbD_eventMask : ∀ j < 32, (0x7F#32).getLsbD j =
    (decide (j = 6) || decide (j = 5) || decide (j = 4) || decide (j = 3) || decide (j = 2) || decide (j = 1) || decide (j = 0)) := by
  decide

theorem State.typedWrite_safEvent (sound : s.Sound) : (s.typedWrite A_SAF_EVENT v).reg A_SAF_EVENT = s.reg A_SAF_EVENT &&& ~~~(v &&& 0x7F#32) := by
  rw [State.typedWrite_row regAt_safEvent (roCompare_saf (by decide)), reg_setReg sound, if_pos rfl]
  generalize s.reg A_SAF_EVENT = w
  refine BitVec.eq_of_getLsbD_eq fun j hj => ?_
  simp only [List.foldl_cons, List.foldl_nil, getLsbD_writeField_w1c (show 6 < 32 by decide), getLsbD_writeField_w1c (show 5 < 32 by decide),
    getLsbD_writeField_w1c (show 4 < 32 by decide), getLsbD_writeField_w1c (show 3 < 32 by decide), getLsbD_writeField_w1c (show 2 < 32 by decide),
    getLsbD_writeField_w1c (show 1 < 32 by decide), getLsbD_writeField_w1c (show 0 < 32 by decide), BitVec.getLsbD_and, BitVec.getLsbD_not, hj,
    getLsbD_eventMask j hj]
  interval_cases j <;> simp

theorem exec_registerWrite_safEvent (sound : s.Sound) (access : s.MayAccess m A_SAF_EVENT true) :
    ∃ t, exec (.registerWrite m A_SAF_EVENT v) s = .next t ∧ SafWritten s t m A_SAF_EVENT v (s.reg A_SAF_EVENT &&& ~~~(v &&& 0x7F#32)) :=
  exec_registerWrite_saf sound access (by decide) (by decide) (by rw [regAt_safEvent]; rfl) (State.typedWrite_safEvent sound)

end

/-- Settles O57: each command that reaches the safety die keeps its parameters (`SafetyKept.of_exec`), and of the rows of the block SAF only SAF_EVENT has fields
that a write changes (`rows_saf`). -/
theorem theSafetyConfigurationComesOnlyFromTheImage : Obligations.TheSafetyConfigurationComesOnlyFromTheImage := by
  unfold Obligations.TheSafetyConfigurationComesOnlyFromTheImage
  refine ⟨fun c s t reset left ran => SafetyKept.of_exec reset left ran, fun m a v s sound low high other access => ?_, fun m v s sound access => ?_⟩
  · obtain ⟨t, run, w⟩ := exec_registerWrite_saf_readOnly (v := v) sound low high other access
    exact ⟨t, run, w.reg, w.sends, w.saf, w.frame⟩
  · obtain ⟨t, run, w⟩ := exec_registerWrite_safEvent (v := v) sound access
    exact ⟨t, run, w.reg, w.saf, w.frame⟩

end Sys2Proof.Machine
